-- ==== Sys2Proof/Word.lean ====
section
/-! DEFINITION. The register word, the byte, the sparse table and the register field: the plain data the model is built of. -/

namespace Sys2Proof

/-- A register, a table word or a bus word of the XH6128: 32 bits (R3). -/
abbrev Word := BitVec 32

/-- A byte of an addressed memory (R3: little-endian, byte-addressed). -/
abbrev Byte := BitVec 8

/-- A sparse table: the entries that differ from the table's default, by rising key.
`Machine.tabGet` reads it and `Machine.tabSet` keeps it canonical. -/
abbrev Tab (α : Type) := List (Nat × α)

/-- A field of a register, NAME[lo + width - 1 : lo] of the register at host window offset `addr`. -/
structure Fld where
  addr : Nat
  lo : Nat
  width : Nat
  deriving DecidableEq, Repr

end Sys2Proof
end

