-- ==== Sys2Proof/Syntax.lean ====
section
/-! DEFINITION. The commands of the XH6128: one constructor for each row of the table of operations and events. Contexts are
numbered 0 QSPI, 1-8 ring, 9 XH3032 SPI; targets 0 SC0, 1 SC1, 2 SFC, 3 HOST; ports 0 E, 1 W. -/

namespace Sys2Proof

/-- A command, event or operation that changes the state of the block. -/
inductive Instr where
  /-- All supplies rise above their thresholds with RESET_N high; power good begins and Dawn starts at D0. (R374) -/
  | powerGood (strap : Bool)
  /-- A supply stays below its falling threshold for 2 µs; within 5 µs all sinks go off, banks open, BST_GATE, STO and TP go low, and ASPECT_READY and FAULT_N go low. (R374) -/
  | powerGoodEnd
  /-- A low of at least 1 µs on RESET_N ends power good; the Nightwatch domain keeps its state. (R381) -/
  | resetNLow
  /-- VIO falls below 2.0 V and resets the Nightwatch domain, clearing Midnight, the scanned mark and STO FAULT or LOCKED. (R461) -/
  | powerCycle
  /-- A filtered fall of PFW_N raises source 35, sets fault group 21, starts lifetime persistence and refuses configuration, BIST and capture commands. (R382) -/
  | pfwNFall
  /-- PFW_N rises again before power good ends; PFW_CLEARED is logged. (R382) -/
  | pfwCleared
  /-- PFW_N has been high for 1 s; fault group 21 clears and refused commands are accepted again. (R382) -/
  | pfwHigh1s
  /-- No XTAL25 is seen within 10 ms in D0; the grid starts on the internal oscillator. (R375) -/
  | xtal25StartTimeout
  /-- The grid starts, DEV_GRID_TICK and the time base start at 0, and D1 begins. (R375) -/
  | dawnD0End
  /-- ROM boot, OTP read, trim load, seal latch, link test and memory training complete; the host window answers VALID 1. (R375) -/
  | dawnD1End (ok : Bool) (bad : BitVec 32)
  /-- A firmware slot is verified and loaded, SC1 and SFC start, and SFC starts the safety process at the safety epoch. (R375) -/
  | dawnD2End
  /-- The configuration slot is loaded and activated, signatures and the lifetime record are restored, and ring ports start. (R375) -/
  | dawnD3End
  /-- Pair rounds are complete, soft-start has succeeded or ended, and 375 ticks have passed since the last bank close; D5 and the first rule period begin. (R375) -/
  | dawnD4End
  /-- 100 ms after the start of D5, Dawn completes at the next RULE commit and DAWN_LATE is logged. (R379) -/
  | dawnLate
  /-- No XTAL25 edge for 320 ns; the grid switches to the internal oscillator, time becomes UNTRUSTED and FAULT_N goes low. (R35) -/
  | gridLost
  /-- VCORE falls below 0.68 V in Run, or recovers; VCORE_LOW and fault group 20 follow. (R30) -/
  | vcoreLow (low : Bool)
  /-- At a class deadline tick the monitor loads a ready result or holds the previous value and counts a miss. (R39) -/
  | commitDeadline (k : Fin 8) (n : BitVec 8) (ready : Bool)
  /-- After 250 consecutive on-time slot-0 results the drive die resumes closed-loop duty with a reseeded integrator. (R42) -/
  | dlmHoldResume
  /-- A result that missed its deadline becomes ready and is discarded; the next computation starts. (R40) -/
  | lateResult (k : Fin 8) (n : BitVec 8)
  /-- A die-to-die transfer is received and checked for parity and sequence; a bad one is discarded and retransmission requested. The words are the header, the data beats and the check beat as received. (R9, R12) -/
  | linkTransfer (toCore : Bool) (head : BitVec 32) (data : List (BitVec 32)) (check : BitVec 32)
  /-- A die receives no transfer for 50 µs; the link is lost and the drive die enters Midnight. (R14) -/
  | linkSilenceTimeout
  /-- A heartbeat transfer is sent every 10 µs when no other traffic flows. (R14) -/
  | linkHeartbeat (toCore : Bool)
  /-- At tick 0 the observation store is snapshot, staleness is judged, and rule and SFC evaluations start. (R19) -/
  | rulePeriodStart
  /-- The rule engine finishes walking all 2,048 entries and hands its demands to the resolver. (R185) -/
  | ruleEvalComplete
  /-- At tick 5,000 the resolver latches supervision states and host requests and decides demand, state and presentation of every aspect. (R55) -/
  | resolverStart
  /-- Resolution completes and each aspect state is written into its observation slot. (R173) -/
  | resolverComplete
  /-- At tick 7,500 set-points, bank states, ASPECT_READY, the fallback table and VLAMP_MN are committed. (R21) -/
  | aspectCommit
  /-- After 16 consecutive on-time rule commits RULE_STALL clears. (R43) -/
  | ruleStallClear
  /-- Committed set-points reach the drive die; darkening acts within 2 µs and other changes wait for the next PWM period. (R22) -/
  | setpointArrival
  /-- At tick 7,500 SFC compares its flagged-group results with the committed demand and the proven lamps, or skips if not finished. (R151) -/
  | xchkCheck (finished : Bool)
  /-- At a channel's period start the code, mode, probe stretch and pending set-point take effect. (R101) -/
  | pwmPeriodStart (c : Fin 128)
  /-- An on-phase or off-phase hold captures a channel's quantities for conversion. (R125) -/
  | channelHold (c : Fin 128) (on : Bool) (fail : Bool)
  /-- A conversion ends; its result is delivered and the converter starts the next waiting item in priority order. (R197) -/
  | conversionComplete (k : Fin 16) (raw : BitVec 12)
  /-- A STRAY bank command arrives at the drive die and the bank opens on the next tick unless its role is RESTRICTIVE. (R147) -/
  | bankStrayOpen (n : Fin 8)
  /-- The short-to-rail condition holds for 50 ticks; the sink folds back and is latched off. (R136) -/
  | shortToRailFoldback (c : Fin 128)
  /-- The bank current limit acts for 500 ticks; the switch opens and BANK_OC is logged. (R80) -/
  | bankOc (n : Fin 8)
  /-- 100 ms after an overcurrent opening a non-permissive bank closes again and the retry is counted. (R80) -/
  | bankOcRetry (n : Fin 8)
  /-- 100 µs after an opening command LRAILn is read back; a rail not below 2 V reports BANK_STUCK. (R79) -/
  | bankReadback (n : Fin 8) (low : Bool)
  /-- A bank finishes its 15 µs closing ramp and its samples count again. (R78) -/
  | bankCloseComplete (n : Fin 8)
  /-- Drive-die junction reaches 140 °C; non-restrictive channels switch off and restrictive channels run at 20 mA. (R97) -/
  | thermalShutdown
  /-- The junction falls below 130 °C; channels return to their drive and informational latches clear. (R97) -/
  | thermalShutdownExit
  /-- Every 1 ms SUP computes each channel's need, the VLAMP target and VLAMP_MN. (R85) -/
  | needComputation
  /-- Every 1 ms the governor factors are evaluated and F is applied from the next PWM period. (R94) -/
  | governorUpdate
  /-- The peak-current comparator trips after blanking and BST_GATE goes low for the rest of the cycle. (R89) -/
  | peakCurrentTrip
  /-- VLAMP exceeds the clamp level; BST_GATE is held low and the onset counted. (R91) -/
  | ovClampOnset
  /-- VLAMP falls below VMAX + 2.0 V and the clamp releases. (R91) -/
  | ovClampRelease
  /-- VLAMP stays low or the peak limit acts every cycle for 2 ms; the boost enters a 100 ms hiccup. (R90) -/
  | boostShort
  /-- The 100 ms hiccup ends and the boost restarts with soft-start. (R90) -/
  | hiccupRestart
  /-- VLAMP and 25 × BST_VFB differ by more than 1.5 V for 1 ms; the boost enters pass-through until the next Dawn. (R92) -/
  | boostFbFault
  /-- 5 ms after the ramp ends VLAMP is judged; soft-start succeeds or fails. (R88) -/
  | softstartCheck
  /-- At tick 0 of its period a loop slot latches its inputs, steps its ramp and applies a pending swap. (R214) -/
  | loopPeriodStart (n : Fin 32)
  /-- A loop slot's computation completes and its output is ready for the commit register. (R218) -/
  | loopResultReady (n : Fin 32)
  /-- A 1 written to a LOOP_SWAP bit requests a coefficient swap at the slot's next period. (R222) -/
  | loopSwapWrite (w : BitVec 32)
  /-- A slot moves to a spare state record at its next period boundary; a third failure loses the slot. (R224) -/
  | loopSlotMigrate (n : Fin 32) (fail : Bool)
  /-- Every 1 ms the ambient level A is recomputed from its source. (R110) -/
  | ambientUpdate (duty : BitVec 16)
  /-- The PWM brightness input has been invalid for 20 ms; the target falls back to Noon or Night. (R113) -/
  | brightInLost
  /-- The PWM input has been valid for 100 ms and BIN_LOST clears. (R113) -/
  | brightInValid
  /-- Every 100 ms the NTC_LB temperature is computed and checked for range. (R117) -/
  | ntcUpdate
  /-- The NTC reading has been in range for 1 s and the substitute is dropped. (R117) -/
  | ntcRecovered
  /-- A synchronised pattern engine reaches its aligned start time and begins a cycle. (R119) -/
  | patternCycleStart (p : Fin 8)
  /-- The lamp temperature has stayed at or below OVH − 10 K for 10 s and the OVERHEAT latch clears. (R132) -/
  | overheatAutoClear (c : Fin 128)
  /-- A write clears the selected fault latches and restarts proof of the channel. (R132) -/
  | supFltClr (w : BitVec 32)
  /-- SUP_SIG_CMD.FORGET forgets a channel's signature. (R142) -/
  | sigForget (w : BitVec 32)
  /-- MTX_FLT_CLR with STRAY clears an unowned LED's STRAY bit. (R163) -/
  | mtxClearStray (w : BitVec 32)
  /-- MTX_FLT_CLR with DARK clears an unowned LED's DARK bit. (R163) -/
  | mtxClearDark (w : BitVec 32)
  /-- A scan frame starts and MTX_LED codes are read for the frame. (R157) -/
  | scanFrameStart
  /-- A scan slot starts: the previous line opens, pre-charge runs and this slot's line closes. (R158) -/
  | scanSlotStart
  /-- Every 10 µs each sense input is sampled and a level held for the filter time is accepted into its slot. `ago`: per input, the steps of 2 ns since its raw edge. (R172, R256) -/
  | senseSample (levels : BitVec 32) (ago : List (BitVec 16))
  /-- A write to ASP_VARv updates every HOST slot that names it. (R177) -/
  | aspVarWrite (v : Fin 32) (x : BitVec 32)
  /-- A write to ASP_REQn sets the host request latched at the next tick 5,000. (R59) -/
  | aspReqWrite (n : Fin 96) (x : BitVec 32)
  /-- Every 1 ms the time base writes all TIME slots. (R179) -/
  | timeSlotUpdate
  /-- A time window opens or closes and the TIME slots are written on that tick. (R178) -/
  | activationWindowEdge
  /-- A read of OBS_DATA0 latches the selected entry and may advance the index. (R190) -/
  | obsDataRead (c : Fin 9)
  /-- A read of RULE_DATA0 latches the selected rule entry and may advance the index. (R190) -/
  | ruleDataRead (c : Fin 9)
  /-- A read of RING_LD_DATA0 latches the selected launch descriptor. (R190) -/
  | ringLdDataRead (c : Fin 9)
  /-- A read of BIST_DATA0 latches the selected block's results. (R190) -/
  | bistDataRead (c : Fin 9)
  /-- A read of TIME_NS latches the time base and quality byte. (R278) -/
  | timeNsRead (c : Fin 9)
  /-- A read of LOOP_STn returns its state and clears SWAPPED. (R222) -/
  | loopStRead (n : Fin 32)
  /-- A read of ICU_NWSTAT returns the wake source and clears WOKE. (R357) -/
  | icuNwstatRead
  /-- A GRID trigger falls due and starts or latches a sequencer pass. (R201) -/
  | adcGridTrigger (k : Fin 16)
  /-- An ADC_TRIG edge is accepted, stamped and triggers the configured sequencers. `ago`: the steps of 2 ns since the raw edge. (R201, R256) -/
  | adcTrigEdge (rise : Bool) (ago : BitVec 16)
  /-- A 1 in ADC_SWTRIG.REG triggers a regular sequence. (R201) -/
  | adcSoftTriggerReg (m : BitVec 16)
  /-- A 1 in ADC_SWTRIG.INJ triggers an injected sequence. (R201) -/
  | adcSoftTriggerInj (m : BitVec 16)
  /-- A write sets reference buffer enable bits; each buffer becomes ready 250 µs later. (R195) -/
  | adcRefctlWrite (w : BitVec 32)
  /-- 250 µs after enable a reference buffer is ready and the pair's results stop being NOT_READY. (R195) -/
  | refbufReady (p : Fin 8)
  /-- At a pair's frame tick both converters hold CHK and convert their housekeeping points. (R205) -/
  | housekeepingRound (p : Fin 8)
  /-- A pair's completed round is evaluated for CHK disagreement and bandgap drift. (R206) -/
  | pairRoundEval (p : Fin 8)
  /-- Command 0x41 asks named converters to reload their trim, or completes DEFERRED or REFUSED. (R196) -/
  | trimReload
  /-- Once the running injected work ends, the converter pauses and starts reloading its trim. (R196) -/
  | trimReloadStart (k : Fin 16)
  /-- After 40 µs the reference check is judged, paused work resumes and the command completes. (R196) -/
  | trimReloadDone (k : Fin 16) (bg : BitVec 12)
  /-- A frame received on a ring port is classified and forwarded, dropped or delivered locally. (R230) -/
  | ringFrameReceive (p : Fin 2) (frame : List (BitVec 8)) (codeErr : Bool) (sub : Fin 40)
  /-- At a frame boundary an egress chooses its next frame from its queues. (R237) -/
  | egressTxComplete (p : Fin 2)
  /-- A port loses block lock, sync or its module; SF is declared within 50 µs and the route epoch increments. (R228) -/
  | signalFailOnset (p : Fin 2) (link : Bool)
  /-- A port has had no SF condition for 10 ms; SF clears and the route epoch increments. (R228) -/
  | signalFailClear (p : Fin 2)
  /-- Once per second SC1 reads each module's identity, compliance and receive power. (R229) -/
  | sfpModulePoll (p : Fin 2) (ack : Bool) (ok : Bool) (power : Option (BitVec 16))
  /-- Without configuration a port without link changes rate every 500 ms. (R227) -/
  | ringRateAlternate (p : Fin 2)
  /-- An R-APS message is copied to SC1, forwarded, and acted on by the G.8032 process. (R245) -/
  | rapsReceive (p : Fin 2) (req : BitVec 4) (sub : BitVec 4) (rb : Bool) (dnf : Bool) (bpr : Bool) (node : BitVec 48)
  /-- An R-APS message is sent at its 3.3 ms or 5 s interval. (R245) -/
  | rapsTransmit
  /-- The G.8032 hold-off timer expires after an SF onset. (R245) -/
  | holdoffExpiry (p : Fin 2)
  /-- The G.8032 guard timer expires. (R245) -/
  | guardExpiry
  /-- 2,500 ticks before a gate the template is copied into the launch queue with SEQ and FILL values. (R240) -/
  | launchTemplateCopy (d : Fin 128)
  /-- The guard before a launch window begins and cut-through is suspended. (R241) -/
  | launchGuardStart (d : Fin 128)
  /-- A launch-gate comparator fires and the launch frame is sent. (R274) -/
  | launchGateOpen (d : Fin 128)
  /-- A launch window ends and transit resumes on the egress. (R241) -/
  | launchWindowClose (d : Fin 128)
  /-- 16 records wait or 10 ms has passed, and an EVENT frame is sent. (R250) -/
  | eventFrameSend
  /-- A CYHAR_CMD frame is accepted, repeated or discarded according to its context and SEQ. (R326) -/
  | cyharCmdFrame (p : Fin 2) (mac : BitVec 48) (seq : BitVec 32) (body : List (BitVec 8))
  /-- A reply has waited 100 ms for a blocked or failed port and is dropped. (R327) -/
  | cyharReplyDrop (p : Fin 2)
  /-- A ring context idle for 60 s is dropped with its elevation. (R325) -/
  | ringContextIdleDrop (c : Fin 8)
  /-- An Announce of the configured domain feeds the best-master selection. (R262) -/
  | announceReceive (p : Fin 2) (domain : BitVec 8) (src : BitVec 80) (prio1 : BitVec 8) (cls : BitVec 8) (acc : BitVec 8) (var : BitVec 16) (prio2 : BitVec 8) (gm : BitVec 64) (steps : BitVec 16) (utc : Option (BitVec 16)) (interval : BitVec 8)
  /-- A Sync yields an offset for the servo and may complete the conditions for a step. (R264) -/
  | syncReceive (p : Fin 2) (domain : BitVec 8) (src : BitVec 80) (origin : BitVec 80) (corr : BitVec 64) (sub : Fin 40)
  /-- A port not in SF sends Pdelay_Req at its interval. (R261) -/
  | pdelayReqSend (p : Fin 2)
  /-- A received Pdelay_Req is answered one-step or two-step. `corr`: its correctionField, which the answer takes over. (R261, R252) -/
  | pdelayReqReceive (p : Fin 2) (src : BitVec 80) (id : BitVec 16) (corr : BitVec 64) (sub : Fin 40)
  /-- A peer-delay response completes an exchange and updates meanLinkDelay. (R261) -/
  | pdelayRespReceive (p : Fin 2) (id : BitVec 16) (t2 : BitVec 80) (t3 : BitVec 80) (corr : BitVec 64) (sub : Fin 40)
  /-- An exchange not completed within 100 ms is invalid and counted. (R261) -/
  | pdelayTimeout (p : Fin 2)
  /-- A two-step correction entry unused for 1 s is dropped. (R260) -/
  | tcEntryExpiry
  /-- The time base is stepped on the tick after SC1 writes the step; dependants are re-armed. (R263) -/
  | timeStep
  /-- Three Announce intervals pass without the master's Announce and the master is lost. (R262) -/
  | masterLost
  /-- Offsets have been beyond, or back within, TRUST for 10 s and the state changes. (R267) -/
  | trustTimerExpiry
  /-- The 2 s re-route hold ends and route asymmetry is booked or treated as clock error. (R269) -/
  | routeHoldEnd
  /-- Command 0x70 arms one step, or completes REFUSED. (R268) -/
  | timeRearmStep
  /-- An armed step not taken within 60 s lapses and is logged. (R268) -/
  | rearmLapse
  /-- A local or UTC offset becomes effective and moves local time. (R277) -/
  | localOffsetChange
  /-- PPS_OUT rises on the first tick at or after each whole second. (R275) -/
  | ppsOutEdge
  /-- A PPS_IN edge is stamped and its deviation checked. (R276) -/
  | ppsInEdge (rise : Bool) (sub : Fin 40)
  /-- SFC latches channel, test and seal states, computes pair and output states and sends ON or OFF words. (R280) -/
  | safetyCycle
  /-- An ON or OFF word reaches the drive die and switches the output accordingly. (R281) -/
  | stoRefreshWord (o : Fin 8) (flip : BitVec 8)
  /-- 5 ms without an accepted ON word switches the output off and logs STO_REFRESH. (R281) -/
  | stoRefreshTimeout (o : Fin 8)
  /-- A TP line falls for its 400 µs test window. (R283) -/
  | tpWindowStart (n : Fin 4)
  /-- A TP line rises at the end of its window. (R283) -/
  | tpWindowEnd (n : Fin 4)
  /-- 1,500 ticks after a fall or rise the line is read back and judged. (R283) -/
  | tpReadback (n : Fin 4) (rise : Bool) (below5 : Bool) (above15 : Bool)
  /-- A line reads low outside its window for 1 ms, a failed test. (R283) -/
  | tpLowTimeout (n : Fin 4)
  /-- Every 10 µs each safety input is sampled and new levels are recognised. `ago`: per input, the steps of 2 ns since its raw edge. (R284, R256) -/
  | sinSample (levels : BitVec 16) (srst : Bool) (ago : List (BitVec 16))
  /-- At W + 15,000 channels are judged against own and foreign window patterns. (R284) -/
  | sinWindowJudge (n : Fin 4)
  /-- Every 100 µs the pair's channel states are compared and the disagreement count updated. (R286) -/
  | discrepancySample
  /-- A seal matrix row is read at the end of its 1 ms drive. (R291) -/
  | sealRowRead (r : Fin 4) (bits : BitVec 4)
  /-- An output in RUN begins its scheduled off-pulse. (R295) -/
  | stoOffPulseStart (o : Fin 8)
  /-- The off-pulse ends and the high side turns on. (R295) -/
  | stoOffPulseEnd (o : Fin 8)
  /-- Outputs are read back 1,500 ticks after a pulse edge and the test judged. (R295) -/
  | stoPulseReadback (o : Fin 8) (second : Bool) (below5 : BitVec 8) (above15 : BitVec 8)
  /-- 10 ms after a failed pulse the pulse is repeated. (R295) -/
  | stoPulseRepeat (o : Fin 8)
  /-- Continuous read-back disagrees with the command for 1 ms and confirms STUCK_HIGH or STUCK_LOW. (R296) -/
  | stoReadbackTimeout (o : Fin 8) (high : Bool)
  /-- SRST_N has been low for more than 5 s; it is logged and ignored until released. (R299) -/
  | srstStuck
  /-- A single-lane write transaction writes words into the host window. (R307) -/
  | qspiWriteS (addr : BitVec 24) (ws : List (BitVec 32)) (part : Bool)
  /-- A single-lane read returns the status byte and data words. (R310) -/
  | qspiReadS (addr : BitVec 24) (n : Nat)
  /-- The STATUS instruction returns the status byte and clears ACCESS_ERR. (R307) -/
  | qspiStatus
  /-- A quad write transaction writes words into the host window. (R307) -/
  | qspiWriteQ (addr : BitVec 24) (ws : List (BitVec 32)) (part : Bool)
  /-- A quad read returns the status byte and data words. (R310) -/
  | qspiReadQ (addr : BitVec 24) (n : Nat)
  /-- An unlisted instruction is ignored until CS_N rises and sets ACCESS_ERR. (R307) -/
  | qspiInvalidInstruction
  /-- A memory-window line fetch completes into the context's line buffer. (R493) -/
  | memwinFetchDone (c : Fin 9)
  /-- A buffered line is dropped 100 µs after its fetch. (R493) -/
  | lineBufferAge (c : Fin 9)
  /-- A write selects the memory page and drops the context's buffered lines. (R493) -/
  | devMempageWrite (c : Fin 9) (x : BitVec 32)
  /-- A write to MBX_SQN_TAIL moves the normal queue tail or is refused. (R313) -/
  | sqnDoorbell (c : Fin 9) (x : BitVec 32)
  /-- A write to MBX_SQU_TAIL moves the urgent queue tail or is refused. (R313) -/
  | squDoorbell (c : Fin 9) (x : BitVec 32)
  /-- The host advances MBX_CQ_HEAD and frees completion entries. (R316) -/
  | cqHeadWrite (c : Fin 9) (x : BitVec 32)
  /-- A W1C write clears MBX_STAT error bits. (R5) -/
  | mbxStatClear (c : Fin 9) (x : BitVec 32)
  /-- KEY 0xA5 stops descriptor copying and begins resetting the QSPI context. (R328) -/
  | mbxReset (c : Fin 9) (x : BitVec 32)
  /-- Commands in flight have ended; pointers reset, PHASE set to 1 and elevation dropped. (R328) -/
  | mbxResetDone
  /-- SC0 copies a submitted descriptor and advances the head. (R313) -/
  | descriptorCopy (urgent : Bool)
  /-- At a scheduling point SC0 starts or continues the next command in urgency and round-robin order. (R322) -/
  | commandSchedule
  /-- A completion entry is written when the completion queue has room and MBX_CPL is raised. (R316) -/
  | completionPost
  /-- Opcode 0x01 echoes ARG0. (R318) -/
  | nop
  /-- Opcode 0x10 reads count words of the host window. (R319) -/
  | regRead
  /-- Opcode 0x11 writes count words of the host window one at a time. (R319) -/
  | regWrite
  /-- Opcode 0x20 stages a block of a configuration image. (R364) -/
  | cfgStageBlock
  /-- Opcode 0x21 checks, clamps, stores and schedules activation of the staged image. `good`: what it writes to the flash reads back as written. (R365, R369) -/
  | cfgCommit (good : Bool)
  /-- Opcode 0x22 returns the configuration report. (R372) -/
  | cfgReport
  /-- Opcode 0x30 writes a host request into ASP_REQn. (R58) -/
  | aspectRequest
  /-- Opcode 0x40 starts self-test of the selected blocks. (R397) -/
  | bistRun
  /-- LOG_READ area EVENTS returns event records from a given SEQ. (R427) -/
  | logReadEvents
  /-- LOG_READ area TAIL returns the restored event tail. (R427) -/
  | logReadTail
  /-- LOG_READ area LIFETIME returns bytes of the working record. (R427) -/
  | logReadLifetime
  /-- LOG_READ area SNAPSHOT returns bytes of a daily snapshot. (R427) -/
  | logReadSnapshot
  /-- CAPTURE_ARM triggers the capture ring at once. (R430) -/
  | captureArmNow
  /-- CAPTURE_ARM arms the ring on the next record of a class. (R430) -/
  | captureArmEvent
  /-- CAPTURE_ARM arms the ring on a full-width time target. (R430) -/
  | captureArmTime
  /-- CAPTURE_ARM arms the ring on the next accepted ADC_TRIG edge. (R430) -/
  | captureArmPin
  /-- CAPTURE_ARM with DISARM returns the ring to RECORDING. (R430) -/
  | captureDisarm
  /-- Opcode 0x60 checks a site password and elevates the context. (R335) -/
  | elevate
  /-- Opcode 0x61 ends the context's elevation. (R334) -/
  | drop
  /-- DROP with ALL ends the elevation of every context. (R334) -/
  | dropAll
  /-- CHALLENGE with PURPOSE ELEVATE returns a 32-byte nonce. (R337) -/
  | challengeElevate
  /-- CHALLENGE with PURPOSE DEBUG returns a nonce to an elevated context. (R337) -/
  | challengeDebug
  /-- RESPOND with PURPOSE ELEVATE checks the response under K_ELEV and elevates. (R337) -/
  | respondElevate
  /-- RESPOND with PURPOSE DEBUG checks the response under K_DBG and opens debug access. (R341) -/
  | respondDebug
  /-- An unlisted opcode completes BAD_ARG. (R318) -/
  | invalidOpcode
  /-- A context makes no privileged access for ELEV_TMO minutes and its elevation ends. (R332) -/
  | elevationTimeout (c : Fin 10)
  /-- A nonce is discarded 60 s after its CHALLENGE. (R337) -/
  | nonceExpiry (c : Fin 9)
  /-- An elevation lockout runs out and checks are made again. (R339) -/
  | lockoutEnd
  /-- SEC_PWCMD KEY 0x5A stores the site password record. (R338) -/
  | passwordSet (c : Fin 9)
  /-- SEC_PWCMD KEY 0xC3 removes the site password record. (R338) -/
  | passwordClear (c : Fin 9)
  /-- SEC_ROLLBACK KEY 0x96 raises CTR to the running SVN and revokes older slots. (R345) -/
  | rollbackAdvance (c : Fin 9)
  /-- A write of 0x4C4F434B to SEC_LOCK sets FIELD_LOCK permanently. (R340) -/
  | fieldLockSet (c : Fin 9)
  /-- A test-entry TAP instruction enters Midnight, zeroizes secrets and sets the scanned mark. (R342) -/
  | testEntry
  /-- A rising source signal sets its pending bit and may wake the part from Dusk. (R350) -/
  | icuSourceEdge (t : Fin 4) (n : Fin 256)
  /-- A 1 in ICU_PEND_SETw sets pending bits as an edge. (R350) -/
  | icuPendSet (t : Fin 4) (w : Fin 8) (x : BitVec 32)
  /-- A 1 in ICU_PEND_CLRw clears pending bits and may end a HOST delivery. (R350) -/
  | icuPendClr (t : Fin 4) (w : Fin 8) (x : BitVec 32)
  /-- A 1 in ICU_MASK_SETw masks sources, possibly withdrawing a request. (R351) -/
  | icuMaskSet (t : Fin 4) (w : Fin 8) (x : BitVec 32)
  /-- A 1 in ICU_MASK_CLRw enables sources. (R351) -/
  | icuMaskClr (t : Fin 4) (w : Fin 8) (x : BitVec 32)
  /-- A target takes its interrupt request; the in-service flag is set. (R354) -/
  | icuAcknowledge (t : Fin 4)
  /-- An internal core writes ICU_EOI and its in-service flag clears; `wait`: it then enters its wait state. (R354, R356) -/
  | icuEoi (t : Fin 4) (wait : Bool)
  /-- A target's moderation window runs out and a pending delivery is raised. (R356) -/
  | moderationWindowEnd (t : Fin 4)
  /-- HOST_SLEEP rises and ends the HOST moderation window at once, or falls again. (R356) -/
  | hostSleepRise (rise : Bool)
  /-- At tick 0 of the first rule period after storage, the new configuration replaces the active one and the slot is marked. (R368) -/
  | cfgActivation
  /-- SYS_PWRCTL KEY 0xD5 requests Dusk. (R383) -/
  | duskRequest (c : Fin 9)
  /-- SYS_PWRCTL KEY 0xCA cancels a waiting Dusk request. (R383) -/
  | duskCancel (c : Fin 9)
  /-- At tick 0 of a free rule period the last commit latches the Dusk set and the part sleeps. (R383) -/
  | duskEntry
  /-- SYS_PWRCTL KEY 0x5E starts Dusk exit. (R386) -/
  | duskExitRequest (c : Fin 9)
  /-- A device event or selected source starts Dusk exit within 10 µs. (R385) -/
  | duskWakeEvent (src : Option (BitVec 8))
  /-- VCORE has been at or above 0.68 V for 100 µs; Run timing and blocks resume. (R386) -/
  | duskExitResume
  /-- Nightwatch latches Midnight; the drive die lights the fallback table and holds STO off. (R388) -/
  | midnightEntry (cause : Fin 8)
  /-- The daily comparator fires and the Morning check begins, or waits. (R391) -/
  | morningCheckFire
  /-- A bank's probe and switch test begin at their 10 ms slot. (R392) -/
  | morningBankStart
  /-- A deferred check has waited 10 minutes and is skipped. (R394) -/
  | morningCheckSkip
  /-- The controller checks preconditions and cover and starts the next selected block. (R398) -/
  | bistBlockStart (hot : Bool)
  /-- A block's test ends and its outcome is judged, re-initialised and logged. (R399) -/
  | bistBlockEnd (count : BitVec 32) (expect : BitVec 32) (bad : BitVec 2) (bg : BitVec 12) (hot : Bool)
  /-- Each 1 ms a memory region is saved, march-tested and restored. (R403) -/
  | bistRegionStep (bad : Bool)
  /-- At tick 5,250 a rule-engine logic BIST slice runs. (R405) -/
  | ruleengSlice
  /-- A slice not ended by P − 500 is cut off and repeated. (R405) -/
  | ruleengSliceCutoff
  /-- Every 1 s SC0 folds the accumulators into the working record. (R416) -/
  | lifetimeFold (core : BitVec 8)
  /-- Every 15 min a persistence of the working record begins. (R418) -/
  | persistTimer
  /-- A persistence finishes programming and its header is read back. (R418) -/
  | persistDone (ok : Bool)
  /-- A failed persistence is retried in the next journal slot. (R418) -/
  | persistRetry
  /-- At 00:00 local time the working record is copied into the next snapshot slot. (R421) -/
  | dailySnapshot
  /-- LIFE_CMD KEY 0x3C clears a channel record. (R417) -/
  | clrCh (c : Fin 128)
  /-- LIFE_CMD KEY 0xC3 clears every record other than channel records. (R417) -/
  | clrDev
  /-- A record arriving at the log takes the next SEQ and is written. (R425) -/
  | eventRecordWrite
  /-- The host moves its read pointer and the fill threshold is re-evaluated. (R426) -/
  | evtRdseqWrite (w : BitVec 32)
  /-- The host sets the fill threshold, clamped to 131,072. (R426) -/
  | evtThreshWrite (w : BitVec 32)
  /-- The armed trigger fires and the ring records for POST. (R431) -/
  | captureTrigger
  /-- POST ends; the ring freezes, source 58 is raised and CAPTURE logged. (R431) -/
  | captureFreeze
  /-- SYS_FLT_CLR clears latched fault groups whose causes have ended. (R432) -/
  | faultGroupClear (w : BitVec 32)
  /-- SYS_FLT_CLR.BANKOC recloses a bank held open for BANK_OC at the next commit. (R432) -/
  | bankocReclose (mask : BitVec 8)
  /-- SC0 sends its coded heartbeat; two wrong codes declare it lost. (R435) -/
  | sc0Heartbeat (code : BitVec 8)
  /-- SC0 is declared lost; commits freeze and supervision becomes comparator-only. (R436) -/
  | sc0Lost (cause : Fin 4) (addr : BitVec 32)
  /-- 1 ms after the loss Nightwatch resets SC0 and reloads it, or enters Midnight at the restart limit. (R437) -/
  | sc0Reset
  /-- SC0 firmware writes restart completions, resumes copying and logs CORE_RESTART. (R437) -/
  | sc0RestartComplete (reload : Bool)
  /-- SFC sends its program-flow signature each safety cycle; a wrong one loses SFC. (R435) -/
  | sfcHeartbeat (ok : Bool)
  /-- A lockstep mismatch or missing heartbeats declare SFC lost and enter Midnight. (R442) -/
  | sfcLost
  /-- SC1 sends its heartbeat word to SC0. (R435) -/
  | sc1Heartbeat
  /-- SC1 is declared lost; it is restarted or held lost. (R441) -/
  | sc1Lost (cause : Fin 4) (addr : BitVec 32)
  /-- SC1 restarts from its loaded image and resumes its duties. (R441) -/
  | sc1RestartDone
  /-- A double-bit error is logged and handled according to where it lies. (R443) -/
  | eccUncorrected (loc : Fin 9) (p : Fin 2) (addr : BitVec 32)
  /-- A 24-clock XH3032 SPI frame reads a register or is ignored with ERR. (R448) -/
  | spi3032Transaction (clocks : Nat) (cmd : BitVec 8) (x : BitVec 16)
  /-- A CHnn_CTRL write becomes a host request on the owning aspect. (R451) -/
  | chCtrlWrite (n : Fin 32) (x : BitVec 16)
  /-- A PW_HI write tries the 32-bit password as an elevation of the SPI context. (R453) -/
  | pwHiWrite (x : BitVec 16)
  /-- A LOCK write ends the SPI context's elevation. (R453) -/
  | spiLock (x : BitVec 16)
  /-- SELFTEST START runs BIST of the memory blocks from the SPI context. (R455) -/
  | selftestStart (full : Bool)
  /-- A FLTCLR write acts as SUP_FLT_CLR for CH000–CH031. (R456) -/
  | spiFltclr (x : BitVec 16)
  /-- A write to a register without behaviour of its own stores its value or is ignored. (R486) -/
  | registerWrite (c : Fin 9) (off : BitVec 20) (x : BitVec 32)
  /-- PPS_OUT falls PPSW ms after its rising edge. (R275) -/
  | ppsOutFall
  /-- One second passes without an over-voltage clamp onset and fault group 3 for the clamp clears. (R432) -/
  | ovClampQuiet
  /-- The 25-tick minimum high time of HOST_IRQ_N ends and a pending HOST delivery may be raised. (R354) -/
  | hostIrqMinHighEnd
  /-- XTAL25 edges return while the grid runs on the internal oscillator, and DEV_GRID_STAT.XTAL_OK becomes 1 without a change of grid source. (R35) -/
  | xtal25Return
  deriving DecidableEq, Repr

end Sys2Proof
end

