-- ==== Sys2Proof/Config.lean ====
section
/-! DEFINITION. What one part fixes and the free values: constants without a body, so that no statement can lean on a
value of theirs. -/

namespace Sys2Proof.Config

/-- A free number, by the free-value counter of the state; each use cuts it to the range the spec allows. -/
opaque freeNat : Nat → Nat

/-- Factory trim of a converter in OTP (R194): OFF. -/
opaque adcOff : Nat → Int

/-- Factory trim of a converter in OTP (R194): GAIN. -/
opaque adcGain : Nat → Int

/-- The expected bandgap code BG_OTP of a converter (R194). -/
opaque bgOtp : Nat → Nat

/-- DEV_UID and RING_MAC, per device in OTP (R343, R230). -/
opaque devUid : Nat
opaque ringMac : Nat

/-- The OTP keys K_ELEV, K_DBG and K_PW (R343). -/
opaque kElev : List Byte
opaque kDbg : List Byte
opaque kPw : List Byte

/-- The OTP key K_FWW and the digests PK_DIG0 and PK_DIG1 (R343). -/
opaque kFww : List Byte
opaque pkDig : Nat → List Byte

/-- The parts of a firmware image, whose places the manual does not give (R344): the public key, the header and body that are signed,
the signature, the wrapped firmware key, the encrypted body, and the SVN of the header. -/
opaque fwPubKey : List Byte → List Byte
opaque fwSigned : List Byte → List Byte
opaque fwSig : List Byte → List Byte
opaque fwWrapped : List Byte → List Byte
opaque fwBody : List Byte → List Byte
opaque fwSvn : List Byte → Nat

/-- ECDSA P-256 over a digest by public key and signature, the unwrap of a key by K_FWW, and the decryption by AES-256-GCM (R344): none of
the three is written out. -/
opaque ecdsaGood : List Byte → List Byte → List Byte → Bool
opaque unwrapKey : List Byte → List Byte → List Byte
opaque aesGcm : List Byte → List Byte → List Byte

/-- The servo's rate word for a bandwidth BW, whose gains the manual does not give, as a free value (R263, R264). -/
opaque servoRate : Nat → Nat → Nat

/-- The read (0), program (1) and erase (2) commands that the flash's parameter table names (R476). -/
opaque flashCmd : Nat → Byte

/-- DETAIL of the finding record of a configuration written for a fixed observation slot (R189 names no value). -/
opaque fixedSlotDetail : Nat

end Sys2Proof.Config
end

