-- ==== Sys2Proof/Machine/Tab.lean ====
section
/-! DEFINITION. Sparse tables in canonical form (keys strictly rising, no entry equal to the default),
bit fields of a word, and little-endian bytes. -/

namespace Sys2Proof.Machine

/-- What the table holds at `k`: the listed value, or the default. -/
def tabGet {α : Type} (d : Nat → α) : Tab α → Nat → α
  | [], k => d k
  | (k', v) :: t, k => if k' = k then v else tabGet d t k

/-- The table without any entry at `k`. -/
def tabErase {α : Type} : Tab α → Nat → Tab α
  | [], _ => []
  | (k', v) :: t, k => if k' = k then tabErase t k else (k', v) :: tabErase t k

/-- The table with an entry put before the first greater key. -/
def tabInsert {α : Type} : Tab α → Nat → α → Tab α
  | [], k, v => [(k, v)]
  | (k', v') :: t, k, v => if k < k' then (k, v) :: (k', v') :: t else (k', v') :: tabInsert t k v

/-- The table holding `v` at `k`; writing the default removes the entry, so equal tables are equal lists. -/
def tabSet {α : Type} [DecidableEq α] (d : Nat → α) (t : Tab α) (k : Nat) (v : α) : Tab α :=
  if v = d k then tabErase t k else tabInsert (tabErase t k) k v

/-- The canonical form: keys strictly rising and no entry equal to the default. -/
abbrev TabWf {α : Type} (d : Nat → α) (t : Tab α) : Prop :=
  t.Pairwise (fun a b => a.1 < b.1) ∧ ∀ p ∈ t, p.2 ≠ d p.1

/-- Bits [lo + width - 1 : lo] of a number. -/
def bitsOf (x lo width : Nat) : Nat := x / 2 ^ lo % 2 ^ width

/-- A number with bits [lo + width - 1 : lo] replaced by `v` (cut to the field's width). -/
def withBits (x lo width v : Nat) : Nat :=
  x % 2 ^ lo + (v % 2 ^ width) * 2 ^ lo + x / 2 ^ (lo + width) * 2 ^ (lo + width)

/-- Bit `n` of a number. -/
def bitOf (x n : Nat) : Bool := x / 2 ^ n % 2 == 1

/-- Two's complement reading of the low `width` bits of a number. -/
def signedOf (x width : Nat) : Int :=
  let v := x % 2 ^ width
  if v < 2 ^ (width - 1) then (v : Int) else (v : Int) - (2 ^ width : Nat)

/-- The low `width` bits of an integer in two's complement. -/
def toBits (x : Int) (width : Nat) : Nat := (x % ((2 ^ width : Nat) : Int)).toNat

/-- A number cut to a lower and an upper limit. -/
def clampNat (lo hi x : Nat) : Nat := if x < lo then lo else if hi < x then hi else x

/-- An integer cut to a lower and an upper limit. -/
def clampInt (lo hi x : Int) : Int := if x < lo then lo else if hi < x then hi else x

/-- (int32)(a - b) > 0: `a` is newer than `b` as a sequence number (R412). -/
def seqNewer (a b : Nat) : Bool :=
  let d := (a + 2 ^ 32 - b % 2 ^ 32) % 2 ^ 32
  0 < d && d < 2 ^ 31

/-- One as 1, false as 0. -/
def boolNat (b : Bool) : Nat := if b then 1 else 0

/-- Little-endian bytes of a number, `n` of them (R3). -/
def leBytes : Nat → Nat → List Byte
  | 0, _ => []
  | n + 1, x => BitVec.ofNat 8 x :: leBytes n (x / 256)

/-- The number a little-endian byte list spells (R3). -/
def ofLeBytes : List Byte → Nat
  | [] => 0
  | b :: bs => b.toNat + 256 * ofLeBytes bs

/-- A byte list as little-endian words, a short last word filled with zero bytes. -/
def wordsOfBytes (bs : List Byte) : List Word :=
  match bs with
  | [] => []
  | [a] => [BitVec.ofNat 32 a.toNat]
  | [a, b] => [BitVec.ofNat 32 (ofLeBytes [a, b])]
  | [a, b, c] => [BitVec.ofNat 32 (ofLeBytes [a, b, c])]
  | a :: b :: c :: d :: rest => BitVec.ofNat 32 (ofLeBytes [a, b, c, d]) :: wordsOfBytes rest

/-- Words as little-endian bytes. -/
def bytesOfWords : List Word → List Byte
  | [] => []
  | w :: ws => leBytes 4 w.toNat ++ bytesOfWords ws

/-- The list with position `i` replaced, unchanged if there is no such position. -/
def listSet {α : Type} : List α → Nat → α → List α
  | [], _, _ => []
  | _ :: xs, 0, v => v :: xs
  | x :: xs, i + 1, v => x :: listSet xs i v

/-- The least element of a list of numbers, or the given number if that is less. -/
def minFrom : Nat → List Nat → Nat
  | m, [] => m
  | m, x :: xs => minFrom (if x < m then x else m) xs

/-- The greatest element of a list of numbers, or the given number if that is greater. -/
def maxFrom : Nat → List Nat → Nat
  | m, [] => m
  | m, x :: xs => maxFrom (if m < x then x else m) xs

/-- The sum of a list of numbers. -/
def sumList : List Nat → Nat
  | [] => 0
  | x :: xs => x + sumList xs

/-- The integer square root, by binary search over `n` bits. -/
def isqrtBits : Nat → Nat → Nat → Nat
  | 0, _, r => r
  | n + 1, x, r => if (r + 2 ^ n) * (r + 2 ^ n) ≤ x then isqrtBits n x (r + 2 ^ n) else isqrtBits n x r

/-- One byte's eight steps of the reflected CRC-32 (R314). -/
def crcStep : Nat → BitVec 32 → BitVec 32
  | 0, c => c
  | n + 1, c => crcStep n (if c.getLsbD 0 then (c >>> 1) ^^^ 0xEDB88320 else c >>> 1)

/-- The CRC register after a byte list. -/
def crcBytes : List Byte → BitVec 32 → BitVec 32
  | [], c => c
  | b :: bs, c => crcBytes bs (crcStep 8 (c ^^^ b.zeroExtend 32))

/-- CRC-32 of a byte list (R314): polynomial 0xEDB88320 reflected, initial value and final complement all ones. -/
def crc32 (bs : List Byte) : Nat := (crcBytes bs 0xFFFFFFFF ^^^ 0xFFFFFFFF).toNat

/-- The part of a byte table in [a, a + n), moved to start at 0. -/
def tabSlice (a n : Nat) : Tab Byte → Tab Byte
  | [] => []
  | (k, b) :: t => if a ≤ k ∧ k < a + n then (k - a, b) :: tabSlice a n t else tabSlice a n t

/-- A byte table without the part in [a, a + n). -/
def tabCut (a n : Nat) : Tab Byte → Tab Byte
  | [] => []
  | (k, b) :: t => if a ≤ k ∧ k < a + n then tabCut a n t else (k, b) :: tabCut a n t

/-- The part of a byte table before `a`. -/
def tabBefore (a : Nat) : Tab Byte → Tab Byte
  | [] => []
  | (k, b) :: t => if k < a then (k, b) :: tabBefore a t else tabBefore a t

/-- The part of a byte table from `a` on. -/
def tabFrom (a : Nat) : Tab Byte → Tab Byte
  | [] => []
  | (k, b) :: t => if k < a then tabFrom a t else (k, b) :: tabFrom a t

/-- A byte table whose part in [a, a + n) is replaced by a table that starts at 0. -/
def tabPaste (a n : Nat) (t src : Tab Byte) : Tab Byte :=
  tabBefore a t ++ (tabSlice 0 n src).map (fun (p : Nat × Byte) => (a + p.1, p.2)) ++ tabFrom (a + n) t

/-- `n` bytes of a byte table from `a` on. -/
def tabBytes (t : Tab Byte) (a n : Nat) : List Byte := (List.range n).map fun i => tabGet (fun _ => 0) t (a + i)

end Sys2Proof.Machine
end

