-- ==== Sys2Proof/Machine/RegMap.lean ====
section
/-! DEFINITION. The register map: host window offsets (R485, R489, R490), the reset word of every offset,
and the fields of the registers the meanings name. -/

namespace Sys2Proof.Machine

-- Offsets of the unprivileged view (R489)
def aDEV_ID : Nat := 0x00000
def aDEV_GRID_STAT : Nat := 0x00100
def aDEV_GRID_TICK : Nat := 0x00104
def aDEV_DLM_CNT (n : Nat) : Nat := 0x00140 + 4 * n
def aDEV_DLM_RUN : Nat := 0x00160
def aDEV_BOOST_STAT : Nat := 0x00200
def aDEV_BANK_STAT : Nat := 0x00204
def aDEV_DRV_PWR : Nat := 0x00208
def aDEV_BOOST_HICCUP : Nat := 0x0020C
def aDEV_BOOST_OVC : Nat := 0x00210
def aDEV_BANK_RETRY : Nat := 0x00214
def aDEV_DIM_STAT : Nat := 0x00220
def aDEV_XCHK_STAT : Nat := 0x00230
def aDEV_XCHK_CNT : Nat := 0x00234
def aDEV_ADC_STAT : Nat := 0x00240
def aDEV_ADC_PLACE : Nat := 0x00244
def aDEV_SEC_STAT : Nat := 0x00250
def aDEV_UID_LO : Nat := 0x00254
def aDEV_UID_HI : Nat := 0x00258
def aDEV_CFG_STAT : Nat := 0x00260
def aDEV_CFG_GEN : Nat := 0x00264
def aDEV_PWR_STAT : Nat := 0x00270
def aDEV_MORNING_STAT : Nat := 0x00274
def aDEV_BIST_STAT : Nat := 0x00280
def aDEV_BIST_HEALTH (i : Nat) : Nat := if i < 3 then 0x00284 + 4 * i else 0x00298 + 4 * (i - 3)
def aDEV_LIFE_STAT : Nat := 0x00290
def aDEV_CAP_STAT : Nat := 0x00294
def aDEV_FLT_ACT : Nat := 0x002A0
def aDEV_FLT_FIRST : Nat := 0x002A4
def aDEV_NW_STAT : Nat := 0x002A8
def aDEV_MEMPAGE : Nat := 0x002B0
def aASP_STAT (n : Nat) : Nat := 0x01000 + 8 * n
def aASP_FLT (n : Nat) : Nat := 0x01004 + 8 * n
def aASP_REQ (n : Nat) : Nat := 0x01400 + 4 * n
def aHEAD_STAT (h : Nat) : Nat := 0x01600 + 4 * h
def aASP_SUM : Nat := 0x01700
def aASP_CONFLICT_CNT : Nat := 0x01704
def aASP_VAR (v : Nat) : Nat := 0x01780 + 4 * v
def aMTX_LED (w : Nat) : Nat := 0x01800 + 4 * w
def aCHS_DRV (c : Nat) : Nat := 0x02000 + 16 * c
def aCHS_NEED (c : Nat) : Nat := 0x02004 + 16 * c
def aCHS_DIM (c : Nat) : Nat := 0x02008 + 16 * c
def aCHS_SUP (c : Nat) : Nat := 0x0200C + 16 * c
def aMTX_DARK (w : Nat) : Nat := 0x02800 + 4 * w
def aMTX_STRAY (w : Nat) : Nat := 0x02880 + 4 * w
def aMTX_STAT : Nat := 0x02900
def aTIME_NS : Nat := 0x03000
def aTIME_SEC_LO : Nat := 0x03004
def aTIME_SEC_HI : Nat := 0x03008
def aTIME_STAT : Nat := 0x0300C
def aTIME_OFFSET : Nat := 0x03010
def aTIME_RATE : Nat := 0x03014
def aTIME_MPD (p : Nat) : Nat := 0x03018 + 4 * p
def aTIME_GM_LO : Nat := 0x03020
def aTIME_GM_HI : Nat := 0x03024
def aTIME_PPSIN : Nat := 0x03028
def aTIME_PPS_RES : Nat := 0x0302C
def aTIME_BOOK (p : Nat) : Nat := 0x03030 + 4 * p
def aTIME_GRIDNS : Nat := 0x03038
def aTIME_CNT (i : Nat) : Nat := 0x03040 + 4 * i
def aMBX_SQN_TAIL : Nat := 0x04000
def aMBX_SQN_HEAD : Nat := 0x04004
def aMBX_SQU_TAIL : Nat := 0x04008
def aMBX_SQU_HEAD : Nat := 0x0400C
def aMBX_CQ_TAIL : Nat := 0x04010
def aMBX_CQ_HEAD : Nat := 0x04014
def aMBX_STAT : Nat := 0x04018
def aMBX_RESET : Nat := 0x0401C
def aMBX_INFLIGHT (i : Nat) : Nat := 0x04020 + 4 * i
def aMBX_RINGSTAT : Nat := 0x04030
def aMBX_RING_DUP : Nat := 0x04034
def aMBX_RING_OLD : Nat := 0x04038
def aEVT_HEAD : Nat := 0x05000
def aEVT_OLDEST : Nat := 0x05004
def aEVT_RDSEQ : Nat := 0x05008
def aEVT_THRESH : Nat := 0x0500C
def aEVT_LOST : Nat := 0x05010
def aEVT_DROP : Nat := 0x05014
def aSTO_OSTAT : Nat := 0x06000
def aSTO_PSTAT : Nat := 0x06004
def aSTO_OFLT : Nat := 0x06008
def aSTO_PFLT : Nat := 0x0600C
def aSTO_SEAL : Nat := 0x06010
def aSTO_CFGSTAT : Nat := 0x06014
def aSTO_DISC (w : Nat) : Nat := 0x06018 + 4 * w
def aSTO_TPSTAT : Nat := 0x06028
def aSTO_TESTCNT : Nat := 0x0602C
def aSTO_DEMCNT : Nat := 0x06030
def aRING_PSTAT (p : Nat) : Nat := 0x07000 + 4 * p
def aRING_STAT : Nat := 0x07008
def aRING_EPOCH : Nat := 0x0700C
def aRING_MAC_LO : Nat := 0x07010
def aRING_MAC_HI : Nat := 0x07014
def aRING_NBRSEEN_LO (p : Nat) : Nat := 0x07018 + 8 * p
def aRING_NBRSEEN_HI (p : Nat) : Nat := 0x0701C + 8 * p
def aRING_CNT (p k : Nat) : Nat := 0x07040 + 64 * p + 4 * k
def aICU_PEND (w : Nat) : Nat := 0x08000 + 4 * w
def aICU_PEND_SET (w : Nat) : Nat := 0x08020 + 4 * w
def aICU_PEND_CLR (w : Nat) : Nat := 0x08040 + 4 * w
def aICU_MASK_SET (w : Nat) : Nat := 0x08060 + 4 * w
def aICU_MASK_CLR (w : Nat) : Nat := 0x08080 + 4 * w
def aICU_ACT (w : Nat) : Nat := 0x080A0 + 4 * w
def aICU_DLV (w : Nat) : Nat := 0x080C0 + 4 * w
def aICU_LOWEST : Nat := 0x080E0
def aICU_HSTAT : Nat := 0x080E4
def aICU_HMOD : Nat := 0x080E8

-- Offsets of the privileged view (R490)
def aSYS_PWRCTL : Nat := 0x10000
def aSYS_MORNING : Nat := 0x10004
def aSYS_FLT_CLR : Nat := 0x10008
def aCHCFG_CEIL (c : Nat) : Nat := 0x11000 + 32 * c
def aCHCFG_STRING (c : Nat) : Nat := 0x11004 + 32 * c
def aCHCFG_DIM (c : Nat) : Nat := 0x11008 + 32 * c
def aCHCFG_SUP (c : Nat) : Nat := 0x1100C + 32 * c
def aBANK_CFG (n : Nat) : Nat := 0x12000 + 4 * n
def aBOOST_CFG (i : Nat) : Nat := 0x12040 + 4 * i
def aDIM_CFG : Nat := 0x13000
def aDIM_LEVEL : Nat := 0x13004
def aDIM_SCHED : Nat := 0x13008
def aDIM_BIN (i : Nat) : Nat := 0x1300C + 4 * i
def aDIM_DERATE : Nat := 0x13014
def aDIM_NTC : Nat := 0x13018
def aDIM_BANK (n : Nat) : Nat := 0x13040 + 8 * n
def aDIM_PHASE (n : Nat) : Nat := 0x13044 + 8 * n
def aMTX_CFG : Nat := 0x13080
def aPAT_CFG (p w : Nat) : Nat := 0x13100 + 64 * p + 4 * w
def aDIM_ASP (n : Nat) : Nat := 0x13400 + 4 * n
def aSUP_SIG (c w : Nat) : Nat := 0x14000 + 8 * c + 4 * w
def aSUP_CFG0 : Nat := 0x14400
def aSUP_CFG1 : Nat := 0x14404
def aSUP_FLT_CLR : Nat := 0x14440
def aSUP_SIG_CMD : Nat := 0x14444
def aMTX_FLT_CLR : Nat := 0x14448
def aSUP_ASPCFG (n w : Nat) : Nat := 0x14800 + 16 * n + 4 * w
def aSUP_HEADCFG (h : Nat) : Nat := 0x14E00 + 4 * h
def aOBS_IDX : Nat := 0x15000
def aOBS_DATA (i : Nat) : Nat := 0x15010 + 4 * i
def aOBS_SNSCFG (n : Nat) : Nat := 0x15100 + 4 * n
def aOBS_STAT : Nat := 0x15200
def aOBS_STALE_CNT : Nat := 0x15204
def aOBS_SNP_MATCH : Nat := 0x15208
def aOBS_SNP_SHORT : Nat := 0x1520C
def aOBS_SNP_OVF : Nat := 0x15210
def aRULE_IDX : Nat := 0x16000
def aRULE_DATA (i : Nat) : Nat := 0x16010 + 4 * i
def aRULE_CFG : Nat := 0x16100
def aRULE_STAT : Nat := 0x16104
def aRULE_EVAL : Nat := 0x16108
def aRULE_TWIN (w i : Nat) : Nat := 0x16200 + 32 * w + 4 * i
def aADC_REFCTL : Nat := 0x17000
def aADC_MISC : Nat := 0x17004
def aADC_SWTRIG : Nat := 0x17008
def aADC_OVR_REG (k : Nat) : Nat := 0x17040 + 4 * k
def aADC_OVR_INJ (k : Nat) : Nat := 0x17080 + 4 * k
def aADC_SEQCFG (k w : Nat) : Nat := 0x17100 + 16 * k + 4 * w
def aADC_SLOT (k w : Nat) : Nat := 0x17200 + 64 * k + 4 * w
def aADC_REGR (k s : Nat) : Nat := 0x17600 + 128 * k + 4 * s
def aADC_INJR (k j : Nat) : Nat := 0x17E00 + 16 * k + 4 * j
def aADC_INJSLOT (k w : Nat) : Nat := 0x17F00 + 8 * k + 4 * w
def aADC_INJTS (k : Nat) : Nat := 0x17F80 + 4 * k
def aLOOP_SWAP : Nat := 0x18000
def aLOOP_SAT : Nat := 0x18004
def aLOOP_HOLD : Nat := 0x18008
def aLOOP_EPOCH (w : Nat) : Nat := 0x18010 + 4 * w
def aLOOP_ACT (n w : Nat) : Nat := 0x18100 + 32 * n + 4 * w
def aLOOP_SHD (n w : Nat) : Nat := 0x18500 + 32 * n + 4 * w
def aLOOP_ST (n w : Nat) : Nat := 0x18900 + 16 * n + 4 * w
def aRING_CFG : Nat := 0x19000
def aRING_ERPS : Nat := 0x19004
def aRING_ERPS2 : Nat := 0x19008
def aRING_NBR (p w : Nat) : Nat := 0x19010 + 8 * p + 4 * w
def aRING_EVTDST (w : Nat) : Nat := 0x19020 + 4 * w
def aRING_LD_IDX : Nat := 0x19100
def aRING_LD_DATA (i : Nat) : Nat := 0x19110 + 4 * i
def aTIME_CFG : Nat := 0x1A000
def aTIME_TRUST : Nat := 0x1A004
def aTIME_PPSCHK : Nat := 0x1A008
def aTIME_PORT (p w : Nat) : Nat := 0x1A010 + 8 * p + 4 * w
def aTIME_TZ : Nat := 0x1A020
def aTIME_LOFF (w i : Nat) : Nat := 0x1A040 + 16 * w + 4 * i
def aICU_ROUTE (w : Nat) : Nat := 0x1B000 + 4 * w
def aICU_NWSEL (w : Nat) : Nat := 0x1B040 + 4 * w
def aICU_MOD (t : Nat) : Nat := 0x1B060 + 4 * t
def aICU_NWSTAT : Nat := 0x1B070
def aBIST_IDX : Nat := 0x1C000
def aBIST_DATA (i : Nat) : Nat := 0x1C010 + 4 * i
def aSAFE_CFG : Nat := 0x1D000
def aSAFE_SWSTOP : Nat := 0x1D004
def aLIFE_CMD : Nat := 0x1E000
def aCAP_CFG : Nat := 0x1E004
def aCAP_TRIGTICK : Nat := 0x1E010
def aSEC_CFG : Nat := 0x1F000
def aSEC_PWSET (i : Nat) : Nat := 0x1F010 + 4 * i
def aSEC_PWCMD : Nat := 0x1F018
def aSEC_FW : Nat := 0x1F020
def aSEC_ROLLBACK : Nat := 0x1F024
def aSEC_LOCK : Nat := 0x1F028

/-- The interrupt target a shared source has after reset, as ICU_ROUTEw encodes it (R359, ICU_ROUTEw). -/
def icuRouteReset (w : Nat) : Nat :=
  match w with
  | 0 => 0xD400003C
  | 1 => 0x005C00FF
  | 10 | 11 => 0x55555555
  | 12 | 13 => 0xAAAAAAAA
  | _ => 0

/-- The reset value of the registers of the unprivileged view (R489). -/
def resetUnpriv (a : Nat) : Nat :=
  if a = aDEV_ID then 0x6128B100
  else if a = aDEV_XCHK_STAT then 0x007F0000
  else if a = aDEV_CFG_STAT then 0xFF000000
  else if a = aDEV_FLT_ACT then 0x00040001
  else if a = aDEV_FLT_FIRST then 0x00000012
  else if a = aASP_SUM then 0x00FF0002
  else if 0x02000 ≤ a ∧ a < 0x02800 ∧ a % 16 = 0 then 0x80000000
  else if a = aTIME_STAT then 0x04000000
  else if a = aRING_PSTAT 0 ∨ a = aRING_PSTAT 1 then 0x00000004
  else 0

/-- The reset value of a word of a loop parameter set, by its offset in the set (R490). -/
def resetLoopWord (o : Nat) : Nat :=
  if o = 0x0C then 0x7FFF8000 else if o = 0x14 then 0x00007FFF else if o = 0x18 then 0x00010000 else 0

/-- The reset value of the registers of the privileged view (R490). -/
def resetPriv (a : Nat) : Nat :=
  if a < 0x11000 then (if a = aSYS_MORNING then 0x6000012C else 0)
  else if a < 0x12000 then (if a % 32 = 8 then 0x00000400 else if a % 32 = 12 then 0x00001400 else 0)
  else if a < 0x13000 then
    (if a = aBOOST_CFG 0 then 0x02583C00 else if a = aBOOST_CFG 1 then 0x012C6450
     else if a = aBOOST_CFG 2 then 0x00146400 else 0)
  else if a < 0x14000 then
    (if a = aDIM_CFG then 0x20000A00 else if a = aDIM_LEVEL then 0xFFFF2000
     else if a = aDIM_SCHED then 0x018604B0 else if a = aDIM_BIN 0 then 0x00001400
     else if a = aDIM_BIN 1 then 0xFFFF0000 else if a = aDIM_DERATE then 0x00465500
     else if a = aDIM_NTC then 0x0D6B03E8
     else if 0x13040 ≤ a ∧ a < 0x13080 then (if a % 8 = 0 then 0x000030D4 else (a - 0x13044) / 8 * 0x61A)
     else if a = aMTX_CFG then 0x400030D4
     else if 0x13100 ≤ a ∧ a < 0x13300 then
       (if a % 64 = 0 then 0x00320010 else if a % 64 = 4 then 0xFFFF0000 else if a % 64 = 8 then 0x00000032 else 0)
     else 0)
  else if a < 0x15000 then (if a = aSUP_CFG0 then 0x8C3C7D14 else if a = aSUP_CFG1 then 0x00000001 else 0)
  else if a < 0x16000 then
    (if 0x15100 ≤ a ∧ a < 0x15180 then 0x0000000A else if a = aOBS_STAT then 0x000003FF else 0)
  else if a < 0x17000 then (if a = aRULE_CFG then 0x000061A8 else 0)
  else if a < 0x18000 then
    (if 0x17100 ≤ a ∧ a < 0x17200 then (if a % 16 = 8 then 0x000061A8 else 0)
     else if 0x17600 ≤ a ∧ a < 0x17F00 then 0x80000000 else 0)
  else if a < 0x19000 then
    (if 0x18100 ≤ a ∧ a < 0x18900 then resetLoopWord (a % 32) else 0)
  else if a < 0x1A000 then
    (if a = aRING_CFG then 0x000A0000 else if a = aRING_ERPS then 0x01E00032
     else if a = aRING_ERPS2 then 0x0000E000 else 0)
  else if a < 0x1B000 then
    (if a = aTIME_CFG then 0x00040064 else if a = aTIME_TRUST then 0x03E800C8
     else if a = aTIME_PPSCHK then 0x000003E8 else if a = aTIME_TZ then 0x00250000 else 0)
  else if a < 0x1C000 then (if a < 0x1B038 then icuRouteReset ((a - 0x1B000) / 4) else 0)
  else if a = aSAFE_CFG then 0x03E8001E
  else if a = aCAP_CFG then 0x00032026
  else if a = aSEC_CFG then 0x00001E00
  else 0

/-- The reset value of the register at a host window offset: R489 below 0x10000, R490 above.
An offset no table lists reads 0 (R486). -/
def resetWord (a : Nat) : Word :=
  BitVec.ofNat 32 (if a < 0x10000 then resetUnpriv a else resetPriv a)

/-- The register at an offset lies in a block of the privileged view (R485). -/
def isPrivileged (a : Nat) : Bool := 0x10000 ≤ a && a < 0x20000

end Sys2Proof.Machine
end

