-- ==== Sys2Proof/Machine/Fields.lean ====
section
/-! DEFINITION. The fields of the status, control and configuration registers that the meanings read or write, by the field tables of the chapters. -/

namespace Sys2Proof.Machine

-- "Self-timed logic and the phase grid"
def fGRID_SRC : Fld := ⟨aDEV_GRID_STAT, 0, 1⟩
def fGRID_XTAL_OK : Fld := ⟨aDEV_GRID_STAT, 1, 1⟩
def fGRID_VCORE_LOW : Fld := ⟨aDEV_GRID_STAT, 2, 1⟩
def fGRID_DLM_HOLD : Fld := ⟨aDEV_GRID_STAT, 3, 1⟩
def fGRID_RULE_STALL : Fld := ⟨aDEV_GRID_STAT, 4, 1⟩
def fDLM_RUN (n : Nat) : Fld := ⟨aDEV_DLM_RUN, 4 * n, 4⟩

-- "Start-up and power states"
def fPWR_STATE : Fld := ⟨aDEV_PWR_STAT, 28, 4⟩
def fPWR_PHASE : Fld := ⟨aDEV_PWR_STAT, 24, 4⟩
def fPWR_HOLD : Fld := ⟨aDEV_PWR_STAT, 22, 2⟩
def fPWR_DAWN_LATE : Fld := ⟨aDEV_PWR_STAT, 21, 1⟩
def fPWR_RESET_SEEN : Fld := ⟨aDEV_PWR_STAT, 20, 1⟩
def fPWR_TABLE_VALID : Fld := ⟨aDEV_PWR_STAT, 19, 1⟩
def fPWR_DUSK_PEND : Fld := ⟨aDEV_PWR_STAT, 18, 1⟩
def fPWR_ABORTED : Fld := ⟨aDEV_PWR_STAT, 17, 1⟩
def fPWR_WAKE : Fld := ⟨aDEV_PWR_STAT, 15, 2⟩
def fPWR_DAWN_MS : Fld := ⟨aDEV_PWR_STAT, 0, 15⟩
def fMORN_BANKFAIL : Fld := ⟨aDEV_MORNING_STAT, 24, 8⟩
def fMORN_NOPEN : Fld := ⟨aDEV_MORNING_STAT, 16, 8⟩
def fMORN_RESULT : Fld := ⟨aDEV_MORNING_STAT, 2, 2⟩
def fMORN_DEFERRED : Fld := ⟨aDEV_MORNING_STAT, 1, 1⟩
def fMORN_RUNNING : Fld := ⟨aDEV_MORNING_STAT, 0, 1⟩
def fSYSMORN_EN : Fld := ⟨aSYS_MORNING, 31, 1⟩
def fSYSMORN_BANKTEST : Fld := ⟨aSYS_MORNING, 30, 1⟩
def fSYSMORN_PROBE : Fld := ⟨aSYS_MORNING, 29, 1⟩
def fSYSMORN_MINUTE : Fld := ⟨aSYS_MORNING, 0, 11⟩

-- "Fault handling and recovery"
def fFLT_ANY : Fld := ⟨aDEV_FLT_ACT, 0, 1⟩
def fFLT_GROUP (n : Nat) : Fld := ⟨aDEV_FLT_ACT, n, 1⟩
def fFLT_GROUPS : Fld := ⟨aDEV_FLT_ACT, 1, 21⟩
def fFLTF_CLASS : Fld := ⟨aDEV_FLT_FIRST, 16, 8⟩
def fFLTF_BIT : Fld := ⟨aDEV_FLT_FIRST, 0, 5⟩
def fNW_MN_CAUSE : Fld := ⟨aDEV_NW_STAT, 28, 4⟩
def fNW_SC0_RST : Fld := ⟨aDEV_NW_STAT, 26, 2⟩
def fNW_SC1_HELD : Fld := ⟨aDEV_NW_STAT, 25, 1⟩
def fNW_SC1_LOST : Fld := ⟨aDEV_NW_STAT, 24, 1⟩
def fNW_SC0_LOST : Fld := ⟨aDEV_NW_STAT, 23, 1⟩
def fNW_FROZEN : Fld := ⟨aDEV_NW_STAT, 22, 1⟩
def fNW_SFC_OK : Fld := ⟨aDEV_NW_STAT, 21, 1⟩
def fNW_NWBUF : Fld := ⟨aDEV_NW_STAT, 0, 7⟩

-- "Configuration images and clamping"
def fCFG_OUTCOME : Fld := ⟨aDEV_CFG_STAT, 24, 8⟩
def fCFG_MARK_REDONE : Fld := ⟨aDEV_CFG_STAT, 23, 1⟩
def fCFG_NONE : Fld := ⟨aDEV_CFG_STAT, 22, 1⟩
def fCFG_SLOT : Fld := ⟨aDEV_CFG_STAT, 21, 1⟩
def fCFG_STAGING : Fld := ⟨aDEV_CFG_STAT, 20, 1⟩
def fCFG_STAGED_W : Fld := ⟨aDEV_CFG_STAT, 0, 20⟩

-- "Lifetime records, capture and event log"
def fLIFE_NSAT : Fld := ⟨aDEV_LIFE_STAT, 24, 8⟩
def fLIFE_SNAPS : Fld := ⟨aDEV_LIFE_STAT, 18, 6⟩
def fLIFE_RESTORE : Fld := ⟨aDEV_LIFE_STAT, 16, 2⟩
def fLIFE_PERSIST : Fld := ⟨aDEV_LIFE_STAT, 14, 2⟩
def fLIFE_AGE : Fld := ⟨aDEV_LIFE_STAT, 0, 12⟩
def fCAP_PRE : Fld := ⟨aDEV_CAP_STAT, 16, 16⟩
def fCAP_MN_FREEZE : Fld := ⟨aDEV_CAP_STAT, 4, 1⟩
def fCAP_AUTO : Fld := ⟨aDEV_CAP_STAT, 3, 1⟩
def fCAP_STATE : Fld := ⟨aDEV_CAP_STAT, 0, 3⟩
def fCAPCFG_APOST : Fld := ⟨aCAP_CFG, 10, 10⟩
def fCAPCFG_AUTO_EN : Fld := ⟨aCAP_CFG, 8, 1⟩
def fCAPCFG_ACLASS : Fld := ⟨aCAP_CFG, 0, 8⟩

-- "Interrupt controller"
def fHSTAT_SLEEP : Fld := ⟨aICU_HSTAT, 3, 1⟩
def fHMOD_MOD : Fld := ⟨aICU_HMOD, 0, 10⟩
def fMOD_MOD (t : Nat) : Fld := ⟨aICU_MOD t, 0, 10⟩
def fROUTE (src : Nat) : Fld := ⟨aICU_ROUTE ((src - 32) / 16), 2 * ((src - 32) % 16), 2⟩
def fNWSEL_VALID (e : Nat) : Fld := ⟨aICU_NWSEL (e / 2), if e % 2 = 0 then 15 else 31, 1⟩
def fNWSEL_SRC (e : Nat) : Fld := ⟨aICU_NWSEL (e / 2), if e % 2 = 0 then 0 else 16, 8⟩
def fNWSTAT_WOKE : Fld := ⟨aICU_NWSTAT, 8, 1⟩
def fNWSTAT_SRC : Fld := ⟨aICU_NWSTAT, 0, 8⟩

-- "Station ring ports"
def fRP_RXPWR (p : Nat) : Fld := ⟨aRING_PSTAT p, 16, 16⟩
def fRP_CROSSED (p : Nat) : Fld := ⟨aRING_PSTAT p, 7, 1⟩
def fRP_NBR_MISMATCH (p : Nat) : Fld := ⟨aRING_PSTAT p, 6, 1⟩
def fRP_MODULE_BAD (p : Nat) : Fld := ⟨aRING_PSTAT p, 5, 1⟩
def fRP_MODULE_PRESENT (p : Nat) : Fld := ⟨aRING_PSTAT p, 4, 1⟩
def fRP_BLOCKED (p : Nat) : Fld := ⟨aRING_PSTAT p, 3, 1⟩
def fRP_SF (p : Nat) : Fld := ⟨aRING_PSTAT p, 2, 1⟩
def fRP_LINK (p : Nat) : Fld := ⟨aRING_PSTAT p, 1, 1⟩
def fRP_RATE (p : Nat) : Fld := ⟨aRING_PSTAT p, 0, 1⟩
def fRING_SWAPPED : Fld := ⟨aRING_STAT, 3, 1⟩
def fRING_ERPS : Fld := ⟨aRING_STAT, 0, 3⟩
def fRING_LMAXW : Fld := ⟨aRING_CFG, 16, 8⟩
def fRING_XAUTO : Fld := ⟨aRING_CFG, 4, 1⟩
def fRING_EVT_EN : Fld := ⟨aRING_CFG, 3, 1⟩
def fRING_CYHAR_EN : Fld := ⟨aRING_CFG, 2, 1⟩
def fRING_RATEP (p : Nat) : Fld := ⟨aRING_CFG, p, 1⟩
def fERPS_RINGID : Fld := ⟨aRING_ERPS, 24, 8⟩
def fERPS_MEL : Fld := ⟨aRING_ERPS, 21, 3⟩
def fERPS_HOLDOFF : Fld := ⟨aRING_ERPS, 14, 7⟩
def fERPS_GUARD : Fld := ⟨aRING_ERPS, 0, 8⟩
def fERPS_TAG : Fld := ⟨aRING_ERPS2, 16, 1⟩
def fERPS_PCP : Fld := ⟨aRING_ERPS2, 13, 3⟩
def fERPS_VID : Fld := ⟨aRING_ERPS2, 0, 12⟩

-- "Network time and time stamps"
def fTIME_QUAL : Fld := ⟨aTIME_STAT, 24, 8⟩
def fTIME_REARMED : Fld := ⟨aTIME_STAT, 9, 1⟩
def fTIME_MPORT : Fld := ⟨aTIME_STAT, 8, 1⟩
def fTIME_MASTER : Fld := ⟨aTIME_STAT, 7, 1⟩
def fTIME_INLOCK : Fld := ⟨aTIME_STAT, 6, 1⟩
def fTIME_CAUSE : Fld := ⟨aTIME_STAT, 4, 2⟩
def fTIME_SET : Fld := ⟨aTIME_STAT, 3, 1⟩
def fTIME_STATE : Fld := ⟨aTIME_STAT, 0, 3⟩
def fPPS_LAG : Fld := ⟨aTIME_PPS_RES, 0, 6⟩
def fTCFG_DOMAIN : Fld := ⟨aTIME_CFG, 24, 8⟩
def fTCFG_PDLOG : Fld := ⟨aTIME_CFG, 20, 4⟩
def fTCFG_BW : Fld := ⟨aTIME_CFG, 18, 2⟩
def fTCFG_ONESTEP : Fld := ⟨aTIME_CFG, 17, 1⟩
def fTCFG_PPSIN_POL : Fld := ⟨aTIME_CFG, 16, 1⟩
def fTCFG_PPSW : Fld := ⟨aTIME_CFG, 0, 10⟩
def fTRUST : Fld := ⟨aTIME_TRUST, 16, 16⟩
def fASYMMAX : Fld := ⟨aTIME_TRUST, 0, 16⟩
def fTPORT_RXLAT (p : Nat) : Fld := ⟨aTIME_PORT p 1, 16, 16⟩
def fTPORT_TXLAT (p : Nat) : Fld := ⟨aTIME_PORT p 1, 0, 16⟩
def fTZ_UTCOFF : Fld := ⟨aTIME_TZ, 16, 16⟩
def fTZ_BASE : Fld := ⟨aTIME_TZ, 0, 16⟩
def fLOFF_VALID (w : Nat) : Fld := ⟨aTIME_LOFF w 2, 31, 1⟩
def fLOFF_OFFSET (w : Nat) : Fld := ⟨aTIME_LOFF w 2, 0, 16⟩

-- "Aspects, heads and failure policies"
def fASP_RULE (n : Nat) : Fld := ⟨aASP_STAT n, 16, 11⟩
def fASP_PRIO (n : Nat) : Fld := ⟨aASP_STAT n, 10, 4⟩
def fASP_DECIDER (n : Nat) : Fld := ⟨aASP_STAT n, 8, 2⟩
def fASP_DISABLED (n : Nat) : Fld := ⟨aASP_STAT n, 7, 1⟩
def fASP_CONFLICT (n : Nat) : Fld := ⟨aASP_STAT n, 6, 1⟩
def fASP_FORCED (n : Nat) : Fld := ⟨aASP_STAT n, 5, 1⟩
def fASP_PROVING (n : Nat) : Fld := ⟨aASP_STAT n, 4, 1⟩
def fASP_DEMAND (n : Nat) : Fld := ⟨aASP_STAT n, 3, 1⟩
def fASP_STATE (n : Nat) : Fld := ⟨aASP_STAT n, 0, 3⟩
def fASPF_DIS_REASON (n : Nat) : Fld := ⟨aASP_FLT n, 28, 4⟩
def fASPF_BANK_OPEN (n : Nat) : Fld := ⟨aASP_FLT n, 7, 1⟩
def fREQ_BRIGHT (n : Nat) : Fld := ⟨aASP_REQ n, 16, 16⟩
def fREQ_PAT_EN (n : Nat) : Fld := ⟨aASP_REQ n, 7, 1⟩
def fREQ_PAT_SEL (n : Nat) : Fld := ⟨aASP_REQ n, 4, 3⟩
def fREQ_LEVEL (n : Nat) : Fld := ⟨aASP_REQ n, 2, 2⟩
def fREQ_CMD (n : Nat) : Fld := ⟨aASP_REQ n, 0, 2⟩
def fHEAD_READY_OK (h : Nat) : Fld := ⟨aHEAD_STAT h, 10, 1⟩
def fHEAD_BLOCK (h : Nat) : Fld := ⟨aHEAD_STAT h, 9, 1⟩
def fHEAD_FORCE (h : Nat) : Fld := ⟨aHEAD_STAT h, 8, 1⟩
def fHCFG_VALID (h : Nat) : Fld := ⟨aSUP_HEADCFG h, 7, 1⟩
def fHCFG_ASP (h : Nat) : Fld := ⟨aSUP_HEADCFG h, 0, 7⟩
def fSUM_FIRST_HEAD : Fld := ⟨aASP_SUM, 16, 8⟩
def fSUM_NMISMATCH : Fld := ⟨aASP_SUM, 8, 8⟩
def fSUM_READY_INH : Fld := ⟨aASP_SUM, 1, 1⟩
def fSUM_READY_PIN : Fld := ⟨aASP_SUM, 0, 1⟩

-- "Lamp channels, banks and the adaptive supply"
def fBST_TGT : Fld := ⟨aDEV_BOOST_STAT, 22, 10⟩
def fBST_MEAS : Fld := ⟨aDEV_BOOST_STAT, 12, 10⟩
def fBST_MODE : Fld := ⟨aDEV_BOOST_STAT, 5, 3⟩
def fBST_OV_CLAMP : Fld := ⟨aDEV_BOOST_STAT, 4, 1⟩
def fBST_PEAK_LIM : Fld := ⟨aDEV_BOOST_STAT, 3, 1⟩
def fBST_HEADROOM : Fld := ⟨aDEV_BOOST_STAT, 2, 1⟩
def fBST_BUDGET : Fld := ⟨aDEV_BOOST_STAT, 1, 1⟩
def fBST_GOV : Fld := ⟨aDEV_BOOST_STAT, 0, 1⟩
def fBANK_STUCK (n : Nat) : Fld := ⟨aDEV_BANK_STAT, 4 * n + 3, 1⟩
def fBANK_OC (n : Nat) : Fld := ⟨aDEV_BANK_STAT, 4 * n + 2, 1⟩
def fBANK_STRAY (n : Nat) : Fld := ⟨aDEV_BANK_STAT, 4 * n + 1, 1⟩
def fBANK_CLOSED (n : Nat) : Fld := ⟨aDEV_BANK_STAT, 4 * n, 1⟩
def fPWR_PSINK : Fld := ⟨aDEV_DRV_PWR, 16, 16⟩
def fPWR_TJ : Fld := ⟨aDEV_DRV_PWR, 8, 8⟩
def fPWR_TSD : Fld := ⟨aDEV_DRV_PWR, 0, 1⟩
def fDRV_F (c : Nat) : Fld := ⟨aCHS_DRV c, 21, 11⟩
def fDRV_LIMIT (c : Nat) : Fld := ⟨aCHS_DRV c, 17, 4⟩
def fDRV_STARVED (c : Nat) : Fld := ⟨aCHS_DRV c, 16, 1⟩
def fDRV_HEADROOM (c : Nat) : Fld := ⟨aCHS_DRV c, 15, 1⟩
def fDRV_SINK_ON (c : Nat) : Fld := ⟨aCHS_DRV c, 14, 1⟩
def fDRV_SCALE (c : Nat) : Fld := ⟨aCHS_DRV c, 0, 11⟩
def fNEED_VCH (c : Nat) : Fld := ⟨aCHS_NEED c, 16, 16⟩
def fNEED (c : Nat) : Fld := ⟨aCHS_NEED c, 0, 16⟩
def fCEIL (c : Nat) : Fld := ⟨aCHCFG_CEIL c, 0, 10⟩
def fNLED (c : Nat) : Fld := ⟨aCHCFG_STRING c, 16, 5⟩
def fVNOM (c : Nat) : Fld := ⟨aCHCFG_STRING c, 0, 10⟩
def fBANK_ROLE (n : Nat) : Fld := ⟨aBANK_CFG n, 2, 2⟩
def fBANK_MODE (n : Nat) : Fld := ⟨aBANK_CFG n, 0, 2⟩
def fVMAX : Fld := ⟨aBOOST_CFG 0, 16, 10⟩
def fMARGIN : Fld := ⟨aBOOST_CFG 0, 8, 8⟩
def fILIM : Fld := ⟨aBOOST_CFG 1, 16, 9⟩
def fIPK : Fld := ⟨aBOOST_CFG 1, 8, 8⟩
def fGOV_PMAX : Fld := ⟨aBOOST_CFG 1, 0, 8⟩
def fSLEW_DN : Fld := ⟨aBOOST_CFG 2, 16, 8⟩
def fSLEW_UP : Fld := ⟨aBOOST_CFG 2, 8, 8⟩

-- "Brightness, hybrid dimming and pattern engines"
def fDIM_AMBIENT : Fld := ⟨aDEV_DIM_STAT, 16, 16⟩
def fDIM_NTC_TEMP : Fld := ⟨aDEV_DIM_STAT, 8, 8⟩
def fDIM_NTC_FAULT : Fld := ⟨aDEV_DIM_STAT, 4, 1⟩
def fDIM_BIN_LOST : Fld := ⟨aDEV_DIM_STAT, 3, 1⟩
def fDIM_BIN_RANGE : Fld := ⟨aDEV_DIM_STAT, 2, 1⟩
def fDIM_NIGHT : Fld := ⟨aDEV_DIM_STAT, 1, 1⟩
def fDIM_XFADE : Fld := ⟨aDEV_DIM_STAT, 0, 1⟩
def fCDIM_CODE (c : Nat) : Fld := ⟨aCHS_DIM c, 16, 16⟩
def fCDIM_MODE (c : Nat) : Fld := ⟨aCHS_DIM c, 15, 1⟩
def fCDIM_MINCLIP (c : Nat) : Fld := ⟨aCHS_DIM c, 14, 1⟩
def fCDIM_PAT_ACT (c : Nat) : Fld := ⟨aCHS_DIM c, 13, 1⟩
def fCDIM_REFUSED (c : Nat) : Fld := ⟨aCHS_DIM c, 12, 1⟩
def fCDIM_ON16 (c : Nat) : Fld := ⟨aCHS_DIM c, 0, 12⟩
def fMATCH (c : Nat) : Fld := ⟨aCHCFG_DIM c, 0, 11⟩
def fRFLOOR : Fld := ⟨aDIM_CFG, 16, 16⟩
def fXFADE_S : Fld := ⟨aDIM_CFG, 8, 8⟩
def fDIM_SRC : Fld := ⟨aDIM_CFG, 0, 2⟩
def fNOON : Fld := ⟨aDIM_LEVEL, 16, 16⟩
def fNIGHT : Fld := ⟨aDIM_LEVEL, 0, 16⟩
def fOBS_HI : Fld := ⟨aDIM_SCHED, 27, 5⟩
def fNOON_START : Fld := ⟨aDIM_SCHED, 16, 11⟩
def fOBS_LO : Fld := ⟨aDIM_SCHED, 11, 5⟩
def fNIGHT_START : Fld := ⟨aDIM_SCHED, 0, 11⟩
def fBIN_TAU : Fld := ⟨aDIM_BIN 0, 8, 10⟩
def fBIN_LOSS : Fld := ⟨aDIM_BIN 0, 1, 1⟩
def fBIN_INPUT : Fld := ⟨aDIM_BIN 0, 0, 1⟩
def fXHI : Fld := ⟨aDIM_BIN 1, 16, 16⟩
def fXLO : Fld := ⟨aDIM_BIN 1, 0, 16⟩
def fNTC_SUB : Fld := ⟨aDIM_DERATE, 16, 8⟩
def fKNEE : Fld := ⟨aDIM_DERATE, 8, 8⟩
def fNTC_BETA : Fld := ⟨aDIM_NTC, 16, 16⟩
def fNTC_NOM : Fld := ⟨aDIM_NTC, 0, 16⟩
def fSTAGGER (n : Nat) : Fld := ⟨aDIM_BANK n, 17, 1⟩
def fPERIOD (n : Nat) : Fld := ⟨aDIM_BANK n, 0, 17⟩
def fPHASE (n : Nat) : Fld := ⟨aDIM_PHASE n, 0, 17⟩
def fPAT_T1 (p : Nat) : Fld := ⟨aPAT_CFG p 0, 16, 16⟩
def fPAT_WIDTH (p : Nat) : Fld := ⟨aPAT_CFG p 0, 4, 4⟩
def fPAT_SYNC (p : Nat) : Fld := ⟨aPAT_CFG p 0, 2, 1⟩
def fPAT_MODE (p : Nat) : Fld := ⟨aPAT_CFG p 0, 0, 2⟩
def fPAT_HI (p : Nat) : Fld := ⟨aPAT_CFG p 1, 16, 16⟩
def fPAT_LO (p : Nat) : Fld := ⟨aPAT_CFG p 1, 0, 16⟩
def fPAT_T2 (p : Nat) : Fld := ⟨aPAT_CFG p 2, 0, 16⟩
def fPAT_START_NS (p : Nat) : Fld := ⟨aPAT_CFG p 4, 0, 32⟩
def fPAT_START_LO (p : Nat) : Fld := ⟨aPAT_CFG p 5, 0, 32⟩
def fPAT_START_HI (p : Nat) : Fld := ⟨aPAT_CFG p 6, 0, 16⟩
def fPAT_ENTRY (p i : Nat) : Fld := ⟨aPAT_CFG p (8 + i / 4), 8 * (i % 4), 8⟩
def fDEFCODE (n : Nat) : Fld := ⟨aDIM_ASP n, 16, 16⟩
def fDEFLEVEL (n : Nat) : Fld := ⟨aDIM_ASP n, 0, 2⟩

-- "Lamp supervision"
def fSUP_TEMP (c : Nat) : Fld := ⟨aCHS_SUP c, 24, 8⟩
def fSUP_TEMP_VALID (c : Nat) : Fld := ⟨aCHS_SUP c, 23, 1⟩
def fSUP_SIG_LEARNT (c : Nat) : Fld := ⟨aCHS_SUP c, 22, 1⟩
def fSUP_CLIP (c : Nat) : Fld := ⟨aCHS_SUP c, 21, 1⟩
def fSUP_PROBE (c : Nat) : Fld := ⟨aCHS_SUP c, 20, 1⟩
def fSUP_UNSUP (c : Nat) : Fld := ⟨aCHS_SUP c, 19, 1⟩
def fSUP_SUSPECT (c : Nat) : Fld := ⟨aCHS_SUP c, 18, 1⟩
def fSUP_PROOF (c : Nat) : Fld := ⟨aCHS_SUP c, 16, 2⟩
def fSUP_LITPROOF (c : Nat) : Fld := ⟨aCHS_SUP c, 15, 1⟩
def fSUP_RAIL_CAUSE (c : Nat) : Fld := ⟨aCHS_SUP c, 14, 1⟩
def fSUP_TSD_CAUSE (c : Nat) : Fld := ⟨aCHS_SUP c, 13, 1⟩
def fSUP_NLED_EFF (c : Nat) : Fld := ⟨aCHS_SUP c, 8, 5⟩
def fSUP_LATCH (c k : Nat) : Fld := ⟨aCHS_SUP c, k, 1⟩
def fSUP_LATCHES (c : Nat) : Fld := ⟨aCHS_SUP c, 0, 7⟩
def fTC (c : Nat) : Fld := ⟨aCHCFG_SUP c, 8, 8⟩
def fPROBE_OFF (c : Nat) : Fld := ⟨aCHCFG_SUP c, 0, 1⟩
def fSIG_VHI (c : Nat) : Fld := ⟨aSUP_SIG c 0, 16, 16⟩
def fSIG_VLO (c : Nat) : Fld := ⟨aSUP_SIG c 0, 0, 16⟩
def fSIG_TREF (c : Nat) : Fld := ⟨aSUP_SIG c 1, 24, 8⟩
def fSIG_NLED (c : Nat) : Fld := ⟨aSUP_SIG c 1, 16, 5⟩
def fSIG_LEARNT (c : Nat) : Fld := ⟨aSUP_SIG c 1, 0, 1⟩
def fVON : Fld := ⟨aSUP_CFG0, 24, 8⟩
def fSTEP : Fld := ⟨aSUP_CFG0, 16, 8⟩
def fOVH : Fld := ⟨aSUP_CFG0, 8, 8⟩
def fSTRAY_I : Fld := ⟨aSUP_CFG0, 0, 8⟩
def fXCHK_MN : Fld := ⟨aSUP_CFG1, 0, 1⟩
def fXCHK_NFLAG : Fld := ⟨aDEV_XCHK_STAT, 24, 8⟩
def fXCHK_FIRST : Fld := ⟨aDEV_XCHK_STAT, 16, 7⟩
def fXCHK_STALL : Fld := ⟨aDEV_XCHK_STAT, 4, 1⟩
def fXCHK_SUSP : Fld := ⟨aDEV_XCHK_STAT, 3, 1⟩
def fXCHK_LIGHT : Fld := ⟨aDEV_XCHK_STAT, 2, 1⟩
def fXCHK_DEMAND : Fld := ⟨aDEV_XCHK_STAT, 1, 1⟩
def fXCHK_ACTIVE : Fld := ⟨aDEV_XCHK_STAT, 0, 1⟩

-- "Scanned mimic panels"
def fMTX_HELD : Fld := ⟨aMTX_STAT, 8, 8⟩
def fMTX_CLAMPED : Fld := ⟨aMTX_STAT, 1, 1⟩
def fMTX_RUN : Fld := ⟨aMTX_STAT, 0, 1⟩
def fMTX_PRE : Fld := ⟨aMTX_CFG, 28, 4⟩
def fMTX_FIRST : Fld := ⟨aMTX_CFG, 21, 3⟩
def fMTX_K : Fld := ⟨aMTX_CFG, 19, 2⟩
def fMTX_SPLIT : Fld := ⟨aMTX_CFG, 18, 1⟩
def fMTX_EN : Fld := ⟨aMTX_CFG, 17, 1⟩
def fMTX_FRAME : Fld := ⟨aMTX_CFG, 0, 17⟩
def fLED_CODE (e : Nat) : Fld := ⟨aMTX_LED (e / 2), 16 * (e % 2), 16⟩
def fMTX_DARK (e : Nat) : Fld := ⟨aMTX_DARK (e / 32), e % 32, 1⟩
def fMTX_STRAY (e : Nat) : Fld := ⟨aMTX_STRAY (e / 32), e % 32, 1⟩

-- "Host interfaces and the Cyhar mailbox"
def fMBX_READY : Fld := ⟨aMBX_STAT, 31, 1⟩
def fMBX_RESETTING : Fld := ⟨aMBX_STAT, 8, 1⟩
def fMBX_CQ_FULL : Fld := ⟨aMBX_STAT, 3, 1⟩
def fMBX_DUP_TAG : Fld := ⟨aMBX_STAT, 2, 1⟩
def fMBX_TAIL_BAD : Fld := ⟨aMBX_STAT, 1, 1⟩
def fMBX_ACCESS_ERR : Fld := ⟨aMBX_STAT, 0, 1⟩

-- "Register views, elevation and field access"
def fSEC_PW_WEAK : Fld := ⟨aDEV_SEC_STAT, 7, 1⟩
def fSEC_ELEV_TMO : Fld := ⟨aSEC_CFG, 8, 8⟩
def fSEC_RING_PW : Fld := ⟨aSEC_CFG, 0, 1⟩

end Sys2Proof.Machine
end

