-- ==== Sys2Proof/Machine/State.lean ====
section
/-! DEFINITION. The state of the XH6128 as plain data, its reset value, and the reasons a step can stop. -/

namespace Sys2Proof.Machine

/-- An event record before its SEQ is given (R422): stamp, quality, class, source, payload words. -/
structure EvtRec where
  sec : Nat
  ns : Nat
  qual : Nat
  cls : Nat
  src : Nat
  payload : List Nat
  deriving DecidableEq, Repr

/-- The event log beside its registers (R425, R426). -/
structure EvtLog where
  /-- LOG_START has been written since Dawn (R425). -/
  started : Bool
  /-- Records that wait at their producers, oldest first; a producer is a SOURCE kind. -/
  queue : List EvtRec
  /-- Records a full producer queue dropped since the last OVERFLOW record. -/
  dropped : Nat
  /-- The Nightwatch buffer of at most 64 records (R425, R434). -/
  nwBuf : List EvtRec
  nwDropped : Nat
  /-- EVT_HEAD - EVT_RDSEQ is at or above THRESH (R426, edge memory of source 57). -/
  filled : Bool
  /-- The restored event tail, 64-byte records as bytes (R420). -/
  tail : List Byte
  deriving DecidableEq, Repr

/-- The interrupt controller (R346-R358). Keys of `pend` and `mask`: t = 0-3 for the private bank of
SC0, SC1, SFC, HOST, and 3 + w for the shared word w = 1-7. -/
structure Icu where
  pend : Tab Word
  mask : Tab Word
  /-- In-service flag, request, moderation window running, wait state, by target 0 SC0, 1 SC1, 2 SFC, 3 HOST. -/
  insvc : Tab Bool
  request : Tab Bool
  window : Tab Bool
  waiting : Tab Bool
  /-- ICU_DLVw by word: the sources of the HOST delivery in service (R354). -/
  dlv : Tab Word
  /-- Tick at which a target's moderation window ends (R356). -/
  windowEnd : Tab Nat
  /-- The 25-tick minimum high time of HOST_IRQ_N is running, and the tick at which the pin went high (R354). -/
  minHigh : Bool
  highAt : Nat
  /-- Single-bit errors corrected on a read of SRAM, by region 0 SC0, 1 SC1, 2 SFC (R8; the edges of source 9, R359),
  3 the hardware tables. R8 names no counter: that each region has one without a bound, which no register shows, is DESIGN CHOICE (log entry 84). -/
  ecc : Tab Nat
  deriving DecidableEq, Repr

/-- The always-on Nightwatch domain beside DEV_NW_STAT (R434, R435, R438) and the heartbeat book of SC1 (R441). -/
structure Nightwatch where
  /-- Ticks of Nightwatch's own oscillator since power-on. -/
  tick : Nat
  /-- Start times of the last three restarts of SC0 and of SC1, newest first. -/
  sc0Starts : List Nat
  sc1Starts : List Nat
  /-- The previous heartbeat code of SC0 and the count of consecutive wrong codes. -/
  sc0Code : Nat
  sc0Wrong : Nat
  /-- Nightwatch ticks of the last accepted heartbeat of SC0 and of SC1 (R435). -/
  sc0Beat : Nat
  sc1Beat : Nat
  /-- Recovery step of R437 in progress, 0 when SC0 runs. -/
  sc0Step : Nat
  /-- Cause and memory address of the last loss of SC0 and of SC1 (R495). -/
  sc0Cause : Nat
  sc0Addr : Nat
  /-- Tick of that loss, and whether an error in the hardware tables waits for step 3 (R437, R443). -/
  sc0LostAt : Nat
  sc0Table : Bool
  /-- The scanned mark (R342). -/
  scanned : Bool
  deriving DecidableEq, Repr

/-- The phase grid (R33, R35). -/
structure Grid where
  running : Bool
  tick : Nat
  /-- Length of the present run of misses by commit class (R39, R41). -/
  runs : Tab Nat
  /-- The tick after the last one on which an event of a fixed instant was taken, by row and instance (R34, R37). -/
  took : Tab Nat
  deriving DecidableEq, Repr

/-- The time base (R253): seconds, nanoseconds and the carried remainder in units of 2^-40 ns;
the UTC offset in use and the one received (R262, R277), in seconds; the quality flags of R258 with the tick from which each held,
newest first, and the tick of the last step with its size in ns, by which a stamp of an earlier edge is taken (R256, R265). -/
structure TimeBase where
  sec : Nat
  ns : Nat
  frac : Nat
  utc : Int
  utcNext : Int
  flags : List (Nat × Nat)
  moved : Option (Nat × Int)
  deriving DecidableEq, Repr

/-- Levels of the pins that no register shows whole. -/
structure Pins where
  resetN : Bool
  pfwN : Bool
  hostSleep : Bool
  mode3032Strap : Bool
  aspectReady : Bool
  ppsOut : Bool
  bstGate : Bool
  /-- HOST_IRQ_N is high (R354, R358). -/
  hostIrqN : Bool
  deriving DecidableEq, Repr

/-- The sub-ring of one converter in the capture ring (R428): page number since Dawn, words in the page,
tick of the last word, channel of the last hold group, tick at which writing last began, placement epoch written. -/
structure CapRing where
  page : Nat
  words : Nat
  last : Nat
  chan : Nat
  since : Nat
  epoch : Nat
  deriving DecidableEq, Repr

/-- The capture arming (R430) and the trigger in progress (R431). -/
structure Capture where
  /-- ARG0[3:0] of the arming: 0 NOW, 1 EVENT, 2 TIME, 3 PIN. -/
  trig : Nat
  cls : Nat
  src : Option Nat
  /-- Full-width target of a TIME arming, in nanoseconds. -/
  target : Nat
  /-- POST in µs. -/
  post : Nat
  rings : Tab CapRing
  /-- State of the ring that Dusk has stopped, taken up again at its exit (R429). -/
  paused : Option Nat
  deriving DecidableEq, Repr

/-- The hardware accumulators of the lifetime record (R416) and its persistence (R418-R421). -/
structure Life where
  /-- Counts and remainders not yet folded, by byte offset in the working record. -/
  acc : Tab Nat
  /-- Nightwatch tick of the last fold. -/
  lastFold : Nat
  /-- The next of lifetime area slots 1-7, journal slots 0-7 and snapshot slots 0-55. -/
  nextCopy : Nat
  nextJournal : Nat
  nextSnap : Nat
  /-- The journal slot being programmed, and the reason it is (0 none, 1 periodic, 2 PFW, 3 Midnight). -/
  writing : Nat
  /-- A snapshot write stopped by PFW_N waits to be repeated (R419). -/
  snapStopped : Bool
  /-- A persistence fell due in Dusk, or a PFW persistence with SC0 lost (R418, R440). -/
  due : Bool
  /-- Lifetime area slot of the copy being programmed, Nightwatch tick of the last good persistence. -/
  copySlot : Nat
  lastGood : Nat
  /-- The flash lifetime region: journal slots J0-J7 and snapshot slots S0-S55, the bytes that are not 0 (R418). -/
  journal : Tab (Tab Byte)
  snaps : Tab (Tab Byte)
  /-- Core-die junction temperature of the last fold, in °C (R416). -/
  core : Int
  /-- Nightwatch ticks at which the next periodic persistence is due and at which the last snapshot was made, and the local day from
  whose 00:00 on no snapshot is due (R418, R421). -/
  dueAt : Nat
  snapAt : Nat
  snapDay : Int
  deriving DecidableEq, Repr

/-- Dawn, the power-fail warning, Dusk and the Morning check beside DEV_PWR_STAT (R373-R395). -/
structure Power where
  /-- Power good holds (R374). -/
  good : Bool
  /-- Nightwatch tick at which the Dawn and its present phase began, and the ms of the ended phases. -/
  dawnStart : Nat
  phaseStart : Nat
  phaseMs : List Nat
  /-- The first RULE commit at or after 100 ms from the start of D5 completes Dawn (R379). -/
  late : Bool
  /-- From a fall of PFW_N until it has been high for 1 s; Nightwatch tick of its last rise (R382). -/
  pfw : Bool
  pfwAt : Nat
  /-- The last commit before Dusk has latched the Dusk set; one entry per kept channel (R383). -/
  latched : Bool
  duskSet : Tab Bool
  /-- Nightwatch tick of the wake in progress (R357). -/
  wakeTick : Nat
  /-- The fallback table: ceiling code plus one by channel, role by bank (R389). -/
  table : Tab Nat
  roles : Tab Nat
  /-- Morning check: waiting, and the tick at which it began to wait or to run; next bank, banks whose test opening is out, probed
  channels with the pulses left, channels latched by the probe. -/
  mornWait : Bool
  mornAt : Nat
  /-- The count of daily fire times reached, up to the last one that the comparator has answered for (R272, R391). -/
  mornDay : Int
  /-- Twice the bank whose slot comes next, and one more once its probe has begun. -/
  mornBank : Nat
  mornOpen : Tab Bool
  probe : Tab Nat
  mornLatched : Nat
  /-- Step 2 of Dusk exit is done: Dusk operation has ended (R386). -/
  resumed : Bool
  deriving DecidableEq, Repr

/-- An observation slot (R167): written since its initialisation, value and grid tick of the last write. -/
structure ObsSlot where
  written : Bool
  value : Int
  tick : Nat
  deriving DecidableEq, Repr

/-- A time stamp with its quality byte, taken under the flags in force on its own tick (R253, R258). -/
structure Stamp where
  sec : Nat
  ns : Nat
  qual : Nat
  deriving DecidableEq, Repr

/-- The filter of a sense input (R172): accepted level, consecutive samples at the other level, the stamp of the raw edge
that began the run, and that of the edge of the accepted level (R256). -/
structure Sense where
  level : Bool
  run : Nat
  raw : Stamp
  stamp : Stamp
  deriving DecidableEq, Repr

/-- The observation store, its snapshot with the STALE flags that the snapshot gave, the sense filters, the activation windows and
the snoop hit counters, and the tick after the last sample of the sense inputs (R166-R179). -/
structure Obs where
  slots : Tab ObsSlot
  snap : Tab ObsSlot
  stale : Tab Bool
  sense : Tab Sense
  twin : Tab Bool
  hits : Tab Word
  senseAt : Nat
  deriving DecidableEq, Repr

/-- A demand that a holding group issues (R182): entry, aspect, authority 0 MAY 1 MUST 2 MUST_NOT, priority,
presentation. -/
structure Demand where
  entry : Nat
  asp : Nat
  auth : Nat
  prio : Nat
  level : Nat
  patEn : Nat
  pat : Nat
  bright : Nat
  deriving DecidableEq, Repr

/-- The rule engine (R181-R185) and SFC's copy of the held states (R151, R183). -/
structure RuleEng where
  held : Tab Bool
  out : Tab Bool
  holds : Tab Bool
  demands : List Demand
  /-- Grid tick 0 of the present rule period, an evaluation in progress and the tick it began, and, for one that runs on past a later
  start event, the snapshot it walks (R40). -/
  start : Nat
  running : Bool
  walk : Nat
  late : Option (Tab ObsSlot × Tab Bool)
  sfcHeld : Tab Bool
  deriving DecidableEq, Repr

/-- A configuration slot in flash (R369): the merged image as its decoded words by LOCATION (R362). -/
structure CfgSlot where
  gen : Nat
  marked : Bool
  good : Bool
  words : Tab Word
  deriving DecidableEq, Repr

/-- The findings of the checks (R366, R367): clamp records as (LOCATION, lowest bit, width, written, applied) and those beyond
256, finding records as (KIND, INDEX, DETAIL) and those beyond 256, reserved bits cleared. -/
structure CfgRep where
  clamps : List (Nat × Nat × Nat × Nat × Nat)
  covf : Nat
  finds : List (Nat × Nat × Nat)
  fovf : Nat
  rsvd : Nat
  deriving DecidableEq, Repr

/-- An image stored in step 8 that waits for its activation (R365, R368): merged words, flash slot, generation, sections present
(bit n: ID n), IMAGE_ID, the command, a firmware image with it, the findings, the reasons of disabled aspects (R68), and that it has been
activated and its mark is still to be written (R369, R370). -/
structure CfgWait where
  words : Tab Word
  slot : Nat
  gen : Nat
  present : Nat
  image : Nat
  job : Nat
  fw : Bool
  rep : CfgRep
  disabled : Tab Nat
  done : Bool
  deriving DecidableEq, Repr

/-- The configuration: active indirect tables, reasons of disabled aspects, staging, the image that waits for activation, flash
slots and report (R360-R372). -/
structure Cfg where
  /-- Words of spaces 0x01-0x05 that are active, by LOCATION. -/
  words : Tab Word
  /-- DIS_REASON of the disabled aspects in force (R68). -/
  disabled : Tab Nat
  /-- The staged tables of every space once a staging has reached step 5 (R365). -/
  staged : Option (Tab Word)
  bytes : List Byte
  total : Nat
  owner : Option Nat
  /-- Nightwatch tick of the last accepted block. -/
  touched : Nat
  wait : Option CfgWait
  slots : Tab CfgSlot
  report : List Byte
  deriving DecidableEq, Repr

/-- A line of a context's memory-window buffer (R493). -/
structure Line where
  addr : Nat
  bytes : List Byte
  deriving DecidableEq, Repr

/-- A mailbox context's own copies of the index registers, data latches, TIME_NS latch, page and line buffer (R488). -/
structure CtxCopy where
  obsIdx : Nat
  ruleIdx : Nat
  ldIdx : Nat
  bistIdx : Nat
  obsLatch : List Nat
  ruleLatch : List Nat
  ldLatch : List Nat
  bistLatch : List Nat
  /-- TIME_NS, TIME_SEC_LO, TIME_SEC_HI and QUAL of the last latch (R278). -/
  timeLatch : List Nat
  page : Nat
  /-- Lines in order of fetch, oldest first, and the addresses of the fetches in progress (discarded when the Bool is true). -/
  lines : List Line
  fetch : List (Nat × Bool)
  deriving DecidableEq, Repr

/-- A set-point of a channel as the resolver commits it (R101): shown or dark, base code, pattern engine plus one
(0 for none), fail-lit compensation (R64), restrictive floor (R115). -/
structure SetPoint where
  lit : Bool
  code : Nat
  pat : Nat
  fail : Bool
  restr : Bool
  deriving DecidableEq, Repr

/-- A hold of a channel or scanned LED that waits for conversion (R123, R162): the channel, the LED index plus one
(0 for a channel of its own), on-phase or off-phase, the state commanded at the hold tick, the hold tick and stamp,
the numerator of I_op, whether the sample is set aside (R127), the learning step (R141), whether it is void because its converter's
work moved while a quantity of it was under way (R210), and the result words so far. -/
structure Hold where
  chan : Nat
  led : Nat
  on : Bool
  lit : Bool
  tick : Nat
  held : Stamp
  iop : Nat
  aside : Bool
  learn : Nat
  bankClosed : Bool
  /-- The sample belongs to a probe pulse (R137) or to a Morning probe pulse (R392). -/
  probe : Bool
  morn : Bool
  void : Bool
  res : List Nat
  deriving DecidableEq, Repr

/-- The drive and supervision state of a channel beside its CHS words. -/
structure Chan where
  /-- Last committed set-point, the one under way to the drive die, the pending register, and the one in force (R22, R23). -/
  comm : SetPoint
  sent : Option SetPoint
  pend : Option SetPoint
  cur : SetPoint
  /-- State commanded for the present period, pattern dark phases included (R122). -/
  lit : Bool
  /-- Mode 0 ANALOGUE, 1 PWM; on-time by R103-R105; pulse issued; tick of the period start; T_L of the period, 0 before the
  first one (R107, R109); tick of the front of the pulse that runs, which at 100 % duty lies in an earlier period (R136). -/
  mode : Nat
  nOn : Nat
  pulse : Nat
  start : Nat
  period : Nat
  front : Nat
  /-- The PWM commit of the next period missed its deadline (R45). -/
  missed : Bool
  /-- A Morning probe pulse runs in this period (R392). -/
  morn : Bool
  /-- I_op of the first 150 ticks of the pulse, which are measured, and of the rest of it, times 2^20, in 1/1023 mA (R75, R141). -/
  iop : Nat
  iopRun : Nat
  /-- Probe interval: in progress or not yet judged, periods left, excess on-time, probe in this period, early probe wanted
  (R137, R138). -/
  intvl : Bool
  left : Nat
  excess : Nat
  probing : Bool
  early : Bool
  /-- Learning step of this period, 0 when none, and the V_F of the steps taken, mV (R141). -/
  learn : Nat
  learnV : List Int
  /-- Suspect class plus one and its sample words, by kind of sample (R130). -/
  susOn : Nat
  susOff : Nat
  sampOn : List Nat
  sampOff : List Nat
  /-- The period in progress began while the bank was still closing (R78). -/
  ramp : Bool
  /-- A fault latch of the channel has cleared since the last commit (R71). -/
  cleared : Bool
  /-- Consecutive agreements by kind (R131), and consecutive lit agreements for latches that clear (R132); the tick from
  which samples count for proof (R131). -/
  agrOn : Nat
  agrOff : Nat
  proofAt : Nat
  /-- The lit phase in progress has been PROVEN_LIT (R131). -/
  phaseProven : Bool
  /-- T_est in mK, tick of its last update, seeded since Dawn, tick the channel last went dark (R145). -/
  tEst : Int
  tUpd : Nat
  seeded : Bool
  darkAt : Nat
  /-- Consecutive evaluations at or above OVH (R146); one more than the tick from which on every evaluation was at or below
  OVH - 10 K, 0 for none (R132). -/
  hot : Nat
  coolAt : Nat
  /-- Last measured on-phase forward voltage in mV, current code and cathode voltage (R85, R86). -/
  vf : Int
  isCode : Nat
  vk : Nat
  /-- Largest V_F of a column in the last frame (R161); the last on-phase read starved, or below 10 % of I_op (R86). -/
  vfPrev : Int
  starved : Bool
  noCur : Bool
  /-- Governor factors (R94). -/
  fLamp : Nat
  fDiss : Nat
  fBudget : Nat
  deriving DecidableEq, Repr

/-- A bank switch beside DEV_BANK_STAT: commanded closed, closing ramp running, retry wait of BANK_OC (R80),
a reclose asked for by SYS_FLT_CLR (R432), closed again since the last commit (R71). -/
structure Bank where
  closed : Bool
  /-- A STRAY bank command of SUP is under way to the drive die (R147). -/
  cmd : Bool
  closing : Bool
  wait : Bool
  reclose : Bool
  again : Bool
  /-- Grid tick of the last opening or closing command (R78-R80). -/
  at_ : Nat
  deriving DecidableEq, Repr

/-- The boost and the governors beside DEV_BOOST_STAT (R82-R97). Voltages in mV. -/
structure Boost where
  target : Nat
  /-- VLAMP_MN as last formed, and as latched with the fallback table (R93). -/
  mnForm : Nat
  mnLatch : Nat
  vlamp : Nat
  vsup : Nat
  /-- Failed soft-starts of this Dawn, soft-start ended (R378, R375). -/
  fails : Nat
  ended : Bool
  /-- Grid ticks of the last clamp onsets, newest first (R91). -/
  onsets : List Nat
  /-- Milliseconds the sink dissipation has been below 95 % of the limit (R95). -/
  calm : Nat
  /-- f_diss by class 0 INFORMATIONAL, 1 PERMISSIVE, 2 RESTRICTIVE. -/
  diss : Tab Nat
  satLogged : Bool
  /-- Committed duty word, and the carried fraction of the gate on-time (R83). -/
  duty : Int
  dutyFrac : Nat
  /-- The duty word of the present slot-0 period, and the tick that period began (R82). -/
  dutyNow : Int
  cyc : Nat
  /-- Slot 0 has its Dusk period of 200 ticks (R51). -/
  wide : Bool
  /-- Ticks of the gate pulse still to come in this switching cycle, and on-times of 1 or 2 ticks not yet issued (R82, R83). -/
  gateLeft : Nat
  owed : Nat
  /-- The Midnight fallback issues gate pulses (R93). -/
  fallOn : Bool
  /-- On-time results in a row while DLM_HOLD lasts (R42), and the duty held. -/
  onTime : Nat
  /-- Drive-die junction temperature in 0.1 °C (R97). -/
  tj : Int
  /-- f_junction as last evaluated (R94, R97). -/
  fJunc : Nat
  /-- Hiccup until a soft-start succeeds, three clamp onsets within 1 s until quiet, BOOST_FB_FAULT until Dawn (R432). -/
  hic : Bool
  clampTrip : Bool
  fb : Bool
  /-- The peak limit has acted since the last 1 ms computation (R89). -/
  peak : Bool
  /-- Thermal shutdown has begun and no commit has followed its end (R97). -/
  tsdHold : Bool
  /-- One more than the tick at which the ramp of the present soft-start reached the target, 0 before (R88), and the tick at which
  the hiccup began to hold the gate low (R90). -/
  rampAt : Nat
  hicAt : Nat
  deriving DecidableEq, Repr

/-- An aspect beside its ASP words. -/
structure Asp where
  /-- Demand of the last commit (R62). -/
  prev : Bool
  /-- This resolution: base code, pattern engine plus one, fail-lit, shown (channels commanded lit). -/
  code : Nat
  pat : Nat
  fail : Bool
  shown : Bool
  /-- RULE_CONFLICT run (R57), PATTERN_REFUSED run (R121). -/
  conflict : Bool
  refused : Bool
  /-- Tick of the commit that the proving limit counts from (R71). -/
  since : Nat
  /-- Cross-check: tick of the first period in which the flagged group held; failing periods of the demand and the
  light check with the tick 0 of the last; a mismatch active (R151, R152). -/
  xFirst : Option Nat
  xDem : Option Nat
  xLight : Option Nat
  xDemOn : Bool
  xLightOn : Bool
  deriving DecidableEq, Repr

/-- Resolver and cross-check (R55-R73, R150-R153). -/
structure Resolver where
  running : Bool
  /-- The resolution of this period is complete and not yet committed; the tick of its ready handshake (R38). -/
  ready : Bool
  readyAt : Nat
  /-- The resolution of this period has been committed (R39). -/
  committed : Bool
  /-- On-time rule commits in a row while RULE_STALL lasts (R43). -/
  onTime : Nat
  asps : Tab Asp
  /-- LITPROOF, PROOF = PROVEN_LIT and the channel lost (R134), by channel, as latched at tick 5,000 (R20). -/
  litproof : Tab Bool
  provenLit : Tab Bool
  lost : Tab Bool
  /-- SFC has finished its evaluation of this period; consecutive skips; periods still suspended (R153). -/
  sfcDone : Bool
  sfcHolds : Tab Bool
  skips : Nat
  suspend : Nat
  deriving DecidableEq, Repr

/-- Dimming: schedule ramp, BRIGHT_IN, NTC_LB, pattern engines (R110-R120). -/
structure Dim where
  /-- Level the ramp began from and the tick it began. -/
  from_ : Nat
  ramp : Nat
  /-- BRIGHT_IN in mV as measured, as a 16-bit fraction, an analogue reading delivered since following or INPUT last changed,
  and a target level formed since following began (R112). -/
  mv : Int
  x : Nat
  valid : Bool
  seen : Bool
  /-- The target level A_t (R112). -/
  goal : Nat
  /-- Start tick of each engine's cycle, and SYNC engines that wait for their first aligned start (R119). -/
  patStart : Tab Nat
  patWait : Tab Bool
  /-- Lamp epoch (R107). -/
  epoch : Nat
  /-- NTC_LB reading code and temperature in 0.1 °C. -/
  ntcCode : Nat
  ntc : Int
  deriving DecidableEq, Repr

/-- A scanned LED's own drive and supervision state (R160-R163), as a channel holds it; its last measured current code and
cathode voltage (R95); a Morning probe pulse in this frame (R392). -/
structure Led where
  code : Nat
  iop : Nat
  scale : Nat
  lit : Bool
  mode : Nat
  nOn : Nat
  pulse : Nat
  isCode : Nat
  vk : Nat
  intvl : Bool
  left : Nat
  excess : Nat
  probing : Bool
  early : Bool
  susOn : Nat
  susOff : Nat
  sampOn : List Nat
  sampOff : List Nat
  agrOn : Nat
  agrOff : Nat
  proofAt : Nat
  morn : Bool
  deriving DecidableEq, Repr

/-- The scan group (R154-R165): MTX_CFG as the frame in progress began with it (R165), its start tick, slot in progress plus
one, the tick from which the LEDs are those of the present layout, codes of the frame. -/
structure Matrix where
  live : Nat
  frame : Nat
  slot : Nat
  born : Nat
  leds : Tab Led
  deriving DecidableEq, Repr

/-- A computed and not yet committed result of a loop slot (R218). -/
structure LoopRes where
  u : Int
  e : Int
  i : Int
  d : Int
  sat : Bool
  reseed : Bool
  deriving DecidableEq, Repr

/-- A loop slot (R216-R224): running; started and not yet committed, so that its presets still follow the input (R221); moved to
another record and not yet committed on it (R224); committed ramp (Q15 with 4 more bits), integrator, D filter, last input, last
output; a reseed that is due; what tick 0 of the period latched (input, set-point, ramp after its step, feed-forward, a
hold by R220 or R224, a source stale, a period latched and not yet judged, the sample of slot 0 to come); the result that waits
for its commit; the tick at which it last went to MODE OFF. -/
structure LoopSlot where
  run : Bool
  fresh : Bool
  moved : Bool
  r : Int
  i : Int
  d : Int
  xPrev : Int
  u : Int
  reseed : Bool
  x : Int
  sp : Int
  rNext : Int
  f : Int
  hold : Bool
  stale : Bool
  open_ : Bool
  wait : Bool
  res : Option LoopRes
  offAt : Nat
  deriving DecidableEq, Repr

/-- The loop engine: its slots, spare records in use, and the slots lost until Dawn (R224). -/
structure Loops where
  slots : Tab LoopSlot
  spares : Nat
  lost : Tab Bool
  deriving DecidableEq, Repr

/-- A conversion in progress: kind 0 BOOST, 1 HOUSEKEEPING, 2 SUPERVISION, 3 INJECTED, 4 REGULAR (R197); sequence slot,
shared point, UNIT; NOT_READY, placement epoch and tick as it started (R195, R210). -/
structure AdcItem where
  kind : Nat
  slot : Nat
  point : Nat
  phys : Bool
  tag : Bool
  epoch : Nat
  start : Nat
  deriving DecidableEq, Repr

/-- A regular or injected sequencer (R200-R203): slots left of the running pass as (slot, point, PHYS), pending
trigger, pass count, LATE, overruns in this pass and in the pass before, the tick of the last trigger, and the tick on which
the slots of the running pass are held, or from which they are (R200). -/
structure Seqr where
  run : Bool
  left : List (Nat × Nat × Bool)
  pend : Bool
  pass : Nat
  late : Bool
  ovr : Bool
  overPrev : Bool
  at_ : Option Nat
  hold : Nat
  deriving DecidableEq, Repr

/-- A converter (R191-R212): conversion in progress, what waits by the order of R197, its sequencers, reload state
(0 none, 1 waiting for its injected work, 2 reloading), the CHK and BG codes of the last round, BIST, and the tick at which
the reload began (R196 step 2). -/
structure Conv where
  cur : Option AdcItem
  boost : Bool
  hk : List Nat
  holds : List Hold
  reg : Seqr
  inj : Seqr
  reload : Nat
  chk : Option Nat
  bg : Option Nat
  bgbad : Nat
  bist : Bool
  reloadAt : Nat
  deriving DecidableEq, Repr

/-- A converter pair: consecutive disagreements, last d, tick of the last move of work (R206-R209). -/
structure AdcPair where
  disagree : Nat
  d : Nat
  moved : Nat
  deriving DecidableEq, Repr

/-- A TRIM_RELOAD in progress (R196): context, command slot, converters left, passed and failed. -/
structure Reload where
  ctx : Nat
  left : Nat
  pass : Nat
  fail : Nat
  deriving DecidableEq, Repr

/-- The conversion subsystem (R191-R212): converters, pairs, the reload command, tick of the last boost hold, the stamp of the last
accepted ADC_TRIG edge (R201), the tick at which each reference buffer was enabled (R195), and the start of each converter's
schedule of grid triggers where a commit restarted it (R204). -/
structure Adc where
  convs : Tab Conv
  pairs : Tab AdcPair
  reload : Option Reload
  boostAt : Nat
  edge : Stamp
  refAt : Tab Nat
  gridAt : Tab (Option Nat)
  deriving DecidableEq, Repr

/-- A safety input SINn (R282-R285): recognised closed, samples in a row at the other level, last sample; in the
window in progress: closed before it, held for judgement, every pattern sample low so far and one seen, the longest
and the present low run, highs since; SHORT_TO_24V suspect, CROSS_SHORT suspects by line, passed its most recent own
window, must still pass one (R290); a run that began before the window in progress and goes on through it; the stamp of the
raw edge that began the run, of the fall of the low run that counts in the window, and of the last accepted level (R256). -/
structure SafeIn where
  level : Bool
  run : Nat
  last : Bool
  before : Bool
  held : Bool
  pat : Bool
  seen : Bool
  maxLow : Nat
  curLow : Nat
  hiRun : Nat
  sus24 : Bool
  susX : Nat
  okWin : Bool
  need : Bool
  carry : Bool
  raw : Stamp
  fall : Stamp
  stamp : Stamp
  deriving DecidableEq, Repr

/-- A safety pair (R286-R290): disagreement count; in CLEARING both channels have closed in time; an event that sends
CLEARING back to FAULTED; the count has reached N in the disagreement that stands (R286, R288). -/
structure SafePair where
  count : Nat
  past : Bool
  both : Bool
  back : Bool
  deriving DecidableEq, Repr

/-- A test-pulse line (R283, R47): driven low, fall tick, the fall read back below 5 V, failed tests and passing windows
in a row, missed TEST commits in a row, the next window is not issued; tick of the last failed test outside a window. -/
structure TpLine where
  low : Bool
  at_ : Nat
  fallOk : Bool
  fails : Nat
  passes : Nat
  miss : Nat
  skip : Bool
  lowAt : Nat
  deriving DecidableEq, Repr

/-- An STO output on the drive die and its tests (R281, R295-R297): switched on by refresh words; last accepted code
and its tick; the word under way; off-pulse state: start, discarded, a repeat, STUCK_HIGH, STUCK_LOW and CROSS reads of
this pulse and of the failed one before; another output failed at the second read; missed TEST commits; a confirmed
class that the next safety cycle acts on; tick of the last pulse's start, and of the last change of the high side; its judgement awaited. -/
structure StoOut where
  on : Bool
  code : Nat
  acc : Nat
  word : Option (Bool × Nat)
  pulse : Bool
  width : Nat
  discard : Bool
  again : Bool
  hi : Bool
  lo : Bool
  cross : Nat
  other : Bool
  fHi : Bool
  fLo : Bool
  fCross : Nat
  failed : Bool
  miss : Nat
  skip : Bool
  fault : Nat
  start : Nat
  since : Nat
  await : Bool
  deriving DecidableEq, Repr

/-- Safe torque off (R279-R302): safety epoch, inputs, pairs, lines, outputs, the window in progress (line, fall tick),
the seal word as read row by row and a re-read to judge, SRST_N (recognised level, run, tick of the recognised low,
ignored until released, an operation that waits for its cycle), SFC is lost (R301), and what Nightwatch holds of the
outputs: FAULT classes and LOCKED; ticks of the last safety cycle, and after the last samples of the inputs and of the pairs. -/
structure Sto where
  epoch : Option Nat
  ins : Tab SafeIn
  pairs : Tab SafePair
  lines : Tab TpLine
  outs : Tab StoOut
  win : Option (Nat × Nat)
  sealWord : Nat
  reread : Bool
  srstHigh : Bool
  srstRun : Nat
  srstLow : Nat
  srstIgnore : Bool
  srstOp : Bool
  sfcLost : Bool
  nwFault : Tab Nat
  nwLocked : Tab Bool
  cycleAt : Nat
  sinAt : Nat
  discAt : Nat
  deriving DecidableEq, Repr

/-- One direction of the die-to-die link (R9-R15): last accepted sequence number; the transfer in flight, in the sender's
buffer until it is accepted, as (traffic class of R10, instance); the transfers accepted whose effect has not yet come; a
retransmission awaited; ticks of the last errors of each of the direction's 32 lanes. -/
structure LinkDir where
  seq : Nat
  flight : Option (Nat × Nat)
  got : List (Nat × Nat)
  retry : Bool
  lanes : Tab (List Nat)
  deriving DecidableEq, Repr

/-- The die-to-die link (R9-R15): narrow, the half in use (0 lanes 0-15, 1 lanes 16-31), lost, its directions (0 to the drive
die, 1 to the core die), ticks of the last sequence errors of the link as a whole, DEV_LINK_ERR. What waits in a direction
is `State.linkWaits`. -/
structure Link where
  narrow : Bool
  half : Nat
  lost : Bool
  dirs : Tab LinkDir
  seqErr : List Nat
  err : Nat
  deriving DecidableEq, Repr

/-- The XH3032 SPI context (R447-R456). -/
structure Spi where
  /-- MODE_3032 as sampled when power good began (R305). -/
  mode : Bool
  err : Bool
  pwLo : Nat
  ctrl : Tab Nat
  stat : Tab Nat
  full : Bool
  busy : Bool
  result : Nat
  deriving DecidableEq, Repr

/-- A frame at an egress (R233-R238): its bytes without FCS, closed with the complemented FCS (R234), ingress port (2 for
the device's own), grid tick it was queued on, ingress stamp in ns (R255), order class (0 transit, 1 PTP queue, 2 local,
3 launch), and the mailbox context plus one of a Cyhar reply. -/
structure Frame where
  bytes : List Byte
  stomp : Bool
  ingress : Nat
  tick : Nat
  stamp : Int
  qual : Nat
  kind : Nat
  ctx : Nat
  deriving DecidableEq, Repr

/-- An egress (R236-R242): the frame being sent, the queues of R237 (a launch entry with its descriptor), what producers
keep for want of room in the local and in the PTP queue (R238), the tick G of a guard that runs, and the window that is open: its descriptor and pass-class
EtherType. -/
structure Egress where
  cur : Option Frame
  launch : List (Nat × Frame)
  ptp : List Frame
  loc : List Frame
  transit : List Frame
  kept : List Frame
  keptPtp : List Frame
  guard : Option Nat
  window : Option (Nat × Nat)
  deriving DecidableEq, Repr

/-- A ring port beside its registers: its egress; module reads in a row without acknowledgement (R229); signal fail as the
protection process knows it, and a hold-off that runs (R245); the node ID and BPR last taken (R247); end of the time in
which a neighbour is learnt (R248); the tick at which the hold-off began (R245), and the last one at which a cause of signal fail was
seen (R228). -/
structure RingPort where
  out : Egress
  noAck : Nat
  fail : Bool
  holdoff : Bool
  pair : Option (Nat × Bool)
  learn : Option Nat
  holdAt : Nat
  sfAt : Nat
  deriving DecidableEq, Repr

/-- A launch descriptor's next occurrence (R239, R240): G in ns, template copied, comparator armed, the physical egresses as a mask,
window and pass class it was copied with, sequence number, and the tick at which the window that opened last ends. -/
structure Launch where
  at_ : Nat
  copied : Bool
  armed : Bool
  ports : Nat
  wlen : Nat
  pass : Nat
  seq : Nat
  closeAt : Nat
  deriving DecidableEq, Repr

/-- The copy of a frame that waits for a core (R230): its kind, port, PTP message type (R252), and ingress stamp in ns, corrected
by RXLAT, with its quality byte (R255, R258), and the message's domain. -/
structure Copy where
  kind : Nat
  port : Nat
  type : Nat
  stamp : Int
  qual : Nat
  domain : Nat
  deriving DecidableEq, Repr

/-- The ring ports (R226-R251): ports, R-APS message being sent as (request/state, DNF) and messages of it sent, guard
timer, launch occurrences, next record and SEQ of EVENT frames, copies that wait for SC0 and SC1, and the ticks at which the
guard timer began and the last R-APS message was sent (R245). -/
structure Ring where
  ports : Tab RingPort
  tx : Option (Nat × Bool)
  sent : Nat
  guard : Bool
  launch : Tab Launch
  evtNext : Nat
  evtSeq : Nat
  copies : List Copy
  guardAt : Nat
  txAt : Nat
  deriving DecidableEq, Repr

/-- A master heard in Announce messages (R262): port, source port identity, comparison data in the order of the default
algorithm, grandmaster identity, UTC offset when valid, messages heard in time, ticks of an Announce interval, and the tick of the last. -/
structure Master where
  port : Nat
  src : Nat
  rank : List Nat
  gm : Nat
  utc : Option Int
  heard : Nat
  span : Nat
  last : Nat
  deriving DecidableEq, Repr

/-- A peer-delay exchange in progress (R261): sequenceId, egress stamp in ns and its quality byte (R258). -/
structure Exchange where
  id : Nat
  sent : Int
  qual : Nat
  deriving DecidableEq, Repr

/-- A two-step Sync's sum (R260): source port identity, domain and sequenceId as one key, sum in 2^-16 ns, tick. -/
structure TcEntry where
  key : Nat
  sum : Int
  tick : Nat
  deriving DecidableEq, Repr

/-- Network time beside its registers (R252-R278): masters heard and the one selected (source port identity); the last 16
offsets, newest first, and consecutive offsets since the last change of master or step; delays of the last 8 valid
exchanges by port, exchange in progress by port, tick after each port's last request, next sequenceId; two-step table, oldest
first; rate computed and not yet committed, rate before the trust bound was exceeded; tick at which the 10 s of R267 began to run;
tick at which a step was last armed; a step that SC1 has written; re-route hold: running, the tick of the increment that began or
restarted it, waiting for the 4 offsets after it, o_old, offsets taken, the grandmaster of o_old; the next PPS_OUT edge is committed,
tick of the last one; stamp of the last PPS_IN edge, and its deviation beyond TOL. -/
structure Ptp where
  masters : List Master
  sel : Option Nat
  offs : List Int
  fresh : List Int
  delays : Tab (List Int)
  exch : Tab Exchange
  reqAt : Tab Nat
  nextId : Nat
  table : List TcEntry
  next : Option Int
  before : Option Int
  trust : Option Nat
  armed : Nat
  step : Option Int
  hold : Bool
  holdTick : Nat
  collect : Bool
  oldOff : Int
  taken : List Int
  oldGm : Nat
  pps : Bool
  ppsAt : Nat
  ppsIn : Stamp
  ppsDev : Bool
  deriving DecidableEq, Repr

/-- How far a Cyhar command has come: waits for its start, runs on SC0, runs on in its block, has ended (R320-R322). -/
inductive CmdPhase where
  | waiting
  | running
  | long
  | done
  deriving DecidableEq, Repr

/-- A Cyhar command in flight (R314, R320): its number in copy order, context (0 QSPI, 1-8 ring), urgent, descriptor fields,
ring payload, SEQ and port; how far it has come, the privilege it started with (R333); its completion: STATUS, RESULT0,
CFLAGS, result payload; the stamp that its core took (R257); the words that a register command has done (R319), its number in the order
of starts (R321), and that its ring context has been dropped while it runs (R333). -/
structure Cmd where
  id : Nat
  ctx : Nat
  urgent : Bool
  op : Nat
  tag : Nat
  flags : Nat
  pbuf : Nat
  plen : Nat
  rlen : Nat
  pcrc : Nat
  args : List Nat
  data : List Byte
  seq : Nat
  port : Nat
  taint : Bool
  phase : CmdPhase
  priv : Bool
  status : Nat
  r0 : Nat
  cflags : Nat
  out : List Byte
  taken : Stamp
  pos : Nat
  started : Nat
  gone : Bool
  deriving DecidableEq, Repr

/-- A ring context (R325, R326): in use, source MAC, tick of its last command, newest accepted SEQ, and the SEQ of its last
16 accepted commands, newest first, with the reply once there is one. -/
structure RingCtx where
  used : Bool
  mac : Nat
  last : Nat
  newest : Option Nat
  store : List (Nat × Option (List Byte))
  deriving DecidableEq, Repr

/-- The mailbox (R306-R330): queue entries and payload buffers by host window offset, commands in flight in copy order,
next command number, the command on SC0, the context last served by urgency, ring contexts, the queue entries that wait to be
copied and whose buffer the host wrote (R315), and the number of commands started. -/
structure Mbx where
  ram : Tab Byte
  cmds : List Cmd
  nextId : Nat
  cur : Option Nat
  lastU : Nat
  lastN : Nat
  ring : Tab RingCtx
  soiled : List (Bool × Nat)
  starts : Nat
  deriving DecidableEq, Repr

/-- A firmware slot in flash (R344): image bytes, signature accepted, SVN, bootable. -/
structure FwSlot where
  image : List Byte
  good : Bool
  svn : Nat
  valid : Bool
  deriving DecidableEq, Repr

/-- Elevation, credentials and firmware (R331-R345): elevation and tick of the last privileged access by context (0 QSPI,
1-8 ring, 9 SPI); nonce by context with its purpose (1 ELEVATE, 2 DEBUG), and the Nightwatch tick of its draw; site-password record, SEC_PWSET words,
the last set refused; failures F and the Nightwatch tick at which the lockout ends; OTP bits FIELD_LOCK and SCANNED_EVER, rollback
counter CTR; debug opened since power-on; engines held in reset; the HMAC and AES registers hold secrets;
SEC failed its test; firmware slots A and B, the slot named first by the boot record, running slot, booted from the second; the
decrypted image that the processors were loaded with, none before D2 has ended (R344); the decrypted firmware key, none once it is
zeroized (R342, R409). -/
structure Sec where
  elev : Tab Bool
  used : Tab Nat
  nonces : Tab (Nat × List Byte)
  nonceAt : Tab Nat
  record : Option (List Byte)
  pw0 : Nat
  pw1 : Nat
  weak : Bool
  fails : Nat
  lockEnd : Nat
  fieldLock : Bool
  scannedEver : Bool
  ctr : Nat
  dbg : Bool
  held : Bool
  secrets : Bool
  failed : Bool
  fw : Tab FwSlot
  first : Nat
  running : Nat
  fallback : Bool
  image : Option (List Byte)
  fwKey : Option (List Byte)
  deriving DecidableEq, Repr

/-- Built-in self-test (R396-R410): a run is active; its command (none: the SPI context); blocks still to be tested; FORCE
and STOP_ON_FAIL; the block under test and the tick it began; outcome byte by block of this run; data words of the last test
by block; RULEENG slices left and cut-offs in a row, a slice under way; memory regions tested and the failing ones; the cause
that ends the block under test, 0 for none; the bank that a forced converter or reference-buffer test counts as lost (R406).
Health by block is in DEV_BIST_HEALTH. -/
structure Bist where
  active : Bool
  job : Option Nat
  left : List Nat
  force : Bool
  stop : Bool
  cur : Option Nat
  start : Nat
  out : Tab Nat
  data : Tab (List Nat)
  slices : Nat
  cuts : Nat
  slice : Bool
  regions : Nat
  bad : List Nat
  cause : Nat
  bank : Option Nat
  /-- Tick of the last slice of RULEENG (R405). -/
  sliceAt : Nat
  deriving DecidableEq, Repr

/-- A transaction on the flash bus: command byte and flash address (R476, R477). -/
structure FlashOp where
  cmd : Byte
  addr : Nat
  deriving DecidableEq, Repr

/-- The FSPI master (R476): its lanes, 0 before Dawn phase D1, and clock in MHz; the read, program and erase commands taken from the
flash's parameter table; the transactions of the last piece of flash work. -/
structure Fspi where
  lanes : Nat
  mhz : Nat
  cmds : List Byte
  work : List FlashOp
  deriving DecidableEq, Repr

/-- The state of the XH6128. -/
structure State where
  /-- Commands that wait, first in first out. -/
  pending : List Instr
  /-- Registers of the host window that differ from their reset word, by offset. -/
  regs : Tab Word
  /-- Counter that the free values are applied to; the model's own. -/
  free : Nat
  grid : Grid
  time : TimeBase
  pins : Pins
  icu : Icu
  evt : EvtLog
  nw : Nightwatch
  /-- The memory die (R411), byte by byte. -/
  mem : List Host.Cell
  cap : Capture
  life : Life
  pwr : Power
  obs : Obs
  rule : RuleEng
  cfg : Cfg
  ctx : Tab CtxCopy
  chans : Tab Chan
  banks : Tab Bank
  boost : Boost
  res : Resolver
  dim : Dim
  mtx : Matrix
  spi : Spi
  loops : Loops
  adc : Adc
  sto : Sto
  link : Link
  ring : Ring
  ptp : Ptp
  mbx : Mbx
  sec : Sec
  bist : Bist
  fspi : Fspi
  /-- The bytes that the device drove on the HSPI pins in the last transaction: status byte, then data (R307, R310, R448). -/
  bus : List Byte
  deriving DecidableEq, Repr

/-- Reasons for a fault. -/
inductive Fault where
  /-- Raised by no meaning: every access the spec names has a result. Safe. -/
  | none
  deriving DecidableEq, Repr

/-- Reasons for a refusal. -/
inductive Refusal where
  /-- Raised by `exec` for a command without a meaning yet, by its mnemonic. Safe: the model stops. -/
  | notModelled (mnemonic : String)
  deriving DecidableEq, Repr

/-- The machine right after reset, before power good: nothing waits, every register reads its reset word (R489, R490), Nightwatch
has just started, no memory byte is listed. Firmware slot A is programmed and bootable, slot B and the configuration slots are
blank, no credential is set (DESIGN CHOICE, log entry 1). -/
def State.reset : State :=
  { pending := [], regs := [], free := 0,
    grid := ⟨false, 0, [], []⟩,
    time := ⟨0, 0, 0, 37, 37, [], none⟩,
    pins := ⟨true, true, false, false, false, false, false, true⟩,
    icu := ⟨[], [], [], [], [], [], [], [], false, 0, []⟩,
    evt := ⟨false, [], 0, [], 0, false, []⟩,
    nw := ⟨0, [], [], 0, 0, 0, 0, 0, 0, 0, 0, false, false⟩,
    mem := [],
    cap := ⟨0, 0, none, 0, 0, [], none⟩,
    life := ⟨[], 0, 0, 0, 0, 0, false, false, 0, 0, [], [], 0, 0, 0, 0⟩,
    pwr := ⟨false, 0, 0, [], false, false, 0, false, [], 0, [], [], false, 0, 0, 0, [], [], 0, false⟩,
    obs := ⟨[], [], [], [], [], [], 0⟩,
    rule := ⟨[], [], [], [], 0, false, 0, none, []⟩,
    cfg := ⟨[], [], none, [], 0, none, 0, none, [], 0xFF :: (List.replicate 45 0 ++ [0xFF, 3] ++ List.replicate 16 0)⟩,
    ctx := [],
    chans := [],
    banks := [],
    boost := ⟨0, 0, 0, 0, 0, 0, false, [], 0, [], false, 0, 0, 0, 0, false, 0, 0, false, 0, 0, 1024, false, false, false, false, false, 0, 0⟩,
    res := ⟨false, false, 0, false, 0, [], [], [], [], false, [], 0, 0⟩,
    dim := ⟨0, 0, 0, 0, false, false, 0, [], [], 0, 2048, 250⟩,
    mtx := ⟨0, 0, 0, 0, []⟩,
    spi := ⟨false, false, 0, [], [], false, false, 0⟩,
    loops := ⟨[], 0, []⟩,
    adc := ⟨[], [], none, 0, ⟨0, 0, 0⟩, [], []⟩,
    sto := ⟨none, [], [], [], [], none, 0, false, false, 0, 0, false, false, false, [], [], 0, 0, 0⟩,
    link := ⟨false, 0, false, [], [], 0⟩,
    ring := ⟨[], none, 0, false, [], 0, 0, [], 0, 0⟩,
    ptp := ⟨[], none, [], [], [], [], [], 0, [], none, none, none, 0, none, false, 0, false, 0, [], 0, false, 0, ⟨0, 0, 0⟩, false⟩,
    mbx := ⟨[], [], 0, none, 8, 8, [], [], 0⟩,
    sec := ⟨[], [], [], [], none, 0, 0, false, 0, 0, false, false, 0, false, false, false, false,
      [(0, ⟨[], true, 0, true⟩)], 0, 0, false, none, none⟩,
    bist := ⟨false, none, [], false, false, none, 0, [], [], 0, 0, false, 0, [], 0, none, 0⟩,
    fspi := ⟨0, 0, [], []⟩,
    bus := [] }

end Sys2Proof.Machine
end

