-- ==== Sys2Proof/Machine/Ops.lean ====
section
/-! DEFINITION. The operations every family shares: registers and fields, the memory die, stamps, interrupt
sources, fault groups, the event log, lifetime counters and the capture trigger. -/

namespace Sys2Proof.Machine

/-- What every meaning answers. -/
abbrev Res := Host.Outcome State Fault Refusal

namespace State

/-- The stored word of the register at a host window offset. -/
def rd (s : State) (a : Nat) : Word := tabGet resetWord s.regs a

/-- The state with a register's stored word replaced. -/
def wr (s : State) (a v : Nat) : State :=
  { s with regs := tabSet resetWord s.regs a (BitVec.ofNat 32 v) }

/-- A field of a register, as a number. -/
def get (s : State) (f : Fld) : Nat := bitsOf (s.rd f.addr).toNat f.lo f.width

/-- The state with a field of a register replaced, the value cut to the field's width. -/
def put (s : State) (f : Fld) (v : Nat) : State :=
  s.wr f.addr (withBits (s.rd f.addr).toNat f.lo f.width v)

/-- A one-bit field. -/
def flag (s : State) (f : Fld) : Bool := s.get f != 0

/-- The state with a one-bit field set or cleared. -/
def putFlag (s : State) (f : Fld) (b : Bool) : State := s.put f (boolNat b)

/-- A statistics counter or a sequence number counted up by one, modulo 2^32 (R412). -/
def bump (s : State) (a : Nat) : State := s.wr a ((s.rd a).toNat + 1)

/-- A field counted up by one, staying at its largest value. -/
def bumpSat (s : State) (f : Fld) : State :=
  if s.get f + 1 < 2 ^ f.width then s.put f (s.get f + 1) else s

/-- A fresh free value's index, and the state that has used it. -/
def fresh (s : State) : Nat × State := (s.free, { s with free := s.free + 1 })

/-- A byte of the memory die (R411); what an unlisted address reads as is `Machine.memDefault`. -/
def memByte (s : State) (a : Nat) : Byte := tabGet (fun _ => 0) s.mem a

/-- One byte written to the memory die. -/
def memPut (s : State) (a : Nat) (b : Byte) : State :=
  { s with mem := tabSet (fun _ => (0 : Byte)) s.mem a b }

/-- `n` bytes of the memory die from `a` on. -/
def memRead (s : State) (a n : Nat) : List Byte := (List.range n).map fun i => s.memByte (a + i)

/-- Bytes written to the memory die from `a` on. -/
def memWrite (s : State) (a : Nat) : List Byte → State
  | [] => s
  | b :: bs => (s.memPut a b).memWrite (a + 1) bs

/-- A little-endian number of `n` bytes in the memory die. -/
def memNat (s : State) (a n : Nat) : Nat := ofLeBytes (s.memRead a n)

/-- DEV_PWR_STAT.STATE: 0 DAWN, 1 RUN, 2 DUSK_ENTRY, 3 DUSK, 4 DUSK_EXIT, 5 MIDNIGHT. -/
def pstate (s : State) : Nat := s.get fPWR_STATE

/-- The Midnight latch is held (R444). -/
def midnight (s : State) : Bool := s.get fNW_MN_CAUSE != 0

/-- The part is in Dusk operation: DUSK, or DUSK_EXIT before its step 2 (R384, R386). -/
def inDusk (s : State) : Bool := s.pstate == 3 || (s.pstate == 4 && !s.pwr.resumed)

/-- Only the Dusk set is lit: from the last commit before Dusk until Dusk operation ends (R383, R386). -/
def lampsKept (s : State) : Bool := s.inDusk || (s.pstate == 2 && s.pwr.latched)

/-- DEV_GRID_TICK (R33). -/
def tick32 (s : State) : Nat := s.grid.tick % 2 ^ 32

/-- A sample every `n` ticks is due: `last` is the tick after the one before, 0 before the first (R172, R284). -/
def sampleDue (s : State) (last n : Nat) : Bool := last == 0 || decide (last + n ≤ s.grid.tick + 1)

/-- The time base as whole nanoseconds (R253). -/
def timeNs (s : State) : Nat := s.time.sec * 1000000000 + s.time.ns

/-- GRID_NS (R254). -/
def gridNs (s : State) : Nat := s.timeNs % 2 ^ 32

/-- The quality byte of a stamp taken now, with its SRC code (R258). -/
def quality (s : State) (src : Nat) : Nat :=
  let st := s.get fTIME_STATE
  src + 4 * boolNat (st < 2 || !s.flag fTIME_SET) + 8 * boolNat (st == 3) + 16 * boolNat (st == 4)
    + 32 * s.get fGRID_SRC

/-- A stamp against the grid, or by a core, taken now (R256-R258). -/
def stampNow (s : State) (src : Nat) : Stamp := ⟨s.time.sec, s.time.ns, s.quality src⟩

/-- The quality byte in force on an earlier tick: that of the last change of the flags up to it (R258). -/
def qualityAt (s : State) (src t : Nat) : Nat :=
  if s.grid.tick ≤ t then s.quality src
  else src + ((s.time.flags.find? fun p => decide (p.1 ≤ t)).map (·.2)).getD (s.quality 0)

/-- The quality flags of the present tick are noted if they have changed; none older than the longest way back to a raw edge
is kept, but the one in force then (R256, R258). -/
def noteFlags (s : State) : State :=
  let q := s.quality 0
  match s.time.flags with
  | [] => { s with time := { s.time with flags := [(s.grid.tick, q)] } }
  | p :: rest =>
    if p.2 = q then s
    else
      let near := (p :: rest).filter fun r => decide (s.grid.tick < r.1 + 4096)
      let far := ((p :: rest).filter fun r => decide (r.1 + 4096 ≤ s.grid.tick)).take 1
      { s with time := { s.time with flags := (s.grid.tick, q) :: near ++ far } }

/-- The stamp of a raw edge that lay `steps` steps of 2 ns before this tick: the time base and the flags as they stood on the
edge's own tick (R253, R256, R258); an edge before a step of the time base is stamped in the time before it (R265). -/
def stampBack (s : State) (steps : Nat) : Stamp :=
  let tick := s.grid.tick - (2 * steps + 39) / 40
  let step : Int := match s.time.moved with
    | some m => if tick < m.1 then m.2 else 0
    | none => 0
  let t := ((s.timeNs : Int) - 2 * steps - step).toNat
  ⟨t / 1000000000, t % 1000000000, s.qualityAt 1 tick⟩

-- Events at a fixed instant (R34, R37)

/-- The event of this key has not yet been taken on the present tick. -/
def untaken (s : State) (key : Nat) : Bool := tabGet (fun _ => 0) s.grid.took key != s.grid.tick + 1

/-- The event of this key is taken on the present tick. -/
def takeEvent (s : State) (key : Nat) : State :=
  { s with grid := { s.grid with took := tabSet (fun _ => 0) s.grid.took key (s.grid.tick + 1) } }

end State

-- Interrupt sources (R346-R359)

/-- Source numbers of R359. -/
def srcMBX_DOORBELL : Nat := 32
def srcMBX_CPL : Nat := 33
def srcMBX_ERR : Nat := 34
def srcPFW : Nat := 35
def srcDEADLINE_MISS : Nat := 40
def srcLAMP_FAULT : Nat := 41
def srcOBS_STALE : Nat := 42
def srcADC_OVERRUN : Nat := 43
def srcADC_FAULT : Nat := 44
def srcRING : Nat := 45
def srcTIME : Nat := 46
def srcSTO : Nat := 47
def srcHAZARD : Nat := 48
def srcFAULT : Nat := 49
def srcREADY_LOW : Nat := 50
def srcCONFLICT : Nat := 51
def srcBOOST : Nat := 52
def srcBANK : Nat := 53
def srcDIE_LINK : Nat := 54
def srcTHERMAL : Nat := 55
def srcLIFE_SAT : Nat := 56
def srcEVT_LOG : Nat := 57
def srcCAPTURE : Nat := 58
def srcPPS_IN : Nat := 59
def srcADC_TRIG : Nat := 60

/-- The shared sources that R359 lists; the others are reserved. -/
def sourceListed (n : Nat) : Bool :=
  (32 ≤ n && n ≤ 35) || (40 ≤ n && n ≤ 60) || (64 ≤ n && n ≤ 95) || (128 ≤ n && n ≤ 255)

/-- The column "Rises in Dusk" of R359. -/
def risesInDusk (n : Nat) : Bool :=
  n == 32 || n == 34 || n == 35 || n == 40 || n == 41 || n == 44 || n == 47 || n == 49 || n == 50
    || (52 ≤ n && n ≤ 56) || n == 59 || (64 ≤ n && n ≤ 95)

namespace State

/-- The target of a shared source: 0 SC0, 1 SC1, 2 SFC, 3 HOST (R347, R359). -/
def target (s : State) (n : Nat) : Nat := s.get (fROUTE n)

/-- Pending and mask word of a bank: t = 0-3 the private banks, 3 + w the shared word w. -/
def icuPend (s : State) (k : Nat) : Word := tabGet (fun _ => 0) s.icu.pend k
def icuMask (s : State) (k : Nat) : Word := tabGet (fun _ => 0xFFFFFFFF) s.icu.mask k

/-- The key of a source in the pending and mask tables, seen from target `t`. -/
def icuKey (t n : Nat) : Nat := if n < 32 then t else 3 + n / 32

/-- The bits of word `w` that belong to the view of target `t` (R348). -/
def viewWord (s : State) (t w : Nat) (x : Word) : Word :=
  if w = 0 then x
  else if x = 0 then 0
  else BitVec.ofNat 32 (sumList ((List.range 32).map fun i =>
    if x.getLsbD i && sourceListed (32 * w + i) && s.target (32 * w + i) == t then 2 ^ i else 0))

/-- Pending AND NOT mask of word `w` in the view of target `t` (R351). -/
def actWord (s : State) (t w : Nat) : Word :=
  let k := if w = 0 then t else 3 + w
  s.viewWord t w (s.icuPend k &&& ~~~(s.icuMask k))

/-- The target is idle: in its wait state, or HOST_SLEEP high (R356). -/
def idle (s : State) (t : Nat) : Bool :=
  if t = 3 then s.pins.hostSleep else tabGet (fun _ => false) s.icu.waiting t

/-- A moderation window holds back deliveries to the target (R356). -/
def heldBack (s : State) (t : Nat) : Bool :=
  tabGet (fun _ => false) s.icu.window t && !s.idle t

/-- The target is deliverable (R353), with the minimum high time of HOST_IRQ_N (R354) and the sleep of the
internal cores in Dusk (R357). -/
def deliverable (s : State) (t : Nat) : Bool :=
  !tabGet (fun _ => false) s.icu.insvc t && !s.heldBack t
    && (if t = 3 then !s.icu.minHigh else !s.inDusk)
    && (List.range 8).any fun w => s.actWord t w != 0

/-- Requests are raised to the targets that are deliverable and withdrawn from the others (R353). -/
def refreshIcu (s : State) : State :=
  { s with icu := { s.icu with
      request := (List.range 4).foldl
        (fun r t => tabSet (fun _ => false) r t (s.deliverable t)) s.icu.request } }

/-- Pending bits of a bank set (R350). -/
def pendSet (s : State) (k : Nat) (bits : Word) : State :=
  { s with icu := { s.icu with pend := tabSet (fun _ => 0) s.icu.pend k (s.icuPend k ||| bits) } }

/-- Pending bits of a bank cleared (R350). -/
def pendClr (s : State) (k : Nat) (bits : Word) : State :=
  { s with icu := { s.icu with pend := tabSet (fun _ => 0) s.icu.pend k (s.icuPend k &&& ~~~bits) } }

/-- An entry of ICU_NWSEL selects the source (R357). -/
def nwSelected (s : State) (n : Nat) : Bool :=
  (List.range 16).any fun e => s.flag (fNWSEL_VALID e) && s.get (fNWSEL_SRC e) == n

/-- Dusk exit begins: STATE becomes DUSK_EXIT with its first cause, and ICU_NWSTAT shows no source yet; the cores resume and SC0 is
watched afresh (R385, R386, R357, R435). -/
def duskExit (s : State) (cause : Nat) : State :=
  if s.pstate = 3 then
    let s := ((s.put fPWR_STATE 4).put fPWR_WAKE cause).putFlag fNWSTAT_WOKE false
    { s with
      pwr := { s.pwr with wakeTick := s.nw.tick, resumed := false }
      nw := { s.nw with sc0Beat := s.nw.tick, sc1Beat := s.nw.tick }
      icu := { s.icu with waiting := [] } }
  else s

/-- A selected source rises between the request and the end of the entry: the entry is abandoned, and the device returns to Run, from
the last commit on by steps 2-4 of an exit (R383, R386). -/
def duskAbandon (s : State) : State :=
  if s.flag fPWR_DUSK_PEND then (s.putFlag fPWR_DUSK_PEND false).putFlag fPWR_ABORTED true
  else if s.pstate = 2 then
    let s := (s.putFlag fPWR_ABORTED true).put fPWR_STATE (if s.pwr.latched then 4 else 1)
    { s with pwr := { s.pwr with resumed := true } }
  else s

/-- A selected source rises: it wakes the part from Dusk and is recorded, the lowest of one tick standing;
a waiting request is abandoned (R357, R383). -/
def nwWake (s : State) (n : Nat) : State :=
  if !s.nwSelected n then s
  else if s.pstate = 3 then
    ((s.duskExit 2).putFlag fNWSTAT_WOKE true).put fNWSTAT_SRC n
  else if s.pstate = 4 ∧ s.flag fNWSTAT_WOKE ∧ s.get fPWR_WAKE = 2 ∧ s.nw.tick = s.pwr.wakeTick
      ∧ n < s.get fNWSTAT_SRC then s.put fNWSTAT_SRC n
  else s.duskAbandon

/-- A rising edge of a shared source: its pending bit is set, a selected source wakes, requests follow (R350, R357). -/
def raise (s : State) (n : Nat) : State :=
  if !sourceListed n then s
  else if s.inDusk && !risesInDusk n then s
  else ((s.pendSet (3 + n / 32) (BitVec.ofNat 32 (2 ^ (n % 32)))).nwWake n).refreshIcu

end State

-- Fault groups and FAULT_N (R432, R433)

namespace State

/-- The FAULT_N pad is high. -/
def faultN (s : State) : Bool := s.pwr.good && !s.flag fFLT_ANY

/-- A bit of DEV_FLT_ACT is set by an event of class `cls`; the first bit while FAULT_N is high is recorded and
the fall of FAULT_N raises source 49 (R432, R433, R359). -/
def fltSet (s : State) (n cls : Nat) : State :=
  if s.flag (fFLT_GROUP n) then s
  else if s.get fFLT_GROUPS = 0 then
    ((((s.put (fFLT_GROUP n) 1).putFlag fFLT_ANY true).put fFLTF_CLASS cls).put fFLTF_BIT n).raise srcFAULT
  else s.put (fFLT_GROUP n) 1

/-- A bit of DEV_FLT_ACT clears; FAULT_N goes high when none is left (R432). -/
def fltClr (s : State) (n : Nat) : State :=
  let s := s.put (fFLT_GROUP n) 0
  s.putFlag fFLT_ANY (s.get fFLT_GROUPS != 0)

/-- A fault group follows its condition. -/
def fltFollow (s : State) (n cls : Nat) (on : Bool) : State :=
  if on then s.fltSet n cls else s.fltClr n

/-- ASPECT_READY is driven; a fall raises source 50 (R359). -/
def driveReady (s : State) (b : Bool) : State :=
  if s.pins.aspectReady && !b then
    ({ s with pins := { s.pins with aspectReady := false } }).raise srcREADY_LOW
  else { s with pins := { s.pins with aspectReady := b } }

end State

-- Event classes (R424) and SOURCE kinds (R423)

def evLOG_START : Nat := 0x01
def evOVERFLOW : Nat := 0x02
def evDAWN : Nat := 0x03
def evDAWN_LATE : Nat := 0x04
def evPFW_CLEARED : Nat := 0x05
def evMIDNIGHT : Nat := 0x06
def evCORE_RESTART : Nat := 0x07
def evGRID_LOST : Nat := 0x08
def evDIE_LINK_DEGRADED : Nat := 0x09
def evDEADLINE_MISS : Nat := 0x0A
def evRULE_STALL : Nat := 0x0B
def evLOOP_SLOT_LOST : Nat := 0x0C
def evMORNING : Nat := 0x0D
def evLIFETIME_SAT : Nat := 0x0E
def evLIFE_NONE : Nat := 0x0F
def evLIFE_FOREIGN : Nat := 0x10
def evCAPTURE : Nat := 0x11
def evECC_UNCORRECTED : Nat := 0x12
def evLAMP_FAULT : Nat := 0x20
def evSIG_LEARNT : Nat := 0x21
def evTWILIGHT_CLIP : Nat := 0x22
def evPATTERN_REFUSED : Nat := 0x23
def evRULE_CONFLICT : Nat := 0x24
def evOBS_STALE : Nat := 0x25
def evHAZARD_MISMATCH : Nat := 0x26
def evHAZARD_XCHK_STALL : Nat := 0x27
def evBANK_STUCK : Nat := 0x28
def evBANK_OC : Nat := 0x29
def evBOOST_START_FAIL : Nat := 0x2A
def evBOOST_SHORT : Nat := 0x2B
def evBOOST_FB_FAULT : Nat := 0x2C
def evHEADROOM_SHORT : Nat := 0x2D
def evGOV_SAT : Nat := 0x2E
def evBUDGET_LIMIT : Nat := 0x2F
def evTHERMAL_SHUTDOWN : Nat := 0x30
def evBRIGHT_IN_RANGE : Nat := 0x31
def evBRIGHT_IN_LOST : Nat := 0x32
def evNTC_FAULT : Nat := 0x33
def evADC_OVERRUN : Nat := 0x40
def evADC_CONV_FAULT : Nat := 0x41
def evADC_PAIR_FAULT : Nat := 0x42
def evRING_MODULE : Nat := 0x50
def evRING_SWITCH : Nat := 0x51
def evRING_CROSSED : Nat := 0x52
def evNBR_MISMATCH : Nat := 0x53
def evTIME_STEP : Nat := 0x58
def evTIME_STATE : Nat := 0x59
def evTIME_REARM_LAPSED : Nat := 0x5A
def evROUTE_ASYM : Nat := 0x5B
def evROUTE_ASYM_BIG : Nat := 0x5C
def evPPS_IN_DEV : Nat := 0x5D
def evSAFE_PAIR_FAULT : Nat := 0x60
def evSTO_OUT_FAULT : Nat := 0x61
def evSTO_STATE : Nat := 0x62
def evSTO_REFRESH : Nat := 0x63
def evSEAL_INVALID : Nat := 0x64
def evSEAL_CHANGED : Nat := 0x65
def evSRST_STUCK : Nat := 0x66
def evCFG_SLOT_FAIL : Nat := 0x70
def evCFG_NONE : Nat := 0x71
def evFW_SLOT_FAIL : Nat := 0x72
def evFW_SLOT_REVOKED : Nat := 0x73
def evPW_CHANGED : Nat := 0x74
def evELEVATE_FAIL : Nat := 0x75
def evDEBUG_OPEN : Nat := 0x76
def evFIELD_LOCKED : Nat := 0x77
def evBIST : Nat := 0x78
def evBIST_FAIL : Nat := 0x79
def evBIST_FORCED : Nat := 0x7A
def evLIFE_CLEARED : Nat := 0x7B

def kDEVICE : Nat := 0x0
def kCHANNEL : Nat := 0x1
def kASPECT : Nat := 0x2
def kBANK : Nat := 0x3
def kCONV : Nat := 0x4
def kLOOP : Nat := 0x5
def kPORT : Nat := 0x6
def kTIME : Nat := 0x7
def kPAIR : Nat := 0x8
def kSTO : Nat := 0x9
def kMBX : Nat := 0xA
def kBIST : Nat := 0xB
def kCFG : Nat := 0xC
def kOBS : Nat := 0xD
def kRULE : Nat := 0xE
def kPROC : Nat := 0xF

namespace State

/-- The log takes records: LOG_START is written, the part is not in Dusk operation and SC0 is not lost
(R425, R436). -/
def logOpen (s : State) : Bool := s.evt.started && !s.inDusk && !s.flag fNW_SC0_LOST

/-- A record joins the Nightwatch buffer, or is dropped and counted when 64 wait (R425). -/
def nwLog (s : State) (r : EvtRec) : State :=
  if s.evt.nwBuf.length < 64 then
    let s := { s with evt := { s.evt with nwBuf := s.evt.nwBuf ++ [r] } }
    s.put fNW_NWBUF s.evt.nwBuf.length
  else
    ({ s with evt := { s.evt with nwDropped := s.evt.nwDropped + 1 } }).bump aEVT_DROP

/-- A record leaves its producer: into its 64-record queue, or into the Nightwatch buffer while the log takes none;
a record that finds its queue full is dropped and counted (R425). -/
def enqueue (s : State) (r : EvtRec) : State :=
  if !s.logOpen then s.nwLog r
  else if (s.evt.queue.filter fun q => q.src / 4096 == r.src / 4096).length < 64 then
    { s with evt := { s.evt with queue := s.evt.queue ++ [r] } }
  else ({ s with evt := { s.evt with dropped := s.evt.dropped + 1 } }).bump aEVT_DROP

/-- An event is logged now with a stamp source (R258), class (R424), SOURCE kind and index (R423), payload words. -/
def logAt (s : State) (src cls kind idx : Nat) (payload : List Nat) : State :=
  s.enqueue ⟨s.time.sec, s.time.ns, s.quality src, cls, kind * 4096 + idx % 4096, payload⟩

/-- A hardware event, stamped against the grid (R256). -/
def logEv (s : State) (cls kind idx : Nat) (payload : List Nat) : State := s.logAt 1 cls kind idx payload

/-- A firmware-level event (R257). -/
def logFw (s : State) (cls kind idx : Nat) (payload : List Nat) : State := s.logAt 2 cls kind idx payload

/-- A record with a stamp taken earlier (R256: the hold tick). -/
def logStamp (s : State) (x : Stamp) (cls kind idx : Nat) (payload : List Nat) : State :=
  s.enqueue ⟨x.sec, x.ns, x.qual, cls, kind * 4096 + idx % 4096, payload⟩

end State

/-- Ticks of a second on the Nightwatch oscillator. -/
def tps : Nat := 25000000

-- The flash bus (R476, R477)

/-- Flash addresses of the boot record, the security record, a firmware slot, a configuration slot, and a sector of the lifetime region:
J0-J7, then S0-S55 (R477). -/
def flBoot : Nat := 0
def flSec : Nat := 0x10000
def flFw (i : Nat) : Nat := 0x20000 + 0x200000 * i
def flCfg (i : Nat) : Nat := 0x420000 + 0x80000 * i
def flLife (j : Nat) : Nat := 0x520000 + 0x10000 * j

/-- Kinds of flash command, as `Fspi.cmds` lists them. -/
def fkREAD : Nat := 0
def fkPROG : Nat := 1
def fkERASE : Nat := 2

/-- Erase of n 64 KiB sectors from an address on, the program, and the read-back. -/
def rewrite (a n : Nat) : List (Nat × Nat) :=
  ((List.range n).map fun j => (fkERASE, a + 0x10000 * j)) ++ [(fkPROG, a), (fkREAD, a)]

/-- A piece of flash work runs on the bus, with the commands that the parameter table names. -/
def State.flash (s : State) (work : List (Nat × Nat)) : State :=
  { s with fspi := { s.fspi with work := work.map fun p => ⟨s.fspi.cmds.getD p.1 0, p.2⟩ } }

/-- Phase D1 begins: one lane at 10 MHz, on which the parameter table is read with JESD216's command 5Ah, and the three commands taken
from it (R476). -/
def State.flashTable (s : State) : State :=
  { s with fspi := ⟨1, 10, (List.range 3).map Config.flashCmd, [⟨0x5A, 0⟩]⟩ }

/-- From phase D2 on: four lanes at 40 MHz (R476). -/
def State.flashQuad (s : State) : State := { s with fspi := { s.fspi with lanes := 4, mhz := 40 } }

-- Lifetime record (R412-R417)

/-- Memory-die address of the working record: slot 0 of the lifetime area (R411, R414). -/
def lifeBase : Nat := 0x3800000

/-- Offsets of the records in the working record (R414). -/
def lifeDevice : Nat := 0x0100
def lifePair (p : Nat) : Nat := 0x0300 + 32 * p
def lifeOut (o : Nat) : Nat := 0x0400 + 32 * o
def lifeConv (p : Nat) : Nat := 0x0500 + 32 * p
def lifeAsp (n : Nat) : Nat := 0x1000 + 64 * n
def lifeChan (c : Nat) : Nat := 0x3000 + 128 * c

/-- The place of a counter or bin at byte `o` of its record: (width in bytes, bit in the SAT mask), by the
record's base offset (R414, R415). -/
def lifeCell (base o : Nat) : Nat × Nat :=
  if 0x3000 ≤ base then
    (if o < 40 then (4, o / 4) else if o < 72 then (2, 10 + (o - 40) / 2) else (4, 26))
  else if 0x1000 ≤ base then (4, o / 4)
  else if 0x0500 ≤ base then (4, o / 4)
  else if 0x0400 ≤ base then (4, o / 4)
  else if 0x0300 ≤ base then (if o < 6 then (2, o / 2) else (4, 3 + (o - 8) / 4))
  else (if o < 60 then (4, o / 4) else if o < 128 then (2, 15 + (o - 64) / 2) else (2, 47 + (o - 128) / 2))

/-- The byte offset of the SAT mask in a record (R415). -/
def lifeSat (base : Nat) : Nat :=
  if 0x3000 ≤ base then 124 else if 0x1000 ≤ base then 60 else if 0x0300 ≤ base then 28 else 496

namespace State

/-- A lifetime counter or bin counted up by `n`; at its largest value it stays, its SAT bit is set, LIFETIME_SAT is
logged once and source 56 raised (R412). -/
def lifeCount (s : State) (base o n : Nat) : State :=
  let (w, bit) := lifeCell base o
  let a := lifeBase + base + o
  let top := 256 ^ w - 1
  let v := s.memNat a w + n
  let v := if top < v then top else v
  let s := s.memWrite a (leBytes w v)
  let sa := lifeBase + base + lifeSat base + bit / 8
  if v = top ∧ !bitOf (s.memByte sa).toNat (bit % 8) then
    let s := s.memPut sa (BitVec.ofNat 8 ((s.memByte sa).toNat + 2 ^ (bit % 8)))
    ((s.bumpSat fLIFE_NSAT).logEv evLIFETIME_SAT kDEVICE 0 [base, o]).raise srcLIFE_SAT
  else s

/-- Counts that wait in a hardware accumulator for the next fold (R416). -/
def lifeAcc (s : State) (o n : Nat) : State :=
  { s with life := { s.life with acc := tabSet (fun _ => 0) s.life.acc o (tabGet (fun _ => 0) s.life.acc o + n) } }

end State

/-- The lifetime counter that a logged event counts in: record base and byte offset (R415, R416). -/
def lifeOfEvent (r : EvtRec) : Option (Nat × Nat) :=
  let idx := r.src % 4096
  if r.cls = evLAMP_FAULT ∧ r.payload.headD 0 < 0x1000 then some (lifeChan idx, 12 + 4 * (r.payload.getD 1 0))
  else if r.cls = evSIG_LEARNT then some (lifeChan idx, 84)
  else if r.cls = evRULE_CONFLICT then some (lifeAsp idx, 28)
  else if r.cls = evHAZARD_MISMATCH ∧ r.src / 4096 = kASPECT then some (lifeAsp idx, 32)
  else if r.cls = evSAFE_PAIR_FAULT then some (lifePair idx, 12)
  else if r.cls = evSTO_OUT_FAULT then some (lifeOut idx, 8)
  else if r.cls = evADC_CONV_FAULT then some (lifeConv (idx / 2), 0)
  else if r.cls = evADC_PAIR_FAULT then some (lifeConv (idx / 2), 4)
  else if r.cls = evMIDNIGHT then some (lifeDevice, 16)
  else if r.cls = evCORE_RESTART then some (lifeDevice, 28)
  else if r.cls = evDIE_LINK_DEGRADED then some (lifeDevice, 36)
  else if r.cls = evTHERMAL_SHUTDOWN then some (lifeDevice, 48)
  else none

/-- The 64 bytes of an event record with its SEQ (R422). -/
def evtBytes (r : EvtRec) (seq : Nat) : List Byte :=
  leBytes 8 r.sec ++ leBytes 4 r.ns ++ leBytes 1 r.qual ++ leBytes 1 r.cls ++ leBytes 2 r.src ++ leBytes 4 seq
    ++ ((r.payload ++ List.replicate 11 0).take 11).flatMap (leBytes 4)

/-- Memory-die address of the record with SEQ s (R411). -/
def evtAddr (seq : Nat) : Nat := 0x3000000 + 64 * (seq % 131072)

namespace State

/-- The capture ring is triggered: TRIGGERED, with CAP_TRIGTICK (R431). -/
def capTrigger (s : State) (auto : Bool) (post : Nat) : State :=
  let s := ((s.put fCAP_STATE 2).putFlag fCAP_AUTO auto).wr aCAP_TRIGTICK s.tick32
  { s with cap := { s.cap with post := post } }

/-- A record triggers the capture ring: an EVENT arming that it matches, or CAP_CFG.AUTO_EN in RECORDING (R430, R431). -/
def capOnRecord (s : State) (r : EvtRec) : State :=
  if s.get fCAP_STATE = 1 ∧ s.cap.trig = 1 ∧ s.cap.cls = r.cls ∧ (s.cap.src = none ∨ s.cap.src = some r.src) then
    s.capTrigger false s.cap.post
  else if s.get fCAP_STATE = 0 ∧ s.flag fCAPCFG_AUTO_EN ∧ s.get fCAPCFG_ACLASS = r.cls then
    s.capTrigger true (s.get fCAPCFG_APOST * 1000)
  else s

/-- Source 57 follows the fill threshold: it rises when the difference becomes equal to or greater than THRESH (R426). -/
def evtThreshold (s : State) : State :=
  let th := (s.rd aEVT_THRESH).toNat
  let diff := ((s.rd aEVT_HEAD).toNat + 2 ^ 32 - (s.rd aEVT_RDSEQ).toNat) % 2 ^ 32
  let on := th != 0 && decide (th ≤ diff)
  let was := s.evt.filled
  let s := { s with evt := { s.evt with filled := on } }
  if on && !was then s.raise srcEVT_LOG else s

/-- A record is written at the log: next SEQ, the ring's oldest record overwritten, EVT_LOST, the fill threshold,
the event's lifetime counter and the capture triggers (R425, R426, R416, R431). -/
def writeRec (s : State) (r : EvtRec) : State :=
  let seq := (s.rd aEVT_HEAD).toNat
  let full := (seq + 2 ^ 32 - (s.rd aEVT_OLDEST).toNat) % 2 ^ 32 == 131072
  let s := if full then
      let s := if seqNewer (s.rd aEVT_RDSEQ).toNat (s.rd aEVT_OLDEST).toNat then s else s.bump aEVT_LOST
      s.bump aEVT_OLDEST
    else s
  let s := (s.memWrite (evtAddr seq) (evtBytes r seq)).bump aEVT_HEAD
  let s := s.evtThreshold
  let s := match lifeOfEvent r with
    | some (b, o) => s.lifeCount b o 1
    | none => s
  s.capOnRecord r

/-- The OVERFLOW record with its drop count (R425). -/
def overflowRec (s : State) (n : Nat) : EvtRec :=
  ⟨s.time.sec, s.time.ns, s.quality 2, evOVERFLOW, 0, [n]⟩

/-- The Nightwatch buffer moves to the log, and one OVERFLOW record follows if records were dropped (R425). -/
def flushNw (s : State) : State :=
  let n := s.evt.nwDropped
  let recs := s.evt.nwBuf
  let s := { s with evt := { s.evt with nwBuf := [], nwDropped := 0 } }
  let s := (s.put fNW_NWBUF 0)
  let s := recs.foldl writeRec s
  if n = 0 then s else s.writeRec (s.overflowRec n)

end State

end Sys2Proof.Machine
end

