-- ==== Sys2Proof/Machine/BistState.lean ====
section
/-! DEFINITION. What the BIST controller holds of a run: durations, outcomes, result payload, watched causes, the end of a run
(R396, R398-R401, R407, R408). -/

namespace Sys2Proof.Machine

-- Block numbers (R396)
def bkLOOPREC : Nat := 0x18
def bkRULEENG : Nat := 0x19
def bkSRAM_TBL : Nat := 0x1A
def bkMEMDIE : Nat := 0x1E
def bkLINK : Nat := 0x1F
def bkSEC : Nat := 0x20
def bkSC1 : Nat := 0x21

/-- Regions of a memory block: 4 KiB each, 64 KiB each for MEMDIE (R396). -/
def bistRegions (b : Nat) : Nat :=
  match b with
  | 0x1A | 0x1C => 96
  | 0x1B => 128
  | 0x1D => 256
  | 0x1E => 1024
  | _ => 0

/-- A block's test time in ticks, `p` the rule period (R396). -/
def bistTicks (p b : Nat) : Nat :=
  if b < 16 then 501000
  else if b < 24 then 56250
  else
    match b with
    | 0x18 => 425000
    | 0x19 => 40 * p
    | 0x1F => 12500
    | 0x20 => 125000
    | 0x21 => 1250000
    | _ => bistRegions b * 25000

-- Outcomes (R400) and reasons (R401)
def boPASS : Nat := 1
def boFAIL : Nat := 2
def boINCOMPLETE : Nat := 3
def boREFUSED : Nat := 4
def boNOT_RUN : Nat := 5
def brSTATE : Nat := 1
def brVCORE : Nat := 2
def brTEMP : Nat := 3
def brGRID : Nat := 4
def brPFW : Nat := 5
def brREF : Nat := 6
def brNO_COVER : Nat := 7
def brCOVER_LOST : Nat := 8
def brSLICE : Nat := 9

namespace State

def setBist (s : State) (x : Bist) : State := { s with bist := x }

def fBIST_RUNNING : Fld := ⟨aDEV_BIST_STAT, 31, 1⟩
def fBIST_FORCED : Fld := ⟨aDEV_BIST_STAT, 30, 1⟩
def fBIST_CUR : Fld := ⟨aDEV_BIST_STAT, 24, 6⟩
def fBIST_NFAIL : Fld := ⟨aDEV_BIST_STAT, 8, 8⟩
def fBIST_NINC : Fld := ⟨aDEV_BIST_STAT, 0, 8⟩
def fBIST_LAST (b : Nat) : Fld := ⟨aDEV_BIST_HEALTH (b / 8), 4 * (b % 8), 4⟩

/-- The block is under test. -/
def underTest (s : State) (b : Nat) : Bool := s.bist.cur == some b

/-- A cause arises that ends the block under test INCOMPLETE; the first one stands (R398, R401, R407). -/
def bistCause (s : State) (code : Nat) : State :=
  if s.bist.cur.isSome ∧ s.bist.cause = 0 then s.setBist { s.bist with cause := code } else s

/-- The outcome byte of a block in this run (R400). -/
def bistOut (s : State) (b : Nat) : Nat := tabGet (fun _ => 0) s.bist.out b

/-- The result payload and RESULT0 (R400). -/
def bistPayload (s : State) : List Byte := (List.range 64).map fun b => BitVec.ofNat 8 (s.bistOut b)
def bistCount (s : State) (o : Nat) : Nat := ((List.range 34).filter fun b => s.bistOut b % 16 == o).length
def bistResult0 (s : State) : Nat :=
  s.bistCount boPASS + s.bistCount boFAIL * 2 ^ 8 + s.bistCount boINCOMPLETE * 2 ^ 16
    + (s.bistCount boREFUSED + s.bistCount boNOT_RUN) * 2 ^ 24

/-- Ticks left of a block's entry, elapsed time of the block under test taken off; a RULEENG test counts its slices (R408). -/
def bistLeftTicks (s : State) (b : Nat) : Nat :=
  let p := (s.rd aRULE_CFG).toNat % 2 ^ 18
  if !s.underTest b then bistTicks p b
  else if b = bkRULEENG then s.bist.slices * p
  else bistTicks p b - (s.grid.tick - s.bist.start)

/-- The time in µs, rounded up, to the end of a block's entry in the run (R408). -/
def bistWait (s : State) (b : Nat) : Nat :=
  let now := s.bist.cur.toList ++ s.bist.left
  let upTo := (now.filter fun c => decide (c < b)) ++ [b]
  (sumList (upTo.map s.bistLeftTicks) + 24) / 25

/-- The block is under test or still to be tested (R397, R408). -/
def bistCovers (s : State) (b : Nat) : Bool := s.bist.active && (s.underTest b || s.bist.left.contains b)

/-- RESULT of SELFTEST (R455): PASS when every block passed, else the first of FAIL, INCOMPLETE, REFUSED any block returned. -/
def bistSpi (s : State) : Nat :=
  if s.bistCount boFAIL != 0 then 2 else if s.bistCount boINCOMPLETE != 0 then 3 else if s.bistCount boREFUSED != 0 then 4
  else if s.bistCount boNOT_RUN != 0 then 3 else 1

/-- The run is over: DEV_BIST_STAT and SELFTEST show it. -/
def bistIdle (s : State) : State :=
  let s := if s.bist.job.isNone && s.bist.active then { s with spi := { s.spi with busy := false, result := s.bistSpi } } else s
  let s := ((s.putFlag fBIST_RUNNING false).putFlag fBIST_FORCED false).put fBIST_CUR 0
  s.setBist { s.bist with active := false, cur := none, left := [], cause := 0, bank := none, slice := false }

/-- The block under test is put back into service when its test is stopped; SC1 is when its restart has completed (R402, R407). -/
def bistBack (s : State) : State :=
  match s.bist.cur with
  | none => s
  | some b =>
    if b < 16 then
      { s with adc := { s.adc with convs := s.adc.convs.map fun (p : Nat × Conv) => if p.1 = b then (p.1, { p.2 with bist := false }) else p } }
    else if b < 24 then (s.putFlag ⟨aADC_REFCTL, 8 + (b - 16), 1⟩ true).putFlag ⟨aDEV_ADC_STAT, 4 * (b - 16), 1⟩ true
    else s

/-- Blocks that are not run: the byte of each in the payload and a BIST record; the health map has no code for it (R398, R400, R407). -/
def bistNotRun (s : State) (bs : List Nat) : State :=
  bs.foldl (fun s b =>
    (s.setBist { s.bist with out := tabSet (fun _ => 0) s.bist.out b boNOT_RUN }).logFw evBIST kBIST b [b, boNOT_RUN, 0, 0, 0]) s

/-- The run stops: every block still outstanding is NOT_RUN and logged so; a mailbox command ends FAULT (R400, R407). -/
def bistStop (s : State) : State :=
  if !s.bist.active then s
  else
    let s := s.bistBack.bistNotRun (s.bist.cur.toList ++ s.bist.left)
    let r0 := s.bistResult0
    let pay := s.bistPayload
    let stop := fun (c : Cmd) =>
      if s.bist.job == some c.id && c.phase == .long then { c with phase := .done, status := 0x30, r0 := r0, out := pay.take c.rlen }
      else c
    let s := { s with mbx := { s.mbx with cmds := s.mbx.cmds.map stop } }
    s.bistIdle

end State

end Sys2Proof.Machine
end

