-- ==== Sys2Proof/Machine/Rules.lean ====
section
/-! DEFINITION. Observations and the aspect rule engine (R166-R190): slots, snapshot, staleness, sense inputs, snoop
extraction, TIME slots, TERM and group evaluation, the indirect OBS and RULE windows. -/

namespace Sys2Proof.Machine

/-- LOCATION of a word of an indirect table (R362). -/
def loc (space idx : Nat) : Nat := space * 2 ^ 24 + idx

/-- The word at a LOCATION of a set of configuration words: registers have their reset word, tables read 0 (R361). -/
def locDefault (l : Nat) : Word := if l < 2 ^ 24 then resetWord l else 0

/-- A field of a configuration word in a set of words. -/
def locBits (t : Tab Word) (l lo width : Nat) : Nat := bitsOf (tabGet locDefault t l).toNat lo width

def defSlot : ObsSlot := ⟨false, 0, 0⟩
def defSense : Sense := ⟨false, 0, ⟨0, 0, 0⟩, ⟨0, 0, 0⟩⟩
def defCopy : CtxCopy := ⟨0, 0, 0, 0, [], [], [], [], [], 0, [], []⟩

/-- A value saturated to 32-bit signed (R175, R181). -/
def sat32 (x : Int) : Int := clampInt (-(2 ^ 31)) (2 ^ 31 - 1) x

namespace State

/-- A word of an active indirect table. -/
def cfgWord (s : State) (space idx : Nat) : Nat := (tabGet locDefault s.cfg.words (loc space idx)).toNat

/-- OBS configuration fields of a slot (R168): SRC, SRCIDX, FRESH, SUBST. -/
def slotSrc (s : State) (n : Nat) : Nat := bitsOf (s.cfgWord 1 (2 * n)) 28 4
def slotIdx (s : State) (n : Nat) : Nat := bitsOf (s.cfgWord 1 (2 * n)) 16 10
def slotFresh (s : State) (n : Nat) : Nat := bitsOf (s.cfgWord 1 (2 * n)) 0 16
def slotSubst (s : State) (n : Nat) : Int := signedOf (s.cfgWord 1 (2 * n + 1)) 32

def slot (s : State) (n : Nat) : ObsSlot := tabGet (fun _ => defSlot) s.obs.slots n

/-- A slot is stale at a tick, by a store and the time base's SET (R167, R168, R179). -/
def staleIn (s : State) (slots : Tab ObsSlot) (tick : Nat) (set : Bool) (n : Nat) : Bool :=
  let x := tabGet (fun _ => defSlot) slots n
  if 896 ≤ n then false
  else if s.slotSrc n = 0 then true
  else if s.slotSrc n = 5 then s.slotIdx n != 3 && !set
  else if s.slotFresh n = 0 then false
  else if !x.written then true
  else decide (s.slotFresh n * 2500 < tick - x.tick)

/-- The stored value of a slot: the last written, or SUBST before the first write (R167, R171). -/
def stored (s : State) (slots : Tab ObsSlot) (n : Nat) : Int :=
  let x := tabGet (fun _ => defSlot) slots n
  if x.written then x.value else if 896 ≤ n then 0 else s.slotSubst n

/-- The STALE flags of a snapshot as it is taken (R167, R170). -/
def staleNow (s : State) : Tab Bool :=
  (List.range 896).foldl (fun t n => tabSet (fun n => decide (n < 896)) t n (s.staleIn s.obs.slots s.grid.tick (s.flag fTIME_SET) n)) []

/-- Staleness and value of a slot in the snapshot (R167). -/
def snapStale (s : State) (n : Nat) : Bool := tabGet (fun n => decide (n < 896)) s.obs.stale n
def snapVal (s : State) (n : Nat) : Int :=
  if s.snapStale n then s.slotSubst n else s.stored s.obs.snap n

/-- A write to an observation slot on the present tick (R169). -/
def obsWrite (s : State) (n : Nat) (v : Int) : State :=
  { s with obs := { s.obs with slots := tabSet (fun _ => defSlot) s.obs.slots n ⟨true, v, s.grid.tick⟩ } }

/-- The configurable slots with a source, ascending: those whose configuration word names it (R168). -/
def slotsOf (s : State) (src : Nat) : List Nat :=
  s.cfg.words.filterMap fun (l, w) =>
    if loc 1 0 ≤ l ∧ l < loc 1 1792 ∧ l % 2 = 0 ∧ bitsOf w.toNat 28 4 = src then some ((l - loc 1 0) / 2) else none

/-- Every configurable slot of a source and index takes a value (R168, R177). -/
def obsFeed (s : State) (src idx : Nat) (v : Int) : State :=
  ((s.slotsOf src).filter fun n => s.slotIdx n == idx).foldl (fun s n => s.obsWrite n v) s

-- Local time (R277)

/-- Whole seconds a TIME_LOFF entry takes effect at. -/
def loffAt (s : State) (w : Nat) : Nat :=
  (s.rd (aTIME_LOFF w 0)).toNat + (s.rd (aTIME_LOFF w 1)).toNat % 2 ^ 16 * 2 ^ 32

/-- The local offset in minutes: the valid entry with the latest effective time not later than now, or BASE (R277). -/
def localOffset (s : State) : Int :=
  let best := (List.range 8).foldl (fun (b : Option Nat) w =>
    if s.flag (fLOFF_VALID w) && decide (s.loffAt w ≤ s.time.sec)
        && (match b with | none => true | some v => decide (s.loffAt v < s.loffAt w)) then some w else b) none
  match best with
  | some w => signedOf (s.get (fLOFF_OFFSET w)) 16
  | none => signedOf (s.get fTZ_BASE) 16

/-- Local time in whole seconds: time base minus UTC offset plus local offset (R277). -/
def localSec (s : State) : Int := (s.time.sec : Int) - s.time.utc + s.localOffset * 60

/-- The value a TIME slot takes (R179). -/
def timeSlotValue (s : State) (idx : Nat) : Int :=
  if idx = 0 then s.localSec % 86400
  else if idx = 1 then s.localSec % 86400 / 60
  else if idx = 2 then (s.localSec / 86400 + 3) % 7 + 1
  else if idx = 3 then boolNat (s.flag fTIME_SET && s.get fTIME_STATE != 4)
  else if 16 ≤ idx then boolNat (tabGet (fun _ => false) s.obs.twin (idx - 16))
  else 0

/-- Every TIME slot is written (R179). -/
def writeTimeSlots (s : State) : State :=
  (s.slotsOf 5).foldl (fun s n => s.obsWrite n (s.timeSlotValue (s.slotIdx n))) s

/-- Start and end of an activation window, in nanoseconds (R178). -/
def twinStart (s : State) (w : Nat) : Nat :=
  ((s.rd (aRULE_TWIN w 1)).toNat + (s.rd (aRULE_TWIN w 2)).toNat % 2 ^ 16 * 2 ^ 32) * 1000000000
    + (s.rd (aRULE_TWIN w 0)).toNat
def twinEnd (s : State) (w : Nat) : Nat :=
  ((s.rd (aRULE_TWIN w 5)).toNat + (s.rd (aRULE_TWIN w 6)).toNat % 2 ^ 16 * 2 ^ 32) * 1000000000
    + (s.rd (aRULE_TWIN w 4)).toNat

/-- The windows are evaluated at the present time: open from START until END, never with END not later than START (R178). -/
def evalTwins (s : State) : State :=
  { s with obs := { s.obs with twin := (List.range 16).foldl (fun t w =>
      tabSet (fun _ => false) t w
        (decide (s.twinStart w < s.twinEnd w ∧ s.twinStart w ≤ s.timeNs ∧ s.timeNs < s.twinEnd w))) s.obs.twin } }

end State

-- TERM evaluation (R181)

/-- The result of a TERM on a snapshot value, by its previous held state; `none` for an invalid OP (R181). -/
def termResult (op : Nat) (a b h v : Int) (aw bw vw : Nat) (stale held : Bool) : Option Bool :=
  let h := if held then h else 0
  match op with
  | 0 => some (decide (sat32 (a - h) < v))
  | 1 => some (decide (v < sat32 (a + h)))
  | 2 =>
    if a ≤ b then some (decide (sat32 (a - h) ≤ v ∧ v ≤ sat32 (b + h)))
    else some (decide (sat32 (a - h) ≤ v ∨ v ≤ sat32 (b + h)))
  | 3 =>
    if a ≤ b then some (decide (v < sat32 (a + h) ∨ sat32 (b - h) < v))
    else some (decide (sat32 (b - h) < v ∧ v < sat32 (a + h)))
  | 4 => some (vw &&& aw == bw)
  | 5 => some stale
  | _ => none

/-- A rule entry: its index and four words (R180). -/
structure RuleEntry where
  idx : Nat
  w0 : Nat
  w1 : Nat
  w2 : Nat
  w3 : Nat
  deriving DecidableEq, Repr

def RuleEntry.kind (e : RuleEntry) : Nat := bitsOf e.w0 30 2
def RuleEntry.op (e : RuleEntry) : Nat := bitsOf e.w0 27 3
def RuleEntry.inv (e : RuleEntry) : Bool := bitOf e.w0 26
def RuleEntry.init (e : RuleEntry) : Bool := bitOf e.w0 25
def RuleEntry.slot (e : RuleEntry) : Nat := bitsOf e.w0 0 10
def RuleEntry.auth (e : RuleEntry) : Nat := bitsOf e.w0 28 2
def RuleEntry.prio (e : RuleEntry) : Nat := bitsOf e.w0 24 4
def RuleEntry.hazard (e : RuleEntry) : Bool := bitOf e.w0 23
def RuleEntry.asp (e : RuleEntry) : Nat := bitsOf e.w0 0 7

/-- The entry at an index of a set of configuration words. -/
def ruleEntryAt (t : Tab Word) (i : Nat) : RuleEntry :=
  let w := fun k => (tabGet locDefault t (loc 3 (4 * i + k))).toNat
  ⟨i, w 0, w 1, w 2, w 3⟩

/-- The TERM and OUTPUT entries of a set of configuration words, ascending (an EMPTY word 0 is not listed). -/
def ruleEntries (t : Tab Word) : List RuleEntry :=
  (t.filterMap fun (l, w) =>
    if loc 3 0 ≤ l ∧ l < loc 3 8192 ∧ (l - loc 3 0) % 4 = 0 ∧ (bitsOf w.toNat 30 2 = 1 ∨ bitsOf w.toNat 30 2 = 2)
    then some (ruleEntryAt t ((l - loc 3 0) / 4)) else none)

/-- The table cut into groups: the TERMs up to each OUTPUT, and the TERMs after the last OUTPUT (R182). -/
def ruleGroups : List RuleEntry → List RuleEntry → List (List RuleEntry × Option RuleEntry)
  | [], acc => if acc.isEmpty then [] else [(acc.reverse, none)]
  | e :: es, acc => if e.kind = 2 then (acc.reverse, some e) :: ruleGroups es [] else ruleGroups es (e :: acc)

namespace State

/-- SUP_ASPCFGn fields (R52, R54). -/
def aspClass (s : State) (n : Nat) : Nat := bitsOf (s.rd (aSUP_ASPCFG n 0)).toNat 0 2
def aspNch (s : State) (n : Nat) : Nat := bitsOf (s.rd (aSUP_ASPCFG n 0)).toNat 2 4
def aspHead (s : State) (n : Nat) : Nat := bitsOf (s.rd (aSUP_ASPCFG n 0)).toNat 6 5
def aspSlot (s : State) (n : Nat) : Nat := bitsOf (s.rd (aSUP_ASPCFG n 0)).toNat 11 2
def aspKeepDusk (s : State) (n : Nat) : Bool := bitOf (s.rd (aSUP_ASPCFG n 0)).toNat 13
def aspForceBright (s : State) (n : Nat) : Nat := bitsOf (s.rd (aSUP_ASPCFG n 0)).toNat 16 16
/-- The channel in a list position of an aspect. -/
def aspChan (s : State) (n i : Nat) : Nat := bitsOf (s.rd (aSUP_ASPCFG n (1 + i / 4))).toNat (8 * (i % 4)) 7
/-- The aspect is used: NCH is not 0 (R52, R187); one with NCH 9-15 is disabled by check 1 of R68. -/
def aspUsed (s : State) (n : Nat) : Bool := decide (n < 96 ∧ s.aspNch n ≠ 0)
def aspChans (s : State) (n : Nat) : List Nat := (List.range (if s.aspNch n < 8 then s.aspNch n else 8)).map (s.aspChan n)

/-- A group protects: MUST_SHOW on a RESTRICTIVE or MUST_NOT_SHOW on a PERMISSIVE aspect (R184). -/
def protecting (s : State) (o : Option RuleEntry) : Bool :=
  match o with
  | none => false
  | some e => s.aspUsed e.asp && ((e.auth == 1 && s.aspClass e.asp == 2) || (e.auth == 2 && s.aspClass e.asp == 1))

/-- A TERM's new held state and output, by the held state before (R181, R184). -/
def evalTerm (s : State) (prot : Bool) (e : RuleEntry) (held : Bool) : Bool × Bool :=
  let v := s.snapVal e.slot
  if prot && (decide (5 < e.op) || (decide (e.slot < 896) && s.slotSrc e.slot == 6)) then (true, true)
  else
    match termResult e.op (signedOf e.w1 32) (signedOf e.w2 32) (bitsOf e.w3 0 31) v e.w1 e.w2 (toBits v 32)
        (s.snapStale e.slot) held with
    | some r => (r, if e.inv then !r else r)
    | none => (false, false)

/-- The groups of flagged entries that are in effect (R150). -/
def flaggedGroups (s : State) : List (List RuleEntry × Option RuleEntry) :=
  (ruleGroups (ruleEntries s.cfg.words) []).filter fun g =>
    match g.2 with
    | some e => e.hazard && s.protecting g.2
    | none => false

/-- The demand an OUTPUT issues; none with AUTH 0x3, an aspect above 95 or an unused aspect (R182, R187). -/
def outputDemand (s : State) (e : RuleEntry) : List Demand :=
  if e.auth = 3 ∨ !s.aspUsed e.asp then []
  else [⟨e.idx, e.asp, e.auth, e.prio, bitsOf e.w0 21 2, bitsOf e.w0 20 1, bitsOf e.w0 17 3, bitsOf e.w1 16 16⟩]

/-- The TERMs of one group evaluated in order: held states, outputs, and whether every output is true (R182). -/
def evalTerms (s : State) (prot : Bool) : List RuleEntry → Tab Bool → Tab Bool → Bool → Tab Bool × Tab Bool × Bool
  | [], held, out, all => (held, out, all)
  | e :: es, held, out, all =>
    let (h, o) := s.evalTerm prot e (tabGet (fun _ => false) held e.idx)
    s.evalTerms prot es (tabSet (fun _ => false) held e.idx h) (tabSet (fun _ => false) out e.idx o) (all && o)

/-- The whole table walked in ascending order against the snapshot (R182, R185). -/
def evalGroups (s : State) :
    List (List RuleEntry × Option RuleEntry) → Tab Bool → Tab Bool → Tab Bool → List Demand →
      Tab Bool × Tab Bool × Tab Bool × List Demand
  | [], held, out, holds, ds => (held, out, holds, ds)
  | (ts, o) :: gs, held, out, holds, ds =>
    let (held, out, all) := s.evalTerms (s.protecting o) ts held out true
    match o with
    | none => s.evalGroups gs held out holds ds
    | some e =>
      s.evalGroups gs held out (tabSet (fun _ => false) holds e.idx all)
        (if all then ds ++ s.outputDemand e else ds)

/-- Stale slots at the last snapshot, ascending (OBS_STAT). -/
def staleSlots (s : State) : List Nat := (List.range 896).filter s.snapStale

/-- A slot's age in 100 µs units, saturating at 0xFFFF (OBS_DATA AGE). -/
def slotAge (s : State) (n : Nat) : Nat :=
  let a := (s.grid.tick - (s.slot n).tick) / 2500
  if a < 0xFFFF then a else 0xFFFF

/-- The snapshot of the present store, and the stale onsets it shows against the STALE flags of the last one
(R19, R167, R170). -/
def takeSnapshot (s : State) : State :=
  let before := s
  let s := { s with obs := { s.obs with snap := s.obs.slots, stale := s.staleNow } }
  let stale := s.staleSlots
  let s := s.wr aOBS_STAT (stale.length * 2 ^ 16 + stale.headD 0x3FF)
  (stale.filter fun n => !before.snapStale n && (before.slot n).written).foldl (fun s n =>
    ((s.logEv evOBS_STALE kOBS n [n, s.slotAge n]).bump aOBS_STALE_CNT).raise srcOBS_STALE) s

-- Snoop engine (R174-R176)

/-- Word k of a snoop entry. -/
def snp (s : State) (e k : Nat) : Nat := s.cfgWord 2 (8 * e + k)

end State

/-- The EtherType of a frame and the payload after it: behind up to two 802.1Q or 802.1ad tags (R174). -/
def etherOf (f : List Byte) : Nat × List Byte :=
  let t := fun o => (f.getD o 0).toNat * 256 + (f.getD (o + 1) 0).toNat
  let tag := fun x => x == 0x8100 || x == 0x88A8
  let o := if tag (t 12) then (if tag (t 16) then 20 else 16) else 12
  (t o, f.drop (o + 2))

/-- Four bytes as a word, the first the most significant (R174). -/
def be32 (p : List Byte) (o : Nat) : Nat :=
  (p.getD o 0).toNat * 2 ^ 24 + (p.getD (o + 1) 0).toNat * 2 ^ 16 + (p.getD (o + 2) 0).toNat * 2 ^ 8
    + (p.getD (o + 3) 0).toNat

namespace State

/-- A key of an entry matches a payload; a zero mask matches every frame (R174). -/
def keyMatch (val mask off : Nat) (p : List Byte) : Bool :=
  mask == 0 || (decide (off + 4 ≤ p.length) && (be32 p off &&& mask) == val)

/-- A frame matches a snoop entry (R174). -/
def snpMatch (s : State) (e port etype : Nat) (p : List Byte) : Bool :=
  let w0 := s.snp e 0
  bitOf w0 31 && bitOf w0 (if port = 0 then 29 else 30) && bitsOf w0 0 16 == etype
    && keyMatch (s.snp e 1) (s.snp e 2) (bitsOf (s.snp e 5) 16 8) p
    && keyMatch (s.snp e 3) (s.snp e 4) (bitsOf (s.snp e 5) 24 8) p

/-- The converted value of the field a snoop entry takes from a payload (R175). -/
def snpValue (s : State) (e : Nat) (p : List Byte) : Int :=
  let w5 := s.snp e 5
  let w6 := s.snp e 6
  let off := bitsOf w5 8 8
  let w := if bitOf w5 6 then ofLeBytes ((p.drop off).take 4) else be32 p off
  let width := bitsOf w6 0 5 + 1
  let r := bitsOf w (bitsOf w6 5 5) width
  let r : Int := if bitOf w5 7 then signedOf r width else r
  sat32 ((r * signedOf (bitsOf w6 16 16) 16) / (2 ^ bitsOf w6 11 5 : Nat) + signedOf (s.snp e 7) 32)

/-- One matching entry extracts: a short frame is counted, else its slot is written and its hits counted (R176). -/
def snpExtract (s : State) (e : Nat) (p : List Byte) : State :=
  if p.length < bitsOf (s.snp e 5) 8 8 + 4 then s.bump aOBS_SNP_SHORT
  else
    let s := s.obsWrite (bitsOf (s.snp e 0) 16 10) (s.snpValue e p)
    let h := tabSet (fun _ => (0 : Word)) s.obs.hits e (tabGet (fun _ => (0 : Word)) s.obs.hits e + 1)
    let s := { s with obs := { s.obs with hits := h } }
    s.bump aOBS_SNP_MATCH

/-- The snoop entries that are valid, ascending. -/
def snpEntries (s : State) : List Nat :=
  s.cfg.words.filterMap fun (l, w) =>
    if loc 2 0 ≤ l ∧ l < loc 2 4096 ∧ (l - loc 2 0) % 8 = 0 ∧ bitOf w.toNat 31 then some ((l - loc 2 0) / 8) else none

/-- A frame with good FCS writes the slots of its first 64 matching entries; the rest are counted (R176). -/
def snoop (s : State) (port : Nat) (frame : List Byte) : State :=
  let (etype, p) := etherOf frame
  let hit := s.snpEntries.filter fun e => s.snpMatch e port etype p
  let s := (hit.take 64).foldl (fun s e => s.snpExtract e p) s
  (hit.drop 64).foldl (fun s _ => s.bump aOBS_SNP_OVF) s

-- Contexts' own copies (R488)

def copyOf (s : State) (c : Nat) : CtxCopy := tabGet (fun _ => defCopy) s.ctx c
def setCopy (s : State) (c : Nat) (x : CtxCopy) : State :=
  { s with ctx := tabSet (fun _ => defCopy) s.ctx c x }

/-- The words of a configuration read: active, or staged; 0 with no staged table (R491). -/
def cfgRead (s : State) (staged : Bool) (space idx : Nat) : Nat :=
  if staged then
    match s.cfg.staged with
    | some t => (tabGet locDefault t (loc space idx)).toNat
    | none => 0
  else s.cfgWord space idx

/-- The entry of OBS_IDX as the eight data words (OBS_DATA words by TABLE). -/
def obsEntry (s : State) (x : Nat) : List Nat :=
  let i := bitsOf x 0 10
  let staged := bitOf x 30
  match bitsOf x 24 4 with
  | 0 =>
    [toBits (s.stored s.obs.slots i) 32,
     2 ^ 31 * boolNat (s.snapStale i) + 2 ^ 30 * boolNat (s.staleIn s.obs.slots s.grid.tick (s.flag fTIME_SET) i)
       + 2 ^ 16 * (if i < 896 then s.slotSrc i else if i < 928 then 3 else 7) + s.slotAge i]
  | 1 => [s.cfgRead staged 1 (2 * i), s.cfgRead staged 1 (2 * i + 1)]
  | 2 => if i < 512 then (List.range 8).map fun k => s.cfgRead staged 2 (8 * i + k) else []
  | 3 => if i < 512 then [(tabGet (fun _ => (0 : Word)) s.obs.hits i).toNat] else []
  | _ => []

/-- An index register after AUTOINC: one on, 0 after the last entry or from beyond it (R190, R491). -/
def autoInc (x width last : Nat) : Nat :=
  if bitOf x 31 then
    let i := bitsOf x 0 width
    withBits x 0 width (if i < last then i + 1 else 0)
  else x

/-- A read of OBS_DATA0 by a context: the latch is loaded and the index advances (R190, R491). -/
def obsDataRead (s : State) (c : Nat) : State :=
  let k := s.copyOf c
  let last := if bitsOf k.obsIdx 24 4 = 2 ∨ bitsOf k.obsIdx 24 4 = 3 then 511 else 1023
  s.setCopy c { k with obsLatch := s.obsEntry k.obsIdx, obsIdx := autoInc k.obsIdx 10 last }

/-- The entry of RULE_IDX as RULE_DATA0-RULE_DATA4 (R190). -/
def ruleDataEntry (s : State) (x : Nat) : List Nat :=
  let i := bitsOf x 0 11
  let staged := bitOf x 30
  (List.range 4).map (fun k => s.cfgRead staged 3 (4 * i + k))
    ++ [if staged then 0
        else boolNat (tabGet (fun _ => false) s.rule.held i) + 2 * boolNat (tabGet (fun _ => false) s.rule.out i)
          + 4 * boolNat (tabGet (fun _ => false) s.rule.holds i)]

def ruleDataRead (s : State) (c : Nat) : State :=
  let k := s.copyOf c
  s.setCopy c { k with ruleLatch := s.ruleDataEntry k.ruleIdx, ruleIdx := autoInc k.ruleIdx 11 2047 }

/-- RULE_STAT counts the entries of the active table and shows R184 in use. -/
def ruleStat (s : State) : State :=
  let es := ruleEntries s.cfg.words
  let safe := (ruleGroups es []).any fun (ts, o) =>
    ts.any fun e => decide (5 < e.op) || (s.protecting o && decide (e.slot < 896) && s.slotSrc e.slot == 6)
  s.wr aRULE_STAT ((es.filter (·.kind == 2)).length % 4096 * 2 ^ 20 + (es.filter (·.kind == 1)).length % 4096 * 2 ^ 8
    + boolNat safe)

end State

-- Commands

/-- Rule periods run: from the start of D5 (R186), and not from the last commit before Dusk until Dusk operation ends (R51, R188, R383,
R386). -/
def State.rulesRun (s : State) : Bool := !s.lampsKept && decide (5 ≤ s.get fPWR_PHASE) && s.pwr.good

/-- Rule period P in ticks (R186, RULE_CFG). -/
def State.rulePeriod (s : State) : Nat := (s.rd aRULE_CFG).toNat % 2 ^ 18

/-- A rule period begins on this tick: the one whose tick 0 it is, or one that follows it by a multiple of P (R186). -/
def State.periodBegins (s : State) : Bool :=
  decide (s.rule.start ≤ s.grid.tick) && (s.grid.tick - s.rule.start) % s.rulePeriod == 0

/-- This tick of the rule period has come (R150, R405). -/
def State.ruleTick (s : State) (n : Nat) : Bool := decide (s.rule.start + n ≤ s.grid.tick)

/-- It is this tick of the rule period (R20, R21, R34). -/
def State.ruleAt (s : State) (n : Nat) : Bool := s.grid.tick == s.rule.start + n

/-- The resolver's result is on time: its ready handshake completed before the deadline tick of the period (R38). -/
def State.ruleReady (s : State) : Bool := s.res.ready && decide (s.res.readyAt < s.rule.start + 7500)

/-- Tick 0 of a rule period: the snapshot, and the start of an evaluation. A walk that is still running keeps its own snapshot and runs
to its end, and the start event is kept for the next one (R19, R40). -/
def State.ruleStart (s : State) : State :=
  let late := if s.rule.running then some (s.rule.late.getD (s.obs.snap, s.obs.stale)) else none
  let s := s.takeSnapshot
  { s with rule := { s.rule with
      start := s.grid.tick, running := true, demands := [], late := late
      walk := if late.isSome then s.rule.walk else s.grid.tick } }

/-- The walk of all 2,048 entries ends: held states advance and RULE_EVAL shows its ticks; its demands go to the resolver. Those of a
late walk are discarded, and the kept start event begins the next one (R40, R181-R185). -/
def State.ruleWalked (s : State) : State :=
  let view := match s.rule.late with
    | some (slots, stale) => { s with obs := { s.obs with snap := slots, stale := stale } }
    | none => s
  let (held, out, holds, ds) := view.evalGroups (ruleGroups (ruleEntries s.cfg.words) []) s.rule.held [] [] []
  let n := (s.grid.tick - s.rule.walk) % 65536
  let m := bitsOf (s.rd aRULE_EVAL).toNat 16 16
  let again := s.rule.late.isSome
  let s := { s with rule := { s.rule with
      held := held, out := out, holds := holds, demands := if again then [] else ds, running := again,
      walk := s.grid.tick, late := none } }
  s.wr aRULE_EVAL ((if m < n then n else m) * 65536 + n)

/-- The key under which the start of a rule period is taken. -/
def periodKey : Nat := 8192

/-- A rule period begins on this tick and has not been started yet (R19, R186). -/
def State.periodDueNow (s : State) : Bool := s.rulesRun && s.periodBegins && s.untaken periodKey

/-- RULE_EVAL_COMPLETE: the walk of all 2,048 entries ends; its demands go to the resolver and RULE_EVAL shows its
ticks (R181-R185). -/
def execRuleEvalComplete (s : State) : Res :=
  if s.rule.running then .next s.ruleWalked else .next s

/-- The sense inputs are sampled every 250 ticks from the beginning of D1 on (R172). -/
def State.senseDue (s : State) : Bool := s.grid.running && s.sampleDue s.obs.senseAt 250

/-- One sample of a sense input; a level read at FILTER x 10 consecutive samples is accepted, and the fixed slot is written (R172). -/
def State.senseOne (s : State) (n : Nat) (l : Bool) (ago : Nat) : State :=
  let x := tabGet (fun _ => defSense) s.obs.sense n
  let x := if l == x.level then { x with run := 0 }
    else if x.run = 0 then { x with run := 1, raw := s.stampBack ago }
    else { x with run := x.run + 1 }
  let accept := x.run != 0 && decide (bitsOf (s.rd (aOBS_SNSCFG n)).toNat 0 10 * 10 ≤ x.run)
  let x := if accept then { x with level := l, run := 0, stamp := x.raw } else x
  let s := { s with obs := { s.obs with sense := tabSet (fun _ => defSense) s.obs.sense n x } }
  let s := s.obsWrite (896 + n) (boolNat x.level)
  if accept then s.raise (64 + n) else s

/-- One sample of all sense inputs. -/
def State.senseAll (s : State) (levels : BitVec 32) (ago : List (BitVec 16)) : State :=
  let s := { s with obs := { s.obs with senseAt := s.grid.tick + 1 } }
  (List.range 32).foldl (fun s n => s.senseOne n (levels.getLsbD n) (ago.getD n 0).toNat) s

/-- SENSE_SAMPLE: the levels of SNS00-SNS31 at one sample, and by input how many steps of 2 ns before it the last raw edge lay; a
level read at FILTER x 10 consecutive samples is accepted, and every fixed slot is written (R172, R256). -/
def execSenseSample (levels : BitVec 32) (ago : List (BitVec 16)) (s : State) : Res :=
  if !s.senseDue then .next s else .next (s.senseAll levels ago)

/-- A write of ASP_VARv: stored, and every HOST slot that names it is written (R177); in Midnight it is ignored (R330). -/
def State.aspVarWrite (s : State) (v x : Nat) : State :=
  if s.midnight then s else (s.wr (aASP_VAR v) x).obsFeed 6 v (signedOf x 32)

/-- ASP_VAR_WRITE (R177). -/
def execAspVarWrite (v : Fin 32) (x : BitVec 32) (s : State) : Res := .next (s.aspVarWrite v.val x.toNat)

/-- A write of ASP_REQn: the request latched at the next tick 5,000; reserved bits are cleared (R59, R4); in Midnight it is
ignored (R330). -/
def State.aspReqWrite (s : State) (n x : Nat) : State := if s.midnight then s else s.wr (aASP_REQ n) (withBits x 8 8 0)

/-- ASP_REQ_WRITE (R59). -/
def execAspReqWrite (n : Fin 96) (x : BitVec 32) (s : State) : Res := .next (s.aspReqWrite n.val x.toNat)

/-- TIME_SLOT_UPDATE: every 1 ms the time base writes all TIME slots (R179). -/
def execTimeSlotUpdate (s : State) : Res := .next s.writeTimeSlots

/-- ACTIVATION_WINDOW_EDGE: the windows take their state at the present time and the TIME slots are written on that
tick (R178, R179). -/
def execActivationWindowEdge (s : State) : Res := .next s.evalTwins.writeTimeSlots

end Sys2Proof.Machine
end

