-- ==== Sys2Proof/Machine/Channel.lean ====
section
/-! DEFINITION. Lamp channels and banks as every lamp family reads them: geometry of channels, banks and the scan group,
owners, latches, currents, proof, and the bank switch. -/

namespace Sys2Proof.Machine

def darkSet : SetPoint := ⟨false, 0, 0, false, false⟩

def defChan : Chan :=
  { comm := darkSet, sent := none, pend := none, cur := darkSet, lit := false, mode := 0, nOn := 0, pulse := 0, start := 0,
    period := 0, front := 0, missed := false, morn := false, iop := 0, iopRun := 0, intvl := false, left := 0, excess := 0, probing := false, early := false, learn := 0, learnV := [],
    ramp := false, cleared := false, susOn := 0, susOff := 0, sampOn := [], sampOff := [], agrOn := 0, agrOff := 0, proofAt := 0,
    phaseProven := false, tEst := 0,
    tUpd := 0, seeded := false, darkAt := 0, hot := 0, coolAt := 0, vf := 0, isCode := 0, vk := 0, vfPrev := 0, starved := false, noCur := false, fLamp := 1024, fDiss := 1024,
    fBudget := 1024 }

def defBank : Bank := ⟨false, false, false, false, false, false, 0⟩

def defAsp : Asp := ⟨false, 0, 0, false, false, false, false, 0, none, none, none, false, false⟩

def defLed : Led :=
  { code := 0, iop := 0, scale := 0, lit := false, mode := 0, nOn := 0, pulse := 0, isCode := 0, vk := 0, intvl := false, left := 0,
    excess := 0, probing := false, early := false, susOn := 0, susOff := 0, sampOn := [], sampOff := [], agrOn := 0, agrOff := 0,
    proofAt := 0, morn := false }

def defSlotL : LoopSlot :=
  { run := false, fresh := false, moved := false, r := 0, i := 0, d := 0, xPrev := 0, u := 0, reseed := false, x := 0, sp := 0,
    rNext := 0, f := 0, hold := false, stale := false, open_ := false, wait := false, res := none, offAt := 0 }

/-- What a sample's kind has gathered for or against a LED is void, for samples up to this tick too (R131, R134). -/
def Led.restart (l : Led) (tick : Nat) : Led :=
  { l with susOn := 0, susOff := 0, sampOn := [], sampOff := [], agrOn := 0, agrOff := 0, proofAt := tick }

/-- A scanned LED commanded dark with `pulse` ticks of its pulse issued: no probe is left, and proof restarts if it was lit
(R131, R160). -/
def Led.dark (l : Led) (pulse tick : Nat) : Led :=
  let m := { l with code := 0, lit := false, nOn := 0, pulse := pulse, intvl := false, left := 0, excess := 0, probing := false,
                    early := false }
  if l.lit then m.restart tick else { m with agrOn := 0 }

/-- The same for a channel (R22, R101): what a change to dark leaves of its drive. -/
def Chan.dark (x : Chan) (tick : Nat) : Chan :=
  let p := tick - x.start
  { x with lit := false, pulse := if x.lit && decide (p < x.pulse) then p else x.pulse, learn := 0, learnV := [], intvl := false, left := 0, excess := 0,
           probing := false, darkAt := if x.lit then tick else x.darkAt }

/-- The sink conducts from its front without a gap: ANALOGUE at 100 % duty, the stretch of R109 included (R103, R109). -/
def Chan.steady (x : Chan) (tl : Nat) : Bool := x.lit && x.mode == 0 && decide (tl ≤ x.pulse)

/-- Lit at 100 % duty from now on, whatever the period (R97, R388). -/
def Chan.full (x : Chan) (tick tl iop : Nat) : Chan :=
  { x with lit := true, mode := 0, nOn := tl, pulse := tl, iop := iop, iopRun := iop, front := if x.steady tl then x.front else tick }

/-- Latch bits of CHS_SUPc[6:0] (R130). -/
def ltOPEN : Nat := 0
def ltBYPASS : Nat := 1
def ltPARTIAL : Nat := 2
def ltSHORT : Nat := 3
def ltSTRAY : Nat := 4
def ltOVERHEAT : Nat := 5
def ltOPEN1ST : Nat := 6

namespace State

def chan (s : State) (c : Nat) : Chan := tabGet (fun _ => defChan) s.chans c
def setChan (s : State) (c : Nat) (x : Chan) : State := { s with chans := tabSet (fun _ => defChan) s.chans c x }
def bank (s : State) (n : Nat) : Bank := tabGet (fun _ => defBank) s.banks n
def setBank (s : State) (n : Nat) (x : Bank) : State := { s with banks := tabSet (fun _ => defBank) s.banks n x }
def asp (s : State) (n : Nat) : Asp := tabGet (fun _ => defAsp) s.res.asps n
def setAsp (s : State) (n : Nat) (x : Asp) : State :=
  { s with res := { s.res with asps := tabSet (fun _ => defAsp) s.res.asps n x } }
def ledOf (s : State) (e : Nat) : Led := tabGet (fun _ => defLed) s.mtx.leds e
def setLed (s : State) (e : Nat) (x : Led) : State :=
  { s with mtx := { s.mtx with leds := tabSet (fun _ => defLed) s.mtx.leds e x } }

def loop (s : State) (n : Nat) : LoopSlot := tabGet (fun _ => defSlotL) s.loops.slots n
def setLoop (s : State) (n : Nat) (x : LoopSlot) : State :=
  { s with loops := { s.loops with slots := tabSet (fun _ => defSlotL) s.loops.slots n x } }


-- Aspects and their channels (R52, R53, R68)

/-- A used aspect that the structural check has not disabled (R52, R68). -/
def aspDis (s : State) (n : Nat) : Nat := tabGet (fun _ => 0) s.cfg.disabled n
def aspEnabled (s : State) (n : Nat) : Bool := s.aspUsed n && s.aspDis n == 0

/-- The enabled aspects with their channels, ascending. -/
def aspList (s : State) : List (Nat × List Nat) :=
  ((List.range 96).filter s.aspEnabled).map fun n => (n, s.aspChans n)

/-- The enabled aspect that a channel belongs to (R53). -/
def owner (s : State) (c : Nat) : Option Nat := (s.aspList.find? fun p => p.2.contains c).map (·.1)

/-- The class that governs a channel: 0 INFORMATIONAL or unowned, 1 PERMISSIVE, 2 RESTRICTIVE (R54, R95). -/
def chanClass (s : State) (c : Nat) : Nat :=
  match s.owner c with
  | some n => s.aspClass n
  | none => 0

-- Scan group (R154-R156)

/-- A frame is in progress (R157). -/
def frameRuns (s : State) : Bool :=
  s.flag fMTX_RUN && decide (s.mtx.frame ≤ s.grid.tick ∧ s.grid.tick < s.mtx.frame + bitsOf s.mtx.live fMTX_FRAME.lo fMTX_FRAME.width)
/-- A field of the layout in force: that of the frame in progress to its end, then that of MTX_CFG (R165). -/
def mtxGet (s : State) (f : Fld) : Nat := if s.frameRuns then bitsOf s.mtx.live f.lo f.width else s.get f
def mtxSplit (s : State) : Bool := s.mtxGet fMTX_SPLIT == 1
/-- Ticks of a frame (R157). -/
def mtxFrame (s : State) : Nat := s.mtxGet fMTX_FRAME
/-- Banks of the scan group; K is 2, 4 or 8 (R154). -/
def mtxBanks (s : State) : Nat := 2 ^ (s.mtxGet fMTX_K + 1)
def mtxFirst (s : State) : Nat := s.mtxGet fMTX_FIRST
/-- The bank is in the enabled scan group (R154). -/
def inGroup (s : State) (n : Nat) : Bool :=
  s.mtxGet fMTX_EN == 1 && decide (s.mtxFirst ≤ n ∧ n < s.mtxFirst + s.mtxBanks)
/-- The bank is a line of the group, and the group is not at rest as in Dusk and Midnight, where a channel of the bank that is lit runs
steady (R154, R383, R384, R388). -/
def scanned (s : State) (n : Nat) : Bool := s.inGroup n && !s.midnight && !s.lampsKept
/-- Slots of a frame (R155). -/
def mtxSlots (s : State) : Nat := if s.mtxSplit then s.mtxBanks / 2 else s.mtxBanks
/-- LED index of line L and column channel c (R156). -/
def ledIndex (s : State) (line c : Nat) : Nat := 128 * line + (c - 16 * s.mtxFirst)
/-- The LED position exists (R156). -/
def ledExists (s : State) (e : Nat) : Bool :=
  let line := e / 128
  let j := e % 128
  let k := s.mtxBanks
  decide (line < k ∧ j < 16 * k) && (!s.mtxSplit || (decide (line < k / 2) == decide (j < 8 * k)))
/-- Column channel of an LED index (R156). -/
def ledChan (s : State) (e : Nat) : Nat := 16 * s.mtxFirst + e % 128
/-- Bank whose switch is the line of an LED (R156). -/
def ledBank (s : State) (e : Nat) : Nat := s.mtxFirst + e / 128
/-- The LED is the home LED of its column channel (R156). -/
def ledHome (s : State) (e : Nat) : Bool := s.ledBank e == s.ledChan e / 16
/-- The home LED of a channel of the scan group. -/
def homeLed (s : State) (c : Nat) : Nat := s.ledIndex (c / 16 - s.mtxFirst) c
/-- The LED is owned: the home LED of a channel of an enabled aspect (R156). -/
def ledOwned (s : State) (e : Nat) : Bool := s.ledHome e && (s.owner (s.ledChan e)).isSome
/-- Slot length and the longest pulse of a slot (R157, R158). -/
def slotTicks (s : State) : Nat := s.mtxFrame / s.mtxSlots
def nMax (s : State) : Nat := s.slotTicks - 575
/-- The lines that slot k closes: one, or one of each half (R155). -/
def slotLines (s : State) (k : Nat) : List Nat := if s.mtxSplit then [k, k + s.mtxBanks / 2] else [k]
/-- A slot is in progress; the tick it began (R157). -/
def inSlot (s : State) : Bool := s.frameRuns && s.mtx.slot != 0 && decide (s.mtx.slot ≤ s.mtxSlots)
def slotAt (s : State) : Nat := s.mtx.frame + (s.mtx.slot - 1) * s.slotTicks
/-- The LED of a scanned column that the slot in progress drives, if any (R155, R156). -/
def slotLed (s : State) (c : Nat) : Option Nat :=
  if s.inSlot then ((s.slotLines (s.mtx.slot - 1)).map fun l => s.ledIndex l c).find? s.ledExists else none
/-- What is issued of a LED's pulse by this tick: its pulse starts at slot tick 475, and none is issued outside its slot
(R22, R136, R158). -/
def ledIssued (s : State) (e : Nat) : Nat :=
  if s.slotLed (s.ledChan e) = some e then
    let d := s.grid.tick - (s.slotAt + 475)
    let p := (s.ledOf e).pulse
    if d < p then d else p
  else 0
/-- A scanned LED goes dark at once (R22, R158). -/
def darkLed (s : State) (e : Nat) : State := s.setLed e ((s.ledOf e).dark (s.ledIssued e) s.grid.tick)
/-- Every scanned LED goes dark. -/
def ledsDark (s : State) : State := (s.mtx.leds.map (·.1)).foldl darkLed s
/-- The LEDs of a column lose what is left of their pulses in this frame (R98, R163). -/
def cutColumn (s : State) (c : Nat) : State :=
  (List.range s.mtxBanks).foldl (fun s l =>
    let e := s.ledIndex l c
    if s.ledExists e then s.setLed e { s.ledOf e with pulse := s.ledIssued e } else s) s

-- Latches and proof (R61, R130, R131)

def latch (s : State) (c k : Nat) : Bool := s.flag (fSUP_LATCH c k)
def faulted (s : State) (c : Nat) : Bool := s.get (fSUP_LATCHES c) != 0

/-- The channel is lost: a latch other than PARTIAL or OVERHEAT, an OVERHEAT of thermal shutdown (R61), or a bank whose
converters a forced self-test takes away (R406). -/
def lost (s : State) (c : Nat) : Bool :=
  let l := s.get (fSUP_LATCHES c)
  bitOf l 0 || bitOf l 1 || bitOf l 3 || bitOf l 4 || bitOf l 6 || (bitOf l 5 && s.flag (fSUP_TSD_CAUSE c))
    || s.bist.bank == some (c / 16)

/-- The channel is judged by row 3 of R62: it holds a latched fault or is lost. -/
def failed (s : State) (c : Nat) : Bool := s.faulted c || s.lost c

/-- Fault group 1 follows the latches and the MTX bits (R432). -/
def lampGroup (s : State) : State :=
  let any := (List.range 128).any s.faulted
    || (List.range 32).any fun w => s.rd (aMTX_DARK w) != 0 || s.rd (aMTX_STRAY w) != 0
  s.fltFollow 1 evLAMP_FAULT any

/-- Proof restarts with the next sample under the unchanged command, at a confirmation (R130): UNPROVEN, no agreement counted; a
suspect of the other kind of sample stands. -/
def reprove (s : State) (c : Nat) : State :=
  let s := s.put (fSUP_PROOF c) 0
  if s.scanned (c / 16) then
    let e := s.homeLed c
    s.setLed e { s.ledOf e with agrOn := 0, agrOff := 0 }
  else s.setChan c { s.chan c with agrOn := 0, agrOff := 0 }

/-- Proof restarts: UNPROVEN, no suspect, no agreement, and only samples taken from now on count (R131, R134); of a column, the
proof of its home LED. -/
def unprove (s : State) (c : Nat) : State :=
  let s := (s.put (fSUP_PROOF c) 0).putFlag (fSUP_SUSPECT c) false
  let s := s.setChan c { s.chan c with
    susOn := 0, susOff := 0, sampOn := [], sampOff := [], agrOn := 0, agrOff := 0, proofAt := s.grid.tick }
  if s.scanned (c / 16) then s.setLed (s.homeLed c) ((s.ledOf (s.homeLed c)).restart s.grid.tick) else s

/-- A channel becomes PROVEN_LIT, with LITPROOF (R131). -/
def provenLit (s : State) (c : Nat) : State :=
  let s := (s.put (fSUP_PROOF c) 2).putFlag (fSUP_LITPROOF c) true
  s.setChan c { s.chan c with phaseProven := true }

-- Lamp period (R107-R108), currents (R74, R75)

/-- DEV_ADC_STAT of a pair: 0 buffer ready, 1 covering, 2 and 3 the FAULT bits of its converters. -/
def fADC (p i : Nat) : Fld := ⟨aDEV_ADC_STAT, 4 * p + i, 1⟩

/-- T_L: the period the channel is in, which a commit changes at its end (R107, R109), or the frame of a scanned bank (R162). -/
def lampPeriod (s : State) (c : Nat) : Nat :=
  if s.scanned (c / 16) then s.mtxFrame
  else if (s.chan c).period = 0 then s.get (fPERIOD (c / 16)) else (s.chan c).period

/-- The tick k = 0 of a channel's periods: lamp epoch, phase of the bank, and with STAGGER its place in the bank (R107, R108). -/
def periodFirst (s : State) (c : Nat) : Nat :=
  let n := c / 16
  s.dim.epoch + s.get (fPHASE n) + (if s.flag (fSTAGGER n) then s.get (fPERIOD n) / 16 * (c % 16) else 0)

/-- A period of the channel starts on this tick: from Dawn phase D4 on, every PERIOD ticks of its bank's timing (R107, R108), and
not within the period in progress, whose end a new timing waits for (R109). -/
def periodDue (s : State) (c : Nat) : Bool :=
  let x := s.chan c
  let t := s.grid.tick
  let f := s.periodFirst c
  decide (4 ≤ s.get fPWR_PHASE) && !s.scanned (c / 16) && decide (f ≤ t) && (t - f) % s.get (fPERIOD (c / 16)) == 0
    && (x.period == 0 || decide (x.start + x.period ≤ t))

/-- A frame of the scan group starts on this tick, not within one in progress (R157, R165). -/
def frameDue (s : State) : Bool :=
  let t := s.grid.tick
  let f := s.dim.epoch + s.get (fPHASE (s.get fMTX_FIRST))
  !s.frameRuns && decide (f ≤ t) && (t - f) % s.get fMTX_FRAME == 0

/-- The sink of a channel conducts now (R22, R103, R109, R158). -/
def sinkOn (s : State) (c : Nat) : Bool :=
  let t := s.grid.tick
  if s.scanned (c / 16) then
    match s.slotLed c with
    | some e => decide (s.slotAt + 475 ≤ t ∧ t < s.slotAt + 475 + (s.ledOf e).pulse)
    | none => false
  else
    let x := s.chan c
    x.steady (s.lampPeriod c) || decide (x.start ≤ t ∧ t < x.start + x.pulse)

/-- What is left of the channel's pulses is not issued, on a column for the rest of the frame (R98, R136, R163). -/
def cutPulse (s : State) (c : Nat) : State :=
  let x := s.chan c
  let d := s.grid.tick - x.start
  let p := if d < x.pulse then d else if x.steady (s.lampPeriod c) then s.lampPeriod c - 1 else x.pulse
  let s := s.setChan c { x with pulse := p }
  if s.scanned (c / 16) then s.cutColumn c else s

/-- The short-to-rail comparator can act now: 111 ticks or more after the front of a pulse that lasts till now (R136). -/
def shortWatched (s : State) (c : Nat) : Bool :=
  let t := s.grid.tick
  if s.scanned (c / 16) then
    match s.slotLed c with
    | some e => decide (s.slotAt + 475 + 111 ≤ t ∧ t ≤ s.slotAt + 475 + (s.ledOf e).pulse)
    | none => false
  else
    let x := s.chan c
    decide (x.front + 111 ≤ t) && (x.steady (s.lampPeriod c) || (x.pulse != 0 && decide (t ≤ x.start + x.pulse)))

/-- The cathode of a column is pulled to this voltage in mV from slot tick 0 to 474, unless its sink is latched off (R159). -/
def preCharge (s : State) (c : Nat) : Option Nat :=
  if s.scanned (c / 16) && s.inSlot && decide (s.grid.tick < s.slotAt + 475) && !s.latch c ltSHORT then
    some (s.boost.vlamp - 250 * s.mtxGet fMTX_PRE)
  else none

/-- I_ceil in units of 1/1023 mA: 2 mA + CEIL x 38 mA / 1023 (R74). -/
def iCeil (s : State) (c : Nat) : Nat := 2046 + 38 * s.get (fCEIL c)

/-- 20 mA or I_ceil, the lower, in the same units (R97, R388). -/
def i20 (s : State) (c : Nat) : Nat := if s.iCeil c < 20460 then s.iCeil c else 20460

/-- F: the least governor factor, at least 410 for a RESTRICTIVE aspect (R94). -/
def govF (s : State) (c : Nat) : Nat :=
  let x := s.chan c
  let f := minFrom x.fLamp [s.boost.fJunc, x.fDiss, x.fBudget]
  if s.chanClass c = 2 ∧ f < 410 then 410 else f

/-- F of a kept channel in Dusk: the R116 curve and f_junction, never below 410 (R384). -/
def duskF (s : State) (c : Nat) : Nat :=
  let f := minFrom (s.chan c).fLamp [s.boost.fJunc]
  if f < 410 then 410 else f

/-- Thermal shutdown lasts (R97). -/
def tsd (s : State) : Bool := s.flag fPWR_TSD

/-- The bank's pair has a pair fault: both FAULT bits (R207). -/
def pairFault (s : State) (p : Nat) : Bool := bitsOf (s.rd aDEV_ADC_STAT).toNat (4 * p + 2) 2 == 3

/-- Comparator-only supervision of a bank (R149): SC0 lost or commits frozen, Dusk, Midnight, a pair fault. -/
def cmpOnly (s : State) (n : Nat) : Bool :=
  s.flag fNW_SC0_LOST || s.flag fNW_FROZEN || s.inDusk || s.midnight || s.pairFault n

/-- The drive die takes set-points and bank commands: no Midnight and no freeze (R388, R436). -/
def takesCommits (s : State) : Bool := !s.midnight && !s.flag fNW_FROZEN

-- Bank switches (R77-R81)

/-- The bank's role as configured: 0 INFORMATIONAL, 1 PERMISSIVE, 2 RESTRICTIVE (R66); in Midnight as latched (R390). -/
def roleOf (s : State) (n : Nat) : Nat :=
  if s.midnight then tabGet (fun _ => 0) s.pwr.roles n else s.get (fBANK_ROLE n)

/-- The switch is commanded closed and ramps for 375 ticks (R78); the next commit counts it as reclosed (R71). -/
def bankClose (s : State) (n : Nat) : State :=
  if (s.bank n).closed then s
  else s.setBank n { s.bank n with closed := true, closing := true, again := true, at_ := s.grid.tick }

/-- The switch opens (R78). -/
def bankOpen (s : State) (n : Nat) : State :=
  let b := s.bank n
  (s.setBank n { b with closed := false, closing := false, at_ := if b.closed then s.grid.tick else b.at_ }).putFlag (fBANK_CLOSED n)
    false

/-- A frame that has run to its end: every line of its layout is open, and no slot follows until the next frame starts; the
group scans on while EN is 1 (R157, R165). -/
def scanEnd (s : State) : State :=
  if !s.flag fMTX_RUN || s.frameRuns then s
  else
    let first := bitsOf s.mtx.live fMTX_FIRST.lo fMTX_FIRST.width
    let k := 2 ^ (bitsOf s.mtx.live fMTX_K.lo fMTX_K.width + 1)
    let s := (List.range k).foldl (fun s l => s.bankOpen (first + l)) s
    ({ s with mtx := { s.mtx with slot := 0 } }).putFlag fMTX_RUN (s.flag fMTX_EN)

/-- The present state of the part wants the bank's switch closed: in Midnight a bank with a table channel (R388), in Dusk one
with a kept channel (R383), else a NORMAL bank or a line of the scan group (R77). -/
def bankWanted (s : State) (n : Nat) : Bool :=
  let any := fun (p : Nat → Bool) => (List.range 16).any fun i => p (16 * n + i)
  if s.midnight then s.flag fPWR_TABLE_VALID && any fun c => tabGet (fun _ => 0) s.pwr.table c != 0
  else if s.lampsKept then any fun c => tabGet (fun _ => false) s.pwr.duskSet c
  else s.get (fBANK_MODE n) == 1 || s.scanned n

/-- A STRAY latch, or for a scan line a MTX_STRAY bit, lies in the bank (R67, R147, R164). -/
def bankHasStray (s : State) (n : Nat) : Bool :=
  ((List.range 16).any fun i => s.latch (16 * n + i) ltSTRAY)
    || (s.inGroup n && (List.range 4).any fun w => s.rd (aMTX_STRAY (4 * (n - s.mtxFirst) + w)) != 0)

/-- The bank is held open for another channel's STRAY than `c` (R62 row 2, R127). -/
def heldForOther (s : State) (c : Nat) : Bool :=
  let n := c / 16
  s.flag (fBANK_STRAY n)
    && (!s.latch c ltSTRAY
      || ((List.range 16).any fun i => 16 * n + i != c && s.latch (16 * n + i) ltSTRAY)
      || (s.inGroup n && (List.range 4).any fun w => s.rd (aMTX_STRAY (4 * (n - s.mtxFirst) + w)) != 0))

/-- MTX_STAT.HELD follows the banks of the group (R164). -/
def mtxHeld (s : State) : State :=
  s.put fMTX_HELD (sumList ((List.range 8).map fun n =>
    if s.inGroup n && (s.flag (fBANK_STRAY n) || s.flag (fBANK_OC n)) then 2 ^ n else 0))

/-- The test opening of a bank is out (R393). -/
def mornTested (s : State) (n : Nat) : Bool := tabGet (fun _ => false) s.pwr.mornOpen n

/-- The Morning test has commanded the bank open, which counts as closing until it is closed again; a bank that is only read back has had
no command (R393). -/
def mornOpened (s : State) (n : Nat) : Bool :=
  s.mornTested n && s.get (fBANK_MODE n) == 1 && !s.flag (fBANK_STRAY n) && !s.flag (fBANK_OC n)

/-- The Morning check ends once bank 7 is done: RESULT, NOPEN and one MORNING record (R391, R394). -/
def mornEnd (s : State) : State :=
  if !s.flag fMORN_RUNNING || s.pwr.mornBank != 16 || !s.pwr.mornOpen.isEmpty then s
  else
    let n := if s.pwr.mornLatched < 255 then s.pwr.mornLatched else 255
    let bad := s.get fMORN_BANKFAIL
    let r := if bad = 0 ∧ n = 0 then 1 else 2
    let s := (((s.put fMORN_NOPEN n).put fMORN_RESULT r).putFlag fMORN_RUNNING false)
    { s with pwr := { s.pwr with probe := [] } }.logFw evMORNING kDEVICE 0 [r, n, bad]

/-- The bank command of R67: a bank of the role RESTRICTIVE stays closed, any other opens and is held. A Morning test of the
bank ends there, passed (R393). -/
def strayOpen (s : State) (n : Nat) : State :=
  let tested := s.mornTested n
  let s := { s with pwr := { s.pwr with mornOpen := tabSet (fun _ => false) s.pwr.mornOpen n false } }
  if s.roleOf n = 2 ∨ s.get (fBANK_MODE n) = 0 then
    if tested then ((if s.get (fBANK_MODE n) = 1 then s.bankClose n else s)).mornEnd else s
  else if tested then (((s.bankOpen n).putFlag (fBANK_STRAY n) true).mtxHeld).mornEnd
  else ((s.bankOpen n).putFlag (fBANK_STRAY n) true).mtxHeld

/-- Fault group 2 follows BANK_STUCK and BANK_OC (R432). -/
def bankGroup (s : State) (cls : Nat) : State :=
  s.fltFollow 2 cls ((List.range 8).any fun n => s.flag (fBANK_STUCK n) || s.flag (fBANK_OC n))

-- Detection bound (R135, R140, R209)

/-- The channel's on-time in its present drive lies in the probe regime (R137). -/
def inProbe (s : State) (c : Nat) : Bool := s.flag (fSUP_PROBE c)

/-- D_n, D_p or D_c of the channel, in ticks (R135, R140, R209). -/
def detBound (s : State) (c : Nat) : Nat :=
  let t := s.lampPeriod c
  let m := if t < 25000 then t else 25000
  let i := if t < 50000 then (50000 + t - 1) / t else 1
  if s.inProbe c then i * t + t + m
  else if bitOf (s.rd aDEV_ADC_STAT).toNat (4 * (c / 16) + 1) && decide (t ≤ 12500) then 4 * t + m
  else 2 * t + m

/-- Proving limit of an aspect: the largest detection bound among its channels, plus P (R71). -/
def provingLimit (s : State) (n : Nat) : Nat := maxFrom 0 ((s.aspChans n).map s.detBound) + s.rulePeriod

-- Temperatures (R117, R145)

/-- The NTC_LB temperature in use, in 0.1 °C: measured, or NTC_SUB while the reading is out of range (R117). -/
def ntcTemp (s : State) : Int := if s.flag fDIM_NTC_FAULT then 10 * (s.get fNTC_SUB : Int) else s.dim.ntc

/-- A converter of the bank is under self-test: its channels take NTC_LB (R406). -/
def bankTested (s : State) (n : Nat) : Bool :=
  match s.bist.cur with
  | some b => decide (b < 16) && b / 2 == n
  | none => false

/-- The estimate is valid (R145): learnt, NLED_SIG of 2 or more, no PARTIAL suspect, fresh within 100 ms, within 50 K. -/
def tempValid (s : State) (c : Nat) : Bool :=
  let x := s.chan c
  s.flag (fSIG_LEARNT c) && decide (2 ≤ s.get (fSIG_NLED c)) && x.susOn != ltPARTIAL + 1 && x.seeded
    && decide (s.grid.tick ≤ x.tUpd + 2500000) && decide ((x.tEst - 100 * s.ntcTemp).natAbs ≤ 50000)

/-- The estimate is the channel's temperature: valid, and not in Dawn, under BIST of its pair, or in comparator-only supervision;
a scanned column has none (R117, R162). -/
def estUsed (s : State) (c : Nat) : Bool :=
  s.tempValid c && s.pstate != 0 && !s.cmpOnly (c / 16) && !s.bankTested (c / 16) && !s.scanned (c / 16)

/-- The channel's temperature by R117, in mK. -/
def lampTemp (s : State) (c : Nat) : Int := if s.estUsed c then (s.chan c).tEst else 100 * s.ntcTemp

/-- TEMP and TEMP_VALID shown (CHS_SUPc). TEMP is the whole degrees of T_est, rounded down; an estimate outside -128 to 127 °C
wraps in the 8-bit field, of which the spec says nothing (DESIGN CHOICE, log entry 76). -/
def showTemp (s : State) (c : Nat) : State :=
  (s.put (fSUP_TEMP c) (toBits ((s.chan c).tEst / 1000) 8)).putFlag (fSUP_TEMP_VALID c) (s.tempValid c)

end State

end Sys2Proof.Machine
end

