-- ==== Sys2Proof/Machine/Capture.lean ====
section
/-! DEFINITION. The capture ring (R428-R431): the words every converter writes, pages, and the freeze. -/

namespace Sys2Proof.Machine

def defRing : CapRing := ⟨0, 0, 0, 127, 0, 0⟩

/-- IDLE words for a number of ticks without a conversion (R428), at most `n` words. -/
def idleWords : Nat → Nat → List Nat
  | 0, _ => []
  | n + 1, t => if t = 0 then [] else if t ≤ 4095 then [0xB000 + t] else (0xB000 + 4095) :: idleWords n (t - 4095)

/-- KIND of a channel quantity: on-phase 4-6, off-phase 7-9, by the results the hold has so far (R428). -/
def capKind (h : Hold) : Nat := (if h.on then 4 else 7) + h.res.length

namespace State

def subRing (s : State) (k : Nat) : CapRing := tabGet (fun _ => defRing) s.cap.rings k
def setSubRing (s : State) (k : Nat) (r : CapRing) : State :=
  { s with cap := { s.cap with rings := tabSet (fun _ => defRing) s.cap.rings k r } }

/-- Memory-die address of the page a converter writes (R411, R428). -/
def capPage (k page : Nat) : Nat := k * 0x300000 + page % 768 * 4096

/-- One word joins the sub-ring of a converter; a full page is followed by the next (R428). -/
def capPut (s : State) (k : Nat) (w : Nat) : State :=
  let r := s.subRing k
  let a := capPage k r.page
  let s := if r.words = 0 then
      (s.memWrite a (leBytes 4 s.tick32)).memWrite (a + 8)
        (leBytes 2 r.page ++ leBytes 1 k ++ leBytes 1 (bitsOf (s.rd aDEV_ADC_PLACE).toNat (4 * (k / 2)) 4))
    else s
  let s := s.memWrite (a + 16 + 2 * r.words) (leBytes 2 w)
  let s := (s.memWrite (a + 4) (leBytes 4 s.tick32)).memWrite (a + 12) (leBytes 2 (r.words + 1))
  if r.words + 1 = 2040 then s.setSubRing k { r with page := r.page + 1, words := 0 }
  else s.setSubRing k { r with words := r.words + 1 }

/-- The next higher channel of a converter's present list after `c`, from its highest back to its lowest (R428). -/
def capNext (s : State) (k c : Nat) : Nat :=
  let both := s.flag ⟨aDEV_ADC_STAT, 4 * (k / 2) + 1, 1⟩
  let lo := if both then 16 * (k / 2) else 8 * k
  let n := if both then 16 else 8
  if lo ≤ c ∧ c + 1 < lo + n then c + 1 else lo

/-- The words that a result writes: IDLE, EPOCH, SOURCE, FLAG, and the result itself (R428, R429). -/
def capResult (s : State) (k : Nat) (it : AdcItem) (holds : List Hold) (code : Nat) (sat late : Bool) : State :=
  if s.get fCAP_STATE = 3 ∨ s.get fCAP_STATE = 4 then s
  else
    let r := s.subRing k
    let idle := it.start - (if r.last < r.since then r.since else r.last)
    let flag := boolNat it.tag + 2 * boolNat late + 4 * boolNat sat
    let (kind, src) := match it.kind, holds with
      | 2, h :: _ =>
        (capKind h, if h.res.isEmpty && h.chan != s.capNext k r.chan then [0xA000 + h.chan] else [])
      | 0, _ => (0, [])
      | 1, _ => (1, [])
      | 3, _ => (2, [])
      | _, _ => (3, [])
    let words := idleWords 2040 idle ++ (if it.epoch = r.epoch then [] else [0xC000 + it.epoch]) ++ src
      ++ (if flag = 0 then [] else [0xD000 + flag]) ++ [kind * 4096 + code]
    let s := words.foldl (fun s w => s.capPut k w) s
    let ch := match it.kind, holds with
      | 2, h :: _ => h.chan
      | _, _ => r.chan
    s.setSubRing k { s.subRing k with last := s.grid.tick, chan := ch, epoch := it.epoch }

/-- The history a converter's sub-ring holds before a tick, in ms (R431). -/
def capPre (s : State) (k trig : Nat) : Nat :=
  let r := s.subRing k
  let first := if 768 ≤ r.page then s.memNat (capPage k (r.page + 1)) 4 else r.since % 2 ^ 32
  (trig + 2 ^ 32 - first) % 2 ^ 32 / 25000

/-- Two converters' PRE to a payload word. -/
def preWords (pre : Nat → Nat) : List Nat := (List.range 8).map fun p => pre (2 * p) + 65536 * (pre (2 * p + 1) % 65536)

/-- The ring freezes: source 58 and CAPTURE with the trigger tick, PRE by converter and POST (R431). -/
def capFreeze (s : State) (midnight : Bool) : State :=
  let trig := if midnight then s.tick32 else (s.rd aCAP_TRIGTICK).toNat
  let post := if midnight then 0 else s.cap.post
  let pre := fun k => s.capPre k trig
  let s := { (s.put fCAP_STATE 3).putFlag fCAP_MN_FREEZE midnight with cap := { s.cap with paused := none } }
  let s := s.put fCAP_PRE (minFrom 65535 ((List.range 16).map pre))
  let s := if midnight && s.flag fNW_SC0_LOST then s
    else s.logEv evCAPTURE kDEVICE 0 (trig :: (preWords pre ++ [post]))
  s.raise srcCAPTURE

/-- Writing begins again on all converters (R429). -/
def capResume (s : State) : State :=
  (List.range 16).foldl (fun s k => s.setSubRing k { s.subRing k with since := s.grid.tick, last := s.grid.tick }) s

/-- Dusk stops the writing of a ring that is not frozen (R429). -/
def capPause (s : State) : State :=
  let n := s.get fCAP_STATE
  if n < 3 then { s with cap := { s.cap with paused := some n } }.put fCAP_STATE 4 else s

/-- Dusk exit takes the ring up again where it was stopped (R429). -/
def capUnpause (s : State) : State :=
  match s.cap.paused with
  | some n => ({ s with cap := { s.cap with paused := none } }.put fCAP_STATE n).capResume
  | none => s

/-- POST is over: as many microseconds have passed since the tick of the trigger (R431). -/
def capOver (s : State) : Bool :=
  decide (25 * s.cap.post ≤ (s.tick32 + 2 ^ 32 - (s.rd aCAP_TRIGTICK).toNat) % 2 ^ 32)

end State

-- Commands

/-- CAPTURE_TRIGGER: the armed trigger NOW or TIME fires; triggers of records and pins fire in their own steps; one in
TRIGGERED or FROZEN is ignored (R430, R431). -/
def execCaptureTrigger (s : State) : Res :=
  if s.get fCAP_STATE = 1 ∧ (s.cap.trig = 0 ∨ (s.cap.trig = 2 ∧ s.cap.target ≤ s.timeNs)) then
    .next (s.capTrigger false s.cap.post)
  else .next s

/-- CAPTURE_FREEZE: POST ends (R431). -/
def execCaptureFreeze (s : State) : Res := if s.get fCAP_STATE = 2 && s.capOver then .next (s.capFreeze false) else .next s

end Sys2Proof.Machine
end

