-- ==== Sys2Proof/Machine/Lamp.lean ====
section
/-! DEFINITION. Aspects and heads (R52-R73): demands, states, forcing and blocking at tick 5,000, and the aspect commit
at tick 7,500 with its set-points, banks, budget, fallback table, ASPECT_READY and the end of Dawn. -/

namespace Sys2Proof.Machine

/-- What a resolution decides for an aspect (R55, R56). -/
structure Verdict where
  lit : Bool
  decider : Nat
  rule : Nat
  prio : Nat
  level : Nat
  patEn : Nat
  pat : Nat
  bright : Nat
  deriving DecidableEq, Repr

def darkVerdict : Verdict := ⟨false, 0, 0, 0, 0, 0, 0, 0⟩

/-- The demand of highest priority, at equal priority of the lowest entry (R56). -/
def bestDemand : List Demand → Option Demand
  | [] => none
  | d :: ds =>
    match bestDemand ds with
    | none => some d
    | some e => if e.prio < d.prio ∨ (e.prio = d.prio ∧ d.entry ≤ e.entry) then some d else some e

/-- A verdict with the presentation of the winning demand (R56). -/
def verdictOf (lit : Bool) (decider : Nat) : Option Demand → Verdict
  | none => { darkVerdict with lit := lit, decider := decider }
  | some d => ⟨lit, decider, d.entry, d.prio, d.level, d.patEn, d.pat, d.bright⟩

/-- Of MUST_SHOW and MUST_NOT_SHOW demands, SHOW wins by the class rule (R54, R55). -/
def mustShows (cls : Nat) (shows nots : List Demand) : Bool :=
  match bestDemand shows, bestDemand nots with
  | none, _ => false
  | some _, none => true
  | some a, some b => if cls = 2 then true else if cls = 1 then false else decide (b.prio < a.prio)

/-- SCALE, N_on and MINCLIP of a code in a mode, 0 ANALOGUE or 1 PWM (R100, R103, R105). -/
def driveOf (mode tl code matchf : Nat) : Nat × Nat × Bool :=
  let b := if code = 0xFFFF then 65536 else code
  if mode = 0 then ((b + 32) / 64 * matchf / 1024, tl, false)
  else
    let n := (tl * b + 4096) / 8192
    let m := if n < 13 then 13 else n
    (128 * matchf / 1024, if tl < m then tl else m, decide (n < 13))

namespace State

/-- The ambient level A (R110). -/
def ambient (s : State) : Nat := s.get fDIM_AMBIENT

/-- The code of a presentation level of an aspect (R114). -/
def levelCode (s : State) (n level bright : Nat) : Nat :=
  match level with
  | 0 =>
    (match s.get (fDEFLEVEL n) with
     | 0 => s.ambient
     | 1 => s.get fNOON
     | 2 => s.get fNIGHT
     | _ => s.get (fDEFCODE n))
  | 1 => s.get fNOON
  | 2 => s.get fNIGHT
  | _ => bright

/-- The demands on an aspect with an authority (R182). -/
def demandsOn (s : State) (n auth : Nat) : List Demand :=
  s.rule.demands.filter fun d => d.asp == n && d.auth == auth

/-- The demand and winning source of an aspect (R55, R56, R58). -/
def decideAsp (s : State) (n : Nat) (forced : Bool) : Verdict :=
  let shows := s.demandsOn n 1
  let nots := s.demandsOn n 2
  let mays := s.demandsOn n 0
  if forced then { darkVerdict with lit := true, decider := 1 }
  else if !shows.isEmpty || !nots.isEmpty then
    if mustShows (s.aspClass n) shows nots then verdictOf true 1 (bestDemand shows)
    else verdictOf false 1 (bestDemand nots)
  else if s.get (fREQ_CMD n) = 1 ∨ s.get (fREQ_CMD n) = 2 then
    ⟨s.get (fREQ_CMD n) == 1, 2, 0, 0, s.get (fREQ_LEVEL n), s.get (fREQ_PAT_EN n), s.get (fREQ_PAT_SEL n),
      s.get (fREQ_BRIGHT n)⟩
  else if !mays.isEmpty then verdictOf true 3 (bestDemand mays)
  else darkVerdict

/-- The channel reads proven as commanded for its present period (R62); without a pattern the command of the present
period is the aspect's demand, so that LIT has every channel proven lit (R60). In a dark phase of a pattern with LITPROOF 0 a
channel that is PROVEN_DARK counts as proven, so an aspect can read LIT before its pattern was ever proven lit; R62 does not
say (DESIGN CHOICE, log entry 85). -/
def chanProven (s : State) (shown : Bool) (c : Nat) : Bool :=
  let x := s.chan c
  let lit := if s.scanned (c / 16) then (s.ledOf (s.homeLed c)).lit else x.lit
  let p := s.get (fSUP_PROOF c)
  if shown && x.cur.pat != 0 && s.flag (fSUP_LITPROOF c) then true
  else if lit != shown && !(shown && x.cur.pat != 0) then false
  else if lit then p == 2 else p == 1

/-- State and PROVING of an aspect by the rows of R62, after the rows of blocking: own faults, banks, proof (R61-R63). -/
def ownState (s : State) (n : Nat) (lit : Bool) : Nat × Bool :=
  let cs := s.aspChans n
  let cls := s.aspClass n
  let survivor := cs.any fun c => !s.lost c
  let old := s.get (fASP_STATE n)
  if cls ≠ 2 ∧ cs.any s.heldForOther then (3, false)
  else if cs.any s.failed then
    if cls = 2 then
      (if !survivor then 3 else if lit then 2 else if cs.any fun c => s.latch c ltSTRAY then 2 else 0, false)
    else if cls = 1 then (3, false)
    else (if !lit then 0 else if survivor then 2 else 3, false)
  else if lit = (s.asp n).prev ∧ cs.all (s.chanProven lit)
      ∧ !((old = 2 ∨ old = 3) ∧ cs.any fun c => s.flag (fBANK_OC (c / 16)) || s.flag (fBANK_STRAY (c / 16))) then
    (if lit then 1 else 0, false)
  else (old, true)

/-- The aspect words of one resolution are written (ASP_STATn). -/
def putAsp (s : State) (n : Nat) (v : Verdict) (forced conflict proving : Bool) (st : Nat) : State :=
  s.wr (aASP_STAT n) (v.rule * 65536 + v.prio * 1024 + v.decider * 256 + 128 * boolNat (s.aspDis n != 0)
    + 64 * boolNat conflict + 32 * boolNat forced + 16 * boolNat proving + 8 * boolNat v.lit + st)

/-- The fault summary of an aspect (ASP_FLTn). -/
def putAspFlt (s : State) (n : Nat) : State :=
  let cs := s.aspChans n
  let bad := cs.filter s.faulted
  let mask := sumList ((List.range cs.length).map fun i => if s.faulted (s.aspChan n i) then 2 ^ i else 0)
  let bits := sumList ((List.range 7).map fun k => if cs.any fun c => s.latch c k then 2 ^ k else 0)
  s.wr (aASP_FLT n) (s.aspDis n * 2 ^ 28 + bad.length * 65536 + mask * 256
    + 128 * boolNat (cs.any s.heldForOther) + bits)

/-- RULE_CONFLICT: the first period of an unbroken run is logged and counted (R57). -/
def ruleConflict (s : State) (n : Nat) (conflict : Bool) : State :=
  let a := s.asp n
  let s1 := s.setAsp n { a with conflict := conflict }
  if conflict && !a.conflict then
    let low := fun auth => minFrom 2047 ((s.demandsOn n auth).map (·.entry))
    ((s1.logEv evRULE_CONFLICT kASPECT n [n, low 1, low 2]).bump aASP_CONFLICT_CNT).raise srcCONFLICT
  else s1

/-- The set-up of an aspect for the commit: code after the restrictive floor, pattern, fail-lit, shown (R64, R65, R101). -/
def presentAsp (s : State) (n : Nat) (v : Verdict) (forced blocked : Bool) : State :=
  let cs := s.aspChans n
  let cls := s.aspClass n
  let code := if forced then (if s.aspForceBright n = 0 then s.ambient else s.aspForceBright n)
    else s.levelCode n v.level v.bright
  let code := if cls = 2 ∧ code < s.get fRFLOOR then s.get fRFLOOR else code
  let fail := cls == 2 && v.lit && cs.any s.lost && cs.any fun c => !s.lost c
  let shown := v.lit && s.aspEnabled n && !blocked && !(cls == 1 && cs.any s.failed)
  s.setAsp n { s.asp n with
    code := code, pat := if v.patEn = 1 ∧ !forced ∧ !fail then v.pat + 1 else 0, fail := fail, shown := shown }

/-- The head's PERMISSIVE aspects that are enabled. -/
def permOf (s : State) (h : Nat) : List Nat :=
  (List.range 96).filter fun n => s.aspEnabled n && s.aspHead n == h && s.aspClass n == 1

/-- A PERMISSIVE aspect is FAIL_DARK at this resolution by its own faults (R65, R69). -/
def permFails (s : State) (n : Nat) : Bool := (s.ownState n (s.decideAsp n false).lit).1 == 3

/-- The head's force aspect is forced at this resolution (R69); that forcing ends in the very resolution that finds no
PERMISSIVE aspect of the head FAIL_DARK, and not in the one after it, is DESIGN CHOICE (log entry 85). -/
def headFails (s : State) (h : Nat) : Bool := (s.permOf h).any s.permFails

/-- The aspect is the force aspect of its head and that head forces it (R69). -/
def forcedNow (s : State) (n : Nat) : Bool :=
  let h := s.aspHead n
  s.aspEnabled n && s.aspClass n == 2 && s.flag (fHCFG_VALID h) && s.get (fHCFG_ASP h) == n && s.headFails h

/-- The head's force aspect cannot be shown: none, disabled, or FAIL_DARK at this resolution (R70). -/
def forceUnable (s : State) (h : Nat) : Bool :=
  let f := s.get (fHCFG_ASP h)
  !s.flag (fHCFG_VALID h) || !s.aspEnabled f
    || (s.ownState f (s.decideAsp f (s.forcedNow f)).lit).1 == 3

/-- The head blocks its PERMISSIVE aspects that have not failed, until its force aspect can be shown (R70); that the block outlives
a configuration commit, even one that leaves the head no enabled PERMISSIVE aspect, is DESIGN CHOICE (log entry 85). -/
def headBlocks (s : State) (h : Nat) : Bool :=
  (s.headFails h || s.flag (fHEAD_BLOCK h)) && s.forceUnable h

/-- One aspect of a resolution, judged on the states latched before it (R55-R65). An unused one is in no RULE_CONFLICT run (R57). A
FAIL_DARK PERMISSIVE aspect whose latches have cleared while its force aspect cannot be shown is commanded by its demand until
it is proven, and BLOCKED from then on: R70 blocks those not FAIL_DARK (DESIGN CHOICE, log entry 85). -/
def resolveAsp (before s : State) (n : Nat) : State :=
  if !before.aspUsed n then
    ((s.setAsp n { s.asp n with conflict := false }).wr (aASP_STAT n) 0).wr (aASP_FLT n) 0
  else
    let forced := before.forcedNow n
    let v := before.decideAsp n forced
    let conflict := !(before.demandsOn n 1).isEmpty && !(before.demandsOn n 2).isEmpty
    let own := before.ownState n v.lit
    let dis := before.aspDis n != 0
    let blocked := dis || (before.aspClass n == 1 && own.1 != 3 && before.headBlocks (before.aspHead n))
    let st := if blocked then 4 else own.1
    let v := if dis then darkVerdict else v
    let s := if forced && !s.flag (fASP_FORCED n) then s.lifeAcc (lifeAsp n + 20) 1 else s
    let s := if v.lit && !s.flag (fASP_DEMAND n) then s.lifeAcc (lifeAsp n + 24) 1 else s
    let s := (s.putAsp n v forced (conflict && !dis) (own.2 && !blocked) st).putAspFlt n
    (s.presentAsp n v forced blocked).ruleConflict n (conflict && !dis)

/-- HEAD_STAT.FORCE, BLOCK and the copies of SUP_HEADCFGh (HEAD_STATh). -/
def resolveHead (before s : State) (h : Nat) : State :=
  let force := before.forcedNow (before.get (fHCFG_ASP h)) && before.aspHead (before.get (fHCFG_ASP h)) == h
  s.wr (aHEAD_STAT h) (1024 * s.get (fHEAD_READY_OK h) + 512 * boolNat (before.headBlocks h) + 256 * boolNat force
    + (before.rd (aSUP_HEADCFG h)).toNat % 256)

/-- CHnn_STAT of the SPI context (R452). -/
def spiStats (s : State) : State :=
  { s with spi := { s.spi with stat := (List.range 32).foldl (fun t c =>
      tabSet (fun _ => 0) t c
        (match s.owner c with
         | some m =>
           s.get (fSUP_PROOF c) * 16384 + s.get (fASP_STATE m) * 2048 + 1024
             + 512 * boolNat ((s.get (fREQ_CMD m) == 1 || s.get (fREQ_CMD m) == 2) && s.get (fASP_DECIDER m) != 2)
             + s.get (fSUP_LATCHES c)
         | none => s.get (fSUP_PROOF c) * 16384 + s.get (fSUP_LATCHES c))) [] } }

/-- The resolver's work at tick 5,000 (R20, R55-R71). -/
def resolve (s : State) : State :=
  let s := { s with res := { s.res with
      litproof := (List.range 128).foldl (fun t c => tabSet (fun _ => false) t c (s.flag (fSUP_LITPROOF c))) []
      provenLit := (List.range 128).foldl (fun t c => tabSet (fun _ => false) t c (s.get (fSUP_PROOF c) == 2)) []
      lost := (List.range 128).foldl (fun t c => tabSet (fun _ => false) t c (s.lost c)) []
      running := true, ready := false, committed := false } }
  let r := (List.range 96).foldl (resolveAsp s) s
  ((List.range 32).foldl (resolveHead s) r).spiStats

-- The commit (R21)

/-- The engine's pattern is refused for the class (R121). -/
def patRefused (s : State) (cls pat : Nat) : Bool :=
  let m := s.get (fPAT_MODE (pat - 1))
  pat != 0 && ((m == 3 && cls != 0) || (m == 2 && cls == 2 && decide (s.get (fPAT_T1 (pat - 1)) < s.get (fPAT_T2 (pat - 1)))))

/-- PATTERN_REFUSED: the aspect is shown steady, its channels are marked and the onset is logged (R121). -/
def refusePattern (s : State) (n : Nat) : State :=
  let a := s.asp n
  let refused := a.shown && s.patRefused (s.aspClass n) a.pat
  let s := (s.aspChans n).foldl (fun s c => s.putFlag (fCDIM_REFUSED c) refused) s
  let s := s.setAsp n { a with refused := refused, pat := if refused then 0 else a.pat }
  if refused && !a.refused then s.logEv evPATTERN_REFUSED kASPECT n [n, a.pat - 1] else s

/-- The commit that the proving limit counts from: it changed the demand, or it is the first after the last latch of the
aspect's channels cleared, or after one of their banks closed again (R71). An aspect unused at a commit was not demanded lit there,
whatever it was before; the rules do not say (DESIGN CHOICE, log entry 85). -/
def commitAsp (s : State) (n : Nat) : State :=
  let a := s.asp n
  let cs := s.aspChans n
  let lit := s.flag (fASP_DEMAND n)
  let healed := (cs.any fun c => (s.chan c).cleared) && !cs.any s.faulted
  let closed := cs.any fun c => (s.bank (c / 16)).again
  let s := s.setAsp n { a with
    prev := lit, since := if lit != a.prev || healed || closed then s.grid.tick else a.since }
  cs.foldl (fun s c => s.setChan c { s.chan c with cleared := false }) s

/-- A commit has seen which banks closed again before it (R71). -/
def banksSeen (s : State) : State :=
  (List.range 8).foldl (fun s n => s.setBank n { s.bank n with again := false }) s

/-- The set-point of a channel; whether it is lost is as latched at tick 5,000 (R20, R53, R61, R64, R101). -/
def setPointOf (s : State) (asps : List (Nat × List Nat)) (c : Nat) : SetPoint :=
  match asps.find? fun p => p.2.contains c with
  | none => darkSet
  | some (n, _) =>
    let a := s.asp n
    if !a.shown then darkSet else ⟨true, a.code, a.pat, a.fail && !tabGet (fun _ => false) s.res.lost c, s.aspClass n == 2⟩

/-- A set-point is committed to a channel; a change to dark clears LITPROOF (R101, R131). -/
def commitChan (asps : List (Nat × List Nat)) (s : State) (c : Nat) : State :=
  let x := s.chan c
  let p := s.setPointOf asps c
  let s := s.setChan c { x with comm := p, sent := some p }
  if x.comm.lit && !p.lit then s.putFlag (fSUP_LITPROOF c) false else s

/-- SCALE of what is committed to a channel: of its set-point, and for a column the largest of the codes of its unowned LEDs, as a
column drives one LED at a time (R96, R103, R160; that a column counts with its largest LED is DESIGN CHOICE, log entry 75).
0 for a dark channel. -/
def commScale (s : State) (c : Nat) : Nat :=
  let x := s.chan c
  let scaleOf := fun code => (driveOf (if 0x2000 ≤ code then 0 else 1) 12500 code (s.get (fMATCH c))).1
  let own := if !x.comm.lit then 0 else if x.comm.fail then 1024 else scaleOf x.comm.code
  if s.scanned (c / 16) then
    maxFrom own ((List.range s.mtxBanks).map fun l =>
      let e := s.ledIndex l c
      let code := s.get (fLED_CODE e)
      if s.ledExists e && !s.ledOwned e && code != 0 then scaleOf code else 0)
  else own

/-- I_op of a committed channel with its SCALE and a budget factor, x 2^20 x 1023 / mA (R75, R96). -/
def commCurrent (s : State) (c scale fb : Nat) : Nat :=
  let x := s.chan c
  let f := minFrom x.fLamp [s.boost.fJunc, x.fDiss, fb]
  let f := if s.chanClass c = 2 ∧ f < 410 then 410 else f
  s.iCeil c * f * scale

/-- Floors of the governors by class (R95). -/
def govFloor (cls : Nat) : Nat := if cls = 0 then 256 else 410

/-- The largest factor, in steps of 16 down from 1024, that keeps `load f + others` within the limit, or the floor. -/
def budgetStep (load : Nat → Nat) (others limit floor : Nat) : Nat → Nat → Nat
  | 0, _ => floor
  | n + 1, f => if load f + others ≤ limit then f else if f < floor + 16 then floor
    else budgetStep load others limit floor n (f - 16)

/-- f_budget by class: lowered for INFORMATIONAL, then PERMISSIVE, then RESTRICTIVE channels (R96). -/
def budget (s : State) : State :=
  let lit := ((List.range 128).map fun c => (c, s.commScale c)).filter fun p => p.2 != 0
  let limit := s.get fILIM * 10 * 1023 * 2 ^ 20
  let load := fun cls f => sumList ((lit.filter fun p => s.chanClass p.1 == cls).map fun p => s.commCurrent p.1 p.2 f)
  let f0 := budgetStep (load 0) (load 1 1024 + load 2 1024) limit 256 64 1024
  let f1 := if load 0 f0 + load 1 1024 + load 2 1024 ≤ limit then 1024
    else budgetStep (load 1) (load 0 f0 + load 2 1024) limit 410 64 1024
  let f2 := if load 0 f0 + load 1 f1 + load 2 1024 ≤ limit then 1024
    else budgetStep (load 2) (load 0 f0 + load 1 f1) limit 410 64 1024
  let fOf := fun c => match s.chanClass c with | 0 => f0 | 1 => f1 | _ => f2
  let low := f0 != 1024 || f1 != 1024 || f2 != 1024
  let was := s.flag fBST_BUDGET
  let r := (List.range 128).foldl (fun r c => r.setChan c { r.chan c with fBudget := fOf c }) s
  let r := r.putFlag fBST_BUDGET low
  if low && !was then r.logEv evBUDGET_LIMIT kDEVICE 0 [] else r

/-- The bank at a commit (R77, R81, R147, R164, R432). Its STRAY ends once no latch keeps it, its OC on SYS_FLT_CLR.BANKOC.
An UNUSED bank is open, and so is a SCAN bank until the scan runs; a line of a frame in progress stays its slots' to switch. With both causes ended, or an OC that may retry past its
wait, a NORMAL bank closes and a line is switched again, which counts as the retry. -/
def commitBank (s : State) (n : Nat) : State :=
  let b := s.bank n
  let s := s.setBank n { b with reclose := false }
  let s := if b.reclose then s.putFlag (fBANK_OC n) false else s
  let s := if s.flag (fBANK_STRAY n) && !s.bankHasStray n then s.putFlag (fBANK_STRAY n) false else s
  let oc := s.flag (fBANK_OC n)
  let free := !s.flag (fBANK_STRAY n) && (!oc || (s.get (fBANK_ROLE n) != 1 && !b.wait))
  let line := s.frameRuns && s.scanned n
  let s := if s.get (fBANK_MODE n) = 1 ∧ !line then
      if free && !b.closed && !s.mornTested n then (if oc then s.bump aDEV_BANK_RETRY else s).bankClose n else s
    else if line then
      if free && oc then (s.bump aDEV_BANK_RETRY).putFlag (fBANK_OC n) false else s
    else if b.closed then s.bankOpen n else s
  s.bankGroup evBANK_OC

/-- The fallback table and VLAMP_MN are latched (R93, R389). -/
def latchTable (s : State) : State :=
  let chans := s.aspList.flatMap fun p => if s.aspClass p.1 = 2 then p.2 else []
  let table := chans.foldl (fun t c => tabSet (fun _ => 0) t c (s.get (fCEIL c) + 1)) []
  let roles := (List.range 8).foldl (fun t n => tabSet (fun _ => 0) t n (s.get (fBANK_ROLE n))) []
  let s := { s with pwr := { s.pwr with table := table, roles := roles },
                    boost := { s.boost with mnLatch := s.boost.mnForm } }
  s.putFlag fPWR_TABLE_VALID true

/-- A RESTRICTIVE aspect meets the ready condition (R71). -/
def meetsReady (s : State) (n : Nat) : Bool :=
  let lit := s.flag (fASP_DEMAND n)
  let st := s.get (fASP_STATE n)
  s.aspEnabled n
    && (if s.flag (fASP_PROVING n) then decide (s.grid.tick ≤ (s.asp n).since + s.provingLimit n)
        else if lit then st == 1 || st == 2 else st == 0)

/-- ASPECT_READY is held low by device state (R72, ASP_SUM.READY_INH): before D5, in Midnight, on RULE_STALL, and from the last commit
before Dusk on (R383). -/
def readyInhibit (s : State) : Bool :=
  s.get fPWR_PHASE != 6 || s.midnight || s.flag fGRID_RULE_STALL || s.pstate == 2 || s.pstate == 3

/-- HEAD_STAT.READY_OK, ASP_SUM and the pin at a commit (R71-R73). -/
def judgeReady (s : State) : State :=
  let bad := (List.range 96).filter fun n => s.aspUsed n && s.aspClass n == 2 && !s.meetsReady n
  let heads := (List.range 32).filter fun h => bad.any fun n => s.aspHead n == h
  let inh := s.readyInhibit
  let pin := !inh && bad.isEmpty
  let s := (List.range 32).foldl (fun s h => s.putFlag (fHEAD_READY_OK h) (!heads.contains h)) s
  let s := s.wr aASP_SUM (heads.headD 0xFF * 65536 + bad.length * 256 + 2 * boolNat inh + boolNat pin)
  s.driveReady pin

/-- Duration of Dawn in ms (R379). -/
def dawnMs (s : State) : Nat := (s.nw.tick - s.pwr.dawnStart) / 25000

/-- 100 ms have passed since the start of D5 (R379). -/
def dawnOver (s : State) : Bool := decide (s.pwr.phaseStart + 2500000 ≤ s.nw.tick)

/-- Dawn completes at a commit with no enabled aspect PROVING, or at the first one after the 100 ms limit (R379). -/
def dawnComplete (s : State) : State :=
  let proving := (List.range 96).any fun n => s.aspEnabled n && s.flag (fASP_PROVING n)
  if s.get fPWR_PHASE ≠ 5 ∨ (proving ∧ !s.pwr.late ∧ !s.dawnOver) then s
  else
    let ms := s.dawnMs
    let s := if proving then (s.putFlag fPWR_DAWN_LATE true).logFw evDAWN_LATE kDEVICE 0 [] else s
    let d5 := (s.nw.tick - s.pwr.phaseStart) / 25000
    let s := (((s.put fPWR_PHASE 6).put fPWR_STATE 1).put fPWR_DAWN_MS (if ms < 0x7FFF then ms else 0x7FFF)).fltClr 18
    { s with pwr := { s.pwr with phaseMs := s.pwr.phaseMs ++ [d5] } }.logFw evDAWN kDEVICE 0
      (ms :: (s.pwr.phaseMs ++ [d5]))

/-- The freeze of R436 ends at the first commit after the restart of SC0 is complete (R437 step 5). -/
def endFreeze (s : State) : State :=
  if s.flag fNW_FROZEN && !s.flag fNW_SC0_LOST then s.putFlag fNW_FROZEN false else s

/-- STATE becomes RUN at the first commit after Dusk; the proof of every channel but the kept ones starts there (R386). -/
def duskEnd (s : State) : State :=
  if s.pstate = 4 ∧ s.pwr.resumed then
    let s := ((List.range 128).filter fun c => !tabGet (fun _ => false) s.pwr.duskSet c).foldl unprove (s.put fPWR_STATE 1)
    { s with pwr := { s.pwr with duskSet := [] } }
  else s

/-- At the first commit of a Dawn the proof of every channel starts, and no sample taken before counts (R375). -/
def firstCommit (s : State) : State := if s.flag fPWR_TABLE_VALID then s else (List.range 128).foldl unprove s

/-- What the drive die takes at a commit: set-points, banks, table, VLAMP_MN (R21, R96, R101, R147, R389). -/
def commitDrive (s : State) : State :=
  let asps := s.aspList
  let s := ((List.range 128).foldl (commitChan asps) s.firstCommit).scanEnd
  let s := (List.range 8).foldl commitBank s
  let s := { s with boost := { s.boost with tsdHold := s.boost.tsdHold && s.tsd } }
  (s.budget.mtxHeld).latchTable

/-- The RULE commit at tick 7,500 (R21, R73); a part in Midnight takes none (R388), a frozen one only judges
ASPECT_READY (R436). -/
def aspectCommit (s : State) : State :=
  if !s.ruleReady then s
  else
    let s := { s with res := { s.res with ready := false, committed := true } }
    if s.midnight then s
    else
      let s := s.endFreeze
      let asps := (List.range 96).filter s.aspUsed
      let s := asps.foldl refusePattern s
      let s := (asps.foldl commitAsp s).banksSeen
      let s := ((List.range 96).filter fun n => !s.aspUsed n).foldl (fun s n => s.setAsp n { s.asp n with prev := false }) s
      let s := if s.takesCommits then s.commitDrive else s
      (s.dawnComplete.duskEnd).judgeReady

end State

-- Commands

/-- RESOLVER_START at tick 5,000 (R20, R55). The rule evaluation has ended; in Dusk and before D5 nothing resolves. -/
def execResolverStart (s : State) : Res :=
  if s.rulesRun && !s.rule.running && s.ruleAt 5000 then .next s.resolve else .next s

/-- Each aspect's state is written into its observation slot (R25, R173). -/
def State.resolved (s : State) : State :=
  let s := (List.range 96).foldl (fun s n => s.obsWrite (928 + n) ((s.rd (aASP_STAT n)).toNat % 256 : Nat)) s
  { s with res := { s.res with running := false, ready := true, readyAt := s.grid.tick } }

/-- RESOLVER_COMPLETE (R173). -/
def execResolverComplete (s : State) : Res := if s.res.running then .next s.resolved else .next s

/-- A set-point reaches the drive die: darkening acts at once, on a column's home LED too, any other change waits
(R22, R23, R131, R158). In thermal shutdown a channel of a RESTRICTIVE aspect runs on (R97). -/
def State.arrive (s : State) (c : Nat) : State :=
  let x := s.chan c
  match x.sent with
  | none => s
  | some p =>
    if p.lit then s.setChan c { x with sent := none, pend := some p }
    else if s.tsd && s.chanClass c == 2 && !s.scanned (c / 16) then s.setChan c { x with sent := none, pend := none, cur := p }
    else
      let s := s.setChan c { x.dark s.grid.tick with sent := none, pend := none, cur := p }
      let s := if s.scanned (c / 16) then s.darkLed (s.homeLed c) else s
      if x.lit then s.unprove c else s

end Sys2Proof.Machine
end

