-- ==== Sys2Proof/Machine/Drive.lean ====
section
/-! DEFINITION. The drive-die sequencer: pattern engines (R118-R120), the PWM period with its mode, on-time, probe and
learning pulses (R100-R105, R137-R141, R392), and the scan frame and slot (R157-R160). -/

namespace Sys2Proof.Machine

-- Pattern engines

/-- sin(pi x u / n) for u at most n / 2, in units of 2^-30, by its series to the eleventh power. -/
def sinPi (u n : Nat) : Nat :=
  let x : Int := (3373259426 * u / n : Nat)
  let q : Int := 2 ^ 30
  let x2 := x * x / q
  (x * (q - x2 * (q - x2 * (q - x2 * (q - x2 * (q - x2 / 110) / q / 72) / q / 42) / q / 20) / q / 6) / q).toNat

/-- (1 - cos(2 pi t / T)) / 2 in units of 2^-30: the square of sin(pi t / T). -/
def breatheShape (t per : Nat) : Nat :=
  let u := if 2 * t ≤ per then t else per - t
  let v := sinPi u per
  v * v / 2 ^ 30

namespace State

/-- Upper and lower pattern value; an HI of 0xFFFF is 65,536 (R118). -/
def patHi (s : State) (p : Nat) : Nat := if s.get (fPAT_HI p) = 0xFFFF then 65536 else s.get (fPAT_HI p)

/-- A chase list entry is valid; its channel (R120). -/
def patValid (s : State) (p i : Nat) : Bool := bitOf (s.get (fPAT_ENTRY p i)) 7
def patChan (s : State) (p i : Nat) : Nat := s.get (fPAT_ENTRY p i) % 128

/-- Cycle of an engine in ticks (R118): 10 ms is 250,000 ticks. -/
def patCycle (s : State) (p : Nat) : Nat :=
  let t1 := s.get (fPAT_T1 p) * 250000
  match s.get (fPAT_MODE p) with
  | 1 => t1
  | 2 => t1 + s.get (fPAT_T2 p) * 250000
  | 3 => ((List.range 16).filter (s.patValid p)).length * t1
  | _ => 0

/-- PAT_START of an engine in ns (R119). -/
def patStartNs (s : State) (p : Nat) : Nat :=
  (s.get (fPAT_START_HI p) * 2 ^ 32 + s.get (fPAT_START_LO p)) * 1000000000 + s.get (fPAT_START_NS p)

/-- This grid tick is the first after a match of the time base with PAT_START + k x cycle (R119); a tick advances the time base by
at most 41 ns. -/
def patMatch (s : State) (p : Nat) : Bool :=
  let now := s.timeNs
  s.patCycle p != 0 && decide (s.patStartNs p ≤ now) && decide ((now - s.patStartNs p) % (40 * s.patCycle p) ≤ 40)

/-- The engine drives a channel of an aspect that selects it: it is not OFF, and in CHASE mode the channel is on its list; others
are shown steady (R118, R120; that OFF drives no channel in the sense of PAT_ACT is DESIGN CHOICE, log entry 75). -/
def patDrives (s : State) (p c : Nat) : Bool :=
  match s.get (fPAT_MODE p) with
  | 0 => false
  | 3 => (List.range 16).any fun i => s.patValid p i && s.patChan p i == c
  | _ => true

/-- The engine's value for a channel, 0 to 65,536 (R118-R120). The BREATHE value is free within 1/1,024 of HI - LO. Of a channel
that stands at two valid list positions the first counts (DESIGN CHOICE, log entry 75). -/
def patValue (s : State) (p c : Nat) : Nat :=
  let cyc := s.patCycle p
  if !s.patDrives p c || cyc == 0 then 65536
  else if tabGet (fun _ => false) s.dim.patWait p then s.patHi p
  else
    let t := (s.grid.tick - tabGet (fun _ => 0) s.dim.patStart p) % cyc
    let t1 := s.get (fPAT_T1 p) * 250000
    let hi := s.patHi p
    let lo := s.get (fPAT_LO p)
    match s.get (fPAT_MODE p) with
    | 1 =>
      let span := if lo < hi then hi - lo else lo - hi
      let m := span / 1024
      let d : Int := (Config.freeNat s.free % (2 * m + 1) : Nat) - (m : Int)
      let v : Int := lo + ((hi : Int) - lo) * breatheShape t cyc / 2 ^ 30 + d
      (clampInt 1 65536 v).toNat
    | 2 => if t < t1 then hi else 0
    | _ =>
      match (List.range 16).find? fun i => s.patValid p i && s.patChan p i == c with
      | none => 65536
      | some i =>
        let n := cyc / t1
        if (i + n * 16 - t / t1) % n < s.get (fPAT_WIDTH p) then hi else lo

/-- The code of a period by R101: none for a dark period. -/
def periodCode (s : State) (c : Nat) (sp : SetPoint) : Option Nat :=
  if !sp.lit then none
  else
    let p := if sp.pat = 0 ∨ sp.fail then 65536 else s.patValue (sp.pat - 1) c
    if p = 0 then none
    else
      let code := if p = 65536 then sp.code else sp.code * p / 65536
      let code := if sp.restr ∧ code < s.get fRFLOOR then s.get fRFLOOR else code
      some (if sp.fail then 0xFFFF else if code = 0 then 1 else code)

/-- The mode of a lit period: afresh after a dark one, else with the Twilight band's hysteresis (R104). -/
def periodMode (wasLit : Bool) (mode code : Nat) : Nat :=
  if !wasLit then (if 0x2000 ≤ code then 0 else 1)
  else if mode = 0 then (if code < 0x1F80 then 1 else 0)
  else if 0x2000 ≤ code then 0 else 1

/-- PROBE_OFF is honoured on channels of INFORMATIONAL aspects and unowned scanned channels (R139). -/
def probeOff (s : State) (c : Nat) : Bool := s.flag (fPROBE_OFF c) && s.chanClass c == 0

/-- Steady at min(20 mA, I_ceil), F and SCALE ignored: a table channel in Midnight (R388) or a channel of a RESTRICTIVE aspect in
thermal shutdown, whatever is committed to it (R97; log entry 21). -/
def steady20 (s : State) (c : Nat) : Bool :=
  if s.midnight then
    decide (tabGet (fun _ => 0) s.pwr.table c ≠ 0) && tabGet (fun _ => 0) s.pwr.roles (c / 16) == 2
  else s.tsd && s.chanClass c == 2

/-- The channel is switched off whatever its set-point: Midnight outside the table, thermal shutdown of other classes
until the next commit, a channel outside the Dusk set, an UNUSED bank (R77, R97, R383, R388). -/
def forcedOff (s : State) (c : Nat) : Bool :=
  if s.midnight then !s.steady20 c
  else if s.lampsKept then !tabGet (fun _ => false) s.pwr.duskSet c
  else ((s.tsd || s.boost.tsdHold) && s.chanClass c != 2) || s.get (fBANK_MODE (c / 16)) == 0

/-- What a period drives: commanded lit, code, mode, SCALE, N_on, MINCLIP, F, I_op. -/
structure PlanOf where
  lit : Bool
  code : Nat
  mode : Nat
  scale : Nat
  nOn : Nat
  clip : Bool
  f : Nat
  iop : Nat
  deriving DecidableEq, Repr

/-- The drive of a period of `tl` ticks by the set-point in force (R75, R97, R101-R105, R114, R388). -/
def periodPlan (s : State) (c tl : Nat) (wasLit : Bool) (mode : Nat) (sp : SetPoint) : PlanOf :=
  let f := s.govF c
  let ceil := s.iCeil c
  if s.steady20 c then ⟨true, 0xFFFF, 0, 1024, tl, false, 1024, s.i20 c * 2 ^ 20⟩
  else if s.forcedOff c then ⟨false, 0, 0, 0, 0, false, f, 0⟩
  else if s.lampsKept then
    let sc := (driveOf (if 0x2000 ≤ sp.code then 0 else 1) tl sp.code (s.get (fMATCH c))).1
    let sc := if sc < 128 then 128 else sc
    ⟨true, sp.code, 0, sc, tl, false, s.duskF c, ceil * s.duskF c * sc⟩
  else
    match s.periodCode c sp with
    | none => ⟨false, 0, 0, 0, 0, false, f, 0⟩
    | some code =>
      if sp.fail then ⟨true, 0xFFFF, 0, 1024, tl, false, f, ceil * f * 1024⟩
      else
        let m := periodMode wasLit mode code
        let d := driveOf m tl code (s.get (fMATCH c))
        ⟨true, code, m, d.1, d.2.1, d.2.2, f, ceil * f * d.1⟩

/-- A pattern engine drives the channel by its set-point, in dark phases too; what suspends the pattern leaves it undriven
(R101, R120, CHS_DIMc.PAT_ACT). -/
def patActs (s : State) (c : Nat) (sp : SetPoint) : Bool :=
  sp.lit && sp.pat != 0 && !sp.fail && !s.tsd && !s.lampsKept && !s.midnight && s.patDrives (sp.pat - 1) c

/-- TWILIGHT_CLIP by the judgement of an interval; its onset is logged (R138). -/
def judgeTwilight (s : State) (c : Nat) (clip : Bool) : State :=
  let was := s.flag (fSUP_CLIP c)
  let s := s.putFlag (fSUP_CLIP c) clip
  if clip && !was then s.logEv evTWILIGHT_CLIP kCHANNEL c [c] else s

/-- The judgement of an interval that has ended, if any; a channel lit outside the probe regime then clears TWILIGHT_CLIP (R138). -/
def clipStep (s : State) (c : Nat) (judged : Option Bool) (gone : Bool) : State :=
  let s := match judged with
    | some clip => s.judgeTwilight c clip
    | none => s
  if gone then s.putFlag (fSUP_CLIP c) false else s

/-- Probe interval in periods (R137). -/
def probeInterval (tl : Nat) : Nat := if tl < 50000 then (50000 + tl - 1) / tl else 1

/-- A period of the probe schedule: its pulse, the interval after it (in progress, periods left, excess), whether it carries a
probe, and the judgement of an interval that ended before it (R137, R138). -/
structure ProbeOf where
  pulse : Nat
  intvl : Bool
  left : Nat
  excess : Nat
  probing : Bool
  judged : Option Bool
  deriving DecidableEq, Repr

/-- The probe schedule of one period (R137, R138). `short`: lit with an on-time below 150 ticks; `want`: such a period is probed
when an interval begins; `renew`: an early probe or a learning pulse. An interval that has run out is judged whatever follows, one
cut short by a renewal too; darkness or a longer on-time drop what is left without judgement. -/
def probePulse (tl nOn : Nat) (intvl : Bool) (left excess : Nat) (short want renew : Bool) : ProbeOf :=
  let i := probeInterval tl
  let verdict := decide (i < excess)
  let expiry := if intvl && left == 0 then some verdict else none
  if !short then ⟨nOn, false, 0, 0, false, expiry⟩
  else if want && (!intvl || left == 0 || renew) then
    ⟨150, true, i - 1, 150 - nOn, true, if intvl then some verdict else none⟩
  else if intvl && left != 0 then
    let k := (excess + left - 1) / left
    let cut := if nOn - 13 < k then nOn - 13 else k
    ⟨nOn - cut, true, left - 1, excess - cut, false, none⟩
  else ⟨nOn, false, 0, 0, false, expiry⟩

/-- F and LIMIT of CHS_DRVc at a period or frame start (R94). -/
def showGov (s : State) (c f : Nat) : State :=
  let lim := s.chan c
  let limits := boolNat (lim.fLamp < 1024) + 2 * boolNat (s.boost.fJunc < 1024) + 4 * boolNat (lim.fDiss < 1024)
    + 8 * boolNat (lim.fBudget < 1024)
  (s.put (fDRV_F c) f).put (fDRV_LIMIT c) limits

/-- CHS_DRVc and CHS_DIMc at a period start; SINK_ON is formed when they are read, and SCALE of a column is set slot by slot
(R160). -/
def showDrive (s : State) (c : Nat) (p : PlanOf) (pat : Bool) (on16 : Nat) : State :=
  let s := s.showGov c p.f
  let s := if s.scanned (c / 16) then s else s.put (fDRV_SCALE c) p.scale
  let s := ((s.put (fCDIM_CODE c) p.code).put (fCDIM_MODE c) p.mode).putFlag (fCDIM_MINCLIP c) p.clip
  (s.putFlag (fCDIM_PAT_ACT c) pat).put (fCDIM_ON16 c) (if on16 / 16 < 0xFFF then on16 / 16 else 0xFFF)

/-- A step of the commanded state at a period start: proof restarts; the end of a lit phase that was never proven
clears LITPROOF; darkness of 60 s asks for a new seed of T_est (R131, R145); a change to lit is counted (R415). -/
def litStep (s : State) (c : Nat) (was now : Bool) : State :=
  if was = now then s
  else
    let x := s.chan c
    let s := s.unprove c
    if now then
      let s := s.lifeAcc (lifeChan c + 8) 1
      let y := s.chan c
      s.setChan c { y with phaseProven := false, seeded := y.seeded && decide (s.grid.tick < x.darkAt + 1500000000) }
    else
      let s := s.setChan c { s.chan c with darkAt := s.grid.tick, learn := 0, learnV := [] }
      if x.phaseProven then s else s.putFlag (fSUP_LITPROOF c) false

/-- A learning step runs in this lit period, 1-4, or 0 (R141). While thermal shutdown lasts none does: its steady 20 mA goes before
the learning currents (R97; the conditions of R141 do not name it, DESIGN CHOICE, log entry 76). -/
def learnStep (s : State) (c : Nat) (lit : Bool) : Nat :=
  let x := s.chan c
  if !lit || s.flag (fSIG_LEARNT c) || s.cmpOnly (c / 16) || s.tsd then 0
  else if x.learnV.isEmpty && x.learn == 0 then
    (if s.flag (fBANK_CLOSED (c / 16)) && !s.flag fDIM_NTC_FAULT && (s.get fBST_MODE == 2 || s.get fBST_MODE == 3)
     then 1 else 0)
  else x.learnV.length + 1

/-- A Morning probe pulse is due on a dark channel (R392). -/
def mornDue (s : State) (c : Nat) : Bool := tabGet (fun _ => 0) s.pwr.probe c != 0

/-- One Morning probe pulse is taken, or the channel is dropped from the probe (R392). -/
def mornTake (s : State) (c : Nat) (drop : Bool) : State :=
  let n := if drop then 0 else tabGet (fun _ => 0) s.pwr.probe c - 1
  { s with pwr := { s.pwr with probe := tabSet (fun _ => 0) s.pwr.probe c n } }

/-- A period whose PWM commit was missed repeats the previous edges, darkening and a sink latched off apart; a compensation it
would have made is lost, and it is no learning or Morning period: its current is that of the drive (R22, R37, R45, R136). -/
def pwmRepeat (s : State) (c : Nat) : State :=
  let x := s.chan c
  let want := if x.left = 0 then 0 else (x.excess + x.left - 1) / x.left
  let cut := if x.nOn - 13 < want then x.nOn - 13 else want
  let on := x.lit && !s.latch c ltSHORT
  s.setChan c { x with
    start := s.grid.tick, period := s.get (fPERIOD (c / 16)), missed := false, ramp := (s.bank (c / 16)).closing
    front := if on && x.steady (s.lampPeriod c) then x.front else s.grid.tick
    pulse := if on then x.pulse else 0, iop := x.iopRun, learn := 0, morn := false, left := x.left - 1, excess := x.excess - cut }

/-- A period start of a channel (R22, R75, R101-R105, R107-R109, R137-R141, R392). -/
def pwmStart (s : State) (c : Nat) : State :=
  let x := s.chan c
  if !s.periodDue c then s
  else if x.missed then s.pwmRepeat c
  else
    let sp := x.pend.getD x.cur
    let tl := s.get (fPERIOD (c / 16))
    let p := s.periodPlan c tl x.lit x.mode sp
    let learn := s.learnStep c p.lit
    let short := p.lit && p.mode == 1 && decide (p.nOn < 150)
    let inReg := short && !s.probeOff c
    let unsup := short && s.probeOff c && learn == 0
    -- in comparator-only supervision no probe begins (R149)
    let want := (inReg && !s.cmpOnly (c / 16)) || learn != 0
    let q := probePulse tl p.nOn x.intvl x.left x.excess short want (x.early || learn != 0)
    let morn := s.mornDue c && !p.lit && !x.lit && s.flag (fBANK_CLOSED (c / 16))
    let pulse := if s.latch c ltSHORT then 0 else if morn then 150 else if p.lit then q.pulse else 0
    let iop := if morn then s.iCeil c * 1024 * 128
      else if learn = 0 then p.iop else s.iCeil c * 1024 * (if learn < 3 then 1024 else 128)
    let front := if pulse != 0 && x.steady (s.lampPeriod c) then x.front else s.grid.tick
    let s := if s.mornDue c && (morn || p.lit != x.lit) then s.mornTake c (p.lit != x.lit) else s
    let s := s.litStep c x.lit p.lit
    let s := s.setChan c { s.chan c with
      cur := sp, pend := none, lit := p.lit, mode := p.mode, nOn := p.nOn, pulse := pulse, start := s.grid.tick, period := tl
      front := front, morn := morn, iop := iop, iopRun := p.iop, learn := learn, ramp := (s.bank (c / 16)).closing, intvl := q.intvl, left := q.left
      excess := q.excess, probing := q.probing, early := false }
    let s := s.clipStep c q.judged (p.lit && !inReg)
    let s := (s.putFlag (fSUP_PROBE c) inReg).putFlag (fSUP_UNSUP c) unsup
    let s := if unsup then s.provenLit c else s
    { s.showDrive c p (s.patActs c sp) p.nOn with free := s.free + 1 }

-- The scan group (R157-R162)

/-- The set-point of an owned home LED is taken at the frame start (R158). -/
def takePend (s : State) (c : Nat) : State :=
  let x := s.chan c
  s.setChan c { x with cur := x.pend.getD x.cur, pend := none }

/-- The code a LED takes for the coming frame, none for a dark one (R97, R101, R160). -/
def ledCode (s : State) (e : Nat) : Option Nat :=
  if s.midnight || s.lampsKept || s.tsd || s.boost.tsdHold then none
  else if s.ledOwned e then s.periodCode (s.ledChan e) (s.chan (s.ledChan e)).cur
  else if s.get (fLED_CODE e) = 0 then none else some (s.get (fLED_CODE e))

/-- The drive of a LED for the coming frame (R75, R103-R105 with N_max, R160). -/
def ledPlan (s : State) (e : Nat) : PlanOf :=
  let c := s.ledChan e
  let l := s.ledOf e
  match s.ledCode e with
  | none => ⟨false, 0, 0, 0, 0, false, s.govF c, 0⟩
  | some code =>
    let m := periodMode l.lit l.mode code
    let d := driveOf m s.nMax code (s.get (fMATCH c))
    ⟨true, code, m, d.1, d.2.1, d.2.2, s.govF c, s.iCeil c * s.govF c * d.1⟩

/-- The on-time of a drive lies below the measurable 150 ticks (R137). -/
def PlanOf.short (p : PlanOf) : Bool := p.lit && p.mode == 1 && decide (p.nOn < 150)

/-- The channel's part of an owned home LED's frame: step of the commanded state, proof without a probe, what CHS shows
(R131, R139, R160, R162). -/
def frameChan (s : State) (c : Nat) (p : PlanOf) (q : ProbeOf) : State :=
  let inReg := p.short && !s.probeOff c
  let s := s.litStep c (s.chan c).lit p.lit
  let s := s.setChan c { s.chan c with
    lit := p.lit, mode := p.mode, nOn := p.nOn, pulse := q.pulse, start := s.grid.tick, iop := p.iop, iopRun := p.iop }
  let s := (s.clipStep c q.judged (p.lit && !inReg)).putFlag (fSUP_PROBE c) inReg
  let s := if p.short && s.probeOff c then s.provenLit c else s
  s.showDrive c p (s.patActs c (s.chan c).cur) p.nOn

/-- A LED of a column whose PWM commit was missed repeats its previous pulse, darkening and a sink latched off apart; a compensation it
would have made is lost (R45, R136). -/
def ledRepeat (s : State) (e : Nat) : State :=
  let c := s.ledChan e
  let l := s.ledOf e
  let want := if l.left = 0 then 0 else (l.excess + l.left - 1) / l.left
  let cut := if l.nOn - 13 < want then l.nOn - 13 else want
  let pulse := if l.lit && !s.latch c ltSHORT then l.pulse else 0
  let s := s.setLed e { l with pulse := pulse, morn := false, left := l.left - 1, excess := l.excess - cut }
  if s.ledOwned e then s.setChan c { s.chan c with pulse := pulse, start := s.grid.tick } else s

/-- Code, mode, on-time and probe of one LED for the coming frame (R160, R162). -/
def frameLed (s : State) (e : Nat) : State :=
  if !s.ledExists e then s
  else if (s.chan (s.ledChan e)).missed then s.ledRepeat e
  else
    let c := s.ledChan e
    let owned := s.ledOwned e
    let s := if owned then s.takePend c else s
    let l := s.ledOf e
    let p := s.ledPlan e
    let q := probePulse s.mtxFrame p.nOn l.intvl l.left l.excess p.short
      (p.short && !s.probeOff c && !s.cmpOnly (c / 16)) l.early
    -- a Morning probe pulse of a dark home LED, its frames being its periods (R392, log entry 52)
    let morn := owned && s.mornDue c && !p.lit && !l.lit
    let s := if owned && s.mornDue c then s.mornTake c (p.lit || l.lit) else s
    let q := if s.latch c ltSHORT then { q with pulse := 0 } else if morn then { q with pulse := 150 } else q
    let p := if morn then { p with iop := s.iCeil c * 1024 * 128, scale := 128 } else p
    let m := { l with
      morn := morn, code := p.code, iop := p.iop, scale := p.scale, lit := p.lit, mode := p.mode, nOn := p.nOn, pulse := q.pulse
      intvl := q.intvl, left := q.left, excess := q.excess, probing := q.probing, early := false }
    let s := s.setLed e (if p.lit = l.lit then m else m.restart s.grid.tick)
    if owned then s.frameChan c p q else s

/-- A column at a frame start: the forward voltage of the frame before, the governor factor in use, whether one of its LEDs is
driven too briefly without a probe (R94, R139, R161, R162). -/
def frameColumn (s : State) (c : Nat) : State :=
  let s := s.setChan c { s.chan c with vfPrev := (s.chan c).vf, vf := 0, period := 0, missed := false }
  let unsup := s.probeOff c && (List.range s.mtxBanks).any fun l =>
    let x := s.ledOf (s.ledIndex l c)
    s.ledExists (s.ledIndex l c) && x.lit && x.mode == 1 && decide (x.nOn < 150)
  (s.showGov c (s.govF c)).putFlag (fSUP_UNSUP c) unsup

/-- A scan frame starts with the layout of MTX_CFG, all lines open; LEDs of another layout than the last frame's start afresh
(R157, R160, R165). -/
def frameStart (s : State) : State :=
  if !s.flag fMTX_EN || s.lampsKept || s.midnight || decide (s.get fPWR_PHASE < 5) || !s.frameDue then s
  else
    let s := s.scanEnd
    let w := (s.rd aMTX_CFG).toNat
    let same := bitsOf w 17 7 == bitsOf s.mtx.live 17 7
    let s := ({ s with mtx := ⟨w, s.grid.tick, 0, if same then s.mtx.born else s.grid.tick, if same then s.mtx.leds else []⟩ }).putFlag
      fMTX_RUN true
    let s := (List.range (128 * s.mtxBanks)).foldl frameLed s
    let s := (List.range (16 * s.mtxBanks)).foldl (fun s j => s.frameColumn (16 * s.mtxFirst + j)) s
    { s with free := s.free + 1 }

/-- A line of the scan group is switched closed for its slot, unless it is held open (R158, R164). -/
def lineClose (s : State) (n : Nat) : State :=
  if s.flag (fBANK_STRAY n) || s.flag (fBANK_OC n) then s
  else (s.setBank n { s.bank n with closed := true, closing := false }).putFlag (fBANK_CLOSED n) true

/-- SCALE in use on the columns of slot k, as its slot tick 475 has set it, stays in CHS_DRVc until the next one (R160). -/
def slotScales (s : State) (k : Nat) : State :=
  (s.slotLines k).foldl (fun s l =>
    (List.range (16 * s.mtxBanks)).foldl (fun s j =>
      let e := 128 * l + j
      if s.ledExists e then s.put (fDRV_SCALE (s.ledChan e)) (s.ledOf e).scale else s) s) s

/-- The next scan slot starts on its tick: the previous slot's lines open and this slot's close; after the last slot all lines are
open (R157, R158, R164). -/
def slotStart (s : State) : State :=
  let k := s.mtx.slot
  if !s.frameRuns then s.scanEnd
  else if decide (s.mtxSlots < k) || s.grid.tick != s.mtx.frame + k * s.slotTicks then s
  else
    let s := if k = 0 then s else ((s.slotLines (k - 1)).foldl (fun s l => s.bankOpen (s.mtxFirst + l)) s).slotScales (k - 1)
    let s := if k = s.mtxSlots then s else (s.slotLines k).foldl (fun s l => s.lineClose (s.mtxFirst + l)) s
    { s with mtx := { s.mtx with slot := k + 1 } }

end State

-- Commands

/-- PWM_PERIOD_START of a channel (R101). -/
def execPwmPeriodStart (c : Fin 128) (s : State) : Res := .next (s.pwmStart c.val)

/-- PATTERN_CYCLE_START: a SYNC engine begins a cycle on the tick after a match of the time base, which has been set since Dawn
(R119, R272). -/
def execPatternCycleStart (p : Fin 8) (s : State) : Res :=
  if s.flag (fPAT_SYNC p.val) && s.flag fTIME_SET && s.patMatch p.val then
    .next { s with dim := { s.dim with
      patStart := tabSet (fun _ => 0) s.dim.patStart p.val s.grid.tick,
      patWait := tabSet (fun _ => false) s.dim.patWait p.val false } }
  else .next s

/-- SCAN_FRAME_START (R157, R160). -/
def execScanFrameStart (s : State) : Res := .next s.frameStart

/-- SCAN_SLOT_START (R158). -/
def execScanSlotStart (s : State) : Res := .next s.slotStart

end Sys2Proof.Machine
end

