-- ==== Sys2Proof/Machine/Supervise.lean ====
section
/-! DEFINITION. Lamp supervision (R123-R149, R162-R164): classification, confirmation, proof, latches and their clearing,
signatures and the lamp thermometer, comparator-only supervision, stray openings and the fault-clear commands. -/

namespace Sys2Proof.Machine

/-- Fraction bits of log2 of a number in [2^n, 2^(n+1)) by repeated squaring: `k` bits more. -/
def log2Frac : Nat → Nat → Nat → Nat
  | 0, _, acc => acc
  | k + 1, x, acc =>
    let y := x * x / 2 ^ 30
    if 2 ^ 31 ≤ y then log2Frac k (y / 2) (2 * acc + 1) else log2Frac k y (2 * acc)

/-- log2(num / den) in units of 2^-16, rounded down. -/
def log2Q16 (num den : Nat) : Int :=
  let x := num * 2 ^ 64 / den
  let e := Nat.log2 x
  let m := if 30 ≤ e then x / 2 ^ (e - 30) else x * 2 ^ (30 - e)
  ((e : Int) - 64) * 65536 + (log2Frac 16 m 0 : Nat)

/-- Class bits a sample can read, as class + 1; 0 is an agreement (R129). -/
def onClass (open_ short bypass partial_ : Bool) (openClass : Nat) : Nat :=
  if open_ then openClass + 1 else if short then ltSHORT + 1 else if bypass then ltBYPASS + 1
  else if partial_ then ltPARTIAL + 1 else 0

def offClass (short stray : Bool) : Nat := if short then ltSHORT + 1 else if stray then ltSTRAY + 1 else 0

/-- CODE of a result word. -/
def codeOf (w : Nat) : Nat := w % 4096

/-- V_F or V_FO of a result word, in mV (R192). -/
def vfOf (w : Nat) : Int := 20 * ((codeOf w : Int) - 400)

namespace State

/-- LEDs of a string: NLED, or 1 when it is not declared (R129). -/
def nled (s : State) (c : Nat) : Nat := if s.get (fNLED c) = 0 then 1 else s.get (fNLED c)

/-- NLED x VON in mV (R129). -/
def vonOf (s : State) (c : Nat) : Nat := s.nled c * s.get fVON * 10

-- Signature and thermometer (R143-R146)

/-- V_sig(I_S) in µV for a count of LEDs (R143); the spec states no rounding. -/
def vSig (s : State) (c code nl : Nat) : Int :=
  let l := log2Q16 (code * 1023) (10 * s.iCeil c)
  let lo : Int := s.get (fSIG_VLO c)
  let hi : Int := s.get (fSIG_VHI c)
  (nl : Int) * (lo * 1000 + (hi - lo) * 1000 * l / 196608) / (s.get (fSIG_NLED c) : Int)

/-- The predicted forward voltage P in µV (R143). -/
def vPred (s : State) (c code : Nat) : Int :=
  let n := s.get (fSUP_NLED_EFF c)
  let dt := (s.chan c).tEst - 1000 * signedOf (s.get (fSIG_TREF c)) 8
  s.vSig c code n - (n * s.get (fTC c) : Nat) * dt / 10

/-- The residual r = P - V_F in µV (R143). -/
def residual (s : State) (c : Nat) (ws : List Nat) : Int :=
  s.vPred c (codeOf (ws.getD 0 0)) - 1000 * vfOf (ws.getD 1 0)

/-- Signature predictions apply: learnt with NLED_SIG of 2 or more (R143). -/
def sigUsed (s : State) (c : Nat) : Bool := s.flag (fSIG_LEARNT c) && decide (2 ≤ s.get (fSIG_NLED c))

/-- The PARTIAL condition of row 4 (R143). -/
def partialSample (s : State) (c : Nat) (ws : List Nat) : Bool :=
  s.sigUsed c
    && decide ((s.get fSTEP : Int) * s.vPred c (codeOf (ws.getD 0 0)) ≤ s.residual c ws * (100 * s.get (fSUP_NLED_EFF c) : Nat))

/-- NLED_EFF after a PARTIAL confirmation: less the LED shares of the larger residual, at least 1 (R144). -/
def partialStep (s : State) (c : Nat) (w1 w2 : List Nat) : Nat :=
  let n := s.get (fSUP_NLED_EFF c)
  let ws := if s.residual c w1 < s.residual c w2 then w2 else w1
  let p := s.vPred c (codeOf (ws.getD 0 0))
  let k := if p ≤ 0 then 1 else ((2 * s.residual c ws * n + p) / (2 * p)).toNat
  let k := if k = 0 then 1 else k
  if n ≤ k then 1 else n - k

/-- T_est is seeded from NTC_LB at the first on-phase sample after Dawn or after 60 s of darkness (R145). -/
def seedTemp (s : State) (c : Nat) : State :=
  let x := s.chan c
  if x.seeded then s else s.setChan c { x with seeded := true, tEst := 100 * s.ntcTemp, tUpd := s.grid.tick }

/-- T_est moves toward T_raw by at most 1 K per millisecond (R145). -/
def moveTemp (s : State) (c : Nat) (ws : List Nat) : State :=
  let x := s.chan c
  let n := s.get (fSUP_NLED_EFF c)
  let raw := 1000 * signedOf (s.get (fSIG_TREF c)) 8
    + (s.vSig c (codeOf (ws.getD 0 0)) n - 1000 * vfOf (ws.getD 1 0)) * 10 / (n * s.get (fTC c) : Nat)
  let lim : Int := ((s.grid.tick - x.tUpd) / 25 : Nat)
  s.setChan c { x with tEst := clampInt (x.tEst - lim) (x.tEst + lim) raw, tUpd := s.grid.tick }

-- Confirmation (R130-R134)

/-- OPEN confirmed while the rail was absent (R133). -/
def railCause (s : State) (c : Nat) : Bool :=
  let n := c / 16
  !s.flag (fBANK_CLOSED n) || s.flag (fBANK_OC n) || s.get fBST_MODE == 5 || s.get fBST_MODE == 0
    || s.get fBST_MODE == 1 || decide (2 * s.get fBST_MEAS < s.get fBST_TGT)

/-- The STRAY bank command of R67: sent to the drive die, or acted on by it in comparator-only supervision (R147, R149). -/
def strayCommand (s : State) (n : Nat) : State :=
  if s.cmpOnly n then s.strayOpen n else s.setBank n { s.bank n with cmd := true }

/-- A class is confirmed on a channel (R130): latched, proof restarted, logged and raised at its onset. `led` is the
LED index of a scanned sample; `temp` the temperature of an OVERHEAT in °C; the record takes the stamp of the confirming sample's hold
tick (R256). -/
def confirm (s : State) (c k : Nat) (w1 w2 : List Nat) (temp : Int) (at_ : Stamp) : State :=
  let was := s.latch c k
  let rail := s.railCause c
  let s := if k = ltPARTIAL then s.put (fSUP_NLED_EFF c) (s.partialStep c w1 w2) else s
  let s := (s.putFlag (fSUP_LATCH c k) true).reprove c
  let s := s.putFlag (fSUP_LITPROOF c) false
  let s := if k = ltOPEN ∧ rail then s.putFlag (fSUP_RAIL_CAUSE c) true else s
  let s := if k = ltSHORT then s.cutPulse c else s
  let s := if k = ltSTRAY then s.strayCommand (c / 16) else s
  let pad := fun (w : List Nat) => (w ++ [0, 0, 0]).take 3
  let s := if !was || k = ltPARTIAL then
      (s.logStamp at_ evLAMP_FAULT kCHANNEL c
        (c :: k :: (pad w1 ++ pad w2 ++ [s.get (fSUP_NLED_EFF c), toBits temp 32]))).raise srcLAMP_FAULT
    else s
  let s := s.fltSet 1 evLAMP_FAULT
  if k = ltOPEN ∨ k = ltSTRAY ∨ k = ltOPEN1ST then s.duskExit 3 else s

/-- A latch clears (R132); the next commit counts it (R71). -/
def unlatch (s : State) (c k : Nat) : State :=
  let s := (s.putFlag (fSUP_LATCH c k) false).setChan c { s.chan c with cleared := true }
  let s := if k = ltOPEN then s.putFlag (fSUP_RAIL_CAUSE c) false else s
  let s := if k = ltOVERHEAT then s.putFlag (fSUP_TSD_CAUSE c) false else s
  let s := if k = ltPARTIAL then
      s.put (fSUP_NLED_EFF c) (if s.flag (fSIG_LEARNT c) then s.get (fSIG_NLED c) else 0) else s
  s.lampGroup

/-- Since when the evaluations of a channel's lamp temperature have been at or below OVH - 10 K (R132). -/
def coolStep (s : State) (c : Nat) : State :=
  let x := s.chan c
  let cool := decide (s.lampTemp c ≤ 1000 * (s.get fOVH : Int) - 10000)
  s.setChan c { x with coolAt := if !cool then 0 else if x.coolAt = 0 then s.grid.tick + 1 else x.coolAt }

/-- An evaluation of the lamp temperature, by a sample held or a reading taken at `at_`: two at or above OVH in a row latch OVERHEAT
(R146). -/
def evalHot (s0 : State) (c : Nat) (at_ : Stamp) : State :=
  let s := s0.coolStep c
  let t := s.lampTemp c
  let x := s.chan c
  if t < 1000 * (s.get fOVH : Int) then s.setChan c { x with hot := 0 }
  else if x.hot = 0 then s.setChan c { x with hot := 1 }
  else (s.setChan c { x with hot := 2 }).confirm c ltOVERHEAT [] [] (t / 1000) at_

-- Signature learning (R141)

/-- Two samples at one current agree within 2 % of their mean (R141). -/
def learnAgree (a b : Int) : Bool := decide (((a - b).natAbs : Int) * 100 ≤ a + b)

/-- The copy of SUP_SIGc in the channel's lifetime record (R415). -/
def sigCopy (s : State) (c : Nat) : State :=
  s.memWrite (lifeBase + lifeChan c + 72)
    (leBytes 4 (s.rd (aSUP_SIG c 0)).toNat ++ leBytes 4 (s.rd (aSUP_SIG c 1)).toNat)

/-- The signature is recorded (R141, R144); OPEN_AT_FIRST_LIGHT clears (R132). -/
def learnDone (s : State) (c : Nat) (v : List Int) : State :=
  let mean := fun i => ((v.getD i 0 + v.getD (i + 1) 0) / 2).toNat
  let n := s.get (fNLED c)
  let n := if n < 16 then n else 16
  let s := s.wr (aSUP_SIG c 0) (mean 0 % 65536 * 65536 + mean 2 % 65536)
  let s := s.wr (aSUP_SIG c 1) (s.get fDIM_NTC_TEMP * 2 ^ 24 + n * 65536 + 1)
  let s := ((s.putFlag (fSUP_SIG_LEARNT c) true).put (fSUP_NLED_EFF c) n).unlatch c ltOPEN1ST
  let s := s.setChan c { s.chan c with learn := 0, learnV := [] }
  let s := s.sigCopy c
  let a := lifeBase + lifeChan c + 80
  let s := if s.memNat a 3 = 0 then s.memWrite a (leBytes 2 (s.get (fSIG_VHI c)) ++ leBytes 1 n) else s
  s.logEv evSIG_LEARNT kCHANNEL c [c, (s.rd (aSUP_SIG c 0)).toNat, (s.rd (aSUP_SIG c 1)).toNat]

/-- A learning sample counts, or learning starts again (R141). -/
def learnSample (s : State) (c : Nat) (agree : Bool) (vf : Int) : State :=
  let x := s.chan c
  let v := x.learnV ++ [vf]
  let drop := s.setChan c { x with learn := 0, learnV := [] }
  if !agree then drop
  else if v.length = 2 ∧ !learnAgree (v.getD 0 0) (v.getD 1 0) then drop
  else if v.length = 4 then (if learnAgree (v.getD 2 0) (v.getD 3 0) then s.learnDone c v else drop)
  else s.setChan c { x with learnV := v }

-- A classified sample of a channel

/-- The suspect and confirmation rule of one kind of sample (R130): the class read, by the suspect before. -/
def suspectRule (k sus : Nat) (samp ws : List Nat) : Nat × List Nat × Option (List Nat × List Nat) :=
  if k = 0 then (0, [], none)
  else if k = ltSHORT + 1 then (0, [], some (ws, []))
  else if k = sus then (0, [], some (samp, ws))
  else (k, ws, none)

/-- CHS_SUPc.SUSPECT (R130). -/
def showSuspect (s : State) (c : Nat) : State :=
  s.putFlag (fSUP_SUSPECT c) ((s.chan c).susOn != 0 || (s.chan c).susOff != 0)

/-- The next lit period carries an early probe: a probe sample left the channel UNPROVEN or SUSPECT (R137). -/
def earlyProbe (s : State) (c : Nat) (probe : Bool) : State :=
  if probe && (s.get (fSUP_PROOF c) == 0 || s.flag (fSUP_SUSPECT c)) then
    s.setChan c { s.chan c with early := true }
  else s

/-- A sample held before the channel's proof restarted counts neither way; SHORT_TO_RAIL, which needs no pair, is taken from it
too (R131; the rule is silent on such a sample's faults, DESIGN CHOICE, log entry 76). -/
def tooOld (tick from_ k : Nat) : Bool := decide (tick < from_) && k != ltSHORT + 1

/-- A class is read by an on-phase sample held at `tick` (R129-R132, R137): `k` as class + 1, 0 for a lit agreement. -/
def onSample (s : State) (c k tick : Nat) (at_ : Stamp) (ws : List Nat) (probe morn : Bool) : State :=
  let x := s.chan c
  if tooOld tick x.proofAt k then s
  else
    let r := suspectRule k x.susOn x.sampOn ws
    let agr := if k = 0 ∧ !morn then x.agrOn + 1 else 0
    let s := s.setChan c { x with susOn := r.1, sampOn := r.2.1, agrOn := agr }
    let s := s.showSuspect c
    let s := match r.2.2 with
      | some (a, b) =>
        let s := if morn && !s.faulted c then
            { s with pwr := { s.pwr with mornLatched := s.pwr.mornLatched + 1 } } else s
        s.confirm c (k - 1) a b 0 at_
      | none => s
    let s := if 2 ≤ agr then
        let s := if s.latch c ltOPEN && s.flag (fSUP_RAIL_CAUSE c) && s.chanClass c != 1 then s.unlatch c ltOPEN else s
        if (s.chan c).lit then s.provenLit c else s
      else s
    s.earlyProbe c probe

/-- A class is read by an off-phase sample held at `tick` (R129-R131). -/
def offSample (s : State) (c k tick : Nat) (at_ : Stamp) (ws : List Nat) (lit : Bool) : State :=
  let x := s.chan c
  if tooOld tick x.proofAt k then s
  else
    let r := suspectRule k x.susOff x.sampOff ws
    let agr := if k = 0 then x.agrOff + 1 else 0
    let s := s.setChan c { x with susOff := r.1, sampOff := r.2.1, agrOff := agr }
    let s := s.showSuspect c
    match r.2.2 with
    | some (a, b) => s.confirm c (k - 1) a b 0 at_
    | none => if 2 ≤ agr ∧ !lit then s.put (fSUP_PROOF c) 1 else s

/-- Row 1 of R129: I_S below 10 % of I_op. -/
def openSample (ws : List Nat) (iop : Nat) : Bool := decide (codeOf (ws.getD 0 0) * 1023 * 2 ^ 17 < iop)

/-- Row 2 of R129. -/
def shortOn (ws : List Nat) : Bool := decide (vfOf (ws.getD 1 0) < 500) && decide (5000 < 20 * codeOf (ws.getD 2 0))

/-- STARVED: a current of 10 % to 87.5 % of I_op with the cathode below V_DO (R86, R129). -/
def starvedSample (ws : List Nat) (iop : Nat) : Bool :=
  let n := codeOf (ws.getD 0 0) * 1023 * 2 ^ 20
  !openSample ws iop && decide (n < 70 * iop)
    && decide (20 * codeOf (ws.getD 2 0) * (4092 * 2 ^ 20) < 100 * (4092 * 2 ^ 20) + 25 * iop)

/-- OPEN reads as OPEN_AT_FIRST_LIGHT while no signature is learnt (R129, R142). -/
def openClass (s : State) (c : Nat) : Nat := if s.flag (fSIG_LEARNT c) then ltOPEN else ltOPEN1ST

/-- An on-phase hold of a channel is classified (R129 rows 1-5, R141, R145, R146, R392). -/
def classOn (s : State) (h : Hold) (ws : List Nat) : State :=
  let c := h.chan
  let s := s.seedTemp c
  let vf := vfOf (ws.getD 1 0)
  let x := s.chan c
  let s := s.setChan c { x with
    vf := vf, isCode := codeOf (ws.getD 0 0), vk := codeOf (ws.getD 2 0), starved := starvedSample ws h.iop,
    noCur := openSample ws h.iop }
  let s := s.put (fNEED_VCH c) (2 * codeOf (ws.getD 2 0))
  let k := onClass (openSample ws h.iop) (shortOn ws) (decide (vf < s.vonOf c)) (!h.morn && s.partialSample c ws)
    (s.openClass c)
  let s := s.onSample c k h.tick h.held ws h.probe h.morn
  let s := if h.learn ≠ 0 ∧ x.proofAt ≤ h.tick then s.learnSample c (k == 0) vf else s
  let s := if k = 0 ∧ s.sigUsed c ∧ !h.morn then s.moveTemp c ws else s
  if h.morn then s else ((if s.estUsed c then s.evalHot c h.held else s).showTemp c)

/-- An off-phase hold of a channel is classified (R129 rows 6-9); a channel of no enabled aspect only for STRAY (R53). -/
def classOff (s : State) (h : Hold) (ws : List Nat) : State :=
  let c := h.chan
  let vfo := vfOf (ws.getD 1 0)
  let stray := decide (20 * s.get fSTRAY_I < codeOf (ws.getD 0 0))
    || (h.bankClosed && decide ((s.vonOf c : Int) ≤ vfo))
  let k := offClass (decide (vfo < -2000) && (s.owner c).isSome) stray
  s.offSample c k h.tick h.held ws h.lit

-- Scanned LEDs (R162-R164)

/-- The record of an unowned LED, its bit and the LAMP_FAULT source at the onset (R163). -/
def ledConfirm (s : State) (e k : Nat) (w1 w2 : List Nat) (at_ : Stamp) : State :=
  let c := s.ledChan e
  let f := if k = ltSTRAY then fMTX_STRAY e else fMTX_DARK e
  let was := s.flag f
  let s := s.putFlag f true
  let s := if k = ltSTRAY then s.strayCommand (s.ledBank e) else s
  let pad := fun (w : List Nat) => (w ++ [0, 0, 0]).take 3
  let s := if was then s else
    (s.logStamp at_ evLAMP_FAULT kCHANNEL c
      ((0x1000 + e) :: k :: (pad w1 ++ pad w2 ++ [s.get (fSUP_NLED_EFF c), 0]))).raise srcLAMP_FAULT
  s.fltSet 1 evLAMP_FAULT

/-- A hold of a scanned LED is classified by rows 1-3 and 6-9 (R162, R163). The voltage of a position with less than 10 % of its current
is no forward voltage of the column: it raises no need (R86, R161). -/
def classLed (s : State) (h : Hold) (e : Nat) (ws : List Nat) : State :=
  let c := h.chan
  let l := s.ledOf e
  let vf := vfOf (ws.getD 1 0)
  let owned := s.ledOwned e
  let openK := if owned then s.openClass c else ltOPEN
  let k := if h.on then onClass (openSample ws h.iop) (shortOn ws) (decide (vf < s.vonOf c)) false openK
    else offClass (decide (vf < -2000))
      (decide (20 * s.get fSTRAY_I < codeOf (ws.getD 0 0)) || (h.bankClosed && decide ((s.vonOf c : Int) ≤ vf)))
  let s := if h.on then
      let x := s.chan c
      let s := s.setLed e { l with isCode := codeOf (ws.getD 0 0), vk := codeOf (ws.getD 2 0) }
      (s.setChan c { x with
        vf := if x.vf < vf && !openSample ws h.iop then vf else x.vf, isCode := codeOf (ws.getD 0 0), vk := codeOf (ws.getD 2 0),
        starved := starvedSample ws h.iop, noCur := openSample ws h.iop }).put (fNEED_VCH c) (2 * codeOf (ws.getD 2 0))
    else s
  if tooOld h.tick l.proofAt k then s
  else
    let l := s.ledOf e
    let r := if h.on then suspectRule k l.susOn l.sampOn ws else suspectRule k l.susOff l.sampOff ws
    let agrOn := if h.on then (if k = 0 ∧ !h.morn then l.agrOn + 1 else 0) else l.agrOn
    let agrOff := if h.on then l.agrOff else if k = 0 then l.agrOff + 1 else 0
    let early := h.on && h.probe && (k != 0 || decide (agrOn < 2))
    let s := s.setLed e (if h.on then
        { l with susOn := r.1, sampOn := r.2.1, agrOn := agrOn, early := early }
      else { l with susOff := r.1, sampOff := r.2.1, agrOff := agrOff })
    let s := match r.2.2 with
      | some (a, b) =>
        let s := if h.morn && !s.faulted c then { s with pwr := { s.pwr with mornLatched := s.pwr.mornLatched + 1 } } else s
        if owned || k = ltSHORT + 1 then s.confirm c (k - 1) a b 0 h.held else s.ledConfirm e (k - 1) a b h.held
      | none => s
    let s := if owned then s.putFlag (fSUP_SUSPECT c) ((s.ledOf e).susOn != 0 || (s.ledOf e).susOff != 0) else s
    if h.on ∧ 2 ≤ agrOn then
      if owned then
        let s := if s.latch c ltOPEN && s.flag (fSUP_RAIL_CAUSE c) then s.unlatch c ltOPEN else s
        if l.lit then s.provenLit c else s
      else (s.putFlag (fMTX_DARK e) false).lampGroup
    else if !h.on ∧ 2 ≤ agrOff ∧ !l.lit ∧ owned then s.put (fSUP_PROOF c) 1
    else s

/-- A sample is set aside; a probe among them moves to the next lit period (R127, R137). -/
def setAside (s : State) (h : Hold) : State :=
  if !h.probe then s
  else if h.led = 0 then s.setChan h.chan { s.chan h.chan with early := true }
  else s.setLed (h.led - 1) { s.ledOf (h.led - 1) with early := true }

/-- SUP takes the three results of a hold (R124, R126, R127, R129). A result tagged NOT_READY sets the sample aside,
a column latched off for SHORT_TO_RAIL the samples of its LEDs (R163), a new layout those of the old one (R165). -/
def supSample (s : State) (h : Hold) : State :=
  let ws := h.res
  let aside := h.aside || ws.any fun w => bitOf w 31
  if h.led ≠ 0 then
    (if h.tick < s.mtx.born then s
     else if aside || s.latch h.chan ltSHORT then s.setAside h
     else s.classLed h (h.led - 1) ws)
  else if aside then s.setAside h
  else if h.on then (if (s.owner h.chan).isSome then s.classOn h ws else s)
  else s.classOff h ws

/-- The comparator check of one hold (R149): on-phase OPEN, off-phase STRAY; samples of R127 are set aside. -/
def cmpSample (s : State) (c : Nat) (on lit aside failing : Bool) : State :=
  if aside then s
  else if on then (if (s.owner c).isSome then s.onSample c (if failing then s.openClass c + 1 else 0) s.grid.tick (s.stampNow 1) [] false false else s)
  else s.offSample c (if failing then ltSTRAY + 1 else 0) s.grid.tick (s.stampNow 1) [] lit

/-- SUP_FLT_CLR of one channel (R97, R132, R134): the latches of the mask clear, but not one of thermal shutdown while it
lasts; proof restarts. -/
def fltClrChan (s : State) (mask c : Nat) : State :=
  let keep := s.tsd && s.flag (fSUP_TSD_CAUSE c)
  let s := (List.range 7).foldl (fun s k =>
    if bitOf mask k && s.latch c k && !(k == ltOVERHEAT && keep) then s.unlatch c k else s) s
  (s.unprove c).putFlag (fSUP_LITPROOF c) false

/-- A write of SUP_FLT_CLR: ALL, MASK, CH (R132). -/
def supFltClr (s : State) (w : Nat) : State :=
  let mask := bitsOf w 8 7
  if bitOf w 31 then (List.range 128).foldl (fun s c => s.fltClrChan mask c) s else s.fltClrChan mask (w % 128)

/-- A channel's signature is forgotten (R142, R144). -/
def forgetSig (s : State) (c : Nat) : State :=
  let s := ((s.wr (aSUP_SIG c 0) 0).wr (aSUP_SIG c 1) 0).sigCopy c
  let s := (s.putFlag (fSUP_SIG_LEARNT c) false).put (fSUP_NLED_EFF c) 0
  s.setChan c { s.chan c with learn := 0, learnV := [] }

/-- A write of SUP_SIG_CMD: ALL, FORGET, CH (R142). -/
def sigCmd (s : State) (w : Nat) : State :=
  if !bitOf w 8 then s
  else if bitOf w 31 then (List.range 128).foldl forgetSig s else s.forgetSig (w % 128)

/-- The bits of the LED a MTX_FLT_CLR write names clear (R163). -/
def mtxClear (s : State) (w : Nat) (stray : Bool) : State :=
  let f := fun e => if stray then fMTX_STRAY e else fMTX_DARK e
  let s := if bitOf w 31 then (List.range 1024).foldl (fun s e => s.putFlag (f e) false) s
    else s.putFlag (f (w % 1024)) false
  s.lampGroup

end State

-- Commands

/-- SHORT_TO_RAIL_FOLDBACK: the comparator's condition has held for 50 ticks of a pulse after the 60 it is blanked for; the sink is
latched off (R98, R136). -/
def execShortToRailFoldback (c : Fin 128) (s : State) : Res :=
  if s.shortWatched c.val then .next (s.confirm c.val ltSHORT [] [] 0 (s.stampNow 1)) else .next s

/-- SUP_FLT_CLR (R132). -/
def execSupFltClr (w : BitVec 32) (s : State) : Res := .next (s.supFltClr w.toNat)

/-- SIG_FORGET (R142). -/
def execSigForget (w : BitVec 32) (s : State) : Res := .next (s.sigCmd w.toNat)

/-- OVERHEAT_AUTO_CLEAR: 10 s at or below OVH - 10 K at every evaluation; not on a PERMISSIVE aspect, not a latch of thermal
shutdown (R132). -/
def execOverheatAutoClear (c : Fin 128) (s : State) : Res :=
  if s.latch c.val ltOVERHEAT && !s.flag (fSUP_TSD_CAUSE c.val) && s.chanClass c.val != 1
      && decide (s.lampTemp c.val ≤ 1000 * (s.get fOVH : Int) - 10000)
      && (s.chan c.val).coolAt != 0 && decide ((s.chan c.val).coolAt + 250000000 ≤ s.grid.tick + 1) then
    .next (s.unlatch c.val ltOVERHEAT)
  else .next s

/-- MTX_CLEAR_STRAY: MTX_FLT_CLR with STRAY (R163). -/
def execMtxClearStray (w : BitVec 32) (s : State) : Res :=
  if bitOf w.toNat 11 then .next (s.mtxClear w.toNat true) else .next s

/-- MTX_CLEAR_DARK: MTX_FLT_CLR with DARK (R163). -/
def execMtxClearDark (w : BitVec 32) (s : State) : Res :=
  if bitOf w.toNat 10 then .next (s.mtxClear w.toNat false) else .next s

end Sys2Proof.Machine
end

