-- ==== Sys2Proof/Machine/Supply.lean ====
section
/-! DEFINITION. Banks, boost and governors (R78-R97, R432 bits 2-4): overcurrent and read-back, thermal shutdown, the need
computation, the governor factors, the boost protections and soft-start. -/

namespace Sys2Proof.Machine

/-- Log base 8 of I / I_LO, in units of 2^-16 / 3, at a current in 1/1023 mA (R143). -/
def logRatio (i ceil : Nat) : Int := log2Q16 (8 * i) ceil

namespace State

-- Fault groups 3 and 4

/-- Group 3 follows fixed-duty hold, hiccup, clamp onsets and BOOST_FB_FAULT (R432). -/
def boostGroup (s : State) (cls : Nat) : State :=
  s.fltFollow 3 cls (s.flag fGRID_DLM_HOLD || s.boost.hic || s.boost.clampTrip || s.boost.fb)

/-- Fixed-duty hold: the duty last committed on time is held (R42). One entered in pass-through shows in MODE as HOLD, and BST_GATE
stays low as long as R84 keeps it so; which of the two MODE shows is DESIGN CHOICE (log entry 74). -/
def dutyHold (s : State) (cls : Nat) : State :=
  let s := s.putFlag fGRID_DLM_HOLD true
  let s := if s.get fBST_MODE = 2 ∨ s.get fBST_MODE = 3 then s.put fBST_MODE 4 else s
  ({ s with boost := { s.boost with onTime := 0 } }).boostGroup cls

/-- Group 4 follows GOV_SAT and thermal shutdown (R432). -/
def thermalGroup (s : State) (cls : Nat) : State := s.fltFollow 4 cls (s.boost.satLogged || s.tsd)

-- Banks

/-- BANK_OC: the switch opens; a bank that may retry waits 100 ms (R80). -/
def bankOC (s : State) (n : Nat) : State :=
  let role := s.roleOf n
  let s := s.bankOpen n
  let s := s.setBank n { s.bank n with wait := role != 1 }
  let s := (s.putFlag (fBANK_OC n) true).mtxHeld
  ((s.logEv evBANK_OC kBANK n [n]).raise srcBANK).fltSet 2 evBANK_OC

/-- The retry 100 ms after an overcurrent opening. A bank held open for STRAY stays open, its OC with it, until a commit finds
both causes ended (R80, R81, R164); so does one that the present state of the part keeps open (R77, R383, R388). -/
def bankRetry (s : State) (n : Nat) : State :=
  if !(s.bank n).wait || decide (s.grid.tick < (s.bank n).at_ + 2500000) then s
  else
    let s := s.setBank n { s.bank n with wait := false }
    if (s.flag (fBANK_STRAY n) && s.roleOf n != 2) || !s.bankWanted n then s
    else
      let s := s.bump aDEV_BANK_RETRY
      if s.scanned n then ((s.putFlag (fBANK_OC n) false).mtxHeld).bankGroup evBANK_OC else s.bankClose n

/-- A bank finishes its 375 ticks of closing; one that carries current again after BANK_OC is no longer retrying (R78, R432). -/
def bankClosed (s : State) (n : Nat) : State :=
  let b := s.bank n
  if !(b.closed && b.closing) || decide (s.grid.tick < b.at_ + 375) then s
  else
    let s := (s.setBank n { b with closing := false }).putFlag (fBANK_CLOSED n) true
    if s.flag (fBANK_OC n) then ((s.putFlag (fBANK_OC n) false).mtxHeld).bankGroup evBANK_OC else s

/-- BANK_STUCK: a rail not below 2 V 100 µs after the opening command (R79). -/
def bankStuck (s : State) (n : Nat) : State :=
  if s.flag (fBANK_STUCK n) then s
  else (((s.putFlag (fBANK_STUCK n) true).logEv evBANK_STUCK kBANK n [n]).raise srcBANK).fltSet 2 evBANK_STUCK

/-- The Morning test of a bank ends with its read-back: the result is kept and the bank is commanded closed again, unless
it is held open. A STRAY confirmed in the test whose bank command is still under way makes it passed, and leaves the bank as that command
will (R393, R432). -/
def mornReadback (s : State) (n : Nat) (low : Bool) : State :=
  let stray := (s.bank n).cmd
  let s := { s with pwr := { s.pwr with mornOpen := tabSet (fun _ => false) s.pwr.mornOpen n false } }
  let s := if low then (s.putFlag (fBANK_STUCK n) false).bankGroup evBANK_STUCK
    else if stray then s
    else (s.put fMORN_BANKFAIL (withBits (s.get fMORN_BANKFAIL) n 1 1)).bankStuck n
  (if s.get (fBANK_MODE n) = 1 ∧ !s.flag (fBANK_STRAY n) ∧ !s.flag (fBANK_OC n) ∧ (!stray ∨ s.roleOf n = 2) then s.bankClose n
   else s).mornEnd

/-- The read-back 100 µs after an opening command (R79, R393). -/
def bankReadback (s : State) (n : Nat) (low : Bool) : State :=
  if s.grid.tick < (s.bank n).at_ + 2500 then s
  else if tabGet (fun _ => false) s.pwr.mornOpen n then s.mornReadback n low
  else if (s.bank n).closed then s
  else if low then s else s.bankStuck n

-- Thermal shutdown (R97)

/-- A channel in thermal shutdown: one of a RESTRICTIVE aspect runs steady at 20 mA, whatever is committed to it, unless its sink is
latched off (R136), any other is switched off; OVERHEAT with TSD_CAUSE is latched on each INFORMATIONAL or PERMISSIVE one
(R97, R131; log entry 21). -/
def tsdChan (s : State) (c : Nat) : State :=
  let x := s.chan c
  match s.owner c with
  | some n =>
    if s.aspClass n = 2 then
      if s.scanned (c / 16) then s
      else
        let s := s.litStep c x.lit true
        let y := (s.chan c).full s.grid.tick (s.lampPeriod c) (s.i20 c * 2 ^ 20)
        s.setChan c { y with pulse := if s.latch c ltSHORT then 0 else y.pulse, learn := 0, learnV := [], morn := false }
    else
      let s := (s.putFlag (fSUP_LATCH c ltOVERHEAT) true).putFlag (fSUP_TSD_CAUSE c) true
      let s := s.litStep c x.lit false
      s.setChan c ((s.chan c).dark s.grid.tick)
  | none => s

def thermalShutdown (s : State) : State :=
  if s.tsd then s
  else
    let s := s.putFlag fPWR_TSD true
    let s := { s with boost := { s.boost with tsdHold := true } }
    let s := (List.range 128).foldl tsdChan s
    let s := s.ledsDark
    let s := (s.logEv evTHERMAL_SHUTDOWN kDEVICE 0 []).raise srcTHERMAL
    (((s.thermalGroup evTHERMAL_SHUTDOWN).lampGroup).duskExit 3)

/-- The junction falls below 130 °C: the TSD latches of INFORMATIONAL channels clear (R97). -/
def thermalExit (s : State) : State :=
  if !s.tsd then s
  else
    let s := s.putFlag fPWR_TSD false
    let s := (List.range 128).foldl (fun s c =>
      if s.flag (fSUP_TSD_CAUSE c) && s.chanClass c == 0 && (s.owner c).isSome then s.unlatch c ltOVERHEAT else s) s
    s.thermalGroup evTHERMAL_SHUTDOWN

-- Need computation (R85-R87, R93)

/-- V_HS of a channel's bank in mV: 0.5 Ω times the ceiling currents of its channels of enabled aspects, or of the columns
that a scan line carries (R85, R161). -/
def vHS (s : State) (asps : List (Nat × List Nat)) (n : Nat) : Nat :=
  let cs := if s.scanned n then
      (let k := s.mtxBanks
       let lo := if s.mtxSplit && decide (s.mtxFirst + k / 2 ≤ n) then 8 * k else 0
       (List.range (if s.mtxSplit then 8 * k else 16 * k)).map fun j => 16 * s.mtxFirst + lo + j)
    else ((List.range 16).map fun i => 16 * n + i).filter fun c => asps.any fun p => p.2.contains c
  sumList (cs.map s.iCeil) / 2046

/-- V_DO in mV at a current in 1/1023 mA (R74). -/
def vDO (i : Nat) : Nat := 100 + 25 * i / 4092

/-- V_F of a channel at a current, in mV: from the learnt signature at the present lamp temperature, else, and with `pre`, the larger
of VNOM and the last measured (R85, R88, R93, R161). -/
def needVF (s : State) (c i : Nat) (pre : Bool) : Nat :=
  let vnom : Int := 100 * s.get (fVNOM c)
  if s.scanned (c / 16) then (let v := (s.chan c).vfPrev; if vnom < v then v else vnom).toNat
  else if s.flag (fSIG_LEARNT c) && !pre then
    let lo : Int := s.get (fSIG_VLO c)
    let hi : Int := s.get (fSIG_VHI c)
    let v := lo + (hi - lo) * logRatio i (s.iCeil c) / 196608
    let n := s.get (fSIG_NLED c)
    if n < 1 then v.toNat
    else
      let e := s.get (fSUP_NLED_EFF c)
      let dt := s.lampTemp c - 1000 * signedOf (s.get (fSIG_TREF c)) 8
      (v * e / n - (e * s.get (fTC c) : Nat) * dt / 10000).toNat
  else (let v := (s.chan c).vf; if vnom < v then v else vnom).toNat

/-- A channel left out of the need: a latch of R86, or an on-phase current below 10 % of I_op. The rule does not say how long
a reading counts once the channel is dark: the model drops the one below 10 % while the channel is not lit and keeps
STARVED until the next on-phase reading; a column, lit by any LED of it, counts with its last reading (DESIGN CHOICE, log
entry 73). -/
def needExcluded (s : State) (c : Nat) : Bool :=
  let l := s.get (fSUP_LATCHES c)
  let lit := if s.scanned (c / 16) then s.mtx.leds.any fun p => s.ledChan p.1 == c && p.2.lit else (s.chan c).lit
  bitOf l 0 || bitOf l 1 || bitOf l 3 || bitOf l 4 || bitOf l 6 || ((s.chan c).noCur && lit)

/-- Dawn is on its way to the end of D4, where the needs are those before the signatures (R88). -/
def preSig (s : State) : Bool := s.pstate == 0 && decide (s.get fPWR_PHASE ≤ 4)

/-- The need of a channel in mV (R85, R86, R88). -/
def needOf (s : State) (asps : List (Nat × List Nat)) (c : Nat) : Nat :=
  if s.needExcluded c then 0
  else if (s.chan c).starved then s.boost.vlamp + 1000
  else s.needVF c (s.iCeil c) s.preSig + s.vHS asps (c / 16) + vDO (s.iCeil c)

/-- The target is at most VSUP - 0.3 V (R84). -/
def passTarget (s : State) : Bool := decide (s.boost.target + 300 ≤ s.boost.vsup)

/-- The boost is in pass-through: MODE FB_FAULT, or in soft-start, regulation, pass-through and hold a target at most VSUP - 0.3 V
(R84, R88, R92). -/
def passThrough (s : State) : Bool :=
  s.get fBST_MODE == 6 || (decide (1 ≤ s.get fBST_MODE ∧ s.get fBST_MODE ≤ 4) && s.passTarget)

/-- Pass-through follows the target and VSUP (R84). -/
def boostPass (s : State) : State :=
  if s.get fBST_MODE = 2 ∧ s.passTarget then s.put fBST_MODE 3
  else if s.get fBST_MODE = 3 ∧ !s.passTarget then s.put fBST_MODE 2
  else s

/-- The 1 ms need computation of SUP: needs, target, HEADROOM_SHORT, VLAMP_MN (R85-R87, R93); from the last commit before Dusk on of
the kept channels only (R384). That a need with its margin above VMAX already counts as one that cannot be met is DESIGN CHOICE
(log entry 73). -/
def needs (s : State) : State :=
  if s.inDusk || s.midnight || s.flag fNW_FROZEN then s
  else
    let asps := s.aspList
    let cs := (List.range 128).filter fun c =>
      if s.lampsKept then tabGet (fun _ => false) s.pwr.duskSet c
      else s.scanned (c / 16) || asps.any fun p => p.2.contains c
    let vmax := 100 * s.get fVMAX
    let margin := 10 * s.get fMARGIN
    let all := cs.map fun c => (c, s.needOf asps c)
    let top := maxFrom 0 (all.map (·.2))
    let target := clampNat 12000 vmax (top + margin)
    let restr := (asps.filter fun p => s.aspClass p.1 == 2).flatMap (·.2)
    let mn := maxFrom 0 (restr.map fun c =>
      if s.needExcluded c then 0 else s.needVF c (s.i20 c) false + s.vHS asps (c / 16) + vDO (s.i20 c))
    let short := top != 0 && decide (vmax < top + margin)
    let was := s.flag fBST_HEADROOM
    let s := all.foldl (fun s p =>
      let s := s.put (fNEED p.1) (if p.2 / 10 < 65536 then p.2 / 10 else 65535)
      (s.putFlag (fDRV_STARVED p.1) (s.chan p.1).starved).putFlag (fDRV_HEADROOM p.1)
        (p.2 != 0 && decide (vmax < p.2 + margin))) s
    let s := { s with boost := { s.boost with target := target, mnForm := clampNat 12000 vmax (mn + 2000) } }
    let s := (s.put fBST_TGT (target / 100)).putFlag fBST_HEADROOM short
    let s := if short && !was then s.logEv evHEADROOM_SHORT kDEVICE 0 [top / 10] else s
    s.boostPass

-- Governors (R94-R97, R116)

/-- The f_lamp curve at a temperature in mK (R116). -/
def lampCurve (s : State) (t : Int) : Nat :=
  let knee : Int := 1000 * s.get fKNEE
  if t ≤ knee then 1024
  else if 110000 ≤ t then 410
  else (1024 - (614 * (t - knee) + (110000 - knee) - 1) / (110000 - knee)).toNat

/-- f_junction at a junction temperature in 0.1 °C (R97). -/
def juncCurve (t : Int) : Nat :=
  if t ≤ 1150 then 1024 else if 1300 ≤ t then 410 else (1024 - (614 * (t - 1150) + 149) / 150).toNat

/-- A factor moved by at most 16 toward its curve (R116). -/
def step16 (f g : Nat) : Nat := if g + 16 < f then f - 16 else if f + 16 < g then f + 16 else g

/-- f_lamp of channels on the NTC_LB source: the output of loop slot 3 while it runs (R213), else its curve. -/
def ntcLamp (s : State) : Nat :=
  match s.loops.slots.find? fun p => p.1 == 3 && p.2.run with
  | some p => ((p.2.u + 16) / 32).toNat
  | none => s.lampCurve (100 * s.ntcTemp)

/-- The channel's own f_lamp: its curve, at the floor while OVERHEAT is latched (R116, R132). -/
def ownLamp (s : State) (c : Nat) : Nat :=
  if s.latch c ltOVERHEAT then 410 else if s.estUsed c then s.lampCurve (s.lampTemp c) else s.ntcLamp

/-- The f_lamp a channel moves to: the least among its aspect's surviving channels (R116). -/
def lampGoal (s : State) (asps : List (Nat × List Nat)) (c : Nat) : Nat :=
  match asps.find? fun p => p.2.contains c with
  | none => s.ownLamp c
  | some (_, cs) =>
    let live := cs.filter fun d => !s.lost d
    if live.isEmpty then s.ownLamp c else minFrom 1024 (live.map s.ownLamp)

/-- Sink dissipation in 10 mW: cathode voltage x current x on-fraction, of each channel and of each scanned LED by its own last
reading (R95); codes of 20 mV and 12.5 µA. -/
def pSink (s : State) : Nat :=
  let own := sumList ((List.range 128).map fun c =>
    let x := s.chan c
    if s.scanned (c / 16) || !x.lit then 0 else x.vk * x.isCode * x.pulse / (4 * s.lampPeriod c))
  let scan := sumList (s.mtx.leds.map fun p =>
    if s.ledExists p.1 && s.flag fMTX_RUN && p.2.lit then p.2.vk * p.2.isCode * p.2.pulse / (4 * s.mtxFrame) else 0)
  (own + scan) / 10000

/-- A class of the order of R95 holds a channel. -/
def classHeld (s : State) (asps : List (Nat × List Nat)) (k : Nat) : Bool :=
  (asps.any fun p => s.aspClass p.1 == k) || (k == 0 && s.flag fMTX_EN)

/-- f_diss of a class. -/
def dissOf (s : State) (k : Nat) : Nat := tabGet (fun _ => 1024) s.boost.diss k

/-- One step of f_diss: down in the order of R95 while the sum exceeds the limit, up in reverse after 10 ms of calm. -/
def dissStep (s : State) (asps : List (Nat × List Nat)) (p : Nat) : State :=
  let limit := 10 * s.get fGOV_PMAX
  let setD := fun (s : State) k f => { s with boost := { s.boost with diss := tabSet (fun _ => 1024) s.boost.diss k f } }
  let ovr := decide (limit < p)
  let calm := if 100 * p < 95 * limit then s.boost.calm + 1 else 0
  let low := [0, 1, 2].find? fun k => s.classHeld asps k && decide (govFloor k < s.dissOf k)
  let high := [2, 1, 0].find? fun k => decide (s.dissOf k < 1024)
  let sat := ovr && low.isNone
  let was := s.boost.satLogged
  let s := { s with boost := { s.boost with calm := calm, satLogged := sat } }
  let s :=
    if ovr then
      match low with
      | some k => setD s k (if govFloor k + 16 ≤ s.dissOf k then s.dissOf k - 16 else govFloor k)
      | none => s
    else if 10 ≤ calm then
      match high with
      | some k => setD s k (if s.dissOf k + 16 ≤ 1024 then s.dissOf k + 16 else 1024)
      | none => s
    else s
  let s := if sat && !was then (s.logEv evGOV_SAT kDEVICE 0 [p]).raise srcTHERMAL else s
  s.thermalGroup evGOV_SAT

/-- The governor factors every 1 ms (R94, R95, R97, R116); in Dusk the curve at NTC_LB directly (R384). -/
def governors (s : State) : State :=
  let asps := s.aspList
  let p := s.pSink
  let s := s.put fPWR_PSINK (if p < 65536 then p else 65535)
  let s := { s with boost := { s.boost with fJunc := juncCurve s.boost.tj } }
  let s := if s.boost.peak then { s with boost := { s.boost with peak := false } } else s.putFlag fBST_PEAK_LIM false
  if s.inDusk then
    (List.range 128).foldl (fun s c => s.setChan c { s.chan c with fLamp := s.lampCurve (100 * s.ntcTemp) }) s
  else
    let goals := (List.range 128).map fun c => (c, s.lampGoal asps c)
    let s := s.dissStep asps p
    let s := goals.foldl (fun s g =>
      let x := s.chan g.1
      s.setChan g.1 { x with fLamp := step16 x.fLamp g.2, fDiss := s.dissOf (s.chanClass g.1) }) s
    s.putFlag fBST_GOV ([0, 1, 2].any fun k => decide (s.dissOf k < 1024))

-- BST_GATE (R82-R84, R89-R93)

/-- BST_GATE goes low for the rest of the switching cycle. -/
def gateLow (s : State) : State :=
  { s with pins := { s.pins with bstGate := false }, boost := { s.boost with gateLeft := 0 } }

/-- A gate pulse of `n` ticks begins, unless the over-voltage clamp holds the gate low (R91). -/
def gatePulse (s : State) (n : Nat) : State :=
  if n = 0 ∨ s.flag fBST_OV_CLAMP then s.gateLow
  else { s with pins := { s.pins with bstGate := true }, boost := { s.boost with gateLeft := n } }

/-- Integer ticks and carried fraction of a demanded on-time of u x 50 / 32,768 ticks (R83). -/
def gateTicks (u : Int) (frac : Nat) : Nat × Nat :=
  let t := u.toNat * 50 + frac
  if u ≤ 0 then (0, frac) else (if 42 < t / 32768 then 42 else t / 32768, t % 32768)

/-- The pulse issued for an on-time: 1 or 2 ticks are saved up until they make a 3-tick pulse (R83; the rule leaves the way the
share is formed, log entry 74). -/
def gateIssue (n owed : Nat) : Nat × Nat :=
  if n = 1 ∨ n = 2 then (if 3 ≤ owed + n then (3, owed + n - 3) else (0, owed + n)) else (n, owed)

/-- A switching cycle begins: by the duty word in force, held low in pass-through, which is judged at each cycle, in hiccup or off,
and in Midnight by the hysteresis of the fallback, one 20-tick pulse a cycle (R82-R84, R90, R93; that it pulses once a cycle and
keeps on between the two levels is the model's, log entry 74). Without power good it stays low (R374). -/
def gateCycle (s0 : State) : State :=
  let s := s0.boostPass
  let b := s.boost
  if !s.pwr.good then s.gateLow else
  if s.get fBST_MODE = 7 then
    let on := if b.vlamp + 500 < b.mnLatch then true else if b.mnLatch + 500 < b.vlamp then false else b.fallOn
    ({ s with boost := { b with fallOn := on } }).gatePulse (if on then 20 else 0)
  else if (s.get fBST_MODE = 1 ∨ s.get fBST_MODE = 2 ∨ s.get fBST_MODE = 4) ∧ !s.passThrough then
    let t := gateTicks b.dutyNow b.dutyFrac
    let g := gateIssue t.1 b.owed
    ({ s with boost := { b with dutyFrac := t.2, owed := g.2 } }).gatePulse g.1
  else s.gateLow

/-- Ticks of a slot-0 period: 100, and 200 in Dusk (R37, R51). -/
def slot0Ticks (s : State) : Nat := if s.boost.wide then 200 else 100

/-- A slot-0 period begins: the duty committed in the last one comes into force with a switching cycle (R82). Its length changes for
Dusk, and back, at a boundary of 200 ticks from the lamp epoch (R383, R386). -/
def gatePeriod (s : State) : State :=
  let wide := if (s.grid.tick - s.dim.epoch) % 200 = 0 then s.inDusk else s.boost.wide
  ({ s with boost := { s.boost with dutyNow := s.boost.duty, cyc := s.grid.tick, wide := wide } }).gateCycle

/-- BST_GATE on the present grid tick: a period or a switching cycle begins, or the pulse goes on or ends (R82, R83). -/
def gateTick (s : State) : State :=
  let d := s.grid.tick - s.boost.cyc
  if s.slot0Ticks ≤ d then s.gatePeriod
  else if d % 50 = 0 then s.gateCycle
  else if s.boost.gateLeft ≤ 1 then s.gateLow
  else { s with boost := { s.boost with gateLeft := s.boost.gateLeft - 1 } }

-- Boost protections (R88-R92)

/-- Every NORMAL bank is commanded closed when soft-start has ended in D4 (R375). -/
def closeNormal (s : State) : State :=
  if s.pstate = 0 ∧ s.get fPWR_PHASE = 4 then
    (List.range 8).foldl (fun s n => if s.get (fBANK_MODE n) = 1 then s.bankClose n else s) s
  else s

/-- Soft-start begins: slot 0 starts afresh, so that its set-point ramps from the VLAMP of pass-through (R88, R221). -/
def softStart (s : State) : State :=
  if s.midnight then s
  else
    let s := (s.put fBST_MODE 1).setLoop 0 { s.loop 0 with run := false }
    { s with boost := { s.boost with rampAt := 0 } }

/-- VLAMP passes the judgement of soft-start (R88). -/
def softOk (s : State) : Bool :=
  let b := s.boost
  if s.passTarget then decide (b.target ≤ b.vlamp)
  else decide (b.vlamp ≤ b.target + 1000 ∧ b.target ≤ b.vlamp + 1000)

/-- 5 ms have passed since the ramp reached the target (R88). -/
def softOver (s : State) : Bool := s.boost.rampAt != 0 && decide (s.boost.rampAt + 125000 ≤ s.grid.tick + 1)

/-- The hiccup holds the gate low from now on (R90). -/
def hiccup (s : State) : State :=
  let s := (s.put fBST_MODE 5).gateLow
  { s with boost := { s.boost with hic := true, hicAt := s.grid.tick } }

/-- The judgement 5 ms after the ramp, in pass-through a success before it too: success, or BOOST_START_FAIL and the hiccup (R88,
R90, R378). -/
def softCheck (s : State) : State :=
  if s.get fBST_MODE ≠ 1 || !(s.softOver || (s.passTarget && s.softOk)) then s
  else if s.softOk then
    let s := (s.put fBST_MODE 2).boostPass
    let s := { s with boost := { s.boost with hic := false, ended := true } }
    (s.boostGroup evBOOST_SHORT).closeNormal
  else
    let s := s.hiccup
    let s := { s with
      boost := { s.boost with fails := s.boost.fails + 1, ended := s.boost.ended || decide (2 ≤ s.boost.fails) } }
    ((s.logEv evBOOST_START_FAIL kDEVICE 0 []).raise srcBOOST).boostGroup evBOOST_START_FAIL

/-- BOOST_SHORT: gate low, hiccup (R90); it wakes the part from Dusk (R385). Of the protections only those of R89 and R91 act
in the Midnight fallback (R93). -/
def boostShort (s : State) : State :=
  if s.boost.fb || s.midnight then s
  else
    let s := s.hiccup
    (((s.logEv evBOOST_SHORT kDEVICE 0 []).raise srcBOOST).boostGroup evBOOST_SHORT).duskExit 3

/-- BOOST_FB_FAULT: pass-through until the next Dawn; a soft-start under way ends, and so does the hiccup between two of them, after
which no soft-start follows (R88, R92, R375). The Midnight fallback senses the VLAMP ball and goes on (R93). -/
def boostFb (s : State) : State :=
  if s.boost.fb || s.midnight then s
  else
    let soft := s.get fBST_MODE == 1 || s.get fBST_MODE == 5
    let s := (s.put fBST_MODE 6).gateLow
    let s := { s with boost := { s.boost with fb := true, hic := false, ended := s.boost.ended || soft } }
    let s := ((s.logEv evBOOST_FB_FAULT kDEVICE 0 []).raise srcBOOST).boostGroup evBOOST_FB_FAULT
    if soft then s.closeNormal else s

/-- An onset of the over-voltage clamp (R91). -/
def clampOnset (s : State) : State :=
  let on := (s.grid.tick :: s.boost.onsets).take 3
  let trip := on.length == 3 && decide (s.grid.tick ≤ on.getD 2 0 + 25000000)
  let s := ((s.putFlag fBST_OV_CLAMP true).bump aDEV_BOOST_OVC).lifeAcc (lifeDevice + 44) 1
  let s := s.gateLow
  let s := { s with
    boost := { s.boost with onsets := on, clampTrip := s.boost.clampTrip || trip } }
  (s.raise srcBOOST).boostGroup 0

/-- Banks held open for BANK_OC are asked to reclose at the next commit (SYS_FLT_CLR.BANKOC, R432). -/
def askReclose (s : State) (mask : Nat) : State :=
  (List.range 8).foldl (fun s n =>
    if bitOf mask n && s.flag (fBANK_OC n) then s.setBank n { s.bank n with reclose := true, wait := false } else s) s

end State

-- Commands

/-- BANK_OC (R80). -/
def execBankOc (n : Fin 8) (s : State) : Res := .next (s.bankOC n.val)

/-- BANK_OC_RETRY (R80, R81). -/
def execBankOcRetry (n : Fin 8) (s : State) : Res := .next (s.bankRetry n.val)

/-- BANK_READBACK with the rail below 2 V or not (R79). -/
def execBankReadback (n : Fin 8) (low : Bool) (s : State) : Res := .next (s.bankReadback n.val low)

/-- BANK_CLOSE_COMPLETE (R78). -/
def execBankCloseComplete (n : Fin 8) (s : State) : Res := .next (s.bankClosed n.val)

/-- THERMAL_SHUTDOWN (R97). -/
def execThermalShutdown (s : State) : Res := .next s.thermalShutdown

/-- THERMAL_SHUTDOWN_EXIT (R97). -/
def execThermalShutdownExit (s : State) : Res := .next s.thermalExit

/-- NEED_COMPUTATION (R85). -/
def execNeedComputation (s : State) : Res := .next s.needs

/-- GOVERNOR_UPDATE (R94). -/
def execGovernorUpdate (s : State) : Res := .next s.governors

/-- PEAK_CURRENT_TRIP: the gate stays low for the rest of the cycle (R89). -/
def execPeakCurrentTrip (s : State) : Res :=
  let s := (s.putFlag fBST_PEAK_LIM true).gateLow
  .next { s with boost := { s.boost with peak := true } }

/-- OV_CLAMP_ONSET (R91). -/
def execOvClampOnset (s : State) : Res := .next s.clampOnset

/-- OV_CLAMP_RELEASE (R91). -/
def execOvClampRelease (s : State) : Res := .next (s.putFlag fBST_OV_CLAMP false)

/-- OV_CLAMP_QUIET: a second without an onset (R432 bit 3). -/
def execOvClampQuiet (s : State) : Res :=
  .next ({ s with boost := { s.boost with clampTrip := false, onsets := [] } }.boostGroup 0)

/-- BOOST_SHORT (R90). -/
def execBoostShort (s : State) : Res := .next s.boostShort

/-- HICCUP_RESTART: after 100 ms, counted, soft-start again (R88, R90). -/
def execHiccupRestart (s : State) : Res :=
  if s.get fBST_MODE = 5 ∧ s.boost.hicAt + 2500000 ≤ s.grid.tick then .next ((s.bump aDEV_BOOST_HICCUP).lifeAcc (lifeDevice + 40) 1).softStart else .next s

/-- BOOST_FB_FAULT (R92). -/
def execBoostFbFault (s : State) : Res := .next s.boostFb

/-- SOFTSTART_CHECK (R88). -/
def execSoftstartCheck (s : State) : Res := .next s.softCheck

/-- BANKOC_RECLOSE: SYS_FLT_CLR.BANKOC asks for the reclosing of banks held open for BANK_OC at the next commit (R432). -/
def execBankocReclose (mask : BitVec 8) (s : State) : Res :=
  .next (s.askReclose mask.toNat)

end Sys2Proof.Machine
end

