-- ==== Sys2Proof/Machine/Loop.lean ====
section
/-! DEFINITION. The loop engine (R213-R225): period start with swap and ramp, the control law, conditional integration,
reseed, commit and hold, migration. -/

namespace Sys2Proof.Machine

/-- sat16 (R217). -/
def sat16 (x : Int) : Int := clampInt (-32768) 32767 x

/-- Saturation to the 40-bit signed range (R217). -/
def sat40 (x : Int) : Int := clampInt (-(2 ^ 39)) (2 ^ 39 - 1) x

namespace State

/-- A field of the active set of a slot: word w, bits lo + width - 1 : lo. -/
def act (s : State) (n w lo width : Nat) : Nat := bitsOf (s.rd (aLOOP_ACT n w)).toNat lo width
def actS (s : State) (n w lo : Nat) : Int := signedOf (s.act n w lo 16) 16

/-- MODE of a slot: 0 OFF, 1 PI, 2 PID, 3 PASS; fixed for the device slots (R213). -/
def loopMode (s : State) (n : Nat) : Nat :=
  if n = 0 then (if s.act 0 0 0 3 = 2 then 2 else 1)
  else if n = 1 then 1 else if n < 4 then 3
  else if s.act n 0 9 2 = 3 ∨ 3 < s.act n 0 0 3 then 0 else s.act n 0 0 3

/-- The slot runs at 10 kHz (R213, R214). -/
def loopFast (s : State) (n : Nat) : Bool := n == 2 || (decide (4 ≤ n) && s.act n 0 8 1 == 1)

/-- The LOOP_ST words of a slot. -/
def fLST (n w lo width : Nat) : Fld := ⟨aLOOP_ST n w, lo, width⟩

/-- round(value x 3.2768) (R221). -/
def slewOf (v : Nat) : Nat := (v * 32768 + 5000) / 10000

/-- KI of slot 1: round(32,768 x 1 ms / TAU), TAU in units of 10 ms (R213). -/
def tauGain (tau : Nat) : Nat := (2 * 32768 + 10 * tau) / (20 * tau)

/-- What SC0 derives at commit for words of a device slot's shadow set, as (word, its value): MODE of slots 1 to 3, KI of slot 1, the
slews of slots 0 and 3 (R213, R221). -/
def derived (s : State) (n : Nat) : List (Nat × Nat) :=
  match n with
  | 0 => [(4, slewOf (s.get fSLEW_UP) * 65536 + slewOf (s.get fSLEW_DN))]
  | 1 => [(0, 1), (1, tauGain (s.get fBIN_TAU))]
  | 2 => [(0, 3)]
  | 3 => [(0, 3), (4, 8192 * 65536 + 8192)]
  | _ => []

/-- Set-point slews of a slot in 1/16 LSB per period (R221). -/
def loopSlew (s : State) (n : Nat) : Int × Int := (s.act n 4 16 16, s.act n 4 0 16)

/-- Gains of a slot: KP, KI, KD, KFF, DF (R218); DF 0 reads as 0x7FFF. -/
def loopGains (s : State) (n : Nat) : Int × Int × Int × Int × Int :=
  let df := s.actS n 5 0
  (s.actS n 1 16, s.actS n 1 0, s.actS n 2 16, s.actS n 2 0, if df = 0 then 0x7FFF else df)

/-- UMIN and UMAX; slot 0 stays within 0 and 27,525 (LOOP_ACT, R222). -/
def loopLimits (s : State) (n : Nat) : Int × Int :=
  if n = 1 ∨ n = 2 ∨ n = 3 then (-32768, 32767)
  else
    let lo := s.actS n 3 0
    let hi := s.actS n 3 16
    let lo := if n = 0 ∧ lo < 0 then 0 else lo
    let hi := if n = 0 ∧ 27525 < hi then 27525 else hi
    (lo, if hi < lo then lo else hi)

/-- The value of an observation slot for a loop, with staleness judged now (R167, R220). -/
def obsNow (s : State) (n : Nat) : Int × Bool :=
  let stale := s.staleIn s.obs.slots s.grid.tick (s.flag fTIME_SET) n
  (if stale then s.slotSubst n else s.stored s.obs.slots n, stale)

/-- x = sat16((v x IMUL) >> ISHIFT) (R216). -/
def loopScale (s : State) (n : Nat) (v : Int) : Int := sat16 (v * s.actS n 6 16 / (2 ^ s.act n 6 11 5 : Nat))

/-- A result word is not ready or of an old placement epoch (R220). -/
def adcStale (s : State) (k w : Nat) : Bool :=
  bitOf w 31 || bitsOf w 24 4 != bitsOf (s.rd aDEV_ADC_PLACE).toNat (4 * (k / 2)) 4

/-- The output of a slot as another slot takes it at its tick 0: the one last committed, 0 of a slot that went to MODE OFF before this
tick (R215, R225). -/
def loopOut (s : State) (n : Nat) : Int :=
  let x := s.loop n
  if decide (4 ≤ n) && s.loopMode n == 0 && x.offAt != s.grid.tick then 0 else x.u

/-- The input of a user slot and whether it is stale (R216, R220). -/
def loopInput (s : State) (n : Nat) : Int × Bool :=
  let i := s.act n 6 0 10
  match s.act n 0 9 2 with
  | 0 =>
    let w := (s.rd (aADC_REGR (i / 32 % 16) (i % 32))).toNat
    (s.loopScale n (w % 4096 : Nat), s.adcStale (i / 32 % 16) w)
  | 1 => let o := s.obsNow i; (s.loopScale n o.1, o.2)
  | _ => (s.loopScale n (s.loopOut (i % 32)), false)

/-- The ideal duty 1 - VSUP / r0 of slot 2 (R213); VSUP and r0 in Q15 of 64 V. -/
def idealDuty (s : State) : Int :=
  let r0 := (s.loop 0).r / 16
  let v : Int := (s.boost.vsup * 32768 / 64000 : Nat)
  if r0 ≤ 0 then 0 else sat16 (32768 - v * 32768 / r0)

/-- The set-point of a slot and whether it is stale (R213, R216). -/
def loopSet (s : State) (n : Nat) : Int × Bool :=
  if n = 0 then
    -- VLAMP_TGT x 51.2, rounded; the frozen target in Dusk and during a freeze
    (((s.get fBST_TGT * 512 + 5) / 10 : Nat), false)
  else if n = 1 then ((s.dim.goal / 2 : Nat), false)
  else if n = 2 then (s.idealDuty, false)
  else if n = 3 then (sat16 ((s.lampCurve (100 * s.ntcTemp) * 32 : Nat)), false)
  else if s.act n 0 11 1 = 1 then (let o := s.obsNow (s.act n 7 0 10); (s.loopScale n o.1, o.2))
  else (s.actS n 5 16, false)

/-- The feed-forward of a slot and whether it is stale (R213, R216). -/
def loopFF (s : State) (n : Nat) : Int × Bool :=
  if n = 0 then ((s.loop 2).u, false)
  else if n < 4 then (0, false)
  else
    let i := s.act n 0 16 10
    match s.act n 0 12 2 with
    | 1 => let o := s.obsNow i; (s.loopScale n o.1, o.2)
    | 2 => (s.loopOut (i % 32), false)
    | _ => (0, false)

/-- An index of a source as the swap takes it: an ADC sequence slot is 0-511, a loop slot 0-31 (R216, LOOP_SHD). -/
def idxOf (top i : Nat) : Nat := if top < i then top else i

/-- A shadow word as the swap takes it, each field clamped to its range, by word 0 of the set (LOOP_SHD). -/
def loopWord (n o w w0 : Nat) : Nat :=
  if o = 0 then
    let m := bitsOf w 0 3
    let m := if n = 0 then (if m = 2 then 2 else 1) else if bitsOf w 9 2 = 3 ∨ 3 < m then 0 else m
    let w := withBits w 0 3 m
    let w := withBits w 4 4 (if 8 < bitsOf w 4 4 then 8 else bitsOf w 4 4)
    let w := if bitsOf w 12 2 = 3 then withBits w 12 2 0 else w
    let w := if bitsOf w 12 2 = 2 then withBits w 16 10 (idxOf 31 (bitsOf w 16 10)) else w
    if 1 < bitsOf w 14 2 then withBits w 14 2 0 else w
  else if o = 6 then
    (match bitsOf w0 9 2 with
    | 0 => withBits w 0 10 (idxOf 511 (bitsOf w 0 10))
    | 2 => withBits w 0 10 (idxOf 31 (bitsOf w 0 10))
    | _ => w)
  else if o = 3 ∧ n = 0 then
    toBits (clampInt (-32768) 27525 (signedOf (w / 65536) 16)) 16 * 65536 + toBits (clampInt 0 32767 (signedOf w 16)) 16
  else w

/-- A swap that is pending takes effect at tick 0: shadow copied to active, UMAX raised to a higher UMIN, SWAPPED, BADLIM, reseed due
(R222, R223). -/
def loopSwap (s : State) (n : Nat) : State :=
  if !s.flag ⟨aLOOP_SWAP, n, 1⟩ then s
  else
    let s := s.putFlag ⟨aLOOP_SWAP, n, 1⟩ false
    let w0 := (s.rd (aLOOP_SHD n 0)).toNat
    let s := (List.range 8).foldl (fun s w => s.wr (aLOOP_ACT n w) (loopWord n w (s.rd (aLOOP_SHD n w)).toNat w0)) s
    let bad := decide (s.actS n 3 16 < s.actS n 3 0)
    let s := if bad then s.put ⟨aLOOP_ACT n 3, 16, 16⟩ (s.act n 3 0 16) else s
    let s := (s.putFlag (fLST n 3 2 1) true).putFlag (fLST n 3 7 1) bad
    s.setLoop n { s.loop n with reseed := true }

/-- The ramp's step toward the set-point (R221); r in 1/16 LSB. -/
def rampStep (r s16 up dn : Int) : Int :=
  if r < s16 then (if up = 0 ∨ s16 < r + up then s16 else r + up)
  else if s16 < r then (if dn = 0 ∨ r - dn < s16 then s16 else r - dn)
  else r

/-- A slot is lost until the next Dawn (R224). -/
def loopLost (s : State) (n : Nat) : Bool := tabGet (fun _ => false) s.loops.lost n

/-- Ticks of a slot's periods (R214, R51). -/
def loopTicks (s : State) (n : Nat) : Nat := if n = 0 then s.slot0Ticks else if s.loopFast n then 2500 else 25000

/-- A period of the slot starts on the present tick, counted from the lamp epoch (R214). -/
def loopDue (s : State) (n : Nat) : Bool :=
  decide (4 ≤ s.get fPWR_PHASE) && (s.grid.tick - s.dim.epoch) % s.loopTicks n == 0

/-- The deadline tick of a period of the slot that is to be committed: tick 80 of 100, 2,000 of 2,500, 20,000 of 25,000, and in Dusk 160
of 200 (R37, R51, R214). -/
def loopCommitTick (s : State) (n : Nat) : Bool :=
  (s.loop n).open_ && (s.grid.tick - s.dim.epoch) % s.loopTicks n == 4 * s.loopTicks n / 5

/-- A slot may run: the device slots from their Dawn phases, a user slot when its MODE is not OFF, none that is lost
(R213, R224, R225). Slot 1 follows a loss level before its first reading too (R113). Slot 0 has no feedback when pair P7 has
failed (R207). -/
def loopReady (s : State) (n : Nat) : Bool :=
  let phase := s.get fPWR_PHASE
  let live := decide (4 ≤ phase) && s.pwr.good && (!s.inDusk || n == 0) && !s.loopLost n
  if n = 0 ∨ n = 2 then live && bitOf (s.rd aADC_REFCTL).toNat 15 && !s.loopLost 0 && !s.pairFault 7
  else if n = 1 then
    live && decide (5 ≤ phase) && s.get fDIM_SRC == 1 && (s.dim.seen || (s.get fBIN_INPUT == 1 && s.flag fDIM_BIN_LOST))
  else if n = 3 then live
  else live && s.loopMode n != 0

/-- A slot that does not run: RUN 0, and in MODE OFF its output reads 0, to a slot that starts on the same tick the one last committed
(R215, R225). -/
def loopOff (s : State) (n : Nat) : State :=
  let off := decide (4 ≤ n) && s.loopMode n == 0
  let x := s.loop n
  let goes := off && x.run
  let s := s.setLoop n { x with
    run := false, fresh := false, open_ := false, res := none, u := if off && !goes && x.offAt != s.grid.tick then 0 else x.u
    offAt := if goes then s.grid.tick else x.offAt }
  let s := s.putFlag (fLST n 3 1 1) false
  if off then s.put (fLST n 0 16 16) 0 else s

/-- The input of a slot and whether it is stale: the sample of slot 0 comes with its conversion, slot 1 has the reading of BRIGHT_IN
(R213, R216). -/
def loopIn (s : State) (n : Nat) : Int × Bool :=
  if n = 0 then ((s.loop 0).x, false) else if n = 1 then ((s.dim.x / 2 : Nat), false) else if n < 4 then (0, false)
  else s.loopInput n

/-- A slot that has started and not yet committed is preset: its ramp to its input, that of slot 1 with its integrator to `level`,
A_t / 2 of the first valid reading (R213, R221). The output last committed stands until the slot commits (R215). -/
def loopPreset (n : Nat) (x : LoopSlot) (inp level : Int) : LoopSlot :=
  if n = 1 then { x with r := level * 16, i := level * 32768, d := 0, xPrev := inp }
  else { x with r := inp * 16, i := 0, d := 0, xPrev := inp }

/-- Tick 0 of a slot's period: a pending swap, the latched input, set-point and feed-forward, and the ramp (R214-R222). On a record it
has moved to, the D filter and x_prev restart (R224). -/
def loopStart (s : State) (n : Nat) : State :=
  let s := s.loopSwap n
  if !s.loopReady n then s.loopOff n
  else
    let x := s.loop n
    let inp := s.loopIn n
    let sp := s.loopSet n
    let ff := s.loopFF n
    let stale := inp.2 || sp.2 || ff.2
    let sl := s.loopSlew n
    let fresh := !x.run || x.fresh
    let x := if fresh then loopPreset n x inp.1 (if s.dim.seen then sp.1 else ((s.get fDIM_AMBIENT / 2 : Nat) : Int)) else if x.moved then { x with d := 0, xPrev := inp.1 } else x
    let s := s.setLoop n { x with
      run := true, fresh := fresh, x := inp.1, sp := sp.1, rNext := if stale then x.r else rampStep x.r (sp.1 * 16) sl.1 sl.2
      f := ff.1, hold := stale, stale := stale, open_ := true, wait := n == 0, res := none }
    s.putFlag (fLST n 3 1 1) true

/-- The value that acts for a slot's output (R219). -/
def loopActs (s : State) (n : Nat) (u : Int) : Int :=
  if n ≠ 0 then u
  else if s.passThrough then 0
  else if s.flag fGRID_DLM_HOLD then s.boost.duty
  else if 27525 < u then 27525 else u

/-- A sum, saturated at every addition (R217). -/
def accum (l : List Int) : Int := l.foldl (fun a x => sat40 (a + x)) 0

/-- The integrator after a reseed: u_prev less the new P and FF, within what keeps their sum between the limits (R223). -/
def reseedI (u p ff umin umax : Int) : Int :=
  clampInt (accum [umin * 32768, -p, -ff]) (accum [umax * 32768, -p, -ff]) (accum [u * 32768, -p, -ff])

/-- The output that a slot goes on from: the one last committed, and of a slot that starts none, 0, or its preset for slot 1 (R213,
R223). -/
def loopFrom (n : Nat) (x : LoopSlot) : Int := if !x.fresh then x.u else if n = 1 then x.r / 16 else 0

/-- The control law of one period (R218, R219, R223). The error of slot 1 is taken against its own output, which makes A follow A_t
as R112 says (DEDUCED, log entry 23). -/
def loopLaw (s : State) (n : Nat) : LoopRes :=
  let x := s.loop n
  let (kp, ki, kd, kff, df) := s.loopGains n
  let g : Int := 2 ^ s.act n 0 4 4
  let (umin, umax) := s.loopLimits n
  let r := x.rNext / 16
  let e := sat16 (r - (if n = 1 then loopFrom n x else x.x))
  let p := kp * e * g
  let ff := kff * x.f * g
  let lim := fun u => clampInt umin umax u
  if s.loopMode n = 3 then
    let raw := sat16 (r + ff / 32768)
    let u := lim raw
    ⟨u, e, x.i, x.d, raw != u, false⟩
  else
    let d := if s.loopMode n = 2 then
        sat40 (x.d + df * accum [-(kd * sat16 (x.x - x.xPrev) * g), -x.d] / 32768) else 0
    let di := if x.reseed then 0 else ki * e * g
    let i0 := if x.reseed then reseedI (loopFrom n x) p ff umin umax else x.i
    let try_ := sat16 (accum [p, i0, di, d, ff, 16384] / 32768)
    let gap := try_ - s.loopActs n (lim try_)
    let drop := (decide (0 < di) && decide (0 < gap)) || (decide (di < 0) && decide (gap < 0))
    let i := if drop then i0 else sat40 (i0 + di)
    let raw := sat16 (accum [p, i, d, ff, 16384] / 32768)
    let u := lim raw
    ⟨u, e, i, d, raw != s.loopActs n u || drop, x.reseed⟩

/-- A slot's computation completes (R215, R218); a held period computes nothing (R220). -/
def loopResult (s : State) (n : Nat) : State :=
  let x := s.loop n
  if !x.open_ || x.hold || x.wait then s else s.setLoop n { x with res := some (s.loopLaw n) }

/-- The LOOP_ST words of a committed period (LOOP_STn). -/
def loopShow (s : State) (n : Nat) : State :=
  let x := s.loop n
  let e := match x.res with | some r => r.e | none => 0
  let s := s.wr (aLOOP_ST n 0) (toBits x.u 16 * 65536 + toBits (x.r / 16) 16)
  let s := s.wr (aLOOP_ST n 1) (toBits x.x 16 * 65536 + toBits e 16)
  let s := s.wr (aLOOP_ST n 2) (toBits (x.i / 256) 32)
  s.put (fLST n 3 24 8) (toBits x.i 8)

/-- The output is held for this period: every state update of it is discarded (R39, R220). -/
def loopHold (s : State) (n : Nat) (stale : Bool) : State :=
  let x := s.loop n
  let s := s.setLoop n { x with open_ := false, res := none }
  ((s.putFlag (fLST n 3 4 1) true).putFlag (fLST n 3 5 1) stale).putFlag ⟨aLOOP_HOLD, n, 1⟩ true

/-- The ramp of slot 0 has reached the target of a soft-start with this period (R88). -/
def rampReached (s : State) : State :=
  let x := s.loop 0
  if s.get fBST_MODE = 1 ∧ s.boost.rampAt = 0 ∧ x.r = x.sp * 16 then
    { s with boost := { s.boost with rampAt := s.adc.boostAt + 1 } }
  else s

/-- A result commits: output, ramp, integrator, D filter and input take the period's values; a HOSTVAR output is written
(R214, R220, R225). -/
def loopCommit (s : State) (n : Nat) (r : LoopRes) : State :=
  let x := s.loop n
  let s := s.setLoop n { x with
      u := r.u, r := x.rNext, i := r.i, d := r.d, xPrev := x.x, reseed := false
      fresh := false, moved := false }
  let s := s.loopShow n
  let s := s.setLoop n { s.loop n with open_ := false, res := none }
  let s := ((s.putFlag (fLST n 3 6 1) r.reseed).putFlag (fLST n 3 4 1) false).putFlag (fLST n 3 5 1) false
  let s := ((s.putFlag (fLST n 3 3 1) r.sat).putFlag ⟨aLOOP_SAT, n, 1⟩ r.sat).putFlag ⟨aLOOP_HOLD, n, 1⟩ false
  let s := if n = 0 then
      let live := !s.flag fGRID_DLM_HOLD && !s.midnight
      (if live then { s with boost := { s.boost with duty := r.u } } else s).rampReached
    else s
  if 4 ≤ n ∧ s.act n 0 14 2 = 1 then
    s.aspVarWrite (s.act n 7 27 5) (toBits r.u 32)
  else s

/-- The slot's deadline (R39, R44, R220): committed, held without a miss, or missed. The second value is on-time; a period held for
R220 or R224 counts so and ends a run of misses (DESIGN CHOICE, log entry 77: the rules say only that it is no miss). -/
def loopDeadline (s : State) (n : Nat) (onTime : Bool) : State × Bool :=
  let x := s.loop n
  if !x.open_ then (s, onTime)
  else if x.hold then (s.loopHold n x.stale, true)
  else
    match x.res with
    | some r => if onTime then (s.loopCommit n r, true) else (s.loopHold n false, false)
    | none => (s.loopHold n false, false)

/-- LOOP_EPOCH and LOOP_ST.EPOCH count on (R224). -/
def loopEpoch (s : State) (n : Nat) : State :=
  let f : Fld := ⟨aLOOP_EPOCH (n / 8), 4 * (n % 8), 4⟩
  let s := s.put f (s.get f + 1)
  s.put (fLST n 3 20 4) (s.get f)

/-- At a boundary of its periods a slot moves to a spare record, or is lost when its record fails with no spare left. A computation
under the old epoch is discarded and its period held (R224). -/
def loopMigrate (s : State) (n : Nat) (fail : Bool) : State :=
  if !s.loopDue n then s
  else if fail ∧ 2 ≤ s.loops.spares then
    let s := { s with loops := { s.loops with lost := tabSet (fun _ => false) s.loops.lost n true } }
    let s := s.loopOff n
    let s := (s.logEv evLOOP_SLOT_LOST kLOOP n [n]).fltSet 7 evLOOP_SLOT_LOST
    if n = 0 then s.dutyHold evLOOP_SLOT_LOST else s
  else
    let x := s.loop n
    let s := if fail then { s with loops := { s.loops with spares := s.loops.spares + 1 } } else s
    let s := s.setLoop n { x with reseed := true, moved := true, res := none, hold := x.open_ || x.hold }
    s.loopEpoch n

end State

-- Commands

/-- LOOP_RESULT_READY (R218). -/
def execLoopResultReady (n : Fin 32) (s : State) : Res := .next (s.loopResult n.val)

/-- LOOP_SWAP_WRITE: each 1 requests a swap (R222). -/
def execLoopSwapWrite (w : BitVec 32) (s : State) : Res := .next (s.wr aLOOP_SWAP (s.rd aLOOP_SWAP ||| w).toNat)

/-- LOOP_SLOT_MIGRATE: an uncorrectable record, or a test of the record by BIST (R224). -/
def execLoopSlotMigrate (n : Fin 32) (fail : Bool) (s : State) : Res := .next (s.loopMigrate n.val fail)

/-- LOOP_ST_READ: SWAPPED clears (R222). -/
def execLoopStRead (n : Fin 32) (s : State) : Res := .next (s.putFlag (State.fLST n.val 3 2 1) false)

end Sys2Proof.Machine
end

