-- ==== Sys2Proof/Machine/Dim.lean ====
section
/-! DEFINITION. The ambient level, BRIGHT_IN and NTC_LB (R110-R113, R117). -/

namespace Sys2Proof.Machine

namespace State

/-- The schedule is in its Noon part: local time from NOON_START to NIGHT_START, over midnight if need be (R110, R111). That there is
no Noon part when the two are equal is DESIGN CHOICE (log entry 75). -/
def schedNoon (s : State) : Bool :=
  let m : Int := s.localSec % 86400 / 60
  let a : Int := s.get fNOON_START
  let b : Int := s.get fNIGHT_START
  if a ≤ b then decide (a ≤ m ∧ m < b) else decide (a ≤ m ∨ m < b)

/-- The schedule's part is judged: a crossing starts the ramp from the present level. Until the time base has been set
the part is Noon (R111). -/
def schedJudge (s : State) : State :=
  let night := s.flag fTIME_SET && !s.schedNoon
  if night == s.flag fDIM_NIGHT then s
  else
    let s := s.putFlag fDIM_NIGHT night
    if s.get fDIM_SRC = 0 then
      { s.putFlag fDIM_XFADE true with dim := { s.dim with from_ := s.get fDIM_AMBIENT, ramp := s.grid.tick } }
    else s

/-- The level of the schedule at this tick, and whether its ramp still runs (R111). A level between two steps of the code is
rounded down; the rule states no rounding (DESIGN CHOICE, log entry 75). -/
def schedLevel (s : State) : Nat × Bool :=
  let goal : Int := if s.flag fDIM_NIGHT then s.get fNIGHT else s.get fNOON
  let total := s.get fXFADE_S * 25000000
  let t := s.grid.tick - s.dim.ramp
  if s.flag fDIM_XFADE && decide (t < total) then
    (((s.dim.from_ : Int) + (goal - s.dim.from_) * t / total).toNat, true)
  else (goal.toNat, false)

/-- A_t for a fraction x of full scale (R112). The division for y is rounded down; the rule states no rounding of it, and no y for an
XHI equal to XLO, as a commit makes it of an XLO of 0xFFFF, where y is 0 (DESIGN CHOICE, log entry 75). -/
def brightTarget (s : State) (x : Nat) : Nat :=
  let lo : Int := s.get fXLO
  let hi : Int := s.get fXHI
  let y := if hi = lo then 0 else clampInt 0 65536 (65536 * ((x : Int) - lo) / (hi - lo))
  ((s.get fNIGHT : Int) + ((s.get fNOON : Int) - s.get fNIGHT) * y / 65536).toNat

/-- A duty of the PWM input within 0.5-99.5 % (R113), as a 16-bit fraction. -/
def dutyValid (duty : Nat) : Bool := decide (328 ≤ duty ∧ duty ≤ 65208)

/-- A valid reading of BRIGHT_IN gives the target level, and the first one the level that A is preset to; while the PWM input is lost
the target is the loss level, reached through the filter. Without a valid reading the target stays (R112, R113). -/
def brightFollow (s : State) (duty : Nat) : State :=
  let pwm := s.get fBIN_INPUT == 1
  if pwm && s.flag fDIM_BIN_LOST then
    { s with dim := { s.dim with goal := if s.get fBIN_LOSS = 1 then s.get fNIGHT else s.get fNOON } }
  else if (if pwm then !dutyValid duty else !s.dim.valid) then s
  else
    let x := if pwm then duty else s.dim.x
    let s := if s.dim.seen then s else s.setLoop 1 { s.loop 1 with fresh := true }
    { s with dim := { s.dim with x := x, goal := s.brightTarget x, seen := true } }

/-- The ambient level A of this millisecond (R110). -/
def ambientUpdate (s : State) (duty : Nat) : State :=
  let s := s.schedJudge
  match s.get fDIM_SRC with
  | 0 =>
    let r := s.schedLevel
    (s.put fDIM_AMBIENT r.1).putFlag fDIM_XFADE r.2
  | 1 =>
    let s := (s.brightFollow duty).putFlag fDIM_XFADE false
    if (s.loop 1).run && !(s.loop 1).fresh then
      let u := (s.loop 1).u
      s.put fDIM_AMBIENT (if u = 32767 then 0xFFFF else (2 * u).toNat)
    else s
  | 2 => (s.put fDIM_AMBIENT (s.get fNOON)).putFlag fDIM_XFADE false
  | _ =>
    let v := (s.obsNow (s.get fOBS_HI * 32 + s.get fOBS_LO)).1
    (s.put fDIM_AMBIENT (clampInt 0 0xFFFF v).toNat).putFlag fDIM_XFADE false

/-- A housekeeping reading of BRIGHT_IN: clamped to 0-10 V, with BRIGHT_IN_RANGE at the onset (R112, R113). -/
def brightReading (s : State) (mv : Int) : State :=
  if s.get fBIN_INPUT = 1 then s
  else
    let out := decide (10200 < mv ∨ mv < -200)
    let was := s.flag fDIM_BIN_RANGE
    let s := s.putFlag fDIM_BIN_RANGE out
    let s := if out && !was then s.logEv evBRIGHT_IN_RANGE kDEVICE 0 [toBits mv 32] else s
    let v := (clampInt 0 10000 mv).toNat
    { s with dim := { s.dim with mv := mv, x := if v * 65536 / 10000 < 65535 then v * 65536 / 10000 else 65535, valid := true } }

/-- NTC_LB in 0.1 °C by the Beta model with the 10 kΩ bias (R117, R468): `none` stands for hotter than the model holds.
The spec states no rounding; the logarithm has 16 fraction bits and the result is rounded down. -/
def ntcModel (s : State) (code : Nat) : Option Int :=
  if code = 0 ∨ s.get fNTC_NOM = 0 then none
  else
    let l := log2Q16 (1000 * code) ((4096 - code) * s.get fNTC_NOM)
    let beta : Int := s.get fNTC_BETA
    let den := beta * 6553600000000 + 29815 * 693147 * l
    if den ≤ 0 then none else some ((29815 * beta * 6553600000000 / den - 27315) / 10)

/-- The reading is in range: -40 °C to 150 °C (R117). -/
def ntcInRange (s : State) : Bool :=
  match s.ntcModel s.dim.ntcCode with
  | some t => decide (-400 ≤ t ∧ t ≤ 1500)
  | none => false

/-- The NTC_LB temperature is computed and judged; channels on that source are evaluated, every column of the scan group among
them (R117, R146, R162). -/
def ntcUpdate (s : State) : State :=
  let ok := s.ntcInRange
  let s := { s with dim := { s.dim with ntc := (s.ntcModel s.dim.ntcCode).getD s.dim.ntc } }
  let s := if !ok && !s.flag fDIM_NTC_FAULT then
      (s.putFlag fDIM_NTC_FAULT true).logEv evNTC_FAULT kDEVICE 0 [s.dim.ntcCode]
    else s
  let s := s.put fDIM_NTC_TEMP (toBits (clampInt (-128) 127 (s.ntcTemp / 10)) 8)
  let asps := s.aspList
  let cs := (List.range 128).filter fun c => s.scanned (c / 16) || asps.any fun p => p.2.contains c
  cs.foldl (fun s c => (if s.estUsed c then s else s.evalHot c (s.stampNow 1)).showTemp c) s

end State

-- Commands

/-- AMBIENT_UPDATE, with the duty of a PWM brightness input as a 16-bit fraction (R110-R112). -/
def execAmbientUpdate (duty : BitVec 16) (s : State) : Res := .next (s.ambientUpdate duty.toNat)

/-- BRIGHT_IN_LOST: the PWM input has been invalid for 20 ms (R113). -/
def execBrightInLost (s : State) : Res :=
  if s.get fBIN_INPUT = 1 ∧ !s.flag fDIM_BIN_LOST then
    .next ((s.putFlag fDIM_BIN_LOST true).logEv evBRIGHT_IN_LOST kDEVICE 0 [])
  else .next s

/-- BRIGHT_IN_VALID: the PWM input has been valid for 100 ms (R113). -/
def execBrightInValid (s : State) : Res := .next (s.putFlag fDIM_BIN_LOST false)

/-- NTC_UPDATE (R117). -/
def execNtcUpdate (s : State) : Res := .next s.ntcUpdate

/-- NTC_RECOVERED: the reading has been in range for 1 s; the substitute is dropped (R117). -/
def execNtcRecovered (s : State) : Res :=
  if s.ntcInRange then .next (s.putFlag fDIM_NTC_FAULT false) else .next s

end Sys2Proof.Machine
end

