-- ==== Sys2Proof/Machine/Adc.lean ====
section
/-! DEFINITION. The conversion subsystem (R191-R212): trim, order of work, sequencers and triggers, rounds and pair checks,
moves of work, TRIM_RELOAD, and the delivery of results. -/

namespace Sys2Proof.Machine

def defSeqr : Seqr := ⟨false, [], false, 0, false, false, false, none, 0⟩
def defConv : Conv := ⟨none, false, [], [], defSeqr, defSeqr, 0, none, none, 0, false, 0⟩
def defPair : AdcPair := ⟨0, 0, 0⟩

/-- The trimmed code and whether the clamp acted (R194). -/
def trim (k raw : Nat) : Nat × Bool :=
  let off := clampInt (-128) 127 (Config.adcOff k)
  let x := (((raw : Int) - off) * clampInt 15565 17203 (Config.adcGain k) + 8192) / 16384
  let c := clampInt 0 4095 x
  (c.toNat, x != c)

/-- The PHYS value of a shared point (R193); fractions of a millivolt are rounded down. -/
def physOf (point code : Nat) : Int :=
  match point with
  | 1 | 9 => (code * 625 / 1000 : Nat)
  | 2 | 3 | 4 => (20 * code : Nat)
  | 5 => ((code : Int) - 512) * 3125 / 1000
  | 7 => (code : Int) - 1024
  | 8 => (2 * code : Nat)
  | _ => code

/-- The points of which a converter is home, beside CHK and BG (R193). -/
def homePoints (k : Nat) : List Nat :=
  (if k % 2 = 0 then [2] else [])
    ++ (match k with | 14 => [3] | 13 => [4] | 12 => [5] | 11 => [6] | 10 => [7] | 9 => [8] | _ => [])

/-- The other converter of the pair. -/
def partner (k : Nat) : Nat := if k % 2 = 0 then k + 1 else k - 1

/-- A converter with its conversion put back in front of what waits. -/
def unstarted (x : Conv) (it : AdcItem) : Conv :=
  let x := { x with cur := none }
  match it.kind with
  | 0 => { x with boost := true }
  | 1 => { x with hk := it.point :: x.hk }
  | 2 => x
  | 3 => { x with inj := { x.inj with left := (it.slot, it.point, it.phys) :: x.inj.left } }
  | _ => { x with reg := { x.reg with left := (it.slot, it.point, it.phys) :: x.reg.left } }

/-- Holds in the order of hold tick and then channel (R197). -/
def holdBefore (g h : Hold) : Bool := decide (g.tick < h.tick ∨ (g.tick = h.tick ∧ g.chan ≤ h.chan))

/-- The hold of which a quantity is being converted, which will come to nothing. -/
def underway (x : Conv) : List Hold :=
  match x.cur with
  | some it => if it.kind = 2 then (x.holds.take 1).map fun h => { h with void := true } else []
  | none => []

/-- The holds behind it, and those of them that have no word yet. -/
def heldHolds (x : Conv) : List Hold := x.holds.drop (underway x).length
def waitingHolds (x : Conv) : List Hold := (heldHolds x).filter fun h => h.res.isEmpty

/-- A hold joins those that wait, behind the one whose quantity is being converted (R197). -/
def joinHold (x : Conv) (h : Hold) : List Hold :=
  let n := (underway x).length
  let rest := x.holds.drop n
  x.holds.take n ++ rest.filter (holdBefore · h) ++ h :: rest.filter fun g => !holdBefore g h

/-- A sequencer without a pass or a pending trigger. -/
def Seqr.stopped (q : Seqr) : Seqr := { q with run := false, left := [], pend := false }

namespace State

def conv (s : State) (k : Nat) : Conv := tabGet (fun _ => defConv) s.adc.convs k
def setConv (s : State) (k : Nat) (x : Conv) : State :=
  { s with adc := { s.adc with convs := tabSet (fun _ => defConv) s.adc.convs k x } }
def pair (s : State) (p : Nat) : AdcPair := tabGet (fun _ => defPair) s.adc.pairs p
def setPair (s : State) (p : Nat) (x : AdcPair) : State :=
  { s with adc := { s.adc with pairs := tabSet (fun _ => defPair) s.adc.pairs p x } }

def fADC_FAULT (k : Nat) : Fld := fADC (k / 2) (2 + k % 2)
def fADC_EPOCH (p : Nat) : Fld := ⟨aDEV_ADC_PLACE, 4 * p, 4⟩
def fBOOST14 : Fld := ⟨aADC_MISC, 16, 1⟩
def fRELOAD (k : Nat) : Fld := ⟨aADC_MISC, k, 1⟩
def fREF_EN (p : Nat) : Fld := ⟨aADC_REFCTL, p, 1⟩
def fREF_RDY (p : Nat) : Fld := ⟨aADC_REFCTL, 8 + p, 1⟩

/-- The converter serves neither its channels nor its sequences: out of service, or under BIST (R208). -/
def convOut (s : State) (k : Nat) : Bool := s.flag (fADC_FAULT k) || (s.conv k).bist

/-- The converter that converts the holds of channel c (R191, R208). -/
def servingConv (s : State) (c : Nat) : Nat := if s.convOut (c / 8) then partner (c / 8) else c / 8

/-- The converter that carries the boost sampling (R198). -/
def boostConv (s : State) : Nat := if s.flag fBOOST14 then 14 else 15

/-- The boost sampling is to be carried by ADC14: ADC15 is out, under BIST or reloading (R198). -/
def wantBoost14 (s : State) : Bool := (s.convOut 15 || (s.conv 15).reload == 2) && !s.convOut 14

/-- The window of R198, the last 30 ticks of a slot-0 period, in which no other conversion starts on the converter that carries the
boost sampling, nor on the one that takes it at the coming boundary; 200-tick periods in Dusk (R212). -/
def boostWindow (s : State) (k : Nat) : Bool :=
  let n := s.slot0Ticks
  (k == s.boostConv || k == (if s.wantBoost14 then 14 else 15)) && decide (4 ≤ s.get fPWR_PHASE)
    && decide (n ≤ (s.grid.tick - s.dim.epoch) % n + 30)

/-- The next waiting item of a converter in the order of R197, and the converter's state with it taken. The slots of an injected
pass wait for the tick on which they are held, and a regular slot does not go before them (R200, R203). -/
def nextItem (s : State) (k : Nat) : Option (AdcItem × Conv) :=
  let x := s.conv k
  let tag := !s.flag (fREF_RDY (k / 2))
  let ep := s.get (fADC_EPOCH (k / 2))
  if x.boost && !s.pairFault (k / 2) then some (⟨0, 0, 9, false, tag, ep, s.grid.tick⟩, { x with boost := false })
  else if s.boostWindow k || s.convOut k then none
  else
    match x.hk with
    | p :: ps => some (⟨1, 0, p, false, tag, ep, s.grid.tick⟩, { x with hk := ps })
    | [] =>
      if x.reload = 2 then none
      else
        match x.holds with
        | _ :: _ => some (⟨2, 0, 0, false, tag, ep, s.grid.tick⟩, x)
        | [] =>
          match x.inj.left with
          | (i, p, u) :: rest =>
            if s.grid.tick < x.inj.hold then none
            else some (⟨3, i, p, u, tag, ep, s.grid.tick⟩, { x with inj := { x.inj with left := rest } })
          | [] =>
            match x.reg.left with
            | (i, p, u) :: rest => some (⟨4, i, p, u, tag, ep, s.grid.tick⟩, { x with reg := { x.reg with left := rest } })
            | [] => none

/-- An idle converter starts the next waiting item (R197). What waits on one tick waits together: a conversion that began on this
very tick gives way to an item of a higher order (R203; log entry 26). -/
def adcKick (s : State) (k : Nat) : State :=
  let x := s.conv k
  let s0 := match x.cur with
    | some it => if it.start = s.grid.tick then s.setConv k (unstarted x it) else s
    | none => s
  if (s0.conv k).cur.isSome then s
  else
    match s0.nextItem k with
    | some (it, y) => s0.setConv k { y with cur := some it }
    | none => s0

/-- On a tick every idle converter starts what has come due by it: the slots of an injected pass (R200), and what waited for the end
of the window of R198. -/
def adcTick (s : State) : State :=
  (List.range 16).foldl (fun s k => if (s.conv k).cur.isSome then s else s.adcKick k) s

-- Sequencers (R200-R204)

/-- Slot entry i of a sequencer: point and UNIT. -/
def slotEntry (s : State) (a i : Nat) : Nat × Bool :=
  let w := (s.rd (a + 4 * (i / 2))).toNat
  (bitsOf w (16 * (i % 2)) 5, bitOf w (16 * (i % 2) + 15))

def regTrigOf (s : State) (k : Nat) : Nat := bitsOf (s.rd (aADC_SEQCFG k 0)).toNat 0 3
def injTrigOf (s : State) (k : Nat) : Nat := bitsOf (s.rd (aADC_SEQCFG k 1)).toNat 0 3

/-- A regular pass starts with the settings in force (R200, R204). -/
def regStart (s : State) (k : Nat) : State :=
  let n := bitsOf (s.rd (aADC_SEQCFG k 0)).toNat 8 5 + 1
  let x := s.conv k
  let left := (List.range n).map fun i => (i, s.slotEntry (aADC_SLOT k 0) i)
  (s.setConv k { x with reg := ⟨true, left, false, x.reg.pass + 1, false, false, x.reg.ovr, x.reg.at_, s.grid.tick⟩ }).adcKick k

/-- An injected pass starts: all its slots are held together, on the tick after the trigger or, for a pending trigger, on this one,
and the hold tick is shown (R200, R202). -/
def injStart (s : State) (k : Nat) (late : Bool) : State :=
  let n := bitsOf (s.rd (aADC_SEQCFG k 1)).toNat 8 2 + 1
  let x := s.conv k
  let left := (List.range n).map fun i => (i, (s.slotEntry (aADC_INJSLOT k 0) i).1, false)
  let hold := if late then s.grid.tick else s.grid.tick + 1
  let s := s.setConv k { x with inj := ⟨true, left, false, x.inj.pass + 1, late, false, x.inj.ovr, x.inj.at_, hold⟩ }
  (s.wr (aADC_INJTS k) (if late then s.tick32 else s.tick32 + 1)).adcKick k

/-- An overrun: counted; the first after a pass that had none is logged and raised (R202). -/
def overrun (s : State) (k : Nat) (inj : Bool) : State :=
  let x := s.conv k
  let q := if inj then x.inj else x.reg
  let s := s.bump (if inj then aADC_OVR_INJ k else aADC_OVR_REG k)
  let s := if !q.ovr && !q.overPrev then
      (s.logEv evADC_OVERRUN kCONV k [k, boolNat inj]).raise srcADC_OVERRUN
    else s
  s.setConv k (if inj then { x with inj := { q with ovr := true } } else { x with reg := { q with ovr := true } })

/-- A converter with one of its sequencers replaced. -/
def setSeqr (s : State) (k : Nat) (inj : Bool) (q : Seqr) : State :=
  let x := s.conv k
  s.setConv k (if inj then { x with inj := q } else { x with reg := q })

/-- A trigger of a sequencer (R202, R203, R208): starts it, is latched, or is an overrun; a second one on the tick of the first is
one with it; none is taken while the work is moved. -/
def trigger (s : State) (k : Nat) (inj : Bool) : State :=
  let x := s.conv k
  let q := if inj then x.inj else x.reg
  if s.convOut k || s.inDusk || q.at_ == some s.grid.tick then s
  else
    let q := { q with at_ := some s.grid.tick }
    let t := s.setSeqr k inj q
    if q.pend then t.overrun k inj
    else if q.run || x.reload == 2 then s.setSeqr k inj { q with pend := true }
    else if inj then t.injStart k false else t.regStart k

/-- The triggers of one cause for both sequencers of a converter; injected work takes the first boundary (R203). -/
def triggerBy (s : State) (k : Nat) (codes : List Nat) : State :=
  let s := if codes.contains (s.injTrigOf k) then s.trigger k true else s
  if codes.contains (s.regTrigOf k) then s.trigger k false else s

/-- A sequence ends; a pending trigger starts the next pass at once (R202). -/
def seqEnd (s : State) (k : Nat) (inj : Bool) : State :=
  let x := s.conv k
  let q := if inj then x.inj else x.reg
  if !q.left.isEmpty then s
  else if q.pend && x.reload != 2 then (if inj then s.injStart k true else s.regStart k)
  else s.setConv k (if inj then { x with inj := { q with run := false } } else { x with reg := { q with run := false } })

-- Moves of work (R208-R211)

/-- Holds that are not converted any more are set aside (R127, R137). -/
def dropHolds (s : State) (l : List Hold) : State := l.foldl setAside s

/-- Of a converter's holds, those that a new placement epoch catches with words taken or under way are set aside, since their words
would be of two epochs (R210); the sums of its check restart (R211). -/
def newEpoch (s : State) (k : Nat) : State :=
  let x := s.conv k
  (s.setConv k { x with holds := underway x ++ waitingHolds x, bgbad := 0 }).dropHolds
    ((x.holds.filter fun h => !h.void).filter fun h => !(waitingHolds x).contains h)

/-- A move of work into or out of a pair: a new placement epoch, COVER, and the sums of the check restart (R208-R211). -/
def placeMove (s : State) (p : Nat) : State :=
  let s := s.put (fADC_EPOCH p) (s.get (fADC_EPOCH p) + 1)
  let s := s.putFlag (fADC p 1) (s.convOut (2 * p) != s.convOut (2 * p + 1))
  let s := (s.newEpoch (2 * p)).newEpoch (2 * p + 1)
  s.setPair p { s.pair p with disagree := 0, moved := s.grid.tick }

/-- The boost sampling moves at a slot-0 period boundary, to a converter that is free there; one that still ends a conversion takes it
at the next boundary, so that no sample is lost (R198, R208). The move that put its converter out of service or took it back has
given a new epoch already; one for a reload alone gives its own (R210). -/
def placeBoost (s : State) : State :=
  if s.wantBoost14 == s.flag fBOOST14 || (s.conv (if s.wantBoost14 then 14 else 15)).cur.isSome then s
  else
    let s := s.putFlag fBOOST14 s.wantBoost14
    if (s.pair 7).moved < s.adc.boostAt then s.placeMove 7 else s

/-- A converter's own work stops; a conversion under way runs to its end (R197, R208). -/
def convStop (s : State) (k : Nat) : State :=
  let x := s.conv k
  s.setConv k { x with holds := underway x, hk := [], reg := x.reg.stopped, inj := x.inj.stopped }

/-- A converter's own work stops, and its unconverted holds go to its partner (R208). -/
def moveAway (s : State) (k : Nat) : State :=
  let s := s.placeMove (k / 2)
  let held := heldHolds (s.conv k)
  let s := s.convStop k
  if s.convOut (partner k) then s.dropHolds held
  else
    (held.foldl (fun s h => s.setConv (partner k) { s.conv (partner k) with holds := joinHold (s.conv (partner k)) h }) s).adcKick
      (partner k)

/-- Group 6 follows the FAULT bits (R432). -/
def convGroup (s : State) (cls : Nat) : State :=
  s.fltFollow 6 cls ((List.range 16).any fun k => s.flag (fADC_FAULT k))

/-- A converter is taken out of service (R206, R207); a test of its partner loses its cover (R407). -/
def convFault (s : State) (k : Nat) : State :=
  if s.flag (fADC_FAULT k) then s
  else
    let s := if s.underTest (partner k) then s.bistCause brCOVER_LOST else s
    let d := (s.pair (k / 2)).d
    let bg := (s.conv k).bg.getD 0
    let s := s.putFlag (fADC_FAULT k) true
    let s := ((s.logEv evADC_CONV_FAULT kCONV k [k, d, bg]).raise srcADC_FAULT).convGroup evADC_CONV_FAULT
    s.moveAway k

/-- A pair fault: comparator-only channels from their next lamp period; for P7 slot 0 loses its feedback and the duty is held
(R207, R42). -/
def pairFail (s : State) (p : Nat) : State :=
  let s := (s.putFlag (fADC p 2) true).putFlag (fADC p 3) true
  let s := ((s.logEv evADC_PAIR_FAULT kCONV (2 * p) [p, (s.pair p).d]).raise srcADC_FAULT).convGroup evADC_PAIR_FAULT
  let held := ((s.conv (2 * p)).holds ++ (s.conv (2 * p + 1)).holds).filter fun h => !h.void
  let s := ((s.convStop (2 * p)).convStop (2 * p + 1)).dropHolds held
  let s := s.setPair p { s.pair p with moved := s.grid.tick }
  if p = 7 then s.dutyHold evADC_PAIR_FAULT else s

/-- Work moves back to a converter (R211). -/
def convReturn (s : State) (k : Nat) : State :=
  ((s.putFlag (fADC_FAULT k) false).placeMove (k / 2)).convGroup evADC_CONV_FAULT

/-- The evaluation of a pair's round (R206): rounds with a tagged result, under cover, reload or BIST change nothing. -/
def pairEval (s : State) (p : Nat) : State :=
  let a := s.conv (2 * p)
  let b := s.conv (2 * p + 1)
  match a.chk, b.chk, a.bg, b.bg with
  | some ca, some cb, some ga, some gb =>
    if s.convOut (2 * p) || s.convOut (2 * p + 1) || a.reload == 2 || b.reload == 2 then s
    else
      let d := ((ca : Int) - cb).natAbs
      let off := fun k (g : Nat) => decide (8 < ((g : Int) - Config.bgOtp k).natAbs)
      let ba := off (2 * p) ga
      let bb := off (2 * p + 1) gb
      let dis := if 16 < d then (s.pair p).disagree + 1 else 0
      let na := if ba then a.bgbad + 1 else 0
      let nb := if bb then b.bgbad + 1 else 0
      let s := s.setConv (2 * p) { a with bgbad := na }
      let s := s.setConv (2 * p + 1) { b with bgbad := nb }
      let s := s.setPair p { s.pair p with d := d, disagree := if dis = 3 then 0 else dis }
      let s := if na = 3 then s.convFault (2 * p) else s
      let s := if nb = 3 then s.convFault (2 * p + 1) else s
      if dis ≠ 3 then s
      else if ba && !bb then s.convFault (2 * p) else if bb && !ba then s.convFault (2 * p + 1) else s.pairFail p
  | _, _, _, _ => s

-- Delivery of results

/-- The result word of a conversion (ADC_REGRk_s). -/
def resultWord (it : AdcItem) (code : Nat) (sat late : Bool) (pass : Nat) : Nat :=
  2 ^ 31 * boolNat it.tag + 2 ^ 30 * boolNat late + 2 ^ 29 * boolNat sat + 2 ^ 24 * it.epoch
    + 2 ^ 16 * (pass % 256) + code

/-- A housekeeping result refreshes the quantity it feeds (R205); one of an old placement epoch is discarded (R210). -/
def hkDeliver (s : State) (k : Nat) (it : AdcItem) (code : Nat) : State :=
  match it.point with
  | 0 => s.setConv k { s.conv k with chk := if it.tag then none else some code }
  | 1 => s.setConv k { s.conv k with bg := if it.tag then none else some code }
  | 3 => if it.tag then s else ({ s with boost := { s.boost with vlamp := 20 * code } }).put fBST_MEAS (20 * code / 100)
  | 4 => if it.tag then s else { s with boost := { s.boost with vsup := 20 * code } }
  | 5 => if it.tag then s else s.brightReading (physOf 5 code)
  | 6 => if it.tag then s else { s with dim := { s.dim with ntcCode := code } }
  | 7 =>
    if it.tag then s
    else
      let t := physOf 7 code
      let s := if 1250 ≤ t then s.bistCause brTEMP else s
      ({ s with boost := { s.boost with tj := t } }).put fPWR_TJ (toBits (clampInt (-128) 127 (t / 10)) 8)
  | _ => s

/-- A supervision result joins its hold; the third delivers the sample to SUP (R124). One of an old placement epoch is discarded with
its hold, whose sample was set aside as the epoch changed (R210). -/
def supDeliver (s : State) (k w : Nat) : State :=
  let x := s.conv k
  match x.holds with
  | [] => s
  | h :: rest =>
    let h := { h with res := h.res ++ [w] }
    if h.void then s.setConv k { x with holds := rest }
    else if h.res.length < 3 then s.setConv k { x with holds := h :: rest }
    else (s.setConv k { x with holds := rest }).supSample h

/-- The sample of slot 0 is delivered, unless its pair has failed (R207). One that is NOT_READY or of an old placement epoch makes the period one of R220; the first one
presets the ramp (R221), the first one on another record restarts x_prev (R224). -/
def boostSample (s : State) (code : Nat) (bad : Bool) : State :=
  let x := s.loop 0
  if !x.open_ || !x.wait || s.pairFault 7 then s
  else if bad then s.setLoop 0 { x with wait := false, hold := true, stale := true }
  else
    let v : Int := (code * 8 : Nat)
    let r := if x.fresh then v * 16 else x.r
    let sl := s.loopSlew 0
    s.setLoop 0 { x with
      wait := false, x := v, r := r, xPrev := if x.fresh || x.moved then v else x.xPrev
      rNext := rampStep r (x.sp * 16) sl.1 sl.2 }

/-- The conversion in progress ends with a raw code: its result is delivered and the next item starts (R197). -/
def convDone (s : State) (k raw : Nat) : State :=
  let x := s.conv k
  match x.cur with
  | none => s.adcKick k
  | some it =>
    let (code, sat) := trim k raw
    let s := (s.setConv k { x with cur := none }).capResult k it x.holds code sat (it.kind == 3 && x.inj.late)
    let old := it.epoch != s.get (fADC_EPOCH (k / 2))
    let s := match it.kind with
      | 0 => s.boostSample code (it.tag || old)
      | 1 => if old then s else s.hkDeliver k it code
      | 2 => s.supDeliver k (resultWord it code sat false 0)
      | 3 => (s.wr (aADC_INJR k it.slot) (resultWord it code sat x.inj.late x.inj.pass)).seqEnd k true
      | _ =>
        let s := s.wr (aADC_REGR k it.slot) (resultWord it code sat false x.reg.pass)
        let v : Int := if it.phys then physOf it.point code else code
        let s := if it.tag || old then s else s.obsFeed 2 (32 * k + it.slot) v
        s.seqEnd k false
    s.adcKick k

-- Holds (R123-R127, R158, R162, R209)

/-- The hold of a period that began at a tick is skipped under cover at short lamp periods, probe and learning samples apart
(R209). -/
def coverSkip (s : State) (c start : Nat) (probe : Bool) : Bool :=
  let t := s.lampPeriod c
  s.flag (fADC (c / 16) 1) && decide (t ≤ 12500) && !probe && (start - (s.pair (c / 16)).moved) / t % 2 == 1

/-- The lamp period in which the pair of a bank failed: its converters are out and its comparators do not act yet (R207). -/
def pairGone (s : State) (n start : Nat) : Bool := s.pairFault n && decide (start < (s.pair n).moved)

/-- The samples of R127: a closing bank, or one held open for another STRAY. An on-phase sample of a period that began while the
bank was closing proves nothing either (R78). -/
def holdAside (s : State) (c n : Nat) (on : Bool) : Bool :=
  (s.bank n).closing || s.mornOpened n || (on && (s.chan c).ramp && !s.scanned n)
    || (if s.scanned n then s.flag (fBANK_STRAY n) && s.roleOf n != 2 else s.heldForOther c)

/-- A hold joins its converter's queue. A conversion that began on this very tick waits with it, so that holds of one tick are taken
in the order of their channels (R197). -/
def queueHold (s : State) (h : Hold) : State :=
  let k := s.servingConv h.chan
  let x := s.conv k
  let x := match x.cur with
    | some it => if it.start = s.grid.tick then unstarted x it else x
    | none => x
  (s.setConv k { x with holds := joinHold x h }).adcKick k

/-- The instant of a hold: on-phase 137 ticks after the pulse starts, off-phase 150 ticks before the period ends (R125); of a scanned
column, ticks 612 and T_S - 100 of the slot in progress (R158). -/
def holdTick (s : State) (c : Nat) (on : Bool) : Bool :=
  if s.scanned (c / 16) then
    s.inSlot && s.grid.tick == s.mtx.frame + (s.mtx.slot - 1) * s.slotTicks + (if on then 612 else s.slotTicks - 100)
  else
    (s.chan c).period != 0 && s.grid.tick == (s.chan c).start + (if on then 137 else s.lampPeriod c - 150)

/-- The key under which the hold of a channel and kind is taken on its tick. -/
def holdKey (c : Nat) (on : Bool) : Nat := 4096 + 2 * c + boolNat on

/-- The hold of a channel of its own: on-phase with a pulse of 150 ticks or more, off-phase with none or one that ends
at or before T_L - 300 (R125). -/
def chanHold (s : State) (c : Nat) (on fail : Bool) : State :=
  let x := s.chan c
  let t := s.lampPeriod c
  let dark := !x.lit && !x.morn
  let ok := if on then decide (150 ≤ x.pulse) && !dark else decide (x.pulse + 300 ≤ t)
  let aside := s.holdAside c (c / 16) on
  if !ok || s.pairGone (c / 16) x.start then s
  else if s.cmpOnly (c / 16) then (if on == x.lit then s.cmpSample c on x.lit aside fail else s)
  else if s.coverSkip c x.start (on && (x.probing || x.learn != 0)) then s
  else
    s.queueHold ⟨c, 0, on, x.lit, s.grid.tick, s.stampNow 1, x.iop, aside, if on then x.learn else 0,
      s.flag (fBANK_CLOSED (c / 16)), on && x.probing, on && x.morn, false, []⟩

/-- The hold of a column in the slot in progress (R158, R162). -/
def ledHold (s : State) (c : Nat) (on fail : Bool) : State :=
  match s.slotLed c with
  | none => s
  | some e =>
    let l := s.ledOf e
    let n := s.ledBank e
    let ok := if on then decide (150 ≤ l.pulse) && (l.lit || l.morn) else decide (l.pulse + 250 + 475 ≤ s.slotTicks)
    let aside := s.holdAside c n on
    if !ok || s.pairGone (c / 16) s.mtx.frame then s
    else if s.cmpOnly (c / 16) then
      (if on == l.lit && s.ledOwned e then s.cmpSample c on l.lit aside fail else s)
    else if s.coverSkip c s.mtx.frame (on && l.probing) then s
    else
      s.queueHold ⟨c, e + 1, on, l.lit, s.grid.tick, s.stampNow 1, l.iop, aside, 0,
        s.flag (fBANK_CLOSED n), on && l.probing, on && l.morn, false, []⟩

-- Rounds (R205, R208, R212)

/-- The points a converter takes in its round; the four quantities of Dusk on ADC14, or on ADC15 for it (R193, R208, R212). -/
def roundPoints (s : State) (k : Nat) : List Nat :=
  if s.inDusk then 0 :: 1 :: (if k = 14 ∨ (k = 15 ∧ s.convOut 14) then [6, 7, 3, 4] else [])
  else 0 :: 1 :: (homePoints k ++ (if s.convOut (partner k) then homePoints (partner k) else []))

/-- Both converters of a pair hold CHK and take their round (R205). -/
def pairRound (s : State) (p : Nat) : State :=
  if (s.inDusk && p != 7) || s.pairFault p then s
  else
    [2 * p, 2 * p + 1].foldl (fun s k =>
      if s.convOut k then s
      else (s.setConv k { s.conv k with hk := s.roundPoints k, chk := none, bg := none }).adcKick k) s

-- Trim reload (R196)

/-- The reload of a converter starts once its injected work has ended (R196 steps 1 and 2). -/
def reloadStart (s : State) (k : Nat) : State :=
  let x := s.conv k
  if x.reload ≠ 1 ∨ x.inj.run ∨ x.inj.pend then s
  else (s.setConv k { x with reload := 2, reloadAt := s.grid.tick }).putFlag (fRELOAD k) true

/-- The reload of a converter ends 1,000 ticks after it began, with the BG code of its reference check; its paused work resumes
(R196, R211). -/
def reloadEnd (s : State) (k bg : Nat) : State :=
  let x := s.conv k
  if x.reload ≠ 2 ∨ s.grid.tick ≠ x.reloadAt + 1000 then s
  else
    let ok := decide (((bg : Int) - Config.bgOtp k).natAbs ≤ 8)
    let s := (s.setConv k { x with reload := 0, bg := some bg }).putFlag (fRELOAD k) false
    let s := if ok then (if s.flag (fADC_FAULT k) && !s.pairFault (k / 2) then s.convReturn k else s) else s.convFault k
    let s := if s.convOut k then s
      else
        let s := if (s.conv k).inj.pend && !(s.conv k).inj.run then s.injStart k true else s
        if (s.conv k).reg.pend && !(s.conv k).reg.run then s.regStart k else s
    let s := s.adcKick k
    match s.adc.reload with
    | none => s
    | some r =>
      if !bitOf r.left k then s
      else
        { s with adc := { s.adc with reload := some { r with
          left := r.left - 2 ^ k, pass := r.pass + (if ok then 2 ^ k else 0),
          fail := r.fail + (if ok then 0 else 2 ^ k) } } }

/-- ADC_REFCTL.EN bits set: buffers start; an EN bit that is set already has no effect (R195). -/
def refEnable (s : State) (w : Nat) : State :=
  let new := (List.range 8).filter fun p => bitOf w p && !s.flag (fREF_EN p)
  let at_ := new.foldl (fun t p => tabSet (fun _ => 0) t p s.grid.tick) s.adc.refAt
  ({ s with adc := { s.adc with refAt := at_ } }).wr aADC_REFCTL ((s.rd aADC_REFCTL).toNat ||| w % 256)

/-- A buffer becomes ready 6,250 ticks after its EN bit was set (R195). -/
def refReadyTick (s : State) (p : Nat) : Bool :=
  s.flag (fREF_EN p) && s.grid.tick == tabGet (fun _ => 0) s.adc.refAt p + 6250

-- The check frame and the schedules of grid triggers (R201, R204, R205)

/-- The tick of the check frame at which pair p holds CHK: 500 + 3,000 p of 25,000, counted from the lamp epoch. -/
def roundTick (s : State) (p : Nat) : Bool :=
  decide (4 ≤ s.get fPWR_PHASE ∧ s.dim.epoch ≤ s.grid.tick) && (s.grid.tick - s.dim.epoch) % 25000 == 500 + 3000 * p

/-- A tick of a converter's schedule: GPHASE + j GPER after the lamp epoch, or after the first rule period of the commit that
restarted the schedule. -/
def gridTick (s : State) (k : Nat) : Bool :=
  let base := (tabGet (fun _ => none) s.adc.gridAt k).getD s.dim.epoch + bitsOf (s.rd (aADC_SEQCFG k 3)).toNat 0 22
  decide (4 ≤ s.get fPWR_PHASE ∧ base ≤ s.grid.tick)
    && (s.grid.tick - base) % bitsOf (s.rd (aADC_SEQCFG k 2)).toNat 0 22 == 0

/-- The sequencer settings of a converter: triggers, lengths, schedule and slots. -/
def seqWords (k : Nat) : List Nat :=
  (List.range 4).map (aADC_SEQCFG k) ++ (List.range 16).map (aADC_SLOT k) ++ (List.range 2).map (aADC_INJSLOT k)

/-- A commit that changes a converter's sequencer settings restarts its schedule at the commit's first rule period, this tick; one
before the rule periods run, at their first (R204; DEDUCED, log entry 87: every change of the settings restarts it). -/
def seqRestart (s old : State) (k : Nat) : State :=
  if (seqWords k).any fun a => s.rd a != old.rd a then
    { s with adc := { s.adc with gridAt := tabSet (fun _ => none) s.adc.gridAt k (some s.grid.tick) } }
  else s

-- The sample of slot 0 (R198, R214, R215)

/-- Tick 0 of a slot-0 period: BST_GATE's period, the place of the boost sampling, what the slot latches, and BST_VFB held and its
conversion started on the converter that carries it, unless the pair has failed (R198, R207). -/
def boostStart (s : State) : State :=
  let s := if s.boost.cyc = s.grid.tick then s else s.gatePeriod
  let s := (s.placeBoost.boostPass).loopStart 0
  let s := { s with adc := { s.adc with boostAt := s.grid.tick } }
  if s.pairFault 7 then s
  else
    (s.setConv s.boostConv { s.conv s.boostConv with boost := true }).adcKick s.boostConv

end State

-- Commands

/-- LOOP_PERIOD_START (R214). -/
def execLoopPeriodStart (n : Fin 32) (s : State) : Res :=
  if !s.loopDue n.val then .next s else if n.val = 0 then .next s.boostStart else .next (s.loopStart n.val)

/-- CHANNEL_HOLD: the on-phase or the off-phase hold of a channel's period, or of a column's scan slot, at its instant and once;
`fail` is the comparator's reading, used in comparator-only supervision (R125, R149, R158). -/
def execChannelHold (c : Fin 128) (on fail : Bool) (s : State) : Res :=
  if !s.holdTick c.val on || !s.untaken (State.holdKey c.val on) then .next s
  else
    let s := s.takeEvent (State.holdKey c.val on)
    if s.scanned (c.val / 16) then .next (s.ledHold c.val on fail) else .next (s.chanHold c.val on fail)

/-- CONVERSION_COMPLETE of a converter with the raw code (R194, R197). -/
def execConversionComplete (k : Fin 16) (raw : BitVec 12) (s : State) : Res := .next (s.convDone k.val raw.toNat)

/-- ADC_GRID_TRIGGER of a converter, on a tick of its schedule (R201). -/
def execAdcGridTrigger (k : Fin 16) (s : State) : Res :=
  if s.gridTick k.val then .next (s.triggerBy k.val [5]) else .next s

/-- ADC_TRIG_EDGE: an accepted edge takes the stamp of its raw edge, which lay `ago` steps of 2 ns before, raises source 60,
triggers, and fires a PIN capture (R201, R256, R359, R430). -/
def execAdcTrigEdge (rise : Bool) (ago : BitVec 16) (s : State) : Res :=
  let s := { s with adc := { s.adc with edge := s.stampBack ago.toNat } }
  let s := s.raise srcADC_TRIG
  let s : State := (List.range 16).foldl (fun s k => s.triggerBy k (if rise then [2, 4] else [3, 4])) s
  if s.get fCAP_STATE = 1 ∧ s.cap.trig = 3 then .next (s.capTrigger false s.cap.post) else .next s

/-- ADC_SOFT_TRIGGER_REG: the bits of ADC_SWTRIG.REG (R201). -/
def execAdcSoftTriggerReg (m : BitVec 16) (s : State) : Res :=
  .next ((List.range 16).foldl (fun s k =>
    if m.getLsbD k && s.regTrigOf k == 1 then s.trigger k false else s) s)

/-- ADC_SOFT_TRIGGER_INJ: the bits of ADC_SWTRIG.INJ (R201). -/
def execAdcSoftTriggerInj (m : BitVec 16) (s : State) : Res :=
  .next ((List.range 16).foldl (fun s k =>
    if m.getLsbD k && s.injTrigOf k == 1 then s.trigger k true else s) s)

/-- ADC_REFCTL_WRITE (R195). -/
def execAdcRefctlWrite (w : BitVec 32) (s : State) : Res := .next (s.refEnable w.toNat)

/-- REFBUF_READY: 250 µs after its EN a buffer is ready; REFBUF7 starts the boost soft-start of Dawn (R195, R88). -/
def execRefbufReady (p : Fin 8) (s : State) : Res :=
  if !s.refReadyTick p.val then .next s
  else
    let s := (s.putFlag (State.fREF_RDY p.val) true).putFlag (State.fADC p.val 0) true
    if p.val = 7 ∧ s.get fBST_MODE = 0 then .next s.softStart else .next s

/-- HOUSEKEEPING_ROUND of a pair, at its tick of the check frame (R205). -/
def execHousekeepingRound (p : Fin 8) (s : State) : Res :=
  if s.roundTick p.val then .next (s.pairRound p.val) else .next s

/-- PAIR_ROUND_EVAL (R206). -/
def execPairRoundEval (p : Fin 8) (s : State) : Res := .next (s.pairEval p.val)

/-- TRIM_RELOAD_START of a converter (R196). -/
def execTrimReloadStart (k : Fin 16) (s : State) : Res := .next (s.reloadStart k.val)

end Sys2Proof.Machine
end

