-- ==== Sys2Proof/Machine/Sto.lean ====
section
/-! DEFINITION. Safe torque off (R279-R302): inputs and their windows, test-pulse lines, discrepancy, pairs, seal, the safety
cycle with the output states, refresh words, off-pulses and read-back. -/

namespace Sys2Proof.Machine

def defIn : SafeIn :=
  ⟨false, 0, false, false, false, false, false, 0, 0, 0, false, 0, false, false, false, ⟨0, 0, 0⟩, ⟨0, 0, 0⟩, ⟨0, 0, 0⟩⟩
def defSPair : SafePair := ⟨0, false, false, false⟩
/-- A line before the safety epoch: the drive die holds it low (R280). -/
def defLine : TpLine := ⟨true, 0, false, 0, 0, 0, false, 0⟩
def defOut : StoOut :=
  { on := false, code := 0, acc := 0, word := none, pulse := false, width := 0, discard := false, again := false, hi := false,
    lo := false, cross := 0, other := false, fHi := false, fLo := false, fCross := 0, failed := false, miss := 0,
    skip := false, fault := 0, start := 0, since := 0, await := false }

/-- Fault classes of a pair (STO_PFLT). -/
def pcDISCREPANCY : Nat := 1
def pcCROSS : Nat := 2
def pcSHORT24 : Nat := 3
def pcTP : Nat := 4
def pcMISS : Nat := 5

/-- The test-pulse line that feeds a channel (R282). -/
def lineOf (c : Nat) : Nat := c / 8 * 2 + c % 2

/-- Discrepancy count limit N for a class, by SAFE_CFG.DISC_T (R286, R291). -/
def discLimit (cls t : Nat) : Nat := match cls with | 0 => 200 | 1 => 1000 | 2 => 5000 | _ => t

/-- The seal is valid (R293). -/
def sealValid (w : Nat) : Bool :=
  bitsOf w 8 8 == 255 - bitsOf w 0 8 && !bitOf w 7 && decide (bitsOf w 0 4 < 6)

/-- The pairs that demand an output by MAP (R292). -/
def mapPairs (map o : Nat) : List Nat :=
  let twos := [o / 2 * 2, o / 2 * 2 + 1]
  match map with
  | 0 => [o]
  | 1 => if o < 4 then [0, 1, 2, 3] else [4, 5, 6, 7]
  | 2 => [0, 1, 2, 3, 4, 5, 6, 7]
  | 3 => [0, o]
  | 4 => twos
  | _ => 0 :: twos

namespace State

def sin (s : State) (c : Nat) : SafeIn := tabGet (fun _ => defIn) s.sto.ins c
def setSin (s : State) (c : Nat) (x : SafeIn) : State :=
  { s with sto := { s.sto with ins := tabSet (fun _ => defIn) s.sto.ins c x } }
def spair (s : State) (p : Nat) : SafePair := tabGet (fun _ => defSPair) s.sto.pairs p
def setSpair (s : State) (p : Nat) (x : SafePair) : State :=
  { s with sto := { s.sto with pairs := tabSet (fun _ => defSPair) s.sto.pairs p x } }
def tpLine (s : State) (n : Nat) : TpLine := tabGet (fun _ => defLine) s.sto.lines n
def setLine (s : State) (n : Nat) (x : TpLine) : State :=
  { s with sto := { s.sto with lines := tabSet (fun _ => defLine) s.sto.lines n x } }
def out (s : State) (o : Nat) : StoOut := tabGet (fun _ => defOut) s.sto.outs o
def setOut (s : State) (o : Nat) (x : StoOut) : State :=
  { s with sto := { s.sto with outs := tabSet (fun _ => defOut) s.sto.outs o x } }

def fOPULSE (o : Nat) : Fld := ⟨aSTO_OSTAT, 4 * o + 3, 1⟩
def fOSTATE (o : Nat) : Fld := ⟨aSTO_OSTAT, 4 * o, 3⟩
def fPSTATE (p : Nat) : Fld := ⟨aSTO_PSTAT, 4 * p, 2⟩
def fCLOSED (c : Nat) : Fld := ⟨aSTO_PSTAT, 4 * (c / 2) + 2 + c % 2, 1⟩
def fOCLASS (o : Nat) : Fld := ⟨aSTO_OFLT, 4 * o, 4⟩
def fPCLASS (p : Nat) : Fld := ⟨aSTO_PFLT, 4 * p, 4⟩
def fSEAL_LATCHED : Fld := ⟨aSTO_SEAL, 16, 16⟩
def fSEAL_LAST : Fld := ⟨aSTO_SEAL, 0, 16⟩
def fSTO_VALID : Fld := ⟨aSTO_CFGSTAT, 31, 1⟩
def fSTO_CHANGED : Fld := ⟨aSTO_CFGSTAT, 30, 1⟩
def fSTO_N : Fld := ⟨aSTO_CFGSTAT, 15, 15⟩
def fSRST_STUCK : Fld := ⟨aSTO_CFGSTAT, 8, 1⟩
def fSRST_LEVEL : Fld := ⟨aSTO_CFGSTAT, 7, 1⟩
def fSTO_RESTART : Fld := ⟨aSTO_CFGSTAT, 6, 1⟩
def fSTO_DISC : Fld := ⟨aSTO_CFGSTAT, 4, 2⟩
def fSTO_MAP : Fld := ⟨aSTO_CFGSTAT, 0, 4⟩
def fDISCNT (p : Nat) : Fld := ⟨aSTO_DISC (p / 2), 16 * (p % 2), 16⟩
def fTP_FAULT (n : Nat) : Fld := ⟨aSTO_TPSTAT, 4 * n + 1, 1⟩
def fTP_LEVEL (n : Nat) : Fld := ⟨aSTO_TPSTAT, 4 * n, 1⟩
def fDISC_T : Fld := ⟨aSAFE_CFG, 16, 15⟩
def fSTO_PW : Fld := ⟨aSAFE_CFG, 0, 8⟩
def fSWSTOP (o : Nat) : Fld := ⟨aSAFE_SWSTOP, o, 1⟩

/-- The safety process runs: the safety epoch has passed and SFC is not lost (R280, R301). -/
def sfcRuns (s : State) : Bool := s.sto.epoch.isSome && s.pwr.good && !s.sto.sfcLost

/-- Ticks since the safety epoch, from which every schedule of the chapter is counted (R280). -/
def sinceEpoch (s : State) : Nat := s.grid.tick - s.sto.epoch.getD 0

/-- An event of a schedule of the safety process, `first` ticks after the epoch and every `period` ticks from then on, falls on this tick
(R280, R283, R291, R295). -/
def stoDue (s : State) (first period : Nat) : Bool :=
  s.sfcRuns && decide (first ≤ s.sinceEpoch) && (s.sinceEpoch - first) % period == 0

/-- An event of such a schedule falls 25,000 ticks from now: its TEST commit is due (R37, R47). -/
def stoSoon (s : State) (first period : Nat) : Bool :=
  s.sfcRuns && decide (first ≤ s.sinceEpoch + 25000) && (s.sinceEpoch + 25000 - first) % period == 0

-- Pairs (R286-R290)

/-- The SAFETY observation of a pair (R168). -/
def pairObs (s : State) (p : Nat) : State :=
  let st := s.get (fPSTATE p)
  s.obsFeed 4 p (s.get (fCLOSED (2 * p)) + 2 * s.get (fCLOSED (2 * p + 1)) + 4 * boolNat (st == 1)
    + 8 * boolNat (st == 2 || st == 3) : Nat)

/-- The SAFETY observation of an output, written by SFC: 1 while its high side is switched on, the off-pulses of R295 included
(R168; DEDUCED, log entry 78). -/
def outObs (s : State) (o : Nat) : State :=
  if s.sfcRuns then s.obsFeed 4 (8 + o) (boolNat (s.out o).on : Nat) else s

/-- Fault group 9 follows the pairs FAULTED or CLEARING (R432). -/
def pairGroup (s : State) : State :=
  s.fltFollow 9 evSAFE_PAIR_FAULT ((List.range 8).any fun p => 2 ≤ s.get (fPSTATE p))

/-- A pair's state changes; exits from CLOSED are counted (R289, R415). -/
def pairTo (s : State) (p st : Nat) : State :=
  let was := s.get (fPSTATE p)
  if was = st then s
  else
    let s := s.put (fPSTATE p) st
    let s := if was = 1 then s.lifeCount (lifePair p) 8 1 else s
    let s := if st = 1 then s.put (fPCLASS p) 0 else s
    (s.pairObs p).pairGroup

/-- A fault of a class is confirmed on a pair: latched, replacing an earlier class, logged and raised (R289, R290). -/
def pairFaultOn (s : State) (p cls c : Nat) : State :=
  let s := s.put (fPCLASS p) cls
  let s := s.setSpair p { s.spair p with both := false, back := false }
  let s := (s.logEv evSAFE_PAIR_FAULT kPAIR p [cls, c]).raise srcSTO
  s.pairTo p 2

/-- A channel takes a new recognised level (R284). In CLEARING an opening sends the pair back, and from the second closing on each
channel must pass its next own window (R290). -/
def sinLevel (s : State) (c : Nat) (closed : Bool) : State :=
  let p := c / 2
  let s := s.setSin c { s.sin c with level := closed, run := 0, stamp := (s.sin c).raw }
  let s := s.putFlag (fCLOSED c) closed
  let q := if c % 2 = 0 then c + 1 else c - 1
  let s := if s.get (fPSTATE p) ≠ 3 then s
    else if !closed then s.setSpair p { s.spair p with back := true }
    else if (s.sin q).level then
      let s := s.setSpair p { s.spair p with both := true }
      (s.setSin c { s.sin c with need := true }).setSin q { s.sin q with need := true }
    else s
  s.pairObs p

/-- A disagreement that ends without a fault counts in its near-miss bin (R287). -/
def nearMiss (s : State) (p c n : Nat) : State :=
  if 2 * c < n then s
  else s.lifeCount (lifePair p) (if 4 * c < 3 * n then 0 else if 10 * c < 9 * n then 2 else 4) 1

/-- One 100 µs sample of a pair (R286-R288, R290). -/
def discSample (s : State) (p : Nat) : State :=
  let x := s.spair p
  let a := (s.sin (2 * p)).level
  let b := (s.sin (2 * p + 1)).level
  let n := s.get fSTO_N
  if a == b then
    let s := if x.count = 0 ∨ x.past then s else s.nearMiss p x.count n
    (s.setSpair p { x with count := 0, past := false }).put (fDISCNT p) 0
  else
    let c := if x.count < 65535 then x.count + 1 else 65535
    let s := (s.setSpair p { x with count := c, past := x.past || decide (n ≤ c) }).put (fDISCNT p) c
    -- a lowered N that the count has already reached faults at this sample too (R288)
    if c < n ∨ x.past then s
    else if s.get (fPSTATE p) = 3 then s.setSpair p { s.spair p with back := true }
    else s.pairFaultOn p pcDISCREPANCY (2 * p + boolNat b)

-- Inputs (R284)

/-- A channel's sample outside a window's hold: 30 equal samples give a new level (R284). -/
def sinFilter (s : State) (c : Nat) (l : Bool) : State :=
  let x := s.sin c
  if l == x.level then s.setSin c { x with run := 0, last := l }
  else if x.run + 1 < 30 then s.setSin c { x with run := x.run + 1, last := l }
  else
    let s := s.setSin c { x with last := l }
    s.sinLevel c l

/-- What a channel records of a window in progress, `d` ticks after its fall (R284). -/
def winRecord (x : SafeIn) (l : Bool) (d : Nat) : SafeIn :=
  let inPat := decide (2500 ≤ d ∧ d ≤ 9750)
  let low := if l then 0 else x.curLow + 1
  { x with
    pat := x.pat && (!inPat || !l), seen := x.seen || inPat, curLow := low,
    maxLow := if x.maxLow < low then low else x.maxLow, hiRun := if l then x.hiRun + 1 else 0, last := l }

/-- A sample at the other level begins a run: its raw edge, `ago` steps of 2 ns before, was stamped; the fall of a low run of 30
samples in a window stays (R256, R284). -/
def sinEdge (s : State) (c : Nat) (l : Bool) (ago : Nat) : State :=
  let x := s.sin c
  if l == x.last then s
  else s.setSin c { x with raw := s.stampBack ago, fall := if l || decide (30 ≤ x.maxLow) then x.fall else s.stampBack ago }

/-- One sample of one safety input (R284). In its own window a channel is held, but for a run that began before the window and goes on
counting, so that every opening is recognised in time (R284, R285). -/
def sinSample (s : State) (c : Nat) (l : Bool) (ago : Nat) : State :=
  let s := s.sinEdge c l ago
  match s.sto.win with
  | none => s.sinFilter c l
  | some (n, w) =>
    let d := s.grid.tick - w
    let x := s.sin c
    let start := lineOf c != n && !x.held && x.before && x.level && !l && x.run == 0 && decide (d ≤ 2500)
    let s := s.setSin c (winRecord { x with held := x.held || start, carry := x.carry && l != x.level } l d)
    if (s.sin c).carry then s.sinFilter c l
    else if lineOf c = n ∨ (s.sin c).held then
      let y := s.sin c
      s.setSin c { y with run := if l == y.level then 0 else y.run + 1 }
    else s.sinFilter c l

/-- A suspect arises on a channel; in CLEARING it sends the pair back (R290). -/
def suspectBack (s : State) (c : Nat) : State :=
  let p := c / 2
  if s.get (fPSTATE p) = 3 then s.setSpair p { s.spair p with back := true } else s

/-- The pattern of a window was met (R284). -/
def winPattern (x : SafeIn) : Bool := x.pat && x.seen && x.last

/-- A channel's own window is judged (R284, R289, R290). A suspect that this window does not confirm is dropped: only the next window
of the line can. -/
def judgeOwn (s : State) (c : Nat) : State :=
  let x := s.sin c
  if !x.before || !x.level then s.setSin c { x with sus24 := false }
  else if winPattern x then s.setSin c { x with sus24 := false, okWin := true, need := false }
  else if x.last then
    let s1 := s.setSin c { x with sus24 := true, okWin := false }
    if x.sus24 then s1.pairFaultOn (c / 2) pcSHORT24 c else s1.suspectBack c
  else (s.setSin c { x with sus24 := false }).sinLevel c false

/-- A foreign window of line n is judged for a channel (R284). -/
def judgeForeign (s : State) (c n : Nat) : State :=
  let x := s.sin c
  let s0 := s.setSin c { x with held := false, susX := withBits x.susX n 1 0 }
  if !x.before || !x.held then s0
  else if winPattern x then
    let s1 := s.setSin c { x with held := false, run := 0, susX := withBits x.susX n 1 1 }
    if bitOf x.susX n then s1.pairFaultOn (c / 2) pcCROSS c else s1.suspectBack c
  else if !x.last then s0.sinLevel c false
  else if 30 ≤ x.maxLow then
    let s1 := s0.sinLevel c false
    s1.setSin c { s1.sin c with run := x.hiRun, stamp := x.fall }
  else s0.setSin c { s0.sin c with run := 0 }

/-- The window of line n is judged for every channel at W + 15,000 (R284). -/
def winJudge (s : State) (n : Nat) : State :=
  match s.sto.win with
  | some (m, w) =>
    if m ≠ n ∨ s.grid.tick < w + 15000 then s
    else
      let s := (List.range 16).foldl (fun s c => if lineOf c = n then s.judgeOwn c else s.judgeForeign c n) s
      { s with sto := { s.sto with win := none } }
  | none => s

/-- SRST_N sampled and filtered like a SIN input, without windows (R299). -/
def srstSample (s : State) (high : Bool) : State :=
  let o := s.sto
  if high == o.srstHigh then { s with sto := { o with srstRun := 0 } }
  else if o.srstRun + 1 < 30 then { s with sto := { o with srstRun := o.srstRun + 1 } }
  else if high then
    let d := s.grid.tick - o.srstLow
    let op := !o.srstIgnore && decide (1250000 ≤ d ∧ d ≤ 125000000)
    let s := { s with sto := { o with srstHigh := true, srstRun := 0, srstIgnore := false, srstOp := o.srstOp || op } }
    (s.putFlag fSRST_LEVEL true).putFlag fSRST_STUCK false
  else
    let s := { s with sto := { o with srstHigh := false, srstRun := 0, srstLow := s.grid.tick } }
    s.putFlag fSRST_LEVEL false

-- Test-pulse lines (R283, R47)

/-- A line fault: FAULT of the line, and every pair fed from it FAULTED (R283). -/
def lineFault (s : State) (n cls : Nat) : State :=
  let s := s.putFlag (fTP_FAULT n) true
  (List.range 4).foldl (fun s i =>
    let p := n / 2 * 4 + i
    s.pairFaultOn p cls (2 * p + n % 2)) s

/-- A failed test of a line: the second in a row confirms TP_FAULT (R283). -/
def lineFail (s : State) (n : Nat) : State :=
  let x := s.tpLine n
  let s := s.setLine n { x with fails := x.fails + 1, passes := 0 }
  if x.fails = 1 then s.lineFault n pcTP else s

/-- A line has read below 15 V for 1 ms outside its window, and for 1 ms since the failed test before (R283); it sources 24 V from the
safety epoch on (R280). -/
def lineLow (s : State) (n : Nat) : State :=
  let x := s.tpLine n
  let t := s.grid.tick
  if x.low || decide (t < s.sto.epoch.getD 0 + 25000) || decide (x.at_ ≠ 0 ∧ t < x.at_ + 35000) || decide (x.lowAt ≠ 0 ∧ t < x.lowAt + 25000) then s
  else ((s.putFlag (fTP_LEVEL n) false).setLine n { x with lowAt := t }).lineFail n

/-- A window whose read-back passed: the count restarts, and the second in a row ends a line fault (R283). -/
def linePass (s : State) (n : Nat) : State :=
  let x := s.tpLine n
  let s := s.setLine n { x with fails := 0, passes := x.passes + 1 }
  if 1 ≤ x.passes then s.putFlag (fTP_FAULT n) false else s

/-- The window of a line starts, unless its TEST commit was missed (R283, R284, R47). -/
def windowStart (s : State) (n : Nat) : State :=
  let x := s.tpLine n
  if !s.stoDue (312500 * n) 1250000 then s
  else if x.skip then s.setLine n { x with skip := false, passes := 0 }
  else
    let s := s.setLine n { x with low := true, at_ := s.grid.tick, fallOk := false }
    let s := { s with sto := { s.sto with win := some (n, s.grid.tick) } }
    (List.range 16).foldl (fun s c =>
      let y := s.sin c
      s.setSin c { y with
        before := y.level, held := false, carry := y.run != 0, pat := true, seen := false, maxLow := 0, curLow := 0, hiRun := 0 }) s

/-- The line rises 10,000 ticks after its fall (R283). -/
def windowEnd (s : State) (n : Nat) : State :=
  let x := s.tpLine n
  if !x.low || decide (s.grid.tick < x.at_ + 10000) then s else s.setLine n { x with low := false }

/-- The read-back of a line 1,500 ticks after its fall or its rise, in a window that was issued and is not judged yet (R283). -/
def readbackDue (s : State) (n : Nat) (rise : Bool) : Bool :=
  let x := s.tpLine n
  match s.sto.win with
  | some (m, w) => m == n && (x.low != rise) && decide (w + (if rise then 11500 else 1500) ≤ s.grid.tick)
  | none => false

/-- The line sources 24 V and no window of it is in progress. -/
def lineSources (s : State) (n : Nat) : Bool := !(s.tpLine n).low && (s.sto.win.map (·.1)) != some n

/-- The read-back of a line; outside its windows it only shows LEVEL (R283). -/
def lineReadback (s : State) (n : Nat) (rise below5 above15 : Bool) : State :=
  let x := s.tpLine n
  if !s.readbackDue n rise then (if s.lineSources n then s.putFlag (fTP_LEVEL n) above15 else s)
  else
  let s := s.putFlag (fTP_LEVEL n) above15
  if !rise then s.setLine n { x with fallOk := below5 }
  else if x.fallOk && above15 then s.linePass n else s.lineFail n

-- Seal (R291-R293)

/-- Row r of the matrix is read at the end of its millisecond: in D1, and 1, 2, 3 and 4 ms into each second of the safety process
(R291). -/
def sealDue (s : State) (r : Nat) : Bool :=
  if s.sto.epoch.isSome then s.stoDue (25000 * (r + 1)) 25000000 else s.pstate == 0 && s.get fPWR_PHASE == 1

/-- One row of the matrix joins the word (R291). -/
def sealRow (s : State) (r bits : Nat) : State :=
  if !s.sealDue r then s else
  let s := { s with sto := { s.sto with sealWord := withBits s.sto.sealWord (4 * r) 4 bits } }
  if r = 3 ∧ s.sto.epoch.isSome then
    ({ s with sto := { s.sto with reread := true } }).put fSEAL_LAST s.sto.sealWord
  else s

/-- N follows the seal's class and SAFE_CFG.DISC_T (R286, R288). -/
def discN (s : State) : State := s.put fSTO_N (discLimit (s.get fSTO_DISC) (s.get fDISC_T))

/-- The seal read in D1 is latched; an invalid one is logged (R291, R293). -/
def sealLatch (s : State) : State :=
  let w := s.sto.sealWord
  let s := s.put fSEAL_LATCHED w
  let s := (((s.putFlag fSTO_VALID (sealValid w)).putFlag fSTO_RESTART (bitOf w 6)).put fSTO_DISC (bitsOf w 4 2)).put
    fSTO_MAP (bitsOf w 0 4)
  let s := s.discN
  if sealValid w then s else s.logFw evSEAL_INVALID kSTO 0 [w]

-- Outputs (R294-R298)

/-- Fault group 10 follows the outputs in FAULT or LOCKED (R432). -/
def outGroup (s : State) (cls : Nat) : State :=
  s.fltFollow 10 cls ((List.range 8).any fun o => 4 ≤ s.get (fOSTATE o) || (s.out o).fault != 0)

/-- An output changes state: observation, STO_STATE, source 47; RUN to STOP is counted (R298). -/
def outTo (s : State) (o st : Nat) : State :=
  let was := s.get (fOSTATE o)
  if was = st then s
  else
    let s := s.put (fOSTATE o) st
    let s := if was = 3 then
        s.setOut o { s.out o with discard := (s.out o).pulse || (s.out o).await, failed := false, again := false }
      else s
    let s := if was = 3 ∧ st = 1 then (s.bump aSTO_DEMCNT).lifeCount (lifeOut o) 0 1 else s
    (s.logEv evSTO_STATE kSTO o [was, st]).raise srcSTO

/-- A fault class is confirmed on an output: logged, raised, held by Nightwatch; the next cycle enters FAULT (R296). -/
def outFault (s : State) (o cls : Nat) : State :=
  if s.get (fOSTATE o) = 4 ∨ s.get (fOSTATE o) = 5 ∨ (s.out o).fault ≠ 0 then s
  else
    let s := s.setOut o { s.out o with fault := cls }
    let s := (s.put (fOCLASS o) cls).putFlag (fOPULSE o) ((s.out o).pulse)
    let s := { s with sto := { s.sto with nwFault := tabSet (fun _ => 0) s.sto.nwFault o cls } }
    ((s.logEv evSTO_OUT_FAULT kSTO o [cls]).raise srcSTO).outGroup evSTO_OUT_FAULT

/-- An output is demanded off (R294). -/
def demanded (s : State) (o : Nat) : Bool :=
  ((mapPairs (s.get fSTO_MAP) o).any fun p => s.get (fPSTATE p) != 1) || s.flag (fSWSTOP o)
    || s.get (fOSTATE o) == 4 || s.get (fOSTATE o) == 5 || s.midnight

/-- The state of a pair by this cycle (R289, R290). -/
def pairCycle (s : State) (p : Nat) : State :=
  let x := s.spair p
  let a := s.sin (2 * p)
  let b := s.sin (2 * p + 1)
  match s.get (fPSTATE p) with
  | 2 =>
    if !a.level && !b.level then (s.setSpair p { x with both := false, back := false }).pairTo p 3 else s
  | 3 =>
    if x.back then (s.setSpair p { x with both := false, back := false }).pairTo p 2
    else if x.both && !a.need && !b.need then (s.setSpair p { x with both := false }).pairTo p 1
    else s
  | _ => s.pairTo p (boolNat (a.level && b.level && a.okWin && b.okWin))

/-- The state of an output by this cycle, in the order of R298 from the bottom up: at the epoch LOCKED, for an invalid seal too, goes
before a held FAULT. -/
def outCycle (s : State) (epoch changed : Bool) (o : Nat) : State :=
  let st := s.get (fOSTATE o)
  let locked := tabGet (fun _ => false) s.sto.nwLocked o
  let fault := tabGet (fun _ => 0) s.sto.nwFault o
  let dem := s.demanded o
  if st ≠ 4 ∧ (changed || (epoch && (locked || !s.flag fSTO_VALID))) then
    ({ s with sto := { s.sto with nwLocked := tabSet (fun _ => false) s.sto.nwLocked o true } }).outTo o 5
  else if st < 4 ∧ fault ≠ 0 then (s.put (fOCLASS o) fault).outTo o 4
  else if st = 0 then (if epoch then s.outTo o 1 else s)
  else if st = 2 ∨ st = 3 then
    (if dem then s.outTo o 1 else if st = 2 ∧ s.sto.srstOp then s.outTo o 3 else s)
  else if st = 1 ∧ !dem then s.outTo o (if s.flag fSTO_RESTART then 2 else 3)
  else s

/-- The ON and OFF words of a cycle (R280, R281). The code of a word is the one after the last that the output accepted; the rule does
not say how SFC forms it (DESIGN CHOICE, log entry 28). -/
def sendWords (s : State) : State :=
  (List.range 8).foldl (fun s o =>
    let x := s.out o
    s.setOut o { x with word := some (s.get (fOSTATE o) == 3 && x.fault == 0, (x.code + 1) % 256) }) s

/-- One safety cycle of SFC (R280, R289-R298). In Midnight the outputs keep their states (R301). -/
def safetyCycle (s : State) (epoch : Bool) : State :=
  if !s.sfcRuns then s
  else
    let changed := s.sto.reread && s.get fSEAL_LAST != s.get fSEAL_LATCHED
    let s := { s with sto := { s.sto with reread := false } }
    let s := (List.range 8).foldl pairCycle s
    let s := if changed then
        (s.putFlag fSTO_CHANGED true).logEv evSEAL_CHANGED kSTO 0 [s.get fSEAL_LATCHED, s.get fSEAL_LAST]
      else s
    let s := if s.midnight then s
      else (List.range 8).foldl (fun s o => s.outCycle epoch changed o) s
    let s := (List.range 8).foldl (fun s o => s.setOut o { s.out o with fault := 0 }) (s.outGroup evSTO_OUT_FAULT)
    let s := { s with sto := { s.sto with srstOp := false } }
    let s := (List.range 8).foldl pairObs s
    ((List.range 8).foldl outObs s).sendWords

/-- The next safety cycle falls due: 1 ms after the one before, 4 ms in Dusk (R280). -/
def cycleDue (s : State) : Bool :=
  s.sfcRuns && decide (s.sto.cycleAt + (if s.inDusk then 100000 else 25000) ≤ s.grid.tick)

/-- The test-pulse lines rise at the safety epoch: each sources 24 V and reads so until a read-back says otherwise (R280, R283). -/
def linesRise (s : State) : State :=
  (List.range 4).foldl (fun s n => (s.setLine n { s.tpLine n with low := false }).putFlag (fTP_LEVEL n) true) s

/-- The safety epoch: the schedules start and the first cycle puts the outputs into their states (R280, R293, R298). A low of SRST_N
that is there already counts from here (R299). -/
def safetyEpoch (s : State) : State :=
  let s := { s with sto := { s.sto with
    epoch := some s.grid.tick, srstIgnore := !s.sto.srstHigh, srstLow := s.grid.tick, cycleAt := s.grid.tick } }
  s.linesRise.safetyCycle true

/-- An output's high side is switched on or off on the drive die, and SFC writes the change to the slots of the output (R281,
R168). -/
def outSwitch (s : State) (o : Nat) (on : Bool) : State :=
  let was := (s.out o).on
  if was == on then s else (s.setOut o { s.out o with on := on, since := s.grid.tick }).outObs o

/-- An output's high side goes off on the drive die (R281). -/
def outOff (s : State) (o : Nat) : State := s.outSwitch o false

/-- A refresh word reaches the drive die; `flip` is what a fault did to its code, which must be the one after the last accepted (R281). In Midnight every output is
off whatever SFC sends (R301). -/
def refreshWord (s : State) (o flip : Nat) : State :=
  let x := s.out o
  match x.word with
  | none => s
  | some (on, code) =>
    let ok := on && flip == 0 && code == (x.code + 1) % 256
    let s := s.setOut o { x with word := none, code := if ok then code else x.code }
    if s.midnight ∨ !ok then s.outOff o
    else (s.setOut o { s.out o with acc := s.grid.tick }).outSwitch o true

/-- 5 ms without an accepted ON word (R281, R432). -/
def refreshTimeout (s : State) (o : Nat) : State :=
  let x := s.out o
  if x.on && decide (x.acc + 125000 ≤ s.grid.tick) then
    ((s.outOff o).logEv evSTO_REFRESH kSTO o []).fltSet 11 evSTO_REFRESH
  else s

/-- The output conducts: switched on and not in its off-pulse (R279, R295). -/
def stoLevel (s : State) (o : Nat) : Bool := (s.out o).on && !(s.out o).pulse

/-- An off-pulse of an output in RUN starts (R295), in Midnight of none (R301); a missed TEST commit leaves it out (R47). A repeat pulse left out so takes the failure of the pulse
before it along: the next scheduled pulse is judged as a first one (DESIGN CHOICE, log entry 77: the rule does not say). -/
def pulseStart (s : State) (o : Nat) (again : Bool) : State :=
  let x := s.out o
  if !(if again then s.sfcRuns && x.failed && x.start + 250000 == s.grid.tick else s.stoDue (1562500 * o) 12500000) then s
  else if x.skip then s.setOut o { x with skip := false, failed := false }
  else if s.get (fOSTATE o) ≠ 3 ∨ s.midnight then s
  else
    let s := s.setOut o { x with
      pulse := true, width := 250 * s.get fSTO_PW, discard := false, again := again, hi := false, lo := false,
      cross := 0, other := false, start := s.grid.tick, since := s.grid.tick, await := true }
    s.putFlag (fOPULSE o) true

/-- The off-pulse ends and the high side turns on if it is still commanded (R295, R297). -/
def pulseEnd (s : State) (o : Nat) : State :=
  (s.setOut o { s.out o with pulse := false, since := if (s.out o).pulse then s.grid.tick else (s.out o).since }).putFlag
    (fOPULSE o) false

/-- The width of the off-pulse has passed (R295). -/
def pulseOver (s : State) (o : Nat) : State :=
  let x := s.out o
  if !x.pulse || decide (s.grid.tick < x.start + x.width) then s else s.pulseEnd o

/-- The other outputs in RUN that read below 15 V. -/
def othersLow (s : State) (o above15 : Nat) : Nat :=
  sumList ((List.range 8).map fun q =>
    if q != o && s.get (fOSTATE q) == 3 && !bitOf above15 q then 2 ^ q else 0)

/-- The class that a second failed pulse confirms (R296): what both pulses showed, CROSS first, which both outputs of the pair take. Two
pulses that failed in different ways confirm the fault too (R295); that the class is then the one the second showed is DESIGN
CHOICE (log entry 27). -/
def pulseClass (x : StoOut) : Nat × Nat :=
  let both := x.cross &&& x.fCross
  if both ≠ 0 then (3, both)
  else if x.hi && x.fHi then (1, 0)
  else if x.lo && x.fLo then (2, 0)
  else if x.cross ≠ 0 then (3, x.cross)
  else if x.hi then (1, 0)
  else if x.lo then (2, 0)
  else (0, 0)

/-- The pulse is judged: passed, failed once, or a confirmed fault (R295-R297). -/
def pulseJudge (s : State) (o : Nat) : State :=
  let x := s.out o
  if x.discard then s.setOut o { x with discard := false, failed := false }
  else if !x.hi && !x.lo && x.cross == 0 && !x.other then
    ((s.setOut o { x with failed := false }).bump aSTO_TESTCNT).lifeCount (lifeOut o) 4 1
  else if !x.again then
    s.setOut o { x with failed := true, fHi := x.hi, fLo := x.lo, fCross := x.cross }
  else
    let c := pulseClass x
    let s := s.setOut o { x with failed := false }
    if c.1 = 0 then s
    else
      let s := s.outFault o c.1
      (List.range 8).foldl (fun s q => if bitOf c.2 q then s.outFault q 3 else s) s

/-- A read-back of a pulse: at P + 1,500, or at P + PW + 1,500 (R295); masks of outputs below 5 V and at 15 V or above. -/
def pulseReadback (s : State) (o : Nat) (second : Bool) (below5 above15 : Nat) : State :=
  let x := s.out o
  if !x.await || x.pulse == second || decide (s.grid.tick < x.start + 1500 + (if second then x.width else 0)) then s
  else if !second then s.setOut o { x with hi := !bitOf below5 o, cross := s.othersLow o above15 }
  else
    (s.setOut o { x with await := false, lo := !bitOf above15 o, other := s.othersLow o above15 != 0 }).pulseJudge o

/-- Continuous read-back disagrees for 1 ms, in which the command has stood (R296). -/
def readbackFault (s : State) (o : Nat) (high : Bool) : State :=
  if !s.sfcRuns || (s.out o).pulse || decide (s.grid.tick < (s.out o).since + 25000) then s
  else if !(s.out o).on && high then s.outFault o 1
  else if (s.out o).on && !high then s.outFault o 2
  else s

/-- A TEST commit (R37, R47): instance 0-3 a line, 4-11 an output; two misses in a row are a failed test. -/
def testCommit (s : State) (i : Nat) (onTime : Bool) : State :=
  if i < 4 then
    let x := s.tpLine i
    if onTime then s.setLine i { x with miss := 0 }
    else
      let s := s.setLine i { x with miss := x.miss + 1, skip := true }
      if x.miss = 1 then s.lineFault i pcMISS else s
  else
    let o := i - 4
    let x := s.out o
    if onTime then s.setOut o { x with miss := 0 }
    else
      let s := s.setOut o { x with miss := x.miss + 1, skip := true }
      if x.miss = 1 then s.outFault o 4 else s

/-- The deadline tick of a TEST commit: 25,000 ticks before a window of the line, or a scheduled or repeated pulse of the output
(R37, R47). -/
def testTick (s : State) (i : Nat) : Bool :=
  if i < 4 then s.stoSoon (312500 * i) 1250000
  else
    let x := s.out (i - 4)
    s.stoSoon (1562500 * (i - 4)) 12500000 || (s.sfcRuns && x.failed && x.start + 225000 == s.grid.tick)

/-- Every output is switched off and stays off; a test of it that is under way is discarded with its failure, as by a demand
(R297, R301, R374). -/
def stoAllOff (s : State) : State :=
  (List.range 8).foldl (fun s o =>
    let s := (s.outOff o).pulseEnd o
    let x := s.out o
    s.setOut o { x with discard := x.await, failed := false, again := false }) s

end State

-- Commands

/-- SAFETY_CYCLE (R280). -/
def execSafetyCycle (s : State) : Res :=
  if s.cycleDue then .next ({ s with sto := { s.sto with cycleAt := s.grid.tick } }.safetyCycle false) else .next s

/-- STO_REFRESH_TIMEOUT (R281). -/
def execStoRefreshTimeout (o : Fin 8) (s : State) : Res := .next (s.refreshTimeout o.val)

/-- TP_WINDOW_START (R283). -/
def execTpWindowStart (n : Fin 4) (s : State) : Res := if s.sfcRuns then .next (s.windowStart n.val) else .next s

/-- TP_WINDOW_END: the line rises (R283). -/
def execTpWindowEnd (n : Fin 4) (s : State) : Res := .next (s.windowEnd n.val)

/-- TP_READBACK 1,500 ticks after the fall or the rise (R283). -/
def execTpReadback (n : Fin 4) (rise below5 above15 : Bool) (s : State) : Res :=
  if s.sfcRuns then .next (s.lineReadback n.val rise below5 above15) else .next s

/-- TP_LOW_TIMEOUT: a line low for 1 ms outside its window (R283). -/
def execTpLowTimeout (n : Fin 4) (s : State) : Res :=
  if s.sfcRuns then .next (s.lineLow n.val) else .next s

/-- SIN_SAMPLE: the sixteen safety inputs and SRST_N, every 10 µs, and by input how many steps of 2 ns before it the last raw edge
lay (R256, R284, R299). -/
def execSinSample (levels : BitVec 16) (srst : Bool) (ago : List (BitVec 16)) (s : State) : Res :=
  if s.sfcRuns && s.sampleDue s.sto.sinAt 250 then
    .next (((List.range 16).foldl (fun (s : State) c => s.sinSample c (levels.getLsbD c) (ago.getD c 0).toNat)
      { s with sto := { s.sto with sinAt := s.grid.tick + 1 } }).srstSample srst)
  else .next s

/-- SIN_WINDOW_JUDGE (R284). -/
def execSinWindowJudge (n : Fin 4) (s : State) : Res := if s.sfcRuns then .next (s.winJudge n.val) else .next s

/-- DISCREPANCY_SAMPLE (R286). -/
def execDiscrepancySample (s : State) : Res :=
  if s.stoDue 0 2500 && s.sto.discAt != s.grid.tick + 1 then
    .next ((List.range 8).foldl State.discSample { s with sto := { s.sto with discAt := s.grid.tick + 1 } })
  else .next s

/-- SEAL_ROW_READ (R291). -/
def execSealRowRead (r : Fin 4) (bits : BitVec 4) (s : State) : Res := .next (s.sealRow r.val bits.toNat)

/-- STO_OFF_PULSE_START (R295). -/
def execStoOffPulseStart (o : Fin 8) (s : State) : Res := if s.sfcRuns then .next (s.pulseStart o.val false) else .next s

/-- STO_OFF_PULSE_END (R295). -/
def execStoOffPulseEnd (o : Fin 8) (s : State) : Res := .next (s.pulseOver o.val)

/-- STO_PULSE_READBACK (R295, R296). -/
def execStoPulseReadback (o : Fin 8) (second : Bool) (below5 above15 : BitVec 8) (s : State) : Res :=
  if s.sfcRuns then .next (s.pulseReadback o.val second below5.toNat above15.toNat) else .next s

/-- STO_PULSE_REPEAT: 10 ms after a failed pulse (R295, R297). -/
def execStoPulseRepeat (o : Fin 8) (s : State) : Res := if s.sfcRuns then .next (s.pulseStart o.val true) else .next s

/-- STO_READBACK_TIMEOUT: the read-back has disagreed with the command for 1 ms (R296). -/
def execStoReadbackTimeout (o : Fin 8) (high : Bool) (s : State) : Res := .next (s.readbackFault o.val high)

/-- SRST_STUCK: a low of more than 5 s, one there at the safety epoch too (R299). -/
def execSrstStuck (s : State) : Res :=
  if s.sto.srstHigh || s.flag State.fSRST_STUCK || !s.sfcRuns || decide (s.grid.tick ≤ s.sto.srstLow + 125000000) then .next s
  else
    .next (({ s with sto := { s.sto with srstIgnore := true } }.putFlag State.fSRST_STUCK true).logEv evSRST_STUCK kSTO 0 [])

end Sys2Proof.Machine
end

