-- ==== Sys2Proof/Machine/Life.lean ====
section
/-! DEFINITION. Lifetime record, persistence, snapshots and the event log's own commands (R411-R427). -/

namespace Sys2Proof.Machine

/-- The base of the record that holds a byte offset of the working record (R414). -/
def lifeBaseOf (a : Nat) : Nat :=
  if 0x3000 ≤ a then 0x3000 + (a - 0x3000) / 128 * 128
  else if 0x1000 ≤ a then 0x1000 + (a - 0x1000) / 64 * 64
  else if 0x0300 ≤ a then a / 32 * 32
  else 0x0100

/-- TEMP band of a lamp temperature in mK (R415). -/
def tempBin (t : Int) : Nat :=
  if t < 25000 then 0 else if t < 45000 then 1 else if t < 65000 then 2 else if t < 85000 then 3
  else if t < 100000 then 4 else if t < 110000 then 5 else if t < 125000 then 6 else 7

/-- Junction band of a temperature in 0.1 °C (R415). -/
def juncBin (t : Int) : Nat :=
  if t < -300 then 0 else if 1100 ≤ t then 15 else ((t + 400) / 100).toNat

/-- VSUP band in mV (R415). -/
def vsupBin (v : Nat) : Nat :=
  if v < 18000 then 0 else if v < 20000 then 1 else if v < 22000 then 2 else if v < 24000 then 3
  else if v < 26000 then 4 else if v < 28000 then 5 else if v < 32000 then 6 else 7

/-- Address of slot j of the lifetime area (R411). -/
def lifeSlot (j : Nat) : Nat := lifeBase + 0x10000 * j

namespace State

-- Folding (R415, R416)

/-- Seconds of a histogram band: every 14,400 s count one in its bin; the remainder stays in its accumulator (R416). -/
def foldBin (s : State) (o n : Nat) : State :=
  let k := 0x10000 + o
  let v := tabGet (fun _ => 0) s.life.acc k + n
  let s := { s with life := { s.life with acc := tabSet (fun _ => 0) s.life.acc k (v % 14400) } }
  s.lifeAcc o (v / 14400)

/-- Seconds of a time counter while a condition holds. -/
def foldTime (s : State) (on : Bool) (o n : Nat) : State := if on then s.lifeAcc o n else s

/-- Charge of a channel over n seconds, in 1/1023 mC: its pulse of a lamp period, of which a learning pulse has its current in the
first 150 ticks only (R141), or the pulses of a column's LEDs in a frame. -/
def chargeOf (s : State) (c n : Nat) : Nat :=
  if s.scanned (c / 16) then
    let pulses := s.mtx.leds.map fun p => if s.ledChan p.1 = c ∧ p.2.lit then p.2.iop / 2 ^ 20 * p.2.pulse else 0
    if s.mtxFrame = 0 then 0 else sumList pulses * n / s.mtxFrame
  else
    let x := s.chan c
    let t := s.lampPeriod c
    let first := if x.pulse < 150 then x.pulse else 150
    if t = 0 ∨ !x.lit then 0 else (x.iop / 2 ^ 20 * first + x.iopRun / 2 ^ 20 * (x.pulse - first)) * n / t

/-- The charge of a channel in 0.1 C over n seconds; the remainder stays in its accumulator (R415). -/
def foldCharge (s : State) (c n : Nat) : State :=
  let k := 0x20000 + c
  let q := tabGet (fun _ => 0) s.life.acc k + s.chargeOf c n
  -- 0.1 C is 102,300 units of 1/1023 mC
  let s := { s with life := { s.life with acc := tabSet (fun _ => 0) s.life.acc k (q % 102300) } }
  s.lifeAcc (lifeChan c + 4) (q / 102300)

/-- The sink of the channel is commanded lit: its own set-point, or an LED of its column (R415). -/
def litNow (s : State) (c : Nat) : Bool :=
  if s.scanned (c / 16) then s.mtx.leds.any fun p => s.ledChan p.1 == c && p.2.lit else (s.chan c).lit

/-- A channel's part of a fold of n seconds. -/
def foldChan (n : Nat) (s : State) (c : Nat) : State :=
  let b := lifeChan c
  let lv := s.get (fDRV_F c) * s.get (fDRV_SCALE c) * 8 / 2 ^ 20
  if !s.litNow c then s
  else
    let s := (s.foldTime true b n).foldCharge c n
    (s.foldBin (b + 40 + 2 * tempBin (s.lampTemp c)) n).foldBin (b + 56 + 2 * (if lv < 7 then lv else 7)) n

/-- TMAX of a channel follows its highest estimate (R415). -/
def foldMax (s : State) (c : Nat) : State :=
  let x := s.chan c
  let a := lifeBase + lifeChan c + 88
  if x.seeded ∧ signedOf (s.memNat a 1) 8 < x.tEst / 1000 then
    s.memPut a (BitVec.ofInt 8 (clampInt (-128) 127 (x.tEst / 1000)))
  else s

/-- An aspect's part of a fold of n seconds. -/
def foldAsp (n : Nat) (s : State) (a : Nat) : State :=
  let b := lifeAsp a
  let st := s.get (fASP_STATE a)
  if !s.aspUsed a then s
  else
    ((((s.foldTime (s.flag (fASP_DEMAND a)) b n).foldTime (st == 1) (b + 4) n).foldTime (st == 2) (b + 8) n).foldTime
      (st == 3) (b + 12) n).foldTime (st == 4) (b + 16) n

/-- The whole seconds since the last time join the accumulators under the conditions that hold now (R416). -/
def foldSpan (s : State) : State :=
  let n := (s.nw.tick - s.life.lastFold) / tps
  if n = 0 then s
  else
    let s := { s with life := { s.life with lastFold := s.life.lastFold + n * tps } }
    let s := (List.range 128).foldl (foldChan n) s
    let s := (List.range 96).foldl (foldAsp n) s
    let s := (List.range 8).foldl (fun s o => s.foldTime (s.get (fOSTATE o) == 3) (lifeOut o + 12) n) s
    let s := (List.range 8).foldl (fun s p => s.foldTime (s.flag (fADC p 1)) (lifeConv p + 8) n) s
    let b := lifeDevice
    let s := (((s.foldTime true b n).foldTime (s.pstate == 1) (b + 4) n).foldTime s.inDusk (b + 8) n).foldTime
      (s.flag fBST_GOV) (b + 52) n
    let s := (s.foldBin (b + 64 + 2 * juncBin (10 * s.life.core)) n).foldBin (b + 96 + 2 * juncBin s.boost.tj) n
    let p := s.get fPWR_PSINK / 100
    (s.foldBin (b + 128 + 2 * vsupBin s.boost.vsup) n).foldBin (b + 144 + 2 * (if p < 7 then p else 7)) n

/-- The counts that wait in the accumulators join the record. -/
def foldCounts (s : State) : State :=
  let due := s.life.acc.filter fun p => p.1 < 0x8000
  let s := { s with life := { s.life with acc := s.life.acc.filter fun p => 0x8000 ≤ p.1 } }
  due.foldl (fun s p => s.lifeCount (lifeBaseOf p.1) (p.1 - lifeBaseOf p.1) p.2) s

/-- The fold of SC0 with the core-die junction temperature in °C, each time 1 s has passed (R416); none while SC0 is lost, in Dusk,
or before the record is restored. -/
def fold (s : State) (core : Int) : State :=
  if s.flag fNW_SC0_LOST || s.inDusk || s.get fLIFE_RESTORE == 0 || decide (s.nw.tick < s.life.lastFold + tps) then s
  else
    let s := ({ s with life := { s.life with core := core } }).foldSpan
    let s := (List.range 128).foldl foldMax s.foldCounts
    let m := (s.nw.tick - s.life.lastGood) / (60 * tps)
    s.put fLIFE_AGE (if m < 0xFFF then m else 0xFFF)

/-- The SAT bits of a record of `w` bytes of mask (R414). -/
def satBits (s : State) (base w : Nat) : Nat :=
  let v := s.memNat (lifeBase + base + lifeSat base) w
  ((List.range (8 * w)).filter (bitOf v)).length

/-- NSAT: the saturated counters and bins of the record as it stands (R412). -/
def satCount (s : State) : State :=
  let sum := fun (base : Nat → Nat) k => sumList ((List.range k).map fun i => s.satBits (base i) 4)
  let n := s.satBits lifeDevice 16 + sum lifePair 24 + sum lifeAsp 96 + sum lifeChan 128
  s.put fLIFE_NSAT (if n < 255 then n else 255)

-- Persistence (R418-R420)

/-- The event tail: the 64 newest records, oldest first (R414). -/
def tailCopy (s : State) : State :=
  let head := (s.rd aEVT_HEAD).toNat
  let held := (head + 2 ^ 32 - (s.rd aEVT_OLDEST).toNat) % 2 ^ 32
  let n := if held < 64 then held else 64
  (List.range n).foldl (fun s i => s.memWrite (lifeBase + 0x7000 + 64 * i)
    (s.memRead (evtAddr ((head + 2 ^ 32 - n + i) % 2 ^ 32)) 64)) s

/-- The header of the working record for a copy taken now, CRC included (R414, R418). -/
def lifeHeader (s : State) : State :=
  let a := lifeBase
  let s := s.memWrite a (leBytes 4 0x4546494C ++ leBytes 2 1 ++ leBytes 2 0
    ++ leBytes 4 (s.rd aDEV_UID_LO).toNat ++ leBytes 4 (s.rd aDEV_UID_HI).toNat)
  let s := s.memWrite (a + 16) (leBytes 4 (s.memNat (a + 16) 4 + 1))
  let s := s.memWrite (a + 24) (leBytes 8 s.time.sec ++ leBytes 4 s.time.ns ++ leBytes 1 (s.quality 2))
  let s := s.memWrite (a + 40) (leBytes 4 (s.memNat (a + lifeDevice + 12) 4))
  let s := s.memWrite (a + 20) (leBytes 4 0)
  s.memWrite (a + 20) (leBytes 4 (crc32 (s.memRead a 0x8000)))

/-- The working record is copied into a slot of the lifetime area (R411). -/
def copyRecord (s : State) (j : Nat) : State :=
  { s with mem := tabPaste (lifeSlot j) 0x8000 s.mem (tabSlice lifeBase 0x8000 s.mem) }

/-- A persistence begins (R418): why is 1 periodic, 2 PFW_N, 3 Midnight. One in progress is abandoned for it (R419). -/
def persistBegin (s : State) (why : Nat) : State :=
  if s.get fLIFE_RESTORE = 0 then s
  else if s.flag fNW_SC0_LOST then { s with life := { s.life with due := true } }
  else
    let l := s.life
    let j := if l.writing = 0 then l.nextJournal else (l.nextJournal + 1) % 8
    let c := 1 + l.nextCopy % 7
    let s := (s.tailCopy.lifeHeader).copyRecord c
    let s := { s with life := { s.life with
      writing := why, due := false, copySlot := c, nextCopy := c, nextJournal := j } }
    (s.flash [(fkPROG, flLife j)]).put fLIFE_PERSIST 1

/-- The copy being programmed ends (R418): good, or FAILED. After a good one the two oldest slots, which come next, stand erased
(R419). -/
def persistEnd (s : State) (ok : Bool) : State :=
  let l := s.life
  if l.writing = 0 then s
  else
    let copy := tabSlice (lifeSlot l.copySlot) 0x8000 s.mem
    let cut := fun (t : Tab (Tab Byte)) i => tabSet (fun _ => []) t ((l.nextJournal + i) % 8) []
    let s := { s with life := { s.life with
      journal := if ok then cut (cut (tabSet (fun _ => []) s.life.journal l.nextJournal copy) 1) 2 else s.life.journal,
      nextJournal := (l.nextJournal + 1) % 8, writing := if ok then 0 else l.writing,
      lastGood := if ok then s.nw.tick else l.lastGood } }
    let back := (fkREAD, flLife l.nextJournal)
    if ok then ((s.flash (back :: [1, 2].map fun i => (fkERASE, flLife ((l.nextJournal + i) % 8)))).put fLIFE_PERSIST 0).put fLIFE_AGE 0
    else (s.flash [back]).put fLIFE_PERSIST 2

/-- A daily snapshot into the next slot of the lifetime area and of the flash (R421); never in the window of R382. -/
def snapshot (s : State) : State :=
  if s.get fLIFE_RESTORE = 0 ∨ s.flag fNW_SC0_LOST then s
  else if s.pwr.pfw then { s with life := { s.life with snapStopped := true } }
  else
    let i := s.life.nextSnap % 56
    let s := (s.tailCopy.lifeHeader).copyRecord (8 + i)
    let s := { s with life := { s.life with
      snaps := tabSet (fun _ => []) s.life.snaps i (tabSlice lifeBase 0x8000 s.mem), nextSnap := (i + 1) % 56,
      snapStopped := false } }
    (s.flash (rewrite (flLife (8 + i)) 1)).put fLIFE_SNAPS (if s.get fLIFE_SNAPS < 56 then s.get fLIFE_SNAPS + 1 else 56)

/-- A journal slot's header fields: PSEQ; FORMAT and CRC good (R414, R420). -/
def slotPseq (t : Tab Byte) : Nat := ofLeBytes (tabBytes t 16 4)
def slotGood (t : Tab Byte) : Bool :=
  ofLeBytes (tabBytes t 4 2) == 1
    && crc32 (tabBytes (tabCut 20 4 t) 0 0x8000) == ofLeBytes (tabBytes t 20 4)
def slotOwn (s : State) (t : Tab Byte) : Bool :=
  ofLeBytes (tabBytes t 8 4) == (s.rd aDEV_UID_LO).toNat && ofLeBytes (tabBytes t 12 4) == (s.rd aDEV_UID_HI).toNat

/-- The newest qualifying journal slot, in the sense of PSEQ (R420). -/
def newestSlot (s : State) : Option (Tab Byte) :=
  (s.life.journal.filter fun p => slotGood p.2 && s.slotOwn p.2).foldl (fun (b : Option (Tab Byte)) p =>
    match b with
    | none => some p.2
    | some t => if seqNewer (slotPseq p.2) (slotPseq t) then some p.2 else b) none

/-- The restore of D3 (R420, R421, R425, R142): working record, snapshots, tail, signatures, DAWNS and RESETS. -/
def restore (s : State) : State :=
  let s := s.flash ((List.range 64).map fun j => (fkREAD, flLife j))
  let best := s.newestSlot
  let foreign := best.isNone && s.life.journal.any fun p => slotGood p.2
  let s := match best with
    | some t => { s with mem := tabPaste lifeBase 0x8000 s.mem t, evt := { s.evt with tail := tabBytes t 0x7000 0x1000 } }
    | none => s
  let s := s.put fLIFE_RESTORE (if best.isSome then 1 else if foreign then 3 else 2)
  let s := s.life.snaps.foldl (fun s p => { s with mem := tabPaste (lifeSlot (8 + p.1)) 0x8000 s.mem p.2 }) s
  let s := s.put fLIFE_SNAPS s.life.snaps.length
  let s := { s with life := { s.life with
    lastFold := s.nw.tick, lastGood := s.nw.tick, acc := [], due := false, dueAt := s.nw.tick + 900 * tps, snapAt := s.nw.tick } }
  let s := s.satCount.lifeCount lifeDevice 12 1
  let s := if s.flag fPWR_RESET_SEEN then s.lifeCount lifeDevice 20 1 else s
  let s := if best.isSome then
      (List.range 128).foldl (fun s c =>
        let a := lifeBase + lifeChan c + 72
        let w1 := s.memNat (a + 4) 4
        if w1 % 2 = 0 then s
        else
          let s := (s.wr (aSUP_SIG c 0) (s.memNat a 4)).wr (aSUP_SIG c 1) w1
          (s.putFlag (fSUP_SIG_LEARNT c) true).put (fSUP_NLED_EFF c) (s.get (fSIG_NLED c))) s
    else s
  if best.isSome then s
  else s.logFw (if foreign then evLIFE_FOREIGN else evLIFE_NONE) kDEVICE 0 []

/-- LOG_START as SEQ 0, and the records that wait in the Nightwatch buffer after it (R425). -/
def logStart (s : State) : State :=
  let r := s.get fLIFE_RESTORE
  let last := if r = 1 then ofLeBytes ((s.evt.tail.drop (63 * 64 + 16)).take 4) else 0
  let s := { s with evt := { s.evt with started := true } }
  let s := s.writeRec ⟨s.time.sec, s.time.ns, s.quality 2, evLOG_START, 0,
    [s.memNat (lifeBase + lifeDevice + 12) 4, r, last]⟩
  s.flushNw

/-- A channel record is cleared but for bytes 72-87 (R417). -/
def lifeClearChan (s : State) (c : Nat) : State :=
  let a := lifeBase + lifeChan c
  let s := { s with mem := tabCut a 72 (tabCut (a + 88) 40 s.mem) }
  let keep := s.life.acc.filter fun p => lifeBaseOf (p.1 % 0x10000) != lifeChan c || 0x20000 ≤ p.1
  let s := { s with life := { s.life with acc := keep } }
  s.satCount.logFw evLIFE_CLEARED kDEVICE 0 [lifeChan c]

/-- Every record other than the channel records is cleared (R417). -/
def lifeClearDev (s : State) : State :=
  let s := { s with mem := tabCut (lifeBase + 0x100) 0x2F00 s.mem }
  let s := { s with life := { s.life with acc := s.life.acc.filter fun p => 0x3000 ≤ p.1 % 0x10000 || 0x20000 ≤ p.1 } }
  s.satCount.logFw evLIFE_CLEARED kDEVICE 0 [lifeDevice]

/-- A write of LIFE_CMD (R417). -/
def lifeCmd (s : State) (w : Nat) : State :=
  if bitsOf w 8 8 = 0x3C then s.lifeClearChan (w % 128) else if bitsOf w 8 8 = 0xC3 then s.lifeClearDev else s

/-- The oldest record that waits reaches the log (R425). -/
def recordArrives (s : State) : State :=
  if !s.logOpen then s
  else
    match s.evt.queue with
    | r :: rest => ({ s with evt := { s.evt with queue := rest } }).writeRec r
    | [] =>
      if s.evt.dropped = 0 then s
      else
        let n := s.evt.dropped
        ({ s with evt := { s.evt with dropped := 0 } }).writeRec (s.overflowRec n)

/-- A write of EVT_RDSEQ or EVT_THRESH (R426). -/
def evtRdseq (s : State) (w : Nat) : State := (s.wr aEVT_RDSEQ w).evtThreshold
def evtThresh (s : State) (w : Nat) : State :=
  (s.wr aEVT_THRESH (if 131072 < w % 2 ^ 18 then 131072 else w % 2 ^ 18)).evtThreshold

end State

-- Commands

/-- LIFETIME_FOLD with the core-die junction temperature in °C (R416). -/
def execLifetimeFold (core : BitVec 8) (s : State) : Res := .next (s.fold core.toInt)

/-- PERSIST_TIMER: 15 min have passed since the end of D3, or since the last time (R418). -/
def execPersistTimer (s : State) : Res :=
  if s.get fLIFE_RESTORE = 0 ∨ s.nw.tick < s.life.dueAt then .next s
  else
    let s := { s with life := { s.life with dueAt := s.life.dueAt + 900 * tps } }
    if s.inDusk then .next { s with life := { s.life with due := true } }
    else if s.life.writing ≠ 0 then .next s
    else .next (s.persistBegin 1)

/-- PERSIST_DONE: the read-back passes or fails (R418). -/
def execPersistDone (ok : Bool) (s : State) : Res := .next (s.persistEnd ok)

/-- PERSIST_RETRY in the next journal slot (R418). -/
def execPersistRetry (s : State) : Res :=
  if s.get fLIFE_PERSIST = 2 ∧ s.life.writing ≠ 0 then
    .next ((s.flash [(fkPROG, flLife s.life.nextJournal)]).put fLIFE_PERSIST 1)
  else .next s

/-- CLR_CH: LIFE_CMD with KEY 0x3C (R417). -/
def execClrCh (c : Fin 128) (s : State) : Res := .next (s.lifeClearChan c.val)

/-- CLR_DEV: LIFE_CMD with KEY 0xC3 (R417). -/
def execClrDev (s : State) : Res := .next s.lifeClearDev

/-- EVENT_RECORD_WRITE (R425). -/
def execEventRecordWrite (s : State) : Res := .next s.recordArrives

/-- EVT_RDSEQ_WRITE (R426). -/
def execEvtRdseqWrite (w : BitVec 32) (s : State) : Res := .next (s.evtRdseq w.toNat)

/-- EVT_THRESH_WRITE (R426). -/
def execEvtThreshWrite (w : BitVec 32) (s : State) : Res := .next (s.evtThresh w.toNat)

end Sys2Proof.Machine
end

