-- ==== Sys2Proof/Machine/Midnight.lean ====
section
/-! DEFINITION. Entry into Midnight (R388-R390, R444): the latch, the fallback table, STO, banks, boost and status pins. -/

namespace Sys2Proof.Machine

namespace State

/-- The channel is lit by the fallback table: a table channel in a bank whose latched role is RESTRICTIVE (R389). -/
def inTable (s : State) (c : Nat) : Bool :=
  s.flag fPWR_TABLE_VALID && tabGet (fun _ => 0) s.pwr.table c != 0 && tabGet (fun _ => 0) s.pwr.roles (c / 16) == 2

/-- I_op of a table channel: 20 mA or the latched ceiling, the lower, times 2^20 (R388). -/
def tableCurrent (s : State) (c : Nat) : Nat :=
  let i := 2046 + 38 * (tabGet (fun _ => 0) s.pwr.table c - 1)
  (if i < 20460 then i else 20460) * 2 ^ 20

/-- A channel at the entry: steady at the table's current, or off at once; a sink latched off stays off (R388). -/
def fallbackChan (s : State) (c : Nat) : State :=
  let x := s.chan c
  let on := s.inTable c
  let s := s.litStep c x.lit on
  let y := s.chan c
  let y := if on then y.full s.grid.tick (s.lampPeriod c) (s.tableCurrent c) else { y.dark s.grid.tick with mode := 0, nOn := 0, iop := 0, iopRun := 0 }
  s.setChan c { y with
    pulse := if on && s.latch c ltSHORT then 0 else y.pulse
    sent := none, pend := none, learn := 0, learnV := [], intvl := false, left := 0, excess := 0, probing := false }

/-- A bank at the entry: closed when it has a table channel, else opened (R388). That this closes an UNUSED bank too, which R77 holds
open always, is DESIGN CHOICE (log entry 86). -/
def fallbackBank (s : State) (n : Nat) : State :=
  let any := s.flag fPWR_TABLE_VALID && (List.range 16).any fun i => tabGet (fun _ => 0) s.pwr.table (16 * n + i) != 0
  if any then s.bankClose n else s.bankOpen n

/-- A Morning check in progress ends without a record (R395, R440). -/
def mornDrop (s : State) : State :=
  let s := (s.putFlag fMORN_RUNNING false).putFlag fMORN_DEFERRED false
  { s with pwr := { s.pwr with probe := [], mornOpen := [], mornWait := false } }

/-- Midnight is entered; a later cause changes nothing (R388, R444). -/
def midnightEnter (s : State) (cause : Nat) : State :=
  if s.midnight then s
  else
    let s := (s.put fNW_MN_CAUSE cause).put fPWR_STATE 5
    let s := ((s.putFlag fPWR_DUSK_PEND false).mornDrop).bistStop
    let s := (s.fltSet 17 evMIDNIGHT).driveReady false
    let s := s.stoAllOff
    let s := s.put fBST_MODE 7
    let s := s.gateLow
    let s := (List.range 128).foldl fallbackChan s
    let s := (List.range 8).foldl fallbackBank s
    let s := { s.ledsDark with mtx := { s.ledsDark.mtx with slot := 0 } }.putFlag fMTX_RUN false
    let s := s.logFw evMIDNIGHT kDEVICE 0 [cause]
    let s := s.capFreeze true
    s.persistBegin 3

end State

-- Commands

/-- MIDNIGHT_ENTRY: a request for Midnight reaches Nightwatch with its cause 1-8 (R388, R444). -/
def execMidnightEntry (cause : Fin 8) (s : State) : Res :=
  if s.pwr.good then .next (s.midnightEnter (cause.val + 1)) else .next s

end Sys2Proof.Machine
end

