-- ==== Sys2Proof/Machine/Grid.lean ====
section
/-! DEFINITION. The die-to-die link, the grid reference and the deadline monitor (R9-R15, R30-R49). -/

namespace Sys2Proof.Machine

/-- Commit classes (R37). -/
def clBOOST : Nat := 0
def clLOOP_FAST : Nat := 1
def clLOOP_SLOW : Nat := 2
def clRULE : Nat := 3
def clPWM : Nat := 4
def clLAUNCH : Nat := 5
def clTEST : Nat := 6
def clTIME : Nat := 7

/-- A direction that has carried nothing: the first number expected is 0 (log entry 29). -/
def defDir : LinkDir := ⟨255, none, [], false, []⟩

def Link.dir (l : Link) (dir : Nat) : LinkDir := tabGet (fun _ => defDir) l.dirs dir
def Link.setDir (l : Link) (dir : Nat) (d : LinkDir) : Link :=
  { l with dirs := tabSet (fun _ => defDir) l.dirs dir d }

/-- A transfer as it is received: header beat, data beats, check beat (R9). -/
structure Xfer where
  head : Word
  data : List Word
  check : Word
  deriving DecidableEq, Repr

/-- The header's fields: sequence number 7:0, word count 12:8, transfer type 15:13, the traffic class of R10. DESIGN CHOICE:
R9 names the fields and gives them no places (log entry 72). -/
def Xfer.seq (x : Xfer) : Nat := bitsOf x.head.toNat 0 8
def Xfer.words (x : Xfer) : Nat := bitsOf x.head.toNat 8 5
def Xfer.type (x : Xfer) : Nat := bitsOf x.head.toNat 13 3

/-- The exclusive or of a list of beats: by lane, the parity of its bits. -/
def beatParity : List Word → Word
  | [] => 0
  | b :: bs => b ^^^ beatParity bs

/-- The header's word count is the number of data beats, 1 to 16, and its type one of the six classes (R9, R10). -/
def Xfer.shaped (x : Xfer) : Bool :=
  decide (1 ≤ x.data.length) && decide (x.data.length ≤ 16) && x.words == x.data.length && decide (x.type < 6)

/-- The transfer a sender makes: even parity by lane in the check beat (R9). -/
def Xfer.make (cls seq : Nat) (data : List Word) : Xfer :=
  let head : Word := BitVec.ofNat 32 (seq % 256 + 256 * (data.length % 32) + 8192 * (cls % 8))
  ⟨head, data, beatParity (head :: data)⟩

/-- The lanes whose parity fails. On a narrow link bits j and j + 16 of every beat pass over lane j of the half in use
(R9, R13; the order of the halves of a word is the model's, log entry 72). -/
def Link.badLanes (l : Link) (x : Xfer) : Nat :=
  let p := (x.check ^^^ beatParity (x.head :: x.data)).toNat
  let q := (p % 65536) ^^^ (p / 65536)
  if !l.narrow then p else if l.half = 0 then q else q * 65536

namespace State

-- Link (R12-R15)

def setLink (s : State) (l : Link) : State := { s with link := l }

/-- The link is lost: the drive die enters Midnight, and HOST_IRQ_N goes high (R14, R358). -/
def linkLost (s : State) : State :=
  let s := s.setLink { s.link with lost := true }
  ({ s with pins := { s.pins with hostIrqN := true } }).midnightEnter 3

/-- The half of the lanes under test has had an error in either direction (R407). -/
def testedHalfBad (s : State) (lane : Nat) : Bool :=
  s.underTest bkLINK && s.link.dirs.any fun (d : Nat × LinkDir) =>
    d.2.lanes.any fun (p : Nat × List Nat) => p.1 / 16 != lane / 16 && !p.2.isEmpty

/-- Both directions go to the half of the lanes that does not contain the failed lane; a transfer in flight stays in its
sender's buffer under its number, to be sent again on the narrow link as a first transmission (R13, R15; that it is none
that failed is the model's, log entry 29). A LINK test that loses its carrying half is cut off (R407). -/
def linkNarrow (s : State) (lane : Nat) : State :=
  if s.link.narrow then s
  else if s.testedHalfBad lane then s.linkLost
  else
    let s := if s.underTest bkLINK then s.bistCause brCOVER_LOST else s
    let l := (s.link.setDir 0 { s.link.dir 0 with retry := false }).setDir 1 { s.link.dir 1 with retry := false }
    let s := s.setLink { l with narrow := true, half := if lane < 16 then 1 else 0 }
    ((s.logEv evDIE_LINK_DEGRADED kDEVICE 0 [lane]).raise srcDIE_LINK).fltSet 12 evDIE_LINK_DEGRADED

/-- The error ticks within the last 1 ms with a new one. -/
def errTicks (now : Nat) (l : List Nat) : List Nat := now :: (l.filter fun t => decide (now < t + 25000)).take 2

/-- Parity errors of one transfer are attributed to their lanes, each direction having its own 32 (R12, R13). -/
def laneErrors (s : State) (dir bad : Nat) : State :=
  let d := s.link.dir dir
  s.setLink (s.link.setDir dir { d with
    lanes := (List.range 32).foldl (fun t i =>
      if bitOf bad i then tabSet (fun _ => []) t i (errTicks s.grid.tick (tabGet (fun _ => []) t i)) else t) d.lanes })

/-- A lane in error with its third error within 1 ms, or a failed retransmission: the link narrows, and a narrow link is lost
(R13, R14). A retransmission that failed without a lane in error narrows to lanes 0-15, and loses a narrow link: the rule
names no lane then (log entry 29). -/
def linkWear (s : State) (dir bad : Nat) (again : Bool) : State :=
  let wrong := (List.range 32).filter (bitOf bad)
  let worn := wrong.filter fun i => decide (3 ≤ (tabGet (fun _ => []) (s.link.dir dir).lanes i).length)
  if worn.isEmpty && !again then s
  else if s.link.narrow then s.linkLost
  else s.linkNarrow ((worn ++ wrong).headD 16)

/-- An error of the link as a whole: the third within 1 ms loses the link (R12, R14). -/
def seqError (s : State) : State :=
  let ts := errTicks s.grid.tick s.link.seqErr
  let s := s.setLink { s.link with seqErr := ts }
  if ts.length < 3 then s else s.linkLost

/-- What a direction has to send, by the traffic classes of R10 and instance: 1 bank openings that SUP has commanded (0-7) and STO
refresh words (8-15), 4 sink set-points by channel. A duty is ready once it is in the drive die's register (R37), and
heartbeats, conversion results, events and bulk data are handed over in the step of their own command, so that none of the
other classes waits between steps. -/
def linkSends (s : State) (dir : Nat) : List (Nat × Nat) :=
  if dir = 0 then
    (((List.range 8).filter fun b => (s.bank b).cmd).map fun b => (1, b))
      ++ (((List.range 8).filter fun k => (s.out k).word.isSome).map fun k => (1, 8 + k))
      ++ (((List.range 128).filter fun c => (s.chan c).sent.isSome).map fun c => (4, c))
  else []

/-- What of it has not yet been received. -/
def linkWaits (s : State) (dir : Nat) : List (Nat × Nat) :=
  (s.linkSends dir).filter fun w => !(s.link.dir dir).got.contains w

/-- The transfer that starts at a transfer boundary: of those that wait, one of the highest class (R10), within a class the
lowest instance (the model's order, log entry 29). -/
def linkNext (s : State) (dir : Nat) : Option (Nat × Nat) :=
  (s.linkWaits dir).foldl (fun best w =>
    match best with
    | none => some w
    | some b => if w.1 < b.1 then some w else some b) none

/-- A transfer can end now: it has been received, it is the one in flight, or none is and no higher class waits (R10). -/
def linkTurn (s : State) (dir : Nat) (w : Nat × Nat) : Bool :=
  let d := s.link.dir dir
  d.got.contains w || d.flight == some w || (d.flight.isNone && (s.linkWaits dir).all fun v => decide (w.1 ≤ v.1))

/-- A transfer has had its effect: it is neither in flight nor kept as received. -/
def linkDone (s : State) (dir : Nat) (w : Nat × Nat) : State :=
  let d := s.link.dir dir
  s.setLink (s.link.setDir dir { d with
    flight := if d.flight == some w then none else d.flight, got := d.got.filter fun v => v != w })

/-- A transfer is received in a direction. One that is well formed, with good parity and the next number, is accepted: the
sender's buffer is free and the next waiting transfer starts. Any other is discarded, counted and asked for again
(R9-R14). R12 names parity and number only: that a word count which does not fit the beats, or a type not listed, counts as an
error of the link as a whole is DESIGN CHOICE (log entry 29). -/
def linkTransfer (s : State) (dir : Nat) (x : Xfer) : State :=
  let d := s.link.dir dir
  let bad := s.link.badLanes x
  if s.link.lost then s
  else if bad = 0 ∧ x.shaped ∧ x.seq = (d.seq + 1) % 256 then
    let s := s.setLink (s.link.setDir dir { d with seq := x.seq, retry := false, got := d.got ++ d.flight.toList })
    s.setLink (s.link.setDir dir { s.link.dir dir with flight := s.linkNext dir })
  else
    let s := s.setLink { s.link.setDir dir { d with retry := true } with err := (s.link.err + 1) % 2 ^ 32 }
    if bad % 65536 ≠ 0 ∧ bad / 65536 ≠ 0 then s.linkLost
    else (if bad = 0 then s.seqError else s.laneErrors dir bad).linkWear dir bad d.retry

-- Grid reference (R30, R35)

/-- Time becomes UNTRUSTED with CAUSE GRID until the next Dawn (R35, R267): a re-route hold and a step that SC1 has written end; an
armed step stays armed until it lapses, as R268 gives no other end (DEDUCED, log entry 80). -/
def timeUntrusted (s : State) (cause : Nat) : State :=
  let was := s.get fTIME_STATE
  let s := { s with ptp := { s.ptp with
    hold := false, collect := false, taken := [], fresh := [], step := none, trust := none } }
  let s := (s.put fTIME_STATE 4).put fTIME_CAUSE cause
  if was = 4 then s else (s.logEv evTIME_STATE kTIME 0 [was, 4]).raise srcTIME

/-- The grid switches to the internal oscillator (R35). -/
def gridLost (s : State) : State :=
  let s := s.putFlag fGRID_XTAL_OK false
  if s.flag fGRID_SRC || !s.grid.running then s
  else
    let s := (s.putFlag fGRID_SRC true).bistCause brGRID
    let s := (s.logEv evGRID_LOST kDEVICE 0 []).fltSet 13 evGRID_LOST
    s.timeUntrusted 2

/-- VCORE_LOW and its fault group (R30, R432). -/
def vcoreLow (s : State) (low : Bool) : State :=
  if low && s.pstate != 1 then s else ((if low then s.bistCause brVCORE else s).putFlag fGRID_VCORE_LOW low).fltFollow 20 0 low

-- Deadline monitor (R39-R48)

/-- Fault group 5: RULE_STALL, or three misses in a row of a loop class (R432). -/
def deadlineGroup (s : State) : State :=
  s.fltFollow 5 evDEADLINE_MISS (s.flag fGRID_RULE_STALL || decide (3 ≤ s.get (fDLM_RUN clLOOP_FAST))
    || decide (3 ≤ s.get (fDLM_RUN clLOOP_SLOW)))

/-- The slot commits in the class (R37, R214). -/
def loopClass (s : State) (n k : Nat) : Bool := n != 0 && k == (if s.loopFast n then clLOOP_FAST else clLOOP_SLOW)

/-- Length of the run of misses of a class. -/
def missRun (s : State) (k : Nat) : Nat := tabGet (fun _ => 0) s.grid.runs k
def setRun (s : State) (k n : Nat) : State :=
  let s := { s with grid := { s.grid with runs := tabSet (fun _ => 0) s.grid.runs k n } }
  s.put (fDLM_RUN k) (if n < 15 then n else 15)

/-- RULE_STALL: FAULT_N and ASPECT_READY low (R43). -/
def ruleStall (s : State) : State :=
  if s.flag fGRID_RULE_STALL then s
  else
    let s := (s.putFlag fGRID_RULE_STALL true).logEv evRULE_STALL kDEVICE 0 []
    (({ s with res := { s.res with onTime := 0 } }).fltSet 5 evRULE_STALL).driveReady false

/-- A missed commit: counted, raised, logged at the first of a run, with the reactions of its class (R39, R41-R44). -/
def deadlineMiss (s : State) (k : Nat) : State :=
  let n := s.missRun k + 1
  let s := ((s.bump (aDEV_DLM_CNT k)).setRun k n).lifeAcc (lifeDevice + 32) 1
  let s := s.raise srcDEADLINE_MISS
  let s := if n = 1 then s.logEv evDEADLINE_MISS kDEVICE k [k, 1] else s
  let s := if k = clBOOST then { s with boost := { s.boost with onTime := 0 } }
    else if k = clRULE then { s with res := { s.res with onTime := 0 } } else s
  let s := if n = 3 ∧ k = clBOOST then s.dutyHold evDEADLINE_MISS else if n = 3 ∧ k = clRULE then s.ruleStall else s
  s.deadlineGroup

/-- An on-time commit: the run ends with a record of its length (R39, R41). -/
def deadlineMet (s : State) (k : Nat) : State :=
  let n := s.missRun k
  let s := s.setRun k 0
  let s := if n = 0 then s else s.logEv evDEADLINE_MISS kDEVICE k [k, n]
  let s := if k = clBOOST then { s with boost := { s.boost with onTime := s.boost.onTime + 1 } }
    else if k = clRULE then { s with res := { s.res with onTime := s.res.onTime + 1 } } else s
  s.deadlineGroup

/-- Miss or on time. -/
def deadlineCount (s : State) (k : Nat) (ok : Bool) : State := if ok then s.deadlineMet k else s.deadlineMiss k

/-- Classes 1-5 are suspended in Dusk and count no misses (R51). -/
def classSuspended (s : State) (k : Nat) : Bool := s.inDusk && decide (1 ≤ k ∧ k ≤ 5)

/-- Fixed-duty hold ends after 250 on-time results: closed loop again, the integrator re-seeded from the duty that was held (R42,
R223). -/
def holdResume (s : State) : State :=
  if s.flag fGRID_DLM_HOLD && decide (250 ≤ s.boost.onTime) && !s.pairFault 7 && !s.loopLost 0 then
    let s := s.putFlag fGRID_DLM_HOLD false
    let s := if s.get fBST_MODE = 4 then (s.put fBST_MODE 2).boostPass else s
    (s.setLoop 0 { s.loop 0 with reseed := true, u := s.boost.duty }).boostGroup 0
  else s

/-- RULE_STALL clears after 16 on-time commits (R43). -/
def stallClear (s : State) : State :=
  if s.flag fGRID_RULE_STALL && decide (16 ≤ s.res.onTime) then (s.putFlag fGRID_RULE_STALL false).deadlineGroup else s

/-- The evaluation that RULE's late result comes from is still under way: one that an earlier period began, or the present one past
its deadline (R40). -/
def lateWalk (s : State) : Bool :=
  s.rule.late.isSome || (s.rule.running && decide (s.rule.start + 7500 ≤ s.grid.tick))

/-- A late result is discarded when it becomes ready. A walk of the rule table that was still under way ends, its demands with it,
and a start event that was kept begins the next one; a late resolution leaves a walk of the present period alone (R40). -/
def lateResult (s : State) (k i : Nat) : State :=
  if k = clBOOST then s.setLoop 0 { s.loop 0 with res := none }
  else if s.loopClass (i % 32) k then s.setLoop (i % 32) { s.loop (i % 32) with res := none }
  else if k = clRULE then
    let s := if s.lateWalk then let t := s.ruleWalked; { t with rule := { t.rule with demands := [] } } else s
    { s with res := { s.res with ready := s.ruleReady, running := false } }
  else if k = clTIME then { s with ptp := { s.ptp with next := none } }
  else s

end State

-- Commands

/-- The set-points that can end their transfer now reach the drive die (R10, R22, R23). -/
def State.setpointArrival (s : State) : State :=
  ((List.range 128).filter fun c => s.linkTurn 0 (4, c)).foldl (fun s c => (s.arrive c).linkDone 0 (4, c)) s

/-- SETPOINT_ARRIVAL: the set-points of the last commit reach the drive die (R22, R23). -/
def execSetpointArrival (s : State) : Res := if s.takesCommits then .next s.setpointArrival else .next s

/-- BANK_STRAY_OPEN: a STRAY bank command of SUP arrives in its turn and the bank opens by its role (R10, R67, R147). -/
def execBankStrayOpen (n : Fin 8) (s : State) : Res :=
  if (s.bank n.val).cmd && s.linkTurn 0 (1, n.val) then
    .next (((s.setBank n.val { s.bank n.val with cmd := false }).strayOpen n.val).linkDone 0 (1, n.val))
  else .next s

/-- STO_REFRESH_WORD: the word SFC sent to output o arrives in its turn; `flip` corrupts its code (R10, R281). -/
def execStoRefreshWord (o : Fin 8) (flip : BitVec 8) (s : State) : Res :=
  if s.linkTurn 0 (1, 8 + o.val) then .next ((s.refreshWord o.val flip.toNat).linkDone 0 (1, 8 + o.val)) else .next s

/-- LINK_TRANSFER: header beat, data beats and check beat as received (R9, R12). -/
def execLinkTransfer (toCore : Bool) (head : BitVec 32) (data : List (BitVec 32)) (check : BitVec 32) (s : State) : Res :=
  .next (s.linkTransfer (boolNat toCore) ⟨head, data, check⟩)

/-- LINK_SILENCE_TIMEOUT: no transfer for 50 µs (R14). -/
def execLinkSilenceTimeout (s : State) : Res := if s.link.lost then .next s else .next s.linkLost

/-- LINK_HEARTBEAT: a good one-word transfer of the heartbeat class with the next number in one direction (R10, R14). -/
def execLinkHeartbeat (toCore : Bool) (s : State) : Res :=
  .next (s.linkTransfer (boolNat toCore) (Xfer.make 2 ((s.link.dir (boolNat toCore)).seq + 1) [0]))

/-- GRID_LOST (R35). -/
def execGridLost (s : State) : Res := .next s.gridLost

/-- XTAL25_RETURN: edges are present again; the source stays until the next Dawn (R35, R36). -/
def execXtal25Return (s : State) : Res := .next (s.putFlag fGRID_XTAL_OK true)

/-- VCORE_LOW: VCORE falls below 0.68 V in Run, or recovers (R30). -/
def execVcoreLow (low : Bool) (s : State) : Res := .next (s.vcoreLow low)

/-- DLM_HOLD_RESUME (R42). -/
def execDlmHoldResume (s : State) : Res := .next s.holdResume

/-- RULE_STALL_CLEAR (R43). -/
def execRuleStallClear (s : State) : Res := .next s.stallClear

/-- LATE_RESULT of a class and instance (R40). -/
def execLateResult (k : Fin 8) (n : BitVec 8) (s : State) : Res := .next (s.lateResult k.val n.toNat)

end Sys2Proof.Machine
end

