-- ==== Sys2Proof/Machine/Ring.lean ====
section
/-! DEFINITION. The station ring ports (R226-R251): classification, forwarding and egress queues, the transparent clock,
launch windows, ring protection, modules and event frames. -/

namespace Sys2Proof.Machine

def defEgress : Egress := ⟨none, [], [], [], [], [], [], none, none⟩
def defPort : RingPort := ⟨defEgress, 0, true, false, none, none, 0, 0⟩
def defLaunch : Launch := ⟨0, false, false, 0, 0, 0, 0, 0⟩

/-- A byte list as a big-endian number, and the `n` big-endian bytes of a number. -/
def beNat (l : List Byte) : Nat := l.foldl (fun a b => a * 256 + b.toNat) 0
def beBytes (n x : Nat) : List Byte := (leBytes n x).reverse

/-- The part of a byte list at [a, a + n) as a big-endian number. -/
def beAt (l : List Byte) (a n : Nat) : Nat := beNat ((l.drop a).take n)

/-- A byte list with the bytes from `a` on replaced. -/
def patch (l : List Byte) (a : Nat) (bs : List Byte) : List Byte := l.take a ++ bs ++ l.drop (a + bs.length)

/-- Kinds of copies that wait for a core: R-APS, PTP and peer delay for SC1, CYHAR_CMD for SC0. -/
def cpRAPS : Nat := 0
def cpPTP : Nat := 1
def cpPDELAY : Nat := 2
def cpCYHAR : Nat := 3

namespace State

def setRing (s : State) (r : Ring) : State := { s with ring := r }
def rport (s : State) (p : Nat) : RingPort := tabGet (fun _ => defPort) s.ring.ports p
def setPort (s : State) (p : Nat) (x : RingPort) : State :=
  s.setRing { s.ring with ports := tabSet (fun _ => defPort) s.ring.ports p x }
def egress (s : State) (p : Nat) : Egress := (s.rport p).out
def setEgress (s : State) (p : Nat) (e : Egress) : State := s.setPort p { s.rport p with out := e }
def launch (s : State) (d : Nat) : Launch := tabGet (fun _ => defLaunch) s.ring.launch d
def setLaunch (s : State) (d : Nat) (l : Launch) : State :=
  s.setRing { s.ring with launch := tabSet (fun _ => defLaunch) s.ring.launch d l }

/-- The device address as a number (R230). -/
def ownMac (s : State) : Nat := (s.rd aRING_MAC_HI).toNat % 2 ^ 16 * 2 ^ 32 + (s.rd aRING_MAC_LO).toNat

/-- The logical side of a physical port, and back (R248). -/
def sideOf (s : State) (p : Nat) : Nat := if s.flag fRING_SWAPPED then 1 - p else p

def blocked (s : State) (p : Nat) : Bool := s.flag (fRP_BLOCKED p)
def sf (s : State) (p : Nat) : Bool := s.flag (fRP_SF p)

/-- A port takes nothing to send: blocked or in SF (R235, R246). -/
def shut (s : State) (p : Nat) : Bool := s.blocked p || s.sf p

/-- Dawn is held at the end of D3 with CFG_NONE, and no configuration has been activated yet (R369, R227). -/
def cfgHold (s : State) : Bool := s.pstate == 0 && s.get fPWR_HOLD == 2 && s.flag fCFG_NONE

/-- Cyhar over the ring is accepted (R249, R227). -/
def cyharOn (s : State) : Bool := s.flag fRING_CYHAR_EN || s.cfgHold

/-- The ring counters (RING_CNTp_k). -/
def ringCnt (s : State) (p k : Nat) : State := s.bump (aRING_CNT p k)

-- Wire time and room (R236, R241)

/-- Ticks that a frame of `n` bytes without FCS takes with FCS, preamble and IFG. -/
def wireTicks (s : State) (p n : Nat) : Nat := if s.flag (fRP_RATE p) then (n + 24 + 4) / 5 else (n + 24 + 49) / 50

/-- The guard of a port in ticks: 41 at 10 Gbit/s, 404 at 1 Gbit/s (R241). -/
def guardTicks (s : State) (p : Nat) : Nat := s.wireTicks p 1996

/-- Bytes that a queue holds, FCS included, and whether one of 32 KiB has room for a frame. -/
def queued (q : List Frame) : Nat := sumList (q.map fun f => f.bytes.length + 4)
def roomFor (q : List Frame) (f : Frame) : Bool := decide (queued q + f.bytes.length + 4 ≤ 32768)

/-- Kept frames join their queue in their order as far as there is room (R238). -/
def takeIn : List Frame → List Frame → List Frame × List Frame
  | q, [] => (q, [])
  | q, f :: fs => if roomFor q f then takeIn (q ++ [f]) fs else (q, f :: fs)

/-- A frame of the device joins a queue, behind what its producer keeps already, or is kept itself (R238). -/
def joinOwn (q kept : List Frame) (f : Frame) : List Frame × List Frame :=
  if kept.isEmpty && roomFor q f then (q ++ [f], kept) else (q, kept ++ [f])

-- Transparent clock (R259, R260)

/-- Place of the PTP message in a frame, behind its tags. -/
def ptpAt (f : List Byte) : Nat := f.length - (etherOf f).2.length

/-- The table key of a message: sourcePortIdentity, domain, sequenceId. -/
def tcKey (m : List Byte) : Nat := beAt m 20 10 * 2 ^ 24 + beAt m 4 1 * 2 ^ 16 + beAt m 30 2

/-- A frame whose correctionField is increased by `x` units of 2^-16 ns. -/
def correct (f : List Byte) (x : Int) : List Byte :=
  let a := ptpAt f + 8
  patch f a (beBytes 8 (toBits ((beAt f a 8 : Nat) + x) 64))

/-- The stamp of an event message at a port's PCS, in ns, before its latency correction: the first symbol after the start-of-frame
delimiter comes `tenths` of 0.1 ns after this tick, and the stamp is the symbol clock's count of 6.4 ns at 10 Gbit/s, 8 ns at 1 Gbit/s
(R255), which runs with the grid from its start (DESIGN CHOICE, log entry 80). -/
def pcsStamp (s : State) (p tenths : Nat) : Int :=
  let g := if s.flag (fRP_RATE p) then 80 else 64
  let t := s.grid.tick * 400
  (s.timeNs : Int) + (((t + tenths) / g * g : Nat) - (t : Int)) / 10

/-- The egress stamp of a frame that begins to leave: its preamble and delimiter go before it (R255). -/
def egressStamp (s : State) (p : Nat) : Int := s.pcsStamp p (if s.flag (fRP_RATE p) then 640 else 64) + s.get (fTPORT_TXLAT p)

/-- The ingress stamp of a frame whose first symbol comes `sub` ns after this tick (R255). -/
def ingressStamp (s : State) (p sub : Nat) : Int := s.pcsStamp p (10 * sub) - s.get (fTPORT_RXLAT p)

/-- What R259 adds to a Sync's correction: residence, mean link delay, delay asymmetry and booked asymmetry. -/
def tcSum (s : State) (f : Frame) (out : Nat) : Int :=
  let sent := s.egressStamp out
  let i := f.ingress
  (sent - f.stamp) * 65536 + (s.rd (aTIME_MPD i)).toNat * 256
    + (signedOf (s.rd (aTIME_PORT i 0)).toNat 32 + signedOf (s.rd (aTIME_BOOK i)).toNat 32) * 65536

/-- A forwarded PTP frame as it leaves: a one-step Sync is corrected, a two-step one's sum kept for its Follow_Up, which is
corrected when it finds its entry; the others leave unchanged and are counted (R259, R260). -/
def tcLeave (s : State) (f : Frame) (out : Nat) : State × Frame :=
  let m := (etherOf f.bytes).2
  let t := beAt m 0 1 % 16
  if t = 0 then
    let x := s.tcSum f out
    if bitOf (beAt m 6 1) 1 then
      let tab := (s.ptp.table ++ [⟨tcKey m, x, s.grid.tick⟩])
      ({ s with ptp := { s.ptp with table := if 32 < tab.length then tab.drop 1 else tab } }, f)
    else (s, { f with bytes := correct f.bytes x })
  else if t = 8 then
    match s.ptp.table.find? fun e => e.key == tcKey m with
    | some e =>
      ({ s with ptp := { s.ptp with table := s.ptp.table.filter fun x => x.key != tcKey m } },
        { f with bytes := correct f.bytes e.sum })
    | none => (s.bump (aTIME_CNT 1), f)
  else (s.bump (aTIME_CNT 3), f)

/-- A frame of the device itself, filled to the 60 bytes that a minimum frame has before its FCS. -/
def ownFrame (s : State) (kind ctx : Nat) (bytes : List Byte) : Frame :=
  ⟨bytes ++ List.replicate (60 - bytes.length) 0, false, 2, s.grid.tick, s.timeNs, s.quality 0, kind, ctx⟩

/-- A PTP message of `n` bytes without its body: header of IEEE 1588-2019 (version 2, minor version 1; PRESUMED, log entry 31) with
type, domain, flags, correctionField, port and sequenceId (R252, R261). -/
def ptpHeader (s : State) (p type dom flags n corr id : Nat) : List Byte :=
  let mac := s.ownMac
  beBytes 1 type ++ beBytes 1 0x12 ++ beBytes 2 n ++ beBytes 1 dom ++ beBytes 1 0 ++ beBytes 2 flags
    ++ beBytes 8 corr ++ beBytes 4 0 ++ beBytes 3 (mac / 2 ^ 24) ++ beBytes 2 0xFFFE ++ beBytes 3 mac ++ beBytes 2 (p + 1)
    ++ beBytes 2 id ++ beBytes 1 5 ++ beBytes 1 0x7F

/-- A link-local peer-delay frame around a message, with the stamp and the correction that its egress needs. -/
def pdFrame (s : State) (m : List Byte) (stamp : Int) (corr : Nat) : Frame :=
  { s.ownFrame 1 0 (beBytes 6 0x0180C200000E ++ beBytes 6 s.ownMac ++ beBytes 2 0x88F7 ++ m) with stamp := stamp, ctx := corr }

/-- A whole number of ns as a PTP timestamp. -/
def ptpTime (x : Int) : List Byte := beBytes 6 (x.toNat / 1000000000) ++ beBytes 4 (x.toNat % 1000000000)

/-- A peer-delay frame of the device as it leaves: a request takes its egress stamp, a one-step answer its turnaround time,
a two-step answer is followed by its stamp and the request's correctionField in a frame behind those that wait (R252, R261, R236). -/
def pdLeave (s : State) (f : Frame) (out : Nat) : State × Frame :=
  let m := (etherOf f.bytes).2
  let sent := s.egressStamp out
  let t := beAt m 0 1 % 16
  if t = 2 then
    ({ s with ptp := { s.ptp with exch := s.ptp.exch.map fun (k, e) => if k = out then (k, { e with sent := sent, qual := s.quality 0 }) else (k, e) } }, f)
  else if t = 3 then
    if bitOf (beAt m 6 1) 1 then
      let fu := s.pdFrame (s.ptpHeader out 0xA (beAt m 4 1) 0 54 f.ctx (beAt m 30 2) ++ ptpTime sent ++ (m.drop 44).take 10) 0 0
      let e := s.egress out
      let (q, k) := joinOwn e.ptp e.keptPtp fu
      (s.setEgress out { e with ptp := q, keptPtp := k }, f)
    else (s, { f with bytes := correct f.bytes ((sent - f.stamp) * 65536) })
  else (s, f)

/-- What a frame of the PTP queue brings with it as it leaves. -/
def ptpLeave (s : State) (f : Frame) (out : Nat) : State × Frame :=
  if f.kind ≠ 1 ∨ (etherOf f.bytes).1 ≠ 0x88F7 then (s, f)
  else if f.ingress < 2 then s.tcLeave f out
  else s.pdLeave f out

-- Egress (R237, R241, R242)

/-- A stored frame may start now: no window is open, and a guard leaves it the time to end (R241). -/
def fits (s : State) (p : Nat) (f : Frame) : Bool :=
  let e := s.egress p
  e.window.isNone && (match e.guard with
    | some g => decide (s.grid.tick + s.wireTicks p f.bytes.length ≤ g)
    | none => true)

/-- A transit frame of the window's pass class (R242). -/
def passes (s : State) (p : Nat) (f : Frame) : Bool :=
  match (s.egress p).window with
  | some (_, c) => c != 0 && (etherOf f.bytes).1 == c
  | none => false

/-- The frame begins to leave. -/
def startFrame (s : State) (p : Nat) (f : Frame) : State :=
  let (s, f) := s.ptpLeave f p
  s.setEgress p { s.egress p with cur := some f }

/-- Frames that producers keep move into their queues as room comes (R238). -/
def refill (s : State) (p : Nat) : State :=
  let e := s.egress p
  let (loc, kept) := takeIn e.loc e.kept
  let (ptp, keptPtp) := takeIn e.ptp e.keptPtp
  s.setEgress p { e with loc := loc, kept := kept, ptp := ptp, keptPtp := keptPtp }

/-- The launch frame of an open gate (R237 order 1). -/
def launchReady (e : Egress) : Option Frame :=
  match e.window with
  | some (d, _) => (e.launch.find? fun x => x.1 == d).map (·.2)
  | none => none

/-- Order 5 of R237. -/
def chooseLast (s : State) (p : Nat) (e : Egress) (loc : Bool → Option (Frame × List Frame)) : State :=
  match loc false with
  | some (f, rest) => ((s.setEgress p { e with loc := rest }).startFrame p f).refill p
  | none => s

/-- Orders 3 to 5 of R237. -/
def chooseRest (s : State) (p : Nat) (e : Egress) (loc : Bool → Option (Frame × List Frame)) : State :=
  match loc true with
  | some (f, rest) => ((s.setEgress p { e with loc := rest }).startFrame p f).refill p
  | none =>
    match e.transit with
    | f :: rest =>
      if s.fits p f || s.passes p f then (s.setEgress p { e with transit := rest }).startFrame p f
      else s.chooseLast p e loc
    | [] => s.chooseLast p e loc

/-- An idle egress that is not in SF chooses its next frame (R237); on a blocked port only the PTP queue is served: R-APS and
peer delay (R246). -/
def choose (s : State) (p : Nat) : State :=
  let e := s.egress p
  if e.cur.isSome || s.sf p then s
  else
    let loc := fun (old : Bool) => match e.loc with
      | f :: rest =>
        if s.fits p f && !s.blocked p && (!old || decide (f.tick + s.get fRING_LMAXW * 2500 ≤ s.grid.tick)) then some (f, rest)
        else none
      | [] => none
    match if s.blocked p then none else launchReady e with
    | some f =>
      let s := s.setEgress p { e with launch := e.launch.filter fun x => some x.1 != e.window.map (·.1) }
      (s.ringCnt p 9).startFrame p f
    | none =>
      match e.ptp with
      | f :: rest =>
        if s.fits p f then ((s.setEgress p { e with ptp := rest }).startFrame p f).refill p
        else if s.blocked p then s else s.chooseRest p e loc
      | [] => if s.blocked p then s else s.chooseRest p e loc

/-- A frame joins the PTP queue; a forwarded one that finds no room is counted in DROPQ, one of the device is kept by its producer
(R236-R238). -/
def toPtp (s : State) (p : Nat) (f : Frame) : State :=
  let e := s.egress p
  if f.ingress < 2 then
    (if roomFor e.ptp f then (s.setEgress p { e with ptp := e.ptp ++ [f] }).choose p else s.ringCnt p 5)
  else
    let (q, k) := joinOwn e.ptp e.keptPtp f
    (s.setEgress p { e with ptp := q, keptPtp := k }).choose p

/-- A frame of the device joins the local queue, or its producer keeps it (R238). -/
def toLocal (s : State) (p : Nat) (f : Frame) : State :=
  let e := s.egress p
  let (q, k) := joinOwn e.loc e.kept f
  (s.setEgress p { e with loc := q, kept := k }).choose p

/-- A transit frame joins the egress buffer, 448 KiB at most (R236). -/
def toTransit (s : State) (p : Nat) (f : Frame) : State :=
  let e := s.egress p
  if queued e.transit + f.bytes.length + 4 ≤ 458752 then (s.setEgress p { e with transit := e.transit ++ [f] }).choose p
  else s.ringCnt p 5

/-- Frames that wait at a port that has become blocked or failed are discarded and counted at their ingress (R235). -/
def purge (s : State) (p : Nat) : State :=
  let e := s.egress p
  let gone := e.transit ++ e.ptp.filter fun f => decide (f.ingress < 2) && (etherOf f.bytes).1 == 0x88F7
  let s := gone.foldl (fun s f => s.ringCnt f.ingress 6) s
  (s.setEgress p { e with transit := [],
                          ptp := e.ptp.filter fun f => !(decide (f.ingress < 2) && (etherOf f.bytes).1 == 0x88F7) }).refill p

/-- The frame being sent ends and the egress chooses its next one (R237). -/
def txDone (s : State) (p : Nat) : State :=
  let e := s.egress p
  match e.cur with
  | some f =>
    let s := (s.setEgress p { e with cur := none }).ringCnt p 4
    (if f.stomp then s.ringCnt p 3 else s).choose p
  | none => s.choose p

-- Forwarding (R233-R235)

/-- A frame of this queue may go cut-through to egress p (R233): equal rates, egress open and idle, nothing of the same or a
higher queue waiting, outside guard and window or of the pass class. -/
def cutThrough (s : State) (p kind : Nat) (f : Frame) : Bool :=
  let e := s.egress p
  s.flag (fRP_RATE 0) == s.flag (fRP_RATE 1) && !s.shut p && e.cur.isNone && e.ptp.isEmpty && (launchReady e).isNone
    && (kind == 1 || e.transit.isEmpty) && ((e.window.isNone && e.guard.isNone) || (kind == 0 && s.passes p f))

/-- A good TRANSIT or PTP frame goes to the other port (R233, R235). -/
def forward (s : State) (p kind : Nat) (f : Frame) : State :=
  let o := 1 - p
  if s.shut o then s.ringCnt p 6
  else if s.cutThrough o kind f then s.startFrame o f
  else if kind = 1 then s.toPtp o f else s.toTransit o f

/-- A BAD frame whose cut-through copy has begun is sent to its end, 2,000 bytes at most, with the complemented FCS (R234). -/
def forwardBad (s : State) (p kind : Nat) (body : List Byte) (stamp : Int) : State :=
  let f : Frame := ⟨body.take 1996, true, p, s.grid.tick, stamp, s.quality 0, kind, 0⟩
  if s.cutThrough (1 - p) kind f then s.startFrame (1 - p) f else s

-- Classification (R230, R231)

/-- The VLAN identifier of a frame's first tag. -/
def tagVid (f : List Byte) : Option Nat := if beAt f 12 2 = 0x8100 ∨ beAt f 12 2 = 0x88A8 then some (beAt f 14 2 % 4096) else none

/-- Row 5: an R-APS message of this instance, tagged as configured (R230, R245). -/
def isRaps (s : State) (f : List Byte) : Bool :=
  let (t, m) := etherOf f
  t == 0x8902 && beAt f 0 6 == 0x0119A7000000 + s.get fERPS_RINGID && beAt m 1 1 == 40
    && beAt m 0 1 / 32 == s.get fERPS_MEL
    && (if s.flag fERPS_TAG then tagVid f == some (s.get fERPS_VID) else tagVid f == none)

/-- The class of a good frame received on port p by rows 2-10 of R230: 2 MAC control, 3 LOOP, 4 LINK-LOCAL, 5 R-APS,
6 blocked, 7 PTP, 8 LOCAL DROP, 9 unwanted, 10 TRANSIT. -/
def classOf (s : State) (p : Nat) (f : List Byte) : Nat :=
  let (t, m) := etherOf f
  let d := beAt f 0 6
  if t = 0x8808 then 2
  else if beAt f 6 6 = s.ownMac then 3
  else if d / 16 = 0x0180C200000 then 4
  else if s.isRaps f then 5
  else if s.blocked p then 6
  else if t = 0x88F7 then 7
  else if t = 0x88B5 ∧ d = s.ownMac ∧ beAt m 0 1 / 16 = 0xC then 8
  else if d = s.ownMac then 9
  else 10

/-- A LOCAL DROP frame is a CYHAR_CMD that is accepted: version, LENGTH, subtype and CYHAR_EN (R231, R249). -/
def localGood (s : State) (m : List Byte) : Bool :=
  beAt m 0 1 == 0xC1 && beAt m 1 1 == 1 && decide (12 + beAt m 2 2 ≤ m.length) && s.cyharOn

/-- A copy waits for a core, with its ingress stamp and, of a PTP message, its domain. -/
def copyTo (s : State) (kind p type : Nat) (stamp : Int) (dom : Nat) : State :=
  s.setRing { s.ring with copies := s.ring.copies ++ [⟨kind, p, type, stamp, s.quality 0, dom⟩] }

/-- The copy of an event message waits: Sync and Announce of this clock's domain, Pdelay_Req and Pdelay_Resp. What comes with a
follow-up message is an operand of the command that takes the copy up (log entry 33). -/
def copyPtp (s : State) (kind p : Nat) (m : List Byte) (stamp : Int) : State :=
  let t := beAt m 0 1 % 16
  if kind = cpPTP then
    (if (t = 0 ∨ t = 0xB) ∧ beAt m 4 1 = s.get fTCFG_DOMAIN then s.copyTo kind p t stamp (beAt m 4 1) else s)
  else if t = 2 ∨ t = 3 then s.copyTo kind p t stamp (beAt m 4 1) else s

/-- The oldest copy of a kind and message type from a port. -/
def isCopy (kind p type : Nat) (c : Copy) : Bool := c.kind == kind && c.port == p && c.type == type

/-- It is taken up. -/
def copyTaken (s : State) (kind p type : Nat) : State :=
  s.setRing { s.ring with copies := s.ring.copies.eraseP (isCopy kind p type) }

/-- The ingress stamp of the message that a command takes up: its copy's, or of `sub` ns after this tick when no copy waits (R255). -/
def copyStamp (s : State) (kind p type sub : Nat) : Int :=
  match s.ring.copies.find? (isCopy kind p type) with
  | some c => c.stamp
  | none => s.ingressStamp p sub

/-- The domain of that message: its copy's, or this clock's when no copy waits (log entry 33). -/
def copyDomain (s : State) (kind p type : Nat) : Nat :=
  match s.ring.copies.find? (isCopy kind p type) with
  | some c => c.domain
  | none => s.get fTCFG_DOMAIN

/-- A good frame by its class. -/
def receiveGood (s : State) (p : Nat) (f : List Byte) (stamp : Int) : State :=
  let m := (etherOf f).2
  let fr : Frame := ⟨f, false, p, s.grid.tick, stamp, s.quality 0, 0, 0⟩
  match s.classOf p f with
  | 2 => s.ringCnt p 7
  | 3 => s.ringCnt p 8
  | 4 => if (etherOf f).1 = 0x88F7 then s.copyPtp cpPDELAY p m stamp else s
  | 5 =>
    if beAt m 6 6 = s.ownMac then s
    else
      let s := s.copyTo cpRAPS p 0 stamp 0
      if s.sf (1 - p) then s.ringCnt p 6 else s.toPtp (1 - p) { fr with kind := 1 }
  | 6 => s.ringCnt p 6
  | 7 => (s.copyPtp cpPTP p m stamp).forward p 1 { fr with kind := 1 }
  | 8 => if s.localGood m then s.copyTo cpCYHAR p 0 stamp 0 else s.ringCnt p 6
  | 9 => s.ringCnt p 6
  | _ => s.forward p 0 fr

/-- A frame received on a port, FCS included, with its raw ingress stamp's ns after the tick (R230, R255). The snoop looks at it whatever
its class, and takes fields from it when its FCS is good (R174, R176, R232). -/
def ringReceive (s : State) (p : Nat) (frame : List Byte) (codeErr : Bool) (sub : Nat) : State :=
  let n := frame.length
  let body := frame.take (n - 4)
  let stamp := s.ingressStamp p sub
  let fcs := decide (4 < n) && crc32 body == ofLeBytes (frame.drop (n - 4))
  if s.inDusk then s
  else if 2000 < n ∨ n < 64 ∨ codeErr ∨ !fcs then
    let s := if fcs then s.snoop (s.sideOf p) body else s
    let s := s.ringCnt p (if 2000 < n then 2 else 1)
    if n < 64 then s
    else
      match s.classOf p body with
      | 7 => s.forwardBad p 1 body stamp
      | 10 => s.forwardBad p 0 body stamp
      | _ => s
  else ((s.ringCnt p 0).snoop (s.sideOf p) body).receiveGood p body stamp

-- Ring protection (R245-R248)

/-- The grandmaster identity in TIME_GM. -/
def gmNow (s : State) : Nat := (s.rd aTIME_GM_HI).toNat * 2 ^ 32 + (s.rd aTIME_GM_LO).toNat

/-- The time state changes: the 10 s timer of R267 ends, TIME_STATE is logged and source 46 raised (R266). -/
def timeState (s : State) (st : Nat) : State :=
  let was := s.get fTIME_STATE
  let s := s.put fTIME_STATE st
  if was = st then s
  else (({ s with ptp := { s.ptp with trust := none } }).logFw evTIME_STATE kTIME 0 [was, st]).raise srcTIME

/-- The servo holds for 2 s from now, keeping the rate; o_old is the last offset before the first increment. Offsets seen toward a
step count no more: HOLDOVER takes none (R266, R269). -/
def servoHold (s : State) : State :=
  let st := s.get fTIME_STATE
  if s.flag fNW_SC1_LOST || (st != 2 && st != 3) then s
  else
    let old := if st = 2 then s.ptp.offs.headD 0 else s.ptp.oldOff
    let gm := if st = 2 then s.gmNow else s.ptp.oldGm
    let s := { s with ptp := { s.ptp with
      hold := true, holdTick := s.grid.tick, collect := false, taken := [], oldOff := old, oldGm := gm, next := none,
      fresh := [], step := none } }
    s.timeState 3

/-- The route epoch is incremented; the time servo holds (R247, R269). -/
def epochUp (s : State) : State :=
  let s := s.bump aRING_EPOCH
  ((s.logFw evRING_SWITCH kDEVICE 0 [(s.rd aRING_EPOCH).toNat]).raise srcRING).servoHold

/-- A port is blocked or opened by the protection process (R246). -/
def setBlocked (s : State) (p : Nat) (b : Bool) : State :=
  let s := s.putFlag (fRP_BLOCKED p) b
  if b then s.purge p else s.choose p

/-- R-APS messages of a request begin: three 3.3 ms apart, then one every 5 s (R245). -/
def startTx (s : State) (req : Nat) (dnf : Bool) : State := s.setRing { s.ring with tx := some (req, dnf), sent := 0 }
def stopTx (s : State) : State := s.setRing { s.ring with tx := none, sent := 0 }

/-- Request codes of R-APS (G.8032). -/
def rqNR : Nat := 0
def rqMS : Nat := 7
def rqSF : Nat := 11
def rqFS : Nat := 13
def rqEVENT : Nat := 14

/-- Every port that has not failed is opened. -/
def unblockGood (s : State) : State :=
  [0, 1].foldl (fun s p => if (s.rport p).fail || !s.blocked p then s else s.setBlocked p false) s

/-- A local signal fail reaches the protection process as the top request (G.8032, states other than FORCED_SWITCH). -/
def localFail (s : State) (p : Nat) : State :=
  if s.get fRING_ERPS = 4 then s
  else
    let was := s.blocked p
    let s := if was then s else s.setBlocked p true
    ((s.startTx rqSF was).unblockGood).put fRING_ERPS 2

/-- The last local signal fail has gone (G.8032): guard timer and NR in PROTECTION. -/
def localClear (s : State) : State :=
  if s.get fRING_ERPS = 2 then
    (s.setRing { s.ring with guard := true, guardAt := s.grid.tick }).startTx rqNR false |>.put fRING_ERPS 5
  else s

/-- An R-APS request of another node, no local one standing above it (G.8032, non-owner). -/
def remote (s : State) (req : Nat) (rb : Bool) (node : Nat) : State :=
  let st := s.get fRING_ERPS
  if req = rqFS then if st = 4 then s else ((s.unblockGood).stopTx).put fRING_ERPS 4
  else if [0, 1].any fun p => (s.rport p).fail then s
  else if req = rqSF then
    if st = 2 ∨ st = 4 then s else ((s.unblockGood).stopTx).put fRING_ERPS 2
  else if req = rqMS then
    if st = 1 ∨ st = 5 then ((s.unblockGood).stopTx).put fRING_ERPS 3 else s
  else if req = rqNR ∧ rb then
    if st = 5 ∨ st = 1 then ((s.unblockGood).stopTx).put fRING_ERPS 1
    else if st = 0 then s else s.put fRING_ERPS 5
  else if req = rqNR then
    if st = 1 ∨ st = 5 then (if s.ownMac < node then (s.unblockGood).stopTx else s)
    else if st = 0 then s else s.put fRING_ERPS 5
  else s

/-- The protection process starts with the ports: one port blocked, NR sent, and the signal fails that stand (R375, R245). -/
def ringStart (s : State) : State :=
  let s := ((s.setBlocked 0 true).startTx rqNR false).put fRING_ERPS 5
  [0, 1].foldl (fun s p => if (s.rport p).fail then s.localFail p else s) s

/-- Expected neighbour of a port (RING_NBRE, RING_NBRW). -/
def expected (s : State) (p : Nat) : Nat :=
  (s.rd (aRING_NBR p 1)).toNat % 2 ^ 16 * 2 ^ 32 + (s.rd (aRING_NBR p 0)).toNat

/-- The learnt neighbour of a port (RING_NBRSEEN), 0 before one is learnt. -/
def learnt (s : State) (p : Nat) : Nat := (s.rd (aRING_NBRSEEN_HI p)).toNat * 2 ^ 32 + (s.rd (aRING_NBRSEEN_LO p)).toNat

/-- The logical roles are exchanged while both ports are CROSSED (R248). -/
def swapOn (s : State) : State :=
  if s.flag (fRP_CROSSED 0) && s.flag (fRP_CROSSED 1) && s.flag fRING_XAUTO && !s.flag fRING_SWAPPED then
    (s.putFlag fRING_SWAPPED true).epochUp
  else s

/-- A learning that finds both ports uncrossed undoes the exchange (R248). -/
def swapOff (s : State) : State :=
  if !s.flag (fRP_CROSSED 0) && !s.flag (fRP_CROSSED 1) && s.flag fRING_SWAPPED then (s.putFlag fRING_SWAPPED false).epochUp
  else s

/-- A neighbour compared with the expected ones: CROSSED or NBR_MISMATCH, logged when `told` (R248). -/
def nbrCompare (s : State) (p node : Nat) (told : Bool) : State :=
  let on := s.expected p != 0
  let crossed := on && node == s.expected (1 - p)
  let bad := on && !crossed && node != s.expected p
  let c := crossed && (told || !s.flag (fRP_CROSSED p))
  let b := bad && (told || !s.flag (fRP_NBR_MISMATCH p))
  let s := (s.putFlag (fRP_CROSSED p) crossed).putFlag (fRP_NBR_MISMATCH p) bad
  let s := if c then (s.logFw evRING_CROSSED kPORT p [node / 2 ^ 32, node % 2 ^ 32]).raise srcRING else s
  if b then s.logFw evNBR_MISMATCH kPORT p [node / 2 ^ 32, node % 2 ^ 32] else s

/-- The neighbour of a port is learnt and compared (R248). -/
def learnNbr (s : State) (p node : Nat) : State :=
  let s := s.setPort p { s.rport p with learn := none }
  let s := (s.wr (aRING_NBRSEEN_LO p) (node % 2 ^ 32)).wr (aRING_NBRSEEN_HI p) (node / 2 ^ 32)
  (s.nbrCompare p node true).swapOn.swapOff

/-- A commit may give other expected neighbours or XAUTO: learnt neighbours are compared anew, with a record for a flag that sets
(R248; DEDUCED, log entry 79). -/
def nbrAgain (s : State) : State :=
  ([0, 1].foldl (fun s p => if s.learnt p = 0 then s else s.nbrCompare p (s.learnt p) false) s).swapOn

/-- SC1 takes up an R-APS message: neighbour learning, guard timer, flush and state machine (R245-R248). -/
def raps (s : State) (p req sub : Nat) (rb dnf bpr : Bool) (node : Nat) : State :=
  let s := s.copyTaken cpRAPS p 0
  if node = s.ownMac ∨ s.flag fNW_SC1_LOST then s
  else
    let s := match (s.rport p).learn with
      | some t => if s.grid.tick ≤ t then s.learnNbr p node else s.setPort p { s.rport p with learn := none }
      | none => s
    if req = rqEVENT then (if sub = 0 then s.epochUp else s)
    else if s.ring.guard then s
    else
      let pr := some (node, bpr)
      let fresh := (s.rport p).pair != pr
      let flush := fresh && (s.rport (1 - p)).pair != pr && !dnf
      let s := if fresh then s.setPort p { s.rport p with pair := pr } else s
      let s := if flush then s.epochUp else s
      s.remote req rb node

/-- The R-APS message this node sends: Y.1731 header, request, status and node ID, tagged as configured (R245). -/
def rapsFrame (s : State) (req : Nat) (dnf : Bool) : Frame :=
  let bpr := s.blocked 1 && !s.blocked 0
  let tag := if s.flag fERPS_TAG then beBytes 2 0x8100 ++ beBytes 2 (s.get fERPS_PCP * 8192 + s.get fERPS_VID) else []
  s.ownFrame 1 0 (beBytes 6 (0x0119A7000000 + s.get fERPS_RINGID) ++ beBytes 6 s.ownMac ++ tag ++ beBytes 2 0x8902
    ++ beBytes 4 ((s.get fERPS_MEL * 32 + 1) * 2 ^ 24 + 40 * 2 ^ 16 + 32)
    ++ beBytes 2 (req * 4096 + boolNat dnf * 64 + boolNat bpr * 32) ++ beBytes 6 s.ownMac ++ List.replicate 25 0)

/-- The next R-APS message is due: the first at once, two more 3.3 ms apart, then one every 5 s (R245). -/
def rapsDue (s : State) : Bool :=
  s.ring.sent == 0 || decide (s.ring.txAt + (if s.ring.sent < 3 then 82500 else 125000000) ≤ s.grid.tick)

/-- An R-APS message is sent on every port that is not in SF (R245). -/
def rapsSend (s : State) : State :=
  match s.ring.tx with
  | some (req, dnf) =>
    if s.flag fNW_SC1_LOST || s.inDusk || !s.rapsDue then s
    else
      let f := s.rapsFrame req dnf
      let s := s.setRing { s.ring with sent := s.ring.sent + 1, txAt := s.grid.tick }
      [0, 1].foldl (fun s p => if s.sf p then s else s.toPtp p f) s
  | none => s

/-- The protection process learns of a signal fail at once or after the hold-off (R245). -/
def failSeen (s : State) (p : Nat) : State := (s.setPort p { s.rport p with fail := true, holdoff := false }).localFail p

/-- The protection process learns what the SF of a port is now: a fail at once or after the hold-off, a clearing at once
(R228, R245). -/
def sfTell (s : State) (p : Nat) : State :=
  let x := s.rport p
  if s.sf p then
    (if x.fail || x.holdoff then s
     else if s.get fERPS_HOLDOFF = 0 then s.failSeen p
     else s.setPort p { x with holdoff := true, holdAt := s.grid.tick })
  else
    let s := s.setPort p { x with fail := false, holdoff := false }
    if !x.fail then s else if (s.rport (1 - p)).fail then s.localFail (1 - p) else s.localClear

/-- The hold-off of a port has run out: HOLDOFF units of 100 ms (R245). -/
def holdoffOver (s : State) (p : Nat) : Bool :=
  (s.rport p).holdoff && decide ((s.rport p).holdAt + 2500000 * s.get fERPS_HOLDOFF ≤ s.grid.tick)

/-- The guard timer has run out: GUARD units of 10 ms (R245). -/
def guardOver (s : State) : Bool := s.ring.guard && decide (s.ring.guardAt + 250000 * s.get fERPS_GUARD ≤ s.grid.tick)

/-- What SC1 passes to the protection process; while SC1 is lost nothing (R244, R441). -/
def sfPass (s : State) (p : Nat) : State := if s.flag fNW_SC1_LOST then s else s.sfTell p

/-- The module of a port is counted absent, or unsuitable for its rate (R228, R229). -/
def moduleOut (s : State) (p : Nat) : Bool := decide (3 ≤ (s.rport p).noAck) || s.flag (fRP_MODULE_BAD p)

/-- Onset of signal fail, or another cause of it (R228, R247). -/
def sfOnset (s : State) (p : Nat) (link : Bool) : State :=
  let s := (s.setPort p { s.rport p with sfAt := s.grid.tick }).putFlag (fRP_LINK p) link
  if s.sf p then s else ((((s.putFlag (fRP_SF p) true).purge p).raise srcRING).epochUp).sfPass p

/-- Signal fail stands: its module is absent or unsuitable, or its last cause was seen less than 10 ms before (R228). -/
def sfStands (s : State) (p : Nat) : Bool := s.moduleOut p || decide (s.grid.tick < (s.rport p).sfAt + 250000)

/-- Clearing of signal fail; while it stands only the link is back (R228, R247, R248). -/
def sfClear (s : State) (p : Nat) : State :=
  if !s.sf p then s
  else if s.sfStands p then s.putFlag (fRP_LINK p) true
  else
    let s := (((s.putFlag (fRP_SF p) false).putFlag (fRP_LINK p) true).raise srcRING).epochUp
    ((s.setPort p { s.rport p with learn := some (s.grid.tick + 1250000) }).sfPass p).choose p

-- Modules (R229)

/-- A poll of a module: acknowledged, suitable for the rate, received power when it reports diagnostics. A module absent or unsuitable is
a signal fail (R228). -/
def modulePoll (s : State) (p : Nat) (ack ok : Bool) (power : Option Nat) : State :=
  let x := s.rport p
  if s.flag fNW_SC1_LOST || s.inDusk then s
  else if !ack then
    let s := s.setPort p { x with noAck := x.noAck + 1 }
    if x.noAck + 1 < 3 then s
    else
      (((s.putFlag (fRP_MODULE_PRESENT p) false).putFlag (fRP_MODULE_BAD p) false).put (fRP_RXPWR p) 0).sfOnset p
        (s.flag (fRP_LINK p))
  else
    let s := (s.setPort p { x with noAck := 0 }).putFlag (fRP_MODULE_PRESENT p) true
    let was := s.flag (fRP_MODULE_BAD p)
    let s := (s.putFlag (fRP_MODULE_BAD p) !ok).put (fRP_RXPWR p) (power.getD 0)
    let s := if !ok && !was then s.logFw evRING_MODULE kPORT p [s.get (fRP_RATE p)] else s
    if ok then s else s.sfOnset p (s.flag (fRP_LINK p))

-- Launch windows (R239-R244)

/-- A word of an active launch descriptor. -/
def ldWord (s : State) (d w : Nat) : Nat := s.cfgWord 4 (8 * d + w)
def ldValid (s : State) (d : Nat) : Bool := bitOf (s.ldWord d 0) 31
def ldStart (s : State) (d : Nat) : Nat :=
  (s.ldWord d 2 + s.ldWord d 3 % 2 ^ 16 * 2 ^ 32) * 1000000000 + s.ldWord d 1

/-- Occurrences of a descriptor with G at or before a time. -/
def ldCount (s : State) (d t : Nat) : Nat :=
  let a := s.ldStart d
  if t < a then 0 else if s.ldWord d 4 = 0 then 1 else (t - a) / s.ldWord d 4 + 1

/-- G of the next occurrence after now (R239). -/
def ldNext (s : State) (d : Nat) : Option Nat :=
  let k := s.ldCount d s.timeNs
  if s.ldWord d 4 = 0 then (if k = 0 then some (s.ldStart d) else none) else some (s.ldStart d + k * s.ldWord d 4)

/-- The physical egresses that a PORT code names now, as a mask, and the egresses of a mask (R239, R248). An occurrence keeps those it
was copied for, so that its frame, guard and window are on one egress (DEDUCED, log entry 79). -/
def ldMask (s : State) (code : Nat) : Nat := boolNat (bitOf code (s.sideOf 0)) + 2 * boolNat (bitOf code (s.sideOf 1))
def ldPorts (mask : Nat) : List Nat := [0, 1].filter (bitOf mask)

/-- The template of a descriptor with its sequence number and slot values (R239). -/
def ldFrame (s : State) (d : Nat) : List Byte :=
  let n := bitsOf (s.ldWord d 5) 16 11
  let t := (((List.range ((n + 3) / 4)).flatMap fun w => leBytes 4 (s.cfgWord 5 (500 * d + w)))).take n
  let t := if bitOf (s.ldWord d 0) 28 then patch t (bitsOf (s.ldWord d 5) 0 11) (beBytes 4 (s.launch d).seq) else t
  [6, 7].foldl (fun t w =>
    let x := s.ldWord d w
    if bitOf x 20 then patch t (bitsOf x 21 11) (beBytes 4 (toBits (s.stored s.obs.slots (bitsOf x 0 10)) 32)) else t) t

/-- LSKIP or another counter of every egress of an occurrence. -/
def ldCntAll (s : State) (ports k : Nat) : State := (ldPorts ports).foldl (fun s p => s.ringCnt p k) s

/-- The queued copy of a descriptor is taken out of every launch queue. -/
def ldUnqueue (s : State) (d : Nat) : State :=
  [0, 1].foldl (fun s p => let e := s.egress p; s.setEgress p { e with launch := e.launch.filter fun x => x.1 != d }) s

/-- An occurrence is cancelled: its copy leaves the queues, its comparator is free, and a guard that runs for it ends (R241, R244). -/
def ldCancel (s : State) (d : Nat) : State :=
  let l := s.launch d
  let s := (s.ldUnqueue d).setLaunch d { l with copied := false, armed := false }
  if !l.armed then s
  else (ldPorts l.ports).foldl (fun s p => (s.setEgress p { s.egress p with guard := none }).choose p) s

/-- Whole ticks from now until a time, rounded up. -/
def ticksTo (s : State) (t : Nat) : Nat := (t - s.timeNs + 39) / 40

/-- The time for the copy of the template for an occurrence: from G - 2,500 ticks on, before its deadline (R240). -/
def ldCopyTime (s : State) (g : Nat) : Bool := decide (s.ticksTo g ≤ 2500 ∧ 250 < s.ticksTo g)

/-- The template is copied into the launch queues for the next occurrence; a frame that a missed deadline left waiting stays
(R239, R240, R46). -/
def ldCopy (s : State) (d : Nat) : State :=
  let l := s.launch d
  if !s.ldValid d || !s.flag fTIME_SET || s.flag fNW_SC1_LOST || s.inDusk || l.armed then s
  else
    match s.ldNext d with
    | none => s
    | some g =>
      if !s.ldCopyTime g then s
      else
        let w := s.ldWord d 0
        let frame := s.ownFrame 3 0 (s.ldFrame d)
        let ports := s.ldMask (bitsOf w 29 2)
        let s := s.setLaunch d { l with at_ := g, copied := true, ports := ports, wlen := bitsOf w 16 9, pass := bitsOf w 0 16 }
        (ldPorts ports).foldl (fun s p =>
          let e := s.egress p
          if (e.launch.any fun x => x.1 == d) || decide (8 ≤ e.launch.length) then s
          else s.setEgress p { e with launch := e.launch ++ [(d, frame)] }) s

/-- GRID_NS has reached the target of an occurrence, by the signed difference (R274). -/
def ldReached (s : State) (d : Nat) : Bool := decide (0 ≤ signedOf (s.gridNs + 2 ^ 32 - (s.launch d).at_ % 2 ^ 32) 32)

/-- One of the eight launch-gate comparators is free (R240, R274). -/
def ldGateFree (s : State) : Bool := decide (((List.range 128).filter fun d => (s.launch d).armed).length < 8)

/-- The LAUNCH deadline: a comparator is armed with GRID_NS of G, or finds it passed (R240, R274); a miss leaves the gate
closed and the frame waiting (R46). With all eight in use, which R243 keeps from happening, the deadline is missed (DESIGN CHOICE, log
entry 87). -/
def ldDeadline (s : State) (d : Nat) (onTime : Bool) : State × Bool :=
  let l := s.launch d
  if !l.copied then (s, true)
  else if !onTime || !s.ldGateFree then ((s.ldCntAll l.ports 11).setLaunch d { l with copied := false }, false)
  else if !s.ldReached d then (s.setLaunch d { l with armed := true }, true)
  else (((s.ldCntAll l.ports 10).ldUnqueue d).setLaunch d { l with copied := false }, true)

/-- Whole ticks from now until the gate of an occurrence. -/
def ldLeft (s : State) (d : Nat) : Nat := s.ticksTo (s.launch d).at_

/-- The deadline tick of a copied occurrence, G - 250, has come (R37, R240). -/
def ldDeadlineTick (s : State) (d : Nat) : Bool := (s.launch d).copied && !(s.launch d).armed && decide (s.ldLeft d ≤ 250)

/-- The guard of an armed occurrence begins on those of its egresses whose own guard time has come: at mixed rates the guards of the two
begin at different ticks (R241). -/
def ldGuard (s : State) (d : Nat) : State :=
  let l := s.launch d
  if !l.armed then s
  else
    (ldPorts l.ports).foldl (fun s p =>
      if s.ldLeft d ≤ s.guardTicks p then s.setEgress p { s.egress p with guard := some (s.grid.tick + s.ldLeft d) } else s) s

/-- The gate opens when GRID_NS has reached its target: on each egress the frame leaves and the window is held, or the occurrence is
skipped and the egress goes on (R240, R244, R274). -/
def ldGate (s : State) (d : Nat) : State :=
  let l := s.launch d
  if !l.armed || !s.ldReached d then s
  else
    let ps := ldPorts l.ports
    let any := ps.any fun p => !s.shut p
    let s := s.setLaunch d { l with
      copied := false, armed := false, closeAt := s.grid.tick + l.wlen, seq := if any then (l.seq + 1) % 2 ^ 32 else l.seq }
    ps.foldl (fun s p =>
      let e := { s.egress p with guard := none }
      if s.shut p then
        ((s.setEgress p { e with launch := e.launch.filter fun x => x.1 != d }).ringCnt p 10).choose p
      else (s.setEgress p { e with window := some (d, l.pass) }).choose p) s

/-- The window of a descriptor closes, WLEN ticks after its gate opened (R239, R241). -/
def ldClose (s : State) (d : Nat) : State :=
  if s.grid.tick < (s.launch d).closeAt then s
  else [0, 1].foldl (fun s p =>
    let e := s.egress p
    if e.window.map (·.1) = some d then (s.setEgress p { e with window := none }).choose p else s) s

/-- Every occurrence is armed again from a new time; the occurrences a step passed over are skipped (R244). -/
def ldStep (s : State) (old : Nat) : State :=
  (List.range 128).foldl (fun s d =>
    if !s.ldValid d then s
    else
      let n := s.ldCount d s.timeNs - s.ldCount d old
      let ports := s.ldMask (bitsOf (s.ldWord d 0) 29 2)
      let s := (ldPorts ports).foldl (fun s p => s.wr (aRING_CNT p 10) ((s.rd (aRING_CNT p 10)).toNat + n)) s
      s.ldCancel d) s

/-- A changed descriptor: an armed occurrence is sent under the old one, an earlier one is cancelled (R244). -/
def ldChanged (s : State) (d : Nat) : State :=
  let l := s.launch d
  if l.armed then s else s.ldCancel d

-- Frames the device adds (R250)

/-- The 12-byte header of the device's own protocol (R231). -/
def ownHeader (sub len seq : Nat) : List Byte :=
  beBytes 1 sub ++ beBytes 1 1 ++ beBytes 2 len ++ beBytes 4 seq ++ beBytes 4 0

/-- An EVENT frame with up to 16 records leaves on every open port (R250). -/
def eventSend (s : State) : State :=
  let n := ((s.rd aEVT_HEAD).toNat + 2 ^ 32 - s.ring.evtNext) % 2 ^ 32
  let n := if n < 16 then n else 16
  if !s.flag fRING_EVT_EN || s.flag fNW_SC1_LOST || s.inDusk || n == 0 then s
  else
    let dst := (s.rd (aRING_EVTDST 1)).toNat % 2 ^ 16 * 2 ^ 32 + (s.rd (aRING_EVTDST 0)).toNat
    let recs := (List.range n).flatMap fun i => s.memRead (evtAddr ((s.ring.evtNext + i) % 2 ^ 32)) 64
    let f := s.ownFrame 2 0 (beBytes 6 dst ++ beBytes 6 s.ownMac ++ beBytes 2 0x88B5 ++ ownHeader 0xC3 (64 * n) s.ring.evtSeq ++ recs)
    let s := s.setRing { s.ring with evtNext := (s.ring.evtNext + n) % 2 ^ 32, evtSeq := (s.ring.evtSeq + 1) % 2 ^ 32 }
    [0, 1].foldl (fun s p => if s.shut p then s else s.toLocal p f) s

/-- A read of RING_LD_DATA0 by a context (R190, R491). -/
def ldDataRead (s : State) (c : Nat) : State :=
  let k := s.copyOf c
  let x := k.ldIdx
  s.setCopy c { k with
    ldLatch := (List.range 8).map fun w => s.cfgRead (bitOf x 30) 4 (8 * bitsOf x 0 7 + w),
    ldIdx := autoInc x 7 127 }

end State

-- Commands

/-- RING_FRAME_RECEIVE: a frame with its FCS on a port, a code error in it, and the ns of its stamp after the tick (R230). -/
def execRingFrameReceive (p : Fin 2) (frame : List (BitVec 8)) (codeErr : Bool) (sub : Fin 40) (s : State) : Res :=
  .next (s.ringReceive p.val frame codeErr sub.val)

/-- EGRESS_TX_COMPLETE (R237). -/
def execEgressTxComplete (p : Fin 2) (s : State) : Res := .next (s.txDone p.val)

/-- SIGNAL_FAIL_ONSET; `link`: block lock or synchronisation still holds (R228). -/
def execSignalFailOnset (p : Fin 2) (link : Bool) (s : State) : Res := .next (s.sfOnset p.val link)

/-- SIGNAL_FAIL_CLEAR (R228). -/
def execSignalFailClear (p : Fin 2) (s : State) : Res := .next (s.sfClear p.val)

/-- SFP_MODULE_POLL (R229). -/
def execSfpModulePoll (p : Fin 2) (ack ok : Bool) (power : Option (BitVec 16)) (s : State) : Res :=
  .next (s.modulePoll p.val ack ok (power.map (·.toNat)))

/-- RING_RATE_ALTERNATE: while Dawn is held with CFG_NONE a port without link changes its rate (R227). -/
def execRingRateAlternate (p : Fin 2) (s : State) : Res :=
  if s.cfgHold && !s.flag (fRP_LINK p.val) then .next (s.putFlag (fRP_RATE p.val) !s.flag (fRP_RATE p.val)) else .next s

/-- RAPS_RECEIVE: the message's request/state, sub-code, RB, DNF, BPR and node ID (R245). -/
def execRapsReceive (p : Fin 2) (req sub : BitVec 4) (rb dnf bpr : Bool) (node : BitVec 48) (s : State) : Res :=
  .next (s.raps p.val req.toNat sub.toNat rb dnf bpr node.toNat)

/-- RAPS_TRANSMIT (R245). -/
def execRapsTransmit (s : State) : Res := .next s.rapsSend

/-- HOLDOFF_EXPIRY, HOLDOFF times 100 ms after the onset: a signal fail that still stands reaches the protection process (R245), which
does not run while SC1 is lost. -/
def execHoldoffExpiry (p : Fin 2) (s : State) : Res :=
  if !s.holdoffOver p.val || s.flag fNW_SC1_LOST then .next s
  else if s.sf p.val then .next (s.failSeen p.val)
  else .next (s.setPort p.val { s.rport p.val with holdoff := false })

/-- GUARD_EXPIRY, GUARD times 10 ms after the timer's start (R245). -/
def execGuardExpiry (s : State) : Res := if s.guardOver then .next (s.setRing { s.ring with guard := false }) else .next s

/-- LAUNCH_TEMPLATE_COPY of a descriptor (R240). -/
def execLaunchTemplateCopy (d : Fin 128) (s : State) : Res := .next (s.ldCopy d.val)

/-- LAUNCH_GUARD_START (R241). -/
def execLaunchGuardStart (d : Fin 128) (s : State) : Res := .next (s.ldGuard d.val)

/-- LAUNCH_GATE_OPEN (R240, R274). -/
def execLaunchGateOpen (d : Fin 128) (s : State) : Res := .next (s.ldGate d.val)

/-- LAUNCH_WINDOW_CLOSE (R241). -/
def execLaunchWindowClose (d : Fin 128) (s : State) : Res := .next (s.ldClose d.val)

/-- EVENT_FRAME_SEND (R250). -/
def execEventFrameSend (s : State) : Res := .next s.eventSend

end Sys2Proof.Machine
end

