-- ==== Sys2Proof/Machine/Ptp.lean ====
section
/-! DEFINITION. The time base, the ordinary clock and its servo, peer delay, steps, comparators and PPS (R252-R278). -/

namespace Sys2Proof.Machine

namespace State

def setPtp (s : State) (x : Ptp) : State := { s with ptp := x }

/-- The committed rate word ρ (R253). -/
def rate (s : State) : Int := signedOf (s.rd aTIME_RATE).toNat 32
def setRate (s : State) (x : Int) : State := s.wr aTIME_RATE (toBits (clampInt (-219902325) 219902325 x) 32)

/-- The time base advances by one grid tick: 40 ns times 1 + ρ, the remainder carried (R253). -/
def timeTick (s : State) : State :=
  let x := ((s.time.frac : Int) + 40 * (2 ^ 40 + s.rate)).toNat
  let ns := s.time.ns + x / 2 ^ 40
  { s with time := { s.time with sec := s.time.sec + ns / 1000000000, ns := ns % 1000000000, frac := x % 2 ^ 40 } }

/-- Local time moves: the schedule judges its part and every TIME slot is written (R277, R111, R179). -/
def localMoved (s : State) : State := s.schedJudge.writeTimeSlots

-- Best master (R262, R266, R271)

/-- a comes before b in the order of the default algorithm. -/
def rankLess : List Nat → List Nat → Bool
  | a :: as, b :: bs => decide (a < b) || (a == b && rankLess as bs)
  | _, _ => false

/-- A master that counts: two Announce messages in time, fewer than 255 steps, and not silent for 4 intervals. -/
def qualified (s : State) (m : Master) : Bool :=
  decide (2 ≤ m.heard) && decide (m.rank.getD 6 0 < 255) && decide (s.grid.tick ≤ m.last + 4 * m.span)

/-- The master selected, if one is. -/
def selected (s : State) : Option Master :=
  match s.ptp.sel with
  | some k => s.ptp.masters.find? fun m => m.src == k && m.port == s.get fTIME_MPORT
  | none => none

/-- The best of the masters that count (R262). -/
def bestMaster (s : State) : Option Master :=
  (s.ptp.masters.filter s.qualified).foldl (fun (b : Option Master) m =>
    match b with
    | none => some m
    | some x => if rankLess m.rank x.rank then some m else b) none

/-- A master is taken: its port, grandmaster and UTC offset; UNSET becomes ACQUIRING, and HOLDOVER without a hold begins
one. During the four offsets after a hold one of another grandmaster ends the comparison, with nothing booked, and another one of the
same grandmaster begins it again (R262, R266, R269, R271). -/
def takeMaster (s : State) (m : Master) : State :=
  let new := s.selected.map (fun x => (x.port, x.src)) != some (m.port, m.src)
  let s := ((s.putFlag fTIME_MASTER true).put fTIME_MPORT m.port).wr aTIME_GM_LO (m.gm % 2 ^ 32)
  let s := s.wr aTIME_GM_HI (m.gm / 2 ^ 32)
  let s := { s with time := { s.time with utcNext := m.utc.getD (signedOf (s.get fTZ_UTCOFF) 16) } }
  let s := s.setPtp { s.ptp with sel := some m.src, fresh := if new then [] else s.ptp.fresh }
  if s.get fTIME_STATE = 0 then s.timeState 1
  else if s.ptp.collect then
    if m.gm ≠ s.ptp.oldGm then (s.setPtp { s.ptp with collect := false, taken := [] }).timeState 2
    else if new then s.setPtp { s.ptp with taken := [] } else s
  else if s.get fTIME_STATE = 3 ∧ new ∧ !s.ptp.hold ∧ !s.ptp.collect then s.servoHold
  else s

/-- The selection after a change of the masters heard. -/
def reselect (s : State) : State :=
  match s.bestMaster with
  | some m => s.takeMaster m
  | none => s

/-- An Announce of the configured domain (R262). -/
def announce (s : State) (m : Master) : State :=
  let old := s.ptp.masters.find? fun x => x.src == m.src && x.port == m.port
  let n := match old with
    | some x => if s.grid.tick ≤ x.last + 4 * m.span then x.heard + 1 else 1
    | none => 1
  let rest := s.ptp.masters.filter fun x => !(x.src == m.src && x.port == m.port)
  (s.setPtp { s.ptp with masters := rest ++ [{ m with heard := n, last := s.grid.tick }] }).reselect

/-- Three Announce intervals have passed without an Announce of the selected master (R262). -/
def masterSilent (s : State) : Bool :=
  s.ptp.sel.isSome && s.selected.all fun m => decide (m.last + 3 * m.span ≤ s.grid.tick)

/-- The selected master is lost, and with it what was seen toward a step (R262, R263, R266, R271). -/
def masterLost (s : State) : State :=
  match s.ptp.sel with
  | none => s
  | some k =>
    let st := s.get fTIME_STATE
    let old := if st = 2 then s.ptp.offs.headD 0 else s.ptp.oldOff
    let gm := if st = 2 then s.gmNow else s.ptp.oldGm
    let s := s.setPtp { s.ptp with
      masters := s.ptp.masters.filter (fun m => !(m.src == k && m.port == s.get fTIME_MPORT)), sel := none, fresh := [],
      step := none, oldOff := old, oldGm := gm, collect := false, taken := [], next := if st = 2 then none else s.ptp.next }
    let s := { s with time := { s.time with utcNext := signedOf (s.get fTZ_UTCOFF) 16 } }
    let s := s.putFlag fTIME_MASTER false
    let s := if st = 1 then s.timeState 0 else if st = 2 then s.timeState 3 else s
    s.reselect

-- Offsets and the servo (R263, R264, R267-R269)

/-- The clamp of ρ in the direction that reduces an offset (R267). -/
def clampRate (o : Int) : Int := if 0 < o then -219902325 else 219902325

/-- Four offsets within 1 µs of their mean: the mean (R263). -/
def agreed (l : List Int) : Option Int :=
  let t := l.foldl (· + ·) 0
  if l.length = 4 ∧ l.all (fun o => decide ((4 * o - t).natAbs ≤ 4000)) then some ((t + 2) / 4) else none

/-- A step may be made: the first one in ACQUIRING, a later one only re-armed, in LOCKED or in UNTRUSTED with CAUSE OFFSET, and each
with a master selected (R263, R266, R268). -/
def mayStep (s : State) : Bool :=
  let st := s.get fTIME_STATE
  s.ptp.sel.isSome && (st == 1 || (s.flag fTIME_REARMED && (st == 2 || (st == 4 && s.get fTIME_CAUSE == 1))))

/-- Conditions of a step with the offsets seen (R263): SC1 writes the step. -/
def stepJudge (s : State) : State :=
  match agreed s.ptp.fresh with
  | some m =>
    if s.ptp.sel.isSome ∧ 2 ≤ (tabGet (fun _ => []) s.ptp.delays (s.get fTIME_MPORT)).length then
      s.setPtp { s.ptp with step := some (-m) }
    else s
  | none => s

/-- The 4 offsets after a hold are taken: the change is booked as route asymmetry or left to the clock (R269). -/
def routeJudge (s : State) : State :=
  let d := (s.ptp.taken.foldl (· + ·) 0) / 4 - s.ptp.oldOff
  let s := s.setPtp { s.ptp with collect := false, taken := [] }
  let p := s.get fTIME_MPORT
  let s := if d.natAbs ≤ s.get fASYMMAX * 10 then
      let b := signedOf (s.rd (aTIME_BOOK p)).toNat 32 + d
      (s.wr (aTIME_BOOK p) (toBits b 32)).logFw evROUTE_ASYM kTIME 0 [toBits d 32]
    else s.logFw evROUTE_ASYM_BIG kTIME 0 [toBits d 32]
  s.timeState 2

/-- The rate word that the next commit loads while a step is armed: the one before the trust bound was exceeded in UNTRUSTED, no new
one in LOCKED (R268). -/
def armedRate (s : State) : Option Int := if s.get fTIME_STATE = 4 then s.ptp.before else none

/-- The 10 s timer of R267 runs from the first of the offsets that meet its condition. -/
def trustTimer (s : State) (run : Bool) : State :=
  s.setPtp { s.ptp with trust := if run then some (s.ptp.trust.getD s.grid.tick) else none }

/-- The servo's answer to an offset by the state: its own rate word, of bandwidth BW and gains that the manual does not give, in LOCKED; the
clamp in UNTRUSTED; the rate held while a step is armed (R264, R267, R268). -/
def servo (s : State) (o : Int) : State :=
  let st := s.get fTIME_STATE
  let ovr := s.get fTRUST * 1000 < o.natAbs
  let s := if st = 2 then
      let before := if ovr then (if s.ptp.before.isSome then s.ptp.before else some s.rate) else none
      (s.setPtp { s.ptp with before := before }).trustTimer ovr
    else if st = 4 then s.trustTimer (s.get fTIME_CAUSE == 1 && !ovr)
    else s
  if s.flag fTIME_REARMED then s.setPtp { s.ptp with next := s.armedRate }
  else if st = 2 then
    let (k, s) := s.fresh
    s.setPtp { s.ptp with next := some (clampInt (-219902325) 219902325 ((Config.servoRate (s.get fTCFG_BW) k : Int) - 219902325)) }
  else if st = 4 then s.setPtp { s.ptp with next := some (clampRate o) }
  else s

/-- An offset in ns of the selected master (R263-R269). -/
def offset (s : State) (o : Int) : State :=
  if s.ptp.hold then s
  else
    let s := s.wr aTIME_OFFSET (toBits (clampInt (-(2 ^ 31 - 1)) (2 ^ 31 - 1) o) 32)
    let offs := (o :: s.ptp.offs).take 16
    let s := s.setPtp { s.ptp with offs := offs }
    let s := s.putFlag fTIME_INLOCK (offs.length == 16 && offs.all fun x => decide (x.natAbs ≤ 1000))
    if s.ptp.collect then
      let s := s.setPtp { s.ptp with taken := s.ptp.taken ++ [o] }
      if s.ptp.taken.length < 4 then s else s.routeJudge
    else
      let s := s.servo o
      if s.mayStep then
        (s.setPtp { s.ptp with fresh := (o :: s.ptp.fresh).take 4 }).stepJudge
      else s

/-- A Sync with its Follow_Up: origin in ns, correction in 2^-16 ns, ingress stamp in ns (R255, R264, R269, R270). -/
def syncOffset (s : State) (p : Nat) (origin corr stamp : Int) : Int :=
  let mpd := (s.rd (aTIME_MPD p)).toNat * 256
  let asym := signedOf (s.rd (aTIME_PORT p 0)).toNat 32 + signedOf (s.rd (aTIME_BOOK p)).toNat 32
  ((stamp - origin - asym) * 65536 - corr - mpd) / 65536

/-- SC1 takes up a Sync, with the stamp of its copy (R262, R264). -/
def sync (s : State) (p domain src : Nat) (origin corr : Int) (sub : Nat) : State :=
  let stamp := s.copyStamp cpPTP p 0 sub
  let s := s.copyTaken cpPTP p 0
  if s.flag fNW_SC1_LOST ∨ domain ≠ s.get fTCFG_DOMAIN ∨ s.ptp.sel ≠ some src ∨ p ≠ s.get fTIME_MPORT then s
  else s.offset (s.syncOffset p origin corr stamp)

/-- The re-route hold has lasted its 2 s since the last increment (R269). -/
def holdOver (s : State) : Bool := s.ptp.hold && s.get fTIME_STATE == 3 && decide (s.ptp.holdTick + 50000000 ≤ s.grid.tick)

/-- The end of the re-route hold (R269, R271). -/
def holdEnd (s : State) : State :=
  if !s.holdOver then s
  else
    let s := s.setPtp { s.ptp with hold := false }
    if s.ptp.sel.isNone then s
    else if s.gmNow = s.ptp.oldGm then s.setPtp { s.ptp with collect := true, taken := [] }
    else s.timeState 2

/-- The 10 s timer of R267 has run out. -/
def trustOver (s : State) : Bool :=
  match s.ptp.trust with
  | some t => decide (t + 250000000 ≤ s.grid.tick)
  | none => false

/-- 10 s beyond the trust bound in LOCKED, or within it in UNTRUSTED with CAUSE OFFSET (R267). -/
def trustExpiry (s : State) : State :=
  let st := s.get fTIME_STATE
  if !s.trustOver then s
  else if st = 2 then
    let s := (s.put fTIME_CAUSE 1).timeState 4
    s.setPtp { s.ptp with next := if s.flag fTIME_REARMED then s.armedRate else some (clampRate (s.ptp.offs.headD 0)) }
  else if st = 4 ∧ s.get fTIME_CAUSE = 1 then
    ((s.setPtp { s.ptp with before := none }).put fTIME_CAUSE 0).timeState 2
  else s

/-- An armed TIME trigger of the capture ring that the new time has reached fires (R273). -/
def capReached (s : State) : State :=
  if s.get fCAP_STATE = 1 ∧ s.cap.trig = 2 ∧ s.cap.target ≤ s.timeNs then s.capTrigger false s.cap.post else s

/-- The time base moves by a step, and the rate from before the trust bound was exceeded is restored (R263, R265). -/
def stepClock (s : State) (d : Int) : State :=
  let t := ((s.timeNs : Int) + d).toNat
  let s := { s with time := { s.time with sec := t / 1000000000, ns := t % 1000000000, moved := some (s.grid.tick, d) } }
  let s := match s.ptp.before with
    | some r => s.setRate r
    | none => s
  s.setPtp { s.ptp with step := none, fresh := [], offs := [], next := none, before := none, trust := none, pps := false }

/-- TIME_STEP is logged, marked when it was re-armed, and the state becomes LOCKED (R263, R266, R268). -/
def stepRecord (s : State) (d : Int) : State :=
  let mark := boolNat (s.flag fTIME_REARMED)
  let x := toBits d 64
  let s := ((s.bump (aTIME_CNT 0)).putFlag fTIME_SET true).putFlag fTIME_REARMED false
  let s := s.logFw evTIME_STEP kTIME 0 [bitsOf x 0 32, bitsOf x 32 32, mark]
  (s.put fTIME_CAUSE 0).timeState 2

/-- A SYNC engine at a step of the time base that stood at `old` ns before it and was set: one whose next aligned start the new time
has reached starts a cycle; before PAT_START it gives HI; else its cycle runs on to the next aligned start (R119, R265, R273). -/
def patStep (s : State) (p old : Nat) (set : Bool) : State :=
  let start := s.patStartNs p
  let len := 40 * s.patCycle p
  let next := if old ≤ start then start else start + (old - start + len - 1) / len * len
  if !s.flag (fPAT_SYNC p) || len == 0 then s
  else if set && decide (next ≤ s.timeNs ∧ old < next) then
    { s with dim := { s.dim with
      patStart := tabSet (fun _ => 0) s.dim.patStart p s.grid.tick, patWait := tabSet (fun _ => false) s.dim.patWait p false } }
  else if s.timeNs < start then { s with dim := { s.dim with patWait := tabSet (fun _ => false) s.dim.patWait p true } }
  else s

/-- How many daily fire times of the Morning check the local time has reached (R391). -/
def mornCount (s : State) : Int := (s.localSec - 60 * (s.get fSYSMORN_MINUTE : Int)) / 86400

/-- The Morning check's comparator at a step: the first step arms it for the next fire time; a fire time that a later step brings
ahead again fires again, and one that it passes is due (R273, R391, R395). -/
def mornStep (s : State) (set : Bool) : State :=
  let n := s.mornCount
  { s with pwr := { s.pwr with mornDay := if set && decide (s.pwr.mornDay < n) then s.pwr.mornDay else n } }

/-- The local day, counted from the PTP epoch (R277, R421). -/
def localDay (s : State) : Int := s.localSec / 86400

/-- The comparator of the daily snapshot at a step: as that of the Morning check, for 00:00 (R273, R421). -/
def snapStep (s : State) (set : Bool) : State :=
  let n := s.localDay
  { s with life := { s.life with snapDay := if set && decide (s.life.snapDay < n) then s.life.snapDay else n } }

/-- The daily snapshot is due: 00:00 local time has come, or until time is set 24 h have passed (R421). -/
def snapDue (s : State) : Bool :=
  if s.flag fTIME_SET then decide (s.life.snapDay < s.localDay) else decide (s.life.snapAt + 86400 * tps ≤ s.nw.tick)

/-- The daily snapshot; one that falls due while SC0 is lost or in Dusk waits for SC0 (DESIGN CHOICE, log entry 82). -/
def daySnapshot (s : State) : State :=
  if s.get fLIFE_RESTORE = 0 || s.flag fNW_SC0_LOST || s.inDusk || !s.snapDue then s
  else ({ s with life := { s.life with snapDay := s.localDay, snapAt := s.nw.tick } }).snapshot

/-- The step that SC1 wrote is made, with everything that follows on its tick (R263, R265, R273). -/
def timeStep (s : State) : State :=
  match s.ptp.step with
  | none => s
  | some d =>
    if !s.mayStep then s.setPtp { s.ptp with step := none }
    else
      let old := s.timeNs
      let set := s.flag fTIME_SET
      let s := (((s.stepClock d).stepRecord d).ldStep old).evalTwins
      let s := (List.range 8).foldl (fun s p => s.patStep p old set) s
      ((s.localMoved.mornStep set).snapStep set).capReached

/-- TIME_REARM_STEP (R268): one step is armed, its 60 s running from now, or it is refused. -/
def rearm (s : State) : State × Bool :=
  let st := s.get fTIME_STATE
  if st = 2 ∨ (st = 4 ∧ s.get fTIME_CAUSE = 1) then
    let fresh := if s.flag fTIME_REARMED then s.ptp.fresh else []
    ((s.setPtp { s.ptp with fresh := fresh, armed := s.grid.tick, next := s.armedRate }).putFlag fTIME_REARMED true, true)
  else (s, false)

/-- An armed step lapses when 60 s have passed without it (R268). -/
def rearmLapse (s : State) : State :=
  if !s.flag fTIME_REARMED || decide (s.grid.tick < s.ptp.armed + 1500000000) then s
  else
    let s := s.putFlag fTIME_REARMED false
    let s := s.setPtp { s.ptp with
      step := none, fresh := [],
      next := if s.get fTIME_STATE = 4 then some (clampRate (s.ptp.offs.headD 0)) else s.ptp.next }
    s.logFw evTIME_REARM_LAPSED kTIME 0 []

/-- This is the first tick at which the time base has reached this nanosecond of its second. -/
def nsReached (s : State) (ns : Nat) : Bool :=
  let x : Int := (s.time.ns * 2 ^ 40 + s.time.frac : Nat)
  decide ((ns : Int) * 2 ^ 40 ≤ x ∧ x < (ns : Int) * 2 ^ 40 + 40 * (2 ^ 40 + s.rate))

/-- The deadline tick of class 7, 2,500 ticks before the PPS_OUT edge (R37, R264). -/
def timeDeadlineTick (s : State) : Bool := s.nsReached 999900000

/-- The TIME deadline: the rate word acts and the next PPS_OUT edge is committed, or neither, and the word is discarded (R40, R48,
R264). -/
def timeDeadline (s : State) (onTime : Bool) : State :=
  if onTime then
    let s := match s.ptp.next with
      | some r => s.setRate r
      | none => s
    s.setPtp { s.ptp with next := none, pps := true }
  else s.setPtp { s.ptp with next := none, pps := false }

-- Peer delay (R261)

/-- No exchange is in progress at a port. -/
def noExch : Exchange := ⟨65536, 0, 0⟩
def exchOf (s : State) (p : Nat) : Exchange := tabGet (fun _ => noExch) s.ptp.exch p

/-- Ticks from one request to the next: 2^PDLOG s, 125 ms during a re-route hold (R261, R269). -/
def pdTicks (s : State) : Nat :=
  let n := signedOf (s.get fTCFG_PDLOG) 4
  if s.ptp.hold then 3125000 else if n < 0 then 25000000 / 2 ^ n.natAbs else 25000000 * 2 ^ n.toNat

/-- A port's exchange in progress is invalid and counted (R261). -/
def pdelayDrop (s : State) (p : Nat) : State := s.setPtp { s.ptp with exch := tabSet (fun _ => noExch) s.ptp.exch p noExch }
def pdelayBad (s : State) (p : Nat) : State :=
  if (s.exchOf p).id = 65536 then s else (s.pdelayDrop p).bump (aTIME_CNT 2)

/-- Ticks since a port's last request (R261). -/
def pdSince (s : State) (p : Nat) : Nat := s.grid.tick + 1 - tabGet (fun _ => 0) s.ptp.reqAt p

/-- The time for a port's next request has come, on a port that is not in SF (R261, R269). -/
def pdelayDue (s : State) (p : Nat) : Bool :=
  !s.sf p && !s.inDusk && !s.flag fNW_SC1_LOST
    && (tabGet (fun _ => 0) s.ptp.reqAt p == 0 || decide (s.pdTicks ≤ s.pdSince p))

/-- A request leaves; an exchange still in progress then has not been completed in time (R261). -/
def pdelaySend (s : State) (p : Nat) : State :=
  if !s.pdelayDue p then s
  else
    let s := s.pdelayBad p
    let id := s.ptp.nextId
    let s := s.setPtp { s.ptp with
      nextId := (id + 1) % 65536, exch := tabSet (fun _ => noExch) s.ptp.exch p ⟨id, s.timeNs, s.quality 0⟩,
      reqAt := tabSet (fun _ => 0) s.ptp.reqAt p (s.grid.tick + 1) }
    s.toPtp p (s.pdFrame (s.ptpHeader p 2 (s.get fTCFG_DOMAIN) 0 54 0 id ++ beBytes 20 0) 0 0)

/-- A request is answered in its domain, one-step or two-step; the answer, or its Follow_Up, carries the request's correctionField
(R252, R261). -/
def pdelayAnswer (s : State) (p src id corr sub : Nat) : State :=
  let t2 := s.copyStamp cpPDELAY p 2 sub
  let dom := s.copyDomain cpPDELAY p 2
  let s := s.copyTaken cpPDELAY p 2
  if s.sf p || s.inDusk || s.flag fNW_SC1_LOST then s
  else
    let one := s.flag fTCFG_ONESTEP
    let m := s.ptpHeader p 3 dom (if one then 0 else 0x0200) 54 (if one then corr else 0) id
      ++ (if one then beBytes 10 0 else ptpTime t2) ++ beBytes 10 src
    s.toPtp p (s.pdFrame m t2 corr)

/-- The mean of the valid delays of a port, in 2^-8 ns (TIME_MPDp). -/
def meanDelay (l : List Int) : Nat := if l.isEmpty then 0 else ((l.foldl (· + ·) 0) / ((l.length : Int) * 256)).toNat

/-- An exchange completes: remote receive and send times in ns, correction in 2^-16 ns. It is valid within 100 ms of the request and
with a delay from 0 to 100 µs (R261). -/
def pdelayDone (s : State) (p id : Nat) (t2 t3 corr : Int) (sub : Nat) : State :=
  let t4 := s.copyStamp cpPDELAY p 3 sub
  let s := s.copyTaken cpPDELAY p 3
  let e := s.exchOf p
  if e.id ≠ id ∨ s.flag fNW_SC1_LOST then s
  else
    let d := ((t4 - e.sent - (t3 - t2)) * 65536 - corr) / 2
    if d < 0 ∨ 100000 * 65536 < d ∨ 2500000 < s.pdSince p then s.pdelayBad p
    else
      let s := s.pdelayDrop p
      let l := (d :: tabGet (fun _ => []) s.ptp.delays p).take 8
      (s.setPtp { s.ptp with delays := tabSet (fun _ => []) s.ptp.delays p l }).wr (aTIME_MPD p) (meanDelay l)

-- PPS (R275, R276)

/-- This is the first tick at or after a whole second of the time base. -/
def wholeSec (s : State) : Bool := s.nsReached 0

/-- PPS_OUT rises on the first tick at or after a whole second, if it is committed and the time base is set (R275). -/
def ppsRise (s : State) : State :=
  if !s.wholeSec then s
  else
    let on := s.ptp.pps && s.flag fTIME_SET
    let s := s.setPtp { s.ptp with pps := false, ppsAt := if on then s.grid.tick else s.ptp.ppsAt }
    if on then
      ({ s with pins := { s.pins with ppsOut := true } }).put fPPS_LAG (if s.time.ns < 39 then s.time.ns else 39)
    else s

/-- PPS_OUT falls PPSW ms after its rise (R275). -/
def ppsFall (s : State) : State :=
  if s.grid.tick < s.ptp.ppsAt + s.get fTCFG_PPSW * 25000 then s else { s with pins := { s.pins with ppsOut := false } }

/-- A PPS_IN edge of the selected polarity, `sub` ns after this tick, stamped in steps of 2 ns (R256, R276). -/
def ppsIn (s : State) (rise : Bool) (sub : Nat) : State :=
  if rise == s.flag fTCFG_PPSIN_POL then s
  else
    let t := s.timeNs + sub / 2 * 2
    let n : Int := (t % 1000000000 : Nat)
    let d := if n < 500000000 then n else n - 1000000000
    let ovr := (s.rd aTIME_PPSCHK).toNat < d.natAbs
    let was := s.ptp.ppsDev
    let x : Stamp := ⟨t / 1000000000, t % 1000000000, s.quality 1⟩
    let s := (s.wr aTIME_PPSIN (toBits d 32)).setPtp { s.ptp with ppsDev := ovr, ppsIn := x }
    let s := if ovr && !was then s.logStamp x evPPS_IN_DEV kTIME 0 [toBits d 32] else s
    s.raise srcPPS_IN

/-- A local or UTC offset becomes effective at a whole second (R277). -/
def offsetChange (s : State) : State :=
  if !s.wholeSec then s else ({ s with time := { s.time with utc := s.time.utcNext } }).localMoved

/-- A read of TIME_NS by a context latches the time base and the quality byte (R278). -/
def timeRead (s : State) (c : Nat) : State :=
  s.setCopy c { s.copyOf c with
    timeLatch := [s.time.ns, s.time.sec % 2 ^ 32, s.time.sec / 2 ^ 32 % 2 ^ 16, s.quality 1] }

end State

/-- A PTP timestamp word (48-bit seconds, 32-bit ns) in ns. -/
def ptpNs (x : Nat) : Int := (x / 2 ^ 32 * 1000000000 + x % 2 ^ 32 : Nat)

-- Commands

/-- DAILY_SNAPSHOT (R421). -/
def execDailySnapshot (s : State) : Res := .next s.daySnapshot

/-- ANNOUNCE_RECEIVE: port, domain, source port identity, priority1, clockClass, accuracy, variance, priority2,
grandmaster, stepsRemoved, currentUtcOffset when valid, log2 of the interval in s (R262). -/
def execAnnounceReceive (p : Fin 2) (domain : BitVec 8) (src : BitVec 80) (prio1 cls acc : BitVec 8) (var : BitVec 16)
    (prio2 : BitVec 8) (gm : BitVec 64) (steps : BitVec 16) (utc : Option (BitVec 16)) (interval : BitVec 8) (s : State) : Res :=
  let s := s.copyTaken cpPTP p.val 0xB
  if domain.toNat ≠ s.get fTCFG_DOMAIN ∨ s.flag fNW_SC1_LOST then .next s
  else
    let span := if interval.toInt < 0 then 25000000 / 2 ^ interval.toInt.natAbs else 25000000 * 2 ^ interval.toNat
    .next (s.announce ⟨p.val, src.toNat,
      [prio1.toNat, cls.toNat, acc.toNat, var.toNat, prio2.toNat, gm.toNat, steps.toNat, src.toNat, p.val], gm.toNat,
      utc.map (·.toInt), 0, span, 0⟩)

/-- SYNC_RECEIVE with its Follow_Up: port, domain, source port identity, origin timestamp and correction; without a copy that waits
the ns of its ingress after the tick (R264). -/
def execSyncReceive (p : Fin 2) (domain : BitVec 8) (src : BitVec 80) (origin : BitVec 80) (corr : BitVec 64) (sub : Fin 40)
    (s : State) : Res :=
  .next (s.sync p.val domain.toNat src.toNat (ptpNs origin.toNat) corr.toInt sub.val)

/-- PDELAY_REQ_SEND (R261). -/
def execPdelayReqSend (p : Fin 2) (s : State) : Res := .next (s.pdelaySend p.val)

/-- PDELAY_REQ_RECEIVE: requesting port identity, sequenceId and correctionField (R261). -/
def execPdelayReqReceive (p : Fin 2) (src : BitVec 80) (id : BitVec 16) (corr : BitVec 64) (sub : Fin 40) (s : State) : Res :=
  .next (s.pdelayAnswer p.val src.toNat id.toNat corr.toNat sub.val)

/-- PDELAY_RESP_RECEIVE with its Follow_Up: sequenceId, remote receive and send times, correction (R261). -/
def execPdelayRespReceive (p : Fin 2) (id : BitVec 16) (t2 t3 : BitVec 80) (corr : BitVec 64) (sub : Fin 40) (s : State) : Res :=
  .next (s.pdelayDone p.val id.toNat (ptpNs t2.toNat) (ptpNs t3.toNat) corr.toInt sub.val)

/-- PDELAY_TIMEOUT: an exchange is not completed within 100 ms (R261). -/
def execPdelayTimeout (p : Fin 2) (s : State) : Res :=
  if s.pdSince p.val < 2500000 then .next s else .next (s.pdelayBad p.val)

/-- The oldest two-step entry has been unused for 1 s (R260). -/
def State.tcOld (s : State) : Bool := (s.ptp.table.head?.map fun e => decide (e.tick + 25000000 ≤ s.grid.tick)).getD false

/-- TC_ENTRY_EXPIRY (R260). -/
def execTcEntryExpiry (s : State) : Res :=
  if s.tcOld then .next (s.setPtp { s.ptp with table := s.ptp.table.drop 1 }) else .next s

/-- TIME_STEP (R263, R265). -/
def execTimeStep (s : State) : Res := .next s.timeStep

/-- MASTER_LOST (R262). -/
def execMasterLost (s : State) : Res := if s.masterSilent then .next s.masterLost else .next s

/-- TRUST_TIMER_EXPIRY (R267). -/
def execTrustTimerExpiry (s : State) : Res := .next s.trustExpiry

/-- ROUTE_HOLD_END (R269). -/
def execRouteHoldEnd (s : State) : Res := .next s.holdEnd

/-- REARM_LAPSE (R268). -/
def execRearmLapse (s : State) : Res := .next s.rearmLapse

/-- LOCAL_OFFSET_CHANGE (R277). -/
def execLocalOffsetChange (s : State) : Res := .next s.offsetChange

/-- PPS_OUT_EDGE (R275). -/
def execPpsOutEdge (s : State) : Res := .next s.ppsRise

/-- PPS_OUT_FALL (R275). -/
def execPpsOutFall (s : State) : Res := .next s.ppsFall

/-- PPS_IN_EDGE (R276). -/
def execPpsInEdge (rise : Bool) (sub : Fin 40) (s : State) : Res := .next (s.ppsIn rise sub.val)

end Sys2Proof.Machine
end

