-- ==== Sys2Proof/Machine/Deadline.lean ====
section
/-! DEFINITION. The RULE commit with the last one before Dusk (R21, R383), and the commit deadlines of the eight classes
(R37-R48). -/

namespace Sys2Proof.Machine

namespace State

/-- A channel goes dark at once, without a learning step or a compensation left (R22, R374). -/
def darken (s : State) (c : Nat) : State :=
  let x := s.chan c
  let s := s.setChan c { x.dark s.grid.tick with comm := darkSet, sent := none, pend := none, cur := darkSet, morn := false }
  if x.lit then s.unprove c else s

/-- The scan group stops with every LED dark (R160, R374, R383). -/
def scanStop (s : State) : State :=
  let s := s.ledsDark
  ({ s with mtx := { s.mtx with slot := 0 } }).putFlag fMTX_RUN false

/-- The Dusk set (R383): channels of enabled RESTRICTIVE aspects with KEEP_DUSK, shown and not FAIL_DARK, less the lost ones. -/
def duskChans (s : State) : List Nat :=
  (s.aspList.filter fun p =>
    s.aspClass p.1 == 2 && s.aspKeepDusk p.1 && s.flag (fASP_DEMAND p.1) && s.get (fASP_STATE p.1) != 3).flatMap fun p =>
      p.2.filter fun c => !s.lost c

/-- Steps 1 and 2 of the entry, at its commit: the Dusk set is latched, every other channel goes dark, banks without one of the set
open, the boost target follows (R383, R384). -/
def duskLamps (s : State) : State :=
  let keep := s.duskChans
  let s := { s with pwr := { s.pwr with latched := true, duskSet := keep.foldl (fun t c => tabSet (fun _ => false) t c true) [] } }
  let s : State := (List.range 128).foldl (fun s c => if keep.contains c then s else s.darken c) s
  let s : State := (List.range 8).foldl (fun s n => if keep.any fun c => c / 16 == n then s else s.bankOpen n) s
  s.scanStop.needs

/-- The RULE commit; the one of a period in which Dusk entry began is the last (R21, R383). -/
def ruleCommit (s : State) : State :=
  let t := s.aspectCommit
  if s.ruleReady && s.pstate == 2 && !s.pwr.latched && !s.midnight then t.duskLamps else t

/-- The deadline tick of a class and instance (R34, R37). The instance is the loop slot, the channel (PWM), the launch descriptor, or
the TP line 0-3 or STO output 4-11 (TEST). -/
def deadlineTick (s : State) (k i : Nat) : Bool :=
  if k = clBOOST then s.loopCommitTick 0
  else if k = clLOOP_FAST ∨ k = clLOOP_SLOW then s.loopClass (i % 32) k && s.loopCommitTick (i % 32)
  else if k = clRULE then s.rulesRun && s.ruleAt 7500
  else if k = clPWM then
    (if s.scanned (i % 128 / 16) then s.flag fMTX_EN && s.frameDue else s.periodDue (i % 128))
  else if k = clLAUNCH then s.ldDeadlineTick (i % 128)
  else if k = clTEST then s.testTick (i % 12)
  else s.timeDeadlineTick

/-- The key under which the deadline of a class and instance is taken on its tick: one class has no instances, another that many. -/
def deadlineKey (k i : Nat) : Nat :=
  256 * k + (if k = clBOOST ∨ k = clRULE ∨ k = clTIME then 0
    else if k = clLOOP_FAST ∨ k = clLOOP_SLOW then i % 32 else if k = clTEST then i % 12 else i % 128)

/-- The deadline of a class and instance; `ready`: the ready handshake completed in time (R37-R48). A result that comes on the
deadline tick itself is late (R38); a missed one is discarded (R40). -/
def commitDeadline (s : State) (k i : Nat) (ready : Bool) : State :=
  let key := deadlineKey k i
  if s.classSuspended k || !s.deadlineTick k i || !s.untaken key then s
  else
    let s := s.takeEvent key
    if k = clBOOST then
      let (s, ok) := s.loopDeadline 0 ready
      s.deadlineCount k ok
    else if k = clLOOP_FAST ∨ k = clLOOP_SLOW then
      let (s, ok) := s.loopDeadline (i % 32) ready
      s.deadlineCount k ok
    else if k = clRULE then
      let ok := s.res.committed || (ready && s.ruleReady)
      let s := if ok then s.ruleCommit else s
      ({ s with res := { s.res with committed := false, ready := false } }).deadlineCount k ok
    else if k = clPWM then
      let s := if ready then s else s.setChan (i % 128) { s.chan (i % 128) with missed := true }
      s.deadlineCount k ready
    else if k = clLAUNCH then
      let (s, ok) := s.ldDeadline (i % 128) ready
      s.deadlineCount k ok
    else if k = clTEST then (s.testCommit (i % 12) ready).deadlineCount k ready
    else (s.timeDeadline ready).deadlineCount k ready

end State

/-- ASPECT_COMMIT at tick 7,500, of a result ready before it (R21, R38). -/
def execAspectCommit (s : State) : Res := if s.ruleAt 7500 then .next s.ruleCommit else .next s

/-- COMMIT_DEADLINE of a class and instance (R39). -/
def execCommitDeadline (k : Fin 8) (n : BitVec 8) (ready : Bool) (s : State) : Res :=
  .next (s.commitDeadline k.val n.toNat ready)

end Sys2Proof.Machine
end

