-- ==== Sys2Proof/Machine/CfgTable.lean ====
section
/-! DEFINITION. The configuration image as data: sections and locations (R361-R363), the fields of every configuration word with
their ranges (R366), the structural checks (R367, R68, R154, R161, R189, R150, R243, R347, R357), and the image format (R360). -/

namespace Sys2Proof.Machine

-- Sections (R363)

/-- The ranges of a section as first and last LOCATION. -/
def sectionRanges (id : Nat) : List (Nat × Nat) :=
  match id with
  | 0x01 => [(0x11000, 0x11FFC)]
  | 0x02 => [(0x12000, 0x12FFC)]
  | 0x03 => [(0x13400, 0x135FC), (0x14800, 0x14EFC)]
  | 0x04 => [(0x13000, 0x133FC)]
  | 0x05 => [(0x14400, 0x1443C)]
  | 0x06 => [(0x15100, 0x151FC), (loc 1 0, loc 1 2047)]
  | 0x07 => [(loc 2 0, loc 2 4095)]
  | 0x08 => [(0x16100, 0x163FC), (loc 3 0, loc 3 8191)]
  | 0x09 => [(0x17100, 0x175FC), (0x17F00, 0x17F7C)]
  | 0x0A => [(0x18500, 0x188FC)]
  | 0x0B => [(0x19000, 0x190FC)]
  | 0x0C => [(loc 4 0, loc 4 1023), (loc 5 0, loc 5 63999)]
  | 0x0D => [(0x1A000, 0x1AFFC)]
  | 0x0E => [(0x1B000, 0x1B06C)]
  | 0x0F => [(0x1D000, 0x1D000)]
  | 0x10 => [(0x1F000, 0x1F000)]
  | 0x11 => [(0x1E000, 0x1EFFC)]
  | 0x12 => [(0x10000, 0x10FFC)]
  | _ => []

def inRanges (l : Nat) (rs : List (Nat × Nat)) : Bool := rs.any fun r => decide (r.1 ≤ l ∧ l ≤ r.2)

/-- The section IDs of a configuration, FIRMWARE apart. -/
def sectionIds : List Nat := List.range' 1 18

/-- The section that a LOCATION belongs to, 0 for none. -/
def sectionOf (l : Nat) : Nat := (sectionIds.find? fun id => inRanges l (sectionRanges id)).getD 0

-- Fields (R366)

/-- The range of a field: any value; a number within limits; a signed number within limits; encodings above `top` take `val`; computed
by SC0 or fixed, so that a written value is ignored. -/
inductive Rng where
  | any
  | num (a b : Nat)
  | snum (a b : Int)
  | enc (top val : Nat)
  | fixed
  deriving DecidableEq, Repr

/-- The value a field takes for a written value of its width. -/
def Rng.apply (r : Rng) (width v : Nat) : Nat :=
  match r with
  | .any => v
  | .num a b => clampNat a b v
  | .snum a b => toBits (clampInt a b (signedOf v width)) width
  | .enc top val => if top < v then val else v
  | .fixed => v

/-- The shared sources whose target ICU_ROUTE sets (R359). -/
def routable (n : Nat) : Bool := (40 ≤ n && n ≤ 60) || (64 ≤ n && n ≤ 95)

/-- Fields of a CHCFG word (offset in the channel's 32 bytes). -/
def fieldsChan (o : Nat) : List (Nat × Nat × Rng) :=
  match o with
  | 0x00 => [(0, 10, .any)]
  | 0x04 => [(0, 10, .num 0 600), (16, 5, .num 0 16)]
  | 0x08 => [(0, 11, .num 512 1024)]
  | 0x0C => [(0, 1, .any), (8, 8, .num 10 40)]
  | _ => []

/-- Fields of BANK and BOOST words. -/
def fieldsBank (a : Nat) : List (Nat × Nat × Rng) :=
  if a < 0x12020 then [(0, 2, .enc 2 0), (2, 2, .fixed)]
  else if a = 0x12040 then [(8, 8, .num 20 200), (16, 10, .num 120 600)]
  else if a = 0x12044 then [(0, 8, .num 10 80), (8, 8, .num 20 200), (16, 9, .num 50 500)]
  else if a = 0x12048 then [(8, 8, .num 1 200), (16, 8, .num 1 200)]
  else []

/-- S, K code and FIRST of a written MTX_CFG after the clamps of R154 and R155. -/
def mtxShape (w : Nat) : Nat × Nat × Nat :=
  let k := if bitsOf w 19 2 = 3 then 2 else bitsOf w 19 2
  let split := bitOf w 18 && k != 0
  (if split then 2 ^ k else 2 ^ (k + 1), k, bitsOf w 21 3 / 2 ^ (k + 1) * 2 ^ (k + 1))

/-- Fields of a PAT_CFG word (offset in the engine's 64 bytes), by the word itself. -/
def fieldsPat (o w : Nat) : List (Nat × Nat × Rng) :=
  match o with
  | 0x00 => [(0, 2, .any), (2, 1, .any), (4, 4, .num 1 15),
      (16, 16, match bitsOf w 0 2 with
        | 0 => .any
        | 1 => .num 50 1000
        | _ => .num 5 500)]
  | 0x04 => [(0, 16, .any), (16, 16, .any)]
  | 0x08 => [(0, 16, .num 5 500)]
  | 0x10 => [(0, 32, .num 0 999999999)]
  | 0x14 => [(0, 32, .any)]
  | 0x18 => [(0, 16, .any)]
  | 0x20 | 0x24 | 0x28 | 0x2C => [(0, 8, .any), (8, 8, .any), (16, 8, .any), (24, 8, .any)]
  | _ => []

/-- Fields of DIM, MTX and PAT words, by the word and the table so far. -/
def fieldsDim (t : Tab Word) (a w : Nat) : List (Nat × Nat × Rng) :=
  if a = aDIM_CFG then [(0, 2, .any), (8, 8, .num 0 60), (16, 16, .num 0x100 0xFFFF)]
  else if a = aDIM_LEVEL then [(0, 16, .any), (16, 16, .any)]
  else if a = aDIM_SCHED then [(0, 11, .num 0 1439), (11, 5, .any), (16, 11, .num 0 1439), (27, 5, .any)]
  else if a = aDIM_BIN 0 then [(0, 1, .any), (1, 1, .any), (8, 10, .num 1 1000)]
  else if a = aDIM_BIN 1 then
    let lo := if 0xFFFF < bitsOf w 0 16 + 0x100 then 0xFFFF else bitsOf w 0 16 + 0x100
    [(0, 16, .any), (16, 16, .num lo 0xFFFF)]
  else if a = aDIM_DERATE then [(8, 8, .num 60 105), (16, 8, .num 0 110)]
  else if a = aDIM_NTC then [(0, 16, .num 100 10000), (16, 16, .num 2000 6000)]
  else if 0x13040 ≤ a ∧ a < 0x13080 then
    (if a % 8 = 0 then [(0, 17, .num 6250 100000), (17, 1, .any)] else [(0, 17, .num 0 (locBits t (a - 4) 0 17 - 1))])
  else if a = aMTX_CFG then
    let (n, k, first) := mtxShape w
    [(0, 17, .num (if 6250 < 1000 * n then 1000 * n else 6250) 100000), (17, 1, .any), (18, 1, if k = 0 then .num 0 0 else .any),
      (19, 2, .enc 2 2), (21, 3, .num first first), (28, 4, .num 2 12)]
  else if 0x13100 ≤ a ∧ a < 0x13300 then fieldsPat (a % 64) w
  else []

/-- Fields of aspect words. Channel entries beyond NCH read 0 (SUP_ASPCFG). -/
def fieldsAsp (t : Tab Word) (a : Nat) : List (Nat × Nat × Rng) :=
  if 0x13400 ≤ a ∧ a < 0x13580 then [(0, 2, .any), (16, 16, .any)]
  else if 0x14800 ≤ a ∧ a < 0x14E00 then
    (match a % 16 with
    | 0 => [(0, 2, .enc 2 2), (2, 4, .any), (6, 5, .any), (11, 2, .any), (13, 1, .any), (16, 16, .any)]
    | 4 | 8 =>
      let nch := locBits t (a - a % 16) 2 4
      (List.range 4).map fun i => (8 * i, 7, if 4 * (a % 16 / 4 - 1) + i < nch then .any else .fixed)
    | _ => [])
  else if 0x14E00 ≤ a ∧ a < 0x14E80 then [(0, 7, .any), (7, 1, .any)]
  else []

/-- Fields of ADC words. -/
def fieldsAdc (t : Tab Word) (a : Nat) : List (Nat × Nat × Rng) :=
  let slots : List (Nat × Nat × Rng) := [(0, 5, .enc 9 0), (15, 1, .any), (16, 5, .enc 9 0), (31, 1, .any)]
  if 0x17100 ≤ a ∧ a < 0x17200 then
    (match a % 16 with
    | 0 => [(0, 3, .enc 5 0), (8, 5, .any)]
    | 4 => [(0, 3, .enc 5 0), (8, 2, .any)]
    | 8 => [(0, 22, .num 250 2500000)]
    | _ => [(0, 22, .num 0 (locBits t (a - 4) 0 22 - 1))])
  else if 0x17200 ≤ a ∧ a < 0x17600 then slots
  else if 0x17F00 ≤ a ∧ a < 0x17F80 then slots
  else []

/-- Fields of a LOOP shadow word (LOOP_SHD); slot 0 takes only the fields it accepts, slots 1-3 none. -/
def fieldsLoop (a w : Nat) : List (Nat × Nat × Rng) :=
  let n := (a - 0x18500) / 32
  if n = 0 then
    (match a % 32 with
    | 0x00 => [(0, 3, if bitsOf w 0 3 = 1 ∨ bitsOf w 0 3 = 2 then .any else .num 1 1), (4, 4, .num 0 8), (8, 8, .fixed), (16, 10, .fixed)]
    | 0x04 | 0x08 => [(0, 16, .any), (16, 16, .any)]
    | 0x0C => [(0, 16, .snum 0 32767), (16, 16, .snum (-32768) 27525)]
    | 0x14 => [(0, 16, .any), (16, 16, .fixed)]
    | _ => [(0, 32, .fixed)])
  else if n < 4 then []
  else
    match a % 32 with
    | 0x00 => [(0, 3, if bitsOf w 9 2 = 3 then .num 0 0 else .enc 3 0), (4, 4, .num 0 8), (8, 1, .any), (9, 2, .any), (11, 1, .any),
        (12, 2, .enc 2 0), (14, 2, .enc 1 0), (16, 10, .any)]
    | 0x18 => [(0, 10, .any), (11, 5, .any), (16, 16, .any)]
    | 0x1C => [(0, 10, .any), (27, 5, .any)]
    | _ => [(0, 16, .any), (16, 16, .any)]

/-- Fields of RING words. -/
def fieldsRing (a w : Nat) : List (Nat × Nat × Rng) :=
  if a = aRING_CFG then [(0, 1, .any), (1, 1, .any), (2, 1, .any), (3, 1, .any), (4, 1, .any), (16, 8, .num 1 100)]
  else if a = aRING_ERPS then [(0, 8, .num 1 200), (14, 7, .num 0 100), (21, 3, .any), (24, 8, .num 1 239)]
  else if a = aRING_ERPS2 then [(0, 12, if bitOf w 16 then .num 1 4094 else .any), (13, 3, .any), (16, 1, .any)]
  else if 0x19010 ≤ a ∧ a < 0x19028 then (if a % 8 = 0 then [(0, 32, .any)] else [(0, 16, .any)])
  else []

/-- Fields of TIME words. -/
def fieldsTime (a : Nat) : List (Nat × Nat × Rng) :=
  if a = aTIME_CFG then
    [(0, 10, .num 1 500), (16, 1, .any), (17, 1, .any), (18, 2, .enc 2 2), (20, 4, .snum (-3) 5), (24, 8, .num 0 127)]
  else if a = aTIME_TRUST then [(0, 16, .num 0 10000), (16, 16, .num 10 65535)]
  else if a = aTIME_PPSCHK then [(0, 32, .any)]
  else if 0x1A010 ≤ a ∧ a < 0x1A020 then (if a % 8 = 0 then [(0, 32, .any)] else [(0, 16, .num 0 1000), (16, 16, .num 0 1000)])
  else if a = aTIME_TZ then [(0, 16, .snum (-900) 900), (16, 16, .any)]
  else if 0x1A040 ≤ a ∧ a < 0x1A0C0 then
    (match a % 16 with
    | 0 => [(0, 32, .any)]
    | 4 => [(0, 16, .any)]
    | 8 => [(0, 16, .snum (-900) 900), (31, 1, .any)]
    | _ => [])
  else []

/-- Fields of ICU words (R347, R356, R357). -/
def fieldsIcu (a : Nat) : List (Nat × Nat × Rng) :=
  if a < 0x1B038 then
    (List.range 16).filterMap fun i =>
      let n := 32 + 16 * ((a - 0x1B000) / 4) + i
      if routable n then some (2 * i, 2, .any) else if sourceListed n then some (2 * i, 2, .fixed) else none
  else if 0x1B040 ≤ a ∧ a < 0x1B060 then [(0, 8, .any), (15, 1, .any), (16, 8, .any), (31, 1, .any)]
  else if 0x1B060 ≤ a ∧ a < 0x1B06C then [(0, 10, .any)]
  else []

/-- Fields of the other register words. -/
def fieldsMisc (a : Nat) : List (Nat × Nat × Rng) :=
  if a = aSYS_MORNING then [(0, 11, .num 0 1439), (29, 1, .any), (30, 1, .any), (31, 1, .any)]
  else if a = aSUP_CFG0 then [(0, 8, .num 5 200), (8, 8, .num 110 150), (16, 8, .num 40 90), (24, 8, .num 100 250)]
  else if a = aSUP_CFG1 then [(0, 1, .any)]
  else if 0x15100 ≤ a ∧ a < 0x15180 then [(0, 10, .num 1 1000)]
  else if a = aRULE_CFG then [(0, 18, .num 12500 250000)]
  else if 0x16200 ≤ a ∧ a < 0x16400 then
    (match a % 16 with
    | 0 => [(0, 32, .num 0 999999999)]
    | 4 => [(0, 32, .any)]
    | 8 => [(0, 16, .any)]
    | _ => [])
  else if a = aSAFE_CFG then [(0, 8, .num 10 50), (16, 15, .num 100 20000)]
  else if a = aSEC_CFG then [(0, 1, .any), (8, 8, .num 1 240)]
  else if a = aCAP_CFG then [(0, 8, .any), (8, 1, .any), (10, 10, .num 0 1000)]
  else []

/-- Fields of a word of an indirect table (R190, R180, R239). Offsets and widths that R189 and R243 judge have no range here. -/
def fieldsTable (t : Tab Word) (space i w : Nat) : List (Nat × Nat × Rng) :=
  if space = 1 then (if i % 2 = 0 then [(0, 16, .any), (16, 10, .any), (28, 4, .any)] else [(0, 32, .any)])
  else if space = 2 then
    (match i % 8 with
    | 0 => [(0, 16, .any), (16, 10, .any), (29, 1, .any), (30, 1, .any), (31, 1, .any)]
    | 5 => [(6, 1, .any), (7, 1, .any), (8, 8, .any), (16, 8, .any), (24, 8, .any)]
    | 6 => [(0, 5, .any), (5, 5, .any), (11, 5, .any), (16, 16, .any)]
    | _ => [(0, 32, .any)])
  else if space = 3 then
    let kind := bitsOf (tabGet locDefault t (loc 3 (i - i % 4))).toNat 30 2
    match kind, i % 4 with
    | 1, 0 => [(0, 10, .any), (25, 1, .any), (26, 1, .any), (27, 3, .any), (30, 2, .any)]
    | 1, 3 => [(0, 31, .any)]
    | 2, 0 => [(0, 7, .any), (17, 3, .any), (20, 1, .any), (21, 2, .any), (23, 1, .any), (24, 4, .any), (28, 2, .any), (30, 2, .any)]
    | 2, 1 => [(16, 16, .any)]
    | 2, _ => []
    | _, _ => [(0, 32, .any)]
  else if space = 4 then
    (match i % 8 with
    | 0 => [(0, 16, .any), (16, 9, if 500 < bitsOf w 16 9 then .num 0 500 else .any), (28, 1, .any), (29, 2, .any), (31, 1, .any)]
    | 1 => [(0, 32, .num 0 999999999)]
    | 3 => [(0, 16, .any)]
    | 5 => [(0, 11, .any), (16, 11, .any)]
    | 6 | 7 => [(0, 10, .any), (20, 1, .any), (21, 11, .any)]
    | _ => [(0, 32, .any)])
  else [(0, 32, .any)]

/-- The fields of the configuration word at a LOCATION, by its written value and the table so far. -/
def fieldsAt (t : Tab Word) (l w : Nat) : List (Nat × Nat × Rng) :=
  if 2 ^ 24 ≤ l then fieldsTable t (l / 2 ^ 24) (l % 2 ^ 24) w
  else if 0x11000 ≤ l ∧ l < 0x12000 then fieldsChan (l % 32)
  else if 0x12000 ≤ l ∧ l < 0x13000 then fieldsBank l
  else if 0x13000 ≤ l ∧ l < 0x13400 then fieldsDim t l w
  else if (0x13400 ≤ l ∧ l < 0x13600) ∨ (0x14800 ≤ l ∧ l < 0x14F00) then fieldsAsp t l
  else if 0x17000 ≤ l ∧ l < 0x18000 then fieldsAdc t l
  else if 0x18500 ≤ l ∧ l < 0x18900 then fieldsLoop l w
  else if 0x19000 ≤ l ∧ l < 0x19100 then fieldsRing l w
  else if 0x1A000 ≤ l ∧ l < 0x1B000 then fieldsTime l
  else if 0x1B000 ≤ l ∧ l < 0x1B070 then fieldsIcu l
  else fieldsMisc l

/-- The LOCATION holds configuration: registers with fields, and the indirect tables without the fixed observation slots. -/
def isConfig (l : Nat) : Bool :=
  if 2 ^ 24 ≤ l then sectionOf l != 0 && !(decide (loc 1 1792 ≤ l ∧ l < loc 2 0))
  else sectionOf l != 0 && !(fieldsAt [] l 0).isEmpty

-- Clamping (R366)

/-- A set of configuration words with the findings so far, and the fixed observation slots that the image wrote. -/
structure Chk where
  t : Tab Word
  rep : CfgRep
  fixed : List Nat
  deriving DecidableEq, Repr

def emptyRep : CfgRep := ⟨[], 0, [], 0, 0⟩

namespace Chk

def word (x : Chk) (l : Nat) : Nat := (tabGet locDefault x.t l).toNat
def bits (x : Chk) (l lo width : Nat) : Nat := bitsOf (x.word l) lo width
def setWord (x : Chk) (l w : Nat) : Chk := { x with t := tabSet locDefault x.t l (BitVec.ofNat 32 w) }
def setBits (x : Chk) (l lo width v : Nat) : Chk := x.setWord l (withBits (x.word l) lo width v)

/-- A clamp record (R366, R372). -/
def clamped (x : Chk) (l lo width w v : Nat) : Chk :=
  { x with rep := if x.rep.clamps.length < 256 then { x.rep with clamps := x.rep.clamps ++ [(l, lo, width, w, v)] }
      else { x.rep with covf := x.rep.covf + 1 } }

/-- A finding record (R367, R372). -/
def found (x : Chk) (kind index detail : Nat) : Chk :=
  { x with rep := if x.rep.finds.length < 256 then { x.rep with finds := x.rep.finds ++ [(kind, index, detail)] }
      else { x.rep with fovf := x.rep.fovf + 1 } }

/-- A field takes an applied value, with a record when it differs from the written one. -/
def apply (x : Chk) (l lo width v : Nat) : Chk :=
  let w := x.bits l lo width
  if w = v then x else (x.setBits l lo width v).clamped l lo width w v

/-- One word: each field against its range, lowest bit first; reserved bits are cleared and counted. -/
def clampWord (x : Chk) (l : Nat) : Chk :=
  let w := x.word l
  let fs := fieldsAt x.t l w
  let mask := sumList (fs.map fun f => (2 ^ f.2.1 - 1) * 2 ^ f.1)
  let extra := ((List.range 32).filter fun i => bitOf w i && !bitOf mask i).length
  let x := if extra = 0 then x
    else { x with t := tabSet locDefault x.t l (BitVec.ofNat 32 w &&& BitVec.ofNat 32 mask),
                  rep := { x.rep with rsvd := x.rep.rsvd + extra } }
  fs.foldl (fun x f =>
    match f.2.2 with
    | .fixed => x.setBits l f.1 f.2.1 (bitsOf (locDefault l).toNat f.1 f.2.1)
    | r => x.apply l f.1 f.2.1 (r.apply f.2.1 (x.bits l f.1 f.2.1))) x

/-- Every given location in ascending order, and the phases that a period may have put out of range (R366). -/
def clampAll (x : Chk) (ls : List Nat) : Chk := ls.foldl clampWord x

-- Structural checks (R367)

/-- Check 1: bank modes by the scan group, then the line currents (R154, R161). -/
def checkMatrix (x : Chk) : Chk :=
  let w := x.word aMTX_CFG
  let en := bitOf w 17
  let k := bitsOf w 19 2
  let first := bitsOf w 21 3
  let n := 2 ^ (k + 1)
  let x := (List.range 8).foldl (fun x b =>
    let m := x.bits (aBANK_CFG b) 0 2
    let want := if en && first ≤ b && b < first + n then 2 else if m = 2 then 0 else m
    if m = want then x else (x.apply (aBANK_CFG b) 0 2 want).found 1 b 1) x
  if !en then x
  else
    let halves := if bitOf w 18 then [(first, n / 2), (first + n / 2, n / 2)] else [(first, n)]
    halves.foldl (fun x h =>
      let cols := (List.range (16 * h.2)).map fun i => 16 * h.1 + i
      let i := fun (x : Chk) c => 2046 + 38 * x.bits (aCHCFG_CEIL c) 0 10
      if sumList (cols.map (i x)) ≤ 613800 then x
      else
        cols.foldl (fun x c =>
          if 613800 < i x c * cols.length then
            (x.apply (aCHCFG_CEIL c) 0 10 ((613800 / cols.length - 2046) / 38)).found 1 (c / 16) 2
          else x) x) x

/-- An aspect's NCH, channels and class in a set of words. -/
def nch (x : Chk) (n : Nat) : Nat := x.bits (aSUP_ASPCFG n 0) 2 4
def chans (x : Chk) (n : Nat) : List Nat :=
  (List.range (if x.nch n < 8 then x.nch n else 8)).map fun i => x.bits (aSUP_ASPCFG n (1 + i / 4)) (8 * (i % 4)) 7
def cls (x : Chk) (n : Nat) : Nat := x.bits (aSUP_ASPCFG n 0) 0 2
def head (x : Chk) (n : Nat) : Nat := x.bits (aSUP_ASPCFG n 0) 6 5
def hslot (x : Chk) (n : Nat) : Nat := x.bits (aSUP_ASPCFG n 0) 11 2

/-- The aspects that have not been disabled by an earlier check. -/
def alive (x : Chk) (d : Tab Nat) : List Nat :=
  (List.range 96).filter fun n => x.nch n != 0 && tabGet (fun _ => 0) d n == 0

/-- One check of R68: each aspect in ascending order, against the ones that it has left enabled so far. -/
def aspCheck (x : Chk) (d : Tab Nat) (reason : Nat) (bad : List Nat → Nat → Bool) : Chk × Tab Nat :=
  let r := (x.alive d).foldl (fun (r : List Nat × List Nat) n =>
    if bad r.1 n then (r.1, r.2 ++ [n]) else (r.1 ++ [n], r.2)) ([], [])
  (r.2.foldl (fun x n => x.found 2 n reason) x, r.2.foldl (fun d n => tabSet (fun _ => 0) d n reason) d)

/-- Check 2: the six checks of R68; the reasons of the disabled aspects. -/
def checkAspects (x : Chk) : Chk × Tab Nat :=
  let banks := fun (c : Nat) => x.bits (aBANK_CFG (c / 16)) 0 2
  let (x, d) := x.aspCheck [] 1 fun _ n => decide (8 < x.nch n) || !(x.chans n).Nodup
  let (x, d) := x.aspCheck d 2 fun kept n => (x.chans n).any fun c => kept.any fun m => (x.chans m).contains c
  let (x, d) := x.aspCheck d 4 fun kept n => kept.any fun m => x.head m == x.head n && x.hslot m == x.hslot n
  let (x, d) := x.aspCheck d 6 fun _ n => x.cls n != 0 && (x.chans n).any fun c => banks c == 2
  let red := fun (b : Nat) => (x.alive d).any fun m => x.cls m == 2 && (x.chans m).any fun c => c / 16 == b
  let (x, d) := x.aspCheck d 3 fun _ n => x.cls n == 1 && (x.chans n).any fun c => red (c / 16)
  let force := fun (n : Nat) =>
    let w := x.word (aSUP_HEADCFG (x.head n))
    bitOf w 7 && (x.alive d).any fun m => m == w % 128 && x.cls m == 2 && x.head m == x.head n
  x.aspCheck d 5 fun _ n => x.cls n == 1 && !force n

/-- SRC and SRCIDX are in the table of R168 and R179. -/
def srcOk (src idx : Nat) : Bool :=
  match src with
  | 0 | 1 => true
  | 2 => idx < 512
  | 4 => idx < 16
  | 5 => idx ≤ 3 || (16 ≤ idx && idx ≤ 31)
  | 6 => idx < 32
  | _ => false

/-- The entries of an indirect table that have a word which is not 0, ascending. -/
def entriesOf (x : Chk) (space size : Nat) : List Nat :=
  (x.t.filterMap fun (l, _) => if l / 2 ^ 24 = space then some (l % 2 ^ 24 / size) else none).eraseDups

/-- Check 3: observation slots and snoop entries (R189). The DETAIL of a configuration written for a fixed slot is not stated: a free
value (log entry 69). -/
def checkObs (x : Chk) : Chk :=
  let x := (x.entriesOf 1 2).foldl (fun x n =>
    let w := x.word (loc 1 (2 * n))
    if n < 896 && !srcOk (bitsOf w 28 4) (bitsOf w 16 10) then (x.setBits (loc 1 (2 * n)) 28 4 0).found 3 n 1 else x) x
  let x := x.fixed.foldl (fun x n => x.found 3 n Config.fixedSlotDetail) x
  (x.entriesOf 2 8).foldl (fun x e =>
    let w := x.word (loc 2 (8 * e))
    let x := if bitOf w 31 && (896 ≤ bitsOf w 16 10 || x.bits (loc 1 (2 * bitsOf w 16 10)) 28 4 != 1) then
        (x.setBits (loc 2 (8 * e)) 31 1 0).found 3 (0x8000 + e) 2
      else x
    let x := [8, 16, 24].foldl (fun x lo =>
      x.apply (loc 2 (8 * e + 5)) lo 8 (clampNat 0 252 (x.bits (loc 2 (8 * e + 5)) lo 8))) x
    let lsb := x.bits (loc 2 (8 * e + 6)) 5 5
    x.apply (loc 2 (8 * e + 6)) 0 5 (clampNat 0 (31 - lsb) (x.bits (loc 2 (8 * e + 6)) 0 5))) x

/-- An OUTPUT that protects (R184), by a set of words. -/
def protects (x : Chk) (e : RuleEntry) : Bool :=
  decide (e.asp < 96) && x.nch e.asp != 0 && ((e.auth == 1 && x.cls e.asp == 2) || (e.auth == 2 && x.cls e.asp == 1))

/-- Check 4: the rule table (R184, R187, R189). -/
def checkRules (x : Chk) : Chk :=
  let gs := ruleGroups (ruleEntries x.t) []
  let fs : List (Nat × Nat) :=
    ((x.entriesOf 3 4).filterMap fun e => if (ruleEntryAt x.t e).kind = 3 then some (e, 1) else none)
      ++ gs.flatMap fun (ts, o) =>
        (ts.flatMap fun e =>
          let src := if e.slot < 896 then x.bits (loc 1 (2 * e.slot)) 28 4 else 3
          (if 5 < e.op then [(e.idx, 2)] else [])
            ++ (if (match o with
                    | some q => x.protects q
                    | none => false) && src == 6 then [(e.idx, 3)] else [])
            ++ (if src = 0 then [(e.idx, 4)] else []) ++ (if o = none then [(e.idx, 5)] else []))
        ++ match o with
          | some q => if q.auth = 3 ∨ 96 ≤ q.asp ∨ x.nch q.asp = 0 then [(q.idx, 6)] else []
          | none => []
  let fs := (List.range 2048).flatMap fun e => if fs.isEmpty then [] else fs.filter fun f => f.1 == e
  fs.foldl (fun x f => x.found 4 f.1 f.2) x

/-- The flagged groups as (index of the OUTPUT, TERMs). -/
def flagged (x : Chk) : List (Nat × Nat) :=
  (ruleGroups (ruleEntries x.t) []).filterMap fun (ts, o) =>
    match o with
    | some q => if q.hazard then some (q.idx, ts.length) else none
    | none => none

/-- The highest flagged entries beyond 128 flags or 512 TERMs, at most `n` of them. -/
def overFlags : Nat → List (Nat × Nat) → List Nat
  | 0, _ => []
  | n + 1, l =>
    if 128 < l.length ∨ 512 < sumList (l.map (·.2)) then
      match l.getLast? with
      | some p => p.1 :: overFlags n l.dropLast
      | none => []
    else []

/-- Check 5: hazard flags (R150). -/
def checkHazard (x : Chk) (d : Tab Nat) : Chk :=
  let x := x.flagged.foldl (fun x p =>
    let e := ruleEntryAt x.t p.1
    let dis := decide (e.asp < 96) && tabGet (fun _ => 0) d e.asp != 0
    if x.protects e && !dis then x
    else (x.setBits (loc 3 (4 * p.1)) 23 1 0).found 5 p.1 (if x.protects e then 3 else 1)) x
  let ovr := overFlags 2048 x.flagged
  (ovr.reverse).foldl (fun x i => (x.setBits (loc 3 (4 * i)) 23 1 0).found 5 i 2) x

-- Check 6: launch descriptors (R243)

def ldBits (x : Chk) (d w lo width : Nat) : Nat := x.bits (loc 4 (8 * d + w)) lo width
def ldOn (x : Chk) (d : Nat) : Bool := x.ldBits d 0 31 1 == 1
def ldOff (x : Chk) (d check : Nat) : Chk := (x.setBits (loc 4 (8 * d)) 31 1 0).found 6 d check

/-- The descriptor sends on a physical port (0 east, 1 west). -/
def ldOnPort (x : Chk) (d p : Nat) : Bool := bitOf (x.ldBits d 0 29 2) p
def gigabit (x : Chk) (p : Nat) : Bool := x.bits aRING_CFG p 1 == 1

/-- The divisors of 10^9 between 100,000 and 10^9, rising. -/
def launchPeriods : List Nat :=
  ((List.range 10).flatMap fun a => (List.range 10).map fun b => 2 ^ a * 5 ^ b).filter fun p => 100000 ≤ p ∧ p ≤ 1000000000

/-- PERIOD after check 3. -/
def ldPeriod (p : Nat) : Nat :=
  if p = 0 then 0 else if p ≤ 100000 then 100000 else maxFrom 100000 (launchPeriods.filter fun q => q ≤ p)

/-- Wire time of the launch frame in ticks at the slowest of its ports. -/
def ldWire (x : Chk) (d : Nat) : Nat :=
  let n := x.ldBits d 5 16 11 + 24
  if (x.ldOnPort d 0 && x.gigabit 0) || (x.ldOnPort d 1 && x.gigabit 1) then (n + 4) / 5 else (n + 49) / 50

/-- Checks 1-4 on one descriptor. -/
def ldOwn (x : Chk) (d : Nat) : Chk :=
  if !x.ldOn d then x
  else
    let tlen := x.ldBits d 5 16 11
    if tlen < 60 ∨ 1996 < tlen ∨ x.ldBits d 0 29 2 = 0 then x.ldOff d 1
    else
      let x := if x.ldBits d 0 28 1 = 1 ∧ tlen < x.ldBits d 5 0 11 + 4 then (x.setBits (loc 4 (8 * d)) 28 1 0).found 6 d 2 else x
      let x := [6, 7].foldl (fun x w =>
        if x.ldBits d w 20 1 = 1 ∧ tlen < x.ldBits d w 21 11 + 4 then (x.setBits (loc 4 (8 * d + w)) 20 1 0).found 6 d 2 else x) x
      let x := x.apply (loc 4 (8 * d + 4)) 0 32 (ldPeriod (x.ldBits d 4 0 32))
      let wire := x.ldWire d
      if 500 < wire then x.ldOff d 4
      else
        let least := if wire < 25 then 25 else wire
        x.apply (loc 4 (8 * d)) 16 9 (clampNat least 500 (x.ldBits d 0 16 9))

/-- Period in ns (a single occurrence counts once in a second), first G in a second, guard and window in ns on a port. -/
def ldP (x : Chk) (d : Nat) : Nat := if x.ldBits d 4 0 32 = 0 then 1000000000 else x.ldBits d 4 0 32
def ldG (x : Chk) (d : Nat) : Nat := x.ldBits d 1 0 32 % x.ldP d
def ldGuard (x : Chk) (p : Nat) : Nat := if x.gigabit p then 404 * 40 else 41 * 40
def ldWin (x : Chk) (d : Nat) : Nat := x.ldBits d 0 16 9 * 40

/-- Windows with their guards of two descriptors meet on a port (check 5): some difference of their gates, which are all the
numbers of a class modulo the greatest common divisor of the periods, is too small. -/
def ldMeet (x : Chk) (p d e : Nat) : Bool :=
  let g := (x.ldP d).gcd (x.ldP e)
  let dlt := (x.ldG d + g - x.ldG e % g) % g
  decide (dlt < x.ldWin e + x.ldGuard p) || decide (g - dlt < x.ldWin d + x.ldGuard p)

/-- The valid descriptors of a port. -/
def ldList (x : Chk) (p : Nat) : List Nat := (x.entriesOf 4 8).filter fun d => x.ldOn d && x.ldOnPort d p

/-- Check 5 fails on some egress. -/
def ldOverlap (x : Chk) : Bool :=
  [0, 1].any fun p => (x.ldList p).any fun d => (x.ldList p).any fun e => decide (d < e) && x.ldMeet p d e

/-- The gates of a descriptor in one second. -/
def ldGates (x : Chk) (d : Nat) : List Nat := (List.range (1000000000 / x.ldP d)).map fun k => x.ldG d + k * x.ldP d

/-- Check 6 fails: more than 8 gates in some 2,500 ticks. -/
def ldCrowd (x : Chk) : Bool :=
  let all := x.ldList 0 ++ x.ldList 1
  decide (8 < all.length) && all.any fun d => (x.ldGates d).any fun t =>
    decide (8 < (all.filter fun e => decide ((x.ldG e + x.ldP e - t % x.ldP e) % x.ldP e < 100000)).length)

/-- ns of [t, t + 1 ms) that a descriptor reserves on a port. -/
def ldReserved (x : Chk) (p d t : Nat) : Nat :=
  let per := x.ldP d
  let len := x.ldGuard p + x.ldWin d
  -- the first interval that ends after t begins `a` ns before or after it
  let off := (t + per + x.ldGuard p - x.ldG d) % per
  let head := if off < len then len - off else 0
  let next := per - off
  let full := if next < 1000000 then
      let k := (1000000 - next) / per
      let rest := 1000000 - next - k * per
      k * len + (if rest < len then rest else len)
    else 0
  head + full

/-- Check 7 fails: an egress is reserved for more than 200 µs in some 1 ms. -/
def ldBusy (x : Chk) : Bool :=
  [0, 1].any fun p => (x.ldList p).any fun d => (x.ldGates d).any fun g =>
    let t := (g + 1000000000 - x.ldGuard p) % 1000000000
    decide (200000 < sumList ((x.ldList p).map fun e => x.ldReserved p e t))

/-- Valid descriptors are disabled from the highest index down until a check passes. -/
def ldUntil (check : Nat) (bad : Chk → Bool) : Nat → Chk → Chk
  | 0, x => x
  | n + 1, x =>
    if bad x then
      match ((x.entriesOf 4 8).filter x.ldOn).getLast? with
      | some d => ldUntil check bad n (x.ldOff d check)
      | none => x
    else x

/-- Check 6 (R243). -/
def checkLaunch (x : Chk) : Chk :=
  let x := (x.entriesOf 4 8).foldl ldOwn x
  let x := ldUntil 5 ldOverlap 128 x
  let x := ldUntil 6 ldCrowd 128 x
  ldUntil 7 ldBusy 128 x

/-- Check 7: interrupt routes and wake selection (R347, R357). -/
def checkIcu (x : Chk) : Chk :=
  let x := (List.range' 40 56).foldl (fun x n =>
    let l := aICU_ROUTE ((n - 32) / 16)
    if routable n && x.bits l (2 * (n % 16)) 2 == 2 then (x.setBits l (2 * (n % 16)) 2 0).found 7 n 1 else x) x
  (List.range 16).foldl (fun x e =>
    let l := aICU_NWSEL (e / 2)
    let src := x.bits l (16 * (e % 2)) 8
    if x.bits l (16 * (e % 2) + 15) 1 = 1 ∧ (src < 32 ∨ 127 < src) then
      ((x.setBits l (16 * (e % 2) + 15) 1 0).setBits l (16 * (e % 2)) 8 0).found 7 e 2
    else x) x

/-- The structural checks in their order; the reasons of the disabled aspects (R367). -/
def checkAll (x : Chk) : Chk × Tab Nat :=
  let x := x.checkMatrix
  let (x, d) := x.checkAspects
  let x := ((x.checkObs.checkRules).checkHazard d).checkLaunch.checkIcu
  (x, d)

end Chk

-- Image format (R360, R361)

/-- A run: LOCATION, COUNT and its words. -/
structure CfgRun where
  at_ : Nat
  words : List Word
  deriving DecidableEq, Repr

/-- A section as parsed: ID, runs, body bytes of FIRMWARE. -/
structure CfgSec where
  id : Nat
  runs : List CfgRun
  body : List Byte
  deriving DecidableEq, Repr

/-- Word step of a LOCATION's space. -/
def locStep (l : Nat) : Nat := if l < 2 ^ 24 then 4 else 1

/-- The runs of a body, or the byte offset of the first fault. -/
def parseRuns (id : Nat) : Nat → Nat → List Byte → List CfgRun → Except Nat (List CfgRun)
  | 0, off, b, acc => if b.isEmpty then .ok acc else .error off
  | n + 1, off, b, acc =>
    if b.length < 8 then .error off
    else
      let l := ofLeBytes (b.take 4)
      let c := ofLeBytes ((b.drop 4).take 4)
      let last := l + (c - 1) * locStep l
      if c = 0 ∨ b.length < 8 + 4 * c then .error (off + 4)
      else if (l < 2 ^ 24 ∧ l % 4 ≠ 0) ∨ !((sectionRanges id).any fun r => decide (r.1 ≤ l ∧ last ≤ r.2)) then .error off
      else if acc.any fun r => decide (l ≤ r.at_ + (r.words.length - 1) * locStep r.at_ ∧ r.at_ ≤ last) then .error off
      else parseRuns id n (off + 8 + 4 * c) (b.drop (8 + 4 * c)) (acc ++ [⟨l, wordsOfBytes ((b.drop 8).take (4 * c))⟩])

/-- The sections of an image from a byte offset on, or the byte offset of the first fault (R361, R365 step 3). -/
def parseSecs : Nat → Nat → List Byte → List CfgSec → Except Nat (List CfgSec)
  | 0, off, b, acc => if b.isEmpty then .ok acc else .error off
  | n + 1, off, b, acc =>
    if b.length < 16 then .error off
    else
      let id := ofLeBytes (b.take 1)
      let nrun := ofLeBytes ((b.drop 2).take 2)
      let len := ofLeBytes ((b.drop 4).take 4)
      if !(sectionIds.contains id || id == 0x20) || acc.any fun x => x.id == id then .error off
      else if b.length < 16 + len then .error (off + 4)
      else if id = 0x20 then
        (if nrun ≠ 0 then .error (off + 2)
         else parseSecs n (off + 16 + len) (b.drop (16 + len)) (acc ++ [⟨id, [], (b.drop 16).take len⟩]))
      else
        match parseRuns id nrun (off + 16) ((b.drop 16).take len) [] with
        | .error e => .error e
        | .ok rs => parseSecs n (off + 16 + len) (b.drop (16 + len)) (acc ++ [⟨id, rs, []⟩])

/-- Step 3 of R365: header fields and sections. -/
def parseImage (b : List Byte) : Except Nat (List CfgSec) :=
  let f := fun (o n : Nat) => ofLeBytes ((b.drop o).take n)
  if f 0 4 ≠ 0x46434858 then .error 0
  else if f 4 2 ≠ 1 then .error 4
  else if f 6 2 ≠ 0x6128 then .error 6
  else if f 8 1 ≠ 0 ∧ f 8 1 ≠ bitsOf (locDefault aDEV_ID).toNat 8 8 then .error 8
  else if f 10 1 = 0 ∨ 19 < f 10 1 then .error 10
  else
    match parseSecs (f 10 1) 64 (b.drop 64) [] with
    | .error e => .error e
    | .ok ss => if b.length % 4 ≠ 0 ∨ (524288 < b.length ∧ !(ss.any fun x => x.id == 0x20)) then .error 12 else .ok ss

/-- The locations of a section leave their values (R361). -/
def dropSection (t : Tab Word) (id : Nat) : Tab Word := t.filter fun p => !inRanges p.1 (sectionRanges id)

/-- A run writes its words to the locations that hold configuration (R361, R363). -/
def putRun (t : Tab Word) (r : CfgRun) : Tab Word :=
  (r.words.zipIdx).foldl (fun t p =>
    let l := r.at_ + p.2 * locStep r.at_
    if isConfig l then tabSet locDefault t l p.1 else t) t

/-- The merged table before clamping, and the locations that the image wrote, ascending (R361). -/
def mergeImage (t : Tab Word) (ss : List CfgSec) : Tab Word × List Nat :=
  let ss := ss.filter fun x => x.id != 0x20
  let t := ss.foldl (fun t x => dropSection t x.id) t
  let runs := ss.flatMap (·.runs)
  let t := runs.foldl putRun t
  (t, (runs.foldl (fun m r => (List.range r.words.length).foldl (fun m i =>
    let l := r.at_ + i * locStep r.at_
    if isConfig l then tabSet (fun _ => false) m l true else m) m) ([] : Tab Bool)).map (·.1))

/-- The words of a section that hold reserved bits only (CHCFG, PAT_CFG, SUP_ASPCFG, RULE_TWIN, TIME_LOFF, ICU_ROUTE4-5). -/
def reservedWord (l : Nat) : Bool :=
  (decide (0x11000 ≤ l ∧ l < 0x12000) && decide (16 ≤ l % 32))
    || (decide (0x13100 ≤ l ∧ l < 0x13300) && (l % 64 == 0x0C || l % 64 == 0x1C))
    || ((decide (0x14800 ≤ l ∧ l < 0x14E00) || decide (0x16200 ≤ l ∧ l < 0x16400) || decide (0x1A040 ≤ l ∧ l < 0x1A0C0)) && l % 16 == 12)
    || l == 0x1B010 || l == 0x1B014

/-- The bits that the runs of an image write as 1 in such words (R366). -/
def reservedOnes (ss : List CfgSec) : Nat :=
  sumList ((ss.flatMap (·.runs)).map fun r => sumList ((r.words.zipIdx).map fun p =>
    if reservedWord (r.at_ + p.2 * locStep r.at_) then ((List.range 32).filter p.1.getLsbD).length else 0))

/-- The fixed observation slots for which an image writes configuration, ascending (R189; log entry 69). -/
def fixedWrites (ss : List CfgSec) : List Nat :=
  ((ss.flatMap (·.runs)).foldl (fun (m : Tab Bool) r => (r.words.zipIdx).foldl (fun m p =>
    let l := r.at_ + p.2 * locStep r.at_
    if loc 1 1792 ≤ l ∧ l < loc 1 2048 then tabSet (fun _ => false) m ((l - loc 1 0) / 2) true else m) m) []).map (·.1)

/-- The report bytes (R372). -/
def reportBytes (outcome : Nat) (r : CfgRep) (image gen present carried rej ts : Nat) : List Byte :=
  leBytes 2 outcome ++ leBytes 2 r.clamps.length ++ leBytes 4 r.covf ++ leBytes 4 r.finds.length ++ leBytes 4 r.fovf
    ++ leBytes 4 r.rsvd ++ leBytes 4 image ++ leBytes 4 gen ++ leBytes 4 carried ++ leBytes 4 present ++ leBytes 4 rej
    ++ leBytes 4 ts ++ leBytes 4 0x3FF0000 ++ List.replicate 16 0
    ++ (r.clamps.flatMap fun (l, lo, width, w, v) => leBytes 4 l ++ leBytes 1 lo ++ leBytes 3 width ++ leBytes 4 w ++ leBytes 4 v)
    ++ r.finds.flatMap fun (k, i, d) => leBytes 2 k ++ leBytes 2 i ++ leBytes 12 d

end Sys2Proof.Machine
end

