-- ==== Sys2Proof/Machine/Crypto.lean ====
section
/-! DEFINITION. SHA-256 and HMAC-SHA-256, which the security block applies to passwords and nonces (R335, R337). The constants are
computed from the primes they stand for, and the working words are one list. -/

namespace Sys2Proof.Machine

/-- The largest r below 2^k + r₀ with r ^ n at most v, one bit at a time from the top. -/
def rootFrom (n v : Nat) : Nat → Nat → Nat
  | 0, r => r
  | k + 1, r => rootFrom n v k (if (r + 2 ^ k) ^ n ≤ v then r + 2 ^ k else r)

/-- The first 32 fraction bits of the n-th root of p, for roots below 32. -/
def rootFraction (n p : Nat) : Word := BitVec.ofNat 32 (rootFrom n (p * 2 ^ (32 * n)) 37 0)

/-- The first 64 primes. -/
def smallPrimes : List Nat :=
  (List.range 312).filter fun p => decide (2 ≤ p) && (List.range p).all fun d => decide (d < 2) || p % d != 0

/-- The XOR of a word's right rotations by each of the amounts. -/
def turns (x : Word) (ns : List Nat) : Word := ns.foldl (fun v n => v ^^^ x.rotateRight n) 0

/-- The message words, newest first, with `n` more of the schedule put in front. -/
def lengthen : Nat → List Word → List Word
  | 0, ws => ws
  | n + 1, ws =>
    let at_ := fun i => ws.getD i 0
    let near := turns (at_ 1) [17, 19] ^^^ (at_ 1 >>> 10)
    let far := turns (at_ 14) [7, 18] ^^^ (at_ 14 >>> 3)
    lengthen n ((at_ 15 + far + at_ 6 + near) :: ws)

/-- One round on the eight working words: `kw` is the sum of the round's constant and message word. -/
def stir (h : List Word) (kw : Word) : List Word :=
  let v := fun i => h.getD i 0
  let up := v 7 + kw + turns (v 4) [6, 11, 25] + (v 6 ^^^ (v 4 &&& (v 5 ^^^ v 6)))
  let most := (v 0 &&& v 1) ||| (v 2 &&& (v 0 ||| v 1))
  (up + turns (v 0) [2, 13, 22] + most) :: (h.take 3 ++ (v 3 + up) :: (h.drop 4).take 3)

/-- Four bytes, most significant first, as a word, and back. -/
def wordOfBe (bs : List Byte) : Word := BitVec.ofNat 32 (ofLeBytes bs.reverse)
def beOfWord (w : Word) : List Byte := (leBytes 4 w.toNat).reverse

/-- A 64-byte block joins the hash value. -/
def absorb (h : List Word) (block : List Byte) : List Word :=
  let first := (List.range 16).map fun i => wordOfBe ((block.drop (4 * i)).take 4)
  let kws := List.zipWith (· + ·) (smallPrimes.map (rootFraction 3)) (lengthen 48 first.reverse).reverse
  List.zipWith (· + ·) h (kws.foldl stir h)

/-- SHA-256 of a byte list: 32 bytes. -/
def sha256 (m : List Byte) : List Byte :=
  let bits := (leBytes 8 (8 * m.length)).reverse
  let blocks := (m.length + 72) / 64
  let padded := m ++ 0x80 :: List.replicate (64 * blocks - m.length - 9) 0 ++ bits
  let start := (smallPrimes.take 8).map (rootFraction 2)
  ((List.range blocks).foldl (fun h i => absorb h ((padded.drop (64 * i)).take 64)) start).flatMap beOfWord

/-- HMAC-SHA-256 under a 32-byte key. -/
def hmac (key m : List Byte) : List Byte :=
  let pad := fun (b : Byte) => (key ++ List.replicate (64 - key.length) 0).map (· ^^^ b)
  sha256 (pad 0x5c ++ sha256 (pad 0x36 ++ m))

end Sys2Proof.Machine
end

