-- ==== Sys2Proof/Machine/Icu.lean ====
section
/-! DEFINITION. The interrupt controller's own commands: edges, pending and mask writes, acknowledge, end of a delivery,
moderation (R346-R359). -/

namespace Sys2Proof.Machine

namespace State

/-- The bits of a private bank that exist: SWI0-SWI7, and for an internal core TIMER and ECC_CE (R359). -/
def privMask (t : Nat) : Nat := if t = 3 then 0xFF else 0x3FF

/-- The bits of word w that a target's view holds (R348). -/
def viewBits (s : State) (t w : Nat) (x : Word) : Word :=
  if w = 0 then x &&& BitVec.ofNat 32 (privMask t) else s.viewWord t w x

/-- Pending and mask words of a target's view (R348, R351). -/
def viewPend (s : State) (t w : Nat) : Word := s.viewBits t w (s.icuPend (if w = 0 then t else 3 + w))
def viewMask (s : State) (t w : Nat) : Word := s.viewBits t w (s.icuMask (if w = 0 then t else 3 + w))
def viewAct (s : State) (t w : Nat) : Word := s.viewPend t w &&& ~~~s.viewMask t w

/-- ICU_LOWEST of a view: bit 8 VALID, bits 7:0 the source (R352). -/
def lowest (s : State) (t : Nat) : Nat :=
  match ((List.range 256).find? fun n => (s.viewAct t (n / 32)).getLsbD (n % 32)) with
  | some n => 256 + n
  | none => 0

/-- MOD of a target in µs (R356). -/
def modOf (s : State) (t : Nat) : Nat := if t = 3 then s.get fHMOD_MOD else s.get (fMOD_MOD t)

/-- A target's in-service flag clears; its moderation window starts unless it is idle (R354, R356). -/
def serviceEnds (s : State) (t : Nat) : State :=
  let run := s.modOf t != 0 && !s.idle t
  { s with icu := { s.icu with
      insvc := tabSet (fun _ => false) s.icu.insvc t false,
      window := tabSet (fun _ => false) s.icu.window t run,
      windowEnd := tabSet (fun _ => 0) s.icu.windowEnd t (if run then s.grid.tick + 25 * s.modOf t else 0) } }

/-- A HOST delivery ends once no source of it is pending: the pin goes high for at least 25 ticks (R354). -/
def hostDone (s : State) : State :=
  let left := (List.range 8).any fun w => tabGet (fun _ => (0 : Word)) s.icu.dlv w &&& s.icuPend (if w = 0 then 3 else 3 + w) != 0
  if !tabGet (fun _ => false) s.icu.insvc 3 || left then s
  else
    let s := s.serviceEnds 3
    { s with
      icu := { s.icu with dlv := [], minHigh := true, highAt := s.grid.tick }
      pins := { s.pins with hostIrqN := true } }

/-- A write of ICU_PEND_SETw: every 1 of the view acts as an edge (R350). -/
def pendWrite (s : State) (t w : Nat) (x : Word) : State :=
  let y := s.viewBits t w x
  let s := s.pendSet (if w = 0 then t else 3 + w) y
  let s := if w = 0 then s else (List.range 32).foldl (fun s i =>
    if y.getLsbD i && risesInDusk (32 * w + i) then s.nwWake (32 * w + i) else s) s
  s.refreshIcu

/-- A write of ICU_PEND_CLRw (R350, R354). -/
def pendClear (s : State) (t w : Nat) (x : Word) : State :=
  ((s.pendClr (if w = 0 then t else 3 + w) (s.viewBits t w x)).hostDone).refreshIcu

/-- A write of ICU_MASK_SETw or ICU_MASK_CLRw (R351, R353). -/
def maskWrite (s : State) (t w : Nat) (x : Word) (on : Bool) : State :=
  let k := if w = 0 then t else 3 + w
  let y := s.viewBits t w x
  let m := if on then s.icuMask k ||| y else s.icuMask k &&& ~~~y
  ({ s with icu := { s.icu with mask := tabSet (fun _ => 0xFFFFFFFF) s.icu.mask k m } }).refreshIcu

/-- A target acknowledges its request: in service; an internal core leaves its wait state, and for HOST the sources pending and not
masked are copied as HOST_IRQ_N goes low, which it cannot once the link is lost (R354, R356, R358). -/
def acknowledge (s : State) (t : Nat) : State :=
  if !tabGet (fun _ => false) s.icu.request t then s
  else
    let dlv := if t = 3 then
        (List.range 8).foldl (fun d w => tabSet (fun _ => (0 : Word)) d w (s.viewAct 3 w)) s.icu.dlv
      else s.icu.dlv
    ({ s with
      icu := { s.icu with
        insvc := tabSet (fun _ => false) s.icu.insvc t true, dlv := dlv, waiting := tabSet (fun _ => false) s.icu.waiting t false }
      pins := { s.pins with hostIrqN := s.pins.hostIrqN && (t != 3 || s.link.lost) } }).refreshIcu

/-- A target's moderation window ends (R356). -/
def windowEnds (s : State) (t : Nat) : State :=
  ({ s with icu := { s.icu with window := tabSet (fun _ => false) s.icu.window t false } }).refreshIcu

/-- A core enters its wait state, which ends its window (R356). -/
def coreWaits (s : State) (t : Nat) : State :=
  ({ s with icu := { s.icu with waiting := tabSet (fun _ => false) s.icu.waiting t true } }).windowEnds t

/-- ICU_EOI of an internal core, and whether the core then waits (R354, R356). -/
def eoi (s : State) (t : Nat) (wait : Bool) : State :=
  if 3 ≤ t then s
  else
    let s := if tabGet (fun _ => false) s.icu.insvc t then (s.serviceEnds t).refreshIcu else s
    if wait then s.coreWaits t else s

/-- The MOD x 25 ticks of a target's window have passed (R356). -/
def windowOver (s : State) (t : Nat) : Bool :=
  tabGet (fun _ => false) s.icu.window t && decide (tabGet (fun _ => 0) s.icu.windowEnd t ≤ s.grid.tick)

/-- HOST_SLEEP rises, which ends the window of HOST, or falls (R356). -/
def sleepLevel (s : State) (high : Bool) : State :=
  let s := { s with pins := { s.pins with hostSleep := high } }
  if high then s.windowEnds 3 else s.refreshIcu

/-- One corrected single-bit error of an SRAM region: an edge of ECC_CE of an internal core (0-2), or a read of the hardware
tables (3), which raises no source (R8, R359). -/
def eccCorrected (s : State) (t : Nat) : State :=
  { s with icu := { s.icu with ecc := tabSet (fun _ => 0) s.icu.ecc t (tabGet (fun _ => 0) s.icu.ecc t + 1) } }

/-- A rising source signal: a private source of a target, or a shared source (R350). SWI0-SWI7 have no signal, and TIMER does not
rise in Dusk (R359). -/
def sourceEdge (s : State) (t n : Nat) : State :=
  let s := if n = 9 then s.eccCorrected t else s
  if 32 ≤ n then s.raise n
  else if n < 8 || (n == 8 && s.inDusk) then s
  else (s.pendSet t (BitVec.ofNat 32 (2 ^ n) &&& BitVec.ofNat 32 (privMask t))).refreshIcu

/-- A read of ICU_NWSTAT clears WOKE (R357). -/
def nwstatRead (s : State) : State := s.putFlag fNWSTAT_WOKE false

/-- The controller after D0: nothing pending, everything masked (R351); what has been counted of corrected errors stays (R8). -/
def icuClear (s : State) : State := { s with icu := { State.reset.icu with ecc := s.icu.ecc } }

end State

-- Commands

/-- ICU_SOURCE_EDGE of source n; the target counts for the private sources (R350). -/
def execIcuSourceEdge (t : Fin 4) (n : Fin 256) (s : State) : Res := .next (s.sourceEdge t.val n.val)

/-- ICU_PEND_SET by a target in word w (R350). -/
def execIcuPendSet (t : Fin 4) (w : Fin 8) (x : BitVec 32) (s : State) : Res := .next (s.pendWrite t.val w.val x)

/-- ICU_PEND_CLR (R350). -/
def execIcuPendClr (t : Fin 4) (w : Fin 8) (x : BitVec 32) (s : State) : Res := .next (s.pendClear t.val w.val x)

/-- ICU_MASK_SET (R351). -/
def execIcuMaskSet (t : Fin 4) (w : Fin 8) (x : BitVec 32) (s : State) : Res := .next (s.maskWrite t.val w.val x true)

/-- ICU_MASK_CLR (R351). -/
def execIcuMaskClr (t : Fin 4) (w : Fin 8) (x : BitVec 32) (s : State) : Res := .next (s.maskWrite t.val w.val x false)

/-- ICU_ACKNOWLEDGE (R354). -/
def execIcuAcknowledge (t : Fin 4) (s : State) : Res := .next (s.acknowledge t.val)

/-- ICU_EOI of an internal core, and whether it then enters its wait state (R356); it has no effect on HOST (R354). -/
def execIcuEoi (t : Fin 4) (wait : Bool) (s : State) : Res := .next (s.eoi t.val wait)

/-- MODERATION_WINDOW_END (R356). -/
def execModerationWindowEnd (t : Fin 4) (s : State) : Res :=
  if s.windowOver t.val then .next (s.windowEnds t.val) else .next s

/-- HOST_SLEEP_RISE: the pin rises, or falls again (R356). -/
def execHostSleepRise (rise : Bool) (s : State) : Res := .next (s.sleepLevel rise)

/-- HOST_IRQ_MIN_HIGH_END: the pin has been high for 25 ticks (R354). -/
def execHostIrqMinHighEnd (s : State) : Res :=
  if s.grid.tick < s.icu.highAt + 25 then .next s
  else .next ({ s with icu := { s.icu with minHigh := false } }).refreshIcu

/-- ICU_NWSTAT_READ (R357). -/
def execIcuNwstatRead (s : State) : Res := .next s.nwstatRead

end Sys2Proof.Machine
end

