-- ==== Sys2Proof/Machine/Sec.lean ====
section
/-! DEFINITION. Elevation, credentials, field lock and firmware slots (R331-R345). -/

namespace Sys2Proof.Machine

def defFw : FwSlot := ⟨[], false, 0, false⟩

namespace State

def setSec (s : State) (x : Sec) : State := { s with sec := x }

/-- The context is elevated (R332): 0 QSPI, 1-8 ring, 9 SPI. -/
def elevated (s : State) (c : Nat) : Bool := tabGet (fun _ => false) s.sec.elev c

/-- A privileged access or command of a context restarts its time-out (R332). -/
def touch (s : State) (c : Nat) : State :=
  if s.elevated c then s.setSec { s.sec with used := tabSet (fun _ => 0) s.sec.used c s.nw.tick } else s

/-- A context becomes elevated, or its time-out restarts (R334). -/
def elevate (s : State) (c : Nat) : State :=
  (s.setSec { s.sec with elev := tabSet (fun _ => false) s.sec.elev c true }).touch c

/-- The elevation of a context ends (R332). -/
def endElev (s : State) (c : Nat) : State :=
  s.setSec { s.sec with elev := tabSet (fun _ => false) s.sec.elev c false, used := tabErase s.sec.used c }

/-- Every elevation ends (R334, R342). -/
def endAllElev (s : State) : State := s.setSec { s.sec with elev := [], used := [] }

/-- A nonce is live for 60 s from its draw (R337). -/
def nonceLive (s : State) (c : Nat) : Bool := decide (s.nw.tick < tabGet (fun _ => 0) s.sec.nonceAt c + 60 * tps)

/-- The live nonce of a context with its purpose (R337). -/
def nonce (s : State) (c : Nat) : Option (Nat × List Byte) :=
  (s.sec.nonces.find? fun p => p.1 == c && s.nonceLive c).map (·.2)
def dropNonce (s : State) (c : Nat) : State :=
  s.setSec { s.sec with nonces := tabErase s.sec.nonces c, nonceAt := tabErase s.sec.nonceAt c }

/-- `n` free bytes (R337: the random source gives no stated value). -/
def freeBytes (s : State) : Nat → List Byte × State
  | 0 => ([], s)
  | n + 1 =>
    let (k, s) := s.fresh
    let (bs, s) := s.freeBytes n
    (BitVec.ofNat 8 (Config.freeNat k) :: bs, s)

/-- A nonce is drawn for a context and a purpose, 1 ELEVATE, 2 DEBUG (R337). -/
def challenge (s : State) (c purpose : Nat) : List Byte × State :=
  let (n, s) := s.freeBytes 32
  (n, s.setSec { s.sec with
    nonces := tabInsert (tabErase s.sec.nonces c) c (purpose, n), nonceAt := tabSet (fun _ => 0) s.sec.nonceAt c s.nw.tick })

/-- A lockout runs, and the seconds left of it, rounded up (R339). -/
def lockedOut (s : State) : Bool := decide (s.nw.tick < s.sec.lockEnd)
def lockLeft (s : State) : Nat := (s.sec.lockEnd - s.nw.tick + tps - 1) / tps

/-- The lockout that F failures start, in s (R339). -/
def lockout (f : Nat) : Nat := if f < 5 then 0 else if 11 ≤ f then 3600 else 60 * 2 ^ (f - 5)

/-- A failed check: F counts up, a lockout starts from the fifth on, ELEVATE_FAIL is logged (R339). -/
def credFail (s : State) (c method : Nat) : State :=
  let f := s.sec.fails + 1
  let l := lockout f
  let s := s.setSec { s.sec with fails := f, lockEnd := if l = 0 then s.sec.lockEnd else s.nw.tick + l * tps }
  (s.flash (rewrite flSec 1)).logFw evELEVATE_FAIL kMBX c [c, method, f, l]

/-- A success resets F (R339). -/
def credGood (s : State) : State := (s.setSec { s.sec with fails := 0 }).flash (rewrite flSec 1)

/-- The eight bytes match the stored site password (R335). -/
def pwMatch (s : State) (bs : List Byte) : Bool := s.sec.record == some (hmac Config.kPw bs)

/-- A checked site password: the context is elevated, or the failure counts (R335, R339). -/
def pwCheck (s : State) (c : Nat) (bs : List Byte) : State × Bool :=
  if s.pwMatch bs then (s.credGood.elevate c, true) else (s.credFail c 1, false)

/-- Debug and test access opens until the next power cycle (R341). -/
def debugOpen (s : State) (c : Nat) : State :=
  (s.setSec { s.sec with dbg := true }).logFw evDEBUG_OPEN kMBX c [c]

/-- A checked response of a purpose; the nonce is consumed, and a success restarts the time-out of an elevated context (R337, R334). -/
def respCheck (s : State) (c purpose : Nat) (resp : List Byte) : State × Bool :=
  match s.nonce c with
  | none => (s, false)
  | some (_, n) =>
    let s := s.dropNonce c
    let want := (hmac (if purpose = 1 then Config.kElev else Config.kDbg) n).take 16
    if resp = want then (if purpose = 1 then s.credGood.elevate c else (s.credGood.debugOpen c).touch c, true)
    else (s.credFail c (0x80 + purpose), false)

/-- The elevation of a context times out: no privileged access for ELEV_TMO minutes (R332). -/
def elevTimeout (s : State) (c : Nat) : State :=
  if s.elevated c ∧ tabGet (fun _ => 0) s.sec.used c + s.get fSEC_ELEV_TMO * 60 * tps ≤ s.nw.tick then s.endElev c else s

/-- A write of SEC_PWSETn (R338). -/
def pwSet (s : State) (i x : Nat) : State := s.setSec (if i = 0 then { s.sec with pw0 := x } else { s.sec with pw1 := x })

/-- A write of SEC_PWCMD by a context: 0x5A set, 0xC3 clear (R338). -/
def pwCmd (s : State) (c key : Nat) : State :=
  let bs := leBytes 4 s.sec.pw0 ++ leBytes 4 s.sec.pw1
  let s := s.setSec { s.sec with pw0 := 0, pw1 := 0 }
  if key = 0x5A then
    if bs = List.replicate 8 (bs.headD 0) then s.setSec { s.sec with weak := true }
    else ((s.setSec { s.sec with record := some (hmac Config.kPw bs), weak := false }).flash (rewrite flSec 1)).logFw
      evPW_CHANGED kMBX c [1, c]
  else if key = 0xC3 then
    ((s.setSec { s.sec with record := none, weak := false }).flash (rewrite flSec 1)).logFw evPW_CHANGED kMBX c [0, c]
  else s

/-- A lockout restarts at its full length at Dawn (R339). -/
def lockRestart (s : State) : State :=
  let l := lockout s.sec.fails
  s.setSec { s.sec with lockEnd := if l = 0 then 0 else s.nw.tick + l * tps }

/-- The ROM's check of an image: the digest of its public key is one of the two in OTP, and the signature over the digest of header and
body verifies (R344). -/
def fwGood (b : List Byte) : Bool :=
  let k := Config.fwPubKey b
  [Config.pkDig 0, Config.pkDig 1].contains (sha256 k) && Config.ecdsaGood k (sha256 (Config.fwSigned b)) (Config.fwSig b)

/-- The processors are loaded with the image of a slot: its key unwrapped, its body decrypted (R344). -/
def fwLoad (s : State) (b : List Byte) : State :=
  let k := Config.unwrapKey Config.kFww (Config.fwWrapped b)
  s.setSec { s.sec with fwKey := some k, image := some (Config.aesGcm k (Config.fwBody b)), secrets := true }

/-- Firmware slots (R344). -/
def fwSlot (s : State) (i : Nat) : FwSlot := tabGet (fun _ => defFw) s.sec.fw i
def setFwSlot (s : State) (i : Nat) (x : FwSlot) : State := s.setSec { s.sec with fw := tabSet (fun _ => defFw) s.sec.fw i x }

/-- The ROM accepts a slot (R344): marked bootable, signature good, SVN at least CTR. -/
def fwAccept (s : State) (i : Nat) : Bool :=
  let f := s.fwSlot i
  f.valid && f.good && decide (s.sec.ctr ≤ f.svn)

/-- A slot below the rollback counter becomes invalid (R345). -/
def fwRevoke (s : State) (i : Nat) : State :=
  let f := s.fwSlot i
  if f.valid && decide (f.svn < s.sec.ctr) then
    (s.setFwSlot i { f with valid := false }).logFw evFW_SLOT_REVOKED kDEVICE 0 [i, f.svn, s.sec.ctr]
  else s

/-- The SVN of the running image, 0 while none runs. -/
def runSvn (s : State) : Nat := if s.sec.image.isSome then (s.fwSlot s.sec.running).svn else 0

/-- A write of SEC_ROLLBACK (R345). -/
def rollback (s : State) (key : Nat) : State :=
  let v := s.runSvn
  if key = 0x96 ∧ s.sec.ctr < v then ((s.setSec { s.sec with ctr := v }).fwRevoke 0).fwRevoke 1 else s

/-- A write of SEC_LOCK by a context (R340). -/
def fieldLockSet (s : State) (c key : Nat) : State :=
  if key = 0x4C4F434B ∧ !s.sec.fieldLock then
    (s.setSec { s.sec with fieldLock := true }).logFw evFIELD_LOCKED kMBX c [c]
  else s

/-- DEV_SEC_STAT as it reads. -/
def secStat (s : State) : Nat :=
  (if s.lockedOut then s.lockLeft else 0) * 2 ^ 20 + (if s.sec.fails < 15 then s.sec.fails else 15) * 2 ^ 16 + s.runSvn % 64 * 2 ^ 10
    + s.sec.running * 2 ^ 9 + boolNat s.sec.fallback * 2 ^ 8 + boolNat s.sec.weak * 2 ^ 7 + boolNat s.sec.record.isSome * 2 ^ 6
    + boolNat s.sec.dbg * 2 ^ 4 + boolNat s.sec.scannedEver * 2 ^ 3 + boolNat s.sec.fieldLock * 2 ^ 2
    + boolNat (s.nonce 0).isSome * 2 + boolNat (s.elevated 0)

/-- SEC_FW as it reads. -/
def secFw (s : State) : Nat :=
  (s.fwSlot 1).svn % 64 * 2 ^ 26 + (s.fwSlot 0).svn % 64 * 2 ^ 20 + s.sec.ctr % 64 * 2 ^ 14
    + boolNat (s.fwSlot 1).valid * 2 + boolNat (s.fwSlot 0).valid

end State

-- Commands

/-- ELEVATION_TIMEOUT of a context, 9 for SPI (R332). -/
def execElevationTimeout (c : Fin 10) (s : State) : Res := .next (s.elevTimeout c.val)

/-- NONCE_EXPIRY of a context (R337). -/
def execNonceExpiry (c : Fin 9) (s : State) : Res := if s.nonceLive c.val then .next s else .next (s.dropNonce c.val)

/-- LOCKOUT_END (R339). -/
def execLockoutEnd (s : State) : Res :=
  .next (if s.lockedOut then s else s.setSec { s.sec with lockEnd := 0 })

end Sys2Proof.Machine
end

