-- ==== Sys2Proof/Machine/Mbx.lean ====
section
/-! DEFINITION. The Cyhar mailbox: queues, descriptors, the command scheduler, completions, ring contexts (R306, R312-R330). -/

namespace Sys2Proof.Machine

-- Status codes (R317)
def stOK : Nat := 0x00
def stCLAMPED : Nat := 0x01
def stDEFERRED : Nat := 0x02
def stDENIED : Nat := 0x10
def stBUSY : Nat := 0x11
def stREFUSED : Nat := 0x12
def stINCOMPLETE : Nat := 0x13
def stBAD_ARG : Nat := 0x20
def stBAD_CRC : Nat := 0x21
def stFAULT : Nat := 0x30

-- Opcodes (R318)
def opNOP : Nat := 0x01
def opREG_READ : Nat := 0x10
def opREG_WRITE : Nat := 0x11
def opCFG_STAGE_BLOCK : Nat := 0x20
def opCFG_COMMIT : Nat := 0x21
def opCFG_REPORT : Nat := 0x22
def opASPECT_REQUEST : Nat := 0x30
def opBIST_RUN : Nat := 0x40
def opTRIM_RELOAD : Nat := 0x41
def opLOG_READ : Nat := 0x50
def opCAPTURE_ARM : Nat := 0x51
def opELEVATE : Nat := 0x60
def opDROP : Nat := 0x61
def opCHALLENGE : Nat := 0x62
def opRESPOND : Nat := 0x63
def opTIME_REARM_STEP : Nat := 0x70

/-- The opcodes of R318, and those it marks privileged. -/
def opListed (op : Nat) : Bool :=
  [opNOP, opREG_READ, opREG_WRITE, opCFG_STAGE_BLOCK, opCFG_COMMIT, opCFG_REPORT, opASPECT_REQUEST, opBIST_RUN, opTRIM_RELOAD,
    opLOG_READ, opCAPTURE_ARM, opELEVATE, opDROP, opCHALLENGE, opRESPOND, opTIME_REARM_STEP].contains op
def opPrivileged (op : Nat) : Bool :=
  [opCFG_STAGE_BLOCK, opCFG_COMMIT, opBIST_RUN, opTRIM_RELOAD, opCAPTURE_ARM, opTIME_REARM_STEP].contains op

/-- Bits of CFLAGS (R316). -/
def cfURGENT : Nat := 1
def cfDUP : Nat := 2
def cfRESTART : Nat := 4

/-- Bits of FLAGS (R314). -/
def Cmd.fence (c : Cmd) : Bool := bitOf c.flags 0
def Cmd.pbufValid (c : Cmd) : Bool := bitOf c.flags 1
def Cmd.pcrcEn (c : Cmd) : Bool := bitOf c.flags 2
def Cmd.arg (c : Cmd) (i : Nat) : Nat := c.args.getD i 0

/-- A command that counts as in flight under its tag (R320): no DUP, and not one whose ring context has been dropped. -/
def Cmd.counts (c : Cmd) : Bool := !bitOf c.cflags 1 && !c.gone

/-- A descriptor's 64 bytes as a command that waits (R314). -/
def parseDesc (id ctx : Nat) (urgent : Bool) (b : List Byte) (data : List Byte) (seq port : Nat) : Cmd :=
  let at_ := fun (o n : Nat) => ofLeBytes ((b.drop o).take n)
  { id := id, ctx := ctx, urgent := urgent, op := at_ 0 1, tag := at_ 1 1 % 128, flags := at_ 2 1, pbuf := at_ 3 1, plen := at_ 4 2,
    rlen := at_ 6 2, pcrc := at_ 8 4, args := (List.range 12).map fun i => at_ (16 + 4 * i) 4, data := data, seq := seq, port := port,
    taint := false, phase := .waiting, priv := false, status := 0, r0 := 0, cflags := boolNat urgent * cfURGENT, out := [],
    taken := ⟨0, 0, 0⟩, pos := 0, started := 0, gone := false }

def defRingCtx : RingCtx := ⟨false, 0, 0, none, []⟩

namespace State

def setMbx (s : State) (x : Mbx) : State := { s with mbx := x }

/-- A byte of the mailbox region by its host window offset, and bytes written there (R312). -/
def ramByte (s : State) (a : Nat) : Byte := tabGet (fun _ => 0) s.mbx.ram a
def ramRead (s : State) (a n : Nat) : List Byte := (List.range n).map fun i => s.ramByte (a + i)
def ramWrite (s : State) (a : Nat) : List Byte → State
  | [] => s
  | b :: bs => (s.setMbx { s.mbx with ram := tabSet (fun _ => (0 : Byte)) s.mbx.ram a b }).ramWrite (a + 1) bs

def ringCtx (s : State) (c : Nat) : RingCtx := tabGet (fun _ => defRingCtx) s.mbx.ring c
def setRingCtx (s : State) (c : Nat) (x : RingCtx) : State :=
  s.setMbx { s.mbx with ring := tabSet (fun _ => defRingCtx) s.mbx.ring c x }

/-- An error bit of MBX_STAT is set; its rise raises source 34 (R324). -/
def mbxErr (s : State) (f : Fld) : State := if s.flag f then s else (s.putFlag f true).raise srcMBX_ERR

/-- SC0 takes commands: it runs, the part is in Run, before the last commit of a Dusk entry or in Midnight, or Dawn has reached the end
of D3 or is held (R323, R383, R436). -/
def sc0Up (s : State) : Bool :=
  s.pwr.good && !s.flag fNW_SC0_LOST && (s.pstate == 1 || (s.pstate == 2 && !s.pwr.latched) || s.pstate == 5 || (s.pstate == 0 && (4 ≤ s.get fPWR_PHASE || s.get fPWR_HOLD != 0)))

/-- SC0 runs the commands in flight: those copied before the last commit of a Dusk entry run to their end in it (R383). -/
def sc0Runs (s : State) : Bool := s.sc0Up || (s.pwr.good && !s.flag fNW_SC0_LOST && s.pstate == 2)

/-- MBX_STAT.READY: SC0 is copying descriptors (R328, R436), which after a restart waits until the FAULT completions are written
(R329). -/
def mbxReady (s : State) : Bool :=
  s.sc0Up && !s.flag fMBX_RESETTING && !(s.mbx.cmds.any fun c => c.phase == .done && bitOf c.cflags 2)

/-- A queue pointer. -/
def ptr (s : State) (a : Nat) : Nat := (s.rd a).toNat % 65536

/-- The completion queue holds 256 entries that are not consumed (R316). -/
def cqFull (s : State) : Bool := decide (256 ≤ (s.ptr aMBX_CQ_TAIL + 65536 - s.ptr aMBX_CQ_HEAD) % 65536)

-- Commands in flight

def cmdOf (s : State) (id : Nat) : Option Cmd := s.mbx.cmds.find? fun c => c.id == id
def updCmd (s : State) (id : Nat) (f : Cmd → Cmd) : State :=
  s.setMbx { s.mbx with cmds := s.mbx.cmds.map fun c => if c.id = id then f c else c }

/-- The command on SC0. -/
def curCmd (s : State) : Option Cmd :=
  match s.mbx.cur with
  | some id => s.mbx.cmds.find? fun c => c.id == id && c.phase == .running
  | none => none

/-- A command joins those in flight. -/
def addCmd (s : State) (c : Cmd) : State :=
  s.setMbx { s.mbx with cmds := s.mbx.cmds ++ [c], nextId := s.mbx.nextId + 1 }

/-- A command has ended with its STATUS, RESULT0 and result payload, cut to RLEN (R315, R316). -/
def finishCmd (s : State) (id st r0 : Nat) (out : List Byte) : State :=
  let s := s.updCmd id fun c => { c with phase := .done, status := st, r0 := r0 % 2 ^ 32, out := out.take c.rlen }
  s.setMbx { s.mbx with cur := if s.mbx.cur = some id then none else s.mbx.cur }

/-- A command runs on in its block. -/
def longCmd (s : State) (id : Nat) : State :=
  let s := s.updCmd id fun c => { c with phase := .long }
  s.setMbx { s.mbx with cur := if s.mbx.cur = some id then none else s.mbx.cur }

/-- MBX_INFLIGHTw (R329), and the commands of a context in flight. -/
def inflight (s : State) (w : Nat) : Nat :=
  sumList ((List.range 32).map fun i =>
    if s.mbx.cmds.any fun c => c.ctx == 0 && c.counts && c.tag == 32 * w + i then 2 ^ i else 0)
def inflightCnt (s : State) (ctx : Nat) : Nat := (s.mbx.cmds.filter fun c => c.ctx == ctx && c.counts).length

/-- A command is taken in with a firmware stamp (R257): a tag in flight in its context ends it at once with BAD_ARG and DUP (R320). -/
def takeCmd (s : State) (c : Cmd) : State :=
  let c := { c with taken := s.stampNow 2 }
  if s.mbx.cmds.any fun x => x.ctx == c.ctx && x.counts && x.tag == c.tag then
    (s.addCmd { c with phase := .done, status := stBAD_ARG, cflags := c.cflags + cfDUP }).mbxErr fMBX_DUP_TAG
  else s.addCmd c

/-- SC0 copies the next descriptor of a queue and advances its head (R313). -/
def copyDesc (s : State) (urgent : Bool) : State :=
  let aH := if urgent then aMBX_SQU_HEAD else aMBX_SQN_HEAD
  let aT := if urgent then aMBX_SQU_TAIL else aMBX_SQN_TAIL
  let h := s.ptr aH
  if !s.mbxReady || h == s.ptr aT then s
  else
    let b := s.ramRead (if urgent then 0x22000 + 64 * (h % 32) else 0x20000 + 64 * (h % 128)) 64
    let c := { parseDesc s.mbx.nextId 0 urgent b [] 0 0 with taint := s.mbx.soiled.contains (urgent, h) }
    let s := s.setMbx { s.mbx with soiled := s.mbx.soiled.filter fun p => p != (urgent, h) }
    (s.wr aH ((h + 1) % 65536)).takeCmd c

/-- A doorbell write (R313): beyond the depth or behind the tail it is refused; each raises source 32. -/
def doorbell (s : State) (urgent : Bool) (x : Nat) : State :=
  let aH := if urgent then aMBX_SQU_HEAD else aMBX_SQN_HEAD
  let aT := if urgent then aMBX_SQU_TAIL else aMBX_SQN_TAIL
  let depth := if urgent then 32 else 128
  let far := (x % 65536 + 65536 - s.ptr aH) % 65536
  if s.flag fMBX_RESETTING then s
  else
    let s := if depth < far || far < (s.ptr aT + 65536 - s.ptr aH) % 65536 then s.mbxErr fMBX_TAIL_BAD else s.wr aT (x % 65536)
    s.raise srcMBX_DOORBELL

/-- A write of MBX_CQ_HEAD (R312). -/
def cqHead (s : State) (x : Nat) : State := s.wr aMBX_CQ_HEAD (x % 65536)

-- Scheduling (R321, R322)

/-- Every earlier command of the context has ended when FENCE is set, and no earlier FENCE is unfinished (R321). -/
def fenceFree (s : State) (c : Cmd) : Bool :=
  s.mbx.cmds.all fun x => !(x.ctx == c.ctx && !x.gone && decide (x.id < c.id) && x.phase != .done && (c.fence || x.fence))

/-- The one-at-a-time rule of R321: configuration commands in copy order; trim reload and capture arming behind a running one of the same
context. One that another context's holds up starts and completes BUSY, and so does any second self-test (R397). -/
def serialFree (s : State) (c : Cmd) : Bool :=
  let cfg := fun (op : Nat) => op == opCFG_STAGE_BLOCK || op == opCFG_COMMIT
  s.mbx.cmds.all fun x =>
    !(cfg c.op && cfg x.op && decide (x.id < c.id) && x.phase != .done)
      && !((c.op == opTRIM_RELOAD || c.op == opCAPTURE_ARM) && x.op == c.op && x.ctx == c.ctx && !x.gone && x.id != c.id
        && (x.phase == .running || x.phase == .long))

/-- A command that SC0 may start or continue. -/
def mayRun (s : State) (c : Cmd) : Bool :=
  c.phase == .running || (c.phase == .waiting && s.fenceFree c && s.serialFree c)

/-- The first command of the class by round robin after the context served last (R322). -/
def pick (s : State) (urgent : Bool) : Option Cmd :=
  let last := if urgent then s.mbx.lastU else s.mbx.lastN
  let l := s.mbx.cmds.filter fun c => c.urgent == urgent && s.mayRun c
  ((List.range 9).map fun i => (last + 1 + i) % 9).findSome? fun k => l.find? fun c => c.ctx == k

/-- A command starts: its privilege is noted (R333) and a QSPI command's payload read from its buffer (R315). -/
def startCmd (s : State) (c : Cmd) : State :=
  if c.phase != .waiting then s
  else
    let p := s.elevated c.ctx
    let s := if opPrivileged c.op then s.touch c.ctx else s
    let (d, s) := if c.ctx != 0 then (c.data, s)
      else if !c.pbufValid || c.pbuf > 63 || c.plen > 1024 then ([], s)
      else if c.taint then s.freeBytes c.plen
      else (s.ramRead (0x30000 + 1024 * c.pbuf) c.plen, s)
    let s := s.setMbx { s.mbx with starts := s.mbx.starts + 1 }
    s.updCmd c.id fun c => { c with phase := .running, priv := p, data := d, started := s.mbx.starts }

/-- A scheduling point (R322): the running command yields and the next one starts or continues. -/
def schedule (s : State) : State :=
  if !s.sc0Runs then s
  else
    let s := s.setMbx { s.mbx with cur := none }
    match s.pick true with
    | some c => (s.setMbx { s.mbx with cur := some c.id, lastU := c.ctx }).startCmd c
    | none =>
      match s.pick false with
      | some c => (s.setMbx { s.mbx with cur := some c.id, lastN := c.ctx }).startCmd c
      | none => s

/-- The same resource is held by a command of another context, or of a dropped one, that started earlier and runs (R321). -/
def heldByOther (s : State) (c : Cmd) : Bool :=
  s.mbx.cmds.any fun x =>
    x.op == c.op && x.id != c.id && (x.ctx != c.ctx || x.gone) && decide (x.started < c.started)
      && (x.phase == .running || x.phase == .long)

/-- What every command is held to before its own meaning, in this order: the descriptor (R314, R315), Midnight (R330), the
hold FW_NONE (R377), privilege (R319), PFW_N (R382). -/
def vet (s : State) (c : Cmd) : Option Nat :=
  if c.plen > 1024 ∨ c.rlen > 1024 then some stBAD_ARG
  else if c.ctx = 0 ∧ (c.plen > 0 ∨ c.rlen > 0) ∧ !c.pbufValid then some stBAD_ARG
  else if c.ctx = 0 ∧ c.pbuf > 63 then some stBAD_ARG
  else if c.pcrcEn ∧ crc32 c.data ≠ c.pcrc then some stBAD_CRC
  else if s.midnight ∧ !([opNOP, opREG_READ, opCFG_REPORT, opLOG_READ].contains c.op) then some stFAULT
  else if s.pstate = 0 ∧ s.get fPWR_HOLD = 1 ∧ !([opNOP, opREG_READ, opCHALLENGE, opRESPOND, opCFG_STAGE_BLOCK, opCFG_COMMIT].contains c.op)
    then some stREFUSED
  else if opPrivileged c.op ∧ !c.priv then some stDENIED
  else if s.pwr.pfw ∧ [opCFG_STAGE_BLOCK, opCFG_COMMIT, opBIST_RUN, opCAPTURE_ARM].contains c.op then some stREFUSED
  else none

/-- The meaning of an opcode applied to the command on SC0, when it is one of its commands; one that has done a part of its work is past
these checks (R333). -/
def onCmd (s : State) (p : Cmd → Bool) (f : Cmd → State) : State :=
  match s.curCmd with
  | none => s
  | some c =>
    if !p c then s
    else if c.pos ≠ 0 then f c
    else
      match s.vet c with
      | some st => s.finishCmd c.id st 0 []
      | none => f c

-- Completions (R316, R324-R327)

/-- The 16 bytes of a completion entry (R316). -/
def entryOf (s : State) (c : Cmd) (ph : Bool) : List Byte :=
  leBytes 1 (c.tag + 128 * boolNat ph) ++ leBytes 1 c.status ++ leBytes 1 c.op ++ leBytes 1 c.cflags ++ leBytes 4 c.r0
    ++ leBytes 4 c.out.length ++ leBytes 4 s.gridNs

/-- A CYHAR_CPL frame to a MAC on a port with a reply and its SEQ (R249). -/
def sendReply (s : State) (p ctx mac seq : Nat) (body : List Byte) : State :=
  s.toLocal p (s.ownFrame 2 (ctx + 1)
    (beBytes 6 mac ++ beBytes 6 s.ownMac ++ beBytes 2 0x88B5 ++ ownHeader 0xC2 body.length seq ++ body))

def removeCmd (s : State) (id : Nat) : State :=
  s.setMbx { s.mbx with cmds := s.mbx.cmds.filter fun c => c.id != id }

/-- The completion of a QSPI command is written: payload, entry, tail (R316); the result of a command whose buffer the host wrote is
free (R315). -/
def postQspi (s : State) (c : Cmd) : State :=
  let t := s.ptr aMBX_CQ_TAIL
  let (c, s) := if c.taint then
      let (k, s) := s.fresh
      let (bs, s) := s.freeBytes c.out.length
      ({ c with r0 := Config.freeNat k % 2 ^ 32, out := bs }, s)
    else (c, s)
  let s := if c.out.isEmpty then s else s.ramWrite (0x30000 + 1024 * c.pbuf) c.out
  let s := s.ramWrite (0x24000 + 16 * (t % 256)) (s.entryOf c (t / 256 % 2 == 0))
  ((s.wr aMBX_CQ_TAIL ((t + 1) % 65536)).removeCmd c.id).raise srcMBX_CPL

/-- The completion of a ring command is sent, and kept in its context where its SEQ is still among the 16; a context that has been
dropped takes none (R325, R326). -/
def postRing (s : State) (c : Cmd) : State :=
  let x := s.ringCtx c.ctx
  let s := s.removeCmd c.id
  if x.used && !c.gone then
    let body := s.entryOf c false ++ c.out
    (s.setRingCtx c.ctx { x with store := x.store.map fun e => if e.1 = c.seq ∧ e.2.isNone then (e.1, some body) else e }).sendReply
      c.port c.ctx x.mac c.seq body
  else s

/-- The first completion that can be written is written; during MBX_RESET those of QSPI are discarded (R328). -/
def postOne (s : State) : State :=
  if !s.sc0Runs then s
  else
    match s.mbx.cmds.find? fun c => c.phase == .done && (c.ctx != 0 || s.flag fMBX_RESETTING || !s.cqFull) with
    | none => s
    | some c =>
      if c.ctx ≠ 0 then s.postRing c
      else if s.flag fMBX_RESETTING then s.removeCmd c.id
      else s.postQspi c

/-- A write of MBX_RESET (R328, R488). -/
def mbxReset (s : State) (key : Nat) : State :=
  if key = 0xA5 then ((s.putFlag fMBX_RESETTING true).setCopy 0 defCopy).dropNonce 0 else s

/-- MBX_RESET ends once no QSPI command is unfinished: a nonce that one of them has drawn is dropped too, and no queue entry is marked
(R328, R337). -/
def mbxResetDone (s : State) : State :=
  if !s.flag fMBX_RESETTING || s.mbx.cmds.any fun c => c.ctx == 0 && c.phase == .running || c.ctx == 0 && c.phase == .long
      || c.ctx == 0 && c.phase == .waiting then s
  else
    let s := s.setMbx { s.mbx with cmds := s.mbx.cmds.filter fun c => c.ctx != 0, soiled := [] }
    let s := [aMBX_SQN_TAIL, aMBX_SQN_HEAD, aMBX_SQU_TAIL, aMBX_SQU_HEAD, aMBX_CQ_TAIL, aMBX_CQ_HEAD].foldl (fun s a => s.wr a 0) s
    (((s.putFlag fMBX_RESETTING false).putFlag fMBX_DUP_TAG false).endElev 0).dropNonce 0

-- Ring contexts (R325-R327)

/-- A ring context is dropped with its elevation and nonce, and its commands with it; one that runs on in its block and a privileged one
that has started run to their end, without a reply (R325, R333, R337). -/
def dropCtx (s : State) (c : Nat) : State :=
  let s := ((s.setRingCtx c defRingCtx).endElev c).dropNonce c
  let keep := fun (x : Cmd) => x.ctx != c || x.phase == .long || (x.phase == .running && x.priv && opPrivileged x.op)
  s.setMbx { s.mbx with cmds := (s.mbx.cmds.filter keep).map fun x => if x.ctx = c then { x with gone := true } else x,
                        cur := if s.mbx.cmds.any fun x => !keep x && s.mbx.cur == some x.id then none else s.mbx.cur }

/-- The context of a MAC, a free one, or the one idle longest, which may be taken over if it has been idle for 10 s and is not elevated
(R325). -/
def findCtx (s : State) (mac : Nat) : Option Nat :=
  (List.range' 1 8).find? fun c => (s.ringCtx c).used && (s.ringCtx c).mac == mac
def freeCtx (s : State) : Option Nat := (List.range' 1 8).find? fun c => !(s.ringCtx c).used
def takeoverCtx (s : State) : Option Nat :=
  let c := (List.range' 2 7).foldl (fun b c => if (s.ringCtx c).last < (s.ringCtx b).last then c else b) 1
  if s.elevated c || s.nw.tick < (s.ringCtx c).last + 10 * tps then none else some c

/-- A context is created for a MAC with its own copies at their reset values (R325, R488). -/
def openCtx (s : State) (c mac : Nat) : State :=
  ((s.dropCtx c).setRingCtx c ⟨true, mac, s.nw.tick, none, []⟩).setCopy c defCopy

/-- The context that a command of a MAC belongs to, created or taken over at need. -/
def ctxFor (s : State) (mac : Nat) : Option Nat × State :=
  match s.findCtx mac with
  | some c => (some c, s)
  | none =>
    match s.freeCtx with
    | some c => (some c, s.openCtx c mac)
    | none =>
      match s.takeoverCtx with
      | some c => (some c, s.openCtx c mac)
      | none => (none, s)

/-- A command of a ring context by its SEQ: repeated, old or new (R325, R326). -/
def ringCmd (s : State) (c p mac seq : Nat) (body : List Byte) : State :=
  let x := { s.ringCtx c with last := s.nw.tick }
  let s := s.setRingCtx c x
  match x.store.find? fun e => e.1 == seq with
  | some (_, rep) =>
    let s := s.bump aMBX_RING_DUP
    match rep with
    | some b => s.sendReply p c mac seq b
    | none => s
  | none =>
    if (match x.newest with
        | some n => !seqNewer seq n
        | none => false) then s.bump aMBX_RING_OLD
    else
      let s := s.setRingCtx c { x with newest := some seq, store := ((seq, none) :: x.store).take 16 }
      let d := parseDesc s.mbx.nextId c false (body.take 64) (body.drop 64) seq p
      let d := { d with urgent := bitOf d.flags 3 }
      let d := { d with taken := s.stampNow 2 }
      if d.plen + 64 ≠ body.length then s.addCmd { d with phase := .done, status := stBAD_ARG }
      else if 32 ≤ s.inflightCnt c then s.addCmd { d with phase := .done, status := stBUSY }
      else s.takeCmd d

/-- SC0 takes up a CYHAR_CMD frame with its port, source MAC, SEQ and body (R249, R325, R326). -/
def ringCmdFrame (s : State) (p mac seq : Nat) (body : List Byte) : State :=
  if !s.sc0Up || !s.cyharOn || (s.pstate == 0 && s.get fPWR_HOLD == 1) then s
  else
    let s := s.copyTaken cpCYHAR p 0
    if body.length < 64 then s
    else
      match s.ctxFor mac with
      | (some c, s) => s.ringCmd c p mac seq body
      | (none, s) =>
        let d := { parseDesc 0 0 false (body.take 64) [] seq p with status := stBUSY }
        s.sendReply p 0 mac seq (s.entryOf d false)

/-- A reply that has waited for 100 ms (R327). -/
def replyOld (s : State) (f : Frame) : Bool := f.ctx != 0 && decide (f.tick + 2500000 ≤ s.grid.tick)

/-- The oldest reply that has waited for 100 ms on a shut port is dropped, which makes room for a frame that is kept (R327, R238). -/
def replyDrop (s : State) (p : Nat) : State :=
  if !s.shut p then s
  else
    let e := s.egress p
    match e.loc.find? s.replyOld with
    | some f => (s.setEgress p { e with loc := e.loc.erase f }).refill p
    | none =>
      match e.kept.find? s.replyOld with
      | some f => s.setEgress p { e with kept := e.kept.erase f }
      | none => s

/-- A ring context that has been idle for 60 s is dropped (R325). -/
def ctxIdle (s : State) (c : Nat) : State :=
  let x := s.ringCtx c
  if x.used && x.last + 60 * tps ≤ s.nw.tick then s.dropCtx c else s

/-- MBX_RINGSTAT and MBX_STAT as they read. -/
def ringStat (s : State) : Nat :=
  ((List.range' 1 8).filter fun c => s.elevated c && (s.ringCtx c).used).length * 256
    + ((List.range' 1 8).filter fun c => (s.ringCtx c).used).length
def mbxStat (s : State) : Nat :=
  (s.rd aMBX_STAT).toNat % 512 / 256 * 256 + (s.rd aMBX_STAT).toNat % 8 + boolNat s.mbxReady * 2 ^ 31 + s.inflightCnt 0 * 2 ^ 16
    + 8 * boolNat (s.cqFull && s.mbx.cmds.any fun c => c.ctx == 0 && c.phase == .done)

/-- SC0's restart writes a FAULT completion for every QSPI tag in flight, in ascending order; ring contexts are dropped and
elevations and nonces end (R329, R332, R337). -/
def restartCmds (s : State) : State :=
  let l := (List.range 128).flatMap fun t => s.mbx.cmds.filter fun c => c.ctx == 0 && c.counts && c.tag == t
  let l := l.map fun c => { c with phase := .done, status := stFAULT, r0 := 0, out := [], cflags := c.cflags % 4 + cfRESTART }
  let s := s.setMbx { s.mbx with cmds := l, cur := none }
  let s := (List.range' 1 8).foldl dropCtx s
  let s := (List.range' 1 9).foldl endElev (s.endElev 0)
  (List.range 9).foldl dropNonce s

end State

-- Commands

/-- CYHAR_CMD_FRAME: port, source MAC, SEQ and body of the frame that SC0 takes up (R326). -/
def execCyharCmdFrame (p : Fin 2) (mac : BitVec 48) (seq : BitVec 32) (body : List (BitVec 8)) (s : State) : Res :=
  .next (s.ringCmdFrame p.val mac.toNat seq.toNat body)

/-- CYHAR_REPLY_DROP on a port (R327). -/
def execCyharReplyDrop (p : Fin 2) (s : State) : Res := .next (s.replyDrop p.val)

/-- RING_CONTEXT_IDLE_DROP of a ring context, numbered from 0 (R325). -/
def execRingContextIdleDrop (c : Fin 8) (s : State) : Res := .next (s.ctxIdle (c.val + 1))

/-- MBX_RESET_DONE (R328). -/
def execMbxResetDone (s : State) : Res := .next s.mbxResetDone

/-- DESCRIPTOR_COPY from the urgent or the normal queue (R313). -/
def execDescriptorCopy (urgent : Bool) (s : State) : Res := .next (s.copyDesc urgent)

/-- COMMAND_SCHEDULE (R322). -/
def execCommandSchedule (s : State) : Res := .next s.schedule

/-- COMPLETION_POST (R316). -/
def execCompletionPost (s : State) : Res := .next s.postOne

end Sys2Proof.Machine
end

