-- ==== Sys2Proof/Machine/Cfg.lean ====
section
/-! DEFINITION. Staging, commit, activation and load of a configuration (R360-R372), and what an activation changes in every
block. -/

namespace Sys2Proof.Machine

namespace State

def setCfg (s : State) (x : Cfg) : State := { s with cfg := x }

/-- The configuration in force as words by LOCATION. -/
def activeWords (s : State) : Tab Word := (s.regs.filter fun p => isConfig p.1) ++ s.cfg.words

/-- DEV_CFG_STAT shows the staging (R364). -/
def showStaging (s : State) : State :=
  (s.putFlag fCFG_STAGING s.cfg.owner.isSome).put fCFG_STAGED_W (s.cfg.bytes.length / 4)

/-- The report of a commit or a load (R372). -/
def setReport (s : State) (outcome : Nat) (r : CfgRep) (image present carried rej : Nat) : State :=
  let b := reportBytes outcome r image (s.rd aDEV_CFG_GEN).toNat present carried rej s.gridNs
  (s.setCfg { s.cfg with report := b }).put fCFG_OUTCOME outcome

/-- A block of an image from a context: its status (R364). -/
def stageBlock (s : State) (c : Nat) (b : List Byte) : State × Nat :=
  let off := ofLeBytes (b.take 4)
  let total := ofLeBytes ((b.drop 4).take 4)
  let body := b.drop 8
  let own := s.cfg.owner == some c
  let other := s.cfg.owner.isSome && !own
  let keep := fun (x : Cfg) => ((s.setCfg x).showStaging, stOK)
  if b.length < 9 ∨ 1024 < b.length then (s, stBAD_ARG)
  else if other && !(off == 0 && decide (s.cfg.touched + 60 * tps ≤ s.nw.tick)) then (s, stBUSY)
  else if 2097152 < total ∨ total < off + body.length then (s, stBAD_ARG)
  else if off = 0 then
    keep { s.cfg with bytes := body, total := total, owner := some c, touched := s.nw.tick, staged := none }
  else if own && off == s.cfg.bytes.length && total == s.cfg.total then
    keep { s.cfg with bytes := s.cfg.bytes ++ body, touched := s.nw.tick }
  else (s, stBAD_ARG)

/-- The staging is lost (R364, R443). -/
def dropStaging (s : State) : State := (s.setCfg { s.cfg with bytes := [], total := 0, owner := none }).showStaging

-- What an activation changes (R368)

/-- Rules: held states of unchanged TERMs stay, the others take INIT, in both engines; an unchanged TERM that is new to SFC's copy comes
with the engine's held state, so that the two stay equal; NFLAG and the suspension (R183, R153). -/
def effRules (old s : State) : State :=
  let es := ruleEntries s.cfg.words
  let keep := fun (h : Nat → Bool) => es.foldl (fun (t : Tab Bool) e =>
    if e.kind ≠ 1 then t
    else tabSet (fun _ => false) t e.idx (if ruleEntryAt old.cfg.words e.idx = e then h e.idx else e.init)) []
  let copied := (old.flaggedGroups).flatMap fun g => g.1.map (·.idx)
  let own := fun (n : Nat) => tabGet (fun _ => false) old.rule.held n
  let s := { s with rule := { s.rule with
      held := keep own
      sfcHeld := keep fun n => if copied.contains n then tabGet (fun _ => false) old.rule.sfcHeld n else own n } }
  let s : State := (s.ruleStat).put fXCHK_NFLAG (es.filter fun e => e.kind == 2 && e.hazard).length
  if 5 ≤ s.get fPWR_PHASE then { s with res := { s.res with suspend := 2 } } else s

/-- Observations: a slot whose SRC or SRCIDX changes is initialised; a sense input whose FILTER changes counts anew (R171, R172);
the activation windows (R178, R179). -/
def effObs (old s : State) : State :=
  let changed := fun (n : Nat) => s.slotSrc n != old.slotSrc n || s.slotIdx n != old.slotIdx n
  let s := { s with obs := { s.obs with
    slots := s.obs.slots.filter fun p => 896 ≤ p.1 || !changed p.1,
    sense := s.obs.sense.map fun p =>
      if s.get ⟨aOBS_SNSCFG p.1, 0, 10⟩ = old.get ⟨aOBS_SNSCFG p.1, 0, 10⟩ then p else (p.1, { p.2 with run := 0 }) } }
  let t := s.evalTwins
  if t.obs.twin = s.obs.twin then s else t.writeTimeSlots

/-- BRIGHT_IN: following begins anew with SRC 0x1, and waits for a reading of another INPUT; the flags of the form that is not
selected end (R112, R113). -/
def effBright (old s : State) : State :=
  let begun := s.get fDIM_SRC == 1 && old.get fDIM_SRC != 1
  let other := s.get fBIN_INPUT != old.get fBIN_INPUT
  let s := { s with dim := { s.dim with seen := s.dim.seen && !begun, valid := s.dim.valid && !begun && !other } }
  if s.get fBIN_INPUT = 1 then s.putFlag fDIM_BIN_RANGE false else s.putFlag fDIM_BIN_LOST false

/-- Loops: SC0 derives the settings of the device slots, and slots whose shadow set changed swap at the first rule period
(R213, R222). -/
def effLoops (old s : State) : State :=
  let s := (List.range 4).foldl (fun s n => (s.derived n).foldl (fun s p => s.wr (aLOOP_SHD n p.1) p.2) s) s
  (List.range 32).foldl (fun s n =>
    if (List.range 8).any fun w => s.rd (aLOOP_SHD n w) != old.rd (aLOOP_SHD n w) then s.put ⟨aLOOP_SWAP, n, 1⟩ 1 else s) s

/-- Sequencers: a pending trigger is dropped when TRIG changes, and the schedule of grid triggers restarts (R204). -/
def effAdc (old s : State) : State :=
  (List.range 16).foldl (fun s k =>
    let x := s.conv k
    let x := if s.regTrigOf k = old.regTrigOf k then x else { x with reg := { x.reg with pend := false } }
    let x := if s.injTrigOf k = old.injTrigOf k then x else { x with inj := { x.inj with pend := false } }
    (s.setConv k x).seqRestart old k) s

/-- Ring: a port whose rate changes restarts its link (R226, R227); EVENT frames begin at the newest record (R250); changed launch
descriptors (R244); the learnt neighbours (R248). -/
def effRing (old s : State) : State :=
  let s := [0, 1].foldl (fun s p =>
    if s.get (fRING_RATEP p) = s.get (fRP_RATE p) then s
    else (s.put (fRP_RATE p) (s.get (fRING_RATEP p))).sfOnset p false) s
  let s := if s.flag fRING_EVT_EN && !old.flag fRING_EVT_EN then s.setRing { s.ring with evtNext := (s.rd aEVT_HEAD).toNat } else s
  let part := fun (x : State) (d : Nat) => x.cfg.words.filter fun p =>
    decide (loc 4 (8 * d) ≤ p.1 ∧ p.1 < loc 4 (8 * d + 8)) || decide (loc 5 (500 * d) ≤ p.1 ∧ p.1 < loc 5 (500 * d + 500))
  let s := ((List.range 128).filter fun d => part s d != part old d).foldl (fun s d => s.ldChanged d) s
  let nbr := fun (x : State) => ((List.range 2).flatMap fun p => [x.rd (aRING_NBR p 0), x.rd (aRING_NBR p 1)], x.flag fRING_XAUTO)
  if nbr s = nbr old then s else s.nbrAgain

/-- Time: the UTC and local offsets (R262, R277), and the booked values of a port whose TIME_PORT changed (R269). -/
def effTime (old s : State) : State :=
  let s := match s.selected with
    | some ⟨_, _, _, _, some _, _, _, _⟩ => s
    | _ => { s with time := { s.time with utcNext := signedOf (s.get fTZ_UTCOFF) 16 } }
  let s := [0, 1].foldl (fun s p =>
    if [0, 1].any fun w => s.rd (aTIME_PORT p w) != old.rd (aTIME_PORT p w) then s.wr (aTIME_BOOK p) 0 else s) s
  let moved := s.rd aTIME_TZ != old.rd aTIME_TZ
    || (List.range 8).any fun w => (List.range 3).any fun i => s.rd (aTIME_LOFF w i) != old.rd (aTIME_LOFF w i)
  if moved then s.localMoved else s.schedJudge

/-- Interrupts: a source with a new target keeps its pending bit and is masked (R349). -/
def effIcu (old s : State) : State :=
  (((List.range' 40 56).filter fun n => routable n && s.target n != old.target n).foldl (fun s n =>
    let k := 3 + n / 32
    { s with icu := { s.icu with mask := tabSet (fun _ => 0xFFFFFFFF) s.icu.mask k (s.icuMask k ||| BitVec.ofNat 32 (2 ^ (n % 32))) } })
    s).refreshIcu

/-- The Morning check: a changed comparator waits for its next fire time (R391). -/
def effMorn (old s : State) : State :=
  if s.rd aSYS_MORNING = old.rd aSYS_MORNING then s else { s with pwr := { s.pwr with mornDay := s.mornCount } }

/-- Pattern engines whose configuration changed start anew. A SYNC engine whose PAT_START has passed gives HI until its next aligned
start, as it does before PAT_START (R119; DESIGN CHOICE, log entry 75: the rule speaks of the time before PAT_START only). -/
def effPat (old s : State) : State :=
  ((List.range 8).filter fun p => (List.range 12).any fun w => s.rd (aPAT_CFG p w) != old.rd (aPAT_CFG p w)).foldl (fun s p =>
    { s with dim := { s.dim with
      patStart := tabSet (fun _ => 0) s.dim.patStart p s.grid.tick,
      patWait := tabSet (fun _ => false) s.dim.patWait p (s.flag (fPAT_SYNC p) && s.flag fTIME_SET) } }) s

/-- Lamps: bank roles (R66), the line-current clamp flag (R161), signatures of strings whose NLED changed (R142). -/
def effLamp (old s : State) (r : CfgRep) : State :=
  let l := s.aspList
  let s := (List.range 8).foldl (fun s b =>
    let has := fun (k : Nat) => l.any fun a => s.aspClass a.1 == k && a.2.any fun c => c / 16 == b
    s.put (fBANK_ROLE b) (if has 2 then 2 else if has 1 then 1 else 0)) s
  let s := s.putFlag fMTX_CLAMPED (r.finds.any fun f => f.1 == 1 && f.2.2 == 2)
  ((List.range 128).filter fun c => s.get (fNLED c) != old.get (fNLED c)).foldl forgetSig s

/-- Words of a configuration take the place of the active ones; shadow sets of a carried LOOP section stay (R368, R222). -/
def putWords (s : State) (t : Tab Word) (loop : Bool) : State :=
  let gone := fun (l : Nat) => isConfig l && (loop || sectionOf l != 0x0A)
  let regs := (t.filter fun p => decide (p.1 < 2 ^ 24) && gone p.1).foldl
    (fun (r : Tab Word) p => tabSet resetWord r p.1 p.2) (s.regs.filter fun p => !gone p.1)
  { s with regs := regs, cfg := { s.cfg with words := t.filter fun p => decide (2 ^ 24 ≤ p.1) } }

/-- Activation (R368): every word at once, then its effects. -/
def activate (s : State) (t : Tab Word) (loop : Bool) (d : Tab Nat) (r : CfgRep) (slot gen : Nat) : State :=
  let old := s
  let s := s.putWords t loop
  let s := s.setCfg { s.cfg with disabled := d }
  let s := (((s.put fCFG_SLOT slot).wr aDEV_CFG_GEN gen).putFlag fCFG_NONE false).lifeAcc (lifeDevice + 56) 1
  let s := effLamp old s r
  let s := effRules old s
  let s := effObs old s
  let s := effLoops old s
  let s := effBright old s
  let s := effAdc old s
  let s := effRing old s
  let s := effTime old s
  let s := effIcu old s
  let s := effMorn old (effPat old s)
  s.discN

def cfgSlot (s : State) (i : Nat) : CfgSlot := tabGet (fun _ => ⟨0, false, false, []⟩) s.cfg.slots i
def setCfgSlot (s : State) (i : Nat) (x : CfgSlot) : State :=
  s.setCfg { s.cfg with slots := tabSet (fun _ => ⟨0, false, false, []⟩) s.cfg.slots i x }

/-- Sections carried, of the defined ones (R372). -/
def carriedOf (present : Nat) : Nat := sumList (sectionIds.map fun id => if bitOf present id then 0 else 2 ^ id)

/-- A new firmware image becomes bootable and first (R344). -/
def fwMark (s : State) (i : Nat) : State :=
  let s := s.setFwSlot i { s.fwSlot i with valid := true }
  (s.setSec { s.sec with first := i }).flash ((fkPROG, flFw i) :: rewrite flBoot 1)

/-- The commit mark of a slot is written (R369). -/
def cfgMarkSlot (s : State) (i : Nat) : State :=
  (s.setCfgSlot i { s.cfgSlot i with marked := true }).flash [(fkPROG, flCfg i + 0x7FFFC)]

/-- The last part of step 9, while SC0 runs: the mark, the report and the completion of an image that has been activated (R365, R369,
R370). -/
def cfgMark (s : State) : State :=
  match s.cfg.wait with
  | none => s
  | some w =>
    if !w.done || s.flag fNW_SC0_LOST || !s.pwr.good then s
    else
      let s := ((s.setCfg { s.cfg with wait := none }).cfgMarkSlot w.slot).putFlag fCFG_MARK_REDONE false
      let s := s.setReport 0x00 w.rep w.image w.present (carriedOf w.present) 0
      s.finishCmd w.job (if w.rep.clamps.isEmpty && w.rep.finds.isEmpty then stOK else stCLAMPED) 0 []

/-- An image waits for its activation. -/
def cfgWaits (s : State) : Bool :=
  match s.cfg.wait with
  | some w => !w.done
  | none => false

/-- Step 9 (R365, R368): the activation, with which a rule period begins; a firmware image with it becomes bootable (log entry 45). The
mark follows in `State.cfgMark`, on the next tick, in which a restart of SC0 or a power fail can come first (R370). -/
def cfgActivate (s : State) : State :=
  match s.cfg.wait with
  | none => s
  | some w =>
    if w.done then s
    else if s.midnight then (s.setCfg { s.cfg with wait := none }).finishCmd w.job stFAULT 0 []
    else
      let s := s.setCfg { s.cfg with wait := some { w with done := true } }
      let s := s.activate w.words (bitOf w.present 0x0A) w.disabled w.rep w.slot w.gen
      let s := if w.fw then s.fwMark (1 - s.sec.running) else s
      if s.rulesRun then { s with rule := { s.rule with start := s.grid.tick } } else s

/-- Tick 0 of a rule period: an image that waits is activated, then the snapshot is taken and an evaluation begins (R186, R368). -/
def periodStart (s : State) : State :=
  if s.periodDueNow then ((s.takeEvent periodKey).cfgActivate).ruleStart else s

/-- A commit that ends in a step of R365, with what its checks have found so far. -/
def cfgReject (s : State) (job st outcome image rej : Nat) (r : CfgRep) (present carried : Nat) : State :=
  (s.setReport outcome r image present carried rej).finishCmd job st 0 []

/-- The slot that is not running takes a firmware image and is checked (R344); it is not bootable yet. -/
def fwWrite (s : State) (body : List Byte) : State × Bool :=
  let i := 1 - s.sec.running
  let ok := fwGood body && decide (s.sec.ctr ≤ Config.fwSvn body % 64)
  ((s.setFwSlot i ⟨body, fwGood body, Config.fwSvn body % 64, false⟩).flash (rewrite (flFw i) 32), ok)

/-- Steps 5 to 9 of R365 on the sections of a good image; `good`: what step 8 writes to the flash reads back as written. -/
def cfgApply (s : State) (job image : Nat) (check good : Bool) (ss : List CfgSec) : State :=
  let fw := ss.any fun x => x.id == 0x20
  let present := sumList ((ss.filter fun x => x.id != 0x20).map fun x => 2 ^ x.id)
  if s.pstate = 0 ∧ s.get fPWR_HOLD = 1 then
    if check then (s.setReport 0x01 emptyRep image 0 (carriedOf 0) 0).finishCmd job stOK 0 []
    else
      (((s.fwMark (1 - s.sec.running)).put fPWR_HOLD 0).setReport 0x00 emptyRep image 0 (carriedOf 0) 0).finishCmd job stOK 0 []
  else
    let (t, ls) := mergeImage s.activeWords ss
    let ls := if bitOf present 4 then
        ((List.range 8).foldl (fun (m : Tab Bool) n => tabSet (fun _ => false) m (aDIM_PHASE n) true) (ls.map fun l => (l, true))).map (·.1)
      else ls
    let (x, d) := (Chk.clampAll ⟨t, { emptyRep with rsvd := reservedOnes ss }, fixedWrites ss⟩ ls).checkAll
    let s := s.setCfg { s.cfg with staged := some x.t }
    let st := if x.rep.clamps.isEmpty && x.rep.finds.isEmpty then stOK else stCLAMPED
    if check then (s.setReport 0x01 x.rep image present (carriedOf present) 0).finishCmd job st 0 []
    else
      let gen := ((s.rd aDEV_CFG_GEN).toNat + 1) % 2 ^ 32
      let slot := if (s.rd aDEV_CFG_GEN).toNat = 0 then 0 else 1 - s.get fCFG_SLOT
      let s := s.flash (rewrite (flCfg slot) 8)
      if !good then s.cfgReject job stFAULT 0x14 image 0 x.rep present (carriedOf present)
      else
      let s := s.setCfgSlot slot ⟨gen, false, true, x.t⟩
      let s := (s.setCfg { s.cfg with wait := some ⟨x.t, slot, gen, present, image, job, fw, x.rep, d, false⟩ }).longCmd job
      if s.pstate = 0 ∧ s.get fPWR_PHASE < 5 then s.cfgActivate.cfgMark else s

/-- CFG_COMMIT of a context (R365). -/
def cfgCommit (s : State) (good : Bool) (c : Cmd) : State :=
  let b := s.cfg.bytes
  let f := fun (o n : Nat) => ofLeBytes ((b.drop o).take n)
  let image := f 20 4
  if s.bist.active then s.finishCmd c.id stBUSY 0 []
  else if s.cfg.owner.isSome ∧ s.cfg.owner ≠ some c.ctx then s.finishCmd c.id stBUSY 0 []
  else if b.length < 64 ∨ b.length ≠ s.cfg.total ∨ f 12 4 ≠ s.cfg.total then s.cfgReject c.id stBAD_ARG 0x10 image 0 emptyRep 0 0
  else if crc32 (b.take 16 ++ List.replicate 4 0 ++ b.drop 20) ≠ f 16 4 then s.cfgReject c.id stBAD_CRC 0x11 image 0 emptyRep 0 0
  else
    match parseImage b with
    | .error off => s.cfgReject c.id stBAD_ARG 0x12 image off emptyRep 0 0
    | .ok ss =>
      if (s.pstate = 0 ∧ s.get fPWR_HOLD = 1) ∧ ss.any fun x => x.id != 0x20 then s.finishCmd c.id stREFUSED 0 []
      else
        match ss.find? fun x => x.id == 0x20 with
        | none => s.cfgApply c.id image (bitOf (f 9 1) 0) good ss
        | some x =>
          match s.fwWrite x.body with
          | (s, true) => s.cfgApply c.id image (bitOf (f 9 1) 0) good ss
          | (s, false) =>
            s.cfgReject c.id stBAD_ARG 0x13 image 0 emptyRep (sumList ((ss.filter fun x => x.id != 0x20).map fun x => 2 ^ x.id)) 0

-- Load at D3 (R369)

/-- The marked slots whose CRC is good, the higher GENERATION first. -/
def loadable (s : State) : List Nat :=
  let l := [0, 1].filter fun i => (s.cfgSlot i).marked
  if l = [0, 1] ∧ (s.cfgSlot 0).gen < (s.cfgSlot 1).gen then [1, 0] else l

/-- A slot's tables become active, held rule states of unchanged entries kept; what this release clamps or finds in them is reported
(R369, R437). -/
def loadSlot (s : State) (i : Nat) : State :=
  let k := s.cfgSlot i
  let (x, d) := (Chk.clampAll ⟨k.words, emptyRep, []⟩ (k.words.map (·.1))).checkAll
  ((s.activate x.t true d x.rep i k.gen).flash [(fkREAD, flCfg i)]).setReport 0x02 x.rep 0 0x7FFFE 0 0

/-- The load: the first good slot, CFG_SLOT_FAIL for one that fails; with none CFG_NONE and the hold (R369). -/
def loadConfig (s : State) : State × Bool :=
  let ls := s.loadable
  let bad := ls.takeWhile fun i => !(s.cfgSlot i).good
  let s := bad.foldl (fun s i => s.logFw evCFG_SLOT_FAIL kCFG i [i, (s.cfgSlot i).gen]) s
  match ls.find? fun i => (s.cfgSlot i).good with
  | some i => (s.loadSlot i, true)
  | none => (((s.logFw evCFG_NONE kCFG 0 []).put fPWR_HOLD 2).putFlag fCFG_NONE true, false)

end State

-- Commands

/-- CFG_STAGE_BLOCK (R364). -/
def execCfgStageBlock (s : State) : Res :=
  .next (s.onCmd (fun c => c.op == opCFG_STAGE_BLOCK) fun c =>
    let (t, st) := s.stageBlock c.ctx (c.data.take c.plen)
    t.finishCmd c.id st 0 [])

/-- CFG_COMMIT; `good`: what it writes to the flash reads back as written (R365, R369). -/
def execCfgCommit (good : Bool) (s : State) : Res := .next (s.onCmd (fun c => c.op == opCFG_COMMIT) (s.cfgCommit good))

/-- CFG_REPORT (R372). -/
def execCfgReport (s : State) : Res :=
  .next (s.onCmd (fun c => c.op == opCFG_REPORT) fun c => s.finishCmd c.id stOK 0 s.cfg.report)

/-- CFG_ACTIVATION at tick 0 of the first rule period after step 8, as long as that period has not been started (R368). -/
def execCfgActivation (s : State) : Res :=
  if (s.periodBegins && s.untaken periodKey) || s.midnight then .next s.cfgActivate else .next s

/-- RULE_PERIOD_START: tick 0, an activation that is due, the snapshot, staleness, and the start of the evaluations (R19, R167, R170, R185,
R186). -/
def execRulePeriodStart (s : State) : Res := .next s.periodStart

end Sys2Proof.Machine
end

