-- ==== Sys2Proof/Machine/Xcheck.lean ====
section
/-! DEFINITION. The hazard cross-check of SFC (R150-R153, R439). -/

namespace Sys2Proof.Machine

namespace State

/-- SFC's own evaluation of the flagged groups on the snapshot; its hysteresis states advance (R151, R153). -/
def sfcEval (s : State) : State :=
  let (held, _, holds, _) := s.evalGroups s.flaggedGroups s.rule.sfcHeld [] [] []
  { s with rule := { s.rule with sfcHeld := held }, res := { s.res with sfcHolds := holds } }

/-- The lowest flagged entry on an aspect whose group holds in SFC's result. -/
def flaggedHold (s : State) (gs : List (List RuleEntry × Option RuleEntry)) (n : Nat) : Option RuleEntry :=
  (gs.filterMap (·.2)).find? fun e => e.asp == n && tabGet (fun _ => false) s.res.sfcHolds e.idx

/-- The demand check passes (R151). -/
def xDemandOk (s : State) (n : Nat) (e : RuleEntry) : Bool := s.flag (fASP_DEMAND n) == (e.auth == 1)

/-- The light check passes, on the states latched at tick 5,000 (R151). -/
def xLightOk (s : State) (n : Nat) (e : RuleEntry) : Bool :=
  if e.auth = 1 then (s.aspChans n).any fun c => tabGet (fun _ => false) s.res.litproof c
  else !(s.aspChans n).any fun c => tabGet (fun _ => false) s.res.provenLit c

/-- HAZARD_MISMATCH is raised for an aspect (R152). -/
def hazardMismatch (s : State) (n entry check first : Nat) : State :=
  let s := s.logEv evHAZARD_MISMATCH kASPECT n [n, entry, check, first % 2 ^ 32, s.rule.start % 2 ^ 32]
  ((s.bump aDEV_XCHK_CNT).raise srcHAZARD).fltSet 8 evHAZARD_MISMATCH

/-- The demand check on an aspect, made and judged (R152). -/
def xDemand (s : State) (n : Nat) (e : RuleEntry) : State :=
  let a := s.asp n
  if s.xDemandOk n e then s.setAsp n { a with xDem := none, xDemOn := false }
  else
    match a.xDem with
    | none => s.setAsp n { a with xDem := some s.rule.start }
    | some t =>
      let s := s.setAsp n { a with xDem := some s.rule.start, xDemOn := true }
      let s := if a.xDemOn then s else s.hazardMismatch n e.idx 1 t
      if s.flag fXCHK_MN then s.midnightEnter 4 else s

/-- The light check on an aspect, made once the proving limit has run out (R151, R152, R439). -/
def xLight (s : State) (n : Nat) (e : RuleEntry) : State :=
  let a := s.asp n
  let due := match a.xFirst with
    | some t => decide (t + s.provingLimit n ≤ s.grid.tick)
    | none => false
  if !due then s.setAsp n { a with xLight := none }
  else if s.xLightOk n e then s.setAsp n { a with xLight := none, xLightOn := false }
  else
    match a.xLight with
    | none => s.setAsp n { a with xLight := some s.rule.start }
    | some t =>
      let s := s.setAsp n { a with xLight := some s.rule.start, xLightOn := true }
      let s := if a.xLightOn then s else s.hazardMismatch n e.idx 2 t
      if s.flag fNW_FROZEN then s.midnightEnter 5 else s

/-- One aspect's checks of a period (R151, R152). -/
def xAspect (gs : List (List RuleEntry × Option RuleEntry)) (s : State) (n : Nat) : State :=
  match s.flaggedHold gs n with
  | none =>
    s.setAsp n { s.asp n with xFirst := none, xDem := none, xLight := none, xDemOn := false, xLightOn := false }
  | some e =>
    let a := s.asp n
    let s := s.setAsp n { a with xFirst := some (a.xFirst.getD s.rule.start) }
    (s.xDemand n e).xLight n e

/-- DEV_XCHK_STAT and fault group 8 (R432). -/
def xShow (s : State) : State :=
  let dem := (List.range 96).filter fun n => (s.asp n).xDemOn
  let light := (List.range 96).filter fun n => (s.asp n).xLightOn
  let all := (List.range 96).filter fun n => (s.asp n).xDemOn || (s.asp n).xLightOn
  let s := (s.putFlag fXCHK_DEMAND (!dem.isEmpty)).putFlag fXCHK_LIGHT (!light.isEmpty)
  let s := s.put fXCHK_FIRST (all.headD 0x7F)
  s.fltFollow 8 evHAZARD_MISMATCH (!all.isEmpty || s.flag fXCHK_STALL)

/-- A period whose checks are not made breaks every pair of failing periods, while the period in which an aspect's group first
held is still kept (R151-R153). -/
def xBreak (gs : List (List RuleEntry × Option RuleEntry)) (s : State) : State :=
  (List.range 96).foldl (fun s n =>
    let a := s.asp n
    let first := match s.flaggedHold gs n with
      | none => none
      | some _ => some (a.xFirst.getD s.rule.start)
    s.setAsp n { a with xFirst := first, xDem := none, xLight := none }) s

/-- The checks at tick 7,500, or a skip (R151-R153). ACTIVE is 1 while a flagged group is in effect, and keeps its value where SFC
runs no check, in Dusk and after its loss; a suspended period ends a run of skips and is none itself (DESIGN CHOICE, log entry
76). -/
def xCheck (s : State) (finished : Bool) : State :=
  if !s.rulesRun || !s.sfcRuns || !s.ruleTick 7500 then s
  else
    let gs := s.flaggedGroups
    let s := s.sfcEval.putFlag fXCHK_ACTIVE (!gs.isEmpty)
    if s.res.suspend ≠ 0 then
      let n := s.res.suspend - 1
      (({ s with res := { s.res with suspend := n, skips := 0 } }).putFlag fXCHK_SUSP true).xBreak gs |>.xShow
    else
      let s := s.putFlag fXCHK_SUSP false
      if finished then
        let s := ({ s with res := { s.res with skips := 0 } }).putFlag fXCHK_STALL false
        ((List.range 96).foldl (xAspect gs) s).xShow
      else
        let k := s.res.skips + 1
        let s := { s with res := { s.res with skips := k } }
        let s := if k = 3 then
            ((s.putFlag fXCHK_STALL true).logEv evHAZARD_XCHK_STALL kDEVICE 0 [k]).fltSet 8 evHAZARD_XCHK_STALL
          else s
        (s.xBreak gs).xShow

end State

-- Commands

/-- XCHK_CHECK at tick 7,500: SFC has finished its evaluation or not (R151, R153). -/
def execXchkCheck (finished : Bool) (s : State) : Res := .next (s.xCheck finished)

end Sys2Proof.Machine
end

