-- ==== Sys2Proof/Machine/Cores.lean ====
section
/-! DEFINITION. Nightwatch and the processors: heartbeats, the loss and restart of SC0 and SC1, the loss of SFC, uncorrectable
memory errors, and the clearing of latched fault groups (R432-R445, R495). -/

namespace Sys2Proof.Machine

/-- Ten minutes and ten milliseconds on the Nightwatch oscillator. -/
def tenMin : Nat := 600 * tps
def tenMs : Nat := 250000

namespace State

def setNw (s : State) (x : Nightwatch) : State := { s with nw := x }

/-- The start times within the preceding 10 minutes (R438, R441). -/
def recent (s : State) (l : List Nat) : List Nat := l.filter fun t => decide (s.nw.tick < t + tenMin)

/-- SC0 restarts in the last 10 minutes, as DEV_NW_STAT shows them (R438). -/
def sc0Restarts (s : State) : Nat := (s.recent s.nw.sc0Starts).length

/-- What a Dawn starts from: everything afresh but the nonvolatile stores, the Nightwatch domain's own list of R496, debug access
until a power cycle, and the pins; the memory die starts empty. -/
def afresh (s : State) : State :=
  let r := State.reset
  { r with
    pending := s.pending, free := s.free
    pins := { r.pins with resetN := s.pins.resetN, pfwN := s.pins.pfwN, hostSleep := s.pins.hostSleep }
    nw := { r.nw with tick := s.nw.tick, sc0Starts := s.nw.sc0Starts, scanned := s.nw.scanned }
    life := { r.life with
      nextCopy := s.life.nextCopy, nextJournal := s.life.nextJournal, nextSnap := s.life.nextSnap
      journal := s.life.journal, snaps := s.life.snaps }
    cfg := { r.cfg with slots := s.cfg.slots }
    sto := { r.sto with nwFault := s.sto.nwFault, nwLocked := s.sto.nwLocked }
    pwr := { r.pwr with pfw := !s.pins.pfwN }
    sec := { r.sec with
      record := s.sec.record, fails := s.sec.fails, fieldLock := s.sec.fieldLock, scannedEver := s.sec.scannedEver, ctr := s.sec.ctr
      dbg := s.sec.dbg, fw := s.sec.fw, first := s.sec.first } }

/-- Dawn begins again at D1 after a loss of SC0 (R437): everything afresh as at power good, but the grid and the time base run on, the
Nightwatch buffer and the fault groups stand, and the part stays as it was strapped (DEDUCED, log entry 82). -/
def dawnAgain (s : State) : State :=
  let r := s.afresh
  let r := { r with
    grid := s.grid
    time := s.time
    nw := { s.nw with sc0Step := 0, sc0Beat := s.nw.tick }
    evt := { r.evt with nwBuf := s.evt.nwBuf, nwDropped := s.evt.nwDropped }
    spi := { r.spi with mode := s.spi.mode }
    pins := { r.pins with mode3032Strap := s.pins.mode3032Strap }
    pwr := { r.pwr with
      good := true, dawnStart := s.pwr.dawnStart, phaseStart := s.nw.tick, phaseMs := s.pwr.phaseMs.take 1 } }
  let r := [aDEV_FLT_ACT, aDEV_FLT_FIRST, aDEV_GRID_STAT].foldl (fun (r : State) a => r.wr a (s.rd a).toNat) r
  let r := ((r.put fNW_NWBUF (s.get fNW_NWBUF)).put fNW_SC0_RST (s.get fNW_SC0_RST)).putFlag fPWR_RESET_SEEN (s.flag fPWR_RESET_SEEN)
  (r.put fPWR_PHASE 1).flashTable

-- SC0 (R435-R440)

/-- A Morning check in progress ends without a record; the drive die closes the banks it had opened for it (R440). -/
def mornAbort (s : State) : State :=
  let s := (List.range 8).foldl (fun s n =>
    if s.mornOpened n then s.bankClose n else s) s
  s.mornDrop

/-- SC0 is declared lost with its cause and error address (R435, R436, R440): commits freeze, a waiting Dusk entry and a Morning
check end, fault group 14 is set. A loss during a restart is a further loss; one that is declared while the restart has not begun is the
same (R438). -/
def sc0Lost (s : State) (cause addr : Nat) : State :=
  if !s.pwr.good || (s.pstate == 0 && s.get fPWR_PHASE == 0) || (s.flag fNW_SC0_LOST && s.nw.sc0Step == 0) then s
  else
    let s := s.setNw { s.nw with sc0Cause := cause, sc0Addr := addr, sc0LostAt := s.nw.tick, sc0Step := 0, sc0Wrong := 0 }
    let s := s.putFlag fNW_SC0_LOST true
    let s := if s.midnight then s else s.putFlag fNW_FROZEN true
    let s := if s.flag fMORN_RUNNING then s.mornAbort else s
    let entry := s.pstate == 2
    let s := s.duskAbandon
    (if entry then s.put fPWR_STATE 1 else s).fltSet 14 0

/-- A heartbeat word of SC0 (R435): two wrong codes in a row lose it. -/
def sc0Beat (s : State) (code : Nat) : State :=
  if s.flag fNW_SC0_LOST || s.pstate == 3 then s
  else if code = (s.nw.sc0Code + 1) % 256 then
    s.setNw { s.nw with sc0Code := code, sc0Wrong := 0, sc0Beat := s.nw.tick }
  else if s.nw.sc0Wrong = 0 then s.setNw { s.nw with sc0Wrong := 1 }
  else s.sc0Lost 2 0

/-- Everything of SC0 that its reset ends: running commands, ring contexts, elevations and nonces, a self-test, a trim reload
command, a commit that has not been marked, the staging with what was staged of it (R329, R332, R337, R364, R370, R407). -/
def sc0Ends (s : State) : State :=
  let cut := s.bist.cur
  let s := s.bistStop.restartCmds
  let s := match cut with
    | some b => if b < 16 ∧ !s.flag (fADC_FAULT b) then (s.placeMove (b / 2)).adcKick b else s
    | none => s
  let s := { s with adc := { s.adc with reload := none } }
  (s.setCfg { s.cfg with wait := none, staged := none }).dropStaging

/-- The restarted firmware writes the mark of an activated generation whose slot has none (R370). -/
def markAgain (s : State) : State :=
  let i := s.get fCFG_SLOT
  let k := s.cfgSlot i
  if !k.marked && k.good && k.gen != 0 && k.gen == (s.rd aDEV_CFG_GEN).toNat then (s.cfgMarkSlot i).putFlag fCFG_MARK_REDONE true else s

/-- Step 1 of the recovery, 1 ms after the loss (R437, R438): a restart begins, or Midnight at the limit. Before Dawn is complete
Dawn restarts at D1. -/
def sc0Reset (s : State) : State :=
  let past := s.recent s.nw.sc0Starts
  if !s.flag fNW_SC0_LOST || s.nw.sc0Step != 0 || decide (s.nw.tick < s.nw.sc0LostAt + 25000) then s
  else if 3 ≤ past.length then s.midnightEnter 2
  else
    let s := s.sc0Ends.setNw { s.nw with sc0Starts := s.nw.tick :: past.take 2, sc0Step := 1, sc0Code := 0, sc0Wrong := 0 }
    let s := s.put fNW_SC0_RST (past.length + 1)
    if s.pstate = 0 then s.dawnAgain else s

/-- The CORE_RESTART record (R495). -/
def coreRestart (s : State) (core cause addr count : Nat) : EvtRec :=
  ⟨s.time.sec, s.time.ns, s.quality 2, evCORE_RESTART, kPROC * 4096 + core, [cause, addr, count]⟩

/-- Step 2 of the recovery: the ROM loads the running slot again, with its key (R437, R344). -/
def fwReload (s : State) : State := if s.sec.image.isSome then s.fwLoad (s.fwSlot s.sec.running).image else s

/-- The slot whose tables step 3 of the recovery activates anew: the newest that is good, when the active tables differ from it or had an
uncorrectable error (R437). -/
def reloadFrom (s : State) (reload : Bool) : Option Nat :=
  if (reload || s.nw.sc0Table) && !s.midnight then s.loadable.find? fun i => (s.cfgSlot i).good else none

/-- That slot's tables become active, with which a rule period begins (R437, R368). -/
def tablesAgain (s : State) (reload : Bool) : State :=
  match s.reloadFrom reload with
  | none => s
  | some i =>
    let s := s.loadSlot i
    if s.rulesRun then { s with rule := { s.rule with start := s.grid.tick } } else s

/-- The recovery can end now: a reload of the tables ends only where a rule period begins, before its snapshot (R437, R368). -/
def sc0Ready (s : State) (reload : Bool) : Bool :=
  s.nw.sc0Step != 0 && ((s.markAgain.reloadFrom reload).isNone || !s.rulesRun || s.periodDueNow)

/-- Steps 2 to 4 of the recovery (R437): the firmware is loaded, a missing commit mark is written (R370), the tables are reloaded at
need, CORE_RESTART is logged, the records move from the Nightwatch buffer, a persistence that fell due is made (R440, R444). -/
def sc0Back (s : State) (reload : Bool) : State :=
  if !s.sc0Ready reload then s
  else
    let s := (s.fwReload.markAgain).tablesAgain reload
    let s := (s.putFlag fNW_SC0_LOST false).setNw { s.nw with sc0Step := 0, sc0Beat := s.nw.tick, sc0Table := false }
    let r := s.coreRestart 0 s.nw.sc0Cause s.nw.sc0Addr (s.recent s.nw.sc0Starts).length
    let s := if s.logOpen then (s.writeRec r).flushNw else s.nwLog r
    let s := s.refreshIcu
    if s.life.due && (s.midnight || !s.pins.pfwN) then s.persistBegin (if s.midnight then 3 else 2) else s

-- SC1 (R441)

/-- No master is heard any more: the time base goes on as for a lost master (R271, R384, R441). -/
def mastersGone (s : State) : State := (s.setPtp { s.ptp with masters := [], hold := false }).masterLost

/-- SC1 stops (R441, R406): no occurrence stays copied or armed, its hold-off times end, the time base goes to HOLDOVER. -/
def sc1Stop (s : State) : State :=
  let s := (List.range 128).foldl (fun s d => if (s.launch d).copied || (s.launch d).armed then s.ldCancel d else s) s
  let s := [0, 1].foldl (fun s p => s.setPort p { s.rport p with holdoff := false }) s
  (s.mastersGone).putFlag fNW_SC1_LOST true

/-- SC1 is declared lost (R441): CORE_RESTART, fault group 15, and held lost at the fourth loss within 10 minutes. -/
def sc1Lost (s : State) (cause addr : Nat) : State :=
  if !s.pwr.good || s.flag fNW_SC1_HELD || s.get fPWR_PHASE < 3 then s
  else
    let past := s.recent s.nw.sc1Starts
    let held := decide (3 ≤ past.length)
    let s := s.sc1Stop.setNw { s.nw with sc1Starts := if held then past else s.nw.tick :: past.take 2 }
    let s := s.putFlag fNW_SC1_HELD held
    (s.enqueue (s.coreRestart 1 cause addr (s.recent s.nw.sc1Starts).length)).fltSet 15 evCORE_RESTART

/-- SC1 runs again from its loaded image and takes up the signal fails as they stand (R441, R402, R228, R245). -/
def sc1Back (s : State) : State :=
  if !s.flag fNW_SC1_LOST || s.flag fNW_SC1_HELD || s.underTest bkSC1 then s
  else
    let s := (s.putFlag fNW_SC1_LOST false).setNw { s.nw with sc1Beat := s.nw.tick }
    [0, 1].foldl sfTell s

-- SFC (R442)

/-- SFC is lost: its work stops and the part enters Midnight; in Midnight already by another cause the work still stops (R442, R301). -/
def sfcLost (s : State) : State :=
  if !s.sfcRuns then s
  else
    let s := (s.putFlag fNW_SFC_OK false).midnightEnter 1
    { s with sto := { s.sto with sfcLost := true } }

-- Uncorrectable memory errors (R443)

/-- The 64-byte line of the lifetime area that holds an address, from the newest journal copy. -/
def lifeRepair (s : State) (addr : Nat) : State :=
  let o := (addr - lifeBase) % 0x10000 / 64 * 64
  match s.newestSlot with
  | some t => if o < 0x8000 then s.memWrite (addr / 64 * 64) (tabBytes t o 64) else s
  | none => s

/-- The frame an error in the packet SRAM hits at an egress: closed with the complemented FCS, or discarded when not yet started
(R443, R234). -/
def frameHit (s : State) (p : Nat) : State :=
  let e := s.egress p
  match e.cur with
  | some f => s.setEgress p { e with cur := some { f with stomp := true } }
  | none =>
    match e.launch, e.ptp, e.loc, e.transit with
    | _ :: l, _, _, _ => s.setEgress p { e with launch := l }
    | _, _ :: l, _, _ => s.setEgress p { e with ptp := l }
    | _, _, _ :: l, _ => s.setEgress p { e with loc := l }
    | _, _, _, _ :: l => s.setEgress p { e with transit := l }
    | _, _, _, _ => s

/-- The template of a descriptor is lost until SC0 has rewritten it: its occurrence is skipped (R443). -/
def templateHit (s : State) (d : Nat) : State :=
  let l := s.launch d
  if !l.copied && !l.armed then s
  else (s.ldCntAll l.ports 10).ldCancel d

/-- The reaction by where the error lies: 0 SC0 region, 1 hardware tables, 2 SC1 region, 3 SFC region, 4 packet SRAM, 5 lifetime
area, 6 staging buffer, 7 launch template, 8 capture ring or event log (R443). -/
def eccReact (s : State) (loc p addr : Nat) : State :=
  match loc with
  | 0 => s.sc0Lost 3 addr
  | 1 => (s.setNw { s.nw with sc0Table := true }).sc0Lost 3 addr
  | 2 => s.sc1Lost 3 addr
  | 3 => s.sfcLost
  | 4 => s.frameHit p
  | 5 => s.lifeRepair addr
  | 6 => s.dropStaging
  | 7 => s.templateHit (addr % 128)
  | _ => s.memWrite (addr / 64 * 64) (List.replicate 64 0)

/-- A double-bit error (R8, R443): logged while SC0 runs, fault group 19, and the reaction. -/
def eccError (s : State) (loc p addr : Nat) : State :=
  let s := if s.flag fNW_SC0_LOST then s else s.logEv evECC_UNCORRECTED kDEVICE 0 [addr, loc]
  (s.fltSet 19 evECC_UNCORRECTED).eccReact loc p addr

-- Latched groups (R432)

/-- The cause of a latched group has ended. -/
def causeEnded (s : State) (n : Nat) : Bool :=
  match n with
  | 11 => s.sfcRuns
  | 14 => !s.flag fNW_SC0_LOST
  | 15 => !s.flag fNW_SC1_LOST && !s.flag fNW_SC1_HELD
  | _ => true

/-- A write of SYS_FLT_CLR: latched groups whose cause has ended clear; a bank held open for BANK_OC is asked to reclose at the
next commit (R432). -/
def fltClrWrite (s : State) (w : Nat) : State :=
  let s := [11, 14, 15, 16, 19].foldl (fun s n => if bitOf w n && s.causeEnded n then s.fltClr n else s) s
  s.askReclose (w / 2 ^ 24)

end State

-- Commands

/-- SC0_HEARTBEAT with its code (R435). -/
def execSc0Heartbeat (code : BitVec 8) (s : State) : Res := .next (s.sc0Beat code.toNat)

/-- The debug ports of SC0 and SC1 can be reached: the DEBUG group of the TAP is open (R340). -/
def State.debugReach (s : State) : Bool := !s.sec.fieldLock || s.sec.dbg

/-- SC0_LOST with the cause of R495 less one, and the address of an uncorrectable error; a time-out needs 10 ms without an
accepted heartbeat, a halt by debug an open debug port (R435, R340, R341). -/
def execSc0Lost (cause : Fin 4) (addr : BitVec 32) (s : State) : Res :=
  if (cause.val = 0 ∧ (s.nw.tick < s.nw.sc0Beat + tenMs ∨ s.pstate = 3)) ∨ (cause.val = 3 ∧ !s.debugReach) then .next s
  else .next (s.sc0Lost (cause.val + 1) (if cause.val = 2 then addr.toNat else 0))

/-- SC0_RESET (R437 step 1, R438). -/
def execSc0Reset (s : State) : Res := .next s.sc0Reset

/-- SC0_RESTART_COMPLETE: whether step 3 reloads the tables (R437). -/
def execSc0RestartComplete (reload : Bool) (s : State) : Res := .next (s.sc0Back reload)

/-- SFC_HEARTBEAT with a right or a wrong signature (R435). -/
def execSfcHeartbeat (ok : Bool) (s : State) : Res :=
  if !s.sfcRuns then .next s else if ok then .next (s.putFlag fNW_SFC_OK true) else .next s.sfcLost

/-- SFC_LOST: a lockstep mismatch or missing heartbeats (R442). -/
def execSfcLost (s : State) : Res := .next s.sfcLost

/-- SC1_HEARTBEAT (R435). -/
def execSc1Heartbeat (s : State) : Res := .next (s.setNw { s.nw with sc1Beat := s.nw.tick })

/-- SC1_LOST with the cause of R495 less one (2 does not occur) and the address of an uncorrectable error (R441, R340). -/
def execSc1Lost (cause : Fin 4) (addr : BitVec 32) (s : State) : Res :=
  if cause.val = 1 ∨ (cause.val = 0 ∧ (s.nw.tick < s.nw.sc1Beat + tenMs ∨ s.pstate = 3)) ∨ (cause.val = 3 ∧ !s.debugReach) then .next s
  else .next (s.sc1Lost (cause.val + 1) (if cause.val = 2 then addr.toNat else 0))

/-- SC1_RESTART_DONE (R441). -/
def execSc1RestartDone (s : State) : Res := .next s.sc1Back

/-- ECC_UNCORRECTED: where the error lies (see `State.eccReact`), the egress of a packet SRAM error, and the address; for a launch
template, the descriptor (R443). -/
def execEccUncorrected (loc : Fin 9) (p : Fin 2) (addr : BitVec 32) (s : State) : Res :=
  .next (s.eccError loc.val p.val addr.toNat)

/-- FAULT_GROUP_CLEAR: a write of SYS_FLT_CLR (R432). -/
def execFaultGroupClear (w : BitVec 32) (s : State) : Res := .next (s.fltClrWrite w.toNat)

end Sys2Proof.Machine
end

