-- ==== Sys2Proof/Machine/Bist.lean ====
section
/-! DEFINITION. Built-in self-test: the run, its blocks, and the trim reload that shares the converters with it (R196, R396-R410). -/

namespace Sys2Proof.Machine

namespace State

-- A run (R397, R398, R400)

/-- A run of the selected blocks begins: `job` is its mailbox command, none for the SPI context (R397, R455). -/
def bistBegin (s : State) (job : Option Nat) (sel : List Nat) (force stop : Bool) : State :=
  (s.putFlag fBIST_RUNNING true).setBist { s.bist with
    active := true, job := job, left := sel, force := force, stop := stop, cur := none, out := [], cause := 0, bank := none,
    slice := false }

/-- The blocks that ARG0 and ARG1 select, in ascending order (R397). -/
def bistSelect (a0 a1 : Nat) : List Nat :=
  (List.range 32).filter (bitOf a0) ++ ((List.range 2).filter (bitOf a1)).map (· + 32)

/-- The status of a finished run (R400). -/
def bistStatus (s : State) : Nat :=
  let ran := s.bistCount boPASS + s.bistCount boFAIL
  let cut := s.bistCount boINCOMPLETE
  if s.bistCount boREFUSED + s.bistCount boNOT_RUN + cut = 0 then stOK
  else if ran + cut = 0 then stREFUSED
  else stINCOMPLETE

/-- The run ends once no block is left: completion, RUNNING (R400). -/
def bistNext (s : State) : State :=
  if !s.bist.active || s.bist.cur.isSome || !s.bist.left.isEmpty then s
  else
    let done := match s.bist.job with
      | some id => s.finishCmd id s.bistStatus s.bistResult0 s.bistPayload
      | none => s
    done.bistIdle

/-- The outcome of a block: its byte of the payload, the health map, the counts and data words, and a BIST record (R400). -/
def bistRecord (s : State) (b outcome reason count expect : Nat) : State :=
  let dur := if s.underTest b then (s.grid.tick - s.bist.start) / 25 else 0
  let s := s.setBist { s.bist with
    out := tabSet (fun _ => 0) s.bist.out b (outcome + 16 * reason),
    data := tabSet (fun _ => []) s.bist.data b [count, expect, dur * 256 + reason * 16 + outcome, s.gridNs] }
  let s := s.put (fBIST_LAST b) outcome
  let n := fun o => ((List.range 34).filter fun c => s.get (fBIST_LAST c) == o).length
  let s := (s.put fBIST_NFAIL (n boFAIL)).put fBIST_NINC (n boINCOMPLETE)
  s.logFw evBIST kBIST b ([b, outcome, reason, count, expect] ++ (if s.underTest b then s.bist.bad.take 6 else []))

-- Preconditions and cover (R401, R406)

/-- The cover of R396 is available. -/
def bistCovered (s : State) (b : Nat) : Bool :=
  if b < 16 then !s.convOut (partner b) && (s.conv (partner b)).reload != 2
  else if b < 24 then false
  else if b = bkLOOPREC then decide (s.loops.spares < 2)
  else if b = bkLINK then !s.link.narrow
  else b != bkSC1

/-- FORCE is honoured for a block without cover: neither for REFBUF7, LOOPREC and LINK, nor for the pair of the boost sampling. -/
def bistForceable (b : Nat) : Bool := b != 0x17 && b != bkLOOPREC && b != bkLINK && b != 14 && b != 15

/-- The first precondition that fails, 0 for none; `hot` is a junction above 110 °C (R401). -/
def bistPrecond (s : State) (b : Nat) (hot : Bool) : Nat :=
  if s.pstate ≠ 1 then brSTATE
  else if s.flag fGRID_VCORE_LOW then brVCORE
  else if hot || decide (1100 < s.boost.tj) then brTEMP
  else if s.flag fGRID_SRC then brGRID
  else if s.pwr.pfw then brPFW
  else if b < 16 ∧ (!s.flag (fREF_RDY (b / 2)) || s.pairFault (b / 2)) then brREF
  else if !s.bistCovered b && !(s.bist.force && bistForceable b) then brNO_COVER
  else 0

-- Start of a block (R398, R402-R406, R409)

/-- A test that runs without cover: BIST_FORCED, and its bank counts as lost (R406). -/
def bistForced (s : State) (b : Nat) : State :=
  let s := (s.putFlag fBIST_FORCED true).logFw evBIST_FORCED kBIST b [b]
  if b < 16 then s.setBist { s.bist with bank := some (b / 2) }
  else if b < 24 then s.setBist { s.bist with bank := some (b - 16) }
  else s

/-- The block is isolated for its test (R402-R405, R409). -/
def bistIsolate (s : State) (b : Nat) : State :=
  if b < 16 then
    let out := s.flag (fADC_FAULT b)
    let s := s.setConv b { s.conv b with bist := true }
    if out then s else s.moveAway b
  else if b < 24 then (s.putFlag (fREF_RDY (b - 16)) false).putFlag (fADC (b - 16) 0) false
  else if b = bkSEC then s.setSec { s.sec with nonces := [], nonceAt := [], secrets := false, fwKey := none }
  else if b = bkSC1 then s.sc1Stop
  else s

/-- The next block: refused, or under test (R398). -/
def bistStart (s : State) (hot : Bool) : State :=
  match s.bist.active, s.bist.cur, s.bist.left with
  | true, none, b :: rest =>
    let reason := s.bistPrecond b hot
    let s := s.setBist { s.bist with left := rest }
    if reason ≠ 0 then (s.bistRecord b boREFUSED reason 0 0).bistNext
    else
      let forced := !s.bistCovered b
      let s := (s.put fBIST_CUR b).setBist { s.bist with
        cur := some b, start := s.grid.tick, cause := 0, regions := 0, bad := [], slices := 40, cuts := 0, slice := false }
      let s := if forced then s.bistForced b else s
      s.bistIsolate b
  | _, _, _ => s

-- End of a block (R399, R402, R407, R410)

/-- The steps applied and expected: regions and slices as the model counts them, else as the controller reports (R399). -/
def bistSteps (s : State) (b count expect : Nat) : Nat × Nat :=
  if bistRegions b ≠ 0 then (s.bist.regions, bistRegions b)
  else if b = bkRULEENG then (40 - s.bist.slices, 40)
  else (count, expect)

/-- A converter after its test: trim reload and reference check, and its work moves back (R402, R206, R211). -/
def bistConvBack (s : State) (k outcome bg : Nat) : State :=
  let s := s.setConv k { s.conv k with bist := false, bg := some bg, chk := none }
  let good := decide (((bg : Int) - Config.bgOtp k).natAbs ≤ 8)
  let s := s.lifeAcc (lifeConv (k / 2) + (if outcome = boPASS then 12 else 16)) (if outcome = boPASS ∨ outcome = boFAIL then 1 else 0)
  if s.pairFault (k / 2) then s
  else if outcome = boFAIL ∨ !good then s.convFault k
  else if s.flag (fADC_FAULT k) then (if outcome = boPASS then s.convReturn k else s)
  else (s.placeMove (k / 2)).adcKick k

/-- The channels of a bank that a forced test counted as lost prove again (R406). -/
def bistReprove (s : State) : State :=
  match s.bist.bank with
  | none => s
  | some n =>
    let s := s.setBist { s.bist with bank := none }
    let clear := fun (s : State) k => s.setConv k { s.conv k with holds := [] }
    (List.range 16).foldl (fun s i => s.unprove (16 * n + i)) (clear (clear s (2 * n)) (2 * n + 1))

/-- The block is re-initialised from its reset state, whatever the outcome, and a failure has its consequences (R402, R410);
`bad` marks the halves of the link that failed, and counts the loop records that are retired. -/
def bistRestore (s : State) (b outcome bad bg : Nat) : State :=
  let failed := outcome == boFAIL
  if b < 16 then s.bistConvBack b outcome bg
  else if b < 24 then
    let p := b - 16
    let s := (s.putFlag (fREF_RDY p) true).putFlag (fADC p 0) true
    let s := s.lifeAcc (lifeConv p + (if outcome = boPASS then 12 else 16)) (if outcome = boPASS ∨ failed then 1 else 0)
    if failed && !s.pairFault p then s.pairFail p else s
  else if b = bkLOOPREC then
    (let n := s.loops.spares + bad
     { s with loops := { s.loops with spares := if n < 2 then n else 2 } })
  else if b = bkRULEENG then (if failed && s.flag fXCHK_MN then s.midnightEnter 6 else s)
  else if b = bkLINK then
    (if !failed then s else if bad = 3 then s.linkLost else s.linkNarrow (if bad = 1 then 0 else 16))
  else if b = bkSEC then (if failed then s.setSec { s.sec with failed := true } else s)
  else if b = bkSC1 then
    (if failed then (s.putFlag fNW_SC1_HELD true).putFlag fNW_SC1_LOST true
     else if s.flag fNW_SC1_HELD then s
     -- SC1 takes up the signal fails as they stand (R228, R245)
     else [0, 1].foldl sfTell ((s.putFlag fNW_SC1_LOST false).setNw { s.nw with sc1Beat := s.nw.tick }))
  else s

/-- The outcome: a cause that arose ends it INCOMPLETE, then a short count, then the result (R398, R399). -/
def bistOutcome (s : State) (n e : Nat) (bad : Bool) : Nat × Nat :=
  if s.bist.cause ≠ 0 then (boINCOMPLETE, s.bist.cause)
  else if n < e then (boINCOMPLETE, 0)
  else if bad || !s.bist.bad.isEmpty then (boFAIL, 0)
  else (boPASS, 0)

/-- A failure: BIST_FAIL and fault group 16; with STOP_ON_FAIL the blocks left are not run (R410, R398). -/
def bistFail (s : State) (b : Nat) : State :=
  let s := (s.logFw evBIST_FAIL kBIST b [b]).fltSet 16 evBIST_FAIL
  if !s.bist.stop then s
  else
    let s := s.bistNotRun s.bist.left
    s.setBist { s.bist with left := [] }

/-- The test of a block ends (R399). -/
def bistEnd (s : State) (count expect bad bg : Nat) (hot : Bool) : State :=
  match s.bist.cur with
  | none => s
  | some b =>
    let s := if hot then s.bistCause brTEMP else s
    let (n, e) := s.bistSteps b count expect
    let (o, r) := s.bistOutcome n e (bad != 0)
    let s := s.bistRecord b o r n e
    let s := (s.putFlag fBIST_FORCED false).put fBIST_CUR 0
    let s := s.setBist { s.bist with cur := none, cause := 0, slice := false }
    let s := s.bistReprove
    let s := if o = boFAIL then s.bistFail b else s
    (s.bistRestore b o bad bg).bistNext

-- Memory regions and slices (R403, R405)

/-- A region is saved, tested and restored: no content changes (R403). -/
def bistRegion (s : State) (bad : Bool) : State :=
  match s.bist.cur with
  | none => s
  | some b =>
    let n := s.bist.regions
    if bistRegions b ≤ n then s
    else s.setBist { s.bist with regions := n + 1, bad := if bad then s.bist.bad ++ [n] else s.bist.bad }

/-- A slice of the rule engine's test runs in this rule period, from tick 5,250 on and after the evaluation; one that was not cut off
has ended (R405). -/
def bistSlice (s : State) : State :=
  if !s.underTest bkRULEENG || s.bist.slices == 0 || s.rule.running || !s.ruleTick 5250
      || decide (s.rule.start < s.bist.sliceAt) then s
  else s.setBist { s.bist with
    slices := s.bist.slices - 1, cuts := if s.bist.slice then 0 else s.bist.cuts, slice := true, sliceAt := s.grid.tick }

/-- 500 ticks before the next snapshot the slice is cut off and will be repeated; the third time in a row ends the test (R405). -/
def bistCut (s : State) : State :=
  if !s.underTest bkRULEENG || !s.bist.slice || decide (s.grid.tick + 500 < s.rule.start + s.rulePeriod) then s
  else
    let n := s.bist.cuts + 1
    let s := s.setBist { s.bist with slices := s.bist.slices + 1, cuts := n, slice := false }
    if 3 ≤ n then s.bistCause brSLICE else s

-- TRIM_RELOAD (R196, R408)

/-- Converters of the mask whose test, or whose pair's buffer test, the run has still to finish, as blocks. -/
def reloadBlocked (s : State) (m : Nat) : List Nat :=
  (List.range 16).flatMap fun k =>
    if !bitOf m k then [] else (if s.bistCovers k then [k] else []) ++ (if s.bistCovers (16 + k / 2) then [16 + k / 2] else [])

/-- The command of a mailbox context. -/
def trimReload (s : State) (c : Cmd) : State :=
  let m := c.arg 0 % 65536
  let wait := (s.reloadBlocked m).map s.bistWait
  if !wait.isEmpty then s.finishCmd c.id stDEFERRED (maxFrom 0 wait) []
  else if s.adc.reload.isSome then s.finishCmd c.id stBUSY 0 []
  else if bitOf m s.boostConv && s.convOut (partner s.boostConv) then s.finishCmd c.id stREFUSED 0 []
  else if m = 0 then s.finishCmd c.id stOK 0 (leBytes 4 0)
  else
    let s : State := ((List.range 16).filter (bitOf m)).foldl (fun s k => s.setConv k { s.conv k with reload := 1 }) s
    ({ s with adc := { s.adc with reload := some ⟨c.id, m, 0, 0⟩ } }).longCmd c.id

/-- The command ends once every named converter has reloaded (R196). -/
def trimDone (s : State) : State :=
  match s.adc.reload with
  | some r =>
    if r.left ≠ 0 then s
    else
      let w := r.pass + r.fail * 65536
      ({ s with adc := { s.adc with reload := none } }).finishCmd r.ctx (if r.fail = 0 then stOK else stFAULT) w (leBytes 4 w)
  | none => s

end State

-- Commands

/-- BIST_RUN (R397). -/
def execBistRun (s : State) : Res :=
  .next (s.onCmd (fun c => c.op == opBIST_RUN) fun c =>
    let sel := State.bistSelect (c.arg 0) (c.arg 1 % 4)
    if sel.isEmpty || 4 ≤ c.arg 1 || 4 ≤ c.arg 2 || (c.ctx == 0 && decide (c.rlen < 64)) then s.finishCmd c.id stBAD_ARG 0 []
    else if s.bist.active then s.finishCmd c.id stBUSY 0 []
    else (s.bistBegin (some c.id) sel (bitOf (c.arg 2) 0) (bitOf (c.arg 2) 1)).longCmd c.id)

/-- BIST_BLOCK_START; `hot` is a junction above 110 °C (R398, R401). -/
def execBistBlockStart (hot : Bool) (s : State) : Res := .next (s.bistStart hot)

/-- BIST_BLOCK_END: the steps applied and expected, the halves or the number of loop records that failed (any non-zero value for a block
without either), the BG
code of a converter's reference check, and a junction that reached 125 °C (R399, R402). -/
def execBistBlockEnd (count expect : BitVec 32) (bad : BitVec 2) (bg : BitVec 12) (hot : Bool) (s : State) : Res :=
  .next (s.bistEnd count.toNat expect.toNat bad.toNat bg.toNat hot)

/-- BIST_REGION_STEP: the next region, found good or bad (R403). -/
def execBistRegionStep (bad : Bool) (s : State) : Res := .next (s.bistRegion bad)

/-- RULEENG_SLICE at tick 5,250 (R405). -/
def execRuleengSlice (s : State) : Res := .next s.bistSlice

/-- RULEENG_SLICE_CUTOFF (R405). -/
def execRuleengSliceCutoff (s : State) : Res := .next s.bistCut

/-- TRIM_RELOAD (R196, R397, R408). -/
def execTrimReload (s : State) : Res := .next (s.onCmd (fun c => c.op == opTRIM_RELOAD) s.trimReload)

/-- TRIM_RELOAD_DONE of a converter with the BG code of its reference check (R196). -/
def execTrimReloadDone (k : Fin 16) (bg : BitVec 12) (s : State) : Res := .next (s.reloadEnd k.val bg.toNat).trimDone

end Sys2Proof.Machine
end

