-- ==== Sys2Proof/Machine/Power.lean ====
section
/-! DEFINITION. Power good, RESET_N, power cycles, Dawn, the power-fail warning, Dusk and the Morning check (R373-R395, R496). -/

namespace Sys2Proof.Machine

namespace State

-- Power good (R374, R381, R496)

/-- Power good begins with RESET_N high: Dawn starts at D0 and MODE_3032 is sampled (R374, R305). One with the scanned mark stays outside
functional mode (R342); one in Midnight lights its fallback again and starts no Dawn (R374, R381). -/
def powerGood (s : State) (strap : Bool) : State :=
  let seen := !s.pins.resetN
  let up := fun (s : State) => { s with
    pins := { s.pins with resetN := true, mode3032Strap := strap }
    pwr := { s.pwr with good := true } }
  if s.pwr.good then s
  else if s.nw.scanned then { s with pins := { s.pins with resetN := true } }
  else if s.midnight then
    (List.range 8).foldl fallbackBank ((List.range 128).foldl fallbackChan (up s))
  else
    let n := (s.recent s.nw.sc0Starts).length
    let s := ((up s.afresh).putFlag fPWR_RESET_SEEN seen).put fNW_SC0_RST n
    { s with
      spi := { s.spi with mode := strap }
      pwr := { s.pwr with dawnStart := s.nw.tick, phaseStart := s.nw.tick } }

/-- Power good ends: sinks off, banks open, BST_GATE, STO outputs, TP lines, ASPECT_READY and FAULT_N low (R374), HOST_IRQ_N by its
pull-up high (R358). -/
def powerEnd (s : State) : State :=
  let s := (List.range 128).foldl darken s
  let s := ((List.range 8).foldl bankOpen s).stoAllOff
  let s := (List.range 4).foldl (fun s n => (s.setLine n { s.tpLine n with low := true }).putFlag (fTP_LEVEL n) false) s
  let s := s.scanStop
  { s with
    pins := { s.pins with bstGate := false, aspectReady := false, ppsOut := false, hostIrqN := true }
    pwr := { s.pwr with good := false } }

/-- A low of RESET_N: ignored in Midnight, else the end of power good (R381, R390). -/
def resetLow (s : State) : State :=
  if s.midnight then s
  else
    let s := if s.pwr.good then s.powerEnd else s
    { s with pins := { s.pins with resetN := false } }

/-- Test entry (R342): Midnight, zeroization, the scanned mark; a privileged command that runs is lost, and the part leaves functional mode
as at the end of power good (log entry 88). A closed group decodes as BYPASS (R340). -/
def testEntry (s : State) : State :=
  if s.sec.fieldLock && !s.sec.dbg then s
  else
    let s := s.midnightEnter 7
    let s := s.setSec { s.sec with
      elev := [], used := [], nonces := [], nonceAt := [], pw0 := 0, pw1 := 0, held := true, secrets := false, fwKey := none,
      scannedEver := s.sec.scannedEver || s.sec.fieldLock }
    let gone := fun (c : Cmd) => c.priv && opPrivileged c.op && (c.phase == .running || c.phase == .long)
    let s := { s with
      nw := { s.nw with scanned := true },
      mbx := { s.mbx with cmds := s.mbx.cmds.filter fun c => !gone c,
                          cur := if s.mbx.cmds.any fun c => gone c && s.mbx.cur == some c.id then none else s.mbx.cur } }
    s.powerEnd

/-- A power cycle: the Nightwatch domain loses everything, and power good has ended (R374, R461, R496). -/
def powerCycle (s : State) : State :=
  let s := s.afresh
  { s with
    nw := State.reset.nw
    sto := State.reset.sto
    sec := { s.sec with dbg := false } }

-- Dawn (R375-R379)

/-- A phase of Dawn is in progress. -/
def inPhase (s : State) (n : Nat) : Bool := s.pwr.good && s.pstate == 0 && s.get fPWR_PHASE == n

/-- A phase ends and the next begins on the same tick (R375, R379). -/
def nextPhase (s : State) : State :=
  let ms := (s.nw.tick - s.pwr.phaseStart) / 25000
  { s.put fPWR_PHASE (s.get fPWR_PHASE + 1) with
    pwr := { s.pwr with phaseMs := s.pwr.phaseMs ++ [ms], phaseStart := s.nw.tick } }

/-- No XTAL25 within 10 ms: the grid will run on the internal oscillator, with the consequences of R35 (R375, R36). -/
def xtalTimeout (s : State) : State :=
  if !s.inPhase 0 || s.flag fGRID_SRC || decide (s.nw.tick < s.pwr.phaseStart + 250000) then s
  else
    let s := (s.putFlag fGRID_XTAL_OK false).putFlag fGRID_SRC true
    ((s.logEv evGRID_LOST kDEVICE 0 []).fltSet 13 evGRID_LOST).timeUntrusted 2

/-- D0 ends: the grid and the time base start at 0, and the interrupt controller has nothing pending and everything masked
(R33, R375, R351). -/
def dawnD0 (s : State) : State :=
  if !s.inPhase 0 then s
  else
    let s := if s.flag fGRID_SRC then s else s.putFlag fGRID_XTAL_OK true
    let s := { s with
      grid := { s.grid with running := true, tick := 0 }
      time := { s.time with sec := 0, ns := 0, frac := 0 } }
    s.icuClear.flashTable.nextPhase

/-- The lanes that failed the link test: one half, or both (R13, R14). -/
def linkTest (s : State) (bad : Nat) : State :=
  if bad = 0 then s
  else if bad % 65536 ≠ 0 ∧ bad / 65536 ≠ 0 then s.linkLost
  else s.linkNarrow (if bad % 65536 ≠ 0 then 0 else 16)

/-- D1 ends: OTP read, seal latched, link tested, memory trained; a failure enters Midnight. As D2 begins a lockout restarts
(R375, R343, R339). -/
def dawnD1 (s : State) (ok : Bool) (bad : Nat) : State :=
  if !s.inPhase 1 then s
  else if !ok then s.midnightEnter 8
  else
    let s := (s.wr aDEV_UID_LO Config.devUid).wr aDEV_UID_HI (Config.devUid / 2 ^ 32)
    let s := (s.wr aRING_MAC_LO Config.ringMac).wr aRING_MAC_HI (Config.ringMac / 2 ^ 32 % 2 ^ 16)
    let s := s.sealLatch.linkTest bad
    if s.midnight then s else s.lockRestart.flashQuad.nextPhase

/-- The firmware slot the ROM boots from, and whether it is the second one tried (R344). -/
def bootSlot (s : State) : Option (Nat × Bool) :=
  if s.fwAccept s.sec.first then some (s.sec.first, false)
  else if s.fwAccept (1 - s.sec.first) then some (1 - s.sec.first, true)
  else none

/-- D2 ends: firmware runs, SFC starts the safety process; with no slot accepted Dawn is held (R344, R280, R377). -/
def dawnD2 (s : State) : State :=
  if !s.inPhase 2 then s
  else
    let s := s.flash ([(fkREAD, flBoot), (fkREAD, flSec), (fkREAD, flFw s.sec.first), (fkREAD, flFw (1 - s.sec.first))].take
      (match s.bootSlot with
       | some (_, false) => 3
       | _ => 4))
    match s.bootSlot with
    | none => s.put fPWR_HOLD 1
    | some (i, second) =>
      let s := ((s.put fPWR_HOLD 0).setSec { s.sec with running := i, fallback := second }).fwLoad (s.fwSlot i).image
      let s := if second then s.logFw evFW_SLOT_FAIL kDEVICE 0 [1 - i] else s
      let s := s.setNw { s.nw with sc0Beat := s.nw.tick, sc1Beat := s.nw.tick }
      s.safetyEpoch.nextPhase

/-- D3 has its configuration: records restored, LOG_START, D4 begins with the lamp epoch and the reference buffers
(R375, R420, R425, R107, R195). -/
def dawnConfigured (s : State) : State :=
  let s := (s.put fPWR_HOLD 0).restore
  let s := (s.lifeAcc (lifeDevice + 56) 1).logStart
  let s := { s with dim := { s.dim with epoch := s.grid.tick }, adc := { s.adc with gridAt := [] } }
  (s.refEnable 0xFF).nextPhase

/-- D3 ends: the configuration is loaded, or Dawn is held until one is committed (R369, R375, R227). -/
def dawnD3 (s : State) : State :=
  if !s.inPhase 3 then s
  else if s.get fPWR_HOLD = 2 then (if s.flag fCFG_NONE then s else s.dawnConfigured)
  else
    match s.loadConfig with
    | (s, true) => s.ringStart.dawnConfigured
    | (s, false) => s.ringStart

/-- A pair has completed a round with no NOT_READY result, or has acted under R207 (R375). -/
def pairSettled (s : State) (p : Nat) : Bool :=
  s.flag (fADC_FAULT (2 * p)) || s.flag (fADC_FAULT (2 * p + 1))
    || ([s.conv (2 * p), s.conv (2 * p + 1)].all fun x => x.chk.isSome && x.bg.isSome)

/-- D4 ends once every pair has settled, soft-start has succeeded or ended, and 375 ticks have passed since the last bank close command:
the first rule period begins (R375, R378, R186). -/
def dawnD4 (s : State) : State :=
  let closing := (List.range 8).any fun n => (s.bank n).closed && decide (s.grid.tick < (s.bank n).at_ + 375)
  if !s.inPhase 4 || !s.boost.ended || !(List.range 8).all s.pairSettled || closing then s
  else
    let s := s.nextPhase
    let grid := s.adc.gridAt.map fun p => (p.1, some s.grid.tick)
    { s with rule := { s.rule with start := s.grid.tick }, adc := { s.adc with gridAt := grid } }

-- Power-fail warning (R382)

/-- PFW_N falls: source 35, fault group 21, persistence; it wakes the part from Dusk as a device event, also where it is a selected source,
and ends a test under way (R382, R385, R357). -/
def pfwFall (s : State) : State :=
  if !s.pwr.good then { s with pins := { s.pins with pfwN := false } }
  else
    let s := { s with pins := { s.pins with pfwN := false }, pwr := { s.pwr with pfw := true } }
    let slept := s.pstate == 3
    let s := (((s.lifeAcc (lifeDevice + 24) 1).bistCause brPFW).raise srcPFW).duskExit 3
    let s := ((if slept then s.put fPWR_WAKE 3 else s).fltSet 21 0).persistBegin 2
    -- a CFG_COMMIT that has not finished step 8 ends there
    (s.mbx.cmds.filter fun c => c.phase == .running && c.op == opCFG_COMMIT).foldl (fun s c => s.finishCmd c.id stFAULT 0 []) s

/-- PFW_N rises before power good ends. -/
def pfwRise (s : State) : State :=
  if s.pins.pfwN then s
  else
    let s := { s with pins := { s.pins with pfwN := true }, pwr := { s.pwr with pfwAt := s.nw.tick } }
    if s.pwr.good then s.logFw evPFW_CLEARED kDEVICE 0 [] else s

/-- PFW_N has been high for 1 s: the commands are accepted again, and a snapshot that was stopped is repeated (R382, R419). -/
def pfwOver (s : State) : State :=
  if !s.pins.pfwN || !s.pwr.pfw || decide (s.nw.tick < s.pwr.pfwAt + tps) then s
  else
    let s := { s with pwr := { s.pwr with pfw := false } }
    let s := s.fltClr 21
    if s.life.snapStopped then s.snapshot else s

-- Dusk (R383-R387)

/-- A CFG_COMMIT, BIST_RUN or TRIM_RELOAD runs (R383, R394). -/
def jobRuns (s : State) : Bool :=
  s.bist.active || s.adc.reload.isSome || s.cfg.wait.isSome
    || s.mbx.cmds.any fun c => (c.phase == .running || c.phase == .long) && (c.op == opCFG_COMMIT || c.op == opBIST_RUN || c.op == opTRIM_RELOAD)

/-- A write of SYS_PWRCTL (R383, R386). -/
def pwrCtl (s : State) (key : Nat) : State :=
  if key = 0xD5 then (if s.pstate = 1 then s.putFlag fPWR_DUSK_PEND true else s)
  else if key = 0xCA then s.putFlag fPWR_DUSK_PEND false
  else if key = 0x5E then s.duskExit 1
  else s

/-- A converter's work stops in Dusk; pair P7 keeps its housekeeping (R212). -/
def duskConv (s : State) (k : Nat) : State :=
  let x := s.conv k
  s.setConv k { x with
    holds := if k < 14 then [] else underway x, hk := if k < 14 then [] else x.hk, cur := if k < 14 then none else x.cur,
    reg := x.reg.stopped, inj := x.inj.stopped }

/-- Step 4 of the entry: converters, references, rules, loops, ring and cores (R384, R212). -/
def duskBlocks (s : State) : State :=
  let s := (List.range 16).foldl duskConv s
  let s := s.wr aADC_REFCTL ((s.rd aADC_REFCTL).toNat % 65536 / 32768 * 32768 + (s.rd aADC_REFCTL).toNat % 256 / 128 * 128)
  let s := (List.range 7).foldl (fun s p => s.putFlag (fADC p 0) false) s
  let stop := fun (p : Nat × LoopSlot) => if p.1 = 0 then p else (p.1, { p.2 with open_ := false, res := none })
  let s := { s with
    rule := { s.rule with running := false, late := none }
    res := { s.res with running := false, ready := false }
    loops := { s.loops with slots := s.loops.slots.map stop }
    icu := { s.icu with waiting := [(0, true), (1, true), (2, true)], window := s.icu.window.filter fun p => p.1 == 3 } }
  (((s.sfOnset 0 false).sfOnset 1 false).mastersGone).capPause

/-- Dusk entry (R383): it begins at tick 0 of a free rule period; once the commit of that period has latched the Dusk set and the
commands in flight have run to their end, the part sleeps. -/
def duskEntry (s : State) : State :=
  if s.flag fNW_SC0_LOST then s
  else if s.pstate = 2 then
    if s.pwr.latched && s.mbx.cmds.all fun c => c.phase == .done then ((s.foldSpan.put fPWR_STATE 3).duskBlocks).refreshIcu else s
  else if !s.flag fPWR_DUSK_PEND || s.pstate != 1 || s.jobRuns || s.flag fMORN_RUNNING || !s.periodBegins then s
  else
    let s := ((s.putFlag fPWR_DUSK_PEND false).putFlag fPWR_ABORTED false).put fPWR_STATE 2
    { s with pwr := { s.pwr with latched := false } }

/-- A device event, or a source that rises and is selected, starts Dusk exit (R385, R357). -/
def duskWake (s : State) (src : Option Nat) : State :=
  match src with
  | none => s.duskExit 3
  | some n => s.raise n

/-- Steps 2 and 3 of the exit: blocks resume, the records of Dusk are written, a persistence that fell due is made
(R386, R212, R425, R418). -/
def duskResume (s : State) : State :=
  if s.pstate ≠ 4 ∨ s.pwr.resumed then s
  else
    -- the time of Dusk stays in the accumulators for the next fold
    let s := s.foldSpan
    let s := { s with pwr := { s.pwr with resumed := true, mornAt := if s.pwr.mornWait then s.grid.tick else s.pwr.mornAt } }
    let s := (s.refEnable 0x7F).capUnpause
    let s := if s.logOpen then s.flushNw else s
    let s := if s.life.due then s.persistBegin 1 else s
    { s with rule := { s.rule with start := s.grid.tick } }.refreshIcu

-- Morning check (R391-R395)

/-- The comparator has reached a fire time that the check has not answered for (R272, R391). -/
def mornFalls (s : State) : Bool := decide (s.pwr.mornDay < s.mornCount)

/-- The check falls due or has waited: it begins, or waits; one that still waits in Dusk when the next falls due is skipped
(R391, R394, R395). -/
def mornFire (s : State) : State :=
  let due := s.mornFalls
  if s.midnight || !s.pwr.good || !s.flag fSYSMORN_EN || !s.flag fTIME_SET || s.flag fMORN_RUNNING || !(due || s.pwr.mornWait) then s
  else
    let again := due && s.pwr.mornWait && s.inDusk
    let from_ := if s.pwr.mornWait && !due then s.pwr.mornAt else s.grid.tick
    let s := { s with pwr := { s.pwr with mornDay := if due then s.mornCount else s.pwr.mornDay } }
    if s.pstate ≠ 1 || s.jobRuns || s.flag fPWR_DUSK_PEND then
      let s := if again then s.put fMORN_RESULT 3 else s
      { s.putFlag fMORN_DEFERRED true with pwr := { s.pwr with mornWait := true, mornAt := from_ } }
    else
      let s := ((s.putFlag fMORN_DEFERRED false).putFlag fMORN_RUNNING true).put fMORN_BANKFAIL 0
      { s with pwr := { s.pwr with
        mornWait := false, mornAt := s.grid.tick, mornBank := 0, mornOpen := [], probe := [], mornLatched := 0 } }

/-- The probe reaches the bank's channels: it is closed, or a line of a scan group that runs, which closes in its slot (R392, log
entry 52). -/
def mornReaches (s : State) (n : Nat) : Bool := if s.scanned n then s.flag fMTX_RUN else s.flag (fBANK_CLOSED n)

/-- The dark-channel probe of a bank: two pulses for each dark channel of an enabled aspect while the bank is closed (R392). -/
def mornProbe (s : State) (n : Nat) : State :=
  if !s.flag fSYSMORN_PROBE || !s.mornReaches n then s
  else
    let cs := (s.aspList.flatMap fun p => p.2).filter fun c => c / 16 == n && !(s.chan c).lit && !(s.chan c).comm.lit
    { s with pwr := { s.pwr with probe := cs.foldl (fun t c => tabSet (fun _ => 0) t c 2) s.pwr.probe } }

/-- The switch test of a bank, which ends its probe: a NORMAL bank opens, one held open and an UNUSED one are read back only, SCAN is not
tested (R393). -/
def mornSwitch (s : State) (n : Nat) : State :=
  let s := { s with pwr := { s.pwr with probe := s.pwr.probe.filter fun p => p.1 / 16 != n } }
  let mode := s.get (fBANK_MODE n)
  if !s.flag fSYSMORN_BANKTEST || mode == 2 then s
  else
    let held := s.flag (fBANK_STRAY n) || s.flag (fBANK_OC n)
    let s := if mode = 1 ∧ !held then s.bankOpen n else s
    { s with pwr := { s.pwr with mornOpen := tabSet (fun _ => false) s.pwr.mornOpen n true } }

/-- The next part of the check may begin: bank n's probe from the fire time plus n x 10 ms on, its switch test after its probe (R391,
R392); the slots of a check that has waited count from its beginning (DESIGN CHOICE, log entry 81). -/
def mornReady (s : State) : Bool :=
  let b := s.pwr.mornBank
  decide (b < 16)
    && (if b % 2 = 0 then decide (s.pwr.mornAt + b / 2 * 250000 ≤ s.grid.tick)
        else !s.mornReaches (b / 2) || (List.range 16).all fun i => tabGet (fun _ => 0) s.pwr.probe (16 * (b / 2) + i) == 0)

/-- The next part of the check: the probe of a bank, then its switch test (R391). -/
def mornNext (s : State) : State :=
  let b := s.pwr.mornBank
  if !s.flag fMORN_RUNNING || !s.mornReady then s
  else
    let s := { s with pwr := { s.pwr with mornBank := b + 1 } }
    (if b % 2 = 0 then s.mornProbe (b / 2) else s.mornSwitch (b / 2)).mornEnd

/-- A deferred check has waited 10 minutes (R394). -/
def mornSkip (s : State) : State :=
  if !s.pwr.mornWait || s.inDusk || decide (s.grid.tick < s.pwr.mornAt + 600 * tps) then s
  else { (s.putFlag fMORN_DEFERRED false).put fMORN_RESULT 3 with pwr := { s.pwr with mornWait := false } }

end State

-- Commands

/-- POWER_GOOD with the level of the MODE_3032 strap (R374, R305). -/
def execPowerGood (strap : Bool) (s : State) : Res := .next (s.powerGood strap)

/-- POWER_GOOD_END (R374). -/
def execPowerGoodEnd (s : State) : Res := if s.pwr.good then .next s.powerEnd else .next s

/-- RESET_N_LOW for at least 1 µs (R381). -/
def execResetNLow (s : State) : Res := .next s.resetLow

/-- TEST_ENTRY: a test-entry instruction in the TAP (R342). -/
def execTestEntry (s : State) : Res := .next s.testEntry

/-- POWER_CYCLE: VIO falls below its power-on-reset threshold (R374, R461). -/
def execPowerCycle (s : State) : Res := .next s.powerCycle

/-- PFW_N_FALL (R382). -/
def execPfwNFall (s : State) : Res := .next s.pfwFall

/-- PFW_CLEARED (R382). -/
def execPfwCleared (s : State) : Res := .next s.pfwRise

/-- PFW_HIGH_1S (R382). -/
def execPfwHigh1s (s : State) : Res := .next s.pfwOver

/-- XTAL25_START_TIMEOUT (R375). -/
def execXtal25StartTimeout (s : State) : Res := .next s.xtalTimeout

/-- DAWN_D0_END (R375). -/
def execDawnD0End (s : State) : Res := .next s.dawnD0

/-- DAWN_D1_END: OTP and memory training good, and the lanes that failed the link test (R375). -/
def execDawnD1End (ok : Bool) (bad : BitVec 32) (s : State) : Res := .next (s.dawnD1 ok bad.toNat)

/-- DAWN_D2_END (R375, R377). -/
def execDawnD2End (s : State) : Res := .next s.dawnD2

/-- DAWN_D3_END (R375, R369). -/
def execDawnD3End (s : State) : Res := .next s.dawnD3

/-- DAWN_D4_END (R375, R378). -/
def execDawnD4End (s : State) : Res := .next s.dawnD4

/-- DAWN_LATE: 100 ms after the start of D5 (R379). -/
def execDawnLate (s : State) : Res :=
  if s.inPhase 5 && s.dawnOver then .next { s with pwr := { s.pwr with late := true } } else .next s

/-- DUSK_ENTRY (R383). -/
def execDuskEntry (s : State) : Res := .next s.duskEntry

/-- DUSK_WAKE_EVENT: a device event, or a selected source by its number (R385, R357). -/
def execDuskWakeEvent (src : Option (BitVec 8)) (s : State) : Res := .next (s.duskWake (src.map (·.toNat)))

/-- DUSK_EXIT_RESUME (R386). -/
def execDuskExitResume (s : State) : Res := .next s.duskResume

/-- MORNING_CHECK_FIRE (R391, R394). -/
def execMorningCheckFire (s : State) : Res := .next s.mornFire

/-- MORNING_BANK_START: the probe of the next bank, then its switch test (R392, R393). -/
def execMorningBankStart (s : State) : Res := .next s.mornNext

/-- MORNING_CHECK_SKIP (R394). -/
def execMorningCheckSkip (s : State) : Res := .next s.mornSkip

end Sys2Proof.Machine
end

