-- ==== Sys2Proof/Machine/HostIf.lean ====
section
/-! DEFINITION. The host window: what a word reads, what a write does, the QSPI slave, the paged memory window, and the register
writes that are commands of their own (R305-R313, R331, R485-R494). -/

namespace Sys2Proof.Machine

/-- An address lies in the paged memory window (R485). -/
def inWindow (off : Nat) : Bool := decide (0x40000 ≤ off ∧ off < 0x80000)

/-- The bits of LOOP_SHD words that are not reserved, for a slot from 4 on. -/
def shadowMask (w x : Nat) : Nat :=
  match w with
  | 0 => bitsOf x 0 3 + bitsOf x 4 22 * 16
  | 6 => withBits x 10 1 0
  | 7 => bitsOf x 0 10 + bitsOf x 27 5 * 2 ^ 27
  | _ => x % 2 ^ 32

namespace State

-- What a register reads (R489, R490)

/-- DEV_BANK_STAT: of a line of the scan group CLOSED reads 1 from the slot tick at which the line has closed (R78, R158). -/
def bankStat (s : State) : Nat :=
  let w := (s.rd aDEV_BANK_STAT).toNat
  if s.inSlot && decide (s.grid.tick < s.slotAt + 475) then
    (s.slotLines (s.mtx.slot - 1)).foldl (fun w l => withBits w (4 * (s.mtxFirst + l)) 1 0) w
  else w

/-- CHS_DRVc.SCALE in use: of a column that of the LED in its slot from slot tick 475 on (R160). -/
def scaleNow (s : State) (c : Nat) : Nat :=
  match s.scanned (c / 16), s.slotLed c with
  | true, some e => if s.slotAt + 475 ≤ s.grid.tick then (s.ledOf e).scale else s.get (fDRV_SCALE c)
  | _, _ => s.get (fDRV_SCALE c)

/-- DEV_BIST_STAT.PROGRESS: regions, slices, or time of the block under test, in % (R396, R403, R405). -/
def bistProgress (s : State) : Nat :=
  match s.bist.cur with
  | none => 0
  | some b =>
    let (n, e) := if bistRegions b ≠ 0 then (s.bist.regions, bistRegions b)
      else if b = bkRULEENG then (40 - s.bist.slices, 40)
      else (s.grid.tick - s.bist.start, bistTicks 0 b)
    if n < e then n * 100 / e else 100

/-- A word of the ICU host view (R348). -/
def icuValue (s : State) (off : Nat) : Nat :=
  let w := off / 4 % 8
  if off < 0x08060 then (s.viewPend 3 w).toNat
  else if off < 0x080A0 then (s.viewMask 3 w).toNat
  else if off < 0x080C0 then (s.viewAct 3 w).toNat
  else if off < 0x080E0 then (tabGet (fun _ => (0 : Word)) s.icu.dlv w).toNat
  else if off = aICU_LOWEST then s.lowest 3
  else if off = aICU_HSTAT then
    8 * boolNat s.pins.hostSleep + 4 * boolNat (tabGet (fun _ => false) s.icu.window 3)
      + 2 * boolNat (tabGet (fun _ => false) s.icu.insvc 3) + boolNat (!s.pins.hostIrqN)
  else (s.rd off).toNat

/-- A word of the unprivileged view (R489). -/
def unprivValue (s : State) (c off : Nat) : Nat :=
  let k := s.copyOf c
  if off = aDEV_GRID_TICK then s.tick32
  else if off = aDEV_SEC_STAT then s.secStat
  else if off = aASP_SUM then
    withBits (s.rd off).toNat 0 2 (2 * boolNat s.readyInhibit + boolNat (s.pins.aspectReady))
  else if off = aDEV_BIST_STAT then withBits (s.rd off).toNat 16 8 s.bistProgress
  else if off = aDEV_BANK_STAT then s.bankStat
  else if off = aDEV_NW_STAT then withBits (s.rd off).toNat fNW_SC0_RST.lo fNW_SC0_RST.width s.sc0Restarts
  else if off = aDEV_MEMPAGE then k.page
  else if 0x02000 ≤ off ∧ off < 0x02800 ∧ off % 16 = 0 then
    let c := (off - 0x02000) / 16
    let w := withBits (s.rd off).toNat 14 1 (boolNat (s.sinkOn c))
    withBits w (fDRV_SCALE c).lo (fDRV_SCALE c).width (s.scaleNow c)
  else if off = aTIME_NS then k.timeLatch.getD 0 0
  else if off = aTIME_SEC_LO then k.timeLatch.getD 1 0
  else if off = aTIME_SEC_HI then k.timeLatch.getD 2 0
  else if off = aTIME_STAT then withBits (s.rd off).toNat 24 8 (k.timeLatch.getD 3 4)
  else if off = aTIME_GRIDNS then s.gridNs
  else if off = aMBX_STAT then s.mbxStat
  else if 0x04020 ≤ off ∧ off < 0x04030 then s.inflight (off / 4 % 4)
  else if off = aMBX_RINGSTAT then s.ringStat
  else if 0x08000 ≤ off ∧ off < 0x080EC then s.icuValue off
  else (s.rd off).toNat

/-- A word of the privileged view (R490). -/
def privValue (s : State) (c off : Nat) : Nat :=
  let k := s.copyOf c
  if off = aOBS_IDX then k.obsIdx
  else if 0x15010 ≤ off ∧ off < 0x15030 then k.obsLatch.getD ((off - 0x15010) / 4) 0
  else if off = aRULE_IDX then k.ruleIdx
  else if 0x16010 ≤ off ∧ off < 0x16024 then k.ruleLatch.getD ((off - 0x16010) / 4) 0
  else if off = aRING_LD_IDX then k.ldIdx
  else if 0x19110 ≤ off ∧ off < 0x19130 then k.ldLatch.getD ((off - 0x19110) / 4) 0
  else if off = aBIST_IDX then k.bistIdx
  else if 0x1C010 ≤ off ∧ off < 0x1C020 then k.bistLatch.getD ((off - 0x1C010) / 4) 0
  else if off = aSEC_FW then s.secFw
  else (s.rd off).toNat

/-- A word of the mailbox region: queues and payload buffers; its reserved parts read 0 (R312). -/
def ramValue (s : State) (off : Nat) : Nat :=
  if off < 0x22800 ∨ (0x24000 ≤ off ∧ off < 0x25000) ∨ 0x30000 ≤ off then ofLeBytes (s.ramRead off 4) else 0

/-- What a register offset below the memory window reads, before the effect of the read. -/
def hostValue (s : State) (c off : Nat) : Nat :=
  if off < 0x10000 then s.unprivValue c off
  else if off < 0x20000 then s.privValue c off
  else if off < 0x40000 then s.ramValue off
  else 0

/-- A read of BIST_DATA0 by a context (R190, R491). -/
def bistDataRead (s : State) (c : Nat) : State :=
  let k := s.copyOf c
  let b := bitsOf k.bistIdx 0 6
  s.setCopy c { k with
    bistLatch := if b ≤ 0x21 then tabGet (fun _ => []) s.bist.data b else [],
    bistIdx := autoInc k.bistIdx 6 0x21 }

/-- What a read does before its value is taken: the latches of the four windows and of TIME_NS (R190, R278). -/
def hostLatch (s : State) (c off : Nat) : State :=
  if off = aOBS_DATA 0 then s.obsDataRead c
  else if off = aRULE_DATA 0 then s.ruleDataRead c
  else if off = 0x19110 then s.ldDataRead c
  else if off = aBIST_DATA 0 then s.bistDataRead c
  else if off = aTIME_NS then s.timeRead c
  else s

/-- What a read does after its value is taken: the RC fields (R5, R222, R357). -/
def hostClear (s : State) (off : Nat) : State :=
  if off = aICU_NWSTAT then s.nwstatRead
  else if 0x18900 ≤ off ∧ off < 0x18B00 ∧ off % 16 = 12 then s.putFlag (fLST ((off - 0x18900) / 16) 3 2 1) false
  else s

/-- A read of a register offset: its value and the state after it. -/
def hostRead (s : State) (c off : Nat) : Nat × State :=
  let s := s.hostLatch c off
  (s.hostValue c off, s.hostClear off)

-- What a write does (R486, R489, R490)

/-- The commands that use a payload buffer: those in flight give a free result, those that wait in a queue too (R315). -/
def soilBuffer (s : State) (b : Nat) : State :=
  let uses := fun (c : Cmd) => c.ctx == 0 && c.pbufValid && c.pbuf == b && decide (0 < c.plen + c.rlen)
  let s := s.setMbx { s.mbx with cmds := s.mbx.cmds.map fun c => if uses c then { c with taint := true } else c }
  let queued := fun (urgent : Bool) (aH aT depth base : Nat) =>
    let h := s.ptr aH
    ((List.range ((s.ptr aT + 65536 - h) % 65536)).map fun i => (h + i) % 65536).filter fun p =>
      uses (parseDesc 0 0 urgent (s.ramRead (base + 64 * (p % depth)) 64) [] 0 0)
  let more := (queued true aMBX_SQU_HEAD aMBX_SQU_TAIL 32 0x22000).map (fun p => (true, p))
    ++ (queued false aMBX_SQN_HEAD aMBX_SQN_TAIL 128 0x20000).map (fun p => (false, p))
  s.setMbx { s.mbx with soiled := s.mbx.soiled ++ more.filter fun p => !s.mbx.soiled.contains p }

/-- A write into the mailbox region: submission queues and payload buffers (R312, R315). -/
def ramStore (s : State) (off x : Nat) : State :=
  if off < 0x22800 then s.ramWrite off (leBytes 4 x)
  else if 0x30000 ≤ off then (s.ramWrite off (leBytes 4 x)).soilBuffer ((off - 0x30000) / 1024)
  else s

/-- A write of DEV_MEMPAGE: the page, and every line and fetch of the context dropped (R492, R493). -/
def memPage (s : State) (c x : Nat) : State :=
  let k := s.copyOf c
  s.setCopy c { k with page := x % 256, lines := [], fetch := k.fetch.map fun f => (f.1, true) }

/-- A write of a word of the ICU host view (R348, R350, R351, R356). -/
def icuStore (s : State) (off x : Nat) : State :=
  let w := off / 4 % 8
  let v := BitVec.ofNat 32 x
  if off < 0x08020 then s
  else if off < 0x08040 then s.pendWrite 3 w v
  else if off < 0x08060 then s.pendClear 3 w v
  else if off < 0x08080 then s.maskWrite 3 w v true
  else if off < 0x080A0 then s.maskWrite 3 w v false
  else if off = aICU_HMOD then s.wr off (x % 1024)
  else s

/-- A write of MBX_STAT clears its error bits (R5). -/
def mbxStatClear (s : State) (x : Nat) : State :=
  let clr := fun (s : State) (f : Fld) => if bitOf x f.lo then s.putFlag f false else s
  clr (clr (clr s fMBX_ACCESS_ERR) fMBX_TAIL_BAD) fMBX_DUP_TAG

/-- A write into the unprivileged view (R489). -/
def unprivStore (s : State) (c off x : Nat) : State :=
  if off = aDEV_MEMPAGE then s.memPage c x
  else if 0x01400 ≤ off ∧ off < 0x01580 then s.aspReqWrite ((off - 0x01400) / 4) x
  else if 0x01780 ≤ off ∧ off < 0x01800 then s.aspVarWrite ((off - 0x01780) / 4) x
  else if 0x01800 ≤ off ∧ off < 0x02000 then s.wr off x
  else if off = aMBX_SQN_TAIL then s.doorbell false x
  else if off = aMBX_SQU_TAIL then s.doorbell true x
  else if off = aMBX_CQ_HEAD then s.cqHead x
  else if off = aMBX_STAT then s.mbxStatClear x
  else if off = aMBX_RESET then s.mbxReset (x % 256)
  else if off = aEVT_RDSEQ then s.evtRdseq x
  else if off = aEVT_THRESH then s.evtThresh x
  else if 0x08000 ≤ off ∧ off < 0x080EC then s.icuStore off x
  else s

/-- A write of a loop shadow word: slots 1-3 take none, slot 0 only the fields it accepts (LOOP_SHD). -/
def shadowStore (s : State) (off x : Nat) : State :=
  let n := (off - 0x18500) / 32
  let w := off / 4 % 8
  let old := (s.rd off).toNat
  if n = 0 then
    (match w with
    | 0 => s.wr off (withBits (withBits old 0 3 x) 4 4 (x / 16))
    | 1 | 2 | 3 => s.wr off x
    | 5 => s.wr off (withBits old 0 16 x)
    | _ => s)
  else if n < 4 then s
  else s.wr off (shadowMask w x)

/-- A write of ADC_SWTRIG (R201). -/
def softTrigger (s : State) (x : Nat) : State :=
  let s : State := (List.range 16).foldl (fun s k => if bitOf x (16 + k) && s.injTrigOf k == 1 then s.trigger k true else s) s
  (List.range 16).foldl (fun s k => if bitOf x k && s.regTrigOf k == 1 then s.trigger k false else s) s

/-- A write of an index register of a context, its reserved bits cleared (R488, R491). -/
def indexStore (s : State) (c off x : Nat) : State :=
  let k := s.copyOf c
  let top := bitsOf x 30 2 * 2 ^ 30
  if off = aOBS_IDX then s.setCopy c { k with obsIdx := top + bitsOf x 24 4 * 2 ^ 24 + bitsOf x 0 10 }
  else if off = aRULE_IDX then s.setCopy c { k with ruleIdx := top + bitsOf x 0 11 }
  else if off = aRING_LD_IDX then s.setCopy c { k with ldIdx := top + bitsOf x 0 7 }
  else s.setCopy c { k with bistIdx := bitsOf x 31 1 * 2 ^ 31 + bitsOf x 0 6 }

/-- A write into the privileged view; configuration registers take none (R490, R486). -/
def privStore (s : State) (c off x : Nat) : State :=
  if off = aSYS_PWRCTL then s.pwrCtl (x % 256)
  else if off = aSYS_FLT_CLR then s.fltClrWrite x
  else if off = aSUP_FLT_CLR then s.supFltClr x
  else if off = aSUP_SIG_CMD then s.sigCmd x
  else if off = aMTX_FLT_CLR then
    let s := if bitOf x 11 then s.mtxClear x true else s
    if bitOf x 10 then s.mtxClear x false else s
  else if off = aOBS_IDX ∨ off = aRULE_IDX ∨ off = aRING_LD_IDX ∨ off = aBIST_IDX then s.indexStore c off x
  else if off = aADC_REFCTL then s.refEnable x
  else if off = aADC_SWTRIG then s.softTrigger x
  else if off = aLOOP_SWAP then s.wr off (s.rd off ||| BitVec.ofNat 32 x).toNat
  else if 0x18500 ≤ off ∧ off < 0x18900 then s.shadowStore off x
  else if off = aSAFE_SWSTOP then s.wr off (x % 256)
  else if off = aLIFE_CMD then s.lifeCmd x
  else if off = aSEC_PWSET 0 then s.pwSet 0 x
  else if off = aSEC_PWSET 1 then s.pwSet 1 x
  else if off = aSEC_PWCMD then s.pwCmd c (x % 256)
  else if off = aSEC_ROLLBACK then s.rollback (x % 256)
  else if off = aSEC_LOCK then s.fieldLockSet c x
  else s

/-- An accepted write of a word below the memory window. -/
def hostWrite (s : State) (c off x : Nat) : State :=
  if off < 0x10000 then s.unprivStore c off x
  else if off < 0x20000 then s.privStore c off x
  else if off < 0x40000 then s.ramStore off x
  else s

-- The QSPI slave (R307-R311)

/-- VALID: the window answers from the end of D1 on, unless the link is lost (R310). -/
def hostValid (s : State) : Bool := s.pwr.good && decide (2 ≤ s.get fPWR_PHASE) && !s.link.lost

/-- The QSPI slave serves the window (R305, R310). -/
def qspiUp (s : State) : Bool := !s.spi.mode && s.hostValid

/-- A QSPI access breaks R307-R310. -/
def accessErr (s : State) : State := s.mbxErr fMBX_ACCESS_ERR

/-- The status byte (R310). -/
def statusByte (s : State) (valid : Bool) : Byte :=
  BitVec.ofNat 8 (128 * boolNat valid + 64 * boolNat (s.flag fMBX_ACCESS_ERR) + 32 * boolNat (s.elevated 0))

/-- A word write of a context, with the privilege its transaction started with: privileged offsets (R309, R331), aspect requests
and host variables in Midnight (R330), the read-only memory window (R492). -/
def wordWrite (s : State) (c off x : Nat) (priv : Bool) : State :=
  let refuse := if c = 0 then s.accessErr else s
  if isPrivileged off && !priv then refuse
  else if s.midnight && decide (0x01000 ≤ off ∧ off < 0x02000) then refuse
  else if inWindow off then refuse
  else (if isPrivileged off then s.touch c else s).hostWrite c off x

/-- A word write of a context outside a burst; QSPI writes need the slave (R310). -/
def regWrite (s : State) (c off x : Nat) : State :=
  if c = 0 && !s.qspiUp then s else s.wordWrite c off x (s.elevated c)

/-- A read of a register word of a context: 0 for a privileged offset without elevation, with ACCESS_ERR over QSPI (R309). -/
def wordRead (s : State) (c off : Nat) (priv : Bool) : Nat × State :=
  if isPrivileged off && !priv then (0, if c = 0 then s.accessErr else s)
  else (if isPrivileged off then s.touch c else s).hostRead c off

/-- An address that breaks R308. -/
def badAddr (a : Nat) : Bool := decide (0x100000 ≤ a) || a % 4 != 0

/-- The words of a burst write, the address advancing by 4 (R308). -/
def burstWrite (s : State) (priv : Bool) (off : Nat) : List (BitVec 32) → State
  | [] => s
  | w :: ws => (s.wordWrite 0 off w.toNat priv).burstWrite priv (off + 4) ws

/-- A write transaction with its whole words and, at its end, a partial word (R307, R308). -/
def qspiWrite (s : State) (addr : Nat) (ws : List (BitVec 32)) (part : Bool) : State :=
  let s := { s with bus := [] }
  if !s.qspiUp then s
  else if badAddr addr then s.accessErr
  else
    let s := s.burstWrite (s.elevated 0) addr ws
    if part then s.accessErr else s

-- The memory window (R492, R493)

/-- The memory-die address that a context sees at a window offset (R492). -/
def dieAddr (s : State) (c off : Nat) : Nat := (s.copyOf c).page * 0x40000 + (off - 0x40000)

/-- A word of pages 240-255 outside the report: it reads 0 without a fetch (R492). -/
def noFetch (a : Nat) : Bool := decide (0x3C00000 ≤ a ∧ a < 0x3FF0000)

/-- The 64 bytes of a line as a fetch returns them; the report lies at 0x3FF0000 (R492, R372). -/
def dieLine (s : State) (a : Nat) : List Byte :=
  if 0x3FF0000 ≤ a then ((s.cfg.report.drop (a - 0x3FF0000)).take 64 ++ List.replicate 64 0).take 64
  else if 0x3C00000 ≤ a then List.replicate 64 0
  else s.memRead a 64

/-- A context's buffered line. -/
def lineOf (s : State) (c a : Nat) : Option Line := (s.copyOf c).lines.find? fun l => l.addr == a / 64 * 64

/-- A line is fetched and replaces the least recently fetched of four (R493). -/
def fetchLine (s : State) (c a : Nat) : State :=
  let k := s.copyOf c
  let ls := (k.lines.filter fun l => l.addr != a / 64 * 64) ++ [⟨a / 64 * 64, s.dieLine (a / 64 * 64)⟩]
  s.setCopy c { k with lines := if 4 < ls.length then ls.drop 1 else ls }

/-- A miss starts a fetch of the line, unless one of it is in progress (R310). -/
def fetchStart (s : State) (c a : Nat) : State :=
  let k := s.copyOf c
  if k.fetch.contains (a / 64 * 64, false) then s else s.setCopy c { k with fetch := k.fetch ++ [(a / 64 * 64, false)] }

/-- The word of a line at a memory-die address. -/
def lineWord (s : State) (c a : Nat) : Nat :=
  match s.lineOf c a with
  | some l => ofLeBytes ((l.bytes.drop (a % 64)).take 4)
  | none => 0

/-- A word of a QSPI read burst; `line` is the line that its first word lies in. Words of the window beyond that line read all ones
and set ACCESS_ERR (R310). -/
def burstWord (s : State) (priv : Bool) (line : Option Nat) (off : Nat) : Nat × State :=
  if inWindow off then
    let a := s.dieAddr 0 off
    if line = some (a / 64 * 64) then (if noFetch a then 0 else s.lineWord 0 a, s) else (0xFFFFFFFF, s.accessErr)
  else s.wordRead 0 off priv

/-- The data words of a read burst, as bytes. -/
def burstRead (s : State) (priv : Bool) (line : Option Nat) (off : Nat) : Nat → List Byte × State
  | 0 => ([], s)
  | n + 1 =>
    let (x, s) := s.burstWord priv line off
    let (bs, s) := s.burstRead priv line (off + 4) n
    (leBytes 4 x ++ bs, s)

/-- A read of `n` words: status byte, then data; with VALID 0 every data byte is 0xFF and nothing else happens (R307-R310). -/
def qspiRead (s : State) (addr n : Nat) : State :=
  let s := { s with bus := [] }
  let blank := fun (s : State) => { s with bus := s.statusByte false :: List.replicate (4 * n) 0xFF }
  if s.spi.mode then s
  else if !s.hostValid then blank s
  else if badAddr addr then s.accessErr
  else
    let a := s.dieAddr 0 addr
    if inWindow addr && !noFetch a && (s.lineOf 0 a).isNone then blank (s.fetchStart 0 a)
    else
      let st := s.statusByte true
      let (bs, s) := s.burstRead (s.elevated 0) (if inWindow addr then some (a / 64 * 64) else none) addr n
      { s with bus := st :: bs }

/-- The STATUS instruction: the status byte, and ACCESS_ERR cleared (R307). -/
def qspiStatus (s : State) : State :=
  if s.spi.mode then { s with bus := [] }
  else
    let s := { s with bus := [s.statusByte s.hostValid] }
    if s.hostValid then s.putFlag fMBX_ACCESS_ERR false else s

/-- Any other instruction (R307). -/
def qspiInvalid (s : State) : State :=
  let s := { s with bus := [] }
  if s.qspiUp then s.accessErr else s

/-- A transaction by its instruction byte: the writes 0x02 and 0x32, the reads 0x03 and 0x3B, STATUS 0x05, any other (R307). -/
def qspiTransaction (s : State) (inst addr : Nat) (ws : List (BitVec 32)) (part : Bool) (n : Nat) : State :=
  if inst = 0x02 ∨ inst = 0x32 then s.qspiWrite addr ws part
  else if inst = 0x03 ∨ inst = 0x3B then s.qspiRead addr n
  else if inst = 0x05 then s.qspiStatus
  else s.qspiInvalid

/-- The oldest fetch of a context completes; one that a page change overtook is discarded (R310, R493). -/
def fetchDone (s : State) (c : Nat) : State :=
  let k := s.copyOf c
  match k.fetch with
  | [] => s
  | (a, gone) :: rest =>
    let s := s.setCopy c { k with fetch := rest }
    if gone then s else s.fetchLine c a

/-- The oldest line of a context is dropped (R493). -/
def lineAge (s : State) (c : Nat) : State :=
  let k := s.copyOf c
  s.setCopy c { k with lines := k.lines.drop 1 }

/-- A read of a register by a context outside a burst. -/
def regRead (s : State) (c off : Nat) : State :=
  if c = 0 && !s.qspiUp then s else (s.wordRead c off (s.elevated c)).2

end State

-- Commands: transactions

/-- QSPI_WRITE_S: address, whole words, a partial word at the end (R307). -/
def execQspiWriteS (addr : BitVec 24) (ws : List (BitVec 32)) (part : Bool) (s : State) : Res :=
  .next (s.qspiTransaction 0x02 addr.toNat ws part 0)

/-- QSPI_WRITE_Q: the same in four lanes (R307). -/
def execQspiWriteQ (addr : BitVec 24) (ws : List (BitVec 32)) (part : Bool) (s : State) : Res :=
  .next (s.qspiTransaction 0x32 addr.toNat ws part 0)

/-- QSPI_READ_S: address, words clocked (R310). -/
def execQspiReadS (addr : BitVec 24) (n : Nat) (s : State) : Res := .next (s.qspiTransaction 0x03 addr.toNat [] false n)

/-- QSPI_READ_Q: the same in four lanes (R310). -/
def execQspiReadQ (addr : BitVec 24) (n : Nat) (s : State) : Res := .next (s.qspiTransaction 0x3B addr.toNat [] false n)

/-- QSPI_STATUS (R307). -/
def execQspiStatus (s : State) : Res := .next (s.qspiTransaction 0x05 0 [] false 0)

/-- QSPI_INVALID_INSTRUCTION (R307). -/
def execQspiInvalidInstruction (s : State) : Res := .next s.qspiInvalid

/-- MEMWIN_FETCH_DONE of a context (R493). -/
def execMemwinFetchDone (c : Fin 9) (s : State) : Res := .next (s.fetchDone c.val)

/-- LINE_BUFFER_AGE of a context (R493). -/
def execLineBufferAge (c : Fin 9) (s : State) : Res := .next (s.lineAge c.val)

-- Commands: register accesses of a context, 0 QSPI, 1-8 ring

/-- OBS_DATA_READ (R190, R331). -/
def execObsDataRead (c : Fin 9) (s : State) : Res := .next (s.regRead c.val (aOBS_DATA 0))

/-- RULE_DATA_READ (R190, R331). -/
def execRuleDataRead (c : Fin 9) (s : State) : Res := .next (s.regRead c.val (aRULE_DATA 0))

/-- RING_LD_DATA_READ (R190, R331). -/
def execRingLdDataRead (c : Fin 9) (s : State) : Res := .next (s.regRead c.val 0x19110)

/-- TIME_NS_READ (R278). -/
def execTimeNsRead (c : Fin 9) (s : State) : Res := .next (s.regRead c.val aTIME_NS)

/-- BIST_DATA_READ (R190). -/
def execBistDataRead (c : Fin 9) (s : State) : Res := .next (s.regRead c.val (aBIST_DATA 0))

/-- DEV_MEMPAGE_WRITE (R493). -/
def execDevMempageWrite (c : Fin 9) (x : BitVec 32) (s : State) : Res := .next (s.regWrite c.val aDEV_MEMPAGE x.toNat)

/-- SQN_DOORBELL (R313). -/
def execSqnDoorbell (c : Fin 9) (x : BitVec 32) (s : State) : Res := .next (s.regWrite c.val aMBX_SQN_TAIL x.toNat)

/-- SQU_DOORBELL (R313). -/
def execSquDoorbell (c : Fin 9) (x : BitVec 32) (s : State) : Res := .next (s.regWrite c.val aMBX_SQU_TAIL x.toNat)

/-- CQ_HEAD_WRITE (R316). -/
def execCqHeadWrite (c : Fin 9) (x : BitVec 32) (s : State) : Res := .next (s.regWrite c.val aMBX_CQ_HEAD x.toNat)

/-- MBX_STAT_CLEAR (R5). -/
def execMbxStatClear (c : Fin 9) (x : BitVec 32) (s : State) : Res := .next (s.regWrite c.val aMBX_STAT x.toNat)

/-- MBX_RESET: the word written (R328). -/
def execMbxReset (c : Fin 9) (x : BitVec 32) (s : State) : Res := .next (s.regWrite c.val aMBX_RESET x.toNat)

/-- REGISTER_WRITE of a word at an offset (R486). -/
def execRegisterWrite (c : Fin 9) (off : BitVec 20) (x : BitVec 32) (s : State) : Res :=
  .next (if off.toNat % 4 = 0 then s.regWrite c.val off.toNat x.toNat else s)

/-- PASSWORD_SET: SEC_PWCMD with KEY 0x5A (R338). -/
def execPasswordSet (c : Fin 9) (s : State) : Res := .next (s.regWrite c.val aSEC_PWCMD 0x5A)

/-- PASSWORD_CLEAR: SEC_PWCMD with KEY 0xC3 (R338). -/
def execPasswordClear (c : Fin 9) (s : State) : Res := .next (s.regWrite c.val aSEC_PWCMD 0xC3)

/-- ROLLBACK_ADVANCE: SEC_ROLLBACK with KEY 0x96 (R345). -/
def execRollbackAdvance (c : Fin 9) (s : State) : Res := .next (s.regWrite c.val aSEC_ROLLBACK 0x96)

/-- FIELD_LOCK_SET: SEC_LOCK with its key (R340). -/
def execFieldLockSet (c : Fin 9) (s : State) : Res := .next (s.regWrite c.val aSEC_LOCK 0x4C4F434B)

/-- DUSK_REQUEST: SYS_PWRCTL with KEY 0xD5 (R383). -/
def execDuskRequest (c : Fin 9) (s : State) : Res := .next (s.regWrite c.val aSYS_PWRCTL 0xD5)

/-- DUSK_CANCEL: SYS_PWRCTL with KEY 0xCA (R383). -/
def execDuskCancel (c : Fin 9) (s : State) : Res := .next (s.regWrite c.val aSYS_PWRCTL 0xCA)

/-- DUSK_EXIT_REQUEST: SYS_PWRCTL with KEY 0x5E (R386). -/
def execDuskExitRequest (c : Fin 9) (s : State) : Res := .next (s.regWrite c.val aSYS_PWRCTL 0x5E)

end Sys2Proof.Machine
end

