-- ==== Sys2Proof/Machine/Opcodes.lean ====
section
/-! DEFINITION. The Cyhar opcodes that no other chapter's file gives: each acts on the command on SC0 when that is one of its own
(R268, R318, R319, R334-R341, R427, R430). -/

namespace Sys2Proof.Machine

namespace State

-- NOP, REG_READ, REG_WRITE, ASPECT_REQUEST (R318, R319)

/-- ARG0 and ARG1 of a register command are in range (R319). -/
def regArgs (off n : Nat) : Bool := off % 4 == 0 && decide (1 ≤ n ∧ n ≤ 256 ∧ off + 4 * n ≤ 0x80000)

/-- A word of the command lies in the privileged view (R319). -/
def regPriv (off n : Nat) : Bool := decide (off < 0x20000 ∧ 0x10000 < off + 4 * n)

/-- A word that a REG_READ takes; one of the memory window waits for its fetch (R319, R494). -/
def cmdWord (s : State) (c off : Nat) (priv : Bool) : Nat × State :=
  if inWindow off then
    let a := s.dieAddr c off
    if noFetch a then (0, s)
    else
      let s := if (s.lineOf c a).isNone then s.fetchLine c a else s
      (s.lineWord c a, s)
  else s.wordRead c off priv

/-- A register command has done its next word, of which a read brings four bytes; after the last one it completes (R319). -/
def wordDone (s : State) (c : Cmd) (n r0 : Nat) (bs : List Byte) : State :=
  if n ≤ c.pos + 1 then s.finishCmd c.id stOK r0 (c.out ++ bs)
  else s.updCmd c.id fun x => { x with pos := x.pos + 1, out := x.out ++ bs }

/-- REG_READ: its next word. The words are read one at a time in ascending order, and the device's own updates may fall between
them (R319). -/
def regReadCmd (s : State) (c : Cmd) : State :=
  let off := c.arg 0
  let n := c.arg 1
  if !regArgs off n then s.finishCmd c.id stBAD_ARG 0 []
  else if s.pstate = 0 ∧ s.get fPWR_HOLD = 1 ∧ 0x01000 < off + 4 * n then s.finishCmd c.id stREFUSED 0 []
  else if regPriv off n && !c.priv then s.finishCmd c.id stDENIED 0 []
  else
    let (x, s) := s.cmdWord c.ctx (off + 4 * c.pos) c.priv
    s.wordDone c n 0 (leBytes 4 x)

/-- REG_WRITE: its next word, in the same way (R319, R318). -/
def regWriteCmd (s : State) (c : Cmd) : State :=
  let off := c.arg 0
  let n := c.arg 1
  let inArgs := c.plen == 0 && decide (n ≤ 10)
  if !regArgs off n || 0x40000 < off + 4 * n || (!inArgs && c.plen != 4 * n) then s.finishCmd c.id stBAD_ARG 0 []
  else if regPriv off n && !c.priv then s.finishCmd c.id stDENIED 0 []
  else
    let x := if inArgs then c.arg (2 + c.pos) else ofLeBytes ((c.data.drop (4 * c.pos)).take 4)
    (s.wordWrite c.ctx (off + 4 * c.pos) x c.priv).wordDone c n n []

/-- ASPECT_REQUEST (R58). -/
def aspectRequest (s : State) (c : Cmd) : State :=
  let n := c.arg 0 % 128
  if 95 < n then s.finishCmd c.id stBAD_ARG 0 []
  else (s.aspReqWrite n (c.arg 1)).finishCmd c.id stOK s.tick32 []

/-- TIME_REARM_STEP (R268, R408). -/
def rearmCmd (s : State) (c : Cmd) : State :=
  if s.underTest bkSC1 then s.finishCmd c.id stDEFERRED (s.bistWait bkSC1) []
  else
    let (t, ok) := s.rearm
    t.finishCmd c.id (if ok then stOK else stREFUSED) 0 []

-- LOG_READ (R427)

/-- Records from `seq` on: at most `fuel` examined and `room` returned, the class matched when a filter is given; the SEQ after the
last one examined and their bytes. -/
def logScan (s : State) (cls : Option Nat) : Nat → Nat → Nat → Nat × List Byte
  | 0, _, seq => (seq, [])
  | fuel + 1, room, seq =>
    if room = 0 ∨ !seqNewer (s.rd aEVT_HEAD).toNat seq then (seq, [])
    else
      let r := s.memRead (evtAddr seq) 64
      let hit := match cls with
        | some k => (r.getD 13 0).toNat == k
        | none => true
      let (e, bs) := s.logScan cls fuel (if hit then room - 1 else room) ((seq + 1) % 2 ^ 32)
      (e, if hit then r ++ bs else bs)

/-- Area EVENTS. -/
def logEvents (s : State) (c : Cmd) : State :=
  let a := c.arg 1
  let old := (s.rd aEVT_OLDEST).toNat
  let start := if seqNewer old a then old else a
  let room := if c.rlen / 64 < 16 then c.rlen / 64 else 16
  let (e, bs) := s.logScan (if bitOf (c.arg 2) 8 then some (c.arg 2 % 256) else none) 1024 room start
  s.finishCmd c.id stOK (if e = start then a else e) bs

/-- Bytes of a record of the lifetime area: ARG1 offset, RLEN bytes, PSEQ (areas LIFETIME and SNAPSHOT). -/
def logRecord (s : State) (c : Cmd) (base : Nat) : State :=
  let o := c.arg 1
  if o % 4 ≠ 0 ∨ 0x8000 ≤ o ∨ c.rlen % 4 ≠ 0 then s.finishCmd c.id stBAD_ARG 0 []
  else
    let n := if 0x8000 < o + c.rlen then 0x8000 - o else c.rlen
    s.finishCmd c.id stOK (s.memNat (base + 16) 4) (s.memRead (base + o) n)

/-- Area SNAPSHOT: index 0 the newest. -/
def logSnapshot (s : State) (c : Cmd) : State :=
  let i := c.arg 3
  if 55 < i then s.finishCmd c.id stBAD_ARG 0 []
  else if s.get fLIFE_SNAPS ≤ i then s.finishCmd c.id stREFUSED 0 []
  else s.logRecord c (lifeSlot (8 + (s.life.nextSnap + 55 - i) % 56))

/-- LOG_READ of an area; a value no area has is BAD_ARG. -/
def logCmd (s : State) (area : Nat) (f : Cmd → State) : State :=
  s.onCmd (fun c => c.op == opLOG_READ && (c.arg 0 % 16 == area || decide (3 < c.arg 0 % 16))) fun c =>
    if c.arg 0 % 16 = area then f c else s.finishCmd c.id stBAD_ARG 0 []

-- CAPTURE_ARM (R430, R431)

/-- An arming, or the return to RECORDING by DISARM; a frozen capture is discarded and writing resumes. -/
def capArm (s : State) (c : Cmd) (trig : Nat) : State :=
  if s.underTest bkSC1 then s.finishCmd c.id stDEFERRED (s.bistWait bkSC1) []
  else if s.heldByOther c then s.finishCmd c.id stBUSY 0 []
  else if s.flag fNW_SC1_LOST then s.finishCmd c.id stREFUSED 0 []
  else
    let post := c.arg 2
    let clamped := trig != 4 && decide (1000000 < post)
    let s := if s.get fCAP_STATE = 3 then s.capResume else s
    let s := ((s.put fCAP_STATE (if trig = 4 then 0 else 1)).putFlag fCAP_MN_FREEZE false).putFlag fCAP_AUTO false
    let s := { s with cap := { s.cap with
      trig := trig, cls := c.arg 1 % 256, src := if bitOf (c.arg 1) 15 then some (c.arg 1 / 65536) else none,
      target := (c.arg 4 + c.arg 5 % 65536 * 2 ^ 32) * 1000000000 + c.arg 3, post := if clamped then 1000000 else post } }
    let s := if trig = 0 then s.capTrigger false s.cap.post else s
    s.finishCmd c.id (if clamped then stCLAMPED else stOK) 0 []

/-- CAPTURE_ARM of a trigger; a value no trigger has is BAD_ARG. -/
def capCmd (s : State) (trig : Nat) : State :=
  s.onCmd (fun c => c.op == opCAPTURE_ARM && (c.arg 0 % 16 == trig || decide (4 < c.arg 0 % 16))) fun c =>
    if c.arg 0 % 16 = trig then s.capArm c trig else s.finishCmd c.id stBAD_ARG 0 []

-- ELEVATE, DROP, CHALLENGE, RESPOND (R334-R341)

/-- SEC is under test or has failed its test: the status and RESULT0 (R408, R410). -/
def secOut (s : State) : Option (Nat × Nat) :=
  if s.underTest bkSEC then some (stDEFERRED, s.bistWait bkSEC) else if s.sec.failed then some (stFAULT, 0) else none

/-- ELEVATE (R334-R336, R339). -/
def elevateCmd (s : State) (c : Cmd) : State :=
  match s.secOut with
  | some (st, r0) => s.finishCmd c.id st r0 []
  | none =>
    if c.arg 0 % 256 ≠ 1 then s.finishCmd c.id stBAD_ARG 0 []
    else if c.ctx ≠ 0 ∧ !s.flag fSEC_RING_PW then s.finishCmd c.id stREFUSED 0 []
    else if s.lockedOut then s.finishCmd c.id stDENIED s.lockLeft []
    else if s.sec.record.isNone then s.finishCmd c.id stDENIED 0 []
    else
      let (t, ok) := s.pwCheck c.ctx (leBytes 4 (c.arg 1) ++ leBytes 4 (c.arg 2))
      t.finishCmd c.id (if ok then stOK else stDENIED) 0 []

/-- DROP of the own elevation (R334). -/
def dropCmd (s : State) (c : Cmd) : State := (s.endElev c.ctx).finishCmd c.id stOK 0 []

/-- DROP with ALL, from an elevated context (R334). -/
def dropAllCmd (s : State) (c : Cmd) : State :=
  if s.elevated c.ctx then s.endAllElev.finishCmd c.id stOK 0 [] else s.finishCmd c.id stDENIED 0 []

/-- CHALLENGE of a purpose: 1 ELEVATE, 2 DEBUG (R334, R337). -/
def challengeCmd (s : State) (c : Cmd) (purpose : Nat) : State :=
  match s.secOut with
  | some (st, r0) => s.finishCmd c.id st r0 []
  | none =>
    if c.arg 0 % 256 ≠ purpose ∨ (c.ctx = 0 ∧ c.rlen < 32) then s.finishCmd c.id stBAD_ARG 0 []
    else if purpose = 2 ∧ s.pstate = 0 ∧ s.get fPWR_HOLD = 1 then s.finishCmd c.id stREFUSED 0 []
    else if purpose = 2 ∧ !s.elevated c.ctx then s.finishCmd c.id stDENIED 0 []
    else
      let (n, t) := s.challenge c.ctx purpose
      t.finishCmd c.id stOK 60 n

/-- RESPOND of a purpose (R334, R337, R339, R341). -/
def respondCmd (s : State) (c : Cmd) (purpose : Nat) : State :=
  match s.secOut with
  | some (st, r0) => s.finishCmd c.id st r0 []
  | none =>
    if c.arg 0 % 256 ≠ purpose then s.finishCmd c.id stBAD_ARG 0 []
    else if purpose = 2 ∧ s.pstate = 0 ∧ s.get fPWR_HOLD = 1 then s.finishCmd c.id stREFUSED 0 []
    else if s.lockedOut then s.finishCmd c.id stDENIED s.lockLeft []
    else if (match s.nonce c.ctx with
        | some (p, _) => p != purpose
        | none => true) then s.finishCmd c.id stREFUSED 0 []
    else
      let (t, ok) := s.respCheck c.ctx purpose ((List.range 4).flatMap fun i => leBytes 4 (c.arg (1 + i)))
      t.finishCmd c.id (if ok then stOK else stDENIED) 0 []

/-- CHALLENGE or RESPOND of a purpose; a value no purpose has falls to both rows as BAD_ARG. -/
def purposeCmd (s : State) (op purpose : Nat) (f : Cmd → State) : State :=
  s.onCmd (fun c => c.op == op && (c.arg 0 % 256 == purpose || !([1, 2].contains (c.arg 0 % 256)))) f

end State

-- Commands

/-- NOP (R318). -/
def execNop (s : State) : Res := .next (s.onCmd (fun c => c.op == opNOP) fun c => s.finishCmd c.id stOK (c.arg 0) [])

/-- REG_READ: one word of the command on SC0 (R319). -/
def execRegRead (s : State) : Res := .next (s.onCmd (fun c => c.op == opREG_READ) s.regReadCmd)

/-- REG_WRITE: one word of the command on SC0 (R319). -/
def execRegWrite (s : State) : Res := .next (s.onCmd (fun c => c.op == opREG_WRITE) s.regWriteCmd)

/-- ASPECT_REQUEST (R58). -/
def execAspectRequest (s : State) : Res := .next (s.onCmd (fun c => c.op == opASPECT_REQUEST) s.aspectRequest)

/-- TIME_REARM_STEP (R268). -/
def execTimeRearmStep (s : State) : Res := .next (s.onCmd (fun c => c.op == opTIME_REARM_STEP) s.rearmCmd)

/-- LOG_READ of area EVENTS (R427). -/
def execLogReadEvents (s : State) : Res := .next (s.logCmd 0 s.logEvents)

/-- LOG_READ of area TAIL (R427). -/
def execLogReadTail (s : State) : Res := .next (s.logCmd 1 fun c => s.finishCmd c.id stOK 0 s.evt.tail)

/-- LOG_READ of area LIFETIME (R427). -/
def execLogReadLifetime (s : State) : Res := .next (s.logCmd 2 fun c => s.logRecord c lifeBase)

/-- LOG_READ of area SNAPSHOT (R427). -/
def execLogReadSnapshot (s : State) : Res := .next (s.logCmd 3 s.logSnapshot)

/-- CAPTURE_ARM with trigger NOW (R430). -/
def execCaptureArmNow (s : State) : Res := .next (s.capCmd 0)

/-- CAPTURE_ARM with trigger EVENT (R430). -/
def execCaptureArmEvent (s : State) : Res := .next (s.capCmd 1)

/-- CAPTURE_ARM with trigger TIME (R430). -/
def execCaptureArmTime (s : State) : Res := .next (s.capCmd 2)

/-- CAPTURE_ARM with trigger PIN (R430). -/
def execCaptureArmPin (s : State) : Res := .next (s.capCmd 3)

/-- CAPTURE_ARM with DISARM (R430). -/
def execCaptureDisarm (s : State) : Res := .next (s.capCmd 4)

/-- ELEVATE (R335). -/
def execElevate (s : State) : Res := .next (s.onCmd (fun c => c.op == opELEVATE) s.elevateCmd)

/-- DROP (R334). -/
def execDrop (s : State) : Res := .next (s.onCmd (fun c => c.op == opDROP && !bitOf (c.arg 0) 0) s.dropCmd)

/-- DROP with ALL (R334). -/
def execDropAll (s : State) : Res := .next (s.onCmd (fun c => c.op == opDROP && bitOf (c.arg 0) 0) s.dropAllCmd)

/-- CHALLENGE with PURPOSE ELEVATE (R337). -/
def execChallengeElevate (s : State) : Res := .next (s.purposeCmd opCHALLENGE 1 fun c => s.challengeCmd c 1)

/-- CHALLENGE with PURPOSE DEBUG (R337). -/
def execChallengeDebug (s : State) : Res := .next (s.purposeCmd opCHALLENGE 2 fun c => s.challengeCmd c 2)

/-- RESPOND with PURPOSE ELEVATE (R337). -/
def execRespondElevate (s : State) : Res := .next (s.purposeCmd opRESPOND 1 fun c => s.respondCmd c 1)

/-- RESPOND with PURPOSE DEBUG (R341). -/
def execRespondDebug (s : State) : Res := .next (s.purposeCmd opRESPOND 2 fun c => s.respondCmd c 2)

/-- INVALID_OPCODE: an opcode that R318 does not list (R318). -/
def execInvalidOpcode (s : State) : Res :=
  .next (s.onCmd (fun c => !opListed c.op) fun c => s.finishCmd c.id stBAD_ARG 0 [])

end Sys2Proof.Machine
end

