-- ==== Sys2Proof/Machine/Spi3032.lean ====
section
/-! DEFINITION. The XH3032 protocol on the HSPI pins (R447-R457). Its mailbox context has the number 9. -/

namespace Sys2Proof.Machine

/-- The request that a CHnn_CTRL word makes (R451). -/
def ctrlRequest (x : Nat) : Nat :=
  let l := bitsOf x 0 12
  let cmd := if bitOf x 14 then 0 else if bitOf x 15 then 1 else 2
  cmd + (if l = 0 then 0 else 3 * 4 + (l * 16 + l / 256) * 65536)

namespace State

def setSpi (s : State) (x : Spi) : State := { s with spi := x }

/-- A transaction or a write is refused (STAT.ERR). -/
def spiErr (s : State) : State := s.setSpi { s.spi with err := true }

/-- The status byte (R449). -/
def spiStatus (s : State) : Byte :=
  BitVec.ofNat 8 (128 * boolNat s.hostValid + 64 * boolNat s.spi.err + 32 * boolNat (s.elevated 9) + 16 * boolNat (!s.faultN)
    + 8 * boolNat s.pins.aspectReady)

/-- STAT (R450). -/
def spiStat (s : State) : Nat :=
  2 ^ 15 * boolNat s.pins.aspectReady + 2 ^ 14 * boolNat (!s.faultN) + 2 ^ 13 * boolNat s.midnight
    + 2 ^ 12 * boolNat (s.elevated 9) + 2 ^ 11 * boolNat s.lockedOut + 2 ^ 10 * boolNat s.spi.err + 16 * s.pstate + s.get fPWR_PHASE

/-- What a register of R450 reads. -/
def spiValue (s : State) (a : Nat) : Nat :=
  if a = 0x00 then 0x3032
  else if a = 0x01 then 0x6100 + bitsOf (s.rd aDEV_ID).toNat 8 8
  else if a = 0x02 then s.spiStat
  else if a = 0x06 then 2 ^ 15 * boolNat s.spi.busy + 2 ^ 12 * s.spi.result + 2 * boolNat s.spi.full
  else if 0x10 ≤ a ∧ a < 0x30 then tabGet (fun _ => 0x4000) s.spi.ctrl (a - 0x10)
  else if 0x30 ≤ a ∧ a < 0x50 then tabGet (fun _ => 0) s.spi.stat (a - 0x30)
  else 0

/-- A write of CHnn_CTRL: a host request of the owning aspect (R451, R452, R330). -/
def ctrlWrite (s : State) (n x : Nat) : State :=
  if s.midnight then s.spiErr
  else
    let x := withBits x 12 2 0
    let s := s.setSpi { s.spi with ctrl := tabSet (fun _ => 0x4000) s.spi.ctrl n x }
    match s.owner n with
    | some m => s.aspReqWrite m (ctrlRequest x)
    | none => s.spiErr

/-- A write of PW_HI tries the password (R453); a lockout, Midnight and a SEC that cannot check turn it away. -/
def pwTry (s : State) (hi : Nat) : State :=
  if s.lockedOut || s.midnight || s.secOut.isSome then s.spiErr
  else
    let lo := s.spi.pwLo
    let s := s.setSpi { s.spi with pwLo := 0 }
    if s.sec.record.isNone then s
    else (s.pwCheck 9 (leBytes 2 lo ++ leBytes 2 hi ++ leBytes 4 0)).1

/-- A write of SELFTEST (R454, R455). -/
def selfTest (s : State) (x : Nat) : State :=
  let full := bitOf x 1
  if !bitOf x 0 then s.setSpi { s.spi with full := full }
  else if !s.elevated 9 then s.spiErr
  else
    let s := (s.touch 9).setSpi { s.spi with full := full }
    if s.bist.active then s.setSpi { s.spi with result := 5 }
    else
      let s := s.setSpi { s.spi with busy := true, result := 0 }
      s.bistBegin none ([0x1A, 0x1B, 0x1C, 0x1D] ++ if full then [bkMEMDIE] else []) false false

/-- A write of FLTCLR (R454, R456). -/
def spiFltClr (s : State) (x : Nat) : State :=
  if !s.elevated 9 then s.spiErr
  else
    let s := s.touch 9
    let mask := bitsOf x 8 7
    if bitOf x 15 then (List.range 32).foldl (fun s c => s.fltClrChan mask c) s else s.fltClrChan mask (x % 32)

/-- A register write of the SPI context (R450). -/
def spiWrite (s : State) (a x : Nat) : State :=
  if a = 0x03 then s.setSpi { s.spi with pwLo := x }
  else if a = 0x04 then s.pwTry x
  else if a = 0x05 then s.endElev 9
  else if a = 0x06 then s.selfTest x
  else if a = 0x07 then s.spiFltClr x
  else if 0x10 ≤ a ∧ a < 0x30 then s.ctrlWrite (a - 0x10) x
  else s

/-- A frame of a number of clocks: command byte, data word (R448, R449). -/
def spiFrame (s : State) (clocks cmd x : Nat) : State :=
  let s := { s with bus := [] }
  if !s.spi.mode then s
  else if clocks ≠ 24 then s.spiErr
  else
    let st := s.spiStatus
    let a := cmd % 128
    let out := fun (v : Nat) => [st, BitVec.ofNat 8 (v / 256), BitVec.ofNat 8 v]
    if 128 ≤ cmd then
      if !s.hostValid then { s with bus := out 0xFFFF }
      else
        let v := s.spiValue a
        let s := if a = 0x02 then s.setSpi { s.spi with err := false } else s
        { s with bus := out v }
    else
      let s := { s with bus := out 0 }
      if s.hostValid then s.spiWrite a x else s

end State

-- Commands

/-- SPI3032_TRANSACTION: clocks, command byte, data word (R448). -/
def execSpi3032Transaction (clocks : Nat) (cmd : BitVec 8) (x : BitVec 16) (s : State) : Res :=
  .next (s.spiFrame clocks cmd.toNat x.toNat)

/-- CH_CTRL_WRITE: a frame that writes CHnn_CTRL (R451). -/
def execChCtrlWrite (n : Fin 32) (x : BitVec 16) (s : State) : Res := .next (s.spiFrame 24 (0x10 + n.val) x.toNat)

/-- PW_HI_WRITE (R453). -/
def execPwHiWrite (x : BitVec 16) (s : State) : Res := .next (s.spiFrame 24 0x04 x.toNat)

/-- SPI_LOCK (R453). -/
def execSpiLock (x : BitVec 16) (s : State) : Res := .next (s.spiFrame 24 0x05 x.toNat)

/-- SELFTEST_START: a frame that writes SELFTEST with START 1, and FULL (R455). -/
def execSelftestStart (full : Bool) (s : State) : Res := .next (s.spiFrame 24 0x06 (1 + 2 * boolNat full))

/-- SPI_FLTCLR (R456). -/
def execSpiFltclr (x : BitVec 16) (s : State) : Res := .next (s.spiFrame 24 0x07 x.toNat)

end Sys2Proof.Machine
end

