-- ==== Sys2Proof/Machine/Dispatch.lean ====
section
/-! DEFINITION. One arm for each command: one direct call of its meaning. -/

namespace Sys2Proof.Machine

def exec (i : Instr) (s : State) : Host.Outcome State Fault Refusal :=
  match i with
  | .powerGood strap => Sys2Proof.Machine.execPowerGood strap s
  | .powerGoodEnd => Sys2Proof.Machine.execPowerGoodEnd s
  | .resetNLow => Sys2Proof.Machine.execResetNLow s
  | .powerCycle => Sys2Proof.Machine.execPowerCycle s
  | .pfwNFall => Sys2Proof.Machine.execPfwNFall s
  | .pfwCleared => Sys2Proof.Machine.execPfwCleared s
  | .pfwHigh1s => Sys2Proof.Machine.execPfwHigh1s s
  | .xtal25StartTimeout => Sys2Proof.Machine.execXtal25StartTimeout s
  | .dawnD0End => Sys2Proof.Machine.execDawnD0End s
  | .dawnD1End ok bad => Sys2Proof.Machine.execDawnD1End ok bad s
  | .dawnD2End => Sys2Proof.Machine.execDawnD2End s
  | .dawnD3End => Sys2Proof.Machine.execDawnD3End s
  | .dawnD4End => Sys2Proof.Machine.execDawnD4End s
  | .dawnLate => Sys2Proof.Machine.execDawnLate s
  | .gridLost => Sys2Proof.Machine.execGridLost s
  | .vcoreLow low => Sys2Proof.Machine.execVcoreLow low s
  | .commitDeadline k n ready => Sys2Proof.Machine.execCommitDeadline k n ready s
  | .dlmHoldResume => Sys2Proof.Machine.execDlmHoldResume s
  | .lateResult k n => Sys2Proof.Machine.execLateResult k n s
  | .linkTransfer toCore head data check => Sys2Proof.Machine.execLinkTransfer toCore head data check s
  | .linkSilenceTimeout => Sys2Proof.Machine.execLinkSilenceTimeout s
  | .linkHeartbeat toCore => Sys2Proof.Machine.execLinkHeartbeat toCore s
  | .rulePeriodStart => Sys2Proof.Machine.execRulePeriodStart s
  | .ruleEvalComplete => Sys2Proof.Machine.execRuleEvalComplete s
  | .resolverStart => Sys2Proof.Machine.execResolverStart s
  | .resolverComplete => Sys2Proof.Machine.execResolverComplete s
  | .aspectCommit => Sys2Proof.Machine.execAspectCommit s
  | .ruleStallClear => Sys2Proof.Machine.execRuleStallClear s
  | .setpointArrival => Sys2Proof.Machine.execSetpointArrival s
  | .xchkCheck finished => Sys2Proof.Machine.execXchkCheck finished s
  | .pwmPeriodStart c => Sys2Proof.Machine.execPwmPeriodStart c s
  | .channelHold c on fail => Sys2Proof.Machine.execChannelHold c on fail s
  | .conversionComplete k raw => Sys2Proof.Machine.execConversionComplete k raw s
  | .bankStrayOpen n => Sys2Proof.Machine.execBankStrayOpen n s
  | .shortToRailFoldback c => Sys2Proof.Machine.execShortToRailFoldback c s
  | .bankOc n => Sys2Proof.Machine.execBankOc n s
  | .bankOcRetry n => Sys2Proof.Machine.execBankOcRetry n s
  | .bankReadback n low => Sys2Proof.Machine.execBankReadback n low s
  | .bankCloseComplete n => Sys2Proof.Machine.execBankCloseComplete n s
  | .thermalShutdown => Sys2Proof.Machine.execThermalShutdown s
  | .thermalShutdownExit => Sys2Proof.Machine.execThermalShutdownExit s
  | .needComputation => Sys2Proof.Machine.execNeedComputation s
  | .governorUpdate => Sys2Proof.Machine.execGovernorUpdate s
  | .peakCurrentTrip => Sys2Proof.Machine.execPeakCurrentTrip s
  | .ovClampOnset => Sys2Proof.Machine.execOvClampOnset s
  | .ovClampRelease => Sys2Proof.Machine.execOvClampRelease s
  | .boostShort => Sys2Proof.Machine.execBoostShort s
  | .hiccupRestart => Sys2Proof.Machine.execHiccupRestart s
  | .boostFbFault => Sys2Proof.Machine.execBoostFbFault s
  | .softstartCheck => Sys2Proof.Machine.execSoftstartCheck s
  | .loopPeriodStart n => Sys2Proof.Machine.execLoopPeriodStart n s
  | .loopResultReady n => Sys2Proof.Machine.execLoopResultReady n s
  | .loopSwapWrite w => Sys2Proof.Machine.execLoopSwapWrite w s
  | .loopSlotMigrate n fail => Sys2Proof.Machine.execLoopSlotMigrate n fail s
  | .ambientUpdate duty => Sys2Proof.Machine.execAmbientUpdate duty s
  | .brightInLost => Sys2Proof.Machine.execBrightInLost s
  | .brightInValid => Sys2Proof.Machine.execBrightInValid s
  | .ntcUpdate => Sys2Proof.Machine.execNtcUpdate s
  | .ntcRecovered => Sys2Proof.Machine.execNtcRecovered s
  | .patternCycleStart p => Sys2Proof.Machine.execPatternCycleStart p s
  | .overheatAutoClear c => Sys2Proof.Machine.execOverheatAutoClear c s
  | .supFltClr w => Sys2Proof.Machine.execSupFltClr w s
  | .sigForget w => Sys2Proof.Machine.execSigForget w s
  | .mtxClearStray w => Sys2Proof.Machine.execMtxClearStray w s
  | .mtxClearDark w => Sys2Proof.Machine.execMtxClearDark w s
  | .scanFrameStart => Sys2Proof.Machine.execScanFrameStart s
  | .scanSlotStart => Sys2Proof.Machine.execScanSlotStart s
  | .senseSample levels ago => Sys2Proof.Machine.execSenseSample levels ago s
  | .aspVarWrite v x => Sys2Proof.Machine.execAspVarWrite v x s
  | .aspReqWrite n x => Sys2Proof.Machine.execAspReqWrite n x s
  | .timeSlotUpdate => Sys2Proof.Machine.execTimeSlotUpdate s
  | .activationWindowEdge => Sys2Proof.Machine.execActivationWindowEdge s
  | .obsDataRead c => Sys2Proof.Machine.execObsDataRead c s
  | .ruleDataRead c => Sys2Proof.Machine.execRuleDataRead c s
  | .ringLdDataRead c => Sys2Proof.Machine.execRingLdDataRead c s
  | .bistDataRead c => Sys2Proof.Machine.execBistDataRead c s
  | .timeNsRead c => Sys2Proof.Machine.execTimeNsRead c s
  | .loopStRead n => Sys2Proof.Machine.execLoopStRead n s
  | .icuNwstatRead => Sys2Proof.Machine.execIcuNwstatRead s
  | .adcGridTrigger k => Sys2Proof.Machine.execAdcGridTrigger k s
  | .adcTrigEdge rise ago => Sys2Proof.Machine.execAdcTrigEdge rise ago s
  | .adcSoftTriggerReg m => Sys2Proof.Machine.execAdcSoftTriggerReg m s
  | .adcSoftTriggerInj m => Sys2Proof.Machine.execAdcSoftTriggerInj m s
  | .adcRefctlWrite w => Sys2Proof.Machine.execAdcRefctlWrite w s
  | .refbufReady p => Sys2Proof.Machine.execRefbufReady p s
  | .housekeepingRound p => Sys2Proof.Machine.execHousekeepingRound p s
  | .pairRoundEval p => Sys2Proof.Machine.execPairRoundEval p s
  | .trimReload => Sys2Proof.Machine.execTrimReload s
  | .trimReloadStart k => Sys2Proof.Machine.execTrimReloadStart k s
  | .trimReloadDone k bg => Sys2Proof.Machine.execTrimReloadDone k bg s
  | .ringFrameReceive p frame codeErr sub => Sys2Proof.Machine.execRingFrameReceive p frame codeErr sub s
  | .egressTxComplete p => Sys2Proof.Machine.execEgressTxComplete p s
  | .signalFailOnset p link => Sys2Proof.Machine.execSignalFailOnset p link s
  | .signalFailClear p => Sys2Proof.Machine.execSignalFailClear p s
  | .sfpModulePoll p ack ok power => Sys2Proof.Machine.execSfpModulePoll p ack ok power s
  | .ringRateAlternate p => Sys2Proof.Machine.execRingRateAlternate p s
  | .rapsReceive p req sub rb dnf bpr node => Sys2Proof.Machine.execRapsReceive p req sub rb dnf bpr node s
  | .rapsTransmit => Sys2Proof.Machine.execRapsTransmit s
  | .holdoffExpiry p => Sys2Proof.Machine.execHoldoffExpiry p s
  | .guardExpiry => Sys2Proof.Machine.execGuardExpiry s
  | .launchTemplateCopy d => Sys2Proof.Machine.execLaunchTemplateCopy d s
  | .launchGuardStart d => Sys2Proof.Machine.execLaunchGuardStart d s
  | .launchGateOpen d => Sys2Proof.Machine.execLaunchGateOpen d s
  | .launchWindowClose d => Sys2Proof.Machine.execLaunchWindowClose d s
  | .eventFrameSend => Sys2Proof.Machine.execEventFrameSend s
  | .cyharCmdFrame p mac seq body => Sys2Proof.Machine.execCyharCmdFrame p mac seq body s
  | .cyharReplyDrop p => Sys2Proof.Machine.execCyharReplyDrop p s
  | .ringContextIdleDrop c => Sys2Proof.Machine.execRingContextIdleDrop c s
  | .announceReceive p domain src prio1 cls acc var prio2 gm steps utc interval => Sys2Proof.Machine.execAnnounceReceive p domain src prio1 cls acc var prio2 gm steps utc interval s
  | .syncReceive p domain src origin corr sub => Sys2Proof.Machine.execSyncReceive p domain src origin corr sub s
  | .pdelayReqSend p => Sys2Proof.Machine.execPdelayReqSend p s
  | .pdelayReqReceive p src id corr sub => Sys2Proof.Machine.execPdelayReqReceive p src id corr sub s
  | .pdelayRespReceive p id t2 t3 corr sub => Sys2Proof.Machine.execPdelayRespReceive p id t2 t3 corr sub s
  | .pdelayTimeout p => Sys2Proof.Machine.execPdelayTimeout p s
  | .tcEntryExpiry => Sys2Proof.Machine.execTcEntryExpiry s
  | .timeStep => Sys2Proof.Machine.execTimeStep s
  | .masterLost => Sys2Proof.Machine.execMasterLost s
  | .trustTimerExpiry => Sys2Proof.Machine.execTrustTimerExpiry s
  | .routeHoldEnd => Sys2Proof.Machine.execRouteHoldEnd s
  | .timeRearmStep => Sys2Proof.Machine.execTimeRearmStep s
  | .rearmLapse => Sys2Proof.Machine.execRearmLapse s
  | .localOffsetChange => Sys2Proof.Machine.execLocalOffsetChange s
  | .ppsOutEdge => Sys2Proof.Machine.execPpsOutEdge s
  | .ppsInEdge rise sub => Sys2Proof.Machine.execPpsInEdge rise sub s
  | .safetyCycle => Sys2Proof.Machine.execSafetyCycle s
  | .stoRefreshWord o flip => Sys2Proof.Machine.execStoRefreshWord o flip s
  | .stoRefreshTimeout o => Sys2Proof.Machine.execStoRefreshTimeout o s
  | .tpWindowStart n => Sys2Proof.Machine.execTpWindowStart n s
  | .tpWindowEnd n => Sys2Proof.Machine.execTpWindowEnd n s
  | .tpReadback n rise below5 above15 => Sys2Proof.Machine.execTpReadback n rise below5 above15 s
  | .tpLowTimeout n => Sys2Proof.Machine.execTpLowTimeout n s
  | .sinSample levels srst ago => Sys2Proof.Machine.execSinSample levels srst ago s
  | .sinWindowJudge n => Sys2Proof.Machine.execSinWindowJudge n s
  | .discrepancySample => Sys2Proof.Machine.execDiscrepancySample s
  | .sealRowRead r bits => Sys2Proof.Machine.execSealRowRead r bits s
  | .stoOffPulseStart o => Sys2Proof.Machine.execStoOffPulseStart o s
  | .stoOffPulseEnd o => Sys2Proof.Machine.execStoOffPulseEnd o s
  | .stoPulseReadback o second below5 above15 => Sys2Proof.Machine.execStoPulseReadback o second below5 above15 s
  | .stoPulseRepeat o => Sys2Proof.Machine.execStoPulseRepeat o s
  | .stoReadbackTimeout o high => Sys2Proof.Machine.execStoReadbackTimeout o high s
  | .srstStuck => Sys2Proof.Machine.execSrstStuck s
  | .qspiWriteS addr ws part => Sys2Proof.Machine.execQspiWriteS addr ws part s
  | .qspiReadS addr n => Sys2Proof.Machine.execQspiReadS addr n s
  | .qspiStatus => Sys2Proof.Machine.execQspiStatus s
  | .qspiWriteQ addr ws part => Sys2Proof.Machine.execQspiWriteQ addr ws part s
  | .qspiReadQ addr n => Sys2Proof.Machine.execQspiReadQ addr n s
  | .qspiInvalidInstruction => Sys2Proof.Machine.execQspiInvalidInstruction s
  | .memwinFetchDone c => Sys2Proof.Machine.execMemwinFetchDone c s
  | .lineBufferAge c => Sys2Proof.Machine.execLineBufferAge c s
  | .devMempageWrite c x => Sys2Proof.Machine.execDevMempageWrite c x s
  | .sqnDoorbell c x => Sys2Proof.Machine.execSqnDoorbell c x s
  | .squDoorbell c x => Sys2Proof.Machine.execSquDoorbell c x s
  | .cqHeadWrite c x => Sys2Proof.Machine.execCqHeadWrite c x s
  | .mbxStatClear c x => Sys2Proof.Machine.execMbxStatClear c x s
  | .mbxReset c x => Sys2Proof.Machine.execMbxReset c x s
  | .mbxResetDone => Sys2Proof.Machine.execMbxResetDone s
  | .descriptorCopy urgent => Sys2Proof.Machine.execDescriptorCopy urgent s
  | .commandSchedule => Sys2Proof.Machine.execCommandSchedule s
  | .completionPost => Sys2Proof.Machine.execCompletionPost s
  | .nop => Sys2Proof.Machine.execNop s
  | .regRead => Sys2Proof.Machine.execRegRead s
  | .regWrite => Sys2Proof.Machine.execRegWrite s
  | .cfgStageBlock => Sys2Proof.Machine.execCfgStageBlock s
  | .cfgCommit good => Sys2Proof.Machine.execCfgCommit good s
  | .cfgReport => Sys2Proof.Machine.execCfgReport s
  | .aspectRequest => Sys2Proof.Machine.execAspectRequest s
  | .bistRun => Sys2Proof.Machine.execBistRun s
  | .logReadEvents => Sys2Proof.Machine.execLogReadEvents s
  | .logReadTail => Sys2Proof.Machine.execLogReadTail s
  | .logReadLifetime => Sys2Proof.Machine.execLogReadLifetime s
  | .logReadSnapshot => Sys2Proof.Machine.execLogReadSnapshot s
  | .captureArmNow => Sys2Proof.Machine.execCaptureArmNow s
  | .captureArmEvent => Sys2Proof.Machine.execCaptureArmEvent s
  | .captureArmTime => Sys2Proof.Machine.execCaptureArmTime s
  | .captureArmPin => Sys2Proof.Machine.execCaptureArmPin s
  | .captureDisarm => Sys2Proof.Machine.execCaptureDisarm s
  | .elevate => Sys2Proof.Machine.execElevate s
  | .drop => Sys2Proof.Machine.execDrop s
  | .dropAll => Sys2Proof.Machine.execDropAll s
  | .challengeElevate => Sys2Proof.Machine.execChallengeElevate s
  | .challengeDebug => Sys2Proof.Machine.execChallengeDebug s
  | .respondElevate => Sys2Proof.Machine.execRespondElevate s
  | .respondDebug => Sys2Proof.Machine.execRespondDebug s
  | .invalidOpcode => Sys2Proof.Machine.execInvalidOpcode s
  | .elevationTimeout c => Sys2Proof.Machine.execElevationTimeout c s
  | .nonceExpiry c => Sys2Proof.Machine.execNonceExpiry c s
  | .lockoutEnd => Sys2Proof.Machine.execLockoutEnd s
  | .passwordSet c => Sys2Proof.Machine.execPasswordSet c s
  | .passwordClear c => Sys2Proof.Machine.execPasswordClear c s
  | .rollbackAdvance c => Sys2Proof.Machine.execRollbackAdvance c s
  | .fieldLockSet c => Sys2Proof.Machine.execFieldLockSet c s
  | .testEntry => Sys2Proof.Machine.execTestEntry s
  | .icuSourceEdge t n => Sys2Proof.Machine.execIcuSourceEdge t n s
  | .icuPendSet t w x => Sys2Proof.Machine.execIcuPendSet t w x s
  | .icuPendClr t w x => Sys2Proof.Machine.execIcuPendClr t w x s
  | .icuMaskSet t w x => Sys2Proof.Machine.execIcuMaskSet t w x s
  | .icuMaskClr t w x => Sys2Proof.Machine.execIcuMaskClr t w x s
  | .icuAcknowledge t => Sys2Proof.Machine.execIcuAcknowledge t s
  | .icuEoi t wait => Sys2Proof.Machine.execIcuEoi t wait s
  | .moderationWindowEnd t => Sys2Proof.Machine.execModerationWindowEnd t s
  | .hostSleepRise rise => Sys2Proof.Machine.execHostSleepRise rise s
  | .cfgActivation => Sys2Proof.Machine.execCfgActivation s
  | .duskRequest c => Sys2Proof.Machine.execDuskRequest c s
  | .duskCancel c => Sys2Proof.Machine.execDuskCancel c s
  | .duskEntry => Sys2Proof.Machine.execDuskEntry s
  | .duskExitRequest c => Sys2Proof.Machine.execDuskExitRequest c s
  | .duskWakeEvent src => Sys2Proof.Machine.execDuskWakeEvent src s
  | .duskExitResume => Sys2Proof.Machine.execDuskExitResume s
  | .midnightEntry cause => Sys2Proof.Machine.execMidnightEntry cause s
  | .morningCheckFire => Sys2Proof.Machine.execMorningCheckFire s
  | .morningBankStart => Sys2Proof.Machine.execMorningBankStart s
  | .morningCheckSkip => Sys2Proof.Machine.execMorningCheckSkip s
  | .bistBlockStart hot => Sys2Proof.Machine.execBistBlockStart hot s
  | .bistBlockEnd count expect bad bg hot => Sys2Proof.Machine.execBistBlockEnd count expect bad bg hot s
  | .bistRegionStep bad => Sys2Proof.Machine.execBistRegionStep bad s
  | .ruleengSlice => Sys2Proof.Machine.execRuleengSlice s
  | .ruleengSliceCutoff => Sys2Proof.Machine.execRuleengSliceCutoff s
  | .lifetimeFold core => Sys2Proof.Machine.execLifetimeFold core s
  | .persistTimer => Sys2Proof.Machine.execPersistTimer s
  | .persistDone ok => Sys2Proof.Machine.execPersistDone ok s
  | .persistRetry => Sys2Proof.Machine.execPersistRetry s
  | .dailySnapshot => Sys2Proof.Machine.execDailySnapshot s
  | .clrCh c => Sys2Proof.Machine.execClrCh c s
  | .clrDev => Sys2Proof.Machine.execClrDev s
  | .eventRecordWrite => Sys2Proof.Machine.execEventRecordWrite s
  | .evtRdseqWrite w => Sys2Proof.Machine.execEvtRdseqWrite w s
  | .evtThreshWrite w => Sys2Proof.Machine.execEvtThreshWrite w s
  | .captureTrigger => Sys2Proof.Machine.execCaptureTrigger s
  | .captureFreeze => Sys2Proof.Machine.execCaptureFreeze s
  | .faultGroupClear w => Sys2Proof.Machine.execFaultGroupClear w s
  | .bankocReclose mask => Sys2Proof.Machine.execBankocReclose mask s
  | .sc0Heartbeat code => Sys2Proof.Machine.execSc0Heartbeat code s
  | .sc0Lost cause addr => Sys2Proof.Machine.execSc0Lost cause addr s
  | .sc0Reset => Sys2Proof.Machine.execSc0Reset s
  | .sc0RestartComplete reload => Sys2Proof.Machine.execSc0RestartComplete reload s
  | .sfcHeartbeat ok => Sys2Proof.Machine.execSfcHeartbeat ok s
  | .sfcLost => Sys2Proof.Machine.execSfcLost s
  | .sc1Heartbeat => Sys2Proof.Machine.execSc1Heartbeat s
  | .sc1Lost cause addr => Sys2Proof.Machine.execSc1Lost cause addr s
  | .sc1RestartDone => Sys2Proof.Machine.execSc1RestartDone s
  | .eccUncorrected loc p addr => Sys2Proof.Machine.execEccUncorrected loc p addr s
  | .spi3032Transaction clocks cmd x => Sys2Proof.Machine.execSpi3032Transaction clocks cmd x s
  | .chCtrlWrite n x => Sys2Proof.Machine.execChCtrlWrite n x s
  | .pwHiWrite x => Sys2Proof.Machine.execPwHiWrite x s
  | .spiLock x => Sys2Proof.Machine.execSpiLock x s
  | .selftestStart full => Sys2Proof.Machine.execSelftestStart full s
  | .spiFltclr x => Sys2Proof.Machine.execSpiFltclr x s
  | .registerWrite c off x => Sys2Proof.Machine.execRegisterWrite c off x s
  | .ppsOutFall => Sys2Proof.Machine.execPpsOutFall s
  | .ovClampQuiet => Sys2Proof.Machine.execOvClampQuiet s
  | .hostIrqMinHighEnd => Sys2Proof.Machine.execHostIrqMinHighEnd s
  | .xtal25Return => Sys2Proof.Machine.execXtal25Return s

end Sys2Proof.Machine
end

