-- ==== Sys2Proof/Machine/Step.lean ====
section
/-! DEFINITION. One step of the block: the command at the front of the queue, or a tick when none waits. -/

namespace Sys2Proof.Machine

/-- A tick of 40 ns: Nightwatch's counter, and while the grid runs the phase grid, the time base, BST_GATE, the converters' starts, and
the mark of a commit that has been activated (R33, R82, R200, R253, R370).
It is what a step does on an empty queue (DESIGN CHOICE, log entry 4). -/
def tick (s : State) : State :=
  let s := { s with nw := { s.nw with tick := s.nw.tick + 1 } }
  if s.grid.running then
    let s := s.noteFlags
    (((({ s with grid := { s.grid with tick := s.grid.tick + 1 } }).timeTick).gateTick).adcTick).cfgMark
  else s

/-- One step. -/
def step (s : State) : Host.Outcome State Fault Refusal :=
  match s.pending with
  | c :: rest => exec c { s with pending := rest }
  | [] => .next (tick s)

/-- The state with the command that a word spells put at the front of its queue; no row of the table has bits, so no word spells
one. -/
def State.withFetchWord (s : State) (nbits w : Nat) : State :=
  match decodeTableWord nbits w with
  | some c => { s with pending := c :: s.pending }
  | none => s

end Sys2Proof.Machine
end

