-- ==== Sys2Proof/Safety.lean ====
section
/-! DEFINITION. The terms in which statements speak of the machine: a command that completes, what it leaves alone, the invariants. -/

namespace Sys2Proof.Machine

/-- The command `c` answers a next state from `s`, and that state has `P`. -/
def Completes (c : Instr) (s : State) (P : State → Prop) : Prop := ∃ t, exec c s = .next t ∧ P t

/-- The parts of the state, but for the queue. -/
inductive Comp where
  /-- registers -/
  | regs
  /-- the counter of the free values -/
  | free
  /-- the phase grid -/
  | grid
  /-- the time base -/
  | time
  /-- pin levels -/
  | pins
  /-- the interrupt controller -/
  | icu
  /-- the event log beside its registers -/
  | evt
  /-- Nightwatch -/
  | nw
  /-- the memory die -/
  | mem
  /-- the capture ring -/
  | cap
  /-- lifetime accumulators and flash -/
  | life
  /-- Dawn, Dusk, Morning check -/
  | pwr
  /-- observations -/
  | obs
  /-- the rule engine -/
  | rule
  /-- the configuration -/
  | cfg
  /-- the contexts' own copies -/
  | ctx
  /-- channels -/
  | chans
  /-- banks -/
  | banks
  /-- boost and governors -/
  | boost
  /-- the aspect resolver -/
  | res
  /-- dimming -/
  | dim
  /-- matrix panels -/
  | mtx
  /-- the SPI context -/
  | spi
  /-- the loop engine -/
  | loops
  /-- conversion -/
  | adc
  /-- safe torque off -/
  | sto
  /-- the die-to-die link -/
  | link
  /-- the station ring -/
  | ring
  /-- network time -/
  | ptp
  /-- the mailbox -/
  | mbx
  /-- credentials, OTP, firmware -/
  | sec
  /-- self-test -/
  | bist
  /-- the flash bus -/
  | fspi
  /-- the bytes driven on HSPI -/
  | bus
  deriving DecidableEq

/-- A part has the same value in two states. -/
def Same (x t : State) : Comp → Prop
  | .regs => t.regs = x.regs
  | .free => t.free = x.free
  | .grid => t.grid = x.grid
  | .time => t.time = x.time
  | .pins => t.pins = x.pins
  | .icu => t.icu = x.icu
  | .evt => t.evt = x.evt
  | .nw => t.nw = x.nw
  | .mem => t.mem = x.mem
  | .cap => t.cap = x.cap
  | .life => t.life = x.life
  | .pwr => t.pwr = x.pwr
  | .obs => t.obs = x.obs
  | .rule => t.rule = x.rule
  | .cfg => t.cfg = x.cfg
  | .ctx => t.ctx = x.ctx
  | .chans => t.chans = x.chans
  | .banks => t.banks = x.banks
  | .boost => t.boost = x.boost
  | .res => t.res = x.res
  | .dim => t.dim = x.dim
  | .mtx => t.mtx = x.mtx
  | .spi => t.spi = x.spi
  | .loops => t.loops = x.loops
  | .adc => t.adc = x.adc
  | .sto => t.sto = x.sto
  | .link => t.link = x.link
  | .ring => t.ring = x.ring
  | .ptp => t.ptp = x.ptp
  | .mbx => t.mbx = x.mbx
  | .sec => t.sec = x.sec
  | .bist => t.bist = x.bist
  | .fspi => t.fspi = x.fspi
  | .bus => t.bus = x.bus

/-- The frame: the queue and every part outside `T` are the same in `t` as in `s`. -/
def Only (T : List Comp) (s t : State) : Prop := t.pending = s.pending ∧ ∀ c, c ∉ T → Same s t c

/-- The offset is in a set of registers, written as a list of (first offset, stride): stride 0 is that one register, any other stride
is every offset at a multiple of it above the first. -/
def hits (R : List (Nat × Nat)) (a : Nat) : Bool :=
  R.any fun p => if p.2 = 0 then a == p.1 else decide (p.1 ≤ a) && (a - p.1) % p.2 == 0

/-- Every register outside the set `R` holds the same word in `t` as in `s`. -/
def OnlyRegs (R : List (Nat × Nat)) (s t : State) : Prop := ∀ a, hits R a = false → t.rd a = s.rd a

/-- The pending and mask bank that word `w` of target `t` reads and writes: its private bank for word 0, the shared word otherwise. -/
def bankOf (t w : Nat) : Nat := if w = 0 then t else 3 + w

/-- The pending bit of the shared source `n`, whatever its target. -/
def State.sourcePending (s : State) (n : Nat) : Bool := (s.icuPend (3 + n / 32)).getLsbD (n % 32)

/-- A record of the class and SOURCE joined the log's queue on the way from `s` to `t`, where the log was open in `s` and that
producer's 64-record queue had room (R423-R425). -/
def Logged (s t : State) (cls src : Nat) : Prop :=
  s.logOpen = true → (s.evt.queue.filter fun q => q.src / 4096 == src / 4096).length < 64 →
    ∃ r : EvtRec, r.cls = cls ∧ r.src = src ∧ t.evt.queue = s.evt.queue ++ [r]

/-- The sparse tables of words and bytes are in canonical form: registers, memory die, lifetime slots in flash. -/
def State.Canon (s : State) : Prop :=
  TabWf resetWord s.regs ∧ TabWf (fun _ => (0 : Byte)) s.mem
    ∧ (∀ p ∈ s.life.journal, TabWf (fun _ => (0 : Byte)) p.2) ∧ ∀ p ∈ s.life.snaps, TabWf (fun _ => (0 : Byte)) p.2

/-- What one-time programming promises (R340, R342, R345): a permanent bit stays set and the rollback counter never falls. -/
def OtpKept (s t : State) : Prop :=
  (s.sec.fieldLock = true → t.sec.fieldLock = true) ∧ (s.sec.scannedEver = true → t.sec.scannedEver = true)
    ∧ s.sec.ctr ≤ t.sec.ctr

/-- The command `c` on SC0 has ended on the way from `s` to `t` with its status, RESULT0 and result payload cut to RLEN
(R315, R316), SC0 is free, and nothing else of the mailbox changed. -/
def Ended (s t : State) (c : Cmd) (st r0 : Nat) (out : List Byte) : Prop :=
  t.mbx = { s.mbx with
    cmds := s.mbx.cmds.map fun x =>
      if x.id = c.id then { x with phase := .done, status := st, r0 := r0 % 2 ^ 32, out := out.take x.rlen } else x,
    cur := none }

/-- The command `c` on SC0 passed from SC0 to its block on the way from `s` to `t`: it runs on there, and SC0 is free. -/
def RunsOn (s t : State) (c : Cmd) : Prop :=
  t.mbx = { s.mbx with cmds := s.mbx.cmds.map fun x => if x.id = c.id then { x with phase := .long } else x, cur := none }

/-- The command `c` with an opcode is on SC0, and nothing that holds every command stands against it (R314, R315, R319, R330,
R377, R382). -/
abbrev State.Runs (s : State) (c : Cmd) (op : Nat) : Prop := s.curCmd = some c ∧ c.op = op ∧ s.vet c = none

end Sys2Proof.Machine
end

