-- ==== Sys2Proof/WellFormed.lean ====
section
/-! DEFINITION. Which commands are well formed beyond the types of their operands: a register offset is word aligned (R308), an
interrupt source is one that exists (R346, R359), a CYHAR_CMD body holds a descriptor and at most 1,024 payload bytes (R314, R325), an
address of the memory die lies in its 64 MiB (R411), a transfer of the die-to-die link has 1 to 16 data beats (R9). -/

namespace Sys2Proof

/-- A byte offset of a 32-bit word (R308). -/
def wordAligned (off : Nat) : Bool := off % 4 == 0

/-- A private source of a target, or a shared source, that R359 lists. -/
def sourceExists (t n : Nat) : Bool :=
  if n < 32 then decide (n < if t = 3 then 8 else 10)
  else (n < 36) || (40 ≤ n && n < 61) || (64 ≤ n && n < 96) || 128 ≤ n

/-- An address of the memory die (R411). -/
def dieAddress (a : Nat) : Bool := decide (a < 0x4000000)

/-- The command is well formed. -/
def Instr.wellFormed : Instr → Bool
  | .powerGood .. => true
  | .powerGoodEnd => true
  | .resetNLow => true
  | .powerCycle => true
  | .pfwNFall => true
  | .pfwCleared => true
  | .pfwHigh1s => true
  | .xtal25StartTimeout => true
  | .dawnD0End => true
  | .dawnD1End .. => true
  | .dawnD2End => true
  | .dawnD3End => true
  | .dawnD4End => true
  | .dawnLate => true
  | .gridLost => true
  | .vcoreLow .. => true
  | .commitDeadline .. => true
  | .dlmHoldResume => true
  | .lateResult .. => true
  | .linkTransfer _ _ data _ => decide (1 ≤ data.length ∧ data.length ≤ 16)
  | .linkSilenceTimeout => true
  | .linkHeartbeat .. => true
  | .rulePeriodStart => true
  | .ruleEvalComplete => true
  | .resolverStart => true
  | .resolverComplete => true
  | .aspectCommit => true
  | .ruleStallClear => true
  | .setpointArrival => true
  | .xchkCheck .. => true
  | .pwmPeriodStart .. => true
  | .channelHold .. => true
  | .conversionComplete .. => true
  | .bankStrayOpen .. => true
  | .shortToRailFoldback .. => true
  | .bankOc .. => true
  | .bankOcRetry .. => true
  | .bankReadback .. => true
  | .bankCloseComplete .. => true
  | .thermalShutdown => true
  | .thermalShutdownExit => true
  | .needComputation => true
  | .governorUpdate => true
  | .peakCurrentTrip => true
  | .ovClampOnset => true
  | .ovClampRelease => true
  | .boostShort => true
  | .hiccupRestart => true
  | .boostFbFault => true
  | .softstartCheck => true
  | .loopPeriodStart .. => true
  | .loopResultReady .. => true
  | .loopSwapWrite .. => true
  | .loopSlotMigrate .. => true
  | .ambientUpdate .. => true
  | .brightInLost => true
  | .brightInValid => true
  | .ntcUpdate => true
  | .ntcRecovered => true
  | .patternCycleStart .. => true
  | .overheatAutoClear .. => true
  | .supFltClr .. => true
  | .sigForget .. => true
  | .mtxClearStray .. => true
  | .mtxClearDark .. => true
  | .scanFrameStart => true
  | .scanSlotStart => true
  | .senseSample .. => true
  | .aspVarWrite .. => true
  | .aspReqWrite .. => true
  | .timeSlotUpdate => true
  | .activationWindowEdge => true
  | .obsDataRead .. => true
  | .ruleDataRead .. => true
  | .ringLdDataRead .. => true
  | .bistDataRead .. => true
  | .timeNsRead .. => true
  | .loopStRead .. => true
  | .icuNwstatRead => true
  | .adcGridTrigger .. => true
  | .adcTrigEdge .. => true
  | .adcSoftTriggerReg .. => true
  | .adcSoftTriggerInj .. => true
  | .adcRefctlWrite .. => true
  | .refbufReady .. => true
  | .housekeepingRound .. => true
  | .pairRoundEval .. => true
  | .trimReload => true
  | .trimReloadStart .. => true
  | .trimReloadDone .. => true
  | .ringFrameReceive .. => true
  | .egressTxComplete .. => true
  | .signalFailOnset .. => true
  | .signalFailClear .. => true
  | .sfpModulePoll .. => true
  | .ringRateAlternate .. => true
  | .rapsReceive .. => true
  | .rapsTransmit => true
  | .holdoffExpiry .. => true
  | .guardExpiry => true
  | .launchTemplateCopy .. => true
  | .launchGuardStart .. => true
  | .launchGateOpen .. => true
  | .launchWindowClose .. => true
  | .eventFrameSend => true
  | .cyharCmdFrame _ _ _ body => decide (body.length ≤ 1088)
  | .cyharReplyDrop .. => true
  | .ringContextIdleDrop .. => true
  | .announceReceive .. => true
  | .syncReceive .. => true
  | .pdelayReqSend .. => true
  | .pdelayReqReceive .. => true
  | .pdelayRespReceive .. => true
  | .pdelayTimeout .. => true
  | .tcEntryExpiry => true
  | .timeStep => true
  | .masterLost => true
  | .trustTimerExpiry => true
  | .routeHoldEnd => true
  | .timeRearmStep => true
  | .rearmLapse => true
  | .localOffsetChange => true
  | .ppsOutEdge => true
  | .ppsInEdge .. => true
  | .safetyCycle => true
  | .stoRefreshWord .. => true
  | .stoRefreshTimeout .. => true
  | .tpWindowStart .. => true
  | .tpWindowEnd .. => true
  | .tpReadback .. => true
  | .tpLowTimeout .. => true
  | .sinSample .. => true
  | .sinWindowJudge .. => true
  | .discrepancySample => true
  | .sealRowRead .. => true
  | .stoOffPulseStart .. => true
  | .stoOffPulseEnd .. => true
  | .stoPulseReadback .. => true
  | .stoPulseRepeat .. => true
  | .stoReadbackTimeout .. => true
  | .srstStuck => true
  | .qspiWriteS .. => true
  | .qspiReadS .. => true
  | .qspiStatus => true
  | .qspiWriteQ .. => true
  | .qspiReadQ .. => true
  | .qspiInvalidInstruction => true
  | .memwinFetchDone .. => true
  | .lineBufferAge .. => true
  | .devMempageWrite .. => true
  | .sqnDoorbell .. => true
  | .squDoorbell .. => true
  | .cqHeadWrite .. => true
  | .mbxStatClear .. => true
  | .mbxReset .. => true
  | .mbxResetDone => true
  | .descriptorCopy .. => true
  | .commandSchedule => true
  | .completionPost => true
  | .nop => true
  | .regRead => true
  | .regWrite => true
  | .cfgStageBlock => true
  | .cfgCommit .. => true
  | .cfgReport => true
  | .aspectRequest => true
  | .bistRun => true
  | .logReadEvents => true
  | .logReadTail => true
  | .logReadLifetime => true
  | .logReadSnapshot => true
  | .captureArmNow => true
  | .captureArmEvent => true
  | .captureArmTime => true
  | .captureArmPin => true
  | .captureDisarm => true
  | .elevate => true
  | .drop => true
  | .dropAll => true
  | .challengeElevate => true
  | .challengeDebug => true
  | .respondElevate => true
  | .respondDebug => true
  | .invalidOpcode => true
  | .elevationTimeout .. => true
  | .nonceExpiry .. => true
  | .lockoutEnd => true
  | .passwordSet .. => true
  | .passwordClear .. => true
  | .rollbackAdvance .. => true
  | .fieldLockSet .. => true
  | .testEntry => true
  | .icuSourceEdge t n => sourceExists t.val n.val
  | .icuPendSet .. => true
  | .icuPendClr .. => true
  | .icuMaskSet .. => true
  | .icuMaskClr .. => true
  | .icuAcknowledge .. => true
  | .icuEoi .. => true
  | .moderationWindowEnd .. => true
  | .hostSleepRise .. => true
  | .cfgActivation => true
  | .duskRequest .. => true
  | .duskCancel .. => true
  | .duskEntry => true
  | .duskExitRequest .. => true
  | .duskWakeEvent .. => true
  | .duskExitResume => true
  | .midnightEntry .. => true
  | .morningCheckFire => true
  | .morningBankStart => true
  | .morningCheckSkip => true
  | .bistBlockStart .. => true
  | .bistBlockEnd .. => true
  | .bistRegionStep .. => true
  | .ruleengSlice => true
  | .ruleengSliceCutoff => true
  | .lifetimeFold .. => true
  | .persistTimer => true
  | .persistDone .. => true
  | .persistRetry => true
  | .dailySnapshot => true
  | .clrCh .. => true
  | .clrDev => true
  | .eventRecordWrite => true
  | .evtRdseqWrite .. => true
  | .evtThreshWrite .. => true
  | .captureTrigger => true
  | .captureFreeze => true
  | .faultGroupClear .. => true
  | .bankocReclose .. => true
  | .sc0Heartbeat .. => true
  | .sc0Lost .. => true
  | .sc0Reset => true
  | .sc0RestartComplete .. => true
  | .sfcHeartbeat .. => true
  | .sfcLost => true
  | .sc1Heartbeat => true
  | .sc1Lost .. => true
  | .sc1RestartDone => true
  | .eccUncorrected loc _ addr => !([5, 6, 8].contains loc.val) || dieAddress addr.toNat
  | .spi3032Transaction .. => true
  | .chCtrlWrite .. => true
  | .pwHiWrite .. => true
  | .spiLock .. => true
  | .selftestStart .. => true
  | .spiFltclr .. => true
  | .registerWrite _ off _ => wordAligned off.toNat
  | .ppsOutFall => true
  | .ovClampQuiet => true
  | .hostIrqMinHighEnd => true
  | .xtal25Return => true

end Sys2Proof
end

