-- ==== Sys2Proof/Certificates/Slice0/Obligations.lean ====
section
/-! DEFINITION. The statements for the provers. -/

open Sys2Proof Sys2Proof.Machine

/-- For every command and state, a step of the state with that command at the front of its queue is exec of the command on
the state with the rest of the queue. -/
def Obligations.StepRunsFront : Prop :=
  ∀ (c : Instr) (rest : List Instr) (s : State),
    step { s with pending := c :: rest } = exec c { s with pending := rest }

/-- A write of ICU_PEND_SETw completes: the bits of the target's view are set in the bank of word w and every other pending
word and every mask word stay. A write of ICU_PEND_CLRw completes: the bits are cleared there, and nothing outside the
interrupt controller and the pin HOST_IRQ_N changes.
The model's own choices in it: log entries 37, 38. -/
def Obligations.IcuPendingWrites : Prop :=
  ∀ (t : Fin 4) (w : Fin 8) (x : BitVec 32) (s : State),
    Completes (.icuPendSet t w x) s (fun u =>
      (∀ k, u.icuPend k = if k = bankOf t w then s.icuPend k ||| s.viewBits t w x else s.icuPend k)
        ∧ ∀ k, u.icuMask k = s.icuMask k)
    ∧ Completes (.icuPendClr t w x) s (fun u =>
      (∀ k, u.icuPend k = if k = bankOf t w then s.icuPend k &&& ~~~s.viewBits t w x else s.icuPend k)
        ∧ (∀ k, u.icuMask k = s.icuMask k) ∧ u.pins = { s.pins with hostIrqN := u.pins.hostIrqN } ∧ Only [.icu, .pins] s u)

/-- A write of ICU_MASK_SETw completes and masks the bits of the target's view in the bank of word w; a write of
ICU_MASK_CLRw completes and enables them. No pending word changes and nothing outside the interrupt controller does.
The model's own choices in it: log entries 37, 38. -/
def Obligations.IcuMaskWrites : Prop :=
  ∀ (t : Fin 4) (w : Fin 8) (x : BitVec 32) (s : State),
    Completes (.icuMaskSet t w x) s (fun u =>
      (∀ k, u.icuMask k = if k = bankOf t w then s.icuMask k ||| s.viewBits t w x else s.icuMask k)
        ∧ (∀ k, u.icuPend k = s.icuPend k) ∧ Only [.icu] s u)
    ∧ Completes (.icuMaskClr t w x) s (fun u =>
      (∀ k, u.icuMask k = if k = bankOf t w then s.icuMask k &&& ~~~s.viewBits t w x else s.icuMask k)
        ∧ (∀ k, u.icuPend k = s.icuPend k) ∧ Only [.icu] s u)

/-- An edge of ECC_CE of an internal core, or outside Dusk of its TIMER, completes and sets its bit in that core's bank alone. An
edge of a listed shared source, outside Dusk or of a source that rises in Dusk, completes and sets its bit in its word alone. No
mask bit changes. SWI0-SWI7 have no signal and TIMER does not rise in Dusk: an edge named for one of them completes with nothing
changed.
The model's own choices in it: log entries 5, 37. -/
def Obligations.IcuSourceEdges : Prop :=
  ∀ (t : Fin 4) (n : Fin 256) (s : State),
    ((n : Nat) = 9 ∨ ((n : Nat) = 8 ∧ s.inDusk = false) → t ≠ 3 → Completes (.icuSourceEdge t n) s (fun u =>
      (∀ k, u.icuPend k = if k = (t : Nat) then s.icuPend k ||| BitVec.ofNat 32 (2 ^ (n : Nat)) else s.icuPend k)
        ∧ (∀ k, u.icuMask k = s.icuMask k) ∧ Only [.icu] s u))
    ∧ ((n : Nat) < 8 ∨ ((n : Nat) = 8 ∧ s.inDusk = true) → Completes (.icuSourceEdge t n) s (fun u => u = s))
    ∧ (32 ≤ (n : Nat) → sourceListed n = true → (s.inDusk = false ∨ risesInDusk n = true) →
      Completes (.icuSourceEdge t n) s (fun u =>
        (∀ k, u.icuPend k = if k = 3 + (n : Nat) / 32 then s.icuPend k ||| BitVec.ofNat 32 (2 ^ ((n : Nat) % 32)) else s.icuPend k)
          ∧ ∀ k, u.icuMask k = s.icuMask k))

/-- A requested target's acknowledge completes with its in-service flag set and the core out of its wait state; for HOST the
delivered set of each word is the sources pending and not masked in its view, and HOST_IRQ_N goes low unless the link is lost.
ICU_EOI of a core in service completes with the flag clear and the moderation window running exactly if MOD is not 0 and the core
is not idle; one after which the core waits leaves it waiting and no window running; ICU_EOI has no effect on HOST. The end of a
moderation window that has run out, the rise of HOST_SLEEP and, 25 ticks after HOST_IRQ_N rose, the end of its minimum high time
complete with the window or the flag clear; before its time an end changes nothing, and the fall of HOST_SLEEP leaves the window.
A read of ICU_NWSTAT clears WOKE and no other register.
The model's own choices in it: log entries 5, 18, 37. -/
def Obligations.IcuDelivery : Prop :=
  ∀ (t : Fin 4) (wait high : Bool) (s : State),
    (tabGet (fun _ => false) s.icu.request t = true → Completes (.icuAcknowledge t) s (fun u =>
      tabGet (fun _ => false) u.icu.insvc t = true ∧ tabGet (fun _ => false) u.icu.waiting t = false
        ∧ (t = 3 → (∀ w : Fin 8, tabGet (fun _ => (0 : Word)) u.icu.dlv w = s.viewAct 3 w)
          ∧ u.pins = { s.pins with hostIrqN := s.pins.hostIrqN && s.link.lost })
        ∧ (t ≠ 3 → u.pins = s.pins)
        ∧ (∀ k, u.icuPend k = s.icuPend k ∧ u.icuMask k = s.icuMask k) ∧ Only [.icu, .pins] s u))
    ∧ (t ≠ 3 → tabGet (fun _ => false) s.icu.insvc t = true → Completes (.icuEoi t wait) s (fun u =>
      tabGet (fun _ => false) u.icu.insvc t = false
        ∧ (wait = false → tabGet (fun _ => false) u.icu.window t = (s.modOf t != 0 && !s.idle t))
        ∧ (wait = true → tabGet (fun _ => false) u.icu.window t = false ∧ tabGet (fun _ => false) u.icu.waiting t = true)
        ∧ Only [.icu] s u))
    ∧ Completes (.icuEoi 3 wait) s (fun u => u = s)
    ∧ (s.windowOver t = true → Completes (.moderationWindowEnd t) s (fun u =>
      tabGet (fun _ => false) u.icu.window t = false ∧ Only [.icu] s u))
    ∧ (s.windowOver t = false → Completes (.moderationWindowEnd t) s (fun u => u = s))
    ∧ Completes (.hostSleepRise high) s (fun u => u.pins = { s.pins with hostSleep := high }
      ∧ tabGet (fun _ => false) u.icu.window 3 = (tabGet (fun _ => false) s.icu.window 3 && !high) ∧ Only [.icu, .pins] s u)
    ∧ (s.icu.highAt + 25 ≤ s.grid.tick → Completes .hostIrqMinHighEnd s (fun u => u.icu.minHigh = false ∧ Only [.icu] s u))
    ∧ (s.grid.tick < s.icu.highAt + 25 → Completes .hostIrqMinHighEnd s (fun u => u = s))
    ∧ Completes .icuNwstatRead s (fun u =>
      u.flag fNWSTAT_WOKE = false ∧ OnlyRegs [(aICU_NWSTAT, 0)] s u ∧ Only [.regs] s u)

/-- After a write of the pending or mask words, the end of a moderation window that has run out, the rise or fall of HOST_SLEEP and
the end of the minimum high time 25 ticks after HOST_IRQ_N rose, the request to each of the four targets is raised exactly if
the target is deliverable: not in service, not held back by its window, and with a source pending and not masked in its view.
The model's own choices in it: log entry 37. -/
def Obligations.IcuRequestsFollow : Prop :=
  ∀ (t u : Fin 4) (w : Fin 8) (x : BitVec 32) (high : Bool) (s : State),
    let follows := fun (s' : State) => tabGet (fun _ => false) s'.icu.request u = s'.deliverable u
    (∀ c ∈ [Instr.icuPendSet t w x, .icuPendClr t w x, .icuMaskSet t w x, .icuMaskClr t w x, .hostSleepRise high],
      Completes c s follows)
    ∧ (s.windowOver t = true → Completes (.moderationWindowEnd t) s follows)
    ∧ (s.icu.highAt + 25 ≤ s.grid.tick → Completes .hostIrqMinHighEnd s follows)

/-- From ARMED with the trigger NOW, or TIME reached, CAPTURE_TRIGGER completes in TRIGGERED with the grid tick in
CAP_TRIGTICK and nothing else changed; a trigger in TRIGGERED or FROZEN is ignored. CAPTURE_FREEZE in TRIGGERED, 25 ticks
times POST after CAP_TRIGTICK or later, completes in FROZEN, not marked as a Midnight freeze, with CAPTURE logged and source 58
pending outside Dusk; before that, and in any other state, it changes nothing. Neither changes a byte of the memory die.
The model's own choices in it: log entries 5, 30, 55. -/
def Obligations.CaptureTriggerAndFreeze : Prop :=
  ∀ s : State,
    let ended := 25 * s.cap.post ≤ (s.tick32 + 2 ^ 32 - (s.rd aCAP_TRIGTICK).toNat) % 2 ^ 32
    (s.get fCAP_STATE = 1 → (s.cap.trig = 0 ∨ (s.cap.trig = 2 ∧ s.cap.target ≤ s.timeNs)) → Completes .captureTrigger s (fun u =>
      u.get fCAP_STATE = 2 ∧ u.flag fCAP_AUTO = false ∧ (u.rd aCAP_TRIGTICK).toNat = s.tick32
        ∧ Only [.regs] s u ∧ OnlyRegs [(aDEV_CAP_STAT, 0), (aCAP_TRIGTICK, 0)] s u))
    ∧ (2 ≤ s.get fCAP_STATE → Completes .captureTrigger s (fun u => u = s))
    ∧ (s.get fCAP_STATE = 2 → ended → Completes .captureFreeze s (fun u =>
      u.get fCAP_STATE = 3 ∧ u.flag fCAP_MN_FREEZE = false ∧ (s.inDusk = false → u.sourcePending 58 = true)
        ∧ Logged s u evCAPTURE (kDEVICE * 4096) ∧ Only [.regs, .icu, .evt, .nw, .cap, .pwr] s u
        ∧ OnlyRegs [(aDEV_CAP_STAT, 0), (aEVT_DROP, 0), (aDEV_NW_STAT, 0), (aDEV_PWR_STAT, 0), (aICU_NWSTAT, 0)] s u))
    ∧ (s.get fCAP_STATE ≠ 2 ∨ ¬ ended → Completes .captureFreeze s (fun u => u = s))

/-- AMBIENT_UPDATE completes with the Noon level for source NOON and the clamped observation for source OBSERVATION, and
changes only the dimming state and DEV_DIM_STAT, with source BRIGHT_IN also the mark that slot 1 starts afresh. Loss of the PWM input sets BIN_LOST and logs BRIGHT_IN_LOST once; its return
clears BIN_LOST. NTC_UPDATE with a reading out of range sets NTC_FAULT and logs it once per onset; in range it stores the
temperature and leaves NTC_FAULT; NTC_RECOVERED clears it.
The model's own choices in it: log entries 5, 8, 25, 75. -/
def Obligations.AmbientAndInputs : Prop :=
  ∀ (d : BitVec 16) (s : State),
    Completes (.ambientUpdate d) s (fun u => Only [.regs, .dim, .loops] s u ∧ OnlyRegs [(aDEV_DIM_STAT, 0)] s u
      ∧ (s.get fDIM_SRC ≠ 1 → u.loops = s.loops) ∧ (∀ n, n ≠ 1 → u.loop n = s.loop n)
      ∧ (s.get fDIM_SRC = 2 → u.get fDIM_AMBIENT = s.get fNOON)
      ∧ (s.get fDIM_SRC = 3 → u.get fDIM_AMBIENT = (clampInt 0 0xFFFF (s.obsNow (s.get fOBS_HI * 32 + s.get fOBS_LO)).1).toNat))
    ∧ (s.get fBIN_INPUT = 1 → s.flag fDIM_BIN_LOST = false → Completes .brightInLost s (fun u =>
      u.flag fDIM_BIN_LOST = true ∧ Logged s u evBRIGHT_IN_LOST (kDEVICE * 4096) ∧ Only [.regs, .evt] s u
        ∧ OnlyRegs [(aDEV_DIM_STAT, 0), (aDEV_NW_STAT, 0), (aEVT_DROP, 0)] s u))
    ∧ (s.flag fDIM_BIN_LOST = true → Completes .brightInLost s (fun u => u = s))
    ∧ Completes .brightInValid s (fun u => u.flag fDIM_BIN_LOST = false ∧ Only [.regs] s u ∧ OnlyRegs [(aDEV_DIM_STAT, 0)] s u)
    ∧ Completes .ntcUpdate s (fun u => u.dim.ntc = (s.ntcModel s.dim.ntcCode).getD s.dim.ntc
        ∧ u.flag fDIM_NTC_FAULT = (s.flag fDIM_NTC_FAULT || !s.ntcInRange)
        ∧ Only [.regs, .icu, .evt, .nw, .pwr, .chans, .banks, .dim, .mtx] s u)
    ∧ (s.ntcInRange = true → Completes .ntcRecovered s (fun u =>
      u.flag fDIM_NTC_FAULT = false ∧ Only [.regs] s u ∧ OnlyRegs [(aDEV_DIM_STAT, 0)] s u))

/-- GRID_LOST on a running grid from XTAL25 completes with SRC set, XTAL_OK clear, fault group 13 set, time UNTRUSTED with
CAUSE GRID, and GRID_LOST logged; the tick counter keeps its value. On a grid that runs from the internal oscillator already
it clears XTAL_OK and changes nothing else. XTAL25_RETURN sets XTAL_OK and never changes the source. VCORE_LOW in Run sets
its flag and fault group 20, and its end clears both.
The model's own choices in it: log entries 5, 80. -/
def Obligations.GridReference : Prop :=
  ∀ s : State,
    (s.flag fGRID_SRC = false → s.grid.running = true → Completes .gridLost s (fun u =>
      u.flag fGRID_SRC = true ∧ u.flag fGRID_XTAL_OK = false ∧ u.flag (fFLT_GROUP 13) = true ∧ u.get fTIME_STATE = 4
        ∧ u.get fTIME_CAUSE = 2 ∧ Only [.regs, .icu, .evt, .nw, .pwr, .ptp, .bist] s u))
    ∧ (s.flag fGRID_SRC = true → Completes .gridLost s (fun u =>
      u.flag fGRID_SRC = true ∧ u.flag fGRID_XTAL_OK = false ∧ Only [.regs] s u ∧ OnlyRegs [(aDEV_GRID_STAT, 0)] s u))
    ∧ Completes .xtal25Return s (fun u =>
      u.flag fGRID_XTAL_OK = true ∧ u.get fGRID_SRC = s.get fGRID_SRC ∧ Only [.regs] s u ∧ OnlyRegs [(aDEV_GRID_STAT, 0)] s u)
    ∧ (s.pstate = 1 → Completes (.vcoreLow true) s (fun u =>
      u.flag fGRID_VCORE_LOW = true ∧ u.flag (fFLT_GROUP 20) = true ∧ Only [.regs, .icu, .nw, .pwr, .bist] s u))
    ∧ Completes (.vcoreLow false) s (fun u =>
      u.flag fGRID_VCORE_LOW = false ∧ u.flag (fFLT_GROUP 20) = false ∧ Only [.regs] s u
        ∧ OnlyRegs [(aDEV_GRID_STAT, 0), (aDEV_FLT_ACT, 0)] s u)

/-- With the power good and no Midnight held, MIDNIGHT_ENTRY with a cause 1-8 completes with that cause latched, STATE
MIDNIGHT, the boost gate and ASPECT_READY low, the boost mode MIDNIGHT and every channel lit exactly if the latched fallback
table lights it, with no current where it does not; nothing in the configuration, the rule engine, the ring, network time or
the interrupt masks is changed. While Midnight is held a further cause changes nothing.
The model's own choices in it: log entries 5, 30. -/
def Obligations.MidnightEntry : Prop :=
  ∀ (k : Fin 8) (s : State),
    (s.pwr.good = true → s.midnight = false → Completes (.midnightEntry k) s (fun u =>
      u.get fNW_MN_CAUSE = (k : Nat) + 1 ∧ u.pstate = 5 ∧ u.midnight = true
        ∧ u.pins.aspectReady = false ∧ u.pins.bstGate = false ∧ u.get fBST_MODE = 7
        ∧ (∀ c < 128, (u.chan c).lit = s.inTable c ∧ (s.inTable c = false → (u.chan c).iop = 0))
        ∧ u.cfg = s.cfg ∧ u.rule = s.rule ∧ u.res = s.res ∧ u.ring = s.ring ∧ u.ptp = s.ptp ∧ u.sec = s.sec ∧ u.icu.mask = s.icu.mask))
    ∧ (s.midnight = true → Completes (.midnightEntry k) s (fun u => u = s))

/-- On a link that is not lost: a well-formed transfer with good parity and the next number completes with that number recorded
and nothing but the link changed, and a heartbeat completes as such a transfer. A transfer with errors in both halves of a wide
link is counted and loses the link, and so does silence. A first error of the link as a whole (wrong number or form, good
parity) is counted, asks for a retransmission and loses nothing. A retransmission that fails in one half of a wide link narrows it
to the other half and logs that. Losing the link raises HOST_IRQ_N and enters Midnight with cause 3. On a lost link none of the three changes anything.
The model's own choices in it: log entries 5, 29, 72. -/
def Obligations.DieLink : Prop :=
  ∀ (dir : Bool) (head check : BitVec 32) (data : List (BitVec 32)) (s : State),
    let x : Xfer := ⟨head, data, check⟩
    let d := s.link.dir (boolNat dir)
    let bad := s.link.badLanes x
    let next := (d.seq + 1) % 256
    let taken := fun (u : State) => (u.link.dir (boolNat dir)).seq = next ∧ (u.link.dir (boolNat dir)).retry = false
      ∧ u.link.err = s.link.err ∧ u.link.lost = false ∧ Only [.link] s u
    (s.link.lost = false → bad = 0 → x.shaped = true → x.seq = next → Completes (.linkTransfer dir head data check) s taken)
    ∧ (s.link.lost = false → Completes (.linkHeartbeat dir) s taken)
    ∧ (s.link.lost = false → bad % 65536 ≠ 0 → bad / 65536 ≠ 0 → Completes (.linkTransfer dir head data check) s (fun u =>
      u.link.lost = true ∧ u.link.err = (s.link.err + 1) % 2 ^ 32 ∧ u.pins.hostIrqN = true ∧ u.midnight = true ∧ (s.midnight = false → u.get fNW_MN_CAUSE = 3)))
    ∧ (s.link.lost = false → bad = 0 → x.shaped = false ∨ x.seq ≠ next → d.retry = false → s.link.seqErr = [] →
      Completes (.linkTransfer dir head data check) s (fun u =>
        u.link.lost = false ∧ u.link.err = (s.link.err + 1) % 2 ^ 32 ∧ u.link.dir (boolNat dir) = { d with retry := true } ∧ Only [.link] s u))
    ∧ (s.link.lost = false → s.link.narrow = false → bad ≠ 0 → bad % 65536 = 0 ∨ bad / 65536 = 0 → d.retry = true →
        s.underTest bkLINK = false → Completes (.linkTransfer dir head data check) s (fun u =>
      u.link.narrow = true ∧ u.link.half = (if bad % 65536 = 0 then 0 else 1) ∧ u.link.lost = false
        ∧ u.link.err = (s.link.err + 1) % 2 ^ 32 ∧ u.flag (fFLT_GROUP 12) = true
        ∧ Logged s u evDIE_LINK_DEGRADED (kDEVICE * 4096) ∧ Only [.regs, .icu, .evt, .nw, .pwr, .link] s u))
    ∧ (s.link.lost = false → Completes .linkSilenceTimeout s (fun u =>
      u.link.lost = true ∧ u.pins.hostIrqN = true ∧ u.midnight = true ∧ (s.midnight = false → u.get fNW_MN_CAUSE = 3)))
    ∧ (s.link.lost = true → ∀ c ∈ [Instr.linkTransfer dir head data check, .linkHeartbeat dir, .linkSilenceTimeout],
      Completes c s (fun u => u = s))

/-- COMMIT_DEADLINE of a class and instance acts on that instance's deadline tick, once, unless the class is suspended. Without its
ready handshake it then completes: for the classes PWM, TEST and TIME always, for a loop class where the slot is not held, for
RULE where the period's result has not been committed, for LAUNCH where the descriptor is copied. The class counter counts up by
one modulo 2^32, the run of misses of that class grows by one and no other run changes, and source 40 is pending. A RULE miss
changes no channel, bank or aspect; a PWM miss marks its channel. Of a suspended class, at another tick (a slot of the other loop
class has none), or a second time on its tick, it changes nothing.
The model's own choices in it: log entries 5, 36, 70, 77. -/
def Obligations.DeadlineMissed : Prop :=
  ∀ (k n : Nat) (hk : k < 8) (_hn : n < 256) (s : State),
    let slot := if k = 0 then 0 else n % 32
    let due := s.classSuspended k = false ∧ s.deadlineTick k n = true ∧ s.untaken (State.deadlineKey k n) = true
    (due → (k ≤ 2 → (s.loop slot).hold = false) → (k = 3 → s.res.committed = false) → (k = 5 → (s.launch (n % 128)).copied = true) →
      Completes (.commitDeadline ⟨k, hk⟩ (BitVec.ofNat 8 n) false) s (fun u =>
        u.rd (aDEV_DLM_CNT k) = s.rd (aDEV_DLM_CNT k) + 1
          ∧ (∀ j, u.missRun j = if j = k then s.missRun k + 1 else s.missRun j)
          ∧ u.sourcePending 40 = true
          ∧ (k = 3 → u.chans = s.chans ∧ u.banks = s.banks ∧ u.res.asps = s.res.asps)
          ∧ (k = 4 → (u.chan (n % 128)).missed = true)))
    ∧ (¬ due → ∀ ready, Completes (.commitDeadline ⟨k, hk⟩ (BitVec.ofNat 8 n) ready) s (fun u => u = s))

/-- On its deadline tick, once, COMMIT_DEADLINE with its ready handshake completes for the classes PWM, TEST and TIME, and for a loop
class whose slot is held or has its result, with the run of that class 0, every other run unchanged and the class counter
unchanged. DLM_HOLD_RESUME after 250 on-time results clears DLM_HOLD and re-seeds the integrator of slot 0 from the duty that was
held; RULE_STALL_CLEAR after 16 on-time commits clears RULE_STALL; before that each changes nothing. A late result of a loop slot
empties that result and touches nothing else, and of TIME its rate word; a late rule result leaves no resolution, and no result but
one that was ready in time, and where its walk is still under way that walk runs to its end with no demand, while a later walk
stands; of another class, or of a slot that commits in the other loop class, it changes nothing.
The model's own choices in it: log entries 5, 36, 77. -/
def Obligations.DeadlineMetAndRecovery : Prop :=
  ∀ (k n : Nat) (hk : k < 8) (_hn : n < 256) (s : State),
    let slot := if k = 0 then 0 else n % 32
    let other := (k = 1 ∨ k = 2) ∧ s.loopClass slot k = false
    let due := s.classSuspended k = false ∧ s.deadlineTick k n = true ∧ s.untaken (State.deadlineKey k n) = true
    (due → k ≠ 3 → k ≠ 5 → (k ≤ 2 → (s.loop slot).hold = true ∨ (s.loop slot).res ≠ none) →
      Completes (.commitDeadline ⟨k, hk⟩ (BitVec.ofNat 8 n) true) s (fun u =>
        u.rd (aDEV_DLM_CNT k) = s.rd (aDEV_DLM_CNT k) ∧ ∀ j, u.missRun j = if j = k then 0 else s.missRun j))
    ∧ (s.flag fGRID_DLM_HOLD = true → 250 ≤ s.boost.onTime → s.pairFault 7 = false → s.loopLost 0 = false →
      Completes .dlmHoldResume s (fun u => u.flag fGRID_DLM_HOLD = false ∧ (u.loop 0).reseed = true ∧ (u.loop 0).u = s.boost.duty
        ∧ Only [.regs, .icu, .nw, .pwr, .loops] s u))
    ∧ (s.boost.onTime < 250 → Completes .dlmHoldResume s (fun u => u = s))
    ∧ (s.flag fGRID_RULE_STALL = true → 16 ≤ s.res.onTime → Completes .ruleStallClear s (fun u =>
      u.flag fGRID_RULE_STALL = false ∧ Only [.regs, .icu, .nw, .pwr] s u))
    ∧ (s.res.onTime < 16 → Completes .ruleStallClear s (fun u => u = s))
    ∧ Completes (.lateResult ⟨k, hk⟩ (BitVec.ofNat 8 n)) s (fun u =>
        (k ≤ 2 → ¬ other → u.loop slot = { s.loop slot with res := none } ∧ Only [.loops] s u)
        ∧ (k = 3 → u.res = { s.res with ready := s.ruleReady, running := false } ∧ (s.lateWalk = true → u.rule.demands = [])
          ∧ (s.lateWalk = false → u.rule = s.rule) ∧ Only [.regs, .rule, .res] s u ∧ OnlyRegs [(aRULE_EVAL, 0)] s u)
        ∧ (k = 7 → u.ptp = { s.ptp with next := none } ∧ Only [.ptp] s u)
        ∧ ((4 ≤ k ∧ k ≤ 6) ∨ other → u = s))

/-- XCHK_CHECK completes. Before tick 7,500 of the rule period, while rules do not run or SFC does not run it changes nothing. A suspended period counts the
suspension down, shows SUSP and forgets skips. A period whose check is finished ends the count of skipped periods and clears
STALL; one that is not finished counts one more skipped period and leaves STALL, and the third in a row sets STALL, logs
HAZARD_XCHK_STALL and sets fault group 8. A suspended or skipped check changes no channel, no bank and no Midnight latch.
The model's own choices in it: log entries 5, 8, 70, 76. -/
def Obligations.HazardCrossCheck : Prop :=
  ∀ (fin : Bool) (s : State),
    (s.rulesRun = false ∨ s.sfcRuns = false ∨ s.ruleTick 7500 = false → Completes (.xchkCheck fin) s (fun u => u = s))
    ∧ (s.rulesRun = true → s.sfcRuns = true → s.ruleTick 7500 = true →
      (s.res.suspend ≠ 0 → Completes (.xchkCheck fin) s (fun u =>
        u.res.suspend = s.res.suspend - 1 ∧ u.res.skips = 0 ∧ u.flag fXCHK_SUSP = true
          ∧ Only [.regs, .icu, .nw, .pwr, .rule, .res] s u))
      ∧ (s.res.suspend = 0 → Completes (.xchkCheck true) s (fun u =>
        u.res.skips = 0 ∧ u.res.suspend = 0 ∧ u.flag fXCHK_SUSP = false ∧ u.flag fXCHK_STALL = false))
      ∧ (s.res.suspend = 0 → Completes (.xchkCheck false) s (fun u =>
        u.res.skips = s.res.skips + 1 ∧ u.flag fXCHK_SUSP = false
          ∧ u.flag fXCHK_STALL = (s.flag fXCHK_STALL || s.res.skips == 2)
          ∧ (s.res.skips = 2 → Logged s u evHAZARD_XCHK_STALL (kDEVICE * 4096))
          ∧ Only [.regs, .icu, .evt, .nw, .pwr, .rule, .res] s u)))

/-- ASP_REQ_WRITE outside Midnight completes with the word in ASP_REQn, its reserved bits 15:8 cleared, and no other register
changed. ASP_VAR_WRITE outside Midnight completes with the word in ASP_VARv and written at this tick into every HOST slot that names
it, and into no other slot. In Midnight each of the two changes nothing. TIME_SLOT_UPDATE completes with every TIME slot written with its value at this tick and no other slot.
ACTIVATION_WINDOW_EDGE completes with each of the 16 windows open exactly from START until END, never with END not later than
START, and with the TIME slots written. SENSE_SAMPLE, 250 ticks after the sample before on a running grid, completes with every
fixed slot of an input written at this tick with the accepted level; before that it changes nothing.
The model's own choices in it: log entries 5, 8, 38. -/
def Obligations.ObservationWrites : Prop :=
  ∀ (n : Fin 96) (v : Fin 32) (x : BitVec 32) (ago : List (BitVec 16)) (s : State),
    (s.midnight = false → Completes (.aspReqWrite n x) s (fun u =>
      (u.rd (aASP_REQ n)).toNat = withBits x.toNat 8 8 0 ∧ Only [.regs] s u ∧ OnlyRegs [(aASP_REQ n, 0)] s u))
    ∧ (s.midnight = true → Completes (.aspReqWrite n x) s (fun u => u = s) ∧ Completes (.aspVarWrite v x) s (fun u => u = s))
    ∧ (s.midnight = false → Completes (.aspVarWrite v x) s (fun u =>
      u.rd (aASP_VAR v) = x ∧ OnlyRegs [(aASP_VAR v, 0)] s u ∧ Only [.regs, .obs] s u
        ∧ ∀ k, u.slot k = if k ∈ s.slotsOf 6 ∧ s.slotIdx k = v then ⟨true, signedOf x.toNat 32, s.grid.tick⟩ else s.slot k))
    ∧ Completes .timeSlotUpdate s (fun u => Only [.obs] s u
        ∧ ∀ k, u.slot k = if k ∈ s.slotsOf 5 then ⟨true, s.timeSlotValue (s.slotIdx k), s.grid.tick⟩ else s.slot k)
    ∧ Completes .activationWindowEdge s (fun u => Only [.obs] s u
        ∧ (∀ w < 16, tabGet (fun _ => false) u.obs.twin w
          = decide (s.twinStart w < s.twinEnd w ∧ s.twinStart w ≤ s.timeNs ∧ s.timeNs < s.twinEnd w))
        ∧ ∀ k, u.slot k = if k ∈ s.slotsOf 5 then ⟨true, u.timeSlotValue (s.slotIdx k), s.grid.tick⟩ else s.slot k)
    ∧ (s.senseDue = true → Completes (.senseSample x ago) s (fun u => Only [.regs, .icu, .nw, .pwr, .obs] s u
        ∧ u.obs.senseAt = s.grid.tick + 1
        ∧ ∀ k < 32, u.slot (896 + k) = ⟨true, (boolNat (tabGet (fun _ => defSense) u.obs.sense k).level : Nat), s.grid.tick⟩))
    ∧ (s.senseDue = false → Completes (.senseSample x ago) s (fun u => u = s))

/-- RULE_PERIOD_START at the start of a rule period that has not been started yet completes with the period's start at the grid tick,
the evaluation running and no demand yet. Where no activation waits, the snapshot is the observation slots with their staleness,
the slots and the held states stand, and a walk still under way keeps its own snapshot. Where one waits and no Midnight holds, it
comes first: the waiting words are active, the activation is done and the snapshot is of the slots after it. At another time, or
where no rule period runs, it changes nothing. RULE_EVAL_COMPLETE of a running walk completes with the held states, outputs, groups
and demands that the walk of the active table gives, no walk running, and no register but RULE_EVAL changed, whose bits 15:0 are the
ticks it took; of a walk left over from an earlier period with no demand and the present period's walk begun; of none running with
nothing changed. A read of OBS_DATA0 or of RULE_DATA0 by an elevated context completes with that context's latch loaded from its
index, the index advanced as AUTOINC says, its time-out restarted and no other context's copy changed. Without elevation it changes
nothing, but that over QSPI it sets ACCESS_ERR; of a QSPI that is not served it changes nothing.
The model's own choices in it: log entries 5, 11, 36, 45, 58. -/
def Obligations.RulePeriod : Prop :=
  ∀ (c : Fin 9) (w : CfgWait) (s : State),
    let walk := fun (t : State) => t.evalGroups (ruleGroups (ruleEntries s.cfg.words) []) s.rule.held [] [] []
    let took := fun (u : State) => ((u.rd aRULE_EVAL).toNat % 65536 = (s.grid.tick - s.rule.walk) % 65536)
      ∧ u.rule.walk = s.grid.tick ∧ Only [.regs, .rule] s u ∧ OnlyRegs [(aRULE_EVAL, 0)] s u
    let begins := fun (u : State) => u.rule.start = s.grid.tick ∧ u.rule.running = true ∧ u.rule.demands = []
    let k := s.copyOf c
    let served := (c : Nat) ≠ 0 ∨ (s.spi.mode = false ∧ s.hostValid = true)
    let read := fun (i : Instr) (k' : CtxCopy) =>
      (served → s.elevated c = true → Completes i s (fun u => u.copyOf c = k' ∧ (∀ d, d ≠ (c : Nat) → u.copyOf d = s.copyOf d)
        ∧ tabGet (fun _ => 0) u.sec.used c = s.nw.tick ∧ Only [.ctx, .sec] s u))
      ∧ (served → s.elevated c = false → (c : Nat) = 0 → Completes i s (fun u => u.flag fMBX_ACCESS_ERR = true
        ∧ (s.flag fMBX_ACCESS_ERR = false → u.sourcePending 34 = true) ∧ Only [.regs, .icu, .nw, .pwr] s u
        ∧ OnlyRegs [(aMBX_STAT, 0), (aDEV_PWR_STAT, 0), (aICU_NWSTAT, 0)] s u))
      ∧ (served → s.elevated c = false → (c : Nat) ≠ 0 → Completes i s (fun u => u = s))
      ∧ (¬ served → Completes i s (fun u => u = s))
    (s.periodDueNow = true → Completes .rulePeriodStart s begins)
    ∧ (s.periodDueNow = true → (s.cfg.wait = none ∨ (s.cfg.wait = some w ∧ w.done = true)) → Completes .rulePeriodStart s (fun u =>
      u.obs.snap = s.obs.slots ∧ u.obs.stale = s.staleNow ∧ u.obs.slots = s.obs.slots ∧ u.rule.held = s.rule.held
        ∧ (s.rule.running = false → u.rule.late = none ∧ u.rule.walk = s.grid.tick)
        ∧ (s.rule.running = true → s.rule.late = none → u.rule.late = some (s.obs.snap, s.obs.stale) ∧ u.rule.walk = s.rule.walk)
        ∧ u.untaken periodKey = false ∧ Only [.regs, .grid, .icu, .evt, .nw, .pwr, .obs, .rule] s u))
    ∧ (s.periodDueNow = true → s.cfg.wait = some w → w.done = false → s.midnight = false → Completes .rulePeriodStart s (fun u =>
      u.cfg.wait = some { w with done := true } ∧ u.cfg.words = (w.words.filter fun p => decide (2 ^ 24 ≤ p.1))
        ∧ u.obs.snap = u.obs.slots))
    ∧ (s.periodDueNow = false → Completes .rulePeriodStart s (fun u => u = s))
    ∧ (s.rule.running = true → s.rule.late = none → Completes .ruleEvalComplete s (fun u =>
      (u.rule.held, u.rule.out, u.rule.holds, u.rule.demands) = walk s ∧ u.rule.running = false ∧ took u))
    ∧ (∀ slots stale, s.rule.running = true → s.rule.late = some (slots, stale) → Completes .ruleEvalComplete s (fun u =>
      let r := walk { s with obs := { s.obs with snap := slots, stale := stale } }
      (u.rule.held, u.rule.out, u.rule.holds) = (r.1, r.2.1, r.2.2.1)
        ∧ u.rule.demands = [] ∧ u.rule.running = true ∧ u.rule.late = none ∧ took u))
    ∧ (s.rule.running = false → Completes .ruleEvalComplete s (fun u => u = s))
    ∧ read (.obsDataRead c) { k with obsLatch := s.obsEntry k.obsIdx,
                                     obsIdx := State.autoInc k.obsIdx 10 (if bitsOf k.obsIdx 24 4 = 2 ∨ bitsOf k.obsIdx 24 4 = 3 then 511 else 1023) }
    ∧ read (.ruleDataRead c) { k with ruleLatch := s.ruleDataEntry k.ruleIdx, ruleIdx := State.autoInc k.ruleIdx 11 2047 }

/-- With rules running and the evaluation ended, RESOLVER_START on tick 5,000 of the rule period completes with the
resolution running, no result ready, and the proof and loss of the 128 channels latched as they stand. RESOLVER_COMPLETE of a
running resolution completes with the result ready as of this tick and each aspect's state word in its observation slot.
ASPECT_COMMIT without a result ready before tick 7,500 of the period, or on another tick than that one, changes nothing; with one
it completes with the result taken, and in Dusk entry with the Dusk set latched. SETPOINT_ARRIVAL completes with a lit set-point
waiting and a dark one acting at once, but that a RESTRICTIVE channel lit in thermal shutdown stays lit; a set-point that the link
cannot bring yet stays where it is.
The model's own choices in it: log entries 5, 29, 36, 71. -/
def Obligations.ResolveAndCommit : Prop :=
  ∀ s : State,
    (s.rulesRun = true → s.rule.running = false → s.ruleAt 5000 = true → Completes .resolverStart s (fun u =>
      u.res.running = true ∧ u.res.ready = false ∧ u.res.committed = false
        ∧ (∀ c < 128, tabGet (fun _ => false) u.res.litproof c = s.flag (fSUP_LITPROOF c)
          ∧ tabGet (fun _ => false) u.res.provenLit c = (s.get (fSUP_PROOF c) == 2)
          ∧ tabGet (fun _ => false) u.res.lost c = s.lost c)
        ∧ Only [.regs, .icu, .evt, .nw, .life, .pwr, .res, .spi] s u))
    ∧ (s.rulesRun = false ∨ s.rule.running = true ∨ s.ruleAt 5000 = false → Completes .resolverStart s (fun u => u = s))
    ∧ (s.res.running = true → Completes .resolverComplete s (fun u =>
      u.res.ready = true ∧ u.res.readyAt = s.grid.tick ∧ u.res.running = false ∧ Only [.obs, .res] s u
        ∧ ∀ n < 96, u.slot (928 + n) = ⟨true, ((s.rd (aASP_STAT n)).toNat % 256 : Nat), s.grid.tick⟩))
    ∧ (s.res.running = false → Completes .resolverComplete s (fun u => u = s))
    ∧ (s.ruleReady = false ∨ s.ruleAt 7500 = false → Completes .aspectCommit s (fun u => u = s))
    ∧ (s.ruleReady = true → s.ruleAt 7500 = true → s.midnight = true → Completes .aspectCommit s (fun u =>
      u = { s with res := { s.res with ready := false, committed := true } }))
    ∧ (s.ruleReady = true → s.ruleAt 7500 = true → s.midnight = false → Completes .aspectCommit s (fun u =>
      u.res.ready = false ∧ u.res.committed = true ∧ (s.pstate = 2 → s.pwr.latched = false → u.pwr.latched = true)
        ∧ Only [.regs, .pins, .icu, .evt, .nw, .pwr, .chans, .banks, .boost, .res, .mtx] s u))
    ∧ (s.takesCommits = true → Completes .setpointArrival s (fun u => Only [.regs, .chans, .mtx, .link] s u
        ∧ ∀ c < 128, (s.linkTurn 0 (4, c) = false → u.chan c = s.chan c)
          ∧ (s.linkTurn 0 (4, c) = true → (u.chan c).sent = none ∧ ∀ p, (s.chan c).sent = some p →
            (p.lit = true → (u.chan c).pend = some p)
              ∧ (p.lit = false → (u.chan c).pend = none ∧ (u.chan c).cur = p
                ∧ (s.tsd = false ∨ s.chanClass c ≠ 2 ∨ s.scanned (c / 16) = true → (u.chan c).lit = false)))))
    ∧ (s.takesCommits = false → Completes .setpointArrival s (fun u => u = s))

/-- PWM_PERIOD_START of a channel whose period begins on this tick completes; where the last period was not missed, the waiting
set-point becomes the current one, nothing waits any more, and the period starts at the grid tick; at another time, and for a
scanned channel, it changes nothing. PATTERN_CYCLE_START of a SYNC engine at a match of the time base completes with that
engine's cycle starting at the grid tick; else it changes nothing. SCAN_FRAME_START where a frame begins completes with the
frame at the grid tick, slot 0, on the layout of MTX_CFG; else it changes nothing. SCAN_SLOT_START on the tick of the next slot
of a running frame completes with that slot counted and the columns' SCALE of the slot before it shown; after the frame it leaves the group at slot 0, else it changes nothing.
The model's own choices in it: log entries 5, 23, 24. -/
def Obligations.DriveStarts : Prop :=
  ∀ (c : Fin 128) (p : Fin 8) (s : State),
    let framed := s.flag fMTX_EN = true ∧ s.lampsKept = false ∧ s.midnight = false ∧ 5 ≤ s.get fPWR_PHASE ∧ s.frameDue = true
    let slotted := s.mtx.slot ≤ s.mtxSlots ∧ s.grid.tick = s.mtx.frame + s.mtx.slot * s.slotTicks
    (s.periodDue c = true → (s.chan c).missed = false → Completes (.pwmPeriodStart c) s (fun u =>
      (u.chan c).cur = (s.chan c).pend.getD (s.chan c).cur ∧ (u.chan c).pend = none ∧ (u.chan c).start = s.grid.tick
        ∧ Only [.regs, .free, .evt, .life, .pwr, .chans, .mtx] s u
        ∧ OnlyRegs [(aDEV_NW_STAT, 0), (0x2000, 16), (0x2008, 16), (0x200C, 16), (0x5014, 0)] s u))
    ∧ (s.periodDue c = true → (s.chan c).missed = true → Completes (.pwmPeriodStart c) s (fun u =>
      (u.chan c).missed = false ∧ (u.chan c).start = s.grid.tick ∧ (u.chan c).cur = (s.chan c).cur ∧ Only [.chans] s u))
    ∧ (s.periodDue c = false → Completes (.pwmPeriodStart c) s (fun u => u = s))
    ∧ (s.scanned (c / 16) = true → Completes (.pwmPeriodStart c) s (fun u => u = s))
    ∧ (s.flag (fPAT_SYNC p) = true → s.flag fTIME_SET = true → s.patMatch p = true → Completes (.patternCycleStart p) s (fun u =>
      tabGet (fun _ => 0) u.dim.patStart p = s.grid.tick ∧ tabGet (fun _ => false) u.dim.patWait p = false ∧ Only [.dim] s u))
    ∧ (s.flag (fPAT_SYNC p) = false ∨ s.flag fTIME_SET = false ∨ s.patMatch p = false →
      Completes (.patternCycleStart p) s (fun u => u = s))
    ∧ (framed → Completes .scanFrameStart s (fun u =>
      u.mtx.frame = s.grid.tick ∧ u.mtx.slot = 0 ∧ u.mtx.live = (s.rd aMTX_CFG).toNat
        ∧ Only [.regs, .free, .evt, .life, .pwr, .chans, .banks, .mtx] s u
        ∧ OnlyRegs [(aDEV_NW_STAT, 0), (0x204, 0), (0x2000, 16), (0x2008, 16), (0x200C, 16), (0x2900, 0), (0x5014, 0)] s u))
    ∧ (¬ framed → Completes .scanFrameStart s (fun u => u = s))
    ∧ (s.frameRuns = true → slotted → Completes .scanSlotStart s (fun u =>
      u.mtx.slot = s.mtx.slot + 1 ∧ Only [.regs, .banks, .mtx] s u ∧ OnlyRegs [(0x204, 0), (0x2000, 16)] s u))
    ∧ (s.frameRuns = true → ¬ slotted → Completes .scanSlotStart s (fun u => u = s))
    ∧ (s.flag fMTX_RUN = true → s.frameRuns = false → Completes .scanSlotStart s (fun u =>
      u.mtx.slot = 0 ∧ u.flag fMTX_RUN = s.flag fMTX_EN ∧ Only [.regs, .banks, .mtx] s u
        ∧ OnlyRegs [(0x204, 0), (0x2900, 0)] s u))
    ∧ (s.flag fMTX_RUN = false → Completes .scanSlotStart s (fun u => u = s))

/-- SUP_FLT_CLR completes for the named channel, or for all with ALL set: each selected latch is clear, but an OVERHEAT of a
thermal shutdown that still holds, every other latch stands, and the proof restarts. SIG_FORGET with its command bit
completes with the signature words zero. SHORT_TO_RAIL_FOLDBACK within a pulse, 111 ticks after its front, completes with SHORT
latched, no LITPROOF and the pulse ended at this tick; at another time it changes nothing.
OVERHEAT_AUTO_CLEAR completes with the latch clear where the lamp has stayed cool for 10 s and its other conditions hold, else with
no change. MTX_FLT_CLR with STRAY or DARK completes with those bits clear. BANK_STRAY_OPEN of a commanded bank that the link can
bring now completes with the command taken and, outside role 2 and mode 0, the bank open and held; else with no change.
The model's own choices in it: log entries 5, 21, 29, 38. -/
def Obligations.LampFaultCommands : Prop :=
  ∀ (c : Fin 128) (n : Fin 8) (w : BitVec 32) (s : State),
    let cleared := s.latch c ltOVERHEAT = true ∧ s.flag (fSUP_TSD_CAUSE c) = false ∧ s.chanClass c ≠ 1
      ∧ s.lampTemp c ≤ 1000 * (s.get fOVH : Int) - 10000 ∧ (s.chan c).coolAt ≠ 0 ∧ (s.chan c).coolAt + 250000000 ≤ s.grid.tick + 1
    let comes := (s.bank n).cmd = true ∧ s.linkTurn 0 (1, n) = true
    Completes (.supFltClr w) s (fun u =>
      (∀ d < 128, bitOf w.toNat 31 = true ∨ d = w.toNat % 128 →
        (∀ k < 7, u.latch d k = (s.latch d k && !(bitOf (bitsOf w.toNat 8 7) k && !(k == ltOVERHEAT && (s.tsd && s.flag (fSUP_TSD_CAUSE d))))))
          ∧ u.get (fSUP_PROOF d) = 0 ∧ u.flag (fSUP_LITPROOF d) = false)
        ∧ Only [.regs, .icu, .nw, .pwr, .chans, .mtx] s u)
    ∧ (bitOf w.toNat 8 = true → Completes (.sigForget w) s (fun u =>
      (∀ d < 128, bitOf w.toNat 31 = true ∨ d = w.toNat % 128 →
        u.rd (aSUP_SIG d 0) = 0 ∧ u.rd (aSUP_SIG d 1) = 0 ∧ u.flag (fSUP_SIG_LEARNT d) = false) ∧ Only [.regs, .mem, .chans] s u))
    ∧ (bitOf w.toNat 8 = false → Completes (.sigForget w) s (fun u => u = s))
    ∧ (s.shortWatched c = true → Completes (.shortToRailFoldback c) s (fun u =>
      u.latch c ltSHORT = true ∧ u.flag (fSUP_LITPROOF c) = false
        ∧ (s.scanned (c / 16) = false → (s.chan c).steady (s.lampPeriod c) = false → (u.chan c).pulse = s.grid.tick - (s.chan c).start)
        ∧ Only [.regs, .icu, .evt, .nw, .pwr, .chans, .banks, .mtx] s u))
    ∧ (s.shortWatched c = false → Completes (.shortToRailFoldback c) s (fun u => u = s))
    ∧ (cleared → Completes (.overheatAutoClear c) s (fun u =>
      u.latch c ltOVERHEAT = false ∧ (u.chan c).cleared = true ∧ Only [.regs, .icu, .nw, .pwr, .chans] s u))
    ∧ (¬ cleared → Completes (.overheatAutoClear c) s (fun u => u = s))
    ∧ (bitOf w.toNat 11 = true → Completes (.mtxClearStray w) s (fun u =>
      (∀ e < 1024, bitOf w.toNat 31 = true ∨ e = w.toNat % 1024 → u.flag (fMTX_STRAY e) = false) ∧ Only [.regs, .icu, .nw, .pwr] s u))
    ∧ (bitOf w.toNat 10 = true → Completes (.mtxClearDark w) s (fun u =>
      (∀ e < 1024, bitOf w.toNat 31 = true ∨ e = w.toNat % 1024 → u.flag (fMTX_DARK e) = false) ∧ Only [.regs, .icu, .nw, .pwr] s u))
    ∧ (bitOf w.toNat 11 = false → Completes (.mtxClearStray w) s (fun u => u = s))
    ∧ (bitOf w.toNat 10 = false → Completes (.mtxClearDark w) s (fun u => u = s))
    ∧ (comes → Completes (.bankStrayOpen n) s (fun u => (u.bank n).cmd = false
        ∧ (s.roleOf n ≠ 2 → s.get (fBANK_MODE n) ≠ 0 → u.flag (fBANK_STRAY n) = true ∧ (u.bank n).closed = false)
        ∧ Only [.regs, .evt, .pwr, .banks, .link] s u))
    ∧ (¬ comes → Completes (.bankStrayOpen n) s (fun u => u = s))

/-- BANK_OC completes with the bank open, held, its fault group set, a record logged, and a retry waiting unless its role is
1. BANK_OC_RETRY of a bank that has waited 100 ms completes with the wait over and, where the part wants the bank closed and
it is not held for STRAY, an own bank commanded closed and a scanned bank no longer held; else it changes nothing. BANK_READBACK
100 us after the opening, outside a Morning test, completes with BANK_STUCK latched, grouped and logged where an open bank's
rail is not low, and changes nothing where it is low or the bank closed; in a Morning test it completes with BANK_STUCK clear on a
low rail, and else latched unless a STRAY bank command waits, which leaves it; sooner it changes nothing. BANK_CLOSE_COMPLETE of a bank closing for 375 ticks completes with it closed and no longer
held. BANKOC_RECLOSE asks exactly the selected held banks to close at the next commit.
The model's own choices in it: log entries 5, 8. -/
def Obligations.BankProtections : Prop :=
  ∀ (n : Fin 8) (low : Bool) (mask : BitVec 8) (s : State),
    let settled := (s.bank n).at_ + 2500 ≤ s.grid.tick
    Completes (.bankOc n) s (fun u =>
      (u.bank n).closed = false ∧ (u.bank n).wait = (s.roleOf n != 1) ∧ u.flag (fBANK_OC n) = true ∧ u.flag (fFLT_GROUP 2) = true
        ∧ Logged s u evBANK_OC (kBANK * 4096 + n) ∧ Only [.regs, .icu, .evt, .nw, .pwr, .banks] s u)
    ∧ ((s.bank n).wait = true → (s.bank n).at_ + 2500000 ≤ s.grid.tick → Completes (.bankOcRetry n) s (fun u =>
      (u.bank n).wait = false
        ∧ (s.flag (fBANK_STRAY n) = false ∨ s.roleOf n = 2 → s.bankWanted n = true →
          (s.scanned n = false → (u.bank n).closed = true) ∧ (s.scanned n = true → u.flag (fBANK_OC n) = false)
            ∧ u.rd aDEV_BANK_RETRY = s.rd aDEV_BANK_RETRY + 1)
        ∧ Only [.regs, .icu, .nw, .pwr, .banks] s u))
    ∧ ((s.bank n).wait = false ∨ s.grid.tick < (s.bank n).at_ + 2500000 → Completes (.bankOcRetry n) s (fun u => u = s))
    ∧ (settled → tabGet (fun _ => false) s.pwr.mornOpen n = false → (s.bank n).closed = false → s.flag (fBANK_STUCK n) = false →
      Completes (.bankReadback n false) s (fun u => u.flag (fBANK_STUCK n) = true ∧ u.flag (fFLT_GROUP 2) = true
        ∧ Logged s u evBANK_STUCK (kBANK * 4096 + n) ∧ Only [.regs, .icu, .evt, .nw, .pwr, .banks] s u))
    ∧ (tabGet (fun _ => false) s.pwr.mornOpen n = false → (s.bank n).closed = true ∨ low = true →
      Completes (.bankReadback n low) s (fun u => u = s))
    ∧ (¬ settled → Completes (.bankReadback n low) s (fun u => u = s))
    ∧ (settled → tabGet (fun _ => false) s.pwr.mornOpen n = true → Completes (.bankReadback n low) s (fun u =>
      u.flag (fBANK_STUCK n) = (!low && (!(s.bank n).cmd || s.flag (fBANK_STUCK n))) ∧ Only [.regs, .icu, .evt, .nw, .pwr, .banks] s u))
    ∧ ((s.bank n).closed = true → (s.bank n).closing = true → (s.bank n).at_ + 375 ≤ s.grid.tick → Completes (.bankCloseComplete n) s (fun u =>
      (u.bank n).closing = false ∧ (u.bank n).closed = true ∧ u.flag (fBANK_CLOSED n) = true ∧ u.flag (fBANK_OC n) = false
        ∧ Only [.regs, .icu, .nw, .pwr, .banks] s u))
    ∧ ((s.bank n).closed = false ∨ (s.bank n).closing = false ∨ s.grid.tick < (s.bank n).at_ + 375 → Completes (.bankCloseComplete n) s (fun u => u = s))
    ∧ Completes (.bankocReclose mask) s (fun u =>
      (∀ m < 8, u.bank m = if bitOf mask.toNat m && s.flag (fBANK_OC m) then { s.bank m with reclose := true, wait := false } else s.bank m)
        ∧ Only [.banks] s u)

/-- THERMAL_SHUTDOWN outside a shutdown completes with it entered, held and logged; in one it changes nothing.
THERMAL_SHUTDOWN_EXIT of a shutdown completes with it ended; without one it changes nothing. NEED_COMPUTATION outside Dusk,
Midnight and a freeze completes with the target the neediest string, once the Dusk set is latched of its channels alone, plus
the margin, within 12 V and VMAX, and shown; else it changes nothing. GOVERNOR_UPDATE completes with the junction factor on its curve and the sink power shown; outside Dusk each
lamp factor moves by at most 16, in Dusk it stands on the curve at NTC_LB.
The model's own choices in it: log entries 8, 21, 22, 71, 73. -/
def Obligations.ThermalNeedAndGovernors : Prop :=
  ∀ s : State,
    let judged := fun (c : Nat) => if s.lampsKept then tabGet (fun _ => false) s.pwr.duskSet c
      else s.scanned (c / 16) || s.aspList.any fun p => p.2.contains c
    let needs := ((List.range 128).filter judged).map fun c => (c, s.needOf s.aspList c)
    let target := clampNat 12000 (100 * s.get fVMAX) (maxFrom 0 (needs.map (·.2)) + 10 * s.get fMARGIN)
    let shown := if s.pSink < 65536 then s.pSink else 65535
    (s.tsd = false → Completes .thermalShutdown s (fun u => u.tsd = true ∧ u.boost.tsdHold = true
      ∧ Logged s u evTHERMAL_SHUTDOWN (kDEVICE * 4096) ∧ Only [.regs, .icu, .evt, .nw, .life, .pwr, .chans, .boost, .mtx] s u))
    ∧ (s.tsd = true → Completes .thermalShutdown s (fun u => u = s))
    ∧ (s.tsd = true → Completes .thermalShutdownExit s (fun u => u.tsd = false ∧ Only [.regs, .icu, .nw, .pwr, .chans] s u))
    ∧ (s.tsd = false → Completes .thermalShutdownExit s (fun u => u = s))
    ∧ (s.inDusk = false → s.midnight = false → s.flag fNW_FROZEN = false → Completes .needComputation s (fun u =>
      u.boost.target = target ∧ u.get fBST_TGT = target / 100 % 1024 ∧ Only [.regs, .evt, .boost] s u))
    ∧ (s.inDusk = true ∨ s.midnight = true ∨ s.flag fNW_FROZEN = true → Completes .needComputation s (fun u => u = s))
    ∧ (s.inDusk = false → Completes .governorUpdate s (fun u =>
      u.boost.fJunc = State.juncCurve s.boost.tj ∧ u.get fPWR_PSINK = shown
        ∧ (∀ c, (u.chan c).fLamp ≤ (s.chan c).fLamp + 16 ∧ (s.chan c).fLamp ≤ (u.chan c).fLamp + 16)
        ∧ Only [.regs, .icu, .evt, .nw, .pwr, .chans, .boost] s u))
    ∧ (s.inDusk = true → Completes .governorUpdate s (fun u =>
      u.boost.fJunc = State.juncCurve s.boost.tj ∧ u.get fPWR_PSINK = shown
        ∧ (∀ c < 128, (u.chan c).fLamp = s.lampCurve (100 * s.ntcTemp))
        ∧ Only [.regs, .icu, .evt, .nw, .pwr, .chans, .boost] s u))

/-- PEAK_CURRENT_TRIP completes with the gate low and PEAK_LIM set. OV_CLAMP_ONSET completes with the clamp shown, counted,
its onset kept and the gate low; OV_CLAMP_RELEASE with it no longer shown; OV_CLAMP_QUIET with no onset kept. BOOST_SHORT
without a feedback fault, outside Midnight, completes in the hiccup from this tick on with the gate low and its fault group set.
HICCUP_RESTART 100 ms later completes counted and in soft-start, slot 0 to start afresh; in Midnight it only counts; sooner it
changes nothing. BOOST_FB_FAULT outside Midnight completes in pass-through mode 6 with the gate low and its fault group set; a
second one changes nothing. SOFTSTART_CHECK in soft-start, 5 ms after the end of the ramp, completes regulating, or passing
through, where VLAMP passes the judgement, and in the hiccup where it fails; sooner it completes only the start that passes
through, and else changes nothing.
The model's own choices in it: log entries 5, 8, 74. -/
def Obligations.BoostProtections : Prop :=
  ∀ s : State,
    let waits := s.get fBST_MODE = 5 ∧ s.boost.hicAt + 2500000 ≤ s.grid.tick
    let passes := s.boost.target + 300 ≤ s.boost.vsup
    Completes .peakCurrentTrip s (fun u => u.flag fBST_PEAK_LIM = true ∧ u.boost.peak = true ∧ u.pins = { s.pins with bstGate := false }
      ∧ Only [.regs, .pins, .boost] s u ∧ OnlyRegs [(aDEV_BOOST_STAT, 0)] s u)
    ∧ Completes .ovClampOnset s (fun u => u.flag fBST_OV_CLAMP = true ∧ u.rd aDEV_BOOST_OVC = s.rd aDEV_BOOST_OVC + 1
      ∧ u.pins.bstGate = false ∧ u.boost.onsets = (s.grid.tick :: s.boost.onsets).take 3 ∧ Only [.regs, .pins, .icu, .nw, .life, .pwr, .boost] s u)
    ∧ Completes .ovClampRelease s (fun u => u.flag fBST_OV_CLAMP = false ∧ Only [.regs] s u ∧ OnlyRegs [(aDEV_BOOST_STAT, 0)] s u)
    ∧ Completes .ovClampQuiet s (fun u => u.boost = { s.boost with clampTrip := false, onsets := [] } ∧ Only [.regs, .icu, .nw, .pwr, .boost] s u)
    ∧ (s.boost.fb = false → s.midnight = false → Completes .boostShort s (fun u =>
      u.get fBST_MODE = 5 ∧ u.boost.hic = true ∧ u.boost.hicAt = s.grid.tick ∧ u.pins.bstGate = false ∧ u.flag (fFLT_GROUP 3) = true
        ∧ Only [.regs, .pins, .icu, .evt, .nw, .pwr, .boost] s u))
    ∧ (waits → Completes .hiccupRestart s (fun u =>
      u.rd aDEV_BOOST_HICCUP = s.rd aDEV_BOOST_HICCUP + 1
        ∧ (s.midnight = false → u.get fBST_MODE = 1 ∧ u.loop 0 = { s.loop 0 with run := false })
        ∧ (s.midnight = true → u.get fBST_MODE = 5 ∧ u.loops = s.loops ∧ u.boost = s.boost)
        ∧ Only [.regs, .life, .loops, .boost] s u ∧ OnlyRegs [(aDEV_BOOST_STAT, 0), (aDEV_BOOST_HICCUP, 0)] s u))
    ∧ (¬ waits → Completes .hiccupRestart s (fun u => u = s))
    ∧ (s.boost.fb = false → s.midnight = false → Completes .boostFbFault s (fun u =>
      u.get fBST_MODE = 6 ∧ u.boost.fb = true ∧ u.boost.hic = false ∧ u.pins.bstGate = false ∧ u.flag (fFLT_GROUP 3) = true
        ∧ Only [.regs, .pins, .icu, .evt, .nw, .pwr, .banks, .boost] s u))
    ∧ (s.boost.fb = true ∨ s.midnight = true → ∀ c ∈ [Instr.boostShort, .boostFbFault], Completes c s (fun u => u = s))
    ∧ (s.get fBST_MODE = 1 → s.softOk = true → s.softOver = true ∨ passes → Completes .softstartCheck s (fun u =>
      u.get fBST_MODE = (if s.boost.target + 300 ≤ s.boost.vsup then 3 else 2) ∧ u.boost.hic = false ∧ u.boost.ended = true
        ∧ Only [.regs, .pins, .icu, .evt, .nw, .pwr, .banks, .boost] s u))
    ∧ (s.get fBST_MODE = 1 → s.softOk = false → s.softOver = true → Completes .softstartCheck s (fun u =>
      u.get fBST_MODE = 5 ∧ u.boost.hic = true ∧ u.pins.bstGate = false ∧ u.flag (fFLT_GROUP 3) = true
        ∧ Only [.regs, .pins, .icu, .evt, .nw, .pwr, .banks, .boost] s u))
    ∧ (s.get fBST_MODE ≠ 1 ∨ (s.softOver = false ∧ ¬ (passes ∧ s.softOk = true)) → Completes .softstartCheck s (fun u => u = s))

/-- LOOP_PERIOD_START on a tick where a period of the slot starts completes with no swap pending and, where one was, the active
words taken from the shadow words, clamped, UMAX raised to a higher UMIN. A slot that may run then runs, its period open and
without a result, held where an input is stale, slot 0 waiting for its sample; another slot stands stopped, in MODE OFF at
output 0 once the tick on which it stopped is over. On another tick it changes nothing. LOOP_RESULT_READY in an open, unheld period
completes with the control law's result; else it changes nothing. LOOP_SWAP_WRITE adds its requests. LOOP_SLOT_MIGRATE on a tick
where a period of the slot starts completes with a reseed due and the period held, or, a third failing record, with the slot lost
and logged; on another tick it changes nothing. LOOP_ST_READ clears SWAPPED.
The model's own choices in it: log entries 5, 23, 38. -/
def Obligations.LoopEngine : Prop :=
  ∀ (n : Fin 32) (fail : Bool) (w : BitVec 32) (s : State),
    let z := s.loopSwap n
    let word := fun k => State.loopWord n k (s.rd (aLOOP_SHD n k)).toNat (s.rd (aLOOP_SHD n 0)).toNat
    let low := signedOf (bitsOf (word 3) 16 16) 16 < signedOf (bitsOf (word 3) 0 16) 16
    let swapped := fun (u : State) => u.flag ⟨aLOOP_SWAP, n, 1⟩ = false
      ∧ (s.flag ⟨aLOOP_SWAP, n, 1⟩ = true → ∀ k < 8, u.rd (aLOOP_ACT n k)
        = BitVec.ofNat 32 (if k = 3 ∧ low then withBits (word 3) 16 16 (bitsOf (word 3) 0 16) else word k))
      ∧ (n.val ≠ 0 → Only [.regs, .loops] s u)
      ∧ (n.val = 0 → Only [.regs, .pins, .chans, .boost, .mtx, .loops, .adc] s u)
    (s.loopDue n = true → z.loopReady n = true → Completes (.loopPeriodStart n) s (fun u =>
      (u.loop n).run = true ∧ (u.loop n).open_ = true ∧ (u.loop n).res = none ∧ (u.loop n).hold = (u.loop n).stale
        ∧ (u.loop n).wait = (n == 0) ∧ swapped u))
    ∧ (s.loopDue n = true → z.loopReady n = false → Completes (.loopPeriodStart n) s (fun u =>
      (u.loop n).run = false ∧ (u.loop n).open_ = false ∧ (u.loop n).res = none
        ∧ (u.loop n).u = (if 4 ≤ n.val ∧ z.loopMode n = 0 ∧ (s.loop n).run = false ∧ (s.loop n).offAt ≠ s.grid.tick then 0 else (s.loop n).u)
        ∧ swapped u))
    ∧ (s.loopDue n = false → Completes (.loopPeriodStart n) s (fun u => u = s))
    ∧ ((s.loop n).open_ = true → (s.loop n).hold = false → (s.loop n).wait = false → Completes (.loopResultReady n) s (fun u =>
      u.loop n = { s.loop n with res := some (s.loopLaw n) } ∧ (∀ m, m ≠ n.val → u.loop m = s.loop m) ∧ Only [.loops] s u))
    ∧ ((s.loop n).open_ = false ∨ (s.loop n).hold = true ∨ (s.loop n).wait = true → Completes (.loopResultReady n) s (fun u => u = s))
    ∧ Completes (.loopSwapWrite w) s (fun u => u.rd aLOOP_SWAP = s.rd aLOOP_SWAP ||| w ∧ Only [.regs] s u ∧ OnlyRegs [(aLOOP_SWAP, 0)] s u)
    ∧ (s.loopDue n = true → fail = false ∨ s.loops.spares < 2 → Completes (.loopSlotMigrate n fail) s (fun u =>
      u.loop n = { s.loop n with reseed := true, moved := true, res := none, hold := (s.loop n).open_ || (s.loop n).hold }
        ∧ u.loops.spares = s.loops.spares + boolNat fail ∧ Only [.regs, .loops] s u))
    ∧ (s.loopDue n = false → Completes (.loopSlotMigrate n fail) s (fun u => u = s))
    ∧ (s.loopDue n = true → 2 ≤ s.loops.spares → Completes (.loopSlotMigrate n true) s (fun u =>
      (u.loop n).run = false ∧ u.loopLost n = true ∧ Logged s u evLOOP_SLOT_LOST (kLOOP * 4096 + n)
        ∧ Only [.regs, .icu, .evt, .nw, .pwr, .boost, .loops] s u))
    ∧ Completes (.loopStRead n) s (fun u => u.flag (State.fLST n 3 2 1) = false ∧ Only [.regs] s u ∧ OnlyRegs [(aLOOP_ST n 3, 0)] s u)

/-- Each trigger command completes, and on a converter that serves and outside Dusk does to each sequencer that its cause
selects what a trigger does: a pending one counts an overrun and stands, a running or reloading one is latched, an idle one
starts its next pass; a second trigger on the tick of the first is one with it. A grid trigger concerns one converter, on a tick of
its schedule, and leaves the others alone; on another tick it changes nothing. An edge concerns those whose
sequencers wait for that edge or both, and is stamped with the time of its raw edge; a software trigger concerns the selected converters of
software trigger, and leaves an unselected converter alone.
The model's own choices in it: log entries 5, 26, 38, 80. -/
def Obligations.AdcTriggers : Prop :=
  ∀ (k : Fin 16) (rise : Bool) (m ago : BitVec 16) (s : State),
    let taken := fun (reload : Nat) (q r : Seqr) => r.at_ = some s.grid.tick
      ∧ (q.at_ = some s.grid.tick → r.run = q.run ∧ r.pend = q.pend ∧ r.pass = q.pass ∧ r.ovr = q.ovr)
      ∧ (q.at_ ≠ some s.grid.tick →
        (q.pend = true → r.ovr = true ∧ r.run = q.run ∧ r.pend = true)
          ∧ (q.pend = false → q.run = true ∨ reload = 2 → r.pend = true ∧ r.run = q.run)
          ∧ (q.pend = false → q.run = false → reload ≠ 2 → r.run = true ∧ r.pend = false ∧ r.pass = q.pass + 1))
    let edges := if rise then [2, 4] else [3, 4]
    (s.gridTick k = true → Completes (.adcGridTrigger k) s (fun u =>
      (s.convOut k = false → s.inDusk = false →
        (s.injTrigOf k = 5 → taken (s.conv k).reload (s.conv k).inj (u.conv k).inj)
          ∧ (s.regTrigOf k = 5 → taken (s.conv k).reload (s.conv k).reg (u.conv k).reg))
        ∧ (∀ j, j ≠ k.val → u.conv j = s.conv j) ∧ Only [.regs, .icu, .evt, .nw, .pwr, .adc] s u))
    ∧ (s.gridTick k = false → Completes (.adcGridTrigger k) s (fun u => u = s))
    ∧ Completes (.adcTrigEdge rise ago) s (fun u =>
      (s.convOut k = false → s.inDusk = false →
        (s.injTrigOf k ∈ edges → taken (s.conv k).reload (s.conv k).inj (u.conv k).inj)
          ∧ (s.regTrigOf k ∈ edges → taken (s.conv k).reload (s.conv k).reg (u.conv k).reg))
        ∧ u.adc.edge = s.stampBack ago.toNat ∧ Only [.regs, .icu, .evt, .nw, .cap, .pwr, .adc] s u)
    ∧ Completes (.adcSoftTriggerReg m) s (fun u =>
      (s.convOut k = false → s.inDusk = false → s.regTrigOf k = 1 → m.getLsbD k = true →
        taken (s.conv k).reload (s.conv k).reg (u.conv k).reg)
        ∧ (m.getLsbD k = false → u.conv k = s.conv k) ∧ Only [.regs, .icu, .evt, .nw, .pwr, .adc] s u)
    ∧ Completes (.adcSoftTriggerInj m) s (fun u =>
      (s.convOut k = false → s.inDusk = false → s.injTrigOf k = 1 → m.getLsbD k = true →
        taken (s.conv k).reload (s.conv k).inj (u.conv k).inj)
        ∧ (m.getLsbD k = false → u.conv k = s.conv k) ∧ Only [.regs, .icu, .evt, .nw, .pwr, .adc] s u)

/-- CHANNEL_HOLD at its instant, once, of an unscanned channel outside comparator-only supervision and cover completes with the hold
queued at its serving converter where its pulse allows it, and takes no more than the instant where not, where a skipped period of
cover holds it back, or in the lamp period in which its pair failed; in comparator-only supervision no hold is queued. On another
tick, or a second time on its tick, it changes nothing. CONVERSION_COMPLETE delivers the trimmed code: to slot 0 unless pair 7 has
failed, VSUP, the injected or the regular result word; without a conversion it only starts the next one. PAIR_ROUND_EVAL of a
full, served round records the difference, and changes nothing without all four codes. HOUSEKEEPING_ROUND at its tick of the check
frame starts a fresh round of its pair; at another tick it changes nothing. ADC_REFCTL_WRITE sets its EN bits. REFBUF_READY 6,250
ticks after the EN of its buffer shows it ready, else changes nothing. TRIM_RELOAD_START of a due converter without injected work starts its reload, else changes nothing.
The model's own choices in it: log entries 5, 8, 26. -/
def Obligations.ConversionWork : Prop :=
  ∀ (c : Fin 128) (on fail : Bool) (k : Fin 16) (raw : BitVec 12) (it : AdcItem) (p : Fin 8) (ca cb ga gb : Nat) (w : BitVec 32) (s : State),
    let x := s.chan c
    let fits := if on = true then 150 ≤ x.pulse ∧ (x.lit = true ∨ x.morn = true)
      else x.pulse + 300 ≤ s.lampPeriod c
    let cover := s.coverSkip c x.start (on && (x.probing || x.learn != 0))
    let code := (trim k raw.toNat).1
    let sat := (trim k raw.toNat).2
    let fresh := it.epoch = s.get (State.fADC_EPOCH (k / 2))
    let due := s.holdTick c on = true ∧ s.untaken (State.holdKey c on) = true
    (due → s.scanned (c / 16) = false → fits → s.pairGone (c / 16) x.start = false → s.cmpOnly (c / 16) = false → cover = false →
      Completes (.channelHold c on fail) s (fun u =>
        (∃ h ∈ (u.conv (s.servingConv c)).holds, h.chan = c ∧ h.led = 0 ∧ h.on = on ∧ h.lit = x.lit ∧ h.tick = s.grid.tick ∧ h.res = [])
          ∧ u.untaken (State.holdKey c on) = false ∧ Only [.grid, .adc] s u))
    ∧ (due → s.scanned (c / 16) = false → ¬ fits ∨ s.pairGone (c / 16) x.start = true ∨ (s.cmpOnly (c / 16) = false ∧ cover = true) →
      Completes (.channelHold c on fail) s (fun u => u = s.takeEvent (State.holdKey c on)))
    ∧ (¬ due → Completes (.channelHold c on fail) s (fun u => u = s))
    ∧ (s.cmpOnly (c / 16) = false → Completes (.channelHold c on fail) s (fun u => Only [.grid, .adc] s u))
    ∧ (s.cmpOnly (c / 16) = true → Completes (.channelHold c on fail) s (fun u =>
      Only [.regs, .grid, .icu, .evt, .nw, .pwr, .chans, .banks, .mtx] s u))
    ∧ ((s.conv k).cur = none → Completes (.conversionComplete k raw) s (fun u => Only [.adc] s u))
    ∧ ((s.conv k).cur = some it → Completes (.conversionComplete k raw) s (fun u =>
      (it.kind = 0 → s.pairFault 7 = true → u.loop 0 = s.loop 0)
        ∧ (it.kind = 0 → it.tag = false → fresh → s.pairFault 7 = false → (s.loop 0).open_ = true → (s.loop 0).wait = true →
          (u.loop 0).x = (code * 8 : Nat) ∧ (u.loop 0).wait = false ∧ (u.loop 0).hold = (s.loop 0).hold)
        ∧ (it.kind = 0 → it.tag = true ∨ ¬ fresh → s.pairFault 7 = false → (s.loop 0).open_ = true → (s.loop 0).wait = true →
          u.loop 0 = { s.loop 0 with wait := false, hold := true, stale := true })
        ∧ (it.kind = 1 → it.tag = false → fresh → it.point = 4 → u.boost.vsup = 20 * code)
        ∧ (it.kind = 3 → it.slot < 4 → u.rd (aADC_INJR k it.slot) = BitVec.ofNat 32 (State.resultWord it code sat (s.conv k).inj.late (s.conv k).inj.pass))
        ∧ (it.kind = 4 → it.slot < 32 → u.rd (aADC_REGR k it.slot) = BitVec.ofNat 32 (State.resultWord it code sat false (s.conv k).reg.pass))))
    ∧ ((s.conv (2 * p)).chk = some ca → (s.conv (2 * p + 1)).chk = some cb → (s.conv (2 * p)).bg = some ga → (s.conv (2 * p + 1)).bg = some gb →
        s.convOut (2 * p) = false → s.convOut (2 * p + 1) = false → (s.conv (2 * p)).reload ≠ 2 → (s.conv (2 * p + 1)).reload ≠ 2 →
      Completes (.pairRoundEval p) s (fun u => (u.pair p).d = ((ca : Int) - cb).natAbs))
    ∧ ((s.conv (2 * p)).chk = none ∨ (s.conv (2 * p + 1)).chk = none ∨ (s.conv (2 * p)).bg = none ∨ (s.conv (2 * p + 1)).bg = none →
      Completes (.pairRoundEval p) s (fun u => u = s))
    ∧ (s.roundTick p = false → Completes (.housekeepingRound p) s (fun u => u = s))
    ∧ (s.roundTick p = true → s.inDusk = false ∨ p = 7 → s.pairFault p = false → s.convOut (2 * p) = false → s.convOut (2 * p + 1) = false →
      Completes (.housekeepingRound p) s (fun u =>
        (∀ j, j = 2 * p.val ∨ j = 2 * p.val + 1 → (u.conv j).chk = none ∧ (u.conv j).bg = none) ∧ Only [.adc] s u))
    ∧ Completes (.adcRefctlWrite w) s (fun u => u.rd aADC_REFCTL = s.rd aADC_REFCTL ||| w &&& 0xFF ∧ Only [.regs, .adc] s u ∧ OnlyRegs [(aADC_REFCTL, 0)] s u)
    ∧ (s.refReadyTick p = true → Completes (.refbufReady p) s (fun u =>
      u.flag (State.fREF_RDY p) = true ∧ u.flag (State.fADC p 0) = true
        ∧ (p = 7 → s.get fBST_MODE = 0 → s.midnight = false → u.get fBST_MODE = 1) ∧ Only [.regs, .boost, .loops] s u))
    ∧ (s.refReadyTick p = false → Completes (.refbufReady p) s (fun u => u = s))
    ∧ ((s.conv k).reload = 1 → (s.conv k).inj.run = false → (s.conv k).inj.pend = false → Completes (.trimReloadStart k) s (fun u =>
      (u.conv k).reload = 2 ∧ u.flag (State.fRELOAD k) = true ∧ Only [.regs, .adc] s u))
    ∧ ((s.conv k).reload ≠ 1 ∨ (s.conv k).inj.run = true ∨ (s.conv k).inj.pend = true → Completes (.trimReloadStart k) s (fun u => u = s))

/-- SAFETY_CYCLE where a cycle falls due completes with a word sent for each output that is ON exactly where the output is in
RUN and whose code is the one after the last that the output accepted; else it does nothing. STO_REFRESH_WORD of a waiting word in
its turn on the die link completes with the output on only for an ON word of the next code, uncorrupted, and then, in Midnight too,
with that code accepted; a word that is rejected leaves the accepted code; in Midnight the output is off; no other output changes;
out of its turn it does nothing. STO_REFRESH_TIMEOUT after 5 ms completes with the output off, grouped and logged. An off-pulse
starts on its schedule, or 10 ms after the start of a failed one, only in RUN outside Midnight, is left out after a missed commit, and
ends when its width has passed. A second read-back that finds nothing counts a test, one
that finds something first time marks the pulse failed; off its time a read-back changes nothing. STO_READBACK_TIMEOUT
confirms its fault class once the command has stood for 1 ms.
The model's own choices in it: log entries 5, 28, 77, 78. -/
def Obligations.StoOutputs : Prop :=
  ∀ (o : Fin 8) (flip below5 above15 : BitVec 8) (high on : Bool) (code : Nat) (s : State),
    let x := s.out o
    let due := s.stoDue (1562500 * o) 12500000 = true
    let again := s.sfcRuns = true ∧ x.failed = true ∧ x.start + 250000 = s.grid.tick
    let turn := s.linkTurn 0 (1, 8 + o.val) = true
    let low := x.await = true ∧ x.pulse = true ∧ x.start + 1500 ≤ s.grid.tick
    let judged := x.await = true ∧ x.pulse = false ∧ x.start + 1500 + x.width ≤ s.grid.tick
    (s.cycleDue = true → Completes .safetyCycle s (fun u => u.sto.srstOp = false ∧ u.sto.cycleAt = s.grid.tick
      ∧ (∀ q < 8, (u.out q).word = some (u.get (State.fOSTATE q) == 3, ((s.out q).code + 1) % 256) ∧ (u.out q).fault = 0)
      ∧ Only [.regs, .icu, .evt, .nw, .mem, .pwr, .obs, .sto] s u))
    ∧ (s.cycleDue = false → Completes .safetyCycle s (fun u => u = s))
    ∧ (s.sfcRuns = false → ∀ c ∈ [Instr.safetyCycle, .stoOffPulseStart o, .stoPulseRepeat o, .stoPulseReadback o on below5 above15, .stoReadbackTimeout o high],
      Completes c s (fun u => u = s))
    ∧ (turn → x.word = some (on, code) → Completes (.stoRefreshWord o flip) s (fun u =>
      let ok := on && flip.toNat == 0 && code == (x.code + 1) % 256
      (u.out o).word = none ∧ (u.out o).on = (ok && !s.midnight) ∧ (u.out o).code = (if ok then code else x.code)
      ∧ ((u.out o).on = true → (u.out o).acc = s.grid.tick)
      ∧ (∀ q, q ≠ o.val → u.out q = s.out q) ∧ Only [.obs, .sto, .link] s u))
    ∧ (turn → x.word = none → Completes (.stoRefreshWord o flip) s (fun u => Only [.link] s u))
    ∧ (¬ turn → Completes (.stoRefreshWord o flip) s (fun u => u = s))
    ∧ (x.on = true → x.acc + 125000 ≤ s.grid.tick → Completes (.stoRefreshTimeout o) s (fun u =>
      (u.out o).on = false ∧ u.flag (fFLT_GROUP 11) = true ∧ Logged s u evSTO_REFRESH (kSTO * 4096 + o)
        ∧ Only [.regs, .icu, .evt, .nw, .pwr, .obs, .sto] s u))
    ∧ (x.on = false ∨ s.grid.tick < x.acc + 125000 → Completes (.stoRefreshTimeout o) s (fun u => u = s))
    ∧ (due → x.skip = false → s.get (State.fOSTATE o) = 3 → s.midnight = false → Completes (.stoOffPulseStart o) s (fun u =>
      (u.out o).pulse = true ∧ (u.out o).width = 250 * s.get State.fSTO_PW ∧ (u.out o).again = false
        ∧ u.flag (State.fOPULSE o) = true ∧ Only [.regs, .sto] s u))
    ∧ (again → x.skip = false → s.get (State.fOSTATE o) = 3 → s.midnight = false → Completes (.stoPulseRepeat o) s (fun u =>
      (u.out o).pulse = true ∧ (u.out o).again = true ∧ u.flag (State.fOPULSE o) = true ∧ Only [.regs, .sto] s u))
    ∧ (x.skip = true → ∀ c, (c = .stoOffPulseStart o ∧ due) ∨ (c = .stoPulseRepeat o ∧ again) → Completes c s (fun u =>
      u.out o = { x with skip := false, failed := false } ∧ Only [.sto] s u))
    ∧ (¬ due ∨ (x.skip = false ∧ (s.get (State.fOSTATE o) ≠ 3 ∨ s.midnight = true)) → Completes (.stoOffPulseStart o) s (fun u => u = s))
    ∧ (¬ again ∨ (x.skip = false ∧ (s.get (State.fOSTATE o) ≠ 3 ∨ s.midnight = true)) → Completes (.stoPulseRepeat o) s (fun u => u = s))
    ∧ (x.pulse = true → x.start + x.width ≤ s.grid.tick → Completes (.stoOffPulseEnd o) s (fun u =>
      (u.out o).pulse = false ∧ u.flag (State.fOPULSE o) = false ∧ Only [.regs, .sto] s u))
    ∧ (x.pulse = false ∨ s.grid.tick < x.start + x.width → Completes (.stoOffPulseEnd o) s (fun u => u = s))
    ∧ (s.sfcRuns = true → judged → x.discard = false → x.hi = false → x.cross = 0 → bitOf above15.toNat o = true →
        s.othersLow o above15.toNat = 0 → Completes (.stoPulseReadback o true below5 above15) s (fun u =>
      (u.out o).failed = false ∧ u.rd aSTO_TESTCNT = s.rd aSTO_TESTCNT + 1))
    ∧ (s.sfcRuns = true → judged → x.discard = false → x.again = false → x.hi = true ∨ x.cross ≠ 0 ∨ bitOf above15.toNat o = false →
      Completes (.stoPulseReadback o true below5 above15) s (fun u => (u.out o).failed = true ∧ Only [.sto] s u))
    ∧ (s.sfcRuns = true → low → Completes (.stoPulseReadback o false below5 above15) s (fun u =>
      (u.out o).hi = (!bitOf below5.toNat o) ∧ (u.out o).cross = s.othersLow o above15.toNat ∧ Only [.sto] s u))
    ∧ (¬ judged → Completes (.stoPulseReadback o true below5 above15) s (fun u => u = s))
    ∧ (¬ low → Completes (.stoPulseReadback o false below5 above15) s (fun u => u = s))
    ∧ (s.sfcRuns = true → x.pulse = false → x.since + 25000 ≤ s.grid.tick → x.on = (!high) → s.get (State.fOSTATE o) ≠ 4 →
        s.get (State.fOSTATE o) ≠ 5 → x.fault = 0 → Completes (.stoReadbackTimeout o high) s (fun u =>
      (u.out o).fault = (if high then 1 else 2)
        ∧ Logged s u evSTO_OUT_FAULT (kSTO * 4096 + o) ∧ u.get (State.fOSTATE o) = s.get (State.fOSTATE o)))
    ∧ (x.pulse = true ∨ s.grid.tick < x.since + 25000 ∨ x.on = high → Completes (.stoReadbackTimeout o high) s (fun u => u = s))

/-- Each on its schedule: TP_WINDOW_START lowers the line and opens its window, or leaves it out after a missed commit;
TP_WINDOW_END lets the line rise, TP_READBACK records the fall or ends the test as passed or failed, the second failure in a row
setting FAULT, and of a line that sources 24 V outside its tests only shows its LEVEL; TP_LOW_TIMEOUT shows LEVEL 0 and counts a failed test. SIN_SAMPLE outside a window moves each channel to a level only after 30 equal
samples. SIN_WINDOW_JUDGE closes the window. DISCREPANCY_SAMPLE zeroes or advances each pair's count. SEAL_ROW_READ stores
its four bits. SRST_STUCK of a low of more than 5 s that is not shown yet shows STUCK, ignores the low and logs. Off its schedule, and with the safety process stopped (but for
TP_WINDOW_END and the seal rows of D1), each changes nothing.
The model's own choices in it: log entries 5, 27. -/
def Obligations.StoInputs : Prop :=
  ∀ (n r : Fin 4) (rise below5 above15 srst : Bool) (levels : BitVec 16) (ago : List (BitVec 16)) (bits : BitVec 4) (w : Nat) (s : State),
    let x := s.tpLine n
    let t := s.grid.tick
    let due := s.stoDue (312500 * n) 1250000 = true
    let low := x.low = false ∧ s.sto.epoch.getD 0 + 25000 ≤ t ∧ (x.at_ = 0 ∨ x.at_ + 35000 ≤ t) ∧ (x.lowAt = 0 ∨ x.lowAt + 25000 ≤ t)
    let sampled := s.sampleDue s.sto.sinAt 250 = true
    let discs := s.stoDue 0 2500 = true ∧ s.sto.discAt ≠ t + 1
    let stuck := s.sto.srstHigh = false ∧ s.flag State.fSRST_STUCK = false ∧ s.sto.srstLow + 125000000 < t
    (s.sfcRuns = false → ∀ c ∈ [Instr.tpWindowStart n, .tpReadback n rise below5 above15, .tpLowTimeout n, .sinSample levels srst ago,
        .sinWindowJudge n, .discrepancySample, .srstStuck], Completes c s (fun u => u = s))
    ∧ (due → x.skip = false → Completes (.tpWindowStart n) s (fun u => (u.tpLine n).low = true
      ∧ (u.tpLine n).at_ = t ∧ u.sto.win = some (n.val, t) ∧ Only [.sto] s u))
    ∧ (due → x.skip = true → Completes (.tpWindowStart n) s (fun u => u.tpLine n = { x with skip := false, passes := 0 } ∧ Only [.sto] s u))
    ∧ (¬ due → Completes (.tpWindowStart n) s (fun u => u = s))
    ∧ (x.low = true → x.at_ + 10000 ≤ t → Completes (.tpWindowEnd n) s (fun u =>
      (u.tpLine n).low = false ∧ (∀ m, m ≠ n.val → u.tpLine m = s.tpLine m) ∧ Only [.sto] s u))
    ∧ (x.low = false ∨ t < x.at_ + 10000 → Completes (.tpWindowEnd n) s (fun u => u = s))
    ∧ (s.sfcRuns = true → s.readbackDue n false = true → Completes (.tpReadback n false below5 above15) s (fun u =>
      (u.tpLine n).fallOk = below5 ∧ u.flag (State.fTP_LEVEL n) = above15))
    ∧ (s.sfcRuns = true → s.readbackDue n true = true → Completes (.tpReadback n true below5 above15) s (fun u =>
      (x.fallOk = true ∧ above15 = true → (u.tpLine n).fails = 0 ∧ (u.tpLine n).passes = x.passes + 1)
        ∧ (x.fallOk = false ∨ above15 = false → (u.tpLine n).fails = x.fails + 1 ∧ (u.tpLine n).passes = 0
          ∧ (x.fails = 1 → u.flag (State.fTP_FAULT n) = true))))
    ∧ (s.readbackDue n rise = false → s.lineSources n = false → Completes (.tpReadback n rise below5 above15) s (fun u => u = s))
    ∧ (s.sfcRuns = true → s.readbackDue n rise = false → s.lineSources n = true → Completes (.tpReadback n rise below5 above15) s (fun u =>
      u.flag (State.fTP_LEVEL n) = above15 ∧ Only [.regs] s u ∧ OnlyRegs [(aSTO_TPSTAT, 0)] s u))
    ∧ (s.sfcRuns = true → low → Completes (.tpLowTimeout n) s (fun u =>
      (u.tpLine n).fails = x.fails + 1 ∧ (u.tpLine n).passes = 0 ∧ (x.fails = 1 → u.flag (State.fTP_FAULT n) = true)
        ∧ u.flag (State.fTP_LEVEL n) = false ∧ (u.tpLine n).lowAt = t))
    ∧ (¬ low → Completes (.tpLowTimeout n) s (fun u => u = s))
    ∧ (s.sfcRuns = true → sampled → s.sto.win = none → Completes (.sinSample levels srst ago) s (fun u => (∀ c < 16,
        let l := levels.getLsbD c
        let y := s.sin c
        ((u.sin c).level = if l = y.level ∨ y.run + 1 < 30 then y.level else l)
          ∧ ((u.sin c).run = if l = y.level ∨ 30 ≤ y.run + 1 then 0 else y.run + 1)) ∧ Only [.regs, .obs, .sto] s u))
    ∧ (¬ sampled → Completes (.sinSample levels srst ago) s (fun u => u = s))
    ∧ (s.sfcRuns = true → s.sto.win = some (n.val, w) → w + 15000 ≤ t → Completes (.sinWindowJudge n) s (fun u => u.sto.win = none))
    ∧ (s.sto.win = some (n.val, w) → t < w + 15000 → Completes (.sinWindowJudge n) s (fun u => u = s))
    ∧ (discs → Completes .discrepancySample s (fun u => (∀ p < 8, (u.spair p).count =
        if (s.sin (2 * p)).level = (s.sin (2 * p + 1)).level then 0 else min ((s.spair p).count + 1) 65535)
        ∧ Only [.regs, .icu, .evt, .nw, .mem, .pwr, .obs, .sto] s u))
    ∧ (¬ discs → Completes .discrepancySample s (fun u => u = s))
    ∧ (s.sealDue r = true → Completes (.sealRowRead r bits) s (fun u => u.sto.sealWord = withBits s.sto.sealWord (4 * r) 4 bits.toNat
      ∧ Only [.regs, .sto] s u ∧ OnlyRegs [(aSTO_SEAL, 0)] s u))
    ∧ (s.sealDue r = false → Completes (.sealRowRead r bits) s (fun u => u = s))
    ∧ (s.sfcRuns = true → stuck → Completes .srstStuck s (fun u =>
      u.sto.srstIgnore = true ∧ u.flag State.fSRST_STUCK = true ∧ Logged s u evSRST_STUCK (kSTO * 4096) ∧ Only [.regs, .evt, .sto] s u))
    ∧ (¬ stuck → Completes .srstStuck s (fun u => u = s))

/-- RING_FRAME_RECEIVE counts a short frame as an error, which only the snoop looks at, and only where its FCS is good; it
counts a good MAC-control frame as received and absorbed, and does nothing in Dusk. EGRESS_TX_COMPLETE counts the frame sent;
a port in SF then stays idle. SIGNAL_FAIL_ONSET sets SF and LINK, advances the route epoch and starts the hold-off;
SIGNAL_FAIL_CLEAR undoes it and opens neighbour learning, or brings back only LINK while the module is out or a cause was seen less
than 10 ms before. SFP_MODULE_POLL
shows the module and its power; an unsuitable module, and the third silence, are a signal fail. RING_RATE_ALTERNATE flips the rate while Dawn is held without a
configuration and the port has no link. RAPS_RECEIVE moves the protection state by the request, or the epoch for an event;
own messages do nothing. RAPS_TRANSMIT queues the message when its next one is due. HOLDOFF_EXPIRY once the hold-off has run out reports a standing failure;
GUARD_EXPIRY once the guard time has run out ends the guard. Before its time each of the three changes nothing.
The model's own choices in it: log entries 5, 31, 33, 34. -/
def Obligations.RingPorts : Prop :=
  ∀ (p : Fin 2) (frame : List (BitVec 8)) (codeErr link ok : Bool) (sub : Fin 40) (power : Option (BitVec 16)) (req rsub : BitVec 4)
      (rb dnf bpr : Bool) (node : BitVec 48) (f : Frame) (rq : Nat) (s : State),
    let x := s.rport p
    let fcs := 4 < frame.length ∧ crc32 (frame.take (frame.length - 4)) = ofLeBytes (frame.drop (frame.length - 4))
    (s.inDusk = true → Completes (.ringFrameReceive p frame codeErr sub) s (fun u => u = s))
    ∧ (s.inDusk = false → frame.length < 64 → Completes (.ringFrameReceive p frame codeErr sub) s (fun u =>
      u.rd (aRING_CNT p 1) = s.rd (aRING_CNT p 1) + 1 ∧ Only [.regs, .obs] s u
        ∧ (¬ fcs → Only [.regs] s u ∧ OnlyRegs [(aRING_CNT p 1, 0)] s u)))
    ∧ (s.inDusk = false → frame.length ≤ 2000 → 64 ≤ frame.length →
        crc32 (frame.take (frame.length - 4)) = ofLeBytes (frame.drop (frame.length - 4)) → (etherOf (frame.take (frame.length - 4))).1 = 0x8808 →
      Completes (.ringFrameReceive p frame false sub) s (fun u => u.rd (aRING_CNT p 0) = s.rd (aRING_CNT p 0) + 1
        ∧ u.rd (aRING_CNT p 7) = s.rd (aRING_CNT p 7) + 1 ∧ Only [.regs, .obs, .ring, .ptp] s u))
    ∧ ((s.egress p).cur = some f → Completes (.egressTxComplete p) s (fun u => u.rd (aRING_CNT p 4) = s.rd (aRING_CNT p 4) + 1
      ∧ (s.sf p = true → (u.egress p).cur = none) ∧ Only [.regs, .ring, .ptp] s u))
    ∧ (s.sf p = false → s.flag fNW_SC1_LOST = false → x.fail = false → s.get fERPS_HOLDOFF ≠ 0 → Completes (.signalFailOnset p link) s (fun u =>
      u.sf p = true ∧ u.flag (fRP_LINK p) = link ∧ u.rd aRING_EPOCH = s.rd aRING_EPOCH + 1 ∧ (u.rport p).holdoff = true))
    ∧ (s.sf p = true → s.sfStands p = false → s.flag fNW_SC1_LOST = false → (s.rport (1 - p)).fail = false → Completes (.signalFailClear p) s (fun u =>
      u.sf p = false ∧ u.flag (fRP_LINK p) = true ∧ u.rd aRING_EPOCH = s.rd aRING_EPOCH + 1
        ∧ (u.rport p).fail = false ∧ (u.rport p).holdoff = false ∧ (u.rport p).learn = some (s.grid.tick + 1250000)))
    ∧ (s.sf p = true → s.sfStands p = true → Completes (.signalFailClear p) s (fun u =>
      u.flag (fRP_LINK p) = true ∧ u.sf p = true ∧ Only [.regs] s u ∧ OnlyRegs [(aRING_PSTAT p, 0)] s u))
    ∧ (s.sf p = false → Completes (.signalFailClear p) s (fun u => u = s))
    ∧ (s.flag fNW_SC1_LOST = false → s.inDusk = false →
      Completes (.sfpModulePoll p true ok power) s (fun u => u.flag (fRP_MODULE_PRESENT p) = true ∧ u.flag (fRP_MODULE_BAD p) = (!ok)
          ∧ u.get (fRP_RXPWR p) = (power.map (·.toNat)).getD 0 ∧ (ok = false → u.sf p = true) ∧ (ok = true → Only [.regs, .ring] s u)
          ∧ Only [.regs, .icu, .evt, .nw, .pwr, .ring, .ptp] s u)
        ∧ Completes (.sfpModulePoll p false ok power) s (fun u => (u.rport p).noAck = x.noAck + 1
          ∧ (2 ≤ x.noAck → u.flag (fRP_MODULE_PRESENT p) = false ∧ u.get (fRP_RXPWR p) = 0 ∧ u.sf p = true)
          ∧ (x.noAck < 2 → Only [.ring] s u)))
    ∧ (s.cfgHold = true → s.flag (fRP_LINK p) = false → Completes (.ringRateAlternate p) s (fun u =>
      u.flag (fRP_RATE p) = (!s.flag (fRP_RATE p)) ∧ Only [.regs] s u ∧ OnlyRegs [(aRING_PSTAT p, 0)] s u))
    ∧ (s.cfgHold = false ∨ s.flag (fRP_LINK p) = true → Completes (.ringRateAlternate p) s (fun u => u = s))
    ∧ (node.toNat = s.ownMac ∨ s.flag fNW_SC1_LOST = true → Completes (.rapsReceive p req rsub rb dnf bpr node) s (fun u => Only [.ring] s u
      ∧ u.ring.copies = s.ring.copies.eraseP (State.isCopy cpRAPS p.val 0) ∧ ∀ q, u.rport q = s.rport q))
    ∧ (node.toNat ≠ s.ownMac → s.flag fNW_SC1_LOST = false → x.learn = none →
      Completes (.rapsReceive p 14 0 rb dnf bpr node) s (fun u => u.rd aRING_EPOCH = s.rd aRING_EPOCH + 1)
        ∧ (s.ring.guard = false → (s.rport 0).fail = false → (s.rport 1).fail = false →
          Completes (.rapsReceive p req rsub rb dnf bpr node) s (fun u =>
            (req = 13 → s.get fRING_ERPS ≠ 4 → u.get fRING_ERPS = 4)
              ∧ (req = 11 → s.get fRING_ERPS ≠ 2 → s.get fRING_ERPS ≠ 4 → u.get fRING_ERPS = 2)
              ∧ (req = 7 → s.get fRING_ERPS = 1 ∨ s.get fRING_ERPS = 5 → u.get fRING_ERPS = 3)
              ∧ (req = 0 → rb = true → s.get fRING_ERPS = 1 ∨ s.get fRING_ERPS = 5 → u.get fRING_ERPS = 1))))
    ∧ (s.ring.tx = some (rq, dnf) → s.rapsDue = true → s.flag fNW_SC1_LOST = false → s.inDusk = false → Completes .rapsTransmit s (fun u =>
      u.ring.sent = s.ring.sent + 1 ∧ u.ring.txAt = s.grid.tick ∧ Only [.regs, .ring, .ptp] s u ∧ ∀ q, q < 2 → s.sf q = false → (s.egress q).cur.isSome = true →
        (s.egress q).keptPtp = [] → State.queued (s.egress q).ptp + (s.rapsFrame rq dnf).bytes.length + 4 ≤ 32768 →
          (u.egress q).ptp = (s.egress q).ptp ++ [s.rapsFrame rq dnf]))
    ∧ (s.ring.tx = none ∨ s.rapsDue = false → Completes .rapsTransmit s (fun u => u = s))
    ∧ (s.holdoffOver p = true → s.flag fNW_SC1_LOST = false → s.sf p = true → s.get fRING_ERPS ≠ 4 → Completes (.holdoffExpiry p) s (fun u => u.get fRING_ERPS = 2 ∧ Only [.regs, .ring, .ptp] s u))
    ∧ (s.holdoffOver p = true → s.flag fNW_SC1_LOST = false → s.sf p = false → Completes (.holdoffExpiry p) s (fun u => (u.rport p).holdoff = false ∧ Only [.ring] s u))
    ∧ (s.holdoffOver p = false ∨ s.flag fNW_SC1_LOST = true → Completes (.holdoffExpiry p) s (fun u => u = s))
    ∧ (s.guardOver = true → Completes .guardExpiry s (fun u => u.ring.guard = false ∧ (∀ q, u.rport q = s.rport q) ∧ Only [.ring] s u))
    ∧ (s.guardOver = false → Completes .guardExpiry s (fun u => u = s))

/-- LAUNCH_TEMPLATE_COPY of a valid, unarmed descriptor with time set, from 2,500 ticks before its next occurrence until its deadline,
completes with that occurrence, its egresses, window and pass class taken over, else changes nothing. LAUNCH_GUARD_START of an armed
one starts the guard of each of its egresses whose guard time has come, up to the gate. LAUNCH_GATE_OPEN of an armed one whose time
GRID_NS has reached disarms it, ends the guards, opens the window where the port is open, counts a skip where it is shut, holds the
tick on which the window closes, and advances the sequence number where any port sent; before that time, or unarmed, it changes
nothing. LAUNCH_WINDOW_CLOSE from that tick on ends exactly that descriptor's windows, and before it changes nothing.
EVENT_FRAME_SEND with records to send advances the next record and SEQ. RING_LD_DATA_READ by an elevated context latches the eight
words at the index, advances the index as AUTO says and restarts the context's time-out. Without elevation it changes nothing, but that
over QSPI it sets ACCESS_ERR; of a QSPI that is not served it changes nothing.
The model's own choices in it: log entries 5, 33, 34, 38, 79. -/
def Obligations.LaunchWindows : Prop :=
  ∀ (d : Fin 128) (c : Fin 9) (g n : Nat) (s : State),
    let l := s.launch d
    let w := s.ldWord d 0
    let served := (c : Nat) ≠ 0 ∨ (s.spi.mode = false ∧ s.hostValid = true)
    (s.ldValid d = true → s.flag fTIME_SET = true → s.flag fNW_SC1_LOST = false → s.inDusk = false → l.armed = false → s.ldNext d = some g → s.ldCopyTime g = true →
      Completes (.launchTemplateCopy d) s (fun u =>
        u.launch d = { l with at_ := g, copied := true, ports := s.ldMask (bitsOf w 29 2), wlen := bitsOf w 16 9, pass := bitsOf w 0 16 } ∧ Only [.ring] s u))
    ∧ (s.ldValid d = false ∨ s.flag fTIME_SET = false ∨ s.flag fNW_SC1_LOST = true ∨ s.inDusk = true ∨ l.armed = true ∨ s.ldNext d = none
        ∨ (s.ldNext d = some g ∧ s.ldCopyTime g = false) → Completes (.launchTemplateCopy d) s (fun u => u = s))
    ∧ (l.armed = true → Completes (.launchGuardStart d) s (fun u =>
      (∀ p < 2, (u.egress p).guard = if p ∈ State.ldPorts l.ports ∧ s.ldLeft d ≤ s.guardTicks p then some (s.grid.tick + s.ldLeft d)
        else (s.egress p).guard) ∧ Only [.ring] s u))
    ∧ (l.armed = true → s.ldReached d = true → Completes (.launchGateOpen d) s (fun u =>
      u.launch d = { l with copied := false, armed := false, closeAt := s.grid.tick + l.wlen,
                            seq := if (State.ldPorts l.ports).any (fun p => !s.shut p) then (l.seq + 1) % 2 ^ 32 else l.seq }
        ∧ (∀ p ∈ State.ldPorts l.ports, (u.egress p).guard = none
          ∧ (s.shut p = false → (u.egress p).window = some (d.val, l.pass))
          ∧ (s.shut p = true → u.rd (aRING_CNT p 10) = s.rd (aRING_CNT p 10) + 1)) ∧ Only [.regs, .ring, .ptp] s u))
    ∧ (l.armed = false → ∀ e ∈ [Instr.launchGuardStart d, .launchGateOpen d], Completes e s (fun u => u = s))
    ∧ (l.armed = true → s.ldReached d = false → Completes (.launchGateOpen d) s (fun u => u = s))
    ∧ (l.closeAt ≤ s.grid.tick → Completes (.launchWindowClose d) s (fun u => (∀ p < 2, (u.egress p).window =
        if (s.egress p).window.map (·.1) = some d.val then none else (s.egress p).window)
        ∧ (∀ q, u.launch q = s.launch q) ∧ Only [.regs, .ring, .ptp] s u))
    ∧ (s.grid.tick < l.closeAt → Completes (.launchWindowClose d) s (fun u => u = s))
    ∧ (n = min (((s.rd aEVT_HEAD).toNat + 2 ^ 32 - s.ring.evtNext) % 2 ^ 32) 16 → s.flag fRING_EVT_EN = true → s.flag fNW_SC1_LOST = false →
        s.inDusk = false → 0 < n → Completes .eventFrameSend s (fun u =>
      u.ring.evtNext = (s.ring.evtNext + n) % 2 ^ 32 ∧ u.ring.evtSeq = (s.ring.evtSeq + 1) % 2 ^ 32 ∧ Only [.regs, .ring, .ptp] s u))
    ∧ (s.flag fRING_EVT_EN = false ∨ s.flag fNW_SC1_LOST = true ∨ s.inDusk = true
        ∨ ((s.rd aEVT_HEAD).toNat + 2 ^ 32 - s.ring.evtNext) % 2 ^ 32 = 0 → Completes .eventFrameSend s (fun u => u = s))
    ∧ (served → s.elevated c = true → Completes (.ringLdDataRead c) s (fun u =>
      let x := (s.copyOf c).ldIdx
      u.copyOf c = { s.copyOf c with ldLatch := (List.range 8).map (fun w => s.cfgRead (bitOf x 30) 4 (8 * bitsOf x 0 7 + w)),
                                     ldIdx := State.autoInc x 7 127 }
        ∧ (∀ k, k ≠ c.val → u.copyOf k = s.copyOf k) ∧ tabGet (fun _ => 0) u.sec.used c = s.nw.tick ∧ Only [.ctx, .sec] s u))
    ∧ (served → s.elevated c = false → (c : Nat) = 0 → Completes (.ringLdDataRead c) s (fun u => u.flag fMBX_ACCESS_ERR = true
        ∧ (s.flag fMBX_ACCESS_ERR = false → u.sourcePending 34 = true) ∧ Only [.regs, .icu, .nw, .pwr] s u
        ∧ OnlyRegs [(aMBX_STAT, 0), (aDEV_PWR_STAT, 0), (aICU_NWSTAT, 0)] s u))
    ∧ (¬ served ∨ (s.elevated c = false ∧ (c : Nat) ≠ 0) → Completes (.ringLdDataRead c) s (fun u => u = s))

/-- ANNOUNCE_RECEIVE of the configured domain records the master heard; another domain, or SC1 lost, only takes up the copy.
SYNC_RECEIVE of the selected master outside a hold writes the clamped offset to TIME_OFFSET; any other only takes up the
copy. TIME_STEP moves the time base by the step that was written where a step may be made, sets SET, enters LOCKED and drops
the re-arm; where none may be made it drops the step. MASTER_LOST, when three intervals have passed, removes the selected
master; with no other heard MASTER falls and ACQUIRING becomes UNSET, LOCKED HOLDOVER. TRUST_TIMER_EXPIRY after its 10 s
enters UNTRUSTED from LOCKED and leaves it with CAUSE OFFSET. ROUTE_HOLD_END after its 2 s starts the collection, re-enters
LOCKED under a new grandmaster, or only ends the hold with no master. REARM_LAPSE after 60 s drops and logs the armed step.
Each completes, and one before its time changes nothing.
The model's own choices in it: log entries 5, 31, 33, 35, 80. -/
def Obligations.ClockAndMasters : Prop :=
  ∀ (p : Fin 2) (domain prio1 cls acc prio2 interval : BitVec 8) (src origin : BitVec 80) (var steps : BitVec 16) (gm corr : BitVec 64)
      (utc : Option (BitVec 16)) (sub : Fin 40) (d : Int) (k : Nat) (s : State),
    let left := s.ptp.masters.filter (fun m => !(m.src == k && m.port == s.get fTIME_MPORT))
    let own := domain.toNat = s.get fTCFG_DOMAIN ∧ s.flag fNW_SC1_LOST = false
    let elected := s.ptp.sel = some src.toNat ∧ p.val = s.get fTIME_MPORT
    let stamp := s.copyStamp cpPTP p 0 sub
    (own → Completes (.announceReceive p domain src prio1 cls acc var prio2 gm steps utc interval) s (fun u =>
        (∃ x ∈ u.ptp.masters, x.src = src.toNat ∧ x.port = p.val ∧ x.gm = gm.toNat ∧ x.last = s.grid.tick
          ∧ x.rank = [prio1.toNat, cls.toNat, acc.toNat, var.toNat, prio2.toNat, gm.toNat, steps.toNat, src.toNat, p.val])
        ∧ Only [.regs, .time, .icu, .evt, .nw, .pwr, .ring, .ptp] s u))
    ∧ (¬ own → Completes (.announceReceive p domain src prio1 cls acc var prio2 gm steps utc interval) s (fun u =>
      u.ring.copies = s.ring.copies.eraseP (State.isCopy cpPTP p 0xB) ∧ Only [.ring] s u))
    ∧ (¬ (own ∧ elected) → Completes (.syncReceive p domain src origin corr sub) s (fun u =>
      u.ring.copies = s.ring.copies.eraseP (State.isCopy cpPTP p 0) ∧ Only [.ring] s u))
    ∧ (own → elected → Completes (.syncReceive p domain src origin corr sub) s (fun u =>
      (s.ptp.hold = false → u.rd aTIME_OFFSET = BitVec.ofNat 32
        (toBits (clampInt (-(2 ^ 31 - 1)) (2 ^ 31 - 1) (s.syncOffset p (ptpNs origin.toNat) corr.toInt stamp)) 32))
        ∧ (s.ptp.hold = true → Only [.ring] s u) ∧ u.ring.copies = s.ring.copies.eraseP (State.isCopy cpPTP p 0)
        ∧ Only [.regs, .free, .icu, .evt, .nw, .pwr, .ring, .ptp] s u))
    ∧ (s.ptp.step = some d → s.mayStep = true → Completes .timeStep s (fun u => u.timeNs = ((s.timeNs : Int) + d).toNat
      ∧ u.get fTIME_STATE = 2 ∧ u.get fTIME_CAUSE = 0 ∧ u.get fTIME_SET = 1 ∧ u.get fTIME_REARMED = 0 ∧ u.ptp.step = none))
    ∧ (s.mayStep = false → Completes .timeStep s (fun u => u.ptp.step = none ∧ Only [.ptp] s u))
    ∧ (s.ptp.step = none → Completes .timeStep s (fun u => u = s))
    ∧ (s.masterSilent = true → s.ptp.sel = some k → Completes .masterLost s (fun u => u.ptp.masters = left
      ∧ (left = [] → u.ptp.sel = none ∧ u.flag fTIME_MASTER = false ∧ (s.get fTIME_STATE = 1 → u.get fTIME_STATE = 0)
        ∧ (s.get fTIME_STATE = 2 → u.get fTIME_STATE = 3)) ∧ Only [.regs, .time, .icu, .evt, .nw, .pwr, .ptp] s u))
    ∧ (s.masterSilent = false → Completes .masterLost s (fun u => u = s))
    ∧ (s.trustOver = true → s.get fTIME_STATE = 2 → Completes .trustTimerExpiry s (fun u =>
      u.get fTIME_STATE = 4 ∧ u.get fTIME_CAUSE = 1 ∧ Only [.regs, .icu, .evt, .nw, .pwr, .ptp] s u))
    ∧ (s.trustOver = true → s.get fTIME_STATE = 4 → s.get fTIME_CAUSE = 1 → Completes .trustTimerExpiry s (fun u =>
      u.get fTIME_STATE = 2 ∧ u.get fTIME_CAUSE = 0 ∧ Only [.regs, .icu, .evt, .nw, .pwr, .ptp] s u))
    ∧ (s.trustOver = false ∨ (s.get fTIME_STATE ≠ 2 ∧ (s.get fTIME_STATE ≠ 4 ∨ s.get fTIME_CAUSE ≠ 1)) →
      Completes .trustTimerExpiry s (fun u => u = s))
    ∧ (s.holdOver = true → Completes .routeHoldEnd s (fun u => u.ptp.hold = false
      ∧ (s.ptp.sel = none → Only [.ptp] s u)
      ∧ (s.ptp.sel ≠ none → s.gmNow = s.ptp.oldGm → u.ptp.collect = true ∧ u.ptp.taken = [] ∧ Only [.ptp] s u)
      ∧ (s.ptp.sel ≠ none → s.gmNow ≠ s.ptp.oldGm → u.get fTIME_STATE = 2) ∧ Only [.regs, .icu, .evt, .nw, .pwr, .ptp] s u))
    ∧ (s.holdOver = false → Completes .routeHoldEnd s (fun u => u = s))
    ∧ (s.flag fTIME_REARMED = true → s.ptp.armed + 1500000000 ≤ s.grid.tick → Completes .rearmLapse s (fun u =>
      u.flag fTIME_REARMED = false ∧ u.ptp.step = none ∧ u.ptp.fresh = [] ∧ Logged s u evTIME_REARM_LAPSED (kTIME * 4096)
      ∧ Only [.regs, .evt, .ptp] s u))
    ∧ (s.flag fTIME_REARMED = false ∨ s.grid.tick < s.ptp.armed + 1500000000 → Completes .rearmLapse s (fun u => u = s))

/-- PDELAY_REQ_SEND, when a port's next request is due, advances the sequence number and, behind a busy egress with room,
queues the request and records the exchange. PDELAY_REQ_RECEIVE on a live port queues one answer that carries the ingress
stamp and the request's correction. PDELAY_RESP_RECEIVE of the open exchange adds the delay and writes TIME_MPD, or counts one
outside 0 to 100 us or later than 100 ms; of another one it only takes up the copy. PDELAY_TIMEOUT after 100 ms drops and
counts an open exchange. TC_ENTRY_EXPIRY drops an entry 1 s old. On a whole second PPS_OUT_EDGE raises the pin with its lag
when committed and set, and LOCAL_OFFSET_CHANGE makes the offset effective; PPS_OUT_FALL lowers the pin after its width.
PPS_IN_EDGE of the polarity writes the deviation. TIME_NS_READ latches the time for its context; of a QSPI that is not served it changes nothing.
The model's own choices in it: log entries 5, 31, 32, 33, 35, 80. -/
def Obligations.PeerDelayAndPps : Prop :=
  ∀ (p : Fin 2) (src t2 t3 : BitVec 80) (id : BitVec 16) (corr : BitVec 64) (sub : Fin 40) (rise : Bool) (c : Fin 9) (s : State),
    let x := tabGet (fun _ => State.noExch) s.ptp.exch p
    let delay := ((s.copyStamp cpPDELAY p 3 sub - x.sent - (ptpNs t3.toNat - ptpNs t2.toNat)) * 65536 - corr.toInt) / 2
    let l := (delay :: tabGet (fun _ => []) s.ptp.delays p).take 8
    let n : Int := ((s.timeNs + sub / 2 * 2) % 1000000000 : Nat)
    let live := s.sf p = false ∧ s.inDusk = false ∧ s.flag fNW_SC1_LOST = false
    let room := (s.egress p).cur.isSome = true ∧ (s.egress p).keptPtp = [] ∧ State.queued (s.egress p).ptp + 72 ≤ 32768
    let served := (c : Nat) ≠ 0 ∨ (s.spi.mode = false ∧ s.hostValid = true)
    (s.pdelayDue p = true → Completes (.pdelayReqSend p) s (fun u => u.ptp.nextId = (s.ptp.nextId + 1) % 65536
      ∧ tabGet (fun _ => 0) u.ptp.reqAt p = s.grid.tick + 1 ∧ Only [.regs, .ring, .ptp] s u
      ∧ (room → tabGet (fun _ => State.noExch) u.ptp.exch p = ⟨s.ptp.nextId, s.timeNs, s.quality 0⟩
        ∧ ∃ f : Frame, f.ingress = 2 ∧ (u.egress p).ptp = (s.egress p).ptp ++ [f])))
    ∧ (s.pdelayDue p = false → Completes (.pdelayReqSend p) s (fun u => u = s))
    ∧ (¬ live → Completes (.pdelayReqReceive p src id corr sub) s (fun u =>
      u.ring.copies = s.ring.copies.eraseP (State.isCopy cpPDELAY p 2) ∧ Only [.ring] s u))
    ∧ (live → room → Completes (.pdelayReqReceive p src id corr sub) s (fun u => ∃ f : Frame, f.stamp = s.copyStamp cpPDELAY p 2 sub
      ∧ f.ctx = corr.toNat ∧ f.ingress = 2 ∧ f.bytes.length = 68 ∧ (u.egress p).ptp = (s.egress p).ptp ++ [f]))
    ∧ (x.id ≠ id.toNat ∨ s.flag fNW_SC1_LOST = true → Completes (.pdelayRespReceive p id t2 t3 corr sub) s (fun u =>
      u.ring.copies = s.ring.copies.eraseP (State.isCopy cpPDELAY p 3) ∧ Only [.ring] s u))
    ∧ (x.id = id.toNat → s.flag fNW_SC1_LOST = false → Completes (.pdelayRespReceive p id t2 t3 corr sub) s (fun u =>
      (0 ≤ delay → delay ≤ 100000 * 65536 → s.pdSince p ≤ 2500000 →
          tabGet (fun _ => []) u.ptp.delays p = l ∧ u.rd (aTIME_MPD p) = BitVec.ofNat 32 (State.meanDelay l))
        ∧ (delay < 0 ∨ 100000 * 65536 < delay ∨ 2500000 < s.pdSince p → u.rd (aTIME_CNT 2) = s.rd (aTIME_CNT 2) + 1)
        ∧ Only [.regs, .ring, .ptp] s u))
    ∧ (x.id ≠ 65536 → 2500000 ≤ s.pdSince p → Completes (.pdelayTimeout p) s (fun u => u.rd (aTIME_CNT 2) = s.rd (aTIME_CNT 2) + 1
      ∧ (tabGet (fun _ => State.noExch) u.ptp.exch p).id = 65536 ∧ OnlyRegs [(aTIME_CNT 2, 0)] s u ∧ Only [.regs, .ptp] s u))
    ∧ (x.id = 65536 ∨ s.pdSince p < 2500000 → Completes (.pdelayTimeout p) s (fun u => u = s))
    ∧ (s.tcOld = true → Completes .tcEntryExpiry s (fun u => u.ptp.table = s.ptp.table.drop 1 ∧ Only [.ptp] s u))
    ∧ (s.tcOld = false → Completes .tcEntryExpiry s (fun u => u = s))
    ∧ (s.wholeSec = true → s.ptp.pps = true → s.flag fTIME_SET = true → Completes .ppsOutEdge s (fun u => u.pins.ppsOut = true
      ∧ u.get fPPS_LAG = (if s.time.ns < 39 then s.time.ns else 39) ∧ u.ptp.pps = false ∧ u.ptp.ppsAt = s.grid.tick
      ∧ Only [.regs, .pins, .ptp] s u))
    ∧ (s.wholeSec = true → s.ptp.pps = false ∨ s.flag fTIME_SET = false →
      Completes .ppsOutEdge s (fun u => u.ptp.pps = false ∧ Only [.ptp] s u))
    ∧ (s.ptp.ppsAt + s.get fTCFG_PPSW * 25000 ≤ s.grid.tick →
      Completes .ppsOutFall s (fun u => u.pins = { s.pins with ppsOut := false } ∧ Only [.pins] s u))
    ∧ (s.grid.tick < s.ptp.ppsAt + s.get fTCFG_PPSW * 25000 → Completes .ppsOutFall s (fun u => u = s))
    ∧ (rise ≠ s.flag fTCFG_PPSIN_POL → Completes (.ppsInEdge rise sub) s (fun u =>
      u.rd aTIME_PPSIN = BitVec.ofNat 32 (toBits (if n < 500000000 then n else n - 1000000000) 32)
        ∧ Only [.regs, .icu, .evt, .nw, .pwr, .ptp] s u))
    ∧ (rise = s.flag fTCFG_PPSIN_POL → Completes (.ppsInEdge rise sub) s (fun u => u = s))
    ∧ (s.wholeSec = true → Completes .localOffsetChange s (fun u =>
      u.time = { s.time with utc := s.time.utcNext } ∧ Only [.regs, .time, .obs, .dim] s u))
    ∧ (s.wholeSec = false → ∀ e ∈ [Instr.ppsOutEdge, .localOffsetChange], Completes e s (fun u => u = s))
    ∧ (served → Completes (.timeNsRead c) s (fun u =>
      u.copyOf c = { s.copyOf c with timeLatch := [s.time.ns, s.time.sec % 2 ^ 32, s.time.sec / 2 ^ 32 % 2 ^ 16, s.quality 1] }
        ∧ (∀ k, k ≠ c.val → u.copyOf k = s.copyOf k) ∧ Only [.ctx] s u))
    ∧ (¬ served → Completes (.timeNsRead c) s (fun u => u = s))

/-- POWER_GOOD, where power good has ended and neither Midnight nor the scanned mark is held, completes in STARTUP phase D0
with the strap sampled, RESET_SEEN after a low of RESET_N, every other register at its reset word, and OTP bits, rollback
counter, journal and configuration slots kept; with the scanned mark the part stays outside functional mode. Its end, and RESET_N low outside Midnight, leave every lamp dark, every output
off, BST_GATE and ASPECT_READY low. POWER_CYCLE resets Nightwatch, empties the registers and the memory die (log entries 1,
2), and keeps OTP, password record and flash. PFW_N_FALL lowers the pin, sets the warning and fault group 21; PFW_CLEARED
raises the pin again and PFW_HIGH_1S, a second later, ends the warning.
The model's own choices in it: log entries 5, 15, 16. -/
def Obligations.PowerSupply : Prop :=
  ∀ (strap : Bool) (s : State),
    let dark := fun (u : State) => u.pwr.good = false ∧ u.pins.bstGate = false ∧ u.pins.aspectReady = false
      ∧ (∀ c < 128, (u.chan c).lit = false) ∧ ∀ o < 8, (u.out o).on = false
    (s.pwr.good = false → s.midnight = false → s.nw.scanned = false → Completes (.powerGood strap) s (fun u =>
      u.pwr.good = true ∧ u.pins.resetN = true ∧ u.pins.mode3032Strap = strap ∧ u.spi.mode = strap
        ∧ u.flag fPWR_RESET_SEEN = (!s.pins.resetN) ∧ u.pstate = 0 ∧ u.get fPWR_PHASE = 0
        ∧ (∀ a, a ≠ aDEV_PWR_STAT → a ≠ aDEV_NW_STAT → u.rd a = State.reset.rd a)
        ∧ u.sec.ctr = s.sec.ctr ∧ u.sec.fieldLock = s.sec.fieldLock ∧ u.life.journal = s.life.journal ∧ u.cfg.slots = s.cfg.slots))
    ∧ (s.pwr.good = false → s.nw.scanned = true → Completes (.powerGood strap) s (fun u => u = { s with pins := { s.pins with resetN := true } }))
    ∧ (s.pwr.good = true → Completes (.powerGood strap) s (fun u => u = s))
    ∧ (s.pwr.good = true → Completes .powerGoodEnd s (fun u => dark u ∧ u.pins.ppsOut = false ∧ Only [.regs, .pins, .pwr, .chans, .banks, .mtx, .obs, .sto] s u))
    ∧ (s.pwr.good = false → Completes .powerGoodEnd s (fun u => u = s))
    ∧ (s.pwr.good = true → s.midnight = false → Completes .resetNLow s (fun u => dark u ∧ u.pins.resetN = false))
    ∧ (s.midnight = true → Completes .resetNLow s (fun u => u = s))
    ∧ Completes .powerCycle s (fun u => u.pwr.good = false ∧ u.nw = State.reset.nw ∧ u.regs = [] ∧ u.mem = [] ∧ u.sec.dbg = false
        ∧ u.sec.ctr = s.sec.ctr ∧ u.sec.fieldLock = s.sec.fieldLock ∧ u.sec.scannedEver = s.sec.scannedEver ∧ u.sec.fails = s.sec.fails
        ∧ u.sec.record = s.sec.record ∧ u.life.journal = s.life.journal ∧ u.life.snaps = s.life.snaps ∧ u.cfg.slots = s.cfg.slots)
    ∧ (s.pwr.good = true → Completes .pfwNFall s (fun u => u.pins = { s.pins with pfwN := false } ∧ u.pwr.pfw = true
        ∧ u.flag (fFLT_GROUP 21) = true ∧ Only [.regs, .pins, .icu, .nw, .mem, .life, .pwr, .mbx, .bist, .fspi] s u))
    ∧ (s.pwr.good = false → Completes .pfwNFall s (fun u => u = { s with pins := { s.pins with pfwN := false } }))
    ∧ (s.pins.pfwN = false → Completes .pfwCleared s (fun u => u.pins = { s.pins with pfwN := true }
        ∧ (s.pwr.good = true → Logged s u evPFW_CLEARED 0) ∧ u.pwr = { s.pwr with pfwAt := s.nw.tick } ∧ Only [.regs, .pins, .evt, .pwr] s u))
    ∧ (s.pins.pfwN = true → Completes .pfwCleared s (fun u => u = s))
    ∧ (s.pins.pfwN = true → s.pwr.pfw = true → s.pwr.pfwAt + tps ≤ s.nw.tick → Completes .pfwHigh1s s (fun u => u.pwr = { s.pwr with pfw := false }
        ∧ u.flag (fFLT_GROUP 21) = false ∧ Only [.regs, .mem, .life, .pwr, .fspi] s u))
    ∧ (s.pins.pfwN = false ∨ s.pwr.pfw = false ∨ s.nw.tick < s.pwr.pfwAt + tps → Completes .pfwHigh1s s (fun u => u = s))

/-- In D0 a crystal missing for 10 ms completes with SRC set, fault group 13 and time UNTRUSTED with CAUSE GRID; its end starts
the grid and the time base at 0 and phase D1, on one flash lane at 10 MHz, with nothing pending and everything masked in the
interrupt controller. D1 ends in Midnight with cause DAWN_FAIL where OTP or memory
training failed, else, with every lane good and no Midnight, with the identity registers loaded, four flash lanes at
40 MHz, a lockout restarted and phase D2. D2 with no accepted firmware slot sets HOLD 1 and no other register; with one it boots
that slot with its decrypted image. D3 without a good
configuration slot sets HOLD 2 and CFG_NONE; with one, LOG_START is written, the lamp epoch is the tick and HOLD ends. D4
ends once soft-start has ended, every converter pair has settled and no bank still closes, with the first rule period;
DAWN_LATE, 100 ms on, marks phase D5. Outside its phase an event changes
nothing.
The model's own choices in it: log entries 5, 46, 53. -/
def Obligations.DawnPhases : Prop :=
  ∀ s : State,
    (s.inPhase 0 = true → s.flag fGRID_SRC = false → s.pwr.phaseStart + 250000 ≤ s.nw.tick → Completes .xtal25StartTimeout s (fun u =>
      u.flag fGRID_SRC = true ∧ u.flag fGRID_XTAL_OK = false ∧ u.flag (fFLT_GROUP 13) = true ∧ u.get fTIME_STATE = 4
        ∧ u.get fTIME_CAUSE = 2 ∧ Only [.regs, .icu, .evt, .nw, .pwr, .ptp] s u))
    ∧ (s.flag fGRID_SRC = true ∨ s.nw.tick < s.pwr.phaseStart + 250000 → Completes .xtal25StartTimeout s (fun u => u = s))
    ∧ (s.inPhase 0 = true → Completes .dawnD0End s (fun u =>
      u.grid = { s.grid with running := true, tick := 0 } ∧ u.time = { s.time with sec := 0, ns := 0, frac := 0 }
        ∧ u.get fPWR_PHASE = 1 ∧ u.pwr.phaseStart = s.nw.tick ∧ u.fspi.lanes = 1 ∧ u.fspi.mhz = 10 ∧ u.icu = { State.reset.icu with ecc := s.icu.ecc }
        ∧ Only [.regs, .grid, .time, .icu, .pwr, .fspi] s u
        ∧ OnlyRegs [(aDEV_GRID_STAT, 0), (aDEV_PWR_STAT, 0)] s u))
    ∧ (s.inPhase 1 = true → s.midnight = false → Completes (.dawnD1End false 0) s (fun u =>
      u.get fNW_MN_CAUSE = 8 ∧ u.pstate = 5 ∧ u.midnight = true))
    ∧ (s.inPhase 1 = true → s.midnight = false → Completes (.dawnD1End true 0) s (fun u =>
      u.rd aDEV_UID_LO = BitVec.ofNat 32 Config.devUid ∧ u.rd aDEV_UID_HI = BitVec.ofNat 32 (Config.devUid / 2 ^ 32)
        ∧ u.get fPWR_PHASE = 2 ∧ u.fspi = { s.fspi with lanes := 4, mhz := 40 }
        ∧ u.sec = { s.sec with lockEnd := if State.lockout s.sec.fails = 0 then 0 else s.nw.tick + State.lockout s.sec.fails * tps }
        ∧ Only [.regs, .evt, .pwr, .sec, .fspi] s u))
    ∧ (s.inPhase 2 = true → s.bootSlot = none → Completes .dawnD2End s (fun u =>
      u.get fPWR_HOLD = 1 ∧ u.get fPWR_PHASE = 2 ∧ Only [.regs, .fspi] s u ∧ OnlyRegs [(aDEV_PWR_STAT, 0)] s u))
    ∧ (∀ i b, s.inPhase 2 = true → s.bootSlot = some (i, b) → Completes .dawnD2End s (fun u =>
      u.sec.running = i ∧ u.sec.fallback = b ∧ u.sec.lockEnd = s.sec.lockEnd ∧ u.sec.image = some (Config.aesGcm
          (Config.unwrapKey Config.kFww (Config.fwWrapped (s.fwSlot i).image)) (Config.fwBody (s.fwSlot i).image))
        ∧ Only [.regs, .icu, .evt, .nw, .mem, .pwr, .obs, .sto, .sec, .fspi] s u))
    ∧ (s.inPhase 3 = true → s.get fPWR_HOLD ≠ 2 → (∀ i ∈ s.loadable, (s.cfgSlot i).good = false) → Completes .dawnD3End s (fun u =>
      u.get fPWR_HOLD = 2 ∧ u.flag fCFG_NONE = true ∧ u.get fPWR_PHASE = 3 ∧ u.cfg = s.cfg))
    ∧ (s.inPhase 3 = true → s.get fPWR_HOLD ≠ 2 → (∃ i ∈ s.loadable, (s.cfgSlot i).good = true) → Completes .dawnD3End s (fun u =>
      u.evt.started = true ∧ u.dim.epoch = s.grid.tick ∧ u.sec = s.sec ∧ u.grid = s.grid))
    ∧ (s.inPhase 3 = true → s.get fPWR_HOLD = 2 → s.flag fCFG_NONE = true → Completes .dawnD3End s (fun u => u = s))
    ∧ (s.inPhase 4 = true → s.boost.ended = true → (∀ p < 8, s.pairSettled p = true)
        → (∀ n < 8, (s.bank n).closed = false ∨ (s.bank n).at_ + 375 ≤ s.grid.tick) → Completes .dawnD4End s (fun u =>
      u.get fPWR_PHASE = 5 ∧ u.rule.start = s.grid.tick ∧ Only [.regs, .pwr, .rule, .adc] s u ∧ OnlyRegs [(aDEV_PWR_STAT, 0)] s u))
    ∧ (s.boost.ended = false ∨ (∃ p < 8, s.pairSettled p = false) → Completes .dawnD4End s (fun u => u = s))
    ∧ (s.inPhase 5 = true → s.dawnOver = true → Completes .dawnLate s (fun u => u.pwr = { s.pwr with late := true } ∧ Only [.pwr] s u))
    ∧ (s.pwr.good = false ∨ s.pstate ≠ 0 → ∀ c ∈ [Instr.xtal25StartTimeout, .dawnD0End, .dawnD1End true 0, .dawnD2End, .dawnD3End, .dawnD4End, .dawnLate],
        Completes c s (fun u => u = s))

/-- DUSK_ENTRY on a pending request in Run with SC0 running, no job and no Morning check, at the start of a rule period,
begins the entry; a second one, once a commit has latched the Dusk set and every command has ended, brings STATE DUSK with the
rules and the resolver stopped; otherwise it changes nothing. A device event wakes the part from Dusk with cause 3 and WOKE 0, a
selected source that rises in Dusk with cause 2, its number and its pending bit, and one during the entry abandons it; one that is
not selected only becomes pending, and one that does not rise in Dusk changes nothing there; out of Dusk a device event changes nothing.
DUSK_EXIT_RESUME marks the exit resumed and starts the rule period. MORNING_CHECK_FIRE begins a due or waiting check in Run
where nothing stands in its way, defers it where something does, and does nothing where it is not enabled; a part of the check
that is ready advances to the next one, and a check skipped after 10 minutes shows RESULT SKIPPED.
The model's own choices in it: log entries 5, 19, 52, 81. -/
def Obligations.DuskAndMorning : Prop :=
  ∀ (n : BitVec 8) (s : State),
    let held := s.pstate ≠ 1 ∨ s.jobRuns = true ∨ s.flag fPWR_DUSK_PEND = true
    let may := s.midnight = false ∧ s.pwr.good = true ∧ s.flag fSYSMORN_EN = true ∧ s.flag fTIME_SET = true ∧ s.flag fMORN_RUNNING = false
      ∧ (s.mornFalls = true ∨ s.pwr.mornWait = true)
    let begins := s.flag fPWR_DUSK_PEND = true ∧ s.pstate = 1 ∧ s.jobRuns = false ∧ s.flag fMORN_RUNNING = false ∧ s.periodBegins = true
    let sleeps := s.pstate = 2 ∧ s.pwr.latched = true ∧ (s.mbx.cmds.all fun c => c.phase == .done) = true
    (s.flag fNW_SC0_LOST = false → begins → Completes .duskEntry s (fun u => u.pstate = 2 ∧ u.flag fPWR_DUSK_PEND = false
      ∧ u.flag fPWR_ABORTED = false ∧ u.pwr = { s.pwr with latched := false } ∧ Only [.regs, .pwr] s u ∧ OnlyRegs [(aDEV_PWR_STAT, 0)] s u))
    ∧ (s.flag fNW_SC0_LOST = false → sleeps → Completes .duskEntry s (fun u => u.pstate = 3 ∧ u.rule.running = false
      ∧ u.res.running = false ∧ u.res.ready = false
      ∧ Only [.regs, .time, .icu, .evt, .nw, .cap, .life, .pwr, .rule, .res, .loops, .adc, .ring, .ptp] s u))
    ∧ (s.flag fNW_SC0_LOST = true ∨ ¬ (begins ∨ sleeps) → Completes .duskEntry s (fun u => u = s))
    ∧ (s.pstate = 3 → Completes (.duskWakeEvent none) s (fun u => u.pstate = 4 ∧ u.get fPWR_WAKE = 3 ∧ u.pwr.wakeTick = s.nw.tick
        ∧ u.flag fNWSTAT_WOKE = false ∧ u.pwr.resumed = false ∧ Only [.regs, .icu, .nw, .pwr] s u
        ∧ OnlyRegs [(aDEV_PWR_STAT, 0), (aICU_NWSTAT, 0)] s u))
    ∧ (s.pstate ≠ 3 → Completes (.duskWakeEvent none) s (fun u => u = s))
    ∧ (s.pstate = 3 → s.nwSelected n.toNat = true → sourceListed n.toNat = true → risesInDusk n.toNat = true → n.toNat < 128 →
        Completes (.duskWakeEvent (some n)) s (fun u => u.sourcePending n.toNat = true ∧ u.pstate = 4 ∧ u.get fPWR_WAKE = 2 ∧ u.flag fNWSTAT_WOKE = true ∧ u.get fNWSTAT_SRC = n.toNat ∧ Only [.regs, .icu, .nw, .pwr] s u))
    ∧ (s.pstate = 2 → s.flag fPWR_DUSK_PEND = false → s.nwSelected n.toNat = true → sourceListed n.toNat = true →
        Completes (.duskWakeEvent (some n)) s (fun u => u.pstate = (if s.pwr.latched then 4 else 1) ∧ u.flag fPWR_ABORTED = true
          ∧ u.pwr = { s.pwr with resumed := true } ∧ Only [.regs, .icu, .pwr] s u))
    ∧ (s.nwSelected n.toNat = false → Completes (.duskWakeEvent (some n)) s (fun u => Only [.icu] s u
      ∧ (sourceListed n.toNat = true → s.inDusk = false ∨ risesInDusk n.toNat = true → u.sourcePending n.toNat = true)))
    ∧ (sourceListed n.toNat = false ∨ (s.inDusk = true ∧ risesInDusk n.toNat = false) → Completes (.duskWakeEvent (some n)) s (fun u => u = s))
    ∧ (s.pstate = 4 → s.pwr.resumed = false → Completes .duskExitResume s (fun u => u.pstate = 4 ∧ u.pwr.resumed = true
      ∧ u.rule.start = s.grid.tick ∧ Only [.regs, .icu, .evt, .nw, .mem, .cap, .life, .pwr, .rule, .adc, .fspi] s u))
    ∧ (s.pstate ≠ 4 ∨ s.pwr.resumed = true → Completes .duskExitResume s (fun u => u = s))
    ∧ (may → ¬ held → Completes .morningCheckFire s (fun u => u.flag fMORN_RUNNING = true ∧ u.flag fMORN_DEFERRED = false
      ∧ u.get fMORN_BANKFAIL = 0 ∧ u.pwr.mornBank = 0 ∧ u.pwr.mornWait = false ∧ u.pwr.mornAt = s.grid.tick ∧ Only [.regs, .pwr] s u))
    ∧ (may → held → Completes .morningCheckFire s (fun u => u.flag fMORN_RUNNING = false ∧ u.flag fMORN_DEFERRED = true
      ∧ u.pwr.mornWait = true ∧ (s.mornFalls = true → u.pwr.mornDay = s.mornCount ∧ u.pwr.mornAt = s.grid.tick)
      ∧ (s.mornFalls = true → s.pwr.mornWait = true → s.inDusk = true → u.get fMORN_RESULT = 3) ∧ Only [.regs, .pwr] s u))
    ∧ (¬ may → Completes .morningCheckFire s (fun u => u = s))
    ∧ (s.flag fMORN_RUNNING = true → s.mornReady = true → s.pwr.mornBank < 15 → Completes .morningBankStart s (fun u =>
      u.pwr.mornBank = s.pwr.mornBank + 1 ∧ u.flag fMORN_RUNNING = true ∧ Only [.regs, .evt, .pwr, .banks] s u))
    ∧ (s.flag fMORN_RUNNING = false ∨ s.mornReady = false → Completes .morningBankStart s (fun u => u = s))
    ∧ (s.pwr.mornWait = true → s.inDusk = false → s.pwr.mornAt + 600 * tps ≤ s.grid.tick → Completes .morningCheckSkip s (fun u => u.get fMORN_RESULT = 3
      ∧ u.flag fMORN_DEFERRED = false ∧ u.pwr = { s.pwr with mornWait := false } ∧ Only [.regs, .pwr] s u))
    ∧ (s.pwr.mornWait = false ∨ s.inDusk = true ∨ s.grid.tick < s.pwr.mornAt + 600 * tps → Completes .morningCheckSkip s (fun u => u = s))

/-- A heartbeat of a running SC0 with the next code is accepted; one wrong code is remembered and the second loses SC0.
SC0_LOST sets its mark, cause and group 14, freezes commits outside Midnight and ends a Dusk entry; a time-out acts only after 10 ms
without a heartbeat and a halt by debug only with an open debug port, and a loss declared again before the restart begins changes nothing; SC0_RESET, 1 ms later,
starts a counted restart, or Dawn again at D1 on the running grid, or at three restarts within 10 minutes enters Midnight
with cause 2, and its restart ends an unmarked commit and the staging; SC0_RESTART_COMPLETE, once the restart has begun, ends the loss with the firmware loaded again,
and with a table reload only where a rule period begins. SC1 is lost with group 15
and held at the fourth loss; SC1_RESTART_DONE ends a loss that is not held and
takes up the standing signal fails. SFC_LOST and a wrong signature enter Midnight
with cause 1, and in Midnight stop the work of SFC. An uncorrectable error outside the processors sets group 19, and one in the capture ring or log clears its
64-byte line. A write of SYS_FLT_CLR clears each latched group it names whose cause has ended, and no other.
The model's own choices in it: log entries 5, 47, 48, 53, 82. -/
def Obligations.CoreRecovery : Prop :=
  ∀ (code : BitVec 8) (k : Fin 4) (p : Fin 2) (loc : Fin 9) (reload : Bool) (w addr : BitVec 32) (s : State),
    let up := s.pwr.good = true ∧ ¬ (s.pstate = 0 ∧ s.get fPWR_PHASE = 0)
    let watched := s.flag fNW_SC0_LOST = false ∧ s.pstate ≠ 3
    let late := fun (beat : Nat) => ¬ (k.val = 0 ∧ (s.nw.tick < beat + tenMs ∨ s.pstate = 3)) ∧ ¬ (k.val = 3 ∧ s.debugReach = false)
    let past := s.recent s.nw.sc0Starts
    let waits := s.flag fNW_SC0_LOST = true ∧ s.nw.sc0Step = 0
    let resets := s.flag fNW_SC0_LOST = true ∧ s.nw.sc0Step = 0 ∧ s.nw.sc0LostAt + 25000 ≤ s.nw.tick
    let sc1Up := s.pwr.good = true ∧ s.flag fNW_SC1_HELD = false ∧ 3 ≤ s.get fPWR_PHASE
    (watched → code.toNat = (s.nw.sc0Code + 1) % 256 → Completes (.sc0Heartbeat code) s (fun u =>
      u.nw = { s.nw with sc0Code := code.toNat, sc0Wrong := 0, sc0Beat := s.nw.tick } ∧ Only [.nw] s u))
    ∧ (watched → code.toNat ≠ (s.nw.sc0Code + 1) % 256 → s.nw.sc0Wrong = 0 → Completes (.sc0Heartbeat code) s (fun u =>
      u.nw = { s.nw with sc0Wrong := 1 } ∧ Only [.nw] s u))
    ∧ (up → watched → code.toNat ≠ (s.nw.sc0Code + 1) % 256 → s.nw.sc0Wrong ≠ 0 → Completes (.sc0Heartbeat code) s (fun u =>
      u.flag fNW_SC0_LOST = true ∧ u.nw.sc0Cause = 2 ∧ u.flag (fFLT_GROUP 14) = true))
    ∧ (¬ watched → Completes (.sc0Heartbeat code) s (fun u => u = s))
    ∧ (up → ¬ waits → late s.nw.sc0Beat → Completes (.sc0Lost k addr) s (fun u => u.flag fNW_SC0_LOST = true ∧ u.nw.sc0Cause = k.val + 1
        ∧ u.nw.sc0Addr = (if k.val = 2 then addr.toNat else 0) ∧ (s.midnight = false → u.flag fNW_FROZEN = true)
        ∧ (s.pstate = 2 → u.pstate = 1) ∧ u.nw.sc0LostAt = s.nw.tick ∧ u.flag (fFLT_GROUP 14) = true ∧ Only [.regs, .icu, .nw, .pwr, .banks] s u))
    ∧ ((waits ∨ ¬ late s.nw.sc0Beat) → Completes (.sc0Lost k addr) s (fun u => u = s))
    ∧ (resets → 3 ≤ past.length → s.midnight = false → Completes .sc0Reset s (fun u =>
      u.get fNW_MN_CAUSE = 2 ∧ u.pstate = 5))
    ∧ (resets → past.length < 3 → s.pstate ≠ 0 → Completes .sc0Reset s (fun u =>
      u.nw.sc0Step = 1 ∧ u.nw.sc0Starts = s.nw.tick :: past.take 2 ∧ u.get fNW_SC0_RST = past.length + 1 ∧ u.cfg.wait = none
        ∧ u.cfg.staged = none ∧ u.cfg.bytes = [] ∧ u.cfg.owner = none))
    ∧ (resets → past.length < 3 → s.pstate = 0 → Completes .sc0Reset s (fun u => u.get fPWR_PHASE = 1 ∧ u.nw.sc0Step = 0
      ∧ u.get fNW_SC0_RST = past.length + 1 ∧ u.nw.sc0Starts = s.nw.tick :: past.take 2 ∧ u.grid = s.grid ∧ u.time = s.time))
    ∧ (¬ resets → Completes .sc0Reset s (fun u => u = s))
    ∧ (s.sc0Ready reload = true → Completes (.sc0RestartComplete reload) s (fun u => u.flag fNW_SC0_LOST = false ∧ u.nw.sc0Step = 0
        ∧ u.sec = s.fwReload.sec
        ∧ (s.rulesRun = true → ∀ i, s.markAgain.reloadFrom reload = some i → u.rule.start = s.grid.tick)))
    ∧ (s.sc0Ready reload = false → Completes (.sc0RestartComplete reload) s (fun u => u = s))
    ∧ (s.sfcRuns = true → Completes (.sfcHeartbeat true) s (fun u => u.flag fNW_SFC_OK = true ∧ Only [.regs] s u ∧ OnlyRegs [(aDEV_NW_STAT, 0)] s u))
    ∧ (s.sfcRuns = true → s.midnight = false → Completes (.sfcHeartbeat false) s (fun u => u.get fNW_MN_CAUSE = 1 ∧ u.pstate = 5)
        ∧ Completes .sfcLost s (fun u => u.get fNW_MN_CAUSE = 1 ∧ u.pstate = 5))
    ∧ (s.sfcRuns = true → s.midnight = true → ∀ e ∈ [Instr.sfcHeartbeat false, .sfcLost], Completes e s (fun u =>
      u.sto.sfcLost = true ∧ u.sfcRuns = false ∧ u.flag fNW_SFC_OK = false ∧ Only [.regs, .sto] s u ∧ OnlyRegs [(aDEV_NW_STAT, 0)] s u))
    ∧ (s.sfcRuns = false → Completes (.sfcHeartbeat false) s (fun u => u = s) ∧ Completes .sfcLost s (fun u => u = s))
    ∧ Completes .sc1Heartbeat s (fun u => u.nw = { s.nw with sc1Beat := s.nw.tick } ∧ Only [.nw] s u)
    ∧ (sc1Up → k.val ≠ 1 → late s.nw.sc1Beat → Completes (.sc1Lost k addr) s (fun u => u.flag fNW_SC1_LOST = true
        ∧ u.flag fNW_SC1_HELD = decide (3 ≤ (s.recent s.nw.sc1Starts).length) ∧ u.flag (fFLT_GROUP 15) = true
        ∧ Only [.regs, .time, .icu, .evt, .nw, .pwr, .ring, .ptp] s u))
    ∧ (k.val = 1 ∨ ¬ late s.nw.sc1Beat → Completes (.sc1Lost k addr) s (fun u => u = s))
    ∧ (s.flag fNW_SC1_LOST = true → s.flag fNW_SC1_HELD = false → s.underTest bkSC1 = false → Completes .sc1RestartDone s (fun u =>
      u.flag fNW_SC1_LOST = false ∧ u.nw.sc1Beat = s.nw.tick
        ∧ (∀ q < 2, s.sf q = true → (u.rport q).fail = true ∨ (u.rport q).holdoff = true)
        ∧ ((∀ q < 2, s.sf q = false ∧ (s.rport q).fail = false) → OnlyRegs [(aDEV_NW_STAT, 0)] s u ∧ Only [.regs, .nw, .ring] s u)))
    ∧ (s.flag fNW_SC1_LOST = false ∨ s.flag fNW_SC1_HELD = true ∨ s.underTest bkSC1 = true → Completes .sc1RestartDone s (fun u => u = s))
    ∧ (4 ≤ loc.val → Completes (.eccUncorrected loc p addr) s (fun u => u.flag (fFLT_GROUP 19) = true
        ∧ (loc.val = 8 → ∀ i < 64, u.memByte (addr.toNat / 64 * 64 + i) = 0)))
    ∧ Completes (.faultGroupClear w) s (fun u =>
      (∀ n ∈ [11, 14, 15, 16, 19], u.flag (fFLT_GROUP n) = (s.flag (fFLT_GROUP n) && !(bitOf w.toNat n && s.causeEnded n)))
        ∧ Only [.regs, .banks] s u ∧ OnlyRegs [(aDEV_FLT_ACT, 0)] s u)

/-- With the record restored and SC0 running a fold, 1 s after the last, shows the age of the newest copy in minutes, at most
0xFFF. Each 15 minutes a persistence falls due: it is begun, in Dusk it waits, beside one under way nothing more happens. Its
good end stores the copied slot in flash and erases the next two slots; a bad one leaves the flash as it was and moves on. A
snapshot that is due is taken into the next of 56 slots, or stopped in the power-fail window. CLR_CH clears a channel record
but for bytes 72-87 and CLR_DEV every record from 0x100 to 0x2FFF, and neither changes another byte. A record that reaches an
open log is written at its SEQ address and EVT_HEAD advances by one; EVT_RDSEQ and EVT_THRESH hold what is written, the
threshold at most 131,072.
The model's own choices in it: log entries 2, 5, 12, 53, 82, 83. -/
def Obligations.LifetimeRecords : Prop :=
  ∀ (core : BitVec 8) (ok : Bool) (c : Fin 128) (w : BitVec 32) (s : State),
    let runs := s.flag fNW_SC0_LOST = false ∧ s.inDusk = false ∧ s.get fLIFE_RESTORE ≠ 0
    let folds := runs ∧ s.life.lastFold + tps ≤ s.nw.tick
    let falls := s.get fLIFE_RESTORE ≠ 0 ∧ s.life.dueAt ≤ s.nw.tick
    let next := s.life.dueAt + 900 * tps
    let m := (s.nw.tick - s.life.lastGood) / 1500000000
    let l := s.life
    let a := lifeBase + lifeChan c.val
    (folds → Completes (.lifetimeFold core) s (fun u => u.get fLIFE_AGE = (if m < 0xFFF then m else 0xFFF)
        ∧ Only [.regs, .icu, .evt, .nw, .mem, .life, .pwr] s u))
    ∧ (¬ folds → Completes (.lifetimeFold core) s (fun u => u = s))
    ∧ (runs → falls → l.writing = 0 → Completes .persistTimer s (fun u => u.get fLIFE_PERSIST = 1 ∧ u.life.writing = 1
        ∧ u.life.due = false ∧ u.life.dueAt = next ∧ u.life.journal = l.journal
        ∧ Only [.regs, .mem, .life, .fspi] s u ∧ OnlyRegs [(aDEV_LIFE_STAT, 0)] s u))
    ∧ (falls → s.inDusk = true → Completes .persistTimer s (fun u => u.life = { l with dueAt := next, due := true } ∧ Only [.life] s u))
    ∧ (falls → s.inDusk = false → l.writing ≠ 0 → Completes .persistTimer s (fun u => u.life = { l with dueAt := next } ∧ Only [.life] s u))
    ∧ (¬ falls → Completes .persistTimer s (fun u => u = s))
    ∧ (l.writing ≠ 0 → Completes (.persistDone true) s (fun u => u.get fLIFE_PERSIST = 0 ∧ u.get fLIFE_AGE = 0
        ∧ u.life.writing = 0 ∧ u.life.nextJournal = (l.nextJournal + 1) % 8 ∧ u.life.lastGood = s.nw.tick ∧ u.life.snaps = l.snaps
        ∧ (∀ k, tabGet (fun _ => []) u.life.journal k =
            if k = l.nextJournal then tabSlice (lifeSlot l.copySlot) 0x8000 s.mem
            else if k = (l.nextJournal + 1) % 8 ∨ k = (l.nextJournal + 2) % 8 then [] else tabGet (fun _ => []) l.journal k)
        ∧ Only [.regs, .life, .fspi] s u))
    ∧ (l.writing ≠ 0 → Completes (.persistDone false) s (fun u => u.get fLIFE_PERSIST = 2
        ∧ u.life = { l with nextJournal := (l.nextJournal + 1) % 8 } ∧ Only [.regs, .life, .fspi] s u))
    ∧ (l.writing = 0 → Completes (.persistDone ok) s (fun u => u = s))
    ∧ (s.get fLIFE_PERSIST = 2 → l.writing ≠ 0 → Completes .persistRetry s (fun u => u.get fLIFE_PERSIST = 1 ∧ Only [.regs, .fspi] s u
        ∧ OnlyRegs [(aDEV_LIFE_STAT, 0)] s u))
    ∧ (s.get fLIFE_PERSIST ≠ 2 ∨ l.writing = 0 → Completes .persistRetry s (fun u => u = s))
    ∧ (runs → s.snapDue = true → s.pwr.pfw = false → Completes .dailySnapshot s (fun u =>
      u.life.nextSnap = (l.nextSnap % 56 + 1) % 56 ∧ u.life.journal = l.journal ∧ u.life.snapStopped = false
        ∧ u.life.snapDay = s.localDay ∧ u.life.snapAt = s.nw.tick
        ∧ u.get fLIFE_SNAPS = (if s.get fLIFE_SNAPS < 56 then s.get fLIFE_SNAPS + 1 else 56) ∧ Only [.regs, .mem, .life, .fspi] s u))
    ∧ (runs → s.snapDue = true → s.pwr.pfw = true → Completes .dailySnapshot s (fun u =>
      u.life = { l with snapDay := s.localDay, snapAt := s.nw.tick, snapStopped := true } ∧ Only [.life] s u))
    ∧ (¬ runs ∨ s.snapDue = false → Completes .dailySnapshot s (fun u => u = s))
    ∧ Completes (.clrCh c) s (fun u => Logged s u evLIFE_CLEARED 0 ∧ (∀ k, u.memByte k =
        if (a ≤ k ∧ k < a + 72) ∨ (a + 88 ≤ k ∧ k < a + 128) then 0 else s.memByte k) ∧ Only [.regs, .evt, .mem, .life] s u)
    ∧ Completes .clrDev s (fun u => Logged s u evLIFE_CLEARED 0 ∧ (∀ k, u.memByte k =
        if lifeBase + 0x100 ≤ k ∧ k < lifeBase + 0x3000 then 0 else s.memByte k) ∧ Only [.regs, .evt, .mem, .life] s u)
    ∧ (∀ r rest, s.logOpen = true → s.evt.queue = r :: rest → Completes .eventRecordWrite s (fun u =>
      u.evt.queue.take rest.length = rest ∧ u.rd aEVT_HEAD = s.rd aEVT_HEAD + 1
        ∧ (∀ i (h : i < (evtBytes r (s.rd aEVT_HEAD).toNat).length), i < 64 →
            u.memByte (evtAddr (s.rd aEVT_HEAD).toNat + i) = (evtBytes r (s.rd aEVT_HEAD).toNat)[i])
        ∧ Only [.regs, .icu, .evt, .nw, .mem, .cap, .pwr] s u))
    ∧ (s.logOpen = false → Completes .eventRecordWrite s (fun u => u = s))
    ∧ Completes (.evtRdseqWrite w) s (fun u => u.rd aEVT_RDSEQ = w ∧ u.mem = s.mem ∧ u.evt.queue = s.evt.queue
        ∧ OnlyRegs [(aDEV_PWR_STAT, 0), (aEVT_RDSEQ, 0), (aICU_NWSTAT, 0)] s u)
    ∧ Completes (.evtThreshWrite w) s (fun u =>
      u.rd aEVT_THRESH = BitVec.ofNat 32 (if 131072 < w.toNat % 2 ^ 18 then 131072 else w.toNat % 2 ^ 18)
        ∧ u.mem = s.mem ∧ u.evt.queue = s.evt.queue ∧ OnlyRegs [(aDEV_PWR_STAT, 0), (aEVT_THRESH, 0), (aICU_NWSTAT, 0)] s u)

/-- Without MODE_3032 a frame changes nothing but the driven bytes. In the mode a frame of other than 24 clocks sets ERR and
drives nothing. A read drives the status byte (VALID, ERR, UNLOCKED, FAULT, READY, three zeros) and the value: 0xFFFF while
VALID is 0, 0x3032 at ID, the last written word at CHnn_CTRL, 0 at 0x08-0x0F and 0x50-0x7F; reading STAT clears ERR. A write
drives 0 and is ignored while VALID is 0. CHnn_CTRL is stored and asks the owning aspect for SHOW, HIDE or RELEASE with its
level, or sets ERR without an owner, and in Midnight is ignored with ERR. PW_HI tries the password and clears PW_LO; a
lockout, Midnight or a SEC that cannot check sets ERR. LOCK ends the SPI elevation alone. SELFTEST without elevation sets
ERR, during another run reads BUSY, and else starts the memory blocks.
The model's own choices in it: log entries 58, 60. -/
def Obligations.SpiFrames : Prop :=
  ∀ (n : Fin 32) (x : BitVec 16) (cmd : BitVec 8) (clocks : Nat) (full : Bool) (s : State),
    let mode := s.spi.mode = true
    let go := s.spi.mode = true ∧ s.hostValid = true
    let status := fun (b : Byte) => b.getLsbD 7 = s.hostValid ∧ b.getLsbD 6 = s.spi.err ∧ b.getLsbD 5 = s.elevated 9
      ∧ b.getLsbD 4 = !s.faultN ∧ b.getLsbD 3 = s.pins.aspectReady ∧ ∀ i < 3, b.getLsbD i = false
    let reads := fun (a v : Nat) => Completes (.spi3032Transaction 24 (BitVec.ofNat 8 (128 + a)) x) s (fun u => Only [.bus, .spi] s u
      ∧ u.spi = (if a = 2 then { s.spi with err := false } else s.spi)
      ∧ ∃ b, status b ∧ u.bus = [b, BitVec.ofNat 8 (v / 256), BitVec.ofNat 8 v])
    let errs := fun (u : State) => u.spi = { s.spi with err := true } ∧ Only [.bus, .spi] s u
    let barred := s.lockedOut = true ∨ s.midnight = true ∨ s.secOut ≠ none
    let try8 := leBytes 2 s.spi.pwLo ++ leBytes 2 x.toNat ++ leBytes 4 0
    let blocks := [0x1A, 0x1B, 0x1C, 0x1D] ++ if full then [bkMEMDIE] else []
    (s.spi.mode = false → Completes (.spi3032Transaction clocks cmd x) s (fun u => u.bus = [] ∧ Only [.bus] s u))
    ∧ (mode → clocks ≠ 24 → Completes (.spi3032Transaction clocks cmd x) s (fun u => u.bus = [] ∧ errs u))
    ∧ (mode → s.hostValid = false → Completes (.spi3032Transaction 24 cmd x) s (fun u => Only [.bus] s u
        ∧ ∃ b, status b ∧ u.bus = (if 128 ≤ cmd.toNat then [b, 0xFF, 0xFF] else [b, 0, 0])))
    ∧ (go → reads 0 0x3032 ∧ reads 2 s.spiStat ∧ reads (0x10 + n.val) (tabGet (fun _ => 0x4000) s.spi.ctrl n.val)
        ∧ ∀ a, 8 ≤ a ∧ a < 0x10 ∨ 0x50 ≤ a ∧ a < 0x80 → reads a 0)
    ∧ (go → cmd.toNat < 128 → Completes (.spi3032Transaction 24 cmd x) s (fun u => ∃ b, status b ∧ u.bus = [b, 0, 0]))
    ∧ (go → s.midnight = true → Completes (.chCtrlWrite n x) s errs)
    ∧ (go → s.midnight = false → Completes (.chCtrlWrite n x) s (fun u =>
        tabGet (fun _ => 0x4000) u.spi.ctrl n.val = withBits x.toNat 12 2 0
        ∧ (s.owner n.val = none → u.spi.err = true ∧ Only [.bus, .spi] s u)
        ∧ ∀ m, s.owner n.val = some m → Only [.regs, .bus, .spi] s u ∧ OnlyRegs [(aASP_REQ m, 0)] s u
          ∧ u.get (fREQ_CMD m) = (if x.getLsbD 14 then 0 else if x.getLsbD 15 then 1 else 2)
          ∧ u.flag (fREQ_PAT_EN m) = false ∧ u.get (fREQ_LEVEL m) = (if x.toNat % 4096 = 0 then 0 else 3)
          ∧ u.get (fREQ_BRIGHT m) = x.toNat % 4096 * 16 + x.toNat % 4096 / 256))
    ∧ (go → barred → Completes (.pwHiWrite x) s errs)
    ∧ (go → ¬ barred → Completes (.pwHiWrite x) s (fun u => u.spi = { s.spi with pwLo := 0 }
        ∧ (s.sec.record = none → u.sec = s.sec)
        ∧ (s.pwMatch try8 = true → u.elevated 9 = true ∧ u.sec.fails = 0)
        ∧ (s.sec.record ≠ none → s.pwMatch try8 = false → u.elevated 9 = s.elevated 9 ∧ u.sec.fails = s.sec.fails + 1)))
    ∧ (go → Completes (.spiLock x) s (fun u => (∀ d, u.elevated d = (s.elevated d && !(d == 9))) ∧ Only [.bus, .sec] s u))
    ∧ (go → s.elevated 9 = false → Completes (.selftestStart full) s errs)
    ∧ (go → s.elevated 9 = true → Completes (.selftestStart full) s (fun u => Only [.regs, .bus, .spi, .sec, .bist] s u
        ∧ (s.bist.active = true → u.spi = { s.spi with full := full, result := 5 } ∧ u.bist = s.bist ∧ u.regs = s.regs)
        ∧ (s.bist.active = false → u.spi = { s.spi with full := full, busy := true, result := 0 } ∧ u.bist.active = true
          ∧ u.bist.left = blocks ∧ u.bist.job = none ∧ u.flag State.fBIST_RUNNING = true)))

/-- QSPI_WRITE_S and QSPI_WRITE_Q complete and drive nothing. While the slave does not serve the window a transaction changes
nothing else. An address above 0xFFFFF or not a multiple of 4, a burst into the privileged view while the QSPI context is not
elevated, and a burst into 0x01000-0x01FFF in Midnight set ACCESS_ERR, raise source 34 when it was clear, and write nothing. A
burst from 0x80000 on is ignored without error. A burst into the submission queues stores exactly its whole words,
little-endian, and a partial word at its end is discarded with ACCESS_ERR.
The model's own choices in it: log entries 58, 61. -/
def Obligations.QspiWrites : Prop :=
  ∀ (addr : BitVec 24) (ws : List (BitVec 32)) (part : Bool) (s : State),
    ∀ c ∈ [Instr.qspiWriteS addr ws part, .qspiWriteQ addr ws part],
      let a := addr.toNat
      let up := s.spi.mode = false ∧ s.hostValid = true
      let within := fun (lo hi : Nat) => a % 4 = 0 ∧ lo ≤ a ∧ a + 4 * ws.length ≤ hi
      let regs := [(aMBX_STAT, 0), (aDEV_PWR_STAT, 0), (aICU_NWSTAT, 0)]
      let errs := fun (u : State) => u.bus = [] ∧ u.flag fMBX_ACCESS_ERR = true
        ∧ (s.flag fMBX_ACCESS_ERR = false → u.sourcePending 34 = true) ∧ Only [.regs, .icu, .nw, .pwr, .bus] s u ∧ OnlyRegs regs s u
      (¬ up → Completes c s (fun u => u.bus = [] ∧ Only [.bus] s u))
      ∧ (up → 0x100000 ≤ a ∨ a % 4 ≠ 0 → Completes c s errs)
      ∧ (up → within 0x10000 0x20000 → ws ≠ [] → s.elevated 0 = false → Completes c s errs)
      ∧ (up → within 0x01000 0x02000 → ws ≠ [] → s.midnight = true → Completes c s errs)
      ∧ (up → a % 4 = 0 → 0x80000 ≤ a → a < 0x100000 → part = false → Completes c s (fun u => u.bus = [] ∧ Only [.bus] s u))
      ∧ (up → within 0x20000 0x22800 → Completes c s (fun u => u.bus = []
        ∧ u.ramRead a (4 * ws.length) = bytesOfWords ws ∧ (∀ k, k < a ∨ a + 4 * ws.length ≤ k → u.ramByte k = s.ramByte k)
        ∧ u.mbx.cmds = s.mbx.cmds ∧ u.flag fMBX_ACCESS_ERR = (s.flag fMBX_ACCESS_ERR || part)
        ∧ Only [.regs, .icu, .nw, .pwr, .mbx, .bus] s u ∧ OnlyRegs regs s u))

/-- QSPI_READ_S, QSPI_READ_Q, QSPI_STATUS and an invalid instruction complete. In MODE_3032 nothing is driven. A read while the
window is not valid drives a status byte with VALID 0 and all ones, and changes nothing else. The status byte holds VALID in bit
7, ACCESS_ERR in bit 6, the elevation of the QSPI context in bit 5 and zeros below. A bad address drives nothing and sets
ACCESS_ERR; a privileged read without elevation drives zeros and sets it; a read of the submission queues drives their bytes;
addresses from 0x80000 on read zeros. The STATUS instruction drives the status byte and clears ACCESS_ERR; an invalid instruction
drives nothing and sets it.
The model's own choices in it: log entries 57, 58. -/
def Obligations.QspiReads : Prop :=
  ∀ (addr : BitVec 24) (n : Nat) (s : State),
    let a := addr.toNat
    let up := s.spi.mode = false ∧ s.hostValid = true
    let regs := [(aMBX_STAT, 0), (aDEV_PWR_STAT, 0), (aICU_NWSTAT, 0)]
    let drives := fun (u : State) (valid : Bool) (data : List Byte) => ∃ b : Byte, u.bus = b :: data
      ∧ b.getLsbD 7 = valid ∧ b.getLsbD 6 = s.flag fMBX_ACCESS_ERR ∧ b.getLsbD 5 = s.elevated 0 ∧ b.toNat % 32 = 0
    let errs := fun (u : State) => u.flag fMBX_ACCESS_ERR = true
      ∧ (s.flag fMBX_ACCESS_ERR = false → u.sourcePending 34 = true) ∧ Only [.regs, .icu, .nw, .pwr, .bus] s u ∧ OnlyRegs regs s u
    (∀ c ∈ [Instr.qspiReadS addr n, .qspiReadQ addr n],
      (s.spi.mode = true → Completes c s (fun u => u.bus = [] ∧ Only [.bus] s u))
      ∧ (s.spi.mode = false → s.hostValid = false → Completes c s (fun u =>
        drives u false (List.replicate (4 * n) 0xFF) ∧ Only [.bus] s u))
      ∧ (up → 0x100000 ≤ a ∨ a % 4 ≠ 0 → Completes c s (fun u => u.bus = [] ∧ errs u))
      ∧ (up → a % 4 = 0 → 0x10000 ≤ a → a + 4 * n ≤ 0x20000 → 0 < n → s.elevated 0 = false → Completes c s (fun u =>
        drives u true (List.replicate (4 * n) 0) ∧ errs u))
      ∧ (up → a % 4 = 0 → 0x20000 ≤ a → a + 4 * n ≤ 0x22800 → Completes c s (fun u =>
        drives u true (s.ramRead a (4 * n)) ∧ Only [.bus] s u))
      ∧ (up → a % 4 = 0 → 0x80000 ≤ a → a < 0x100000 → Completes c s (fun u =>
        drives u true (List.replicate (4 * n) 0) ∧ Only [.bus] s u)))
    ∧ Completes .qspiStatus s (fun u =>
      (s.spi.mode = true → u.bus = [] ∧ Only [.bus] s u)
      ∧ (s.spi.mode = false → drives u s.hostValid [] ∧ u.flag fMBX_ACCESS_ERR = (s.flag fMBX_ACCESS_ERR && !s.hostValid)
        ∧ Only [.regs, .bus] s u ∧ OnlyRegs [(aMBX_STAT, 0)] s u))
    ∧ Completes .qspiInvalidInstruction s (fun u => u.bus = [] ∧ (up → errs u) ∧ (¬ up → Only [.bus] s u))

/-- A write of DEV_MEMPAGE by a context that is served sets its page, drops its buffered lines and marks its fetches in progress to
be discarded; another context's copies stay. A fetch that completes leaves its context's list: a marked one brings nothing, an
unmarked one brings the 64 bytes of the memory die as the newest of at most four lines. An ageing drops the oldest line. A QSPI
read of a window word whose line is not buffered drives VALID 0 with all ones and starts one fetch of the line; of a buffered line
it drives the four bytes; of pages 240-255 below the report it drives zeros.
The model's own choices in it: log entries 2, 5, 57. -/
def Obligations.MemoryWindow : Prop :=
  ∀ (c : Fin 9) (x : BitVec 32) (addr : BitVec 24) (s : State),
    let served := (c : Nat) ≠ 0 ∨ (s.spi.mode = false ∧ s.hostValid = true)
    let k := s.copyOf c
    let alone := fun (u : State) (k' : CtxCopy) =>
      u.copyOf c = k' ∧ (∀ d, d ≠ (c : Nat) → u.copyOf d = s.copyOf d) ∧ Only [.ctx] s u
    let k0 := s.copyOf 0
    let a := addr.toNat
    let d := k0.page * 0x40000 + (a - 0x40000)
    let line := d / 64 * 64
    Completes (.devMempageWrite c x) s (fun u =>
      (served → alone u { k with page := x.toNat % 256, lines := [], fetch := k.fetch.map fun f => (f.1, true) })
        ∧ (¬ served → u = s))
    ∧ Completes (.memwinFetchDone c) s (fun u => (k.fetch = [] → u = s)
      ∧ ∀ b gone rest, k.fetch = (b, gone) :: rest →
        (gone = true → alone u { k with fetch := rest })
        ∧ (gone = false → b % 64 = 0 → b < 0x3C00000 → k.lines.length ≤ 4 → (∀ l ∈ k.lines, l.addr ≠ b) →
          alone u { k with
            fetch := rest,
            lines := (if k.lines.length = 4 then k.lines.drop 1 else k.lines) ++ [⟨b, s.memRead b 64⟩] }))
    ∧ Completes (.lineBufferAge c) s (fun u => alone u { k with lines := k.lines.drop 1 })
    ∧ (s.spi.mode = false → s.hostValid = true → a % 4 = 0 → 0x40000 ≤ a → a < 0x80000 →
      ∀ r ∈ [Instr.qspiReadS addr 1, .qspiReadQ addr 1],
        (d < 0x3C00000 → (∀ l ∈ k0.lines, l.addr ≠ line) → Completes r s (fun u =>
          (∃ b : Byte, b.getLsbD 7 = false ∧ u.bus = b :: List.replicate 4 0xFF)
          ∧ u.copyOf 0 = { k0 with fetch := if (line, false) ∈ k0.fetch then k0.fetch else k0.fetch ++ [(line, false)] }
          ∧ (∀ e, e ≠ 0 → u.copyOf e = s.copyOf e) ∧ Only [.bus, .ctx] s u))
        ∧ (d < 0x3C00000 → ∀ l, (k0.lines.find? fun l => l.addr == line) = some l → l.bytes.length = 64 →
          Completes r s (fun u => (∃ b : Byte, b.getLsbD 7 = true ∧ u.bus = b :: (l.bytes.drop (d % 64)).take 4) ∧ Only [.bus] s u))
        ∧ (0x3C00000 ≤ d → d < 0x3FF0000 →
          Completes r s (fun u => (∃ b : Byte, b.getLsbD 7 = true ∧ u.bus = b :: [0, 0, 0, 0]) ∧ Only [.bus] s u)))

/-- A register write of a context completes. A byte offset within a word, and a QSPI write while its slave does not serve the window,
change nothing. A privileged offset without elevation, 0x01000-0x01FFF in Midnight, and the memory window take no write: over QSPI
that sets ACCESS_ERR and raises source 34, in a ring context it changes nothing. Offsets from 0x80000 on change nothing. An
application variable of the application RAM at 0x01800-0x01FFC takes the word; elevated, SAFE_SWSTOP takes its low byte,
LOOP_SWAP keeps its bits and gains the written ones, and a configuration register keeps its value. A word of the submission
queues takes the four bytes.
The model's own choices in it: log entries 11, 58, 61. -/
def Obligations.HostRegisterWrites : Prop :=
  ∀ (c : Fin 9) (off : BitVec 20) (x : BitVec 32) (s : State),
    let o := off.toNat
    let priv := 0x10000 ≤ o ∧ o < 0x20000
    let refused := (priv ∧ s.elevated c = false) ∨ (0x01000 ≤ o ∧ o < 0x02000 ∧ s.midnight = true) ∨ (0x40000 ≤ o ∧ o < 0x80000)
    let served := (c : Nat) ≠ 0 ∨ (s.spi.mode = false ∧ s.hostValid = true)
    let holds := fun (u : State) (v : Word) => u.rd o = v ∧ Only [.regs, .sec] s u ∧ OnlyRegs [(o, 0)] s u ∧ u.sec.elev = s.sec.elev
    Completes (.registerWrite c off x) s (fun u =>
      (o % 4 ≠ 0 ∨ ¬ served ∨ 0x80000 ≤ o → u = s)
      ∧ (o % 4 = 0 → served → refused →
        ((c : Nat) ≠ 0 → u = s)
        ∧ ((c : Nat) = 0 → u.flag fMBX_ACCESS_ERR = true ∧ (s.flag fMBX_ACCESS_ERR = false → u.sourcePending 34 = true)
          ∧ Only [.regs, .icu, .nw, .pwr] s u ∧ OnlyRegs [(aMBX_STAT, 0), (aDEV_PWR_STAT, 0), (aICU_NWSTAT, 0)] s u))
      ∧ (o % 4 = 0 → served → ¬ refused →
        (0x01800 ≤ o → o < 0x02000 → holds u x)
        ∧ (o = aSAFE_SWSTOP → holds u (x &&& 0xFF))
        ∧ (o = aLOOP_SWAP → holds u (s.rd o ||| x))
        ∧ (priv → isConfig o = true → ¬ (0x18500 ≤ o ∧ o < 0x18900) → holds u (s.rd o))
        ∧ (0x20000 ≤ o → o < 0x22800 → u.ramRead o 4 = leBytes 4 x.toNat
          ∧ (∀ k, k < o ∨ o + 4 ≤ k → u.ramByte k = s.ramByte k) ∧ u.mbx.cmds = s.mbx.cmds ∧ Only [.mbx] s u)))

/-- A doorbell write from a served context, with no reset running, stores the low 16 bits as the queue's tail where they lie no
further from the head than the depth and no nearer than the old tail, and else keeps the tail and sets TAIL_BAD; either way it
raises source 32. While RESETTING is 1 it has no effect. MBX_CQ_HEAD takes the low 16 bits; a 1 written to an error bit of
MBX_STAT clears it and no other. MBX_RESET with KEY 0xA5 sets RESETTING, puts the QSPI context's copies at their reset values and
discards its nonce; another KEY does nothing. From a QSPI that is not served none of these has an effect. MBX_RESET_DONE with an
unfinished QSPI command, or without a reset, does nothing; else the six pointers are 0, no QSPI command, no overwritten queue entry
and no nonce of QSPI is left, RESETTING is 0 and QSPI is not elevated. DESCRIPTOR_COPY while SC0 copies, with no completion of a
restart waiting to be written, and the queue not empty advances the head by one and adds the
descriptor at the old head as a waiting QSPI command, or ended BAD_ARG with DUP where its tag is in flight; else it does nothing.
The model's own choices in it: log entries 5, 39, 66, 67. -/
def Obligations.QueuePointers : Prop :=
  ∀ (c : Fin 9) (x : BitVec 32) (urgent : Bool) (s : State),
    let served := c ≠ 0 ∨ (s.spi.mode = false ∧ s.hostValid = true)
    let aH := if urgent then aMBX_SQU_HEAD else aMBX_SQN_HEAD
    let aT := if urgent then aMBX_SQU_TAIL else aMBX_SQN_TAIL
    let depth := if urgent then 32 else 128
    let bell := if urgent then Instr.squDoorbell c x else .sqnDoorbell c x
    let v := x.toNat % 65536
    let h := (s.rd aH).toNat % 65536
    let t := (s.rd aT).toNat % 65536
    let far := (v + 65536 - h) % 65536
    let near := (t + 65536 - h) % 65536
    let regs := [(aT, 0), (aMBX_STAT, 0), (aDEV_PWR_STAT, 0), (aICU_NWSTAT, 0)]
    let rings := fun (u : State) => u.sourcePending 32 = true ∧ Only [.regs, .icu, .nw, .pwr] s u ∧ OnlyRegs regs s u
    let unfinished := ∃ z ∈ s.mbx.cmds, z.ctx = 0 ∧ z.phase ≠ .done
    let ready := s.sc0Up = true ∧ s.flag fMBX_RESETTING = false ∧ ∀ z ∈ s.mbx.cmds, ¬ (z.phase = .done ∧ bitOf z.cflags 2 = true)
    let d := { parseDesc s.mbx.nextId 0 urgent (s.ramRead (if urgent then 0x22000 + 64 * (h % 32) else 0x20000 + 64 * (h % 128)) 64) [] 0 0 with
      taint := s.mbx.soiled.contains (urgent, h), taken := s.stampNow 2 }
    let dup := ∃ z ∈ s.mbx.cmds, z.ctx = 0 ∧ z.counts = true ∧ z.tag = d.tag
    (served → s.flag fMBX_RESETTING = false → far ≤ depth → near ≤ far → Completes bell s (fun u => u.rd aT = BitVec.ofNat 32 v
        ∧ u.rd aMBX_STAT = s.rd aMBX_STAT ∧ rings u))
    ∧ (served → s.flag fMBX_RESETTING = false → depth < far ∨ far < near → Completes bell s (fun u => u.rd aT = s.rd aT
        ∧ u.flag fMBX_TAIL_BAD = true ∧ (s.flag fMBX_TAIL_BAD = false → u.sourcePending 34 = true) ∧ rings u))
    ∧ (served → s.flag fMBX_RESETTING = true → Completes bell s (fun u => u = s))
    ∧ (¬ served → ∀ i ∈ [bell, .cqHeadWrite c x, .mbxStatClear c x, .mbxReset c x], Completes i s (fun u => u = s))
    ∧ (served → Completes (.cqHeadWrite c x) s (fun u => u.rd aMBX_CQ_HEAD = BitVec.ofNat 32 v ∧ Only [.regs] s u
        ∧ OnlyRegs [(aMBX_CQ_HEAD, 0)] s u))
    ∧ (served → Completes (.mbxStatClear c x) s (fun u => (∀ f ∈ [fMBX_ACCESS_ERR, fMBX_TAIL_BAD, fMBX_DUP_TAG],
        u.flag f = (s.flag f && !bitOf x.toNat f.lo)) ∧ u.flag fMBX_RESETTING = s.flag fMBX_RESETTING ∧ Only [.regs] s u
        ∧ OnlyRegs [(aMBX_STAT, 0)] s u))
    ∧ (served → x.toNat % 256 = 0xA5 → Completes (.mbxReset c x) s (fun u => u.flag fMBX_RESETTING = true ∧ u.copyOf 0 = defCopy
        ∧ (∀ j, j ≠ 0 → u.copyOf j = s.copyOf j) ∧ u.nonce 0 = none ∧ u.sec.elev = s.sec.elev ∧ Only [.regs, .ctx, .sec] s u
        ∧ OnlyRegs [(aMBX_STAT, 0)] s u))
    ∧ (served → x.toNat % 256 ≠ 0xA5 → Completes (.mbxReset c x) s (fun u => u = s))
    ∧ (s.flag fMBX_RESETTING = false ∨ unfinished → Completes .mbxResetDone s (fun u => u = s))
    ∧ (s.flag fMBX_RESETTING = true → ¬ unfinished → Completes .mbxResetDone s (fun u =>
        (∀ a ∈ [aMBX_SQN_TAIL, aMBX_SQN_HEAD, aMBX_SQU_TAIL, aMBX_SQU_HEAD, aMBX_CQ_TAIL, aMBX_CQ_HEAD], u.rd a = 0)
          ∧ u.mbx.cmds = (s.mbx.cmds.filter fun z => z.ctx != 0) ∧ u.mbx.soiled = [] ∧ u.nonce 0 = none ∧ u.flag fMBX_RESETTING = false
          ∧ (∀ j, u.elevated j = (s.elevated j && j != 0)) ∧ Only [.regs, .mbx, .sec] s u))
    ∧ (¬ ready ∨ h = t → Completes (.descriptorCopy urgent) s (fun u => u = s))
    ∧ (ready → h ≠ t → ¬ dup → Completes (.descriptorCopy urgent) s (fun u => u.rd aH = BitVec.ofNat 32 ((h + 1) % 65536)
        ∧ u.mbx.cmds = s.mbx.cmds ++ [d] ∧ u.mbx.nextId = s.mbx.nextId + 1 ∧ u.mbx.ram = s.mbx.ram ∧ Only [.regs, .mbx] s u
        ∧ OnlyRegs [(aH, 0)] s u))
    ∧ (ready → h ≠ t → dup → Completes (.descriptorCopy urgent) s (fun u => u.rd aH = BitVec.ofNat 32 ((h + 1) % 65536)
        ∧ u.mbx.cmds = s.mbx.cmds ++ [{ d with phase := .done, status := 0x20, cflags := d.cflags + 2 }]
        ∧ u.flag fMBX_DUP_TAG = true ∧ Only [.regs, .icu, .nw, .pwr, .mbx] s u
        ∧ OnlyRegs [(aH, 0), (aMBX_STAT, 0), (aDEV_PWR_STAT, 0), (aICU_NWSTAT, 0)] s u))

/-- At a scheduling point, while SC0 runs and every context number is below 9: with an urgent command that may run, SC0 takes one
whose context comes first after the urgent context served last, and notes that context; only with none does it take a normal one
by the same rule; with no command that may run SC0 is free. A command that was waiting now runs with the elevation of its
context noted as its privilege and the next start number; a waiting QSPI command with a valid buffer that nothing overwrote has its payload read from it;
one that ran before goes on unchanged. No other command changes. While SC0 does not run nothing happens.
The model's own choices in it: log entries 39, 40. -/
def Obligations.CommandScheduled : Prop :=
  ∀ s : State,
    let may := fun (urgent : Bool) (c : Cmd) => c ∈ s.mbx.cmds ∧ c.urgent = urgent ∧ s.mayRun c = true
    let dist := fun (last k : Nat) => (k + 8 - last) % 9
    let small := (∀ c ∈ s.mbx.cmds, c.ctx < 9) ∧ s.mbx.lastU < 9 ∧ s.mbx.lastN < 9
    let runs := fun (u : State) (c : Cmd) => u.mbx.cur = some c.id ∧ u.mbx.cmds.map (·.id) = s.mbx.cmds.map (·.id)
      ∧ (∀ z ∈ u.mbx.cmds, z.id ≠ c.id → z ∈ s.mbx.cmds)
      ∧ (c.phase = .waiting → ∀ x ∈ u.mbx.cmds, x.id = c.id → x.phase = .running ∧ x.priv = s.elevated c.ctx
          ∧ x.started = s.mbx.starts ∧ u.mbx.starts = s.mbx.starts + 1
          ∧ (c.ctx = 0 → c.pbufValid = true → c.pbuf ≤ 63 → c.plen ≤ 1024 → c.taint = false → x.data = s.ramRead (0x30000 + 1024 * c.pbuf) c.plen))
      ∧ (c.phase ≠ .waiting → u.mbx.cmds = s.mbx.cmds) ∧ Only [.free, .mbx, .sec] s u
    (s.sc0Runs = false → Completes .commandSchedule s (fun u => u = s))
    ∧ (s.sc0Runs = true → small → (∃ c, may true c) → Completes .commandSchedule s (fun u => ∃ c, may true c
        ∧ (∀ d, may true d → dist s.mbx.lastU c.ctx ≤ dist s.mbx.lastU d.ctx) ∧ u.mbx.lastU = c.ctx ∧ u.mbx.lastN = s.mbx.lastN ∧ runs u c))
    ∧ (s.sc0Runs = true → small → (∀ c, ¬ may true c) → (∃ c, may false c) → Completes .commandSchedule s (fun u => ∃ c, may false c
        ∧ (∀ d, may false d → dist s.mbx.lastN c.ctx ≤ dist s.mbx.lastN d.ctx) ∧ u.mbx.lastN = c.ctx ∧ u.mbx.lastU = s.mbx.lastU ∧ runs u c))
    ∧ (s.sc0Runs = true → (∀ c urgent, ¬ may urgent c) → Completes .commandSchedule s (fun u =>
        u.mbx = { s.mbx with cur := none } ∧ Only [.mbx] s u))

/-- COMPLETION_POST completes. Without SC0, or with no ended command that can be posted, it changes nothing. Otherwise the first
such command, in copy order, leaves those in flight. A QSPI command (outside MBX_RESET, with room in the completion queue) has its
16-byte entry written at its slot, its result written to the start of its payload buffer, the completion tail advanced by one, and,
outside Dusk, source 33 raised. During MBX_RESET it is discarded and nothing else changes. A ring command's reply is kept in its context under
its SEQ; one of a dropped context is discarded.
The model's own choices in it: log entries 5, 12, 39. -/
def Obligations.CompletionPosted : Prop :=
  ∀ s : State,
    let ready := fun (c : Cmd) => c.phase = .done ∧ (c.ctx ≠ 0 ∨ s.flag fMBX_RESETTING = true ∨ s.cqFull = false)
    let gone := fun (c : Cmd) => s.mbx.cmds.filter fun x => x.id != c.id
    let t := s.ptr aMBX_CQ_TAIL
    let entry := fun (c : Cmd) (phase : Nat) => leBytes 1 (c.tag + 128 * phase) ++ leBytes 1 c.status ++ leBytes 1 c.op
      ++ leBytes 1 c.cflags ++ leBytes 4 c.r0 ++ leBytes 4 c.out.length ++ leBytes 4 s.gridNs
    Completes .completionPost s (fun u =>
      (s.sc0Runs = false ∨ (∀ x ∈ s.mbx.cmds, ¬ ready x) → u = s)
      ∧ ∀ pre c post, s.sc0Runs = true → s.mbx.cmds = pre ++ c :: post → (∀ x ∈ pre, ¬ ready x) → ready c →
        u.mbx.cmds = gone c
        ∧ (c.ctx = 0 → s.flag fMBX_RESETTING = true → Only [.mbx] s u ∧ ∀ k, u.ramByte k = s.ramByte k)
        ∧ (c.ctx = 0 → s.flag fMBX_RESETTING = false → u.rd aMBX_CQ_TAIL = BitVec.ofNat 32 ((t + 1) % 65536)
          ∧ (s.inDusk = false → u.sourcePending 33 = true) ∧ Only [.regs, .free, .icu, .nw, .pwr, .mbx] s u
          ∧ OnlyRegs [(aMBX_CQ_TAIL, 0), (aDEV_PWR_STAT, 0), (aICU_NWSTAT, 0)] s u
          ∧ (c.taint = false → c.pbuf < 64 → c.out.length ≤ 1024 →
            u.ramRead (0x24000 + 16 * (t % 256)) 16 = entry c (if t / 256 % 2 = 0 then 1 else 0)
            ∧ u.ramRead (0x30000 + 1024 * c.pbuf) c.out.length = c.out))
        ∧ (c.ctx ≠ 0 → c.gone = true → Only [.mbx] s u ∧ ∀ k, u.ringCtx k = s.ringCtx k)
        ∧ (c.ctx ≠ 0 → c.gone = false → (s.ringCtx c.ctx).used = true → (c.seq, none) ∈ (s.ringCtx c.ctx).store →
          (c.seq, some (entry c 0 ++ c.out)) ∈ (u.ringCtx c.ctx).store))

/-- Every opcode command acts on the command on SC0 alone. With none there, or one of another opcode, area, trigger, option or
purpose, it changes nothing. A command that has done no part of its work yet is checked first: a descriptor with PLEN or RLEN above
1,024, a QSPI command with a payload and no valid buffer, or with PBUF above 63, ends BAD_ARG; then a wrong payload CRC ends BAD_CRC; then Midnight ends all but NOP, REG_READ,
CFG_REPORT and LOG_READ with FAULT; then the hold FW_NONE refuses all but the opcodes that it offers; then a privileged
opcode whose privilege was not noted at its start ends DENIED; then PFW_N refuses staging, commit, self-test and capture.
Each of these endings has RESULT0 0 and no payload, and nothing but the mailbox changes.
The model's own choices in it: log entries 42, 54, 68. -/
def Obligations.CommandChecks : Prop :=
  ∀ (s : State) (c : Cmd) (good : Bool),
    let is := fun (op : Nat) (x : Cmd) => x.op == op
    let area := fun (k : Nat) (x : Cmd) => x.op == 0x50 && (x.arg 0 % 16 == k || decide (3 < x.arg 0 % 16))
    let trig := fun (k : Nat) (x : Cmd) => x.op == 0x51 && (x.arg 0 % 16 == k || decide (4 < x.arg 0 % 16))
    let all := fun (b : Bool) (x : Cmd) => x.op == 0x61 && bitOf (x.arg 0) 0 == b
    let purpose := fun (op k : Nat) (x : Cmd) => x.op == op && (x.arg 0 % 256 == k || !([1, 2].contains (x.arg 0 % 256)))
    let rows : List (Instr × (Cmd → Bool)) := [(.nop, is 0x01), (.regRead, is 0x10), (.regWrite, is 0x11), (.cfgStageBlock, is 0x20),
      (.cfgCommit good, is 0x21), (.cfgReport, is 0x22), (.aspectRequest, is 0x30), (.bistRun, is 0x40), (.trimReload, is 0x41),
      (.logReadEvents, area 0), (.logReadTail, area 1), (.logReadLifetime, area 2), (.logReadSnapshot, area 3),
      (.captureArmNow, trig 0), (.captureArmEvent, trig 1), (.captureArmTime, trig 2), (.captureArmPin, trig 3), (.captureDisarm, trig 4),
      (.elevate, is 0x60), (.drop, all false), (.dropAll, all true), (.challengeElevate, purpose 0x62 1), (.challengeDebug, purpose 0x62 2),
      (.respondElevate, purpose 0x63 1), (.respondDebug, purpose 0x63 2), (.timeRearmStep, is 0x70), (.invalidOpcode, fun x => !opListed x.op)]
    let hold := s.pstate = 0 ∧ s.get fPWR_HOLD = 1
    let badArg := 1024 < c.plen ∨ 1024 < c.rlen ∨ (c.ctx = 0 ∧ (0 < c.plen ∨ 0 < c.rlen) ∧ c.pbufValid = false)
      ∨ (c.ctx = 0 ∧ 63 < c.pbuf)
    let badCrc := c.pcrcEn = true ∧ crc32 c.data ≠ c.pcrc
    let barred := s.midnight = true ∧ c.op ∉ [0x01, 0x10, 0x22, 0x50]
    let held := hold ∧ c.op ∉ [0x01, 0x10, 0x62, 0x63, 0x20, 0x21]
    let denied := c.op ∈ [0x20, 0x21, 0x40, 0x41, 0x51, 0x70] ∧ c.priv = false
    let failing := s.pwr.pfw = true ∧ c.op ∈ [0x20, 0x21, 0x40, 0x51]
    ∀ r ∈ rows,
      let ends := fun (st : Nat) => Completes r.1 s (fun u => Ended s u c st 0 [] ∧ Only [.mbx] s u)
      (s.curCmd = none → Completes r.1 s (fun u => u = s))
      ∧ (s.curCmd = some c → r.2 c = false → Completes r.1 s (fun u => u = s))
      ∧ (s.curCmd = some c → r.2 c = true → c.pos = 0 →
        (badArg → ends 0x20)
        ∧ (¬ badArg → badCrc → ends 0x21)
        ∧ (¬ badArg → ¬ badCrc → barred → ends 0x30)
        ∧ (¬ badArg → ¬ badCrc → ¬ barred → held → ends 0x12)
        ∧ (¬ badArg → ¬ badCrc → ¬ barred → ¬ held → denied → ends 0x10)
        ∧ (¬ badArg → ¬ badCrc → ¬ barred → ¬ held → ¬ denied → failing → ends 0x12))

/-- With its opcode on SC0 and nothing against it: NOP ends OK with RESULT0 its ARG0; an unlisted opcode ends BAD_ARG; CFG_REPORT
ends OK with the report; ASPECT_REQUEST of an aspect up to 95 ends OK with RESULT0 the grid tick and its ARG1 in ASP_REQn, bits
15:8 cleared, no other register changed, and of a number above that BAD_ARG. TIME_REARM_STEP behind a test of SC1 ends DEFERRED
with the wait, in LOCKED or in UNTRUSTED with CAUSE OFFSET OK with a step armed from this tick on, and in any other state
REFUSED with no change but the mailbox's.
CAPTURE_ARM on SC0 with nothing against it: a trigger above 4 ends BAD_ARG; behind a test of SC1 it ends DEFERRED with the
wait; while one of another context that started earlier runs BUSY; with SC1 lost REFUSED; none of these touches anything but the mailbox. Else it ends OK, or CLAMPED where POST above
1,000,000 was cut to that (never for DISARM), with the trigger, the class, the source where ARG1 names one, the time and POST
armed, and the ring ARMED, for NOW at once TRIGGERED with the grid tick in CAP_TRIGTICK, for DISARM RECORDING; MN_FREEZE and AUTO
are clear. Out of FROZEN every converter's sub-ring begins again at this tick; else no sub-ring changes.
The model's own choices in it: log entries 54, 55, 56. -/
def Obligations.PlainAndCaptureOpcodes : Prop :=
  ∀ (s : State) (c : Cmd),
    let m := c.arg 0 % 128
    let tested := s.bist.cur = some 0x21
    let untrusted := s.get fTIME_STATE = 2 ∨ (s.get fTIME_STATE = 4 ∧ s.get fTIME_CAUSE = 1)
    let ends := fun (i : Instr) (st r0 : Nat) => Completes i s (fun u => Ended s u c st r0 [] ∧ Only [.mbx] s u)
    let lost := s.flag fNW_SC1_LOST = true
    let post := c.arg 2
    let cut := if 1000000 < post then 1000000 else post
    (s.Runs c 0x01 → Completes .nop s (fun u => Ended s u c 0x00 (c.arg 0) [] ∧ Only [.mbx] s u))
    ∧ (s.curCmd = some c → s.vet c = none → opListed c.op = false → Completes .invalidOpcode s (fun u =>
      Ended s u c 0x20 0 [] ∧ Only [.mbx] s u))
    ∧ (s.Runs c 0x22 → Completes .cfgReport s (fun u => Ended s u c 0x00 0 s.cfg.report ∧ Only [.mbx] s u))
    ∧ (s.Runs c 0x30 → 95 < m → Completes .aspectRequest s (fun u => Ended s u c 0x20 0 [] ∧ Only [.mbx] s u))
    ∧ (s.Runs c 0x30 → m ≤ 95 → Completes .aspectRequest s (fun u => Ended s u c 0x00 s.tick32 []
        ∧ u.rd (aASP_REQ m) = BitVec.ofNat 32 (withBits (c.arg 1) 8 8 0) ∧ Only [.regs, .mbx] s u ∧ OnlyRegs [(aASP_REQ m, 0)] s u))
    ∧ (s.Runs c 0x70 → tested → Completes .timeRearmStep s (fun u => Ended s u c 0x02 (s.bistWait 0x21) [] ∧ Only [.mbx] s u))
    ∧ (s.Runs c 0x70 → ¬ tested → untrusted → Completes .timeRearmStep s (fun u => Ended s u c 0x00 0 []
        ∧ u.flag fTIME_REARMED = true ∧ u.ptp = { s.ptp with
            fresh := if s.flag fTIME_REARMED then s.ptp.fresh else [], armed := s.grid.tick, next := s.armedRate } ∧ Only [.regs, .ptp, .mbx] s u
        ∧ OnlyRegs [(aTIME_STAT, 0)] s u))
    ∧ (s.Runs c 0x70 → ¬ tested → ¬ untrusted → Completes .timeRearmStep s (fun u => Ended s u c 0x12 0 [] ∧ Only [.mbx] s u))
    ∧ (s.Runs c 0x51 → ∀ p ∈ [(Instr.captureArmNow, 0), (.captureArmEvent, 1), (.captureArmTime, 2), (.captureArmPin, 3), (.captureDisarm, 4)],
      (4 < c.arg 0 % 16 → ends p.1 0x20 0)
      ∧ (c.arg 0 % 16 = p.2 → tested → ends p.1 0x02 (s.bistWait 0x21))
      ∧ (c.arg 0 % 16 = p.2 → ¬ tested → s.heldByOther c = true → ends p.1 0x11 0)
      ∧ (c.arg 0 % 16 = p.2 → ¬ tested → s.heldByOther c = false → lost → ends p.1 0x12 0)
      ∧ (c.arg 0 % 16 = p.2 → ¬ tested → s.heldByOther c = false → ¬ lost → Completes p.1 s (fun u =>
          Ended s u c (if p.2 ≠ 4 ∧ 1000000 < post then 0x01 else 0x00) 0 []
          ∧ u.get fCAP_STATE = (if p.2 = 4 then 0 else if p.2 = 0 then 2 else 1)
          ∧ u.flag fCAP_MN_FREEZE = false ∧ u.flag fCAP_AUTO = false
          ∧ (p.2 = 0 → u.rd aCAP_TRIGTICK = BitVec.ofNat 32 s.tick32) ∧ (p.2 ≠ 0 → u.rd aCAP_TRIGTICK = s.rd aCAP_TRIGTICK)
          ∧ u.cap.trig = p.2 ∧ u.cap.cls = c.arg 1 % 256 ∧ u.cap.src = (if bitOf (c.arg 1) 15 then some (c.arg 1 / 65536) else none)
          ∧ u.cap.target = (c.arg 4 + c.arg 5 % 65536 * 2 ^ 32) * 1000000000 + c.arg 3
          ∧ u.cap.post = (if p.2 = 4 then post else cut)
          ∧ (s.get fCAP_STATE = 3 → ∀ k < 16, (u.subRing k).since = s.grid.tick ∧ (u.subRing k).last = s.grid.tick)
          ∧ (s.get fCAP_STATE ≠ 3 → u.cap.rings = s.cap.rings)
          ∧ Only [.regs, .cap, .mbx] s u ∧ OnlyRegs [(aDEV_CAP_STAT, 0), (aCAP_TRIGTICK, 0)] s u)))

/-- REG_READ and REG_WRITE on SC0 with nothing against them: an offset that is not a multiple of 4, a count outside 1-256, words
beyond 0x80000 (0x40000 for a write), or for a write a payload of another length end BAD_ARG; a word of the privileged view
without the noted privilege ends DENIED; neither touches anything but the mailbox. Under FW_NONE a read beyond 0x00FFF is
REFUSED. Otherwise each occurrence of the command does the next one of its words, and the one that does the last word ends it OK, a
write with RESULT0 the count: the result grows by the four bytes, little-endian, of a word of the submission queues, of DEV_ID or of
EVT_HEAD; a word of the memory window that is not buffered brings the four bytes of the memory die at PAGE x 0x40000 plus the window
offset; a word of host variables is stored, from the arguments or the payload, and no other register changes.
The model's own choices in it: log entries 56, 57, 68, 89. -/
def Obligations.RegisterCommands : Prop :=
  ∀ (s : State) (c : Cmd),
    let off := c.arg 0
    let n := c.arg 1
    let inArgs := c.plen = 0 ∧ n ≤ 10
    let badR := off % 4 ≠ 0 ∨ n = 0 ∨ 256 < n ∨ 0x80000 < off + 4 * n
    let badW := off % 4 ≠ 0 ∨ n = 0 ∨ 256 < n ∨ 0x40000 < off + 4 * n ∨ (¬ inArgs ∧ c.plen ≠ 4 * n)
    let held := s.pstate = 0 ∧ s.get fPWR_HOLD = 1 ∧ 0x01000 < off + 4 * n
    let denied := off < 0x20000 ∧ 0x10000 < off + 4 * n ∧ c.priv = false
    let word := fun (i : Nat) => if c.plen = 0 ∧ n ≤ 10 then c.arg (2 + i) else ofLeBytes ((c.data.drop (4 * i)).take 4)
    let page := (s.copyOf c.ctx).page
    let d := page * 0x40000 + (off + 4 * c.pos - 0x40000)
    let here := off + 4 * c.pos
    let done := fun (u : State) (r0 : Nat) (bs : List Byte) =>
      (n = c.pos + 1 → Ended s u c 0x00 r0 (c.out ++ bs))
        ∧ (c.pos + 1 < n → u.mbx = { s.mbx with cmds := s.mbx.cmds.map fun x =>
          if x.id = c.id then { x with pos := x.pos + 1, out := x.out ++ bs } else x })
    (s.Runs c 0x10 → badR → Completes .regRead s (fun u => Ended s u c 0x20 0 [] ∧ Only [.mbx] s u))
    ∧ (s.Runs c 0x10 → ¬ badR → held → Completes .regRead s (fun u => Ended s u c 0x12 0 [] ∧ Only [.mbx] s u))
    ∧ (s.Runs c 0x10 → ¬ badR → ¬ held → denied → Completes .regRead s (fun u => Ended s u c 0x10 0 [] ∧ Only [.mbx] s u))
    ∧ (s.Runs c 0x10 → ¬ badR → ¬ held → c.pos < n → 0x20000 ≤ off → off + 4 * n ≤ 0x22800 → Completes .regRead s (fun u =>
      done u 0 (s.ramRead here 4) ∧ Only [.mbx] s u))
    ∧ (s.Runs c 0x10 → ¬ badR → ¬ held → ¬ denied → c.pos < n → here = aDEV_ID ∨ here = aEVT_HEAD → Completes .regRead s (fun u =>
      done u 0 (leBytes 4 (s.rd here).toNat) ∧ Only [.mbx] s u))
    ∧ (s.Runs c 0x10 → ¬ badR → ¬ held → c.pos < n → 0x40000 ≤ off → off + 4 * n ≤ 0x80000 → d < 0x3C00000 → s.lineOf c.ctx d = none →
      Completes .regRead s (fun u => done u 0 (s.memRead d 4) ∧ Only [.ctx, .mbx] s u))
    ∧ (s.Runs c 0x11 → badW → Completes .regWrite s (fun u => Ended s u c 0x20 0 [] ∧ Only [.mbx] s u))
    ∧ (s.Runs c 0x11 → ¬ badW → denied → Completes .regWrite s (fun u => Ended s u c 0x10 0 [] ∧ Only [.mbx] s u))
    ∧ (s.Runs c 0x11 → ¬ badW → c.pos < n → 0x01800 ≤ off → off + 4 * n ≤ 0x02000 → Completes .regWrite s (fun u =>
      done u n [] ∧ u.rd here = BitVec.ofNat 32 (word c.pos)
        ∧ (∀ a, a ≠ here → u.rd a = s.rd a) ∧ Only [.regs, .mbx] s u))

/-- LOG_READ on SC0 with nothing against it touches nothing but the mailbox. An area above 3 ends BAD_ARG. TAIL returns the
restored tail. LIFETIME returns RLEN bytes of the working record from ARG1 on, no further than its end, with the record's
sequence word at offset 16 as RESULT0; an offset or RLEN that is not a multiple of 4, or an offset from 0x8000 on, ends BAD_ARG.
SNAPSHOT does the same for the snapshot ARG3 counted back from the newest; an index above 55 ends BAD_ARG and one that no
snapshot has REFUSED. EVENTS without a filter returns, from the later of ARG1 and the oldest record on, as many whole 64-byte
records as RLEN holds, at most 16, where that many are in the log, and RESULT0 is the SEQ after the last; with room for none,
or with no record there, it returns nothing and ARG1.
The model's own choices in it: log entries 54, 55. -/
def Obligations.LogReads : Prop :=
  ∀ (s : State) (c : Cmd),
    let area := c.arg 0 % 16
    let ends := fun (i : Instr) (st r0 : Nat) (out : List Byte) => Completes i s (fun u => Ended s u c st r0 out ∧ Only [.mbx] s u)
    let o := c.arg 1
    let bad := o % 4 ≠ 0 ∨ 0x8000 ≤ o ∨ c.rlen % 4 ≠ 0
    let n := if 0x8000 < o + c.rlen then 0x8000 - o else c.rlen
    let k := c.arg 3
    let snap := lifeSlot (8 + (s.life.nextSnap + 55 - k) % 56)
    let old := (s.rd aEVT_OLDEST).toNat
    let head := (s.rd aEVT_HEAD).toNat
    let start := if seqNewer old o then old else o
    let room := if c.rlen / 64 < 16 then c.rlen / 64 else 16
    s.Runs c 0x50 →
      (3 < area → ∀ i ∈ [Instr.logReadEvents, .logReadTail, .logReadLifetime, .logReadSnapshot], ends i 0x20 0 [])
      ∧ (area = 1 → ends .logReadTail 0x00 0 s.evt.tail)
      ∧ (area = 2 → bad → ends .logReadLifetime 0x20 0 [])
      ∧ (area = 2 → ¬ bad → ends .logReadLifetime 0x00 (s.memNat (lifeBase + 16) 4) (s.memRead (lifeBase + o) n))
      ∧ (area = 3 → 55 < k → ends .logReadSnapshot 0x20 0 [])
      ∧ (area = 3 → k ≤ 55 → s.get fLIFE_SNAPS ≤ k → ends .logReadSnapshot 0x12 0 [])
      ∧ (area = 3 → k ≤ 55 → k < s.get fLIFE_SNAPS → bad → ends .logReadSnapshot 0x20 0 [])
      ∧ (area = 3 → k ≤ 55 → k < s.get fLIFE_SNAPS → ¬ bad →
          ends .logReadSnapshot 0x00 (s.memNat (snap + 16) 4) (s.memRead (snap + o) n))
      ∧ (area = 0 → room = 0 ∨ seqNewer head start = false → ends .logReadEvents 0x00 o [])
      ∧ (area = 0 → bitOf (c.arg 2) 8 = false → 0 < room → (∀ i < room, seqNewer head ((start + i) % 2 ^ 32) = true) → start < 2 ^ 32 →
          ends .logReadEvents 0x00 (start + room) ((List.range room).flatMap fun i => s.memRead (evtAddr ((start + i) % 2 ^ 32)) 64))

/-- ELEVATE PASSWORD on SC0 with nothing against it, SEC neither under test nor failed and no lockout running. While no site
password is set it ends DENIED with RESULT0 0 and the credentials are unchanged: no failure is counted. With one set, the eight
bytes of ARG1 and ARG2 are accepted exactly if HMAC-SHA-256 of them under K_PW equals the stored record: then it ends OK and
the context is elevated, no other context's elevation changed, its time-out starting now; otherwise it ends DENIED with
RESULT0 0, no context's elevation changes and one more failure is counted. The ring premise is R336's own. -/
def Obligations.ElevatePassword : Prop :=
  ∀ (s : State) (c : Cmd),
    let bytes := leBytes 4 (c.arg 1) ++ leBytes 4 (c.arg 2)
    let accepted := s.sec.record = some (hmac Config.kPw bytes)
    s.Runs c 0x60 → c.arg 0 % 256 = 1 → s.bist.cur ≠ some 0x20 → s.sec.failed = false → (c.ctx = 0 ∨ s.flag fSEC_RING_PW = true) →
      s.lockedOut = false →
      (s.sec.record = none → Completes .elevate s (fun u => Ended s u c 0x10 0 [] ∧ u.sec = s.sec ∧ Only [.mbx] s u))
      ∧ (accepted → Completes .elevate s (fun u => Ended s u c 0x00 0 [] ∧ (∀ d, u.elevated d = (s.elevated d || d == c.ctx))
          ∧ tabGet (fun _ => 0) u.sec.used c.ctx = s.nw.tick ∧ u.sec.fails = 0 ∧ Only [.mbx, .sec, .fspi] s u))
      ∧ (s.sec.record ≠ none → ¬ accepted → Completes .elevate s (fun u => Ended s u c 0x10 0 [] ∧ (∀ d, u.elevated d = s.elevated d)
          ∧ u.sec.fails = s.sec.fails + 1 ∧ Only [.regs, .evt, .mbx, .sec, .fspi] s u ∧ OnlyRegs [(aDEV_NW_STAT, 0), (aEVT_DROP, 0)] s u))

/-- DROP on SC0 with nothing against it ends OK with the elevation of its own context over and no other's changed, and its nonce
live; DROP with ALL ends OK from an elevated context with no context elevated, else DENIED with no other change.
ELEVATION_TIMEOUT of an elevated context without a privileged access for ELEV_TMO minutes ends its elevation alone; before that
it changes nothing. NONCE_EXPIRY discards a context's nonce 60 s after its draw, and no other's; before that it changes nothing. LOCKOUT_END after the lockout's time ends it; before that
it changes nothing. TEST_ENTRY of a closed group changes nothing; else no context is elevated, no nonce is live, the password
registers are 0, the engines are held, the volatile secrets and the firmware key are gone, the scanned mark is set, in OTP too with
FIELD_LOCK 1, no command of a privileged opcode that started elevated runs on, Midnight is held, with cause 7 where it was not held
before, and the part has left functional mode as at the end of power good.
The model's own choices in it: log entries 5, 88. -/
def Obligations.ElevationEnds : Prop :=
  ∀ (s : State) (c : Cmd) (d : Fin 10) (n : Fin 9),
    let due := s.elevated d = true ∧ tabGet (fun _ => 0) s.sec.used d + s.get fSEC_ELEV_TMO * 60 * tps ≤ s.nw.tick
    let closed := s.sec.fieldLock = true ∧ s.sec.dbg = false
    (s.Runs c 0x61 → bitOf (c.arg 0) 0 = false → Completes .drop s (fun u => Ended s u c 0x00 0 []
        ∧ (∀ e, u.elevated e = (s.elevated e && !(e == c.ctx))) ∧ u.sec.nonces = s.sec.nonces ∧ Only [.mbx, .sec] s u))
    ∧ (s.Runs c 0x61 → bitOf (c.arg 0) 0 = true → s.elevated c.ctx = true → Completes .dropAll s (fun u => Ended s u c 0x00 0 []
        ∧ (∀ e, u.elevated e = false) ∧ u.sec.nonces = s.sec.nonces ∧ Only [.mbx, .sec] s u))
    ∧ (s.Runs c 0x61 → bitOf (c.arg 0) 0 = true → s.elevated c.ctx = false → Completes .dropAll s (fun u => Ended s u c 0x10 0 []
        ∧ Only [.mbx] s u))
    ∧ (due → Completes (.elevationTimeout d) s (fun u => (∀ e, u.elevated e = (s.elevated e && !(e == (d : Nat))))
        ∧ u.sec.nonces = s.sec.nonces ∧ Only [.sec] s u))
    ∧ (¬ due → Completes (.elevationTimeout d) s (fun u => u = s))
    ∧ (s.nonceLive n = false → Completes (.nonceExpiry n) s (fun u => u.nonce n = none ∧ (∀ e, e ≠ (n : Nat) → u.nonce e = s.nonce e)
        ∧ u.sec.elev = s.sec.elev ∧ Only [.sec] s u))
    ∧ (s.nonceLive n = true → Completes (.nonceExpiry n) s (fun u => u = s))
    ∧ (s.lockedOut = true → Completes .lockoutEnd s (fun u => u = s))
    ∧ (s.lockedOut = false → Completes .lockoutEnd s (fun u => u.lockedOut = false ∧ u.sec = { s.sec with lockEnd := 0 } ∧ Only [.sec] s u))
    ∧ (closed → Completes .testEntry s (fun u => u = s))
    ∧ (¬ closed → Completes .testEntry s (fun u => (∀ e, u.elevated e = false) ∧ u.sec.nonces = [] ∧ u.sec.pw0 = 0 ∧ u.sec.pw1 = 0
        ∧ u.sec.held = true ∧ u.sec.secrets = false ∧ u.sec.fwKey = none ∧ u.nw.scanned = true ∧ u.sec.scannedEver = (s.sec.scannedEver || s.sec.fieldLock)
        ∧ (∀ x ∈ u.mbx.cmds, x.priv = true → opPrivileged x.op = true → x.phase ≠ .running ∧ x.phase ≠ .long)
        ∧ u.midnight = true ∧ (s.midnight = false → u.get fNW_MN_CAUSE = 7)
        ∧ u.pwr.good = false ∧ (∀ k < 128, (u.chan k).lit = false) ∧ (∀ o < 8, (u.out o).on = false)
        ∧ u.cfg = s.cfg ∧ u.rule = s.rule ∧ u.ring = s.ring ∧ u.ptp = s.ptp))

/-- ELEVATE, CHALLENGE and RESPOND on SC0 with nothing against them end DEFERRED with the wait while SEC is under test and FAULT
after it failed its test. Another METHOD or PURPOSE ends BAD_ARG. ELEVATE over the ring without RING_PW ends REFUSED, and ELEVATE
or RESPOND in a lockout DENIED with the seconds left. CHALLENGE ends OK with RESULT0 60 and a live nonce of 32 bytes, which
replaces the context's earlier one, bound to its purpose; over QSPI with RLEN below 32 BAD_ARG, and DEBUG without elevation
DENIED. RESPOND without a live nonce of its purpose ends REFUSED; with one it consumes it: the first 16 bytes of HMAC-SHA-256 of
the nonce under the purpose's key end OK, F is 0, and the context is elevated, or debug access open and an elevated context's time-out restarted; anything else ends DENIED
with one more failure, which from the fifth on starts a lockout of 60 x 2^(F-5) s, at most 3,600 s.
The model's own choices in it: log entries 7, 54, 56. -/
def Obligations.ChallengeResponse : Prop :=
  ∀ (s : State) (c : Cmd) (k : Nat) (n : List Byte),
    let ends := fun (i : Instr) (st r0 : Nat) => Completes i s (fun u => Ended s u c st r0 [] ∧ Only [.mbx] s u)
    let tested := s.bist.cur = some 0x20
    let up := s.bist.cur ≠ some 0x20 ∧ s.sec.failed = false
    let hold := s.pstate = 0 ∧ s.get fPWR_HOLD = 1
    let resp := (List.range 4).flatMap fun i => leBytes 4 (c.arg (1 + i))
    let want := (hmac (if k = 1 then Config.kElev else Config.kDbg) n).take 16
    let long := fun (f : Nat) => if f < 5 then 0 else if 11 ≤ f then 3600 else 60 * 2 ^ (f - 5)
    let chal := if k = 1 then Instr.challengeElevate else .challengeDebug
    let rsp := if k = 1 then Instr.respondElevate else .respondDebug
    (s.Runs c 0x60 → (tested → ends .elevate 0x02 (s.bistWait 0x20)) ∧ (¬ tested → s.sec.failed = true → ends .elevate 0x30 0)
      ∧ (up → c.arg 0 % 256 ≠ 1 → ends .elevate 0x20 0)
      ∧ (up → c.arg 0 % 256 = 1 → c.ctx ≠ 0 → s.flag fSEC_RING_PW = false → ends .elevate 0x12 0)
      ∧ (up → c.arg 0 % 256 = 1 → c.ctx = 0 → s.lockedOut = true → ends .elevate 0x10 s.lockLeft))
    ∧ (s.Runs c 0x62 → k = 1 ∨ k = 2 →
      (c.arg 0 % 256 ≠ 1 → c.arg 0 % 256 ≠ 2 → up → ends chal 0x20 0)
      ∧ (c.arg 0 % 256 = k → (tested → ends chal 0x02 (s.bistWait 0x20)) ∧ (¬ tested → s.sec.failed = true → ends chal 0x30 0)
        ∧ (up → c.ctx = 0 → c.rlen < 32 → ends chal 0x20 0)
        ∧ (up → ¬ (c.ctx = 0 ∧ c.rlen < 32) → ¬ hold → k = 2 → s.elevated c.ctx = false → ends chal 0x10 0)
        ∧ (up → ¬ (c.ctx = 0 ∧ c.rlen < 32) → (k = 2 → ¬ hold ∧ s.elevated c.ctx = true) → Completes chal s (fun u =>
            ∃ m, m.length = 32 ∧ u.nonce c.ctx = some (k, m) ∧ (∀ d, d ≠ c.ctx → u.nonce d = s.nonce d) ∧ Ended s u c 0x00 60 m
              ∧ Only [.free, .mbx, .sec] s u))))
    ∧ (s.Runs c 0x63 → k = 1 ∨ k = 2 → c.arg 0 % 256 ≠ 1 → c.arg 0 % 256 ≠ 2 → up → ends rsp 0x20 0)
    ∧ (s.Runs c 0x63 → k = 1 ∨ k = 2 → c.arg 0 % 256 = k → (tested → ends rsp 0x02 (s.bistWait 0x20))
      ∧ (¬ tested → s.sec.failed = true → ends rsp 0x30 0)
      ∧ (up → (k = 2 → ¬ hold) → s.lockedOut = true → ends rsp 0x10 s.lockLeft)
      ∧ (up → (k = 2 → ¬ hold) → s.lockedOut = false → (∀ m, s.nonce c.ctx ≠ some (k, m)) → ends rsp 0x12 0)
      ∧ (up → (k = 2 → ¬ hold) → s.lockedOut = false → s.nonce c.ctx = some (k, n) → resp = want → Completes rsp s (fun u =>
          Ended s u c 0x00 0 [] ∧ u.nonce c.ctx = none ∧ (∀ d, d ≠ c.ctx → u.nonce d = s.nonce d) ∧ u.sec.fails = 0
            ∧ (k = 1 → u.elevated c.ctx = true) ∧ (k = 2 → u.sec.dbg = true ∧ u.sec.elev = s.sec.elev
              ∧ (s.elevated c.ctx = true → tabGet (fun _ => 0) u.sec.used c.ctx = s.nw.tick))
            ∧ Only [.regs, .evt, .mbx, .sec, .fspi] s u))
      ∧ (up → (k = 2 → ¬ hold) → s.lockedOut = false → s.nonce c.ctx = some (k, n) → resp ≠ want → Completes rsp s (fun u =>
          Ended s u c 0x10 0 [] ∧ u.nonce c.ctx = none ∧ (∀ d, d ≠ c.ctx → u.nonce d = s.nonce d) ∧ u.sec.fails = s.sec.fails + 1
            ∧ u.sec.lockEnd = (if long (s.sec.fails + 1) = 0 then s.sec.lockEnd else s.nw.tick + long (s.sec.fails + 1) * tps)
            ∧ u.sec.elev = s.sec.elev ∧ u.sec.dbg = s.sec.dbg ∧ Only [.regs, .evt, .mbx, .sec, .fspi] s u)))

/-- The seven commands that write a key into SEC_PWCMD, SEC_ROLLBACK, SEC_LOCK or SYS_PWRCTL. Of a QSPI that is not served none
changes anything; without elevation a ring context's is ignored, and QSPI's sets ACCESS_ERR and writes nothing else. From an
elevated context each restarts its time-out. PASSWORD_SET refuses eight equal bytes with WEAK set and the record kept, and else
stores HMAC-SHA-256 of the eight bytes under K_PW and logs PW_CHANGED; PASSWORD_CLEAR empties the record and logs it; both clear
the password registers. ROLLBACK_ADVANCE raises CTR to the SVN of the running image where one runs and that is above it, and every slot below
loses VALID; else it changes no credential. FIELD_LOCK_SET sets FIELD_LOCK and logs it once. DUSK_REQUEST in Run sets DUSK_PEND,
DUSK_CANCEL clears it, and DUSK_EXIT_REQUEST in Dusk begins the exit with cause 1 and WOKE 0.
The model's own choices in it: log entries 11, 58. -/
def Obligations.PrivilegedKeys : Prop :=
  ∀ (c : Fin 9) (s : State),
    let served := c ≠ 0 ∨ (s.spi.mode = false ∧ s.hostValid = true)
    let op := served ∧ s.elevated c = true
    let bytes := leBytes 4 s.sec.pw0 ++ leBytes 4 s.sec.pw1
    let weak := bytes = List.replicate 8 (bytes.headD 0)
    let v := if s.sec.image = none then 0 else (s.fwSlot s.sec.running).svn
    let logs := fun (u : State) (cls : Nat) => Logged s u cls (kMBX * 4096 + c) ∧ Only [.regs, .evt, .sec, .fspi] s u
      ∧ OnlyRegs [(aDEV_NW_STAT, 0), (aEVT_DROP, 0)] s u
    let emptied := fun (u : State) => u.sec.pw0 = 0 ∧ u.sec.pw1 = 0
    (∀ i ∈ [Instr.passwordSet c, .passwordClear c, .rollbackAdvance c, .fieldLockSet c, .duskRequest c, .duskCancel c, .duskExitRequest c],
      (¬ served → Completes i s (fun u => u = s))
      ∧ (c ≠ 0 → s.elevated c = false → Completes i s (fun u => u = s))
      ∧ (c = 0 → served → s.elevated c = false → Completes i s (fun u => u.flag fMBX_ACCESS_ERR = true
          ∧ (s.flag fMBX_ACCESS_ERR = false → u.sourcePending 34 = true) ∧ Only [.regs, .icu, .nw, .pwr] s u
          ∧ OnlyRegs [(aMBX_STAT, 0), (aDEV_PWR_STAT, 0), (aICU_NWSTAT, 0)] s u))
      ∧ (op → Completes i s (fun u => tabGet (fun _ => 0) u.sec.used c = s.nw.tick)))
    ∧ (op → weak → Completes (.passwordSet c) s (fun u => u.sec.weak = true ∧ u.sec.record = s.sec.record ∧ emptied u ∧ Only [.sec] s u))
    ∧ (op → ¬ weak → Completes (.passwordSet c) s (fun u => u.sec.weak = false ∧ u.sec.record = some (hmac Config.kPw bytes)
        ∧ emptied u ∧ logs u evPW_CHANGED))
    ∧ (op → Completes (.passwordClear c) s (fun u => u.sec.weak = false ∧ u.sec.record = none ∧ emptied u ∧ logs u evPW_CHANGED))
    ∧ (op → s.sec.ctr < v → Completes (.rollbackAdvance c) s (fun u => u.sec.ctr = v
        ∧ (∀ i < 2, (u.fwSlot i).valid = ((s.fwSlot i).valid && !decide ((s.fwSlot i).svn < v))) ∧ Only [.regs, .evt, .sec] s u))
    ∧ (op → v ≤ s.sec.ctr → Completes (.rollbackAdvance c) s (fun u => u.sec.ctr = s.sec.ctr ∧ u.sec.fw = s.sec.fw ∧ Only [.sec] s u))
    ∧ (op → s.sec.fieldLock = false → Completes (.fieldLockSet c) s (fun u => u.sec.fieldLock = true ∧ logs u evFIELD_LOCKED))
    ∧ (op → s.sec.fieldLock = true → Completes (.fieldLockSet c) s (fun u => u.sec.fieldLock = true ∧ Only [.sec] s u))
    ∧ (op → s.pstate = 1 → Completes (.duskRequest c) s (fun u => u.flag fPWR_DUSK_PEND = true ∧ Only [.regs, .sec] s u
        ∧ OnlyRegs [(aDEV_PWR_STAT, 0)] s u))
    ∧ (op → s.pstate ≠ 1 → Completes (.duskRequest c) s (fun u => Only [.sec] s u))
    ∧ (op → Completes (.duskCancel c) s (fun u => u.flag fPWR_DUSK_PEND = false ∧ Only [.regs, .sec] s u
        ∧ OnlyRegs [(aDEV_PWR_STAT, 0)] s u))
    ∧ (op → s.pstate = 3 → Completes (.duskExitRequest c) s (fun u => u.pstate = 4 ∧ u.get fPWR_WAKE = 1 ∧ u.flag fNWSTAT_WOKE = false
        ∧ Only [.regs, .icu, .nw, .pwr, .sec] s u ∧ OnlyRegs [(aDEV_PWR_STAT, 0), (aICU_NWSTAT, 0)] s u))
    ∧ (op → s.pstate ≠ 3 → Completes (.duskExitRequest c) s (fun u => Only [.sec] s u))

/-- CFG_STAGE_BLOCK on SC0 with nothing against it: a payload outside 9-1,024 bytes ends BAD_ARG; a staging of another context
ends BUSY, unless the block starts anew and 60 s have passed; a TOTAL above 2,097,152 or below the block's end ends BAD_ARG; a
block with OFFSET 0 starts a staging of TOTAL bytes owned by its context; one of the owner with OFFSET the bytes staged and the
same TOTAL is appended; any other ends BAD_ARG. CFG_COMMIT ends BUSY during a self-test or under another owner; a length, CRC or
format failure ends BAD_ARG, BAD_CRC or BAD_ARG with its outcome in DEV_CFG_STAT and no more than the report changed. A good
image without firmware, outside FW_NONE: with CHECK_ONLY it ends OK or CLAMPED with nothing active, no slot and no waiting
commit changed; else, where the flash does not read back as written, FAULT with outcome 0x14 and no slot changed; else, from D5
on, it runs on with the next generation waiting for its activation and nothing active changed. CFG_ACTIVATION without a commit that
waits for it, between two period starts, or after the snapshot of its tick changes nothing; in Midnight it ends the command FAULT; at
the start of a rule period the waiting tables, slot and generation are active, the slot not yet marked and the command still running.
The mark of an activated commit, made on the tick after (State.cfgMark) while SC0 runs, marks the slot, shows outcome 0 and ends the
command OK or CLAMPED.
The model's own choices in it: log entries 42, 45. -/
def Obligations.ConfigurationCommands : Prop :=
  ∀ (s : State) (c : Cmd) (ss : List CfgSec) (e : Nat) (w : CfgWait) (good : Bool),
    let b := c.data.take c.plen
    let off := ofLeBytes (b.take 4)
    let total := ofLeBytes ((b.drop 4).take 4)
    let body := b.drop 8
    let mine := s.cfg.owner = some c.ctx
    let busy := s.cfg.owner ≠ none ∧ ¬ mine ∧ ¬ (off = 0 ∧ s.cfg.touched + 60 * tps ≤ s.nw.tick)
    let short := b.length < 9 ∨ 1024 < b.length
    let big := 2097152 < total ∨ total < off + body.length
    let next := mine ∧ off = s.cfg.bytes.length ∧ total = s.cfg.total
    let ends := fun (i : Instr) (st : Nat) => Completes i s (fun u => Ended s u c st 0 [] ∧ Only [.mbx] s u)
    let staged := fun (x : Cfg) => Completes .cfgStageBlock s (fun u => Ended s u c 0x00 0 [] ∧ u.cfg = x
      ∧ u.flag fCFG_STAGING = true ∧ u.get fCFG_STAGED_W = x.bytes.length / 4 % 2 ^ 20
      ∧ Only [.regs, .cfg, .mbx] s u ∧ OnlyRegs [(aDEV_CFG_STAT, 0)] s u)
    let img := s.cfg.bytes
    let f := fun (o n : Nat) => ofLeBytes ((img.drop o).take n)
    let barred := s.bist.active = true ∨ (s.cfg.owner ≠ none ∧ ¬ mine)
    let badLen := img.length < 64 ∨ img.length ≠ s.cfg.total ∨ f 12 4 ≠ s.cfg.total
    let badCrc := crc32 (img.take 16 ++ List.replicate 4 0 ++ img.drop 20) ≠ f 16 4
    let rejected := fun (st outcome : Nat) => Completes (.cfgCommit good) s (fun u => Ended s u c st 0 [] ∧ u.get fCFG_OUTCOME = outcome
      ∧ u.cfg = { s.cfg with report := u.cfg.report } ∧ Only [.regs, .cfg, .mbx] s u ∧ OnlyRegs [(aDEV_CFG_STAT, 0)] s u)
    let plain := ¬ barred ∧ ¬ badLen ∧ ¬ badCrc ∧ parseImage img = .ok ss ∧ (∀ x ∈ ss, x.id ≠ 0x20)
      ∧ ¬ (s.pstate = 0 ∧ s.get fPWR_HOLD = 1)
    let check := f 9 1 % 2 = 1
    (s.Runs c 0x20 → (short → ends .cfgStageBlock 0x20) ∧ (¬ short → busy → ends .cfgStageBlock 0x11)
      ∧ (¬ short → ¬ busy → big → ends .cfgStageBlock 0x20)
      ∧ (¬ short → ¬ busy → ¬ big → off = 0 →
          staged { s.cfg with bytes := body, total := total, owner := some c.ctx, touched := s.nw.tick, staged := none })
      ∧ (¬ short → ¬ busy → ¬ big → off ≠ 0 → next → staged { s.cfg with bytes := img ++ body, touched := s.nw.tick })
      ∧ (¬ short → ¬ busy → ¬ big → off ≠ 0 → ¬ next → ends .cfgStageBlock 0x20))
    ∧ (s.Runs c 0x21 → (barred → ends (.cfgCommit good) 0x11)
      ∧ (¬ barred → badLen → rejected 0x20 0x10)
      ∧ (¬ barred → ¬ badLen → badCrc → rejected 0x21 0x11)
      ∧ (¬ barred → ¬ badLen → ¬ badCrc → parseImage img = .error e → rejected 0x20 0x12)
      ∧ (plain → check → Completes (.cfgCommit good) s (fun u => (∃ st, st ≤ 0x01 ∧ Ended s u c st 0 []) ∧ u.get fCFG_OUTCOME = 0x01
          ∧ u.cfg = { s.cfg with staged := u.cfg.staged, report := u.cfg.report } ∧ Only [.regs, .cfg, .mbx] s u
          ∧ OnlyRegs [(aDEV_CFG_STAT, 0)] s u))
      ∧ (plain → ¬ check → good = true → ¬ (s.pstate = 0 ∧ s.get fPWR_PHASE < 5) → Completes (.cfgCommit good) s (fun u => RunsOn s u c
          ∧ (∃ x, u.cfg.wait = some x ∧ x.job = c.id ∧ x.fw = false ∧ x.gen = ((s.rd aDEV_CFG_GEN).toNat + 1) % 2 ^ 32
            ∧ u.cfg.staged = some x.words ∧ (u.cfgSlot x.slot).words = x.words ∧ (u.cfgSlot x.slot).marked = false ∧ x.done = false)
          ∧ u.cfg.words = s.cfg.words ∧ Only [.cfg, .mbx, .fspi] s u))
      ∧ (plain → ¬ check → good = false → Completes (.cfgCommit good) s (fun u => Ended s u c 0x30 0 [] ∧ u.get fCFG_OUTCOME = 0x14
          ∧ u.cfg = { s.cfg with staged := u.cfg.staged, report := u.cfg.report } ∧ Only [.regs, .cfg, .mbx, .fspi] s u
          ∧ OnlyRegs [(aDEV_CFG_STAT, 0)] s u)))
    ∧ (s.cfg.wait = none → Completes .cfgActivation s (fun u => u = s))
    ∧ (s.cfg.wait = some w → w.done = true → Completes .cfgActivation s (fun u => u = s))
    ∧ (s.cfg.wait = some w →
      let jobEnds := fun (u : State) (st : Nat) => u.mbx.cmds = s.mbx.cmds.map fun x =>
        if x.id = w.job then { x with phase := .done, status := st, r0 := 0, out := [] } else x
      let starts := s.periodBegins = true ∧ s.untaken periodKey = true
      (w.done = false → s.midnight = true → Completes .cfgActivation s (fun u => jobEnds u 0x30 ∧ u.cfg = { s.cfg with wait := none }
        ∧ Only [.cfg, .mbx] s u))
      ∧ (s.midnight = false → ¬ starts → Completes .cfgActivation s (fun u => u = s))
      ∧ (w.done = false → s.midnight = false → starts → Completes .cfgActivation s (fun u =>
          u.cfg.wait = some { w with done := true } ∧ u.cfg.words = (w.words.filter fun p => decide (2 ^ 24 ≤ p.1))
          ∧ u.cfg.disabled = w.disabled ∧ u.get fCFG_SLOT = w.slot % 2 ∧ u.rd aDEV_CFG_GEN = BitVec.ofNat 32 w.gen
          ∧ u.cfgSlot w.slot = s.cfgSlot w.slot ∧ u.flag fCFG_NONE = false ∧ u.mbx = s.mbx
          ∧ (s.rulesRun = true → u.rule.start = s.grid.tick)))
      ∧ (w.done = true → s.flag fNW_SC0_LOST = false → s.pwr.good = true →
          jobEnds s.cfgMark (if w.rep.clamps.isEmpty && w.rep.finds.isEmpty then 0x00 else 0x01)
          ∧ s.cfgMark.cfg.wait = none ∧ (s.cfgMark.cfgSlot w.slot).marked = true ∧ s.cfgMark.get fCFG_OUTCOME = 0x00
          ∧ s.cfgMark.flag fCFG_MARK_REDONE = false ∧ Only [.regs, .cfg, .mbx, .fspi] s s.cfgMark))

/-- BIST_RUN on SC0 with nothing against it: no block, a reserved argument bit or over QSPI a short RLEN ends BAD_ARG, during a run
BUSY; else it runs on with the selected blocks left in ascending order and RUNNING set. BIST_BLOCK_START of a run between blocks
takes the next one: outside Run it is REFUSED with reason STATE, with any unmet precondition REFUSED with its reason, else it is
under test from this tick. BIST_BLOCK_END of a memory block or of LOOPREC leaves nothing under test and its outcome in the
payload and the health map: INCOMPLETE with a cause that arose, a junction too hot or steps missing, else FAIL with a bad step,
which sets fault group 16, else PASS. A region step counts a region up to the last; a slice of RULEENG, one in a rule period from
its tick 5,250 on after the evaluation, counts down, and one that is cut off 500 ticks before the next snapshot counts back up,
the third in a row being a cause. Without such a run or block each changes nothing. A read of
BIST_DATA0 from an elevated context loads that context's latch from its index, a reserved index giving no data.
The model's own choices in it: log entries 5, 50. -/
def Obligations.SelfTestBlocks : Prop :=
  ∀ (s : State) (c : Cmd) (hot bad : Bool) (count expect : BitVec 32) (halves : BitVec 2) (bg : BitVec 12) (n : Fin 9) (b : Nat) (rest : List Nat),
    let a0 := c.arg 0
    let a1 := c.arg 1
    let sel := ((List.range 32).filter fun i => bitOf a0 i) ++ (((List.range 2).filter fun i => bitOf (a1 % 4) i).map fun i => i + 32)
    let badArg := sel = [] ∨ 4 ≤ a1 ∨ 4 ≤ c.arg 2 ∨ (c.ctx = 0 ∧ c.rlen < 64)
    let between := s.bist.active = true ∧ s.bist.cur = none ∧ s.bist.left = b :: rest
    let refused := fun (r : Nat) => Completes (.bistBlockStart hot) s (fun u => u.bist.cur = none ∧ u.bist.left = rest ∧ u.bistOut b = 4 + 16 * r
      ∧ (b < 34 → u.get (State.fBIST_LAST b) = 4) ∧ Only [.regs, .evt, .spi, .mbx, .bist] s u)
    let steps := if b = 0x18 then count.toNat else s.bist.regions
    let all := if b = 0x18 then expect.toNat else bistRegions b
    let outcome := if s.bist.cause ≠ 0 ∨ hot = true ∨ steps < all then 3 else if halves ≠ 0 ∨ s.bist.bad ≠ [] then 2 else 1
    let slicing := s.bist.cur = some 0x19
    let turn := s.bist.slices ≠ 0 ∧ s.rule.running = false ∧ s.ruleTick 5250 = true ∧ s.bist.sliceAt ≤ s.rule.start
    let ends := s.bist.slice = true ∧ s.rule.start + s.rulePeriod ≤ s.grid.tick + 500
    let k := s.copyOf n
    let idx := bitsOf k.bistIdx 0 6
    (s.Runs c 0x40 → badArg → Completes .bistRun s (fun u => Ended s u c 0x20 0 [] ∧ Only [.mbx] s u))
    ∧ (s.Runs c 0x40 → ¬ badArg → s.bist.active = true → Completes .bistRun s (fun u => Ended s u c 0x11 0 [] ∧ Only [.mbx] s u))
    ∧ (s.Runs c 0x40 → ¬ badArg → s.bist.active = false → Completes .bistRun s (fun u => RunsOn s u c ∧ u.bist.active = true
        ∧ u.bist.job = some c.id ∧ u.bist.left = sel ∧ u.bist.cur = none ∧ u.bist.force = bitOf (c.arg 2) 0
        ∧ u.bist.stop = bitOf (c.arg 2) 1 ∧ u.flag State.fBIST_RUNNING = true ∧ Only [.regs, .mbx, .bist] s u
        ∧ OnlyRegs [(aDEV_BIST_STAT, 0)] s u))
    ∧ (between → s.pstate ≠ 1 → refused 1)
    ∧ (between → s.bistPrecond b hot ≠ 0 → refused (s.bistPrecond b hot))
    ∧ (between → s.bistPrecond b hot = 0 → Completes (.bistBlockStart hot) s (fun u => u.bist.cur = some b ∧ u.bist.left = rest
        ∧ u.bist.start = s.grid.tick ∧ u.bist.regions = 0 ∧ u.bist.bad = [] ∧ u.bist.cause = 0
        ∧ Only [.regs, .time, .icu, .evt, .nw, .pwr, .chans, .mtx, .adc, .ring, .ptp, .sec, .bist] s u))
    ∧ (s.bist.active = false ∨ s.bist.cur ≠ none ∨ s.bist.left = [] → Completes (.bistBlockStart hot) s (fun u => u = s))
    ∧ (s.bist.cur = none → Completes (.bistBlockEnd count expect halves bg hot) s (fun u => u = s))
    ∧ (s.bist.cur = some b → b ∈ [0x18, 0x1A, 0x1B, 0x1C, 0x1D, 0x1E] → b ∉ s.bist.left →
      Completes (.bistBlockEnd count expect halves bg hot) s (fun u => u.bist.cur = none ∧ u.bistOut b % 16 = outcome
        ∧ u.get (State.fBIST_LAST b) = outcome ∧ (outcome = 2 → u.flag (fFLT_GROUP 16) = true)))
    ∧ (s.bist.cur = some b → s.bist.regions < bistRegions b → Completes (.bistRegionStep bad) s (fun u =>
      u.bist = { s.bist with regions := s.bist.regions + 1, bad := if bad then s.bist.bad ++ [s.bist.regions] else s.bist.bad }
        ∧ Only [.bist] s u))
    ∧ (s.bist.cur = none ∨ (s.bist.cur = some b ∧ bistRegions b ≤ s.bist.regions) → Completes (.bistRegionStep bad) s (fun u => u = s))
    ∧ (slicing → turn → Completes .ruleengSlice s (fun u => u.bist = { s.bist with
        slices := s.bist.slices - 1, cuts := if s.bist.slice then 0 else s.bist.cuts, slice := true, sliceAt := s.grid.tick }
          ∧ Only [.bist] s u))
    ∧ (¬ slicing ∨ ¬ turn → Completes .ruleengSlice s (fun u => u = s))
    ∧ (slicing → ends → Completes .ruleengSliceCutoff s (fun u => u.bist = { s.bist with
        slices := s.bist.slices + 1, cuts := s.bist.cuts + 1, slice := false,
        cause := if 2 ≤ s.bist.cuts ∧ s.bist.cause = 0 then 9 else s.bist.cause } ∧ Only [.bist] s u))
    ∧ (¬ slicing ∨ ¬ ends → Completes .ruleengSliceCutoff s (fun u => u = s))
    ∧ (n ≠ 0 ∨ (s.spi.mode = false ∧ s.hostValid = true) → s.elevated n = true → Completes (.bistDataRead n) s (fun u =>
        (u.copyOf n).bistLatch = (if idx ≤ 0x21 then tabGet (fun _ => []) s.bist.data idx else [])
          ∧ (u.copyOf n).bistIdx = State.autoInc k.bistIdx 6 0x21 ∧ (∀ d, d ≠ (n : Nat) → u.copyOf d = s.copyOf d) ∧ Only [.ctx, .sec] s u))
    ∧ (n ≠ 0 → s.elevated n = false → Completes (.bistDataRead n) s (fun u => u = s))

/-- TRIM_RELOAD on SC0 with nothing against it: behind a test of a named converter or of its pair's buffer it ends DEFERRED with
the longest wait; during another reload BUSY; for the converter of the boost sampling whose partner is out of service REFUSED;
for no converter OK with RESULT0 0; none of these changes anything but the mailbox. Else every named converter waits for its
reload, no other converter changes, and the command runs on. TRIM_RELOAD_DONE 1,000 ticks after the reload of a converter began ends it; a
reference more than 8 codes from the OTP value marks it faulty; a converter of the running command is counted as passed or
failed, and the last one ends the command OK, or FAULT with one failed, with both masks as RESULT0 and payload. On another tick, or
for a converter not in reload, while the command has converters left or none runs, it changes nothing.
The model's own choices in it: log entries 5, 40, 51. -/
def Obligations.TrimReload : Prop :=
  ∀ (s : State) (c : Cmd) (k : Fin 16) (bg : BitVec 12) (r : Reload),
    let m := c.arg 0 % 65536
    let wait := (s.reloadBlocked m).map s.bistWait
    let shut := bitOf m s.boostConv = true ∧ s.convOut (partner s.boostConv) = true
    let ok := ((bg.toNat : Int) - Config.bgOtp k).natAbs ≤ 8
    let pass := r.pass + if ok then 2 ^ (k : Nat) else 0
    let fail := r.fail + if ok then 0 else 2 ^ (k : Nat)
    let w := pass + fail * 65536
    let ends := (s.conv k).reload = 2 ∧ s.grid.tick = (s.conv k).reloadAt + 1000
    let mine := ends ∧ s.adc.reload = some r ∧ bitOf r.left k = true
    (s.Runs c 0x41 →
      (wait ≠ [] → Completes .trimReload s (fun u => Ended s u c 0x02 (maxFrom 0 wait) [] ∧ Only [.mbx] s u))
      ∧ (wait = [] → s.adc.reload ≠ none → Completes .trimReload s (fun u => Ended s u c 0x11 0 [] ∧ Only [.mbx] s u))
      ∧ (wait = [] → s.adc.reload = none → shut → Completes .trimReload s (fun u => Ended s u c 0x12 0 [] ∧ Only [.mbx] s u))
      ∧ (wait = [] → s.adc.reload = none → ¬ shut → m = 0 → Completes .trimReload s (fun u =>
        Ended s u c 0x00 0 [0, 0, 0, 0] ∧ Only [.mbx] s u))
      ∧ (wait = [] → s.adc.reload = none → ¬ shut → m ≠ 0 → Completes .trimReload s (fun u => RunsOn s u c
        ∧ u.adc.reload = some ⟨c.id, m, 0, 0⟩
        ∧ (∀ j, u.conv j = if j < 16 ∧ bitOf m j = true then { s.conv j with reload := 1 } else s.conv j) ∧ Only [.adc, .mbx] s u)))
    ∧ (¬ ends → (∀ x, s.adc.reload = some x → x.left ≠ 0) → Completes (.trimReloadDone k bg) s (fun u => u = s))
    ∧ (ends → Completes (.trimReloadDone k bg) s (fun u => (u.conv k).reload = 0
        ∧ (¬ ok → u.flag (State.fADC_FAULT k) = true) ∧ Only [.regs, .icu, .evt, .nw, .pwr, .chans, .mtx, .adc, .mbx, .bist] s u))
    ∧ (mine → r.left ≠ 2 ^ (k : Nat) → Completes (.trimReloadDone k bg) s (fun u =>
        u.adc.reload = some ⟨r.ctx, r.left - 2 ^ (k : Nat), pass, fail⟩ ∧ u.mbx = s.mbx))
    ∧ (mine → r.left = 2 ^ (k : Nat) → Completes (.trimReloadDone k bg) s (fun u => u.adc.reload = none
        ∧ u.mbx.cmds = s.mbx.cmds.map fun x => if x.id = r.ctx then { x with
            phase := .done, status := if fail = 0 then 0x00 else 0x30, r0 := w % 2 ^ 32, out := (leBytes 4 w).take x.rlen } else x))

/-- A CYHAR_CMD frame is taken up only while SC0 takes commands, Cyhar is on and Dawn is not held with FW_NONE; a body below 64
bytes leaves the mailbox alone. In the context of its MAC, a SEQ among the last 16 that still runs counts RING_DUP, and one that
is not newer than the newest counts RING_OLD; neither adds a command. A newer SEQ becomes the newest and joins the store; its
descriptor is added to the commands in flight and waits, but one whose PLEN is not the inline payload's length ends BAD_ARG at
once, and a 33rd in flight ends BUSY. A MAC without a context takes a free one with its copies at their reset values and no
elevation; with no context to be had, nothing of the mailbox changes. CYHAR_REPLY_DROP on a shut port drops the oldest reply
that has waited 100 ms, kept frames joining the queue as far as there is room, and nothing else. RING_CONTEXT_IDLE_DROP of a context
idle for 60 s frees it with its elevation and nonce; of its commands only those in a long run and the privileged ones that have
started stay, marked as of a dropped context; before that it changes nothing.
The model's own choices in it: log entries 5, 41. -/
def Obligations.RingContexts : Prop :=
  ∀ (p : Fin 2) (i : Fin 8) (mac : BitVec 48) (seq : BitVec 32) (body : List (BitVec 8)) (s : State) (k : Nat) (f : Frame),
    let m := mac.toNat
    let q := seq.toNat
    let go := Instr.cyharCmdFrame p mac seq body
    let up := s.sc0Up = true ∧ s.cyharOn = true ∧ ¬ (s.pstate = 0 ∧ s.get fPWR_HOLD = 1)
    let takes := up ∧ 64 ≤ body.length
    let x := s.ringCtx k
    let found := s.findCtx m = some k
    let stored := x.store.find? fun e => e.1 == q
    let newer := ∀ n, x.newest = some n → seqNewer q n = true
    let d := parseDesc s.mbx.nextId k false (body.take 64) (body.drop 64) q p
    let cmd := { d with urgent := bitOf d.flags 3, taken := s.stampNow 2 }
    let e := s.egress p
    let y := s.ringCtx ((i : Nat) + 1)
    let idle := y.used = true ∧ y.last + 60 * tps ≤ s.nw.tick
    let accepted := fun (u : State) => u.ringCtx k = { x with last := s.nw.tick, newest := some q, store := ((q, none) :: x.store).take 16 }
    let added := fun (z : Cmd) => Completes go s (fun u => accepted u ∧ u.mbx.cmds = s.mbx.cmds ++ [z] ∧ Only [.ring, .mbx] s u)
    (¬ up → Completes go s (fun u => u = s))
    ∧ (up → body.length < 64 → Completes go s (fun u => Only [.ring] s u))
    ∧ (takes → found → stored = some (q, none) → Completes go s (fun u => u.rd aMBX_RING_DUP = s.rd aMBX_RING_DUP + 1
        ∧ u.mbx.cmds = s.mbx.cmds ∧ u.ringCtx k = { x with last := s.nw.tick } ∧ Only [.regs, .ring, .mbx] s u
        ∧ OnlyRegs [(aMBX_RING_DUP, 0)] s u))
    ∧ (takes → found → stored = none → ¬ newer → Completes go s (fun u => u.rd aMBX_RING_OLD = s.rd aMBX_RING_OLD + 1
        ∧ u.mbx.cmds = s.mbx.cmds ∧ u.ringCtx k = { x with last := s.nw.tick } ∧ Only [.regs, .ring, .mbx] s u
        ∧ OnlyRegs [(aMBX_RING_OLD, 0)] s u))
    ∧ (takes → found → stored = none → newer → cmd.plen + 64 ≠ body.length → added { cmd with phase := .done, status := 0x20 })
    ∧ (takes → found → stored = none → newer → cmd.plen + 64 = body.length → 32 ≤ s.inflightCnt k →
        added { cmd with phase := .done, status := 0x11 })
    ∧ (takes → found → stored = none → newer → cmd.plen + 64 = body.length → s.inflightCnt k < 32 →
        (∀ z ∈ s.mbx.cmds, ¬ (z.ctx = k ∧ z.counts = true ∧ z.tag = cmd.tag)) → added cmd)
    ∧ (takes → s.findCtx m = none → s.freeCtx = some k → Completes go s (fun u => (u.ringCtx k).used = true ∧ (u.ringCtx k).mac = m
        ∧ (u.ringCtx k).newest = some q ∧ (u.ringCtx k).store = [(q, none)] ∧ u.copyOf k = defCopy ∧ u.elevated k = false
        ∧ u.nonce k = none))
    ∧ (takes → s.findCtx m = none → s.freeCtx = none → s.takeoverCtx = none → Completes go s (fun u => u.mbx = s.mbx ∧ u.sec = s.sec))
    ∧ (s.shut p = false → Completes (.cyharReplyDrop p) s (fun u => u = s))
    ∧ (s.shut p = true → e.loc.find? s.replyOld = some f → Completes (.cyharReplyDrop p) s (fun u =>
        (let q := State.takeIn (e.loc.erase f) e.kept
          let r := State.takeIn e.ptp e.keptPtp
          u.egress p = { e with loc := q.1, kept := q.2, ptp := r.1, keptPtp := r.2 }) ∧ (∀ j, j ≠ (p : Nat) → u.egress j = s.egress j) ∧ Only [.ring] s u))
    ∧ (s.shut p = true → e.loc.find? s.replyOld = none → e.kept.find? s.replyOld = some f →
      Completes (.cyharReplyDrop p) s (fun u =>
        u.egress p = { e with kept := e.kept.erase f } ∧ (∀ j, j ≠ (p : Nat) → u.egress j = s.egress j) ∧ Only [.ring] s u))
    ∧ (e.loc.find? s.replyOld = none → e.kept.find? s.replyOld = none → Completes (.cyharReplyDrop p) s (fun u => u = s))
    ∧ (idle → Completes (.ringContextIdleDrop i) s (fun u => (u.ringCtx ((i : Nat) + 1)).used = false ∧ u.elevated ((i : Nat) + 1) = false
        ∧ u.nonce ((i : Nat) + 1) = none ∧ (∀ j, j ≠ (i : Nat) + 1 → u.ringCtx j = s.ringCtx j ∧ u.elevated j = s.elevated j)
        ∧ u.mbx.cmds = (s.mbx.cmds.filter fun z => z.ctx != (i : Nat) + 1 || z.phase == .long
            || (z.phase == .running && z.priv && opPrivileged z.op)).map
            (fun z => if z.ctx = (i : Nat) + 1 then { z with gone := true } else z) ∧ Only [.mbx, .sec] s u))
    ∧ (¬ idle → Completes (.ringContextIdleDrop i) s (fun u => u = s))

/-- In MODE_3032 every frame of 24 clocks drives the status byte first: VALID in bit 7, 0 without power good and before Dawn phase D2,
and 1 from then on while the die-to-die link answers; ERR in bit 6; UNLOCKED, the elevation of the SPI context, in bit 5; FAULT
in bit 4, 1 while FAULT_N is low; READY, the level of ASPECT_READY, in bit 3; and zeros in bits 2:0. While VALID is 0 a read
drives the data 0xFFFF, and a write and a read change nothing but the driven bytes. That a lost link clears VALID is the rule of the
lost link, not of this one, and is not claimed. -/
def Obligations.SpiStatusByte : Prop :=
  ∀ (n : Fin 32) (x : BitVec 16) (cmd : BitVec 8) (full : Bool) (s : State),
    let live := s.pwr.good = true ∧ 2 ≤ s.get fPWR_PHASE
    s.spi.mode = true →
      ∀ i ∈ [Instr.spi3032Transaction 24 cmd x, .chCtrlWrite n x, .pwHiWrite x, .spiLock x, .selftestStart full, .spiFltclr x],
        Completes i s (fun u => ∃ (b : Byte) (d : List Byte), u.bus = b :: d ∧ d.length = 2
          ∧ (¬ live → b.getLsbD 7 = false) ∧ (live → s.link.lost = false → b.getLsbD 7 = true)
          ∧ b.getLsbD 6 = s.spi.err ∧ b.getLsbD 5 = s.elevated 9 ∧ (b.getLsbD 4 = true ↔ s.faultN = false)
          ∧ b.getLsbD 3 = s.pins.aspectReady ∧ b.toNat % 8 = 0
          ∧ (b.getLsbD 7 = false → Only [.bus] s u
            ∧ (i = .spi3032Transaction 24 cmd x → 128 ≤ cmd.toNat → d = [0xFF, 0xFF])))

/-- A FLTCLR write of the elevated SPI context completes and acts on the channel FLTCLR[4:0], or with bit 15 on channels 0-31: every
latch with its bit in FLTCLR[14:8] is cleared, but for an OVERHEAT latch of the device's own shutdown while that lasts, the
others stay, and proof begins again; no other channel's latches or proof change. For one channel this is what the write of
SUP_FLT_CLR with that CH and MASK does to every channel. Bits 7:5 have no part in it. Without elevation the write only sets ERR. -/
def Obligations.SpiFaultClear : Prop :=
  ∀ (x : BitVec 16) (s : State),
    let mask := x.toNat / 256 % 128
    let ch := x.toNat % 32
    let hit := fun (d : Nat) => d < 32 ∧ (x.getLsbD 15 = true ∨ d = ch)
    s.spi.mode = true → s.hostValid = true →
      (s.elevated 9 = false → Completes (.spiFltclr x) s (fun u => u.spi = { s.spi with err := true } ∧ Only [.bus, .spi] s u))
      ∧ (s.elevated 9 = true → Completes (.spiFltclr x) s (fun u =>
        (∀ d < 128,
          (hit d → u.get (fSUP_PROOF d) = 0 ∧ u.flag (fSUP_LITPROOF d) = false ∧ ∀ k < 7, u.latch d k =
            (s.latch d k && !(bitOf mask k && !(k == ltOVERHEAT && (s.tsd && s.flag (fSUP_TSD_CAUSE d))))))
          ∧ (¬ hit d → u.get (fSUP_PROOF d) = s.get (fSUP_PROOF d) ∧ u.flag (fSUP_LITPROOF d) = s.flag (fSUP_LITPROOF d)
            ∧ ∀ k < 7, u.latch d k = s.latch d k))
        ∧ Only [.regs, .icu, .nw, .pwr, .chans, .mtx, .bus, .sec] s u
        ∧ (x.getLsbD 15 = false → Completes (.supFltClr (BitVec.ofNat 32 (ch + 256 * mask))) s (fun v => ∀ d < 128,
          u.get (fSUP_PROOF d) = v.get (fSUP_PROOF d) ∧ u.flag (fSUP_LITPROOF d) = v.flag (fSUP_LITPROOF d)
            ∧ ∀ k < 7, u.latch d k = v.latch d k))))

/-- The state after reset lists nothing in its sparse tables: registers, memory die and lifetime slots are in canonical form.
The model's own choices in it: log entries 1, 2. -/
def Obligations.ResetStoresCanonical : Prop :=
  State.reset.Canon

/-- Every step from every state keeps the canonical form of the sparse tables of registers, memory die and lifetime slots, and what
one-time programming promises: FIELD_LOCK and the scanned mark in OTP stay set and the rollback counter never falls.
The model's own choices in it: log entry 4. -/
def Obligations.StepKeepsStores : Prop :=
  ∀ s t : State, step s = .next t → (s.Canon → t.Canon) ∧ OtpKept s t
end

