-- ==== Sys2Proof/Laws/Tab.lean ====
section
/-! SUPPORT. Laws of sparse tables, bit fields and little-endian bytes. -/

-- Proofs elaborated beside each other need more threads than the package's memory limit allows.
set_option Elab.async false

namespace Sys2Proof.Machine

variable {α : Type}

-- Reading after writing

theorem tabGet_erase_same (d : Nat → α) (t : Tab α) (k : Nat) : tabGet d (tabErase t k) k = d k := by
  induction t with
  | nil => rfl
  | cons p t ih =>
    obtain ⟨k', v⟩ := p
    by_cases h : k' = k <;> simp [tabErase, tabGet, h, ih]

theorem tabGet_erase_other (d : Nat → α) (t : Tab α) {k j : Nat} (h : j ≠ k) :
    tabGet d (tabErase t k) j = tabGet d t j := by
  induction t with
  | nil => rfl
  | cons p t ih =>
    obtain ⟨k', v⟩ := p
    by_cases h' : k' = k
    · have : k' ≠ j := by omega
      simp [tabErase, tabGet, h', ih, h.symm]
    · simp [tabErase, tabGet, h', ih]

theorem tabGet_insert_other (d : Nat → α) (t : Tab α) {k j : Nat} (v : α) (h : j ≠ k) :
    tabGet d (tabInsert t k v) j = tabGet d t j := by
  induction t with
  | nil => simp [tabInsert, tabGet, h.symm]
  | cons p t ih =>
    obtain ⟨k', v'⟩ := p
    by_cases h' : k < k' <;> simp [tabInsert, tabGet, h', ih, h.symm]

theorem tabGet_insert_same (d : Nat → α) (t : Tab α) (k : Nat) (v : α) (h : ∀ p ∈ t, p.1 ≠ k) :
    tabGet d (tabInsert t k v) k = v := by
  induction t with
  | nil => simp [tabInsert, tabGet]
  | cons p t ih =>
    obtain ⟨k', v'⟩ := p
    have h1 : k' ≠ k := h _ (List.mem_cons_self ..)
    have h2 := ih fun p hp => h p (List.mem_cons_of_mem _ hp)
    by_cases h' : k < k' <;> simp [tabInsert, tabGet, h', h1, h2]

theorem erase_no_key (t : Tab α) (k : Nat) : ∀ p ∈ tabErase t k, p.1 ≠ k := by
  induction t with
  | nil => simp [tabErase]
  | cons q t ih =>
    obtain ⟨k', v⟩ := q
    by_cases h : k' = k
    · simpa [tabErase, h] using ih
    · simp only [tabErase, h, if_false, List.forall_mem_cons]
      exact ⟨h, ih⟩

/-- A read of the key written gives the value written. -/
@[simp] theorem tabGet_set_same [DecidableEq α] (d : Nat → α) (t : Tab α) (k : Nat) (v : α) :
    tabGet d (tabSet d t k v) k = v := by
  unfold tabSet
  split
  · rename_i h; rw [tabGet_erase_same, h]
  · exact tabGet_insert_same d _ k v (erase_no_key t k)

/-- A read of any other key gives what it gave before. -/
theorem tabGet_set_other [DecidableEq α] (d : Nat → α) (t : Tab α) {k j : Nat} (v : α) (h : j ≠ k) :
    tabGet d (tabSet d t k v) j = tabGet d t j := by
  unfold tabSet
  split
  · exact tabGet_erase_other d t h
  · rw [tabGet_insert_other d _ v h, tabGet_erase_other d t h]

-- The canonical form

theorem TabWf_nil (d : Nat → α) : TabWf d ([] : Tab α) := ⟨List.Pairwise.nil, by simp⟩

theorem mem_of_mem_erase {t : Tab α} {k : Nat} {p : Nat × α} (h : p ∈ tabErase t k) : p ∈ t := by
  induction t with
  | nil => simp [tabErase] at h
  | cons q t ih =>
    obtain ⟨k', v⟩ := q
    by_cases h' : k' = k
    · simp only [tabErase, h', if_true] at h
      exact List.mem_cons_of_mem _ (ih h)
    · simp only [tabErase, h', if_false, List.mem_cons] at h
      rcases h with rfl | h
      · exact List.mem_cons_self ..
      · exact List.mem_cons_of_mem _ (ih h)

theorem TabWf_erase {d : Nat → α} {t : Tab α} (h : TabWf d t) (k : Nat) : TabWf d (tabErase t k) := by
  refine ⟨?_, fun p hp => h.2 p (mem_of_mem_erase hp)⟩
  have h1 := h.1
  clear h
  induction t with
  | nil => simp [tabErase]
  | cons q t ih =>
    obtain ⟨k', v⟩ := q
    rw [List.pairwise_cons] at h1
    by_cases h' : k' = k
    · simpa [tabErase, h'] using ih h1.2
    · simp only [tabErase, h', if_false, List.pairwise_cons]
      exact ⟨fun p hp => h1.1 p (mem_of_mem_erase hp), ih h1.2⟩

theorem mem_insert {t : Tab α} {k : Nat} {v : α} {p : Nat × α} (h : p ∈ tabInsert t k v) : p = (k, v) ∨ p ∈ t := by
  induction t with
  | nil => simpa [tabInsert] using h
  | cons q t ih =>
    obtain ⟨k', v'⟩ := q
    by_cases h' : k < k'
    · simpa [tabInsert, h'] using h
    · simp only [tabInsert, h', if_false, List.mem_cons] at h
      rcases h with h | h
      · exact .inr (h ▸ List.mem_cons_self ..)
      · rcases ih h with h | h
        · exact .inl h
        · exact .inr (List.mem_cons_of_mem _ h)

theorem TabWf_insert {d : Nat → α} {t : Tab α} (h : TabWf d t) {k : Nat} {v : α} (hk : ∀ p ∈ t, p.1 ≠ k) (hv : v ≠ d k) :
    TabWf d (tabInsert t k v) := by
  refine ⟨?_, fun p hp => ?_⟩
  · have h1 := h.1
    clear h
    induction t with
    | nil => simp [tabInsert]
    | cons q t ih =>
      obtain ⟨k', v'⟩ := q
      rw [List.pairwise_cons] at h1
      have hk' : k' ≠ k := hk _ (List.mem_cons_self ..)
      by_cases h' : k < k'
      · simp only [tabInsert, h', if_true, List.pairwise_cons, List.mem_cons]
        refine ⟨?_, h1⟩
        rintro p (rfl | hp)
        · exact h'
        · exact lt_trans h' (h1.1 p hp)
      · simp only [tabInsert, h', if_false, List.pairwise_cons]
        refine ⟨fun p hp => ?_, ih (fun p hp => hk p (List.mem_cons_of_mem _ hp)) h1.2⟩
        rcases mem_insert hp with rfl | hp
        · simp only; omega
        · exact h1.1 p hp
  · rcases mem_insert hp with rfl | hp
    · exact hv
    · exact h.2 p hp

/-- A write keeps the canonical form. -/
theorem TabWf_set [DecidableEq α] {d : Nat → α} {t : Tab α} (h : TabWf d t) (k : Nat) (v : α) : TabWf d (tabSet d t k v) := by
  unfold tabSet
  split
  · exact TabWf_erase h k
  · rename_i hv; exact TabWf_insert (TabWf_erase h k) (erase_no_key t k) hv

-- Parts of a byte table

theorem mem_tabCut {a n : Nat} {t : Tab Byte} {p : Nat × Byte} (h : p ∈ tabCut a n t) : p ∈ t := by
  induction t with
  | nil => simp [tabCut] at h
  | cons q t ih =>
    obtain ⟨k, b⟩ := q
    by_cases h' : a ≤ k ∧ k < a + n
    · simp only [tabCut, h', and_self, if_true] at h
      exact List.mem_cons_of_mem _ (ih h)
    · simp only [tabCut, h', if_false, List.mem_cons] at h
      rcases h with rfl | h
      · exact List.mem_cons_self ..
      · exact List.mem_cons_of_mem _ (ih h)

/-- A part cut out keeps the canonical form. -/
theorem TabWf_cut {d : Nat → Byte} {t : Tab Byte} (h : TabWf d t) (a n : Nat) : TabWf d (tabCut a n t) := by
  refine ⟨?_, fun p hp => h.2 p (mem_tabCut hp)⟩
  have h1 := h.1
  clear h
  induction t with
  | nil => simp [tabCut]
  | cons q t ih =>
    obtain ⟨k, b⟩ := q
    rw [List.pairwise_cons] at h1
    by_cases h' : a ≤ k ∧ k < a + n
    · simpa [tabCut, h'] using ih h1.2
    · simp only [tabCut, h', if_false, List.pairwise_cons]
      exact ⟨fun p hp => h1.1 p (mem_tabCut hp), ih h1.2⟩

theorem mem_tabBefore {a : Nat} {t : Tab Byte} {p : Nat × Byte} (h : p ∈ tabBefore a t) : p ∈ t ∧ p.1 < a := by
  induction t with
  | nil => simp [tabBefore] at h
  | cons q t ih =>
    obtain ⟨k, b⟩ := q
    by_cases h' : k < a
    · simp only [tabBefore, h', if_true, List.mem_cons] at h
      rcases h with rfl | h
      · exact ⟨List.mem_cons_self .., h'⟩
      · exact ⟨List.mem_cons_of_mem _ (ih h).1, (ih h).2⟩
    · simp only [tabBefore, h', if_false] at h
      exact ⟨List.mem_cons_of_mem _ (ih h).1, (ih h).2⟩

theorem mem_tabFrom {a : Nat} {t : Tab Byte} {p : Nat × Byte} (h : p ∈ tabFrom a t) : p ∈ t ∧ a ≤ p.1 := by
  induction t with
  | nil => simp [tabFrom] at h
  | cons q t ih =>
    obtain ⟨k, b⟩ := q
    by_cases h' : k < a
    · simp only [tabFrom, h', if_true] at h
      exact ⟨List.mem_cons_of_mem _ (ih h).1, (ih h).2⟩
    · simp only [tabFrom, h', if_false, List.mem_cons] at h
      rcases h with rfl | h
      · exact ⟨List.mem_cons_self .., by simpa using h'⟩
      · exact ⟨List.mem_cons_of_mem _ (ih h).1, (ih h).2⟩

theorem mem_tabSlice {a n : Nat} {t : Tab Byte} {p : Nat × Byte} (h : p ∈ tabSlice a n t) :
    (a + p.1, p.2) ∈ t ∧ p.1 < n := by
  induction t with
  | nil => simp [tabSlice] at h
  | cons q t ih =>
    obtain ⟨k, b⟩ := q
    by_cases h' : a ≤ k ∧ k < a + n
    · simp only [tabSlice, h', and_self, if_true, List.mem_cons] at h
      rcases h with rfl | h
      · refine ⟨?_, by simp only; omega⟩
        have : a + (k - a) = k := by omega
        simp [this]
      · exact ⟨List.mem_cons_of_mem _ (ih h).1, (ih h).2⟩
    · simp only [tabSlice, h', if_false] at h
      exact ⟨List.mem_cons_of_mem _ (ih h).1, (ih h).2⟩

theorem pairwise_tabBefore {a : Nat} {t : Tab Byte} (h : t.Pairwise fun a b => a.1 < b.1) :
    (tabBefore a t).Pairwise fun a b => a.1 < b.1 := by
  induction t with
  | nil => simp [tabBefore]
  | cons q t ih =>
    obtain ⟨k, b⟩ := q
    rw [List.pairwise_cons] at h
    by_cases h' : k < a
    · simp only [tabBefore, h', if_true, List.pairwise_cons]
      exact ⟨fun p hp => h.1 p (mem_tabBefore hp).1, ih h.2⟩
    · simpa [tabBefore, h'] using ih h.2

theorem pairwise_tabFrom {a : Nat} {t : Tab Byte} (h : t.Pairwise fun a b => a.1 < b.1) :
    (tabFrom a t).Pairwise fun a b => a.1 < b.1 := by
  induction t with
  | nil => simp [tabFrom]
  | cons q t ih =>
    obtain ⟨k, b⟩ := q
    rw [List.pairwise_cons] at h
    by_cases h' : k < a
    · simpa [tabFrom, h'] using ih h.2
    · simp only [tabFrom, h', if_false, List.pairwise_cons]
      exact ⟨fun p hp => h.1 p (mem_tabFrom hp).1, ih h.2⟩

theorem pairwise_tabSlice {a n : Nat} {t : Tab Byte} (h : t.Pairwise fun a b => a.1 < b.1) :
    (tabSlice a n t).Pairwise fun a b => a.1 < b.1 := by
  induction t with
  | nil => simp [tabSlice]
  | cons q t ih =>
    obtain ⟨k, b⟩ := q
    rw [List.pairwise_cons] at h
    by_cases h' : a ≤ k ∧ k < a + n
    · simp only [tabSlice, h', and_self, if_true, List.pairwise_cons]
      refine ⟨fun p hp => ?_, ih h.2⟩
      have := h.1 _ (mem_tabSlice hp).1
      simp only at this ⊢
      omega
    · simpa [tabSlice, h'] using ih h.2

theorem TabWf_slice {t : Tab Byte} (h : TabWf (fun _ => (0 : Byte)) t) (a n : Nat) :
    TabWf (fun _ => (0 : Byte)) (tabSlice a n t) :=
  ⟨pairwise_tabSlice h.1, fun p hp => by simpa using h.2 _ (mem_tabSlice hp).1⟩

/-- A part pasted over another keeps the canonical form. -/
theorem TabWf_paste {t src : Tab Byte} (h : TabWf (fun _ => (0 : Byte)) t) (hs : TabWf (fun _ => (0 : Byte)) src) (a n : Nat) :
    TabWf (fun _ => (0 : Byte)) (tabPaste a n t src) := by
  unfold tabPaste
  refine ⟨?_, ?_⟩
  · rw [List.append_assoc, List.pairwise_append, List.pairwise_append]
    refine ⟨pairwise_tabBefore h.1, ⟨?_, pairwise_tabFrom h.1, ?_⟩, ?_⟩
    · rw [List.pairwise_map]
      exact (pairwise_tabSlice hs.1).imp fun hab => by simpa using hab
    · intro x hx y hy
      obtain ⟨p, hp, rfl⟩ := List.mem_map.1 hx
      have h1 := (mem_tabSlice hp).2
      have h2 := (mem_tabFrom hy).2
      simp only
      omega
    · intro x hx y hy
      have h1 := (mem_tabBefore hx).2
      rcases List.mem_append.1 hy with hy | hy
      · obtain ⟨p, -, rfl⟩ := List.mem_map.1 hy
        simp only
        omega
      · have := (mem_tabFrom hy).2
        omega
  · intro p hp
    rcases List.mem_append.1 hp with hp | hp
    · rcases List.mem_append.1 hp with hp | hp
      · exact h.2 _ (mem_tabBefore hp).1
      · obtain ⟨q, hq, rfl⟩ := List.mem_map.1 hp
        have := hs.2 _ (mem_tabSlice hq).1
        simpa using this
    · exact h.2 _ (mem_tabFrom hp).1

-- Bit fields

theorem withBits_lt {x lo width v : Nat} (hx : x < 2 ^ 32) (h : lo + width ≤ 32) : withBits x lo width v < 2 ^ 32 := by
  unfold withBits
  have h1 : x % 2 ^ lo < 2 ^ lo := Nat.mod_lt _ (Nat.two_pow_pos _)
  have h2 : v % 2 ^ width < 2 ^ width := Nat.mod_lt _ (Nat.two_pow_pos _)
  have h3 : x / 2 ^ (lo + width) < 2 ^ (32 - (lo + width)) := by
    rw [Nat.div_lt_iff_lt_mul (Nat.two_pow_pos _), ← pow_add]
    have : 32 - (lo + width) + (lo + width) = 32 := by omega
    rwa [this]
  have h4 : v % 2 ^ width * 2 ^ lo + 2 ^ lo ≤ 2 ^ width * 2 ^ lo := by
    have := Nat.mul_le_mul_right (2 ^ lo) h2
    rwa [Nat.succ_mul] at this
  have h5 : x / 2 ^ (lo + width) * 2 ^ (lo + width) + 2 ^ (lo + width)
      ≤ 2 ^ (32 - (lo + width)) * 2 ^ (lo + width) := by
    have := Nat.mul_le_mul_right (2 ^ (lo + width)) h3
    rwa [Nat.succ_mul] at this
  rw [← pow_add] at h4 h5
  have e1 : width + lo = lo + width := by omega
  have e2 : 32 - (lo + width) + (lo + width) = 32 := by omega
  rw [e1] at h4
  rw [e2] at h5
  omega

/-- A field written reads back the value, cut to its width. -/
theorem bitsOf_withBits_same (x lo width v : Nat) : bitsOf (withBits x lo width v) lo width = v % 2 ^ width := by
  unfold bitsOf withBits
  have h1 : x % 2 ^ lo < 2 ^ lo := Nat.mod_lt _ (Nat.two_pow_pos _)
  have e : x % 2 ^ lo + v % 2 ^ width * 2 ^ lo + x / 2 ^ (lo + width) * 2 ^ (lo + width)
      = x % 2 ^ lo + 2 ^ lo * (v % 2 ^ width + x / 2 ^ (lo + width) * 2 ^ width) := by
    rw [pow_add]; ring
  rw [e, Nat.add_mul_div_left _ _ (Nat.two_pow_pos _), Nat.div_eq_of_lt h1, Nat.zero_add,
    Nat.add_mul_mod_self_right, Nat.mod_mod]

/-- A field that lies wholly below or above the one written keeps its value. -/
theorem bitsOf_withBits_other {x lo width v lo' width' : Nat} (h : lo' + width' ≤ lo ∨ lo + width ≤ lo') :
    bitsOf (withBits x lo width v) lo' width' = bitsOf x lo' width' := by
  unfold bitsOf withBits
  rcases h with h | h
  · have e : x % 2 ^ lo + v % 2 ^ width * 2 ^ lo + x / 2 ^ (lo + width) * 2 ^ (lo + width)
        = x % 2 ^ lo + 2 ^ (lo' + width') * (2 ^ (lo - (lo' + width')) * (v % 2 ^ width + x / 2 ^ (lo + width) * 2 ^ width)) := by
      have h2 : 2 ^ lo = 2 ^ (lo' + width') * 2 ^ (lo - (lo' + width')) := by
        rw [← pow_add]; congr 1; omega
      calc _ = x % 2 ^ lo + 2 ^ lo * (v % 2 ^ width + x / 2 ^ (lo + width) * 2 ^ width) := by rw [pow_add]; ring
        _ = _ := by rw [← mul_assoc, ← h2]
    have e0 : x = x % 2 ^ lo + 2 ^ (lo' + width') * (2 ^ (lo - (lo' + width')) * (x / 2 ^ lo)) := by
      have h2 : 2 ^ lo = 2 ^ (lo' + width') * 2 ^ (lo - (lo' + width')) := by
        rw [← pow_add]; congr 1; omega
      rw [← mul_assoc, ← h2]
      exact (Nat.mod_add_div x _).symm
    have key : ∀ y z : Nat, (y + 2 ^ (lo' + width') * z) / 2 ^ lo' % 2 ^ width' = y / 2 ^ lo' % 2 ^ width' := by
      intro y z
      rw [pow_add, mul_assoc, Nat.add_mul_div_left _ _ (Nat.two_pow_pos _), Nat.add_mul_mod_self_left]
    rw [e, key]
    conv_rhs => rw [e0]
    rw [key]
  · have h1 : x % 2 ^ lo < 2 ^ lo := Nat.mod_lt _ (Nat.two_pow_pos _)
    have h2 : v % 2 ^ width < 2 ^ width := Nat.mod_lt _ (Nat.two_pow_pos _)
    have h3 : x % 2 ^ lo + v % 2 ^ width * 2 ^ lo < 2 ^ (lo + width) := by
      rw [pow_add]; nlinarith [Nat.two_pow_pos lo]
    have e : 2 ^ lo' = 2 ^ (lo + width) * 2 ^ (lo' - (lo + width)) := by rw [← pow_add]; congr 1; omega
    rw [e, ← Nat.div_div_eq_div_mul, ← Nat.div_div_eq_div_mul, Nat.add_mul_div_right _ _ (Nat.two_pow_pos _),
      Nat.div_eq_of_lt h3, Nat.zero_add]

-- Bytes

theorem length_leBytes (n x : Nat) : (leBytes n x).length = n := by
  induction n generalizing x with
  | zero => rfl
  | succ n ih => simp [leBytes, ih]

/-- Little-endian bytes spell the number, cut to their width. -/
theorem ofLeBytes_leBytes (n x : Nat) : ofLeBytes (leBytes n x) = x % 256 ^ n := by
  induction n generalizing x with
  | zero => simp [leBytes, ofLeBytes, Nat.mod_one]
  | succ n ih =>
    simp only [leBytes, ofLeBytes, ih, BitVec.toNat_ofNat]
    rw [pow_succ' 256 n, Nat.mod_mul]

end Sys2Proof.Machine
end

