-- ==== Sys2Proof/Laws/State.lean ====
section
/-! SUPPORT. One lemma for each field of the state under each update, and the register laws. -/

-- Proofs elaborated beside each other need more threads than the package's memory limit allows.
set_option Elab.async false

namespace Sys2Proof.Machine

namespace State

variable (s : State)

-- Fields under updates

@[simp] theorem wr_pending (a v : Nat) : (s.wr a v).pending = s.pending := (rfl)
@[simp] theorem wr_free (a v : Nat) : (s.wr a v).free = s.free := (rfl)
@[simp] theorem wr_grid (a v : Nat) : (s.wr a v).grid = s.grid := (rfl)
@[simp] theorem wr_time (a v : Nat) : (s.wr a v).time = s.time := (rfl)
@[simp] theorem wr_pins (a v : Nat) : (s.wr a v).pins = s.pins := (rfl)
@[simp] theorem wr_icu (a v : Nat) : (s.wr a v).icu = s.icu := (rfl)
@[simp] theorem wr_evt (a v : Nat) : (s.wr a v).evt = s.evt := (rfl)
@[simp] theorem wr_nw (a v : Nat) : (s.wr a v).nw = s.nw := (rfl)
@[simp] theorem wr_mem (a v : Nat) : (s.wr a v).mem = s.mem := (rfl)
@[simp] theorem wr_cap (a v : Nat) : (s.wr a v).cap = s.cap := (rfl)
@[simp] theorem wr_life (a v : Nat) : (s.wr a v).life = s.life := (rfl)
@[simp] theorem wr_pwr (a v : Nat) : (s.wr a v).pwr = s.pwr := (rfl)
@[simp] theorem wr_obs (a v : Nat) : (s.wr a v).obs = s.obs := (rfl)
@[simp] theorem wr_rule (a v : Nat) : (s.wr a v).rule = s.rule := (rfl)
@[simp] theorem wr_cfg (a v : Nat) : (s.wr a v).cfg = s.cfg := (rfl)
@[simp] theorem wr_ctx (a v : Nat) : (s.wr a v).ctx = s.ctx := (rfl)
@[simp] theorem wr_chans (a v : Nat) : (s.wr a v).chans = s.chans := (rfl)
@[simp] theorem wr_banks (a v : Nat) : (s.wr a v).banks = s.banks := (rfl)
@[simp] theorem wr_boost (a v : Nat) : (s.wr a v).boost = s.boost := (rfl)
@[simp] theorem wr_res (a v : Nat) : (s.wr a v).res = s.res := (rfl)
@[simp] theorem wr_dim (a v : Nat) : (s.wr a v).dim = s.dim := (rfl)
@[simp] theorem wr_mtx (a v : Nat) : (s.wr a v).mtx = s.mtx := (rfl)
@[simp] theorem wr_spi (a v : Nat) : (s.wr a v).spi = s.spi := (rfl)
@[simp] theorem wr_loops (a v : Nat) : (s.wr a v).loops = s.loops := (rfl)
@[simp] theorem wr_adc (a v : Nat) : (s.wr a v).adc = s.adc := (rfl)
@[simp] theorem wr_sto (a v : Nat) : (s.wr a v).sto = s.sto := (rfl)
@[simp] theorem wr_link (a v : Nat) : (s.wr a v).link = s.link := (rfl)
@[simp] theorem wr_ring (a v : Nat) : (s.wr a v).ring = s.ring := (rfl)
@[simp] theorem wr_ptp (a v : Nat) : (s.wr a v).ptp = s.ptp := (rfl)
@[simp] theorem wr_mbx (a v : Nat) : (s.wr a v).mbx = s.mbx := (rfl)
@[simp] theorem wr_sec (a v : Nat) : (s.wr a v).sec = s.sec := (rfl)
@[simp] theorem wr_bist (a v : Nat) : (s.wr a v).bist = s.bist := (rfl)
@[simp] theorem wr_bus (a v : Nat) : (s.wr a v).bus = s.bus := (rfl)
@[simp] theorem wr_fspi (a v : Nat) : (s.wr a v).fspi = s.fspi := (rfl)

@[simp] theorem put_pending (f : Fld) (v : Nat) : (s.put f v).pending = s.pending := (rfl)
@[simp] theorem put_free (f : Fld) (v : Nat) : (s.put f v).free = s.free := (rfl)
@[simp] theorem put_grid (f : Fld) (v : Nat) : (s.put f v).grid = s.grid := (rfl)
@[simp] theorem put_time (f : Fld) (v : Nat) : (s.put f v).time = s.time := (rfl)
@[simp] theorem put_pins (f : Fld) (v : Nat) : (s.put f v).pins = s.pins := (rfl)
@[simp] theorem put_icu (f : Fld) (v : Nat) : (s.put f v).icu = s.icu := (rfl)
@[simp] theorem put_evt (f : Fld) (v : Nat) : (s.put f v).evt = s.evt := (rfl)
@[simp] theorem put_nw (f : Fld) (v : Nat) : (s.put f v).nw = s.nw := (rfl)
@[simp] theorem put_mem (f : Fld) (v : Nat) : (s.put f v).mem = s.mem := (rfl)
@[simp] theorem put_cap (f : Fld) (v : Nat) : (s.put f v).cap = s.cap := (rfl)
@[simp] theorem put_life (f : Fld) (v : Nat) : (s.put f v).life = s.life := (rfl)
@[simp] theorem put_pwr (f : Fld) (v : Nat) : (s.put f v).pwr = s.pwr := (rfl)
@[simp] theorem put_obs (f : Fld) (v : Nat) : (s.put f v).obs = s.obs := (rfl)
@[simp] theorem put_rule (f : Fld) (v : Nat) : (s.put f v).rule = s.rule := (rfl)
@[simp] theorem put_cfg (f : Fld) (v : Nat) : (s.put f v).cfg = s.cfg := (rfl)
@[simp] theorem put_ctx (f : Fld) (v : Nat) : (s.put f v).ctx = s.ctx := (rfl)
@[simp] theorem put_chans (f : Fld) (v : Nat) : (s.put f v).chans = s.chans := (rfl)
@[simp] theorem put_banks (f : Fld) (v : Nat) : (s.put f v).banks = s.banks := (rfl)
@[simp] theorem put_boost (f : Fld) (v : Nat) : (s.put f v).boost = s.boost := (rfl)
@[simp] theorem put_res (f : Fld) (v : Nat) : (s.put f v).res = s.res := (rfl)
@[simp] theorem put_dim (f : Fld) (v : Nat) : (s.put f v).dim = s.dim := (rfl)
@[simp] theorem put_mtx (f : Fld) (v : Nat) : (s.put f v).mtx = s.mtx := (rfl)
@[simp] theorem put_spi (f : Fld) (v : Nat) : (s.put f v).spi = s.spi := (rfl)
@[simp] theorem put_loops (f : Fld) (v : Nat) : (s.put f v).loops = s.loops := (rfl)
@[simp] theorem put_adc (f : Fld) (v : Nat) : (s.put f v).adc = s.adc := (rfl)
@[simp] theorem put_sto (f : Fld) (v : Nat) : (s.put f v).sto = s.sto := (rfl)
@[simp] theorem put_link (f : Fld) (v : Nat) : (s.put f v).link = s.link := (rfl)
@[simp] theorem put_ring (f : Fld) (v : Nat) : (s.put f v).ring = s.ring := (rfl)
@[simp] theorem put_ptp (f : Fld) (v : Nat) : (s.put f v).ptp = s.ptp := (rfl)
@[simp] theorem put_mbx (f : Fld) (v : Nat) : (s.put f v).mbx = s.mbx := (rfl)
@[simp] theorem put_sec (f : Fld) (v : Nat) : (s.put f v).sec = s.sec := (rfl)
@[simp] theorem put_bist (f : Fld) (v : Nat) : (s.put f v).bist = s.bist := (rfl)
@[simp] theorem put_bus (f : Fld) (v : Nat) : (s.put f v).bus = s.bus := (rfl)
@[simp] theorem put_fspi (f : Fld) (v : Nat) : (s.put f v).fspi = s.fspi := (rfl)

@[simp] theorem putFlag_pending (f : Fld) (b : Bool) : (s.putFlag f b).pending = s.pending := (rfl)
@[simp] theorem putFlag_free (f : Fld) (b : Bool) : (s.putFlag f b).free = s.free := (rfl)
@[simp] theorem putFlag_grid (f : Fld) (b : Bool) : (s.putFlag f b).grid = s.grid := (rfl)
@[simp] theorem putFlag_time (f : Fld) (b : Bool) : (s.putFlag f b).time = s.time := (rfl)
@[simp] theorem putFlag_pins (f : Fld) (b : Bool) : (s.putFlag f b).pins = s.pins := (rfl)
@[simp] theorem putFlag_icu (f : Fld) (b : Bool) : (s.putFlag f b).icu = s.icu := (rfl)
@[simp] theorem putFlag_evt (f : Fld) (b : Bool) : (s.putFlag f b).evt = s.evt := (rfl)
@[simp] theorem putFlag_nw (f : Fld) (b : Bool) : (s.putFlag f b).nw = s.nw := (rfl)
@[simp] theorem putFlag_mem (f : Fld) (b : Bool) : (s.putFlag f b).mem = s.mem := (rfl)
@[simp] theorem putFlag_cap (f : Fld) (b : Bool) : (s.putFlag f b).cap = s.cap := (rfl)
@[simp] theorem putFlag_life (f : Fld) (b : Bool) : (s.putFlag f b).life = s.life := (rfl)
@[simp] theorem putFlag_pwr (f : Fld) (b : Bool) : (s.putFlag f b).pwr = s.pwr := (rfl)
@[simp] theorem putFlag_obs (f : Fld) (b : Bool) : (s.putFlag f b).obs = s.obs := (rfl)
@[simp] theorem putFlag_rule (f : Fld) (b : Bool) : (s.putFlag f b).rule = s.rule := (rfl)
@[simp] theorem putFlag_cfg (f : Fld) (b : Bool) : (s.putFlag f b).cfg = s.cfg := (rfl)
@[simp] theorem putFlag_ctx (f : Fld) (b : Bool) : (s.putFlag f b).ctx = s.ctx := (rfl)
@[simp] theorem putFlag_chans (f : Fld) (b : Bool) : (s.putFlag f b).chans = s.chans := (rfl)
@[simp] theorem putFlag_banks (f : Fld) (b : Bool) : (s.putFlag f b).banks = s.banks := (rfl)
@[simp] theorem putFlag_boost (f : Fld) (b : Bool) : (s.putFlag f b).boost = s.boost := (rfl)
@[simp] theorem putFlag_res (f : Fld) (b : Bool) : (s.putFlag f b).res = s.res := (rfl)
@[simp] theorem putFlag_dim (f : Fld) (b : Bool) : (s.putFlag f b).dim = s.dim := (rfl)
@[simp] theorem putFlag_mtx (f : Fld) (b : Bool) : (s.putFlag f b).mtx = s.mtx := (rfl)
@[simp] theorem putFlag_spi (f : Fld) (b : Bool) : (s.putFlag f b).spi = s.spi := (rfl)
@[simp] theorem putFlag_loops (f : Fld) (b : Bool) : (s.putFlag f b).loops = s.loops := (rfl)
@[simp] theorem putFlag_adc (f : Fld) (b : Bool) : (s.putFlag f b).adc = s.adc := (rfl)
@[simp] theorem putFlag_sto (f : Fld) (b : Bool) : (s.putFlag f b).sto = s.sto := (rfl)
@[simp] theorem putFlag_link (f : Fld) (b : Bool) : (s.putFlag f b).link = s.link := (rfl)
@[simp] theorem putFlag_ring (f : Fld) (b : Bool) : (s.putFlag f b).ring = s.ring := (rfl)
@[simp] theorem putFlag_ptp (f : Fld) (b : Bool) : (s.putFlag f b).ptp = s.ptp := (rfl)
@[simp] theorem putFlag_mbx (f : Fld) (b : Bool) : (s.putFlag f b).mbx = s.mbx := (rfl)
@[simp] theorem putFlag_sec (f : Fld) (b : Bool) : (s.putFlag f b).sec = s.sec := (rfl)
@[simp] theorem putFlag_bist (f : Fld) (b : Bool) : (s.putFlag f b).bist = s.bist := (rfl)
@[simp] theorem putFlag_bus (f : Fld) (b : Bool) : (s.putFlag f b).bus = s.bus := (rfl)
@[simp] theorem putFlag_fspi (f : Fld) (b : Bool) : (s.putFlag f b).fspi = s.fspi := (rfl)

@[simp] theorem bump_pending (a : Nat) : (s.bump a).pending = s.pending := (rfl)
@[simp] theorem bump_free (a : Nat) : (s.bump a).free = s.free := (rfl)
@[simp] theorem bump_grid (a : Nat) : (s.bump a).grid = s.grid := (rfl)
@[simp] theorem bump_time (a : Nat) : (s.bump a).time = s.time := (rfl)
@[simp] theorem bump_pins (a : Nat) : (s.bump a).pins = s.pins := (rfl)
@[simp] theorem bump_icu (a : Nat) : (s.bump a).icu = s.icu := (rfl)
@[simp] theorem bump_evt (a : Nat) : (s.bump a).evt = s.evt := (rfl)
@[simp] theorem bump_nw (a : Nat) : (s.bump a).nw = s.nw := (rfl)
@[simp] theorem bump_mem (a : Nat) : (s.bump a).mem = s.mem := (rfl)
@[simp] theorem bump_cap (a : Nat) : (s.bump a).cap = s.cap := (rfl)
@[simp] theorem bump_life (a : Nat) : (s.bump a).life = s.life := (rfl)
@[simp] theorem bump_pwr (a : Nat) : (s.bump a).pwr = s.pwr := (rfl)
@[simp] theorem bump_obs (a : Nat) : (s.bump a).obs = s.obs := (rfl)
@[simp] theorem bump_rule (a : Nat) : (s.bump a).rule = s.rule := (rfl)
@[simp] theorem bump_cfg (a : Nat) : (s.bump a).cfg = s.cfg := (rfl)
@[simp] theorem bump_ctx (a : Nat) : (s.bump a).ctx = s.ctx := (rfl)
@[simp] theorem bump_chans (a : Nat) : (s.bump a).chans = s.chans := (rfl)
@[simp] theorem bump_banks (a : Nat) : (s.bump a).banks = s.banks := (rfl)
@[simp] theorem bump_boost (a : Nat) : (s.bump a).boost = s.boost := (rfl)
@[simp] theorem bump_res (a : Nat) : (s.bump a).res = s.res := (rfl)
@[simp] theorem bump_dim (a : Nat) : (s.bump a).dim = s.dim := (rfl)
@[simp] theorem bump_mtx (a : Nat) : (s.bump a).mtx = s.mtx := (rfl)
@[simp] theorem bump_spi (a : Nat) : (s.bump a).spi = s.spi := (rfl)
@[simp] theorem bump_loops (a : Nat) : (s.bump a).loops = s.loops := (rfl)
@[simp] theorem bump_adc (a : Nat) : (s.bump a).adc = s.adc := (rfl)
@[simp] theorem bump_sto (a : Nat) : (s.bump a).sto = s.sto := (rfl)
@[simp] theorem bump_link (a : Nat) : (s.bump a).link = s.link := (rfl)
@[simp] theorem bump_ring (a : Nat) : (s.bump a).ring = s.ring := (rfl)
@[simp] theorem bump_ptp (a : Nat) : (s.bump a).ptp = s.ptp := (rfl)
@[simp] theorem bump_mbx (a : Nat) : (s.bump a).mbx = s.mbx := (rfl)
@[simp] theorem bump_sec (a : Nat) : (s.bump a).sec = s.sec := (rfl)
@[simp] theorem bump_bist (a : Nat) : (s.bump a).bist = s.bist := (rfl)
@[simp] theorem bump_bus (a : Nat) : (s.bump a).bus = s.bus := (rfl)
@[simp] theorem bump_fspi (a : Nat) : (s.bump a).fspi = s.fspi := (rfl)

@[simp] theorem memPut_pending (a : Nat) (b : Byte) : (s.memPut a b).pending = s.pending := (rfl)
@[simp] theorem memPut_regs (a : Nat) (b : Byte) : (s.memPut a b).regs = s.regs := (rfl)
@[simp] theorem memPut_free (a : Nat) (b : Byte) : (s.memPut a b).free = s.free := (rfl)
@[simp] theorem memPut_grid (a : Nat) (b : Byte) : (s.memPut a b).grid = s.grid := (rfl)
@[simp] theorem memPut_time (a : Nat) (b : Byte) : (s.memPut a b).time = s.time := (rfl)
@[simp] theorem memPut_pins (a : Nat) (b : Byte) : (s.memPut a b).pins = s.pins := (rfl)
@[simp] theorem memPut_icu (a : Nat) (b : Byte) : (s.memPut a b).icu = s.icu := (rfl)
@[simp] theorem memPut_evt (a : Nat) (b : Byte) : (s.memPut a b).evt = s.evt := (rfl)
@[simp] theorem memPut_nw (a : Nat) (b : Byte) : (s.memPut a b).nw = s.nw := (rfl)
@[simp] theorem memPut_cap (a : Nat) (b : Byte) : (s.memPut a b).cap = s.cap := (rfl)
@[simp] theorem memPut_life (a : Nat) (b : Byte) : (s.memPut a b).life = s.life := (rfl)
@[simp] theorem memPut_pwr (a : Nat) (b : Byte) : (s.memPut a b).pwr = s.pwr := (rfl)
@[simp] theorem memPut_obs (a : Nat) (b : Byte) : (s.memPut a b).obs = s.obs := (rfl)
@[simp] theorem memPut_rule (a : Nat) (b : Byte) : (s.memPut a b).rule = s.rule := (rfl)
@[simp] theorem memPut_cfg (a : Nat) (b : Byte) : (s.memPut a b).cfg = s.cfg := (rfl)
@[simp] theorem memPut_ctx (a : Nat) (b : Byte) : (s.memPut a b).ctx = s.ctx := (rfl)
@[simp] theorem memPut_chans (a : Nat) (b : Byte) : (s.memPut a b).chans = s.chans := (rfl)
@[simp] theorem memPut_banks (a : Nat) (b : Byte) : (s.memPut a b).banks = s.banks := (rfl)
@[simp] theorem memPut_boost (a : Nat) (b : Byte) : (s.memPut a b).boost = s.boost := (rfl)
@[simp] theorem memPut_res (a : Nat) (b : Byte) : (s.memPut a b).res = s.res := (rfl)
@[simp] theorem memPut_dim (a : Nat) (b : Byte) : (s.memPut a b).dim = s.dim := (rfl)
@[simp] theorem memPut_mtx (a : Nat) (b : Byte) : (s.memPut a b).mtx = s.mtx := (rfl)
@[simp] theorem memPut_spi (a : Nat) (b : Byte) : (s.memPut a b).spi = s.spi := (rfl)
@[simp] theorem memPut_loops (a : Nat) (b : Byte) : (s.memPut a b).loops = s.loops := (rfl)
@[simp] theorem memPut_adc (a : Nat) (b : Byte) : (s.memPut a b).adc = s.adc := (rfl)
@[simp] theorem memPut_sto (a : Nat) (b : Byte) : (s.memPut a b).sto = s.sto := (rfl)
@[simp] theorem memPut_link (a : Nat) (b : Byte) : (s.memPut a b).link = s.link := (rfl)
@[simp] theorem memPut_ring (a : Nat) (b : Byte) : (s.memPut a b).ring = s.ring := (rfl)
@[simp] theorem memPut_ptp (a : Nat) (b : Byte) : (s.memPut a b).ptp = s.ptp := (rfl)
@[simp] theorem memPut_mbx (a : Nat) (b : Byte) : (s.memPut a b).mbx = s.mbx := (rfl)
@[simp] theorem memPut_sec (a : Nat) (b : Byte) : (s.memPut a b).sec = s.sec := (rfl)
@[simp] theorem memPut_bist (a : Nat) (b : Byte) : (s.memPut a b).bist = s.bist := (rfl)
@[simp] theorem memPut_bus (a : Nat) (b : Byte) : (s.memPut a b).bus = s.bus := (rfl)
@[simp] theorem memPut_fspi (a : Nat) (b : Byte) : (s.memPut a b).fspi = s.fspi := (rfl)

@[simp] theorem lifeAcc_pending (o n : Nat) : (s.lifeAcc o n).pending = s.pending := (rfl)
@[simp] theorem lifeAcc_regs (o n : Nat) : (s.lifeAcc o n).regs = s.regs := (rfl)
@[simp] theorem lifeAcc_free (o n : Nat) : (s.lifeAcc o n).free = s.free := (rfl)
@[simp] theorem lifeAcc_grid (o n : Nat) : (s.lifeAcc o n).grid = s.grid := (rfl)
@[simp] theorem lifeAcc_time (o n : Nat) : (s.lifeAcc o n).time = s.time := (rfl)
@[simp] theorem lifeAcc_pins (o n : Nat) : (s.lifeAcc o n).pins = s.pins := (rfl)
@[simp] theorem lifeAcc_icu (o n : Nat) : (s.lifeAcc o n).icu = s.icu := (rfl)
@[simp] theorem lifeAcc_evt (o n : Nat) : (s.lifeAcc o n).evt = s.evt := (rfl)
@[simp] theorem lifeAcc_nw (o n : Nat) : (s.lifeAcc o n).nw = s.nw := (rfl)
@[simp] theorem lifeAcc_mem (o n : Nat) : (s.lifeAcc o n).mem = s.mem := (rfl)
@[simp] theorem lifeAcc_cap (o n : Nat) : (s.lifeAcc o n).cap = s.cap := (rfl)
@[simp] theorem lifeAcc_pwr (o n : Nat) : (s.lifeAcc o n).pwr = s.pwr := (rfl)
@[simp] theorem lifeAcc_obs (o n : Nat) : (s.lifeAcc o n).obs = s.obs := (rfl)
@[simp] theorem lifeAcc_rule (o n : Nat) : (s.lifeAcc o n).rule = s.rule := (rfl)
@[simp] theorem lifeAcc_cfg (o n : Nat) : (s.lifeAcc o n).cfg = s.cfg := (rfl)
@[simp] theorem lifeAcc_ctx (o n : Nat) : (s.lifeAcc o n).ctx = s.ctx := (rfl)
@[simp] theorem lifeAcc_chans (o n : Nat) : (s.lifeAcc o n).chans = s.chans := (rfl)
@[simp] theorem lifeAcc_banks (o n : Nat) : (s.lifeAcc o n).banks = s.banks := (rfl)
@[simp] theorem lifeAcc_boost (o n : Nat) : (s.lifeAcc o n).boost = s.boost := (rfl)
@[simp] theorem lifeAcc_res (o n : Nat) : (s.lifeAcc o n).res = s.res := (rfl)
@[simp] theorem lifeAcc_dim (o n : Nat) : (s.lifeAcc o n).dim = s.dim := (rfl)
@[simp] theorem lifeAcc_mtx (o n : Nat) : (s.lifeAcc o n).mtx = s.mtx := (rfl)
@[simp] theorem lifeAcc_spi (o n : Nat) : (s.lifeAcc o n).spi = s.spi := (rfl)
@[simp] theorem lifeAcc_loops (o n : Nat) : (s.lifeAcc o n).loops = s.loops := (rfl)
@[simp] theorem lifeAcc_adc (o n : Nat) : (s.lifeAcc o n).adc = s.adc := (rfl)
@[simp] theorem lifeAcc_sto (o n : Nat) : (s.lifeAcc o n).sto = s.sto := (rfl)
@[simp] theorem lifeAcc_link (o n : Nat) : (s.lifeAcc o n).link = s.link := (rfl)
@[simp] theorem lifeAcc_ring (o n : Nat) : (s.lifeAcc o n).ring = s.ring := (rfl)
@[simp] theorem lifeAcc_ptp (o n : Nat) : (s.lifeAcc o n).ptp = s.ptp := (rfl)
@[simp] theorem lifeAcc_mbx (o n : Nat) : (s.lifeAcc o n).mbx = s.mbx := (rfl)
@[simp] theorem lifeAcc_sec (o n : Nat) : (s.lifeAcc o n).sec = s.sec := (rfl)
@[simp] theorem lifeAcc_bist (o n : Nat) : (s.lifeAcc o n).bist = s.bist := (rfl)
@[simp] theorem lifeAcc_bus (o n : Nat) : (s.lifeAcc o n).bus = s.bus := (rfl)
@[simp] theorem lifeAcc_fspi (o n : Nat) : (s.lifeAcc o n).fspi = s.fspi := (rfl)

@[simp] theorem flash_pending (w : List (Nat × Nat)) : (s.flash w).pending = s.pending := (rfl)
@[simp] theorem flash_regs (w : List (Nat × Nat)) : (s.flash w).regs = s.regs := (rfl)
@[simp] theorem flash_free (w : List (Nat × Nat)) : (s.flash w).free = s.free := (rfl)
@[simp] theorem flash_grid (w : List (Nat × Nat)) : (s.flash w).grid = s.grid := (rfl)
@[simp] theorem flash_time (w : List (Nat × Nat)) : (s.flash w).time = s.time := (rfl)
@[simp] theorem flash_pins (w : List (Nat × Nat)) : (s.flash w).pins = s.pins := (rfl)
@[simp] theorem flash_icu (w : List (Nat × Nat)) : (s.flash w).icu = s.icu := (rfl)
@[simp] theorem flash_evt (w : List (Nat × Nat)) : (s.flash w).evt = s.evt := (rfl)
@[simp] theorem flash_nw (w : List (Nat × Nat)) : (s.flash w).nw = s.nw := (rfl)
@[simp] theorem flash_mem (w : List (Nat × Nat)) : (s.flash w).mem = s.mem := (rfl)
@[simp] theorem flash_cap (w : List (Nat × Nat)) : (s.flash w).cap = s.cap := (rfl)
@[simp] theorem flash_life (w : List (Nat × Nat)) : (s.flash w).life = s.life := (rfl)
@[simp] theorem flash_pwr (w : List (Nat × Nat)) : (s.flash w).pwr = s.pwr := (rfl)
@[simp] theorem flash_obs (w : List (Nat × Nat)) : (s.flash w).obs = s.obs := (rfl)
@[simp] theorem flash_rule (w : List (Nat × Nat)) : (s.flash w).rule = s.rule := (rfl)
@[simp] theorem flash_cfg (w : List (Nat × Nat)) : (s.flash w).cfg = s.cfg := (rfl)
@[simp] theorem flash_ctx (w : List (Nat × Nat)) : (s.flash w).ctx = s.ctx := (rfl)
@[simp] theorem flash_chans (w : List (Nat × Nat)) : (s.flash w).chans = s.chans := (rfl)
@[simp] theorem flash_banks (w : List (Nat × Nat)) : (s.flash w).banks = s.banks := (rfl)
@[simp] theorem flash_boost (w : List (Nat × Nat)) : (s.flash w).boost = s.boost := (rfl)
@[simp] theorem flash_res (w : List (Nat × Nat)) : (s.flash w).res = s.res := (rfl)
@[simp] theorem flash_dim (w : List (Nat × Nat)) : (s.flash w).dim = s.dim := (rfl)
@[simp] theorem flash_mtx (w : List (Nat × Nat)) : (s.flash w).mtx = s.mtx := (rfl)
@[simp] theorem flash_spi (w : List (Nat × Nat)) : (s.flash w).spi = s.spi := (rfl)
@[simp] theorem flash_loops (w : List (Nat × Nat)) : (s.flash w).loops = s.loops := (rfl)
@[simp] theorem flash_adc (w : List (Nat × Nat)) : (s.flash w).adc = s.adc := (rfl)
@[simp] theorem flash_sto (w : List (Nat × Nat)) : (s.flash w).sto = s.sto := (rfl)
@[simp] theorem flash_link (w : List (Nat × Nat)) : (s.flash w).link = s.link := (rfl)
@[simp] theorem flash_ring (w : List (Nat × Nat)) : (s.flash w).ring = s.ring := (rfl)
@[simp] theorem flash_ptp (w : List (Nat × Nat)) : (s.flash w).ptp = s.ptp := (rfl)
@[simp] theorem flash_mbx (w : List (Nat × Nat)) : (s.flash w).mbx = s.mbx := (rfl)
@[simp] theorem flash_sec (w : List (Nat × Nat)) : (s.flash w).sec = s.sec := (rfl)
@[simp] theorem flash_bist (w : List (Nat × Nat)) : (s.flash w).bist = s.bist := (rfl)
@[simp] theorem flash_bus (w : List (Nat × Nat)) : (s.flash w).bus = s.bus := (rfl)
@[simp] theorem takeEvent_pending (k : Nat) : (s.takeEvent k).pending = s.pending := (rfl)
@[simp] theorem takeEvent_regs (k : Nat) : (s.takeEvent k).regs = s.regs := (rfl)
@[simp] theorem takeEvent_free (k : Nat) : (s.takeEvent k).free = s.free := (rfl)
@[simp] theorem takeEvent_time (k : Nat) : (s.takeEvent k).time = s.time := (rfl)
@[simp] theorem takeEvent_pins (k : Nat) : (s.takeEvent k).pins = s.pins := (rfl)
@[simp] theorem takeEvent_icu (k : Nat) : (s.takeEvent k).icu = s.icu := (rfl)
@[simp] theorem takeEvent_evt (k : Nat) : (s.takeEvent k).evt = s.evt := (rfl)
@[simp] theorem takeEvent_nw (k : Nat) : (s.takeEvent k).nw = s.nw := (rfl)
@[simp] theorem takeEvent_mem (k : Nat) : (s.takeEvent k).mem = s.mem := (rfl)
@[simp] theorem takeEvent_cap (k : Nat) : (s.takeEvent k).cap = s.cap := (rfl)
@[simp] theorem takeEvent_life (k : Nat) : (s.takeEvent k).life = s.life := (rfl)
@[simp] theorem takeEvent_pwr (k : Nat) : (s.takeEvent k).pwr = s.pwr := (rfl)
@[simp] theorem takeEvent_obs (k : Nat) : (s.takeEvent k).obs = s.obs := (rfl)
@[simp] theorem takeEvent_rule (k : Nat) : (s.takeEvent k).rule = s.rule := (rfl)
@[simp] theorem takeEvent_cfg (k : Nat) : (s.takeEvent k).cfg = s.cfg := (rfl)
@[simp] theorem takeEvent_ctx (k : Nat) : (s.takeEvent k).ctx = s.ctx := (rfl)
@[simp] theorem takeEvent_chans (k : Nat) : (s.takeEvent k).chans = s.chans := (rfl)
@[simp] theorem takeEvent_banks (k : Nat) : (s.takeEvent k).banks = s.banks := (rfl)
@[simp] theorem takeEvent_boost (k : Nat) : (s.takeEvent k).boost = s.boost := (rfl)
@[simp] theorem takeEvent_res (k : Nat) : (s.takeEvent k).res = s.res := (rfl)
@[simp] theorem takeEvent_dim (k : Nat) : (s.takeEvent k).dim = s.dim := (rfl)
@[simp] theorem takeEvent_mtx (k : Nat) : (s.takeEvent k).mtx = s.mtx := (rfl)
@[simp] theorem takeEvent_spi (k : Nat) : (s.takeEvent k).spi = s.spi := (rfl)
@[simp] theorem takeEvent_loops (k : Nat) : (s.takeEvent k).loops = s.loops := (rfl)
@[simp] theorem takeEvent_adc (k : Nat) : (s.takeEvent k).adc = s.adc := (rfl)
@[simp] theorem takeEvent_sto (k : Nat) : (s.takeEvent k).sto = s.sto := (rfl)
@[simp] theorem takeEvent_link (k : Nat) : (s.takeEvent k).link = s.link := (rfl)
@[simp] theorem takeEvent_ring (k : Nat) : (s.takeEvent k).ring = s.ring := (rfl)
@[simp] theorem takeEvent_ptp (k : Nat) : (s.takeEvent k).ptp = s.ptp := (rfl)
@[simp] theorem takeEvent_mbx (k : Nat) : (s.takeEvent k).mbx = s.mbx := (rfl)
@[simp] theorem takeEvent_sec (k : Nat) : (s.takeEvent k).sec = s.sec := (rfl)
@[simp] theorem takeEvent_bist (k : Nat) : (s.takeEvent k).bist = s.bist := (rfl)
@[simp] theorem takeEvent_fspi (k : Nat) : (s.takeEvent k).fspi = s.fspi := (rfl)
@[simp] theorem takeEvent_bus (k : Nat) : (s.takeEvent k).bus = s.bus := (rfl)
@[simp] theorem takeEvent_tick (k : Nat) : (s.takeEvent k).grid.tick = s.grid.tick := (rfl)
@[simp] theorem takeEvent_running (k : Nat) : (s.takeEvent k).grid.running = s.grid.running := (rfl)
/-- An event taken on this tick is not untaken, and no other event is. -/
@[simp] theorem untaken_takeEvent (k : Nat) : (s.takeEvent k).untaken k = false := by simp [untaken, takeEvent]
theorem untaken_takeEvent_other {k j : Nat} (h : j ≠ k) : (s.takeEvent k).untaken j = s.untaken j := by
  simp [untaken, takeEvent, tabGet_set_other _ _ _ h]

@[simp] theorem refreshIcu_pending : (s.refreshIcu).pending = s.pending := (rfl)
@[simp] theorem refreshIcu_regs : (s.refreshIcu).regs = s.regs := (rfl)
@[simp] theorem refreshIcu_free : (s.refreshIcu).free = s.free := (rfl)
@[simp] theorem refreshIcu_grid : (s.refreshIcu).grid = s.grid := (rfl)
@[simp] theorem refreshIcu_time : (s.refreshIcu).time = s.time := (rfl)
@[simp] theorem refreshIcu_pins : (s.refreshIcu).pins = s.pins := (rfl)
@[simp] theorem refreshIcu_evt : (s.refreshIcu).evt = s.evt := (rfl)
@[simp] theorem refreshIcu_nw : (s.refreshIcu).nw = s.nw := (rfl)
@[simp] theorem refreshIcu_mem : (s.refreshIcu).mem = s.mem := (rfl)
@[simp] theorem refreshIcu_cap : (s.refreshIcu).cap = s.cap := (rfl)
@[simp] theorem refreshIcu_life : (s.refreshIcu).life = s.life := (rfl)
@[simp] theorem refreshIcu_pwr : (s.refreshIcu).pwr = s.pwr := (rfl)
@[simp] theorem refreshIcu_obs : (s.refreshIcu).obs = s.obs := (rfl)
@[simp] theorem refreshIcu_rule : (s.refreshIcu).rule = s.rule := (rfl)
@[simp] theorem refreshIcu_cfg : (s.refreshIcu).cfg = s.cfg := (rfl)
@[simp] theorem refreshIcu_ctx : (s.refreshIcu).ctx = s.ctx := (rfl)
@[simp] theorem refreshIcu_chans : (s.refreshIcu).chans = s.chans := (rfl)
@[simp] theorem refreshIcu_banks : (s.refreshIcu).banks = s.banks := (rfl)
@[simp] theorem refreshIcu_boost : (s.refreshIcu).boost = s.boost := (rfl)
@[simp] theorem refreshIcu_res : (s.refreshIcu).res = s.res := (rfl)
@[simp] theorem refreshIcu_dim : (s.refreshIcu).dim = s.dim := (rfl)
@[simp] theorem refreshIcu_mtx : (s.refreshIcu).mtx = s.mtx := (rfl)
@[simp] theorem refreshIcu_spi : (s.refreshIcu).spi = s.spi := (rfl)
@[simp] theorem refreshIcu_loops : (s.refreshIcu).loops = s.loops := (rfl)
@[simp] theorem refreshIcu_adc : (s.refreshIcu).adc = s.adc := (rfl)
@[simp] theorem refreshIcu_sto : (s.refreshIcu).sto = s.sto := (rfl)
@[simp] theorem refreshIcu_link : (s.refreshIcu).link = s.link := (rfl)
@[simp] theorem refreshIcu_ring : (s.refreshIcu).ring = s.ring := (rfl)
@[simp] theorem refreshIcu_ptp : (s.refreshIcu).ptp = s.ptp := (rfl)
@[simp] theorem refreshIcu_mbx : (s.refreshIcu).mbx = s.mbx := (rfl)
@[simp] theorem refreshIcu_sec : (s.refreshIcu).sec = s.sec := (rfl)
@[simp] theorem refreshIcu_bist : (s.refreshIcu).bist = s.bist := (rfl)
@[simp] theorem refreshIcu_bus : (s.refreshIcu).bus = s.bus := (rfl)
@[simp] theorem refreshIcu_fspi : (s.refreshIcu).fspi = s.fspi := (rfl)

@[simp] theorem pendSet_pending (k : Nat) (x : Word) : (s.pendSet k x).pending = s.pending := (rfl)
@[simp] theorem pendSet_regs (k : Nat) (x : Word) : (s.pendSet k x).regs = s.regs := (rfl)
@[simp] theorem pendSet_free (k : Nat) (x : Word) : (s.pendSet k x).free = s.free := (rfl)
@[simp] theorem pendSet_grid (k : Nat) (x : Word) : (s.pendSet k x).grid = s.grid := (rfl)
@[simp] theorem pendSet_time (k : Nat) (x : Word) : (s.pendSet k x).time = s.time := (rfl)
@[simp] theorem pendSet_pins (k : Nat) (x : Word) : (s.pendSet k x).pins = s.pins := (rfl)
@[simp] theorem pendSet_evt (k : Nat) (x : Word) : (s.pendSet k x).evt = s.evt := (rfl)
@[simp] theorem pendSet_nw (k : Nat) (x : Word) : (s.pendSet k x).nw = s.nw := (rfl)
@[simp] theorem pendSet_mem (k : Nat) (x : Word) : (s.pendSet k x).mem = s.mem := (rfl)
@[simp] theorem pendSet_cap (k : Nat) (x : Word) : (s.pendSet k x).cap = s.cap := (rfl)
@[simp] theorem pendSet_life (k : Nat) (x : Word) : (s.pendSet k x).life = s.life := (rfl)
@[simp] theorem pendSet_pwr (k : Nat) (x : Word) : (s.pendSet k x).pwr = s.pwr := (rfl)
@[simp] theorem pendSet_obs (k : Nat) (x : Word) : (s.pendSet k x).obs = s.obs := (rfl)
@[simp] theorem pendSet_rule (k : Nat) (x : Word) : (s.pendSet k x).rule = s.rule := (rfl)
@[simp] theorem pendSet_cfg (k : Nat) (x : Word) : (s.pendSet k x).cfg = s.cfg := (rfl)
@[simp] theorem pendSet_ctx (k : Nat) (x : Word) : (s.pendSet k x).ctx = s.ctx := (rfl)
@[simp] theorem pendSet_chans (k : Nat) (x : Word) : (s.pendSet k x).chans = s.chans := (rfl)
@[simp] theorem pendSet_banks (k : Nat) (x : Word) : (s.pendSet k x).banks = s.banks := (rfl)
@[simp] theorem pendSet_boost (k : Nat) (x : Word) : (s.pendSet k x).boost = s.boost := (rfl)
@[simp] theorem pendSet_res (k : Nat) (x : Word) : (s.pendSet k x).res = s.res := (rfl)
@[simp] theorem pendSet_dim (k : Nat) (x : Word) : (s.pendSet k x).dim = s.dim := (rfl)
@[simp] theorem pendSet_mtx (k : Nat) (x : Word) : (s.pendSet k x).mtx = s.mtx := (rfl)
@[simp] theorem pendSet_spi (k : Nat) (x : Word) : (s.pendSet k x).spi = s.spi := (rfl)
@[simp] theorem pendSet_loops (k : Nat) (x : Word) : (s.pendSet k x).loops = s.loops := (rfl)
@[simp] theorem pendSet_adc (k : Nat) (x : Word) : (s.pendSet k x).adc = s.adc := (rfl)
@[simp] theorem pendSet_sto (k : Nat) (x : Word) : (s.pendSet k x).sto = s.sto := (rfl)
@[simp] theorem pendSet_link (k : Nat) (x : Word) : (s.pendSet k x).link = s.link := (rfl)
@[simp] theorem pendSet_ring (k : Nat) (x : Word) : (s.pendSet k x).ring = s.ring := (rfl)
@[simp] theorem pendSet_ptp (k : Nat) (x : Word) : (s.pendSet k x).ptp = s.ptp := (rfl)
@[simp] theorem pendSet_mbx (k : Nat) (x : Word) : (s.pendSet k x).mbx = s.mbx := (rfl)
@[simp] theorem pendSet_sec (k : Nat) (x : Word) : (s.pendSet k x).sec = s.sec := (rfl)
@[simp] theorem pendSet_bist (k : Nat) (x : Word) : (s.pendSet k x).bist = s.bist := (rfl)
@[simp] theorem pendSet_bus (k : Nat) (x : Word) : (s.pendSet k x).bus = s.bus := (rfl)
@[simp] theorem pendSet_fspi (k : Nat) (x : Word) : (s.pendSet k x).fspi = s.fspi := (rfl)

@[simp] theorem pendClr_pending (k : Nat) (x : Word) : (s.pendClr k x).pending = s.pending := (rfl)
@[simp] theorem pendClr_regs (k : Nat) (x : Word) : (s.pendClr k x).regs = s.regs := (rfl)
@[simp] theorem pendClr_free (k : Nat) (x : Word) : (s.pendClr k x).free = s.free := (rfl)
@[simp] theorem pendClr_grid (k : Nat) (x : Word) : (s.pendClr k x).grid = s.grid := (rfl)
@[simp] theorem pendClr_time (k : Nat) (x : Word) : (s.pendClr k x).time = s.time := (rfl)
@[simp] theorem pendClr_pins (k : Nat) (x : Word) : (s.pendClr k x).pins = s.pins := (rfl)
@[simp] theorem pendClr_evt (k : Nat) (x : Word) : (s.pendClr k x).evt = s.evt := (rfl)
@[simp] theorem pendClr_nw (k : Nat) (x : Word) : (s.pendClr k x).nw = s.nw := (rfl)
@[simp] theorem pendClr_mem (k : Nat) (x : Word) : (s.pendClr k x).mem = s.mem := (rfl)
@[simp] theorem pendClr_cap (k : Nat) (x : Word) : (s.pendClr k x).cap = s.cap := (rfl)
@[simp] theorem pendClr_life (k : Nat) (x : Word) : (s.pendClr k x).life = s.life := (rfl)
@[simp] theorem pendClr_pwr (k : Nat) (x : Word) : (s.pendClr k x).pwr = s.pwr := (rfl)
@[simp] theorem pendClr_obs (k : Nat) (x : Word) : (s.pendClr k x).obs = s.obs := (rfl)
@[simp] theorem pendClr_rule (k : Nat) (x : Word) : (s.pendClr k x).rule = s.rule := (rfl)
@[simp] theorem pendClr_cfg (k : Nat) (x : Word) : (s.pendClr k x).cfg = s.cfg := (rfl)
@[simp] theorem pendClr_ctx (k : Nat) (x : Word) : (s.pendClr k x).ctx = s.ctx := (rfl)
@[simp] theorem pendClr_chans (k : Nat) (x : Word) : (s.pendClr k x).chans = s.chans := (rfl)
@[simp] theorem pendClr_banks (k : Nat) (x : Word) : (s.pendClr k x).banks = s.banks := (rfl)
@[simp] theorem pendClr_boost (k : Nat) (x : Word) : (s.pendClr k x).boost = s.boost := (rfl)
@[simp] theorem pendClr_res (k : Nat) (x : Word) : (s.pendClr k x).res = s.res := (rfl)
@[simp] theorem pendClr_dim (k : Nat) (x : Word) : (s.pendClr k x).dim = s.dim := (rfl)
@[simp] theorem pendClr_mtx (k : Nat) (x : Word) : (s.pendClr k x).mtx = s.mtx := (rfl)
@[simp] theorem pendClr_spi (k : Nat) (x : Word) : (s.pendClr k x).spi = s.spi := (rfl)
@[simp] theorem pendClr_loops (k : Nat) (x : Word) : (s.pendClr k x).loops = s.loops := (rfl)
@[simp] theorem pendClr_adc (k : Nat) (x : Word) : (s.pendClr k x).adc = s.adc := (rfl)
@[simp] theorem pendClr_sto (k : Nat) (x : Word) : (s.pendClr k x).sto = s.sto := (rfl)
@[simp] theorem pendClr_link (k : Nat) (x : Word) : (s.pendClr k x).link = s.link := (rfl)
@[simp] theorem pendClr_ring (k : Nat) (x : Word) : (s.pendClr k x).ring = s.ring := (rfl)
@[simp] theorem pendClr_ptp (k : Nat) (x : Word) : (s.pendClr k x).ptp = s.ptp := (rfl)
@[simp] theorem pendClr_mbx (k : Nat) (x : Word) : (s.pendClr k x).mbx = s.mbx := (rfl)
@[simp] theorem pendClr_sec (k : Nat) (x : Word) : (s.pendClr k x).sec = s.sec := (rfl)
@[simp] theorem pendClr_bist (k : Nat) (x : Word) : (s.pendClr k x).bist = s.bist := (rfl)
@[simp] theorem pendClr_bus (k : Nat) (x : Word) : (s.pendClr k x).bus = s.bus := (rfl)
@[simp] theorem pendClr_fspi (k : Nat) (x : Word) : (s.pendClr k x).fspi = s.fspi := (rfl)

@[simp] theorem setConv_pending (k : Nat) (x : Conv) : (s.setConv k x).pending = s.pending := (rfl)
@[simp] theorem setConv_regs (k : Nat) (x : Conv) : (s.setConv k x).regs = s.regs := (rfl)
@[simp] theorem setConv_free (k : Nat) (x : Conv) : (s.setConv k x).free = s.free := (rfl)
@[simp] theorem setConv_grid (k : Nat) (x : Conv) : (s.setConv k x).grid = s.grid := (rfl)
@[simp] theorem setConv_time (k : Nat) (x : Conv) : (s.setConv k x).time = s.time := (rfl)
@[simp] theorem setConv_pins (k : Nat) (x : Conv) : (s.setConv k x).pins = s.pins := (rfl)
@[simp] theorem setConv_icu (k : Nat) (x : Conv) : (s.setConv k x).icu = s.icu := (rfl)
@[simp] theorem setConv_evt (k : Nat) (x : Conv) : (s.setConv k x).evt = s.evt := (rfl)
@[simp] theorem setConv_nw (k : Nat) (x : Conv) : (s.setConv k x).nw = s.nw := (rfl)
@[simp] theorem setConv_mem (k : Nat) (x : Conv) : (s.setConv k x).mem = s.mem := (rfl)
@[simp] theorem setConv_cap (k : Nat) (x : Conv) : (s.setConv k x).cap = s.cap := (rfl)
@[simp] theorem setConv_life (k : Nat) (x : Conv) : (s.setConv k x).life = s.life := (rfl)
@[simp] theorem setConv_pwr (k : Nat) (x : Conv) : (s.setConv k x).pwr = s.pwr := (rfl)
@[simp] theorem setConv_obs (k : Nat) (x : Conv) : (s.setConv k x).obs = s.obs := (rfl)
@[simp] theorem setConv_rule (k : Nat) (x : Conv) : (s.setConv k x).rule = s.rule := (rfl)
@[simp] theorem setConv_cfg (k : Nat) (x : Conv) : (s.setConv k x).cfg = s.cfg := (rfl)
@[simp] theorem setConv_ctx (k : Nat) (x : Conv) : (s.setConv k x).ctx = s.ctx := (rfl)
@[simp] theorem setConv_chans (k : Nat) (x : Conv) : (s.setConv k x).chans = s.chans := (rfl)
@[simp] theorem setConv_banks (k : Nat) (x : Conv) : (s.setConv k x).banks = s.banks := (rfl)
@[simp] theorem setConv_boost (k : Nat) (x : Conv) : (s.setConv k x).boost = s.boost := (rfl)
@[simp] theorem setConv_res (k : Nat) (x : Conv) : (s.setConv k x).res = s.res := (rfl)
@[simp] theorem setConv_dim (k : Nat) (x : Conv) : (s.setConv k x).dim = s.dim := (rfl)
@[simp] theorem setConv_mtx (k : Nat) (x : Conv) : (s.setConv k x).mtx = s.mtx := (rfl)
@[simp] theorem setConv_spi (k : Nat) (x : Conv) : (s.setConv k x).spi = s.spi := (rfl)
@[simp] theorem setConv_loops (k : Nat) (x : Conv) : (s.setConv k x).loops = s.loops := (rfl)
@[simp] theorem setConv_sto (k : Nat) (x : Conv) : (s.setConv k x).sto = s.sto := (rfl)
@[simp] theorem setConv_link (k : Nat) (x : Conv) : (s.setConv k x).link = s.link := (rfl)
@[simp] theorem setConv_ring (k : Nat) (x : Conv) : (s.setConv k x).ring = s.ring := (rfl)
@[simp] theorem setConv_ptp (k : Nat) (x : Conv) : (s.setConv k x).ptp = s.ptp := (rfl)
@[simp] theorem setConv_mbx (k : Nat) (x : Conv) : (s.setConv k x).mbx = s.mbx := (rfl)
@[simp] theorem setConv_sec (k : Nat) (x : Conv) : (s.setConv k x).sec = s.sec := (rfl)
@[simp] theorem setConv_bist (k : Nat) (x : Conv) : (s.setConv k x).bist = s.bist := (rfl)
@[simp] theorem setConv_bus (k : Nat) (x : Conv) : (s.setConv k x).bus = s.bus := (rfl)
@[simp] theorem setConv_fspi (k : Nat) (x : Conv) : (s.setConv k x).fspi = s.fspi := (rfl)

@[simp] theorem setPair_pending (k : Nat) (x : AdcPair) : (s.setPair k x).pending = s.pending := (rfl)
@[simp] theorem setPair_regs (k : Nat) (x : AdcPair) : (s.setPair k x).regs = s.regs := (rfl)
@[simp] theorem setPair_free (k : Nat) (x : AdcPair) : (s.setPair k x).free = s.free := (rfl)
@[simp] theorem setPair_grid (k : Nat) (x : AdcPair) : (s.setPair k x).grid = s.grid := (rfl)
@[simp] theorem setPair_time (k : Nat) (x : AdcPair) : (s.setPair k x).time = s.time := (rfl)
@[simp] theorem setPair_pins (k : Nat) (x : AdcPair) : (s.setPair k x).pins = s.pins := (rfl)
@[simp] theorem setPair_icu (k : Nat) (x : AdcPair) : (s.setPair k x).icu = s.icu := (rfl)
@[simp] theorem setPair_evt (k : Nat) (x : AdcPair) : (s.setPair k x).evt = s.evt := (rfl)
@[simp] theorem setPair_nw (k : Nat) (x : AdcPair) : (s.setPair k x).nw = s.nw := (rfl)
@[simp] theorem setPair_mem (k : Nat) (x : AdcPair) : (s.setPair k x).mem = s.mem := (rfl)
@[simp] theorem setPair_cap (k : Nat) (x : AdcPair) : (s.setPair k x).cap = s.cap := (rfl)
@[simp] theorem setPair_life (k : Nat) (x : AdcPair) : (s.setPair k x).life = s.life := (rfl)
@[simp] theorem setPair_pwr (k : Nat) (x : AdcPair) : (s.setPair k x).pwr = s.pwr := (rfl)
@[simp] theorem setPair_obs (k : Nat) (x : AdcPair) : (s.setPair k x).obs = s.obs := (rfl)
@[simp] theorem setPair_rule (k : Nat) (x : AdcPair) : (s.setPair k x).rule = s.rule := (rfl)
@[simp] theorem setPair_cfg (k : Nat) (x : AdcPair) : (s.setPair k x).cfg = s.cfg := (rfl)
@[simp] theorem setPair_ctx (k : Nat) (x : AdcPair) : (s.setPair k x).ctx = s.ctx := (rfl)
@[simp] theorem setPair_chans (k : Nat) (x : AdcPair) : (s.setPair k x).chans = s.chans := (rfl)
@[simp] theorem setPair_banks (k : Nat) (x : AdcPair) : (s.setPair k x).banks = s.banks := (rfl)
@[simp] theorem setPair_boost (k : Nat) (x : AdcPair) : (s.setPair k x).boost = s.boost := (rfl)
@[simp] theorem setPair_res (k : Nat) (x : AdcPair) : (s.setPair k x).res = s.res := (rfl)
@[simp] theorem setPair_dim (k : Nat) (x : AdcPair) : (s.setPair k x).dim = s.dim := (rfl)
@[simp] theorem setPair_mtx (k : Nat) (x : AdcPair) : (s.setPair k x).mtx = s.mtx := (rfl)
@[simp] theorem setPair_spi (k : Nat) (x : AdcPair) : (s.setPair k x).spi = s.spi := (rfl)
@[simp] theorem setPair_loops (k : Nat) (x : AdcPair) : (s.setPair k x).loops = s.loops := (rfl)
@[simp] theorem setPair_sto (k : Nat) (x : AdcPair) : (s.setPair k x).sto = s.sto := (rfl)
@[simp] theorem setPair_link (k : Nat) (x : AdcPair) : (s.setPair k x).link = s.link := (rfl)
@[simp] theorem setPair_ring (k : Nat) (x : AdcPair) : (s.setPair k x).ring = s.ring := (rfl)
@[simp] theorem setPair_ptp (k : Nat) (x : AdcPair) : (s.setPair k x).ptp = s.ptp := (rfl)
@[simp] theorem setPair_mbx (k : Nat) (x : AdcPair) : (s.setPair k x).mbx = s.mbx := (rfl)
@[simp] theorem setPair_sec (k : Nat) (x : AdcPair) : (s.setPair k x).sec = s.sec := (rfl)
@[simp] theorem setPair_bist (k : Nat) (x : AdcPair) : (s.setPair k x).bist = s.bist := (rfl)
@[simp] theorem setPair_bus (k : Nat) (x : AdcPair) : (s.setPair k x).bus = s.bus := (rfl)
@[simp] theorem setPair_fspi (k : Nat) (x : AdcPair) : (s.setPair k x).fspi = s.fspi := (rfl)

@[simp] theorem setBist_pending (x : Bist) : (s.setBist x).pending = s.pending := (rfl)
@[simp] theorem setBist_regs (x : Bist) : (s.setBist x).regs = s.regs := (rfl)
@[simp] theorem setBist_free (x : Bist) : (s.setBist x).free = s.free := (rfl)
@[simp] theorem setBist_grid (x : Bist) : (s.setBist x).grid = s.grid := (rfl)
@[simp] theorem setBist_time (x : Bist) : (s.setBist x).time = s.time := (rfl)
@[simp] theorem setBist_pins (x : Bist) : (s.setBist x).pins = s.pins := (rfl)
@[simp] theorem setBist_icu (x : Bist) : (s.setBist x).icu = s.icu := (rfl)
@[simp] theorem setBist_evt (x : Bist) : (s.setBist x).evt = s.evt := (rfl)
@[simp] theorem setBist_nw (x : Bist) : (s.setBist x).nw = s.nw := (rfl)
@[simp] theorem setBist_mem (x : Bist) : (s.setBist x).mem = s.mem := (rfl)
@[simp] theorem setBist_cap (x : Bist) : (s.setBist x).cap = s.cap := (rfl)
@[simp] theorem setBist_life (x : Bist) : (s.setBist x).life = s.life := (rfl)
@[simp] theorem setBist_pwr (x : Bist) : (s.setBist x).pwr = s.pwr := (rfl)
@[simp] theorem setBist_obs (x : Bist) : (s.setBist x).obs = s.obs := (rfl)
@[simp] theorem setBist_rule (x : Bist) : (s.setBist x).rule = s.rule := (rfl)
@[simp] theorem setBist_cfg (x : Bist) : (s.setBist x).cfg = s.cfg := (rfl)
@[simp] theorem setBist_ctx (x : Bist) : (s.setBist x).ctx = s.ctx := (rfl)
@[simp] theorem setBist_chans (x : Bist) : (s.setBist x).chans = s.chans := (rfl)
@[simp] theorem setBist_banks (x : Bist) : (s.setBist x).banks = s.banks := (rfl)
@[simp] theorem setBist_boost (x : Bist) : (s.setBist x).boost = s.boost := (rfl)
@[simp] theorem setBist_res (x : Bist) : (s.setBist x).res = s.res := (rfl)
@[simp] theorem setBist_dim (x : Bist) : (s.setBist x).dim = s.dim := (rfl)
@[simp] theorem setBist_mtx (x : Bist) : (s.setBist x).mtx = s.mtx := (rfl)
@[simp] theorem setBist_spi (x : Bist) : (s.setBist x).spi = s.spi := (rfl)
@[simp] theorem setBist_loops (x : Bist) : (s.setBist x).loops = s.loops := (rfl)
@[simp] theorem setBist_adc (x : Bist) : (s.setBist x).adc = s.adc := (rfl)
@[simp] theorem setBist_sto (x : Bist) : (s.setBist x).sto = s.sto := (rfl)
@[simp] theorem setBist_link (x : Bist) : (s.setBist x).link = s.link := (rfl)
@[simp] theorem setBist_ring (x : Bist) : (s.setBist x).ring = s.ring := (rfl)
@[simp] theorem setBist_ptp (x : Bist) : (s.setBist x).ptp = s.ptp := (rfl)
@[simp] theorem setBist_mbx (x : Bist) : (s.setBist x).mbx = s.mbx := (rfl)
@[simp] theorem setBist_sec (x : Bist) : (s.setBist x).sec = s.sec := (rfl)
@[simp] theorem setBist_bus (x : Bist) : (s.setBist x).bus = s.bus := (rfl)
@[simp] theorem setBist_fspi (x : Bist) : (s.setBist x).fspi = s.fspi := (rfl)

@[simp] theorem setSubRing_pending (k : Nat) (x : CapRing) : (s.setSubRing k x).pending = s.pending := (rfl)
@[simp] theorem setSubRing_regs (k : Nat) (x : CapRing) : (s.setSubRing k x).regs = s.regs := (rfl)
@[simp] theorem setSubRing_free (k : Nat) (x : CapRing) : (s.setSubRing k x).free = s.free := (rfl)
@[simp] theorem setSubRing_grid (k : Nat) (x : CapRing) : (s.setSubRing k x).grid = s.grid := (rfl)
@[simp] theorem setSubRing_time (k : Nat) (x : CapRing) : (s.setSubRing k x).time = s.time := (rfl)
@[simp] theorem setSubRing_pins (k : Nat) (x : CapRing) : (s.setSubRing k x).pins = s.pins := (rfl)
@[simp] theorem setSubRing_icu (k : Nat) (x : CapRing) : (s.setSubRing k x).icu = s.icu := (rfl)
@[simp] theorem setSubRing_evt (k : Nat) (x : CapRing) : (s.setSubRing k x).evt = s.evt := (rfl)
@[simp] theorem setSubRing_nw (k : Nat) (x : CapRing) : (s.setSubRing k x).nw = s.nw := (rfl)
@[simp] theorem setSubRing_mem (k : Nat) (x : CapRing) : (s.setSubRing k x).mem = s.mem := (rfl)
@[simp] theorem setSubRing_life (k : Nat) (x : CapRing) : (s.setSubRing k x).life = s.life := (rfl)
@[simp] theorem setSubRing_pwr (k : Nat) (x : CapRing) : (s.setSubRing k x).pwr = s.pwr := (rfl)
@[simp] theorem setSubRing_obs (k : Nat) (x : CapRing) : (s.setSubRing k x).obs = s.obs := (rfl)
@[simp] theorem setSubRing_rule (k : Nat) (x : CapRing) : (s.setSubRing k x).rule = s.rule := (rfl)
@[simp] theorem setSubRing_cfg (k : Nat) (x : CapRing) : (s.setSubRing k x).cfg = s.cfg := (rfl)
@[simp] theorem setSubRing_ctx (k : Nat) (x : CapRing) : (s.setSubRing k x).ctx = s.ctx := (rfl)
@[simp] theorem setSubRing_chans (k : Nat) (x : CapRing) : (s.setSubRing k x).chans = s.chans := (rfl)
@[simp] theorem setSubRing_banks (k : Nat) (x : CapRing) : (s.setSubRing k x).banks = s.banks := (rfl)
@[simp] theorem setSubRing_boost (k : Nat) (x : CapRing) : (s.setSubRing k x).boost = s.boost := (rfl)
@[simp] theorem setSubRing_res (k : Nat) (x : CapRing) : (s.setSubRing k x).res = s.res := (rfl)
@[simp] theorem setSubRing_dim (k : Nat) (x : CapRing) : (s.setSubRing k x).dim = s.dim := (rfl)
@[simp] theorem setSubRing_mtx (k : Nat) (x : CapRing) : (s.setSubRing k x).mtx = s.mtx := (rfl)
@[simp] theorem setSubRing_spi (k : Nat) (x : CapRing) : (s.setSubRing k x).spi = s.spi := (rfl)
@[simp] theorem setSubRing_loops (k : Nat) (x : CapRing) : (s.setSubRing k x).loops = s.loops := (rfl)
@[simp] theorem setSubRing_adc (k : Nat) (x : CapRing) : (s.setSubRing k x).adc = s.adc := (rfl)
@[simp] theorem setSubRing_sto (k : Nat) (x : CapRing) : (s.setSubRing k x).sto = s.sto := (rfl)
@[simp] theorem setSubRing_link (k : Nat) (x : CapRing) : (s.setSubRing k x).link = s.link := (rfl)
@[simp] theorem setSubRing_ring (k : Nat) (x : CapRing) : (s.setSubRing k x).ring = s.ring := (rfl)
@[simp] theorem setSubRing_ptp (k : Nat) (x : CapRing) : (s.setSubRing k x).ptp = s.ptp := (rfl)
@[simp] theorem setSubRing_mbx (k : Nat) (x : CapRing) : (s.setSubRing k x).mbx = s.mbx := (rfl)
@[simp] theorem setSubRing_sec (k : Nat) (x : CapRing) : (s.setSubRing k x).sec = s.sec := (rfl)
@[simp] theorem setSubRing_bist (k : Nat) (x : CapRing) : (s.setSubRing k x).bist = s.bist := (rfl)
@[simp] theorem setSubRing_bus (k : Nat) (x : CapRing) : (s.setSubRing k x).bus = s.bus := (rfl)
@[simp] theorem setSubRing_fspi (k : Nat) (x : CapRing) : (s.setSubRing k x).fspi = s.fspi := (rfl)

@[simp] theorem setCfg_pending (x : Cfg) : (s.setCfg x).pending = s.pending := (rfl)
@[simp] theorem setCfg_regs (x : Cfg) : (s.setCfg x).regs = s.regs := (rfl)
@[simp] theorem setCfg_free (x : Cfg) : (s.setCfg x).free = s.free := (rfl)
@[simp] theorem setCfg_grid (x : Cfg) : (s.setCfg x).grid = s.grid := (rfl)
@[simp] theorem setCfg_time (x : Cfg) : (s.setCfg x).time = s.time := (rfl)
@[simp] theorem setCfg_pins (x : Cfg) : (s.setCfg x).pins = s.pins := (rfl)
@[simp] theorem setCfg_icu (x : Cfg) : (s.setCfg x).icu = s.icu := (rfl)
@[simp] theorem setCfg_evt (x : Cfg) : (s.setCfg x).evt = s.evt := (rfl)
@[simp] theorem setCfg_nw (x : Cfg) : (s.setCfg x).nw = s.nw := (rfl)
@[simp] theorem setCfg_mem (x : Cfg) : (s.setCfg x).mem = s.mem := (rfl)
@[simp] theorem setCfg_cap (x : Cfg) : (s.setCfg x).cap = s.cap := (rfl)
@[simp] theorem setCfg_life (x : Cfg) : (s.setCfg x).life = s.life := (rfl)
@[simp] theorem setCfg_pwr (x : Cfg) : (s.setCfg x).pwr = s.pwr := (rfl)
@[simp] theorem setCfg_obs (x : Cfg) : (s.setCfg x).obs = s.obs := (rfl)
@[simp] theorem setCfg_rule (x : Cfg) : (s.setCfg x).rule = s.rule := (rfl)
@[simp] theorem setCfg_ctx (x : Cfg) : (s.setCfg x).ctx = s.ctx := (rfl)
@[simp] theorem setCfg_chans (x : Cfg) : (s.setCfg x).chans = s.chans := (rfl)
@[simp] theorem setCfg_banks (x : Cfg) : (s.setCfg x).banks = s.banks := (rfl)
@[simp] theorem setCfg_boost (x : Cfg) : (s.setCfg x).boost = s.boost := (rfl)
@[simp] theorem setCfg_res (x : Cfg) : (s.setCfg x).res = s.res := (rfl)
@[simp] theorem setCfg_dim (x : Cfg) : (s.setCfg x).dim = s.dim := (rfl)
@[simp] theorem setCfg_mtx (x : Cfg) : (s.setCfg x).mtx = s.mtx := (rfl)
@[simp] theorem setCfg_spi (x : Cfg) : (s.setCfg x).spi = s.spi := (rfl)
@[simp] theorem setCfg_loops (x : Cfg) : (s.setCfg x).loops = s.loops := (rfl)
@[simp] theorem setCfg_adc (x : Cfg) : (s.setCfg x).adc = s.adc := (rfl)
@[simp] theorem setCfg_sto (x : Cfg) : (s.setCfg x).sto = s.sto := (rfl)
@[simp] theorem setCfg_link (x : Cfg) : (s.setCfg x).link = s.link := (rfl)
@[simp] theorem setCfg_ring (x : Cfg) : (s.setCfg x).ring = s.ring := (rfl)
@[simp] theorem setCfg_ptp (x : Cfg) : (s.setCfg x).ptp = s.ptp := (rfl)
@[simp] theorem setCfg_mbx (x : Cfg) : (s.setCfg x).mbx = s.mbx := (rfl)
@[simp] theorem setCfg_sec (x : Cfg) : (s.setCfg x).sec = s.sec := (rfl)
@[simp] theorem setCfg_bist (x : Cfg) : (s.setCfg x).bist = s.bist := (rfl)
@[simp] theorem setCfg_bus (x : Cfg) : (s.setCfg x).bus = s.bus := (rfl)
@[simp] theorem setCfg_fspi (x : Cfg) : (s.setCfg x).fspi = s.fspi := (rfl)

@[simp] theorem setCfgSlot_pending (i : Nat) (x : CfgSlot) : (s.setCfgSlot i x).pending = s.pending := (rfl)
@[simp] theorem setCfgSlot_regs (i : Nat) (x : CfgSlot) : (s.setCfgSlot i x).regs = s.regs := (rfl)
@[simp] theorem setCfgSlot_free (i : Nat) (x : CfgSlot) : (s.setCfgSlot i x).free = s.free := (rfl)
@[simp] theorem setCfgSlot_grid (i : Nat) (x : CfgSlot) : (s.setCfgSlot i x).grid = s.grid := (rfl)
@[simp] theorem setCfgSlot_time (i : Nat) (x : CfgSlot) : (s.setCfgSlot i x).time = s.time := (rfl)
@[simp] theorem setCfgSlot_pins (i : Nat) (x : CfgSlot) : (s.setCfgSlot i x).pins = s.pins := (rfl)
@[simp] theorem setCfgSlot_icu (i : Nat) (x : CfgSlot) : (s.setCfgSlot i x).icu = s.icu := (rfl)
@[simp] theorem setCfgSlot_evt (i : Nat) (x : CfgSlot) : (s.setCfgSlot i x).evt = s.evt := (rfl)
@[simp] theorem setCfgSlot_nw (i : Nat) (x : CfgSlot) : (s.setCfgSlot i x).nw = s.nw := (rfl)
@[simp] theorem setCfgSlot_mem (i : Nat) (x : CfgSlot) : (s.setCfgSlot i x).mem = s.mem := (rfl)
@[simp] theorem setCfgSlot_cap (i : Nat) (x : CfgSlot) : (s.setCfgSlot i x).cap = s.cap := (rfl)
@[simp] theorem setCfgSlot_life (i : Nat) (x : CfgSlot) : (s.setCfgSlot i x).life = s.life := (rfl)
@[simp] theorem setCfgSlot_pwr (i : Nat) (x : CfgSlot) : (s.setCfgSlot i x).pwr = s.pwr := (rfl)
@[simp] theorem setCfgSlot_obs (i : Nat) (x : CfgSlot) : (s.setCfgSlot i x).obs = s.obs := (rfl)
@[simp] theorem setCfgSlot_rule (i : Nat) (x : CfgSlot) : (s.setCfgSlot i x).rule = s.rule := (rfl)
@[simp] theorem setCfgSlot_ctx (i : Nat) (x : CfgSlot) : (s.setCfgSlot i x).ctx = s.ctx := (rfl)
@[simp] theorem setCfgSlot_chans (i : Nat) (x : CfgSlot) : (s.setCfgSlot i x).chans = s.chans := (rfl)
@[simp] theorem setCfgSlot_banks (i : Nat) (x : CfgSlot) : (s.setCfgSlot i x).banks = s.banks := (rfl)
@[simp] theorem setCfgSlot_boost (i : Nat) (x : CfgSlot) : (s.setCfgSlot i x).boost = s.boost := (rfl)
@[simp] theorem setCfgSlot_res (i : Nat) (x : CfgSlot) : (s.setCfgSlot i x).res = s.res := (rfl)
@[simp] theorem setCfgSlot_dim (i : Nat) (x : CfgSlot) : (s.setCfgSlot i x).dim = s.dim := (rfl)
@[simp] theorem setCfgSlot_mtx (i : Nat) (x : CfgSlot) : (s.setCfgSlot i x).mtx = s.mtx := (rfl)
@[simp] theorem setCfgSlot_spi (i : Nat) (x : CfgSlot) : (s.setCfgSlot i x).spi = s.spi := (rfl)
@[simp] theorem setCfgSlot_loops (i : Nat) (x : CfgSlot) : (s.setCfgSlot i x).loops = s.loops := (rfl)
@[simp] theorem setCfgSlot_adc (i : Nat) (x : CfgSlot) : (s.setCfgSlot i x).adc = s.adc := (rfl)
@[simp] theorem setCfgSlot_sto (i : Nat) (x : CfgSlot) : (s.setCfgSlot i x).sto = s.sto := (rfl)
@[simp] theorem setCfgSlot_link (i : Nat) (x : CfgSlot) : (s.setCfgSlot i x).link = s.link := (rfl)
@[simp] theorem setCfgSlot_ring (i : Nat) (x : CfgSlot) : (s.setCfgSlot i x).ring = s.ring := (rfl)
@[simp] theorem setCfgSlot_ptp (i : Nat) (x : CfgSlot) : (s.setCfgSlot i x).ptp = s.ptp := (rfl)
@[simp] theorem setCfgSlot_mbx (i : Nat) (x : CfgSlot) : (s.setCfgSlot i x).mbx = s.mbx := (rfl)
@[simp] theorem setCfgSlot_sec (i : Nat) (x : CfgSlot) : (s.setCfgSlot i x).sec = s.sec := (rfl)
@[simp] theorem setCfgSlot_bist (i : Nat) (x : CfgSlot) : (s.setCfgSlot i x).bist = s.bist := (rfl)
@[simp] theorem setCfgSlot_bus (i : Nat) (x : CfgSlot) : (s.setCfgSlot i x).bus = s.bus := (rfl)
@[simp] theorem setCfgSlot_fspi (i : Nat) (x : CfgSlot) : (s.setCfgSlot i x).fspi = s.fspi := (rfl)

@[simp] theorem setChan_pending (c : Nat) (x : Chan) : (s.setChan c x).pending = s.pending := (rfl)
@[simp] theorem setChan_regs (c : Nat) (x : Chan) : (s.setChan c x).regs = s.regs := (rfl)
@[simp] theorem setChan_free (c : Nat) (x : Chan) : (s.setChan c x).free = s.free := (rfl)
@[simp] theorem setChan_grid (c : Nat) (x : Chan) : (s.setChan c x).grid = s.grid := (rfl)
@[simp] theorem setChan_time (c : Nat) (x : Chan) : (s.setChan c x).time = s.time := (rfl)
@[simp] theorem setChan_pins (c : Nat) (x : Chan) : (s.setChan c x).pins = s.pins := (rfl)
@[simp] theorem setChan_icu (c : Nat) (x : Chan) : (s.setChan c x).icu = s.icu := (rfl)
@[simp] theorem setChan_evt (c : Nat) (x : Chan) : (s.setChan c x).evt = s.evt := (rfl)
@[simp] theorem setChan_nw (c : Nat) (x : Chan) : (s.setChan c x).nw = s.nw := (rfl)
@[simp] theorem setChan_mem (c : Nat) (x : Chan) : (s.setChan c x).mem = s.mem := (rfl)
@[simp] theorem setChan_cap (c : Nat) (x : Chan) : (s.setChan c x).cap = s.cap := (rfl)
@[simp] theorem setChan_life (c : Nat) (x : Chan) : (s.setChan c x).life = s.life := (rfl)
@[simp] theorem setChan_pwr (c : Nat) (x : Chan) : (s.setChan c x).pwr = s.pwr := (rfl)
@[simp] theorem setChan_obs (c : Nat) (x : Chan) : (s.setChan c x).obs = s.obs := (rfl)
@[simp] theorem setChan_rule (c : Nat) (x : Chan) : (s.setChan c x).rule = s.rule := (rfl)
@[simp] theorem setChan_cfg (c : Nat) (x : Chan) : (s.setChan c x).cfg = s.cfg := (rfl)
@[simp] theorem setChan_ctx (c : Nat) (x : Chan) : (s.setChan c x).ctx = s.ctx := (rfl)
@[simp] theorem setChan_banks (c : Nat) (x : Chan) : (s.setChan c x).banks = s.banks := (rfl)
@[simp] theorem setChan_boost (c : Nat) (x : Chan) : (s.setChan c x).boost = s.boost := (rfl)
@[simp] theorem setChan_res (c : Nat) (x : Chan) : (s.setChan c x).res = s.res := (rfl)
@[simp] theorem setChan_dim (c : Nat) (x : Chan) : (s.setChan c x).dim = s.dim := (rfl)
@[simp] theorem setChan_mtx (c : Nat) (x : Chan) : (s.setChan c x).mtx = s.mtx := (rfl)
@[simp] theorem setChan_spi (c : Nat) (x : Chan) : (s.setChan c x).spi = s.spi := (rfl)
@[simp] theorem setChan_loops (c : Nat) (x : Chan) : (s.setChan c x).loops = s.loops := (rfl)
@[simp] theorem setChan_adc (c : Nat) (x : Chan) : (s.setChan c x).adc = s.adc := (rfl)
@[simp] theorem setChan_sto (c : Nat) (x : Chan) : (s.setChan c x).sto = s.sto := (rfl)
@[simp] theorem setChan_link (c : Nat) (x : Chan) : (s.setChan c x).link = s.link := (rfl)
@[simp] theorem setChan_ring (c : Nat) (x : Chan) : (s.setChan c x).ring = s.ring := (rfl)
@[simp] theorem setChan_ptp (c : Nat) (x : Chan) : (s.setChan c x).ptp = s.ptp := (rfl)
@[simp] theorem setChan_mbx (c : Nat) (x : Chan) : (s.setChan c x).mbx = s.mbx := (rfl)
@[simp] theorem setChan_sec (c : Nat) (x : Chan) : (s.setChan c x).sec = s.sec := (rfl)
@[simp] theorem setChan_bist (c : Nat) (x : Chan) : (s.setChan c x).bist = s.bist := (rfl)
@[simp] theorem setChan_bus (c : Nat) (x : Chan) : (s.setChan c x).bus = s.bus := (rfl)
@[simp] theorem setChan_fspi (c : Nat) (x : Chan) : (s.setChan c x).fspi = s.fspi := (rfl)

@[simp] theorem setBank_pending (n : Nat) (x : Bank) : (s.setBank n x).pending = s.pending := (rfl)
@[simp] theorem setBank_regs (n : Nat) (x : Bank) : (s.setBank n x).regs = s.regs := (rfl)
@[simp] theorem setBank_free (n : Nat) (x : Bank) : (s.setBank n x).free = s.free := (rfl)
@[simp] theorem setBank_grid (n : Nat) (x : Bank) : (s.setBank n x).grid = s.grid := (rfl)
@[simp] theorem setBank_time (n : Nat) (x : Bank) : (s.setBank n x).time = s.time := (rfl)
@[simp] theorem setBank_pins (n : Nat) (x : Bank) : (s.setBank n x).pins = s.pins := (rfl)
@[simp] theorem setBank_icu (n : Nat) (x : Bank) : (s.setBank n x).icu = s.icu := (rfl)
@[simp] theorem setBank_evt (n : Nat) (x : Bank) : (s.setBank n x).evt = s.evt := (rfl)
@[simp] theorem setBank_nw (n : Nat) (x : Bank) : (s.setBank n x).nw = s.nw := (rfl)
@[simp] theorem setBank_mem (n : Nat) (x : Bank) : (s.setBank n x).mem = s.mem := (rfl)
@[simp] theorem setBank_cap (n : Nat) (x : Bank) : (s.setBank n x).cap = s.cap := (rfl)
@[simp] theorem setBank_life (n : Nat) (x : Bank) : (s.setBank n x).life = s.life := (rfl)
@[simp] theorem setBank_pwr (n : Nat) (x : Bank) : (s.setBank n x).pwr = s.pwr := (rfl)
@[simp] theorem setBank_obs (n : Nat) (x : Bank) : (s.setBank n x).obs = s.obs := (rfl)
@[simp] theorem setBank_rule (n : Nat) (x : Bank) : (s.setBank n x).rule = s.rule := (rfl)
@[simp] theorem setBank_cfg (n : Nat) (x : Bank) : (s.setBank n x).cfg = s.cfg := (rfl)
@[simp] theorem setBank_ctx (n : Nat) (x : Bank) : (s.setBank n x).ctx = s.ctx := (rfl)
@[simp] theorem setBank_chans (n : Nat) (x : Bank) : (s.setBank n x).chans = s.chans := (rfl)
@[simp] theorem setBank_boost (n : Nat) (x : Bank) : (s.setBank n x).boost = s.boost := (rfl)
@[simp] theorem setBank_res (n : Nat) (x : Bank) : (s.setBank n x).res = s.res := (rfl)
@[simp] theorem setBank_dim (n : Nat) (x : Bank) : (s.setBank n x).dim = s.dim := (rfl)
@[simp] theorem setBank_mtx (n : Nat) (x : Bank) : (s.setBank n x).mtx = s.mtx := (rfl)
@[simp] theorem setBank_spi (n : Nat) (x : Bank) : (s.setBank n x).spi = s.spi := (rfl)
@[simp] theorem setBank_loops (n : Nat) (x : Bank) : (s.setBank n x).loops = s.loops := (rfl)
@[simp] theorem setBank_adc (n : Nat) (x : Bank) : (s.setBank n x).adc = s.adc := (rfl)
@[simp] theorem setBank_sto (n : Nat) (x : Bank) : (s.setBank n x).sto = s.sto := (rfl)
@[simp] theorem setBank_link (n : Nat) (x : Bank) : (s.setBank n x).link = s.link := (rfl)
@[simp] theorem setBank_ring (n : Nat) (x : Bank) : (s.setBank n x).ring = s.ring := (rfl)
@[simp] theorem setBank_ptp (n : Nat) (x : Bank) : (s.setBank n x).ptp = s.ptp := (rfl)
@[simp] theorem setBank_mbx (n : Nat) (x : Bank) : (s.setBank n x).mbx = s.mbx := (rfl)
@[simp] theorem setBank_sec (n : Nat) (x : Bank) : (s.setBank n x).sec = s.sec := (rfl)
@[simp] theorem setBank_bist (n : Nat) (x : Bank) : (s.setBank n x).bist = s.bist := (rfl)
@[simp] theorem setBank_bus (n : Nat) (x : Bank) : (s.setBank n x).bus = s.bus := (rfl)
@[simp] theorem setBank_fspi (n : Nat) (x : Bank) : (s.setBank n x).fspi = s.fspi := (rfl)

@[simp] theorem setAsp_pending (n : Nat) (x : Asp) : (s.setAsp n x).pending = s.pending := (rfl)
@[simp] theorem setAsp_regs (n : Nat) (x : Asp) : (s.setAsp n x).regs = s.regs := (rfl)
@[simp] theorem setAsp_free (n : Nat) (x : Asp) : (s.setAsp n x).free = s.free := (rfl)
@[simp] theorem setAsp_grid (n : Nat) (x : Asp) : (s.setAsp n x).grid = s.grid := (rfl)
@[simp] theorem setAsp_time (n : Nat) (x : Asp) : (s.setAsp n x).time = s.time := (rfl)
@[simp] theorem setAsp_pins (n : Nat) (x : Asp) : (s.setAsp n x).pins = s.pins := (rfl)
@[simp] theorem setAsp_icu (n : Nat) (x : Asp) : (s.setAsp n x).icu = s.icu := (rfl)
@[simp] theorem setAsp_evt (n : Nat) (x : Asp) : (s.setAsp n x).evt = s.evt := (rfl)
@[simp] theorem setAsp_nw (n : Nat) (x : Asp) : (s.setAsp n x).nw = s.nw := (rfl)
@[simp] theorem setAsp_mem (n : Nat) (x : Asp) : (s.setAsp n x).mem = s.mem := (rfl)
@[simp] theorem setAsp_cap (n : Nat) (x : Asp) : (s.setAsp n x).cap = s.cap := (rfl)
@[simp] theorem setAsp_life (n : Nat) (x : Asp) : (s.setAsp n x).life = s.life := (rfl)
@[simp] theorem setAsp_pwr (n : Nat) (x : Asp) : (s.setAsp n x).pwr = s.pwr := (rfl)
@[simp] theorem setAsp_obs (n : Nat) (x : Asp) : (s.setAsp n x).obs = s.obs := (rfl)
@[simp] theorem setAsp_rule (n : Nat) (x : Asp) : (s.setAsp n x).rule = s.rule := (rfl)
@[simp] theorem setAsp_cfg (n : Nat) (x : Asp) : (s.setAsp n x).cfg = s.cfg := (rfl)
@[simp] theorem setAsp_ctx (n : Nat) (x : Asp) : (s.setAsp n x).ctx = s.ctx := (rfl)
@[simp] theorem setAsp_chans (n : Nat) (x : Asp) : (s.setAsp n x).chans = s.chans := (rfl)
@[simp] theorem setAsp_banks (n : Nat) (x : Asp) : (s.setAsp n x).banks = s.banks := (rfl)
@[simp] theorem setAsp_boost (n : Nat) (x : Asp) : (s.setAsp n x).boost = s.boost := (rfl)
@[simp] theorem setAsp_dim (n : Nat) (x : Asp) : (s.setAsp n x).dim = s.dim := (rfl)
@[simp] theorem setAsp_mtx (n : Nat) (x : Asp) : (s.setAsp n x).mtx = s.mtx := (rfl)
@[simp] theorem setAsp_spi (n : Nat) (x : Asp) : (s.setAsp n x).spi = s.spi := (rfl)
@[simp] theorem setAsp_loops (n : Nat) (x : Asp) : (s.setAsp n x).loops = s.loops := (rfl)
@[simp] theorem setAsp_adc (n : Nat) (x : Asp) : (s.setAsp n x).adc = s.adc := (rfl)
@[simp] theorem setAsp_sto (n : Nat) (x : Asp) : (s.setAsp n x).sto = s.sto := (rfl)
@[simp] theorem setAsp_link (n : Nat) (x : Asp) : (s.setAsp n x).link = s.link := (rfl)
@[simp] theorem setAsp_ring (n : Nat) (x : Asp) : (s.setAsp n x).ring = s.ring := (rfl)
@[simp] theorem setAsp_ptp (n : Nat) (x : Asp) : (s.setAsp n x).ptp = s.ptp := (rfl)
@[simp] theorem setAsp_mbx (n : Nat) (x : Asp) : (s.setAsp n x).mbx = s.mbx := (rfl)
@[simp] theorem setAsp_sec (n : Nat) (x : Asp) : (s.setAsp n x).sec = s.sec := (rfl)
@[simp] theorem setAsp_bist (n : Nat) (x : Asp) : (s.setAsp n x).bist = s.bist := (rfl)
@[simp] theorem setAsp_bus (n : Nat) (x : Asp) : (s.setAsp n x).bus = s.bus := (rfl)
@[simp] theorem setAsp_fspi (n : Nat) (x : Asp) : (s.setAsp n x).fspi = s.fspi := (rfl)

@[simp] theorem setLed_pending (e : Nat) (x : Led) : (s.setLed e x).pending = s.pending := (rfl)
@[simp] theorem setLed_regs (e : Nat) (x : Led) : (s.setLed e x).regs = s.regs := (rfl)
@[simp] theorem setLed_free (e : Nat) (x : Led) : (s.setLed e x).free = s.free := (rfl)
@[simp] theorem setLed_grid (e : Nat) (x : Led) : (s.setLed e x).grid = s.grid := (rfl)
@[simp] theorem setLed_time (e : Nat) (x : Led) : (s.setLed e x).time = s.time := (rfl)
@[simp] theorem setLed_pins (e : Nat) (x : Led) : (s.setLed e x).pins = s.pins := (rfl)
@[simp] theorem setLed_icu (e : Nat) (x : Led) : (s.setLed e x).icu = s.icu := (rfl)
@[simp] theorem setLed_evt (e : Nat) (x : Led) : (s.setLed e x).evt = s.evt := (rfl)
@[simp] theorem setLed_nw (e : Nat) (x : Led) : (s.setLed e x).nw = s.nw := (rfl)
@[simp] theorem setLed_mem (e : Nat) (x : Led) : (s.setLed e x).mem = s.mem := (rfl)
@[simp] theorem setLed_cap (e : Nat) (x : Led) : (s.setLed e x).cap = s.cap := (rfl)
@[simp] theorem setLed_life (e : Nat) (x : Led) : (s.setLed e x).life = s.life := (rfl)
@[simp] theorem setLed_pwr (e : Nat) (x : Led) : (s.setLed e x).pwr = s.pwr := (rfl)
@[simp] theorem setLed_obs (e : Nat) (x : Led) : (s.setLed e x).obs = s.obs := (rfl)
@[simp] theorem setLed_rule (e : Nat) (x : Led) : (s.setLed e x).rule = s.rule := (rfl)
@[simp] theorem setLed_cfg (e : Nat) (x : Led) : (s.setLed e x).cfg = s.cfg := (rfl)
@[simp] theorem setLed_ctx (e : Nat) (x : Led) : (s.setLed e x).ctx = s.ctx := (rfl)
@[simp] theorem setLed_chans (e : Nat) (x : Led) : (s.setLed e x).chans = s.chans := (rfl)
@[simp] theorem setLed_banks (e : Nat) (x : Led) : (s.setLed e x).banks = s.banks := (rfl)
@[simp] theorem setLed_boost (e : Nat) (x : Led) : (s.setLed e x).boost = s.boost := (rfl)
@[simp] theorem setLed_res (e : Nat) (x : Led) : (s.setLed e x).res = s.res := (rfl)
@[simp] theorem setLed_dim (e : Nat) (x : Led) : (s.setLed e x).dim = s.dim := (rfl)
@[simp] theorem setLed_spi (e : Nat) (x : Led) : (s.setLed e x).spi = s.spi := (rfl)
@[simp] theorem setLed_loops (e : Nat) (x : Led) : (s.setLed e x).loops = s.loops := (rfl)
@[simp] theorem setLed_adc (e : Nat) (x : Led) : (s.setLed e x).adc = s.adc := (rfl)
@[simp] theorem setLed_sto (e : Nat) (x : Led) : (s.setLed e x).sto = s.sto := (rfl)
@[simp] theorem setLed_link (e : Nat) (x : Led) : (s.setLed e x).link = s.link := (rfl)
@[simp] theorem setLed_ring (e : Nat) (x : Led) : (s.setLed e x).ring = s.ring := (rfl)
@[simp] theorem setLed_ptp (e : Nat) (x : Led) : (s.setLed e x).ptp = s.ptp := (rfl)
@[simp] theorem setLed_mbx (e : Nat) (x : Led) : (s.setLed e x).mbx = s.mbx := (rfl)
@[simp] theorem setLed_sec (e : Nat) (x : Led) : (s.setLed e x).sec = s.sec := (rfl)
@[simp] theorem setLed_bist (e : Nat) (x : Led) : (s.setLed e x).bist = s.bist := (rfl)
@[simp] theorem setLed_bus (e : Nat) (x : Led) : (s.setLed e x).bus = s.bus := (rfl)
@[simp] theorem setLed_fspi (e : Nat) (x : Led) : (s.setLed e x).fspi = s.fspi := (rfl)

@[simp] theorem setNw_pending (x : Nightwatch) : (s.setNw x).pending = s.pending := (rfl)
@[simp] theorem setNw_regs (x : Nightwatch) : (s.setNw x).regs = s.regs := (rfl)
@[simp] theorem setNw_free (x : Nightwatch) : (s.setNw x).free = s.free := (rfl)
@[simp] theorem setNw_grid (x : Nightwatch) : (s.setNw x).grid = s.grid := (rfl)
@[simp] theorem setNw_time (x : Nightwatch) : (s.setNw x).time = s.time := (rfl)
@[simp] theorem setNw_pins (x : Nightwatch) : (s.setNw x).pins = s.pins := (rfl)
@[simp] theorem setNw_icu (x : Nightwatch) : (s.setNw x).icu = s.icu := (rfl)
@[simp] theorem setNw_evt (x : Nightwatch) : (s.setNw x).evt = s.evt := (rfl)
@[simp] theorem setNw_mem (x : Nightwatch) : (s.setNw x).mem = s.mem := (rfl)
@[simp] theorem setNw_cap (x : Nightwatch) : (s.setNw x).cap = s.cap := (rfl)
@[simp] theorem setNw_life (x : Nightwatch) : (s.setNw x).life = s.life := (rfl)
@[simp] theorem setNw_pwr (x : Nightwatch) : (s.setNw x).pwr = s.pwr := (rfl)
@[simp] theorem setNw_obs (x : Nightwatch) : (s.setNw x).obs = s.obs := (rfl)
@[simp] theorem setNw_rule (x : Nightwatch) : (s.setNw x).rule = s.rule := (rfl)
@[simp] theorem setNw_cfg (x : Nightwatch) : (s.setNw x).cfg = s.cfg := (rfl)
@[simp] theorem setNw_ctx (x : Nightwatch) : (s.setNw x).ctx = s.ctx := (rfl)
@[simp] theorem setNw_chans (x : Nightwatch) : (s.setNw x).chans = s.chans := (rfl)
@[simp] theorem setNw_banks (x : Nightwatch) : (s.setNw x).banks = s.banks := (rfl)
@[simp] theorem setNw_boost (x : Nightwatch) : (s.setNw x).boost = s.boost := (rfl)
@[simp] theorem setNw_res (x : Nightwatch) : (s.setNw x).res = s.res := (rfl)
@[simp] theorem setNw_dim (x : Nightwatch) : (s.setNw x).dim = s.dim := (rfl)
@[simp] theorem setNw_mtx (x : Nightwatch) : (s.setNw x).mtx = s.mtx := (rfl)
@[simp] theorem setNw_spi (x : Nightwatch) : (s.setNw x).spi = s.spi := (rfl)
@[simp] theorem setNw_loops (x : Nightwatch) : (s.setNw x).loops = s.loops := (rfl)
@[simp] theorem setNw_adc (x : Nightwatch) : (s.setNw x).adc = s.adc := (rfl)
@[simp] theorem setNw_sto (x : Nightwatch) : (s.setNw x).sto = s.sto := (rfl)
@[simp] theorem setNw_link (x : Nightwatch) : (s.setNw x).link = s.link := (rfl)
@[simp] theorem setNw_ring (x : Nightwatch) : (s.setNw x).ring = s.ring := (rfl)
@[simp] theorem setNw_ptp (x : Nightwatch) : (s.setNw x).ptp = s.ptp := (rfl)
@[simp] theorem setNw_mbx (x : Nightwatch) : (s.setNw x).mbx = s.mbx := (rfl)
@[simp] theorem setNw_sec (x : Nightwatch) : (s.setNw x).sec = s.sec := (rfl)
@[simp] theorem setNw_bist (x : Nightwatch) : (s.setNw x).bist = s.bist := (rfl)
@[simp] theorem setNw_bus (x : Nightwatch) : (s.setNw x).bus = s.bus := (rfl)
@[simp] theorem setNw_fspi (x : Nightwatch) : (s.setNw x).fspi = s.fspi := (rfl)

@[simp] theorem setLink_pending (x : Link) : (s.setLink x).pending = s.pending := (rfl)
@[simp] theorem setLink_regs (x : Link) : (s.setLink x).regs = s.regs := (rfl)
@[simp] theorem setLink_free (x : Link) : (s.setLink x).free = s.free := (rfl)
@[simp] theorem setLink_grid (x : Link) : (s.setLink x).grid = s.grid := (rfl)
@[simp] theorem setLink_time (x : Link) : (s.setLink x).time = s.time := (rfl)
@[simp] theorem setLink_pins (x : Link) : (s.setLink x).pins = s.pins := (rfl)
@[simp] theorem setLink_icu (x : Link) : (s.setLink x).icu = s.icu := (rfl)
@[simp] theorem setLink_evt (x : Link) : (s.setLink x).evt = s.evt := (rfl)
@[simp] theorem setLink_nw (x : Link) : (s.setLink x).nw = s.nw := (rfl)
@[simp] theorem setLink_mem (x : Link) : (s.setLink x).mem = s.mem := (rfl)
@[simp] theorem setLink_cap (x : Link) : (s.setLink x).cap = s.cap := (rfl)
@[simp] theorem setLink_life (x : Link) : (s.setLink x).life = s.life := (rfl)
@[simp] theorem setLink_pwr (x : Link) : (s.setLink x).pwr = s.pwr := (rfl)
@[simp] theorem setLink_obs (x : Link) : (s.setLink x).obs = s.obs := (rfl)
@[simp] theorem setLink_rule (x : Link) : (s.setLink x).rule = s.rule := (rfl)
@[simp] theorem setLink_cfg (x : Link) : (s.setLink x).cfg = s.cfg := (rfl)
@[simp] theorem setLink_ctx (x : Link) : (s.setLink x).ctx = s.ctx := (rfl)
@[simp] theorem setLink_chans (x : Link) : (s.setLink x).chans = s.chans := (rfl)
@[simp] theorem setLink_banks (x : Link) : (s.setLink x).banks = s.banks := (rfl)
@[simp] theorem setLink_boost (x : Link) : (s.setLink x).boost = s.boost := (rfl)
@[simp] theorem setLink_res (x : Link) : (s.setLink x).res = s.res := (rfl)
@[simp] theorem setLink_dim (x : Link) : (s.setLink x).dim = s.dim := (rfl)
@[simp] theorem setLink_mtx (x : Link) : (s.setLink x).mtx = s.mtx := (rfl)
@[simp] theorem setLink_spi (x : Link) : (s.setLink x).spi = s.spi := (rfl)
@[simp] theorem setLink_loops (x : Link) : (s.setLink x).loops = s.loops := (rfl)
@[simp] theorem setLink_adc (x : Link) : (s.setLink x).adc = s.adc := (rfl)
@[simp] theorem setLink_sto (x : Link) : (s.setLink x).sto = s.sto := (rfl)
@[simp] theorem setLink_ring (x : Link) : (s.setLink x).ring = s.ring := (rfl)
@[simp] theorem setLink_ptp (x : Link) : (s.setLink x).ptp = s.ptp := (rfl)
@[simp] theorem setLink_mbx (x : Link) : (s.setLink x).mbx = s.mbx := (rfl)
@[simp] theorem setLink_sec (x : Link) : (s.setLink x).sec = s.sec := (rfl)
@[simp] theorem setLink_bist (x : Link) : (s.setLink x).bist = s.bist := (rfl)
@[simp] theorem setLink_bus (x : Link) : (s.setLink x).bus = s.bus := (rfl)
@[simp] theorem setLink_fspi (x : Link) : (s.setLink x).fspi = s.fspi := (rfl)

@[simp] theorem setLoop_pending (n : Nat) (x : LoopSlot) : (s.setLoop n x).pending = s.pending := (rfl)
@[simp] theorem setLoop_regs (n : Nat) (x : LoopSlot) : (s.setLoop n x).regs = s.regs := (rfl)
@[simp] theorem setLoop_free (n : Nat) (x : LoopSlot) : (s.setLoop n x).free = s.free := (rfl)
@[simp] theorem setLoop_grid (n : Nat) (x : LoopSlot) : (s.setLoop n x).grid = s.grid := (rfl)
@[simp] theorem setLoop_time (n : Nat) (x : LoopSlot) : (s.setLoop n x).time = s.time := (rfl)
@[simp] theorem setLoop_pins (n : Nat) (x : LoopSlot) : (s.setLoop n x).pins = s.pins := (rfl)
@[simp] theorem setLoop_icu (n : Nat) (x : LoopSlot) : (s.setLoop n x).icu = s.icu := (rfl)
@[simp] theorem setLoop_evt (n : Nat) (x : LoopSlot) : (s.setLoop n x).evt = s.evt := (rfl)
@[simp] theorem setLoop_nw (n : Nat) (x : LoopSlot) : (s.setLoop n x).nw = s.nw := (rfl)
@[simp] theorem setLoop_mem (n : Nat) (x : LoopSlot) : (s.setLoop n x).mem = s.mem := (rfl)
@[simp] theorem setLoop_cap (n : Nat) (x : LoopSlot) : (s.setLoop n x).cap = s.cap := (rfl)
@[simp] theorem setLoop_life (n : Nat) (x : LoopSlot) : (s.setLoop n x).life = s.life := (rfl)
@[simp] theorem setLoop_pwr (n : Nat) (x : LoopSlot) : (s.setLoop n x).pwr = s.pwr := (rfl)
@[simp] theorem setLoop_obs (n : Nat) (x : LoopSlot) : (s.setLoop n x).obs = s.obs := (rfl)
@[simp] theorem setLoop_rule (n : Nat) (x : LoopSlot) : (s.setLoop n x).rule = s.rule := (rfl)
@[simp] theorem setLoop_cfg (n : Nat) (x : LoopSlot) : (s.setLoop n x).cfg = s.cfg := (rfl)
@[simp] theorem setLoop_ctx (n : Nat) (x : LoopSlot) : (s.setLoop n x).ctx = s.ctx := (rfl)
@[simp] theorem setLoop_chans (n : Nat) (x : LoopSlot) : (s.setLoop n x).chans = s.chans := (rfl)
@[simp] theorem setLoop_banks (n : Nat) (x : LoopSlot) : (s.setLoop n x).banks = s.banks := (rfl)
@[simp] theorem setLoop_boost (n : Nat) (x : LoopSlot) : (s.setLoop n x).boost = s.boost := (rfl)
@[simp] theorem setLoop_res (n : Nat) (x : LoopSlot) : (s.setLoop n x).res = s.res := (rfl)
@[simp] theorem setLoop_dim (n : Nat) (x : LoopSlot) : (s.setLoop n x).dim = s.dim := (rfl)
@[simp] theorem setLoop_mtx (n : Nat) (x : LoopSlot) : (s.setLoop n x).mtx = s.mtx := (rfl)
@[simp] theorem setLoop_spi (n : Nat) (x : LoopSlot) : (s.setLoop n x).spi = s.spi := (rfl)
@[simp] theorem setLoop_adc (n : Nat) (x : LoopSlot) : (s.setLoop n x).adc = s.adc := (rfl)
@[simp] theorem setLoop_sto (n : Nat) (x : LoopSlot) : (s.setLoop n x).sto = s.sto := (rfl)
@[simp] theorem setLoop_link (n : Nat) (x : LoopSlot) : (s.setLoop n x).link = s.link := (rfl)
@[simp] theorem setLoop_ring (n : Nat) (x : LoopSlot) : (s.setLoop n x).ring = s.ring := (rfl)
@[simp] theorem setLoop_ptp (n : Nat) (x : LoopSlot) : (s.setLoop n x).ptp = s.ptp := (rfl)
@[simp] theorem setLoop_mbx (n : Nat) (x : LoopSlot) : (s.setLoop n x).mbx = s.mbx := (rfl)
@[simp] theorem setLoop_sec (n : Nat) (x : LoopSlot) : (s.setLoop n x).sec = s.sec := (rfl)
@[simp] theorem setLoop_bist (n : Nat) (x : LoopSlot) : (s.setLoop n x).bist = s.bist := (rfl)
@[simp] theorem setLoop_bus (n : Nat) (x : LoopSlot) : (s.setLoop n x).bus = s.bus := (rfl)
@[simp] theorem setLoop_fspi (n : Nat) (x : LoopSlot) : (s.setLoop n x).fspi = s.fspi := (rfl)

@[simp] theorem setMbx_pending (x : Mbx) : (s.setMbx x).pending = s.pending := (rfl)
@[simp] theorem setMbx_regs (x : Mbx) : (s.setMbx x).regs = s.regs := (rfl)
@[simp] theorem setMbx_free (x : Mbx) : (s.setMbx x).free = s.free := (rfl)
@[simp] theorem setMbx_grid (x : Mbx) : (s.setMbx x).grid = s.grid := (rfl)
@[simp] theorem setMbx_time (x : Mbx) : (s.setMbx x).time = s.time := (rfl)
@[simp] theorem setMbx_pins (x : Mbx) : (s.setMbx x).pins = s.pins := (rfl)
@[simp] theorem setMbx_icu (x : Mbx) : (s.setMbx x).icu = s.icu := (rfl)
@[simp] theorem setMbx_evt (x : Mbx) : (s.setMbx x).evt = s.evt := (rfl)
@[simp] theorem setMbx_nw (x : Mbx) : (s.setMbx x).nw = s.nw := (rfl)
@[simp] theorem setMbx_mem (x : Mbx) : (s.setMbx x).mem = s.mem := (rfl)
@[simp] theorem setMbx_cap (x : Mbx) : (s.setMbx x).cap = s.cap := (rfl)
@[simp] theorem setMbx_life (x : Mbx) : (s.setMbx x).life = s.life := (rfl)
@[simp] theorem setMbx_pwr (x : Mbx) : (s.setMbx x).pwr = s.pwr := (rfl)
@[simp] theorem setMbx_obs (x : Mbx) : (s.setMbx x).obs = s.obs := (rfl)
@[simp] theorem setMbx_rule (x : Mbx) : (s.setMbx x).rule = s.rule := (rfl)
@[simp] theorem setMbx_cfg (x : Mbx) : (s.setMbx x).cfg = s.cfg := (rfl)
@[simp] theorem setMbx_ctx (x : Mbx) : (s.setMbx x).ctx = s.ctx := (rfl)
@[simp] theorem setMbx_chans (x : Mbx) : (s.setMbx x).chans = s.chans := (rfl)
@[simp] theorem setMbx_banks (x : Mbx) : (s.setMbx x).banks = s.banks := (rfl)
@[simp] theorem setMbx_boost (x : Mbx) : (s.setMbx x).boost = s.boost := (rfl)
@[simp] theorem setMbx_res (x : Mbx) : (s.setMbx x).res = s.res := (rfl)
@[simp] theorem setMbx_dim (x : Mbx) : (s.setMbx x).dim = s.dim := (rfl)
@[simp] theorem setMbx_mtx (x : Mbx) : (s.setMbx x).mtx = s.mtx := (rfl)
@[simp] theorem setMbx_spi (x : Mbx) : (s.setMbx x).spi = s.spi := (rfl)
@[simp] theorem setMbx_loops (x : Mbx) : (s.setMbx x).loops = s.loops := (rfl)
@[simp] theorem setMbx_adc (x : Mbx) : (s.setMbx x).adc = s.adc := (rfl)
@[simp] theorem setMbx_sto (x : Mbx) : (s.setMbx x).sto = s.sto := (rfl)
@[simp] theorem setMbx_link (x : Mbx) : (s.setMbx x).link = s.link := (rfl)
@[simp] theorem setMbx_ring (x : Mbx) : (s.setMbx x).ring = s.ring := (rfl)
@[simp] theorem setMbx_ptp (x : Mbx) : (s.setMbx x).ptp = s.ptp := (rfl)
@[simp] theorem setMbx_sec (x : Mbx) : (s.setMbx x).sec = s.sec := (rfl)
@[simp] theorem setMbx_bist (x : Mbx) : (s.setMbx x).bist = s.bist := (rfl)
@[simp] theorem setMbx_bus (x : Mbx) : (s.setMbx x).bus = s.bus := (rfl)
@[simp] theorem setMbx_fspi (x : Mbx) : (s.setMbx x).fspi = s.fspi := (rfl)

@[simp] theorem setRingCtx_pending (c : Nat) (x : RingCtx) : (s.setRingCtx c x).pending = s.pending := (rfl)
@[simp] theorem setRingCtx_regs (c : Nat) (x : RingCtx) : (s.setRingCtx c x).regs = s.regs := (rfl)
@[simp] theorem setRingCtx_free (c : Nat) (x : RingCtx) : (s.setRingCtx c x).free = s.free := (rfl)
@[simp] theorem setRingCtx_grid (c : Nat) (x : RingCtx) : (s.setRingCtx c x).grid = s.grid := (rfl)
@[simp] theorem setRingCtx_time (c : Nat) (x : RingCtx) : (s.setRingCtx c x).time = s.time := (rfl)
@[simp] theorem setRingCtx_pins (c : Nat) (x : RingCtx) : (s.setRingCtx c x).pins = s.pins := (rfl)
@[simp] theorem setRingCtx_icu (c : Nat) (x : RingCtx) : (s.setRingCtx c x).icu = s.icu := (rfl)
@[simp] theorem setRingCtx_evt (c : Nat) (x : RingCtx) : (s.setRingCtx c x).evt = s.evt := (rfl)
@[simp] theorem setRingCtx_nw (c : Nat) (x : RingCtx) : (s.setRingCtx c x).nw = s.nw := (rfl)
@[simp] theorem setRingCtx_mem (c : Nat) (x : RingCtx) : (s.setRingCtx c x).mem = s.mem := (rfl)
@[simp] theorem setRingCtx_cap (c : Nat) (x : RingCtx) : (s.setRingCtx c x).cap = s.cap := (rfl)
@[simp] theorem setRingCtx_life (c : Nat) (x : RingCtx) : (s.setRingCtx c x).life = s.life := (rfl)
@[simp] theorem setRingCtx_pwr (c : Nat) (x : RingCtx) : (s.setRingCtx c x).pwr = s.pwr := (rfl)
@[simp] theorem setRingCtx_obs (c : Nat) (x : RingCtx) : (s.setRingCtx c x).obs = s.obs := (rfl)
@[simp] theorem setRingCtx_rule (c : Nat) (x : RingCtx) : (s.setRingCtx c x).rule = s.rule := (rfl)
@[simp] theorem setRingCtx_cfg (c : Nat) (x : RingCtx) : (s.setRingCtx c x).cfg = s.cfg := (rfl)
@[simp] theorem setRingCtx_ctx (c : Nat) (x : RingCtx) : (s.setRingCtx c x).ctx = s.ctx := (rfl)
@[simp] theorem setRingCtx_chans (c : Nat) (x : RingCtx) : (s.setRingCtx c x).chans = s.chans := (rfl)
@[simp] theorem setRingCtx_banks (c : Nat) (x : RingCtx) : (s.setRingCtx c x).banks = s.banks := (rfl)
@[simp] theorem setRingCtx_boost (c : Nat) (x : RingCtx) : (s.setRingCtx c x).boost = s.boost := (rfl)
@[simp] theorem setRingCtx_res (c : Nat) (x : RingCtx) : (s.setRingCtx c x).res = s.res := (rfl)
@[simp] theorem setRingCtx_dim (c : Nat) (x : RingCtx) : (s.setRingCtx c x).dim = s.dim := (rfl)
@[simp] theorem setRingCtx_mtx (c : Nat) (x : RingCtx) : (s.setRingCtx c x).mtx = s.mtx := (rfl)
@[simp] theorem setRingCtx_spi (c : Nat) (x : RingCtx) : (s.setRingCtx c x).spi = s.spi := (rfl)
@[simp] theorem setRingCtx_loops (c : Nat) (x : RingCtx) : (s.setRingCtx c x).loops = s.loops := (rfl)
@[simp] theorem setRingCtx_adc (c : Nat) (x : RingCtx) : (s.setRingCtx c x).adc = s.adc := (rfl)
@[simp] theorem setRingCtx_sto (c : Nat) (x : RingCtx) : (s.setRingCtx c x).sto = s.sto := (rfl)
@[simp] theorem setRingCtx_link (c : Nat) (x : RingCtx) : (s.setRingCtx c x).link = s.link := (rfl)
@[simp] theorem setRingCtx_ring (c : Nat) (x : RingCtx) : (s.setRingCtx c x).ring = s.ring := (rfl)
@[simp] theorem setRingCtx_ptp (c : Nat) (x : RingCtx) : (s.setRingCtx c x).ptp = s.ptp := (rfl)
@[simp] theorem setRingCtx_sec (c : Nat) (x : RingCtx) : (s.setRingCtx c x).sec = s.sec := (rfl)
@[simp] theorem setRingCtx_bist (c : Nat) (x : RingCtx) : (s.setRingCtx c x).bist = s.bist := (rfl)
@[simp] theorem setRingCtx_bus (c : Nat) (x : RingCtx) : (s.setRingCtx c x).bus = s.bus := (rfl)
@[simp] theorem setRingCtx_fspi (c : Nat) (x : RingCtx) : (s.setRingCtx c x).fspi = s.fspi := (rfl)

@[simp] theorem setPtp_pending (x : Ptp) : (s.setPtp x).pending = s.pending := (rfl)
@[simp] theorem setPtp_regs (x : Ptp) : (s.setPtp x).regs = s.regs := (rfl)
@[simp] theorem setPtp_free (x : Ptp) : (s.setPtp x).free = s.free := (rfl)
@[simp] theorem setPtp_grid (x : Ptp) : (s.setPtp x).grid = s.grid := (rfl)
@[simp] theorem setPtp_time (x : Ptp) : (s.setPtp x).time = s.time := (rfl)
@[simp] theorem setPtp_pins (x : Ptp) : (s.setPtp x).pins = s.pins := (rfl)
@[simp] theorem setPtp_icu (x : Ptp) : (s.setPtp x).icu = s.icu := (rfl)
@[simp] theorem setPtp_evt (x : Ptp) : (s.setPtp x).evt = s.evt := (rfl)
@[simp] theorem setPtp_nw (x : Ptp) : (s.setPtp x).nw = s.nw := (rfl)
@[simp] theorem setPtp_mem (x : Ptp) : (s.setPtp x).mem = s.mem := (rfl)
@[simp] theorem setPtp_cap (x : Ptp) : (s.setPtp x).cap = s.cap := (rfl)
@[simp] theorem setPtp_life (x : Ptp) : (s.setPtp x).life = s.life := (rfl)
@[simp] theorem setPtp_pwr (x : Ptp) : (s.setPtp x).pwr = s.pwr := (rfl)
@[simp] theorem setPtp_obs (x : Ptp) : (s.setPtp x).obs = s.obs := (rfl)
@[simp] theorem setPtp_rule (x : Ptp) : (s.setPtp x).rule = s.rule := (rfl)
@[simp] theorem setPtp_cfg (x : Ptp) : (s.setPtp x).cfg = s.cfg := (rfl)
@[simp] theorem setPtp_ctx (x : Ptp) : (s.setPtp x).ctx = s.ctx := (rfl)
@[simp] theorem setPtp_chans (x : Ptp) : (s.setPtp x).chans = s.chans := (rfl)
@[simp] theorem setPtp_banks (x : Ptp) : (s.setPtp x).banks = s.banks := (rfl)
@[simp] theorem setPtp_boost (x : Ptp) : (s.setPtp x).boost = s.boost := (rfl)
@[simp] theorem setPtp_res (x : Ptp) : (s.setPtp x).res = s.res := (rfl)
@[simp] theorem setPtp_dim (x : Ptp) : (s.setPtp x).dim = s.dim := (rfl)
@[simp] theorem setPtp_mtx (x : Ptp) : (s.setPtp x).mtx = s.mtx := (rfl)
@[simp] theorem setPtp_spi (x : Ptp) : (s.setPtp x).spi = s.spi := (rfl)
@[simp] theorem setPtp_loops (x : Ptp) : (s.setPtp x).loops = s.loops := (rfl)
@[simp] theorem setPtp_adc (x : Ptp) : (s.setPtp x).adc = s.adc := (rfl)
@[simp] theorem setPtp_sto (x : Ptp) : (s.setPtp x).sto = s.sto := (rfl)
@[simp] theorem setPtp_link (x : Ptp) : (s.setPtp x).link = s.link := (rfl)
@[simp] theorem setPtp_ring (x : Ptp) : (s.setPtp x).ring = s.ring := (rfl)
@[simp] theorem setPtp_mbx (x : Ptp) : (s.setPtp x).mbx = s.mbx := (rfl)
@[simp] theorem setPtp_sec (x : Ptp) : (s.setPtp x).sec = s.sec := (rfl)
@[simp] theorem setPtp_bist (x : Ptp) : (s.setPtp x).bist = s.bist := (rfl)
@[simp] theorem setPtp_bus (x : Ptp) : (s.setPtp x).bus = s.bus := (rfl)
@[simp] theorem setPtp_fspi (x : Ptp) : (s.setPtp x).fspi = s.fspi := (rfl)

@[simp] theorem setRing_pending (x : Ring) : (s.setRing x).pending = s.pending := (rfl)
@[simp] theorem setRing_regs (x : Ring) : (s.setRing x).regs = s.regs := (rfl)
@[simp] theorem setRing_free (x : Ring) : (s.setRing x).free = s.free := (rfl)
@[simp] theorem setRing_grid (x : Ring) : (s.setRing x).grid = s.grid := (rfl)
@[simp] theorem setRing_time (x : Ring) : (s.setRing x).time = s.time := (rfl)
@[simp] theorem setRing_pins (x : Ring) : (s.setRing x).pins = s.pins := (rfl)
@[simp] theorem setRing_icu (x : Ring) : (s.setRing x).icu = s.icu := (rfl)
@[simp] theorem setRing_evt (x : Ring) : (s.setRing x).evt = s.evt := (rfl)
@[simp] theorem setRing_nw (x : Ring) : (s.setRing x).nw = s.nw := (rfl)
@[simp] theorem setRing_mem (x : Ring) : (s.setRing x).mem = s.mem := (rfl)
@[simp] theorem setRing_cap (x : Ring) : (s.setRing x).cap = s.cap := (rfl)
@[simp] theorem setRing_life (x : Ring) : (s.setRing x).life = s.life := (rfl)
@[simp] theorem setRing_pwr (x : Ring) : (s.setRing x).pwr = s.pwr := (rfl)
@[simp] theorem setRing_obs (x : Ring) : (s.setRing x).obs = s.obs := (rfl)
@[simp] theorem setRing_rule (x : Ring) : (s.setRing x).rule = s.rule := (rfl)
@[simp] theorem setRing_cfg (x : Ring) : (s.setRing x).cfg = s.cfg := (rfl)
@[simp] theorem setRing_ctx (x : Ring) : (s.setRing x).ctx = s.ctx := (rfl)
@[simp] theorem setRing_chans (x : Ring) : (s.setRing x).chans = s.chans := (rfl)
@[simp] theorem setRing_banks (x : Ring) : (s.setRing x).banks = s.banks := (rfl)
@[simp] theorem setRing_boost (x : Ring) : (s.setRing x).boost = s.boost := (rfl)
@[simp] theorem setRing_res (x : Ring) : (s.setRing x).res = s.res := (rfl)
@[simp] theorem setRing_dim (x : Ring) : (s.setRing x).dim = s.dim := (rfl)
@[simp] theorem setRing_mtx (x : Ring) : (s.setRing x).mtx = s.mtx := (rfl)
@[simp] theorem setRing_spi (x : Ring) : (s.setRing x).spi = s.spi := (rfl)
@[simp] theorem setRing_loops (x : Ring) : (s.setRing x).loops = s.loops := (rfl)
@[simp] theorem setRing_adc (x : Ring) : (s.setRing x).adc = s.adc := (rfl)
@[simp] theorem setRing_sto (x : Ring) : (s.setRing x).sto = s.sto := (rfl)
@[simp] theorem setRing_link (x : Ring) : (s.setRing x).link = s.link := (rfl)
@[simp] theorem setRing_ptp (x : Ring) : (s.setRing x).ptp = s.ptp := (rfl)
@[simp] theorem setRing_mbx (x : Ring) : (s.setRing x).mbx = s.mbx := (rfl)
@[simp] theorem setRing_sec (x : Ring) : (s.setRing x).sec = s.sec := (rfl)
@[simp] theorem setRing_bist (x : Ring) : (s.setRing x).bist = s.bist := (rfl)
@[simp] theorem setRing_bus (x : Ring) : (s.setRing x).bus = s.bus := (rfl)
@[simp] theorem setRing_fspi (x : Ring) : (s.setRing x).fspi = s.fspi := (rfl)

@[simp] theorem setPort_pending (p : Nat) (x : RingPort) : (s.setPort p x).pending = s.pending := (rfl)
@[simp] theorem setPort_regs (p : Nat) (x : RingPort) : (s.setPort p x).regs = s.regs := (rfl)
@[simp] theorem setPort_free (p : Nat) (x : RingPort) : (s.setPort p x).free = s.free := (rfl)
@[simp] theorem setPort_grid (p : Nat) (x : RingPort) : (s.setPort p x).grid = s.grid := (rfl)
@[simp] theorem setPort_time (p : Nat) (x : RingPort) : (s.setPort p x).time = s.time := (rfl)
@[simp] theorem setPort_pins (p : Nat) (x : RingPort) : (s.setPort p x).pins = s.pins := (rfl)
@[simp] theorem setPort_icu (p : Nat) (x : RingPort) : (s.setPort p x).icu = s.icu := (rfl)
@[simp] theorem setPort_evt (p : Nat) (x : RingPort) : (s.setPort p x).evt = s.evt := (rfl)
@[simp] theorem setPort_nw (p : Nat) (x : RingPort) : (s.setPort p x).nw = s.nw := (rfl)
@[simp] theorem setPort_mem (p : Nat) (x : RingPort) : (s.setPort p x).mem = s.mem := (rfl)
@[simp] theorem setPort_cap (p : Nat) (x : RingPort) : (s.setPort p x).cap = s.cap := (rfl)
@[simp] theorem setPort_life (p : Nat) (x : RingPort) : (s.setPort p x).life = s.life := (rfl)
@[simp] theorem setPort_pwr (p : Nat) (x : RingPort) : (s.setPort p x).pwr = s.pwr := (rfl)
@[simp] theorem setPort_obs (p : Nat) (x : RingPort) : (s.setPort p x).obs = s.obs := (rfl)
@[simp] theorem setPort_rule (p : Nat) (x : RingPort) : (s.setPort p x).rule = s.rule := (rfl)
@[simp] theorem setPort_cfg (p : Nat) (x : RingPort) : (s.setPort p x).cfg = s.cfg := (rfl)
@[simp] theorem setPort_ctx (p : Nat) (x : RingPort) : (s.setPort p x).ctx = s.ctx := (rfl)
@[simp] theorem setPort_chans (p : Nat) (x : RingPort) : (s.setPort p x).chans = s.chans := (rfl)
@[simp] theorem setPort_banks (p : Nat) (x : RingPort) : (s.setPort p x).banks = s.banks := (rfl)
@[simp] theorem setPort_boost (p : Nat) (x : RingPort) : (s.setPort p x).boost = s.boost := (rfl)
@[simp] theorem setPort_res (p : Nat) (x : RingPort) : (s.setPort p x).res = s.res := (rfl)
@[simp] theorem setPort_dim (p : Nat) (x : RingPort) : (s.setPort p x).dim = s.dim := (rfl)
@[simp] theorem setPort_mtx (p : Nat) (x : RingPort) : (s.setPort p x).mtx = s.mtx := (rfl)
@[simp] theorem setPort_spi (p : Nat) (x : RingPort) : (s.setPort p x).spi = s.spi := (rfl)
@[simp] theorem setPort_loops (p : Nat) (x : RingPort) : (s.setPort p x).loops = s.loops := (rfl)
@[simp] theorem setPort_adc (p : Nat) (x : RingPort) : (s.setPort p x).adc = s.adc := (rfl)
@[simp] theorem setPort_sto (p : Nat) (x : RingPort) : (s.setPort p x).sto = s.sto := (rfl)
@[simp] theorem setPort_link (p : Nat) (x : RingPort) : (s.setPort p x).link = s.link := (rfl)
@[simp] theorem setPort_ptp (p : Nat) (x : RingPort) : (s.setPort p x).ptp = s.ptp := (rfl)
@[simp] theorem setPort_mbx (p : Nat) (x : RingPort) : (s.setPort p x).mbx = s.mbx := (rfl)
@[simp] theorem setPort_sec (p : Nat) (x : RingPort) : (s.setPort p x).sec = s.sec := (rfl)
@[simp] theorem setPort_bist (p : Nat) (x : RingPort) : (s.setPort p x).bist = s.bist := (rfl)
@[simp] theorem setPort_bus (p : Nat) (x : RingPort) : (s.setPort p x).bus = s.bus := (rfl)
@[simp] theorem setPort_fspi (p : Nat) (x : RingPort) : (s.setPort p x).fspi = s.fspi := (rfl)

@[simp] theorem setEgress_pending (p : Nat) (x : Egress) : (s.setEgress p x).pending = s.pending := (rfl)
@[simp] theorem setEgress_regs (p : Nat) (x : Egress) : (s.setEgress p x).regs = s.regs := (rfl)
@[simp] theorem setEgress_free (p : Nat) (x : Egress) : (s.setEgress p x).free = s.free := (rfl)
@[simp] theorem setEgress_grid (p : Nat) (x : Egress) : (s.setEgress p x).grid = s.grid := (rfl)
@[simp] theorem setEgress_time (p : Nat) (x : Egress) : (s.setEgress p x).time = s.time := (rfl)
@[simp] theorem setEgress_pins (p : Nat) (x : Egress) : (s.setEgress p x).pins = s.pins := (rfl)
@[simp] theorem setEgress_icu (p : Nat) (x : Egress) : (s.setEgress p x).icu = s.icu := (rfl)
@[simp] theorem setEgress_evt (p : Nat) (x : Egress) : (s.setEgress p x).evt = s.evt := (rfl)
@[simp] theorem setEgress_nw (p : Nat) (x : Egress) : (s.setEgress p x).nw = s.nw := (rfl)
@[simp] theorem setEgress_mem (p : Nat) (x : Egress) : (s.setEgress p x).mem = s.mem := (rfl)
@[simp] theorem setEgress_cap (p : Nat) (x : Egress) : (s.setEgress p x).cap = s.cap := (rfl)
@[simp] theorem setEgress_life (p : Nat) (x : Egress) : (s.setEgress p x).life = s.life := (rfl)
@[simp] theorem setEgress_pwr (p : Nat) (x : Egress) : (s.setEgress p x).pwr = s.pwr := (rfl)
@[simp] theorem setEgress_obs (p : Nat) (x : Egress) : (s.setEgress p x).obs = s.obs := (rfl)
@[simp] theorem setEgress_rule (p : Nat) (x : Egress) : (s.setEgress p x).rule = s.rule := (rfl)
@[simp] theorem setEgress_cfg (p : Nat) (x : Egress) : (s.setEgress p x).cfg = s.cfg := (rfl)
@[simp] theorem setEgress_ctx (p : Nat) (x : Egress) : (s.setEgress p x).ctx = s.ctx := (rfl)
@[simp] theorem setEgress_chans (p : Nat) (x : Egress) : (s.setEgress p x).chans = s.chans := (rfl)
@[simp] theorem setEgress_banks (p : Nat) (x : Egress) : (s.setEgress p x).banks = s.banks := (rfl)
@[simp] theorem setEgress_boost (p : Nat) (x : Egress) : (s.setEgress p x).boost = s.boost := (rfl)
@[simp] theorem setEgress_res (p : Nat) (x : Egress) : (s.setEgress p x).res = s.res := (rfl)
@[simp] theorem setEgress_dim (p : Nat) (x : Egress) : (s.setEgress p x).dim = s.dim := (rfl)
@[simp] theorem setEgress_mtx (p : Nat) (x : Egress) : (s.setEgress p x).mtx = s.mtx := (rfl)
@[simp] theorem setEgress_spi (p : Nat) (x : Egress) : (s.setEgress p x).spi = s.spi := (rfl)
@[simp] theorem setEgress_loops (p : Nat) (x : Egress) : (s.setEgress p x).loops = s.loops := (rfl)
@[simp] theorem setEgress_adc (p : Nat) (x : Egress) : (s.setEgress p x).adc = s.adc := (rfl)
@[simp] theorem setEgress_sto (p : Nat) (x : Egress) : (s.setEgress p x).sto = s.sto := (rfl)
@[simp] theorem setEgress_link (p : Nat) (x : Egress) : (s.setEgress p x).link = s.link := (rfl)
@[simp] theorem setEgress_ptp (p : Nat) (x : Egress) : (s.setEgress p x).ptp = s.ptp := (rfl)
@[simp] theorem setEgress_mbx (p : Nat) (x : Egress) : (s.setEgress p x).mbx = s.mbx := (rfl)
@[simp] theorem setEgress_sec (p : Nat) (x : Egress) : (s.setEgress p x).sec = s.sec := (rfl)
@[simp] theorem setEgress_bist (p : Nat) (x : Egress) : (s.setEgress p x).bist = s.bist := (rfl)
@[simp] theorem setEgress_bus (p : Nat) (x : Egress) : (s.setEgress p x).bus = s.bus := (rfl)
@[simp] theorem setEgress_fspi (p : Nat) (x : Egress) : (s.setEgress p x).fspi = s.fspi := (rfl)

@[simp] theorem setLaunch_pending (d : Nat) (x : Launch) : (s.setLaunch d x).pending = s.pending := (rfl)
@[simp] theorem setLaunch_regs (d : Nat) (x : Launch) : (s.setLaunch d x).regs = s.regs := (rfl)
@[simp] theorem setLaunch_free (d : Nat) (x : Launch) : (s.setLaunch d x).free = s.free := (rfl)
@[simp] theorem setLaunch_grid (d : Nat) (x : Launch) : (s.setLaunch d x).grid = s.grid := (rfl)
@[simp] theorem setLaunch_time (d : Nat) (x : Launch) : (s.setLaunch d x).time = s.time := (rfl)
@[simp] theorem setLaunch_pins (d : Nat) (x : Launch) : (s.setLaunch d x).pins = s.pins := (rfl)
@[simp] theorem setLaunch_icu (d : Nat) (x : Launch) : (s.setLaunch d x).icu = s.icu := (rfl)
@[simp] theorem setLaunch_evt (d : Nat) (x : Launch) : (s.setLaunch d x).evt = s.evt := (rfl)
@[simp] theorem setLaunch_nw (d : Nat) (x : Launch) : (s.setLaunch d x).nw = s.nw := (rfl)
@[simp] theorem setLaunch_mem (d : Nat) (x : Launch) : (s.setLaunch d x).mem = s.mem := (rfl)
@[simp] theorem setLaunch_cap (d : Nat) (x : Launch) : (s.setLaunch d x).cap = s.cap := (rfl)
@[simp] theorem setLaunch_life (d : Nat) (x : Launch) : (s.setLaunch d x).life = s.life := (rfl)
@[simp] theorem setLaunch_pwr (d : Nat) (x : Launch) : (s.setLaunch d x).pwr = s.pwr := (rfl)
@[simp] theorem setLaunch_obs (d : Nat) (x : Launch) : (s.setLaunch d x).obs = s.obs := (rfl)
@[simp] theorem setLaunch_rule (d : Nat) (x : Launch) : (s.setLaunch d x).rule = s.rule := (rfl)
@[simp] theorem setLaunch_cfg (d : Nat) (x : Launch) : (s.setLaunch d x).cfg = s.cfg := (rfl)
@[simp] theorem setLaunch_ctx (d : Nat) (x : Launch) : (s.setLaunch d x).ctx = s.ctx := (rfl)
@[simp] theorem setLaunch_chans (d : Nat) (x : Launch) : (s.setLaunch d x).chans = s.chans := (rfl)
@[simp] theorem setLaunch_banks (d : Nat) (x : Launch) : (s.setLaunch d x).banks = s.banks := (rfl)
@[simp] theorem setLaunch_boost (d : Nat) (x : Launch) : (s.setLaunch d x).boost = s.boost := (rfl)
@[simp] theorem setLaunch_res (d : Nat) (x : Launch) : (s.setLaunch d x).res = s.res := (rfl)
@[simp] theorem setLaunch_dim (d : Nat) (x : Launch) : (s.setLaunch d x).dim = s.dim := (rfl)
@[simp] theorem setLaunch_mtx (d : Nat) (x : Launch) : (s.setLaunch d x).mtx = s.mtx := (rfl)
@[simp] theorem setLaunch_spi (d : Nat) (x : Launch) : (s.setLaunch d x).spi = s.spi := (rfl)
@[simp] theorem setLaunch_loops (d : Nat) (x : Launch) : (s.setLaunch d x).loops = s.loops := (rfl)
@[simp] theorem setLaunch_adc (d : Nat) (x : Launch) : (s.setLaunch d x).adc = s.adc := (rfl)
@[simp] theorem setLaunch_sto (d : Nat) (x : Launch) : (s.setLaunch d x).sto = s.sto := (rfl)
@[simp] theorem setLaunch_link (d : Nat) (x : Launch) : (s.setLaunch d x).link = s.link := (rfl)
@[simp] theorem setLaunch_ptp (d : Nat) (x : Launch) : (s.setLaunch d x).ptp = s.ptp := (rfl)
@[simp] theorem setLaunch_mbx (d : Nat) (x : Launch) : (s.setLaunch d x).mbx = s.mbx := (rfl)
@[simp] theorem setLaunch_sec (d : Nat) (x : Launch) : (s.setLaunch d x).sec = s.sec := (rfl)
@[simp] theorem setLaunch_bist (d : Nat) (x : Launch) : (s.setLaunch d x).bist = s.bist := (rfl)
@[simp] theorem setLaunch_bus (d : Nat) (x : Launch) : (s.setLaunch d x).bus = s.bus := (rfl)
@[simp] theorem setLaunch_fspi (d : Nat) (x : Launch) : (s.setLaunch d x).fspi = s.fspi := (rfl)

@[simp] theorem setCopy_pending (c : Nat) (x : CtxCopy) : (s.setCopy c x).pending = s.pending := (rfl)
@[simp] theorem setCopy_regs (c : Nat) (x : CtxCopy) : (s.setCopy c x).regs = s.regs := (rfl)
@[simp] theorem setCopy_free (c : Nat) (x : CtxCopy) : (s.setCopy c x).free = s.free := (rfl)
@[simp] theorem setCopy_grid (c : Nat) (x : CtxCopy) : (s.setCopy c x).grid = s.grid := (rfl)
@[simp] theorem setCopy_time (c : Nat) (x : CtxCopy) : (s.setCopy c x).time = s.time := (rfl)
@[simp] theorem setCopy_pins (c : Nat) (x : CtxCopy) : (s.setCopy c x).pins = s.pins := (rfl)
@[simp] theorem setCopy_icu (c : Nat) (x : CtxCopy) : (s.setCopy c x).icu = s.icu := (rfl)
@[simp] theorem setCopy_evt (c : Nat) (x : CtxCopy) : (s.setCopy c x).evt = s.evt := (rfl)
@[simp] theorem setCopy_nw (c : Nat) (x : CtxCopy) : (s.setCopy c x).nw = s.nw := (rfl)
@[simp] theorem setCopy_mem (c : Nat) (x : CtxCopy) : (s.setCopy c x).mem = s.mem := (rfl)
@[simp] theorem setCopy_cap (c : Nat) (x : CtxCopy) : (s.setCopy c x).cap = s.cap := (rfl)
@[simp] theorem setCopy_life (c : Nat) (x : CtxCopy) : (s.setCopy c x).life = s.life := (rfl)
@[simp] theorem setCopy_pwr (c : Nat) (x : CtxCopy) : (s.setCopy c x).pwr = s.pwr := (rfl)
@[simp] theorem setCopy_obs (c : Nat) (x : CtxCopy) : (s.setCopy c x).obs = s.obs := (rfl)
@[simp] theorem setCopy_rule (c : Nat) (x : CtxCopy) : (s.setCopy c x).rule = s.rule := (rfl)
@[simp] theorem setCopy_cfg (c : Nat) (x : CtxCopy) : (s.setCopy c x).cfg = s.cfg := (rfl)
@[simp] theorem setCopy_chans (c : Nat) (x : CtxCopy) : (s.setCopy c x).chans = s.chans := (rfl)
@[simp] theorem setCopy_banks (c : Nat) (x : CtxCopy) : (s.setCopy c x).banks = s.banks := (rfl)
@[simp] theorem setCopy_boost (c : Nat) (x : CtxCopy) : (s.setCopy c x).boost = s.boost := (rfl)
@[simp] theorem setCopy_res (c : Nat) (x : CtxCopy) : (s.setCopy c x).res = s.res := (rfl)
@[simp] theorem setCopy_dim (c : Nat) (x : CtxCopy) : (s.setCopy c x).dim = s.dim := (rfl)
@[simp] theorem setCopy_mtx (c : Nat) (x : CtxCopy) : (s.setCopy c x).mtx = s.mtx := (rfl)
@[simp] theorem setCopy_spi (c : Nat) (x : CtxCopy) : (s.setCopy c x).spi = s.spi := (rfl)
@[simp] theorem setCopy_loops (c : Nat) (x : CtxCopy) : (s.setCopy c x).loops = s.loops := (rfl)
@[simp] theorem setCopy_adc (c : Nat) (x : CtxCopy) : (s.setCopy c x).adc = s.adc := (rfl)
@[simp] theorem setCopy_sto (c : Nat) (x : CtxCopy) : (s.setCopy c x).sto = s.sto := (rfl)
@[simp] theorem setCopy_link (c : Nat) (x : CtxCopy) : (s.setCopy c x).link = s.link := (rfl)
@[simp] theorem setCopy_ring (c : Nat) (x : CtxCopy) : (s.setCopy c x).ring = s.ring := (rfl)
@[simp] theorem setCopy_ptp (c : Nat) (x : CtxCopy) : (s.setCopy c x).ptp = s.ptp := (rfl)
@[simp] theorem setCopy_mbx (c : Nat) (x : CtxCopy) : (s.setCopy c x).mbx = s.mbx := (rfl)
@[simp] theorem setCopy_sec (c : Nat) (x : CtxCopy) : (s.setCopy c x).sec = s.sec := (rfl)
@[simp] theorem setCopy_bist (c : Nat) (x : CtxCopy) : (s.setCopy c x).bist = s.bist := (rfl)
@[simp] theorem setCopy_bus (c : Nat) (x : CtxCopy) : (s.setCopy c x).bus = s.bus := (rfl)
@[simp] theorem setCopy_fspi (c : Nat) (x : CtxCopy) : (s.setCopy c x).fspi = s.fspi := (rfl)

@[simp] theorem setSec_pending (x : Sec) : (s.setSec x).pending = s.pending := (rfl)
@[simp] theorem setSec_regs (x : Sec) : (s.setSec x).regs = s.regs := (rfl)
@[simp] theorem setSec_free (x : Sec) : (s.setSec x).free = s.free := (rfl)
@[simp] theorem setSec_grid (x : Sec) : (s.setSec x).grid = s.grid := (rfl)
@[simp] theorem setSec_time (x : Sec) : (s.setSec x).time = s.time := (rfl)
@[simp] theorem setSec_pins (x : Sec) : (s.setSec x).pins = s.pins := (rfl)
@[simp] theorem setSec_icu (x : Sec) : (s.setSec x).icu = s.icu := (rfl)
@[simp] theorem setSec_evt (x : Sec) : (s.setSec x).evt = s.evt := (rfl)
@[simp] theorem setSec_nw (x : Sec) : (s.setSec x).nw = s.nw := (rfl)
@[simp] theorem setSec_mem (x : Sec) : (s.setSec x).mem = s.mem := (rfl)
@[simp] theorem setSec_cap (x : Sec) : (s.setSec x).cap = s.cap := (rfl)
@[simp] theorem setSec_life (x : Sec) : (s.setSec x).life = s.life := (rfl)
@[simp] theorem setSec_pwr (x : Sec) : (s.setSec x).pwr = s.pwr := (rfl)
@[simp] theorem setSec_obs (x : Sec) : (s.setSec x).obs = s.obs := (rfl)
@[simp] theorem setSec_rule (x : Sec) : (s.setSec x).rule = s.rule := (rfl)
@[simp] theorem setSec_cfg (x : Sec) : (s.setSec x).cfg = s.cfg := (rfl)
@[simp] theorem setSec_ctx (x : Sec) : (s.setSec x).ctx = s.ctx := (rfl)
@[simp] theorem setSec_chans (x : Sec) : (s.setSec x).chans = s.chans := (rfl)
@[simp] theorem setSec_banks (x : Sec) : (s.setSec x).banks = s.banks := (rfl)
@[simp] theorem setSec_boost (x : Sec) : (s.setSec x).boost = s.boost := (rfl)
@[simp] theorem setSec_res (x : Sec) : (s.setSec x).res = s.res := (rfl)
@[simp] theorem setSec_dim (x : Sec) : (s.setSec x).dim = s.dim := (rfl)
@[simp] theorem setSec_mtx (x : Sec) : (s.setSec x).mtx = s.mtx := (rfl)
@[simp] theorem setSec_spi (x : Sec) : (s.setSec x).spi = s.spi := (rfl)
@[simp] theorem setSec_loops (x : Sec) : (s.setSec x).loops = s.loops := (rfl)
@[simp] theorem setSec_adc (x : Sec) : (s.setSec x).adc = s.adc := (rfl)
@[simp] theorem setSec_sto (x : Sec) : (s.setSec x).sto = s.sto := (rfl)
@[simp] theorem setSec_link (x : Sec) : (s.setSec x).link = s.link := (rfl)
@[simp] theorem setSec_ring (x : Sec) : (s.setSec x).ring = s.ring := (rfl)
@[simp] theorem setSec_ptp (x : Sec) : (s.setSec x).ptp = s.ptp := (rfl)
@[simp] theorem setSec_mbx (x : Sec) : (s.setSec x).mbx = s.mbx := (rfl)
@[simp] theorem setSec_bist (x : Sec) : (s.setSec x).bist = s.bist := (rfl)
@[simp] theorem setSec_bus (x : Sec) : (s.setSec x).bus = s.bus := (rfl)
@[simp] theorem setSec_fspi (x : Sec) : (s.setSec x).fspi = s.fspi := (rfl)

@[simp] theorem setFwSlot_pending (i : Nat) (x : FwSlot) : (s.setFwSlot i x).pending = s.pending := (rfl)
@[simp] theorem setFwSlot_regs (i : Nat) (x : FwSlot) : (s.setFwSlot i x).regs = s.regs := (rfl)
@[simp] theorem setFwSlot_free (i : Nat) (x : FwSlot) : (s.setFwSlot i x).free = s.free := (rfl)
@[simp] theorem setFwSlot_grid (i : Nat) (x : FwSlot) : (s.setFwSlot i x).grid = s.grid := (rfl)
@[simp] theorem setFwSlot_time (i : Nat) (x : FwSlot) : (s.setFwSlot i x).time = s.time := (rfl)
@[simp] theorem setFwSlot_pins (i : Nat) (x : FwSlot) : (s.setFwSlot i x).pins = s.pins := (rfl)
@[simp] theorem setFwSlot_icu (i : Nat) (x : FwSlot) : (s.setFwSlot i x).icu = s.icu := (rfl)
@[simp] theorem setFwSlot_evt (i : Nat) (x : FwSlot) : (s.setFwSlot i x).evt = s.evt := (rfl)
@[simp] theorem setFwSlot_nw (i : Nat) (x : FwSlot) : (s.setFwSlot i x).nw = s.nw := (rfl)
@[simp] theorem setFwSlot_mem (i : Nat) (x : FwSlot) : (s.setFwSlot i x).mem = s.mem := (rfl)
@[simp] theorem setFwSlot_cap (i : Nat) (x : FwSlot) : (s.setFwSlot i x).cap = s.cap := (rfl)
@[simp] theorem setFwSlot_life (i : Nat) (x : FwSlot) : (s.setFwSlot i x).life = s.life := (rfl)
@[simp] theorem setFwSlot_pwr (i : Nat) (x : FwSlot) : (s.setFwSlot i x).pwr = s.pwr := (rfl)
@[simp] theorem setFwSlot_obs (i : Nat) (x : FwSlot) : (s.setFwSlot i x).obs = s.obs := (rfl)
@[simp] theorem setFwSlot_rule (i : Nat) (x : FwSlot) : (s.setFwSlot i x).rule = s.rule := (rfl)
@[simp] theorem setFwSlot_cfg (i : Nat) (x : FwSlot) : (s.setFwSlot i x).cfg = s.cfg := (rfl)
@[simp] theorem setFwSlot_ctx (i : Nat) (x : FwSlot) : (s.setFwSlot i x).ctx = s.ctx := (rfl)
@[simp] theorem setFwSlot_chans (i : Nat) (x : FwSlot) : (s.setFwSlot i x).chans = s.chans := (rfl)
@[simp] theorem setFwSlot_banks (i : Nat) (x : FwSlot) : (s.setFwSlot i x).banks = s.banks := (rfl)
@[simp] theorem setFwSlot_boost (i : Nat) (x : FwSlot) : (s.setFwSlot i x).boost = s.boost := (rfl)
@[simp] theorem setFwSlot_res (i : Nat) (x : FwSlot) : (s.setFwSlot i x).res = s.res := (rfl)
@[simp] theorem setFwSlot_dim (i : Nat) (x : FwSlot) : (s.setFwSlot i x).dim = s.dim := (rfl)
@[simp] theorem setFwSlot_mtx (i : Nat) (x : FwSlot) : (s.setFwSlot i x).mtx = s.mtx := (rfl)
@[simp] theorem setFwSlot_spi (i : Nat) (x : FwSlot) : (s.setFwSlot i x).spi = s.spi := (rfl)
@[simp] theorem setFwSlot_loops (i : Nat) (x : FwSlot) : (s.setFwSlot i x).loops = s.loops := (rfl)
@[simp] theorem setFwSlot_adc (i : Nat) (x : FwSlot) : (s.setFwSlot i x).adc = s.adc := (rfl)
@[simp] theorem setFwSlot_sto (i : Nat) (x : FwSlot) : (s.setFwSlot i x).sto = s.sto := (rfl)
@[simp] theorem setFwSlot_link (i : Nat) (x : FwSlot) : (s.setFwSlot i x).link = s.link := (rfl)
@[simp] theorem setFwSlot_ring (i : Nat) (x : FwSlot) : (s.setFwSlot i x).ring = s.ring := (rfl)
@[simp] theorem setFwSlot_ptp (i : Nat) (x : FwSlot) : (s.setFwSlot i x).ptp = s.ptp := (rfl)
@[simp] theorem setFwSlot_mbx (i : Nat) (x : FwSlot) : (s.setFwSlot i x).mbx = s.mbx := (rfl)
@[simp] theorem setFwSlot_bist (i : Nat) (x : FwSlot) : (s.setFwSlot i x).bist = s.bist := (rfl)
@[simp] theorem setFwSlot_bus (i : Nat) (x : FwSlot) : (s.setFwSlot i x).bus = s.bus := (rfl)
@[simp] theorem setFwSlot_fspi (i : Nat) (x : FwSlot) : (s.setFwSlot i x).fspi = s.fspi := (rfl)

@[simp] theorem setSpi_pending (x : Spi) : (s.setSpi x).pending = s.pending := (rfl)
@[simp] theorem setSpi_regs (x : Spi) : (s.setSpi x).regs = s.regs := (rfl)
@[simp] theorem setSpi_free (x : Spi) : (s.setSpi x).free = s.free := (rfl)
@[simp] theorem setSpi_grid (x : Spi) : (s.setSpi x).grid = s.grid := (rfl)
@[simp] theorem setSpi_time (x : Spi) : (s.setSpi x).time = s.time := (rfl)
@[simp] theorem setSpi_pins (x : Spi) : (s.setSpi x).pins = s.pins := (rfl)
@[simp] theorem setSpi_icu (x : Spi) : (s.setSpi x).icu = s.icu := (rfl)
@[simp] theorem setSpi_evt (x : Spi) : (s.setSpi x).evt = s.evt := (rfl)
@[simp] theorem setSpi_nw (x : Spi) : (s.setSpi x).nw = s.nw := (rfl)
@[simp] theorem setSpi_mem (x : Spi) : (s.setSpi x).mem = s.mem := (rfl)
@[simp] theorem setSpi_cap (x : Spi) : (s.setSpi x).cap = s.cap := (rfl)
@[simp] theorem setSpi_life (x : Spi) : (s.setSpi x).life = s.life := (rfl)
@[simp] theorem setSpi_pwr (x : Spi) : (s.setSpi x).pwr = s.pwr := (rfl)
@[simp] theorem setSpi_obs (x : Spi) : (s.setSpi x).obs = s.obs := (rfl)
@[simp] theorem setSpi_rule (x : Spi) : (s.setSpi x).rule = s.rule := (rfl)
@[simp] theorem setSpi_cfg (x : Spi) : (s.setSpi x).cfg = s.cfg := (rfl)
@[simp] theorem setSpi_ctx (x : Spi) : (s.setSpi x).ctx = s.ctx := (rfl)
@[simp] theorem setSpi_chans (x : Spi) : (s.setSpi x).chans = s.chans := (rfl)
@[simp] theorem setSpi_banks (x : Spi) : (s.setSpi x).banks = s.banks := (rfl)
@[simp] theorem setSpi_boost (x : Spi) : (s.setSpi x).boost = s.boost := (rfl)
@[simp] theorem setSpi_res (x : Spi) : (s.setSpi x).res = s.res := (rfl)
@[simp] theorem setSpi_dim (x : Spi) : (s.setSpi x).dim = s.dim := (rfl)
@[simp] theorem setSpi_mtx (x : Spi) : (s.setSpi x).mtx = s.mtx := (rfl)
@[simp] theorem setSpi_loops (x : Spi) : (s.setSpi x).loops = s.loops := (rfl)
@[simp] theorem setSpi_adc (x : Spi) : (s.setSpi x).adc = s.adc := (rfl)
@[simp] theorem setSpi_sto (x : Spi) : (s.setSpi x).sto = s.sto := (rfl)
@[simp] theorem setSpi_link (x : Spi) : (s.setSpi x).link = s.link := (rfl)
@[simp] theorem setSpi_ring (x : Spi) : (s.setSpi x).ring = s.ring := (rfl)
@[simp] theorem setSpi_ptp (x : Spi) : (s.setSpi x).ptp = s.ptp := (rfl)
@[simp] theorem setSpi_mbx (x : Spi) : (s.setSpi x).mbx = s.mbx := (rfl)
@[simp] theorem setSpi_sec (x : Spi) : (s.setSpi x).sec = s.sec := (rfl)
@[simp] theorem setSpi_bist (x : Spi) : (s.setSpi x).bist = s.bist := (rfl)
@[simp] theorem setSpi_bus (x : Spi) : (s.setSpi x).bus = s.bus := (rfl)
@[simp] theorem setSpi_fspi (x : Spi) : (s.setSpi x).fspi = s.fspi := (rfl)

@[simp] theorem setSin_pending (c : Nat) (x : SafeIn) : (s.setSin c x).pending = s.pending := (rfl)
@[simp] theorem setSin_regs (c : Nat) (x : SafeIn) : (s.setSin c x).regs = s.regs := (rfl)
@[simp] theorem setSin_free (c : Nat) (x : SafeIn) : (s.setSin c x).free = s.free := (rfl)
@[simp] theorem setSin_grid (c : Nat) (x : SafeIn) : (s.setSin c x).grid = s.grid := (rfl)
@[simp] theorem setSin_time (c : Nat) (x : SafeIn) : (s.setSin c x).time = s.time := (rfl)
@[simp] theorem setSin_pins (c : Nat) (x : SafeIn) : (s.setSin c x).pins = s.pins := (rfl)
@[simp] theorem setSin_icu (c : Nat) (x : SafeIn) : (s.setSin c x).icu = s.icu := (rfl)
@[simp] theorem setSin_evt (c : Nat) (x : SafeIn) : (s.setSin c x).evt = s.evt := (rfl)
@[simp] theorem setSin_nw (c : Nat) (x : SafeIn) : (s.setSin c x).nw = s.nw := (rfl)
@[simp] theorem setSin_mem (c : Nat) (x : SafeIn) : (s.setSin c x).mem = s.mem := (rfl)
@[simp] theorem setSin_cap (c : Nat) (x : SafeIn) : (s.setSin c x).cap = s.cap := (rfl)
@[simp] theorem setSin_life (c : Nat) (x : SafeIn) : (s.setSin c x).life = s.life := (rfl)
@[simp] theorem setSin_pwr (c : Nat) (x : SafeIn) : (s.setSin c x).pwr = s.pwr := (rfl)
@[simp] theorem setSin_obs (c : Nat) (x : SafeIn) : (s.setSin c x).obs = s.obs := (rfl)
@[simp] theorem setSin_rule (c : Nat) (x : SafeIn) : (s.setSin c x).rule = s.rule := (rfl)
@[simp] theorem setSin_cfg (c : Nat) (x : SafeIn) : (s.setSin c x).cfg = s.cfg := (rfl)
@[simp] theorem setSin_ctx (c : Nat) (x : SafeIn) : (s.setSin c x).ctx = s.ctx := (rfl)
@[simp] theorem setSin_chans (c : Nat) (x : SafeIn) : (s.setSin c x).chans = s.chans := (rfl)
@[simp] theorem setSin_banks (c : Nat) (x : SafeIn) : (s.setSin c x).banks = s.banks := (rfl)
@[simp] theorem setSin_boost (c : Nat) (x : SafeIn) : (s.setSin c x).boost = s.boost := (rfl)
@[simp] theorem setSin_res (c : Nat) (x : SafeIn) : (s.setSin c x).res = s.res := (rfl)
@[simp] theorem setSin_dim (c : Nat) (x : SafeIn) : (s.setSin c x).dim = s.dim := (rfl)
@[simp] theorem setSin_mtx (c : Nat) (x : SafeIn) : (s.setSin c x).mtx = s.mtx := (rfl)
@[simp] theorem setSin_spi (c : Nat) (x : SafeIn) : (s.setSin c x).spi = s.spi := (rfl)
@[simp] theorem setSin_loops (c : Nat) (x : SafeIn) : (s.setSin c x).loops = s.loops := (rfl)
@[simp] theorem setSin_adc (c : Nat) (x : SafeIn) : (s.setSin c x).adc = s.adc := (rfl)
@[simp] theorem setSin_link (c : Nat) (x : SafeIn) : (s.setSin c x).link = s.link := (rfl)
@[simp] theorem setSin_ring (c : Nat) (x : SafeIn) : (s.setSin c x).ring = s.ring := (rfl)
@[simp] theorem setSin_ptp (c : Nat) (x : SafeIn) : (s.setSin c x).ptp = s.ptp := (rfl)
@[simp] theorem setSin_mbx (c : Nat) (x : SafeIn) : (s.setSin c x).mbx = s.mbx := (rfl)
@[simp] theorem setSin_sec (c : Nat) (x : SafeIn) : (s.setSin c x).sec = s.sec := (rfl)
@[simp] theorem setSin_bist (c : Nat) (x : SafeIn) : (s.setSin c x).bist = s.bist := (rfl)
@[simp] theorem setSin_bus (c : Nat) (x : SafeIn) : (s.setSin c x).bus = s.bus := (rfl)
@[simp] theorem setSin_fspi (c : Nat) (x : SafeIn) : (s.setSin c x).fspi = s.fspi := (rfl)

@[simp] theorem setSpair_pending (p : Nat) (x : SafePair) : (s.setSpair p x).pending = s.pending := (rfl)
@[simp] theorem setSpair_regs (p : Nat) (x : SafePair) : (s.setSpair p x).regs = s.regs := (rfl)
@[simp] theorem setSpair_free (p : Nat) (x : SafePair) : (s.setSpair p x).free = s.free := (rfl)
@[simp] theorem setSpair_grid (p : Nat) (x : SafePair) : (s.setSpair p x).grid = s.grid := (rfl)
@[simp] theorem setSpair_time (p : Nat) (x : SafePair) : (s.setSpair p x).time = s.time := (rfl)
@[simp] theorem setSpair_pins (p : Nat) (x : SafePair) : (s.setSpair p x).pins = s.pins := (rfl)
@[simp] theorem setSpair_icu (p : Nat) (x : SafePair) : (s.setSpair p x).icu = s.icu := (rfl)
@[simp] theorem setSpair_evt (p : Nat) (x : SafePair) : (s.setSpair p x).evt = s.evt := (rfl)
@[simp] theorem setSpair_nw (p : Nat) (x : SafePair) : (s.setSpair p x).nw = s.nw := (rfl)
@[simp] theorem setSpair_mem (p : Nat) (x : SafePair) : (s.setSpair p x).mem = s.mem := (rfl)
@[simp] theorem setSpair_cap (p : Nat) (x : SafePair) : (s.setSpair p x).cap = s.cap := (rfl)
@[simp] theorem setSpair_life (p : Nat) (x : SafePair) : (s.setSpair p x).life = s.life := (rfl)
@[simp] theorem setSpair_pwr (p : Nat) (x : SafePair) : (s.setSpair p x).pwr = s.pwr := (rfl)
@[simp] theorem setSpair_obs (p : Nat) (x : SafePair) : (s.setSpair p x).obs = s.obs := (rfl)
@[simp] theorem setSpair_rule (p : Nat) (x : SafePair) : (s.setSpair p x).rule = s.rule := (rfl)
@[simp] theorem setSpair_cfg (p : Nat) (x : SafePair) : (s.setSpair p x).cfg = s.cfg := (rfl)
@[simp] theorem setSpair_ctx (p : Nat) (x : SafePair) : (s.setSpair p x).ctx = s.ctx := (rfl)
@[simp] theorem setSpair_chans (p : Nat) (x : SafePair) : (s.setSpair p x).chans = s.chans := (rfl)
@[simp] theorem setSpair_banks (p : Nat) (x : SafePair) : (s.setSpair p x).banks = s.banks := (rfl)
@[simp] theorem setSpair_boost (p : Nat) (x : SafePair) : (s.setSpair p x).boost = s.boost := (rfl)
@[simp] theorem setSpair_res (p : Nat) (x : SafePair) : (s.setSpair p x).res = s.res := (rfl)
@[simp] theorem setSpair_dim (p : Nat) (x : SafePair) : (s.setSpair p x).dim = s.dim := (rfl)
@[simp] theorem setSpair_mtx (p : Nat) (x : SafePair) : (s.setSpair p x).mtx = s.mtx := (rfl)
@[simp] theorem setSpair_spi (p : Nat) (x : SafePair) : (s.setSpair p x).spi = s.spi := (rfl)
@[simp] theorem setSpair_loops (p : Nat) (x : SafePair) : (s.setSpair p x).loops = s.loops := (rfl)
@[simp] theorem setSpair_adc (p : Nat) (x : SafePair) : (s.setSpair p x).adc = s.adc := (rfl)
@[simp] theorem setSpair_link (p : Nat) (x : SafePair) : (s.setSpair p x).link = s.link := (rfl)
@[simp] theorem setSpair_ring (p : Nat) (x : SafePair) : (s.setSpair p x).ring = s.ring := (rfl)
@[simp] theorem setSpair_ptp (p : Nat) (x : SafePair) : (s.setSpair p x).ptp = s.ptp := (rfl)
@[simp] theorem setSpair_mbx (p : Nat) (x : SafePair) : (s.setSpair p x).mbx = s.mbx := (rfl)
@[simp] theorem setSpair_sec (p : Nat) (x : SafePair) : (s.setSpair p x).sec = s.sec := (rfl)
@[simp] theorem setSpair_bist (p : Nat) (x : SafePair) : (s.setSpair p x).bist = s.bist := (rfl)
@[simp] theorem setSpair_bus (p : Nat) (x : SafePair) : (s.setSpair p x).bus = s.bus := (rfl)
@[simp] theorem setSpair_fspi (p : Nat) (x : SafePair) : (s.setSpair p x).fspi = s.fspi := (rfl)

@[simp] theorem setLine_pending (n : Nat) (x : TpLine) : (s.setLine n x).pending = s.pending := (rfl)
@[simp] theorem setLine_regs (n : Nat) (x : TpLine) : (s.setLine n x).regs = s.regs := (rfl)
@[simp] theorem setLine_free (n : Nat) (x : TpLine) : (s.setLine n x).free = s.free := (rfl)
@[simp] theorem setLine_grid (n : Nat) (x : TpLine) : (s.setLine n x).grid = s.grid := (rfl)
@[simp] theorem setLine_time (n : Nat) (x : TpLine) : (s.setLine n x).time = s.time := (rfl)
@[simp] theorem setLine_pins (n : Nat) (x : TpLine) : (s.setLine n x).pins = s.pins := (rfl)
@[simp] theorem setLine_icu (n : Nat) (x : TpLine) : (s.setLine n x).icu = s.icu := (rfl)
@[simp] theorem setLine_evt (n : Nat) (x : TpLine) : (s.setLine n x).evt = s.evt := (rfl)
@[simp] theorem setLine_nw (n : Nat) (x : TpLine) : (s.setLine n x).nw = s.nw := (rfl)
@[simp] theorem setLine_mem (n : Nat) (x : TpLine) : (s.setLine n x).mem = s.mem := (rfl)
@[simp] theorem setLine_cap (n : Nat) (x : TpLine) : (s.setLine n x).cap = s.cap := (rfl)
@[simp] theorem setLine_life (n : Nat) (x : TpLine) : (s.setLine n x).life = s.life := (rfl)
@[simp] theorem setLine_pwr (n : Nat) (x : TpLine) : (s.setLine n x).pwr = s.pwr := (rfl)
@[simp] theorem setLine_obs (n : Nat) (x : TpLine) : (s.setLine n x).obs = s.obs := (rfl)
@[simp] theorem setLine_rule (n : Nat) (x : TpLine) : (s.setLine n x).rule = s.rule := (rfl)
@[simp] theorem setLine_cfg (n : Nat) (x : TpLine) : (s.setLine n x).cfg = s.cfg := (rfl)
@[simp] theorem setLine_ctx (n : Nat) (x : TpLine) : (s.setLine n x).ctx = s.ctx := (rfl)
@[simp] theorem setLine_chans (n : Nat) (x : TpLine) : (s.setLine n x).chans = s.chans := (rfl)
@[simp] theorem setLine_banks (n : Nat) (x : TpLine) : (s.setLine n x).banks = s.banks := (rfl)
@[simp] theorem setLine_boost (n : Nat) (x : TpLine) : (s.setLine n x).boost = s.boost := (rfl)
@[simp] theorem setLine_res (n : Nat) (x : TpLine) : (s.setLine n x).res = s.res := (rfl)
@[simp] theorem setLine_dim (n : Nat) (x : TpLine) : (s.setLine n x).dim = s.dim := (rfl)
@[simp] theorem setLine_mtx (n : Nat) (x : TpLine) : (s.setLine n x).mtx = s.mtx := (rfl)
@[simp] theorem setLine_spi (n : Nat) (x : TpLine) : (s.setLine n x).spi = s.spi := (rfl)
@[simp] theorem setLine_loops (n : Nat) (x : TpLine) : (s.setLine n x).loops = s.loops := (rfl)
@[simp] theorem setLine_adc (n : Nat) (x : TpLine) : (s.setLine n x).adc = s.adc := (rfl)
@[simp] theorem setLine_link (n : Nat) (x : TpLine) : (s.setLine n x).link = s.link := (rfl)
@[simp] theorem setLine_ring (n : Nat) (x : TpLine) : (s.setLine n x).ring = s.ring := (rfl)
@[simp] theorem setLine_ptp (n : Nat) (x : TpLine) : (s.setLine n x).ptp = s.ptp := (rfl)
@[simp] theorem setLine_mbx (n : Nat) (x : TpLine) : (s.setLine n x).mbx = s.mbx := (rfl)
@[simp] theorem setLine_sec (n : Nat) (x : TpLine) : (s.setLine n x).sec = s.sec := (rfl)
@[simp] theorem setLine_bist (n : Nat) (x : TpLine) : (s.setLine n x).bist = s.bist := (rfl)
@[simp] theorem setLine_bus (n : Nat) (x : TpLine) : (s.setLine n x).bus = s.bus := (rfl)
@[simp] theorem setLine_fspi (n : Nat) (x : TpLine) : (s.setLine n x).fspi = s.fspi := (rfl)

@[simp] theorem setOut_pending (o : Nat) (x : StoOut) : (s.setOut o x).pending = s.pending := (rfl)
@[simp] theorem setOut_regs (o : Nat) (x : StoOut) : (s.setOut o x).regs = s.regs := (rfl)
@[simp] theorem setOut_free (o : Nat) (x : StoOut) : (s.setOut o x).free = s.free := (rfl)
@[simp] theorem setOut_grid (o : Nat) (x : StoOut) : (s.setOut o x).grid = s.grid := (rfl)
@[simp] theorem setOut_time (o : Nat) (x : StoOut) : (s.setOut o x).time = s.time := (rfl)
@[simp] theorem setOut_pins (o : Nat) (x : StoOut) : (s.setOut o x).pins = s.pins := (rfl)
@[simp] theorem setOut_icu (o : Nat) (x : StoOut) : (s.setOut o x).icu = s.icu := (rfl)
@[simp] theorem setOut_evt (o : Nat) (x : StoOut) : (s.setOut o x).evt = s.evt := (rfl)
@[simp] theorem setOut_nw (o : Nat) (x : StoOut) : (s.setOut o x).nw = s.nw := (rfl)
@[simp] theorem setOut_mem (o : Nat) (x : StoOut) : (s.setOut o x).mem = s.mem := (rfl)
@[simp] theorem setOut_cap (o : Nat) (x : StoOut) : (s.setOut o x).cap = s.cap := (rfl)
@[simp] theorem setOut_life (o : Nat) (x : StoOut) : (s.setOut o x).life = s.life := (rfl)
@[simp] theorem setOut_pwr (o : Nat) (x : StoOut) : (s.setOut o x).pwr = s.pwr := (rfl)
@[simp] theorem setOut_obs (o : Nat) (x : StoOut) : (s.setOut o x).obs = s.obs := (rfl)
@[simp] theorem setOut_rule (o : Nat) (x : StoOut) : (s.setOut o x).rule = s.rule := (rfl)
@[simp] theorem setOut_cfg (o : Nat) (x : StoOut) : (s.setOut o x).cfg = s.cfg := (rfl)
@[simp] theorem setOut_ctx (o : Nat) (x : StoOut) : (s.setOut o x).ctx = s.ctx := (rfl)
@[simp] theorem setOut_chans (o : Nat) (x : StoOut) : (s.setOut o x).chans = s.chans := (rfl)
@[simp] theorem setOut_banks (o : Nat) (x : StoOut) : (s.setOut o x).banks = s.banks := (rfl)
@[simp] theorem setOut_boost (o : Nat) (x : StoOut) : (s.setOut o x).boost = s.boost := (rfl)
@[simp] theorem setOut_res (o : Nat) (x : StoOut) : (s.setOut o x).res = s.res := (rfl)
@[simp] theorem setOut_dim (o : Nat) (x : StoOut) : (s.setOut o x).dim = s.dim := (rfl)
@[simp] theorem setOut_mtx (o : Nat) (x : StoOut) : (s.setOut o x).mtx = s.mtx := (rfl)
@[simp] theorem setOut_spi (o : Nat) (x : StoOut) : (s.setOut o x).spi = s.spi := (rfl)
@[simp] theorem setOut_loops (o : Nat) (x : StoOut) : (s.setOut o x).loops = s.loops := (rfl)
@[simp] theorem setOut_adc (o : Nat) (x : StoOut) : (s.setOut o x).adc = s.adc := (rfl)
@[simp] theorem setOut_link (o : Nat) (x : StoOut) : (s.setOut o x).link = s.link := (rfl)
@[simp] theorem setOut_ring (o : Nat) (x : StoOut) : (s.setOut o x).ring = s.ring := (rfl)
@[simp] theorem setOut_ptp (o : Nat) (x : StoOut) : (s.setOut o x).ptp = s.ptp := (rfl)
@[simp] theorem setOut_mbx (o : Nat) (x : StoOut) : (s.setOut o x).mbx = s.mbx := (rfl)
@[simp] theorem setOut_sec (o : Nat) (x : StoOut) : (s.setOut o x).sec = s.sec := (rfl)
@[simp] theorem setOut_bist (o : Nat) (x : StoOut) : (s.setOut o x).bist = s.bist := (rfl)
@[simp] theorem setOut_bus (o : Nat) (x : StoOut) : (s.setOut o x).bus = s.bus := (rfl)
@[simp] theorem setOut_fspi (o : Nat) (x : StoOut) : (s.setOut o x).fspi = s.fspi := (rfl)

@[simp] theorem endElev_pending (c : Nat) : (s.endElev c).pending = s.pending := (rfl)
@[simp] theorem endElev_regs (c : Nat) : (s.endElev c).regs = s.regs := (rfl)
@[simp] theorem endElev_free (c : Nat) : (s.endElev c).free = s.free := (rfl)
@[simp] theorem endElev_grid (c : Nat) : (s.endElev c).grid = s.grid := (rfl)
@[simp] theorem endElev_time (c : Nat) : (s.endElev c).time = s.time := (rfl)
@[simp] theorem endElev_pins (c : Nat) : (s.endElev c).pins = s.pins := (rfl)
@[simp] theorem endElev_icu (c : Nat) : (s.endElev c).icu = s.icu := (rfl)
@[simp] theorem endElev_evt (c : Nat) : (s.endElev c).evt = s.evt := (rfl)
@[simp] theorem endElev_nw (c : Nat) : (s.endElev c).nw = s.nw := (rfl)
@[simp] theorem endElev_mem (c : Nat) : (s.endElev c).mem = s.mem := (rfl)
@[simp] theorem endElev_cap (c : Nat) : (s.endElev c).cap = s.cap := (rfl)
@[simp] theorem endElev_life (c : Nat) : (s.endElev c).life = s.life := (rfl)
@[simp] theorem endElev_pwr (c : Nat) : (s.endElev c).pwr = s.pwr := (rfl)
@[simp] theorem endElev_obs (c : Nat) : (s.endElev c).obs = s.obs := (rfl)
@[simp] theorem endElev_rule (c : Nat) : (s.endElev c).rule = s.rule := (rfl)
@[simp] theorem endElev_cfg (c : Nat) : (s.endElev c).cfg = s.cfg := (rfl)
@[simp] theorem endElev_ctx (c : Nat) : (s.endElev c).ctx = s.ctx := (rfl)
@[simp] theorem endElev_chans (c : Nat) : (s.endElev c).chans = s.chans := (rfl)
@[simp] theorem endElev_banks (c : Nat) : (s.endElev c).banks = s.banks := (rfl)
@[simp] theorem endElev_boost (c : Nat) : (s.endElev c).boost = s.boost := (rfl)
@[simp] theorem endElev_res (c : Nat) : (s.endElev c).res = s.res := (rfl)
@[simp] theorem endElev_dim (c : Nat) : (s.endElev c).dim = s.dim := (rfl)
@[simp] theorem endElev_mtx (c : Nat) : (s.endElev c).mtx = s.mtx := (rfl)
@[simp] theorem endElev_spi (c : Nat) : (s.endElev c).spi = s.spi := (rfl)
@[simp] theorem endElev_loops (c : Nat) : (s.endElev c).loops = s.loops := (rfl)
@[simp] theorem endElev_adc (c : Nat) : (s.endElev c).adc = s.adc := (rfl)
@[simp] theorem endElev_sto (c : Nat) : (s.endElev c).sto = s.sto := (rfl)
@[simp] theorem endElev_link (c : Nat) : (s.endElev c).link = s.link := (rfl)
@[simp] theorem endElev_ring (c : Nat) : (s.endElev c).ring = s.ring := (rfl)
@[simp] theorem endElev_ptp (c : Nat) : (s.endElev c).ptp = s.ptp := (rfl)
@[simp] theorem endElev_mbx (c : Nat) : (s.endElev c).mbx = s.mbx := (rfl)
@[simp] theorem endElev_bist (c : Nat) : (s.endElev c).bist = s.bist := (rfl)
@[simp] theorem endElev_bus (c : Nat) : (s.endElev c).bus = s.bus := (rfl)
@[simp] theorem endElev_fspi (c : Nat) : (s.endElev c).fspi = s.fspi := (rfl)

@[simp] theorem dropNonce_pending (c : Nat) : (s.dropNonce c).pending = s.pending := (rfl)
@[simp] theorem dropNonce_regs (c : Nat) : (s.dropNonce c).regs = s.regs := (rfl)
@[simp] theorem dropNonce_free (c : Nat) : (s.dropNonce c).free = s.free := (rfl)
@[simp] theorem dropNonce_grid (c : Nat) : (s.dropNonce c).grid = s.grid := (rfl)
@[simp] theorem dropNonce_time (c : Nat) : (s.dropNonce c).time = s.time := (rfl)
@[simp] theorem dropNonce_pins (c : Nat) : (s.dropNonce c).pins = s.pins := (rfl)
@[simp] theorem dropNonce_icu (c : Nat) : (s.dropNonce c).icu = s.icu := (rfl)
@[simp] theorem dropNonce_evt (c : Nat) : (s.dropNonce c).evt = s.evt := (rfl)
@[simp] theorem dropNonce_nw (c : Nat) : (s.dropNonce c).nw = s.nw := (rfl)
@[simp] theorem dropNonce_mem (c : Nat) : (s.dropNonce c).mem = s.mem := (rfl)
@[simp] theorem dropNonce_cap (c : Nat) : (s.dropNonce c).cap = s.cap := (rfl)
@[simp] theorem dropNonce_life (c : Nat) : (s.dropNonce c).life = s.life := (rfl)
@[simp] theorem dropNonce_pwr (c : Nat) : (s.dropNonce c).pwr = s.pwr := (rfl)
@[simp] theorem dropNonce_obs (c : Nat) : (s.dropNonce c).obs = s.obs := (rfl)
@[simp] theorem dropNonce_rule (c : Nat) : (s.dropNonce c).rule = s.rule := (rfl)
@[simp] theorem dropNonce_cfg (c : Nat) : (s.dropNonce c).cfg = s.cfg := (rfl)
@[simp] theorem dropNonce_ctx (c : Nat) : (s.dropNonce c).ctx = s.ctx := (rfl)
@[simp] theorem dropNonce_chans (c : Nat) : (s.dropNonce c).chans = s.chans := (rfl)
@[simp] theorem dropNonce_banks (c : Nat) : (s.dropNonce c).banks = s.banks := (rfl)
@[simp] theorem dropNonce_boost (c : Nat) : (s.dropNonce c).boost = s.boost := (rfl)
@[simp] theorem dropNonce_res (c : Nat) : (s.dropNonce c).res = s.res := (rfl)
@[simp] theorem dropNonce_dim (c : Nat) : (s.dropNonce c).dim = s.dim := (rfl)
@[simp] theorem dropNonce_mtx (c : Nat) : (s.dropNonce c).mtx = s.mtx := (rfl)
@[simp] theorem dropNonce_spi (c : Nat) : (s.dropNonce c).spi = s.spi := (rfl)
@[simp] theorem dropNonce_loops (c : Nat) : (s.dropNonce c).loops = s.loops := (rfl)
@[simp] theorem dropNonce_adc (c : Nat) : (s.dropNonce c).adc = s.adc := (rfl)
@[simp] theorem dropNonce_sto (c : Nat) : (s.dropNonce c).sto = s.sto := (rfl)
@[simp] theorem dropNonce_link (c : Nat) : (s.dropNonce c).link = s.link := (rfl)
@[simp] theorem dropNonce_ring (c : Nat) : (s.dropNonce c).ring = s.ring := (rfl)
@[simp] theorem dropNonce_ptp (c : Nat) : (s.dropNonce c).ptp = s.ptp := (rfl)
@[simp] theorem dropNonce_mbx (c : Nat) : (s.dropNonce c).mbx = s.mbx := (rfl)
@[simp] theorem dropNonce_bist (c : Nat) : (s.dropNonce c).bist = s.bist := (rfl)
@[simp] theorem dropNonce_bus (c : Nat) : (s.dropNonce c).bus = s.bus := (rfl)
@[simp] theorem dropNonce_fspi (c : Nat) : (s.dropNonce c).fspi = s.fspi := (rfl)
@[simp] theorem setBist_same (x : Bist) : (s.setBist x).bist = x := (rfl)
@[simp] theorem setCfg_same (x : Cfg) : (s.setCfg x).cfg = x := (rfl)
@[simp] theorem setNw_same (x : Nightwatch) : (s.setNw x).nw = x := (rfl)
@[simp] theorem setLink_same (x : Link) : (s.setLink x).link = x := (rfl)
@[simp] theorem setMbx_same (x : Mbx) : (s.setMbx x).mbx = x := (rfl)
@[simp] theorem setPtp_same (x : Ptp) : (s.setPtp x).ptp = x := (rfl)
@[simp] theorem setRing_same (x : Ring) : (s.setRing x).ring = x := (rfl)
@[simp] theorem setSec_same (x : Sec) : (s.setSec x).sec = x := (rfl)
@[simp] theorem setSpi_same (x : Spi) : (s.setSpi x).spi = x := (rfl)

-- Registers under updates of other fields

@[simp] theorem memPut_rd (a : Nat) (b : Byte) (r : Nat) : (s.memPut a b).rd r = s.rd r := (rfl)
@[simp] theorem memPut_get (a : Nat) (b : Byte) (g : Fld) : (s.memPut a b).get g = s.get g := (rfl)
@[simp] theorem memPut_flag (a : Nat) (b : Byte) (g : Fld) : (s.memPut a b).flag g = s.flag g := (rfl)
@[simp] theorem lifeAcc_rd (o n : Nat) (r : Nat) : (s.lifeAcc o n).rd r = s.rd r := (rfl)
@[simp] theorem lifeAcc_get (o n : Nat) (g : Fld) : (s.lifeAcc o n).get g = s.get g := (rfl)
@[simp] theorem lifeAcc_flag (o n : Nat) (g : Fld) : (s.lifeAcc o n).flag g = s.flag g := (rfl)
@[simp] theorem refreshIcu_rd (r : Nat) : (s.refreshIcu).rd r = s.rd r := (rfl)
@[simp] theorem refreshIcu_get (g : Fld) : (s.refreshIcu).get g = s.get g := (rfl)
@[simp] theorem refreshIcu_flag (g : Fld) : (s.refreshIcu).flag g = s.flag g := (rfl)
@[simp] theorem pendSet_rd (k : Nat) (x : Word) (r : Nat) : (s.pendSet k x).rd r = s.rd r := (rfl)
@[simp] theorem pendSet_get (k : Nat) (x : Word) (g : Fld) : (s.pendSet k x).get g = s.get g := (rfl)
@[simp] theorem pendSet_flag (k : Nat) (x : Word) (g : Fld) : (s.pendSet k x).flag g = s.flag g := (rfl)
@[simp] theorem pendClr_rd (k : Nat) (x : Word) (r : Nat) : (s.pendClr k x).rd r = s.rd r := (rfl)
@[simp] theorem pendClr_get (k : Nat) (x : Word) (g : Fld) : (s.pendClr k x).get g = s.get g := (rfl)
@[simp] theorem pendClr_flag (k : Nat) (x : Word) (g : Fld) : (s.pendClr k x).flag g = s.flag g := (rfl)
@[simp] theorem setConv_rd (k : Nat) (x : Conv) (r : Nat) : (s.setConv k x).rd r = s.rd r := (rfl)
@[simp] theorem setConv_get (k : Nat) (x : Conv) (g : Fld) : (s.setConv k x).get g = s.get g := (rfl)
@[simp] theorem setConv_flag (k : Nat) (x : Conv) (g : Fld) : (s.setConv k x).flag g = s.flag g := (rfl)
@[simp] theorem setPair_rd (k : Nat) (x : AdcPair) (r : Nat) : (s.setPair k x).rd r = s.rd r := (rfl)
@[simp] theorem setPair_get (k : Nat) (x : AdcPair) (g : Fld) : (s.setPair k x).get g = s.get g := (rfl)
@[simp] theorem setPair_flag (k : Nat) (x : AdcPair) (g : Fld) : (s.setPair k x).flag g = s.flag g := (rfl)
@[simp] theorem setBist_rd (x : Bist) (r : Nat) : (s.setBist x).rd r = s.rd r := (rfl)
@[simp] theorem setBist_get (x : Bist) (g : Fld) : (s.setBist x).get g = s.get g := (rfl)
@[simp] theorem setBist_flag (x : Bist) (g : Fld) : (s.setBist x).flag g = s.flag g := (rfl)
@[simp] theorem setSubRing_rd (k : Nat) (x : CapRing) (r : Nat) : (s.setSubRing k x).rd r = s.rd r := (rfl)
@[simp] theorem setSubRing_get (k : Nat) (x : CapRing) (g : Fld) : (s.setSubRing k x).get g = s.get g := (rfl)
@[simp] theorem setSubRing_flag (k : Nat) (x : CapRing) (g : Fld) : (s.setSubRing k x).flag g = s.flag g := (rfl)
@[simp] theorem setCfg_rd (x : Cfg) (r : Nat) : (s.setCfg x).rd r = s.rd r := (rfl)
@[simp] theorem setCfg_get (x : Cfg) (g : Fld) : (s.setCfg x).get g = s.get g := (rfl)
@[simp] theorem setCfg_flag (x : Cfg) (g : Fld) : (s.setCfg x).flag g = s.flag g := (rfl)
@[simp] theorem setCfgSlot_rd (i : Nat) (x : CfgSlot) (r : Nat) : (s.setCfgSlot i x).rd r = s.rd r := (rfl)
@[simp] theorem setCfgSlot_get (i : Nat) (x : CfgSlot) (g : Fld) : (s.setCfgSlot i x).get g = s.get g := (rfl)
@[simp] theorem setCfgSlot_flag (i : Nat) (x : CfgSlot) (g : Fld) : (s.setCfgSlot i x).flag g = s.flag g := (rfl)
@[simp] theorem setChan_rd (c : Nat) (x : Chan) (r : Nat) : (s.setChan c x).rd r = s.rd r := (rfl)
@[simp] theorem setChan_get (c : Nat) (x : Chan) (g : Fld) : (s.setChan c x).get g = s.get g := (rfl)
@[simp] theorem setChan_flag (c : Nat) (x : Chan) (g : Fld) : (s.setChan c x).flag g = s.flag g := (rfl)
@[simp] theorem setBank_rd (n : Nat) (x : Bank) (r : Nat) : (s.setBank n x).rd r = s.rd r := (rfl)
@[simp] theorem setBank_get (n : Nat) (x : Bank) (g : Fld) : (s.setBank n x).get g = s.get g := (rfl)
@[simp] theorem setBank_flag (n : Nat) (x : Bank) (g : Fld) : (s.setBank n x).flag g = s.flag g := (rfl)
@[simp] theorem setAsp_rd (n : Nat) (x : Asp) (r : Nat) : (s.setAsp n x).rd r = s.rd r := (rfl)
@[simp] theorem setAsp_get (n : Nat) (x : Asp) (g : Fld) : (s.setAsp n x).get g = s.get g := (rfl)
@[simp] theorem setAsp_flag (n : Nat) (x : Asp) (g : Fld) : (s.setAsp n x).flag g = s.flag g := (rfl)
@[simp] theorem setLed_rd (e : Nat) (x : Led) (r : Nat) : (s.setLed e x).rd r = s.rd r := (rfl)
@[simp] theorem setLed_get (e : Nat) (x : Led) (g : Fld) : (s.setLed e x).get g = s.get g := (rfl)
@[simp] theorem setLed_flag (e : Nat) (x : Led) (g : Fld) : (s.setLed e x).flag g = s.flag g := (rfl)
@[simp] theorem setNw_rd (x : Nightwatch) (r : Nat) : (s.setNw x).rd r = s.rd r := (rfl)
@[simp] theorem setNw_get (x : Nightwatch) (g : Fld) : (s.setNw x).get g = s.get g := (rfl)
@[simp] theorem setNw_flag (x : Nightwatch) (g : Fld) : (s.setNw x).flag g = s.flag g := (rfl)
@[simp] theorem setLink_rd (x : Link) (r : Nat) : (s.setLink x).rd r = s.rd r := (rfl)
@[simp] theorem setLink_get (x : Link) (g : Fld) : (s.setLink x).get g = s.get g := (rfl)
@[simp] theorem setLink_flag (x : Link) (g : Fld) : (s.setLink x).flag g = s.flag g := (rfl)
@[simp] theorem setLoop_rd (n : Nat) (x : LoopSlot) (r : Nat) : (s.setLoop n x).rd r = s.rd r := (rfl)
@[simp] theorem setLoop_get (n : Nat) (x : LoopSlot) (g : Fld) : (s.setLoop n x).get g = s.get g := (rfl)
@[simp] theorem setLoop_flag (n : Nat) (x : LoopSlot) (g : Fld) : (s.setLoop n x).flag g = s.flag g := (rfl)
@[simp] theorem setMbx_rd (x : Mbx) (r : Nat) : (s.setMbx x).rd r = s.rd r := (rfl)
@[simp] theorem setMbx_get (x : Mbx) (g : Fld) : (s.setMbx x).get g = s.get g := (rfl)
@[simp] theorem setMbx_flag (x : Mbx) (g : Fld) : (s.setMbx x).flag g = s.flag g := (rfl)
@[simp] theorem setRingCtx_rd (c : Nat) (x : RingCtx) (r : Nat) : (s.setRingCtx c x).rd r = s.rd r := (rfl)
@[simp] theorem setRingCtx_get (c : Nat) (x : RingCtx) (g : Fld) : (s.setRingCtx c x).get g = s.get g := (rfl)
@[simp] theorem setRingCtx_flag (c : Nat) (x : RingCtx) (g : Fld) : (s.setRingCtx c x).flag g = s.flag g := (rfl)
@[simp] theorem setPtp_rd (x : Ptp) (r : Nat) : (s.setPtp x).rd r = s.rd r := (rfl)
@[simp] theorem setPtp_get (x : Ptp) (g : Fld) : (s.setPtp x).get g = s.get g := (rfl)
@[simp] theorem setPtp_flag (x : Ptp) (g : Fld) : (s.setPtp x).flag g = s.flag g := (rfl)
@[simp] theorem setRing_rd (x : Ring) (r : Nat) : (s.setRing x).rd r = s.rd r := (rfl)
@[simp] theorem setRing_get (x : Ring) (g : Fld) : (s.setRing x).get g = s.get g := (rfl)
@[simp] theorem setRing_flag (x : Ring) (g : Fld) : (s.setRing x).flag g = s.flag g := (rfl)
@[simp] theorem setPort_rd (p : Nat) (x : RingPort) (r : Nat) : (s.setPort p x).rd r = s.rd r := (rfl)
@[simp] theorem setPort_get (p : Nat) (x : RingPort) (g : Fld) : (s.setPort p x).get g = s.get g := (rfl)
@[simp] theorem setPort_flag (p : Nat) (x : RingPort) (g : Fld) : (s.setPort p x).flag g = s.flag g := (rfl)
@[simp] theorem setEgress_rd (p : Nat) (x : Egress) (r : Nat) : (s.setEgress p x).rd r = s.rd r := (rfl)
@[simp] theorem setEgress_get (p : Nat) (x : Egress) (g : Fld) : (s.setEgress p x).get g = s.get g := (rfl)
@[simp] theorem setEgress_flag (p : Nat) (x : Egress) (g : Fld) : (s.setEgress p x).flag g = s.flag g := (rfl)
@[simp] theorem setLaunch_rd (d : Nat) (x : Launch) (r : Nat) : (s.setLaunch d x).rd r = s.rd r := (rfl)
@[simp] theorem setLaunch_get (d : Nat) (x : Launch) (g : Fld) : (s.setLaunch d x).get g = s.get g := (rfl)
@[simp] theorem setLaunch_flag (d : Nat) (x : Launch) (g : Fld) : (s.setLaunch d x).flag g = s.flag g := (rfl)
@[simp] theorem setCopy_rd (c : Nat) (x : CtxCopy) (r : Nat) : (s.setCopy c x).rd r = s.rd r := (rfl)
@[simp] theorem setCopy_get (c : Nat) (x : CtxCopy) (g : Fld) : (s.setCopy c x).get g = s.get g := (rfl)
@[simp] theorem setCopy_flag (c : Nat) (x : CtxCopy) (g : Fld) : (s.setCopy c x).flag g = s.flag g := (rfl)
@[simp] theorem setSec_rd (x : Sec) (r : Nat) : (s.setSec x).rd r = s.rd r := (rfl)
@[simp] theorem setSec_get (x : Sec) (g : Fld) : (s.setSec x).get g = s.get g := (rfl)
@[simp] theorem setSec_flag (x : Sec) (g : Fld) : (s.setSec x).flag g = s.flag g := (rfl)
@[simp] theorem setFwSlot_rd (i : Nat) (x : FwSlot) (r : Nat) : (s.setFwSlot i x).rd r = s.rd r := (rfl)
@[simp] theorem setFwSlot_get (i : Nat) (x : FwSlot) (g : Fld) : (s.setFwSlot i x).get g = s.get g := (rfl)
@[simp] theorem setFwSlot_flag (i : Nat) (x : FwSlot) (g : Fld) : (s.setFwSlot i x).flag g = s.flag g := (rfl)
@[simp] theorem setSpi_rd (x : Spi) (r : Nat) : (s.setSpi x).rd r = s.rd r := (rfl)
@[simp] theorem setSpi_get (x : Spi) (g : Fld) : (s.setSpi x).get g = s.get g := (rfl)
@[simp] theorem setSpi_flag (x : Spi) (g : Fld) : (s.setSpi x).flag g = s.flag g := (rfl)
@[simp] theorem setSin_rd (c : Nat) (x : SafeIn) (r : Nat) : (s.setSin c x).rd r = s.rd r := (rfl)
@[simp] theorem setSin_get (c : Nat) (x : SafeIn) (g : Fld) : (s.setSin c x).get g = s.get g := (rfl)
@[simp] theorem setSin_flag (c : Nat) (x : SafeIn) (g : Fld) : (s.setSin c x).flag g = s.flag g := (rfl)
@[simp] theorem setSpair_rd (p : Nat) (x : SafePair) (r : Nat) : (s.setSpair p x).rd r = s.rd r := (rfl)
@[simp] theorem setSpair_get (p : Nat) (x : SafePair) (g : Fld) : (s.setSpair p x).get g = s.get g := (rfl)
@[simp] theorem setSpair_flag (p : Nat) (x : SafePair) (g : Fld) : (s.setSpair p x).flag g = s.flag g := (rfl)
@[simp] theorem setLine_rd (n : Nat) (x : TpLine) (r : Nat) : (s.setLine n x).rd r = s.rd r := (rfl)
@[simp] theorem setLine_get (n : Nat) (x : TpLine) (g : Fld) : (s.setLine n x).get g = s.get g := (rfl)
@[simp] theorem setLine_flag (n : Nat) (x : TpLine) (g : Fld) : (s.setLine n x).flag g = s.flag g := (rfl)
@[simp] theorem setOut_rd (o : Nat) (x : StoOut) (r : Nat) : (s.setOut o x).rd r = s.rd r := (rfl)
@[simp] theorem setOut_get (o : Nat) (x : StoOut) (g : Fld) : (s.setOut o x).get g = s.get g := (rfl)
@[simp] theorem setOut_flag (o : Nat) (x : StoOut) (g : Fld) : (s.setOut o x).flag g = s.flag g := (rfl)
@[simp] theorem endElev_rd (c : Nat) (r : Nat) : (s.endElev c).rd r = s.rd r := (rfl)
@[simp] theorem endElev_get (c : Nat) (g : Fld) : (s.endElev c).get g = s.get g := (rfl)
@[simp] theorem endElev_flag (c : Nat) (g : Fld) : (s.endElev c).flag g = s.flag g := (rfl)
@[simp] theorem dropNonce_rd (c : Nat) (r : Nat) : (s.dropNonce c).rd r = s.rd r := (rfl)
@[simp] theorem dropNonce_get (c : Nat) (g : Fld) : (s.dropNonce c).get g = s.get g := (rfl)
@[simp] theorem dropNonce_flag (c : Nat) (g : Fld) : (s.dropNonce c).flag g = s.flag g := (rfl)

-- The register laws

@[simp] theorem rd_wr_same (a v : Nat) : (s.wr a v).rd a = BitVec.ofNat 32 v := by simp [rd, wr]

theorem rd_wr_other {a b : Nat} (v : Nat) (h : b ≠ a) : (s.wr a v).rd b = s.rd b := by
  simp only [rd, wr]; exact tabGet_set_other _ _ _ h

theorem rd_put_other {f : Fld} {b : Nat} (v : Nat) (h : b ≠ f.addr) : (s.put f v).rd b = s.rd b := rd_wr_other s _ h

theorem rd_putFlag_other {f : Fld} {b : Nat} (v : Bool) (h : b ≠ f.addr) : (s.putFlag f v).rd b = s.rd b := rd_put_other s _ h

theorem rd_lt (a : Nat) : (s.rd a).toNat < 2 ^ 32 := (s.rd a).isLt

/-- A field written reads back the value, cut to its width. -/
theorem get_put_same (f : Fld) (v : Nat) (h : f.lo + f.width ≤ 32) : (s.put f v).get f = v % 2 ^ f.width := by
  have hlt := withBits_lt (v := v) (s.rd_lt f.addr) h
  simp only [get, put, rd_wr_same, BitVec.toNat_ofNat, Nat.mod_eq_of_lt hlt, bitsOf_withBits_same]

/-- A field of another register keeps its value. -/
theorem get_put_addr {f g : Fld} (v : Nat) (h : g.addr ≠ f.addr) : (s.put f v).get g = s.get g := by
  simp only [get, rd_put_other s v h]

/-- A field of the same register that lies apart keeps its value. -/
theorem get_put_apart {f g : Fld} (v : Nat) (hf : f.lo + f.width ≤ 32) (ha : g.addr = f.addr)
    (h : g.lo + g.width ≤ f.lo ∨ f.lo + f.width ≤ g.lo) : (s.put f v).get g = s.get g := by
  have hlt := withBits_lt (v := v) (s.rd_lt f.addr) hf
  simp only [get, put, ha, rd_wr_same, BitVec.toNat_ofNat, Nat.mod_eq_of_lt hlt, bitsOf_withBits_other h]

theorem flag_putFlag_same (f : Fld) (b : Bool) (h : f.lo + f.width ≤ 32) (hw : 0 < f.width) :
    (s.putFlag f b).flag f = b := by
  have h2 : 2 ≤ 2 ^ f.width := by calc 2 = 2 ^ 1 := rfl
    _ ≤ 2 ^ f.width := Nat.pow_le_pow_right (by norm_num) hw
  simp only [flag, putFlag, get_put_same s f _ h]
  cases b <;> simp [boolNat]
  omega

theorem flag_putFlag_addr {f g : Fld} (b : Bool) (h : g.addr ≠ f.addr) : (s.putFlag f b).flag g = s.flag g := by
  simp only [flag, putFlag, get_put_addr s _ h]

-- The memory die

@[simp] theorem memByte_memPut_same (a : Nat) (b : Byte) : (s.memPut a b).memByte a = b := by simp [memByte, memPut]

theorem memByte_memPut_other {a j : Nat} (b : Byte) (h : j ≠ a) : (s.memPut a b).memByte j = s.memByte j := by
  simp only [memByte, memPut]; exact tabGet_set_other _ _ _ h

/-- A write of bytes leaves every byte outside them as it was. -/
theorem memByte_memWrite_other (bs : List Byte) {a j : Nat} (h : j < a ∨ a + bs.length ≤ j) :
    (s.memWrite a bs).memByte j = s.memByte j := by
  induction bs generalizing s a with
  | nil => rfl
  | cons b bs ih =>
    simp only [memWrite, List.length_cons] at h ⊢
    rw [ih _ (by omega), memByte_memPut_other _ _ (by omega)]

/-- A write of bytes stores each of them. -/
theorem memByte_memWrite_same (bs : List Byte) {a i : Nat} (h : i < bs.length) :
    (s.memWrite a bs).memByte (a + i) = bs[i] := by
  induction bs generalizing s a i with
  | nil => simp at h
  | cons b bs ih =>
    simp only [memWrite]
    cases i with
    | zero =>
      rw [memByte_memWrite_other _ _ (by omega)]
      simp
    | succ i =>
      have := ih (s.memPut a b) (a := a + 1) (i := i) (by simpa using h)
      rw [show a + (i + 1) = a + 1 + i by omega, this]
      rfl

/-- The memory die keeps its canonical form under a byte and under bytes. -/
theorem memWf_memPut {s : State} (h : TabWf (fun _ => (0 : Byte)) s.mem) (a : Nat) (b : Byte) :
    TabWf (fun _ => (0 : Byte)) (s.memPut a b).mem := TabWf_set h a b

theorem memWf_memWrite {s : State} (h : TabWf (fun _ => (0 : Byte)) s.mem) (a : Nat) (bs : List Byte) :
    TabWf (fun _ => (0 : Byte)) (s.memWrite a bs).mem := by
  induction bs generalizing s a with
  | nil => exact h
  | cons b bs ih => exact ih (memWf_memPut h a b) (a + 1)

theorem memWf_copyRecord {s : State} (h : TabWf (fun _ => (0 : Byte)) s.mem) (j : Nat) :
    TabWf (fun _ => (0 : Byte)) (s.copyRecord j).mem := TabWf_paste h (TabWf_slice h _ _) _ _

theorem memWf_reset : TabWf (fun _ => (0 : Byte)) State.reset.mem := TabWf_nil _

end State

end Sys2Proof.Machine
end

