-- ==== Sys2Proof/Laws/Kept.lean ====
section
/-! SUPPORT. What an operation may do, in one relation: parts of the state outside a list stay as they are, the queue is left alone, no
permanent bit of the OTP store is cleared, the rollback counter never falls, and tables stay canonical. One lemma per operation follows
in the files Laws/Frames*.lean. -/

-- Proofs elaborated beside each other need more threads than the package's memory limit allows.
set_option Elab.async false

namespace Sys2Proof.Machine

theorem Same.refl (x : State) (c : Comp) : Same x x c := by cases c <;> rfl

theorem Same.trans {x y z : State} {c : Comp} (h : Same x y c) (k : Same y z c) : Same x z c := by
  cases c <;> exact Eq.trans k h

/-- `t` may follow `x` by an operation that writes no part outside `T`. -/
structure Kept (T : List Comp) (x t : State) : Prop where
  queue : t.pending = x.pending
  lock : x.sec.fieldLock = true → t.sec.fieldLock = true
  scan : x.sec.scannedEver = true → t.sec.scannedEver = true
  ctr : x.sec.ctr ≤ t.sec.ctr
  canon : x.Canon → t.Canon
  same : ∀ c, c ∉ T → Same x t c

/-- The same of a pair whose first part is a state, and of one whose second part is. -/
def Kept1 {α : Type} (T : List Comp) (x : State) (p : State × α) : Prop := Kept T x p.1
def Kept2 {α : Type} (T : List Comp) (x : State) (p : α × State) : Prop := Kept T x p.2

variable {T : List Comp} {x : State}

theorem Kept.refl (x : State) : Kept T x x := ⟨rfl, id, id, Nat.le_refl _, id, fun c _ => Same.refl x c⟩

theorem Kept.trans {y z : State} (h : Kept T x y) (k : Kept T y z) : Kept T x z :=
  ⟨k.queue.trans h.queue, k.lock ∘ h.lock, k.scan ∘ h.scan, h.ctr.trans k.ctr, k.canon ∘ h.canon,
    fun c hc => (h.same c hc).trans (k.same c hc)⟩

theorem Kept.ite {a b : State} {c : Prop} [Decidable c] (ha : Kept T x a) (hb : Kept T x b) : Kept T x (if c then a else b) := by
  split <;> assumption
theorem Kept1.ite {α : Type} {a b : State × α} {c : Prop} [Decidable c] (ha : Kept1 T x a) (hb : Kept1 T x b) :
    Kept1 T x (if c then a else b) := by split <;> assumption
theorem Kept2.ite {α : Type} {a b : α × State} {c : Prop} [Decidable c] (ha : Kept2 T x a) (hb : Kept2 T x b) :
    Kept2 T x (if c then a else b) := by split <;> assumption
theorem Kept1.mk {α : Type} {t : State} {v : α} (h : Kept T x t) : Kept1 T x (t, v) := h
theorem Kept2.mk {α : Type} {t : State} {v : α} (h : Kept T x t) : Kept2 T x (v, t) := h
theorem Kept.fst {α : Type} {p : State × α} (h : Kept1 T x p) : Kept T x p.1 := h
theorem Kept.snd {α : Type} {p : α × State} (h : Kept2 T x p) : Kept T x p.2 := h
theorem Kept.eq1 {α : Type} {t : State} {v : α} {p : State × α} (e : p = (t, v)) (h : Kept1 T x p) : Kept T x t := by
  subst e; exact h
theorem Kept.eq2 {α : Type} {t : State} {v : α} {p : α × State} (e : p = (v, t)) (h : Kept2 T x p) : Kept T x t := by
  subst e; exact h

theorem Kept.fold {β : Type} {s : State} {g : State → β → State} {l : List β}
    (h : ∀ t b, Kept T x t → Kept T x (g t b)) (hs : Kept T x s) : Kept T x (l.foldl g s) := by
  induction l generalizing s with
  | nil => exact hs
  | cons b l ih => exact ih (h _ _ hs)
theorem Kept1.fold {α β : Type} {s : State × α} {g : State × α → β → State × α} {l : List β}
    (h : ∀ t b, Kept1 T x t → Kept1 T x (g t b)) (hs : Kept1 T x s) : Kept1 T x (l.foldl g s) := by
  induction l generalizing s with
  | nil => exact hs
  | cons b l ih => exact ih (h _ _ hs)
theorem Kept2.fold {α β : Type} {s : α × State} {g : α × State → β → α × State} {l : List β}
    (h : ∀ t b, Kept2 T x t → Kept2 T x (g t b)) (hs : Kept2 T x s) : Kept2 T x (l.foldl g s) := by
  induction l generalizing s with
  | nil => exact hs
  | cons b l ih => exact ih (h _ _ hs)

-- An update of one part

theorem Kept.upd_free {s : State} {v : Nat} (h : Kept T x s) (hT : Comp.free ∈ T) : Kept T x { s with free := v } :=
  ⟨h.queue, h.lock, h.scan, h.ctr, h.canon, fun c hc => by cases c <;> first | exact absurd hT hc | exact h.same _ hc⟩
theorem Kept.upd_grid {s : State} {v : Grid} (h : Kept T x s) (hT : Comp.grid ∈ T) : Kept T x { s with grid := v } :=
  ⟨h.queue, h.lock, h.scan, h.ctr, h.canon, fun c hc => by cases c <;> first | exact absurd hT hc | exact h.same _ hc⟩
theorem Kept.upd_time {s : State} {v : TimeBase} (h : Kept T x s) (hT : Comp.time ∈ T) : Kept T x { s with time := v } :=
  ⟨h.queue, h.lock, h.scan, h.ctr, h.canon, fun c hc => by cases c <;> first | exact absurd hT hc | exact h.same _ hc⟩
theorem Kept.upd_pins {s : State} {v : Pins} (h : Kept T x s) (hT : Comp.pins ∈ T) : Kept T x { s with pins := v } :=
  ⟨h.queue, h.lock, h.scan, h.ctr, h.canon, fun c hc => by cases c <;> first | exact absurd hT hc | exact h.same _ hc⟩
theorem Kept.upd_icu {s : State} {v : Icu} (h : Kept T x s) (hT : Comp.icu ∈ T) : Kept T x { s with icu := v } :=
  ⟨h.queue, h.lock, h.scan, h.ctr, h.canon, fun c hc => by cases c <;> first | exact absurd hT hc | exact h.same _ hc⟩
theorem Kept.upd_evt {s : State} {v : EvtLog} (h : Kept T x s) (hT : Comp.evt ∈ T) : Kept T x { s with evt := v } :=
  ⟨h.queue, h.lock, h.scan, h.ctr, h.canon, fun c hc => by cases c <;> first | exact absurd hT hc | exact h.same _ hc⟩
theorem Kept.upd_nw {s : State} {v : Nightwatch} (h : Kept T x s) (hT : Comp.nw ∈ T) : Kept T x { s with nw := v } :=
  ⟨h.queue, h.lock, h.scan, h.ctr, h.canon, fun c hc => by cases c <;> first | exact absurd hT hc | exact h.same _ hc⟩
theorem Kept.upd_cap {s : State} {v : Capture} (h : Kept T x s) (hT : Comp.cap ∈ T) : Kept T x { s with cap := v } :=
  ⟨h.queue, h.lock, h.scan, h.ctr, h.canon, fun c hc => by cases c <;> first | exact absurd hT hc | exact h.same _ hc⟩
theorem Kept.upd_pwr {s : State} {v : Power} (h : Kept T x s) (hT : Comp.pwr ∈ T) : Kept T x { s with pwr := v } :=
  ⟨h.queue, h.lock, h.scan, h.ctr, h.canon, fun c hc => by cases c <;> first | exact absurd hT hc | exact h.same _ hc⟩
theorem Kept.upd_obs {s : State} {v : Obs} (h : Kept T x s) (hT : Comp.obs ∈ T) : Kept T x { s with obs := v } :=
  ⟨h.queue, h.lock, h.scan, h.ctr, h.canon, fun c hc => by cases c <;> first | exact absurd hT hc | exact h.same _ hc⟩
theorem Kept.upd_rule {s : State} {v : RuleEng} (h : Kept T x s) (hT : Comp.rule ∈ T) : Kept T x { s with rule := v } :=
  ⟨h.queue, h.lock, h.scan, h.ctr, h.canon, fun c hc => by cases c <;> first | exact absurd hT hc | exact h.same _ hc⟩
theorem Kept.upd_cfg {s : State} {v : Cfg} (h : Kept T x s) (hT : Comp.cfg ∈ T) : Kept T x { s with cfg := v } :=
  ⟨h.queue, h.lock, h.scan, h.ctr, h.canon, fun c hc => by cases c <;> first | exact absurd hT hc | exact h.same _ hc⟩
theorem Kept.upd_ctx {s : State} {v : Tab CtxCopy} (h : Kept T x s) (hT : Comp.ctx ∈ T) : Kept T x { s with ctx := v } :=
  ⟨h.queue, h.lock, h.scan, h.ctr, h.canon, fun c hc => by cases c <;> first | exact absurd hT hc | exact h.same _ hc⟩
theorem Kept.upd_chans {s : State} {v : Tab Chan} (h : Kept T x s) (hT : Comp.chans ∈ T) : Kept T x { s with chans := v } :=
  ⟨h.queue, h.lock, h.scan, h.ctr, h.canon, fun c hc => by cases c <;> first | exact absurd hT hc | exact h.same _ hc⟩
theorem Kept.upd_banks {s : State} {v : Tab Bank} (h : Kept T x s) (hT : Comp.banks ∈ T) : Kept T x { s with banks := v } :=
  ⟨h.queue, h.lock, h.scan, h.ctr, h.canon, fun c hc => by cases c <;> first | exact absurd hT hc | exact h.same _ hc⟩
theorem Kept.upd_boost {s : State} {v : Boost} (h : Kept T x s) (hT : Comp.boost ∈ T) : Kept T x { s with boost := v } :=
  ⟨h.queue, h.lock, h.scan, h.ctr, h.canon, fun c hc => by cases c <;> first | exact absurd hT hc | exact h.same _ hc⟩
theorem Kept.upd_res {s : State} {v : Resolver} (h : Kept T x s) (hT : Comp.res ∈ T) : Kept T x { s with res := v } :=
  ⟨h.queue, h.lock, h.scan, h.ctr, h.canon, fun c hc => by cases c <;> first | exact absurd hT hc | exact h.same _ hc⟩
theorem Kept.upd_dim {s : State} {v : Dim} (h : Kept T x s) (hT : Comp.dim ∈ T) : Kept T x { s with dim := v } :=
  ⟨h.queue, h.lock, h.scan, h.ctr, h.canon, fun c hc => by cases c <;> first | exact absurd hT hc | exact h.same _ hc⟩
theorem Kept.upd_mtx {s : State} {v : Matrix} (h : Kept T x s) (hT : Comp.mtx ∈ T) : Kept T x { s with mtx := v } :=
  ⟨h.queue, h.lock, h.scan, h.ctr, h.canon, fun c hc => by cases c <;> first | exact absurd hT hc | exact h.same _ hc⟩
theorem Kept.upd_spi {s : State} {v : Spi} (h : Kept T x s) (hT : Comp.spi ∈ T) : Kept T x { s with spi := v } :=
  ⟨h.queue, h.lock, h.scan, h.ctr, h.canon, fun c hc => by cases c <;> first | exact absurd hT hc | exact h.same _ hc⟩
theorem Kept.upd_loops {s : State} {v : Loops} (h : Kept T x s) (hT : Comp.loops ∈ T) : Kept T x { s with loops := v } :=
  ⟨h.queue, h.lock, h.scan, h.ctr, h.canon, fun c hc => by cases c <;> first | exact absurd hT hc | exact h.same _ hc⟩
theorem Kept.upd_adc {s : State} {v : Adc} (h : Kept T x s) (hT : Comp.adc ∈ T) : Kept T x { s with adc := v } :=
  ⟨h.queue, h.lock, h.scan, h.ctr, h.canon, fun c hc => by cases c <;> first | exact absurd hT hc | exact h.same _ hc⟩
theorem Kept.upd_sto {s : State} {v : Sto} (h : Kept T x s) (hT : Comp.sto ∈ T) : Kept T x { s with sto := v } :=
  ⟨h.queue, h.lock, h.scan, h.ctr, h.canon, fun c hc => by cases c <;> first | exact absurd hT hc | exact h.same _ hc⟩
theorem Kept.upd_link {s : State} {v : Link} (h : Kept T x s) (hT : Comp.link ∈ T) : Kept T x { s with link := v } :=
  ⟨h.queue, h.lock, h.scan, h.ctr, h.canon, fun c hc => by cases c <;> first | exact absurd hT hc | exact h.same _ hc⟩
theorem Kept.upd_ring {s : State} {v : Ring} (h : Kept T x s) (hT : Comp.ring ∈ T) : Kept T x { s with ring := v } :=
  ⟨h.queue, h.lock, h.scan, h.ctr, h.canon, fun c hc => by cases c <;> first | exact absurd hT hc | exact h.same _ hc⟩
theorem Kept.upd_ptp {s : State} {v : Ptp} (h : Kept T x s) (hT : Comp.ptp ∈ T) : Kept T x { s with ptp := v } :=
  ⟨h.queue, h.lock, h.scan, h.ctr, h.canon, fun c hc => by cases c <;> first | exact absurd hT hc | exact h.same _ hc⟩
theorem Kept.upd_mbx {s : State} {v : Mbx} (h : Kept T x s) (hT : Comp.mbx ∈ T) : Kept T x { s with mbx := v } :=
  ⟨h.queue, h.lock, h.scan, h.ctr, h.canon, fun c hc => by cases c <;> first | exact absurd hT hc | exact h.same _ hc⟩
theorem Kept.upd_bist {s : State} {v : Bist} (h : Kept T x s) (hT : Comp.bist ∈ T) : Kept T x { s with bist := v } :=
  ⟨h.queue, h.lock, h.scan, h.ctr, h.canon, fun c hc => by cases c <;> first | exact absurd hT hc | exact h.same _ hc⟩
theorem Kept.upd_fspi {s : State} {v : Fspi} (h : Kept T x s) (hT : Comp.fspi ∈ T) : Kept T x { s with fspi := v } :=
  ⟨h.queue, h.lock, h.scan, h.ctr, h.canon, fun c hc => by cases c <;> first | exact absurd hT hc | exact h.same _ hc⟩
theorem Kept.upd_bus {s : State} {v : List Byte} (h : Kept T x s) (hT : Comp.bus ∈ T) : Kept T x { s with bus := v } :=
  ⟨h.queue, h.lock, h.scan, h.ctr, h.canon, fun c hc => by cases c <;> first | exact absurd hT hc | exact h.same _ hc⟩

theorem Kept.upd_mem {s : State} (m : List Host.Cell) (h : Kept T x s) (hT : Comp.mem ∈ T)
    (hm : s.Canon → TabWf (fun _ => (0 : Byte)) m) : Kept T x { s with mem := m } :=
  ⟨h.queue, h.lock, h.scan, h.ctr, fun k => ⟨(h.canon k).1, hm (h.canon k), (h.canon k).2.2⟩,
    fun c hc => by cases c <;> first | exact absurd hT hc | exact h.same _ hc⟩

theorem Kept.upd_regs {s : State} (m : Tab Word) (h : Kept T x s) (hT : Comp.regs ∈ T)
    (hm : s.Canon → TabWf resetWord m) : Kept T x { s with regs := m } :=
  ⟨h.queue, h.lock, h.scan, h.ctr, fun k => ⟨hm (h.canon k), (h.canon k).2⟩,
    fun c hc => by cases c <;> first | exact absurd hT hc | exact h.same _ hc⟩

theorem Kept.upd_life {s : State} {l : Life} (h : Kept T x s) (hT : Comp.life ∈ T)
    (hl : s.Canon → (∀ p ∈ l.journal, TabWf (fun _ => (0 : Byte)) p.2) ∧ ∀ p ∈ l.snaps, TabWf (fun _ => (0 : Byte)) p.2) :
    Kept T x { s with life := l } :=
  ⟨h.queue, h.lock, h.scan, h.ctr, fun k => ⟨(h.canon k).1, (h.canon k).2.1, hl (h.canon k)⟩,
    fun c hc => by cases c <;> first | exact absurd hT hc | exact h.same _ hc⟩

theorem Kept.upd_sec {s : State} (y : Sec) (h : Kept T x s) (hT : Comp.sec ∈ T)
    (hf : s.sec.fieldLock = true → y.fieldLock = true)
    (he : s.sec.scannedEver = true → y.scannedEver = true) (hc : s.sec.ctr ≤ y.ctr) : Kept T x { s with sec := y } :=
  ⟨h.queue, fun k => hf (h.lock k), fun k => he (h.scan k), h.ctr.trans hc, h.canon,
    fun c hc => by cases c <;> first | exact absurd hT hc | exact h.same _ hc⟩

/-- An update of several parts, none of them a table or the OTP store, as the record it makes. -/
theorem Kept.updM {s : State} {free : Nat} {grid : Grid} {time : TimeBase} {pins : Pins} {icu : Icu} {evt : EvtLog} {nw : Nightwatch} {cap : Capture} {life : Life} {pwr : Power} {obs : Obs} {rule : RuleEng} {cfg : Cfg} {ctx : Tab CtxCopy} {chans : Tab Chan} {banks : Tab Bank} {boost : Boost} {res : Resolver} {dim : Dim} {mtx : Matrix} {spi : Spi} {loops : Loops} {adc : Adc} {sto : Sto} {link : Link} {ring : Ring} {ptp : Ptp} {mbx : Mbx} {sec : Sec} {bist : Bist} {fspi : Fspi} {bus : List Byte} (h : Kept T x s)
    (hs : ∀ c, c ∉ T → Same s (State.mk s.pending s.regs free grid time pins icu evt nw s.mem cap life pwr obs rule cfg ctx chans banks boost res dim mtx spi loops adc sto link ring ptp mbx sec bist fspi bus) c) (hj : life.journal = s.life.journal) (hn : life.snaps = s.life.snaps)
    (hf : sec.fieldLock = s.sec.fieldLock) (he : sec.scannedEver = s.sec.scannedEver) (hc : sec.ctr = s.sec.ctr) :
    Kept T x (State.mk s.pending s.regs free grid time pins icu evt nw s.mem cap life pwr obs rule cfg ctx chans banks boost res dim mtx spi loops adc sto link ring ptp mbx sec bist fspi bus) :=
  ⟨h.queue, fun k => hf.trans (h.lock k), fun k => he.trans (h.scan k), hc ▸ h.ctr,
    fun k => ⟨(h.canon k).1, (h.canon k).2.1, hj ▸ (h.canon k).2.2.1, hn ▸ (h.canon k).2.2.2⟩,
    fun c hc => (h.same c hc).trans (hs c hc)⟩

/-- An update of several parts, none of them a table or the OTP store. -/
theorem Kept.upd {s t : State} (h : Kept T x s) (hs : ∀ c, c ∉ T → Same s t c) (hq : t.pending = s.pending)
    (hr : t.regs = s.regs) (hm : t.mem = s.mem) (hj : t.life.journal = s.life.journal) (hn : t.life.snaps = s.life.snaps)
    (hf : t.sec.fieldLock = s.sec.fieldLock) (he : t.sec.scannedEver = s.sec.scannedEver) (hc : t.sec.ctr = s.sec.ctr) :
    Kept T x t :=
  ⟨hq.trans h.queue, fun k => hf.trans (h.lock k), fun k => he.trans (h.scan k), hc ▸ h.ctr,
    fun k => ⟨hr ▸ (h.canon k).1, hm ▸ (h.canon k).2.1, hj ▸ (h.canon k).2.2.1, hn ▸ (h.canon k).2.2.2⟩,
    fun c hc => (h.same c hc).trans (hs c hc)⟩

theorem State.Canon.flash {s : State} (k : s.Canon) :
    (∀ p ∈ s.life.journal, TabWf (fun _ => (0 : Byte)) p.2) ∧ ∀ p ∈ s.life.snaps, TabWf (fun _ => (0 : Byte)) p.2 := k.2.2

theorem has {c : Comp} {A : List Comp} (h : c ∈ A) (k : A ⊆ T) : c ∈ T := k h

theorem keptSub {A B : List Comp} (h : ∀ c ∈ A, c ∈ B) (k : B ⊆ T) : A ⊆ T := fun _ hc => k (h _ hc)

-- The parts, one by one

theorem Kept.regs_eq {t : State} (h : Kept T x t) (hc : Comp.regs ∉ T := by decide) : t.regs = x.regs := h.same .regs hc
theorem Kept.free_eq {t : State} (h : Kept T x t) (hc : Comp.free ∉ T := by decide) : t.free = x.free := h.same .free hc
theorem Kept.grid_eq {t : State} (h : Kept T x t) (hc : Comp.grid ∉ T := by decide) : t.grid = x.grid := h.same .grid hc
theorem Kept.time_eq {t : State} (h : Kept T x t) (hc : Comp.time ∉ T := by decide) : t.time = x.time := h.same .time hc
theorem Kept.pins_eq {t : State} (h : Kept T x t) (hc : Comp.pins ∉ T := by decide) : t.pins = x.pins := h.same .pins hc
theorem Kept.icu_eq {t : State} (h : Kept T x t) (hc : Comp.icu ∉ T := by decide) : t.icu = x.icu := h.same .icu hc
theorem Kept.evt_eq {t : State} (h : Kept T x t) (hc : Comp.evt ∉ T := by decide) : t.evt = x.evt := h.same .evt hc
theorem Kept.nw_eq {t : State} (h : Kept T x t) (hc : Comp.nw ∉ T := by decide) : t.nw = x.nw := h.same .nw hc
theorem Kept.mem_eq {t : State} (h : Kept T x t) (hc : Comp.mem ∉ T := by decide) : t.mem = x.mem := h.same .mem hc
theorem Kept.cap_eq {t : State} (h : Kept T x t) (hc : Comp.cap ∉ T := by decide) : t.cap = x.cap := h.same .cap hc
theorem Kept.life_eq {t : State} (h : Kept T x t) (hc : Comp.life ∉ T := by decide) : t.life = x.life := h.same .life hc
theorem Kept.pwr_eq {t : State} (h : Kept T x t) (hc : Comp.pwr ∉ T := by decide) : t.pwr = x.pwr := h.same .pwr hc
theorem Kept.obs_eq {t : State} (h : Kept T x t) (hc : Comp.obs ∉ T := by decide) : t.obs = x.obs := h.same .obs hc
theorem Kept.rule_eq {t : State} (h : Kept T x t) (hc : Comp.rule ∉ T := by decide) : t.rule = x.rule := h.same .rule hc
theorem Kept.cfg_eq {t : State} (h : Kept T x t) (hc : Comp.cfg ∉ T := by decide) : t.cfg = x.cfg := h.same .cfg hc
theorem Kept.ctx_eq {t : State} (h : Kept T x t) (hc : Comp.ctx ∉ T := by decide) : t.ctx = x.ctx := h.same .ctx hc
theorem Kept.chans_eq {t : State} (h : Kept T x t) (hc : Comp.chans ∉ T := by decide) : t.chans = x.chans := h.same .chans hc
theorem Kept.banks_eq {t : State} (h : Kept T x t) (hc : Comp.banks ∉ T := by decide) : t.banks = x.banks := h.same .banks hc
theorem Kept.boost_eq {t : State} (h : Kept T x t) (hc : Comp.boost ∉ T := by decide) : t.boost = x.boost := h.same .boost hc
theorem Kept.res_eq {t : State} (h : Kept T x t) (hc : Comp.res ∉ T := by decide) : t.res = x.res := h.same .res hc
theorem Kept.dim_eq {t : State} (h : Kept T x t) (hc : Comp.dim ∉ T := by decide) : t.dim = x.dim := h.same .dim hc
theorem Kept.mtx_eq {t : State} (h : Kept T x t) (hc : Comp.mtx ∉ T := by decide) : t.mtx = x.mtx := h.same .mtx hc
theorem Kept.spi_eq {t : State} (h : Kept T x t) (hc : Comp.spi ∉ T := by decide) : t.spi = x.spi := h.same .spi hc
theorem Kept.loops_eq {t : State} (h : Kept T x t) (hc : Comp.loops ∉ T := by decide) : t.loops = x.loops := h.same .loops hc
theorem Kept.adc_eq {t : State} (h : Kept T x t) (hc : Comp.adc ∉ T := by decide) : t.adc = x.adc := h.same .adc hc
theorem Kept.sto_eq {t : State} (h : Kept T x t) (hc : Comp.sto ∉ T := by decide) : t.sto = x.sto := h.same .sto hc
theorem Kept.link_eq {t : State} (h : Kept T x t) (hc : Comp.link ∉ T := by decide) : t.link = x.link := h.same .link hc
theorem Kept.ring_eq {t : State} (h : Kept T x t) (hc : Comp.ring ∉ T := by decide) : t.ring = x.ring := h.same .ring hc
theorem Kept.ptp_eq {t : State} (h : Kept T x t) (hc : Comp.ptp ∉ T := by decide) : t.ptp = x.ptp := h.same .ptp hc
theorem Kept.mbx_eq {t : State} (h : Kept T x t) (hc : Comp.mbx ∉ T := by decide) : t.mbx = x.mbx := h.same .mbx hc
theorem Kept.sec_eq {t : State} (h : Kept T x t) (hc : Comp.sec ∉ T := by decide) : t.sec = x.sec := h.same .sec hc
theorem Kept.bist_eq {t : State} (h : Kept T x t) (hc : Comp.bist ∉ T := by decide) : t.bist = x.bist := h.same .bist hc
theorem Kept.fspi_eq {t : State} (h : Kept T x t) (hc : Comp.fspi ∉ T := by decide) : t.fspi = x.fspi := h.same .fspi hc
theorem Kept.bus_eq {t : State} (h : Kept T x t) (hc : Comp.bus ∉ T := by decide) : t.bus = x.bus := h.same .bus hc

-- Registers and memory

theorem State.wr_kept {s : State} (hT : [Comp.regs] ⊆ T) (a v : Nat) (h : Kept T x s) : Kept T x (s.wr a v) :=
  h.upd_regs _ (hT (by decide)) fun k => TabWf_set k.1 _ _

theorem State.memPut_kept {s : State} (hT : [Comp.mem] ⊆ T) (a : Nat) (b : Byte) (h : Kept T x s) : Kept T x (s.memPut a b) :=
  h.upd_mem _ (hT (by decide)) fun k => TabWf_set k.2.1 _ _

theorem State.memWrite_kept {s : State} (hT : [Comp.mem] ⊆ T) (a : Nat) (bs : List Byte) (h : Kept T x s) :
    Kept T x (s.memWrite a bs) := by
  induction bs generalizing s a with
  | nil => exact h
  | cons b bs ih => exact ih (a + 1) (State.memPut_kept hT a b h)

theorem all_tabSet {α : Type} [DecidableEq α] {P : α → Prop} {d : Nat → α} {t : Tab α} {k : Nat} {v : α}
    (h : ∀ p ∈ t, P p.2) (hv : P v) : ∀ p ∈ tabSet d t k v, P p.2 := by
  intro p hp
  unfold tabSet at hp
  split at hp
  · exact h p (mem_of_mem_erase hp)
  · obtain rfl | hp := mem_insert hp
    · exact hv
    · exact h p (mem_of_mem_erase hp)

theorem TabWf_filter {α : Type} [DecidableEq α] {d : Nat → α} {t : Tab α} (p : Nat × α → Bool) (h : TabWf d t) :
    TabWf d (t.filter p) :=
  ⟨h.1.filter p, fun q hq => h.2 q (List.mem_of_mem_filter hq)⟩

theorem TabWf_foldSet {α : Type} [DecidableEq α] {d : Nat → α} {t : Tab α} (l : List (Nat × α)) (h : TabWf d t) :
    TabWf d (l.foldl (fun (r : Tab α) p => tabSet d r p.1 p.2) t) := by
  induction l generalizing t with
  | nil => exact h
  | cons p l ih => exact ih (TabWf_set h _ _)

theorem mem_newestSlot {s : State} {t : Tab Byte} (h : s.newestSlot = some t) : ∃ n, (n, t) ∈ s.life.journal := by
  have key : ∀ (l : Tab (Tab Byte)) (b : Option (Tab Byte)), (∀ p ∈ l, p ∈ s.life.journal) →
      (∀ t, b = some t → ∃ n, (n, t) ∈ s.life.journal) →
      ∀ t, (l.foldl (fun (b : Option (Tab Byte)) p =>
        match b with
        | none => some p.2
        | some t => if seqNewer (State.slotPseq p.2) (State.slotPseq t) then some p.2 else b) b) = some t →
        ∃ n, (n, t) ∈ s.life.journal := by
    intro l
    induction l with
    | nil => exact fun b _ hb t h => hb t h
    | cons p l ih =>
      intro b hl hb t h
      refine ih _ (fun q hq => hl q (List.mem_cons_of_mem _ hq)) ?_ t h
      have hp : ∃ n, (n, p.2) ∈ s.life.journal := ⟨p.1, hl p (List.mem_cons_self ..)⟩
      intro t' h'
      dsimp only at h'
      split at h'
      · cases h'; exact hp
      · split at h'
        · cases h'; exact hp
        · exact hb t' h'
  exact key _ none (fun p hp => List.mem_of_mem_filter hp) (by simp) t h

theorem Kept.foldPaste (hT : Comp.mem ∈ T) (f : Nat × Tab Byte → Nat) (n : Nat) (l : Tab (Tab Byte))
    (hl : x.Canon → ∀ p ∈ l, TabWf (fun _ => (0 : Byte)) p.2) {s : State} (h : Kept T x s) :
    Kept T x (l.foldl (fun s p => { s with mem := tabPaste (f p) n s.mem p.2 }) s) := by
  induction l generalizing s with
  | nil => exact h
  | cons p l ih =>
    refine ih (fun k q hq => hl k q (List.mem_cons_of_mem _ hq)) ?_
    exact ⟨h.queue, h.lock, h.scan, h.ctr, fun k => ⟨(h.canon k).1,
      TabWf_paste (h.canon k).2.1 (hl k p (List.mem_cons_self ..)) _ _, (h.canon k).2.2⟩,
      fun c hc => by cases c <;> first | exact absurd hT hc | exact h.same _ hc⟩


end Sys2Proof.Machine
end

