-- ==== Sys2Proof/Laws/FramesLamp.lean ====
section
/-! SUPPORT. What each operation may write, one lemma per operation: observations, rules, lamps, supplies, loops, dimming. -/

-- Proofs elaborated beside each other need more threads than the package's memory limit allows.
set_option Elab.async false
-- One proof script serves many operations, so a step or a name of it may have no use in some.
set_option linter.unusedVariables false
set_option linter.unusedTactic false
set_option linter.unreachableTactic false

namespace Sys2Proof.Machine

theorem State.put_kept {T : List Comp} {zz s : State} (hT : [.regs] ⊆ T) (f : Fld) (v : Nat) (hh : Kept T zz s) : Kept T zz
    (State.put s f v) := by
  unfold State.put
  repeat' first
    | with_reducible assumption | exact keptSub (by decide) hT | with_reducible apply State.wr_kept

theorem State.putFlag_kept {T : List Comp} {zz s : State} (hT : [.regs] ⊆ T) (f : Fld) (b : Bool) (hh : Kept T zz s) : Kept T
    zz (State.putFlag s f b) := by
  unfold State.putFlag
  repeat' first
    | with_reducible assumption | exact keptSub (by decide) hT | with_reducible apply State.put_kept

theorem State.bump_kept {T : List Comp} {zz s : State} (hT : [.regs] ⊆ T) (a : Nat) (hh : Kept T zz s) : Kept T zz
    (State.bump s a) := by
  unfold State.bump
  repeat' first
    | with_reducible assumption | exact keptSub (by decide) hT | with_reducible apply State.wr_kept

theorem State.bumpSat_kept {T : List Comp} {zz s : State} (hT : [.regs] ⊆ T) (f : Fld) (hh : Kept T zz s) : Kept T zz
    (State.bumpSat s f) := by
  unfold State.bumpSat
  repeat' first
    | with_reducible assumption | exact keptSub (by decide) hT | with_reducible apply State.put_kept
    | with_reducible apply Kept.ite

theorem State.fresh_kept {T : List Comp} {zz s : State} (hT : [.free] ⊆ T) (hh : Kept T zz s) : Kept2 T zz (State.fresh s) :=
    by
  unfold State.fresh
  repeat' first
    | with_reducible assumption | exact keptSub (by decide) hT | with_reducible apply Kept.ite
    | with_reducible apply Kept2.ite | with_reducible apply Kept2.mk
    | fail_if_no_progress (with_reducible refine Kept.upd_free ?_ (has (by decide) hT))

theorem State.noteFlags_kept {T : List Comp} {zz s : State} (hT : [.time] ⊆ T) (hh : Kept T zz s) : Kept T zz
    (State.noteFlags s) := by
  unfold State.noteFlags
  try lift_lets
  repeat' first
    | with_reducible assumption | exact keptSub (by decide) hT
    | (intro s; refine (fun hk : Kept T zz s => ?_) ?_; clear_value s; rotate_left; subst s) | (intro v; try clear_value v)
    | with_reducible apply Kept.ite | fail_if_no_progress (with_reducible refine Kept.upd_time ?_ (has (by decide) hT))
    | split | lift_lets

theorem State.takeEvent_kept {T : List Comp} {zz s : State} (hT : [.grid] ⊆ T) (key : Nat) (hh : Kept T zz s) : Kept T zz
    (State.takeEvent s key) := by
  unfold State.takeEvent
  repeat' first
    | with_reducible assumption | exact keptSub (by decide) hT | with_reducible apply Kept.ite
    | fail_if_no_progress (with_reducible refine Kept.upd_grid ?_ (has (by decide) hT)) | split

theorem State.refreshIcu_kept {T : List Comp} {zz s : State} (hT : [.icu] ⊆ T) (hh : Kept T zz s) : Kept T zz
    (State.refreshIcu s) := by
  unfold State.refreshIcu
  repeat' first
    | with_reducible assumption | exact keptSub (by decide) hT | with_reducible apply Kept.ite
    | fail_if_no_progress (with_reducible refine Kept.upd_icu ?_ (has (by decide) hT))

theorem State.pendSet_kept {T : List Comp} {zz s : State} (hT : [.icu] ⊆ T) (k : Nat) (bits : Word) (hh : Kept T zz s) : Kept
    T zz (State.pendSet s k bits) := by
  unfold State.pendSet
  repeat' first
    | with_reducible assumption | exact keptSub (by decide) hT | with_reducible apply Kept.ite
    | fail_if_no_progress (with_reducible refine Kept.upd_icu ?_ (has (by decide) hT))

theorem State.pendClr_kept {T : List Comp} {zz s : State} (hT : [.icu] ⊆ T) (k : Nat) (bits : Word) (hh : Kept T zz s) : Kept
    T zz (State.pendClr s k bits) := by
  unfold State.pendClr
  repeat' first
    | with_reducible assumption | exact keptSub (by decide) hT | with_reducible apply Kept.ite
    | fail_if_no_progress (with_reducible refine Kept.upd_icu ?_ (has (by decide) hT))

theorem State.duskExit_kept {T : List Comp} {zz s : State} (hT : [.regs, .icu, .nw, .pwr] ⊆ T) (cause : Nat) (hh : Kept T zz
    s) : Kept T zz (State.duskExit s cause) := by
  unfold State.duskExit
  try lift_lets
  repeat' first
    | with_reducible assumption | exact keptSub (by decide) hT
    | (intro s; refine (fun hk : Kept T zz s => ?_) ?_; clear_value s; rotate_left; subst s) | (intro v; try clear_value v)
    | with_reducible apply State.put_kept | with_reducible apply State.putFlag_kept | with_reducible apply Kept.ite
    | fail_if_no_progress (with_reducible refine Kept.upd_icu ?_ (has (by decide) hT))
    | fail_if_no_progress (with_reducible refine Kept.upd_nw ?_ (has (by decide) hT))
    | fail_if_no_progress (with_reducible refine Kept.upd_pwr ?_ (has (by decide) hT))
    | fail_if_no_progress (refine Kept.updM (T := T) ?_ ?_ rfl rfl rfl rfl rfl; rotate_left; (intro c hc; cases c <;> first | exact rfl | exact absurd (has (by decide) hT) hc))
    | split | lift_lets

theorem State.duskAbandon_kept {T : List Comp} {zz s : State} (hT : [.regs, .pwr] ⊆ T) (hh : Kept T zz s) : Kept T zz
    (State.duskAbandon s) := by
  unfold State.duskAbandon
  try lift_lets
  repeat' first
    | with_reducible assumption | exact keptSub (by decide) hT
    | (intro s; refine (fun hk : Kept T zz s => ?_) ?_; clear_value s; rotate_left; subst s) | (intro v; try clear_value v)
    | with_reducible apply State.putFlag_kept | with_reducible apply State.put_kept | with_reducible apply Kept.ite
    | fail_if_no_progress (with_reducible refine Kept.upd_pwr ?_ (has (by decide) hT)) | split | lift_lets

theorem State.nwWake_kept {T : List Comp} {zz s : State} (hT : [.regs, .icu, .nw, .pwr] ⊆ T) (n : Nat) (hh : Kept T zz s) :
    Kept T zz (State.nwWake s n) := by
  unfold State.nwWake
  repeat' first
    | with_reducible assumption | exact keptSub (by decide) hT | with_reducible apply State.duskAbandon_kept
    | with_reducible apply State.duskExit_kept | with_reducible apply State.putFlag_kept
    | with_reducible apply State.put_kept | with_reducible apply Kept.ite

theorem State.raise_kept {T : List Comp} {zz s : State} (hT : [.regs, .icu, .nw, .pwr] ⊆ T) (n : Nat) (hh : Kept T zz s) :
    Kept T zz (State.raise s n) := by
  unfold State.raise
  repeat' first
    | with_reducible assumption | exact keptSub (by decide) hT | with_reducible apply State.pendSet_kept
    | with_reducible apply State.refreshIcu_kept | with_reducible apply State.nwWake_kept | with_reducible apply Kept.ite

theorem State.fltSet_kept {T : List Comp} {zz s : State} (hT : [.regs, .icu, .nw, .pwr] ⊆ T) (n cls : Nat) (hh : Kept T zz s)
    : Kept T zz (State.fltSet s n cls) := by
  unfold State.fltSet
  repeat' first
    | with_reducible assumption | exact keptSub (by decide) hT | with_reducible apply State.raise_kept
    | with_reducible apply State.put_kept | with_reducible apply State.putFlag_kept | with_reducible apply Kept.ite

theorem State.fltClr_kept {T : List Comp} {zz s : State} (hT : [.regs] ⊆ T) (n : Nat) (hh : Kept T zz s) : Kept T zz
    (State.fltClr s n) := by
  unfold State.fltClr
  try lift_lets
  repeat' first
    | with_reducible assumption | exact keptSub (by decide) hT
    | (intro s; refine (fun hk : Kept T zz s => ?_) ?_; clear_value s; rotate_left; subst s)
    | with_reducible apply State.put_kept | with_reducible apply State.putFlag_kept

theorem State.fltFollow_kept {T : List Comp} {zz s : State} (hT : [.regs, .icu, .nw, .pwr] ⊆ T) (n cls : Nat) (on : Bool) (hh
    : Kept T zz s) : Kept T zz (State.fltFollow s n cls on) := by
  unfold State.fltFollow
  repeat' first
    | with_reducible assumption | exact keptSub (by decide) hT | with_reducible apply State.fltClr_kept
    | with_reducible apply State.fltSet_kept | with_reducible apply Kept.ite

theorem State.driveReady_kept {T : List Comp} {zz s : State} (hT : [.regs, .pins, .icu, .nw, .pwr] ⊆ T) (b : Bool) (hh : Kept
    T zz s) : Kept T zz (State.driveReady s b) := by
  unfold State.driveReady
  repeat' first
    | with_reducible assumption | exact keptSub (by decide) hT | with_reducible apply State.raise_kept
    | with_reducible apply Kept.ite | fail_if_no_progress (with_reducible refine Kept.upd_pins ?_ (has (by decide) hT))

theorem State.nwLog_kept {T : List Comp} {zz s : State} (hT : [.regs, .evt] ⊆ T) (r : EvtRec) (hh : Kept T zz s) : Kept T zz
    (State.nwLog s r) := by
  unfold State.nwLog
  try lift_lets
  repeat' first
    | with_reducible assumption | exact keptSub (by decide) hT
    | (intro s; refine (fun hk : Kept T zz s => ?_) ?_; clear_value s; rotate_left; subst s) | (intro v; try clear_value v)
    | with_reducible apply State.bump_kept | with_reducible apply State.put_kept | with_reducible apply Kept.ite
    | fail_if_no_progress (with_reducible refine Kept.upd_evt ?_ (has (by decide) hT))

theorem State.enqueue_kept {T : List Comp} {zz s : State} (hT : [.regs, .evt] ⊆ T) (r : EvtRec) (hh : Kept T zz s) : Kept T
    zz (State.enqueue s r) := by
  unfold State.enqueue
  repeat' first
    | with_reducible assumption | exact keptSub (by decide) hT | with_reducible apply State.bump_kept
    | with_reducible apply State.nwLog_kept | with_reducible apply Kept.ite
    | fail_if_no_progress (with_reducible refine Kept.upd_evt ?_ (has (by decide) hT))

theorem State.logAt_kept {T : List Comp} {zz s : State} (hT : [.regs, .evt] ⊆ T) (src cls kind idx : Nat) (payload : List
    Nat) (hh : Kept T zz s) : Kept T zz (State.logAt s src cls kind idx payload) := by
  unfold State.logAt
  repeat' first
    | with_reducible assumption | exact keptSub (by decide) hT | with_reducible apply State.enqueue_kept

theorem State.logEv_kept {T : List Comp} {zz s : State} (hT : [.regs, .evt] ⊆ T) (cls kind idx : Nat) (payload : List Nat)
    (hh : Kept T zz s) : Kept T zz (State.logEv s cls kind idx payload) := by
  unfold State.logEv
  repeat' first
    | with_reducible assumption | exact keptSub (by decide) hT | with_reducible apply State.logAt_kept

theorem State.logFw_kept {T : List Comp} {zz s : State} (hT : [.regs, .evt] ⊆ T) (cls kind idx : Nat) (payload : List Nat)
    (hh : Kept T zz s) : Kept T zz (State.logFw s cls kind idx payload) := by
  unfold State.logFw
  repeat' first
    | with_reducible assumption | exact keptSub (by decide) hT | with_reducible apply State.logAt_kept

theorem State.logStamp_kept {T : List Comp} {zz s : State} (hT : [.regs, .evt] ⊆ T) (x : Stamp) (cls kind idx : Nat) (payload
    : List Nat) (hh : Kept T zz s) : Kept T zz (State.logStamp s x cls kind idx payload) := by
  unfold State.logStamp
  repeat' first
    | with_reducible assumption | exact keptSub (by decide) hT | with_reducible apply State.enqueue_kept
    | with_reducible apply Kept.ite | split

theorem State.flash_kept {T : List Comp} {zz s : State} (hT : [.fspi] ⊆ T) (work : List (Nat × Nat)) (hh : Kept T zz s) :
    Kept T zz (State.flash s work) := by
  unfold State.flash
  repeat' first
    | with_reducible assumption | exact keptSub (by decide) hT | with_reducible apply Kept.ite
    | fail_if_no_progress (with_reducible refine Kept.upd_fspi ?_ (has (by decide) hT)) | split

theorem State.flashTable_kept {T : List Comp} {zz s : State} (hT : [.fspi] ⊆ T) (hh : Kept T zz s) : Kept T zz
    (State.flashTable s) := by
  unfold State.flashTable
  repeat' first
    | with_reducible assumption | exact keptSub (by decide) hT | with_reducible apply Kept.ite
    | fail_if_no_progress (with_reducible refine Kept.upd_fspi ?_ (has (by decide) hT)) | split

theorem State.flashQuad_kept {T : List Comp} {zz s : State} (hT : [.fspi] ⊆ T) (hh : Kept T zz s) : Kept T zz
    (State.flashQuad s) := by
  unfold State.flashQuad
  repeat' first
    | with_reducible assumption | exact keptSub (by decide) hT | with_reducible apply Kept.ite
    | fail_if_no_progress (with_reducible refine Kept.upd_fspi ?_ (has (by decide) hT)) | split

theorem State.lifeCount_kept {T : List Comp} {zz s : State} (hT : [.regs, .icu, .evt, .nw, .mem, .pwr] ⊆ T) (base o n : Nat)
    (hh : Kept T zz s) : Kept T zz (State.lifeCount s base o n) := by
  unfold State.lifeCount
  try lift_lets
  repeat' first
    | with_reducible assumption | exact keptSub (by decide) hT | (intro v; try clear_value v)
    | with_reducible apply State.logEv_kept | with_reducible apply State.memWrite_kept
    | with_reducible apply State.raise_kept | with_reducible apply State.memPut_kept
    | with_reducible apply State.bumpSat_kept | with_reducible apply Kept.ite

theorem State.lifeAcc_kept {T : List Comp} {zz s : State} (hT : [.life] ⊆ T) (o n : Nat) (hh : Kept T zz s) : Kept T zz
    (State.lifeAcc s o n) := by
  unfold State.lifeAcc
  repeat' first
    | with_reducible assumption | exact keptSub (by decide) hT | with_reducible apply Kept.ite
    | fail_if_no_progress (with_reducible refine Kept.upd_life ?_ (has (by decide) hT) (fun k => k.flash))

theorem State.capTrigger_kept {T : List Comp} {zz s : State} (hT : [.regs, .cap] ⊆ T) (auto : Bool) (post : Nat) (hh : Kept T
    zz s) : Kept T zz (State.capTrigger s auto post) := by
  unfold State.capTrigger
  try lift_lets
  repeat' first
    | with_reducible assumption | exact keptSub (by decide) hT
    | (intro s; refine (fun hk : Kept T zz s => ?_) ?_; clear_value s; rotate_left; subst s) | (intro v; try clear_value v)
    | with_reducible apply State.putFlag_kept | with_reducible apply State.put_kept | with_reducible apply State.wr_kept
    | with_reducible apply Kept.ite | fail_if_no_progress (with_reducible refine Kept.upd_cap ?_ (has (by decide) hT))

theorem State.capOnRecord_kept {T : List Comp} {zz s : State} (hT : [.regs, .cap] ⊆ T) (r : EvtRec) (hh : Kept T zz s) : Kept
    T zz (State.capOnRecord s r) := by
  unfold State.capOnRecord
  repeat' first
    | with_reducible assumption | exact keptSub (by decide) hT | with_reducible apply State.capTrigger_kept
    | with_reducible apply Kept.ite

theorem State.evtThreshold_kept {T : List Comp} {zz s : State} (hT : [.regs, .icu, .evt, .nw, .pwr] ⊆ T) (hh : Kept T zz s) :
    Kept T zz (State.evtThreshold s) := by
  unfold State.evtThreshold
  try lift_lets
  repeat' first
    | with_reducible assumption | exact keptSub (by decide) hT
    | (intro s; refine (fun hk : Kept T zz s => ?_) ?_; clear_value s; rotate_left; subst s) | (intro v; try clear_value v)
    | with_reducible apply State.raise_kept | with_reducible apply Kept.ite
    | fail_if_no_progress (with_reducible refine Kept.upd_evt ?_ (has (by decide) hT))

theorem State.writeRec_kept {T : List Comp} {zz s : State} (hT : [.regs, .icu, .evt, .nw, .mem, .cap, .pwr] ⊆ T) (r : EvtRec)
    (hh : Kept T zz s) : Kept T zz (State.writeRec s r) := by
  unfold State.writeRec
  try lift_lets
  repeat' first
    | with_reducible assumption | exact keptSub (by decide) hT
    | (intro s; refine (fun hk : Kept T zz s => ?_) ?_; clear_value s; rotate_left; subst s) | (intro v; try clear_value v)
    | with_reducible apply State.memWrite_kept | with_reducible apply State.bump_kept
    | with_reducible apply State.evtThreshold_kept | with_reducible apply State.lifeCount_kept
    | with_reducible apply State.capOnRecord_kept | with_reducible apply Kept.ite | split

theorem State.flushNw_kept {T : List Comp} {zz s : State} (hT : [.regs, .icu, .evt, .nw, .mem, .cap, .pwr] ⊆ T) (hh : Kept T
    zz s) : Kept T zz (State.flushNw s) := by
  unfold State.flushNw
  try lift_lets
  repeat' first
    | with_reducible assumption | exact keptSub (by decide) hT
    | (intro s; refine (fun hk : Kept T zz s => ?_) ?_; clear_value s; rotate_left; subst s) | (intro v; try clear_value v)
    | with_reducible apply State.writeRec_kept | with_reducible apply State.put_kept | with_reducible apply Kept.ite
    | with_reducible (apply Kept.fold; intro _ _ _)
    | fail_if_no_progress (with_reducible refine Kept.upd_evt ?_ (has (by decide) hT))

theorem State.obsWrite_kept {T : List Comp} {zz s : State} (hT : [.obs] ⊆ T) (n : Nat) (v : Int) (hh : Kept T zz s) : Kept T
    zz (State.obsWrite s n v) := by
  unfold State.obsWrite
  repeat' first
    | with_reducible assumption | exact keptSub (by decide) hT | with_reducible apply Kept.ite
    | fail_if_no_progress (with_reducible refine Kept.upd_obs ?_ (has (by decide) hT))

theorem State.obsFeed_kept {T : List Comp} {zz s : State} (hT : [.obs] ⊆ T) (src idx : Nat) (v : Int) (hh : Kept T zz s) :
    Kept T zz (State.obsFeed s src idx v) := by
  unfold State.obsFeed
  repeat' first
    | with_reducible assumption | exact keptSub (by decide) hT | with_reducible apply State.obsWrite_kept
    | with_reducible apply Kept.ite | with_reducible (apply Kept.fold; intro _ _ _)

theorem State.writeTimeSlots_kept {T : List Comp} {zz s : State} (hT : [.obs] ⊆ T) (hh : Kept T zz s) : Kept T zz
    (State.writeTimeSlots s) := by
  unfold State.writeTimeSlots
  repeat' first
    | with_reducible assumption | exact keptSub (by decide) hT | with_reducible apply State.obsWrite_kept
    | with_reducible apply Kept.ite | with_reducible (apply Kept.fold; intro _ _ _)

theorem State.evalTwins_kept {T : List Comp} {zz s : State} (hT : [.obs] ⊆ T) (hh : Kept T zz s) : Kept T zz (State.evalTwins
    s) := by
  unfold State.evalTwins
  repeat' first
    | with_reducible assumption | exact keptSub (by decide) hT | with_reducible apply Kept.ite
    | fail_if_no_progress (with_reducible refine Kept.upd_obs ?_ (has (by decide) hT))

theorem State.takeSnapshot_kept {T : List Comp} {zz s : State} (hT : [.regs, .icu, .evt, .nw, .pwr, .obs] ⊆ T) (hh : Kept T
    zz s) : Kept T zz (State.takeSnapshot s) := by
  unfold State.takeSnapshot
  try lift_lets
  repeat' first
    | with_reducible assumption | exact keptSub (by decide) hT
    | (intro s; refine (fun hk : Kept T zz s => ?_) ?_; clear_value s; rotate_left; subst s) | (intro v; try clear_value v)
    | with_reducible apply State.wr_kept | with_reducible apply State.logEv_kept | with_reducible apply State.bump_kept
    | with_reducible apply State.raise_kept | with_reducible apply Kept.ite | with_reducible (apply Kept.fold; intro _ _ _)
    | fail_if_no_progress (with_reducible refine Kept.upd_obs ?_ (has (by decide) hT)) | split | lift_lets

theorem State.snpExtract_kept {T : List Comp} {zz s : State} (hT : [.regs, .obs] ⊆ T) (e : Nat) (p : List Byte) (hh : Kept T
    zz s) : Kept T zz (State.snpExtract s e p) := by
  unfold State.snpExtract
  try lift_lets
  repeat' first
    | with_reducible assumption | exact keptSub (by decide) hT
    | (intro s; refine (fun hk : Kept T zz s => ?_) ?_; clear_value s; rotate_left; subst s) | (intro v; try clear_value v)
    | with_reducible apply State.bump_kept | with_reducible apply State.obsWrite_kept | with_reducible apply Kept.ite
    | fail_if_no_progress (with_reducible refine Kept.upd_obs ?_ (has (by decide) hT))

theorem State.snoop_kept {T : List Comp} {zz s : State} (hT : [.regs, .obs] ⊆ T) (port : Nat) (frame : List Byte) (hh : Kept
    T zz s) : Kept T zz (State.snoop s port frame) := by
  unfold State.snoop
  try lift_lets
  repeat' first
    | with_reducible assumption | exact keptSub (by decide) hT | with_reducible apply State.bump_kept
    | with_reducible apply State.snpExtract_kept | with_reducible apply Kept.ite
    | with_reducible (apply Kept.fold; intro _ _ _)

theorem State.setCopy_kept {T : List Comp} {zz s : State} (hT : [.ctx] ⊆ T) (c : Nat) (x : CtxCopy) (hh : Kept T zz s) : Kept
    T zz (State.setCopy s c x) := by
  unfold State.setCopy
  repeat' first
    | with_reducible assumption | exact keptSub (by decide) hT | with_reducible apply Kept.ite
    | fail_if_no_progress (with_reducible refine Kept.upd_ctx ?_ (has (by decide) hT))

theorem State.obsDataRead_kept {T : List Comp} {zz s : State} (hT : [.ctx] ⊆ T) (c : Nat) (hh : Kept T zz s) : Kept T zz
    (State.obsDataRead s c) := by
  unfold State.obsDataRead
  try lift_lets
  repeat' first
    | with_reducible assumption | exact keptSub (by decide) hT | (intro v; try clear_value v)
    | with_reducible apply State.setCopy_kept

theorem State.ruleDataRead_kept {T : List Comp} {zz s : State} (hT : [.ctx] ⊆ T) (c : Nat) (hh : Kept T zz s) : Kept T zz
    (State.ruleDataRead s c) := by
  unfold State.ruleDataRead
  try lift_lets
  repeat' first
    | with_reducible assumption | exact keptSub (by decide) hT | (intro v; try clear_value v)
    | with_reducible apply State.setCopy_kept

theorem State.ruleStat_kept {T : List Comp} {zz s : State} (hT : [.regs] ⊆ T) (hh : Kept T zz s) : Kept T zz (State.ruleStat
    s) := by
  unfold State.ruleStat
  try lift_lets
  repeat' first
    | with_reducible assumption | exact keptSub (by decide) hT | (intro v; try clear_value v)
    | with_reducible apply State.wr_kept

theorem State.ruleStart_kept {T : List Comp} {zz s : State} (hT : [.regs, .icu, .evt, .nw, .pwr, .obs, .rule] ⊆ T) (hh : Kept
    T zz s) : Kept T zz (State.ruleStart s) := by
  unfold State.ruleStart
  try lift_lets
  repeat' first
    | with_reducible assumption | exact keptSub (by decide) hT
    | (intro s; refine (fun hk : Kept T zz s => ?_) ?_; clear_value s; rotate_left; subst s) | (intro v; try clear_value v)
    | with_reducible apply State.takeSnapshot_kept | with_reducible apply Kept.ite
    | fail_if_no_progress (with_reducible refine Kept.upd_rule ?_ (has (by decide) hT)) | split | lift_lets

theorem State.ruleWalked_kept {T : List Comp} {zz s : State} (hT : [.regs, .obs, .rule] ⊆ T) (hh : Kept T zz s) : Kept T zz
    (State.ruleWalked s) := by
  unfold State.ruleWalked
  try lift_lets
  repeat' first
    | with_reducible assumption | exact keptSub (by decide) hT
    | (intro s; refine (fun hk : Kept T zz s => ?_) ?_; clear_value s; rotate_left; subst s) | (intro v; try clear_value v)
    | with_reducible apply State.wr_kept | with_reducible apply Kept.ite
    | fail_if_no_progress (with_reducible refine Kept.upd_obs ?_ (has (by decide) hT))
    | fail_if_no_progress (with_reducible refine Kept.upd_rule ?_ (has (by decide) hT)) | split | lift_lets

theorem State.senseOne_kept {T : List Comp} {zz s : State} (hT : [.regs, .icu, .nw, .pwr, .obs] ⊆ T) (n : Nat) (l : Bool)
    (ago : Nat) (hh : Kept T zz s) : Kept T zz (State.senseOne s n l ago) := by
  unfold State.senseOne
  try lift_lets
  repeat' first
    | with_reducible assumption | exact keptSub (by decide) hT
    | (intro s; refine (fun hk : Kept T zz s => ?_) ?_; clear_value s; rotate_left; subst s) | (intro v; try clear_value v)
    | with_reducible apply State.obsWrite_kept | with_reducible apply State.raise_kept | with_reducible apply Kept.ite
    | fail_if_no_progress (with_reducible refine Kept.upd_obs ?_ (has (by decide) hT)) | split | lift_lets

theorem State.senseAll_kept {T : List Comp} {zz s : State} (hT : [.regs, .icu, .nw, .pwr, .obs] ⊆ T) (levels : BitVec 32)
    (ago : List (BitVec 16)) (hh : Kept T zz s) : Kept T zz (State.senseAll s levels ago) := by
  unfold State.senseAll
  try lift_lets
  repeat' first
    | with_reducible assumption | exact keptSub (by decide) hT
    | (intro s; refine (fun hk : Kept T zz s => ?_) ?_; clear_value s; rotate_left; subst s) | (intro v; try clear_value v)
    | with_reducible apply State.senseOne_kept | with_reducible apply Kept.ite
    | with_reducible (apply Kept.fold; intro _ _ _)
    | fail_if_no_progress (with_reducible refine Kept.upd_obs ?_ (has (by decide) hT)) | split | lift_lets

theorem State.aspVarWrite_kept {T : List Comp} {zz s : State} (hT : [.regs, .obs] ⊆ T) (v x : Nat) (hh : Kept T zz s) : Kept
    T zz (State.aspVarWrite s v x) := by
  unfold State.aspVarWrite
  repeat' first
    | with_reducible assumption | exact keptSub (by decide) hT | with_reducible apply State.wr_kept
    | with_reducible apply State.obsFeed_kept | with_reducible apply Kept.ite | split

theorem State.aspReqWrite_kept {T : List Comp} {zz s : State} (hT : [.regs] ⊆ T) (n x : Nat) (hh : Kept T zz s) : Kept T zz
    (State.aspReqWrite s n x) := by
  unfold State.aspReqWrite
  repeat' first
    | with_reducible assumption | exact keptSub (by decide) hT | with_reducible apply State.wr_kept
    | with_reducible apply Kept.ite | split

theorem State.setChan_kept {T : List Comp} {zz s : State} (hT : [.chans] ⊆ T) (c : Nat) (x : Chan) (hh : Kept T zz s) : Kept
    T zz (State.setChan s c x) := by
  unfold State.setChan
  repeat' first
    | with_reducible assumption | exact keptSub (by decide) hT | with_reducible apply Kept.ite
    | fail_if_no_progress (with_reducible refine Kept.upd_chans ?_ (has (by decide) hT))

theorem State.setBank_kept {T : List Comp} {zz s : State} (hT : [.banks] ⊆ T) (n : Nat) (x : Bank) (hh : Kept T zz s) : Kept
    T zz (State.setBank s n x) := by
  unfold State.setBank
  repeat' first
    | with_reducible assumption | exact keptSub (by decide) hT | with_reducible apply Kept.ite
    | fail_if_no_progress (with_reducible refine Kept.upd_banks ?_ (has (by decide) hT))

theorem State.setAsp_kept {T : List Comp} {zz s : State} (hT : [.res] ⊆ T) (n : Nat) (x : Asp) (hh : Kept T zz s) : Kept T zz
    (State.setAsp s n x) := by
  unfold State.setAsp
  repeat' first
    | with_reducible assumption | exact keptSub (by decide) hT | with_reducible apply Kept.ite
    | fail_if_no_progress (with_reducible refine Kept.upd_res ?_ (has (by decide) hT))

theorem State.setLed_kept {T : List Comp} {zz s : State} (hT : [.mtx] ⊆ T) (e : Nat) (x : Led) (hh : Kept T zz s) : Kept T zz
    (State.setLed s e x) := by
  unfold State.setLed
  repeat' first
    | with_reducible assumption | exact keptSub (by decide) hT | with_reducible apply Kept.ite
    | fail_if_no_progress (with_reducible refine Kept.upd_mtx ?_ (has (by decide) hT))

theorem State.setLoop_kept {T : List Comp} {zz s : State} (hT : [.loops] ⊆ T) (n : Nat) (x : LoopSlot) (hh : Kept T zz s) :
    Kept T zz (State.setLoop s n x) := by
  unfold State.setLoop
  repeat' first
    | with_reducible assumption | exact keptSub (by decide) hT | with_reducible apply Kept.ite
    | fail_if_no_progress (with_reducible refine Kept.upd_loops ?_ (has (by decide) hT))

theorem State.darkLed_kept {T : List Comp} {zz s : State} (hT : [.mtx] ⊆ T) (e : Nat) (hh : Kept T zz s) : Kept T zz
    (State.darkLed s e) := by
  unfold State.darkLed
  repeat' first
    | with_reducible assumption | exact keptSub (by decide) hT | with_reducible apply State.setLed_kept
    | with_reducible apply Kept.ite | split

theorem State.ledsDark_kept {T : List Comp} {zz s : State} (hT : [.mtx] ⊆ T) (hh : Kept T zz s) : Kept T zz (State.ledsDark
    s) := by
  unfold State.ledsDark
  repeat' first
    | with_reducible assumption | exact keptSub (by decide) hT | with_reducible apply State.darkLed_kept
    | with_reducible apply Kept.ite | with_reducible (apply Kept.fold; intro _ _ _) | split

theorem State.cutColumn_kept {T : List Comp} {zz s : State} (hT : [.mtx] ⊆ T) (c : Nat) (hh : Kept T zz s) : Kept T zz
    (State.cutColumn s c) := by
  unfold State.cutColumn
  try lift_lets
  repeat' first
    | with_reducible assumption | exact keptSub (by decide) hT
    | (intro s; refine (fun hk : Kept T zz s => ?_) ?_; clear_value s; rotate_left; subst s) | (intro v; try clear_value v)
    | with_reducible apply State.setLed_kept | with_reducible apply Kept.ite
    | with_reducible (apply Kept.fold; intro _ _ _) | split | lift_lets

theorem State.lampGroup_kept {T : List Comp} {zz s : State} (hT : [.regs, .icu, .nw, .pwr] ⊆ T) (hh : Kept T zz s) : Kept T
    zz (State.lampGroup s) := by
  unfold State.lampGroup
  try lift_lets
  repeat' first
    | with_reducible assumption | exact keptSub (by decide) hT | (intro v; try clear_value v)
    | with_reducible apply State.fltFollow_kept

theorem State.reprove_kept {T : List Comp} {zz s : State} (hT : [.regs, .chans, .mtx] ⊆ T) (c : Nat) (hh : Kept T zz s) :
    Kept T zz (State.reprove s c) := by
  unfold State.reprove
  try lift_lets
  repeat' first
    | with_reducible assumption | exact keptSub (by decide) hT
    | (intro s; refine (fun hk : Kept T zz s => ?_) ?_; clear_value s; rotate_left; subst s) | (intro v; try clear_value v)
    | with_reducible apply State.put_kept | with_reducible apply State.setLed_kept
    | with_reducible apply State.setChan_kept | with_reducible apply Kept.ite | split | lift_lets

theorem State.unprove_kept {T : List Comp} {zz s : State} (hT : [.regs, .chans, .mtx] ⊆ T) (c : Nat) (hh : Kept T zz s) :
    Kept T zz (State.unprove s c) := by
  unfold State.unprove
  try lift_lets
  repeat' first
    | with_reducible assumption | exact keptSub (by decide) hT
    | (intro s; refine (fun hk : Kept T zz s => ?_) ?_; clear_value s; rotate_left; subst s) | (intro v; try clear_value v)
    | with_reducible apply State.put_kept | with_reducible apply State.putFlag_kept
    | with_reducible apply State.setChan_kept | with_reducible apply State.setLed_kept | with_reducible apply Kept.ite
    | split | lift_lets

theorem State.provenLit_kept {T : List Comp} {zz s : State} (hT : [.regs, .chans] ⊆ T) (c : Nat) (hh : Kept T zz s) : Kept T
    zz (State.provenLit s c) := by
  unfold State.provenLit
  try lift_lets
  repeat' first
    | with_reducible assumption | exact keptSub (by decide) hT
    | (intro s; refine (fun hk : Kept T zz s => ?_) ?_; clear_value s; rotate_left; subst s) | (intro v; try clear_value v)
    | with_reducible apply State.put_kept | with_reducible apply State.putFlag_kept | with_reducible apply State.setChan_kept

theorem State.cutPulse_kept {T : List Comp} {zz s : State} (hT : [.chans, .mtx] ⊆ T) (c : Nat) (hh : Kept T zz s) : Kept T zz
    (State.cutPulse s c) := by
  unfold State.cutPulse
  try lift_lets
  repeat' first
    | with_reducible assumption | exact keptSub (by decide) hT
    | (intro s; refine (fun hk : Kept T zz s => ?_) ?_; clear_value s; rotate_left; subst s) | (intro v; try clear_value v)
    | with_reducible apply State.setChan_kept | with_reducible apply State.cutColumn_kept | with_reducible apply Kept.ite
    | split | lift_lets

theorem State.bankClose_kept {T : List Comp} {zz s : State} (hT : [.banks] ⊆ T) (n : Nat) (hh : Kept T zz s) : Kept T zz
    (State.bankClose s n) := by
  unfold State.bankClose
  repeat' first
    | with_reducible assumption | exact keptSub (by decide) hT | with_reducible apply State.setBank_kept
    | with_reducible apply Kept.ite | split

theorem State.bankOpen_kept {T : List Comp} {zz s : State} (hT : [.regs, .banks] ⊆ T) (n : Nat) (hh : Kept T zz s) : Kept T
    zz (State.bankOpen s n) := by
  unfold State.bankOpen
  try lift_lets
  repeat' first
    | with_reducible assumption | exact keptSub (by decide) hT
    | (intro s; refine (fun hk : Kept T zz s => ?_) ?_; clear_value s; rotate_left; subst s) | (intro v; try clear_value v)
    | with_reducible apply State.setBank_kept | with_reducible apply State.putFlag_kept | with_reducible apply Kept.ite
    | split | lift_lets

theorem State.scanEnd_kept {T : List Comp} {zz s : State} (hT : [.regs, .banks, .mtx] ⊆ T) (hh : Kept T zz s) : Kept T zz
    (State.scanEnd s) := by
  unfold State.scanEnd
  try lift_lets
  repeat' first
    | with_reducible assumption | exact keptSub (by decide) hT
    | (intro s; refine (fun hk : Kept T zz s => ?_) ?_; clear_value s; rotate_left; subst s) | (intro v; try clear_value v)
    | with_reducible apply State.bankOpen_kept | with_reducible apply State.putFlag_kept | with_reducible apply Kept.ite
    | with_reducible (apply Kept.fold; intro _ _ _)
    | fail_if_no_progress (with_reducible refine Kept.upd_mtx ?_ (has (by decide) hT)) | split | lift_lets

theorem State.mtxHeld_kept {T : List Comp} {zz s : State} (hT : [.regs] ⊆ T) (hh : Kept T zz s) : Kept T zz (State.mtxHeld s)
    := by
  unfold State.mtxHeld
  repeat' first
    | with_reducible assumption | exact keptSub (by decide) hT | with_reducible apply State.put_kept
    | with_reducible apply Kept.ite | split

theorem State.mornEnd_kept {T : List Comp} {zz s : State} (hT : [.regs, .evt, .pwr] ⊆ T) (hh : Kept T zz s) : Kept T zz
    (State.mornEnd s) := by
  unfold State.mornEnd
  try lift_lets
  repeat' first
    | with_reducible assumption | exact keptSub (by decide) hT
    | (intro s; refine (fun hk : Kept T zz s => ?_) ?_; clear_value s; rotate_left; subst s) | (intro v; try clear_value v)
    | with_reducible apply State.put_kept | with_reducible apply State.putFlag_kept | with_reducible apply State.logFw_kept
    | with_reducible apply Kept.ite | fail_if_no_progress (with_reducible refine Kept.upd_pwr ?_ (has (by decide) hT))

theorem State.strayOpen_kept {T : List Comp} {zz s : State} (hT : [.regs, .evt, .pwr, .banks] ⊆ T) (n : Nat) (hh : Kept T zz
    s) : Kept T zz (State.strayOpen s n) := by
  unfold State.strayOpen
  try lift_lets
  repeat' first
    | with_reducible assumption | exact keptSub (by decide) hT | (intro v; try clear_value v)
    | with_reducible apply State.bankClose_kept | with_reducible apply State.bankOpen_kept
    | with_reducible apply State.putFlag_kept | with_reducible apply State.mtxHeld_kept
    | with_reducible apply State.mornEnd_kept | with_reducible apply Kept.ite
    | fail_if_no_progress (with_reducible refine Kept.upd_pwr ?_ (has (by decide) hT))

theorem State.bankGroup_kept {T : List Comp} {zz s : State} (hT : [.regs, .icu, .nw, .pwr] ⊆ T) (cls : Nat) (hh : Kept T zz
    s) : Kept T zz (State.bankGroup s cls) := by
  unfold State.bankGroup
  repeat' first
    | with_reducible assumption | exact keptSub (by decide) hT | with_reducible apply State.fltFollow_kept

theorem State.showTemp_kept {T : List Comp} {zz s : State} (hT : [.regs] ⊆ T) (c : Nat) (hh : Kept T zz s) : Kept T zz
    (State.showTemp s c) := by
  unfold State.showTemp
  repeat' first
    | with_reducible assumption | exact keptSub (by decide) hT | with_reducible apply State.put_kept
    | with_reducible apply State.putFlag_kept

theorem State.putAsp_kept {T : List Comp} {zz s : State} (hT : [.regs] ⊆ T) (n : Nat) (v : Verdict) (forced conflict proving
    : Bool) (st : Nat) (hh : Kept T zz s) : Kept T zz (State.putAsp s n v forced conflict proving st) := by
  unfold State.putAsp
  repeat' first
    | with_reducible assumption | exact keptSub (by decide) hT | with_reducible apply State.wr_kept

theorem State.putAspFlt_kept {T : List Comp} {zz s : State} (hT : [.regs] ⊆ T) (n : Nat) (hh : Kept T zz s) : Kept T zz
    (State.putAspFlt s n) := by
  unfold State.putAspFlt
  try lift_lets
  repeat' first
    | with_reducible assumption | exact keptSub (by decide) hT | (intro v; try clear_value v)
    | with_reducible apply State.wr_kept

theorem State.ruleConflict_kept {T : List Comp} {zz s : State} (hT : [.regs, .icu, .evt, .nw, .pwr, .res] ⊆ T) (n : Nat)
    (conflict : Bool) (hh : Kept T zz s) : Kept T zz (State.ruleConflict s n conflict) := by
  unfold State.ruleConflict
  try lift_lets
  repeat' first
    | with_reducible assumption | exact keptSub (by decide) hT
    | (intro s; refine (fun hk : Kept T zz s => ?_) ?_; clear_value s; rotate_left; subst s) | (intro v; try clear_value v)
    | with_reducible apply State.logEv_kept | with_reducible apply State.bump_kept | with_reducible apply State.raise_kept
    | with_reducible apply State.setAsp_kept | with_reducible apply Kept.ite

theorem State.presentAsp_kept {T : List Comp} {zz s : State} (hT : [.res] ⊆ T) (n : Nat) (v : Verdict) (forced blocked :
    Bool) (hh : Kept T zz s) : Kept T zz (State.presentAsp s n v forced blocked) := by
  unfold State.presentAsp
  try lift_lets
  repeat' first
    | with_reducible assumption | exact keptSub (by decide) hT
    | (intro s; refine (fun hk : Kept T zz s => ?_) ?_; clear_value s; rotate_left; subst s) | (intro v; try clear_value v)
    | with_reducible apply State.setAsp_kept | with_reducible apply Kept.ite | split | lift_lets

theorem State.resolveAsp_kept {T : List Comp} {zz s : State} (hT : [.regs, .icu, .evt, .nw, .life, .pwr, .res] ⊆ T) (before :
    State) (n : Nat) (hh : Kept T zz s) : Kept T zz (State.resolveAsp before s n) := by
  unfold State.resolveAsp
  try lift_lets
  repeat' first
    | with_reducible assumption | exact keptSub (by decide) hT
    | (intro s; refine (fun hk : Kept T zz s => ?_) ?_; clear_value s; rotate_left; subst s) | (intro v; try clear_value v)
    | with_reducible apply State.setAsp_kept | with_reducible apply State.wr_kept | with_reducible apply State.lifeAcc_kept
    | with_reducible apply State.putAsp_kept | with_reducible apply State.putAspFlt_kept
    | with_reducible apply State.presentAsp_kept | with_reducible apply State.ruleConflict_kept
    | with_reducible apply Kept.ite | split | lift_lets

theorem State.resolveHead_kept {T : List Comp} {zz s : State} (hT : [.regs] ⊆ T) (before : State) (h : Nat) (hh : Kept T zz
    s) : Kept T zz (State.resolveHead before s h) := by
  unfold State.resolveHead
  try lift_lets
  repeat' first
    | with_reducible assumption | exact keptSub (by decide) hT | (intro v; try clear_value v)
    | with_reducible apply State.wr_kept

theorem State.spiStats_kept {T : List Comp} {zz s : State} (hT : [.spi] ⊆ T) (hh : Kept T zz s) : Kept T zz (State.spiStats
    s) := by
  unfold State.spiStats
  repeat' first
    | with_reducible assumption | exact keptSub (by decide) hT | with_reducible apply Kept.ite
    | fail_if_no_progress (with_reducible refine Kept.upd_spi ?_ (has (by decide) hT))

theorem State.resolve_kept {T : List Comp} {zz s : State} (hT : [.regs, .icu, .evt, .nw, .life, .pwr, .res, .spi] ⊆ T) (hh :
    Kept T zz s) : Kept T zz (State.resolve s) := by
  unfold State.resolve
  try lift_lets
  repeat' first
    | with_reducible assumption | exact keptSub (by decide) hT
    | (intro s; refine (fun hk : Kept T zz s => ?_) ?_; clear_value s; rotate_left; subst s) | (intro v; try clear_value v)
    | with_reducible apply State.resolveAsp_kept | with_reducible apply State.resolveHead_kept
    | with_reducible apply State.spiStats_kept | with_reducible apply Kept.ite
    | with_reducible (apply Kept.fold; intro _ _ _)
    | fail_if_no_progress (with_reducible refine Kept.upd_res ?_ (has (by decide) hT)) | split | lift_lets

theorem State.refusePattern_kept {T : List Comp} {zz s : State} (hT : [.regs, .evt, .res] ⊆ T) (n : Nat) (hh : Kept T zz s) :
    Kept T zz (State.refusePattern s n) := by
  unfold State.refusePattern
  try lift_lets
  repeat' first
    | with_reducible assumption | exact keptSub (by decide) hT
    | (intro s; refine (fun hk : Kept T zz s => ?_) ?_; clear_value s; rotate_left; subst s) | (intro v; try clear_value v)
    | with_reducible apply State.logEv_kept | with_reducible apply State.setAsp_kept
    | with_reducible apply State.putFlag_kept | with_reducible apply Kept.ite | with_reducible (apply Kept.fold; intro _ _ _)

theorem State.commitAsp_kept {T : List Comp} {zz s : State} (hT : [.chans, .res] ⊆ T) (n : Nat) (hh : Kept T zz s) : Kept T
    zz (State.commitAsp s n) := by
  unfold State.commitAsp
  try lift_lets
  repeat' first
    | with_reducible assumption | exact keptSub (by decide) hT
    | (intro s; refine (fun hk : Kept T zz s => ?_) ?_; clear_value s; rotate_left; subst s) | (intro v; try clear_value v)
    | with_reducible apply State.setAsp_kept | with_reducible apply State.setChan_kept | with_reducible apply Kept.ite
    | with_reducible (apply Kept.fold; intro _ _ _) | split | lift_lets

theorem State.banksSeen_kept {T : List Comp} {zz s : State} (hT : [.banks] ⊆ T) (hh : Kept T zz s) : Kept T zz
    (State.banksSeen s) := by
  unfold State.banksSeen
  repeat' first
    | with_reducible assumption | exact keptSub (by decide) hT | with_reducible apply State.setBank_kept
    | with_reducible apply Kept.ite | with_reducible (apply Kept.fold; intro _ _ _) | split

theorem State.commitChan_kept {T : List Comp} {zz s : State} (hT : [.regs, .chans] ⊆ T) (asps : List (Nat × List Nat)) (c :
    Nat) (hh : Kept T zz s) : Kept T zz (State.commitChan asps s c) := by
  unfold State.commitChan
  try lift_lets
  repeat' first
    | with_reducible assumption | exact keptSub (by decide) hT
    | (intro s; refine (fun hk : Kept T zz s => ?_) ?_; clear_value s; rotate_left; subst s) | (intro v; try clear_value v)
    | with_reducible apply State.putFlag_kept | with_reducible apply State.setChan_kept | with_reducible apply Kept.ite

theorem State.budget_kept {T : List Comp} {zz s : State} (hT : [.regs, .evt, .chans] ⊆ T) (hh : Kept T zz s) : Kept T zz
    (State.budget s) := by
  unfold State.budget
  try lift_lets
  repeat' first
    | with_reducible assumption | exact keptSub (by decide) hT
    | (intro s; refine (fun hk : Kept T zz s => ?_) ?_; clear_value s; rotate_left; subst s) | (intro v; try clear_value v)
    | with_reducible apply State.setChan_kept | with_reducible apply State.putFlag_kept
    | with_reducible apply State.logEv_kept | with_reducible apply Kept.ite | with_reducible (apply Kept.fold; intro _ _ _)
    | split | lift_lets

theorem State.commitBank_kept {T : List Comp} {zz s : State} (hT : [.regs, .icu, .nw, .pwr, .banks] ⊆ T) (n : Nat) (hh : Kept
    T zz s) : Kept T zz (State.commitBank s n) := by
  unfold State.commitBank
  try lift_lets
  repeat' first
    | with_reducible assumption | exact keptSub (by decide) hT
    | (intro s; refine (fun hk : Kept T zz s => ?_) ?_; clear_value s; rotate_left; subst s) | (intro v; try clear_value v)
    | with_reducible apply State.setBank_kept | with_reducible apply State.putFlag_kept
    | with_reducible apply State.bump_kept | with_reducible apply State.bankClose_kept
    | with_reducible apply State.bankOpen_kept | with_reducible apply State.bankGroup_kept | with_reducible apply Kept.ite
    | split | lift_lets

theorem State.latchTable_kept {T : List Comp} {zz s : State} (hT : [.regs, .pwr, .boost] ⊆ T) (hh : Kept T zz s) : Kept T zz
    (State.latchTable s) := by
  unfold State.latchTable
  try lift_lets
  repeat' first
    | with_reducible assumption | exact keptSub (by decide) hT
    | (intro s; refine (fun hk : Kept T zz s => ?_) ?_; clear_value s; rotate_left; subst s) | (intro v; try clear_value v)
    | with_reducible apply State.putFlag_kept | with_reducible apply Kept.ite
    | fail_if_no_progress (with_reducible refine Kept.upd_pwr ?_ (has (by decide) hT))
    | fail_if_no_progress (with_reducible refine Kept.upd_boost ?_ (has (by decide) hT))
    | fail_if_no_progress (refine Kept.updM (T := T) ?_ ?_ rfl rfl rfl rfl rfl; rotate_left; (intro c hc; cases c <;> first | exact rfl | exact absurd (has (by decide) hT) hc))

theorem State.judgeReady_kept {T : List Comp} {zz s : State} (hT : [.regs, .pins, .icu, .nw, .pwr] ⊆ T) (hh : Kept T zz s) :
    Kept T zz (State.judgeReady s) := by
  unfold State.judgeReady
  try lift_lets
  repeat' first
    | with_reducible assumption | exact keptSub (by decide) hT
    | (intro s; refine (fun hk : Kept T zz s => ?_) ?_; clear_value s; rotate_left; subst s) | (intro v; try clear_value v)
    | with_reducible apply State.putFlag_kept | with_reducible apply State.driveReady_kept
    | with_reducible apply State.wr_kept | with_reducible apply Kept.ite | with_reducible (apply Kept.fold; intro _ _ _)

theorem State.dawnComplete_kept {T : List Comp} {zz s : State} (hT : [.regs, .evt, .pwr] ⊆ T) (hh : Kept T zz s) : Kept T zz
    (State.dawnComplete s) := by
  unfold State.dawnComplete
  try lift_lets
  repeat' first
    | with_reducible assumption | exact keptSub (by decide) hT
    | (intro s; refine (fun hk : Kept T zz s => ?_) ?_; clear_value s; rotate_left; subst s) | (intro v; try clear_value v)
    | with_reducible apply State.putFlag_kept | with_reducible apply State.logFw_kept | with_reducible apply State.put_kept
    | with_reducible apply State.fltClr_kept | with_reducible apply Kept.ite
    | fail_if_no_progress (with_reducible refine Kept.upd_pwr ?_ (has (by decide) hT)) | split | lift_lets

theorem State.endFreeze_kept {T : List Comp} {zz s : State} (hT : [.regs] ⊆ T) (hh : Kept T zz s) : Kept T zz
    (State.endFreeze s) := by
  unfold State.endFreeze
  repeat' first
    | with_reducible assumption | exact keptSub (by decide) hT | with_reducible apply State.putFlag_kept
    | with_reducible apply Kept.ite

theorem State.duskEnd_kept {T : List Comp} {zz s : State} (hT : [.regs, .pwr, .chans, .mtx] ⊆ T) (hh : Kept T zz s) : Kept T
    zz (State.duskEnd s) := by
  unfold State.duskEnd
  try lift_lets
  repeat' first
    | with_reducible assumption | exact keptSub (by decide) hT
    | (intro s; refine (fun hk : Kept T zz s => ?_) ?_; clear_value s; rotate_left; subst s) | (intro v; try clear_value v)
    | with_reducible apply State.unprove_kept | with_reducible apply State.put_kept | with_reducible apply Kept.ite
    | with_reducible (apply Kept.fold; intro _ _ _)
    | fail_if_no_progress (with_reducible refine Kept.upd_pwr ?_ (has (by decide) hT)) | split | lift_lets

theorem State.firstCommit_kept {T : List Comp} {zz s : State} (hT : [.regs, .chans, .mtx] ⊆ T) (hh : Kept T zz s) : Kept T zz
    (State.firstCommit s) := by
  unfold State.firstCommit
  repeat' first
    | with_reducible assumption | exact keptSub (by decide) hT | with_reducible apply State.unprove_kept
    | with_reducible apply Kept.ite | with_reducible (apply Kept.fold; intro _ _ _) | split

theorem State.commitDrive_kept {T : List Comp} {zz s : State} (hT : [.regs, .icu, .evt, .nw, .pwr, .chans, .banks, .boost,
    .mtx] ⊆ T) (hh : Kept T zz s) : Kept T zz (State.commitDrive s) := by
  unfold State.commitDrive
  try lift_lets
  repeat' first
    | with_reducible assumption | exact keptSub (by decide) hT
    | (intro s; refine (fun hk : Kept T zz s => ?_) ?_; clear_value s; rotate_left; subst s) | (intro v; try clear_value v)
    | with_reducible apply State.commitChan_kept | with_reducible apply State.firstCommit_kept
    | with_reducible apply State.scanEnd_kept | with_reducible apply State.commitBank_kept
    | with_reducible apply State.budget_kept | with_reducible apply State.mtxHeld_kept
    | with_reducible apply State.latchTable_kept | with_reducible apply Kept.ite
    | with_reducible (apply Kept.fold; intro _ _ _)
    | fail_if_no_progress (with_reducible refine Kept.upd_boost ?_ (has (by decide) hT)) | split | lift_lets

theorem State.aspectCommit_kept {T : List Comp} {zz s : State} (hT : [.regs, .pins, .icu, .evt, .nw, .pwr, .chans, .banks,
    .boost, .res, .mtx] ⊆ T) (hh : Kept T zz s) : Kept T zz (State.aspectCommit s) := by
  unfold State.aspectCommit
  try lift_lets
  repeat' first
    | with_reducible assumption | exact keptSub (by decide) hT
    | (intro s; refine (fun hk : Kept T zz s => ?_) ?_; clear_value s; rotate_left; subst s) | (intro v; try clear_value v)
    | with_reducible apply State.endFreeze_kept | with_reducible apply State.refusePattern_kept
    | with_reducible apply State.commitAsp_kept | with_reducible apply State.banksSeen_kept
    | with_reducible apply State.setAsp_kept | with_reducible apply State.commitDrive_kept
    | with_reducible apply State.dawnComplete_kept | with_reducible apply State.duskEnd_kept
    | with_reducible apply State.judgeReady_kept | with_reducible apply Kept.ite
    | with_reducible (apply Kept.fold; intro _ _ _)
    | fail_if_no_progress (with_reducible refine Kept.upd_res ?_ (has (by decide) hT)) | split | lift_lets

theorem State.resolved_kept {T : List Comp} {zz s : State} (hT : [.obs, .res] ⊆ T) (hh : Kept T zz s) : Kept T zz
    (State.resolved s) := by
  unfold State.resolved
  try lift_lets
  repeat' first
    | with_reducible assumption | exact keptSub (by decide) hT
    | (intro s; refine (fun hk : Kept T zz s => ?_) ?_; clear_value s; rotate_left; subst s) | (intro v; try clear_value v)
    | with_reducible apply State.obsWrite_kept | with_reducible apply Kept.ite
    | with_reducible (apply Kept.fold; intro _ _ _)
    | fail_if_no_progress (with_reducible refine Kept.upd_res ?_ (has (by decide) hT)) | split | lift_lets

theorem State.arrive_kept {T : List Comp} {zz s : State} (hT : [.regs, .chans, .mtx] ⊆ T) (c : Nat) (hh : Kept T zz s) : Kept
    T zz (State.arrive s c) := by
  unfold State.arrive
  try lift_lets
  repeat' first
    | with_reducible assumption | exact keptSub (by decide) hT
    | (intro s; refine (fun hk : Kept T zz s => ?_) ?_; clear_value s; rotate_left; subst s) | (intro v; try clear_value v)
    | with_reducible apply State.setChan_kept | with_reducible apply State.darkLed_kept
    | with_reducible apply State.unprove_kept | with_reducible apply Kept.ite | split | lift_lets

theorem State.judgeTwilight_kept {T : List Comp} {zz s : State} (hT : [.regs, .evt] ⊆ T) (c : Nat) (clip : Bool) (hh : Kept T
    zz s) : Kept T zz (State.judgeTwilight s c clip) := by
  unfold State.judgeTwilight
  try lift_lets
  repeat' first
    | with_reducible assumption | exact keptSub (by decide) hT
    | (intro s; refine (fun hk : Kept T zz s => ?_) ?_; clear_value s; rotate_left; subst s) | (intro v; try clear_value v)
    | with_reducible apply State.logEv_kept | with_reducible apply State.putFlag_kept | with_reducible apply Kept.ite

theorem State.clipStep_kept {T : List Comp} {zz s : State} (hT : [.regs, .evt] ⊆ T) (c : Nat) (judged : Option Bool) (gone :
    Bool) (hh : Kept T zz s) : Kept T zz (State.clipStep s c judged gone) := by
  unfold State.clipStep
  try lift_lets
  repeat' first
    | with_reducible assumption | exact keptSub (by decide) hT
    | (intro s; refine (fun hk : Kept T zz s => ?_) ?_; clear_value s; rotate_left; subst s) | (intro v; try clear_value v)
    | with_reducible apply State.judgeTwilight_kept | with_reducible apply State.putFlag_kept
    | with_reducible apply Kept.ite | split | lift_lets

theorem State.showGov_kept {T : List Comp} {zz s : State} (hT : [.regs] ⊆ T) (c f : Nat) (hh : Kept T zz s) : Kept T zz
    (State.showGov s c f) := by
  unfold State.showGov
  try lift_lets
  repeat' first
    | with_reducible assumption | exact keptSub (by decide) hT
    | (intro s; refine (fun hk : Kept T zz s => ?_) ?_; clear_value s; rotate_left; subst s) | (intro v; try clear_value v)
    | with_reducible apply State.put_kept | with_reducible apply Kept.ite | split | lift_lets

theorem State.showDrive_kept {T : List Comp} {zz s : State} (hT : [.regs] ⊆ T) (c : Nat) (p : PlanOf) (pat : Bool) (on16 :
    Nat) (hh : Kept T zz s) : Kept T zz (State.showDrive s c p pat on16) := by
  unfold State.showDrive
  try lift_lets
  repeat' first
    | with_reducible assumption | exact keptSub (by decide) hT
    | (intro s; refine (fun hk : Kept T zz s => ?_) ?_; clear_value s; rotate_left; subst s) | (intro v; try clear_value v)
    | with_reducible apply State.showGov_kept | with_reducible apply State.put_kept
    | with_reducible apply State.putFlag_kept | with_reducible apply Kept.ite | split | lift_lets

theorem State.litStep_kept {T : List Comp} {zz s : State} (hT : [.regs, .life, .chans, .mtx] ⊆ T) (c : Nat) (was now : Bool)
    (hh : Kept T zz s) : Kept T zz (State.litStep s c was now) := by
  unfold State.litStep
  try lift_lets
  repeat' first
    | with_reducible assumption | exact keptSub (by decide) hT
    | (intro s; refine (fun hk : Kept T zz s => ?_) ?_; clear_value s; rotate_left; subst s) | (intro v; try clear_value v)
    | with_reducible apply State.unprove_kept | with_reducible apply State.putFlag_kept
    | with_reducible apply State.setChan_kept | with_reducible apply State.lifeAcc_kept | with_reducible apply Kept.ite

theorem State.mornTake_kept {T : List Comp} {zz s : State} (hT : [.pwr] ⊆ T) (c : Nat) (drop : Bool) (hh : Kept T zz s) :
    Kept T zz (State.mornTake s c drop) := by
  unfold State.mornTake
  try lift_lets
  repeat' first
    | with_reducible assumption | exact keptSub (by decide) hT | (intro v; try clear_value v) | with_reducible apply Kept.ite
    | fail_if_no_progress (with_reducible refine Kept.upd_pwr ?_ (has (by decide) hT))

theorem State.pwmRepeat_kept {T : List Comp} {zz s : State} (hT : [.chans] ⊆ T) (c : Nat) (hh : Kept T zz s) : Kept T zz
    (State.pwmRepeat s c) := by
  unfold State.pwmRepeat
  try lift_lets
  repeat' first
    | with_reducible assumption | exact keptSub (by decide) hT
    | (intro s; refine (fun hk : Kept T zz s => ?_) ?_; clear_value s; rotate_left; subst s) | (intro v; try clear_value v)
    | with_reducible apply State.setChan_kept | with_reducible apply Kept.ite | split | lift_lets

theorem State.pwmStart_kept {T : List Comp} {zz s : State} (hT : [.regs, .free, .evt, .life, .pwr, .chans, .mtx] ⊆ T) (c :
    Nat) (hh : Kept T zz s) : Kept T zz (State.pwmStart s c) := by
  unfold State.pwmStart
  try lift_lets
  repeat' first
    | with_reducible assumption | exact keptSub (by decide) hT
    | (intro s; refine (fun hk : Kept T zz s => ?_) ?_; clear_value s; rotate_left; subst s) | (intro v; try clear_value v)
    | with_reducible apply State.pwmRepeat_kept | with_reducible apply State.mornTake_kept
    | with_reducible apply State.litStep_kept | with_reducible apply State.setChan_kept
    | with_reducible apply State.clipStep_kept | with_reducible apply State.putFlag_kept
    | with_reducible apply State.provenLit_kept | with_reducible apply State.showDrive_kept | with_reducible apply Kept.ite
    | fail_if_no_progress (with_reducible refine Kept.upd_free ?_ (has (by decide) hT)) | split | lift_lets

theorem State.takePend_kept {T : List Comp} {zz s : State} (hT : [.chans] ⊆ T) (c : Nat) (hh : Kept T zz s) : Kept T zz
    (State.takePend s c) := by
  unfold State.takePend
  try lift_lets
  repeat' first
    | with_reducible assumption | exact keptSub (by decide) hT | (intro v; try clear_value v)
    | with_reducible apply State.setChan_kept

theorem State.frameChan_kept {T : List Comp} {zz s : State} (hT : [.regs, .evt, .life, .chans, .mtx] ⊆ T) (c : Nat) (p :
    PlanOf) (q : ProbeOf) (hh : Kept T zz s) : Kept T zz (State.frameChan s c p q) := by
  unfold State.frameChan
  try lift_lets
  repeat' first
    | with_reducible assumption | exact keptSub (by decide) hT
    | (intro s; refine (fun hk : Kept T zz s => ?_) ?_; clear_value s; rotate_left; subst s) | (intro v; try clear_value v)
    | with_reducible apply State.litStep_kept | with_reducible apply State.setChan_kept
    | with_reducible apply State.clipStep_kept | with_reducible apply State.putFlag_kept
    | with_reducible apply State.provenLit_kept | with_reducible apply State.showDrive_kept | with_reducible apply Kept.ite
    | split | lift_lets

theorem State.ledRepeat_kept {T : List Comp} {zz s : State} (hT : [.chans, .mtx] ⊆ T) (e : Nat) (hh : Kept T zz s) : Kept T
    zz (State.ledRepeat s e) := by
  unfold State.ledRepeat
  try lift_lets
  repeat' first
    | with_reducible assumption | exact keptSub (by decide) hT
    | (intro s; refine (fun hk : Kept T zz s => ?_) ?_; clear_value s; rotate_left; subst s) | (intro v; try clear_value v)
    | with_reducible apply State.setLed_kept | with_reducible apply State.setChan_kept | with_reducible apply Kept.ite
    | split | lift_lets

theorem State.frameLed_kept {T : List Comp} {zz s : State} (hT : [.regs, .evt, .life, .pwr, .chans, .mtx] ⊆ T) (e : Nat) (hh
    : Kept T zz s) : Kept T zz (State.frameLed s e) := by
  unfold State.frameLed
  try lift_lets
  repeat' first
    | with_reducible assumption | exact keptSub (by decide) hT
    | (intro s; refine (fun hk : Kept T zz s => ?_) ?_; clear_value s; rotate_left; subst s) | (intro v; try clear_value v)
    | with_reducible apply State.ledRepeat_kept | with_reducible apply State.takePend_kept
    | with_reducible apply State.mornTake_kept | with_reducible apply State.setLed_kept
    | with_reducible apply State.frameChan_kept | with_reducible apply Kept.ite | split | lift_lets

theorem State.frameColumn_kept {T : List Comp} {zz s : State} (hT : [.regs, .chans] ⊆ T) (c : Nat) (hh : Kept T zz s) : Kept
    T zz (State.frameColumn s c) := by
  unfold State.frameColumn
  try lift_lets
  repeat' first
    | with_reducible assumption | exact keptSub (by decide) hT
    | (intro s; refine (fun hk : Kept T zz s => ?_) ?_; clear_value s; rotate_left; subst s) | (intro v; try clear_value v)
    | with_reducible apply State.setChan_kept | with_reducible apply State.showGov_kept
    | with_reducible apply State.putFlag_kept | with_reducible apply Kept.ite | split | lift_lets

theorem State.frameStart_kept {T : List Comp} {zz s : State} (hT : [.regs, .free, .evt, .life, .pwr, .chans, .banks, .mtx] ⊆
    T) (hh : Kept T zz s) : Kept T zz (State.frameStart s) := by
  unfold State.frameStart
  try lift_lets
  repeat' first
    | with_reducible assumption | exact keptSub (by decide) hT
    | (intro s; refine (fun hk : Kept T zz s => ?_) ?_; clear_value s; rotate_left; subst s) | (intro v; try clear_value v)
    | with_reducible apply State.scanEnd_kept | with_reducible apply State.putFlag_kept
    | with_reducible apply State.frameLed_kept | with_reducible apply State.frameColumn_kept
    | with_reducible apply Kept.ite | with_reducible (apply Kept.fold; intro _ _ _)
    | fail_if_no_progress (with_reducible refine Kept.upd_free ?_ (has (by decide) hT))
    | fail_if_no_progress (with_reducible refine Kept.upd_mtx ?_ (has (by decide) hT)) | split | lift_lets

theorem State.lineClose_kept {T : List Comp} {zz s : State} (hT : [.regs, .banks] ⊆ T) (n : Nat) (hh : Kept T zz s) : Kept T
    zz (State.lineClose s n) := by
  unfold State.lineClose
  repeat' first
    | with_reducible assumption | exact keptSub (by decide) hT | with_reducible apply State.setBank_kept
    | with_reducible apply State.putFlag_kept | with_reducible apply Kept.ite | split

theorem State.slotScales_kept {T : List Comp} {zz s : State} (hT : [.regs] ⊆ T) (k : Nat) (hh : Kept T zz s) : Kept T zz
    (State.slotScales s k) := by
  unfold State.slotScales
  try lift_lets
  repeat' first
    | with_reducible assumption | exact keptSub (by decide) hT
    | (intro s; refine (fun hk : Kept T zz s => ?_) ?_; clear_value s; rotate_left; subst s) | (intro v; try clear_value v)
    | with_reducible apply State.put_kept | with_reducible apply Kept.ite | with_reducible (apply Kept.fold; intro _ _ _)
    | split | lift_lets

theorem State.slotStart_kept {T : List Comp} {zz s : State} (hT : [.regs, .banks, .mtx] ⊆ T) (hh : Kept T zz s) : Kept T zz
    (State.slotStart s) := by
  unfold State.slotStart
  try lift_lets
  repeat' first
    | with_reducible assumption | exact keptSub (by decide) hT
    | (intro s; refine (fun hk : Kept T zz s => ?_) ?_; clear_value s; rotate_left; subst s) | (intro v; try clear_value v)
    | with_reducible apply State.scanEnd_kept | with_reducible apply State.bankOpen_kept
    | with_reducible apply State.slotScales_kept | with_reducible apply State.lineClose_kept
    | with_reducible apply Kept.ite | with_reducible (apply Kept.fold; intro _ _ _)
    | fail_if_no_progress (with_reducible refine Kept.upd_mtx ?_ (has (by decide) hT)) | split | lift_lets

theorem State.seedTemp_kept {T : List Comp} {zz s : State} (hT : [.chans] ⊆ T) (c : Nat) (hh : Kept T zz s) : Kept T zz
    (State.seedTemp s c) := by
  unfold State.seedTemp
  try lift_lets
  repeat' first
    | with_reducible assumption | exact keptSub (by decide) hT | (intro v; try clear_value v)
    | with_reducible apply State.setChan_kept | with_reducible apply Kept.ite

theorem State.moveTemp_kept {T : List Comp} {zz s : State} (hT : [.chans] ⊆ T) (c : Nat) (ws : List Nat) (hh : Kept T zz s) :
    Kept T zz (State.moveTemp s c ws) := by
  unfold State.moveTemp
  try lift_lets
  repeat' first
    | with_reducible assumption | exact keptSub (by decide) hT | (intro v; try clear_value v)
    | with_reducible apply State.setChan_kept

theorem State.strayCommand_kept {T : List Comp} {zz s : State} (hT : [.regs, .evt, .pwr, .banks] ⊆ T) (n : Nat) (hh : Kept T
    zz s) : Kept T zz (State.strayCommand s n) := by
  unfold State.strayCommand
  repeat' first
    | with_reducible assumption | exact keptSub (by decide) hT | with_reducible apply State.strayOpen_kept
    | with_reducible apply State.setBank_kept | with_reducible apply Kept.ite

theorem State.confirm_kept {T : List Comp} {zz s : State} (hT : [.regs, .icu, .evt, .nw, .pwr, .chans, .banks, .mtx] ⊆ T) (c
    k : Nat) (w1 w2 : List Nat) (temp : Int) (at_ : Stamp) (hh : Kept T zz s) : Kept T zz (State.confirm s c k w1 w2 temp
    at_) := by
  unfold State.confirm
  try lift_lets
  repeat' first
    | with_reducible assumption | exact keptSub (by decide) hT
    | (intro s; refine (fun hk : Kept T zz s => ?_) ?_; clear_value s; rotate_left; subst s) | (intro v; try clear_value v)
    | with_reducible apply State.put_kept | with_reducible apply State.putFlag_kept
    | with_reducible apply State.reprove_kept | with_reducible apply State.cutPulse_kept
    | with_reducible apply State.strayCommand_kept | with_reducible apply State.logStamp_kept
    | with_reducible apply State.raise_kept | with_reducible apply State.fltSet_kept
    | with_reducible apply State.duskExit_kept | with_reducible apply Kept.ite | split | lift_lets

theorem State.unlatch_kept {T : List Comp} {zz s : State} (hT : [.regs, .icu, .nw, .pwr, .chans] ⊆ T) (c k : Nat) (hh : Kept
    T zz s) : Kept T zz (State.unlatch s c k) := by
  unfold State.unlatch
  try lift_lets
  repeat' first
    | with_reducible assumption | exact keptSub (by decide) hT
    | (intro s; refine (fun hk : Kept T zz s => ?_) ?_; clear_value s; rotate_left; subst s) | (intro v; try clear_value v)
    | with_reducible apply State.putFlag_kept | with_reducible apply State.setChan_kept
    | with_reducible apply State.put_kept | with_reducible apply State.lampGroup_kept | with_reducible apply Kept.ite
    | split | lift_lets

theorem State.coolStep_kept {T : List Comp} {zz s : State} (hT : [.chans] ⊆ T) (c : Nat) (hh : Kept T zz s) : Kept T zz
    (State.coolStep s c) := by
  unfold State.coolStep
  try lift_lets
  repeat' first
    | with_reducible assumption | exact keptSub (by decide) hT
    | (intro s; refine (fun hk : Kept T zz s => ?_) ?_; clear_value s; rotate_left; subst s) | (intro v; try clear_value v)
    | with_reducible apply State.setChan_kept | with_reducible apply Kept.ite | split | lift_lets

theorem State.evalHot_kept {T : List Comp} {zz s : State} (hT : [.regs, .icu, .evt, .nw, .pwr, .chans, .banks, .mtx] ⊆ T) (c
    : Nat) (at_ : Stamp) (hh : Kept T zz s) : Kept T zz (State.evalHot s c at_) := by
  unfold State.evalHot
  try lift_lets
  repeat' first
    | with_reducible assumption | exact keptSub (by decide) hT
    | (intro s; refine (fun hk : Kept T zz s => ?_) ?_; clear_value s; rotate_left; subst s) | (intro v; try clear_value v)
    | with_reducible apply State.coolStep_kept | with_reducible apply State.setChan_kept
    | with_reducible apply State.confirm_kept | with_reducible apply Kept.ite | split | lift_lets

theorem State.sigCopy_kept {T : List Comp} {zz s : State} (hT : [.mem] ⊆ T) (c : Nat) (hh : Kept T zz s) : Kept T zz
    (State.sigCopy s c) := by
  unfold State.sigCopy
  repeat' first
    | with_reducible assumption | exact keptSub (by decide) hT | with_reducible apply State.memWrite_kept

theorem State.learnDone_kept {T : List Comp} {zz s : State} (hT : [.regs, .icu, .evt, .nw, .mem, .pwr, .chans] ⊆ T) (c : Nat)
    (v : List Int) (hh : Kept T zz s) : Kept T zz (State.learnDone s c v) := by
  unfold State.learnDone
  try lift_lets
  repeat' first
    | with_reducible assumption | exact keptSub (by decide) hT
    | (intro s; refine (fun hk : Kept T zz s => ?_) ?_; clear_value s; rotate_left; subst s) | (intro v; try clear_value v)
    | with_reducible apply State.memWrite_kept | with_reducible apply State.putFlag_kept
    | with_reducible apply State.put_kept | with_reducible apply State.wr_kept | with_reducible apply State.logEv_kept
    | with_reducible apply State.unlatch_kept | with_reducible apply State.setChan_kept
    | with_reducible apply State.sigCopy_kept | with_reducible apply Kept.ite

theorem State.learnSample_kept {T : List Comp} {zz s : State} (hT : [.regs, .icu, .evt, .nw, .mem, .pwr, .chans] ⊆ T) (c :
    Nat) (agree : Bool) (vf : Int) (hh : Kept T zz s) : Kept T zz (State.learnSample s c agree vf) := by
  unfold State.learnSample
  try lift_lets
  repeat' first
    | with_reducible assumption | exact keptSub (by decide) hT
    | (intro s; refine (fun hk : Kept T zz s => ?_) ?_; clear_value s; rotate_left; subst s) | (intro v; try clear_value v)
    | with_reducible apply State.learnDone_kept | with_reducible apply State.setChan_kept | with_reducible apply Kept.ite

theorem State.showSuspect_kept {T : List Comp} {zz s : State} (hT : [.regs] ⊆ T) (c : Nat) (hh : Kept T zz s) : Kept T zz
    (State.showSuspect s c) := by
  unfold State.showSuspect
  repeat' first
    | with_reducible assumption | exact keptSub (by decide) hT | with_reducible apply State.putFlag_kept

theorem State.earlyProbe_kept {T : List Comp} {zz s : State} (hT : [.chans] ⊆ T) (c : Nat) (probe : Bool) (hh : Kept T zz s)
    : Kept T zz (State.earlyProbe s c probe) := by
  unfold State.earlyProbe
  repeat' first
    | with_reducible assumption | exact keptSub (by decide) hT | with_reducible apply State.setChan_kept
    | with_reducible apply Kept.ite

theorem State.onSample_kept {T : List Comp} {zz s : State} (hT : [.regs, .icu, .evt, .nw, .pwr, .chans, .banks, .mtx] ⊆ T) (c
    k tick : Nat) (at_ : Stamp) (ws : List Nat) (probe morn : Bool) (hh : Kept T zz s) : Kept T zz (State.onSample s c k tick
    at_ ws probe morn) := by
  unfold State.onSample
  try lift_lets
  repeat' first
    | with_reducible assumption | exact keptSub (by decide) hT
    | (intro s; refine (fun hk : Kept T zz s => ?_) ?_; clear_value s; rotate_left; subst s) | (intro v; try clear_value v)
    | with_reducible apply State.setChan_kept | with_reducible apply State.showSuspect_kept
    | with_reducible apply State.confirm_kept | with_reducible apply State.unlatch_kept
    | with_reducible apply State.provenLit_kept | with_reducible apply State.earlyProbe_kept
    | with_reducible apply Kept.ite | fail_if_no_progress (with_reducible refine Kept.upd_pwr ?_ (has (by decide) hT))
    | split | lift_lets

theorem State.offSample_kept {T : List Comp} {zz s : State} (hT : [.regs, .icu, .evt, .nw, .pwr, .chans, .banks, .mtx] ⊆ T)
    (c k tick : Nat) (at_ : Stamp) (ws : List Nat) (lit : Bool) (hh : Kept T zz s) : Kept T zz (State.offSample s c k tick
    at_ ws lit) := by
  unfold State.offSample
  try lift_lets
  repeat' first
    | with_reducible assumption | exact keptSub (by decide) hT
    | (intro s; refine (fun hk : Kept T zz s => ?_) ?_; clear_value s; rotate_left; subst s) | (intro v; try clear_value v)
    | with_reducible apply State.setChan_kept | with_reducible apply State.showSuspect_kept
    | with_reducible apply State.confirm_kept | with_reducible apply State.put_kept | with_reducible apply Kept.ite | split
    | lift_lets

theorem State.classOn_kept {T : List Comp} {zz s : State} (hT : [.regs, .icu, .evt, .nw, .mem, .pwr, .chans, .banks, .mtx] ⊆
    T) (h : Hold) (ws : List Nat) (hh : Kept T zz s) : Kept T zz (State.classOn s h ws) := by
  unfold State.classOn
  try lift_lets
  repeat' first
    | with_reducible assumption | exact keptSub (by decide) hT
    | (intro s; refine (fun hk : Kept T zz s => ?_) ?_; clear_value s; rotate_left; subst s) | (intro v; try clear_value v)
    | with_reducible apply State.seedTemp_kept | with_reducible apply State.setChan_kept
    | with_reducible apply State.put_kept | with_reducible apply State.onSample_kept
    | with_reducible apply State.learnSample_kept | with_reducible apply State.moveTemp_kept
    | with_reducible apply State.evalHot_kept | with_reducible apply State.showTemp_kept | with_reducible apply Kept.ite
    | split | lift_lets

theorem State.bankClosed_kept {T : List Comp} {zz s : State} (hT : [.regs, .icu, .nw, .pwr, .banks] ⊆ T) (n : Nat) (hh : Kept
    T zz s) : Kept T zz (State.bankClosed s n) := by
  unfold State.bankClosed
  try lift_lets
  repeat' first
    | with_reducible assumption | exact keptSub (by decide) hT
    | (intro s; refine (fun hk : Kept T zz s => ?_) ?_; clear_value s; rotate_left; subst s) | (intro v; try clear_value v)
    | with_reducible apply State.setBank_kept | with_reducible apply State.putFlag_kept
    | with_reducible apply State.mtxHeld_kept | with_reducible apply State.bankGroup_kept | with_reducible apply Kept.ite
    | split | lift_lets

theorem State.classOff_kept {T : List Comp} {zz s : State} (hT : [.regs, .icu, .evt, .nw, .pwr, .chans, .banks, .mtx] ⊆ T) (h
    : Hold) (ws : List Nat) (hh : Kept T zz s) : Kept T zz (State.classOff s h ws) := by
  unfold State.classOff
  try lift_lets
  repeat' first
    | with_reducible assumption | exact keptSub (by decide) hT
    | (intro s; refine (fun hk : Kept T zz s => ?_) ?_; clear_value s; rotate_left; subst s) | (intro v; try clear_value v)
    | with_reducible apply State.bankClosed_kept | with_reducible apply State.offSample_kept
    | with_reducible apply Kept.ite | split | lift_lets

theorem State.ledConfirm_kept {T : List Comp} {zz s : State} (hT : [.regs, .icu, .evt, .nw, .pwr, .banks] ⊆ T) (e k : Nat)
    (w1 w2 : List Nat) (at_ : Stamp) (hh : Kept T zz s) : Kept T zz (State.ledConfirm s e k w1 w2 at_) := by
  unfold State.ledConfirm
  try lift_lets
  repeat' first
    | with_reducible assumption | exact keptSub (by decide) hT
    | (intro s; refine (fun hk : Kept T zz s => ?_) ?_; clear_value s; rotate_left; subst s) | (intro v; try clear_value v)
    | with_reducible apply State.putFlag_kept | with_reducible apply State.strayCommand_kept
    | with_reducible apply State.logStamp_kept | with_reducible apply State.raise_kept
    | with_reducible apply State.fltSet_kept | with_reducible apply Kept.ite | split | lift_lets

theorem State.classLed_kept {T : List Comp} {zz s : State} (hT : [.regs, .icu, .evt, .nw, .pwr, .chans, .banks, .mtx] ⊆ T) (h
    : Hold) (e : Nat) (ws : List Nat) (hh : Kept T zz s) : Kept T zz (State.classLed s h e ws) := by
  unfold State.classLed
  try lift_lets
  repeat' first
    | with_reducible assumption | exact keptSub (by decide) hT
    | (intro s; refine (fun hk : Kept T zz s => ?_) ?_; clear_value s; rotate_left; subst s) | (intro v; try clear_value v)
    | with_reducible apply State.bankClosed_kept | with_reducible apply State.setLed_kept
    | with_reducible apply State.setChan_kept | with_reducible apply State.put_kept
    | with_reducible apply State.confirm_kept | with_reducible apply State.ledConfirm_kept
    | with_reducible apply State.putFlag_kept | with_reducible apply State.unlatch_kept
    | with_reducible apply State.provenLit_kept | with_reducible apply State.lampGroup_kept | with_reducible apply Kept.ite
    | fail_if_no_progress (with_reducible refine Kept.upd_pwr ?_ (has (by decide) hT)) | split | lift_lets

theorem State.setAside_kept {T : List Comp} {zz s : State} (hT : [.chans, .mtx] ⊆ T) (h : Hold) (hh : Kept T zz s) : Kept T
    zz (State.setAside s h) := by
  unfold State.setAside
  repeat' first
    | with_reducible assumption | exact keptSub (by decide) hT | with_reducible apply State.setChan_kept
    | with_reducible apply State.setLed_kept | with_reducible apply Kept.ite | split

theorem State.supSample_kept {T : List Comp} {zz s : State} (hT : [.regs, .icu, .evt, .nw, .mem, .pwr, .chans, .banks, .mtx]
    ⊆ T) (h : Hold) (hh : Kept T zz s) : Kept T zz (State.supSample s h) := by
  unfold State.supSample
  try lift_lets
  repeat' first
    | with_reducible assumption | exact keptSub (by decide) hT
    | (intro s; refine (fun hk : Kept T zz s => ?_) ?_; clear_value s; rotate_left; subst s) | (intro v; try clear_value v)
    | with_reducible apply State.setAside_kept | with_reducible apply State.classLed_kept
    | with_reducible apply State.classOn_kept | with_reducible apply State.classOff_kept | with_reducible apply Kept.ite
    | split | lift_lets

theorem State.cmpSample_kept {T : List Comp} {zz s : State} (hT : [.regs, .icu, .evt, .nw, .pwr, .chans, .banks, .mtx] ⊆ T)
    (c : Nat) (on lit aside failing : Bool) (hh : Kept T zz s) : Kept T zz (State.cmpSample s c on lit aside failing) := by
  unfold State.cmpSample
  repeat' first
    | with_reducible assumption | exact keptSub (by decide) hT | with_reducible apply State.onSample_kept
    | with_reducible apply State.offSample_kept | with_reducible apply Kept.ite | split

theorem State.fltClrChan_kept {T : List Comp} {zz s : State} (hT : [.regs, .icu, .nw, .pwr, .chans, .mtx] ⊆ T) (mask c : Nat)
    (hh : Kept T zz s) : Kept T zz (State.fltClrChan s mask c) := by
  unfold State.fltClrChan
  try lift_lets
  repeat' first
    | with_reducible assumption | exact keptSub (by decide) hT
    | (intro s; refine (fun hk : Kept T zz s => ?_) ?_; clear_value s; rotate_left; subst s) | (intro v; try clear_value v)
    | with_reducible apply State.unlatch_kept | with_reducible apply State.unprove_kept
    | with_reducible apply State.putFlag_kept | with_reducible apply Kept.ite | with_reducible (apply Kept.fold; intro _ _ _)

theorem State.supFltClr_kept {T : List Comp} {zz s : State} (hT : [.regs, .icu, .nw, .pwr, .chans, .mtx] ⊆ T) (w : Nat) (hh :
    Kept T zz s) : Kept T zz (State.supFltClr s w) := by
  unfold State.supFltClr
  try lift_lets
  repeat' first
    | with_reducible assumption | exact keptSub (by decide) hT | (intro v; try clear_value v)
    | with_reducible apply State.fltClrChan_kept | with_reducible apply Kept.ite
    | with_reducible (apply Kept.fold; intro _ _ _)

theorem State.forgetSig_kept {T : List Comp} {zz s : State} (hT : [.regs, .mem, .chans] ⊆ T) (c : Nat) (hh : Kept T zz s) :
    Kept T zz (State.forgetSig s c) := by
  unfold State.forgetSig
  try lift_lets
  repeat' first
    | with_reducible assumption | exact keptSub (by decide) hT
    | (intro s; refine (fun hk : Kept T zz s => ?_) ?_; clear_value s; rotate_left; subst s) | (intro v; try clear_value v)
    | with_reducible apply State.sigCopy_kept | with_reducible apply State.putFlag_kept | with_reducible apply State.put_kept
    | with_reducible apply State.setChan_kept | with_reducible apply State.wr_kept

theorem State.sigCmd_kept {T : List Comp} {zz s : State} (hT : [.regs, .mem, .chans] ⊆ T) (w : Nat) (hh : Kept T zz s) : Kept
    T zz (State.sigCmd s w) := by
  unfold State.sigCmd
  repeat' first
    | with_reducible assumption | exact keptSub (by decide) hT | with_reducible apply State.forgetSig_kept
    | with_reducible apply Kept.ite | with_reducible (apply Kept.fold; intro _ _ _)

theorem State.mtxClear_kept {T : List Comp} {zz s : State} (hT : [.regs, .icu, .nw, .pwr] ⊆ T) (w : Nat) (stray : Bool) (hh :
    Kept T zz s) : Kept T zz (State.mtxClear s w stray) := by
  unfold State.mtxClear
  try lift_lets
  repeat' first
    | with_reducible assumption | exact keptSub (by decide) hT
    | (intro s; refine (fun hk : Kept T zz s => ?_) ?_; clear_value s; rotate_left; subst s) | (intro v; try clear_value v)
    | with_reducible apply State.putFlag_kept | with_reducible apply State.lampGroup_kept | with_reducible apply Kept.ite
    | with_reducible (apply Kept.fold; intro _ _ _)

theorem State.boostGroup_kept {T : List Comp} {zz s : State} (hT : [.regs, .icu, .nw, .pwr] ⊆ T) (cls : Nat) (hh : Kept T zz
    s) : Kept T zz (State.boostGroup s cls) := by
  unfold State.boostGroup
  repeat' first
    | with_reducible assumption | exact keptSub (by decide) hT | with_reducible apply State.fltFollow_kept

theorem State.dutyHold_kept {T : List Comp} {zz s : State} (hT : [.regs, .icu, .nw, .pwr, .boost] ⊆ T) (cls : Nat) (hh : Kept
    T zz s) : Kept T zz (State.dutyHold s cls) := by
  unfold State.dutyHold
  try lift_lets
  repeat' first
    | with_reducible assumption | exact keptSub (by decide) hT
    | (intro s; refine (fun hk : Kept T zz s => ?_) ?_; clear_value s; rotate_left; subst s) | (intro v; try clear_value v)
    | with_reducible apply State.boostGroup_kept | with_reducible apply State.put_kept
    | with_reducible apply State.putFlag_kept | with_reducible apply Kept.ite
    | fail_if_no_progress (with_reducible refine Kept.upd_boost ?_ (has (by decide) hT))

theorem State.thermalGroup_kept {T : List Comp} {zz s : State} (hT : [.regs, .icu, .nw, .pwr] ⊆ T) (cls : Nat) (hh : Kept T
    zz s) : Kept T zz (State.thermalGroup s cls) := by
  unfold State.thermalGroup
  repeat' first
    | with_reducible assumption | exact keptSub (by decide) hT | with_reducible apply State.fltFollow_kept

theorem State.bankOC_kept {T : List Comp} {zz s : State} (hT : [.regs, .icu, .evt, .nw, .pwr, .banks] ⊆ T) (n : Nat) (hh :
    Kept T zz s) : Kept T zz (State.bankOC s n) := by
  unfold State.bankOC
  try lift_lets
  repeat' first
    | with_reducible assumption | exact keptSub (by decide) hT
    | (intro s; refine (fun hk : Kept T zz s => ?_) ?_; clear_value s; rotate_left; subst s) | (intro v; try clear_value v)
    | with_reducible apply State.logEv_kept | with_reducible apply State.bankOpen_kept
    | with_reducible apply State.setBank_kept | with_reducible apply State.raise_kept
    | with_reducible apply State.fltSet_kept | with_reducible apply State.putFlag_kept
    | with_reducible apply State.mtxHeld_kept

theorem State.bankRetry_kept {T : List Comp} {zz s : State} (hT : [.regs, .icu, .nw, .pwr, .banks] ⊆ T) (n : Nat) (hh : Kept
    T zz s) : Kept T zz (State.bankRetry s n) := by
  unfold State.bankRetry
  try lift_lets
  repeat' first
    | with_reducible assumption | exact keptSub (by decide) hT
    | (intro s; refine (fun hk : Kept T zz s => ?_) ?_; clear_value s; rotate_left; subst s) | (intro v; try clear_value v)
    | with_reducible apply State.setBank_kept | with_reducible apply State.bump_kept
    | with_reducible apply State.putFlag_kept | with_reducible apply State.mtxHeld_kept
    | with_reducible apply State.bankGroup_kept | with_reducible apply State.bankClose_kept | with_reducible apply Kept.ite
    | split | lift_lets

theorem State.bankStuck_kept {T : List Comp} {zz s : State} (hT : [.regs, .icu, .evt, .nw, .pwr] ⊆ T) (n : Nat) (hh : Kept T
    zz s) : Kept T zz (State.bankStuck s n) := by
  unfold State.bankStuck
  repeat' first
    | with_reducible assumption | exact keptSub (by decide) hT | with_reducible apply State.logEv_kept
    | with_reducible apply State.raise_kept | with_reducible apply State.fltSet_kept
    | with_reducible apply State.putFlag_kept | with_reducible apply Kept.ite

theorem State.mornReadback_kept {T : List Comp} {zz s : State} (hT : [.regs, .icu, .evt, .nw, .pwr, .banks] ⊆ T) (n : Nat)
    (low : Bool) (hh : Kept T zz s) : Kept T zz (State.mornReadback s n low) := by
  unfold State.mornReadback
  try lift_lets
  repeat' first
    | with_reducible assumption | exact keptSub (by decide) hT
    | (intro s; refine (fun hk : Kept T zz s => ?_) ?_; clear_value s; rotate_left; subst s) | (intro v; try clear_value v)
    | with_reducible apply State.putFlag_kept | with_reducible apply State.bankGroup_kept
    | with_reducible apply State.put_kept | with_reducible apply State.bankStuck_kept
    | with_reducible apply State.bankClose_kept | with_reducible apply State.mornEnd_kept | with_reducible apply Kept.ite
    | fail_if_no_progress (with_reducible refine Kept.upd_pwr ?_ (has (by decide) hT)) | split | lift_lets

theorem State.bankReadback_kept {T : List Comp} {zz s : State} (hT : [.regs, .icu, .evt, .nw, .pwr, .banks] ⊆ T) (n : Nat)
    (low : Bool) (hh : Kept T zz s) : Kept T zz (State.bankReadback s n low) := by
  unfold State.bankReadback
  repeat' first
    | with_reducible assumption | exact keptSub (by decide) hT | with_reducible apply State.mornReadback_kept
    | with_reducible apply State.bankStuck_kept | with_reducible apply Kept.ite | split

theorem State.tsdChan_kept {T : List Comp} {zz s : State} (hT : [.regs, .life, .chans, .mtx] ⊆ T) (c : Nat) (hh : Kept T zz
    s) : Kept T zz (State.tsdChan s c) := by
  unfold State.tsdChan
  try lift_lets
  repeat' first
    | with_reducible assumption | exact keptSub (by decide) hT
    | (intro s; refine (fun hk : Kept T zz s => ?_) ?_; clear_value s; rotate_left; subst s) | (intro v; try clear_value v)
    | with_reducible apply State.litStep_kept | with_reducible apply State.setChan_kept
    | with_reducible apply State.putFlag_kept | with_reducible apply Kept.ite | split | lift_lets

theorem State.thermalShutdown_kept {T : List Comp} {zz s : State} (hT : [.regs, .icu, .evt, .nw, .life, .pwr, .chans, .boost,
    .mtx] ⊆ T) (hh : Kept T zz s) : Kept T zz (State.thermalShutdown s) := by
  unfold State.thermalShutdown
  try lift_lets
  repeat' first
    | with_reducible assumption | exact keptSub (by decide) hT
    | (intro s; refine (fun hk : Kept T zz s => ?_) ?_; clear_value s; rotate_left; subst s) | (intro v; try clear_value v)
    | with_reducible apply State.putFlag_kept | with_reducible apply State.tsdChan_kept
    | with_reducible apply State.ledsDark_kept | with_reducible apply State.logEv_kept
    | with_reducible apply State.raise_kept | with_reducible apply State.thermalGroup_kept
    | with_reducible apply State.lampGroup_kept | with_reducible apply State.duskExit_kept | with_reducible apply Kept.ite
    | with_reducible (apply Kept.fold; intro _ _ _)
    | fail_if_no_progress (with_reducible refine Kept.upd_boost ?_ (has (by decide) hT)) | split | lift_lets

theorem State.thermalExit_kept {T : List Comp} {zz s : State} (hT : [.regs, .icu, .nw, .pwr, .chans] ⊆ T) (hh : Kept T zz s)
    : Kept T zz (State.thermalExit s) := by
  unfold State.thermalExit
  try lift_lets
  repeat' first
    | with_reducible assumption | exact keptSub (by decide) hT
    | (intro s; refine (fun hk : Kept T zz s => ?_) ?_; clear_value s; rotate_left; subst s)
    | with_reducible apply State.thermalGroup_kept | with_reducible apply State.unlatch_kept
    | with_reducible apply State.putFlag_kept | with_reducible apply Kept.ite | with_reducible (apply Kept.fold; intro _ _ _)

theorem State.boostPass_kept {T : List Comp} {zz s : State} (hT : [.regs] ⊆ T) (hh : Kept T zz s) : Kept T zz
    (State.boostPass s) := by
  unfold State.boostPass
  repeat' first
    | with_reducible assumption | exact keptSub (by decide) hT | with_reducible apply State.put_kept
    | with_reducible apply Kept.ite | split

theorem State.needs_kept {T : List Comp} {zz s : State} (hT : [.regs, .evt, .boost] ⊆ T) (hh : Kept T zz s) : Kept T zz
    (State.needs s) := by
  unfold State.needs
  try lift_lets
  repeat' first
    | with_reducible assumption | exact keptSub (by decide) hT
    | (intro s; refine (fun hk : Kept T zz s => ?_) ?_; clear_value s; rotate_left; subst s) | (intro v; try clear_value v)
    | with_reducible apply State.put_kept | with_reducible apply State.putFlag_kept | with_reducible apply State.logEv_kept
    | with_reducible apply State.boostPass_kept | with_reducible apply Kept.ite
    | with_reducible (apply Kept.fold; intro _ _ _)
    | fail_if_no_progress (with_reducible refine Kept.upd_boost ?_ (has (by decide) hT)) | split | lift_lets

theorem State.dissStep_kept {T : List Comp} {zz s : State} (hT : [.regs, .icu, .evt, .nw, .pwr, .boost] ⊆ T) (asps : List
    (Nat × List Nat)) (p : Nat) (hh : Kept T zz s) : Kept T zz (State.dissStep s asps p) := by
  unfold State.dissStep
  try lift_lets
  repeat' first
    | with_reducible assumption | exact keptSub (by decide) hT
    | (intro s; refine (fun hk : Kept T zz s => ?_) ?_; clear_value s; rotate_left; subst s)
    | (intro (v : State → _); subst v) | (intro v; try clear_value v) | with_reducible apply State.logEv_kept
    | with_reducible apply State.raise_kept | with_reducible apply State.thermalGroup_kept | with_reducible apply Kept.ite
    | fail_if_no_progress (with_reducible refine Kept.upd_boost ?_ (has (by decide) hT)) | split

theorem State.governors_kept {T : List Comp} {zz s : State} (hT : [.regs, .icu, .evt, .nw, .pwr, .chans, .boost] ⊆ T) (hh :
    Kept T zz s) : Kept T zz (State.governors s) := by
  unfold State.governors
  try lift_lets
  repeat' first
    | with_reducible assumption | exact keptSub (by decide) hT
    | (intro s; refine (fun hk : Kept T zz s => ?_) ?_; clear_value s; rotate_left; subst s) | (intro v; try clear_value v)
    | with_reducible apply State.dissStep_kept | with_reducible apply State.put_kept
    | with_reducible apply State.putFlag_kept | with_reducible apply State.setChan_kept | with_reducible apply Kept.ite
    | with_reducible (apply Kept.fold; intro _ _ _)
    | fail_if_no_progress (with_reducible refine Kept.upd_boost ?_ (has (by decide) hT))

theorem State.gateLow_kept {T : List Comp} {zz s : State} (hT : [.pins, .boost] ⊆ T) (hh : Kept T zz s) : Kept T zz
    (State.gateLow s) := by
  unfold State.gateLow
  repeat' first
    | with_reducible assumption | exact keptSub (by decide) hT | with_reducible apply Kept.ite
    | fail_if_no_progress (with_reducible refine Kept.upd_pins ?_ (has (by decide) hT))
    | fail_if_no_progress (with_reducible refine Kept.upd_boost ?_ (has (by decide) hT))
    | fail_if_no_progress (refine Kept.updM (T := T) ?_ ?_ rfl rfl rfl rfl rfl; rotate_left; (intro c hc; cases c <;> first | exact rfl | exact absurd (has (by decide) hT) hc))
    | split

theorem State.gatePulse_kept {T : List Comp} {zz s : State} (hT : [.pins, .boost] ⊆ T) (n : Nat) (hh : Kept T zz s) : Kept T
    zz (State.gatePulse s n) := by
  unfold State.gatePulse
  repeat' first
    | with_reducible assumption | exact keptSub (by decide) hT | with_reducible apply State.gateLow_kept
    | with_reducible apply Kept.ite | fail_if_no_progress (with_reducible refine Kept.upd_pins ?_ (has (by decide) hT))
    | fail_if_no_progress (with_reducible refine Kept.upd_boost ?_ (has (by decide) hT))
    | fail_if_no_progress (refine Kept.updM (T := T) ?_ ?_ rfl rfl rfl rfl rfl; rotate_left; (intro c hc; cases c <;> first | exact rfl | exact absurd (has (by decide) hT) hc))
    | split

theorem State.gateCycle_kept {T : List Comp} {zz s : State} (hT : [.regs, .pins, .boost] ⊆ T) (hh : Kept T zz s) : Kept T zz
    (State.gateCycle s) := by
  unfold State.gateCycle
  try lift_lets
  repeat' first
    | with_reducible assumption | exact keptSub (by decide) hT
    | (intro s; refine (fun hk : Kept T zz s => ?_) ?_; clear_value s; rotate_left; subst s) | (intro v; try clear_value v)
    | with_reducible apply State.boostPass_kept | with_reducible apply State.gateLow_kept
    | with_reducible apply State.gatePulse_kept | with_reducible apply Kept.ite
    | fail_if_no_progress (with_reducible refine Kept.upd_boost ?_ (has (by decide) hT)) | split | lift_lets

theorem State.gatePeriod_kept {T : List Comp} {zz s : State} (hT : [.regs, .pins, .boost] ⊆ T) (hh : Kept T zz s) : Kept T zz
    (State.gatePeriod s) := by
  unfold State.gatePeriod
  try lift_lets
  repeat' first
    | with_reducible assumption | exact keptSub (by decide) hT
    | (intro s; refine (fun hk : Kept T zz s => ?_) ?_; clear_value s; rotate_left; subst s) | (intro v; try clear_value v)
    | with_reducible apply State.gateCycle_kept | with_reducible apply Kept.ite
    | fail_if_no_progress (with_reducible refine Kept.upd_boost ?_ (has (by decide) hT)) | split | lift_lets

theorem State.gateTick_kept {T : List Comp} {zz s : State} (hT : [.regs, .pins, .boost] ⊆ T) (hh : Kept T zz s) : Kept T zz
    (State.gateTick s) := by
  unfold State.gateTick
  try lift_lets
  repeat' first
    | with_reducible assumption | exact keptSub (by decide) hT
    | (intro s; refine (fun hk : Kept T zz s => ?_) ?_; clear_value s; rotate_left; subst s) | (intro v; try clear_value v)
    | with_reducible apply State.gatePeriod_kept | with_reducible apply State.gateCycle_kept
    | with_reducible apply State.gateLow_kept | with_reducible apply Kept.ite
    | fail_if_no_progress (with_reducible refine Kept.upd_boost ?_ (has (by decide) hT)) | split | lift_lets

theorem State.closeNormal_kept {T : List Comp} {zz s : State} (hT : [.banks] ⊆ T) (hh : Kept T zz s) : Kept T zz
    (State.closeNormal s) := by
  unfold State.closeNormal
  repeat' first
    | with_reducible assumption | exact keptSub (by decide) hT | with_reducible apply State.bankClose_kept
    | with_reducible apply Kept.ite | with_reducible (apply Kept.fold; intro _ _ _)

theorem State.softStart_kept {T : List Comp} {zz s : State} (hT : [.regs, .boost, .loops] ⊆ T) (hh : Kept T zz s) : Kept T zz
    (State.softStart s) := by
  unfold State.softStart
  try lift_lets
  repeat' first
    | with_reducible assumption | exact keptSub (by decide) hT
    | (intro s; refine (fun hk : Kept T zz s => ?_) ?_; clear_value s; rotate_left; subst s) | (intro v; try clear_value v)
    | with_reducible apply State.put_kept | with_reducible apply State.setLoop_kept | with_reducible apply Kept.ite
    | fail_if_no_progress (with_reducible refine Kept.upd_boost ?_ (has (by decide) hT)) | split | lift_lets

theorem State.hiccup_kept {T : List Comp} {zz s : State} (hT : [.regs, .pins, .boost] ⊆ T) (hh : Kept T zz s) : Kept T zz
    (State.hiccup s) := by
  unfold State.hiccup
  try lift_lets
  repeat' first
    | with_reducible assumption | exact keptSub (by decide) hT
    | (intro s; refine (fun hk : Kept T zz s => ?_) ?_; clear_value s; rotate_left; subst s) | (intro v; try clear_value v)
    | with_reducible apply State.put_kept | with_reducible apply State.gateLow_kept | with_reducible apply Kept.ite
    | fail_if_no_progress (with_reducible refine Kept.upd_boost ?_ (has (by decide) hT)) | split | lift_lets

theorem State.softCheck_kept {T : List Comp} {zz s : State} (hT : [.regs, .pins, .icu, .evt, .nw, .pwr, .banks, .boost] ⊆ T)
    (hh : Kept T zz s) : Kept T zz (State.softCheck s) := by
  unfold State.softCheck
  try lift_lets
  repeat' first
    | with_reducible assumption | exact keptSub (by decide) hT
    | (intro s; refine (fun hk : Kept T zz s => ?_) ?_; clear_value s; rotate_left; subst s) | (intro v; try clear_value v)
    | with_reducible apply State.put_kept | with_reducible apply State.boostPass_kept
    | with_reducible apply State.boostGroup_kept | with_reducible apply State.closeNormal_kept
    | with_reducible apply State.hiccup_kept | with_reducible apply State.logEv_kept
    | with_reducible apply State.raise_kept | with_reducible apply Kept.ite
    | fail_if_no_progress (with_reducible refine Kept.upd_boost ?_ (has (by decide) hT)) | split | lift_lets

theorem State.boostShort_kept {T : List Comp} {zz s : State} (hT : [.regs, .pins, .icu, .evt, .nw, .pwr, .boost] ⊆ T) (hh :
    Kept T zz s) : Kept T zz (State.boostShort s) := by
  unfold State.boostShort
  try lift_lets
  repeat' first
    | with_reducible assumption | exact keptSub (by decide) hT
    | (intro s; refine (fun hk : Kept T zz s => ?_) ?_; clear_value s; rotate_left; subst s) | (intro v; try clear_value v)
    | with_reducible apply State.hiccup_kept | with_reducible apply State.logEv_kept
    | with_reducible apply State.raise_kept | with_reducible apply State.boostGroup_kept
    | with_reducible apply State.duskExit_kept | with_reducible apply Kept.ite | split | lift_lets

theorem State.boostFb_kept {T : List Comp} {zz s : State} (hT : [.regs, .pins, .icu, .evt, .nw, .pwr, .banks, .boost] ⊆ T)
    (hh : Kept T zz s) : Kept T zz (State.boostFb s) := by
  unfold State.boostFb
  try lift_lets
  repeat' first
    | with_reducible assumption | exact keptSub (by decide) hT
    | (intro s; refine (fun hk : Kept T zz s => ?_) ?_; clear_value s; rotate_left; subst s) | (intro v; try clear_value v)
    | with_reducible apply State.put_kept | with_reducible apply State.gateLow_kept | with_reducible apply State.logEv_kept
    | with_reducible apply State.raise_kept | with_reducible apply State.boostGroup_kept
    | with_reducible apply State.closeNormal_kept | with_reducible apply Kept.ite
    | fail_if_no_progress (with_reducible refine Kept.upd_boost ?_ (has (by decide) hT)) | split | lift_lets

theorem State.clampOnset_kept {T : List Comp} {zz s : State} (hT : [.regs, .pins, .icu, .nw, .life, .pwr, .boost] ⊆ T) (hh :
    Kept T zz s) : Kept T zz (State.clampOnset s) := by
  unfold State.clampOnset
  try lift_lets
  repeat' first
    | with_reducible assumption | exact keptSub (by decide) hT
    | (intro s; refine (fun hk : Kept T zz s => ?_) ?_; clear_value s; rotate_left; subst s) | (intro v; try clear_value v)
    | with_reducible apply State.putFlag_kept | with_reducible apply State.bump_kept
    | with_reducible apply State.lifeAcc_kept | with_reducible apply State.gateLow_kept
    | with_reducible apply State.raise_kept | with_reducible apply State.boostGroup_kept | with_reducible apply Kept.ite
    | fail_if_no_progress (with_reducible refine Kept.upd_boost ?_ (has (by decide) hT)) | split | lift_lets

theorem State.askReclose_kept {T : List Comp} {zz s : State} (hT : [.banks] ⊆ T) (mask : Nat) (hh : Kept T zz s) : Kept T zz
    (State.askReclose s mask) := by
  unfold State.askReclose
  repeat' first
    | with_reducible assumption | exact keptSub (by decide) hT | with_reducible apply State.setBank_kept
    | with_reducible apply Kept.ite | with_reducible (apply Kept.fold; intro _ _ _)

theorem State.loopSwap_kept {T : List Comp} {zz s : State} (hT : [.regs, .loops] ⊆ T) (n : Nat) (hh : Kept T zz s) : Kept T
    zz (State.loopSwap s n) := by
  unfold State.loopSwap
  try lift_lets
  repeat' first
    | with_reducible assumption | exact keptSub (by decide) hT
    | (intro s; refine (fun hk : Kept T zz s => ?_) ?_; clear_value s; rotate_left; subst s) | (intro v; try clear_value v)
    | with_reducible apply State.putFlag_kept | with_reducible apply State.wr_kept | with_reducible apply State.put_kept
    | with_reducible apply State.setLoop_kept | with_reducible apply Kept.ite
    | with_reducible (apply Kept.fold; intro _ _ _) | split | lift_lets

theorem State.loopOff_kept {T : List Comp} {zz s : State} (hT : [.regs, .loops] ⊆ T) (n : Nat) (hh : Kept T zz s) : Kept T zz
    (State.loopOff s n) := by
  unfold State.loopOff
  try lift_lets
  repeat' first
    | with_reducible assumption | exact keptSub (by decide) hT
    | (intro s; refine (fun hk : Kept T zz s => ?_) ?_; clear_value s; rotate_left; subst s) | (intro v; try clear_value v)
    | with_reducible apply State.setLoop_kept | with_reducible apply State.putFlag_kept
    | with_reducible apply State.put_kept | with_reducible apply Kept.ite | split | lift_lets

theorem State.loopStart_kept {T : List Comp} {zz s : State} (hT : [.regs, .free, .loops] ⊆ T) (n : Nat) (hh : Kept T zz s) :
    Kept T zz (State.loopStart s n) := by
  unfold State.loopStart
  try lift_lets
  repeat' first
    | with_reducible assumption | exact keptSub (by decide) hT
    | (intro s; refine (fun hk : Kept T zz s => ?_) ?_; clear_value s; rotate_left; subst s) | (intro v; try clear_value v)
    | with_reducible apply State.loopSwap_kept | with_reducible apply State.loopOff_kept
    | with_reducible apply State.fresh_kept | with_reducible (apply Kept.snd; apply State.fresh_kept)
    | with_reducible (refine Kept.eq2 (by assumption) ?_; apply State.fresh_kept) | with_reducible apply State.setLoop_kept
    | with_reducible apply State.putFlag_kept | with_reducible apply Kept.ite | with_reducible apply Kept2.ite
    | with_reducible apply Kept2.mk | split | lift_lets

theorem State.loopResult_kept {T : List Comp} {zz s : State} (hT : [.res, .loops] ⊆ T) (n : Nat) (hh : Kept T zz s) : Kept T
    zz (State.loopResult s n) := by
  unfold State.loopResult
  try lift_lets
  repeat' first
    | with_reducible assumption | exact keptSub (by decide) hT | (intro v; try clear_value v)
    | with_reducible apply State.setLoop_kept | with_reducible apply Kept.ite

theorem State.loopShow_kept {T : List Comp} {zz s : State} (hT : [.regs] ⊆ T) (n : Nat) (hh : Kept T zz s) : Kept T zz
    (State.loopShow s n) := by
  unfold State.loopShow
  try lift_lets
  repeat' first
    | with_reducible assumption | exact keptSub (by decide) hT
    | (intro s; refine (fun hk : Kept T zz s => ?_) ?_; clear_value s; rotate_left; subst s) | (intro v; try clear_value v)
    | with_reducible apply State.put_kept | with_reducible apply State.wr_kept

theorem State.loopHold_kept {T : List Comp} {zz s : State} (hT : [.regs, .loops] ⊆ T) (n : Nat) (stale : Bool) (hh : Kept T
    zz s) : Kept T zz (State.loopHold s n stale) := by
  unfold State.loopHold
  try lift_lets
  repeat' first
    | with_reducible assumption | exact keptSub (by decide) hT
    | (intro s; refine (fun hk : Kept T zz s => ?_) ?_; clear_value s; rotate_left; subst s) | (intro v; try clear_value v)
    | with_reducible apply State.setLoop_kept | with_reducible apply State.putFlag_kept

theorem State.rampReached_kept {T : List Comp} {zz s : State} (hT : [.boost] ⊆ T) (hh : Kept T zz s) : Kept T zz
    (State.rampReached s) := by
  unfold State.rampReached
  try lift_lets
  repeat' first
    | with_reducible assumption | exact keptSub (by decide) hT
    | (intro s; refine (fun hk : Kept T zz s => ?_) ?_; clear_value s; rotate_left; subst s) | (intro v; try clear_value v)
    | with_reducible apply Kept.ite | fail_if_no_progress (with_reducible refine Kept.upd_boost ?_ (has (by decide) hT))
    | split | lift_lets

theorem State.loopCommit_kept {T : List Comp} {zz s : State} (hT : [.regs, .obs, .boost, .loops] ⊆ T) (n : Nat) (r : LoopRes)
    (hh : Kept T zz s) : Kept T zz (State.loopCommit s n r) := by
  unfold State.loopCommit
  try lift_lets
  repeat' first
    | with_reducible assumption | exact keptSub (by decide) hT
    | (intro s; refine (fun hk : Kept T zz s => ?_) ?_; clear_value s; rotate_left; subst s) | (intro v; try clear_value v)
    | with_reducible apply State.setLoop_kept | with_reducible apply State.loopShow_kept
    | with_reducible apply State.putFlag_kept | with_reducible apply State.rampReached_kept
    | with_reducible apply State.aspVarWrite_kept | with_reducible apply Kept.ite
    | fail_if_no_progress (with_reducible refine Kept.upd_boost ?_ (has (by decide) hT)) | split | lift_lets

theorem State.loopDeadline_kept {T : List Comp} {zz s : State} (hT : [.regs, .obs, .boost, .loops] ⊆ T) (n : Nat) (onTime :
    Bool) (hh : Kept T zz s) : Kept1 T zz (State.loopDeadline s n onTime) := by
  unfold State.loopDeadline
  try lift_lets
  repeat' first
    | with_reducible assumption | exact keptSub (by decide) hT
    | (intro s; refine (fun hk : Kept T zz s => ?_) ?_; clear_value s; rotate_left; subst s) | (intro v; try clear_value v)
    | with_reducible apply State.loopHold_kept | with_reducible apply State.loopCommit_kept | with_reducible apply Kept.ite
    | with_reducible apply Kept1.ite | with_reducible apply Kept1.mk | split | lift_lets

theorem State.loopEpoch_kept {T : List Comp} {zz s : State} (hT : [.regs] ⊆ T) (n : Nat) (hh : Kept T zz s) : Kept T zz
    (State.loopEpoch s n) := by
  unfold State.loopEpoch
  try lift_lets
  repeat' first
    | with_reducible assumption | exact keptSub (by decide) hT
    | (intro s; refine (fun hk : Kept T zz s => ?_) ?_; clear_value s; rotate_left; subst s) | (intro v; try clear_value v)
    | with_reducible apply State.put_kept

theorem State.loopMigrate_kept {T : List Comp} {zz s : State} (hT : [.regs, .icu, .evt, .nw, .pwr, .boost, .loops] ⊆ T) (n :
    Nat) (fail : Bool) (hh : Kept T zz s) : Kept T zz (State.loopMigrate s n fail) := by
  unfold State.loopMigrate
  try lift_lets
  repeat' first
    | with_reducible assumption | exact keptSub (by decide) hT
    | (intro s; refine (fun hk : Kept T zz s => ?_) ?_; clear_value s; rotate_left; subst s) | (intro v; try clear_value v)
    | with_reducible apply State.loopOff_kept | with_reducible apply State.logEv_kept
    | with_reducible apply State.fltSet_kept | with_reducible apply State.dutyHold_kept
    | with_reducible apply State.setLoop_kept | with_reducible apply State.loopEpoch_kept | with_reducible apply Kept.ite
    | fail_if_no_progress (with_reducible refine Kept.upd_loops ?_ (has (by decide) hT)) | split | lift_lets

theorem State.schedJudge_kept {T : List Comp} {zz s : State} (hT : [.regs, .dim] ⊆ T) (hh : Kept T zz s) : Kept T zz
    (State.schedJudge s) := by
  unfold State.schedJudge
  try lift_lets
  repeat' first
    | with_reducible assumption | exact keptSub (by decide) hT
    | (intro s; refine (fun hk : Kept T zz s => ?_) ?_; clear_value s; rotate_left; subst s) | (intro v; try clear_value v)
    | with_reducible apply State.putFlag_kept | with_reducible apply Kept.ite
    | fail_if_no_progress (with_reducible refine Kept.upd_dim ?_ (has (by decide) hT))

theorem State.brightFollow_kept {T : List Comp} {zz s : State} (hT : [.dim, .loops] ⊆ T) (duty : Nat) (hh : Kept T zz s) :
    Kept T zz (State.brightFollow s duty) := by
  unfold State.brightFollow
  try lift_lets
  repeat' first
    | with_reducible assumption | exact keptSub (by decide) hT
    | (intro s; refine (fun hk : Kept T zz s => ?_) ?_; clear_value s; rotate_left; subst s) | (intro v; try clear_value v)
    | with_reducible apply State.setLoop_kept | with_reducible apply Kept.ite
    | fail_if_no_progress (with_reducible refine Kept.upd_dim ?_ (has (by decide) hT)) | split | lift_lets

theorem State.ambientUpdate_kept {T : List Comp} {zz s : State} (hT : [.regs, .dim, .loops] ⊆ T) (duty : Nat) (hh : Kept T zz
    s) : Kept T zz (State.ambientUpdate s duty) := by
  unfold State.ambientUpdate
  try lift_lets
  repeat' first
    | with_reducible assumption | exact keptSub (by decide) hT
    | (intro s; refine (fun hk : Kept T zz s => ?_) ?_; clear_value s; rotate_left; subst s) | (intro v; try clear_value v)
    | with_reducible apply State.schedJudge_kept | with_reducible apply State.put_kept
    | with_reducible apply State.putFlag_kept | with_reducible apply State.brightFollow_kept
    | with_reducible apply Kept.ite | split | lift_lets

theorem State.brightReading_kept {T : List Comp} {zz s : State} (hT : [.regs, .evt, .dim] ⊆ T) (mv : Int) (hh : Kept T zz s)
    : Kept T zz (State.brightReading s mv) := by
  unfold State.brightReading
  try lift_lets
  repeat' first
    | with_reducible assumption | exact keptSub (by decide) hT
    | (intro s; refine (fun hk : Kept T zz s => ?_) ?_; clear_value s; rotate_left; subst s) | (intro v; try clear_value v)
    | with_reducible apply State.putFlag_kept | with_reducible apply State.logEv_kept | with_reducible apply Kept.ite
    | fail_if_no_progress (with_reducible refine Kept.upd_dim ?_ (has (by decide) hT)) | split | lift_lets

theorem State.ntcUpdate_kept {T : List Comp} {zz s : State} (hT : [.regs, .icu, .evt, .nw, .pwr, .chans, .banks, .dim, .mtx]
    ⊆ T) (hh : Kept T zz s) : Kept T zz (State.ntcUpdate s) := by
  unfold State.ntcUpdate
  try lift_lets
  repeat' first
    | with_reducible assumption | exact keptSub (by decide) hT
    | (intro s; refine (fun hk : Kept T zz s => ?_) ?_; clear_value s; rotate_left; subst s) | (intro v; try clear_value v)
    | with_reducible apply State.putFlag_kept | with_reducible apply State.logEv_kept | with_reducible apply State.put_kept
    | with_reducible apply State.evalHot_kept | with_reducible apply State.showTemp_kept | with_reducible apply Kept.ite
    | with_reducible (apply Kept.fold; intro _ _ _)
    | fail_if_no_progress (with_reducible refine Kept.upd_dim ?_ (has (by decide) hT)) | split | lift_lets

end Sys2Proof.Machine
end

