-- ==== Sys2Proof/Laws/FramesSafety.lean ====
section
/-! SUPPORT. What each operation may write, one lemma per operation: conversion, safe torque off, lifetime, Midnight, grid. -/

-- Proofs elaborated beside each other need more threads than the package's memory limit allows.
set_option Elab.async false
-- One proof script serves many operations, so a step or a name of it may have no use in some.
set_option linter.unusedVariables false
set_option linter.unusedTactic false
set_option linter.unreachableTactic false

namespace Sys2Proof.Machine

theorem State.setSubRing_kept {T : List Comp} {zz s : State} (hT : [.cap] ⊆ T) (k : Nat) (r : CapRing) (hh : Kept T zz s) :
    Kept T zz (State.setSubRing s k r) := by
  unfold State.setSubRing
  repeat' first
    | with_reducible assumption | exact keptSub (by decide) hT | with_reducible apply Kept.ite
    | fail_if_no_progress (with_reducible refine Kept.upd_cap ?_ (has (by decide) hT))

theorem State.capPut_kept {T : List Comp} {zz s : State} (hT : [.mem, .cap] ⊆ T) (k : Nat) (w : Nat) (hh : Kept T zz s) :
    Kept T zz (State.capPut s k w) := by
  unfold State.capPut
  try lift_lets
  repeat' first
    | with_reducible assumption | exact keptSub (by decide) hT
    | (intro s; refine (fun hk : Kept T zz s => ?_) ?_; clear_value s; rotate_left; subst s) | (intro v; try clear_value v)
    | with_reducible apply State.setSubRing_kept | with_reducible apply State.memWrite_kept | with_reducible apply Kept.ite

theorem State.capResult_kept {T : List Comp} {zz s : State} (hT : [.mem, .cap] ⊆ T) (k : Nat) (it : AdcItem) (holds : List
    Hold) (code : Nat) (sat late : Bool) (hh : Kept T zz s) : Kept T zz (State.capResult s k it holds code sat late) := by
  unfold State.capResult
  try lift_lets
  repeat' first
    | with_reducible assumption | exact keptSub (by decide) hT | (intro v; try clear_value v)
    | with_reducible apply State.setSubRing_kept | with_reducible apply State.capPut_kept | with_reducible apply Kept.ite
    | with_reducible (apply Kept.fold; intro _ _ _)

theorem State.capFreeze_kept {T : List Comp} {zz s : State} (hT : [.regs, .icu, .evt, .nw, .cap, .pwr] ⊆ T) (midnight : Bool)
    (hh : Kept T zz s) : Kept T zz (State.capFreeze s midnight) := by
  unfold State.capFreeze
  try lift_lets
  repeat' first
    | with_reducible assumption | exact keptSub (by decide) hT
    | (intro s; refine (fun hk : Kept T zz s => ?_) ?_; clear_value s; rotate_left; subst s) | (intro v; try clear_value v)
    | with_reducible apply State.put_kept | with_reducible apply State.putFlag_kept | with_reducible apply State.logEv_kept
    | with_reducible apply State.raise_kept | with_reducible apply Kept.ite
    | fail_if_no_progress (with_reducible refine Kept.upd_cap ?_ (has (by decide) hT)) | split | lift_lets

theorem State.capResume_kept {T : List Comp} {zz s : State} (hT : [.cap] ⊆ T) (hh : Kept T zz s) : Kept T zz (State.capResume
    s) := by
  unfold State.capResume
  repeat' first
    | with_reducible assumption | exact keptSub (by decide) hT | with_reducible apply State.setSubRing_kept
    | with_reducible apply Kept.ite | with_reducible (apply Kept.fold; intro _ _ _)

theorem State.capPause_kept {T : List Comp} {zz s : State} (hT : [.regs, .cap] ⊆ T) (hh : Kept T zz s) : Kept T zz
    (State.capPause s) := by
  unfold State.capPause
  try lift_lets
  repeat' first
    | with_reducible assumption | exact keptSub (by decide) hT
    | (intro s; refine (fun hk : Kept T zz s => ?_) ?_; clear_value s; rotate_left; subst s) | (intro v; try clear_value v)
    | with_reducible apply State.put_kept | with_reducible apply Kept.ite
    | fail_if_no_progress (with_reducible refine Kept.upd_cap ?_ (has (by decide) hT)) | split | lift_lets

theorem State.capUnpause_kept {T : List Comp} {zz s : State} (hT : [.regs, .cap] ⊆ T) (hh : Kept T zz s) : Kept T zz
    (State.capUnpause s) := by
  unfold State.capUnpause
  repeat' first
    | with_reducible assumption | exact keptSub (by decide) hT | with_reducible apply State.put_kept
    | with_reducible apply State.capResume_kept | with_reducible apply Kept.ite
    | fail_if_no_progress (with_reducible refine Kept.upd_cap ?_ (has (by decide) hT)) | split

theorem State.setBist_kept {T : List Comp} {zz s : State} (hT : [.bist] ⊆ T) (x : Bist) (hh : Kept T zz s) : Kept T zz
    (State.setBist s x) := by
  unfold State.setBist
  repeat' first
    | with_reducible assumption | exact keptSub (by decide) hT | with_reducible apply Kept.ite
    | fail_if_no_progress (with_reducible refine Kept.upd_bist ?_ (has (by decide) hT))

theorem State.bistCause_kept {T : List Comp} {zz s : State} (hT : [.bist] ⊆ T) (code : Nat) (hh : Kept T zz s) : Kept T zz
    (State.bistCause s code) := by
  unfold State.bistCause
  repeat' first
    | with_reducible assumption | exact keptSub (by decide) hT | with_reducible apply State.setBist_kept
    | with_reducible apply Kept.ite

theorem State.bistIdle_kept {T : List Comp} {zz s : State} (hT : [.regs, .spi, .bist] ⊆ T) (hh : Kept T zz s) : Kept T zz
    (State.bistIdle s) := by
  unfold State.bistIdle
  try lift_lets
  repeat' first
    | with_reducible assumption | exact keptSub (by decide) hT
    | (intro s; refine (fun hk : Kept T zz s => ?_) ?_; clear_value s; rotate_left; subst s) | (intro v; try clear_value v)
    | with_reducible apply State.setBist_kept | with_reducible apply State.putFlag_kept | with_reducible apply State.put_kept
    | with_reducible apply Kept.ite | fail_if_no_progress (with_reducible refine Kept.upd_spi ?_ (has (by decide) hT))

theorem State.bistBack_kept {T : List Comp} {zz s : State} (hT : [.regs, .adc, .bist] ⊆ T) (hh : Kept T zz s) : Kept T zz
    (State.bistBack s) := by
  unfold State.bistBack
  repeat' first
    | with_reducible assumption | exact keptSub (by decide) hT | with_reducible apply State.putFlag_kept
    | with_reducible apply Kept.ite | fail_if_no_progress (with_reducible refine Kept.upd_adc ?_ (has (by decide) hT))
    | fail_if_no_progress (with_reducible refine Kept.upd_bist ?_ (has (by decide) hT)) | split

theorem State.bistNotRun_kept {T : List Comp} {zz s : State} (hT : [.regs, .evt, .bist] ⊆ T) (bs : List Nat) (hh : Kept T zz
    s) : Kept T zz (State.bistNotRun s bs) := by
  unfold State.bistNotRun
  repeat' first
    | with_reducible assumption | exact keptSub (by decide) hT | with_reducible apply State.setBist_kept
    | with_reducible apply State.logFw_kept | with_reducible apply Kept.ite | with_reducible (apply Kept.fold; intro _ _ _)
    | split

theorem State.bistStop_kept {T : List Comp} {zz s : State} (hT : [.regs, .evt, .spi, .adc, .mbx, .bist] ⊆ T) (hh : Kept T zz
    s) : Kept T zz (State.bistStop s) := by
  unfold State.bistStop
  try lift_lets
  repeat' first
    | with_reducible assumption | exact keptSub (by decide) hT
    | (intro s; refine (fun hk : Kept T zz s => ?_) ?_; clear_value s; rotate_left; subst s) | (intro v; try clear_value v)
    | with_reducible apply State.bistBack_kept | with_reducible apply State.bistNotRun_kept
    | with_reducible apply State.bistIdle_kept | with_reducible apply Kept.ite
    | fail_if_no_progress (with_reducible refine Kept.upd_mbx ?_ (has (by decide) hT)) | split | lift_lets

theorem State.setConv_kept {T : List Comp} {zz s : State} (hT : [.adc] ⊆ T) (k : Nat) (x : Conv) (hh : Kept T zz s) : Kept T
    zz (State.setConv s k x) := by
  unfold State.setConv
  repeat' first
    | with_reducible assumption | exact keptSub (by decide) hT | with_reducible apply Kept.ite
    | fail_if_no_progress (with_reducible refine Kept.upd_adc ?_ (has (by decide) hT))

theorem State.setPair_kept {T : List Comp} {zz s : State} (hT : [.adc] ⊆ T) (p : Nat) (x : AdcPair) (hh : Kept T zz s) : Kept
    T zz (State.setPair s p x) := by
  unfold State.setPair
  repeat' first
    | with_reducible assumption | exact keptSub (by decide) hT | with_reducible apply Kept.ite
    | fail_if_no_progress (with_reducible refine Kept.upd_adc ?_ (has (by decide) hT))

theorem State.adcKick_kept {T : List Comp} {zz s : State} (hT : [.adc] ⊆ T) (k : Nat) (hh : Kept T zz s) : Kept T zz
    (State.adcKick s k) := by
  unfold State.adcKick
  try lift_lets
  repeat' first
    | with_reducible assumption | exact keptSub (by decide) hT
    | (intro s; refine (fun hk : Kept T zz s => ?_) ?_; clear_value s; rotate_left; subst s) | (intro v; try clear_value v)
    | with_reducible apply State.setConv_kept | with_reducible apply Kept.ite | split | lift_lets

theorem State.adcTick_kept {T : List Comp} {zz s : State} (hT : [.adc] ⊆ T) (hh : Kept T zz s) : Kept T zz (State.adcTick s)
    := by
  unfold State.adcTick
  repeat' first
    | with_reducible assumption | exact keptSub (by decide) hT | with_reducible apply State.adcKick_kept
    | with_reducible apply Kept.ite | with_reducible (apply Kept.fold; intro _ _ _) | split

theorem State.regStart_kept {T : List Comp} {zz s : State} (hT : [.adc] ⊆ T) (k : Nat) (hh : Kept T zz s) : Kept T zz
    (State.regStart s k) := by
  unfold State.regStart
  try lift_lets
  repeat' first
    | with_reducible assumption | exact keptSub (by decide) hT
    | (intro s; refine (fun hk : Kept T zz s => ?_) ?_; clear_value s; rotate_left; subst s) | (intro v; try clear_value v)
    | with_reducible apply State.setConv_kept | with_reducible apply State.adcKick_kept | with_reducible apply Kept.ite
    | split | lift_lets

theorem State.injStart_kept {T : List Comp} {zz s : State} (hT : [.regs, .adc] ⊆ T) (k : Nat) (late : Bool) (hh : Kept T zz
    s) : Kept T zz (State.injStart s k late) := by
  unfold State.injStart
  try lift_lets
  repeat' first
    | with_reducible assumption | exact keptSub (by decide) hT
    | (intro s; refine (fun hk : Kept T zz s => ?_) ?_; clear_value s; rotate_left; subst s) | (intro v; try clear_value v)
    | with_reducible apply State.setConv_kept | with_reducible apply State.wr_kept
    | with_reducible apply State.adcKick_kept | with_reducible apply Kept.ite | split | lift_lets

theorem State.overrun_kept {T : List Comp} {zz s : State} (hT : [.regs, .icu, .evt, .nw, .pwr, .adc] ⊆ T) (k : Nat) (inj :
    Bool) (hh : Kept T zz s) : Kept T zz (State.overrun s k inj) := by
  unfold State.overrun
  try lift_lets
  repeat' first
    | with_reducible assumption | exact keptSub (by decide) hT
    | (intro s; refine (fun hk : Kept T zz s => ?_) ?_; clear_value s; rotate_left; subst s) | (intro v; try clear_value v)
    | with_reducible apply State.logEv_kept | with_reducible apply State.bump_kept | with_reducible apply State.raise_kept
    | with_reducible apply State.setConv_kept | with_reducible apply Kept.ite

theorem State.setSeqr_kept {T : List Comp} {zz s : State} (hT : [.adc] ⊆ T) (k : Nat) (inj : Bool) (q : Seqr) (hh : Kept T zz
    s) : Kept T zz (State.setSeqr s k inj q) := by
  unfold State.setSeqr
  try lift_lets
  repeat' first
    | with_reducible assumption | exact keptSub (by decide) hT
    | (intro s; refine (fun hk : Kept T zz s => ?_) ?_; clear_value s; rotate_left; subst s) | (intro v; try clear_value v)
    | with_reducible apply State.setConv_kept | with_reducible apply Kept.ite | split | lift_lets

theorem State.trigger_kept {T : List Comp} {zz s : State} (hT : [.regs, .icu, .evt, .nw, .pwr, .adc] ⊆ T) (k : Nat) (inj :
    Bool) (hh : Kept T zz s) : Kept T zz (State.trigger s k inj) := by
  unfold State.trigger
  try lift_lets
  repeat' first
    | with_reducible assumption | exact keptSub (by decide) hT
    | (intro s; refine (fun hk : Kept T zz s => ?_) ?_; clear_value s; rotate_left; subst s) | (intro v; try clear_value v)
    | with_reducible apply State.setSeqr_kept | with_reducible apply State.overrun_kept
    | with_reducible apply State.injStart_kept | with_reducible apply State.regStart_kept | with_reducible apply Kept.ite
    | split | lift_lets

theorem State.triggerBy_kept {T : List Comp} {zz s : State} (hT : [.regs, .icu, .evt, .nw, .pwr, .adc] ⊆ T) (k : Nat) (codes
    : List Nat) (hh : Kept T zz s) : Kept T zz (State.triggerBy s k codes) := by
  unfold State.triggerBy
  try lift_lets
  repeat' first
    | with_reducible assumption | exact keptSub (by decide) hT
    | (intro s; refine (fun hk : Kept T zz s => ?_) ?_; clear_value s; rotate_left; subst s)
    | with_reducible apply State.trigger_kept | with_reducible apply Kept.ite

theorem State.seqEnd_kept {T : List Comp} {zz s : State} (hT : [.regs, .adc] ⊆ T) (k : Nat) (inj : Bool) (hh : Kept T zz s) :
    Kept T zz (State.seqEnd s k inj) := by
  unfold State.seqEnd
  try lift_lets
  repeat' first
    | with_reducible assumption | exact keptSub (by decide) hT | (intro v; try clear_value v)
    | with_reducible apply State.setConv_kept | with_reducible apply State.injStart_kept
    | with_reducible apply State.regStart_kept | with_reducible apply Kept.ite

theorem State.dropHolds_kept {T : List Comp} {zz s : State} (hT : [.chans, .mtx] ⊆ T) (l : List Hold) (hh : Kept T zz s) :
    Kept T zz (State.dropHolds s l) := by
  unfold State.dropHolds
  repeat' first
    | with_reducible assumption | exact keptSub (by decide) hT | with_reducible apply State.setAside_kept
    | with_reducible apply Kept.ite | with_reducible (apply Kept.fold; intro _ _ _) | split

theorem State.newEpoch_kept {T : List Comp} {zz s : State} (hT : [.chans, .mtx, .adc] ⊆ T) (k : Nat) (hh : Kept T zz s) :
    Kept T zz (State.newEpoch s k) := by
  unfold State.newEpoch
  try lift_lets
  repeat' first
    | with_reducible assumption | exact keptSub (by decide) hT
    | (intro s; refine (fun hk : Kept T zz s => ?_) ?_; clear_value s; rotate_left; subst s) | (intro v; try clear_value v)
    | with_reducible apply State.setConv_kept | with_reducible apply State.dropHolds_kept | with_reducible apply Kept.ite
    | split | lift_lets

theorem State.placeMove_kept {T : List Comp} {zz s : State} (hT : [.regs, .chans, .mtx, .adc] ⊆ T) (p : Nat) (hh : Kept T zz
    s) : Kept T zz (State.placeMove s p) := by
  unfold State.placeMove
  try lift_lets
  repeat' first
    | with_reducible assumption | exact keptSub (by decide) hT
    | (intro s; refine (fun hk : Kept T zz s => ?_) ?_; clear_value s; rotate_left; subst s) | (intro v; try clear_value v)
    | with_reducible apply State.put_kept | with_reducible apply State.putFlag_kept
    | with_reducible apply State.newEpoch_kept | with_reducible apply State.setPair_kept | with_reducible apply Kept.ite
    | split | lift_lets

theorem State.placeBoost_kept {T : List Comp} {zz s : State} (hT : [.regs, .chans, .mtx, .adc] ⊆ T) (hh : Kept T zz s) : Kept
    T zz (State.placeBoost s) := by
  unfold State.placeBoost
  try lift_lets
  repeat' first
    | with_reducible assumption | exact keptSub (by decide) hT
    | (intro s; refine (fun hk : Kept T zz s => ?_) ?_; clear_value s; rotate_left; subst s) | (intro v; try clear_value v)
    | with_reducible apply State.putFlag_kept | with_reducible apply State.placeMove_kept | with_reducible apply Kept.ite
    | split | lift_lets

theorem State.convStop_kept {T : List Comp} {zz s : State} (hT : [.adc] ⊆ T) (k : Nat) (hh : Kept T zz s) : Kept T zz
    (State.convStop s k) := by
  unfold State.convStop
  try lift_lets
  repeat' first
    | with_reducible assumption | exact keptSub (by decide) hT
    | (intro s; refine (fun hk : Kept T zz s => ?_) ?_; clear_value s; rotate_left; subst s) | (intro v; try clear_value v)
    | with_reducible apply State.setConv_kept | with_reducible apply Kept.ite | split | lift_lets

theorem State.moveAway_kept {T : List Comp} {zz s : State} (hT : [.regs, .chans, .mtx, .adc] ⊆ T) (k : Nat) (hh : Kept T zz
    s) : Kept T zz (State.moveAway s k) := by
  unfold State.moveAway
  try lift_lets
  repeat' first
    | with_reducible assumption | exact keptSub (by decide) hT
    | (intro s; refine (fun hk : Kept T zz s => ?_) ?_; clear_value s; rotate_left; subst s) | (intro v; try clear_value v)
    | with_reducible apply State.placeMove_kept | with_reducible apply State.convStop_kept
    | with_reducible apply State.dropHolds_kept | with_reducible apply State.setConv_kept
    | with_reducible apply State.adcKick_kept | with_reducible apply Kept.ite
    | with_reducible (apply Kept.fold; intro _ _ _) | split | lift_lets

theorem State.convGroup_kept {T : List Comp} {zz s : State} (hT : [.regs, .icu, .nw, .pwr] ⊆ T) (cls : Nat) (hh : Kept T zz
    s) : Kept T zz (State.convGroup s cls) := by
  unfold State.convGroup
  repeat' first
    | with_reducible assumption | exact keptSub (by decide) hT | with_reducible apply State.fltFollow_kept

theorem State.convFault_kept {T : List Comp} {zz s : State} (hT : [.regs, .icu, .evt, .nw, .pwr, .chans, .mtx, .adc, .bist] ⊆
    T) (k : Nat) (hh : Kept T zz s) : Kept T zz (State.convFault s k) := by
  unfold State.convFault
  try lift_lets
  repeat' first
    | with_reducible assumption | exact keptSub (by decide) hT
    | (intro s; refine (fun hk : Kept T zz s => ?_) ?_; clear_value s; rotate_left; subst s) | (intro v; try clear_value v)
    | with_reducible apply State.logEv_kept | with_reducible apply State.convGroup_kept
    | with_reducible apply State.raise_kept | with_reducible apply State.moveAway_kept
    | with_reducible apply State.putFlag_kept | with_reducible apply State.bistCause_kept | with_reducible apply Kept.ite

theorem State.pairFail_kept {T : List Comp} {zz s : State} (hT : [.regs, .icu, .evt, .nw, .pwr, .chans, .boost, .mtx, .adc] ⊆
    T) (p : Nat) (hh : Kept T zz s) : Kept T zz (State.pairFail s p) := by
  unfold State.pairFail
  try lift_lets
  repeat' first
    | with_reducible assumption | exact keptSub (by decide) hT
    | (intro s; refine (fun hk : Kept T zz s => ?_) ?_; clear_value s; rotate_left; subst s) | (intro v; try clear_value v)
    | with_reducible apply State.putFlag_kept | with_reducible apply State.logEv_kept
    | with_reducible apply State.raise_kept | with_reducible apply State.convGroup_kept
    | with_reducible apply State.convStop_kept | with_reducible apply State.dropHolds_kept
    | with_reducible apply State.setPair_kept | with_reducible apply State.dutyHold_kept | with_reducible apply Kept.ite
    | split | lift_lets

theorem State.convReturn_kept {T : List Comp} {zz s : State} (hT : [.regs, .icu, .nw, .pwr, .chans, .mtx, .adc] ⊆ T) (k :
    Nat) (hh : Kept T zz s) : Kept T zz (State.convReturn s k) := by
  unfold State.convReturn
  repeat' first
    | with_reducible assumption | exact keptSub (by decide) hT | with_reducible apply State.putFlag_kept
    | with_reducible apply State.placeMove_kept | with_reducible apply State.convGroup_kept | with_reducible apply Kept.ite
    | split

theorem State.pairEval_kept {T : List Comp} {zz s : State} (hT : [.regs, .icu, .evt, .nw, .pwr, .chans, .boost, .mtx, .adc, .bist] ⊆ T) (p : Nat) (hh : Kept T zz s) : Kept T zz (State.pairEval s p) := by
  unfold State.pairEval
  dsimp only
  split
  · refine Kept.ite hh ?_
    have h : ∀ a b c, Kept T zz (((s.setConv (2 * p) a).setConv (2 * p + 1) b).setPair p c) := fun a b c =>
      State.setPair_kept (keptSub (by decide) hT) _ _ (State.setConv_kept (keptSub (by decide) hT) _ _ (State.setConv_kept (keptSub (by decide) hT) _ _ hh))
    repeat' first
      | exact h _ _ _
      | with_reducible apply State.pairFail_kept (keptSub (by decide) hT)
      | with_reducible apply State.convFault_kept (keptSub (by decide) hT)
      | with_reducible apply Kept.ite
  · exact hh

theorem State.hkDeliver_kept {T : List Comp} {zz s : State} (hT : [.regs, .evt, .boost, .dim, .adc, .bist] ⊆ T) (k : Nat) (it
    : AdcItem) (code : Nat) (hh : Kept T zz s) : Kept T zz (State.hkDeliver s k it code) := by
  unfold State.hkDeliver
  try lift_lets
  repeat' first
    | with_reducible assumption | exact keptSub (by decide) hT
    | (intro s; refine (fun hk : Kept T zz s => ?_) ?_; clear_value s; rotate_left; subst s) | (intro v; try clear_value v)
    | with_reducible apply State.setConv_kept | with_reducible apply State.put_kept
    | with_reducible apply State.brightReading_kept | with_reducible apply State.bistCause_kept
    | with_reducible apply Kept.ite | fail_if_no_progress (with_reducible refine Kept.upd_boost ?_ (has (by decide) hT))
    | fail_if_no_progress (with_reducible refine Kept.upd_dim ?_ (has (by decide) hT)) | split | lift_lets

theorem State.supDeliver_kept {T : List Comp} {zz s : State} (hT : [.regs, .icu, .evt, .nw, .mem, .pwr, .chans, .banks, .mtx, .adc] ⊆ T) (k w : Nat) (hh : Kept T zz s) : Kept T zz (State.supDeliver s k w) := by
  unfold State.supDeliver
  dsimp only
  split
  · exact hh
  · repeat' first
      | with_reducible assumption | exact keptSub (by decide) hT | with_reducible apply State.setConv_kept
      | with_reducible apply State.supSample_kept | with_reducible apply Kept.ite

theorem State.boostSample_kept {T : List Comp} {zz s : State} (hT : [.free, .loops] ⊆ T) (code : Nat) (bad : Bool) (hh : Kept
    T zz s) : Kept T zz (State.boostSample s code bad) := by
  unfold State.boostSample
  try lift_lets
  repeat' first
    | with_reducible assumption | exact keptSub (by decide) hT
    | (intro s; refine (fun hk : Kept T zz s => ?_) ?_; clear_value s; rotate_left; subst s) | (intro v; try clear_value v)
    | with_reducible apply State.setLoop_kept | with_reducible apply State.fresh_kept
    | with_reducible (apply Kept.snd; apply State.fresh_kept)
    | with_reducible (refine Kept.eq2 (by assumption) ?_; apply State.fresh_kept) | with_reducible apply Kept.ite
    | with_reducible apply Kept2.ite | with_reducible apply Kept2.mk | split | lift_lets

theorem State.convDone_kept {T : List Comp} {zz s : State} (hT : [.regs, .free, .icu, .evt, .nw, .mem, .cap, .pwr, .obs,
    .chans, .banks, .boost, .dim, .mtx, .loops, .adc, .bist] ⊆ T) (k raw : Nat) (hh : Kept T zz s) : Kept T zz
    (State.convDone s k raw) := by
  unfold State.convDone
  try lift_lets
  repeat' first
    | with_reducible assumption | exact keptSub (by decide) hT
    | (intro s; refine (fun hk : Kept T zz s => ?_) ?_; clear_value s; rotate_left; subst s) | (intro v; try clear_value v)
    | with_reducible apply State.adcKick_kept | with_reducible apply State.setConv_kept
    | with_reducible apply State.capResult_kept | with_reducible apply State.boostSample_kept
    | with_reducible apply State.hkDeliver_kept | with_reducible apply State.supDeliver_kept
    | with_reducible apply State.wr_kept | with_reducible apply State.seqEnd_kept | with_reducible apply State.obsFeed_kept
    | with_reducible apply Kept.ite | split | lift_lets

theorem State.queueHold_kept {T : List Comp} {zz s : State} (hT : [.adc] ⊆ T) (h : Hold) (hh : Kept T zz s) : Kept T zz
    (State.queueHold s h) := by
  unfold State.queueHold
  try lift_lets
  repeat' first
    | with_reducible assumption | exact keptSub (by decide) hT
    | (intro s; refine (fun hk : Kept T zz s => ?_) ?_; clear_value s; rotate_left; subst s) | (intro v; try clear_value v)
    | with_reducible apply State.setConv_kept | with_reducible apply State.adcKick_kept | with_reducible apply Kept.ite
    | split | lift_lets

theorem State.chanHold_kept {T : List Comp} {zz s : State} (hT : [.regs, .icu, .evt, .nw, .pwr, .chans, .banks, .mtx, .adc] ⊆
    T) (c : Nat) (on fail : Bool) (hh : Kept T zz s) : Kept T zz (State.chanHold s c on fail) := by
  unfold State.chanHold
  try lift_lets
  repeat' first
    | with_reducible assumption | exact keptSub (by decide) hT
    | (intro s; refine (fun hk : Kept T zz s => ?_) ?_; clear_value s; rotate_left; subst s) | (intro v; try clear_value v)
    | with_reducible apply State.cmpSample_kept | with_reducible apply State.queueHold_kept | with_reducible apply Kept.ite
    | split | lift_lets

theorem State.ledHold_kept {T : List Comp} {zz s : State} (hT : [.regs, .icu, .evt, .nw, .pwr, .chans, .banks, .mtx, .adc] ⊆
    T) (c : Nat) (on fail : Bool) (hh : Kept T zz s) : Kept T zz (State.ledHold s c on fail) := by
  unfold State.ledHold
  try lift_lets
  repeat' first
    | with_reducible assumption | exact keptSub (by decide) hT
    | (intro s; refine (fun hk : Kept T zz s => ?_) ?_; clear_value s; rotate_left; subst s) | (intro v; try clear_value v)
    | with_reducible apply State.cmpSample_kept | with_reducible apply State.queueHold_kept | with_reducible apply Kept.ite
    | split | lift_lets

theorem State.pairRound_kept {T : List Comp} {zz s : State} (hT : [.adc] ⊆ T) (p : Nat) (hh : Kept T zz s) : Kept T zz
    (State.pairRound s p) := by
  unfold State.pairRound
  repeat' first
    | with_reducible assumption | exact keptSub (by decide) hT | with_reducible apply State.adcKick_kept
    | with_reducible apply State.setConv_kept | with_reducible apply Kept.ite | with_reducible (apply Kept.fold; intro _ _ _)

theorem State.reloadStart_kept {T : List Comp} {zz s : State} (hT : [.regs, .adc] ⊆ T) (k : Nat) (hh : Kept T zz s) : Kept T
    zz (State.reloadStart s k) := by
  unfold State.reloadStart
  try lift_lets
  repeat' first
    | with_reducible assumption | exact keptSub (by decide) hT
    | (intro s; refine (fun hk : Kept T zz s => ?_) ?_; clear_value s; rotate_left; subst s) | (intro v; try clear_value v)
    | with_reducible apply State.setConv_kept | with_reducible apply State.putFlag_kept | with_reducible apply Kept.ite
    | split | lift_lets

theorem State.reloadEnd_kept {T : List Comp} {zz s : State} (hT : [.regs, .icu, .evt, .nw, .pwr, .chans, .mtx, .adc, .bist] ⊆
    T) (k bg : Nat) (hh : Kept T zz s) : Kept T zz (State.reloadEnd s k bg) := by
  unfold State.reloadEnd
  try lift_lets
  repeat' first
    | with_reducible assumption | exact keptSub (by decide) hT
    | (intro s; refine (fun hk : Kept T zz s => ?_) ?_; clear_value s; rotate_left; subst s) | (intro v; try clear_value v)
    | with_reducible apply State.setConv_kept | with_reducible apply State.putFlag_kept
    | with_reducible apply State.convReturn_kept | with_reducible apply State.convFault_kept
    | with_reducible apply State.injStart_kept | with_reducible apply State.regStart_kept
    | with_reducible apply State.adcKick_kept | with_reducible apply Kept.ite
    | fail_if_no_progress (with_reducible refine Kept.upd_adc ?_ (has (by decide) hT)) | split | lift_lets

theorem State.refEnable_kept {T : List Comp} {zz s : State} (hT : [.regs, .adc] ⊆ T) (w : Nat) (hh : Kept T zz s) : Kept T zz
    (State.refEnable s w) := by
  unfold State.refEnable
  try lift_lets
  repeat' first
    | with_reducible assumption | exact keptSub (by decide) hT
    | (intro s; refine (fun hk : Kept T zz s => ?_) ?_; clear_value s; rotate_left; subst s) | (intro v; try clear_value v)
    | with_reducible apply State.wr_kept | with_reducible apply Kept.ite | with_reducible (apply Kept.fold; intro _ _ _)
    | fail_if_no_progress (with_reducible refine Kept.upd_adc ?_ (has (by decide) hT)) | split | lift_lets

theorem State.seqRestart_kept {T : List Comp} {zz s : State} (hT : [.adc] ⊆ T) (old : State) (k : Nat) (hh : Kept T zz s) :
    Kept T zz (State.seqRestart s old k) := by
  unfold State.seqRestart
  repeat' first
    | with_reducible assumption | exact keptSub (by decide) hT | with_reducible apply Kept.ite
    | fail_if_no_progress (with_reducible refine Kept.upd_adc ?_ (has (by decide) hT)) | split

theorem State.boostStart_kept {T : List Comp} {zz s : State} (hT : [.regs, .free, .pins, .chans, .boost, .mtx, .loops, .adc]
    ⊆ T) (hh : Kept T zz s) : Kept T zz (State.boostStart s) := by
  unfold State.boostStart
  try lift_lets
  repeat' first
    | with_reducible assumption | exact keptSub (by decide) hT
    | (intro s; refine (fun hk : Kept T zz s => ?_) ?_; clear_value s; rotate_left; subst s) | (intro v; try clear_value v)
    | with_reducible apply State.gatePeriod_kept | with_reducible apply State.placeBoost_kept
    | with_reducible apply State.boostPass_kept | with_reducible apply State.loopStart_kept
    | with_reducible apply State.setConv_kept | with_reducible apply State.adcKick_kept | with_reducible apply Kept.ite
    | fail_if_no_progress (with_reducible refine Kept.upd_boost ?_ (has (by decide) hT))
    | fail_if_no_progress (with_reducible refine Kept.upd_adc ?_ (has (by decide) hT)) | split | lift_lets

theorem State.setSin_kept {T : List Comp} {zz s : State} (hT : [.sto] ⊆ T) (c : Nat) (x : SafeIn) (hh : Kept T zz s) : Kept T
    zz (State.setSin s c x) := by
  unfold State.setSin
  repeat' first
    | with_reducible assumption | exact keptSub (by decide) hT | with_reducible apply Kept.ite
    | fail_if_no_progress (with_reducible refine Kept.upd_sto ?_ (has (by decide) hT))

theorem State.setSpair_kept {T : List Comp} {zz s : State} (hT : [.sto] ⊆ T) (p : Nat) (x : SafePair) (hh : Kept T zz s) :
    Kept T zz (State.setSpair s p x) := by
  unfold State.setSpair
  repeat' first
    | with_reducible assumption | exact keptSub (by decide) hT | with_reducible apply Kept.ite
    | fail_if_no_progress (with_reducible refine Kept.upd_sto ?_ (has (by decide) hT))

theorem State.setLine_kept {T : List Comp} {zz s : State} (hT : [.sto] ⊆ T) (n : Nat) (x : TpLine) (hh : Kept T zz s) : Kept
    T zz (State.setLine s n x) := by
  unfold State.setLine
  repeat' first
    | with_reducible assumption | exact keptSub (by decide) hT | with_reducible apply Kept.ite
    | fail_if_no_progress (with_reducible refine Kept.upd_sto ?_ (has (by decide) hT))

theorem State.setOut_kept {T : List Comp} {zz s : State} (hT : [.sto] ⊆ T) (o : Nat) (x : StoOut) (hh : Kept T zz s) : Kept T
    zz (State.setOut s o x) := by
  unfold State.setOut
  repeat' first
    | with_reducible assumption | exact keptSub (by decide) hT | with_reducible apply Kept.ite
    | fail_if_no_progress (with_reducible refine Kept.upd_sto ?_ (has (by decide) hT))

theorem State.pairObs_kept {T : List Comp} {zz s : State} (hT : [.obs] ⊆ T) (p : Nat) (hh : Kept T zz s) : Kept T zz
    (State.pairObs s p) := by
  unfold State.pairObs
  try lift_lets
  repeat' first
    | with_reducible assumption | exact keptSub (by decide) hT | (intro v; try clear_value v)
    | with_reducible apply State.obsFeed_kept

theorem State.outObs_kept {T : List Comp} {zz s : State} (hT : [.obs] ⊆ T) (o : Nat) (hh : Kept T zz s) : Kept T zz
    (State.outObs s o) := by
  unfold State.outObs
  repeat' first
    | with_reducible assumption | exact keptSub (by decide) hT | with_reducible apply State.obsFeed_kept
    | with_reducible apply Kept.ite | split

theorem State.pairGroup_kept {T : List Comp} {zz s : State} (hT : [.regs, .icu, .nw, .pwr] ⊆ T) (hh : Kept T zz s) : Kept T
    zz (State.pairGroup s) := by
  unfold State.pairGroup
  repeat' first
    | with_reducible assumption | exact keptSub (by decide) hT | with_reducible apply State.fltFollow_kept

theorem State.pairTo_kept {T : List Comp} {zz s : State} (hT : [.regs, .icu, .evt, .nw, .mem, .pwr, .obs] ⊆ T) (p st : Nat)
    (hh : Kept T zz s) : Kept T zz (State.pairTo s p st) := by
  unfold State.pairTo
  try lift_lets
  repeat' first
    | with_reducible assumption | exact keptSub (by decide) hT
    | (intro s; refine (fun hk : Kept T zz s => ?_) ?_; clear_value s; rotate_left; subst s) | (intro v; try clear_value v)
    | with_reducible apply State.lifeCount_kept | with_reducible apply State.pairObs_kept
    | with_reducible apply State.pairGroup_kept | with_reducible apply State.put_kept | with_reducible apply Kept.ite

theorem State.pairFaultOn_kept {T : List Comp} {zz s : State} (hT : [.regs, .icu, .evt, .nw, .mem, .pwr, .obs, .sto] ⊆ T) (p
    cls c : Nat) (hh : Kept T zz s) : Kept T zz (State.pairFaultOn s p cls c) := by
  unfold State.pairFaultOn
  try lift_lets
  repeat' first
    | with_reducible assumption | exact keptSub (by decide) hT
    | (intro s; refine (fun hk : Kept T zz s => ?_) ?_; clear_value s; rotate_left; subst s) | (intro v; try clear_value v)
    | with_reducible apply State.logEv_kept | with_reducible apply State.raise_kept
    | with_reducible apply State.setSpair_kept | with_reducible apply State.put_kept | with_reducible apply State.pairTo_kept

theorem State.sinLevel_kept {T : List Comp} {zz s : State} (hT : [.regs, .obs, .sto] ⊆ T) (c : Nat) (closed : Bool) (hh :
    Kept T zz s) : Kept T zz (State.sinLevel s c closed) := by
  unfold State.sinLevel
  try lift_lets
  repeat' first
    | with_reducible assumption | exact keptSub (by decide) hT
    | (intro s; refine (fun hk : Kept T zz s => ?_) ?_; clear_value s; rotate_left; subst s) | (intro v; try clear_value v)
    | with_reducible apply State.setSin_kept | with_reducible apply State.putFlag_kept
    | with_reducible apply State.setSpair_kept | with_reducible apply State.pairObs_kept | with_reducible apply Kept.ite
    | split | lift_lets

theorem State.nearMiss_kept {T : List Comp} {zz s : State} (hT : [.regs, .icu, .evt, .nw, .mem, .pwr] ⊆ T) (p c n : Nat) (hh
    : Kept T zz s) : Kept T zz (State.nearMiss s p c n) := by
  unfold State.nearMiss
  repeat' first
    | with_reducible assumption | exact keptSub (by decide) hT | with_reducible apply State.lifeCount_kept
    | with_reducible apply Kept.ite

theorem State.discSample_kept {T : List Comp} {zz s : State} (hT : [.regs, .icu, .evt, .nw, .mem, .pwr, .obs, .sto] ⊆ T) (p :
    Nat) (hh : Kept T zz s) : Kept T zz (State.discSample s p) := by
  unfold State.discSample
  try lift_lets
  repeat' first
    | with_reducible assumption | exact keptSub (by decide) hT
    | (intro s; refine (fun hk : Kept T zz s => ?_) ?_; clear_value s; rotate_left; subst s) | (intro v; try clear_value v)
    | with_reducible apply State.nearMiss_kept | with_reducible apply State.setSpair_kept
    | with_reducible apply State.put_kept | with_reducible apply State.pairFaultOn_kept | with_reducible apply Kept.ite
    | split | lift_lets

theorem State.sinFilter_kept {T : List Comp} {zz s : State} (hT : [.regs, .obs, .sto] ⊆ T) (c : Nat) (l : Bool) (hh : Kept T
    zz s) : Kept T zz (State.sinFilter s c l) := by
  unfold State.sinFilter
  try lift_lets
  repeat' first
    | with_reducible assumption | exact keptSub (by decide) hT
    | (intro s; refine (fun hk : Kept T zz s => ?_) ?_; clear_value s; rotate_left; subst s) | (intro v; try clear_value v)
    | with_reducible apply State.setSin_kept | with_reducible apply State.sinLevel_kept | with_reducible apply Kept.ite

theorem State.sinEdge_kept {T : List Comp} {zz s : State} (hT : [.sto] ⊆ T) (c : Nat) (l : Bool) (ago : Nat) (hh : Kept T zz
    s) : Kept T zz (State.sinEdge s c l ago) := by
  unfold State.sinEdge
  try lift_lets
  repeat' first
    | with_reducible assumption | exact keptSub (by decide) hT
    | (intro s; refine (fun hk : Kept T zz s => ?_) ?_; clear_value s; rotate_left; subst s) | (intro v; try clear_value v)
    | with_reducible apply State.setSin_kept | with_reducible apply Kept.ite | split | lift_lets

theorem State.sinSample_kept {T : List Comp} {zz s : State} (hT : [.regs, .obs, .sto] ⊆ T) (c : Nat) (l : Bool) (ago : Nat)
    (hh : Kept T zz s) : Kept T zz (State.sinSample s c l ago) := by
  unfold State.sinSample
  try lift_lets
  repeat' first
    | with_reducible assumption | exact keptSub (by decide) hT
    | (intro s; refine (fun hk : Kept T zz s => ?_) ?_; clear_value s; rotate_left; subst s) | (intro v; try clear_value v)
    | with_reducible apply State.sinEdge_kept | with_reducible apply State.sinFilter_kept
    | with_reducible apply State.setSin_kept | with_reducible apply Kept.ite | split | lift_lets

theorem State.suspectBack_kept {T : List Comp} {zz s : State} (hT : [.sto] ⊆ T) (c : Nat) (hh : Kept T zz s) : Kept T zz
    (State.suspectBack s c) := by
  unfold State.suspectBack
  try lift_lets
  repeat' first
    | with_reducible assumption | exact keptSub (by decide) hT | (intro v; try clear_value v)
    | with_reducible apply State.setSpair_kept | with_reducible apply Kept.ite

theorem State.judgeOwn_kept {T : List Comp} {zz s : State} (hT : [.regs, .icu, .evt, .nw, .mem, .pwr, .obs, .sto] ⊆ T) (c :
    Nat) (hh : Kept T zz s) : Kept T zz (State.judgeOwn s c) := by
  unfold State.judgeOwn
  try lift_lets
  repeat' first
    | with_reducible assumption | exact keptSub (by decide) hT
    | (intro s; refine (fun hk : Kept T zz s => ?_) ?_; clear_value s; rotate_left; subst s) | (intro v; try clear_value v)
    | with_reducible apply State.setSin_kept | with_reducible apply State.pairFaultOn_kept
    | with_reducible apply State.suspectBack_kept | with_reducible apply State.sinLevel_kept
    | with_reducible apply Kept.ite | split | lift_lets

theorem State.judgeForeign_kept {T : List Comp} {zz s : State} (hT : [.regs, .icu, .evt, .nw, .mem, .pwr, .obs, .sto] ⊆ T) (c
    n : Nat) (hh : Kept T zz s) : Kept T zz (State.judgeForeign s c n) := by
  unfold State.judgeForeign
  try lift_lets
  repeat' first
    | with_reducible assumption | exact keptSub (by decide) hT
    | (intro s; refine (fun hk : Kept T zz s => ?_) ?_; clear_value s; rotate_left; subst s) | (intro v; try clear_value v)
    | with_reducible apply State.setSin_kept | with_reducible apply State.pairFaultOn_kept
    | with_reducible apply State.suspectBack_kept | with_reducible apply State.sinLevel_kept
    | with_reducible apply Kept.ite | split | lift_lets

theorem State.winJudge_kept {T : List Comp} {zz s : State} (hT : [.regs, .icu, .evt, .nw, .mem, .pwr, .obs, .sto] ⊆ T) (n :
    Nat) (hh : Kept T zz s) : Kept T zz (State.winJudge s n) := by
  unfold State.winJudge
  try lift_lets
  repeat' first
    | with_reducible assumption | exact keptSub (by decide) hT
    | (intro s; refine (fun hk : Kept T zz s => ?_) ?_; clear_value s; rotate_left; subst s) | (intro v; try clear_value v)
    | with_reducible apply State.judgeOwn_kept | with_reducible apply State.judgeForeign_kept
    | with_reducible apply Kept.ite | with_reducible (apply Kept.fold; intro _ _ _)
    | fail_if_no_progress (with_reducible refine Kept.upd_sto ?_ (has (by decide) hT)) | split | lift_lets

theorem State.srstSample_kept {T : List Comp} {zz s : State} (hT : [.regs, .sto] ⊆ T) (high : Bool) (hh : Kept T zz s) : Kept
    T zz (State.srstSample s high) := by
  unfold State.srstSample
  try lift_lets
  repeat' first
    | with_reducible assumption | exact keptSub (by decide) hT
    | (intro s; refine (fun hk : Kept T zz s => ?_) ?_; clear_value s; rotate_left; subst s) | (intro v; try clear_value v)
    | with_reducible apply State.putFlag_kept | with_reducible apply Kept.ite
    | fail_if_no_progress (with_reducible refine Kept.upd_sto ?_ (has (by decide) hT))

theorem State.lineFault_kept {T : List Comp} {zz s : State} (hT : [.regs, .icu, .evt, .nw, .mem, .pwr, .obs, .sto] ⊆ T) (n
    cls : Nat) (hh : Kept T zz s) : Kept T zz (State.lineFault s n cls) := by
  unfold State.lineFault
  try lift_lets
  repeat' first
    | with_reducible assumption | exact keptSub (by decide) hT
    | (intro s; refine (fun hk : Kept T zz s => ?_) ?_; clear_value s; rotate_left; subst s)
    | with_reducible apply State.pairFaultOn_kept | with_reducible apply State.putFlag_kept | with_reducible apply Kept.ite
    | with_reducible (apply Kept.fold; intro _ _ _)

theorem State.lineFail_kept {T : List Comp} {zz s : State} (hT : [.regs, .icu, .evt, .nw, .mem, .pwr, .obs, .sto] ⊆ T) (n :
    Nat) (hh : Kept T zz s) : Kept T zz (State.lineFail s n) := by
  unfold State.lineFail
  try lift_lets
  repeat' first
    | with_reducible assumption | exact keptSub (by decide) hT
    | (intro s; refine (fun hk : Kept T zz s => ?_) ?_; clear_value s; rotate_left; subst s) | (intro v; try clear_value v)
    | with_reducible apply State.setLine_kept | with_reducible apply State.lineFault_kept | with_reducible apply Kept.ite

theorem State.lineLow_kept {T : List Comp} {zz s : State} (hT : [.regs, .icu, .evt, .nw, .mem, .pwr, .obs, .sto] ⊆ T) (n :
    Nat) (hh : Kept T zz s) : Kept T zz (State.lineLow s n) := by
  unfold State.lineLow
  try lift_lets
  repeat' first
    | with_reducible assumption | exact keptSub (by decide) hT
    | (intro s; refine (fun hk : Kept T zz s => ?_) ?_; clear_value s; rotate_left; subst s) | (intro v; try clear_value v)
    | with_reducible apply State.putFlag_kept | with_reducible apply State.setLine_kept
    | with_reducible apply State.lineFail_kept | with_reducible apply Kept.ite | split | lift_lets

theorem State.linePass_kept {T : List Comp} {zz s : State} (hT : [.regs, .sto] ⊆ T) (n : Nat) (hh : Kept T zz s) : Kept T zz
    (State.linePass s n) := by
  unfold State.linePass
  try lift_lets
  repeat' first
    | with_reducible assumption | exact keptSub (by decide) hT
    | (intro s; refine (fun hk : Kept T zz s => ?_) ?_; clear_value s; rotate_left; subst s) | (intro v; try clear_value v)
    | with_reducible apply State.setLine_kept | with_reducible apply State.putFlag_kept | with_reducible apply Kept.ite

theorem State.windowStart_kept {T : List Comp} {zz s : State} (hT : [.sto] ⊆ T) (n : Nat) (hh : Kept T zz s) : Kept T zz
    (State.windowStart s n) := by
  unfold State.windowStart
  try lift_lets
  repeat' first
    | with_reducible assumption | exact keptSub (by decide) hT
    | (intro s; refine (fun hk : Kept T zz s => ?_) ?_; clear_value s; rotate_left; subst s) | (intro v; try clear_value v)
    | with_reducible apply State.setLine_kept | with_reducible apply State.setSin_kept | with_reducible apply Kept.ite
    | with_reducible (apply Kept.fold; intro _ _ _)
    | fail_if_no_progress (with_reducible refine Kept.upd_sto ?_ (has (by decide) hT)) | split | lift_lets

theorem State.windowEnd_kept {T : List Comp} {zz s : State} (hT : [.sto] ⊆ T) (n : Nat) (hh : Kept T zz s) : Kept T zz
    (State.windowEnd s n) := by
  unfold State.windowEnd
  try lift_lets
  repeat' first
    | with_reducible assumption | exact keptSub (by decide) hT
    | (intro s; refine (fun hk : Kept T zz s => ?_) ?_; clear_value s; rotate_left; subst s) | (intro v; try clear_value v)
    | with_reducible apply State.setLine_kept | with_reducible apply Kept.ite | split | lift_lets

theorem State.lineReadback_kept {T : List Comp} {zz s : State} (hT : [.regs, .icu, .evt, .nw, .mem, .pwr, .obs, .sto] ⊆ T) (n
    : Nat) (rise below5 above15 : Bool) (hh : Kept T zz s) : Kept T zz (State.lineReadback s n rise below5 above15) := by
  unfold State.lineReadback
  try lift_lets
  repeat' first
    | with_reducible assumption | exact keptSub (by decide) hT
    | (intro s; refine (fun hk : Kept T zz s => ?_) ?_; clear_value s; rotate_left; subst s) | (intro v; try clear_value v)
    | with_reducible apply State.putFlag_kept | with_reducible apply State.setLine_kept
    | with_reducible apply State.linePass_kept | with_reducible apply State.lineFail_kept | with_reducible apply Kept.ite
    | split | lift_lets

theorem State.sealRow_kept {T : List Comp} {zz s : State} (hT : [.regs, .sto] ⊆ T) (r bits : Nat) (hh : Kept T zz s) : Kept T
    zz (State.sealRow s r bits) := by
  unfold State.sealRow
  try lift_lets
  repeat' first
    | with_reducible assumption | exact keptSub (by decide) hT
    | (intro s; refine (fun hk : Kept T zz s => ?_) ?_; clear_value s; rotate_left; subst s) | (intro v; try clear_value v)
    | with_reducible apply State.put_kept | with_reducible apply Kept.ite
    | fail_if_no_progress (with_reducible refine Kept.upd_sto ?_ (has (by decide) hT)) | split | lift_lets

theorem State.discN_kept {T : List Comp} {zz s : State} (hT : [.regs] ⊆ T) (hh : Kept T zz s) : Kept T zz (State.discN s) :=
    by
  unfold State.discN
  repeat' first
    | with_reducible assumption | exact keptSub (by decide) hT | with_reducible apply State.put_kept

theorem State.sealLatch_kept {T : List Comp} {zz s : State} (hT : [.regs, .evt] ⊆ T) (hh : Kept T zz s) : Kept T zz
    (State.sealLatch s) := by
  unfold State.sealLatch
  try lift_lets
  repeat' first
    | with_reducible assumption | exact keptSub (by decide) hT
    | (intro s; refine (fun hk : Kept T zz s => ?_) ?_; clear_value s; rotate_left; subst s) | (intro v; try clear_value v)
    | with_reducible apply State.put_kept | with_reducible apply State.putFlag_kept | with_reducible apply State.discN_kept
    | with_reducible apply State.logFw_kept | with_reducible apply Kept.ite | split | lift_lets

theorem State.outGroup_kept {T : List Comp} {zz s : State} (hT : [.regs, .icu, .nw, .pwr] ⊆ T) (cls : Nat) (hh : Kept T zz s)
    : Kept T zz (State.outGroup s cls) := by
  unfold State.outGroup
  repeat' first
    | with_reducible assumption | exact keptSub (by decide) hT | with_reducible apply State.fltFollow_kept

theorem State.outTo_kept {T : List Comp} {zz s : State} (hT : [.regs, .icu, .evt, .nw, .mem, .pwr, .sto] ⊆ T) (o st : Nat)
    (hh : Kept T zz s) : Kept T zz (State.outTo s o st) := by
  unfold State.outTo
  try lift_lets
  repeat' first
    | with_reducible assumption | exact keptSub (by decide) hT
    | (intro s; refine (fun hk : Kept T zz s => ?_) ?_; clear_value s; rotate_left; subst s) | (intro v; try clear_value v)
    | with_reducible apply State.put_kept | with_reducible apply State.setOut_kept | with_reducible apply State.bump_kept
    | with_reducible apply State.lifeCount_kept | with_reducible apply State.logEv_kept
    | with_reducible apply State.raise_kept | with_reducible apply Kept.ite | split | lift_lets

theorem State.outFault_kept {T : List Comp} {zz s : State} (hT : [.regs, .icu, .evt, .nw, .pwr, .sto] ⊆ T) (o cls : Nat) (hh
    : Kept T zz s) : Kept T zz (State.outFault s o cls) := by
  unfold State.outFault
  try lift_lets
  repeat' first
    | with_reducible assumption | exact keptSub (by decide) hT
    | (intro s; refine (fun hk : Kept T zz s => ?_) ?_; clear_value s; rotate_left; subst s) | (intro v; try clear_value v)
    | with_reducible apply State.logEv_kept | with_reducible apply State.raise_kept | with_reducible apply State.setOut_kept
    | with_reducible apply State.outGroup_kept | with_reducible apply State.put_kept
    | with_reducible apply State.putFlag_kept | with_reducible apply Kept.ite
    | fail_if_no_progress (with_reducible refine Kept.upd_sto ?_ (has (by decide) hT))

theorem State.pairCycle_kept {T : List Comp} {zz s : State} (hT : [.regs, .icu, .evt, .nw, .mem, .pwr, .obs, .sto] ⊆ T) (p :
    Nat) (hh : Kept T zz s) : Kept T zz (State.pairCycle s p) := by
  unfold State.pairCycle
  try lift_lets
  repeat' first
    | with_reducible assumption | exact keptSub (by decide) hT
    | (intro s; refine (fun hk : Kept T zz s => ?_) ?_; clear_value s; rotate_left; subst s) | (intro v; try clear_value v)
    | with_reducible apply State.setSpair_kept | with_reducible apply State.pairTo_kept | with_reducible apply Kept.ite
    | split | lift_lets

theorem State.outCycle_kept {T : List Comp} {zz s : State} (hT : [.regs, .icu, .evt, .nw, .mem, .pwr, .sto] ⊆ T) (epoch
    changed : Bool) (o : Nat) (hh : Kept T zz s) : Kept T zz (State.outCycle s epoch changed o) := by
  unfold State.outCycle
  try lift_lets
  repeat' first
    | with_reducible assumption | exact keptSub (by decide) hT
    | (intro s; refine (fun hk : Kept T zz s => ?_) ?_; clear_value s; rotate_left; subst s) | (intro v; try clear_value v)
    | with_reducible apply State.outTo_kept | with_reducible apply State.put_kept | with_reducible apply Kept.ite
    | fail_if_no_progress (with_reducible refine Kept.upd_sto ?_ (has (by decide) hT)) | split | lift_lets

theorem State.sendWords_kept {T : List Comp} {zz s : State} (hT : [.sto] ⊆ T) (hh : Kept T zz s) : Kept T zz (State.sendWords
    s) := by
  unfold State.sendWords
  try lift_lets
  repeat' first
    | with_reducible assumption | exact keptSub (by decide) hT
    | (intro s; refine (fun hk : Kept T zz s => ?_) ?_; clear_value s; rotate_left; subst s) | (intro v; try clear_value v)
    | with_reducible apply State.setOut_kept | with_reducible apply Kept.ite
    | with_reducible (apply Kept.fold; intro _ _ _) | split | lift_lets

theorem State.safetyCycle_kept {T : List Comp} {zz s : State} (hT : [.regs, .icu, .evt, .nw, .mem, .pwr, .obs, .sto] ⊆ T)
    (epoch : Bool) (hh : Kept T zz s) : Kept T zz (State.safetyCycle s epoch) := by
  unfold State.safetyCycle
  try lift_lets
  repeat' first
    | with_reducible assumption | exact keptSub (by decide) hT
    | (intro s; refine (fun hk : Kept T zz s => ?_) ?_; clear_value s; rotate_left; subst s) | (intro v; try clear_value v)
    | with_reducible apply State.pairCycle_kept | with_reducible apply State.putFlag_kept
    | with_reducible apply State.logEv_kept | with_reducible apply State.outCycle_kept
    | with_reducible apply State.setOut_kept | with_reducible apply State.outGroup_kept
    | with_reducible apply State.pairObs_kept | with_reducible apply State.outObs_kept
    | with_reducible apply State.sendWords_kept | with_reducible apply Kept.ite
    | with_reducible (apply Kept.fold; intro _ _ _)
    | fail_if_no_progress (with_reducible refine Kept.upd_sto ?_ (has (by decide) hT)) | split | lift_lets

theorem State.linesRise_kept {T : List Comp} {zz s : State} (hT : [.regs, .sto] ⊆ T) (hh : Kept T zz s) : Kept T zz
    (State.linesRise s) := by
  unfold State.linesRise
  repeat' first
    | with_reducible assumption | exact keptSub (by decide) hT | with_reducible apply State.setLine_kept
    | with_reducible apply State.putFlag_kept | with_reducible apply Kept.ite
    | with_reducible (apply Kept.fold; intro _ _ _) | split

theorem State.safetyEpoch_kept {T : List Comp} {zz s : State} (hT : [.regs, .icu, .evt, .nw, .mem, .pwr, .obs, .sto] ⊆ T) (hh
    : Kept T zz s) : Kept T zz (State.safetyEpoch s) := by
  unfold State.safetyEpoch
  try lift_lets
  repeat' first
    | with_reducible assumption | exact keptSub (by decide) hT
    | (intro s; refine (fun hk : Kept T zz s => ?_) ?_; clear_value s; rotate_left; subst s) | (intro v; try clear_value v)
    | with_reducible apply State.linesRise_kept | with_reducible apply State.safetyCycle_kept
    | with_reducible apply Kept.ite | fail_if_no_progress (with_reducible refine Kept.upd_sto ?_ (has (by decide) hT))
    | split | lift_lets

theorem State.outSwitch_kept {T : List Comp} {zz s : State} (hT : [.obs, .sto] ⊆ T) (o : Nat) (on : Bool) (hh : Kept T zz s)
    : Kept T zz (State.outSwitch s o on) := by
  unfold State.outSwitch
  try lift_lets
  repeat' first
    | with_reducible assumption | exact keptSub (by decide) hT
    | (intro s; refine (fun hk : Kept T zz s => ?_) ?_; clear_value s; rotate_left; subst s) | (intro v; try clear_value v)
    | with_reducible apply State.setOut_kept | with_reducible apply State.outObs_kept | with_reducible apply Kept.ite
    | split | lift_lets

theorem State.outOff_kept {T : List Comp} {zz s : State} (hT : [.obs, .sto] ⊆ T) (o : Nat) (hh : Kept T zz s) : Kept T zz
    (State.outOff s o) := by
  unfold State.outOff
  repeat' first
    | with_reducible assumption | exact keptSub (by decide) hT | with_reducible apply State.outSwitch_kept
    | with_reducible apply Kept.ite | split

theorem State.refreshWord_kept {T : List Comp} {zz s : State} (hT : [.obs, .sto] ⊆ T) (o flip : Nat) (hh : Kept T zz s) :
    Kept T zz (State.refreshWord s o flip) := by
  unfold State.refreshWord
  try lift_lets
  repeat' first
    | with_reducible assumption | exact keptSub (by decide) hT
    | (intro s; refine (fun hk : Kept T zz s => ?_) ?_; clear_value s; rotate_left; subst s) | (intro v; try clear_value v)
    | with_reducible apply State.setOut_kept | with_reducible apply State.outOff_kept
    | with_reducible apply State.outSwitch_kept | with_reducible apply Kept.ite | split | lift_lets

theorem State.refreshTimeout_kept {T : List Comp} {zz s : State} (hT : [.regs, .icu, .evt, .nw, .pwr, .obs, .sto] ⊆ T) (o :
    Nat) (hh : Kept T zz s) : Kept T zz (State.refreshTimeout s o) := by
  unfold State.refreshTimeout
  try lift_lets
  repeat' first
    | with_reducible assumption | exact keptSub (by decide) hT | (intro v; try clear_value v)
    | with_reducible apply State.logEv_kept | with_reducible apply State.fltSet_kept | with_reducible apply State.outOff_kept
    | with_reducible apply Kept.ite

theorem State.pulseStart_kept {T : List Comp} {zz s : State} (hT : [.regs, .sto] ⊆ T) (o : Nat) (again : Bool) (hh : Kept T
    zz s) : Kept T zz (State.pulseStart s o again) := by
  unfold State.pulseStart
  try lift_lets
  repeat' first
    | with_reducible assumption | exact keptSub (by decide) hT
    | (intro s; refine (fun hk : Kept T zz s => ?_) ?_; clear_value s; rotate_left; subst s) | (intro v; try clear_value v)
    | with_reducible apply State.setOut_kept | with_reducible apply State.putFlag_kept | with_reducible apply Kept.ite
    | split | lift_lets

theorem State.pulseEnd_kept {T : List Comp} {zz s : State} (hT : [.regs, .sto] ⊆ T) (o : Nat) (hh : Kept T zz s) : Kept T zz
    (State.pulseEnd s o) := by
  unfold State.pulseEnd
  repeat' first
    | with_reducible assumption | exact keptSub (by decide) hT | with_reducible apply State.setOut_kept
    | with_reducible apply State.putFlag_kept | with_reducible apply Kept.ite | split

theorem State.pulseOver_kept {T : List Comp} {zz s : State} (hT : [.regs, .sto] ⊆ T) (o : Nat) (hh : Kept T zz s) : Kept T zz
    (State.pulseOver s o) := by
  unfold State.pulseOver
  try lift_lets
  repeat' first
    | with_reducible assumption | exact keptSub (by decide) hT
    | (intro s; refine (fun hk : Kept T zz s => ?_) ?_; clear_value s; rotate_left; subst s) | (intro v; try clear_value v)
    | with_reducible apply State.pulseEnd_kept | with_reducible apply Kept.ite | split | lift_lets

theorem State.pulseJudge_kept {T : List Comp} {zz s : State} (hT : [.regs, .icu, .evt, .nw, .mem, .pwr, .sto] ⊆ T) (o : Nat)
    (hh : Kept T zz s) : Kept T zz (State.pulseJudge s o) := by
  unfold State.pulseJudge
  try lift_lets
  repeat' first
    | with_reducible assumption | exact keptSub (by decide) hT
    | (intro s; refine (fun hk : Kept T zz s => ?_) ?_; clear_value s; rotate_left; subst s) | (intro v; try clear_value v)
    | with_reducible apply State.outFault_kept | with_reducible apply State.bump_kept
    | with_reducible apply State.lifeCount_kept | with_reducible apply State.setOut_kept | with_reducible apply Kept.ite
    | with_reducible (apply Kept.fold; intro _ _ _)

theorem State.pulseReadback_kept {T : List Comp} {zz s : State} (hT : [.regs, .icu, .evt, .nw, .mem, .pwr, .sto] ⊆ T) (o :
    Nat) (second : Bool) (below5 above15 : Nat) (hh : Kept T zz s) : Kept T zz (State.pulseReadback s o second below5
    above15) := by
  unfold State.pulseReadback
  try lift_lets
  repeat' first
    | with_reducible assumption | exact keptSub (by decide) hT
    | (intro s; refine (fun hk : Kept T zz s => ?_) ?_; clear_value s; rotate_left; subst s) | (intro v; try clear_value v)
    | with_reducible apply State.setOut_kept | with_reducible apply State.pulseJudge_kept | with_reducible apply Kept.ite
    | split | lift_lets

theorem State.readbackFault_kept {T : List Comp} {zz s : State} (hT : [.regs, .icu, .evt, .nw, .pwr, .sto] ⊆ T) (o : Nat)
    (high : Bool) (hh : Kept T zz s) : Kept T zz (State.readbackFault s o high) := by
  unfold State.readbackFault
  repeat' first
    | with_reducible assumption | exact keptSub (by decide) hT | with_reducible apply State.outFault_kept
    | with_reducible apply Kept.ite | split

theorem State.testCommit_kept {T : List Comp} {zz s : State} (hT : [.regs, .icu, .evt, .nw, .mem, .pwr, .obs, .sto] ⊆ T) (i :
    Nat) (onTime : Bool) (hh : Kept T zz s) : Kept T zz (State.testCommit s i onTime) := by
  unfold State.testCommit
  try lift_lets
  repeat' first
    | with_reducible assumption | exact keptSub (by decide) hT
    | (intro s; refine (fun hk : Kept T zz s => ?_) ?_; clear_value s; rotate_left; subst s) | (intro v; try clear_value v)
    | with_reducible apply State.outFault_kept | with_reducible apply State.setLine_kept
    | with_reducible apply State.setOut_kept | with_reducible apply State.lineFault_kept | with_reducible apply Kept.ite

theorem State.stoAllOff_kept {T : List Comp} {zz s : State} (hT : [.regs, .obs, .sto] ⊆ T) (hh : Kept T zz s) : Kept T zz
    (State.stoAllOff s) := by
  unfold State.stoAllOff
  try lift_lets
  repeat' first
    | with_reducible assumption | exact keptSub (by decide) hT
    | (intro s; refine (fun hk : Kept T zz s => ?_) ?_; clear_value s; rotate_left; subst s) | (intro v; try clear_value v)
    | with_reducible apply State.outOff_kept | with_reducible apply State.pulseEnd_kept
    | with_reducible apply State.setOut_kept | with_reducible apply Kept.ite
    | with_reducible (apply Kept.fold; intro _ _ _) | split | lift_lets

theorem State.foldBin_kept {T : List Comp} {zz s : State} (hT : [.life] ⊆ T) (o n : Nat) (hh : Kept T zz s) : Kept T zz
    (State.foldBin s o n) := by
  unfold State.foldBin
  try lift_lets
  repeat' first
    | with_reducible assumption | exact keptSub (by decide) hT
    | (intro s; refine (fun hk : Kept T zz s => ?_) ?_; clear_value s; rotate_left; subst s) | (intro (v : Life); subst v)
    | (intro v; try clear_value v) | with_reducible apply State.lifeAcc_kept | with_reducible apply Kept.ite
    | fail_if_no_progress (with_reducible refine Kept.upd_life ?_ (has (by decide) hT) (fun k => k.flash)) | split
    | lift_lets

theorem State.foldTime_kept {T : List Comp} {zz s : State} (hT : [.life] ⊆ T) (on : Bool) (o n : Nat) (hh : Kept T zz s) :
    Kept T zz (State.foldTime s on o n) := by
  unfold State.foldTime
  repeat' first
    | with_reducible assumption | exact keptSub (by decide) hT | with_reducible apply State.lifeAcc_kept
    | with_reducible apply Kept.ite | split

theorem State.foldCharge_kept {T : List Comp} {zz s : State} (hT : [.life] ⊆ T) (c n : Nat) (hh : Kept T zz s) : Kept T zz
    (State.foldCharge s c n) := by
  unfold State.foldCharge
  try lift_lets
  repeat' first
    | with_reducible assumption | exact keptSub (by decide) hT
    | (intro s; refine (fun hk : Kept T zz s => ?_) ?_; clear_value s; rotate_left; subst s) | (intro (v : Life); subst v)
    | (intro v; try clear_value v) | with_reducible apply State.lifeAcc_kept | with_reducible apply Kept.ite
    | fail_if_no_progress (with_reducible refine Kept.upd_life ?_ (has (by decide) hT) (fun k => k.flash)) | split
    | lift_lets

theorem State.foldChan_kept {T : List Comp} {zz s : State} (hT : [.life] ⊆ T) (n c : Nat) (hh : Kept T zz s) : Kept T zz
    (State.foldChan n s c) := by
  unfold State.foldChan
  try lift_lets
  repeat' first
    | with_reducible assumption | exact keptSub (by decide) hT
    | (intro s; refine (fun hk : Kept T zz s => ?_) ?_; clear_value s; rotate_left; subst s) | (intro v; try clear_value v)
    | with_reducible apply State.foldTime_kept | with_reducible apply State.foldCharge_kept
    | with_reducible apply State.foldBin_kept | with_reducible apply Kept.ite | split | lift_lets

theorem State.foldMax_kept {T : List Comp} {zz s : State} (hT : [.mem] ⊆ T) (c : Nat) (hh : Kept T zz s) : Kept T zz
    (State.foldMax s c) := by
  unfold State.foldMax
  try lift_lets
  repeat' first
    | with_reducible assumption | exact keptSub (by decide) hT
    | (intro s; refine (fun hk : Kept T zz s => ?_) ?_; clear_value s; rotate_left; subst s) | (intro v; try clear_value v)
    | with_reducible apply State.memPut_kept | with_reducible apply Kept.ite | split | lift_lets

theorem State.foldAsp_kept {T : List Comp} {zz s : State} (hT : [.life] ⊆ T) (n a : Nat) (hh : Kept T zz s) : Kept T zz
    (State.foldAsp n s a) := by
  unfold State.foldAsp
  try lift_lets
  repeat' first
    | with_reducible assumption | exact keptSub (by decide) hT | (intro v; try clear_value v)
    | with_reducible apply State.foldTime_kept | with_reducible apply Kept.ite

theorem State.foldSpan_kept {T : List Comp} {zz s : State} (hT : [.life] ⊆ T) (hh : Kept T zz s) : Kept T zz (State.foldSpan
    s) := by
  unfold State.foldSpan
  try lift_lets
  repeat' first
    | with_reducible assumption | exact keptSub (by decide) hT
    | (intro s; refine (fun hk : Kept T zz s => ?_) ?_; clear_value s; rotate_left; subst s) | (intro (v : Life); subst v)
    | (intro v; try clear_value v) | with_reducible apply State.foldChan_kept | with_reducible apply State.foldAsp_kept
    | with_reducible apply State.foldTime_kept | with_reducible apply State.foldBin_kept | with_reducible apply Kept.ite
    | with_reducible (apply Kept.fold; intro _ _ _)
    | fail_if_no_progress (with_reducible refine Kept.upd_life ?_ (has (by decide) hT) (fun k => k.flash)) | split
    | lift_lets

theorem State.foldCounts_kept {T : List Comp} {zz s : State} (hT : [.regs, .icu, .evt, .nw, .mem, .life, .pwr] ⊆ T) (hh :
    Kept T zz s) : Kept T zz (State.foldCounts s) := by
  unfold State.foldCounts
  try lift_lets
  repeat' first
    | with_reducible assumption | exact keptSub (by decide) hT
    | (intro s; refine (fun hk : Kept T zz s => ?_) ?_; clear_value s; rotate_left; subst s) | (intro (v : Life); subst v)
    | (intro v; try clear_value v) | with_reducible apply State.lifeCount_kept | with_reducible apply Kept.ite
    | with_reducible (apply Kept.fold; intro _ _ _)
    | fail_if_no_progress (with_reducible refine Kept.upd_life ?_ (has (by decide) hT) (fun k => k.flash))

theorem State.fold_kept {T : List Comp} {zz s : State} (hT : [.regs, .icu, .evt, .nw, .mem, .life, .pwr] ⊆ T) (core : Int)
    (hh : Kept T zz s) : Kept T zz (State.fold s core) := by
  unfold State.fold
  try lift_lets
  repeat' first
    | with_reducible assumption | exact keptSub (by decide) hT
    | (intro s; refine (fun hk : Kept T zz s => ?_) ?_; clear_value s; rotate_left; subst s) | (intro (v : Life); subst v)
    | (intro v; try clear_value v) | with_reducible apply State.foldSpan_kept | with_reducible apply State.foldMax_kept
    | with_reducible apply State.foldCounts_kept | with_reducible apply State.put_kept | with_reducible apply Kept.ite
    | with_reducible (apply Kept.fold; intro _ _ _)
    | fail_if_no_progress (with_reducible refine Kept.upd_life ?_ (has (by decide) hT) (fun k => k.flash)) | split
    | lift_lets

theorem State.satCount_kept {T : List Comp} {zz s : State} (hT : [.regs] ⊆ T) (hh : Kept T zz s) : Kept T zz (State.satCount
    s) := by
  unfold State.satCount
  try lift_lets
  repeat' first
    | with_reducible assumption | exact keptSub (by decide) hT
    | (intro s; refine (fun hk : Kept T zz s => ?_) ?_; clear_value s; rotate_left; subst s) | (intro v; try clear_value v)
    | with_reducible apply State.put_kept | with_reducible apply Kept.ite | split | lift_lets

theorem State.tailCopy_kept {T : List Comp} {zz s : State} (hT : [.mem] ⊆ T) (hh : Kept T zz s) : Kept T zz (State.tailCopy
    s) := by
  unfold State.tailCopy
  try lift_lets
  repeat' first
    | with_reducible assumption | exact keptSub (by decide) hT | (intro v; try clear_value v)
    | with_reducible apply State.memWrite_kept | with_reducible apply Kept.ite
    | with_reducible (apply Kept.fold; intro _ _ _)

theorem State.lifeHeader_kept {T : List Comp} {zz s : State} (hT : [.mem] ⊆ T) (hh : Kept T zz s) : Kept T zz
    (State.lifeHeader s) := by
  unfold State.lifeHeader
  try lift_lets
  repeat' first
    | with_reducible assumption | exact keptSub (by decide) hT
    | (intro s; refine (fun hk : Kept T zz s => ?_) ?_; clear_value s; rotate_left; subst s) | (intro v; try clear_value v)
    | with_reducible apply State.memWrite_kept

theorem State.copyRecord_kept {T : List Comp} {zz s : State} (hT : [.mem] ⊆ T) (j : Nat) (hh : Kept T zz s) : Kept T zz
    (s.copyRecord j) :=
  hh.upd_mem _ (has (by decide) hT) fun k => TabWf_paste k.2.1 (TabWf_slice k.2.1 _ _) _ _

theorem State.persistBegin_kept {T : List Comp} {zz s : State} (hT : [.regs, .mem, .life, .fspi] ⊆ T) (why : Nat) (hh : Kept
    T zz s) : Kept T zz (State.persistBegin s why) := by
  unfold State.persistBegin
  refine Kept.ite hh (Kept.ite (hh.upd_life (has (by decide) hT) (fun k => ⟨k.2.2.1, k.2.2.2⟩)) ?_)
  have key : ∀ (c j : Nat) (l : List (Nat × Nat)) (u : State), Kept T zz u → Kept T zz ((({ u with life := { u.life with
      writing := why, due := false, copySlot := c, nextCopy := c, nextJournal := j } }).flash l).put fLIFE_PERSIST 1) :=
    fun _ _ _ _ h => State.put_kept (keptSub (by decide) hT) _ _ (State.flash_kept (keptSub (by decide) hT) _
      (h.upd_life (has (by decide) hT) (fun k => ⟨k.2.2.1, k.2.2.2⟩)))
  exact key _ _ _ _ (State.copyRecord_kept (keptSub (by decide) hT) _ (State.lifeHeader_kept (keptSub (by decide) hT) (State.tailCopy_kept (keptSub (by decide) hT) hh)))

theorem State.persistEnd_kept {T : List Comp} {zz s : State} (hT : [.regs, .life, .fspi] ⊆ T) (ok : Bool) (hh : Kept T zz s)
    : Kept T zz (State.persistEnd s ok) := by
  unfold State.persistEnd
  lift_lets
  intro l copy cut u
  have hc : ∀ (t : Tab (Tab Byte)) i, (∀ p ∈ t, TabWf (fun _ => (0 : Byte)) p.2) →
      ∀ p ∈ cut t i, TabWf (fun _ => (0 : Byte)) p.2 := fun t i h => all_tabSet h (TabWf_nil _)
  have hu : Kept T zz u := hh.upd_life (has (by decide) hT) fun k => by
    refine ⟨?_, k.2.2.2⟩
    show ∀ p ∈ (if ok = true then cut (cut (tabSet (fun _ => []) s.life.journal l.nextJournal copy) 1) 2
      else s.life.journal), _
    split
    · exact hc _ _ (hc _ _ (all_tabSet k.2.2.1 (TabWf_slice k.2.1 _ _)))
    · exact k.2.2.1
  clear_value u cut
  intro back
  exact Kept.ite hh (Kept.ite (State.put_kept (keptSub (by decide) hT) _ _ (State.put_kept (keptSub (by decide) hT) _ _
    (State.flash_kept (keptSub (by decide) hT) _ hu))) (State.put_kept (keptSub (by decide) hT) _ _ (State.flash_kept (keptSub (by decide) hT) _ hu)))

theorem State.snapshot_kept {T : List Comp} {zz s : State} (hT : [.regs, .mem, .life, .fspi] ⊆ T) (hh : Kept T zz s) : Kept T
    zz (State.snapshot s) := by
  unfold State.snapshot
  refine Kept.ite hh (Kept.ite (hh.upd_life (has (by decide) hT) (fun k => ⟨k.2.2.1, k.2.2.2⟩)) ?_)
  have key : ∀ (i v : Nat) (l : List (Nat × Nat)) (u : State), Kept T zz u → Kept T zz ((({ u with life := { u.life with
      snaps := tabSet (fun _ => []) u.life.snaps i (tabSlice lifeBase 0x8000 u.mem), nextSnap := (i + 1) % 56,
      snapStopped := false } }).flash l).put fLIFE_SNAPS v) := fun i v l u h => by
    refine State.put_kept (keptSub (by decide) hT) _ _ (State.flash_kept (keptSub (by decide) hT) _
      (h.upd_life (has (by decide) hT) fun k => ⟨k.2.2.1, ?_⟩))
    dsimp only
    exact all_tabSet k.2.2.2 (TabWf_slice k.2.1 _ _)
  exact key _ _ _ _ (State.copyRecord_kept (keptSub (by decide) hT) _ (State.lifeHeader_kept (keptSub (by decide) hT) (State.tailCopy_kept (keptSub (by decide) hT) hh)))

theorem State.restore_kept {T : List Comp} {zz s : State} (hT : [.regs, .icu, .evt, .nw, .mem, .life, .pwr, .fspi] ⊆ T) (hh :
    Kept T zz s) : Kept T zz (State.restore s) := by
  unfold State.restore
  lift_lets
  intro s0
  have h0 : Kept T zz s0 := State.flash_kept (keptSub (by decide) hT) _ hh
  clear_value s0
  clear hh
  rename' h0 => hh, s0 => s
  intro best
  have hb : zz.Canon → ∀ t, best = some t → TabWf (fun _ => (0 : Byte)) t := fun k t ht =>
    let ⟨n, hn⟩ := mem_newestSlot ht
    (hh.canon k).2.2.1 (n, t) hn
  clear_value best
  intro foreign src u
  clear_value foreign
  have hu : Kept T zz u ∧ u.life = s.life := by
    subst u
    split
    · rename_i t
      have hm : Kept T zz { s with mem := tabPaste lifeBase 0x8000 s.mem t } :=
        ⟨hh.queue, hh.lock, hh.scan, hh.ctr, fun k => ⟨(hh.canon k).1,
          TabWf_paste (hh.canon k).2.1 (hb k t rfl) _ _, (hh.canon k).2.2⟩,
          fun c hc => by cases c <;> first | exact absurd (has (by decide) hT) hc | exact hh.same _ hc⟩
      exact ⟨hm.upd_evt (has (by decide) hT), rfl⟩
    · exact ⟨hh, rfl⟩
  clear_value u
  obtain ⟨hu, hl⟩ := hu
  intro v w
  have hv : Kept T zz v := State.put_kept (keptSub (by decide) hT) _ _ hu
  have hn : v.life.snaps = s.life.snaps := by rw [← hl]; rfl
  clear_value v
  have hw : Kept T zz w := Kept.foldPaste (has (by decide) hT) _ _ _ (fun k => hn ▸ (hh.canon k).2.2.2) hv
  clear_value w
  intro a src2 b
  have ha : Kept T zz a := State.put_kept (keptSub (by decide) hT) _ _ hw
  clear_value a
  have hb : Kept T zz b := ha.upd_life (has (by decide) hT) (fun k => ⟨k.2.2.1, k.2.2.2⟩)
  clear_value b
  intro c d
  have hc : Kept T zz c := State.lifeCount_kept (keptSub (by decide) hT) _ _ _ (State.satCount_kept (keptSub (by decide) hT) hb)
  clear_value c
  have hd : Kept T zz d := Kept.ite (State.lifeCount_kept (keptSub (by decide) hT) _ _ _ hc) hc
  clear_value d
  intro e
  have he : Kept T zz e := by
    refine Kept.ite (Kept.fold (fun t c ht => ?_) hd) hd
    exact Kept.ite ht (State.put_kept (keptSub (by decide) hT) _ _ (State.putFlag_kept (keptSub (by decide) hT) _ _ (State.wr_kept (keptSub (by decide) hT) _ _ (State.wr_kept (keptSub (by decide) hT) _ _ ht))))
  clear_value e
  exact Kept.ite he (State.logFw_kept (keptSub (by decide) hT) _ _ _ _ he)

theorem State.logStart_kept {T : List Comp} {zz s : State} (hT : [.regs, .icu, .evt, .nw, .mem, .cap, .pwr] ⊆ T) (hh : Kept T
    zz s) : Kept T zz (State.logStart s) := by
  unfold State.logStart
  try lift_lets
  repeat' first
    | with_reducible assumption | exact keptSub (by decide) hT
    | (intro s; refine (fun hk : Kept T zz s => ?_) ?_; clear_value s; rotate_left; subst s) | (intro v; try clear_value v)
    | with_reducible apply State.writeRec_kept | with_reducible apply State.flushNw_kept | with_reducible apply Kept.ite
    | fail_if_no_progress (with_reducible refine Kept.upd_evt ?_ (has (by decide) hT))

theorem State.lifeClearChan_kept {T : List Comp} {zz s : State} (hT : [.regs, .evt, .mem, .life] ⊆ T) (c : Nat) (hh : Kept T
    zz s) : Kept T zz (State.lifeClearChan s c) :=
  State.logFw_kept (keptSub (by decide) hT) _ _ _ _ (State.satCount_kept (keptSub (by decide) hT)
    ((hh.upd_mem _ (has (by decide) hT) fun k => TabWf_cut (TabWf_cut k.2.1 _ _) _ _).upd_life (has (by decide) hT) fun k => ⟨k.2.2.1, k.2.2.2⟩))

theorem State.lifeClearDev_kept {T : List Comp} {zz s : State} (hT : [.regs, .evt, .mem, .life] ⊆ T) (hh : Kept T zz s) :
    Kept T zz (State.lifeClearDev s) :=
  State.logFw_kept (keptSub (by decide) hT) _ _ _ _ (State.satCount_kept (keptSub (by decide) hT)
    ((hh.upd_mem _ (has (by decide) hT) fun k => TabWf_cut k.2.1 _ _).upd_life (has (by decide) hT) fun k => ⟨k.2.2.1, k.2.2.2⟩))

theorem State.lifeCmd_kept {T : List Comp} {zz s : State} (hT : [.regs, .evt, .mem, .life] ⊆ T) (w : Nat) (hh : Kept T zz s)
    : Kept T zz (State.lifeCmd s w) := by
  unfold State.lifeCmd
  repeat' first
    | with_reducible assumption | exact keptSub (by decide) hT | with_reducible apply State.lifeClearChan_kept
    | with_reducible apply State.lifeClearDev_kept | with_reducible apply Kept.ite

theorem State.recordArrives_kept {T : List Comp} {zz s : State} (hT : [.regs, .icu, .evt, .nw, .mem, .cap, .pwr] ⊆ T) (hh :
    Kept T zz s) : Kept T zz (State.recordArrives s) := by
  unfold State.recordArrives
  try lift_lets
  repeat' first
    | with_reducible assumption | exact keptSub (by decide) hT | (intro v; try clear_value v)
    | with_reducible apply State.writeRec_kept | with_reducible apply Kept.ite
    | fail_if_no_progress (with_reducible refine Kept.upd_evt ?_ (has (by decide) hT)) | split

theorem State.evtRdseq_kept {T : List Comp} {zz s : State} (hT : [.regs, .icu, .evt, .nw, .pwr] ⊆ T) (w : Nat) (hh : Kept T
    zz s) : Kept T zz (State.evtRdseq s w) := by
  unfold State.evtRdseq
  repeat' first
    | with_reducible assumption | exact keptSub (by decide) hT | with_reducible apply State.evtThreshold_kept
    | with_reducible apply State.wr_kept

theorem State.evtThresh_kept {T : List Comp} {zz s : State} (hT : [.regs, .icu, .evt, .nw, .pwr] ⊆ T) (w : Nat) (hh : Kept T
    zz s) : Kept T zz (State.evtThresh s w) := by
  unfold State.evtThresh
  repeat' first
    | with_reducible assumption | exact keptSub (by decide) hT | with_reducible apply State.evtThreshold_kept
    | with_reducible apply State.wr_kept

theorem State.fallbackChan_kept {T : List Comp} {zz s : State} (hT : [.regs, .life, .chans, .mtx] ⊆ T) (c : Nat) (hh : Kept T
    zz s) : Kept T zz (State.fallbackChan s c) := by
  unfold State.fallbackChan
  try lift_lets
  repeat' first
    | with_reducible assumption | exact keptSub (by decide) hT
    | (intro s; refine (fun hk : Kept T zz s => ?_) ?_; clear_value s; rotate_left; subst s) | (intro v; try clear_value v)
    | with_reducible apply State.litStep_kept | with_reducible apply State.setChan_kept | with_reducible apply Kept.ite
    | split | lift_lets

theorem State.fallbackBank_kept {T : List Comp} {zz s : State} (hT : [.regs, .banks] ⊆ T) (n : Nat) (hh : Kept T zz s) : Kept
    T zz (State.fallbackBank s n) := by
  unfold State.fallbackBank
  try lift_lets
  repeat' first
    | with_reducible assumption | exact keptSub (by decide) hT | (intro v; try clear_value v)
    | with_reducible apply State.bankClose_kept | with_reducible apply State.bankOpen_kept | with_reducible apply Kept.ite

theorem State.mornDrop_kept {T : List Comp} {zz s : State} (hT : [.regs, .pwr] ⊆ T) (hh : Kept T zz s) : Kept T zz
    (State.mornDrop s) := by
  unfold State.mornDrop
  try lift_lets
  repeat' first
    | with_reducible assumption | exact keptSub (by decide) hT
    | (intro s; refine (fun hk : Kept T zz s => ?_) ?_; clear_value s; rotate_left; subst s) | (intro v; try clear_value v)
    | with_reducible apply State.putFlag_kept | with_reducible apply Kept.ite
    | fail_if_no_progress (with_reducible refine Kept.upd_pwr ?_ (has (by decide) hT))

theorem State.midnightEnter_kept {T : List Comp} {zz s : State} (hT : [.regs, .pins, .icu, .evt, .nw, .mem, .cap, .life,
    .pwr, .obs, .chans, .banks, .boost, .mtx, .spi, .adc, .sto, .mbx, .bist, .fspi] ⊆ T) (cause : Nat) (hh : Kept T zz s) :
    Kept T zz (State.midnightEnter s cause) := by
  unfold State.midnightEnter
  try lift_lets
  repeat' first
    | with_reducible assumption | exact keptSub (by decide) hT
    | (intro s; refine (fun hk : Kept T zz s => ?_) ?_; clear_value s; rotate_left; subst s) | (intro v; try clear_value v)
    | with_reducible apply State.put_kept | with_reducible apply State.putFlag_kept
    | with_reducible apply State.mornDrop_kept | with_reducible apply State.bistStop_kept
    | with_reducible apply State.fltSet_kept | with_reducible apply State.driveReady_kept
    | with_reducible apply State.stoAllOff_kept | with_reducible apply State.gateLow_kept
    | with_reducible apply State.fallbackChan_kept | with_reducible apply State.fallbackBank_kept
    | with_reducible apply State.ledsDark_kept | with_reducible apply State.logFw_kept
    | with_reducible apply State.capFreeze_kept | with_reducible apply State.persistBegin_kept
    | with_reducible apply Kept.ite | with_reducible (apply Kept.fold; intro _ _ _)
    | fail_if_no_progress (with_reducible refine Kept.upd_mtx ?_ (has (by decide) hT)) | split | lift_lets

theorem State.setLink_kept {T : List Comp} {zz s : State} (hT : [.link] ⊆ T) (l : Link) (hh : Kept T zz s) : Kept T zz
    (State.setLink s l) := by
  unfold State.setLink
  repeat' first
    | with_reducible assumption | exact keptSub (by decide) hT | with_reducible apply Kept.ite
    | fail_if_no_progress (with_reducible refine Kept.upd_link ?_ (has (by decide) hT))

theorem State.linkLost_kept {T : List Comp} {zz s : State} (hT : [.regs, .pins, .icu, .evt, .nw, .mem, .cap, .life, .pwr,
    .obs, .chans, .banks, .boost, .mtx, .spi, .adc, .sto, .link, .mbx, .bist, .fspi] ⊆ T) (hh : Kept T zz s) : Kept T zz
    (State.linkLost s) := by
  unfold State.linkLost
  try lift_lets
  repeat' first
    | with_reducible assumption | exact keptSub (by decide) hT
    | (intro s; refine (fun hk : Kept T zz s => ?_) ?_; clear_value s; rotate_left; subst s) | (intro v; try clear_value v)
    | with_reducible apply State.setLink_kept | with_reducible apply State.midnightEnter_kept
    | with_reducible apply Kept.ite | fail_if_no_progress (with_reducible refine Kept.upd_pins ?_ (has (by decide) hT))
    | split | lift_lets

theorem State.linkNarrow_kept {T : List Comp} {zz s : State} (hT : [.regs, .pins, .icu, .evt, .nw, .mem, .cap, .life, .pwr,
    .obs, .chans, .banks, .boost, .mtx, .spi, .adc, .sto, .link, .mbx, .bist, .fspi] ⊆ T) (lane : Nat) (hh : Kept T zz s) :
    Kept T zz (State.linkNarrow s lane) := by
  unfold State.linkNarrow
  try lift_lets
  repeat' first
    | with_reducible assumption | exact keptSub (by decide) hT
    | (intro s; refine (fun hk : Kept T zz s => ?_) ?_; clear_value s; rotate_left; subst s) | (intro v; try clear_value v)
    | with_reducible apply State.linkLost_kept | with_reducible apply State.bistCause_kept
    | with_reducible apply State.setLink_kept | with_reducible apply State.logEv_kept
    | with_reducible apply State.raise_kept | with_reducible apply State.fltSet_kept | with_reducible apply Kept.ite
    | split | lift_lets

theorem State.laneErrors_kept {T : List Comp} {zz s : State} (hT : [.link] ⊆ T) (dir bad : Nat) (hh : Kept T zz s) : Kept T
    zz (State.laneErrors s dir bad) := by
  unfold State.laneErrors
  try lift_lets
  repeat' first
    | with_reducible assumption | exact keptSub (by decide) hT
    | (intro s; refine (fun hk : Kept T zz s => ?_) ?_; clear_value s; rotate_left; subst s) | (intro v; try clear_value v)
    | with_reducible apply State.setLink_kept | with_reducible apply Kept.ite
    | with_reducible (apply Kept.fold; intro _ _ _) | split | lift_lets

theorem State.linkWear_kept {T : List Comp} {zz s : State} (hT : [.regs, .pins, .icu, .evt, .nw, .mem, .cap, .life, .pwr,
    .obs, .chans, .banks, .boost, .mtx, .spi, .adc, .sto, .link, .mbx, .bist, .fspi] ⊆ T) (dir bad : Nat) (again : Bool) (hh
    : Kept T zz s) : Kept T zz (State.linkWear s dir bad again) := by
  unfold State.linkWear
  try lift_lets
  repeat' first
    | with_reducible assumption | exact keptSub (by decide) hT
    | (intro s; refine (fun hk : Kept T zz s => ?_) ?_; clear_value s; rotate_left; subst s) | (intro v; try clear_value v)
    | with_reducible apply State.linkLost_kept | with_reducible apply State.linkNarrow_kept | with_reducible apply Kept.ite
    | split | lift_lets

theorem State.seqError_kept {T : List Comp} {zz s : State} (hT : [.regs, .pins, .icu, .evt, .nw, .mem, .cap, .life, .pwr,
    .obs, .chans, .banks, .boost, .mtx, .spi, .adc, .sto, .link, .mbx, .bist, .fspi] ⊆ T) (hh : Kept T zz s) : Kept T zz
    (State.seqError s) := by
  unfold State.seqError
  try lift_lets
  repeat' first
    | with_reducible assumption | exact keptSub (by decide) hT
    | (intro s; refine (fun hk : Kept T zz s => ?_) ?_; clear_value s; rotate_left; subst s) | (intro v; try clear_value v)
    | with_reducible apply State.linkLost_kept | with_reducible apply State.setLink_kept | with_reducible apply Kept.ite

theorem State.linkDone_kept {T : List Comp} {zz s : State} (hT : [.link] ⊆ T) (dir : Nat) (w : Nat × Nat) (hh : Kept T zz s)
    : Kept T zz (State.linkDone s dir w) := by
  unfold State.linkDone
  try lift_lets
  repeat' first
    | with_reducible assumption | exact keptSub (by decide) hT
    | (intro s; refine (fun hk : Kept T zz s => ?_) ?_; clear_value s; rotate_left; subst s) | (intro v; try clear_value v)
    | with_reducible apply State.setLink_kept | with_reducible apply Kept.ite | split | lift_lets

theorem State.linkTransfer_kept {T : List Comp} {zz s : State} (hT : [.regs, .pins, .icu, .evt, .nw, .mem, .cap, .life, .pwr,
    .obs, .chans, .banks, .boost, .mtx, .spi, .adc, .sto, .link, .mbx, .bist, .fspi] ⊆ T) (dir : Nat) (x : Xfer) (hh : Kept T
    zz s) : Kept T zz (State.linkTransfer s dir x) := by
  unfold State.linkTransfer
  try lift_lets
  repeat' first
    | with_reducible assumption | exact keptSub (by decide) hT
    | (intro s; refine (fun hk : Kept T zz s => ?_) ?_; clear_value s; rotate_left; subst s) | (intro v; try clear_value v)
    | with_reducible apply State.setLink_kept | with_reducible apply State.linkLost_kept
    | with_reducible apply State.seqError_kept | with_reducible apply State.laneErrors_kept
    | with_reducible apply State.linkWear_kept | with_reducible apply Kept.ite | split | lift_lets

theorem State.timeUntrusted_kept {T : List Comp} {zz s : State} (hT : [.regs, .icu, .evt, .nw, .pwr, .ptp] ⊆ T) (cause : Nat)
    (hh : Kept T zz s) : Kept T zz (State.timeUntrusted s cause) := by
  unfold State.timeUntrusted
  try lift_lets
  repeat' first
    | with_reducible assumption | exact keptSub (by decide) hT
    | (intro s; refine (fun hk : Kept T zz s => ?_) ?_; clear_value s; rotate_left; subst s) | (intro v; try clear_value v)
    | with_reducible apply State.put_kept | with_reducible apply State.logEv_kept | with_reducible apply State.raise_kept
    | with_reducible apply Kept.ite | fail_if_no_progress (with_reducible refine Kept.upd_ptp ?_ (has (by decide) hT))
    | split | lift_lets

theorem State.gridLost_kept {T : List Comp} {zz s : State} (hT : [.regs, .icu, .evt, .nw, .pwr, .ptp, .bist] ⊆ T) (hh : Kept
    T zz s) : Kept T zz (State.gridLost s) := by
  unfold State.gridLost
  try lift_lets
  repeat' first
    | with_reducible assumption | exact keptSub (by decide) hT
    | (intro s; refine (fun hk : Kept T zz s => ?_) ?_; clear_value s; rotate_left; subst s)
    | with_reducible apply State.logEv_kept | with_reducible apply State.fltSet_kept
    | with_reducible apply State.putFlag_kept | with_reducible apply State.bistCause_kept
    | with_reducible apply State.timeUntrusted_kept | with_reducible apply Kept.ite

theorem State.vcoreLow_kept {T : List Comp} {zz s : State} (hT : [.regs, .icu, .nw, .pwr, .bist] ⊆ T) (low : Bool) (hh : Kept
    T zz s) : Kept T zz (State.vcoreLow s low) := by
  unfold State.vcoreLow
  repeat' first
    | with_reducible assumption | exact keptSub (by decide) hT | with_reducible apply State.fltFollow_kept
    | with_reducible apply State.putFlag_kept | with_reducible apply State.bistCause_kept | with_reducible apply Kept.ite

theorem State.deadlineGroup_kept {T : List Comp} {zz s : State} (hT : [.regs, .icu, .nw, .pwr] ⊆ T) (hh : Kept T zz s) : Kept
    T zz (State.deadlineGroup s) := by
  unfold State.deadlineGroup
  repeat' first
    | with_reducible assumption | exact keptSub (by decide) hT | with_reducible apply State.fltFollow_kept

theorem State.setRun_kept {T : List Comp} {zz s : State} (hT : [.regs, .grid] ⊆ T) (k n : Nat) (hh : Kept T zz s) : Kept T zz
    (State.setRun s k n) := by
  unfold State.setRun
  try lift_lets
  repeat' first
    | with_reducible assumption | exact keptSub (by decide) hT
    | (intro s; refine (fun hk : Kept T zz s => ?_) ?_; clear_value s; rotate_left; subst s) | (intro v; try clear_value v)
    | with_reducible apply State.put_kept | with_reducible apply Kept.ite
    | fail_if_no_progress (with_reducible refine Kept.upd_grid ?_ (has (by decide) hT))

theorem State.ruleStall_kept {T : List Comp} {zz s : State} (hT : [.regs, .pins, .icu, .evt, .nw, .pwr, .res] ⊆ T) (hh : Kept
    T zz s) : Kept T zz (State.ruleStall s) := by
  unfold State.ruleStall
  try lift_lets
  repeat' first
    | with_reducible assumption | exact keptSub (by decide) hT
    | (intro s; refine (fun hk : Kept T zz s => ?_) ?_; clear_value s; rotate_left; subst s) | (intro v; try clear_value v)
    | with_reducible apply State.logEv_kept | with_reducible apply State.fltSet_kept
    | with_reducible apply State.putFlag_kept | with_reducible apply State.driveReady_kept | with_reducible apply Kept.ite
    | fail_if_no_progress (with_reducible refine Kept.upd_res ?_ (has (by decide) hT))

theorem State.deadlineMiss_kept {T : List Comp} {zz s : State} (hT : [.regs, .grid, .pins, .icu, .evt, .nw, .life, .pwr,
    .boost, .res] ⊆ T) (k : Nat) (hh : Kept T zz s) : Kept T zz (State.deadlineMiss s k) := by
  unfold State.deadlineMiss
  try lift_lets
  repeat' first
    | with_reducible assumption | exact keptSub (by decide) hT
    | (intro s; refine (fun hk : Kept T zz s => ?_) ?_; clear_value s; rotate_left; subst s) | (intro v; try clear_value v)
    | with_reducible apply State.logEv_kept | with_reducible apply State.deadlineGroup_kept
    | with_reducible apply State.bump_kept | with_reducible apply State.ruleStall_kept
    | with_reducible apply State.raise_kept | with_reducible apply State.setRun_kept
    | with_reducible apply State.dutyHold_kept | with_reducible apply State.lifeAcc_kept | with_reducible apply Kept.ite
    | fail_if_no_progress (with_reducible refine Kept.upd_boost ?_ (has (by decide) hT))
    | fail_if_no_progress (with_reducible refine Kept.upd_res ?_ (has (by decide) hT))

theorem State.deadlineMet_kept {T : List Comp} {zz s : State} (hT : [.regs, .grid, .icu, .evt, .nw, .pwr, .boost, .res] ⊆ T)
    (k : Nat) (hh : Kept T zz s) : Kept T zz (State.deadlineMet s k) := by
  unfold State.deadlineMet
  try lift_lets
  repeat' first
    | with_reducible assumption | exact keptSub (by decide) hT
    | (intro s; refine (fun hk : Kept T zz s => ?_) ?_; clear_value s; rotate_left; subst s) | (intro v; try clear_value v)
    | with_reducible apply State.logEv_kept | with_reducible apply State.deadlineGroup_kept
    | with_reducible apply State.setRun_kept | with_reducible apply Kept.ite
    | fail_if_no_progress (with_reducible refine Kept.upd_boost ?_ (has (by decide) hT))
    | fail_if_no_progress (with_reducible refine Kept.upd_res ?_ (has (by decide) hT))

theorem State.deadlineCount_kept {T : List Comp} {zz s : State} (hT : [.regs, .grid, .pins, .icu, .evt, .nw, .life, .pwr,
    .boost, .res] ⊆ T) (k : Nat) (ok : Bool) (hh : Kept T zz s) : Kept T zz (State.deadlineCount s k ok) := by
  unfold State.deadlineCount
  repeat' first
    | with_reducible assumption | exact keptSub (by decide) hT | with_reducible apply State.deadlineMet_kept
    | with_reducible apply State.deadlineMiss_kept | with_reducible apply Kept.ite

theorem State.holdResume_kept {T : List Comp} {zz s : State} (hT : [.regs, .icu, .nw, .pwr, .loops] ⊆ T) (hh : Kept T zz s) :
    Kept T zz (State.holdResume s) := by
  unfold State.holdResume
  try lift_lets
  repeat' first
    | with_reducible assumption | exact keptSub (by decide) hT
    | (intro s; refine (fun hk : Kept T zz s => ?_) ?_; clear_value s; rotate_left; subst s) | (intro v; try clear_value v)
    | with_reducible apply State.putFlag_kept | with_reducible apply State.put_kept
    | with_reducible apply State.boostPass_kept | with_reducible apply State.setLoop_kept
    | with_reducible apply State.boostGroup_kept | with_reducible apply Kept.ite | split | lift_lets

theorem State.stallClear_kept {T : List Comp} {zz s : State} (hT : [.regs, .icu, .nw, .pwr] ⊆ T) (hh : Kept T zz s) : Kept T
    zz (State.stallClear s) := by
  unfold State.stallClear
  repeat' first
    | with_reducible assumption | exact keptSub (by decide) hT | with_reducible apply State.deadlineGroup_kept
    | with_reducible apply State.putFlag_kept | with_reducible apply Kept.ite

theorem State.lateResult_kept {T : List Comp} {zz s : State} (hT : [.regs, .obs, .rule, .res, .loops, .ptp] ⊆ T) (k i : Nat)
    (hh : Kept T zz s) : Kept T zz (State.lateResult s k i) := by
  unfold State.lateResult
  try lift_lets
  repeat' first
    | with_reducible assumption | exact keptSub (by decide) hT
    | (intro s; refine (fun hk : Kept T zz s => ?_) ?_; clear_value s; rotate_left; subst s) | (intro v; try clear_value v)
    | with_reducible apply State.setLoop_kept | with_reducible apply State.ruleWalked_kept | with_reducible apply Kept.ite
    | fail_if_no_progress (with_reducible refine Kept.upd_rule ?_ (has (by decide) hT))
    | fail_if_no_progress (with_reducible refine Kept.upd_res ?_ (has (by decide) hT))
    | fail_if_no_progress (with_reducible refine Kept.upd_ptp ?_ (has (by decide) hT)) | split | lift_lets

theorem State.setpointArrival_kept {T : List Comp} {zz s : State} (hT : [.regs, .chans, .mtx, .link] ⊆ T) (hh : Kept T zz s)
    : Kept T zz (State.setpointArrival s) := by
  unfold State.setpointArrival
  repeat' first
    | with_reducible assumption | exact keptSub (by decide) hT | with_reducible apply State.arrive_kept
    | with_reducible apply State.linkDone_kept | with_reducible apply Kept.ite
    | with_reducible (apply Kept.fold; intro _ _ _) | split

theorem State.sfcEval_kept {T : List Comp} {zz s : State} (hT : [.rule, .res] ⊆ T) (hh : Kept T zz s) : Kept T zz
    (State.sfcEval s) := by
  unfold State.sfcEval
  try lift_lets
  repeat' first
    | with_reducible assumption | exact keptSub (by decide) hT | (intro v; try clear_value v) | with_reducible apply Kept.ite
    | fail_if_no_progress (with_reducible refine Kept.upd_rule ?_ (has (by decide) hT))
    | fail_if_no_progress (with_reducible refine Kept.upd_res ?_ (has (by decide) hT))
    | fail_if_no_progress (refine Kept.updM (T := T) ?_ ?_ rfl rfl rfl rfl rfl; rotate_left; (intro c hc; cases c <;> first | exact rfl | exact absurd (has (by decide) hT) hc))

theorem State.hazardMismatch_kept {T : List Comp} {zz s : State} (hT : [.regs, .icu, .evt, .nw, .pwr] ⊆ T) (n entry check
    first : Nat) (hh : Kept T zz s) : Kept T zz (State.hazardMismatch s n entry check first) := by
  unfold State.hazardMismatch
  try lift_lets
  repeat' first
    | with_reducible assumption | exact keptSub (by decide) hT
    | (intro s; refine (fun hk : Kept T zz s => ?_) ?_; clear_value s; rotate_left; subst s)
    | with_reducible apply State.logEv_kept | with_reducible apply State.bump_kept | with_reducible apply State.raise_kept
    | with_reducible apply State.fltSet_kept

theorem State.xDemand_kept {T : List Comp} {zz s : State} (hT : [.regs, .pins, .icu, .evt, .nw, .mem, .cap, .life, .pwr,
    .obs, .chans, .banks, .boost, .res, .mtx, .spi, .adc, .sto, .mbx, .bist, .fspi] ⊆ T) (n : Nat) (e : RuleEntry) (hh : Kept
    T zz s) : Kept T zz (State.xDemand s n e) := by
  unfold State.xDemand
  try lift_lets
  repeat' first
    | with_reducible assumption | exact keptSub (by decide) hT
    | (intro s; refine (fun hk : Kept T zz s => ?_) ?_; clear_value s; rotate_left; subst s) | (intro v; try clear_value v)
    | with_reducible apply State.hazardMismatch_kept | with_reducible apply State.midnightEnter_kept
    | with_reducible apply State.setAsp_kept | with_reducible apply Kept.ite | split

theorem State.xLight_kept {T : List Comp} {zz s : State} (hT : [.regs, .pins, .icu, .evt, .nw, .mem, .cap, .life, .pwr, .obs,
    .chans, .banks, .boost, .res, .mtx, .spi, .adc, .sto, .mbx, .bist, .fspi] ⊆ T) (n : Nat) (e : RuleEntry) (hh : Kept T zz
    s) : Kept T zz (State.xLight s n e) := by
  unfold State.xLight
  try lift_lets
  repeat' first
    | with_reducible assumption | exact keptSub (by decide) hT
    | (intro s; refine (fun hk : Kept T zz s => ?_) ?_; clear_value s; rotate_left; subst s) | (intro v; try clear_value v)
    | with_reducible apply State.hazardMismatch_kept | with_reducible apply State.midnightEnter_kept
    | with_reducible apply State.setAsp_kept | with_reducible apply Kept.ite | split

theorem State.xAspect_kept {T : List Comp} {zz s : State} (hT : [.regs, .pins, .icu, .evt, .nw, .mem, .cap, .life, .pwr,
    .obs, .chans, .banks, .boost, .res, .mtx, .spi, .adc, .sto, .mbx, .bist, .fspi] ⊆ T) (gs : List (List RuleEntry × Option
    RuleEntry)) (n : Nat) (hh : Kept T zz s) : Kept T zz (State.xAspect gs s n) := by
  unfold State.xAspect
  try lift_lets
  repeat' first
    | with_reducible assumption | exact keptSub (by decide) hT
    | (intro s; refine (fun hk : Kept T zz s => ?_) ?_; clear_value s; rotate_left; subst s) | (intro v; try clear_value v)
    | with_reducible apply State.xDemand_kept | with_reducible apply State.xLight_kept
    | with_reducible apply State.setAsp_kept | with_reducible apply Kept.ite | split

theorem State.xShow_kept {T : List Comp} {zz s : State} (hT : [.regs, .icu, .nw, .pwr] ⊆ T) (hh : Kept T zz s) : Kept T zz
    (State.xShow s) := by
  unfold State.xShow
  try lift_lets
  repeat' first
    | with_reducible assumption | exact keptSub (by decide) hT
    | (intro s; refine (fun hk : Kept T zz s => ?_) ?_; clear_value s; rotate_left; subst s) | (intro v; try clear_value v)
    | with_reducible apply State.fltFollow_kept | with_reducible apply State.putFlag_kept
    | with_reducible apply State.put_kept

theorem State.xBreak_kept {T : List Comp} {zz s : State} (hT : [.res] ⊆ T) (gs : List (List RuleEntry × Option RuleEntry))
    (hh : Kept T zz s) : Kept T zz (State.xBreak gs s) := by
  unfold State.xBreak
  try lift_lets
  repeat' first
    | with_reducible assumption | exact keptSub (by decide) hT
    | (intro s; refine (fun hk : Kept T zz s => ?_) ?_; clear_value s; rotate_left; subst s) | (intro v; try clear_value v)
    | with_reducible apply State.setAsp_kept | with_reducible apply Kept.ite
    | with_reducible (apply Kept.fold; intro _ _ _) | split | lift_lets

theorem State.xCheck_kept {T : List Comp} {zz s : State} (hT : [.regs, .pins, .icu, .evt, .nw, .mem, .cap, .life, .pwr, .obs,
    .rule, .chans, .banks, .boost, .res, .mtx, .spi, .adc, .sto, .mbx, .bist, .fspi] ⊆ T) (finished : Bool) (hh : Kept T zz
    s) : Kept T zz (State.xCheck s finished) := by
  unfold State.xCheck
  try lift_lets
  repeat' first
    | with_reducible assumption | exact keptSub (by decide) hT
    | (intro s; refine (fun hk : Kept T zz s => ?_) ?_; clear_value s; rotate_left; subst s) | (intro v; try clear_value v)
    | with_reducible apply State.sfcEval_kept | with_reducible apply State.putFlag_kept
    | with_reducible apply State.xBreak_kept | with_reducible apply State.xShow_kept
    | with_reducible apply State.xAspect_kept | with_reducible apply State.logEv_kept
    | with_reducible apply State.fltSet_kept | with_reducible apply Kept.ite
    | with_reducible (apply Kept.fold; intro _ _ _)
    | fail_if_no_progress (with_reducible refine Kept.upd_res ?_ (has (by decide) hT)) | split | lift_lets

end Sys2Proof.Machine
end

