-- ==== Sys2Proof/Laws/FramesNet.lean ====
section
/-! SUPPORT. What each operation may write, one lemma per operation: ring, network time, deadlines, interrupts, security, mailbox. -/

-- Proofs elaborated beside each other need more threads than the package's memory limit allows.
set_option Elab.async false
-- One proof script serves many operations, so a step or a name of it may have no use in some.
set_option linter.unusedVariables false
set_option linter.unusedTactic false
set_option linter.unreachableTactic false

namespace Sys2Proof.Machine

theorem State.serviceEnds_kept {T : List Comp} {zz s : State} (hT : [.icu] ⊆ T) (t : Nat) (hh : Kept T zz s) : Kept T zz
    (State.serviceEnds s t) := by
  unfold State.serviceEnds
  try lift_lets
  repeat' first
    | with_reducible assumption | exact keptSub (by decide) hT
    | (intro s; refine (fun hk : Kept T zz s => ?_) ?_; clear_value s; rotate_left; subst s) | (intro v; try clear_value v)
    | with_reducible apply Kept.ite | fail_if_no_progress (with_reducible refine Kept.upd_icu ?_ (has (by decide) hT))
    | split | lift_lets

theorem State.hostDone_kept {T : List Comp} {zz s : State} (hT : [.pins, .icu] ⊆ T) (hh : Kept T zz s) : Kept T zz
    (State.hostDone s) := by
  unfold State.hostDone
  try lift_lets
  repeat' first
    | with_reducible assumption | exact keptSub (by decide) hT
    | (intro s; refine (fun hk : Kept T zz s => ?_) ?_; clear_value s; rotate_left; subst s) | (intro v; try clear_value v)
    | with_reducible apply State.serviceEnds_kept | with_reducible apply Kept.ite
    | fail_if_no_progress (with_reducible refine Kept.upd_pins ?_ (has (by decide) hT))
    | fail_if_no_progress (with_reducible refine Kept.upd_icu ?_ (has (by decide) hT))
    | fail_if_no_progress (refine Kept.updM (T := T) ?_ ?_ rfl rfl rfl rfl rfl; rotate_left; (intro c hc; cases c <;> first | exact rfl | exact absurd (has (by decide) hT) hc))
    | split | lift_lets

theorem State.pendWrite_kept {T : List Comp} {zz s : State} (hT : [.regs, .icu, .nw, .pwr] ⊆ T) (t w : Nat) (x : Word) (hh :
    Kept T zz s) : Kept T zz (State.pendWrite s t w x) := by
  unfold State.pendWrite
  try lift_lets
  repeat' first
    | with_reducible assumption | exact keptSub (by decide) hT
    | (intro s; refine (fun hk : Kept T zz s => ?_) ?_; clear_value s; rotate_left; subst s) | (intro v; try clear_value v)
    | with_reducible apply State.pendSet_kept | with_reducible apply State.refreshIcu_kept
    | with_reducible apply State.nwWake_kept | with_reducible apply Kept.ite | with_reducible (apply Kept.fold; intro _ _ _)

theorem State.pendClear_kept {T : List Comp} {zz s : State} (hT : [.pins, .icu] ⊆ T) (t w : Nat) (x : Word) (hh : Kept T zz
    s) : Kept T zz (State.pendClear s t w x) := by
  unfold State.pendClear
  repeat' first
    | with_reducible assumption | exact keptSub (by decide) hT | with_reducible apply State.hostDone_kept
    | with_reducible apply State.refreshIcu_kept | with_reducible apply State.pendClr_kept

theorem State.maskWrite_kept {T : List Comp} {zz s : State} (hT : [.icu] ⊆ T) (t w : Nat) (x : Word) (on : Bool) (hh : Kept T
    zz s) : Kept T zz (State.maskWrite s t w x on) := by
  unfold State.maskWrite
  try lift_lets
  repeat' first
    | with_reducible assumption | exact keptSub (by decide) hT | (intro v; try clear_value v)
    | with_reducible apply State.refreshIcu_kept | with_reducible apply Kept.ite
    | fail_if_no_progress (with_reducible refine Kept.upd_icu ?_ (has (by decide) hT))

theorem State.acknowledge_kept {T : List Comp} {zz s : State} (hT : [.pins, .icu] ⊆ T) (t : Nat) (hh : Kept T zz s) : Kept T
    zz (State.acknowledge s t) := by
  unfold State.acknowledge
  try lift_lets
  repeat' first
    | with_reducible assumption | exact keptSub (by decide) hT
    | (intro s; refine (fun hk : Kept T zz s => ?_) ?_; clear_value s; rotate_left; subst s) | (intro v; try clear_value v)
    | with_reducible apply State.refreshIcu_kept | with_reducible apply Kept.ite
    | with_reducible (apply Kept.fold; intro _ _ _)
    | fail_if_no_progress (with_reducible refine Kept.upd_pins ?_ (has (by decide) hT))
    | fail_if_no_progress (with_reducible refine Kept.upd_icu ?_ (has (by decide) hT))
    | fail_if_no_progress (refine Kept.updM (T := T) ?_ ?_ rfl rfl rfl rfl rfl; rotate_left; (intro c hc; cases c <;> first | exact rfl | exact absurd (has (by decide) hT) hc))
    | split | lift_lets

theorem State.windowEnds_kept {T : List Comp} {zz s : State} (hT : [.icu] ⊆ T) (t : Nat) (hh : Kept T zz s) : Kept T zz
    (State.windowEnds s t) := by
  unfold State.windowEnds
  repeat' first
    | with_reducible assumption | exact keptSub (by decide) hT | with_reducible apply State.refreshIcu_kept
    | with_reducible apply Kept.ite | fail_if_no_progress (with_reducible refine Kept.upd_icu ?_ (has (by decide) hT))

theorem State.coreWaits_kept {T : List Comp} {zz s : State} (hT : [.icu] ⊆ T) (t : Nat) (hh : Kept T zz s) : Kept T zz
    (State.coreWaits s t) := by
  unfold State.coreWaits
  repeat' first
    | with_reducible assumption | exact keptSub (by decide) hT | with_reducible apply State.windowEnds_kept
    | with_reducible apply Kept.ite | fail_if_no_progress (with_reducible refine Kept.upd_icu ?_ (has (by decide) hT))
    | split

theorem State.eoi_kept {T : List Comp} {zz s : State} (hT : [.icu] ⊆ T) (t : Nat) (wait : Bool) (hh : Kept T zz s) : Kept T
    zz (State.eoi s t wait) := by
  unfold State.eoi
  try lift_lets
  repeat' first
    | with_reducible assumption | exact keptSub (by decide) hT
    | (intro s; refine (fun hk : Kept T zz s => ?_) ?_; clear_value s; rotate_left; subst s) | (intro v; try clear_value v)
    | with_reducible apply State.serviceEnds_kept | with_reducible apply State.refreshIcu_kept
    | with_reducible apply State.coreWaits_kept | with_reducible apply Kept.ite | split | lift_lets

theorem State.sleepLevel_kept {T : List Comp} {zz s : State} (hT : [.pins, .icu] ⊆ T) (high : Bool) (hh : Kept T zz s) : Kept
    T zz (State.sleepLevel s high) := by
  unfold State.sleepLevel
  try lift_lets
  repeat' first
    | with_reducible assumption | exact keptSub (by decide) hT
    | (intro s; refine (fun hk : Kept T zz s => ?_) ?_; clear_value s; rotate_left; subst s) | (intro v; try clear_value v)
    | with_reducible apply State.windowEnds_kept | with_reducible apply State.refreshIcu_kept
    | with_reducible apply Kept.ite | fail_if_no_progress (with_reducible refine Kept.upd_pins ?_ (has (by decide) hT))
    | split | lift_lets

theorem State.eccCorrected_kept {T : List Comp} {zz s : State} (hT : [.icu] ⊆ T) (t : Nat) (hh : Kept T zz s) : Kept T zz
    (State.eccCorrected s t) := by
  unfold State.eccCorrected
  repeat' first
    | with_reducible assumption | exact keptSub (by decide) hT | with_reducible apply Kept.ite
    | fail_if_no_progress (with_reducible refine Kept.upd_icu ?_ (has (by decide) hT)) | split

theorem State.sourceEdge_kept {T : List Comp} {zz s : State} (hT : [.regs, .icu, .nw, .pwr] ⊆ T) (t n : Nat) (hh : Kept T zz
    s) : Kept T zz (State.sourceEdge s t n) := by
  unfold State.sourceEdge
  try lift_lets
  repeat' first
    | with_reducible assumption | exact keptSub (by decide) hT
    | (intro s; refine (fun hk : Kept T zz s => ?_) ?_; clear_value s; rotate_left; subst s) | (intro v; try clear_value v)
    | with_reducible apply State.eccCorrected_kept | with_reducible apply State.raise_kept
    | with_reducible apply State.pendSet_kept | with_reducible apply State.refreshIcu_kept | with_reducible apply Kept.ite
    | split | lift_lets

theorem State.nwstatRead_kept {T : List Comp} {zz s : State} (hT : [.regs] ⊆ T) (hh : Kept T zz s) : Kept T zz
    (State.nwstatRead s) := by
  unfold State.nwstatRead
  repeat' first
    | with_reducible assumption | exact keptSub (by decide) hT | with_reducible apply State.putFlag_kept

theorem State.icuClear_kept {T : List Comp} {zz s : State} (hT : [.icu] ⊆ T) (hh : Kept T zz s) : Kept T zz (State.icuClear
    s) := by
  unfold State.icuClear
  repeat' first
    | with_reducible assumption | exact keptSub (by decide) hT | with_reducible apply Kept.ite
    | fail_if_no_progress (with_reducible refine Kept.upd_icu ?_ (has (by decide) hT)) | split

theorem State.setSec_kept {T : List Comp} {zz s : State} (hT : [.sec] ⊆ T) (x : Sec) (hf : s.sec.fieldLock = true →
    x.fieldLock = true)
    (he : s.sec.scannedEver = true → x.scannedEver = true) (hc : s.sec.ctr ≤ x.ctr) (hh : Kept T zz s) : Kept T zz (s.setSec x) :=
  hh.upd_sec x (has (by decide) hT) hf he hc

theorem State.touch_kept {T : List Comp} {zz s : State} (hT : [.sec] ⊆ T) (c : Nat) (hh : Kept T zz s) : Kept T zz
    (State.touch s c) := by
  unfold State.touch
  repeat' first
    | with_reducible assumption | exact keptSub (by decide) hT | with_reducible exact fun h => h
    | with_reducible exact fun _ => rfl | with_reducible exact Nat.le_refl _ | with_reducible apply State.setSec_kept
    | with_reducible apply Kept.ite

theorem State.elevate_kept {T : List Comp} {zz s : State} (hT : [.sec] ⊆ T) (c : Nat) (hh : Kept T zz s) : Kept T zz
    (State.elevate s c) := by
  unfold State.elevate
  repeat' first
    | with_reducible assumption | exact keptSub (by decide) hT | with_reducible exact fun h => h
    | with_reducible exact fun _ => rfl | with_reducible exact Nat.le_refl _ | with_reducible apply State.setSec_kept
    | with_reducible apply State.touch_kept

theorem State.endElev_kept {T : List Comp} {zz s : State} (hT : [.sec] ⊆ T) (c : Nat) (hh : Kept T zz s) : Kept T zz
    (State.endElev s c) := by
  unfold State.endElev
  repeat' first
    | with_reducible assumption | exact keptSub (by decide) hT | with_reducible exact fun h => h
    | with_reducible exact fun _ => rfl | with_reducible exact Nat.le_refl _ | with_reducible apply State.setSec_kept

theorem State.endAllElev_kept {T : List Comp} {zz s : State} (hT : [.sec] ⊆ T) (hh : Kept T zz s) : Kept T zz
    (State.endAllElev s) := by
  unfold State.endAllElev
  repeat' first
    | with_reducible assumption | exact keptSub (by decide) hT | with_reducible exact fun h => h
    | with_reducible exact fun _ => rfl | with_reducible exact Nat.le_refl _ | with_reducible apply State.setSec_kept

theorem State.dropNonce_kept {T : List Comp} {zz s : State} (hT : [.sec] ⊆ T) (c : Nat) (hh : Kept T zz s) : Kept T zz
    (State.dropNonce s c) := by
  unfold State.dropNonce
  repeat' first
    | with_reducible assumption | exact keptSub (by decide) hT | with_reducible exact fun h => h
    | with_reducible exact fun _ => rfl | with_reducible exact Nat.le_refl _ | exact fun h => h | exact Nat.le_refl _
    | with_reducible apply State.setSec_kept | with_reducible apply Kept.ite | split

theorem State.freeBytes_kept {T : List Comp} {zz s : State} (hT : [.free] ⊆ T) (n : Nat) (hh : Kept T zz s) : Kept2 T zz
    (s.freeBytes n) := by
  induction n generalizing s with
  | zero => exact hh
  | succ n ih => exact ih (State.fresh_kept (keptSub (by decide) hT) hh)

theorem State.challenge_kept {T : List Comp} {zz s : State} (hT : [.free, .sec] ⊆ T) (c purpose : Nat) (hh : Kept T zz s) :
    Kept2 T zz (State.challenge s c purpose) := by
  unfold State.challenge
  try lift_lets
  repeat' first
    | with_reducible assumption | exact keptSub (by decide) hT
    | (intro s; refine (fun hk : Kept T zz s => ?_) ?_; clear_value s; rotate_left; subst s)
    | with_reducible exact fun h => h | with_reducible exact fun _ => rfl | with_reducible exact Nat.le_refl _
    | exact fun h => h | exact Nat.le_refl _ | (intro (v : Sec); subst v) | (intro v; try clear_value v)
    | with_reducible apply State.freeBytes_kept | with_reducible (apply Kept.snd; apply State.freeBytes_kept)
    | with_reducible (refine Kept.eq2 (by assumption) ?_; apply State.freeBytes_kept)
    | with_reducible apply State.setSec_kept | with_reducible apply Kept.ite | with_reducible apply Kept2.ite
    | with_reducible apply Kept2.mk | split | lift_lets

theorem State.credFail_kept {T : List Comp} {zz s : State} (hT : [.regs, .evt, .sec, .fspi] ⊆ T) (c method : Nat) (hh : Kept
    T zz s) : Kept T zz (State.credFail s c method) := by
  unfold State.credFail
  try lift_lets
  repeat' first
    | with_reducible assumption | exact keptSub (by decide) hT
    | (intro s; refine (fun hk : Kept T zz s => ?_) ?_; clear_value s; rotate_left; subst s)
    | with_reducible exact fun h => h | with_reducible exact fun _ => rfl | with_reducible exact Nat.le_refl _
    | exact fun h => h | exact Nat.le_refl _ | (intro (v : Sec); subst v) | (intro v; try clear_value v)
    | with_reducible apply State.setSec_kept | with_reducible apply State.flash_kept
    | with_reducible apply State.logFw_kept | with_reducible apply Kept.ite | split | lift_lets

theorem State.credGood_kept {T : List Comp} {zz s : State} (hT : [.sec, .fspi] ⊆ T) (hh : Kept T zz s) : Kept T zz
    (State.credGood s) := by
  unfold State.credGood
  repeat' first
    | with_reducible assumption | exact keptSub (by decide) hT | with_reducible exact fun h => h
    | with_reducible exact fun _ => rfl | with_reducible exact Nat.le_refl _ | exact fun h => h | exact Nat.le_refl _
    | with_reducible apply State.setSec_kept | with_reducible apply State.flash_kept | with_reducible apply Kept.ite
    | split

theorem State.pwCheck_kept {T : List Comp} {zz s : State} (hT : [.regs, .evt, .sec, .fspi] ⊆ T) (c : Nat) (bs : List Byte)
    (hh : Kept T zz s) : Kept1 T zz (State.pwCheck s c bs) := by
  unfold State.pwCheck
  repeat' first
    | with_reducible assumption | exact keptSub (by decide) hT | with_reducible apply State.credFail_kept
    | with_reducible apply State.credGood_kept | with_reducible apply State.elevate_kept | with_reducible apply Kept.ite
    | with_reducible apply Kept1.ite | with_reducible apply Kept1.mk

theorem State.debugOpen_kept {T : List Comp} {zz s : State} (hT : [.regs, .evt, .sec] ⊆ T) (c : Nat) (hh : Kept T zz s) :
    Kept T zz (State.debugOpen s c) := by
  unfold State.debugOpen
  repeat' first
    | with_reducible assumption | exact keptSub (by decide) hT | with_reducible exact fun h => h
    | with_reducible exact fun _ => rfl | with_reducible exact Nat.le_refl _ | with_reducible apply State.setSec_kept
    | with_reducible apply State.logFw_kept

theorem State.respCheck_kept {T : List Comp} {zz s : State} (hT : [.regs, .evt, .sec, .fspi] ⊆ T) (c purpose : Nat) (resp :
    List Byte) (hh : Kept T zz s) : Kept1 T zz (State.respCheck s c purpose resp) := by
  unfold State.respCheck
  try lift_lets
  repeat' first
    | with_reducible assumption | exact keptSub (by decide) hT
    | (intro s; refine (fun hk : Kept T zz s => ?_) ?_; clear_value s; rotate_left; subst s) | (intro v; try clear_value v)
    | with_reducible apply State.dropNonce_kept | with_reducible apply State.credGood_kept
    | with_reducible apply State.elevate_kept | with_reducible apply State.debugOpen_kept
    | with_reducible apply State.touch_kept | with_reducible apply State.credFail_kept | with_reducible apply Kept.ite
    | with_reducible apply Kept1.ite | with_reducible apply Kept1.mk | split | lift_lets

theorem State.elevTimeout_kept {T : List Comp} {zz s : State} (hT : [.sec] ⊆ T) (c : Nat) (hh : Kept T zz s) : Kept T zz
    (State.elevTimeout s c) := by
  unfold State.elevTimeout
  repeat' first
    | with_reducible assumption | exact keptSub (by decide) hT | with_reducible apply State.endElev_kept
    | with_reducible apply Kept.ite

theorem State.pwSet_kept {T : List Comp} {zz s : State} (hT : [.sec] ⊆ T) (i x : Nat) (hh : Kept T zz s) : Kept T zz (s.pwSet
    i x) := by
  unfold State.pwSet
  by_cases h : i = 0
  · rw [if_pos h]
    exact State.setSec_kept (keptSub (by decide) hT) _ id id (Nat.le_refl _) hh
  · rw [if_neg h]
    exact State.setSec_kept (keptSub (by decide) hT) _ id id (Nat.le_refl _) hh

theorem State.pwCmd_kept {T : List Comp} {zz s : State} (hT : [.regs, .evt, .sec, .fspi] ⊆ T) (c key : Nat) (hh : Kept T zz
    s) : Kept T zz (State.pwCmd s c key) := by
  unfold State.pwCmd
  try lift_lets
  repeat' first
    | with_reducible assumption | exact keptSub (by decide) hT
    | (intro s; refine (fun hk : Kept T zz s => ?_) ?_; clear_value s; rotate_left; subst s)
    | with_reducible exact fun h => h | with_reducible exact fun _ => rfl | with_reducible exact Nat.le_refl _
    | exact fun h => h | exact Nat.le_refl _ | (intro (v : Sec); subst v) | (intro v; try clear_value v)
    | with_reducible apply State.setSec_kept | with_reducible apply State.flash_kept
    | with_reducible apply State.logFw_kept | with_reducible apply Kept.ite | split | lift_lets

theorem State.lockRestart_kept {T : List Comp} {zz s : State} (hT : [.sec] ⊆ T) (hh : Kept T zz s) : Kept T zz
    (State.lockRestart s) := by
  unfold State.lockRestart
  try lift_lets
  repeat' first
    | with_reducible assumption | exact keptSub (by decide) hT
    | (intro s; refine (fun hk : Kept T zz s => ?_) ?_; clear_value s; rotate_left; subst s)
    | with_reducible exact fun h => h | with_reducible exact fun _ => rfl | with_reducible exact Nat.le_refl _
    | exact fun h => h | exact Nat.le_refl _ | (intro (v : Sec); subst v) | (intro v; try clear_value v)
    | with_reducible apply State.setSec_kept | with_reducible apply Kept.ite | split | lift_lets

theorem State.fwLoad_kept {T : List Comp} {zz s : State} (hT : [.sec] ⊆ T) (b : List Byte) (hh : Kept T zz s) : Kept T zz
    (State.fwLoad s b) := by
  unfold State.fwLoad
  try lift_lets
  repeat' first
    | with_reducible assumption | exact keptSub (by decide) hT
    | (intro s; refine (fun hk : Kept T zz s => ?_) ?_; clear_value s; rotate_left; subst s)
    | with_reducible exact fun h => h | with_reducible exact fun _ => rfl | with_reducible exact Nat.le_refl _
    | exact fun h => h | exact Nat.le_refl _ | (intro (v : Sec); subst v) | (intro v; try clear_value v)
    | with_reducible apply State.setSec_kept | with_reducible apply Kept.ite | split | lift_lets

theorem State.setFwSlot_kept {T : List Comp} {zz s : State} (hT : [.sec] ⊆ T) (i : Nat) (x : FwSlot) (hh : Kept T zz s) :
    Kept T zz (State.setFwSlot s i x) := by
  unfold State.setFwSlot
  repeat' first
    | with_reducible assumption | exact keptSub (by decide) hT | with_reducible exact fun h => h
    | with_reducible exact fun _ => rfl | with_reducible exact Nat.le_refl _ | with_reducible apply State.setSec_kept

theorem State.fwRevoke_kept {T : List Comp} {zz s : State} (hT : [.regs, .evt, .sec] ⊆ T) (i : Nat) (hh : Kept T zz s) : Kept
    T zz (State.fwRevoke s i) := by
  unfold State.fwRevoke
  try lift_lets
  repeat' first
    | with_reducible assumption | exact keptSub (by decide) hT | (intro v; try clear_value v)
    | with_reducible apply State.setFwSlot_kept | with_reducible apply State.logFw_kept | with_reducible apply Kept.ite

theorem State.rollback_kept {T : List Comp} {zz s : State} (hT : [.regs, .evt, .sec] ⊆ T) (key : Nat) (hh : Kept T zz s) :
    Kept T zz (State.rollback s key) := by
  unfold State.rollback
  dsimp only
  split
  · rename_i h
    exact State.fwRevoke_kept (keptSub (by decide) hT) _ (State.fwRevoke_kept (keptSub (by decide) hT) _ (State.setSec_kept (keptSub (by decide) hT) _ id id (Nat.le_of_lt h.2) hh))
  · exact hh

theorem State.fieldLockSet_kept {T : List Comp} {zz s : State} (hT : [.regs, .evt, .sec] ⊆ T) (c key : Nat) (hh : Kept T zz
    s) : Kept T zz (State.fieldLockSet s c key) := by
  unfold State.fieldLockSet
  repeat' first
    | with_reducible assumption | exact keptSub (by decide) hT | with_reducible exact fun h => h
    | with_reducible exact fun _ => rfl | with_reducible exact Nat.le_refl _ | with_reducible apply State.setSec_kept
    | with_reducible apply State.logFw_kept | with_reducible apply Kept.ite

theorem State.setRing_kept {T : List Comp} {zz s : State} (hT : [.ring] ⊆ T) (r : Ring) (hh : Kept T zz s) : Kept T zz
    (State.setRing s r) := by
  unfold State.setRing
  repeat' first
    | with_reducible assumption | exact keptSub (by decide) hT | with_reducible apply Kept.ite
    | fail_if_no_progress (with_reducible refine Kept.upd_ring ?_ (has (by decide) hT))

theorem State.setPort_kept {T : List Comp} {zz s : State} (hT : [.ring] ⊆ T) (p : Nat) (x : RingPort) (hh : Kept T zz s) :
    Kept T zz (State.setPort s p x) := by
  unfold State.setPort
  repeat' first
    | with_reducible assumption | exact keptSub (by decide) hT | with_reducible apply State.setRing_kept

theorem State.setEgress_kept {T : List Comp} {zz s : State} (hT : [.ring] ⊆ T) (p : Nat) (e : Egress) (hh : Kept T zz s) :
    Kept T zz (State.setEgress s p e) := by
  unfold State.setEgress
  repeat' first
    | with_reducible assumption | exact keptSub (by decide) hT | with_reducible apply State.setPort_kept

theorem State.setLaunch_kept {T : List Comp} {zz s : State} (hT : [.ring] ⊆ T) (d : Nat) (l : Launch) (hh : Kept T zz s) :
    Kept T zz (State.setLaunch s d l) := by
  unfold State.setLaunch
  repeat' first
    | with_reducible assumption | exact keptSub (by decide) hT | with_reducible apply State.setRing_kept

theorem State.ringCnt_kept {T : List Comp} {zz s : State} (hT : [.regs] ⊆ T) (p k : Nat) (hh : Kept T zz s) : Kept T zz
    (State.ringCnt s p k) := by
  unfold State.ringCnt
  repeat' first
    | with_reducible assumption | exact keptSub (by decide) hT | with_reducible apply State.bump_kept

theorem State.tcLeave_kept {T : List Comp} {zz s : State} (hT : [.regs, .ptp] ⊆ T) (f : Frame) (out : Nat) (hh : Kept T zz s)
    : Kept1 T zz (State.tcLeave s f out) := by
  unfold State.tcLeave
  try lift_lets
  repeat' first
    | with_reducible assumption | exact keptSub (by decide) hT | (intro v; try clear_value v)
    | with_reducible apply State.bump_kept | with_reducible apply Kept.ite | with_reducible apply Kept1.ite
    | with_reducible apply Kept1.mk | fail_if_no_progress (with_reducible refine Kept.upd_ptp ?_ (has (by decide) hT))
    | split

theorem State.pdLeave_kept {T : List Comp} {zz s : State} (hT : [.ring, .ptp] ⊆ T) (f : Frame) (out : Nat) (hh : Kept T zz s)
    : Kept1 T zz (State.pdLeave s f out) := by
  unfold State.pdLeave
  try lift_lets
  repeat' first
    | with_reducible assumption | exact keptSub (by decide) hT
    | (intro s; refine (fun hk : Kept T zz s => ?_) ?_; clear_value s; rotate_left; subst s) | (intro v; try clear_value v)
    | with_reducible apply State.setEgress_kept | with_reducible apply Kept.ite | with_reducible apply Kept1.ite
    | with_reducible apply Kept1.mk | fail_if_no_progress (with_reducible refine Kept.upd_ptp ?_ (has (by decide) hT))
    | split | lift_lets

theorem State.ptpLeave_kept {T : List Comp} {zz s : State} (hT : [.regs, .ring, .ptp] ⊆ T) (f : Frame) (out : Nat) (hh : Kept
    T zz s) : Kept1 T zz (State.ptpLeave s f out) := by
  unfold State.ptpLeave
  repeat' first
    | with_reducible assumption | exact keptSub (by decide) hT | with_reducible apply State.tcLeave_kept
    | with_reducible apply State.pdLeave_kept | with_reducible apply Kept.ite | with_reducible apply Kept1.ite
    | with_reducible apply Kept1.mk

theorem State.startFrame_kept {T : List Comp} {zz s : State} (hT : [.regs, .ring, .ptp] ⊆ T) (p : Nat) (f : Frame) (hh : Kept
    T zz s) : Kept T zz (State.startFrame s p f) := by
  unfold State.startFrame
  try lift_lets
  repeat' first
    | with_reducible assumption | exact keptSub (by decide) hT | with_reducible apply State.ptpLeave_kept
    | with_reducible (apply Kept.fst; apply State.ptpLeave_kept) | with_reducible apply State.setEgress_kept

theorem State.refill_kept {T : List Comp} {zz s : State} (hT : [.ring] ⊆ T) (p : Nat) (hh : Kept T zz s) : Kept T zz
    (State.refill s p) := by
  unfold State.refill
  try lift_lets
  repeat' first
    | with_reducible assumption | exact keptSub (by decide) hT
    | (intro s; refine (fun hk : Kept T zz s => ?_) ?_; clear_value s; rotate_left; subst s) | (intro v; try clear_value v)
    | with_reducible apply State.setEgress_kept | with_reducible apply Kept.ite | split | lift_lets

theorem State.chooseLast_kept {T : List Comp} {zz s : State} (hT : [.regs, .ring, .ptp] ⊆ T) (p : Nat) (e : Egress) (loc :
    Bool → Option (Frame × List Frame)) (hh : Kept T zz s) : Kept T zz (State.chooseLast s p e loc) := by
  unfold State.chooseLast
  repeat' first
    | with_reducible assumption | exact keptSub (by decide) hT | with_reducible apply State.startFrame_kept
    | with_reducible apply State.refill_kept | with_reducible apply State.setEgress_kept | with_reducible apply Kept.ite
    | split

theorem State.chooseRest_kept {T : List Comp} {zz s : State} (hT : [.regs, .ring, .ptp] ⊆ T) (p : Nat) (e : Egress) (loc :
    Bool → Option (Frame × List Frame)) (hh : Kept T zz s) : Kept T zz (State.chooseRest s p e loc) := by
  unfold State.chooseRest
  repeat' first
    | with_reducible assumption | exact keptSub (by decide) hT | with_reducible apply State.startFrame_kept
    | with_reducible apply State.setEgress_kept | with_reducible apply State.chooseLast_kept
    | with_reducible apply State.refill_kept | with_reducible apply Kept.ite | split

theorem State.choose_kept {T : List Comp} {zz s : State} (hT : [.regs, .ring, .ptp] ⊆ T) (p : Nat) (hh : Kept T zz s) : Kept
    T zz (State.choose s p) := by
  unfold State.choose
  try lift_lets
  repeat' first
    | with_reducible assumption | exact keptSub (by decide) hT
    | (intro s; refine (fun hk : Kept T zz s => ?_) ?_; clear_value s; rotate_left; subst s) | (intro v; try clear_value v)
    | with_reducible apply State.setEgress_kept | with_reducible apply State.ringCnt_kept
    | with_reducible apply State.startFrame_kept | with_reducible apply State.refill_kept
    | with_reducible apply State.chooseRest_kept | with_reducible apply Kept.ite | split | lift_lets

theorem State.toPtp_kept {T : List Comp} {zz s : State} (hT : [.regs, .ring, .ptp] ⊆ T) (p : Nat) (f : Frame) (hh : Kept T zz
    s) : Kept T zz (State.toPtp s p f) := by
  unfold State.toPtp
  try lift_lets
  repeat' first
    | with_reducible assumption | exact keptSub (by decide) hT
    | (intro s; refine (fun hk : Kept T zz s => ?_) ?_; clear_value s; rotate_left; subst s) | (intro v; try clear_value v)
    | with_reducible apply State.setEgress_kept | with_reducible apply State.choose_kept
    | with_reducible apply State.ringCnt_kept | with_reducible apply Kept.ite | split | lift_lets

theorem State.toLocal_kept {T : List Comp} {zz s : State} (hT : [.regs, .ring, .ptp] ⊆ T) (p : Nat) (f : Frame) (hh : Kept T
    zz s) : Kept T zz (State.toLocal s p f) := by
  unfold State.toLocal
  try lift_lets
  repeat' first
    | with_reducible assumption | exact keptSub (by decide) hT
    | (intro s; refine (fun hk : Kept T zz s => ?_) ?_; clear_value s; rotate_left; subst s) | (intro v; try clear_value v)
    | with_reducible apply State.setEgress_kept | with_reducible apply State.choose_kept | with_reducible apply Kept.ite
    | split | lift_lets

theorem State.toTransit_kept {T : List Comp} {zz s : State} (hT : [.regs, .ring, .ptp] ⊆ T) (p : Nat) (f : Frame) (hh : Kept
    T zz s) : Kept T zz (State.toTransit s p f) := by
  unfold State.toTransit
  try lift_lets
  repeat' first
    | with_reducible assumption | exact keptSub (by decide) hT | (intro v; try clear_value v)
    | with_reducible apply State.choose_kept | with_reducible apply State.setEgress_kept
    | with_reducible apply State.ringCnt_kept | with_reducible apply Kept.ite

theorem State.purge_kept {T : List Comp} {zz s : State} (hT : [.regs, .ring] ⊆ T) (p : Nat) (hh : Kept T zz s) : Kept T zz
    (State.purge s p) := by
  unfold State.purge
  try lift_lets
  repeat' first
    | with_reducible assumption | exact keptSub (by decide) hT
    | (intro s; refine (fun hk : Kept T zz s => ?_) ?_; clear_value s; rotate_left; subst s) | (intro v; try clear_value v)
    | with_reducible apply State.ringCnt_kept | with_reducible apply State.setEgress_kept
    | with_reducible apply State.refill_kept | with_reducible apply Kept.ite
    | with_reducible (apply Kept.fold; intro _ _ _) | split | lift_lets

theorem State.txDone_kept {T : List Comp} {zz s : State} (hT : [.regs, .ring, .ptp] ⊆ T) (p : Nat) (hh : Kept T zz s) : Kept
    T zz (State.txDone s p) := by
  unfold State.txDone
  try lift_lets
  repeat' first
    | with_reducible assumption | exact keptSub (by decide) hT
    | (intro s; refine (fun hk : Kept T zz s => ?_) ?_; clear_value s; rotate_left; subst s) | (intro v; try clear_value v)
    | with_reducible apply State.ringCnt_kept | with_reducible apply State.choose_kept
    | with_reducible apply State.setEgress_kept | with_reducible apply Kept.ite | split

theorem State.forward_kept {T : List Comp} {zz s : State} (hT : [.regs, .ring, .ptp] ⊆ T) (p kind : Nat) (f : Frame) (hh :
    Kept T zz s) : Kept T zz (State.forward s p kind f) := by
  unfold State.forward
  try lift_lets
  repeat' first
    | with_reducible assumption | exact keptSub (by decide) hT | (intro v; try clear_value v)
    | with_reducible apply State.startFrame_kept | with_reducible apply State.toPtp_kept
    | with_reducible apply State.toTransit_kept | with_reducible apply State.ringCnt_kept | with_reducible apply Kept.ite

theorem State.forwardBad_kept {T : List Comp} {zz s : State} (hT : [.regs, .ring, .ptp] ⊆ T) (p kind : Nat) (body : List
    Byte) (stamp : Int) (hh : Kept T zz s) : Kept T zz (State.forwardBad s p kind body stamp) := by
  unfold State.forwardBad
  try lift_lets
  repeat' first
    | with_reducible assumption | exact keptSub (by decide) hT
    | (intro s; refine (fun hk : Kept T zz s => ?_) ?_; clear_value s; rotate_left; subst s) | (intro v; try clear_value v)
    | with_reducible apply State.startFrame_kept | with_reducible apply Kept.ite | split | lift_lets

theorem State.copyTo_kept {T : List Comp} {zz s : State} (hT : [.ring] ⊆ T) (kind p type : Nat) (stamp : Int) (dom : Nat) (hh
    : Kept T zz s) : Kept T zz (State.copyTo s kind p type stamp dom) := by
  unfold State.copyTo
  repeat' first
    | with_reducible assumption | exact keptSub (by decide) hT | with_reducible apply State.setRing_kept
    | with_reducible apply Kept.ite | split

theorem State.copyPtp_kept {T : List Comp} {zz s : State} (hT : [.ring] ⊆ T) (kind p : Nat) (m : List Byte) (stamp : Int) (hh
    : Kept T zz s) : Kept T zz (State.copyPtp s kind p m stamp) := by
  unfold State.copyPtp
  try lift_lets
  repeat' first
    | with_reducible assumption | exact keptSub (by decide) hT
    | (intro s; refine (fun hk : Kept T zz s => ?_) ?_; clear_value s; rotate_left; subst s) | (intro v; try clear_value v)
    | with_reducible apply State.copyTo_kept | with_reducible apply Kept.ite | split | lift_lets

theorem State.copyTaken_kept {T : List Comp} {zz s : State} (hT : [.ring] ⊆ T) (kind p type : Nat) (hh : Kept T zz s) : Kept
    T zz (State.copyTaken s kind p type) := by
  unfold State.copyTaken
  repeat' first
    | with_reducible assumption | exact keptSub (by decide) hT | with_reducible apply State.setRing_kept
    | with_reducible apply Kept.ite | split

theorem State.receiveGood_kept {T : List Comp} {zz s : State} (hT : [.regs, .ring, .ptp] ⊆ T) (p : Nat) (f : List Byte)
    (stamp : Int) (hh : Kept T zz s) : Kept T zz (State.receiveGood s p f stamp) := by
  unfold State.receiveGood
  try lift_lets
  repeat' first
    | with_reducible assumption | exact keptSub (by decide) hT
    | (intro s; refine (fun hk : Kept T zz s => ?_) ?_; clear_value s; rotate_left; subst s) | (intro v; try clear_value v)
    | with_reducible apply State.ringCnt_kept | with_reducible apply State.copyPtp_kept
    | with_reducible apply State.copyTo_kept | with_reducible apply State.toPtp_kept
    | with_reducible apply State.forward_kept | with_reducible apply Kept.ite | split | lift_lets

theorem State.ringReceive_kept {T : List Comp} {zz s : State} (hT : [.regs, .obs, .ring, .ptp] ⊆ T) (p : Nat) (frame : List
    Byte) (codeErr : Bool) (sub : Nat) (hh : Kept T zz s) : Kept T zz (State.ringReceive s p frame codeErr sub) := by
  unfold State.ringReceive
  try lift_lets
  repeat' first
    | with_reducible assumption | exact keptSub (by decide) hT
    | (intro s; refine (fun hk : Kept T zz s => ?_) ?_; clear_value s; rotate_left; subst s) | (intro v; try clear_value v)
    | with_reducible apply State.snoop_kept | with_reducible apply State.ringCnt_kept
    | with_reducible apply State.forwardBad_kept | with_reducible apply State.receiveGood_kept
    | with_reducible apply Kept.ite | split | lift_lets

theorem State.timeState_kept {T : List Comp} {zz s : State} (hT : [.regs, .icu, .evt, .nw, .pwr, .ptp] ⊆ T) (st : Nat) (hh :
    Kept T zz s) : Kept T zz (State.timeState s st) := by
  unfold State.timeState
  try lift_lets
  repeat' first
    | with_reducible assumption | exact keptSub (by decide) hT
    | (intro s; refine (fun hk : Kept T zz s => ?_) ?_; clear_value s; rotate_left; subst s) | (intro v; try clear_value v)
    | with_reducible apply State.put_kept | with_reducible apply State.logFw_kept | with_reducible apply State.raise_kept
    | with_reducible apply Kept.ite | fail_if_no_progress (with_reducible refine Kept.upd_ptp ?_ (has (by decide) hT))
    | split | lift_lets

theorem State.servoHold_kept {T : List Comp} {zz s : State} (hT : [.regs, .icu, .evt, .nw, .pwr, .ptp] ⊆ T) (hh : Kept T zz
    s) : Kept T zz (State.servoHold s) := by
  unfold State.servoHold
  try lift_lets
  repeat' first
    | with_reducible assumption | exact keptSub (by decide) hT
    | (intro s; refine (fun hk : Kept T zz s => ?_) ?_; clear_value s; rotate_left; subst s) | (intro v; try clear_value v)
    | with_reducible apply State.timeState_kept | with_reducible apply Kept.ite
    | fail_if_no_progress (with_reducible refine Kept.upd_ptp ?_ (has (by decide) hT)) | split | lift_lets

theorem State.epochUp_kept {T : List Comp} {zz s : State} (hT : [.regs, .icu, .evt, .nw, .pwr, .ptp] ⊆ T) (hh : Kept T zz s)
    : Kept T zz (State.epochUp s) := by
  unfold State.epochUp
  try lift_lets
  repeat' first
    | with_reducible assumption | exact keptSub (by decide) hT
    | (intro s; refine (fun hk : Kept T zz s => ?_) ?_; clear_value s; rotate_left; subst s)
    | with_reducible apply State.servoHold_kept | with_reducible apply State.bump_kept
    | with_reducible apply State.raise_kept | with_reducible apply State.logFw_kept

theorem State.setBlocked_kept {T : List Comp} {zz s : State} (hT : [.regs, .ring, .ptp] ⊆ T) (p : Nat) (b : Bool) (hh : Kept
    T zz s) : Kept T zz (State.setBlocked s p b) := by
  unfold State.setBlocked
  try lift_lets
  repeat' first
    | with_reducible assumption | exact keptSub (by decide) hT
    | (intro s; refine (fun hk : Kept T zz s => ?_) ?_; clear_value s; rotate_left; subst s)
    | with_reducible apply State.putFlag_kept | with_reducible apply State.choose_kept
    | with_reducible apply State.purge_kept | with_reducible apply Kept.ite

theorem State.startTx_kept {T : List Comp} {zz s : State} (hT : [.ring] ⊆ T) (req : Nat) (dnf : Bool) (hh : Kept T zz s) :
    Kept T zz (State.startTx s req dnf) := by
  unfold State.startTx
  repeat' first
    | with_reducible assumption | exact keptSub (by decide) hT | with_reducible apply State.setRing_kept

theorem State.stopTx_kept {T : List Comp} {zz s : State} (hT : [.ring] ⊆ T) (hh : Kept T zz s) : Kept T zz (State.stopTx s)
    := by
  unfold State.stopTx
  repeat' first
    | with_reducible assumption | exact keptSub (by decide) hT | with_reducible apply State.setRing_kept

theorem State.unblockGood_kept {T : List Comp} {zz s : State} (hT : [.regs, .ring, .ptp] ⊆ T) (hh : Kept T zz s) : Kept T zz
    (State.unblockGood s) := by
  unfold State.unblockGood
  repeat' first
    | with_reducible assumption | exact keptSub (by decide) hT | with_reducible apply State.setBlocked_kept
    | with_reducible apply Kept.ite | with_reducible (apply Kept.fold; intro _ _ _)

theorem State.localFail_kept {T : List Comp} {zz s : State} (hT : [.regs, .ring, .ptp] ⊆ T) (p : Nat) (hh : Kept T zz s) :
    Kept T zz (State.localFail s p) := by
  unfold State.localFail
  try lift_lets
  repeat' first
    | with_reducible assumption | exact keptSub (by decide) hT
    | (intro s; refine (fun hk : Kept T zz s => ?_) ?_; clear_value s; rotate_left; subst s) | (intro v; try clear_value v)
    | with_reducible apply State.setBlocked_kept | with_reducible apply State.unblockGood_kept
    | with_reducible apply State.put_kept | with_reducible apply State.startTx_kept | with_reducible apply Kept.ite

theorem State.localClear_kept {T : List Comp} {zz s : State} (hT : [.regs, .ring] ⊆ T) (hh : Kept T zz s) : Kept T zz
    (State.localClear s) := by
  unfold State.localClear
  repeat' first
    | with_reducible assumption | exact keptSub (by decide) hT | with_reducible apply State.setRing_kept
    | with_reducible apply State.startTx_kept | with_reducible apply State.put_kept | with_reducible apply Kept.ite | split

theorem State.remote_kept {T : List Comp} {zz s : State} (hT : [.regs, .ring, .ptp] ⊆ T) (req : Nat) (rb : Bool) (node : Nat)
    (hh : Kept T zz s) : Kept T zz (State.remote s req rb node) := by
  unfold State.remote
  try lift_lets
  repeat' first
    | with_reducible assumption | exact keptSub (by decide) hT | (intro v; try clear_value v)
    | with_reducible apply State.stopTx_kept | with_reducible apply State.put_kept
    | with_reducible apply State.unblockGood_kept | with_reducible apply Kept.ite

theorem State.ringStart_kept {T : List Comp} {zz s : State} (hT : [.regs, .ring, .ptp] ⊆ T) (hh : Kept T zz s) : Kept T zz
    (State.ringStart s) := by
  unfold State.ringStart
  try lift_lets
  repeat' first
    | with_reducible assumption | exact keptSub (by decide) hT
    | (intro s; refine (fun hk : Kept T zz s => ?_) ?_; clear_value s; rotate_left; subst s)
    | with_reducible apply State.setBlocked_kept | with_reducible apply State.localFail_kept
    | with_reducible apply State.put_kept | with_reducible apply State.startTx_kept | with_reducible apply Kept.ite
    | with_reducible (apply Kept.fold; intro _ _ _)

theorem State.swapOn_kept {T : List Comp} {zz s : State} (hT : [.regs, .icu, .evt, .nw, .pwr, .ptp] ⊆ T) (hh : Kept T zz s) :
    Kept T zz (State.swapOn s) := by
  unfold State.swapOn
  repeat' first
    | with_reducible assumption | exact keptSub (by decide) hT | with_reducible apply State.putFlag_kept
    | with_reducible apply State.epochUp_kept | with_reducible apply Kept.ite | split

theorem State.swapOff_kept {T : List Comp} {zz s : State} (hT : [.regs, .icu, .evt, .nw, .pwr, .ptp] ⊆ T) (hh : Kept T zz s)
    : Kept T zz (State.swapOff s) := by
  unfold State.swapOff
  repeat' first
    | with_reducible assumption | exact keptSub (by decide) hT | with_reducible apply State.putFlag_kept
    | with_reducible apply State.epochUp_kept | with_reducible apply Kept.ite | split

theorem State.nbrCompare_kept {T : List Comp} {zz s : State} (hT : [.regs, .icu, .evt, .nw, .pwr] ⊆ T) (p node : Nat) (told :
    Bool) (hh : Kept T zz s) : Kept T zz (State.nbrCompare s p node told) := by
  unfold State.nbrCompare
  try lift_lets
  repeat' first
    | with_reducible assumption | exact keptSub (by decide) hT
    | (intro s; refine (fun hk : Kept T zz s => ?_) ?_; clear_value s; rotate_left; subst s) | (intro v; try clear_value v)
    | with_reducible apply State.putFlag_kept | with_reducible apply State.logFw_kept
    | with_reducible apply State.raise_kept | with_reducible apply Kept.ite | split | lift_lets

theorem State.learnNbr_kept {T : List Comp} {zz s : State} (hT : [.regs, .icu, .evt, .nw, .pwr, .ring, .ptp] ⊆ T) (p node :
    Nat) (hh : Kept T zz s) : Kept T zz (State.learnNbr s p node) := by
  unfold State.learnNbr
  try lift_lets
  repeat' first
    | with_reducible assumption | exact keptSub (by decide) hT
    | (intro s; refine (fun hk : Kept T zz s => ?_) ?_; clear_value s; rotate_left; subst s) | (intro v; try clear_value v)
    | with_reducible apply State.setPort_kept | with_reducible apply State.wr_kept
    | with_reducible apply State.nbrCompare_kept | with_reducible apply State.swapOn_kept
    | with_reducible apply State.swapOff_kept | with_reducible apply Kept.ite | split | lift_lets

theorem State.nbrAgain_kept {T : List Comp} {zz s : State} (hT : [.regs, .icu, .evt, .nw, .pwr, .ptp] ⊆ T) (hh : Kept T zz s)
    : Kept T zz (State.nbrAgain s) := by
  unfold State.nbrAgain
  repeat' first
    | with_reducible assumption | exact keptSub (by decide) hT | with_reducible apply State.nbrCompare_kept
    | with_reducible apply State.swapOn_kept | with_reducible apply Kept.ite
    | with_reducible (apply Kept.fold; intro _ _ _) | split

theorem State.raps_kept {T : List Comp} {zz s : State} (hT : [.regs, .icu, .evt, .nw, .pwr, .ring, .ptp] ⊆ T) (p req sub :
    Nat) (rb dnf bpr : Bool) (node : Nat) (hh : Kept T zz s) : Kept T zz (State.raps s p req sub rb dnf bpr node) := by
  unfold State.raps
  try lift_lets
  repeat' first
    | with_reducible assumption | exact keptSub (by decide) hT
    | (intro s; refine (fun hk : Kept T zz s => ?_) ?_; clear_value s; rotate_left; subst s) | (intro v; try clear_value v)
    | with_reducible apply State.copyTaken_kept | with_reducible apply State.learnNbr_kept
    | with_reducible apply State.setPort_kept | with_reducible apply State.epochUp_kept
    | with_reducible apply State.remote_kept | with_reducible apply Kept.ite | split | lift_lets

theorem State.rapsSend_kept {T : List Comp} {zz s : State} (hT : [.regs, .ring, .ptp] ⊆ T) (hh : Kept T zz s) : Kept T zz
    (State.rapsSend s) := by
  unfold State.rapsSend
  try lift_lets
  repeat' first
    | with_reducible assumption | exact keptSub (by decide) hT
    | (intro s; refine (fun hk : Kept T zz s => ?_) ?_; clear_value s; rotate_left; subst s) | (intro v; try clear_value v)
    | with_reducible apply State.setRing_kept | with_reducible apply State.toPtp_kept | with_reducible apply Kept.ite
    | with_reducible (apply Kept.fold; intro _ _ _) | split | lift_lets

theorem State.failSeen_kept {T : List Comp} {zz s : State} (hT : [.regs, .ring, .ptp] ⊆ T) (p : Nat) (hh : Kept T zz s) :
    Kept T zz (State.failSeen s p) := by
  unfold State.failSeen
  repeat' first
    | with_reducible assumption | exact keptSub (by decide) hT | with_reducible apply State.localFail_kept
    | with_reducible apply State.setPort_kept

theorem State.sfTell_kept {T : List Comp} {zz s : State} (hT : [.regs, .ring, .ptp] ⊆ T) (p : Nat) (hh : Kept T zz s) : Kept
    T zz (State.sfTell s p) := by
  unfold State.sfTell
  try lift_lets
  repeat' first
    | with_reducible assumption | exact keptSub (by decide) hT
    | (intro s; refine (fun hk : Kept T zz s => ?_) ?_; clear_value s; rotate_left; subst s) | (intro v; try clear_value v)
    | with_reducible apply State.failSeen_kept | with_reducible apply State.setPort_kept
    | with_reducible apply State.localFail_kept | with_reducible apply State.localClear_kept
    | with_reducible apply Kept.ite | split | lift_lets

theorem State.sfPass_kept {T : List Comp} {zz s : State} (hT : [.regs, .ring, .ptp] ⊆ T) (p : Nat) (hh : Kept T zz s) : Kept
    T zz (State.sfPass s p) := by
  unfold State.sfPass
  repeat' first
    | with_reducible assumption | exact keptSub (by decide) hT | with_reducible apply State.sfTell_kept
    | with_reducible apply Kept.ite | split

theorem State.sfOnset_kept {T : List Comp} {zz s : State} (hT : [.regs, .icu, .evt, .nw, .pwr, .ring, .ptp] ⊆ T) (p : Nat)
    (link : Bool) (hh : Kept T zz s) : Kept T zz (State.sfOnset s p link) := by
  unfold State.sfOnset
  try lift_lets
  repeat' first
    | with_reducible assumption | exact keptSub (by decide) hT
    | (intro s; refine (fun hk : Kept T zz s => ?_) ?_; clear_value s; rotate_left; subst s) | (intro v; try clear_value v)
    | with_reducible apply State.setPort_kept | with_reducible apply State.putFlag_kept
    | with_reducible apply State.purge_kept | with_reducible apply State.raise_kept
    | with_reducible apply State.epochUp_kept | with_reducible apply State.sfPass_kept | with_reducible apply Kept.ite
    | split | lift_lets

theorem State.sfClear_kept {T : List Comp} {zz s : State} (hT : [.regs, .icu, .evt, .nw, .pwr, .ring, .ptp] ⊆ T) (p : Nat)
    (hh : Kept T zz s) : Kept T zz (State.sfClear s p) := by
  unfold State.sfClear
  try lift_lets
  repeat' first
    | with_reducible assumption | exact keptSub (by decide) hT
    | (intro s; refine (fun hk : Kept T zz s => ?_) ?_; clear_value s; rotate_left; subst s) | (intro v; try clear_value v)
    | with_reducible apply State.putFlag_kept | with_reducible apply State.raise_kept
    | with_reducible apply State.epochUp_kept | with_reducible apply State.setPort_kept
    | with_reducible apply State.sfPass_kept | with_reducible apply State.choose_kept | with_reducible apply Kept.ite
    | split | lift_lets

theorem State.modulePoll_kept {T : List Comp} {zz s : State} (hT : [.regs, .icu, .evt, .nw, .pwr, .ring, .ptp] ⊆ T) (p : Nat)
    (ack ok : Bool) (power : Option Nat) (hh : Kept T zz s) : Kept T zz (State.modulePoll s p ack ok power) := by
  unfold State.modulePoll
  try lift_lets
  repeat' first
    | with_reducible assumption | exact keptSub (by decide) hT
    | (intro s; refine (fun hk : Kept T zz s => ?_) ?_; clear_value s; rotate_left; subst s) | (intro v; try clear_value v)
    | with_reducible apply State.setPort_kept | with_reducible apply State.putFlag_kept
    | with_reducible apply State.put_kept | with_reducible apply State.sfOnset_kept | with_reducible apply State.logFw_kept
    | with_reducible apply Kept.ite | split | lift_lets

theorem State.ldCntAll_kept {T : List Comp} {zz s : State} (hT : [.regs] ⊆ T) (ports k : Nat) (hh : Kept T zz s) : Kept T zz
    (State.ldCntAll s ports k) := by
  unfold State.ldCntAll
  repeat' first
    | with_reducible assumption | exact keptSub (by decide) hT | with_reducible apply State.ringCnt_kept
    | with_reducible apply Kept.ite | with_reducible (apply Kept.fold; intro _ _ _) | split

theorem State.ldUnqueue_kept {T : List Comp} {zz s : State} (hT : [.ring] ⊆ T) (d : Nat) (hh : Kept T zz s) : Kept T zz
    (State.ldUnqueue s d) := by
  unfold State.ldUnqueue
  try lift_lets
  repeat' first
    | with_reducible assumption | exact keptSub (by decide) hT | with_reducible apply State.setEgress_kept
    | with_reducible apply Kept.ite | with_reducible (apply Kept.fold; intro _ _ _)

theorem State.ldCancel_kept {T : List Comp} {zz s : State} (hT : [.regs, .ring, .ptp] ⊆ T) (d : Nat) (hh : Kept T zz s) :
    Kept T zz (State.ldCancel s d) := by
  unfold State.ldCancel
  try lift_lets
  repeat' first
    | with_reducible assumption | exact keptSub (by decide) hT
    | (intro s; refine (fun hk : Kept T zz s => ?_) ?_; clear_value s; rotate_left; subst s) | (intro v; try clear_value v)
    | with_reducible apply State.ldUnqueue_kept | with_reducible apply State.setLaunch_kept
    | with_reducible apply State.setEgress_kept | with_reducible apply State.choose_kept | with_reducible apply Kept.ite
    | with_reducible (apply Kept.fold; intro _ _ _) | split | lift_lets

theorem State.ldCopy_kept {T : List Comp} {zz s : State} (hT : [.ring] ⊆ T) (d : Nat) (hh : Kept T zz s) : Kept T zz
    (State.ldCopy s d) := by
  unfold State.ldCopy
  try lift_lets
  repeat' first
    | with_reducible assumption | exact keptSub (by decide) hT
    | (intro s; refine (fun hk : Kept T zz s => ?_) ?_; clear_value s; rotate_left; subst s) | (intro v; try clear_value v)
    | with_reducible apply State.setLaunch_kept | with_reducible apply State.setEgress_kept | with_reducible apply Kept.ite
    | with_reducible (apply Kept.fold; intro _ _ _) | split | lift_lets

theorem State.ldDeadline_kept {T : List Comp} {zz s : State} (hT : [.regs, .ring] ⊆ T) (d : Nat) (onTime : Bool) (hh : Kept T
    zz s) : Kept1 T zz (State.ldDeadline s d onTime) := by
  unfold State.ldDeadline
  try lift_lets
  repeat' first
    | with_reducible assumption | exact keptSub (by decide) hT
    | (intro s; refine (fun hk : Kept T zz s => ?_) ?_; clear_value s; rotate_left; subst s) | (intro v; try clear_value v)
    | with_reducible apply State.ldCntAll_kept | with_reducible apply State.setLaunch_kept
    | with_reducible apply State.ldUnqueue_kept | with_reducible apply Kept.ite | with_reducible apply Kept1.ite
    | with_reducible apply Kept1.mk | split | lift_lets

theorem State.ldGuard_kept {T : List Comp} {zz s : State} (hT : [.ring] ⊆ T) (d : Nat) (hh : Kept T zz s) : Kept T zz
    (State.ldGuard s d) := by
  unfold State.ldGuard
  try lift_lets
  repeat' first
    | with_reducible assumption | exact keptSub (by decide) hT
    | (intro s; refine (fun hk : Kept T zz s => ?_) ?_; clear_value s; rotate_left; subst s) | (intro v; try clear_value v)
    | with_reducible apply State.setEgress_kept | with_reducible apply Kept.ite
    | with_reducible (apply Kept.fold; intro _ _ _) | split | lift_lets

theorem State.ldGate_kept {T : List Comp} {zz s : State} (hT : [.regs, .ring, .ptp] ⊆ T) (d : Nat) (hh : Kept T zz s) : Kept
    T zz (State.ldGate s d) := by
  unfold State.ldGate
  try lift_lets
  repeat' first
    | with_reducible assumption | exact keptSub (by decide) hT
    | (intro s; refine (fun hk : Kept T zz s => ?_) ?_; clear_value s; rotate_left; subst s) | (intro v; try clear_value v)
    | with_reducible apply State.setLaunch_kept | with_reducible apply State.setEgress_kept
    | with_reducible apply State.ringCnt_kept | with_reducible apply State.choose_kept | with_reducible apply Kept.ite
    | with_reducible (apply Kept.fold; intro _ _ _) | split | lift_lets

theorem State.ldClose_kept {T : List Comp} {zz s : State} (hT : [.regs, .ring, .ptp] ⊆ T) (d : Nat) (hh : Kept T zz s) : Kept
    T zz (State.ldClose s d) := by
  unfold State.ldClose
  try lift_lets
  repeat' first
    | with_reducible assumption | exact keptSub (by decide) hT
    | (intro s; refine (fun hk : Kept T zz s => ?_) ?_; clear_value s; rotate_left; subst s) | (intro v; try clear_value v)
    | with_reducible apply State.setEgress_kept | with_reducible apply State.choose_kept | with_reducible apply Kept.ite
    | with_reducible (apply Kept.fold; intro _ _ _) | split | lift_lets

theorem State.ldStep_kept {T : List Comp} {zz s : State} (hT : [.regs, .ring, .ptp] ⊆ T) (old : Nat) (hh : Kept T zz s) :
    Kept T zz (State.ldStep s old) := by
  unfold State.ldStep
  try lift_lets
  repeat' first
    | with_reducible assumption | exact keptSub (by decide) hT
    | (intro s; refine (fun hk : Kept T zz s => ?_) ?_; clear_value s; rotate_left; subst s) | (intro v; try clear_value v)
    | with_reducible apply State.wr_kept | with_reducible apply State.ldCancel_kept | with_reducible apply Kept.ite
    | with_reducible (apply Kept.fold; intro _ _ _) | split | lift_lets

theorem State.ldChanged_kept {T : List Comp} {zz s : State} (hT : [.regs, .ring, .ptp] ⊆ T) (d : Nat) (hh : Kept T zz s) :
    Kept T zz (State.ldChanged s d) := by
  unfold State.ldChanged
  try lift_lets
  repeat' first
    | with_reducible assumption | exact keptSub (by decide) hT
    | (intro s; refine (fun hk : Kept T zz s => ?_) ?_; clear_value s; rotate_left; subst s) | (intro v; try clear_value v)
    | with_reducible apply State.ldCancel_kept | with_reducible apply Kept.ite | split | lift_lets

theorem State.eventSend_kept {T : List Comp} {zz s : State} (hT : [.regs, .ring, .ptp] ⊆ T) (hh : Kept T zz s) : Kept T zz
    (State.eventSend s) := by
  unfold State.eventSend
  try lift_lets
  repeat' first
    | with_reducible assumption | exact keptSub (by decide) hT
    | (intro s; refine (fun hk : Kept T zz s => ?_) ?_; clear_value s; rotate_left; subst s) | (intro v; try clear_value v)
    | with_reducible apply State.toLocal_kept | with_reducible apply State.setRing_kept | with_reducible apply Kept.ite
    | with_reducible (apply Kept.fold; intro _ _ _)

theorem State.ldDataRead_kept {T : List Comp} {zz s : State} (hT : [.ctx] ⊆ T) (c : Nat) (hh : Kept T zz s) : Kept T zz
    (State.ldDataRead s c) := by
  unfold State.ldDataRead
  try lift_lets
  repeat' first
    | with_reducible assumption | exact keptSub (by decide) hT | (intro v; try clear_value v)
    | with_reducible apply State.setCopy_kept

theorem State.setPtp_kept {T : List Comp} {zz s : State} (hT : [.ptp] ⊆ T) (x : Ptp) (hh : Kept T zz s) : Kept T zz
    (State.setPtp s x) := by
  unfold State.setPtp
  repeat' first
    | with_reducible assumption | exact keptSub (by decide) hT | with_reducible apply Kept.ite
    | fail_if_no_progress (with_reducible refine Kept.upd_ptp ?_ (has (by decide) hT))

theorem State.setRate_kept {T : List Comp} {zz s : State} (hT : [.regs] ⊆ T) (x : Int) (hh : Kept T zz s) : Kept T zz
    (State.setRate s x) := by
  unfold State.setRate
  repeat' first
    | with_reducible assumption | exact keptSub (by decide) hT | with_reducible apply State.wr_kept

theorem State.timeTick_kept {T : List Comp} {zz s : State} (hT : [.time] ⊆ T) (hh : Kept T zz s) : Kept T zz (State.timeTick
    s) := by
  unfold State.timeTick
  try lift_lets
  repeat' first
    | with_reducible assumption | exact keptSub (by decide) hT | (intro v; try clear_value v) | with_reducible apply Kept.ite
    | fail_if_no_progress (with_reducible refine Kept.upd_time ?_ (has (by decide) hT))

theorem State.localMoved_kept {T : List Comp} {zz s : State} (hT : [.regs, .obs, .dim] ⊆ T) (hh : Kept T zz s) : Kept T zz
    (State.localMoved s) := by
  unfold State.localMoved
  repeat' first
    | with_reducible assumption | exact keptSub (by decide) hT | with_reducible apply State.writeTimeSlots_kept
    | with_reducible apply State.schedJudge_kept

theorem State.takeMaster_kept {T : List Comp} {zz s : State} (hT : [.regs, .time, .icu, .evt, .nw, .pwr, .ptp] ⊆ T) (m :
    Master) (hh : Kept T zz s) : Kept T zz (State.takeMaster s m) := by
  unfold State.takeMaster
  dsimp only
  repeat' first
    | with_reducible assumption | exact keptSub (by decide) hT
    | with_reducible apply Kept.ite | with_reducible apply State.timeState_kept | with_reducible apply State.servoHold_kept
    | with_reducible apply State.setPtp_kept | with_reducible apply State.putFlag_kept | with_reducible apply State.put_kept
    | with_reducible apply State.wr_kept
    | fail_if_no_progress (with_reducible refine Kept.upd_time ?_ (has (by decide) hT))

theorem State.reselect_kept {T : List Comp} {zz s : State} (hT : [.regs, .time, .icu, .evt, .nw, .pwr, .ptp] ⊆ T) (hh : Kept
    T zz s) : Kept T zz (State.reselect s) := by
  unfold State.reselect
  repeat' first
    | with_reducible assumption | exact keptSub (by decide) hT | with_reducible apply State.takeMaster_kept
    | with_reducible apply Kept.ite | split

theorem State.announce_kept {T : List Comp} {zz s : State} (hT : [.regs, .time, .icu, .evt, .nw, .pwr, .ptp] ⊆ T) (m :
    Master) (hh : Kept T zz s) : Kept T zz (State.announce s m) := by
  unfold State.announce
  try lift_lets
  repeat' first
    | with_reducible assumption | exact keptSub (by decide) hT | (intro v; try clear_value v)
    | with_reducible apply State.setPtp_kept | with_reducible apply State.reselect_kept

theorem State.masterLost_kept {T : List Comp} {zz s : State} (hT : [.regs, .time, .icu, .evt, .nw, .pwr, .ptp] ⊆ T) (hh :
    Kept T zz s) : Kept T zz (State.masterLost s) := by
  unfold State.masterLost
  try lift_lets
  repeat' first
    | with_reducible assumption | exact keptSub (by decide) hT
    | (intro s; refine (fun hk : Kept T zz s => ?_) ?_; clear_value s; rotate_left; subst s) | (intro v; try clear_value v)
    | with_reducible apply State.setPtp_kept | with_reducible apply State.putFlag_kept
    | with_reducible apply State.timeState_kept | with_reducible apply State.reselect_kept | with_reducible apply Kept.ite
    | fail_if_no_progress (with_reducible refine Kept.upd_time ?_ (has (by decide) hT)) | split | lift_lets

theorem State.stepJudge_kept {T : List Comp} {zz s : State} (hT : [.ptp] ⊆ T) (hh : Kept T zz s) : Kept T zz (State.stepJudge
    s) := by
  unfold State.stepJudge
  repeat' first
    | with_reducible assumption | exact keptSub (by decide) hT | with_reducible apply State.setPtp_kept
    | with_reducible apply Kept.ite | split

theorem State.routeJudge_kept {T : List Comp} {zz s : State} (hT : [.regs, .icu, .evt, .nw, .pwr, .ptp] ⊆ T) (hh : Kept T zz
    s) : Kept T zz (State.routeJudge s) := by
  unfold State.routeJudge
  try lift_lets
  repeat' first
    | with_reducible assumption | exact keptSub (by decide) hT
    | (intro s; refine (fun hk : Kept T zz s => ?_) ?_; clear_value s; rotate_left; subst s) | (intro v; try clear_value v)
    | with_reducible apply State.timeState_kept | with_reducible apply State.setPtp_kept
    | with_reducible apply State.logFw_kept | with_reducible apply State.wr_kept | with_reducible apply Kept.ite

theorem State.trustTimer_kept {T : List Comp} {zz s : State} (hT : [.ptp] ⊆ T) (run : Bool) (hh : Kept T zz s) : Kept T zz
    (State.trustTimer s run) := by
  unfold State.trustTimer
  repeat' first
    | with_reducible assumption | exact keptSub (by decide) hT | with_reducible apply State.setPtp_kept
    | with_reducible apply Kept.ite | split

theorem State.servo_kept {T : List Comp} {zz s : State} (hT : [.free, .ptp] ⊆ T) (o : Int) (hh : Kept T zz s) : Kept T zz
    (State.servo s o) := by
  unfold State.servo
  try lift_lets
  repeat' first
    | with_reducible assumption | exact keptSub (by decide) hT
    | (intro s; refine (fun hk : Kept T zz s => ?_) ?_; clear_value s; rotate_left; subst s) | (intro v; try clear_value v)
    | with_reducible apply State.setPtp_kept | with_reducible apply State.trustTimer_kept
    | with_reducible apply State.fresh_kept | with_reducible (apply Kept.snd; apply State.fresh_kept)
    | with_reducible (refine Kept.eq2 (by assumption) ?_; apply State.fresh_kept) | with_reducible apply Kept.ite
    | with_reducible apply Kept2.ite | with_reducible apply Kept2.mk | split | lift_lets

theorem State.offset_kept {T : List Comp} {zz s : State} (hT : [.regs, .free, .icu, .evt, .nw, .pwr, .ptp] ⊆ T) (o : Int) (hh
    : Kept T zz s) : Kept T zz (State.offset s o) := by
  unfold State.offset
  try lift_lets
  repeat' first
    | with_reducible assumption | exact keptSub (by decide) hT
    | (intro s; refine (fun hk : Kept T zz s => ?_) ?_; clear_value s; rotate_left; subst s) | (intro v; try clear_value v)
    | with_reducible apply State.wr_kept | with_reducible apply State.setPtp_kept | with_reducible apply State.putFlag_kept
    | with_reducible apply State.routeJudge_kept | with_reducible apply State.servo_kept
    | with_reducible apply State.stepJudge_kept | with_reducible apply Kept.ite | split | lift_lets

theorem State.sync_kept {T : List Comp} {zz s : State} (hT : [.regs, .free, .icu, .evt, .nw, .pwr, .ring, .ptp] ⊆ T) (p
    domain src : Nat) (origin corr : Int) (sub : Nat) (hh : Kept T zz s) : Kept T zz (State.sync s p domain src origin corr
    sub) := by
  unfold State.sync
  try lift_lets
  repeat' first
    | with_reducible assumption | exact keptSub (by decide) hT
    | (intro s; refine (fun hk : Kept T zz s => ?_) ?_; clear_value s; rotate_left; subst s) | (intro v; try clear_value v)
    | with_reducible apply State.copyTaken_kept | with_reducible apply State.offset_kept | with_reducible apply Kept.ite
    | split | lift_lets

theorem State.holdEnd_kept {T : List Comp} {zz s : State} (hT : [.regs, .icu, .evt, .nw, .pwr, .ptp] ⊆ T) (hh : Kept T zz s)
    : Kept T zz (State.holdEnd s) := by
  unfold State.holdEnd
  try lift_lets
  repeat' first
    | with_reducible assumption | exact keptSub (by decide) hT
    | (intro s; refine (fun hk : Kept T zz s => ?_) ?_; clear_value s; rotate_left; subst s) | (intro v; try clear_value v)
    | with_reducible apply State.setPtp_kept | with_reducible apply State.timeState_kept | with_reducible apply Kept.ite
    | split | lift_lets

theorem State.trustExpiry_kept {T : List Comp} {zz s : State} (hT : [.regs, .icu, .evt, .nw, .pwr, .ptp] ⊆ T) (hh : Kept T zz
    s) : Kept T zz (State.trustExpiry s) := by
  unfold State.trustExpiry
  try lift_lets
  repeat' first
    | with_reducible assumption | exact keptSub (by decide) hT
    | (intro s; refine (fun hk : Kept T zz s => ?_) ?_; clear_value s; rotate_left; subst s) | (intro v; try clear_value v)
    | with_reducible apply State.put_kept | with_reducible apply State.timeState_kept
    | with_reducible apply State.setPtp_kept | with_reducible apply Kept.ite | split | lift_lets

theorem State.capReached_kept {T : List Comp} {zz s : State} (hT : [.regs, .cap] ⊆ T) (hh : Kept T zz s) : Kept T zz
    (State.capReached s) := by
  unfold State.capReached
  repeat' first
    | with_reducible assumption | exact keptSub (by decide) hT | with_reducible apply State.capTrigger_kept
    | with_reducible apply Kept.ite

theorem State.stepClock_kept {T : List Comp} {zz s : State} (hT : [.regs, .time, .ptp] ⊆ T) (d : Int) (hh : Kept T zz s) :
    Kept T zz (State.stepClock s d) := by
  unfold State.stepClock
  try lift_lets
  repeat' first
    | with_reducible assumption | exact keptSub (by decide) hT
    | (intro s; refine (fun hk : Kept T zz s => ?_) ?_; clear_value s; rotate_left; subst s) | (intro v; try clear_value v)
    | with_reducible apply State.setRate_kept | with_reducible apply State.setPtp_kept | with_reducible apply Kept.ite
    | fail_if_no_progress (with_reducible refine Kept.upd_time ?_ (has (by decide) hT)) | split | lift_lets

theorem State.stepRecord_kept {T : List Comp} {zz s : State} (hT : [.regs, .icu, .evt, .nw, .pwr, .ptp] ⊆ T) (d : Int) (hh :
    Kept T zz s) : Kept T zz (State.stepRecord s d) := by
  unfold State.stepRecord
  try lift_lets
  repeat' first
    | with_reducible assumption | exact keptSub (by decide) hT
    | (intro s; refine (fun hk : Kept T zz s => ?_) ?_; clear_value s; rotate_left; subst s) | (intro v; try clear_value v)
    | with_reducible apply State.timeState_kept | with_reducible apply State.bump_kept
    | with_reducible apply State.putFlag_kept | with_reducible apply State.put_kept | with_reducible apply State.logFw_kept

theorem State.patStep_kept {T : List Comp} {zz s : State} (hT : [.dim] ⊆ T) (p old : Nat) (set : Bool) (hh : Kept T zz s) :
    Kept T zz (State.patStep s p old set) := by
  unfold State.patStep
  try lift_lets
  repeat' first
    | with_reducible assumption | exact keptSub (by decide) hT
    | (intro s; refine (fun hk : Kept T zz s => ?_) ?_; clear_value s; rotate_left; subst s) | (intro v; try clear_value v)
    | with_reducible apply Kept.ite | fail_if_no_progress (with_reducible refine Kept.upd_dim ?_ (has (by decide) hT))
    | split | lift_lets

theorem State.mornStep_kept {T : List Comp} {zz s : State} (hT : [.pwr] ⊆ T) (set : Bool) (hh : Kept T zz s) : Kept T zz
    (State.mornStep s set) := by
  unfold State.mornStep
  try lift_lets
  repeat' first
    | with_reducible assumption | exact keptSub (by decide) hT
    | (intro s; refine (fun hk : Kept T zz s => ?_) ?_; clear_value s; rotate_left; subst s) | (intro v; try clear_value v)
    | with_reducible apply Kept.ite | fail_if_no_progress (with_reducible refine Kept.upd_pwr ?_ (has (by decide) hT))
    | split | lift_lets

theorem State.snapStep_kept {T : List Comp} {zz s : State} (hT : [.life] ⊆ T) (set : Bool) (hh : Kept T zz s) : Kept T zz
    (State.snapStep s set) := by
  unfold State.snapStep
  try lift_lets
  repeat' first
    | with_reducible assumption | exact keptSub (by decide) hT
    | (intro s; refine (fun hk : Kept T zz s => ?_) ?_; clear_value s; rotate_left; subst s) | (intro (v : Life); subst v)
    | (intro v; try clear_value v) | with_reducible apply Kept.ite
    | fail_if_no_progress (with_reducible refine Kept.upd_life ?_ (has (by decide) hT) (fun k => k.flash)) | split
    | lift_lets

theorem State.daySnapshot_kept {T : List Comp} {zz s : State} (hT : [.regs, .mem, .life, .fspi] ⊆ T) (hh : Kept T zz s) :
    Kept T zz (State.daySnapshot s) := by
  unfold State.daySnapshot
  repeat' first
    | with_reducible assumption | exact keptSub (by decide) hT | with_reducible apply State.snapshot_kept
    | with_reducible apply Kept.ite
    | fail_if_no_progress (with_reducible refine Kept.upd_life ?_ (has (by decide) hT) (fun k => k.flash)) | split

theorem State.timeStep_kept {T : List Comp} {zz s : State} (hT : [.regs, .time, .icu, .evt, .nw, .cap, .life, .pwr, .obs,
    .dim, .ring, .ptp] ⊆ T) (hh : Kept T zz s) : Kept T zz (State.timeStep s) := by
  unfold State.timeStep
  try lift_lets
  repeat' first
    | with_reducible assumption | exact keptSub (by decide) hT
    | (intro s; refine (fun hk : Kept T zz s => ?_) ?_; clear_value s; rotate_left; subst s) | (intro v; try clear_value v)
    | with_reducible apply State.setPtp_kept | with_reducible apply State.stepClock_kept
    | with_reducible apply State.stepRecord_kept | with_reducible apply State.ldStep_kept
    | with_reducible apply State.evalTwins_kept | with_reducible apply State.patStep_kept
    | with_reducible apply State.localMoved_kept | with_reducible apply State.mornStep_kept
    | with_reducible apply State.snapStep_kept | with_reducible apply State.capReached_kept | with_reducible apply Kept.ite
    | with_reducible (apply Kept.fold; intro _ _ _) | split | lift_lets

theorem State.rearm_kept {T : List Comp} {zz s : State} (hT : [.regs, .ptp] ⊆ T) (hh : Kept T zz s) : Kept1 T zz (State.rearm
    s) := by
  unfold State.rearm
  try lift_lets
  repeat' first
    | with_reducible assumption | exact keptSub (by decide) hT
    | (intro s; refine (fun hk : Kept T zz s => ?_) ?_; clear_value s; rotate_left; subst s) | (intro v; try clear_value v)
    | with_reducible apply State.setPtp_kept | with_reducible apply State.putFlag_kept | with_reducible apply Kept.ite
    | with_reducible apply Kept1.ite | with_reducible apply Kept1.mk | split | lift_lets

theorem State.rearmLapse_kept {T : List Comp} {zz s : State} (hT : [.regs, .evt, .ptp] ⊆ T) (hh : Kept T zz s) : Kept T zz
    (State.rearmLapse s) := by
  unfold State.rearmLapse
  try lift_lets
  repeat' first
    | with_reducible assumption | exact keptSub (by decide) hT
    | (intro s; refine (fun hk : Kept T zz s => ?_) ?_; clear_value s; rotate_left; subst s) | (intro v; try clear_value v)
    | with_reducible apply State.putFlag_kept | with_reducible apply State.setPtp_kept
    | with_reducible apply State.logFw_kept | with_reducible apply Kept.ite | split | lift_lets

theorem State.timeDeadline_kept {T : List Comp} {zz s : State} (hT : [.regs, .ptp] ⊆ T) (onTime : Bool) (hh : Kept T zz s) :
    Kept T zz (State.timeDeadline s onTime) := by
  unfold State.timeDeadline
  try lift_lets
  repeat' first
    | with_reducible assumption | exact keptSub (by decide) hT
    | (intro s; refine (fun hk : Kept T zz s => ?_) ?_; clear_value s; rotate_left; subst s) | (intro v; try clear_value v)
    | with_reducible apply State.setRate_kept | with_reducible apply State.setPtp_kept | with_reducible apply Kept.ite
    | split | lift_lets

theorem State.pdelayDrop_kept {T : List Comp} {zz s : State} (hT : [.ptp] ⊆ T) (p : Nat) (hh : Kept T zz s) : Kept T zz
    (State.pdelayDrop s p) := by
  unfold State.pdelayDrop
  repeat' first
    | with_reducible assumption | exact keptSub (by decide) hT | with_reducible apply State.setPtp_kept
    | with_reducible apply Kept.ite | split

theorem State.pdelayBad_kept {T : List Comp} {zz s : State} (hT : [.regs, .ptp] ⊆ T) (p : Nat) (hh : Kept T zz s) : Kept T zz
    (State.pdelayBad s p) := by
  unfold State.pdelayBad
  repeat' first
    | with_reducible assumption | exact keptSub (by decide) hT | with_reducible apply State.pdelayDrop_kept
    | with_reducible apply State.bump_kept | with_reducible apply Kept.ite | split

theorem State.pdelaySend_kept {T : List Comp} {zz s : State} (hT : [.regs, .ring, .ptp] ⊆ T) (p : Nat) (hh : Kept T zz s) :
    Kept T zz (State.pdelaySend s p) := by
  unfold State.pdelaySend
  try lift_lets
  repeat' first
    | with_reducible assumption | exact keptSub (by decide) hT
    | (intro s; refine (fun hk : Kept T zz s => ?_) ?_; clear_value s; rotate_left; subst s) | (intro v; try clear_value v)
    | with_reducible apply State.pdelayBad_kept | with_reducible apply State.setPtp_kept
    | with_reducible apply State.toPtp_kept | with_reducible apply Kept.ite | split | lift_lets

theorem State.pdelayAnswer_kept {T : List Comp} {zz s : State} (hT : [.regs, .ring, .ptp] ⊆ T) (p src id corr sub : Nat) (hh
    : Kept T zz s) : Kept T zz (State.pdelayAnswer s p src id corr sub) := by
  unfold State.pdelayAnswer
  try lift_lets
  repeat' first
    | with_reducible assumption | exact keptSub (by decide) hT
    | (intro s; refine (fun hk : Kept T zz s => ?_) ?_; clear_value s; rotate_left; subst s) | (intro v; try clear_value v)
    | with_reducible apply State.copyTaken_kept | with_reducible apply State.toPtp_kept | with_reducible apply Kept.ite
    | split | lift_lets

theorem State.pdelayDone_kept {T : List Comp} {zz s : State} (hT : [.regs, .ring, .ptp] ⊆ T) (p id : Nat) (t2 t3 corr : Int)
    (sub : Nat) (hh : Kept T zz s) : Kept T zz (State.pdelayDone s p id t2 t3 corr sub) := by
  unfold State.pdelayDone
  try lift_lets
  repeat' first
    | with_reducible assumption | exact keptSub (by decide) hT
    | (intro s; refine (fun hk : Kept T zz s => ?_) ?_; clear_value s; rotate_left; subst s) | (intro v; try clear_value v)
    | with_reducible apply State.copyTaken_kept | with_reducible apply State.pdelayBad_kept
    | with_reducible apply State.pdelayDrop_kept | with_reducible apply State.setPtp_kept
    | with_reducible apply State.wr_kept | with_reducible apply Kept.ite | split | lift_lets

theorem State.ppsRise_kept {T : List Comp} {zz s : State} (hT : [.regs, .pins, .ptp] ⊆ T) (hh : Kept T zz s) : Kept T zz
    (State.ppsRise s) := by
  unfold State.ppsRise
  try lift_lets
  repeat' first
    | with_reducible assumption | exact keptSub (by decide) hT
    | (intro s; refine (fun hk : Kept T zz s => ?_) ?_; clear_value s; rotate_left; subst s) | (intro v; try clear_value v)
    | with_reducible apply State.setPtp_kept | with_reducible apply State.put_kept | with_reducible apply Kept.ite
    | fail_if_no_progress (with_reducible refine Kept.upd_pins ?_ (has (by decide) hT)) | split | lift_lets

theorem State.ppsFall_kept {T : List Comp} {zz s : State} (hT : [.pins] ⊆ T) (hh : Kept T zz s) : Kept T zz (State.ppsFall s)
    := by
  unfold State.ppsFall
  repeat' first
    | with_reducible assumption | exact keptSub (by decide) hT | with_reducible apply Kept.ite
    | fail_if_no_progress (with_reducible refine Kept.upd_pins ?_ (has (by decide) hT)) | split

theorem State.ppsIn_kept {T : List Comp} {zz s : State} (hT : [.regs, .icu, .evt, .nw, .pwr, .ptp] ⊆ T) (rise : Bool) (sub :
    Nat) (hh : Kept T zz s) : Kept T zz (State.ppsIn s rise sub) := by
  unfold State.ppsIn
  try lift_lets
  repeat' first
    | with_reducible assumption | exact keptSub (by decide) hT
    | (intro s; refine (fun hk : Kept T zz s => ?_) ?_; clear_value s; rotate_left; subst s) | (intro v; try clear_value v)
    | with_reducible apply State.wr_kept | with_reducible apply State.setPtp_kept
    | with_reducible apply State.logStamp_kept | with_reducible apply State.raise_kept | with_reducible apply Kept.ite
    | split | lift_lets

theorem State.offsetChange_kept {T : List Comp} {zz s : State} (hT : [.regs, .time, .obs, .dim] ⊆ T) (hh : Kept T zz s) :
    Kept T zz (State.offsetChange s) := by
  unfold State.offsetChange
  repeat' first
    | with_reducible assumption | exact keptSub (by decide) hT | with_reducible apply State.localMoved_kept
    | with_reducible apply Kept.ite | fail_if_no_progress (with_reducible refine Kept.upd_time ?_ (has (by decide) hT))
    | split

theorem State.timeRead_kept {T : List Comp} {zz s : State} (hT : [.ctx] ⊆ T) (c : Nat) (hh : Kept T zz s) : Kept T zz
    (State.timeRead s c) := by
  unfold State.timeRead
  repeat' first
    | with_reducible assumption | exact keptSub (by decide) hT | with_reducible apply State.setCopy_kept

theorem State.setMbx_kept {T : List Comp} {zz s : State} (hT : [.mbx] ⊆ T) (x : Mbx) (hh : Kept T zz s) : Kept T zz
    (State.setMbx s x) := by
  unfold State.setMbx
  repeat' first
    | with_reducible assumption | exact keptSub (by decide) hT | with_reducible apply Kept.ite
    | fail_if_no_progress (with_reducible refine Kept.upd_mbx ?_ (has (by decide) hT))

theorem State.ramWrite_kept {T : List Comp} {zz s : State} (hT : [.mbx] ⊆ T) (a : Nat) (xs : List Byte) (hh : Kept T zz s) :
    Kept T zz (s.ramWrite a xs) := by
  induction xs generalizing s a with
  | nil => exact hh
  | cons b bs ih => exact ih (a + 1) (State.setMbx_kept (keptSub (by decide) hT) _ hh)

theorem State.setRingCtx_kept {T : List Comp} {zz s : State} (hT : [.mbx] ⊆ T) (c : Nat) (x : RingCtx) (hh : Kept T zz s) :
    Kept T zz (State.setRingCtx s c x) := by
  unfold State.setRingCtx
  repeat' first
    | with_reducible assumption | exact keptSub (by decide) hT | with_reducible apply State.setMbx_kept

theorem State.mbxErr_kept {T : List Comp} {zz s : State} (hT : [.regs, .icu, .nw, .pwr] ⊆ T) (f : Fld) (hh : Kept T zz s) :
    Kept T zz (State.mbxErr s f) := by
  unfold State.mbxErr
  repeat' first
    | with_reducible assumption | exact keptSub (by decide) hT | with_reducible apply State.raise_kept
    | with_reducible apply State.putFlag_kept | with_reducible apply Kept.ite

theorem State.updCmd_kept {T : List Comp} {zz s : State} (hT : [.mbx] ⊆ T) (id : Nat) (f : Cmd → Cmd) (hh : Kept T zz s) :
    Kept T zz (State.updCmd s id f) := by
  unfold State.updCmd
  repeat' first
    | with_reducible assumption | exact keptSub (by decide) hT | with_reducible apply State.setMbx_kept

theorem State.addCmd_kept {T : List Comp} {zz s : State} (hT : [.mbx] ⊆ T) (c : Cmd) (hh : Kept T zz s) : Kept T zz
    (State.addCmd s c) := by
  unfold State.addCmd
  repeat' first
    | with_reducible assumption | exact keptSub (by decide) hT | with_reducible apply State.setMbx_kept

theorem State.finishCmd_kept {T : List Comp} {zz s : State} (hT : [.mbx] ⊆ T) (id st r0 : Nat) (out : List Byte) (hh : Kept T
    zz s) : Kept T zz (State.finishCmd s id st r0 out) := by
  unfold State.finishCmd
  try lift_lets
  repeat' first
    | with_reducible assumption | exact keptSub (by decide) hT
    | (intro s; refine (fun hk : Kept T zz s => ?_) ?_; clear_value s; rotate_left; subst s) | (intro v; try clear_value v)
    | with_reducible apply State.updCmd_kept | with_reducible apply State.setMbx_kept

theorem State.longCmd_kept {T : List Comp} {zz s : State} (hT : [.mbx] ⊆ T) (id : Nat) (hh : Kept T zz s) : Kept T zz
    (State.longCmd s id) := by
  unfold State.longCmd
  try lift_lets
  repeat' first
    | with_reducible assumption | exact keptSub (by decide) hT
    | (intro s; refine (fun hk : Kept T zz s => ?_) ?_; clear_value s; rotate_left; subst s) | (intro v; try clear_value v)
    | with_reducible apply State.updCmd_kept | with_reducible apply State.setMbx_kept

theorem State.takeCmd_kept {T : List Comp} {zz s : State} (hT : [.regs, .icu, .nw, .pwr, .mbx] ⊆ T) (c : Cmd) (hh : Kept T zz
    s) : Kept T zz (State.takeCmd s c) := by
  unfold State.takeCmd
  try lift_lets
  repeat' first
    | with_reducible assumption | exact keptSub (by decide) hT
    | (intro s; refine (fun hk : Kept T zz s => ?_) ?_; clear_value s; rotate_left; subst s) | (intro v; try clear_value v)
    | with_reducible apply State.addCmd_kept | with_reducible apply State.mbxErr_kept | with_reducible apply Kept.ite
    | split | lift_lets

theorem State.copyDesc_kept {T : List Comp} {zz s : State} (hT : [.regs, .icu, .nw, .pwr, .mbx] ⊆ T) (urgent : Bool) (hh :
    Kept T zz s) : Kept T zz (State.copyDesc s urgent) := by
  unfold State.copyDesc
  try lift_lets
  repeat' first
    | with_reducible assumption | exact keptSub (by decide) hT
    | (intro s; refine (fun hk : Kept T zz s => ?_) ?_; clear_value s; rotate_left; subst s) | (intro v; try clear_value v)
    | with_reducible apply State.setMbx_kept | with_reducible apply State.takeCmd_kept | with_reducible apply State.wr_kept
    | with_reducible apply Kept.ite

theorem State.doorbell_kept {T : List Comp} {zz s : State} (hT : [.regs, .icu, .nw, .pwr] ⊆ T) (urgent : Bool) (x : Nat) (hh
    : Kept T zz s) : Kept T zz (State.doorbell s urgent x) := by
  unfold State.doorbell
  try lift_lets
  repeat' first
    | with_reducible assumption | exact keptSub (by decide) hT
    | (intro s; refine (fun hk : Kept T zz s => ?_) ?_; clear_value s; rotate_left; subst s) | (intro v; try clear_value v)
    | with_reducible apply State.raise_kept | with_reducible apply State.mbxErr_kept | with_reducible apply State.wr_kept
    | with_reducible apply Kept.ite

theorem State.cqHead_kept {T : List Comp} {zz s : State} (hT : [.regs] ⊆ T) (x : Nat) (hh : Kept T zz s) : Kept T zz
    (State.cqHead s x) := by
  unfold State.cqHead
  repeat' first
    | with_reducible assumption | exact keptSub (by decide) hT | with_reducible apply State.wr_kept

theorem State.startCmd_kept {T : List Comp} {zz s : State} (hT : [.free, .mbx, .sec] ⊆ T) (c : Cmd) (hh : Kept T zz s) : Kept
    T zz (State.startCmd s c) := by
  unfold State.startCmd
  try lift_lets
  repeat' first
    | with_reducible assumption | exact keptSub (by decide) hT
    | (intro s; refine (fun hk : Kept T zz s => ?_) ?_; clear_value s; rotate_left; subst s) | (intro v; try clear_value v)
    | with_reducible apply State.touch_kept | with_reducible apply State.freeBytes_kept
    | with_reducible (apply Kept.snd; apply State.freeBytes_kept)
    | with_reducible (refine Kept.eq2 (by assumption) ?_; apply State.freeBytes_kept)
    | with_reducible apply State.setMbx_kept | with_reducible apply State.updCmd_kept | with_reducible apply Kept.ite
    | with_reducible apply Kept2.ite | with_reducible apply Kept2.mk | split | lift_lets

theorem State.schedule_kept {T : List Comp} {zz s : State} (hT : [.free, .mbx, .sec] ⊆ T) (hh : Kept T zz s) : Kept T zz
    (State.schedule s) := by
  unfold State.schedule
  try lift_lets
  repeat' first
    | with_reducible assumption | exact keptSub (by decide) hT
    | (intro s; refine (fun hk : Kept T zz s => ?_) ?_; clear_value s; rotate_left; subst s) | (intro v; try clear_value v)
    | with_reducible apply State.startCmd_kept | with_reducible apply State.setMbx_kept | with_reducible apply Kept.ite
    | split

theorem State.onCmd_kept {T : List Comp} {zz s : State} (hT : [.mbx] ⊆ T) (p : Cmd → Bool) (f : Cmd → State) (hf : ∀ c, Kept T zz (f c)) (hh : Kept T zz
    s) : Kept T zz (State.onCmd s p f) := by
  unfold State.onCmd
  split
  · exact hh
  · refine Kept.ite hh (Kept.ite (hf _) ?_)
    split
    · exact State.finishCmd_kept (keptSub (by decide) hT) _ _ _ _ hh
    · exact hf _

theorem State.sendReply_kept {T : List Comp} {zz s : State} (hT : [.regs, .ring, .ptp] ⊆ T) (p ctx mac seq : Nat) (body :
    List Byte) (hh : Kept T zz s) : Kept T zz (State.sendReply s p ctx mac seq body) := by
  unfold State.sendReply
  repeat' first
    | with_reducible assumption | exact keptSub (by decide) hT | with_reducible apply State.toLocal_kept

theorem State.removeCmd_kept {T : List Comp} {zz s : State} (hT : [.mbx] ⊆ T) (id : Nat) (hh : Kept T zz s) : Kept T zz
    (State.removeCmd s id) := by
  unfold State.removeCmd
  repeat' first
    | with_reducible assumption | exact keptSub (by decide) hT | with_reducible apply State.setMbx_kept

theorem State.postQspi_kept {T : List Comp} {zz s : State} (hT : [.regs, .free, .icu, .nw, .pwr, .mbx] ⊆ T) (c : Cmd) (hh :
    Kept T zz s) : Kept T zz (State.postQspi s c) := by
  unfold State.postQspi
  try lift_lets
  repeat' first
    | with_reducible assumption | exact keptSub (by decide) hT | (intro v; try clear_value v)
    | with_reducible apply State.raise_kept | with_reducible apply State.ramWrite_kept
    | with_reducible apply State.freeBytes_kept
    | with_reducible (refine Kept.eq2 (by assumption) ?_; apply State.freeBytes_kept) | with_reducible apply State.fresh_kept
    | with_reducible (refine Kept.eq2 (by assumption) ?_; apply State.fresh_kept) | with_reducible apply State.removeCmd_kept
    | with_reducible apply State.wr_kept | with_reducible apply Kept.ite | with_reducible apply Kept2.ite
    | with_reducible apply Kept2.mk | split

theorem State.postRing_kept {T : List Comp} {zz s : State} (hT : [.regs, .ring, .ptp, .mbx] ⊆ T) (c : Cmd) (hh : Kept T zz s)
    : Kept T zz (State.postRing s c) := by
  unfold State.postRing
  try lift_lets
  repeat' first
    | with_reducible assumption | exact keptSub (by decide) hT
    | (intro s; refine (fun hk : Kept T zz s => ?_) ?_; clear_value s; rotate_left; subst s) | (intro v; try clear_value v)
    | with_reducible apply State.removeCmd_kept | with_reducible apply State.setRingCtx_kept
    | with_reducible apply State.sendReply_kept | with_reducible apply Kept.ite | split | lift_lets

theorem State.postOne_kept {T : List Comp} {zz s : State} (hT : [.regs, .free, .icu, .nw, .pwr, .ring, .ptp, .mbx] ⊆ T) (hh :
    Kept T zz s) : Kept T zz (State.postOne s) := by
  unfold State.postOne
  repeat' first
    | with_reducible assumption | exact keptSub (by decide) hT | with_reducible apply State.postQspi_kept
    | with_reducible apply State.postRing_kept | with_reducible apply State.removeCmd_kept | with_reducible apply Kept.ite
    | split

theorem State.mbxReset_kept {T : List Comp} {zz s : State} (hT : [.regs, .ctx, .sec] ⊆ T) (key : Nat) (hh : Kept T zz s) :
    Kept T zz (State.mbxReset s key) := by
  unfold State.mbxReset
  repeat' first
    | with_reducible assumption | exact keptSub (by decide) hT | with_reducible apply State.dropNonce_kept
    | with_reducible apply State.putFlag_kept | with_reducible apply State.setCopy_kept | with_reducible apply Kept.ite

theorem State.mbxResetDone_kept {T : List Comp} {zz s : State} (hT : [.regs, .mbx, .sec] ⊆ T) (hh : Kept T zz s) : Kept T zz
    (State.mbxResetDone s) := by
  unfold State.mbxResetDone
  try lift_lets
  repeat' first
    | with_reducible assumption | exact keptSub (by decide) hT
    | (intro s; refine (fun hk : Kept T zz s => ?_) ?_; clear_value s; rotate_left; subst s) | (intro v; try clear_value v)
    | with_reducible apply State.setMbx_kept | with_reducible apply State.wr_kept | with_reducible apply State.putFlag_kept
    | with_reducible apply State.endElev_kept | with_reducible apply State.dropNonce_kept | with_reducible apply Kept.ite
    | with_reducible (apply Kept.fold; intro _ _ _) | split | lift_lets

theorem State.dropCtx_kept {T : List Comp} {zz s : State} (hT : [.mbx, .sec] ⊆ T) (c : Nat) (hh : Kept T zz s) : Kept T zz
    (State.dropCtx s c) := by
  unfold State.dropCtx
  try lift_lets
  repeat' first
    | with_reducible assumption | exact keptSub (by decide) hT
    | (intro s; refine (fun hk : Kept T zz s => ?_) ?_; clear_value s; rotate_left; subst s) | (intro v; try clear_value v)
    | with_reducible apply State.setRingCtx_kept | with_reducible apply State.endElev_kept
    | with_reducible apply State.dropNonce_kept | with_reducible apply State.setMbx_kept | with_reducible apply Kept.ite
    | split | lift_lets

theorem State.openCtx_kept {T : List Comp} {zz s : State} (hT : [.ctx, .mbx, .sec] ⊆ T) (c mac : Nat) (hh : Kept T zz s) :
    Kept T zz (State.openCtx s c mac) := by
  unfold State.openCtx
  repeat' first
    | with_reducible assumption | exact keptSub (by decide) hT | with_reducible apply State.setRingCtx_kept
    | with_reducible apply State.dropCtx_kept | with_reducible apply State.setCopy_kept

theorem State.ctxFor_kept {T : List Comp} {zz s : State} (hT : [.ctx, .mbx, .sec] ⊆ T) (mac : Nat) (hh : Kept T zz s) : Kept2
    T zz (State.ctxFor s mac) := by
  unfold State.ctxFor
  repeat' first
    | with_reducible assumption | exact keptSub (by decide) hT | with_reducible apply State.openCtx_kept
    | with_reducible apply Kept.ite | with_reducible apply Kept2.ite | with_reducible apply Kept2.mk | split

theorem State.ringCmd_kept {T : List Comp} {zz s : State} (hT : [.regs, .icu, .nw, .pwr, .ring, .ptp, .mbx] ⊆ T) (c p mac seq
    : Nat) (body : List Byte) (hh : Kept T zz s) : Kept T zz (State.ringCmd s c p mac seq body) := by
  unfold State.ringCmd
  try lift_lets
  repeat' first
    | with_reducible assumption | exact keptSub (by decide) hT
    | (intro s; refine (fun hk : Kept T zz s => ?_) ?_; clear_value s; rotate_left; subst s) | (intro v; try clear_value v)
    | with_reducible apply State.setRingCtx_kept | with_reducible apply State.bump_kept
    | with_reducible apply State.sendReply_kept | with_reducible apply State.addCmd_kept
    | with_reducible apply State.takeCmd_kept | with_reducible apply Kept.ite | split | lift_lets

theorem State.ringCmdFrame_kept {T : List Comp} {zz s : State} (hT : [.regs, .icu, .nw, .pwr, .ctx, .ring, .ptp, .mbx, .sec]
    ⊆ T) (p mac seq : Nat) (body : List Byte) (hh : Kept T zz s) : Kept T zz (State.ringCmdFrame s p mac seq body) := by
  unfold State.ringCmdFrame
  try lift_lets
  repeat' first
    | with_reducible assumption | exact keptSub (by decide) hT
    | (intro s; refine (fun hk : Kept T zz s => ?_) ?_; clear_value s; rotate_left; subst s) | (intro v; try clear_value v)
    | with_reducible apply State.copyTaken_kept | with_reducible apply State.ctxFor_kept
    | with_reducible (apply Kept.snd; apply State.ctxFor_kept)
    | with_reducible (refine Kept.eq2 (by assumption) ?_; apply State.ctxFor_kept)
    | with_reducible apply State.ringCmd_kept | with_reducible apply State.sendReply_kept | with_reducible apply Kept.ite
    | with_reducible apply Kept2.ite | with_reducible apply Kept2.mk | split | lift_lets

theorem State.replyDrop_kept {T : List Comp} {zz s : State} (hT : [.ring] ⊆ T) (p : Nat) (hh : Kept T zz s) : Kept T zz
    (State.replyDrop s p) := by
  unfold State.replyDrop
  try lift_lets
  repeat' first
    | with_reducible assumption | exact keptSub (by decide) hT
    | (intro s; refine (fun hk : Kept T zz s => ?_) ?_; clear_value s; rotate_left; subst s) | (intro v; try clear_value v)
    | with_reducible apply State.setEgress_kept | with_reducible apply State.refill_kept | with_reducible apply Kept.ite
    | split | lift_lets

theorem State.ctxIdle_kept {T : List Comp} {zz s : State} (hT : [.mbx, .sec] ⊆ T) (c : Nat) (hh : Kept T zz s) : Kept T zz
    (State.ctxIdle s c) := by
  unfold State.ctxIdle
  try lift_lets
  repeat' first
    | with_reducible assumption | exact keptSub (by decide) hT | (intro v; try clear_value v)
    | with_reducible apply State.dropCtx_kept | with_reducible apply Kept.ite

theorem State.restartCmds_kept {T : List Comp} {zz s : State} (hT : [.mbx, .sec] ⊆ T) (hh : Kept T zz s) : Kept T zz
    (State.restartCmds s) := by
  unfold State.restartCmds
  try lift_lets
  repeat' first
    | with_reducible assumption | exact keptSub (by decide) hT
    | (intro s; refine (fun hk : Kept T zz s => ?_) ?_; clear_value s; rotate_left; subst s) | (intro v; try clear_value v)
    | with_reducible apply State.setMbx_kept | with_reducible apply State.dropCtx_kept
    | with_reducible apply State.endElev_kept | with_reducible apply State.dropNonce_kept | with_reducible apply Kept.ite
    | with_reducible (apply Kept.fold; intro _ _ _) | split | lift_lets

end Sys2Proof.Machine
end

