-- ==== Sys2Proof/Laws/FramesTop.lean ====
section
/-! SUPPORT. What each operation may write, one lemma per operation: configuration, cores, self-test, power, host interface. -/

-- Proofs elaborated beside each other need more threads than the package's memory limit allows.
set_option Elab.async false
-- One proof script serves many operations, so a step or a name of it may have no use in some.
set_option linter.unusedVariables false
set_option linter.unusedTactic false
set_option linter.unreachableTactic false

namespace Sys2Proof.Machine

theorem State.setCfg_kept {T : List Comp} {zz s : State} (hT : [.cfg] ⊆ T) (x : Cfg) (hh : Kept T zz s) : Kept T zz
    (State.setCfg s x) := by
  unfold State.setCfg
  repeat' first
    | with_reducible assumption | exact keptSub (by decide) hT | with_reducible apply Kept.ite
    | fail_if_no_progress (with_reducible refine Kept.upd_cfg ?_ (has (by decide) hT))

theorem State.showStaging_kept {T : List Comp} {zz s : State} (hT : [.regs] ⊆ T) (hh : Kept T zz s) : Kept T zz
    (State.showStaging s) := by
  unfold State.showStaging
  repeat' first
    | with_reducible assumption | exact keptSub (by decide) hT | with_reducible apply State.put_kept
    | with_reducible apply State.putFlag_kept

theorem State.setReport_kept {T : List Comp} {zz s : State} (hT : [.regs, .cfg] ⊆ T) (outcome : Nat) (r : CfgRep) (image
    present carried rej : Nat) (hh : Kept T zz s) : Kept T zz (State.setReport s outcome r image present carried rej) := by
  unfold State.setReport
  try lift_lets
  repeat' first
    | with_reducible assumption | exact keptSub (by decide) hT | (intro v; try clear_value v)
    | with_reducible apply State.setCfg_kept | with_reducible apply State.put_kept

theorem State.stageBlock_kept {T : List Comp} {zz s : State} (hT : [.regs, .cfg] ⊆ T) (c : Nat) (b : List Byte) (hh : Kept T
    zz s) : Kept1 T zz (s.stageBlock c b) := by
  unfold State.stageBlock
  have k : ∀ (x : Cfg) (v : Nat), Kept1 T zz ((s.setCfg x).showStaging, v) :=
    fun x _ => State.showStaging_kept (keptSub (by decide) hT) (State.setCfg_kept (keptSub (by decide) hT) x hh)
  repeat' first
    | exact Kept1.mk hh
    | exact k _ _
    | apply Kept1.ite
    | split

theorem State.dropStaging_kept {T : List Comp} {zz s : State} (hT : [.regs, .cfg] ⊆ T) (hh : Kept T zz s) : Kept T zz
    (State.dropStaging s) := by
  unfold State.dropStaging
  repeat' first
    | with_reducible assumption | exact keptSub (by decide) hT | with_reducible apply State.showStaging_kept
    | with_reducible apply State.setCfg_kept

theorem State.effRules_kept {T : List Comp} {zz s : State} (hT : [.regs, .rule, .res] ⊆ T) (old : State) (hh : Kept T zz s) :
    Kept T zz (State.effRules old s) := by
  unfold State.effRules
  try lift_lets
  repeat' first
    | with_reducible assumption | exact keptSub (by decide) hT
    | (intro s; refine (fun hk : Kept T zz s => ?_) ?_; clear_value s; rotate_left; subst s) | (intro v; try clear_value v)
    | with_reducible apply State.ruleStat_kept | with_reducible apply State.put_kept | with_reducible apply Kept.ite
    | with_reducible (apply Kept.fold; intro _ _ _)
    | fail_if_no_progress (with_reducible refine Kept.upd_rule ?_ (has (by decide) hT))
    | fail_if_no_progress (with_reducible refine Kept.upd_res ?_ (has (by decide) hT)) | split | lift_lets

theorem State.effObs_kept {T : List Comp} {zz s : State} (hT : [.obs] ⊆ T) (old : State) (hh : Kept T zz s) : Kept T zz
    (State.effObs old s) := by
  have h : ∀ o, Kept T zz { s with obs := o } := fun o => hh.upd_obs (has (by decide) hT)
  exact Kept.ite (h _) (State.writeTimeSlots_kept (keptSub (by decide) hT) (State.evalTwins_kept (keptSub (by decide) hT) (h _)))

theorem State.effBright_kept {T : List Comp} {zz s : State} (hT : [.regs, .dim] ⊆ T) (old : State) (hh : Kept T zz s) : Kept
    T zz (State.effBright old s) := by
  unfold State.effBright
  have key : ∀ u : State, Kept T zz u →
      Kept T zz (if u.get fBIN_INPUT = 1 then u.putFlag fDIM_BIN_RANGE false else u.putFlag fDIM_BIN_LOST false) := fun u hu =>
    Kept.ite (State.putFlag_kept (keptSub (by decide) hT) _ _ hu) (State.putFlag_kept (keptSub (by decide) hT) _ _ hu)
  exact key _ (hh.upd_dim (has (by decide) hT))

theorem State.effLoops_kept {T : List Comp} {zz s : State} (hT : [.regs] ⊆ T) (old : State) (hh : Kept T zz s) : Kept T zz
    (State.effLoops old s) := by
  unfold State.effLoops
  try lift_lets
  repeat' first
    | with_reducible assumption | exact keptSub (by decide) hT
    | (intro s; refine (fun hk : Kept T zz s => ?_) ?_; clear_value s; rotate_left; subst s) | (intro v; try clear_value v)
    | with_reducible apply State.wr_kept | with_reducible apply State.put_kept | with_reducible apply Kept.ite
    | with_reducible (apply Kept.fold; intro _ _ _) | split | lift_lets

theorem State.effAdc_kept {T : List Comp} {zz s : State} (hT : [.adc] ⊆ T) (old : State) (hh : Kept T zz s) : Kept T zz
    (State.effAdc old s) := by
  unfold State.effAdc
  try lift_lets
  repeat' first
    | with_reducible assumption | exact keptSub (by decide) hT
    | (intro s; refine (fun hk : Kept T zz s => ?_) ?_; clear_value s; rotate_left; subst s) | (intro v; try clear_value v)
    | with_reducible apply State.setConv_kept | with_reducible apply State.seqRestart_kept | with_reducible apply Kept.ite
    | with_reducible (apply Kept.fold; intro _ _ _) | split | lift_lets

theorem State.effRing_kept {T : List Comp} {zz s : State} (hT : [.regs, .icu, .evt, .nw, .pwr, .ring, .ptp] ⊆ T) (old :
    State) (hh : Kept T zz s) : Kept T zz (State.effRing old s) := by
  unfold State.effRing
  try lift_lets
  repeat' first
    | with_reducible assumption | exact keptSub (by decide) hT
    | (intro s; refine (fun hk : Kept T zz s => ?_) ?_; clear_value s; rotate_left; subst s) | (intro v; try clear_value v)
    | with_reducible apply State.put_kept | with_reducible apply State.sfOnset_kept
    | with_reducible apply State.setRing_kept | with_reducible apply State.ldChanged_kept
    | with_reducible apply State.nbrAgain_kept | with_reducible apply Kept.ite
    | with_reducible (apply Kept.fold; intro _ _ _) | split | lift_lets

theorem State.effTime_kept {T : List Comp} {zz s : State} (hT : [.regs, .time, .obs, .dim] ⊆ T) (old : State) (hh : Kept T zz
    s) : Kept T zz (State.effTime old s) := by
  unfold State.effTime
  try lift_lets
  repeat' first
    | with_reducible assumption | exact keptSub (by decide) hT
    | (intro s; refine (fun hk : Kept T zz s => ?_) ?_; clear_value s; rotate_left; subst s) | (intro v; try clear_value v)
    | with_reducible apply State.localMoved_kept | with_reducible apply State.schedJudge_kept
    | with_reducible apply State.wr_kept | with_reducible apply Kept.ite | with_reducible (apply Kept.fold; intro _ _ _)
    | fail_if_no_progress (with_reducible refine Kept.upd_time ?_ (has (by decide) hT)) | split

theorem State.effIcu_kept {T : List Comp} {zz s : State} (hT : [.icu] ⊆ T) (old : State) (hh : Kept T zz s) : Kept T zz
    (State.effIcu old s) := by
  unfold State.effIcu
  try lift_lets
  repeat' first
    | with_reducible assumption | exact keptSub (by decide) hT | with_reducible apply State.refreshIcu_kept
    | with_reducible apply Kept.ite | with_reducible (apply Kept.fold; intro _ _ _)
    | fail_if_no_progress (with_reducible refine Kept.upd_icu ?_ (has (by decide) hT))

theorem State.effMorn_kept {T : List Comp} {zz s : State} (hT : [.pwr] ⊆ T) (old : State) (hh : Kept T zz s) : Kept T zz
    (State.effMorn old s) := by
  unfold State.effMorn
  repeat' first
    | with_reducible assumption | exact keptSub (by decide) hT | with_reducible apply Kept.ite
    | fail_if_no_progress (with_reducible refine Kept.upd_pwr ?_ (has (by decide) hT)) | split

theorem State.effPat_kept {T : List Comp} {zz s : State} (hT : [.dim] ⊆ T) (old : State) (hh : Kept T zz s) : Kept T zz
    (State.effPat old s) := by
  unfold State.effPat
  repeat' first
    | with_reducible assumption | exact keptSub (by decide) hT | with_reducible apply Kept.ite
    | with_reducible (apply Kept.fold; intro _ _ _)
    | fail_if_no_progress (with_reducible refine Kept.upd_dim ?_ (has (by decide) hT))

theorem State.effLamp_kept {T : List Comp} {zz s : State} (hT : [.regs, .mem, .chans] ⊆ T) (old : State) (r : CfgRep) (hh :
    Kept T zz s) : Kept T zz (State.effLamp old s r) := by
  unfold State.effLamp
  try lift_lets
  repeat' first
    | with_reducible assumption | exact keptSub (by decide) hT
    | (intro s; refine (fun hk : Kept T zz s => ?_) ?_; clear_value s; rotate_left; subst s) | (intro v; try clear_value v)
    | with_reducible apply State.forgetSig_kept | with_reducible apply State.put_kept
    | with_reducible apply State.putFlag_kept | with_reducible apply Kept.ite | with_reducible (apply Kept.fold; intro _ _ _)

theorem State.putWords_kept {T : List Comp} {zz s : State} (hT : [.regs, .cfg] ⊆ T) (t : Tab Word) (loop : Bool) (hh : Kept T
    zz s) : Kept T zz (s.putWords t loop) := by
  unfold State.putWords
  exact (hh.upd_regs _ (has (by decide) hT) fun k => TabWf_foldSet _ (TabWf_filter _ k.1)).upd_cfg (has (by decide) hT)

theorem State.activate_kept {T : List Comp} {zz s : State} (hT : [.regs, .time, .icu, .evt, .nw, .mem, .life, .pwr, .obs,
    .rule, .cfg, .chans, .res, .dim, .adc, .ring, .ptp] ⊆ T) (t : Tab Word) (loop : Bool) (d : Tab Nat) (r : CfgRep) (slot
    gen : Nat) (hh : Kept T zz s) : Kept T zz (State.activate s t loop d r slot gen) := by
  unfold State.activate
  try lift_lets
  repeat' first
    | with_reducible assumption | exact keptSub (by decide) hT
    | (intro s; refine (fun hk : Kept T zz s => ?_) ?_; clear_value s; rotate_left; subst s) | (intro v; try clear_value v)
    | with_reducible apply State.putWords_kept | with_reducible apply State.setCfg_kept
    | with_reducible apply State.put_kept | with_reducible apply State.wr_kept | with_reducible apply State.putFlag_kept
    | with_reducible apply State.lifeAcc_kept | with_reducible apply State.effLamp_kept
    | with_reducible apply State.effRules_kept | with_reducible apply State.effObs_kept
    | with_reducible apply State.effLoops_kept | with_reducible apply State.effBright_kept
    | with_reducible apply State.effAdc_kept | with_reducible apply State.effRing_kept
    | with_reducible apply State.effTime_kept | with_reducible apply State.effIcu_kept
    | with_reducible apply State.effMorn_kept | with_reducible apply State.effPat_kept
    | with_reducible apply State.discN_kept | with_reducible apply Kept.ite | split | lift_lets

theorem State.setCfgSlot_kept {T : List Comp} {zz s : State} (hT : [.cfg] ⊆ T) (i : Nat) (x : CfgSlot) (hh : Kept T zz s) :
    Kept T zz (State.setCfgSlot s i x) := by
  unfold State.setCfgSlot
  repeat' first
    | with_reducible assumption | exact keptSub (by decide) hT | with_reducible apply State.setCfg_kept

theorem State.fwMark_kept {T : List Comp} {zz s : State} (hT : [.sec, .fspi] ⊆ T) (i : Nat) (hh : Kept T zz s) : Kept T zz
    (State.fwMark s i) := by
  unfold State.fwMark
  try lift_lets
  repeat' first
    | with_reducible assumption | exact keptSub (by decide) hT
    | (intro s; refine (fun hk : Kept T zz s => ?_) ?_; clear_value s; rotate_left; subst s)
    | with_reducible exact fun h => h | with_reducible exact fun _ => rfl | with_reducible exact Nat.le_refl _
    | exact fun h => h | exact Nat.le_refl _ | (intro (v : Sec); subst v) | (intro v; try clear_value v)
    | with_reducible apply State.setFwSlot_kept | with_reducible apply State.setSec_kept
    | with_reducible apply State.flash_kept | with_reducible apply Kept.ite | split | lift_lets

theorem State.cfgMarkSlot_kept {T : List Comp} {zz s : State} (hT : [.cfg, .fspi] ⊆ T) (i : Nat) (hh : Kept T zz s) : Kept T
    zz (State.cfgMarkSlot s i) := by
  unfold State.cfgMarkSlot
  repeat' first
    | with_reducible assumption | exact keptSub (by decide) hT | with_reducible apply State.setCfgSlot_kept
    | with_reducible apply State.flash_kept | with_reducible apply Kept.ite | split

theorem State.cfgMark_kept {T : List Comp} {zz s : State} (hT : [.regs, .cfg, .mbx, .fspi] ⊆ T) (hh : Kept T zz s) : Kept T
    zz (State.cfgMark s) := by
  unfold State.cfgMark
  try lift_lets
  repeat' first
    | with_reducible assumption | exact keptSub (by decide) hT
    | (intro s; refine (fun hk : Kept T zz s => ?_) ?_; clear_value s; rotate_left; subst s) | (intro v; try clear_value v)
    | with_reducible apply State.setCfg_kept | with_reducible apply State.cfgMarkSlot_kept
    | with_reducible apply State.putFlag_kept | with_reducible apply State.setReport_kept
    | with_reducible apply State.finishCmd_kept | with_reducible apply Kept.ite | split | lift_lets

theorem State.cfgActivate_kept {T : List Comp} {zz s : State} (hT : [.regs, .time, .icu, .evt, .nw, .mem, .life, .pwr, .obs,
    .rule, .cfg, .chans, .res, .dim, .adc, .ring, .ptp, .mbx, .sec, .fspi] ⊆ T) (hh : Kept T zz s) : Kept T zz
    (State.cfgActivate s) := by
  unfold State.cfgActivate
  try lift_lets
  repeat' first
    | with_reducible assumption | exact keptSub (by decide) hT
    | (intro s; refine (fun hk : Kept T zz s => ?_) ?_; clear_value s; rotate_left; subst s) | (intro v; try clear_value v)
    | with_reducible apply State.setCfg_kept | with_reducible apply State.finishCmd_kept
    | with_reducible apply State.activate_kept | with_reducible apply State.fwMark_kept | with_reducible apply Kept.ite
    | fail_if_no_progress (with_reducible refine Kept.upd_rule ?_ (has (by decide) hT)) | split | lift_lets

theorem State.periodStart_kept {T : List Comp} {zz s : State} (hT : [.regs, .grid, .time, .icu, .evt, .nw, .mem, .life, .pwr,
    .obs, .rule, .cfg, .chans, .res, .dim, .adc, .ring, .ptp, .mbx, .sec, .fspi] ⊆ T) (hh : Kept T zz s) : Kept T zz
    (State.periodStart s) := by
  unfold State.periodStart
  repeat' first
    | with_reducible assumption | exact keptSub (by decide) hT | with_reducible apply State.takeEvent_kept
    | with_reducible apply State.cfgActivate_kept | with_reducible apply State.ruleStart_kept
    | with_reducible apply Kept.ite | split

theorem State.cfgReject_kept {T : List Comp} {zz s : State} (hT : [.regs, .cfg, .mbx] ⊆ T) (job st outcome image rej : Nat)
    (r : CfgRep) (present carried : Nat) (hh : Kept T zz s) : Kept T zz (State.cfgReject s job st outcome image rej r present
    carried) := by
  unfold State.cfgReject
  repeat' first
    | with_reducible assumption | exact keptSub (by decide) hT | with_reducible apply State.setReport_kept
    | with_reducible apply State.finishCmd_kept | with_reducible apply Kept.ite | split

theorem State.fwWrite_kept {T : List Comp} {zz s : State} (hT : [.sec, .fspi] ⊆ T) (body : List Byte) (hh : Kept T zz s) :
    Kept1 T zz (State.fwWrite s body) := by
  unfold State.fwWrite
  try lift_lets
  repeat' first
    | with_reducible assumption | exact keptSub (by decide) hT
    | (intro s; refine (fun hk : Kept T zz s => ?_) ?_; clear_value s; rotate_left; subst s) | (intro v; try clear_value v)
    | with_reducible apply State.setFwSlot_kept | with_reducible apply State.flash_kept | with_reducible apply Kept.ite
    | with_reducible apply Kept1.ite | with_reducible apply Kept1.mk | split | lift_lets

theorem State.cfgApply_kept {T : List Comp} {zz s : State} (hT : [.regs, .time, .icu, .evt, .nw, .mem, .life, .pwr, .obs,
    .rule, .cfg, .chans, .res, .dim, .adc, .ring, .ptp, .mbx, .sec, .fspi] ⊆ T) (job image : Nat) (check good : Bool) (ss :
    List CfgSec) (hh : Kept T zz s) : Kept T zz (State.cfgApply s job image check good ss) := by
  unfold State.cfgApply
  try lift_lets
  repeat' first
    | with_reducible assumption | exact keptSub (by decide) hT
    | (intro s; refine (fun hk : Kept T zz s => ?_) ?_; clear_value s; rotate_left; subst s) | (intro v; try clear_value v)
    | with_reducible apply State.setReport_kept | with_reducible apply State.finishCmd_kept
    | with_reducible apply State.fwMark_kept | with_reducible apply State.put_kept | with_reducible apply State.setCfg_kept
    | with_reducible apply State.flash_kept | with_reducible apply State.cfgReject_kept
    | with_reducible apply State.setCfgSlot_kept | with_reducible apply State.longCmd_kept
    | with_reducible apply State.cfgActivate_kept | with_reducible apply State.cfgMark_kept | with_reducible apply Kept.ite
    | with_reducible (apply Kept.fold; intro _ _ _) | split | lift_lets

theorem State.cfgCommit_kept {T : List Comp} {zz s : State} (hT : [.regs, .time, .icu, .evt, .nw, .mem, .life, .pwr, .obs,
    .rule, .cfg, .chans, .res, .dim, .adc, .ring, .ptp, .mbx, .sec, .fspi] ⊆ T) (good : Bool) (c : Cmd) (hh : Kept T zz s) :
    Kept T zz (State.cfgCommit s good c) := by
  unfold State.cfgCommit
  try lift_lets
  repeat' first
    | with_reducible assumption | exact keptSub (by decide) hT
    | (intro s; refine (fun hk : Kept T zz s => ?_) ?_; clear_value s; rotate_left; subst s) | (intro v; try clear_value v)
    | with_reducible apply State.finishCmd_kept | with_reducible apply State.cfgReject_kept
    | with_reducible apply State.cfgApply_kept | with_reducible apply State.fwWrite_kept
    | with_reducible (apply Kept.fst; apply State.fwWrite_kept)
    | with_reducible (refine Kept.eq1 (by assumption) ?_; apply State.fwWrite_kept) | with_reducible apply Kept.ite
    | with_reducible apply Kept1.ite | with_reducible apply Kept1.mk | split | lift_lets

theorem State.loadSlot_kept {T : List Comp} {zz s : State} (hT : [.regs, .time, .icu, .evt, .nw, .mem, .life, .pwr, .obs,
    .rule, .cfg, .chans, .res, .dim, .adc, .ring, .ptp, .fspi] ⊆ T) (i : Nat) (hh : Kept T zz s) : Kept T zz (State.loadSlot
    s i) := by
  unfold State.loadSlot
  try lift_lets
  repeat' first
    | with_reducible assumption | exact keptSub (by decide) hT
    | (intro s; refine (fun hk : Kept T zz s => ?_) ?_; clear_value s; rotate_left; subst s) | (intro v; try clear_value v)
    | with_reducible apply State.activate_kept | with_reducible apply State.flash_kept
    | with_reducible apply State.setReport_kept | with_reducible apply Kept.ite | split | lift_lets

theorem State.loadConfig_kept {T : List Comp} {zz s : State} (hT : [.regs, .time, .icu, .evt, .nw, .mem, .life, .pwr, .obs,
    .rule, .cfg, .chans, .res, .dim, .adc, .ring, .ptp, .fspi] ⊆ T) (hh : Kept T zz s) : Kept1 T zz (State.loadConfig s) :=
    by
  unfold State.loadConfig
  try lift_lets
  repeat' first
    | with_reducible assumption | exact keptSub (by decide) hT
    | (intro s; refine (fun hk : Kept T zz s => ?_) ?_; clear_value s; rotate_left; subst s) | (intro v; try clear_value v)
    | with_reducible apply State.loadSlot_kept | with_reducible apply State.put_kept
    | with_reducible apply State.putFlag_kept | with_reducible apply State.logFw_kept | with_reducible apply Kept.ite
    | with_reducible apply Kept1.ite | with_reducible apply Kept1.mk | with_reducible (apply Kept.fold; intro _ _ _) | split

theorem State.setNw_kept {T : List Comp} {zz s : State} (hT : [.nw] ⊆ T) (x : Nightwatch) (hh : Kept T zz s) : Kept T zz
    (State.setNw s x) := by
  unfold State.setNw
  repeat' first
    | with_reducible assumption | exact keptSub (by decide) hT | with_reducible apply Kept.ite
    | fail_if_no_progress (with_reducible refine Kept.upd_nw ?_ (has (by decide) hT))

theorem State.afresh_kept {T : List Comp} {zz s : State} (hT : [.regs, .grid, .time, .pins, .icu, .evt, .nw, .mem, .cap, .life, .pwr, .obs, .rule, .cfg, .ctx, .chans, .banks, .boost, .res, .dim, .mtx, .spi, .loops, .adc, .sto, .link, .ring, .ptp, .mbx, .sec, .bist, .fspi, .bus] ⊆ T) (hh : Kept T zz s) : Kept T zz (State.afresh s) :=
  ⟨hh.queue, hh.lock, hh.scan, hh.ctr, fun k => ⟨TabWf_nil _, TabWf_nil _, (hh.canon k).2.2⟩,
    fun c hc => by cases c <;> first | exact absurd (has (by decide) hT) hc | exact hh.same .free hc⟩

theorem State.dawnAgain_kept {T : List Comp} {zz s : State} (hT : [.regs, .grid, .time, .pins, .icu, .evt, .nw, .mem, .cap, .life, .pwr, .obs, .rule, .cfg, .ctx, .chans, .banks, .boost, .res, .dim, .mtx, .spi, .loops, .adc, .sto, .link, .ring, .ptp, .mbx, .sec, .bist, .fspi, .bus] ⊆ T) (hh : Kept T zz s) : Kept T zz (State.dawnAgain s) := by
  have hr : Kept T zz s.afresh := State.afresh_kept (keptSub (by decide) hT) hh
  have key : ∀ (r : State), Kept T zz r → ∀ (g : Grid) (t : TimeBase) (n : Nightwatch) (e : EvtLog) (m : Spi) (p : Pins) (w : Power),
      Kept T zz { r with grid := g, time := t, nw := n, evt := e, spi := m, pins := p, pwr := w } := fun r hr _ _ _ _ _ _ _ =>
    Kept.updM hr (fun c hc => by cases c <;> first | exact rfl | exact absurd (has (by decide) hT) hc) rfl rfl rfl rfl rfl
  unfold State.dawnAgain
  refine State.flashTable_kept (keptSub (by decide) hT) (State.put_kept (keptSub (by decide) hT) _ _ (State.putFlag_kept
    (keptSub (by decide) hT) _ _ (State.put_kept (keptSub (by decide) hT) _ _ (State.put_kept (keptSub (by decide) hT) _ _
    (Kept.fold (fun t a ht => State.wr_kept (keptSub (by decide) hT) _ _ ht) ?_)))))
  exact key _ hr _ _ _ _ _ _ _

theorem State.mornAbort_kept {T : List Comp} {zz s : State} (hT : [.regs, .pwr, .banks] ⊆ T) (hh : Kept T zz s) : Kept T zz
    (State.mornAbort s) := by
  unfold State.mornAbort
  try lift_lets
  repeat' first
    | with_reducible assumption | exact keptSub (by decide) hT
    | (intro s; refine (fun hk : Kept T zz s => ?_) ?_; clear_value s; rotate_left; subst s) | (intro v; try clear_value v)
    | with_reducible apply State.bankClose_kept | with_reducible apply State.mornDrop_kept | with_reducible apply Kept.ite
    | with_reducible (apply Kept.fold; intro _ _ _) | split | lift_lets

theorem State.sc0Lost_kept {T : List Comp} {zz s : State} (hT : [.regs, .icu, .nw, .pwr, .banks] ⊆ T) (cause addr : Nat) (hh
    : Kept T zz s) : Kept T zz (State.sc0Lost s cause addr) := by
  unfold State.sc0Lost
  try lift_lets
  repeat' first
    | with_reducible assumption | exact keptSub (by decide) hT
    | (intro s; refine (fun hk : Kept T zz s => ?_) ?_; clear_value s; rotate_left; subst s) | (intro v; try clear_value v)
    | with_reducible apply State.setNw_kept | with_reducible apply State.putFlag_kept
    | with_reducible apply State.mornAbort_kept | with_reducible apply State.duskAbandon_kept
    | with_reducible apply State.put_kept | with_reducible apply State.fltSet_kept | with_reducible apply Kept.ite | split
    | lift_lets

theorem State.sc0Beat_kept {T : List Comp} {zz s : State} (hT : [.regs, .icu, .nw, .pwr, .banks] ⊆ T) (code : Nat) (hh : Kept
    T zz s) : Kept T zz (State.sc0Beat s code) := by
  unfold State.sc0Beat
  repeat' first
    | with_reducible assumption | exact keptSub (by decide) hT | with_reducible apply State.sc0Lost_kept
    | with_reducible apply State.setNw_kept | with_reducible apply Kept.ite

theorem State.sc0Ends_kept {T : List Comp} {zz s : State} (hT : [.regs, .evt, .cfg, .chans, .mtx, .spi, .adc, .mbx, .sec,
    .bist] ⊆ T) (hh : Kept T zz s) : Kept T zz (State.sc0Ends s) := by
  unfold State.sc0Ends
  try lift_lets
  repeat' first
    | with_reducible assumption | exact keptSub (by decide) hT
    | (intro s; refine (fun hk : Kept T zz s => ?_) ?_; clear_value s; rotate_left; subst s) | (intro v; try clear_value v)
    | with_reducible apply State.bistStop_kept | with_reducible apply State.restartCmds_kept
    | with_reducible apply State.placeMove_kept | with_reducible apply State.adcKick_kept
    | with_reducible apply State.setCfg_kept | with_reducible apply State.dropStaging_kept | with_reducible apply Kept.ite
    | fail_if_no_progress (with_reducible refine Kept.upd_adc ?_ (has (by decide) hT)) | split | lift_lets

theorem State.markAgain_kept {T : List Comp} {zz s : State} (hT : [.regs, .cfg, .fspi] ⊆ T) (hh : Kept T zz s) : Kept T zz
    (State.markAgain s) := by
  unfold State.markAgain
  try lift_lets
  repeat' first
    | with_reducible assumption | exact keptSub (by decide) hT
    | (intro s; refine (fun hk : Kept T zz s => ?_) ?_; clear_value s; rotate_left; subst s) | (intro v; try clear_value v)
    | with_reducible apply State.cfgMarkSlot_kept | with_reducible apply State.putFlag_kept | with_reducible apply Kept.ite
    | split | lift_lets

theorem State.sc0Reset_kept {T : List Comp} {zz s : State} (hT : [.regs, .grid, .time, .pins, .icu, .evt, .nw, .mem, .cap,
    .life, .pwr, .obs, .rule, .cfg, .ctx, .chans, .banks, .boost, .res, .dim, .mtx, .spi, .loops, .adc, .sto, .link, .ring,
    .ptp, .mbx, .sec, .bist, .fspi, .bus] ⊆ T) (hh : Kept T zz s) : Kept T zz (State.sc0Reset s) := by
  unfold State.sc0Reset
  try lift_lets
  repeat' first
    | with_reducible assumption | exact keptSub (by decide) hT
    | (intro s; refine (fun hk : Kept T zz s => ?_) ?_; clear_value s; rotate_left; subst s) | (intro v; try clear_value v)
    | with_reducible apply State.midnightEnter_kept | with_reducible apply State.sc0Ends_kept
    | with_reducible apply State.setNw_kept | with_reducible apply State.put_kept
    | with_reducible apply State.dawnAgain_kept | with_reducible apply Kept.ite | split | lift_lets

theorem State.fwReload_kept {T : List Comp} {zz s : State} (hT : [.sec] ⊆ T) (hh : Kept T zz s) : Kept T zz (State.fwReload
    s) := by
  unfold State.fwReload
  repeat' first
    | with_reducible assumption | exact keptSub (by decide) hT | with_reducible apply State.fwLoad_kept
    | with_reducible apply Kept.ite | split

theorem State.tablesAgain_kept {T : List Comp} {zz s : State} (hT : [.regs, .time, .icu, .evt, .nw, .mem, .life, .pwr, .obs,
    .rule, .cfg, .chans, .res, .dim, .adc, .ring, .ptp, .fspi] ⊆ T) (reload : Bool) (hh : Kept T zz s) : Kept T zz
    (State.tablesAgain s reload) := by
  unfold State.tablesAgain
  try lift_lets
  repeat' first
    | with_reducible assumption | exact keptSub (by decide) hT
    | (intro s; refine (fun hk : Kept T zz s => ?_) ?_; clear_value s; rotate_left; subst s) | (intro v; try clear_value v)
    | with_reducible apply State.loadSlot_kept | with_reducible apply Kept.ite
    | fail_if_no_progress (with_reducible refine Kept.upd_rule ?_ (has (by decide) hT)) | split | lift_lets

theorem State.sc0Back_kept {T : List Comp} {zz s : State} (hT : [.regs, .time, .icu, .evt, .nw, .mem, .cap, .life, .pwr,
    .obs, .rule, .cfg, .chans, .res, .dim, .adc, .ring, .ptp, .sec, .fspi] ⊆ T) (reload : Bool) (hh : Kept T zz s) : Kept T
    zz (State.sc0Back s reload) := by
  unfold State.sc0Back
  try lift_lets
  repeat' first
    | with_reducible assumption | exact keptSub (by decide) hT
    | (intro s; refine (fun hk : Kept T zz s => ?_) ?_; clear_value s; rotate_left; subst s) | (intro v; try clear_value v)
    | with_reducible apply State.fwReload_kept | with_reducible apply State.markAgain_kept
    | with_reducible apply State.tablesAgain_kept | with_reducible apply State.putFlag_kept
    | with_reducible apply State.setNw_kept | with_reducible apply State.writeRec_kept
    | with_reducible apply State.flushNw_kept | with_reducible apply State.nwLog_kept
    | with_reducible apply State.refreshIcu_kept | with_reducible apply State.persistBegin_kept
    | with_reducible apply Kept.ite | split | lift_lets

theorem State.mastersGone_kept {T : List Comp} {zz s : State} (hT : [.regs, .time, .icu, .evt, .nw, .pwr, .ptp] ⊆ T) (hh :
    Kept T zz s) : Kept T zz (State.mastersGone s) := by
  unfold State.mastersGone
  repeat' first
    | with_reducible assumption | exact keptSub (by decide) hT | with_reducible apply State.setPtp_kept
    | with_reducible apply State.masterLost_kept

theorem State.sc1Stop_kept {T : List Comp} {zz s : State} (hT : [.regs, .time, .icu, .evt, .nw, .pwr, .ring, .ptp] ⊆ T) (hh :
    Kept T zz s) : Kept T zz (State.sc1Stop s) := by
  unfold State.sc1Stop
  try lift_lets
  repeat' first
    | with_reducible assumption | exact keptSub (by decide) hT
    | (intro s; refine (fun hk : Kept T zz s => ?_) ?_; clear_value s; rotate_left; subst s) | (intro v; try clear_value v)
    | with_reducible apply State.ldCancel_kept | with_reducible apply State.setPort_kept
    | with_reducible apply State.mastersGone_kept | with_reducible apply State.putFlag_kept | with_reducible apply Kept.ite
    | with_reducible (apply Kept.fold; intro _ _ _) | split | lift_lets

theorem State.sc1Lost_kept {T : List Comp} {zz s : State} (hT : [.regs, .time, .icu, .evt, .nw, .pwr, .ring, .ptp] ⊆ T)
    (cause addr : Nat) (hh : Kept T zz s) : Kept T zz (State.sc1Lost s cause addr) := by
  unfold State.sc1Lost
  try lift_lets
  repeat' first
    | with_reducible assumption | exact keptSub (by decide) hT
    | (intro s; refine (fun hk : Kept T zz s => ?_) ?_; clear_value s; rotate_left; subst s) | (intro v; try clear_value v)
    | with_reducible apply State.sc1Stop_kept | with_reducible apply State.fltSet_kept
    | with_reducible apply State.enqueue_kept | with_reducible apply State.putFlag_kept
    | with_reducible apply State.setNw_kept | with_reducible apply Kept.ite

theorem State.sc1Back_kept {T : List Comp} {zz s : State} (hT : [.regs, .nw, .ring, .ptp] ⊆ T) (hh : Kept T zz s) : Kept T zz
    (State.sc1Back s) := by
  unfold State.sc1Back
  try lift_lets
  repeat' first
    | with_reducible assumption | exact keptSub (by decide) hT
    | (intro s; refine (fun hk : Kept T zz s => ?_) ?_; clear_value s; rotate_left; subst s) | (intro v; try clear_value v)
    | with_reducible apply State.putFlag_kept | with_reducible apply State.setNw_kept
    | with_reducible apply State.sfTell_kept | with_reducible apply Kept.ite
    | with_reducible (apply Kept.fold; intro _ _ _) | split | lift_lets

theorem State.sfcLost_kept {T : List Comp} {zz s : State} (hT : [.regs, .pins, .icu, .evt, .nw, .mem, .cap, .life, .pwr,
    .obs, .chans, .banks, .boost, .mtx, .spi, .adc, .sto, .mbx, .bist, .fspi] ⊆ T) (hh : Kept T zz s) : Kept T zz
    (State.sfcLost s) := by
  unfold State.sfcLost
  try lift_lets
  repeat' first
    | with_reducible assumption | exact keptSub (by decide) hT
    | (intro s; refine (fun hk : Kept T zz s => ?_) ?_; clear_value s; rotate_left; subst s) | (intro v; try clear_value v)
    | with_reducible apply State.putFlag_kept | with_reducible apply State.midnightEnter_kept
    | with_reducible apply Kept.ite | fail_if_no_progress (with_reducible refine Kept.upd_sto ?_ (has (by decide) hT))
    | split | lift_lets

theorem State.lifeRepair_kept {T : List Comp} {zz s : State} (hT : [.mem] ⊆ T) (addr : Nat) (hh : Kept T zz s) : Kept T zz
    (State.lifeRepair s addr) := by
  unfold State.lifeRepair
  try lift_lets
  repeat' first
    | with_reducible assumption | exact keptSub (by decide) hT | (intro v; try clear_value v)
    | with_reducible apply State.memWrite_kept | with_reducible apply Kept.ite | split

theorem State.frameHit_kept {T : List Comp} {zz s : State} (hT : [.ring, .ptp] ⊆ T) (p : Nat) (hh : Kept T zz s) : Kept T zz
    (State.frameHit s p) := by
  unfold State.frameHit
  try lift_lets
  repeat' first
    | with_reducible assumption | exact keptSub (by decide) hT | (intro v; try clear_value v)
    | with_reducible apply State.setEgress_kept | with_reducible apply Kept.ite
    | fail_if_no_progress (with_reducible refine Kept.upd_ptp ?_ (has (by decide) hT)) | split

theorem State.templateHit_kept {T : List Comp} {zz s : State} (hT : [.regs, .ring, .ptp] ⊆ T) (d : Nat) (hh : Kept T zz s) :
    Kept T zz (State.templateHit s d) := by
  unfold State.templateHit
  try lift_lets
  repeat' first
    | with_reducible assumption | exact keptSub (by decide) hT
    | (intro s; refine (fun hk : Kept T zz s => ?_) ?_; clear_value s; rotate_left; subst s) | (intro v; try clear_value v)
    | with_reducible apply State.ldCntAll_kept | with_reducible apply State.ldCancel_kept | with_reducible apply Kept.ite
    | split | lift_lets

theorem State.eccReact_kept {T : List Comp} {zz s : State} (hT : [.regs, .time, .pins, .icu, .evt, .nw, .mem, .cap, .life,
    .pwr, .obs, .cfg, .chans, .banks, .boost, .mtx, .spi, .adc, .sto, .ring, .ptp, .mbx, .bist, .fspi] ⊆ T) (loc p addr :
    Nat) (hh : Kept T zz s) : Kept T zz (State.eccReact s loc p addr) := by
  unfold State.eccReact
  repeat' first
    | with_reducible assumption | exact keptSub (by decide) hT | with_reducible apply State.sc0Lost_kept
    | with_reducible apply State.setNw_kept | with_reducible apply State.sc1Lost_kept
    | with_reducible apply State.sfcLost_kept | with_reducible apply State.frameHit_kept
    | with_reducible apply State.lifeRepair_kept | with_reducible apply State.dropStaging_kept
    | with_reducible apply State.templateHit_kept | with_reducible apply State.memWrite_kept
    | with_reducible apply Kept.ite | split

theorem State.eccError_kept {T : List Comp} {zz s : State} (hT : [.regs, .time, .pins, .icu, .evt, .nw, .mem, .cap, .life,
    .pwr, .obs, .cfg, .chans, .banks, .boost, .mtx, .spi, .adc, .sto, .ring, .ptp, .mbx, .bist, .fspi] ⊆ T) (loc p addr :
    Nat) (hh : Kept T zz s) : Kept T zz (State.eccError s loc p addr) := by
  unfold State.eccError
  try lift_lets
  repeat' first
    | with_reducible assumption | exact keptSub (by decide) hT
    | (intro s; refine (fun hk : Kept T zz s => ?_) ?_; clear_value s; rotate_left; subst s)
    | with_reducible apply State.logEv_kept | with_reducible apply State.fltSet_kept
    | with_reducible apply State.eccReact_kept | with_reducible apply Kept.ite

theorem State.fltClrWrite_kept {T : List Comp} {zz s : State} (hT : [.regs, .banks] ⊆ T) (w : Nat) (hh : Kept T zz s) : Kept
    T zz (State.fltClrWrite s w) := by
  unfold State.fltClrWrite
  try lift_lets
  repeat' first
    | with_reducible assumption | exact keptSub (by decide) hT
    | (intro s; refine (fun hk : Kept T zz s => ?_) ?_; clear_value s; rotate_left; subst s)
    | with_reducible apply State.askReclose_kept | with_reducible apply State.fltClr_kept | with_reducible apply Kept.ite
    | with_reducible (apply Kept.fold; intro _ _ _)

theorem State.bistBegin_kept {T : List Comp} {zz s : State} (hT : [.regs, .bist] ⊆ T) (job : Option Nat) (sel : List Nat)
    (force stop : Bool) (hh : Kept T zz s) : Kept T zz (State.bistBegin s job sel force stop) := by
  unfold State.bistBegin
  repeat' first
    | with_reducible assumption | exact keptSub (by decide) hT | with_reducible apply State.setBist_kept
    | with_reducible apply State.putFlag_kept

theorem State.bistNext_kept {T : List Comp} {zz s : State} (hT : [.regs, .spi, .mbx, .bist] ⊆ T) (hh : Kept T zz s) : Kept T
    zz (State.bistNext s) := by
  unfold State.bistNext
  try lift_lets
  repeat' first
    | with_reducible assumption | exact keptSub (by decide) hT
    | (intro s; refine (fun hk : Kept T zz s => ?_) ?_; clear_value s; rotate_left; subst s)
    | with_reducible apply State.finishCmd_kept | with_reducible apply State.bistIdle_kept | with_reducible apply Kept.ite
    | split

theorem State.bistRecord_kept {T : List Comp} {zz s : State} (hT : [.regs, .evt, .bist] ⊆ T) (b outcome reason count expect :
    Nat) (hh : Kept T zz s) : Kept T zz (State.bistRecord s b outcome reason count expect) := by
  unfold State.bistRecord
  try lift_lets
  repeat' first
    | with_reducible assumption | exact keptSub (by decide) hT
    | (intro s; refine (fun hk : Kept T zz s => ?_) ?_; clear_value s; rotate_left; subst s) | (intro v; try clear_value v)
    | with_reducible apply State.setBist_kept | with_reducible apply State.put_kept | with_reducible apply State.logFw_kept

theorem State.bistForced_kept {T : List Comp} {zz s : State} (hT : [.regs, .evt, .bist] ⊆ T) (b : Nat) (hh : Kept T zz s) :
    Kept T zz (State.bistForced s b) := by
  unfold State.bistForced
  try lift_lets
  repeat' first
    | with_reducible assumption | exact keptSub (by decide) hT
    | (intro s; refine (fun hk : Kept T zz s => ?_) ?_; clear_value s; rotate_left; subst s) | (intro v; try clear_value v)
    | with_reducible apply State.setBist_kept | with_reducible apply State.putFlag_kept
    | with_reducible apply State.logFw_kept | with_reducible apply Kept.ite

theorem State.bistIsolate_kept {T : List Comp} {zz s : State} (hT : [.regs, .time, .icu, .evt, .nw, .pwr, .chans, .mtx, .adc,
    .ring, .ptp, .sec, .bist] ⊆ T) (b : Nat) (hh : Kept T zz s) : Kept T zz (State.bistIsolate s b) := by
  unfold State.bistIsolate
  try lift_lets
  repeat' first
    | with_reducible assumption | exact keptSub (by decide) hT
    | (intro s; refine (fun hk : Kept T zz s => ?_) ?_; clear_value s; rotate_left; subst s)
    | with_reducible exact fun h => h | with_reducible exact fun _ => rfl | with_reducible exact Nat.le_refl _
    | exact fun h => h | exact Nat.le_refl _ | (intro (v : Sec); subst v) | (intro v; try clear_value v)
    | with_reducible apply State.setConv_kept | with_reducible apply State.moveAway_kept
    | with_reducible apply State.putFlag_kept | with_reducible apply State.setSec_kept
    | with_reducible apply State.sc1Stop_kept | with_reducible apply Kept.ite
    | fail_if_no_progress (with_reducible refine Kept.upd_bist ?_ (has (by decide) hT)) | split | lift_lets

theorem State.bistStart_kept {T : List Comp} {zz s : State} (hT : [.regs, .time, .icu, .evt, .nw, .pwr, .chans, .mtx, .spi,
    .adc, .ring, .ptp, .mbx, .sec, .bist] ⊆ T) (hot : Bool) (hh : Kept T zz s) : Kept T zz (State.bistStart s hot) := by
  unfold State.bistStart
  split
  · have h : ∀ a b f v, Kept T zz (((s.setBist a).put f v).setBist b) := fun a b f v =>
      State.setBist_kept (keptSub (by decide) hT) _ (State.put_kept (keptSub (by decide) hT) _ _ (State.setBist_kept (keptSub (by decide) hT) _ hh))
    exact Kept.ite (State.bistNext_kept (keptSub (by decide) hT) (State.bistRecord_kept (keptSub (by decide) hT) _ _ _ _ _ (State.setBist_kept (keptSub (by decide) hT) _ hh)))
      (State.bistIsolate_kept (keptSub (by decide) hT) _ (Kept.ite (State.bistForced_kept (keptSub (by decide) hT) _ (h _ _ _ _)) (h _ _ _ _)))
  · exact hh

theorem State.bistConvBack_kept {T : List Comp} {zz s : State} (hT : [.regs, .icu, .evt, .nw, .life, .pwr, .chans, .mtx,
    .adc, .bist] ⊆ T) (k outcome bg : Nat) (hh : Kept T zz s) : Kept T zz (State.bistConvBack s k outcome bg) := by
  unfold State.bistConvBack
  try lift_lets
  repeat' first
    | with_reducible assumption | exact keptSub (by decide) hT
    | (intro s; refine (fun hk : Kept T zz s => ?_) ?_; clear_value s; rotate_left; subst s) | (intro v; try clear_value v)
    | with_reducible apply State.setConv_kept | with_reducible apply State.lifeAcc_kept
    | with_reducible apply State.convFault_kept | with_reducible apply State.convReturn_kept
    | with_reducible apply State.placeMove_kept | with_reducible apply State.adcKick_kept | with_reducible apply Kept.ite
    | split | lift_lets

theorem State.bistReprove_kept {T : List Comp} {zz s : State} (hT : [.regs, .chans, .mtx, .adc, .bist] ⊆ T) (hh : Kept T zz
    s) : Kept T zz (State.bistReprove s) := by
  unfold State.bistReprove
  try lift_lets
  repeat' first
    | with_reducible assumption | exact keptSub (by decide) hT
    | (intro s; refine (fun hk : Kept T zz s => ?_) ?_; clear_value s; rotate_left; subst s)
    | (intro (v : State → _); subst v) | (intro v; try clear_value v) | with_reducible apply State.setBist_kept
    | with_reducible apply State.unprove_kept | with_reducible apply State.setConv_kept | with_reducible apply Kept.ite
    | with_reducible (apply Kept.fold; intro _ _ _) | split

theorem State.bistRestore_kept {T : List Comp} {zz s : State} (hT : [.regs, .pins, .icu, .evt, .nw, .mem, .cap, .life, .pwr,
    .obs, .chans, .banks, .boost, .mtx, .spi, .loops, .adc, .sto, .link, .ring, .ptp, .mbx, .sec, .bist, .fspi] ⊆ T) (b
    outcome bad bg : Nat) (hh : Kept T zz s) : Kept T zz (State.bistRestore s b outcome bad bg) := by
  unfold State.bistRestore
  try lift_lets
  repeat' first
    | with_reducible assumption | exact keptSub (by decide) hT
    | (intro s; refine (fun hk : Kept T zz s => ?_) ?_; clear_value s; rotate_left; subst s)
    | with_reducible exact fun h => h | with_reducible exact fun _ => rfl | with_reducible exact Nat.le_refl _
    | exact fun h => h | exact Nat.le_refl _ | (intro (v : Sec); subst v) | (intro v; try clear_value v)
    | with_reducible apply State.bistConvBack_kept | with_reducible apply State.putFlag_kept
    | with_reducible apply State.lifeAcc_kept | with_reducible apply State.pairFail_kept
    | with_reducible apply State.midnightEnter_kept | with_reducible apply State.linkLost_kept
    | with_reducible apply State.linkNarrow_kept | with_reducible apply State.setSec_kept
    | with_reducible apply State.sfTell_kept | with_reducible apply State.setNw_kept | with_reducible apply Kept.ite
    | with_reducible (apply Kept.fold; intro _ _ _)
    | fail_if_no_progress (with_reducible refine Kept.upd_loops ?_ (has (by decide) hT)) | split | lift_lets

theorem State.bistFail_kept {T : List Comp} {zz s : State} (hT : [.regs, .icu, .evt, .nw, .pwr, .bist] ⊆ T) (b : Nat) (hh :
    Kept T zz s) : Kept T zz (State.bistFail s b) := by
  unfold State.bistFail
  try lift_lets
  repeat' first
    | with_reducible assumption | exact keptSub (by decide) hT
    | (intro s; refine (fun hk : Kept T zz s => ?_) ?_; clear_value s; rotate_left; subst s) | (intro v; try clear_value v)
    | with_reducible apply State.logFw_kept | with_reducible apply State.fltSet_kept
    | with_reducible apply State.bistNotRun_kept | with_reducible apply State.setBist_kept | with_reducible apply Kept.ite
    | split | lift_lets

theorem State.bistEnd_kept {T : List Comp} {zz s : State} (hT : [.regs, .pins, .icu, .evt, .nw, .mem, .cap, .life, .pwr,
    .obs, .chans, .banks, .boost, .mtx, .spi, .loops, .adc, .sto, .link, .ring, .ptp, .mbx, .sec, .bist, .fspi] ⊆ T) (count
    expect bad bg : Nat) (hot : Bool) (hh : Kept T zz s) : Kept T zz (State.bistEnd s count expect bad bg hot) := by
  unfold State.bistEnd
  try lift_lets
  repeat' first
    | with_reducible assumption | exact keptSub (by decide) hT
    | (intro s; refine (fun hk : Kept T zz s => ?_) ?_; clear_value s; rotate_left; subst s)
    | with_reducible apply State.bistRecord_kept | with_reducible apply State.bistFail_kept
    | with_reducible apply State.setBist_kept | with_reducible apply State.bistRestore_kept
    | with_reducible apply State.bistReprove_kept | with_reducible apply State.putFlag_kept
    | with_reducible apply State.put_kept | with_reducible apply State.bistCause_kept
    | with_reducible apply State.bistNext_kept | with_reducible apply Kept.ite | split

theorem State.bistRegion_kept {T : List Comp} {zz s : State} (hT : [.bist] ⊆ T) (bad : Bool) (hh : Kept T zz s) : Kept T zz
    (State.bistRegion s bad) := by
  unfold State.bistRegion
  try lift_lets
  repeat' first
    | with_reducible assumption | exact keptSub (by decide) hT | (intro v; try clear_value v)
    | with_reducible apply State.setBist_kept | with_reducible apply Kept.ite | split

theorem State.bistSlice_kept {T : List Comp} {zz s : State} (hT : [.bist] ⊆ T) (hh : Kept T zz s) : Kept T zz
    (State.bistSlice s) := by
  unfold State.bistSlice
  repeat' first
    | with_reducible assumption | exact keptSub (by decide) hT | with_reducible apply State.setBist_kept
    | with_reducible apply Kept.ite | split

theorem State.bistCut_kept {T : List Comp} {zz s : State} (hT : [.bist] ⊆ T) (hh : Kept T zz s) : Kept T zz (State.bistCut s)
    := by
  unfold State.bistCut
  try lift_lets
  repeat' first
    | with_reducible assumption | exact keptSub (by decide) hT
    | (intro s; refine (fun hk : Kept T zz s => ?_) ?_; clear_value s; rotate_left; subst s) | (intro v; try clear_value v)
    | with_reducible apply State.setBist_kept | with_reducible apply State.bistCause_kept | with_reducible apply Kept.ite
    | split | lift_lets

theorem State.trimReload_kept {T : List Comp} {zz s : State} (hT : [.adc, .mbx] ⊆ T) (c : Cmd) (hh : Kept T zz s) : Kept T zz
    (State.trimReload s c) := by
  unfold State.trimReload
  try lift_lets
  repeat' first
    | with_reducible assumption | exact keptSub (by decide) hT
    | (intro s; refine (fun hk : Kept T zz s => ?_) ?_; clear_value s; rotate_left; subst s) | (intro v; try clear_value v)
    | with_reducible apply State.longCmd_kept | with_reducible apply State.setConv_kept
    | with_reducible apply State.finishCmd_kept | with_reducible apply Kept.ite
    | with_reducible (apply Kept.fold; intro _ _ _)
    | fail_if_no_progress (with_reducible refine Kept.upd_adc ?_ (has (by decide) hT))

theorem State.trimDone_kept {T : List Comp} {zz s : State} (hT : [.adc, .mbx] ⊆ T) (hh : Kept T zz s) : Kept T zz
    (State.trimDone s) := by
  unfold State.trimDone
  try lift_lets
  repeat' first
    | with_reducible assumption | exact keptSub (by decide) hT | (intro v; try clear_value v)
    | with_reducible apply State.finishCmd_kept | with_reducible apply Kept.ite
    | fail_if_no_progress (with_reducible refine Kept.upd_adc ?_ (has (by decide) hT)) | split

theorem State.darken_kept {T : List Comp} {zz s : State} (hT : [.regs, .chans, .mtx] ⊆ T) (c : Nat) (hh : Kept T zz s) : Kept
    T zz (State.darken s c) := by
  unfold State.darken
  try lift_lets
  repeat' first
    | with_reducible assumption | exact keptSub (by decide) hT
    | (intro s; refine (fun hk : Kept T zz s => ?_) ?_; clear_value s; rotate_left; subst s) | (intro v; try clear_value v)
    | with_reducible apply State.setChan_kept | with_reducible apply State.unprove_kept | with_reducible apply Kept.ite
    | split | lift_lets

theorem State.scanStop_kept {T : List Comp} {zz s : State} (hT : [.regs, .mtx] ⊆ T) (hh : Kept T zz s) : Kept T zz
    (State.scanStop s) := by
  unfold State.scanStop
  try lift_lets
  repeat' first
    | with_reducible assumption | exact keptSub (by decide) hT
    | (intro s; refine (fun hk : Kept T zz s => ?_) ?_; clear_value s; rotate_left; subst s) | (intro v; try clear_value v)
    | with_reducible apply State.ledsDark_kept | with_reducible apply State.putFlag_kept | with_reducible apply Kept.ite
    | fail_if_no_progress (with_reducible refine Kept.upd_mtx ?_ (has (by decide) hT)) | split | lift_lets

theorem State.duskLamps_kept {T : List Comp} {zz s : State} (hT : [.regs, .evt, .pwr, .chans, .banks, .boost, .mtx] ⊆ T) (hh
    : Kept T zz s) : Kept T zz (State.duskLamps s) := by
  unfold State.duskLamps
  try lift_lets
  repeat' first
    | with_reducible assumption | exact keptSub (by decide) hT
    | (intro s; refine (fun hk : Kept T zz s => ?_) ?_; clear_value s; rotate_left; subst s) | (intro v; try clear_value v)
    | with_reducible apply State.darken_kept | with_reducible apply State.bankOpen_kept
    | with_reducible apply State.scanStop_kept | with_reducible apply State.needs_kept | with_reducible apply Kept.ite
    | with_reducible (apply Kept.fold; intro _ _ _)
    | fail_if_no_progress (with_reducible refine Kept.upd_pwr ?_ (has (by decide) hT)) | split | lift_lets

theorem State.ruleCommit_kept {T : List Comp} {zz s : State} (hT : [.regs, .pins, .icu, .evt, .nw, .pwr, .chans, .banks,
    .boost, .res, .mtx] ⊆ T) (hh : Kept T zz s) : Kept T zz (State.ruleCommit s) := by
  unfold State.ruleCommit
  try lift_lets
  repeat' first
    | with_reducible assumption | exact keptSub (by decide) hT
    | (intro s; refine (fun hk : Kept T zz s => ?_) ?_; clear_value s; rotate_left; subst s) | (intro v; try clear_value v)
    | with_reducible apply State.aspectCommit_kept | with_reducible apply State.duskLamps_kept
    | with_reducible apply Kept.ite | split | lift_lets

theorem State.commitDeadline_kept {T : List Comp} {zz s : State} (hT : [.regs, .grid, .pins, .icu, .evt, .nw, .mem, .life,
    .pwr, .obs, .chans, .banks, .boost, .res, .mtx, .loops, .sto, .ring, .ptp] ⊆ T) (k i : Nat) (ready : Bool) (hh : Kept T
    zz s) : Kept T zz (State.commitDeadline s k i ready) := by
  unfold State.commitDeadline
  try lift_lets
  repeat' first
    | with_reducible assumption | exact keptSub (by decide) hT
    | (intro s; refine (fun hk : Kept T zz s => ?_) ?_; clear_value s; rotate_left; subst s) | (intro v; try clear_value v)
    | with_reducible apply State.takeEvent_kept | with_reducible apply State.loopDeadline_kept
    | with_reducible (apply Kept.fst; apply State.loopDeadline_kept)
    | with_reducible (refine Kept.eq1 (by assumption) ?_; apply State.loopDeadline_kept)
    | with_reducible apply State.deadlineCount_kept | with_reducible apply State.ruleCommit_kept
    | with_reducible apply State.setChan_kept | with_reducible apply State.ldDeadline_kept
    | with_reducible (apply Kept.fst; apply State.ldDeadline_kept)
    | with_reducible (refine Kept.eq1 (by assumption) ?_; apply State.ldDeadline_kept)
    | with_reducible apply State.testCommit_kept | with_reducible apply State.timeDeadline_kept
    | with_reducible apply Kept.ite | with_reducible apply Kept1.ite | with_reducible apply Kept1.mk
    | fail_if_no_progress (with_reducible refine Kept.upd_res ?_ (has (by decide) hT)) | split | lift_lets

theorem State.powerGood_kept {T : List Comp} {zz s : State} (hT : [.regs, .grid, .time, .pins, .icu, .evt, .nw, .mem, .cap, .life, .pwr, .obs, .rule, .cfg, .ctx, .chans, .banks, .boost, .res, .dim, .mtx, .spi, .loops, .adc, .sto, .link, .ring, .ptp, .mbx, .sec, .bist, .fspi, .bus] ⊆ T) (strap : Bool) (hh : Kept T zz s) : Kept T zz (State.powerGood s strap) := by
  unfold State.powerGood
  try lift_lets
  repeat' first
    | with_reducible assumption | exact keptSub (by decide) hT
    | (intro s; refine (fun hk : Kept T zz s => ?_) ?_; clear_value s; rotate_left; subst s) | (intro (v : State → _); subst v) | (intro v; try clear_value v)
    | with_reducible apply State.fallbackBank_kept | with_reducible apply State.fallbackChan_kept
    | with_reducible apply State.afresh_kept | with_reducible apply State.putFlag_kept
    | with_reducible apply State.put_kept | with_reducible apply Kept.ite | with_reducible (apply Kept.fold; intro _ _ _)
    | fail_if_no_progress (with_reducible refine Kept.upd_pins ?_ (has (by decide) hT))
    | fail_if_no_progress (with_reducible refine Kept.upd_pwr ?_ (has (by decide) hT))
    | fail_if_no_progress (with_reducible refine Kept.upd_spi ?_ (has (by decide) hT))
    | fail_if_no_progress (refine Kept.updM (T := T) ?_ ?_ rfl rfl rfl rfl rfl; rotate_left; (intro c hc; cases c <;> first | exact rfl | exact absurd (has (by decide) hT) hc))
    | split | lift_lets

theorem State.powerEnd_kept {T : List Comp} {zz s : State} (hT : [.regs, .pins, .pwr, .obs, .chans, .banks, .mtx, .sto] ⊆ T)
    (hh : Kept T zz s) : Kept T zz (State.powerEnd s) := by
  unfold State.powerEnd
  try lift_lets
  repeat' first
    | with_reducible assumption | exact keptSub (by decide) hT
    | (intro s; refine (fun hk : Kept T zz s => ?_) ?_; clear_value s; rotate_left; subst s) | (intro v; try clear_value v)
    | with_reducible apply State.darken_kept | with_reducible apply State.bankOpen_kept
    | with_reducible apply State.stoAllOff_kept | with_reducible apply State.setLine_kept
    | with_reducible apply State.putFlag_kept | with_reducible apply State.scanStop_kept | with_reducible apply Kept.ite
    | with_reducible (apply Kept.fold; intro _ _ _)
    | fail_if_no_progress (with_reducible refine Kept.upd_pins ?_ (has (by decide) hT))
    | fail_if_no_progress (with_reducible refine Kept.upd_pwr ?_ (has (by decide) hT))
    | fail_if_no_progress (refine Kept.updM (T := T) ?_ ?_ rfl rfl rfl rfl rfl; rotate_left; (intro c hc; cases c <;> first | exact rfl | exact absurd (has (by decide) hT) hc))
    | split | lift_lets

theorem State.resetLow_kept {T : List Comp} {zz s : State} (hT : [.regs, .pins, .pwr, .obs, .chans, .banks, .mtx, .sto] ⊆ T)
    (hh : Kept T zz s) : Kept T zz (State.resetLow s) := by
  unfold State.resetLow
  try lift_lets
  repeat' first
    | with_reducible assumption | exact keptSub (by decide) hT
    | (intro s; refine (fun hk : Kept T zz s => ?_) ?_; clear_value s; rotate_left; subst s) | (intro v; try clear_value v)
    | with_reducible apply State.powerEnd_kept | with_reducible apply Kept.ite
    | fail_if_no_progress (with_reducible refine Kept.upd_pins ?_ (has (by decide) hT))

theorem State.testEntry_kept {T : List Comp} {zz s : State} (hT : [.regs, .pins, .icu, .evt, .nw, .mem, .cap, .life, .pwr, .obs, .chans, .banks, .boost, .mtx, .spi, .adc, .sto, .mbx, .sec, .bist, .fspi] ⊆ T) (hh : Kept T zz s) : Kept T zz
    (State.testEntry s) := by
  unfold State.testEntry
  try lift_lets
  repeat' first
    | with_reducible assumption | exact keptSub (by decide) hT
    | (intro s; refine (fun hk : Kept T zz s => ?_) ?_; clear_value s; rotate_left; subst s)
    | with_reducible exact fun h => h | exact fun h => by simp [h] | with_reducible exact fun _ => rfl | with_reducible exact Nat.le_refl _
    | exact fun h => h | exact Nat.le_refl _ | (intro (v : Sec); subst v) | (intro v; try clear_value v)
    | with_reducible apply State.midnightEnter_kept | with_reducible apply State.setSec_kept
    | with_reducible apply State.powerEnd_kept | with_reducible apply Kept.ite
    | fail_if_no_progress (with_reducible refine Kept.upd_nw ?_ (has (by decide) hT))
    | fail_if_no_progress (with_reducible refine Kept.upd_mbx ?_ (has (by decide) hT))
    | fail_if_no_progress (refine Kept.updM (T := T) ?_ ?_ rfl rfl rfl rfl rfl; rotate_left; (intro c hc; cases c <;> first | exact rfl | exact absurd (has (by decide) hT) hc))
    | split | lift_lets

theorem State.powerCycle_kept {T : List Comp} {zz s : State} (hT : [.regs, .grid, .time, .pins, .icu, .evt, .nw, .mem, .cap,
    .life, .pwr, .obs, .rule, .cfg, .ctx, .chans, .banks, .boost, .res, .dim, .mtx, .spi, .loops, .adc, .sto, .link, .ring,
    .ptp, .mbx, .sec, .bist, .fspi, .bus] ⊆ T) (hh : Kept T zz s) : Kept T zz (State.powerCycle s) := by
  unfold State.powerCycle
  try lift_lets
  repeat' first
    | with_reducible assumption | exact keptSub (by decide) hT
    | (intro s; refine (fun hk : Kept T zz s => ?_) ?_; clear_value s; rotate_left; subst s) | (intro (v : Sec); subst v)
    | with_reducible apply State.afresh_kept | with_reducible apply Kept.ite
    | fail_if_no_progress (with_reducible refine Kept.upd_nw ?_ (has (by decide) hT))
    | fail_if_no_progress (with_reducible refine Kept.upd_sto ?_ (has (by decide) hT))
    | fail_if_no_progress (with_reducible refine Kept.upd_sec _ ?_ (has (by decide) hT) (fun h => h) (fun h => h) (Nat.le_refl _))
    | fail_if_no_progress (refine Kept.updM (T := T) ?_ ?_ rfl rfl rfl rfl rfl; rotate_left; (intro c hc; cases c <;> first | exact rfl | exact absurd (has (by decide) hT) hc))

theorem State.nextPhase_kept {T : List Comp} {zz s : State} (hT : [.regs, .pwr] ⊆ T) (hh : Kept T zz s) : Kept T zz
    (State.nextPhase s) := by
  unfold State.nextPhase
  try lift_lets
  repeat' first
    | with_reducible assumption | exact keptSub (by decide) hT
    | (intro s; refine (fun hk : Kept T zz s => ?_) ?_; clear_value s; rotate_left; subst s) | (intro v; try clear_value v)
    | with_reducible apply State.put_kept | with_reducible apply Kept.ite
    | fail_if_no_progress (with_reducible refine Kept.upd_pwr ?_ (has (by decide) hT))

theorem State.xtalTimeout_kept {T : List Comp} {zz s : State} (hT : [.regs, .icu, .evt, .nw, .pwr, .ptp] ⊆ T) (hh : Kept T zz
    s) : Kept T zz (State.xtalTimeout s) := by
  unfold State.xtalTimeout
  try lift_lets
  repeat' first
    | with_reducible assumption | exact keptSub (by decide) hT
    | (intro s; refine (fun hk : Kept T zz s => ?_) ?_; clear_value s; rotate_left; subst s) | (intro v; try clear_value v)
    | with_reducible apply State.putFlag_kept | with_reducible apply State.logEv_kept
    | with_reducible apply State.fltSet_kept | with_reducible apply State.timeUntrusted_kept
    | with_reducible apply Kept.ite | split | lift_lets

theorem State.dawnD0_kept {T : List Comp} {zz s : State} (hT : [.regs, .grid, .time, .icu, .pwr, .fspi] ⊆ T) (hh : Kept T zz
    s) : Kept T zz (State.dawnD0 s) := by
  unfold State.dawnD0
  try lift_lets
  repeat' first
    | with_reducible assumption | exact keptSub (by decide) hT
    | (intro s; refine (fun hk : Kept T zz s => ?_) ?_; clear_value s; rotate_left; subst s) | (intro v; try clear_value v)
    | with_reducible apply State.putFlag_kept | with_reducible apply State.icuClear_kept
    | with_reducible apply State.flashTable_kept | with_reducible apply State.nextPhase_kept
    | with_reducible apply Kept.ite | fail_if_no_progress (with_reducible refine Kept.upd_grid ?_ (has (by decide) hT))
    | fail_if_no_progress (with_reducible refine Kept.upd_time ?_ (has (by decide) hT))
    | fail_if_no_progress (refine Kept.updM (T := T) ?_ ?_ rfl rfl rfl rfl rfl; rotate_left; (intro c hc; cases c <;> first | exact rfl | exact absurd (has (by decide) hT) hc))
    | split | lift_lets

theorem State.linkTest_kept {T : List Comp} {zz s : State} (hT : [.regs, .pins, .icu, .evt, .nw, .mem, .cap, .life, .pwr,
    .obs, .chans, .banks, .boost, .mtx, .spi, .adc, .sto, .link, .mbx, .bist, .fspi] ⊆ T) (bad : Nat) (hh : Kept T zz s) :
    Kept T zz (State.linkTest s bad) := by
  unfold State.linkTest
  repeat' first
    | with_reducible assumption | exact keptSub (by decide) hT | with_reducible apply State.linkNarrow_kept
    | with_reducible apply State.linkLost_kept | with_reducible apply Kept.ite

theorem State.dawnD1_kept {T : List Comp} {zz s : State} (hT : [.regs, .pins, .icu, .evt, .nw, .mem, .cap, .life, .pwr, .obs,
    .chans, .banks, .boost, .mtx, .spi, .adc, .sto, .link, .mbx, .sec, .bist, .fspi] ⊆ T) (ok : Bool) (bad : Nat) (hh : Kept
    T zz s) : Kept T zz (State.dawnD1 s ok bad) := by
  unfold State.dawnD1
  try lift_lets
  repeat' first
    | with_reducible assumption | exact keptSub (by decide) hT
    | (intro s; refine (fun hk : Kept T zz s => ?_) ?_; clear_value s; rotate_left; subst s) | (intro v; try clear_value v)
    | with_reducible apply State.midnightEnter_kept | with_reducible apply State.wr_kept
    | with_reducible apply State.sealLatch_kept | with_reducible apply State.linkTest_kept
    | with_reducible apply State.lockRestart_kept | with_reducible apply State.flashQuad_kept
    | with_reducible apply State.nextPhase_kept | with_reducible apply Kept.ite | split | lift_lets

theorem State.dawnD2_kept {T : List Comp} {zz s : State} (hT : [.regs, .icu, .evt, .nw, .mem, .pwr, .obs, .sto, .sec, .fspi]
    ⊆ T) (hh : Kept T zz s) : Kept T zz (State.dawnD2 s) := by
  unfold State.dawnD2
  try lift_lets
  repeat' first
    | with_reducible assumption | exact keptSub (by decide) hT
    | (intro s; refine (fun hk : Kept T zz s => ?_) ?_; clear_value s; rotate_left; subst s)
    | with_reducible exact fun h => h | with_reducible exact fun _ => rfl | with_reducible exact Nat.le_refl _
    | exact fun h => h | exact Nat.le_refl _ | (intro (v : Sec); subst v) | (intro v; try clear_value v)
    | with_reducible apply State.flash_kept | with_reducible apply State.put_kept | with_reducible apply State.setSec_kept
    | with_reducible apply State.fwLoad_kept | with_reducible apply State.logFw_kept
    | with_reducible apply State.setNw_kept | with_reducible apply State.safetyEpoch_kept
    | with_reducible apply State.nextPhase_kept | with_reducible apply Kept.ite | split | lift_lets

theorem State.dawnConfigured_kept {T : List Comp} {zz s : State} (hT : [.regs, .icu, .evt, .nw, .mem, .cap, .life, .pwr, .dim, .adc, .fspi] ⊆ T) (hh : Kept T zz s) : Kept T zz (State.dawnConfigured s) := by
  have key : ∀ (u : State) (d : Dim) (a : Adc), Kept T zz u → Kept T zz { u with dim := d, adc := a } := fun _ _ _ h =>
    Kept.updM h (fun c hc => by cases c <;> first | exact rfl | exact absurd (has (by decide) hT) hc) rfl rfl rfl rfl rfl
  unfold State.dawnConfigured
  exact State.nextPhase_kept (keptSub (by decide) hT) (State.refEnable_kept (keptSub (by decide) hT) _ (key _ _ _ (State.logStart_kept
    (keptSub (by decide) hT) (State.lifeAcc_kept (keptSub (by decide) hT) _ _ (State.restore_kept (keptSub (by decide) hT)
    (State.put_kept (keptSub (by decide) hT) _ _ hh))))))

theorem State.dawnD3_kept {T : List Comp} {zz s : State} (hT : [.regs, .time, .icu, .evt, .nw, .mem, .cap, .life, .pwr, .obs,
    .rule, .cfg, .chans, .res, .dim, .adc, .ring, .ptp, .fspi] ⊆ T) (hh : Kept T zz s) : Kept T zz (State.dawnD3 s) := by
  unfold State.dawnD3
  repeat' first
    | with_reducible assumption | exact keptSub (by decide) hT | with_reducible apply State.ringStart_kept
    | with_reducible apply State.dawnConfigured_kept | with_reducible apply State.loadConfig_kept
    | with_reducible (refine Kept.eq1 (by assumption) ?_; apply State.loadConfig_kept) | with_reducible apply Kept.ite
    | with_reducible apply Kept1.ite | with_reducible apply Kept1.mk | split

theorem State.dawnD4_kept {T : List Comp} {zz s : State} (hT : [.regs, .pwr, .rule, .adc] ⊆ T) (hh : Kept T zz s) : Kept T zz
    (State.dawnD4 s) := by
  unfold State.dawnD4
  try lift_lets
  repeat' first
    | with_reducible assumption | exact keptSub (by decide) hT
    | (intro s; refine (fun hk : Kept T zz s => ?_) ?_; clear_value s; rotate_left; subst s) | (intro v; try clear_value v)
    | with_reducible apply State.nextPhase_kept | with_reducible apply Kept.ite
    | fail_if_no_progress (with_reducible refine Kept.upd_rule ?_ (has (by decide) hT))
    | fail_if_no_progress (with_reducible refine Kept.upd_adc ?_ (has (by decide) hT))
    | fail_if_no_progress (refine Kept.updM (T := T) ?_ ?_ rfl rfl rfl rfl rfl; rotate_left; (intro c hc; cases c <;> first | exact rfl | exact absurd (has (by decide) hT) hc))
    | split | lift_lets

theorem State.pfwFall_kept {T : List Comp} {zz s : State} (hT : [.regs, .pins, .icu, .nw, .mem, .life, .pwr, .mbx, .bist,
    .fspi] ⊆ T) (hh : Kept T zz s) : Kept T zz (State.pfwFall s) := by
  unfold State.pfwFall
  try lift_lets
  repeat' first
    | with_reducible assumption | exact keptSub (by decide) hT
    | (intro s; refine (fun hk : Kept T zz s => ?_) ?_; clear_value s; rotate_left; subst s) | (intro v; try clear_value v)
    | with_reducible apply State.lifeAcc_kept | with_reducible apply State.bistCause_kept
    | with_reducible apply State.raise_kept | with_reducible apply State.duskExit_kept
    | with_reducible apply State.put_kept | with_reducible apply State.fltSet_kept
    | with_reducible apply State.persistBegin_kept | with_reducible apply State.finishCmd_kept
    | with_reducible apply Kept.ite | with_reducible (apply Kept.fold; intro _ _ _)
    | fail_if_no_progress (with_reducible refine Kept.upd_pins ?_ (has (by decide) hT))
    | fail_if_no_progress (with_reducible refine Kept.upd_pwr ?_ (has (by decide) hT))
    | fail_if_no_progress (refine Kept.updM (T := T) ?_ ?_ rfl rfl rfl rfl rfl; rotate_left; (intro c hc; cases c <;> first | exact rfl | exact absurd (has (by decide) hT) hc))
    | split | lift_lets

theorem State.pfwRise_kept {T : List Comp} {zz s : State} (hT : [.regs, .pins, .evt, .pwr] ⊆ T) (hh : Kept T zz s) : Kept T
    zz (State.pfwRise s) := by
  unfold State.pfwRise
  try lift_lets
  repeat' first
    | with_reducible assumption | exact keptSub (by decide) hT
    | (intro s; refine (fun hk : Kept T zz s => ?_) ?_; clear_value s; rotate_left; subst s) | (intro v; try clear_value v)
    | with_reducible apply State.logFw_kept | with_reducible apply Kept.ite
    | fail_if_no_progress (with_reducible refine Kept.upd_pins ?_ (has (by decide) hT))
    | fail_if_no_progress (with_reducible refine Kept.upd_pwr ?_ (has (by decide) hT))
    | fail_if_no_progress (refine Kept.updM (T := T) ?_ ?_ rfl rfl rfl rfl rfl; rotate_left; (intro c hc; cases c <;> first | exact rfl | exact absurd (has (by decide) hT) hc))
    | split | lift_lets

theorem State.pfwOver_kept {T : List Comp} {zz s : State} (hT : [.regs, .mem, .life, .pwr, .fspi] ⊆ T) (hh : Kept T zz s) :
    Kept T zz (State.pfwOver s) := by
  unfold State.pfwOver
  try lift_lets
  repeat' first
    | with_reducible assumption | exact keptSub (by decide) hT
    | (intro s; refine (fun hk : Kept T zz s => ?_) ?_; clear_value s; rotate_left; subst s) | (intro v; try clear_value v)
    | with_reducible apply State.fltClr_kept | with_reducible apply State.snapshot_kept | with_reducible apply Kept.ite
    | fail_if_no_progress (with_reducible refine Kept.upd_pwr ?_ (has (by decide) hT)) | split | lift_lets

theorem State.pwrCtl_kept {T : List Comp} {zz s : State} (hT : [.regs, .icu, .nw, .pwr] ⊆ T) (key : Nat) (hh : Kept T zz s) :
    Kept T zz (State.pwrCtl s key) := by
  unfold State.pwrCtl
  repeat' first
    | with_reducible assumption | exact keptSub (by decide) hT | with_reducible apply State.putFlag_kept
    | with_reducible apply State.duskExit_kept | with_reducible apply Kept.ite

theorem State.duskConv_kept {T : List Comp} {zz s : State} (hT : [.adc] ⊆ T) (k : Nat) (hh : Kept T zz s) : Kept T zz
    (State.duskConv s k) := by
  unfold State.duskConv
  try lift_lets
  repeat' first
    | with_reducible assumption | exact keptSub (by decide) hT
    | (intro s; refine (fun hk : Kept T zz s => ?_) ?_; clear_value s; rotate_left; subst s) | (intro v; try clear_value v)
    | with_reducible apply State.setConv_kept | with_reducible apply Kept.ite | split | lift_lets

theorem State.duskBlocks_kept {T : List Comp} {zz s : State} (hT : [.regs, .time, .icu, .evt, .nw, .cap, .pwr, .rule, .res,
    .loops, .adc, .ring, .ptp] ⊆ T) (hh : Kept T zz s) : Kept T zz (State.duskBlocks s) := by
  unfold State.duskBlocks
  try lift_lets
  repeat' first
    | with_reducible assumption | exact keptSub (by decide) hT
    | (intro s; refine (fun hk : Kept T zz s => ?_) ?_; clear_value s; rotate_left; subst s) | (intro v; try clear_value v)
    | with_reducible apply State.duskConv_kept | with_reducible apply State.wr_kept
    | with_reducible apply State.putFlag_kept | with_reducible apply State.sfOnset_kept
    | with_reducible apply State.mastersGone_kept | with_reducible apply State.capPause_kept
    | with_reducible apply Kept.ite | with_reducible (apply Kept.fold; intro _ _ _)
    | fail_if_no_progress (with_reducible refine Kept.upd_icu ?_ (has (by decide) hT))
    | fail_if_no_progress (with_reducible refine Kept.upd_rule ?_ (has (by decide) hT))
    | fail_if_no_progress (with_reducible refine Kept.upd_res ?_ (has (by decide) hT))
    | fail_if_no_progress (with_reducible refine Kept.upd_loops ?_ (has (by decide) hT))
    | fail_if_no_progress (refine Kept.updM (T := T) ?_ ?_ rfl rfl rfl rfl rfl; rotate_left; (intro c hc; cases c <;> first | exact rfl | exact absurd (has (by decide) hT) hc))
    | split | lift_lets

theorem State.duskEntry_kept {T : List Comp} {zz s : State} (hT : [.regs, .time, .icu, .evt, .nw, .cap, .life, .pwr, .rule,
    .res, .loops, .adc, .ring, .ptp] ⊆ T) (hh : Kept T zz s) : Kept T zz (State.duskEntry s) := by
  unfold State.duskEntry
  try lift_lets
  repeat' first
    | with_reducible assumption | exact keptSub (by decide) hT
    | (intro s; refine (fun hk : Kept T zz s => ?_) ?_; clear_value s; rotate_left; subst s) | (intro v; try clear_value v)
    | with_reducible apply State.foldSpan_kept | with_reducible apply State.put_kept
    | with_reducible apply State.duskBlocks_kept | with_reducible apply State.refreshIcu_kept
    | with_reducible apply State.putFlag_kept | with_reducible apply Kept.ite
    | fail_if_no_progress (with_reducible refine Kept.upd_pwr ?_ (has (by decide) hT)) | split | lift_lets

theorem State.duskWake_kept {T : List Comp} {zz s : State} (hT : [.regs, .icu, .nw, .pwr] ⊆ T) (src : Option Nat) (hh : Kept
    T zz s) : Kept T zz (State.duskWake s src) := by
  unfold State.duskWake
  repeat' first
    | with_reducible assumption | exact keptSub (by decide) hT | with_reducible apply State.duskExit_kept
    | with_reducible apply State.raise_kept | with_reducible apply Kept.ite | split

theorem State.duskResume_kept {T : List Comp} {zz s : State} (hT : [.regs, .icu, .evt, .nw, .mem, .cap, .life, .pwr, .rule,
    .adc, .fspi] ⊆ T) (hh : Kept T zz s) : Kept T zz (State.duskResume s) := by
  unfold State.duskResume
  try lift_lets
  repeat' first
    | with_reducible assumption | exact keptSub (by decide) hT
    | (intro s; refine (fun hk : Kept T zz s => ?_) ?_; clear_value s; rotate_left; subst s) | (intro v; try clear_value v)
    | with_reducible apply State.foldSpan_kept | with_reducible apply State.refEnable_kept
    | with_reducible apply State.capUnpause_kept | with_reducible apply State.flushNw_kept
    | with_reducible apply State.persistBegin_kept | with_reducible apply State.refreshIcu_kept
    | with_reducible apply Kept.ite | fail_if_no_progress (with_reducible refine Kept.upd_pwr ?_ (has (by decide) hT))
    | fail_if_no_progress (with_reducible refine Kept.upd_rule ?_ (has (by decide) hT)) | split | lift_lets

theorem State.mornFire_kept {T : List Comp} {zz s : State} (hT : [.regs, .pwr] ⊆ T) (hh : Kept T zz s) : Kept T zz
    (State.mornFire s) := by
  unfold State.mornFire
  try lift_lets
  repeat' first
    | with_reducible assumption | exact keptSub (by decide) hT
    | (intro s; refine (fun hk : Kept T zz s => ?_) ?_; clear_value s; rotate_left; subst s) | (intro v; try clear_value v)
    | with_reducible apply State.put_kept | with_reducible apply State.putFlag_kept | with_reducible apply Kept.ite
    | fail_if_no_progress (with_reducible refine Kept.upd_pwr ?_ (has (by decide) hT)) | split | lift_lets

theorem State.mornProbe_kept {T : List Comp} {zz s : State} (hT : [.pwr] ⊆ T) (n : Nat) (hh : Kept T zz s) : Kept T zz
    (State.mornProbe s n) := by
  unfold State.mornProbe
  try lift_lets
  repeat' first
    | with_reducible assumption | exact keptSub (by decide) hT
    | (intro s; refine (fun hk : Kept T zz s => ?_) ?_; clear_value s; rotate_left; subst s) | (intro v; try clear_value v)
    | with_reducible apply Kept.ite | with_reducible (apply Kept.fold; intro _ _ _)
    | fail_if_no_progress (with_reducible refine Kept.upd_pwr ?_ (has (by decide) hT)) | split | lift_lets

theorem State.mornSwitch_kept {T : List Comp} {zz s : State} (hT : [.regs, .pwr, .banks] ⊆ T) (n : Nat) (hh : Kept T zz s) :
    Kept T zz (State.mornSwitch s n) := by
  unfold State.mornSwitch
  dsimp only
  repeat' first
    | with_reducible assumption | exact keptSub (by decide) hT | with_reducible apply Kept.ite
    | with_reducible apply State.bankOpen_kept | fail_if_no_progress (with_reducible refine Kept.upd_pwr ?_ (has (by decide) hT))

theorem State.mornNext_kept {T : List Comp} {zz s : State} (hT : [.regs, .evt, .pwr, .banks] ⊆ T) (hh : Kept T zz s) : Kept T
    zz (State.mornNext s) := by
  unfold State.mornNext
  try lift_lets
  repeat' first
    | with_reducible assumption | exact keptSub (by decide) hT
    | (intro s; refine (fun hk : Kept T zz s => ?_) ?_; clear_value s; rotate_left; subst s) | (intro v; try clear_value v)
    | with_reducible apply State.mornProbe_kept | with_reducible apply State.mornSwitch_kept
    | with_reducible apply State.mornEnd_kept | with_reducible apply Kept.ite
    | fail_if_no_progress (with_reducible refine Kept.upd_pwr ?_ (has (by decide) hT)) | split | lift_lets

theorem State.mornSkip_kept {T : List Comp} {zz s : State} (hT : [.regs, .pwr] ⊆ T) (hh : Kept T zz s) : Kept T zz
    (State.mornSkip s) := by
  unfold State.mornSkip
  repeat' first
    | with_reducible assumption | exact keptSub (by decide) hT | with_reducible apply State.putFlag_kept
    | with_reducible apply State.put_kept | with_reducible apply Kept.ite
    | fail_if_no_progress (with_reducible refine Kept.upd_pwr ?_ (has (by decide) hT)) | split

theorem State.bistDataRead_kept {T : List Comp} {zz s : State} (hT : [.ctx] ⊆ T) (c : Nat) (hh : Kept T zz s) : Kept T zz
    (State.bistDataRead s c) := by
  unfold State.bistDataRead
  try lift_lets
  repeat' first
    | with_reducible assumption | exact keptSub (by decide) hT | (intro v; try clear_value v)
    | with_reducible apply State.setCopy_kept

theorem State.hostLatch_kept {T : List Comp} {zz s : State} (hT : [.ctx] ⊆ T) (c off : Nat) (hh : Kept T zz s) : Kept T zz
    (State.hostLatch s c off) := by
  unfold State.hostLatch
  repeat' first
    | with_reducible assumption | exact keptSub (by decide) hT | with_reducible apply State.obsDataRead_kept
    | with_reducible apply State.bistDataRead_kept | with_reducible apply State.ldDataRead_kept
    | with_reducible apply State.ruleDataRead_kept | with_reducible apply State.timeRead_kept | with_reducible apply Kept.ite

theorem State.hostClear_kept {T : List Comp} {zz s : State} (hT : [.regs] ⊆ T) (off : Nat) (hh : Kept T zz s) : Kept T zz
    (State.hostClear s off) := by
  unfold State.hostClear
  repeat' first
    | with_reducible assumption | exact keptSub (by decide) hT | with_reducible apply State.putFlag_kept
    | with_reducible apply State.nwstatRead_kept | with_reducible apply Kept.ite

theorem State.hostRead_kept {T : List Comp} {zz s : State} (hT : [.regs, .ctx] ⊆ T) (c off : Nat) (hh : Kept T zz s) : Kept2
    T zz (State.hostRead s c off) := by
  unfold State.hostRead
  try lift_lets
  repeat' first
    | with_reducible assumption | exact keptSub (by decide) hT
    | (intro s; refine (fun hk : Kept T zz s => ?_) ?_; clear_value s; rotate_left; subst s)
    | with_reducible apply State.hostLatch_kept | with_reducible apply State.hostClear_kept | with_reducible apply Kept.ite
    | with_reducible apply Kept2.ite | with_reducible apply Kept2.mk

theorem State.soilBuffer_kept {T : List Comp} {zz s : State} (hT : [.mbx] ⊆ T) (b : Nat) (hh : Kept T zz s) : Kept T zz
    (State.soilBuffer s b) := by
  unfold State.soilBuffer
  try lift_lets
  repeat' first
    | with_reducible assumption | exact keptSub (by decide) hT
    | (intro s; refine (fun hk : Kept T zz s => ?_) ?_; clear_value s; rotate_left; subst s) | (intro v; try clear_value v)
    | with_reducible apply State.setMbx_kept

theorem State.ramStore_kept {T : List Comp} {zz s : State} (hT : [.mbx] ⊆ T) (off x : Nat) (hh : Kept T zz s) : Kept T zz
    (State.ramStore s off x) := by
  unfold State.ramStore
  repeat' first
    | with_reducible assumption | exact keptSub (by decide) hT | with_reducible apply State.soilBuffer_kept
    | with_reducible apply State.ramWrite_kept | with_reducible apply Kept.ite

theorem State.memPage_kept {T : List Comp} {zz s : State} (hT : [.ctx] ⊆ T) (c x : Nat) (hh : Kept T zz s) : Kept T zz
    (State.memPage s c x) := by
  unfold State.memPage
  try lift_lets
  repeat' first
    | with_reducible assumption | exact keptSub (by decide) hT | (intro v; try clear_value v)
    | with_reducible apply State.setCopy_kept

theorem State.icuStore_kept {T : List Comp} {zz s : State} (hT : [.regs, .pins, .icu, .nw, .pwr] ⊆ T) (off x : Nat) (hh :
    Kept T zz s) : Kept T zz (State.icuStore s off x) := by
  unfold State.icuStore
  try lift_lets
  repeat' first
    | with_reducible assumption | exact keptSub (by decide) hT | (intro v; try clear_value v)
    | with_reducible apply State.pendWrite_kept | with_reducible apply State.maskWrite_kept
    | with_reducible apply State.pendClear_kept | with_reducible apply State.wr_kept | with_reducible apply Kept.ite

theorem State.mbxStatClear_kept {T : List Comp} {zz s : State} (hT : [.regs] ⊆ T) (x : Nat) (hh : Kept T zz s) : Kept T zz
    (State.mbxStatClear s x) := by
  unfold State.mbxStatClear
  try lift_lets
  repeat' first
    | with_reducible assumption | exact keptSub (by decide) hT | (intro (v : State → _); subst v)
    | with_reducible apply State.putFlag_kept | with_reducible apply Kept.ite

theorem State.unprivStore_kept {T : List Comp} {zz s : State} (hT : [.regs, .pins, .icu, .evt, .nw, .pwr, .obs, .ctx, .sec] ⊆
    T) (c off x : Nat) (hh : Kept T zz s) : Kept T zz (State.unprivStore s c off x) := by
  unfold State.unprivStore
  repeat' first
    | with_reducible assumption | exact keptSub (by decide) hT | with_reducible apply State.aspReqWrite_kept
    | with_reducible apply State.wr_kept | with_reducible apply State.mbxReset_kept
    | with_reducible apply State.aspVarWrite_kept | with_reducible apply State.evtThresh_kept
    | with_reducible apply State.doorbell_kept | with_reducible apply State.cqHead_kept
    | with_reducible apply State.evtRdseq_kept | with_reducible apply State.memPage_kept
    | with_reducible apply State.icuStore_kept | with_reducible apply State.mbxStatClear_kept | with_reducible apply Kept.ite

theorem State.shadowStore_kept {T : List Comp} {zz s : State} (hT : [.regs] ⊆ T) (off x : Nat) (hh : Kept T zz s) : Kept T zz
    (State.shadowStore s off x) := by
  unfold State.shadowStore
  try lift_lets
  repeat' first
    | with_reducible assumption | exact keptSub (by decide) hT | (intro v; try clear_value v)
    | with_reducible apply State.wr_kept | with_reducible apply Kept.ite | split

theorem State.softTrigger_kept {T : List Comp} {zz s : State} (hT : [.regs, .icu, .evt, .nw, .pwr, .adc] ⊆ T) (x : Nat) (hh :
    Kept T zz s) : Kept T zz (State.softTrigger s x) := by
  unfold State.softTrigger
  try lift_lets
  repeat' first
    | with_reducible assumption | exact keptSub (by decide) hT
    | (intro s; refine (fun hk : Kept T zz s => ?_) ?_; clear_value s; rotate_left; subst s) | (intro v; try clear_value v)
    | with_reducible apply State.trigger_kept | with_reducible apply Kept.ite
    | with_reducible (apply Kept.fold; intro _ _ _) | split | lift_lets

theorem State.indexStore_kept {T : List Comp} {zz s : State} (hT : [.ctx] ⊆ T) (c off x : Nat) (hh : Kept T zz s) : Kept T zz
    (State.indexStore s c off x) := by
  unfold State.indexStore
  try lift_lets
  repeat' first
    | with_reducible assumption | exact keptSub (by decide) hT | (intro v; try clear_value v)
    | with_reducible apply State.setCopy_kept | with_reducible apply Kept.ite

theorem State.privStore_kept {T : List Comp} {zz s : State} (hT : [.regs, .icu, .evt, .nw, .mem, .life, .pwr, .ctx, .chans,
    .banks, .mtx, .adc, .sec, .fspi] ⊆ T) (c off x : Nat) (hh : Kept T zz s) : Kept T zz (State.privStore s c off x) := by
  unfold State.privStore
  try lift_lets
  repeat' first
    | with_reducible assumption | exact keptSub (by decide) hT
    | (intro s; refine (fun hk : Kept T zz s => ?_) ?_; clear_value s; rotate_left; subst s)
    | with_reducible apply State.mtxClear_kept | with_reducible apply State.fltClrWrite_kept
    | with_reducible apply State.wr_kept | with_reducible apply State.refEnable_kept
    | with_reducible apply State.supFltClr_kept | with_reducible apply State.pwSet_kept
    | with_reducible apply State.softTrigger_kept | with_reducible apply State.pwCmd_kept
    | with_reducible apply State.sigCmd_kept | with_reducible apply State.shadowStore_kept
    | with_reducible apply State.indexStore_kept | with_reducible apply State.fieldLockSet_kept
    | with_reducible apply State.lifeCmd_kept | with_reducible apply State.pwrCtl_kept
    | with_reducible apply State.rollback_kept | with_reducible apply Kept.ite

theorem State.hostWrite_kept {T : List Comp} {zz s : State} (hT : [.regs, .pins, .icu, .evt, .nw, .mem, .life, .pwr, .obs,
    .ctx, .chans, .banks, .mtx, .adc, .mbx, .sec, .fspi] ⊆ T) (c off x : Nat) (hh : Kept T zz s) : Kept T zz (State.hostWrite
    s c off x) := by
  unfold State.hostWrite
  repeat' first
    | with_reducible assumption | exact keptSub (by decide) hT | with_reducible apply State.privStore_kept
    | with_reducible apply State.ramStore_kept | with_reducible apply State.unprivStore_kept | with_reducible apply Kept.ite

theorem State.accessErr_kept {T : List Comp} {zz s : State} (hT : [.regs, .icu, .nw, .pwr] ⊆ T) (hh : Kept T zz s) : Kept T
    zz (State.accessErr s) := by
  unfold State.accessErr
  repeat' first
    | with_reducible assumption | exact keptSub (by decide) hT | with_reducible apply State.mbxErr_kept

theorem State.wordWrite_kept {T : List Comp} {zz s : State} (hT : [.regs, .pins, .icu, .evt, .nw, .mem, .life, .pwr, .obs,
    .ctx, .chans, .banks, .mtx, .adc, .mbx, .sec, .fspi] ⊆ T) (c off x : Nat) (priv : Bool) (hh : Kept T zz s) : Kept T zz
    (State.wordWrite s c off x priv) := by
  unfold State.wordWrite
  try lift_lets
  repeat' first
    | with_reducible assumption | exact keptSub (by decide) hT
    | (intro s; refine (fun hk : Kept T zz s => ?_) ?_; clear_value s; rotate_left; subst s)
    | with_reducible apply State.touch_kept | with_reducible apply State.hostWrite_kept
    | with_reducible apply State.accessErr_kept | with_reducible apply Kept.ite

theorem State.regWrite_kept {T : List Comp} {zz s : State} (hT : [.regs, .pins, .icu, .evt, .nw, .mem, .life, .pwr, .obs,
    .ctx, .chans, .banks, .mtx, .adc, .mbx, .sec, .fspi] ⊆ T) (c off x : Nat) (hh : Kept T zz s) : Kept T zz (State.regWrite
    s c off x) := by
  unfold State.regWrite
  repeat' first
    | with_reducible assumption | exact keptSub (by decide) hT | with_reducible apply State.wordWrite_kept
    | with_reducible apply Kept.ite

theorem State.wordRead_kept {T : List Comp} {zz s : State} (hT : [.regs, .icu, .nw, .pwr, .ctx, .sec] ⊆ T) (c off : Nat)
    (priv : Bool) (hh : Kept T zz s) : Kept2 T zz (State.wordRead s c off priv) := by
  unfold State.wordRead
  repeat' first
    | with_reducible assumption | exact keptSub (by decide) hT | with_reducible apply State.touch_kept
    | with_reducible apply State.accessErr_kept | with_reducible apply State.hostRead_kept | with_reducible apply Kept.ite
    | with_reducible apply Kept2.ite | with_reducible apply Kept2.mk

theorem State.burstWrite_kept {T : List Comp} {zz s : State} (hT : [.regs, .pins, .icu, .evt, .nw, .mem, .life, .pwr, .obs, .ctx, .chans, .banks, .mtx, .adc, .mbx, .sec, .fspi] ⊆ T) (priv : Bool) (off : Nat) (xs : List (BitVec 32)) (hh : Kept T zz s) : Kept T zz
    (State.burstWrite s priv off xs) := by
  induction xs generalizing s off with
  | nil => exact hh
  | cons b bs ih => exact ih (off + 4) (State.wordWrite_kept (keptSub (by decide) hT) _ _ _ _ hh)

theorem State.qspiWrite_kept {T : List Comp} {zz s : State} (hT : [.regs, .pins, .icu, .evt, .nw, .mem, .life, .pwr, .obs,
    .ctx, .chans, .banks, .mtx, .adc, .mbx, .sec, .fspi, .bus] ⊆ T) (addr : Nat) (ws : List (BitVec 32)) (part : Bool) (hh :
    Kept T zz s) : Kept T zz (State.qspiWrite s addr ws part) := by
  unfold State.qspiWrite
  try lift_lets
  repeat' first
    | with_reducible assumption | exact keptSub (by decide) hT
    | (intro s; refine (fun hk : Kept T zz s => ?_) ?_; clear_value s; rotate_left; subst s)
    | with_reducible apply State.burstWrite_kept | with_reducible apply State.accessErr_kept | with_reducible apply Kept.ite
    | fail_if_no_progress (with_reducible refine Kept.upd_bus ?_ (has (by decide) hT))

theorem State.fetchLine_kept {T : List Comp} {zz s : State} (hT : [.ctx] ⊆ T) (c a : Nat) (hh : Kept T zz s) : Kept T zz
    (State.fetchLine s c a) := by
  unfold State.fetchLine
  try lift_lets
  repeat' first
    | with_reducible assumption | exact keptSub (by decide) hT | (intro v; try clear_value v)
    | with_reducible apply State.setCopy_kept

theorem State.fetchStart_kept {T : List Comp} {zz s : State} (hT : [.ctx] ⊆ T) (c a : Nat) (hh : Kept T zz s) : Kept T zz
    (State.fetchStart s c a) := by
  unfold State.fetchStart
  try lift_lets
  repeat' first
    | with_reducible assumption | exact keptSub (by decide) hT | (intro v; try clear_value v)
    | with_reducible apply State.setCopy_kept | with_reducible apply Kept.ite

theorem State.burstWord_kept {T : List Comp} {zz s : State} (hT : [.regs, .icu, .nw, .pwr, .ctx, .sec] ⊆ T) (priv : Bool)
    (line : Option Nat) (off : Nat) (hh : Kept T zz s) : Kept2 T zz (State.burstWord s priv line off) := by
  unfold State.burstWord
  try lift_lets
  repeat' first
    | with_reducible assumption | exact keptSub (by decide) hT | (intro v; try clear_value v)
    | with_reducible apply State.wordRead_kept | with_reducible apply State.accessErr_kept | with_reducible apply Kept.ite
    | with_reducible apply Kept2.ite | with_reducible apply Kept2.mk

theorem State.burstRead_kept {T : List Comp} {zz s : State} (hT : [.regs, .icu, .nw, .pwr, .ctx, .sec] ⊆ T) (priv : Bool)
    (line : Option Nat) (off n : Nat) (hh : Kept T zz s) :
    Kept2 T zz (s.burstRead priv line off n) := by
  induction n generalizing s off with
  | zero => exact hh
  | succ n ih => exact ih (off + 4) (State.burstWord_kept (keptSub (by decide) hT) _ _ _ hh)

theorem State.qspiRead_kept {T : List Comp} {zz s : State} (hT : [.regs, .icu, .nw, .pwr, .ctx, .sec, .bus] ⊆ T) (addr n :
    Nat) (hh : Kept T zz s) : Kept T zz (State.qspiRead s addr n) := by
  unfold State.qspiRead
  try lift_lets
  repeat' first
    | with_reducible assumption | exact keptSub (by decide) hT
    | (intro s; refine (fun hk : Kept T zz s => ?_) ?_; clear_value s; rotate_left; subst s)
    | (intro (v : State → _); subst v) | (intro v; try clear_value v) | with_reducible apply State.burstRead_kept
    | with_reducible (apply Kept.snd; apply State.burstRead_kept) | with_reducible apply State.accessErr_kept
    | with_reducible apply State.fetchStart_kept | with_reducible apply Kept.ite | with_reducible apply Kept2.ite
    | with_reducible apply Kept2.mk | fail_if_no_progress (with_reducible refine Kept.upd_bus ?_ (has (by decide) hT))

theorem State.qspiStatus_kept {T : List Comp} {zz s : State} (hT : [.regs, .bus] ⊆ T) (hh : Kept T zz s) : Kept T zz
    (State.qspiStatus s) := by
  unfold State.qspiStatus
  try lift_lets
  repeat' first
    | with_reducible assumption | exact keptSub (by decide) hT
    | (intro s; refine (fun hk : Kept T zz s => ?_) ?_; clear_value s; rotate_left; subst s)
    | with_reducible apply State.putFlag_kept | with_reducible apply Kept.ite
    | fail_if_no_progress (with_reducible refine Kept.upd_bus ?_ (has (by decide) hT))

theorem State.qspiInvalid_kept {T : List Comp} {zz s : State} (hT : [.regs, .icu, .nw, .pwr, .bus] ⊆ T) (hh : Kept T zz s) :
    Kept T zz (State.qspiInvalid s) := by
  unfold State.qspiInvalid
  try lift_lets
  repeat' first
    | with_reducible assumption | exact keptSub (by decide) hT
    | (intro s; refine (fun hk : Kept T zz s => ?_) ?_; clear_value s; rotate_left; subst s)
    | with_reducible apply State.accessErr_kept | with_reducible apply Kept.ite
    | fail_if_no_progress (with_reducible refine Kept.upd_bus ?_ (has (by decide) hT))

theorem State.qspiTransaction_kept {T : List Comp} {zz s : State} (hT : [.regs, .pins, .icu, .evt, .nw, .mem, .life, .pwr,
    .obs, .ctx, .chans, .banks, .mtx, .adc, .mbx, .sec, .fspi, .bus] ⊆ T) (inst addr : Nat) (ws : List (BitVec 32)) (part :
    Bool) (n : Nat) (hh : Kept T zz s) : Kept T zz (State.qspiTransaction s inst addr ws part n) := by
  unfold State.qspiTransaction
  repeat' first
    | with_reducible assumption | exact keptSub (by decide) hT | with_reducible apply State.qspiWrite_kept
    | with_reducible apply State.qspiRead_kept | with_reducible apply State.qspiStatus_kept
    | with_reducible apply State.qspiInvalid_kept | with_reducible apply Kept.ite | split

theorem State.fetchDone_kept {T : List Comp} {zz s : State} (hT : [.ctx] ⊆ T) (c : Nat) (hh : Kept T zz s) : Kept T zz
    (State.fetchDone s c) := by
  unfold State.fetchDone
  try lift_lets
  repeat' first
    | with_reducible assumption | exact keptSub (by decide) hT | (intro v; try clear_value v)
    | with_reducible apply State.setCopy_kept | with_reducible apply State.fetchLine_kept | with_reducible apply Kept.ite
    | split

theorem State.lineAge_kept {T : List Comp} {zz s : State} (hT : [.ctx] ⊆ T) (c : Nat) (hh : Kept T zz s) : Kept T zz
    (State.lineAge s c) := by
  unfold State.lineAge
  try lift_lets
  repeat' first
    | with_reducible assumption | exact keptSub (by decide) hT | (intro v; try clear_value v)
    | with_reducible apply State.setCopy_kept

theorem State.regRead_kept {T : List Comp} {zz s : State} (hT : [.regs, .icu, .nw, .pwr, .ctx, .sec] ⊆ T) (c off : Nat) (hh :
    Kept T zz s) : Kept T zz (State.regRead s c off) := by
  unfold State.regRead
  repeat' first
    | with_reducible assumption | exact keptSub (by decide) hT | with_reducible apply State.wordRead_kept
    | with_reducible (apply Kept.snd; apply State.wordRead_kept) | with_reducible apply Kept.ite

theorem State.cmdWord_kept {T : List Comp} {zz s : State} (hT : [.regs, .icu, .nw, .pwr, .ctx, .sec] ⊆ T) (c off : Nat) (priv
    : Bool) (hh : Kept T zz s) : Kept2 T zz (State.cmdWord s c off priv) := by
  unfold State.cmdWord
  try lift_lets
  repeat' first
    | with_reducible assumption | exact keptSub (by decide) hT
    | (intro s; refine (fun hk : Kept T zz s => ?_) ?_; clear_value s; rotate_left; subst s) | (intro v; try clear_value v)
    | with_reducible apply State.wordRead_kept | with_reducible apply State.fetchLine_kept | with_reducible apply Kept.ite
    | with_reducible apply Kept2.ite | with_reducible apply Kept2.mk

theorem State.wordDone_kept {T : List Comp} {zz s : State} (hT : [.mbx] ⊆ T) (c : Cmd) (n r0 : Nat) (bs : List Byte) (hh :
    Kept T zz s) : Kept T zz (State.wordDone s c n r0 bs) := by
  unfold State.wordDone
  repeat' first
    | with_reducible assumption | exact keptSub (by decide) hT | with_reducible apply State.finishCmd_kept
    | with_reducible apply State.updCmd_kept | with_reducible apply Kept.ite | split

theorem State.regReadCmd_kept {T : List Comp} {zz s : State} (hT : [.regs, .icu, .nw, .pwr, .ctx, .mbx, .sec] ⊆ T) (c : Cmd)
    (hh : Kept T zz s) : Kept T zz (State.regReadCmd s c) := by
  unfold State.regReadCmd
  try lift_lets
  repeat' first
    | with_reducible assumption | exact keptSub (by decide) hT
    | (intro s; refine (fun hk : Kept T zz s => ?_) ?_; clear_value s; rotate_left; subst s) | (intro v; try clear_value v)
    | with_reducible apply State.finishCmd_kept | with_reducible apply State.cmdWord_kept
    | with_reducible (apply Kept.snd; apply State.cmdWord_kept)
    | with_reducible (refine Kept.eq2 (by assumption) ?_; apply State.cmdWord_kept)
    | with_reducible apply State.wordDone_kept | with_reducible apply Kept.ite | with_reducible apply Kept2.ite
    | with_reducible apply Kept2.mk | split | lift_lets

theorem State.regWriteCmd_kept {T : List Comp} {zz s : State} (hT : [.regs, .pins, .icu, .evt, .nw, .mem, .life, .pwr, .obs,
    .ctx, .chans, .banks, .mtx, .adc, .mbx, .sec, .fspi] ⊆ T) (c : Cmd) (hh : Kept T zz s) : Kept T zz (State.regWriteCmd s
    c) := by
  unfold State.regWriteCmd
  try lift_lets
  repeat' first
    | with_reducible assumption | exact keptSub (by decide) hT
    | (intro s; refine (fun hk : Kept T zz s => ?_) ?_; clear_value s; rotate_left; subst s) | (intro v; try clear_value v)
    | with_reducible apply State.finishCmd_kept | with_reducible apply State.wordWrite_kept
    | with_reducible apply State.wordDone_kept | with_reducible apply Kept.ite | split | lift_lets

theorem State.aspectRequest_kept {T : List Comp} {zz s : State} (hT : [.regs, .mbx] ⊆ T) (c : Cmd) (hh : Kept T zz s) : Kept
    T zz (State.aspectRequest s c) := by
  unfold State.aspectRequest
  try lift_lets
  repeat' first
    | with_reducible assumption | exact keptSub (by decide) hT | (intro v; try clear_value v)
    | with_reducible apply State.aspReqWrite_kept | with_reducible apply State.finishCmd_kept | with_reducible apply Kept.ite

theorem State.rearmCmd_kept {T : List Comp} {zz s : State} (hT : [.regs, .ptp, .mbx] ⊆ T) (c : Cmd) (hh : Kept T zz s) : Kept
    T zz (State.rearmCmd s c) := by
  unfold State.rearmCmd
  try lift_lets
  repeat' first
    | with_reducible assumption | exact keptSub (by decide) hT | with_reducible apply State.finishCmd_kept
    | with_reducible apply State.rearm_kept | with_reducible (apply Kept.fst; apply State.rearm_kept)
    | with_reducible apply Kept.ite

theorem State.logEvents_kept {T : List Comp} {zz s : State} (hT : [.mbx] ⊆ T) (c : Cmd) (hh : Kept T zz s) : Kept T zz
    (State.logEvents s c) := by
  unfold State.logEvents
  try lift_lets
  repeat' first
    | with_reducible assumption | exact keptSub (by decide) hT | (intro v; try clear_value v)
    | with_reducible apply State.finishCmd_kept

theorem State.logRecord_kept {T : List Comp} {zz s : State} (hT : [.mbx] ⊆ T) (c : Cmd) (base : Nat) (hh : Kept T zz s) :
    Kept T zz (State.logRecord s c base) := by
  unfold State.logRecord
  try lift_lets
  repeat' first
    | with_reducible assumption | exact keptSub (by decide) hT | (intro v; try clear_value v)
    | with_reducible apply State.finishCmd_kept | with_reducible apply Kept.ite

theorem State.logSnapshot_kept {T : List Comp} {zz s : State} (hT : [.mbx] ⊆ T) (c : Cmd) (hh : Kept T zz s) : Kept T zz
    (State.logSnapshot s c) := by
  unfold State.logSnapshot
  try lift_lets
  repeat' first
    | with_reducible assumption | exact keptSub (by decide) hT | (intro v; try clear_value v)
    | with_reducible apply State.finishCmd_kept | with_reducible apply State.logRecord_kept | with_reducible apply Kept.ite

theorem State.logCmd_kept {T : List Comp} {zz s : State} (hT : [.mbx] ⊆ T) (area : Nat) (f : Cmd → State) (hf : ∀ c, Kept T zz (f c)) (hh : Kept T zz s)
    : Kept T zz (State.logCmd s area f) :=
  State.onCmd_kept (keptSub (by decide) hT) _ _ (fun c => Kept.ite (hf c) (State.finishCmd_kept (keptSub (by decide) hT) _ _ _ _ hh)) hh

theorem State.capArm_kept {T : List Comp} {zz s : State} (hT : [.regs, .cap, .mbx] ⊆ T) (c : Cmd) (trig : Nat) (hh : Kept T
    zz s) : Kept T zz (State.capArm s c trig) := by
  unfold State.capArm
  try lift_lets
  repeat' first
    | with_reducible assumption | exact keptSub (by decide) hT
    | (intro s; refine (fun hk : Kept T zz s => ?_) ?_; clear_value s; rotate_left; subst s) | (intro v; try clear_value v)
    | with_reducible apply State.finishCmd_kept | with_reducible apply State.capResume_kept
    | with_reducible apply State.put_kept | with_reducible apply State.putFlag_kept
    | with_reducible apply State.capTrigger_kept | with_reducible apply Kept.ite
    | fail_if_no_progress (with_reducible refine Kept.upd_cap ?_ (has (by decide) hT)) | split | lift_lets

theorem State.capCmd_kept {T : List Comp} {zz s : State} (hT : [.regs, .cap, .mbx] ⊆ T) (trig : Nat) (hh : Kept T zz s) :
    Kept T zz (State.capCmd s trig) := by
  unfold State.capCmd
  repeat' first
    | with_reducible assumption | exact keptSub (by decide) hT | with_reducible apply State.capArm_kept
    | with_reducible apply State.finishCmd_kept | with_reducible apply State.onCmd_kept | with_reducible apply Kept.ite
    | split | intro _

theorem State.elevateCmd_kept {T : List Comp} {zz s : State} (hT : [.regs, .evt, .mbx, .sec, .fspi] ⊆ T) (c : Cmd) (hh : Kept
    T zz s) : Kept T zz (State.elevateCmd s c) := by
  unfold State.elevateCmd
  try lift_lets
  repeat' first
    | with_reducible assumption | exact keptSub (by decide) hT | with_reducible apply State.pwCheck_kept
    | with_reducible (apply Kept.fst; apply State.pwCheck_kept) | with_reducible apply State.finishCmd_kept
    | with_reducible apply Kept.ite | with_reducible apply Kept1.ite | with_reducible apply Kept1.mk | split

theorem State.dropCmd_kept {T : List Comp} {zz s : State} (hT : [.mbx, .sec] ⊆ T) (c : Cmd) (hh : Kept T zz s) : Kept T zz
    (State.dropCmd s c) := by
  unfold State.dropCmd
  repeat' first
    | with_reducible assumption | exact keptSub (by decide) hT | with_reducible apply State.finishCmd_kept
    | with_reducible apply State.endElev_kept

theorem State.dropAllCmd_kept {T : List Comp} {zz s : State} (hT : [.mbx, .sec] ⊆ T) (c : Cmd) (hh : Kept T zz s) : Kept T zz
    (State.dropAllCmd s c) := by
  unfold State.dropAllCmd
  repeat' first
    | with_reducible assumption | exact keptSub (by decide) hT | with_reducible apply State.endAllElev_kept
    | with_reducible apply State.finishCmd_kept | with_reducible apply Kept.ite

theorem State.challengeCmd_kept {T : List Comp} {zz s : State} (hT : [.free, .mbx, .sec] ⊆ T) (c : Cmd) (purpose : Nat) (hh :
    Kept T zz s) : Kept T zz (State.challengeCmd s c purpose) := by
  unfold State.challengeCmd
  try lift_lets
  repeat' first
    | with_reducible assumption | exact keptSub (by decide) hT | with_reducible apply State.finishCmd_kept
    | with_reducible apply State.challenge_kept | with_reducible (apply Kept.snd; apply State.challenge_kept)
    | with_reducible apply Kept.ite | with_reducible apply Kept2.ite | with_reducible apply Kept2.mk | split

theorem State.respondCmd_kept {T : List Comp} {zz s : State} (hT : [.regs, .evt, .mbx, .sec, .fspi] ⊆ T) (c : Cmd) (purpose :
    Nat) (hh : Kept T zz s) : Kept T zz (State.respondCmd s c purpose) := by
  unfold State.respondCmd
  try lift_lets
  repeat' first
    | with_reducible assumption | exact keptSub (by decide) hT | with_reducible apply State.respCheck_kept
    | with_reducible (apply Kept.fst; apply State.respCheck_kept) | with_reducible apply State.finishCmd_kept
    | with_reducible apply Kept.ite | with_reducible apply Kept1.ite | with_reducible apply Kept1.mk | split

theorem State.purposeCmd_kept {T : List Comp} {zz s : State} (hT : [.mbx] ⊆ T) (op purpose : Nat) (f : Cmd → State) (hf : ∀ c, Kept T zz (f c)) (hh :
    Kept T zz s) : Kept T zz (State.purposeCmd s op purpose f) :=
  State.onCmd_kept (keptSub (by decide) hT) _ _ hf hh

theorem State.setSpi_kept {T : List Comp} {zz s : State} (hT : [.spi] ⊆ T) (x : Spi) (hh : Kept T zz s) : Kept T zz
    (State.setSpi s x) := by
  unfold State.setSpi
  repeat' first
    | with_reducible assumption | exact keptSub (by decide) hT | with_reducible apply Kept.ite
    | fail_if_no_progress (with_reducible refine Kept.upd_spi ?_ (has (by decide) hT))

theorem State.spiErr_kept {T : List Comp} {zz s : State} (hT : [.spi] ⊆ T) (hh : Kept T zz s) : Kept T zz (State.spiErr s) :=
    by
  unfold State.spiErr
  repeat' first
    | with_reducible assumption | exact keptSub (by decide) hT | with_reducible apply State.setSpi_kept

theorem State.ctrlWrite_kept {T : List Comp} {zz s : State} (hT : [.regs, .spi] ⊆ T) (n x : Nat) (hh : Kept T zz s) : Kept T
    zz (State.ctrlWrite s n x) := by
  unfold State.ctrlWrite
  try lift_lets
  repeat' first
    | with_reducible assumption | exact keptSub (by decide) hT
    | (intro s; refine (fun hk : Kept T zz s => ?_) ?_; clear_value s; rotate_left; subst s) | (intro v; try clear_value v)
    | with_reducible apply State.spiErr_kept | with_reducible apply State.setSpi_kept
    | with_reducible apply State.aspReqWrite_kept | with_reducible apply Kept.ite | split

theorem State.pwTry_kept {T : List Comp} {zz s : State} (hT : [.regs, .evt, .spi, .sec, .fspi] ⊆ T) (hi : Nat) (hh : Kept T
    zz s) : Kept T zz (State.pwTry s hi) := by
  unfold State.pwTry
  try lift_lets
  repeat' first
    | with_reducible assumption | exact keptSub (by decide) hT
    | (intro s; refine (fun hk : Kept T zz s => ?_) ?_; clear_value s; rotate_left; subst s) | (intro v; try clear_value v)
    | with_reducible apply State.pwCheck_kept | with_reducible (apply Kept.fst; apply State.pwCheck_kept)
    | with_reducible apply State.spiErr_kept | with_reducible apply State.setSpi_kept | with_reducible apply Kept.ite

theorem State.selfTest_kept {T : List Comp} {zz s : State} (hT : [.regs, .spi, .sec, .bist] ⊆ T) (x : Nat) (hh : Kept T zz s)
    : Kept T zz (State.selfTest s x) := by
  unfold State.selfTest
  try lift_lets
  repeat' first
    | with_reducible assumption | exact keptSub (by decide) hT
    | (intro s; refine (fun hk : Kept T zz s => ?_) ?_; clear_value s; rotate_left; subst s) | (intro v; try clear_value v)
    | with_reducible apply State.touch_kept | with_reducible apply State.bistBegin_kept
    | with_reducible apply State.spiErr_kept | with_reducible apply State.setSpi_kept | with_reducible apply Kept.ite

theorem State.spiFltClr_kept {T : List Comp} {zz s : State} (hT : [.regs, .icu, .nw, .pwr, .chans, .mtx, .spi, .sec] ⊆ T) (x
    : Nat) (hh : Kept T zz s) : Kept T zz (State.spiFltClr s x) := by
  unfold State.spiFltClr
  try lift_lets
  repeat' first
    | with_reducible assumption | exact keptSub (by decide) hT
    | (intro s; refine (fun hk : Kept T zz s => ?_) ?_; clear_value s; rotate_left; subst s) | (intro v; try clear_value v)
    | with_reducible apply State.touch_kept | with_reducible apply State.spiErr_kept
    | with_reducible apply State.fltClrChan_kept | with_reducible apply Kept.ite
    | with_reducible (apply Kept.fold; intro _ _ _)

theorem State.spiWrite_kept {T : List Comp} {zz s : State} (hT : [.regs, .icu, .evt, .nw, .pwr, .chans, .mtx, .spi, .sec,
    .bist, .fspi] ⊆ T) (a x : Nat) (hh : Kept T zz s) : Kept T zz (State.spiWrite s a x) := by
  unfold State.spiWrite
  repeat' first
    | with_reducible assumption | exact keptSub (by decide) hT | with_reducible apply State.spiFltClr_kept
    | with_reducible apply State.pwTry_kept | with_reducible apply State.setSpi_kept
    | with_reducible apply State.selfTest_kept | with_reducible apply State.ctrlWrite_kept
    | with_reducible apply State.endElev_kept | with_reducible apply Kept.ite

theorem State.spiFrame_kept {T : List Comp} {zz s : State} (hT : [.regs, .icu, .evt, .nw, .pwr, .chans, .mtx, .spi, .sec,
    .bist, .fspi, .bus] ⊆ T) (clocks cmd x : Nat) (hh : Kept T zz s) : Kept T zz (State.spiFrame s clocks cmd x) := by
  unfold State.spiFrame
  try lift_lets
  repeat' first
    | with_reducible assumption | exact keptSub (by decide) hT
    | (intro s; refine (fun hk : Kept T zz s => ?_) ?_; clear_value s; rotate_left; subst s) | (intro v; try clear_value v)
    | with_reducible apply State.spiWrite_kept | with_reducible apply State.spiErr_kept
    | with_reducible apply State.setSpi_kept | with_reducible apply Kept.ite
    | fail_if_no_progress (with_reducible refine Kept.upd_bus ?_ (has (by decide) hT))

end Sys2Proof.Machine
end

