-- ==== Sys2Proof/Laws/Effects.lean ====
section
/-! SUPPORT. What the shared operations write. -/

-- Proofs elaborated beside each other need more threads than the package's memory limit allows.
set_option Elab.async false

namespace Sys2Proof.Machine

-- Interrupt controller

/-- Pending and mask words and in-service flags of two states agree. -/
structure IcuWords (s t : State) : Prop where
  pend : t.icu.pend = s.icu.pend
  mask : t.icu.mask = s.icu.mask
  insvc : t.icu.insvc = s.icu.insvc
  dlv : t.icu.dlv = s.icu.dlv

theorem IcuWords.refl (s : State) : IcuWords s s := ⟨rfl, rfl, rfl, rfl⟩
theorem IcuWords.trans {s t u : State} (h : IcuWords s t) (k : IcuWords t u) : IcuWords s u :=
  ⟨k.pend.trans h.pend, k.mask.trans h.mask, k.insvc.trans h.insvc, k.dlv.trans h.dlv⟩

theorem State.refreshIcu_words (s : State) : IcuWords s s.refreshIcu := ⟨rfl, rfl, rfl, rfl⟩

theorem State.icuWords_of_icu {s t : State} (h : t.icu = s.icu) : IcuWords s t :=
  ⟨by rw [h], by rw [h], by rw [h], by rw [h]⟩

theorem State.duskExit_words (s : State) (c : Nat) : IcuWords s (s.duskExit c) := by
  unfold State.duskExit
  split
  · refine ⟨?_, ?_, ?_, ?_⟩ <;> simp
  · exact .refl s

theorem State.duskAbandon_icu (s : State) : s.duskAbandon.icu = s.icu := by
  unfold State.duskAbandon
  split
  · simp
  · split <;> simp

theorem State.nwWake_words (s : State) (n : Nat) : IcuWords s (s.nwWake n) := by
  unfold State.nwWake
  split
  · exact .refl s
  split
  · exact (s.duskExit_words 2).trans (icuWords_of_icu (by simp))
  split
  · exact icuWords_of_icu (by simp)
  · exact icuWords_of_icu (s.duskAbandon_icu)

theorem State.icuPend_pendSet (s : State) (k j : Nat) (b : Word) :
    (s.pendSet k b).icuPend j = if j = k then s.icuPend k ||| b else s.icuPend j := by
  unfold State.pendSet State.icuPend
  split
  · subst j; simp
  · rename_i h; simp [tabGet_set_other _ _ _ h]

theorem State.icuPend_pendClr (s : State) (k j : Nat) (b : Word) :
    (s.pendClr k b).icuPend j = if j = k then s.icuPend k &&& ~~~b else s.icuPend j := by
  unfold State.pendClr State.icuPend
  split
  · subst j; simp
  · rename_i h; simp [tabGet_set_other _ _ _ h]

theorem IcuWords.icuPend {s t : State} (h : IcuWords s t) (k : Nat) : t.icuPend k = s.icuPend k := by
  unfold State.icuPend; rw [h.pend]
theorem IcuWords.icuMask {s t : State} (h : IcuWords s t) (k : Nat) : t.icuMask k = s.icuMask k := by
  unfold State.icuMask; rw [h.mask]

/-- A raised source of the list sets its own pending bit and no other, unless the part is in Dusk and the source does not rise there. -/
theorem State.icuPend_raise (s : State) (n k : Nat) :
    (s.raise n).icuPend k =
      if sourceListed n = true ∧ (s.inDusk = false ∨ risesInDusk n = true) ∧ k = 3 + n / 32 then
        s.icuPend k ||| BitVec.ofNat 32 (2 ^ (n % 32)) else s.icuPend k := by
  unfold State.raise
  by_cases h : sourceListed n = true
  · by_cases h2 : (s.inDusk && !risesInDusk n) = true
    · rw [if_neg (by simp [h]), if_pos h2, if_neg]
      rintro ⟨_, h3, _⟩
      simp only [Bool.and_eq_true, Bool.not_eq_true'] at h2
      rcases h3 with h3 | h3 <;> simp_all
    · rw [if_neg (by simp [h]), if_neg h2, (State.refreshIcu_words _).icuPend, (State.nwWake_words _ _).icuPend,
        State.icuPend_pendSet]
      have : s.inDusk = false ∨ risesInDusk n = true := by
        cases h4 : s.inDusk <;> simp_all
      by_cases h5 : k = 3 + n / 32
      · subst h5; simp [h, this]
      · simp [h5]
  · rw [if_pos (by simpa using h), if_neg (by simp [h])]

theorem State.icuMask_raise (s : State) (n k : Nat) : (s.raise n).icuMask k = s.icuMask k := by
  unfold State.raise
  split
  · rfl
  split
  · rfl
  · rw [(State.refreshIcu_words _).icuMask, (State.nwWake_words _ _).icuMask]; rfl

/-- After the requests are formed anew, each target's request is its deliverability (R353). -/
theorem State.refreshIcu_request (s : State) (t : Fin 4) :
    tabGet (fun _ => false) s.refreshIcu.icu.request t = s.refreshIcu.deliverable t := by
  have h : ∀ n, s.refreshIcu.deliverable n = s.deliverable n := fun n => rfl
  rw [h]
  show tabGet (fun _ => false) ((List.range 4).foldl (fun r t => tabSet (fun _ => false) r t (s.deliverable t)) s.icu.request) t = _
  simp only [List.range, List.range.loop, List.foldl]
  have g : ∀ (r : Tab Bool) (a b : Nat) (v : Bool), tabGet (fun _ => false) (tabSet (fun _ => false) r a v) b
      = if b = a then v else tabGet (fun _ => false) r b := by
    intro r a b v
    split
    · subst b; simp
    · rename_i h; exact tabGet_set_other _ _ _ h
  simp only [g]
  fin_cases t <;> simp

-- QSPI (R307)

/-- A transaction does what its instruction byte says. -/
theorem State.qspiTransaction_writeS (s : State) (a : Nat) (ws : List (BitVec 32)) (part : Bool) (n : Nat) :
    s.qspiTransaction 0x02 a ws part n = s.qspiWrite a ws part := by simp [State.qspiTransaction]
theorem State.qspiTransaction_writeQ (s : State) (a : Nat) (ws : List (BitVec 32)) (part : Bool) (n : Nat) :
    s.qspiTransaction 0x32 a ws part n = s.qspiWrite a ws part := by simp [State.qspiTransaction]
theorem State.qspiTransaction_readS (s : State) (a : Nat) (ws : List (BitVec 32)) (part : Bool) (n : Nat) :
    s.qspiTransaction 0x03 a ws part n = s.qspiRead a n := by simp [State.qspiTransaction]
theorem State.qspiTransaction_readQ (s : State) (a : Nat) (ws : List (BitVec 32)) (part : Bool) (n : Nat) :
    s.qspiTransaction 0x3B a ws part n = s.qspiRead a n := by simp [State.qspiTransaction]
theorem State.qspiTransaction_status (s : State) (a : Nat) (ws : List (BitVec 32)) (part : Bool) (n : Nat) :
    s.qspiTransaction 0x05 a ws part n = s.qspiStatus := by simp [State.qspiTransaction]
theorem State.qspiTransaction_invalid (s : State) {i : Nat} (h : i ∉ [0x02, 0x03, 0x05, 0x32, 0x3B]) (a : Nat) (ws : List (BitVec 32))
    (part : Bool) (n : Nat) : s.qspiTransaction i a ws part n = s.qspiInvalid := by
  simp only [List.mem_cons, List.not_mem_nil, or_false, not_or] at h
  simp [State.qspiTransaction, h]

end Sys2Proof.Machine
end

