-- ==== Sys2Proof/Laws/Regs.lean ====
section
/-! SUPPORT. Which registers an operation may write: sets of registers as in `hits`, and one lemma per operation in the files Laws/Regs*.lean. -/

-- Proofs elaborated beside each other need more threads than the package's memory limit allows.
set_option Elab.async false
-- One proof script serves many operations, so a step or a name of it may have no use in some.
set_option linter.unusedVariables false
set_option linter.unusedTactic false
set_option linter.unreachableTactic false

namespace Sys2Proof.Machine

/-- Every register outside `R` holds in `t` what it holds in `x`. -/
structure Wr (R : List (Nat × Nat)) (x t : State) : Prop where
  eq : ∀ a, hits R a = false → t.rd a = x.rd a
def Wr1 {α : Type} (R : List (Nat × Nat)) (x : State) (p : State × α) : Prop := Wr R x p.1
def Wr2 {α : Type} (R : List (Nat × Nat)) (x : State) (p : α × State) : Prop := Wr R x p.2

variable {R : List (Nat × Nat)} {x : State}

theorem Wr.refl (x : State) : Wr R x x := ⟨fun _ _ => rfl⟩
theorem Wr.trans {y z : State} (h : Wr R x y) (k : Wr R y z) : Wr R x z := ⟨fun a ha => (k.eq a ha).trans (h.eq a ha)⟩
theorem Wr.of_regs {s t : State} (e : t.regs = s.regs) (h : Wr R x s) : Wr R x t := ⟨fun a ha => by
  have := h.eq a ha
  unfold State.rd at *
  rw [e]; exact this⟩
theorem Wr1.of_regs {α : Type} {s : State} {p : State × α} (e : p.1.regs = s.regs) (h : Wr R x s) : Wr1 R x p := Wr.of_regs e
    h
theorem Wr2.of_regs {α : Type} {s : State} {p : α × State} (e : p.2.regs = s.regs) (h : Wr R x s) : Wr2 R x p := Wr.of_regs e
    h

theorem hit_of_mem {a : Nat} {p : Nat × Nat} (h : p ∈ R) (k : (if p.2 = 0 then a == p.1 else decide (p.1 ≤ a) && (a - p.1) %
    p.2 == 0) = true) :
    hits R a = true := List.any_eq_true.mpr ⟨p, h, k⟩
theorem hit_one {a : Nat} (h : (a, 0) ∈ R) : hits R a = true := hit_of_mem h (by simp)
theorem hit_prog {a b n : Nat} (h : (b, n) ∈ R) (hn : n ≠ 0) (hb : b ≤ a) (hm : (a - b) % n = 0) : hits R a = true :=
  hit_of_mem h (by simp [hn, hb, hm])

theorem Wr.all {t : State} (h : (0, 1) ∈ R) : Wr R x t := ⟨fun a ha => by
  rw [hit_prog h (by decide) (Nat.zero_le a) (Nat.mod_one _)] at ha
  exact absurd ha (by decide)⟩
theorem Wr1.all {α : Type} {p : State × α} (h : (0, 1) ∈ R) : Wr1 R x p := Wr.all h
theorem Wr2.all {α : Type} {p : α × State} (h : (0, 1) ∈ R) : Wr2 R x p := Wr.all h

theorem has2 {c : Nat × Nat} {A : List (Nat × Nat)} (h : c ∈ A) (k : A ⊆ R) : c ∈ R := k h
theorem hitSub {A B : List (Nat × Nat)} (h : ∀ c ∈ A, c ∈ B) (k : B ⊆ R) : A ⊆ R := fun _ hc => k (h _ hc)

theorem Wr.ite {a b : State} {c : Prop} [Decidable c] (ha : Wr R x a) (hb : Wr R x b) : Wr R x (if c then a else b) := by
  split <;> assumption
theorem Wr1.ite {α : Type} {a b : State × α} {c : Prop} [Decidable c] (ha : Wr1 R x a) (hb : Wr1 R x b) :
    Wr1 R x (if c then a else b) := by split <;> assumption
theorem Wr2.ite {α : Type} {a b : α × State} {c : Prop} [Decidable c] (ha : Wr2 R x a) (hb : Wr2 R x b) :
    Wr2 R x (if c then a else b) := by split <;> assumption
theorem Wr1.mk {α : Type} {t : State} {v : α} (h : Wr R x t) : Wr1 R x (t, v) := h
theorem Wr2.mk {α : Type} {t : State} {v : α} (h : Wr R x t) : Wr2 R x (v, t) := h
theorem Wr.fst {α : Type} {p : State × α} (h : Wr1 R x p) : Wr R x p.1 := h
theorem Wr.snd {α : Type} {p : α × State} (h : Wr2 R x p) : Wr R x p.2 := h
theorem Wr.eq1 {α : Type} {t : State} {v : α} {p : State × α} (e : p = (t, v)) (h : Wr1 R x p) : Wr R x t := by
  subst e; exact h
theorem Wr.eq2 {α : Type} {t : State} {v : α} {p : α × State} (e : p = (v, t)) (h : Wr2 R x p) : Wr R x t := by
  subst e; exact h

theorem Wr.fold {β : Type} {s : State} {g : State → β → State} {l : List β}
    (h : ∀ t b, Wr R x t → Wr R x (g t b)) (hs : Wr R x s) : Wr R x (l.foldl g s) := by
  induction l generalizing s with
  | nil => exact hs
  | cons b l ih => exact ih (h _ _ hs)
theorem Wr1.fold {α β : Type} {s : State × α} {g : State × α → β → State × α} {l : List β}
    (h : ∀ t b, Wr1 R x t → Wr1 R x (g t b)) (hs : Wr1 R x s) : Wr1 R x (l.foldl g s) := by
  induction l generalizing s with
  | nil => exact hs
  | cons b l ih => exact ih (h _ _ hs)
theorem Wr2.fold {α β : Type} {s : α × State} {g : α × State → β → α × State} {l : List β}
    (h : ∀ t b, Wr2 R x t → Wr2 R x (g t b)) (hs : Wr2 R x s) : Wr2 R x (l.foldl g s) := by
  induction l generalizing s with
  | nil => exact hs
  | cons b l ih => exact ih (h _ _ hs)

/-- An update of anything but the registers. -/
theorem Wr.upd {s : State} {pending : List Instr} {free : Nat} {grid : Grid} {time : TimeBase} {pins : Pins} {icu : Icu} {evt
    : EvtLog} {nw : Nightwatch} {mem : List Host.Cell} {cap : Capture} {life : Life} {pwr : Power} {obs : Obs} {rule :
    RuleEng} {cfg : Cfg} {ctx : Tab CtxCopy} {chans : Tab Chan} {banks : Tab Bank} {boost : Boost} {res : Resolver} {dim :
    Dim} {mtx : Matrix} {spi : Spi} {loops : Loops} {adc : Adc} {sto : Sto} {link : Link} {ring : Ring} {ptp : Ptp} {mbx :
    Mbx} {sec : Sec} {bist : Bist} {fspi : Fspi} {bus : List Byte} (h : Wr R x s) : Wr R x (State.mk pending s.regs free grid time pins icu
    evt nw mem cap life pwr obs rule cfg ctx chans banks boost res dim mtx spi loops adc sto link ring ptp mbx sec bist fspi bus)
    := ⟨fun a ha => h.eq a ha⟩

theorem State.wr_wr {s : State} {a v : Nat} (ha : hits R a = true) (h : Wr R x s) : Wr R x (s.wr a v) := ⟨fun b hb => by
  rw [State.rd_wr_other s v (fun e => by subst e; rw [ha] at hb; cases hb)]
  exact h.eq b hb⟩
theorem State.put_wr {s : State} {f : Fld} {v : Nat} (ha : hits R f.addr = true) (h : Wr R x s) : Wr R x (s.put f v) :=
    State.wr_wr ha h
theorem State.putFlag_wr {s : State} {f : Fld} {v : Bool} (ha : hits R f.addr = true) (h : Wr R x s) : Wr R x (s.putFlag f v)
    :=
  State.wr_wr ha h
theorem State.bump_wr {s : State} {a : Nat} (ha : hits R a = true) (h : Wr R x s) : Wr R x (s.bump a) := State.wr_wr ha h
theorem State.bumpSat_wr {s : State} {f : Fld} (ha : hits R f.addr = true) (h : Wr R x s) : Wr R x (s.bumpSat f) :=
  Wr.ite (State.put_wr ha h) h
theorem State.memPut_wr {s : State} {a : Nat} {b : Byte} (h : Wr R x s) : Wr R x (s.memPut a b) := Wr.upd h
theorem State.memWrite_wr {s : State} {a : Nat} {bs : List Byte} (h : Wr R x s) : Wr R x (s.memWrite a bs) := by
  induction bs generalizing s a with
  | nil => exact h
  | cons b bs ih => exact ih (State.memPut_wr h)

theorem hit_aRING_PSTAT {p : Nat} (hm : (0x7000, 4) ∈ R) : hits R (aRING_PSTAT p) = true := by
  refine hit_prog hm (by decide) ?_ ?_ <;> unfold aRING_PSTAT <;> omega
theorem hit_aSTO_DISC {w : Nat} (hm : (0x6018, 4) ∈ R) : hits R (aSTO_DISC w) = true := by
  refine hit_prog hm (by decide) ?_ ?_ <;> unfold aSTO_DISC <;> omega
theorem hit_aDIM_BIN {i : Nat} (hm : (0x1300C, 4) ∈ R) : hits R (aDIM_BIN i) = true := by
  refine hit_prog hm (by decide) ?_ ?_ <;> unfold aDIM_BIN <;> omega
theorem hit_aCHCFG_STRING {c : Nat} (hm : (0x11004, 32) ∈ R) : hits R (aCHCFG_STRING c) = true := by
  refine hit_prog hm (by decide) ?_ ?_ <;> unfold aCHCFG_STRING <;> omega
theorem hit_aBOOST_CFG {i : Nat} (hm : (0x12040, 4) ∈ R) : hits R (aBOOST_CFG i) = true := by
  refine hit_prog hm (by decide) ?_ ?_ <;> unfold aBOOST_CFG <;> omega
theorem hit_aMTX_LED {w : Nat} (hm : (0x1800, 4) ∈ R) : hits R (aMTX_LED w) = true := by
  refine hit_prog hm (by decide) ?_ ?_ <;> unfold aMTX_LED <;> omega
theorem hit_aCHS_SUP {c : Nat} (hm : (0x200C, 16) ∈ R) : hits R (aCHS_SUP c) = true := by
  refine hit_prog hm (by decide) ?_ ?_ <;> unfold aCHS_SUP <;> omega
theorem hit_aCHCFG_CEIL {c : Nat} (hm : (0x11000, 32) ∈ R) : hits R (aCHCFG_CEIL c) = true := by
  refine hit_prog hm (by decide) ?_ ?_ <;> unfold aCHCFG_CEIL <;> omega
theorem hit_aCHS_DRV {c : Nat} (hm : (0x2000, 16) ∈ R) : hits R (aCHS_DRV c) = true := by
  refine hit_prog hm (by decide) ?_ ?_ <;> unfold aCHS_DRV <;> omega
theorem hit_aBANK_CFG {n : Nat} (hm : (0x12000, 4) ∈ R) : hits R (aBANK_CFG n) = true := by
  refine hit_prog hm (by decide) ?_ ?_ <;> unfold aBANK_CFG <;> omega
theorem hit_aCHS_NEED {c : Nat} (hm : (0x2004, 16) ∈ R) : hits R (aCHS_NEED c) = true := by
  refine hit_prog hm (by decide) ?_ ?_ <;> unfold aCHS_NEED <;> omega
theorem hit_aDEV_BIST_HEALTH {i : Nat} (hm : (0x284, 4) ∈ R) : hits R (aDEV_BIST_HEALTH i) = true := by
  refine hit_prog hm (by decide) ?_ ?_ <;> unfold aDEV_BIST_HEALTH <;> (split <;> omega)
theorem hit_aCHS_DIM {c : Nat} (hm : (0x2008, 16) ∈ R) : hits R (aCHS_DIM c) = true := by
  refine hit_prog hm (by decide) ?_ ?_ <;> unfold aCHS_DIM <;> omega
theorem hit_aCHCFG_DIM {c : Nat} (hm : (0x11008, 32) ∈ R) : hits R (aCHCFG_DIM c) = true := by
  refine hit_prog hm (by decide) ?_ ?_ <;> unfold aCHCFG_DIM <;> omega
theorem hit_aDEV_DLM_CNT {n : Nat} (hm : (0x140, 4) ∈ R) : hits R (aDEV_DLM_CNT n) = true := by
  refine hit_prog hm (by decide) ?_ ?_ <;> unfold aDEV_DLM_CNT <;> omega
theorem hit_aDEV_BOOST_OVC (h : (0x210, 0) ∈ R) : hits R aDEV_BOOST_OVC = true := hit_one h
theorem hit_aDEV_BANK_RETRY (h : (0x214, 0) ∈ R) : hits R aDEV_BANK_RETRY = true := hit_one h
theorem hit_aDEV_XCHK_CNT (h : (0x234, 0) ∈ R) : hits R aDEV_XCHK_CNT = true := hit_one h
theorem hit_aDEV_ADC_STAT (h : (0x240, 0) ∈ R) : hits R aDEV_ADC_STAT = true := hit_one h
theorem hit_aDEV_UID_LO (h : (0x254, 0) ∈ R) : hits R aDEV_UID_LO = true := hit_one h
theorem hit_aDEV_UID_HI (h : (0x258, 0) ∈ R) : hits R aDEV_UID_HI = true := hit_one h
theorem hit_aDEV_CFG_GEN (h : (0x264, 0) ∈ R) : hits R aDEV_CFG_GEN = true := hit_one h
theorem hit_aASP_STAT {n : Nat} (hm : (0x1000, 8) ∈ R) : hits R (aASP_STAT n) = true := by
  refine hit_prog hm (by decide) ?_ ?_ <;> unfold aASP_STAT <;> omega
theorem hit_aASP_FLT {n : Nat} (hm : (0x1004, 8) ∈ R) : hits R (aASP_FLT n) = true := by
  refine hit_prog hm (by decide) ?_ ?_ <;> unfold aASP_FLT <;> omega
theorem hit_aASP_REQ {n : Nat} (hm : (0x1400, 4) ∈ R) : hits R (aASP_REQ n) = true := by
  refine hit_prog hm (by decide) ?_ ?_ <;> unfold aASP_REQ <;> omega
theorem hit_aHEAD_STAT {h : Nat} (hm : (0x1600, 4) ∈ R) : hits R (aHEAD_STAT h) = true := by
  refine hit_prog hm (by decide) ?_ ?_ <;> unfold aHEAD_STAT <;> omega
theorem hit_aASP_SUM (h : (0x1700, 0) ∈ R) : hits R aASP_SUM = true := hit_one h
theorem hit_aASP_CONFLICT_CNT (h : (0x1704, 0) ∈ R) : hits R aASP_CONFLICT_CNT = true := hit_one h
theorem hit_aASP_VAR {v : Nat} (hm : (0x1780, 4) ∈ R) : hits R (aASP_VAR v) = true := by
  refine hit_prog hm (by decide) ?_ ?_ <;> unfold aASP_VAR <;> omega
theorem hit_aMTX_DARK {w : Nat} (hm : (0x2800, 4) ∈ R) : hits R (aMTX_DARK w) = true := by
  refine hit_prog hm (by decide) ?_ ?_ <;> unfold aMTX_DARK <;> omega
theorem hit_aMTX_STRAY {w : Nat} (hm : (0x2880, 4) ∈ R) : hits R (aMTX_STRAY w) = true := by
  refine hit_prog hm (by decide) ?_ ?_ <;> unfold aMTX_STRAY <;> omega
theorem hit_aTIME_OFFSET (h : (0x3010, 0) ∈ R) : hits R aTIME_OFFSET = true := hit_one h
theorem hit_aTIME_RATE (h : (0x3014, 0) ∈ R) : hits R aTIME_RATE = true := hit_one h
theorem hit_aTIME_MPD {p : Nat} (hm : (0x3018, 4) ∈ R) : hits R (aTIME_MPD p) = true := by
  refine hit_prog hm (by decide) ?_ ?_ <;> unfold aTIME_MPD <;> omega
theorem hit_aTIME_GM_LO (h : (0x3020, 0) ∈ R) : hits R aTIME_GM_LO = true := hit_one h
theorem hit_aTIME_GM_HI (h : (0x3024, 0) ∈ R) : hits R aTIME_GM_HI = true := hit_one h
theorem hit_aTIME_PPSIN (h : (0x3028, 0) ∈ R) : hits R aTIME_PPSIN = true := hit_one h
theorem hit_aTIME_BOOK {p : Nat} (hm : (0x3030, 4) ∈ R) : hits R (aTIME_BOOK p) = true := by
  refine hit_prog hm (by decide) ?_ ?_ <;> unfold aTIME_BOOK <;> omega
theorem hit_aTIME_CNT {i : Nat} (hm : (0x3040, 4) ∈ R) : hits R (aTIME_CNT i) = true := by
  refine hit_prog hm (by decide) ?_ ?_ <;> unfold aTIME_CNT <;> omega
theorem hit_aMBX_SQN_TAIL (h : (0x4000, 0) ∈ R) : hits R aMBX_SQN_TAIL = true := hit_one h
theorem hit_aMBX_SQN_HEAD (h : (0x4004, 0) ∈ R) : hits R aMBX_SQN_HEAD = true := hit_one h
theorem hit_aMBX_SQU_TAIL (h : (0x4008, 0) ∈ R) : hits R aMBX_SQU_TAIL = true := hit_one h
theorem hit_aMBX_SQU_HEAD (h : (0x400C, 0) ∈ R) : hits R aMBX_SQU_HEAD = true := hit_one h
theorem hit_aMBX_CQ_TAIL (h : (0x4010, 0) ∈ R) : hits R aMBX_CQ_TAIL = true := hit_one h
theorem hit_aMBX_CQ_HEAD (h : (0x4014, 0) ∈ R) : hits R aMBX_CQ_HEAD = true := hit_one h
theorem hit_aMBX_RING_DUP (h : (0x4034, 0) ∈ R) : hits R aMBX_RING_DUP = true := hit_one h
theorem hit_aMBX_RING_OLD (h : (0x4038, 0) ∈ R) : hits R aMBX_RING_OLD = true := hit_one h
theorem hit_aEVT_HEAD (h : (0x5000, 0) ∈ R) : hits R aEVT_HEAD = true := hit_one h
theorem hit_aEVT_OLDEST (h : (0x5004, 0) ∈ R) : hits R aEVT_OLDEST = true := hit_one h
theorem hit_aEVT_RDSEQ (h : (0x5008, 0) ∈ R) : hits R aEVT_RDSEQ = true := hit_one h
theorem hit_aEVT_THRESH (h : (0x500C, 0) ∈ R) : hits R aEVT_THRESH = true := hit_one h
theorem hit_aEVT_LOST (h : (0x5010, 0) ∈ R) : hits R aEVT_LOST = true := hit_one h
theorem hit_aEVT_DROP (h : (0x5014, 0) ∈ R) : hits R aEVT_DROP = true := hit_one h
theorem hit_aSTO_TESTCNT (h : (0x602C, 0) ∈ R) : hits R aSTO_TESTCNT = true := hit_one h
theorem hit_aSTO_DEMCNT (h : (0x6030, 0) ∈ R) : hits R aSTO_DEMCNT = true := hit_one h
theorem hit_aRING_EPOCH (h : (0x700C, 0) ∈ R) : hits R aRING_EPOCH = true := hit_one h
theorem hit_aRING_MAC_LO (h : (0x7010, 0) ∈ R) : hits R aRING_MAC_LO = true := hit_one h
theorem hit_aRING_MAC_HI (h : (0x7014, 0) ∈ R) : hits R aRING_MAC_HI = true := hit_one h
theorem hit_aRING_NBRSEEN_LO {p : Nat} (hm : (0x7018, 8) ∈ R) : hits R (aRING_NBRSEEN_LO p) = true := by
  refine hit_prog hm (by decide) ?_ ?_ <;> unfold aRING_NBRSEEN_LO <;> omega
theorem hit_aRING_NBRSEEN_HI {p : Nat} (hm : (0x701C, 8) ∈ R) : hits R (aRING_NBRSEEN_HI p) = true := by
  refine hit_prog hm (by decide) ?_ ?_ <;> unfold aRING_NBRSEEN_HI <;> omega
theorem hit_aRING_CNT {p k : Nat} (hm : (0x7040, 4) ∈ R) : hits R (aRING_CNT p k) = true := by
  refine hit_prog hm (by decide) ?_ ?_ <;> unfold aRING_CNT <;> omega
theorem hit_aICU_HMOD (h : (0x80E8, 0) ∈ R) : hits R aICU_HMOD = true := hit_one h
theorem hit_aSUP_SIG {c w : Nat} (hm : (0x14000, 4) ∈ R) : hits R (aSUP_SIG c w) = true := by
  refine hit_prog hm (by decide) ?_ ?_ <;> unfold aSUP_SIG <;> omega
theorem hit_aSUP_HEADCFG {h : Nat} (hm : (0x14E00, 4) ∈ R) : hits R (aSUP_HEADCFG h) = true := by
  refine hit_prog hm (by decide) ?_ ?_ <;> unfold aSUP_HEADCFG <;> omega
theorem hit_aOBS_STAT (h : (0x15200, 0) ∈ R) : hits R aOBS_STAT = true := hit_one h
theorem hit_aOBS_STALE_CNT (h : (0x15204, 0) ∈ R) : hits R aOBS_STALE_CNT = true := hit_one h
theorem hit_aOBS_SNP_MATCH (h : (0x15208, 0) ∈ R) : hits R aOBS_SNP_MATCH = true := hit_one h
theorem hit_aOBS_SNP_SHORT (h : (0x1520C, 0) ∈ R) : hits R aOBS_SNP_SHORT = true := hit_one h
theorem hit_aOBS_SNP_OVF (h : (0x15210, 0) ∈ R) : hits R aOBS_SNP_OVF = true := hit_one h
theorem hit_aRULE_STAT (h : (0x16104, 0) ∈ R) : hits R aRULE_STAT = true := hit_one h
theorem hit_aRULE_EVAL (h : (0x16108, 0) ∈ R) : hits R aRULE_EVAL = true := hit_one h
theorem hit_aADC_REFCTL (h : (0x17000, 0) ∈ R) : hits R aADC_REFCTL = true := hit_one h
theorem hit_aADC_OVR_REG {k : Nat} (hm : (0x17040, 4) ∈ R) : hits R (aADC_OVR_REG k) = true := by
  refine hit_prog hm (by decide) ?_ ?_ <;> unfold aADC_OVR_REG <;> omega
theorem hit_aADC_OVR_INJ {k : Nat} (hm : (0x17080, 4) ∈ R) : hits R (aADC_OVR_INJ k) = true := by
  refine hit_prog hm (by decide) ?_ ?_ <;> unfold aADC_OVR_INJ <;> omega
theorem hit_aADC_SEQCFG {k w : Nat} (hm : (0x17100, 4) ∈ R) : hits R (aADC_SEQCFG k w) = true := by
  refine hit_prog hm (by decide) ?_ ?_ <;> unfold aADC_SEQCFG <;> omega
theorem hit_aADC_REGR {k s : Nat} (hm : (0x17600, 4) ∈ R) : hits R (aADC_REGR k s) = true := by
  refine hit_prog hm (by decide) ?_ ?_ <;> unfold aADC_REGR <;> omega
theorem hit_aADC_INJR {k j : Nat} (hm : (0x17E00, 4) ∈ R) : hits R (aADC_INJR k j) = true := by
  refine hit_prog hm (by decide) ?_ ?_ <;> unfold aADC_INJR <;> omega
theorem hit_aADC_INJSLOT {k w : Nat} (hm : (0x17F00, 4) ∈ R) : hits R (aADC_INJSLOT k w) = true := by
  refine hit_prog hm (by decide) ?_ ?_ <;> unfold aADC_INJSLOT <;> omega
theorem hit_aADC_INJTS {k : Nat} (hm : (0x17F80, 4) ∈ R) : hits R (aADC_INJTS k) = true := by
  refine hit_prog hm (by decide) ?_ ?_ <;> unfold aADC_INJTS <;> omega
theorem hit_aLOOP_SWAP (h : (0x18000, 0) ∈ R) : hits R aLOOP_SWAP = true := hit_one h
theorem hit_aLOOP_SAT (h : (0x18004, 0) ∈ R) : hits R aLOOP_SAT = true := hit_one h
theorem hit_aLOOP_HOLD (h : (0x18008, 0) ∈ R) : hits R aLOOP_HOLD = true := hit_one h
theorem hit_aLOOP_EPOCH {w : Nat} (hm : (0x18010, 4) ∈ R) : hits R (aLOOP_EPOCH w) = true := by
  refine hit_prog hm (by decide) ?_ ?_ <;> unfold aLOOP_EPOCH <;> omega
theorem hit_aLOOP_ACT {n w : Nat} (hm : (0x18100, 4) ∈ R) : hits R (aLOOP_ACT n w) = true := by
  refine hit_prog hm (by decide) ?_ ?_ <;> unfold aLOOP_ACT <;> omega
theorem hit_aLOOP_SHD {n w : Nat} (hm : (0x18500, 4) ∈ R) : hits R (aLOOP_SHD n w) = true := by
  refine hit_prog hm (by decide) ?_ ?_ <;> unfold aLOOP_SHD <;> omega
theorem hit_aLOOP_ST {n w : Nat} (hm : (0x18900, 4) ∈ R) : hits R (aLOOP_ST n w) = true := by
  refine hit_prog hm (by decide) ?_ ?_ <;> unfold aLOOP_ST <;> omega
theorem hit_aRING_EVTDST {w : Nat} (hm : (0x19020, 4) ∈ R) : hits R (aRING_EVTDST w) = true := by
  refine hit_prog hm (by decide) ?_ ?_ <;> unfold aRING_EVTDST <;> omega
theorem hit_aTIME_PPSCHK (h : (0x1A008, 0) ∈ R) : hits R aTIME_PPSCHK = true := hit_one h
theorem hit_aTIME_PORT {p w : Nat} (hm : (0x1A010, 4) ∈ R) : hits R (aTIME_PORT p w) = true := by
  refine hit_prog hm (by decide) ?_ ?_ <;> unfold aTIME_PORT <;> omega
theorem hit_aTIME_TZ (h : (0x1A020, 0) ∈ R) : hits R aTIME_TZ = true := hit_one h
theorem hit_aTIME_LOFF {w i : Nat} (hm : (0x1A040, 4) ∈ R) : hits R (aTIME_LOFF w i) = true := by
  refine hit_prog hm (by decide) ?_ ?_ <;> unfold aTIME_LOFF <;> omega
theorem hit_aICU_NWSTAT (h : (0x1B070, 0) ∈ R) : hits R aICU_NWSTAT = true := hit_one h
theorem hit_aCAP_TRIGTICK (h : (0x1E010, 0) ∈ R) : hits R aCAP_TRIGTICK = true := hit_one h
theorem hit_fBIST_RUNNING (h : (0x280, 0) ∈ R) : hits R State.fBIST_RUNNING.addr = true := hit_one h
theorem hit_fBIST_FORCED (h : (0x280, 0) ∈ R) : hits R State.fBIST_FORCED.addr = true := hit_one h
theorem hit_fBIST_CUR (h : (0x280, 0) ∈ R) : hits R State.fBIST_CUR.addr = true := hit_one h
theorem hit_fBIST_NFAIL (h : (0x280, 0) ∈ R) : hits R State.fBIST_NFAIL.addr = true := hit_one h
theorem hit_fBIST_NINC (h : (0x280, 0) ∈ R) : hits R State.fBIST_NINC.addr = true := hit_one h
theorem hit_fBIST_LAST {b : Nat} (hm : (0x284, 4) ∈ R) : hits R (State.fBIST_LAST b).addr = true := hit_aDEV_BIST_HEALTH hm
theorem hit_fOPULSE {o : Nat} (h : (0x6000, 0) ∈ R) : hits R (State.fOPULSE o).addr = true := hit_one h
theorem hit_fOSTATE {o : Nat} (h : (0x6000, 0) ∈ R) : hits R (State.fOSTATE o).addr = true := hit_one h
theorem hit_fPSTATE {p : Nat} (h : (0x6004, 0) ∈ R) : hits R (State.fPSTATE p).addr = true := hit_one h
theorem hit_fCLOSED {c : Nat} (h : (0x6004, 0) ∈ R) : hits R (State.fCLOSED c).addr = true := hit_one h
theorem hit_fOCLASS {o : Nat} (h : (0x6008, 0) ∈ R) : hits R (State.fOCLASS o).addr = true := hit_one h
theorem hit_fPCLASS {p : Nat} (h : (0x600C, 0) ∈ R) : hits R (State.fPCLASS p).addr = true := hit_one h
theorem hit_fSEAL_LATCHED (h : (0x6010, 0) ∈ R) : hits R State.fSEAL_LATCHED.addr = true := hit_one h
theorem hit_fSEAL_LAST (h : (0x6010, 0) ∈ R) : hits R State.fSEAL_LAST.addr = true := hit_one h
theorem hit_fSTO_VALID (h : (0x6014, 0) ∈ R) : hits R State.fSTO_VALID.addr = true := hit_one h
theorem hit_fSTO_CHANGED (h : (0x6014, 0) ∈ R) : hits R State.fSTO_CHANGED.addr = true := hit_one h
theorem hit_fSTO_N (h : (0x6014, 0) ∈ R) : hits R State.fSTO_N.addr = true := hit_one h
theorem hit_fSRST_STUCK (h : (0x6014, 0) ∈ R) : hits R State.fSRST_STUCK.addr = true := hit_one h
theorem hit_fSRST_LEVEL (h : (0x6014, 0) ∈ R) : hits R State.fSRST_LEVEL.addr = true := hit_one h
theorem hit_fSTO_RESTART (h : (0x6014, 0) ∈ R) : hits R State.fSTO_RESTART.addr = true := hit_one h
theorem hit_fSTO_DISC (h : (0x6014, 0) ∈ R) : hits R State.fSTO_DISC.addr = true := hit_one h
theorem hit_fSTO_MAP (h : (0x6014, 0) ∈ R) : hits R State.fSTO_MAP.addr = true := hit_one h
theorem hit_fDISCNT {p : Nat} (hm : (0x6018, 4) ∈ R) : hits R (State.fDISCNT p).addr = true := hit_aSTO_DISC hm
theorem hit_fTP_FAULT {n : Nat} (h : (0x6028, 0) ∈ R) : hits R (State.fTP_FAULT n).addr = true := hit_one h
theorem hit_fTP_LEVEL {n : Nat} (h : (0x6028, 0) ∈ R) : hits R (State.fTP_LEVEL n).addr = true := hit_one h
theorem hit_fDISC_T (h : (0x1D000, 0) ∈ R) : hits R State.fDISC_T.addr = true := hit_one h
theorem hit_fSTO_PW (h : (0x1D000, 0) ∈ R) : hits R State.fSTO_PW.addr = true := hit_one h
theorem hit_fGRID_SRC (h : (0x100, 0) ∈ R) : hits R fGRID_SRC.addr = true := hit_one h
theorem hit_fGRID_XTAL_OK (h : (0x100, 0) ∈ R) : hits R fGRID_XTAL_OK.addr = true := hit_one h
theorem hit_fGRID_VCORE_LOW (h : (0x100, 0) ∈ R) : hits R fGRID_VCORE_LOW.addr = true := hit_one h
theorem hit_fGRID_DLM_HOLD (h : (0x100, 0) ∈ R) : hits R fGRID_DLM_HOLD.addr = true := hit_one h
theorem hit_fGRID_RULE_STALL (h : (0x100, 0) ∈ R) : hits R fGRID_RULE_STALL.addr = true := hit_one h
theorem hit_fDLM_RUN {n : Nat} (h : (0x160, 0) ∈ R) : hits R (fDLM_RUN n).addr = true := hit_one h
theorem hit_fPWR_STATE (h : (0x270, 0) ∈ R) : hits R fPWR_STATE.addr = true := hit_one h
theorem hit_fPWR_PHASE (h : (0x270, 0) ∈ R) : hits R fPWR_PHASE.addr = true := hit_one h
theorem hit_fPWR_HOLD (h : (0x270, 0) ∈ R) : hits R fPWR_HOLD.addr = true := hit_one h
theorem hit_fPWR_DAWN_LATE (h : (0x270, 0) ∈ R) : hits R fPWR_DAWN_LATE.addr = true := hit_one h
theorem hit_fPWR_RESET_SEEN (h : (0x270, 0) ∈ R) : hits R fPWR_RESET_SEEN.addr = true := hit_one h
theorem hit_fPWR_TABLE_VALID (h : (0x270, 0) ∈ R) : hits R fPWR_TABLE_VALID.addr = true := hit_one h
theorem hit_fPWR_DUSK_PEND (h : (0x270, 0) ∈ R) : hits R fPWR_DUSK_PEND.addr = true := hit_one h
theorem hit_fPWR_ABORTED (h : (0x270, 0) ∈ R) : hits R fPWR_ABORTED.addr = true := hit_one h
theorem hit_fPWR_WAKE (h : (0x270, 0) ∈ R) : hits R fPWR_WAKE.addr = true := hit_one h
theorem hit_fPWR_DAWN_MS (h : (0x270, 0) ∈ R) : hits R fPWR_DAWN_MS.addr = true := hit_one h
theorem hit_fMORN_BANKFAIL (h : (0x274, 0) ∈ R) : hits R fMORN_BANKFAIL.addr = true := hit_one h
theorem hit_fMORN_NOPEN (h : (0x274, 0) ∈ R) : hits R fMORN_NOPEN.addr = true := hit_one h
theorem hit_fMORN_RESULT (h : (0x274, 0) ∈ R) : hits R fMORN_RESULT.addr = true := hit_one h
theorem hit_fMORN_DEFERRED (h : (0x274, 0) ∈ R) : hits R fMORN_DEFERRED.addr = true := hit_one h
theorem hit_fMORN_RUNNING (h : (0x274, 0) ∈ R) : hits R fMORN_RUNNING.addr = true := hit_one h
theorem hit_fSYSMORN_EN (h : (0x10004, 0) ∈ R) : hits R fSYSMORN_EN.addr = true := hit_one h
theorem hit_fSYSMORN_BANKTEST (h : (0x10004, 0) ∈ R) : hits R fSYSMORN_BANKTEST.addr = true := hit_one h
theorem hit_fFLT_ANY (h : (0x2A0, 0) ∈ R) : hits R fFLT_ANY.addr = true := hit_one h
theorem hit_fFLT_GROUP {n : Nat} (h : (0x2A0, 0) ∈ R) : hits R (fFLT_GROUP n).addr = true := hit_one h
theorem hit_fFLT_GROUPS (h : (0x2A0, 0) ∈ R) : hits R fFLT_GROUPS.addr = true := hit_one h
theorem hit_fFLTF_CLASS (h : (0x2A4, 0) ∈ R) : hits R fFLTF_CLASS.addr = true := hit_one h
theorem hit_fFLTF_BIT (h : (0x2A4, 0) ∈ R) : hits R fFLTF_BIT.addr = true := hit_one h
theorem hit_fNW_MN_CAUSE (h : (0x2A8, 0) ∈ R) : hits R fNW_MN_CAUSE.addr = true := hit_one h
theorem hit_fNW_SC0_RST (h : (0x2A8, 0) ∈ R) : hits R fNW_SC0_RST.addr = true := hit_one h
theorem hit_fNW_SC1_HELD (h : (0x2A8, 0) ∈ R) : hits R fNW_SC1_HELD.addr = true := hit_one h
theorem hit_fNW_SC1_LOST (h : (0x2A8, 0) ∈ R) : hits R fNW_SC1_LOST.addr = true := hit_one h
theorem hit_fNW_SC0_LOST (h : (0x2A8, 0) ∈ R) : hits R fNW_SC0_LOST.addr = true := hit_one h
theorem hit_fNW_FROZEN (h : (0x2A8, 0) ∈ R) : hits R fNW_FROZEN.addr = true := hit_one h
theorem hit_fNW_SFC_OK (h : (0x2A8, 0) ∈ R) : hits R fNW_SFC_OK.addr = true := hit_one h
theorem hit_fNW_NWBUF (h : (0x2A8, 0) ∈ R) : hits R fNW_NWBUF.addr = true := hit_one h
theorem hit_fCFG_OUTCOME (h : (0x260, 0) ∈ R) : hits R fCFG_OUTCOME.addr = true := hit_one h
theorem hit_fCFG_STAGING (h : (0x260, 0) ∈ R) : hits R fCFG_STAGING.addr = true := hit_one h
theorem hit_fCFG_STAGED_W (h : (0x260, 0) ∈ R) : hits R fCFG_STAGED_W.addr = true := hit_one h
theorem hit_fCFG_MARK_REDONE (h : (0x260, 0) ∈ R) : hits R fCFG_MARK_REDONE.addr = true := hit_one h
theorem hit_fLIFE_NSAT (h : (0x290, 0) ∈ R) : hits R fLIFE_NSAT.addr = true := hit_one h
theorem hit_fLIFE_SNAPS (h : (0x290, 0) ∈ R) : hits R fLIFE_SNAPS.addr = true := hit_one h
theorem hit_fLIFE_RESTORE (h : (0x290, 0) ∈ R) : hits R fLIFE_RESTORE.addr = true := hit_one h
theorem hit_fLIFE_PERSIST (h : (0x290, 0) ∈ R) : hits R fLIFE_PERSIST.addr = true := hit_one h
theorem hit_fLIFE_AGE (h : (0x290, 0) ∈ R) : hits R fLIFE_AGE.addr = true := hit_one h
theorem hit_fCAP_PRE (h : (0x294, 0) ∈ R) : hits R fCAP_PRE.addr = true := hit_one h
theorem hit_fCAP_MN_FREEZE (h : (0x294, 0) ∈ R) : hits R fCAP_MN_FREEZE.addr = true := hit_one h
theorem hit_fCAP_AUTO (h : (0x294, 0) ∈ R) : hits R fCAP_AUTO.addr = true := hit_one h
theorem hit_fCAP_STATE (h : (0x294, 0) ∈ R) : hits R fCAP_STATE.addr = true := hit_one h
theorem hit_fCAPCFG_APOST (h : (0x1E004, 0) ∈ R) : hits R fCAPCFG_APOST.addr = true := hit_one h
theorem hit_fCAPCFG_AUTO_EN (h : (0x1E004, 0) ∈ R) : hits R fCAPCFG_AUTO_EN.addr = true := hit_one h
theorem hit_fCAPCFG_ACLASS (h : (0x1E004, 0) ∈ R) : hits R fCAPCFG_ACLASS.addr = true := hit_one h
theorem hit_fNWSTAT_WOKE (h : (0x1B070, 0) ∈ R) : hits R fNWSTAT_WOKE.addr = true := hit_one h
theorem hit_fNWSTAT_SRC (h : (0x1B070, 0) ∈ R) : hits R fNWSTAT_SRC.addr = true := hit_one h
theorem hit_fRP_RXPWR {p : Nat} (hm : (0x7000, 4) ∈ R) : hits R (fRP_RXPWR p).addr = true := hit_aRING_PSTAT hm
theorem hit_fRP_CROSSED {p : Nat} (hm : (0x7000, 4) ∈ R) : hits R (fRP_CROSSED p).addr = true := hit_aRING_PSTAT hm
theorem hit_fRP_NBR_MISMATCH {p : Nat} (hm : (0x7000, 4) ∈ R) : hits R (fRP_NBR_MISMATCH p).addr = true := hit_aRING_PSTAT
    hm
theorem hit_fRP_MODULE_BAD {p : Nat} (hm : (0x7000, 4) ∈ R) : hits R (fRP_MODULE_BAD p).addr = true := hit_aRING_PSTAT hm
theorem hit_fRP_MODULE_PRESENT {p : Nat} (hm : (0x7000, 4) ∈ R) : hits R (fRP_MODULE_PRESENT p).addr = true :=
    hit_aRING_PSTAT hm
theorem hit_fRP_BLOCKED {p : Nat} (hm : (0x7000, 4) ∈ R) : hits R (fRP_BLOCKED p).addr = true := hit_aRING_PSTAT hm
theorem hit_fRP_SF {p : Nat} (hm : (0x7000, 4) ∈ R) : hits R (fRP_SF p).addr = true := hit_aRING_PSTAT hm
theorem hit_fRP_LINK {p : Nat} (hm : (0x7000, 4) ∈ R) : hits R (fRP_LINK p).addr = true := hit_aRING_PSTAT hm
theorem hit_fRP_RATE {p : Nat} (hm : (0x7000, 4) ∈ R) : hits R (fRP_RATE p).addr = true := hit_aRING_PSTAT hm
theorem hit_fRING_SWAPPED (h : (0x7008, 0) ∈ R) : hits R fRING_SWAPPED.addr = true := hit_one h
theorem hit_fRING_ERPS (h : (0x7008, 0) ∈ R) : hits R fRING_ERPS.addr = true := hit_one h
theorem hit_fRING_LMAXW (h : (0x19000, 0) ∈ R) : hits R fRING_LMAXW.addr = true := hit_one h
theorem hit_fRING_XAUTO (h : (0x19000, 0) ∈ R) : hits R fRING_XAUTO.addr = true := hit_one h
theorem hit_fRING_EVT_EN (h : (0x19000, 0) ∈ R) : hits R fRING_EVT_EN.addr = true := hit_one h
theorem hit_fRING_RATEP {p : Nat} (h : (0x19000, 0) ∈ R) : hits R (fRING_RATEP p).addr = true := hit_one h
theorem hit_fERPS_HOLDOFF (h : (0x19004, 0) ∈ R) : hits R fERPS_HOLDOFF.addr = true := hit_one h
theorem hit_fTIME_REARMED (h : (0x300C, 0) ∈ R) : hits R fTIME_REARMED.addr = true := hit_one h
theorem hit_fTIME_MPORT (h : (0x300C, 0) ∈ R) : hits R fTIME_MPORT.addr = true := hit_one h
theorem hit_fTIME_MASTER (h : (0x300C, 0) ∈ R) : hits R fTIME_MASTER.addr = true := hit_one h
theorem hit_fTIME_INLOCK (h : (0x300C, 0) ∈ R) : hits R fTIME_INLOCK.addr = true := hit_one h
theorem hit_fTIME_CAUSE (h : (0x300C, 0) ∈ R) : hits R fTIME_CAUSE.addr = true := hit_one h
theorem hit_fTIME_SET (h : (0x300C, 0) ∈ R) : hits R fTIME_SET.addr = true := hit_one h
theorem hit_fTIME_STATE (h : (0x300C, 0) ∈ R) : hits R fTIME_STATE.addr = true := hit_one h
theorem hit_fPPS_LAG (h : (0x302C, 0) ∈ R) : hits R fPPS_LAG.addr = true := hit_one h
theorem hit_fTCFG_DOMAIN (h : (0x1A000, 0) ∈ R) : hits R fTCFG_DOMAIN.addr = true := hit_one h
theorem hit_fTCFG_ONESTEP (h : (0x1A000, 0) ∈ R) : hits R fTCFG_ONESTEP.addr = true := hit_one h
theorem hit_fTCFG_PPSIN_POL (h : (0x1A000, 0) ∈ R) : hits R fTCFG_PPSIN_POL.addr = true := hit_one h
theorem hit_fASYMMAX (h : (0x1A004, 0) ∈ R) : hits R fASYMMAX.addr = true := hit_one h
theorem hit_fTPORT_RXLAT {p : Nat} (hm : (0x1A010, 4) ∈ R) : hits R (fTPORT_RXLAT p).addr = true := hit_aTIME_PORT hm
theorem hit_fTZ_UTCOFF (h : (0x1A020, 0) ∈ R) : hits R fTZ_UTCOFF.addr = true := hit_one h
theorem hit_fASP_FORCED {n : Nat} (hm : (0x1000, 8) ∈ R) : hits R (fASP_FORCED n).addr = true := hit_aASP_STAT hm
theorem hit_fASP_PROVING {n : Nat} (hm : (0x1000, 8) ∈ R) : hits R (fASP_PROVING n).addr = true := hit_aASP_STAT hm
theorem hit_fASP_DEMAND {n : Nat} (hm : (0x1000, 8) ∈ R) : hits R (fASP_DEMAND n).addr = true := hit_aASP_STAT hm
theorem hit_fASP_STATE {n : Nat} (hm : (0x1000, 8) ∈ R) : hits R (fASP_STATE n).addr = true := hit_aASP_STAT hm
theorem hit_fHEAD_READY_OK {h : Nat} (hm : (0x1600, 4) ∈ R) : hits R (fHEAD_READY_OK h).addr = true := hit_aHEAD_STAT hm
theorem hit_fHCFG_ASP {h : Nat} (hm : (0x14E00, 4) ∈ R) : hits R (fHCFG_ASP h).addr = true := hit_aSUP_HEADCFG hm
theorem hit_fBST_TGT (h : (0x200, 0) ∈ R) : hits R fBST_TGT.addr = true := hit_one h
theorem hit_fBST_MEAS (h : (0x200, 0) ∈ R) : hits R fBST_MEAS.addr = true := hit_one h
theorem hit_fBST_MODE (h : (0x200, 0) ∈ R) : hits R fBST_MODE.addr = true := hit_one h
theorem hit_fBST_OV_CLAMP (h : (0x200, 0) ∈ R) : hits R fBST_OV_CLAMP.addr = true := hit_one h
theorem hit_fBST_PEAK_LIM (h : (0x200, 0) ∈ R) : hits R fBST_PEAK_LIM.addr = true := hit_one h
theorem hit_fBST_HEADROOM (h : (0x200, 0) ∈ R) : hits R fBST_HEADROOM.addr = true := hit_one h
theorem hit_fBST_BUDGET (h : (0x200, 0) ∈ R) : hits R fBST_BUDGET.addr = true := hit_one h
theorem hit_fBST_GOV (h : (0x200, 0) ∈ R) : hits R fBST_GOV.addr = true := hit_one h
theorem hit_fBANK_STUCK {n : Nat} (h : (0x204, 0) ∈ R) : hits R (fBANK_STUCK n).addr = true := hit_one h
theorem hit_fBANK_OC {n : Nat} (h : (0x204, 0) ∈ R) : hits R (fBANK_OC n).addr = true := hit_one h
theorem hit_fBANK_STRAY {n : Nat} (h : (0x204, 0) ∈ R) : hits R (fBANK_STRAY n).addr = true := hit_one h
theorem hit_fBANK_CLOSED {n : Nat} (h : (0x204, 0) ∈ R) : hits R (fBANK_CLOSED n).addr = true := hit_one h
theorem hit_fPWR_PSINK (h : (0x208, 0) ∈ R) : hits R fPWR_PSINK.addr = true := hit_one h
theorem hit_fPWR_TJ (h : (0x208, 0) ∈ R) : hits R fPWR_TJ.addr = true := hit_one h
theorem hit_fPWR_TSD (h : (0x208, 0) ∈ R) : hits R fPWR_TSD.addr = true := hit_one h
theorem hit_fDRV_F {c : Nat} (hm : (0x2000, 16) ∈ R) : hits R (fDRV_F c).addr = true := hit_aCHS_DRV hm
theorem hit_fDRV_LIMIT {c : Nat} (hm : (0x2000, 16) ∈ R) : hits R (fDRV_LIMIT c).addr = true := hit_aCHS_DRV hm
theorem hit_fDRV_STARVED {c : Nat} (hm : (0x2000, 16) ∈ R) : hits R (fDRV_STARVED c).addr = true := hit_aCHS_DRV hm
theorem hit_fDRV_HEADROOM {c : Nat} (hm : (0x2000, 16) ∈ R) : hits R (fDRV_HEADROOM c).addr = true := hit_aCHS_DRV hm
theorem hit_fDRV_SCALE {c : Nat} (hm : (0x2000, 16) ∈ R) : hits R (fDRV_SCALE c).addr = true := hit_aCHS_DRV hm
theorem hit_fNEED_VCH {c : Nat} (hm : (0x2004, 16) ∈ R) : hits R (fNEED_VCH c).addr = true := hit_aCHS_NEED hm
theorem hit_fNEED {c : Nat} (hm : (0x2004, 16) ∈ R) : hits R (fNEED c).addr = true := hit_aCHS_NEED hm
theorem hit_fCEIL {c : Nat} (hm : (0x11000, 32) ∈ R) : hits R (fCEIL c).addr = true := hit_aCHCFG_CEIL hm
theorem hit_fNLED {c : Nat} (hm : (0x11004, 32) ∈ R) : hits R (fNLED c).addr = true := hit_aCHCFG_STRING hm
theorem hit_fBANK_ROLE {n : Nat} (hm : (0x12000, 4) ∈ R) : hits R (fBANK_ROLE n).addr = true := hit_aBANK_CFG hm
theorem hit_fBANK_MODE {n : Nat} (hm : (0x12000, 4) ∈ R) : hits R (fBANK_MODE n).addr = true := hit_aBANK_CFG hm
theorem hit_fVMAX (hm : (0x12040, 4) ∈ R) : hits R fVMAX.addr = true := hit_aBOOST_CFG hm
theorem hit_fMARGIN (hm : (0x12040, 4) ∈ R) : hits R fMARGIN.addr = true := hit_aBOOST_CFG hm
theorem hit_fILIM (hm : (0x12040, 4) ∈ R) : hits R fILIM.addr = true := hit_aBOOST_CFG hm
theorem hit_fGOV_PMAX (hm : (0x12040, 4) ∈ R) : hits R fGOV_PMAX.addr = true := hit_aBOOST_CFG hm
theorem hit_fDIM_AMBIENT (h : (0x220, 0) ∈ R) : hits R fDIM_AMBIENT.addr = true := hit_one h
theorem hit_fDIM_NTC_TEMP (h : (0x220, 0) ∈ R) : hits R fDIM_NTC_TEMP.addr = true := hit_one h
theorem hit_fDIM_NTC_FAULT (h : (0x220, 0) ∈ R) : hits R fDIM_NTC_FAULT.addr = true := hit_one h
theorem hit_fDIM_BIN_RANGE (h : (0x220, 0) ∈ R) : hits R fDIM_BIN_RANGE.addr = true := hit_one h
theorem hit_fDIM_BIN_LOST (h : (0x220, 0) ∈ R) : hits R fDIM_BIN_LOST.addr = true := hit_one h
theorem hit_fDIM_NIGHT (h : (0x220, 0) ∈ R) : hits R fDIM_NIGHT.addr = true := hit_one h
theorem hit_fDIM_XFADE (h : (0x220, 0) ∈ R) : hits R fDIM_XFADE.addr = true := hit_one h
theorem hit_fCDIM_CODE {c : Nat} (hm : (0x2008, 16) ∈ R) : hits R (fCDIM_CODE c).addr = true := hit_aCHS_DIM hm
theorem hit_fCDIM_MODE {c : Nat} (hm : (0x2008, 16) ∈ R) : hits R (fCDIM_MODE c).addr = true := hit_aCHS_DIM hm
theorem hit_fCDIM_MINCLIP {c : Nat} (hm : (0x2008, 16) ∈ R) : hits R (fCDIM_MINCLIP c).addr = true := hit_aCHS_DIM hm
theorem hit_fCDIM_PAT_ACT {c : Nat} (hm : (0x2008, 16) ∈ R) : hits R (fCDIM_PAT_ACT c).addr = true := hit_aCHS_DIM hm
theorem hit_fCDIM_REFUSED {c : Nat} (hm : (0x2008, 16) ∈ R) : hits R (fCDIM_REFUSED c).addr = true := hit_aCHS_DIM hm
theorem hit_fCDIM_ON16 {c : Nat} (hm : (0x2008, 16) ∈ R) : hits R (fCDIM_ON16 c).addr = true := hit_aCHS_DIM hm
theorem hit_fMATCH {c : Nat} (hm : (0x11008, 32) ∈ R) : hits R (fMATCH c).addr = true := hit_aCHCFG_DIM hm
theorem hit_fDIM_SRC (h : (0x13000, 0) ∈ R) : hits R fDIM_SRC.addr = true := hit_one h
theorem hit_fNOON (h : (0x13004, 0) ∈ R) : hits R fNOON.addr = true := hit_one h
theorem hit_fOBS_HI (h : (0x13008, 0) ∈ R) : hits R fOBS_HI.addr = true := hit_one h
theorem hit_fOBS_LO (h : (0x13008, 0) ∈ R) : hits R fOBS_LO.addr = true := hit_one h
theorem hit_fBIN_INPUT (hm : (0x1300C, 4) ∈ R) : hits R fBIN_INPUT.addr = true := hit_aDIM_BIN hm
theorem hit_fSUP_TEMP {c : Nat} (hm : (0x200C, 16) ∈ R) : hits R (fSUP_TEMP c).addr = true := hit_aCHS_SUP hm
theorem hit_fSUP_TEMP_VALID {c : Nat} (hm : (0x200C, 16) ∈ R) : hits R (fSUP_TEMP_VALID c).addr = true := hit_aCHS_SUP hm
theorem hit_fSUP_SIG_LEARNT {c : Nat} (hm : (0x200C, 16) ∈ R) : hits R (fSUP_SIG_LEARNT c).addr = true := hit_aCHS_SUP hm
theorem hit_fSUP_CLIP {c : Nat} (hm : (0x200C, 16) ∈ R) : hits R (fSUP_CLIP c).addr = true := hit_aCHS_SUP hm
theorem hit_fSUP_PROBE {c : Nat} (hm : (0x200C, 16) ∈ R) : hits R (fSUP_PROBE c).addr = true := hit_aCHS_SUP hm
theorem hit_fSUP_UNSUP {c : Nat} (hm : (0x200C, 16) ∈ R) : hits R (fSUP_UNSUP c).addr = true := hit_aCHS_SUP hm
theorem hit_fSUP_SUSPECT {c : Nat} (hm : (0x200C, 16) ∈ R) : hits R (fSUP_SUSPECT c).addr = true := hit_aCHS_SUP hm
theorem hit_fSUP_PROOF {c : Nat} (hm : (0x200C, 16) ∈ R) : hits R (fSUP_PROOF c).addr = true := hit_aCHS_SUP hm
theorem hit_fSUP_LITPROOF {c : Nat} (hm : (0x200C, 16) ∈ R) : hits R (fSUP_LITPROOF c).addr = true := hit_aCHS_SUP hm
theorem hit_fSUP_RAIL_CAUSE {c : Nat} (hm : (0x200C, 16) ∈ R) : hits R (fSUP_RAIL_CAUSE c).addr = true := hit_aCHS_SUP hm
theorem hit_fSUP_TSD_CAUSE {c : Nat} (hm : (0x200C, 16) ∈ R) : hits R (fSUP_TSD_CAUSE c).addr = true := hit_aCHS_SUP hm
theorem hit_fSUP_NLED_EFF {c : Nat} (hm : (0x200C, 16) ∈ R) : hits R (fSUP_NLED_EFF c).addr = true := hit_aCHS_SUP hm
theorem hit_fSUP_LATCH {c k : Nat} (hm : (0x200C, 16) ∈ R) : hits R (fSUP_LATCH c k).addr = true := hit_aCHS_SUP hm
theorem hit_fSIG_VHI {c : Nat} (hm : (0x14000, 4) ∈ R) : hits R (fSIG_VHI c).addr = true := hit_aSUP_SIG hm
theorem hit_fSIG_NLED {c : Nat} (hm : (0x14000, 4) ∈ R) : hits R (fSIG_NLED c).addr = true := hit_aSUP_SIG hm
theorem hit_fSIG_LEARNT {c : Nat} (hm : (0x14000, 4) ∈ R) : hits R (fSIG_LEARNT c).addr = true := hit_aSUP_SIG hm
theorem hit_fOVH (h : (0x14400, 0) ∈ R) : hits R fOVH.addr = true := hit_one h
theorem hit_fSTRAY_I (h : (0x14400, 0) ∈ R) : hits R fSTRAY_I.addr = true := hit_one h
theorem hit_fXCHK_MN (h : (0x14404, 0) ∈ R) : hits R fXCHK_MN.addr = true := hit_one h
theorem hit_fXCHK_NFLAG (h : (0x230, 0) ∈ R) : hits R fXCHK_NFLAG.addr = true := hit_one h
theorem hit_fXCHK_FIRST (h : (0x230, 0) ∈ R) : hits R fXCHK_FIRST.addr = true := hit_one h
theorem hit_fXCHK_STALL (h : (0x230, 0) ∈ R) : hits R fXCHK_STALL.addr = true := hit_one h
theorem hit_fXCHK_SUSP (h : (0x230, 0) ∈ R) : hits R fXCHK_SUSP.addr = true := hit_one h
theorem hit_fXCHK_LIGHT (h : (0x230, 0) ∈ R) : hits R fXCHK_LIGHT.addr = true := hit_one h
theorem hit_fXCHK_DEMAND (h : (0x230, 0) ∈ R) : hits R fXCHK_DEMAND.addr = true := hit_one h
theorem hit_fXCHK_ACTIVE (h : (0x230, 0) ∈ R) : hits R fXCHK_ACTIVE.addr = true := hit_one h
theorem hit_fMTX_HELD (h : (0x2900, 0) ∈ R) : hits R fMTX_HELD.addr = true := hit_one h
theorem hit_fMTX_CLAMPED (h : (0x2900, 0) ∈ R) : hits R fMTX_CLAMPED.addr = true := hit_one h
theorem hit_fMTX_RUN (h : (0x2900, 0) ∈ R) : hits R fMTX_RUN.addr = true := hit_one h
theorem hit_fMTX_EN (h : (0x13080, 0) ∈ R) : hits R fMTX_EN.addr = true := hit_one h
theorem hit_fMTX_FRAME (h : (0x13080, 0) ∈ R) : hits R fMTX_FRAME.addr = true := hit_one h
theorem hit_fLED_CODE {e : Nat} (hm : (0x1800, 4) ∈ R) : hits R (fLED_CODE e).addr = true := hit_aMTX_LED hm
theorem hit_fMTX_DARK {e : Nat} (hm : (0x2800, 4) ∈ R) : hits R (fMTX_DARK e).addr = true := hit_aMTX_DARK hm
theorem hit_fMTX_STRAY {e : Nat} (hm : (0x2880, 4) ∈ R) : hits R (fMTX_STRAY e).addr = true := hit_aMTX_STRAY hm
theorem hit_fMBX_RESETTING (h : (0x4018, 0) ∈ R) : hits R fMBX_RESETTING.addr = true := hit_one h
theorem hit_fMBX_DUP_TAG (h : (0x4018, 0) ∈ R) : hits R fMBX_DUP_TAG.addr = true := hit_one h
theorem hit_fMBX_TAIL_BAD (h : (0x4018, 0) ∈ R) : hits R fMBX_TAIL_BAD.addr = true := hit_one h
theorem hit_fMBX_ACCESS_ERR (h : (0x4018, 0) ∈ R) : hits R fMBX_ACCESS_ERR.addr = true := hit_one h
theorem hit_fSEC_RING_PW (h : (0x1F000, 0) ∈ R) : hits R fSEC_RING_PW.addr = true := hit_one h
theorem hit_fADC {p i : Nat} (h : (0x240, 0) ∈ R) : hits R (State.fADC p i).addr = true := hit_one h
theorem hit_fADC_EPOCH {p : Nat} (h : (0x244, 0) ∈ R) : hits R (State.fADC_EPOCH p).addr = true := hit_one h
theorem hit_fBOOST14 (h : (0x17004, 0) ∈ R) : hits R State.fBOOST14.addr = true := hit_one h
theorem hit_fRELOAD {k : Nat} (h : (0x17004, 0) ∈ R) : hits R (State.fRELOAD k).addr = true := hit_one h
theorem hit_fREF_RDY {p : Nat} (h : (0x17000, 0) ∈ R) : hits R (State.fREF_RDY p).addr = true := hit_one h
theorem hit_fLST {n w lo width : Nat} (hm : (0x18900, 4) ∈ R) : hits R (State.fLST n w lo width).addr = true := hit_aLOOP_ST
    hm
theorem hit_fADC_FAULT {k : Nat} (h : (0x240, 0) ∈ R) : hits R (State.fADC_FAULT k).addr = true := hit_one h

end Sys2Proof.Machine
end

