-- ==== Sys2Proof/Laws/RegsLamp.lean ====
section
/-! SUPPORT. Which registers each operation may write, one lemma per operation: observations, rules, lamps, supplies, loops, dimming. -/

-- Proofs elaborated beside each other need more threads than the package's memory limit allows.
set_option Elab.async false
-- One proof script serves many operations, so a step or a name of it may have no use in some.
set_option linter.unusedVariables false
set_option linter.unusedTactic false
set_option linter.unreachableTactic false

namespace Sys2Proof.Machine

variable {R : List (Nat × Nat)} {zz s : State}

theorem State.fresh_wr (hR : [] ⊆ R) (hh : Wr R zz s) : Wr2 R zz (State.fresh s) := by
  have h := State.fresh_kept (T := [.free]) (zz := s) (List.Subset.refl _)  (Kept.refl _)
  exact Wr2.of_regs (Kept.regs_eq h) hh

theorem State.noteFlags_wr (hR : [] ⊆ R) (hh : Wr R zz s) : Wr R zz (State.noteFlags s) := by
  have h := State.noteFlags_kept (T := [.time]) (zz := s) (List.Subset.refl _)  (Kept.refl _)
  exact Wr.of_regs (Kept.regs_eq h) hh

theorem State.takeEvent_wr (hR : [] ⊆ R) (key : Nat) (hh : Wr R zz s) : Wr R zz (State.takeEvent s key) := by
  have h := State.takeEvent_kept (T := [.grid]) (zz := s) (List.Subset.refl _) key (Kept.refl _)
  exact Wr.of_regs (Kept.regs_eq h) hh

theorem State.refreshIcu_wr (hR : [] ⊆ R) (hh : Wr R zz s) : Wr R zz (State.refreshIcu s) := by
  have h := State.refreshIcu_kept (T := [.icu]) (zz := s) (List.Subset.refl _)  (Kept.refl _)
  exact Wr.of_regs (Kept.regs_eq h) hh

theorem State.pendSet_wr (hR : [] ⊆ R) (k : Nat) (bits : Word) (hh : Wr R zz s) : Wr R zz (State.pendSet s k bits) := by
  have h := State.pendSet_kept (T := [.icu]) (zz := s) (List.Subset.refl _) k bits (Kept.refl _)
  exact Wr.of_regs (Kept.regs_eq h) hh

theorem State.pendClr_wr (hR : [] ⊆ R) (k : Nat) (bits : Word) (hh : Wr R zz s) : Wr R zz (State.pendClr s k bits) := by
  have h := State.pendClr_kept (T := [.icu]) (zz := s) (List.Subset.refl _) k bits (Kept.refl _)
  exact Wr.of_regs (Kept.regs_eq h) hh

theorem State.duskExit_wr (hR : [(0x270, 0), (0x1B070, 0)] ⊆ R) (cause : Nat) (hh : Wr R zz s) : Wr R zz (State.duskExit s
    cause) := by
  unfold State.duskExit
  try lift_lets
  repeat' first
    | with_reducible assumption | exact hitSub (by decide) hR
    | (intro s; refine (fun hk : Wr R zz s => ?_) ?_; clear_value s; rotate_left; subst s) | (intro v; try clear_value v)
    | with_reducible exact hit_fPWR_STATE (has2 (by decide) hR) | with_reducible exact hit_fPWR_WAKE (has2 (by decide) hR)
    | with_reducible exact hit_fNWSTAT_WOKE (has2 (by decide) hR) | with_reducible apply State.put_wr
    | with_reducible apply State.putFlag_wr | with_reducible apply Wr.ite
    | fail_if_no_progress (with_reducible refine Wr.upd ?_) | split | lift_lets

theorem State.duskAbandon_wr (hR : [(0x270, 0)] ⊆ R) (hh : Wr R zz s) : Wr R zz (State.duskAbandon s) := by
  unfold State.duskAbandon
  try lift_lets
  repeat' first
    | with_reducible assumption | exact hitSub (by decide) hR
    | (intro s; refine (fun hk : Wr R zz s => ?_) ?_; clear_value s; rotate_left; subst s) | (intro v; try clear_value v)
    | with_reducible exact hit_fPWR_DUSK_PEND (has2 (by decide) hR)
    | with_reducible exact hit_fPWR_ABORTED (has2 (by decide) hR)
    | with_reducible exact hit_fPWR_STATE (has2 (by decide) hR) | with_reducible apply State.putFlag_wr
    | with_reducible apply State.put_wr | with_reducible apply Wr.ite
    | fail_if_no_progress (with_reducible refine Wr.upd ?_) | split | lift_lets

theorem State.nwWake_wr (hR : [(0x270, 0), (0x1B070, 0)] ⊆ R) (n : Nat) (hh : Wr R zz s) : Wr R zz (State.nwWake s n) := by
  unfold State.nwWake
  repeat' first
    | with_reducible assumption | exact hitSub (by decide) hR | with_reducible apply State.putFlag_wr
    | with_reducible apply State.put_wr | with_reducible apply State.duskAbandon_wr | with_reducible apply State.duskExit_wr
    | with_reducible exact hit_fNWSTAT_SRC (has2 (by decide) hR)
    | with_reducible exact hit_fNWSTAT_WOKE (has2 (by decide) hR) | with_reducible exact hit_fPWR_WAKE (has2 (by decide) hR)
    | with_reducible apply Wr.ite

theorem State.raise_wr (hR : [(0x270, 0), (0x1B070, 0)] ⊆ R) (n : Nat) (hh : Wr R zz s) : Wr R zz (State.raise s n) := by
  unfold State.raise
  repeat' first
    | with_reducible assumption | exact hitSub (by decide) hR | with_reducible apply State.refreshIcu_wr
    | with_reducible apply State.pendSet_wr | with_reducible apply State.nwWake_wr | with_reducible apply Wr.ite

theorem State.fltSet_wr (hR : [(0x270, 0), (0x2A0, 0), (0x2A4, 0), (0x1B070, 0)] ⊆ R) (n cls : Nat) (hh : Wr R zz s) : Wr R
    zz (State.fltSet s n cls) := by
  unfold State.fltSet
  repeat' first
    | with_reducible assumption | exact hitSub (by decide) hR | with_reducible apply State.raise_wr
    | with_reducible apply State.putFlag_wr | with_reducible apply State.put_wr
    | with_reducible exact hit_fFLTF_BIT (has2 (by decide) hR) | with_reducible exact hit_fFLTF_CLASS (has2 (by decide) hR)
    | with_reducible exact hit_fFLT_ANY (has2 (by decide) hR) | with_reducible exact hit_fFLT_GROUP (has2 (by decide) hR)
    | with_reducible exact hit_fFLT_GROUPS (has2 (by decide) hR) | with_reducible apply Wr.ite

theorem State.fltClr_wr (hR : [(0x2A0, 0)] ⊆ R) (n : Nat) (hh : Wr R zz s) : Wr R zz (State.fltClr s n) := by
  unfold State.fltClr
  try lift_lets
  repeat' first
    | with_reducible assumption | exact hitSub (by decide) hR
    | (intro s; refine (fun hk : Wr R zz s => ?_) ?_; clear_value s; rotate_left; subst s)
    | with_reducible apply State.putFlag_wr | with_reducible apply State.put_wr
    | with_reducible exact hit_fFLT_ANY (has2 (by decide) hR) | with_reducible exact hit_fFLT_GROUP (has2 (by decide) hR)

theorem State.fltFollow_wr (hR : [(0x270, 0), (0x2A0, 0), (0x2A4, 0), (0x1B070, 0)] ⊆ R) (n cls : Nat) (on : Bool) (hh : Wr R
    zz s) : Wr R zz (State.fltFollow s n cls on) := by
  unfold State.fltFollow
  repeat' first
    | with_reducible assumption | exact hitSub (by decide) hR | with_reducible apply State.fltClr_wr
    | with_reducible apply State.fltSet_wr | with_reducible apply Wr.ite

theorem State.driveReady_wr (hR : [(0x270, 0), (0x1B070, 0)] ⊆ R) (b : Bool) (hh : Wr R zz s) : Wr R zz (State.driveReady s
    b) := by
  unfold State.driveReady
  repeat' first
    | with_reducible assumption | exact hitSub (by decide) hR | with_reducible apply State.raise_wr
    | with_reducible apply Wr.ite | fail_if_no_progress (with_reducible refine Wr.upd ?_)

theorem State.nwLog_wr (hR : [(0x2A8, 0), (0x5014, 0)] ⊆ R) (r : EvtRec) (hh : Wr R zz s) : Wr R zz (State.nwLog s r) := by
  unfold State.nwLog
  try lift_lets
  repeat' first
    | with_reducible assumption | exact hitSub (by decide) hR
    | (intro s; refine (fun hk : Wr R zz s => ?_) ?_; clear_value s; rotate_left; subst s) | (intro v; try clear_value v)
    | with_reducible apply State.bump_wr | with_reducible apply State.put_wr
    | with_reducible exact hit_aEVT_DROP (has2 (by decide) hR) | with_reducible exact hit_fNW_NWBUF (has2 (by decide) hR)
    | with_reducible apply Wr.ite | fail_if_no_progress (with_reducible refine Wr.upd ?_)

theorem State.enqueue_wr (hR : [(0x2A8, 0), (0x5014, 0)] ⊆ R) (r : EvtRec) (hh : Wr R zz s) : Wr R zz (State.enqueue s r) :=
    by
  unfold State.enqueue
  repeat' first
    | with_reducible assumption | exact hitSub (by decide) hR | with_reducible apply State.bump_wr
    | with_reducible apply State.nwLog_wr | with_reducible exact hit_aEVT_DROP (has2 (by decide) hR)
    | with_reducible apply Wr.ite | fail_if_no_progress (with_reducible refine Wr.upd ?_)

theorem State.logAt_wr (hR : [(0x2A8, 0), (0x5014, 0)] ⊆ R) (src cls kind idx : Nat) (payload : List Nat) (hh : Wr R zz s) :
    Wr R zz (State.logAt s src cls kind idx payload) := by
  unfold State.logAt
  repeat' first
    | with_reducible assumption | exact hitSub (by decide) hR | with_reducible apply State.enqueue_wr

theorem State.logEv_wr (hR : [(0x2A8, 0), (0x5014, 0)] ⊆ R) (cls kind idx : Nat) (payload : List Nat) (hh : Wr R zz s) : Wr R
    zz (State.logEv s cls kind idx payload) := by
  unfold State.logEv
  repeat' first
    | with_reducible assumption | exact hitSub (by decide) hR | with_reducible apply State.logAt_wr

theorem State.logFw_wr (hR : [(0x2A8, 0), (0x5014, 0)] ⊆ R) (cls kind idx : Nat) (payload : List Nat) (hh : Wr R zz s) : Wr R
    zz (State.logFw s cls kind idx payload) := by
  unfold State.logFw
  repeat' first
    | with_reducible assumption | exact hitSub (by decide) hR | with_reducible apply State.logAt_wr

theorem State.logStamp_wr (hR : [(0x2A8, 0), (0x5014, 0)] ⊆ R) (x : Stamp) (cls kind idx : Nat) (payload : List Nat) (hh : Wr
    R zz s) : Wr R zz (State.logStamp s x cls kind idx payload) := by
  unfold State.logStamp
  repeat' first
    | with_reducible assumption | exact hitSub (by decide) hR | with_reducible apply State.enqueue_wr
    | with_reducible apply Wr.ite | split

theorem State.flash_wr (hR : [] ⊆ R) (work : List (Nat × Nat)) (hh : Wr R zz s) : Wr R zz (State.flash s work) := by
  have h := State.flash_kept (T := [.fspi]) (zz := s) (List.Subset.refl _) work (Kept.refl _)
  exact Wr.of_regs (Kept.regs_eq h) hh

theorem State.flashTable_wr (hR : [] ⊆ R) (hh : Wr R zz s) : Wr R zz (State.flashTable s) := by
  have h := State.flashTable_kept (T := [.fspi]) (zz := s) (List.Subset.refl _)  (Kept.refl _)
  exact Wr.of_regs (Kept.regs_eq h) hh

theorem State.flashQuad_wr (hR : [] ⊆ R) (hh : Wr R zz s) : Wr R zz (State.flashQuad s) := by
  have h := State.flashQuad_kept (T := [.fspi]) (zz := s) (List.Subset.refl _)  (Kept.refl _)
  exact Wr.of_regs (Kept.regs_eq h) hh

theorem State.lifeCount_wr (hR : [(0x270, 0), (0x290, 0), (0x2A8, 0), (0x5014, 0), (0x1B070, 0)] ⊆ R) (base o n : Nat) (hh :
    Wr R zz s) : Wr R zz (State.lifeCount s base o n) := by
  unfold State.lifeCount
  try lift_lets
  repeat' first
    | with_reducible assumption | exact hitSub (by decide) hR | (intro v; try clear_value v)
    | with_reducible apply State.memWrite_wr | with_reducible apply State.raise_wr | with_reducible apply State.bumpSat_wr
    | with_reducible apply State.memPut_wr | with_reducible apply State.logEv_wr
    | with_reducible exact hit_fLIFE_NSAT (has2 (by decide) hR) | with_reducible apply Wr.ite

theorem State.lifeAcc_wr (hR : [] ⊆ R) (o n : Nat) (hh : Wr R zz s) : Wr R zz (State.lifeAcc s o n) := by
  have h := State.lifeAcc_kept (T := [.life]) (zz := s) (List.Subset.refl _) o n (Kept.refl _)
  exact Wr.of_regs (Kept.regs_eq h) hh

theorem State.capTrigger_wr (hR : [(0x294, 0), (0x1E010, 0)] ⊆ R) (auto : Bool) (post : Nat) (hh : Wr R zz s) : Wr R zz
    (State.capTrigger s auto post) := by
  unfold State.capTrigger
  try lift_lets
  repeat' first
    | with_reducible assumption | exact hitSub (by decide) hR
    | (intro s; refine (fun hk : Wr R zz s => ?_) ?_; clear_value s; rotate_left; subst s) | (intro v; try clear_value v)
    | with_reducible apply State.putFlag_wr | with_reducible apply State.wr_wr | with_reducible apply State.put_wr
    | with_reducible exact hit_aCAP_TRIGTICK (has2 (by decide) hR) | with_reducible exact hit_fCAP_AUTO (has2 (by decide) hR)
    | with_reducible exact hit_fCAP_STATE (has2 (by decide) hR) | with_reducible apply Wr.ite
    | fail_if_no_progress (with_reducible refine Wr.upd ?_)

theorem State.capOnRecord_wr (hR : [(0x294, 0), (0x1E010, 0)] ⊆ R) (r : EvtRec) (hh : Wr R zz s) : Wr R zz (State.capOnRecord
    s r) := by
  unfold State.capOnRecord
  repeat' first
    | with_reducible assumption | exact hitSub (by decide) hR | with_reducible apply State.capTrigger_wr
    | with_reducible exact hit_fCAP_STATE (has2 (by decide) hR) | with_reducible apply Wr.ite

theorem State.evtThreshold_wr (hR : [(0x270, 0), (0x1B070, 0)] ⊆ R) (hh : Wr R zz s) : Wr R zz (State.evtThreshold s) := by
  unfold State.evtThreshold
  try lift_lets
  repeat' first
    | with_reducible assumption | exact hitSub (by decide) hR
    | (intro s; refine (fun hk : Wr R zz s => ?_) ?_; clear_value s; rotate_left; subst s) | (intro v; try clear_value v)
    | with_reducible apply State.raise_wr | with_reducible apply Wr.ite
    | fail_if_no_progress (with_reducible refine Wr.upd ?_)

theorem State.writeRec_wr (hR : [(0x270, 0), (0x290, 0), (0x294, 0), (0x2A8, 0), (0x5000, 0), (0x5004, 0), (0x5010, 0),
    (0x5014, 0), (0x1B070, 0), (0x1E010, 0)] ⊆ R) (r : EvtRec) (hh : Wr R zz s) : Wr R zz (State.writeRec s r) := by
  unfold State.writeRec
  try lift_lets
  repeat' first
    | with_reducible assumption | exact hitSub (by decide) hR
    | (intro s; refine (fun hk : Wr R zz s => ?_) ?_; clear_value s; rotate_left; subst s) | (intro v; try clear_value v)
    | with_reducible apply State.bump_wr | with_reducible apply State.memWrite_wr | with_reducible apply State.lifeCount_wr
    | with_reducible apply State.capOnRecord_wr | with_reducible apply State.evtThreshold_wr
    | with_reducible exact hit_aEVT_HEAD (has2 (by decide) hR) | with_reducible exact hit_aEVT_LOST (has2 (by decide) hR)
    | with_reducible exact hit_aEVT_OLDEST (has2 (by decide) hR) | with_reducible apply Wr.ite
    | fail_if_no_progress (with_reducible refine Wr.upd ?_) | split

theorem State.flushNw_wr (hR : [(0x270, 0), (0x290, 0), (0x294, 0), (0x2A8, 0), (0x5000, 0), (0x5004, 0), (0x5010, 0),
    (0x5014, 0), (0x1B070, 0), (0x1E010, 0)] ⊆ R) (hh : Wr R zz s) : Wr R zz (State.flushNw s) := by
  unfold State.flushNw
  try lift_lets
  repeat' first
    | with_reducible assumption | exact hitSub (by decide) hR
    | (intro s; refine (fun hk : Wr R zz s => ?_) ?_; clear_value s; rotate_left; subst s) | (intro v; try clear_value v)
    | with_reducible apply State.writeRec_wr | with_reducible apply State.put_wr
    | with_reducible exact hit_fNW_NWBUF (has2 (by decide) hR) | with_reducible apply Wr.ite
    | with_reducible (apply Wr.fold; intro _ _ _) | fail_if_no_progress (with_reducible refine Wr.upd ?_)

theorem State.obsWrite_wr (hR : [] ⊆ R) (n : Nat) (v : Int) (hh : Wr R zz s) : Wr R zz (State.obsWrite s n v) := by
  have h := State.obsWrite_kept (T := [.obs]) (zz := s) (List.Subset.refl _) n v (Kept.refl _)
  exact Wr.of_regs (Kept.regs_eq h) hh

theorem State.obsFeed_wr (hR : [] ⊆ R) (src idx : Nat) (v : Int) (hh : Wr R zz s) : Wr R zz (State.obsFeed s src idx v) := by
  have h := State.obsFeed_kept (T := [.obs]) (zz := s) (List.Subset.refl _) src idx v (Kept.refl _)
  exact Wr.of_regs (Kept.regs_eq h) hh

theorem State.writeTimeSlots_wr (hR : [] ⊆ R) (hh : Wr R zz s) : Wr R zz (State.writeTimeSlots s) := by
  have h := State.writeTimeSlots_kept (T := [.obs]) (zz := s) (List.Subset.refl _)  (Kept.refl _)
  exact Wr.of_regs (Kept.regs_eq h) hh

theorem State.evalTwins_wr (hR : [] ⊆ R) (hh : Wr R zz s) : Wr R zz (State.evalTwins s) := by
  have h := State.evalTwins_kept (T := [.obs]) (zz := s) (List.Subset.refl _)  (Kept.refl _)
  exact Wr.of_regs (Kept.regs_eq h) hh

theorem State.takeSnapshot_wr (hR : [(0x270, 0), (0x2A8, 0), (0x5014, 0), (0x15200, 0), (0x15204, 0), (0x1B070, 0)] ⊆ R) (hh
    : Wr R zz s) : Wr R zz (State.takeSnapshot s) := by
  unfold State.takeSnapshot
  try lift_lets
  repeat' first
    | with_reducible assumption | exact hitSub (by decide) hR
    | (intro s; refine (fun hk : Wr R zz s => ?_) ?_; clear_value s; rotate_left; subst s) | (intro v; try clear_value v)
    | with_reducible exact hit_aOBS_STAT (has2 (by decide) hR)
    | with_reducible exact hit_aOBS_STALE_CNT (has2 (by decide) hR) | with_reducible apply State.wr_wr
    | with_reducible apply State.logEv_wr | with_reducible apply State.bump_wr | with_reducible apply State.raise_wr
    | with_reducible apply Wr.ite | with_reducible (apply Wr.fold; intro _ _ _)
    | fail_if_no_progress (with_reducible refine Wr.upd ?_) | split | lift_lets

theorem State.snpExtract_wr (hR : [(0x15208, 0), (0x1520C, 0)] ⊆ R) (e : Nat) (p : List Byte) (hh : Wr R zz s) : Wr R zz
    (State.snpExtract s e p) := by
  unfold State.snpExtract
  try lift_lets
  repeat' first
    | with_reducible assumption | exact hitSub (by decide) hR
    | (intro s; refine (fun hk : Wr R zz s => ?_) ?_; clear_value s; rotate_left; subst s) | (intro v; try clear_value v)
    | with_reducible apply State.bump_wr | with_reducible apply State.obsWrite_wr
    | with_reducible exact hit_aOBS_SNP_MATCH (has2 (by decide) hR)
    | with_reducible exact hit_aOBS_SNP_SHORT (has2 (by decide) hR) | with_reducible apply Wr.ite
    | fail_if_no_progress (with_reducible refine Wr.upd ?_)

theorem State.snoop_wr (hR : [(0x15208, 0), (0x1520C, 0), (0x15210, 0)] ⊆ R) (port : Nat) (frame : List Byte) (hh : Wr R zz
    s) : Wr R zz (State.snoop s port frame) := by
  unfold State.snoop
  try lift_lets
  repeat' first
    | with_reducible assumption | exact hitSub (by decide) hR | with_reducible apply State.bump_wr
    | with_reducible apply State.snpExtract_wr | with_reducible exact hit_aOBS_SNP_OVF (has2 (by decide) hR)
    | with_reducible apply Wr.ite | with_reducible (apply Wr.fold; intro _ _ _)

theorem State.setCopy_wr (hR : [] ⊆ R) (c : Nat) (x : CtxCopy) (hh : Wr R zz s) : Wr R zz (State.setCopy s c x) := by
  have h := State.setCopy_kept (T := [.ctx]) (zz := s) (List.Subset.refl _) c x (Kept.refl _)
  exact Wr.of_regs (Kept.regs_eq h) hh

theorem State.obsDataRead_wr (hR : [] ⊆ R) (c : Nat) (hh : Wr R zz s) : Wr R zz (State.obsDataRead s c) := by
  have h := State.obsDataRead_kept (T := [.ctx]) (zz := s) (List.Subset.refl _) c (Kept.refl _)
  exact Wr.of_regs (Kept.regs_eq h) hh

theorem State.ruleDataRead_wr (hR : [] ⊆ R) (c : Nat) (hh : Wr R zz s) : Wr R zz (State.ruleDataRead s c) := by
  have h := State.ruleDataRead_kept (T := [.ctx]) (zz := s) (List.Subset.refl _) c (Kept.refl _)
  exact Wr.of_regs (Kept.regs_eq h) hh

theorem State.ruleStat_wr (hR : [(0x16104, 0)] ⊆ R) (hh : Wr R zz s) : Wr R zz (State.ruleStat s) := by
  unfold State.ruleStat
  try lift_lets
  repeat' first
    | with_reducible assumption | exact hitSub (by decide) hR | (intro v; try clear_value v)
    | with_reducible apply State.wr_wr | with_reducible exact hit_aRULE_STAT (has2 (by decide) hR)

theorem State.ruleStart_wr (hR : [(0x270, 0), (0x2A8, 0), (0x5014, 0), (0x15200, 0), (0x15204, 0), (0x1B070, 0)] ⊆ R) (hh :
    Wr R zz s) : Wr R zz (State.ruleStart s) := by
  unfold State.ruleStart
  try lift_lets
  repeat' first
    | with_reducible assumption | exact hitSub (by decide) hR
    | (intro s; refine (fun hk : Wr R zz s => ?_) ?_; clear_value s; rotate_left; subst s) | (intro (v : Fld); subst v)
    | (intro v; try clear_value v) | with_reducible apply State.takeSnapshot_wr | with_reducible apply Wr.ite
    | fail_if_no_progress (with_reducible refine Wr.upd ?_) | split | lift_lets

theorem State.ruleWalked_wr (hR : [(0x16108, 0)] ⊆ R) (hh : Wr R zz s) : Wr R zz (State.ruleWalked s) := by
  unfold State.ruleWalked
  try lift_lets
  repeat' first
    | with_reducible assumption | exact hitSub (by decide) hR
    | (intro s; refine (fun hk : Wr R zz s => ?_) ?_; clear_value s; rotate_left; subst s) | (intro v; try clear_value v)
    | with_reducible exact hit_aRULE_EVAL (has2 (by decide) hR) | with_reducible apply State.wr_wr
    | with_reducible apply Wr.ite | fail_if_no_progress (with_reducible refine Wr.upd ?_) | split | lift_lets

theorem State.senseOne_wr (hR : [(0x270, 0), (0x1B070, 0)] ⊆ R) (n : Nat) (l : Bool) (ago : Nat) (hh : Wr R zz s) : Wr R zz
    (State.senseOne s n l ago) := by
  unfold State.senseOne
  try lift_lets
  repeat' first
    | with_reducible assumption | exact hitSub (by decide) hR
    | (intro s; refine (fun hk : Wr R zz s => ?_) ?_; clear_value s; rotate_left; subst s) | (intro (v : Fld); subst v)
    | (intro v; try clear_value v) | with_reducible apply State.obsWrite_wr | with_reducible apply State.raise_wr
    | with_reducible apply Wr.ite | fail_if_no_progress (with_reducible refine Wr.upd ?_) | split | lift_lets

theorem State.senseAll_wr (hR : [(0x270, 0), (0x1B070, 0)] ⊆ R) (levels : BitVec 32) (ago : List (BitVec 16)) (hh : Wr R zz
    s) : Wr R zz (State.senseAll s levels ago) := by
  unfold State.senseAll
  try lift_lets
  repeat' first
    | with_reducible assumption | exact hitSub (by decide) hR
    | (intro s; refine (fun hk : Wr R zz s => ?_) ?_; clear_value s; rotate_left; subst s) | (intro v; try clear_value v)
    | with_reducible apply State.senseOne_wr | with_reducible apply Wr.ite | with_reducible (apply Wr.fold; intro _ _ _)
    | fail_if_no_progress (with_reducible refine Wr.upd ?_) | split | lift_lets

theorem State.aspVarWrite_wr (hR : [(0x1780, 4)] ⊆ R) (v x : Nat) (hh : Wr R zz s) : Wr R zz (State.aspVarWrite s v x) := by
  unfold State.aspVarWrite
  repeat' first
    | with_reducible assumption | exact hitSub (by decide) hR | with_reducible exact hit_aASP_VAR (has2 (by decide) hR)
    | with_reducible apply State.wr_wr | with_reducible apply State.obsFeed_wr | with_reducible apply Wr.ite | split

theorem State.aspReqWrite_wr (hR : [(0x1400, 4)] ⊆ R) (n x : Nat) (hh : Wr R zz s) : Wr R zz (State.aspReqWrite s n x) := by
  unfold State.aspReqWrite
  repeat' first
    | with_reducible assumption | exact hitSub (by decide) hR | with_reducible exact hit_aASP_REQ (has2 (by decide) hR)
    | with_reducible apply State.wr_wr | with_reducible apply Wr.ite | split

theorem State.setChan_wr (hR : [] ⊆ R) (c : Nat) (x : Chan) (hh : Wr R zz s) : Wr R zz (State.setChan s c x) := by
  have h := State.setChan_kept (T := [.chans]) (zz := s) (List.Subset.refl _) c x (Kept.refl _)
  exact Wr.of_regs (Kept.regs_eq h) hh

theorem State.setBank_wr (hR : [] ⊆ R) (n : Nat) (x : Bank) (hh : Wr R zz s) : Wr R zz (State.setBank s n x) := by
  have h := State.setBank_kept (T := [.banks]) (zz := s) (List.Subset.refl _) n x (Kept.refl _)
  exact Wr.of_regs (Kept.regs_eq h) hh

theorem State.setAsp_wr (hR : [] ⊆ R) (n : Nat) (x : Asp) (hh : Wr R zz s) : Wr R zz (State.setAsp s n x) := by
  have h := State.setAsp_kept (T := [.res]) (zz := s) (List.Subset.refl _) n x (Kept.refl _)
  exact Wr.of_regs (Kept.regs_eq h) hh

theorem State.setLed_wr (hR : [] ⊆ R) (e : Nat) (x : Led) (hh : Wr R zz s) : Wr R zz (State.setLed s e x) := by
  have h := State.setLed_kept (T := [.mtx]) (zz := s) (List.Subset.refl _) e x (Kept.refl _)
  exact Wr.of_regs (Kept.regs_eq h) hh

theorem State.setLoop_wr (hR : [] ⊆ R) (n : Nat) (x : LoopSlot) (hh : Wr R zz s) : Wr R zz (State.setLoop s n x) := by
  have h := State.setLoop_kept (T := [.loops]) (zz := s) (List.Subset.refl _) n x (Kept.refl _)
  exact Wr.of_regs (Kept.regs_eq h) hh

theorem State.darkLed_wr (hR : [] ⊆ R) (e : Nat) (hh : Wr R zz s) : Wr R zz (State.darkLed s e) := by
  have h := State.darkLed_kept (T := [.mtx]) (zz := s) (List.Subset.refl _) e (Kept.refl _)
  exact Wr.of_regs (Kept.regs_eq h) hh

theorem State.ledsDark_wr (hR : [] ⊆ R) (hh : Wr R zz s) : Wr R zz (State.ledsDark s) := by
  have h := State.ledsDark_kept (T := [.mtx]) (zz := s) (List.Subset.refl _)  (Kept.refl _)
  exact Wr.of_regs (Kept.regs_eq h) hh

theorem State.cutColumn_wr (hR : [] ⊆ R) (c : Nat) (hh : Wr R zz s) : Wr R zz (State.cutColumn s c) := by
  have h := State.cutColumn_kept (T := [.mtx]) (zz := s) (List.Subset.refl _) c (Kept.refl _)
  exact Wr.of_regs (Kept.regs_eq h) hh

theorem State.lampGroup_wr (hR : [(0x270, 0), (0x2A0, 0), (0x2A4, 0), (0x1B070, 0)] ⊆ R) (hh : Wr R zz s) : Wr R zz
    (State.lampGroup s) := by
  unfold State.lampGroup
  try lift_lets
  repeat' first
    | with_reducible assumption | exact hitSub (by decide) hR | (intro v; try clear_value v)
    | with_reducible apply State.fltFollow_wr

theorem State.reprove_wr (hR : [(0x200C, 16)] ⊆ R) (c : Nat) (hh : Wr R zz s) : Wr R zz (State.reprove s c) := by
  unfold State.reprove
  try lift_lets
  repeat' first
    | with_reducible assumption | exact hitSub (by decide) hR
    | (intro s; refine (fun hk : Wr R zz s => ?_) ?_; clear_value s; rotate_left; subst s) | (intro v; try clear_value v)
    | with_reducible exact hit_fSUP_PROOF (has2 (by decide) hR) | with_reducible apply State.put_wr
    | with_reducible apply State.setLed_wr | with_reducible apply State.setChan_wr | with_reducible apply Wr.ite | split
    | lift_lets

theorem State.unprove_wr (hR : [(0x200C, 16)] ⊆ R) (c : Nat) (hh : Wr R zz s) : Wr R zz (State.unprove s c) := by
  unfold State.unprove
  try lift_lets
  repeat' first
    | with_reducible assumption | exact hitSub (by decide) hR
    | (intro s; refine (fun hk : Wr R zz s => ?_) ?_; clear_value s; rotate_left; subst s) | (intro v; try clear_value v)
    | with_reducible exact hit_fSUP_PROOF (has2 (by decide) hR)
    | with_reducible exact hit_fSUP_SUSPECT (has2 (by decide) hR) | with_reducible apply State.put_wr
    | with_reducible apply State.putFlag_wr | with_reducible apply State.setChan_wr | with_reducible apply State.setLed_wr
    | with_reducible apply Wr.ite | split | lift_lets

theorem State.provenLit_wr (hR : [(0x200C, 16)] ⊆ R) (c : Nat) (hh : Wr R zz s) : Wr R zz (State.provenLit s c) := by
  unfold State.provenLit
  try lift_lets
  repeat' first
    | with_reducible assumption | exact hitSub (by decide) hR
    | (intro s; refine (fun hk : Wr R zz s => ?_) ?_; clear_value s; rotate_left; subst s) | (intro v; try clear_value v)
    | with_reducible apply State.setChan_wr | with_reducible apply State.putFlag_wr | with_reducible apply State.put_wr
    | with_reducible exact hit_fSUP_LITPROOF (has2 (by decide) hR)
    | with_reducible exact hit_fSUP_PROOF (has2 (by decide) hR)

theorem State.cutPulse_wr (hR : [] ⊆ R) (c : Nat) (hh : Wr R zz s) : Wr R zz (State.cutPulse s c) := by
  have h := State.cutPulse_kept (T := [.chans, .mtx]) (zz := s) (List.Subset.refl _) c (Kept.refl _)
  exact Wr.of_regs (Kept.regs_eq h) hh

theorem State.bankClose_wr (hR : [] ⊆ R) (n : Nat) (hh : Wr R zz s) : Wr R zz (State.bankClose s n) := by
  have h := State.bankClose_kept (T := [.banks]) (zz := s) (List.Subset.refl _) n (Kept.refl _)
  exact Wr.of_regs (Kept.regs_eq h) hh

theorem State.bankOpen_wr (hR : [(0x204, 0)] ⊆ R) (n : Nat) (hh : Wr R zz s) : Wr R zz (State.bankOpen s n) := by
  unfold State.bankOpen
  try lift_lets
  repeat' first
    | with_reducible assumption | exact hitSub (by decide) hR
    | (intro s; refine (fun hk : Wr R zz s => ?_) ?_; clear_value s; rotate_left; subst s) | (intro v; try clear_value v)
    | with_reducible exact hit_fBANK_CLOSED (has2 (by decide) hR) | with_reducible apply State.setBank_wr
    | with_reducible apply State.putFlag_wr | with_reducible apply Wr.ite | split | lift_lets

theorem State.scanEnd_wr (hR : [(0x204, 0), (0x2900, 0)] ⊆ R) (hh : Wr R zz s) : Wr R zz (State.scanEnd s) := by
  unfold State.scanEnd
  try lift_lets
  repeat' first
    | with_reducible assumption | exact hitSub (by decide) hR
    | (intro s; refine (fun hk : Wr R zz s => ?_) ?_; clear_value s; rotate_left; subst s) | (intro v; try clear_value v)
    | with_reducible exact hit_fMTX_RUN (has2 (by decide) hR) | with_reducible apply State.bankOpen_wr
    | with_reducible apply State.putFlag_wr | with_reducible apply Wr.ite | with_reducible (apply Wr.fold; intro _ _ _)
    | fail_if_no_progress (with_reducible refine Wr.upd ?_) | split | lift_lets

theorem State.mtxHeld_wr (hR : [(0x2900, 0)] ⊆ R) (hh : Wr R zz s) : Wr R zz (State.mtxHeld s) := by
  unfold State.mtxHeld
  repeat' first
    | with_reducible assumption | exact hitSub (by decide) hR | with_reducible exact hit_fMTX_HELD (has2 (by decide) hR)
    | with_reducible apply State.put_wr | with_reducible apply Wr.ite | split

theorem State.mornEnd_wr (hR : [(0x274, 0), (0x2A8, 0), (0x5014, 0)] ⊆ R) (hh : Wr R zz s) : Wr R zz (State.mornEnd s) := by
  unfold State.mornEnd
  try lift_lets
  repeat' first
    | with_reducible assumption | exact hitSub (by decide) hR
    | (intro s; refine (fun hk : Wr R zz s => ?_) ?_; clear_value s; rotate_left; subst s) | (intro v; try clear_value v)
    | with_reducible apply State.putFlag_wr | with_reducible apply State.put_wr | with_reducible apply State.logFw_wr
    | with_reducible exact hit_fMORN_BANKFAIL (has2 (by decide) hR)
    | with_reducible exact hit_fMORN_NOPEN (has2 (by decide) hR)
    | with_reducible exact hit_fMORN_RESULT (has2 (by decide) hR)
    | with_reducible exact hit_fMORN_RUNNING (has2 (by decide) hR) | with_reducible apply Wr.ite
    | fail_if_no_progress (with_reducible refine Wr.upd ?_)

theorem State.strayOpen_wr (hR : [(0x204, 0), (0x274, 0), (0x2A8, 0), (0x2900, 0), (0x5014, 0)] ⊆ R) (n : Nat) (hh : Wr R zz
    s) : Wr R zz (State.strayOpen s n) := by
  unfold State.strayOpen
  try lift_lets
  repeat' first
    | with_reducible assumption | exact hitSub (by decide) hR | (intro v; try clear_value v)
    | with_reducible apply State.bankClose_wr | with_reducible apply State.bankOpen_wr
    | with_reducible apply State.putFlag_wr | with_reducible apply State.mtxHeld_wr | with_reducible apply State.mornEnd_wr
    | with_reducible exact hit_fBANK_STRAY (has2 (by decide) hR) | with_reducible apply Wr.ite
    | fail_if_no_progress (with_reducible refine Wr.upd ?_)

theorem State.bankGroup_wr (hR : [(0x270, 0), (0x2A0, 0), (0x2A4, 0), (0x1B070, 0)] ⊆ R) (cls : Nat) (hh : Wr R zz s) : Wr R
    zz (State.bankGroup s cls) := by
  unfold State.bankGroup
  repeat' first
    | with_reducible assumption | exact hitSub (by decide) hR | with_reducible apply State.fltFollow_wr

theorem State.showTemp_wr (hR : [(0x200C, 16)] ⊆ R) (c : Nat) (hh : Wr R zz s) : Wr R zz (State.showTemp s c) := by
  unfold State.showTemp
  repeat' first
    | with_reducible assumption | exact hitSub (by decide) hR | with_reducible apply State.putFlag_wr
    | with_reducible apply State.put_wr | with_reducible exact hit_fSUP_TEMP (has2 (by decide) hR)
    | with_reducible exact hit_fSUP_TEMP_VALID (has2 (by decide) hR)

theorem State.putAsp_wr (hR : [(0x1000, 8)] ⊆ R) (n : Nat) (v : Verdict) (forced conflict proving : Bool) (st : Nat) (hh : Wr
    R zz s) : Wr R zz (State.putAsp s n v forced conflict proving st) := by
  unfold State.putAsp
  repeat' first
    | with_reducible assumption | exact hitSub (by decide) hR | with_reducible apply State.wr_wr
    | with_reducible exact hit_aASP_STAT (has2 (by decide) hR)

theorem State.putAspFlt_wr (hR : [(0x1004, 8)] ⊆ R) (n : Nat) (hh : Wr R zz s) : Wr R zz (State.putAspFlt s n) := by
  unfold State.putAspFlt
  try lift_lets
  repeat' first
    | with_reducible assumption | exact hitSub (by decide) hR | (intro v; try clear_value v)
    | with_reducible apply State.wr_wr | with_reducible exact hit_aASP_FLT (has2 (by decide) hR)

theorem State.ruleConflict_wr (hR : [(0x270, 0), (0x2A8, 0), (0x1704, 0), (0x5014, 0), (0x1B070, 0)] ⊆ R) (n : Nat) (conflict
    : Bool) (hh : Wr R zz s) : Wr R zz (State.ruleConflict s n conflict) := by
  unfold State.ruleConflict
  try lift_lets
  repeat' first
    | with_reducible assumption | exact hitSub (by decide) hR
    | (intro s; refine (fun hk : Wr R zz s => ?_) ?_; clear_value s; rotate_left; subst s) | (intro v; try clear_value v)
    | with_reducible apply State.bump_wr | with_reducible apply State.raise_wr | with_reducible apply State.setAsp_wr
    | with_reducible apply State.logEv_wr | with_reducible exact hit_aASP_CONFLICT_CNT (has2 (by decide) hR)
    | with_reducible apply Wr.ite

theorem State.presentAsp_wr (hR : [] ⊆ R) (n : Nat) (v : Verdict) (forced blocked : Bool) (hh : Wr R zz s) : Wr R zz
    (State.presentAsp s n v forced blocked) := by
  have h := State.presentAsp_kept (T := [.res]) (zz := s) (List.Subset.refl _) n v forced blocked (Kept.refl _)
  exact Wr.of_regs (Kept.regs_eq h) hh

theorem State.resolveAsp_wr (hR : [(0x270, 0), (0x2A8, 0), (0x1000, 8), (0x1004, 8), (0x1704, 0), (0x5014, 0), (0x1B070, 0)]
    ⊆ R) (before : State) (n : Nat) (hh : Wr R zz s) : Wr R zz (State.resolveAsp before s n) := by
  unfold State.resolveAsp
  try lift_lets
  repeat' first
    | with_reducible assumption | exact hitSub (by decide) hR
    | (intro s; refine (fun hk : Wr R zz s => ?_) ?_; clear_value s; rotate_left; subst s) | (intro (v : Fld); subst v)
    | (intro v; try clear_value v) | with_reducible exact hit_aASP_STAT (has2 (by decide) hR)
    | with_reducible exact hit_aASP_FLT (has2 (by decide) hR) | with_reducible exact hit_fASP_FORCED (has2 (by decide) hR)
    | with_reducible exact hit_fASP_DEMAND (has2 (by decide) hR) | with_reducible apply State.setAsp_wr
    | with_reducible apply State.wr_wr | with_reducible apply State.lifeAcc_wr | with_reducible apply State.putAsp_wr
    | with_reducible apply State.putAspFlt_wr | with_reducible apply State.presentAsp_wr
    | with_reducible apply State.ruleConflict_wr | with_reducible apply Wr.ite | split | lift_lets

theorem State.resolveHead_wr (hR : [(0x1600, 4)] ⊆ R) (before : State) (h : Nat) (hh : Wr R zz s) : Wr R zz
    (State.resolveHead before s h) := by
  unfold State.resolveHead
  try lift_lets
  repeat' first
    | with_reducible assumption | exact hitSub (by decide) hR | (intro v; try clear_value v)
    | with_reducible apply State.wr_wr | with_reducible exact hit_aHEAD_STAT (has2 (by decide) hR)

theorem State.spiStats_wr (hR : [] ⊆ R) (hh : Wr R zz s) : Wr R zz (State.spiStats s) := by
  have h := State.spiStats_kept (T := [.spi]) (zz := s) (List.Subset.refl _)  (Kept.refl _)
  exact Wr.of_regs (Kept.regs_eq h) hh

theorem State.resolve_wr (hR : [(0x270, 0), (0x2A8, 0), (0x1000, 8), (0x1004, 8), (0x1600, 4), (0x1704, 0), (0x5014, 0),
    (0x1B070, 0)] ⊆ R) (hh : Wr R zz s) : Wr R zz (State.resolve s) := by
  unfold State.resolve
  try lift_lets
  repeat' first
    | with_reducible assumption | exact hitSub (by decide) hR
    | (intro s; refine (fun hk : Wr R zz s => ?_) ?_; clear_value s; rotate_left; subst s) | (intro v; try clear_value v)
    | with_reducible apply State.resolveAsp_wr | with_reducible apply State.resolveHead_wr
    | with_reducible apply State.spiStats_wr | with_reducible apply Wr.ite | with_reducible (apply Wr.fold; intro _ _ _)
    | fail_if_no_progress (with_reducible refine Wr.upd ?_) | split | lift_lets

theorem State.refusePattern_wr (hR : [(0x2A8, 0), (0x2008, 16), (0x5014, 0)] ⊆ R) (n : Nat) (hh : Wr R zz s) : Wr R zz
    (State.refusePattern s n) := by
  unfold State.refusePattern
  try lift_lets
  repeat' first
    | with_reducible assumption | exact hitSub (by decide) hR
    | (intro s; refine (fun hk : Wr R zz s => ?_) ?_; clear_value s; rotate_left; subst s) | (intro v; try clear_value v)
    | with_reducible apply State.putFlag_wr | with_reducible apply State.setAsp_wr | with_reducible apply State.logEv_wr
    | with_reducible exact hit_fCDIM_REFUSED (has2 (by decide) hR) | with_reducible apply Wr.ite
    | with_reducible (apply Wr.fold; intro _ _ _)

theorem State.commitAsp_wr (hR : [] ⊆ R) (n : Nat) (hh : Wr R zz s) : Wr R zz (State.commitAsp s n) := by
  have h := State.commitAsp_kept (T := [.chans, .res]) (zz := s) (List.Subset.refl _) n (Kept.refl _)
  exact Wr.of_regs (Kept.regs_eq h) hh

theorem State.banksSeen_wr (hR : [] ⊆ R) (hh : Wr R zz s) : Wr R zz (State.banksSeen s) := by
  have h := State.banksSeen_kept (T := [.banks]) (zz := s) (List.Subset.refl _)  (Kept.refl _)
  exact Wr.of_regs (Kept.regs_eq h) hh

theorem State.commitChan_wr (hR : [(0x200C, 16)] ⊆ R) (asps : List (Nat × List Nat)) (c : Nat) (hh : Wr R zz s) : Wr R zz
    (State.commitChan asps s c) := by
  unfold State.commitChan
  try lift_lets
  repeat' first
    | with_reducible assumption | exact hitSub (by decide) hR
    | (intro s; refine (fun hk : Wr R zz s => ?_) ?_; clear_value s; rotate_left; subst s) | (intro v; try clear_value v)
    | with_reducible apply State.setChan_wr | with_reducible apply State.putFlag_wr
    | with_reducible exact hit_fSUP_LITPROOF (has2 (by decide) hR) | with_reducible apply Wr.ite

theorem State.budget_wr (hR : [(0x200, 0), (0x2A8, 0), (0x5014, 0)] ⊆ R) (hh : Wr R zz s) : Wr R zz (State.budget s) := by
  unfold State.budget
  try lift_lets
  repeat' first
    | with_reducible assumption | exact hitSub (by decide) hR
    | (intro s; refine (fun hk : Wr R zz s => ?_) ?_; clear_value s; rotate_left; subst s) | (intro (v : Fld); subst v)
    | (intro v; try clear_value v) | with_reducible exact hit_fBST_BUDGET (has2 (by decide) hR)
    | with_reducible apply State.setChan_wr | with_reducible apply State.putFlag_wr | with_reducible apply State.logEv_wr
    | with_reducible apply Wr.ite | with_reducible (apply Wr.fold; intro _ _ _) | split | lift_lets

theorem State.commitBank_wr (hR : [(0x204, 0), (0x214, 0), (0x270, 0), (0x2A0, 0), (0x2A4, 0), (0x1B070, 0)] ⊆ R) (n : Nat)
    (hh : Wr R zz s) : Wr R zz (State.commitBank s n) := by
  unfold State.commitBank
  try lift_lets
  repeat' first
    | with_reducible assumption | exact hitSub (by decide) hR
    | (intro s; refine (fun hk : Wr R zz s => ?_) ?_; clear_value s; rotate_left; subst s) | (intro (v : Fld); subst v)
    | (intro v; try clear_value v) | with_reducible exact hit_fBANK_OC (has2 (by decide) hR)
    | with_reducible exact hit_fBANK_STRAY (has2 (by decide) hR)
    | with_reducible exact hit_aDEV_BANK_RETRY (has2 (by decide) hR) | with_reducible apply State.setBank_wr
    | with_reducible apply State.putFlag_wr | with_reducible apply State.bump_wr | with_reducible apply State.bankClose_wr
    | with_reducible apply State.bankOpen_wr | with_reducible apply State.bankGroup_wr | with_reducible apply Wr.ite
    | split | lift_lets

theorem State.latchTable_wr (hR : [(0x270, 0)] ⊆ R) (hh : Wr R zz s) : Wr R zz (State.latchTable s) := by
  unfold State.latchTable
  try lift_lets
  repeat' first
    | with_reducible assumption | exact hitSub (by decide) hR
    | (intro s; refine (fun hk : Wr R zz s => ?_) ?_; clear_value s; rotate_left; subst s) | (intro v; try clear_value v)
    | with_reducible apply State.putFlag_wr | with_reducible exact hit_fPWR_TABLE_VALID (has2 (by decide) hR)
    | with_reducible apply Wr.ite | fail_if_no_progress (with_reducible refine Wr.upd ?_)

theorem State.judgeReady_wr (hR : [(0x270, 0), (0x1600, 4), (0x1700, 0), (0x1B070, 0)] ⊆ R) (hh : Wr R zz s) : Wr R zz
    (State.judgeReady s) := by
  unfold State.judgeReady
  try lift_lets
  repeat' first
    | with_reducible assumption | exact hitSub (by decide) hR
    | (intro s; refine (fun hk : Wr R zz s => ?_) ?_; clear_value s; rotate_left; subst s) | (intro v; try clear_value v)
    | with_reducible apply State.putFlag_wr | with_reducible apply State.wr_wr | with_reducible apply State.driveReady_wr
    | with_reducible exact hit_aASP_SUM (has2 (by decide) hR) | with_reducible exact hit_fHEAD_READY_OK (has2 (by decide) hR)
    | with_reducible apply Wr.ite | with_reducible (apply Wr.fold; intro _ _ _)

theorem State.dawnComplete_wr (hR : [(0x270, 0), (0x2A0, 0), (0x2A8, 0), (0x5014, 0)] ⊆ R) (hh : Wr R zz s) : Wr R zz
    (State.dawnComplete s) := by
  unfold State.dawnComplete
  try lift_lets
  repeat' first
    | with_reducible assumption | exact hitSub (by decide) hR
    | (intro s; refine (fun hk : Wr R zz s => ?_) ?_; clear_value s; rotate_left; subst s) | (intro (v : Fld); subst v)
    | (intro v; try clear_value v) | with_reducible exact hit_fPWR_PHASE (has2 (by decide) hR)
    | with_reducible exact hit_fPWR_DAWN_LATE (has2 (by decide) hR)
    | with_reducible exact hit_fPWR_STATE (has2 (by decide) hR)
    | with_reducible exact hit_fPWR_DAWN_MS (has2 (by decide) hR) | with_reducible apply State.putFlag_wr
    | with_reducible apply State.logFw_wr | with_reducible apply State.put_wr | with_reducible apply State.fltClr_wr
    | with_reducible apply Wr.ite | fail_if_no_progress (with_reducible refine Wr.upd ?_) | split | lift_lets

theorem State.endFreeze_wr (hR : [(0x2A8, 0)] ⊆ R) (hh : Wr R zz s) : Wr R zz (State.endFreeze s) := by
  unfold State.endFreeze
  repeat' first
    | with_reducible assumption | exact hitSub (by decide) hR | with_reducible apply State.putFlag_wr
    | with_reducible exact hit_fNW_FROZEN (has2 (by decide) hR) | with_reducible exact hit_fNW_SC0_LOST (has2 (by decide) hR)
    | with_reducible apply Wr.ite

theorem State.duskEnd_wr (hR : [(0x270, 0), (0x200C, 16)] ⊆ R) (hh : Wr R zz s) : Wr R zz (State.duskEnd s) := by
  unfold State.duskEnd
  try lift_lets
  repeat' first
    | with_reducible assumption | exact hitSub (by decide) hR
    | (intro s; refine (fun hk : Wr R zz s => ?_) ?_; clear_value s; rotate_left; subst s) | (intro v; try clear_value v)
    | with_reducible exact hit_fPWR_STATE (has2 (by decide) hR) | with_reducible apply State.unprove_wr
    | with_reducible apply State.put_wr | with_reducible apply Wr.ite | with_reducible (apply Wr.fold; intro _ _ _)
    | fail_if_no_progress (with_reducible refine Wr.upd ?_) | split | lift_lets

theorem State.firstCommit_wr (hR : [(0x200C, 16)] ⊆ R) (hh : Wr R zz s) : Wr R zz (State.firstCommit s) := by
  unfold State.firstCommit
  repeat' first
    | with_reducible assumption | exact hitSub (by decide) hR | with_reducible apply State.unprove_wr
    | with_reducible apply Wr.ite | with_reducible (apply Wr.fold; intro _ _ _) | split

theorem State.commitDrive_wr (hR : [(0x200, 0), (0x204, 0), (0x214, 0), (0x270, 0), (0x2A0, 0), (0x2A4, 0), (0x2A8, 0),
    (0x200C, 16), (0x2900, 0), (0x5014, 0), (0x1B070, 0)] ⊆ R) (hh : Wr R zz s) : Wr R zz (State.commitDrive s) := by
  unfold State.commitDrive
  try lift_lets
  repeat' first
    | with_reducible assumption | exact hitSub (by decide) hR
    | (intro s; refine (fun hk : Wr R zz s => ?_) ?_; clear_value s; rotate_left; subst s) | (intro v; try clear_value v)
    | with_reducible apply State.commitChan_wr | with_reducible apply State.firstCommit_wr
    | with_reducible apply State.scanEnd_wr | with_reducible apply State.commitBank_wr
    | with_reducible apply State.budget_wr | with_reducible apply State.mtxHeld_wr
    | with_reducible apply State.latchTable_wr | with_reducible apply Wr.ite | with_reducible (apply Wr.fold; intro _ _ _)
    | fail_if_no_progress (with_reducible refine Wr.upd ?_) | split | lift_lets

theorem State.aspectCommit_wr (hR : [(0x200, 0), (0x204, 0), (0x214, 0), (0x270, 0), (0x2A0, 0), (0x2A4, 0), (0x2A8, 0),
    (0x1600, 4), (0x1700, 0), (0x2008, 16), (0x200C, 16), (0x2900, 0), (0x5014, 0), (0x1B070, 0)] ⊆ R) (hh : Wr R zz s) : Wr
    R zz (State.aspectCommit s) := by
  unfold State.aspectCommit
  try lift_lets
  repeat' first
    | with_reducible assumption | exact hitSub (by decide) hR
    | (intro s; refine (fun hk : Wr R zz s => ?_) ?_; clear_value s; rotate_left; subst s) | (intro (v : Fld); subst v)
    | (intro v; try clear_value v) | with_reducible apply State.endFreeze_wr | with_reducible apply State.refusePattern_wr
    | with_reducible apply State.commitAsp_wr | with_reducible apply State.banksSeen_wr
    | with_reducible apply State.setAsp_wr | with_reducible apply State.commitDrive_wr
    | with_reducible apply State.dawnComplete_wr | with_reducible apply State.duskEnd_wr
    | with_reducible apply State.judgeReady_wr | with_reducible apply Wr.ite | with_reducible (apply Wr.fold; intro _ _ _)
    | fail_if_no_progress (with_reducible refine Wr.upd ?_) | split | lift_lets

theorem State.resolved_wr (hR : [] ⊆ R) (hh : Wr R zz s) : Wr R zz (State.resolved s) := by
  have h := State.resolved_kept (T := [.obs, .res]) (zz := s) (List.Subset.refl _)  (Kept.refl _)
  exact Wr.of_regs (Kept.regs_eq h) hh

theorem State.arrive_wr (hR : [(0x200C, 16)] ⊆ R) (c : Nat) (hh : Wr R zz s) : Wr R zz (State.arrive s c) := by
  unfold State.arrive
  try lift_lets
  repeat' first
    | with_reducible assumption | exact hitSub (by decide) hR
    | (intro s; refine (fun hk : Wr R zz s => ?_) ?_; clear_value s; rotate_left; subst s) | (intro (v : Fld); subst v)
    | (intro v; try clear_value v) | with_reducible apply State.setChan_wr | with_reducible apply State.darkLed_wr
    | with_reducible apply State.unprove_wr | with_reducible apply Wr.ite | split | lift_lets

theorem State.judgeTwilight_wr (hR : [(0x2A8, 0), (0x200C, 16), (0x5014, 0)] ⊆ R) (c : Nat) (clip : Bool) (hh : Wr R zz s) :
    Wr R zz (State.judgeTwilight s c clip) := by
  unfold State.judgeTwilight
  try lift_lets
  repeat' first
    | with_reducible assumption | exact hitSub (by decide) hR
    | (intro s; refine (fun hk : Wr R zz s => ?_) ?_; clear_value s; rotate_left; subst s) | (intro v; try clear_value v)
    | with_reducible apply State.putFlag_wr | with_reducible apply State.logEv_wr
    | with_reducible exact hit_fSUP_CLIP (has2 (by decide) hR) | with_reducible apply Wr.ite

theorem State.clipStep_wr (hR : [(0x2A8, 0), (0x200C, 16), (0x5014, 0)] ⊆ R) (c : Nat) (judged : Option Bool) (gone : Bool)
    (hh : Wr R zz s) : Wr R zz (State.clipStep s c judged gone) := by
  unfold State.clipStep
  try lift_lets
  repeat' first
    | with_reducible assumption | exact hitSub (by decide) hR
    | (intro s; refine (fun hk : Wr R zz s => ?_) ?_; clear_value s; rotate_left; subst s) | (intro v; try clear_value v)
    | with_reducible exact hit_fSUP_CLIP (has2 (by decide) hR) | with_reducible apply State.judgeTwilight_wr
    | with_reducible apply State.putFlag_wr | with_reducible apply Wr.ite | split | lift_lets

theorem State.showGov_wr (hR : [(0x2000, 16)] ⊆ R) (c f : Nat) (hh : Wr R zz s) : Wr R zz (State.showGov s c f) := by
  unfold State.showGov
  try lift_lets
  repeat' first
    | with_reducible assumption | exact hitSub (by decide) hR
    | (intro s; refine (fun hk : Wr R zz s => ?_) ?_; clear_value s; rotate_left; subst s) | (intro v; try clear_value v)
    | with_reducible exact hit_fDRV_F (has2 (by decide) hR) | with_reducible exact hit_fDRV_LIMIT (has2 (by decide) hR)
    | with_reducible apply State.put_wr | with_reducible apply Wr.ite | split | lift_lets

theorem State.showDrive_wr (hR : [(0x2000, 16), (0x2008, 16)] ⊆ R) (c : Nat) (p : PlanOf) (pat : Bool) (on16 : Nat) (hh : Wr
    R zz s) : Wr R zz (State.showDrive s c p pat on16) := by
  unfold State.showDrive
  try lift_lets
  repeat' first
    | with_reducible assumption | exact hitSub (by decide) hR
    | (intro s; refine (fun hk : Wr R zz s => ?_) ?_; clear_value s; rotate_left; subst s) | (intro (v : Fld); subst v)
    | (intro v; try clear_value v) | with_reducible exact hit_fDRV_SCALE (has2 (by decide) hR)
    | with_reducible exact hit_fCDIM_CODE (has2 (by decide) hR) | with_reducible exact hit_fCDIM_MODE (has2 (by decide) hR)
    | with_reducible exact hit_fCDIM_MINCLIP (has2 (by decide) hR)
    | with_reducible exact hit_fCDIM_PAT_ACT (has2 (by decide) hR)
    | with_reducible exact hit_fCDIM_ON16 (has2 (by decide) hR) | with_reducible apply State.showGov_wr
    | with_reducible apply State.put_wr | with_reducible apply State.putFlag_wr | with_reducible apply Wr.ite | split
    | lift_lets

theorem State.litStep_wr (hR : [(0x200C, 16)] ⊆ R) (c : Nat) (was now : Bool) (hh : Wr R zz s) : Wr R zz (State.litStep s c
    was now) := by
  unfold State.litStep
  try lift_lets
  repeat' first
    | with_reducible assumption | exact hitSub (by decide) hR
    | (intro s; refine (fun hk : Wr R zz s => ?_) ?_; clear_value s; rotate_left; subst s) | (intro v; try clear_value v)
    | with_reducible apply State.lifeAcc_wr | with_reducible apply State.unprove_wr | with_reducible apply State.setChan_wr
    | with_reducible apply State.putFlag_wr | with_reducible exact hit_fSUP_LITPROOF (has2 (by decide) hR)
    | with_reducible apply Wr.ite

theorem State.mornTake_wr (hR : [] ⊆ R) (c : Nat) (drop : Bool) (hh : Wr R zz s) : Wr R zz (State.mornTake s c drop) := by
  have h := State.mornTake_kept (T := [.pwr]) (zz := s) (List.Subset.refl _) c drop (Kept.refl _)
  exact Wr.of_regs (Kept.regs_eq h) hh

theorem State.pwmRepeat_wr (hR : [] ⊆ R) (c : Nat) (hh : Wr R zz s) : Wr R zz (State.pwmRepeat s c) := by
  have h := State.pwmRepeat_kept (T := [.chans]) (zz := s) (List.Subset.refl _) c (Kept.refl _)
  exact Wr.of_regs (Kept.regs_eq h) hh

theorem State.pwmStart_wr (hR : [(0x2A8, 0), (0x2000, 16), (0x2008, 16), (0x200C, 16), (0x5014, 0)] ⊆ R) (c : Nat) (hh : Wr R
    zz s) : Wr R zz (State.pwmStart s c) := by
  unfold State.pwmStart
  try lift_lets
  repeat' first
    | with_reducible assumption | exact hitSub (by decide) hR
    | (intro s; refine (fun hk : Wr R zz s => ?_) ?_; clear_value s; rotate_left; subst s) | (intro (v : Fld); subst v)
    | (intro v; try clear_value v) | with_reducible exact hit_fSUP_PROBE (has2 (by decide) hR)
    | with_reducible exact hit_fSUP_UNSUP (has2 (by decide) hR) | with_reducible apply State.pwmRepeat_wr
    | with_reducible apply State.mornTake_wr | with_reducible apply State.litStep_wr
    | with_reducible apply State.setChan_wr | with_reducible apply State.clipStep_wr
    | with_reducible apply State.putFlag_wr | with_reducible apply State.provenLit_wr
    | with_reducible apply State.showDrive_wr | with_reducible apply Wr.ite
    | fail_if_no_progress (with_reducible refine Wr.upd ?_) | split | lift_lets

theorem State.takePend_wr (hR : [] ⊆ R) (c : Nat) (hh : Wr R zz s) : Wr R zz (State.takePend s c) := by
  have h := State.takePend_kept (T := [.chans]) (zz := s) (List.Subset.refl _) c (Kept.refl _)
  exact Wr.of_regs (Kept.regs_eq h) hh

theorem State.frameChan_wr (hR : [(0x2A8, 0), (0x2000, 16), (0x2008, 16), (0x200C, 16), (0x5014, 0)] ⊆ R) (c : Nat) (p :
    PlanOf) (q : ProbeOf) (hh : Wr R zz s) : Wr R zz (State.frameChan s c p q) := by
  unfold State.frameChan
  try lift_lets
  repeat' first
    | with_reducible assumption | exact hitSub (by decide) hR
    | (intro s; refine (fun hk : Wr R zz s => ?_) ?_; clear_value s; rotate_left; subst s) | (intro (v : Fld); subst v)
    | (intro v; try clear_value v) | with_reducible exact hit_fSUP_PROBE (has2 (by decide) hR)
    | with_reducible apply State.litStep_wr | with_reducible apply State.setChan_wr
    | with_reducible apply State.clipStep_wr | with_reducible apply State.putFlag_wr
    | with_reducible apply State.provenLit_wr | with_reducible apply State.showDrive_wr | with_reducible apply Wr.ite
    | split | lift_lets

theorem State.ledRepeat_wr (hR : [] ⊆ R) (e : Nat) (hh : Wr R zz s) : Wr R zz (State.ledRepeat s e) := by
  have h := State.ledRepeat_kept (T := [.chans, .mtx]) (zz := s) (List.Subset.refl _) e (Kept.refl _)
  exact Wr.of_regs (Kept.regs_eq h) hh

theorem State.frameLed_wr (hR : [(0x2A8, 0), (0x2000, 16), (0x2008, 16), (0x200C, 16), (0x5014, 0)] ⊆ R) (e : Nat) (hh : Wr R
    zz s) : Wr R zz (State.frameLed s e) := by
  unfold State.frameLed
  try lift_lets
  repeat' first
    | with_reducible assumption | exact hitSub (by decide) hR
    | (intro s; refine (fun hk : Wr R zz s => ?_) ?_; clear_value s; rotate_left; subst s) | (intro (v : Fld); subst v)
    | (intro v; try clear_value v) | with_reducible apply State.ledRepeat_wr | with_reducible apply State.takePend_wr
    | with_reducible apply State.mornTake_wr | with_reducible apply State.setLed_wr
    | with_reducible apply State.frameChan_wr | with_reducible apply Wr.ite | split | lift_lets

theorem State.frameColumn_wr (hR : [(0x2000, 16), (0x200C, 16)] ⊆ R) (c : Nat) (hh : Wr R zz s) : Wr R zz (State.frameColumn
    s c) := by
  unfold State.frameColumn
  try lift_lets
  repeat' first
    | with_reducible assumption | exact hitSub (by decide) hR
    | (intro s; refine (fun hk : Wr R zz s => ?_) ?_; clear_value s; rotate_left; subst s) | (intro v; try clear_value v)
    | with_reducible exact hit_fSUP_UNSUP (has2 (by decide) hR) | with_reducible apply State.setChan_wr
    | with_reducible apply State.showGov_wr | with_reducible apply State.putFlag_wr | with_reducible apply Wr.ite | split
    | lift_lets

theorem State.frameStart_wr (hR : [(0x204, 0), (0x2A8, 0), (0x2000, 16), (0x2008, 16), (0x200C, 16), (0x2900, 0), (0x5014,
    0)] ⊆ R) (hh : Wr R zz s) : Wr R zz (State.frameStart s) := by
  unfold State.frameStart
  try lift_lets
  repeat' first
    | with_reducible assumption | exact hitSub (by decide) hR
    | (intro s; refine (fun hk : Wr R zz s => ?_) ?_; clear_value s; rotate_left; subst s) | (intro v; try clear_value v)
    | with_reducible exact hit_fMTX_RUN (has2 (by decide) hR) | with_reducible apply State.scanEnd_wr
    | with_reducible apply State.putFlag_wr | with_reducible apply State.frameLed_wr
    | with_reducible apply State.frameColumn_wr | with_reducible apply Wr.ite | with_reducible (apply Wr.fold; intro _ _ _)
    | fail_if_no_progress (with_reducible refine Wr.upd ?_) | split | lift_lets

theorem State.lineClose_wr (hR : [(0x204, 0)] ⊆ R) (n : Nat) (hh : Wr R zz s) : Wr R zz (State.lineClose s n) := by
  unfold State.lineClose
  repeat' first
    | with_reducible assumption | exact hitSub (by decide) hR | with_reducible exact hit_fBANK_STRAY (has2 (by decide) hR)
    | with_reducible exact hit_fBANK_OC (has2 (by decide) hR) | with_reducible exact hit_fBANK_CLOSED (has2 (by decide) hR)
    | with_reducible apply State.setBank_wr | with_reducible apply State.putFlag_wr | with_reducible apply Wr.ite | split

theorem State.slotScales_wr (hR : [(0x2000, 16)] ⊆ R) (k : Nat) (hh : Wr R zz s) : Wr R zz (State.slotScales s k) := by
  unfold State.slotScales
  try lift_lets
  repeat' first
    | with_reducible assumption | exact hitSub (by decide) hR
    | (intro s; refine (fun hk : Wr R zz s => ?_) ?_; clear_value s; rotate_left; subst s) | (intro v; try clear_value v)
    | with_reducible exact hit_fDRV_SCALE (has2 (by decide) hR) | with_reducible apply State.put_wr
    | with_reducible apply Wr.ite | with_reducible (apply Wr.fold; intro _ _ _) | split | lift_lets

theorem State.slotStart_wr (hR : [(0x204, 0), (0x2000, 16), (0x2900, 0)] ⊆ R) (hh : Wr R zz s) : Wr R zz (State.slotStart s)
    := by
  unfold State.slotStart
  try lift_lets
  repeat' first
    | with_reducible assumption | exact hitSub (by decide) hR
    | (intro s; refine (fun hk : Wr R zz s => ?_) ?_; clear_value s; rotate_left; subst s) | (intro (v : Fld); subst v)
    | (intro v; try clear_value v) | with_reducible apply State.scanEnd_wr | with_reducible apply State.bankOpen_wr
    | with_reducible apply State.slotScales_wr | with_reducible apply State.lineClose_wr | with_reducible apply Wr.ite
    | with_reducible (apply Wr.fold; intro _ _ _) | fail_if_no_progress (with_reducible refine Wr.upd ?_) | split
    | lift_lets

theorem State.seedTemp_wr (hR : [] ⊆ R) (c : Nat) (hh : Wr R zz s) : Wr R zz (State.seedTemp s c) := by
  have h := State.seedTemp_kept (T := [.chans]) (zz := s) (List.Subset.refl _) c (Kept.refl _)
  exact Wr.of_regs (Kept.regs_eq h) hh

theorem State.moveTemp_wr (hR : [] ⊆ R) (c : Nat) (ws : List Nat) (hh : Wr R zz s) : Wr R zz (State.moveTemp s c ws) := by
  have h := State.moveTemp_kept (T := [.chans]) (zz := s) (List.Subset.refl _) c ws (Kept.refl _)
  exact Wr.of_regs (Kept.regs_eq h) hh

theorem State.strayCommand_wr (hR : [(0x204, 0), (0x274, 0), (0x2A8, 0), (0x2900, 0), (0x5014, 0)] ⊆ R) (n : Nat) (hh : Wr R
    zz s) : Wr R zz (State.strayCommand s n) := by
  unfold State.strayCommand
  repeat' first
    | with_reducible assumption | exact hitSub (by decide) hR | with_reducible apply State.setBank_wr
    | with_reducible apply State.strayOpen_wr | with_reducible apply Wr.ite

theorem State.confirm_wr (hR : [(0x204, 0), (0x270, 0), (0x274, 0), (0x2A0, 0), (0x2A4, 0), (0x2A8, 0), (0x200C, 16),
    (0x2900, 0), (0x5014, 0), (0x1B070, 0)] ⊆ R) (c k : Nat) (w1 w2 : List Nat) (temp : Int) (at_ : Stamp) (hh : Wr R zz s) :
    Wr R zz (State.confirm s c k w1 w2 temp at_) := by
  unfold State.confirm
  try lift_lets
  repeat' first
    | with_reducible assumption | exact hitSub (by decide) hR
    | (intro s; refine (fun hk : Wr R zz s => ?_) ?_; clear_value s; rotate_left; subst s) | (intro (v : Fld); subst v)
    | (intro v; try clear_value v) | with_reducible exact hit_fSUP_NLED_EFF (has2 (by decide) hR)
    | with_reducible exact hit_fSUP_LATCH (has2 (by decide) hR)
    | with_reducible exact hit_fSUP_LITPROOF (has2 (by decide) hR)
    | with_reducible exact hit_fSUP_RAIL_CAUSE (has2 (by decide) hR) | with_reducible apply State.put_wr
    | with_reducible apply State.putFlag_wr | with_reducible apply State.reprove_wr
    | with_reducible apply State.cutPulse_wr | with_reducible apply State.strayCommand_wr
    | with_reducible apply State.logStamp_wr | with_reducible apply State.raise_wr | with_reducible apply State.fltSet_wr
    | with_reducible apply State.duskExit_wr | with_reducible apply Wr.ite | split | lift_lets

theorem State.unlatch_wr (hR : [(0x270, 0), (0x2A0, 0), (0x2A4, 0), (0x200C, 16), (0x1B070, 0)] ⊆ R) (c k : Nat) (hh : Wr R
    zz s) : Wr R zz (State.unlatch s c k) := by
  unfold State.unlatch
  try lift_lets
  repeat' first
    | with_reducible assumption | exact hitSub (by decide) hR
    | (intro s; refine (fun hk : Wr R zz s => ?_) ?_; clear_value s; rotate_left; subst s) | (intro (v : Fld); subst v)
    | (intro v; try clear_value v) | with_reducible exact hit_fSUP_LATCH (has2 (by decide) hR)
    | with_reducible exact hit_fSUP_RAIL_CAUSE (has2 (by decide) hR)
    | with_reducible exact hit_fSUP_TSD_CAUSE (has2 (by decide) hR)
    | with_reducible exact hit_fSUP_NLED_EFF (has2 (by decide) hR) | with_reducible apply State.putFlag_wr
    | with_reducible apply State.setChan_wr | with_reducible apply State.put_wr | with_reducible apply State.lampGroup_wr
    | with_reducible apply Wr.ite | split | lift_lets

theorem State.coolStep_wr (hR : [] ⊆ R) (c : Nat) (hh : Wr R zz s) : Wr R zz (State.coolStep s c) := by
  have h := State.coolStep_kept (T := [.chans]) (zz := s) (List.Subset.refl _) c (Kept.refl _)
  exact Wr.of_regs (Kept.regs_eq h) hh

theorem State.evalHot_wr (hR : [(0x204, 0), (0x270, 0), (0x274, 0), (0x2A0, 0), (0x2A4, 0), (0x2A8, 0), (0x200C, 16),
    (0x2900, 0), (0x5014, 0), (0x1B070, 0)] ⊆ R) (c : Nat) (at_ : Stamp) (hh : Wr R zz s) : Wr R zz (State.evalHot s c at_)
    := by
  unfold State.evalHot
  try lift_lets
  repeat' first
    | with_reducible assumption | exact hitSub (by decide) hR
    | (intro s; refine (fun hk : Wr R zz s => ?_) ?_; clear_value s; rotate_left; subst s) | (intro v; try clear_value v)
    | with_reducible apply State.coolStep_wr | with_reducible apply State.setChan_wr
    | with_reducible apply State.confirm_wr | with_reducible apply Wr.ite | split | lift_lets

theorem State.sigCopy_wr (hR : [] ⊆ R) (c : Nat) (hh : Wr R zz s) : Wr R zz (State.sigCopy s c) := by
  have h := State.sigCopy_kept (T := [.mem]) (zz := s) (List.Subset.refl _) c (Kept.refl _)
  exact Wr.of_regs (Kept.regs_eq h) hh

theorem State.learnDone_wr (hR : [(0x270, 0), (0x2A0, 0), (0x2A4, 0), (0x2A8, 0), (0x200C, 16), (0x5014, 0), (0x14000, 4),
    (0x1B070, 0)] ⊆ R) (c : Nat) (v : List Int) (hh : Wr R zz s) : Wr R zz (State.learnDone s c v) := by
  unfold State.learnDone
  try lift_lets
  repeat' first
    | with_reducible assumption | exact hitSub (by decide) hR
    | (intro s; refine (fun hk : Wr R zz s => ?_) ?_; clear_value s; rotate_left; subst s) | (intro v; try clear_value v)
    | with_reducible apply State.setChan_wr | with_reducible apply State.wr_wr | with_reducible apply State.unlatch_wr
    | with_reducible apply State.memWrite_wr | with_reducible apply State.putFlag_wr | with_reducible apply State.logEv_wr
    | with_reducible apply State.sigCopy_wr | with_reducible apply State.put_wr
    | with_reducible exact hit_aSUP_SIG (has2 (by decide) hR) | with_reducible exact hit_fSIG_VHI (has2 (by decide) hR)
    | with_reducible exact hit_fSUP_NLED_EFF (has2 (by decide) hR)
    | with_reducible exact hit_fSUP_SIG_LEARNT (has2 (by decide) hR) | with_reducible apply Wr.ite

theorem State.learnSample_wr (hR : [(0x270, 0), (0x2A0, 0), (0x2A4, 0), (0x2A8, 0), (0x200C, 16), (0x5014, 0), (0x14000, 4),
    (0x1B070, 0)] ⊆ R) (c : Nat) (agree : Bool) (vf : Int) (hh : Wr R zz s) : Wr R zz (State.learnSample s c agree vf) := by
  unfold State.learnSample
  try lift_lets
  repeat' first
    | with_reducible assumption | exact hitSub (by decide) hR
    | (intro s; refine (fun hk : Wr R zz s => ?_) ?_; clear_value s; rotate_left; subst s) | (intro v; try clear_value v)
    | with_reducible apply State.setChan_wr | with_reducible apply State.learnDone_wr | with_reducible apply Wr.ite

theorem State.showSuspect_wr (hR : [(0x200C, 16)] ⊆ R) (c : Nat) (hh : Wr R zz s) : Wr R zz (State.showSuspect s c) := by
  unfold State.showSuspect
  repeat' first
    | with_reducible assumption | exact hitSub (by decide) hR | with_reducible apply State.putFlag_wr
    | with_reducible exact hit_fSUP_SUSPECT (has2 (by decide) hR)

theorem State.earlyProbe_wr (hR : [] ⊆ R) (c : Nat) (probe : Bool) (hh : Wr R zz s) : Wr R zz (State.earlyProbe s c probe) :=
    by
  have h := State.earlyProbe_kept (T := [.chans]) (zz := s) (List.Subset.refl _) c probe (Kept.refl _)
  exact Wr.of_regs (Kept.regs_eq h) hh

theorem State.onSample_wr (hR : [(0x204, 0), (0x270, 0), (0x274, 0), (0x2A0, 0), (0x2A4, 0), (0x2A8, 0), (0x200C, 16),
    (0x2900, 0), (0x5014, 0), (0x1B070, 0)] ⊆ R) (c k tick : Nat) (at_ : Stamp) (ws : List Nat) (probe morn : Bool) (hh : Wr
    R zz s) : Wr R zz (State.onSample s c k tick at_ ws probe morn) := by
  unfold State.onSample
  try lift_lets
  repeat' first
    | with_reducible assumption | exact hitSub (by decide) hR
    | (intro s; refine (fun hk : Wr R zz s => ?_) ?_; clear_value s; rotate_left; subst s) | (intro (v : Fld); subst v)
    | (intro v; try clear_value v) | with_reducible exact hit_fSUP_RAIL_CAUSE (has2 (by decide) hR)
    | with_reducible apply State.setChan_wr | with_reducible apply State.showSuspect_wr
    | with_reducible apply State.confirm_wr | with_reducible apply State.unlatch_wr
    | with_reducible apply State.provenLit_wr | with_reducible apply State.earlyProbe_wr | with_reducible apply Wr.ite
    | fail_if_no_progress (with_reducible refine Wr.upd ?_) | split | lift_lets

theorem State.offSample_wr (hR : [(0x204, 0), (0x270, 0), (0x274, 0), (0x2A0, 0), (0x2A4, 0), (0x2A8, 0), (0x200C, 16),
    (0x2900, 0), (0x5014, 0), (0x1B070, 0)] ⊆ R) (c k tick : Nat) (at_ : Stamp) (ws : List Nat) (lit : Bool) (hh : Wr R zz s)
    : Wr R zz (State.offSample s c k tick at_ ws lit) := by
  unfold State.offSample
  try lift_lets
  repeat' first
    | with_reducible assumption | exact hitSub (by decide) hR
    | (intro s; refine (fun hk : Wr R zz s => ?_) ?_; clear_value s; rotate_left; subst s) | (intro (v : Fld); subst v)
    | (intro v; try clear_value v) | with_reducible exact hit_fSUP_PROOF (has2 (by decide) hR)
    | with_reducible apply State.setChan_wr | with_reducible apply State.showSuspect_wr
    | with_reducible apply State.confirm_wr | with_reducible apply State.put_wr | with_reducible apply Wr.ite | split
    | lift_lets

theorem State.classOn_wr (hR : [(0x204, 0), (0x270, 0), (0x274, 0), (0x2A0, 0), (0x2A4, 0), (0x2A8, 0), (0x2004, 16),
    (0x200C, 16), (0x2900, 0), (0x5014, 0), (0x14000, 4), (0x1B070, 0)] ⊆ R) (h : Hold) (ws : List Nat) (hh : Wr R zz s) : Wr
    R zz (State.classOn s h ws) := by
  unfold State.classOn
  try lift_lets
  repeat' first
    | with_reducible assumption | exact hitSub (by decide) hR
    | (intro s; refine (fun hk : Wr R zz s => ?_) ?_; clear_value s; rotate_left; subst s) | (intro (v : Fld); subst v)
    | (intro v; try clear_value v) | with_reducible exact hit_fNEED_VCH (has2 (by decide) hR)
    | with_reducible apply State.seedTemp_wr | with_reducible apply State.setChan_wr | with_reducible apply State.put_wr
    | with_reducible apply State.onSample_wr | with_reducible apply State.learnSample_wr
    | with_reducible apply State.moveTemp_wr | with_reducible apply State.evalHot_wr
    | with_reducible apply State.showTemp_wr | with_reducible apply Wr.ite | split | lift_lets

theorem State.bankClosed_wr (hR : [(0x204, 0), (0x270, 0), (0x2A0, 0), (0x2A4, 0), (0x2900, 0), (0x1B070, 0)] ⊆ R) (n : Nat)
    (hh : Wr R zz s) : Wr R zz (State.bankClosed s n) := by
  unfold State.bankClosed
  try lift_lets
  repeat' first
    | with_reducible assumption | exact hitSub (by decide) hR
    | (intro s; refine (fun hk : Wr R zz s => ?_) ?_; clear_value s; rotate_left; subst s) | (intro v; try clear_value v)
    | with_reducible exact hit_fBANK_CLOSED (has2 (by decide) hR) | with_reducible exact hit_fBANK_OC (has2 (by decide) hR)
    | with_reducible apply State.setBank_wr | with_reducible apply State.putFlag_wr | with_reducible apply State.mtxHeld_wr
    | with_reducible apply State.bankGroup_wr | with_reducible apply Wr.ite | split | lift_lets

theorem State.classOff_wr (hR : [(0x204, 0), (0x270, 0), (0x274, 0), (0x2A0, 0), (0x2A4, 0), (0x2A8, 0), (0x200C, 16),
    (0x2900, 0), (0x5014, 0), (0x1B070, 0)] ⊆ R) (h : Hold) (ws : List Nat) (hh : Wr R zz s) : Wr R zz (State.classOff s h
    ws) := by
  unfold State.classOff
  try lift_lets
  repeat' first
    | with_reducible assumption | exact hitSub (by decide) hR
    | (intro s; refine (fun hk : Wr R zz s => ?_) ?_; clear_value s; rotate_left; subst s) | (intro v; try clear_value v)
    | with_reducible apply State.bankClosed_wr | with_reducible apply State.offSample_wr | with_reducible apply Wr.ite
    | split | lift_lets

theorem State.ledConfirm_wr (hR : [(0x204, 0), (0x270, 0), (0x274, 0), (0x2A0, 0), (0x2A4, 0), (0x2A8, 0), (0x2800, 4),
    (0x2880, 4), (0x2900, 0), (0x5014, 0), (0x1B070, 0)] ⊆ R) (e k : Nat) (w1 w2 : List Nat) (at_ : Stamp) (hh : Wr R zz s) :
    Wr R zz (State.ledConfirm s e k w1 w2 at_) := by
  unfold State.ledConfirm
  try lift_lets
  repeat' first
    | with_reducible assumption | exact hitSub (by decide) hR
    | (intro s; refine (fun hk : Wr R zz s => ?_) ?_; clear_value s; rotate_left; subst s) | (intro (v : Fld); subst v)
    | (intro v; try clear_value v) | with_reducible exact hit_fMTX_STRAY (has2 (by decide) hR)
    | with_reducible exact hit_fMTX_DARK (has2 (by decide) hR) | with_reducible apply State.putFlag_wr
    | with_reducible apply State.strayCommand_wr | with_reducible apply State.logStamp_wr
    | with_reducible apply State.raise_wr | with_reducible apply State.fltSet_wr | with_reducible apply Wr.ite | split
    | lift_lets

theorem State.classLed_wr (hR : [(0x204, 0), (0x270, 0), (0x274, 0), (0x2A0, 0), (0x2A4, 0), (0x2A8, 0), (0x2004, 16),
    (0x200C, 16), (0x2800, 4), (0x2880, 4), (0x2900, 0), (0x5014, 0), (0x1B070, 0)] ⊆ R) (h : Hold) (e : Nat) (ws : List Nat)
    (hh : Wr R zz s) : Wr R zz (State.classLed s h e ws) := by
  unfold State.classLed
  try lift_lets
  repeat' first
    | with_reducible assumption | exact hitSub (by decide) hR
    | (intro s; refine (fun hk : Wr R zz s => ?_) ?_; clear_value s; rotate_left; subst s) | (intro (v : Fld); subst v)
    | (intro v; try clear_value v) | with_reducible exact hit_fNEED_VCH (has2 (by decide) hR)
    | with_reducible exact hit_fSUP_SUSPECT (has2 (by decide) hR)
    | with_reducible exact hit_fSUP_RAIL_CAUSE (has2 (by decide) hR)
    | with_reducible exact hit_fMTX_DARK (has2 (by decide) hR) | with_reducible exact hit_fSUP_PROOF (has2 (by decide) hR)
    | with_reducible apply State.bankClosed_wr | with_reducible apply State.setLed_wr
    | with_reducible apply State.setChan_wr | with_reducible apply State.put_wr | with_reducible apply State.confirm_wr
    | with_reducible apply State.ledConfirm_wr | with_reducible apply State.putFlag_wr
    | with_reducible apply State.unlatch_wr | with_reducible apply State.provenLit_wr
    | with_reducible apply State.lampGroup_wr | with_reducible apply Wr.ite
    | fail_if_no_progress (with_reducible refine Wr.upd ?_) | split | lift_lets

theorem State.setAside_wr (hR : [] ⊆ R) (h : Hold) (hh : Wr R zz s) : Wr R zz (State.setAside s h) := by
  have h := State.setAside_kept (T := [.chans, .mtx]) (zz := s) (List.Subset.refl _) h (Kept.refl _)
  exact Wr.of_regs (Kept.regs_eq h) hh

theorem State.supSample_wr (hR : [(0x204, 0), (0x270, 0), (0x274, 0), (0x2A0, 0), (0x2A4, 0), (0x2A8, 0), (0x2004, 16),
    (0x200C, 16), (0x2800, 4), (0x2880, 4), (0x2900, 0), (0x5014, 0), (0x14000, 4), (0x1B070, 0)] ⊆ R) (h : Hold) (hh : Wr R
    zz s) : Wr R zz (State.supSample s h) := by
  unfold State.supSample
  try lift_lets
  repeat' first
    | with_reducible assumption | exact hitSub (by decide) hR
    | (intro s; refine (fun hk : Wr R zz s => ?_) ?_; clear_value s; rotate_left; subst s) | (intro v; try clear_value v)
    | with_reducible apply State.setAside_wr | with_reducible apply State.classLed_wr
    | with_reducible apply State.classOn_wr | with_reducible apply State.classOff_wr | with_reducible apply Wr.ite | split
    | lift_lets

theorem State.cmpSample_wr (hR : [(0x204, 0), (0x270, 0), (0x274, 0), (0x2A0, 0), (0x2A4, 0), (0x2A8, 0), (0x200C, 16),
    (0x2900, 0), (0x5014, 0), (0x1B070, 0)] ⊆ R) (c : Nat) (on lit aside failing : Bool) (hh : Wr R zz s) : Wr R zz
    (State.cmpSample s c on lit aside failing) := by
  unfold State.cmpSample
  repeat' first
    | with_reducible assumption | exact hitSub (by decide) hR | with_reducible apply State.onSample_wr
    | with_reducible apply State.offSample_wr | with_reducible apply Wr.ite | split

theorem State.fltClrChan_wr (hR : [(0x270, 0), (0x2A0, 0), (0x2A4, 0), (0x200C, 16), (0x1B070, 0)] ⊆ R) (mask c : Nat) (hh :
    Wr R zz s) : Wr R zz (State.fltClrChan s mask c) := by
  unfold State.fltClrChan
  try lift_lets
  repeat' first
    | with_reducible assumption | exact hitSub (by decide) hR
    | (intro s; refine (fun hk : Wr R zz s => ?_) ?_; clear_value s; rotate_left; subst s) | (intro v; try clear_value v)
    | with_reducible apply State.unprove_wr | with_reducible apply State.putFlag_wr | with_reducible apply State.unlatch_wr
    | with_reducible exact hit_fSUP_LITPROOF (has2 (by decide) hR)
    | with_reducible exact hit_fSUP_TSD_CAUSE (has2 (by decide) hR) | with_reducible apply Wr.ite
    | with_reducible (apply Wr.fold; intro _ _ _)

theorem State.supFltClr_wr (hR : [(0x270, 0), (0x2A0, 0), (0x2A4, 0), (0x200C, 16), (0x1B070, 0)] ⊆ R) (w : Nat) (hh : Wr R
    zz s) : Wr R zz (State.supFltClr s w) := by
  unfold State.supFltClr
  try lift_lets
  repeat' first
    | with_reducible assumption | exact hitSub (by decide) hR | (intro v; try clear_value v)
    | with_reducible apply State.fltClrChan_wr | with_reducible apply Wr.ite | with_reducible (apply Wr.fold; intro _ _ _)

theorem State.forgetSig_wr (hR : [(0x200C, 16), (0x14000, 4)] ⊆ R) (c : Nat) (hh : Wr R zz s) : Wr R zz (State.forgetSig s c)
    := by
  unfold State.forgetSig
  try lift_lets
  repeat' first
    | with_reducible assumption | exact hitSub (by decide) hR
    | (intro s; refine (fun hk : Wr R zz s => ?_) ?_; clear_value s; rotate_left; subst s) | (intro v; try clear_value v)
    | with_reducible apply State.sigCopy_wr | with_reducible apply State.setChan_wr | with_reducible apply State.wr_wr
    | with_reducible apply State.putFlag_wr | with_reducible apply State.put_wr
    | with_reducible exact hit_aSUP_SIG (has2 (by decide) hR) | with_reducible exact hit_fSUP_NLED_EFF (has2 (by decide) hR)
    | with_reducible exact hit_fSUP_SIG_LEARNT (has2 (by decide) hR)

theorem State.sigCmd_wr (hR : [(0x200C, 16), (0x14000, 4)] ⊆ R) (w : Nat) (hh : Wr R zz s) : Wr R zz (State.sigCmd s w) := by
  unfold State.sigCmd
  repeat' first
    | with_reducible assumption | exact hitSub (by decide) hR | with_reducible apply State.forgetSig_wr
    | with_reducible apply Wr.ite | with_reducible (apply Wr.fold; intro _ _ _)

theorem State.mtxClear_wr (hR : [(0x270, 0), (0x2A0, 0), (0x2A4, 0), (0x2800, 4), (0x2880, 4), (0x1B070, 0)] ⊆ R) (w : Nat)
    (stray : Bool) (hh : Wr R zz s) : Wr R zz (State.mtxClear s w stray) := by
  have hf : ∀ e, hits R (if stray then fMTX_STRAY e else fMTX_DARK e).addr = true := fun e => by
    split
    · exact hit_fMTX_STRAY (has2 (by decide) hR)
    · exact hit_fMTX_DARK (has2 (by decide) hR)
  unfold State.mtxClear
  refine State.lampGroup_wr (hitSub (by decide) hR) ?_
  exact Wr.ite (Wr.fold (fun _ _ ht => State.putFlag_wr (hf _) ht) hh) (State.putFlag_wr (hf _) hh)

theorem State.boostGroup_wr (hR : [(0x270, 0), (0x2A0, 0), (0x2A4, 0), (0x1B070, 0)] ⊆ R) (cls : Nat) (hh : Wr R zz s) : Wr R
    zz (State.boostGroup s cls) := by
  unfold State.boostGroup
  repeat' first
    | with_reducible assumption | exact hitSub (by decide) hR | with_reducible apply State.fltFollow_wr

theorem State.dutyHold_wr (hR : [(0x100, 0), (0x200, 0), (0x270, 0), (0x2A0, 0), (0x2A4, 0), (0x1B070, 0)] ⊆ R) (cls : Nat)
    (hh : Wr R zz s) : Wr R zz (State.dutyHold s cls) := by
  unfold State.dutyHold
  try lift_lets
  repeat' first
    | with_reducible assumption | exact hitSub (by decide) hR
    | (intro s; refine (fun hk : Wr R zz s => ?_) ?_; clear_value s; rotate_left; subst s) | (intro v; try clear_value v)
    | with_reducible apply State.putFlag_wr | with_reducible apply State.put_wr | with_reducible apply State.boostGroup_wr
    | with_reducible exact hit_fBST_MODE (has2 (by decide) hR)
    | with_reducible exact hit_fGRID_DLM_HOLD (has2 (by decide) hR) | with_reducible apply Wr.ite
    | fail_if_no_progress (with_reducible refine Wr.upd ?_)

theorem State.thermalGroup_wr (hR : [(0x270, 0), (0x2A0, 0), (0x2A4, 0), (0x1B070, 0)] ⊆ R) (cls : Nat) (hh : Wr R zz s) : Wr
    R zz (State.thermalGroup s cls) := by
  unfold State.thermalGroup
  repeat' first
    | with_reducible assumption | exact hitSub (by decide) hR | with_reducible apply State.fltFollow_wr

theorem State.bankOC_wr (hR : [(0x204, 0), (0x270, 0), (0x2A0, 0), (0x2A4, 0), (0x2A8, 0), (0x2900, 0), (0x5014, 0),
    (0x1B070, 0)] ⊆ R) (n : Nat) (hh : Wr R zz s) : Wr R zz (State.bankOC s n) := by
  unfold State.bankOC
  try lift_lets
  repeat' first
    | with_reducible assumption | exact hitSub (by decide) hR
    | (intro s; refine (fun hk : Wr R zz s => ?_) ?_; clear_value s; rotate_left; subst s) | (intro v; try clear_value v)
    | with_reducible apply State.raise_wr | with_reducible apply State.bankOpen_wr | with_reducible apply State.putFlag_wr
    | with_reducible apply State.mtxHeld_wr | with_reducible apply State.logEv_wr | with_reducible apply State.setBank_wr
    | with_reducible apply State.fltSet_wr | with_reducible exact hit_fBANK_OC (has2 (by decide) hR)

theorem State.bankRetry_wr (hR : [(0x204, 0), (0x214, 0), (0x270, 0), (0x2A0, 0), (0x2A4, 0), (0x2900, 0), (0x1B070, 0)] ⊆ R)
    (n : Nat) (hh : Wr R zz s) : Wr R zz (State.bankRetry s n) := by
  unfold State.bankRetry
  try lift_lets
  repeat' first
    | with_reducible assumption | exact hitSub (by decide) hR
    | (intro s; refine (fun hk : Wr R zz s => ?_) ?_; clear_value s; rotate_left; subst s) | (intro v; try clear_value v)
    | with_reducible exact hit_fBANK_STRAY (has2 (by decide) hR)
    | with_reducible exact hit_aDEV_BANK_RETRY (has2 (by decide) hR)
    | with_reducible exact hit_fBANK_OC (has2 (by decide) hR) | with_reducible apply State.setBank_wr
    | with_reducible apply State.bump_wr | with_reducible apply State.putFlag_wr | with_reducible apply State.mtxHeld_wr
    | with_reducible apply State.bankGroup_wr | with_reducible apply State.bankClose_wr | with_reducible apply Wr.ite
    | split | lift_lets

theorem State.bankStuck_wr (hR : [(0x204, 0), (0x270, 0), (0x2A0, 0), (0x2A4, 0), (0x2A8, 0), (0x5014, 0), (0x1B070, 0)] ⊆ R)
    (n : Nat) (hh : Wr R zz s) : Wr R zz (State.bankStuck s n) := by
  unfold State.bankStuck
  repeat' first
    | with_reducible assumption | exact hitSub (by decide) hR | with_reducible apply State.raise_wr
    | with_reducible apply State.putFlag_wr | with_reducible apply State.logEv_wr | with_reducible apply State.fltSet_wr
    | with_reducible exact hit_fBANK_STUCK (has2 (by decide) hR) | with_reducible apply Wr.ite

theorem State.mornReadback_wr (hR : [(0x204, 0), (0x270, 0), (0x274, 0), (0x2A0, 0), (0x2A4, 0), (0x2A8, 0), (0x5014, 0),
    (0x1B070, 0)] ⊆ R) (n : Nat) (low : Bool) (hh : Wr R zz s) : Wr R zz (State.mornReadback s n low) := by
  unfold State.mornReadback
  try lift_lets
  repeat' first
    | with_reducible assumption | exact hitSub (by decide) hR
    | (intro s; refine (fun hk : Wr R zz s => ?_) ?_; clear_value s; rotate_left; subst s) | (intro (v : Fld); subst v)
    | (intro v; try clear_value v) | with_reducible exact hit_fBANK_STUCK (has2 (by decide) hR)
    | with_reducible exact hit_fMORN_BANKFAIL (has2 (by decide) hR)
    | with_reducible exact hit_fBANK_STRAY (has2 (by decide) hR) | with_reducible exact hit_fBANK_OC (has2 (by decide) hR)
    | with_reducible apply State.putFlag_wr | with_reducible apply State.bankGroup_wr | with_reducible apply State.put_wr
    | with_reducible apply State.bankStuck_wr | with_reducible apply State.bankClose_wr
    | with_reducible apply State.mornEnd_wr | with_reducible apply Wr.ite
    | fail_if_no_progress (with_reducible refine Wr.upd ?_) | split | lift_lets

theorem State.bankReadback_wr (hR : [(0x204, 0), (0x270, 0), (0x274, 0), (0x2A0, 0), (0x2A4, 0), (0x2A8, 0), (0x5014, 0),
    (0x1B070, 0)] ⊆ R) (n : Nat) (low : Bool) (hh : Wr R zz s) : Wr R zz (State.bankReadback s n low) := by
  unfold State.bankReadback
  repeat' first
    | with_reducible assumption | exact hitSub (by decide) hR | with_reducible apply State.mornReadback_wr
    | with_reducible apply State.bankStuck_wr | with_reducible apply Wr.ite | split

theorem State.tsdChan_wr (hR : [(0x200C, 16)] ⊆ R) (c : Nat) (hh : Wr R zz s) : Wr R zz (State.tsdChan s c) := by
  unfold State.tsdChan
  try lift_lets
  repeat' first
    | with_reducible assumption | exact hitSub (by decide) hR
    | (intro s; refine (fun hk : Wr R zz s => ?_) ?_; clear_value s; rotate_left; subst s) | (intro v; try clear_value v)
    | with_reducible exact hit_fSUP_LATCH (has2 (by decide) hR)
    | with_reducible exact hit_fSUP_TSD_CAUSE (has2 (by decide) hR) | with_reducible apply State.litStep_wr
    | with_reducible apply State.setChan_wr | with_reducible apply State.putFlag_wr | with_reducible apply Wr.ite | split
    | lift_lets

theorem State.thermalShutdown_wr (hR : [(0x208, 0), (0x270, 0), (0x2A0, 0), (0x2A4, 0), (0x2A8, 0), (0x200C, 16), (0x5014,
    0), (0x1B070, 0)] ⊆ R) (hh : Wr R zz s) : Wr R zz (State.thermalShutdown s) := by
  unfold State.thermalShutdown
  try lift_lets
  repeat' first
    | with_reducible assumption | exact hitSub (by decide) hR
    | (intro s; refine (fun hk : Wr R zz s => ?_) ?_; clear_value s; rotate_left; subst s) | (intro v; try clear_value v)
    | with_reducible exact hit_fPWR_TSD (has2 (by decide) hR) | with_reducible apply State.putFlag_wr
    | with_reducible apply State.tsdChan_wr | with_reducible apply State.ledsDark_wr | with_reducible apply State.logEv_wr
    | with_reducible apply State.raise_wr | with_reducible apply State.thermalGroup_wr
    | with_reducible apply State.lampGroup_wr | with_reducible apply State.duskExit_wr | with_reducible apply Wr.ite
    | with_reducible (apply Wr.fold; intro _ _ _) | fail_if_no_progress (with_reducible refine Wr.upd ?_) | split
    | lift_lets

theorem State.thermalExit_wr (hR : [(0x208, 0), (0x270, 0), (0x2A0, 0), (0x2A4, 0), (0x200C, 16), (0x1B070, 0)] ⊆ R) (hh : Wr
    R zz s) : Wr R zz (State.thermalExit s) := by
  unfold State.thermalExit
  try lift_lets
  repeat' first
    | with_reducible assumption | exact hitSub (by decide) hR
    | (intro s; refine (fun hk : Wr R zz s => ?_) ?_; clear_value s; rotate_left; subst s)
    | with_reducible apply State.putFlag_wr | with_reducible apply State.thermalGroup_wr
    | with_reducible apply State.unlatch_wr | with_reducible exact hit_fPWR_TSD (has2 (by decide) hR)
    | with_reducible exact hit_fSUP_TSD_CAUSE (has2 (by decide) hR) | with_reducible apply Wr.ite
    | with_reducible (apply Wr.fold; intro _ _ _)

theorem State.boostPass_wr (hR : [(0x200, 0)] ⊆ R) (hh : Wr R zz s) : Wr R zz (State.boostPass s) := by
  unfold State.boostPass
  repeat' first
    | with_reducible assumption | exact hitSub (by decide) hR | with_reducible exact hit_fBST_MODE (has2 (by decide) hR)
    | with_reducible apply State.put_wr | with_reducible apply Wr.ite | split

theorem State.needs_wr (hR : [(0x200, 0), (0x2A8, 0), (0x2000, 16), (0x2004, 16), (0x5014, 0)] ⊆ R) (hh : Wr R zz s) : Wr R
    zz (State.needs s) := by
  unfold State.needs
  try lift_lets
  repeat' first
    | with_reducible assumption | exact hitSub (by decide) hR
    | (intro s; refine (fun hk : Wr R zz s => ?_) ?_; clear_value s; rotate_left; subst s) | (intro (v : Fld); subst v)
    | (intro v; try clear_value v) | with_reducible exact hit_fNW_FROZEN (has2 (by decide) hR)
    | with_reducible exact hit_fBST_HEADROOM (has2 (by decide) hR) | with_reducible exact hit_fNEED (has2 (by decide) hR)
    | with_reducible exact hit_fDRV_STARVED (has2 (by decide) hR)
    | with_reducible exact hit_fDRV_HEADROOM (has2 (by decide) hR)
    | with_reducible exact hit_fBST_TGT (has2 (by decide) hR) | with_reducible apply State.put_wr
    | with_reducible apply State.putFlag_wr | with_reducible apply State.logEv_wr | with_reducible apply State.boostPass_wr
    | with_reducible apply Wr.ite | with_reducible (apply Wr.fold; intro _ _ _)
    | fail_if_no_progress (with_reducible refine Wr.upd ?_) | split | lift_lets

theorem State.dissStep_wr (hR : [(0x270, 0), (0x2A0, 0), (0x2A4, 0), (0x2A8, 0), (0x5014, 0), (0x1B070, 0)] ⊆ R) (asps : List
    (Nat × List Nat)) (p : Nat) (hh : Wr R zz s) : Wr R zz (State.dissStep s asps p) := by
  unfold State.dissStep
  try lift_lets
  repeat' first
    | with_reducible assumption | exact hitSub (by decide) hR
    | (intro s; refine (fun hk : Wr R zz s => ?_) ?_; clear_value s; rotate_left; subst s) | (intro (v : State → _); subst v)
    | (intro v; try clear_value v) | with_reducible apply State.raise_wr | with_reducible apply State.thermalGroup_wr
    | with_reducible apply State.logEv_wr | with_reducible apply Wr.ite
    | fail_if_no_progress (with_reducible refine Wr.upd ?_) | split

theorem State.governors_wr (hR : [(0x200, 0), (0x208, 0), (0x270, 0), (0x2A0, 0), (0x2A4, 0), (0x2A8, 0), (0x5014, 0),
    (0x1B070, 0)] ⊆ R) (hh : Wr R zz s) : Wr R zz (State.governors s) := by
  unfold State.governors
  try lift_lets
  repeat' first
    | with_reducible assumption | exact hitSub (by decide) hR
    | (intro s; refine (fun hk : Wr R zz s => ?_) ?_; clear_value s; rotate_left; subst s) | (intro v; try clear_value v)
    | with_reducible apply State.setChan_wr | with_reducible apply State.putFlag_wr | with_reducible apply State.put_wr
    | with_reducible apply State.dissStep_wr | with_reducible exact hit_fBST_GOV (has2 (by decide) hR)
    | with_reducible exact hit_fBST_PEAK_LIM (has2 (by decide) hR)
    | with_reducible exact hit_fPWR_PSINK (has2 (by decide) hR) | with_reducible apply Wr.ite
    | with_reducible (apply Wr.fold; intro _ _ _) | fail_if_no_progress (with_reducible refine Wr.upd ?_)

theorem State.gateLow_wr (hR : [] ⊆ R) (hh : Wr R zz s) : Wr R zz (State.gateLow s) := by
  have h := State.gateLow_kept (T := [.pins, .boost]) (zz := s) (List.Subset.refl _)  (Kept.refl _)
  exact Wr.of_regs (Kept.regs_eq h) hh

theorem State.gatePulse_wr (hR : [] ⊆ R) (n : Nat) (hh : Wr R zz s) : Wr R zz (State.gatePulse s n) := by
  have h := State.gatePulse_kept (T := [.pins, .boost]) (zz := s) (List.Subset.refl _) n (Kept.refl _)
  exact Wr.of_regs (Kept.regs_eq h) hh

theorem State.gateCycle_wr (hR : [(0x200, 0)] ⊆ R) (hh : Wr R zz s) : Wr R zz (State.gateCycle s) := by
  unfold State.gateCycle
  try lift_lets
  repeat' first
    | with_reducible assumption | exact hitSub (by decide) hR
    | (intro s; refine (fun hk : Wr R zz s => ?_) ?_; clear_value s; rotate_left; subst s) | (intro (v : Fld); subst v)
    | (intro v; try clear_value v) | with_reducible exact hit_fBST_MODE (has2 (by decide) hR)
    | with_reducible apply State.boostPass_wr | with_reducible apply State.gateLow_wr
    | with_reducible apply State.gatePulse_wr | with_reducible apply Wr.ite
    | fail_if_no_progress (with_reducible refine Wr.upd ?_) | split | lift_lets

theorem State.gatePeriod_wr (hR : [(0x200, 0)] ⊆ R) (hh : Wr R zz s) : Wr R zz (State.gatePeriod s) := by
  unfold State.gatePeriod
  try lift_lets
  repeat' first
    | with_reducible assumption | exact hitSub (by decide) hR
    | (intro s; refine (fun hk : Wr R zz s => ?_) ?_; clear_value s; rotate_left; subst s) | (intro (v : Fld); subst v)
    | (intro v; try clear_value v) | with_reducible apply State.gateCycle_wr | with_reducible apply Wr.ite
    | fail_if_no_progress (with_reducible refine Wr.upd ?_) | split | lift_lets

theorem State.gateTick_wr (hR : [(0x200, 0)] ⊆ R) (hh : Wr R zz s) : Wr R zz (State.gateTick s) := by
  unfold State.gateTick
  try lift_lets
  repeat' first
    | with_reducible assumption | exact hitSub (by decide) hR
    | (intro s; refine (fun hk : Wr R zz s => ?_) ?_; clear_value s; rotate_left; subst s) | (intro v; try clear_value v)
    | with_reducible apply State.gatePeriod_wr | with_reducible apply State.gateCycle_wr
    | with_reducible apply State.gateLow_wr | with_reducible apply Wr.ite
    | fail_if_no_progress (with_reducible refine Wr.upd ?_) | split | lift_lets

theorem State.closeNormal_wr (hR : [] ⊆ R) (hh : Wr R zz s) : Wr R zz (State.closeNormal s) := by
  have h := State.closeNormal_kept (T := [.banks]) (zz := s) (List.Subset.refl _)  (Kept.refl _)
  exact Wr.of_regs (Kept.regs_eq h) hh

theorem State.softStart_wr (hR : [(0x200, 0)] ⊆ R) (hh : Wr R zz s) : Wr R zz (State.softStart s) := by
  unfold State.softStart
  try lift_lets
  repeat' first
    | with_reducible assumption | exact hitSub (by decide) hR
    | (intro s; refine (fun hk : Wr R zz s => ?_) ?_; clear_value s; rotate_left; subst s) | (intro v; try clear_value v)
    | with_reducible exact hit_fBST_MODE (has2 (by decide) hR) | with_reducible apply State.put_wr
    | with_reducible apply State.setLoop_wr | with_reducible apply Wr.ite
    | fail_if_no_progress (with_reducible refine Wr.upd ?_) | split | lift_lets

theorem State.hiccup_wr (hR : [(0x200, 0)] ⊆ R) (hh : Wr R zz s) : Wr R zz (State.hiccup s) := by
  unfold State.hiccup
  try lift_lets
  repeat' first
    | with_reducible assumption | exact hitSub (by decide) hR
    | (intro s; refine (fun hk : Wr R zz s => ?_) ?_; clear_value s; rotate_left; subst s) | (intro v; try clear_value v)
    | with_reducible exact hit_fBST_MODE (has2 (by decide) hR) | with_reducible apply State.put_wr
    | with_reducible apply State.gateLow_wr | with_reducible apply Wr.ite
    | fail_if_no_progress (with_reducible refine Wr.upd ?_) | split | lift_lets

theorem State.softCheck_wr (hR : [(0x200, 0), (0x270, 0), (0x2A0, 0), (0x2A4, 0), (0x2A8, 0), (0x5014, 0), (0x1B070, 0)] ⊆ R)
    (hh : Wr R zz s) : Wr R zz (State.softCheck s) := by
  unfold State.softCheck
  try lift_lets
  repeat' first
    | with_reducible assumption | exact hitSub (by decide) hR
    | (intro s; refine (fun hk : Wr R zz s => ?_) ?_; clear_value s; rotate_left; subst s) | (intro v; try clear_value v)
    | with_reducible exact hit_fBST_MODE (has2 (by decide) hR) | with_reducible apply State.put_wr
    | with_reducible apply State.boostPass_wr | with_reducible apply State.boostGroup_wr
    | with_reducible apply State.closeNormal_wr | with_reducible apply State.hiccup_wr
    | with_reducible apply State.logEv_wr | with_reducible apply State.raise_wr | with_reducible apply Wr.ite
    | fail_if_no_progress (with_reducible refine Wr.upd ?_) | split | lift_lets

theorem State.boostShort_wr (hR : [(0x200, 0), (0x270, 0), (0x2A0, 0), (0x2A4, 0), (0x2A8, 0), (0x5014, 0), (0x1B070, 0)] ⊆
    R) (hh : Wr R zz s) : Wr R zz (State.boostShort s) := by
  unfold State.boostShort
  try lift_lets
  repeat' first
    | with_reducible assumption | exact hitSub (by decide) hR
    | (intro s; refine (fun hk : Wr R zz s => ?_) ?_; clear_value s; rotate_left; subst s) | (intro v; try clear_value v)
    | with_reducible apply State.hiccup_wr | with_reducible apply State.logEv_wr | with_reducible apply State.raise_wr
    | with_reducible apply State.boostGroup_wr | with_reducible apply State.duskExit_wr | with_reducible apply Wr.ite
    | split | lift_lets

theorem State.boostFb_wr (hR : [(0x200, 0), (0x270, 0), (0x2A0, 0), (0x2A4, 0), (0x2A8, 0), (0x5014, 0), (0x1B070, 0)] ⊆ R)
    (hh : Wr R zz s) : Wr R zz (State.boostFb s) := by
  unfold State.boostFb
  try lift_lets
  repeat' first
    | with_reducible assumption | exact hitSub (by decide) hR
    | (intro s; refine (fun hk : Wr R zz s => ?_) ?_; clear_value s; rotate_left; subst s) | (intro v; try clear_value v)
    | with_reducible exact hit_fBST_MODE (has2 (by decide) hR) | with_reducible apply State.put_wr
    | with_reducible apply State.gateLow_wr | with_reducible apply State.logEv_wr | with_reducible apply State.raise_wr
    | with_reducible apply State.boostGroup_wr | with_reducible apply State.closeNormal_wr | with_reducible apply Wr.ite
    | fail_if_no_progress (with_reducible refine Wr.upd ?_) | split | lift_lets

theorem State.clampOnset_wr (hR : [(0x200, 0), (0x210, 0), (0x270, 0), (0x2A0, 0), (0x2A4, 0), (0x1B070, 0)] ⊆ R) (hh : Wr R
    zz s) : Wr R zz (State.clampOnset s) := by
  unfold State.clampOnset
  try lift_lets
  repeat' first
    | with_reducible assumption | exact hitSub (by decide) hR
    | (intro s; refine (fun hk : Wr R zz s => ?_) ?_; clear_value s; rotate_left; subst s) | (intro v; try clear_value v)
    | with_reducible exact hit_fBST_OV_CLAMP (has2 (by decide) hR)
    | with_reducible exact hit_aDEV_BOOST_OVC (has2 (by decide) hR) | with_reducible apply State.putFlag_wr
    | with_reducible apply State.bump_wr | with_reducible apply State.lifeAcc_wr | with_reducible apply State.gateLow_wr
    | with_reducible apply State.raise_wr | with_reducible apply State.boostGroup_wr | with_reducible apply Wr.ite
    | fail_if_no_progress (with_reducible refine Wr.upd ?_) | split | lift_lets

theorem State.askReclose_wr (hR : [] ⊆ R) (mask : Nat) (hh : Wr R zz s) : Wr R zz (State.askReclose s mask) := by
  have h := State.askReclose_kept (T := [.banks]) (zz := s) (List.Subset.refl _) mask (Kept.refl _)
  exact Wr.of_regs (Kept.regs_eq h) hh

theorem State.loopSwap_wr (hR : [(0x18000, 0), (0x18100, 4), (0x18900, 4)] ⊆ R) (n : Nat) (hh : Wr R zz s) : Wr R zz
    (State.loopSwap s n) := by
  unfold State.loopSwap
  try lift_lets
  repeat' first
    | with_reducible assumption | exact hitSub (by decide) hR
    | (intro s; refine (fun hk : Wr R zz s => ?_) ?_; clear_value s; rotate_left; subst s) | (intro (v : Fld); subst v)
    | (intro v; try clear_value v) | with_reducible exact hit_aLOOP_SWAP (has2 (by decide) hR)
    | with_reducible exact hit_aLOOP_ACT (has2 (by decide) hR) | with_reducible exact hit_fLST (has2 (by decide) hR)
    | with_reducible apply State.putFlag_wr | with_reducible apply State.wr_wr | with_reducible apply State.put_wr
    | with_reducible apply State.setLoop_wr | with_reducible apply Wr.ite | with_reducible (apply Wr.fold; intro _ _ _)
    | split | lift_lets

theorem State.loopOff_wr (hR : [(0x18900, 4)] ⊆ R) (n : Nat) (hh : Wr R zz s) : Wr R zz (State.loopOff s n) := by
  unfold State.loopOff
  try lift_lets
  repeat' first
    | with_reducible assumption | exact hitSub (by decide) hR
    | (intro s; refine (fun hk : Wr R zz s => ?_) ?_; clear_value s; rotate_left; subst s) | (intro v; try clear_value v)
    | with_reducible exact hit_fLST (has2 (by decide) hR) | with_reducible apply State.setLoop_wr
    | with_reducible apply State.putFlag_wr | with_reducible apply State.put_wr | with_reducible apply Wr.ite | split
    | lift_lets

theorem State.loopStart_wr (hR : [(0x18000, 0), (0x18100, 4), (0x18900, 4)] ⊆ R) (n : Nat) (hh : Wr R zz s) : Wr R zz
    (State.loopStart s n) := by
  unfold State.loopStart
  try lift_lets
  repeat' first
    | with_reducible assumption | exact hitSub (by decide) hR
    | (intro s; refine (fun hk : Wr R zz s => ?_) ?_; clear_value s; rotate_left; subst s) | (intro (v : Fld); subst v)
    | (intro v; try clear_value v) | with_reducible exact hit_fLST (has2 (by decide) hR)
    | with_reducible apply State.loopSwap_wr | with_reducible apply State.loopOff_wr | with_reducible apply State.fresh_wr
    | with_reducible (apply Wr.snd; apply State.fresh_wr)
    | with_reducible (refine Wr.eq2 (by assumption) ?_; apply State.fresh_wr) | with_reducible apply State.setLoop_wr
    | with_reducible apply State.putFlag_wr | with_reducible apply Wr.ite | with_reducible apply Wr2.ite
    | with_reducible apply Wr2.mk | split | lift_lets

theorem State.loopResult_wr (hR : [] ⊆ R) (n : Nat) (hh : Wr R zz s) : Wr R zz (State.loopResult s n) := by
  have h := State.loopResult_kept (T := [.res, .loops]) (zz := s) (List.Subset.refl _) n (Kept.refl _)
  exact Wr.of_regs (Kept.regs_eq h) hh

theorem State.loopShow_wr (hR : [(0x18900, 4)] ⊆ R) (n : Nat) (hh : Wr R zz s) : Wr R zz (State.loopShow s n) := by
  unfold State.loopShow
  try lift_lets
  repeat' first
    | with_reducible assumption | exact hitSub (by decide) hR
    | (intro s; refine (fun hk : Wr R zz s => ?_) ?_; clear_value s; rotate_left; subst s) | (intro v; try clear_value v)
    | with_reducible apply State.wr_wr | with_reducible apply State.put_wr
    | with_reducible exact hit_aLOOP_ST (has2 (by decide) hR) | with_reducible exact hit_fLST (has2 (by decide) hR)

theorem State.loopHold_wr (hR : [(0x18008, 0), (0x18900, 4)] ⊆ R) (n : Nat) (stale : Bool) (hh : Wr R zz s) : Wr R zz
    (State.loopHold s n stale) := by
  unfold State.loopHold
  try lift_lets
  repeat' first
    | with_reducible assumption | exact hitSub (by decide) hR
    | (intro s; refine (fun hk : Wr R zz s => ?_) ?_; clear_value s; rotate_left; subst s) | (intro v; try clear_value v)
    | with_reducible apply State.putFlag_wr | with_reducible apply State.setLoop_wr
    | with_reducible exact hit_aLOOP_HOLD (has2 (by decide) hR) | with_reducible exact hit_fLST (has2 (by decide) hR)

theorem State.rampReached_wr (hR : [] ⊆ R) (hh : Wr R zz s) : Wr R zz (State.rampReached s) := by
  have h := State.rampReached_kept (T := [.boost]) (zz := s) (List.Subset.refl _)  (Kept.refl _)
  exact Wr.of_regs (Kept.regs_eq h) hh

theorem State.loopCommit_wr (hR : [(0x1780, 4), (0x18004, 0), (0x18008, 0), (0x18900, 4)] ⊆ R) (n : Nat) (r : LoopRes) (hh :
    Wr R zz s) : Wr R zz (State.loopCommit s n r) := by
  unfold State.loopCommit
  try lift_lets
  repeat' first
    | with_reducible assumption | exact hitSub (by decide) hR
    | (intro s; refine (fun hk : Wr R zz s => ?_) ?_; clear_value s; rotate_left; subst s) | (intro (v : Fld); subst v)
    | (intro v; try clear_value v) | with_reducible exact hit_fLST (has2 (by decide) hR)
    | with_reducible exact hit_aLOOP_SAT (has2 (by decide) hR) | with_reducible exact hit_aLOOP_HOLD (has2 (by decide) hR)
    | with_reducible apply State.setLoop_wr | with_reducible apply State.loopShow_wr
    | with_reducible apply State.putFlag_wr | with_reducible apply State.rampReached_wr
    | with_reducible apply State.aspVarWrite_wr | with_reducible apply Wr.ite
    | fail_if_no_progress (with_reducible refine Wr.upd ?_) | split | lift_lets

theorem State.loopDeadline_wr (hR : [(0x1780, 4), (0x18004, 0), (0x18008, 0), (0x18900, 4)] ⊆ R) (n : Nat) (onTime : Bool)
    (hh : Wr R zz s) : Wr1 R zz (State.loopDeadline s n onTime) := by
  unfold State.loopDeadline
  try lift_lets
  repeat' first
    | with_reducible assumption | exact hitSub (by decide) hR
    | (intro s; refine (fun hk : Wr R zz s => ?_) ?_; clear_value s; rotate_left; subst s) | (intro v; try clear_value v)
    | with_reducible apply State.loopHold_wr | with_reducible apply State.loopCommit_wr | with_reducible apply Wr.ite
    | with_reducible apply Wr1.ite | with_reducible apply Wr1.mk | split | lift_lets

theorem State.loopEpoch_wr (hR : [(0x18010, 4), (0x18900, 4)] ⊆ R) (n : Nat) (hh : Wr R zz s) : Wr R zz (State.loopEpoch s n)
    := by
  unfold State.loopEpoch
  exact State.put_wr (hit_fLST (has2 (by decide) hR)) (State.put_wr (hit_aLOOP_EPOCH (has2 (by decide) hR)) hh)

theorem State.loopMigrate_wr (hR : [(0x100, 0), (0x200, 0), (0x270, 0), (0x2A0, 0), (0x2A4, 0), (0x2A8, 0), (0x5014, 0),
    (0x18010, 4), (0x18900, 4), (0x1B070, 0)] ⊆ R) (n : Nat) (fail : Bool) (hh : Wr R zz s) : Wr R zz (State.loopMigrate s n
    fail) := by
  unfold State.loopMigrate
  try lift_lets
  repeat' first
    | with_reducible assumption | exact hitSub (by decide) hR
    | (intro s; refine (fun hk : Wr R zz s => ?_) ?_; clear_value s; rotate_left; subst s) | (intro (v : Fld); subst v)
    | (intro v; try clear_value v) | with_reducible apply State.loopOff_wr | with_reducible apply State.logEv_wr
    | with_reducible apply State.fltSet_wr | with_reducible apply State.dutyHold_wr | with_reducible apply State.setLoop_wr
    | with_reducible apply State.loopEpoch_wr | with_reducible apply Wr.ite
    | fail_if_no_progress (with_reducible refine Wr.upd ?_) | split | lift_lets

theorem State.schedJudge_wr (hR : [(0x220, 0)] ⊆ R) (hh : Wr R zz s) : Wr R zz (State.schedJudge s) := by
  unfold State.schedJudge
  try lift_lets
  repeat' first
    | with_reducible assumption | exact hitSub (by decide) hR
    | (intro s; refine (fun hk : Wr R zz s => ?_) ?_; clear_value s; rotate_left; subst s) | (intro v; try clear_value v)
    | with_reducible apply State.putFlag_wr | with_reducible exact hit_fDIM_AMBIENT (has2 (by decide) hR)
    | with_reducible exact hit_fDIM_NIGHT (has2 (by decide) hR) | with_reducible exact hit_fDIM_XFADE (has2 (by decide) hR)
    | with_reducible apply Wr.ite | fail_if_no_progress (with_reducible refine Wr.upd ?_)

theorem State.brightFollow_wr (hR : [] ⊆ R) (duty : Nat) (hh : Wr R zz s) : Wr R zz (State.brightFollow s duty) := by
  have h := State.brightFollow_kept (T := [.dim, .loops]) (zz := s) (List.Subset.refl _) duty (Kept.refl _)
  exact Wr.of_regs (Kept.regs_eq h) hh

theorem State.ambientUpdate_wr (hR : [(0x220, 0)] ⊆ R) (duty : Nat) (hh : Wr R zz s) : Wr R zz (State.ambientUpdate s duty)
    := by
  unfold State.ambientUpdate
  try lift_lets
  repeat' first
    | with_reducible assumption | exact hitSub (by decide) hR
    | (intro s; refine (fun hk : Wr R zz s => ?_) ?_; clear_value s; rotate_left; subst s) | (intro v; try clear_value v)
    | with_reducible exact hit_fDIM_AMBIENT (has2 (by decide) hR)
    | with_reducible exact hit_fDIM_XFADE (has2 (by decide) hR) | with_reducible apply State.schedJudge_wr
    | with_reducible apply State.put_wr | with_reducible apply State.putFlag_wr
    | with_reducible apply State.brightFollow_wr | with_reducible apply Wr.ite | split | lift_lets

theorem State.brightReading_wr (hR : [(0x220, 0), (0x2A8, 0), (0x5014, 0)] ⊆ R) (mv : Int) (hh : Wr R zz s) : Wr R zz
    (State.brightReading s mv) := by
  unfold State.brightReading
  try lift_lets
  repeat' first
    | with_reducible assumption | exact hitSub (by decide) hR
    | (intro s; refine (fun hk : Wr R zz s => ?_) ?_; clear_value s; rotate_left; subst s) | (intro (v : Fld); subst v)
    | (intro v; try clear_value v) | with_reducible exact hit_fDIM_BIN_RANGE (has2 (by decide) hR)
    | with_reducible apply State.putFlag_wr | with_reducible apply State.logEv_wr | with_reducible apply Wr.ite
    | fail_if_no_progress (with_reducible refine Wr.upd ?_) | split | lift_lets

theorem State.ntcUpdate_wr (hR : [(0x204, 0), (0x220, 0), (0x270, 0), (0x274, 0), (0x2A0, 0), (0x2A4, 0), (0x2A8, 0),
    (0x200C, 16), (0x2900, 0), (0x5014, 0), (0x1B070, 0)] ⊆ R) (hh : Wr R zz s) : Wr R zz (State.ntcUpdate s) := by
  unfold State.ntcUpdate
  try lift_lets
  repeat' first
    | with_reducible assumption | exact hitSub (by decide) hR
    | (intro s; refine (fun hk : Wr R zz s => ?_) ?_; clear_value s; rotate_left; subst s) | (intro (v : Fld); subst v)
    | (intro v; try clear_value v) | with_reducible exact hit_fDIM_NTC_FAULT (has2 (by decide) hR)
    | with_reducible exact hit_fDIM_NTC_TEMP (has2 (by decide) hR) | with_reducible apply State.putFlag_wr
    | with_reducible apply State.logEv_wr | with_reducible apply State.put_wr | with_reducible apply State.evalHot_wr
    | with_reducible apply State.showTemp_wr | with_reducible apply Wr.ite | with_reducible (apply Wr.fold; intro _ _ _)
    | fail_if_no_progress (with_reducible refine Wr.upd ?_) | split | lift_lets

end Sys2Proof.Machine
end

