-- ==== Sys2Proof/Laws/RegsSafety.lean ====
section
/-! SUPPORT. Which registers each operation may write, one lemma per operation: conversion, safe torque off, lifetime, Midnight, grid. -/

-- Proofs elaborated beside each other need more threads than the package's memory limit allows.
set_option Elab.async false
-- One proof script serves many operations, so a step or a name of it may have no use in some.
set_option linter.unusedVariables false
set_option linter.unusedTactic false
set_option linter.unreachableTactic false

namespace Sys2Proof.Machine

variable {R : List (Nat × Nat)} {zz s : State}

theorem State.setSubRing_wr (hR : [] ⊆ R) (k : Nat) (r : CapRing) (hh : Wr R zz s) : Wr R zz (State.setSubRing s k r) := by
  have h := State.setSubRing_kept (T := [.cap]) (zz := s) (List.Subset.refl _) k r (Kept.refl _)
  exact Wr.of_regs (Kept.regs_eq h) hh

theorem State.capPut_wr (hR : [] ⊆ R) (k w : Nat) (hh : Wr R zz s) : Wr R zz (State.capPut s k w) := by
  have h := State.capPut_kept (T := [.mem, .cap]) (zz := s) (List.Subset.refl _) k w (Kept.refl _)
  exact Wr.of_regs (Kept.regs_eq h) hh

theorem State.capResult_wr (hR : [] ⊆ R) (k : Nat) (it : AdcItem) (holds : List Hold) (code : Nat) (sat late : Bool) (hh : Wr
    R zz s) : Wr R zz (State.capResult s k it holds code sat late) := by
  have h := State.capResult_kept (T := [.mem, .cap]) (zz := s) (List.Subset.refl _) k it holds code sat late (Kept.refl _)
  exact Wr.of_regs (Kept.regs_eq h) hh

theorem State.capFreeze_wr (hR : [(0x270, 0), (0x294, 0), (0x2A8, 0), (0x5014, 0), (0x1B070, 0)] ⊆ R) (midnight : Bool) (hh :
    Wr R zz s) : Wr R zz (State.capFreeze s midnight) := by
  unfold State.capFreeze
  try lift_lets
  repeat' first
    | with_reducible assumption | exact hitSub (by decide) hR
    | (intro s; refine (fun hk : Wr R zz s => ?_) ?_; clear_value s; rotate_left; subst s) | (intro (v : Fld); subst v)
    | (intro v; try clear_value v) | with_reducible exact hit_fCAP_STATE (has2 (by decide) hR)
    | with_reducible exact hit_fCAP_MN_FREEZE (has2 (by decide) hR)
    | with_reducible exact hit_fCAP_PRE (has2 (by decide) hR) | with_reducible exact hit_fNW_SC0_LOST (has2 (by decide) hR)
    | with_reducible apply State.put_wr | with_reducible apply State.putFlag_wr | with_reducible apply State.logEv_wr
    | with_reducible apply State.raise_wr | with_reducible apply Wr.ite
    | fail_if_no_progress (with_reducible refine Wr.upd ?_) | split | lift_lets

theorem State.capResume_wr (hR : [] ⊆ R) (hh : Wr R zz s) : Wr R zz (State.capResume s) := by
  have h := State.capResume_kept (T := [.cap]) (zz := s) (List.Subset.refl _)  (Kept.refl _)
  exact Wr.of_regs (Kept.regs_eq h) hh

theorem State.capPause_wr (hR : [(0x294, 0)] ⊆ R) (hh : Wr R zz s) : Wr R zz (State.capPause s) := by
  unfold State.capPause
  try lift_lets
  repeat' first
    | with_reducible assumption | exact hitSub (by decide) hR
    | (intro s; refine (fun hk : Wr R zz s => ?_) ?_; clear_value s; rotate_left; subst s) | (intro v; try clear_value v)
    | with_reducible exact hit_fCAP_STATE (has2 (by decide) hR) | with_reducible apply State.put_wr
    | with_reducible apply Wr.ite | fail_if_no_progress (with_reducible refine Wr.upd ?_) | split | lift_lets

theorem State.capUnpause_wr (hR : [(0x294, 0)] ⊆ R) (hh : Wr R zz s) : Wr R zz (State.capUnpause s) := by
  unfold State.capUnpause
  repeat' first
    | with_reducible assumption | exact hitSub (by decide) hR | with_reducible exact hit_fCAP_STATE (has2 (by decide) hR)
    | with_reducible apply State.put_wr | with_reducible apply State.capResume_wr | with_reducible apply Wr.ite
    | fail_if_no_progress (with_reducible refine Wr.upd ?_) | split

theorem State.setBist_wr (hR : [] ⊆ R) (x : Bist) (hh : Wr R zz s) : Wr R zz (State.setBist s x) := by
  have h := State.setBist_kept (T := [.bist]) (zz := s) (List.Subset.refl _) x (Kept.refl _)
  exact Wr.of_regs (Kept.regs_eq h) hh

theorem State.bistCause_wr (hR : [] ⊆ R) (code : Nat) (hh : Wr R zz s) : Wr R zz (State.bistCause s code) := by
  have h := State.bistCause_kept (T := [.bist]) (zz := s) (List.Subset.refl _) code (Kept.refl _)
  exact Wr.of_regs (Kept.regs_eq h) hh

theorem State.bistIdle_wr (hR : [(0x280, 0)] ⊆ R) (hh : Wr R zz s) : Wr R zz (State.bistIdle s) := by
  unfold State.bistIdle
  try lift_lets
  repeat' first
    | with_reducible assumption | exact hitSub (by decide) hR
    | (intro s; refine (fun hk : Wr R zz s => ?_) ?_; clear_value s; rotate_left; subst s) | (intro v; try clear_value v)
    | with_reducible apply State.putFlag_wr | with_reducible apply State.put_wr | with_reducible apply State.setBist_wr
    | with_reducible exact hit_fBIST_CUR (has2 (by decide) hR) | with_reducible exact hit_fBIST_FORCED (has2 (by decide) hR)
    | with_reducible exact hit_fBIST_RUNNING (has2 (by decide) hR) | with_reducible apply Wr.ite
    | fail_if_no_progress (with_reducible refine Wr.upd ?_)

theorem State.bistBack_wr (hR : [(0x240, 0), (0x17000, 0)] ⊆ R) (hh : Wr R zz s) : Wr R zz (State.bistBack s) := by
  unfold State.bistBack
  repeat' first
    | with_reducible assumption | exact hitSub (by decide) hR | with_reducible exact hit_aADC_REFCTL (has2 (by decide) hR)
    | with_reducible exact hit_aDEV_ADC_STAT (has2 (by decide) hR) | with_reducible apply State.putFlag_wr
    | with_reducible apply Wr.ite | fail_if_no_progress (with_reducible refine Wr.upd ?_) | split

theorem State.bistNotRun_wr (hR : [(0x2A8, 0), (0x5014, 0)] ⊆ R) (bs : List Nat) (hh : Wr R zz s) : Wr R zz (State.bistNotRun
    s bs) := by
  unfold State.bistNotRun
  repeat' first
    | with_reducible assumption | exact hitSub (by decide) hR | with_reducible apply State.setBist_wr
    | with_reducible apply State.logFw_wr | with_reducible apply Wr.ite | with_reducible (apply Wr.fold; intro _ _ _)
    | split

theorem State.bistStop_wr (hR : [(0x240, 0), (0x280, 0), (0x2A8, 0), (0x5014, 0), (0x17000, 0)] ⊆ R) (hh : Wr R zz s) : Wr R
    zz (State.bistStop s) := by
  unfold State.bistStop
  try lift_lets
  repeat' first
    | with_reducible assumption | exact hitSub (by decide) hR
    | (intro s; refine (fun hk : Wr R zz s => ?_) ?_; clear_value s; rotate_left; subst s) | (intro v; try clear_value v)
    | with_reducible apply State.bistBack_wr | with_reducible apply State.bistNotRun_wr
    | with_reducible apply State.bistIdle_wr | with_reducible apply Wr.ite
    | fail_if_no_progress (with_reducible refine Wr.upd ?_) | split | lift_lets

theorem State.setConv_wr (hR : [] ⊆ R) (k : Nat) (x : Conv) (hh : Wr R zz s) : Wr R zz (State.setConv s k x) := by
  have h := State.setConv_kept (T := [.adc]) (zz := s) (List.Subset.refl _) k x (Kept.refl _)
  exact Wr.of_regs (Kept.regs_eq h) hh

theorem State.setPair_wr (hR : [] ⊆ R) (p : Nat) (x : AdcPair) (hh : Wr R zz s) : Wr R zz (State.setPair s p x) := by
  have h := State.setPair_kept (T := [.adc]) (zz := s) (List.Subset.refl _) p x (Kept.refl _)
  exact Wr.of_regs (Kept.regs_eq h) hh

theorem State.adcKick_wr (hR : [] ⊆ R) (k : Nat) (hh : Wr R zz s) : Wr R zz (State.adcKick s k) := by
  have h := State.adcKick_kept (T := [.adc]) (zz := s) (List.Subset.refl _) k (Kept.refl _)
  exact Wr.of_regs (Kept.regs_eq h) hh

theorem State.adcTick_wr (hR : [] ⊆ R) (hh : Wr R zz s) : Wr R zz (State.adcTick s) := by
  have h := State.adcTick_kept (T := [.adc]) (zz := s) (List.Subset.refl _)  (Kept.refl _)
  exact Wr.of_regs (Kept.regs_eq h) hh

theorem State.regStart_wr (hR : [] ⊆ R) (k : Nat) (hh : Wr R zz s) : Wr R zz (State.regStart s k) := by
  have h := State.regStart_kept (T := [.adc]) (zz := s) (List.Subset.refl _) k (Kept.refl _)
  exact Wr.of_regs (Kept.regs_eq h) hh

theorem State.injStart_wr (hR : [(0x17F80, 4)] ⊆ R) (k : Nat) (late : Bool) (hh : Wr R zz s) : Wr R zz (State.injStart s k
    late) := by
  unfold State.injStart
  try lift_lets
  repeat' first
    | with_reducible assumption | exact hitSub (by decide) hR
    | (intro s; refine (fun hk : Wr R zz s => ?_) ?_; clear_value s; rotate_left; subst s) | (intro (v : Fld); subst v)
    | (intro v; try clear_value v) | with_reducible exact hit_aADC_INJTS (has2 (by decide) hR)
    | with_reducible apply State.setConv_wr | with_reducible apply State.wr_wr | with_reducible apply State.adcKick_wr
    | with_reducible apply Wr.ite | split | lift_lets

theorem State.overrun_wr (hR : [(0x270, 0), (0x2A8, 0), (0x5014, 0), (0x17040, 4), (0x17080, 4), (0x1B070, 0)] ⊆ R) (k : Nat)
    (inj : Bool) (hh : Wr R zz s) : Wr R zz (State.overrun s k inj) := by
  have ha : hits R (if inj then aADC_OVR_INJ k else aADC_OVR_REG k) = true := by
    split
    · exact hit_aADC_OVR_INJ (has2 (by decide) hR)
    · exact hit_aADC_OVR_REG (has2 (by decide) hR)
  unfold State.overrun
  have h0 := State.bump_wr ha hh
  exact State.setConv_wr (hitSub (by decide) hR) _ _
    (Wr.ite (State.raise_wr (hitSub (by decide) hR) _ (State.logEv_wr (hitSub (by decide) hR) _ _ _ _ h0)) h0)

theorem State.setSeqr_wr (hR : [] ⊆ R) (k : Nat) (inj : Bool) (q : Seqr) (hh : Wr R zz s) : Wr R zz (State.setSeqr s k inj q)
    := by
  have h := State.setSeqr_kept (T := [.adc]) (zz := s) (List.Subset.refl _) k inj q (Kept.refl _)
  exact Wr.of_regs (Kept.regs_eq h) hh

theorem State.trigger_wr (hR : [(0x270, 0), (0x2A8, 0), (0x5014, 0), (0x17040, 4), (0x17080, 4), (0x17F80, 4), (0x1B070, 0)]
    ⊆ R) (k : Nat) (inj : Bool) (hh : Wr R zz s) : Wr R zz (State.trigger s k inj) := by
  unfold State.trigger
  try lift_lets
  repeat' first
    | with_reducible assumption | exact hitSub (by decide) hR
    | (intro s; refine (fun hk : Wr R zz s => ?_) ?_; clear_value s; rotate_left; subst s) | (intro (v : Fld); subst v)
    | (intro v; try clear_value v) | with_reducible apply State.setSeqr_wr | with_reducible apply State.overrun_wr
    | with_reducible apply State.injStart_wr | with_reducible apply State.regStart_wr | with_reducible apply Wr.ite | split
    | lift_lets

theorem State.triggerBy_wr (hR : [(0x270, 0), (0x2A8, 0), (0x5014, 0), (0x17040, 4), (0x17080, 4), (0x17F80, 4), (0x1B070,
    0)] ⊆ R) (k : Nat) (codes : List Nat) (hh : Wr R zz s) : Wr R zz (State.triggerBy s k codes) := by
  unfold State.triggerBy
  try lift_lets
  repeat' first
    | with_reducible assumption | exact hitSub (by decide) hR
    | (intro s; refine (fun hk : Wr R zz s => ?_) ?_; clear_value s; rotate_left; subst s)
    | with_reducible apply State.trigger_wr | with_reducible apply Wr.ite

theorem State.seqEnd_wr (hR : [(0x17F80, 4)] ⊆ R) (k : Nat) (inj : Bool) (hh : Wr R zz s) : Wr R zz (State.seqEnd s k inj) :=
    by
  unfold State.seqEnd
  try lift_lets
  repeat' first
    | with_reducible assumption | exact hitSub (by decide) hR | (intro v; try clear_value v)
    | with_reducible apply State.setConv_wr | with_reducible apply State.injStart_wr | with_reducible apply State.regStart_wr
    | with_reducible apply Wr.ite

theorem State.dropHolds_wr (hR : [] ⊆ R) (l : List Hold) (hh : Wr R zz s) : Wr R zz (State.dropHolds s l) := by
  have h := State.dropHolds_kept (T := [.chans, .mtx]) (zz := s) (List.Subset.refl _) l (Kept.refl _)
  exact Wr.of_regs (Kept.regs_eq h) hh

theorem State.newEpoch_wr (hR : [] ⊆ R) (k : Nat) (hh : Wr R zz s) : Wr R zz (State.newEpoch s k) := by
  have h := State.newEpoch_kept (T := [.chans, .mtx, .adc]) (zz := s) (List.Subset.refl _) k (Kept.refl _)
  exact Wr.of_regs (Kept.regs_eq h) hh

theorem State.placeMove_wr (hR : [(0x240, 0), (0x244, 0)] ⊆ R) (p : Nat) (hh : Wr R zz s) : Wr R zz (State.placeMove s p) :=
    by
  unfold State.placeMove
  try lift_lets
  repeat' first
    | with_reducible assumption | exact hitSub (by decide) hR
    | (intro s; refine (fun hk : Wr R zz s => ?_) ?_; clear_value s; rotate_left; subst s) | (intro v; try clear_value v)
    | with_reducible exact hit_fADC_EPOCH (has2 (by decide) hR) | with_reducible exact hit_fADC (has2 (by decide) hR)
    | with_reducible apply State.put_wr | with_reducible apply State.putFlag_wr | with_reducible apply State.newEpoch_wr
    | with_reducible apply State.setPair_wr | with_reducible apply Wr.ite | split | lift_lets

theorem State.placeBoost_wr (hR : [(0x240, 0), (0x244, 0), (0x17004, 0)] ⊆ R) (hh : Wr R zz s) : Wr R zz (State.placeBoost s)
    := by
  unfold State.placeBoost
  try lift_lets
  repeat' first
    | with_reducible assumption | exact hitSub (by decide) hR
    | (intro s; refine (fun hk : Wr R zz s => ?_) ?_; clear_value s; rotate_left; subst s) | (intro v; try clear_value v)
    | with_reducible exact hit_fBOOST14 (has2 (by decide) hR) | with_reducible apply State.putFlag_wr
    | with_reducible apply State.placeMove_wr | with_reducible apply Wr.ite | split | lift_lets

theorem State.convStop_wr (hR : [] ⊆ R) (k : Nat) (hh : Wr R zz s) : Wr R zz (State.convStop s k) := by
  have h := State.convStop_kept (T := [.adc]) (zz := s) (List.Subset.refl _) k (Kept.refl _)
  exact Wr.of_regs (Kept.regs_eq h) hh

theorem State.moveAway_wr (hR : [(0x240, 0), (0x244, 0)] ⊆ R) (k : Nat) (hh : Wr R zz s) : Wr R zz (State.moveAway s k) := by
  unfold State.moveAway
  try lift_lets
  repeat' first
    | with_reducible assumption | exact hitSub (by decide) hR
    | (intro s; refine (fun hk : Wr R zz s => ?_) ?_; clear_value s; rotate_left; subst s) | (intro v; try clear_value v)
    | with_reducible apply State.placeMove_wr | with_reducible apply State.convStop_wr
    | with_reducible apply State.dropHolds_wr | with_reducible apply State.setConv_wr
    | with_reducible apply State.adcKick_wr | with_reducible apply Wr.ite | with_reducible (apply Wr.fold; intro _ _ _)
    | split | lift_lets

theorem State.convGroup_wr (hR : [(0x270, 0), (0x2A0, 0), (0x2A4, 0), (0x1B070, 0)] ⊆ R) (cls : Nat) (hh : Wr R zz s) : Wr R
    zz (State.convGroup s cls) := by
  unfold State.convGroup
  repeat' first
    | with_reducible assumption | exact hitSub (by decide) hR | with_reducible apply State.fltFollow_wr

theorem State.convFault_wr (hR : [(0x240, 0), (0x244, 0), (0x270, 0), (0x2A0, 0), (0x2A4, 0), (0x2A8, 0), (0x5014, 0),
    (0x1B070, 0)] ⊆ R) (k : Nat) (hh : Wr R zz s) : Wr R zz (State.convFault s k) := by
  unfold State.convFault
  try lift_lets
  repeat' first
    | with_reducible assumption | exact hitSub (by decide) hR
    | (intro s; refine (fun hk : Wr R zz s => ?_) ?_; clear_value s; rotate_left; subst s) | (intro v; try clear_value v)
    | with_reducible apply State.bistCause_wr | with_reducible apply State.raise_wr | with_reducible apply State.putFlag_wr
    | with_reducible apply State.logEv_wr | with_reducible apply State.convGroup_wr | with_reducible apply State.moveAway_wr
    | with_reducible exact hit_fADC_FAULT (has2 (by decide) hR) | with_reducible apply Wr.ite

theorem State.pairFail_wr (hR : [(0x100, 0), (0x200, 0), (0x240, 0), (0x270, 0), (0x2A0, 0), (0x2A4, 0), (0x2A8, 0), (0x5014,
    0), (0x1B070, 0)] ⊆ R) (p : Nat) (hh : Wr R zz s) : Wr R zz (State.pairFail s p) := by
  unfold State.pairFail
  try lift_lets
  repeat' first
    | with_reducible assumption | exact hitSub (by decide) hR
    | (intro s; refine (fun hk : Wr R zz s => ?_) ?_; clear_value s; rotate_left; subst s) | (intro v; try clear_value v)
    | with_reducible exact hit_fADC (has2 (by decide) hR) | with_reducible apply State.putFlag_wr
    | with_reducible apply State.logEv_wr | with_reducible apply State.raise_wr | with_reducible apply State.convGroup_wr
    | with_reducible apply State.convStop_wr | with_reducible apply State.dropHolds_wr
    | with_reducible apply State.setPair_wr | with_reducible apply State.dutyHold_wr | with_reducible apply Wr.ite | split
    | lift_lets

theorem State.convReturn_wr (hR : [(0x240, 0), (0x244, 0), (0x270, 0), (0x2A0, 0), (0x2A4, 0), (0x1B070, 0)] ⊆ R) (k : Nat)
    (hh : Wr R zz s) : Wr R zz (State.convReturn s k) := by
  unfold State.convReturn
  repeat' first
    | with_reducible assumption | exact hitSub (by decide) hR | with_reducible exact hit_fADC_FAULT (has2 (by decide) hR)
    | with_reducible apply State.putFlag_wr | with_reducible apply State.placeMove_wr
    | with_reducible apply State.convGroup_wr | with_reducible apply Wr.ite | split

theorem State.pairEval_wr (hR : [(0x100, 0), (0x200, 0), (0x240, 0), (0x244, 0), (0x270, 0), (0x2A0, 0), (0x2A4, 0), (0x2A8,
    0), (0x5014, 0), (0x1B070, 0)] ⊆ R) (p : Nat) (hh : Wr R zz s) : Wr R zz (State.pairEval s p) := by
  unfold State.pairEval
  dsimp only
  split
  · refine Wr.ite hh ?_
    have h : ∀ a b c, Wr R zz (((s.setConv (2 * p) a).setConv (2 * p + 1) b).setPair p c) := fun a b c =>
      State.setPair_wr (hitSub (by decide) hR) _ _ (State.setConv_wr (hitSub (by decide) hR) _ _ (State.setConv_wr (hitSub (by decide) hR) _ _ hh))
    repeat' first
      | exact h _ _ _
      | with_reducible apply State.pairFail_wr (hitSub (by decide) hR)
      | with_reducible apply State.convFault_wr (hitSub (by decide) hR)
      | with_reducible apply Wr.ite
  · exact hh

theorem State.hkDeliver_wr (hR : [(0x200, 0), (0x208, 0), (0x220, 0), (0x2A8, 0), (0x5014, 0)] ⊆ R) (k : Nat) (it : AdcItem)
    (code : Nat) (hh : Wr R zz s) : Wr R zz (State.hkDeliver s k it code) := by
  unfold State.hkDeliver
  try lift_lets
  repeat' first
    | with_reducible assumption | exact hitSub (by decide) hR
    | (intro s; refine (fun hk : Wr R zz s => ?_) ?_; clear_value s; rotate_left; subst s) | (intro (v : Fld); subst v)
    | (intro v; try clear_value v) | with_reducible exact hit_fBST_MEAS (has2 (by decide) hR)
    | with_reducible exact hit_fPWR_TJ (has2 (by decide) hR) | with_reducible apply State.setConv_wr
    | with_reducible apply State.put_wr | with_reducible apply State.brightReading_wr
    | with_reducible apply State.bistCause_wr | with_reducible apply Wr.ite
    | fail_if_no_progress (with_reducible refine Wr.upd ?_) | split | lift_lets

theorem State.supDeliver_wr (hR : [(0x204, 0), (0x270, 0), (0x274, 0), (0x2A0, 0), (0x2A4, 0), (0x2A8, 0), (0x2004, 16),
    (0x200C, 16), (0x2800, 4), (0x2880, 4), (0x2900, 0), (0x5014, 0), (0x14000, 4), (0x1B070, 0)] ⊆ R) (k w : Nat) (hh : Wr R
    zz s) : Wr R zz (State.supDeliver s k w) := by
  unfold State.supDeliver
  dsimp only
  split
  · exact hh
  · repeat' first
      | with_reducible assumption | exact hitSub (by decide) hR | with_reducible apply State.setConv_wr
      | with_reducible apply State.supSample_wr | with_reducible apply Wr.ite

theorem State.boostSample_wr (hR : [] ⊆ R) (code : Nat) (bad : Bool) (hh : Wr R zz s) : Wr R zz (State.boostSample s code
    bad) := by
  have h := State.boostSample_kept (T := [.free, .loops]) (zz := s) (List.Subset.refl _) code bad (Kept.refl _)
  exact Wr.of_regs (Kept.regs_eq h) hh

theorem State.convDone_wr (hR : [(0x200, 0), (0x204, 0), (0x208, 0), (0x220, 0), (0x270, 0), (0x274, 0), (0x2A0, 0), (0x2A4,
    0), (0x2A8, 0), (0x2004, 16), (0x200C, 16), (0x2800, 4), (0x2880, 4), (0x2900, 0), (0x5014, 0), (0x14000, 4), (0x17600,
    4), (0x17E00, 4), (0x17F80, 4), (0x1B070, 0)] ⊆ R) (k raw : Nat) (hh : Wr R zz s) : Wr R zz (State.convDone s k raw) :=
    by
  unfold State.convDone
  try lift_lets
  repeat' first
    | with_reducible assumption | exact hitSub (by decide) hR
    | (intro s; refine (fun hk : Wr R zz s => ?_) ?_; clear_value s; rotate_left; subst s) | (intro (v : Fld); subst v)
    | (intro v; try clear_value v) | with_reducible exact hit_aADC_INJR (has2 (by decide) hR)
    | with_reducible exact hit_aADC_REGR (has2 (by decide) hR) | with_reducible apply State.adcKick_wr
    | with_reducible apply State.setConv_wr | with_reducible apply State.capResult_wr
    | with_reducible apply State.boostSample_wr | with_reducible apply State.hkDeliver_wr
    | with_reducible apply State.supDeliver_wr | with_reducible apply State.wr_wr | with_reducible apply State.seqEnd_wr
    | with_reducible apply State.obsFeed_wr | with_reducible apply Wr.ite | split | lift_lets

theorem State.queueHold_wr (hR : [] ⊆ R) (h : Hold) (hh : Wr R zz s) : Wr R zz (State.queueHold s h) := by
  have h := State.queueHold_kept (T := [.adc]) (zz := s) (List.Subset.refl _) h (Kept.refl _)
  exact Wr.of_regs (Kept.regs_eq h) hh

theorem State.chanHold_wr (hR : [(0x204, 0), (0x270, 0), (0x274, 0), (0x2A0, 0), (0x2A4, 0), (0x2A8, 0), (0x200C, 16),
    (0x2900, 0), (0x5014, 0), (0x1B070, 0)] ⊆ R) (c : Nat) (on fail : Bool) (hh : Wr R zz s) : Wr R zz (State.chanHold s c on
    fail) := by
  unfold State.chanHold
  try lift_lets
  repeat' first
    | with_reducible assumption | exact hitSub (by decide) hR
    | (intro s; refine (fun hk : Wr R zz s => ?_) ?_; clear_value s; rotate_left; subst s) | (intro (v : Fld); subst v)
    | (intro v; try clear_value v) | with_reducible exact hit_fBANK_CLOSED (has2 (by decide) hR)
    | with_reducible apply State.cmpSample_wr | with_reducible apply State.queueHold_wr | with_reducible apply Wr.ite
    | split | lift_lets

theorem State.ledHold_wr (hR : [(0x204, 0), (0x270, 0), (0x274, 0), (0x2A0, 0), (0x2A4, 0), (0x2A8, 0), (0x200C, 16),
    (0x2900, 0), (0x5014, 0), (0x1B070, 0)] ⊆ R) (c : Nat) (on fail : Bool) (hh : Wr R zz s) : Wr R zz (State.ledHold s c on
    fail) := by
  unfold State.ledHold
  try lift_lets
  repeat' first
    | with_reducible assumption | exact hitSub (by decide) hR
    | (intro s; refine (fun hk : Wr R zz s => ?_) ?_; clear_value s; rotate_left; subst s) | (intro (v : Fld); subst v)
    | (intro v; try clear_value v) | with_reducible exact hit_fBANK_CLOSED (has2 (by decide) hR)
    | with_reducible apply State.cmpSample_wr | with_reducible apply State.queueHold_wr | with_reducible apply Wr.ite
    | split | lift_lets

theorem State.pairRound_wr (hR : [] ⊆ R) (p : Nat) (hh : Wr R zz s) : Wr R zz (State.pairRound s p) := by
  have h := State.pairRound_kept (T := [.adc]) (zz := s) (List.Subset.refl _) p (Kept.refl _)
  exact Wr.of_regs (Kept.regs_eq h) hh

theorem State.reloadStart_wr (hR : [(0x17004, 0)] ⊆ R) (k : Nat) (hh : Wr R zz s) : Wr R zz (State.reloadStart s k) := by
  unfold State.reloadStart
  try lift_lets
  repeat' first
    | with_reducible assumption | exact hitSub (by decide) hR
    | (intro s; refine (fun hk : Wr R zz s => ?_) ?_; clear_value s; rotate_left; subst s) | (intro v; try clear_value v)
    | with_reducible exact hit_fRELOAD (has2 (by decide) hR) | with_reducible apply State.setConv_wr
    | with_reducible apply State.putFlag_wr | with_reducible apply Wr.ite | split | lift_lets

theorem State.reloadEnd_wr (hR : [(0x240, 0), (0x244, 0), (0x270, 0), (0x2A0, 0), (0x2A4, 0), (0x2A8, 0), (0x5014, 0),
    (0x17004, 0), (0x17F80, 4), (0x1B070, 0)] ⊆ R) (k bg : Nat) (hh : Wr R zz s) : Wr R zz (State.reloadEnd s k bg) := by
  unfold State.reloadEnd
  try lift_lets
  repeat' first
    | with_reducible assumption | exact hitSub (by decide) hR
    | (intro s; refine (fun hk : Wr R zz s => ?_) ?_; clear_value s; rotate_left; subst s) | (intro (v : Fld); subst v)
    | (intro v; try clear_value v) | with_reducible exact hit_fRELOAD (has2 (by decide) hR)
    | with_reducible exact hit_fADC_FAULT (has2 (by decide) hR) | with_reducible apply State.setConv_wr
    | with_reducible apply State.putFlag_wr | with_reducible apply State.convReturn_wr
    | with_reducible apply State.convFault_wr | with_reducible apply State.injStart_wr
    | with_reducible apply State.regStart_wr | with_reducible apply State.adcKick_wr | with_reducible apply Wr.ite
    | fail_if_no_progress (with_reducible refine Wr.upd ?_) | split | lift_lets

theorem State.refEnable_wr (hR : [(0x17000, 0)] ⊆ R) (w : Nat) (hh : Wr R zz s) : Wr R zz (State.refEnable s w) := by
  unfold State.refEnable
  try lift_lets
  repeat' first
    | with_reducible assumption | exact hitSub (by decide) hR
    | (intro s; refine (fun hk : Wr R zz s => ?_) ?_; clear_value s; rotate_left; subst s) | (intro v; try clear_value v)
    | with_reducible exact hit_aADC_REFCTL (has2 (by decide) hR) | with_reducible apply State.wr_wr
    | with_reducible apply Wr.ite | with_reducible (apply Wr.fold; intro _ _ _)
    | fail_if_no_progress (with_reducible refine Wr.upd ?_) | split | lift_lets

theorem State.seqRestart_wr (hR : [] ⊆ R) (old : State) (k : Nat) (hh : Wr R zz s) : Wr R zz (State.seqRestart s old k) := by
  have h := State.seqRestart_kept (T := [.adc]) (zz := s) (List.Subset.refl _) old k (Kept.refl _)
  exact Wr.of_regs (Kept.regs_eq h) hh

theorem State.boostStart_wr (hR : [(0x200, 0), (0x240, 0), (0x244, 0), (0x17004, 0), (0x18000, 0), (0x18100, 4), (0x18900,
    4)] ⊆ R) (hh : Wr R zz s) : Wr R zz (State.boostStart s) := by
  unfold State.boostStart
  try lift_lets
  repeat' first
    | with_reducible assumption | exact hitSub (by decide) hR
    | (intro s; refine (fun hk : Wr R zz s => ?_) ?_; clear_value s; rotate_left; subst s) | (intro (v : Fld); subst v)
    | (intro v; try clear_value v) | with_reducible apply State.gatePeriod_wr | with_reducible apply State.placeBoost_wr
    | with_reducible apply State.boostPass_wr | with_reducible apply State.loopStart_wr
    | with_reducible apply State.setConv_wr | with_reducible apply State.adcKick_wr | with_reducible apply Wr.ite
    | fail_if_no_progress (with_reducible refine Wr.upd ?_) | split | lift_lets

theorem State.setSin_wr (hR : [] ⊆ R) (c : Nat) (x : SafeIn) (hh : Wr R zz s) : Wr R zz (State.setSin s c x) := by
  have h := State.setSin_kept (T := [.sto]) (zz := s) (List.Subset.refl _) c x (Kept.refl _)
  exact Wr.of_regs (Kept.regs_eq h) hh

theorem State.setSpair_wr (hR : [] ⊆ R) (p : Nat) (x : SafePair) (hh : Wr R zz s) : Wr R zz (State.setSpair s p x) := by
  have h := State.setSpair_kept (T := [.sto]) (zz := s) (List.Subset.refl _) p x (Kept.refl _)
  exact Wr.of_regs (Kept.regs_eq h) hh

theorem State.setLine_wr (hR : [] ⊆ R) (n : Nat) (x : TpLine) (hh : Wr R zz s) : Wr R zz (State.setLine s n x) := by
  have h := State.setLine_kept (T := [.sto]) (zz := s) (List.Subset.refl _) n x (Kept.refl _)
  exact Wr.of_regs (Kept.regs_eq h) hh

theorem State.setOut_wr (hR : [] ⊆ R) (o : Nat) (x : StoOut) (hh : Wr R zz s) : Wr R zz (State.setOut s o x) := by
  have h := State.setOut_kept (T := [.sto]) (zz := s) (List.Subset.refl _) o x (Kept.refl _)
  exact Wr.of_regs (Kept.regs_eq h) hh

theorem State.pairObs_wr (hR : [] ⊆ R) (p : Nat) (hh : Wr R zz s) : Wr R zz (State.pairObs s p) := by
  have h := State.pairObs_kept (T := [.obs]) (zz := s) (List.Subset.refl _) p (Kept.refl _)
  exact Wr.of_regs (Kept.regs_eq h) hh

theorem State.outObs_wr (hR : [] ⊆ R) (o : Nat) (hh : Wr R zz s) : Wr R zz (State.outObs s o) := by
  have h := State.outObs_kept (T := [.obs]) (zz := s) (List.Subset.refl _) o (Kept.refl _)
  exact Wr.of_regs (Kept.regs_eq h) hh

theorem State.pairGroup_wr (hR : [(0x270, 0), (0x2A0, 0), (0x2A4, 0), (0x1B070, 0)] ⊆ R) (hh : Wr R zz s) : Wr R zz
    (State.pairGroup s) := by
  unfold State.pairGroup
  repeat' first
    | with_reducible assumption | exact hitSub (by decide) hR | with_reducible apply State.fltFollow_wr

theorem State.pairTo_wr (hR : [(0x270, 0), (0x290, 0), (0x2A0, 0), (0x2A4, 0), (0x2A8, 0), (0x5014, 0), (0x6004, 0), (0x600C,
    0), (0x1B070, 0)] ⊆ R) (p st : Nat) (hh : Wr R zz s) : Wr R zz (State.pairTo s p st) := by
  unfold State.pairTo
  try lift_lets
  repeat' first
    | with_reducible assumption | exact hitSub (by decide) hR
    | (intro s; refine (fun hk : Wr R zz s => ?_) ?_; clear_value s; rotate_left; subst s) | (intro v; try clear_value v)
    | with_reducible apply State.lifeCount_wr | with_reducible apply State.put_wr | with_reducible apply State.pairGroup_wr
    | with_reducible apply State.pairObs_wr | with_reducible exact hit_fPCLASS (has2 (by decide) hR)
    | with_reducible exact hit_fPSTATE (has2 (by decide) hR) | with_reducible apply Wr.ite

theorem State.pairFaultOn_wr (hR : [(0x270, 0), (0x290, 0), (0x2A0, 0), (0x2A4, 0), (0x2A8, 0), (0x5014, 0), (0x6004, 0),
    (0x600C, 0), (0x1B070, 0)] ⊆ R) (p cls c : Nat) (hh : Wr R zz s) : Wr R zz (State.pairFaultOn s p cls c) := by
  unfold State.pairFaultOn
  try lift_lets
  repeat' first
    | with_reducible assumption | exact hitSub (by decide) hR
    | (intro s; refine (fun hk : Wr R zz s => ?_) ?_; clear_value s; rotate_left; subst s) | (intro v; try clear_value v)
    | with_reducible apply State.setSpair_wr | with_reducible apply State.pairTo_wr | with_reducible apply State.raise_wr
    | with_reducible apply State.put_wr | with_reducible apply State.logEv_wr
    | with_reducible exact hit_fPCLASS (has2 (by decide) hR)

theorem State.sinLevel_wr (hR : [(0x6004, 0)] ⊆ R) (c : Nat) (closed : Bool) (hh : Wr R zz s) : Wr R zz (State.sinLevel s c
    closed) := by
  unfold State.sinLevel
  try lift_lets
  repeat' first
    | with_reducible assumption | exact hitSub (by decide) hR
    | (intro s; refine (fun hk : Wr R zz s => ?_) ?_; clear_value s; rotate_left; subst s) | (intro (v : Fld); subst v)
    | (intro v; try clear_value v) | with_reducible exact hit_fCLOSED (has2 (by decide) hR)
    | with_reducible exact hit_fPSTATE (has2 (by decide) hR) | with_reducible apply State.setSin_wr
    | with_reducible apply State.putFlag_wr | with_reducible apply State.setSpair_wr
    | with_reducible apply State.pairObs_wr | with_reducible apply Wr.ite | split | lift_lets

theorem State.nearMiss_wr (hR : [(0x270, 0), (0x290, 0), (0x2A8, 0), (0x5014, 0), (0x1B070, 0)] ⊆ R) (p c n : Nat) (hh : Wr R
    zz s) : Wr R zz (State.nearMiss s p c n) := by
  unfold State.nearMiss
  repeat' first
    | with_reducible assumption | exact hitSub (by decide) hR | with_reducible apply State.lifeCount_wr
    | with_reducible apply Wr.ite

theorem State.discSample_wr (hR : [(0x270, 0), (0x290, 0), (0x2A0, 0), (0x2A4, 0), (0x2A8, 0), (0x5014, 0), (0x6004, 0),
    (0x600C, 0), (0x6018, 4), (0x1B070, 0)] ⊆ R) (p : Nat) (hh : Wr R zz s) : Wr R zz (State.discSample s p) := by
  unfold State.discSample
  try lift_lets
  repeat' first
    | with_reducible assumption | exact hitSub (by decide) hR
    | (intro s; refine (fun hk : Wr R zz s => ?_) ?_; clear_value s; rotate_left; subst s) | (intro (v : Fld); subst v)
    | (intro v; try clear_value v) | with_reducible exact hit_fDISCNT (has2 (by decide) hR)
    | with_reducible exact hit_fPSTATE (has2 (by decide) hR) | with_reducible apply State.nearMiss_wr
    | with_reducible apply State.setSpair_wr | with_reducible apply State.put_wr
    | with_reducible apply State.pairFaultOn_wr | with_reducible apply Wr.ite | split | lift_lets

theorem State.sinFilter_wr (hR : [(0x6004, 0)] ⊆ R) (c : Nat) (l : Bool) (hh : Wr R zz s) : Wr R zz (State.sinFilter s c l)
    := by
  unfold State.sinFilter
  try lift_lets
  repeat' first
    | with_reducible assumption | exact hitSub (by decide) hR
    | (intro s; refine (fun hk : Wr R zz s => ?_) ?_; clear_value s; rotate_left; subst s) | (intro v; try clear_value v)
    | with_reducible apply State.sinLevel_wr | with_reducible apply State.setSin_wr | with_reducible apply Wr.ite

theorem State.sinEdge_wr (hR : [] ⊆ R) (c : Nat) (l : Bool) (ago : Nat) (hh : Wr R zz s) : Wr R zz (State.sinEdge s c l ago)
    := by
  have h := State.sinEdge_kept (T := [.sto]) (zz := s) (List.Subset.refl _) c l ago (Kept.refl _)
  exact Wr.of_regs (Kept.regs_eq h) hh

theorem State.sinSample_wr (hR : [(0x6004, 0)] ⊆ R) (c : Nat) (l : Bool) (ago : Nat) (hh : Wr R zz s) : Wr R zz
    (State.sinSample s c l ago) := by
  unfold State.sinSample
  try lift_lets
  repeat' first
    | with_reducible assumption | exact hitSub (by decide) hR
    | (intro s; refine (fun hk : Wr R zz s => ?_) ?_; clear_value s; rotate_left; subst s) | (intro v; try clear_value v)
    | with_reducible apply State.sinEdge_wr | with_reducible apply State.sinFilter_wr
    | with_reducible apply State.setSin_wr | with_reducible apply Wr.ite | split | lift_lets

theorem State.suspectBack_wr (hR : [] ⊆ R) (c : Nat) (hh : Wr R zz s) : Wr R zz (State.suspectBack s c) := by
  have h := State.suspectBack_kept (T := [.sto]) (zz := s) (List.Subset.refl _) c (Kept.refl _)
  exact Wr.of_regs (Kept.regs_eq h) hh

theorem State.judgeOwn_wr (hR : [(0x270, 0), (0x290, 0), (0x2A0, 0), (0x2A4, 0), (0x2A8, 0), (0x5014, 0), (0x6004, 0),
    (0x600C, 0), (0x1B070, 0)] ⊆ R) (c : Nat) (hh : Wr R zz s) : Wr R zz (State.judgeOwn s c) := by
  unfold State.judgeOwn
  try lift_lets
  repeat' first
    | with_reducible assumption | exact hitSub (by decide) hR
    | (intro s; refine (fun hk : Wr R zz s => ?_) ?_; clear_value s; rotate_left; subst s) | (intro v; try clear_value v)
    | with_reducible apply State.setSin_wr | with_reducible apply State.pairFaultOn_wr
    | with_reducible apply State.suspectBack_wr | with_reducible apply State.sinLevel_wr | with_reducible apply Wr.ite
    | split | lift_lets

theorem State.judgeForeign_wr (hR : [(0x270, 0), (0x290, 0), (0x2A0, 0), (0x2A4, 0), (0x2A8, 0), (0x5014, 0), (0x6004, 0),
    (0x600C, 0), (0x1B070, 0)] ⊆ R) (c n : Nat) (hh : Wr R zz s) : Wr R zz (State.judgeForeign s c n) := by
  unfold State.judgeForeign
  try lift_lets
  repeat' first
    | with_reducible assumption | exact hitSub (by decide) hR
    | (intro s; refine (fun hk : Wr R zz s => ?_) ?_; clear_value s; rotate_left; subst s) | (intro v; try clear_value v)
    | with_reducible apply State.setSin_wr | with_reducible apply State.pairFaultOn_wr
    | with_reducible apply State.suspectBack_wr | with_reducible apply State.sinLevel_wr | with_reducible apply Wr.ite
    | split | lift_lets

theorem State.winJudge_wr (hR : [(0x270, 0), (0x290, 0), (0x2A0, 0), (0x2A4, 0), (0x2A8, 0), (0x5014, 0), (0x6004, 0),
    (0x600C, 0), (0x1B070, 0)] ⊆ R) (n : Nat) (hh : Wr R zz s) : Wr R zz (State.winJudge s n) := by
  unfold State.winJudge
  try lift_lets
  repeat' first
    | with_reducible assumption | exact hitSub (by decide) hR
    | (intro s; refine (fun hk : Wr R zz s => ?_) ?_; clear_value s; rotate_left; subst s) | (intro v; try clear_value v)
    | with_reducible apply State.judgeOwn_wr | with_reducible apply State.judgeForeign_wr | with_reducible apply Wr.ite
    | with_reducible (apply Wr.fold; intro _ _ _) | fail_if_no_progress (with_reducible refine Wr.upd ?_) | split
    | lift_lets

theorem State.srstSample_wr (hR : [(0x6014, 0)] ⊆ R) (high : Bool) (hh : Wr R zz s) : Wr R zz (State.srstSample s high) := by
  unfold State.srstSample
  try lift_lets
  repeat' first
    | with_reducible assumption | exact hitSub (by decide) hR
    | (intro s; refine (fun hk : Wr R zz s => ?_) ?_; clear_value s; rotate_left; subst s) | (intro v; try clear_value v)
    | with_reducible apply State.putFlag_wr | with_reducible exact hit_fSRST_LEVEL (has2 (by decide) hR)
    | with_reducible exact hit_fSRST_STUCK (has2 (by decide) hR) | with_reducible apply Wr.ite
    | fail_if_no_progress (with_reducible refine Wr.upd ?_)

theorem State.lineFault_wr (hR : [(0x270, 0), (0x290, 0), (0x2A0, 0), (0x2A4, 0), (0x2A8, 0), (0x5014, 0), (0x6004, 0),
    (0x600C, 0), (0x6028, 0), (0x1B070, 0)] ⊆ R) (n cls : Nat) (hh : Wr R zz s) : Wr R zz (State.lineFault s n cls) := by
  unfold State.lineFault
  try lift_lets
  repeat' first
    | with_reducible assumption | exact hitSub (by decide) hR
    | (intro s; refine (fun hk : Wr R zz s => ?_) ?_; clear_value s; rotate_left; subst s)
    | with_reducible apply State.pairFaultOn_wr | with_reducible apply State.putFlag_wr
    | with_reducible exact hit_fTP_FAULT (has2 (by decide) hR) | with_reducible apply Wr.ite
    | with_reducible (apply Wr.fold; intro _ _ _)

theorem State.lineFail_wr (hR : [(0x270, 0), (0x290, 0), (0x2A0, 0), (0x2A4, 0), (0x2A8, 0), (0x5014, 0), (0x6004, 0),
    (0x600C, 0), (0x6028, 0), (0x1B070, 0)] ⊆ R) (n : Nat) (hh : Wr R zz s) : Wr R zz (State.lineFail s n) := by
  unfold State.lineFail
  try lift_lets
  repeat' first
    | with_reducible assumption | exact hitSub (by decide) hR
    | (intro s; refine (fun hk : Wr R zz s => ?_) ?_; clear_value s; rotate_left; subst s) | (intro v; try clear_value v)
    | with_reducible apply State.lineFault_wr | with_reducible apply State.setLine_wr | with_reducible apply Wr.ite

theorem State.lineLow_wr (hR : [(0x270, 0), (0x290, 0), (0x2A0, 0), (0x2A4, 0), (0x2A8, 0), (0x5014, 0), (0x6004, 0),
    (0x600C, 0), (0x6028, 0), (0x1B070, 0)] ⊆ R) (n : Nat) (hh : Wr R zz s) : Wr R zz (State.lineLow s n) := by
  unfold State.lineLow
  try lift_lets
  repeat' first
    | with_reducible assumption | exact hitSub (by decide) hR
    | (intro s; refine (fun hk : Wr R zz s => ?_) ?_; clear_value s; rotate_left; subst s) | (intro v; try clear_value v)
    | with_reducible exact hit_fTP_LEVEL (has2 (by decide) hR) | with_reducible apply State.putFlag_wr
    | with_reducible apply State.setLine_wr | with_reducible apply State.lineFail_wr | with_reducible apply Wr.ite | split
    | lift_lets

theorem State.linePass_wr (hR : [(0x6028, 0)] ⊆ R) (n : Nat) (hh : Wr R zz s) : Wr R zz (State.linePass s n) := by
  unfold State.linePass
  try lift_lets
  repeat' first
    | with_reducible assumption | exact hitSub (by decide) hR
    | (intro s; refine (fun hk : Wr R zz s => ?_) ?_; clear_value s; rotate_left; subst s) | (intro v; try clear_value v)
    | with_reducible apply State.putFlag_wr | with_reducible apply State.setLine_wr
    | with_reducible exact hit_fTP_FAULT (has2 (by decide) hR) | with_reducible apply Wr.ite

theorem State.windowStart_wr (hR : [] ⊆ R) (n : Nat) (hh : Wr R zz s) : Wr R zz (State.windowStart s n) := by
  have h := State.windowStart_kept (T := [.sto]) (zz := s) (List.Subset.refl _) n (Kept.refl _)
  exact Wr.of_regs (Kept.regs_eq h) hh

theorem State.windowEnd_wr (hR : [] ⊆ R) (n : Nat) (hh : Wr R zz s) : Wr R zz (State.windowEnd s n) := by
  have h := State.windowEnd_kept (T := [.sto]) (zz := s) (List.Subset.refl _) n (Kept.refl _)
  exact Wr.of_regs (Kept.regs_eq h) hh

theorem State.lineReadback_wr (hR : [(0x270, 0), (0x290, 0), (0x2A0, 0), (0x2A4, 0), (0x2A8, 0), (0x5014, 0), (0x6004, 0),
    (0x600C, 0), (0x6028, 0), (0x1B070, 0)] ⊆ R) (n : Nat) (rise below5 above15 : Bool) (hh : Wr R zz s) : Wr R zz
    (State.lineReadback s n rise below5 above15) := by
  unfold State.lineReadback
  try lift_lets
  repeat' first
    | with_reducible assumption | exact hitSub (by decide) hR
    | (intro s; refine (fun hk : Wr R zz s => ?_) ?_; clear_value s; rotate_left; subst s) | (intro v; try clear_value v)
    | with_reducible exact hit_fTP_LEVEL (has2 (by decide) hR) | with_reducible apply State.putFlag_wr
    | with_reducible apply State.setLine_wr | with_reducible apply State.linePass_wr
    | with_reducible apply State.lineFail_wr | with_reducible apply Wr.ite | split | lift_lets

theorem State.sealRow_wr (hR : [(0x6010, 0)] ⊆ R) (r bits : Nat) (hh : Wr R zz s) : Wr R zz (State.sealRow s r bits) := by
  unfold State.sealRow
  try lift_lets
  repeat' first
    | with_reducible assumption | exact hitSub (by decide) hR
    | (intro s; refine (fun hk : Wr R zz s => ?_) ?_; clear_value s; rotate_left; subst s) | (intro v; try clear_value v)
    | with_reducible exact hit_fSEAL_LAST (has2 (by decide) hR) | with_reducible apply State.put_wr
    | with_reducible apply Wr.ite | fail_if_no_progress (with_reducible refine Wr.upd ?_) | split | lift_lets

theorem State.discN_wr (hR : [(0x6014, 0)] ⊆ R) (hh : Wr R zz s) : Wr R zz (State.discN s) := by
  unfold State.discN
  repeat' first
    | with_reducible assumption | exact hitSub (by decide) hR | with_reducible apply State.put_wr
    | with_reducible exact hit_fSTO_DISC (has2 (by decide) hR) | with_reducible exact hit_fSTO_N (has2 (by decide) hR)

theorem State.sealLatch_wr (hR : [(0x2A8, 0), (0x5014, 0), (0x6010, 0), (0x6014, 0)] ⊆ R) (hh : Wr R zz s) : Wr R zz
    (State.sealLatch s) := by
  unfold State.sealLatch
  try lift_lets
  repeat' first
    | with_reducible assumption | exact hitSub (by decide) hR
    | (intro s; refine (fun hk : Wr R zz s => ?_) ?_; clear_value s; rotate_left; subst s) | (intro v; try clear_value v)
    | with_reducible exact hit_fSEAL_LATCHED (has2 (by decide) hR)
    | with_reducible exact hit_fSTO_VALID (has2 (by decide) hR)
    | with_reducible exact hit_fSTO_RESTART (has2 (by decide) hR)
    | with_reducible exact hit_fSTO_DISC (has2 (by decide) hR) | with_reducible exact hit_fSTO_MAP (has2 (by decide) hR)
    | with_reducible apply State.put_wr | with_reducible apply State.putFlag_wr | with_reducible apply State.discN_wr
    | with_reducible apply State.logFw_wr | with_reducible apply Wr.ite | split | lift_lets

theorem State.outGroup_wr (hR : [(0x270, 0), (0x2A0, 0), (0x2A4, 0), (0x1B070, 0)] ⊆ R) (cls : Nat) (hh : Wr R zz s) : Wr R
    zz (State.outGroup s cls) := by
  unfold State.outGroup
  repeat' first
    | with_reducible assumption | exact hitSub (by decide) hR | with_reducible apply State.fltFollow_wr

theorem State.outTo_wr (hR : [(0x270, 0), (0x290, 0), (0x2A8, 0), (0x5014, 0), (0x6000, 0), (0x6030, 0), (0x1B070, 0)] ⊆ R)
    (o st : Nat) (hh : Wr R zz s) : Wr R zz (State.outTo s o st) := by
  unfold State.outTo
  try lift_lets
  repeat' first
    | with_reducible assumption | exact hitSub (by decide) hR
    | (intro s; refine (fun hk : Wr R zz s => ?_) ?_; clear_value s; rotate_left; subst s) | (intro (v : Fld); subst v)
    | (intro v; try clear_value v) | with_reducible exact hit_fOSTATE (has2 (by decide) hR)
    | with_reducible exact hit_aSTO_DEMCNT (has2 (by decide) hR) | with_reducible apply State.put_wr
    | with_reducible apply State.setOut_wr | with_reducible apply State.bump_wr | with_reducible apply State.lifeCount_wr
    | with_reducible apply State.logEv_wr | with_reducible apply State.raise_wr | with_reducible apply Wr.ite | split
    | lift_lets

theorem State.outFault_wr (hR : [(0x270, 0), (0x2A0, 0), (0x2A4, 0), (0x2A8, 0), (0x5014, 0), (0x6000, 0), (0x6008, 0),
    (0x1B070, 0)] ⊆ R) (o cls : Nat) (hh : Wr R zz s) : Wr R zz (State.outFault s o cls) := by
  unfold State.outFault
  try lift_lets
  repeat' first
    | with_reducible assumption | exact hitSub (by decide) hR
    | (intro s; refine (fun hk : Wr R zz s => ?_) ?_; clear_value s; rotate_left; subst s) | (intro v; try clear_value v)
    | with_reducible apply State.raise_wr | with_reducible apply State.setOut_wr | with_reducible apply State.putFlag_wr
    | with_reducible apply State.outGroup_wr | with_reducible apply State.put_wr | with_reducible apply State.logEv_wr
    | with_reducible exact hit_fOCLASS (has2 (by decide) hR) | with_reducible exact hit_fOPULSE (has2 (by decide) hR)
    | with_reducible exact hit_fOSTATE (has2 (by decide) hR) | with_reducible apply Wr.ite
    | fail_if_no_progress (with_reducible refine Wr.upd ?_)

theorem State.pairCycle_wr (hR : [(0x270, 0), (0x290, 0), (0x2A0, 0), (0x2A4, 0), (0x2A8, 0), (0x5014, 0), (0x6004, 0),
    (0x600C, 0), (0x1B070, 0)] ⊆ R) (p : Nat) (hh : Wr R zz s) : Wr R zz (State.pairCycle s p) := by
  unfold State.pairCycle
  try lift_lets
  repeat' first
    | with_reducible assumption | exact hitSub (by decide) hR
    | (intro s; refine (fun hk : Wr R zz s => ?_) ?_; clear_value s; rotate_left; subst s) | (intro v; try clear_value v)
    | with_reducible exact hit_fPSTATE (has2 (by decide) hR) | with_reducible apply State.setSpair_wr
    | with_reducible apply State.pairTo_wr | with_reducible apply Wr.ite | split | lift_lets

theorem State.outCycle_wr (hR : [(0x270, 0), (0x290, 0), (0x2A8, 0), (0x5014, 0), (0x6000, 0), (0x6008, 0), (0x6030, 0),
    (0x1B070, 0)] ⊆ R) (epoch changed : Bool) (o : Nat) (hh : Wr R zz s) : Wr R zz (State.outCycle s epoch changed o) := by
  unfold State.outCycle
  try lift_lets
  repeat' first
    | with_reducible assumption | exact hitSub (by decide) hR
    | (intro s; refine (fun hk : Wr R zz s => ?_) ?_; clear_value s; rotate_left; subst s) | (intro v; try clear_value v)
    | with_reducible exact hit_fOSTATE (has2 (by decide) hR) | with_reducible exact hit_fOCLASS (has2 (by decide) hR)
    | with_reducible apply State.outTo_wr | with_reducible apply State.put_wr | with_reducible apply Wr.ite
    | fail_if_no_progress (with_reducible refine Wr.upd ?_) | split | lift_lets

theorem State.sendWords_wr (hR : [] ⊆ R) (hh : Wr R zz s) : Wr R zz (State.sendWords s) := by
  have h := State.sendWords_kept (T := [.sto]) (zz := s) (List.Subset.refl _)  (Kept.refl _)
  exact Wr.of_regs (Kept.regs_eq h) hh

theorem State.safetyCycle_wr (hR : [(0x270, 0), (0x290, 0), (0x2A0, 0), (0x2A4, 0), (0x2A8, 0), (0x5014, 0), (0x6000, 0),
    (0x6004, 0), (0x6008, 0), (0x600C, 0), (0x6014, 0), (0x6030, 0), (0x1B070, 0)] ⊆ R) (epoch : Bool) (hh : Wr R zz s) : Wr
    R zz (State.safetyCycle s epoch) := by
  unfold State.safetyCycle
  try lift_lets
  repeat' first
    | with_reducible assumption | exact hitSub (by decide) hR
    | (intro s; refine (fun hk : Wr R zz s => ?_) ?_; clear_value s; rotate_left; subst s) | (intro (v : Fld); subst v)
    | (intro v; try clear_value v) | with_reducible exact hit_fSTO_CHANGED (has2 (by decide) hR)
    | with_reducible apply State.pairCycle_wr | with_reducible apply State.putFlag_wr | with_reducible apply State.logEv_wr
    | with_reducible apply State.outCycle_wr | with_reducible apply State.setOut_wr
    | with_reducible apply State.outGroup_wr | with_reducible apply State.pairObs_wr | with_reducible apply State.outObs_wr
    | with_reducible apply State.sendWords_wr | with_reducible apply Wr.ite | with_reducible (apply Wr.fold; intro _ _ _)
    | fail_if_no_progress (with_reducible refine Wr.upd ?_) | split | lift_lets

theorem State.linesRise_wr (hR : [(0x6028, 0)] ⊆ R) (hh : Wr R zz s) : Wr R zz (State.linesRise s) := by
  unfold State.linesRise
  repeat' first
    | with_reducible assumption | exact hitSub (by decide) hR | with_reducible exact hit_fTP_LEVEL (has2 (by decide) hR)
    | with_reducible apply State.setLine_wr | with_reducible apply State.putFlag_wr | with_reducible apply Wr.ite
    | with_reducible (apply Wr.fold; intro _ _ _) | split

theorem State.safetyEpoch_wr (hR : [(0x270, 0), (0x290, 0), (0x2A0, 0), (0x2A4, 0), (0x2A8, 0), (0x5014, 0), (0x6000, 0),
    (0x6004, 0), (0x6008, 0), (0x600C, 0), (0x6014, 0), (0x6028, 0), (0x6030, 0), (0x1B070, 0)] ⊆ R) (hh : Wr R zz s) : Wr R
    zz (State.safetyEpoch s) := by
  unfold State.safetyEpoch
  try lift_lets
  repeat' first
    | with_reducible assumption | exact hitSub (by decide) hR
    | (intro s; refine (fun hk : Wr R zz s => ?_) ?_; clear_value s; rotate_left; subst s) | (intro v; try clear_value v)
    | with_reducible apply State.linesRise_wr | with_reducible apply State.safetyCycle_wr | with_reducible apply Wr.ite
    | fail_if_no_progress (with_reducible refine Wr.upd ?_) | split | lift_lets

theorem State.outSwitch_wr (hR : [] ⊆ R) (o : Nat) (on : Bool) (hh : Wr R zz s) : Wr R zz (State.outSwitch s o on) := by
  have h := State.outSwitch_kept (T := [.obs, .sto]) (zz := s) (List.Subset.refl _) o on (Kept.refl _)
  exact Wr.of_regs (Kept.regs_eq h) hh

theorem State.outOff_wr (hR : [] ⊆ R) (o : Nat) (hh : Wr R zz s) : Wr R zz (State.outOff s o) := by
  have h := State.outOff_kept (T := [.obs, .sto]) (zz := s) (List.Subset.refl _) o (Kept.refl _)
  exact Wr.of_regs (Kept.regs_eq h) hh

theorem State.refreshWord_wr (hR : [] ⊆ R) (o flip : Nat) (hh : Wr R zz s) : Wr R zz (State.refreshWord s o flip) := by
  have h := State.refreshWord_kept (T := [.obs, .sto]) (zz := s) (List.Subset.refl _) o flip (Kept.refl _)
  exact Wr.of_regs (Kept.regs_eq h) hh

theorem State.refreshTimeout_wr (hR : [(0x270, 0), (0x2A0, 0), (0x2A4, 0), (0x2A8, 0), (0x5014, 0), (0x1B070, 0)] ⊆ R) (o :
    Nat) (hh : Wr R zz s) : Wr R zz (State.refreshTimeout s o) := by
  unfold State.refreshTimeout
  try lift_lets
  repeat' first
    | with_reducible assumption | exact hitSub (by decide) hR | (intro v; try clear_value v)
    | with_reducible apply State.outOff_wr | with_reducible apply State.logEv_wr | with_reducible apply State.fltSet_wr
    | with_reducible apply Wr.ite

theorem State.pulseStart_wr (hR : [(0x6000, 0)] ⊆ R) (o : Nat) (again : Bool) (hh : Wr R zz s) : Wr R zz (State.pulseStart s
    o again) := by
  unfold State.pulseStart
  try lift_lets
  repeat' first
    | with_reducible assumption | exact hitSub (by decide) hR
    | (intro s; refine (fun hk : Wr R zz s => ?_) ?_; clear_value s; rotate_left; subst s) | (intro v; try clear_value v)
    | with_reducible exact hit_fOSTATE (has2 (by decide) hR) | with_reducible exact hit_fOPULSE (has2 (by decide) hR)
    | with_reducible apply State.setOut_wr | with_reducible apply State.putFlag_wr | with_reducible apply Wr.ite | split
    | lift_lets

theorem State.pulseEnd_wr (hR : [(0x6000, 0)] ⊆ R) (o : Nat) (hh : Wr R zz s) : Wr R zz (State.pulseEnd s o) := by
  unfold State.pulseEnd
  repeat' first
    | with_reducible assumption | exact hitSub (by decide) hR | with_reducible exact hit_fOPULSE (has2 (by decide) hR)
    | with_reducible apply State.setOut_wr | with_reducible apply State.putFlag_wr | with_reducible apply Wr.ite | split

theorem State.pulseOver_wr (hR : [(0x6000, 0)] ⊆ R) (o : Nat) (hh : Wr R zz s) : Wr R zz (State.pulseOver s o) := by
  unfold State.pulseOver
  try lift_lets
  repeat' first
    | with_reducible assumption | exact hitSub (by decide) hR
    | (intro s; refine (fun hk : Wr R zz s => ?_) ?_; clear_value s; rotate_left; subst s) | (intro v; try clear_value v)
    | with_reducible apply State.pulseEnd_wr | with_reducible apply Wr.ite | split | lift_lets

theorem State.pulseJudge_wr (hR : [(0x270, 0), (0x290, 0), (0x2A0, 0), (0x2A4, 0), (0x2A8, 0), (0x5014, 0), (0x6000, 0),
    (0x6008, 0), (0x602C, 0), (0x1B070, 0)] ⊆ R) (o : Nat) (hh : Wr R zz s) : Wr R zz (State.pulseJudge s o) := by
  unfold State.pulseJudge
  try lift_lets
  repeat' first
    | with_reducible assumption | exact hitSub (by decide) hR
    | (intro s; refine (fun hk : Wr R zz s => ?_) ?_; clear_value s; rotate_left; subst s) | (intro v; try clear_value v)
    | with_reducible apply State.bump_wr | with_reducible apply State.setOut_wr | with_reducible apply State.lifeCount_wr
    | with_reducible apply State.outFault_wr | with_reducible exact hit_aSTO_TESTCNT (has2 (by decide) hR)
    | with_reducible apply Wr.ite | with_reducible (apply Wr.fold; intro _ _ _)

theorem State.pulseReadback_wr (hR : [(0x270, 0), (0x290, 0), (0x2A0, 0), (0x2A4, 0), (0x2A8, 0), (0x5014, 0), (0x6000, 0),
    (0x6008, 0), (0x602C, 0), (0x1B070, 0)] ⊆ R) (o : Nat) (second : Bool) (below5 above15 : Nat) (hh : Wr R zz s) : Wr R zz
    (State.pulseReadback s o second below5 above15) := by
  unfold State.pulseReadback
  try lift_lets
  repeat' first
    | with_reducible assumption | exact hitSub (by decide) hR
    | (intro s; refine (fun hk : Wr R zz s => ?_) ?_; clear_value s; rotate_left; subst s) | (intro v; try clear_value v)
    | with_reducible apply State.setOut_wr | with_reducible apply State.pulseJudge_wr | with_reducible apply Wr.ite | split
    | lift_lets

theorem State.readbackFault_wr (hR : [(0x270, 0), (0x2A0, 0), (0x2A4, 0), (0x2A8, 0), (0x5014, 0), (0x6000, 0), (0x6008, 0),
    (0x1B070, 0)] ⊆ R) (o : Nat) (high : Bool) (hh : Wr R zz s) : Wr R zz (State.readbackFault s o high) := by
  unfold State.readbackFault
  repeat' first
    | with_reducible assumption | exact hitSub (by decide) hR | with_reducible apply State.outFault_wr
    | with_reducible apply Wr.ite | split

theorem State.testCommit_wr (hR : [(0x270, 0), (0x290, 0), (0x2A0, 0), (0x2A4, 0), (0x2A8, 0), (0x5014, 0), (0x6000, 0),
    (0x6004, 0), (0x6008, 0), (0x600C, 0), (0x6028, 0), (0x1B070, 0)] ⊆ R) (i : Nat) (onTime : Bool) (hh : Wr R zz s) : Wr R
    zz (State.testCommit s i onTime) := by
  unfold State.testCommit
  try lift_lets
  repeat' first
    | with_reducible assumption | exact hitSub (by decide) hR
    | (intro s; refine (fun hk : Wr R zz s => ?_) ?_; clear_value s; rotate_left; subst s) | (intro v; try clear_value v)
    | with_reducible apply State.lineFault_wr | with_reducible apply State.setOut_wr | with_reducible apply State.setLine_wr
    | with_reducible apply State.outFault_wr | with_reducible apply Wr.ite

theorem State.stoAllOff_wr (hR : [(0x6000, 0)] ⊆ R) (hh : Wr R zz s) : Wr R zz (State.stoAllOff s) := by
  unfold State.stoAllOff
  try lift_lets
  repeat' first
    | with_reducible assumption | exact hitSub (by decide) hR
    | (intro s; refine (fun hk : Wr R zz s => ?_) ?_; clear_value s; rotate_left; subst s) | (intro v; try clear_value v)
    | with_reducible apply State.outOff_wr | with_reducible apply State.pulseEnd_wr | with_reducible apply State.setOut_wr
    | with_reducible apply Wr.ite | with_reducible (apply Wr.fold; intro _ _ _) | split | lift_lets

theorem State.foldBin_wr (hR : [] ⊆ R) (o n : Nat) (hh : Wr R zz s) : Wr R zz (State.foldBin s o n) := by
  have h := State.foldBin_kept (T := [.life]) (zz := s) (List.Subset.refl _) o n (Kept.refl _)
  exact Wr.of_regs (Kept.regs_eq h) hh

theorem State.foldTime_wr (hR : [] ⊆ R) (on : Bool) (o n : Nat) (hh : Wr R zz s) : Wr R zz (State.foldTime s on o n) := by
  have h := State.foldTime_kept (T := [.life]) (zz := s) (List.Subset.refl _) on o n (Kept.refl _)
  exact Wr.of_regs (Kept.regs_eq h) hh

theorem State.foldCharge_wr (hR : [] ⊆ R) (c n : Nat) (hh : Wr R zz s) : Wr R zz (State.foldCharge s c n) := by
  have h := State.foldCharge_kept (T := [.life]) (zz := s) (List.Subset.refl _) c n (Kept.refl _)
  exact Wr.of_regs (Kept.regs_eq h) hh

theorem State.foldChan_wr (hR : [] ⊆ R) (n c : Nat) (hh : Wr R zz s) : Wr R zz (State.foldChan n s c) := by
  have h := State.foldChan_kept (T := [.life]) (zz := s) (List.Subset.refl _) n c (Kept.refl _)
  exact Wr.of_regs (Kept.regs_eq h) hh

theorem State.foldMax_wr (hR : [] ⊆ R) (c : Nat) (hh : Wr R zz s) : Wr R zz (State.foldMax s c) := by
  have h := State.foldMax_kept (T := [.mem]) (zz := s) (List.Subset.refl _) c (Kept.refl _)
  exact Wr.of_regs (Kept.regs_eq h) hh

theorem State.foldAsp_wr (hR : [] ⊆ R) (n a : Nat) (hh : Wr R zz s) : Wr R zz (State.foldAsp n s a) := by
  unfold State.foldAsp
  try lift_lets
  repeat' first
    | with_reducible assumption | exact hitSub (by decide) hR | (intro v; try clear_value v)
    | with_reducible apply State.foldTime_wr | with_reducible apply Wr.ite

theorem State.foldSpan_wr (hR : [] ⊆ R) (hh : Wr R zz s) : Wr R zz (State.foldSpan s) := by
  have h := State.foldSpan_kept (T := [.life]) (zz := s) (List.Subset.refl _)  (Kept.refl _)
  exact Wr.of_regs (Kept.regs_eq h) hh

theorem State.foldCounts_wr (hR : [(0x270, 0), (0x290, 0), (0x2A8, 0), (0x5014, 0), (0x1B070, 0)] ⊆ R) (hh : Wr R zz s) : Wr
    R zz (State.foldCounts s) := by
  unfold State.foldCounts
  try lift_lets
  repeat' first
    | with_reducible assumption | exact hitSub (by decide) hR
    | (intro s; refine (fun hk : Wr R zz s => ?_) ?_; clear_value s; rotate_left; subst s) | (intro v; try clear_value v)
    | with_reducible apply State.lifeCount_wr | with_reducible apply Wr.ite | with_reducible (apply Wr.fold; intro _ _ _)
    | fail_if_no_progress (with_reducible refine Wr.upd ?_)

theorem State.fold_wr (hR : [(0x270, 0), (0x290, 0), (0x2A8, 0), (0x5014, 0), (0x1B070, 0)] ⊆ R) (core : Int) (hh : Wr R zz
    s) : Wr R zz (State.fold s core) := by
  unfold State.fold
  try lift_lets
  repeat' first
    | with_reducible assumption | exact hitSub (by decide) hR
    | (intro s; refine (fun hk : Wr R zz s => ?_) ?_; clear_value s; rotate_left; subst s) | (intro v; try clear_value v)
    | with_reducible exact hit_fNW_SC0_LOST (has2 (by decide) hR)
    | with_reducible exact hit_fLIFE_RESTORE (has2 (by decide) hR)
    | with_reducible exact hit_fLIFE_AGE (has2 (by decide) hR) | with_reducible apply State.foldSpan_wr
    | with_reducible apply State.foldMax_wr | with_reducible apply State.foldCounts_wr | with_reducible apply State.put_wr
    | with_reducible apply Wr.ite | with_reducible (apply Wr.fold; intro _ _ _)
    | fail_if_no_progress (with_reducible refine Wr.upd ?_) | split | lift_lets

theorem State.satCount_wr (hR : [(0x290, 0)] ⊆ R) (hh : Wr R zz s) : Wr R zz (State.satCount s) := by
  unfold State.satCount
  try lift_lets
  repeat' first
    | with_reducible assumption | exact hitSub (by decide) hR
    | (intro s; refine (fun hk : Wr R zz s => ?_) ?_; clear_value s; rotate_left; subst s) | (intro v; try clear_value v)
    | with_reducible exact hit_fLIFE_NSAT (has2 (by decide) hR) | with_reducible apply State.put_wr
    | with_reducible apply Wr.ite | split | lift_lets

theorem State.tailCopy_wr (hR : [] ⊆ R) (hh : Wr R zz s) : Wr R zz (State.tailCopy s) := by
  have h := State.tailCopy_kept (T := [.mem]) (zz := s) (List.Subset.refl _)  (Kept.refl _)
  exact Wr.of_regs (Kept.regs_eq h) hh

theorem State.lifeHeader_wr (hR : [] ⊆ R) (hh : Wr R zz s) : Wr R zz (State.lifeHeader s) := by
  have h := State.lifeHeader_kept (T := [.mem]) (zz := s) (List.Subset.refl _)  (Kept.refl _)
  exact Wr.of_regs (Kept.regs_eq h) hh

theorem State.copyRecord_wr (hR : [] ⊆ R) (j : Nat) (hh : Wr R zz s) : Wr R zz (State.copyRecord s j) := by
  have h := State.copyRecord_kept (T := [.mem]) (zz := s) (List.Subset.refl _) j (Kept.refl _)
  exact Wr.of_regs (Kept.regs_eq h) hh

theorem State.persistBegin_wr (hR : [(0x290, 0)] ⊆ R) (why : Nat) (hh : Wr R zz s) : Wr R zz (State.persistBegin s why) := by
  unfold State.persistBegin
  try lift_lets
  repeat' first
    | with_reducible assumption | exact hitSub (by decide) hR
    | (intro s; refine (fun hk : Wr R zz s => ?_) ?_; clear_value s; rotate_left; subst s) | (intro (v : Fld); subst v)
    | (intro v; try clear_value v) | with_reducible exact hit_fLIFE_RESTORE (has2 (by decide) hR)
    | with_reducible exact hit_fLIFE_PERSIST (has2 (by decide) hR) | with_reducible apply State.tailCopy_wr
    | with_reducible apply State.lifeHeader_wr | with_reducible apply State.copyRecord_wr
    | with_reducible apply State.flash_wr | with_reducible apply State.put_wr | with_reducible apply Wr.ite
    | fail_if_no_progress (with_reducible refine Wr.upd ?_) | split | lift_lets

theorem State.persistEnd_wr (hR : [(0x290, 0)] ⊆ R) (ok : Bool) (hh : Wr R zz s) : Wr R zz (State.persistEnd s ok) := by
  unfold State.persistEnd
  try lift_lets
  repeat' first
    | with_reducible assumption | exact hitSub (by decide) hR
    | (intro s; refine (fun hk : Wr R zz s => ?_) ?_; clear_value s; rotate_left; subst s) | (intro v; try clear_value v)
    | with_reducible exact hit_fLIFE_PERSIST (has2 (by decide) hR)
    | with_reducible exact hit_fLIFE_AGE (has2 (by decide) hR) | with_reducible apply State.flash_wr
    | with_reducible apply State.put_wr | with_reducible apply Wr.ite
    | fail_if_no_progress (with_reducible refine Wr.upd ?_) | split | lift_lets

theorem State.snapshot_wr (hR : [(0x290, 0)] ⊆ R) (hh : Wr R zz s) : Wr R zz (State.snapshot s) := by
  unfold State.snapshot
  try lift_lets
  repeat' first
    | with_reducible assumption | exact hitSub (by decide) hR
    | (intro s; refine (fun hk : Wr R zz s => ?_) ?_; clear_value s; rotate_left; subst s) | (intro v; try clear_value v)
    | with_reducible exact hit_fLIFE_RESTORE (has2 (by decide) hR)
    | with_reducible exact hit_fLIFE_SNAPS (has2 (by decide) hR) | with_reducible apply State.tailCopy_wr
    | with_reducible apply State.lifeHeader_wr | with_reducible apply State.copyRecord_wr
    | with_reducible apply State.flash_wr | with_reducible apply State.put_wr | with_reducible apply Wr.ite
    | fail_if_no_progress (with_reducible refine Wr.upd ?_) | split | lift_lets

theorem State.restore_wr (hR : [(0x270, 0), (0x290, 0), (0x2A8, 0), (0x200C, 16), (0x5014, 0), (0x14000, 4), (0x1B070, 0)] ⊆
    R) (hh : Wr R zz s) : Wr R zz (State.restore s) := by
  unfold State.restore
  try lift_lets
  repeat' first
    | with_reducible assumption | exact hitSub (by decide) hR
    | (intro s; refine (fun hk : Wr R zz s => ?_) ?_; clear_value s; rotate_left; subst s) | (intro (v : Fld); subst v)
    | (intro v; try clear_value v) | with_reducible exact hit_fLIFE_RESTORE (has2 (by decide) hR)
    | with_reducible exact hit_fLIFE_SNAPS (has2 (by decide) hR)
    | with_reducible exact hit_fPWR_RESET_SEEN (has2 (by decide) hR)
    | with_reducible exact hit_aSUP_SIG (has2 (by decide) hR)
    | with_reducible exact hit_fSUP_SIG_LEARNT (has2 (by decide) hR)
    | with_reducible exact hit_fSUP_NLED_EFF (has2 (by decide) hR)
    | with_reducible exact hit_fSIG_NLED (has2 (by decide) hR) | with_reducible apply State.flash_wr
    | with_reducible apply State.put_wr | with_reducible apply State.satCount_wr | with_reducible apply State.lifeCount_wr
    | with_reducible apply State.wr_wr | with_reducible apply State.putFlag_wr | with_reducible apply State.logFw_wr
    | with_reducible apply Wr.ite | with_reducible (apply Wr.fold; intro _ _ _)
    | fail_if_no_progress (with_reducible refine Wr.upd ?_) | split | lift_lets

theorem State.logStart_wr (hR : [(0x270, 0), (0x290, 0), (0x294, 0), (0x2A8, 0), (0x5000, 0), (0x5004, 0), (0x5010, 0),
    (0x5014, 0), (0x1B070, 0), (0x1E010, 0)] ⊆ R) (hh : Wr R zz s) : Wr R zz (State.logStart s) := by
  unfold State.logStart
  try lift_lets
  repeat' first
    | with_reducible assumption | exact hitSub (by decide) hR
    | (intro s; refine (fun hk : Wr R zz s => ?_) ?_; clear_value s; rotate_left; subst s) | (intro v; try clear_value v)
    | with_reducible apply State.writeRec_wr | with_reducible apply State.flushNw_wr
    | with_reducible exact hit_fLIFE_RESTORE (has2 (by decide) hR) | with_reducible apply Wr.ite
    | fail_if_no_progress (with_reducible refine Wr.upd ?_)

theorem State.lifeClearChan_wr (hR : [(0x290, 0), (0x2A8, 0), (0x5014, 0)] ⊆ R) (c : Nat) (hh : Wr R zz s) : Wr R zz
    (State.lifeClearChan s c) := by
  unfold State.lifeClearChan
  try lift_lets
  repeat' first
    | with_reducible assumption | exact hitSub (by decide) hR
    | (intro s; refine (fun hk : Wr R zz s => ?_) ?_; clear_value s; rotate_left; subst s) | (intro v; try clear_value v)
    | with_reducible apply State.satCount_wr | with_reducible apply State.logFw_wr | with_reducible apply Wr.ite
    | fail_if_no_progress (with_reducible refine Wr.upd ?_) | split | lift_lets

theorem State.lifeClearDev_wr (hR : [(0x290, 0), (0x2A8, 0), (0x5014, 0)] ⊆ R) (hh : Wr R zz s) : Wr R zz (State.lifeClearDev
    s) := by
  unfold State.lifeClearDev
  try lift_lets
  repeat' first
    | with_reducible assumption | exact hitSub (by decide) hR
    | (intro s; refine (fun hk : Wr R zz s => ?_) ?_; clear_value s; rotate_left; subst s) | (intro v; try clear_value v)
    | with_reducible apply State.satCount_wr | with_reducible apply State.logFw_wr | with_reducible apply Wr.ite
    | fail_if_no_progress (with_reducible refine Wr.upd ?_) | split | lift_lets

theorem State.lifeCmd_wr (hR : [(0x290, 0), (0x2A8, 0), (0x5014, 0)] ⊆ R) (w : Nat) (hh : Wr R zz s) : Wr R zz (State.lifeCmd
    s w) := by
  unfold State.lifeCmd
  repeat' first
    | with_reducible assumption | exact hitSub (by decide) hR | with_reducible apply State.lifeClearDev_wr
    | with_reducible apply State.lifeClearChan_wr | with_reducible apply Wr.ite

theorem State.recordArrives_wr (hR : [(0x270, 0), (0x290, 0), (0x294, 0), (0x2A8, 0), (0x5000, 0), (0x5004, 0), (0x5010, 0),
    (0x5014, 0), (0x1B070, 0), (0x1E010, 0)] ⊆ R) (hh : Wr R zz s) : Wr R zz (State.recordArrives s) := by
  unfold State.recordArrives
  try lift_lets
  repeat' first
    | with_reducible assumption | exact hitSub (by decide) hR | (intro v; try clear_value v)
    | with_reducible apply State.writeRec_wr | with_reducible apply Wr.ite
    | fail_if_no_progress (with_reducible refine Wr.upd ?_) | split

theorem State.evtRdseq_wr (hR : [(0x270, 0), (0x5008, 0), (0x1B070, 0)] ⊆ R) (w : Nat) (hh : Wr R zz s) : Wr R zz
    (State.evtRdseq s w) := by
  unfold State.evtRdseq
  repeat' first
    | with_reducible assumption | exact hitSub (by decide) hR | with_reducible apply State.wr_wr
    | with_reducible apply State.evtThreshold_wr | with_reducible exact hit_aEVT_RDSEQ (has2 (by decide) hR)

theorem State.evtThresh_wr (hR : [(0x270, 0), (0x500C, 0), (0x1B070, 0)] ⊆ R) (w : Nat) (hh : Wr R zz s) : Wr R zz
    (State.evtThresh s w) := by
  unfold State.evtThresh
  repeat' first
    | with_reducible assumption | exact hitSub (by decide) hR | with_reducible apply State.wr_wr
    | with_reducible apply State.evtThreshold_wr | with_reducible exact hit_aEVT_THRESH (has2 (by decide) hR)

theorem State.fallbackChan_wr (hR : [(0x200C, 16)] ⊆ R) (c : Nat) (hh : Wr R zz s) : Wr R zz (State.fallbackChan s c) := by
  unfold State.fallbackChan
  try lift_lets
  repeat' first
    | with_reducible assumption | exact hitSub (by decide) hR
    | (intro s; refine (fun hk : Wr R zz s => ?_) ?_; clear_value s; rotate_left; subst s) | (intro (v : Fld); subst v)
    | (intro v; try clear_value v) | with_reducible apply State.litStep_wr | with_reducible apply State.setChan_wr
    | with_reducible apply Wr.ite | split | lift_lets

theorem State.fallbackBank_wr (hR : [(0x204, 0)] ⊆ R) (n : Nat) (hh : Wr R zz s) : Wr R zz (State.fallbackBank s n) := by
  unfold State.fallbackBank
  try lift_lets
  repeat' first
    | with_reducible assumption | exact hitSub (by decide) hR | (intro v; try clear_value v)
    | with_reducible apply State.bankClose_wr | with_reducible apply State.bankOpen_wr | with_reducible apply Wr.ite

theorem State.mornDrop_wr (hR : [(0x274, 0)] ⊆ R) (hh : Wr R zz s) : Wr R zz (State.mornDrop s) := by
  unfold State.mornDrop
  try lift_lets
  repeat' first
    | with_reducible assumption | exact hitSub (by decide) hR
    | (intro s; refine (fun hk : Wr R zz s => ?_) ?_; clear_value s; rotate_left; subst s) | (intro v; try clear_value v)
    | with_reducible apply State.putFlag_wr | with_reducible exact hit_fMORN_DEFERRED (has2 (by decide) hR)
    | with_reducible exact hit_fMORN_RUNNING (has2 (by decide) hR) | with_reducible apply Wr.ite
    | fail_if_no_progress (with_reducible refine Wr.upd ?_)

theorem State.midnightEnter_wr (hR : [(0x200, 0), (0x204, 0), (0x240, 0), (0x270, 0), (0x274, 0), (0x280, 0), (0x290, 0),
    (0x294, 0), (0x2A0, 0), (0x2A4, 0), (0x2A8, 0), (0x200C, 16), (0x2900, 0), (0x5014, 0), (0x6000, 0), (0x17000, 0),
    (0x1B070, 0)] ⊆ R) (cause : Nat) (hh : Wr R zz s) : Wr R zz (State.midnightEnter s cause) := by
  unfold State.midnightEnter
  try lift_lets
  repeat' first
    | with_reducible assumption | exact hitSub (by decide) hR
    | (intro s; refine (fun hk : Wr R zz s => ?_) ?_; clear_value s; rotate_left; subst s) | (intro v; try clear_value v)
    | with_reducible exact hit_fNW_MN_CAUSE (has2 (by decide) hR)
    | with_reducible exact hit_fPWR_STATE (has2 (by decide) hR)
    | with_reducible exact hit_fPWR_DUSK_PEND (has2 (by decide) hR)
    | with_reducible exact hit_fBST_MODE (has2 (by decide) hR) | with_reducible exact hit_fMTX_RUN (has2 (by decide) hR)
    | with_reducible apply State.put_wr | with_reducible apply State.putFlag_wr | with_reducible apply State.mornDrop_wr
    | with_reducible apply State.bistStop_wr | with_reducible apply State.fltSet_wr
    | with_reducible apply State.driveReady_wr | with_reducible apply State.stoAllOff_wr
    | with_reducible apply State.gateLow_wr | with_reducible apply State.fallbackChan_wr
    | with_reducible apply State.fallbackBank_wr | with_reducible apply State.ledsDark_wr
    | with_reducible apply State.logFw_wr | with_reducible apply State.capFreeze_wr
    | with_reducible apply State.persistBegin_wr | with_reducible apply Wr.ite
    | with_reducible (apply Wr.fold; intro _ _ _) | fail_if_no_progress (with_reducible refine Wr.upd ?_) | split
    | lift_lets

theorem State.setLink_wr (hR : [] ⊆ R) (l : Link) (hh : Wr R zz s) : Wr R zz (State.setLink s l) := by
  have h := State.setLink_kept (T := [.link]) (zz := s) (List.Subset.refl _) l (Kept.refl _)
  exact Wr.of_regs (Kept.regs_eq h) hh

theorem State.linkLost_wr (hR : [(0x200, 0), (0x204, 0), (0x240, 0), (0x270, 0), (0x274, 0), (0x280, 0), (0x290, 0), (0x294,
    0), (0x2A0, 0), (0x2A4, 0), (0x2A8, 0), (0x200C, 16), (0x2900, 0), (0x5014, 0), (0x6000, 0), (0x17000, 0), (0x1B070, 0)]
    ⊆ R) (hh : Wr R zz s) : Wr R zz (State.linkLost s) := by
  unfold State.linkLost
  try lift_lets
  repeat' first
    | with_reducible assumption | exact hitSub (by decide) hR
    | (intro s; refine (fun hk : Wr R zz s => ?_) ?_; clear_value s; rotate_left; subst s) | (intro v; try clear_value v)
    | with_reducible apply State.setLink_wr | with_reducible apply State.midnightEnter_wr | with_reducible apply Wr.ite
    | fail_if_no_progress (with_reducible refine Wr.upd ?_) | split | lift_lets

theorem State.linkNarrow_wr (hR : [(0x200, 0), (0x204, 0), (0x240, 0), (0x270, 0), (0x274, 0), (0x280, 0), (0x290, 0),
    (0x294, 0), (0x2A0, 0), (0x2A4, 0), (0x2A8, 0), (0x200C, 16), (0x2900, 0), (0x5014, 0), (0x6000, 0), (0x17000, 0),
    (0x1B070, 0)] ⊆ R) (lane : Nat) (hh : Wr R zz s) : Wr R zz (State.linkNarrow s lane) := by
  unfold State.linkNarrow
  try lift_lets
  repeat' first
    | with_reducible assumption | exact hitSub (by decide) hR
    | (intro s; refine (fun hk : Wr R zz s => ?_) ?_; clear_value s; rotate_left; subst s) | (intro (v : Fld); subst v)
    | (intro v; try clear_value v) | with_reducible apply State.linkLost_wr | with_reducible apply State.bistCause_wr
    | with_reducible apply State.setLink_wr | with_reducible apply State.logEv_wr | with_reducible apply State.raise_wr
    | with_reducible apply State.fltSet_wr | with_reducible apply Wr.ite | split | lift_lets

theorem State.laneErrors_wr (hR : [] ⊆ R) (dir bad : Nat) (hh : Wr R zz s) : Wr R zz (State.laneErrors s dir bad) := by
  have h := State.laneErrors_kept (T := [.link]) (zz := s) (List.Subset.refl _) dir bad (Kept.refl _)
  exact Wr.of_regs (Kept.regs_eq h) hh

theorem State.linkWear_wr (hR : [(0x200, 0), (0x204, 0), (0x240, 0), (0x270, 0), (0x274, 0), (0x280, 0), (0x290, 0), (0x294,
    0), (0x2A0, 0), (0x2A4, 0), (0x2A8, 0), (0x200C, 16), (0x2900, 0), (0x5014, 0), (0x6000, 0), (0x17000, 0), (0x1B070, 0)]
    ⊆ R) (dir bad : Nat) (again : Bool) (hh : Wr R zz s) : Wr R zz (State.linkWear s dir bad again) := by
  unfold State.linkWear
  try lift_lets
  repeat' first
    | with_reducible assumption | exact hitSub (by decide) hR
    | (intro s; refine (fun hk : Wr R zz s => ?_) ?_; clear_value s; rotate_left; subst s) | (intro v; try clear_value v)
    | with_reducible apply State.linkLost_wr | with_reducible apply State.linkNarrow_wr | with_reducible apply Wr.ite
    | split | lift_lets

theorem State.seqError_wr (hR : [(0x200, 0), (0x204, 0), (0x240, 0), (0x270, 0), (0x274, 0), (0x280, 0), (0x290, 0), (0x294,
    0), (0x2A0, 0), (0x2A4, 0), (0x2A8, 0), (0x200C, 16), (0x2900, 0), (0x5014, 0), (0x6000, 0), (0x17000, 0), (0x1B070, 0)]
    ⊆ R) (hh : Wr R zz s) : Wr R zz (State.seqError s) := by
  unfold State.seqError
  try lift_lets
  repeat' first
    | with_reducible assumption | exact hitSub (by decide) hR
    | (intro s; refine (fun hk : Wr R zz s => ?_) ?_; clear_value s; rotate_left; subst s) | (intro v; try clear_value v)
    | with_reducible apply State.linkLost_wr | with_reducible apply State.setLink_wr | with_reducible apply Wr.ite

theorem State.linkDone_wr (hR : [] ⊆ R) (dir : Nat) (w : Nat × Nat) (hh : Wr R zz s) : Wr R zz (State.linkDone s dir w) := by
  have h := State.linkDone_kept (T := [.link]) (zz := s) (List.Subset.refl _) dir w (Kept.refl _)
  exact Wr.of_regs (Kept.regs_eq h) hh

theorem State.linkTransfer_wr (hR : [(0x200, 0), (0x204, 0), (0x240, 0), (0x270, 0), (0x274, 0), (0x280, 0), (0x290, 0),
    (0x294, 0), (0x2A0, 0), (0x2A4, 0), (0x2A8, 0), (0x200C, 16), (0x2900, 0), (0x5014, 0), (0x6000, 0), (0x17000, 0),
    (0x1B070, 0)] ⊆ R) (dir : Nat) (x : Xfer) (hh : Wr R zz s) : Wr R zz (State.linkTransfer s dir x) := by
  unfold State.linkTransfer
  try lift_lets
  repeat' first
    | with_reducible assumption | exact hitSub (by decide) hR
    | (intro s; refine (fun hk : Wr R zz s => ?_) ?_; clear_value s; rotate_left; subst s) | (intro v; try clear_value v)
    | with_reducible apply State.setLink_wr | with_reducible apply State.linkLost_wr
    | with_reducible apply State.seqError_wr | with_reducible apply State.laneErrors_wr
    | with_reducible apply State.linkWear_wr | with_reducible apply Wr.ite | split | lift_lets

theorem State.timeUntrusted_wr (hR : [(0x270, 0), (0x2A8, 0), (0x300C, 0), (0x5014, 0), (0x1B070, 0)] ⊆ R) (cause : Nat) (hh
    : Wr R zz s) : Wr R zz (State.timeUntrusted s cause) := by
  unfold State.timeUntrusted
  try lift_lets
  repeat' first
    | with_reducible assumption | exact hitSub (by decide) hR
    | (intro s; refine (fun hk : Wr R zz s => ?_) ?_; clear_value s; rotate_left; subst s) | (intro v; try clear_value v)
    | with_reducible exact hit_fTIME_STATE (has2 (by decide) hR)
    | with_reducible exact hit_fTIME_CAUSE (has2 (by decide) hR) | with_reducible apply State.put_wr
    | with_reducible apply State.logEv_wr | with_reducible apply State.raise_wr | with_reducible apply Wr.ite
    | fail_if_no_progress (with_reducible refine Wr.upd ?_) | split | lift_lets

theorem State.gridLost_wr (hR : [(0x100, 0), (0x270, 0), (0x2A0, 0), (0x2A4, 0), (0x2A8, 0), (0x300C, 0), (0x5014, 0),
    (0x1B070, 0)] ⊆ R) (hh : Wr R zz s) : Wr R zz (State.gridLost s) := by
  unfold State.gridLost
  try lift_lets
  repeat' first
    | with_reducible assumption | exact hitSub (by decide) hR
    | (intro s; refine (fun hk : Wr R zz s => ?_) ?_; clear_value s; rotate_left; subst s)
    | with_reducible apply State.bistCause_wr | with_reducible apply State.putFlag_wr
    | with_reducible apply State.timeUntrusted_wr | with_reducible apply State.logEv_wr
    | with_reducible apply State.fltSet_wr | with_reducible exact hit_fGRID_SRC (has2 (by decide) hR)
    | with_reducible exact hit_fGRID_XTAL_OK (has2 (by decide) hR) | with_reducible apply Wr.ite

theorem State.vcoreLow_wr (hR : [(0x100, 0), (0x270, 0), (0x2A0, 0), (0x2A4, 0), (0x1B070, 0)] ⊆ R) (low : Bool) (hh : Wr R
    zz s) : Wr R zz (State.vcoreLow s low) := by
  unfold State.vcoreLow
  repeat' first
    | with_reducible assumption | exact hitSub (by decide) hR | with_reducible apply State.fltFollow_wr
    | with_reducible apply State.bistCause_wr | with_reducible apply State.putFlag_wr
    | with_reducible exact hit_fGRID_VCORE_LOW (has2 (by decide) hR) | with_reducible apply Wr.ite

theorem State.deadlineGroup_wr (hR : [(0x270, 0), (0x2A0, 0), (0x2A4, 0), (0x1B070, 0)] ⊆ R) (hh : Wr R zz s) : Wr R zz
    (State.deadlineGroup s) := by
  unfold State.deadlineGroup
  repeat' first
    | with_reducible assumption | exact hitSub (by decide) hR | with_reducible apply State.fltFollow_wr

theorem State.setRun_wr (hR : [(0x160, 0)] ⊆ R) (k n : Nat) (hh : Wr R zz s) : Wr R zz (State.setRun s k n) := by
  unfold State.setRun
  try lift_lets
  repeat' first
    | with_reducible assumption | exact hitSub (by decide) hR
    | (intro s; refine (fun hk : Wr R zz s => ?_) ?_; clear_value s; rotate_left; subst s) | (intro v; try clear_value v)
    | with_reducible apply State.put_wr | with_reducible exact hit_fDLM_RUN (has2 (by decide) hR)
    | with_reducible apply Wr.ite | fail_if_no_progress (with_reducible refine Wr.upd ?_)

theorem State.ruleStall_wr (hR : [(0x100, 0), (0x270, 0), (0x2A0, 0), (0x2A4, 0), (0x2A8, 0), (0x5014, 0), (0x1B070, 0)] ⊆ R)
    (hh : Wr R zz s) : Wr R zz (State.ruleStall s) := by
  unfold State.ruleStall
  try lift_lets
  repeat' first
    | with_reducible assumption | exact hitSub (by decide) hR
    | (intro s; refine (fun hk : Wr R zz s => ?_) ?_; clear_value s; rotate_left; subst s) | (intro v; try clear_value v)
    | with_reducible apply State.putFlag_wr | with_reducible apply State.driveReady_wr | with_reducible apply State.logEv_wr
    | with_reducible apply State.fltSet_wr | with_reducible exact hit_fGRID_RULE_STALL (has2 (by decide) hR)
    | with_reducible apply Wr.ite | fail_if_no_progress (with_reducible refine Wr.upd ?_)

theorem State.deadlineMiss_wr (hR : [(0x100, 0), (0x140, 4), (0x160, 0), (0x200, 0), (0x270, 0), (0x2A0, 0), (0x2A4, 0),
    (0x2A8, 0), (0x5014, 0), (0x1B070, 0)] ⊆ R) (k : Nat) (hh : Wr R zz s) : Wr R zz (State.deadlineMiss s k) := by
  unfold State.deadlineMiss
  try lift_lets
  repeat' first
    | with_reducible assumption | exact hitSub (by decide) hR
    | (intro s; refine (fun hk : Wr R zz s => ?_) ?_; clear_value s; rotate_left; subst s) | (intro v; try clear_value v)
    | with_reducible apply State.bump_wr | with_reducible apply State.lifeAcc_wr | with_reducible apply State.raise_wr
    | with_reducible apply State.ruleStall_wr | with_reducible apply State.dutyHold_wr | with_reducible apply State.setRun_wr
    | with_reducible apply State.logEv_wr | with_reducible apply State.deadlineGroup_wr
    | with_reducible exact hit_aDEV_DLM_CNT (has2 (by decide) hR) | with_reducible apply Wr.ite
    | fail_if_no_progress (with_reducible refine Wr.upd ?_)

theorem State.deadlineMet_wr (hR : [(0x160, 0), (0x270, 0), (0x2A0, 0), (0x2A4, 0), (0x2A8, 0), (0x5014, 0), (0x1B070, 0)] ⊆
    R) (k : Nat) (hh : Wr R zz s) : Wr R zz (State.deadlineMet s k) := by
  unfold State.deadlineMet
  try lift_lets
  repeat' first
    | with_reducible assumption | exact hitSub (by decide) hR
    | (intro s; refine (fun hk : Wr R zz s => ?_) ?_; clear_value s; rotate_left; subst s) | (intro v; try clear_value v)
    | with_reducible apply State.setRun_wr | with_reducible apply State.logEv_wr
    | with_reducible apply State.deadlineGroup_wr | with_reducible apply Wr.ite
    | fail_if_no_progress (with_reducible refine Wr.upd ?_)

theorem State.deadlineCount_wr (hR : [(0x100, 0), (0x140, 4), (0x160, 0), (0x200, 0), (0x270, 0), (0x2A0, 0), (0x2A4, 0),
    (0x2A8, 0), (0x5014, 0), (0x1B070, 0)] ⊆ R) (k : Nat) (ok : Bool) (hh : Wr R zz s) : Wr R zz (State.deadlineCount s k ok)
    := by
  unfold State.deadlineCount
  repeat' first
    | with_reducible assumption | exact hitSub (by decide) hR | with_reducible apply State.deadlineMet_wr
    | with_reducible apply State.deadlineMiss_wr | with_reducible apply Wr.ite

theorem State.holdResume_wr (hR : [(0x100, 0), (0x200, 0), (0x270, 0), (0x2A0, 0), (0x2A4, 0), (0x1B070, 0)] ⊆ R) (hh : Wr R
    zz s) : Wr R zz (State.holdResume s) := by
  unfold State.holdResume
  try lift_lets
  repeat' first
    | with_reducible assumption | exact hitSub (by decide) hR
    | (intro s; refine (fun hk : Wr R zz s => ?_) ?_; clear_value s; rotate_left; subst s) | (intro (v : Fld); subst v)
    | (intro v; try clear_value v) | with_reducible exact hit_fGRID_DLM_HOLD (has2 (by decide) hR)
    | with_reducible exact hit_fBST_MODE (has2 (by decide) hR) | with_reducible apply State.putFlag_wr
    | with_reducible apply State.put_wr | with_reducible apply State.boostPass_wr | with_reducible apply State.setLoop_wr
    | with_reducible apply State.boostGroup_wr | with_reducible apply Wr.ite | split | lift_lets

theorem State.stallClear_wr (hR : [(0x100, 0), (0x270, 0), (0x2A0, 0), (0x2A4, 0), (0x1B070, 0)] ⊆ R) (hh : Wr R zz s) : Wr R
    zz (State.stallClear s) := by
  unfold State.stallClear
  repeat' first
    | with_reducible assumption | exact hitSub (by decide) hR | with_reducible apply State.deadlineGroup_wr
    | with_reducible apply State.putFlag_wr | with_reducible exact hit_fGRID_RULE_STALL (has2 (by decide) hR)
    | with_reducible apply Wr.ite

theorem State.lateResult_wr (hR : [(0x16108, 0)] ⊆ R) (k i : Nat) (hh : Wr R zz s) : Wr R zz (State.lateResult s k i) := by
  unfold State.lateResult
  try lift_lets
  repeat' first
    | with_reducible assumption | exact hitSub (by decide) hR
    | (intro s; refine (fun hk : Wr R zz s => ?_) ?_; clear_value s; rotate_left; subst s) | (intro (v : Fld); subst v)
    | (intro v; try clear_value v) | with_reducible apply State.setLoop_wr | with_reducible apply State.ruleWalked_wr
    | with_reducible apply Wr.ite | fail_if_no_progress (with_reducible refine Wr.upd ?_) | split | lift_lets

theorem State.setpointArrival_wr (hR : [(0x200C, 16)] ⊆ R) (hh : Wr R zz s) : Wr R zz (State.setpointArrival s) := by
  unfold State.setpointArrival
  repeat' first
    | with_reducible assumption | exact hitSub (by decide) hR | with_reducible apply State.arrive_wr
    | with_reducible apply State.linkDone_wr | with_reducible apply Wr.ite | with_reducible (apply Wr.fold; intro _ _ _)
    | split

theorem State.sfcEval_wr (hR : [] ⊆ R) (hh : Wr R zz s) : Wr R zz (State.sfcEval s) := by
  have h := State.sfcEval_kept (T := [.rule, .res]) (zz := s) (List.Subset.refl _)  (Kept.refl _)
  exact Wr.of_regs (Kept.regs_eq h) hh

theorem State.hazardMismatch_wr (hR : [(0x234, 0), (0x270, 0), (0x2A0, 0), (0x2A4, 0), (0x2A8, 0), (0x5014, 0), (0x1B070, 0)]
    ⊆ R) (n entry check first : Nat) (hh : Wr R zz s) : Wr R zz (State.hazardMismatch s n entry check first) := by
  unfold State.hazardMismatch
  try lift_lets
  repeat' first
    | with_reducible assumption | exact hitSub (by decide) hR
    | (intro s; refine (fun hk : Wr R zz s => ?_) ?_; clear_value s; rotate_left; subst s)
    | with_reducible apply State.bump_wr | with_reducible apply State.raise_wr | with_reducible apply State.logEv_wr
    | with_reducible apply State.fltSet_wr | with_reducible exact hit_aDEV_XCHK_CNT (has2 (by decide) hR)

theorem State.xDemand_wr (hR : [(0x200, 0), (0x204, 0), (0x234, 0), (0x240, 0), (0x270, 0), (0x274, 0), (0x280, 0), (0x290,
    0), (0x294, 0), (0x2A0, 0), (0x2A4, 0), (0x2A8, 0), (0x200C, 16), (0x2900, 0), (0x5014, 0), (0x6000, 0), (0x17000, 0),
    (0x1B070, 0)] ⊆ R) (n : Nat) (e : RuleEntry) (hh : Wr R zz s) : Wr R zz (State.xDemand s n e) := by
  unfold State.xDemand
  try lift_lets
  repeat' first
    | with_reducible assumption | exact hitSub (by decide) hR
    | (intro s; refine (fun hk : Wr R zz s => ?_) ?_; clear_value s; rotate_left; subst s) | (intro v; try clear_value v)
    | with_reducible apply State.midnightEnter_wr | with_reducible apply State.setAsp_wr
    | with_reducible apply State.hazardMismatch_wr | with_reducible apply Wr.ite
    | fail_if_no_progress (with_reducible refine Wr.upd ?_) | split

theorem State.xLight_wr (hR : [(0x200, 0), (0x204, 0), (0x234, 0), (0x240, 0), (0x270, 0), (0x274, 0), (0x280, 0), (0x290,
    0), (0x294, 0), (0x2A0, 0), (0x2A4, 0), (0x2A8, 0), (0x200C, 16), (0x2900, 0), (0x5014, 0), (0x6000, 0), (0x17000, 0),
    (0x1B070, 0)] ⊆ R) (n : Nat) (e : RuleEntry) (hh : Wr R zz s) : Wr R zz (State.xLight s n e) := by
  unfold State.xLight
  try lift_lets
  repeat' first
    | with_reducible assumption | exact hitSub (by decide) hR
    | (intro s; refine (fun hk : Wr R zz s => ?_) ?_; clear_value s; rotate_left; subst s) | (intro v; try clear_value v)
    | with_reducible apply State.midnightEnter_wr | with_reducible apply State.setAsp_wr
    | with_reducible apply State.hazardMismatch_wr | with_reducible exact hit_fNW_FROZEN (has2 (by decide) hR)
    | with_reducible apply Wr.ite | fail_if_no_progress (with_reducible refine Wr.upd ?_) | split

theorem State.xAspect_wr (hR : [(0x200, 0), (0x204, 0), (0x234, 0), (0x240, 0), (0x270, 0), (0x274, 0), (0x280, 0), (0x290,
    0), (0x294, 0), (0x2A0, 0), (0x2A4, 0), (0x2A8, 0), (0x200C, 16), (0x2900, 0), (0x5014, 0), (0x6000, 0), (0x17000, 0),
    (0x1B070, 0)] ⊆ R) (gs : List (List RuleEntry × Option RuleEntry)) (n : Nat) (hh : Wr R zz s) : Wr R zz (State.xAspect gs
    s n) := by
  unfold State.xAspect
  try lift_lets
  repeat' first
    | with_reducible assumption | exact hitSub (by decide) hR
    | (intro s; refine (fun hk : Wr R zz s => ?_) ?_; clear_value s; rotate_left; subst s) | (intro v; try clear_value v)
    | with_reducible apply State.setAsp_wr | with_reducible apply State.xLight_wr | with_reducible apply State.xDemand_wr
    | with_reducible apply Wr.ite | fail_if_no_progress (with_reducible refine Wr.upd ?_) | split

theorem State.xShow_wr (hR : [(0x230, 0), (0x270, 0), (0x2A0, 0), (0x2A4, 0), (0x1B070, 0)] ⊆ R) (hh : Wr R zz s) : Wr R zz
    (State.xShow s) := by
  unfold State.xShow
  try lift_lets
  repeat' first
    | with_reducible assumption | exact hitSub (by decide) hR
    | (intro s; refine (fun hk : Wr R zz s => ?_) ?_; clear_value s; rotate_left; subst s) | (intro v; try clear_value v)
    | with_reducible apply State.fltFollow_wr | with_reducible apply State.putFlag_wr | with_reducible apply State.put_wr
    | with_reducible exact hit_fXCHK_DEMAND (has2 (by decide) hR)
    | with_reducible exact hit_fXCHK_FIRST (has2 (by decide) hR) | with_reducible exact hit_fXCHK_LIGHT (has2 (by decide) hR)

theorem State.xBreak_wr (hR : [] ⊆ R) (gs : List (List RuleEntry × Option RuleEntry)) (hh : Wr R zz s) : Wr R zz
    (State.xBreak gs s) := by
  have h := State.xBreak_kept (T := [.res]) (zz := s) (List.Subset.refl _) gs (Kept.refl _)
  exact Wr.of_regs (Kept.regs_eq h) hh

theorem State.xCheck_wr (hR : [(0x200, 0), (0x204, 0), (0x230, 0), (0x234, 0), (0x240, 0), (0x270, 0), (0x274, 0), (0x280,
    0), (0x290, 0), (0x294, 0), (0x2A0, 0), (0x2A4, 0), (0x2A8, 0), (0x200C, 16), (0x2900, 0), (0x5014, 0), (0x6000, 0),
    (0x17000, 0), (0x1B070, 0)] ⊆ R) (finished : Bool) (hh : Wr R zz s) : Wr R zz (State.xCheck s finished) := by
  unfold State.xCheck
  try lift_lets
  repeat' first
    | with_reducible assumption | exact hitSub (by decide) hR
    | (intro s; refine (fun hk : Wr R zz s => ?_) ?_; clear_value s; rotate_left; subst s) | (intro (v : Fld); subst v)
    | (intro v; try clear_value v) | with_reducible exact hit_fXCHK_ACTIVE (has2 (by decide) hR)
    | with_reducible exact hit_fXCHK_SUSP (has2 (by decide) hR)
    | with_reducible exact hit_fXCHK_STALL (has2 (by decide) hR) | with_reducible apply State.sfcEval_wr
    | with_reducible apply State.putFlag_wr | with_reducible apply State.xBreak_wr | with_reducible apply State.xShow_wr
    | with_reducible apply State.xAspect_wr | with_reducible apply State.logEv_wr | with_reducible apply State.fltSet_wr
    | with_reducible apply Wr.ite | with_reducible (apply Wr.fold; intro _ _ _)
    | fail_if_no_progress (with_reducible refine Wr.upd ?_) | split | lift_lets

end Sys2Proof.Machine
end

