-- ==== Sys2Proof/Laws/RegsNet.lean ====
section
/-! SUPPORT. Which registers each operation may write, one lemma per operation: ring, network time, deadlines, interrupts, security, mailbox. -/

-- Proofs elaborated beside each other need more threads than the package's memory limit allows.
set_option Elab.async false
-- One proof script serves many operations, so a step or a name of it may have no use in some.
set_option linter.unusedVariables false
set_option linter.unusedTactic false
set_option linter.unreachableTactic false

namespace Sys2Proof.Machine

variable {R : List (Nat × Nat)} {zz s : State}

theorem State.serviceEnds_wr (hR : [] ⊆ R) (t : Nat) (hh : Wr R zz s) : Wr R zz (State.serviceEnds s t) := by
  have h := State.serviceEnds_kept (T := [.icu]) (zz := s) (List.Subset.refl _) t (Kept.refl _)
  exact Wr.of_regs (Kept.regs_eq h) hh

theorem State.hostDone_wr (hR : [] ⊆ R) (hh : Wr R zz s) : Wr R zz (State.hostDone s) := by
  have h := State.hostDone_kept (T := [.pins, .icu]) (zz := s) (List.Subset.refl _)  (Kept.refl _)
  exact Wr.of_regs (Kept.regs_eq h) hh

theorem State.pendWrite_wr (hR : [(0x270, 0), (0x1B070, 0)] ⊆ R) (t w : Nat) (x : Word) (hh : Wr R zz s) : Wr R zz
    (State.pendWrite s t w x) := by
  unfold State.pendWrite
  try lift_lets
  repeat' first
    | with_reducible assumption | exact hitSub (by decide) hR
    | (intro s; refine (fun hk : Wr R zz s => ?_) ?_; clear_value s; rotate_left; subst s) | (intro v; try clear_value v)
    | with_reducible apply State.refreshIcu_wr | with_reducible apply State.pendSet_wr | with_reducible apply State.nwWake_wr
    | with_reducible apply Wr.ite | with_reducible (apply Wr.fold; intro _ _ _)

theorem State.pendClear_wr (hR : [] ⊆ R) (t w : Nat) (x : Word) (hh : Wr R zz s) : Wr R zz (State.pendClear s t w x) := by
  have h := State.pendClear_kept (T := [.pins, .icu]) (zz := s) (List.Subset.refl _) t w x (Kept.refl _)
  exact Wr.of_regs (Kept.regs_eq h) hh

theorem State.maskWrite_wr (hR : [] ⊆ R) (t w : Nat) (x : Word) (on : Bool) (hh : Wr R zz s) : Wr R zz (State.maskWrite s t w
    x on) := by
  have h := State.maskWrite_kept (T := [.icu]) (zz := s) (List.Subset.refl _) t w x on (Kept.refl _)
  exact Wr.of_regs (Kept.regs_eq h) hh

theorem State.acknowledge_wr (hR : [] ⊆ R) (t : Nat) (hh : Wr R zz s) : Wr R zz (State.acknowledge s t) := by
  have h := State.acknowledge_kept (T := [.pins, .icu]) (zz := s) (List.Subset.refl _) t (Kept.refl _)
  exact Wr.of_regs (Kept.regs_eq h) hh

theorem State.windowEnds_wr (hR : [] ⊆ R) (t : Nat) (hh : Wr R zz s) : Wr R zz (State.windowEnds s t) := by
  have h := State.windowEnds_kept (T := [.icu]) (zz := s) (List.Subset.refl _) t (Kept.refl _)
  exact Wr.of_regs (Kept.regs_eq h) hh

theorem State.coreWaits_wr (hR : [] ⊆ R) (t : Nat) (hh : Wr R zz s) : Wr R zz (State.coreWaits s t) := by
  have h := State.coreWaits_kept (T := [.icu]) (zz := s) (List.Subset.refl _) t (Kept.refl _)
  exact Wr.of_regs (Kept.regs_eq h) hh

theorem State.eoi_wr (hR : [] ⊆ R) (t : Nat) (wait : Bool) (hh : Wr R zz s) : Wr R zz (State.eoi s t wait) := by
  have h := State.eoi_kept (T := [.icu]) (zz := s) (List.Subset.refl _) t wait (Kept.refl _)
  exact Wr.of_regs (Kept.regs_eq h) hh

theorem State.sleepLevel_wr (hR : [] ⊆ R) (high : Bool) (hh : Wr R zz s) : Wr R zz (State.sleepLevel s high) := by
  have h := State.sleepLevel_kept (T := [.pins, .icu]) (zz := s) (List.Subset.refl _) high (Kept.refl _)
  exact Wr.of_regs (Kept.regs_eq h) hh

theorem State.eccCorrected_wr (hR : [] ⊆ R) (t : Nat) (hh : Wr R zz s) : Wr R zz (State.eccCorrected s t) := by
  have h := State.eccCorrected_kept (T := [.icu]) (zz := s) (List.Subset.refl _) t (Kept.refl _)
  exact Wr.of_regs (Kept.regs_eq h) hh

theorem State.sourceEdge_wr (hR : [(0x270, 0), (0x1B070, 0)] ⊆ R) (t n : Nat) (hh : Wr R zz s) : Wr R zz (State.sourceEdge s
    t n) := by
  unfold State.sourceEdge
  try lift_lets
  repeat' first
    | with_reducible assumption | exact hitSub (by decide) hR
    | (intro s; refine (fun hk : Wr R zz s => ?_) ?_; clear_value s; rotate_left; subst s) | (intro (v : Fld); subst v)
    | (intro v; try clear_value v) | with_reducible apply State.eccCorrected_wr | with_reducible apply State.raise_wr
    | with_reducible apply State.pendSet_wr | with_reducible apply State.refreshIcu_wr | with_reducible apply Wr.ite
    | split | lift_lets

theorem State.nwstatRead_wr (hR : [(0x1B070, 0)] ⊆ R) (hh : Wr R zz s) : Wr R zz (State.nwstatRead s) := by
  unfold State.nwstatRead
  repeat' first
    | with_reducible assumption | exact hitSub (by decide) hR | with_reducible apply State.putFlag_wr
    | with_reducible exact hit_fNWSTAT_WOKE (has2 (by decide) hR)

theorem State.icuClear_wr (hR : [] ⊆ R) (hh : Wr R zz s) : Wr R zz (State.icuClear s) := by
  have h := State.icuClear_kept (T := [.icu]) (zz := s) (List.Subset.refl _)  (Kept.refl _)
  exact Wr.of_regs (Kept.regs_eq h) hh

theorem State.setSec_wr (hR : [] ⊆ R) (x : Sec) (hh : Wr R zz s) : Wr R zz (s.setSec x) := Wr.upd hh

theorem State.touch_wr (hR : [] ⊆ R) (c : Nat) (hh : Wr R zz s) : Wr R zz (State.touch s c) := by
  have h := State.touch_kept (T := [.sec]) (zz := s) (List.Subset.refl _) c (Kept.refl _)
  exact Wr.of_regs (Kept.regs_eq h) hh

theorem State.elevate_wr (hR : [] ⊆ R) (c : Nat) (hh : Wr R zz s) : Wr R zz (State.elevate s c) := by
  have h := State.elevate_kept (T := [.sec]) (zz := s) (List.Subset.refl _) c (Kept.refl _)
  exact Wr.of_regs (Kept.regs_eq h) hh

theorem State.endElev_wr (hR : [] ⊆ R) (c : Nat) (hh : Wr R zz s) : Wr R zz (State.endElev s c) := by
  have h := State.endElev_kept (T := [.sec]) (zz := s) (List.Subset.refl _) c (Kept.refl _)
  exact Wr.of_regs (Kept.regs_eq h) hh

theorem State.endAllElev_wr (hR : [] ⊆ R) (hh : Wr R zz s) : Wr R zz (State.endAllElev s) := by
  have h := State.endAllElev_kept (T := [.sec]) (zz := s) (List.Subset.refl _)  (Kept.refl _)
  exact Wr.of_regs (Kept.regs_eq h) hh

theorem State.dropNonce_wr (hR : [] ⊆ R) (c : Nat) (hh : Wr R zz s) : Wr R zz (State.dropNonce s c) := by
  have h := State.dropNonce_kept (T := [.sec]) (zz := s) (List.Subset.refl _) c (Kept.refl _)
  exact Wr.of_regs (Kept.regs_eq h) hh

theorem State.freeBytes_wr (hR : [] ⊆ R) (n : Nat) (hh : Wr R zz s) : Wr2 R zz (s.freeBytes n) := by
  have h := State.freeBytes_kept (T := [.free]) (zz := s) (List.Subset.refl _) n (Kept.refl _)
  exact Wr2.of_regs (Kept.regs_eq h) hh

theorem State.challenge_wr (hR : [] ⊆ R) (c purpose : Nat) (hh : Wr R zz s) : Wr2 R zz (State.challenge s c purpose) := by
  have h := State.challenge_kept (T := [.free, .sec]) (zz := s) (List.Subset.refl _) c purpose (Kept.refl _)
  exact Wr2.of_regs (Kept.regs_eq h) hh

theorem State.credFail_wr (hR : [(0x2A8, 0), (0x5014, 0)] ⊆ R) (c method : Nat) (hh : Wr R zz s) : Wr R zz (State.credFail s
    c method) := by
  unfold State.credFail
  try lift_lets
  repeat' first
    | with_reducible assumption | exact hitSub (by decide) hR
    | (intro s; refine (fun hk : Wr R zz s => ?_) ?_; clear_value s; rotate_left; subst s) | (intro v; try clear_value v)
    | with_reducible apply State.setSec_wr | with_reducible apply State.flash_wr | with_reducible apply State.logFw_wr
    | with_reducible apply Wr.ite | split | lift_lets

theorem State.credGood_wr (hR : [] ⊆ R) (hh : Wr R zz s) : Wr R zz (State.credGood s) := by
  have h := State.credGood_kept (T := [.sec, .fspi]) (zz := s) (List.Subset.refl _)  (Kept.refl _)
  exact Wr.of_regs (Kept.regs_eq h) hh

theorem State.pwCheck_wr (hR : [(0x2A8, 0), (0x5014, 0)] ⊆ R) (c : Nat) (bs : List Byte) (hh : Wr R zz s) : Wr1 R zz
    (State.pwCheck s c bs) := by
  unfold State.pwCheck
  repeat' first
    | with_reducible assumption | exact hitSub (by decide) hR | with_reducible apply State.credGood_wr
    | with_reducible apply State.elevate_wr | with_reducible apply State.credFail_wr | with_reducible apply Wr.ite
    | with_reducible apply Wr1.ite | with_reducible apply Wr1.mk

theorem State.debugOpen_wr (hR : [(0x2A8, 0), (0x5014, 0)] ⊆ R) (c : Nat) (hh : Wr R zz s) : Wr R zz (State.debugOpen s c) :=
    by
  unfold State.debugOpen
  repeat' first
    | with_reducible assumption | exact hitSub (by decide) hR | with_reducible apply State.setSec_wr
    | with_reducible apply State.logFw_wr

theorem State.respCheck_wr (hR : [(0x2A8, 0), (0x5014, 0)] ⊆ R) (c purpose : Nat) (resp : List Byte) (hh : Wr R zz s) : Wr1 R
    zz (State.respCheck s c purpose resp) := by
  unfold State.respCheck
  try lift_lets
  repeat' first
    | with_reducible assumption | exact hitSub (by decide) hR
    | (intro s; refine (fun hk : Wr R zz s => ?_) ?_; clear_value s; rotate_left; subst s) | (intro v; try clear_value v)
    | with_reducible apply State.dropNonce_wr | with_reducible apply State.credGood_wr
    | with_reducible apply State.elevate_wr | with_reducible apply State.debugOpen_wr | with_reducible apply State.touch_wr
    | with_reducible apply State.credFail_wr | with_reducible apply Wr.ite | with_reducible apply Wr1.ite
    | with_reducible apply Wr1.mk | split | lift_lets

theorem State.elevTimeout_wr (hR : [] ⊆ R) (c : Nat) (hh : Wr R zz s) : Wr R zz (State.elevTimeout s c) := by
  have h := State.elevTimeout_kept (T := [.sec]) (zz := s) (List.Subset.refl _) c (Kept.refl _)
  exact Wr.of_regs (Kept.regs_eq h) hh

theorem State.pwSet_wr (hR : [] ⊆ R) (i x : Nat) (hh : Wr R zz s) : Wr R zz (State.pwSet s i x) := by
  have h := State.pwSet_kept (T := [.sec]) (zz := s) (List.Subset.refl _) i x (Kept.refl _)
  exact Wr.of_regs (Kept.regs_eq h) hh

theorem State.pwCmd_wr (hR : [(0x2A8, 0), (0x5014, 0)] ⊆ R) (c key : Nat) (hh : Wr R zz s) : Wr R zz (State.pwCmd s c key) :=
    by
  unfold State.pwCmd
  try lift_lets
  repeat' first
    | with_reducible assumption | exact hitSub (by decide) hR
    | (intro s; refine (fun hk : Wr R zz s => ?_) ?_; clear_value s; rotate_left; subst s) | (intro v; try clear_value v)
    | with_reducible apply State.setSec_wr | with_reducible apply State.flash_wr | with_reducible apply State.logFw_wr
    | with_reducible apply Wr.ite | split | lift_lets

theorem State.lockRestart_wr (hR : [] ⊆ R) (hh : Wr R zz s) : Wr R zz (State.lockRestart s) := by
  have h := State.lockRestart_kept (T := [.sec]) (zz := s) (List.Subset.refl _)  (Kept.refl _)
  exact Wr.of_regs (Kept.regs_eq h) hh

theorem State.fwLoad_wr (hR : [] ⊆ R) (b : List Byte) (hh : Wr R zz s) : Wr R zz (State.fwLoad s b) := by
  have h := State.fwLoad_kept (T := [.sec]) (zz := s) (List.Subset.refl _) b (Kept.refl _)
  exact Wr.of_regs (Kept.regs_eq h) hh

theorem State.setFwSlot_wr (hR : [] ⊆ R) (i : Nat) (x : FwSlot) (hh : Wr R zz s) : Wr R zz (State.setFwSlot s i x) := by
  have h := State.setFwSlot_kept (T := [.sec]) (zz := s) (List.Subset.refl _) i x (Kept.refl _)
  exact Wr.of_regs (Kept.regs_eq h) hh

theorem State.fwRevoke_wr (hR : [(0x2A8, 0), (0x5014, 0)] ⊆ R) (i : Nat) (hh : Wr R zz s) : Wr R zz (State.fwRevoke s i) :=
    by
  unfold State.fwRevoke
  try lift_lets
  repeat' first
    | with_reducible assumption | exact hitSub (by decide) hR | (intro v; try clear_value v)
    | with_reducible apply State.setFwSlot_wr | with_reducible apply State.logFw_wr | with_reducible apply Wr.ite

theorem State.rollback_wr (hR : [(0x2A8, 0), (0x5014, 0)] ⊆ R) (key : Nat) (hh : Wr R zz s) : Wr R zz (State.rollback s key)
    := by
  unfold State.rollback
  try lift_lets
  repeat' first
    | with_reducible assumption | exact hitSub (by decide) hR
    | (intro s; refine (fun hk : Wr R zz s => ?_) ?_; clear_value s; rotate_left; subst s) | (intro v; try clear_value v)
    | with_reducible apply State.setSec_wr | with_reducible apply State.fwRevoke_wr | with_reducible apply Wr.ite | split
    | lift_lets

theorem State.fieldLockSet_wr (hR : [(0x2A8, 0), (0x5014, 0)] ⊆ R) (c key : Nat) (hh : Wr R zz s) : Wr R zz
    (State.fieldLockSet s c key) := by
  unfold State.fieldLockSet
  repeat' first
    | with_reducible assumption | exact hitSub (by decide) hR | with_reducible apply State.setSec_wr
    | with_reducible apply State.logFw_wr | with_reducible apply Wr.ite

theorem State.setRing_wr (hR : [] ⊆ R) (r : Ring) (hh : Wr R zz s) : Wr R zz (State.setRing s r) := by
  have h := State.setRing_kept (T := [.ring]) (zz := s) (List.Subset.refl _) r (Kept.refl _)
  exact Wr.of_regs (Kept.regs_eq h) hh

theorem State.setPort_wr (hR : [] ⊆ R) (p : Nat) (x : RingPort) (hh : Wr R zz s) : Wr R zz (State.setPort s p x) := by
  have h := State.setPort_kept (T := [.ring]) (zz := s) (List.Subset.refl _) p x (Kept.refl _)
  exact Wr.of_regs (Kept.regs_eq h) hh

theorem State.setEgress_wr (hR : [] ⊆ R) (p : Nat) (e : Egress) (hh : Wr R zz s) : Wr R zz (State.setEgress s p e) := by
  have h := State.setEgress_kept (T := [.ring]) (zz := s) (List.Subset.refl _) p e (Kept.refl _)
  exact Wr.of_regs (Kept.regs_eq h) hh

theorem State.setLaunch_wr (hR : [] ⊆ R) (d : Nat) (l : Launch) (hh : Wr R zz s) : Wr R zz (State.setLaunch s d l) := by
  have h := State.setLaunch_kept (T := [.ring]) (zz := s) (List.Subset.refl _) d l (Kept.refl _)
  exact Wr.of_regs (Kept.regs_eq h) hh

theorem State.ringCnt_wr (hR : [(0x7040, 4)] ⊆ R) (p k : Nat) (hh : Wr R zz s) : Wr R zz (State.ringCnt s p k) := by
  unfold State.ringCnt
  repeat' first
    | with_reducible assumption | exact hitSub (by decide) hR | with_reducible apply State.bump_wr
    | with_reducible exact hit_aRING_CNT (has2 (by decide) hR)

theorem State.tcLeave_wr (hR : [(0x3040, 4)] ⊆ R) (f : Frame) (out : Nat) (hh : Wr R zz s) : Wr1 R zz (State.tcLeave s f out)
    := by
  unfold State.tcLeave
  try lift_lets
  repeat' first
    | with_reducible assumption | exact hitSub (by decide) hR | (intro v; try clear_value v)
    | with_reducible apply State.bump_wr | with_reducible exact hit_aTIME_CNT (has2 (by decide) hR)
    | with_reducible apply Wr.ite | with_reducible apply Wr1.ite | with_reducible apply Wr1.mk
    | fail_if_no_progress (with_reducible refine Wr.upd ?_) | split

theorem State.pdLeave_wr (hR : [] ⊆ R) (f : Frame) (out : Nat) (hh : Wr R zz s) : Wr1 R zz (State.pdLeave s f out) := by
  have h := State.pdLeave_kept (T := [.ring, .ptp]) (zz := s) (List.Subset.refl _) f out (Kept.refl _)
  exact Wr1.of_regs (Kept.regs_eq h) hh

theorem State.ptpLeave_wr (hR : [(0x3040, 4)] ⊆ R) (f : Frame) (out : Nat) (hh : Wr R zz s) : Wr1 R zz (State.ptpLeave s f
    out) := by
  unfold State.ptpLeave
  repeat' first
    | with_reducible assumption | exact hitSub (by decide) hR | with_reducible apply State.pdLeave_wr
    | with_reducible apply State.tcLeave_wr | with_reducible apply Wr.ite | with_reducible apply Wr1.ite
    | with_reducible apply Wr1.mk

theorem State.startFrame_wr (hR : [(0x3040, 4)] ⊆ R) (p : Nat) (f : Frame) (hh : Wr R zz s) : Wr R zz (State.startFrame s p
    f) := by
  unfold State.startFrame
  try lift_lets
  repeat' first
    | with_reducible assumption | exact hitSub (by decide) hR | with_reducible apply State.ptpLeave_wr
    | with_reducible (apply Wr.fst; apply State.ptpLeave_wr) | with_reducible apply State.setEgress_wr

theorem State.refill_wr (hR : [] ⊆ R) (p : Nat) (hh : Wr R zz s) : Wr R zz (State.refill s p) := by
  have h := State.refill_kept (T := [.ring]) (zz := s) (List.Subset.refl _) p (Kept.refl _)
  exact Wr.of_regs (Kept.regs_eq h) hh

theorem State.chooseLast_wr (hR : [(0x3040, 4)] ⊆ R) (p : Nat) (e : Egress) (loc : Bool → Option (Frame × List Frame)) (hh :
    Wr R zz s) : Wr R zz (State.chooseLast s p e loc) := by
  unfold State.chooseLast
  repeat' first
    | with_reducible assumption | exact hitSub (by decide) hR | with_reducible apply State.setEgress_wr
    | with_reducible apply State.startFrame_wr | with_reducible apply State.refill_wr | with_reducible apply Wr.ite
    | fail_if_no_progress (with_reducible refine Wr.upd ?_) | split

theorem State.chooseRest_wr (hR : [(0x3040, 4)] ⊆ R) (p : Nat) (e : Egress) (loc : Bool → Option (Frame × List Frame)) (hh :
    Wr R zz s) : Wr R zz (State.chooseRest s p e loc) := by
  unfold State.chooseRest
  repeat' first
    | with_reducible assumption | exact hitSub (by decide) hR | with_reducible apply State.refill_wr
    | with_reducible apply State.chooseLast_wr | with_reducible apply State.startFrame_wr
    | with_reducible apply State.setEgress_wr | with_reducible apply Wr.ite
    | fail_if_no_progress (with_reducible refine Wr.upd ?_) | split

theorem State.choose_wr (hR : [(0x3040, 4), (0x7040, 4)] ⊆ R) (p : Nat) (hh : Wr R zz s) : Wr R zz (State.choose s p) := by
  unfold State.choose
  try lift_lets
  repeat' first
    | with_reducible assumption | exact hitSub (by decide) hR
    | (intro s; refine (fun hk : Wr R zz s => ?_) ?_; clear_value s; rotate_left; subst s) | (intro v; try clear_value v)
    | with_reducible apply State.setEgress_wr | with_reducible apply State.ringCnt_wr
    | with_reducible apply State.startFrame_wr | with_reducible apply State.refill_wr
    | with_reducible apply State.chooseRest_wr | with_reducible apply Wr.ite | split | lift_lets

theorem State.toPtp_wr (hR : [(0x3040, 4), (0x7040, 4)] ⊆ R) (p : Nat) (f : Frame) (hh : Wr R zz s) : Wr R zz (State.toPtp s
    p f) := by
  unfold State.toPtp
  try lift_lets
  repeat' first
    | with_reducible assumption | exact hitSub (by decide) hR
    | (intro s; refine (fun hk : Wr R zz s => ?_) ?_; clear_value s; rotate_left; subst s) | (intro v; try clear_value v)
    | with_reducible apply State.setEgress_wr | with_reducible apply State.choose_wr
    | with_reducible apply State.ringCnt_wr | with_reducible apply Wr.ite | split | lift_lets

theorem State.toLocal_wr (hR : [(0x3040, 4), (0x7040, 4)] ⊆ R) (p : Nat) (f : Frame) (hh : Wr R zz s) : Wr R zz
    (State.toLocal s p f) := by
  unfold State.toLocal
  try lift_lets
  repeat' first
    | with_reducible assumption | exact hitSub (by decide) hR
    | (intro s; refine (fun hk : Wr R zz s => ?_) ?_; clear_value s; rotate_left; subst s) | (intro v; try clear_value v)
    | with_reducible apply State.setEgress_wr | with_reducible apply State.choose_wr | with_reducible apply Wr.ite | split
    | lift_lets

theorem State.toTransit_wr (hR : [(0x3040, 4), (0x7040, 4)] ⊆ R) (p : Nat) (f : Frame) (hh : Wr R zz s) : Wr R zz
    (State.toTransit s p f) := by
  unfold State.toTransit
  try lift_lets
  repeat' first
    | with_reducible assumption | exact hitSub (by decide) hR | (intro v; try clear_value v)
    | with_reducible apply State.choose_wr | with_reducible apply State.ringCnt_wr | with_reducible apply State.setEgress_wr
    | with_reducible apply Wr.ite

theorem State.purge_wr (hR : [(0x7040, 4)] ⊆ R) (p : Nat) (hh : Wr R zz s) : Wr R zz (State.purge s p) := by
  unfold State.purge
  try lift_lets
  repeat' first
    | with_reducible assumption | exact hitSub (by decide) hR
    | (intro s; refine (fun hk : Wr R zz s => ?_) ?_; clear_value s; rotate_left; subst s) | (intro v; try clear_value v)
    | with_reducible apply State.ringCnt_wr | with_reducible apply State.setEgress_wr
    | with_reducible apply State.refill_wr | with_reducible apply Wr.ite | with_reducible (apply Wr.fold; intro _ _ _)
    | split | lift_lets

theorem State.txDone_wr (hR : [(0x3040, 4), (0x7040, 4)] ⊆ R) (p : Nat) (hh : Wr R zz s) : Wr R zz (State.txDone s p) := by
  unfold State.txDone
  try lift_lets
  repeat' first
    | with_reducible assumption | exact hitSub (by decide) hR
    | (intro s; refine (fun hk : Wr R zz s => ?_) ?_; clear_value s; rotate_left; subst s) | (intro v; try clear_value v)
    | with_reducible apply State.setEgress_wr | with_reducible apply State.ringCnt_wr | with_reducible apply State.choose_wr
    | with_reducible apply Wr.ite | fail_if_no_progress (with_reducible refine Wr.upd ?_) | split

theorem State.forward_wr (hR : [(0x3040, 4), (0x7040, 4)] ⊆ R) (p kind : Nat) (f : Frame) (hh : Wr R zz s) : Wr R zz
    (State.forward s p kind f) := by
  unfold State.forward
  try lift_lets
  repeat' first
    | with_reducible assumption | exact hitSub (by decide) hR | (intro v; try clear_value v)
    | with_reducible apply State.toTransit_wr | with_reducible apply State.ringCnt_wr
    | with_reducible apply State.startFrame_wr | with_reducible apply State.toPtp_wr | with_reducible apply Wr.ite

theorem State.forwardBad_wr (hR : [(0x3040, 4)] ⊆ R) (p kind : Nat) (body : List Byte) (stamp : Int) (hh : Wr R zz s) : Wr R
    zz (State.forwardBad s p kind body stamp) := by
  unfold State.forwardBad
  try lift_lets
  repeat' first
    | with_reducible assumption | exact hitSub (by decide) hR
    | (intro s; refine (fun hk : Wr R zz s => ?_) ?_; clear_value s; rotate_left; subst s) | (intro v; try clear_value v)
    | with_reducible apply State.startFrame_wr | with_reducible apply Wr.ite | split | lift_lets

theorem State.copyTo_wr (hR : [] ⊆ R) (kind p type : Nat) (stamp : Int) (dom : Nat) (hh : Wr R zz s) : Wr R zz (State.copyTo
    s kind p type stamp dom) := by
  have h := State.copyTo_kept (T := [.ring]) (zz := s) (List.Subset.refl _) kind p type stamp dom (Kept.refl _)
  exact Wr.of_regs (Kept.regs_eq h) hh

theorem State.copyPtp_wr (hR : [] ⊆ R) (kind p : Nat) (m : List Byte) (stamp : Int) (hh : Wr R zz s) : Wr R zz (State.copyPtp
    s kind p m stamp) := by
  have h := State.copyPtp_kept (T := [.ring]) (zz := s) (List.Subset.refl _) kind p m stamp (Kept.refl _)
  exact Wr.of_regs (Kept.regs_eq h) hh

theorem State.copyTaken_wr (hR : [] ⊆ R) (kind p type : Nat) (hh : Wr R zz s) : Wr R zz (State.copyTaken s kind p type) := by
  have h := State.copyTaken_kept (T := [.ring]) (zz := s) (List.Subset.refl _) kind p type (Kept.refl _)
  exact Wr.of_regs (Kept.regs_eq h) hh

theorem State.receiveGood_wr (hR : [(0x3040, 4), (0x7040, 4)] ⊆ R) (p : Nat) (f : List Byte) (stamp : Int) (hh : Wr R zz s) :
    Wr R zz (State.receiveGood s p f stamp) := by
  unfold State.receiveGood
  try lift_lets
  repeat' first
    | with_reducible assumption | exact hitSub (by decide) hR
    | (intro s; refine (fun hk : Wr R zz s => ?_) ?_; clear_value s; rotate_left; subst s) | (intro v; try clear_value v)
    | with_reducible apply State.ringCnt_wr | with_reducible apply State.copyPtp_wr | with_reducible apply State.copyTo_wr
    | with_reducible apply State.toPtp_wr | with_reducible apply State.forward_wr | with_reducible apply Wr.ite | split
    | lift_lets

theorem State.ringReceive_wr (hR : [(0x3040, 4), (0x7040, 4), (0x15208, 0), (0x1520C, 0), (0x15210, 0)] ⊆ R) (p : Nat) (frame
    : List Byte) (codeErr : Bool) (sub : Nat) (hh : Wr R zz s) : Wr R zz (State.ringReceive s p frame codeErr sub) := by
  unfold State.ringReceive
  try lift_lets
  repeat' first
    | with_reducible assumption | exact hitSub (by decide) hR
    | (intro s; refine (fun hk : Wr R zz s => ?_) ?_; clear_value s; rotate_left; subst s) | (intro (v : Fld); subst v)
    | (intro v; try clear_value v) | with_reducible apply State.snoop_wr | with_reducible apply State.ringCnt_wr
    | with_reducible apply State.forwardBad_wr | with_reducible apply State.receiveGood_wr | with_reducible apply Wr.ite
    | split | lift_lets

theorem State.timeState_wr (hR : [(0x270, 0), (0x2A8, 0), (0x300C, 0), (0x5014, 0), (0x1B070, 0)] ⊆ R) (st : Nat) (hh : Wr R
    zz s) : Wr R zz (State.timeState s st) := by
  unfold State.timeState
  try lift_lets
  repeat' first
    | with_reducible assumption | exact hitSub (by decide) hR
    | (intro s; refine (fun hk : Wr R zz s => ?_) ?_; clear_value s; rotate_left; subst s) | (intro v; try clear_value v)
    | with_reducible exact hit_fTIME_STATE (has2 (by decide) hR) | with_reducible apply State.put_wr
    | with_reducible apply State.logFw_wr | with_reducible apply State.raise_wr | with_reducible apply Wr.ite
    | fail_if_no_progress (with_reducible refine Wr.upd ?_) | split | lift_lets

theorem State.servoHold_wr (hR : [(0x270, 0), (0x2A8, 0), (0x300C, 0), (0x5014, 0), (0x1B070, 0)] ⊆ R) (hh : Wr R zz s) : Wr
    R zz (State.servoHold s) := by
  unfold State.servoHold
  try lift_lets
  repeat' first
    | with_reducible assumption | exact hitSub (by decide) hR
    | (intro s; refine (fun hk : Wr R zz s => ?_) ?_; clear_value s; rotate_left; subst s) | (intro (v : Fld); subst v)
    | (intro v; try clear_value v) | with_reducible exact hit_fTIME_STATE (has2 (by decide) hR)
    | with_reducible exact hit_fNW_SC1_LOST (has2 (by decide) hR) | with_reducible apply State.timeState_wr
    | with_reducible apply Wr.ite | fail_if_no_progress (with_reducible refine Wr.upd ?_) | split | lift_lets

theorem State.epochUp_wr (hR : [(0x270, 0), (0x2A8, 0), (0x300C, 0), (0x5014, 0), (0x700C, 0), (0x1B070, 0)] ⊆ R) (hh : Wr R
    zz s) : Wr R zz (State.epochUp s) := by
  unfold State.epochUp
  try lift_lets
  repeat' first
    | with_reducible assumption | exact hitSub (by decide) hR
    | (intro s; refine (fun hk : Wr R zz s => ?_) ?_; clear_value s; rotate_left; subst s)
    | with_reducible apply State.bump_wr | with_reducible apply State.raise_wr | with_reducible apply State.servoHold_wr
    | with_reducible apply State.logFw_wr | with_reducible exact hit_aRING_EPOCH (has2 (by decide) hR)

theorem State.setBlocked_wr (hR : [(0x3040, 4), (0x7000, 4), (0x7040, 4)] ⊆ R) (p : Nat) (b : Bool) (hh : Wr R zz s) : Wr R
    zz (State.setBlocked s p b) := by
  unfold State.setBlocked
  try lift_lets
  repeat' first
    | with_reducible assumption | exact hitSub (by decide) hR
    | (intro s; refine (fun hk : Wr R zz s => ?_) ?_; clear_value s; rotate_left; subst s)
    | with_reducible apply State.choose_wr | with_reducible apply State.putFlag_wr | with_reducible apply State.purge_wr
    | with_reducible exact hit_fRP_BLOCKED (has2 (by decide) hR) | with_reducible apply Wr.ite

theorem State.startTx_wr (hR : [] ⊆ R) (req : Nat) (dnf : Bool) (hh : Wr R zz s) : Wr R zz (State.startTx s req dnf) := by
  have h := State.startTx_kept (T := [.ring]) (zz := s) (List.Subset.refl _) req dnf (Kept.refl _)
  exact Wr.of_regs (Kept.regs_eq h) hh

theorem State.stopTx_wr (hR : [] ⊆ R) (hh : Wr R zz s) : Wr R zz (State.stopTx s) := by
  have h := State.stopTx_kept (T := [.ring]) (zz := s) (List.Subset.refl _)  (Kept.refl _)
  exact Wr.of_regs (Kept.regs_eq h) hh

theorem State.unblockGood_wr (hR : [(0x3040, 4), (0x7000, 4), (0x7040, 4)] ⊆ R) (hh : Wr R zz s) : Wr R zz (State.unblockGood
    s) := by
  unfold State.unblockGood
  repeat' first
    | with_reducible assumption | exact hitSub (by decide) hR | with_reducible apply State.setBlocked_wr
    | with_reducible apply Wr.ite | with_reducible (apply Wr.fold; intro _ _ _)

theorem State.localFail_wr (hR : [(0x3040, 4), (0x7000, 4), (0x7008, 0), (0x7040, 4)] ⊆ R) (p : Nat) (hh : Wr R zz s) : Wr R
    zz (State.localFail s p) := by
  unfold State.localFail
  try lift_lets
  repeat' first
    | with_reducible assumption | exact hitSub (by decide) hR
    | (intro s; refine (fun hk : Wr R zz s => ?_) ?_; clear_value s; rotate_left; subst s) | (intro v; try clear_value v)
    | with_reducible apply State.startTx_wr | with_reducible apply State.setBlocked_wr
    | with_reducible apply State.unblockGood_wr | with_reducible apply State.put_wr
    | with_reducible exact hit_fRING_ERPS (has2 (by decide) hR) | with_reducible apply Wr.ite

theorem State.localClear_wr (hR : [(0x7008, 0)] ⊆ R) (hh : Wr R zz s) : Wr R zz (State.localClear s) := by
  unfold State.localClear
  repeat' first
    | with_reducible assumption | exact hitSub (by decide) hR | with_reducible exact hit_fRING_ERPS (has2 (by decide) hR)
    | with_reducible apply State.setRing_wr | with_reducible apply State.startTx_wr | with_reducible apply State.put_wr
    | with_reducible apply Wr.ite | split

theorem State.remote_wr (hR : [(0x3040, 4), (0x7000, 4), (0x7008, 0), (0x7040, 4)] ⊆ R) (req : Nat) (rb : Bool) (node : Nat)
    (hh : Wr R zz s) : Wr R zz (State.remote s req rb node) := by
  unfold State.remote
  try lift_lets
  repeat' first
    | with_reducible assumption | exact hitSub (by decide) hR | (intro v; try clear_value v)
    | with_reducible apply State.stopTx_wr | with_reducible apply State.unblockGood_wr | with_reducible apply State.put_wr
    | with_reducible exact hit_fRING_ERPS (has2 (by decide) hR) | with_reducible apply Wr.ite

theorem State.ringStart_wr (hR : [(0x3040, 4), (0x7000, 4), (0x7008, 0), (0x7040, 4)] ⊆ R) (hh : Wr R zz s) : Wr R zz
    (State.ringStart s) := by
  unfold State.ringStart
  try lift_lets
  repeat' first
    | with_reducible assumption | exact hitSub (by decide) hR
    | (intro s; refine (fun hk : Wr R zz s => ?_) ?_; clear_value s; rotate_left; subst s)
    | with_reducible apply State.startTx_wr | with_reducible apply State.setBlocked_wr | with_reducible apply State.put_wr
    | with_reducible apply State.localFail_wr | with_reducible exact hit_fRING_ERPS (has2 (by decide) hR)
    | with_reducible apply Wr.ite | with_reducible (apply Wr.fold; intro _ _ _)

theorem State.swapOn_wr (hR : [(0x270, 0), (0x2A8, 0), (0x300C, 0), (0x5014, 0), (0x7008, 0), (0x700C, 0), (0x1B070, 0)] ⊆ R)
    (hh : Wr R zz s) : Wr R zz (State.swapOn s) := by
  unfold State.swapOn
  repeat' first
    | with_reducible assumption | exact hitSub (by decide) hR
    | with_reducible exact hit_fRING_SWAPPED (has2 (by decide) hR) | with_reducible apply State.putFlag_wr
    | with_reducible apply State.epochUp_wr | with_reducible apply Wr.ite | split

theorem State.swapOff_wr (hR : [(0x270, 0), (0x2A8, 0), (0x300C, 0), (0x5014, 0), (0x7008, 0), (0x700C, 0), (0x1B070, 0)] ⊆
    R) (hh : Wr R zz s) : Wr R zz (State.swapOff s) := by
  unfold State.swapOff
  repeat' first
    | with_reducible assumption | exact hitSub (by decide) hR
    | with_reducible exact hit_fRING_SWAPPED (has2 (by decide) hR) | with_reducible apply State.putFlag_wr
    | with_reducible apply State.epochUp_wr | with_reducible apply Wr.ite | split

theorem State.nbrCompare_wr (hR : [(0x270, 0), (0x2A8, 0), (0x5014, 0), (0x7000, 4), (0x1B070, 0)] ⊆ R) (p node : Nat) (told
    : Bool) (hh : Wr R zz s) : Wr R zz (State.nbrCompare s p node told) := by
  unfold State.nbrCompare
  try lift_lets
  repeat' first
    | with_reducible assumption | exact hitSub (by decide) hR
    | (intro s; refine (fun hk : Wr R zz s => ?_) ?_; clear_value s; rotate_left; subst s) | (intro (v : Fld); subst v)
    | (intro v; try clear_value v) | with_reducible exact hit_fRP_CROSSED (has2 (by decide) hR)
    | with_reducible exact hit_fRP_NBR_MISMATCH (has2 (by decide) hR) | with_reducible apply State.putFlag_wr
    | with_reducible apply State.logFw_wr | with_reducible apply State.raise_wr | with_reducible apply Wr.ite | split
    | lift_lets

theorem State.learnNbr_wr (hR : [(0x270, 0), (0x2A8, 0), (0x300C, 0), (0x5014, 0), (0x7000, 4), (0x7008, 0), (0x700C, 0),
    (0x7018, 8), (0x701C, 8), (0x1B070, 0)] ⊆ R) (p node : Nat) (hh : Wr R zz s) : Wr R zz (State.learnNbr s p node) := by
  unfold State.learnNbr
  try lift_lets
  repeat' first
    | with_reducible assumption | exact hitSub (by decide) hR
    | (intro s; refine (fun hk : Wr R zz s => ?_) ?_; clear_value s; rotate_left; subst s) | (intro v; try clear_value v)
    | with_reducible exact hit_aRING_NBRSEEN_LO (has2 (by decide) hR)
    | with_reducible exact hit_aRING_NBRSEEN_HI (has2 (by decide) hR) | with_reducible apply State.setPort_wr
    | with_reducible apply State.wr_wr | with_reducible apply State.nbrCompare_wr | with_reducible apply State.swapOn_wr
    | with_reducible apply State.swapOff_wr | with_reducible apply Wr.ite | split | lift_lets

theorem State.nbrAgain_wr (hR : [(0x270, 0), (0x2A8, 0), (0x300C, 0), (0x5014, 0), (0x7000, 4), (0x7008, 0), (0x700C, 0),
    (0x1B070, 0)] ⊆ R) (hh : Wr R zz s) : Wr R zz (State.nbrAgain s) := by
  unfold State.nbrAgain
  repeat' first
    | with_reducible assumption | exact hitSub (by decide) hR | with_reducible apply State.nbrCompare_wr
    | with_reducible apply State.swapOn_wr | with_reducible apply Wr.ite | with_reducible (apply Wr.fold; intro _ _ _)
    | split

theorem State.raps_wr (hR : [(0x270, 0), (0x2A8, 0), (0x300C, 0), (0x3040, 4), (0x5014, 0), (0x7000, 4), (0x7008, 0),
    (0x700C, 0), (0x7018, 8), (0x701C, 8), (0x7040, 4), (0x1B070, 0)] ⊆ R) (p req sub : Nat) (rb dnf bpr : Bool) (node : Nat)
    (hh : Wr R zz s) : Wr R zz (State.raps s p req sub rb dnf bpr node) := by
  unfold State.raps
  try lift_lets
  repeat' first
    | with_reducible assumption | exact hitSub (by decide) hR
    | (intro s; refine (fun hk : Wr R zz s => ?_) ?_; clear_value s; rotate_left; subst s) | (intro (v : Fld); subst v)
    | (intro v; try clear_value v) | with_reducible exact hit_fNW_SC1_LOST (has2 (by decide) hR)
    | with_reducible apply State.copyTaken_wr | with_reducible apply State.learnNbr_wr
    | with_reducible apply State.setPort_wr | with_reducible apply State.epochUp_wr | with_reducible apply State.remote_wr
    | with_reducible apply Wr.ite | split | lift_lets

theorem State.rapsSend_wr (hR : [(0x3040, 4), (0x7040, 4)] ⊆ R) (hh : Wr R zz s) : Wr R zz (State.rapsSend s) := by
  unfold State.rapsSend
  try lift_lets
  repeat' first
    | with_reducible assumption | exact hitSub (by decide) hR
    | (intro s; refine (fun hk : Wr R zz s => ?_) ?_; clear_value s; rotate_left; subst s) | (intro v; try clear_value v)
    | with_reducible apply State.setRing_wr | with_reducible apply State.toPtp_wr | with_reducible apply Wr.ite
    | with_reducible (apply Wr.fold; intro _ _ _) | split | lift_lets

theorem State.failSeen_wr (hR : [(0x3040, 4), (0x7000, 4), (0x7008, 0), (0x7040, 4)] ⊆ R) (p : Nat) (hh : Wr R zz s) : Wr R
    zz (State.failSeen s p) := by
  unfold State.failSeen
  repeat' first
    | with_reducible assumption | exact hitSub (by decide) hR | with_reducible apply State.localFail_wr
    | with_reducible apply State.setPort_wr

theorem State.sfTell_wr (hR : [(0x3040, 4), (0x7000, 4), (0x7008, 0), (0x7040, 4)] ⊆ R) (p : Nat) (hh : Wr R zz s) : Wr R zz
    (State.sfTell s p) := by
  unfold State.sfTell
  try lift_lets
  repeat' first
    | with_reducible assumption | exact hitSub (by decide) hR
    | (intro s; refine (fun hk : Wr R zz s => ?_) ?_; clear_value s; rotate_left; subst s) | (intro v; try clear_value v)
    | with_reducible apply State.failSeen_wr | with_reducible apply State.setPort_wr
    | with_reducible apply State.localFail_wr | with_reducible apply State.localClear_wr | with_reducible apply Wr.ite
    | split | lift_lets

theorem State.sfPass_wr (hR : [(0x3040, 4), (0x7000, 4), (0x7008, 0), (0x7040, 4)] ⊆ R) (p : Nat) (hh : Wr R zz s) : Wr R zz
    (State.sfPass s p) := by
  unfold State.sfPass
  repeat' first
    | with_reducible assumption | exact hitSub (by decide) hR | with_reducible apply State.sfTell_wr
    | with_reducible apply Wr.ite | split

theorem State.sfOnset_wr (hR : [(0x270, 0), (0x2A8, 0), (0x300C, 0), (0x3040, 4), (0x5014, 0), (0x7000, 4), (0x7008, 0),
    (0x700C, 0), (0x7040, 4), (0x1B070, 0)] ⊆ R) (p : Nat) (link : Bool) (hh : Wr R zz s) : Wr R zz (State.sfOnset s p link)
    := by
  unfold State.sfOnset
  try lift_lets
  repeat' first
    | with_reducible assumption | exact hitSub (by decide) hR
    | (intro s; refine (fun hk : Wr R zz s => ?_) ?_; clear_value s; rotate_left; subst s) | (intro v; try clear_value v)
    | with_reducible exact hit_fRP_LINK (has2 (by decide) hR) | with_reducible exact hit_fRP_SF (has2 (by decide) hR)
    | with_reducible apply State.setPort_wr | with_reducible apply State.putFlag_wr | with_reducible apply State.purge_wr
    | with_reducible apply State.raise_wr | with_reducible apply State.epochUp_wr | with_reducible apply State.sfPass_wr
    | with_reducible apply Wr.ite | split | lift_lets

theorem State.sfClear_wr (hR : [(0x270, 0), (0x2A8, 0), (0x300C, 0), (0x3040, 4), (0x5014, 0), (0x7000, 4), (0x7008, 0),
    (0x700C, 0), (0x7040, 4), (0x1B070, 0)] ⊆ R) (p : Nat) (hh : Wr R zz s) : Wr R zz (State.sfClear s p) := by
  unfold State.sfClear
  try lift_lets
  repeat' first
    | with_reducible assumption | exact hitSub (by decide) hR
    | (intro s; refine (fun hk : Wr R zz s => ?_) ?_; clear_value s; rotate_left; subst s) | (intro v; try clear_value v)
    | with_reducible exact hit_fRP_LINK (has2 (by decide) hR) | with_reducible exact hit_fRP_SF (has2 (by decide) hR)
    | with_reducible apply State.putFlag_wr | with_reducible apply State.raise_wr | with_reducible apply State.epochUp_wr
    | with_reducible apply State.setPort_wr | with_reducible apply State.sfPass_wr | with_reducible apply State.choose_wr
    | with_reducible apply Wr.ite | split | lift_lets

theorem State.modulePoll_wr (hR : [(0x270, 0), (0x2A8, 0), (0x300C, 0), (0x3040, 4), (0x5014, 0), (0x7000, 4), (0x7008, 0),
    (0x700C, 0), (0x7040, 4), (0x1B070, 0)] ⊆ R) (p : Nat) (ack ok : Bool) (power : Option Nat) (hh : Wr R zz s) : Wr R zz
    (State.modulePoll s p ack ok power) := by
  unfold State.modulePoll
  try lift_lets
  repeat' first
    | with_reducible assumption | exact hitSub (by decide) hR
    | (intro s; refine (fun hk : Wr R zz s => ?_) ?_; clear_value s; rotate_left; subst s) | (intro (v : Fld); subst v)
    | (intro v; try clear_value v) | with_reducible exact hit_fNW_SC1_LOST (has2 (by decide) hR)
    | with_reducible exact hit_fRP_MODULE_PRESENT (has2 (by decide) hR)
    | with_reducible exact hit_fRP_MODULE_BAD (has2 (by decide) hR)
    | with_reducible exact hit_fRP_RXPWR (has2 (by decide) hR) | with_reducible exact hit_fRP_LINK (has2 (by decide) hR)
    | with_reducible exact hit_fRP_RATE (has2 (by decide) hR) | with_reducible apply State.setPort_wr
    | with_reducible apply State.putFlag_wr | with_reducible apply State.put_wr | with_reducible apply State.sfOnset_wr
    | with_reducible apply State.logFw_wr | with_reducible apply Wr.ite | split | lift_lets

theorem State.ldCntAll_wr (hR : [(0x7040, 4)] ⊆ R) (ports k : Nat) (hh : Wr R zz s) : Wr R zz (State.ldCntAll s ports k) :=
    by
  unfold State.ldCntAll
  repeat' first
    | with_reducible assumption | exact hitSub (by decide) hR | with_reducible apply State.ringCnt_wr
    | with_reducible apply Wr.ite | with_reducible (apply Wr.fold; intro _ _ _) | split

theorem State.ldUnqueue_wr (hR : [] ⊆ R) (d : Nat) (hh : Wr R zz s) : Wr R zz (State.ldUnqueue s d) := by
  have h := State.ldUnqueue_kept (T := [.ring]) (zz := s) (List.Subset.refl _) d (Kept.refl _)
  exact Wr.of_regs (Kept.regs_eq h) hh

theorem State.ldCancel_wr (hR : [(0x3040, 4), (0x7040, 4)] ⊆ R) (d : Nat) (hh : Wr R zz s) : Wr R zz (State.ldCancel s d) :=
    by
  unfold State.ldCancel
  try lift_lets
  repeat' first
    | with_reducible assumption | exact hitSub (by decide) hR
    | (intro s; refine (fun hk : Wr R zz s => ?_) ?_; clear_value s; rotate_left; subst s) | (intro v; try clear_value v)
    | with_reducible apply State.ldUnqueue_wr | with_reducible apply State.setLaunch_wr
    | with_reducible apply State.setEgress_wr | with_reducible apply State.choose_wr | with_reducible apply Wr.ite
    | with_reducible (apply Wr.fold; intro _ _ _) | split | lift_lets

theorem State.ldCopy_wr (hR : [] ⊆ R) (d : Nat) (hh : Wr R zz s) : Wr R zz (State.ldCopy s d) := by
  have h := State.ldCopy_kept (T := [.ring]) (zz := s) (List.Subset.refl _) d (Kept.refl _)
  exact Wr.of_regs (Kept.regs_eq h) hh

theorem State.ldDeadline_wr (hR : [(0x7040, 4)] ⊆ R) (d : Nat) (onTime : Bool) (hh : Wr R zz s) : Wr1 R zz (State.ldDeadline
    s d onTime) := by
  unfold State.ldDeadline
  try lift_lets
  repeat' first
    | with_reducible assumption | exact hitSub (by decide) hR
    | (intro s; refine (fun hk : Wr R zz s => ?_) ?_; clear_value s; rotate_left; subst s) | (intro v; try clear_value v)
    | with_reducible apply State.ldCntAll_wr | with_reducible apply State.setLaunch_wr
    | with_reducible apply State.ldUnqueue_wr | with_reducible apply Wr.ite | with_reducible apply Wr1.ite
    | with_reducible apply Wr1.mk | split | lift_lets

theorem State.ldGuard_wr (hR : [] ⊆ R) (d : Nat) (hh : Wr R zz s) : Wr R zz (State.ldGuard s d) := by
  have h := State.ldGuard_kept (T := [.ring]) (zz := s) (List.Subset.refl _) d (Kept.refl _)
  exact Wr.of_regs (Kept.regs_eq h) hh

theorem State.ldGate_wr (hR : [(0x3040, 4), (0x7040, 4)] ⊆ R) (d : Nat) (hh : Wr R zz s) : Wr R zz (State.ldGate s d) := by
  unfold State.ldGate
  try lift_lets
  repeat' first
    | with_reducible assumption | exact hitSub (by decide) hR
    | (intro s; refine (fun hk : Wr R zz s => ?_) ?_; clear_value s; rotate_left; subst s) | (intro v; try clear_value v)
    | with_reducible apply State.setLaunch_wr | with_reducible apply State.setEgress_wr
    | with_reducible apply State.ringCnt_wr | with_reducible apply State.choose_wr | with_reducible apply Wr.ite
    | with_reducible (apply Wr.fold; intro _ _ _) | split | lift_lets

theorem State.ldClose_wr (hR : [(0x3040, 4), (0x7040, 4)] ⊆ R) (d : Nat) (hh : Wr R zz s) : Wr R zz (State.ldClose s d) := by
  unfold State.ldClose
  try lift_lets
  repeat' first
    | with_reducible assumption | exact hitSub (by decide) hR
    | (intro s; refine (fun hk : Wr R zz s => ?_) ?_; clear_value s; rotate_left; subst s) | (intro v; try clear_value v)
    | with_reducible apply State.setEgress_wr | with_reducible apply State.choose_wr | with_reducible apply Wr.ite
    | with_reducible (apply Wr.fold; intro _ _ _) | split | lift_lets

theorem State.ldStep_wr (hR : [(0x3040, 4), (0x7040, 4)] ⊆ R) (old : Nat) (hh : Wr R zz s) : Wr R zz (State.ldStep s old) :=
    by
  unfold State.ldStep
  try lift_lets
  repeat' first
    | with_reducible assumption | exact hitSub (by decide) hR
    | (intro s; refine (fun hk : Wr R zz s => ?_) ?_; clear_value s; rotate_left; subst s) | (intro v; try clear_value v)
    | with_reducible exact hit_aRING_CNT (has2 (by decide) hR) | with_reducible apply State.wr_wr
    | with_reducible apply State.ldCancel_wr | with_reducible apply Wr.ite | with_reducible (apply Wr.fold; intro _ _ _)
    | split | lift_lets

theorem State.ldChanged_wr (hR : [(0x3040, 4), (0x7040, 4)] ⊆ R) (d : Nat) (hh : Wr R zz s) : Wr R zz (State.ldChanged s d)
    := by
  unfold State.ldChanged
  try lift_lets
  repeat' first
    | with_reducible assumption | exact hitSub (by decide) hR
    | (intro s; refine (fun hk : Wr R zz s => ?_) ?_; clear_value s; rotate_left; subst s) | (intro v; try clear_value v)
    | with_reducible apply State.ldCancel_wr | with_reducible apply Wr.ite | split | lift_lets

theorem State.eventSend_wr (hR : [(0x3040, 4), (0x7040, 4)] ⊆ R) (hh : Wr R zz s) : Wr R zz (State.eventSend s) := by
  unfold State.eventSend
  try lift_lets
  repeat' first
    | with_reducible assumption | exact hitSub (by decide) hR
    | (intro s; refine (fun hk : Wr R zz s => ?_) ?_; clear_value s; rotate_left; subst s) | (intro v; try clear_value v)
    | with_reducible apply State.setRing_wr | with_reducible apply State.toLocal_wr | with_reducible apply Wr.ite
    | with_reducible (apply Wr.fold; intro _ _ _)

theorem State.ldDataRead_wr (hR : [] ⊆ R) (c : Nat) (hh : Wr R zz s) : Wr R zz (State.ldDataRead s c) := by
  have h := State.ldDataRead_kept (T := [.ctx]) (zz := s) (List.Subset.refl _) c (Kept.refl _)
  exact Wr.of_regs (Kept.regs_eq h) hh

theorem State.setPtp_wr (hR : [] ⊆ R) (x : Ptp) (hh : Wr R zz s) : Wr R zz (State.setPtp s x) := by
  have h := State.setPtp_kept (T := [.ptp]) (zz := s) (List.Subset.refl _) x (Kept.refl _)
  exact Wr.of_regs (Kept.regs_eq h) hh

theorem State.setRate_wr (hR : [(0x3014, 0)] ⊆ R) (x : Int) (hh : Wr R zz s) : Wr R zz (State.setRate s x) := by
  unfold State.setRate
  repeat' first
    | with_reducible assumption | exact hitSub (by decide) hR | with_reducible apply State.wr_wr
    | with_reducible exact hit_aTIME_RATE (has2 (by decide) hR)

theorem State.timeTick_wr (hR : [] ⊆ R) (hh : Wr R zz s) : Wr R zz (State.timeTick s) := by
  have h := State.timeTick_kept (T := [.time]) (zz := s) (List.Subset.refl _)  (Kept.refl _)
  exact Wr.of_regs (Kept.regs_eq h) hh

theorem State.localMoved_wr (hR : [(0x220, 0)] ⊆ R) (hh : Wr R zz s) : Wr R zz (State.localMoved s) := by
  unfold State.localMoved
  repeat' first
    | with_reducible assumption | exact hitSub (by decide) hR | with_reducible apply State.writeTimeSlots_wr
    | with_reducible apply State.schedJudge_wr

theorem State.takeMaster_wr (hR : [(0x270, 0), (0x2A8, 0), (0x300C, 0), (0x3020, 0), (0x3024, 0), (0x5014, 0), (0x1B070, 0)]
    ⊆ R) (m : Master) (hh : Wr R zz s) : Wr R zz (State.takeMaster s m) := by
  unfold State.takeMaster
  dsimp only
  repeat' first
    | with_reducible assumption | exact hitSub (by decide) hR
    | with_reducible apply Wr.ite | with_reducible apply State.timeState_wr | with_reducible apply State.servoHold_wr
    | with_reducible apply State.setPtp_wr | with_reducible apply State.putFlag_wr | with_reducible apply State.put_wr
    | with_reducible apply State.wr_wr
    | with_reducible exact hit_aTIME_GM_HI (has2 (by decide) hR) | with_reducible exact hit_aTIME_GM_LO (has2 (by decide) hR)
    | with_reducible exact hit_fTIME_MASTER (has2 (by decide) hR)
    | with_reducible exact hit_fTIME_MPORT (has2 (by decide) hR) | with_reducible exact hit_fTIME_STATE (has2 (by decide) hR)
    | fail_if_no_progress (with_reducible refine Wr.upd ?_)

theorem State.reselect_wr (hR : [(0x270, 0), (0x2A8, 0), (0x300C, 0), (0x3020, 0), (0x3024, 0), (0x5014, 0), (0x1B070, 0)] ⊆
    R) (hh : Wr R zz s) : Wr R zz (State.reselect s) := by
  unfold State.reselect
  repeat' first
    | with_reducible assumption | exact hitSub (by decide) hR | with_reducible apply State.takeMaster_wr
    | with_reducible apply Wr.ite | fail_if_no_progress (with_reducible refine Wr.upd ?_) | split

theorem State.announce_wr (hR : [(0x270, 0), (0x2A8, 0), (0x300C, 0), (0x3020, 0), (0x3024, 0), (0x5014, 0), (0x1B070, 0)] ⊆
    R) (m : Master) (hh : Wr R zz s) : Wr R zz (State.announce s m) := by
  unfold State.announce
  try lift_lets
  repeat' first
    | with_reducible assumption | exact hitSub (by decide) hR | (intro v; try clear_value v)
    | with_reducible apply State.reselect_wr | with_reducible apply State.setPtp_wr

theorem State.masterLost_wr (hR : [(0x270, 0), (0x2A8, 0), (0x300C, 0), (0x3020, 0), (0x3024, 0), (0x5014, 0), (0x1B070, 0)]
    ⊆ R) (hh : Wr R zz s) : Wr R zz (State.masterLost s) := by
  unfold State.masterLost
  try lift_lets
  repeat' first
    | with_reducible assumption | exact hitSub (by decide) hR
    | (intro s; refine (fun hk : Wr R zz s => ?_) ?_; clear_value s; rotate_left; subst s) | (intro (v : Fld); subst v)
    | (intro v; try clear_value v) | with_reducible exact hit_fTIME_STATE (has2 (by decide) hR)
    | with_reducible exact hit_fTIME_MPORT (has2 (by decide) hR)
    | with_reducible exact hit_fTIME_MASTER (has2 (by decide) hR) | with_reducible apply State.setPtp_wr
    | with_reducible apply State.putFlag_wr | with_reducible apply State.timeState_wr
    | with_reducible apply State.reselect_wr | with_reducible apply Wr.ite
    | fail_if_no_progress (with_reducible refine Wr.upd ?_) | split | lift_lets

theorem State.stepJudge_wr (hR : [] ⊆ R) (hh : Wr R zz s) : Wr R zz (State.stepJudge s) := by
  have h := State.stepJudge_kept (T := [.ptp]) (zz := s) (List.Subset.refl _)  (Kept.refl _)
  exact Wr.of_regs (Kept.regs_eq h) hh

theorem State.routeJudge_wr (hR : [(0x270, 0), (0x2A8, 0), (0x300C, 0), (0x3030, 4), (0x5014, 0), (0x1B070, 0)] ⊆ R) (hh : Wr
    R zz s) : Wr R zz (State.routeJudge s) := by
  unfold State.routeJudge
  try lift_lets
  repeat' first
    | with_reducible assumption | exact hitSub (by decide) hR
    | (intro s; refine (fun hk : Wr R zz s => ?_) ?_; clear_value s; rotate_left; subst s) | (intro v; try clear_value v)
    | with_reducible apply State.wr_wr | with_reducible apply State.timeState_wr | with_reducible apply State.setPtp_wr
    | with_reducible apply State.logFw_wr | with_reducible exact hit_aTIME_BOOK (has2 (by decide) hR)
    | with_reducible exact hit_fTIME_MPORT (has2 (by decide) hR) | with_reducible apply Wr.ite

theorem State.trustTimer_wr (hR : [] ⊆ R) (run : Bool) (hh : Wr R zz s) : Wr R zz (State.trustTimer s run) := by
  have h := State.trustTimer_kept (T := [.ptp]) (zz := s) (List.Subset.refl _) run (Kept.refl _)
  exact Wr.of_regs (Kept.regs_eq h) hh

theorem State.servo_wr (hR : [] ⊆ R) (o : Int) (hh : Wr R zz s) : Wr R zz (State.servo s o) := by
  have h := State.servo_kept (T := [.free, .ptp]) (zz := s) (List.Subset.refl _) o (Kept.refl _)
  exact Wr.of_regs (Kept.regs_eq h) hh

theorem State.offset_wr (hR : [(0x270, 0), (0x2A8, 0), (0x300C, 0), (0x3010, 0), (0x3030, 4), (0x5014, 0), (0x1B070, 0)] ⊆ R)
    (o : Int) (hh : Wr R zz s) : Wr R zz (State.offset s o) := by
  unfold State.offset
  try lift_lets
  repeat' first
    | with_reducible assumption | exact hitSub (by decide) hR
    | (intro s; refine (fun hk : Wr R zz s => ?_) ?_; clear_value s; rotate_left; subst s) | (intro v; try clear_value v)
    | with_reducible exact hit_aTIME_OFFSET (has2 (by decide) hR)
    | with_reducible exact hit_fTIME_INLOCK (has2 (by decide) hR) | with_reducible apply State.wr_wr
    | with_reducible apply State.setPtp_wr | with_reducible apply State.putFlag_wr
    | with_reducible apply State.routeJudge_wr | with_reducible apply State.servo_wr
    | with_reducible apply State.stepJudge_wr | with_reducible apply Wr.ite | split | lift_lets

theorem State.sync_wr (hR : [(0x270, 0), (0x2A8, 0), (0x300C, 0), (0x3010, 0), (0x3030, 4), (0x5014, 0), (0x1B070, 0)] ⊆ R)
    (p domain src : Nat) (origin corr : Int) (sub : Nat) (hh : Wr R zz s) : Wr R zz (State.sync s p domain src origin corr
    sub) := by
  unfold State.sync
  try lift_lets
  repeat' first
    | with_reducible assumption | exact hitSub (by decide) hR
    | (intro s; refine (fun hk : Wr R zz s => ?_) ?_; clear_value s; rotate_left; subst s) | (intro v; try clear_value v)
    | with_reducible exact hit_fNW_SC1_LOST (has2 (by decide) hR)
    | with_reducible exact hit_fTIME_MPORT (has2 (by decide) hR) | with_reducible apply State.copyTaken_wr
    | with_reducible apply State.offset_wr | with_reducible apply Wr.ite | split | lift_lets

theorem State.holdEnd_wr (hR : [(0x270, 0), (0x2A8, 0), (0x300C, 0), (0x5014, 0), (0x1B070, 0)] ⊆ R) (hh : Wr R zz s) : Wr R
    zz (State.holdEnd s) := by
  unfold State.holdEnd
  try lift_lets
  repeat' first
    | with_reducible assumption | exact hitSub (by decide) hR
    | (intro s; refine (fun hk : Wr R zz s => ?_) ?_; clear_value s; rotate_left; subst s) | (intro v; try clear_value v)
    | with_reducible apply State.setPtp_wr | with_reducible apply State.timeState_wr | with_reducible apply Wr.ite | split
    | lift_lets

theorem State.trustExpiry_wr (hR : [(0x270, 0), (0x2A8, 0), (0x300C, 0), (0x5014, 0), (0x1B070, 0)] ⊆ R) (hh : Wr R zz s) :
    Wr R zz (State.trustExpiry s) := by
  unfold State.trustExpiry
  try lift_lets
  repeat' first
    | with_reducible assumption | exact hitSub (by decide) hR
    | (intro s; refine (fun hk : Wr R zz s => ?_) ?_; clear_value s; rotate_left; subst s) | (intro v; try clear_value v)
    | with_reducible exact hit_fTIME_STATE (has2 (by decide) hR)
    | with_reducible exact hit_fTIME_CAUSE (has2 (by decide) hR)
    | with_reducible exact hit_fTIME_REARMED (has2 (by decide) hR) | with_reducible apply State.put_wr
    | with_reducible apply State.timeState_wr | with_reducible apply State.setPtp_wr | with_reducible apply Wr.ite | split
    | lift_lets

theorem State.capReached_wr (hR : [(0x294, 0), (0x1E010, 0)] ⊆ R) (hh : Wr R zz s) : Wr R zz (State.capReached s) := by
  unfold State.capReached
  repeat' first
    | with_reducible assumption | exact hitSub (by decide) hR | with_reducible apply State.capTrigger_wr
    | with_reducible exact hit_fCAP_STATE (has2 (by decide) hR) | with_reducible apply Wr.ite

theorem State.stepClock_wr (hR : [(0x3014, 0)] ⊆ R) (d : Int) (hh : Wr R zz s) : Wr R zz (State.stepClock s d) := by
  unfold State.stepClock
  try lift_lets
  repeat' first
    | with_reducible assumption | exact hitSub (by decide) hR
    | (intro s; refine (fun hk : Wr R zz s => ?_) ?_; clear_value s; rotate_left; subst s) | (intro v; try clear_value v)
    | with_reducible apply State.setRate_wr | with_reducible apply State.setPtp_wr | with_reducible apply Wr.ite
    | fail_if_no_progress (with_reducible refine Wr.upd ?_) | split | lift_lets

theorem State.stepRecord_wr (hR : [(0x270, 0), (0x2A8, 0), (0x300C, 0), (0x3040, 4), (0x5014, 0), (0x1B070, 0)] ⊆ R) (d :
    Int) (hh : Wr R zz s) : Wr R zz (State.stepRecord s d) := by
  unfold State.stepRecord
  try lift_lets
  repeat' first
    | with_reducible assumption | exact hitSub (by decide) hR
    | (intro s; refine (fun hk : Wr R zz s => ?_) ?_; clear_value s; rotate_left; subst s) | (intro v; try clear_value v)
    | with_reducible apply State.bump_wr | with_reducible apply State.putFlag_wr | with_reducible apply State.timeState_wr
    | with_reducible apply State.put_wr | with_reducible apply State.logFw_wr
    | with_reducible exact hit_aTIME_CNT (has2 (by decide) hR) | with_reducible exact hit_fTIME_CAUSE (has2 (by decide) hR)
    | with_reducible exact hit_fTIME_REARMED (has2 (by decide) hR) | with_reducible exact hit_fTIME_SET (has2 (by decide) hR)

theorem State.patStep_wr (hR : [] ⊆ R) (p old : Nat) (set : Bool) (hh : Wr R zz s) : Wr R zz (State.patStep s p old set) :=
    by
  have h := State.patStep_kept (T := [.dim]) (zz := s) (List.Subset.refl _) p old set (Kept.refl _)
  exact Wr.of_regs (Kept.regs_eq h) hh

theorem State.mornStep_wr (hR : [] ⊆ R) (set : Bool) (hh : Wr R zz s) : Wr R zz (State.mornStep s set) := by
  have h := State.mornStep_kept (T := [.pwr]) (zz := s) (List.Subset.refl _) set (Kept.refl _)
  exact Wr.of_regs (Kept.regs_eq h) hh

theorem State.snapStep_wr (hR : [] ⊆ R) (set : Bool) (hh : Wr R zz s) : Wr R zz (State.snapStep s set) := by
  have h := State.snapStep_kept (T := [.life]) (zz := s) (List.Subset.refl _) set (Kept.refl _)
  exact Wr.of_regs (Kept.regs_eq h) hh

theorem State.daySnapshot_wr (hR : [(0x290, 0)] ⊆ R) (hh : Wr R zz s) : Wr R zz (State.daySnapshot s) := by
  unfold State.daySnapshot
  repeat' first
    | with_reducible assumption | exact hitSub (by decide) hR
    | with_reducible exact hit_fLIFE_RESTORE (has2 (by decide) hR) | with_reducible apply State.snapshot_wr
    | with_reducible apply Wr.ite | fail_if_no_progress (with_reducible refine Wr.upd ?_) | split

theorem State.timeStep_wr (hR : [(0x220, 0), (0x270, 0), (0x294, 0), (0x2A8, 0), (0x300C, 0), (0x3014, 0), (0x3040, 4),
    (0x5014, 0), (0x7040, 4), (0x1B070, 0), (0x1E010, 0)] ⊆ R) (hh : Wr R zz s) : Wr R zz (State.timeStep s) := by
  unfold State.timeStep
  try lift_lets
  repeat' first
    | with_reducible assumption | exact hitSub (by decide) hR
    | (intro s; refine (fun hk : Wr R zz s => ?_) ?_; clear_value s; rotate_left; subst s) | (intro v; try clear_value v)
    | with_reducible exact hit_fTIME_SET (has2 (by decide) hR) | with_reducible apply State.setPtp_wr
    | with_reducible apply State.stepClock_wr | with_reducible apply State.stepRecord_wr
    | with_reducible apply State.ldStep_wr | with_reducible apply State.evalTwins_wr
    | with_reducible apply State.patStep_wr | with_reducible apply State.localMoved_wr
    | with_reducible apply State.mornStep_wr | with_reducible apply State.snapStep_wr
    | with_reducible apply State.capReached_wr | with_reducible apply Wr.ite | with_reducible (apply Wr.fold; intro _ _ _)
    | split | lift_lets

theorem State.rearm_wr (hR : [(0x300C, 0)] ⊆ R) (hh : Wr R zz s) : Wr1 R zz (State.rearm s) := by
  unfold State.rearm
  try lift_lets
  repeat' first
    | with_reducible assumption | exact hitSub (by decide) hR
    | (intro s; refine (fun hk : Wr R zz s => ?_) ?_; clear_value s; rotate_left; subst s) | (intro (v : Fld); subst v)
    | (intro v; try clear_value v) | with_reducible exact hit_fTIME_STATE (has2 (by decide) hR)
    | with_reducible exact hit_fTIME_CAUSE (has2 (by decide) hR)
    | with_reducible exact hit_fTIME_REARMED (has2 (by decide) hR) | with_reducible apply State.setPtp_wr
    | with_reducible apply State.putFlag_wr | with_reducible apply Wr.ite | with_reducible apply Wr1.ite
    | with_reducible apply Wr1.mk | split | lift_lets

theorem State.rearmLapse_wr (hR : [(0x2A8, 0), (0x300C, 0), (0x5014, 0)] ⊆ R) (hh : Wr R zz s) : Wr R zz (State.rearmLapse s)
    := by
  unfold State.rearmLapse
  try lift_lets
  repeat' first
    | with_reducible assumption | exact hitSub (by decide) hR
    | (intro s; refine (fun hk : Wr R zz s => ?_) ?_; clear_value s; rotate_left; subst s) | (intro v; try clear_value v)
    | with_reducible exact hit_fTIME_REARMED (has2 (by decide) hR)
    | with_reducible exact hit_fTIME_STATE (has2 (by decide) hR) | with_reducible apply State.putFlag_wr
    | with_reducible apply State.setPtp_wr | with_reducible apply State.logFw_wr | with_reducible apply Wr.ite | split
    | lift_lets

theorem State.timeDeadline_wr (hR : [(0x3014, 0)] ⊆ R) (onTime : Bool) (hh : Wr R zz s) : Wr R zz (State.timeDeadline s
    onTime) := by
  unfold State.timeDeadline
  try lift_lets
  repeat' first
    | with_reducible assumption | exact hitSub (by decide) hR
    | (intro s; refine (fun hk : Wr R zz s => ?_) ?_; clear_value s; rotate_left; subst s) | (intro v; try clear_value v)
    | with_reducible apply State.setRate_wr | with_reducible apply State.setPtp_wr | with_reducible apply Wr.ite | split
    | lift_lets

theorem State.pdelayDrop_wr (hR : [] ⊆ R) (p : Nat) (hh : Wr R zz s) : Wr R zz (State.pdelayDrop s p) := by
  have h := State.pdelayDrop_kept (T := [.ptp]) (zz := s) (List.Subset.refl _) p (Kept.refl _)
  exact Wr.of_regs (Kept.regs_eq h) hh

theorem State.pdelayBad_wr (hR : [(0x3040, 4)] ⊆ R) (p : Nat) (hh : Wr R zz s) : Wr R zz (State.pdelayBad s p) := by
  unfold State.pdelayBad
  repeat' first
    | with_reducible assumption | exact hitSub (by decide) hR | with_reducible exact hit_aTIME_CNT (has2 (by decide) hR)
    | with_reducible apply State.pdelayDrop_wr | with_reducible apply State.bump_wr | with_reducible apply Wr.ite | split

theorem State.pdelaySend_wr (hR : [(0x3040, 4), (0x7040, 4)] ⊆ R) (p : Nat) (hh : Wr R zz s) : Wr R zz (State.pdelaySend s p)
    := by
  unfold State.pdelaySend
  try lift_lets
  repeat' first
    | with_reducible assumption | exact hitSub (by decide) hR
    | (intro s; refine (fun hk : Wr R zz s => ?_) ?_; clear_value s; rotate_left; subst s) | (intro v; try clear_value v)
    | with_reducible apply State.pdelayBad_wr | with_reducible apply State.setPtp_wr | with_reducible apply State.toPtp_wr
    | with_reducible apply Wr.ite | split | lift_lets

theorem State.pdelayAnswer_wr (hR : [(0x3040, 4), (0x7040, 4)] ⊆ R) (p src id corr sub : Nat) (hh : Wr R zz s) : Wr R zz
    (State.pdelayAnswer s p src id corr sub) := by
  unfold State.pdelayAnswer
  try lift_lets
  repeat' first
    | with_reducible assumption | exact hitSub (by decide) hR
    | (intro s; refine (fun hk : Wr R zz s => ?_) ?_; clear_value s; rotate_left; subst s) | (intro v; try clear_value v)
    | with_reducible apply State.copyTaken_wr | with_reducible apply State.toPtp_wr | with_reducible apply Wr.ite | split
    | lift_lets

theorem State.pdelayDone_wr (hR : [(0x3018, 4), (0x3040, 4)] ⊆ R) (p id : Nat) (t2 t3 corr : Int) (sub : Nat) (hh : Wr R zz
    s) : Wr R zz (State.pdelayDone s p id t2 t3 corr sub) := by
  unfold State.pdelayDone
  try lift_lets
  repeat' first
    | with_reducible assumption | exact hitSub (by decide) hR
    | (intro s; refine (fun hk : Wr R zz s => ?_) ?_; clear_value s; rotate_left; subst s) | (intro v; try clear_value v)
    | with_reducible exact hit_aTIME_MPD (has2 (by decide) hR) | with_reducible apply State.copyTaken_wr
    | with_reducible apply State.pdelayBad_wr | with_reducible apply State.pdelayDrop_wr
    | with_reducible apply State.setPtp_wr | with_reducible apply State.wr_wr | with_reducible apply Wr.ite | split
    | lift_lets

theorem State.ppsRise_wr (hR : [(0x302C, 0)] ⊆ R) (hh : Wr R zz s) : Wr R zz (State.ppsRise s) := by
  unfold State.ppsRise
  try lift_lets
  repeat' first
    | with_reducible assumption | exact hitSub (by decide) hR
    | (intro s; refine (fun hk : Wr R zz s => ?_) ?_; clear_value s; rotate_left; subst s) | (intro v; try clear_value v)
    | with_reducible exact hit_fPPS_LAG (has2 (by decide) hR) | with_reducible apply State.setPtp_wr
    | with_reducible apply State.put_wr | with_reducible apply Wr.ite
    | fail_if_no_progress (with_reducible refine Wr.upd ?_) | split | lift_lets

theorem State.ppsFall_wr (hR : [] ⊆ R) (hh : Wr R zz s) : Wr R zz (State.ppsFall s) := by
  have h := State.ppsFall_kept (T := [.pins]) (zz := s) (List.Subset.refl _)  (Kept.refl _)
  exact Wr.of_regs (Kept.regs_eq h) hh

theorem State.ppsIn_wr (hR : [(0x270, 0), (0x2A8, 0), (0x3028, 0), (0x5014, 0), (0x1B070, 0)] ⊆ R) (rise : Bool) (sub : Nat)
    (hh : Wr R zz s) : Wr R zz (State.ppsIn s rise sub) := by
  unfold State.ppsIn
  try lift_lets
  repeat' first
    | with_reducible assumption | exact hitSub (by decide) hR
    | (intro s; refine (fun hk : Wr R zz s => ?_) ?_; clear_value s; rotate_left; subst s) | (intro (v : Fld); subst v)
    | (intro v; try clear_value v) | with_reducible exact hit_aTIME_PPSIN (has2 (by decide) hR)
    | with_reducible apply State.wr_wr | with_reducible apply State.setPtp_wr | with_reducible apply State.logStamp_wr
    | with_reducible apply State.raise_wr | with_reducible apply Wr.ite | split | lift_lets

theorem State.offsetChange_wr (hR : [(0x220, 0)] ⊆ R) (hh : Wr R zz s) : Wr R zz (State.offsetChange s) := by
  unfold State.offsetChange
  repeat' first
    | with_reducible assumption | exact hitSub (by decide) hR | with_reducible apply State.localMoved_wr
    | with_reducible apply Wr.ite | fail_if_no_progress (with_reducible refine Wr.upd ?_) | split

theorem State.timeRead_wr (hR : [] ⊆ R) (c : Nat) (hh : Wr R zz s) : Wr R zz (State.timeRead s c) := by
  have h := State.timeRead_kept (T := [.ctx]) (zz := s) (List.Subset.refl _) c (Kept.refl _)
  exact Wr.of_regs (Kept.regs_eq h) hh

theorem State.setMbx_wr (hR : [] ⊆ R) (x : Mbx) (hh : Wr R zz s) : Wr R zz (State.setMbx s x) := by
  have h := State.setMbx_kept (T := [.mbx]) (zz := s) (List.Subset.refl _) x (Kept.refl _)
  exact Wr.of_regs (Kept.regs_eq h) hh

theorem State.ramWrite_wr (hR : [] ⊆ R) (a : Nat) (xs : List Byte) (hh : Wr R zz s) : Wr R zz (s.ramWrite a xs) := by
  have h := State.ramWrite_kept (T := [.mbx]) (zz := s) (List.Subset.refl _) a xs (Kept.refl _)
  exact Wr.of_regs (Kept.regs_eq h) hh

theorem State.setRingCtx_wr (hR : [] ⊆ R) (c : Nat) (x : RingCtx) (hh : Wr R zz s) : Wr R zz (State.setRingCtx s c x) := by
  have h := State.setRingCtx_kept (T := [.mbx]) (zz := s) (List.Subset.refl _) c x (Kept.refl _)
  exact Wr.of_regs (Kept.regs_eq h) hh

theorem State.mbxErr_wr (hR : [(0x270, 0), (0x1B070, 0)] ⊆ R) (f : Fld) (hf : hits R f.addr = true) (hh : Wr R zz s) :
    Wr R zz (s.mbxErr f) := by
  unfold State.mbxErr
  exact Wr.ite hh (State.raise_wr (hitSub (by decide) hR) _ (State.putFlag_wr hf hh))

theorem State.updCmd_wr (hR : [] ⊆ R) (id : Nat) (f : Cmd → Cmd) (hh : Wr R zz s) : Wr R zz (State.updCmd s id f) := by
  have h := State.updCmd_kept (T := [.mbx]) (zz := s) (List.Subset.refl _) id f (Kept.refl _)
  exact Wr.of_regs (Kept.regs_eq h) hh

theorem State.addCmd_wr (hR : [] ⊆ R) (c : Cmd) (hh : Wr R zz s) : Wr R zz (State.addCmd s c) := by
  have h := State.addCmd_kept (T := [.mbx]) (zz := s) (List.Subset.refl _) c (Kept.refl _)
  exact Wr.of_regs (Kept.regs_eq h) hh

theorem State.finishCmd_wr (hR : [] ⊆ R) (id st r0 : Nat) (out : List Byte) (hh : Wr R zz s) : Wr R zz (State.finishCmd s id
    st r0 out) := by
  have h := State.finishCmd_kept (T := [.mbx]) (zz := s) (List.Subset.refl _) id st r0 out (Kept.refl _)
  exact Wr.of_regs (Kept.regs_eq h) hh

theorem State.longCmd_wr (hR : [] ⊆ R) (id : Nat) (hh : Wr R zz s) : Wr R zz (State.longCmd s id) := by
  have h := State.longCmd_kept (T := [.mbx]) (zz := s) (List.Subset.refl _) id (Kept.refl _)
  exact Wr.of_regs (Kept.regs_eq h) hh

theorem State.takeCmd_wr (hR : [(0x270, 0), (0x4018, 0), (0x1B070, 0)] ⊆ R) (c : Cmd) (hh : Wr R zz s) : Wr R zz
    (State.takeCmd s c) := by
  unfold State.takeCmd
  try lift_lets
  repeat' first
    | with_reducible assumption | exact hitSub (by decide) hR
    | (intro s; refine (fun hk : Wr R zz s => ?_) ?_; clear_value s; rotate_left; subst s) | (intro v; try clear_value v)
    | with_reducible exact hit_fMBX_DUP_TAG (has2 (by decide) hR) | with_reducible apply State.addCmd_wr
    | with_reducible apply State.mbxErr_wr | with_reducible apply Wr.ite | split | lift_lets

theorem State.copyDesc_wr (hR : [(0x270, 0), (0x4000, 0), (0x4004, 0), (0x4008, 0), (0x400C, 0), (0x4018, 0), (0x1B070, 0)] ⊆
    R) (urgent : Bool) (hh : Wr R zz s) : Wr R zz (State.copyDesc s urgent) := by
  have ha : hits R (if urgent then aMBX_SQU_HEAD else aMBX_SQN_HEAD) = true := by
    split
    · exact hit_aMBX_SQU_HEAD (has2 (by decide) hR)
    · exact hit_aMBX_SQN_HEAD (has2 (by decide) hR)
  unfold State.copyDesc
  exact Wr.ite hh (State.takeCmd_wr (hitSub (by decide) hR) _ (State.wr_wr ha (State.setMbx_wr (hitSub (by decide) hR) _ hh)))

theorem State.doorbell_wr (hR : [(0x270, 0), (0x4000, 0), (0x4004, 0), (0x4008, 0), (0x400C, 0), (0x4018, 0), (0x1B070, 0)] ⊆
    R) (urgent : Bool) (x : Nat) (hh : Wr R zz s) : Wr R zz (State.doorbell s urgent x) := by
  have ha : hits R (if urgent then aMBX_SQU_TAIL else aMBX_SQN_TAIL) = true := by
    split
    · exact hit_aMBX_SQU_TAIL (has2 (by decide) hR)
    · exact hit_aMBX_SQN_TAIL (has2 (by decide) hR)
  unfold State.doorbell
  exact Wr.ite hh (State.raise_wr (hitSub (by decide) hR) _
    (Wr.ite (State.mbxErr_wr (hitSub (by decide) hR) _ (hit_fMBX_TAIL_BAD (has2 (by decide) hR)) hh) (State.wr_wr ha hh)))

theorem State.cqHead_wr (hR : [(0x4014, 0)] ⊆ R) (x : Nat) (hh : Wr R zz s) : Wr R zz (State.cqHead s x) := by
  unfold State.cqHead
  repeat' first
    | with_reducible assumption | exact hitSub (by decide) hR | with_reducible apply State.wr_wr
    | with_reducible exact hit_aMBX_CQ_HEAD (has2 (by decide) hR)

theorem State.startCmd_wr (hR : [] ⊆ R) (c : Cmd) (hh : Wr R zz s) : Wr R zz (State.startCmd s c) := by
  have h := State.startCmd_kept (T := [.free, .mbx, .sec]) (zz := s) (List.Subset.refl _) c (Kept.refl _)
  exact Wr.of_regs (Kept.regs_eq h) hh

theorem State.schedule_wr (hR : [] ⊆ R) (hh : Wr R zz s) : Wr R zz (State.schedule s) := by
  have h := State.schedule_kept (T := [.free, .mbx, .sec]) (zz := s) (List.Subset.refl _)  (Kept.refl _)
  exact Wr.of_regs (Kept.regs_eq h) hh

theorem State.onCmd_wr (p : Cmd → Bool) (f : Cmd → State) (hf : ∀ c, Wr R zz (f c)) (hh : Wr R zz s) :
    Wr R zz (s.onCmd p f) := by
  unfold State.onCmd
  split
  · exact hh
  · refine Wr.ite hh (Wr.ite (hf _) ?_)
    split
    · exact State.finishCmd_wr (List.nil_subset _) _ _ _ _ hh
    · exact hf _

theorem State.sendReply_wr (hR : [(0x3040, 4), (0x7040, 4)] ⊆ R) (p ctx mac seq : Nat) (body : List Byte) (hh : Wr R zz s) :
    Wr R zz (State.sendReply s p ctx mac seq body) := by
  unfold State.sendReply
  repeat' first
    | with_reducible assumption | exact hitSub (by decide) hR | with_reducible apply State.toLocal_wr

theorem State.removeCmd_wr (hR : [] ⊆ R) (id : Nat) (hh : Wr R zz s) : Wr R zz (State.removeCmd s id) := by
  have h := State.removeCmd_kept (T := [.mbx]) (zz := s) (List.Subset.refl _) id (Kept.refl _)
  exact Wr.of_regs (Kept.regs_eq h) hh

theorem State.postQspi_wr (hR : [(0x270, 0), (0x4010, 0), (0x1B070, 0)] ⊆ R) (c : Cmd) (hh : Wr R zz s) : Wr R zz
    (State.postQspi s c) := by
  unfold State.postQspi
  try lift_lets
  repeat' first
    | with_reducible assumption | exact hitSub (by decide) hR | (intro v; try clear_value v)
    | with_reducible apply State.raise_wr | with_reducible apply State.removeCmd_wr | with_reducible apply State.wr_wr
    | with_reducible apply State.ramWrite_wr | with_reducible apply State.fresh_wr
    | with_reducible (refine Wr.eq2 (by assumption) ?_; apply State.fresh_wr) | with_reducible apply State.freeBytes_wr
    | with_reducible (refine Wr.eq2 (by assumption) ?_; apply State.freeBytes_wr)
    | with_reducible exact hit_aMBX_CQ_TAIL (has2 (by decide) hR) | with_reducible apply Wr.ite
    | with_reducible apply Wr2.ite | with_reducible apply Wr2.mk | fail_if_no_progress (with_reducible refine Wr.upd ?_)
    | split

theorem State.postRing_wr (hR : [(0x3040, 4), (0x7040, 4)] ⊆ R) (c : Cmd) (hh : Wr R zz s) : Wr R zz (State.postRing s c) :=
    by
  unfold State.postRing
  try lift_lets
  repeat' first
    | with_reducible assumption | exact hitSub (by decide) hR
    | (intro s; refine (fun hk : Wr R zz s => ?_) ?_; clear_value s; rotate_left; subst s) | (intro v; try clear_value v)
    | with_reducible apply State.removeCmd_wr | with_reducible apply State.setRingCtx_wr
    | with_reducible apply State.sendReply_wr | with_reducible apply Wr.ite | split | lift_lets

theorem State.postOne_wr (hR : [(0x270, 0), (0x3040, 4), (0x4010, 0), (0x7040, 4), (0x1B070, 0)] ⊆ R) (hh : Wr R zz s) : Wr R
    zz (State.postOne s) := by
  unfold State.postOne
  repeat' first
    | with_reducible assumption | exact hitSub (by decide) hR | with_reducible apply State.removeCmd_wr
    | with_reducible apply State.postRing_wr | with_reducible apply State.postQspi_wr | with_reducible apply Wr.ite
    | fail_if_no_progress (with_reducible refine Wr.upd ?_) | split

theorem State.mbxReset_wr (hR : [(0x4018, 0)] ⊆ R) (key : Nat) (hh : Wr R zz s) : Wr R zz (State.mbxReset s key) := by
  unfold State.mbxReset
  repeat' first
    | with_reducible assumption | exact hitSub (by decide) hR | with_reducible apply State.setCopy_wr
    | with_reducible apply State.putFlag_wr | with_reducible apply State.dropNonce_wr
    | with_reducible exact hit_fMBX_RESETTING (has2 (by decide) hR) | with_reducible apply Wr.ite

theorem State.mbxResetDone_wr (hR : [(0x4000, 0), (0x4004, 0), (0x4008, 0), (0x400C, 0), (0x4010, 0), (0x4014, 0), (0x4018,
    0)] ⊆ R) (hh : Wr R zz s) : Wr R zz (State.mbxResetDone s) := by
  unfold State.mbxResetDone
  have h0 := fun x => State.setMbx_wr (hitSub (by decide) hR) x hh
  refine Wr.ite hh (State.dropNonce_wr (hitSub (by decide) hR) _ (State.endElev_wr (hitSub (by decide) hR) _ (State.putFlag_wr (hit_fMBX_DUP_TAG (has2 (by decide) hR)) (State.putFlag_wr (hit_fMBX_RESETTING (has2 (by decide) hR)) ?_))))
  exact State.wr_wr (hit_aMBX_CQ_HEAD (has2 (by decide) hR)) (State.wr_wr (hit_aMBX_CQ_TAIL (has2 (by decide) hR)) (State.wr_wr (hit_aMBX_SQU_HEAD (has2 (by decide) hR)) (State.wr_wr (hit_aMBX_SQU_TAIL (has2 (by decide) hR)) (State.wr_wr (hit_aMBX_SQN_HEAD (has2 (by decide) hR)) (State.wr_wr (hit_aMBX_SQN_TAIL (has2 (by decide) hR)) (h0 _))))))

theorem State.dropCtx_wr (hR : [] ⊆ R) (c : Nat) (hh : Wr R zz s) : Wr R zz (State.dropCtx s c) := by
  have h := State.dropCtx_kept (T := [.mbx, .sec]) (zz := s) (List.Subset.refl _) c (Kept.refl _)
  exact Wr.of_regs (Kept.regs_eq h) hh

theorem State.openCtx_wr (hR : [] ⊆ R) (c mac : Nat) (hh : Wr R zz s) : Wr R zz (State.openCtx s c mac) := by
  have h := State.openCtx_kept (T := [.ctx, .mbx, .sec]) (zz := s) (List.Subset.refl _) c mac (Kept.refl _)
  exact Wr.of_regs (Kept.regs_eq h) hh

theorem State.ctxFor_wr (hR : [] ⊆ R) (mac : Nat) (hh : Wr R zz s) : Wr2 R zz (State.ctxFor s mac) := by
  have h := State.ctxFor_kept (T := [.ctx, .mbx, .sec]) (zz := s) (List.Subset.refl _) mac (Kept.refl _)
  exact Wr2.of_regs (Kept.regs_eq h) hh

theorem State.ringCmd_wr (hR : [(0x270, 0), (0x3040, 4), (0x4018, 0), (0x4034, 0), (0x4038, 0), (0x7040, 4), (0x1B070, 0)] ⊆
    R) (c p mac seq : Nat) (body : List Byte) (hh : Wr R zz s) : Wr R zz (State.ringCmd s c p mac seq body) := by
  unfold State.ringCmd
  try lift_lets
  repeat' first
    | with_reducible assumption | exact hitSub (by decide) hR
    | (intro s; refine (fun hk : Wr R zz s => ?_) ?_; clear_value s; rotate_left; subst s) | (intro v; try clear_value v)
    | with_reducible exact hit_aMBX_RING_DUP (has2 (by decide) hR)
    | with_reducible exact hit_aMBX_RING_OLD (has2 (by decide) hR) | with_reducible apply State.setRingCtx_wr
    | with_reducible apply State.bump_wr | with_reducible apply State.sendReply_wr | with_reducible apply State.addCmd_wr
    | with_reducible apply State.takeCmd_wr | with_reducible apply Wr.ite | split | lift_lets

theorem State.ringCmdFrame_wr (hR : [(0x270, 0), (0x3040, 4), (0x4018, 0), (0x4034, 0), (0x4038, 0), (0x7040, 4), (0x1B070,
    0)] ⊆ R) (p mac seq : Nat) (body : List Byte) (hh : Wr R zz s) : Wr R zz (State.ringCmdFrame s p mac seq body) := by
  unfold State.ringCmdFrame
  try lift_lets
  repeat' first
    | with_reducible assumption | exact hitSub (by decide) hR
    | (intro s; refine (fun hk : Wr R zz s => ?_) ?_; clear_value s; rotate_left; subst s) | (intro v; try clear_value v)
    | with_reducible exact hit_fPWR_HOLD (has2 (by decide) hR) | with_reducible apply State.copyTaken_wr
    | with_reducible apply State.ctxFor_wr | with_reducible (apply Wr.snd; apply State.ctxFor_wr)
    | with_reducible (refine Wr.eq2 (by assumption) ?_; apply State.ctxFor_wr) | with_reducible apply State.ringCmd_wr
    | with_reducible apply State.sendReply_wr | with_reducible apply Wr.ite | with_reducible apply Wr2.ite
    | with_reducible apply Wr2.mk | split | lift_lets

theorem State.replyDrop_wr (hR : [] ⊆ R) (p : Nat) (hh : Wr R zz s) : Wr R zz (State.replyDrop s p) := by
  have h := State.replyDrop_kept (T := [.ring]) (zz := s) (List.Subset.refl _) p (Kept.refl _)
  exact Wr.of_regs (Kept.regs_eq h) hh

theorem State.ctxIdle_wr (hR : [] ⊆ R) (c : Nat) (hh : Wr R zz s) : Wr R zz (State.ctxIdle s c) := by
  have h := State.ctxIdle_kept (T := [.mbx, .sec]) (zz := s) (List.Subset.refl _) c (Kept.refl _)
  exact Wr.of_regs (Kept.regs_eq h) hh

theorem State.restartCmds_wr (hR : [] ⊆ R) (hh : Wr R zz s) : Wr R zz (State.restartCmds s) := by
  have h := State.restartCmds_kept (T := [.mbx, .sec]) (zz := s) (List.Subset.refl _)  (Kept.refl _)
  exact Wr.of_regs (Kept.regs_eq h) hh

end Sys2Proof.Machine
end

