-- ==== Sys2Proof/Laws/RegsTop.lean ====
section
/-! SUPPORT. Which registers each operation may write, one lemma per operation: configuration, cores, self-test, power, host interface. -/

-- Proofs elaborated beside each other need more threads than the package's memory limit allows.
set_option Elab.async false
-- One proof script serves many operations, so a step or a name of it may have no use in some.
set_option linter.unusedVariables false
set_option linter.unusedTactic false
set_option linter.unreachableTactic false

namespace Sys2Proof.Machine

variable {R : List (Nat × Nat)} {zz s : State}

theorem State.setCfg_wr (hR : [] ⊆ R) (x : Cfg) (hh : Wr R zz s) : Wr R zz (State.setCfg s x) := by
  have h := State.setCfg_kept (T := [.cfg]) (zz := s) (List.Subset.refl _) x (Kept.refl _)
  exact Wr.of_regs (Kept.regs_eq h) hh

theorem State.showStaging_wr (hR : [(0x260, 0)] ⊆ R) (hh : Wr R zz s) : Wr R zz (State.showStaging s) := by
  unfold State.showStaging
  repeat' first
    | with_reducible assumption | exact hitSub (by decide) hR | with_reducible apply State.putFlag_wr
    | with_reducible apply State.put_wr | with_reducible exact hit_fCFG_STAGED_W (has2 (by decide) hR)
    | with_reducible exact hit_fCFG_STAGING (has2 (by decide) hR)

theorem State.setReport_wr (hR : [(0x260, 0)] ⊆ R) (outcome : Nat) (r : CfgRep) (image present carried rej : Nat) (hh : Wr R
    zz s) : Wr R zz (State.setReport s outcome r image present carried rej) := by
  unfold State.setReport
  try lift_lets
  repeat' first
    | with_reducible assumption | exact hitSub (by decide) hR | (intro v; try clear_value v)
    | with_reducible apply State.put_wr | with_reducible apply State.setCfg_wr
    | with_reducible exact hit_fCFG_OUTCOME (has2 (by decide) hR)

theorem State.stageBlock_wr (hR : [(0x260, 0)] ⊆ R) (c : Nat) (b : List Byte) (hh : Wr R zz s) : Wr1 R zz (State.stageBlock s
    c b) := by
  unfold State.stageBlock
  have k : ∀ (x : Cfg) (v : Nat), Wr1 R zz ((s.setCfg x).showStaging, v) :=
    fun x _ => State.showStaging_wr (hitSub (by decide) hR) (State.setCfg_wr (hitSub (by decide) hR) x hh)
  repeat' first
    | exact Wr1.mk hh
    | exact k _ _
    | apply Wr1.ite

theorem State.dropStaging_wr (hR : [(0x260, 0)] ⊆ R) (hh : Wr R zz s) : Wr R zz (State.dropStaging s) := by
  unfold State.dropStaging
  repeat' first
    | with_reducible assumption | exact hitSub (by decide) hR | with_reducible apply State.showStaging_wr
    | with_reducible apply State.setCfg_wr

theorem State.effRules_wr (hR : [(0x230, 0), (0x16104, 0)] ⊆ R) (old : State) (hh : Wr R zz s) : Wr R zz (State.effRules old
    s) := by
  unfold State.effRules
  try lift_lets
  repeat' first
    | with_reducible assumption | exact hitSub (by decide) hR
    | (intro s; refine (fun hk : Wr R zz s => ?_) ?_; clear_value s; rotate_left; subst s) | (intro v; try clear_value v)
    | with_reducible exact hit_fXCHK_NFLAG (has2 (by decide) hR) | with_reducible apply State.ruleStat_wr
    | with_reducible apply State.put_wr | with_reducible apply Wr.ite | with_reducible (apply Wr.fold; intro _ _ _)
    | fail_if_no_progress (with_reducible refine Wr.upd ?_) | split | lift_lets

theorem State.effObs_wr (hR : [] ⊆ R) (old : State) (hh : Wr R zz s) : Wr R zz (State.effObs old s) := by
  have h := State.effObs_kept (T := [.obs]) (zz := s) (List.Subset.refl _) old (Kept.refl _)
  exact Wr.of_regs (Kept.regs_eq h) hh

theorem State.effBright_wr (hR : [(0x220, 0)] ⊆ R) (old : State) (hh : Wr R zz s) : Wr R zz (State.effBright old s) := by
  unfold State.effBright
  have key : ∀ u : State, Wr R zz u →
      Wr R zz (if u.get fBIN_INPUT = 1 then u.putFlag fDIM_BIN_RANGE false else u.putFlag fDIM_BIN_LOST false) := fun u hu =>
    Wr.ite (State.putFlag_wr (hit_fDIM_BIN_RANGE (has2 (by decide) hR)) hu)
      (State.putFlag_wr (hit_fDIM_BIN_LOST (has2 (by decide) hR)) hu)
  exact key _ (Wr.upd hh)

theorem State.effLoops_wr (hR : [(0x18000, 0), (0x18500, 4)] ⊆ R) (old : State) (hh : Wr R zz s) : Wr R zz (State.effLoops
    old s) := by
  unfold State.effLoops
  try lift_lets
  repeat' first
    | with_reducible assumption | exact hitSub (by decide) hR
    | (intro s; refine (fun hk : Wr R zz s => ?_) ?_; clear_value s; rotate_left; subst s) | (intro v; try clear_value v)
    | with_reducible exact hit_aLOOP_SHD (has2 (by decide) hR) | with_reducible exact hit_aLOOP_SWAP (has2 (by decide) hR)
    | with_reducible apply State.wr_wr | with_reducible apply State.put_wr | with_reducible apply Wr.ite
    | with_reducible (apply Wr.fold; intro _ _ _) | split | lift_lets

theorem State.effAdc_wr (hR : [] ⊆ R) (old : State) (hh : Wr R zz s) : Wr R zz (State.effAdc old s) := by
  have h := State.effAdc_kept (T := [.adc]) (zz := s) (List.Subset.refl _) old (Kept.refl _)
  exact Wr.of_regs (Kept.regs_eq h) hh

theorem State.effRing_wr (hR : [(0x270, 0), (0x2A8, 0), (0x300C, 0), (0x3040, 4), (0x5014, 0), (0x7000, 4), (0x7008, 0),
    (0x700C, 0), (0x7040, 4), (0x1B070, 0)] ⊆ R) (old : State) (hh : Wr R zz s) : Wr R zz (State.effRing old s) := by
  unfold State.effRing
  try lift_lets
  repeat' first
    | with_reducible assumption | exact hitSub (by decide) hR
    | (intro s; refine (fun hk : Wr R zz s => ?_) ?_; clear_value s; rotate_left; subst s) | (intro (v : Fld); subst v)
    | (intro v; try clear_value v) | with_reducible exact hit_fRP_RATE (has2 (by decide) hR)
    | with_reducible apply State.put_wr | with_reducible apply State.sfOnset_wr | with_reducible apply State.setRing_wr
    | with_reducible apply State.ldChanged_wr | with_reducible apply State.nbrAgain_wr | with_reducible apply Wr.ite
    | with_reducible (apply Wr.fold; intro _ _ _) | split | lift_lets

theorem State.effTime_wr (hR : [(0x220, 0), (0x3030, 4)] ⊆ R) (old : State) (hh : Wr R zz s) : Wr R zz (State.effTime old s)
    := by
  unfold State.effTime
  try lift_lets
  repeat' first
    | with_reducible assumption | exact hitSub (by decide) hR
    | (intro s; refine (fun hk : Wr R zz s => ?_) ?_; clear_value s; rotate_left; subst s) | (intro v; try clear_value v)
    | with_reducible apply State.schedJudge_wr | with_reducible apply State.wr_wr | with_reducible apply State.localMoved_wr
    | with_reducible exact hit_aTIME_BOOK (has2 (by decide) hR) | with_reducible apply Wr.ite
    | with_reducible (apply Wr.fold; intro _ _ _) | fail_if_no_progress (with_reducible refine Wr.upd ?_) | split

theorem State.effIcu_wr (hR : [] ⊆ R) (old : State) (hh : Wr R zz s) : Wr R zz (State.effIcu old s) := by
  have h := State.effIcu_kept (T := [.icu]) (zz := s) (List.Subset.refl _) old (Kept.refl _)
  exact Wr.of_regs (Kept.regs_eq h) hh

theorem State.effMorn_wr (hR : [] ⊆ R) (old : State) (hh : Wr R zz s) : Wr R zz (State.effMorn old s) := by
  have h := State.effMorn_kept (T := [.pwr]) (zz := s) (List.Subset.refl _) old (Kept.refl _)
  exact Wr.of_regs (Kept.regs_eq h) hh

theorem State.effPat_wr (hR : [] ⊆ R) (old : State) (hh : Wr R zz s) : Wr R zz (State.effPat old s) := by
  have h := State.effPat_kept (T := [.dim]) (zz := s) (List.Subset.refl _) old (Kept.refl _)
  exact Wr.of_regs (Kept.regs_eq h) hh

theorem State.effLamp_wr (hR : [(0x200C, 16), (0x2900, 0), (0x12000, 4), (0x14000, 4)] ⊆ R) (old : State) (r : CfgRep) (hh :
    Wr R zz s) : Wr R zz (State.effLamp old s r) := by
  unfold State.effLamp
  try lift_lets
  repeat' first
    | with_reducible assumption | exact hitSub (by decide) hR
    | (intro s; refine (fun hk : Wr R zz s => ?_) ?_; clear_value s; rotate_left; subst s) | (intro v; try clear_value v)
    | with_reducible apply State.putFlag_wr | with_reducible apply State.put_wr | with_reducible apply State.forgetSig_wr
    | with_reducible exact hit_fBANK_ROLE (has2 (by decide) hR) | with_reducible exact hit_fMTX_CLAMPED (has2 (by decide) hR)
    | with_reducible apply Wr.ite | with_reducible (apply Wr.fold; intro _ _ _)

theorem State.putWords_wr (hR : [(0x0, 1)] ⊆ R) (t : Tab Word) (loop : Bool) (hh : Wr R zz s) : Wr R zz (State.putWords s t
    loop) := Wr.all (hR (by decide))

theorem State.activate_wr (hR : [(0, 1)] ⊆ R) (t : Tab Word) (loop : Bool) (d : Tab Nat) (r : CfgRep) (slot gen : Nat) (hh :
    Wr R zz s) : Wr R zz (State.activate s t loop d r slot gen) := by
  exact Wr.all (hR (by decide))

theorem State.setCfgSlot_wr (hR : [] ⊆ R) (i : Nat) (x : CfgSlot) (hh : Wr R zz s) : Wr R zz (State.setCfgSlot s i x) := by
  have h := State.setCfgSlot_kept (T := [.cfg]) (zz := s) (List.Subset.refl _) i x (Kept.refl _)
  exact Wr.of_regs (Kept.regs_eq h) hh

theorem State.fwMark_wr (hR : [] ⊆ R) (i : Nat) (hh : Wr R zz s) : Wr R zz (State.fwMark s i) := by
  have h := State.fwMark_kept (T := [.sec, .fspi]) (zz := s) (List.Subset.refl _) i (Kept.refl _)
  exact Wr.of_regs (Kept.regs_eq h) hh

theorem State.cfgMarkSlot_wr (hR : [] ⊆ R) (i : Nat) (hh : Wr R zz s) : Wr R zz (State.cfgMarkSlot s i) := by
  have h := State.cfgMarkSlot_kept (T := [.cfg, .fspi]) (zz := s) (List.Subset.refl _) i (Kept.refl _)
  exact Wr.of_regs (Kept.regs_eq h) hh

theorem State.cfgMark_wr (hR : [(0x260, 0)] ⊆ R) (hh : Wr R zz s) : Wr R zz (State.cfgMark s) := by
  unfold State.cfgMark
  try lift_lets
  repeat' first
    | with_reducible assumption | exact hitSub (by decide) hR
    | (intro s; refine (fun hk : Wr R zz s => ?_) ?_; clear_value s; rotate_left; subst s) | (intro v; try clear_value v)
    | with_reducible exact hit_fCFG_MARK_REDONE (has2 (by decide) hR) | with_reducible apply State.setCfg_wr
    | with_reducible apply State.cfgMarkSlot_wr | with_reducible apply State.putFlag_wr
    | with_reducible apply State.setReport_wr | with_reducible apply State.finishCmd_wr | with_reducible apply Wr.ite
    | split | lift_lets

theorem State.cfgActivate_wr (hR : [(0, 1)] ⊆ R) (hh : Wr R zz s) : Wr R zz (State.cfgActivate s) := by
  exact Wr.all (hR (by decide))

theorem State.periodStart_wr (hR : [(0, 1)] ⊆ R) (hh : Wr R zz s) : Wr R zz (State.periodStart s) := by
  exact Wr.all (hR (by decide))

theorem State.cfgReject_wr (hR : [(0x260, 0)] ⊆ R) (job st outcome image rej : Nat) (r : CfgRep) (present carried : Nat) (hh
    : Wr R zz s) : Wr R zz (State.cfgReject s job st outcome image rej r present carried) := by
  unfold State.cfgReject
  repeat' first
    | with_reducible assumption | exact hitSub (by decide) hR | with_reducible apply State.setReport_wr
    | with_reducible apply State.finishCmd_wr | with_reducible apply Wr.ite | split

theorem State.fwWrite_wr (hR : [] ⊆ R) (body : List Byte) (hh : Wr R zz s) : Wr1 R zz (State.fwWrite s body) := by
  have h := State.fwWrite_kept (T := [.sec, .fspi]) (zz := s) (List.Subset.refl _) body (Kept.refl _)
  exact Wr1.of_regs (Kept.regs_eq h) hh

theorem State.cfgApply_wr (hR : [(0, 1)] ⊆ R) (job image : Nat) (check good : Bool) (ss : List CfgSec) (hh : Wr R zz s) : Wr
    R zz (State.cfgApply s job image check good ss) := by
  exact Wr.all (hR (by decide))

theorem State.cfgCommit_wr (hR : [(0, 1)] ⊆ R) (good : Bool) (c : Cmd) (hh : Wr R zz s) : Wr R zz (State.cfgCommit s good c)
    := by
  exact Wr.all (hR (by decide))

theorem State.loadSlot_wr (hR : [(0, 1)] ⊆ R) (i : Nat) (hh : Wr R zz s) : Wr R zz (State.loadSlot s i) := by
  exact Wr.all (hR (by decide))

theorem State.loadConfig_wr (hR : [(0x0, 1)] ⊆ R) (hh : Wr R zz s) : Wr1 R zz (State.loadConfig s) := Wr1.all (hR (by
    decide))

theorem State.setNw_wr (hR : [] ⊆ R) (x : Nightwatch) (hh : Wr R zz s) : Wr R zz (State.setNw s x) := by
  have h := State.setNw_kept (T := [.nw]) (zz := s) (List.Subset.refl _) x (Kept.refl _)
  exact Wr.of_regs (Kept.regs_eq h) hh

theorem State.afresh_wr (hR : [(0x0, 1)] ⊆ R) (hh : Wr R zz s) : Wr R zz (State.afresh s) := Wr.all (hR (by decide))

theorem State.dawnAgain_wr (hR : [(0, 1)] ⊆ R) (hh : Wr R zz s) : Wr R zz (State.dawnAgain s) := by
  exact Wr.all (hR (by decide))

theorem State.mornAbort_wr (hR : [(0x274, 0)] ⊆ R) (hh : Wr R zz s) : Wr R zz (State.mornAbort s) := by
  unfold State.mornAbort
  try lift_lets
  repeat' first
    | with_reducible assumption | exact hitSub (by decide) hR
    | (intro s; refine (fun hk : Wr R zz s => ?_) ?_; clear_value s; rotate_left; subst s) | (intro v; try clear_value v)
    | with_reducible apply State.bankClose_wr | with_reducible apply State.mornDrop_wr | with_reducible apply Wr.ite
    | with_reducible (apply Wr.fold; intro _ _ _) | split | lift_lets

theorem State.sc0Lost_wr (hR : [(0x270, 0), (0x274, 0), (0x2A0, 0), (0x2A4, 0), (0x2A8, 0), (0x1B070, 0)] ⊆ R) (cause addr :
    Nat) (hh : Wr R zz s) : Wr R zz (State.sc0Lost s cause addr) := by
  unfold State.sc0Lost
  try lift_lets
  repeat' first
    | with_reducible assumption | exact hitSub (by decide) hR
    | (intro s; refine (fun hk : Wr R zz s => ?_) ?_; clear_value s; rotate_left; subst s) | (intro (v : Fld); subst v)
    | (intro v; try clear_value v) | with_reducible exact hit_fPWR_PHASE (has2 (by decide) hR)
    | with_reducible exact hit_fNW_SC0_LOST (has2 (by decide) hR)
    | with_reducible exact hit_fNW_FROZEN (has2 (by decide) hR)
    | with_reducible exact hit_fMORN_RUNNING (has2 (by decide) hR)
    | with_reducible exact hit_fPWR_STATE (has2 (by decide) hR) | with_reducible apply State.setNw_wr
    | with_reducible apply State.putFlag_wr | with_reducible apply State.mornAbort_wr
    | with_reducible apply State.duskAbandon_wr | with_reducible apply State.put_wr | with_reducible apply State.fltSet_wr
    | with_reducible apply Wr.ite | split | lift_lets

theorem State.sc0Beat_wr (hR : [(0x270, 0), (0x274, 0), (0x2A0, 0), (0x2A4, 0), (0x2A8, 0), (0x1B070, 0)] ⊆ R) (code : Nat)
    (hh : Wr R zz s) : Wr R zz (State.sc0Beat s code) := by
  unfold State.sc0Beat
  repeat' first
    | with_reducible assumption | exact hitSub (by decide) hR | with_reducible apply State.sc0Lost_wr
    | with_reducible apply State.setNw_wr | with_reducible exact hit_fNW_SC0_LOST (has2 (by decide) hR)
    | with_reducible apply Wr.ite

theorem State.sc0Ends_wr (hR : [(0x240, 0), (0x244, 0), (0x260, 0), (0x280, 0), (0x2A8, 0), (0x5014, 0), (0x17000, 0)] ⊆ R)
    (hh : Wr R zz s) : Wr R zz (State.sc0Ends s) := by
  unfold State.sc0Ends
  try lift_lets
  repeat' first
    | with_reducible assumption | exact hitSub (by decide) hR
    | (intro s; refine (fun hk : Wr R zz s => ?_) ?_; clear_value s; rotate_left; subst s) | (intro v; try clear_value v)
    | with_reducible exact hit_fADC_FAULT (has2 (by decide) hR) | with_reducible apply State.bistStop_wr
    | with_reducible apply State.restartCmds_wr | with_reducible apply State.placeMove_wr
    | with_reducible apply State.adcKick_wr | with_reducible apply State.setCfg_wr
    | with_reducible apply State.dropStaging_wr | with_reducible apply Wr.ite
    | fail_if_no_progress (with_reducible refine Wr.upd ?_) | split | lift_lets

theorem State.markAgain_wr (hR : [(0x260, 0)] ⊆ R) (hh : Wr R zz s) : Wr R zz (State.markAgain s) := by
  unfold State.markAgain
  try lift_lets
  repeat' first
    | with_reducible assumption | exact hitSub (by decide) hR
    | (intro s; refine (fun hk : Wr R zz s => ?_) ?_; clear_value s; rotate_left; subst s) | (intro v; try clear_value v)
    | with_reducible exact hit_fCFG_MARK_REDONE (has2 (by decide) hR) | with_reducible apply State.cfgMarkSlot_wr
    | with_reducible apply State.putFlag_wr | with_reducible apply Wr.ite | split | lift_lets

theorem State.sc0Reset_wr (hR : [(0, 1)] ⊆ R) (hh : Wr R zz s) : Wr R zz (State.sc0Reset s) := by
  exact Wr.all (hR (by decide))

theorem State.fwReload_wr (hR : [] ⊆ R) (hh : Wr R zz s) : Wr R zz (State.fwReload s) := by
  have h := State.fwReload_kept (T := [.sec]) (zz := s) (List.Subset.refl _)  (Kept.refl _)
  exact Wr.of_regs (Kept.regs_eq h) hh

theorem State.tablesAgain_wr (hR : [(0, 1)] ⊆ R) (reload : Bool) (hh : Wr R zz s) : Wr R zz (State.tablesAgain s reload) :=
    by
  exact Wr.all (hR (by decide))

theorem State.sc0Back_wr (hR : [(0, 1)] ⊆ R) (reload : Bool) (hh : Wr R zz s) : Wr R zz (State.sc0Back s reload) := by
  exact Wr.all (hR (by decide))

theorem State.mastersGone_wr (hR : [(0x270, 0), (0x2A8, 0), (0x300C, 0), (0x3020, 0), (0x3024, 0), (0x5014, 0), (0x1B070, 0)]
    ⊆ R) (hh : Wr R zz s) : Wr R zz (State.mastersGone s) := by
  unfold State.mastersGone
  repeat' first
    | with_reducible assumption | exact hitSub (by decide) hR | with_reducible apply State.masterLost_wr
    | with_reducible apply State.setPtp_wr

theorem State.sc1Stop_wr (hR : [(0x270, 0), (0x2A8, 0), (0x300C, 0), (0x3020, 0), (0x3024, 0), (0x3040, 4), (0x5014, 0),
    (0x7040, 4), (0x1B070, 0)] ⊆ R) (hh : Wr R zz s) : Wr R zz (State.sc1Stop s) := by
  unfold State.sc1Stop
  try lift_lets
  repeat' first
    | with_reducible assumption | exact hitSub (by decide) hR
    | (intro s; refine (fun hk : Wr R zz s => ?_) ?_; clear_value s; rotate_left; subst s) | (intro v; try clear_value v)
    | with_reducible exact hit_fNW_SC1_LOST (has2 (by decide) hR) | with_reducible apply State.ldCancel_wr
    | with_reducible apply State.setPort_wr | with_reducible apply State.mastersGone_wr
    | with_reducible apply State.putFlag_wr | with_reducible apply Wr.ite | with_reducible (apply Wr.fold; intro _ _ _)
    | split | lift_lets

theorem State.sc1Lost_wr (hR : [(0x270, 0), (0x2A0, 0), (0x2A4, 0), (0x2A8, 0), (0x300C, 0), (0x3020, 0), (0x3024, 0),
    (0x3040, 4), (0x5014, 0), (0x7040, 4), (0x1B070, 0)] ⊆ R) (cause addr : Nat) (hh : Wr R zz s) : Wr R zz (State.sc1Lost s
    cause addr) := by
  unfold State.sc1Lost
  try lift_lets
  repeat' first
    | with_reducible assumption | exact hitSub (by decide) hR
    | (intro s; refine (fun hk : Wr R zz s => ?_) ?_; clear_value s; rotate_left; subst s) | (intro v; try clear_value v)
    | with_reducible apply State.sc1Stop_wr | with_reducible apply State.putFlag_wr | with_reducible apply State.enqueue_wr
    | with_reducible apply State.fltSet_wr | with_reducible apply State.setNw_wr
    | with_reducible exact hit_fNW_SC1_HELD (has2 (by decide) hR) | with_reducible exact hit_fPWR_PHASE (has2 (by decide) hR)
    | with_reducible apply Wr.ite

theorem State.sc1Back_wr (hR : [(0x2A8, 0), (0x3040, 4), (0x7000, 4), (0x7008, 0), (0x7040, 4)] ⊆ R) (hh : Wr R zz s) : Wr R
    zz (State.sc1Back s) := by
  unfold State.sc1Back
  try lift_lets
  repeat' first
    | with_reducible assumption | exact hitSub (by decide) hR
    | (intro s; refine (fun hk : Wr R zz s => ?_) ?_; clear_value s; rotate_left; subst s) | (intro v; try clear_value v)
    | with_reducible exact hit_fNW_SC1_LOST (has2 (by decide) hR)
    | with_reducible exact hit_fNW_SC1_HELD (has2 (by decide) hR) | with_reducible apply State.putFlag_wr
    | with_reducible apply State.setNw_wr | with_reducible apply State.sfTell_wr | with_reducible apply Wr.ite
    | with_reducible (apply Wr.fold; intro _ _ _) | split | lift_lets

theorem State.sfcLost_wr (hR : [(0x200, 0), (0x204, 0), (0x240, 0), (0x270, 0), (0x274, 0), (0x280, 0), (0x290, 0), (0x294,
    0), (0x2A0, 0), (0x2A4, 0), (0x2A8, 0), (0x200C, 16), (0x2900, 0), (0x5014, 0), (0x6000, 0), (0x17000, 0), (0x1B070, 0)]
    ⊆ R) (hh : Wr R zz s) : Wr R zz (State.sfcLost s) := by
  unfold State.sfcLost
  try lift_lets
  repeat' first
    | with_reducible assumption | exact hitSub (by decide) hR
    | (intro s; refine (fun hk : Wr R zz s => ?_) ?_; clear_value s; rotate_left; subst s) | (intro v; try clear_value v)
    | with_reducible exact hit_fNW_SFC_OK (has2 (by decide) hR) | with_reducible apply State.putFlag_wr
    | with_reducible apply State.midnightEnter_wr | with_reducible apply Wr.ite
    | fail_if_no_progress (with_reducible refine Wr.upd ?_) | split | lift_lets

theorem State.lifeRepair_wr (hR : [] ⊆ R) (addr : Nat) (hh : Wr R zz s) : Wr R zz (State.lifeRepair s addr) := by
  have h := State.lifeRepair_kept (T := [.mem]) (zz := s) (List.Subset.refl _) addr (Kept.refl _)
  exact Wr.of_regs (Kept.regs_eq h) hh

theorem State.frameHit_wr (hR : [] ⊆ R) (p : Nat) (hh : Wr R zz s) : Wr R zz (State.frameHit s p) := by
  have h := State.frameHit_kept (T := [.ring, .ptp]) (zz := s) (List.Subset.refl _) p (Kept.refl _)
  exact Wr.of_regs (Kept.regs_eq h) hh

theorem State.templateHit_wr (hR : [(0x3040, 4), (0x7040, 4)] ⊆ R) (d : Nat) (hh : Wr R zz s) : Wr R zz (State.templateHit s
    d) := by
  unfold State.templateHit
  try lift_lets
  repeat' first
    | with_reducible assumption | exact hitSub (by decide) hR
    | (intro s; refine (fun hk : Wr R zz s => ?_) ?_; clear_value s; rotate_left; subst s) | (intro v; try clear_value v)
    | with_reducible apply State.ldCntAll_wr | with_reducible apply State.ldCancel_wr | with_reducible apply Wr.ite | split
    | lift_lets

theorem State.eccReact_wr (hR : [(0x200, 0), (0x204, 0), (0x240, 0), (0x260, 0), (0x270, 0), (0x274, 0), (0x280, 0), (0x290,
    0), (0x294, 0), (0x2A0, 0), (0x2A4, 0), (0x2A8, 0), (0x200C, 16), (0x2900, 0), (0x300C, 0), (0x3020, 0), (0x3024, 0),
    (0x3040, 4), (0x5014, 0), (0x6000, 0), (0x7040, 4), (0x17000, 0), (0x1B070, 0)] ⊆ R) (loc p addr : Nat) (hh : Wr R zz s)
    : Wr R zz (State.eccReact s loc p addr) := by
  unfold State.eccReact
  repeat' first
    | with_reducible assumption | exact hitSub (by decide) hR | with_reducible apply State.sc0Lost_wr
    | with_reducible apply State.setNw_wr | with_reducible apply State.sc1Lost_wr | with_reducible apply State.sfcLost_wr
    | with_reducible apply State.frameHit_wr | with_reducible apply State.lifeRepair_wr
    | with_reducible apply State.dropStaging_wr | with_reducible apply State.templateHit_wr
    | with_reducible apply State.memWrite_wr | with_reducible apply Wr.ite | split

theorem State.eccError_wr (hR : [(0x200, 0), (0x204, 0), (0x240, 0), (0x260, 0), (0x270, 0), (0x274, 0), (0x280, 0), (0x290,
    0), (0x294, 0), (0x2A0, 0), (0x2A4, 0), (0x2A8, 0), (0x200C, 16), (0x2900, 0), (0x300C, 0), (0x3020, 0), (0x3024, 0),
    (0x3040, 4), (0x5014, 0), (0x6000, 0), (0x7040, 4), (0x17000, 0), (0x1B070, 0)] ⊆ R) (loc p addr : Nat) (hh : Wr R zz s)
    : Wr R zz (State.eccError s loc p addr) := by
  unfold State.eccError
  try lift_lets
  repeat' first
    | with_reducible assumption | exact hitSub (by decide) hR
    | (intro s; refine (fun hk : Wr R zz s => ?_) ?_; clear_value s; rotate_left; subst s)
    | with_reducible apply State.logEv_wr | with_reducible apply State.eccReact_wr | with_reducible apply State.fltSet_wr
    | with_reducible exact hit_fNW_SC0_LOST (has2 (by decide) hR) | with_reducible apply Wr.ite

theorem State.fltClrWrite_wr (hR : [(0x2A0, 0)] ⊆ R) (w : Nat) (hh : Wr R zz s) : Wr R zz (State.fltClrWrite s w) := by
  unfold State.fltClrWrite
  try lift_lets
  repeat' first
    | with_reducible assumption | exact hitSub (by decide) hR
    | (intro s; refine (fun hk : Wr R zz s => ?_) ?_; clear_value s; rotate_left; subst s)
    | with_reducible apply State.fltClr_wr | with_reducible apply State.askReclose_wr | with_reducible apply Wr.ite
    | with_reducible (apply Wr.fold; intro _ _ _)

theorem State.bistBegin_wr (hR : [(0x280, 0)] ⊆ R) (job : Option Nat) (sel : List Nat) (force stop : Bool) (hh : Wr R zz s) :
    Wr R zz (State.bistBegin s job sel force stop) := by
  unfold State.bistBegin
  repeat' first
    | with_reducible assumption | exact hitSub (by decide) hR | with_reducible apply State.putFlag_wr
    | with_reducible apply State.setBist_wr | with_reducible exact hit_fBIST_RUNNING (has2 (by decide) hR)

theorem State.bistNext_wr (hR : [(0x280, 0)] ⊆ R) (hh : Wr R zz s) : Wr R zz (State.bistNext s) := by
  unfold State.bistNext
  try lift_lets
  repeat' first
    | with_reducible assumption | exact hitSub (by decide) hR
    | (intro s; refine (fun hk : Wr R zz s => ?_) ?_; clear_value s; rotate_left; subst s)
    | with_reducible apply State.finishCmd_wr | with_reducible apply State.bistIdle_wr | with_reducible apply Wr.ite
    | fail_if_no_progress (with_reducible refine Wr.upd ?_) | split

theorem State.bistRecord_wr (hR : [(0x280, 0), (0x284, 4), (0x2A8, 0), (0x5014, 0)] ⊆ R) (b outcome reason count expect :
    Nat) (hh : Wr R zz s) : Wr R zz (State.bistRecord s b outcome reason count expect) := by
  unfold State.bistRecord
  try lift_lets
  repeat' first
    | with_reducible assumption | exact hitSub (by decide) hR
    | (intro s; refine (fun hk : Wr R zz s => ?_) ?_; clear_value s; rotate_left; subst s) | (intro v; try clear_value v)
    | with_reducible apply State.put_wr | with_reducible apply State.logFw_wr | with_reducible apply State.setBist_wr
    | with_reducible exact hit_fBIST_LAST (has2 (by decide) hR) | with_reducible exact hit_fBIST_NFAIL (has2 (by decide) hR)
    | with_reducible exact hit_fBIST_NINC (has2 (by decide) hR)

theorem State.bistForced_wr (hR : [(0x280, 0), (0x2A8, 0), (0x5014, 0)] ⊆ R) (b : Nat) (hh : Wr R zz s) : Wr R zz
    (State.bistForced s b) := by
  unfold State.bistForced
  try lift_lets
  repeat' first
    | with_reducible assumption | exact hitSub (by decide) hR
    | (intro s; refine (fun hk : Wr R zz s => ?_) ?_; clear_value s; rotate_left; subst s) | (intro v; try clear_value v)
    | with_reducible apply State.putFlag_wr | with_reducible apply State.logFw_wr | with_reducible apply State.setBist_wr
    | with_reducible exact hit_fBIST_FORCED (has2 (by decide) hR) | with_reducible apply Wr.ite

theorem State.bistIsolate_wr (hR : [(0x240, 0), (0x244, 0), (0x270, 0), (0x2A8, 0), (0x300C, 0), (0x3020, 0), (0x3024, 0),
    (0x3040, 4), (0x5014, 0), (0x7040, 4), (0x17000, 0), (0x1B070, 0)] ⊆ R) (b : Nat) (hh : Wr R zz s) : Wr R zz
    (State.bistIsolate s b) := by
  unfold State.bistIsolate
  try lift_lets
  repeat' first
    | with_reducible assumption | exact hitSub (by decide) hR
    | (intro s; refine (fun hk : Wr R zz s => ?_) ?_; clear_value s; rotate_left; subst s) | (intro v; try clear_value v)
    | with_reducible exact hit_fADC_FAULT (has2 (by decide) hR) | with_reducible exact hit_fREF_RDY (has2 (by decide) hR)
    | with_reducible exact hit_fADC (has2 (by decide) hR) | with_reducible apply State.setConv_wr
    | with_reducible apply State.moveAway_wr | with_reducible apply State.putFlag_wr | with_reducible apply State.setSec_wr
    | with_reducible apply State.sc1Stop_wr | with_reducible apply Wr.ite
    | fail_if_no_progress (with_reducible refine Wr.upd ?_) | split | lift_lets

theorem State.bistStart_wr (hR : [(0x240, 0), (0x244, 0), (0x270, 0), (0x280, 0), (0x284, 4), (0x2A8, 0), (0x300C, 0),
    (0x3020, 0), (0x3024, 0), (0x3040, 4), (0x5014, 0), (0x7040, 4), (0x17000, 0), (0x1B070, 0)] ⊆ R) (hot : Bool) (hh : Wr R
    zz s) : Wr R zz (State.bistStart s hot) := by
  unfold State.bistStart
  split
  · have h : ∀ a b v, Wr R zz (((s.setBist a).put State.fBIST_CUR v).setBist b) := fun a b v =>
      State.setBist_wr (hitSub (by decide) hR) _ (State.put_wr (hit_fBIST_CUR (has2 (by decide) hR)) (State.setBist_wr (hitSub (by decide) hR) _ hh))
    exact Wr.ite (State.bistNext_wr (hitSub (by decide) hR) (State.bistRecord_wr (hitSub (by decide) hR) _ _ _ _ _ (State.setBist_wr (hitSub (by decide) hR) _ hh)))
      (State.bistIsolate_wr (hitSub (by decide) hR) _ (Wr.ite (State.bistForced_wr (hitSub (by decide) hR) _ (h _ _ _)) (h _ _ _)))
  · exact hh

theorem State.bistConvBack_wr (hR : [(0x240, 0), (0x244, 0), (0x270, 0), (0x2A0, 0), (0x2A4, 0), (0x2A8, 0), (0x5014, 0),
    (0x1B070, 0)] ⊆ R) (k outcome bg : Nat) (hh : Wr R zz s) : Wr R zz (State.bistConvBack s k outcome bg) := by
  unfold State.bistConvBack
  try lift_lets
  repeat' first
    | with_reducible assumption | exact hitSub (by decide) hR
    | (intro s; refine (fun hk : Wr R zz s => ?_) ?_; clear_value s; rotate_left; subst s) | (intro v; try clear_value v)
    | with_reducible exact hit_fADC_FAULT (has2 (by decide) hR) | with_reducible apply State.setConv_wr
    | with_reducible apply State.lifeAcc_wr | with_reducible apply State.convFault_wr
    | with_reducible apply State.convReturn_wr | with_reducible apply State.placeMove_wr
    | with_reducible apply State.adcKick_wr | with_reducible apply Wr.ite | split | lift_lets

theorem State.bistReprove_wr (hR : [(0x200C, 16)] ⊆ R) (hh : Wr R zz s) : Wr R zz (State.bistReprove s) := by
  unfold State.bistReprove
  try lift_lets
  repeat' first
    | with_reducible assumption | exact hitSub (by decide) hR
    | (intro s; refine (fun hk : Wr R zz s => ?_) ?_; clear_value s; rotate_left; subst s) | (intro (v : State → _); subst v)
    | (intro v; try clear_value v) | with_reducible apply State.setConv_wr | with_reducible apply State.unprove_wr
    | with_reducible apply State.setBist_wr | with_reducible apply Wr.ite | with_reducible (apply Wr.fold; intro _ _ _)
    | fail_if_no_progress (with_reducible refine Wr.upd ?_) | split

theorem State.bistRestore_wr (hR : [(0x100, 0), (0x200, 0), (0x204, 0), (0x240, 0), (0x244, 0), (0x270, 0), (0x274, 0),
    (0x280, 0), (0x290, 0), (0x294, 0), (0x2A0, 0), (0x2A4, 0), (0x2A8, 0), (0x200C, 16), (0x2900, 0), (0x3040, 4), (0x5014,
    0), (0x6000, 0), (0x7000, 4), (0x7008, 0), (0x7040, 4), (0x17000, 0), (0x1B070, 0)] ⊆ R) (b outcome bad bg : Nat) (hh :
    Wr R zz s) : Wr R zz (State.bistRestore s b outcome bad bg) := by
  unfold State.bistRestore
  try lift_lets
  repeat' first
    | with_reducible assumption | exact hitSub (by decide) hR
    | (intro s; refine (fun hk : Wr R zz s => ?_) ?_; clear_value s; rotate_left; subst s) | (intro v; try clear_value v)
    | with_reducible exact hit_fREF_RDY (has2 (by decide) hR) | with_reducible exact hit_fADC (has2 (by decide) hR)
    | with_reducible exact hit_fNW_SC1_HELD (has2 (by decide) hR)
    | with_reducible exact hit_fNW_SC1_LOST (has2 (by decide) hR) | with_reducible apply State.bistConvBack_wr
    | with_reducible apply State.putFlag_wr | with_reducible apply State.lifeAcc_wr
    | with_reducible apply State.pairFail_wr | with_reducible apply State.midnightEnter_wr
    | with_reducible apply State.linkLost_wr | with_reducible apply State.linkNarrow_wr
    | with_reducible apply State.setSec_wr | with_reducible apply State.sfTell_wr | with_reducible apply State.setNw_wr
    | with_reducible apply Wr.ite | with_reducible (apply Wr.fold; intro _ _ _)
    | fail_if_no_progress (with_reducible refine Wr.upd ?_) | split | lift_lets

theorem State.bistFail_wr (hR : [(0x270, 0), (0x2A0, 0), (0x2A4, 0), (0x2A8, 0), (0x5014, 0), (0x1B070, 0)] ⊆ R) (b : Nat)
    (hh : Wr R zz s) : Wr R zz (State.bistFail s b) := by
  unfold State.bistFail
  try lift_lets
  repeat' first
    | with_reducible assumption | exact hitSub (by decide) hR
    | (intro s; refine (fun hk : Wr R zz s => ?_) ?_; clear_value s; rotate_left; subst s) | (intro v; try clear_value v)
    | with_reducible apply State.logFw_wr | with_reducible apply State.fltSet_wr | with_reducible apply State.bistNotRun_wr
    | with_reducible apply State.setBist_wr | with_reducible apply Wr.ite | split | lift_lets

theorem State.bistEnd_wr (hR : [(0x100, 0), (0x200, 0), (0x204, 0), (0x240, 0), (0x244, 0), (0x270, 0), (0x274, 0), (0x280,
    0), (0x284, 4), (0x290, 0), (0x294, 0), (0x2A0, 0), (0x2A4, 0), (0x2A8, 0), (0x200C, 16), (0x2900, 0), (0x3040, 4),
    (0x5014, 0), (0x6000, 0), (0x7000, 4), (0x7008, 0), (0x7040, 4), (0x17000, 0), (0x1B070, 0)] ⊆ R) (count expect bad bg :
    Nat) (hot : Bool) (hh : Wr R zz s) : Wr R zz (State.bistEnd s count expect bad bg hot) := by
  unfold State.bistEnd
  try lift_lets
  repeat' first
    | with_reducible assumption | exact hitSub (by decide) hR
    | (intro s; refine (fun hk : Wr R zz s => ?_) ?_; clear_value s; rotate_left; subst s)
    | with_reducible apply State.bistCause_wr | with_reducible apply State.bistReprove_wr
    | with_reducible apply State.bistRestore_wr | with_reducible apply State.putFlag_wr | with_reducible apply State.put_wr
    | with_reducible apply State.bistRecord_wr | with_reducible apply State.bistFail_wr
    | with_reducible apply State.bistNext_wr | with_reducible apply State.setBist_wr
    | with_reducible exact hit_fBIST_CUR (has2 (by decide) hR) | with_reducible exact hit_fBIST_FORCED (has2 (by decide) hR)
    | with_reducible apply Wr.ite | fail_if_no_progress (with_reducible refine Wr.upd ?_) | split

theorem State.bistRegion_wr (hR : [] ⊆ R) (bad : Bool) (hh : Wr R zz s) : Wr R zz (State.bistRegion s bad) := by
  have h := State.bistRegion_kept (T := [.bist]) (zz := s) (List.Subset.refl _) bad (Kept.refl _)
  exact Wr.of_regs (Kept.regs_eq h) hh

theorem State.bistSlice_wr (hR : [] ⊆ R) (hh : Wr R zz s) : Wr R zz (State.bistSlice s) := by
  have h := State.bistSlice_kept (T := [.bist]) (zz := s) (List.Subset.refl _)  (Kept.refl _)
  exact Wr.of_regs (Kept.regs_eq h) hh

theorem State.bistCut_wr (hR : [] ⊆ R) (hh : Wr R zz s) : Wr R zz (State.bistCut s) := by
  have h := State.bistCut_kept (T := [.bist]) (zz := s) (List.Subset.refl _)  (Kept.refl _)
  exact Wr.of_regs (Kept.regs_eq h) hh

theorem State.trimReload_wr (hR : [] ⊆ R) (c : Cmd) (hh : Wr R zz s) : Wr R zz (State.trimReload s c) := by
  have h := State.trimReload_kept (T := [.adc, .mbx]) (zz := s) (List.Subset.refl _) c (Kept.refl _)
  exact Wr.of_regs (Kept.regs_eq h) hh

theorem State.trimDone_wr (hR : [] ⊆ R) (hh : Wr R zz s) : Wr R zz (State.trimDone s) := by
  have h := State.trimDone_kept (T := [.adc, .mbx]) (zz := s) (List.Subset.refl _)  (Kept.refl _)
  exact Wr.of_regs (Kept.regs_eq h) hh

theorem State.darken_wr (hR : [(0x200C, 16)] ⊆ R) (c : Nat) (hh : Wr R zz s) : Wr R zz (State.darken s c) := by
  unfold State.darken
  try lift_lets
  repeat' first
    | with_reducible assumption | exact hitSub (by decide) hR
    | (intro s; refine (fun hk : Wr R zz s => ?_) ?_; clear_value s; rotate_left; subst s) | (intro v; try clear_value v)
    | with_reducible apply State.setChan_wr | with_reducible apply State.unprove_wr | with_reducible apply Wr.ite | split
    | lift_lets

theorem State.scanStop_wr (hR : [(0x2900, 0)] ⊆ R) (hh : Wr R zz s) : Wr R zz (State.scanStop s) := by
  unfold State.scanStop
  try lift_lets
  repeat' first
    | with_reducible assumption | exact hitSub (by decide) hR
    | (intro s; refine (fun hk : Wr R zz s => ?_) ?_; clear_value s; rotate_left; subst s) | (intro v; try clear_value v)
    | with_reducible exact hit_fMTX_RUN (has2 (by decide) hR) | with_reducible apply State.ledsDark_wr
    | with_reducible apply State.putFlag_wr | with_reducible apply Wr.ite
    | fail_if_no_progress (with_reducible refine Wr.upd ?_) | split | lift_lets

theorem State.duskLamps_wr (hR : [(0x200, 0), (0x204, 0), (0x2A8, 0), (0x2000, 16), (0x2004, 16), (0x200C, 16), (0x2900, 0),
    (0x5014, 0)] ⊆ R) (hh : Wr R zz s) : Wr R zz (State.duskLamps s) := by
  unfold State.duskLamps
  try lift_lets
  repeat' first
    | with_reducible assumption | exact hitSub (by decide) hR
    | (intro s; refine (fun hk : Wr R zz s => ?_) ?_; clear_value s; rotate_left; subst s) | (intro v; try clear_value v)
    | with_reducible apply State.darken_wr | with_reducible apply State.bankOpen_wr
    | with_reducible apply State.scanStop_wr | with_reducible apply State.needs_wr | with_reducible apply Wr.ite
    | with_reducible (apply Wr.fold; intro _ _ _) | fail_if_no_progress (with_reducible refine Wr.upd ?_) | split
    | lift_lets

theorem State.ruleCommit_wr (hR : [(0x200, 0), (0x204, 0), (0x214, 0), (0x270, 0), (0x2A0, 0), (0x2A4, 0), (0x2A8, 0),
    (0x1600, 4), (0x1700, 0), (0x2000, 16), (0x2004, 16), (0x2008, 16), (0x200C, 16), (0x2900, 0), (0x5014, 0), (0x1B070, 0)]
    ⊆ R) (hh : Wr R zz s) : Wr R zz (State.ruleCommit s) := by
  unfold State.ruleCommit
  try lift_lets
  repeat' first
    | with_reducible assumption | exact hitSub (by decide) hR
    | (intro s; refine (fun hk : Wr R zz s => ?_) ?_; clear_value s; rotate_left; subst s) | (intro v; try clear_value v)
    | with_reducible apply State.aspectCommit_wr | with_reducible apply State.duskLamps_wr | with_reducible apply Wr.ite
    | split | lift_lets

theorem State.commitDeadline_wr (hR : [(0x100, 0), (0x140, 4), (0x160, 0), (0x200, 0), (0x204, 0), (0x214, 0), (0x270, 0),
    (0x290, 0), (0x2A0, 0), (0x2A4, 0), (0x2A8, 0), (0x1600, 4), (0x1700, 0), (0x1780, 4), (0x2000, 16), (0x2004, 16),
    (0x2008, 16), (0x200C, 16), (0x2900, 0), (0x3014, 0), (0x5014, 0), (0x6000, 0), (0x6004, 0), (0x6008, 0), (0x600C, 0),
    (0x6028, 0), (0x7040, 4), (0x18004, 0), (0x18008, 0), (0x18900, 4), (0x1B070, 0)] ⊆ R) (k i : Nat) (ready : Bool) (hh :
    Wr R zz s) : Wr R zz (State.commitDeadline s k i ready) := by
  unfold State.commitDeadline
  try lift_lets
  repeat' first
    | with_reducible assumption | exact hitSub (by decide) hR
    | (intro s; refine (fun hk : Wr R zz s => ?_) ?_; clear_value s; rotate_left; subst s) | (intro (v : Fld); subst v)
    | (intro v; try clear_value v) | with_reducible apply State.takeEvent_wr | with_reducible apply State.loopDeadline_wr
    | with_reducible (apply Wr.fst; apply State.loopDeadline_wr)
    | with_reducible (refine Wr.eq1 (by assumption) ?_; apply State.loopDeadline_wr)
    | with_reducible apply State.deadlineCount_wr | with_reducible apply State.ruleCommit_wr
    | with_reducible apply State.setChan_wr | with_reducible apply State.ldDeadline_wr
    | with_reducible (apply Wr.fst; apply State.ldDeadline_wr)
    | with_reducible (refine Wr.eq1 (by assumption) ?_; apply State.ldDeadline_wr)
    | with_reducible apply State.testCommit_wr | with_reducible apply State.timeDeadline_wr | with_reducible apply Wr.ite
    | with_reducible apply Wr1.ite | with_reducible apply Wr1.mk | fail_if_no_progress (with_reducible refine Wr.upd ?_)
    | split | lift_lets

theorem State.powerGood_wr (hR : [(0, 1)] ⊆ R) (strap : Bool) (hh : Wr R zz s) : Wr R zz (State.powerGood s strap) := by
  exact Wr.all (hR (by decide))

theorem State.powerEnd_wr (hR : [(0x204, 0), (0x200C, 16), (0x2900, 0), (0x6000, 0), (0x6028, 0)] ⊆ R) (hh : Wr R zz s) : Wr
    R zz (State.powerEnd s) := by
  unfold State.powerEnd
  try lift_lets
  repeat' first
    | with_reducible assumption | exact hitSub (by decide) hR
    | (intro s; refine (fun hk : Wr R zz s => ?_) ?_; clear_value s; rotate_left; subst s) | (intro v; try clear_value v)
    | with_reducible exact hit_fTP_LEVEL (has2 (by decide) hR) | with_reducible apply State.darken_wr
    | with_reducible apply State.bankOpen_wr | with_reducible apply State.stoAllOff_wr
    | with_reducible apply State.setLine_wr | with_reducible apply State.putFlag_wr
    | with_reducible apply State.scanStop_wr | with_reducible apply Wr.ite | with_reducible (apply Wr.fold; intro _ _ _)
    | fail_if_no_progress (with_reducible refine Wr.upd ?_) | split | lift_lets

theorem State.resetLow_wr (hR : [(0x204, 0), (0x200C, 16), (0x2900, 0), (0x6000, 0), (0x6028, 0)] ⊆ R) (hh : Wr R zz s) : Wr
    R zz (State.resetLow s) := by
  unfold State.resetLow
  try lift_lets
  repeat' first
    | with_reducible assumption | exact hitSub (by decide) hR
    | (intro s; refine (fun hk : Wr R zz s => ?_) ?_; clear_value s; rotate_left; subst s) | (intro v; try clear_value v)
    | with_reducible apply State.powerEnd_wr | with_reducible apply Wr.ite
    | fail_if_no_progress (with_reducible refine Wr.upd ?_)

theorem State.testEntry_wr (hR : [(0x200, 0), (0x204, 0), (0x240, 0), (0x270, 0), (0x274, 0), (0x280, 0), (0x290, 0), (0x294,
    0), (0x2A0, 0), (0x2A4, 0), (0x2A8, 0), (0x200C, 16), (0x2900, 0), (0x5014, 0), (0x6000, 0), (0x6028, 0), (0x17000, 0),
    (0x1B070, 0)] ⊆ R) (hh : Wr R zz s) : Wr R zz (State.testEntry s) := by
  unfold State.testEntry
  try lift_lets
  repeat' first
    | with_reducible assumption | exact hitSub (by decide) hR
    | (intro s; refine (fun hk : Wr R zz s => ?_) ?_; clear_value s; rotate_left; subst s) | (intro v; try clear_value v)
    | with_reducible apply State.midnightEnter_wr | with_reducible apply State.setSec_wr
    | with_reducible apply State.powerEnd_wr | with_reducible apply Wr.ite
    | fail_if_no_progress (with_reducible refine Wr.upd ?_) | split | lift_lets

theorem State.powerCycle_wr (hR : [(0x0, 1)] ⊆ R) (hh : Wr R zz s) : Wr R zz (State.powerCycle s) := Wr.all (hR (by decide))

theorem State.nextPhase_wr (hR : [(0x270, 0)] ⊆ R) (hh : Wr R zz s) : Wr R zz (State.nextPhase s) := by
  unfold State.nextPhase
  try lift_lets
  repeat' first
    | with_reducible assumption | exact hitSub (by decide) hR
    | (intro s; refine (fun hk : Wr R zz s => ?_) ?_; clear_value s; rotate_left; subst s) | (intro v; try clear_value v)
    | with_reducible apply State.put_wr | with_reducible exact hit_fPWR_PHASE (has2 (by decide) hR)
    | with_reducible apply Wr.ite | fail_if_no_progress (with_reducible refine Wr.upd ?_)

theorem State.xtalTimeout_wr (hR : [(0x100, 0), (0x270, 0), (0x2A0, 0), (0x2A4, 0), (0x2A8, 0), (0x300C, 0), (0x5014, 0),
    (0x1B070, 0)] ⊆ R) (hh : Wr R zz s) : Wr R zz (State.xtalTimeout s) := by
  unfold State.xtalTimeout
  try lift_lets
  repeat' first
    | with_reducible assumption | exact hitSub (by decide) hR
    | (intro s; refine (fun hk : Wr R zz s => ?_) ?_; clear_value s; rotate_left; subst s) | (intro v; try clear_value v)
    | with_reducible exact hit_fGRID_SRC (has2 (by decide) hR)
    | with_reducible exact hit_fGRID_XTAL_OK (has2 (by decide) hR) | with_reducible apply State.putFlag_wr
    | with_reducible apply State.logEv_wr | with_reducible apply State.fltSet_wr
    | with_reducible apply State.timeUntrusted_wr | with_reducible apply Wr.ite | split | lift_lets

theorem State.dawnD0_wr (hR : [(0x100, 0), (0x270, 0)] ⊆ R) (hh : Wr R zz s) : Wr R zz (State.dawnD0 s) := by
  unfold State.dawnD0
  try lift_lets
  repeat' first
    | with_reducible assumption | exact hitSub (by decide) hR
    | (intro s; refine (fun hk : Wr R zz s => ?_) ?_; clear_value s; rotate_left; subst s) | (intro (v : Fld); subst v)
    | (intro v; try clear_value v) | with_reducible exact hit_fGRID_SRC (has2 (by decide) hR)
    | with_reducible exact hit_fGRID_XTAL_OK (has2 (by decide) hR) | with_reducible apply State.putFlag_wr
    | with_reducible apply State.icuClear_wr | with_reducible apply State.flashTable_wr
    | with_reducible apply State.nextPhase_wr | with_reducible apply Wr.ite
    | fail_if_no_progress (with_reducible refine Wr.upd ?_) | split | lift_lets

theorem State.linkTest_wr (hR : [(0x200, 0), (0x204, 0), (0x240, 0), (0x270, 0), (0x274, 0), (0x280, 0), (0x290, 0), (0x294,
    0), (0x2A0, 0), (0x2A4, 0), (0x2A8, 0), (0x200C, 16), (0x2900, 0), (0x5014, 0), (0x6000, 0), (0x17000, 0), (0x1B070, 0)]
    ⊆ R) (bad : Nat) (hh : Wr R zz s) : Wr R zz (State.linkTest s bad) := by
  unfold State.linkTest
  repeat' first
    | with_reducible assumption | exact hitSub (by decide) hR | with_reducible apply State.linkNarrow_wr
    | with_reducible apply State.linkLost_wr | with_reducible apply Wr.ite

theorem State.dawnD1_wr (hR : [(0x200, 0), (0x204, 0), (0x240, 0), (0x254, 0), (0x258, 0), (0x270, 0), (0x274, 0), (0x280,
    0), (0x290, 0), (0x294, 0), (0x2A0, 0), (0x2A4, 0), (0x2A8, 0), (0x200C, 16), (0x2900, 0), (0x5014, 0), (0x6000, 0),
    (0x6010, 0), (0x6014, 0), (0x7010, 0), (0x7014, 0), (0x17000, 0), (0x1B070, 0)] ⊆ R) (ok : Bool) (bad : Nat) (hh : Wr R
    zz s) : Wr R zz (State.dawnD1 s ok bad) := by
  unfold State.dawnD1
  try lift_lets
  repeat' first
    | with_reducible assumption | exact hitSub (by decide) hR
    | (intro s; refine (fun hk : Wr R zz s => ?_) ?_; clear_value s; rotate_left; subst s) | (intro v; try clear_value v)
    | with_reducible exact hit_aDEV_UID_LO (has2 (by decide) hR)
    | with_reducible exact hit_aDEV_UID_HI (has2 (by decide) hR)
    | with_reducible exact hit_aRING_MAC_LO (has2 (by decide) hR)
    | with_reducible exact hit_aRING_MAC_HI (has2 (by decide) hR) | with_reducible apply State.midnightEnter_wr
    | with_reducible apply State.wr_wr | with_reducible apply State.sealLatch_wr | with_reducible apply State.linkTest_wr
    | with_reducible apply State.lockRestart_wr | with_reducible apply State.flashQuad_wr
    | with_reducible apply State.nextPhase_wr | with_reducible apply Wr.ite | split | lift_lets

theorem State.dawnD2_wr (hR : [(0x270, 0), (0x290, 0), (0x2A0, 0), (0x2A4, 0), (0x2A8, 0), (0x5014, 0), (0x6000, 0), (0x6004,
    0), (0x6008, 0), (0x600C, 0), (0x6014, 0), (0x6028, 0), (0x6030, 0), (0x1B070, 0)] ⊆ R) (hh : Wr R zz s) : Wr R zz
    (State.dawnD2 s) := by
  unfold State.dawnD2
  try lift_lets
  repeat' first
    | with_reducible assumption | exact hitSub (by decide) hR
    | (intro s; refine (fun hk : Wr R zz s => ?_) ?_; clear_value s; rotate_left; subst s) | (intro (v : Fld); subst v)
    | (intro v; try clear_value v) | with_reducible exact hit_fPWR_HOLD (has2 (by decide) hR)
    | with_reducible apply State.flash_wr | with_reducible apply State.put_wr | with_reducible apply State.setSec_wr
    | with_reducible apply State.fwLoad_wr | with_reducible apply State.logFw_wr | with_reducible apply State.setNw_wr
    | with_reducible apply State.safetyEpoch_wr | with_reducible apply State.nextPhase_wr | with_reducible apply Wr.ite
    | split | lift_lets

theorem State.dawnConfigured_wr (hR : [(0x270, 0), (0x290, 0), (0x294, 0), (0x2A8, 0), (0x200C, 16), (0x5000, 0), (0x5004,
    0), (0x5010, 0), (0x5014, 0), (0x14000, 4), (0x17000, 0), (0x1B070, 0), (0x1E010, 0)] ⊆ R) (hh : Wr R zz s) : Wr R zz
    (State.dawnConfigured s) := by
  unfold State.dawnConfigured
  try lift_lets
  repeat' first
    | with_reducible assumption | exact hitSub (by decide) hR
    | (intro s; refine (fun hk : Wr R zz s => ?_) ?_; clear_value s; rotate_left; subst s) | (intro v; try clear_value v)
    | with_reducible exact hit_fPWR_HOLD (has2 (by decide) hR) | with_reducible apply State.put_wr
    | with_reducible apply State.restore_wr | with_reducible apply State.lifeAcc_wr
    | with_reducible apply State.logStart_wr | with_reducible apply State.refEnable_wr
    | with_reducible apply State.nextPhase_wr | with_reducible apply Wr.ite
    | fail_if_no_progress (with_reducible refine Wr.upd ?_) | split | lift_lets

theorem State.dawnD3_wr (hR : [(0x0, 1)] ⊆ R) (hh : Wr R zz s) : Wr R zz (State.dawnD3 s) := Wr.all (hR (by decide))

theorem State.dawnD4_wr (hR : [(0x270, 0)] ⊆ R) (hh : Wr R zz s) : Wr R zz (State.dawnD4 s) := by
  unfold State.dawnD4
  try lift_lets
  repeat' first
    | with_reducible assumption | exact hitSub (by decide) hR
    | (intro s; refine (fun hk : Wr R zz s => ?_) ?_; clear_value s; rotate_left; subst s) | (intro v; try clear_value v)
    | with_reducible apply State.nextPhase_wr | with_reducible apply Wr.ite
    | fail_if_no_progress (with_reducible refine Wr.upd ?_) | split | lift_lets

theorem State.pfwFall_wr (hR : [(0x270, 0), (0x290, 0), (0x2A0, 0), (0x2A4, 0), (0x1B070, 0)] ⊆ R) (hh : Wr R zz s) : Wr R zz
    (State.pfwFall s) := by
  unfold State.pfwFall
  try lift_lets
  repeat' first
    | with_reducible assumption | exact hitSub (by decide) hR
    | (intro s; refine (fun hk : Wr R zz s => ?_) ?_; clear_value s; rotate_left; subst s) | (intro v; try clear_value v)
    | with_reducible exact hit_fPWR_WAKE (has2 (by decide) hR) | with_reducible apply State.lifeAcc_wr
    | with_reducible apply State.bistCause_wr | with_reducible apply State.raise_wr
    | with_reducible apply State.duskExit_wr | with_reducible apply State.put_wr | with_reducible apply State.fltSet_wr
    | with_reducible apply State.persistBegin_wr | with_reducible apply State.finishCmd_wr | with_reducible apply Wr.ite
    | with_reducible (apply Wr.fold; intro _ _ _) | fail_if_no_progress (with_reducible refine Wr.upd ?_) | split
    | lift_lets

theorem State.pfwRise_wr (hR : [(0x2A8, 0), (0x5014, 0)] ⊆ R) (hh : Wr R zz s) : Wr R zz (State.pfwRise s) := by
  unfold State.pfwRise
  try lift_lets
  repeat' first
    | with_reducible assumption | exact hitSub (by decide) hR
    | (intro s; refine (fun hk : Wr R zz s => ?_) ?_; clear_value s; rotate_left; subst s) | (intro v; try clear_value v)
    | with_reducible apply State.logFw_wr | with_reducible apply Wr.ite
    | fail_if_no_progress (with_reducible refine Wr.upd ?_) | split | lift_lets

theorem State.pfwOver_wr (hR : [(0x290, 0), (0x2A0, 0)] ⊆ R) (hh : Wr R zz s) : Wr R zz (State.pfwOver s) := by
  unfold State.pfwOver
  try lift_lets
  repeat' first
    | with_reducible assumption | exact hitSub (by decide) hR
    | (intro s; refine (fun hk : Wr R zz s => ?_) ?_; clear_value s; rotate_left; subst s) | (intro v; try clear_value v)
    | with_reducible apply State.fltClr_wr | with_reducible apply State.snapshot_wr | with_reducible apply Wr.ite
    | fail_if_no_progress (with_reducible refine Wr.upd ?_) | split | lift_lets

theorem State.pwrCtl_wr (hR : [(0x270, 0), (0x1B070, 0)] ⊆ R) (key : Nat) (hh : Wr R zz s) : Wr R zz (State.pwrCtl s key) :=
    by
  unfold State.pwrCtl
  repeat' first
    | with_reducible assumption | exact hitSub (by decide) hR | with_reducible apply State.putFlag_wr
    | with_reducible apply State.duskExit_wr | with_reducible exact hit_fPWR_DUSK_PEND (has2 (by decide) hR)
    | with_reducible apply Wr.ite

theorem State.duskConv_wr (hR : [] ⊆ R) (k : Nat) (hh : Wr R zz s) : Wr R zz (State.duskConv s k) := by
  have h := State.duskConv_kept (T := [.adc]) (zz := s) (List.Subset.refl _) k (Kept.refl _)
  exact Wr.of_regs (Kept.regs_eq h) hh

theorem State.duskBlocks_wr (hR : [(0x240, 0), (0x270, 0), (0x294, 0), (0x2A8, 0), (0x300C, 0), (0x3020, 0), (0x3024, 0),
    (0x3040, 4), (0x5014, 0), (0x7000, 4), (0x7008, 0), (0x700C, 0), (0x7040, 4), (0x17000, 0), (0x1B070, 0)] ⊆ R) (hh : Wr R
    zz s) : Wr R zz (State.duskBlocks s) := by
  unfold State.duskBlocks
  try lift_lets
  repeat' first
    | with_reducible assumption | exact hitSub (by decide) hR
    | (intro s; refine (fun hk : Wr R zz s => ?_) ?_; clear_value s; rotate_left; subst s) | (intro v; try clear_value v)
    | with_reducible exact hit_aADC_REFCTL (has2 (by decide) hR) | with_reducible exact hit_fADC (has2 (by decide) hR)
    | with_reducible apply State.duskConv_wr | with_reducible apply State.wr_wr | with_reducible apply State.putFlag_wr
    | with_reducible apply State.sfOnset_wr | with_reducible apply State.mastersGone_wr
    | with_reducible apply State.capPause_wr | with_reducible apply Wr.ite | with_reducible (apply Wr.fold; intro _ _ _)
    | fail_if_no_progress (with_reducible refine Wr.upd ?_) | split | lift_lets

theorem State.duskEntry_wr (hR : [(0x240, 0), (0x270, 0), (0x294, 0), (0x2A8, 0), (0x300C, 0), (0x3020, 0), (0x3024, 0),
    (0x3040, 4), (0x5014, 0), (0x7000, 4), (0x7008, 0), (0x700C, 0), (0x7040, 4), (0x17000, 0), (0x1B070, 0)] ⊆ R) (hh : Wr R
    zz s) : Wr R zz (State.duskEntry s) := by
  unfold State.duskEntry
  try lift_lets
  repeat' first
    | with_reducible assumption | exact hitSub (by decide) hR
    | (intro s; refine (fun hk : Wr R zz s => ?_) ?_; clear_value s; rotate_left; subst s) | (intro v; try clear_value v)
    | with_reducible exact hit_fNW_SC0_LOST (has2 (by decide) hR)
    | with_reducible exact hit_fPWR_STATE (has2 (by decide) hR)
    | with_reducible exact hit_fPWR_DUSK_PEND (has2 (by decide) hR)
    | with_reducible exact hit_fPWR_ABORTED (has2 (by decide) hR) | with_reducible apply State.foldSpan_wr
    | with_reducible apply State.put_wr | with_reducible apply State.duskBlocks_wr
    | with_reducible apply State.refreshIcu_wr | with_reducible apply State.putFlag_wr | with_reducible apply Wr.ite
    | fail_if_no_progress (with_reducible refine Wr.upd ?_) | split | lift_lets

theorem State.duskWake_wr (hR : [(0x270, 0), (0x1B070, 0)] ⊆ R) (src : Option Nat) (hh : Wr R zz s) : Wr R zz (State.duskWake
    s src) := by
  unfold State.duskWake
  repeat' first
    | with_reducible assumption | exact hitSub (by decide) hR | with_reducible apply State.duskExit_wr
    | with_reducible apply State.raise_wr | with_reducible apply Wr.ite | split

theorem State.duskResume_wr (hR : [(0x270, 0), (0x290, 0), (0x294, 0), (0x2A8, 0), (0x5000, 0), (0x5004, 0), (0x5010, 0),
    (0x5014, 0), (0x17000, 0), (0x1B070, 0), (0x1E010, 0)] ⊆ R) (hh : Wr R zz s) : Wr R zz (State.duskResume s) := by
  unfold State.duskResume
  try lift_lets
  repeat' first
    | with_reducible assumption | exact hitSub (by decide) hR
    | (intro s; refine (fun hk : Wr R zz s => ?_) ?_; clear_value s; rotate_left; subst s) | (intro (v : Fld); subst v)
    | (intro v; try clear_value v) | with_reducible apply State.foldSpan_wr | with_reducible apply State.refEnable_wr
    | with_reducible apply State.capUnpause_wr | with_reducible apply State.flushNw_wr
    | with_reducible apply State.persistBegin_wr | with_reducible apply State.refreshIcu_wr | with_reducible apply Wr.ite
    | fail_if_no_progress (with_reducible refine Wr.upd ?_) | split | lift_lets

theorem State.mornFire_wr (hR : [(0x274, 0)] ⊆ R) (hh : Wr R zz s) : Wr R zz (State.mornFire s) := by
  unfold State.mornFire
  try lift_lets
  repeat' first
    | with_reducible assumption | exact hitSub (by decide) hR
    | (intro s; refine (fun hk : Wr R zz s => ?_) ?_; clear_value s; rotate_left; subst s) | (intro (v : Fld); subst v)
    | (intro v; try clear_value v) | with_reducible exact hit_fMORN_RUNNING (has2 (by decide) hR)
    | with_reducible exact hit_fMORN_RESULT (has2 (by decide) hR)
    | with_reducible exact hit_fMORN_DEFERRED (has2 (by decide) hR)
    | with_reducible exact hit_fMORN_BANKFAIL (has2 (by decide) hR) | with_reducible apply State.put_wr
    | with_reducible apply State.putFlag_wr | with_reducible apply Wr.ite
    | fail_if_no_progress (with_reducible refine Wr.upd ?_) | split | lift_lets

theorem State.mornProbe_wr (hR : [] ⊆ R) (n : Nat) (hh : Wr R zz s) : Wr R zz (State.mornProbe s n) := by
  have h := State.mornProbe_kept (T := [.pwr]) (zz := s) (List.Subset.refl _) n (Kept.refl _)
  exact Wr.of_regs (Kept.regs_eq h) hh

theorem State.mornSwitch_wr (hR : [(0x204, 0)] ⊆ R) (n : Nat) (hh : Wr R zz s) : Wr R zz (State.mornSwitch s n) := by
  unfold State.mornSwitch
  dsimp only
  repeat' first
    | with_reducible assumption | exact hitSub (by decide) hR | with_reducible apply Wr.ite
    | with_reducible apply State.bankOpen_wr | fail_if_no_progress (with_reducible refine Wr.upd ?_)

theorem State.mornNext_wr (hR : [(0x204, 0), (0x274, 0), (0x2A8, 0), (0x5014, 0)] ⊆ R) (hh : Wr R zz s) : Wr R zz
    (State.mornNext s) := by
  unfold State.mornNext
  try lift_lets
  repeat' first
    | with_reducible assumption | exact hitSub (by decide) hR
    | (intro s; refine (fun hk : Wr R zz s => ?_) ?_; clear_value s; rotate_left; subst s) | (intro v; try clear_value v)
    | with_reducible exact hit_fMORN_RUNNING (has2 (by decide) hR) | with_reducible apply State.mornProbe_wr
    | with_reducible apply State.mornSwitch_wr | with_reducible apply State.mornEnd_wr | with_reducible apply Wr.ite
    | fail_if_no_progress (with_reducible refine Wr.upd ?_) | split | lift_lets

theorem State.mornSkip_wr (hR : [(0x274, 0)] ⊆ R) (hh : Wr R zz s) : Wr R zz (State.mornSkip s) := by
  unfold State.mornSkip
  repeat' first
    | with_reducible assumption | exact hitSub (by decide) hR
    | with_reducible exact hit_fMORN_DEFERRED (has2 (by decide) hR)
    | with_reducible exact hit_fMORN_RESULT (has2 (by decide) hR) | with_reducible apply State.putFlag_wr
    | with_reducible apply State.put_wr | with_reducible apply Wr.ite
    | fail_if_no_progress (with_reducible refine Wr.upd ?_) | split

theorem State.bistDataRead_wr (hR : [] ⊆ R) (c : Nat) (hh : Wr R zz s) : Wr R zz (State.bistDataRead s c) := by
  have h := State.bistDataRead_kept (T := [.ctx]) (zz := s) (List.Subset.refl _) c (Kept.refl _)
  exact Wr.of_regs (Kept.regs_eq h) hh

theorem State.hostLatch_wr (hR : [] ⊆ R) (c off : Nat) (hh : Wr R zz s) : Wr R zz (State.hostLatch s c off) := by
  have h := State.hostLatch_kept (T := [.ctx]) (zz := s) (List.Subset.refl _) c off (Kept.refl _)
  exact Wr.of_regs (Kept.regs_eq h) hh

theorem State.hostClear_wr (hR : [(0x18900, 4), (0x1B070, 0)] ⊆ R) (off : Nat) (hh : Wr R zz s) : Wr R zz (State.hostClear s
    off) := by
  unfold State.hostClear
  repeat' first
    | with_reducible assumption | exact hitSub (by decide) hR | with_reducible apply State.putFlag_wr
    | with_reducible apply State.nwstatRead_wr | with_reducible exact hit_aICU_NWSTAT (has2 (by decide) hR)
    | with_reducible exact hit_fLST (has2 (by decide) hR) | with_reducible apply Wr.ite

theorem State.hostRead_wr (hR : [(0x18900, 4), (0x1B070, 0)] ⊆ R) (c off : Nat) (hh : Wr R zz s) : Wr2 R zz (State.hostRead s
    c off) := by
  unfold State.hostRead
  try lift_lets
  repeat' first
    | with_reducible assumption | exact hitSub (by decide) hR
    | (intro s; refine (fun hk : Wr R zz s => ?_) ?_; clear_value s; rotate_left; subst s)
    | with_reducible apply State.hostLatch_wr | with_reducible apply State.hostClear_wr | with_reducible apply Wr.ite
    | with_reducible apply Wr2.ite | with_reducible apply Wr2.mk

theorem State.soilBuffer_wr (hR : [] ⊆ R) (b : Nat) (hh : Wr R zz s) : Wr R zz (State.soilBuffer s b) := by
  have h := State.soilBuffer_kept (T := [.mbx]) (zz := s) (List.Subset.refl _) b (Kept.refl _)
  exact Wr.of_regs (Kept.regs_eq h) hh

theorem State.ramStore_wr (hR : [] ⊆ R) (off x : Nat) (hh : Wr R zz s) : Wr R zz (State.ramStore s off x) := by
  have h := State.ramStore_kept (T := [.mbx]) (zz := s) (List.Subset.refl _) off x (Kept.refl _)
  exact Wr.of_regs (Kept.regs_eq h) hh

theorem State.memPage_wr (hR : [] ⊆ R) (c x : Nat) (hh : Wr R zz s) : Wr R zz (State.memPage s c x) := by
  have h := State.memPage_kept (T := [.ctx]) (zz := s) (List.Subset.refl _) c x (Kept.refl _)
  exact Wr.of_regs (Kept.regs_eq h) hh

theorem State.icuStore_wr (hR : [(0x270, 0), (0x80E8, 0), (0x1B070, 0)] ⊆ R) (off x : Nat) (hh : Wr R zz s) : Wr R zz
    (State.icuStore s off x) := by
  unfold State.icuStore
  dsimp only
  repeat' first
    | exact hh
    | apply State.pendWrite_wr (hitSub (by decide) hR)
    | apply State.pendClear_wr (hitSub (by decide) hR)
    | apply State.maskWrite_wr (hitSub (by decide) hR)
    | split
  subst off
  exact State.wr_wr (hit_aICU_HMOD (has2 (by decide) hR)) hh

theorem State.mbxStatClear_wr (hR : [(0x4018, 0)] ⊆ R) (x : Nat) (hh : Wr R zz s) : Wr R zz (State.mbxStatClear s x) := by
  unfold State.mbxStatClear
  try lift_lets
  repeat' first
    | with_reducible assumption | exact hitSub (by decide) hR | (intro (v : State → _); subst v)
    | with_reducible apply State.putFlag_wr | with_reducible exact hit_fMBX_ACCESS_ERR (has2 (by decide) hR)
    | with_reducible exact hit_fMBX_DUP_TAG (has2 (by decide) hR)
    | with_reducible exact hit_fMBX_TAIL_BAD (has2 (by decide) hR) | with_reducible apply Wr.ite

theorem State.unprivStore_wr (hR : [(0x0, 1)] ⊆ R) (c off x : Nat) (hh : Wr R zz s) : Wr R zz (State.unprivStore s c off x)
    := Wr.all (hR (by decide))

theorem State.shadowStore_wr (hR : [(0x0, 1)] ⊆ R) (off x : Nat) (hh : Wr R zz s) : Wr R zz (State.shadowStore s off x) :=
    Wr.all (hR (by decide))

theorem State.softTrigger_wr (hR : [(0x270, 0), (0x2A8, 0), (0x5014, 0), (0x17040, 4), (0x17080, 4), (0x17F80, 4), (0x1B070,
    0)] ⊆ R) (x : Nat) (hh : Wr R zz s) : Wr R zz (State.softTrigger s x) := by
  unfold State.softTrigger
  try lift_lets
  repeat' first
    | with_reducible assumption | exact hitSub (by decide) hR
    | (intro s; refine (fun hk : Wr R zz s => ?_) ?_; clear_value s; rotate_left; subst s) | (intro v; try clear_value v)
    | with_reducible apply State.trigger_wr | with_reducible apply Wr.ite | with_reducible (apply Wr.fold; intro _ _ _)
    | split | lift_lets

theorem State.indexStore_wr (hR : [] ⊆ R) (c off x : Nat) (hh : Wr R zz s) : Wr R zz (State.indexStore s c off x) := by
  have h := State.indexStore_kept (T := [.ctx]) (zz := s) (List.Subset.refl _) c off x (Kept.refl _)
  exact Wr.of_regs (Kept.regs_eq h) hh

theorem State.privStore_wr (hR : [(0x0, 1)] ⊆ R) (c off x : Nat) (hh : Wr R zz s) : Wr R zz (State.privStore s c off x) :=
    Wr.all (hR (by decide))

theorem State.hostWrite_wr (hR : [(0x0, 1)] ⊆ R) (c off x : Nat) (hh : Wr R zz s) : Wr R zz (State.hostWrite s c off x) :=
    Wr.all (hR (by decide))

theorem State.accessErr_wr (hR : [(0x270, 0), (0x4018, 0), (0x1B070, 0)] ⊆ R) (hh : Wr R zz s) : Wr R zz (State.accessErr s)
    := by
  unfold State.accessErr
  repeat' first
    | with_reducible assumption | exact hitSub (by decide) hR | with_reducible apply State.mbxErr_wr
    | with_reducible exact hit_fMBX_ACCESS_ERR (has2 (by decide) hR)

theorem State.wordWrite_wr (hR : [(0x0, 1)] ⊆ R) (c off x : Nat) (priv : Bool) (hh : Wr R zz s) : Wr R zz (State.wordWrite s
    c off x priv) := Wr.all (hR (by decide))

theorem State.regWrite_wr (hR : [(0x0, 1)] ⊆ R) (c off x : Nat) (hh : Wr R zz s) : Wr R zz (State.regWrite s c off x) :=
    Wr.all (hR (by decide))

theorem State.wordRead_wr (hR : [(0x270, 0), (0x4018, 0), (0x18900, 4), (0x1B070, 0)] ⊆ R) (c off : Nat) (priv : Bool) (hh :
    Wr R zz s) : Wr2 R zz (State.wordRead s c off priv) := by
  unfold State.wordRead
  repeat' first
    | with_reducible assumption | exact hitSub (by decide) hR | with_reducible apply State.accessErr_wr
    | with_reducible apply State.touch_wr | with_reducible apply State.hostRead_wr | with_reducible apply Wr.ite
    | with_reducible apply Wr2.ite | with_reducible apply Wr2.mk

theorem State.burstWrite_wr (hR : [(0x0, 1)] ⊆ R) (priv : Bool) (off : Nat) (xs : List (BitVec 32)) (hh : Wr R zz s) : Wr R
    zz (State.burstWrite s priv off xs) := Wr.all (hR (by decide))

theorem State.qspiWrite_wr (hR : [(0x0, 1)] ⊆ R) (addr : Nat) (ws : List (BitVec 32)) (part : Bool) (hh : Wr R zz s) : Wr R
    zz (State.qspiWrite s addr ws part) := Wr.all (hR (by decide))

theorem State.fetchLine_wr (hR : [] ⊆ R) (c a : Nat) (hh : Wr R zz s) : Wr R zz (State.fetchLine s c a) := by
  have h := State.fetchLine_kept (T := [.ctx]) (zz := s) (List.Subset.refl _) c a (Kept.refl _)
  exact Wr.of_regs (Kept.regs_eq h) hh

theorem State.fetchStart_wr (hR : [] ⊆ R) (c a : Nat) (hh : Wr R zz s) : Wr R zz (State.fetchStart s c a) := by
  have h := State.fetchStart_kept (T := [.ctx]) (zz := s) (List.Subset.refl _) c a (Kept.refl _)
  exact Wr.of_regs (Kept.regs_eq h) hh

theorem State.burstWord_wr (hR : [(0x270, 0), (0x4018, 0), (0x18900, 4), (0x1B070, 0)] ⊆ R) (priv : Bool) (line : Option Nat)
    (off : Nat) (hh : Wr R zz s) : Wr2 R zz (State.burstWord s priv line off) := by
  unfold State.burstWord
  try lift_lets
  repeat' first
    | with_reducible assumption | exact hitSub (by decide) hR | (intro v; try clear_value v)
    | with_reducible apply State.accessErr_wr | with_reducible apply State.wordRead_wr | with_reducible apply Wr.ite
    | with_reducible apply Wr2.ite | with_reducible apply Wr2.mk

theorem State.burstRead_wr (hR : [(0x270, 0), (0x4018, 0), (0x18900, 4), (0x1B070, 0)] ⊆ R) (priv : Bool) (line : Option Nat)
    (off : Nat) (xs : Nat) (hh : Wr R zz s) : Wr2 R zz (State.burstRead s priv line off xs) := by
  induction xs generalizing s off with
  | zero => exact hh
  | succ n ih => exact ih (off + 4) (State.burstWord_wr hR _ _ _ hh)

theorem State.qspiRead_wr (hR : [(0x270, 0), (0x4018, 0), (0x18900, 4), (0x1B070, 0)] ⊆ R) (addr n : Nat) (hh : Wr R zz s) :
    Wr R zz (State.qspiRead s addr n) := by
  unfold State.qspiRead
  try lift_lets
  repeat' first
    | with_reducible assumption | exact hitSub (by decide) hR
    | (intro s; refine (fun hk : Wr R zz s => ?_) ?_; clear_value s; rotate_left; subst s) | (intro (v : State → _); subst v)
    | (intro v; try clear_value v) | with_reducible apply State.accessErr_wr | with_reducible apply State.burstRead_wr
    | with_reducible (apply Wr.snd; apply State.burstRead_wr) | with_reducible apply State.fetchStart_wr
    | with_reducible apply Wr.ite | with_reducible apply Wr2.ite | with_reducible apply Wr2.mk
    | fail_if_no_progress (with_reducible refine Wr.upd ?_)

theorem State.qspiStatus_wr (hR : [(0x4018, 0)] ⊆ R) (hh : Wr R zz s) : Wr R zz (State.qspiStatus s) := by
  unfold State.qspiStatus
  try lift_lets
  repeat' first
    | with_reducible assumption | exact hitSub (by decide) hR
    | (intro s; refine (fun hk : Wr R zz s => ?_) ?_; clear_value s; rotate_left; subst s)
    | with_reducible apply State.putFlag_wr | with_reducible exact hit_fMBX_ACCESS_ERR (has2 (by decide) hR)
    | with_reducible apply Wr.ite | fail_if_no_progress (with_reducible refine Wr.upd ?_)

theorem State.qspiInvalid_wr (hR : [(0x270, 0), (0x4018, 0), (0x1B070, 0)] ⊆ R) (hh : Wr R zz s) : Wr R zz (State.qspiInvalid
    s) := by
  unfold State.qspiInvalid
  try lift_lets
  repeat' first
    | with_reducible assumption | exact hitSub (by decide) hR
    | (intro s; refine (fun hk : Wr R zz s => ?_) ?_; clear_value s; rotate_left; subst s)
    | with_reducible apply State.accessErr_wr | with_reducible apply Wr.ite
    | fail_if_no_progress (with_reducible refine Wr.upd ?_)

theorem State.qspiTransaction_wr (hR : [(0, 1)] ⊆ R) (inst addr : Nat) (ws : List (BitVec 32)) (part : Bool) (n : Nat) (hh :
    Wr R zz s) : Wr R zz (State.qspiTransaction s inst addr ws part n) := by
  exact Wr.all (hR (by decide))

theorem State.fetchDone_wr (hR : [] ⊆ R) (c : Nat) (hh : Wr R zz s) : Wr R zz (State.fetchDone s c) := by
  have h := State.fetchDone_kept (T := [.ctx]) (zz := s) (List.Subset.refl _) c (Kept.refl _)
  exact Wr.of_regs (Kept.regs_eq h) hh

theorem State.lineAge_wr (hR : [] ⊆ R) (c : Nat) (hh : Wr R zz s) : Wr R zz (State.lineAge s c) := by
  have h := State.lineAge_kept (T := [.ctx]) (zz := s) (List.Subset.refl _) c (Kept.refl _)
  exact Wr.of_regs (Kept.regs_eq h) hh

theorem State.regRead_wr (hR : [(0x270, 0), (0x4018, 0), (0x18900, 4), (0x1B070, 0)] ⊆ R) (c off : Nat) (hh : Wr R zz s) : Wr
    R zz (State.regRead s c off) := by
  unfold State.regRead
  repeat' first
    | with_reducible assumption | exact hitSub (by decide) hR | with_reducible apply State.wordRead_wr
    | with_reducible (apply Wr.snd; apply State.wordRead_wr) | with_reducible apply Wr.ite

theorem State.cmdWord_wr (hR : [(0x270, 0), (0x4018, 0), (0x18900, 4), (0x1B070, 0)] ⊆ R) (c off : Nat) (priv : Bool) (hh :
    Wr R zz s) : Wr2 R zz (State.cmdWord s c off priv) := by
  unfold State.cmdWord
  try lift_lets
  repeat' first
    | with_reducible assumption | exact hitSub (by decide) hR
    | (intro s; refine (fun hk : Wr R zz s => ?_) ?_; clear_value s; rotate_left; subst s) | (intro v; try clear_value v)
    | with_reducible apply State.wordRead_wr | with_reducible apply State.fetchLine_wr | with_reducible apply Wr.ite
    | with_reducible apply Wr2.ite | with_reducible apply Wr2.mk

theorem State.wordDone_wr (hR : [] ⊆ R) (c : Cmd) (n r0 : Nat) (bs : List Byte) (hh : Wr R zz s) : Wr R zz (State.wordDone s
    c n r0 bs) := by
  have h := State.wordDone_kept (T := [.mbx]) (zz := s) (List.Subset.refl _) c n r0 bs (Kept.refl _)
  exact Wr.of_regs (Kept.regs_eq h) hh

theorem State.regReadCmd_wr (hR : [(0x270, 0), (0x4018, 0), (0x18900, 4), (0x1B070, 0)] ⊆ R) (c : Cmd) (hh : Wr R zz s) : Wr
    R zz (State.regReadCmd s c) := by
  unfold State.regReadCmd
  try lift_lets
  repeat' first
    | with_reducible assumption | exact hitSub (by decide) hR
    | (intro s; refine (fun hk : Wr R zz s => ?_) ?_; clear_value s; rotate_left; subst s) | (intro v; try clear_value v)
    | with_reducible exact hit_fPWR_HOLD (has2 (by decide) hR) | with_reducible apply State.finishCmd_wr
    | with_reducible apply State.cmdWord_wr | with_reducible (apply Wr.snd; apply State.cmdWord_wr)
    | with_reducible (refine Wr.eq2 (by assumption) ?_; apply State.cmdWord_wr) | with_reducible apply State.wordDone_wr
    | with_reducible apply Wr.ite | with_reducible apply Wr2.ite | with_reducible apply Wr2.mk | split | lift_lets

theorem State.regWriteCmd_wr (hR : [(0, 1)] ⊆ R) (c : Cmd) (hh : Wr R zz s) : Wr R zz (State.regWriteCmd s c) := by
  exact Wr.all (hR (by decide))

theorem State.aspectRequest_wr (hR : [(0x1400, 4)] ⊆ R) (c : Cmd) (hh : Wr R zz s) : Wr R zz (State.aspectRequest s c) := by
  unfold State.aspectRequest
  try lift_lets
  repeat' first
    | with_reducible assumption | exact hitSub (by decide) hR | (intro v; try clear_value v)
    | with_reducible apply State.aspReqWrite_wr | with_reducible apply State.finishCmd_wr | with_reducible apply Wr.ite

theorem State.rearmCmd_wr (hR : [(0x300C, 0)] ⊆ R) (c : Cmd) (hh : Wr R zz s) : Wr R zz (State.rearmCmd s c) := by
  unfold State.rearmCmd
  try lift_lets
  repeat' first
    | with_reducible assumption | exact hitSub (by decide) hR | with_reducible apply State.rearm_wr
    | with_reducible (apply Wr.fst; apply State.rearm_wr) | with_reducible apply State.finishCmd_wr
    | with_reducible apply Wr.ite

theorem State.logEvents_wr (hR : [] ⊆ R) (c : Cmd) (hh : Wr R zz s) : Wr R zz (State.logEvents s c) := by
  have h := State.logEvents_kept (T := [.mbx]) (zz := s) (List.Subset.refl _) c (Kept.refl _)
  exact Wr.of_regs (Kept.regs_eq h) hh

theorem State.logRecord_wr (hR : [] ⊆ R) (c : Cmd) (base : Nat) (hh : Wr R zz s) : Wr R zz (State.logRecord s c base) := by
  have h := State.logRecord_kept (T := [.mbx]) (zz := s) (List.Subset.refl _) c base (Kept.refl _)
  exact Wr.of_regs (Kept.regs_eq h) hh

theorem State.logSnapshot_wr (hR : [] ⊆ R) (c : Cmd) (hh : Wr R zz s) : Wr R zz (State.logSnapshot s c) := by
  have h := State.logSnapshot_kept (T := [.mbx]) (zz := s) (List.Subset.refl _) c (Kept.refl _)
  exact Wr.of_regs (Kept.regs_eq h) hh

theorem State.logCmd_wr (area : Nat) (f : Cmd → State) (hf : ∀ c, Wr R zz (f c)) (hh : Wr R zz s) :
    Wr R zz (s.logCmd area f) :=
  State.onCmd_wr _ _ (fun c => Wr.ite (hf c) (State.finishCmd_wr (List.nil_subset _) _ _ _ _ hh)) hh

theorem State.capArm_wr (hR : [(0x294, 0), (0x1E010, 0)] ⊆ R) (c : Cmd) (trig : Nat) (hh : Wr R zz s) : Wr R zz (State.capArm
    s c trig) := by
  unfold State.capArm
  try lift_lets
  repeat' first
    | with_reducible assumption | exact hitSub (by decide) hR
    | (intro s; refine (fun hk : Wr R zz s => ?_) ?_; clear_value s; rotate_left; subst s) | (intro (v : Fld); subst v)
    | (intro v; try clear_value v) | with_reducible exact hit_fCAP_STATE (has2 (by decide) hR)
    | with_reducible exact hit_fCAP_MN_FREEZE (has2 (by decide) hR)
    | with_reducible exact hit_fCAP_AUTO (has2 (by decide) hR) | with_reducible apply State.finishCmd_wr
    | with_reducible apply State.capResume_wr | with_reducible apply State.put_wr | with_reducible apply State.putFlag_wr
    | with_reducible apply State.capTrigger_wr | with_reducible apply Wr.ite
    | fail_if_no_progress (with_reducible refine Wr.upd ?_) | split | lift_lets

theorem State.capCmd_wr (hR : [(0x294, 0), (0x1E010, 0)] ⊆ R) (trig : Nat) (hh : Wr R zz s) : Wr R zz (State.capCmd s trig)
    := by
  unfold State.capCmd
  repeat' first
    | with_reducible assumption | exact hitSub (by decide) hR | with_reducible apply State.onCmd_wr
    | with_reducible apply State.finishCmd_wr | with_reducible apply State.capArm_wr | with_reducible apply Wr.ite | split
    | intro _

theorem State.elevateCmd_wr (hR : [(0x2A8, 0), (0x5014, 0)] ⊆ R) (c : Cmd) (hh : Wr R zz s) : Wr R zz (State.elevateCmd s c)
    := by
  unfold State.elevateCmd
  try lift_lets
  repeat' first
    | with_reducible assumption | exact hitSub (by decide) hR | with_reducible apply State.finishCmd_wr
    | with_reducible apply State.pwCheck_wr | with_reducible (apply Wr.fst; apply State.pwCheck_wr)
    | with_reducible apply Wr.ite | with_reducible apply Wr1.ite | with_reducible apply Wr1.mk
    | fail_if_no_progress (with_reducible refine Wr.upd ?_) | split

theorem State.dropCmd_wr (hR : [] ⊆ R) (c : Cmd) (hh : Wr R zz s) : Wr R zz (State.dropCmd s c) := by
  have h := State.dropCmd_kept (T := [.mbx, .sec]) (zz := s) (List.Subset.refl _) c (Kept.refl _)
  exact Wr.of_regs (Kept.regs_eq h) hh

theorem State.dropAllCmd_wr (hR : [] ⊆ R) (c : Cmd) (hh : Wr R zz s) : Wr R zz (State.dropAllCmd s c) := by
  have h := State.dropAllCmd_kept (T := [.mbx, .sec]) (zz := s) (List.Subset.refl _) c (Kept.refl _)
  exact Wr.of_regs (Kept.regs_eq h) hh

theorem State.challengeCmd_wr (hR : [] ⊆ R) (c : Cmd) (purpose : Nat) (hh : Wr R zz s) : Wr R zz (State.challengeCmd s c
    purpose) := by
  have h := State.challengeCmd_kept (T := [.free, .mbx, .sec]) (zz := s) (List.Subset.refl _) c purpose (Kept.refl _)
  exact Wr.of_regs (Kept.regs_eq h) hh

theorem State.respondCmd_wr (hR : [(0x2A8, 0), (0x5014, 0)] ⊆ R) (c : Cmd) (purpose : Nat) (hh : Wr R zz s) : Wr R zz
    (State.respondCmd s c purpose) := by
  unfold State.respondCmd
  try lift_lets
  repeat' first
    | with_reducible assumption | exact hitSub (by decide) hR | with_reducible apply State.respCheck_wr
    | with_reducible (apply Wr.fst; apply State.respCheck_wr) | with_reducible apply State.finishCmd_wr
    | with_reducible apply Wr.ite | with_reducible apply Wr1.ite | with_reducible apply Wr1.mk
    | fail_if_no_progress (with_reducible refine Wr.upd ?_) | split

theorem State.purposeCmd_wr (op purpose : Nat) (f : Cmd → State) (hf : ∀ c, Wr R zz (f c)) (hh : Wr R zz s) :
    Wr R zz (s.purposeCmd op purpose f) :=
  State.onCmd_wr _ _ hf hh

theorem State.setSpi_wr (hR : [] ⊆ R) (x : Spi) (hh : Wr R zz s) : Wr R zz (State.setSpi s x) := by
  have h := State.setSpi_kept (T := [.spi]) (zz := s) (List.Subset.refl _) x (Kept.refl _)
  exact Wr.of_regs (Kept.regs_eq h) hh

theorem State.spiErr_wr (hR : [] ⊆ R) (hh : Wr R zz s) : Wr R zz (State.spiErr s) := by
  have h := State.spiErr_kept (T := [.spi]) (zz := s) (List.Subset.refl _)  (Kept.refl _)
  exact Wr.of_regs (Kept.regs_eq h) hh

theorem State.ctrlWrite_wr (hR : [(0x1400, 4)] ⊆ R) (n x : Nat) (hh : Wr R zz s) : Wr R zz (State.ctrlWrite s n x) := by
  unfold State.ctrlWrite
  try lift_lets
  repeat' first
    | with_reducible assumption | exact hitSub (by decide) hR
    | (intro s; refine (fun hk : Wr R zz s => ?_) ?_; clear_value s; rotate_left; subst s) | (intro v; try clear_value v)
    | with_reducible apply State.spiErr_wr | with_reducible apply State.setSpi_wr | with_reducible apply State.aspReqWrite_wr
    | with_reducible apply Wr.ite | fail_if_no_progress (with_reducible refine Wr.upd ?_) | split

theorem State.pwTry_wr (hR : [(0x2A8, 0), (0x5014, 0)] ⊆ R) (hi : Nat) (hh : Wr R zz s) : Wr R zz (State.pwTry s hi) := by
  unfold State.pwTry
  try lift_lets
  repeat' first
    | with_reducible assumption | exact hitSub (by decide) hR
    | (intro s; refine (fun hk : Wr R zz s => ?_) ?_; clear_value s; rotate_left; subst s) | (intro v; try clear_value v)
    | with_reducible apply State.spiErr_wr | with_reducible apply State.setSpi_wr | with_reducible apply State.pwCheck_wr
    | with_reducible (apply Wr.fst; apply State.pwCheck_wr) | with_reducible apply Wr.ite

theorem State.selfTest_wr (hR : [(0x280, 0)] ⊆ R) (x : Nat) (hh : Wr R zz s) : Wr R zz (State.selfTest s x) := by
  unfold State.selfTest
  try lift_lets
  repeat' first
    | with_reducible assumption | exact hitSub (by decide) hR
    | (intro s; refine (fun hk : Wr R zz s => ?_) ?_; clear_value s; rotate_left; subst s) | (intro v; try clear_value v)
    | with_reducible apply State.spiErr_wr | with_reducible apply State.bistBegin_wr | with_reducible apply State.setSpi_wr
    | with_reducible apply State.touch_wr | with_reducible apply Wr.ite

theorem State.spiFltClr_wr (hR : [(0x270, 0), (0x2A0, 0), (0x2A4, 0), (0x200C, 16), (0x1B070, 0)] ⊆ R) (x : Nat) (hh : Wr R
    zz s) : Wr R zz (State.spiFltClr s x) := by
  unfold State.spiFltClr
  try lift_lets
  repeat' first
    | with_reducible assumption | exact hitSub (by decide) hR
    | (intro s; refine (fun hk : Wr R zz s => ?_) ?_; clear_value s; rotate_left; subst s) | (intro v; try clear_value v)
    | with_reducible apply State.spiErr_wr | with_reducible apply State.touch_wr | with_reducible apply State.fltClrChan_wr
    | with_reducible apply Wr.ite | with_reducible (apply Wr.fold; intro _ _ _)

theorem State.spiWrite_wr (hR : [(0x270, 0), (0x280, 0), (0x2A0, 0), (0x2A4, 0), (0x2A8, 0), (0x1400, 4), (0x200C, 16),
    (0x5014, 0), (0x1B070, 0)] ⊆ R) (a x : Nat) (hh : Wr R zz s) : Wr R zz (State.spiWrite s a x) := by
  unfold State.spiWrite
  repeat' first
    | with_reducible assumption | exact hitSub (by decide) hR | with_reducible apply State.ctrlWrite_wr
    | with_reducible apply State.selfTest_wr | with_reducible apply State.setSpi_wr | with_reducible apply State.pwTry_wr
    | with_reducible apply State.endElev_wr | with_reducible apply State.spiFltClr_wr | with_reducible apply Wr.ite

theorem State.spiFrame_wr (hR : [(0x270, 0), (0x280, 0), (0x2A0, 0), (0x2A4, 0), (0x2A8, 0), (0x1400, 4), (0x200C, 16),
    (0x5014, 0), (0x1B070, 0)] ⊆ R) (clocks cmd x : Nat) (hh : Wr R zz s) : Wr R zz (State.spiFrame s clocks cmd x) := by
  unfold State.spiFrame
  try lift_lets
  repeat' first
    | with_reducible assumption | exact hitSub (by decide) hR
    | (intro s; refine (fun hk : Wr R zz s => ?_) ?_; clear_value s; rotate_left; subst s) | (intro v; try clear_value v)
    | with_reducible apply State.spiErr_wr | with_reducible apply State.setSpi_wr | with_reducible apply State.spiWrite_wr
    | with_reducible apply Wr.ite | fail_if_no_progress (with_reducible refine Wr.upd ?_)

end Sys2Proof.Machine
end

