-- ==== Sys2Proof/Tests/Slice0.lean ====
section
/-! SUPPORT. The model's own tests, and for every statement with hypotheses a state and operands that meet them. -/

set_option maxRecDepth 20000

namespace Sys2Proof.Tests

open Sys2Proof.Machine

/-- A part in Run with its safety process started, and a state at a grid tick. -/
def up : State := { (State.reset.put fPWR_STATE 1).put fPWR_PHASE 6 with
  pwr := { State.reset.pwr with good := true }, sto := { State.reset.sto with epoch := some 0 } }
def atTick (s : State) (t : Nat) : State := { s with grid := { s.grid with running := true, tick := t } }

theorem test_witness_icuSourceEdges :
    ((9 : Fin 256) : Nat) = 9 ∧ (2 : Fin 4) ≠ 3 ∧ ((7 : Fin 256) : Nat) < 8 ∧ (State.reset.put fPWR_STATE 3).inDusk = true ∧ risesInDusk 32 = true ∧ 32 ≤ ((32 : Fin 256) : Nat) ∧ sourceListed 32 = true
      ∧ 32 ≤ ((255 : Fin 256) : Nat) ∧ sourceListed 255 = true ∧ State.reset.inDusk = false := by decide

theorem test_witness_icuDelivery :
    (let s := { State.reset with icu := { State.reset.icu with request := [(3, true)], insvc := [(0, true)], window := [(2, true)], windowEnd := [(2, 25)], highAt := 5 } }
     tabGet (fun _ => false) s.icu.request ((3 : Fin 4) : Nat) = true
       ∧ (0 : Fin 4) ≠ 3 ∧ tabGet (fun _ => false) s.icu.insvc ((0 : Fin 4) : Nat) = true
       ∧ (atTick s 25).windowOver ((2 : Fin 4) : Nat) = true ∧ (atTick s 24).windowOver ((2 : Fin 4) : Nat) = false
       ∧ s.icu.highAt + 25 ≤ (atTick s 30).grid.tick ∧ (atTick s 29).grid.tick < s.icu.highAt + 25) := by decide

theorem test_witness_icuRequestsFollow :
    (let s := { State.reset with icu := { State.reset.icu with window := [(3, true)], windowEnd := [(3, 25)], highAt := 5 } }
     (atTick s 30).windowOver ((3 : Fin 4) : Nat) = true ∧ s.icu.highAt + 25 ≤ (atTick s 30).grid.tick) := by decide

theorem test_witness_captureTriggerAndFreeze :
    (let s := (State.reset.put fCAP_STATE 1)
     s.get fCAP_STATE = 1 ∧ s.cap.trig = 0)
    ∧ (State.reset.put fCAP_STATE 3).get fCAP_STATE = 3
    ∧ (let s := { State.reset.put fCAP_STATE 2 with cap := { State.reset.cap with post := 4 } }
       s.get fCAP_STATE = 2 ∧ s.inDusk = false ∧ (atTick s 100).capOver = true ∧ (atTick s 99).capOver = false)
    ∧ State.reset.get fCAP_STATE ≠ 2 := by decide

theorem test_witness_ambientAndInputs :
    (State.reset.put fDIM_SRC 2).get fDIM_SRC = 2 ∧ (State.reset.put fDIM_SRC 3).get fDIM_SRC = 3
    ∧ (State.reset.put fBIN_INPUT 1).get fBIN_INPUT = 1 ∧ (State.reset.put fBIN_INPUT 1).flag fDIM_BIN_LOST = false
    ∧ (State.reset.putFlag fDIM_BIN_LOST true).flag fDIM_BIN_LOST = true
    ∧ (let s := { State.reset.put fNTC_NOM 10000 with dim := { State.reset.dim with ntcCode := 2048 } }
       s.ntcInRange = true) := by decide

theorem test_witness_gridReference :
    (let s := { State.reset with grid := { State.reset.grid with running := true } }
     s.flag fGRID_SRC = false ∧ s.grid.running = true)
    ∧ (State.reset.putFlag fGRID_SRC true).flag fGRID_SRC = true ∧ (State.reset.put fPWR_STATE 1).pstate = 1 := by decide

theorem test_witness_midnightEntry :
    (let s := { State.reset with pwr := { State.reset.pwr with good := true } }
     s.pwr.good = true ∧ s.midnight = false) ∧ (State.reset.put fNW_MN_CAUSE 4).midnight = true := by decide

theorem test_witness_dieLink :
    (let x := Xfer.make 2 0 [7]
     let k := State.reset.link
     let half := fun (m : BitVec 32) => k.badLanes { x with check := x.check ^^^ m }
     k.lost = false ∧ k.narrow = false ∧ k.seqErr = []
     ∧ k.badLanes x = 0 ∧ x.shaped = true ∧ x.seq = ((k.dir 1).seq + 1) % 256 ∧ (Xfer.make 2 9 [7]).seq ≠ ((k.dir 1).seq + 1) % 256
     ∧ half 0x00010001 % 65536 ≠ 0 ∧ half 0x00010001 / 65536 ≠ 0 ∧ (k.dir 1).retry = false
     ∧ half 1 ≠ 0 ∧ half 1 / 65536 = 0 ∧ half 0x80000000 % 65536 = 0
     ∧ ((k.setDir 1 { k.dir 1 with retry := true }).dir 1).retry = true ∧ State.reset.underTest bkLINK = false
     ∧ (State.reset.setLink { k with lost := true }).link.lost = true) := by decide

/-- A part in Run whose deadlines of the classes 0 to 7 and of instance 0, or of the slot and descriptor named, fall on the tick. -/
theorem test_witness_deadlineTicks :
    (let s := up.setLoop 0 { up.loop 0 with open_ := true }
     (atTick s 80).deadlineTick 0 0 = true ∧ (atTick s 79).deadlineTick 0 0 = false) ∧ (atTick up 7500).deadlineTick 3 0 = true ∧ up.deadlineTick 4 0 = true
    ∧ (atTick up 79).deadlineTick 0 0 = false ∧ (atTick up 7501).deadlineTick 3 0 = false ∧ (atTick up 1).deadlineTick 4 0 = false
    ∧ (atTick up 80).untaken (State.deadlineKey 0 0) = true
    ∧ ((atTick up 80).takeEvent (State.deadlineKey 0 0)).untaken (State.deadlineKey 0 255) = false := by decide

theorem test_witness_deadlineMissed :
    State.reset.classSuspended 0 = false ∧ State.reset.classSuspended 7 = false ∧ (State.reset.loop 0).open_ = false
    ∧ (State.reset.loop 31).hold = false ∧ State.reset.loopClass 31 2 = true ∧ State.reset.loopClass 31 1 = false ∧ State.reset.res.committed = false
    ∧ ((State.reset.setLaunch 127 { State.reset.launch 127 with copied := true }).launch 127).copied = true
    ∧ (State.reset.put fPWR_STATE 3).classSuspended 1 = true ∧ (State.reset.put fPWR_STATE 3).classSuspended 5 = true := by decide

theorem test_witness_deadlineMetAndRecovery :
    (let s := { State.reset.putFlag fGRID_DLM_HOLD true with boost := { State.reset.boost with onTime := 250 } }
     s.flag fGRID_DLM_HOLD = true ∧ 250 ≤ s.boost.onTime ∧ s.pairFault 7 = false ∧ s.loopLost 0 = false)
    ∧ State.reset.boost.onTime < 250 ∧ State.reset.res.onTime < 16
    ∧ (let s := { State.reset.putFlag fGRID_RULE_STALL true with res := { State.reset.res with onTime := 16 } }
       s.flag fGRID_RULE_STALL = true ∧ 16 ≤ s.res.onTime)
    ∧ State.reset.classSuspended 4 = false ∧ (({ State.reset.loop 0 with hold := true } : LoopSlot).hold = true)
    ∧ State.reset.lateWalk = false ∧ (atTick { State.reset with rule := { State.reset.rule with running := true } } 7500).lateWalk = true
    ∧ State.reset.loopClass (255 % 32) 2 = true := by decide

theorem test_witness_hazardCrossCheck :
    State.reset.rulesRun = false ∧ (atTick up 7499).ruleTick 7500 = false
    ∧ (let s := atTick up 7500
       s.rulesRun = true ∧ s.sfcRuns = true ∧ s.ruleTick 7500 = true ∧ s.res.suspend = 0
       ∧ ({ s with res := { s.res with suspend := 3 } } : State).res.suspend ≠ 0
       ∧ ({ s with res := { s.res with skips := 2 } } : State).res.skips = 2) := by decide

theorem test_aspReqWrite_reserved : withBits (0xFFFFFFFF : BitVec 32).toNat 8 8 0 = 0xFFFF00FF := by decide

theorem test_witness_observationWrites : State.reset.midnight = false ∧ (State.reset.put fNW_MN_CAUSE 4).midnight = true ∧ (atTick State.reset 250).senseDue = true ∧ State.reset.senseDue = false := by decide

theorem test_witness_rulePeriod :
    up.periodDueNow = true ∧ State.reset.periodDueNow = false ∧ (atTick up 1).periodDueNow = false ∧ (up.takeEvent periodKey).periodDueNow = false
    ∧ up.cfg.wait = none ∧ up.midnight = false ∧ up.spi.mode = false ∧ up.hostValid = true ∧ (up.elevate 8).elevated 8 = true ∧ up.elevated 0 = false
    ∧ (let w : CfgWait := ⟨[], 1, 5, 1, 0, 0, false, ⟨[], 0, [], 0, 0⟩, [], true⟩
       (up.setCfg { up.cfg with wait := some w }).cfg.wait = some w ∧ w.done = true ∧ ({ w with done := false } : CfgWait).done = false)
    ∧ State.reset.rule.running = false ∧ State.reset.rule.late = none
    ∧ (let s := { State.reset with rule := { State.reset.rule with running := true, late := some ([], []) } }
       s.rule.running = true ∧ s.rule.late = some ([], [])) := by decide

theorem test_witness_resolveAndCommit :
    (let s := atTick up 5000
     s.rulesRun = true ∧ s.rule.running = false ∧ s.ruleAt 5000 = true ∧ (atTick up 5001).ruleAt 5000 = false)
    ∧ State.reset.rulesRun = false ∧ State.reset.res.running = false ∧ State.reset.ruleReady = false
    ∧ (let s := atTick { (up.put fPWR_STATE 2) with res := { State.reset.res with running := true, ready := true, readyAt := 7499 } } 7500
       s.res.running = true ∧ s.ruleReady = true ∧ s.takesCommits = true ∧ s.midnight = false ∧ s.ruleAt 7500 = true
       ∧ s.pstate = 2 ∧ s.pwr.latched = false ∧ (atTick s 7501).ruleAt 7500 = false
       ∧ ({ s with res := { s.res with readyAt := 7500 } } : State).ruleReady = false)
    ∧ (let s := { State.reset.put fNW_MN_CAUSE 4 with res := { State.reset.res with ready := true } }
       s.ruleReady = true ∧ s.midnight = true ∧ s.takesCommits = false)
    ∧ State.reset.linkTurn 0 (4, 127) = true
    ∧ (State.reset.setLink (State.reset.link.setDir 0 { State.reset.link.dir 0 with flight := some (1, 0) })).linkTurn 0 (4, 127) = false
    ∧ ((State.reset.setChan 127 { State.reset.chan 127 with sent := some darkSet }).chan 127).sent = some darkSet := by decide

theorem test_witness_driveStarts :
    up.periodDue 0 = true ∧ (up.chan 0).missed = false ∧ (atTick up 1).periodDue 0 = false
    ∧ (let s := up.setChan 0 { up.chan 0 with missed := true }
       s.periodDue 0 = true ∧ (s.chan 0).missed = true)
    ∧ (let s := (((up.put (fPAT_SYNC 7) 1).put fTIME_SET 1).put (fPAT_MODE 7) 1).put (fPAT_T1 7) 1
       s.flag (fPAT_SYNC 7) = true ∧ s.flag fTIME_SET = true ∧ s.patMatch 7 = true)
    ∧ up.flag (fPAT_SYNC 0) = false ∧ up.flag fMTX_RUN = false
    ∧ (let s := up.put fMTX_EN 1
       s.flag fMTX_EN = true ∧ s.lampsKept = false ∧ s.midnight = false ∧ 5 ≤ s.get fPWR_PHASE ∧ s.frameDue = true)
    ∧ (let s := { (up.put fMTX_EN 1).put fMTX_RUN 1 with mtx := { up.mtx with live := (up.rd aMTX_CFG).toNat } }
       s.flag fMTX_RUN = true ∧ s.frameRuns = true ∧ s.mtx.slot ≤ s.mtxSlots ∧ s.grid.tick = s.mtx.frame + s.mtx.slot * s.slotTicks
       ∧ (atTick s 1).frameRuns = true ∧ (atTick s 1).grid.tick ≠ s.mtx.frame + s.mtx.slot * s.slotTicks ∧ (atTick s 9999999).frameRuns = false) := by decide
theorem test_witness_driveStarts_scanned : ∃ s : State, s.scanned 0 = true := ⟨((State.reset.put fMTX_EN 1).put fMTX_FIRST 0).put fMTX_K 0, by decide⟩

theorem test_witness_lampFaultCommands :
    bitOf (0x80000D00 : BitVec 32).toNat 31 = true ∧ bitOf (0x80000D00 : BitVec 32).toNat 8 = true ∧ bitOf (0x80000D00 : BitVec 32).toNat 10 = true
    ∧ bitOf (0x800 : BitVec 32).toNat 11 = true ∧ bitOf (0 : BitVec 32).toNat 8 = false ∧ 127 = (0x7F : BitVec 32).toNat % 128 ∧ 1023 = (0x3FF : BitVec 32).toNat % 1024
    ∧ (let s := atTick (((State.reset.put (fSUP_LATCH 127 ltOVERHEAT) 1).put fOVH 60).setChan 127 { State.reset.chan 127 with coolAt := 1 }) 250000000
       (s.chan 127).coolAt ≠ 0 ∧ (s.chan 127).coolAt + 250000000 ≤ s.grid.tick + 1 ∧ s.latch 127 ltOVERHEAT = true ∧ s.flag (fSUP_TSD_CAUSE 127) = false ∧ s.chanClass 127 ≠ 1 ∧ s.lampTemp 127 ≤ 1000 * (s.get fOVH : Int) - 10000)
    ∧ State.reset.latch 0 ltOVERHEAT = false ∧ State.reset.shortWatched 0 = false
    ∧ (let s := atTick (State.reset.setChan 127 { State.reset.chan 127 with pulse := 111 }) 111
       s.shortWatched 127 = true ∧ s.scanned (127 / 16) = false ∧ (s.chan 127).steady (s.lampPeriod 127) = false)
    ∧ (let s := (State.reset.put (fBANK_MODE 7) 1).setBank 7 { State.reset.bank 7 with cmd := true }
       (s.bank 7).cmd = true ∧ s.linkTurn 0 (1, 7) = true ∧ s.roleOf 7 ≠ 2 ∧ s.get (fBANK_MODE 7) ≠ 0 ∧ (s.bank 6).cmd = false) := by decide

theorem test_witness_bankProtections :
    (let z := (State.reset.setBank 7 { State.reset.bank 7 with wait := true, closed := true, closing := true }).put (fBANK_MODE 7) 1
     let s := atTick z 2500000
     (s.bank 7).wait = true ∧ (s.bank 7).at_ + 2500000 ≤ s.grid.tick ∧ s.flag (fBANK_STRAY 7) = false ∧ s.bankWanted 7 = true
       ∧ s.scanned 7 = false ∧ (s.bank 7).closed = true ∧ (s.bank 7).closing = true ∧ (s.bank 7).at_ + 375 ≤ s.grid.tick
       ∧ (atTick z 2499999).grid.tick < (z.bank 7).at_ + 2500000 ∧ (atTick z 374).grid.tick < (z.bank 7).at_ + 375
       ∧ (atTick z 2500).grid.tick = (z.bank 7).at_ + 2500 ∧ ¬ (z.bank 7).at_ + 2500 ≤ (atTick z 2499).grid.tick)
    ∧ (let s := atTick (((State.reset.put fMTX_EN 1).put fMTX_K 2).setBank 7 { State.reset.bank 7 with wait := true }) 2500000
       (s.bank 7).wait = true ∧ s.flag (fBANK_STRAY 7) = false ∧ s.scanned 7 = true ∧ s.bankWanted 7 = true)
    ∧ (State.reset.bank 0).wait = false ∧ tabGet (fun _ => false) State.reset.pwr.mornOpen 0 = false ∧ (State.reset.bank 0).closed = false
    ∧ (State.reset.bank 0).closing = false ∧ State.reset.flag (fBANK_STUCK 0) = false ∧ (atTick State.reset 2500).grid.tick = 2500
    ∧ tabGet (fun _ => false) { State.reset.pwr with mornOpen := tabSet (fun _ => false) [] 7 true }.mornOpen 7 = true := by decide

theorem test_witness_thermalNeedAndGovernors :
    State.reset.tsd = false ∧ (State.reset.put fPWR_TSD 1).tsd = true ∧ State.reset.inDusk = false ∧ State.reset.midnight = false
    ∧ State.reset.flag fNW_FROZEN = false ∧ (State.reset.put fPWR_STATE 3).inDusk = true := by decide

theorem test_witness_boostProtections :
    State.reset.boost.fb = false ∧ State.reset.midnight = false ∧ (State.reset.put fNW_MN_CAUSE 4).midnight = true
    ∧ (let s := atTick ({ State.reset.put fBST_MODE 5 with boost := { State.reset.boost with hicAt := 5 } } : State) 2500005
       s.get fBST_MODE = 5 ∧ s.boost.hicAt + 2500000 ≤ s.grid.tick ∧ ¬ s.boost.hicAt + 2500000 ≤ (atTick s 2500004).grid.tick) ∧ ((State.reset.put fBST_MODE 5).put fNW_MN_CAUSE 4).get fBST_MODE = 5
    ∧ State.reset.get fBST_MODE ≠ 5 ∧ State.reset.get fBST_MODE ≠ 1
    ∧ ({ State.reset with boost := { State.reset.boost with fb := true } } : State).boost.fb = true
    ∧ (let s := atTick ({ State.reset.put fBST_MODE 1 with boost := { State.reset.boost with target := 20000, vlamp := 20000, rampAt := 1 } } : State) 125000
       s.get fBST_MODE = 1 ∧ s.softOk = true ∧ s.softOver = true ∧ (atTick s 124999).softOver = false ∧ ¬ s.boost.target + 300 ≤ s.boost.vsup)
    ∧ (let s := { State.reset.put fBST_MODE 1 with boost := { State.reset.boost with target := 20000, vlamp := 20000, vsup := 20300 } }
       s.get fBST_MODE = 1 ∧ s.softOk = true ∧ s.boost.target + 300 ≤ s.boost.vsup)
    ∧ (let s := atTick ({ State.reset.put fBST_MODE 1 with boost := { State.reset.boost with target := 20000, vlamp := 18999, rampAt := 1 } } : State) 125000
       s.get fBST_MODE = 1 ∧ s.softOk = false ∧ s.softOver = true) := by decide

theorem test_witness_loopEngine :
    (let z := ((State.reset.put fPWR_PHASE 4).wr (aLOOP_SHD 31 0) 1).wr aLOOP_SWAP 0x80000000
     let s := atTick { z with pwr := { z.pwr with good := true } } 0
     s.loopDue 31 = true ∧ (s.loopSwap 31).loopReady 31 = true ∧ s.flag ⟨aLOOP_SWAP, 31, 1⟩ = true
       ∧ s.loopDue 30 = true ∧ (s.loopSwap 30).loopReady 30 = false ∧ (s.loopSwap 30).loopMode 30 = 0
       ∧ (s.loop 30).run = false ∧ ({ s.loop 30 with offAt := 9 } : LoopSlot).offAt ≠ s.grid.tick
       ∧ s.loopDue 3 = true ∧ (s.loopSwap 3).loopReady 3 = true ∧ (atTick s 1).loopDue 0 = false
       ∧ (s.wr aADC_REFCTL 0x8080).loopDue 0 = true ∧ ((s.wr aADC_REFCTL 0x8080).loopSwap 0).loopReady 0 = true)
    ∧ (State.reset.loop 4).open_ = false ∧ State.reset.loops.spares < 2
    ∧ (let s := State.reset.setLoop 31 { State.reset.loop 31 with open_ := true }
       (s.loop 31).open_ = true ∧ (s.loop 31).hold = false ∧ (s.loop 31).wait = false)
    ∧ 2 ≤ ({ State.reset.loops with spares := 2 } : Loops).spares := by decide

theorem test_witness_adcTriggers :
    (let s := ((up.wr (aADC_SEQCFG 15 2) 7).wr (aADC_SEQCFG 15 3) 5)
     (atTick s 12).gridTick 15 = true ∧ (atTick s 11).gridTick 15 = false) ∧
    (let z := (State.reset.wr (aADC_SEQCFG 15 0) 5).wr (aADC_SEQCFG 15 1) 5
     let s := z.setConv 15 { z.conv 15 with reg := { (z.conv 15).reg with at_ := some 0 } }
     s.convOut 15 = false ∧ s.inDusk = false ∧ s.injTrigOf 15 = 5 ∧ s.regTrigOf 15 = 5 ∧ (s.conv 15).inj.at_ ≠ some s.grid.tick
       ∧ (s.conv 15).reg.at_ = some s.grid.tick ∧ (s.conv 15).inj.pend = false ∧ (s.conv 15).inj.run = false ∧ (s.conv 15).reload ≠ 2)
    ∧ (let s := (State.reset.wr (aADC_SEQCFG 15 0) 1).wr (aADC_SEQCFG 15 1) 4
       s.regTrigOf 15 = 1 ∧ (0x8000 : BitVec 16).getLsbD 15 = true ∧ (0 : BitVec 16).getLsbD 15 = false ∧ s.injTrigOf 15 ∈ [3, 4])
    ∧ ({ State.reset.conv 0 with reg := { (State.reset.conv 0).reg with pend := true, run := true } } : Conv).reg.pend = true := by decide

theorem test_witness_conversionWork :
    (let s := atTick (up.setChan 127 { up.chan 127 with lit := true, pulse := 150, period := 12500 }) 137
     s.holdTick 127 true = true ∧ s.untaken (State.holdKey 127 true) = true ∧ (atTick s 138).holdTick 127 true = false
       ∧ (s.takeEvent (State.holdKey 127 true)).untaken (State.holdKey 127 true) = false
       ∧ (atTick s (s.lampPeriod 127 - 150)).holdTick 127 false = true
       ∧ s.scanned 7 = false ∧ 150 ≤ (s.chan 127).pulse ∧ (s.chan 127).lit = true ∧ s.pairGone 7 0 = false ∧ s.cmpOnly 7 = false
       ∧ s.coverSkip 127 (s.chan 127).start false = false)
    ∧ ¬ 150 ≤ (State.reset.chan 127).pulse ∧ (State.reset.chan 0).pulse + 300 ≤ State.reset.lampPeriod 0 ∧ (State.reset.conv 15).cur = none
    ∧ (let s := ((State.reset.put fPWR_STATE 3).putFlag (State.fADC 7 1) true).setPair 7 { State.reset.pair 7 with moved := 0 }
       s.cmpOnly 7 = true ∧ s.inDusk = true)
    ∧ (let s := (State.reset.putFlag (State.fADC 7 1) true).setChan 127 { State.reset.chan 127 with start := 12500, lit := true, pulse := 150, period := 12500 }
       s.cmpOnly 7 = false ∧ s.coverSkip 127 (s.chan 127).start false = true ∧ s.coverSkip 127 (s.chan 127).start true = false)
    ∧ (let c := State.reset.conv 15
       let s := (State.reset.setConv 15 { c with cur := some ⟨4, 31, 2, false, false, 0, 0⟩, chk := some 2048, bg := some 1500, reload := 0 }).setConv 14 { c with chk := some 2050, bg := some 1500 }
       (s.conv 15).cur = some ⟨4, 31, 2, false, false, 0, 0⟩ ∧ (s.conv 15).chk = some 2048 ∧ (s.conv 14).chk = some 2050 ∧ (s.conv 15).bg = some 1500
         ∧ (s.conv 14).bg = some 1500 ∧ s.convOut 15 = false ∧ s.convOut 14 = false ∧ (s.conv 14).reload ≠ 2 ∧ (s.conv 15).reload ≠ 2)
    ∧ (let s := (State.reset.setConv 15 { State.reset.conv 15 with cur := some ⟨0, 0, 0, false, false, 0, 0⟩ }).setLoop 0 { State.reset.loop 0 with open_ := true, wait := true }
       (s.conv 15).cur = some ⟨0, 0, 0, false, false, 0, 0⟩ ∧ 0 = s.get (State.fADC_EPOCH (15 / 2)) ∧ (s.loop 0).open_ = true ∧ (s.loop 0).wait = true
         ∧ 1 ≠ s.get (State.fADC_EPOCH (15 / 2)))
    ∧ (State.reset.conv 0).chk = none ∧ State.reset.pairFault 7 = false ∧ State.reset.convOut 14 = false ∧ State.reset.inDusk = false
    ∧ (let s := atTick ({ State.reset.wr aADC_REFCTL 0x80 with adc := { State.reset.adc with refAt := [(7, 50)] } } : State) 6300
       s.refReadyTick 7 = true ∧ (atTick s 6301).refReadyTick 7 = false ∧ s.get fBST_MODE = 0)
    ∧ (atTick up (500 + 3000 * 7)).roundTick 7 = true ∧ (atTick up 500).roundTick 7 = false
    ∧ (State.reset.wr aDEV_ADC_STAT 0xC0000000).pairFault 7 = true
    ∧ State.reset.midnight = false
    ∧ (let s := State.reset.setConv 15 { State.reset.conv 15 with reload := 1 }
       (s.conv 15).reload = 1 ∧ (s.conv 15).inj.run = false ∧ (s.conv 15).inj.pend = false) ∧ (State.reset.conv 15).reload ≠ 1 := by decide

theorem test_witness_stoOutputs :
    (let z := atTick (up.put (State.fOSTATE 7) 3) 10937500
     let s := z.setOut 7 { z.out 7 with word := some (true, 1), on := true, failed := true }
     s.sfcRuns = true ∧ s.cycleDue = true ∧ s.stoDue (1562500 * 7) 12500000 = true ∧ s.stoDue (1562500 * 6) 12500000 = false
      ∧ (s.out 7).word = some (true, 1) ∧ (s.out 7).on = true ∧ (s.out 7).acc + 125000 ≤ s.grid.tick ∧ (s.out 7).skip = false
      ∧ s.midnight = false ∧ s.linkTurn 0 (1, 8 + 7) = true
      ∧ (s.setLink (s.link.setDir 0 { s.link.dir 0 with flight := some (0, 0) })).linkTurn 0 (1, 8 + 7) = false
      ∧ s.get (State.fOSTATE 7) = 3 ∧ (s.out 7).failed = true ∧ (atTick s 250000).grid.tick = (s.out 7).start + 250000 ∧ (s.out 7).pulse = false
      ∧ (s.out 7).since + 25000 ≤ s.grid.tick ∧ (s.out 7).on = (!false) ∧ (s.out 7).fault = 0)
    ∧ (let s := atTick (up.setOut 7 { up.out 7 with pulse := true, await := true, width := 250, skip := true, failed := true }) 1500
       s.sfcRuns = true ∧ s.cycleDue = false ∧ (s.out 7).await = true ∧ (s.out 7).pulse = true ∧ (s.out 7).start + 1500 ≤ s.grid.tick
        ∧ (s.out 7).start + (s.out 7).width ≤ s.grid.tick ∧ (atTick s 249).grid.tick < (s.out 7).start + (s.out 7).width
        ∧ (atTick s 250000).grid.tick = (s.out 7).start + 250000 ∧ (s.out 7).failed = true ∧ (s.out 7).skip = true
        ∧ (atTick s 10937500).stoDue (1562500 * 7) 12500000 = true ∧ s.grid.tick < (s.out 7).since + 25000 ∧ s.grid.tick < (s.out 7).acc + 125000)
    ∧ (let s := atTick (up.setOut 7 { up.out 7 with await := true, width := 250 }) 1750
       s.sfcRuns = true ∧ (s.out 7).await = true ∧ (s.out 7).pulse = false ∧ (s.out 7).start + 1500 + (s.out 7).width ≤ s.grid.tick
        ∧ (s.out 7).discard = false ∧ (s.out 7).hi = false ∧ (s.out 7).cross = 0 ∧ (s.out 7).again = false ∧ bitOf (0x80 : BitVec 8).toNat 7 = true
        ∧ s.othersLow 7 0x80 = 0 ∧ bitOf (0 : BitVec 8).toNat 7 = false)
    ∧ State.reset.sfcRuns = false ∧ State.reset.cycleDue = false ∧ (State.reset.out 0).await = false ∧ (State.reset.out 0).word = none
    ∧ (State.reset.out 0).on = false ∧ (State.reset.out 0).pulse = false ∧ State.reset.get (State.fOSTATE 0) ≠ 3 := by decide

theorem test_witness_stoInputs :
    (let s := atTick (up.setLine 3 { up.tpLine 3 with low := false }) 937500
     s.lineSources 3 = true ∧ s.sto.epoch.getD 0 + 25000 ≤ s.grid.tick
      ∧ s.stoDue (312500 * 3) 1250000 = true ∧ (s.tpLine 3).skip = false ∧ ((s.setLine 3 { s.tpLine 3 with skip := true }).tpLine 3).skip = true
      ∧ (atTick up 937499).stoDue (312500 * 3) 1250000 = false ∧ s.sfcRuns = true ∧ s.sampleDue s.sto.sinAt 250 = true ∧ s.sto.win = none
      ∧ s.stoDue 0 2500 = true ∧ s.sto.discAt ≠ s.grid.tick + 1 ∧ (atTick up 1).stoDue 0 2500 = false
      ∧ ({ s with sto := { s.sto with sinAt := 937500 } } : State).sampleDue 937500 250 = false
      ∧ (let s := s.setLine 3 { s.tpLine 3 with low := false }
         (s.tpLine 3).low = false ∧ (s.tpLine 3).at_ = 0 ∧ (s.tpLine 3).lowAt = 0))
    ∧ (let z := up.setLine 3 { up.tpLine 3 with low := true, fallOk := false, fails := 1 }
       let s := atTick { z with sto := { z.sto with win := some (3, 0) } } 1500
       s.sfcRuns = true ∧ s.readbackDue 3 false = true ∧ s.readbackDue 3 true = false ∧ (s.tpLine 3).low = true
        ∧ (atTick s 10000).grid.tick = (s.tpLine 3).at_ + 10000 ∧ s.grid.tick < (s.tpLine 3).at_ + 10000
        ∧ s.sto.win = some ((3 : Fin 4).val, 0) ∧ s.grid.tick < 0 + 15000 ∧ (atTick s 15000).grid.tick = 0 + 15000
        ∧ ¬ (s.tpLine 3).low = false)
    ∧ (let z := up.setLine 3 { up.tpLine 3 with low := false, fallOk := true, fails := 1 }
       let s := atTick { z with sto := { z.sto with win := some (3, 0) } } 11500
       s.sfcRuns = true ∧ s.readbackDue 3 true = true ∧ (s.tpLine 3).fallOk = true ∧ (s.tpLine 3).fails = 1)
    ∧ (let s := atTick { up with sto := { up.sto with srstHigh := false } } 125000001
       s.sfcRuns = true ∧ s.sto.srstHigh = false ∧ s.flag State.fSRST_STUCK = false ∧ s.sto.srstLow + 125000000 < s.grid.tick
        ∧ ¬ s.sto.srstLow + 125000000 < (atTick s 125000000).grid.tick)
    ∧ (atTick up 100000).sealDue 3 = true ∧ (atTick up 99999).sealDue 3 = false ∧ State.reset.sfcRuns = false := by decide

theorem test_witness_ringPorts :
    (let b : List (BitVec 8) := List.replicate 12 0 ++ [0x88, 0x08] ++ List.replicate 46 0
     let fr := b ++ leBytes 4 (crc32 b)
     fr.length = 64 ∧ crc32 (fr.take (fr.length - 4)) = ofLeBytes (fr.drop (fr.length - 4)) ∧ (etherOf (fr.take (fr.length - 4))).1 = 0x8808)
    ∧ State.reset.inDusk = false ∧ (State.reset.put fPWR_STATE 3).inDusk = true
    ∧ (let s := (State.reset.setPort 1 { State.reset.rport 1 with holdoff := true }).setPort 0 { State.reset.rport 0 with fail := false }
       let s := s.setEgress 1 { s.egress 1 with cur := some (s.ownFrame 1 0 []) }
       s.sf 1 = true ∧ (s.egress 1).cur.isSome = true ∧ (s.rport 1).holdoff = true ∧ (s.rport 0).fail = false ∧ s.get fRING_ERPS ≠ 4
        ∧ s.flag (fRP_LINK 1) = false ∧ (atTick s 250000).sfStands 1 = false ∧ (atTick s 249999).sfStands 1 = true ∧ s.flag fNW_SC1_LOST = false)
    ∧ (let s := State.reset.setPort 1 { State.reset.rport 1 with noAck := 3 }
       s.sfStands 1 = true ∧ s.sf 1 = true ∧ 2 ≤ (s.rport 1).noAck) ∧ (State.reset.rport 1).noAck < 2
    ∧ (let s := ((State.reset.putFlag (fRP_SF 1) false).put fERPS_HOLDOFF 1).setPort 1 { State.reset.rport 1 with fail := false, holdoff := true }
       s.sf 1 = false ∧ s.flag fNW_SC1_LOST = false ∧ s.get fERPS_HOLDOFF ≠ 0 ∧ (s.rport 1).learn = none ∧ s.ring.guard = false
        ∧ (s.rport 1).fail = false ∧ (s.rport 1).holdoff = true)
    ∧ (let z := ((State.reset.putFlag (fRP_SF 1) false).put fPWR_HOLD 2).putFlag fCFG_NONE true
       let s := { z with ring := { z.ring with tx := some (0, false) } }
       let s := s.setEgress 1 { s.egress 1 with cur := some (s.ownFrame 1 0 []) }
       s.cfgHold = true ∧ s.flag (fRP_LINK 1) = false ∧ s.ring.tx = some (0, false) ∧ s.rapsDue = true
        ∧ ({ s with ring := { s.ring with sent := 2 } } : State).rapsDue = false ∧ s.flag fNW_SC1_LOST = false ∧ s.inDusk = false ∧ s.sf 1 = false
        ∧ (s.egress 1).cur.isSome = true ∧ (s.egress 1).keptPtp = []
        ∧ State.queued (s.egress 1).ptp + (s.rapsFrame 0 false).bytes.length + 4 ≤ 32768)
    ∧ State.reset.cfgHold = false ∧ State.reset.ring.tx = none
    ∧ (let s := (State.reset.put fERPS_HOLDOFF 1).setPort 1 { State.reset.rport 1 with holdoff := true }
       (atTick s 2500000).holdoffOver 1 = true ∧ (atTick s 2499999).holdoffOver 1 = false)
    ∧ (let s : State := { State.reset.put fERPS_GUARD 1 with ring := { State.reset.ring with guard := true } }
       (atTick s 250000).guardOver = true ∧ (atTick s 249999).guardOver = false)
    ∧ (State.reset.putFlag fNW_SC1_LOST true).flag fNW_SC1_LOST = true
    ∧ State.reset.ownMac ≠ (5 : BitVec 48).toNat ∧ (State.reset.put fRING_ERPS 5).get fRING_ERPS = 5 := by decide

theorem test_witness_launchWindows :
    (let z := State.reset
     let s := { z.putFlag fTIME_SET true with cfg := { z.cfg with words := [(4 * 2 ^ 24 + 8 * 127, 0xE0000000), (4 * 2 ^ 24 + 8 * 127 + 2, 5)] } }
     s.ldValid 127 = true ∧ s.flag fTIME_SET = true ∧ s.flag fNW_SC1_LOST = false ∧ s.inDusk = false ∧ (s.launch 127).armed = false ∧ s.ldNext 127 = some 5000000000
       ∧ s.ldCopyTime 5000000000 = false ∧ ({ s with time := { s.time with sec := 4, ns := 999900000 } } : State).ldCopyTime 5000000000 = true)
    ∧ (let s := State.reset.setLaunch 127 { State.reset.launch 127 with armed := true, ports := 3 }
       s.ldLeft 127 ≤ s.guardTicks 1 ∧ s.ldReached 127 = true ∧ (s.setLaunch 127 { s.launch 127 with at_ := 40 }).ldReached 127 = false
         ∧ (s.launch 127).closeAt ≤ s.grid.tick ∧ s.grid.tick < ({ s.launch 127 with closeAt := 7 } : Launch).closeAt)
    ∧ (State.reset.setLaunch 127 { State.reset.launch 127 with armed := true, ports := 3 }).launch 127 = { State.reset.launch 127 with armed := true, ports := 3 }
    ∧ State.ldPorts 3 = [0, 1] ∧ up.spi.mode = false ∧ up.hostValid = true ∧ (up.elevate 8).elevated 8 = true ∧ up.elevated 0 = false ∧ State.reset.hostValid = false ∧ State.reset.ldValid 127 = false
    ∧ (let s := (State.reset.putFlag fRING_EVT_EN true).wr aEVT_HEAD 17
       16 = min (((s.rd aEVT_HEAD).toNat + 2 ^ 32 - s.ring.evtNext) % 2 ^ 32) 16 ∧ s.flag fRING_EVT_EN = true ∧ s.flag fNW_SC1_LOST = false ∧ s.inDusk = false)
    ∧ State.reset.flag fRING_EVT_EN = false := by decide

theorem test_witness_clockAndMasters :
    (0 : BitVec 8).toNat = State.reset.get fTCFG_DOMAIN ∧ State.reset.flag fNW_SC1_LOST = false ∧ (1 : BitVec 8).toNat ≠ State.reset.get fTCFG_DOMAIN
    ∧ (let z := State.reset.put fTIME_STATE 1
       let s := atTick { z with ptp := { z.ptp with sel := some 7, step := some (-5), masters := [⟨0, 7, [], 0, none, 0, 25000000, 0⟩] } } 75000000
       s.ptp.sel = some (7 : BitVec 80).toNat ∧ (0 : Fin 2).val = s.get fTIME_MPORT ∧ s.ptp.hold = false ∧ s.ptp.step = some (-5) ∧ s.mayStep = true
        ∧ s.masterSilent = true ∧ s.ptp.masters.filter (fun m => !(m.src == 7 && m.port == s.get fTIME_MPORT)) = []
        ∧ s.get fTIME_STATE = 1 ∧ (atTick s 74999999).masterSilent = false)
    ∧ State.reset.ptp.step = none ∧ State.reset.mayStep = false ∧ State.reset.ptp.sel = none ∧ State.reset.flag fTIME_REARMED = false
    ∧ State.reset.trustOver = false ∧ State.reset.holdOver = false
    ∧ (let z := State.reset.put fTIME_STATE 2
       let s := atTick { z with ptp := { z.ptp with trust := some 0 } } 250000000
       s.trustOver = true ∧ s.get fTIME_STATE = 2 ∧ (atTick s 249999999).trustOver = false
        ∧ (let u := (s.put fTIME_STATE 4).put fTIME_CAUSE 1
           u.trustOver = true ∧ u.get fTIME_STATE = 4 ∧ u.get fTIME_CAUSE = 1))
    ∧ (let z := State.reset.put fTIME_STATE 3
       let s := atTick { z with ptp := { z.ptp with hold := true, sel := some 7 } } 50000000
       s.holdOver = true ∧ s.ptp.sel ≠ none ∧ s.ptp.hold = true ∧ s.gmNow = s.ptp.oldGm ∧ (s.wr aTIME_GM_LO 9).gmNow ≠ s.ptp.oldGm
        ∧ (s.wr aTIME_GM_LO 9).holdOver = true ∧ (atTick s 49999999).holdOver = false)
    ∧ (let z := State.reset.put fTIME_STATE 3
       let s := atTick { z with ptp := { z.ptp with hold := true } } 50000000
       s.holdOver = true ∧ s.ptp.sel = none)
    ∧ (let s := atTick (State.reset.putFlag fTIME_REARMED true) 1500000000
       s.flag fTIME_REARMED = true ∧ s.ptp.armed + 1500000000 ≤ s.grid.tick
        ∧ (atTick s 1499999999).grid.tick < s.ptp.armed + 1500000000) := by decide

theorem test_witness_peerDelayAndPps :
    (let z := State.reset.putFlag (fRP_SF 1) false
     let s := z.setEgress 1 { z.egress 1 with cur := some (z.ownFrame 1 0 []) }
     s.sf 1 = false ∧ s.inDusk = false ∧ s.flag fNW_SC1_LOST = false ∧ (s.egress 1).cur.isSome = true ∧ (s.egress 1).keptPtp = []
       ∧ State.queued (s.egress 1).ptp + 72 ≤ 32768 ∧ s.pdelayDue 1 = true)
    ∧ State.reset.sf 1 = true ∧ State.reset.pdelayDue 1 = false ∧ up.spi.mode = false ∧ up.hostValid = true ∧ State.reset.hostValid = false
    ∧ (tabGet (fun _ => State.noExch) State.reset.ptp.exch 1).id = 65536
    ∧ (let z := { State.reset with time := { State.reset.time with ns := 39 } }.putFlag fTIME_SET true
       let s := atTick { z with ptp := { z.ptp with exch := [(1, ⟨65535, 0, 0⟩)], pps := true,
                                                    table := [⟨0, 0, 0⟩] } } 25000000
       (tabGet (fun _ => State.noExch) s.ptp.exch 1).id = (65535 : BitVec 16).toNat ∧ 2500000 ≤ s.pdSince 1 ∧ (atTick s 2499998).pdSince 1 < 2500000
        ∧ s.tcOld = true ∧ (atTick s 24999999).tcOld = false ∧ s.wholeSec = true ∧ s.ptp.pps = true ∧ s.flag fTIME_SET = true
        ∧ s.ptp.ppsAt + s.get fTCFG_PPSW * 25000 ≤ s.grid.tick)
    ∧ (let s := { State.reset with time := { State.reset.time with ns := 40 } }
       s.wholeSec = false) ∧ State.reset.wholeSec = true
    ∧ (State.reset.put fTCFG_PPSW 1).grid.tick < (State.reset.put fTCFG_PPSW 1).ptp.ppsAt + (State.reset.put fTCFG_PPSW 1).get fTCFG_PPSW * 25000
    ∧ State.reset.ptp.pps = false ∧ true ≠ State.reset.flag fTCFG_PPSIN_POL ∧ false = State.reset.flag fTCFG_PPSIN_POL := by decide

theorem test_witness_powerSupply :
    State.reset.pwr.good = false ∧ State.reset.midnight = false ∧ State.reset.nw.scanned = false
    ∧ (State.reset.setNw { State.reset.nw with scanned := true }).nw.scanned = true ∧ State.reset.pins.pfwN = true
    ∧ (let s := { State.reset with pwr := { State.reset.pwr with good := true, pfw := true }, nw := { State.reset.nw with tick := tps } }
       s.pwr.good = true ∧ s.midnight = false ∧ s.pins.pfwN = true ∧ s.pwr.pfw = true ∧ s.pwr.pfwAt + tps ≤ s.nw.tick
        ∧ ({ s with nw := { s.nw with tick := tps - 1 } } : State).nw.tick < s.pwr.pfwAt + tps)
    ∧ State.reset.pwr.pfw = false ∧ (State.reset.put fNW_MN_CAUSE 4).midnight = true
    ∧ ({ State.reset with pins := { State.reset.pins with pfwN := false } } : State).pins.pfwN = false := by decide

theorem test_witness_dawnPhases :
    (let g := fun (n : Nat) => ({ State.reset with pwr := { State.reset.pwr with good := true } } : State).put fPWR_PHASE n
     let late := ({ g 0 with nw := { (g 0).nw with tick := 250000 } } : State)
     late.inPhase 0 = true ∧ late.flag fGRID_SRC = false ∧ late.pwr.phaseStart + 250000 ≤ late.nw.tick ∧ (g 0).nw.tick < (g 0).pwr.phaseStart + 250000
       ∧ ((g 0).putFlag fGRID_SRC true).flag fGRID_SRC = true ∧ (g 1).inPhase 1 = true ∧ (g 1).midnight = false
       ∧ (g 2).inPhase 2 = true ∧ (g 2).sec.first = 0 ∧ (g 3).inPhase 3 = true ∧ (g 3).get fPWR_HOLD ≠ 2 ∧ (g 3).loadable = []
       ∧ (g 5).inPhase 5 = true ∧ ({ g 5 with nw := { (g 5).nw with tick := 2500000 } } : State).dawnOver = true
       ∧ (let s := ({ g 3 with cfg := { (g 3).cfg with slots := [(0, { (g 3).cfgSlot 0 with marked := true, good := true })] } } : State)
          0 ∈ s.loadable ∧ (s.cfgSlot 0).good = true))
    ∧ (let s := (({ State.reset with pwr := { State.reset.pwr with good := true } } : State).put fPWR_PHASE 2).setSec { State.reset.sec with fw := [] }
       s.inPhase 2 = true ∧ s.bootSlot = none)
    ∧ (let s := ((({ State.reset with pwr := { State.reset.pwr with good := true } } : State).put fPWR_PHASE 3).put fPWR_HOLD 2).putFlag fCFG_NONE true
       s.inPhase 3 = true ∧ s.get fPWR_HOLD = 2 ∧ s.flag fCFG_NONE = true)
    ∧ (let z := ({ State.reset with pwr := { State.reset.pwr with good := true }, boost := { State.reset.boost with ended := true } } : State).put fPWR_PHASE 4
       let s := (z.wr aDEV_ADC_STAT 0xCCCCCCCC)
       s.inPhase 4 = true ∧ s.boost.ended = true ∧ (∀ n < 8, (s.bank n).closed = false) ∧ ∀ p < 8, s.pairSettled p = true)
    ∧ State.reset.boost.ended = false ∧ State.reset.pwr.good = false := by decide

theorem test_witness_duskAndMorning :
    (let s := (atTick up 0).putFlag fPWR_DUSK_PEND true
     s.flag fPWR_DUSK_PEND = true ∧ s.pstate = 1 ∧ s.jobRuns = false ∧ s.flag fMORN_RUNNING = false ∧ s.flag fNW_SC0_LOST = false
       ∧ s.periodBegins = true ∧ (atTick s 1).periodBegins = false ∧ s.pstate ≠ 3 ∧ s.pstate ≠ 4)
    ∧ (let z := up.put fPWR_STATE 2
       let s := { z with pwr := { z.pwr with latched := true } }
       s.pstate = 2 ∧ s.pwr.latched = true ∧ (s.mbx.cmds.all fun c => c.phase == .done) = true ∧ s.flag fPWR_DUSK_PEND = false
         ∧ ((s.putFlag (fNWSEL_VALID 0) true).put (fNWSEL_SRC 0) 95).nwSelected 95 = true)
    ∧ (let s := ((State.reset.put fPWR_STATE 3).putFlag (fNWSEL_VALID 0) true).put (fNWSEL_SRC 0) 127
       s.pstate = 3 ∧ s.nwSelected (127 : BitVec 8).toNat = true ∧ s.inDusk = true ∧ sourceListed 127 = false ∧ sourceListed 95 = true
         ∧ risesInDusk 95 = true ∧ ((s.put (fNWSEL_SRC 0) 95).nwSelected 95 = true) ∧ sourceListed 33 = true ∧ risesInDusk 33 = false) ∧ State.reset.nwSelected (255 : BitVec 8).toNat = false
    ∧ (State.reset.put fPWR_STATE 4).pstate = 4 ∧ State.reset.pwr.resumed = false
    ∧ ({ State.reset with pwr := { State.reset.pwr with resumed := true } } : State).pwr.resumed = true
    ∧ (let s := (({ up with pwr := { up.pwr with mornWait := true } } : State).putFlag fSYSMORN_EN true).putFlag fTIME_SET true
       s.midnight = false ∧ s.pwr.good = true ∧ s.flag fSYSMORN_EN = true ∧ s.flag fTIME_SET = true ∧ s.flag fMORN_RUNNING = false
         ∧ s.pstate = 1 ∧ s.jobRuns = false ∧ s.flag fPWR_DUSK_PEND = false ∧ (s.put fPWR_STATE 3).pstate ≠ 1 ∧ s.pwr.mornWait = true ∧ s.inDusk = false
         ∧ s.mornFalls = false ∧ ({ s with time := { s.time with sec := 1000000 } } : State).mornFalls = true
         ∧ (s.put fPWR_STATE 3).inDusk = true ∧ (atTick s (600 * tps)).grid.tick = s.pwr.mornAt + 600 * tps ∧ s.grid.tick < s.pwr.mornAt + 600 * tps)
    ∧ State.reset.pwr.mornWait = false ∧ State.reset.flag fMORN_RUNNING = false
    ∧ (let s := ({ up with pwr := { up.pwr with mornBank := 14 } } : State).putFlag fMORN_RUNNING true
       s.flag fMORN_RUNNING = true ∧ s.pwr.mornBank < 15 ∧ s.mornReady = false ∧ (atTick s 1750000).mornReady = true) := by decide

theorem test_witness_coreRecovery :
    (let g := ({ State.reset with pwr := { State.reset.pwr with good := true } } : State).put fPWR_STATE 1
     let l := g.putFlag fNW_SC0_LOST true
     g.flag fNW_SC0_LOST = false ∧ g.pstate ≠ 3 ∧ (1 : BitVec 8).toNat = (g.nw.sc0Code + 1) % 256 ∧ (255 : BitVec 8).toNat ≠ (g.nw.sc0Code + 1) % 256
       ∧ g.nw.sc0Wrong = 0 ∧ (g.setNw { g.nw with sc0Wrong := 1 }).nw.sc0Wrong ≠ 0 ∧ g.pwr.good = true ∧ g.pstate ≠ 0
       ∧ (3 : Fin 4).val = 3 ∧ g.debugReach = true ∧ (g.setSec { g.sec with fieldLock := true }).debugReach = false
       ∧ ¬ ((1 : Fin 4).val = 0 ∧ (g.nw.tick < g.nw.sc0Beat + tenMs ∨ g.pstate = 3)) ∧ (0 : Fin 4).val = 0 ∧ g.nw.tick < g.nw.sc0Beat + tenMs
       ∧ l.flag fNW_SC0_LOST = true ∧ l.nw.sc0Step = 0 ∧ (l.setNw { l.nw with tick := 25000 }).nw.tick = l.nw.sc0LostAt + 25000
       ∧ ¬ l.nw.sc0LostAt + 25000 ≤ l.nw.tick ∧ l.pstate ≠ 0 ∧ (l.put fPWR_STATE 0).pstate = 0 ∧ (l.recent l.nw.sc0Starts).length < 3 ∧ l.midnight = false
       ∧ (let m := l.setNw { l.nw with sc0Starts := [0, 0, 0] }
          3 ≤ (m.recent m.nw.sc0Starts).length)
       ∧ (l.setNw { l.nw with sc0Step := 1 }).sc0Ready false = true ∧ l.sc0Ready false = false
       ∧ (let r := l.setNw { l.nw with sc0Step := 1 }
          let r := ({ r with cfg := { r.cfg with slots := [(0, ⟨1, true, true, []⟩)] } } : State).put fPWR_PHASE 6
          r.rulesRun = true ∧ r.markAgain.reloadFrom true = some 0 ∧ r.sc0Ready true = true
            ∧ (atTick r 5).sc0Ready true = false))
    ∧ (let s := { State.reset with pwr := { State.reset.pwr with good := true }, sto := { State.reset.sto with epoch := some 0 } }
       s.sfcRuns = true ∧ s.midnight = false ∧ (State.put s fNW_MN_CAUSE 4).midnight = true ∧ (State.put s fNW_MN_CAUSE 4).sfcRuns = true)
    ∧ State.reset.sfcRuns = false
    ∧ (let s := ({ State.reset with pwr := { State.reset.pwr with good := true } } : State).put fPWR_PHASE 3
       s.pwr.good = true ∧ s.flag fNW_SC1_HELD = false ∧ 3 ≤ s.get fPWR_PHASE)
    ∧ (let s := State.reset.putFlag fNW_SC1_LOST true
       s.flag fNW_SC1_LOST = true ∧ s.flag fNW_SC1_HELD = false ∧ s.underTest bkSC1 = false)
    ∧ (let s := ((State.reset.putFlag fNW_SC1_LOST true).putFlag (fRP_SF 0) false).putFlag (fRP_SF 1) false
       ∀ q < 2, s.sf q = false ∧ ((s.setPort q { s.rport q with fail := false }).rport q).fail = false)
    ∧ 4 ≤ (4 : Fin 9).val := by decide

theorem test_witness_lifetimeRecords :
    (let s := State.reset.put fLIFE_RESTORE 2
     s.flag fNW_SC0_LOST = false ∧ s.inDusk = false ∧ s.get fLIFE_RESTORE ≠ 0 ∧ s.life.writing = 0 ∧ s.pwr.pfw = false
       ∧ s.life.dueAt ≤ s.nw.tick ∧ s.nw.tick < s.life.lastFold + tps ∧ s.snapDue = false
       ∧ (let l := s.setNw { s.nw with tick := 86400 * tps }
          l.life.lastFold + tps ≤ l.nw.tick ∧ l.snapDue = true)
       ∧ (State.put s fPWR_STATE 3).inDusk = true)
    ∧ (let s := ({ State.reset with life := { State.reset.life with writing := 1 } } : State).put fLIFE_PERSIST 2
       s.get fLIFE_PERSIST = 2 ∧ s.life.writing ≠ 0 ∧ s.inDusk = false) ∧ State.reset.get fLIFE_RESTORE = 0
    ∧ (let s := ({ State.reset with pwr := { State.reset.pwr with pfw := true } } : State).put fLIFE_RESTORE 1
       s.get fLIFE_RESTORE ≠ 0 ∧ s.flag fNW_SC0_LOST = false ∧ s.pwr.pfw = true)
    ∧ (let s := { State.reset with evt := { State.reset.evt with started := true, queue := [⟨0, 0, 0, 1, 0, []⟩] } }
       s.logOpen = true ∧ s.evt.queue = ⟨0, 0, 0, 1, 0, []⟩ :: []) ∧ State.reset.logOpen = false := by decide

theorem test_witness_spiFrames :
    (let s := ({ State.reset with spi := { State.reset.spi with mode := true }, pwr := { State.reset.pwr with good := true } } : State).put fPWR_PHASE 6
     s.spi.mode = true ∧ s.hostValid = true ∧ s.midnight = false ∧ s.elevated 9 = false ∧ s.owner 31 = none ∧ s.bist.active = false
       ∧ s.lockedOut = false ∧ s.secOut = none ∧ s.sec.record = none ∧ (State.put s fNW_MN_CAUSE 4).midnight = true
       ∧ (State.put s fNW_MN_CAUSE 4).hostValid = true ∧ (s.elevate 9).elevated 9 = true ∧ (s.elevate 9).hostValid = true)
    ∧ State.reset.spi.mode = false ∧ State.reset.hostValid = false := by decide

/-- A command of ring context 1 on SC0 with an opcode and arguments, privileged, without payload, RLEN 64. -/
def cmdOf (op : Nat) (args : List Nat) : Cmd :=
  ⟨0, 1, false, op, 0, 0, 0, 0, 64, 0, args, [], 0, 0, false, .running, true, 0, 0, 0, [], ⟨0, 0, 0⟩, 0, 0, false⟩

/-- A state with a command in flight and on SC0. -/
def onSc0 (c : Cmd) (s : State) : State := s.setMbx { s.mbx with cmds := [c], cur := some c.id }

/-- Reset in Run with power good. -/
def inRun : State := (({ State.reset with pwr := { State.reset.pwr with good := true } } : State).put fPWR_STATE 1).put fPWR_PHASE 6

theorem test_inRun : inRun.spi.mode = false ∧ inRun.hostValid = true ∧ inRun.sc0Runs = true ∧ inRun.sc0Up = true ∧ inRun.pstate = 1
    ∧ inRun.midnight = false ∧ inRun.elevated 0 = false ∧ inRun.elevated 1 = false ∧ (inRun.elevate 0).elevated 0 = true
    ∧ (inRun.elevate 8).elevated 8 = true ∧ State.reset.hostValid = false ∧ (inRun.put fNW_MN_CAUSE 4).midnight = true
    ∧ (inRun.put fNW_MN_CAUSE 4).hostValid = true := by decide

theorem test_witness_qspiWrites :
    0x100000 ≤ (0x100000 : BitVec 24).toNat ∧ (0xFFFFF : BitVec 24).toNat % 4 ≠ 0
    ∧ (0x1FFFC : BitVec 24).toNat % 4 = 0 ∧ (0x1FFFC : BitVec 24).toNat + 4 * [(1 : BitVec 32)].length ≤ 0x20000
    ∧ (0x01FFC : BitVec 24).toNat % 4 = 0 ∧ (0x01FFC : BitVec 24).toNat + 4 * [(1 : BitVec 32)].length ≤ 0x02000
    ∧ 0x80000 ≤ (0xFFFFC : BitVec 24).toNat ∧ (0xFFFFC : BitVec 24).toNat < 0x100000
    ∧ (0x227FC : BitVec 24).toNat % 4 = 0 ∧ (0x227FC : BitVec 24).toNat + 4 * [(1 : BitVec 32)].length ≤ 0x22800 := by decide

theorem test_witness_qspiReads :
    ({ inRun with spi := { inRun.spi with mode := true } } : State).spi.mode = true ∧ State.reset.spi.mode = false
    ∧ (0x1FFFC : BitVec 24).toNat + 4 * 1 ≤ 0x20000 ∧ (0x22800 : BitVec 24).toNat + 4 * 0 ≤ 0x22800 := by decide

theorem test_witness_memoryWindow :
    (let k := inRun.copyOf 0
     let s := inRun.setCopy 0 { k with page := 239, fetch := [(64, false), (128, true)], lines := [⟨0x3BFFFC0, List.replicate 64 1⟩] }
     let d := (s.copyOf 0).page * 0x40000 + (0x7FFFC - 0x40000)
     (s.copyOf 0).fetch = (64, false) :: [(128, true)] ∧ 64 % 64 = 0 ∧ (s.copyOf 0).lines.length ≤ 4 ∧ (∀ l ∈ (s.copyOf 0).lines, l.addr ≠ 64)
       ∧ s.spi.mode = false ∧ s.hostValid = true ∧ d < 0x3C00000
       ∧ ((s.copyOf 0).lines.find? fun l => l.addr == d / 64 * 64) = some ⟨0x3BFFFC0, List.replicate 64 1⟩
       ∧ (∀ l ∈ k.lines, l.addr ≠ d / 64 * 64) ∧ k.fetch = []
       ∧ (s.setCopy 0 { k with fetch := [(128, true)] }).copyOf 0 = { k with fetch := (128, true) :: [] }
       ∧ 0x3C00000 ≤ 240 * 0x40000 ∧ 240 * 0x40000 < 0x3FF0000) := by decide

theorem test_witness_hostRegisterWrites :
    isConfig 0x11000 = true ∧ 0x10000 ≤ 0x11000 ∧ 0x11000 < 0x20000 ∧ (0x11000 : BitVec 20).toNat % 4 = 0
    ∧ (0x00001 : BitVec 20).toNat % 4 ≠ 0 ∧ (0x1FFFC : BitVec 20).toNat < 0x20000 ∧ (0x80000 : BitVec 20).toNat = 0x80000
    ∧ (aSAFE_SWSTOP = (0x1D004 : BitVec 20).toNat ∧ aLOOP_SWAP = (0x18000 : BitVec 20).toNat) ∧ inRun.elevated 8 = false := by decide

theorem test_witness_queuePointers :
    (let s := inRun.wr aMBX_SQU_TAIL 2
     s.flag fMBX_RESETTING = false ∧ (32 + 65536 - 0) % 65536 ≤ 32 ∧ (s.rd aMBX_SQU_TAIL).toNat % 65536 = 2
       ∧ 32 < (33 + 65536 - 0) % 65536 ∧ (1 + 65536 - 0) % 65536 < (2 + 65536 - 0) % 65536 ∧ s.sc0Up = true
       ∧ (s.rd aMBX_SQU_HEAD).toNat % 65536 ≠ (s.rd aMBX_SQU_TAIL).toNat % 65536 ∧ s.mbx.cmds = []
       ∧ (let z := onSc0 { cmdOf 0 [] with ctx := 0 } s
          ∃ x ∈ z.mbx.cmds, x.ctx = 0 ∧ x.counts = true ∧ x.tag = 0 ∧ x.phase ≠ .done ∧ ¬ (x.phase = .done ∧ bitOf x.cflags 2 = true))
       ∧ bitOf ({ cmdOf 0 [] with cflags := 4 } : Cmd).cflags 2 = true
       ∧ (parseDesc 0 0 true (s.ramRead 0x22000 64) [] 0 0).tag = 0)
    ∧ (inRun.putFlag fMBX_RESETTING true).flag fMBX_RESETTING = true ∧ inRun.mbx.cmds = []
    ∧ (0x1A5 : BitVec 32).toNat % 256 = 0xA5 := by decide

theorem test_witness_commandScheduled :
    (let c := { cmdOf 1 [5] with phase := .waiting, ctx := 8 }
     let u := { c with urgent := true, id := 1 }
     let s := inRun.setMbx { inRun.mbx with cmds := [c, u] }
     s.sc0Runs = true ∧ (∀ c ∈ s.mbx.cmds, c.ctx < 9) ∧ s.mbx.lastU < 9 ∧ s.mbx.lastN < 9
       ∧ u ∈ s.mbx.cmds ∧ s.mayRun u = true
       ∧ (let t := inRun.setMbx { inRun.mbx with cmds := [c] }
          t.mayRun c = true ∧ ∀ d ∈ t.mbx.cmds, d.urgent = false)) ∧ inRun.mbx.cmds = [] ∧ State.reset.sc0Runs = false := by decide

theorem test_witness_completionPosted :
    (let c := { cmdOf 1 [5] with phase := .done, ctx := 0, pbuf := 63, out := [1, 2] }
     let s := inRun.setMbx { inRun.mbx with cmds := [{ c with phase := .waiting }, c] }
     s.sc0Runs = true ∧ s.mbx.cmds = [{ c with phase := .waiting }] ++ c :: [] ∧ c.phase = .done ∧ s.cqFull = false
       ∧ s.flag fMBX_RESETTING = false ∧ c.taint = false ∧ c.pbuf < 64 ∧ c.out.length ≤ 1024 ∧ s.inDusk = false
       ∧ (s.putFlag fMBX_RESETTING true).flag fMBX_RESETTING = true)
    ∧ (let s := inRun.setRingCtx 8 ⟨true, 5, 0, some 7, [(7, none)]⟩
       (s.ringCtx 8).used = true ∧ (7, none) ∈ (s.ringCtx 8).store ∧ (cmdOf 1 []).gone = false ∧ ({ cmdOf 1 [] with gone := true } : Cmd).gone = true) := by decide

theorem test_witness_commandChecks :
    (let at_ := fun (c : Cmd) => onSc0 c inRun
     let d := cmdOf 0x10 []
     (at_ d).curCmd = some d ∧ d.pos = 0 ∧ ({ d with ctx := 0, pbuf := 64 } : Cmd).pbuf > 63 ∧ inRun.curCmd = none
       ∧ 1024 < ({ d with plen := 1025 } : Cmd).plen
       ∧ (({ d with flags := 4, pcrc := 1 } : Cmd).pcrcEn = true ∧ crc32 ({ d with flags := 4, pcrc := 1 } : Cmd).data ≠ 1)
       ∧ (inRun.put fNW_MN_CAUSE 4).midnight = true ∧ 0x30 ∉ [0x01, 0x10, 0x22, 0x50]
       ∧ ((State.reset.put fPWR_HOLD 1).pstate = 0 ∧ (State.reset.put fPWR_HOLD 1).get fPWR_HOLD = 1) ∧ 0x30 ∉ [0x01, 0x10, 0x62, 0x63, 0x20, 0x21]
       ∧ ({ cmdOf 0x40 [] with priv := false } : Cmd).priv = false
       ∧ ({ inRun with pwr := { inRun.pwr with pfw := true } } : State).pwr.pfw = true) := by decide

theorem test_witness_plainAndCaptureOpcodes :
    (onSc0 (cmdOf 0x01 [7]) inRun).Runs (cmdOf 0x01 [7]) 0x01 ∧ (onSc0 (cmdOf 0x22 []) inRun).Runs (cmdOf 0x22 []) 0x22
    ∧ ((onSc0 (cmdOf 0xFF []) inRun).vet (cmdOf 0xFF []) = none ∧ opListed 0xFF = false)
    ∧ (onSc0 (cmdOf 0x30 [96]) inRun).Runs (cmdOf 0x30 [96]) 0x30 ∧ (onSc0 (cmdOf 0x30 [95, 5]) inRun).Runs (cmdOf 0x30 [95, 5]) 0x30
    ∧ (onSc0 (cmdOf 0x70 []) inRun).Runs (cmdOf 0x70 []) 0x70 ∧ (inRun.put fTIME_STATE 2).get fTIME_STATE = 2 ∧ inRun.get fTIME_STATE ≠ 2
    ∧ ((inRun.put fTIME_STATE 4).put fTIME_CAUSE 1).get fTIME_CAUSE = 1 ∧ inRun.get fTIME_STATE ≠ 4
    ∧ (onSc0 (cmdOf 0x51 [4]) inRun).Runs (cmdOf 0x51 [4]) 0x51 ∧ inRun.bist.cur ≠ some 0x21 ∧ inRun.flag fNW_SC1_LOST = false
    ∧ (onSc0 (cmdOf 0x51 [4]) inRun).heldByOther (cmdOf 0x51 [4]) = false
    ∧ (let c := { cmdOf 0x51 [4] with id := 1, started := 1 }
       let s := inRun.setMbx { inRun.mbx with cmds := [{ cmdOf 0x51 [4] with ctx := 2 }, c], cur := some 1 }
       s.Runs c 0x51 ∧ s.heldByOther c = true)
    ∧ (inRun.putFlag fNW_SC1_LOST true).flag fNW_SC1_LOST = true ∧ (onSc0 (cmdOf 0x51 [15]) inRun).Runs (cmdOf 0x51 [15]) 0x51
    ∧ ({ inRun with bist := { inRun.bist with cur := some 0x21 } } : State).bist.cur = some 0x21 ∧ (inRun.put fCAP_STATE 3).get fCAP_STATE = 3 := by decide

theorem test_witness_registerCommands :
    (∀ a ∈ [[0x22800 - 1024, 256], [0x20001, 1], [0x1F000, 1], [aDEV_ID, 1], [aEVT_HEAD, 1], [0x7FFFC, 1], [0x7FFFC, 2], [0x20000, 0]],
      (onSc0 (cmdOf 0x10 a) inRun).Runs (cmdOf 0x10 a) 0x10)
    ∧ (onSc0 { cmdOf 0x10 [0x1F000, 1] with priv := false } inRun).Runs { cmdOf 0x10 [0x1F000, 1] with priv := false } 0x10
    ∧ (∀ a ∈ [[0x01FFC, 1, 5], [0x3FFFC, 2], [0x1F000, 1, 5]], (onSc0 (cmdOf 0x11 a) inRun).Runs (cmdOf 0x11 a) 0x11)
    ∧ (let s := onSc0 (cmdOf 0x10 [0x01000, 1]) ((({ State.reset with pwr := { State.reset.pwr with good := true } } : State).put fPWR_PHASE 3).put fPWR_HOLD 1)
       s.Runs (cmdOf 0x10 [0x01000, 1]) 0x10 ∧ s.pstate = 0 ∧ s.get fPWR_HOLD = 1)
    ∧ (let c := { cmdOf 0x10 [0x20000, 256] with pos := 255 }
       (onSc0 c inRun).Runs c 0x10 ∧ c.pos < c.arg 1 ∧ c.arg 1 = c.pos + 1 ∧ (cmdOf 0x10 [0x20000, 256]).pos + 1 < 256)
    ∧ (inRun.copyOf 1).page * 0x40000 + (0x7FFFC - 0x40000) < 0x3C00000 ∧ inRun.lineOf 1 0x3FFFC = none := by decide

theorem test_witness_logReads :
    (∀ a ∈ [[4], [1], [2, 0x8000], [2, 0x7FFC], [3, 0, 0, 56], [3, 0, 0, 55], [3, 2, 0, 0], [0, 5]], (onSc0 (cmdOf 0x50 a) inRun).Runs (cmdOf 0x50 a) 0x50)
    ∧ inRun.get fLIFE_SNAPS ≤ 55 ∧ 55 < (inRun.put fLIFE_SNAPS 56).get fLIFE_SNAPS ∧ seqNewer (inRun.rd aEVT_HEAD).toNat 5 = false
    ∧ seqNewer ((inRun.wr aEVT_HEAD 6).rd aEVT_HEAD).toNat 5 = true ∧ (cmdOf 0x50 [0, 5]).rlen / 64 = 1 := by decide

theorem test_witness_elevatePassword :
    (let s := onSc0 (cmdOf 0x60 [1, 2, 3]) (inRun.putFlag fSEC_RING_PW true)
     s.Runs (cmdOf 0x60 [1, 2, 3]) 0x60 ∧ s.bist.cur ≠ some 0x20 ∧ s.sec.failed = false ∧ s.flag fSEC_RING_PW = true ∧ s.lockedOut = false
       ∧ s.sec.record = none ∧ (s.setSec { s.sec with record := some [] }).sec.record ≠ none) := by decide

theorem test_witness_elevatePassword_accepted :
    ({ inRun.sec with record := some (hmac Config.kPw (leBytes 4 2 ++ leBytes 4 3)) } : Sec).record
      = some (hmac Config.kPw (leBytes 4 ((cmdOf 0x60 [1, 2, 3]).arg 1) ++ leBytes 4 ((cmdOf 0x60 [1, 2, 3]).arg 2))) := rfl

theorem test_witness_elevationEnds :
    (onSc0 (cmdOf 0x61 [0]) inRun).Runs (cmdOf 0x61 [0]) 0x61 ∧ (onSc0 (cmdOf 0x61 [1]) inRun).Runs (cmdOf 0x61 [1]) 0x61
    ∧ (onSc0 (cmdOf 0x61 [1]) (inRun.elevate 1)).elevated 1 = true
    ∧ ((inRun.elevate 9).put fSEC_ELEV_TMO 0).elevated 9 = true ∧ tabGet (fun _ => 0) (inRun.elevate 9).sec.used 9 + 0 ≤ inRun.nw.tick
    ∧ inRun.nonceLive 8 = true ∧ (inRun.setNw { inRun.nw with tick := 60 * tps }).nonceLive 8 = false
    ∧ inRun.elevated 0 = false ∧ (inRun.setSec { inRun.sec with lockEnd := 1 }).lockedOut = true ∧ inRun.lockedOut = false
    ∧ ({ inRun.sec with fieldLock := true } : Sec).fieldLock = true ∧ inRun.sec.fieldLock = false ∧ inRun.sec.dbg = false := by decide

theorem test_witness_challengeResponse :
    (∀ a ∈ [[1], [2], [0]], (onSc0 (cmdOf 0x62 a) inRun).Runs (cmdOf 0x62 a) 0x62 ∧ (onSc0 (cmdOf 0x63 a) inRun).Runs (cmdOf 0x63 a) 0x63
      ∧ (onSc0 (cmdOf 0x60 a) inRun).Runs (cmdOf 0x60 a) 0x60)
    ∧ inRun.bist.cur ≠ some 0x20 ∧ inRun.sec.failed = false ∧ inRun.flag fSEC_RING_PW = false
    ∧ ({ inRun with bist := { inRun.bist with cur := some 0x20 } } : State).bist.cur = some 0x20 ∧ ({ inRun.sec with failed := true } : Sec).failed = true
    ∧ (inRun.setSec { inRun.sec with nonces := [(1, (1, List.replicate 32 0))] }).nonce 1 = some (1, List.replicate 32 0) ∧ inRun.nonce 1 = none
    ∧ ((inRun.setSec { inRun.sec with nonces := [(1, (1, List.replicate 32 0))] }).setNw { inRun.nw with tick := 60 * tps }).nonce 1 = none := by decide

theorem test_witness_privilegedKeys :
    (inRun.elevate 8).elevated 8 = true ∧ inRun.elevated 8 = false ∧ inRun.elevated 0 = false
    ∧ (let b := leBytes 4 inRun.sec.pw0 ++ leBytes 4 inRun.sec.pw1
       b = List.replicate 8 (b.headD 0))
    ∧ (let b := leBytes 4 1 ++ leBytes 4 inRun.sec.pw1
       b ≠ List.replicate 8 (b.headD 0))
    ∧ (let s := (inRun.setSec { inRun.sec with image := some [] }).setFwSlot inRun.sec.running ⟨[], true, inRun.sec.ctr + 1, true⟩
       s.sec.image ≠ none ∧ s.sec.ctr < (s.fwSlot s.sec.running).svn)
    ∧ (let s := inRun.setFwSlot inRun.sec.running ⟨[], true, 0, true⟩
       (s.fwSlot s.sec.running).svn ≤ s.sec.ctr) ∧ inRun.sec.image = none ∧ inRun.sec.fieldLock = false
    ∧ inRun.pstate = 1 ∧ (inRun.put fPWR_STATE 3).pstate = 3 := by decide

/-- A smallest image: a header and one section without runs, its CRC in place. -/
def image (flags id : Nat) : List Byte :=
  let head := fun (crc : List Byte) => leBytes 4 0x46434858 ++ leBytes 2 1 ++ leBytes 2 0x6128 ++ leBytes 1 0 ++ leBytes 1 flags ++ leBytes 1 1
    ++ leBytes 1 0 ++ leBytes 4 80 ++ crc ++ List.replicate 44 0
  let body := leBytes 1 id ++ List.replicate 15 0
  head (leBytes 4 (crc32 (head (leBytes 4 0) ++ body))) ++ body

/-- A state with an image staged by context 1 and CFG_COMMIT on SC0. -/
def withImage (img : List Byte) : State :=
  onSc0 (cmdOf 0x21 []) (inRun.setCfg { inRun.cfg with bytes := img, total := 80, owner := some 1 })

theorem test_witness_configurationCommands_stage :
    (let c := fun (n : Nat) (b : List Byte) => ({ cmdOf 0x20 [] with plen := n, data := b } : Cmd)
     let s := fun (x : Cmd) => onSc0 x inRun
     let first := leBytes 4 0 ++ leBytes 4 80 ++ [1, 2, 3, 4]
     (s (c 12 first)).Runs (c 12 first) 0x20 ∧ (s (c 8 first)).Runs (c 8 first) 0x20 ∧ first.length = 12 ∧ (s (c 12 first)).cfg.owner = none
       ∧ (inRun.setCfg { inRun.cfg with owner := some 2, touched := 1 }).cfg.owner = some 2 ∧ ¬ 1 + 60 * tps ≤ inRun.nw.tick
       ∧ ofLeBytes ((first.drop 4).take 4) = 80 ∧ 2097152 < 2097153
       ∧ (inRun.setCfg { inRun.cfg with owner := some 1, total := 80, bytes := [1, 2, 3, 4] }).cfg.bytes.length = 4) := by decide

theorem test_witness_configurationCommands_commit :
    (let s := withImage (image 0 1)
     s.Runs (cmdOf 0x21 []) 0x21 ∧ s.bist.active = false ∧ s.cfg.owner = some (cmdOf 0x21 []).ctx ∧ s.pstate ≠ 0
       ∧ inRun.cfg.bytes.length < 64 ∧ s.cfg.total = 80) := by decide

theorem test_witness_configurationCommands_header :
    (let img := image 0 1
     img.length = 80 ∧ ofLeBytes ((img.drop 12).take 4) = 80 ∧ ofLeBytes ((img.drop 9).take 1) % 2 = 0)
    ∧ ofLeBytes (((image 1 1).drop 9).take 1) % 2 = 1 := by decide

set_option maxRecDepth 200000 in
theorem test_witness_configurationCommands_crc :
    (let img := image 0 1
     crc32 (img.take 16 ++ List.replicate 4 0 ++ img.drop 20) = ofLeBytes ((img.drop 16).take 4)) := rfl

theorem test_witness_configurationCommands_parse : parseImage (image 0 1) = .ok [⟨1, [], []⟩] := rfl

theorem test_witness_configurationCommands_parse_check : parseImage (image 1 1) = .ok [⟨1, [], []⟩] := rfl

theorem test_witness_configurationCommands_parse_error : parseImage (image 0 0) = .error 64 := rfl

theorem test_witness_configurationCommands_activation :
    inRun.cfg.wait = none ∧ inRun.midnight = false ∧ inRun.periodBegins = true ∧ inRun.untaken periodKey = true ∧ (atTick inRun 1).periodBegins = false
    ∧ inRun.flag fNW_SC0_LOST = false ∧ inRun.pwr.good = true
    ∧ (let w : CfgWait := ⟨[], 1, 5, 1, 0, 0, false, ⟨[], 0, [], 0, 0⟩, [], false⟩
       w.done = false ∧ ({ w with done := true } : CfgWait).done = true ∧ (inRun.setCfg { inRun.cfg with wait := some w }).cfg.wait = some w) := by decide

theorem test_witness_selfTestBlocks :
    (onSc0 (cmdOf 0x40 [1, 2, 3]) inRun).Runs (cmdOf 0x40 [1, 2, 3]) 0x40 ∧ (onSc0 (cmdOf 0x40 [0, 4]) inRun).Runs (cmdOf 0x40 [0, 4]) 0x40
    ∧ inRun.bist.active = false ∧ bitOf 1 0 = true
    ∧ (let s : State := { inRun with bist := { inRun.bist with active := true, left := [0x1A] } }
       s.bist.active = true ∧ s.bist.cur = none ∧ s.bist.left = 0x1A :: [] ∧ s.pstate = 1 ∧ s.bistPrecond 0x1A true ≠ 0
         ∧ (s.put fPWR_STATE 3).pstate ≠ 1)
    ∧ (let s : State := { inRun with bist := { inRun.bist with active := true, cur := some 0x1A } }
       s.bist.cur = some 0x1A ∧ 0x1A ∉ s.bist.left ∧ s.bist.regions < bistRegions 0x1A)
    ∧ bistRegions 0x1A ≤ ({ inRun.bist with cur := some 0x1A, regions := bistRegions 0x1A } : Bist).regions
    ∧ (let s : State := { inRun with bist := { inRun.bist with active := true, cur := some 0x19, slices := 40, slice := true, cuts := 2 } }
       s.bist.cur = some 0x19 ∧ s.bist.slices ≠ 0 ∧ s.bist.slice = true ∧ s.rule.running = false ∧ s.bist.sliceAt ≤ s.rule.start
         ∧ (atTick s 5250).ruleTick 5250 = true ∧ s.ruleTick 5250 = false
         ∧ s.rule.start + s.rulePeriod = (atTick s (s.rulePeriod - 500)).grid.tick + 500
         ∧ ¬ s.rule.start + s.rulePeriod ≤ s.grid.tick + 500) ∧ inRun.elevated 8 = false := by decide

theorem test_witness_selfTestBlocks_start : ∃ s : State, s.bist.active = true ∧ s.bist.cur = none ∧ s.bist.left = 0x1A :: []
    ∧ s.bistPrecond 0x1A false = 0 :=
  ⟨{ inRun.putFlag fGRID_SRC false with bist := { inRun.bist with active := true, left := [0x1A] } }, by decide⟩

theorem test_witness_trimReload :
    (onSc0 (cmdOf 0x41 [0x8000]) inRun).Runs (cmdOf 0x41 [0x8000]) 0x41 ∧ (onSc0 (cmdOf 0x41 [0]) inRun).Runs (cmdOf 0x41 [0]) 0x41
    ∧ inRun.reloadBlocked 0x8000 = [] ∧ inRun.adc.reload = none ∧ inRun.convOut (partner inRun.boostConv) = false
    ∧ (let s : State := { inRun with bist := { inRun.bist with active := true, cur := some 15 } }
       s.reloadBlocked 0x8000 ≠ [])
    ∧ (let s := atTick (inRun.setConv 15 { inRun.conv 15 with reload := 2 }) 1000
       let t : State := { s with adc := { s.adc with reload := some ⟨0, 0x8001, 0, 0⟩ } }
       let v : State := { s with adc := { s.adc with reload := some ⟨0, 2 ^ 15, 0, 0⟩ } }
       (t.conv 15).reload = 2 ∧ t.grid.tick = (t.conv 15).reloadAt + 1000 ∧ (atTick t 999).grid.tick ≠ (t.conv 15).reloadAt + 1000 ∧ t.adc.reload = some ⟨0, 0x8001, 0, 0⟩ ∧ bitOf 0x8001 15 = true ∧ v.adc.reload = some ⟨0, 2 ^ 15, 0, 0⟩)
    ∧ (inRun.conv 0).reload ≠ 2 := by decide

theorem test_witness_trimReload_shut : ∃ s : State, bitOf 0xC000 s.boostConv = true ∧ s.convOut (partner s.boostConv) = true :=
  ⟨inRun.putFlag (State.fADC_FAULT 14) true, by decide⟩

theorem test_witness_ringContexts :
    (let s := (inRun.putFlag fRING_CYHAR_EN true).setRingCtx 8 ⟨true, 5, 0, some 7, [(7, none)]⟩
     let z := fun (n : Nat) => (0x10 : Byte) :: (List.replicate n 0)
     s.sc0Up = true ∧ s.cyharOn = true ∧ ¬ (s.pstate = 0 ∧ s.get fPWR_HOLD = 1) ∧ s.findCtx 5 = some 8 ∧ (z 62).length < 64 ∧ 64 ≤ (z 63).length
       ∧ ((s.ringCtx 8).store.find? fun e => e.1 == 7) = some (7, none) ∧ ((s.ringCtx 8).store.find? fun e => e.1 == 6) = none
       ∧ seqNewer 6 7 = false ∧ ((s.ringCtx 8).store.find? fun e => e.1 == 8) = none ∧ seqNewer 8 7 = true
       ∧ (parseDesc 0 8 false ((z 63).take 64) [] 8 0).plen + 64 = (z 63).length ∧ (parseDesc 0 8 false ((z 64).take 64) [] 8 0).plen + 64 ≠ (z 64).length
       ∧ s.inflightCnt 8 = 0 ∧ s.mbx.cmds = [] ∧ s.findCtx 6 = none ∧ s.freeCtx = some 1 ∧ inRun.cyharOn = false)
    ∧ (let s := (List.range 32).foldl (fun s i => s.addCmd { cmdOf 1 [] with id := i, ctx := 8, tag := i }) inRun
       s.inflightCnt 8 = 32)
    ∧ (let s := (List.range 8).foldl (fun s i => s.setRingCtx (i + 1) ⟨true, i, 0, none, []⟩) inRun
       s.freeCtx = none ∧ s.takeoverCtx = none ∧ s.findCtx 9 = none)
    ∧ (let s := inRun.putFlag (fRP_SF 1) true
       let f := s.ownFrame 2 3 []
       let t := atTick (s.setEgress 1 { s.egress 1 with loc := [f] }) 2500000
       let k := atTick (s.setEgress 1 { s.egress 1 with kept := [f] }) 2500000
       s.shut 1 = true ∧ (t.egress 1).loc.find? t.replyOld = some f ∧ (s.egress 1).loc.find? s.replyOld = none
         ∧ (s.egress 1).kept.find? s.replyOld = none ∧ (k.egress 1).loc.find? k.replyOld = none ∧ (k.egress 1).kept.find? k.replyOld = some f)
    ∧ (let s := (inRun.setNw { inRun.nw with tick := 60 * tps }).setRingCtx 8 ⟨true, 5, 0, none, []⟩
       (s.ringCtx 8).used = true ∧ (s.ringCtx 8).last + 60 * tps ≤ s.nw.tick ∧ (s.ringCtx 7).used = false) := by decide

theorem test_witness_ringContexts_open : ∃ s : State, s.shut 1 = false :=
  ⟨(inRun.putFlag (fRP_SF 1) false).put fRING_ERPS 1, by decide⟩

theorem test_witness_spiStatusByte :
    (let s : State := { inRun with spi := { inRun.spi with mode := true } }
     s.spi.mode = true ∧ s.pwr.good = true ∧ 2 ≤ s.get fPWR_PHASE ∧ s.link.lost = false)
    ∧ ¬ (State.reset.pwr.good = true) ∧ (0x80 : BitVec 8).toNat = 128 := by decide

theorem test_witness_spiFaultClear :
    (let s := ({ inRun with spi := { inRun.spi with mode := true } } : State).elevate 9
     s.spi.mode = true ∧ s.hostValid = true ∧ s.elevated 9 = true) ∧ inRun.elevated 9 = false
    ∧ (0x7F1F : BitVec 16).getLsbD 15 = false ∧ (0xFF00 : BitVec 16).getLsbD 15 = true ∧ (0x7F1F : BitVec 16).toNat % 32 = 31 := by decide

theorem test_witness_stepKeepsStores : step State.reset = .next (tick State.reset) := rfl

end Sys2Proof.Tests
end

section
/-! ELEVATE PASSWORD (R335, R336, R339): the command that ends on SC0, the effect of a counted failure and of a success on the
credentials, and the settlement of O49. -/

namespace Sys2Proof.Machine

-- The command on SC0

theorem State.cur_of_curCmd {s : State} {c : Cmd} (h : s.curCmd = some c) : s.mbx.cur = some c.id := by
  unfold State.curCmd at h
  split at h
  case h_1 id hcur =>
    have hid := List.find?_some h
    simp only [Bool.and_eq_true, beq_iff_eq] at hid
    rw [hcur, hid.1]
  case h_2 => cases h

/-- A meaning applies to the command on SC0 when the opcode is its own and nothing stands against it (R318). -/
theorem State.onCmd_of_runs {s : State} {c : Cmd} {op : Nat} (h : s.Runs c op) (f : Cmd → State) :
    s.onCmd (fun x => x.op == op) f = f c := by
  obtain ⟨hcur, hop, hvet⟩ := h
  simp [State.onCmd, hcur, hop, hvet]

/-- Ending the command on SC0 is the same after work that left the mailbox alone (R316). -/
theorem State.finishCmd_ended {s t : State} {c : Cmd} (hcur : s.curCmd = some c) (hmbx : t.mbx = s.mbx) (st r0 : Nat)
    (out : List Byte) : Ended s (t.finishCmd c.id st r0 out) c st r0 out := by
  simp [Ended, State.finishCmd, State.updCmd, hmbx, State.cur_of_curCmd hcur]

/-- Ending a command adds the mailbox to what its work wrote. -/
theorem State.finishCmd_only {T U : List Comp} {s t : State} (h : Kept T s t) (hT : T ⊆ U) (hmbx : .mbx ∈ U) (id st r0 : Nat)
    (out : List Byte) : Only U s (t.finishCmd id st r0 out) := by
  have hend := State.finishCmd_kept (List.Subset.refl _) id st r0 out (Kept.refl t)
  refine ⟨hend.queue.trans h.queue, fun c hc => (h.same c (mt (@hT c) hc)).trans (hend.same c ?_)⟩
  intro hm
  rw [List.mem_singleton.mp hm] at hc
  exact hc hmbx

-- Elevation and the failure counter

theorem State.elevate_elevated (s : State) (c d : Nat) : (s.elevate c).elevated d = (s.elevated d || d == c) := by
  have htouch (t : State) : (t.touch c).elevated d = t.elevated d := by
    unfold State.touch; split <;> rfl
  rw [State.elevate, htouch]
  by_cases h : d = c
  · subst h; simp [State.elevated]
  · simp [State.elevated, tabGet_set_other _ _ _ h, h]

theorem State.elevate_used (s : State) (c : Nat) : tabGet (fun _ => 0) (s.elevate c).sec.used c = s.nw.tick := by
  simp [State.elevate, State.touch, State.elevated]

theorem State.elevate_fails (s : State) (c : Nat) : (s.elevate c).sec.fails = s.sec.fails := by
  simp [State.elevate, State.touch, State.elevated]

/-- A failure moves the counter and the lockout's end and nothing else of the credentials: the flash bus and the log leave them
alone (R339). -/
theorem State.credFail_sec (s : State) (c method : Nat) :
    (s.credFail c method).sec = { s.sec with
      fails := s.sec.fails + 1
      lockEnd := if lockout (s.sec.fails + 1) = 0 then s.sec.lockEnd else s.nw.tick + lockout (s.sec.fails + 1) * tps } :=
  (State.logFw_kept (T := [.regs, .evt]) (List.Subset.refl _) _ _ _ _ (Kept.refl _)).same .sec (by decide)

theorem State.credFail_elevated (s : State) (c method d : Nat) : (s.credFail c method).elevated d = s.elevated d := by
  unfold State.elevated
  rw [State.credFail_sec]

-- ELEVATE PASSWORD

/-- The eight bytes that ELEVATE PASSWORD supplies (R336). -/
def Cmd.password (c : Cmd) : List Byte := leBytes 4 (c.arg 1) ++ leBytes 4 (c.arg 2)

/-- Past the checks of SEC, METHOD, ring and lockout, ELEVATE is decided by the stored record alone (R335). -/
theorem State.elevateCmd_of_open {s : State} {c : Cmd} (hmethod : c.arg 0 % 256 = 1) (htest : s.bist.cur ≠ some 0x20)
    (hfailed : s.sec.failed = false) (hring : c.ctx = 0 ∨ s.flag fSEC_RING_PW = true) (hlock : s.lockedOut = false) :
    s.elevateCmd c =
      if s.sec.record = none then s.finishCmd c.id stDENIED 0 []
      else if s.sec.record = some (hmac Config.kPw c.password) then (s.credGood.elevate c.ctx).finishCmd c.id stOK 0 []
      else (s.credFail c.ctx 1).finishCmd c.id stDENIED 0 [] := by
  have hsec : s.secOut = none := by simp [State.secOut, State.underTest, bkSEC, htest, hfailed]
  have hring' : ¬ (c.ctx ≠ 0 ∧ (!s.flag fSEC_RING_PW) = true) := by
    rintro ⟨hctx, hpw⟩
    rcases hring with h | h
    · exact hctx h
    · simp [h] at hpw
  rw [State.elevateCmd, hsec]
  simp only [hmethod, hring', hlock, ne_eq, not_true_eq_false, if_false, Bool.false_eq_true, Option.isNone_iff_eq_none]
  by_cases hmatch : s.sec.record = some (hmac Config.kPw c.password)
  · simp [hmatch, State.pwCheck, State.pwMatch, Cmd.password]
  · have hno : s.pwMatch c.password = false := by simpa [State.pwMatch] using hmatch
    rw [Cmd.password] at hno
    simp [hmatch, State.pwCheck, hno]

/-- Settles O49: with nothing against the command the stored record alone decides, so each case is one branch of
`State.elevateCmd_of_open`, and ending the command leaves the credentials as that branch left them. -/
theorem elevatePassword : Obligations.ElevatePassword := by
  intro s c _ _ hruns hmethod htest hfailed hring hlock
  have hcur : s.curCmd = some c := hruns.1
  have hexec : exec .elevate s = .next (s.elevateCmd c) := congrArg _ (State.onCmd_of_runs hruns s.elevateCmd)
  rw [State.elevateCmd_of_open hmethod htest hfailed hring hlock] at hexec
  refine ⟨fun hnone => ?_, fun (hmatch : s.sec.record = some (hmac Config.kPw c.password)) => ?_,
    fun hset (hno : s.sec.record ≠ some (hmac Config.kPw c.password)) => ?_⟩
  case refine_1 =>
    rw [if_pos hnone] at hexec
    exact ⟨_, hexec, State.finishCmd_ended hcur rfl _ _ _, rfl,
      State.finishCmd_only (Kept.refl (T := []) s) (List.nil_subset _) (by decide) _ _ _ _⟩
  case refine_2 =>
    have hkept : Kept [.sec, .fspi] s (s.credGood.elevate c.ctx) :=
      State.elevate_kept (by decide) _ (State.credGood_kept (by decide) (Kept.refl s))
    rw [if_neg (by simp [hmatch]), if_pos hmatch] at hexec
    exact ⟨_, hexec, State.finishCmd_ended hcur (hkept.same .mbx (by decide)) _ _ _,
      State.elevate_elevated s.credGood c.ctx, State.elevate_used s.credGood c.ctx, State.elevate_fails s.credGood c.ctx,
      State.finishCmd_only hkept (by decide) (by decide) _ _ _ _⟩
  case refine_3 =>
    have hkept : Kept [.regs, .evt, .sec, .fspi] s (s.credFail c.ctx 1) :=
      State.credFail_kept (by decide) _ _ (Kept.refl s)
    have hregs : Wr [(aDEV_NW_STAT, 0), (aEVT_DROP, 0)] s ((s.credFail c.ctx 1).finishCmd c.id stDENIED 0 []) :=
      State.finishCmd_wr (by decide) _ _ _ _ (State.credFail_wr (by decide) _ _ (Wr.refl s))
    rw [if_neg hset, if_neg hno] at hexec
    exact ⟨_, hexec, State.finishCmd_ended hcur (hkept.same .mbx (by decide)) _ _ _, State.credFail_elevated s c.ctx 1,
      congrArg Sec.fails (State.credFail_sec s c.ctx 1), State.finishCmd_only hkept (by decide) (by decide) _ _ _ _, hregs.eq⟩

end Sys2Proof.Machine
end

section
/-! MODE_3032 FRAMES (R448, R449) AND FLTCLR (R132, R454, R456): what a frame drives and what it leaves alone while VALID is 0,
the supervision words under the clearing of latches, and the settlement of O57 and O58. -/

namespace Sys2Proof.Machine

-- The status byte

/-- The flags of a status byte stand each in its own bit (R449). -/
theorem statusByte_bits (valid err unlocked fault ready : Bool) :
    let b : Byte := BitVec.ofNat 8 (128 * boolNat valid + 64 * boolNat err + 32 * boolNat unlocked + 16 * boolNat fault
      + 8 * boolNat ready)
    b.getLsbD 7 = valid ∧ b.getLsbD 6 = err ∧ b.getLsbD 5 = unlocked ∧ b.getLsbD 4 = fault ∧ b.getLsbD 3 = ready
      ∧ b.toNat % 8 = 0 := by
  revert valid err unlocked fault ready
  decide

theorem State.spiStatus_bits (s : State) :
    s.spiStatus.getLsbD 7 = s.hostValid ∧ s.spiStatus.getLsbD 6 = s.spi.err ∧ s.spiStatus.getLsbD 5 = s.elevated 9
      ∧ s.spiStatus.getLsbD 4 = !s.faultN ∧ s.spiStatus.getLsbD 3 = s.pins.aspectReady ∧ s.spiStatus.toNat % 8 = 0 :=
  statusByte_bits _ _ _ _ _

theorem State.hostValid_iff (s : State) :
    s.hostValid = true ↔ (s.pwr.good = true ∧ 2 ≤ s.get fPWR_PHASE) ∧ s.link.lost = false := by
  simp [State.hostValid]

-- The driven bytes

/-- The state with the bytes that a frame drives. -/
def State.drive (s : State) (d : List Byte) : State := { s with bus := d }

@[simp] theorem State.drive_bus (s : State) (d : List Byte) : (s.drive d).bus = d := rfl
@[simp] theorem State.drive_elevated (s : State) (d : List Byte) (c : Nat) : (s.drive d).elevated c = s.elevated c := rfl
@[simp] theorem State.drive_rd (s : State) (d : List Byte) (a : Nat) : (s.drive d).rd a = s.rd a := rfl
@[simp] theorem State.drive_tsd (s : State) (d : List Byte) : (s.drive d).tsd = s.tsd := rfl

theorem State.drive_kept {T : List Comp} {z s : State} (hT : [.bus] ⊆ T) (d : List Byte) (h : Kept T z s) : Kept T z (s.drive d) :=
  Kept.upd_bus h (hT (List.mem_singleton_self _))

theorem Kept.only {T : List Comp} {s t : State} (h : Kept T s t) : Only T s t := ⟨h.queue, h.same⟩

-- Frames of 24 clocks

/-- A read frame drives the register, or 0xFFFF while VALID is 0, and takes ERR with STAT (R448-R450). -/
theorem State.spiFrame_read {s : State} {cmd : Nat} (hmode : s.spi.mode = true) (hread : 128 ≤ cmd) (x : Nat) :
    s.spiFrame 24 cmd x =
      if s.hostValid = true then
        (if cmd % 128 = 0x02 then s.setSpi { s.spi with err := false } else s).drive
          [s.spiStatus, BitVec.ofNat 8 (s.spiValue (cmd % 128) / 256), BitVec.ofNat 8 (s.spiValue (cmd % 128))]
      else s.drive [s.spiStatus, 0xFF, 0xFF] := by
  have hvalid : ({ s with bus := [] } : State).hostValid = s.hostValid := rfl
  simp only [State.spiFrame, hmode, hread, hvalid, Bool.not_true, Bool.false_eq_true, ne_eq, not_true_eq_false, if_false, if_true]
  cases s.hostValid
  · rfl
  · by_cases hstat : cmd % 128 = 2 <;> simp only [hstat] <;> rfl

/-- A write frame drives zeros, and writes the register unless VALID is 0 (R448, R449). -/
theorem State.spiFrame_write {s : State} {cmd : Nat} (hmode : s.spi.mode = true) (hwrite : cmd < 128) (x : Nat) :
    s.spiFrame 24 cmd x =
      if s.hostValid = true then (s.drive [s.spiStatus, 0, 0]).spiWrite cmd x else s.drive [s.spiStatus, 0, 0] := by
  simp only [State.spiFrame, hmode, Nat.not_le.2 hwrite, Nat.mod_eq_of_lt hwrite, Bool.not_true, Bool.false_eq_true, ne_eq,
    not_true_eq_false, if_false]
  rfl

theorem State.drive_only (s : State) (d : List Byte) : Only [.bus] s (s.drive d) :=
  (State.drive_kept (List.Subset.refl _) d (Kept.refl s)).only

theorem State.spiWrite_bus (s : State) (a x : Nat) : (s.spiWrite a x).bus = s.bus :=
  (State.spiWrite_kept (List.Subset.refl _) a x (Kept.refl s)).same .bus (by decide)

/-- What a frame drives and, while VALID is 0, all it does (R449). -/
theorem State.spiFrame_bus {s : State} (hmode : s.spi.mode = true) (cmd x : Nat) :
    ∃ d : List Byte, (s.spiFrame 24 cmd x).bus = s.spiStatus :: d ∧ d.length = 2
      ∧ (s.hostValid = false → Only [.bus] s (s.spiFrame 24 cmd x) ∧ (128 ≤ cmd → d = [0xFF, 0xFF])) := by
  rcases Nat.lt_or_ge cmd 128 with hwrite | hread
  · rw [State.spiFrame_write hmode hwrite]
    refine ⟨[0, 0], ?_, rfl, fun hoff => ⟨?_, fun h => absurd hwrite (Nat.not_lt.2 h)⟩⟩
    · split
      · rw [State.spiWrite_bus, State.drive_bus]
      · rw [State.drive_bus]
    · rw [if_neg (by simp [hoff])]
      exact s.drive_only _
  · rw [State.spiFrame_read hmode hread]
    split
    case isTrue hvalid => exact ⟨_, rfl, rfl, fun hoff => absurd hvalid (by simp [hoff])⟩
    case isFalse => exact ⟨_, rfl, rfl, fun _ => ⟨s.drive_only _, fun _ => rfl⟩⟩

/-- Each command of the protocol is a frame of 24 clocks. -/
theorem exec_spiCommand {n : Fin 32} {x : BitVec 16} {cmd : BitVec 8} {full : Bool} {i : Instr}
    (hi : i ∈ [Instr.spi3032Transaction 24 cmd x, .chCtrlWrite n x, .pwHiWrite x, .spiLock x, .selftestStart full, .spiFltclr x])
    (s : State) :
    ∃ a y : Nat, exec i s = .next (s.spiFrame 24 a y) ∧ (i = .spi3032Transaction 24 cmd x → a = cmd.toNat) := by
  simp only [List.mem_cons, List.not_mem_nil, or_false] at hi
  rcases hi with rfl | rfl | rfl | rfl | rfl | rfl
  · exact ⟨_, _, rfl, fun _ => rfl⟩
  all_goals exact ⟨_, _, rfl, nofun⟩

/-- Settles O57: the frame drives the status byte of the state it finds, whose bit 7 is VALID. -/
theorem spiStatusByte : Obligations.SpiStatusByte := by
  intro n x cmd full s live hmode i hi
  obtain ⟨a, y, hexec, hcmd⟩ := exec_spiCommand hi s
  obtain ⟨d, hbus, hlen, hoff⟩ := State.spiFrame_bus hmode a y
  obtain ⟨hvalid, herr, hunlocked, hfault, hready, hlow⟩ := s.spiStatus_bits
  refine ⟨_, hexec, s.spiStatus, d, hbus, hlen, fun hdead => ?_, fun hlive hlink => ?_, herr, hunlocked,
    by rw [hfault, Bool.not_eq_true'], hready, hlow, fun h7 => ?_⟩
  · rw [hvalid, Bool.eq_false_iff]
    exact fun h => hdead (s.hostValid_iff.1 h).1
  · rw [hvalid, s.hostValid_iff]
    exact ⟨hlive, hlink⟩
  · obtain ⟨honly, hones⟩ := hoff (hvalid.symm.trans h7)
    exact ⟨honly, fun hi hread => hones (by rwa [hcmd hi])⟩

-- The supervision word of a channel under the clearing of its latches

/-- The registers that the clearing of a channel's latches may write: its CHS_SUP word, and what the fault group of the lamps
moves with it (DEV_PWR_STAT, DEV_FLT_ACT, DEV_FLT_FIRST, ICU_NWSTAT). -/
def supRegs (c : Nat) : List (Nat × Nat) := [(aCHS_SUP c, 0), (0x270, 0), (0x2A0, 0), (0x2A4, 0), (0x1B070, 0)]

theorem hits_supRegs_same (c : Nat) : hits (supRegs c) (aCHS_SUP c) = true := hit_one (List.mem_cons_self ..)

theorem hits_supRegs_other {c d : Nat} (h : d ≠ c) : hits (supRegs c) (aCHS_SUP d) = false := by
  simp [hits, supRegs, aCHS_SUP]
  omega

theorem hits_supRegs_tsd (c : Nat) : hits (supRegs c) fPWR_TSD.addr = false := by
  simp [hits, supRegs, aCHS_SUP, fPWR_TSD, aDEV_DRV_PWR]
  omega

namespace State

/-- The fault group of the lamps has no part in a supervision word. -/
theorem lampGroup_rd_sup (s : State) (c : Nat) : s.lampGroup.rd (aCHS_SUP c) = s.rd (aCHS_SUP c) := by
  refine (lampGroup_wr (List.Subset.refl _) (Wr.refl s)).eq _ ?_
  simp [hits, aCHS_SUP]
  omega

theorem lampGroup_supRegs {s t : State} {c : Nat} (h : Wr (supRegs c) s t) : Wr (supRegs c) s t.lampGroup :=
  lampGroup_wr (List.subset_cons_self ..) h

theorem unlatch_supRegs (s : State) (c k : Nat) : Wr (supRegs c) s (s.unlatch c k) := by
  have hhit := hits_supRegs_same c
  unfold unlatch
  refine lampGroup_supRegs ?_
  have hlatch := setChan_wr (List.nil_subset _) c { s.chan c with cleared := true }
    (putFlag_wr (f := fSUP_LATCH c k) (v := false) hhit (Wr.refl s))
  have hrail := Wr.ite (c := k = ltOPEN) (putFlag_wr (f := fSUP_RAIL_CAUSE c) (v := false) hhit hlatch) hlatch
  have htsd := Wr.ite (c := k = ltOVERHEAT) (putFlag_wr (f := fSUP_TSD_CAUSE c) (v := false) hhit hrail) hrail
  exact Wr.ite (put_wr (f := fSUP_NLED_EFF c) hhit htsd) htsd

theorem unprove_supRegs (s : State) (c : Nat) : Wr (supRegs c) s (s.unprove c) := by
  have hhit := hits_supRegs_same c
  unfold unprove
  have hword := putFlag_wr (f := fSUP_SUSPECT c) (v := false) hhit (put_wr (f := fSUP_PROOF c) (v := 0) hhit (Wr.refl s))
  have hchan := fun x => setChan_wr (List.nil_subset _) c x hword
  exact Wr.ite (setLed_wr (List.nil_subset _) _ _ (hchan _)) (hchan _)

/-- One latch of a channel under a clear: a step of `fltClrChan`. -/
def clearLatch (mask c : Nat) (keep : Bool) (s : State) (k : Nat) : State :=
  if bitOf mask k && s.latch c k && !(k == ltOVERHEAT && keep) then s.unlatch c k else s

theorem fltClrChan_eq (s : State) (mask c : Nat) :
    s.fltClrChan mask c =
      (((List.range 7).foldl (clearLatch mask c (s.tsd && s.flag (fSUP_TSD_CAUSE c))) s).unprove c).putFlag (fSUP_LITPROOF c) false :=
  rfl

/-- Clearing the latches of a channel leaves every other channel's supervision word and the thermal shutdown alone. -/
theorem fltClrChan_supRegs (s : State) (mask c : Nat) : Wr (supRegs c) s (s.fltClrChan mask c) := by
  rw [fltClrChan_eq]
  refine putFlag_wr (hits_supRegs_same c) (.trans (Wr.fold (fun t k ht => ?_) (Wr.refl s)) (unprove_supRegs _ c))
  exact Wr.ite (ht.trans (unlatch_supRegs t c k)) ht

theorem fltClrChan_rd_other (s : State) (mask : Nat) {c d : Nat} (h : d ≠ c) :
    (s.fltClrChan mask c).rd (aCHS_SUP d) = s.rd (aCHS_SUP d) :=
  (fltClrChan_supRegs s mask c).eq _ (hits_supRegs_other h)

theorem fltClrChan_tsd (s : State) (mask c : Nat) : (s.fltClrChan mask c).tsd = s.tsd := by
  simp only [tsd, flag, get, (fltClrChan_supRegs s mask c).eq _ (hits_supRegs_tsd c)]

-- The latches of the channel itself

/-- A latch lies apart from every other field of its word. -/
theorem latch_put_apart (s : State) {f : Fld} (v : Nat) {c j : Nat} (haddr : f.addr = aCHS_SUP c) (hf : f.lo + f.width ≤ 32)
    (hapart : j < f.lo ∨ f.lo + f.width ≤ j) : (s.put f v).latch c j = s.latch c j := by
  unfold latch flag
  rw [get_put_apart s (g := fSUP_LATCH c j) v hf haddr.symm (by simpa [fSUP_LATCH, Nat.succ_le_iff] using hapart)]

/-- What lies above the latches in their word is none of them. -/
theorem latch_put_above (s : State) {f : Fld} (v : Nat) {c j : Nat} (hj : j < 7) (haddr : f.addr = aCHS_SUP c)
    (hf : 7 ≤ f.lo ∧ f.lo + f.width ≤ 32) : (s.put f v).latch c j = s.latch c j :=
  latch_put_apart s v haddr hf.2 (.inl (hj.trans_le hf.1))

theorem lampGroup_latch (s : State) (c j : Nat) : s.lampGroup.latch c j = s.latch c j := by
  simp only [latch, flag, get, fSUP_LATCH, lampGroup_rd_sup]

theorem latch_put_latch (s : State) (c : Nat) {k j : Nat} (hk : k < 7) :
    (s.putFlag (fSUP_LATCH c k) false).latch c j = (s.latch c j && j != k) := by
  by_cases h : j = k
  · subst h
    simp [latch, flag_putFlag_same s (fSUP_LATCH c j) false (by simp [fSUP_LATCH]; omega) (by simp [fSUP_LATCH])]
  · simp only [putFlag, bne, beq_eq_false_iff_ne.2 h, Bool.not_false, Bool.and_true]
    exact latch_put_apart s _ rfl (by simp [fSUP_LATCH]; omega) (by simp [fSUP_LATCH]; omega)

/-- A latch clears alone of its word's latches (R132): what else `unlatch` writes of the word lies above them. -/
theorem unlatch_latch (s : State) (c : Nat) {k j : Nat} (hk : k < 7) (hj : j < 7) :
    (s.unlatch c k).latch c j = (s.latch c j && j != k) := by
  have hchan (t : State) (x : Chan) : (t.setChan c x).latch c j = t.latch c j := rfl
  have hrail (t : State) (b : Bool) : (t.putFlag (fSUP_RAIL_CAUSE c) b).latch c j = t.latch c j :=
    latch_put_above t _ hj rfl (by simp [fSUP_RAIL_CAUSE])
  have htsd (t : State) (b : Bool) : (t.putFlag (fSUP_TSD_CAUSE c) b).latch c j = t.latch c j :=
    latch_put_above t _ hj rfl (by simp [fSUP_TSD_CAUSE])
  have hnled (t : State) (v : Nat) : (t.put (fSUP_NLED_EFF c) v).latch c j = t.latch c j :=
    latch_put_above t _ hj rfl (by simp [fSUP_NLED_EFF])
  simp only [unlatch, lampGroup_latch, apply_ite (fun t : State => t.latch c j), hnled, htsd, hrail, hchan, ite_self,
    latch_put_latch s c hk]

theorem clearLatch_latch (s : State) (mask c : Nat) (keep : Bool) {k j : Nat} (hk : k < 7) (hj : j < 7) :
    (clearLatch mask c keep s k).latch c j = (s.latch c j && !(j == k && (bitOf mask j && !(j == ltOVERHEAT && keep)))) := by
  rw [clearLatch, apply_ite (fun t : State => t.latch c j), unlatch_latch s c hk hj]
  by_cases h : j = k
  · subst h
    generalize (j == ltOVERHEAT && keep) = held
    cases bitOf mask j <;> cases s.latch c j <;> cases held <;> simp
  · simp [bne, beq_eq_false_iff_ne.2 h]

theorem clearLatches_latch (s : State) (mask c : Nat) (keep : Bool) {l : List Nat} (hl : ∀ k ∈ l, k < 7) {j : Nat} (hj : j < 7) :
    (l.foldl (clearLatch mask c keep) s).latch c j =
      (s.latch c j && !(l.contains j && (bitOf mask j && !(j == ltOVERHEAT && keep)))) := by
  induction l generalizing s with
  | nil => simp
  | cons k l ih =>
    rw [List.foldl_cons, ih _ fun m hm => hl m (List.mem_cons_of_mem _ hm),
      clearLatch_latch s mask c keep (hl k (List.mem_cons_self ..)) hj, List.contains_cons]
    cases j == k <;> cases l.contains j <;> simp

theorem unprove_get (s : State) (c : Nat) (f : Fld) :
    (s.unprove c).get f = ((s.put (fSUP_PROOF c) 0).putFlag (fSUP_SUSPECT c) false).get f := by
  simp only [unprove, apply_ite (fun t : State => t.get f), setLed_get, setChan_get, ite_self]

theorem unprove_latch (s : State) (c : Nat) {j : Nat} (hj : j < 7) : (s.unprove c).latch c j = s.latch c j := by
  rw [latch, flag, unprove_get]
  exact (latch_put_above _ (f := fSUP_SUSPECT c) _ hj rfl (by simp [fSUP_SUSPECT])).trans
    (latch_put_above s (f := fSUP_PROOF c) _ hj rfl (by simp [fSUP_PROOF]))

theorem unprove_proof (s : State) (c : Nat) : (s.unprove c).get (fSUP_PROOF c) = 0 := by
  rw [unprove_get, putFlag, get_put_apart _ (f := fSUP_SUSPECT c) (g := fSUP_PROOF c) _ (by simp [fSUP_SUSPECT]) rfl
    (by simp [fSUP_SUSPECT, fSUP_PROOF]), get_put_same _ _ _ (by simp [fSUP_PROOF]), Nat.zero_mod]

-- What a clear does to a channel

/-- Channel `d` after a clear with a mask (R132): the latches of the mask are clear, but for an OVERHEAT of a thermal shutdown that
lasts (R97), the others stand, and proof begins again. -/
def FltCleared (mask : Nat) (s t : State) (d : Nat) : Prop :=
  t.get (fSUP_PROOF d) = 0 ∧ t.flag (fSUP_LITPROOF d) = false ∧ ∀ k < 7, t.latch d k =
    (s.latch d k && !(bitOf mask k && !(k == ltOVERHEAT && (s.tsd && s.flag (fSUP_TSD_CAUSE d)))))

/-- Channel `d` has the same proof and the same latches in both states. -/
def SupAgree (s t : State) (d : Nat) : Prop :=
  t.get (fSUP_PROOF d) = s.get (fSUP_PROOF d) ∧ t.flag (fSUP_LITPROOF d) = s.flag (fSUP_LITPROOF d)
    ∧ ∀ k < 7, t.latch d k = s.latch d k

theorem SupAgree.of_rd {s t : State} {d : Nat} (h : t.rd (aCHS_SUP d) = s.rd (aCHS_SUP d)) : SupAgree s t d := by
  simp only [SupAgree, latch, flag, get, fSUP_PROOF, fSUP_LITPROOF, fSUP_LATCH, h, implies_true, and_self]

theorem FltCleared.agree {mask d : Nat} {s t u : State} (ht : FltCleared mask s t d) (hu : FltCleared mask s u d) :
    SupAgree t u d := by
  obtain ⟨htp, htl, htlatch⟩ := ht
  obtain ⟨hup, hul, hulatch⟩ := hu
  exact ⟨hup.trans htp.symm, hul.trans htl.symm, fun k hk => (hulatch k hk).trans (htlatch k hk).symm⟩

/-- A clear is judged by the thermal shutdown and the channel's word before it, and by the channel's word after it. -/
theorem FltCleared.congr {mask d : Nat} {s s' t t' : State} (h : FltCleared mask s t d) (htsd : s'.tsd = s.tsd)
    (hs : s'.rd (aCHS_SUP d) = s.rd (aCHS_SUP d)) (ht : t'.rd (aCHS_SUP d) = t.rd (aCHS_SUP d)) : FltCleared mask s' t' d := by
  simpa only [FltCleared, latch, flag, get, fSUP_PROOF, fSUP_LITPROOF, fSUP_LATCH, fSUP_TSD_CAUSE, htsd, hs, ht] using h

theorem fltClrChan_cleared (s : State) (mask c : Nat) : FltCleared mask s (s.fltClrChan mask c) c := by
  rw [fltClrChan_eq]
  refine ⟨?_, flag_putFlag_same _ _ _ (by simp [fSUP_LITPROOF]) (by simp [fSUP_LITPROOF]), fun k hk => ?_⟩
  · rw [putFlag, get_put_apart _ (f := fSUP_LITPROOF c) (g := fSUP_PROOF c) _ (by simp [fSUP_LITPROOF]) rfl
      (by simp [fSUP_LITPROOF, fSUP_PROOF]), unprove_proof]
  · rw [putFlag, latch_put_above _ _ hk rfl (by simp [fSUP_LITPROOF]), unprove_latch _ _ hk,
      clearLatches_latch _ _ _ _ (fun m hm => List.mem_range.1 hm) hk]
    simp [hk]

/-- Channels cleared one after the other: each of them is cleared, and no other channel's supervision word changes. -/
theorem fltClrChans_cleared (mask : Nat) {l : List Nat} (hl : l.Nodup) (s : State) :
    (∀ d ∈ l, FltCleared mask s (l.foldl (fun s c => s.fltClrChan mask c) s) d)
      ∧ ∀ d ∉ l, (l.foldl (fun s c => s.fltClrChan mask c) s).rd (aCHS_SUP d) = s.rd (aCHS_SUP d) := by
  induction l generalizing s with
  | nil => exact ⟨nofun, fun _ _ => rfl⟩
  | cons c l ih =>
    obtain ⟨hc, hl⟩ := List.nodup_cons.1 hl
    obtain ⟨hin, hout⟩ := ih hl (s.fltClrChan mask c)
    refine ⟨fun d hd => ?_, fun d hd => ?_⟩
    · by_cases hdc : d = c
      · subst hdc
        exact (fltClrChan_cleared s mask d).congr rfl rfl (hout d hc)
      · exact (hin d ((List.mem_cons.1 hd).resolve_left hdc)).congr (fltClrChan_tsd s mask c).symm
          (fltClrChan_rd_other s mask hdc).symm rfl
    · obtain ⟨hdc, hdl⟩ := not_or.1 (mt List.mem_cons.2 hd)
      exact (hout d hdl).trans (fltClrChan_rd_other s mask hdc)

-- FLTCLR

/-- The channels that a FLTCLR word names (R456). -/
def spiFltChans (x : Nat) : List Nat := if bitOf x 15 then List.range 32 else [x % 32]

theorem spiFltChans_nodup (x : Nat) : (spiFltChans x).Nodup := by
  unfold spiFltChans
  split
  · exact List.nodup_range
  · exact List.nodup_singleton _

theorem mem_spiFltChans {x d : Nat} : d ∈ spiFltChans x ↔ d < 32 ∧ (bitOf x 15 = true ∨ d = x % 32) := by
  unfold spiFltChans
  split
  case isTrue hall => simp [hall]
  case isFalse hone =>
    simp only [List.mem_singleton, hone, Bool.false_eq_true, false_or]
    omega

/-- The clear of the elevated context (R454, R456) touches its time-out first (R332). -/
theorem spiFltClr_of_elevated {s : State} (h : s.elevated 9 = true) (x : Nat) :
    s.spiFltClr x = (spiFltChans x).foldl (fun s c => s.fltClrChan (bitsOf x 8 7) c) (s.touch 9) := by
  simp only [spiFltClr, spiFltChans, h, Bool.not_true, Bool.false_eq_true, if_false]
  split <;> rfl

theorem spiFltClr_of_not_elevated {s : State} (h : s.elevated 9 = false) (x : Nat) : s.spiFltClr x = s.spiErr := by
  simp [spiFltClr, h]

theorem touch_rd (s : State) (c a : Nat) : (s.touch c).rd a = s.rd a := by
  unfold touch
  split <;> rfl

/-- A write of SUP_FLT_CLR without ALL clears one channel (R132). -/
theorem supFltClr_one {mask ch : Nat} (hmask : mask < 128) (hch : ch < 128) (s : State) :
    s.supFltClr (BitVec.ofNat 32 (ch + 256 * mask)).toNat = s.fltClrChan mask ch := by
  have hw : (BitVec.ofNat 32 (ch + 256 * mask)).toNat = ch + 256 * mask := by
    rw [BitVec.toNat_ofNat]; omega
  have hall : bitOf (ch + 256 * mask) 31 = false := by
    rw [bitOf, Nat.div_eq_of_lt (by omega)]; rfl
  have hbits : bitsOf (ch + 256 * mask) 8 7 = mask := by
    unfold bitsOf; omega
  have hone : (ch + 256 * mask) % 128 = ch := by omega
  simp only [supFltClr, hw, hall, hbits, hone, Bool.false_eq_true, if_false]

theorem bitOf_toNat {w : Nat} (x : BitVec w) (n : Nat) : bitOf x.toNat n = x.getLsbD n := by
  rw [BitVec.getLsbD, Nat.testBit_eq_decide_div_mod_eq, bitOf]
  rfl

/-- What a clear of the elevated context may write: the channels' part of the state, and the time-out of the elevation. -/
theorem spiFltClr_kept_of_elevated {T : List Comp} {z s : State} (hT : [.regs, .icu, .nw, .pwr, .chans, .mtx, .sec] ⊆ T)
    (helev : s.elevated 9 = true) (x : Nat) (h : Kept T z s) : Kept T z (s.spiFltClr x) := by
  rw [spiFltClr_of_elevated helev]
  exact Kept.fold (fun t c ht => fltClrChan_kept (keptSub (by decide) hT) _ c ht) (touch_kept (keptSub (by decide) hT) 9 h)

/-- The elevated context's clear, channel by channel (R456). -/
theorem spiFltClr_chan {s : State} (helev : s.elevated 9 = true) (x d : Nat) :
    (d ∈ spiFltChans x → FltCleared (bitsOf x 8 7) s (s.spiFltClr x) d)
      ∧ (d ∉ spiFltChans x → (s.spiFltClr x).rd (aCHS_SUP d) = s.rd (aCHS_SUP d)) := by
  have htsd : s.tsd = (s.touch 9).tsd := by simp only [tsd, flag, get, touch_rd]
  rw [spiFltClr_of_elevated helev]
  obtain ⟨hin, hout⟩ := fltClrChans_cleared (bitsOf x 8 7) (spiFltChans_nodup x) (s.touch 9)
  exact ⟨fun hd => (hin d hd).congr htsd (touch_rd s 9 _).symm rfl, fun hd => (hout d hd).trans (touch_rd s 9 _)⟩

end State

/-- A FLTCLR frame that is served drives its bytes and clears (R448, R456). -/
theorem exec_spiFltclr {s : State} (hmode : s.spi.mode = true) (hvalid : s.hostValid = true) (x : BitVec 16) :
    exec (.spiFltclr x) s = .next ((s.drive [s.spiStatus, 0, 0]).spiFltClr x.toNat) := by
  have hexec : exec (.spiFltclr x) s = .next (s.spiFrame 24 0x07 x.toNat) := rfl
  have hwrite (t : State) : t.spiWrite 0x07 x.toNat = t.spiFltClr x.toNat := by simp [State.spiWrite]
  rw [hexec, State.spiFrame_write hmode (by decide), if_pos hvalid, hwrite]

theorem exec_supFltClr (w : BitVec 32) (s : State) : exec (.supFltClr w) s = .next (s.supFltClr w.toNat) := rfl

/-- What a served FLTCLR frame of the elevated context leaves, against the state before the frame. -/
theorem State.drive_spiFltClr_chan {s : State} (helev : s.elevated 9 = true) (b : List Byte) (x d : Nat) :
    (d ∈ spiFltChans x → FltCleared (bitsOf x 8 7) s ((s.drive b).spiFltClr x) d)
      ∧ (d ∉ spiFltChans x → ((s.drive b).spiFltClr x).rd (aCHS_SUP d) = s.rd (aCHS_SUP d)) := by
  obtain ⟨hin, hout⟩ := spiFltClr_chan ((s.drive_elevated b 9).trans helev) x d
  exact ⟨fun hd => (hin hd).congr (s.drive_tsd b).symm (s.drive_rd b _).symm rfl, fun hd => (hout hd).trans (s.drive_rd b _)⟩

/-- Settles O58: the frame clears the channels its word names one after the other (`State.fltClrChans_cleared`), and SUP_FLT_CLR clears
its channel by the same operation. -/
theorem spiFaultClear : Obligations.SpiFaultClear := by
  intro x s mask ch hit hmode hvalid
  have hexec := exec_spiFltclr hmode hvalid x
  have hhit (d : Nat) : d ∈ State.spiFltChans x.toNat ↔ hit d := by rw [State.mem_spiFltChans, State.bitOf_toNat]
  have hmask : bitsOf x.toNat 8 7 = mask := rfl
  have hkept {T : List Comp} (hT : [.bus] ⊆ T) := State.drive_kept hT [s.spiStatus, 0, 0] (Kept.refl s)
  refine ⟨fun hlocked => ?_, fun helev => ?_⟩
  · rw [State.spiFltClr_of_not_elevated (s := s.drive _) ((s.drive_elevated [s.spiStatus, 0, 0] 9).trans hlocked)] at hexec
    exact ⟨_, hexec, rfl, (State.spiErr_kept (by decide) (hkept (by decide))).only⟩
  · have hchan := State.drive_spiFltClr_chan helev [s.spiStatus, 0, 0] x.toNat
    simp only [hhit, hmask] at hchan
    have honly := (State.spiFltClr_kept_of_elevated (T := [.regs, .icu, .nw, .pwr, .chans, .mtx, .bus, .sec]) (by decide)
      ((s.drive_elevated _ 9).trans helev) x.toNat (hkept (by decide))).only
    refine ⟨_, hexec, fun d _ => ⟨(hchan d).1, fun hd => State.SupAgree.of_rd ((hchan d).2 hd)⟩, honly,
      fun hone => ⟨_, exec_supFltClr _ s, fun d _ => ?_⟩⟩
    have hch : ch < 32 := Nat.mod_lt _ (by decide)
    rw [State.supFltClr_one (Nat.mod_lt _ (by decide)) (by omega)]
    by_cases hd : d = ch
    · subst hd
      exact (State.fltClrChan_cleared s mask ch).agree ((hchan ch).1 ⟨hch, .inr rfl⟩)
    · have hnot : ¬ hit d := fun h => h.2.elim (Bool.eq_false_iff.1 hone) hd
      exact State.SupAgree.of_rd (((hchan d).2 hnot).trans (State.fltClrChan_rd_other s mask hd).symm)

end Sys2Proof.Machine
end

section
/-! WHAT EVERY STEP KEEPS (R340, R342, R345, R411, R489): canonical tables and the promises of one-time programming, from what each
operation may do (`Kept`); and what the part holds after reset. -/

namespace Sys2Proof.Machine

/-- Every part of the state: the frame that excludes nothing. -/
def allParts : List Comp := [.regs, .free, .grid, .time, .pins, .icu, .evt, .nw, .mem, .cap, .life, .pwr, .obs, .rule, .cfg, .ctx,
  .chans, .banks, .boost, .res, .dim, .mtx, .spi, .loops, .adc, .sto, .link, .ring, .ptp, .mbx, .sec, .bist, .fspi, .bus]

theorem mem_allParts (c : Comp) : c ∈ allParts := by cases c <;> decide

theorem subset_allParts {A : List Comp} : A ⊆ allParts := fun c _ => mem_allParts c

/-- An outcome of a command at `s`: a next state that `s` may be followed by. -/
structure Keeps (s : State) (o : Host.Outcome State Fault Refusal) : Prop where
  kept : ∃ t, o = .next t ∧ Kept allParts s t

theorem Keeps.next {s t : State} (h : Kept allParts s t) : Keeps s (.next t) := ⟨t, rfl, h⟩

theorem Keeps.refl (s : State) : Keeps s (.next s) := .next (Kept.refl s)

theorem Keeps.ite {s : State} {c : Prop} [Decidable c] {a b : Host.Outcome State Fault Refusal} (ha : Keeps s a) (hb : Keeps s b) :
    Keeps s (if c then a else b) := by
  split <;> assumption

theorem Keeps.trans {s t : State} {o : Host.Outcome State Fault Refusal} (h : Kept allParts s t) (ho : Keeps t o) : Keeps s o := by
  obtain ⟨u, ho, hu⟩ := ho
  exact ⟨u, ho, h.trans hu⟩

theorem adcTrigEdge_keeps (rise : Bool) (ago : BitVec 16) (s : State) : Keeps s (exec (.adcTrigEdge rise ago) s) := by
  have hraise : Kept allParts s (({ s with adc := { s.adc with edge := s.stampBack ago.toNat } } : State).raise srcADC_TRIG) :=
    State.raise_kept subset_allParts _ ((Kept.refl s).upd_adc (mem_allParts _))
  exact .trans (Kept.fold (fun _ _ h => State.triggerBy_kept subset_allParts _ _ h) hraise)
    (.ite (.next (State.capTrigger_kept subset_allParts _ _ (.refl _))) (.refl _))

theorem persistTimer_keeps (s : State) : Keeps s (exec .persistTimer s) := by
  have hdue : Kept allParts s { s with life := { s.life with dueAt := s.life.dueAt + 900 * tps } } :=
    (Kept.refl s).upd_life (mem_allParts _) fun k => k.flash
  exact .ite (.refl s) (.ite (.next (hdue.upd_life (mem_allParts _) fun k => k.flash))
    (.ite (.next hdue) (.next (State.persistBegin_kept subset_allParts 1 hdue))))

/-- Every command completes, and what follows may follow the state before it. -/
theorem exec_keeps (s : State) : ∀ i : Instr, Keeps s (exec i s)
  | .powerGood .. => .next (State.powerGood_kept subset_allParts _ (.refl s))
  | .powerGoodEnd => .ite (.next (State.powerEnd_kept subset_allParts (.refl s))) (.refl s)
  | .resetNLow => .next (State.resetLow_kept subset_allParts (.refl s))
  | .powerCycle => .next (State.powerCycle_kept subset_allParts (.refl s))
  | .pfwNFall => .next (State.pfwFall_kept subset_allParts (.refl s))
  | .pfwCleared => .next (State.pfwRise_kept subset_allParts (.refl s))
  | .pfwHigh1s => .next (State.pfwOver_kept subset_allParts (.refl s))
  | .xtal25StartTimeout => .next (State.xtalTimeout_kept subset_allParts (.refl s))
  | .dawnD0End => .next (State.dawnD0_kept subset_allParts (.refl s))
  | .dawnD1End .. => .next (State.dawnD1_kept subset_allParts _ _ (.refl s))
  | .dawnD2End => .next (State.dawnD2_kept subset_allParts (.refl s))
  | .dawnD3End => .next (State.dawnD3_kept subset_allParts (.refl s))
  | .dawnD4End => .next (State.dawnD4_kept subset_allParts (.refl s))
  | .dawnLate => .ite (.next (Kept.upd_pwr (.refl s) (mem_allParts _))) (.refl s)
  | .gridLost => .next (State.gridLost_kept subset_allParts (.refl s))
  | .vcoreLow .. => .next (State.vcoreLow_kept subset_allParts _ (.refl s))
  | .commitDeadline .. => .next (State.commitDeadline_kept subset_allParts _ _ _ (.refl s))
  | .dlmHoldResume => .next (State.holdResume_kept subset_allParts (.refl s))
  | .lateResult .. => .next (State.lateResult_kept subset_allParts _ _ (.refl s))
  | .linkTransfer .. => .next (State.linkTransfer_kept subset_allParts _ _ (.refl s))
  | .linkSilenceTimeout => .ite (.refl s) (.next (State.linkLost_kept subset_allParts (.refl s)))
  | .linkHeartbeat .. => .next (State.linkTransfer_kept subset_allParts _ _ (.refl s))
  | .rulePeriodStart => .next (State.periodStart_kept subset_allParts (.refl s))
  | .ruleEvalComplete => .ite (.next (State.ruleWalked_kept subset_allParts (.refl s))) (.refl s)
  | .resolverStart => .ite (.next (State.resolve_kept subset_allParts (.refl s))) (.refl s)
  | .resolverComplete => .ite (.next (State.resolved_kept subset_allParts (.refl s))) (.refl s)
  | .aspectCommit => .ite (.next (State.ruleCommit_kept subset_allParts (.refl s))) (.refl s)
  | .ruleStallClear => .next (State.stallClear_kept subset_allParts (.refl s))
  | .setpointArrival => .ite (.next (State.setpointArrival_kept subset_allParts (.refl s))) (.refl s)
  | .xchkCheck .. => .next (State.xCheck_kept subset_allParts _ (.refl s))
  | .pwmPeriodStart .. => .next (State.pwmStart_kept subset_allParts _ (.refl s))
  | .channelHold .. => .ite (.refl s) (.ite (.next (State.ledHold_kept subset_allParts _ _ _ (State.takeEvent_kept
      subset_allParts _ (.refl s)))) (.next (State.chanHold_kept subset_allParts _ _ _ (State.takeEvent_kept subset_allParts _
      (.refl s)))))
  | .conversionComplete .. => .next (State.convDone_kept subset_allParts _ _ (.refl s))
  | .bankStrayOpen .. => .ite (.next (State.linkDone_kept subset_allParts _ _ (State.strayOpen_kept subset_allParts _
      (State.setBank_kept subset_allParts _ _ (.refl s))))) (.refl s)
  | .shortToRailFoldback .. => .ite (.next (State.confirm_kept subset_allParts _ _ _ _ _ _ (.refl s))) (.refl s)
  | .bankOc .. => .next (State.bankOC_kept subset_allParts _ (.refl s))
  | .bankOcRetry .. => .next (State.bankRetry_kept subset_allParts _ (.refl s))
  | .bankReadback .. => .next (State.bankReadback_kept subset_allParts _ _ (.refl s))
  | .bankCloseComplete .. => .next (State.bankClosed_kept subset_allParts _ (.refl s))
  | .thermalShutdown => .next (State.thermalShutdown_kept subset_allParts (.refl s))
  | .thermalShutdownExit => .next (State.thermalExit_kept subset_allParts (.refl s))
  | .needComputation => .next (State.needs_kept subset_allParts (.refl s))
  | .governorUpdate => .next (State.governors_kept subset_allParts (.refl s))
  | .peakCurrentTrip => .next (Kept.upd_boost (State.gateLow_kept subset_allParts (State.putFlag_kept subset_allParts _ _
      (.refl s))) (mem_allParts _))
  | .ovClampOnset => .next (State.clampOnset_kept subset_allParts (.refl s))
  | .ovClampRelease => .next (State.putFlag_kept subset_allParts _ _ (.refl s))
  | .boostShort => .next (State.boostShort_kept subset_allParts (.refl s))
  | .hiccupRestart => .ite (.next (State.softStart_kept subset_allParts (State.lifeAcc_kept subset_allParts _ _
      (State.bump_kept subset_allParts _ (.refl s))))) (.refl s)
  | .boostFbFault => .next (State.boostFb_kept subset_allParts (.refl s))
  | .softstartCheck => .next (State.softCheck_kept subset_allParts (.refl s))
  | .loopPeriodStart .. => .ite (.refl s) (.ite (.next (State.boostStart_kept subset_allParts (.refl s))) (.next
      (State.loopStart_kept subset_allParts _ (.refl s))))
  | .loopResultReady .. => .next (State.loopResult_kept subset_allParts _ (.refl s))
  | .loopSwapWrite .. => .next (State.wr_kept subset_allParts _ _ (.refl s))
  | .loopSlotMigrate .. => .next (State.loopMigrate_kept subset_allParts _ _ (.refl s))
  | .ambientUpdate .. => .next (State.ambientUpdate_kept subset_allParts _ (.refl s))
  | .brightInLost => .ite (.next (State.logEv_kept subset_allParts _ _ _ _ (State.putFlag_kept subset_allParts _ _ (.refl
      s)))) (.refl s)
  | .brightInValid => .next (State.putFlag_kept subset_allParts _ _ (.refl s))
  | .ntcUpdate => .next (State.ntcUpdate_kept subset_allParts (.refl s))
  | .ntcRecovered => .ite (.next (State.putFlag_kept subset_allParts _ _ (.refl s))) (.refl s)
  | .patternCycleStart .. => .ite (.next (Kept.upd_dim (.refl s) (mem_allParts _))) (.refl s)
  | .overheatAutoClear .. => .ite (.next (State.unlatch_kept subset_allParts _ _ (.refl s))) (.refl s)
  | .supFltClr .. => .next (State.supFltClr_kept subset_allParts _ (.refl s))
  | .sigForget .. => .next (State.sigCmd_kept subset_allParts _ (.refl s))
  | .mtxClearStray .. => .ite (.next (State.mtxClear_kept subset_allParts _ _ (.refl s))) (.refl s)
  | .mtxClearDark .. => .ite (.next (State.mtxClear_kept subset_allParts _ _ (.refl s))) (.refl s)
  | .scanFrameStart => .next (State.frameStart_kept subset_allParts (.refl s))
  | .scanSlotStart => .next (State.slotStart_kept subset_allParts (.refl s))
  | .senseSample .. => .ite (.refl s) (.next (State.senseAll_kept subset_allParts _ _ (.refl s)))
  | .aspVarWrite .. => .next (State.aspVarWrite_kept subset_allParts _ _ (.refl s))
  | .aspReqWrite .. => .next (State.aspReqWrite_kept subset_allParts _ _ (.refl s))
  | .timeSlotUpdate => .next (State.writeTimeSlots_kept subset_allParts (.refl s))
  | .activationWindowEdge => .next (State.writeTimeSlots_kept subset_allParts (State.evalTwins_kept subset_allParts (.refl s)))
  | .obsDataRead .. => .next (State.regRead_kept subset_allParts _ _ (.refl s))
  | .ruleDataRead .. => .next (State.regRead_kept subset_allParts _ _ (.refl s))
  | .ringLdDataRead .. => .next (State.regRead_kept subset_allParts _ _ (.refl s))
  | .bistDataRead .. => .next (State.regRead_kept subset_allParts _ _ (.refl s))
  | .timeNsRead .. => .next (State.regRead_kept subset_allParts _ _ (.refl s))
  | .loopStRead .. => .next (State.putFlag_kept subset_allParts _ _ (.refl s))
  | .icuNwstatRead => .next (State.nwstatRead_kept subset_allParts (.refl s))
  | .adcGridTrigger .. => .ite (.next (State.triggerBy_kept subset_allParts _ _ (.refl s))) (.refl s)
  | .adcTrigEdge rise ago => adcTrigEdge_keeps rise ago s
  | .adcSoftTriggerReg .. => .next (Kept.fold (fun _ _ h => .ite (State.trigger_kept subset_allParts _ _ h) h) (.refl s))
  | .adcSoftTriggerInj .. => .next (Kept.fold (fun _ _ h => .ite (State.trigger_kept subset_allParts _ _ h) h) (.refl s))
  | .adcRefctlWrite .. => .next (State.refEnable_kept subset_allParts _ (.refl s))
  | .refbufReady .. => .ite (.refl s) (.ite (.next (State.softStart_kept subset_allParts (State.putFlag_kept subset_allParts _
      _ (State.putFlag_kept subset_allParts _ _ (.refl s))))) (.next (State.putFlag_kept subset_allParts _ _ (State.putFlag_kept
      subset_allParts _ _ (.refl s)))))
  | .housekeepingRound .. => .ite (.next (State.pairRound_kept subset_allParts _ (.refl s))) (.refl s)
  | .pairRoundEval .. => .next (State.pairEval_kept subset_allParts _ (.refl s))
  | .trimReload => .next (State.onCmd_kept subset_allParts _ _ (fun _ => State.trimReload_kept subset_allParts _ (.refl s))
      (.refl s))
  | .trimReloadStart .. => .next (State.reloadStart_kept subset_allParts _ (.refl s))
  | .trimReloadDone .. => .next (State.trimDone_kept subset_allParts (State.reloadEnd_kept subset_allParts _ _ (.refl s)))
  | .ringFrameReceive .. => .next (State.ringReceive_kept subset_allParts _ _ _ _ (.refl s))
  | .egressTxComplete .. => .next (State.txDone_kept subset_allParts _ (.refl s))
  | .signalFailOnset .. => .next (State.sfOnset_kept subset_allParts _ _ (.refl s))
  | .signalFailClear .. => .next (State.sfClear_kept subset_allParts _ (.refl s))
  | .sfpModulePoll .. => .next (State.modulePoll_kept subset_allParts _ _ _ _ (.refl s))
  | .ringRateAlternate .. => .ite (.next (State.putFlag_kept subset_allParts _ _ (.refl s))) (.refl s)
  | .rapsReceive .. => .next (State.raps_kept subset_allParts _ _ _ _ _ _ _ (.refl s))
  | .rapsTransmit => .next (State.rapsSend_kept subset_allParts (.refl s))
  | .holdoffExpiry .. => .ite (.refl s) (.ite (.next (State.failSeen_kept subset_allParts _ (.refl s))) (.next
      (State.setPort_kept subset_allParts _ _ (.refl s))))
  | .guardExpiry => .ite (.next (State.setRing_kept subset_allParts _ (.refl s))) (.refl s)
  | .launchTemplateCopy .. => .next (State.ldCopy_kept subset_allParts _ (.refl s))
  | .launchGuardStart .. => .next (State.ldGuard_kept subset_allParts _ (.refl s))
  | .launchGateOpen .. => .next (State.ldGate_kept subset_allParts _ (.refl s))
  | .launchWindowClose .. => .next (State.ldClose_kept subset_allParts _ (.refl s))
  | .eventFrameSend => .next (State.eventSend_kept subset_allParts (.refl s))
  | .cyharCmdFrame .. => .next (State.ringCmdFrame_kept subset_allParts _ _ _ _ (.refl s))
  | .cyharReplyDrop .. => .next (State.replyDrop_kept subset_allParts _ (.refl s))
  | .ringContextIdleDrop .. => .next (State.ctxIdle_kept subset_allParts _ (.refl s))
  | .announceReceive .. => .ite (.next (State.copyTaken_kept subset_allParts _ _ _ (.refl s))) (.next (State.announce_kept
      subset_allParts _ (State.copyTaken_kept subset_allParts _ _ _ (.refl s))))
  | .syncReceive .. => .next (State.sync_kept subset_allParts _ _ _ _ _ _ (.refl s))
  | .pdelayReqSend .. => .next (State.pdelaySend_kept subset_allParts _ (.refl s))
  | .pdelayReqReceive .. => .next (State.pdelayAnswer_kept subset_allParts _ _ _ _ _ (.refl s))
  | .pdelayRespReceive .. => .next (State.pdelayDone_kept subset_allParts _ _ _ _ _ _ (.refl s))
  | .pdelayTimeout .. => .ite (.refl s) (.next (State.pdelayBad_kept subset_allParts _ (.refl s)))
  | .tcEntryExpiry => .ite (.next (State.setPtp_kept subset_allParts _ (.refl s))) (.refl s)
  | .timeStep => .next (State.timeStep_kept subset_allParts (.refl s))
  | .masterLost => .ite (.next (State.masterLost_kept subset_allParts (.refl s))) (.refl s)
  | .trustTimerExpiry => .next (State.trustExpiry_kept subset_allParts (.refl s))
  | .routeHoldEnd => .next (State.holdEnd_kept subset_allParts (.refl s))
  | .timeRearmStep => .next (State.onCmd_kept subset_allParts _ _ (fun _ => State.rearmCmd_kept subset_allParts _ (.refl s))
      (.refl s))
  | .rearmLapse => .next (State.rearmLapse_kept subset_allParts (.refl s))
  | .localOffsetChange => .next (State.offsetChange_kept subset_allParts (.refl s))
  | .ppsOutEdge => .next (State.ppsRise_kept subset_allParts (.refl s))
  | .ppsInEdge .. => .next (State.ppsIn_kept subset_allParts _ _ (.refl s))
  | .safetyCycle => .ite (.next (State.safetyCycle_kept subset_allParts _ (Kept.upd_sto (.refl s) (mem_allParts _)))) (.refl
      s)
  | .stoRefreshWord .. => .ite (.next (State.linkDone_kept subset_allParts _ _ (State.refreshWord_kept subset_allParts _ _
      (.refl s)))) (.refl s)
  | .stoRefreshTimeout .. => .next (State.refreshTimeout_kept subset_allParts _ (.refl s))
  | .tpWindowStart .. => .ite (.next (State.windowStart_kept subset_allParts _ (.refl s))) (.refl s)
  | .tpWindowEnd .. => .next (State.windowEnd_kept subset_allParts _ (.refl s))
  | .tpReadback .. => .ite (.next (State.lineReadback_kept subset_allParts _ _ _ _ (.refl s))) (.refl s)
  | .tpLowTimeout .. => .ite (.next (State.lineLow_kept subset_allParts _ (.refl s))) (.refl s)
  | .sinSample .. => .ite (.next (State.srstSample_kept subset_allParts _ (Kept.fold (fun _ _ h => State.sinSample_kept
      subset_allParts _ _ _ h) (Kept.upd_sto (.refl s) (mem_allParts _))))) (.refl s)
  | .sinWindowJudge .. => .ite (.next (State.winJudge_kept subset_allParts _ (.refl s))) (.refl s)
  | .discrepancySample => .ite (.next (Kept.fold (fun _ _ h => State.discSample_kept subset_allParts _ h) (Kept.upd_sto (.refl
      s) (mem_allParts _)))) (.refl s)
  | .sealRowRead .. => .next (State.sealRow_kept subset_allParts _ _ (.refl s))
  | .stoOffPulseStart .. => .ite (.next (State.pulseStart_kept subset_allParts _ _ (.refl s))) (.refl s)
  | .stoOffPulseEnd .. => .next (State.pulseOver_kept subset_allParts _ (.refl s))
  | .stoPulseReadback .. => .ite (.next (State.pulseReadback_kept subset_allParts _ _ _ _ (.refl s))) (.refl s)
  | .stoPulseRepeat .. => .ite (.next (State.pulseStart_kept subset_allParts _ _ (.refl s))) (.refl s)
  | .stoReadbackTimeout .. => .next (State.readbackFault_kept subset_allParts _ _ (.refl s))
  | .srstStuck => .ite (.refl s) (.next (State.logEv_kept subset_allParts _ _ _ _ (State.putFlag_kept subset_allParts _ _
      (Kept.upd_sto (.refl s) (mem_allParts _)))))
  | .qspiWriteS .. => .next (State.qspiTransaction_kept subset_allParts _ _ _ _ _ (.refl s))
  | .qspiReadS .. => .next (State.qspiTransaction_kept subset_allParts _ _ _ _ _ (.refl s))
  | .qspiStatus => .next (State.qspiTransaction_kept subset_allParts _ _ _ _ _ (.refl s))
  | .qspiWriteQ .. => .next (State.qspiTransaction_kept subset_allParts _ _ _ _ _ (.refl s))
  | .qspiReadQ .. => .next (State.qspiTransaction_kept subset_allParts _ _ _ _ _ (.refl s))
  | .qspiInvalidInstruction => .next (State.qspiInvalid_kept subset_allParts (.refl s))
  | .memwinFetchDone .. => .next (State.fetchDone_kept subset_allParts _ (.refl s))
  | .lineBufferAge .. => .next (State.lineAge_kept subset_allParts _ (.refl s))
  | .devMempageWrite .. => .next (State.regWrite_kept subset_allParts _ _ _ (.refl s))
  | .sqnDoorbell .. => .next (State.regWrite_kept subset_allParts _ _ _ (.refl s))
  | .squDoorbell .. => .next (State.regWrite_kept subset_allParts _ _ _ (.refl s))
  | .cqHeadWrite .. => .next (State.regWrite_kept subset_allParts _ _ _ (.refl s))
  | .mbxStatClear .. => .next (State.regWrite_kept subset_allParts _ _ _ (.refl s))
  | .mbxReset .. => .next (State.regWrite_kept subset_allParts _ _ _ (.refl s))
  | .mbxResetDone => .next (State.mbxResetDone_kept subset_allParts (.refl s))
  | .descriptorCopy .. => .next (State.copyDesc_kept subset_allParts _ (.refl s))
  | .commandSchedule => .next (State.schedule_kept subset_allParts (.refl s))
  | .completionPost => .next (State.postOne_kept subset_allParts (.refl s))
  | .nop => .next (State.onCmd_kept subset_allParts _ _ (fun _ => State.finishCmd_kept subset_allParts _ _ _ _ (.refl s))
      (.refl s))
  | .regRead => .next (State.onCmd_kept subset_allParts _ _ (fun _ => State.regReadCmd_kept subset_allParts _ (.refl s))
      (.refl s))
  | .regWrite => .next (State.onCmd_kept subset_allParts _ _ (fun _ => State.regWriteCmd_kept subset_allParts _ (.refl s))
      (.refl s))
  | .cfgStageBlock => .next (State.onCmd_kept subset_allParts _ _ (fun _ => State.finishCmd_kept subset_allParts _ _ _ _
      (Kept.fst (State.stageBlock_kept subset_allParts _ _ (.refl s)))) (.refl s))
  | .cfgCommit .. => .next (State.onCmd_kept subset_allParts _ _ (fun _ => State.cfgCommit_kept subset_allParts _ _ (.refl s))
      (.refl s))
  | .cfgReport => .next (State.onCmd_kept subset_allParts _ _ (fun _ => State.finishCmd_kept subset_allParts _ _ _ _ (.refl
      s)) (.refl s))
  | .aspectRequest => .next (State.onCmd_kept subset_allParts _ _ (fun _ => State.aspectRequest_kept subset_allParts _ (.refl
      s)) (.refl s))
  | .bistRun => .next (State.onCmd_kept subset_allParts _ _ (fun _ => .ite (State.finishCmd_kept subset_allParts _ _ _ _
      (.refl s)) (.ite (State.finishCmd_kept subset_allParts _ _ _ _ (.refl s)) (State.longCmd_kept subset_allParts _
      (State.bistBegin_kept subset_allParts _ _ _ _ (.refl s))))) (.refl s))
  | .logReadEvents => .next (State.logCmd_kept subset_allParts _ _ (fun _ => State.logEvents_kept subset_allParts _ (.refl s))
      (.refl s))
  | .logReadTail => .next (State.logCmd_kept subset_allParts _ _ (fun _ => State.finishCmd_kept subset_allParts _ _ _ _ (.refl
      s)) (.refl s))
  | .logReadLifetime => .next (State.logCmd_kept subset_allParts _ _ (fun _ => State.logRecord_kept subset_allParts _ _ (.refl
      s)) (.refl s))
  | .logReadSnapshot => .next (State.logCmd_kept subset_allParts _ _ (fun _ => State.logSnapshot_kept subset_allParts _ (.refl
      s)) (.refl s))
  | .captureArmNow => .next (State.capCmd_kept subset_allParts _ (.refl s))
  | .captureArmEvent => .next (State.capCmd_kept subset_allParts _ (.refl s))
  | .captureArmTime => .next (State.capCmd_kept subset_allParts _ (.refl s))
  | .captureArmPin => .next (State.capCmd_kept subset_allParts _ (.refl s))
  | .captureDisarm => .next (State.capCmd_kept subset_allParts _ (.refl s))
  | .elevate => .next (State.onCmd_kept subset_allParts _ _ (fun _ => State.elevateCmd_kept subset_allParts _ (.refl s))
      (.refl s))
  | .drop => .next (State.onCmd_kept subset_allParts _ _ (fun _ => State.dropCmd_kept subset_allParts _ (.refl s)) (.refl s))
  | .dropAll => .next (State.onCmd_kept subset_allParts _ _ (fun _ => State.dropAllCmd_kept subset_allParts _ (.refl s))
      (.refl s))
  | .challengeElevate => .next (State.purposeCmd_kept subset_allParts _ _ _ (fun _ => State.challengeCmd_kept subset_allParts
      _ _ (.refl s)) (.refl s))
  | .challengeDebug => .next (State.purposeCmd_kept subset_allParts _ _ _ (fun _ => State.challengeCmd_kept subset_allParts _
      _ (.refl s)) (.refl s))
  | .respondElevate => .next (State.purposeCmd_kept subset_allParts _ _ _ (fun _ => State.respondCmd_kept subset_allParts _ _
      (.refl s)) (.refl s))
  | .respondDebug => .next (State.purposeCmd_kept subset_allParts _ _ _ (fun _ => State.respondCmd_kept subset_allParts _ _
      (.refl s)) (.refl s))
  | .invalidOpcode => .next (State.onCmd_kept subset_allParts _ _ (fun _ => State.finishCmd_kept subset_allParts _ _ _ _
      (.refl s)) (.refl s))
  | .elevationTimeout .. => .next (State.elevTimeout_kept subset_allParts _ (.refl s))
  | .nonceExpiry .. => .ite (.refl s) (.next (State.dropNonce_kept subset_allParts _ (.refl s)))
  | .lockoutEnd => .next (.ite (.refl s) (State.setSec_kept subset_allParts _ id id le_rfl (.refl s)))
  | .passwordSet .. => .next (State.regWrite_kept subset_allParts _ _ _ (.refl s))
  | .passwordClear .. => .next (State.regWrite_kept subset_allParts _ _ _ (.refl s))
  | .rollbackAdvance .. => .next (State.regWrite_kept subset_allParts _ _ _ (.refl s))
  | .fieldLockSet .. => .next (State.regWrite_kept subset_allParts _ _ _ (.refl s))
  | .testEntry => .next (State.testEntry_kept subset_allParts (.refl s))
  | .icuSourceEdge .. => .next (State.sourceEdge_kept subset_allParts _ _ (.refl s))
  | .icuPendSet .. => .next (State.pendWrite_kept subset_allParts _ _ _ (.refl s))
  | .icuPendClr .. => .next (State.pendClear_kept subset_allParts _ _ _ (.refl s))
  | .icuMaskSet .. => .next (State.maskWrite_kept subset_allParts _ _ _ _ (.refl s))
  | .icuMaskClr .. => .next (State.maskWrite_kept subset_allParts _ _ _ _ (.refl s))
  | .icuAcknowledge .. => .next (State.acknowledge_kept subset_allParts _ (.refl s))
  | .icuEoi .. => .next (State.eoi_kept subset_allParts _ _ (.refl s))
  | .moderationWindowEnd .. => .ite (.next (State.windowEnds_kept subset_allParts _ (.refl s))) (.refl s)
  | .hostSleepRise .. => .next (State.sleepLevel_kept subset_allParts _ (.refl s))
  | .cfgActivation => .ite (.next (State.cfgActivate_kept subset_allParts (.refl s))) (.refl s)
  | .duskRequest .. => .next (State.regWrite_kept subset_allParts _ _ _ (.refl s))
  | .duskCancel .. => .next (State.regWrite_kept subset_allParts _ _ _ (.refl s))
  | .duskEntry => .next (State.duskEntry_kept subset_allParts (.refl s))
  | .duskExitRequest .. => .next (State.regWrite_kept subset_allParts _ _ _ (.refl s))
  | .duskWakeEvent .. => .next (State.duskWake_kept subset_allParts _ (.refl s))
  | .duskExitResume => .next (State.duskResume_kept subset_allParts (.refl s))
  | .midnightEntry .. => .ite (.next (State.midnightEnter_kept subset_allParts _ (.refl s))) (.refl s)
  | .morningCheckFire => .next (State.mornFire_kept subset_allParts (.refl s))
  | .morningBankStart => .next (State.mornNext_kept subset_allParts (.refl s))
  | .morningCheckSkip => .next (State.mornSkip_kept subset_allParts (.refl s))
  | .bistBlockStart .. => .next (State.bistStart_kept subset_allParts _ (.refl s))
  | .bistBlockEnd .. => .next (State.bistEnd_kept subset_allParts _ _ _ _ _ (.refl s))
  | .bistRegionStep .. => .next (State.bistRegion_kept subset_allParts _ (.refl s))
  | .ruleengSlice => .next (State.bistSlice_kept subset_allParts (.refl s))
  | .ruleengSliceCutoff => .next (State.bistCut_kept subset_allParts (.refl s))
  | .lifetimeFold .. => .next (State.fold_kept subset_allParts _ (.refl s))
  | .persistTimer => persistTimer_keeps s
  | .persistDone .. => .next (State.persistEnd_kept subset_allParts _ (.refl s))
  | .persistRetry => .ite (.next (State.put_kept subset_allParts _ _ (State.flash_kept subset_allParts _ (.refl s)))) (.refl
      s)
  | .dailySnapshot => .next (State.daySnapshot_kept subset_allParts (.refl s))
  | .clrCh .. => .next (State.lifeClearChan_kept subset_allParts _ (.refl s))
  | .clrDev => .next (State.lifeClearDev_kept subset_allParts (.refl s))
  | .eventRecordWrite => .next (State.recordArrives_kept subset_allParts (.refl s))
  | .evtRdseqWrite .. => .next (State.evtRdseq_kept subset_allParts _ (.refl s))
  | .evtThreshWrite .. => .next (State.evtThresh_kept subset_allParts _ (.refl s))
  | .captureTrigger => .ite (.next (State.capTrigger_kept subset_allParts _ _ (.refl s))) (.refl s)
  | .captureFreeze => .ite (.next (State.capFreeze_kept subset_allParts _ (.refl s))) (.refl s)
  | .faultGroupClear .. => .next (State.fltClrWrite_kept subset_allParts _ (.refl s))
  | .bankocReclose .. => .next (State.askReclose_kept subset_allParts _ (.refl s))
  | .sc0Heartbeat .. => .next (State.sc0Beat_kept subset_allParts _ (.refl s))
  | .sc0Lost .. => .ite (.refl s) (.next (State.sc0Lost_kept subset_allParts _ _ (.refl s)))
  | .sc0Reset => .next (State.sc0Reset_kept subset_allParts (.refl s))
  | .sc0RestartComplete .. => .next (State.sc0Back_kept subset_allParts _ (.refl s))
  | .sfcHeartbeat .. => .ite (.refl s) (.ite (.next (State.putFlag_kept subset_allParts _ _ (.refl s))) (.next
      (State.sfcLost_kept subset_allParts (.refl s))))
  | .sfcLost => .next (State.sfcLost_kept subset_allParts (.refl s))
  | .sc1Heartbeat => .next (State.setNw_kept subset_allParts _ (.refl s))
  | .sc1Lost .. => .ite (.refl s) (.next (State.sc1Lost_kept subset_allParts _ _ (.refl s)))
  | .sc1RestartDone => .next (State.sc1Back_kept subset_allParts (.refl s))
  | .eccUncorrected .. => .next (State.eccError_kept subset_allParts _ _ _ (.refl s))
  | .spi3032Transaction .. => .next (State.spiFrame_kept subset_allParts _ _ _ (.refl s))
  | .chCtrlWrite .. => .next (State.spiFrame_kept subset_allParts _ _ _ (.refl s))
  | .pwHiWrite .. => .next (State.spiFrame_kept subset_allParts _ _ _ (.refl s))
  | .spiLock .. => .next (State.spiFrame_kept subset_allParts _ _ _ (.refl s))
  | .selftestStart .. => .next (State.spiFrame_kept subset_allParts _ _ _ (.refl s))
  | .spiFltclr .. => .next (State.spiFrame_kept subset_allParts _ _ _ (.refl s))
  | .registerWrite .. => .next (.ite (State.regWrite_kept subset_allParts _ _ _ (.refl s)) (.refl s))
  | .ppsOutFall => .next (State.ppsFall_kept subset_allParts (.refl s))
  | .ovClampQuiet => .next (State.boostGroup_kept subset_allParts _ (Kept.upd_boost (.refl s) (mem_allParts _)))
  | .hostIrqMinHighEnd => .ite (.refl s) (.next (State.refreshIcu_kept subset_allParts (Kept.upd_icu (.refl s) (mem_allParts
      _))))
  | .xtal25Return => .next (State.putFlag_kept subset_allParts _ _ (.refl s))

theorem tick_keeps (s : State) : Kept allParts s (tick s) := by
  have hnw : Kept allParts s { s with nw := { s.nw with tick := s.nw.tick + 1 } } := (Kept.refl s).upd_nw (mem_allParts _)
  exact .ite (State.cfgMark_kept subset_allParts (State.adcTick_kept subset_allParts (State.gateTick_kept subset_allParts
    (State.timeTick_kept subset_allParts ((State.noteFlags_kept subset_allParts hnw).upd_grid (mem_allParts _)))))) hnw

theorem Kept.otpKept {T : List Comp} {s t : State} (h : Kept T s t) : OtpKept s t := ⟨h.lock, h.scan, h.ctr⟩

/-- Settles O60: each command's operation keeps the stores (`exec_keeps`), and so does a tick; the queue is no part of them. -/
theorem stepKeepsStores : Obligations.StepKeepsStores := by
  intro s t h
  unfold step at h
  split at h
  case h_1 c rest _ =>
    obtain ⟨u, hu, hkept⟩ := exec_keeps { s with pending := rest } c
    obtain rfl : u = t := by rw [hu] at h; exact Host.Outcome.next.inj h
    exact ⟨hkept.canon, hkept.otpKept⟩
  case h_2 =>
    obtain rfl : tick s = t := Host.Outcome.next.inj h
    exact ⟨(tick_keeps s).canon, (tick_keeps s).otpKept⟩

/-- Settles O59: after reset every sparse table is empty. -/
theorem resetStoresCanonical : Obligations.ResetStoresCanonical :=
  ⟨TabWf_nil _, State.memWf_reset, nofun, nofun⟩

/-- Settles O1, by the equation of `step` for a queue that holds a command. -/
theorem stepRunsFront : Obligations.StepRunsFront := fun _ _ _ => rfl

end Sys2Proof.Machine
end

section
/-! THE INTERRUPT CONTROLLER (R346-R359): how each of its operations changes the pending and mask words, the in-service flags, the
windows and the requests. -/

namespace Sys2Proof.Machine

/-- A table after an entry was set. -/
theorem tabGet_set {α : Type} [DecidableEq α] (d : Nat → α) (t : Tab α) (k j : Nat) (v : α) :
    tabGet d (tabSet d t k v) j = if j = k then v else tabGet d t j := by
  split
  case isTrue h => rw [h, tabGet_set_same]
  case isFalse h => exact tabGet_set_other _ _ _ h

theorem Completes.of_eq {c : Instr} {s t : State} {P : State → Prop} (h : exec c s = .next t) (hP : P t) : Completes c s P :=
  ⟨t, h, hP⟩

theorem Wr.onlyRegs {R : List (Nat × Nat)} {s t : State} (h : Wr R s t) : OnlyRegs R s t := h.eq

namespace State

-- Pending and mask words

theorem nwWakes_words (s : State) (p : Nat → Bool) (n : Nat → Nat) (l : List Nat) :
    IcuWords s (l.foldl (fun s i => if p i then s.nwWake (n i) else s) s) := by
  induction l generalizing s with
  | nil => exact .refl s
  | cons i l ih =>
    refine IcuWords.trans (?_ : IcuWords s (if p i then s.nwWake (n i) else s)) (ih _)
    split
    · exact s.nwWake_words _
    · exact .refl s

/-- The end of a HOST delivery writes no pending or mask word, and of the pins only HOST_IRQ_N (R354). -/
structure HostDone (s t : State) : Prop where
  pend : t.icu.pend = s.icu.pend
  mask : t.icu.mask = s.icu.mask
  pins : t.pins = { s.pins with hostIrqN := t.pins.hostIrqN }

theorem hostDone_frame (s : State) : HostDone s s.hostDone := by
  unfold hostDone
  lift_lets
  intro left
  split
  · exact ⟨rfl, rfl, rfl⟩
  · exact ⟨rfl, rfl, rfl⟩

/-- A write of ICU_PEND_SETw: the words of the state with the bits set, whatever Nightwatch then wakes. -/
theorem pendWrite_words (s : State) (t w : Nat) (x : Word) :
    IcuWords (s.pendSet (bankOf t w) (s.viewBits t w x)) (s.pendWrite t w x) := by
  unfold pendWrite bankOf
  by_cases hw : w = 0
  · simp only [hw, if_true]
    exact refreshIcu_words _
  · simp only [hw, if_false]
    exact (nwWakes_words _ _ _ _).trans (refreshIcu_words _)

theorem pendClear_eq (s : State) (t w : Nat) (x : Word) :
    s.pendClear t w x = ((s.pendClr (bankOf t w) (s.viewBits t w x)).hostDone).refreshIcu := rfl

theorem icuPend_pendWrite (s : State) (t w : Nat) (x : Word) (k : Nat) :
    (s.pendWrite t w x).icuPend k = if k = bankOf t w then s.icuPend k ||| s.viewBits t w x else s.icuPend k := by
  rw [(s.pendWrite_words t w x).icuPend, icuPend_pendSet]
  split
  case isTrue h => rw [h]
  case isFalse => rfl

theorem icuPend_pendClear (s : State) (t w : Nat) (x : Word) (k : Nat) :
    (s.pendClear t w x).icuPend k = if k = bankOf t w then s.icuPend k &&& ~~~s.viewBits t w x else s.icuPend k := by
  have hdone (u : State) : u.hostDone.icuPend k = u.icuPend k := by unfold icuPend; rw [u.hostDone_frame.pend]
  rw [pendClear_eq, (refreshIcu_words _).icuPend, hdone, icuPend_pendClr]
  split
  case isTrue h => rw [h]
  case isFalse => rfl

theorem icuMask_pendClear (s : State) (t w : Nat) (x : Word) (k : Nat) : (s.pendClear t w x).icuMask k = s.icuMask k := by
  rw [pendClear_eq, (refreshIcu_words _).icuMask]
  unfold icuMask
  rw [(hostDone_frame _).mask]
  rfl

theorem icuMask_maskWrite (s : State) (t w : Nat) (x : Word) (on : Bool) (k : Nat) :
    (s.maskWrite t w x on).icuMask k = if k = bankOf t w then
      if on then s.icuMask k ||| s.viewBits t w x else s.icuMask k &&& ~~~s.viewBits t w x else s.icuMask k := by
  rw [maskWrite, (refreshIcu_words _).icuMask]
  refine (tabGet_set _ _ (bankOf t w) _ _).trans ?_
  split
  case isTrue h => rw [h]; rfl
  case isFalse => rfl

end State

/-- Settles O2. -/
theorem icuPendingWrites : Obligations.IcuPendingWrites := fun t w x s =>
  ⟨⟨_, rfl, s.icuPend_pendWrite t w x, (s.pendWrite_words t w x).icuMask⟩,
    ⟨_, rfl, s.icuPend_pendClear t w x, s.icuMask_pendClear t w x, (State.hostDone_frame _).pins,
      (State.pendClear_kept (by decide) t w x (.refl s)).only⟩⟩

/-- Settles O3. -/
theorem icuMaskWrites : Obligations.IcuMaskWrites := fun t w x s =>
  have hkept (on : Bool) := State.maskWrite_kept (T := [.icu]) (by decide) t w x on (.refl s)
  ⟨⟨_, rfl, s.icuMask_maskWrite t w x true, fun _ => rfl, (hkept true).only⟩,
    ⟨_, rfl, s.icuMask_maskWrite t w x false, fun _ => rfl, (hkept false).only⟩⟩

-- Edges

namespace State

/-- The bits of the core's bank that an edge of TIMER or ECC_CE sets (R359). -/
theorem bit_privMask {t n : Nat} (ht : t ≠ 3) (hn : n = 8 ∨ n = 9) :
    (BitVec.ofNat 32 (2 ^ n) &&& BitVec.ofNat 32 (privMask t) : Word) = BitVec.ofNat 32 (2 ^ n) := by
  rw [privMask, if_neg ht]
  obtain rfl | rfl := hn <;> decide

theorem sourceEdge_private {s : State} {t n : Nat} (ht : t ≠ 3) (hn : n = 9 ∨ (n = 8 ∧ s.inDusk = false)) :
    s.sourceEdge t n = (((if n = 9 then s.eccCorrected t else s).pendSet t (BitVec.ofNat 32 (2 ^ n))).refreshIcu) := by
  have hbit := bit_privMask ht (n := n) (by omega)
  have hlow : (decide (n < 8) || (n == 8 && s.inDusk)) = false := by
    obtain rfl | ⟨rfl, hdusk⟩ := hn
    · rfl
    · simp [hdusk]
  have hdusk : (if n = 9 then s.eccCorrected t else s).inDusk = s.inDusk := by split <;> rfl
  rw [sourceEdge]
  simp only [hdusk, hlow, hbit, show ¬ 32 ≤ n by omega, if_false, Bool.false_eq_true]

theorem sourceEdge_silent {s : State} (t : Nat) {n : Nat} (hn : n < 8 ∨ (n = 8 ∧ s.inDusk = true)) : s.sourceEdge t n = s := by
  obtain hn | ⟨rfl, hdusk⟩ := hn
  · simp [sourceEdge, hn, show ¬ n = 9 by omega, show ¬ 32 ≤ n by omega]
  · simp [sourceEdge, hdusk]

theorem sourceEdge_shared (s : State) (t : Nat) {n : Nat} (hn : 32 ≤ n) : s.sourceEdge t n = s.raise n := by
  simp [sourceEdge, hn, show ¬ n = 9 by omega]

end State

/-- Settles O4. -/
theorem icuSourceEdges : Obligations.IcuSourceEdges := by
  intro t n s
  refine ⟨fun hn ht => ⟨_, rfl, ?_⟩, fun hn => ⟨_, rfl, State.sourceEdge_silent t hn⟩, fun hn hlisted hrises => ⟨_, rfl, ?_⟩⟩
  · have hkept := State.sourceEdge_private (fun h => ht (Fin.ext h)) hn
    refine ⟨fun k => ?_, fun k => ?_, ?_⟩
    · rw [hkept, (State.refreshIcu_words _).icuPend, State.icuPend_pendSet]
      split
      case isTrue h => subst h; split <;> rfl
      case isFalse => split <;> rfl
    · rw [hkept, (State.refreshIcu_words _).icuMask]
      split <;> rfl
    · rw [hkept]
      exact (State.refreshIcu_kept (by decide) (State.pendSet_kept (by decide) _ _
        (.ite (State.eccCorrected_kept (by decide) _ (.refl s)) (.refl s)))).only
  · rw [State.sourceEdge_shared s t hn]
    refine ⟨fun k => ?_, s.icuMask_raise n⟩
    simp only [State.icuPend_raise, hlisted, hrises, true_and]

-- Delivery and moderation

namespace State

theorem tabGet_foldSet {α : Type} [DecidableEq α] (d : Nat → α) (f : Nat → α) (n : Nat) (t : Tab α) {k : Nat} (hk : k < n) :
    tabGet d ((List.range n).foldl (fun t w => tabSet d t w (f w)) t) k = f k := by
  induction n with
  | zero => exact absurd hk (Nat.not_lt_zero _)
  | succ n ih =>
    rw [List.range_succ, List.foldl_append, List.foldl_cons, List.foldl_nil, tabGet_set]
    split
    case isTrue h => rw [h]
    case isFalse h => exact ih (by omega)

/-- What an acknowledge does to a target whose request is raised (R354, R356, R358). -/
structure Acknowledged (t : Nat) (s u : State) : Prop where
  insvc : tabGet (fun _ => false) u.icu.insvc t = true
  waiting : tabGet (fun _ => false) u.icu.waiting t = false
  dlv : t = 3 → ∀ w < 8, tabGet (fun _ => (0 : Word)) u.icu.dlv w = s.viewAct 3 w
  pins : u.pins = { s.pins with hostIrqN := s.pins.hostIrqN && (t != 3 || s.link.lost) }

theorem acknowledge_of_request {s : State} {t : Nat} (h : tabGet (fun _ => false) s.icu.request t = true) :
    Acknowledged t s (s.acknowledge t) := by
  unfold acknowledge
  rw [if_neg (by simp [h])]
  refine ⟨tabGet_set_same (fun _ => false) s.icu.insvc t true, tabGet_set_same (fun _ => false) s.icu.waiting t false,
    fun ht w hw => ?_, rfl⟩
  subst ht
  exact tabGet_foldSet _ (s.viewAct 3) 8 s.icu.dlv hw

theorem acknowledge_words (s : State) (t : Nat) : (s.acknowledge t).icu.pend = s.icu.pend ∧ (s.acknowledge t).icu.mask = s.icu.mask := by
  unfold acknowledge
  split
  · exact ⟨rfl, rfl⟩
  · exact ⟨rfl, rfl⟩

/-- What the end of a service does to an internal core in service (R354, R356). -/
theorem eoi_of_insvc {s : State} {t : Nat} (ht : t < 3) (h : tabGet (fun _ => false) s.icu.insvc t = true) (wait : Bool) :
    tabGet (fun _ => false) (s.eoi t wait).icu.insvc t = false
      ∧ (wait = false → tabGet (fun _ => false) (s.eoi t wait).icu.window t = (s.modOf t != 0 && !s.idle t))
      ∧ (wait = true → tabGet (fun _ => false) (s.eoi t wait).icu.window t = false
          ∧ tabGet (fun _ => false) (s.eoi t wait).icu.waiting t = true) := by
  unfold eoi
  rw [if_neg (by omega), if_pos h]
  have hend := tabGet_set_same (fun _ => false) s.icu.insvc t false
  have hwindow (w : Tab Bool) (b : Bool) := tabGet_set_same (fun _ => false) w t b
  cases wait
  · exact ⟨hend, fun _ => hwindow s.icu.window _, nofun⟩
  · exact ⟨hend, nofun, fun _ => ⟨hwindow _ false, hwindow s.icu.waiting true⟩⟩

theorem windowEnds_window (s : State) (t k : Nat) :
    tabGet (fun _ => false) (s.windowEnds t).icu.window k = if k = t then false else tabGet (fun _ => false) s.icu.window k :=
  tabGet_set (fun _ => false) s.icu.window t k false

theorem sleepLevel_window (s : State) (high : Bool) :
    tabGet (fun _ => false) (s.sleepLevel high).icu.window 3 = (tabGet (fun _ => false) s.icu.window 3 && !high) := by
  cases high
  · exact (Bool.and_true _).symm
  · exact (windowEnds_window _ 3 3).trans (Bool.and_false _).symm

theorem sleepLevel_pins (s : State) (high : Bool) : (s.sleepLevel high).pins = { s.pins with hostSleep := high } := by
  cases high <;> rfl

end State

theorem exec_moderationWindowEnd (t : Fin 4) (s : State) :
    exec (.moderationWindowEnd t) s = if s.windowOver t then .next (s.windowEnds t) else .next s := rfl

theorem exec_hostIrqMinHighEnd (s : State) : exec .hostIrqMinHighEnd s =
    if s.grid.tick < s.icu.highAt + 25 then .next s else .next ({ s with icu := { s.icu with minHigh := false } } : State).refreshIcu :=
  rfl

/-- Settles O5. -/
theorem icuDelivery : Obligations.IcuDelivery := by
  intro t wait high s
  refine ⟨fun hreq => .of_eq rfl ?_, fun ht hsvc => .of_eq rfl ?_, .of_eq rfl rfl,
    fun hover => .of_eq ((exec_moderationWindowEnd t s).trans (if_pos hover)) ?_,
    fun hover => .of_eq ((exec_moderationWindowEnd t s).trans (if_neg (by simp [hover]))) rfl,
    .of_eq rfl ⟨s.sleepLevel_pins high, s.sleepLevel_window high, (State.sleepLevel_kept (by decide) high (.refl s)).only⟩,
    fun hhigh => .of_eq ((exec_hostIrqMinHighEnd s).trans (if_neg (by omega))) ?_,
    fun hhigh => .of_eq ((exec_hostIrqMinHighEnd s).trans (if_pos hhigh)) rfl, .of_eq rfl ?_⟩
  case refine_1 =>
    obtain ⟨hsvc, hwaiting, hdlv, hpins⟩ := State.acknowledge_of_request hreq
    obtain ⟨hpend, hmask⟩ := s.acknowledge_words t
    refine ⟨hsvc, hwaiting, fun ht => ⟨fun w => hdlv (by simp [ht]) w w.isLt, by subst ht; exact hpins⟩, fun ht => ?_,
      fun k => ⟨by rw [State.icuPend, hpend]; rfl, by rw [State.icuMask, hmask]; rfl⟩,
      (State.acknowledge_kept (by decide) t (.refl s)).only⟩
    have hne : ((t : Nat) != 3) = true := bne_iff_ne.2 fun h => ht (Fin.ext h)
    simp [hpins, hne]
  case refine_2 =>
    have hlt : (t : Nat) < 3 := by
      have hne : (t : Nat) ≠ 3 := fun h => ht (Fin.ext h)
      omega
    obtain ⟨hend, hrun, hwait⟩ := State.eoi_of_insvc hlt hsvc wait
    exact ⟨hend, hrun, hwait, (State.eoi_kept (by decide) t wait (.refl s)).only⟩
  case refine_3 => exact ⟨(s.windowEnds_window t t).trans (if_pos rfl), (State.windowEnds_kept (by decide) t (.refl s)).only⟩
  case refine_4 => exact ⟨rfl, (State.refreshIcu_kept (by decide) ((Kept.refl s).upd_icu (by decide))).only⟩
  case refine_5 =>
    exact ⟨State.flag_putFlag_same s _ _ (by decide) (by decide), (State.putFlag_wr (by decide) (.refl s)).onlyRegs,
      (State.putFlag_kept (by decide) _ _ (.refl s)).only⟩

/-- Settles O6: each of the operations ends by forming the requests anew (`State.refreshIcu_request`). -/
theorem icuRequestsFollow : Obligations.IcuRequestsFollow := by
  intro t u w x high s follows
  refine ⟨fun c hc => ?_,
    fun hover => .of_eq ((exec_moderationWindowEnd t s).trans (if_pos hover)) (State.refreshIcu_request _ u),
    fun hhigh => .of_eq ((exec_hostIrqMinHighEnd s).trans (if_neg (by omega))) (State.refreshIcu_request _ u)⟩
  · simp only [List.mem_cons, List.not_mem_nil, or_false] at hc
    obtain rfl | rfl | rfl | rfl | rfl := hc
    · exact ⟨_, rfl, State.refreshIcu_request _ u⟩
    · exact ⟨_, rfl, State.refreshIcu_request _ u⟩
    · exact ⟨_, rfl, State.refreshIcu_request _ u⟩
    · exact ⟨_, rfl, State.refreshIcu_request _ u⟩
    · refine ⟨_, rfl, ?_⟩
      cases high
      · exact State.refreshIcu_request _ u
      · exact State.refreshIcu_request _ u

end Sys2Proof.Machine
end

section
/-! READING THROUGH OPERATIONS: what a register field, the state of Dusk, the log and the interrupt words read after an operation whose
writes are known (`Wr`, `Kept`); then the capture ring (R430, R431) and the ambient level with its inputs (R110-R117). -/

namespace Sys2Proof.Machine

/-- A part that is in fact unchanged leaves the frame. -/
theorem Only.drop {c : Comp} {T : List Comp} {s t : State} (h : Only (c :: T) s t) (hc : Same s t c) : Only T s t :=
  ⟨h.1, fun d hd => if hdc : d = c then hdc ▸ hc else h.2 d fun hm => (List.mem_cons.1 hm).elim hdc hd⟩

theorem Wr.get {R : List (Nat × Nat)} {s t : State} (h : Wr R s t) (f : Fld) (hf : hits R f.addr = false := by decide) :
    t.get f = s.get f := by
  rw [State.get, h.eq _ hf, State.get]

theorem Wr.flag {R : List (Nat × Nat)} {s t : State} (h : Wr R s t) (f : Fld) (hf : hits R f.addr = false := by decide) :
    t.flag f = s.flag f := by
  rw [State.flag, h.get f hf, State.flag]

theorem Wr.inDusk {R : List (Nat × Nat)} {s t : State} (h : Wr R s t) (hpwr : t.pwr = s.pwr)
    (hf : hits R fPWR_STATE.addr = false := by decide) : t.inDusk = s.inDusk := by
  simp only [State.inDusk, State.pstate, h.get _ hf, hpwr]

theorem Wr.logOpen {R : List (Nat × Nat)} {s t : State} (h : Wr R s t) (hevt : t.evt.started = s.evt.started) (hpwr : t.pwr = s.pwr)
    (hf : hits R fPWR_STATE.addr = false ∧ hits R fNW_SC0_LOST.addr = false := by decide) : t.logOpen = s.logOpen := by
  simp only [State.logOpen, h.inDusk hpwr hf.1, h.flag _ hf.2, hevt]

namespace State

variable (s : State)

theorem get_put_of_addr {f g : Fld} (v : Nat) (h : g.addr ≠ f.addr := by decide) : (s.put f v).get g = s.get g :=
  s.get_put_addr v h

/-- A field of the same register that lies apart keeps its flag. -/
theorem flag_putFlag_apart {f g : Fld} (b : Bool) (hf : f.lo + f.width ≤ 32 := by decide) (ha : g.addr = f.addr := by rfl)
    (h : g.lo + g.width ≤ f.lo ∨ f.lo + f.width ≤ g.lo := by decide) : (s.putFlag f b).flag g = s.flag g := by
  simp only [flag, putFlag, s.get_put_apart (boolNat b) hf ha h]

theorem flag_put_apart {f g : Fld} (v : Nat) (hf : f.lo + f.width ≤ 32 := by decide) (ha : g.addr = f.addr := by rfl)
    (h : g.lo + g.width ≤ f.lo ∨ f.lo + f.width ≤ g.lo := by decide) : (s.put f v).flag g = s.flag g := by
  simp only [flag, s.get_put_apart v hf ha h]

theorem flag_put_addr {f g : Fld} (v : Nat) (h : g.addr ≠ f.addr := by decide) : (s.put f v).flag g = s.flag g := by
  simp only [flag, s.get_put_addr v h]

theorem get_putFlag_apart {f g : Fld} (b : Bool) (hf : f.lo + f.width ≤ 32 := by decide) (ha : g.addr = f.addr := by rfl)
    (h : g.lo + g.width ≤ f.lo ∨ f.lo + f.width ≤ g.lo := by decide) : (s.putFlag f b).get g = s.get g :=
  s.get_put_apart (boolNat b) hf ha h

theorem get_putFlag_addr {f g : Fld} (b : Bool) (h : g.addr ≠ f.addr := by decide) : (s.putFlag f b).get g = s.get g :=
  s.get_put_addr (boolNat b) h

/-- A value that fits a field reads back. -/
theorem get_put_fits (f : Fld) {v : Nat} (hv : v < 2 ^ f.width) (h : f.lo + f.width ≤ 32 := by decide) : (s.put f v).get f = v :=
  (s.get_put_same f v h).trans (Nat.mod_eq_of_lt hv)

theorem flag_putFlag (f : Fld) (b : Bool) (h : f.lo + f.width ≤ 32 := by decide) (hw : 0 < f.width := by decide) :
    (s.putFlag f b).flag f = b := s.flag_putFlag_same f b h hw

-- The log

variable {s}

/-- A record given to an open log joins it, unless its producer's queue is full (R425). -/
theorem logged_enqueue {a t : State} {r : EvtRec} (hopen : a.logOpen = s.logOpen) (hqueue : a.evt.queue = s.evt.queue)
    (ht : t.evt.queue = (a.enqueue r).evt.queue) : Logged s t r.cls r.src := by
  intro ho hroom
  refine ⟨r, rfl, rfl, ?_⟩
  rw [ht, enqueue, if_neg (by simp [hopen, ho]), if_pos (by rw [hqueue]; exact hroom), hqueue]

theorem logged_logEv {a t : State} {cls src : Nat} (kind idx : Nat) (payload : List Nat) (hopen : a.logOpen = s.logOpen)
    (hqueue : a.evt.queue = s.evt.queue) (ht : t.evt.queue = (a.logEv cls kind idx payload).evt.queue)
    (hsrc : kind * 4096 + idx % 4096 = src := by rfl) : Logged s t cls src :=
  hsrc ▸ logged_enqueue hopen hqueue ht

-- Sources

theorem getLsbD_or_bit (x : Word) {n : Nat} (hn : n < 32) : (x ||| BitVec.ofNat 32 (2 ^ n)).getLsbD n = true := by
  rw [BitVec.getLsbD_or, BitVec.getLsbD_ofNat, Nat.testBit_two_pow_self]
  simp [hn]

/-- A listed source that rises is pending (R350). -/
theorem sourcePending_raise {n : Nat} (hlisted : sourceListed n = true) (hrises : s.inDusk = false ∨ risesInDusk n = true) :
    (s.raise n).sourcePending n = true := by
  rw [sourcePending, icuPend_raise, if_pos ⟨hlisted, hrises, rfl⟩]
  exact getLsbD_or_bit _ (Nat.mod_lt _ (by decide))

-- The capture ring

/-- The state with the ring frozen, as the freeze leaves it to the log (R431). -/
def frozen (s : State) (pre : Nat) : State :=
  ({ (s.put fCAP_STATE 3).putFlag fCAP_MN_FREEZE false with cap := { s.cap with paused := none } } : State).put fCAP_PRE pre

theorem frozen_wr (s : State) (pre : Nat) : Wr [(0x294, 0)] s (s.frozen pre) :=
  put_wr (by decide) (Wr.upd (putFlag_wr (by decide) (put_wr (by decide) (.refl s))))

theorem frozen_kept (s : State) (pre : Nat) : Kept [.regs, .cap] s (s.frozen pre) :=
  put_kept (by decide) _ _ ((putFlag_kept (by decide) _ _ (put_kept (by decide) _ _ (.refl s))).upd_cap (by decide))

theorem frozen_state (s : State) (pre : Nat) : (s.frozen pre).get fCAP_STATE = 3 :=
  (get_put_apart _ (f := fCAP_PRE) (g := fCAP_STATE) pre (by decide) rfl (by decide)).trans
    (((s.put fCAP_STATE 3).get_putFlag_apart false).trans (s.get_put_fits fCAP_STATE (by decide)))

theorem frozen_mn (s : State) (pre : Nat) : (s.frozen pre).flag fCAP_MN_FREEZE = false :=
  (flag_put_apart _ (f := fCAP_PRE) (g := fCAP_MN_FREEZE) pre).trans ((s.put fCAP_STATE 3).flag_putFlag fCAP_MN_FREEZE false)

/-- A freeze by POST logs CAPTURE and raises its source (R431). -/
theorem capFreeze_eq (s : State) : ∃ pre l, s.capFreeze false = ((s.frozen pre).logEv evCAPTURE kDEVICE 0 l).raise srcCAPTURE :=
  ⟨_, _, rfl⟩

end State

theorem exec_captureTrigger (s : State) : exec .captureTrigger s =
    if s.get fCAP_STATE = 1 ∧ (s.cap.trig = 0 ∨ (s.cap.trig = 2 ∧ s.cap.target ≤ s.timeNs)) then .next (s.capTrigger false s.cap.post)
    else .next s := rfl

theorem exec_captureFreeze (s : State) :
    exec .captureFreeze s = if s.get fCAP_STATE = 2 && s.capOver then .next (s.capFreeze false) else .next s := rfl

/-- What a trigger leaves in the capture registers (R431). -/
structure CapTriggered (s t : State) : Prop where
  state : t.get fCAP_STATE = 2
  auto : t.flag fCAP_AUTO = false
  tick : (t.rd aCAP_TRIGTICK).toNat = s.tick32

theorem State.capTrigger_regs (s : State) (post : Nat) : CapTriggered s (s.capTrigger false post) := by
  have hwr : Wr [(aCAP_TRIGTICK, 0)] ((s.put fCAP_STATE 2).putFlag fCAP_AUTO false) (s.capTrigger false post) :=
    Wr.upd (State.wr_wr (by decide) (.refl _))
  have htick : s.tick32 < 2 ^ 32 := Nat.mod_lt _ (by decide)
  refine ⟨(hwr.get fCAP_STATE).trans (((s.put fCAP_STATE 2).get_putFlag_apart false).trans (s.get_put_fits fCAP_STATE (by decide))),
    (hwr.flag fCAP_AUTO).trans ((s.put fCAP_STATE 2).flag_putFlag fCAP_AUTO false), ?_⟩
  have hrd : (s.capTrigger false post).rd aCAP_TRIGTICK = BitVec.ofNat 32 s.tick32 :=
    State.rd_wr_same ((s.put fCAP_STATE 2).putFlag fCAP_AUTO false) aCAP_TRIGTICK s.tick32
  rw [hrd, BitVec.toNat_ofNat, Nat.mod_eq_of_lt htick]

/-- Settles O7. -/
theorem captureTriggerAndFreeze : Obligations.CaptureTriggerAndFreeze := by
  intro s ended
  have hended : s.capOver = decide ended := rfl
  refine ⟨fun hstate htrig => .of_eq ((exec_captureTrigger s).trans (if_pos ⟨hstate, htrig⟩)) ?_,
    fun hstate => .of_eq ((exec_captureTrigger s).trans (if_neg (by omega))) rfl,
    fun hstate hover => .of_eq ((exec_captureFreeze s).trans (if_pos (by simp [hstate, hended, hover]))) ?_,
    fun hnot => .of_eq ((exec_captureFreeze s).trans (if_neg ?_)) rfl⟩
  case refine_1 =>
    obtain ⟨hstate, hauto, htick⟩ := s.capTrigger_regs s.cap.post
    exact ⟨hstate, hauto, htick, Only.drop (State.capTrigger_kept (T := [.cap, .regs]) (by decide) _ _ (.refl s)).only rfl,
      (State.capTrigger_wr (by decide) _ _ (.refl s)).onlyRegs⟩
  case refine_2 =>
    obtain ⟨pre, l, heq⟩ := s.capFreeze_eq
    have hfrozen := s.frozen_wr pre
    have hkept := s.frozen_kept pre
    have hevt := congrArg EvtLog.started hkept.evt_eq
    have hqueue := congrArg EvtLog.queue hkept.evt_eq
    have hlog : Wr [(0x2A8, 0), (0x5014, 0)] (s.frozen pre) ((s.frozen pre).logEv evCAPTURE kDEVICE 0 l) :=
      State.logEv_wr (by decide) _ _ _ _ (.refl _)
    have hpwr := (State.logEv_kept (T := [.regs, .evt]) (by decide) evCAPTURE kDEVICE 0 l (.refl (s.frozen pre))).pwr_eq
    have hraise {t : State} : Wr [(0x270, 0), (0x1B070, 0)] t (t.raise srcCAPTURE) := State.raise_wr (by decide) _ (.refl t)
    refine ⟨?_, ?_, fun hdusk => ?_, ?_, (State.capFreeze_kept (by decide) _ (.refl s)).only,
      (State.capFreeze_wr (by decide) _ (.refl s)).onlyRegs⟩
    · rw [heq, hraise.get fCAP_STATE, hlog.get fCAP_STATE, s.frozen_state]
    · rw [heq, hraise.flag fCAP_MN_FREEZE, hlog.flag fCAP_MN_FREEZE, s.frozen_mn]
    · rw [heq]
      refine State.sourcePending_raise (n := srcCAPTURE) rfl (.inl ?_)
      rw [hlog.inDusk hpwr, hfrozen.inDusk hkept.pwr_eq, hdusk]
    · rw [heq]
      exact State.logged_logEv kDEVICE 0 l (hfrozen.logOpen hevt hkept.pwr_eq) hqueue (congrArg EvtLog.queue (State.raise_kept
        (T := [.regs, .icu, .nw, .pwr]) (by decide) srcCAPTURE (.refl ((s.frozen pre).logEv evCAPTURE kDEVICE 0 l))).evt_eq)
  case refine_3 =>
    simp only [hended, Bool.and_eq_true, decide_eq_true_eq]
    exact fun h => hnot.elim (fun hne => hne h.1) (fun hne => hne h.2)

-- The ambient level and the inputs of dimming (R110-R117)

namespace State

/-- An observation as the rule engine sees it now depends on the slots, their configuration, the tick and SET. -/
theorem obsNow_congr {s t : State} (hobs : t.obs = s.obs) (hcfg : t.cfg = s.cfg) (hgrid : t.grid = s.grid)
    (hset : t.flag fTIME_SET = s.flag fTIME_SET) (n : Nat) : t.obsNow n = s.obsNow n := by
  have hslots : ∀ m, t.cfgWord 1 m = s.cfgWord 1 m := fun m => by unfold cfgWord; rw [hcfg]
  unfold obsNow staleIn stored slotSubst slotSrc slotIdx slotFresh
  simp only [hslots, hobs, hgrid, hset]

theorem clampInt_toNat_lt (x : Int) : (clampInt 0 0xFFFF x).toNat < 2 ^ 16 := by
  unfold clampInt
  split
  · decide
  · split <;> omega

/-- What AMBIENT_UPDATE does for a source other than BRIGHT_IN (R110). -/
theorem ambientUpdate_of_src {s : State} (hsrc : s.get fDIM_SRC ≠ 1) (duty : Nat) :
    ∃ v b, s.ambientUpdate duty = (s.schedJudge.put fDIM_AMBIENT v).putFlag fDIM_XFADE b
      ∧ (s.get fDIM_SRC = 2 → v = s.get fNOON)
      ∧ (s.get fDIM_SRC = 3 → v = (clampInt 0 0xFFFF (s.obsNow (s.get fOBS_HI * 32 + s.get fOBS_LO)).1).toNat) := by
  have hjudge : Wr [(0x220, 0)] s s.schedJudge := schedJudge_wr (by decide) (.refl s)
  have hkept : Kept [.regs, .dim] s s.schedJudge := schedJudge_kept (by decide) (.refl s)
  have hobs := obsNow_congr hkept.obs_eq hkept.cfg_eq hkept.grid_eq (hjudge.flag fTIME_SET) (s.get fOBS_HI * 32 + s.get fOBS_LO)
  unfold ambientUpdate
  dsimp only
  rw [hjudge.get fDIM_SRC, hjudge.get fNOON, hjudge.get fOBS_HI, hjudge.get fOBS_LO, hobs]
  split
  case h_1 h => exact ⟨_, _, rfl, by omega, by omega⟩
  case h_2 h => exact absurd h hsrc
  case h_3 h => exact ⟨_, _, rfl, fun _ => rfl, by omega⟩
  case h_4 h => exact ⟨_, _, rfl, fun h => absurd h (by assumption), fun _ => rfl⟩

/-- The first valid reading of the brightness input starts slot 1 afresh (R112). -/
def brightFirst (s : State) : State := if s.dim.seen then s else s.setLoop 1 { s.loop 1 with fresh := true }

theorem brightFollow_eq (s : State) (duty : Nat) : ∃ d, s.brightFollow duty = { s with dim := d }
    ∨ s.brightFollow duty = { s.brightFirst with dim := d } :=
  iteInduction (motive := fun t : State => ∃ d, t = { s with dim := d } ∨ t = { s.brightFirst with dim := d })
    (fun _ => ⟨_, .inl rfl⟩) fun _ => iteInduction
      (motive := fun t : State => ∃ d, t = { s with dim := d } ∨ t = { s.brightFirst with dim := d })
      (fun _ => ⟨s.dim, .inl rfl⟩) fun _ => ⟨_, .inr rfl⟩

theorem brightFollow_loops (s : State) (duty : Nat) :
    (s.brightFollow duty).loops = s.loops ∨ (s.brightFollow duty).loops = s.brightFirst.loops := by
  obtain ⟨d, h | h⟩ := s.brightFollow_eq duty
  · exact .inl (by rw [h])
  · exact .inr (by rw [h])

theorem brightFollow_loop (s : State) (duty : Nat) {n : Nat} (hn : n ≠ 1) : (s.brightFollow duty).loop n = s.loop n := by
  have hfirst : s.brightFirst.loop n = s.loop n := by
    unfold brightFirst
    split
    · rfl
    · exact tabGet_set_other _ _ _ hn
  obtain h | h := s.brightFollow_loops duty
  · rw [loop, h, loop]
  · rw [loop, h, ← hfirst, loop]

theorem ambientUpdate_loop (s : State) (duty : Nat) {n : Nat} (hn : n ≠ 1) : (s.ambientUpdate duty).loop n = s.loop n := by
  have hjudge : s.schedJudge.loop n = s.loop n := by
    rw [loop, (schedJudge_kept (T := [.regs, .dim]) (by decide) (.refl s)).loops_eq, loop]
  rw [← hjudge]
  by_cases hsrc : s.get fDIM_SRC = 1
  · rw [← s.schedJudge.brightFollow_loop duty hn]
    unfold ambientUpdate loop
    dsimp only
    rw [(schedJudge_wr (R := [(0x220, 0)]) (by decide) (.refl s)).get fDIM_SRC, hsrc]
    show tabGet _ (ite _ _ _ : State).loops.slots n = _
    split
    · rw [put_loops, putFlag_loops]
    · rw [putFlag_loops]
  · obtain ⟨v, b, heq, -, -⟩ := ambientUpdate_of_src hsrc duty
    rw [heq, loop, putFlag_loops, put_loops, loop]

-- NTC_LB (R117)

/-- The part of NTC_UPDATE that judges the reading. -/
def ntcJudge (s : State) : State :=
  if !s.ntcInRange && !s.flag fDIM_NTC_FAULT then (s.putFlag fDIM_NTC_FAULT true).logEv evNTC_FAULT kDEVICE 0 [s.dim.ntcCode] else s

theorem ntcJudge_fault (s : State) : s.ntcJudge.flag fDIM_NTC_FAULT = (s.flag fDIM_NTC_FAULT || !s.ntcInRange) := by
  have hlog (t : State) : Wr [(0x2A8, 0), (0x5014, 0)] t (t.logEv evNTC_FAULT kDEVICE 0 [s.dim.ntcCode]) :=
    logEv_wr (by decide) _ _ _ _ (.refl t)
  unfold ntcJudge
  cases hin : s.ntcInRange <;> cases hfault : s.flag fDIM_NTC_FAULT
  · exact ((hlog _).flag fDIM_NTC_FAULT).trans (s.flag_putFlag fDIM_NTC_FAULT true)
  · exact hfault
  · exact hfault
  · exact hfault

/-- The temperature of the reading is stored (R117). -/
def ntcStored (s : State) : State := { s with dim := { s.dim with ntc := (s.ntcModel s.dim.ntcCode).getD s.dim.ntc } }

/-- NTC_UPDATE up to the evaluation of the channels (R117). -/
def ntcShown (s : State) : State :=
  s.ntcStored.ntcJudge.put fDIM_NTC_TEMP (toBits (clampInt (-128) 127 (s.ntcStored.ntcJudge.ntcTemp / 10)) 8)

theorem ntcJudge_kept (s : State) : Kept [.regs, .evt] s s.ntcJudge :=
  .ite (logEv_kept (by decide) _ _ _ _ (putFlag_kept (by decide) _ _ (.refl s))) (.refl s)

/-- The evaluation of the channels touches neither the temperature nor its fault. -/
theorem ntcUpdate_wr_shown (s : State) : Wr [(0x204, 0), (0x270, 0), (0x274, 0), (0x2A0, 0), (0x2A4, 0), (0x2A8, 0), (0x200C, 16),
    (0x2900, 0), (0x5014, 0), (0x1B070, 0)] s.ntcShown s.ntcUpdate :=
  Wr.fold (fun _ c h => showTemp_wr (by decide) c (.ite h (evalHot_wr (by decide) c _ h))) (.refl _)

theorem ntcUpdate_kept_shown (s : State) : Kept [.regs, .icu, .evt, .nw, .pwr, .chans, .banks, .mtx] s.ntcShown s.ntcUpdate :=
  Kept.fold (fun _ c h => showTemp_kept (by decide) c (.ite h (evalHot_kept (by decide) c _ h))) (.refl _)

theorem ntcShown_dim (s : State) : s.ntcShown.dim = s.ntcStored.dim := by
  rw [ntcShown, put_dim]
  exact s.ntcStored.ntcJudge_kept.dim_eq

theorem ntcShown_fault (s : State) : s.ntcShown.flag fDIM_NTC_FAULT = (s.flag fDIM_NTC_FAULT || !s.ntcInRange) := by
  rw [ntcShown, flag_put_apart, ntcJudge_fault]
  rfl

end State

theorem exec_brightInLost (s : State) : exec .brightInLost s =
    if s.get fBIN_INPUT = 1 ∧ !s.flag fDIM_BIN_LOST then .next ((s.putFlag fDIM_BIN_LOST true).logEv evBRIGHT_IN_LOST kDEVICE 0 [])
    else .next s := rfl

theorem exec_ntcRecovered (s : State) :
    exec .ntcRecovered s = if s.ntcInRange then .next (s.putFlag fDIM_NTC_FAULT false) else .next s := rfl

/-- Settles O8. -/
theorem ambientAndInputs : Obligations.AmbientAndInputs := by
  intro d s
  refine ⟨.of_eq rfl ?_, fun hpwm hlost => .of_eq ((exec_brightInLost s).trans (if_pos ⟨hpwm, by rw [hlost]; rfl⟩)) ?_,
    fun hlost => .of_eq ((exec_brightInLost s).trans (if_neg fun h => by rw [hlost] at h; exact absurd h.2 (by decide))) rfl,
    .of_eq rfl ?_, .of_eq rfl ?_, fun hin => .of_eq ((exec_ntcRecovered s).trans (if_pos hin)) ?_⟩
  case refine_1 =>
    refine ⟨(State.ambientUpdate_kept (by decide) _ (.refl s)).only, (State.ambientUpdate_wr (by decide) _ (.refl s)).onlyRegs,
      fun hsrc => ?_, fun n hn => s.ambientUpdate_loop _ hn, fun hsrc => ?_, fun hsrc => ?_⟩
    · obtain ⟨v, b, heq, -, -⟩ := State.ambientUpdate_of_src hsrc d.toNat
      rw [heq, State.putFlag_loops, State.put_loops]
      exact (State.schedJudge_kept (T := [.regs, .dim]) (by decide) (.refl s)).loops_eq
    · obtain ⟨v, b, heq, hv, -⟩ := State.ambientUpdate_of_src (s := s) (by omega) d.toNat
      rw [heq, State.get_putFlag_apart, State.get_put_same _ _ _ (by decide), hv hsrc]
      exact Nat.mod_eq_of_lt (Nat.mod_lt _ (by decide))
    · obtain ⟨v, b, heq, -, hv⟩ := State.ambientUpdate_of_src (s := s) (by omega) d.toNat
      rw [heq, State.get_putFlag_apart, State.get_put_same _ _ _ (by decide), hv hsrc]
      exact Nat.mod_eq_of_lt (State.clampInt_toNat_lt _)
  case refine_2 =>
    have hput : Wr [(0x220, 0)] s (s.putFlag fDIM_BIN_LOST true) := State.putFlag_wr (by decide) (.refl s)
    have hlog : Wr [(0x2A8, 0), (0x5014, 0)] (s.putFlag fDIM_BIN_LOST true) ((s.putFlag fDIM_BIN_LOST true).logEv evBRIGHT_IN_LOST kDEVICE 0 []) :=
      State.logEv_wr (by decide) _ _ _ _ (.refl _)
    exact ⟨(hlog.flag fDIM_BIN_LOST).trans (s.flag_putFlag fDIM_BIN_LOST true), State.logged_logEv kDEVICE 0 [] (hput.logOpen rfl rfl) rfl rfl,
      (State.logEv_kept (by decide) _ _ _ _ (State.putFlag_kept (by decide) _ _ (.refl s))).only,
      (State.logEv_wr (by decide) _ _ _ _ (State.putFlag_wr (by decide) (.refl s))).onlyRegs⟩
  case refine_3 =>
    exact ⟨s.flag_putFlag fDIM_BIN_LOST false, (State.putFlag_kept (by decide) _ _ (.refl s)).only,
      (State.putFlag_wr (by decide) (.refl s)).onlyRegs⟩
  case refine_4 =>
    refine ⟨?_, (s.ntcUpdate_wr_shown.flag fDIM_NTC_FAULT).trans s.ntcShown_fault, (State.ntcUpdate_kept (by decide) (.refl s)).only⟩
    rw [s.ntcUpdate_kept_shown.dim_eq, s.ntcShown_dim]
    rfl
  case refine_5 =>
    exact ⟨s.flag_putFlag fDIM_NTC_FAULT false, (State.putFlag_kept (by decide) _ _ (.refl s)).only,
      (State.putFlag_wr (by decide) (.refl s)).onlyRegs⟩

end Sys2Proof.Machine
end

section
/-! FAULT GROUPS (R432, R433), THE GRID REFERENCE (R30, R35) AND THE ENTRY INTO MIDNIGHT (R388-R390, R444). -/

namespace Sys2Proof.Machine

namespace State

variable (s : State)

-- Fault groups

theorem raise_regs (n : Nat) : Wr [(0x270, 0), (0x1B070, 0)] s (s.raise n) := raise_wr (by decide) n (.refl s)

theorem logEv_regs (cls kind idx : Nat) (l : List Nat) : Wr [(0x2A8, 0), (0x5014, 0)] s (s.logEv cls kind idx l) :=
  logEv_wr (by decide) _ _ _ _ (.refl s)

/-- A group that is set shows in DEV_FLT_ACT, whatever its first bit raises (R432). -/
theorem fltSet_flag (cls : Nat) {n : Nat} (h0 : 0 < n) (hn : n < 32) : (s.fltSet n cls).flag (fFLT_GROUP n) = true := by
  have hset (t : State) : (t.put (fFLT_GROUP n) 1).flag (fFLT_GROUP n) = true :=
    t.flag_putFlag_same (fFLT_GROUP n) true (by simp only [fFLT_GROUP]; omega) (by simp [fFLT_GROUP])
  unfold fltSet
  split
  case isTrue h => exact h
  split
  · have hfirst (t : State) (v w : Nat) : Wr [(0x2A4, 0), (0x270, 0), (0x1B070, 0)] t (((t.put fFLTF_CLASS v).put fFLTF_BIT w).raise srcFAULT) :=
      raise_wr (by decide) _ (put_wr (by decide) (put_wr (by decide) (.refl t)))
    rw [(hfirst _ _ _).flag (fFLT_GROUP n) (by simp [fFLT_GROUP, hits, aDEV_FLT_ACT])]
    exact (flag_putFlag_apart _ (f := fFLT_ANY) (g := fFLT_GROUP n) true (by decide) rfl (.inr h0)).trans (hset s)
  · exact hset s

theorem fltClr_flag {n : Nat} (h0 : 0 < n) (hn : n < 32) : (s.fltClr n).flag (fFLT_GROUP n) = false := by
  unfold fltClr
  rw [flag_putFlag_apart _ (f := fFLT_ANY) (g := fFLT_GROUP n) _ (by decide) rfl (.inr h0)]
  exact s.flag_putFlag_same (fFLT_GROUP n) false (by simp only [fFLT_GROUP]; omega) (by simp [fFLT_GROUP])

-- The grid reference

/-- The time is UNTRUSTED for a cause. -/
structure TimeUntrusted (cause : Nat) (t : State) : Prop where
  state : t.get fTIME_STATE = 4
  cause : t.get fTIME_CAUSE = cause

theorem timeUntrusted_get {cause : Nat} (hc : cause < 4) : TimeUntrusted cause (s.timeUntrusted cause) := by
  have hput (t : State) : TimeUntrusted cause ((t.put fTIME_STATE 4).put fTIME_CAUSE cause) :=
    ⟨(get_put_apart _ (f := fTIME_CAUSE) (g := fTIME_STATE) _ (by decide) rfl (by decide)).trans (t.get_put_fits fTIME_STATE (by decide)),
      get_put_fits _ fTIME_CAUSE hc⟩
  have hlog (t : State) (l : List Nat) : Wr [(0x2A8, 0), (0x5014, 0), (0x270, 0), (0x1B070, 0)] t ((t.logEv evTIME_STATE kTIME 0 l).raise srcTIME) :=
    raise_wr (by decide) _ (logEv_wr (by decide) _ _ _ _ (.refl t))
  unfold timeUntrusted
  dsimp only
  split
  · exact hput _
  · exact ⟨((hlog _ _).get fTIME_STATE).trans (hput _).state, ((hlog _ _).get fTIME_CAUSE).trans (hput _).cause⟩

/-- The loss of the reference of a running grid (R35): SRC set, XTAL_OK clear, and what is raised and logged for it. -/
theorem gridLost_of_running {s : State} (hsrc : s.flag fGRID_SRC = false) (hrun : s.grid.running = true) :
    s.gridLost = ((((((s.putFlag fGRID_XTAL_OK false).putFlag fGRID_SRC true).bistCause brGRID).logEv evGRID_LOST kDEVICE 0 []).fltSet 13
      evGRID_LOST).timeUntrusted 2) := by
  have hkeep : (s.putFlag fGRID_XTAL_OK false).flag fGRID_SRC = false := (s.flag_putFlag_apart false).trans hsrc
  simp [gridLost, hkeep, hrun]

theorem gridLost_of_lost {s : State} (hsrc : s.flag fGRID_SRC = true) : s.gridLost = s.putFlag fGRID_XTAL_OK false := by
  have hkeep : (s.putFlag fGRID_XTAL_OK false).flag fGRID_SRC = true := (s.flag_putFlag_apart false).trans hsrc
  simp [gridLost, hkeep]

end State

/-- Settles O9. -/
theorem gridReference : Obligations.GridReference := by
  intro s
  refine ⟨fun hsrc hrun => .of_eq rfl ?_, fun hsrc => .of_eq rfl ?_, .of_eq rfl ?_, fun hstate => .of_eq rfl ?_, .of_eq rfl ?_⟩
  case refine_1 =>
    have hkept := State.gridLost_kept (T := [.regs, .icu, .evt, .nw, .pwr, .ptp, .bist]) (by decide) (.refl s)
    rw [State.gridLost_of_running hsrc hrun] at hkept ⊢
    have hset : Wr [(0x270, 0), (0x2A0, 0), (0x2A4, 0), (0x2A8, 0), (0x300C, 0), (0x5014, 0), (0x1B070, 0)]
        ((s.putFlag fGRID_XTAL_OK false).putFlag fGRID_SRC true) _ :=
      State.timeUntrusted_wr (by decide) 2 (State.fltSet_wr (by decide) 13 evGRID_LOST (State.logEv_wr (by decide) evGRID_LOST kDEVICE 0 []
        (State.bistCause_wr (by decide) brGRID (.refl _))))
    obtain ⟨hstate, hcause⟩ := State.timeUntrusted_get (((((s.putFlag fGRID_XTAL_OK false).putFlag fGRID_SRC true).bistCause brGRID).logEv
      evGRID_LOST kDEVICE 0 []).fltSet 13 evGRID_LOST) (cause := 2) (by decide)
    refine ⟨(hset.flag fGRID_SRC).trans (State.flag_putFlag _ _ _), (hset.flag fGRID_XTAL_OK).trans ((State.flag_putFlag_apart _ _).trans
      (State.flag_putFlag _ _ _)), ?_, hstate, hcause, hkept.only⟩
    have htime (t : State) : Wr [(0x270, 0), (0x2A8, 0), (0x300C, 0), (0x5014, 0), (0x1B070, 0)] t (t.timeUntrusted 2) :=
      State.timeUntrusted_wr (by decide) 2 (.refl t)
    rw [(htime _).flag (fFLT_GROUP 13)]
    exact State.fltSet_flag _ _ (by decide) (by decide)
  case refine_2 =>
    rw [State.gridLost_of_lost hsrc]
    exact ⟨(s.flag_putFlag_apart false).trans hsrc, s.flag_putFlag _ _, (State.putFlag_kept (by decide) _ _ (.refl s)).only,
      (State.putFlag_wr (by decide) (.refl s)).onlyRegs⟩
  case refine_3 =>
    exact ⟨s.flag_putFlag _ _, s.get_putFlag_apart _, (State.putFlag_kept (by decide) _ _ (.refl s)).only,
      (State.putFlag_wr (by decide) (.refl s)).onlyRegs⟩
  case refine_4 =>
    have heq : s.vcoreLow true = ((s.bistCause brVCORE).putFlag fGRID_VCORE_LOW true).fltSet 20 0 := by
      simp [State.vcoreLow, State.fltFollow, hstate]
    have hkept := State.vcoreLow_kept (T := [.regs, .icu, .nw, .pwr, .bist]) (by decide) true (.refl s)
    rw [heq] at hkept ⊢
    have hflt (t : State) : Wr [(0x270, 0), (0x2A0, 0), (0x2A4, 0), (0x1B070, 0)] t (t.fltSet 20 0) :=
      State.fltSet_wr (by decide) 20 0 (.refl t)
    exact ⟨((hflt _).flag fGRID_VCORE_LOW).trans (State.flag_putFlag _ _ _), State.fltSet_flag _ _ (by decide) (by decide), hkept.only⟩
  case refine_5 =>
    have heq : s.vcoreLow false = (s.putFlag fGRID_VCORE_LOW false).fltClr 20 := by simp [State.vcoreLow, State.fltFollow]
    rw [heq]
    have hflt (t : State) : Wr [(0x2A0, 0)] t (t.fltClr 20) := State.fltClr_wr (by decide) 20 (.refl t)
    exact ⟨((hflt _).flag fGRID_VCORE_LOW).trans (s.flag_putFlag _ _), State.fltClr_flag _ (by decide) (by decide),
      (State.fltClr_kept (by decide) 20 (State.putFlag_kept (by decide) _ _ (.refl s))).only,
      (State.fltClr_wr (by decide) 20 (State.putFlag_wr (by decide) (.refl s))).onlyRegs⟩

end Sys2Proof.Machine
end

section
/-! THE ENTRY INTO MIDNIGHT (R388-R390, R444): what the entry latches stands through everything it then does, since a raised source
wakes nothing in Midnight and a record of the log writes only its own field of DEV_NW_STAT; and the fallback table lights its channels. -/

namespace Sys2Proof.Machine

theorem Kept.mono {T U : List Comp} {s t : State} (h : Kept T s t) (hT : T ⊆ U) : Kept U s t :=
  ⟨h.queue, h.lock, h.scan, h.ctr, h.canon, fun c hc => h.same c fun hm => hc (hT hm)⟩

theorem Wr.mono {R Q : List (Nat × Nat)} {s t : State} (h : Wr R s t) (hR : R ⊆ Q) : Wr Q s t :=
  ⟨fun a ha => h.eq a (by
    simp only [hits, List.any_eq_false] at ha ⊢
    exact fun p hp => ha p (hR hp))⟩

-- DEV_NW_STAT under the log

/-- The fields of DEV_NW_STAT above NWBUF read the same in both states. -/
def NwStat (s t : State) : Prop := ∀ f : Fld, f.addr = aDEV_NW_STAT → 7 ≤ f.lo → t.get f = s.get f

theorem NwStat.refl (s : State) : NwStat s s := fun _ _ _ => rfl

theorem NwStat.trans {s t u : State} (h : NwStat s t) (k : NwStat t u) : NwStat s u := fun f ha hl => (k f ha hl).trans (h f ha hl)

theorem Wr.nwStat {R : List (Nat × Nat)} {s t : State} (h : Wr R s t) (hR : hits R aDEV_NW_STAT = false := by decide) : NwStat s t :=
  fun f ha _ => h.get f (by rw [ha]; exact hR)

theorem NwStat.flag {s t : State} (h : NwStat s t) (f : Fld) (ha : f.addr = aDEV_NW_STAT := by rfl) (hl : 7 ≤ f.lo := by decide) :
    t.flag f = s.flag f := by
  rw [State.flag, h f ha hl, State.flag]

namespace State

/-- A record that is logged writes of DEV_NW_STAT only NWBUF (R425). -/
theorem enqueue_nwStat (s : State) (r : EvtRec) : NwStat s (s.enqueue r) := by
  have hdrop (t : State) : NwStat t (t.bump aEVT_DROP) := (bump_wr (R := [(aEVT_DROP, 0)]) (by decide) (.refl t)).nwStat
  have hbuf (t : State) (v : Nat) : NwStat t (t.put fNW_NWBUF v) := fun f ha hl =>
    get_put_apart t (f := fNW_NWBUF) (g := f) v (by decide) ha (.inr hl)
  unfold enqueue nwLog
  split
  · split
    · exact hbuf _ _
    · exact hdrop _
  split
  · exact .refl s
  · exact hdrop _

theorem bistStop_nwStat (s : State) : NwStat s s.bistStop := by
  have hset (t : State) (x : Bist) : NwStat t (t.setBist x) := fun f _ _ => t.setBist_get x f
  have hrun (l : List Nat) : ∀ t : State, NwStat t (t.bistNotRun l) := by
    induction l with
    | nil => exact .refl
    | cons b l ih => exact fun t => ((hset t _).trans (enqueue_nwStat _ _)).trans (ih _)
  have hidle (t : State) : NwStat t t.bistIdle := (bistIdle_wr (R := [(0x280, 0)]) (by decide) (.refl t)).nwStat
  have hmbx (t : State) (m : Mbx) : NwStat t { t with mbx := m } := fun f _ _ => t.setMbx_get m f
  have hback : NwStat s s.bistBack := (bistBack_wr (R := [(0x240, 0), (0x17000, 0)]) (by decide) (.refl s)).nwStat
  unfold bistStop
  split
  · exact .refl s
  · exact ((hback.trans (hrun _ _)).trans (hmbx _ _)).trans (hidle _)

-- Sources in Midnight

/-- In Midnight with no request for Dusk a raised source writes only the interrupt controller (R357, R383). -/
theorem raise_of_midnight {s : State} (hstate : s.pstate = 5) (hpend : s.flag fPWR_DUSK_PEND = false) (n : Nat) :
    Kept [.icu] s (s.raise n) := by
  have hwake (t : State) (ht : t.pstate = 5) (hp : t.flag fPWR_DUSK_PEND = false) : t.nwWake n = t := by
    simp [nwWake, duskAbandon, ht, hp]
  unfold raise
  rw [hwake (s.pendSet (3 + n / 32) (BitVec.ofNat 32 (2 ^ (n % 32)))) hstate hpend]
  exact .ite (.refl s) (.ite (.refl s) (refreshIcu_kept (by decide) (pendSet_kept (by decide) _ _ (.refl s))))

theorem raise_mask (s : State) (n : Nat) : (s.raise n).icu.mask = s.icu.mask := by
  unfold raise
  split
  · rfl
  split
  · rfl
  · exact (refreshIcu_words _).mask.trans (nwWake_words _ _).mask

end State

/-- What the entry has latched of `s`, with its cause `k`: the cause, STATE, no request for Dusk, and the fallback table. -/
structure Latched (k : Nat) (s t : State) : Prop where
  cause : t.get fNW_MN_CAUSE = k
  state : t.pstate = 5
  pend : t.flag fPWR_DUSK_PEND = false
  valid : t.flag fPWR_TABLE_VALID = s.flag fPWR_TABLE_VALID
  table : t.pwr.table = s.pwr.table
  roles : t.pwr.roles = s.pwr.roles
  mask : t.icu.mask = s.icu.mask

namespace Latched

variable {k : Nat} {s t u : State}

theorem congr (h : Latched k s t) (hnw : NwStat t u) (hpwr : u.rd aDEV_PWR_STAT = t.rd aDEV_PWR_STAT) (htable : u.pwr.table = t.pwr.table)
    (hroles : u.pwr.roles = t.pwr.roles) (hmask : u.icu.mask = t.icu.mask) : Latched k s u where
  cause := (hnw fNW_MN_CAUSE rfl (by decide)).trans h.cause
  state := by rw [← h.state]; simp only [State.pstate, State.get, fPWR_STATE, hpwr]
  pend := by rw [← h.pend]; simp only [State.flag, State.get, fPWR_DUSK_PEND, hpwr]
  valid := by rw [← h.valid]; simp only [State.flag, State.get, fPWR_TABLE_VALID, hpwr]
  table := htable.trans h.table
  roles := hroles.trans h.roles
  mask := hmask.trans h.mask

/-- An operation that writes neither status register, nor the power part, nor the interrupt controller. -/
theorem of_kept (h : Latched k s t) {T : List Comp} (hk : Kept T t u) {R : List (Nat × Nat)} (hw : Wr R t u)
    (hT : Comp.pwr ∉ T ∧ Comp.icu ∉ T := by decide) (hR : hits R aDEV_NW_STAT = false ∧ hits R aDEV_PWR_STAT = false := by decide) :
    Latched k s u :=
  h.congr (hw.nwStat hR.1) (hw.eq _ hR.2) (by rw [hk.pwr_eq hT.1]) (by rw [hk.pwr_eq hT.1]) (by rw [hk.icu_eq hT.2])

theorem raise (h : Latched k s t) (n : Nat) : Latched k s (t.raise n) := by
  have hk := State.raise_of_midnight h.state h.pend n
  have hrd (a : Nat) : (t.raise n).rd a = t.rd a := by rw [State.rd, hk.regs_eq, State.rd]
  exact h.congr (fun f _ _ => by rw [State.get, hrd, State.get]) (hrd _) (by rw [hk.pwr_eq]) (by rw [hk.pwr_eq]) (t.raise_mask n)

theorem enqueue (h : Latched k s t) (r : EvtRec) : Latched k s (t.enqueue r) := by
  have hk := State.enqueue_kept (T := [.regs, .evt]) (by decide) r (.refl t)
  exact h.congr (t.enqueue_nwStat r) ((State.enqueue_wr (R := [(0x2A8, 0), (0x5014, 0)]) (by decide) r (.refl t)).eq _ (by decide))
    (by rw [hk.pwr_eq]) (by rw [hk.pwr_eq]) (by rw [hk.icu_eq])

theorem fltSet (h : Latched k s t) (n cls : Nat) : Latched k s (t.fltSet n cls) := by
  have hput (u : State) (hu : Latched k s u) (f : Fld) (v : Nat) (hf : f.addr = aDEV_FLT_ACT ∨ f.addr = aDEV_FLT_FIRST) : Latched k s (u.put f v) :=
    hu.of_kept (T := [.regs]) (State.put_kept (by decide) f v (.refl u)) (R := [(aDEV_FLT_ACT, 0), (aDEV_FLT_FIRST, 0)])
      (State.put_wr (by obtain hf | hf := hf <;> rw [hf] <;> decide) (.refl u))
  unfold State.fltSet
  split
  · exact h
  split
  · exact (hput _ (hput _ (hput _ (hput _ h _ _ (.inl rfl)) fFLT_ANY _ (.inl rfl)) _ _ (.inr rfl)) _ _ (.inr rfl)).raise _
  · exact hput _ h _ _ (.inl rfl)

theorem driveReady (h : Latched k s t) (b : Bool) : Latched k s (t.driveReady b) := by
  have hpins (p : Pins) : Latched k s { t with pins := p } :=
    h.of_kept (T := [.pins]) ((Kept.refl t).upd_pins (by decide)) (R := []) (Wr.upd (.refl t))
  unfold State.driveReady
  split
  · exact (hpins _).raise _
  · exact hpins _

theorem inTable (h : Latched k s t) (c : Nat) : t.inTable c = s.inTable c := by
  simp only [State.inTable, h.valid, h.table, h.roles]

end Latched

namespace State

-- The stages of the entry

/-- The entry latches its cause and STATE (R388, R444). -/
def mnCause (s : State) (k : Nat) : State := ((s.put fNW_MN_CAUSE k).put fPWR_STATE 5).putFlag fPWR_DUSK_PEND false

/-- A Morning check and a self-test that run are dropped (R388, R395). -/
def mnLatch (s : State) (k : Nat) : State := (s.mnCause k).mornDrop.bistStop

/-- The fault group, ASPECT_READY, the safe outputs and the boost stage (R388). -/
def mnShut (s : State) : State := ((((s.fltSet 17 evMIDNIGHT).driveReady false).stoAllOff).put fBST_MODE 7).gateLow

/-- The scan group's LEDs are dark and its slot count starts over (R389). -/
def mnScan (s : State) : State := { s.ledsDark with mtx := { s.ledsDark.mtx with slot := 0 } }.putFlag fMTX_RUN false

/-- The fallback table at the channels (R388). -/
def mnChans (s : State) : State := (List.range 128).foldl fallbackChan s

/-- The banks and the scan group (R388, R389). -/
def mnBanks (s : State) : State := ((List.range 8).foldl fallbackBank s).mnScan

/-- The record, the freeze of the capture ring and the persistence (R388, R431, R418). -/
def mnRecord (s : State) (k : Nat) : State := ((s.logFw evMIDNIGHT kDEVICE 0 [k]).capFreeze true).persistBegin 3

theorem midnightEnter_eq {s : State} (h : s.midnight = false) (k : Nat) :
    s.midnightEnter k = ((((s.mnLatch k).mnShut).mnChans).mnBanks).mnRecord k := by
  unfold midnightEnter
  rw [if_neg (by simp [h])]
  rfl

theorem mnCause_latched (s : State) {k : Nat} (hk : k < 16) : Latched k s (s.mnCause k) where
  cause := by
    have hwr : Wr [(aDEV_PWR_STAT, 0)] (s.put fNW_MN_CAUSE k) (s.mnCause k) := putFlag_wr (by decide) (put_wr (by decide) (.refl _))
    exact (hwr.get fNW_MN_CAUSE).trans (s.get_put_fits fNW_MN_CAUSE hk)
  state := by
    rw [pstate, mnCause, get_putFlag_apart]
    exact get_put_fits _ fPWR_STATE (by decide)
  pend := flag_putFlag _ _ _
  valid := by
    rw [mnCause, flag_putFlag_apart, flag_put_apart]
    exact (put_wr (R := [(aDEV_NW_STAT, 0)]) (by decide) (.refl s)).flag fPWR_TABLE_VALID
  table := by rw [mnCause, putFlag_pwr, put_pwr, put_pwr]
  roles := by rw [mnCause, putFlag_pwr, put_pwr, put_pwr]
  mask := by rw [mnCause, putFlag_icu, put_icu, put_icu]

/-- The latched fallback and the roles of the banks stand. -/
structure FallbackStands (s t : State) : Prop where
  table : t.pwr.table = s.pwr.table
  roles : t.pwr.roles = s.pwr.roles

theorem mornDrop_fallback (s : State) : FallbackStands s s.mornDrop := by
  unfold mornDrop
  refine ⟨?_, ?_⟩
  · simp only [putFlag_pwr]
  · simp only [putFlag_pwr]

theorem mnLatch_latched (s : State) {k : Nat} (hk : k < 16) : Latched k s (s.mnLatch k) := by
  have hdrop : Latched k s (s.mnCause k).mornDrop := by
    have hwr := mornDrop_wr (R := [(0x274, 0)]) (by decide) (.refl (s.mnCause k))
    have hkept := mornDrop_kept (T := [.regs, .pwr]) (by decide) (.refl (s.mnCause k))
    exact (s.mnCause_latched hk).congr hwr.nwStat (hwr.eq _ (by decide)) (mornDrop_fallback _).table (mornDrop_fallback _).roles (by rw [hkept.icu_eq])
  have hkept := bistStop_kept (T := [.regs, .evt, .spi, .adc, .mbx, .bist]) (by decide) (.refl (s.mnCause k).mornDrop)
  have hwr := bistStop_wr (R := [(0x240, 0), (0x280, 0), (0x2A8, 0), (0x5014, 0), (0x17000, 0)]) (by decide) (.refl (s.mnCause k).mornDrop)
  exact hdrop.congr (bistStop_nwStat _) (hwr.eq _ (by decide)) (by rw [mnLatch, hkept.pwr_eq])
    (by rw [mnLatch, hkept.pwr_eq]) (by rw [mnLatch, hkept.icu_eq])

theorem mnShut_latched {k : Nat} {s t : State} (h : Latched k s t) : Latched k s t.mnShut := by
  have hoff (u : State) (hu : Latched k s u) : Latched k s (u.stoAllOff.put fBST_MODE 7).gateLow :=
    hu.of_kept (T := [.regs, .obs, .sto, .pins, .boost])
      (gateLow_kept (by decide) (put_kept (by decide) _ _ (stoAllOff_kept (by decide) (.refl u)))) (R := [(0x6000, 0), (0x200, 0)])
      (gateLow_wr (by decide) (put_wr (by decide) (stoAllOff_wr (by decide) (.refl u))))
  exact hoff _ ((h.fltSet 17 evMIDNIGHT).driveReady false)

theorem mnChans_kept (s : State) : Kept [.regs, .life, .chans, .mtx] s s.mnChans :=
  Kept.fold (fun _ c h => fallbackChan_kept (by decide) c h) (.refl s)

theorem mnChans_wr (s : State) : Wr [(0x200C, 16)] s s.mnChans := Wr.fold (fun _ c h => fallbackChan_wr (by decide) c h) (.refl s)

theorem mnScan_kept (s : State) : Kept [.regs, .mtx] s s.mnScan :=
  putFlag_kept (by decide) _ _ ((ledsDark_kept (by decide) (.refl s)).upd_mtx (by decide))

theorem mnScan_wr (s : State) : Wr [(0x2900, 0)] s s.mnScan := putFlag_wr (by decide) (Wr.upd (ledsDark_wr (by decide) (.refl s)))

theorem mnBanks_kept (s : State) : Kept [.regs, .banks, .mtx] s s.mnBanks :=
  .trans (Kept.fold (fun _ n h => fallbackBank_kept (by decide) n h) (.refl s)) ((mnScan_kept _).mono (by decide))

theorem mnBanks_wr (s : State) : Wr [(0x204, 0), (0x2900, 0)] s s.mnBanks :=
  .trans (Wr.fold (fun _ n h => fallbackBank_wr (by decide) n h) (.refl s)) ((mnScan_wr _).mono (by decide))

/-- The freeze at the entry, up to its record and its source (R431). -/
def mnFrozen (s : State) : State :=
  ({ (s.put fCAP_STATE 3).putFlag fCAP_MN_FREEZE true with cap := { s.cap with paused := none } } : State).put fCAP_PRE
    (minFrom 65535 ((List.range 16).map fun k => s.capPre k s.tick32))

theorem mnFrozen_wr (s : State) : Wr [(0x294, 0)] s s.mnFrozen :=
  put_wr (by decide) (Wr.upd (putFlag_wr (by decide) (put_wr (by decide) (.refl s))))

theorem mnFrozen_kept (s : State) : Kept [.regs, .cap] s s.mnFrozen :=
  put_kept (by decide) _ _ ((putFlag_kept (by decide) _ _ (put_kept (by decide) _ _ (.refl s))).upd_cap (by decide))

theorem capFreeze_midnight (s : State) :
    s.capFreeze true = s.mnFrozen.raise srcCAPTURE ∨ ∃ l, s.capFreeze true = (s.mnFrozen.logEv evCAPTURE kDEVICE 0 l).raise srcCAPTURE :=
  iteInduction (motive := fun t : State => t.raise srcCAPTURE = s.mnFrozen.raise srcCAPTURE
      ∨ ∃ l, t.raise srcCAPTURE = (s.mnFrozen.logEv evCAPTURE kDEVICE 0 l).raise srcCAPTURE)
    (fun _ => .inl rfl) fun _ => .inr ⟨_, rfl⟩

theorem mnRecord_latched {k : Nat} {s t : State} (h : Latched k s t) (n : Nat) : Latched k s (t.mnRecord n) := by
  have hfreeze (u : State) (hu : Latched k s u) : Latched k s (u.capFreeze true) := by
    have hfrozen := hu.of_kept u.mnFrozen_kept u.mnFrozen_wr
    obtain heq | ⟨l, heq⟩ := u.capFreeze_midnight
    · rw [heq]
      exact hfrozen.raise _
    · rw [heq]
      exact (hfrozen.enqueue _).raise _
  have hpersist (u : State) (hu : Latched k s u) : Latched k s (u.persistBegin 3) :=
    hu.of_kept (T := [.regs, .mem, .life, .fspi]) (persistBegin_kept (by decide) 3 (.refl u)) (R := [(0x290, 0)])
      (persistBegin_wr (by decide) 3 (.refl u))
  exact hpersist _ (hfreeze _ (h.enqueue _))

/-- What stands after the entry, from what stood at the latch. -/
theorem midnightEnter_latched {s : State} (hmn : s.midnight = false) {k : Nat} (hk : k < 16) : Latched k s (s.midnightEnter k) := by
  rw [midnightEnter_eq hmn]
  exact mnRecord_latched (((mnShut_latched (s.mnLatch_latched hk)).of_kept (mnChans_kept _) (mnChans_wr _)).of_kept (mnBanks_kept _)
    (mnBanks_wr _)) k

-- Pins and the boost mode

theorem driveReady_low (s : State) : (s.driveReady false).pins.aspectReady = false := by
  have hraise (t : State) (n : Nat) : (t.raise n).pins = t.pins := (raise_kept (T := [.regs, .icu, .nw, .pwr]) (by decide) n (.refl t)).pins_eq
  unfold driveReady
  split
  · rw [hraise]
  · rfl

/-- The boost stage is shut: ASPECT_READY and its gate low, in mode MIDNIGHT. -/
structure BoostShutDown (t : State) : Prop where
  ready : t.pins.aspectReady = false
  gate : t.pins.bstGate = false
  mode : t.get fBST_MODE = 7

theorem mnShut_pins (s : State) : BoostShutDown s.mnShut := by
  have hsto (t : State) : (t.stoAllOff.put fBST_MODE 7).pins = t.pins := by
    rw [put_pins]
    exact (stoAllOff_kept (T := [.regs, .obs, .sto]) (by decide) (.refl t)).pins_eq
  have hgate (t : State) : t.gateLow.pins = { t.pins with bstGate := false } := rfl
  have hwr (t : State) : Wr [] t t.gateLow := gateLow_wr (by decide) (.refl t)
  refine ⟨?_, ?_, ?_⟩
  · rw [mnShut, hgate, hsto]
    exact driveReady_low _
  · rw [mnShut, hgate]
  · rw [mnShut, (hwr _).get fBST_MODE]
    exact get_put_fits _ fBST_MODE (by decide)

/-- After the boost stage is shut the entry touches neither a pin nor the boost mode. -/
theorem mnAfter_kept (s : State) (k : Nat) : Kept [.regs, .life, .chans, .mtx, .banks, .evt, .icu, .nw, .cap, .pwr, .mem, .fspi] s
    (s.mnChans.mnBanks.mnRecord k) :=
  persistBegin_kept (by decide) _ (capFreeze_kept (by decide) _ (logFw_kept (by decide) _ _ _ _
    (.trans (s.mnChans_kept.mono (by decide)) ((mnBanks_kept _).mono (by decide)))))

theorem mnAfter_wr (s : State) (k : Nat) : Wr [(0x200C, 16), (0x204, 0), (0x2900, 0), (0x2A8, 0), (0x5014, 0), (0x270, 0), (0x294, 0),
    (0x1B070, 0), (0x290, 0)] s (s.mnChans.mnBanks.mnRecord k) :=
  persistBegin_wr (by decide) _ (capFreeze_wr (by decide) _ (logFw_wr (by decide) _ _ _ _
    (.trans (s.mnChans_wr.mono (by decide)) ((mnBanks_wr _).mono (by decide)))))

-- Channels

theorem chan_setChan (s : State) (c d : Nat) (x : Chan) : (s.setChan c x).chan d = if d = c then x else s.chan d :=
  tabGet_set (fun _ => defChan) s.chans c d x

theorem chan_setChan_other (s : State) {c d : Nat} (x : Chan) (h : d ≠ c) : (s.setChan c x).chan d = s.chan d :=
  (s.chan_setChan c d x).trans (if_neg h)

theorem chan_congr {s t : State} (h : t.chans = s.chans) (d : Nat) : t.chan d = s.chan d := by rw [chan, h, chan]

theorem unprove_chan (s : State) {c d : Nat} (h : d ≠ c) : (s.unprove c).chan d = s.chan d := by
  have hset (t : State) (x : Chan) (ht : t.chans = s.chans) : (t.setChan c x).chan d = s.chan d :=
    (t.chan_setChan_other x h).trans (chan_congr ht d)
  have hled (t : State) (e : Nat) (l : Led) : (t.setLed e l).chan d = t.chan d := rfl
  unfold unprove
  dsimp only
  split
  · rw [hled]
    exact hset _ _ (by rw [putFlag_chans, put_chans])
  · exact hset _ _ (by rw [putFlag_chans, put_chans])

theorem litStep_chan (s : State) {c d : Nat} (was now : Bool) (h : d ≠ c) : (s.litStep c was now).chan d = s.chan d := by
  have hacc (t : State) (o n : Nat) : (t.lifeAcc o n).chan d = t.chan d := rfl
  unfold litStep
  split
  · rfl
  dsimp only
  split
  · rw [chan_setChan_other _ _ h, hacc, unprove_chan _ h]
  split
  · rw [chan_setChan_other _ _ h, unprove_chan _ h]
  · rw [chan_congr (putFlag_chans _ _ _), chan_setChan_other _ _ h, unprove_chan _ h]

theorem fallbackChan_chan (s : State) {c d : Nat} (h : d ≠ c) : (s.fallbackChan c).chan d = s.chan d := by
  unfold fallbackChan
  dsimp only
  rw [chan_setChan_other _ _ h, litStep_chan _ _ _ h]

/-- A table channel is lit, any other dark with no current (R388). -/
theorem fallbackChan_lit (s : State) (c : Nat) :
    ((s.fallbackChan c).chan c).lit = s.inTable c ∧ (s.inTable c = false → ((s.fallbackChan c).chan c).iop = 0) := by
  unfold fallbackChan
  dsimp only
  rw [chan_setChan, if_pos rfl]
  cases s.inTable c
  · exact ⟨rfl, fun _ => rfl⟩
  · exact ⟨rfl, nofun⟩

theorem fallbackChan_inTable (s : State) (c d : Nat) : (s.fallbackChan c).inTable d = s.inTable d := by
  have hkept := fallbackChan_kept (T := [.regs, .life, .chans, .mtx]) (by decide) c (.refl s)
  have hwr := fallbackChan_wr (R := [(0x200C, 16)]) (by decide) c (.refl s)
  rw [inTable, hkept.pwr_eq, hwr.flag fPWR_TABLE_VALID, inTable]

theorem mnChans_chan (s : State) (n c : Nat) :
    (c < n → (((List.range n).foldl fallbackChan s).chan c).lit = s.inTable c
        ∧ (s.inTable c = false → (((List.range n).foldl fallbackChan s).chan c).iop = 0))
      ∧ ∀ d, ((List.range n).foldl fallbackChan s).inTable d = s.inTable d := by
  induction n with
  | zero => exact ⟨fun h => absurd h (Nat.not_lt_zero c), fun _ => rfl⟩
  | succ n ih =>
    rw [List.range_succ, List.foldl_append, List.foldl_cons, List.foldl_nil]
    refine ⟨fun hc => ?_, fun d => (fallbackChan_inTable _ n d).trans (ih.2 d)⟩
    by_cases h : c = n
    · subst h
      rw [← ih.2 c]
      exact fallbackChan_lit _ c
    · rw [fallbackChan_chan _ h]
      exact ih.1 (by omega)

end State

theorem exec_midnightEntry (k : Fin 8) (s : State) :
    exec (.midnightEntry k) s = if s.pwr.good then .next (s.midnightEnter (k.val + 1)) else .next s := rfl

/-- Settles O10. -/
theorem midnightEntry : Obligations.MidnightEntry := by
  intro k s
  refine ⟨fun hgood hmn => .of_eq ((exec_midnightEntry k s).trans (if_pos hgood)) ?_, fun hmn => ?_⟩
  case refine_1 =>
    have hlatched := State.midnightEnter_latched hmn (k := k.val + 1) (by omega)
    have hkept := State.midnightEnter_kept (T := [.regs, .life, .chans, .mtx, .banks, .evt, .icu, .nw, .cap, .pwr, .mem, .fspi, .pins,
      .boost, .obs, .sto, .spi, .adc, .mbx, .bist]) (by decide) (k.val + 1) (.refl s)
    have hmid : (s.midnightEnter (k.val + 1)).midnight = true := by rw [State.midnight, hlatched.cause]; rfl
    obtain ⟨hready, hgate, hmode⟩ := State.mnShut_pins (s.mnLatch (k.val + 1))
    have hafter := State.mnAfter_kept (s.mnLatch (k.val + 1)).mnShut (k.val + 1)
    have hwr := State.mnAfter_wr (s.mnLatch (k.val + 1)).mnShut (k.val + 1)
    rw [← State.midnightEnter_eq hmn] at hafter hwr
    refine ⟨hlatched.cause, hlatched.state, hmid, by rw [hafter.pins_eq, hready], by rw [hafter.pins_eq, hgate],
      (hwr.get fBST_MODE).trans hmode, fun c hc => ?_, hkept.cfg_eq, hkept.rule_eq, hkept.res_eq, hkept.ring_eq, hkept.ptp_eq,
      hkept.sec_eq, hlatched.mask⟩
    have hchan : (s.midnightEnter (k.val + 1)).chan c = (s.mnLatch (k.val + 1)).mnShut.mnChans.chan c := by
      rw [State.midnightEnter_eq hmn]
      have hrest (t : State) : Kept [.regs, .mtx, .banks, .evt, .icu, .nw, .cap, .pwr, .mem, .life, .fspi] t (t.mnBanks.mnRecord (k.val + 1)) :=
        State.persistBegin_kept (by decide) _ (State.capFreeze_kept (by decide) _ (State.logFw_kept (by decide) _ _ _ _
          (t.mnBanks_kept.mono (by decide))))
      exact State.chan_congr (hrest _).chans_eq c
    have htable : (s.mnLatch (k.val + 1)).mnShut.inTable c = s.inTable c :=
      (State.mnShut_latched (s.mnLatch_latched (k := k.val + 1) (by omega))).inTable c
    obtain ⟨hlit, -⟩ := State.mnChans_chan (s.mnLatch (k.val + 1)).mnShut 128 c
    rw [hchan, ← htable]
    exact hlit hc
  case refine_2 =>
    refine ⟨s, ?_, rfl⟩
    rw [exec_midnightEntry, State.midnightEnter, if_pos hmn, ite_self]

end Sys2Proof.Machine
end

section
/-! THE DIE-TO-DIE LINK (R9-R15): a good transfer is taken, a bad one counted; errors in both halves, or silence, lose the link; a
failed retransmission narrows it. -/

namespace Sys2Proof.Machine

theorem Link.dir_setDir (l : Link) (i j : Nat) (d : LinkDir) : (l.setDir i d).dir j = if j = i then d else l.dir j :=
  tabGet_set (fun _ => defDir) l.dirs i j d

-- The parity of a transfer

/-- The transfer of a sender has good parity in every lane (R9). -/
theorem badLanes_make (l : Link) (cls seq : Nat) (data : List Word) : l.badLanes (Xfer.make cls seq data) = 0 := by
  unfold Link.badLanes Xfer.make
  simp

theorem seq_make (seq cls : Nat) : (Xfer.make cls seq [0]).seq = seq % 256 := by
  unfold Xfer.make Xfer.seq bitsOf
  simp only [List.length_cons, List.length_nil, BitVec.toNat_ofNat]
  omega

theorem shaped_make (seq : Nat) : (Xfer.make 2 seq [0]).shaped = true := by
  unfold Xfer.make Xfer.shaped Xfer.words Xfer.type bitsOf
  simp only [List.length_cons, List.length_nil, BitVec.toNat_ofNat, Bool.and_eq_true, decide_eq_true_eq, beq_iff_eq]
  omega

theorem badLanes_lt {l : Link} (h : l.narrow = false) (x : Xfer) : l.badLanes x < 2 ^ 32 := by
  rw [Link.badLanes, if_pos (by simp [h])]
  exact BitVec.isLt _

namespace State

/-- A transfer that is not accepted is counted and asked for again (R12). -/
def linkCounted (s : State) (dir : Nat) : State :=
  s.setLink { s.link.setDir dir { s.link.dir dir with retry := true } with err := (s.link.err + 1) % 2 ^ 32 }

theorem linkCounted_kept (s : State) (dir : Nat) : Kept [.link] s (s.linkCounted dir) := setLink_kept (by decide) _ (.refl s)

theorem linkCounted_dir (s : State) (dir : Nat) : (s.linkCounted dir).link.dir dir = { s.link.dir dir with retry := true } :=
  (s.link.dir_setDir dir dir _).trans (if_pos rfl)

variable {s : State} {dir : Nat} {x : Xfer}

theorem linkTransfer_taken (hlost : s.link.lost = false) (hbad : s.link.badLanes x = 0) (hshaped : x.shaped = true)
    (hseq : x.seq = ((s.link.dir dir).seq + 1) % 256) :
    ((s.linkTransfer dir x).link.dir dir).seq = ((s.link.dir dir).seq + 1) % 256 ∧ ((s.linkTransfer dir x).link.dir dir).retry = false
      ∧ (s.linkTransfer dir x).link.err = s.link.err ∧ (s.linkTransfer dir x).link.lost = false ∧ Only [.link] s (s.linkTransfer dir x) := by
  have hkept : Only [.link] s (s.linkTransfer dir x) := by
    unfold linkTransfer
    dsimp only
    rw [if_neg (by simp [hlost]), if_pos ⟨hbad, hshaped, hseq⟩]
    exact (setLink_kept (by decide) _ (setLink_kept (by decide) _ (.refl s))).only
  refine ⟨?_, ?_, ?_, ?_, hkept⟩ <;> unfold linkTransfer <;> dsimp only <;> rw [if_neg (by simp [hlost]), if_pos ⟨hbad, hshaped, hseq⟩]
  · rw [setLink, Link.dir_setDir, if_pos rfl, setLink, Link.dir_setDir, if_pos rfl, hseq]
  · rw [setLink, Link.dir_setDir, if_pos rfl, setLink, Link.dir_setDir, if_pos rfl]
  · rfl
  · exact hlost

/-- A transfer that is not accepted (R12-R14). -/
theorem linkTransfer_bad (hlost : s.link.lost = false)
    (hbad : ¬ (s.link.badLanes x = 0 ∧ x.shaped = true ∧ x.seq = ((s.link.dir dir).seq + 1) % 256)) :
    s.linkTransfer dir x = if s.link.badLanes x % 65536 ≠ 0 ∧ s.link.badLanes x / 65536 ≠ 0 then (s.linkCounted dir).linkLost
      else (if s.link.badLanes x = 0 then (s.linkCounted dir).seqError else (s.linkCounted dir).laneErrors dir (s.link.badLanes x)).linkWear
        dir (s.link.badLanes x) (s.link.dir dir).retry := by
  unfold linkTransfer
  dsimp only
  rw [if_neg (by simp [hlost]), if_neg hbad]
  rfl

-- The link is lost

theorem driveReady_hostIrqN (s : State) (b : Bool) : (s.driveReady b).pins.hostIrqN = s.pins.hostIrqN := by
  have hraise (t : State) (n : Nat) : (t.raise n).pins = t.pins := (raise_kept (T := [.regs, .icu, .nw, .pwr]) (by decide) n (.refl t)).pins_eq
  unfold driveReady
  split
  · rw [hraise]
  · rfl

theorem mnShut_hostIrqN (s : State) : s.mnShut.pins.hostIrqN = s.pins.hostIrqN := by
  have hsto (t : State) : (t.stoAllOff.put fBST_MODE 7).pins = t.pins := by
    rw [put_pins]
    exact (stoAllOff_kept (T := [.regs, .obs, .sto]) (by decide) (.refl t)).pins_eq
  have hgate (t : State) : t.gateLow.pins = { t.pins with bstGate := false } := rfl
  have hflt : (s.fltSet 17 evMIDNIGHT).pins = s.pins :=
    (fltSet_kept (T := [.regs, .icu, .nw, .pwr]) (by decide) 17 evMIDNIGHT (.refl s)).pins_eq
  rw [mnShut, hgate, hsto]
  exact (driveReady_hostIrqN _ _).trans (congrArg Pins.hostIrqN hflt)

theorem mnLatch_pins (s : State) (k : Nat) : (s.mnLatch k).pins = s.pins :=
  (bistStop_kept (T := [.regs, .pwr, .evt, .spi, .adc, .mbx, .bist]) (by decide) (mornDrop_kept (by decide) (putFlag_kept (by decide) _ _
    (put_kept (by decide) _ _ (put_kept (by decide) _ _ (.refl s)))))).pins_eq

/-- The entry leaves HOST_IRQ_N. -/
theorem midnightEnter_hostIrqN (s : State) (k : Nat) : (s.midnightEnter k).pins.hostIrqN = s.pins.hostIrqN := by
  cases hmn : s.midnight with
  | true => rw [midnightEnter, if_pos hmn]
  | false => rw [midnightEnter_eq hmn, (mnAfter_kept _ k).pins_eq, mnShut_hostIrqN, mnLatch_pins]

theorem midnightEnter_midnight (s : State) {k : Nat} (h0 : 0 < k) (hk : k < 16) : (s.midnightEnter k).midnight = true := by
  cases hmn : s.midnight with
  | true => rw [midnightEnter, if_pos hmn, hmn]
  | false =>
    rw [midnight, (midnightEnter_latched hmn hk).cause]
    exact bne_iff_ne.2 (by omega)

/-- The state in which the loss of the link enters Midnight. -/
def linkCut (s : State) : State :=
  { s.setLink { s.link with lost := true } with pins := { (s.setLink { s.link with lost := true }).pins with hostIrqN := true } }

theorem linkLost_eq (s : State) : s.linkLost = s.linkCut.midnightEnter 3 := rfl

/-- What the loss of the link leaves (R14, R358). -/
structure LinkDown (s t : State) : Prop where
  link : t.link = { s.link with lost := true }
  hostIrqN : t.pins.hostIrqN = true
  midnight : t.midnight = true
  cause : s.midnight = false → t.get fNW_MN_CAUSE = 3

theorem linkLost_effect (s : State) : LinkDown s s.linkLost := by
  have hlink := (midnightEnter_kept (T := [.regs, .life, .chans, .mtx, .banks, .evt, .icu, .nw, .cap, .pwr, .mem, .fspi, .pins,
      .boost, .obs, .sto, .spi, .adc, .mbx, .bist]) (by decide) 3 (.refl s.linkCut)).link_eq
  rw [linkLost_eq]
  exact ⟨hlink, midnightEnter_hostIrqN _ 3, midnightEnter_midnight _ (by decide) (by decide),
    fun hmn => (midnightEnter_latched (s := s.linkCut) hmn (by decide)).cause⟩

-- The link narrows

theorem bitOf_eq_testBit (x n : Nat) : bitOf x n = x.testBit n := by
  rw [bitOf, Nat.testBit_eq_decide_div_mod_eq]
  exact beq_eq_decide _ _

/-- A lane in error of a transfer whose errors are all in one half lies in that half. -/
theorem lane_half {bad i : Nat} (hbit : bitOf bad i = true) (hhalf : bad % 65536 = 0 ∨ bad / 65536 = 0) : i < 16 ↔ bad % 65536 ≠ 0 := by
  rw [bitOf_eq_testBit] at hbit
  constructor
  · intro hlt h0
    have hlow : (bad % 2 ^ 16).testBit i = true := by rw [Nat.testBit_mod_two_pow, hbit]; simp [hlt]
    rw [show bad % 2 ^ 16 = 0 from h0, Nat.zero_testBit] at hlow
    exact absurd hlow (by decide)
  · intro h0
    by_contra hge
    have hsmall : bad < 2 ^ i := lt_of_lt_of_le (b := 2 ^ 16) (by omega) (Nat.pow_le_pow_right (by decide) (by omega))
    rw [Nat.testBit_lt_two_pow hsmall] at hbit
    exact absurd hbit (by decide)

/-- The lane that a failed retransmission names, with errors in one half only (R13). -/
theorem wornLane_half {bad : Nat} (p : Nat → Bool) (h0 : bad ≠ 0) (hlt : bad < 2 ^ 32) (hhalf : bad % 65536 = 0 ∨ bad / 65536 = 0) :
    ((((List.range 32).filter (bitOf bad)).filter p ++ (List.range 32).filter (bitOf bad)).headD 16 < 16) ↔ bad % 65536 ≠ 0 := by
  have hhead : ∀ l : List Nat, l ≠ [] → l.headD 16 ∈ l := fun l hl => by cases l <;> simp_all
  obtain ⟨i, hi⟩ := Nat.exists_testBit_of_ne_zero h0
  have hi32 : i < 32 := by
    by_contra hge
    rw [Nat.testBit_lt_two_pow (lt_of_lt_of_le hlt (Nat.pow_le_pow_right (by decide) (by omega)))] at hi
    exact absurd hi (by decide)
  have hmem : i ∈ (List.range 32).filter (bitOf bad) :=
    List.mem_filter.2 ⟨List.mem_range.2 hi32, by rw [bitOf_eq_testBit]; exact hi⟩
  have hlane := hhead (((List.range 32).filter (bitOf bad)).filter p ++ (List.range 32).filter (bitOf bad))
    fun h => List.ne_nil_of_mem hmem (List.append_eq_nil_iff.1 h).2
  refine lane_half ?_ hhalf
  obtain h | h := List.mem_append.1 hlane
  · exact (List.mem_filter.1 (List.mem_filter.1 h).1).2
  · exact (List.mem_filter.1 h).2

/-- The narrow link after an error on `lane` (R13). -/
def linkHalved (s : State) (lane : Nat) : State :=
  s.setLink { (s.link.setDir 0 { s.link.dir 0 with retry := false }).setDir 1 { s.link.dir 1 with retry := false } with
    narrow := true, half := if lane < 16 then 1 else 0 }

theorem linkHalved_kept (s : State) (lane : Nat) : Kept [.link] s (s.linkHalved lane) := setLink_kept (by decide) _ (.refl s)

theorem linkNarrow_eq (hnarrow : s.link.narrow = false) (htest : s.underTest bkLINK = false) (lane : Nat) :
    s.linkNarrow lane = (((s.linkHalved lane).logEv evDIE_LINK_DEGRADED kDEVICE 0 [lane]).raise srcDIE_LINK).fltSet 12 evDIE_LINK_DEGRADED := by
  unfold linkNarrow
  rw [if_neg (by simp [hnarrow]), if_neg (by simp [testedHalfBad, htest])]
  dsimp only
  rw [if_neg (by simp [htest])]
  rfl

/-- A failed retransmission on a wide link narrows it (R13). -/
theorem linkWear_again (hnarrow : s.link.narrow = false) (dir bad : Nat) : ∃ p : Nat → Bool, s.linkWear dir bad true
    = s.linkNarrow ((((List.range 32).filter (bitOf bad)).filter p ++ (List.range 32).filter (bitOf bad)).headD 16) := by
  refine ⟨fun i => decide (3 ≤ (tabGet (fun _ => []) (s.link.dir dir).lanes i).length), ?_⟩
  unfold linkWear
  dsimp only
  rw [if_neg (by simp), if_neg (by simp [hnarrow])]

theorem laneErrors_link (s : State) (dir bad : Nat) : ∃ t, (s.laneErrors dir bad).link = { s.link with dirs := t } := ⟨_, rfl⟩

/-- What narrowing leaves (R13, R432). -/
theorem linkNarrow_effect {z : State} (hs : Kept [.link] z s) (hnarrow : s.link.narrow = false) (htest : s.underTest bkLINK = false)
    (lane : Nat) : (∃ dirs, (s.linkNarrow lane).link = { s.link with dirs := dirs, narrow := true, half := if lane < 16 then 1 else 0 })
      ∧ (s.linkNarrow lane).flag (fFLT_GROUP 12) = true ∧ Logged z (s.linkNarrow lane) evDIE_LINK_DEGRADED (kDEVICE * 4096)
      ∧ Only [.regs, .icu, .evt, .nw, .pwr, .link] z (s.linkNarrow lane) := by
  have hhalved : Kept [.link] z (s.linkHalved lane) := setLink_kept (by decide) _ hs
  have hafter (t : State) : Kept [.regs, .icu, .nw, .pwr] t ((t.raise srcDIE_LINK).fltSet 12 evDIE_LINK_DEGRADED) :=
    fltSet_kept (by decide) _ _ (raise_kept (by decide) _ (.refl t))
  have hlog (t : State) : Kept [.regs, .evt] t (t.logEv evDIE_LINK_DEGRADED kDEVICE 0 [lane]) := logEv_kept (by decide) _ _ _ _ (.refl t)
  have hopen : (s.linkHalved lane).logOpen = z.logOpen := by
    have hrd (a : Nat) : (s.linkHalved lane).rd a = z.rd a := by rw [rd, hhalved.regs_eq, rd]
    simp only [logOpen, inDusk, pstate, flag, get, hrd, hhalved.evt_eq, hhalved.pwr_eq]
  rw [linkNarrow_eq hnarrow htest]
  refine ⟨⟨((s.link.setDir 0 { s.link.dir 0 with retry := false }).setDir 1 { s.link.dir 1 with retry := false }).dirs, ?_⟩,
    fltSet_flag _ _ (by decide) (by decide), ?_, ?_⟩
  · rw [(hafter _).link_eq, (hlog _).link_eq]
    rfl
  · exact logged_logEv kDEVICE 0 [lane] hopen (by rw [hhalved.evt_eq]) (by rw [(hafter _).evt_eq]) rfl
  · exact (fltSet_kept (by decide) _ _ (raise_kept (by decide) _ (logEv_kept (by decide) _ _ _ _ (hhalved.mono (by decide))))).only

end State

theorem exec_linkTransfer (dir : Bool) (head check : BitVec 32) (data : List (BitVec 32)) (s : State) :
    exec (.linkTransfer dir head data check) s = .next (s.linkTransfer (boolNat dir) ⟨head, data, check⟩) := rfl

theorem exec_linkHeartbeat (dir : Bool) (s : State) : exec (.linkHeartbeat dir) s =
    .next (s.linkTransfer (boolNat dir) (Xfer.make 2 ((s.link.dir (boolNat dir)).seq + 1) [0])) := rfl

theorem exec_linkSilenceTimeout (s : State) : exec .linkSilenceTimeout s = if s.link.lost then .next s else .next s.linkLost := rfl

/-- Settles O11. -/
theorem dieLink : Obligations.DieLink := by
  intro dir head check data s x d bad next taken
  have hstays (hlost : s.link.lost = true) (y : Xfer) : s.linkTransfer (boolNat dir) y = s := by
    unfold State.linkTransfer
    dsimp only
    rw [if_pos hlost]
  refine ⟨fun hlost hbad hshaped hseq => .of_eq rfl (State.linkTransfer_taken hlost hbad hshaped hseq),
    fun hlost => .of_eq rfl (State.linkTransfer_taken hlost (badLanes_make _ _ _ _) (shaped_make _) (seq_make _ _)),
    fun hlost hlow hhigh => .of_eq rfl ?_, fun hlost hbad hform hretry herrs => .of_eq rfl ?_,
    fun hlost hnarrow hbad hhalf hretry htest => .of_eq rfl ?_, fun hlost => .of_eq ((exec_linkSilenceTimeout s).trans (if_neg (by simp [hlost]))) ?_,
    fun hlost c hc => ?_⟩
  case refine_1 =>
    obtain ⟨hlink, hirq, hmid, hcause⟩ := (s.linkCounted (boolNat dir)).linkLost_effect
    rw [State.linkTransfer_bad hlost (fun h => hlow (by rw [show bad = 0 from h.1])), if_pos ⟨hlow, hhigh⟩]
    have hcounted := (State.linkCounted_kept s (boolNat dir)).regs_eq
    refine ⟨by rw [hlink], by rw [hlink]; rfl, hirq, hmid, fun hmn => hcause ?_⟩
    rw [← hmn, State.midnight, State.get, State.rd, hcounted]
    rfl
  case refine_2 =>
    have herr : (s.linkCounted (boolNat dir)).seqError
        = (s.linkCounted (boolNat dir)).setLink { (s.linkCounted (boolNat dir)).link with seqErr := [s.grid.tick] } := by
      have hticks : State.errTicks (s.linkCounted (boolNat dir)).grid.tick (s.linkCounted (boolNat dir)).link.seqErr = [s.grid.tick] := by
        have hnone : (s.linkCounted (boolNat dir)).link.seqErr = [] := herrs
        rw [hnone, (s.linkCounted_kept (boolNat dir)).grid_eq]
        rfl
      unfold State.seqError
      rw [hticks]
      rfl
    have hwear (t : State) (n : Nat) : t.linkWear n 0 false = t := by
      unfold State.linkWear
      have hnone : (List.range 32).filter (bitOf 0) = [] := by decide
      simp [hnone]
    have heq : s.linkTransfer (boolNat dir) x = (s.linkCounted (boolNat dir)).seqError := by
      rw [State.linkTransfer_bad hlost (fun h => hform.elim (fun hf => absurd h.2.1 (by simp [hf])) fun hs => hs h.2.2)]
      rw [show s.link.badLanes x = 0 from hbad, if_neg (by decide), if_pos rfl, show (s.link.dir (boolNat dir)).retry = false from hretry,
        hwear]
    show (s.linkTransfer (boolNat dir) x).link.lost = false ∧ _
    rw [show s.linkTransfer (boolNat dir) ⟨head, data, check⟩ = _ from heq, herr]
    exact ⟨hlost, rfl, State.linkCounted_dir s (boolNat dir), (State.setLink_kept (by decide) _ (State.linkCounted_kept s (boolNat dir))).only⟩
  case refine_3 =>
    have hwide : bad < 2 ^ 32 := badLanes_lt hnarrow x
    have heq : s.linkTransfer (boolNat dir) x = ((s.linkCounted (boolNat dir)).laneErrors (boolNat dir) bad).linkWear (boolNat dir) bad true := by
      rw [State.linkTransfer_bad hlost (fun h => hbad h.1), if_neg (fun h => hhalf.elim h.1 h.2), if_neg hbad,
        show (s.link.dir (boolNat dir)).retry = true from hretry]
    obtain ⟨dirs, hlanes⟩ := (s.linkCounted (boolNat dir)).laneErrors_link (boolNat dir) bad
    have hkept : Kept [.link] s ((s.linkCounted (boolNat dir)).laneErrors (boolNat dir) bad) :=
      State.laneErrors_kept (by decide) _ _ (s.linkCounted_kept (boolNat dir))
    obtain ⟨p, hwear⟩ := State.linkWear_again (s := (s.linkCounted (boolNat dir)).laneErrors (boolNat dir) bad) (by rw [hlanes]; exact hnarrow)
      (boolNat dir) bad
    have hunder : ((s.linkCounted (boolNat dir)).laneErrors (boolNat dir) bad).underTest bkLINK = false := by
      rw [State.underTest, hkept.bist_eq]
      exact htest
    obtain ⟨⟨dirs', hlink⟩, hflt, hlog, honly⟩ := State.linkNarrow_effect hkept (by rw [hlanes]; exact hnarrow) hunder
      ((((List.range 32).filter (bitOf bad)).filter p ++ (List.range 32).filter (bitOf bad)).headD 16)
    rw [heq, hwear]
    refine ⟨by rw [hlink], ?_, by rw [hlink, hlanes]; exact hlost, by rw [hlink, hlanes]; rfl, hflt, hlog, honly⟩
    rw [hlink]
    have hside := State.wornLane_half p hbad hwide hhalf
    by_cases h0 : bad % 65536 = 0
    · rw [if_pos h0]
      exact if_neg fun h => hside.1 h h0
    · rw [if_neg h0]
      exact if_pos (hside.2 h0)
  case refine_4 =>
    obtain ⟨hlink, hirq, hmid, hcause⟩ := s.linkLost_effect
    exact ⟨by rw [hlink], hirq, hmid, hcause⟩
  case refine_5 =>
    simp only [List.mem_cons, List.not_mem_nil, or_false] at hc
    obtain rfl | rfl | rfl := hc
    · exact .of_eq rfl (hstays hlost _)
    · exact .of_eq rfl (hstays hlost _)
    · exact .of_eq ((exec_linkSilenceTimeout s).trans (if_pos hlost)) rfl

end Sys2Proof.Machine
end

section
/-! THE DEADLINE MONITOR (R37-R48): a class counts a miss or an on-time commit by a part that is the same for all; what comes before it
is the class's own and touches neither the counter nor the runs. -/

namespace Sys2Proof.Machine

-- Pending sources only grow

/-- What was pending in `s` is pending in `t`. -/
def PendGrows (s t : State) : Prop := ∀ n, s.sourcePending n = true → t.sourcePending n = true

theorem PendGrows.refl (s : State) : PendGrows s s := fun _ h => h

theorem PendGrows.trans {s t u : State} (h : PendGrows s t) (k : PendGrows t u) : PendGrows s u := fun n hn => k n (h n hn)

theorem Kept.pendGrows {T : List Comp} {s t : State} (h : Kept T s t) (hT : Comp.icu ∉ T := by decide) : PendGrows s t := fun n hn => by
  rw [← hn, State.sourcePending, State.icuPend, h.icu_eq hT, State.sourcePending, State.icuPend]

namespace State

theorem raise_pendGrows (s : State) (n : Nat) : PendGrows s (s.raise n) := fun k hk => by
  rw [sourcePending, icuPend_raise]
  split
  case isTrue => rw [BitVec.getLsbD_or, show (s.icuPend (3 + k / 32)).getLsbD (k % 32) = true from hk, Bool.true_or]
  case isFalse => exact hk

theorem fltSet_pendGrows (s : State) (n cls : Nat) : PendGrows s (s.fltSet n cls) := by
  have hput (t : State) (f : Fld) (v : Nat) : PendGrows t (t.put f v) := (put_kept (T := [.regs]) (by decide) f v (.refl t)).pendGrows
  unfold fltSet
  split
  · exact .refl s
  split
  · exact ((((hput _ _ _).trans (hput _ fFLT_ANY _)).trans (hput _ _ _)).trans (hput _ _ _)).trans (raise_pendGrows _ _)
  · exact hput _ _ _

theorem fltFollow_pendGrows (s : State) (n cls : Nat) (on : Bool) : PendGrows s (s.fltFollow n cls on) := by
  unfold fltFollow
  split
  · exact s.fltSet_pendGrows n cls
  · exact (fltClr_kept (T := [.regs]) (by decide) n (.refl s)).pendGrows

theorem driveReady_pendGrows (s : State) (b : Bool) : PendGrows s (s.driveReady b) := by
  have hpins (p : Pins) : PendGrows s { s with pins := p } := fun _ h => h
  unfold driveReady
  split
  · exact (hpins _).trans (raise_pendGrows _ _)
  · exact hpins _

theorem dutyHold_pendGrows (s : State) (cls : Nat) : PendGrows s (s.dutyHold cls) := by
  unfold dutyHold
  dsimp only
  refine PendGrows.trans ?_ (fltFollow_pendGrows _ _ _ _)
  exact (Kept.upd_boost (T := [.regs, .boost]) (.ite (put_kept (by decide) _ _ (putFlag_kept (by decide) _ _ (.refl s)))
    (putFlag_kept (by decide) _ _ (.refl s))) (by decide)).pendGrows

theorem ruleStall_pendGrows (s : State) : PendGrows s s.ruleStall := by
  unfold ruleStall
  split
  · exact .refl s
  dsimp only
  refine PendGrows.trans ?_ (driveReady_pendGrows _ _)
  refine PendGrows.trans ?_ (fltSet_pendGrows _ _ _)
  exact (Kept.upd_res (T := [.regs, .evt, .res]) (logEv_kept (by decide) _ _ _ _ (putFlag_kept (by decide) _ _ (.refl s))) (by decide)).pendGrows

-- The part that every class has

theorem missRun_setRun (s : State) (k n j : Nat) : (s.setRun k n).missRun j = if j = k then n else s.missRun j :=
  tabGet_set (fun _ => 0) s.grid.runs k j n

theorem missRun_congr {s t : State} (h : t.grid = s.grid) (j : Nat) : t.missRun j = s.missRun j := by rw [missRun, h, missRun]

/-- A missed commit is counted (R39). -/
def missCounted (s : State) (k : Nat) : State := ((s.bump (aDEV_DLM_CNT k)).setRun k (s.missRun k + 1)).lifeAcc (lifeDevice + 32) 1

/-- The onset of a run is logged (R39). -/
def missLogged (s : State) (k n : Nat) : State := if n = 1 then s.logEv evDEADLINE_MISS kDEVICE k [k, 1] else s

/-- The run of on-time results of BOOST or RULE ends (R42, R43). -/
def missBroken (s : State) (k : Nat) : State :=
  if k = clBOOST then { s with boost := { s.boost with onTime := 0 } }
  else if k = clRULE then { s with res := { s.res with onTime := 0 } } else s

/-- The reaction of BOOST and RULE to the third miss in a row (R42, R43). -/
def missReacted (s : State) (k n : Nat) : State :=
  if n = 3 ∧ k = clBOOST then s.dutyHold evDEADLINE_MISS else if n = 3 ∧ k = clRULE then s.ruleStall else s

theorem deadlineMiss_eq (s : State) (k : Nat) : s.deadlineMiss k =
    (((((s.missCounted k).raise srcDEADLINE_MISS).missLogged k (s.missRun k + 1)).missBroken k).missReacted k (s.missRun k + 1)).deadlineGroup :=
  rfl

/-- What follows the raised source. -/
def missTail (s : State) (k n : Nat) : State := (((s.missLogged k n).missBroken k).missReacted k n).deadlineGroup

theorem missTail_kept (s : State) (k n : Nat) : Kept [.regs, .pins, .icu, .evt, .nw, .pwr, .boost, .res] s (s.missTail k n) := by
  have hlogged : Kept [.regs, .pins, .icu, .evt, .nw, .pwr, .boost, .res] s (s.missLogged k n) :=
    .ite (logEv_kept (by decide) _ _ _ _ (.refl s)) (.refl s)
  have hbroken : Kept [.regs, .pins, .icu, .evt, .nw, .pwr, .boost, .res] s ((s.missLogged k n).missBroken k) :=
    .ite (hlogged.upd_boost (by decide)) (.ite (hlogged.upd_res (by decide)) hlogged)
  exact deadlineGroup_kept (by decide) (.ite (dutyHold_kept (by decide) _ hbroken) (.ite (ruleStall_kept (by decide) hbroken) hbroken))

theorem missTail_wr (s : State) (k n : Nat) : Wr [(0x100, 0), (0x200, 0), (0x270, 0), (0x2A0, 0), (0x2A4, 0), (0x2A8, 0), (0x5014, 0),
    (0x1B070, 0)] s (s.missTail k n) := by
  have hlogged : Wr [(0x100, 0), (0x200, 0), (0x270, 0), (0x2A0, 0), (0x2A4, 0), (0x2A8, 0), (0x5014, 0), (0x1B070, 0)] s (s.missLogged k n) :=
    .ite (logEv_wr (by decide) _ _ _ _ (.refl s)) (.refl s)
  have hbroken : Wr [(0x100, 0), (0x200, 0), (0x270, 0), (0x2A0, 0), (0x2A4, 0), (0x2A8, 0), (0x5014, 0), (0x1B070, 0)] s
      ((s.missLogged k n).missBroken k) := .ite (Wr.upd hlogged) (.ite (Wr.upd hlogged) hlogged)
  exact deadlineGroup_wr (by decide) (.ite (dutyHold_wr (by decide) _ hbroken) (.ite (ruleStall_wr (by decide) hbroken) hbroken))

theorem missTail_pendGrows (s : State) (k n : Nat) : PendGrows s (s.missTail k n) := by
  have hbroken : PendGrows s ((s.missLogged k n).missBroken k) := by
    have hlogged : Kept [.regs, .evt, .boost, .res] s (s.missLogged k n) := .ite (logEv_kept (by decide) _ _ _ _ (.refl s)) (.refl s)
    exact (Kept.ite (hlogged.upd_boost (by decide)) (.ite (hlogged.upd_res (by decide)) hlogged)).pendGrows
  refine (hbroken.trans ?_).trans (fltFollow_pendGrows _ _ _ _)
  exact iteInduction (motive := PendGrows _) (fun _ => dutyHold_pendGrows _ _) fun _ =>
    iteInduction (motive := PendGrows _) (fun _ => ruleStall_pendGrows _) fun _ => .refl _

theorem ruleStall_asps (s : State) : s.ruleStall.res.asps = s.res.asps := by
  have hafter (t : State) : (t.fltSet 5 evRULE_STALL |>.driveReady false).res = t.res :=
    (driveReady_kept (T := [.regs, .pins, .icu, .nw, .pwr]) (by decide) _ (fltSet_kept (by decide) _ _ (.refl t))).res_eq
  have hlog : ((s.putFlag fGRID_RULE_STALL true).logEv evRULE_STALL kDEVICE 0 []).res = s.res :=
    (logEv_kept (T := [.regs, .evt]) (by decide) _ _ _ _ (putFlag_kept (by decide) _ _ (.refl s))).res_eq
  unfold ruleStall
  split
  · rfl
  dsimp only
  rw [hafter, hlog]

theorem missTail_asps (s : State) (k n : Nat) : (s.missTail k n).res.asps = s.res.asps := by
  have hlogged : (s.missLogged k n).res = s.res :=
    (Kept.ite (logEv_kept (T := [.regs, .evt]) (by decide) _ _ _ _ (.refl s)) (.refl s) : Kept [.regs, .evt] s (s.missLogged k n)).res_eq
  have hbroken : ((s.missLogged k n).missBroken k).res.asps = s.res.asps := by
    unfold missBroken
    split
    · rw [hlogged]
    split
    · rw [hlogged]
    · rw [hlogged]
  have hreacted (t : State) : (t.missReacted k n).res.asps = t.res.asps := by
    unfold missReacted
    split
    · rw [(dutyHold_kept (T := [.regs, .icu, .nw, .pwr, .boost]) (by decide) _ (.refl t)).res_eq]
    split
    · exact t.ruleStall_asps
    · rfl
  have hgroup (t : State) : t.deadlineGroup.res = t.res := (deadlineGroup_kept (T := [.regs, .icu, .nw, .pwr]) (by decide) (.refl t)).res_eq
  rw [missTail, hgroup, hreacted, hbroken]

theorem missCounted_wr_run (s : State) (k : Nat) : Wr [(0x160, 0)] (s.bump (aDEV_DLM_CNT k)) (s.missCounted k) :=
  lifeAcc_wr (by decide) _ _ (setRun_wr (by decide) _ _ (.refl _))

theorem missCounted_kept (s : State) (k : Nat) : Kept [.regs, .grid, .life] s (s.missCounted k) :=
  lifeAcc_kept (by decide) _ _ (setRun_kept (by decide) _ _ (bump_kept (by decide) _ (.refl s)))

/-- A miss of a class counts (R39). -/
structure MissCounted (s t : State) (k : Nat) : Prop where
  count : t.rd (aDEV_DLM_CNT k) = s.rd (aDEV_DLM_CNT k) + 1
  run : ∀ j, t.missRun j = if j = k then s.missRun k + 1 else s.missRun j
  raised : t.sourcePending srcDEADLINE_MISS = true
  kept : Kept [.regs, .grid, .pins, .icu, .evt, .nw, .life, .pwr, .boost, .res] s t
  asps : t.res.asps = s.res.asps

theorem deadlineMiss_effect (s : State) {k : Nat} (hk : k < 8) : MissCounted s (s.deadlineMiss k) k := by
  have heq : s.deadlineMiss k = ((s.missCounted k).raise srcDEADLINE_MISS).missTail k (s.missRun k + 1) := s.deadlineMiss_eq k
  have hraise (t : State) : Kept [.regs, .icu, .nw, .pwr] t (t.raise srcDEADLINE_MISS) := raise_kept (by decide) _ (.refl t)
  have htail (t : State) (n : Nat) := t.missTail_kept k n
  have hcnt : ∀ k < 8, hits [(0x100, 0), (0x200, 0), (0x270, 0), (0x2A0, 0), (0x2A4, 0), (0x2A8, 0), (0x5014, 0), (0x1B070, 0)] (aDEV_DLM_CNT k) = false
      ∧ hits [(0x270, 0), (0x1B070, 0)] (aDEV_DLM_CNT k) = false ∧ hits [(0x160, 0)] (aDEV_DLM_CNT k) = false := by decide
  obtain ⟨htailHit, hraiseHit, hrunHit⟩ := hcnt k hk
  refine ⟨?_, fun j => ?_, ?_, deadlineMiss_kept (by decide) k (.refl s), ?_⟩
  · rw [heq, (missTail_wr _ _ _).eq _ htailHit, (raise_regs _ _).eq _ hraiseHit, (s.missCounted_wr_run k).eq _ hrunHit, bump, rd_wr_same]
    exact BitVec.eq_of_toNat_eq (by simp)
  · rw [heq, missRun_congr (htail _ _).grid_eq, missRun_congr (hraise _).grid_eq]
    exact missRun_setRun _ k _ j
  · rw [heq]
    exact missTail_pendGrows _ _ _ _ (sourcePending_raise rfl (.inr rfl))
  · rw [heq, missTail_asps, (hraise _).res_eq, (s.missCounted_kept k).res_eq]

/-- An on-time commit of a class ends its run and counts nothing (R39). -/
theorem deadlineMet_effect (s : State) {k : Nat} (hk : k < 8) : (s.deadlineMet k).rd (aDEV_DLM_CNT k) = s.rd (aDEV_DLM_CNT k)
    ∧ ∀ j, (s.deadlineMet k).missRun j = if j = k then 0 else s.missRun j := by
  have hwr := deadlineMet_wr (R := [(0x160, 0), (0x270, 0), (0x2A0, 0), (0x2A4, 0), (0x2A8, 0), (0x5014, 0), (0x1B070, 0)]) (by decide) k (.refl s)
  have hcnt : ∀ k < 8, hits [(0x160, 0), (0x270, 0), (0x2A0, 0), (0x2A4, 0), (0x2A8, 0), (0x5014, 0), (0x1B070, 0)] (aDEV_DLM_CNT k) = false := by
    decide
  refine ⟨hwr.eq _ (hcnt k hk), fun j => ?_⟩
  have hkept : Kept [.regs, .icu, .evt, .nw, .pwr, .boost, .res] (s.setRun k 0) (s.deadlineMet k) := by
    have hlogged : Kept [.regs, .icu, .evt, .nw, .pwr, .boost, .res] (s.setRun k 0)
        (if s.missRun k = 0 then s.setRun k 0 else (s.setRun k 0).logEv evDEADLINE_MISS kDEVICE k [k, s.missRun k]) :=
      .ite (.refl _) (logEv_kept (by decide) _ _ _ _ (.refl _))
    exact deadlineGroup_kept (by decide) (.ite (hlogged.upd_boost (by decide)) (.ite (hlogged.upd_res (by decide)) hlogged))
  rw [missRun_congr hkept.grid_eq, missRun_setRun]

-- The class's own part

/-- What a class does at its deadline before the monitor counts, and whether its commit was on time (R37-R40). -/
def deadlinePart (s : State) (k i : Nat) (ready : Bool) : State × Bool :=
  if k = clBOOST then s.loopDeadline 0 ready
  else if k = clLOOP_FAST ∨ k = clLOOP_SLOW then s.loopDeadline (i % 32) ready
  else if k = clRULE then
    let t := if s.res.committed || (ready && s.ruleReady) then s.ruleCommit else s
    ({ t with res := { t.res with committed := false, ready := false } }, s.res.committed || (ready && s.ruleReady))
  else if k = clPWM then (if ready then s else s.setChan (i % 128) { s.chan (i % 128) with missed := true }, ready)
  else if k = clLAUNCH then s.ldDeadline (i % 128) ready
  else if k = clTEST then (s.testCommit (i % 12) ready, ready)
  else (s.timeDeadline ready, ready)

/-- The deadline of the class falls due now for the number given. -/
def DeadlineDue (s : State) (k i : Nat) : Prop :=
  s.classSuspended k = false ∧ s.deadlineTick k i = true ∧ s.untaken (deadlineKey k i) = true

theorem commitDeadline_of_due {s : State} {k i : Nat} (h : s.DeadlineDue k i) (ready : Bool) :
    s.commitDeadline k i ready = (((s.takeEvent (deadlineKey k i)).deadlinePart k i ready).1).deadlineCount k
      ((s.takeEvent (deadlineKey k i)).deadlinePart k i ready).2 := by
  obtain ⟨hsuspended, htick, huntaken⟩ := h
  unfold commitDeadline
  dsimp only
  rw [if_neg (by simp [hsuspended, htick, huntaken]), deadlinePart]
  split_ifs <;> rfl

theorem commitDeadline_of_not_due {s : State} {k i : Nat} (h : ¬ s.DeadlineDue k i) (ready : Bool) : s.commitDeadline k i ready = s := by
  unfold commitDeadline
  dsimp only
  refine if_pos (by_contra fun hno => h ?_)
  simpa [DeadlineDue, and_assoc] using hno

/-- An open loop slot that is not held and has no result in time is held, as a miss (R38, R40). -/
theorem loopDeadline_missed {s : State} {n : Nat} (hopen : (s.loop n).open_ = true) (hhold : (s.loop n).hold = false) :
    s.loopDeadline n false = (s.loopHold n false, false) := by
  unfold loopDeadline
  dsimp only
  rw [if_neg (by simp [hopen]), if_neg (by simp [hhold])]
  split <;> rfl

theorem loopDeadline_onTime {s : State} {n : Nat} (hopen : (s.loop n).open_ = true) (h : (s.loop n).hold = true ∨ (s.loop n).res ≠ none) :
    (s.loopDeadline n true).2 = true := by
  unfold loopDeadline
  dsimp only
  rw [if_neg (by simp [hopen])]
  split
  · rfl
  split
  · rfl
  · rename_i hhold _ hres
    exact absurd hres (h.resolve_left hhold)

theorem ldDeadline_missed {s : State} {d : Nat} (hcopied : (s.launch d).copied = true) : (s.ldDeadline d false).2 = false := by
  unfold ldDeadline
  dsimp only
  rw [if_neg (by simp [hcopied]), if_pos (by simp)]

/-- The parts and the registers that the class's own part may write. -/
theorem deadlinePart_kept (s : State) (k i : Nat) (ready : Bool) (hk : k ≠ 3) :
    Kept [.regs, .icu, .evt, .nw, .mem, .pwr, .obs, .chans, .boost, .loops, .sto, .ring, .ptp] s (s.deadlinePart k i ready).1 := by
  unfold deadlinePart
  split
  · exact Kept.fst (loopDeadline_kept (by decide) _ _ (.refl s))
  split
  · exact Kept.fst (loopDeadline_kept (by decide) _ _ (.refl s))
  rw [if_neg (show ¬ k = clRULE from hk)]
  split
  · exact .ite (.refl s) (setChan_kept (by decide) _ _ (.refl s))
  split
  · exact Kept.fst (ldDeadline_kept (by decide) _ _ (.refl s))
  split
  · exact testCommit_kept (by decide) _ _ (.refl s)
  · exact timeDeadline_kept (by decide) _ (.refl s)

theorem deadlinePart_wr (s : State) (k i : Nat) (ready : Bool) (hk : k ≠ 3) : Wr [(0x1780, 4), (0x7040, 4), (0x6000, 1), (0x270, 0), (0x290, 0),
    (0x2A0, 0), (0x2A4, 0), (0x2A8, 0), (0x3014, 0), (0x5014, 0), (0x6000, 0), (0x6004, 0), (0x6008, 0), (0x600C, 0), (0x6028, 0), (0x18004, 0),
    (0x18008, 0), (0x18900, 4), (0x1B070, 0)] s (s.deadlinePart k i ready).1 := by
  unfold deadlinePart
  split
  · exact Wr.fst (loopDeadline_wr (by decide) _ _ (.refl s))
  split
  · exact Wr.fst (loopDeadline_wr (by decide) _ _ (.refl s))
  rw [if_neg (show ¬ k = clRULE from hk)]
  split
  · exact .ite (.refl s) (setChan_wr (by decide) _ _ (.refl s))
  split
  · exact Wr.fst (ldDeadline_wr (by decide) _ _ (.refl s))
  split
  · exact testCommit_wr (by decide) _ _ (.refl s)
  · exact timeDeadline_wr (by decide) _ (.refl s)

theorem loopOpen_of_tick {s : State} {n : Nat} (h : s.loopCommitTick n = true) : (s.loop n).open_ = true := (Bool.and_eq_true_iff.1 h).1

/-- A loop class's deadline falls on an open slot. -/
theorem open_of_deadlineTick {s : State} {k i : Nat} (hk : k ≤ 2) (h : s.deadlineTick k i = true) :
    (s.loop (if k = 0 then 0 else i % 32)).open_ = true := by
  obtain rfl | hpos := Nat.eq_zero_or_pos k
  · exact loopOpen_of_tick h
  · have hloop : k = clLOOP_FAST ∨ k = clLOOP_SLOW := by
      simp only [clLOOP_FAST, clLOOP_SLOW]
      omega
    rw [deadlineTick, if_neg (show ¬ k = clBOOST from Nat.ne_of_gt hpos), if_pos hloop] at h
    rw [if_neg (Nat.ne_of_gt hpos)]
    exact loopOpen_of_tick (Bool.and_eq_true_iff.1 h).2

theorem takeEvent_loop (s : State) (key n : Nat) : (s.takeEvent key).loop n = s.loop n := rfl

/-- Without its ready handshake a class's own part reports a miss (R39). -/
theorem deadlinePart_missed {s : State} {k i : Nat} (hk : k < 8) (hopen : k ≤ 2 → (s.loop (if k = 0 then 0 else i % 32)).open_ = true)
    (hhold : k ≤ 2 → (s.loop (if k = 0 then 0 else i % 32)).hold = false) (hrule : k = 3 → s.res.committed = false)
    (hlaunch : k = 5 → (s.launch (i % 128)).copied = true) : (s.deadlinePart k i false).2 = false := by
  unfold deadlinePart
  split
  case isTrue h =>
    obtain rfl : k = 0 := h
    exact congrArg Prod.snd (loopDeadline_missed (n := 0) (hopen (by decide)) (hhold (by decide)))
  split
  case isTrue h0 h =>
    have hle : k ≤ 2 := by simp only [clLOOP_FAST, clLOOP_SLOW] at h; omega
    have h0 : ¬ k = 0 := h0
    have ho := hopen hle
    have hh := hhold hle
    rw [if_neg h0] at ho hh
    rw [loopDeadline_missed ho hh]
  split
  case isTrue h => simp [hrule h]
  split
  · rfl
  split
  case isTrue h => exact ldDeadline_missed (hlaunch h)
  split
  · rfl
  · rfl

theorem deadlinePart_onTime {s : State} {k i : Nat} (hopen : k ≤ 2 → (s.loop (if k = 0 then 0 else i % 32)).open_ = true)
    (hres : k ≤ 2 → (s.loop (if k = 0 then 0 else i % 32)).hold = true ∨ (s.loop (if k = 0 then 0 else i % 32)).res ≠ none)
    (hrule : k ≠ 3) (hlaunch : k ≠ 5) : (s.deadlinePart k i true).2 = true := by
  unfold deadlinePart
  split
  case isTrue h =>
    obtain rfl : k = 0 := h
    exact loopDeadline_onTime (hopen (by decide)) (hres (by decide))
  split
  case isTrue h0 h =>
    have hle : k ≤ 2 := by simp only [clLOOP_FAST, clLOOP_SLOW] at h; omega
    have h0 : ¬ k = 0 := h0
    have ho := hopen hle
    have hr := hres hle
    rw [if_neg h0] at ho hr
    exact loopDeadline_onTime ho hr
  rw [if_neg (show ¬ k = clRULE from hrule)]
  split
  · rfl
  rw [if_neg (show ¬ k = clLAUNCH from hlaunch)]
  split
  · rfl
  · rfl

/-- A RULE miss leaves the lamps as they are: nothing was committed (R43). -/
theorem deadlinePart_rule {s : State} (hrule : s.res.committed = false) (i : Nat) :
    (s.deadlinePart 3 i false).1 = { s with res := { s.res with committed := false, ready := false } } := by
  show ({ (if s.res.committed || (false && s.ruleReady) then s.ruleCommit else s) with
    res := { (if s.res.committed || (false && s.ruleReady) then s.ruleCommit else s).res with committed := false, ready := false } } : State) = _
  rw [if_neg (by simp [hrule])]

end State

theorem exec_commitDeadline (k : Fin 8) (n : BitVec 8) (ready : Bool) (s : State) :
    exec (.commitDeadline k n ready) s = .next (s.commitDeadline k.val n.toNat ready) := rfl

/-- Settles O12. -/
theorem deadlineMissed : Obligations.DeadlineMissed := by
  intro k n hk hn s slot due
  have hnat : (BitVec.ofNat 8 n).toNat = n := by rw [BitVec.toNat_ofNat]; exact Nat.mod_eq_of_lt hn
  refine ⟨fun hdue hhold hrule hlaunch => .of_eq (exec_commitDeadline ⟨k, hk⟩ _ false s) ?_, fun hnot ready =>
    .of_eq (exec_commitDeadline ⟨k, hk⟩ _ ready s) ?_⟩
  case refine_2 =>
    rw [hnat]
    exact State.commitDeadline_of_not_due hnot ready
  case refine_1 =>
    have hmiss : ((s.takeEvent (State.deadlineKey k n)).deadlinePart k n false).2 = false :=
      State.deadlinePart_missed hk (fun hle => State.open_of_deadlineTick hle hdue.2.1) hhold hrule hlaunch
    have heq : s.commitDeadline k n false = ((s.takeEvent (State.deadlineKey k n)).deadlinePart k n false).1.deadlineMiss k := by
      rw [State.commitDeadline_of_due hdue, hmiss]
      rfl
    rw [hnat]
    show (s.commitDeadline k n false).rd _ = _ ∧ _
    rw [heq]
    obtain ⟨hcnt, hrun, hpend, hkept, hasps⟩ :=
      State.deadlineMiss_effect ((s.takeEvent (State.deadlineKey k n)).deadlinePart k n false).1 hk
    by_cases h3 : k = 3
    · subst h3
      have hpart := State.deadlinePart_rule (s := s.takeEvent (State.deadlineKey 3 n)) (hrule rfl) n
      rw [hpart] at hcnt hrun hpend hkept hasps ⊢
      exact ⟨hcnt, hrun, hpend, fun _ => ⟨hkept.chans_eq, hkept.banks_eq, hasps⟩, nofun⟩
    · have hpart := (s.takeEvent (State.deadlineKey k n)).deadlinePart_kept k n false h3
      have hwr := (s.takeEvent (State.deadlineKey k n)).deadlinePart_wr k n false h3
      have hhit : ∀ k < 8, hits [(0x1780, 4), (0x7040, 4), (0x6000, 1), (0x270, 0), (0x290, 0), (0x2A0, 0), (0x2A4, 0), (0x2A8, 0), (0x3014, 0),
          (0x5014, 0), (0x6000, 0), (0x6004, 0), (0x6008, 0), (0x600C, 0), (0x6028, 0), (0x18004, 0), (0x18008, 0), (0x18900, 4), (0x1B070, 0)]
          (aDEV_DLM_CNT k) = false := by decide
      have hmissRun (j : Nat) : ((s.takeEvent (State.deadlineKey k n)).deadlinePart k n false).1.missRun j = s.missRun j :=
        State.missRun_congr hpart.grid_eq j
      refine ⟨hcnt.trans (congrArg (· + 1) (hwr.eq _ (hhit k hk))), fun j => ?_, hpend, fun h => absurd h h3, fun h4 => ?_⟩
      · rw [hrun, hmissRun, hmissRun]
      · subst h4
        rw [State.chan_congr hkept.chans_eq]
        exact congrArg Chan.missed ((State.chan_setChan _ (n % 128) (n % 128) _).trans (if_pos rfl))

-- The ends of the holds, and late results

namespace State

/-- The state in which fixed-duty hold has ended (R42, R223). -/
def held (s : State) : State :=
  let t := s.putFlag fGRID_DLM_HOLD false
  let t := if t.get fBST_MODE = 4 then (t.put fBST_MODE 2).boostPass else t
  t.setLoop 0 { t.loop 0 with reseed := true, u := t.boost.duty }

theorem holdResume_eq {s : State} (hhold : s.flag fGRID_DLM_HOLD = true) (hon : 250 ≤ s.boost.onTime) (hpair : s.pairFault 7 = false)
    (hlost : s.loopLost 0 = false) : s.holdResume = s.held.boostGroup 0 := by
  unfold holdResume
  rw [if_pos (by simp [hhold, hon, hpair, hlost])]
  rfl

/-- The mode follows the end of the hold (R42). -/
def heldMode (s : State) : State :=
  let t := s.putFlag fGRID_DLM_HOLD false
  if t.get fBST_MODE = 4 then (t.put fBST_MODE 2).boostPass else t

theorem heldMode_kept (s : State) : Kept [.regs] s s.heldMode :=
  .ite (boostPass_kept (by decide) (put_kept (by decide) _ _ (putFlag_kept (by decide) _ _ (.refl s)))) (putFlag_kept (by decide) _ _ (.refl s))

theorem heldMode_wr (s : State) : Wr [(0x200, 0)] (s.putFlag fGRID_DLM_HOLD false) s.heldMode :=
  .ite (boostPass_wr (by decide) (put_wr (by decide) (.refl _))) (.refl _)

theorem held_eq (s : State) : s.held = s.heldMode.setLoop 0 { s.heldMode.loop 0 with reseed := true, u := s.heldMode.boost.duty } := rfl

theorem loop_setLoop (s : State) (n j : Nat) (x : LoopSlot) : (s.setLoop n x).loop j = if j = n then x else s.loop j :=
  tabGet_set (fun _ => defSlotL) s.loops.slots n j x

theorem loop_congr {s t : State} (h : t.loops = s.loops) (n : Nat) : t.loop n = s.loop n := by rw [loop, h, loop]

/-- What the end of fixed-duty hold leaves (R42, R223). -/
theorem holdResume_effect {s : State} (hhold : s.flag fGRID_DLM_HOLD = true) (hon : 250 ≤ s.boost.onTime) (hpair : s.pairFault 7 = false)
    (hlost : s.loopLost 0 = false) : s.holdResume.flag fGRID_DLM_HOLD = false ∧ (s.holdResume.loop 0).reseed = true
      ∧ (s.holdResume.loop 0).u = s.boost.duty ∧ Only [.regs, .icu, .nw, .pwr, .loops] s s.holdResume := by
  have hgroup : Kept [.regs, .icu, .nw, .pwr] s.held (s.held.boostGroup 0) := boostGroup_kept (by decide) 0 (.refl _)
  have hwr : Wr [(0x270, 0), (0x2A0, 0), (0x2A4, 0), (0x1B070, 0)] s.held (s.held.boostGroup 0) := boostGroup_wr (by decide) 0 (.refl _)
  have hset : Wr [] s.heldMode s.held := setLoop_wr (by decide) _ _ (.refl _)
  have hslot : s.held.loop 0 = { s.heldMode.loop 0 with reseed := true, u := s.heldMode.boost.duty } := by
    rw [held_eq, loop_setLoop, if_pos rfl]
  rw [holdResume_eq hhold hon hpair hlost, loop_congr hgroup.loops_eq, hslot]
  refine ⟨?_, rfl, ?_, ?_⟩
  · rw [hwr.flag fGRID_DLM_HOLD, hset.flag fGRID_DLM_HOLD, s.heldMode_wr.flag fGRID_DLM_HOLD]
    exact s.flag_putFlag fGRID_DLM_HOLD false
  · show s.heldMode.boost.duty = s.boost.duty
    rw [s.heldMode_kept.boost_eq]
  · exact (boostGroup_kept (by decide) 0 (setLoop_kept (by decide) _ _ (s.heldMode_kept.mono (by decide)))).only

/-- The walk of the rule table that has ended, with what it gives (R40, R180): only the rule engine and RULE_EVAL change. -/
theorem ruleWalked_eq (s : State) : ∃ r v, s.ruleWalked = ({ s with rule := r } : State).wr aRULE_EVAL v ∧ r.start = s.rule.start :=
  ⟨_, _, rfl, rfl⟩

/-- A late walk has ended without a demand (R40). -/
def walkedLate (s : State) : State := if s.lateWalk then { s.ruleWalked with rule := { s.ruleWalked.rule with demands := [] } } else s

theorem walkedLate_kept (s : State) : Kept [.regs, .rule] s s.walkedLate := by
  obtain ⟨r, v, heq, -⟩ := s.ruleWalked_eq
  unfold walkedLate
  rw [heq]
  exact .ite (Kept.upd_rule (wr_kept (by decide) _ _ ((Kept.refl s).upd_rule (by decide))) (by decide)) (.refl s)

theorem walkedLate_wr (s : State) : Wr [(aRULE_EVAL, 0)] s s.walkedLate := by
  obtain ⟨r, v, heq, -⟩ := s.ruleWalked_eq
  unfold walkedLate
  rw [heq]
  exact .ite (Wr.upd (wr_wr (by decide) (Wr.upd (.refl s)))) (.refl s)

theorem walkedLate_start (s : State) : s.walkedLate.rule.start = s.rule.start := by
  obtain ⟨r, v, heq, hstart⟩ := s.ruleWalked_eq
  unfold walkedLate
  split
  · rw [heq, wr_rule]
    exact hstart
  · rfl

theorem walkedLate_ready (s : State) : s.walkedLate.ruleReady = s.ruleReady := by
  rw [ruleReady, s.walkedLate_kept.res_eq, s.walkedLate_start, ruleReady]

theorem walkedLate_demands {s : State} (h : s.lateWalk = true) : s.walkedLate.rule.demands = [] := by
  rw [walkedLate, if_pos h]

theorem walkedLate_same {s : State} (h : s.lateWalk = false) : s.walkedLate = s := by
  rw [walkedLate, if_neg (by simp [h])]

theorem loopClass_false {s : State} {n k : Nat} (h1 : k ≠ 1) (h2 : k ≠ 2) : s.loopClass n k = false := by
  rw [loopClass, Bool.and_eq_false_iff]
  right
  split
  · exact beq_false_of_ne h1
  · exact beq_false_of_ne h2

theorem lateResult_rule (s : State) (i : Nat) :
    s.lateResult 3 i = { s.walkedLate with res := { s.walkedLate.res with ready := s.walkedLate.ruleReady, running := false } } := by
  have hloop : ¬ s.loopClass (i % 32) 3 = true := by rw [loopClass_false (by decide) (by decide)]; decide
  unfold lateResult
  rw [if_neg (by decide), if_neg hloop, if_pos (show 3 = clRULE from rfl)]
  rfl

end State

theorem exec_dlmHoldResume (s : State) : exec .dlmHoldResume s = .next s.holdResume := rfl
theorem exec_ruleStallClear (s : State) : exec .ruleStallClear s = .next s.stallClear := rfl
theorem exec_lateResult (k : Fin 8) (n : BitVec 8) (s : State) : exec (.lateResult k n) s = .next (s.lateResult k.val n.toNat) := rfl

/-- Settles O13. -/
theorem deadlineMetAndRecovery : Obligations.DeadlineMetAndRecovery := by
  intro k n hk hn s slot other due
  have hnat : (BitVec.ofNat 8 n).toNat = n := by rw [BitVec.toNat_ofNat]; exact Nat.mod_eq_of_lt hn
  refine ⟨fun hdue h3 h5 hres => .of_eq (exec_commitDeadline ⟨k, hk⟩ _ true s) ?_,
    fun hhold hon hpair hlost => .of_eq (exec_dlmHoldResume s) (State.holdResume_effect hhold hon hpair hlost),
    fun hon => .of_eq (exec_dlmHoldResume s) ?_, fun hstall hon => .of_eq (exec_ruleStallClear s) ?_,
    fun hon => .of_eq (exec_ruleStallClear s) ?_, .of_eq (exec_lateResult ⟨k, hk⟩ _ s) ?_⟩
  case refine_1 =>
    have hmet : ((s.takeEvent (State.deadlineKey k n)).deadlinePart k n true).2 = true :=
      State.deadlinePart_onTime (fun hle => State.open_of_deadlineTick hle hdue.2.1) hres h3 h5
    have heq : s.commitDeadline k n true = ((s.takeEvent (State.deadlineKey k n)).deadlinePart k n true).1.deadlineMet k := by
      rw [State.commitDeadline_of_due hdue, hmet]
      rfl
    have hpart := (s.takeEvent (State.deadlineKey k n)).deadlinePart_kept k n true h3
    have hwr := (s.takeEvent (State.deadlineKey k n)).deadlinePart_wr k n true h3
    have hhit : ∀ k < 8, hits [(0x1780, 4), (0x7040, 4), (0x6000, 1), (0x270, 0), (0x290, 0), (0x2A0, 0), (0x2A4, 0), (0x2A8, 0), (0x3014, 0),
        (0x5014, 0), (0x6000, 0), (0x6004, 0), (0x6008, 0), (0x600C, 0), (0x6028, 0), (0x18004, 0), (0x18008, 0), (0x18900, 4), (0x1B070, 0)]
        (aDEV_DLM_CNT k) = false := by decide
    obtain ⟨hcnt, hrun⟩ := State.deadlineMet_effect ((s.takeEvent (State.deadlineKey k n)).deadlinePart k n true).1 hk
    rw [hnat]
    show (s.commitDeadline k n true).rd _ = _ ∧ _
    rw [heq]
    refine ⟨hcnt.trans (hwr.eq _ (hhit k hk)), fun j => ?_⟩
    rw [hrun, State.missRun_congr hpart.grid_eq]
    rfl
  case refine_2 =>
    unfold State.holdResume
    exact if_neg (by simp; omega)
  case refine_3 =>
    have heq : s.stallClear = (s.putFlag fGRID_RULE_STALL false).deadlineGroup := if_pos (by simp [hstall, hon])
    have hgroup (t : State) : Wr [(0x270, 0), (0x2A0, 0), (0x2A4, 0), (0x1B070, 0)] t t.deadlineGroup :=
      State.deadlineGroup_wr (by decide) (.refl t)
    rw [heq]
    exact ⟨((hgroup _).flag fGRID_RULE_STALL).trans (s.flag_putFlag _ _),
      (State.deadlineGroup_kept (by decide) (State.putFlag_kept (by decide) _ _ (.refl s))).only⟩
  case refine_4 => exact if_neg (by simp; omega)
  case refine_5 =>
    rw [hnat]
    show (_ → _ → (s.lateResult k n).loop slot = _ ∧ _) ∧ _
    refine ⟨fun hle hno => ?_, fun h3 => ?_, fun h7 => ?_, fun hrest => ?_⟩
    · have heq : s.lateResult k n = s.setLoop slot { s.loop slot with res := none } := by
        by_cases h0 : k = 0
        · subst h0
          rfl
        · have hclass : s.loopClass (n % 32) k = true := by
            have hslot : slot = n % 32 := if_neg h0
            rw [← hslot]
            exact Bool.of_not_eq_false fun hf => hno ⟨by omega, hf⟩
          unfold State.lateResult
          rw [if_neg (show ¬ k = clBOOST from h0), if_pos hclass, show slot = n % 32 from if_neg h0]
      rw [heq, State.loop_setLoop, if_pos rfl]
      exact ⟨rfl, (State.setLoop_kept (by decide) _ _ (.refl s)).only⟩
    · subst h3
      rw [State.lateResult_rule, State.walkedLate_ready, s.walkedLate_kept.res_eq]
      exact ⟨rfl, fun h => State.walkedLate_demands h, fun h => by rw [State.walkedLate_same h],
        (Kept.upd_res (s.walkedLate_kept.mono (by decide)) (by decide)).only, (Wr.upd s.walkedLate_wr).onlyRegs⟩
    · subst h7
      have hloop : ¬ s.loopClass (n % 32) 7 = true := by rw [State.loopClass_false (by decide) (by decide)]; decide
      have heq : s.lateResult 7 n = { s with ptp := { s.ptp with next := none } } := by
        unfold State.lateResult
        rw [if_neg (by decide), if_neg hloop]
        rfl
      rw [heq]
      exact ⟨rfl, ((Kept.refl s).upd_ptp (by decide)).only⟩
    · have h0 : ¬ k = clBOOST := by
        show ¬ k = 0
        omega
      have hloop : ¬ s.loopClass (n % 32) k = true := by
        obtain h | ⟨hk12, hclass⟩ := hrest
        · rw [State.loopClass_false (by omega) (by omega)]; decide
        · have hslot : slot = n % 32 := if_neg h0
          rw [← hslot, hclass]
          decide
      unfold State.lateResult
      rw [if_neg h0, if_neg hloop, if_neg (show ¬ k = clRULE from fun h => absurd (show k = 3 from h) (by omega)),
        if_neg (show ¬ k = clTIME from fun h => absurd (show k = 7 from h) (by omega))]

end Sys2Proof.Machine
end

section
/-! OBSERVATIONS (R166-R179): what the writers of observation slots leave in each slot. -/

namespace Sys2Proof.Machine

namespace State

-- Slots

theorem slot_obsWrite (s : State) (n k : Nat) (v : Int) :
    (s.obsWrite n v).slot k = if k = n then ⟨true, v, s.grid.tick⟩ else s.slot k :=
  tabGet_set (fun _ => defSlot) s.obs.slots n k ⟨true, v, s.grid.tick⟩

theorem slot_congr {s t : State} (h : t.obs = s.obs) (k : Nat) : t.slot k = s.slot k := by rw [slot, h, slot]

/-- Writing the slots of a list, each with a value that no such write changes. -/
theorem slot_foldWrite {F : State → Nat → Int} (hF : ∀ s n m v, F (s.obsWrite n v) m = F s m) (l : List Nat) (s : State) (k : Nat) :
    (l.foldl (fun s n => s.obsWrite n (F s n)) s).slot k = if k ∈ l then ⟨true, F s k, s.grid.tick⟩ else s.slot k := by
  induction l generalizing s with
  | nil => simp
  | cons n l ih =>
    rw [List.foldl_cons, ih, hF, slot_obsWrite]
    by_cases hk : k ∈ l
    · rw [if_pos hk, if_pos (List.mem_cons_of_mem n hk)]
      rfl
    · rw [if_neg hk]
      by_cases hn : k = n
      · subst hn
        rw [if_pos rfl, if_pos List.mem_cons_self]
      · rw [if_neg hn, if_neg (by simp [hn, hk])]

theorem foldWrite_twin {F : State → Nat → Int} (l : List Nat) (s : State) :
    (l.foldl (fun s n => s.obsWrite n (F s n)) s).obs.twin = s.obs.twin := by
  induction l generalizing s with
  | nil => rfl
  | cons n l ih => exact (ih _).trans rfl

/-- Every TIME slot takes its value (R178). -/
theorem slot_writeTimeSlots (s : State) (k : Nat) :
    s.writeTimeSlots.slot k = if k ∈ s.slotsOf 5 then ⟨true, s.timeSlotValue (s.slotIdx k), s.grid.tick⟩ else s.slot k :=
  slot_foldWrite (F := fun s n => s.timeSlotValue (s.slotIdx n)) (fun _ _ _ _ => rfl) (s.slotsOf 5) s k

theorem writeTimeSlots_twin (s : State) : s.writeTimeSlots.obs.twin = s.obs.twin :=
  foldWrite_twin (F := fun s n => s.timeSlotValue (s.slotIdx n)) (s.slotsOf 5) s

/-- The slots of a source and index take a value, and no other slot (R168, R177). -/
theorem slot_obsFeed (s : State) (src idx : Nat) (v : Int) (k : Nat) :
    (s.obsFeed src idx v).slot k = if k ∈ s.slotsOf src ∧ s.slotIdx k = idx then ⟨true, v, s.grid.tick⟩ else s.slot k := by
  rw [obsFeed, slot_foldWrite (F := fun _ _ => v) (fun _ _ _ _ => rfl)]
  simp only [List.mem_filter, beq_iff_eq]

theorem slotsOf_congr {s t : State} (h : t.cfg = s.cfg) (src : Nat) : t.slotsOf src = s.slotsOf src := by rw [slotsOf, h, slotsOf]

theorem slotIdx_congr {s t : State} (h : t.cfg = s.cfg) (n : Nat) : t.slotIdx n = s.slotIdx n := by
  rw [slotIdx, cfgWord, h, slotIdx, cfgWord]

theorem timeSlotValue_congr {s t : State} (hregs : t.regs = s.regs) (htime : t.time = s.time) (htwin : t.obs.twin = s.obs.twin) (k : Nat) :
    t.timeSlotValue k = s.timeSlotValue k := by
  unfold timeSlotValue localSec localOffset loffAt flag get rd
  rw [hregs, htime, htwin]

/-- The activation windows as they stand now (R178). -/
def twins (s : State) : Tab Bool := (List.range 16).foldl (fun t w => tabSet (fun _ => false) t w
  (decide (s.twinStart w < s.twinEnd w ∧ s.twinStart w ≤ s.timeNs ∧ s.timeNs < s.twinEnd w))) s.obs.twin

/-- The windows are replaced. -/
def setTwin (s : State) (t : Tab Bool) : State := { s with obs := { s.obs with twin := t } }

theorem evalTwins_eq (s : State) : s.evalTwins = s.setTwin s.twins := rfl

theorem twins_get (s : State) {w : Nat} (hw : w < 16) : tabGet (fun _ => false) s.twins w
    = decide (s.twinStart w < s.twinEnd w ∧ s.twinStart w ≤ s.timeNs ∧ s.timeNs < s.twinEnd w) :=
  tabGet_foldSet (fun _ => false) (fun w => decide (s.twinStart w < s.twinEnd w ∧ s.twinStart w ≤ s.timeNs ∧ s.timeNs < s.twinEnd w)) 16
    s.obs.twin hw

theorem setTwin_kept (s : State) (t : Tab Bool) : Kept [.obs] s (s.setTwin t) := (Kept.refl s).upd_obs (by decide)

theorem setTwin_slot (s : State) (t : Tab Bool) (k : Nat) : (s.setTwin t).slot k = s.slot k := rfl

-- Sense inputs

/-- The filter of a sense input and its slot after a sample (R174). -/
def sensed (s : State) (n : Nat) (x : Sense) : State :=
  ({ s with obs := { s.obs with sense := tabSet (fun _ => defSense) s.obs.sense n x } } : State).obsWrite (896 + n) (boolNat x.level)

theorem senseOne_eq (s : State) (n : Nat) (l : Bool) (ago : Nat) :
    ∃ x accept, s.senseOne n l ago = if accept = true then (s.sensed n x).raise (64 + n) else s.sensed n x := ⟨_, _, rfl⟩

/-- The sampled level of an input shows in its fixed slot (R174). -/
def SenseShown (s : State) (k tick : Nat) : Prop :=
  s.slot (896 + k) = ⟨true, (boolNat (tabGet (fun _ => defSense) s.obs.sense k).level : Nat), tick⟩

theorem SenseShown.congr {s t : State} {k tick : Nat} (h : t.obs = s.obs) : SenseShown t k tick ↔ SenseShown s k tick := by
  rw [SenseShown, SenseShown, slot_congr h, h]

theorem sensed_shown (s : State) (n : Nat) (x : Sense) : SenseShown (s.sensed n x) n s.grid.tick := by
  have hsense : tabGet (fun _ => defSense) (s.sensed n x).obs.sense n = x := tabGet_set_same (fun _ => defSense) s.obs.sense n x
  rw [SenseShown, hsense, sensed, slot_obsWrite, if_pos rfl]

theorem sensed_other {s : State} {n k tick : Nat} (x : Sense) (h : k ≠ n) : SenseShown (s.sensed n x) k tick ↔ SenseShown s k tick := by
  have hsense : tabGet (fun _ => defSense) (s.sensed n x).obs.sense k = tabGet (fun _ => defSense) s.obs.sense k :=
    tabGet_set_other (fun _ => defSense) s.obs.sense x h
  rw [SenseShown, hsense, sensed, slot_obsWrite, if_neg (by omega)]
  rfl

theorem senseOne_obs (s : State) (n : Nat) (l : Bool) (ago : Nat) : ∃ x, (s.senseOne n l ago).obs = (s.sensed n x).obs := by
  obtain ⟨x, accept, heq⟩ := s.senseOne_eq n l ago
  refine ⟨x, ?_⟩
  rw [heq]
  split
  · exact (raise_kept (T := [.regs, .icu, .nw, .pwr]) (by decide) _ (.refl (s.sensed n x))).obs_eq
  · rfl

theorem senseOne_grid (s : State) (n : Nat) (l : Bool) (ago : Nat) : (s.senseOne n l ago).grid = s.grid :=
  (senseOne_kept (T := [.regs, .icu, .nw, .pwr, .obs]) (by decide) n l ago (.refl s)).grid_eq

theorem senseFold (f : Nat → Bool) (g : Nat → Nat) (s : State) (n : Nat) :
    (∀ k < n, SenseShown ((List.range n).foldl (fun s n => s.senseOne n (f n) (g n)) s) k s.grid.tick)
      ∧ ((List.range n).foldl (fun s n => s.senseOne n (f n) (g n)) s).grid = s.grid
      ∧ ((List.range n).foldl (fun s n => s.senseOne n (f n) (g n)) s).obs.senseAt = s.obs.senseAt := by
  induction n with
  | zero => exact ⟨fun k hk => absurd hk (Nat.not_lt_zero k), rfl, rfl⟩
  | succ n ih =>
    obtain ⟨hshown, hgrid, hat⟩ := ih
    rw [List.range_succ, List.foldl_append, List.foldl_cons, List.foldl_nil]
    generalize (List.range n).foldl (fun s n => s.senseOne n (f n) (g n)) s = t at hshown hgrid hat ⊢
    obtain ⟨x, hobs⟩ := t.senseOne_obs n (f n) (g n)
    refine ⟨fun k hk => (SenseShown.congr hobs).2 ?_, (t.senseOne_grid _ _ _).trans hgrid, ?_⟩
    · by_cases hn : k = n
      · subst hn
        rw [← hgrid]
        exact t.sensed_shown k x
      · exact (sensed_other x hn).2 (hshown k (by omega))
    · rw [hobs]
      exact hat

end State

theorem exec_aspReqWrite (n : Fin 96) (x : BitVec 32) (s : State) : exec (.aspReqWrite n x) s = .next (s.aspReqWrite n.val x.toNat) := rfl
theorem exec_aspVarWrite (v : Fin 32) (x : BitVec 32) (s : State) : exec (.aspVarWrite v x) s = .next (s.aspVarWrite v.val x.toNat) := rfl
theorem exec_timeSlotUpdate (s : State) : exec .timeSlotUpdate s = .next s.writeTimeSlots := rfl
theorem exec_activationWindowEdge (s : State) : exec .activationWindowEdge s = .next s.evalTwins.writeTimeSlots := rfl
theorem exec_senseSample (x : BitVec 32) (ago : List (BitVec 16)) (s : State) :
    exec (.senseSample x ago) s = if !s.senseDue then .next s else .next (s.senseAll x ago) := rfl

theorem State.rd_wr_lt (s : State) (a : Nat) {v : Nat} (h : v < 2 ^ 32) : ((s.wr a v).rd a).toNat = v := by
  rw [State.rd_wr_same, BitVec.toNat_ofNat, Nat.mod_eq_of_lt h]

/-- Settles O15. -/
theorem observationWrites : Obligations.ObservationWrites := by
  intro n v x ago s
  have hone {a : Nat} {t : State} (w : Nat) : OnlyRegs [(a, 0)] t (t.wr a w) :=
    (State.wr_wr (hit_one (List.mem_singleton_self _)) (.refl t)).onlyRegs
  refine ⟨fun hmn => .of_eq (exec_aspReqWrite n x s) ?_, fun hmn => ⟨.of_eq (exec_aspReqWrite n x s) (if_pos hmn),
    .of_eq (exec_aspVarWrite v x s) (if_pos hmn)⟩, fun hmn => .of_eq (exec_aspVarWrite v x s) ?_, .of_eq (exec_timeSlotUpdate s) ?_,
    .of_eq (exec_activationWindowEdge s) ?_, fun hdue => .of_eq ((exec_senseSample x ago s).trans (if_neg (by simp [hdue]))) ?_,
    fun hdue => .of_eq ((exec_senseSample x ago s).trans (if_pos (by simp [hdue]))) rfl⟩
  case refine_1 =>
    rw [State.aspReqWrite, if_neg (by simp [hmn])]
    exact ⟨s.rd_wr_lt _ (withBits_lt x.isLt (by decide)), (State.wr_kept (by decide) _ _ (.refl s)).only, hone _⟩
  case refine_2 =>
    have hwr : Wr [] (s.wr (aASP_VAR v) x.toNat) ((s.wr (aASP_VAR v) x.toNat).obsFeed 6 v (signedOf x.toNat 32)) :=
      State.obsFeed_wr (by decide) _ _ _ (.refl _)
    rw [State.aspVarWrite, if_neg (by simp [hmn])]
    refine ⟨(hwr.eq _ rfl).trans ?_, fun a ha => (hwr.eq _ rfl).trans (hone _ a ha),
      (State.obsFeed_kept (by decide) _ _ _ (State.wr_kept (by decide) _ _ (.refl s))).only, fun k => ?_⟩
    · rw [State.rd_wr_same, BitVec.ofNat_toNat, BitVec.setWidth_eq]
    · rw [State.slot_obsFeed]
      rfl
  case refine_3 => exact ⟨(State.writeTimeSlots_kept (by decide) (.refl s)).only, s.slot_writeTimeSlots⟩
  case refine_4 =>
    rw [State.evalTwins_eq]
    have htwin := (s.setTwin s.twins).writeTimeSlots_twin
    have hkept := s.setTwin_kept s.twins
    have hwrite := State.writeTimeSlots_kept (T := [.obs]) (by decide) (.refl (s.setTwin s.twins))
    refine ⟨(State.writeTimeSlots_kept (by decide) hkept).only, fun w hw => ?_, fun k => ?_⟩
    · rw [htwin]
      exact s.twins_get hw
    · rw [State.timeSlotValue_congr hwrite.regs_eq hwrite.time_eq htwin, State.slot_writeTimeSlots, State.slotsOf_congr hkept.cfg_eq,
        State.slotIdx_congr hkept.cfg_eq, hkept.grid_eq, State.setTwin_slot]
  case refine_5 =>
    obtain ⟨hshown, -, hat⟩ := State.senseFold (fun n => x.getLsbD n) (fun n => (ago.getD n 0).toNat)
      { s with obs := { s.obs with senseAt := s.grid.tick + 1 } } 32
    exact ⟨(State.senseAll_kept (by decide) x ago (.refl s)).only, hat, hshown⟩

end Sys2Proof.Machine
end

section
/-! READS OF A CONTEXT (R309, R331), which the indirect windows share, and THE RULE PERIOD (R180-R190). -/

namespace Sys2Proof.Machine

namespace State

variable {s : State} {c : Nat}

-- Access of a context

/-- A context that the device serves: a ring context, or QSPI while its slave serves the window (R305, R310). -/
def Served (s : State) (c : Nat) : Prop := c ≠ 0 ∨ (s.spi.mode = false ∧ s.hostValid = true)

theorem blocked_of_served (h : s.Served c) : ¬ (decide (c = 0) && !s.qspiUp) = true := by
  obtain h | ⟨hmode, hvalid⟩ := h
  · simp [h]
  · simp [qspiUp, hmode, hvalid]

theorem blocked_of_not_served (h : ¬ s.Served c) : (decide (c = 0) && !s.qspiUp) = true := by
  by_contra hno
  refine h ?_
  by_cases h0 : c = 0
  · right
    simpa [h0, qspiUp] using hno
  · exact .inl h0

theorem accessErr_flag (s : State) : s.accessErr.flag fMBX_ACCESS_ERR = true := by
  unfold accessErr mbxErr
  split
  case isTrue h => exact h
  case isFalse => exact ((raise_regs _ _).flag fMBX_ACCESS_ERR).trans (s.flag_putFlag _ _)

theorem accessErr_pending (h : s.flag fMBX_ACCESS_ERR = false) : s.accessErr.sourcePending 34 = true := by
  unfold accessErr mbxErr
  rw [if_neg (by simp [h])]
  exact sourcePending_raise (n := srcMBX_ERR) rfl (.inr rfl)

theorem accessErr_only (s : State) : Only [.regs, .icu, .nw, .pwr] s s.accessErr := (accessErr_kept (by decide) (.refl s)).only

theorem accessErr_onlyRegs (s : State) : OnlyRegs [(aMBX_STAT, 0), (aDEV_PWR_STAT, 0), (aICU_NWSTAT, 0)] s s.accessErr :=
  (accessErr_wr (by decide) (.refl s)).onlyRegs

/-- A privileged read by an elevated context restarts its time-out, fills a latch and clears what a read clears (R190, R331). -/
theorem regRead_elevated (hserved : s.Served c) (helev : s.elevated c = true) {off : Nat} (hpriv : isPrivileged off = true) :
    s.regRead c off = ((s.touch c).hostLatch c off).hostClear off := by
  rw [regRead, if_neg (blocked_of_served hserved), wordRead, if_neg (by simp [helev]), if_pos hpriv, hostRead]

theorem regRead_denied (hserved : s.Served c) (helev : s.elevated c = false) {off : Nat} (hpriv : isPrivileged off = true) :
    s.regRead c off = if c = 0 then s.accessErr else s := by
  rw [regRead, if_neg (blocked_of_served hserved), wordRead, if_pos (by simp [hpriv, helev])]

theorem regRead_unserved (h : ¬ s.Served c) (off : Nat) : s.regRead c off = s := if_pos (blocked_of_not_served h)

theorem touch_of_elevated (helev : s.elevated c = true) :
    s.touch c = s.setSec { s.sec with used := tabSet (fun _ => 0) s.sec.used c s.nw.tick } := if_pos helev

theorem touch_used (helev : s.elevated c = true) : tabGet (fun _ => 0) (s.touch c).sec.used c = s.nw.tick := by
  rw [touch_of_elevated helev]
  exact tabGet_set_same (fun _ => 0) s.sec.used c s.nw.tick

theorem copyOf_setCopy (s : State) (c d : Nat) (x : CtxCopy) : (s.setCopy c x).copyOf d = if d = c then x else s.copyOf d :=
  tabGet_set (fun _ => defCopy) s.ctx c d x

theorem copyOf_congr {s t : State} (h : t.ctx = s.ctx) (d : Nat) : t.copyOf d = s.copyOf d := by rw [copyOf, h, copyOf]

/-- What a read of an indirect window has to do: nothing if it is not served, ACCESS_ERR over QSPI without elevation, and with it the
context's copy becomes `k` and its time-out restarts. -/
def IndirectRead (i : Instr) (c : Nat) (k : CtxCopy) (s : State) : Prop :=
  (s.Served c → s.elevated c = true → Completes i s (fun u => u.copyOf c = k ∧ (∀ d, d ≠ c → u.copyOf d = s.copyOf d)
      ∧ tabGet (fun _ => 0) u.sec.used c = s.nw.tick ∧ Only [.ctx, .sec] s u))
    ∧ (s.Served c → s.elevated c = false → c = 0 → Completes i s (fun u => u.flag fMBX_ACCESS_ERR = true
      ∧ (s.flag fMBX_ACCESS_ERR = false → u.sourcePending 34 = true) ∧ Only [.regs, .icu, .nw, .pwr] s u
      ∧ OnlyRegs [(aMBX_STAT, 0), (aDEV_PWR_STAT, 0), (aICU_NWSTAT, 0)] s u))
    ∧ (s.Served c → s.elevated c = false → c ≠ 0 → Completes i s (fun u => u = s))
    ∧ (¬ s.Served c → Completes i s (fun u => u = s))

/-- An instruction that reads a window's first data word does just that, when the read sets the context's copy to `k` (R190, R491). -/
theorem indirectRead_of_latch {i : Instr} {off : Nat} {k : CtxCopy} (hexec : exec i s = .next (s.regRead c off))
    (hpriv : isPrivileged off = true) (hlatch : ((s.touch c).hostLatch c off).hostClear off = (s.touch c).setCopy c k) :
    IndirectRead i c k s := by
  refine ⟨fun hserved helev => .of_eq hexec ?_, fun hserved helev h0 => .of_eq hexec ?_, fun hserved helev h0 => .of_eq hexec ?_,
    fun hno => .of_eq hexec (regRead_unserved hno off)⟩
  · rw [regRead_elevated hserved helev hpriv, hlatch]
    have htouch := touch_kept (T := [.ctx, .sec]) (by decide) c (.refl s)
    refine ⟨(copyOf_setCopy _ _ _ _).trans (if_pos rfl), fun d hd => ?_, touch_used helev, (setCopy_kept (by decide) _ _ htouch).only⟩
    rw [copyOf_setCopy, if_neg hd]
    exact copyOf_congr (touch_kept (T := [.sec]) (by decide) c (.refl s)).ctx_eq d
  · rw [regRead_denied hserved helev hpriv, if_pos h0]
    exact ⟨s.accessErr_flag, accessErr_pending, s.accessErr_only, s.accessErr_onlyRegs⟩
  · rw [regRead_denied hserved helev hpriv, if_neg h0]

-- What a touch leaves as it was

theorem obsEntry_touch (s : State) (c x : Nat) : (s.touch c).obsEntry x = s.obsEntry x := by
  unfold touch
  split
  · rfl
  · rfl

theorem ruleDataEntry_touch (s : State) (c x : Nat) : (s.touch c).ruleDataEntry x = s.ruleDataEntry x := by
  unfold touch
  split
  · rfl
  · rfl

theorem copyOf_touch (s : State) (c d : Nat) : (s.touch c).copyOf d = s.copyOf d :=
  copyOf_congr (touch_kept (T := [.sec]) (by decide) c (.refl s)).ctx_eq d

-- The snapshot

/-- The snapshot of the slots is taken (R167, R186). -/
def snapped (s : State) : State := { s with obs := { s.obs with snap := s.obs.slots, stale := s.staleNow } }

/-- What the snapshot shows, logs and counts of stale slots touches no observation (R170). -/
theorem takeSnapshot_kept_snapped (s : State) : Kept [.regs, .icu, .evt, .nw, .pwr] s.snapped s.takeSnapshot := by
  have hnote (t : State) (n a : Nat) (h : Kept [.regs, .icu, .evt, .nw, .pwr] s.snapped t) :
      Kept [.regs, .icu, .evt, .nw, .pwr] s.snapped (((t.logEv evOBS_STALE kOBS n [n, a]).bump aOBS_STALE_CNT).raise srcOBS_STALE) :=
    raise_kept (by decide) _ (bump_kept (by decide) _ (logEv_kept (by decide) _ _ _ _ h))
  exact Kept.fold (fun t n h => hnote t n _ h) (wr_kept (by decide) _ _ (.refl _))

theorem takeSnapshot_obs (s : State) : s.takeSnapshot.obs = { s.obs with snap := s.obs.slots, stale := s.staleNow } :=
  (takeSnapshot_kept_snapped s).obs_eq

theorem takeSnapshot_kept' (s : State) : Kept [.regs, .icu, .evt, .nw, .pwr, .obs] s s.takeSnapshot := takeSnapshot_kept (by decide) (.refl s)

/-- The snapshot that a walk still under way keeps (R40). -/
def lateSnap (s : State) : Option (Tab ObsSlot × Tab Bool) :=
  if s.rule.running then some (s.rule.late.getD (s.obs.snap, s.obs.stale)) else none

theorem ruleStart_rule (s : State) : s.ruleStart.rule = { s.rule with
    start := s.grid.tick, running := true, demands := [], late := s.lateSnap
    walk := if s.lateSnap.isSome then s.rule.walk else s.grid.tick } := by
  have hgrid := s.takeSnapshot_kept'.grid_eq
  have hrule := s.takeSnapshot_kept'.rule_eq
  show ({ s.takeSnapshot.rule with
          start := s.takeSnapshot.grid.tick, running := true, demands := [], late := s.lateSnap,
          walk := if s.lateSnap.isSome then s.takeSnapshot.rule.walk else s.takeSnapshot.grid.tick } : RuleEng) = _
  rw [hgrid, hrule]

theorem ruleStart_obs (s : State) : s.ruleStart.obs = s.takeSnapshot.obs := by simp only [ruleStart]

theorem staleNow_congr {s t : State} (hobs : t.obs = s.obs) (hcfg : t.cfg = s.cfg) (hregs : t.regs = s.regs) (htick : t.grid.tick = s.grid.tick) :
    t.staleNow = s.staleNow := by
  unfold staleNow staleIn slotSrc slotIdx slotFresh cfgWord flag get rd
  rw [hobs, hcfg, hregs, htick]

-- The activation at a rule period's start

theorem putWords_cfg (s : State) (t : Tab Word) (loop : Bool) :
    (s.putWords t loop).cfg = { s.cfg with words := t.filter fun p => decide (2 ^ 24 ≤ p.1) } := rfl

/-- Of the configuration an activation changes the words and the fields that are off (R368). -/
theorem activate_cfg (s : State) (t : Tab Word) (loop : Bool) (d : Tab Nat) (r : CfgRep) (slot gen : Nat) :
    (s.activate t loop d r slot gen).cfg = { s.cfg with words := t.filter fun p => decide (2 ^ 24 ≤ p.1), disabled := d } := by
  have hafter (x : State) : Kept [.regs, .time, .icu, .evt, .nw, .mem, .life, .pwr, .obs, .rule, .chans, .res, .dim, .adc, .ring, .ptp] x
      (effMorn s (effPat s (effIcu s (effTime s (effRing s (effAdc s (effBright s (effLoops s (effObs s (effRules s (effLamp s
        ((((x.put fCFG_SLOT slot).wr aDEV_CFG_GEN gen).putFlag fCFG_NONE false).lifeAcc (lifeDevice + 56) 1) r))))))))))).discN :=
    discN_kept (by decide) (effMorn_kept (by decide) _ (effPat_kept (by decide) _ (effIcu_kept (by decide) _ (effTime_kept (by decide) _
      (effRing_kept (by decide) _ (effAdc_kept (by decide) _ (effBright_kept (by decide) _ (effLoops_kept (by decide) _
        (effObs_kept (by decide) _ (effRules_kept (by decide) _ (effLamp_kept (by decide) _ _ (lifeAcc_kept (by decide) _ _
          (putFlag_kept (by decide) _ _ (wr_kept (by decide) _ _ (put_kept (by decide) _ _ (.refl x))))))))))))))))
  exact (hafter ((s.putWords t loop).setCfg { (s.putWords t loop).cfg with disabled := d })).cfg_eq

theorem cfgActivate_none {s : State} {w : CfgWait} (h : s.cfg.wait = none ∨ (s.cfg.wait = some w ∧ w.done = true)) : s.cfgActivate = s := by
  unfold cfgActivate
  obtain h | ⟨h, hdone⟩ := h
  · rw [h]
  · rw [h]
    exact if_pos hdone

/-- The activation of a waiting image (R365, R368). -/
theorem cfgActivate_some {s : State} {w : CfgWait} (h : s.cfg.wait = some w) (hdone : w.done = false) (hmn : s.midnight = false) :
    s.cfgActivate.cfg.wait = some { w with done := true } ∧ s.cfgActivate.cfg.words = (w.words.filter fun p => decide (2 ^ 24 ≤ p.1)) := by
  have hactivated := (s.setCfg { s.cfg with wait := some { w with done := true } }).activate_cfg w.words (bitOf w.present 0x0A) w.disabled w.rep
    w.slot w.gen
  have hafter (t : State) : Kept [.sec, .fspi, .rule] t
      (if (if w.fw then t.fwMark (1 - t.sec.running) else t).rulesRun then { (if w.fw then t.fwMark (1 - t.sec.running) else t) with
        rule := { (if w.fw then t.fwMark (1 - t.sec.running) else t).rule with start := (if w.fw then t.fwMark (1 - t.sec.running) else t).grid.tick } }
        else (if w.fw then t.fwMark (1 - t.sec.running) else t)) := by
    have hmark : Kept [.sec, .fspi, .rule] t (if w.fw then t.fwMark (1 - t.sec.running) else t) := .ite (fwMark_kept (by decide) _ (.refl t)) (.refl t)
    exact .ite (hmark.upd_rule (by decide)) hmark
  have hcfg : s.cfgActivate.cfg = { s.cfg with
      wait := some { w with done := true }, words := w.words.filter fun p => decide (2 ^ 24 ≤ p.1), disabled := w.disabled } := by
    unfold cfgActivate
    rw [h]
    dsimp only
    rw [if_neg (by simp [hdone]), if_neg (by simp [hmn])]
    exact (hafter _).cfg_eq.trans hactivated
  rw [hcfg]
  exact ⟨rfl, rfl⟩

theorem cfgActivate_grid (s : State) : s.cfgActivate.grid = s.grid :=
  (cfgActivate_kept (T := [.regs, .time, .icu, .evt, .nw, .mem, .life, .pwr, .obs, .rule, .cfg, .chans, .res, .dim, .adc, .ring, .ptp, .mbx, .sec,
    .fspi]) (by decide) (.refl s)).grid_eq

-- The walk of the rule table

/-- The view of the rule table's walk, with its result from a state (R180-R185). -/
def walkOf (s t : State) : Tab Bool × Tab Bool × Tab Bool × List Demand :=
  t.evalGroups (ruleGroups (ruleEntries s.cfg.words) []) s.rule.held [] [] []

/-- RULE_EVAL after a walk: the ticks it took, and the longest so far (R180). -/
def walkTicks (s : State) : Nat :=
  (if bitsOf (s.rd aRULE_EVAL).toNat 16 16 < (s.grid.tick - s.rule.walk) % 65536 then (s.grid.tick - s.rule.walk) % 65536
    else bitsOf (s.rd aRULE_EVAL).toNat 16 16) * 65536 + (s.grid.tick - s.rule.walk) % 65536

theorem walkTicks_lt (s : State) : s.walkTicks < 2 ^ 32 ∧ s.walkTicks % 65536 = (s.grid.tick - s.rule.walk) % 65536 := by
  have hmax : bitsOf (s.rd aRULE_EVAL).toNat 16 16 < 65536 := Nat.mod_lt _ (by decide)
  unfold walkTicks
  split <;> omega

theorem ruleWalked_none (h : s.rule.late = none) : s.ruleWalked = ({ s with rule := { s.rule with
      held := (s.walkOf s).1, out := (s.walkOf s).2.1, holds := (s.walkOf s).2.2.1, demands := (s.walkOf s).2.2.2, running := false,
      walk := s.grid.tick, late := none } } : State).wr aRULE_EVAL s.walkTicks := by
  unfold ruleWalked
  rw [h]
  rfl

theorem ruleWalked_some {slots : Tab ObsSlot} {stale : Tab Bool} (h : s.rule.late = some (slots, stale)) :
    s.ruleWalked = ({ s with rule := { s.rule with
      held := (s.walkOf { s with obs := { s.obs with snap := slots, stale := stale } }).1
      out := (s.walkOf { s with obs := { s.obs with snap := slots, stale := stale } }).2.1
      holds := (s.walkOf { s with obs := { s.obs with snap := slots, stale := stale } }).2.2.1
      demands := [], running := true, walk := s.grid.tick, late := none } } : State).wr aRULE_EVAL s.walkTicks := by
  unfold ruleWalked
  rw [h]
  rfl

/-- Whatever its result, a walk that has ended leaves its time in RULE_EVAL and only the rule engine changed (R180). -/
theorem walked_took (s : State) (r : RuleEng) : ((({ s with rule := r } : State).wr aRULE_EVAL s.walkTicks).rd aRULE_EVAL).toNat % 65536
      = (s.grid.tick - s.rule.walk) % 65536
    ∧ Only [.regs, .rule] s (({ s with rule := r } : State).wr aRULE_EVAL s.walkTicks)
    ∧ OnlyRegs [(aRULE_EVAL, 0)] s (({ s with rule := r } : State).wr aRULE_EVAL s.walkTicks) := by
  obtain ⟨hlt, hmod⟩ := s.walkTicks_lt
  refine ⟨?_, (wr_kept (by decide) _ _ ((Kept.refl s).upd_rule (by decide))).only, (wr_wr (by decide) (Wr.upd (.refl s))).onlyRegs⟩
  rw [rd_wr_lt _ _ hlt, hmod]

end State

theorem exec_rulePeriodStart (s : State) : exec .rulePeriodStart s = .next s.periodStart := rfl
theorem exec_ruleEvalComplete (s : State) : exec .ruleEvalComplete s = if s.rule.running then .next s.ruleWalked else .next s := rfl

/-- Settles O16. -/
theorem rulePeriod : Obligations.RulePeriod := by
  intro c w s walk took begins k served read
  have hstart (hdue : s.periodDueNow = true) : s.periodStart = ((s.takeEvent periodKey).cfgActivate).ruleStart := if_pos hdue
  refine ⟨fun hdue => .of_eq (exec_rulePeriodStart s) ?_, fun hdue hnone => .of_eq (exec_rulePeriodStart s) ?_,
    fun hdue hwait hdone hmn => .of_eq (exec_rulePeriodStart s) ?_, fun hdue => .of_eq (exec_rulePeriodStart s) (if_neg (by simp [hdue])),
    fun hrun hlate => .of_eq ((exec_ruleEvalComplete s).trans (if_pos hrun)) ?_,
    fun slots stale hrun hlate => .of_eq ((exec_ruleEvalComplete s).trans (if_pos hrun)) ?_,
    fun hrun => .of_eq ((exec_ruleEvalComplete s).trans (if_neg (by simp [hrun]))) rfl,
    State.indirectRead_of_latch (off := aOBS_DATA 0) rfl rfl ?_, State.indirectRead_of_latch (off := aRULE_DATA 0) rfl rfl ?_⟩
  case refine_1 =>
    rw [hstart hdue]
    show (State.ruleStart _).rule.start = _ ∧ (State.ruleStart _).rule.running = _ ∧ (State.ruleStart _).rule.demands = _
    rw [State.ruleStart_rule, State.cfgActivate_grid]
    exact ⟨rfl, rfl, rfl⟩
  case refine_2 =>
    have hnone' : (s.takeEvent periodKey).cfgActivate = s.takeEvent periodKey := State.cfgActivate_none (w := w) hnone
    rw [hstart hdue, hnone']
    have hkept : Kept [.grid] s (s.takeEvent periodKey) := State.takeEvent_kept (by decide) _ (.refl s)
    have hrule := (s.takeEvent periodKey).ruleStart_rule
    have hstale : (s.takeEvent periodKey).staleNow = s.staleNow := State.staleNow_congr hkept.obs_eq hkept.cfg_eq hkept.regs_eq rfl
    have hobs := ((s.takeEvent periodKey).ruleStart_obs).trans (s.takeEvent periodKey).takeSnapshot_obs
    have hgrid : (s.takeEvent periodKey).ruleStart.grid = (s.takeEvent periodKey).grid :=
      (State.ruleStart_kept (T := [.regs, .icu, .evt, .nw, .pwr, .obs, .rule]) (by decide) (.refl _)).grid_eq
    refine ⟨by rw [hobs]; rfl, by rw [hobs, hstale], by rw [hobs]; rfl, by rw [hrule]; rfl, fun hrun => ?_,
      fun hrun hlate => ?_, ?_, (State.ruleStart_kept (by decide) (hkept.mono (by decide))).only⟩
    · have hnolate : (s.takeEvent periodKey).lateSnap = none := if_neg (by rw [hkept.rule_eq, hrun]; decide)
      rw [hrule, hnolate]
      exact ⟨rfl, rfl⟩
    · have hkeeps : (s.takeEvent periodKey).lateSnap = some (s.obs.snap, s.obs.stale) := by
        rw [State.lateSnap, hkept.rule_eq, hkept.obs_eq, if_pos hrun, hlate]
        rfl
      rw [hrule, hkeeps]
      exact ⟨rfl, rfl⟩
    · rw [State.untaken, hgrid]
      show (tabGet (fun _ => 0) (tabSet (fun _ => 0) s.grid.took periodKey (s.grid.tick + 1)) periodKey != s.grid.tick + 1) = false
      rw [tabGet_set_same]
      exact bne_self_eq_false _
  case refine_3 =>
    obtain ⟨hw, hwords⟩ := State.cfgActivate_some (s := s.takeEvent periodKey) hwait hdone hmn
    rw [hstart hdue]
    have hcfg : (s.takeEvent periodKey).cfgActivate.ruleStart.cfg = (s.takeEvent periodKey).cfgActivate.cfg :=
      (State.ruleStart_kept (T := [.regs, .icu, .evt, .nw, .pwr, .obs, .rule]) (by decide) (.refl _)).cfg_eq
    refine ⟨by rw [hcfg, hw], by rw [hcfg, hwords], ?_⟩
    rw [State.ruleStart_obs, State.takeSnapshot_obs]
  case refine_4 =>
    obtain ⟨hticks, honly, hregs⟩ := s.walked_took { s.rule with
      held := (s.walkOf s).1, out := (s.walkOf s).2.1, holds := (s.walkOf s).2.2.1, demands := (s.walkOf s).2.2.2, running := false,
      walk := s.grid.tick, late := none }
    rw [State.ruleWalked_none hlate]
    refine ⟨?_, ?_, hticks, ?_, honly, hregs⟩
    · rw [State.wr_rule]; rfl
    · rw [State.wr_rule]
    · rw [State.wr_rule]
  case refine_5 =>
    obtain ⟨hticks, honly, hregs⟩ := s.walked_took { s.rule with
      held := (s.walkOf { s with obs := { s.obs with snap := slots, stale := stale } }).1
      out := (s.walkOf { s with obs := { s.obs with snap := slots, stale := stale } }).2.1
      holds := (s.walkOf { s with obs := { s.obs with snap := slots, stale := stale } }).2.2.1
      demands := [], running := true, walk := s.grid.tick, late := none }
    rw [State.ruleWalked_some hlate]
    refine ⟨?_, ?_, ?_, ?_, hticks, ?_, honly, hregs⟩
    · rw [State.wr_rule]; rfl
    · rw [State.wr_rule]
    · rw [State.wr_rule]
    · rw [State.wr_rule]
    · rw [State.wr_rule]
  case refine_6 =>
    show (s.touch c).setCopy c _ = _
    rw [State.copyOf_touch, State.obsEntry_touch]
  case refine_7 =>
    show (s.touch c).setCopy c _ = _
    rw [State.copyOf_touch, State.ruleDataEntry_touch]

end Sys2Proof.Machine
end

section
/-! WHAT THE LAMPS GO BY: the configuration of channels and panels and the part's state, which the operations on a channel leave; then
the resolver, the RULE commit and the arrival of set-points (R20-R23, R50-R58, R383). -/

namespace Sys2Proof.Machine

namespace State

/-- What decides the class of a channel, and whether a bank is scanned now, stands the same in both states. -/
structure LampView (s t : State) : Prop where
  pwrStat : t.rd aDEV_PWR_STAT = s.rd aDEV_PWR_STAT
  drvPwr : t.rd aDEV_DRV_PWR = s.rd aDEV_DRV_PWR
  midnight : t.midnight = s.midnight
  run : t.flag fMTX_RUN = s.flag fMTX_RUN
  conf : ∀ a, 0x13000 ≤ a → a < 0x15000 → t.rd a = s.rd a
  frame : t.mtx.frame = s.mtx.frame
  live : t.mtx.live = s.mtx.live
  tick : t.grid.tick = s.grid.tick
  cfg : t.cfg = s.cfg
  pwr : t.pwr = s.pwr

namespace LampView

variable {s t u : State}

theorem refl (s : State) : LampView s s := ⟨rfl, rfl, rfl, rfl, fun _ _ _ => rfl, rfl, rfl, rfl, rfl, rfl⟩

theorem trans (h : LampView s t) (k : LampView t u) : LampView s u :=
  ⟨k.pwrStat.trans h.pwrStat, k.drvPwr.trans h.drvPwr, k.midnight.trans h.midnight, k.run.trans h.run, fun a h0 h1 => (k.conf a h0 h1).trans (h.conf a h0 h1),
    k.frame.trans h.frame, k.live.trans h.live, k.tick.trans h.tick, k.cfg.trans h.cfg, k.pwr.trans h.pwr⟩

theorem pstate (h : LampView s t) : t.pstate = s.pstate := by rw [State.pstate, get, show fPWR_STATE.addr = aDEV_PWR_STAT from rfl, h.pwrStat]; rfl

theorem tsd (h : LampView s t) : t.tsd = s.tsd := by
  rw [State.tsd, flag, get, show fPWR_TSD.addr = aDEV_DRV_PWR from rfl, h.drvPwr]; rfl

theorem inDusk (h : LampView s t) : t.inDusk = s.inDusk := by rw [State.inDusk, h.pstate, h.pwr, State.inDusk]

theorem lampsKept (h : LampView s t) : t.lampsKept = s.lampsKept := by rw [State.lampsKept, h.inDusk, h.pstate, h.pwr, State.lampsKept]

theorem frameRuns (h : LampView s t) : t.frameRuns = s.frameRuns := by
  rw [State.frameRuns, h.run, h.frame, h.live, h.tick, State.frameRuns]

theorem mtxGet (h : LampView s t) (f : Fld) (hf : f.addr = aMTX_CFG := by rfl) : t.mtxGet f = s.mtxGet f := by
  have hrd : t.rd f.addr = s.rd f.addr := by rw [hf]; exact h.conf _ (by decide) (by decide)
  rw [State.mtxGet, h.frameRuns, h.live, get, hrd, State.mtxGet, get]

theorem mtxFirst (h : LampView s t) : t.mtxFirst = s.mtxFirst := h.mtxGet fMTX_FIRST

theorem scanned (h : LampView s t) (n : Nat) : t.scanned n = s.scanned n := by
  rw [State.scanned, State.inGroup, h.mtxFirst, h.mtxGet fMTX_EN, State.mtxBanks, h.mtxGet fMTX_K, h.midnight, h.lampsKept,
    State.scanned, State.inGroup, State.mtxBanks]

theorem aspConf (h : LampView s t) {n w : Nat} (hn : n < 128) (hw : w < 4) : t.rd (aSUP_ASPCFG n w) = s.rd (aSUP_ASPCFG n w) :=
  h.conf _ (by unfold aSUP_ASPCFG; omega) (by unfold aSUP_ASPCFG; omega)

theorem aspChans (h : LampView s t) {n : Nat} (hn : n < 96) : t.aspChans n = s.aspChans n := by
  have hnch : t.aspNch n = s.aspNch n := by rw [aspNch, h.aspConf (by omega) (by decide), aspNch]
  unfold State.aspChans
  rw [hnch]
  refine List.map_congr_left fun i hi => ?_
  have hi8 : i < 8 := by
    have := List.mem_range.1 hi
    split at this <;> omega
  rw [aspChan, h.aspConf (by omega) (by omega), aspChan]

theorem aspList (h : LampView s t) : t.aspList = s.aspList := by
  have henabled : ∀ n ∈ List.range 96, t.aspEnabled n = s.aspEnabled n := fun n hn => by
    have hlt := List.mem_range.1 hn
    rw [aspEnabled, aspUsed, aspNch, h.aspConf (by omega) (by decide), aspDis, h.cfg, aspEnabled, aspUsed, aspNch, aspDis]
  unfold State.aspList
  rw [List.filter_congr henabled]
  exact List.map_congr_left fun n hn => by rw [h.aspChans (List.mem_range.1 (List.mem_filter.1 hn).1)]

theorem chanClass (h : LampView s t) (c : Nat) : t.chanClass c = s.chanClass c := by
  have howner : t.owner c = s.owner c := by rw [State.owner, h.aspList, State.owner]
  unfold State.chanClass
  rw [howner]
  cases hs : s.owner c with
  | none => rfl
  | some n =>
    have hn : n < 96 := by
      obtain ⟨p, hp, rfl⟩ := Option.map_eq_some_iff.1 hs
      have hmem := List.mem_of_find?_eq_some hp
      simp only [State.aspList, List.mem_map, List.mem_filter, List.mem_range] at hmem
      obtain ⟨m, ⟨hm, -⟩, rfl⟩ := hmem
      exact hm
    simp only [aspClass, h.aspConf (show n < 128 by omega) (show 0 < 4 by decide)]

end LampView
-- Operations on one channel

/-- From `s` to `t` only the channel `c` changed, with its own supervision register, the LEDs and the lifetime counters. -/
structure OnChan (c : Nat) (s t : State) : Prop where
  kept : Kept [.regs, .life, .chans, .mtx] s t
  wr : Wr [(aCHS_SUP c, 0)] s t
  frame : t.mtx.frame = s.mtx.frame
  live : t.mtx.live = s.mtx.live
  other : ∀ d, d ≠ c → t.chan d = s.chan d

namespace OnChan

variable {c : Nat} {s t u : State}

theorem refl (c : Nat) (s : State) : OnChan c s s := ⟨.refl s, .refl s, rfl, rfl, fun _ _ => rfl⟩

theorem trans (h : OnChan c s t) (k : OnChan c t u) : OnChan c s u :=
  ⟨h.kept.trans k.kept, h.wr.trans k.wr, k.frame.trans h.frame, k.live.trans h.live, fun d hd => (k.other d hd).trans (h.other d hd)⟩

theorem ite {p : Prop} [Decidable p] (h : OnChan c s t) (k : OnChan c s u) : OnChan c s (if p then t else u) := by
  split <;> assumption

theorem setChan (h : OnChan c s t) (x : Chan) : OnChan c s (t.setChan c x) :=
  ⟨setChan_kept (by decide) c x h.kept, setChan_wr (List.nil_subset _) c x h.wr, h.frame, h.live,
    fun d hd => (t.chan_setChan_other x hd).trans (h.other d hd)⟩

theorem put (h : OnChan c s t) (f : Fld) (v : Nat) (hf : f.addr = aCHS_SUP c := by rfl) : OnChan c s (t.put f v) :=
  ⟨put_kept (by decide) f v h.kept, put_wr (by rw [hf]; exact hit_one (List.mem_singleton_self _)) h.wr,
    by rw [put_mtx]; exact h.frame, by rw [put_mtx]; exact h.live,
    fun d hd => (chan_congr (t.put_chans f v) d).trans (h.other d hd)⟩

theorem putFlag (h : OnChan c s t) (f : Fld) (b : Bool) (hf : f.addr = aCHS_SUP c := by rfl) : OnChan c s (t.putFlag f b) :=
  h.put f (boolNat b) hf

theorem setLed (h : OnChan c s t) (e : Nat) (l : Led) : OnChan c s (t.setLed e l) :=
  ⟨setLed_kept (by decide) e l h.kept, setLed_wr (List.nil_subset _) e l h.wr, h.frame, h.live, h.other⟩

theorem unprove (h : OnChan c s t) : OnChan c s (t.unprove c) := by
  have hput : OnChan c s ((t.put (fSUP_PROOF c) 0).putFlag (fSUP_SUSPECT c) false) := (h.put (fSUP_PROOF c) 0).putFlag (fSUP_SUSPECT c) false
  unfold State.unprove
  exact .ite ((hput.setChan _).setLed _ _) (hput.setChan _)

theorem lampView (h : OnChan c s t) (hc : c < 128) : LampView s t := by
  have hrd {a : Nat} (ha : a < 0x2000 ∨ 0x2800 ≤ a) : t.rd a = s.rd a := h.wr.eq a (by
    simp only [hits, List.any_cons, List.any_nil, if_true, Bool.or_false, beq_eq_false_iff_ne, aCHS_SUP]
    omega)
  have hflag {f : Fld} (hf : f.addr < 0x2000 ∨ 0x2800 ≤ f.addr) : t.flag f = s.flag f := by rw [flag, get, hrd hf, flag, get]
  have hnw : t.get fNW_MN_CAUSE = s.get fNW_MN_CAUSE := by rw [get, hrd (by decide), get]
  exact ⟨hrd (by decide), hrd (by decide), by rw [midnight, hnw, midnight], hflag (by decide), fun a h0 h1 => hrd (by omega), h.frame, h.live,
    by rw [h.kept.grid_eq], h.kept.cfg_eq, h.kept.pwr_eq⟩

end OnChan

/-- An operation that writes none of what the lamps go by. -/
theorem lampView_of_kept {T : List Comp} {s t : State} (h : Kept T s t)
    (hT : Comp.regs ∉ T ∧ Comp.mtx ∉ T ∧ Comp.grid ∉ T ∧ Comp.cfg ∉ T ∧ Comp.pwr ∉ T := by decide) : LampView s t := by
  have hrd (a : Nat) : t.rd a = s.rd a := by rw [rd, h.regs_eq hT.1, rd]
  have hget (f : Fld) : t.get f = s.get f := by rw [get, hrd, get]
  exact ⟨hrd _, hrd _, by rw [midnight, hget, midnight], by rw [flag, hget, flag], fun a _ _ => hrd a, by rw [h.mtx_eq hT.2.1],
    by rw [h.mtx_eq hT.2.1], by rw [h.grid_eq hT.2.2.1], h.cfg_eq hT.2.2.2.1, h.pwr_eq hT.2.2.2.2⟩

-- The arrival of set-points

theorem arrive_onChan (s : State) (c : Nat) : OnChan c s (s.arrive c) := by
  have hdark (p : SetPoint) := (OnChan.refl c s).setChan { (s.chan c).dark s.grid.tick with sent := none, pend := none, cur := p }
  unfold arrive
  dsimp only
  split
  · exact .refl c s
  split
  · exact (OnChan.refl c s).setChan _
  split
  · exact (OnChan.refl c s).setChan _
  · exact .ite (OnChan.unprove (.ite ((hdark _).setLed _ _) (hdark _))) (.ite ((hdark _).setLed _ _) (hdark _))

/-- What an arrival leaves in its channel (R22, R23, R97). -/
def Arrived (s : State) (c : Nat) (x : Chan) : Prop :=
  x.sent = none ∧ ∀ p, (s.chan c).sent = some p →
    (p.lit = true → x.pend = some p)
      ∧ (p.lit = false → x.pend = none ∧ x.cur = p
        ∧ (s.tsd = false ∨ s.chanClass c ≠ 2 ∨ s.scanned (c / 16) = true → x.lit = false))

theorem Arrived.congr {s t : State} {c : Nat} {x : Chan} (hview : LampView s t) (hchan : t.chan c = s.chan c) (h : Arrived t c x) :
    Arrived s c x := by
  rw [Arrived, hchan, hview.tsd, hview.chanClass, hview.scanned] at h
  exact h

/-- A proof that starts anew leaves what the channel shows and waits for. -/
theorem unprove_shows (s : State) (c : Nat) : ((s.unprove c).chan c).sent = (s.chan c).sent ∧ ((s.unprove c).chan c).pend = (s.chan c).pend
    ∧ ((s.unprove c).chan c).cur = (s.chan c).cur ∧ ((s.unprove c).chan c).lit = (s.chan c).lit := by
  have hput : ((s.put (fSUP_PROOF c) 0).putFlag (fSUP_SUSPECT c) false).chan c = s.chan c := chan_congr (by rw [putFlag_chans, put_chans]) c
  have hled (t : State) (e : Nat) (l : Led) : (t.setLed e l).chan c = t.chan c := rfl
  unfold unprove
  dsimp only
  rw [hput]
  split
  · rw [hled, chan_setChan, if_pos rfl]
    exact ⟨rfl, rfl, rfl, rfl⟩
  · rw [chan_setChan, if_pos rfl]
    exact ⟨rfl, rfl, rfl, rfl⟩

theorem arrive_arrived (s : State) (c : Nat) : Arrived s c ((s.arrive c).chan c) := by
  have hled (t : State) (e : Nat) : (t.darkLed e).chan c = t.chan c := rfl
  unfold arrive
  dsimp only
  split
  case h_1 hnone => exact ⟨hnone, fun p hp => by rw [hnone] at hp; exact absurd hp nofun⟩
  case h_2 p hsome =>
  have hp {q : SetPoint} (hq : (s.chan c).sent = some q) : q = p := Option.some.inj (hq.symm.trans hsome)
  split
  case isTrue hlit =>
    rw [chan_setChan, if_pos rfl]
    refine ⟨rfl, fun q hq => ?_⟩
    obtain rfl := hp hq
    exact ⟨fun _ => rfl, fun h => absurd (hlit.symm.trans h) nofun⟩
  case isFalse hlit =>
  split
  case isTrue hheld =>
    rw [chan_setChan, if_pos rfl]
    refine ⟨rfl, fun q hq => ?_⟩
    obtain rfl := hp hq
    refine ⟨fun h => absurd h hlit, fun _ => ⟨rfl, rfl, fun hno => ?_⟩⟩
    simp only [Bool.and_eq_true, beq_iff_eq, Bool.not_eq_true'] at hheld
    obtain ⟨⟨htsd, hclass⟩, hscan⟩ := hheld
    rw [htsd, hscan] at hno
    simp [hclass] at hno
  case isFalse =>
    have hdark : ∀ x : Chan, x.sent = none ∧ x.pend = none ∧ x.cur = p ∧ x.lit = false → Arrived s c x := fun x hx => by
      obtain ⟨hsent, hpend, hcur, hl⟩ := hx
      refine ⟨hsent, fun q hq => ?_⟩
      obtain rfl := hp hq
      exact ⟨fun h => absurd h hlit, fun _ => ⟨hpend, hcur, fun _ => hl⟩⟩
    apply hdark
    have hbase (t : State) (ht : t = s.setChan c { (s.chan c).dark s.grid.tick with sent := none, pend := none, cur := p }
        ∨ t = (s.setChan c { (s.chan c).dark s.grid.tick with sent := none, pend := none, cur := p }).darkLed
          ((s.setChan c { (s.chan c).dark s.grid.tick with sent := none, pend := none, cur := p }).homeLed c)) :
        (t.chan c).sent = none ∧ (t.chan c).pend = none ∧ (t.chan c).cur = p ∧ (t.chan c).lit = false := by
      obtain rfl | rfl := ht
      · rw [chan_setChan, if_pos rfl]
        exact ⟨rfl, rfl, rfl, rfl⟩
      · rw [hled, chan_setChan, if_pos rfl]
        exact ⟨rfl, rfl, rfl, rfl⟩
    have hunprove (t : State) (h : (t.chan c).sent = none ∧ (t.chan c).pend = none ∧ (t.chan c).cur = p ∧ (t.chan c).lit = false) :
        ((t.unprove c).chan c).sent = none ∧ ((t.unprove c).chan c).pend = none ∧ ((t.unprove c).chan c).cur = p
          ∧ ((t.unprove c).chan c).lit = false := by
      obtain ⟨hsent, hpend, hcur, hl⟩ := t.unprove_shows c
      rw [hsent, hpend, hcur, hl]
      exact h
    split
    · exact hunprove _ (hbase _ (by split; exacts [.inr rfl, .inl rfl]))
    · exact hbase _ (by split; exacts [.inr rfl, .inl rfl])

/-- Set-points that arrive one after another: each finds its own channel as it was. -/
theorem arrivals (l : List Nat) (hl : l.Nodup) (hlt : ∀ c ∈ l, c < 128) (c : Nat) : ∀ s : State,
    (c ∉ l → (l.foldl (fun s c => (s.arrive c).linkDone 0 (4, c)) s).chan c = s.chan c)
      ∧ (c ∈ l → Arrived s c ((l.foldl (fun s c => (s.arrive c).linkDone 0 (4, c)) s).chan c)) := by
  induction l with
  | nil => exact fun s => ⟨fun _ => rfl, fun h => absurd h List.not_mem_nil⟩
  | cons a l ih =>
    intro s
    obtain ⟨hno, hnodup⟩ := List.nodup_cons.1 hl
    obtain ⟨ihout, ihin⟩ := ih hnodup (fun d hd => hlt d (List.mem_cons_of_mem a hd)) ((s.arrive a).linkDone 0 (4, a))
    have hdone (d : Nat) : ((s.arrive a).linkDone 0 (4, a)).chan d = (s.arrive a).chan d :=
      chan_congr (linkDone_kept (T := [.link]) (by decide) 0 (4, a) (.refl (s.arrive a))).chans_eq d
    have hview : LampView s ((s.arrive a).linkDone 0 (4, a)) := ((s.arrive_onChan a).lampView (hlt a List.mem_cons_self)).trans
      (lampView_of_kept (linkDone_kept (T := [.link]) (by decide) 0 (4, a) (.refl (s.arrive a))))
    rw [List.foldl_cons]
    constructor
    · intro h
      obtain ⟨hne, hout⟩ := not_or.1 (mt List.mem_cons.2 h)
      rw [ihout hout, hdone]
      exact (s.arrive_onChan a).other c hne
    · intro h
      obtain rfl | hin := List.mem_cons.1 h
      · rw [ihout hno, hdone]
        exact s.arrive_arrived c
      · have hne : c ≠ a := fun heq => hno (heq ▸ hin)
        exact (ihin hin).congr hview ((hdone c).trans ((s.arrive_onChan a).other c hne))

-- The resolver's state but for its aspects

/-- Of the resolver only the aspects differ. -/
def AspsOnly (s t : State) : Prop := t.res = { s.res with asps := t.res.asps }

namespace AspsOnly

variable {s t u : State}

theorem of_eq (h : t.res = s.res) : AspsOnly s t := by rw [AspsOnly, h]

theorem refl (s : State) : AspsOnly s s := of_eq rfl

theorem trans (h : AspsOnly s t) (k : AspsOnly t u) : AspsOnly s u := by rw [AspsOnly, k, h]

theorem of_kept {T : List Comp} (h : Kept T s t) (hT : Comp.res ∉ T := by decide) : AspsOnly s t := of_eq (h.res_eq hT)

theorem setAsp (s : State) (n : Nat) (x : Asp) : AspsOnly s (s.setAsp n x) := rfl

theorem fold {β : Type} {g : State → β → State} (h : ∀ t b, AspsOnly t (g t b)) (l : List β) (s : State) : AspsOnly s (l.foldl g s) := by
  induction l generalizing s with
  | nil => exact .refl s
  | cons b l ih => exact (h s b).trans (ih _)

theorem ite {p : Prop} [Decidable p] (h : AspsOnly s t) (k : AspsOnly s u) : AspsOnly s (if p then t else u) := by
  split <;> assumption

end AspsOnly

theorem ruleConflict_asps (s : State) (n : Nat) (b : Bool) : AspsOnly s (s.ruleConflict n b) := by
  have hnote (t : State) (l : List Nat) : AspsOnly t (((t.logEv evRULE_CONFLICT kASPECT n l).bump aASP_CONFLICT_CNT).raise srcCONFLICT) :=
    .of_kept (raise_kept (T := [.regs, .icu, .evt, .nw, .pwr]) (by decide) _ (bump_kept (by decide) _ (logEv_kept (by decide) _ _ _ _ (.refl t))))
  unfold ruleConflict
  exact .ite ((AspsOnly.setAsp s n _).trans (hnote _ _)) (.setAsp s n _)

theorem resolveAsp_asps (z s : State) (n : Nat) : AspsOnly s (resolveAsp z s n) := by
  have hwr (t : State) (a v : Nat) : AspsOnly t (t.wr a v) := .of_kept (wr_kept (T := [.regs]) (by decide) _ _ (.refl t))
  have hacc (t : State) (o : Nat) (p : Prop) [Decidable p] : AspsOnly t (if p then t.lifeAcc o 1 else t) :=
    .ite (.of_kept (lifeAcc_kept (T := [.life]) (by decide) _ _ (.refl t))) (.refl t)
  have hshow (t : State) (v : Verdict) (a b d : Bool) (st : Nat) : AspsOnly t ((t.putAsp n v a b d st).putAspFlt n) :=
    .of_kept (putAspFlt_kept (T := [.regs]) (by decide) _ (putAsp_kept (by decide) _ _ _ _ _ _ (.refl t)))
  unfold resolveAsp
  refine .ite ((AspsOnly.setAsp s n _).trans ((hwr _ _ _).trans (hwr _ _ _))) ?_
  exact ((((hacc _ _ _).trans (hacc _ _ _)).trans (hshow _ _ _ _ _ _)).trans (.setAsp _ n _)).trans (ruleConflict_asps _ _ _)

/-- The latches at the start of a resolution (R20). -/
def latchedRes (s : State) : Resolver := { s.res with
  litproof := (List.range 128).foldl (fun t c => tabSet (fun _ => false) t c (s.flag (fSUP_LITPROOF c))) []
  provenLit := (List.range 128).foldl (fun t c => tabSet (fun _ => false) t c (s.get (fSUP_PROOF c) == 2)) []
  lost := (List.range 128).foldl (fun t c => tabSet (fun _ => false) t c (s.lost c)) []
  running := true, ready := false, committed := false }

theorem resolve_res (s : State) : s.resolve.res = { s.latchedRes with asps := s.resolve.res.asps } := by
  have hheads (t z : State) : AspsOnly t ((List.range 32).foldl (resolveHead z) t).spiStats :=
    (AspsOnly.fold (fun t h => .of_kept (resolveHead_kept (T := [.regs]) (by decide) z h (.refl t))) _ _).trans
      (.of_kept (spiStats_kept (T := [.spi]) (by decide) (.refl _)))
  exact ((AspsOnly.fold (fun t n => resolveAsp_asps { s with res := s.latchedRes } t n) (List.range 96) { s with res := s.latchedRes }).trans
    (hheads _ _) : AspsOnly { s with res := s.latchedRes } s.resolve)

-- The end of the resolution

theorem slot_resolved (s : State) {n : Nat} (hn : n < 96) :
    s.resolved.slot (928 + n) = ⟨true, ((s.rd (aASP_STAT n)).toNat % 256 : Nat), s.grid.tick⟩ := by
  have hshift : (List.range 96).foldl (fun s n => s.obsWrite (928 + n) ((s.rd (aASP_STAT n)).toNat % 256 : Nat)) s
      = ((List.range 96).map (928 + ·)).foldl (fun s n => s.obsWrite n ((s.rd (aASP_STAT (n - 928))).toNat % 256 : Nat)) s := by
    rw [List.foldl_map]
    simp only [Nat.add_sub_cancel_left]
  have hslot : s.resolved.slot (928 + n)
      = ((List.range 96).foldl (fun s n => s.obsWrite (928 + n) ((s.rd (aASP_STAT n)).toNat % 256 : Nat)) s).slot (928 + n) := by
    rw [slot, slot]
    simp only [resolved]
  rw [hslot, hshift, slot_foldWrite (F := fun s n => ((s.rd (aASP_STAT (n - 928))).toNat % 256 : Nat)) (fun _ _ _ _ => rfl),
    if_pos (List.mem_map_of_mem (List.mem_range.2 hn)), Nat.add_sub_cancel_left]

theorem resolved_res (s : State) : s.resolved.res = { s.res with running := false, ready := true, readyAt := s.grid.tick } := by
  have hkept : Kept [.obs] s ((List.range 96).foldl (fun s n => s.obsWrite (928 + n) ((s.rd (aASP_STAT n)).toNat % 256 : Nat)) s) :=
    Kept.fold (fun _ _ h => obsWrite_kept (by decide) _ _ h) (.refl s)
  simp only [resolved, hkept.res_eq, hkept.grid_eq]

-- The RULE commit

/-- The result is taken (R21). -/
def resTaken (s : State) : State := { s with res := { s.res with ready := false, committed := true } }

theorem aspectCommit_midnight {s : State} (hready : s.ruleReady = true) (hmn : s.midnight = true) : s.aspectCommit = s.resTaken := by
  unfold aspectCommit
  rw [if_neg (by simp [hready])]
  exact if_pos hmn

theorem aspectCommit_unready {s : State} (hready : s.ruleReady = false) : s.aspectCommit = s := if_pos (by simp [hready])

/-- Beyond the taken result the commit changes of the resolver only aspects. -/
theorem aspectCommit_asps {s : State} (hready : s.ruleReady = true) : AspsOnly s.resTaken s.aspectCommit := by
  have hrefuse (t : State) (n : Nat) : AspsOnly t (refusePattern t n) := by
    have hflags (t : State) (l : List Nat) (b : Bool) : AspsOnly t (l.foldl (fun s c => s.putFlag (fCDIM_REFUSED c) b) t) :=
      .fold (fun t c => .of_kept (putFlag_kept (T := [.regs]) (by decide) _ _ (.refl t))) _ _
    unfold refusePattern
    have hset (b : Bool) (x : Asp) : AspsOnly t (((t.aspChans n).foldl (fun s c => s.putFlag (fCDIM_REFUSED c) b) t).setAsp n x) :=
      (hflags _ _ _).trans (.setAsp _ n x)
    exact .ite ((hset _ _).trans (.of_kept (logEv_kept (T := [.regs, .evt]) (by decide) _ _ _ _ (.refl _)))) (hset _ _)
  have hcommit (t : State) (n : Nat) : AspsOnly t (commitAsp t n) :=
    (AspsOnly.setAsp t n _).trans (.fold (fun t c => .of_kept (setChan_kept (T := [.chans]) (by decide) _ _ (.refl t))) _ _)
  have hend (t : State) : AspsOnly t ((t.dawnComplete.duskEnd).judgeReady) :=
    .of_kept (judgeReady_kept (T := [.regs, .pins, .icu, .evt, .nw, .pwr, .chans, .mtx]) (by decide) (duskEnd_kept (by decide)
      (dawnComplete_kept (by decide) (.refl t))))
  have hdrive (t : State) : AspsOnly t (if t.takesCommits then t.commitDrive else t) :=
    .ite (.of_kept (commitDrive_kept (T := [.regs, .icu, .evt, .nw, .pwr, .chans, .banks, .boost, .mtx]) (by decide) (.refl t))) (.refl t)
  have hasps (t : State) (l : List Nat) : AspsOnly t ((l.foldl commitAsp (l.foldl refusePattern t)).banksSeen) :=
    ((AspsOnly.fold hrefuse l t).trans (.fold hcommit l _)).trans (.of_kept (banksSeen_kept (T := [.banks]) (by decide) (.refl _)))
  have hprev (t : State) (l : List Nat) : AspsOnly t (l.foldl (fun s n => s.setAsp n { s.asp n with prev := false }) t) :=
    .fold (fun t n => .setAsp t n _) l t
  have hfreeze : AspsOnly s.resTaken s.resTaken.endFreeze := .of_kept (endFreeze_kept (T := [.regs]) (by decide) (.refl s.resTaken))
  unfold aspectCommit
  rw [if_neg (by simp [hready])]
  exact .ite (.refl s.resTaken) (((((hfreeze.trans (hasps _ ((List.range 96).filter s.resTaken.endFreeze.aspUsed))).trans (hprev _ _)).trans
    (hdrive _)).trans (hend _)))

theorem duskLamps_latched (s : State) : s.duskLamps.pwr.latched = true := by
  have hafter (t : State) (p : Nat → Bool) (q : Nat → Bool) : Kept [.regs, .evt, .chans, .banks, .boost, .mtx] t
      ((List.range 8).foldl (fun s n => if q n then s else s.bankOpen n)
        ((List.range 128).foldl (fun s c => if p c then s else s.darken c) t)).scanStop.needs :=
    needs_kept (by decide) (scanStop_kept (by decide) (Kept.fold (fun _ n h => .ite h (bankOpen_kept (by decide) n h))
      (Kept.fold (fun _ c h => .ite h (darken_kept (by decide) c h)) (.refl t))))
  have hpwr := (hafter { s with pwr := { s.pwr with
    latched := true, duskSet := s.duskChans.foldl (fun t c => tabSet (fun _ => false) t c true) [] } }
    (fun c => s.duskChans.contains c) (fun n => s.duskChans.any fun c => c / 16 == n)).pwr_eq
  exact congrArg Power.latched hpwr

end State

theorem exec_resolverStart (s : State) :
    exec .resolverStart s = if s.rulesRun && !s.rule.running && s.ruleAt 5000 then .next s.resolve else .next s := rfl
theorem exec_resolverComplete (s : State) : exec .resolverComplete s = if s.res.running then .next s.resolved else .next s := rfl
theorem exec_aspectCommit (s : State) : exec .aspectCommit s = if s.ruleAt 7500 then .next s.ruleCommit else .next s := rfl
theorem exec_setpointArrival (s : State) :
    exec .setpointArrival s = if s.takesCommits then .next s.setpointArrival else .next s := rfl

/-- Settles O17. -/
theorem resolveAndCommit : Obligations.ResolveAndCommit := by
  intro s
  refine ⟨fun hrun hidle htick => .of_eq ((exec_resolverStart s).trans (if_pos (by simp [hrun, hidle, htick]))) ?_,
    fun hno => .of_eq ((exec_resolverStart s).trans (if_neg ?_)) rfl,
    fun hrun => .of_eq ((exec_resolverComplete s).trans (if_pos hrun)) ?_,
    fun hrun => .of_eq ((exec_resolverComplete s).trans (if_neg (by simp [hrun]))) rfl, fun hno => ?_,
    fun hready htick hmn => .of_eq ((exec_aspectCommit s).trans (if_pos htick)) ?_,
    fun hready htick hmn => .of_eq ((exec_aspectCommit s).trans (if_pos htick)) ?_,
    fun htakes => .of_eq ((exec_setpointArrival s).trans (if_pos htakes)) ⟨(State.setpointArrival_kept (by decide) (.refl s)).only, ?_⟩,
    fun htakes => .of_eq ((exec_setpointArrival s).trans (if_neg (by simp [htakes]))) rfl⟩
  case refine_1 =>
    rw [s.resolve_res]
    exact ⟨rfl, rfl, rfl, fun c hc => ⟨State.tabGet_foldSet _ (fun c => s.flag (fSUP_LITPROOF c)) 128 [] hc,
      State.tabGet_foldSet _ (fun c => s.get (fSUP_PROOF c) == 2) 128 [] hc, State.tabGet_foldSet _ s.lost 128 [] hc⟩, (State.resolve_kept (by decide) (.refl s)).only⟩
  case refine_2 =>
    obtain h | h | h := hno <;> simp [h]
  case refine_3 =>
    rw [s.resolved_res]
    exact ⟨rfl, rfl, rfl, (State.resolved_kept (by decide) (.refl s)).only, fun n hn => s.slot_resolved hn⟩
  case refine_4 =>
    obtain hready | htick := hno
    · have hcommit : s.ruleCommit = s := by
        unfold State.ruleCommit
        rw [State.aspectCommit_unready hready]
        exact if_neg (by simp [hready])
      refine ⟨s, ?_, rfl⟩
      rw [exec_aspectCommit, hcommit, ite_self]
    · exact .of_eq ((exec_aspectCommit s).trans (if_neg (by simp [htick]))) rfl
  case refine_5 =>
    unfold State.ruleCommit
    rw [State.aspectCommit_midnight hready hmn]
    exact if_neg (by simp [hmn])
  case refine_6 =>
    have hres : s.ruleCommit.res = s.aspectCommit.res := by
      unfold State.ruleCommit
      dsimp only
      split
      · exact (State.duskLamps_kept (T := [.regs, .evt, .pwr, .chans, .banks, .boost, .mtx]) (by decide) (.refl s.aspectCommit)).res_eq
      · rfl
    have hasps : s.aspectCommit.res = _ := State.aspectCommit_asps hready
    rw [hres, hasps]
    refine ⟨rfl, rfl, fun hstate hlatched => ?_, (State.ruleCommit_kept (by decide) (.refl s)).only⟩
    have heq : s.ruleCommit = s.aspectCommit.duskLamps := if_pos (by simp [hready, hstate, hlatched, hmn])
    rw [heq]
    exact State.duskLamps_latched _
  case refine_7 =>
    intro c hc
    obtain ⟨hout, hin⟩ := State.arrivals ((List.range 128).filter fun c => s.linkTurn 0 (4, c)) (List.nodup_range.filter _)
      (fun d hd => List.mem_range.1 (List.mem_filter.1 hd).1) c s
    refine ⟨fun hturn => hout ?_, fun hturn => hin ?_⟩
    · simp [hturn]
    · simp [hturn, hc]

end Sys2Proof.Machine
end

section
/-! WHAT BEGINS IN THE LAMP DRIVE (R84-R90, R119, R157-R160): PWM periods, pattern cycles, scan frames and scan slots. -/

namespace Sys2Proof.Machine

namespace State

variable {s : State} {c : Nat}

-- PWM periods

/-- What follows the new drive of a channel in its period start: probe judgement and the shown drive (R84, R87, R129). -/
def pwmTail (s : State) (c : Nat) (judged : Option Bool) (gone inReg unsup : Bool) (p : PlanOf) (sp : SetPoint) (free : Nat) : State :=
  let s := ((s.clipStep c judged gone).putFlag (fSUP_PROBE c) inReg).putFlag (fSUP_UNSUP c) unsup
  let s := if unsup then s.provenLit c else s
  { s.showDrive c p (s.patActs c sp) p.nOn with free := free }

theorem provenLit_shows (s : State) (c : Nat) : ((s.provenLit c).chan c).cur = (s.chan c).cur ∧ ((s.provenLit c).chan c).pend = (s.chan c).pend
    ∧ ((s.provenLit c).chan c).start = (s.chan c).start := by
  have hput : ((s.put (fSUP_PROOF c) 2).putFlag (fSUP_LITPROOF c) true).chan c = s.chan c := chan_congr (by rw [putFlag_chans, put_chans]) c
  unfold provenLit
  dsimp only
  rw [chan_setChan, if_pos rfl, hput]
  exact ⟨rfl, rfl, rfl⟩

theorem pwmTail_shows (s : State) (c : Nat) (judged : Option Bool) (gone inReg unsup : Bool) (p : PlanOf) (sp : SetPoint) (free : Nat) :
    ((s.pwmTail c judged gone inReg unsup p sp free).chan c).cur = (s.chan c).cur
      ∧ ((s.pwmTail c judged gone inReg unsup p sp free).chan c).pend = (s.chan c).pend
      ∧ ((s.pwmTail c judged gone inReg unsup p sp free).chan c).start = (s.chan c).start := by
  have hflags : Kept [.regs, .evt] s (((s.clipStep c judged gone).putFlag (fSUP_PROBE c) inReg).putFlag (fSUP_UNSUP c) unsup) :=
    putFlag_kept (by decide) _ _ (putFlag_kept (by decide) _ _ (clipStep_kept (by decide) c judged gone (.refl s)))
  have hshow (t : State) (pat : Bool) (n : Nat) : ({ t.showDrive c p pat n with free := free } : State).chan c = t.chan c :=
    chan_congr ((showDrive_kept (T := [.regs, .free]) (by decide) c p pat n (.refl t)).upd_free (by decide)).chans_eq c
  unfold pwmTail
  dsimp only
  rw [hshow]
  split
  · rw [(provenLit_shows _ c).1, (provenLit_shows _ c).2.1, (provenLit_shows _ c).2.2, chan_congr hflags.chans_eq]
    exact ⟨rfl, rfl, rfl⟩
  · rw [chan_congr hflags.chans_eq]
    exact ⟨rfl, rfl, rfl⟩

/-- The Morning probe counts down and the proof restarts before the new drive is taken (R86, R128, R392). -/
def pwmReady (s : State) (c : Nat) (took drop lit : Bool) : State :=
  (if took then s.mornTake c drop else s).litStep c (s.chan c).lit lit

theorem pwmReady_kept (s : State) (c : Nat) (took drop lit : Bool) : Kept [.regs, .life, .chans, .mtx, .pwr] s (s.pwmReady c took drop lit) :=
  litStep_kept (by decide) c _ _ (.ite (mornTake_kept (by decide) c drop (.refl s)) (.refl s))

/-- A period that begins after one that was not missed (R84): the waiting set-point becomes the current one. -/
theorem pwmStart_eq (hdue : s.periodDue c = true) (hmissed : (s.chan c).missed = false) :
    ∃ took drop lit x judged gone inReg unsup p sp free,
      s.pwmStart c = ((s.pwmReady c took drop lit).setChan c x).pwmTail c judged gone inReg unsup p sp free
        ∧ x.cur = (s.chan c).pend.getD (s.chan c).cur ∧ x.pend = none ∧ x.start = (s.pwmReady c took drop lit).grid.tick := by
  unfold pwmStart
  dsimp only
  rw [if_neg (by simp [hdue]), if_neg (by simp [hmissed])]
  exact ⟨_, _, _, _, _, _, _, _, _, _, _, rfl, rfl, rfl, rfl⟩

theorem pwmStart_shows (hdue : s.periodDue c = true) (hmissed : (s.chan c).missed = false) :
    ((s.pwmStart c).chan c).cur = (s.chan c).pend.getD (s.chan c).cur ∧ ((s.pwmStart c).chan c).pend = none
      ∧ ((s.pwmStart c).chan c).start = s.grid.tick := by
  obtain ⟨took, drop, lit, x, judged, gone, inReg, unsup, p, sp, free, heq, hcur, hpend, hstart⟩ := pwmStart_eq hdue hmissed
  obtain ⟨tcur, tpend, tstart⟩ := ((s.pwmReady c took drop lit).setChan c x).pwmTail_shows c judged gone inReg unsup p sp free
  rw [heq, tcur, tpend, tstart, chan_setChan, if_pos rfl, hcur, hpend, hstart, (s.pwmReady_kept c took drop lit).grid_eq]
  exact ⟨rfl, rfl, rfl⟩

theorem pwmStart_missed (hdue : s.periodDue c = true) (hmissed : (s.chan c).missed = true) : s.pwmStart c = s.pwmRepeat c := by
  unfold pwmStart
  dsimp only
  rw [if_neg (by simp [hdue]), if_pos hmissed]

theorem pwmStart_not_due (hdue : s.periodDue c = false) : s.pwmStart c = s := if_pos (by simp [hdue])

/-- No period of a scanned channel begins: its frames take their place (R157). -/
theorem periodDue_scanned (h : s.scanned (c / 16) = true) : s.periodDue c = false := by
  simp [periodDue, h]

-- The scan group

/-- The frame, its slot and its layout are the same. -/
structure FrameSame (s t : State) : Prop where
  frame : t.mtx.frame = s.mtx.frame
  slot : t.mtx.slot = s.mtx.slot
  live : t.mtx.live = s.mtx.live

namespace FrameSame

variable {s t u : State}

theorem refl (s : State) : FrameSame s s := ⟨rfl, rfl, rfl⟩

theorem trans (h : FrameSame s t) (k : FrameSame t u) : FrameSame s u :=
  ⟨k.frame.trans h.frame, k.slot.trans h.slot, k.live.trans h.live⟩

theorem of_eq (h : t.mtx = s.mtx) : FrameSame s t := ⟨by rw [h], by rw [h], by rw [h]⟩

theorem of_kept {T : List Comp} (h : Kept T s t) (hT : Comp.mtx ∉ T := by decide) : FrameSame s t := of_eq (h.mtx_eq hT)

theorem setLed (s : State) (e : Nat) (l : Led) : FrameSame s (s.setLed e l) := ⟨rfl, rfl, rfl⟩

theorem ite {p : Prop} [Decidable p] (h : FrameSame s t) (k : FrameSame s u) : FrameSame s (if p then t else u) := by split <;> assumption

theorem fold {β : Type} {g : State → β → State} (h : ∀ t b, FrameSame t (g t b)) (l : List β) (s : State) : FrameSame s (l.foldl g s) := by
  induction l generalizing s with
  | nil => exact .refl s
  | cons b l ih => exact (h s b).trans (ih _)

theorem setChan (s : State) (c : Nat) (x : Chan) : FrameSame s (s.setChan c x) := .of_kept (setChan_kept (T := [.chans]) (by decide) c x (.refl s))

theorem unprove (s : State) (c : Nat) : FrameSame s (s.unprove c) := by
  have hput : FrameSame s ((s.put (fSUP_PROOF c) 0).putFlag (fSUP_SUSPECT c) false) := .of_eq (by rw [putFlag_mtx, put_mtx])
  unfold State.unprove
  exact .ite ((hput.trans (.setChan _ _ _)).trans (.setLed _ _ _)) (hput.trans (.setChan _ _ _))

theorem litStep (s : State) (c : Nat) (was now : Bool) : FrameSame s (s.litStep c was now) := by
  have hacc (t : State) (o n : Nat) : FrameSame t (t.lifeAcc o n) := .of_kept (lifeAcc_kept (T := [.life]) (by decide) _ _ (.refl t))
  have hput (t : State) (f : Fld) (b : Bool) : FrameSame t (t.putFlag f b) := .of_eq (putFlag_mtx _ _ _)
  unfold State.litStep
  split
  · exact .refl s
  dsimp only
  split
  · exact ((unprove s c).trans (hacc _ _ _)).trans (setChan _ _ _)
  split
  · exact (unprove s c).trans (setChan _ _ _)
  · exact ((unprove s c).trans (setChan _ _ _)).trans (hput _ _ _)

end FrameSame

theorem frameChan_frame (s : State) (c : Nat) (p : PlanOf) (q : ProbeOf) : FrameSame s (s.frameChan c p q) := by
  have htail (t : State) (judged : Option Bool) (gone inReg : Bool) (pat : State → Bool) (n : Nat) (b : Bool) : FrameSame t
      ((if b then ((t.clipStep c judged gone).putFlag (fSUP_PROBE c) inReg).provenLit c
        else (t.clipStep c judged gone).putFlag (fSUP_PROBE c) inReg).showDrive c p
          (pat (if b then ((t.clipStep c judged gone).putFlag (fSUP_PROBE c) inReg).provenLit c
            else (t.clipStep c judged gone).putFlag (fSUP_PROBE c) inReg)) n) := by
    have hflags : Kept [.regs, .evt, .chans] t ((t.clipStep c judged gone).putFlag (fSUP_PROBE c) inReg) :=
      putFlag_kept (by decide) _ _ (clipStep_kept (by decide) c judged gone (.refl t))
    exact .of_kept (showDrive_kept (T := [.regs, .evt, .chans]) (by decide) c p _ n (.ite (provenLit_kept (by decide) c hflags) hflags))
  have hset : FrameSame s ((s.litStep c (s.chan c).lit p.lit).setChan c { (s.litStep c (s.chan c).lit p.lit).chan c with
      lit := p.lit, mode := p.mode, nOn := p.nOn, pulse := q.pulse, start := (s.litStep c (s.chan c).lit p.lit).grid.tick, iop := p.iop,
      iopRun := p.iop }) := (FrameSame.litStep s c _ _).trans (.setChan _ _ _)
  exact hset.trans (htail _ _ _ _ (fun t => t.patActs c (t.chan c).cur) _ _)

theorem frameLed_frame (s : State) (e : Nat) : FrameSame s (s.frameLed e) := by
  have hrepeat : FrameSame s (s.ledRepeat e) := by
    unfold ledRepeat
    exact .ite ((FrameSame.setLed s e _).trans (.setChan _ _ _)) (.setLed s e _)
  have htake (t : State) (p : Prop) [Decidable p] (c : Nat) : FrameSame t (if p then t.takePend c else t) :=
    .ite (.of_kept (takePend_kept (T := [.chans]) (by decide) c (.refl t))) (.refl t)
  have hmorn (t : State) (p : Prop) [Decidable p] (c : Nat) (b : Bool) : FrameSame t (if p then t.mornTake c b else t) :=
    .ite (.of_kept (mornTake_kept (T := [.pwr]) (by decide) c b (.refl t))) (.refl t)
  have hshow (t : State) (p : Prop) [Decidable p] (c : Nat) (l : Led) (pl : PlanOf) (q : ProbeOf) :
      FrameSame t (if p then (t.setLed e l).frameChan c pl q else t.setLed e l) :=
    .ite ((FrameSame.setLed t e l).trans (frameChan_frame _ c pl q)) (.setLed t e l)
  unfold frameLed
  exact .ite (.refl s) (.ite hrepeat (((htake s _ _).trans (hmorn _ _ _ _)).trans (hshow _ _ _ _ _ _)))

/-- The frame begins on the layout of MTX_CFG (R157, R158). -/
def frameBegun (s : State) : State :=
  let w := (s.rd aMTX_CFG).toNat
  let same := bitsOf w 17 7 == bitsOf s.mtx.live 17 7
  { s with mtx := ⟨w, s.grid.tick, 0, if same then s.mtx.born else s.grid.tick, if same then s.mtx.leds else []⟩ }

/-- The LEDs and the columns take up the frame (R157, R160). -/
def frameTaken (s : State) : State :=
  let s := (List.range (128 * s.mtxBanks)).foldl frameLed s
  let s := (List.range (16 * s.mtxBanks)).foldl (fun s j => s.frameColumn (16 * s.mtxFirst + j)) s
  { s with free := s.free + 1 }

theorem frameTaken_frame (s : State) : FrameSame s s.frameTaken := by
  have hcolumns (t : State) (l : List Nat) : FrameSame t (l.foldl (fun s j => s.frameColumn (16 * s.mtxFirst + j)) t) :=
    .fold (fun t j => .of_kept (frameColumn_kept (T := [.regs, .chans]) (by decide) _ (.refl t))) l t
  have hfree (t : State) (n : Nat) : FrameSame t { t with free := n } := .of_eq rfl
  exact ((FrameSame.fold (fun t e => t.frameLed_frame e) _ s).trans (hcolumns _ _)).trans (hfree _ _)

/-- The frame that may begin: MTX_CFG.EN, lamps not kept, no Midnight, Dawn at D5 or later, and the frame's tick (R157). -/
def Framed (s : State) : Prop :=
  s.flag fMTX_EN = true ∧ s.lampsKept = false ∧ s.midnight = false ∧ 5 ≤ s.get fPWR_PHASE ∧ s.frameDue = true

theorem frameStart_eq (h : s.Framed) : s.frameStart = (s.scanEnd.frameBegun.putFlag fMTX_RUN true).frameTaken := by
  obtain ⟨hen, hkept, hmn, hphase, hdue⟩ := h
  unfold frameStart
  rw [if_neg (by simp [hen, hkept, hmn, hdue]; omega)]
  rfl

theorem frameStart_not (h : ¬ s.Framed) : s.frameStart = s := by
  refine if_pos (by_contra fun hno => h ?_)
  simp only [Bool.or_eq_true, Bool.not_eq_true', decide_eq_true_eq, not_or, Bool.not_eq_false, Bool.not_eq_true] at hno
  obtain ⟨⟨⟨⟨hen, hkept⟩, hmn⟩, hphase⟩, hdue⟩ := hno
  exact ⟨hen, hkept, hmn, by omega, hdue⟩

theorem frameStart_frame (h : s.Framed) : s.frameStart.mtx.frame = s.grid.tick ∧ s.frameStart.mtx.slot = 0
    ∧ s.frameStart.mtx.live = (s.rd aMTX_CFG).toNat := by
  have hend := scanEnd_kept (T := [.regs, .banks, .mtx]) (by decide) (.refl s)
  have hrd : s.scanEnd.rd aMTX_CFG = s.rd aMTX_CFG := (scanEnd_wr (R := [(0x204, 0), (0x2900, 0)]) (by decide) (.refl s)).eq _ (by decide)
  obtain ⟨hframe, hslot, hlive⟩ := (FrameSame.of_eq (putFlag_mtx s.scanEnd.frameBegun fMTX_RUN true)).trans (frameTaken_frame _)
  rw [frameStart_eq h, hframe, hslot, hlive]
  exact ⟨congrArg Grid.tick hend.grid_eq, rfl, congrArg BitVec.toNat hrd⟩

/-- The lines of the slot before open, and its columns show their SCALE (R158, R160). -/
def slotEnded (s : State) : State :=
  if s.mtx.slot = 0 then s
  else ((s.slotLines (s.mtx.slot - 1)).foldl (fun s l => s.bankOpen (s.mtxFirst + l)) s).slotScales (s.mtx.slot - 1)

/-- The lines of slot `k` close (R158). -/
def slotLit (s : State) (k : Nat) : State :=
  if k = s.mtxSlots then s else (s.slotLines k).foldl (fun s l => s.lineClose (s.mtxFirst + l)) s

theorem slotStart_eq (hruns : s.frameRuns = true) (hslot : s.mtx.slot ≤ s.mtxSlots)
    (htick : s.grid.tick = s.mtx.frame + s.mtx.slot * s.slotTicks) :
    s.slotStart = { s.slotEnded.slotLit s.mtx.slot with mtx := { (s.slotEnded.slotLit s.mtx.slot).mtx with slot := s.mtx.slot + 1 } } := by
  unfold slotStart
  dsimp only
  rw [if_neg (by simp [hruns]), if_neg (by simp [htick]; omega)]
  rfl

theorem slotDone_kept (s : State) (k : Nat) : Kept [.regs, .banks] s (s.slotEnded.slotLit k) := by
  have hended : Kept [.regs, .banks] s s.slotEnded :=
    .ite (.refl s) (slotScales_kept (by decide) _ (Kept.fold (fun _ l h => bankOpen_kept (by decide) _ h) (.refl s)))
  exact .ite hended (Kept.fold (fun _ l h => lineClose_kept (by decide) _ h) hended)

theorem slotDone_wr (s : State) (k : Nat) : Wr [(0x204, 0), (0x2000, 16)] s (s.slotEnded.slotLit k) := by
  have hended : Wr [(0x204, 0), (0x2000, 16)] s s.slotEnded :=
    .ite (.refl s) (slotScales_wr (by decide) _ (Wr.fold (fun _ l h => bankOpen_wr (by decide) _ h) (.refl s)))
  exact .ite hended (Wr.fold (fun _ l h => lineClose_wr (by decide) _ h) hended)

theorem scanEnd_of_over (hrun : s.flag fMTX_RUN = true) (hruns : s.frameRuns = false) :
    s.scanEnd.mtx.slot = 0 ∧ s.scanEnd.flag fMTX_RUN = s.flag fMTX_EN := by
  have hopen (l : List Nat) (f : Nat) : Wr [(0x204, 0)] s (l.foldl (fun s l => s.bankOpen (f + l)) s) :=
    Wr.fold (fun _ l h => bankOpen_wr (by decide) _ h) (.refl s)
  unfold scanEnd
  rw [if_neg (by simp [hrun, hruns])]
  dsimp only
  refine ⟨by rw [putFlag_mtx], (flag_putFlag _ _ _).trans ?_⟩
  exact (hopen _ _).flag fMTX_EN

end State

theorem exec_pwmPeriodStart (c : Fin 128) (s : State) : exec (.pwmPeriodStart c) s = .next (s.pwmStart c.val) := rfl
theorem exec_scanFrameStart (s : State) : exec .scanFrameStart s = .next s.frameStart := rfl
theorem exec_scanSlotStart (s : State) : exec .scanSlotStart s = .next s.slotStart := rfl
theorem exec_patternCycleStart (p : Fin 8) (s : State) : exec (.patternCycleStart p) s =
    if s.flag (fPAT_SYNC p.val) && s.flag fTIME_SET && s.patMatch p.val then
      .next { s with dim := { s.dim with
        patStart := tabSet (fun _ => 0) s.dim.patStart p.val s.grid.tick,
        patWait := tabSet (fun _ => false) s.dim.patWait p.val false } }
    else .next s := rfl

/-- Settles O18. -/
theorem driveStarts : Obligations.DriveStarts := by
  intro c p s framed slotted
  refine ⟨fun hdue hmissed => .of_eq (exec_pwmPeriodStart c s) ?_, fun hdue hmissed => .of_eq (exec_pwmPeriodStart c s) ?_,
    fun hdue => .of_eq (exec_pwmPeriodStart c s) (State.pwmStart_not_due hdue),
    fun hscan => .of_eq (exec_pwmPeriodStart c s) (State.pwmStart_not_due (State.periodDue_scanned hscan)),
    fun hsync hset hmatch => .of_eq ((exec_patternCycleStart p s).trans (if_pos (by simp [hsync, hset, hmatch]))) ?_,
    fun hno => .of_eq ((exec_patternCycleStart p s).trans (if_neg ?_)) rfl,
    fun hframed => .of_eq (exec_scanFrameStart s) ?_, fun hno => .of_eq (exec_scanFrameStart s) (State.frameStart_not hno),
    fun hruns hslotted => .of_eq (exec_scanSlotStart s) ?_, fun hruns hno => .of_eq (exec_scanSlotStart s) ?_,
    fun hrun hruns => .of_eq (exec_scanSlotStart s) ?_, fun hrun => .of_eq (exec_scanSlotStart s) ?_⟩
  case refine_1 =>
    obtain ⟨hcur, hpend, hstart⟩ := State.pwmStart_shows hdue hmissed
    exact ⟨hcur, hpend, hstart, (State.pwmStart_kept (by decide) c (.refl s)).only, (State.pwmStart_wr (by decide) c (.refl s)).onlyRegs⟩
  case refine_2 =>
    rw [State.pwmStart_missed hdue hmissed]
    have hchan : (s.pwmRepeat c).chan c = _ := (State.chan_setChan s c c _).trans (if_pos rfl)
    rw [hchan]
    exact ⟨rfl, rfl, rfl, (State.pwmRepeat_kept (by decide) c (.refl s)).only⟩
  case refine_3 =>
    exact ⟨tabGet_set_same (fun _ => 0) s.dim.patStart p s.grid.tick, tabGet_set_same (fun _ => false) s.dim.patWait p false,
      ((Kept.refl s).upd_dim (by decide)).only⟩
  case refine_4 =>
    obtain h | h | h := hno <;> simp [h]
  case refine_5 =>
    obtain ⟨hframe, hslot, hlive⟩ := State.frameStart_frame hframed
    exact ⟨hframe, hslot, hlive, (State.frameStart_kept (by decide) (.refl s)).only, (State.frameStart_wr (by decide) (.refl s)).onlyRegs⟩
  case refine_6 =>
    rw [State.slotStart_eq hruns hslotted.1 hslotted.2]
    exact ⟨rfl, (((s.slotDone_kept s.mtx.slot).mono (by decide)).upd_mtx (by decide)).only, (Wr.upd (s.slotDone_wr s.mtx.slot)).onlyRegs⟩
  case refine_7 =>
    unfold State.slotStart
    dsimp only
    rw [if_neg (by simp [hruns])]
    refine if_pos (by_contra fun h => hno ?_)
    simp only [Bool.or_eq_true, decide_eq_true_eq, bne_iff_ne, not_or, not_not] at h
    exact ⟨by omega, h.2⟩
  case refine_8 =>
    have heq : s.slotStart = s.scanEnd := if_pos (by simp [hruns])
    obtain ⟨hslot, hrun'⟩ := State.scanEnd_of_over hrun hruns
    rw [heq]
    exact ⟨hslot, hrun', (State.scanEnd_kept (by decide) (.refl s)).only, (State.scanEnd_wr (by decide) (.refl s)).onlyRegs⟩
  case refine_9 =>
    have hruns : s.frameRuns = false := by simp [State.frameRuns, hrun]
    have heq : s.slotStart = s.scanEnd := if_pos (by simp [hruns])
    rw [heq]
    exact if_pos (by simp [hrun])

end Sys2Proof.Machine
end

section
/-! LAMP FAULTS UNDER COMMANDS (R66, R97, R126, R132, R142, R147): the clears of latches, signatures and panel bits, the foldback of a
short, the automatic clear of OVERHEAT, and a STRAY bank command. -/

namespace Sys2Proof.Machine

namespace State

variable {s : State} {c : Nat}

-- SUP_FLT_CLR

/-- The channels that a word with a channel and ALL names (R132, R142). -/
def namedChans (w : Nat) : List Nat := if bitOf w 31 then List.range 128 else [w % 128]

theorem namedChans_nodup (w : Nat) : (namedChans w).Nodup := by
  unfold namedChans
  split
  · exact List.nodup_range
  · exact List.nodup_singleton _

theorem mem_namedChans {w d : Nat} (hd : d < 128) (h : bitOf w 31 = true ∨ d = w % 128) : d ∈ namedChans w := by
  unfold namedChans
  split
  case isTrue => exact List.mem_range.2 hd
  case isFalse hall => exact List.mem_singleton.2 (h.resolve_left hall)

theorem supFltClr_eq (s : State) (w : Nat) : s.supFltClr w = (namedChans w).foldl (fun s c => s.fltClrChan (bitsOf w 8 7) c) s := by
  unfold supFltClr namedChans
  split
  · rfl
  · rfl

-- SIG_FORGET

/-- The words of a channel's signature. -/
def sigRegs (c : Nat) : List (Nat × Nat) := [(aSUP_SIG c 0, 0), (aSUP_SIG c 1, 0), (aCHS_SUP c, 0)]

theorem forgetSig_sigRegs (s : State) (c : Nat) : Wr (sigRegs c) s (s.forgetSig c) := by
  have h0 : hits (sigRegs c) (aSUP_SIG c 0) = true := hit_one (by simp [sigRegs])
  have h1 : hits (sigRegs c) (aSUP_SIG c 1) = true := hit_one (by simp [sigRegs])
  have hsup : hits (sigRegs c) (aCHS_SUP c) = true := hit_one (by simp [sigRegs])
  exact setChan_wr (List.nil_subset _) c _ (put_wr (f := fSUP_NLED_EFF c) hsup (putFlag_wr (f := fSUP_SIG_LEARNT c) hsup
    (sigCopy_wr (List.nil_subset _) c (wr_wr h1 (wr_wr h0 (.refl s))))))

/-- The signature of the channel is gone (R142). -/
structure SigGone (s : State) (d : Nat) : Prop where
  first : s.rd (aSUP_SIG d 0) = 0
  second : s.rd (aSUP_SIG d 1) = 0
  learnt : s.flag (fSUP_SIG_LEARNT d) = false

theorem SigGone.congr {t : State} {d : Nat} (h : SigGone s d) (hne : d ≠ c) (hwr : Wr (sigRegs c) s t) (hc : c < 128) (hd : d < 128) : SigGone t d := by
  have h0 : hits (sigRegs c) (aSUP_SIG d 0) = false := by simp [hits, sigRegs, aSUP_SIG, aCHS_SUP]; omega
  have h1 : hits (sigRegs c) (aSUP_SIG d 1) = false := by simp [hits, sigRegs, aSUP_SIG, aCHS_SUP]; omega
  have hsup : hits (sigRegs c) (aCHS_SUP d) = false := by simp [hits, sigRegs, aSUP_SIG, aCHS_SUP]; omega
  exact ⟨(hwr.eq _ h0).trans h.first, (hwr.eq _ h1).trans h.second, (hwr.flag (fSUP_SIG_LEARNT d) hsup).trans h.learnt⟩

theorem forgetSig_gone (s : State) (hc : c < 128) : SigGone (s.forgetSig c) c := by
  have hcopy (t : State) : Kept [.mem] t (t.sigCopy c) := sigCopy_kept (by decide) c (.refl t)
  have hsame {t u : State} (h : Kept [.mem, .chans] t u) (a : Nat) : u.rd a = t.rd a := by rw [rd, h.regs_eq, rd]
  have hchan (t : State) (x : Chan) (a : Nat) : (t.setChan c x).rd a = t.rd a := hsame (setChan_kept (by decide) c x (.refl t)) a
  have hne1 : aSUP_SIG c 1 ≠ aCHS_SUP c := by unfold aSUP_SIG aCHS_SUP; omega
  have hne0 : aSUP_SIG c 0 ≠ aCHS_SUP c := by unfold aSUP_SIG aCHS_SUP; omega
  have hne01 : aSUP_SIG c 0 ≠ aSUP_SIG c 1 := by unfold aSUP_SIG; omega
  have hbelow (a : Nat) (ha : a ≠ aCHS_SUP c) (t : State) :
      ((t.putFlag (fSUP_SIG_LEARNT c) false).put (fSUP_NLED_EFF c) 0).rd a = t.rd a :=
    (rd_put_other _ (f := fSUP_NLED_EFF c) 0 ha).trans (rd_putFlag_other t (f := fSUP_SIG_LEARNT c) false ha)
  unfold forgetSig
  dsimp only
  refine ⟨?_, ?_, ?_⟩
  · rw [hchan, hbelow _ hne0, hsame ((hcopy _).mono (by decide)), rd_wr_other _ _ hne01, rd_wr_same]
    rfl
  · rw [hchan, hbelow _ hne1, hsame ((hcopy _).mono (by decide)), rd_wr_same]
    rfl
  · rw [flag, get, hchan]
    exact (flag_put_apart _ (f := fSUP_NLED_EFF c) (g := fSUP_SIG_LEARNT c) 0 (by simp [fSUP_NLED_EFF]) rfl (by simp [fSUP_NLED_EFF, fSUP_SIG_LEARNT])).trans
      (flag_putFlag _ (fSUP_SIG_LEARNT c) false (by simp [fSUP_SIG_LEARNT]) (by simp [fSUP_SIG_LEARNT]))

theorem forgetSigs_gone {l : List Nat} (hl : l.Nodup) (hlt : ∀ c ∈ l, c < 128) (s : State) {d : Nat} (hd : d < 128)
    (h : d ∈ l ∨ SigGone s d) : SigGone (l.foldl forgetSig s) d := by
  induction l generalizing s with
  | nil => exact h.resolve_left List.not_mem_nil
  | cons c l ih =>
    obtain ⟨-, hnodup⟩ := List.nodup_cons.1 hl
    have hc := hlt c List.mem_cons_self
    rw [List.foldl_cons]
    refine ih hnodup (fun e he => hlt e (List.mem_cons_of_mem c he)) (s.forgetSig c) ?_
    by_cases hdc : d = c
    · subst hdc
      exact .inr (forgetSig_gone s hc)
    · obtain hin | hgone := h
      · exact .inl ((List.mem_cons.1 hin).resolve_left hdc)
      · exact .inr (hgone.congr hdc (s.forgetSig_sigRegs c) hc hd)

theorem namedChans_lt (w : Nat) : ∀ c ∈ namedChans w, c < 128 := by
  unfold namedChans
  split
  · exact fun c hc => List.mem_range.1 hc
  · exact fun c hc => by rw [List.mem_singleton.1 hc]; exact Nat.mod_lt _ (by decide)

theorem sigCmd_eq {w : Nat} (h : bitOf w 8 = true) (s : State) : s.sigCmd w = (namedChans w).foldl forgetSig s := by
  unfold sigCmd namedChans
  rw [if_neg (by simp [h])]
  split
  · rfl
  · rfl

-- Panel bits

/-- Cleared bits of a list of LEDs stay clear, and those still to come are cleared. -/
theorem putFlags_clear (f : Nat → Fld) (hw : ∀ e, (f e).width = 1) (hfit : ∀ e, (f e).lo < 32)
    (hinj : ∀ d e, (f d).addr = (f e).addr → (f d).lo = (f e).lo → d = e) (l : List Nat) (s : State) {d : Nat}
    (h : d ∈ l ∨ s.flag (f d) = false) : (l.foldl (fun s e => s.putFlag (f e) false) s).flag (f d) = false := by
  induction l generalizing s with
  | nil => exact h.resolve_left List.not_mem_nil
  | cons e l ih =>
    rw [List.foldl_cons]
    refine ih (s.putFlag (f e) false) ?_
    have hwe := hw e
    have hwd := hw d
    have hle := hfit e
    by_cases hde : d = e
    · subst hde
      exact .inr (flag_putFlag s (f d) false (by omega) (by omega))
    · refine h.imp (fun hin => (List.mem_cons.1 hin).resolve_left hde) fun hclear => ?_
      by_cases haddr : (f d).addr = (f e).addr
      · have hlo : (f d).lo ≠ (f e).lo := fun hlo => hde (hinj d e haddr hlo)
        rw [flag_putFlag_apart s (f := f e) (g := f d) false (by omega) haddr (by omega), hclear]
      · rw [flag, get_putFlag_addr s (f := f e) (g := f d) false haddr, ← hclear, flag]

/-- The panel bit of an LED: STRAY or DARK (R162). -/
def panelBit (stray : Bool) (e : Nat) : Fld := if stray then fMTX_STRAY e else fMTX_DARK e

theorem mtxClear_clear (s : State) (w : Nat) (stray : Bool) {e : Nat} (he : e < 1024) (h : bitOf w 31 = true ∨ e = w % 1024) :
    (s.mtxClear w stray).flag (panelBit stray e) = false := by
  have haddr (d : Nat) : (panelBit stray d).addr = (if stray then aMTX_STRAY (d / 32) else aMTX_DARK (d / 32)) := by cases stray <;> rfl
  have hlo (d : Nat) : (panelBit stray d).lo = d % 32 := by cases stray <;> rfl
  have hwidth (d : Nat) : (panelBit stray d).width = 1 := by cases stray <;> rfl
  have hgroup (t : State) : t.lampGroup.flag (panelBit stray e) = t.flag (panelBit stray e) := by
    refine (lampGroup_wr (R := [(0x270, 0), (0x2A0, 0), (0x2A4, 0), (0x1B070, 0)]) (by decide) (.refl t)).flag _ ?_
    rw [haddr]
    cases stray <;> simp [hits, aMTX_STRAY, aMTX_DARK] <;> omega
  have heq : s.mtxClear w stray
      = ((if bitOf w 31 then List.range 1024 else [w % 1024]).foldl (fun s e => s.putFlag (panelBit stray e) false) s).lampGroup := by
    have hbit (d : Nat) : (if stray then fMTX_STRAY d else fMTX_DARK d) = panelBit stray d := rfl
    unfold mtxClear
    simp only [hbit]
    split
    · rfl
    · rfl
  rw [heq, hgroup]
  refine putFlags_clear (panelBit stray) hwidth (fun d => by rw [hlo]; omega) (fun d f ha hl => ?_) _ s (.inl ?_)
  · rw [haddr, haddr] at ha
    rw [hlo, hlo] at hl
    have hdiv : d / 32 = f / 32 := by
      cases stray <;> simp [aMTX_STRAY, aMTX_DARK] at ha <;> exact ha
    omega
  · split
    case isTrue => exact List.mem_range.2 he
    case isFalse hall => exact List.mem_singleton.2 (h.resolve_left hall)

-- SHORT

namespace OnChan

variable {c : Nat} {s t : State}

theorem reprove (h : OnChan c s t) : OnChan c s (t.reprove c) := by
  unfold State.reprove
  exact .ite ((h.put (fSUP_PROOF c) 0).setLed _ _) ((h.put (fSUP_PROOF c) 0).setChan _)

theorem lampPeriod (h : OnChan c s t) (hc : c < 128) (hscan : s.scanned (c / 16) = false) (hperiod : (t.chan c).period = (s.chan c).period) :
    t.lampPeriod c = s.lampPeriod c := by
  have hview := h.lampView hc
  have hget : t.get (fPERIOD (c / 16)) = s.get (fPERIOD (c / 16)) := by
    have hrd : t.rd (fPERIOD (c / 16)).addr = s.rd (fPERIOD (c / 16)).addr := hview.conf _ (by simp [fPERIOD, aDIM_BANK]; omega)
      (by simp [fPERIOD, aDIM_BANK]; omega)
    rw [get, hrd, get]
  rw [State.lampPeriod, hview.scanned, hscan, hperiod, hget, State.lampPeriod, hscan, if_neg Bool.false_ne_true, if_neg Bool.false_ne_true]

end OnChan

/-- The latch of a short is set and its proof begins anew (R126, R131). -/
def shortLatched (s : State) (c : Nat) : State := ((s.putFlag (fSUP_LATCH c ltSHORT) true).reprove c).putFlag (fSUP_LITPROOF c) false

/-- The record of a new short, its source and its group (R131). -/
def shortTold (s : State) (c : Nat) (was : Bool) (at_ : Stamp) : State :=
  (if !was || ltSHORT = ltPARTIAL then
    (s.logStamp at_ evLAMP_FAULT kCHANNEL c (c :: ltSHORT :: (([] ++ [0, 0, 0]).take 3 ++ ([] ++ [0, 0, 0]).take 3 ++ [s.get (fSUP_NLED_EFF c), toBits 0 32]))).raise srcLAMP_FAULT
  else s).fltSet 1 evLAMP_FAULT

theorem confirm_short (s : State) (c : Nat) (at_ : Stamp) :
    s.confirm c ltSHORT [] [] 0 at_ = ((s.shortLatched c).cutPulse c).shortTold c (s.latch c ltSHORT) at_ := by
  have hopen (r : Prop) : ¬ (ltSHORT = ltOPEN ∧ r) := fun h => absurd h.1 (by decide)
  unfold confirm shortTold shortLatched
  dsimp only
  rw [if_neg (show ltSHORT ≠ ltPARTIAL by decide), if_neg (hopen _), if_pos rfl, if_neg (show ltSHORT ≠ ltSTRAY by decide),
    if_neg (show ¬ (ltSHORT = ltOPEN ∨ ltSHORT = ltSTRAY ∨ ltSHORT = ltOPEN1ST) by decide)]

theorem shortLatched_onChan (s : State) (c : Nat) : OnChan c s (s.shortLatched c) :=
  (((OnChan.refl c s).putFlag (fSUP_LATCH c ltSHORT) true).reprove).putFlag (fSUP_LITPROOF c) false

theorem reprove_get (s : State) (c : Nat) (f : Fld) : (s.reprove c).get f = (s.put (fSUP_PROOF c) 0).get f := by
  simp only [reprove, apply_ite (fun t : State => t.get f), setLed_get, setChan_get, ite_self]

theorem shortLatched_latch (s : State) (c : Nat) :
    (s.shortLatched c).latch c ltSHORT = true ∧ (s.shortLatched c).flag (fSUP_LITPROOF c) = false := by
  refine ⟨?_, flag_putFlag _ (fSUP_LITPROOF c) false (by simp [fSUP_LITPROOF]) (by simp [fSUP_LITPROOF])⟩
  have hreprove (t : State) : (t.reprove c).latch c ltSHORT = (t.put (fSUP_PROOF c) 0).latch c ltSHORT := by
    rw [latch, flag, reprove_get, latch, flag]
  rw [shortLatched, putFlag, latch_put_above _ _ (by decide) rfl (by simp [fSUP_LITPROOF]), hreprove,
    latch_put_above _ (f := fSUP_PROOF c) _ (by decide) rfl (by simp [fSUP_PROOF])]
  exact flag_putFlag s (fSUP_LATCH c ltSHORT) true (by simp [fSUP_LATCH, ltSHORT]) (by simp [fSUP_LATCH])

/-- The drive of the channel as it was. -/
theorem shortLatched_drive (s : State) (c : Nat) : ((s.shortLatched c).chan c).start = (s.chan c).start
    ∧ ((s.shortLatched c).chan c).pulse = (s.chan c).pulse ∧ ((s.shortLatched c).chan c).lit = (s.chan c).lit
    ∧ ((s.shortLatched c).chan c).mode = (s.chan c).mode ∧ ((s.shortLatched c).chan c).period = (s.chan c).period := by
  have hput (t : State) (f : Fld) (v : Nat) : (t.put f v).chan c = t.chan c := chan_congr (t.put_chans f v) c
  have hflag (t : State) (f : Fld) (v : Bool) : (t.putFlag f v).chan c = t.chan c := chan_congr (t.putFlag_chans f v) c
  have hled (t : State) (e : Nat) (l : Led) : (t.setLed e l).chan c = t.chan c := rfl
  unfold shortLatched reprove
  rw [hflag]
  dsimp only
  split
  · rw [hled, hput, hflag]
    exact ⟨rfl, rfl, rfl, rfl, rfl⟩
  · rw [chan_setChan, if_pos rfl, hput, hflag]
    exact ⟨rfl, rfl, rfl, rfl, rfl⟩

theorem cutPulse_kept' (s : State) (c : Nat) : Kept [.chans, .mtx] s (s.cutPulse c) := cutPulse_kept (by decide) c (.refl s)

theorem cutPulse_pulse (s : State) (c : Nat) : ((s.cutPulse c).chan c).pulse =
    if s.grid.tick - (s.chan c).start < (s.chan c).pulse then s.grid.tick - (s.chan c).start
    else if (s.chan c).steady (s.lampPeriod c) then s.lampPeriod c - 1 else (s.chan c).pulse := by
  have hcolumn (t : State) (p : Prop) [Decidable p] : (if p then t.cutColumn c else t).chan c = t.chan c :=
    chan_congr (Kept.ite (T := [.mtx]) (cutColumn_kept (by decide) c (.refl t)) (.refl t)).chans_eq c
  unfold cutPulse
  dsimp only
  rw [hcolumn, chan_setChan, if_pos rfl]

theorem shortTold_kept (s : State) (c : Nat) (was : Bool) (at_ : Stamp) : Kept [.regs, .icu, .evt, .nw, .pwr] s (s.shortTold c was at_) :=
  fltSet_kept (by decide) _ _ (.ite (raise_kept (by decide) _ (logStamp_kept (by decide) _ _ _ _ _ (.refl s))) (.refl s))

theorem shortTold_sup (s : State) (c : Nat) (was : Bool) (at_ : Stamp) (hc : c < 128) {f : Fld} (hf : f.addr = aCHS_SUP c) :
    (s.shortTold c was at_).flag f = s.flag f := by
  have hwr : Wr [(0x270, 0), (0x2A0, 0), (0x2A4, 0), (0x2A8, 0), (0x5014, 0), (0x1B070, 0)] s (s.shortTold c was at_) :=
    fltSet_wr (by decide) _ _ (.ite (raise_wr (by decide) _ (logStamp_wr (by decide) _ _ _ _ _ (.refl s))) (.refl s))
  refine hwr.flag f ?_
  rw [hf]
  simp [hits, aCHS_SUP]
  omega

/-- A short folds back the pulse that drives it (R131). -/
theorem confirm_short_effect (at_ : Stamp) (hc : c < 128) (hwatched : s.shortWatched c = true) :
    (s.confirm c ltSHORT [] [] 0 at_).latch c ltSHORT = true ∧ (s.confirm c ltSHORT [] [] 0 at_).flag (fSUP_LITPROOF c) = false
      ∧ (s.scanned (c / 16) = false → (s.chan c).steady (s.lampPeriod c) = false →
        ((s.confirm c ltSHORT [] [] 0 at_).chan c).pulse = s.grid.tick - (s.chan c).start) := by
  have hcut (f : Fld) : ((s.shortLatched c).cutPulse c).flag f = (s.shortLatched c).flag f := by
    rw [flag, get, rd, ((s.shortLatched c).cutPulse_kept' c).regs_eq, flag, get, rd]
  obtain ⟨hlatch, hlit⟩ := s.shortLatched_latch c
  rw [confirm_short]
  refine ⟨?_, ?_, fun hscan hsteady => ?_⟩
  · rw [latch, shortTold_sup _ c _ _ hc rfl, hcut]
    exact hlatch
  · rw [shortTold_sup _ c _ _ hc rfl, hcut, hlit]
  · have hon := s.shortLatched_onChan c
    obtain ⟨hstart, hpulse, hl, hmode, hperiod⟩ := s.shortLatched_drive c
    have hnot : ((s.shortLatched c).chan c).steady ((s.shortLatched c).lampPeriod c) = false := by
      rw [hon.lampPeriod hc hscan hperiod, Chan.steady, hl, hmode, hpulse]
      exact hsteady
    have hin : s.grid.tick ≤ (s.chan c).start + (s.chan c).pulse := by
      rw [shortWatched, if_neg (by simp [hscan])] at hwatched
      simp [hsteady] at hwatched
      exact hwatched.2.2
    rw [chan_congr (shortTold_kept _ _ _ _).chans_eq, cutPulse_pulse, hnot, hstart, hpulse, hon.kept.grid_eq]
    simp only [Bool.false_eq_true, if_false]
    split
    · rfl
    · omega

-- OVERHEAT

theorem unlatch_cleared (s : State) (c k : Nat) : ((s.unlatch c k).chan c).cleared = true := by
  have hafter (t : State) : Kept [.regs, .icu, .nw, .pwr] t
      (let t := if k = ltOPEN then t.putFlag (fSUP_RAIL_CAUSE c) false else t
       let t := if k = ltOVERHEAT then t.putFlag (fSUP_TSD_CAUSE c) false else t
       (if k = ltPARTIAL then t.put (fSUP_NLED_EFF c) (if t.flag (fSIG_LEARNT c) then t.get (fSIG_NLED c) else 0) else t).lampGroup) := by
    have hrail : Kept [.regs, .icu, .nw, .pwr] t (if k = ltOPEN then t.putFlag (fSUP_RAIL_CAUSE c) false else t) :=
      .ite (putFlag_kept (by decide) _ _ (.refl t)) (.refl t)
    have htsd := Kept.ite (c := k = ltOVERHEAT) (putFlag_kept (by decide) (fSUP_TSD_CAUSE c) false hrail) hrail
    exact lampGroup_kept (by decide) (.ite (put_kept (by decide) _ _ htsd) htsd)
  have hchan := chan_congr (hafter ((s.putFlag (fSUP_LATCH c k) false).setChan c { s.chan c with cleared := true })).chans_eq c
  exact (congrArg Chan.cleared hchan).trans (congrArg Chan.cleared ((chan_setChan _ c c _).trans (if_pos rfl)))

-- A STRAY bank command

theorem bank_setBank (s : State) (n j : Nat) (x : Bank) : (s.setBank n x).bank j = if j = n then x else s.bank j :=
  tabGet_set (fun _ => defBank) s.banks n j x

theorem bank_congr {s t : State} (h : t.banks = s.banks) (n : Nat) : t.bank n = s.bank n := by rw [bank, h, bank]

theorem bankOpen_bank (s : State) (n : Nat) : (s.bankOpen n).bank n = { s.bank n with
    closed := false, closing := false, at_ := if (s.bank n).closed then s.grid.tick else (s.bank n).at_ } := by
  unfold bankOpen
  dsimp only
  rw [bank_congr (putFlag_banks _ _ _), bank_setBank, if_pos rfl]

theorem bankClose_cmd (s : State) (n : Nat) : ((s.bankClose n).bank n).cmd = (s.bank n).cmd := by
  unfold bankClose
  split
  · rfl
  · rw [bank_setBank, if_pos rfl]

theorem mornEnd_banks (s : State) : s.mornEnd.banks = s.banks := (mornEnd_kept (T := [.regs, .evt, .pwr]) (by decide) (.refl s)).banks_eq

theorem mtxHeld_banks (s : State) : s.mtxHeld.banks = s.banks := (mtxHeld_kept (T := [.regs]) (by decide) (.refl s)).banks_eq

/-- The opening that a STRAY of an own bank commands (R67, R147). -/
def strayHeld (s : State) (n : Nat) : State := ((s.bankOpen n).putFlag (fBANK_STRAY n) true).mtxHeld

theorem strayHeld_bank (s : State) (n : Nat) : (s.strayHeld n).bank n = (s.bankOpen n).bank n :=
  bank_congr ((mtxHeld_banks _).trans (putFlag_banks _ _ _)) n

theorem strayHeld_flag (s : State) {n : Nat} (hn : n < 8) : (s.strayHeld n).flag (fBANK_STRAY n) = true := by
  have hwr : Wr [(0x2900, 0)] ((s.bankOpen n).putFlag (fBANK_STRAY n) true) (s.strayHeld n) := mtxHeld_wr (by decide) (.refl _)
  exact (hwr.flag (fBANK_STRAY n) rfl).trans (flag_putFlag _ (fBANK_STRAY n) true (by simp [fBANK_STRAY]; omega) (by simp [fBANK_STRAY]))

theorem mornEnd_stray (s : State) (n : Nat) : s.mornEnd.flag (fBANK_STRAY n) = s.flag (fBANK_STRAY n) :=
  (mornEnd_wr (R := [(0x274, 0), (0x2A8, 0), (0x5014, 0)]) (by decide) (.refl s)).flag (fBANK_STRAY n) rfl

/-- The Morning check no longer has the bank open for its test (R394). -/
def mornShut (s : State) (n : Nat) : State := { s with pwr := { s.pwr with mornOpen := tabSet (fun _ => false) s.pwr.mornOpen n false } }

theorem strayOpen_eq (s : State) (n : Nat) : s.strayOpen n =
    if (s.mornShut n).roleOf n = 2 ∨ (s.mornShut n).get (fBANK_MODE n) = 0 then
      if s.mornTested n then (if (s.mornShut n).get (fBANK_MODE n) = 1 then (s.mornShut n).bankClose n else s.mornShut n).mornEnd else s.mornShut n
    else if s.mornTested n then ((s.mornShut n).strayHeld n).mornEnd else (s.mornShut n).strayHeld n := rfl

theorem strayOpen_cmd (s : State) (n : Nat) : ((s.strayOpen n).bank n).cmd = (s.bank n).cmd := by
  have hshut : (s.mornShut n).bank n = s.bank n := rfl
  have hheld : (((s.mornShut n).strayHeld n).bank n).cmd = (s.bank n).cmd := by rw [strayHeld_bank, bankOpen_bank]; rfl
  have hend (t : State) : (t.mornEnd).bank n = t.bank n := bank_congr t.mornEnd_banks n
  rw [strayOpen_eq]
  split
  · split
    · rw [hend]
      split
      · exact (bankClose_cmd _ n).trans rfl
      · rfl
    · rfl
  split
  · rw [hend, hheld]
  · exact hheld

theorem roleOf_mornShut (s : State) (n m : Nat) : (s.mornShut n).roleOf m = s.roleOf m := rfl

theorem strayOpen_held (s : State) {n : Nat} (hn : n < 8) (hrole : s.roleOf n ≠ 2) (hmode : s.get (fBANK_MODE n) ≠ 0) :
    (s.strayOpen n).flag (fBANK_STRAY n) = true ∧ ((s.strayOpen n).bank n).closed = false := by
  have hheld : ((s.mornShut n).strayHeld n).flag (fBANK_STRAY n) = true ∧ (((s.mornShut n).strayHeld n).bank n).closed = false :=
    ⟨strayHeld_flag _ hn, by rw [strayHeld_bank, bankOpen_bank]⟩
  have hend (t : State) : (t.mornEnd).bank n = t.bank n := bank_congr t.mornEnd_banks n
  have hown : ¬ ((s.mornShut n).roleOf n = 2 ∨ (s.mornShut n).get (fBANK_MODE n) = 0) := not_or.2 ⟨hrole, hmode⟩
  rw [strayOpen_eq, if_neg hown]
  split
  · rw [hend, mornEnd_stray]
    exact hheld
  · exact hheld

end State

theorem exec_sigForget (w : BitVec 32) (s : State) : exec (.sigForget w) s = .next (s.sigCmd w.toNat) := rfl
theorem exec_shortToRailFoldback (c : Fin 128) (s : State) : exec (.shortToRailFoldback c) s =
    if s.shortWatched c.val then .next (s.confirm c.val ltSHORT [] [] 0 (s.stampNow 1)) else .next s := rfl
theorem exec_overheatAutoClear (c : Fin 128) (s : State) : exec (.overheatAutoClear c) s =
    if s.latch c.val ltOVERHEAT && !s.flag (fSUP_TSD_CAUSE c.val) && s.chanClass c.val != 1
      && decide (s.lampTemp c.val ≤ 1000 * (s.get fOVH : Int) - 10000)
      && (s.chan c.val).coolAt != 0 && decide ((s.chan c.val).coolAt + 250000000 ≤ s.grid.tick + 1) then
    .next (s.unlatch c.val ltOVERHEAT) else .next s := rfl
theorem exec_mtxClearStray (w : BitVec 32) (s : State) :
    exec (.mtxClearStray w) s = if bitOf w.toNat 11 then .next (s.mtxClear w.toNat true) else .next s := rfl
theorem exec_mtxClearDark (w : BitVec 32) (s : State) :
    exec (.mtxClearDark w) s = if bitOf w.toNat 10 then .next (s.mtxClear w.toNat false) else .next s := rfl
theorem exec_bankStrayOpen (n : Fin 8) (s : State) : exec (.bankStrayOpen n) s =
    if (s.bank n.val).cmd && s.linkTurn 0 (1, n.val) then
      .next (((s.setBank n.val { s.bank n.val with cmd := false }).strayOpen n.val).linkDone 0 (1, n.val))
    else .next s := rfl

/-- Settles O19. -/
theorem lampFaultCommands : Obligations.LampFaultCommands := by
  intro c n w s cleared comes
  refine ⟨.of_eq (exec_supFltClr w s) ⟨fun d hd hsel => ?_, (State.supFltClr_kept (by decide) _ (.refl s)).only⟩,
    fun hcmd => .of_eq (exec_sigForget w s) ⟨fun d hd hsel => ?_, (State.sigCmd_kept (by decide) _ (.refl s)).only⟩,
    fun hcmd => .of_eq (exec_sigForget w s) (if_pos (by simp [hcmd])),
    fun hwatched => .of_eq ((exec_shortToRailFoldback c s).trans (if_pos hwatched)) ?_,
    fun hwatched => .of_eq ((exec_shortToRailFoldback c s).trans (if_neg (by simp [hwatched]))) rfl,
    fun hclear => .of_eq ((exec_overheatAutoClear c s).trans (if_pos ?_)) ?_,
    fun hno => .of_eq ((exec_overheatAutoClear c s).trans (if_neg fun h => hno ?_)) rfl,
    fun hcmd => .of_eq ((exec_mtxClearStray w s).trans (if_pos hcmd)) ⟨fun e he hsel => s.mtxClear_clear _ true he hsel,
      (State.mtxClear_kept (by decide) _ _ (.refl s)).only⟩,
    fun hcmd => .of_eq ((exec_mtxClearDark w s).trans (if_pos hcmd)) ⟨fun e he hsel => s.mtxClear_clear _ false he hsel,
      (State.mtxClear_kept (by decide) _ _ (.refl s)).only⟩,
    fun hcmd => .of_eq ((exec_mtxClearStray w s).trans (if_neg (by simp [hcmd]))) rfl,
    fun hcmd => .of_eq ((exec_mtxClearDark w s).trans (if_neg (by simp [hcmd]))) rfl,
    fun hcomes => .of_eq ((exec_bankStrayOpen n s).trans (if_pos (by simp [hcomes.1, hcomes.2]))) ?_,
    fun hno => .of_eq ((exec_bankStrayOpen n s).trans (if_neg fun h => hno (Bool.and_eq_true_iff.1 h))) rfl⟩
  case refine_1 =>
    rw [State.supFltClr_eq]
    obtain ⟨hproof, hlit, hlatches⟩ := (State.fltClrChans_cleared (bitsOf w.toNat 8 7) (State.namedChans_nodup w.toNat) s).1 d
      (State.mem_namedChans hd hsel)
    exact ⟨hlatches, hproof, hlit⟩
  case refine_2 =>
    rw [State.sigCmd_eq hcmd]
    obtain ⟨hfirst, hsecond, hlearnt⟩ := State.forgetSigs_gone (State.namedChans_nodup w.toNat) (State.namedChans_lt _) s hd (.inl (State.mem_namedChans hd hsel))
    exact ⟨hfirst, hsecond, hlearnt⟩
  case refine_3 =>
    obtain ⟨hlatch, hlit, hpulse⟩ := State.confirm_short_effect (s.stampNow 1) c.isLt hwatched
    exact ⟨hlatch, hlit, hpulse, (State.confirm_kept (by decide) _ _ _ _ _ _ (.refl s)).only⟩
  case refine_4 =>
    obtain ⟨hlatch, htsd, hclass, htemp, hcool, hlong⟩ := hclear
    simp [hlatch, htsd, hclass, htemp, hcool, hlong]
  case refine_5 =>
    refine ⟨?_, s.unlatch_cleared c ltOVERHEAT, (State.unlatch_kept (by decide) _ _ (.refl s)).only⟩
    rw [State.unlatch_latch s c (by decide) (by decide)]
    simp
  case refine_6 =>
    simp only [Bool.and_eq_true, Bool.not_eq_true', bne_iff_ne, decide_eq_true_eq] at h
    obtain ⟨⟨⟨⟨⟨hlatch, htsd⟩, hclass⟩, htemp⟩, hcool⟩, hlong⟩ := h
    exact ⟨hlatch, htsd, hclass, htemp, hcool, hlong⟩
  case refine_7 =>
    have hdone (t : State) : (t.linkDone 0 (1, n.val)).bank n = t.bank n :=
      State.bank_congr (State.linkDone_kept (T := [.link]) (by decide) _ _ (.refl t)).banks_eq n
    have hflag (t : State) (f : Fld) : (t.linkDone 0 (1, n.val)).flag f = t.flag f :=
      (State.linkDone_wr (R := []) (by decide) _ _ (.refl t)).flag f rfl
    refine ⟨?_, fun hrole hmode => ?_, (State.linkDone_kept (by decide) _ _ (State.strayOpen_kept (by decide) _
      (State.setBank_kept (by decide) _ _ (.refl s)))).only⟩
    · rw [hdone, State.strayOpen_cmd, State.bank_setBank, if_pos rfl]
    · rw [hdone, hflag]
      exact State.strayOpen_held _ n.isLt hrole hmode

end Sys2Proof.Machine
end

section
/-! BANK SWITCHES (R66, R78-R81, R393, R432): overcurrent, its retry, the read-back, the end of closing, and the request to reclose. -/

namespace Sys2Proof.Machine

namespace State

variable {s : State} {n : Nat}

/-- An operation that writes none of the words that the lamps go by. -/
theorem lampView_of_wr {T : List Comp} {R : List (Nat × Nat)} {s t : State} (h : Wr R s t) (k : Kept T s t)
    (hT : Comp.mtx ∉ T ∧ Comp.grid ∉ T ∧ Comp.cfg ∉ T ∧ Comp.pwr ∉ T := by decide)
    (hR : (R.all fun p => p.2 == 0 && decide (p.1 < 0x13000 ∨ 0x15000 ≤ p.1)) = true ∧ hits R aDEV_PWR_STAT = false
      ∧ hits R aDEV_DRV_PWR = false ∧ hits R fNW_MN_CAUSE.addr = false ∧ hits R fMTX_RUN.addr = false := by decide) : LampView s t := by
  obtain ⟨hmtx, hgrid, hcfg, hpwr⟩ := hT
  obtain ⟨hconf, hstat, hdrv, hmn, hrun⟩ := hR
  refine ⟨h.eq _ hstat, h.eq _ hdrv, by rw [midnight, h.get _ hmn, midnight], h.flag _ hrun, fun a h0 h1 => h.eq a ?_, by rw [k.mtx_eq hmtx],
    by rw [k.mtx_eq hmtx], by rw [k.grid_eq hgrid], k.cfg_eq hcfg, k.pwr_eq hpwr⟩
  refine List.any_eq_false.2 fun p hp => ?_
  obtain ⟨hstep, hout⟩ := Bool.and_eq_true_iff.1 (List.all_eq_true.1 hconf p hp)
  have hne : a ≠ p.1 := by
    have := of_decide_eq_true hout
    omega
  simp [beq_iff_eq.1 hstep, hne]

-- A record, a source and a fault group

/-- A fault is told by a record, a source and a group (R432). -/
def tell (a : State) (cls kind idx : Nat) (l : List Nat) (src group : Nat) : State := ((a.logEv cls kind idx l).raise src).fltSet group cls

theorem tell_wr (a : State) (cls kind idx : Nat) (l : List Nat) (src group : Nat) :
    Wr [(0x270, 0), (0x2A0, 0), (0x2A4, 0), (0x2A8, 0), (0x5014, 0), (0x1B070, 0)] a (a.tell cls kind idx l src group) :=
  fltSet_wr (by decide) _ _ (raise_wr (by decide) _ (logEv_wr (by decide) _ _ _ _ (.refl a)))

theorem tell_kept (a : State) (cls kind idx : Nat) (l : List Nat) (src group : Nat) :
    Kept [.regs, .icu, .evt, .nw, .pwr] a (a.tell cls kind idx l src group) :=
  fltSet_kept (by decide) _ _ (raise_kept (by decide) _ (logEv_kept (by decide) _ _ _ _ (.refl a)))

theorem tell_group (a : State) (cls kind idx : Nat) (l : List Nat) (src : Nat) {group : Nat} (h0 : 0 < group) (hg : group < 32) :
    (a.tell cls kind idx l src group).flag (fFLT_GROUP group) = true := fltSet_flag _ cls h0 hg

theorem tell_logged {a : State} (cls kind idx : Nat) (l : List Nat) (src group : Nat) {src' : Nat} (hopen : a.logOpen = s.logOpen)
    (hqueue : a.evt.queue = s.evt.queue) (hsrc : kind * 4096 + idx % 4096 = src') : Logged s (a.tell cls kind idx l src group) cls src' := by
  refine logged_logEv kind idx l hopen hqueue ?_ hsrc
  exact congrArg EvtLog.queue (fltSet_kept (T := [.regs, .icu, .nw, .pwr]) (by decide) group cls (raise_kept (by decide) src (.refl _))).evt_eq

/-- The status word of the banks stands under what tells a fault. -/
theorem tell_bank (a : State) (cls kind idx : Nat) (l : List Nat) (src group : Nat) {f : Fld} (hf : f.addr = aDEV_BANK_STAT) :
    (a.tell cls kind idx l src group).flag f = a.flag f := (a.tell_wr cls kind idx l src group).flag f (by rw [hf]; decide)

-- Bits of the banks

theorem mtxHeld_bankStat (t : State) {f : Fld} (hf : f.addr = aDEV_BANK_STAT) : t.mtxHeld.flag f = t.flag f :=
  (mtxHeld_wr (R := [(0x2900, 0)]) (by decide) (.refl t)).flag f (by rw [hf]; decide)

theorem bankGroup_bankStat (t : State) (cls : Nat) {f : Fld} (hf : f.addr = aDEV_BANK_STAT) : (t.bankGroup cls).flag f = t.flag f :=
  (bankGroup_wr (R := [(0x270, 0), (0x2A0, 0), (0x2A4, 0), (0x1B070, 0)]) (by decide) cls (.refl t)).flag f (by rw [hf]; decide)

theorem flag_bankOC (t : State) (b : Bool) (hn : n < 8) : (t.putFlag (fBANK_OC n) b).flag (fBANK_OC n) = b :=
  flag_putFlag t (fBANK_OC n) b (by simp [fBANK_OC]; omega) (by simp [fBANK_OC])

theorem flag_bankStuck (t : State) (b : Bool) (hn : n < 8) : (t.putFlag (fBANK_STUCK n) b).flag (fBANK_STUCK n) = b :=
  flag_putFlag t (fBANK_STUCK n) b (by simp [fBANK_STUCK]; omega) (by simp [fBANK_STUCK])

/-- An overcurrent that has ended no longer holds the bank. -/
def ocEnded (t : State) (n : Nat) : State := ((t.putFlag (fBANK_OC n) false).mtxHeld).bankGroup evBANK_OC

theorem ocEnded_flag (t : State) (hn : n < 8) : (t.ocEnded n).flag (fBANK_OC n) = false := by
  rw [ocEnded, bankGroup_bankStat _ _ rfl, mtxHeld_bankStat _ rfl, flag_bankOC t false hn]

theorem ocEnded_kept (t : State) (n : Nat) : Kept [.regs, .icu, .nw, .pwr] t (t.ocEnded n) :=
  bankGroup_kept (by decide) _ (mtxHeld_kept (by decide) (putFlag_kept (by decide) _ _ (.refl t)))

theorem ocEnded_bankStat (t : State) {f : Fld} (hf : f.addr = aDEV_BANK_STAT) (hw : f.width = 1) (hlo : f.lo ≠ 4 * n + 2) (hn : n < 8) :
    (t.ocEnded n).flag f = t.flag f := by
  rw [ocEnded, bankGroup_bankStat _ _ hf, mtxHeld_bankStat _ hf]
  exact flag_putFlag_apart t (f := fBANK_OC n) (g := f) false (by simp [fBANK_OC]; omega) hf (by simp [fBANK_OC, hw]; omega)

-- BANK_OC

/-- The bank opens on an overcurrent and is held (R80). -/
def ocHeld (s : State) (n : Nat) : State :=
  (((s.bankOpen n).setBank n { (s.bankOpen n).bank n with wait := s.roleOf n != 1 }).putFlag (fBANK_OC n) true).mtxHeld

theorem bankOC_eq (s : State) (n : Nat) : s.bankOC n = (s.ocHeld n).tell evBANK_OC kBANK n [n] srcBANK 2 := by
  unfold bankOC ocHeld tell
  dsimp only

theorem ocHeld_kept (s : State) (n : Nat) : Kept [.regs, .banks] s (s.ocHeld n) :=
  mtxHeld_kept (by decide) (putFlag_kept (by decide) _ _ (setBank_kept (by decide) _ _ (bankOpen_kept (by decide) _ (.refl s))))

theorem ocHeld_wr (s : State) (n : Nat) : Wr [(0x204, 0), (0x2900, 0)] s (s.ocHeld n) :=
  mtxHeld_wr (by decide) (putFlag_wr (f := fBANK_OC n) rfl (setBank_wr (by decide) _ _ (bankOpen_wr (by decide) _ (.refl s))))

theorem bankOC_bank (s : State) (n : Nat) : (s.bankOC n).bank n = { (s.bankOpen n).bank n with wait := s.roleOf n != 1 } := by
  rw [bankOC_eq, bank_congr (tell_kept _ _ _ _ _ _ _).banks_eq, ocHeld, bank_congr ((mtxHeld_banks _).trans (putFlag_banks _ _ _)), bank_setBank,
    if_pos rfl]

theorem bankOC_flag (s : State) (hn : n < 8) : (s.bankOC n).flag (fBANK_OC n) = true := by
  rw [bankOC_eq, tell_bank _ _ _ _ _ _ _ rfl, ocHeld, mtxHeld_bankStat _ rfl, flag_bankOC _ true hn]

theorem bankOC_logged (s : State) (hn : n < 8) : Logged s (s.bankOC n) evBANK_OC (kBANK * 4096 + n) := by
  rw [bankOC_eq]
  refine tell_logged _ _ _ _ _ _ ?_ (congrArg EvtLog.queue (s.ocHeld_kept n).evt_eq) (by omega)
  exact (s.ocHeld_wr n).logOpen (congrArg EvtLog.started (s.ocHeld_kept n).evt_eq) (s.ocHeld_kept n).pwr_eq

-- BANK_OC_RETRY

/-- The wait of a bank is over. -/
def waited (s : State) (n : Nat) : State := s.setBank n { s.bank n with wait := false }

theorem waited_scanned (s : State) (n m : Nat) : (s.waited n).scanned m = s.scanned m := rfl

theorem waited_wanted (s : State) (n m : Nat) : (s.waited n).bankWanted m = s.bankWanted m := rfl

theorem waited_held (s : State) (n : Nat) : ((s.waited n).flag (fBANK_STRAY n) && (s.waited n).roleOf n != 2) = (s.flag (fBANK_STRAY n) && s.roleOf n != 2) := rfl

/-- What the retry of a bank that the part wants closed does (R80, R164). -/
def reclosed (s : State) (n : Nat) : State :=
  if ((s.waited n).bump aDEV_BANK_RETRY).scanned n then ((s.waited n).bump aDEV_BANK_RETRY).ocEnded n
  else ((s.waited n).bump aDEV_BANK_RETRY).bankClose n

theorem bankRetry_of_due (s : State) (n : Nat) (hwait : (s.bank n).wait = true) (hdue : (s.bank n).at_ + 2500000 ≤ s.grid.tick) :
    s.bankRetry n = if (s.flag (fBANK_STRAY n) && s.roleOf n != 2) || !s.bankWanted n then s.waited n else s.reclosed n := by
  unfold bankRetry
  rw [if_neg (by simp [hwait]; omega)]
  rfl

theorem bankRetry_of_not_due (s : State) (n : Nat) (h : (s.bank n).wait = false ∨ s.grid.tick < (s.bank n).at_ + 2500000) : s.bankRetry n = s := by
  unfold bankRetry
  rw [if_pos (by obtain h | h := h <;> simp [h])]

theorem bankClose_closed (t : State) (n : Nat) : ((t.bankClose n).bank n).closed = true := by
  unfold bankClose
  split
  case isTrue h => exact h
  · rw [bank_setBank, if_pos rfl]

theorem bankClose_wait (t : State) (n : Nat) : ((t.bankClose n).bank n).wait = (t.bank n).wait := by
  unfold bankClose
  split
  · rfl
  · rw [bank_setBank, if_pos rfl]

theorem rd_bump (t : State) (a : Nat) : (t.bump a).rd a = t.rd a + 1 := by
  rw [bump, rd_wr_same]
  apply BitVec.eq_of_toNat_eq
  simp [BitVec.toNat_add]

/-- The reclosing of a bank: with the wait over, an own bank closes and a scanned one is no longer held (R80, R164). -/
structure Retried (s t : State) (n : Nat) : Prop where
  wait : (t.bank n).wait = false
  own : s.scanned n = false → (t.bank n).closed = true
  scan : s.scanned n = true → t.flag (fBANK_OC n) = false
  count : t.rd aDEV_BANK_RETRY = s.rd aDEV_BANK_RETRY + 1

theorem reclosed_effect (s : State) (hn : n < 8) : Retried s (s.reclosed n) n := by
  have hwaited : ((s.waited n).bank n).wait = false := by rw [waited, bank_setBank, if_pos rfl]
  have hscan : ((s.waited n).bump aDEV_BANK_RETRY).scanned n = s.scanned n := by
    exact (lampView_of_wr (bump_wr (R := [(aDEV_BANK_RETRY, 0)]) (by decide) (.refl _)) (bump_kept (T := [.regs]) (by decide) _ (.refl _))).scanned n
  have hretry : ((s.waited n).bump aDEV_BANK_RETRY).rd aDEV_BANK_RETRY = s.rd aDEV_BANK_RETRY + 1 := rd_bump _ _
  unfold reclosed
  rw [hscan]
  split
  case isTrue hs =>
    have hwr : Wr [(0x204, 0), (0x2900, 0), (0x270, 0), (0x2A0, 0), (0x2A4, 0), (0x1B070, 0)] ((s.waited n).bump aDEV_BANK_RETRY)
        (((s.waited n).bump aDEV_BANK_RETRY).ocEnded n) :=
      bankGroup_wr (by decide) _ (mtxHeld_wr (by decide) (putFlag_wr (f := fBANK_OC n) rfl (.refl _)))
    refine ⟨?_, fun h => absurd (hs.symm.trans h) (by decide), fun _ => ocEnded_flag _ hn, (hwr.eq _ (by decide)).trans hretry⟩
    rw [bank_congr (ocEnded_kept _ n).banks_eq]
    exact hwaited
  case isFalse hs =>
    refine ⟨(bankClose_wait _ n).trans hwaited, fun _ => bankClose_closed _ n, fun h => absurd h hs, ?_⟩
    rw [← hretry]
    exact (bankClose_wr (R := []) (by decide) n (.refl _)).eq _ rfl

-- BANK_READBACK

theorem bankStuck_of_clear (s : State) (n : Nat) (h : s.flag (fBANK_STUCK n) = false) :
    s.bankStuck n = (s.putFlag (fBANK_STUCK n) true).tell evBANK_STUCK kBANK n [n] srcBANK 2 := by
  unfold bankStuck tell
  rw [if_neg (by simp [h])]

theorem bankStuck_flag (s : State) (hn : n < 8) : (s.bankStuck n).flag (fBANK_STUCK n) = true := by
  cases h : s.flag (fBANK_STUCK n) with
  | true => rw [bankStuck, if_pos h, h]
  | false => rw [bankStuck_of_clear s n h, tell_bank _ _ _ _ _ _ _ rfl, flag_bankStuck _ true hn]

theorem bankStuck_told (s : State) (hn : n < 8) (h : s.flag (fBANK_STUCK n) = false) :
    (s.bankStuck n).flag (fFLT_GROUP 2) = true ∧ Logged s (s.bankStuck n) evBANK_STUCK (kBANK * 4096 + n) := by
  rw [bankStuck_of_clear s n h]
  refine ⟨tell_group _ _ _ _ _ _ (by decide) (by decide), tell_logged _ _ _ _ _ _ ?_ rfl (by omega)⟩
  exact (putFlag_wr (R := [(0x204, 0)]) (f := fBANK_STUCK n) rfl (.refl s)).logOpen rfl rfl

theorem bankReadback_of_settled (s : State) (n : Nat) (low : Bool) (h : (s.bank n).at_ + 2500 ≤ s.grid.tick)
    (hmorn : tabGet (fun _ => false) s.pwr.mornOpen n = false) :
    s.bankReadback n low = if (s.bank n).closed then s else if low then s else s.bankStuck n := by
  unfold bankReadback
  rw [if_neg (by omega), if_neg (by simp [hmorn])]

theorem bankReadback_idle (s : State) (n : Nat) (low : Bool) (hmorn : tabGet (fun _ => false) s.pwr.mornOpen n = false)
    (h : (s.bank n).closed = true ∨ low = true) : s.bankReadback n low = s := by
  unfold bankReadback
  rw [if_neg (Bool.eq_false_iff.1 hmorn)]
  obtain h | h := h
  · rw [if_pos h, ite_self]
  · rw [if_pos h, ite_self, ite_self]

/-- The judgement of the Morning test of a bank (R393, R432). -/
def mornJudged (s : State) (n : Nat) (low : Bool) : State :=
  if low then ((s.mornShut n).putFlag (fBANK_STUCK n) false).bankGroup evBANK_STUCK
  else if (s.bank n).cmd then s.mornShut n
  else ((s.mornShut n).put fMORN_BANKFAIL (withBits ((s.mornShut n).get fMORN_BANKFAIL) n 1 1)).bankStuck n

theorem mornReadback_eq (s : State) (n : Nat) (low : Bool) : s.mornReadback n low =
    (if (s.mornJudged n low).get (fBANK_MODE n) = 1 ∧ !(s.mornJudged n low).flag (fBANK_STRAY n) ∧ !(s.mornJudged n low).flag (fBANK_OC n)
      ∧ (!(s.bank n).cmd ∨ (s.mornJudged n low).roleOf n = 2) then (s.mornJudged n low).bankClose n else s.mornJudged n low).mornEnd := by
  unfold mornReadback mornJudged mornShut
  dsimp only

theorem mornShut_flag (s : State) (n : Nat) (f : Fld) : (s.mornShut n).flag f = s.flag f := rfl

theorem mornJudged_stuck (s : State) (low : Bool) (hn : n < 8) :
    (s.mornJudged n low).flag (fBANK_STUCK n) = (!low && (!(s.bank n).cmd || s.flag (fBANK_STUCK n))) := by
  unfold mornJudged
  cases low with
  | true =>
    rw [if_pos rfl, bankGroup_bankStat _ _ rfl, flag_bankStuck _ false hn]
    rfl
  | false =>
    rw [if_neg Bool.false_ne_true]
    cases hcmd : (s.bank n).cmd with
    | true => rw [if_pos rfl, mornShut_flag, Bool.not_false, Bool.not_true, Bool.true_and, Bool.false_or]
    | false =>
      rw [if_neg Bool.false_ne_true, bankStuck_flag _ hn]
      rfl

theorem mornReadback_stuck (s : State) (low : Bool) (hn : n < 8) :
    (s.mornReadback n low).flag (fBANK_STUCK n) = (!low && (!(s.bank n).cmd || s.flag (fBANK_STUCK n))) := by
  have hend (t : State) : t.mornEnd.flag (fBANK_STUCK n) = t.flag (fBANK_STUCK n) :=
    (mornEnd_wr (R := [(0x274, 0), (0x2A8, 0), (0x5014, 0)]) (by decide) (.refl t)).flag (fBANK_STUCK n) rfl
  have hclose (t : State) (p : Prop) [Decidable p] : (if p then t.bankClose n else t).flag (fBANK_STUCK n) = t.flag (fBANK_STUCK n) :=
    (Wr.ite (R := []) (bankClose_wr (by decide) n (.refl t)) (.refl t)).flag (fBANK_STUCK n) rfl
  rw [mornReadback_eq, hend, hclose, mornJudged_stuck s low hn]

-- BANK_CLOSE_COMPLETE

/-- The bank is closed (R78). -/
def closeEnd (s : State) (n : Nat) : State := (s.setBank n { s.bank n with closing := false }).putFlag (fBANK_CLOSED n) true

theorem bankClosed_of_due (s : State) (n : Nat) (hclosed : (s.bank n).closed = true) (hclosing : (s.bank n).closing = true)
    (hdue : (s.bank n).at_ + 375 ≤ s.grid.tick) :
    s.bankClosed n = if (s.closeEnd n).flag (fBANK_OC n) then (s.closeEnd n).ocEnded n else s.closeEnd n := by
  unfold bankClosed
  dsimp only
  rw [if_neg (by simp [hclosed, hclosing]; omega)]
  rfl

theorem bankClosed_of_not_due (s : State) (n : Nat)
    (h : (s.bank n).closed = false ∨ (s.bank n).closing = false ∨ s.grid.tick < (s.bank n).at_ + 375) : s.bankClosed n = s := by
  unfold bankClosed
  dsimp only
  rw [if_pos (by obtain h | h | h := h <;> simp [h])]

theorem bankClosed_effect (s : State) (hn : n < 8) (hclosed : (s.bank n).closed = true) (hclosing : (s.bank n).closing = true)
    (hdue : (s.bank n).at_ + 375 ≤ s.grid.tick) :
    ((s.bankClosed n).bank n).closing = false ∧ ((s.bankClosed n).bank n).closed = true ∧ (s.bankClosed n).flag (fBANK_CLOSED n) = true
      ∧ (s.bankClosed n).flag (fBANK_OC n) = false := by
  have hbank : (s.closeEnd n).bank n = { s.bank n with closing := false } := by
    rw [closeEnd, bank_congr (putFlag_banks _ _ _), bank_setBank, if_pos rfl]
  have hflag : (s.closeEnd n).flag (fBANK_CLOSED n) = true := flag_putFlag _ (fBANK_CLOSED n) true (by simp [fBANK_CLOSED]; omega) (by simp [fBANK_CLOSED])
  rw [bankClosed_of_due s n hclosed hclosing hdue]
  split
  case isTrue =>
    rw [bank_congr (ocEnded_kept _ n).banks_eq, ocEnded_bankStat (f := fBANK_CLOSED n) _ rfl rfl (by simp [fBANK_CLOSED]) hn, hbank]
    exact ⟨rfl, hclosed, hflag, ocEnded_flag _ hn⟩
  case isFalse hoc =>
    rw [hbank]
    exact ⟨rfl, hclosed, hflag, Bool.eq_false_iff.2 hoc⟩

-- BANKOC_RECLOSE

theorem askReclose_bank (s : State) (mask : Nat) {m : Nat} (hm : m < 8) : (s.askReclose mask).bank m =
    if bitOf mask m && s.flag (fBANK_OC m) then { s.bank m with reclose := true, wait := false } else s.bank m := by
  have hfold : ∀ (l : List Nat) (t : State), l.Nodup → t.regs = s.regs →
      (l.foldl (fun s n => if bitOf mask n && s.flag (fBANK_OC n) then s.setBank n { s.bank n with reclose := true, wait := false } else s) t).bank m
        = if m ∈ l ∧ (bitOf mask m && s.flag (fBANK_OC m)) = true then { t.bank m with reclose := true, wait := false } else t.bank m := by
    intro l
    induction l with
    | nil => exact fun t _ _ => (if_neg fun h => List.not_mem_nil h.1).symm
    | cons n l ih =>
      intro t hl hregs
      obtain ⟨hnot, hnodup⟩ := List.nodup_cons.1 hl
      have hflag : t.flag (fBANK_OC n) = s.flag (fBANK_OC n) := by rw [flag, get, rd, hregs, flag, get, rd]
      rw [List.foldl_cons, ih _ hnodup (by rw [hflag]; split <;> exact hregs), hflag]
      by_cases hmn : m = n
      · subst hmn
        simp only [hnot, false_and, if_false, List.mem_cons_self, true_and]
        split
        · rw [bank_setBank, if_pos rfl]
        · rfl
      · simp only [List.mem_cons, hmn, false_or]
        have hsame (p : Prop) [Decidable p] : (if p then t.setBank n { t.bank n with reclose := true, wait := false } else t).bank m = t.bank m := by
          split
          · rw [bank_setBank, if_neg hmn]
          · rfl
        rw [hsame]
  unfold askReclose
  rw [hfold _ s List.nodup_range rfl]
  simp only [List.mem_range.2 hm, true_and]

end State

theorem exec_bankOc (n : Fin 8) (s : State) : exec (.bankOc n) s = .next (s.bankOC n.val) := rfl
theorem exec_bankOcRetry (n : Fin 8) (s : State) : exec (.bankOcRetry n) s = .next (s.bankRetry n.val) := rfl
theorem exec_bankReadback (n : Fin 8) (low : Bool) (s : State) : exec (.bankReadback n low) s = .next (s.bankReadback n.val low) := rfl
theorem exec_bankCloseComplete (n : Fin 8) (s : State) : exec (.bankCloseComplete n) s = .next (s.bankClosed n.val) := rfl
theorem exec_bankocReclose (mask : BitVec 8) (s : State) : exec (.bankocReclose mask) s = .next (s.askReclose mask.toNat) := rfl

/-- Settles O20. -/
theorem bankProtections : Obligations.BankProtections := by
  intro n low mask s settled
  refine ⟨.of_eq (exec_bankOc n s) ?_, fun hwait hdue => .of_eq (exec_bankOcRetry n s) ?_,
    fun hno => .of_eq (exec_bankOcRetry n s) (State.bankRetry_of_not_due s n hno),
    fun hset hmorn hopen hclear => .of_eq (exec_bankReadback n false s) ?_,
    fun hmorn hidle => .of_eq (exec_bankReadback n low s) (State.bankReadback_idle s n low hmorn hidle),
    fun hsoon => .of_eq (exec_bankReadback n low s) (if_pos (Nat.lt_of_not_le hsoon)),
    fun hset hmorn => .of_eq (exec_bankReadback n low s) ?_,
    fun hclosed hclosing hdue => .of_eq (exec_bankCloseComplete n s) ?_,
    fun hno => .of_eq (exec_bankCloseComplete n s) (State.bankClosed_of_not_due s n hno),
    .of_eq (exec_bankocReclose mask s) ⟨fun m hm => s.askReclose_bank mask.toNat hm, (State.askReclose_kept (by decide) _ (.refl s)).only⟩⟩
  case refine_1 =>
    refine ⟨?_, ?_, s.bankOC_flag n.isLt, ?_, s.bankOC_logged n.isLt, (State.bankOC_kept (by decide) _ (.refl s)).only⟩
    · rw [State.bankOC_bank, State.bankOpen_bank]
    · rw [State.bankOC_bank]
    · rw [State.bankOC_eq]
      exact State.tell_group _ _ _ _ _ _ (by decide) (by decide)
  case refine_2 =>
    have hkept := State.bankRetry_kept (T := [.regs, .icu, .nw, .pwr, .banks]) (by decide) n.val (.refl s)
    rw [State.bankRetry_of_due s n hwait hdue] at hkept ⊢
    obtain ⟨hover, hown, hscan, hcount⟩ := s.reclosed_effect n.isLt
    split
    case isTrue hheld =>
      rw [if_pos hheld] at hkept
      refine ⟨by rw [State.waited, State.bank_setBank, if_pos rfl], fun hfree hwanted => ?_, hkept.only⟩
      obtain hfree | hfree := hfree <;> simp [hfree, hwanted] at hheld
    case isFalse hfree =>
      rw [if_neg hfree] at hkept
      exact ⟨hover, fun _ _ => ⟨hown, hscan, hcount⟩, hkept.only⟩
  case refine_3 =>
    have hkept := State.bankReadback_kept (T := [.regs, .icu, .evt, .nw, .pwr, .banks]) (by decide) n.val false (.refl s)
    rw [State.bankReadback_of_settled s n false hset hmorn, if_neg (Bool.eq_false_iff.1 hopen), if_neg Bool.false_ne_true] at hkept ⊢
    obtain ⟨hgroup, hlogged⟩ := s.bankStuck_told n.isLt hclear
    exact ⟨s.bankStuck_flag n.isLt, hgroup, hlogged, hkept.only⟩
  case refine_4 =>
    refine ⟨?_, (State.bankReadback_kept (by decide) _ _ (.refl s)).only⟩
    rw [State.bankReadback, if_neg (Nat.not_lt.2 hset), if_pos hmorn, State.mornReadback_stuck s low n.isLt]
  case refine_5 =>
    obtain ⟨hdone, hshut, hshow, hoc⟩ := s.bankClosed_effect n.isLt hclosed hclosing hdue
    exact ⟨hdone, hshut, hshow, hoc, (State.bankClosed_kept (by decide) _ (.refl s)).only⟩

end Sys2Proof.Machine
end

section
/-! THERMAL SHUTDOWN, THE NEED COMPUTATION AND THE GOVERNORS (R85-R87, R94, R95, R97, R116). -/

namespace Sys2Proof.Machine

namespace State

variable {s : State}

-- Thermal shutdown

/-- Thermal shutdown as it is entered: every lamp as R97 leaves it. -/
def tsdEntered (s : State) : State :=
  ((List.range 128).foldl tsdChan { s.putFlag fPWR_TSD true with boost := { (s.putFlag fPWR_TSD true).boost with tsdHold := true } }).ledsDark

theorem thermalShutdown_of_cool (h : s.tsd = false) : s.thermalShutdown =
    ((((s.tsdEntered.logEv evTHERMAL_SHUTDOWN kDEVICE 0 []).raise srcTHERMAL).thermalGroup evTHERMAL_SHUTDOWN).lampGroup).duskExit 3 := by
  unfold thermalShutdown tsdEntered
  rw [if_neg (Bool.eq_false_iff.1 h)]

/-- Everything that follows the entry into thermal shutdown but its record. -/
theorem tsdTold_kept (t : State) : Kept [.regs, .icu, .nw, .pwr] (t.logEv evTHERMAL_SHUTDOWN kDEVICE 0 [])
    (((((t.logEv evTHERMAL_SHUTDOWN kDEVICE 0 []).raise srcTHERMAL).thermalGroup evTHERMAL_SHUTDOWN).lampGroup).duskExit 3) :=
  duskExit_kept (by decide) _ (lampGroup_kept (by decide) (thermalGroup_kept (by decide) _ (raise_kept (by decide) _ (.refl _))))

theorem tsdLit_wr (t : State) : Wr [(0x200C, 16)] t (((List.range 128).foldl tsdChan t).ledsDark) :=
  ledsDark_wr (by decide) (Wr.fold (fun _ c h => tsdChan_wr (by decide) c h) (.refl t))

theorem tsdLit_kept (t : State) : Kept [.regs, .life, .chans, .mtx] t (((List.range 128).foldl tsdChan t).ledsDark) :=
  ledsDark_kept (by decide) (Kept.fold (fun _ c h => tsdChan_kept (by decide) c h) (.refl t))

/-- What the entry into thermal shutdown leaves beside the lamps (R97). -/
structure TsdEntry (s t : State) : Prop where
  tsd : t.tsd = true
  hold : t.boost.tsdHold = true
  logOpen : t.logOpen = s.logOpen
  queue : t.evt.queue = s.evt.queue

theorem tsdEntered_effect (s : State) : TsdEntry s s.tsdEntered := by
  have hwr : Wr [(0x208, 0), (0x200C, 16)] s s.tsdEntered :=
    ((putFlag_wr (R := [(0x208, 0), (0x200C, 16)]) (f := fPWR_TSD) (by decide) (.refl s)).upd).trans ((tsdLit_wr _).mono (by decide))
  have hkept := tsdLit_kept { s.putFlag fPWR_TSD true with boost := { (s.putFlag fPWR_TSD true).boost with tsdHold := true } }
  refine ⟨((tsdLit_wr _).flag fPWR_TSD (by decide)).trans (flag_putFlag s fPWR_TSD true), ?_, hwr.logOpen ?_ ?_, ?_⟩
  · exact congrArg Boost.tsdHold hkept.boost_eq
  · exact congrArg EvtLog.started hkept.evt_eq
  · exact hkept.pwr_eq
  · exact congrArg EvtLog.queue hkept.evt_eq

theorem thermalShutdown_effect (h : s.tsd = false) : s.thermalShutdown.tsd = true ∧ s.thermalShutdown.boost.tsdHold = true
    ∧ Logged s s.thermalShutdown evTHERMAL_SHUTDOWN (kDEVICE * 4096) := by
  obtain ⟨htsd, hhold, hopen, hqueue⟩ := s.tsdEntered_effect
  have hkept := s.tsdEntered.tsdTold_kept
  have hwr : Wr [(0x270, 0), (0x2A0, 0), (0x2A4, 0), (0x2A8, 0), (0x5014, 0), (0x1B070, 0)] s.tsdEntered s.thermalShutdown := by
    rw [thermalShutdown_of_cool h]
    exact duskExit_wr (by decide) _ (lampGroup_wr (by decide) (thermalGroup_wr (by decide) _ (raise_wr (by decide) _ (logEv_wr (by decide) _ _ _ _ (.refl _)))))
  refine ⟨(hwr.flag fPWR_TSD).trans htsd, ?_, ?_⟩
  · rw [thermalShutdown_of_cool h, hkept.boost_eq, (logEv_kept (T := [.regs, .evt]) (by decide) _ _ _ _ (.refl _)).boost_eq, hhold]
  · rw [thermalShutdown_of_cool h]
    exact logged_logEv kDEVICE 0 [] hopen hqueue (congrArg EvtLog.queue hkept.evt_eq)

theorem thermalExit_tsd (s : State) (h : s.tsd = true) : s.thermalExit.tsd = false := by
  unfold thermalExit
  rw [if_neg (by simp [h])]
  have hwr (t : State) : Wr [(0x270, 0), (0x2A0, 0), (0x2A4, 0), (0x200C, 16), (0x1B070, 0)] t (((List.range 128).foldl (fun s c =>
      if s.flag (fSUP_TSD_CAUSE c) && s.chanClass c == 0 && (s.owner c).isSome then s.unlatch c ltOVERHEAT else s) t).thermalGroup
        evTHERMAL_SHUTDOWN) :=
    thermalGroup_wr (by decide) _ (Wr.fold (fun _ c hh => .ite (unlatch_wr (by decide) c ltOVERHEAT hh) hh) (.refl t))
  exact ((hwr _).flag fPWR_TSD (by decide)).trans (flag_putFlag s fPWR_TSD false)

-- Need computation

/-- The target of a need computation (R85, R86, R384). -/
def needTarget (s : State) : Nat :=
  clampNat 12000 (100 * s.get fVMAX) (maxFrom 0 ((((List.range 128).filter fun c =>
    if s.lampsKept then tabGet (fun _ => false) s.pwr.duskSet c
    else s.scanned (c / 16) || s.aspList.any fun p => p.2.contains c).map fun c => (c, s.needOf s.aspList c)).map (·.2)) + 10 * s.get fMARGIN)

/-- The target taken over and shown. -/
def aimed (t : State) (target mn : Nat) (short : Bool) : State :=
  (({ t with boost := { t.boost with target := target, mnForm := mn } }).put fBST_TGT (target / 100)).putFlag fBST_HEADROOM short

theorem needs_eq (hd : s.inDusk = false) (hm : s.midnight = false) (hf : s.flag fNW_FROZEN = false) : ∃ (t : State) (mn : Nat) (short p : Bool) (l : List Nat),
    s.needs = (if p then (t.aimed s.needTarget mn short).logEv evHEADROOM_SHORT kDEVICE 0 l else t.aimed s.needTarget mn short).boostPass := by
  unfold needs aimed needTarget
  rw [if_neg (by simp [hd, hm, hf])]
  dsimp only
  exact ⟨_, _, _, _, _, rfl⟩

theorem needs_effect (hd : s.inDusk = false) (hm : s.midnight = false) (hf : s.flag fNW_FROZEN = false) :
    s.needs.boost.target = s.needTarget ∧ s.needs.get fBST_TGT = s.needTarget / 100 % 1024 := by
  obtain ⟨t, mn, short, p, l, heq⟩ := needs_eq hd hm hf
  have hkept := boostPass_kept (T := [.regs, .evt]) (by decide) (.ite (c := (p : Prop)) (logEv_kept (by decide) evHEADROOM_SHORT kDEVICE 0 l (.refl (t.aimed s.needTarget mn short))) (.refl _))
  have hpass (u : State) : u.boostPass.get fBST_TGT = u.get fBST_TGT := by
    unfold boostPass
    split
    · exact get_put_apart u (f := fBST_MODE) (g := fBST_TGT) _ (by decide) rfl (by decide)
    split
    · exact get_put_apart u (f := fBST_MODE) (g := fBST_TGT) _ (by decide) rfl (by decide)
    · rfl
  have hlog : Wr [(0x2A8, 0), (0x5014, 0)] (t.aimed s.needTarget mn short) (if p then (t.aimed s.needTarget mn short).logEv evHEADROOM_SHORT kDEVICE 0 l
      else t.aimed s.needTarget mn short) := .ite (logEv_wr (by decide) _ _ _ _ (.refl _)) (.refl _)
  rw [heq, hkept.boost_eq, hpass, hlog.get fBST_TGT]
  refine ⟨rfl, ?_⟩
  exact (get_putFlag_apart _ (f := fBST_HEADROOM) (g := fBST_TGT) short (by decide) rfl (by decide)).trans (get_put_same _ fBST_TGT _ (by decide))

-- Governors

/-- The sink power and f_junction of the millisecond (R95, R97). -/
def govSink (s : State) : State :=
  { s.put fPWR_PSINK (if s.pSink < 65536 then s.pSink else 65535) with
    boost := { (s.put fPWR_PSINK (if s.pSink < 65536 then s.pSink else 65535)).boost with
      fJunc := juncCurve (s.put fPWR_PSINK (if s.pSink < 65536 then s.pSink else 65535)).boost.tj } }

/-- The governors' own state of the millisecond: sink power, f_junction and the peak-limit bit (R89, R95, R97). -/
def govShown (s : State) : State :=
  if s.govSink.boost.peak then { s.govSink with boost := { s.govSink.boost with peak := false } } else s.govSink.putFlag fBST_PEAK_LIM false

/-- A channel's f_lamp one step on toward its goal (R116). -/
def lampMoved (s : State) (g : Nat × Nat) : State :=
  s.setChan g.1 { s.chan g.1 with fLamp := step16 (s.chan g.1).fLamp g.2, fDiss := s.dissOf (s.chanClass g.1) }

/-- A channel's f_lamp on the curve at NTC_LB (R384). -/
def lampAtNtc (s : State) (c : Nat) : State := s.setChan c { s.chan c with fLamp := s.lampCurve (100 * s.ntcTemp) }

/-- The channels' goals at the start of the millisecond. -/
def lampGoals (s : State) : List (Nat × Nat) := (List.range 128).map fun c => (c, s.govShown.lampGoal s.aspList c)

theorem governors_eq (s : State) : s.governors =
    if s.govShown.inDusk then (List.range 128).foldl lampAtNtc s.govShown
    else (s.lampGoals.foldl lampMoved (s.govShown.dissStep s.aspList s.pSink)).putFlag fBST_GOV
      ([0, 1, 2].any fun k => decide ((s.lampGoals.foldl lampMoved (s.govShown.dissStep s.aspList s.pSink)).dissOf k < 1024)) := by
  unfold governors govShown govSink lampGoals lampMoved lampAtNtc
  dsimp only
  rfl

theorem step16_near (f g : Nat) : step16 f g ≤ f + 16 ∧ f ≤ step16 f g + 16 := by
  unfold step16
  split
  · omega
  split
  · omega
  · omega

theorem lampMoved_chan (s : State) (g : Nat × Nat) (c : Nat) :
    (s.lampMoved g).chan c = if c = g.1 then { s.chan g.1 with fLamp := step16 (s.chan g.1).fLamp g.2, fDiss := s.dissOf (s.chanClass g.1) } else s.chan c :=
  chan_setChan s g.1 c _

/-- Goals of distinct channels move each f_lamp by one step at most (R116). -/
theorem lampMoved_near {l : List (Nat × Nat)} (hl : (l.map Prod.fst).Nodup) (s : State) (c : Nat) :
    ((l.foldl lampMoved s).chan c).fLamp ≤ (s.chan c).fLamp + 16 ∧ (s.chan c).fLamp ≤ ((l.foldl lampMoved s).chan c).fLamp + 16 := by
  have hrest (l : List (Nat × Nat)) (s : State) (hc : c ∉ l.map Prod.fst) : (l.foldl lampMoved s).chan c = s.chan c := by
    induction l generalizing s with
    | nil => rfl
    | cons g l ih =>
      obtain ⟨hne, hnot⟩ := not_or.1 fun h => hc (List.mem_cons.2 h)
      rw [List.foldl_cons, ih _ hnot, lampMoved_chan, if_neg hne]
  induction l generalizing s with
  | nil => exact ⟨Nat.le_add_right _ _, Nat.le_add_right _ _⟩
  | cons g l ih =>
    obtain ⟨hnot, hnodup⟩ := List.nodup_cons.1 hl
    rw [List.foldl_cons]
    by_cases hcg : c = g.1
    · subst hcg
      rw [hrest l _ hnot, lampMoved_chan, if_pos rfl]
      exact step16_near _ _
    · have hsame : (s.lampMoved g).chan c = s.chan c := (lampMoved_chan s g c).trans (if_neg hcg)
      rw [← hsame]
      exact ih hnodup (s.lampMoved g)

theorem lampGoals_nodup (s : State) : (s.lampGoals.map Prod.fst).Nodup := by
  have hfst : s.lampGoals.map Prod.fst = List.range 128 := by
    rw [lampGoals, List.map_map]
    exact List.map_id _
  rw [hfst]
  exact List.nodup_range

theorem lampAtNtc_chan (s : State) {l : List Nat} (t : State) (h : Kept [.chans] s t) (c : Nat)
    (hc : c ∈ l ∨ (t.chan c).fLamp = s.lampCurve (100 * s.ntcTemp)) : ((l.foldl lampAtNtc t).chan c).fLamp = s.lampCurve (100 * s.ntcTemp) := by
  induction l generalizing t with
  | nil => exact hc.resolve_left List.not_mem_nil
  | cons d l ih =>
    rw [List.foldl_cons]
    refine ih (t.lampAtNtc d) (setChan_kept (by decide) _ _ h) ?_
    have hcurve : t.lampCurve (100 * t.ntcTemp) = s.lampCurve (100 * s.ntcTemp) := by
      have hget (f : Fld) : t.get f = s.get f := by rw [get, rd, h.regs_eq, get, rd]
      rw [lampCurve, ntcTemp, flag, hget, hget, hget, h.dim_eq, lampCurve, ntcTemp, flag]
    rw [lampAtNtc, chan_setChan]
    split
    case isTrue => exact .inr hcurve
    case isFalse hne => exact hc.imp (fun hin => (List.mem_cons.1 hin).resolve_left hne) id

theorem govSink_kept (s : State) : Kept [.regs, .boost] s s.govSink :=
  (put_kept (T := [.regs, .boost]) (by decide) fPWR_PSINK _ (.refl s)).upd_boost (by decide)

theorem govSink_wr (s : State) : Wr [(0x208, 0)] s s.govSink := Wr.upd (put_wr (f := fPWR_PSINK) (by decide) (.refl s))

theorem govShown_kept (s : State) : Kept [.regs, .boost] s s.govShown :=
  .ite (s.govSink_kept.upd_boost (by decide)) (putFlag_kept (by decide) _ _ s.govSink_kept)

theorem govShown_wr (s : State) : Wr [(0x200, 0), (0x208, 0)] s s.govShown :=
  have hwr := (s.govSink_wr.mono (by decide) : Wr [(0x200, 0), (0x208, 0)] s s.govSink)
  .ite (Wr.upd hwr) (putFlag_wr (by decide) hwr)

theorem get_boost (t : State) (b : Boost) (f : Fld) : ({ t with boost := b } : State).get f = t.get f := rfl

theorem govSink_effect (s : State) : s.govSink.boost.fJunc = juncCurve s.boost.tj
    ∧ s.govSink.get fPWR_PSINK = if s.pSink < 65536 then s.pSink else 65535 := by
  have hfits : (if s.pSink < 65536 then s.pSink else 65535) < 2 ^ fPWR_PSINK.width := by
    show _ < 65536
    split <;> omega
  have hput := get_put_fits s fPWR_PSINK hfits
  exact ⟨by simp only [govSink, put_boost], by rw [govSink, get_boost, hput]⟩

theorem govShown_effect (s : State) : s.govShown.boost.fJunc = juncCurve s.boost.tj
    ∧ s.govShown.get fPWR_PSINK = if s.pSink < 65536 then s.pSink else 65535 := by
  obtain ⟨hjunc, hsink⟩ := s.govSink_effect
  unfold govShown
  split
  · rw [get_boost]
    exact ⟨hjunc, hsink⟩
  · exact ⟨by rw [putFlag_boost, hjunc], (get_putFlag_addr _ (f := fBST_PEAK_LIM) (g := fPWR_PSINK) false (by decide)).trans hsink⟩

theorem govShown_dusk (s : State) : s.govShown.inDusk = s.inDusk := (s.govShown_wr).inDusk (s.govShown_kept).pwr_eq

theorem dissStep_fJunc (t : State) (asps : List (Nat × List Nat)) (p : Nat) : (t.dissStep asps p).boost.fJunc = t.boost.fJunc := by
  have hend (u : State) (b : Bool) (l : List Nat) :
      ((if b then (u.logEv evGOV_SAT kDEVICE 0 l).raise srcTHERMAL else u).thermalGroup evGOV_SAT).boost = u.boost :=
    (thermalGroup_kept (T := [.regs, .icu, .nw, .pwr, .evt]) (by decide) _
      (.ite (raise_kept (by decide) _ (logEv_kept (by decide) _ _ _ _ (.refl u))) (.refl u))).boost_eq
  unfold dissStep
  dsimp only
  rw [hend]
  generalize List.find? (fun k => t.classHeld asps k && decide (govFloor k < t.dissOf k)) [0, 1, 2] = low
  generalize List.find? (fun k => decide (t.dissOf k < 1024)) [2, 1, 0] = high
  simp only [apply_ite State.boost, apply_ite Boost.fJunc]
  cases low with
  | none => cases high with
    | none => simp only [ite_self]
    | some k => simp only [ite_self]
  | some j => cases high with
    | none => simp only [ite_self]
    | some k => simp only [ite_self]

theorem moved_kept (t : State) (l : List (Nat × Nat)) : Kept [.chans] t (l.foldl lampMoved t) :=
  Kept.fold (fun _ _ h => setChan_kept (by decide) _ _ h) (.refl t)

/-- The governors outside Dusk (R95, R97, R116). -/
theorem governors_awake (h : s.inDusk = false) : s.governors.boost.fJunc = juncCurve s.boost.tj
    ∧ s.governors.get fPWR_PSINK = (if s.pSink < 65536 then s.pSink else 65535)
    ∧ ∀ c, (s.governors.chan c).fLamp ≤ (s.chan c).fLamp + 16 ∧ (s.chan c).fLamp ≤ (s.governors.chan c).fLamp + 16 := by
  obtain ⟨hjunc, hsink⟩ := s.govShown_effect
  have hmoved := moved_kept (s.govShown.dissStep s.aspList s.pSink) s.lampGoals
  have hdiss : Kept [.regs, .icu, .evt, .nw, .pwr, .boost] s (s.govShown.dissStep s.aspList s.pSink) :=
    dissStep_kept (by decide) _ _ (s.govShown_kept.mono (by decide))
  rw [governors_eq, if_neg (by simp [govShown_dusk, h])]
  refine ⟨?_, ?_, fun c => ?_⟩
  · rw [putFlag_boost, hmoved.boost_eq, dissStep_fJunc, hjunc]
  · have hwr : Wr [(0x200, 0), (0x270, 0), (0x2A0, 0), (0x2A4, 0), (0x2A8, 0), (0x5014, 0), (0x1B070, 0)] s.govShown
        ((s.lampGoals.foldl lampMoved (s.govShown.dissStep s.aspList s.pSink)).putFlag fBST_GOV
          ([0, 1, 2].any fun k => decide ((s.lampGoals.foldl lampMoved (s.govShown.dissStep s.aspList s.pSink)).dissOf k < 1024))) :=
      putFlag_wr (by decide) (Wr.fold (fun _ _ hh => setChan_wr (by decide) _ _ hh) (dissStep_wr (by decide) _ _ (.refl _)))
    rw [hwr.get fPWR_PSINK, hsink]
  · rw [chan_congr (putFlag_chans _ _ _)]
    have hnear := lampMoved_near s.lampGoals_nodup (s.govShown.dissStep s.aspList s.pSink) c
    rw [chan_congr hdiss.chans_eq] at hnear
    exact hnear

/-- The governors in Dusk (R95, R97, R384). -/
theorem governors_dusk (h : s.inDusk = true) : s.governors.boost.fJunc = juncCurve s.boost.tj
    ∧ s.governors.get fPWR_PSINK = (if s.pSink < 65536 then s.pSink else 65535)
    ∧ ∀ c < 128, (s.governors.chan c).fLamp = s.lampCurve (100 * s.ntcTemp) := by
  obtain ⟨hjunc, hsink⟩ := s.govShown_effect
  have hfold : Kept [.chans] s.govShown ((List.range 128).foldl lampAtNtc s.govShown) := Kept.fold (fun _ _ h => setChan_kept (by decide) _ _ h) (.refl _)
  have hcurve : s.govShown.lampCurve (100 * s.govShown.ntcTemp) = s.lampCurve (100 * s.ntcTemp) := by
    have hwr := s.govShown_wr
    rw [lampCurve, ntcTemp, hwr.get fKNEE, hwr.get fNTC_SUB, hwr.flag fDIM_NTC_FAULT, s.govShown_kept.dim_eq, lampCurve, ntcTemp]
  rw [governors_eq, if_pos (by rw [govShown_dusk, h])]
  refine ⟨?_, ?_, fun c hc => ?_⟩
  · rw [hfold.boost_eq, hjunc]
  · rw [get, rd, hfold.regs_eq]
    exact hsink
  · rw [lampAtNtc_chan s.govShown s.govShown (.refl _) c (.inl (List.mem_range.2 hc)), hcurve]

end State

theorem exec_thermalShutdown (s : State) : exec .thermalShutdown s = .next s.thermalShutdown := rfl
theorem exec_thermalShutdownExit (s : State) : exec .thermalShutdownExit s = .next s.thermalExit := rfl
theorem exec_needComputation (s : State) : exec .needComputation s = .next s.needs := rfl
theorem exec_governorUpdate (s : State) : exec .governorUpdate s = .next s.governors := rfl

/-- Settles O21. -/
theorem thermalNeedAndGovernors : Obligations.ThermalNeedAndGovernors := by
  intro s judged needs target shown
  refine ⟨fun hcool => .of_eq (exec_thermalShutdown s) ?_, fun htsd => .of_eq (exec_thermalShutdown s) (if_pos htsd),
    fun htsd => .of_eq (exec_thermalShutdownExit s) ⟨s.thermalExit_tsd htsd, (State.thermalExit_kept (by decide) (.refl s)).only⟩,
    fun hcool => .of_eq (exec_thermalShutdownExit s) (if_pos (by simp [hcool])),
    fun hdusk hmid hfrozen => .of_eq (exec_needComputation s) ?_, fun hno => .of_eq (exec_needComputation s) (if_pos ?_),
    fun hdusk => .of_eq (exec_governorUpdate s) ?_, fun hdusk => .of_eq (exec_governorUpdate s) ?_⟩
  case refine_1 =>
    obtain ⟨htsd, hhold, hlogged⟩ := State.thermalShutdown_effect hcool
    exact ⟨htsd, hhold, hlogged, (State.thermalShutdown_kept (by decide) (.refl s)).only⟩
  case refine_2 =>
    obtain ⟨htarget, hshown⟩ := State.needs_effect hdusk hmid hfrozen
    exact ⟨htarget, hshown, (State.needs_kept (by decide) (.refl s)).only⟩
  case refine_3 =>
    obtain hno | hno | hno := hno <;> simp [hno]
  case refine_4 =>
    obtain ⟨hjunc, hsink, hlamp⟩ := State.governors_awake hdusk
    exact ⟨hjunc, hsink, hlamp, (State.governors_kept (by decide) (.refl s)).only⟩
  case refine_5 =>
    obtain ⟨hjunc, hsink, hlamp⟩ := State.governors_dusk hdusk
    exact ⟨hjunc, hsink, hlamp, (State.governors_kept (by decide) (.refl s)).only⟩

end Sys2Proof.Machine
end

section
/-! BOOST PROTECTIONS (R84, R88-R92): peak limit, over-voltage clamp, short, hiccup, feedback fault and soft-start. -/

namespace Sys2Proof.Machine

namespace State

variable {s : State}

theorem flag_boost (t : State) (b : Boost) (f : Fld) : ({ t with boost := b } : State).flag f = t.flag f := rfl

theorem gateLow_get (t : State) (f : Fld) : t.gateLow.get f = t.get f := rfl

/-- The hiccup from the tick of `s` on (R90). -/
structure InHiccup (s t : State) : Prop where
  mode : t.get fBST_MODE = 5
  hic : t.boost.hic = true
  since : t.boost.hicAt = s.grid.tick
  gate : t.pins.bstGate = false

theorem hiccup_effect (t : State) : InHiccup t t.hiccup := by
  unfold hiccup
  exact ⟨by rw [get_boost, gateLow_get, get_put_fits t fBST_MODE (by decide)], rfl, rfl, rfl⟩

/-- Group 3 is set by a cause of it that holds (R432). -/
theorem boostGroup_set (t : State) (cls : Nat) (h : t.boost.hic = true ∨ t.boost.fb = true) : (t.boostGroup cls).flag (fFLT_GROUP 3) = true := by
  unfold boostGroup fltFollow
  rw [if_pos (by obtain h | h := h <;> simp [h])]
  exact fltSet_flag t cls (by decide) (by decide)

/-- What a boost fault leaves besides its record, its source and its group. -/
theorem boostTold_wr (t : State) (cls : Nat) : Wr [(0x270, 0), (0x2A0, 0), (0x2A4, 0), (0x2A8, 0), (0x5014, 0), (0x1B070, 0)] t
    (((t.logEv cls kDEVICE 0 []).raise srcBOOST).boostGroup cls) :=
  boostGroup_wr (by decide) _ (raise_wr (by decide) _ (logEv_wr (by decide) _ _ _ _ (.refl t)))

theorem boostTold_kept (t : State) (cls : Nat) : Kept [.regs, .icu, .evt, .nw, .pwr] t (((t.logEv cls kDEVICE 0 []).raise srcBOOST).boostGroup cls) :=
  boostGroup_kept (by decide) _ (raise_kept (by decide) _ (logEv_kept (by decide) _ _ _ _ (.refl t)))

theorem boostTold_group (t : State) (cls : Nat) (h : t.boost.hic = true ∨ t.boost.fb = true) :
    (((t.logEv cls kDEVICE 0 []).raise srcBOOST).boostGroup cls).flag (fFLT_GROUP 3) = true := by
  refine boostGroup_set _ cls ?_
  rw [(raise_kept (T := [.regs, .icu, .nw, .pwr, .evt]) (by decide) srcBOOST (logEv_kept (by decide) cls kDEVICE 0 [] (.refl t))).boost_eq]
  exact h

-- The peak limit and the clamp

/-- The gate is low and the peak limit is shown (R89). -/
def peakTripped (s : State) : State :=
  { (s.putFlag fBST_PEAK_LIM true).gateLow with boost := { (s.putFlag fBST_PEAK_LIM true).gateLow.boost with peak := true } }

theorem gateLow_flag (t : State) (f : Fld) : t.gateLow.flag f = t.flag f := rfl

theorem peakTripped_flag (s : State) : s.peakTripped.flag fBST_PEAK_LIM = true := by
  rw [peakTripped, flag_boost, gateLow_flag, flag_putFlag s fBST_PEAK_LIM true]

theorem peakTripped_pins (s : State) : s.peakTripped.boost.peak = true ∧ s.peakTripped.pins = { s.pins with bstGate := false } := by
  simp only [peakTripped, gateLow, putFlag_pins, and_self]

theorem peakTripped_kept (s : State) : Kept [.regs, .pins, .boost] s s.peakTripped :=
  (gateLow_kept (by decide) (putFlag_kept (by decide) fBST_PEAK_LIM true (.refl s))).upd_boost (by decide)

theorem peakTripped_wr (s : State) : Wr [(aDEV_BOOST_STAT, 0)] s s.peakTripped :=
  Wr.upd (gateLow_wr (by decide) (putFlag_wr (f := fBST_PEAK_LIM) (by decide) (.refl s)))

/-- The clamp is shown and counted and the gate is low (R91). -/
def clampShown (s : State) : State := (((s.putFlag fBST_OV_CLAMP true).bump aDEV_BOOST_OVC).lifeAcc (lifeDevice + 44) 1).gateLow

/-- The onset is kept and judged against those before it (R91). -/
def clampKept (s : State) : State :=
  { s.clampShown with boost := { s.clampShown.boost with
      onsets := (s.grid.tick :: s.boost.onsets).take 3
      clampTrip := s.clampShown.boost.clampTrip || (((s.grid.tick :: s.boost.onsets).take 3).length == 3
        && decide (s.grid.tick ≤ ((s.grid.tick :: s.boost.onsets).take 3).getD 2 0 + 25000000)) } }

theorem clampOnset_eq (s : State) : s.clampOnset = (s.clampKept.raise srcBOOST).boostGroup 0 := by
  unfold clampOnset clampKept clampShown
  dsimp only

theorem clampKept_flag (s : State) : s.clampKept.flag fBST_OV_CLAMP = true ∧ s.clampKept.rd aDEV_BOOST_OVC = s.rd aDEV_BOOST_OVC + 1 := by
  have hlife (t : State) : Kept [.life] t (t.lifeAcc (lifeDevice + 44) 1) := lifeAcc_kept (by decide) _ _ (.refl t)
  have hrd (a : Nat) : s.clampKept.rd a = ((s.putFlag fBST_OV_CLAMP true).bump aDEV_BOOST_OVC).rd a := by
    have hsame : s.clampKept.regs = ((s.putFlag fBST_OV_CLAMP true).bump aDEV_BOOST_OVC).regs :=
      (gateLow_kept (T := [.pins, .boost]) (by decide) (.refl _)).regs_eq.trans (hlife _).regs_eq
    rw [rd, hsame, rd]
  refine ⟨?_, ?_⟩
  · have hbump : Wr [(aDEV_BOOST_OVC, 0)] (s.putFlag fBST_OV_CLAMP true) ((s.putFlag fBST_OV_CLAMP true).bump aDEV_BOOST_OVC) := bump_wr (by decide) (.refl _)
    rw [flag, get, hrd, ← get, ← flag, hbump.flag fBST_OV_CLAMP, flag_putFlag s fBST_OV_CLAMP true]
  · rw [hrd, rd_bump, rd_putFlag_other _ _ (by decide)]

theorem clampOnset_effect (s : State) : s.clampOnset.flag fBST_OV_CLAMP = true ∧ s.clampOnset.rd aDEV_BOOST_OVC = s.rd aDEV_BOOST_OVC + 1
    ∧ s.clampOnset.pins.bstGate = false ∧ s.clampOnset.boost.onsets = (s.grid.tick :: s.boost.onsets).take 3 := by
  obtain ⟨hflag, hcount⟩ := s.clampKept_flag
  have hwr : Wr [(0x270, 0), (0x2A0, 0), (0x2A4, 0), (0x1B070, 0)] s.clampKept s.clampOnset := by
    rw [clampOnset_eq]
    exact boostGroup_wr (by decide) _ (raise_wr (by decide) _ (.refl _))
  have hkept : Kept [.regs, .icu, .nw, .pwr] s.clampKept s.clampOnset := by
    rw [clampOnset_eq]
    exact boostGroup_kept (by decide) _ (raise_kept (by decide) _ (.refl _))
  exact ⟨(hwr.flag fBST_OV_CLAMP).trans hflag, (hwr.eq _ (by decide)).trans hcount, congrArg Pins.bstGate hkept.pins_eq, congrArg Boost.onsets hkept.boost_eq⟩

-- BOOST_SHORT and BOOST_FB_FAULT

theorem boostShort_eq (hfb : s.boost.fb = false) (hmid : s.midnight = false) :
    s.boostShort = (((s.hiccup.logEv evBOOST_SHORT kDEVICE 0 []).raise srcBOOST).boostGroup evBOOST_SHORT).duskExit 3 := by
  unfold boostShort
  rw [if_neg (by simp [hfb, hmid])]

theorem boostShort_effect (hfb : s.boost.fb = false) (hmid : s.midnight = false) :
    s.boostShort.get fBST_MODE = 5 ∧ s.boostShort.boost.hic = true ∧ s.boostShort.boost.hicAt = s.grid.tick ∧ s.boostShort.pins.bstGate = false
      ∧ s.boostShort.flag (fFLT_GROUP 3) = true := by
  obtain ⟨hmode, hhic, hat, hgate⟩ := s.hiccup_effect
  have hwake (t : State) : Wr [(0x270, 0), (0x1B070, 0)] t (t.duskExit 3) := duskExit_wr (by decide) _ (.refl t)
  have hkept := duskExit_kept (T := [.regs, .icu, .evt, .nw, .pwr]) (by decide) 3 (s.hiccup.boostTold_kept evBOOST_SHORT)
  rw [boostShort_eq hfb hmid, (hwake _).get fBST_MODE, (s.hiccup.boostTold_wr _).get fBST_MODE, hkept.boost_eq, hkept.pins_eq, (hwake _).flag (fFLT_GROUP 3)]
  exact ⟨hmode, hhic, hat, hgate, boostTold_group _ _ (.inl hhic)⟩

/-- Pass-through from a feedback fault on, with the gate low (R92). -/
def fbPassing (s : State) (soft : Bool) : State :=
  { (s.put fBST_MODE 6).gateLow with boost := { (s.put fBST_MODE 6).gateLow.boost with fb := true, hic := false, ended := s.boost.ended || soft } }

theorem boostFb_eq (hfb : s.boost.fb = false) (hmid : s.midnight = false) : ∃ soft : Bool, s.boostFb =
    if soft then ((((s.fbPassing soft).logEv evBOOST_FB_FAULT kDEVICE 0 []).raise srcBOOST).boostGroup evBOOST_FB_FAULT).closeNormal
    else (((s.fbPassing soft).logEv evBOOST_FB_FAULT kDEVICE 0 []).raise srcBOOST).boostGroup evBOOST_FB_FAULT := by
  unfold boostFb fbPassing
  rw [if_neg (by simp [hfb, hmid])]
  exact ⟨_, rfl⟩

theorem fbPassing_mode (s : State) (soft : Bool) : (s.fbPassing soft).get fBST_MODE = 6 := by
  rw [fbPassing, get_boost, gateLow_get, get_put_fits s fBST_MODE (by decide)]

theorem boostFb_effect (hfb : s.boost.fb = false) (hmid : s.midnight = false) :
    s.boostFb.get fBST_MODE = 6 ∧ s.boostFb.boost.fb = true ∧ s.boostFb.boost.hic = false ∧ s.boostFb.pins.bstGate = false
      ∧ s.boostFb.flag (fFLT_GROUP 3) = true := by
  obtain ⟨soft, heq⟩ := boostFb_eq hfb hmid
  have htold : ∀ t : State, t = ((((s.fbPassing soft).logEv evBOOST_FB_FAULT kDEVICE 0 []).raise srcBOOST).boostGroup evBOOST_FB_FAULT) →
      t.get fBST_MODE = 6 ∧ t.boost.fb = true ∧ t.boost.hic = false ∧ t.pins.bstGate = false ∧ t.flag (fFLT_GROUP 3) = true := by
    rintro t rfl
    have hkept := (s.fbPassing soft).boostTold_kept evBOOST_FB_FAULT
    rw [((s.fbPassing soft).boostTold_wr _).get fBST_MODE, hkept.boost_eq, hkept.pins_eq]
    exact ⟨fbPassing_mode s soft, rfl, rfl, rfl, boostTold_group _ _ (.inr rfl)⟩
  have hclose (t : State) : Kept [.banks] t t.closeNormal := closeNormal_kept (by decide) (.refl t)
  rw [heq]
  split
  · obtain ⟨hmode, hfb', hhic, hgate, hgroup⟩ := htold _ rfl
    have hrd (f : Fld) (t : State) : t.closeNormal.get f = t.get f := by rw [get, rd, (hclose t).regs_eq, get, rd]
    rw [flag, hrd, hrd, (hclose _).boost_eq, (hclose _).pins_eq]
    exact ⟨hmode, hfb', hhic, hgate, hgroup⟩
  · exact htold _ rfl

-- HICCUP_RESTART

/-- The restart is counted (R90). -/
def hiccupCounted (s : State) : State := (s.bump aDEV_BOOST_HICCUP).lifeAcc (lifeDevice + 40) 1

theorem hiccupCounted_wr (s : State) : Wr [(aDEV_BOOST_HICCUP, 0)] s s.hiccupCounted := lifeAcc_wr (by decide) _ _ (bump_wr (by decide) (.refl s))

theorem hiccupCounted_kept (s : State) : Kept [.regs, .life] s s.hiccupCounted := lifeAcc_kept (by decide) _ _ (bump_kept (by decide) _ (.refl s))

theorem hiccupCounted_rd (s : State) : s.hiccupCounted.rd aDEV_BOOST_HICCUP = s.rd aDEV_BOOST_HICCUP + 1 := by
  rw [hiccupCounted, lifeAcc_rd, rd_bump]

theorem hiccupCounted_midnight (s : State) : s.hiccupCounted.midnight = s.midnight := by
  rw [midnight, s.hiccupCounted_wr.get fNW_MN_CAUSE, midnight]

theorem softStart_of_awake (t : State) (h : t.midnight = false) : t.softStart.get fBST_MODE = 1 ∧ t.softStart.loop 0 = { t.loop 0 with run := false } := by
  unfold softStart
  rw [if_neg (by simp [h])]
  dsimp only
  refine ⟨?_, (loop_setLoop (t.put fBST_MODE 1) 0 0 _).trans (if_pos rfl)⟩
  rw [get_boost, setLoop_get, get_put_fits t fBST_MODE (by decide)]

-- SOFTSTART_CHECK

theorem softCheck_passed (hmode : s.get fBST_MODE = 1) (hok : s.softOk = true) (h : s.softOver = true ∨ s.passTarget = true) :
    s.softCheck = (({ (s.put fBST_MODE 2).boostPass with
      boost := { (s.put fBST_MODE 2).boostPass.boost with hic := false, ended := true } } : State).boostGroup evBOOST_SHORT).closeNormal := by
  unfold softCheck
  rw [if_neg (by obtain h | h := h <;> simp [hmode, hok, h]), if_pos hok]

/-- A start that fails leaves the hiccup, counted (R88, R378). -/
def startFailed (s : State) : State :=
  { s.hiccup with
    boost := { s.hiccup.boost with fails := s.hiccup.boost.fails + 1, ended := s.hiccup.boost.ended || decide (2 ≤ s.hiccup.boost.fails) } }

theorem softCheck_failed (hmode : s.get fBST_MODE = 1) (hok : s.softOk = false) (hover : s.softOver = true) :
    s.softCheck = ((s.startFailed.logEv evBOOST_START_FAIL kDEVICE 0 []).raise srcBOOST).boostGroup evBOOST_START_FAIL := by
  unfold softCheck startFailed
  rw [if_neg (by simp [hmode, hover]), if_neg (by simp [hok])]

theorem softCheck_idle (h : s.get fBST_MODE ≠ 1 ∨ (s.softOver = false ∧ ¬ (s.passTarget = true ∧ s.softOk = true))) : s.softCheck = s := by
  unfold softCheck
  rw [if_pos]
  obtain h | ⟨hover, hpass⟩ := h
  · simp [h]
  · have hnot : (s.passTarget && s.softOk) = false := Bool.eq_false_iff.2 fun hp => hpass (Bool.and_eq_true_iff.1 hp)
    rw [hover, hnot, Bool.or_false, Bool.not_false, Bool.or_true]

theorem boostPass_regulating (t : State) (hmode : t.get fBST_MODE = 2) : t.boostPass.get fBST_MODE = if t.passTarget then 3 else 2 := by
  unfold boostPass
  cases hp : t.passTarget with
  | true => rw [if_pos ⟨hmode, rfl⟩, if_pos rfl, get_put_fits t fBST_MODE (by decide)]
  | false => rw [if_neg (by simp), if_neg (by simp [hmode]), if_neg Bool.false_ne_true, hmode]

theorem softCheck_success (hmode : s.get fBST_MODE = 1) (hok : s.softOk = true) (h : s.softOver = true ∨ s.passTarget = true) :
    s.softCheck.get fBST_MODE = (if s.passTarget then 3 else 2) ∧ s.softCheck.boost.hic = false ∧ s.softCheck.boost.ended = true := by
  have hclose (t : State) : Kept [.banks] t t.closeNormal := closeNormal_kept (by decide) (.refl t)
  have hget (t : State) (f : Fld) : t.closeNormal.get f = t.get f := by rw [get, rd, (hclose t).regs_eq, get, rd]
  have hgroup (t : State) : Kept [.regs, .icu, .nw, .pwr] t (t.boostGroup evBOOST_SHORT) := boostGroup_kept (by decide) _ (.refl t)
  have hwr (t : State) : Wr [(0x270, 0), (0x2A0, 0), (0x2A4, 0), (0x1B070, 0)] t (t.boostGroup evBOOST_SHORT) := boostGroup_wr (by decide) _ (.refl t)
  rw [softCheck_passed hmode hok h, hget, (hclose _).boost_eq, (hwr _).get fBST_MODE, (hgroup _).boost_eq, get_boost,
    boostPass_regulating _ (get_put_fits s fBST_MODE (by decide))]
  have hpass : (s.put fBST_MODE 2).passTarget = s.passTarget := by rw [passTarget, put_boost, passTarget]
  rw [hpass]
  exact ⟨rfl, rfl, rfl⟩

theorem softCheck_failure (hmode : s.get fBST_MODE = 1) (hok : s.softOk = false) (hover : s.softOver = true) :
    s.softCheck.get fBST_MODE = 5 ∧ s.softCheck.boost.hic = true ∧ s.softCheck.pins.bstGate = false ∧ s.softCheck.flag (fFLT_GROUP 3) = true := by
  obtain ⟨hm, hhic, -, hgate⟩ := s.hiccup_effect
  have hkept := s.startFailed.boostTold_kept evBOOST_START_FAIL
  rw [softCheck_failed hmode hok hover, (s.startFailed.boostTold_wr _).get fBST_MODE, hkept.boost_eq, hkept.pins_eq]
  refine ⟨?_, hhic, hgate, boostTold_group _ _ (.inl hhic)⟩
  rw [startFailed, get_boost, hm]

end State

theorem exec_peakCurrentTrip (s : State) : exec .peakCurrentTrip s = .next s.peakTripped := rfl
theorem exec_ovClampOnset (s : State) : exec .ovClampOnset s = .next s.clampOnset := rfl
theorem exec_ovClampRelease (s : State) : exec .ovClampRelease s = .next (s.putFlag fBST_OV_CLAMP false) := rfl
theorem exec_ovClampQuiet (s : State) : exec .ovClampQuiet s =
    .next (({ s with boost := { s.boost with clampTrip := false, onsets := [] } } : State).boostGroup 0) := rfl
theorem exec_boostShort (s : State) : exec .boostShort s = .next s.boostShort := rfl
theorem exec_hiccupRestart (s : State) : exec .hiccupRestart s =
    if s.get fBST_MODE = 5 ∧ s.boost.hicAt + 2500000 ≤ s.grid.tick then .next s.hiccupCounted.softStart else .next s := rfl
theorem exec_boostFbFault (s : State) : exec .boostFbFault s = .next s.boostFb := rfl
theorem exec_softstartCheck (s : State) : exec .softstartCheck s = .next s.softCheck := rfl

/-- Settles O22. -/
theorem boostProtections : Obligations.BoostProtections := by
  intro s waits passes
  have hpass : passes ↔ s.passTarget = true := by rw [State.passTarget, decide_eq_true_iff]
  refine ⟨.of_eq (exec_peakCurrentTrip s) ?_, .of_eq (exec_ovClampOnset s) ?_, .of_eq (exec_ovClampRelease s) ?_, .of_eq (exec_ovClampQuiet s) ?_,
    fun hfb hmid => .of_eq (exec_boostShort s) ?_, fun hwaits => .of_eq ((exec_hiccupRestart s).trans (if_pos hwaits)) ?_,
    fun hno => .of_eq ((exec_hiccupRestart s).trans (if_neg hno)) rfl, fun hfb hmid => .of_eq (exec_boostFbFault s) ?_, fun hno c hc => ?_,
    fun hmode hok h => .of_eq (exec_softstartCheck s) ?_, fun hmode hok hover => .of_eq (exec_softstartCheck s) ?_,
    fun hno => .of_eq (exec_softstartCheck s) (State.softCheck_idle (hno.imp_right fun h => ⟨h.1, fun hp => h.2 ⟨hpass.2 hp.1, hp.2⟩⟩))⟩
  case refine_1 =>
    exact ⟨s.peakTripped_flag, s.peakTripped_pins.1, s.peakTripped_pins.2, s.peakTripped_kept.only, s.peakTripped_wr.onlyRegs⟩
  case refine_2 =>
    obtain ⟨hflag, hcount, hgate, honsets⟩ := s.clampOnset_effect
    exact ⟨hflag, hcount, hgate, honsets, (State.clampOnset_kept (by decide) (.refl s)).only⟩
  case refine_3 =>
    exact ⟨State.flag_putFlag s fBST_OV_CLAMP false, (State.putFlag_kept (by decide) _ _ (.refl s)).only,
      (State.putFlag_wr (f := fBST_OV_CLAMP) (by decide) (.refl s)).onlyRegs⟩
  case refine_4 =>
    have hquiet : Kept [.boost] s { s with boost := { s.boost with clampTrip := false, onsets := [] } } := (Kept.refl s).upd_boost (by decide)
    exact ⟨(State.boostGroup_kept (T := [.regs, .icu, .nw, .pwr]) (by decide) 0 (.refl _)).boost_eq,
      (State.boostGroup_kept (by decide) 0 (hquiet.mono (by decide))).only⟩
  case refine_5 =>
    obtain ⟨hmode, hhic, hat, hgate, hgroup⟩ := State.boostShort_effect hfb hmid
    exact ⟨hmode, hhic, hat, hgate, hgroup, (State.boostShort_kept (by decide) (.refl s)).only⟩
  case refine_6 =>
    have hsoft : Wr [(aDEV_BOOST_STAT, 0)] s.hiccupCounted s.hiccupCounted.softStart := State.softStart_wr (by decide) (.refl _)
    refine ⟨(hsoft.eq _ (by decide)).trans s.hiccupCounted_rd, fun hmid => ?_, fun hmid => ?_,
      (State.softStart_kept (by decide) (s.hiccupCounted_kept.mono (by decide))).only,
      ((s.hiccupCounted_wr.mono (by decide)).trans (hsoft.mono (by decide))).onlyRegs⟩
    · have h := s.hiccupCounted.softStart_of_awake (s.hiccupCounted_midnight.trans hmid)
      rw [State.loop_congr s.hiccupCounted_kept.loops_eq] at h
      exact h
    · rw [State.softStart, if_pos (s.hiccupCounted_midnight.trans hmid), s.hiccupCounted_wr.get fBST_MODE, s.hiccupCounted_kept.loops_eq,
        s.hiccupCounted_kept.boost_eq]
      exact ⟨hwaits.1, rfl, rfl⟩
  case refine_7 =>
    obtain ⟨hmode, hfault, hhic, hgate, hgroup⟩ := State.boostFb_effect hfb hmid
    exact ⟨hmode, hfault, hhic, hgate, hgroup, (State.boostFb_kept (by decide) (.refl s)).only⟩
  case refine_8 =>
    have hnone : (s.boost.fb || s.midnight) = true := Bool.or_eq_true_iff.2 hno
    simp only [List.mem_cons, List.not_mem_nil, or_false] at hc
    obtain rfl | rfl := hc
    · exact .of_eq (exec_boostShort s) (if_pos hnone)
    · exact .of_eq (exec_boostFbFault s) (if_pos hnone)
  case refine_9 =>
    obtain ⟨hend, hhic, hended⟩ := State.softCheck_success hmode hok (h.imp_right hpass.1)
    refine ⟨hend.trans ?_, hhic, hended, (State.softCheck_kept (by decide) (.refl s)).only⟩
    simp only [State.passTarget, decide_eq_true_eq]
  case refine_10 =>
    obtain ⟨hend, hhic, hgate, hgroup⟩ := State.softCheck_failure hmode hok hover
    exact ⟨hend, hhic, hgate, hgroup, (State.softCheck_kept (by decide) (.refl s)).only⟩

end Sys2Proof.Machine
end

section
/-! THE LOOP ENGINE'S PERIODS, SWAPS AND MIGRATIONS (R213-R224). -/

namespace Sys2Proof.Machine

namespace State

variable {s : State} {n : Nat}

/-- A field of a register that holds the same word. -/
theorem get_of_rd {t : State} {f : Fld} (h : t.rd f.addr = s.rd f.addr) : t.get f = s.get f := by rw [get, h, get]

theorem flag_of_rd {t : State} {f : Fld} (h : t.rd f.addr = s.rd f.addr) : t.flag f = s.flag f := by rw [flag, get_of_rd h, flag]

-- The swap of a set

/-- SWAP of a slot. -/
def fSwap (n : Nat) : Fld := ⟨aLOOP_SWAP, n, 1⟩

/-- Words of the shadow set copied to the active one, each clamped (R222). -/
def actCopy (n w0 : Nat) (s : State) (w : Nat) : State := s.wr (aLOOP_ACT n w) (loopWord n w (s.rd (aLOOP_SHD n w)).toNat w0)

/-- The active set as the swap copies it. -/
def actCopied (s : State) (n : Nat) : State :=
  (List.range 8).foldl (actCopy n ((s.putFlag (fSwap n) false).rd (aLOOP_SHD n 0)).toNat) (s.putFlag (fSwap n) false)

/-- UMAX lies below UMIN. -/
def badLimits (s : State) (n : Nat) : Bool := decide (s.actS n 3 16 < s.actS n 3 0)

/-- The active set with UMAX raised to a higher UMIN. -/
def actLimited (s : State) (n : Nat) : State :=
  if s.badLimits n then s.put ⟨aLOOP_ACT n 3, 16, 16⟩ (s.act n 3 0 16) else s

/-- SWAPPED and BADLIM are shown. -/
def swapShown (s : State) (n : Nat) (bad : Bool) : State := (s.putFlag (fLST n 3 2 1) true).putFlag (fLST n 3 7 1) bad

theorem loopSwap_idle (h : s.flag (fSwap n) = false) : s.loopSwap n = s := by
  unfold loopSwap
  rw [if_pos (by rw [← fSwap, h, Bool.not_false])]

theorem loopSwap_asked (h : s.flag (fSwap n) = true) : s.loopSwap n =
    (((s.actCopied n).actLimited n).swapShown n ((s.actCopied n).badLimits n)).setLoop n
      { (((s.actCopied n).actLimited n).swapShown n ((s.actCopied n).badLimits n)).loop n with reseed := true } := by
  unfold loopSwap
  rw [if_neg (by rw [← fSwap, h]; exact Bool.false_ne_true)]
  unfold actCopied actLimited badLimits swapShown actCopy fSwap
  dsimp only

/-- Copying the words of the list brings each of them over, and touches nothing else. -/
theorem actCopy_fold (n w0 : Nat) {l : List Nat} (hl : l.Nodup) (hlt : ∀ w ∈ l, w < 8) (s : State) :
    (∀ w ∈ l, (l.foldl (actCopy n w0) s).rd (aLOOP_ACT n w) = BitVec.ofNat 32 (loopWord n w (s.rd (aLOOP_SHD n w)).toNat w0))
      ∧ ∀ a, (∀ w ∈ l, a ≠ aLOOP_ACT n w) → (l.foldl (actCopy n w0) s).rd a = s.rd a := by
  induction l generalizing s with
  | nil => exact ⟨fun w hw => absurd hw List.not_mem_nil, fun _ _ => rfl⟩
  | cons v l ih =>
    obtain ⟨hnot, hnodup⟩ := List.nodup_cons.1 hl
    have hv := hlt v List.mem_cons_self
    obtain ⟨hin, hout⟩ := ih hnodup (fun w hw => hlt w (List.mem_cons_of_mem v hw)) (actCopy n w0 s v)
    have hother {a : Nat} (ha : a ≠ aLOOP_ACT n v) : (actCopy n w0 s v).rd a = s.rd a := rd_wr_other _ _ ha
    rw [List.foldl_cons]
    refine ⟨fun w hw => ?_, fun a ha => ?_⟩
    · obtain rfl | hw := List.mem_cons.1 hw
      · rw [hout _ fun u hu => ?_]
        · exact rd_wr_same _ _ _
        · have hne : w ≠ u := fun h => hnot (h ▸ hu)
          unfold aLOOP_ACT
          omega
      · have hlt8 := hlt w (List.mem_cons_of_mem v hw)
        rw [hin w hw, hother]
        unfold aLOOP_SHD aLOOP_ACT
        omega
    · rw [hout a fun w hw => ha w (List.mem_cons_of_mem v hw), hother (ha v List.mem_cons_self)]

/-- The active word as the swap leaves it before the limits are judged. -/
def swapWord (s : State) (n k : Nat) : Nat := loopWord n k (s.rd (aLOOP_SHD n k)).toNat (s.rd (aLOOP_SHD n 0)).toNat

theorem swapWord_congr {t : State} (h : ∀ k < 8, t.rd (aLOOP_SHD n k) = s.rd (aLOOP_SHD n k)) {k : Nat} (hk : k < 8) : t.swapWord n k = s.swapWord n k := by
  rw [swapWord, h k hk, h 0 (by decide), swapWord]

theorem actCopied_act (s : State) {k : Nat} (hk : k < 8) : (s.actCopied n).rd (aLOOP_ACT n k) = BitVec.ofNat 32 (s.swapWord n k) := by
  have hshd (k : Nat) : (s.putFlag (fSwap n) false).rd (aLOOP_SHD n k) = s.rd (aLOOP_SHD n k) :=
    rd_putFlag_other s (f := fSwap n) false (show aLOOP_SHD n k ≠ aLOOP_SWAP by unfold aLOOP_SHD aLOOP_SWAP; omega)
  rw [actCopied, (actCopy_fold n _ List.nodup_range (fun _ hw => List.mem_range.1 hw) _).1 k (List.mem_range.2 hk), hshd, hshd, swapWord]

theorem actCopied_rd (s : State) {a : Nat} (ha : ∀ w < 8, a ≠ aLOOP_ACT n w) : (s.actCopied n).rd a = (s.putFlag (fSwap n) false).rd a :=
  (actCopy_fold n _ List.nodup_range (fun _ hw => List.mem_range.1 hw) _).2 a fun w hw => ha w (List.mem_range.1 hw)

theorem bitsOf_mod (x lo width : Nat) (h : lo + width ≤ 32) : bitsOf (x % 2 ^ 32) lo width = bitsOf x lo width := by
  unfold bitsOf
  obtain ⟨d, hd⟩ := Nat.le.dest h
  rw [← hd, Nat.add_assoc, Nat.pow_add, Nat.mod_mul_right_div_self, Nat.pow_add, Nat.mod_mul_right_mod]

theorem loopWord_three_lt (n : Nat) {w w0 : Nat} (hw : w < 2 ^ 32) : loopWord n 3 w w0 < 2 ^ 32 := by
  have hbits (x : Int) : toBits x 16 < 2 ^ 16 := by
    have := Int.emod_lt_of_pos x (b := ((2 ^ 16 : Nat) : Int)) (by decide)
    have := Int.emod_nonneg x (b := ((2 ^ 16 : Nat) : Int)) (by decide)
    unfold toBits
    omega
  unfold loopWord
  rw [if_neg (by decide), if_neg (by decide)]
  split
  · have h1 := hbits (clampInt (-32768) 27525 (signedOf (w / 65536) 16))
    have h2 := hbits (clampInt 0 32767 (signedOf w 16))
    omega
  · exact hw

theorem actCopied_actS (s : State) {lo : Nat} (hlo : lo + 16 ≤ 32) : (s.actCopied n).actS n 3 lo = signedOf (bitsOf (s.swapWord n 3) lo 16) 16 := by
  rw [actS, act, actCopied_act s (by decide), BitVec.toNat_ofNat, bitsOf_mod _ _ _ hlo]

/-- UMAX of the set to come lies below its UMIN. -/
def swapLow (s : State) (n : Nat) : Prop := signedOf (bitsOf (s.swapWord n 3) 16 16) 16 < signedOf (bitsOf (s.swapWord n 3) 0 16) 16

theorem badLimits_iff (s : State) (n : Nat) : (s.actCopied n).badLimits n = true ↔ s.swapLow n := by
  rw [badLimits, decide_eq_true_iff, actCopied_actS s (by decide), actCopied_actS s (by decide), swapLow]

/-- The active words after the swap (R222). -/
structure Swapped (s u : State) (n : Nat) : Prop where
  clear : u.flag (fSwap n) = false
  act : s.flag (fSwap n) = true → ∀ k < 8, (s.swapLow n → k = 3 →
      u.rd (aLOOP_ACT n k) = BitVec.ofNat 32 (withBits (s.swapWord n 3) 16 16 (bitsOf (s.swapWord n 3) 0 16)))
    ∧ (¬ (k = 3 ∧ s.swapLow n) → u.rd (aLOOP_ACT n k) = BitVec.ofNat 32 (s.swapWord n k))

/-- The registers that hold the state of a slot. -/
def stRegs (n : Nat) : List (Nat × Nat) := [(aLOOP_ST n 0, 0), (aLOOP_ST n 3, 0)]

theorem hits_stRegs {a : Nat} (h0 : a ≠ aLOOP_ST n 0) (h3 : a ≠ aLOOP_ST n 3) : hits (stRegs n) a = false := by
  simp [hits, stRegs, h0, h3]

theorem swapShown_wr (t : State) (bad : Bool) : Wr (stRegs n) t (t.swapShown n bad) := by
  have hst : hits (stRegs n) (aLOOP_ST n 3) = true := hit_one (by simp [stRegs])
  exact putFlag_wr (f := fLST n 3 7 1) hst (putFlag_wr (f := fLST n 3 2 1) hst (.refl t))

theorem actLimited_act (s : State) {k : Nat} (hk : k < 8) :
    (s.swapLow n → k = 3 → ((s.actCopied n).actLimited n).rd (aLOOP_ACT n k) = BitVec.ofNat 32 (withBits (s.swapWord n 3) 16 16 (bitsOf (s.swapWord n 3) 0 16)))
      ∧ (¬ (k = 3 ∧ s.swapLow n) → ((s.actCopied n).actLimited n).rd (aLOOP_ACT n k) = BitVec.ofNat 32 (s.swapWord n k)) := by
  have hlt : s.swapWord n 3 < 2 ^ 32 := loopWord_three_lt n (BitVec.isLt _)
  have hact := actCopied_act (n := n) s (k := 3) (by decide)
  unfold actLimited
  by_cases hlow : s.swapLow n
  · rw [if_pos ((badLimits_iff s n).2 hlow)]
    refine ⟨fun _ hk3 => ?_, fun hnot => ?_⟩
    · subst hk3
      rw [put, rd_wr_same]
      dsimp only
      rw [act, hact, BitVec.toNat_ofNat, bitsOf_mod _ _ _ (by decide), Nat.mod_eq_of_lt hlt]
    · have hk3 : k ≠ 3 := fun h => hnot ⟨h, hlow⟩
      rw [rd_put_other _ _ (by dsimp only; unfold aLOOP_ACT; omega), actCopied_act s hk]
  · rw [if_neg fun h => hlow ((badLimits_iff s n).1 h)]
    exact ⟨fun h => absurd h hlow, fun _ => actCopied_act s hk⟩

theorem actLimited_rd (t : State) {a : Nat} (ha : a ≠ aLOOP_ACT n 3) : (t.actLimited n).rd a = t.rd a := by
  unfold actLimited
  split
  · exact rd_put_other _ _ ha
  · rfl

theorem loopSwap_swapped (s : State) (hn : n < 32) : Swapped s (s.loopSwap n) n := by
  cases h : s.flag (fSwap n) with
  | false =>
    rw [loopSwap_idle h]
    exact ⟨h, fun hset => absurd (h.symm.trans hset) Bool.false_ne_true⟩
  | true =>
    have hshown (t : State) (bad : Bool) (x : LoopSlot) {a : Nat} (ha : a < 0x18900) : ((t.swapShown n bad).setLoop n x).rd a = t.rd a :=
      (setLoop_wr (List.nil_subset _) n x (swapShown_wr t bad)).eq a (hits_stRegs (by unfold aLOOP_ST; omega) (by unfold aLOOP_ST; omega))
    rw [loopSwap_asked h]
    refine ⟨?_, fun _ k hk => ?_⟩
    · refine (flag_of_rd (f := fSwap n) ?_).trans (flag_putFlag s (fSwap n) false (by simp [fSwap]; omega) (by simp [fSwap]))
      rw [show (fSwap n).addr = aLOOP_SWAP from rfl, hshown _ _ _ (show aLOOP_SWAP < 0x18900 by decide),
        actLimited_rd _ (by unfold aLOOP_SWAP aLOOP_ACT; omega), actCopied_rd s fun _ _ => by unfold aLOOP_SWAP aLOOP_ACT; omega]
    · rw [hshown _ _ _ (by unfold aLOOP_ACT; omega)]
      exact actLimited_act s hk

theorem loopSwap_loop (s : State) (n : Nat) : ∃ b : Bool, (s.loopSwap n).loop n = { s.loop n with reseed := b } := by
  cases h : s.flag (fSwap n) with
  | false => exact ⟨(s.loop n).reseed, by rw [loopSwap_idle h]⟩
  | true =>
    refine ⟨true, ?_⟩
    have hsame : (((s.actCopied n).actLimited n).swapShown n ((s.actCopied n).badLimits n)).loops = s.loops := by
      have hcopied : Kept [.regs] s (s.actCopied n) :=
        Kept.fold (fun _ _ h => wr_kept (by decide) _ _ h) (putFlag_kept (by decide) _ _ (.refl s))
      have hlimited : Kept [.regs] s ((s.actCopied n).actLimited n) := .ite (put_kept (by decide) _ _ hcopied) hcopied
      exact (putFlag_kept (by decide) _ _ (putFlag_kept (by decide) _ _ hlimited)).loops_eq
    rw [loopSwap_asked h, loop_setLoop, if_pos rfl, loop_congr hsame]

theorem loopSwap_rd (s : State) {a : Nat} (ha : a < 0x18000) : (s.loopSwap n).rd a = s.rd a := by
  cases h : s.flag (fSwap n) with
  | false => rw [loopSwap_idle h]
  | true =>
    rw [loopSwap_asked h, setLoop_rd, (swapShown_wr _ _).eq a (hits_stRegs (by unfold aLOOP_ST; omega) (by unfold aLOOP_ST; omega)),
      actLimited_rd _ (by unfold aLOOP_ACT; omega), actCopied_rd s fun _ _ => by unfold aLOOP_ACT; omega,
      rd_putFlag_other _ (f := fSwap n) false (show a ≠ aLOOP_SWAP by unfold aLOOP_SWAP; omega)]

-- The start of a period

/-- The slot of a period that starts (R214-R222). -/
def loopBegun (z : State) (n : Nat) : LoopSlot :=
  let x := z.loop n
  let stale := (z.loopIn n).2 || (z.loopSet n).2 || (z.loopFF n).2
  let fresh := !x.run || x.fresh
  let y := if fresh then loopPreset n x (z.loopIn n).1 (if z.dim.seen then (z.loopSet n).1 else ((z.get fDIM_AMBIENT / 2 : Nat) : Int))
    else if x.moved then { x with d := 0, xPrev := (z.loopIn n).1 } else x
  { y with
    run := true, fresh := fresh, x := (z.loopIn n).1, sp := (z.loopSet n).1
    rNext := if stale then y.r else rampStep y.r ((z.loopSet n).1 * 16) (z.loopSlew n).1 (z.loopSlew n).2
    f := (z.loopFF n).1, hold := stale, stale := stale, open_ := true, wait := n == 0, res := none }

theorem loopStart_eq (s : State) (n : Nat) : s.loopStart n =
    if !(s.loopSwap n).loopReady n then (s.loopSwap n).loopOff n
    else ((s.loopSwap n).setLoop n ((s.loopSwap n).loopBegun n)).putFlag (fLST n 3 1 1) true := by
  unfold loopStart loopBegun
  dsimp only

theorem loopStart_kept' (s : State) (n : Nat) : Kept [.regs, .loops] s (s.loopStart n) := by
  have hswap := loopSwap_kept (T := [.regs, .loops]) (by decide) n (.refl s)
  rw [loopStart_eq]
  exact .ite (loopOff_kept (by decide) n hswap) (putFlag_kept (by decide) _ _ (setLoop_kept (by decide) _ _ hswap))

theorem loopBegun_parts (z : State) (n : Nat) : (z.loopBegun n).run = true ∧ (z.loopBegun n).open_ = true ∧ (z.loopBegun n).res = none
    ∧ (z.loopBegun n).hold = (z.loopBegun n).stale ∧ (z.loopBegun n).wait = (n == 0) := ⟨rfl, rfl, rfl, rfl, rfl⟩

/-- The slot as it stands where it may not run (R225). -/
def loopStood (z : State) (n : Nat) : LoopSlot :=
  { z.loop n with
    run := false, fresh := false, open_ := false, res := none
    u := if (decide (4 ≤ n) && z.loopMode n == 0) && !((decide (4 ≤ n) && z.loopMode n == 0) && (z.loop n).run) && (z.loop n).offAt != z.grid.tick then 0
      else (z.loop n).u
    offAt := if (decide (4 ≤ n) && z.loopMode n == 0) && (z.loop n).run then z.grid.tick else (z.loop n).offAt }

theorem loopOff_eq (z : State) (n : Nat) : z.loopOff n =
    if decide (4 ≤ n) && z.loopMode n == 0 then ((z.setLoop n (z.loopStood n)).putFlag (fLST n 3 1 1) false).put (fLST n 0 16 16) 0
    else (z.setLoop n (z.loopStood n)).putFlag (fLST n 3 1 1) false := by
  unfold loopOff loopStood
  dsimp only

theorem loopOff_loop (z : State) (n : Nat) : (z.loopOff n).loop n = z.loopStood n := by
  rw [loopOff_eq]
  split
  · rw [loop_congr (put_loops _ _ _), loop_congr (putFlag_loops _ _ _), loop_setLoop, if_pos rfl]
  · rw [loop_congr (putFlag_loops _ _ _), loop_setLoop, if_pos rfl]

theorem loopOff_stRegs (z : State) (n : Nat) : Wr (stRegs n) z (z.loopOff n) := by
  have h0 : hits (stRegs n) (aLOOP_ST n 0) = true := hit_one (by simp [stRegs])
  have h3 : hits (stRegs n) (aLOOP_ST n 3) = true := hit_one (by simp [stRegs])
  have hflag := putFlag_wr (f := fLST n 3 1 1) (v := false) h3 (setLoop_wr (List.nil_subset _) n (z.loopStood n) (.refl z))
  rw [loopOff_eq]
  exact .ite (put_wr (f := fLST n 0 16 16) h0 hflag) hflag

theorem loopStart_stRegs (s : State) (n : Nat) : Wr (stRegs n) (s.loopSwap n) (s.loopStart n) := by
  have h3 : hits (stRegs n) (aLOOP_ST n 3) = true := hit_one (by simp [stRegs])
  rw [loopStart_eq]
  exact .ite (loopOff_stRegs _ n) (putFlag_wr (f := fLST n 3 1 1) h3 (setLoop_wr (List.nil_subset _) _ _ (.refl _)))

theorem Swapped.congr {t u v : State} (h : Swapped t u n) (hswap : t.rd aLOOP_SWAP = s.rd aLOOP_SWAP)
    (hshd : ∀ k < 8, t.rd (aLOOP_SHD n k) = s.rd (aLOOP_SHD n k)) (hv : v.rd aLOOP_SWAP = u.rd aLOOP_SWAP)
    (hact : ∀ k < 8, v.rd (aLOOP_ACT n k) = u.rd (aLOOP_ACT n k)) : Swapped s v n := by
  have hword {k : Nat} (hk : k < 8) : t.swapWord n k = s.swapWord n k := swapWord_congr hshd hk
  have hlow : t.swapLow n = s.swapLow n := by rw [swapLow, hword (by decide), swapLow]
  obtain ⟨hclear, hset⟩ := h
  refine ⟨(flag_of_rd hv).trans hclear, fun hasked k hk => ?_⟩
  obtain ⟨hraised, hplain⟩ := hset ((flag_of_rd (f := fSwap n) hswap).trans hasked) k hk
  rw [hlow, hword (k := 3) (by decide)] at hraised
  rw [hlow, hword hk] at hplain
  rw [hact k hk]
  exact ⟨hraised, hplain⟩

theorem loopStart_swapped (s : State) (hn : n < 32) : Swapped s (s.loopStart n) n := by
  have hwr := s.loopStart_stRegs n
  refine (s.loopSwap_swapped hn).congr rfl (fun _ _ => rfl) (hwr.eq _ (hits_stRegs ?_ ?_)) fun k hk => hwr.eq _ (hits_stRegs ?_ ?_)
  all_goals unfold aLOOP_ST
  · unfold aLOOP_SWAP; omega
  · unfold aLOOP_SWAP; omega
  · unfold aLOOP_ACT; omega
  · unfold aLOOP_ACT; omega

theorem loopStart_ready (h : (s.loopSwap n).loopReady n = true) : (s.loopStart n).loop n = (s.loopSwap n).loopBegun n := by
  rw [loopStart_eq, if_neg (by simp [h]), loop_congr (putFlag_loops _ _ _), loop_setLoop, if_pos rfl]

theorem loopStart_idle (h : (s.loopSwap n).loopReady n = false) : (s.loopStart n).loop n = (s.loopSwap n).loopStood n := by
  rw [loopStart_eq, if_pos (by simp [h]), loopOff_loop]

theorem loopStood_out (s : State) (n : Nat) : ((s.loopSwap n).loopStood n).u =
    if 4 ≤ n ∧ (s.loopSwap n).loopMode n = 0 ∧ (s.loop n).run = false ∧ (s.loop n).offAt ≠ s.grid.tick then 0 else (s.loop n).u := by
  obtain ⟨b, hloop⟩ := s.loopSwap_loop n
  have hgrid : (s.loopSwap n).grid = s.grid := (loopSwap_kept (T := [.regs, .loops]) (by decide) n (.refl s)).grid_eq
  unfold loopStood
  rw [hloop, hgrid]
  dsimp only
  refine if_congr ?_ rfl rfl
  simp only [Bool.and_eq_true, decide_eq_true_eq, beq_iff_eq, Bool.not_eq_true', Bool.and_eq_false_iff, bne_iff_ne, ne_eq]
  constructor
  · rintro ⟨⟨⟨h4, hmode⟩, hgoes⟩, hoff⟩
    refine ⟨h4, hmode, hgoes.resolve_left ?_, hoff⟩
    simp [h4, hmode]
  · exact fun ⟨h4, hmode, hrun, hoff⟩ => ⟨⟨⟨h4, hmode⟩, .inr hrun⟩, hoff⟩

-- Slot 0

/-- The part as slot 0 starts its period: BST_GATE's period and the place of the boost sampling (R82, R198). -/
def boostSet (s : State) : State := ((if s.boost.cyc = s.grid.tick then s else s.gatePeriod).placeBoost).boostPass

/-- Slot 0 with its period begun, BST_VFB held. -/
def boostHeld (s : State) : State :=
  { s.boostSet.loopStart 0 with adc := { (s.boostSet.loopStart 0).adc with boostAt := (s.boostSet.loopStart 0).grid.tick } }

theorem boostStart_eq (s : State) : s.boostStart =
    if s.boostHeld.pairFault 7 then s.boostHeld
    else (s.boostHeld.setConv s.boostHeld.boostConv { s.boostHeld.conv s.boostHeld.boostConv with boost := true }).adcKick s.boostHeld.boostConv := by
  unfold boostStart boostHeld boostSet
  dsimp only

theorem boostSet_kept (s : State) : Kept [.regs, .pins, .chans, .boost, .mtx, .adc] s s.boostSet :=
  boostPass_kept (by decide) (placeBoost_kept (by decide) (.ite (.refl s) (gatePeriod_kept (by decide) (.refl s))))

theorem boostSet_wr (s : State) : Wr [(0x200, 0), (0x240, 0), (0x244, 0), (0x17004, 0)] s s.boostSet :=
  boostPass_wr (by decide) (placeBoost_wr (by decide) (.ite (.refl s) (gatePeriod_wr (by decide) (.refl s))))

/-- The fault bits of a pair. -/
def fPairFault (p : Nat) : Fld := ⟨aDEV_ADC_STAT, 4 * p + 2, 2⟩

theorem pairFault_get (s : State) (p : Nat) : s.pairFault p = (s.get (fPairFault p) == 3) := rfl

theorem placeMove_fault (t : State) (p : Nat) (hp : p < 8) : (t.placeMove p).get (fPairFault p) = t.get (fPairFault p) := by
  have hrest (u : State) (x : AdcPair) : Wr [] u (((u.newEpoch (2 * p)).newEpoch (2 * p + 1)).setPair p x) :=
    setPair_wr (by decide) _ _ (newEpoch_wr (by decide) _ (newEpoch_wr (by decide) _ (.refl u)))
  have hepoch (u : State) (v : Nat) : (u.put (fADC_EPOCH p) v).get (fPairFault p) = u.get (fPairFault p) :=
    get_of_rd (rd_put_other u v (show aDEV_ADC_STAT ≠ aDEV_ADC_PLACE by decide))
  unfold placeMove
  dsimp only
  rw [(hrest _ _).get (fPairFault p) rfl,
    get_putFlag_apart _ (f := fADC p 1) (g := fPairFault p) _ (by simp [fADC]; omega) rfl (by simp [fADC, fPairFault]), hepoch]

theorem boostSet_fault (s : State) : s.boostSet.pairFault 7 = s.pairFault 7 := by
  have hpass (t : State) : t.boostPass.get (fPairFault 7) = t.get (fPairFault 7) :=
    (boostPass_wr (R := [(0x200, 0)]) (by decide) (.refl t)).get (fPairFault 7)
  have hgate : (if s.boost.cyc = s.grid.tick then s else s.gatePeriod).get (fPairFault 7) = s.get (fPairFault 7) :=
    (Wr.ite (R := [(0x200, 0)]) (.refl s) (gatePeriod_wr (by decide) (.refl s))).get (fPairFault 7)
  have hplace (t : State) : t.placeBoost.get (fPairFault 7) = t.get (fPairFault 7) := by
    have hbit (b : Bool) : (t.putFlag fBOOST14 b).get (fPairFault 7) = t.get (fPairFault 7) :=
      get_putFlag_addr t (f := fBOOST14) (g := fPairFault 7) b (by decide)
    unfold placeBoost
    dsimp only
    simp only [apply_ite (fun u : State => u.get (fPairFault 7)), placeMove_fault _ 7 (by decide), hbit, ite_self]
  rw [pairFault_get, boostSet, hpass, hplace, hgate, pairFault_get]

/-- Slot 0 goes by the phase, the power, its feedback and its pair (R207, R213). -/
theorem loopReady_zero_congr {t : State} (hstat : t.rd aDEV_PWR_STAT = s.rd aDEV_PWR_STAT) (href : t.rd aADC_REFCTL = s.rd aADC_REFCTL)
    (hpwr : t.pwr = s.pwr) (hlost : t.loops.lost = s.loops.lost) (hpair : t.pairFault 7 = s.pairFault 7) : t.loopReady 0 = s.loopReady 0 := by
  have hphase : t.get fPWR_PHASE = s.get fPWR_PHASE := get_of_rd hstat
  have hstate : t.get fPWR_STATE = s.get fPWR_STATE := get_of_rd hstat
  unfold loopReady
  dsimp only
  rw [if_pos (.inl rfl), if_pos (.inl rfl), hphase, hpwr, inDusk, pstate, hstate, hpwr, loopLost, hlost, href, hpair, inDusk, pstate, loopLost]

theorem loopSwap_lost (s : State) (n : Nat) : (s.loopSwap n).loops.lost = s.loops.lost := by
  cases h : s.flag (fSwap n) with
  | false => rw [loopSwap_idle h]
  | true =>
    have hsame : (((s.actCopied n).actLimited n).swapShown n ((s.actCopied n).badLimits n)).loops = s.loops := by
      have hcopied : Kept [.regs] s (s.actCopied n) :=
        Kept.fold (fun _ _ h => wr_kept (by decide) _ _ h) (putFlag_kept (by decide) _ _ (.refl s))
      have hlimited : Kept [.regs] s ((s.actCopied n).actLimited n) := .ite (put_kept (by decide) _ _ hcopied) hcopied
      exact (putFlag_kept (by decide) _ _ (putFlag_kept (by decide) _ _ hlimited)).loops_eq
    rw [loopSwap_asked h, ← hsame]
    rfl

theorem loopSwap_ready_zero (s : State) : (s.loopSwap 0).loopReady 0 = s.loopReady 0 := by
  refine loopReady_zero_congr (s.loopSwap_rd (by decide)) (s.loopSwap_rd (by decide)) ?_ (s.loopSwap_lost 0) ?_
  · exact (loopSwap_kept (T := [.regs, .loops]) (by decide) 0 (.refl s)).pwr_eq
  · rw [pairFault, s.loopSwap_rd (by decide), pairFault]

theorem boostSet_ready (s : State) : (s.boostSet.loopSwap 0).loopReady 0 = (s.loopSwap 0).loopReady 0 := by
  rw [loopSwap_ready_zero, loopSwap_ready_zero]
  exact loopReady_zero_congr (s.boostSet_wr.eq _ (by decide)) (s.boostSet_wr.eq _ (by decide)) s.boostSet_kept.pwr_eq
    (congrArg Loops.lost s.boostSet_kept.loops_eq) s.boostSet_fault

theorem boostStart_held (s : State) : Kept [.adc] (s.boostSet.loopStart 0) s.boostStart := by
  have hheld : Kept [.adc] (s.boostSet.loopStart 0) s.boostHeld := (Kept.refl _).upd_adc (by decide)
  rw [boostStart_eq]
  exact .ite hheld (adcKick_kept (by decide) _ (setConv_kept (by decide) _ _ hheld))

theorem boostStart_loop (s : State) : s.boostStart.loop 0 = (s.boostSet.loopStart 0).loop 0 := loop_congr s.boostStart_held.loops_eq 0

theorem boostStart_swapped (s : State) : Swapped s s.boostStart 0 := by
  have hrd (a : Nat) : s.boostStart.rd a = (s.boostSet.loopStart 0).rd a := by rw [rd, s.boostStart_held.regs_eq, rd]
  exact (s.boostSet.loopStart_swapped (by decide)).congr (s.boostSet_wr.eq _ (by decide)) (fun k hk => s.boostSet_wr.eq _ (by
    simp [hits, aLOOP_SHD]; omega)) (hrd _) fun k hk => hrd _

theorem boostStart_kept' (s : State) : Kept [.regs, .pins, .chans, .boost, .mtx, .loops, .adc] s s.boostStart :=
  (s.boostSet_kept.mono (by decide)).trans (((s.boostSet.loopStart_kept' 0).mono (by decide)).trans (s.boostStart_held.mono (by decide)))

/-- A period of the slot starts (R214). -/
def loopPeriod (s : State) (n : Nat) : State := if n = 0 then s.boostStart else s.loopStart n

theorem loopPeriod_swapped (s : State) (hn : n < 32) : Swapped s (s.loopPeriod n) n := by
  unfold loopPeriod
  split
  case isTrue h => exact h ▸ s.boostStart_swapped
  case isFalse => exact s.loopStart_swapped hn

theorem loopPeriod_ready (h : (s.loopSwap n).loopReady n = true) : ∃ z : State, (s.loopPeriod n).loop n = z.loopBegun n := by
  unfold loopPeriod
  split
  case isTrue h0 =>
    subst h0
    exact ⟨_, s.boostStart_loop.trans (loopStart_ready (s.boostSet_ready.trans h))⟩
  case isFalse => exact ⟨_, loopStart_ready h⟩

theorem loopPeriod_idle (h : (s.loopSwap n).loopReady n = false) : ∃ z : State, (s.loopPeriod n).loop n = z.loopStood n
    ∧ (z.loopStood n).u = if 4 ≤ n ∧ (s.loopSwap n).loopMode n = 0 ∧ (s.loop n).run = false ∧ (s.loop n).offAt ≠ s.grid.tick then 0 else (s.loop n).u := by
  unfold loopPeriod
  split
  case isTrue h0 =>
    subst h0
    refine ⟨_, s.boostStart_loop.trans (loopStart_idle (s.boostSet_ready.trans h)), ?_⟩
    rw [loopStood_out, if_neg (by omega), if_neg (by omega), loop_congr s.boostSet_kept.loops_eq]
  case isFalse => exact ⟨_, loopStart_idle h, loopStood_out s n⟩

-- Migration

/-- The slot on a spare record, its computation discarded (R224). -/
def loopMoved (s : State) (n : Nat) (fail : Bool) : State :=
  (if fail then { s with loops := { s.loops with spares := s.loops.spares + 1 } } else s).setLoop n
    { s.loop n with reseed := true, moved := true, res := none, hold := (s.loop n).open_ || (s.loop n).hold }

theorem loopMigrate_moved (fail : Bool) (hdue : s.loopDue n = true) (h : fail = false ∨ s.loops.spares < 2) :
    s.loopMigrate n fail = (s.loopMoved n fail).loopEpoch n := by
  unfold loopMigrate loopMoved
  rw [if_neg (by simp [hdue]), if_neg (by obtain h | h := h <;> simp [h])]

theorem loopMoved_loops (s : State) (n : Nat) (fail : Bool) : (s.loopMoved n fail).loop n =
      { s.loop n with reseed := true, moved := true, res := none, hold := (s.loop n).open_ || (s.loop n).hold }
    ∧ (s.loopMoved n fail).loops.spares = s.loops.spares + boolNat fail := by
  refine ⟨(loop_setLoop _ n n _).trans (if_pos rfl), ?_⟩
  cases fail with
  | true => rfl
  | false => rfl

theorem loopMoved_kept (s : State) (n : Nat) (fail : Bool) : Kept [.loops] s (s.loopMoved n fail) :=
  setLoop_kept (by decide) _ _ (.ite ((Kept.refl s).upd_loops (by decide)) (.refl s))

/-- A slot that has no record left (R224). -/
def slotLost (s : State) (n : Nat) : State := { s with loops := { s.loops with lost := tabSet (fun _ => false) s.loops.lost n true } }

theorem loopMigrate_lost (hdue : s.loopDue n = true) (h : 2 ≤ s.loops.spares) : s.loopMigrate n true =
    if n = 0 then ((((s.slotLost n).loopOff n).logEv evLOOP_SLOT_LOST kLOOP n [n]).fltSet 7 evLOOP_SLOT_LOST).dutyHold evLOOP_SLOT_LOST
    else (((s.slotLost n).loopOff n).logEv evLOOP_SLOT_LOST kLOOP n [n]).fltSet 7 evLOOP_SLOT_LOST := by
  unfold loopMigrate slotLost
  rw [if_neg (by simp [hdue]), if_pos ⟨rfl, h⟩]

theorem loopOff_lost (z : State) (n m : Nat) : (z.loopOff n).loopLost m = z.loopLost m := by
  have hloops : (z.loopOff n).loops.lost = z.loops.lost := by
    rw [loopOff_eq]
    split
    · rw [put_loops, putFlag_loops]; rfl
    · rw [putFlag_loops]; rfl
  rw [loopLost, hloops, loopLost]

theorem loopMigrate_lost_effect (hn : n < 32) (hdue : s.loopDue n = true) (h : 2 ≤ s.loops.spares) :
    ((s.loopMigrate n true).loop n).run = false ∧ (s.loopMigrate n true).loopLost n = true
      ∧ Logged s (s.loopMigrate n true) evLOOP_SLOT_LOST (kLOOP * 4096 + n) := by
  have hlost : (s.slotLost n).loopLost n = true := (tabGet_set (fun _ => false) s.loops.lost n n true).trans (if_pos rfl)
  have htold : Kept [.regs, .icu, .nw, .pwr, .boost] (((s.slotLost n).loopOff n).logEv evLOOP_SLOT_LOST kLOOP n [n]) (s.loopMigrate n true) := by
    rw [loopMigrate_lost hdue h]
    exact .ite (dutyHold_kept (by decide) _ (fltSet_kept (by decide) _ _ (.refl _))) (fltSet_kept (by decide) _ _ (.refl _))
  have hloops : (s.loopMigrate n true).loops = ((s.slotLost n).loopOff n).loops :=
    htold.loops_eq.trans (logEv_kept (T := [.regs, .evt]) (by decide) _ _ _ _ (.refl _)).loops_eq
  have hoff : Kept [.regs, .loops] s ((s.slotLost n).loopOff n) := loopOff_kept (by decide) _ ((Kept.refl s).upd_loops (by decide))
  refine ⟨?_, ?_, logged_logEv kLOOP n [n] ?_ (congrArg EvtLog.queue hoff.evt_eq) (congrArg EvtLog.queue htold.evt_eq) (by omega)⟩
  · rw [loop_congr hloops, loopOff_loop]
    rfl
  · rw [loopLost, hloops, ← loopLost, loopOff_lost, hlost]
  · have hwr : Wr (stRegs n) s ((s.slotLost n).loopOff n) := (Wr.refl s).upd.trans (loopOff_stRegs _ n)
    have hlow {a : Nat} (ha : a < 0x18900) : hits (stRegs n) a = false := hits_stRegs (by unfold aLOOP_ST; omega) (by unfold aLOOP_ST; omega)
    exact hwr.logOpen (congrArg EvtLog.started hoff.evt_eq) hoff.pwr_eq ⟨hlow (by decide), hlow (by decide)⟩

end State

theorem exec_loopPeriodStart (n : Fin 32) (s : State) : exec (.loopPeriodStart n) s =
    if !s.loopDue n.val then .next s else if n.val = 0 then .next s.boostStart else .next (s.loopStart n.val) := rfl
theorem exec_loopResultReady (n : Fin 32) (s : State) : exec (.loopResultReady n) s = .next (s.loopResult n.val) := rfl
theorem exec_loopSwapWrite (w : BitVec 32) (s : State) : exec (.loopSwapWrite w) s = .next (s.wr aLOOP_SWAP (s.rd aLOOP_SWAP ||| w).toNat) := rfl
theorem exec_loopSlotMigrate (n : Fin 32) (fail : Bool) (s : State) : exec (.loopSlotMigrate n fail) s = .next (s.loopMigrate n.val fail) := rfl
theorem exec_loopStRead (n : Fin 32) (s : State) : exec (.loopStRead n) s = .next (s.putFlag (State.fLST n.val 3 2 1) false) := rfl

theorem exec_loopPeriodStart_due {n : Fin 32} {s : State} (h : s.loopDue n.val = true) : exec (.loopPeriodStart n) s = .next (s.loopPeriod n.val) := by
  rw [exec_loopPeriodStart, if_neg (by simp [h]), State.loopPeriod]
  split
  · rfl
  · rfl

/-- Settles O23. -/
theorem loopEngine : Obligations.LoopEngine := by
  intro n fail w s z word low swapped
  have hswapped : swapped (s.loopPeriod n.val) := by
    obtain ⟨hclear, hset⟩ := s.loopPeriod_swapped n.isLt
    refine ⟨hclear, fun hasked k hk => ?_, fun hn => ?_, fun hn => ?_⟩
    · obtain ⟨hraised, hplain⟩ := hset hasked k hk
      split
      case isTrue h => exact hraised h.2 h.1
      case isFalse h => exact hplain h
    · rw [State.loopPeriod, if_neg hn]
      exact (s.loopStart_kept' n).only
    · rw [State.loopPeriod, if_pos hn]
      exact s.boostStart_kept'.only
  refine ⟨fun hdue hready => .of_eq (exec_loopPeriodStart_due hdue) ?_, fun hdue hidle => .of_eq (exec_loopPeriodStart_due hdue) ?_,
    fun hno => .of_eq ((exec_loopPeriodStart n s).trans (if_pos (by simp [hno]))) rfl, fun hopen hheld hwait => .of_eq (exec_loopResultReady n s) ?_,
    fun hno => .of_eq (exec_loopResultReady n s) (if_pos ?_), .of_eq (exec_loopSwapWrite w s) ?_,
    fun hdue hspare => .of_eq (exec_loopSlotMigrate n fail s) ?_, fun hno => .of_eq (exec_loopSlotMigrate n fail s) (if_pos (by simp [hno])),
    fun hdue hspent => .of_eq (exec_loopSlotMigrate n true s) ?_, .of_eq (exec_loopStRead n s) ?_⟩
  case refine_1 =>
    obtain ⟨z, hz⟩ := State.loopPeriod_ready hready
    obtain ⟨hrun, hopen, hres, hhold, hwait⟩ := z.loopBegun_parts n.val
    rw [hz]
    exact ⟨hrun, hopen, hres, hhold, hwait.trans (Bool.eq_iff_iff.2 (by rw [beq_iff_eq, beq_iff_eq, Fin.val_eq_zero_iff])), hswapped⟩
  case refine_2 =>
    obtain ⟨z, hz, hout⟩ := State.loopPeriod_idle hidle
    rw [hz]
    exact ⟨rfl, rfl, rfl, hout, hswapped⟩
  case refine_3 =>
    have heq : s.loopResult n.val = s.setLoop n.val { s.loop n.val with res := some (s.loopLaw n.val) } := by
      unfold State.loopResult
      dsimp only
      rw [if_neg (by simp [hopen, hheld, hwait])]
    rw [heq]
    exact ⟨(State.loop_setLoop s n.val n.val _).trans (if_pos rfl), fun m hm => (State.loop_setLoop s n.val m _).trans (if_neg hm),
      (State.setLoop_kept (by decide) _ _ (.refl s)).only⟩
  case refine_4 =>
    obtain h | h | h := hno <;> simp [h]
  case refine_5 =>
    refine ⟨?_, (State.wr_kept (by decide) _ _ (.refl s)).only, (State.wr_wr (by decide) (.refl s)).onlyRegs⟩
    rw [State.rd_wr_same, BitVec.ofNat_toNat, BitVec.setWidth_eq]
  case refine_6 =>
    obtain ⟨hloop, hspares⟩ := s.loopMoved_loops n.val fail
    have hepoch := State.loopEpoch_kept (T := [.regs]) (by decide) n.val (.refl (s.loopMoved n.val fail))
    rw [State.loopMigrate_moved fail hdue hspare, State.loop_congr hepoch.loops_eq, hepoch.loops_eq]
    exact ⟨hloop, hspares, (State.loopEpoch_kept (by decide) _ ((s.loopMoved_kept n fail).mono (by decide))).only⟩
  case refine_7 =>
    obtain ⟨hrun, hlost, hlogged⟩ := State.loopMigrate_lost_effect n.isLt hdue hspent
    exact ⟨hrun, hlost, hlogged, (State.loopMigrate_kept (by decide) _ _ (.refl s)).only⟩
  case refine_8 =>
    exact ⟨State.flag_putFlag s (State.fLST n.val 3 2 1) false (by simp [State.fLST]) (by simp [State.fLST]), (State.putFlag_kept (by decide) _ _ (.refl s)).only,
      (State.putFlag_wr (f := State.fLST n.val 3 2 1) (hit_one (List.mem_singleton_self _)) (.refl s)).onlyRegs⟩

end Sys2Proof.Machine
end

section
/-! TRIGGERS OF THE CONVERTERS' SEQUENCERS (R200-R204, R208). -/

namespace Sys2Proof.Machine

/-- From `s` to `t` the converters' settings and services, and the tick, are as they were, and Dusk has not begun. -/
structure AdcView (s t : State) : Prop where
  grid : t.grid = s.grid
  awake : s.inDusk = false → t.inDusk = false
  stat : t.rd aDEV_ADC_STAT = s.rd aDEV_ADC_STAT
  cfg : ∀ k < 16, ∀ w < 2, t.rd (aADC_SEQCFG k w) = s.rd (aADC_SEQCFG k w)
  serves : ∀ j, (t.conv j).bist = (s.conv j).bist ∧ (t.conv j).reload = (s.conv j).reload

/-- From `s` to `t` at most converter `k` did anything of its own. -/
structure OnConv (k : Nat) (s t : State) : Prop where
  view : AdcView s t
  others : ∀ j, j ≠ k → t.conv j = s.conv j
  edge : t.adc.edge = s.adc.edge

/-- What a trigger goes by and changes of a sequencer: its pass, its pending trigger, its overrun and the tick of its last trigger. -/
def Seqr.core (q : Seqr) : Bool × Bool × Nat × Bool × Option Nat := (q.run, q.pend, q.pass, q.ovr, q.at_)

/-- The work of a converter moved on without a trigger. -/
structure ConvSame (x y : Conv) : Prop where
  bist : y.bist = x.bist
  reload : y.reload = x.reload
  reg : y.reg.core = x.reg.core
  inj : y.inj.core = x.inj.core

/-- The sequencer `r` is `q` after a trigger on the tick (R202, R203). -/
def Taken (tick reload : Nat) (q r : Seqr) : Prop :=
  r.at_ = some tick ∧ (q.at_ = some tick → r.run = q.run ∧ r.pend = q.pend ∧ r.pass = q.pass ∧ r.ovr = q.ovr)
    ∧ (q.at_ ≠ some tick → (q.pend = true → r.ovr = true ∧ r.run = q.run ∧ r.pend = true)
      ∧ (q.pend = false → q.run = true ∨ reload = 2 → r.pend = true ∧ r.run = q.run)
      ∧ (q.pend = false → q.run = false → reload ≠ 2 → r.run = true ∧ r.pend = false ∧ r.pass = q.pass + 1))

theorem Taken.congr {tick reload : Nat} {q r q' r' : Seqr} (h : Taken tick reload q r) (hq : q.core = q'.core) (hr : r'.core = r.core) :
    Taken tick reload q' r' := by
  simp only [Seqr.core, Prod.mk.injEq] at hq hr
  obtain ⟨hrun, hpend, hpass, hovr, hat⟩ := hq
  obtain ⟨hrun', hpend', hpass', hovr', hat'⟩ := hr
  unfold Taken
  rw [hrun', hpend', hpass', hovr', hat', ← hrun, ← hpend, ← hpass, ← hovr, ← hat]
  exact h

namespace ConvSame

theorem refl (x : Conv) : ConvSame x x := ⟨rfl, rfl, rfl, rfl⟩

theorem trans {x y z : Conv} (h : ConvSame x y) (k : ConvSame y z) : ConvSame x z :=
  ⟨k.bist.trans h.bist, k.reload.trans h.reload, k.reg.trans h.reg, k.inj.trans h.inj⟩

end ConvSame

namespace AdcView

variable {s t u : State}

theorem refl (s : State) : AdcView s s := ⟨rfl, id, rfl, fun _ _ _ _ => rfl, fun _ => ⟨rfl, rfl⟩⟩

theorem trans (h : AdcView s t) (k : AdcView t u) : AdcView s u :=
  ⟨k.grid.trans h.grid, fun hd => k.awake (h.awake hd), k.stat.trans h.stat, fun j hj w hw => (k.cfg j hj w hw).trans (h.cfg j hj w hw),
    fun j => ⟨(k.serves j).1.trans (h.serves j).1, (k.serves j).2.trans (h.serves j).2⟩⟩

theorem convOut (h : AdcView s t) (k : Nat) : t.convOut k = s.convOut k := by
  rw [State.convOut, State.flag_of_rd (f := State.fADC_FAULT k) h.stat, (h.serves k).1, State.convOut]

theorem regTrigOf (h : AdcView s t) {k : Nat} (hk : k < 16) : t.regTrigOf k = s.regTrigOf k := by
  rw [State.regTrigOf, h.cfg k hk 0 (by decide), State.regTrigOf]

theorem injTrigOf (h : AdcView s t) {k : Nat} (hk : k < 16) : t.injTrigOf k = s.injTrigOf k := by
  rw [State.injTrigOf, h.cfg k hk 1 (by decide), State.injTrigOf]

end AdcView

namespace OnConv

variable {k : Nat} {s t u : State}

theorem refl (k : Nat) (s : State) : OnConv k s s := ⟨.refl s, fun _ _ => rfl, rfl⟩

theorem trans (h : OnConv k s t) (g : OnConv k t u) : OnConv k s u := ⟨h.view.trans g.view, fun j hj => (g.others j hj).trans (h.others j hj),
    g.edge.trans h.edge⟩

end OnConv

namespace State

variable {s : State} {k : Nat}

-- A rising source does not begin Dusk

theorem inDusk_congr {t : State} (hstate : t.pstate = s.pstate) (hpwr : t.pwr.resumed = s.pwr.resumed) : t.inDusk = s.inDusk := by
  rw [inDusk, hstate, hpwr, inDusk]

theorem pstate_of_awake (h : s.inDusk = false) : s.pstate ≠ 3 := by
  intro h3
  rw [inDusk, h3] at h
  exact absurd h (by simp)

theorem inDusk_of_kept {T : List Comp} {t : State} (h : Kept T s t) (hT : Comp.regs ∉ T ∧ Comp.pwr ∉ T := by decide) : t.inDusk = s.inDusk := by
  have hrd : t.rd fPWR_STATE.addr = s.rd fPWR_STATE.addr := by rw [rd, h.regs_eq hT.1, rd]
  exact inDusk_congr (get_of_rd hrd) (by rw [h.pwr_eq hT.2])

theorem get_pwr (t : State) (p : Power) (f : Fld) : ({ t with pwr := p } : State).get f = t.get f := rfl

theorem duskAbandon_awake (h : s.inDusk = false) : s.duskAbandon.inDusk = false := by
  unfold duskAbandon
  split
  · refine (inDusk_congr (s := s) ?_ (by rw [putFlag_pwr, putFlag_pwr])).trans h
    exact (get_putFlag_apart _ (f := fPWR_ABORTED) (g := fPWR_STATE) true (by decide) rfl (by decide)).trans
      (get_putFlag_apart s (f := fPWR_DUSK_PEND) (g := fPWR_STATE) false (by decide) rfl (by decide))
  split
  · have hput : ((s.putFlag fPWR_ABORTED true).put fPWR_STATE (if s.pwr.latched then 4 else 1)).get fPWR_STATE = if s.pwr.latched then 4 else 1 :=
      get_put_fits _ fPWR_STATE (by split <;> decide)
    dsimp only
    rw [inDusk, pstate, get_pwr, hput]
    dsimp only
    split
    · rfl
    · rfl
  · exact h

theorem nwWake_awake (n : Nat) (h : s.inDusk = false) : (s.nwWake n).inDusk = false := by
  unfold nwWake
  split
  · exact h
  rw [if_neg (pstate_of_awake h)]
  split
  · exact (inDusk_congr (get_of_rd (f := fPWR_STATE) (rd_put_other s (f := fNWSTAT_SRC) n (by decide))) (by rw [put_pwr])).trans h
  · exact duskAbandon_awake h

theorem raise_awake (n : Nat) (h : s.inDusk = false) : (s.raise n).inDusk = false := by
  unfold raise
  split
  · exact h
  split
  · exact h
  · rw [inDusk_of_kept (refreshIcu_kept (T := [.icu]) (by decide) (.refl _))]
    exact nwWake_awake n ((inDusk_of_kept (pendSet_kept (T := [.icu]) (by decide) _ _ (.refl s))).trans h)

-- Converters

theorem conv_setConv (s : State) (k j : Nat) (x : Conv) : (s.setConv k x).conv j = if j = k then x else s.conv j :=
  tabGet_set (fun _ => defConv) s.adc.convs k j x

theorem conv_congr {t : State} (h : t.adc = s.adc) (k : Nat) : t.conv k = s.conv k := by rw [conv, h, conv]

/-- A converter's work moves on without a trigger. -/
theorem setConv_onConv {x : Conv} (hbist : x.bist = (s.conv k).bist) (hreload : x.reload = (s.conv k).reload) : OnConv k s (s.setConv k x) := by
  have hkept : Kept [.adc] s (s.setConv k x) := setConv_kept (by decide) _ _ (.refl s)
  refine ⟨⟨hkept.grid_eq, fun h => (inDusk_of_kept hkept).trans h, rfl, fun _ _ _ _ => rfl, fun j => ?_⟩, fun j hj => (conv_setConv s k j x).trans (if_neg hj), rfl⟩
  rw [conv_setConv]
  split
  case isTrue h => exact h ▸ ⟨hbist, hreload⟩
  case isFalse => exact ⟨rfl, rfl⟩

theorem unstarted_same (x : Conv) (it : AdcItem) : ConvSame x (unstarted x it) := by
  unfold unstarted
  split
  · exact ⟨rfl, rfl, rfl, rfl⟩
  · exact ⟨rfl, rfl, rfl, rfl⟩
  · exact ⟨rfl, rfl, rfl, rfl⟩
  · exact ⟨rfl, rfl, rfl, rfl⟩
  · exact ⟨rfl, rfl, rfl, rfl⟩

theorem nextItem_same {it : AdcItem} {y : Conv} (h : s.nextItem k = some (it, y)) : ConvSame (s.conv k) y := by
  unfold nextItem at h
  dsimp only at h
  split at h
  · cases h
    exact ⟨rfl, rfl, rfl, rfl⟩
  split at h
  · cases h
  split at h
  · cases h
    exact ⟨rfl, rfl, rfl, rfl⟩
  split at h
  · cases h
  split at h
  · cases h
    exact .refl _
  split at h
  · split at h
    · cases h
    · cases h
      exact ⟨rfl, rfl, rfl, rfl⟩
  split at h
  · cases h
    exact ⟨rfl, rfl, rfl, rfl⟩
  · cases h

/-- A converter's work that moved on. -/
structure Moved (k : Nat) (s t : State) : Prop where
  on : OnConv k s t
  same : ConvSame (s.conv k) (t.conv k)
  kept : Kept [.adc] s t

theorem Moved.refl (k : Nat) (s : State) : Moved k s s := ⟨.refl k s, .refl _, .refl s⟩

theorem Moved.trans {t u : State} (h : Moved k s t) (g : Moved k t u) : Moved k s u := ⟨h.on.trans g.on, h.same.trans g.same, h.kept.trans g.kept⟩

theorem setConv_moved {x : Conv} (h : ConvSame (s.conv k) x) : Moved k s (s.setConv k x) :=
  ⟨setConv_onConv h.bist h.reload, by rw [conv_setConv, if_pos rfl]; exact h, setConv_kept (by decide) _ _ (.refl s)⟩

/-- The converter with the conversion that began on this tick put back (R203). -/
def unkicked (s : State) (k : Nat) : State :=
  match (s.conv k).cur with
  | some it => if it.start = s.grid.tick then s.setConv k (unstarted (s.conv k) it) else s
  | none => s

theorem unkicked_moved (s : State) (k : Nat) : Moved k s (s.unkicked k) := by
  unfold unkicked
  split
  · split
    · exact setConv_moved (unstarted_same _ _)
    · exact .refl k s
  · exact .refl k s

theorem adcKick_eq (s : State) (k : Nat) : s.adcKick k = if ((s.unkicked k).conv k).cur.isSome then s
    else match (s.unkicked k).nextItem k with
      | some (it, y) => (s.unkicked k).setConv k { y with cur := some it }
      | none => s.unkicked k := rfl

theorem adcKick_moved (s : State) (k : Nat) : Moved k s (s.adcKick k) := by
  have hunkicked := s.unkicked_moved k
  rw [adcKick_eq]
  split
  · exact .refl k s
  split
  case h_1 it y h =>
    obtain ⟨hbist, hreload, hreg, hinj⟩ := nextItem_same h
    exact hunkicked.trans (setConv_moved ⟨hbist, hreload, hreg, hinj⟩)
  case h_2 => exact hunkicked

-- Triggers

/-- The sequencer of a converter that a trigger is for. -/
def seqr (x : Conv) (inj : Bool) : Seqr := if inj then x.inj else x.reg

theorem seqr_true (x : Conv) : seqr x true = x.inj := rfl

theorem seqr_false (x : Conv) : seqr x false = x.reg := rfl

/-- The registers that a trigger of a converter can write. -/
def trigRegs (k : Nat) : List (Nat × Nat) :=
  [(0x270, 0), (0x2A8, 0), (0x5014, 0), (0x1B070, 0), (aADC_OVR_REG k, 0), (aADC_OVR_INJ k, 0), (aADC_INJTS k, 0)]

theorem onConv_of_wr {t : State} {x : Conv} (hk : k < 16) (hwr : Wr (trigRegs k) s t) (hgrid : t.grid = s.grid) (hawake : s.inDusk = false → t.inDusk = false)
    (hadc : ∀ j, t.conv j = if j = k then x else s.conv j) (hbist : x.bist = (s.conv k).bist) (hreload : x.reload = (s.conv k).reload)
    (hedge : t.adc.edge = s.adc.edge) : OnConv k s t := by
  have hrd {a : Nat} (h : a = aDEV_ADC_STAT ∨ (0x17100 ≤ a ∧ a < 0x17200)) : t.rd a = s.rd a := hwr.eq a (by
    simp only [hits, trigRegs, List.any_cons, List.any_nil, if_true, Bool.or_false, Bool.or_eq_false_iff, beq_eq_false_iff_ne, aADC_OVR_REG, aADC_OVR_INJ,
      aADC_INJTS]
    unfold aDEV_ADC_STAT at h
    omega)
  refine ⟨⟨hgrid, hawake, hrd (.inl rfl), fun j hj w hw => hrd (.inr (by unfold aADC_SEQCFG; omega)), fun j => ?_⟩, fun j hj => (hadc j).trans (if_neg hj), hedge⟩
  rw [hadc]
  split
  case isTrue h => exact h ▸ ⟨hbist, hreload⟩
  case isFalse => exact ⟨rfl, rfl⟩

/-- What a trigger for one of a converter's sequencers leaves (R202, R203). -/
structure Trig (k : Nat) (inj : Bool) (s t : State) : Prop where
  on : OnConv k s t
  other : (seqr (t.conv k) (!inj)).core = (seqr (s.conv k) (!inj)).core
  taken : s.convOut k = false → s.inDusk = false → Taken s.grid.tick (s.conv k).reload (seqr (s.conv k) inj) (seqr (t.conv k) inj)

/-- The converter with one of its sequencers replaced. -/
def withSeqr (x : Conv) (inj : Bool) (q : Seqr) : Conv := if inj then { x with inj := q } else { x with reg := q }

theorem withSeqr_parts (x : Conv) (inj : Bool) (q : Seqr) : seqr (withSeqr x inj q) inj = q ∧ seqr (withSeqr x inj q) (!inj) = seqr x (!inj)
    ∧ (withSeqr x inj q).bist = x.bist ∧ (withSeqr x inj q).reload = x.reload := by
  cases inj with
  | true => exact ⟨rfl, rfl, rfl, rfl⟩
  | false => exact ⟨rfl, rfl, rfl, rfl⟩

/-- The sequencer with its trigger's tick noted. -/
def stamped (s : State) (q : Seqr) : Seqr := { q with at_ := some s.grid.tick }

/-- An overrun is counted, and the first of a pass told (R202). -/
def overrunTold (s : State) (k : Nat) (inj : Bool) : State :=
  if !(seqr (s.conv k) inj).ovr && !(seqr (s.conv k) inj).overPrev then
    ((s.bump (if inj then aADC_OVR_INJ k else aADC_OVR_REG k)).logEv evADC_OVERRUN kCONV k [k, boolNat inj]).raise srcADC_OVERRUN
  else s.bump (if inj then aADC_OVR_INJ k else aADC_OVR_REG k)

theorem overrun_eq (s : State) (k : Nat) (inj : Bool) :
    s.overrun k inj = (s.overrunTold k inj).setConv k (withSeqr (s.conv k) inj { seqr (s.conv k) inj with ovr := true }) := by
  unfold overrun overrunTold withSeqr seqr
  dsimp only

theorem overrunTold_kept (s : State) (k : Nat) (inj : Bool) : Kept [.regs, .icu, .evt, .nw, .pwr] s (s.overrunTold k inj) :=
  have hbump := bump_kept (T := [.regs, .icu, .evt, .nw, .pwr]) (by decide) (if inj then aADC_OVR_INJ k else aADC_OVR_REG k) (.refl s)
  .ite (raise_kept (by decide) _ (logEv_kept (by decide) _ _ _ _ hbump)) hbump

theorem overrunTold_wr (s : State) (k : Nat) (inj : Bool) : Wr (trigRegs k) s (s.overrunTold k inj) := by
  have hbump : Wr (trigRegs k) s (s.bump (if inj then aADC_OVR_INJ k else aADC_OVR_REG k)) := by
    cases inj with
    | true => exact bump_wr (a := aADC_OVR_INJ k) (hit_one (by simp [trigRegs])) (.refl s)
    | false => exact bump_wr (a := aADC_OVR_REG k) (hit_one (by simp [trigRegs])) (.refl s)
  exact .ite (raise_wr (by simp [trigRegs]) _ (logEv_wr (by simp [trigRegs]) _ _ _ _ hbump)) hbump

theorem overrunTold_awake (k : Nat) (inj : Bool) (h : s.inDusk = false) : (s.overrunTold k inj).inDusk = false := by
  have hbump : (s.bump (if inj then aADC_OVR_INJ k else aADC_OVR_REG k)).inDusk = false := by
    have hne : aDEV_PWR_STAT ≠ if inj then aADC_OVR_INJ k else aADC_OVR_REG k := by
      unfold aDEV_PWR_STAT aADC_OVR_INJ aADC_OVR_REG
      split <;> omega
    exact (inDusk_congr (get_of_rd (f := fPWR_STATE) (rd_wr_other _ _ hne)) rfl).trans h
  unfold overrunTold
  split
  · exact raise_awake _ (((logEv_regs _ _ _ _ _).inDusk (logEv_kept (T := [.regs, .evt]) (by decide) _ _ _ _ (.refl _)).pwr_eq).trans hbump)
  · exact hbump

theorem overrun_trig (s : State) (inj : Bool) (hk : k < 16) : OnConv k s (s.overrun k inj)
    ∧ (s.overrun k inj).conv k = withSeqr (s.conv k) inj { seqr (s.conv k) inj with ovr := true } := by
  obtain ⟨-, -, hbist, hreload⟩ := withSeqr_parts (s.conv k) inj { seqr (s.conv k) inj with ovr := true }
  have hkept := s.overrunTold_kept k inj
  have hconv (j : Nat) : (s.overrun k inj).conv j = if j = k then withSeqr (s.conv k) inj { seqr (s.conv k) inj with ovr := true } else s.conv j := by
    rw [overrun_eq, conv_setConv, conv_congr hkept.adc_eq]
  have hset (x : Conv) : Kept [.adc] (s.overrunTold k inj) ((s.overrunTold k inj).setConv k x) := setConv_kept (by decide) _ _ (.refl _)
  refine ⟨onConv_of_wr hk ?_ ?_ (fun h => ?_) hconv hbist hreload ?_, (hconv k).trans (if_pos rfl)⟩
  · rw [overrun_eq]
    exact setConv_wr (List.nil_subset _) _ _ (s.overrunTold_wr k inj)
  · rw [overrun_eq, (hset _).grid_eq, hkept.grid_eq]
  · rw [overrun_eq, inDusk_of_kept (hset _)]
    exact overrunTold_awake k inj h
  · rw [overrun_eq, ← hkept.adc_eq]
    rfl

/-- The first of an injected pass: its slots and the tick on which they are held (R200). -/
def injBegun (s : State) (k : Nat) : Conv :=
  let x := s.conv k
  let n := bitsOf (s.rd (aADC_SEQCFG k 1)).toNat 8 2 + 1
  { x with inj := ⟨true, (List.range n).map fun i => (i, (s.slotEntry (aADC_INJSLOT k 0) i).1, false), false, x.inj.pass + 1, false, false, x.inj.ovr, x.inj.at_,
      s.grid.tick + 1⟩ }

def regBegun (s : State) (k : Nat) : Conv :=
  let x := s.conv k
  let n := bitsOf (s.rd (aADC_SEQCFG k 0)).toNat 8 5 + 1
  { x with reg := ⟨true, (List.range n).map fun i => (i, s.slotEntry (aADC_SLOT k 0) i), false, x.reg.pass + 1, false, false, x.reg.ovr, x.reg.at_, s.grid.tick⟩ }

theorem regStart_eq (s : State) (k : Nat) : s.regStart k = (s.setConv k (s.regBegun k)).adcKick k := rfl

theorem injStart_eq (s : State) (k : Nat) :
    s.injStart k false = ((s.setConv k (s.injBegun k)).wr (aADC_INJTS k) ((s.setConv k (s.injBegun k)).tick32 + 1)).adcKick k := by
  unfold injStart injBegun
  dsimp only
  simp only [Bool.false_eq_true, if_false]

/-- A pass that begins from an idle sequencer (R200). -/
def begun (s : State) (k : Nat) (inj : Bool) : State := if inj then s.injStart k false else s.regStart k

theorem begun_trig (s : State) (inj : Bool) (hk : k < 16) : OnConv k s (s.begun k inj)
    ∧ ConvSame (if inj then s.injBegun k else s.regBegun k) ((s.begun k inj).conv k) := by
  unfold begun
  cases inj with
  | true =>
    have hkick := ((s.setConv k (s.injBegun k)).wr (aADC_INJTS k) ((s.setConv k (s.injBegun k)).tick32 + 1)).adcKick_moved k
    have hconv (j : Nat) : ((s.setConv k (s.injBegun k)).wr (aADC_INJTS k) ((s.setConv k (s.injBegun k)).tick32 + 1)).conv j
        = if j = k then s.injBegun k else s.conv j := by rw [conv_congr (wr_adc _ _ _), conv_setConv]
    have hset : OnConv k s ((s.setConv k (s.injBegun k)).wr (aADC_INJTS k) ((s.setConv k (s.injBegun k)).tick32 + 1)) := by
      refine onConv_of_wr hk ?_ rfl (fun h => ?_) hconv rfl rfl rfl
      · exact wr_wr (hit_one (by simp [trigRegs])) (setConv_wr (List.nil_subset _) _ _ (.refl s))
      · have hne : fPWR_STATE.addr ≠ aADC_INJTS k := by
          show (0x270 : Nat) ≠ 0x17F80 + 4 * k
          omega
        exact (inDusk_congr (get_of_rd (f := fPWR_STATE) (rd_wr_other _ _ hne)) rfl).trans h
    have hsame := hkick.same
    rw [hconv, if_pos rfl] at hsame
    rw [if_pos rfl, if_pos rfl, injStart_eq]
    exact ⟨hset.trans hkick.on, hsame⟩
  | false =>
    have hkick := (s.setConv k (s.regBegun k)).adcKick_moved k
    have hsame := hkick.same
    rw [conv_setConv, if_pos rfl] at hsame
    rw [if_neg Bool.false_ne_true, if_neg Bool.false_ne_true, regStart_eq]
    exact ⟨(setConv_onConv (x := s.regBegun k) rfl rfl).trans hkick.on, hsame⟩

theorem trigger_eq (s : State) (k : Nat) (inj : Bool) : s.trigger k inj =
    if s.convOut k || s.inDusk || (seqr (s.conv k) inj).at_ == some s.grid.tick then s
    else if (seqr (s.conv k) inj).pend then (s.setConv k (withSeqr (s.conv k) inj (s.stamped (seqr (s.conv k) inj)))).overrun k inj
    else if (seqr (s.conv k) inj).run || (s.conv k).reload == 2 then
      s.setConv k (withSeqr (s.conv k) inj { s.stamped (seqr (s.conv k) inj) with pend := true })
    else (s.setConv k (withSeqr (s.conv k) inj (s.stamped (seqr (s.conv k) inj)))).begun k inj := rfl

/-- The converter with the trigger's tick noted in one of its sequencers. -/
def noted (s : State) (k : Nat) (inj : Bool) : State := s.setConv k (withSeqr (s.conv k) inj (s.stamped (seqr (s.conv k) inj)))

theorem noted_conv (s : State) (k : Nat) (inj : Bool) : (s.noted k inj).conv k = withSeqr (s.conv k) inj (s.stamped (seqr (s.conv k) inj)) :=
  (conv_setConv s k k _).trans (if_pos rfl)

theorem withSeqr_onConv (s : State) (k : Nat) (inj : Bool) (q : Seqr) : OnConv k s (s.setConv k (withSeqr (s.conv k) inj q)) :=
  setConv_onConv (withSeqr_parts (s.conv k) inj q).2.2.1 (withSeqr_parts (s.conv k) inj q).2.2.2

theorem trigger_overrun {inj : Bool} (hk : k < 16) (hat : (seqr (s.conv k) inj).at_ ≠ some s.grid.tick) (hpend : (seqr (s.conv k) inj).pend = true) :
    Trig k inj s ((s.noted k inj).overrun k inj) := by
  obtain ⟨hown, hother, -, -⟩ := withSeqr_parts (s.conv k) inj (s.stamped (seqr (s.conv k) inj))
  obtain ⟨hon, hconv⟩ := (s.noted k inj).overrun_trig inj hk
  rw [noted_conv, hown] at hconv
  obtain ⟨hq, hq', -, -⟩ := withSeqr_parts (withSeqr (s.conv k) inj (s.stamped (seqr (s.conv k) inj))) inj { s.stamped (seqr (s.conv k) inj) with ovr := true }
  refine ⟨(s.withSeqr_onConv k inj _).trans hon, by rw [hconv, hq', hother], fun _ _ => ?_⟩
  rw [hconv, hq]
  exact ⟨rfl, fun h => absurd h hat, fun _ => ⟨fun _ => ⟨rfl, rfl, hpend⟩, fun h => absurd (hpend.symm.trans h) (by decide),
    fun h => absurd (hpend.symm.trans h) (by decide)⟩⟩

theorem trigger_latched {inj : Bool} (hat : (seqr (s.conv k) inj).at_ ≠ some s.grid.tick) (hpend : (seqr (s.conv k) inj).pend = false)
    (hbusy : (seqr (s.conv k) inj).run = true ∨ (s.conv k).reload = 2) :
    Trig k inj s (s.setConv k (withSeqr (s.conv k) inj { s.stamped (seqr (s.conv k) inj) with pend := true })) := by
  obtain ⟨hown, hother, -, -⟩ := withSeqr_parts (s.conv k) inj { s.stamped (seqr (s.conv k) inj) with pend := true }
  have hconv : (s.setConv k (withSeqr (s.conv k) inj { s.stamped (seqr (s.conv k) inj) with pend := true })).conv k = _ :=
    (conv_setConv s k k _).trans (if_pos rfl)
  refine ⟨s.withSeqr_onConv k inj _, by rw [hconv, hother], fun _ _ => ?_⟩
  rw [hconv, hown]
  refine ⟨rfl, fun h => absurd h hat, fun _ => ⟨fun h => absurd (hpend.symm.trans h) (by decide), fun _ _ => ⟨rfl, rfl⟩, fun _ hrun hreload => ?_⟩⟩
  obtain h | h := hbusy
  · exact absurd (hrun.symm.trans h) (by decide)
  · exact absurd h hreload

theorem begun_core {t : State} (inj : Bool) (h : ConvSame (if inj then s.injBegun k else s.regBegun k) (t.conv k)) :
    (seqr (t.conv k) inj).core = (true, false, (seqr (s.conv k) inj).pass + 1, false, (seqr (s.conv k) inj).at_)
      ∧ (seqr (t.conv k) (!inj)).core = (seqr (s.conv k) (!inj)).core := by
  cases inj with
  | true =>
    rw [if_pos rfl] at h
    rw [seqr_true, seqr_true, Bool.not_true, seqr_false, seqr_false, h.inj, h.reg]
    exact ⟨rfl, rfl⟩
  | false =>
    rw [if_neg Bool.false_ne_true] at h
    rw [seqr_false, seqr_false, Bool.not_false, seqr_true, seqr_true, h.inj, h.reg]
    exact ⟨rfl, rfl⟩

theorem trigger_begun {inj : Bool} (hk : k < 16) (hat : (seqr (s.conv k) inj).at_ ≠ some s.grid.tick) (hpend : (seqr (s.conv k) inj).pend = false)
    (hrun : (seqr (s.conv k) inj).run = false) (hreload : (s.conv k).reload ≠ 2) : Trig k inj s ((s.noted k inj).begun k inj) := by
  obtain ⟨hown, hother, -, -⟩ := withSeqr_parts (s.conv k) inj (s.stamped (seqr (s.conv k) inj))
  obtain ⟨hon, hsame⟩ := (s.noted k inj).begun_trig inj hk
  obtain ⟨hcore, hcore'⟩ := begun_core inj hsame
  rw [noted_conv, hown] at hcore
  rw [noted_conv, hother] at hcore'
  simp only [Seqr.core, Prod.mk.injEq] at hcore
  obtain ⟨hrun', hpend', hpass', -, hat'⟩ := hcore
  exact ⟨(s.withSeqr_onConv k inj _).trans hon, hcore', fun _ _ => ⟨hat', fun h => absurd h hat, fun _ => ⟨fun h => absurd (hpend.symm.trans h) (by decide),
    fun _ h => (h.elim (fun h => absurd (hrun.symm.trans h) (by decide)) fun h => absurd h hreload), fun _ _ _ => ⟨hrun', hpend', hpass'⟩⟩⟩⟩

/-- A trigger of a sequencer does what R202 and R203 say. -/
theorem trigger_trig (s : State) (inj : Bool) (hk : k < 16) : Trig k inj s (s.trigger k inj) := by
  rw [trigger_eq]
  split
  case isTrue hno =>
    refine ⟨.refl k s, rfl, fun hserves hawake => ?_⟩
    rw [hserves, hawake, Bool.false_or, Bool.false_or, beq_iff_eq] at hno
    exact ⟨hno, fun _ => ⟨rfl, rfl, rfl, rfl⟩, fun hat => absurd hno hat⟩
  case isFalse hgo =>
    have hat : (seqr (s.conv k) inj).at_ ≠ some s.grid.tick := fun h => hgo (by simp [h])
    split
    case isTrue hpend => exact trigger_overrun hk hat hpend
    case isFalse hpend =>
      have hfree := Bool.eq_false_iff.2 hpend
      split
      case isTrue hbusy => exact trigger_latched hat hfree (by simpa using hbusy)
      case isFalse hidle =>
        simp only [Bool.or_eq_true, beq_iff_eq, not_or, Bool.not_eq_true] at hidle
        exact trigger_begun hk hat hfree hidle.1 hidle.2

-- Triggers of one cause

/-- A sequencer's trigger if its cause is the one that came. -/
def triggerIf (s : State) (k : Nat) (inj : Bool) (p : Bool) : State := if p then s.trigger k inj else s

theorem triggerIf_trig (s : State) (inj p : Bool) (hk : k < 16) : OnConv k s (s.triggerIf k inj p)
    ∧ (seqr ((s.triggerIf k inj p).conv k) (!inj)).core = (seqr (s.conv k) (!inj)).core
    ∧ (p = true → s.convOut k = false → s.inDusk = false →
      Taken s.grid.tick (s.conv k).reload (seqr (s.conv k) inj) (seqr ((s.triggerIf k inj p).conv k) inj)) := by
  obtain ⟨hon, hother, htaken⟩ := s.trigger_trig inj hk
  unfold triggerIf
  cases p with
  | true => exact ⟨hon, hother, fun _ => htaken⟩
  | false => exact ⟨.refl k s, rfl, fun h => absurd h (by decide)⟩

theorem triggerBy_eq (s : State) (k : Nat) (codes : List Nat) : s.triggerBy k codes =
    (s.triggerIf k true (codes.contains (s.injTrigOf k))).triggerIf k false
      (codes.contains ((s.triggerIf k true (codes.contains (s.injTrigOf k))).regTrigOf k)) := rfl

/-- The triggers of one cause, as seen from a state with the same settings (R202, R203). -/
structure Triggered (k : Nat) (codes : List Nat) (s t : State) : Prop where
  inj : s.convOut k = false → s.inDusk = false → s.injTrigOf k ∈ codes → Taken s.grid.tick (s.conv k).reload (s.conv k).inj (t.conv k).inj
  reg : s.convOut k = false → s.inDusk = false → s.regTrigOf k ∈ codes → Taken s.grid.tick (s.conv k).reload (s.conv k).reg (t.conv k).reg

theorem triggerBy_triggered (s : State) (codes : List Nat) (hk : k < 16) : OnConv k s (s.triggerBy k codes) ∧ Triggered k codes s (s.triggerBy k codes) := by
  rw [triggerBy_eq]
  obtain ⟨hon, hreg, hinj⟩ := s.triggerIf_trig true (codes.contains (s.injTrigOf k)) hk
  generalize s.triggerIf k true (codes.contains (s.injTrigOf k)) = t at hon hreg hinj ⊢
  obtain ⟨hon', hinj', hreg'⟩ := t.triggerIf_trig false (codes.contains (t.regTrigOf k)) hk
  refine ⟨hon.trans hon', fun hserves hawake hcode => ?_, fun hserves hawake hcode => ?_⟩
  · exact (hinj (by simp [hcode]) hserves hawake).congr rfl hinj'
  · rw [hon.view.regTrigOf hk] at hreg' hon' hinj' ⊢
    have htaken := hreg' (by simp [hcode]) ((hon.view.convOut k).trans hserves) (hon.view.awake hawake)
    rw [hon.view.grid, (hon.view.serves k).2] at htaken
    exact htaken.congr hreg rfl

end State

namespace AdcView

variable {s t : State} {k : Nat}

/-- What a trigger does is judged by the settings alone. -/
theorem triggered (h : AdcView s t) (hk : k < 16) (hconv : t.conv k = s.conv k) {codes : List Nat} {u v : State} (htrig : State.Triggered k codes t u)
    (hv : v.conv k = u.conv k) : State.Triggered k codes s v := by
  obtain ⟨hinj, hreg⟩ := htrig
  rw [h.convOut, h.injTrigOf hk, h.grid, hconv] at hinj
  rw [h.convOut, h.regTrigOf hk, h.grid, hconv] at hreg
  rw [← hv] at hinj hreg
  exact ⟨fun hserves hawake => hinj hserves (h.awake hawake), fun hserves hawake => hreg hserves (h.awake hawake)⟩

end AdcView

namespace State

variable {s : State} {k : Nat}

/-- Converters worked through one by one, each on its own. -/
theorem onConv_fold (f : State → Nat → State) (hf : ∀ s j, j < 16 → OnConv j s (f s j)) {l : List Nat} (hl : l.Nodup) (hlt : ∀ j ∈ l, j < 16) (s : State) :
    (l.foldl f s).adc.edge = s.adc.edge ∧ (k ∉ l → (l.foldl f s).conv k = s.conv k) ∧ (k ∈ l → ∃ t, AdcView s t ∧ t.conv k = s.conv k ∧ (l.foldl f s).conv k = (f t k).conv k) := by
  induction l generalizing s with
  | nil => exact ⟨rfl, fun _ => rfl, fun h => absurd h List.not_mem_nil⟩
  | cons j l ih =>
    obtain ⟨hnot, hnodup⟩ := List.nodup_cons.1 hl
    have hj := hf s j (hlt j List.mem_cons_self)
    obtain ⟨hedge, hout, hin⟩ := ih hnodup (fun i hi => hlt i (List.mem_cons_of_mem j hi)) (f s j)
    rw [List.foldl_cons]
    refine ⟨hedge.trans hj.edge, fun hk => ?_, fun hk => ?_⟩
    · obtain ⟨hne, hrest⟩ := not_or.1 fun h => hk (List.mem_cons.2 h)
      exact (hout hrest).trans (hj.others k hne)
    · by_cases hkj : k = j
      · subst hkj
        exact ⟨s, .refl s, rfl, hout hnot⟩
      · obtain ⟨t, hview, hconv, hfold⟩ := hin ((List.mem_cons.1 hk).resolve_left hkj)
        exact ⟨t, hj.view.trans hview, hconv.trans (hj.others k hkj), hfold⟩

/-- A trigger of one kind for each converter that is selected (R201). -/
def trigSelected (sel : Nat → Bool) (inj : Bool) (s : State) (k : Nat) : State :=
  s.triggerIf k inj (sel k && (if inj then s.injTrigOf k else s.regTrigOf k) == 1)

theorem trigSelected_on (sel : Nat → Bool) (inj : Bool) (s : State) (j : Nat) (hj : j < 16) : OnConv j s (trigSelected sel inj s j) :=
  (s.triggerIf_trig inj _ hj).1

/-- The effect of a software trigger on one converter (R201). -/
theorem trigSelected_effect (sel : Nat → Bool) (inj : Bool) (s : State) (hk : k < 16) :
    (s.convOut k = false → s.inDusk = false → (if inj then s.injTrigOf k else s.regTrigOf k) = 1 → sel k = true →
      Taken s.grid.tick (s.conv k).reload (seqr (s.conv k) inj) (seqr (((List.range 16).foldl (trigSelected sel inj) s).conv k) inj))
    ∧ (sel k = false → ((List.range 16).foldl (trigSelected sel inj) s).conv k = s.conv k) := by
  obtain ⟨t, hview, hconv, hfold⟩ := (onConv_fold (trigSelected sel inj) (trigSelected_on sel inj) List.nodup_range (fun j hj => List.mem_range.1 hj) s).2.2
    (List.mem_range.2 hk)
  have hcode : (if inj then t.injTrigOf k else t.regTrigOf k) = if inj then s.injTrigOf k else s.regTrigOf k := by
    rw [hview.injTrigOf hk, hview.regTrigOf hk]
  rw [hfold, trigSelected, hcode]
  refine ⟨fun hserves hawake hsoft hsel => ?_, fun hsel => ?_⟩
  · have htaken := (t.triggerIf_trig inj (sel k && (if inj then s.injTrigOf k else s.regTrigOf k) == 1) hk).2.2 (by simp [hsoft, hsel])
      ((hview.convOut k).trans hserves) (hview.awake hawake)
    rw [hview.grid, hconv] at htaken
    exact htaken
  · rw [hsel, Bool.false_and, triggerIf, if_neg Bool.false_ne_true, hconv]

end State

theorem exec_adcGridTrigger (k : Fin 16) (s : State) : exec (.adcGridTrigger k) s = if s.gridTick k.val then .next (s.triggerBy k.val [5]) else .next s := rfl

/-- The triggers of an edge, the edge's stamp taken and the source raised (R201, R256). -/
def State.edgeTaken (s : State) (rise : Bool) (ago : Nat) : State :=
  (List.range 16).foldl (fun s k => s.triggerBy k (if rise then [2, 4] else [3, 4]))
    (({ s with adc := { s.adc with edge := s.stampBack ago } } : State).raise srcADC_TRIG)

theorem exec_adcTrigEdge (rise : Bool) (ago : BitVec 16) (s : State) : exec (.adcTrigEdge rise ago) s =
    if (s.edgeTaken rise ago.toNat).get fCAP_STATE = 1 ∧ (s.edgeTaken rise ago.toNat).cap.trig = 3 then
      .next ((s.edgeTaken rise ago.toNat).capTrigger false (s.edgeTaken rise ago.toNat).cap.post)
    else .next (s.edgeTaken rise ago.toNat) := rfl
theorem exec_adcSoftTriggerReg (m : BitVec 16) (s : State) : exec (.adcSoftTriggerReg m) s = .next ((List.range 16).foldl (fun s k =>
    if m.getLsbD k && s.regTrigOf k == 1 then s.trigger k false else s) s) := rfl
theorem exec_adcSoftTriggerInj (m : BitVec 16) (s : State) : exec (.adcSoftTriggerInj m) s = .next ((List.range 16).foldl (fun s k =>
    if m.getLsbD k && s.injTrigOf k == 1 then s.trigger k true else s) s) := rfl

/-- The part with the edge's stamp taken and the source raised. -/
def State.edgeStamped (s : State) (ago : Nat) : State := ({ s with adc := { s.adc with edge := s.stampBack ago } } : State).raise srcADC_TRIG

theorem State.edgeStamped_view (s : State) (ago : Nat) : AdcView s (s.edgeStamped ago) ∧ (∀ j, (s.edgeStamped ago).conv j = s.conv j)
    ∧ (s.edgeStamped ago).adc.edge = s.stampBack ago := by
  have hset : Kept [.adc] s { s with adc := { s.adc with edge := s.stampBack ago } } := (Kept.refl s).upd_adc (by decide)
  have hraise : Kept [.regs, .icu, .nw, .pwr] _ (s.edgeStamped ago) :=
    raise_kept (by decide) srcADC_TRIG (.refl { s with adc := { s.adc with edge := s.stampBack ago } })
  have hwr : Wr [(0x270, 0), (0x1B070, 0)] s (s.edgeStamped ago) := raise_wr (by decide) _ (Wr.refl s).upd
  have hconv (j : Nat) : (s.edgeStamped ago).conv j = s.conv j := conv_congr hraise.adc_eq j
  refine ⟨⟨hraise.grid_eq, fun h => raise_awake _ ((inDusk_of_kept hset).trans h), hwr.eq _ (by decide), fun k hk w hw => hwr.eq _ ?_,
    fun j => by rw [hconv]; exact ⟨rfl, rfl⟩⟩, hconv, congrArg Adc.edge hraise.adc_eq⟩
  simp [hits, aADC_SEQCFG]
  omega

/-- The triggers of an edge (R201, R203). -/
theorem State.edgeTaken_effect (s : State) (rise : Bool) (ago : Nat) {k : Nat} (hk : k < 16) :
    State.Triggered k (if rise then [2, 4] else [3, 4]) s (s.edgeTaken rise ago) ∧ (s.edgeTaken rise ago).adc.edge = s.stampBack ago := by
  obtain ⟨hview, hconv, hedge⟩ := s.edgeStamped_view ago
  obtain ⟨hedge', -, hin⟩ := onConv_fold (k := k) (fun s k => s.triggerBy k (if rise then [2, 4] else [3, 4]))
    (fun s j hj => (s.triggerBy_triggered _ hj).1) List.nodup_range (fun j hj => List.mem_range.1 hj) (s.edgeStamped ago)
  obtain ⟨t, hview', hconv', hfold⟩ := hin (List.mem_range.2 hk)
  exact ⟨(hview.trans hview').triggered hk (hconv'.trans (hconv k)) (t.triggerBy_triggered _ hk).2 hfold, hedge'.trans hedge⟩

/-- Settles O24. -/
theorem adcTriggers : Obligations.AdcTriggers := by
  intro k rise m ago s taken edges
  refine ⟨fun hdue => .of_eq ((exec_adcGridTrigger k s).trans (if_pos hdue)) ?_,
    fun hno => .of_eq ((exec_adcGridTrigger k s).trans (if_neg (by simp [hno]))) rfl, ?_, .of_eq (exec_adcSoftTriggerReg m s) ?_,
    .of_eq (exec_adcSoftTriggerInj m s) ?_⟩
  case refine_1 =>
    obtain ⟨hon, hinj, hreg⟩ := s.triggerBy_triggered [5] k.isLt
    exact ⟨fun hserves hawake => ⟨fun hcode => hinj hserves hawake (by simp [hcode]), fun hcode => hreg hserves hawake (by simp [hcode])⟩, hon.others,
      (State.triggerBy_kept (by decide) _ _ (.refl s)).only⟩
  case refine_2 =>
    obtain ⟨⟨hinj, hreg⟩, hedge⟩ := s.edgeTaken_effect rise ago.toNat k.isLt
    have hkept : Kept [.regs, .icu, .evt, .nw, .cap, .pwr, .adc] s (s.edgeTaken rise ago.toNat) :=
      Kept.fold (fun _ _ h => State.triggerBy_kept (by decide) _ _ h) (State.raise_kept (by decide) _ ((Kept.refl s).upd_adc (by decide)))
    by_cases hcap : (s.edgeTaken rise ago.toNat).get fCAP_STATE = 1 ∧ (s.edgeTaken rise ago.toNat).cap.trig = 3
    · have hcapt := State.capTrigger_kept (T := [.regs, .cap]) (by decide) false (s.edgeTaken rise ago.toNat).cap.post (.refl (s.edgeTaken rise ago.toNat))
      refine .of_eq ((exec_adcTrigEdge rise ago s).trans (if_pos hcap)) ?_
      rw [State.conv_congr hcapt.adc_eq, hcapt.adc_eq]
      exact ⟨fun hserves hawake => ⟨hinj hserves hawake, hreg hserves hawake⟩, hedge, (State.capTrigger_kept (by decide) _ _ hkept).only⟩
    · exact .of_eq ((exec_adcTrigEdge rise ago s).trans (if_neg hcap))
        ⟨fun hserves hawake => ⟨hinj hserves hawake, hreg hserves hawake⟩, hedge, hkept.only⟩
  case refine_3 =>
    obtain ⟨htaken, hother⟩ := State.trigSelected_effect (fun k => m.getLsbD k) false s k.isLt
    exact ⟨htaken, hother, (Kept.fold (fun _ _ h => .ite (State.trigger_kept (by decide) _ _ h) h) (.refl s)).only⟩
  case refine_4 =>
    obtain ⟨htaken, hother⟩ := State.trigSelected_effect (fun k => m.getLsbD k) true s k.isLt
    exact ⟨htaken, hother, (Kept.fold (fun _ _ h => .ite (State.trigger_kept (by decide) _ _ h) h) (.refl s)).only⟩

end Sys2Proof.Machine
end

section
/-! THE CONVERTERS' WORK (R123-R127, R194-R210): holds, conversions, rounds of pairs, reference buffers and reloads. -/

namespace Sys2Proof.Machine

/-- The holds and check codes of a converter stand. -/
structure ConvHeld (x y : Conv) : Prop where
  holds : y.holds = x.holds
  chk : y.chk = x.chk
  bg : y.bg = x.bg

namespace State

variable {s : State} {k : Nat}

theorem unstarted_held (x : Conv) (it : AdcItem) : ConvHeld x (unstarted x it) := by
  unfold unstarted
  split
  · exact ⟨rfl, rfl, rfl⟩
  · exact ⟨rfl, rfl, rfl⟩
  · exact ⟨rfl, rfl, rfl⟩
  · exact ⟨rfl, rfl, rfl⟩
  · exact ⟨rfl, rfl, rfl⟩

theorem nextItem_held {it : AdcItem} {y : Conv} (h : s.nextItem k = some (it, y)) : ConvHeld (s.conv k) y := by
  unfold nextItem at h
  dsimp only at h
  split at h
  · cases h
    exact ⟨rfl, rfl, rfl⟩
  split at h
  · cases h
  split at h
  · cases h
    exact ⟨rfl, rfl, rfl⟩
  split at h
  · cases h
  split at h
  · cases h
    exact ⟨rfl, rfl, rfl⟩
  split at h
  · split at h
    · cases h
    · cases h
      exact ⟨rfl, rfl, rfl⟩
  split at h
  · cases h
    exact ⟨rfl, rfl, rfl⟩
  · cases h

theorem unkicked_conv (s : State) (k : Nat) : ConvHeld (s.conv k) ((s.unkicked k).conv k) := by
  unfold unkicked
  split
  · split
    · rw [conv_setConv, if_pos rfl]
      exact unstarted_held _ _
    · exact ⟨rfl, rfl, rfl⟩
  · exact ⟨rfl, rfl, rfl⟩

/-- What starts next leaves a converter's holds and check codes. -/
theorem adcKick_held (s : State) (k : Nat) : ConvHeld (s.conv k) ((s.adcKick k).conv k) := by
  obtain ⟨hholds, hchk, hbg⟩ := s.unkicked_conv k
  rw [adcKick_eq]
  split
  · exact ⟨rfl, rfl, rfl⟩
  split
  case h_1 it y h =>
    obtain ⟨hholds', hchk', hbg'⟩ := nextItem_held h
    rw [conv_setConv, if_pos rfl]
    exact ⟨hholds'.trans hholds, hchk'.trans hchk, hbg'.trans hbg⟩
  case h_2 => exact ⟨hholds, hchk, hbg⟩

theorem adcKick_pairs (s : State) (k : Nat) : (s.adcKick k).adc.pairs = s.adc.pairs := by
  have hunkicked : (s.unkicked k).adc.pairs = s.adc.pairs := by
    unfold unkicked
    split
    · split
      · rfl
      · rfl
    · rfl
  rw [adcKick_eq]
  split
  · rfl
  split
  · exact hunkicked
  · exact hunkicked

-- CHANNEL_HOLD

theorem mem_joinHold (x : Conv) (h : Hold) : h ∈ joinHold x h := by
  unfold joinHold
  simp

theorem queueHold_mem (s : State) (h : Hold) : h ∈ ((s.queueHold h).conv (s.servingConv h.chan)).holds := by
  unfold queueHold
  dsimp only
  rw [(adcKick_held _ _).holds, conv_setConv, if_pos rfl]
  exact mem_joinHold _ h

/-- A hold of a channel is queued, is a comparator's reading, or does not come about (R125, R149, R209). -/
theorem chanHold_kept' (s : State) (c : Nat) (on fail : Bool) : (s.cmpOnly (c / 16) = false → Kept [.adc] s (s.chanHold c on fail))
    ∧ (s.cmpOnly (c / 16) = true → Kept [.regs, .icu, .evt, .nw, .pwr, .chans, .banks, .mtx] s (s.chanHold c on fail)) := by
  unfold chanHold
  dsimp only
  refine ⟨fun h => ?_, fun h => ?_⟩
  · rw [if_neg (Bool.eq_false_iff.1 h)]
    exact .ite (.refl s) (.ite (.refl s) (queueHold_kept (by decide) _ (.refl s)))
  · rw [if_pos h]
    exact .ite (.refl s) (.ite (cmpSample_kept (by decide) _ _ _ _ _ (.refl s)) (.refl s))

theorem ledHold_kept' (s : State) (c : Nat) (on fail : Bool) : (s.cmpOnly (c / 16) = false → Kept [.adc] s (s.ledHold c on fail))
    ∧ (s.cmpOnly (c / 16) = true → Kept [.regs, .icu, .evt, .nw, .pwr, .chans, .banks, .mtx] s (s.ledHold c on fail)) := by
  unfold ledHold
  split
  · exact ⟨fun _ => .refl s, fun _ => .refl s⟩
  dsimp only
  refine ⟨fun h => ?_, fun h => ?_⟩
  · rw [if_neg (Bool.eq_false_iff.1 h)]
    exact .ite (.refl s) (.ite (.refl s) (queueHold_kept (by decide) _ (.refl s)))
  · rw [if_pos h]
    exact .ite (.refl s) (.ite (cmpSample_kept (by decide) _ _ _ _ _ (.refl s)) (.refl s))

/-- What a hold goes by that its own tick's mark leaves alone. -/
structure HoldView (s t : State) : Prop where
  lamps : LampView s t
  regs : t.regs = s.regs
  chans : t.chans = s.chans
  adc : t.adc = s.adc

theorem takeEvent_holdView (s : State) (key : Nat) : HoldView s (s.takeEvent key) :=
  ⟨⟨rfl, rfl, rfl, rfl, fun _ _ _ => rfl, rfl, rfl, rfl, rfl, rfl⟩, rfl, rfl, rfl⟩

namespace HoldView

variable {t : State} {c : Nat}

theorem rd (h : HoldView s t) (a : Nat) : t.rd a = s.rd a := by rw [State.rd, h.regs, State.rd]

theorem get (h : HoldView s t) (f : Fld) : t.get f = s.get f := get_of_rd (h.rd _)

theorem flag (h : HoldView s t) (f : Fld) : t.flag f = s.flag f := flag_of_rd (h.rd _)

theorem chan (h : HoldView s t) (c : Nat) : t.chan c = s.chan c := chan_congr h.chans c

theorem conv (h : HoldView s t) (k : Nat) : t.conv k = s.conv k := conv_congr h.adc k

theorem pairFault (h : HoldView s t) (n : Nat) : t.pairFault n = s.pairFault n := by rw [pairFault_get, h.get, pairFault_get]

theorem pair (h : HoldView s t) (n : Nat) : t.pair n = s.pair n := by rw [State.pair, h.adc, State.pair]

theorem cmpOnly (h : HoldView s t) (n : Nat) : t.cmpOnly n = s.cmpOnly n := by
  rw [State.cmpOnly, h.flag, h.flag, h.lamps.inDusk, h.lamps.midnight, h.pairFault, State.cmpOnly]

theorem lampPeriod (h : HoldView s t) (hscan : s.scanned (c / 16) = false) : t.lampPeriod c = s.lampPeriod c := by
  rw [State.lampPeriod, h.lamps.scanned, hscan, h.chan, h.get, State.lampPeriod, hscan, if_neg Bool.false_ne_true, if_neg Bool.false_ne_true]

theorem pairGone (h : HoldView s t) (n start : Nat) : t.pairGone n start = s.pairGone n start := by
  rw [State.pairGone, h.pairFault, h.pair, State.pairGone]

theorem coverSkip (h : HoldView s t) (hscan : s.scanned (c / 16) = false) (start : Nat) (p : Bool) : t.coverSkip c start p = s.coverSkip c start p := by
  rw [State.coverSkip, h.lampPeriod hscan, h.flag, h.pair, State.coverSkip]

theorem servingConv (h : HoldView s t) (c : Nat) : t.servingConv c = s.servingConv c := by
  rw [State.servingConv, convOut, h.flag, h.conv, State.servingConv, convOut]

end HoldView

/-- The pulse of a channel has room for the hold (R125). -/
def holdFits (s : State) (c : Nat) (on : Bool) : Bool :=
  if on then decide (150 ≤ (s.chan c).pulse) && !(!(s.chan c).lit && !(s.chan c).morn) else decide ((s.chan c).pulse + 300 ≤ s.lampPeriod c)

theorem HoldView.holdFits {t : State} {c : Nat} (h : HoldView s t) (hscan : s.scanned (c / 16) = false) (on : Bool) : t.holdFits c on = s.holdFits c on := by
  rw [State.holdFits, h.chan, h.lampPeriod hscan, State.holdFits]

theorem chanHold_queued {c : Nat} {on : Bool} (fail : Bool) (hfits : s.holdFits c on = true) (hgone : s.pairGone (c / 16) (s.chan c).start = false)
    (hcmp : s.cmpOnly (c / 16) = false) (hcover : s.coverSkip c (s.chan c).start (on && ((s.chan c).probing || (s.chan c).learn != 0)) = false) :
    ∃ h : Hold, s.chanHold c on fail = s.queueHold h ∧ h.chan = c ∧ h.led = 0 ∧ h.on = on ∧ h.lit = (s.chan c).lit ∧ h.tick = s.grid.tick ∧ h.res = [] := by
  unfold holdFits at hfits
  unfold chanHold
  dsimp only
  rw [hfits, hgone, hcmp, hcover]
  exact ⟨_, rfl, rfl, rfl, rfl, rfl, rfl, rfl⟩

theorem chanHold_none {c : Nat} {on : Bool} (fail : Bool) (h : s.holdFits c on = false ∨ s.pairGone (c / 16) (s.chan c).start = true
    ∨ (s.cmpOnly (c / 16) = false ∧ s.coverSkip c (s.chan c).start (on && ((s.chan c).probing || (s.chan c).learn != 0)) = true)) :
    s.chanHold c on fail = s := by
  unfold holdFits at h
  unfold chanHold
  dsimp only
  obtain h | h | ⟨hcmp, hcover⟩ := h
  · rw [h]
    exact if_pos rfl
  · rw [h]
    exact if_pos (Bool.or_true _)
  · rw [hcmp, hcover]
    exact ite_self _

-- The rounds of a pair

/-- The last difference of the pair stands. -/
theorem setPair_pair (s : State) (p q : Nat) (x : AdcPair) : (s.setPair p x).pair q = if q = p then x else s.pair q :=
  tabGet_set (fun _ => defPair) s.adc.pairs p q x

theorem pair_of_pairs {t : State} (h : t.adc.pairs = s.adc.pairs) (p : Nat) : t.pair p = s.pair p := by rw [pair, h, pair]

theorem newEpoch_pairs (s : State) (k : Nat) : (s.newEpoch k).adc.pairs = s.adc.pairs := by
  have hdrop (t : State) (l : List Hold) : (t.dropHolds l).adc = t.adc := (dropHolds_kept (T := [.chans, .mtx]) (by decide) l (.refl t)).adc_eq
  unfold newEpoch
  dsimp only
  rw [hdrop]
  rfl

theorem placeMove_d (s : State) (q p : Nat) : ((s.placeMove q).pair p).d = (s.pair p).d := by
  have hbefore (t : State) (v : Nat) (b : Bool) :
      ((((t.put (fADC_EPOCH q) v).putFlag (fADC q 1) b).newEpoch (2 * q)).newEpoch (2 * q + 1)).adc.pairs = t.adc.pairs := by
    rw [newEpoch_pairs, newEpoch_pairs, putFlag_adc, put_adc]
  unfold placeMove
  dsimp only
  rw [setPair_pair]
  split
  case isTrue h => rw [h, pair_of_pairs (hbefore _ _ _)]
  case isFalse => rw [pair_of_pairs (hbefore _ _ _)]

theorem moveAway_d (s : State) (k p : Nat) : ((s.moveAway k).pair p).d = (s.pair p).d := by
  have hdrop (t : State) (l : List Hold) : (t.dropHolds l).adc = t.adc := (dropHolds_kept (T := [.chans, .mtx]) (by decide) l (.refl t)).adc_eq
  have hjoin (l : List Hold) (t : State) (j : Nat) :
      (l.foldl (fun s h => s.setConv j { s.conv j with holds := joinHold (s.conv j) h }) t).adc.pairs = t.adc.pairs := by
    induction l generalizing t with
    | nil => rfl
    | cons h l ih => rw [List.foldl_cons, ih]; rfl
  have hstop (t : State) (j : Nat) : (t.convStop j).adc.pairs = t.adc.pairs := rfl
  have hkick (t : State) (j : Nat) : (t.adcKick j).adc.pairs = t.adc.pairs := adcKick_pairs t j
  refine Eq.trans ?_ (placeMove_d s (k / 2) p)
  unfold moveAway
  dsimp only
  generalize s.placeMove (k / 2) = t
  refine congrArg AdcPair.d (pair_of_pairs ?_ p)
  split
  · rw [hdrop, hstop]
  · rw [hkick, hjoin, hstop]

theorem convFault_d (s : State) (k p : Nat) : ((s.convFault k).pair p).d = (s.pair p).d := by
  have htold (t : State) (l : List Nat) : Kept [.regs, .icu, .evt, .nw, .pwr] t
      ((((t.putFlag (fADC_FAULT k) true).logEv evADC_CONV_FAULT kCONV k l).raise srcADC_FAULT).convGroup evADC_CONV_FAULT) :=
    convGroup_kept (by decide) _ (raise_kept (by decide) _ (logEv_kept (by decide) _ _ _ _ (putFlag_kept (by decide) _ _ (.refl t))))
  have hcause (b : Prop) [Decidable b] : (if b then s.bistCause brCOVER_LOST else s).adc = s.adc :=
    (Kept.ite (T := [.bist]) (bistCause_kept (by decide) _ (.refl s)) (.refl s)).adc_eq
  unfold convFault
  split
  · rfl
  dsimp only
  rw [moveAway_d]
  exact congrArg AdcPair.d (pair_of_pairs (by rw [(htold _ _).adc_eq, hcause]) p)

theorem pairFail_d (s : State) (q p : Nat) : ((s.pairFail q).pair p).d = (s.pair p).d := by
  have hdrop (t : State) (l : List Hold) : (t.dropHolds l).adc = t.adc := (dropHolds_kept (T := [.chans, .mtx]) (by decide) l (.refl t)).adc_eq
  have htold (t : State) (l : List Nat) : Kept [.regs, .icu, .evt, .nw, .pwr] t
      (((((t.putFlag (fADC q 2) true).putFlag (fADC q 3) true).logEv evADC_PAIR_FAULT kCONV (2 * q) l).raise srcADC_FAULT).convGroup evADC_PAIR_FAULT) :=
    convGroup_kept (by decide) _ (raise_kept (by decide) _ (logEv_kept (by decide) _ _ _ _ (putFlag_kept (by decide) _ _ (putFlag_kept (by decide) _ _ (.refl t)))))
  have hstop (t : State) (j : Nat) : (t.convStop j).adc.pairs = t.adc.pairs := rfl
  have hset (t : State) (hp : t.adc.pairs = s.adc.pairs) (m : Nat) : ((t.setPair q { t.pair q with moved := m }).pair p).d = (s.pair p).d := by
    rw [setPair_pair, pair_of_pairs hp, pair_of_pairs hp]
    split
    case isTrue h => rw [h]
    case isFalse => rfl
  have hhold (t : State) : (t.dutyHold evADC_PAIR_FAULT).pair p = t.pair p :=
    pair_of_pairs (by rw [(dutyHold_kept (T := [.regs, .icu, .nw, .pwr, .boost]) (by decide) _ (.refl t)).adc_eq]) p
  unfold pairFail
  dsimp only
  split
  · rw [hhold]
    exact hset _ (by rw [hdrop, hstop, hstop, (htold _ _).adc_eq]) _
  · exact hset _ (by rw [hdrop, hstop, hstop, (htold _ _).adc_eq]) _


-- CONVERSION_COMPLETE

/-- The converter with its conversion taken off and captured (R203). -/
def convEnded (s : State) (k : Nat) (it : AdcItem) (raw : Nat) : State :=
  (s.setConv k { s.conv k with cur := none }).capResult k it (s.conv k).holds (trim k raw).1 (trim k raw).2 (it.kind == 3 && (s.conv k).inj.late)

theorem convEnded_kept (it : AdcItem) (raw : Nat) : Kept [.adc, .mem, .cap] s (s.convEnded k it raw) :=
  capResult_kept (by decide) _ _ _ _ _ _ (Kept.upd_adc (.refl s) (by decide))

/-- The epoch under which the conversion was taken is over. -/
def convOld (s : State) (k : Nat) (it : AdcItem) : Bool := it.epoch != s.get (fADC_EPOCH (k / 2))

theorem convEnded_old (it : AdcItem) (raw : Nat) : (s.convEnded k it raw).convOld k it = s.convOld k it := by
  rw [convOld, get, rd, (convEnded_kept it raw).regs_eq, convOld, get, rd]

theorem convDone_idle (raw : Nat) (h : (s.conv k).cur = none) : s.convDone k raw = s.adcKick k := by
  unfold convDone
  dsimp only
  rw [h]

theorem convDone_boost {it : AdcItem} (raw : Nat) (hcur : (s.conv k).cur = some it) (hkind : it.kind = 0) :
    s.convDone k raw = ((s.convEnded k it raw).boostSample (trim k raw).1 (it.tag || s.convOld k it)).adcKick k := by
  rw [← convEnded_old it raw]
  obtain ⟨_, _, _, _, _, _, _⟩ := it
  subst hkind
  unfold convDone convEnded convOld
  dsimp only
  rw [hcur]
  rfl

theorem convDone_house {it : AdcItem} (raw : Nat) (hcur : (s.conv k).cur = some it) (hkind : it.kind = 1) :
    s.convDone k raw = (if s.convOld k it then s.convEnded k it raw else (s.convEnded k it raw).hkDeliver k it (trim k raw).1).adcKick k := by
  rw [← convEnded_old it raw]
  obtain ⟨_, _, _, _, _, _, _⟩ := it
  subst hkind
  unfold convDone convEnded convOld
  dsimp only
  rw [hcur]
  rfl

theorem convDone_injected {it : AdcItem} (raw : Nat) (hcur : (s.conv k).cur = some it) (hkind : it.kind = 3) :
    s.convDone k raw = (((s.convEnded k it raw).wr (aADC_INJR k it.slot) (resultWord it (trim k raw).1 (trim k raw).2 (s.conv k).inj.late (s.conv k).inj.pass)).seqEnd k true).adcKick k := by
  obtain ⟨_, _, _, _, _, _, _⟩ := it
  subst hkind
  unfold convDone convEnded
  dsimp only
  rw [hcur]
  rfl

theorem convDone_regular {it : AdcItem} (raw : Nat) (hcur : (s.conv k).cur = some it) (hkind : it.kind = 4) :
    ∃ t, Kept [.obs] ((s.convEnded k it raw).wr (aADC_REGR k it.slot) (resultWord it (trim k raw).1 (trim k raw).2 false (s.conv k).reg.pass)) t
      ∧ s.convDone k raw = (t.seqEnd k false).adcKick k := by
  obtain ⟨_, _, _, _, _, _, _⟩ := it
  subst hkind
  unfold convDone convEnded
  dsimp only
  rw [hcur]
  exact ⟨_, .ite (.refl _) (obsFeed_kept (by decide) _ _ _ (.refl _)), rfl⟩

/-- The control law takes the boost stage's sample, or holds its period on a tagged or stale one (R204). -/
structure BoostSampled (s u : State) (code : Nat) (bad : Bool) : Prop where
  failed : s.pairFault 7 = true → u.loop 0 = s.loop 0
  good : bad = false → s.pairFault 7 = false → (s.loop 0).open_ = true → (s.loop 0).wait = true →
    (u.loop 0).x = (code * 8 : Nat) ∧ (u.loop 0).wait = false ∧ (u.loop 0).hold = (s.loop 0).hold
  stale : bad = true → s.pairFault 7 = false → (s.loop 0).open_ = true → (s.loop 0).wait = true →
    u.loop 0 = { s.loop 0 with wait := false, hold := true, stale := true }

theorem boostSample_sampled (s : State) (code : Nat) (bad : Bool) : BoostSampled s (s.boostSample code bad) code bad where
  failed h := by
    unfold boostSample
    dsimp only
    rw [h, Bool.or_true, if_pos rfl]
  good hgood hfault hopen hwait := by
    unfold boostSample
    dsimp only
    rw [hopen, hwait, hfault, if_neg (by decide), hgood, if_neg Bool.false_ne_true, loop_setLoop, if_pos rfl]
    exact ⟨rfl, rfl, rfl⟩
  stale hbad hfault hopen hwait := by
    unfold boostSample
    dsimp only
    rw [hopen, hwait, hfault, if_neg (by decide), hbad, if_pos rfl, loop_setLoop, if_pos rfl]

theorem pairFault_congr {t : State} (h : t.regs = s.regs) (p : Nat) : t.pairFault p = s.pairFault p := by
  rw [pairFault, rd, h, pairFault, rd]

theorem BoostSampled.of_kept {t u v : State} {code : Nat} {bad : Bool} (h : BoostSampled t u code bad) (ht : Kept [.adc, .mem, .cap] s t)
    (hv : Kept [.adc] u v) : BoostSampled s v code bad := by
  obtain ⟨hfailed, hgood, hstale⟩ := h
  have hfault : t.pairFault 7 = s.pairFault 7 := pairFault_congr ht.regs_eq 7
  have ht0 : t.loop 0 = s.loop 0 := loop_congr ht.loops_eq 0
  have hv0 : v.loop 0 = u.loop 0 := loop_congr hv.loops_eq 0
  rw [hfault, ht0, ← hv0] at hfailed hgood hstale
  exact ⟨hfailed, hgood, hstale⟩

theorem convDone_sampled {it : AdcItem} (raw : Nat) (hcur : (s.conv k).cur = some it) (hkind : it.kind = 0) :
    BoostSampled s (s.convDone k raw) (trim k raw).1 (it.tag || s.convOld k it) := by
  rw [convDone_boost raw hcur hkind]
  exact (boostSample_sampled _ _ _).of_kept (convEnded_kept it raw) (adcKick_kept (by decide) _ (.refl _))

theorem convDone_vsup {it : AdcItem} (raw : Nat) (hcur : (s.conv k).cur = some it) (hkind : it.kind = 1) (htag : it.tag = false)
    (hold : s.convOld k it = false) (hpoint : it.point = 4) : (s.convDone k raw).boost.vsup = 20 * (trim k raw).1 := by
  rw [convDone_house raw hcur hkind, hold, if_neg Bool.false_ne_true, (adcKick_kept (T := [.adc]) (by decide) _ (.refl _)).boost_eq]
  unfold hkDeliver
  rw [hpoint, htag]
  rfl

theorem hits_of_below {R : List (Nat × Nat)} {a : Nat} (h : ∀ r ∈ R, a < r.1) : hits R a = false := by
  refine List.any_eq_false.2 fun r hr => ?_
  have hlt := h r hr
  split
  · rw [beq_iff_eq]
    omega
  · rw [Bool.and_eq_true, decide_eq_true_eq]
    omega

/-- What ends a sequencer's pass writes only time stamps, above the result words. -/
theorem seqEnd_rd (t : State) {a : Nat} (k : Nat) (inj : Bool) (ha : a < 0x17F80) : ((t.seqEnd k inj).adcKick k).rd a = t.rd a :=
  (adcKick_wr (R := [(0x17F80, 4)]) (by decide) k (seqEnd_wr (by decide) k inj (.refl t))).eq a
    (hits_of_below fun r hr => by rw [List.mem_singleton.1 hr]; exact ha)

theorem convDone_injr {it : AdcItem} (raw : Nat) (hcur : (s.conv k).cur = some it) (hkind : it.kind = 3) (hk : k < 16) (hslot : it.slot < 4) :
    (s.convDone k raw).rd (aADC_INJR k it.slot) = BitVec.ofNat 32 (resultWord it (trim k raw).1 (trim k raw).2 (s.conv k).inj.late (s.conv k).inj.pass) := by
  have ha : aADC_INJR k it.slot < 0x17F80 := by unfold aADC_INJR; omega
  rw [convDone_injected raw hcur hkind, seqEnd_rd _ k true ha, rd_wr_same]

theorem convDone_regr {it : AdcItem} (raw : Nat) (hcur : (s.conv k).cur = some it) (hkind : it.kind = 4) (hk : k < 16) (hslot : it.slot < 32) :
    (s.convDone k raw).rd (aADC_REGR k it.slot) = BitVec.ofNat 32 (resultWord it (trim k raw).1 (trim k raw).2 false (s.conv k).reg.pass) := by
  have ha : aADC_REGR k it.slot < 0x17F80 := by unfold aADC_REGR; omega
  obtain ⟨t, hobs, hdone⟩ := convDone_regular raw hcur hkind
  rw [hdone, seqEnd_rd t k false ha, rd, hobs.regs_eq, ← rd, rd_wr_same]

-- The evaluation and the start of a round

theorem pairEval_d {p ca cb ga gb : Nat} (hca : (s.conv (2 * p)).chk = some ca) (hcb : (s.conv (2 * p + 1)).chk = some cb)
    (hga : (s.conv (2 * p)).bg = some ga) (hgb : (s.conv (2 * p + 1)).bg = some gb) (hout : s.convOut (2 * p) = false)
    (hout' : s.convOut (2 * p + 1) = false) (hrel : (s.conv (2 * p)).reload ≠ 2) (hrel' : (s.conv (2 * p + 1)).reload ≠ 2) :
    ((s.pairEval p).pair p).d = ((ca : Int) - cb).natAbs := by
  have hset (t : State) (x : AdcPair) : ((t.setPair p x).pair p).d = x.d := by rw [setPair_pair, if_pos rfl]
  have hfault (c : Prop) [Decidable c] (t : State) (k : Nat) : ((if c then t.convFault k else t).pair p).d = (t.pair p).d := by
    split
    · exact convFault_d t k p
    · rfl
  have heither {c : Prop} [Decidable c] {t u : State} {n : Nat} (ht : (t.pair p).d = n) (hu : (u.pair p).d = n) :
      ((if c then t else u).pair p).d = n := by
    split
    · exact ht
    · exact hu
  unfold pairEval
  dsimp only
  rw [hca, hcb, hga, hgb]
  dsimp only
  rw [hout, hout', beq_false_of_ne hrel, beq_false_of_ne hrel', if_neg (by decide)]
  exact heither (by rw [hfault, hfault, hset]) (heither (by rw [convFault_d, hfault, hfault, hset])
    (heither (by rw [convFault_d, hfault, hfault, hset]) (by rw [pairFail_d, hfault, hfault, hset])))

theorem pairEval_partial {p : Nat} (h : (s.conv (2 * p)).chk = none ∨ (s.conv (2 * p + 1)).chk = none ∨ (s.conv (2 * p)).bg = none
    ∨ (s.conv (2 * p + 1)).bg = none) : s.pairEval p = s := by
  unfold pairEval
  dsimp only
  split
  case h_1 ca cb ga gb =>
    simp_all
  case h_2 => rfl

/-- A converter begins its part of the pair's round (R206). -/
def roundOf (s : State) (k : Nat) : State :=
  (s.setConv k { s.conv k with hk := s.roundPoints k, chk := none, bg := none }).adcKick k

/-- The codes of the round are not in yet; other converters go on. -/
structure RoundBegun (k : Nat) (s u : State) : Prop where
  chk : (u.conv k).chk = none
  bg : (u.conv k).bg = none
  on : OnConv k s u
  kept : Kept [.adc] s u

theorem roundOf_begun (s : State) (k : Nat) : RoundBegun k s (s.roundOf k) := by
  have hset : ((s.setConv k { s.conv k with hk := s.roundPoints k, chk := none, bg := none }).conv k).chk = none
      ∧ ((s.setConv k { s.conv k with hk := s.roundPoints k, chk := none, bg := none }).conv k).bg = none := by
    rw [conv_setConv, if_pos rfl]
    exact ⟨rfl, rfl⟩
  have honset : OnConv k s (s.setConv k { s.conv k with hk := s.roundPoints k, chk := none, bg := none }) := setConv_onConv rfl rfl
  unfold roundOf
  generalize hx : s.setConv k { s.conv k with hk := s.roundPoints k, chk := none, bg := none } = t at hset honset ⊢
  have hheld := t.adcKick_held k
  exact ⟨hheld.chk.trans hset.1, hheld.bg.trans hset.2, honset.trans (t.adcKick_moved k).on,
    adcKick_kept (by decide) _ (hx ▸ setConv_kept (by decide) _ _ (.refl s))⟩

theorem pairRound_begun {p : Nat} (hdusk : s.inDusk = false ∨ p = 7) (hfault : s.pairFault p = false) (hout : s.convOut (2 * p) = false)
    (hout' : s.convOut (2 * p + 1) = false) {j : Nat} (hj : j = 2 * p ∨ j = 2 * p + 1) :
    ((s.pairRound p).conv j).chk = none ∧ ((s.pairRound p).conv j).bg = none := by
  have hserved : ((s.inDusk && p != 7) || s.pairFault p) = false := by
    rw [hfault, Bool.or_false]
    obtain h | h := hdusk
    · rw [h, Bool.false_and]
    · rw [h, bne_self_eq_false, Bool.and_false]
  have hfirst := s.roundOf_begun (2 * p)
  have hsecond := (s.roundOf (2 * p)).roundOf_begun (2 * p + 1)
  have hround : s.pairRound p = (s.roundOf (2 * p)).roundOf (2 * p + 1) := by
    unfold pairRound
    rw [hserved, if_neg Bool.false_ne_true, List.foldl_cons, List.foldl_cons, List.foldl_nil, hout, if_neg Bool.false_ne_true, ← roundOf,
      hfirst.on.view.convOut, hout', if_neg Bool.false_ne_true, ← roundOf]
  rw [hround]
  obtain rfl | rfl := hj
  · rw [hsecond.on.others _ (by omega)]
    exact ⟨hfirst.chk, hfirst.bg⟩
  · exact ⟨hsecond.chk, hsecond.bg⟩

-- Reference buffers and reloads

theorem refEnable_rd (s : State) (w : Word) : (s.refEnable w.toNat).rd aADC_REFCTL = s.rd aADC_REFCTL ||| w &&& 0xFF := by
  have hlow : w.toNat % 256 = (w &&& 0xFF).toNat := by
    rw [BitVec.toNat_and]
    exact (Nat.and_two_pow_sub_one_eq_mod w.toNat 8).symm
  unfold refEnable
  dsimp only
  rw [rd_wr_same, hlow, ← BitVec.toNat_or, BitVec.ofNat_toNat, BitVec.setWidth_eq]

/-- The reference buffer is shown ready, and its pair usable (R210). -/
def refShown (s : State) (p : Nat) : State := (s.putFlag (fREF_RDY p) true).putFlag (fADC p 0) true

theorem refShown_flags (s : State) {p : Nat} (hp : p < 8) : (s.refShown p).flag (fREF_RDY p) = true ∧ (s.refShown p).flag (fADC p 0) = true :=
  ⟨((s.putFlag (fREF_RDY p) true).flag_putFlag_addr (f := fADC p 0) (g := fREF_RDY p) true (show aADC_REFCTL ≠ aDEV_ADC_STAT by decide)).trans
    (s.flag_putFlag (fREF_RDY p) true (by unfold fREF_RDY; dsimp only; omega) Nat.one_pos),
  (s.putFlag (fREF_RDY p) true).flag_putFlag (fADC p 0) true (by unfold fADC; dsimp only; omega) Nat.one_pos⟩

theorem refShown_wr (s : State) (p : Nat) : Wr [(aADC_REFCTL, 0), (aDEV_ADC_STAT, 0)] s (s.refShown p) :=
  putFlag_wr (hit_one (by simp [fADC])) (putFlag_wr (hit_one (by simp [fREF_RDY])) (.refl s))

theorem refShown_kept (s : State) (p : Nat) : Kept [.regs] s (s.refShown p) :=
  putFlag_kept (by decide) _ _ (putFlag_kept (by decide) _ _ (.refl s))

theorem reloadStart_due (hdue : (s.conv k).reload = 1) (hrun : (s.conv k).inj.run = false) (hpend : (s.conv k).inj.pend = false) (hk : k < 16) :
    ((s.reloadStart k).conv k).reload = 2 ∧ (s.reloadStart k).flag (fRELOAD k) = true := by
  unfold reloadStart
  dsimp only
  rw [if_neg (by simp [hdue, hrun, hpend])]
  refine ⟨?_, flag_putFlag _ _ _ (by unfold fRELOAD; dsimp only; omega) Nat.one_pos⟩
  rw [conv_congr (putFlag_adc _ _ _), conv_setConv, if_pos rfl]

theorem reloadStart_not_due (h : (s.conv k).reload ≠ 1 ∨ (s.conv k).inj.run = true ∨ (s.conv k).inj.pend = true) : s.reloadStart k = s := by
  unfold reloadStart
  exact if_pos h

end State

theorem exec_channelHold (c : Fin 128) (on fail : Bool) (s : State) : exec (.channelHold c on fail) s =
    if !s.holdTick c on || !s.untaken (State.holdKey c on) then .next s
    else if (s.takeEvent (State.holdKey c on)).scanned (c / 16) then .next ((s.takeEvent (State.holdKey c on)).ledHold c on fail)
    else .next ((s.takeEvent (State.holdKey c on)).chanHold c on fail) := rfl
theorem exec_conversionComplete (k : Fin 16) (raw : BitVec 12) (s : State) : exec (.conversionComplete k raw) s = .next (s.convDone k raw.toNat) := rfl
theorem exec_pairRoundEval (p : Fin 8) (s : State) : exec (.pairRoundEval p) s = .next (s.pairEval p) := rfl
theorem exec_housekeepingRound (p : Fin 8) (s : State) : exec (.housekeepingRound p) s = if s.roundTick p then .next (s.pairRound p) else .next s := rfl
theorem exec_adcRefctlWrite (w : Word) (s : State) : exec (.adcRefctlWrite w) s = .next (s.refEnable w.toNat) := rfl
theorem exec_refbufReady (p : Fin 8) (s : State) : exec (.refbufReady p) s = if !s.refReadyTick p then .next s
    else if p.val = 7 ∧ (s.refShown p).get fBST_MODE = 0 then .next (s.refShown p).softStart else .next (s.refShown p) := rfl
theorem exec_trimReloadStart (k : Fin 16) (s : State) : exec (.trimReloadStart k) s = .next (s.reloadStart k) := rfl

section Hold

variable {c : Fin 128} {on : Bool} {s : State}

/-- Its instant is now and no hold has been taken on it. -/
def State.holdDue (s : State) (c : Nat) (on : Bool) : Prop := s.holdTick c on = true ∧ s.untaken (State.holdKey c on) = true

theorem channelHold_not_due (fail : Bool) (h : ¬ s.holdDue c on) : exec (.channelHold c on fail) s = .next s := by
  rw [exec_channelHold]
  refine if_pos ?_
  rw [State.holdDue, not_and_or, Bool.not_eq_true, Bool.not_eq_true] at h
  obtain h | h := h
  · rw [h, Bool.not_false, Bool.true_or]
  · rw [h, Bool.not_false, Bool.or_true]

theorem channelHold_due (fail : Bool) (h : s.holdDue c on) : exec (.channelHold c on fail) s =
    if (s.takeEvent (State.holdKey c on)).scanned (c / 16) then .next ((s.takeEvent (State.holdKey c on)).ledHold c on fail)
    else .next ((s.takeEvent (State.holdKey c on)).chanHold c on fail) := by
  obtain ⟨htick, huntaken⟩ := h
  rw [exec_channelHold, htick, huntaken]
  exact if_neg (by decide)

theorem channelHold_own (fail : Bool) (h : s.holdDue c on) (hscan : s.scanned (c / 16) = false) : exec (.channelHold c on fail) s =
    .next ((s.takeEvent (State.holdKey c on)).chanHold c on fail) := by
  rw [channelHold_due fail h, (s.takeEvent_holdView _).lamps.scanned, hscan]
  rfl

/-- Whatever becomes of a hold, only the parts of its way change: the queue's, or a comparator's. -/
theorem channelHold_only (fail : Bool) : (s.cmpOnly (c / 16) = false → Completes (.channelHold c on fail) s (Only [.grid, .adc] s))
    ∧ (s.cmpOnly (c / 16) = true → Completes (.channelHold c on fail) s (Only [.regs, .grid, .icu, .evt, .nw, .pwr, .chans, .banks, .mtx] s)) := by
  by_cases hdue : s.holdDue c on
  case neg =>
    have hexec := channelHold_not_due fail hdue
    exact ⟨fun _ => .of_eq hexec (Kept.refl s).only, fun _ => .of_eq hexec (Kept.refl s).only⟩
  have hexec := channelHold_due fail hdue
  have htaken {T : List Comp} (hT : [.grid] ⊆ T) : Kept T s (s.takeEvent (State.holdKey c on)) := State.takeEvent_kept hT _ (.refl s)
  have hcmp := (s.takeEvent_holdView (State.holdKey c on)).cmpOnly (c / 16)
  generalize s.takeEvent (State.holdKey c on) = t at hexec htaken hcmp
  obtain ⟨hq, hm⟩ := t.chanHold_kept' c on fail
  obtain ⟨hq', hm'⟩ := t.ledHold_kept' c on fail
  rw [hcmp] at hq hm hq' hm'
  split at hexec
  · exact ⟨fun h => .of_eq hexec ((htaken (by decide)).trans ((hq' h).mono (by decide))).only,
      fun h => .of_eq hexec ((htaken (by decide)).trans ((hm' h).mono (by decide))).only⟩
  · exact ⟨fun h => .of_eq hexec ((htaken (by decide)).trans ((hq h).mono (by decide))).only,
      fun h => .of_eq hexec ((htaken (by decide)).trans ((hm h).mono (by decide))).only⟩

end Hold

theorem State.holdFits_iff (s : State) (c : Nat) (on : Bool) : s.holdFits c on = true ↔
    if on = true then 150 ≤ (s.chan c).pulse ∧ ((s.chan c).lit = true ∨ (s.chan c).morn = true) else (s.chan c).pulse + 300 ≤ s.lampPeriod c := by
  unfold State.holdFits
  cases on with
  | true =>
    rw [if_pos rfl, if_pos rfl]
    cases (s.chan c).lit <;> cases (s.chan c).morn <;> simp
  | false => exact decide_eq_true_iff

/-- Settles O25. -/
theorem conversionWork : Obligations.ConversionWork := by
  intro c on fail k raw it p ca cb ga gb w s x fits cover code sat fresh due
  have hfits : s.holdFits c on = true ↔ fits := s.holdFits_iff c on
  have hview := s.takeEvent_holdView (State.holdKey c on)
  refine ⟨fun hdue hscan hfit hgone hcmp hcover => ?queued, fun hdue hscan hnot => ?none, fun hno => .of_eq (channelHold_not_due fail hno) rfl,
    (channelHold_only fail).1, (channelHold_only fail).2, fun hidle => .of_eq (exec_conversionComplete k raw s) ?idle,
    fun hcur => .of_eq (exec_conversionComplete k raw s) ?done, fun hca hcb hga hgb hout hout' hrel hrel' => .of_eq (exec_pairRoundEval p s)
      (State.pairEval_d hca hcb hga hgb hout hout' hrel hrel'), fun hpartial => .of_eq (exec_pairRoundEval p s) (State.pairEval_partial hpartial),
    fun hno => .of_eq ((exec_housekeepingRound p s).trans (if_neg (by rw [hno]; decide))) rfl,
    fun htick hdusk hfault hout hout' => .of_eq ((exec_housekeepingRound p s).trans (if_pos htick)) ?round,
    .of_eq (exec_adcRefctlWrite w s) ⟨s.refEnable_rd w, (State.refEnable_kept (by decide) _ (.refl s)).only, (State.refEnable_wr (by decide) _ (.refl s)).onlyRegs⟩,
    fun hready => ?ready, fun hno => .of_eq ((exec_refbufReady p s).trans (if_pos (by rw [hno]; rfl))) rfl,
    fun hdue hrun hpend => .of_eq (exec_trimReloadStart k s) ?reload, fun hno => .of_eq (exec_trimReloadStart k s) (State.reloadStart_not_due hno)⟩
  case queued =>
    have hscan' := hview.lamps.scanned
    obtain ⟨h, hqueue, hchan, hled, hon, hlit, htick, hres⟩ := State.chanHold_queued (s := s.takeEvent (State.holdKey c on)) fail
      ((hview.holdFits hscan on).trans (hfits.2 hfit)) (by rw [hview.chan, hview.pairGone]; exact hgone) ((hview.cmpOnly _).trans hcmp)
      (by rw [hview.chan, hview.coverSkip hscan]; exact hcover)
    rw [hview.chan] at hlit
    have hkept : Kept [.adc] _ _ := State.queueHold_kept (by decide) h (.refl (s.takeEvent (State.holdKey c on)))
    refine .of_eq (channelHold_own fail hdue hscan) ?_
    rw [hqueue]
    refine ⟨⟨h, ?_, hchan, hled, hon, hlit, htick, hres⟩, ?_, (State.queueHold_kept (by decide) h (State.takeEvent_kept (by decide) _ (.refl s))).only⟩
    · have hserving : (s.takeEvent (State.holdKey c on)).servingConv h.chan = s.servingConv c := (hview.servingConv h.chan).trans (congrArg _ hchan)
      rw [← hserving]
      exact (s.takeEvent (State.holdKey c on)).queueHold_mem h
    · rw [State.untaken, hkept.grid_eq, ← State.untaken, State.untaken_takeEvent]
  case none =>
    refine .of_eq (channelHold_own fail hdue hscan) (State.chanHold_none fail ?_)
    rw [hview.holdFits hscan, hview.chan, hview.pairGone, hview.cmpOnly, hview.coverSkip hscan]
    obtain h | h | h := hnot
    · exact .inl (Bool.eq_false_iff.2 fun ht => h (hfits.1 ht))
    · exact .inr (.inl h)
    · exact .inr (.inr h)
  case idle =>
    rw [State.convDone_idle _ hidle]
    exact (State.adcKick_kept (by decide) _ (.refl s)).only
  case done =>
    have hold : s.convOld k it = true ↔ ¬ fresh := by rw [State.convOld, bne_iff_ne]
    have hnew (h : fresh) : s.convOld k it = false := Bool.eq_false_iff.2 fun ht => hold.1 ht h
    refine ⟨fun hkind => (State.convDone_sampled raw.toNat hcur hkind).failed, fun hkind htag hfresh => (State.convDone_sampled raw.toNat hcur hkind).good
        (by rw [htag, hnew hfresh]; rfl), fun hkind hbad => (State.convDone_sampled raw.toNat hcur hkind).stale ?_,
      fun hkind htag hfresh => State.convDone_vsup raw.toNat hcur hkind htag (hnew hfresh),
      fun hkind hslot => State.convDone_injr raw.toNat hcur hkind k.isLt hslot, fun hkind hslot => State.convDone_regr raw.toNat hcur hkind k.isLt hslot⟩
    obtain h | h := hbad
    · rw [h, Bool.true_or]
    · rw [hold.2 h, Bool.or_true]
  case round => 
    exact ⟨fun j hj => State.pairRound_begun (hdusk.imp_right fun h => by rw [h]; rfl) hfault hout hout' hj, (State.pairRound_kept (by decide) _ (.refl s)).only⟩
  case ready =>
    obtain ⟨hrdy, husable⟩ := s.refShown_flags p.isLt
    have hkept := s.refShown_kept p
    have hmode : (s.refShown p).get fBST_MODE = s.get fBST_MODE := (s.refShown_wr p).get fBST_MODE
    have hexec := (exec_refbufReady p s).trans (if_neg (by rw [hready]; decide))
    rw [hmode] at hexec
    split at hexec
    case isTrue h =>
      have hsoft : Wr [(0x200, 0)] (s.refShown p) (s.refShown p).softStart := State.softStart_wr (by decide) (.refl _)
      refine .of_eq hexec ⟨(hsoft.flag _ rfl).trans hrdy, (hsoft.flag _ rfl).trans husable, fun _ _ hmid => ((s.refShown p).softStart_of_awake ?_).1,
        (State.softStart_kept (by decide) (hkept.mono (by decide))).only⟩
      exact (congrArg (· != 0) ((s.refShown_wr p).get fNW_MN_CAUSE)).trans hmid
    case isFalse h => exact .of_eq hexec ⟨hrdy, husable, fun h7 h0 _ => absurd ⟨by rw [h7]; rfl, h0⟩ h, (hkept.mono (by decide)).only⟩
  case reload =>
    obtain ⟨htwo, hshown⟩ := State.reloadStart_due hdue hrun hpend k.isLt
    exact ⟨htwo, hshown, (State.reloadStart_kept (by decide) _ (.refl s)).only⟩

end Sys2Proof.Machine
end

section
/-! THE SAFE TORQUE OFF OUTPUTS (R280-R282, R295-R301): the safety cycle's words, refresh, off-pulses and read-back. -/

namespace Sys2Proof.Machine

namespace State

variable {s : State} {o : Nat}

theorem out_setOut (s : State) (o q : Nat) (x : StoOut) : (s.setOut o x).out q = if q = o then x else s.out q :=
  tabGet_set (fun _ => defOut) s.sto.outs o q x

theorem out_congr {t : State} (h : t.sto = s.sto) (q : Nat) : t.out q = s.out q := by rw [out, h, out]

end State

/-- What a safety cycle leaves of the outputs: the tick of the cycle and the code that each accepted last. -/
structure CycleKept (s t : State) : Prop where
  at_ : t.sto.cycleAt = s.sto.cycleAt
  code : ∀ q, (t.out q).code = (s.out q).code

namespace CycleKept

variable {s t u : State}

theorem refl (s : State) : CycleKept s s := ⟨rfl, fun _ => rfl⟩

theorem trans (h : CycleKept s t) (g : CycleKept t u) : CycleKept s u := ⟨g.at_.trans h.at_, fun q => (g.code q).trans (h.code q)⟩

theorem of_sto (h : t.sto = s.sto) : CycleKept s t := ⟨by rw [h], fun q => by rw [State.out_congr h]⟩

theorem setOut {o : Nat} {x : StoOut} (h : x.code = (s.out o).code) : CycleKept s (s.setOut o x) := by
  refine ⟨rfl, fun q => ?_⟩
  rw [State.out_setOut]
  split
  case isTrue hq => rw [h, hq]
  case isFalse => rfl

theorem ite {c : Prop} [Decidable c] (ht : CycleKept s t) (hu : CycleKept s u) : CycleKept s (if c then t else u) := by
  split
  · exact ht
  · exact hu

theorem fold {β : Type} {g : State → β → State} {l : List β} (hg : ∀ t b, CycleKept t (g t b)) (s : State) : CycleKept s (l.foldl g s) := by
  induction l generalizing s with
  | nil => exact .refl s
  | cons b l ih =>
    rw [List.foldl_cons]
    exact (hg s b).trans (ih (g s b))

end CycleKept

namespace State

variable {s : State} {o : Nat}

theorem pairTo_cycleKept (s : State) (p st : Nat) : CycleKept s (s.pairTo p st) :=
  .of_sto (pairTo_kept (T := [.regs, .icu, .evt, .nw, .mem, .pwr, .obs]) (by decide) p st (.refl s)).sto_eq

theorem setSpair_cycleKept (s : State) (p : Nat) (x : SafePair) : CycleKept s (s.setSpair p x) := ⟨rfl, fun _ => rfl⟩

theorem pairCycle_cycleKept (s : State) (p : Nat) : CycleKept s (s.pairCycle p) := by
  have hto (x : SafePair) (st : Nat) : CycleKept s ((s.setSpair p x).pairTo p st) :=
    (s.setSpair_cycleKept p x).trans ((s.setSpair p x).pairTo_cycleKept p st)
  unfold pairCycle
  dsimp only
  split
  · exact .ite (hto _ _) (.refl s)
  · exact .ite (hto _ _) (.ite (hto _ _) (.refl s))
  · exact s.pairTo_cycleKept p _

theorem outTo_cycleKept (s : State) (o st : Nat) : CycleKept s (s.outTo o st) := by
  have hput : CycleKept s (s.put (fOSTATE o) st) := .of_sto (put_sto _ _ _)
  have hset (t : State) (b : Bool) : CycleKept t (t.setOut o { t.out o with discard := b, failed := false, again := false }) := .setOut rfl
  have hcount (t : State) : CycleKept t ((t.bump aSTO_DEMCNT).lifeCount (lifeOut o) 0 1) :=
    .of_sto (lifeCount_kept (T := [.regs, .icu, .evt, .nw, .mem, .pwr]) (by decide) _ _ _ (bump_kept (by decide) _ (.refl t))).sto_eq
  have htold (t : State) (l : List Nat) : CycleKept t ((t.logEv evSTO_STATE kSTO o l).raise srcSTO) :=
    .of_sto (raise_kept (T := [.regs, .icu, .evt, .nw, .pwr]) (by decide) _ (logEv_kept (by decide) _ _ _ _ (.refl t))).sto_eq
  have hstop (c : Prop) [Decidable c] (t : State) : CycleKept t (if c then t.setOut o { t.out o with discard := (t.out o).pulse || (t.out o).await, failed := false, again := false } else t) :=
    .ite (hset t _) (.refl t)
  have hcounted (c : Prop) [Decidable c] (t : State) : CycleKept t (if c then (t.bump aSTO_DEMCNT).lifeCount (lifeOut o) 0 1 else t) :=
    .ite (hcount t) (.refl t)
  unfold outTo
  dsimp only
  exact .ite (.refl s) (((hput.trans (hstop _ _)).trans (hcounted _ _)).trans (htold _ _))

theorem outCycle_cycleKept (s : State) (epoch changed : Bool) (o : Nat) : CycleKept s (s.outCycle epoch changed o) := by
  have hto (st : Nat) : CycleKept s (s.outTo o st) := s.outTo_cycleKept o st
  have hlock (t : State) (l : Tab Bool) : CycleKept t { t with sto := { t.sto with nwLocked := l } } := ⟨rfl, fun _ => rfl⟩
  have hclass (cls : Nat) : CycleKept s (s.put (fOCLASS o) cls) := .of_sto (put_sto _ _ _)
  unfold outCycle
  dsimp only
  exact .ite ((hlock _ _).trans (outTo_cycleKept _ _ _)) (.ite ((hclass _).trans (outTo_cycleKept _ _ _))
    (.ite (.ite (hto _) (.refl s)) (.ite (.ite (hto _) (.ite (hto _) (.refl s))) (.ite (hto _) (.refl s)))))

/-- No output holds a fault any more (R298). -/
def unfaulted (s : State) : State := (List.range 8).foldl (fun s o => s.setOut o { s.out o with fault := 0 }) s

/-- Nor does a restart wait (R299). -/
def faultsTaken (s : State) : State := { s.unfaulted with sto := { s.unfaulted.sto with srstOp := false } }

/-- The observations of the pairs and outputs and the words of the cycle (R280, R168). -/
def cycleSent (s : State) : State := ((List.range 8).foldl outObs ((List.range 8).foldl pairObs s)).sendWords

theorem safetyCycle_eq (epoch : Bool) (h : s.sfcRuns = true) : ∃ t, CycleKept s t ∧ s.safetyCycle epoch = t.faultsTaken.cycleSent := by
  have hreread : CycleKept s { s with sto := { s.sto with reread := false } } := ⟨rfl, fun _ => rfl⟩
  have hpairs (t : State) : CycleKept t ((List.range 8).foldl pairCycle t) := .fold pairCycle_cycleKept t
  have hseal (c : Bool) (t : State) (l : List Nat) : CycleKept t (if c then (t.putFlag fSTO_CHANGED true).logEv evSEAL_CHANGED kSTO 0 l else t) :=
    .ite (.of_sto (logEv_kept (T := [.regs, .evt]) (by decide) _ _ _ _ (putFlag_kept (by decide) _ _ (.refl t))).sto_eq) (.refl t)
  have houts (t : State) (c : Bool) : CycleKept t (if t.midnight then t else (List.range 8).foldl (fun s o => s.outCycle epoch c o) t) :=
    .ite (.refl t) (.fold (fun t o => t.outCycle_cycleKept epoch c o) t)
  have hgroup (t : State) : CycleKept t (t.outGroup evSTO_OUT_FAULT) :=
    .of_sto (outGroup_kept (T := [.regs, .icu, .nw, .pwr]) (by decide) _ (.refl t)).sto_eq
  unfold safetyCycle
  rw [h, if_neg (by decide)]
  dsimp only
  exact ⟨_, (((((hreread.trans (hpairs _)).trans (hseal _ _ _)).trans (houts _ _)).trans (hgroup _))), rfl⟩

/-- A fold that sets each output in turn from its own state and the registers does to each what its own turn does. -/
theorem out_foldSet (f : State → Nat → StoOut) (hf : ∀ t u q, t.out q = u.out q → t.regs = u.regs → f t q = f u q) (n : Nat) (t : State) :
    Kept [.sto] t ((List.range n).foldl (fun s o => s.setOut o (f s o)) t)
      ∧ ∀ q, ((List.range n).foldl (fun s o => s.setOut o (f s o)) t).out q = if q < n then f t q else t.out q := by
  induction n with
  | zero => exact ⟨.refl t, fun q => (if_neg (Nat.not_lt_zero q)).symm⟩
  | succ n ih =>
    obtain ⟨hkept, hout⟩ := ih
    rw [List.range_succ, List.foldl_append, List.foldl_cons, List.foldl_nil]
    generalize (List.range n).foldl (fun s o => s.setOut o (f s o)) t = u at hkept hout ⊢
    refine ⟨setOut_kept (by decide) _ _ hkept, fun q => ?_⟩
    rw [out_setOut]
    split
    case isTrue h =>
      subst h
      rw [if_pos (Nat.lt_succ_self q)]
      exact hf u t q ((hout q).trans (if_neg (Nat.lt_irrefl q))) hkept.regs_eq
    case isFalse h =>
      rw [hout]
      exact if_congr (by omega) rfl rfl

theorem unfaulted_out (t : State) : CycleKept t t.unfaulted ∧ ∀ q < 8, t.unfaulted.out q = { t.out q with fault := 0 } := by
  obtain ⟨-, hout⟩ := out_foldSet (fun s o => { s.out o with fault := 0 }) (fun t u q h _ => by rw [h]) 8 t
  exact ⟨.fold (fun u o => CycleKept.setOut (x := { u.out o with fault := 0 }) rfl) t, fun q hq => (hout q).trans (if_pos hq)⟩

theorem faultsTaken_effect (t : State) : CycleKept t t.faultsTaken ∧ t.faultsTaken.sto.srstOp = false ∧ ∀ q < 8, (t.faultsTaken.out q).fault = 0 := by
  obtain ⟨hkept, hout⟩ := t.unfaulted_out
  unfold faultsTaken
  generalize t.unfaulted = u at hkept hout ⊢
  exact ⟨hkept.trans ⟨rfl, fun _ => rfl⟩, rfl, fun q hq => congrArg StoOut.fault (hout q hq)⟩

/-- Every output has its word of this cycle: ON in RUN, with the code after the last that it accepted (R280, R281). -/
structure WordsSent (s u : State) : Prop where
  srst : u.sto.srstOp = false
  at_ : u.sto.cycleAt = s.sto.cycleAt
  word : ∀ q < 8, (u.out q).word = some (u.get (fOSTATE q) == 3, ((s.out q).code + 1) % 256) ∧ (u.out q).fault = 0

/-- An output with its word of this cycle (R280, R281). -/
def worded (s : State) (o : Nat) : StoOut := { s.out o with word := some (s.get (fOSTATE o) == 3 && (s.out o).fault == 0, ((s.out o).code + 1) % 256) }

theorem worded_congr {t : State} (o : Nat) (hout : t.out o = s.out o) (hregs : t.regs = s.regs) : t.worded o = s.worded o := by
  rw [worded, hout, get, rd, hregs, worded, get, rd]

theorem sendWords_marks (t : State) : t.sendWords.sto.srstOp = t.sto.srstOp ∧ t.sendWords.sto.cycleAt = t.sto.cycleAt := by
  have hset (n : Nat) : ((List.range n).foldl (fun s o => s.setOut o (s.worded o)) t).sto.srstOp = t.sto.srstOp
      ∧ ((List.range n).foldl (fun s o => s.setOut o (s.worded o)) t).sto.cycleAt = t.sto.cycleAt := by
    induction n with
    | zero => exact ⟨rfl, rfl⟩
    | succ n ih =>
      rw [List.range_succ, List.foldl_append, List.foldl_cons, List.foldl_nil]
      exact ih
  exact hset 8

theorem cycleSent_marks (t : State) : t.cycleSent.sto.srstOp = t.sto.srstOp ∧ t.cycleSent.sto.cycleAt = t.sto.cycleAt ∧ t.cycleSent.regs = t.regs
    ∧ ∀ q < 8, t.cycleSent.out q = t.worded q := by
  have hobs : Kept [.obs] t ((List.range 8).foldl outObs ((List.range 8).foldl pairObs t)) :=
    .fold (fun _ _ h => outObs_kept (by decide) _ h) (.fold (fun _ _ h => pairObs_kept (by decide) _ h) (.refl t))
  unfold cycleSent
  generalize (List.range 8).foldl outObs ((List.range 8).foldl pairObs t) = u at hobs ⊢
  obtain ⟨hkept, hout⟩ := out_foldSet worded (fun t u q => t.worded_congr (s := u) q) 8 u
  obtain ⟨hsrst, hat⟩ := u.sendWords_marks
  exact ⟨hsrst.trans (by rw [hobs.sto_eq]), hat.trans (by rw [hobs.sto_eq]), hkept.regs_eq.trans hobs.regs_eq, fun q hq => (hout q).trans ((if_pos hq).trans
    (worded_congr q (out_congr hobs.sto_eq q) hobs.regs_eq))⟩

theorem safetyCycle_sent (epoch : Bool) (h : s.sfcRuns = true) : WordsSent s (s.safetyCycle epoch) := by
  obtain ⟨t, hkept, heq⟩ := safetyCycle_eq epoch h
  obtain ⟨htaken, hsrst, hout⟩ := t.faultsTaken_effect
  rw [heq]
  generalize t.faultsTaken = u at htaken hout hsrst ⊢
  obtain ⟨hsrst', hat', hregs, hout'⟩ := u.cycleSent_marks
  refine ⟨hsrst'.trans hsrst, hat'.trans (hkept.trans htaken).at_, fun q hq => ?_⟩
  have hcode : (u.out q).code = (s.out q).code := (hkept.trans htaken).code q
  have hfault : (u.out q).fault = 0 := hout q hq
  have hstate : u.cycleSent.get (fOSTATE q) = u.get (fOSTATE q) := by rw [get, rd, hregs, get, rd]
  rw [hout' q hq, hstate, worded]
  dsimp only
  rw [hcode, hfault, beq_self_eq_true, Bool.and_true]
  exact ⟨rfl, rfl⟩

-- Refresh words (R281)

theorem outSwitch_on (s : State) (o q : Nat) (on : Bool) : (s.outSwitch o on).out q = if q = o ∧ (s.out o).on ≠ on then { s.out o with on := on, since := s.grid.tick } else s.out q := by
  have hobs (t : State) : (t.outObs o).out q = t.out q := out_congr (outObs_kept (T := [.obs]) (by decide) _ (.refl t)).sto_eq q
  unfold outSwitch
  dsimp only
  split
  case isTrue h => rw [if_neg fun hne => hne.2 (beq_iff_eq.1 h)]
  case isFalse h =>
    rw [hobs, out_setOut]
    exact if_congr ⟨fun hq => ⟨hq, fun he => h (beq_iff_eq.2 he)⟩, fun hq => hq.1⟩ rfl rfl

/-- An output is switched as commanded; its codes and its last acceptance stand. -/
structure Switched (o : Nat) (on : Bool) (s u : State) : Prop where
  on_ : (u.out o).on = on
  code : (u.out o).code = (s.out o).code
  word : (u.out o).word = (s.out o).word
  acc : (u.out o).acc = (s.out o).acc
  others : ∀ q, q ≠ o → u.out q = s.out q

theorem outSwitch_switched (s : State) (o : Nat) (on : Bool) : Switched o on s (s.outSwitch o on) := by
  have hout (q : Nat) := s.outSwitch_on o q on
  by_cases h : (s.out o).on = on
  case pos =>
    have hsame : (s.outSwitch o on).out o = s.out o := (hout o).trans (if_neg fun hne => hne.2 h)
    exact ⟨(congrArg StoOut.on hsame).trans h, congrArg StoOut.code hsame, congrArg StoOut.word hsame, congrArg StoOut.acc hsame,
      fun q hq => (hout q).trans (if_neg fun hne => hq hne.1)⟩
  case neg =>
    have hnew : (s.outSwitch o on).out o = { s.out o with on := on, since := s.grid.tick } := (hout o).trans (if_pos ⟨rfl, h⟩)
    exact ⟨by rw [hnew], by rw [hnew], by rw [hnew], by rw [hnew],
      fun q hq => (hout q).trans (if_neg fun hne => hq hne.1)⟩

/-- The word is an ON word of the next code, uncorrupted (R281). -/
def wordOk (s : State) (o flip : Nat) (on : Bool) (code : Nat) : Bool := on && flip == 0 && code == ((s.out o).code + 1) % 256

/-- A refresh word is taken: the output is on only for a good ON word outside Midnight (R281, R301). -/
structure Refreshed (o : Nat) (ok : Bool) (code : Nat) (s u : State) : Prop where
  word : (u.out o).word = none
  on_ : (u.out o).on = (ok && !s.midnight)
  code_ : (u.out o).code = if ok then code else (s.out o).code
  acc : (u.out o).on = true → (u.out o).acc = s.grid.tick
  others : ∀ q, q ≠ o → u.out q = s.out q

theorem refreshWord_refreshed {on : Bool} {code : Nat} (flip : Nat) (hword : (s.out o).word = some (on, code)) :
    Refreshed o (s.wordOk o flip on code) code s (s.refreshWord o flip) := by
  have hset (x : StoOut) : (s.setOut o x).out o = x := (s.out_setOut o o x).trans (if_pos rfl)
  have hother (t : State) (x : StoOut) (q : Nat) (hq : q ≠ o) : (t.setOut o x).out q = t.out q := (t.out_setOut o q x).trans (if_neg hq)
  have hmid (x : StoOut) : (s.setOut o x).midnight = s.midnight := rfl
  unfold refreshWord
  dsimp only
  rw [hword]
  dsimp only
  rw [← wordOk, hmid]
  generalize s.wordOk o flip on code = ok
  by_cases hoff : s.midnight = true ∨ (!ok) = true
  case pos =>
    rw [if_pos hoff]
    obtain ⟨hon, hcode, hw, -, hothers⟩ := (s.setOut o { s.out o with word := none, code := if ok then code else (s.out o).code }).outSwitch_switched o false
    rw [hset] at hcode hw
    refine ⟨hw, hon.trans ?_, hcode, fun h => absurd (hon.symm.trans h) Bool.false_ne_true, fun q hq => (hothers q hq).trans (hother _ _ q hq)⟩
    obtain h | h := hoff
    · rw [h, Bool.not_true, Bool.and_false]
    · rw [Bool.not_eq_true'] at h
      rw [h, Bool.false_and]
  case neg =>
    rw [if_neg hoff]
    obtain ⟨hmn, hok⟩ := not_or.1 hoff
    rw [Bool.not_eq_true] at hmn
    rw [Bool.not_eq_true', Bool.not_eq_false] at hok
    have hacc (t : State) (c : Nat) (ht : t.out o = { s.out o with word := none, code := c }) (htick : t.grid.tick = s.grid.tick) (hrest : ∀ q, q ≠ o → t.out q = s.out q) :
        (∀ q, q ≠ o → (t.setOut o { t.out o with acc := t.grid.tick }).out q = s.out q)
          ∧ (t.setOut o { t.out o with acc := t.grid.tick }).out o = { s.out o with word := none, code := c, acc := s.grid.tick } := by
      refine ⟨fun q hq => (hother t _ q hq).trans (hrest q hq), ?_⟩
      rw [out_setOut, if_pos rfl, ht, htick]
    obtain ⟨hrest, hthis⟩ := hacc (s.setOut o { s.out o with word := none, code := if ok then code else (s.out o).code }) _ (hset _) rfl (hother s _)
    generalize (s.setOut o { s.out o with word := none, code := if ok then code else (s.out o).code }).setOut o _ = t at hrest hthis ⊢
    obtain ⟨hon, hcode, hw, hacc', hothers⟩ := t.outSwitch_switched o true
    rw [hthis] at hcode hw hacc'
    exact ⟨hw, hon.trans (by rw [hok, hmn]; rfl), hcode, fun _ => hacc', fun q hq => (hothers q hq).trans (hrest q hq)⟩

theorem refreshWord_none (flip : Nat) (hword : (s.out o).word = none) : s.refreshWord o flip = s := by
  unfold refreshWord
  dsimp only
  rw [hword]

/-- 5 ms without an accepted ON word (R281, R432). -/
def refreshLost (s : State) (o : Nat) : State := ((s.outOff o).logEv evSTO_REFRESH kSTO o []).fltSet 11 evSTO_REFRESH

theorem refreshTimeout_due (hon : (s.out o).on = true) (hacc : (s.out o).acc + 125000 ≤ s.grid.tick) : s.refreshTimeout o = s.refreshLost o := by
  unfold refreshTimeout
  dsimp only
  rw [hon, decide_eq_true hacc]
  rfl

theorem refreshTimeout_not_due (h : (s.out o).on = false ∨ s.grid.tick < (s.out o).acc + 125000) : s.refreshTimeout o = s := by
  unfold refreshTimeout
  dsimp only
  refine if_neg ?_
  obtain h | h := h
  · rw [h, Bool.false_and]
    exact Bool.false_ne_true
  · rw [decide_eq_false (by omega), Bool.and_false]
    exact Bool.false_ne_true

theorem refreshLost_effect (s : State) (ho : o < 8) : ((s.refreshLost o).out o).on = false ∧ (s.refreshLost o).flag (fFLT_GROUP 11) = true
    ∧ Logged s (s.refreshLost o) evSTO_REFRESH (kSTO * 4096 + o) := by
  have hsto : Kept [.obs, .sto] s (s.outOff o) := outSwitch_kept (by decide) _ _ (.refl s)
  have hwr : Wr [] s (s.outOff o) := outSwitch_wr (by decide) _ _ (.refl s)
  have hoff : ((s.outOff o).out o).on = false := (s.outSwitch_switched o false).on_
  unfold refreshLost
  generalize s.outOff o = t at hsto hwr hoff ⊢
  have hflt := fltSet_kept (T := [.regs, .icu, .nw, .pwr]) (by decide) 11 evSTO_REFRESH (.refl (t.logEv evSTO_REFRESH kSTO o []))
  have hlog := logEv_kept (T := [.regs, .evt]) (by decide) evSTO_REFRESH kSTO o [] (.refl t)
  refine ⟨?_, fltSet_flag _ _ (by decide) (by decide), logged_logEv kSTO o [] (hwr.logOpen (by rw [hsto.evt_eq]) hsto.pwr_eq) (by rw [hsto.evt_eq]) (by rw [hflt.evt_eq])
    (by rw [Nat.mod_eq_of_lt (by omega)])⟩
  rw [out_congr (hflt.sto_eq.trans hlog.sto_eq)]
  exact hoff

-- Off-pulses (R295)

theorem flag_OPULSE (t : State) (b : Bool) (ho : o < 8) : (t.putFlag (fOPULSE o) b).flag (fOPULSE o) = b :=
  t.flag_putFlag (fOPULSE o) b (by unfold fOPULSE; dsimp only; omega) Nat.one_pos

/-- The pulse's turn: by the schedule, or 10 ms after the start of one that failed (R295). -/
def pulseDue (s : State) (o : Nat) (again : Bool) : Bool :=
  if again then s.sfcRuns && (s.out o).failed && (s.out o).start + 250000 == s.grid.tick else s.stoDue (1562500 * o) 12500000

theorem pulseStart_begins {again : Bool} (hdue : s.pulseDue o again = true) (hskip : (s.out o).skip = false) (hrun : s.get (fOSTATE o) = 3)
    (hmn : s.midnight = false) (ho : o < 8) : ((s.pulseStart o again).out o).pulse = true ∧ ((s.pulseStart o again).out o).width = 250 * s.get fSTO_PW
      ∧ ((s.pulseStart o again).out o).again = again ∧ (s.pulseStart o again).flag (fOPULSE o) = true := by
  unfold pulseStart
  dsimp only
  rw [← pulseDue, hdue, hskip, if_neg (by decide), if_neg Bool.false_ne_true, if_neg (by rw [hrun, hmn]; decide), out_congr (putFlag_sto _ _ _), out_setOut, if_pos rfl,
    flag_OPULSE _ _ ho]
  exact ⟨rfl, rfl, rfl, rfl⟩

theorem pulseStart_skipped {again : Bool} (hdue : s.pulseDue o again = true) (hskip : (s.out o).skip = true) :
    s.pulseStart o again = s.setOut o { s.out o with skip := false, failed := false } := by
  unfold pulseStart
  dsimp only
  rw [← pulseDue, hdue, if_neg (by decide), if_pos hskip]

theorem pulseStart_none {again : Bool} (h : s.pulseDue o again = false ∨ ((s.out o).skip = false ∧ (s.get (fOSTATE o) ≠ 3 ∨ s.midnight = true))) :
    s.pulseStart o again = s := by
  unfold pulseStart
  dsimp only
  rw [← pulseDue]
  obtain h | ⟨hskip, h⟩ := h
  · rw [h]
    rfl
  · rw [hskip, if_neg Bool.false_ne_true, if_pos h, ite_self]

theorem pulseOver_due (hpulse : (s.out o).pulse = true) (hend : (s.out o).start + (s.out o).width ≤ s.grid.tick) (ho : o < 8) :
    ((s.pulseOver o).out o).pulse = false ∧ (s.pulseOver o).flag (fOPULSE o) = false := by
  unfold pulseOver
  dsimp only
  rw [hpulse, decide_eq_false (by omega), if_neg (by decide), pulseEnd, out_congr (putFlag_sto _ _ _), out_setOut, if_pos rfl, flag_OPULSE _ _ ho]
  exact ⟨rfl, rfl⟩

theorem pulseOver_not_due (h : (s.out o).pulse = false ∨ s.grid.tick < (s.out o).start + (s.out o).width) : s.pulseOver o = s := by
  unfold pulseOver
  dsimp only
  refine if_pos ?_
  obtain h | h := h
  · rw [h, Bool.not_false, Bool.true_or]
  · rw [decide_eq_true h, Bool.or_true]

-- Read-backs (R295, R296)

/-- The read-back's instant: in the pulse, or after it (R295). -/
def readbackNow (s : State) (o : Nat) (second : Bool) : Prop :=
  (s.out o).await = true ∧ (s.out o).pulse = (!second) ∧ (s.out o).start + 1500 + (if second then (s.out o).width else 0) ≤ s.grid.tick

theorem pulseReadback_off {second : Bool} (below5 above15 : Nat) (h : ¬ s.readbackNow o second) : s.pulseReadback o second below5 above15 = s := by
  unfold pulseReadback
  dsimp only
  refine if_pos ?_
  by_contra hf
  refine h ?_
  rw [Bool.not_eq_true, Bool.or_eq_false_iff, Bool.or_eq_false_iff, Bool.not_eq_false', decide_eq_false_iff_not, Nat.not_lt] at hf
  obtain ⟨⟨hawait, hpulse⟩, htick⟩ := hf
  exact ⟨hawait, Bool.eq_not_of_ne (beq_eq_false_iff_ne.1 hpulse), htick⟩

theorem pulseReadback_now {second : Bool} (below5 above15 : Nat) (h : s.readbackNow o second) : s.pulseReadback o second below5 above15 =
    if !second then s.setOut o { s.out o with hi := !bitOf below5 o, cross := s.othersLow o above15 }
    else (s.setOut o { s.out o with await := false, lo := !bitOf above15 o, other := s.othersLow o above15 != 0 }).pulseJudge o := by
  obtain ⟨hawait, hpulse, htick⟩ := h
  unfold pulseReadback
  dsimp only
  refine if_neg ?_
  rw [hawait, hpulse, decide_eq_false (by omega)]
  cases second <;> decide

/-- A pulse in which the output fell, nothing else did and it rose again counts as a test (R295, R415). -/
theorem pulseJudge_passed (hdiscard : (s.out o).discard = false) (hhi : (s.out o).hi = false) (hlo : (s.out o).lo = false) (hcross : (s.out o).cross = 0)
    (hother : (s.out o).other = false) : (s.pulseJudge o |>.out o).failed = false ∧ (s.pulseJudge o).rd aSTO_TESTCNT = s.rd aSTO_TESTCNT + 1 := by
  have hcount (t : State) := lifeCount_kept (T := [.regs, .icu, .evt, .nw, .mem, .pwr]) (by decide) (lifeOut o) 4 1 (bump_kept (by decide) aSTO_TESTCNT (.refl t))
  have hrd (t : State) : ((t.bump aSTO_TESTCNT).lifeCount (lifeOut o) 4 1).rd aSTO_TESTCNT = t.rd aSTO_TESTCNT + 1 :=
    ((lifeCount_wr (R := [(0x270, 0), (0x290, 0), (0x2A8, 0), (0x5014, 0), (0x1B070, 0)]) (by decide) (lifeOut o) 4 1 (.refl (t.bump aSTO_TESTCNT))).eq _
      (by decide)).trans (t.rd_bump aSTO_TESTCNT)
  unfold pulseJudge
  dsimp only
  rw [hdiscard, hhi, hlo, hcross, hother, if_neg Bool.false_ne_true, if_pos (by decide), out_congr (hcount _).sto_eq, hrd, out_setOut, if_pos rfl]
  exact ⟨rfl, rfl⟩

theorem pulseJudge_failed (hdiscard : (s.out o).discard = false) (hagain : (s.out o).again = false)
    (hbad : (s.out o).hi = true ∨ (s.out o).cross ≠ 0 ∨ (s.out o).lo = true) :
    s.pulseJudge o = s.setOut o { s.out o with failed := true, fHi := (s.out o).hi, fLo := (s.out o).lo, fCross := (s.out o).cross } := by
  have hnot : (!(s.out o).hi && !(s.out o).lo && (s.out o).cross == 0 && !(s.out o).other) = false := by
    obtain h | h | h := hbad
    · simp [h]
    · simp [h]
    · simp [h]
  unfold pulseJudge
  dsimp only
  rw [hdiscard, if_neg Bool.false_ne_true, hnot, if_neg Bool.false_ne_true, hagain]
  rfl

/-- A fault class is latched, told, and raises its group; the output keeps its state until the next cycle (R296). -/
structure OutFaulted (o cls : Nat) (s u : State) : Prop where
  fault : (u.out o).fault = cls
  logged : Logged s u evSTO_OUT_FAULT (kSTO * 4096 + o)
  state : u.get (fOSTATE o) = s.get (fOSTATE o)

/-- The output with its fault class latched, in SFC and in Nightwatch (R296). -/
def faultTaken (s : State) (o cls : Nat) : State :=
  let t := ((s.setOut o { s.out o with fault := cls }).put (fOCLASS o) cls).putFlag (fOPULSE o) ((s.setOut o { s.out o with fault := cls }).out o).pulse
  { t with sto := { t.sto with nwFault := tabSet (fun _ => 0) t.sto.nwFault o cls } }

theorem outFault_eq (h4 : s.get (fOSTATE o) ≠ 4) (h5 : s.get (fOSTATE o) ≠ 5) (hfault : (s.out o).fault = 0) (cls : Nat) :
    s.outFault o cls = (((s.faultTaken o cls).logEv evSTO_OUT_FAULT kSTO o [cls]).raise srcSTO).outGroup evSTO_OUT_FAULT := by
  unfold outFault
  rw [if_neg (by simp [h4, h5, hfault])]
  rfl

theorem faultTaken_out (s : State) (o cls : Nat) : ((s.faultTaken o cls).out o).fault = cls := by
  have hmark (t : State) (l : Tab Nat) : ({ t with sto := { t.sto with nwFault := l } } : State).out o = t.out o := rfl
  unfold faultTaken
  dsimp only
  rw [hmark, out_congr (putFlag_sto _ _ _), out_congr (put_sto _ _ _), out_setOut, if_pos rfl]

theorem faultTaken_state (s : State) (cls : Nat) (ho : o < 8) : (s.faultTaken o cls).get (fOSTATE o) = s.get (fOSTATE o) := by
  have hmark (t : State) (x : Sto) : ({ t with sto := x } : State).get (fOSTATE o) = t.get (fOSTATE o) := rfl
  unfold faultTaken
  dsimp only
  rw [hmark, get_putFlag_apart (f := fOPULSE o) (g := fOSTATE o) _ _ (by unfold fOPULSE; dsimp only; omega) rfl (.inl (by unfold fOPULSE fOSTATE; dsimp only; omega)), get_put_addr _ _ (show aSTO_OSTAT ≠ aSTO_OFLT by decide)]
  rfl

theorem outFault_faulted (h4 : s.get (fOSTATE o) ≠ 4) (h5 : s.get (fOSTATE o) ≠ 5) (hfault : (s.out o).fault = 0) (ho : o < 8) (cls : Nat) :
    OutFaulted o cls s (s.outFault o cls) := by
  have hkept : Kept [.regs, .sto] s (s.faultTaken o cls) :=
    Kept.upd_sto (putFlag_kept (by decide) _ _ (put_kept (by decide) _ _ (setOut_kept (by decide) _ _ (.refl s)))) (by decide)
  have hwr : Wr [(aSTO_OFLT, 0), (aSTO_OSTAT, 0)] s (s.faultTaken o cls) :=
    (putFlag_wr (hit_one (by simp [fOPULSE])) (put_wr (hit_one (by simp [fOCLASS])) (setOut_wr (List.nil_subset _) _ _ (.refl s)))).upd
  have hout := s.faultTaken_out o cls
  have hstate := s.faultTaken_state cls ho
  rw [outFault_eq h4 h5 hfault]
  generalize s.faultTaken o cls = t at hkept hwr hout hstate ⊢
  have hlog := logEv_kept (T := [.regs, .icu, .evt, .nw, .pwr]) (by decide) evSTO_OUT_FAULT kSTO o [cls] (.refl t)
  have htold := outGroup_kept (T := [.regs, .icu, .nw, .pwr]) (by decide) evSTO_OUT_FAULT (raise_kept (by decide) srcSTO (.refl (t.logEv evSTO_OUT_FAULT kSTO o [cls])))
  have hrest : Wr [(0x270, 0), (0x2A0, 0), (0x2A4, 0), (0x2A8, 0), (0x5014, 0), (0x1B070, 0)] t (((t.logEv evSTO_OUT_FAULT kSTO o [cls]).raise srcSTO).outGroup evSTO_OUT_FAULT) :=
    outGroup_wr (by decide) _ (raise_wr (by decide) _ (logEv_wr (by decide) _ _ _ _ (.refl t)))
  refine ⟨(congrArg StoOut.fault (out_congr (htold.sto_eq.trans hlog.sto_eq) o)).trans hout,
    logged_logEv kSTO o [cls] (hwr.logOpen (by rw [hkept.evt_eq]) hkept.pwr_eq) (by rw [hkept.evt_eq]) (by rw [htold.evt_eq]) (by rw [Nat.mod_eq_of_lt (by omega)]),
    (hrest.get _ rfl).trans hstate⟩

theorem readbackFault_confirmed {high : Bool} (hruns : s.sfcRuns = true) (hpulse : (s.out o).pulse = false) (hsince : (s.out o).since + 25000 ≤ s.grid.tick)
    (hon : (s.out o).on = (!high)) : s.readbackFault o high = s.outFault o (if high then 1 else 2) := by
  unfold readbackFault
  rw [hruns, hpulse, decide_eq_false (by omega), hon, if_neg (by decide)]
  cases high with
  | true => rfl
  | false => rfl

theorem readbackFault_none {high : Bool} (h : s.sfcRuns = false ∨ (s.out o).pulse = true ∨ s.grid.tick < (s.out o).since + 25000 ∨ (s.out o).on = high) :
    s.readbackFault o high = s := by
  unfold readbackFault
  obtain h | h | h | h := h
  · rw [h]
    rfl
  · rw [h, Bool.or_true, Bool.true_or, if_pos rfl]
  · rw [decide_eq_true h, Bool.or_true, if_pos rfl]
  · rw [h, Bool.not_and_self, Bool.and_not_self, if_neg Bool.false_ne_true, if_neg Bool.false_ne_true, ite_self]

theorem sfcRuns_of_cycleDue (h : s.cycleDue = true) : s.sfcRuns = true := (Bool.and_eq_true_iff.1 h).1

theorem sfcRuns_of_pulseDue {again : Bool} (h : s.pulseDue o again = true) : s.sfcRuns = true := by
  unfold pulseDue stoDue at h
  cases again with
  | true => exact (Bool.and_eq_true_iff.1 (Bool.and_eq_true_iff.1 h).1).1
  | false => exact (Bool.and_eq_true_iff.1 (Bool.and_eq_true_iff.1 h).1).1

end State

theorem exec_safetyCycle (s : State) : exec .safetyCycle s =
    if s.cycleDue then .next ({ s with sto := { s.sto with cycleAt := s.grid.tick } }.safetyCycle false) else .next s := rfl
theorem exec_stoRefreshWord (o : Fin 8) (flip : BitVec 8) (s : State) : exec (.stoRefreshWord o flip) s =
    if s.linkTurn 0 (1, 8 + o) then .next ((s.refreshWord o flip.toNat).linkDone 0 (1, 8 + o)) else .next s := rfl
theorem exec_stoRefreshTimeout (o : Fin 8) (s : State) : exec (.stoRefreshTimeout o) s = .next (s.refreshTimeout o) := rfl
theorem exec_stoOffPulseStart (o : Fin 8) (s : State) : exec (.stoOffPulseStart o) s = if s.sfcRuns then .next (s.pulseStart o false) else .next s := rfl
theorem exec_stoOffPulseEnd (o : Fin 8) (s : State) : exec (.stoOffPulseEnd o) s = .next (s.pulseOver o) := rfl
theorem exec_stoPulseReadback (o : Fin 8) (second : Bool) (below5 above15 : BitVec 8) (s : State) : exec (.stoPulseReadback o second below5 above15) s =
    if s.sfcRuns then .next (s.pulseReadback o second below5.toNat above15.toNat) else .next s := rfl
theorem exec_stoPulseRepeat (o : Fin 8) (s : State) : exec (.stoPulseRepeat o) s = if s.sfcRuns then .next (s.pulseStart o true) else .next s := rfl
theorem exec_stoReadbackTimeout (o : Fin 8) (high : Bool) (s : State) : exec (.stoReadbackTimeout o high) s = .next (s.readbackFault o high) := rfl

/-- Settles O26. -/
theorem stoOutputs : Obligations.StoOutputs := by
  intro o flip below5 above15 high on code s x due again turn low judged
  have hagain : s.pulseDue o true = true ↔ again := by
    rw [State.pulseDue, if_pos rfl, Bool.and_eq_true, Bool.and_eq_true, beq_iff_eq, and_assoc]
  have hdue : s.pulseDue o false = true ↔ due := Iff.rfl
  have hstart (h : s.sfcRuns = true) := (exec_stoOffPulseStart o s).trans (if_pos h)
  have hrepeat (h : s.sfcRuns = true) := (exec_stoPulseRepeat o s).trans (if_pos h)
  have hread (second : Bool) (h : s.sfcRuns = true) := (exec_stoPulseReadback o second below5 above15 s).trans (if_pos h)
  have hjudged (h : judged) : s.readbackNow o true := h
  have hlow (h : low) : s.readbackNow o false := h
  have hset (y : StoOut) : (s.setOut o y).out o = y := (s.out_setOut o o y).trans (if_pos rfl)
  refine ⟨fun h => ?cycle, fun h => .of_eq ((exec_safetyCycle s).trans (if_neg (by rw [h]; decide))) rfl, fun h => ?stopped,
    fun hturn hword => ?word, fun hturn hword => ?noWord, fun h => .of_eq ((exec_stoRefreshWord o flip s).trans (if_neg h)) rfl,
    fun hon hacc => ?lost, fun h => .of_eq (exec_stoRefreshTimeout o s) (State.refreshTimeout_not_due h),
    fun h hskip hrun hmn => ?start, fun h hskip hrun hmn => ?repeated, fun hskip => ?skip, fun h => ?noStart, fun h => ?noRepeat,
    fun hpulse hend => ?ended, fun h => .of_eq (exec_stoOffPulseEnd o s) (State.pulseOver_not_due h),
    fun hruns hj hdiscard hhi hcross hup hothers => ?passed, fun hruns hj hdiscard hag hbad => ?failed, fun hruns hl => ?fell, fun h => ?noSecond, fun h => ?noFirst,
    fun hruns hpulse hsince hon h4 h5 hfault => ?confirmed, fun h => .of_eq (exec_stoReadbackTimeout o high s) (State.readbackFault_none (.inr h))⟩
  case cycle =>
    have hruns := State.sfcRuns_of_cycleDue h
    have hat : Kept [.sto] s { s with sto := { s.sto with cycleAt := s.grid.tick } } := (Kept.refl s).upd_sto (by decide)
    have hsent : State.WordsSent _ _ := State.safetyCycle_sent (s := { s with sto := { s.sto with cycleAt := s.grid.tick } }) false hruns
    exact .of_eq ((exec_safetyCycle s).trans (if_pos h)) ⟨hsent.srst, hsent.at_, hsent.word, (State.safetyCycle_kept (by decide) false (hat.mono (by decide))).only⟩
  case stopped =>
    intro c hc
    simp only [List.mem_cons, List.not_mem_nil, or_false] at hc
    obtain rfl | rfl | rfl | rfl | rfl := hc
    · exact .of_eq ((exec_safetyCycle s).trans (if_neg fun hcd => by rw [State.sfcRuns_of_cycleDue hcd] at h; exact absurd h (by decide))) rfl
    · exact .of_eq ((exec_stoOffPulseStart o s).trans (if_neg (by rw [h]; decide))) rfl
    · exact .of_eq ((exec_stoPulseRepeat o s).trans (if_neg (by rw [h]; decide))) rfl
    · exact .of_eq ((exec_stoPulseReadback o on below5 above15 s).trans (if_neg (by rw [h]; decide))) rfl
    · exact .of_eq (exec_stoReadbackTimeout o high s) (State.readbackFault_none (.inl h))
  case word =>
    obtain ⟨hw, hon, hcode, hacc, hothers⟩ := State.refreshWord_refreshed flip.toNat hword
    have hlink : Kept [.link] (s.refreshWord o flip.toNat) _ := State.linkDone_kept (by decide) 0 (1, 8 + o.val) (.refl _)
    have hout (q : Nat) := State.out_congr hlink.sto_eq q
    refine .of_eq ((exec_stoRefreshWord o flip s).trans (if_pos hturn)) ?_
    rw [hout]
    exact ⟨hw, hon, hcode, hacc, fun q hq => (hout q).trans (hothers q hq), (State.linkDone_kept (by decide) 0 _ (State.refreshWord_kept (by decide) o flip.toNat (.refl s))).only⟩
  case noWord =>
    refine .of_eq ((exec_stoRefreshWord o flip s).trans (if_pos hturn)) ?_
    rw [State.refreshWord_none _ hword]
    exact (State.linkDone_kept (by decide) 0 _ (.refl s)).only
  case lost =>
    obtain ⟨hoff, hgroup, hlogged⟩ := s.refreshLost_effect o.isLt
    refine .of_eq ((exec_stoRefreshTimeout o s).trans (congrArg _ (State.refreshTimeout_due hon hacc))) ⟨hoff, hgroup, hlogged, ?_⟩
    exact (State.fltSet_kept (by decide) _ _ (State.logEv_kept (by decide) _ _ _ _ (State.outSwitch_kept (by decide) _ _ (.refl s)))).only
  case start =>
    obtain ⟨hpulse, hwidth, hag, hflag⟩ := State.pulseStart_begins (hdue.2 h) hskip hrun hmn o.isLt
    exact .of_eq (hstart (State.sfcRuns_of_pulseDue (hdue.2 h))) ⟨hpulse, hwidth, hag, hflag, (State.pulseStart_kept (by decide) _ _ (.refl s)).only⟩
  case repeated =>
    obtain ⟨hpulse, -, hag, hflag⟩ := State.pulseStart_begins (hagain.2 h) hskip hrun hmn o.isLt
    exact .of_eq (hrepeat h.1) ⟨hpulse, hag, hflag, (State.pulseStart_kept (by decide) _ _ (.refl s)).only⟩
  case skip =>
    rintro c (⟨rfl, h⟩ | ⟨rfl, h⟩)
    · refine .of_eq (hstart (State.sfcRuns_of_pulseDue (hdue.2 h))) ?_
      rw [State.pulseStart_skipped (hdue.2 h) hskip]
      exact ⟨hset _, (State.setOut_kept (by decide) _ _ (.refl s)).only⟩
    · refine .of_eq (hrepeat h.1) ?_
      rw [State.pulseStart_skipped (hagain.2 h) hskip]
      exact ⟨hset _, (State.setOut_kept (by decide) _ _ (.refl s)).only⟩
  case noStart =>
    have hnone := State.pulseStart_none (s := s) (o := o) (again := false) (h.imp_left fun hn => Bool.eq_false_iff.2 fun hd => hn (hdue.1 hd))
    exact .of_eq ((exec_stoOffPulseStart o s).trans (by rw [hnone, ite_self])) rfl
  case noRepeat =>
    have hnone := State.pulseStart_none (s := s) (o := o) (again := true) (h.imp_left fun hn => Bool.eq_false_iff.2 fun hd => hn (hagain.1 hd))
    exact .of_eq ((exec_stoPulseRepeat o s).trans (by rw [hnone, ite_self])) rfl
  case ended =>
    obtain ⟨hoff, hflag⟩ := State.pulseOver_due hpulse hend o.isLt
    exact .of_eq (exec_stoOffPulseEnd o s) ⟨hoff, hflag, (State.pulseOver_kept (by decide) _ (.refl s)).only⟩
  case passed =>
    refine .of_eq (hread true hruns) ?_
    rw [State.pulseReadback_now _ _ (hjudged hj), if_neg (by decide), hup, hothers]
    have hread := hset { x with await := false, lo := false, other := false }
    refine (State.pulseJudge_passed ?_ ?_ ?_ ?_ ?_ : _ ∧ (State.pulseJudge (s.setOut o _) o).rd _ = _)
    · exact (congrArg StoOut.discard hread).trans hdiscard
    · exact (congrArg StoOut.hi hread).trans hhi
    · exact congrArg StoOut.lo hread
    · exact (congrArg StoOut.cross hread).trans hcross
    · exact congrArg StoOut.other hread
  case failed =>
    refine .of_eq (hread true hruns) ?_
    rw [State.pulseReadback_now _ _ (hjudged hj), if_neg (by decide)]
    have hread := hset { x with await := false, lo := !bitOf above15.toNat o, other := s.othersLow o above15.toNat != 0 }
    rw [State.pulseJudge_failed ((congrArg StoOut.discard hread).trans hdiscard) ((congrArg StoOut.again hread).trans hag) ?_, State.out_setOut, if_pos rfl]
    · exact ⟨rfl, (State.setOut_kept (by decide) _ _ (State.setOut_kept (by decide) _ _ (.refl s))).only⟩
    · rw [hread]
      exact hbad.imp_right fun h => h.imp_right fun hb => congrArg not hb
  case fell =>
    refine .of_eq (hread false hruns) ?_
    rw [State.pulseReadback_now _ _ (hlow hl), Bool.not_false, if_pos rfl, hset]
    exact ⟨rfl, rfl, (State.setOut_kept (by decide) _ _ (.refl s)).only⟩
  case noSecond =>
    exact .of_eq ((exec_stoPulseReadback o true below5 above15 s).trans (by rw [State.pulseReadback_off _ _ (show ¬ s.readbackNow o true from h), ite_self])) rfl
  case noFirst =>
    exact .of_eq ((exec_stoPulseReadback o false below5 above15 s).trans (by rw [State.pulseReadback_off _ _ (show ¬ s.readbackNow o false from h), ite_self])) rfl
  case confirmed =>
    obtain ⟨hf, hlogged, hstate⟩ := State.outFault_faulted h4 h5 hfault o.isLt (if high then 1 else 2)
    exact .of_eq ((exec_stoReadbackTimeout o high s).trans (congrArg _ (State.readbackFault_confirmed hruns hpulse hsince hon))) ⟨hf, hlogged, hstate⟩

end Sys2Proof.Machine
end

section
/-! THE SAFETY INPUTS (R283-R293, R299): test-pulse lines and their windows, samples, discrepancy, seal rows and SRST. -/

namespace Sys2Proof.Machine

/-- What the faults of pairs leave: the inputs, the lines, the window, and each pair's count. -/
structure PairsMoved (s t : State) : Prop where
  ins : t.sto.ins = s.sto.ins
  lines : t.sto.lines = s.sto.lines
  win : t.sto.win = s.sto.win
  count : ∀ q, (t.spair q).count = (s.spair q).count

namespace State

variable {s : State}

theorem tpLine_setLine (s : State) (n m : Nat) (x : TpLine) : (s.setLine n x).tpLine m = if m = n then x else s.tpLine m :=
  tabGet_set (fun _ => defLine) s.sto.lines n m x

theorem tpLine_congr {t : State} (h : t.sto.lines = s.sto.lines) (n : Nat) : t.tpLine n = s.tpLine n := by rw [tpLine, h, tpLine]

theorem sin_setSin (s : State) (c d : Nat) (x : SafeIn) : (s.setSin c x).sin d = if d = c then x else s.sin d :=
  tabGet_set (fun _ => defIn) s.sto.ins c d x

theorem sin_congr {t : State} (h : t.sto.ins = s.sto.ins) (c : Nat) : t.sin c = s.sin c := by rw [sin, h, sin]

theorem spair_setSpair (s : State) (p q : Nat) (x : SafePair) : (s.setSpair p x).spair q = if q = p then x else s.spair q :=
  tabGet_set (fun _ => defSPair) s.sto.pairs p q x

theorem spair_congr {t : State} (h : t.sto = s.sto) (p : Nat) : t.spair p = s.spair p := by rw [spair, h, spair]

end State

namespace PairsMoved

variable {s t u : State}

theorem refl (s : State) : PairsMoved s s := ⟨rfl, rfl, rfl, fun _ => rfl⟩

theorem trans (h : PairsMoved s t) (g : PairsMoved t u) : PairsMoved s u :=
  ⟨g.ins.trans h.ins, g.lines.trans h.lines, g.win.trans h.win, fun q => (g.count q).trans (h.count q)⟩

theorem of_sto (h : t.sto = s.sto) : PairsMoved s t := ⟨by rw [h], by rw [h], by rw [h], fun q => by rw [State.spair_congr h]⟩

theorem setSpair {p : Nat} {x : SafePair} (h : x.count = (s.spair p).count) : PairsMoved s (s.setSpair p x) := by
  refine ⟨rfl, rfl, rfl, fun q => ?_⟩
  rw [State.spair_setSpair]
  split
  case isTrue hq => rw [h, hq]
  case isFalse => rfl

theorem fold {β : Type} {g : State → β → State} {l : List β} (hg : ∀ t b, PairsMoved t (g t b)) (s : State) : PairsMoved s (l.foldl g s) := by
  induction l generalizing s with
  | nil => exact .refl s
  | cons b l ih =>
    rw [List.foldl_cons]
    exact (hg s b).trans (ih (g s b))

end PairsMoved

namespace State

variable {s : State} {n : Nat}

theorem pairFaultOn_moved (s : State) (p cls c : Nat) : PairsMoved s (s.pairFaultOn p cls c) := by
  have hput (t : State) : PairsMoved t (t.put (fPCLASS p) cls) := .of_sto (put_sto _ _ _)
  have hset (t : State) : PairsMoved t (t.setSpair p { t.spair p with both := false, back := false }) := .setSpair rfl
  have htold (t : State) : PairsMoved t (((t.logEv evSAFE_PAIR_FAULT kPAIR p [cls, c]).raise srcSTO).pairTo p 2) :=
    .of_sto (pairTo_kept (T := [.regs, .icu, .evt, .nw, .mem, .pwr, .obs]) (by decide) p 2 (raise_kept (by decide) _ (logEv_kept (by decide) _ _ _ _ (.refl t)))).sto_eq
  unfold pairFaultOn
  dsimp only
  exact ((hput s).trans (hset _)).trans (htold _)

-- Test-pulse lines (R283)

/-- The registers that a pair's fault can write. -/
def pairFaultRegs : List (Nat × Nat) :=
  [(0x270, 0), (0x290, 0), (0x2A0, 0), (0x2A4, 0), (0x2A8, 0), (0x5014, 0), (0x6004, 0), (0x600C, 0), (0x1B070, 0)]

theorem flag_TP_FAULT (t : State) (b : Bool) (hn : n < 4) : (t.putFlag (fTP_FAULT n) b).flag (fTP_FAULT n) = b :=
  t.flag_putFlag (fTP_FAULT n) b (by unfold fTP_FAULT; dsimp only; omega) Nat.one_pos

theorem flag_TP_LEVEL (t : State) (b : Bool) (hn : n < 4) : (t.putFlag (fTP_LEVEL n) b).flag (fTP_LEVEL n) = b :=
  t.flag_putFlag (fTP_LEVEL n) b (by unfold fTP_LEVEL; dsimp only; omega) Nat.one_pos

theorem lineFault_effect (s : State) (cls : Nat) (hn : n < 4) : PairsMoved s (s.lineFault n cls) ∧ (s.lineFault n cls).flag (fTP_FAULT n) = true
    ∧ (s.lineFault n cls).flag (fTP_LEVEL n) = s.flag (fTP_LEVEL n) := by
  have hset := s.flag_TP_FAULT true hn
  have hlevel : (s.putFlag (fTP_FAULT n) true).flag (fTP_LEVEL n) = s.flag (fTP_LEVEL n) :=
    s.flag_putFlag_apart (f := fTP_FAULT n) (g := fTP_LEVEL n) true (by unfold fTP_FAULT; dsimp only; omega) rfl (.inl (Nat.le_refl _))
  have hmoved : PairsMoved s (s.putFlag (fTP_FAULT n) true) := .of_sto (putFlag_sto _ _ _)
  unfold lineFault
  dsimp only
  generalize s.putFlag (fTP_FAULT n) true = t at hset hlevel hmoved ⊢
  have hwr : Wr pairFaultRegs t ((List.range 4).foldl (fun s i => s.pairFaultOn (n / 2 * 4 + i) cls (2 * (n / 2 * 4 + i) + n % 2)) t) :=
    .fold (fun _ _ h => pairFaultOn_wr (by decide) _ _ _ h) (.refl t)
  exact ⟨hmoved.trans (.fold (fun u i => u.pairFaultOn_moved _ _ _) t), (hwr.flag _ rfl).trans hset, (hwr.flag _ rfl).trans hlevel⟩

/-- A failed test of a line, the second in a row a fault of it (R283). -/
structure LineFailed (n : Nat) (s u : State) : Prop where
  fails : (u.tpLine n).fails = (s.tpLine n).fails + 1
  passes : (u.tpLine n).passes = 0
  fault : (s.tpLine n).fails = 1 → u.flag (fTP_FAULT n) = true
  level : u.flag (fTP_LEVEL n) = s.flag (fTP_LEVEL n)
  lowAt : (u.tpLine n).lowAt = (s.tpLine n).lowAt

theorem lineFail_failed (s : State) (hn : n < 4) : LineFailed n s (s.lineFail n) := by
  have hset : (s.setLine n { s.tpLine n with fails := (s.tpLine n).fails + 1, passes := 0 }).tpLine n
      = { s.tpLine n with fails := (s.tpLine n).fails + 1, passes := 0 } := (s.tpLine_setLine n n _).trans (if_pos rfl)
  have hlevel (x : TpLine) : (s.setLine n x).flag (fTP_LEVEL n) = s.flag (fTP_LEVEL n) := rfl
  unfold lineFail
  dsimp only
  split
  case isTrue h =>
    obtain ⟨hmoved, hflag, hlev⟩ := (s.setLine n { s.tpLine n with fails := (s.tpLine n).fails + 1, passes := 0 }).lineFault_effect pcTP hn
    have hline := (tpLine_congr hmoved.lines n).trans hset
    exact ⟨congrArg TpLine.fails hline, congrArg TpLine.passes hline, fun _ => hflag, hlev.trans (hlevel _), by rw [hline]⟩
  case isFalse h =>
    exact ⟨congrArg TpLine.fails hset, congrArg TpLine.passes hset, fun h1 => absurd h1 h, hlevel _, by rw [hset]⟩

/-- The line has read low for 1 ms where it sources 24 V (R280, R283). -/
def lineLowDue (s : State) (n : Nat) : Prop :=
  (s.tpLine n).low = false ∧ s.sto.epoch.getD 0 + 25000 ≤ s.grid.tick ∧ ((s.tpLine n).at_ = 0 ∨ (s.tpLine n).at_ + 35000 ≤ s.grid.tick)
    ∧ ((s.tpLine n).lowAt = 0 ∨ (s.tpLine n).lowAt + 25000 ≤ s.grid.tick)

theorem lineLowDue_iff (s : State) (n : Nat) : s.lineLowDue n ↔ ((s.tpLine n).low || decide (s.grid.tick < s.sto.epoch.getD 0 + 25000)
    || decide ((s.tpLine n).at_ ≠ 0 ∧ s.grid.tick < (s.tpLine n).at_ + 35000) || decide ((s.tpLine n).lowAt ≠ 0 ∧ s.grid.tick < (s.tpLine n).lowAt + 25000)) = false := by
  rw [Bool.or_eq_false_iff, Bool.or_eq_false_iff, Bool.or_eq_false_iff, decide_eq_false_iff_not, decide_eq_false_iff_not, decide_eq_false_iff_not, lineLowDue, and_assoc, and_assoc]
  exact and_congr Iff.rfl (by omega)

theorem lineLow_due (h : s.lineLowDue n) : s.lineLow n = ((s.putFlag (fTP_LEVEL n) false).setLine n { s.tpLine n with lowAt := s.grid.tick }).lineFail n := by
  unfold lineLow
  dsimp only
  rw [(s.lineLowDue_iff n).1 h]
  rfl

theorem lineLow_not_due (h : ¬ s.lineLowDue n) : s.lineLow n = s := by
  rw [lineLowDue_iff, Bool.not_eq_false] at h
  unfold lineLow
  dsimp only
  rw [h, if_pos rfl]

theorem lineLow_failed (h : s.lineLowDue n) (hn : n < 4) : ((s.lineLow n).tpLine n).fails = (s.tpLine n).fails + 1 ∧ ((s.lineLow n).tpLine n).passes = 0
    ∧ ((s.tpLine n).fails = 1 → (s.lineLow n).flag (fTP_FAULT n) = true) ∧ (s.lineLow n).flag (fTP_LEVEL n) = false ∧ ((s.lineLow n).tpLine n).lowAt = s.grid.tick := by
  have hline : ((s.putFlag (fTP_LEVEL n) false).setLine n { s.tpLine n with lowAt := s.grid.tick }).tpLine n = { s.tpLine n with lowAt := s.grid.tick } :=
    (tpLine_setLine _ n n _).trans (if_pos rfl)
  have hlevel : ((s.putFlag (fTP_LEVEL n) false).setLine n { s.tpLine n with lowAt := s.grid.tick }).flag (fTP_LEVEL n) = false := s.flag_TP_LEVEL false hn
  rw [lineLow_due h]
  generalize (s.putFlag (fTP_LEVEL n) false).setLine n { s.tpLine n with lowAt := s.grid.tick } = t at hline hlevel ⊢
  obtain ⟨hfails, hpasses, hfault, hlev, hat⟩ := t.lineFail_failed hn
  rw [hline] at hfails hfault hat
  exact ⟨hfails, hpasses, hfault, hlev.trans hlevel, hat⟩

theorem windowStart_due (hdue : s.stoDue (312500 * n) 1250000 = true) (hskip : (s.tpLine n).skip = false) :
    ((s.windowStart n).tpLine n).low = true ∧ ((s.windowStart n).tpLine n).at_ = s.grid.tick ∧ (s.windowStart n).sto.win = some (n, s.grid.tick) := by
  have hins (g : State → Nat → SafeIn) (l : List Nat) (t : State) : (l.foldl (fun s c => s.setSin c (g s c)) t).sto.lines = t.sto.lines
      ∧ (l.foldl (fun s c => s.setSin c (g s c)) t).sto.win = t.sto.win := by
    induction l generalizing t with
    | nil => exact ⟨rfl, rfl⟩
    | cons c l ih =>
      rw [List.foldl_cons]
      exact ih (t.setSin c (g t c))
  unfold windowStart
  dsimp only
  rw [hdue, if_neg (by decide), if_neg (by rw [hskip]; decide), (hins _ _ _).2]
  have hline := (tpLine_setLine s n n { s.tpLine n with low := true, at_ := s.grid.tick, fallOk := false }).trans (if_pos rfl)
  rw [tpLine_congr (hins _ _ _).1]
  exact ⟨congrArg TpLine.low hline, congrArg TpLine.at_ hline, rfl⟩

theorem windowStart_skipped (hdue : s.stoDue (312500 * n) 1250000 = true) (hskip : (s.tpLine n).skip = true) :
    s.windowStart n = s.setLine n { s.tpLine n with skip := false, passes := 0 } := by
  unfold windowStart
  dsimp only
  rw [hdue, if_neg (by decide), if_pos hskip]

theorem windowStart_not_due (h : ¬ s.stoDue (312500 * n) 1250000 = true) : s.windowStart n = s := by
  unfold windowStart
  exact if_pos (by simp [h])

theorem windowEnd_due (hlow : (s.tpLine n).low = true) (hat : (s.tpLine n).at_ + 10000 ≤ s.grid.tick) : s.windowEnd n = s.setLine n { s.tpLine n with low := false } := by
  unfold windowEnd
  dsimp only
  rw [hlow, decide_eq_false (by omega), if_neg (by decide)]

theorem windowEnd_not_due (h : (s.tpLine n).low = false ∨ s.grid.tick < (s.tpLine n).at_ + 10000) : s.windowEnd n = s := by
  unfold windowEnd
  dsimp only
  refine if_pos ?_
  obtain h | h := h
  · rw [h, Bool.not_false, Bool.true_or]
  · rw [decide_eq_true h, Bool.or_true]

theorem lineReadback_fall (below5 above15 : Bool) (hdue : s.readbackDue n false = true) (hn : n < 4) :
    ((s.lineReadback n false below5 above15).tpLine n).fallOk = below5 ∧ (s.lineReadback n false below5 above15).flag (fTP_LEVEL n) = above15 := by
  unfold lineReadback
  dsimp only
  rw [hdue, if_neg (by decide), if_pos (by decide), tpLine_setLine, if_pos rfl]
  exact ⟨rfl, s.flag_TP_LEVEL above15 hn⟩

/-- A window's read-back is judged: passed, or a failed test (R283). -/
structure LineJudged (n : Nat) (ok : Bool) (s u : State) : Prop where
  passed : ok = true → (u.tpLine n).fails = 0 ∧ (u.tpLine n).passes = (s.tpLine n).passes + 1
  failed : ok = false → (u.tpLine n).fails = (s.tpLine n).fails + 1 ∧ (u.tpLine n).passes = 0 ∧ ((s.tpLine n).fails = 1 → u.flag (fTP_FAULT n) = true)

theorem linePass_line (s : State) (n : Nat) : (s.linePass n).tpLine n = { s.tpLine n with fails := 0, passes := (s.tpLine n).passes + 1 } := by
  have hset : (s.setLine n { s.tpLine n with fails := 0, passes := (s.tpLine n).passes + 1 }).tpLine n
      = { s.tpLine n with fails := 0, passes := (s.tpLine n).passes + 1 } := (s.tpLine_setLine n n _).trans (if_pos rfl)
  have hflag (t : State) (b : Bool) : (t.putFlag (fTP_FAULT n) b).tpLine n = t.tpLine n := tpLine_congr (by rw [putFlag_sto]) n
  unfold linePass
  dsimp only
  split
  · exact (hflag _ _).trans hset
  · exact hset

theorem lineReadback_rise (below5 above15 : Bool) (hdue : s.readbackDue n true = true) (hn : n < 4) :
    LineJudged n ((s.tpLine n).fallOk && above15) s (s.lineReadback n true below5 above15) := by
  have hline : (s.putFlag (fTP_LEVEL n) above15).tpLine n = s.tpLine n := tpLine_congr (by rw [putFlag_sto]) n
  unfold lineReadback
  dsimp only
  rw [hdue, if_neg (by decide), if_neg (by decide)]
  generalize s.putFlag (fTP_LEVEL n) above15 = t at hline ⊢
  rw [← hline]
  split
  case isTrue h =>
    refine ⟨fun _ => ?_, fun hf => absurd (h.symm.trans hf) (by decide)⟩
    rw [linePass_line, ← hline]
    exact ⟨rfl, rfl⟩
  case isFalse h =>
    obtain ⟨hfails, hpasses, hfault, -, -⟩ := t.lineFail_failed hn
    rw [hline] at hfails hfault
    exact ⟨fun ht => absurd ht h, fun _ => ⟨hfails, hpasses, hfault⟩⟩

theorem lineReadback_outside {rise : Bool} (below5 above15 : Bool) (hdue : s.readbackDue n rise = false) :
    s.lineReadback n rise below5 above15 = if s.lineSources n then s.putFlag (fTP_LEVEL n) above15 else s := by
  unfold lineReadback
  dsimp only
  rw [hdue]
  rfl

end State
/-- The recognised levels, the runs towards a new one, and the window stand. -/
structure LevelsSame (s t : State) : Prop where
  win : t.sto.win = s.sto.win
  level : ∀ c, (t.sin c).level = (s.sin c).level
  run : ∀ c, (t.sin c).run = (s.sin c).run

/-- A sample of one channel outside a window: 30 equal ones give a new level (R284). -/
structure Filtered (c : Nat) (l : Bool) (s t : State) : Prop where
  win : t.sto.win = s.sto.win
  level : (t.sin c).level = if l = (s.sin c).level ∨ (s.sin c).run + 1 < 30 then (s.sin c).level else l
  run : (t.sin c).run = if l = (s.sin c).level ∨ 30 ≤ (s.sin c).run + 1 then 0 else (s.sin c).run + 1
  others : ∀ d, d ≠ c → (t.sin d).level = (s.sin d).level ∧ (t.sin d).run = (s.sin d).run

namespace LevelsSame

variable {s t u : State}

theorem refl (s : State) : LevelsSame s s := ⟨rfl, fun _ => rfl, fun _ => rfl⟩

theorem trans (h : LevelsSame s t) (g : LevelsSame t u) : LevelsSame s u :=
  ⟨g.win.trans h.win, fun c => (g.level c).trans (h.level c), fun c => (g.run c).trans (h.run c)⟩

theorem of_sto (h : t.sto = s.sto) : LevelsSame s t :=
  ⟨congrArg Sto.win h, fun c => congrArg SafeIn.level (State.sin_congr (congrArg Sto.ins h) c), fun c => congrArg SafeIn.run (State.sin_congr (congrArg Sto.ins h) c)⟩

theorem setSin {c : Nat} {x : SafeIn} (hlevel : x.level = (s.sin c).level) (hrun : x.run = (s.sin c).run) : LevelsSame s (s.setSin c x) := by
  refine ⟨rfl, fun d => ?_, fun d => ?_⟩
  · rw [State.sin_setSin]
    split
    case isTrue hd => rw [hlevel, hd]
    case isFalse => rfl
  · rw [State.sin_setSin]
    split
    case isTrue hd => rw [hrun, hd]
    case isFalse => rfl

theorem ite {c : Prop} [Decidable c] (ht : LevelsSame s t) (hu : LevelsSame s u) : LevelsSame s (if c then t else u) := by
  split
  · exact ht
  · exact hu

theorem filtered {c : Nat} {l : Bool} (h : LevelsSame s t) (g : Filtered c l t u) : Filtered c l s u := by
  obtain ⟨hwin, hlevel, hrun, hothers⟩ := g
  rw [h.level, h.run] at hlevel hrun
  exact ⟨hwin.trans h.win, hlevel, hrun, fun d hd => ⟨(hothers d hd).1.trans (h.level d), (hothers d hd).2.trans (h.run d)⟩⟩

end LevelsSame

namespace State

variable {s : State} {c : Nat}

theorem sinEdge_same (s : State) (c : Nat) (l : Bool) (ago : Nat) : LevelsSame s (s.sinEdge c l ago) := by
  unfold sinEdge
  exact .ite (.refl s) (.setSin rfl rfl)

theorem setSin_filtered {l : Bool} {x : SafeIn} (hlevel : x.level = if l = (s.sin c).level ∨ (s.sin c).run + 1 < 30 then (s.sin c).level else l)
    (hrun : x.run = if l = (s.sin c).level ∨ 30 ≤ (s.sin c).run + 1 then 0 else (s.sin c).run + 1) : Filtered c l s (s.setSin c x) := by
  have hout (d : Nat) (hd : d ≠ c) : (s.setSin c x).sin d = s.sin d := (s.sin_setSin c d x).trans (if_neg hd)
  have hin : (s.setSin c x).sin c = x := (s.sin_setSin c c x).trans (if_pos rfl)
  exact ⟨rfl, by rw [hin, hlevel], by rw [hin, hrun], fun d hd => by rw [hout d hd]; exact ⟨rfl, rfl⟩⟩

/-- What a new level sets going besides the level itself (R284, R290). -/
theorem sinLevel_eq (s : State) (c : Nat) (closed : Bool) : ∃ t,
    LevelsSame (s.setSin c { s.sin c with level := closed, run := 0, stamp := (s.sin c).raw }) t ∧ s.sinLevel c closed = t := by
  have hneed (t : State) (d e : Nat) : LevelsSame t ((t.setSin d { t.sin d with need := true }).setSin e { t.sin e with need := true }) := by
    have hfirst : LevelsSame t (t.setSin d { t.sin d with need := true }) := .setSin rfl rfl
    exact hfirst.trans (.setSin (hfirst.level e).symm (hfirst.run e).symm)
  have hpair (t : State) (x : SafePair) : LevelsSame t (t.setSpair (c / 2) x) := ⟨rfl, fun _ => rfl, fun _ => rfl⟩
  have hflag (t : State) : LevelsSame t (t.putFlag (fCLOSED c) closed) := .of_sto (putFlag_sto _ _ _)
  have hobs (t : State) : LevelsSame t (t.pairObs (c / 2)) := .of_sto (pairObs_kept (T := [.obs]) (by decide) _ (.refl t)).sto_eq
  refine ⟨_, ?_, rfl⟩
  unfold sinLevel
  dsimp only
  exact ((hflag _).trans (.ite (.refl _) (.ite (hpair _ _) (.ite ((hpair _ _).trans (hneed _ _ _)) (.refl _))))).trans (hobs _)

theorem sinFilter_filtered (s : State) (c : Nat) (l : Bool) : Filtered c l s (s.sinFilter c l) := by
  unfold sinFilter
  dsimp only
  split
  case isTrue h =>
    have heq : l = (s.sin c).level := beq_iff_eq.1 h
    exact setSin_filtered (if_pos (.inl heq)).symm (if_pos (.inl heq)).symm
  case isFalse h =>
    have hne : l ≠ (s.sin c).level := fun he => h (beq_iff_eq.2 he)
    split
    case isTrue hrun =>
      exact setSin_filtered (if_pos (.inr hrun)).symm (if_neg (not_or.2 ⟨hne, by omega⟩)).symm
    case isFalse hrun =>
      have hlast : LevelsSame s (s.setSin c { s.sin c with last := l }) := .setSin rfl rfl
      have hlevel : ¬ (l = (s.sin c).level ∨ (s.sin c).run + 1 < 30) := not_or.2 ⟨hne, hrun⟩
      have hlong : l = (s.sin c).level ∨ 30 ≤ (s.sin c).run + 1 := .inr (by omega)
      generalize s.setSin c { s.sin c with last := l } = t at hlast ⊢
      rw [← hlast.level, ← hlast.run] at hlevel hlong
      obtain ⟨u, hsame, hu⟩ := t.sinLevel_eq c l
      rw [hu]
      obtain ⟨hwin, hlev, hrun', hothers⟩ : Filtered c l t (t.setSin c { t.sin c with level := l, run := 0, stamp := (t.sin c).raw }) :=
        setSin_filtered (if_neg hlevel).symm (if_pos hlong).symm
      exact hlast.filtered ⟨hsame.win.trans hwin, (hsame.level c).trans hlev, (hsame.run c).trans hrun',
        fun d hd => ⟨(hsame.level d).trans (hothers d hd).1, (hsame.run d).trans (hothers d hd).2⟩⟩

theorem sinSample_filtered {l : Bool} (ago : Nat) (hwin : s.sto.win = none) : Filtered c l s (s.sinSample c l ago) := by
  have hedge := s.sinEdge_same c l ago
  unfold sinSample
  dsimp only
  generalize s.sinEdge c l ago = t at hedge ⊢
  have hnone := hedge.win.trans hwin
  split
  case h_1 => exact hedge.filtered (t.sinFilter_filtered c l)
  case h_2 h => exact absurd (hnone.symm.trans h) (by simp)

/-- The first `n` channels have been sampled outside a window (R284). -/
structure SamplesTaken (n : Nat) (l : Nat → Bool) (s u : State) : Prop where
  win : u.sto.win = none
  taken : ∀ c < n, ((u.sin c).level = if l c = (s.sin c).level ∨ (s.sin c).run + 1 < 30 then (s.sin c).level else l c)
    ∧ ((u.sin c).run = if l c = (s.sin c).level ∨ 30 ≤ (s.sin c).run + 1 then 0 else (s.sin c).run + 1)
  rest : ∀ c, n ≤ c → (u.sin c).level = (s.sin c).level ∧ (u.sin c).run = (s.sin c).run

theorem sinSamples_taken (l : Nat → Bool) (ago : Nat → Nat) (n : Nat) (hwin : s.sto.win = none) :
    SamplesTaken n l s ((List.range n).foldl (fun s c => s.sinSample c (l c) (ago c)) s) := by
  induction n with
  | zero => exact ⟨hwin, fun c hc => absurd hc (Nat.not_lt_zero c), fun _ _ => ⟨rfl, rfl⟩⟩
  | succ n ih =>
    obtain ⟨hnone, htaken, hrest⟩ := ih
    rw [List.range_succ, List.foldl_append, List.foldl_cons, List.foldl_nil]
    generalize (List.range n).foldl (fun s c => s.sinSample c (l c) (ago c)) s = t at hnone htaken hrest ⊢
    obtain ⟨hwin', hlevel, hrun, hothers⟩ : Filtered n (l n) t _ := sinSample_filtered (ago n) hnone
    obtain ⟨hl, hr⟩ := hrest n (Nat.le_refl n)
    rw [hl, hr] at hlevel hrun
    refine ⟨hwin'.trans hnone, fun c hc => ?_, fun c hc => ?_⟩
    · by_cases hcn : c = n
      · subst hcn
        exact ⟨hlevel, hrun⟩
      · obtain ⟨ho, ho'⟩ := hothers c hcn
        rw [ho, ho']
        exact htaken c (by omega)
    · obtain ⟨ho, ho'⟩ := hothers c (by omega)
      rw [ho, ho']
      exact hrest c (by omega)

theorem srstSample_ins (s : State) (high : Bool) : (s.srstSample high).sto.ins = s.sto.ins := by
  have hflag (t : State) (f : Fld) (b : Bool) : (t.putFlag f b).sto.ins = t.sto.ins := congrArg Sto.ins (putFlag_sto _ _ _)
  unfold srstSample
  dsimp only
  split
  · rfl
  split
  · rfl
  split
  · rw [hflag, hflag]
  · rw [hflag]

theorem winJudge_due {n w : Nat} (hwin : s.sto.win = some (n, w)) (hat : w + 15000 ≤ s.grid.tick) : (s.winJudge n).sto.win = none := by
  unfold winJudge
  rw [hwin]
  dsimp only
  rw [if_neg (by omega)]

theorem winJudge_early {n w : Nat} (hwin : s.sto.win = some (n, w)) (hat : s.grid.tick < w + 15000) : s.winJudge n = s := by
  unfold winJudge
  rw [hwin]
  exact if_pos (.inr hat)

-- Discrepancy (R286-R288)

/-- The pair's count after a sample: zero on agreement, one up to its top else (R286). -/
def discCount (s : State) (p : Nat) : Nat :=
  if (s.sin (2 * p)).level = (s.sin (2 * p + 1)).level then 0 else min ((s.spair p).count + 1) 65535

/-- One sample of a pair: its count alone moves. -/
structure Sampled (p : Nat) (s u : State) : Prop where
  ins : u.sto.ins = s.sto.ins
  count : (u.spair p).count = s.discCount p
  others : ∀ q, q ≠ p → (u.spair q).count = (s.spair q).count

theorem setSpair_sampled {p : Nat} {x : SafePair} (h : x.count = s.discCount p) : Sampled p s (s.setSpair p x) := by
  refine ⟨rfl, ?_, fun q hq => ?_⟩
  · rw [spair_setSpair, if_pos rfl, h]
  · rw [spair_setSpair, if_neg hq]

theorem Sampled.moved {p : Nat} {u v : State} (h : Sampled p s u) (g : PairsMoved u v) : Sampled p s v :=
  ⟨g.ins.trans h.ins, (g.count p).trans h.count, fun q hq => (g.count q).trans (h.others q hq)⟩

theorem discSample_sampled (s : State) (p : Nat) : Sampled p s (s.discSample p) := by
  have hput (t : State) (v : Nat) : PairsMoved t (t.put (fDISCNT p) v) := .of_sto (put_sto _ _ _)
  unfold discSample
  dsimp only
  split
  case isTrue h =>
    have hzero : s.discCount p = 0 := if_pos (beq_iff_eq.1 h)
    have hnear (c : Prop) [Decidable c] (t : State) (ht : t.sto = s.sto) : ((if c then s else t).setSpair p { s.spair p with count := 0, past := false }).sto
        = (s.setSpair p { s.spair p with count := 0, past := false }).sto := by
      split
      · rfl
      · rw [setSpair, ht]
        rfl
    refine ((setSpair_sampled (p := p) (x := { s.spair p with count := 0, past := false }) hzero.symm).moved (.of_sto ?_)).moved (hput _ 0)
    exact hnear _ _ (nearMiss_kept (T := [.regs, .icu, .evt, .nw, .mem, .pwr]) (by decide) _ _ _ (.refl s)).sto_eq
  case isFalse h =>
    have hcount (c : Nat) (hc : c = if (s.spair p).count < 65535 then (s.spair p).count + 1 else 65535) : c = s.discCount p := by
      rw [discCount, if_neg fun he => h (beq_iff_eq.2 he), hc]
      split <;> omega
    generalize hc : (if (s.spair p).count < 65535 then (s.spair p).count + 1 else 65535) = c
    have hset : Sampled p s ((s.setSpair p { s.spair p with count := c, past := (s.spair p).past || decide (s.get fSTO_N ≤ c) }).put (fDISCNT p) c) :=
      (setSpair_sampled (hcount c hc.symm)).moved (hput _ c)
    generalize (s.setSpair p { s.spair p with count := c, past := (s.spair p).past || decide (s.get fSTO_N ≤ c) }).put (fDISCNT p) c = t at hset ⊢
    split
    · exact hset
    split
    · exact hset.moved (.setSpair rfl)
    · exact hset.moved (t.pairFaultOn_moved _ _ _)

theorem discSamples (n : Nat) (s : State) : ((List.range n).foldl discSample s).sto.ins = s.sto.ins
    ∧ ∀ p, (((List.range n).foldl discSample s).spair p).count = if p < n then s.discCount p else (s.spair p).count := by
  induction n with
  | zero => exact ⟨rfl, fun p => (if_neg (Nat.not_lt_zero p)).symm⟩
  | succ n ih =>
    obtain ⟨hins, hcount⟩ := ih
    rw [List.range_succ, List.foldl_append, List.foldl_cons, List.foldl_nil]
    generalize (List.range n).foldl discSample s = t at hins hcount ⊢
    obtain ⟨hins', hthis, hothers⟩ := t.discSample_sampled n
    refine ⟨hins'.trans hins, fun p => ?_⟩
    by_cases hp : p = n
    · subst hp
      rw [hthis, discCount, sin_congr hins, sin_congr hins, hcount, if_neg (Nat.lt_irrefl p), if_pos (Nat.lt_succ_self p), discCount]
    · rw [hothers p hp, hcount]
      exact if_congr (by omega) rfl rfl

-- Seal rows and SRST (R291, R299)

theorem sealRow_due {r bits : Nat} (h : s.sealDue r = true) : (s.sealRow r bits).sto.sealWord = withBits s.sto.sealWord (4 * r) 4 bits
    ∧ Wr [(aSTO_SEAL, 0)] s (s.sealRow r bits) := by
  refine ⟨?_, sealRow_wr (by decide) r bits (.refl s)⟩
  unfold sealRow
  rw [h, if_neg (by decide)]
  dsimp only
  split
  · rw [put_sto]
  · rfl

theorem sealRow_not_due {r : Nat} (bits : Nat) (h : s.sealDue r = false) : s.sealRow r bits = s := by
  unfold sealRow
  rw [h, if_pos (by decide)]

/-- A low of SRST_N of more than 5 s is shown, ignored and logged (R299). -/
def srstTold (s : State) : State := ({ s with sto := { s.sto with srstIgnore := true } }.putFlag fSRST_STUCK true).logEv evSRST_STUCK kSTO 0 []

theorem srstTold_effect (s : State) : s.srstTold.sto.srstIgnore = true ∧ s.srstTold.flag fSRST_STUCK = true ∧ Logged s s.srstTold evSRST_STUCK (kSTO * 4096)
    ∧ Kept [.regs, .evt, .sto] s s.srstTold := by
  have hmark (t : State) (x : Sto) : Wr [] t { t with sto := x } := Wr.upd (.refl t)
  have hset : (s.srstTold).sto.srstIgnore = true := by
    unfold srstTold
    rw [(logEv_kept (T := [.regs, .evt]) (by decide) evSRST_STUCK kSTO 0 [] (.refl _)).sto_eq, putFlag_sto]
  have hwr : Wr [(aSTO_CFGSTAT, 0)] s ({ s with sto := { s.sto with srstIgnore := true } }.putFlag fSRST_STUCK true) :=
    putFlag_wr (hit_one (by decide)) (Wr.upd (.refl s))
  refine ⟨hset, ?_, logged_logEv kSTO 0 [] (hwr.logOpen (by rw [putFlag_evt]) (by rw [putFlag_pwr])) (by rw [putFlag_evt]) rfl,
    logEv_kept (by decide) _ _ _ _ (putFlag_kept (by decide) _ _ ((Kept.refl s).upd_sto (by decide)))⟩
  exact ((logEv_wr (R := [(0x2A8, 0), (0x5014, 0)]) (by decide) evSRST_STUCK kSTO 0 [] (.refl _)).flag fSRST_STUCK).trans (flag_putFlag _ fSRST_STUCK true)

end State

theorem exec_tpWindowStart (n : Fin 4) (s : State) : exec (.tpWindowStart n) s = if s.sfcRuns then .next (s.windowStart n) else .next s := rfl
theorem exec_tpWindowEnd (n : Fin 4) (s : State) : exec (.tpWindowEnd n) s = .next (s.windowEnd n) := rfl
theorem exec_tpReadback (n : Fin 4) (rise below5 above15 : Bool) (s : State) : exec (.tpReadback n rise below5 above15) s =
    if s.sfcRuns then .next (s.lineReadback n rise below5 above15) else .next s := rfl
theorem exec_tpLowTimeout (n : Fin 4) (s : State) : exec (.tpLowTimeout n) s = if s.sfcRuns then .next (s.lineLow n) else .next s := rfl
theorem exec_sinSample (levels : BitVec 16) (srst : Bool) (ago : List (BitVec 16)) (s : State) : exec (.sinSample levels srst ago) s =
    if s.sfcRuns && s.sampleDue s.sto.sinAt 250 then
      .next (((List.range 16).foldl (fun (s : State) c => s.sinSample c (levels.getLsbD c) (ago.getD c 0).toNat)
        { s with sto := { s.sto with sinAt := s.grid.tick + 1 } }).srstSample srst)
    else .next s := rfl
theorem exec_sinWindowJudge (n : Fin 4) (s : State) : exec (.sinWindowJudge n) s = if s.sfcRuns then .next (s.winJudge n) else .next s := rfl
theorem exec_discrepancySample (s : State) : exec .discrepancySample s = if s.stoDue 0 2500 && s.sto.discAt != s.grid.tick + 1 then
      .next ((List.range 8).foldl State.discSample { s with sto := { s.sto with discAt := s.grid.tick + 1 } })
    else .next s := rfl
theorem exec_sealRowRead (r : Fin 4) (bits : BitVec 4) (s : State) : exec (.sealRowRead r bits) s = .next (s.sealRow r bits.toNat) := rfl
theorem exec_srstStuck (s : State) : exec .srstStuck s =
    if s.sto.srstHigh || s.flag State.fSRST_STUCK || !s.sfcRuns || decide (s.grid.tick ≤ s.sto.srstLow + 125000000) then .next s else .next s.srstTold := rfl

theorem State.sfcRuns_of_stoDue {s : State} {first period : Nat} (h : s.stoDue first period = true) : s.sfcRuns = true :=
  (Bool.and_eq_true_iff.1 (Bool.and_eq_true_iff.1 h).1).1

/-- Settles O27. -/
theorem stoInputs : Obligations.StoInputs := by
  intro n r rise below5 above15 srst levels ago bits w s x t due low sampled discs stuck
  have hread (b : Bool) (h : s.sfcRuns = true) := (exec_tpReadback n b below5 above15 s).trans (if_pos h)
  have hlow : s.lineLowDue n ↔ low := Iff.rfl
  have hdiscs : (s.stoDue 0 2500 && s.sto.discAt != s.grid.tick + 1) = true ↔ discs := by rw [Bool.and_eq_true, bne_iff_ne]
  have hstuck : s.sfcRuns = true → ((s.sto.srstHigh || s.flag State.fSRST_STUCK || !s.sfcRuns || decide (s.grid.tick ≤ s.sto.srstLow + 125000000)) = false ↔ stuck) := by
    intro hruns
    rw [hruns, Bool.or_eq_false_iff, Bool.or_eq_false_iff, Bool.or_eq_false_iff, decide_eq_false_iff_not, Nat.not_le, and_assoc, and_assoc]
    exact and_congr Iff.rfl (and_congr Iff.rfl (and_iff_right rfl))
  refine ⟨fun h => ?stopped, fun hdue hskip => ?window, fun hdue hskip => ?skipped,
    fun h => .of_eq ((exec_tpWindowStart n s).trans (by rw [State.windowStart_not_due h, ite_self])) rfl, fun hl hat => ?rise,
    fun h => .of_eq (exec_tpWindowEnd n s) (State.windowEnd_not_due h), fun hruns hd => .of_eq (hread false hruns) (State.lineReadback_fall below5 above15 hd n.isLt),
    fun hruns hd => ?judged, fun hd hsrc => ?quiet, fun hruns hd hsrc => ?shown, fun hruns hl => .of_eq ((exec_tpLowTimeout n s).trans (if_pos hruns))
      (State.lineLow_failed (hlow.2 hl) n.isLt), fun hl => .of_eq ((exec_tpLowTimeout n s).trans (by rw [State.lineLow_not_due (mt hlow.1 hl), ite_self])) rfl,
    fun hruns hsamp hwin => ?sampled, fun hsamp => .of_eq ((exec_sinSample levels srst ago s).trans (if_neg fun h => hsamp (Bool.and_eq_true_iff.1 h).2)) rfl,
    fun hruns hwin hat => .of_eq ((exec_sinWindowJudge n s).trans (if_pos hruns)) (State.winJudge_due hwin hat),
    fun hwin hat => .of_eq ((exec_sinWindowJudge n s).trans (by rw [State.winJudge_early hwin hat, ite_self])) rfl,
    fun hd => ?discs, fun hd => .of_eq ((exec_discrepancySample s).trans (if_neg (mt hdiscs.1 hd))) rfl,
    fun hseal => ?row, fun hseal => .of_eq (exec_sealRowRead r bits s) (State.sealRow_not_due _ hseal), fun hruns hst => ?stuck, fun hst => ?notStuck⟩
  case stopped =>
    have hoff : ¬ s.sfcRuns = true := by rw [h]; decide
    intro c hc
    simp only [List.mem_cons, List.not_mem_nil, or_false] at hc
    obtain rfl | rfl | rfl | rfl | rfl | rfl | rfl := hc
    · exact .of_eq ((exec_tpWindowStart n s).trans (if_neg hoff)) rfl
    · exact .of_eq ((exec_tpReadback n rise below5 above15 s).trans (if_neg hoff)) rfl
    · exact .of_eq ((exec_tpLowTimeout n s).trans (if_neg hoff)) rfl
    · exact .of_eq ((exec_sinSample levels srst ago s).trans (if_neg (by rw [h]; exact Bool.false_ne_true))) rfl
    · exact .of_eq ((exec_sinWindowJudge n s).trans (if_neg hoff)) rfl
    · exact .of_eq ((exec_discrepancySample s).trans (if_neg fun hd => hoff (State.sfcRuns_of_stoDue (hdiscs.1 hd).1))) rfl
    · exact .of_eq ((exec_srstStuck s).trans (if_pos (by rw [h]; simp))) rfl
  case window =>
    obtain ⟨hline, hat, hwin⟩ := State.windowStart_due hdue hskip
    exact .of_eq ((exec_tpWindowStart n s).trans (if_pos (State.sfcRuns_of_stoDue hdue))) ⟨hline, hat, hwin, (State.windowStart_kept (by decide) _ (.refl s)).only⟩
  case skipped =>
    refine .of_eq ((exec_tpWindowStart n s).trans ((if_pos (State.sfcRuns_of_stoDue hdue)).trans (congrArg _ (State.windowStart_skipped hdue hskip))))
      ⟨(s.tpLine_setLine n n _).trans (if_pos rfl), (State.setLine_kept (by decide) _ _ (.refl s)).only⟩
  case rise =>
    refine .of_eq ((exec_tpWindowEnd n s).trans (congrArg _ (State.windowEnd_due hl hat))) ⟨?_, fun m hm => (s.tpLine_setLine n m _).trans (if_neg hm),
      (State.setLine_kept (by decide) _ _ (.refl s)).only⟩
    rw [State.tpLine_setLine, if_pos rfl]
  case judged =>
    obtain ⟨hpassed, hfailed⟩ := State.lineReadback_rise below5 above15 hd n.isLt
    refine .of_eq (hread true hruns) ⟨fun hok => hpassed (Bool.and_eq_true_iff.2 hok), fun hbad => hfailed (Bool.and_eq_false_iff.2 hbad)⟩
  case quiet =>
    refine .of_eq ((exec_tpReadback n rise below5 above15 s).trans ?_) rfl
    rw [State.lineReadback_outside _ _ hd, hsrc, if_neg Bool.false_ne_true, ite_self]
  case shown =>
    refine .of_eq (hread rise hruns) ?_
    rw [State.lineReadback_outside _ _ hd, hsrc, if_pos rfl]
    exact ⟨s.flag_TP_LEVEL above15 n.isLt, (State.putFlag_kept (by decide) _ _ (.refl s)).only,
      (State.putFlag_wr (hit_one (by simp [State.fTP_LEVEL])) (.refl s)).onlyRegs⟩
  case sampled =>
    have hat : Kept [.sto] s { s with sto := { s.sto with sinAt := s.grid.tick + 1 } } := (Kept.refl s).upd_sto (by decide)
    have htaken := State.sinSamples_taken (s := { s with sto := { s.sto with sinAt := s.grid.tick + 1 } }) (fun c => levels.getLsbD c) (fun c => (ago.getD c 0).toNat) 16 hwin
    refine .of_eq ((exec_sinSample levels srst ago s).trans (if_pos (by rw [hruns]; exact hsamp))) ⟨fun c hc => ?_, (State.srstSample_kept (by decide) srst
      (.fold (fun _ _ h => State.sinSample_kept (by decide) _ _ _ h) (hat.mono (by decide)))).only⟩
    rw [State.sin_congr (State.srstSample_ins _ srst)]
    exact htaken.taken c hc
  case discs =>
    have hat : Kept [.sto] s { s with sto := { s.sto with discAt := s.grid.tick + 1 } } := (Kept.refl s).upd_sto (by decide)
    obtain ⟨-, hcount⟩ := State.discSamples 8 { s with sto := { s.sto with discAt := s.grid.tick + 1 } }
    exact .of_eq ((exec_discrepancySample s).trans (if_pos (hdiscs.2 hd))) ⟨fun p hp => (hcount p).trans (if_pos hp),
      (Kept.fold (fun _ _ h => State.discSample_kept (by decide) _ h) (hat.mono (by decide))).only⟩
  case row =>
    obtain ⟨hword, hwr⟩ := State.sealRow_due (bits := bits.toNat) hseal
    exact .of_eq (exec_sealRowRead r bits s) ⟨hword, (State.sealRow_kept (by decide) _ _ (.refl s)).only, hwr.onlyRegs⟩
  case stuck =>
    obtain ⟨hignore, hflag, hlogged, hkept⟩ := s.srstTold_effect
    exact .of_eq ((exec_srstStuck s).trans (if_neg (by rw [(hstuck hruns).2 hst]; decide))) ⟨hignore, hflag, hlogged, hkept.only⟩
  case notStuck =>
    refine .of_eq ((exec_srstStuck s).trans (if_pos ?_)) rfl
    by_cases hruns : s.sfcRuns = true
    · exact Bool.not_eq_false _ ▸ mt (hstuck hruns).1 hst
    · rw [Bool.eq_false_iff.2 hruns]
      simp

end Sys2Proof.Machine
end

section
/-! THE RING'S EGRESSES (R233-R246): what sending, queueing and blocking leave of the ports and the registers. -/

namespace Sys2Proof.Machine

/-- A port without its egress. -/
def RingPort.core (x : RingPort) : RingPort := { x with out := defEgress }

/-- The ring without its ports. -/
def Ring.rest (r : Ring) : Ring := { r with ports := [] }

/-- The counters that frames leaving, being dropped or discarded can step (R235, R237, R260). -/
def sendRegs : List (Nat × Nat) := [(0x3044, 0), (0x304C, 0), (0x7064, 0), (0x70A4, 0), (0x7058, 64)]

/-- A port's egress works: no other port, and nothing of its own port but the egress, changes. -/
structure OnEgress (p : Nat) (s t : State) : Prop where
  wr : Wr sendRegs s t
  kept : Kept [.regs, .ring, .ptp] s t
  core : (t.rport p).core = (s.rport p).core
  others : ∀ q, q ≠ p → t.rport q = s.rport q
  rest : t.ring.rest = s.ring.rest

namespace State

variable {s : State}

theorem rport_setPort (s : State) (p q : Nat) (x : RingPort) : (s.setPort p x).rport q = if q = p then x else s.rport q :=
  tabGet_set (fun _ => defPort) s.ring.ports p q x

theorem rport_congr {t : State} (h : t.ring.ports = s.ring.ports) (q : Nat) : t.rport q = s.rport q := by rw [rport, h, rport]

theorem rport_of_ring {t : State} (h : t.ring = s.ring) (q : Nat) : t.rport q = s.rport q := rport_congr (congrArg Ring.ports h) q

theorem rport_setEgress (s : State) (p q : Nat) (e : Egress) : (s.setEgress p e).rport q = if q = p then { s.rport p with out := e } else s.rport q :=
  s.rport_setPort p q _

theorem egress_setEgress (s : State) (p q : Nat) (e : Egress) : (s.setEgress p e).egress q = if q = p then e else s.egress q := by
  unfold egress
  rw [rport_setEgress, apply_ite RingPort.out]

end State

namespace OnEgress

variable {p : Nat} {s t u : State}

theorem refl (p : Nat) (s : State) : OnEgress p s s := ⟨.refl s, .refl s, rfl, fun _ _ => rfl, rfl⟩

theorem trans (h : OnEgress p s t) (g : OnEgress p t u) : OnEgress p s u :=
  ⟨h.wr.trans g.wr, h.kept.trans g.kept, g.core.trans h.core, fun q hq => (g.others q hq).trans (h.others q hq), g.rest.trans h.rest⟩

theorem of_kept (hwr : Wr sendRegs s t) (hkept : Kept [.regs, .ptp] s t) : OnEgress p s t :=
  ⟨hwr, hkept.mono (by decide), congrArg RingPort.core (State.rport_of_ring hkept.ring_eq p), fun q _ => State.rport_of_ring hkept.ring_eq q, by rw [hkept.ring_eq]⟩

theorem setEgress (e : Egress) : OnEgress p s (s.setEgress p e) := by
  refine ⟨State.setEgress_wr (List.nil_subset _) p e (.refl s), State.setEgress_kept (by decide) p e (.refl s), ?_, fun q hq => ?_, rfl⟩
  · rw [State.rport_setEgress, if_pos rfl]
    rfl
  · rw [State.rport_setEgress, if_neg hq]

theorem ite {c : Prop} [Decidable c] (ht : OnEgress p s t) (hu : OnEgress p s u) : OnEgress p s (if c then t else u) := by
  split
  · exact ht
  · exact hu

theorem core_all (h : OnEgress p s t) (q : Nat) : (t.rport q).core = (s.rport q).core := by
  by_cases hq : q = p
  · rw [hq, h.core]
  · rw [h.others q hq]

theorem egress_other (h : OnEgress p s t) {q : Nat} (hq : q ≠ p) : t.egress q = s.egress q := by rw [State.egress, h.others q hq, State.egress]

end OnEgress

namespace State

variable {s : State} {p : Nat}

theorem bump_onEgress (s : State) {a : Nat} (ha : hits sendRegs a = true) : OnEgress p s (s.bump a) :=
  .of_kept (bump_wr ha (.refl s)) (bump_kept (by decide) a (.refl s))

theorem tcLeave_onEgress (s : State) (f : Frame) (out : Nat) : OnEgress p s (s.tcLeave f out).1 := by
  have htab (l : List TcEntry) : OnEgress p s { s with ptp := { s.ptp with table := l } } := .of_kept (Wr.upd (.refl s)) ((Kept.refl s).upd_ptp (by decide))
  unfold tcLeave
  dsimp only
  split
  · split
    · exact htab _
    · exact .refl p s
  split
  · split
    · exact htab _
    · exact s.bump_onEgress (by decide)
  · exact s.bump_onEgress (by decide)

theorem pdLeave_onEgress (s : State) (f : Frame) : OnEgress p s (s.pdLeave f p).1 := by
  unfold pdLeave
  dsimp only
  split
  · exact .of_kept (Wr.upd (.refl s)) ((Kept.refl s).upd_ptp (by decide))
  split
  · split
    · exact .setEgress _
    · exact .refl p s
  · exact .refl p s

theorem ptpLeave_onEgress (s : State) (f : Frame) : OnEgress p s (s.ptpLeave f p).1 := by
  unfold ptpLeave
  split
  · exact .refl p s
  split
  · exact s.tcLeave_onEgress f p
  · exact s.pdLeave_onEgress f

theorem startFrame_onEgress (s : State) (p : Nat) (f : Frame) : OnEgress p s (s.startFrame p f) :=
  (s.ptpLeave_onEgress f).trans (.setEgress _)

theorem refill_onEgress (s : State) (p : Nat) : OnEgress p s (s.refill p) := .setEgress _

theorem setStart_onEgress (s : State) (p : Nat) (e : Egress) (f : Frame) : OnEgress p s ((s.setEgress p e).startFrame p f) :=
  (OnEgress.setEgress e).trans (startFrame_onEgress _ p f)

theorem setStartRefill_onEgress (s : State) (p : Nat) (e : Egress) (f : Frame) : OnEgress p s (((s.setEgress p e).startFrame p f).refill p) :=
  (s.setStart_onEgress p e f).trans (refill_onEgress _ p)

theorem chooseLast_onEgress (s : State) (p : Nat) (e : Egress) (loc : Bool → Option (Frame × List Frame)) : OnEgress p s (s.chooseLast p e loc) := by
  unfold chooseLast
  split
  · exact s.setStartRefill_onEgress p _ _
  · exact .refl p s

theorem chooseRest_onEgress (s : State) (p : Nat) (e : Egress) (loc : Bool → Option (Frame × List Frame)) : OnEgress p s (s.chooseRest p e loc) := by
  unfold chooseRest
  split
  · exact s.setStartRefill_onEgress p _ _
  split
  · exact .ite (s.setStart_onEgress p _ _) (s.chooseLast_onEgress p e loc)
  · exact s.chooseLast_onEgress p e loc

theorem choose_onEgress (s : State) (hp : p < 2) : OnEgress p s (s.choose p) := by
  have hcnt : hits sendRegs (aRING_CNT p 9) = true := by
    obtain rfl | rfl : p = 0 ∨ p = 1 := by omega
    · decide
    · decide
  unfold choose
  dsimp only
  split
  · exact .refl p s
  split
  · exact ((OnEgress.setEgress _).trans (bump_onEgress _ hcnt)).trans (startFrame_onEgress _ p _)
  split
  · exact .ite (s.setStartRefill_onEgress p _ _) (.ite (.refl p s) (s.chooseRest_onEgress p _ _))
  · exact .ite (.refl p s) (s.chooseRest_onEgress p _ _)

theorem hits_cnt6 (i : Nat) : hits sendRegs (aRING_CNT i 6) = true := by
  simp [hits, sendRegs, aRING_CNT]

theorem purge_onEgress (s : State) (p : Nat) : OnEgress p s (s.purge p) := by
  have hgone (l : List Frame) (t : State) : OnEgress p t (l.foldl (fun s f => s.ringCnt f.ingress 6) t) := by
    induction l generalizing t with
    | nil => exact .refl p t
    | cons f l ih =>
      rw [List.foldl_cons]
      exact (t.bump_onEgress (hits_cnt6 f.ingress)).trans (ih _)
  unfold purge
  dsimp only
  exact ((hgone _ s).trans (.setEgress _)).trans (refill_onEgress _ p)

/-- A frame of the device itself joins the PTP queue, and leaves at once only through its own egress (R236-R238). -/
theorem toPtp_onEgress (s : State) (hp : p < 2) {f : Frame} (hf : 2 ≤ f.ingress) : OnEgress p s (s.toPtp p f) := by
  unfold toPtp
  dsimp only
  rw [if_neg (by omega)]
  exact (OnEgress.setEgress _).trans (choose_onEgress _ hp)

theorem toLocal_onEgress (s : State) (hp : p < 2) (f : Frame) : OnEgress p s (s.toLocal p f) :=
  (OnEgress.setEgress _).trans (choose_onEgress _ hp)

theorem choose_busy (h : (s.egress p).cur.isSome = true ∨ s.sf p = true) : s.choose p = s := by
  unfold choose
  exact if_pos (Bool.or_eq_true_iff.2 h)

end State
end Sys2Proof.Machine
end

section
/-! THE RING PORTS (R227-R250): frames received and sent, signal fail, modules, rates and the protection process. -/

namespace Sys2Proof.Machine

/-- What the protection process and sending can write: the ports' status words, the ring's state and the counters. -/
def protRegs : List (Nat × Nat) := (0x7000, 0) :: (0x7004, 0) :: (0x7008, 0) :: sendRegs

/-- The fields of a port's status word but BLOCKED read the same in both states. -/
def PortStat (p : Nat) (s t : State) : Prop := ∀ f : Fld, f.addr = aRING_PSTAT p → f.lo + f.width ≤ 3 ∨ 4 ≤ f.lo → t.get f = s.get f

/-- The protection process works: the ports' egresses, BLOCKED and the state of the process alone move. -/
structure Protected (s t : State) : Prop where
  wr : Wr protRegs s t
  kept : Kept [.regs, .ring, .ptp] s t
  core : ∀ q, (t.rport q).core = (s.rport q).core
  stat : ∀ p < 2, PortStat p s t

theorem Wr.portStat {R : List (Nat × Nat)} {s t : State} {p : Nat} (h : Wr R s t) (hR : hits R (aRING_PSTAT p) = false) : PortStat p s t :=
  fun f ha _ => h.get f (by rw [ha]; exact hR)

theorem PortStat.trans {p : Nat} {s t u : State} (h : PortStat p s t) (g : PortStat p t u) : PortStat p s u :=
  fun f ha hl => (g f ha hl).trans (h f ha hl)

theorem PortStat.flag {p : Nat} {s t : State} (h : PortStat p s t) (f : Fld) (ha : f.addr = aRING_PSTAT p) (hl : f.lo + f.width ≤ 3 ∨ 4 ≤ f.lo) :
    t.flag f = s.flag f := by
  rw [State.flag, h f ha hl, State.flag]

theorem PortStat.sf {p : Nat} {s t : State} (h : PortStat p s t) : t.sf p = s.sf p := h.flag (fRP_SF p) rfl (.inl (Nat.le_refl 3))

theorem sendRegs_stat {p : Nat} (hp : p < 2) : hits sendRegs (aRING_PSTAT p) = false := by
  obtain rfl | rfl : p = 0 ∨ p = 1 := by omega
  · decide
  · decide

theorem OnEgress.protected_ {p : Nat} {s t : State} (h : OnEgress p s t) : Protected s t :=
  ⟨h.wr.mono (by decide), h.kept, h.core_all, fun _ hq => h.wr.portStat (sendRegs_stat hq)⟩

namespace Protected

variable {s t u : State}

theorem refl (s : State) : Protected s s := ⟨.refl s, .refl s, fun _ => rfl, fun _ _ _ _ _ => rfl⟩

theorem trans (h : Protected s t) (g : Protected t u) : Protected s u :=
  ⟨h.wr.trans g.wr, h.kept.trans g.kept, fun q => (g.core q).trans (h.core q), fun q hq => (h.stat q hq).trans (g.stat q hq)⟩

theorem ite {c : Prop} [Decidable c] (ht : Protected s t) (hu : Protected s u) : Protected s (if c then t else u) := by
  split
  · exact ht
  · exact hu

theorem tx (tx : Option (Nat × Bool)) (sent : Nat) : Protected s (s.setRing { s.ring with tx := tx, sent := sent }) :=
  ⟨State.setRing_wr (List.nil_subset _) _ (.refl s), State.setRing_kept (by decide) _ (.refl s), fun q => congrArg RingPort.core (State.rport_congr rfl q), fun _ _ _ _ _ => rfl⟩

theorem erps (v : Nat) : Protected s (s.put fRING_ERPS v) := by
  refine ⟨State.put_wr (by decide) (.refl s), State.put_kept (by decide) _ _ (.refl s), fun q => congrArg RingPort.core (State.rport_of_ring (by rw [State.put_ring]) q), fun p hp => ?_⟩
  refine (State.put_wr (R := [(aRING_STAT, 0)]) (by decide) (.refl s)).portStat ?_
  obtain rfl | rfl : p = 0 ∨ p = 1 := by omega
  · decide
  · decide

end Protected

namespace State

variable {s : State} {p : Nat}

theorem putBlocked_portStat (s : State) (p q : Nat) (b : Bool) : PortStat q s (s.putFlag (fRP_BLOCKED p) b) := by
  intro f ha hl
  by_cases hq : q = p
  · subst hq
    refine s.get_putFlag_apart (f := fRP_BLOCKED q) (g := f) b (show 3 + 1 ≤ 32 by decide) ha ?_
    exact hl
  · refine s.get_putFlag_addr (f := fRP_BLOCKED p) (g := f) b ?_
    rw [ha]
    unfold fRP_BLOCKED aRING_PSTAT
    dsimp only
    omega

theorem setBlocked_protected (s : State) (b : Bool) (hp : p < 2) : Protected s (s.setBlocked p b) := by
  have hput : Protected s (s.putFlag (fRP_BLOCKED p) b) := by
    refine ⟨putFlag_wr ?_ (.refl s), putFlag_kept (by decide) _ _ (.refl s), fun q => congrArg RingPort.core (rport_of_ring (by rw [putFlag_ring]) q),
      fun q _ => s.putBlocked_portStat p q b⟩
    obtain rfl | rfl : p = 0 ∨ p = 1 := by omega
    · decide
    · decide
  unfold setBlocked
  dsimp only
  exact hput.trans (.ite (purge_onEgress _ p).protected_ (choose_onEgress _ hp).protected_)

theorem unblockGood_protected (s : State) : Protected s s.unblockGood := by
  have hone (t : State) {p : Nat} (hp : p < 2) : Protected t (if (t.rport p).fail || !t.blocked p then t else t.setBlocked p false) :=
    .ite (.refl t) (t.setBlocked_protected false hp)
  unfold unblockGood
  rw [List.foldl_cons, List.foldl_cons, List.foldl_nil]
  exact (hone s (by decide)).trans (hone _ (by decide))

theorem startTx_protected (s : State) (req : Nat) (dnf : Bool) : Protected s (s.startTx req dnf) := .tx _ _

theorem stopTx_protected (s : State) : Protected s s.stopTx := .tx _ _

theorem localFail_protected (s : State) (hp : p < 2) : Protected s (s.localFail p) := by
  unfold localFail
  dsimp only
  exact .ite (.refl s) ((((Protected.ite (.refl s) (s.setBlocked_protected true hp)).trans (startTx_protected _ _ _)).trans (unblockGood_protected _)).trans (.erps 2))

theorem localFail_erps (h : s.get fRING_ERPS ≠ 4) (p : Nat) : (s.localFail p).get fRING_ERPS = 2 := by
  unfold localFail
  rw [if_neg h]
  dsimp only
  exact get_put_fits _ fRING_ERPS (by decide)

theorem localClear_protected (s : State) : Protected s s.localClear := by
  have hguard (t : State) : Protected t (t.setRing { t.ring with guard := true, guardAt := t.grid.tick }) :=
    ⟨setRing_wr (List.nil_subset _) _ (.refl t), setRing_kept (by decide) _ (.refl t), fun _ => rfl, fun _ _ _ _ _ => rfl⟩
  unfold localClear
  exact .ite (((hguard s).trans (startTx_protected _ _ _)).trans (.erps 5)) (.refl s)

-- The route epoch (R247, R269)

/-- The registers that a new route epoch can write. -/
def epochRegs : List (Nat × Nat) := [(0x270, 0), (0x2A8, 0), (0x300C, 0), (0x5014, 0), (0x700C, 0), (0x1B070, 0)]

theorem timeState_nwStat (s : State) (st : Nat) : NwStat s (s.timeState st) := by
  have hput : NwStat s (s.put fTIME_STATE st) := (put_wr (R := [(0x300C, 0)]) (by decide) (.refl s)).nwStat
  have htrust (t : State) : NwStat t { t with ptp := { t.ptp with trust := none } } := fun _ _ _ => rfl
  have hraise (t : State) : NwStat t (t.raise srcTIME) := (raise_wr (R := [(0x270, 0), (0x1B070, 0)]) (by decide) _ (.refl t)).nwStat
  unfold timeState
  dsimp only
  split
  · exact hput
  · exact ((hput.trans (htrust _)).trans (enqueue_nwStat _ _)).trans (hraise _)

theorem servoHold_nwStat (s : State) : NwStat s s.servoHold := by
  unfold servoHold
  dsimp only
  split
  · exact .refl s
  · exact NwStat.trans (t := { s with ptp := _ }) (fun _ _ _ => rfl) (timeState_nwStat _ 3)

/-- The route epoch is one higher; the ports and the ring stand (R247). -/
structure EpochUp (s u : State) : Prop where
  epoch : u.rd aRING_EPOCH = s.rd aRING_EPOCH + 1
  wr : Wr epochRegs s u
  kept : Kept [.regs, .icu, .evt, .nw, .pwr, .ptp] s u
  nwStat : NwStat s u

theorem epochUp_up (s : State) : EpochUp s s.epochUp := by
  have hbump := s.rd_bump aRING_EPOCH
  have hwr : Wr [(0x700C, 0)] s (s.bump aRING_EPOCH) := bump_wr (by decide) (.refl s)
  have hraise (t : State) : NwStat t (t.raise srcRING) := (raise_wr (R := [(0x270, 0), (0x1B070, 0)]) (by decide) _ (.refl t)).nwStat
  refine ⟨?_, epochUp_wr (by decide) (.refl s), epochUp_kept (by decide) (.refl s), ?_⟩
  · unfold epochUp
    dsimp only
    generalize s.bump aRING_EPOCH = t at hbump ⊢
    exact ((servoHold_wr (R := [(0x270, 0), (0x2A8, 0), (0x300C, 0), (0x5014, 0), (0x1B070, 0)]) (by decide)
      (raise_wr (by decide) srcRING (logFw_wr (by decide) evRING_SWITCH kDEVICE 0 _ (.refl t)))).eq _ (by decide)).trans hbump
  · unfold epochUp
    dsimp only
    exact ((hwr.nwStat.trans (enqueue_nwStat _ _)).trans (hraise _)).trans (servoHold_nwStat _)

-- Signal fail (R228, R244, R245)

/-- What the protection process learns of a port's signal fail leaves its link, its route epoch and what is learnt of its module and
neighbour. -/
structure SfTold (p : Nat) (s u : State) : Prop where
  stat : PortStat p s u
  epoch : u.rd aRING_EPOCH = s.rd aRING_EPOCH
  noAck : (u.rport p).noAck = (s.rport p).noAck
  learn : (u.rport p).learn = (s.rport p).learn

theorem SfTold.refl (p : Nat) (s : State) : SfTold p s s := ⟨fun _ _ _ => rfl, rfl, rfl, rfl⟩

theorem SfTold.trans {t u : State} (h : SfTold p s t) (g : SfTold p t u) : SfTold p s u :=
  ⟨h.stat.trans g.stat, g.epoch.trans h.epoch, g.noAck.trans h.noAck, g.learn.trans h.learn⟩

theorem SfTold.ite {t u : State} {c : Prop} [Decidable c] (ht : SfTold p s t) (hu : SfTold p s u) : SfTold p s (if c then t else u) := by
  split
  · exact ht
  · exact hu

theorem core_noAck {x y : RingPort} (h : y.core = x.core) : y.noAck = x.noAck := (congrArg RingPort.noAck h : _)

theorem core_learn {x y : RingPort} (h : y.core = x.core) : y.learn = x.learn := (congrArg RingPort.learn h : _)

theorem core_fail {x y : RingPort} (h : y.core = x.core) : y.fail = x.fail ∧ y.holdoff = x.holdoff :=
  ⟨(congrArg RingPort.fail h : _), (congrArg RingPort.holdoff h : _)⟩

theorem protected_told {u : State} (h : Protected s u) (hp : p < 2) : SfTold p s u :=
  ⟨h.stat p hp, h.wr.eq _ (by decide), core_noAck (h.core p), core_learn (h.core p)⟩

theorem setPort_told {x : RingPort} (hno : x.noAck = (s.rport p).noAck) (hlearn : x.learn = (s.rport p).learn) : SfTold p s (s.setPort p x) := by
  have hport : (s.setPort p x).rport p = x := (s.rport_setPort p p x).trans (if_pos rfl)
  exact ⟨fun _ _ _ => rfl, rfl, by rw [hport, hno], by rw [hport, hlearn]⟩

theorem sfTell_told (s : State) (hp : p < 2) : SfTold p s (s.sfTell p) := by
  have hset (f h : Bool) (a : Nat) : SfTold p s (s.setPort p { s.rport p with fail := f, holdoff := h, holdAt := a }) := setPort_told rfl rfl
  have hfail (t : State) {q : Nat} (hq : q < 2) : SfTold p t (t.localFail q) := protected_told (t.localFail_protected hq) hp
  have hclear (t : State) : SfTold p t t.localClear := protected_told t.localClear_protected hp
  unfold sfTell failSeen
  dsimp only
  exact .ite (.ite (.refl p s) (.ite ((hset true false _).trans (hfail _ hp)) (hset _ true _)))
    (.ite (hset false false _) (.ite ((hset false false _).trans (hfail _ (by omega))) ((hset false false _).trans (hclear _))))

theorem sfPass_told (s : State) (hp : p < 2) : SfTold p s (s.sfPass p) := .ite (.refl p s) (s.sfTell_told hp)

/-- A change of the ring is raised and has its new route epoch; the ports' status and their side of the protection process stand. -/
structure RingChanged (s u : State) : Prop where
  stat : ∀ p < 2, PortStat p s u
  epoch : u.rd aRING_EPOCH = s.rd aRING_EPOCH + 1
  core : ∀ q, (u.rport q).core = (s.rport q).core
  lost : u.flag fNW_SC1_LOST = s.flag fNW_SC1_LOST
  holdoff : u.get fERPS_HOLDOFF = s.get fERPS_HOLDOFF
  grid : u.grid = s.grid

theorem epochRegs_stat (hp : p < 2) : hits epochRegs (aRING_PSTAT p) = false := by
  obtain rfl | rfl : p = 0 ∨ p = 1 := by omega
  · decide
  · decide

theorem raiseEpoch_changed (t : State) : RingChanged t (t.raise srcRING).epochUp := by
  have hwr : Wr [(0x270, 0), (0x1B070, 0)] t (t.raise srcRING) := raise_wr (by decide) _ (.refl t)
  have hkept : Kept [.regs, .icu, .nw, .pwr] t (t.raise srcRING) := raise_kept (by decide) _ (.refl t)
  generalize t.raise srcRING = m at hwr hkept ⊢
  obtain ⟨hepoch, hwr', hkept', hnw⟩ := m.epochUp_up
  refine ⟨fun p hp => ((hwr.mono (R := [(0x270, 0), (0x1B070, 0)]) (Q := epochRegs) (by decide)).trans hwr').portStat (epochRegs_stat hp),
    hepoch.trans (by rw [hwr.eq _ (by decide)]), fun q => ?_, (hnw.flag fNW_SC1_LOST).trans (hwr.flag fNW_SC1_LOST), (hwr'.get _).trans (hwr.get _), hkept'.grid_eq.trans hkept.grid_eq⟩
  rw [rport_of_ring hkept'.ring_eq, rport_of_ring hkept.ring_eq]

theorem purgeEpoch_changed (t : State) (p : Nat) : RingChanged t ((t.purge p).raise srcRING).epochUp := by
  have hpurge := t.purge_onEgress p
  obtain ⟨hstat, hepoch, hcore, hlost, hholdoff, hgrid⟩ := (t.purge p).raiseEpoch_changed
  exact ⟨fun q hq => (hpurge.wr.portStat (sendRegs_stat hq)).trans (hstat q hq), hepoch.trans (by rw [hpurge.wr.eq _ (by decide)]),
    fun q => (hcore q).trans (hpurge.core_all q), hlost.trans (hpurge.wr.flag _), hholdoff.trans (hpurge.wr.get _), hgrid.trans hpurge.kept.grid_eq⟩

/-- A port's SF and LINK as they are shown anew; its other fields, and what does not show, stand. -/
structure StatShown (p : Nat) (sf link : Bool) (s t : State) : Prop where
  sf_ : t.sf p = sf
  link_ : t.flag (fRP_LINK p) = link
  fields : ∀ f : Fld, f.addr = aRING_PSTAT p → 4 ≤ f.lo → t.get f = s.get f
  wr : Wr [(aRING_PSTAT p, 0)] s t
  ring : t.ring = s.ring

theorem pstat_wr (t : State) {f : Fld} (b : Bool) (hf : f.addr = aRING_PSTAT p) : Wr [(aRING_PSTAT p, 0)] t (t.putFlag f b) :=
  putFlag_wr (hit_one (by rw [hf]; exact List.mem_singleton_self _)) (.refl t)

theorem get_RP_apart (t : State) (i : Nat) (b : Bool) {g : Fld} (hi : i + 1 ≤ 32) (ha : g.addr = aRING_PSTAT p) (h : g.lo + g.width ≤ i ∨ i + 1 ≤ g.lo) :
    (t.putFlag ⟨aRING_PSTAT p, i, 1⟩ b).get g = t.get g := t.get_putFlag_apart (f := ⟨aRING_PSTAT p, i, 1⟩) (g := g) b hi ha h

theorem flag_RP (t : State) (p i : Nat) (b : Bool) (hi : i + 1 ≤ 32) : (t.putFlag ⟨aRING_PSTAT p, i, 1⟩ b).flag ⟨aRING_PSTAT p, i, 1⟩ = b :=
  t.flag_putFlag ⟨aRING_PSTAT p, i, 1⟩ b hi Nat.one_pos

theorem showLinkSf (s : State) (p : Nat) (sf link : Bool) : StatShown p sf link s ((s.putFlag (fRP_LINK p) link).putFlag (fRP_SF p) sf) where
  sf_ := flag_RP _ p 2 sf (by decide)
  link_ := (congrArg (· != 0) (get_RP_apart (p := p) (g := fRP_LINK p) _ 2 sf (by decide) rfl (.inl (Nat.le_refl 2)))).trans (flag_RP s p 1 link (by decide))
  fields f ha hl := (get_RP_apart _ 2 sf (by decide) ha (.inr (by omega))).trans (get_RP_apart s 1 link (by decide) ha (.inr (by omega)))
  wr := (s.pstat_wr link rfl).trans (pstat_wr _ sf rfl)
  ring := by rw [putFlag_ring, putFlag_ring]

theorem showSfLink (s : State) (p : Nat) (sf link : Bool) : StatShown p sf link s ((s.putFlag (fRP_SF p) sf).putFlag (fRP_LINK p) link) where
  sf_ := (congrArg (· != 0) (get_RP_apart (p := p) (g := fRP_SF p) _ 1 link (by decide) rfl (.inr (Nat.le_refl 2)))).trans (flag_RP s p 2 sf (by decide))
  link_ := flag_RP _ p 1 link (by decide)
  fields f ha hl := (get_RP_apart _ 1 link (by decide) ha (.inr (by omega))).trans (get_RP_apart s 2 sf (by decide) ha (.inr (by omega)))
  wr := (s.pstat_wr sf rfl).trans (pstat_wr _ link rfl)
  ring := by rw [putFlag_ring, putFlag_ring]

theorem pstat_hits (hp : p < 2) : hits [(aRING_PSTAT p, 0)] aRING_EPOCH = false ∧ hits [(aRING_PSTAT p, 0)] aDEV_NW_STAT = false
    ∧ hits [(aRING_PSTAT p, 0)] aRING_ERPS = false ∧ hits [(aRING_PSTAT p, 0)] aRING_STAT = false := by
  obtain rfl | rfl : p = 0 ∨ p = 1 := by omega
  · decide
  · decide

/-- A change of a port's signal fail as far as the protection process is not concerned: SF, the link and the new route epoch (R228, R247). -/
structure SfShown (p : Nat) (sf link : Bool) (s u : State) : Prop where
  sf_ : u.sf p = sf
  link_ : u.flag (fRP_LINK p) = link
  epoch : u.rd aRING_EPOCH = s.rd aRING_EPOCH + 1
  fields : ∀ f : Fld, f.addr = aRING_PSTAT p → 4 ≤ f.lo → u.get f = s.get f
  core : ∀ q, (u.rport q).core = (s.rport q).core
  lost : u.flag fNW_SC1_LOST = s.flag fNW_SC1_LOST
  holdoff : u.get fERPS_HOLDOFF = s.get fERPS_HOLDOFF

theorem StatShown.changed {sf link : Bool} {t u : State} (h : StatShown p sf link s t) (g : RingChanged t u) (hp : p < 2) : SfShown p sf link s u := by
  obtain ⟨hepoch, hnw, herps, -⟩ := pstat_hits hp
  obtain ⟨hsf, hlink, hfields, hwr, hring⟩ := h
  exact ⟨(g.stat p hp).sf.trans hsf, ((g.stat p hp).flag (fRP_LINK p) rfl (.inl (by decide : 2 ≤ 3))).trans hlink, g.epoch.trans (by rw [hwr.eq _ hepoch]),
    fun f ha hl => (g.stat p hp f ha (.inr hl)).trans (hfields f ha hl), fun q => (g.core q).trans (by rw [rport_of_ring hring]),
    g.lost.trans (hwr.flag _ hnw), g.holdoff.trans (hwr.get _ herps)⟩

/-- The tick of a cause of signal fail (R228). -/
def sfCause (s : State) (p : Nat) : State := s.setPort p { s.rport p with sfAt := s.grid.tick }

theorem sfCause_port (s : State) (p : Nat) : (s.sfCause p).rport p = { s.rport p with sfAt := s.grid.tick } := (s.rport_setPort p p _).trans (if_pos rfl)

/-- The onset up to the protection process (R228, R235, R247). -/
def sfSeen (s : State) (p : Nat) (link : Bool) : State :=
  (((((s.sfCause p).putFlag (fRP_LINK p) link).putFlag (fRP_SF p) true).purge p).raise srcRING).epochUp

theorem sfOnset_new (link : Bool) (h : s.sf p = false) : s.sfOnset p link = (s.sfSeen p link).sfPass p := by
  have hsf : ((s.sfCause p).putFlag (fRP_LINK p) link).sf p = false :=
    (congrArg (· != 0) (get_RP_apart (p := p) (g := fRP_SF p) (s.sfCause p) 1 link (by decide) rfl (.inr (Nat.le_refl 2)))).trans h
  unfold sfOnset
  dsimp only
  rw [← sfCause, hsf]
  rfl

theorem sfOnset_again (link : Bool) (h : s.sf p = true) : s.sfOnset p link = (s.sfCause p).putFlag (fRP_LINK p) link := by
  have hsf : ((s.sfCause p).putFlag (fRP_LINK p) link).sf p = true :=
    (congrArg (· != 0) (get_RP_apart (p := p) (g := fRP_SF p) (s.sfCause p) 1 link (by decide) rfl (.inr (Nat.le_refl 2)))).trans h
  unfold sfOnset
  dsimp only
  rw [← sfCause, hsf, if_pos rfl]

theorem sfSeen_shown (s : State) (link : Bool) (hp : p < 2) : SfShown p true link (s.sfCause p) (s.sfSeen p link) :=
  ((s.sfCause p).showLinkSf p true link).changed (purgeEpoch_changed _ p) hp

/-- A signal fail that the protection process hears of after the hold-off (R245). -/
theorem sfPass_holdoff (hsf : s.sf p = true) (hlost : s.flag fNW_SC1_LOST = false) (hfail : (s.rport p).fail = false) (hhold : s.get fERPS_HOLDOFF ≠ 0) :
    ((s.sfPass p).rport p).holdoff = true := by
  unfold sfPass sfTell
  dsimp only
  rw [if_neg (by rw [hlost]; decide), if_pos hsf, hfail, Bool.false_or, if_neg hhold]
  split
  case isTrue h => exact h
  case isFalse => rw [rport_setPort, if_pos rfl]

theorem sfOnset_effect (link : Bool) (hsf : s.sf p = false) (hlost : s.flag fNW_SC1_LOST = false) (hfail : (s.rport p).fail = false)
    (hhold : s.get fERPS_HOLDOFF ≠ 0) (hp : p < 2) : (s.sfOnset p link).sf p = true ∧ (s.sfOnset p link).flag (fRP_LINK p) = link
      ∧ (s.sfOnset p link).rd aRING_EPOCH = s.rd aRING_EPOCH + 1 ∧ ((s.sfOnset p link).rport p).holdoff = true := by
  have hshown := s.sfSeen_shown link hp
  have hfail' : ((s.sfSeen p link).rport p).fail = false := (core_fail (hshown.core p)).1.trans (by rw [sfCause_port, hfail])
  have htold := (s.sfSeen p link).sfPass_told hp
  rw [sfOnset_new link hsf]
  exact ⟨htold.stat.sf.trans hshown.sf_, (htold.stat.flag (fRP_LINK p) rfl (.inl (by decide : 2 ≤ 3))).trans hshown.link_, htold.epoch.trans hshown.epoch,
    sfPass_holdoff hshown.sf_ (hshown.lost.trans hlost) hfail' (hshown.holdoff ▸ hhold)⟩

/-- A cause of signal fail leaves SF set, and of the status word and the module's count what it does not concern. -/
theorem sfOnset_module (s : State) (link : Bool) (hp : p < 2) : (s.sfOnset p link).sf p = true
    ∧ (∀ f : Fld, f.addr = aRING_PSTAT p → 4 ≤ f.lo → (s.sfOnset p link).get f = s.get f) ∧ ((s.sfOnset p link).rport p).noAck = (s.rport p).noAck := by
  by_cases h : s.sf p = true
  case pos =>
    have hport : (((s.sfCause p).putFlag (fRP_LINK p) link).rport p) = { s.rport p with sfAt := s.grid.tick } :=
      (rport_of_ring (by rw [putFlag_ring]) p).trans (s.sfCause_port p)
    rw [sfOnset_again link h]
    refine ⟨(congrArg (· != 0) (get_RP_apart (p := p) (g := fRP_SF p) (s.sfCause p) 1 link (by decide) rfl (.inr (Nat.le_refl 2)))).trans h,
      fun f ha hl => get_RP_apart _ 1 link (by decide) ha (.inr (by omega)), by rw [hport]⟩
  case neg =>
    have hshown := s.sfSeen_shown link hp
    have htold := (s.sfSeen p link).sfPass_told hp
    rw [sfOnset_new link (Bool.eq_false_iff.2 h)]
    exact ⟨htold.stat.sf.trans hshown.sf_, fun f ha hl => (htold.stat f ha (.inr hl)).trans (hshown.fields f ha hl),
      htold.noAck.trans ((core_noAck (hshown.core p)).trans (by rw [sfCause_port]))⟩

/-- The end of a signal fail up to the protection process: the flags, the new route epoch and the neighbour to learn (R228, R247, R248). -/
def sfGone (s : State) (p : Nat) : State := (((s.putFlag (fRP_SF p) false).putFlag (fRP_LINK p) true).raise srcRING).epochUp

theorem sfGone_shown (s : State) (hp : p < 2) : SfShown p false true s (s.sfGone p) :=
  (s.showSfLink p false true).changed (raiseEpoch_changed _) hp

theorem sfGone_grid (s : State) (p : Nat) : (s.sfGone p).grid = s.grid :=
  (raiseEpoch_changed _).grid.trans (by rw [putFlag_grid, putFlag_grid])

theorem sfClear_gone (hsf : s.sf p = true) (hstands : s.sfStands p = false) : s.sfClear p =
    (((s.sfGone p).setPort p { (s.sfGone p).rport p with learn := some ((s.sfGone p).grid.tick + 1250000) }).sfPass p).choose p := by
  unfold sfClear
  rw [if_neg (by rw [hsf]; decide), if_neg (by rw [hstands]; decide)]
  rfl

theorem sfClear_stands (hsf : s.sf p = true) (hstands : s.sfStands p = true) : s.sfClear p = s.putFlag (fRP_LINK p) true := by
  unfold sfClear
  rw [if_neg (by rw [hsf]; decide), if_pos hstands]

theorem sfClear_none (hsf : s.sf p = false) : s.sfClear p = s := by
  unfold sfClear
  exact if_pos (by rw [hsf]; rfl)

/-- The protection process hears that a port's signal fail has gone (R245). -/
theorem sfPass_gone (hsf : s.sf p = false) (hlost : s.flag fNW_SC1_LOST = false) :
    ((s.sfPass p).rport p).fail = false ∧ ((s.sfPass p).rport p).holdoff = false := by
  have hport : (s.setPort p { s.rport p with fail := false, holdoff := false }).rport p = { s.rport p with fail := false, holdoff := false } :=
    (s.rport_setPort p p _).trans (if_pos rfl)
  have hcore (t u : State) (h : Protected t u) (ht : t.rport p = { s.rport p with fail := false, holdoff := false }) :
      (u.rport p).fail = false ∧ (u.rport p).holdoff = false := by
    obtain ⟨hfail, hholdoff⟩ := core_fail (h.core p)
    rw [hfail, hholdoff, ht]
    exact ⟨rfl, rfl⟩
  unfold sfPass sfTell
  dsimp only
  rw [if_neg (by rw [hlost]; decide), if_neg (by rw [hsf]; decide)]
  exact hcore _ _ (.ite (.refl _) (.ite (localFail_protected _ (by omega)) (localClear_protected _))) hport

theorem sfClear_effect (hsf : s.sf p = true) (hstands : s.sfStands p = false) (hlost : s.flag fNW_SC1_LOST = false) (hp : p < 2) :
    (s.sfClear p).sf p = false ∧ (s.sfClear p).flag (fRP_LINK p) = true ∧ (s.sfClear p).rd aRING_EPOCH = s.rd aRING_EPOCH + 1
      ∧ ((s.sfClear p).rport p).fail = false ∧ ((s.sfClear p).rport p).holdoff = false ∧ ((s.sfClear p).rport p).learn = some (s.grid.tick + 1250000) := by
  have hshown := s.sfGone_shown hp
  have hgrid := s.sfGone_grid p
  rw [sfClear_gone hsf hstands]
  generalize s.sfGone p = t at hshown hgrid ⊢
  have hport : (t.setPort p { t.rport p with learn := some (t.grid.tick + 1250000) }).rport p = { t.rport p with learn := some (s.grid.tick + 1250000) } :=
    (t.rport_setPort p p _).trans ((if_pos rfl).trans (by rw [hgrid]))
  have hsf' : (t.setPort p { t.rport p with learn := some (t.grid.tick + 1250000) }).sf p = false := hshown.sf_
  have hlink' : (t.setPort p { t.rport p with learn := some (t.grid.tick + 1250000) }).flag (fRP_LINK p) = true := hshown.link_
  have hepoch' : (t.setPort p { t.rport p with learn := some (t.grid.tick + 1250000) }).rd aRING_EPOCH = s.rd aRING_EPOCH + 1 := hshown.epoch
  have hlost' : (t.setPort p { t.rport p with learn := some (t.grid.tick + 1250000) }).flag fNW_SC1_LOST = false := hshown.lost.trans hlost
  generalize t.setPort p { t.rport p with learn := some (t.grid.tick + 1250000) } = m at hport hsf' hlink' hepoch' hlost' ⊢
  obtain ⟨hfail, hholdoff⟩ := sfPass_gone hsf' hlost'
  have htold := (m.sfPass_told hp).trans (protected_told (choose_onEgress (m.sfPass p) hp).protected_ hp)
  obtain ⟨hfail', hholdoff'⟩ := core_fail (choose_onEgress (m.sfPass p) hp).core
  exact ⟨htold.stat.sf.trans hsf', (htold.stat.flag (fRP_LINK p) rfl (.inl (by decide : 2 ≤ 3))).trans hlink', htold.epoch.trans hepoch', hfail'.trans hfail,
    hholdoff'.trans hholdoff, htold.learn.trans (by rw [hport])⟩

-- Modules (R229)

/-- A port's status word with its module as a poll found it (R229). -/
def modShown (s : State) (p : Nat) (present bad : Bool) (power : Nat) : State :=
  ((s.putFlag (fRP_MODULE_PRESENT p) present).putFlag (fRP_MODULE_BAD p) bad).put (fRP_RXPWR p) power

/-- The module as it is shown. -/
structure ModShown (p : Nat) (present bad : Bool) (power : Nat) (t : State) : Prop where
  present_ : t.flag (fRP_MODULE_PRESENT p) = present
  bad_ : t.flag (fRP_MODULE_BAD p) = bad
  power_ : t.get (fRP_RXPWR p) = power

theorem ModShown.of_fields {t u : State} {present bad : Bool} {power : Nat} (h : ModShown p present bad power t)
    (hf : ∀ f : Fld, f.addr = aRING_PSTAT p → 4 ≤ f.lo → u.get f = t.get f) : ModShown p present bad power u := by
  obtain ⟨hpresent, hbad, hpower⟩ := h
  exact ⟨(congrArg (· != 0) (hf (fRP_MODULE_PRESENT p) rfl (Nat.le_refl 4))).trans hpresent,
    (congrArg (· != 0) (hf (fRP_MODULE_BAD p) rfl (by decide : 4 ≤ 5))).trans hbad, (hf (fRP_RXPWR p) rfl (by decide : 4 ≤ 16)).trans hpower⟩

theorem modShown_shown (s : State) (p : Nat) (present bad : Bool) {power : Nat} (hpower : power < 2 ^ 16) :
    ModShown p present bad power (s.modShown p present bad power) ∧ (s.modShown p present bad power).ring = s.ring := by
  have hput (t : State) (g : Fld) (ha : g.addr = aRING_PSTAT p) (hl : g.lo + g.width ≤ 16) : (t.put (fRP_RXPWR p) power).get g = t.get g :=
    t.get_put_apart (f := fRP_RXPWR p) (g := g) power (show 16 + 16 ≤ 32 by decide) ha (.inl hl)
  have hbad (t : State) : (t.putFlag (fRP_MODULE_BAD p) bad).get (fRP_MODULE_PRESENT p) = t.get (fRP_MODULE_PRESENT p) :=
    get_RP_apart (p := p) (g := fRP_MODULE_PRESENT p) t 5 bad (by decide) rfl (.inl (Nat.le_refl 5))
  refine ⟨⟨?_, ?_, get_put_fits _ (fRP_RXPWR p) hpower (show 16 + 16 ≤ 32 by decide)⟩, by unfold modShown; rw [put_ring, putFlag_ring, putFlag_ring]⟩
  · exact (congrArg (· != 0) ((hput _ (fRP_MODULE_PRESENT p) rfl (by decide : 4 + 1 ≤ 16)).trans (hbad _))).trans (flag_RP s p 4 present (by decide))
  · exact (congrArg (· != 0) (hput _ (fRP_MODULE_BAD p) rfl (by decide : 5 + 1 ≤ 16))).trans (flag_RP _ p 5 bad (by decide))

section Poll

variable (hlost : s.flag fNW_SC1_LOST = false) (hawake : s.inDusk = false)
include hlost hawake

theorem modulePoll_ack (ok : Bool) (power : Option Nat) : ∃ m, Kept [.evt, .regs] ((s.setPort p { s.rport p with noAck := 0 }).modShown p true (!ok) (power.getD 0)) m
    ∧ (ok = true → m = (s.setPort p { s.rport p with noAck := 0 }).modShown p true (!ok) (power.getD 0))
    ∧ Wr [(0x2A8, 0), (0x5014, 0)] ((s.setPort p { s.rport p with noAck := 0 }).modShown p true (!ok) (power.getD 0)) m
    ∧ s.modulePoll p true ok power = if ok then m else m.sfOnset p (m.flag (fRP_LINK p)) := by
  unfold modulePoll
  dsimp only
  rw [hlost, hawake, if_neg (by decide), if_neg (by decide)]
  refine ⟨_, ?_, ?_, ?_, rfl⟩
  · exact .ite (logFw_kept (by decide) _ _ _ _ (.refl _)) (.refl _)
  · intro hok
    subst hok
    rfl
  · exact .ite (logFw_wr (by decide) _ _ _ _ (.refl _)) (.refl _)

theorem modulePoll_silent (ok : Bool) (power : Option Nat) : s.modulePoll p false ok power =
    if (s.rport p).noAck + 1 < 3 then s.setPort p { s.rport p with noAck := (s.rport p).noAck + 1 }
    else ((s.setPort p { s.rport p with noAck := (s.rport p).noAck + 1 }).modShown p false false 0).sfOnset p
      ((s.setPort p { s.rport p with noAck := (s.rport p).noAck + 1 }).flag (fRP_LINK p)) := by
  unfold modulePoll
  dsimp only
  rw [hlost, hawake, if_neg (by decide), if_pos (by decide)]
  rfl

/-- A poll that the module answers (R228, R229). -/
theorem modulePoll_present {ok : Bool} {power : Option Nat} (hpower : power.getD 0 < 2 ^ 16) (hp : p < 2) :
    ModShown p true (!ok) (power.getD 0) (s.modulePoll p true ok power) ∧ (ok = false → (s.modulePoll p true ok power).sf p = true)
      ∧ (ok = true → Kept [.regs, .ring] s (s.modulePoll p true ok power)) := by
  obtain ⟨m, -, hsame, hwr, heq⟩ := modulePoll_ack (p := p) hlost hawake ok power
  obtain ⟨hshown, -⟩ := modShown_shown (s.setPort p { s.rport p with noAck := 0 }) p true (!ok) hpower
  have hstat : hits [(0x2A8, 0), (0x5014, 0)] (aRING_PSTAT p) = false := by
    obtain rfl | rfl : p = 0 ∨ p = 1 := by omega
    · decide
    · decide
  have hm : ModShown p true (!ok) (power.getD 0) m := hshown.of_fields fun f ha _ => hwr.get f (by rw [ha]; exact hstat)
  obtain ⟨hsf, hfields, -⟩ := m.sfOnset_module (m.flag (fRP_LINK p)) hp
  rw [heq]
  cases ok with
  | true =>
    refine ⟨hm, fun h => absurd h (by decide), fun _ => ?_⟩
    rw [if_pos rfl, hsame rfl]
    exact put_kept (by decide) _ _ (putFlag_kept (by decide) _ _ (putFlag_kept (by decide) _ _ (setPort_kept (by decide) _ _ (.refl s))))
  | false => exact ⟨hm.of_fields hfields, fun _ => hsf, fun h => absurd h (by decide)⟩

/-- A poll that the module does not answer; three in a row are its absence (R228, R229). -/
theorem modulePoll_absent (ok : Bool) (power : Option Nat) (hp : p < 2) : ((s.modulePoll p false ok power).rport p).noAck = (s.rport p).noAck + 1
    ∧ (2 ≤ (s.rport p).noAck → ModShown p false false 0 (s.modulePoll p false ok power) ∧ (s.modulePoll p false ok power).sf p = true)
    ∧ ((s.rport p).noAck < 2 → Kept [.ring] s (s.modulePoll p false ok power)) := by
  have hport : (s.setPort p { s.rport p with noAck := (s.rport p).noAck + 1 }).rport p = { s.rport p with noAck := (s.rport p).noAck + 1 } :=
    (s.rport_setPort p p _).trans (if_pos rfl)
  have hset : Kept [.ring] s (s.setPort p { s.rport p with noAck := (s.rport p).noAck + 1 }) := setPort_kept (by decide) _ _ (.refl s)
  rw [modulePoll_silent hlost hawake]
  generalize s.setPort p { s.rport p with noAck := (s.rport p).noAck + 1 } = t at hport hset ⊢
  obtain ⟨hshown, hring⟩ := t.modShown_shown p false false (power := 0) (by decide)
  generalize t.modShown p false false 0 = m at hshown hring ⊢
  obtain ⟨hsf, hfields, hno⟩ := m.sfOnset_module (t.flag (fRP_LINK p)) hp
  split
  case isTrue h => exact ⟨by rw [hport], fun h2 => absurd h (by omega), fun _ => hset⟩
  case isFalse h =>
    exact ⟨hno.trans (by rw [rport_of_ring hring, hport]), fun _ => ⟨hshown.of_fields hfields, hsf⟩, fun h2 => absurd h2 (by omega)⟩

end Poll

-- Frames (R230-R237)

theorem rd_ringCnt_other (t : State) {q k j : Nat} (h : j ≠ k) (hk : k < 16) (hj : j < 16) : (t.ringCnt p k).rd (aRING_CNT q j) = t.rd (aRING_CNT q j) :=
  rd_wr_other t _ (by unfold aRING_CNT; omega)

theorem rd_ringCnt (t : State) (p k : Nat) : (t.ringCnt p k).rd (aRING_CNT p k) = t.rd (aRING_CNT p k) + 1 := t.rd_bump _

theorem snoop_cnt (t : State) (port : Nat) (frame : List Byte) (k : Nat) (hp : p < 2) (hk : k < 16) :
    (t.snoop port frame).rd (aRING_CNT p k) = t.rd (aRING_CNT p k) :=
  (snoop_wr (R := [(0x15208, 0), (0x1520C, 0), (0x15210, 0)]) (by decide) port frame (.refl t)).eq _
    (hits_of_below fun r hr => by
      have : 0x15208 ≤ r.1 := by
        simp only [List.mem_cons, List.not_mem_nil, or_false] at hr
        obtain rfl | rfl | rfl := hr <;> decide
      unfold aRING_CNT
      omega)

/-- The FCS of a frame is good. -/
def fcsGood (frame : List Byte) : Prop := 4 < frame.length ∧ crc32 (frame.take (frame.length - 4)) = ofLeBytes (frame.drop (frame.length - 4))

/-- A frame with the part as it is awake; a short one ends counted (R230, R232). -/
theorem ringReceive_short {frame : List Byte} (codeErr : Bool) (sub : Nat) (hawake : s.inDusk = false) (hshort : frame.length < 64) :
    (fcsGood frame → s.ringReceive p frame codeErr sub = (s.snoop (s.sideOf p) (frame.take (frame.length - 4))).ringCnt p 1)
      ∧ (¬ fcsGood frame → s.ringReceive p frame codeErr sub = s.ringCnt p 1) := by
  have hfcs : (decide (4 < frame.length) && crc32 (frame.take (frame.length - 4)) == ofLeBytes (frame.drop (frame.length - 4))) = true ↔ fcsGood frame := by
    rw [Bool.and_eq_true, decide_eq_true_eq, beq_iff_eq]
    rfl
  unfold ringReceive
  dsimp only
  rw [if_neg (by rw [hawake]; decide), if_pos (.inr (.inl hshort)), if_pos hshort, if_neg (by omega : ¬ 2000 < frame.length)]
  exact ⟨fun h => by rw [if_pos (hfcs.2 h)], fun h => by rw [if_neg (mt hfcs.1 h)]⟩

theorem receiveGood_control {body : List Byte} (stamp : Int) (h : s.classOf p body = 2) : s.receiveGood p body stamp = s.ringCnt p 7 := by
  unfold receiveGood
  dsimp only
  rw [h]
  rfl

theorem ringReceive_control {frame : List Byte} (sub : Nat) (hawake : s.inDusk = false) (hlong : frame.length ≤ 2000) (hshort : 64 ≤ frame.length)
    (hcrc : crc32 (frame.take (frame.length - 4)) = ofLeBytes (frame.drop (frame.length - 4))) (htype : (etherOf (frame.take (frame.length - 4))).1 = 0x8808) :
    s.ringReceive p frame false sub = ((s.ringCnt p 0).snoop (s.sideOf p) (frame.take (frame.length - 4))).ringCnt p 7 := by
  have hfcs : (decide (4 < frame.length) && crc32 (frame.take (frame.length - 4)) == ofLeBytes (frame.drop (frame.length - 4))) = true := by
    rw [Bool.and_eq_true, decide_eq_true_eq, beq_iff_eq]
    exact ⟨by omega, hcrc⟩
  have hclass (t : State) : t.classOf p (frame.take (frame.length - 4)) = 2 := by
    unfold classOf
    exact if_pos htype
  unfold ringReceive
  dsimp only
  rw [if_neg (by rw [hawake]; decide), hfcs, if_neg (by simp; omega)]
  exact receiveGood_control _ (hclass _)

theorem txDone_sent {f : Frame} (hcur : (s.egress p).cur = some f) (hp : p < 2) : (s.txDone p).rd (aRING_CNT p 4) = s.rd (aRING_CNT p 4) + 1
    ∧ (s.sf p = true → ((s.txDone p).egress p).cur = none) := by
  have hring (t : State) (k : Nat) : (t.ringCnt p k).ring = t.ring := (bump_kept (T := [.regs]) (by decide) _ (.refl t)).ring_eq
  have hsf (t : State) (k : Nat) : (t.ringCnt p k).sf p = t.sf p :=
    flag_of_rd (f := fRP_SF p) (rd_wr_other t _ (show aRING_PSTAT p ≠ aRING_CNT p k by unfold aRING_PSTAT aRING_CNT; omega))
  have hsent : ∃ t : State, t.rd (aRING_CNT p 4) = s.rd (aRING_CNT p 4) + 1 ∧ t.sf p = s.sf p ∧ (t.egress p).cur = none ∧ s.txDone p = t.choose p := by
    unfold txDone
    dsimp only
    rw [hcur]
    refine ⟨_, ?_, ?_, ?_, rfl⟩
    · split
      · exact (rd_ringCnt_other _ (by decide) (by decide) (by decide)).trans (rd_ringCnt _ p 4)
      · exact rd_ringCnt _ p 4
    · split
      · exact (hsf _ 3).trans (hsf _ 4)
      · exact hsf _ 4
    · have hnone (u : State) (h : u.ring = (s.setEgress p { s.egress p with cur := none }).ring) : (u.egress p).cur = none := by
        rw [egress, rport_of_ring h, ← egress, egress_setEgress, if_pos rfl]
      split
      · exact hnone _ ((hring _ 3).trans (hring _ 4))
      · exact hnone _ (hring _ 4)
  obtain ⟨t, hrd, hsame, hnone, heq⟩ := hsent
  have hcnt : hits sendRegs (aRING_CNT p 4) = false := by
    obtain rfl | rfl : p = 0 ∨ p = 1 := by omega
    · decide
    · decide
  rw [heq]
  refine ⟨((choose_onEgress t hp).wr.eq _ hcnt).trans hrd, fun h => ?_⟩
  rw [choose_busy (.inr (hsame.trans h))]
  exact hnone

-- Ring protection (R245-R248)

theorem raps_own {req sub node : Nat} (rb dnf bpr : Bool) (h : node = s.ownMac ∨ s.flag fNW_SC1_LOST = true) :
    s.raps p req sub rb dnf bpr node = s.copyTaken cpRAPS p 0 := by
  unfold raps
  exact if_pos h

/-- The ring with the state of the protection process as it stands: no port has failed, and none does (R245). -/
structure ProtView (s t : State) : Prop where
  erps : t.get fRING_ERPS = s.get fRING_ERPS
  fail : ∀ q, (t.rport q).fail = (s.rport q).fail

theorem ProtView.refl (s : State) : ProtView s s := ⟨rfl, fun _ => rfl⟩

theorem ProtView.trans {t u : State} (h : ProtView s t) (g : ProtView t u) : ProtView s u := ⟨g.erps.trans h.erps, fun q => (g.fail q).trans (h.fail q)⟩

/-- A request of another node that no local signal fail stands above, taken by the state machine as it stands (R245, G.8032). -/
theorem raps_remote {req sub node : Nat} (rb dnf bpr : Bool) (hnode : node ≠ s.ownMac) (hlost : s.flag fNW_SC1_LOST = false) (hlearn : (s.rport p).learn = none)
    (hguard : s.ring.guard = false) (hreq : req ≠ rqEVENT) : ∃ t, ProtView s t ∧ s.raps p req sub rb dnf bpr node = t.remote req rb node := by
  have hfresh (c : Prop) [Decidable c] (t : State) (x : Option (Nat × Bool)) :
      ProtView t (if c then t.setPort p { t.rport p with pair := x } else t) := by
    split
    · refine ⟨rfl, fun q => ?_⟩
      rw [rport_setPort]
      split
      case isTrue h => rw [h]
      case isFalse => rfl
    · exact .refl t
  have hflush (c : Prop) [Decidable c] (t : State) : ProtView t (if c then t.epochUp else t) := by
    have hup := t.epochUp_up
    split
    · exact ⟨hup.wr.get _, fun q => by rw [rport_of_ring hup.kept.ring_eq]⟩
    · exact .refl t
  have htaken : ProtView s (s.copyTaken cpRAPS p 0) := ⟨rfl, fun _ => rfl⟩
  have hown : ¬ (node = (s.copyTaken cpRAPS p 0).ownMac ∨ (s.copyTaken cpRAPS p 0).flag fNW_SC1_LOST = true) := not_or.2 ⟨hnode, by rw [show (s.copyTaken cpRAPS p 0).flag fNW_SC1_LOST = false from hlost]; decide⟩
  have hlearn' : ((s.copyTaken cpRAPS p 0).rport p).learn = none := hlearn
  have hguard' : (s.copyTaken cpRAPS p 0).ring.guard = false := hguard
  unfold raps
  dsimp only
  generalize s.copyTaken cpRAPS p 0 = t at htaken hown hlearn' hguard' ⊢
  rw [if_neg hown, hlearn']
  dsimp only
  rw [if_neg hreq, if_neg (by rw [hguard']; decide)]
  exact ⟨_, (htaken.trans (hfresh _ t _)).trans (hflush _ _), rfl⟩

theorem raps_event (rb dnf bpr : Bool) {node : Nat} (hnode : node ≠ s.ownMac) (hlost : s.flag fNW_SC1_LOST = false) (hlearn : (s.rport p).learn = none) :
    (s.raps p 14 0 rb dnf bpr node).rd aRING_EPOCH = s.rd aRING_EPOCH + 1 := by
  have hown : ¬ (node = (s.copyTaken cpRAPS p 0).ownMac ∨ (s.copyTaken cpRAPS p 0).flag fNW_SC1_LOST = true) := not_or.2 ⟨hnode, by rw [show (s.copyTaken cpRAPS p 0).flag fNW_SC1_LOST = false from hlost]; decide⟩
  have hlearn' : ((s.copyTaken cpRAPS p 0).rport p).learn = none := hlearn
  have hrd : (s.copyTaken cpRAPS p 0).rd aRING_EPOCH = s.rd aRING_EPOCH := rfl
  unfold raps
  dsimp only
  generalize s.copyTaken cpRAPS p 0 = t at hown hlearn' hrd ⊢
  rw [if_neg hown, hlearn']
  exact t.epochUp_up.epoch.trans (by rw [hrd])

theorem put_erps (t : State) {v : Nat} (hv : v < 8) : (t.put fRING_ERPS v).get fRING_ERPS = v := get_put_fits t fRING_ERPS hv

/-- What a request of another node makes of the state of the protection process, no local signal fail standing (R245, G.8032). -/
structure Requested (req : Nat) (rb : Bool) (st : Nat) (u : State) : Prop where
  forced : req = rqFS → st ≠ 4 → u.get fRING_ERPS = 4
  fail : req = rqSF → st ≠ 2 → st ≠ 4 → u.get fRING_ERPS = 2
  manual : req = rqMS → st = 1 ∨ st = 5 → u.get fRING_ERPS = 3
  none_ : req = rqNR → rb = true → st = 1 ∨ st = 5 → u.get fRING_ERPS = 1

theorem remote_requested {req : Nat} (rb : Bool) (node : Nat) (h0 : (s.rport 0).fail = false) (h1 : (s.rport 1).fail = false) :
    Requested req rb (s.get fRING_ERPS) (s.remote req rb node) := by
  have hgood : ¬ (([0, 1].any fun p => (s.rport p).fail) = true) := by simp [h0, h1]
  refine ⟨?_, ?_, ?_, ?_⟩
  · rintro rfl h4
    unfold remote
    dsimp only
    rw [if_pos rfl, if_neg h4]
    exact put_erps _ (by decide)
  · rintro rfl h2 h4
    unfold remote
    dsimp only
    rw [if_neg (by decide), if_neg hgood, if_pos rfl, if_neg (not_or.2 ⟨h2, h4⟩)]
    exact put_erps _ (by decide)
  · rintro rfl h15
    unfold remote
    dsimp only
    rw [if_neg (by decide), if_neg hgood, if_neg (by decide), if_pos rfl, if_pos h15]
    exact put_erps _ (by decide)
  · rintro rfl rfl h15
    unfold remote
    dsimp only
    rw [if_neg (by decide), if_neg hgood, if_neg (by decide), if_neg (by decide), if_pos ⟨rfl, rfl⟩, if_pos h15.symm]
    exact put_erps _ (by decide)

theorem raps_requested {req sub node : Nat} (rb dnf bpr : Bool) (hnode : node ≠ s.ownMac) (hlost : s.flag fNW_SC1_LOST = false) (hlearn : (s.rport p).learn = none)
    (hguard : s.ring.guard = false) (h0 : (s.rport 0).fail = false) (h1 : (s.rport 1).fail = false) (hreq : req ≠ rqEVENT) :
    Requested req rb (s.get fRING_ERPS) (s.raps p req sub rb dnf bpr node) := by
  obtain ⟨t, hview, heq⟩ := raps_remote (sub := sub) rb dnf bpr hnode hlost hlearn hguard hreq
  have hreq := remote_requested (s := t) (req := req) rb node ((hview.fail 0).trans h0) ((hview.fail 1).trans h1)
  rw [hview.erps] at hreq
  rw [heq]
  exact hreq

/-- An R-APS message joins the PTP queue of a port that is busy and has room (R236, R245). -/
theorem toPtp_busy {f : Frame} (hf : 2 ≤ f.ingress) (hcur : (s.egress p).cur.isSome = true) (hkept : (s.egress p).keptPtp = [])
    (hroom : queued (s.egress p).ptp + f.bytes.length + 4 ≤ 32768) : s.toPtp p f = s.setEgress p { s.egress p with ptp := (s.egress p).ptp ++ [f], keptPtp := [] } := by
  have hroom' : roomFor (s.egress p).ptp f = true := decide_eq_true hroom
  unfold toPtp joinOwn
  dsimp only
  rw [if_neg (by omega), hkept, hroom', if_pos (by rfl)]
  dsimp only
  rw [choose_busy (.inl ?_)]
  rw [egress_setEgress, if_pos rfl]
  exact hcur

theorem rapsFrame_ingress (s : State) (req : Nat) (dnf : Bool) : (s.rapsFrame req dnf).ingress = 2 := rfl

/-- The part with one more R-APS message counted, at this tick (R245). -/
def rapsCounted (s : State) : State := s.setRing { s.ring with sent := s.ring.sent + 1, txAt := s.grid.tick }

theorem rapsSend_due {req : Nat} {dnf : Bool} (htx : s.ring.tx = some (req, dnf)) (hdue : s.rapsDue = true) (hlost : s.flag fNW_SC1_LOST = false) (hawake : s.inDusk = false) :
    s.rapsSend = [0, 1].foldl (fun t p => if t.sf p then t else t.toPtp p (s.rapsFrame req dnf)) s.rapsCounted := by
  unfold rapsSend
  rw [htx]
  dsimp only
  rw [hlost, hawake, hdue, if_neg (by decide)]
  rfl

theorem rapsSend_not_due (h : s.ring.tx = none ∨ s.rapsDue = false) : s.rapsSend = s := by
  unfold rapsSend
  split
  case h_1 htx =>
    obtain h | h := h
    · exact absurd (htx.symm.trans h) (by simp)
    · rw [h, if_pos (by simp)]
  case h_2 => rfl

theorem queueOwn_onEgress (t : State) {f : Frame} (hf : 2 ≤ f.ingress) (hp : p < 2) : OnEgress p t (if t.sf p then t else t.toPtp p f) :=
  .ite (.refl p t) (t.toPtp_onEgress hp hf)

/-- A frame of the device's own goes to both ports; where a port is busy with room it joins the queue (R236, R245). -/
theorem queueBoth (t : State) {f : Frame} (hf : 2 ≤ f.ingress) : ([0, 1].foldl (fun t p => if t.sf p then t else t.toPtp p f) t).ring.rest = t.ring.rest
    ∧ Kept [.regs, .ring, .ptp] t ([0, 1].foldl (fun t p => if t.sf p then t else t.toPtp p f) t)
    ∧ ∀ q < 2, t.sf q = false → (t.egress q).cur.isSome = true → (t.egress q).keptPtp = [] → queued (t.egress q).ptp + f.bytes.length + 4 ≤ 32768 →
      (([0, 1].foldl (fun t p => if t.sf p then t else t.toPtp p f) t).egress q).ptp = (t.egress q).ptp ++ [f] := by
  have hjoin (u : State) (q : Nat) (hsf : u.sf q = false) (hcur : (u.egress q).cur.isSome = true) (hkept : (u.egress q).keptPtp = [])
      (hroom : queued (u.egress q).ptp + f.bytes.length + 4 ≤ 32768) : ((if u.sf q then u else u.toPtp q f).egress q).ptp = (u.egress q).ptp ++ [f] := by
    rw [if_neg (by rw [hsf]; decide), toPtp_busy hf hcur hkept hroom, egress_setEgress, if_pos rfl]
  rw [List.foldl_cons, List.foldl_cons, List.foldl_nil]
  have hfirst := t.queueOwn_onEgress hf (p := 0) (by decide)
  have hjoin0 := hjoin t 0
  generalize (if t.sf 0 then t else t.toPtp 0 f) = u at hfirst hjoin0 ⊢
  have hsecond := u.queueOwn_onEgress hf (p := 1) (by decide)
  have hjoin1 := hjoin u 1
  generalize (if u.sf 1 then u else u.toPtp 1 f) = v at hsecond hjoin1 ⊢
  refine ⟨hsecond.rest.trans hfirst.rest, hfirst.kept.trans hsecond.kept, fun q hq hsf hcur hkept hroom => ?_⟩
  obtain rfl | rfl : q = 0 ∨ q = 1 := by omega
  · rw [hsecond.egress_other (by decide)]
    exact hjoin0 hsf hcur hkept hroom
  · have hsf' : u.sf 1 = false := (hfirst.wr.portStat (sendRegs_stat (p := 1) (by decide))).sf.trans hsf
    rw [hfirst.egress_other (by decide)] at hjoin1
    exact hjoin1 hsf' hcur hkept hroom

end State

theorem exec_ringFrameReceive (p : Fin 2) (frame : List (BitVec 8)) (codeErr : Bool) (sub : Fin 40) (s : State) :
    exec (.ringFrameReceive p frame codeErr sub) s = .next (s.ringReceive p frame codeErr sub) := rfl
theorem exec_egressTxComplete (p : Fin 2) (s : State) : exec (.egressTxComplete p) s = .next (s.txDone p) := rfl
theorem exec_signalFailOnset (p : Fin 2) (link : Bool) (s : State) : exec (.signalFailOnset p link) s = .next (s.sfOnset p link) := rfl
theorem exec_signalFailClear (p : Fin 2) (s : State) : exec (.signalFailClear p) s = .next (s.sfClear p) := rfl
theorem exec_sfpModulePoll (p : Fin 2) (ack ok : Bool) (power : Option (BitVec 16)) (s : State) :
    exec (.sfpModulePoll p ack ok power) s = .next (s.modulePoll p ack ok (power.map (·.toNat))) := rfl
theorem exec_ringRateAlternate (p : Fin 2) (s : State) : exec (.ringRateAlternate p) s =
    if s.cfgHold && !s.flag (fRP_LINK p) then .next (s.putFlag (fRP_RATE p) !s.flag (fRP_RATE p)) else .next s := rfl
theorem exec_rapsReceive (p : Fin 2) (req sub : BitVec 4) (rb dnf bpr : Bool) (node : BitVec 48) (s : State) :
    exec (.rapsReceive p req sub rb dnf bpr node) s = .next (s.raps p req.toNat sub.toNat rb dnf bpr node.toNat) := rfl
theorem exec_rapsTransmit (s : State) : exec .rapsTransmit s = .next s.rapsSend := rfl
theorem exec_holdoffExpiry (p : Fin 2) (s : State) : exec (.holdoffExpiry p) s = if !s.holdoffOver p || s.flag fNW_SC1_LOST then .next s
    else if s.sf p then .next (s.failSeen p) else .next (s.setPort p { s.rport p with holdoff := false }) := rfl
theorem exec_guardExpiry (s : State) : exec .guardExpiry s = if s.guardOver then .next (s.setRing { s.ring with guard := false }) else .next s := rfl

/-- Settles O28. -/
theorem ringPorts : Obligations.RingPorts := by
  intro p frame codeErr link ok sub power req rsub rb dnf bpr node f rq s x fcs
  have hp : p.val < 2 := p.isLt
  have hpoll (ack : Bool) := exec_sfpModulePoll p ack ok power s
  have hpower : (power.map (·.toNat)).getD 0 < 2 ^ 16 := by
    cases power with
    | none => decide
    | some w => exact w.isLt
  have hraps (r sb : BitVec 4) := exec_rapsReceive p r sb rb dnf bpr node s
  refine ⟨fun hd => .of_eq (exec_ringFrameReceive p frame codeErr sub s) (if_pos hd), fun hd hshort => .of_eq (exec_ringFrameReceive p frame codeErr sub s) ?short,
    fun hd hlong hshort hcrc htype => .of_eq (exec_ringFrameReceive p frame false sub s) ?control, fun hcur => .of_eq (exec_egressTxComplete p s) ?sent,
    fun hsf hlost hfail hhold => .of_eq (exec_signalFailOnset p link s) (State.sfOnset_effect link hsf hlost hfail hhold hp),
    fun hsf hst hlost hother => .of_eq (exec_signalFailClear p s) (State.sfClear_effect hsf hst hlost hp),
    fun hsf hst => .of_eq (exec_signalFailClear p s) ?stands, fun hsf => .of_eq (exec_signalFailClear p s) (State.sfClear_none hsf), fun hlost hd => ⟨.of_eq (hpoll true) ?answered, .of_eq (hpoll false) ?silent⟩,
    fun hhold hlink => ?rate, fun h => ?noRate, fun h => .of_eq (hraps req rsub) ?own, fun hnode hlost hlearn => ⟨.of_eq (hraps 14 0) (State.raps_event rb dnf bpr hnode hlost hlearn),
      fun hguard h0 h1 => .of_eq (hraps req rsub) ?request⟩, fun htx hdue hlost hd => .of_eq (exec_rapsTransmit s) ?transmit,
    fun h => .of_eq (exec_rapsTransmit s) (State.rapsSend_not_due h), fun hover hlost hsf herps => ?failSeen, fun hover hlost hsf => ?failGone, fun h => ?notOver,
    fun h => .of_eq ((exec_guardExpiry s).trans (if_pos h)) ⟨rfl, fun _ => rfl, (State.setRing_kept (by decide) _ (.refl s)).only⟩,
    fun h => .of_eq ((exec_guardExpiry s).trans (if_neg (by rw [h]; decide))) rfl⟩
  case short =>
    obtain ⟨hgood, hbad⟩ := State.ringReceive_short (p := p) codeErr sub hd hshort
    have hcnt (t : State) (ht : t.rd (aRING_CNT p 1) = s.rd (aRING_CNT p 1)) (hk : Kept [.regs, .obs] s t) :
        (t.ringCnt p 1).rd (aRING_CNT p 1) = s.rd (aRING_CNT p 1) + 1 ∧ Only [.regs, .obs] s (t.ringCnt p 1) :=
      ⟨(State.rd_ringCnt t p 1).trans (by rw [ht]), (State.bump_kept (by decide) _ hk).only⟩
    by_cases h : State.fcsGood frame
    · rw [hgood h]
      obtain ⟨hrd, honly⟩ := hcnt _ (s.snoop_cnt _ _ 1 hp (by decide)) (State.snoop_kept (by decide) (s.sideOf p) (frame.take (frame.length - 4)) (.refl s))
      exact ⟨hrd, honly, fun hn => absurd h hn⟩
    · rw [hbad h]
      obtain ⟨hrd, honly⟩ := hcnt s rfl (.refl s)
      exact ⟨hrd, honly, fun _ => ⟨(State.bump_kept (by decide) _ (.refl s)).only, (State.bump_wr (hit_one (List.mem_singleton_self _)) (.refl s)).onlyRegs⟩⟩
  case control =>
    have hrd0 := State.rd_ringCnt s p 0
    have hrd7 : (s.ringCnt p 0).rd (aRING_CNT p 7) = s.rd (aRING_CNT p 7) := State.rd_ringCnt_other s (by decide) (by decide) (by decide)
    have hkept : Kept [.regs] s (s.ringCnt p 0) := State.bump_kept (by decide) _ (.refl s)
    rw [State.ringReceive_control sub hd hlong hshort hcrc htype]
    generalize s.ringCnt p 0 = t at hrd0 hrd7 hkept ⊢
    refine ⟨(State.rd_ringCnt_other _ (by decide) (by decide) (by decide)).trans ((t.snoop_cnt _ _ 0 hp (by decide)).trans hrd0),
      (State.rd_ringCnt _ p 7).trans (by rw [t.snoop_cnt _ _ 7 hp (by decide), hrd7]), (State.bump_kept (by decide) _ (State.snoop_kept (by decide) _ _ (hkept.mono (by decide)))).only⟩
  case sent =>
    obtain ⟨hrd, hnone⟩ := State.txDone_sent hcur hp
    exact ⟨hrd, hnone, (State.txDone_kept (by decide) _ (.refl s)).only⟩
  case stands =>
    rw [State.sfClear_stands hsf hst]
    refine ⟨State.flag_RP s p 1 true (by decide), ?_, (State.putFlag_kept (by decide) _ _ (.refl s)).only, (s.pstat_wr true rfl).onlyRegs⟩
    exact (congrArg (· != 0) (State.get_RP_apart (p := p) (g := fRP_SF p) s 1 true (by decide) rfl (.inr (Nat.le_refl 2)))).trans hsf
  case answered =>
    obtain ⟨⟨hpresent, hbad, hrx⟩, hfail, hkept⟩ := State.modulePoll_present hlost hd (ok := ok) hpower hp
    exact ⟨hpresent, hbad, hrx, hfail, fun h => (hkept h).only, (State.modulePoll_kept (by decide) _ _ _ _ (.refl s)).only⟩
  case silent =>
    obtain ⟨hno, hgone, hkept⟩ := State.modulePoll_absent hlost hd ok (power.map (·.toNat)) hp
    exact ⟨hno, fun h => ⟨(hgone h).1.present_, (hgone h).1.power_, (hgone h).2⟩, fun h => (hkept h).only⟩
  case rate =>
    refine .of_eq ((exec_ringRateAlternate p s).trans (if_pos (by rw [hhold, hlink]; rfl))) ?_
    exact ⟨State.flag_RP s p 0 _ (by decide), (State.putFlag_kept (by decide) _ _ (.refl s)).only, (s.pstat_wr _ rfl).onlyRegs⟩
  case noRate =>
    refine .of_eq ((exec_ringRateAlternate p s).trans (if_neg ?_)) rfl
    obtain h | h := h
    · rw [h, Bool.false_and]
      exact Bool.false_ne_true
    · rw [h, Bool.not_true, Bool.and_false]
      exact Bool.false_ne_true
  case own =>
    rw [State.raps_own rb dnf bpr h]
    exact ⟨(State.copyTaken_kept (by decide) _ _ _ (.refl s)).only, rfl, fun _ => rfl⟩
  case request =>
    have hreq (r : BitVec 4) (hr : r ≠ 14) : State.Requested r.toNat rb (s.get fRING_ERPS) (s.raps p r.toNat rsub.toNat rb dnf bpr node.toNat) :=
      State.raps_requested rb dnf bpr hnode hlost hlearn hguard h0 h1 fun h => hr (BitVec.eq_of_toNat_eq h)
    refine ⟨?_, ?_, ?_, ?_⟩
    · rintro rfl
      exact (hreq 13 (by decide)).forced rfl
    · rintro rfl
      exact (hreq 11 (by decide)).fail rfl
    · rintro rfl
      exact (hreq 7 (by decide)).manual rfl
    · rintro rfl
      exact (hreq 0 (by decide)).none_ rfl
  case transmit =>
    have hkept : Kept [.ring] s s.rapsCounted := State.setRing_kept (by decide) _ (.refl s)
    obtain ⟨hrest, hkept', hqueue⟩ := State.queueBoth s.rapsCounted (State.rapsFrame_ingress s rq dnf).ge
    rw [State.rapsSend_due htx hdue hlost hd]
    exact ⟨(congrArg Ring.sent hrest : _), (congrArg Ring.txAt hrest : _), ((hkept.mono (by decide)).trans hkept').only, fun q hq => hqueue q hq⟩
  case failSeen =>
    refine .of_eq ((exec_holdoffExpiry p s).trans ((if_neg (by rw [hover, hlost]; decide)).trans (if_pos hsf))) ⟨?_, (State.failSeen_kept (by decide) _ (.refl s)).only⟩
    exact State.localFail_erps (s := s.setPort p { s.rport p with fail := true, holdoff := false }) herps p
  case failGone =>
    refine .of_eq ((exec_holdoffExpiry p s).trans ((if_neg (by rw [hover, hlost]; decide)).trans (if_neg (by rw [hsf]; decide)))) ⟨?_, (State.setPort_kept (by decide) _ _ (.refl s)).only⟩
    rw [State.rport_setPort, if_pos rfl]
  case notOver =>
    refine .of_eq ((exec_holdoffExpiry p s).trans (if_pos ?_)) rfl
    obtain h | h := h
    · rw [h]
      rfl
    · rw [h, Bool.or_true]

end Sys2Proof.Machine
end

section
/-! LAUNCH WINDOWS (R239-R244) and the event frames (R250): template, guard, gate and window of a descriptor. -/

namespace Sys2Proof.Machine

/-- A port's guard and window stand. -/
structure GateKept (p : Nat) (s t : State) : Prop where
  guard : (t.egress p).guard = (s.egress p).guard
  window : (t.egress p).window = (s.egress p).window

namespace GateKept

variable {p : Nat} {s t u : State}

theorem refl (p : Nat) (s : State) : GateKept p s s := ⟨rfl, rfl⟩

theorem trans (h : GateKept p s t) (g : GateKept p t u) : GateKept p s u := ⟨g.guard.trans h.guard, g.window.trans h.window⟩

theorem of_ring (h : t.ring = s.ring) : GateKept p s t := by
  have he : t.egress p = s.egress p := congrArg RingPort.out (State.rport_of_ring h p)
  exact ⟨by rw [he], by rw [he]⟩

theorem setEgress {e : Egress} (hguard : e.guard = (s.egress p).guard) (hwindow : e.window = (s.egress p).window) : GateKept p s (s.setEgress p e) := by
  have he : (s.setEgress p e).egress p = e := (s.egress_setEgress p p e).trans (if_pos rfl)
  exact ⟨by rw [he, hguard], by rw [he, hwindow]⟩

theorem ite {c : Prop} [Decidable c] (ht : GateKept p s t) (hu : GateKept p s u) : GateKept p s (if c then t else u) := by
  split
  · exact ht
  · exact hu

end GateKept

namespace State

variable {s : State} {p : Nat}

theorem ptpLeave_gate (s : State) (f : Frame) : GateKept p s (s.ptpLeave f p).1 := by
  unfold ptpLeave
  split
  · exact .refl p s
  split
  · exact .of_ring (Kept.fst (tcLeave_kept (T := [.regs, .ptp]) (by decide) f p (.refl s))).ring_eq
  · unfold pdLeave
    dsimp only
    split
    · exact .of_ring rfl
    split
    · split
      · exact .setEgress rfl rfl
      · exact .refl p s
    · exact .refl p s

theorem startFrame_gate (s : State) (p : Nat) (f : Frame) : GateKept p s (s.startFrame p f) :=
  (s.ptpLeave_gate f).trans (.setEgress rfl rfl)

theorem refill_gate (s : State) (p : Nat) : GateKept p s (s.refill p) := .setEgress rfl rfl

section Start

variable {e : Egress} (hguard : e.guard = (s.egress p).guard) (hwindow : e.window = (s.egress p).window)
include hguard hwindow

theorem setStart_gate (f : Frame) : GateKept p s ((s.setEgress p e).startFrame p f) :=
  (GateKept.setEgress hguard hwindow).trans (startFrame_gate _ p f)

theorem setStartRefill_gate (f : Frame) : GateKept p s (((s.setEgress p e).startFrame p f).refill p) :=
  (setStart_gate hguard hwindow f).trans (refill_gate _ p)

end Start

theorem chooseLast_gate (s : State) (p : Nat) (loc : Bool → Option (Frame × List Frame)) : GateKept p s (s.chooseLast p (s.egress p) loc) := by
  unfold chooseLast
  split
  · exact setStartRefill_gate (by rfl) (by rfl) _
  · exact .refl p s

theorem chooseRest_gate (s : State) (p : Nat) (loc : Bool → Option (Frame × List Frame)) : GateKept p s (s.chooseRest p (s.egress p) loc) := by
  unfold chooseRest
  split
  · exact setStartRefill_gate (by rfl) (by rfl) _
  split
  · exact .ite (setStart_gate (by rfl) (by rfl) _) (s.chooseLast_gate p loc)
  · exact s.chooseLast_gate p loc

theorem choose_gate (s : State) (p : Nat) : GateKept p s (s.choose p) := by
  have hcnt (t : State) : GateKept p t (t.ringCnt p 9) := .of_ring (bump_kept (T := [.regs]) (by decide) _ (.refl t)).ring_eq
  unfold choose
  dsimp only
  split
  · exact .refl p s
  split
  · exact ((GateKept.setEgress (by rfl) (by rfl)).trans (hcnt _)).trans (startFrame_gate _ p _)
  split
  · exact .ite (setStartRefill_gate (by rfl) (by rfl) _) (.ite (.refl p s) (s.chooseRest_gate p _))
  · exact .ite (.refl p s) (s.chooseRest_gate p _)

theorem ldPorts_cases (mask : Nat) : ldPorts mask = [] ∨ ldPorts mask = [0] ∨ ldPorts mask = [1] ∨ ldPorts mask = [0, 1] := by
  unfold ldPorts
  cases h0 : bitOf mask 0 <;> cases h1 : bitOf mask 1 <;> simp [h0, h1]

theorem mem_ldPorts {mask q : Nat} (h : q ∈ ldPorts mask) : q < 2 := by
  have hq : q ∈ [0, 1] := List.mem_of_mem_filter h
  simp only [List.mem_cons, List.not_mem_nil, or_false] at hq
  omega

end State

/-- What the egresses' work leaves as it was for a launch: the launches, the ports' status, the time. -/
structure LaunchView (s t : State) : Prop where
  launch : ∀ d, t.launch d = s.launch d
  stat : ∀ p < 2, t.rd (aRING_PSTAT p) = s.rd (aRING_PSTAT p)
  kept : Kept [.regs, .ring, .ptp] s t

/-- A port's part in a launch: no other port changes, nor its count of skipped occurrences. -/
structure OnGate (p : Nat) (s t : State) : Prop where
  view : LaunchView s t
  others : ∀ q, q ≠ p → t.rport q = s.rport q
  cnt : ∀ q < 2, q ≠ p → t.rd (aRING_CNT q 10) = s.rd (aRING_CNT q 10)

namespace LaunchView

variable {s t u : State}

theorem refl (s : State) : LaunchView s s := ⟨fun _ => rfl, fun _ _ => rfl, .refl s⟩

theorem trans (h : LaunchView s t) (g : LaunchView t u) : LaunchView s u :=
  ⟨fun d => (g.launch d).trans (h.launch d), fun p hp => (g.stat p hp).trans (h.stat p hp), h.kept.trans g.kept⟩

theorem shut (h : LaunchView s t) {p : Nat} (hp : p < 2) : t.shut p = s.shut p := by
  rw [State.shut, State.blocked, State.sf, State.flag_of_rd (f := fRP_BLOCKED p) (h.stat p hp), State.flag_of_rd (f := fRP_SF p) (h.stat p hp), State.shut, State.blocked, State.sf]

theorem ldLeft (h : LaunchView s t) (d : Nat) : t.ldLeft d = s.ldLeft d := by
  rw [State.ldLeft, State.ticksTo, State.timeNs, h.launch, h.kept.time_eq, State.ldLeft, State.ticksTo, State.timeNs]

theorem guardTicks (h : LaunchView s t) {p : Nat} (hp : p < 2) : t.guardTicks p = s.guardTicks p := by
  rw [State.guardTicks, State.wireTicks, State.flag_of_rd (f := fRP_RATE p) (h.stat p hp), State.guardTicks, State.wireTicks]

end LaunchView

theorem sendRegs_skip {p : Nat} (hp : p < 2) : hits sendRegs (aRING_CNT p 10) = false := by
  obtain rfl | rfl : p = 0 ∨ p = 1 := by omega
  · decide
  · decide

theorem OnEgress.onGate {p : Nat} {s t : State} (h : OnEgress p s t) : OnGate p s t where
  view := by
    refine ⟨fun d => ?_, fun q hq => h.wr.eq _ (sendRegs_stat hq), h.kept⟩
    have hl : t.ring.launch = s.ring.launch := (congrArg Ring.launch h.rest : _)
    rw [State.launch, hl, State.launch]
  others := h.others
  cnt q hq _ := h.wr.eq _ (sendRegs_skip hq)

theorem OnGate.trans {p : Nat} {s t u : State} (h : OnGate p s t) (g : OnGate p t u) : OnGate p s u :=
  ⟨h.view.trans g.view, fun q hq => (g.others q hq).trans (h.others q hq), fun q hq hne => (g.cnt q hq hne).trans (h.cnt q hq hne)⟩

/-- Ports worked through one after the other, each on its own. -/
theorem gates_fold (g : State → Nat → State) (hg : ∀ s p, p < 2 → OnGate p s (g s p)) {l : List Nat} (hl : l.Nodup) (hlt : ∀ p ∈ l, p < 2) (s : State) :
    LaunchView s (l.foldl g s) ∧ (∀ q < 2, q ∉ l → (l.foldl g s).rport q = s.rport q ∧ (l.foldl g s).rd (aRING_CNT q 10) = s.rd (aRING_CNT q 10))
      ∧ ∀ q ∈ l, ∃ t, LaunchView s t ∧ (t.rport q = s.rport q ∧ t.rd (aRING_CNT q 10) = s.rd (aRING_CNT q 10))
        ∧ (l.foldl g s).rport q = (g t q).rport q ∧ (l.foldl g s).rd (aRING_CNT q 10) = (g t q).rd (aRING_CNT q 10) := by
  induction l generalizing s with
  | nil => exact ⟨.refl s, fun _ _ _ => ⟨rfl, rfl⟩, fun _ h => absurd h List.not_mem_nil⟩
  | cons p l ih =>
    obtain ⟨hnot, hnodup⟩ := List.nodup_cons.1 hl
    have hp := hg s p (hlt p List.mem_cons_self)
    obtain ⟨hview, hout, hin⟩ := ih hnodup (fun q hq => hlt q (List.mem_cons_of_mem p hq)) (g s p)
    rw [List.foldl_cons]
    refine ⟨hp.view.trans hview, fun q hlt2 hq => ?_, fun q hq => ?_⟩
    · obtain ⟨hne, hrest⟩ := not_or.1 fun h => hq (List.mem_cons.2 h)
      obtain ⟨hport, hcnt⟩ := hout q hlt2 hrest
      exact ⟨hport.trans (hp.others q hne), hcnt.trans (hp.cnt q hlt2 hne)⟩
    · by_cases hqp : q = p
      · subst hqp
        exact ⟨s, .refl s, ⟨rfl, rfl⟩, hout q (hlt q hq) hnot⟩
      · obtain ⟨t, hview', ⟨hport, hcnt⟩, hfold⟩ := hin q ((List.mem_cons.1 hq).resolve_left hqp)
        exact ⟨t, hp.view.trans hview', ⟨hport.trans (hp.others q hqp), hcnt.trans (hp.cnt q (hlt q hq) hqp)⟩, hfold⟩

namespace State

variable {s : State} {d : Nat}

theorem ldPorts_nodup (mask : Nat) : (ldPorts mask).Nodup := List.Nodup.filter _ (by decide)

theorem launch_setLaunch (s : State) (d e : Nat) (l : Launch) : (s.setLaunch d l).launch e = if e = d then l else s.launch e :=
  tabGet_set (fun _ => defLaunch) s.ring.launch d e l

/-- The occurrence that a copy of the template stands for (R239, R240). -/
def occurrence (s : State) (d g : Nat) : Launch :=
  { s.launch d with at_ := g, copied := true, ports := s.ldMask (bitsOf (s.ldWord d 0) 29 2), wlen := bitsOf (s.ldWord d 0) 16 9, pass := bitsOf (s.ldWord d 0) 0 16 }

theorem ldCopy_due {g : Nat} (hvalid : s.ldValid d = true) (hset : s.flag fTIME_SET = true) (hlost : s.flag fNW_SC1_LOST = false) (hawake : s.inDusk = false)
    (harmed : (s.launch d).armed = false) (hnext : s.ldNext d = some g) (htime : s.ldCopyTime g = true) : (s.ldCopy d).launch d = s.occurrence d g := by
  have hfold (f : State → Nat → Egress) (c : State → Nat → Bool) (l : List Nat) (t : State) :
      (l.foldl (fun s p => if c s p then s else s.setEgress p (f s p)) t).launch d = t.launch d := by
    induction l generalizing t with
    | nil => rfl
    | cons p l ih =>
      rw [List.foldl_cons, ih]
      split
      · rfl
      · rfl
  unfold ldCopy
  dsimp only
  rw [if_neg (by rw [hvalid, hset, hlost, hawake, harmed]; decide), hnext]
  dsimp only
  rw [htime, if_neg (by decide), hfold, launch_setLaunch, if_pos rfl, occurrence]

theorem ldCopy_not_due {g : Nat} (h : s.ldValid d = false ∨ s.flag fTIME_SET = false ∨ s.flag fNW_SC1_LOST = true ∨ s.inDusk = true ∨ (s.launch d).armed = true
    ∨ s.ldNext d = none ∨ (s.ldNext d = some g ∧ s.ldCopyTime g = false)) : s.ldCopy d = s := by
  unfold ldCopy
  dsimp only
  obtain h | h | h | h | h | h | ⟨h, h'⟩ := h
  · rw [h]; rfl
  · rw [h, if_pos (by simp)]
  · rw [h, if_pos (by simp)]
  · rw [h, if_pos (by simp)]
  · rw [h, if_pos (by simp)]
  · rw [h]
    exact ite_self _
  · rw [h]
    dsimp only
    rw [h']
    exact ite_self _

-- The guard and the gate (R240, R241)

/-- The guard of an armed occurrence on one of its egresses (R241). -/
def guardStep (left tick : Nat) (s : State) (p : Nat) : State :=
  if left ≤ s.guardTicks p then s.setEgress p { s.egress p with guard := some (tick + left) } else s

theorem guardStep_onGate (left tick : Nat) (s : State) (p : Nat) : OnGate p s (guardStep left tick s p) :=
  (OnEgress.ite (.setEgress _) (.refl p s)).onGate

/-- Two steps that agree wherever an invariant of the second holds give the same fold. -/
theorem foldl_congr_of_inv {β : Type} {g h : State → β → State} (P : State → Prop) (hgh : ∀ t b, P t → g t b = h t b) (hP : ∀ t b, P t → P (h t b)) (l : List β)
    {t : State} (ht : P t) : l.foldl g t = l.foldl h t := by
  induction l generalizing t with
  | nil => rfl
  | cons b l ih =>
    rw [List.foldl_cons, List.foldl_cons, hgh t b ht]
    exact ih (hP t b ht)

theorem ldGuard_fold (h : (s.launch d).armed = true) : s.ldGuard d = (ldPorts (s.launch d).ports).foldl (guardStep (s.ldLeft d) s.grid.tick) s := by
  unfold ldGuard
  dsimp only
  rw [if_neg (by rw [h]; decide)]
  refine foldl_congr_of_inv (LaunchView s) (fun t p ht => ?_) (fun t p ht => ht.trans (guardStep_onGate _ _ t p).view) _ (.refl s)
  rw [ht.ldLeft, ht.kept.grid_eq, guardStep]

theorem ldGuard_guards (h : (s.launch d).armed = true) {p : Nat} (hp : p < 2) : ((s.ldGuard d).egress p).guard =
    if p ∈ ldPorts (s.launch d).ports ∧ s.ldLeft d ≤ s.guardTicks p then some (s.grid.tick + s.ldLeft d) else (s.egress p).guard := by
  obtain ⟨-, hout, hin⟩ := gates_fold (guardStep (s.ldLeft d) s.grid.tick) (fun t q _ => guardStep_onGate _ _ t q) (ldPorts_nodup (s.launch d).ports)
    (fun q hq => mem_ldPorts hq) s
  rw [ldGuard_fold h, egress]
  by_cases hmem : p ∈ ldPorts (s.launch d).ports
  case neg => rw [(hout p hp hmem).1, if_neg fun hn => hmem hn.1, egress]
  case pos =>
    obtain ⟨t, hview, ⟨hport, -⟩, hfold, -⟩ := hin p hmem
    have htick := hview.guardTicks hp
    rw [hfold, ← egress, guardStep, htick]
    by_cases hleft : s.ldLeft d ≤ s.guardTicks p
    · rw [if_pos hleft, if_pos ⟨hmem, hleft⟩, egress_setEgress, if_pos rfl]
    · rw [if_neg hleft, if_neg fun hn => hleft hn.2, egress, hport, egress]

/-- The gate on one egress of an occurrence: its window opens, or the occurrence is skipped (R240). -/
def gateStep (d : Nat) (l : Launch) (s : State) (p : Nat) : State :=
  let e := { s.egress p with guard := none }
  if s.shut p then ((s.setEgress p { e with launch := e.launch.filter fun x => x.1 != d }).ringCnt p 10).choose p
  else (s.setEgress p { e with window := some (d, l.pass) }).choose p

/-- The occurrence is over: its gate has opened, its window is held until a tick, its number is used up where any port sends (R239, R240). -/
def opened (s : State) (d : Nat) : Launch :=
  { s.launch d with
    copied := false, armed := false, closeAt := s.grid.tick + (s.launch d).wlen
    seq := if (ldPorts (s.launch d).ports).any (fun p => !s.shut p) then ((s.launch d).seq + 1) % 2 ^ 32 else (s.launch d).seq }

theorem ldGate_fold (harmed : (s.launch d).armed = true) (hreached : s.ldReached d = true) : s.ldGate d =
    (ldPorts (s.launch d).ports).foldl (gateStep d (s.launch d)) (s.setLaunch d (s.opened d)) := by
  unfold ldGate
  dsimp only
  rw [if_neg (by rw [harmed, hreached]; decide)]
  rfl

theorem ldGate_none (h : (s.launch d).armed = false ∨ s.ldReached d = false) : s.ldGate d = s := by
  unfold ldGate
  refine if_pos ?_
  obtain h | h := h
  · rw [h]
    rfl
  · rw [h, Bool.not_false, Bool.or_true]

/-- The gate of one egress. -/
structure GateStepped (d p : Nat) (l : Launch) (s t : State) : Prop where
  on : OnGate p s t
  guard : (t.egress p).guard = none
  window : s.shut p = false → (t.egress p).window = some (d, l.pass)
  skipped : s.shut p = true → t.rd (aRING_CNT p 10) = s.rd (aRING_CNT p 10) + 1

theorem skip_onGate (t : State) (p : Nat) : OnGate p t (t.ringCnt p 10) where
  view := by
    have hkept : Kept [.regs] t (t.ringCnt p 10) := bump_kept (by decide) _ (.refl t)
    refine ⟨fun d => by rw [launch, hkept.ring_eq, launch], fun q hq => rd_wr_other t _ (by unfold aRING_PSTAT aRING_CNT; omega), hkept.mono (by decide)⟩
  others q _ := rport_of_ring (bump_kept (T := [.regs]) (by decide) _ (.refl t)).ring_eq q
  cnt q hq hne := rd_wr_other t _ (by unfold aRING_CNT; omega)

theorem gateStep_stepped (s : State) (l : Launch) {p : Nat} (hp : p < 2) : GateStepped d p l s (gateStep d l s p) := by
  have hset (e : Egress) : (s.setEgress p e).egress p = e := (s.egress_setEgress p p e).trans (if_pos rfl)
  unfold gateStep
  dsimp only
  split
  case isTrue h =>
    have hcnt (t : State) : (t.ringCnt p 10).egress p = t.egress p := congrArg RingPort.out (rport_of_ring (bump_kept (T := [.regs]) (by decide) _ (.refl t)).ring_eq p)
    have hgate := choose_gate ((s.setEgress p { s.egress p with guard := none, launch := (s.egress p).launch.filter fun x => x.1 != d }).ringCnt p 10) p
    refine ⟨((OnEgress.setEgress _).onGate.trans (skip_onGate _ p)).trans (choose_onEgress _ hp).onGate, ?_, fun hn => absurd (h.symm.trans hn) (by decide), fun _ => ?_⟩
    · rw [hgate.guard, hcnt, hset]
    · exact ((choose_onEgress _ hp).wr.eq _ (sendRegs_skip hp)).trans (rd_ringCnt _ p 10)
  case isFalse h =>
    have hgate := choose_gate (s.setEgress p { s.egress p with guard := none, window := some (d, l.pass) }) p
    refine ⟨((OnEgress.setEgress _).trans (choose_onEgress _ hp)).onGate, ?_, fun _ => ?_, fun hn => absurd hn h⟩
    · rw [hgate.guard, hset]
    · rw [hgate.window, hset]

theorem ldGate_opened (harmed : (s.launch d).armed = true) (hreached : s.ldReached d = true) : (s.ldGate d).launch d = s.opened d
    ∧ ∀ p ∈ ldPorts (s.launch d).ports, ((s.ldGate d).egress p).guard = none ∧ (s.shut p = false → ((s.ldGate d).egress p).window = some (d, (s.launch d).pass))
      ∧ (s.shut p = true → (s.ldGate d).rd (aRING_CNT p 10) = s.rd (aRING_CNT p 10) + 1) := by
  have hlaunch := (s.launch_setLaunch d d (s.opened d)).trans (if_pos rfl)
  have hrd (a : Nat) : (s.setLaunch d (s.opened d)).rd a = s.rd a := rfl
  have hshut (p : Nat) : (s.setLaunch d (s.opened d)).shut p = s.shut p := rfl
  rw [ldGate_fold harmed hreached]
  generalize s.setLaunch d (s.opened d) = m at hlaunch hrd hshut ⊢
  obtain ⟨hview, -, hin⟩ := gates_fold (gateStep d (s.launch d)) (fun t q hq => (gateStep_stepped t (s.launch d) hq).on) (ldPorts_nodup (s.launch d).ports) (fun q hq => mem_ldPorts hq) m
  refine ⟨(hview.launch d).trans hlaunch, fun p hp => ?_⟩
  obtain ⟨t, hview', ⟨-, hcnt⟩, hport, hrd'⟩ := hin p hp
  obtain ⟨-, hguard, hwindow, hskip⟩ := gateStep_stepped (d := d) t (s.launch d) (mem_ldPorts hp)
  have hsame : t.shut p = s.shut p := (hview'.shut (mem_ldPorts hp)).trans (hshut p)
  have hegress := congrArg RingPort.out hport
  rw [← egress, ← egress] at hegress
  rw [hsame] at hwindow hskip
  rw [hegress, hrd']
  exact ⟨hguard, hwindow, fun h => (hskip h).trans (by rw [hcnt, hrd])⟩

/-- The window of a descriptor on one egress closes (R241). -/
def closeStep (d : Nat) (s : State) (p : Nat) : State :=
  if (s.egress p).window.map (·.1) = some d then (s.setEgress p { s.egress p with window := none }).choose p else s

theorem closeStep_onGate (s : State) {p : Nat} (hp : p < 2) : OnGate p s (closeStep d s p) :=
  (OnEgress.ite ((OnEgress.setEgress _).trans (choose_onEgress _ hp)) (.refl p s)).onGate

theorem closeStep_window (s : State) (p : Nat) : ((closeStep d s p).egress p).window = if (s.egress p).window.map (·.1) = some d then none else (s.egress p).window := by
  unfold closeStep
  split
  · rw [(choose_gate _ p).window, egress_setEgress, if_pos rfl]
  · rfl

theorem ldClose_due (h : (s.launch d).closeAt ≤ s.grid.tick) : s.ldClose d = [0, 1].foldl (closeStep d) s := by
  unfold ldClose
  rw [if_neg (by omega)]
  rfl

theorem ldClose_closed (h : (s.launch d).closeAt ≤ s.grid.tick) : (∀ p < 2, ((s.ldClose d).egress p).window =
      if (s.egress p).window.map (·.1) = some d then none else (s.egress p).window) ∧ ∀ q, (s.ldClose d).launch q = s.launch q := by
  obtain ⟨hview, -, hin⟩ := gates_fold (closeStep d) (fun t q hq => closeStep_onGate t hq) (l := [0, 1]) (by decide) (by decide) s
  rw [ldClose_due h]
  refine ⟨fun p hp => ?_, hview.launch⟩
  obtain ⟨t, -, ⟨hport, -⟩, hfold, -⟩ := hin p (by simp; omega)
  have hegress : t.egress p = s.egress p := congrArg RingPort.out hport
  rw [egress, hfold, ← egress, closeStep_window, hegress]

-- Event frames (R250)

/-- An EVENT frame of `n` records leaves on every open port (R250). -/
def eventFrame (s : State) (n : Nat) : Frame :=
  s.ownFrame 2 0 (beBytes 6 ((s.rd (aRING_EVTDST 1)).toNat % 2 ^ 16 * 2 ^ 32 + (s.rd (aRING_EVTDST 0)).toNat) ++ beBytes 6 s.ownMac ++ beBytes 2 0x88B5
    ++ ownHeader 0xC3 (64 * n) s.ring.evtSeq ++ (List.range n).flatMap fun i => s.memRead (evtAddr ((s.ring.evtNext + i) % 2 ^ 32)) 64)

/-- The part with `n` more records sent (R250). -/
def eventSent (s : State) (n : Nat) : State :=
  s.setRing { s.ring with evtNext := (s.ring.evtNext + n) % 2 ^ 32, evtSeq := (s.ring.evtSeq + 1) % 2 ^ 32 }

/-- The records that a frame can hold of those not sent yet. -/
def eventCount (s : State) : Nat := min (((s.rd aEVT_HEAD).toNat + 2 ^ 32 - s.ring.evtNext) % 2 ^ 32) 16

theorem eventSend_eq : s.eventSend = if !s.flag fRING_EVT_EN || s.flag fNW_SC1_LOST || s.inDusk || s.eventCount == 0 then s
    else [0, 1].foldl (fun t p => if t.shut p then t else t.toLocal p (s.eventFrame s.eventCount)) (s.eventSent s.eventCount) := by
  have hcount : (if ((s.rd aEVT_HEAD).toNat + 2 ^ 32 - s.ring.evtNext) % 2 ^ 32 < 16 then ((s.rd aEVT_HEAD).toNat + 2 ^ 32 - s.ring.evtNext) % 2 ^ 32 else 16)
      = s.eventCount := by
    unfold eventCount
    split <;> omega
  unfold eventSend
  dsimp only
  rw [hcount]
  rfl

theorem eventSend_sent (hen : s.flag fRING_EVT_EN = true) (hlost : s.flag fNW_SC1_LOST = false) (hawake : s.inDusk = false) (hn : 0 < s.eventCount) :
    s.eventSend.ring.evtNext = (s.ring.evtNext + s.eventCount) % 2 ^ 32 ∧ s.eventSend.ring.evtSeq = (s.ring.evtSeq + 1) % 2 ^ 32 := by
  have hstep (t : State) (f : Frame) {p : Nat} (hp : p < 2) : (if t.shut p then t else t.toLocal p f).ring.rest = t.ring.rest :=
    (OnEgress.ite (.refl p t) (t.toLocal_onEgress hp f)).rest
  have hrest (t : State) (f : Frame) : ([0, 1].foldl (fun t p => if t.shut p then t else t.toLocal p f) t).ring.rest = t.ring.rest := by
    rw [List.foldl_cons, List.foldl_cons, List.foldl_nil, hstep _ _ (by decide), hstep _ _ (by decide)]
  have hboth := hrest (s.eventSent s.eventCount) (s.eventFrame s.eventCount)
  rw [eventSend_eq, if_neg (by rw [hen, hlost, hawake, beq_false_of_ne (by omega)]; decide)]
  exact ⟨(congrArg Ring.evtNext hboth : _), (congrArg Ring.evtSeq hboth : _)⟩

theorem eventSend_none (h : s.flag fRING_EVT_EN = false ∨ s.flag fNW_SC1_LOST = true ∨ s.inDusk = true ∨ s.eventCount = 0) : s.eventSend = s := by
  rw [eventSend_eq]
  refine if_pos ?_
  obtain h | h | h | h := h
  · simp [h]
  · simp [h]
  · simp [h]
  · simp [h]

theorem cfgRead_touch (s : State) (c : Nat) (staged : Bool) (space idx : Nat) : (s.touch c).cfgRead staged space idx = s.cfgRead staged space idx := by
  unfold touch
  split
  · rfl
  · rfl

end State

theorem exec_launchTemplateCopy (d : Fin 128) (s : State) : exec (.launchTemplateCopy d) s = .next (s.ldCopy d) := rfl
theorem exec_launchGuardStart (d : Fin 128) (s : State) : exec (.launchGuardStart d) s = .next (s.ldGuard d) := rfl
theorem exec_launchGateOpen (d : Fin 128) (s : State) : exec (.launchGateOpen d) s = .next (s.ldGate d) := rfl
theorem exec_launchWindowClose (d : Fin 128) (s : State) : exec (.launchWindowClose d) s = .next (s.ldClose d) := rfl
theorem exec_eventFrameSend (s : State) : exec .eventFrameSend s = .next s.eventSend := rfl

theorem State.ldGuard_none {s : State} {d : Nat} (h : (s.launch d).armed = false) : s.ldGuard d = s := by
  unfold State.ldGuard
  exact if_pos (by rw [h]; rfl)

/-- Settles O29. -/
theorem launchWindows : Obligations.LaunchWindows := by
  intro d c g n s l w served
  obtain ⟨hread, hdenied, hignored, hunserved⟩ : State.IndirectRead (.ringLdDataRead c) c { s.copyOf c with
      ldLatch := (List.range 8).map (fun w => s.cfgRead (bitOf (s.copyOf c).ldIdx 30) 4 (8 * bitsOf (s.copyOf c).ldIdx 0 7 + w))
      ldIdx := State.autoInc (s.copyOf c).ldIdx 7 127 } s := by
    refine State.indirectRead_of_latch (off := 0x19110) rfl rfl ?_
    show (s.touch c).setCopy c _ = _
    simp only [State.copyOf_touch, State.cfgRead_touch]
  refine ⟨fun hvalid hset hlost hd harmed hnext htime => .of_eq (exec_launchTemplateCopy d s) ⟨State.ldCopy_due hvalid hset hlost hd harmed hnext htime,
      (State.ldCopy_kept (by decide) _ (.refl s)).only⟩, fun h => .of_eq (exec_launchTemplateCopy d s) (State.ldCopy_not_due h),
    fun harmed => .of_eq (exec_launchGuardStart d s) ⟨fun p hp => State.ldGuard_guards harmed hp, (State.ldGuard_kept (by decide) _ (.refl s)).only⟩,
    fun harmed hreached => .of_eq (exec_launchGateOpen d s) ?gate, fun harmed e he => ?unarmed,
    fun _ hreached => .of_eq (exec_launchGateOpen d s) (State.ldGate_none (.inr hreached)),
    fun hat => .of_eq (exec_launchWindowClose d s) ?close, fun hat => .of_eq (exec_launchWindowClose d s) (if_pos hat),
    fun hn hen hlost hd hpos => .of_eq (exec_eventFrameSend s) ?event, fun h => .of_eq (exec_eventFrameSend s) (State.eventSend_none ?noEvent),
    hread, hdenied, fun h => ?noRead⟩
  case gate =>
    obtain ⟨hlaunch, hports⟩ := State.ldGate_opened harmed hreached
    exact ⟨hlaunch, hports, (State.ldGate_kept (by decide) _ (.refl s)).only⟩
  case unarmed =>
    simp only [List.mem_cons, List.not_mem_nil, or_false] at he
    obtain rfl | rfl := he
    · exact .of_eq (exec_launchGuardStart d s) (State.ldGuard_none harmed)
    · exact .of_eq (exec_launchGateOpen d s) (State.ldGate_none (.inl harmed))
  case close =>
    obtain ⟨hwindow, hlaunch⟩ := State.ldClose_closed hat
    exact ⟨hwindow, hlaunch, (State.ldClose_kept (by decide) _ (.refl s)).only⟩
  case event =>
    have hcount : n = s.eventCount := hn
    obtain ⟨hnext, hseq⟩ := State.eventSend_sent hen hlost hd (hcount ▸ hpos)
    exact ⟨hnext.trans (by rw [hcount]), hseq, (State.eventSend_kept (by decide) (.refl s)).only⟩
  case noEvent =>
    obtain h | h | h | h := h
    · exact .inl h
    · exact .inr (.inl h)
    · exact .inr (.inr (.inl h))
    · exact .inr (.inr (.inr (by rw [State.eventCount, h]; rfl)))
  case noRead =>
    obtain h | ⟨helev, h0⟩ := h
    · exact hunserved h
    · by_cases hs : s.Served c
      · exact hignored hs helev h0
      · exact hunserved hs

end Sys2Proof.Machine
end

section
/-! NETWORK TIME (R262-R273): masters, offsets, steps, the trust timer, the re-route hold and the re-armed step. -/

namespace Sys2Proof.Machine

namespace State

variable {s : State}

-- The time state

/-- A change of the time state writes STATE of TIME_STAT and nothing else of it. -/
theorem timeState_stat (s : State) (st : Nat) : (s.timeState st).rd aTIME_STAT = (s.put fTIME_STATE st).rd aTIME_STAT := by
  have hrest (t : State) (r : List Nat) : ((t.logFw evTIME_STATE kTIME 0 r).raise srcTIME).rd aTIME_STAT = t.rd aTIME_STAT :=
    (raise_wr (R := [(0x270, 0), (0x2A8, 0), (0x5014, 0), (0x1B070, 0)]) (by decide) srcTIME
      (logFw_wr (by decide) evTIME_STATE kTIME 0 r (.refl t))).eq _ (by decide)
  unfold timeState
  dsimp only
  split
  · rfl
  · exact hrest _ _

theorem timeState_get (s : State) {st : Nat} (hst : st < 8) : (s.timeState st).get fTIME_STATE = st :=
  (get_of_rd (s.timeState_stat st)).trans (s.get_put_fits fTIME_STATE hst)

theorem timeState_apart (s : State) (st : Nat) {f : Fld} (ha : f.addr = aTIME_STAT := by rfl) (hlo : 3 ≤ f.lo := by decide) :
    (s.timeState st).get f = s.get f :=
  (get_of_rd (ha ▸ s.timeState_stat st)).trans (s.get_put_apart (f := fTIME_STATE) st (by decide) ha (.inr hlo))

/-- Of the clock's own work a change of the time state ends the 10 s timer alone. -/
theorem timeState_ptp (s : State) (st : Nat) : ∃ x, (s.timeState st).ptp = { s.ptp with trust := x } := by
  have hrest (t : State) (r : List Nat) : ((t.logFw evTIME_STATE kTIME 0 r).raise srcTIME).ptp = t.ptp :=
    (raise_kept (T := [.regs, .icu, .evt, .nw, .pwr]) (by decide) srcTIME (logFw_kept (by decide) evTIME_STATE kTIME 0 r (.refl t))).ptp_eq
  unfold timeState
  dsimp only
  split
  · exact ⟨s.ptp.trust, rfl⟩
  · exact ⟨none, hrest _ _⟩

theorem timeState_masters (s : State) (st : Nat) : (s.timeState st).ptp.masters = s.ptp.masters := by
  obtain ⟨x, hx⟩ := s.timeState_ptp st
  rw [hx]

theorem timeState_step (s : State) (st : Nat) : (s.timeState st).ptp.step = s.ptp.step := by
  obtain ⟨x, hx⟩ := s.timeState_ptp st
  rw [hx]

theorem timeState_hold (s : State) (st : Nat) : (s.timeState st).ptp.hold = s.ptp.hold := by
  obtain ⟨x, hx⟩ := s.timeState_ptp st
  rw [hx]

-- Masters (R262)

theorem servoHold_masters (s : State) : s.servoHold.ptp.masters = s.ptp.masters := by
  unfold servoHold
  dsimp only
  split
  · rfl
  · exact timeState_masters _ 3

/-- The state with a master taken, before what that makes of the time state (R262, R271). -/
def mastered (s : State) (m : Master) (new : Bool) : State :=
  let s := ((s.putFlag fTIME_MASTER true).put fTIME_MPORT m.port).wr aTIME_GM_LO (m.gm % 2 ^ 32)
  let s := s.wr aTIME_GM_HI (m.gm / 2 ^ 32)
  let s := { s with time := { s.time with utcNext := m.utc.getD (signedOf (s.get fTZ_UTCOFF) 16) } }
  s.setPtp { s.ptp with sel := some m.src, fresh := if new then [] else s.ptp.fresh }

theorem takeMaster_masters (s : State) (m : Master) : (s.takeMaster m).ptp.masters = s.ptp.masters := by
  have hm (new : Bool) : (s.mastered m new).ptp.masters = s.ptp.masters := rfl
  have htail (t : State) (new : Bool) : (if t.get fTIME_STATE = 0 then t.timeState 1
      else if t.ptp.collect then
        if m.gm ≠ t.ptp.oldGm then (t.setPtp { t.ptp with collect := false, taken := [] }).timeState 2
        else if new then t.setPtp { t.ptp with taken := [] } else t
      else if t.get fTIME_STATE = 3 ∧ new ∧ !t.ptp.hold ∧ !t.ptp.collect then t.servoHold
      else t).ptp.masters = t.ptp.masters := by
    split
    · exact t.timeState_masters 1
    split
    · split
      · exact timeState_masters _ 2
      · split <;> rfl
    split
    · exact t.servoHold_masters
    · rfl
  exact (htail (s.mastered m _) _).trans (hm _)

theorem reselect_masters (s : State) : s.reselect.ptp.masters = s.ptp.masters := by
  unfold reselect
  split
  · exact s.takeMaster_masters _
  · rfl

theorem reselect_of_none (h : s.ptp.masters = []) : s.reselect = s := by
  unfold reselect bestMaster
  rw [h]
  rfl

/-- The state without its selected master, before another one is looked for (R262, R266, R271). -/
def bereft (s : State) (k : Nat) : State :=
  let st := s.get fTIME_STATE
  let old := if st = 2 then s.ptp.offs.headD 0 else s.ptp.oldOff
  let gm := if st = 2 then s.gmNow else s.ptp.oldGm
  let s := s.setPtp { s.ptp with
    masters := s.ptp.masters.filter (fun m => !(m.src == k && m.port == s.get fTIME_MPORT)), sel := none, fresh := [],
    step := none, oldOff := old, oldGm := gm, collect := false, taken := [], next := if st = 2 then none else s.ptp.next }
  let s := { s with time := { s.time with utcNext := signedOf (s.get fTZ_UTCOFF) 16 } }
  let s := s.putFlag fTIME_MASTER false
  if st = 1 then s.timeState 0 else if st = 2 then s.timeState 3 else s

theorem masterLost_eq {k : Nat} (h : s.ptp.sel = some k) : s.masterLost = (s.bereft k).reselect := by
  unfold masterLost
  rw [h]
  rfl

/-- What the loss of the selected master leaves, before another one is looked for. -/
structure Bereft (k : Nat) (s u : State) : Prop where
  masters : u.ptp.masters = s.ptp.masters.filter (fun m => !(m.src == k && m.port == s.get fTIME_MPORT))
  sel : u.ptp.sel = none
  master : u.flag fTIME_MASTER = false
  acquiring : s.get fTIME_STATE = 1 → u.get fTIME_STATE = 0
  locked : s.get fTIME_STATE = 2 → u.get fTIME_STATE = 3

theorem bereft_bereft (s : State) (k : Nat) : Bereft k s (s.bereft k) := by
  have hstate (t : State) (st : Nat) (hm : t.flag fTIME_MASTER = false) : (t.timeState st).flag fTIME_MASTER = false := by
    rw [← hm, flag, t.timeState_apart st, flag]
  have hsel (t : State) (st : Nat) (hs : t.ptp.sel = none) : (t.timeState st).ptp.sel = none := by
    obtain ⟨x, hx⟩ := t.timeState_ptp st
    rw [hx, ← hs]
  unfold bereft
  dsimp only
  split
  case isTrue h1 =>
    exact ⟨timeState_masters _ 0, hsel _ 0 rfl, hstate _ 0 (flag_putFlag _ fTIME_MASTER false),
      fun _ => timeState_get _ (by decide), fun h => absurd (h1.symm.trans h) (by decide)⟩
  case isFalse h1 =>
    split
    case isTrue h2 =>
      exact ⟨timeState_masters _ 3, hsel _ 3 rfl, hstate _ 3 (flag_putFlag _ fTIME_MASTER false),
        fun h => absurd (h2.symm.trans h) (by decide), fun _ => timeState_get _ (by decide)⟩
    case isFalse h2 =>
      exact ⟨rfl, rfl, flag_putFlag _ fTIME_MASTER false, fun h => absurd h h1, fun h => absurd h h2⟩

-- Offsets (R263-R269)

theorem offset_of_hold (o : Int) (h : s.ptp.hold = true) : s.offset o = s := by
  unfold offset
  exact if_pos h

/-- What an offset gives the clock, the offset shown. -/
def offsetWork (s : State) (o : Int) : State :=
  let offs := (o :: s.ptp.offs).take 16
  let s := s.setPtp { s.ptp with offs := offs }
  let s := s.putFlag fTIME_INLOCK (offs.length == 16 && offs.all fun x => decide (x.natAbs ≤ 1000))
  if s.ptp.collect then
    let s := s.setPtp { s.ptp with taken := s.ptp.taken ++ [o] }
    if s.ptp.taken.length < 4 then s else s.routeJudge
  else
    let s := s.servo o
    if s.mayStep then
      (s.setPtp { s.ptp with fresh := (o :: s.ptp.fresh).take 4 }).stepJudge
    else s

theorem offset_eq (o : Int) (h : s.ptp.hold = false) :
    s.offset o = (s.wr aTIME_OFFSET (toBits (clampInt (-(2 ^ 31 - 1)) (2 ^ 31 - 1) o) 32)).offsetWork o := by
  unfold offset
  rw [if_neg (by rw [h]; decide)]
  rfl

/-- What an offset writes beside TIME_OFFSET. -/
def offsetRegs : List (Nat × Nat) := [(0x270, 0), (0x2A8, 0), (0x300C, 0), (0x3030, 4), (0x5014, 0), (0x1B070, 0)]

theorem offsetWork_wr (s : State) (o : Int) :
    Wr offsetRegs s (s.offsetWork o) := by
  have hlock (b : Bool) (x : Ptp) : Wr offsetRegs s
      ((s.setPtp x).putFlag fTIME_INLOCK b) := putFlag_wr (by decide) (.upd (.refl s))
  unfold offsetWork
  dsimp only
  split
  · split
    · exact .upd (hlock _ _)
    · exact routeJudge_wr (by decide) (.upd (hlock _ _))
  · have hservo {t : State} (h : Wr offsetRegs s t) : Wr offsetRegs s (t.servo o) := servo_wr (by decide) o h
    split
    · exact stepJudge_wr (by decide) (.upd (hservo (hlock _ _)))
    · exact hservo (hlock _ _)

theorem offset_shown (o : Int) (h : s.ptp.hold = false) :
    (s.offset o).rd aTIME_OFFSET = BitVec.ofNat 32 (toBits (clampInt (-(2 ^ 31 - 1)) (2 ^ 31 - 1) o) 32) := by
  rw [offset_eq o h]
  exact ((offsetWork_wr _ o).eq _ (by decide)).trans (rd_wr_same _ _ _)

-- Steps (R263, R265, R268)

theorem timeStep_of_not (h : s.mayStep = false) : s.timeStep.ptp.step = none ∧ Only [.ptp] s s.timeStep := by
  have hkept : Kept [.ptp] s (s.setPtp { s.ptp with step := none }) := Kept.upd_ptp (.refl s) (by decide)
  unfold timeStep
  split
  case h_1 hnone => exact ⟨hnone, (Kept.refl s).only⟩
  case h_2 d hd =>
    rw [if_pos (by rw [h]; decide)]
    exact ⟨rfl, hkept.only⟩

/-- What a step brings on its tick once the clock has moved (R265, R273). -/
def stepFollow (s : State) (old : Nat) (set : Bool) : State :=
  let s := (s.ldStep old).evalTwins
  let s := (List.range 8).foldl (fun s p => s.patStep p old set) s
  ((s.localMoved.mornStep set).snapStep set).capReached

theorem timeStep_eq {d : Int} (hd : s.ptp.step = some d) (h : s.mayStep = true) :
    s.timeStep = ((s.stepClock d).stepRecord d).stepFollow s.timeNs (s.flag fTIME_SET) := by
  unfold timeStep
  rw [hd]
  dsimp only
  rw [if_neg (by rw [h]; decide)]
  rfl

theorem stepClock_timeNs (s : State) (d : Int) : (s.stepClock d).timeNs = ((s.timeNs : Int) + d).toNat := by
  have htime : (s.stepClock d).time = { s.time with
      sec := ((s.timeNs : Int) + d).toNat / 1000000000, ns := ((s.timeNs : Int) + d).toNat % 1000000000,
      moved := some (s.grid.tick, d) } := by
    unfold stepClock
    dsimp only
    split <;> rfl
  rw [timeNs, htime]
  exact Nat.div_add_mod' _ _

theorem stepClock_step (s : State) (d : Int) : (s.stepClock d).ptp.step = none := rfl

/-- What the record of a step leaves in TIME_STAT. -/
structure StepRecorded (s u : State) : Prop where
  state : u.get fTIME_STATE = 2
  cause : u.get fTIME_CAUSE = 0
  set : u.get fTIME_SET = 1
  rearmed : u.get fTIME_REARMED = 0
  step : u.ptp.step = s.ptp.step

theorem stepRecord_recorded (s : State) (d : Int) : StepRecorded s (s.stepRecord d) := by
  have hset (t : State) : ((t.putFlag fTIME_SET true).putFlag fTIME_REARMED false).get fTIME_SET = 1 :=
    (get_putFlag_apart (f := fTIME_REARMED) (g := fTIME_SET) _ false).trans (t.get_put_fits fTIME_SET (by decide))
  have hrearmed (t : State) : ((t.putFlag fTIME_SET true).putFlag fTIME_REARMED false).get fTIME_REARMED = 0 :=
    get_put_fits _ fTIME_REARMED (by decide)
  have hlog (t : State) (r : List Nat) : (t.logFw evTIME_STEP kTIME 0 r).rd aTIME_STAT = t.rd aTIME_STAT :=
    (logFw_wr (R := [(0x2A8, 0), (0x5014, 0)]) (by decide) evTIME_STEP kTIME 0 r (.refl t)).eq _ (by decide)
  have hptp (t : State) (r : List Nat) : (t.logFw evTIME_STEP kTIME 0 r).ptp = t.ptp :=
    (logFw_kept (T := [.regs, .evt]) (by decide) evTIME_STEP kTIME 0 r (.refl t)).ptp_eq
  have hcause (t : State) {f : Fld} (ha : f.addr = aTIME_STAT) (h : f.lo + f.width ≤ 4 ∨ 6 ≤ f.lo) : (t.put fTIME_CAUSE 0).get f = t.get f :=
    t.get_put_apart (f := fTIME_CAUSE) 0 (by decide) ha h
  have hend (t : State) (h1 : t.get fTIME_SET = 1) (h2 : t.get fTIME_REARMED = 0) : StepRecorded t ((t.put fTIME_CAUSE 0).timeState 2) :=
    { state := timeState_get _ (by decide)
      cause := (timeState_apart _ 2).trans (t.get_put_fits fTIME_CAUSE (by decide))
      set := ((timeState_apart _ 2).trans (hcause t (by rfl) (by decide))).trans h1
      rearmed := ((timeState_apart _ 2).trans (hcause t (by rfl) (by decide))).trans h2
      step := timeState_step _ 2 }
  have hall (t : State) (r : List Nat) (h : t.ptp = s.ptp) : StepRecorded s
      (((((t.putFlag fTIME_SET true).putFlag fTIME_REARMED false).logFw evTIME_STEP kTIME 0 r).put fTIME_CAUSE 0).timeState 2) := by
    have hr := hend (((t.putFlag fTIME_SET true).putFlag fTIME_REARMED false).logFw evTIME_STEP kTIME 0 r)
      ((get_of_rd (hlog _ r)).trans (hset t)) ((get_of_rd (hlog _ r)).trans (hrearmed t))
    exact ⟨hr.state, hr.cause, hr.set, hr.rearmed, hr.step.trans (by rw [hptp, ← h]; rfl)⟩
  exact hall (s.bump (aTIME_CNT 0)) _ rfl

-- What the egresses do to the clock's own work

/-- The clock's own work but the table of two-step frames and the exchanges. -/
def ptpCore (x : Ptp) : Ptp := { x with table := [], exch := [] }

theorem ptpLeave_core (s : State) (f : Frame) (p : Nat) : ptpCore (s.ptpLeave f p).1.ptp = ptpCore s.ptp := by
  unfold ptpLeave
  split
  · rfl
  split
  · unfold tcLeave
    dsimp only
    split
    · split <;> rfl
    split
    · split <;> rfl
    · rfl
  · unfold pdLeave
    dsimp only
    split
    · rfl
    split
    · split <;> rfl
    · rfl

theorem startFrame_core (s : State) (p : Nat) (f : Frame) : ptpCore (s.startFrame p f).ptp = ptpCore s.ptp := s.ptpLeave_core f p

theorem setStart_core (s : State) (p : Nat) (e : Egress) (f : Frame) : ptpCore ((s.setEgress p e).startFrame p f).ptp = ptpCore s.ptp :=
  startFrame_core _ p f

theorem setStartRefill_core (s : State) (p : Nat) (e : Egress) (f : Frame) :
    ptpCore (((s.setEgress p e).startFrame p f).refill p).ptp = ptpCore s.ptp := s.setStart_core p e f

theorem chooseLast_core (s : State) (p : Nat) (e : Egress) (loc : Bool → Option (Frame × List Frame)) :
    ptpCore (s.chooseLast p e loc).ptp = ptpCore s.ptp := by
  unfold chooseLast
  split
  · exact s.setStartRefill_core p _ _
  · rfl

theorem chooseRest_core (s : State) (p : Nat) (e : Egress) (loc : Bool → Option (Frame × List Frame)) :
    ptpCore (s.chooseRest p e loc).ptp = ptpCore s.ptp := by
  unfold chooseRest
  split
  · exact s.setStartRefill_core p _ _
  split
  · split
    · exact s.setStart_core p _ _
    · exact s.chooseLast_core p e loc
  · exact s.chooseLast_core p e loc

theorem choose_core (s : State) (p : Nat) : ptpCore (s.choose p).ptp = ptpCore s.ptp := by
  have hcnt (t : State) : ptpCore (t.ringCnt p 9).ptp = ptpCore t.ptp := rfl
  unfold choose
  dsimp only
  split
  · rfl
  split
  · exact (startFrame_core _ p _).trans (hcnt _)
  split
  · split
    · exact s.setStartRefill_core p _ _
    · split
      · rfl
      · exact s.chooseRest_core p _ _
  · split
    · rfl
    · exact s.chooseRest_core p _ _

theorem foldl_core {α : Type} {f : State → α → State} (h : ∀ s x, ptpCore (f s x).ptp = ptpCore s.ptp) (l : List α) (s : State) :
    ptpCore (l.foldl f s).ptp = ptpCore s.ptp := by
  induction l generalizing s with
  | nil => rfl
  | cons x l ih => exact (ih (f s x)).trans (h s x)

theorem ldCancel_core (s : State) (d : Nat) : ptpCore (s.ldCancel d).ptp = ptpCore s.ptp := by
  have hunqueue : ((s.ldUnqueue d).setLaunch d { s.launch d with copied := false, armed := false }).ptp = s.ptp := 
    (setLaunch_kept (T := [.ring]) (by decide) d _ (ldUnqueue_kept (by decide) d (.refl s))).ptp_eq
  unfold ldCancel
  dsimp only
  split
  · rw [hunqueue]
  · refine (foldl_core (fun t q => ?_) _ _).trans (by rw [hunqueue])
    exact choose_core _ q

theorem ldStep_core (s : State) (old : Nat) : ptpCore (s.ldStep old).ptp = ptpCore s.ptp := by
  have hskip (l : List Nat) (n : Nat) (t : State) :
      ptpCore (l.foldl (fun s p => s.wr (aRING_CNT p 10) ((s.rd (aRING_CNT p 10)).toNat + n)) t).ptp = ptpCore t.ptp :=
    foldl_core (f := fun (s : State) p => s.wr (aRING_CNT p 10) ((s.rd (aRING_CNT p 10)).toNat + n)) (fun t p => by rw [wr_ptp]) l t
  unfold ldStep
  refine foldl_core (fun t d => ?_) _ s
  dsimp only
  split
  · rfl
  · rw [ldCancel_core, hskip]

/-- What follows a step on its tick leaves the time, TIME_STAT and the step dropped. -/
structure StepFollowed (s u : State) : Prop where
  time : u.time = s.time
  stat : u.rd aTIME_STAT = s.rd aTIME_STAT
  step : u.ptp.step = s.ptp.step

theorem stepFollow_followed (s : State) (old : Nat) (set : Bool) : StepFollowed s (s.stepFollow old set) := by
  have hcore := congrArg Ptp.step (s.ldStep_core old)
  have hld : Kept [.regs, .ring, .ptp] s (s.ldStep old) := ldStep_kept (by decide) old (.refl s)
  have hldr : Wr [(0x3040, 4), (0x7040, 4)] s (s.ldStep old) := ldStep_wr (by decide) old (.refl s)
  have htail (t : State) : Kept [.regs, .obs, .dim, .life, .cap, .pwr] t
      ((((((List.range 8).foldl (fun s p => s.patStep p old set) t.evalTwins).localMoved).mornStep set).snapStep set).capReached) :=
    capReached_kept (by decide) (snapStep_kept (by decide) set (mornStep_kept (by decide) set (localMoved_kept (by decide)
      (Kept.fold (fun _ p h => patStep_kept (by decide) p old set h) (evalTwins_kept (by decide) (.refl t))))))
  have htailr (t : State) : Wr [(0x220, 0), (0x294, 0), (0x1E010, 0)] t
      ((((((List.range 8).foldl (fun s p => s.patStep p old set) t.evalTwins).localMoved).mornStep set).snapStep set).capReached) :=
    capReached_wr (by decide) (snapStep_wr (by decide) set (mornStep_wr (by decide) set (localMoved_wr (by decide)
      (Wr.fold (fun _ p h => patStep_wr (by decide) p old set h) (evalTwins_wr (by decide) (.refl t))))))
  exact ⟨(htail _).time_eq.trans hld.time_eq, ((htailr _).eq _ (by decide)).trans (hldr.eq _ (by decide)),
    (congrArg Ptp.step (htail _).ptp_eq).trans hcore⟩

/-- What a step that may be made leaves. -/
structure Stepped (d : Int) (s u : State) : Prop where
  ns : u.timeNs = ((s.timeNs : Int) + d).toNat
  state : u.get fTIME_STATE = 2
  cause : u.get fTIME_CAUSE = 0
  set : u.get fTIME_SET = 1
  rearmed : u.get fTIME_REARMED = 0
  step : u.ptp.step = none

theorem timeStep_stepped {d : Int} (hd : s.ptp.step = some d) (h : s.mayStep = true) : Stepped d s s.timeStep := by
  have hclock := s.stepClock_timeNs d
  have hrecord := (s.stepClock d).stepRecord_recorded d
  have htime : ((s.stepClock d).stepRecord d).time = (s.stepClock d).time :=
    (stepRecord_kept (T := [.regs, .icu, .evt, .nw, .pwr, .ptp]) (by decide) d (.refl _)).time_eq
  have hstep : ((s.stepClock d).stepRecord d).ptp.step = none := hrecord.step.trans (s.stepClock_step d)
  have hfollow := ((s.stepClock d).stepRecord d).stepFollow_followed s.timeNs (s.flag fTIME_SET)
  rw [timeStep_eq hd h]
  exact
    { ns := by rw [← hclock, timeNs, hfollow.time, htime, timeNs]
      state := (get_of_rd hfollow.stat).trans hrecord.state
      cause := (get_of_rd hfollow.stat).trans hrecord.cause
      set := (get_of_rd hfollow.stat).trans hrecord.set
      rearmed := (get_of_rd hfollow.stat).trans hrecord.rearmed
      step := hfollow.step.trans hstep }

-- The trust timer, the hold and the armed step (R267-R269)

theorem trustExpiry_of_running (h : s.trustOver = false) : s.trustExpiry = s := by
  unfold trustExpiry
  exact if_pos (by rw [h]; decide)

theorem trustExpiry_of_other (h2 : s.get fTIME_STATE ≠ 2) (h4 : s.get fTIME_STATE ≠ 4 ∨ s.get fTIME_CAUSE ≠ 1) : s.trustExpiry = s := by
  unfold trustExpiry
  dsimp only
  rw [if_neg h2, if_neg (not_and_or.2 h4), ite_self]

theorem trustExpiry_locked (h : s.trustOver = true) (h2 : s.get fTIME_STATE = 2) :
    s.trustExpiry.get fTIME_STATE = 4 ∧ s.trustExpiry.get fTIME_CAUSE = 1 := by
  have hend : ∃ x, s.trustExpiry = ((s.put fTIME_CAUSE 1).timeState 4).setPtp x := by
    unfold trustExpiry
    dsimp only
    rw [if_neg (by rw [h]; decide), if_pos h2]
    exact ⟨_, rfl⟩
  obtain ⟨x, hx⟩ := hend
  rw [hx]
  exact ⟨timeState_get _ (by decide), (timeState_apart _ 4).trans (s.get_put_fits fTIME_CAUSE (by decide))⟩

theorem trustExpiry_trusted (h : s.trustOver = true) (h4 : s.get fTIME_STATE = 4) (hc : s.get fTIME_CAUSE = 1) :
    s.trustExpiry.get fTIME_STATE = 2 ∧ s.trustExpiry.get fTIME_CAUSE = 0 := by
  unfold trustExpiry
  dsimp only
  rw [if_neg (by rw [h]; decide), if_neg (by rw [h4]; decide), if_pos ⟨h4, hc⟩]
  exact ⟨timeState_get _ (by decide), (timeState_apart _ 2).trans (get_put_fits _ fTIME_CAUSE (by decide))⟩

theorem holdEnd_of_running (h : s.holdOver = false) : s.holdEnd = s := by
  unfold holdEnd
  exact if_pos (by rw [h]; decide)

/-- What the end of the re-route hold leaves. -/
structure HoldEnded (s u : State) : Prop where
  hold : u.ptp.hold = false
  alone : s.ptp.sel = none → Only [.ptp] s u
  same : s.ptp.sel ≠ none → s.gmNow = s.ptp.oldGm → u.ptp.collect = true ∧ u.ptp.taken = [] ∧ Only [.ptp] s u
  other : s.ptp.sel ≠ none → s.gmNow ≠ s.ptp.oldGm → u.get fTIME_STATE = 2

theorem holdEnd_ended (h : s.holdOver = true) : HoldEnded s s.holdEnd := by
  have hptp (x : Ptp) : Only [.ptp] s (s.setPtp x) := (Kept.upd_ptp (.refl s) (by decide)).only
  unfold holdEnd
  dsimp only
  rw [if_neg (by rw [h]; decide)]
  split
  case isTrue hsel =>
    exact ⟨rfl, fun _ => hptp _, fun h => absurd (Option.isNone_iff_eq_none.1 hsel) h, fun h => absurd (Option.isNone_iff_eq_none.1 hsel) h⟩
  case isFalse hsel =>
    have hsel : s.ptp.sel ≠ none := fun h => hsel (Option.isNone_iff_eq_none.2 h)
    split
    case isTrue hgm => exact ⟨rfl, fun h => absurd h hsel, fun _ _ => ⟨rfl, rfl, hptp _⟩, fun _ h => absurd hgm h⟩
    case isFalse hgm => exact ⟨timeState_hold _ 2, fun h => absurd h hsel, fun _ h => absurd h hgm, fun _ _ => timeState_get _ (by decide)⟩

theorem rearmLapse_of_not (h : s.flag fTIME_REARMED = false ∨ s.grid.tick < s.ptp.armed + 1500000000) : s.rearmLapse = s := by
  unfold rearmLapse
  rw [if_pos]
  simpa using h

/-- What the lapse of an armed step leaves. -/
structure Lapsed (s u : State) : Prop where
  rearmed : u.flag fTIME_REARMED = false
  step : u.ptp.step = none
  fresh : u.ptp.fresh = []
  logged : Logged s u evTIME_REARM_LAPSED (kTIME * 4096)

theorem rearmLapse_lapsed (h : s.flag fTIME_REARMED = true) (ht : s.ptp.armed + 1500000000 ≤ s.grid.tick) : Lapsed s s.rearmLapse := by
  have heq : ∃ x : Ptp, x.step = none ∧ x.fresh = []
      ∧ s.rearmLapse = ((s.putFlag fTIME_REARMED false).setPtp x).logFw evTIME_REARM_LAPSED kTIME 0 [] := by
    unfold rearmLapse
    dsimp only
    rw [if_neg (by simpa [h] using ht)]
    exact ⟨_, rfl, rfl, rfl⟩
  obtain ⟨x, hstep, hfresh, heq⟩ := heq
  have hptp (t : State) : (t.logFw evTIME_REARM_LAPSED kTIME 0 []).ptp = t.ptp :=
    (logFw_kept (T := [.regs, .evt]) (by decide) evTIME_REARM_LAPSED kTIME 0 [] (.refl t)).ptp_eq
  have hlog (t : State) : (t.logFw evTIME_REARM_LAPSED kTIME 0 []).rd aTIME_STAT = t.rd aTIME_STAT :=
    (logFw_wr (R := [(0x2A8, 0), (0x5014, 0)]) (by decide) evTIME_REARM_LAPSED kTIME 0 [] (.refl t)).eq _ (by decide)
  have hput : Wr [(0x300C, 0)] s ((s.putFlag fTIME_REARMED false).setPtp x) := .upd (putFlag_wr (by decide) (.refl s))
  rw [heq]
  exact
    { rearmed := (flag_of_rd (hlog _)).trans (s.flag_putFlag fTIME_REARMED false)
      step := by rw [hptp, ← hstep]; rfl
      fresh := by rw [hptp, ← hfresh]; rfl
      logged := logged_enqueue (hput.logOpen rfl rfl) rfl rfl }

-- Announce and Sync (R262, R264)

theorem announce_heard (s : State) (m : Master) :
    ∃ x ∈ (s.announce m).ptp.masters, x.src = m.src ∧ x.port = m.port ∧ x.gm = m.gm ∧ x.last = s.grid.tick ∧ x.rank = m.rank := by
  have hmem (t : State) (l : List Master) (x : Master) (h : t.ptp.masters = l ++ [x]) : x ∈ t.reselect.ptp.masters := by
    rw [t.reselect_masters, h]
    exact List.mem_append_right _ (List.mem_singleton_self x)
  unfold announce
  exact ⟨_, hmem _ _ _ rfl, rfl, rfl, rfl, rfl, rfl⟩

theorem sync_of_other {p domain src : Nat} (origin corr : Int) (sub : Nat)
    (h : s.flag fNW_SC1_LOST ∨ domain ≠ s.get fTCFG_DOMAIN ∨ s.ptp.sel ≠ some src ∨ p ≠ s.get fTIME_MPORT) :
    s.sync p domain src origin corr sub = s.copyTaken cpPTP p 0 := if_pos h

theorem sync_of_selected {p domain src : Nat} (origin corr : Int) (sub : Nat)
    (h : ¬ (s.flag fNW_SC1_LOST ∨ domain ≠ s.get fTCFG_DOMAIN ∨ s.ptp.sel ≠ some src ∨ p ≠ s.get fTIME_MPORT)) :
    s.sync p domain src origin corr sub
      = (s.copyTaken cpPTP p 0).offset (s.syncOffset p origin corr (s.copyStamp cpPTP p 0 sub)) := if_neg h

end State

theorem exec_announceReceive (p : Fin 2) (domain prio1 cls acc prio2 interval : BitVec 8) (src : BitVec 80) (var steps : BitVec 16) (gm : BitVec 64)
    (utc : Option (BitVec 16)) (s : State) : exec (.announceReceive p domain src prio1 cls acc var prio2 gm steps utc interval) s
      = execAnnounceReceive p domain src prio1 cls acc var prio2 gm steps utc interval s := rfl
theorem exec_syncReceive (p : Fin 2) (domain : BitVec 8) (src origin : BitVec 80) (corr : BitVec 64) (sub : Fin 40) (s : State) :
    exec (.syncReceive p domain src origin corr sub) s
      = .next (s.sync p.val domain.toNat src.toNat (ptpNs origin.toNat) corr.toInt sub.val) := rfl
theorem exec_timeStep (s : State) : exec .timeStep s = .next s.timeStep := rfl
theorem exec_masterLost (s : State) : exec .masterLost s = if s.masterSilent then .next s.masterLost else .next s := rfl
theorem exec_trustTimerExpiry (s : State) : exec .trustTimerExpiry s = .next s.trustExpiry := rfl
theorem exec_routeHoldEnd (s : State) : exec .routeHoldEnd s = .next s.holdEnd := rfl
theorem exec_rearmLapse (s : State) : exec .rearmLapse s = .next s.rearmLapse := rfl

/-- The master that an Announce tells of (R262). -/
def announcedMaster (p src : Nat) (rank : List Nat) (gm : Nat) (utc : Option (BitVec 16)) (interval : BitVec 8) : Master :=
  ⟨p, src, rank, gm, utc.map (·.toInt), 0,
    if interval.toInt < 0 then 25000000 / 2 ^ interval.toInt.natAbs else 25000000 * 2 ^ interval.toNat, 0⟩

section Announce

variable (p : Fin 2) (domain prio1 cls acc prio2 interval : BitVec 8) (src : BitVec 80) (var steps : BitVec 16) (gm : BitVec 64)
  (utc : Option (BitVec 16)) (s : State)

theorem announceReceive_other (h : ¬ (domain.toNat = s.get fTCFG_DOMAIN ∧ s.flag fNW_SC1_LOST = false)) :
    exec (.announceReceive p domain src prio1 cls acc var prio2 gm steps utc interval) s = .next (s.copyTaken cpPTP p 0xB) := by
  have hcond : domain.toNat ≠ (s.copyTaken cpPTP p.val 0xB).get fTCFG_DOMAIN ∨ (s.copyTaken cpPTP p.val 0xB).flag fNW_SC1_LOST = true :=
    (not_and_or.1 h).imp id (Bool.eq_true_of_not_eq_false ·)
  rw [exec_announceReceive, execAnnounceReceive]
  exact if_pos hcond

theorem announceReceive_own (h : domain.toNat = s.get fTCFG_DOMAIN ∧ s.flag fNW_SC1_LOST = false) : ∃ m : Master,
    m.src = src.toNat ∧ m.port = p.val ∧ m.gm = gm.toNat
      ∧ m.rank = [prio1.toNat, cls.toNat, acc.toNat, var.toNat, prio2.toNat, gm.toNat, steps.toNat, src.toNat, p.val]
      ∧ exec (.announceReceive p domain src prio1 cls acc var prio2 gm steps utc interval) s
        = .next ((s.copyTaken cpPTP p 0xB).announce m) := by
  have hcond : ¬ (domain.toNat ≠ (s.copyTaken cpPTP p.val 0xB).get fTCFG_DOMAIN ∨ (s.copyTaken cpPTP p.val 0xB).flag fNW_SC1_LOST = true) :=
    fun hor => hor.elim (· h.1) fun hlost => Bool.noConfusion (hlost.symm.trans h.2)
  refine ⟨announcedMaster p src.toNat _ gm.toNat utc interval, rfl, rfl, rfl, rfl, ?_⟩
  rw [exec_announceReceive, execAnnounceReceive]
  exact if_neg hcond

end Announce

/-- Settles O30: a master heard stands through the choice among the masters, an offset is shown before the clock works on it, and what
follows a step on its tick leaves the time and TIME_STAT. -/
theorem clockAndMasters : Obligations.ClockAndMasters := by
  unfold Obligations.ClockAndMasters
  intro p domain prio1 cls acc prio2 interval src origin var steps gm corr utc sub d k s left own elected stamp
  have hcopy (type : Nat) : (s.copyTaken cpPTP p type).ring.copies = s.ring.copies.eraseP (State.isCopy cpPTP p type) := rfl
  have hcopyKept (type : Nat) : Kept [.ring] s (s.copyTaken cpPTP p type) := State.copyTaken_kept (by decide) cpPTP p type (.refl s)
  have hother : ¬ (own ∧ elected) → s.flag fNW_SC1_LOST ∨ domain.toNat ≠ s.get fTCFG_DOMAIN ∨ s.ptp.sel ≠ some src.toNat
      ∨ p.val ≠ s.get fTIME_MPORT := fun h => by
    by_contra hno
    push Not at hno
    obtain ⟨hlost, hdom, hsel, hport⟩ := hno
    exact h ⟨⟨hdom, Bool.eq_false_iff.2 hlost⟩, hsel, hport⟩
  have hown : own → elected → ¬ (s.flag fNW_SC1_LOST ∨ domain.toNat ≠ s.get fTCFG_DOMAIN ∨ s.ptp.sel ≠ some src.toNat
      ∨ p.val ≠ s.get fTIME_MPORT) := fun ho he hor => by
    rcases hor with hlost | hdom | hsel | hport
    · exact Bool.noConfusion (hlost.symm.trans ho.2)
    · exact hdom ho.1
    · exact hsel he.1
    · exact hport he.2
  refine ⟨fun h => ?heard, fun h => ?foreign, fun h => ?unheard, fun ho he => ?offset, fun hd h => ?step, fun h => ?noStep, fun h => ?noneWritten,
    fun h hk => ?lost, fun h => ?notLost, fun h h2 => ?untrusted, fun h h4 hc => ?trusted, fun h => ?trustStays, fun h => ?holdEnds,
    fun h => ?holds, fun h ht => ?lapse, fun h => ?armed⟩
  case heard =>
    obtain ⟨m, hsrc, hport, hgm, hrank, hexec⟩ := announceReceive_own p domain prio1 cls acc prio2 interval src var steps gm utc s h
    obtain ⟨x, hx, hxsrc, hxport, hxgm, hxlast, hxrank⟩ := (s.copyTaken cpPTP p 0xB).announce_heard m
    exact Completes.of_eq hexec ⟨⟨x, hx, hxsrc.trans hsrc, hxport.trans hport, hxgm.trans hgm, hxlast, hxrank.trans hrank⟩,
      (State.announce_kept (by decide) m ((hcopyKept 0xB).mono (by decide))).only⟩
  case foreign =>
    exact Completes.of_eq (announceReceive_other p domain prio1 cls acc prio2 interval src var steps gm utc s h) ⟨hcopy _, (hcopyKept _).only⟩
  case unheard =>
    exact Completes.of_eq ((exec_syncReceive p domain src origin corr sub s).trans (by rw [State.sync_of_other _ _ _ (hother h)]))
      ⟨hcopy _, (hcopyKept _).only⟩
  case offset =>
    have hexec : exec (.syncReceive p domain src origin corr sub) s
        = .next ((s.copyTaken cpPTP p 0).offset (s.syncOffset p (ptpNs origin.toNat) corr.toInt stamp)) :=
      (exec_syncReceive p domain src origin corr sub s).trans (by rw [State.sync_of_selected _ _ _ (hown ho he)])
    have hhold : (s.copyTaken cpPTP p 0).ptp.hold = s.ptp.hold := rfl
    have ht := hcopyKept 0
    have hcopies := hcopy 0
    generalize s.copyTaken cpPTP p 0 = t at hexec hhold ht hcopies
    generalize s.syncOffset p (ptpNs origin.toNat) corr.toInt stamp = o at hexec
    have hkept : Kept [.regs, .free, .icu, .evt, .nw, .pwr, .ptp] t (t.offset o) := State.offset_kept (by decide) o (.refl t)
    refine Completes.of_eq hexec ⟨fun hh => State.offset_shown o (hhold.trans hh), fun hh => ?_, (congrArg Ring.copies hkept.ring_eq).trans hcopies,
      (State.offset_kept (by decide) o (ht.mono (by decide))).only⟩
    rw [State.offset_of_hold o (hhold.trans hh)]
    exact ht.only
  case step =>
    have hs := State.timeStep_stepped hd h
    exact Completes.of_eq (exec_timeStep s) ⟨hs.ns, hs.state, hs.cause, hs.set, hs.rearmed, hs.step⟩
  case noStep => exact Completes.of_eq (exec_timeStep s) (State.timeStep_of_not h)
  case noneWritten =>
    refine Completes.of_eq (exec_timeStep s) ?_
    rw [State.timeStep, h]
  case lost =>
    have hb := s.bereft_bereft k
    refine Completes.of_eq ((exec_masterLost s).trans (if_pos h)) ⟨?_, fun hleft => ?_, (State.masterLost_kept (by decide) (.refl s)).only⟩
    · rw [State.masterLost_eq hk, State.reselect_masters, hb.masters]
    · rw [State.masterLost_eq hk, State.reselect_of_none (hb.masters.trans hleft)]
      exact ⟨hb.sel, hb.master, hb.acquiring, hb.locked⟩
  case notLost => exact Completes.of_eq ((exec_masterLost s).trans (if_neg (by rw [h]; decide))) rfl
  case untrusted =>
    obtain ⟨hstate, hcause⟩ := State.trustExpiry_locked h h2
    exact Completes.of_eq (exec_trustTimerExpiry s) ⟨hstate, hcause, (State.trustExpiry_kept (by decide) (.refl s)).only⟩
  case trusted =>
    obtain ⟨hstate, hcause⟩ := State.trustExpiry_trusted h h4 hc
    exact Completes.of_eq (exec_trustTimerExpiry s) ⟨hstate, hcause, (State.trustExpiry_kept (by decide) (.refl s)).only⟩
  case trustStays =>
    exact Completes.of_eq (exec_trustTimerExpiry s) (h.elim State.trustExpiry_of_running fun ⟨h2, h4⟩ => State.trustExpiry_of_other h2 h4)
  case holdEnds =>
    have he := State.holdEnd_ended h
    exact Completes.of_eq (exec_routeHoldEnd s) ⟨he.hold, he.alone, he.same, he.other, (State.holdEnd_kept (by decide) (.refl s)).only⟩
  case holds => exact Completes.of_eq (exec_routeHoldEnd s) (State.holdEnd_of_running h)
  case lapse =>
    have hl := State.rearmLapse_lapsed h ht
    exact Completes.of_eq (exec_rearmLapse s) ⟨hl.rearmed, hl.step, hl.fresh, hl.logged, (State.rearmLapse_kept (by decide) (.refl s)).only⟩
  case armed => exact Completes.of_eq (exec_rearmLapse s) (State.rearmLapse_of_not h)

end Sys2Proof.Machine
end

section
/-! PEER DELAY AND PPS (R260, R261, R275-R278): exchanges, the two-step table, the pulse, the local offset, the time latch. -/

namespace Sys2Proof.Machine

namespace State

variable {s : State} {p : Nat}

-- Frames of the device's own

theorem beBytes_length (n x : Nat) : (beBytes n x).length = n := (List.length_reverse).trans (length_leBytes n x)

theorem ptpHeader_length (s : State) (p type dom flags n corr id : Nat) : (s.ptpHeader p type dom flags n corr id).length = 34 := by
  simp [ptpHeader, beBytes_length]

theorem pdFrame_length (s : State) (m : List Byte) (stamp : Int) (corr : Nat) (hm : 46 ≤ m.length) :
    (s.pdFrame m stamp corr).bytes.length = 14 + m.length := by
  simp only [pdFrame, ownFrame, List.length_append, beBytes_length, List.length_replicate]
  omega

theorem pdFrame_ingress (s : State) (m : List Byte) (stamp : Int) (corr : Nat) : (s.pdFrame m stamp corr).ingress = 2 := rfl

theorem toPtp_core (s : State) (p : Nat) {f : Frame} (hf : 2 ≤ f.ingress) : ptpCore (s.toPtp p f).ptp = ptpCore s.ptp := by
  unfold toPtp
  dsimp only
  rw [if_neg (by omega)]
  exact choose_core _ p

/-- A queue of the egress with a frame in progress and room (R236). -/
def PtpRoom (s : State) (p : Nat) : Prop :=
  (s.egress p).cur.isSome = true ∧ (s.egress p).keptPtp = [] ∧ queued (s.egress p).ptp + 72 ≤ 32768

/-- A frame of 68 bytes joins the PTP queue behind a frame in progress, and nothing but the queue changes. -/
theorem toPtp_joins {f : Frame} (hroom : s.PtpRoom p) (hf : f.ingress = 2) (hlen : f.bytes.length = 68) :
    (s.toPtp p f).ptp = s.ptp ∧ ((s.toPtp p f).egress p).ptp = (s.egress p).ptp ++ [f] := by
  obtain ⟨hcur, hkept, hfits⟩ := hroom
  rw [toPtp_busy hf.ge hcur hkept (by rw [hlen]; exact hfits), egress_setEgress, if_pos rfl]
  exact ⟨rfl, rfl⟩

-- Requests and answers (R261)

theorem pdelaySend_of_not (h : s.pdelayDue p = false) : s.pdelaySend p = s := if_pos (by rw [h]; decide)

/-- The state with a request's exchange recorded, its frame not sent yet. -/
def requested (s : State) (p : Nat) : State :=
  s.setPtp { s.ptp with
    nextId := (s.ptp.nextId + 1) % 65536, exch := tabSet (fun _ => noExch) s.ptp.exch p ⟨s.ptp.nextId, s.timeNs, s.quality 0⟩,
    reqAt := tabSet (fun _ => 0) s.ptp.reqAt p (s.grid.tick + 1) }

theorem pdelaySend_eq (h : s.pdelayDue p = true) : ∃ f : Frame, f.ingress = 2 ∧ f.bytes.length = 68
    ∧ s.pdelaySend p = ((s.pdelayBad p).requested p).toPtp p f := by
  unfold pdelaySend
  dsimp only
  rw [if_neg (by rw [h]; decide)]
  refine ⟨_, ?_, ?_, rfl⟩
  · exact pdFrame_ingress _ _ _ _
  · have hm (h b : List Byte) (hh : h.length = 34) (hb : b.length = 20) : (h ++ b).length = 54 := by rw [List.length_append, hh, hb]
    rw [pdFrame_length _ _ _ _ (by rw [hm _ _ (ptpHeader_length _ _ _ _ _ _ _ _) (beBytes_length _ _)]; decide),
      hm _ _ (ptpHeader_length _ _ _ _ _ _ _ _) (beBytes_length _ _)]

/-- What a bad exchange leaves: the clock's other work and everything outside it but the count. -/
theorem pdelayBad_core (s : State) (p : Nat) : ptpCore (s.pdelayBad p).ptp = ptpCore s.ptp := by
  unfold pdelayBad
  split <;> rfl

theorem pdelayBad_counts (h : (s.exchOf p).id ≠ 65536) : (s.pdelayBad p).rd (aTIME_CNT 2) = s.rd (aTIME_CNT 2) + 1
    ∧ (s.pdelayBad p).exchOf p = noExch := by
  have heq : s.pdelayBad p = (s.pdelayDrop p).bump (aTIME_CNT 2) := if_neg h
  rw [heq]
  exact ⟨rd_bump (s.pdelayDrop p) _, tabGet_set_same (fun _ => noExch) s.ptp.exch p noExch⟩

theorem pdelayBad_onlyCnt (s : State) (p : Nat) : Wr [(0x3048, 0)] s (s.pdelayBad p) := by
  unfold pdelayBad
  split
  · exact .refl s
  · exact bump_wr (by decide) (.upd (.refl s))

/-- What a request that is sent leaves. -/
structure RequestSent (p : Nat) (s u : State) : Prop where
  nextId : u.ptp.nextId = (s.ptp.nextId + 1) % 65536
  reqAt : tabGet (fun _ => 0) u.ptp.reqAt p = s.grid.tick + 1
  exch : s.PtpRoom p → tabGet (fun _ => noExch) u.ptp.exch p = ⟨s.ptp.nextId, s.timeNs, s.quality 0⟩
  queued : s.PtpRoom p → ∃ f : Frame, f.ingress = 2 ∧ (u.egress p).ptp = (s.egress p).ptp ++ [f]

theorem pdelaySend_requested (h : s.pdelayDue p = true) : RequestSent p s (s.pdelaySend p) := by
  obtain ⟨f, hf, hlen, heq⟩ := pdelaySend_eq h
  have hbad : Kept [.regs, .ptp] s (s.pdelayBad p) := pdelayBad_kept (by decide) p (.refl s)
  have hid := congrArg Ptp.nextId (s.pdelayBad_core p)
  have hreq := congrArg Ptp.reqAt (s.pdelayBad_core p)
  have hw := s.pdelayBad_onlyCnt p
  have hqual : (s.pdelayBad p).quality 0 = s.quality 0 := by
    simp only [quality, hw.get fTIME_STATE (by decide), hw.flag fTIME_SET (by decide), hw.get fGRID_SRC (by decide)]
  have hns : (s.pdelayBad p).timeNs = s.timeNs := by rw [timeNs, hbad.time_eq, timeNs]
  have hegress : (s.pdelayBad p).egress p = s.egress p := congrArg RingPort.out (rport_of_ring hbad.ring_eq p)
  have htick := congrArg Grid.tick hbad.grid_eq
  rw [heq]
  generalize s.pdelayBad p = t at hid hreq hqual hns hegress htick ⊢
  have hid : t.ptp.nextId = s.ptp.nextId := hid
  have hcore := (t.requested p).toPtp_core p hf.ge
  have hjoin (hroom : s.PtpRoom p) := toPtp_joins (s := t.requested p) (p := p) (f := f) (by
    show (t.egress p).cur.isSome = true ∧ (t.egress p).keptPtp = [] ∧ State.queued (t.egress p).ptp + 72 ≤ 32768
    rw [hegress]
    exact hroom) hf hlen
  refine ⟨(congrArg Ptp.nextId hcore).trans ?_, (congrArg (fun x => tabGet (fun _ => 0) (Ptp.reqAt x) p) hcore).trans ?_, fun hroom => ?_, fun hroom => ?_⟩
  · show (t.ptp.nextId + 1) % 65536 = _
    rw [hid]
  · show tabGet (fun _ => 0) (tabSet (fun _ => 0) t.ptp.reqAt p (t.grid.tick + 1)) p = _
    rw [tabGet_set_same, htick]
  · rw [(hjoin hroom).1]
    show tabGet (fun _ => noExch) (tabSet (fun _ => noExch) t.ptp.exch p ⟨t.ptp.nextId, t.timeNs, t.quality 0⟩) p = _
    rw [tabGet_set_same, hid, hns, hqual]
  · refine ⟨f, hf, (hjoin hroom).2.trans ?_⟩
    show (t.egress p).ptp ++ [f] = _
    rw [hegress]

theorem pdelayAnswer_dead (src id corr sub : Nat) (h : ¬ (s.sf p = false ∧ s.inDusk = false ∧ s.flag fNW_SC1_LOST = false)) :
    s.pdelayAnswer p src id corr sub = s.copyTaken cpPDELAY p 2 := by
  have hcond : ((s.copyTaken cpPDELAY p 2).sf p || (s.copyTaken cpPDELAY p 2).inDusk || (s.copyTaken cpPDELAY p 2).flag fNW_SC1_LOST) = true := by
    show (s.sf p || s.inDusk || s.flag fNW_SC1_LOST) = true
    cases h1 : s.sf p <;> cases h2 : s.inDusk <;> cases h3 : s.flag fNW_SC1_LOST <;> simp_all
  exact if_pos hcond

theorem pdelayAnswer_live (src id corr sub : Nat) (h : s.sf p = false ∧ s.inDusk = false ∧ s.flag fNW_SC1_LOST = false) :
    ∃ f : Frame, f.stamp = s.copyStamp cpPDELAY p 2 sub ∧ f.ctx = corr ∧ f.ingress = 2 ∧ f.bytes.length = 68
      ∧ s.pdelayAnswer p src id corr sub = (s.copyTaken cpPDELAY p 2).toPtp p f := by
  obtain ⟨h1, h2, h3⟩ := h
  have hcond : ¬ ((s.copyTaken cpPDELAY p 2).sf p || (s.copyTaken cpPDELAY p 2).inDusk || (s.copyTaken cpPDELAY p 2).flag fNW_SC1_LOST) = true := by
    show ¬ (s.sf p || s.inDusk || s.flag fNW_SC1_LOST) = true
    rw [h1, h2, h3]
    decide
  have hlen (b : Bool) (x : Int) : (if b then beBytes 10 0 else ptpTime x).length = 10 := by
    cases b <;> simp [ptpTime, beBytes_length]
  refine ⟨_, ?_, ?_, ?_, ?_, if_neg hcond⟩
  · rfl
  · rfl
  · rfl
  · have hm (h b c : List Byte) (hh : h.length = 34) (hb : b.length = 10) (hc : c.length = 10) : (h ++ b ++ c).length = 54 := by
      rw [List.length_append, List.length_append, hh, hb, hc]
    rw [pdFrame_length _ _ _ _ (by rw [hm _ _ _ (ptpHeader_length _ _ _ _ _ _ _ _) (hlen _ _) (beBytes_length _ _)]; decide),
      hm _ _ _ (ptpHeader_length _ _ _ _ _ _ _ _) (hlen _ _) (beBytes_length _ _)]

/-- The delay that a response gives, in 2^-16 ns (R261). -/
def respDelay (s : State) (p : Nat) (t2 t3 corr : Int) (sub : Nat) : Int :=
  ((s.copyStamp cpPDELAY p 3 sub - (s.exchOf p).sent - (t3 - t2)) * 65536 - corr) / 2

/-- The last valid delays of a port with one more. -/
def delaysWith (s : State) (p : Nat) (d : Int) : List Int := (d :: tabGet (fun _ => []) s.ptp.delays p).take 8

/-- A valid delay is recorded. -/
def delayBooked (s : State) (p : Nat) (d : Int) : State :=
  let s := s.pdelayDrop p
  (s.setPtp { s.ptp with delays := tabSet (fun _ => []) s.ptp.delays p (s.delaysWith p d) }).wr (aTIME_MPD p) (meanDelay (s.delaysWith p d))

theorem pdelayDone_other {id : Nat} (t2 t3 corr : Int) (sub : Nat) (h : (s.exchOf p).id ≠ id ∨ s.flag fNW_SC1_LOST = true) :
    s.pdelayDone p id t2 t3 corr sub = s.copyTaken cpPDELAY p 3 := if_pos h

theorem pdelayDone_eq {id : Nat} (t2 t3 corr : Int) (sub : Nat) (hid : (s.exchOf p).id = id) (hlost : s.flag fNW_SC1_LOST = false) :
    s.pdelayDone p id t2 t3 corr sub
      = if s.respDelay p t2 t3 corr sub < 0 ∨ 100000 * 65536 < s.respDelay p t2 t3 corr sub ∨ 2500000 < s.pdSince p
        then (s.copyTaken cpPDELAY p 3).pdelayBad p
        else (s.copyTaken cpPDELAY p 3).delayBooked p (s.respDelay p t2 t3 corr sub) := by
  have hcond : ¬ ((s.exchOf p).id ≠ id ∨ s.flag fNW_SC1_LOST = true) := by simp [hid, hlost]
  exact if_neg hcond

theorem delayBooked_booked (s : State) (p : Nat) (d : Int) : tabGet (fun _ => []) (s.delayBooked p d).ptp.delays p = s.delaysWith p d
    ∧ (s.delayBooked p d).rd (aTIME_MPD p) = BitVec.ofNat 32 (meanDelay (s.delaysWith p d)) :=
  ⟨tabGet_set_same (fun _ => []) s.ptp.delays p (s.delaysWith p d), rd_wr_same _ _ _⟩

-- PPS and local time (R275-R277)

theorem ppsRise_of_not (h : s.wholeSec = false) : s.ppsRise = s := if_pos (by rw [h]; decide)

/-- What a whole second leaves with the pulse committed and the time base set. -/
structure Pulsed (s u : State) : Prop where
  pin : u.pins.ppsOut = true
  lag : u.get fPPS_LAG = if s.time.ns < 39 then s.time.ns else 39
  pps : u.ptp.pps = false
  since : u.ptp.ppsAt = s.grid.tick

theorem ppsRise_pulsed (h : s.wholeSec = true) (hpps : s.ptp.pps = true) (hset : s.flag fTIME_SET = true) : Pulsed s s.ppsRise := by
  have hlag : (if s.time.ns < 39 then s.time.ns else 39) < 64 := by split <;> omega
  unfold ppsRise
  dsimp only
  rw [if_neg (by rw [h]; decide), hpps, hset, if_pos (by rfl), if_pos (by rfl)]
  exact ⟨rfl, get_put_fits _ fPPS_LAG hlag, rfl, rfl⟩

theorem ppsRise_silent (h : s.wholeSec = true) (hoff : s.ptp.pps = false ∨ s.flag fTIME_SET = false) :
    s.ppsRise = s.setPtp { s.ptp with pps := false } := by
  have hon : (s.ptp.pps && s.flag fTIME_SET) = false := by
    rcases hoff with hoff | hoff <;> rw [hoff]
    · rfl
    · exact Bool.and_false _
  unfold ppsRise
  dsimp only
  rw [if_neg (by rw [h]; decide), hon, if_neg (by decide), if_neg (by decide)]

theorem ppsIn_other {rise : Bool} (sub : Nat) (h : rise = s.flag fTCFG_PPSIN_POL) : s.ppsIn rise sub = s := if_pos (by rw [h, beq_self_eq_true])

theorem ppsIn_shown {rise : Bool} (sub : Nat) (h : rise ≠ s.flag fTCFG_PPSIN_POL) :
    (s.ppsIn rise sub).rd aTIME_PPSIN = BitVec.ofNat 32 (toBits
      (if (((s.timeNs + sub / 2 * 2) % 1000000000 : Nat) : Int) < 500000000 then (((s.timeNs + sub / 2 * 2) % 1000000000 : Nat) : Int)
        else (((s.timeNs + sub / 2 * 2) % 1000000000 : Nat) : Int) - 1000000000) 32) := by
  have hptp (t : State) (x : Ptp) : (t.setPtp x).rd aTIME_PPSIN = t.rd aTIME_PPSIN := rfl
  have htail (t : State) (c : Bool) (x : Stamp) (r : List Nat) :
      ((if c then t.logStamp x evPPS_IN_DEV kTIME 0 r else t).raise srcPPS_IN).rd aTIME_PPSIN = t.rd aTIME_PPSIN :=
    (raise_wr (R := [(0x270, 0), (0x2A8, 0), (0x5014, 0), (0x1B070, 0)]) (by decide) srcPPS_IN
      (.ite (logStamp_wr (by decide) x evPPS_IN_DEV kTIME 0 r (.refl t)) (.refl t))).eq _ (by decide)
  unfold ppsIn
  dsimp only
  rw [if_neg (by simpa using h), htail, hptp, rd_wr_same]

theorem offsetChange_of_not (h : s.wholeSec = false) : s.offsetChange = s := if_pos (by rw [h]; decide)

theorem offsetChange_time (h : s.wholeSec = true) : s.offsetChange.time = { s.time with utc := s.time.utcNext } := by
  have hmoved (t : State) : t.localMoved.time = t.time := (localMoved_kept (T := [.regs, .obs, .dim]) (by decide) (.refl t)).time_eq
  unfold offsetChange
  rw [if_neg (by rw [h]; decide), hmoved]

theorem hostLatch_timeNs (s : State) (c : Nat) : s.hostLatch c aTIME_NS = s.timeRead c := by
  unfold hostLatch
  rw [if_neg (by decide), if_neg (by decide), if_neg (by decide), if_neg (by decide), if_pos rfl]

theorem hostClear_timeNs (s : State) : s.hostClear aTIME_NS = s := by
  unfold hostClear
  rw [if_neg (by decide), if_neg (by decide)]

/-- A read of TIME_NS needs no elevation and latches the time (R278). -/
theorem regRead_timeNs {c : Nat} (h : s.Served c) : s.regRead c aTIME_NS = s.timeRead c := by
  have hpub : isPrivileged aTIME_NS = false := by decide
  rw [regRead, if_neg (blocked_of_served h), wordRead, if_neg (by simp [hpub]), if_neg (by simp [hpub]), hostRead, hostLatch_timeNs,
    hostClear_timeNs]

end State

theorem exec_pdelayReqSend (p : Fin 2) (s : State) : exec (.pdelayReqSend p) s = .next (s.pdelaySend p.val) := rfl
theorem exec_pdelayReqReceive (p : Fin 2) (src : BitVec 80) (id : BitVec 16) (corr : BitVec 64) (sub : Fin 40) (s : State) :
    exec (.pdelayReqReceive p src id corr sub) s = .next (s.pdelayAnswer p.val src.toNat id.toNat corr.toNat sub.val) := rfl
theorem exec_pdelayRespReceive (p : Fin 2) (id : BitVec 16) (t2 t3 : BitVec 80) (corr : BitVec 64) (sub : Fin 40) (s : State) :
    exec (.pdelayRespReceive p id t2 t3 corr sub) s
      = .next (s.pdelayDone p.val id.toNat (ptpNs t2.toNat) (ptpNs t3.toNat) corr.toInt sub.val) := rfl
theorem exec_pdelayTimeout (p : Fin 2) (s : State) :
    exec (.pdelayTimeout p) s = if s.pdSince p.val < 2500000 then .next s else .next (s.pdelayBad p.val) := rfl
theorem exec_tcEntryExpiry (s : State) :
    exec .tcEntryExpiry s = if s.tcOld then .next (s.setPtp { s.ptp with table := s.ptp.table.drop 1 }) else .next s := rfl
theorem exec_ppsOutEdge (s : State) : exec .ppsOutEdge s = .next s.ppsRise := rfl
theorem exec_ppsOutFall (s : State) : exec .ppsOutFall s = .next s.ppsFall := rfl
theorem exec_ppsInEdge (rise : Bool) (sub : Fin 40) (s : State) : exec (.ppsInEdge rise sub) s = .next (s.ppsIn rise sub.val) := rfl
theorem exec_localOffsetChange (s : State) : exec .localOffsetChange s = .next s.offsetChange := rfl
theorem exec_timeNsRead (c : Fin 9) (s : State) : exec (.timeNsRead c) s = .next (s.regRead c.val aTIME_NS) := rfl

/-- Settles O31: an exchange is recorded before its request joins the queue, and behind a frame in progress the queue alone changes. -/
theorem peerDelayAndPps : Obligations.PeerDelayAndPps := by
  unfold Obligations.PeerDelayAndPps
  intro p src t2 t3 id corr sub rise c s x delay l n live room served
  have hcopy (type : Nat) : Kept [.ring] s (s.copyTaken cpPDELAY p type) := State.copyTaken_kept (by decide) cpPDELAY p type (.refl s)
  have hptp (y : Ptp) : Only [.ptp] s (s.setPtp y) := (Kept.upd_ptp (.refl s) (by decide)).only
  have hopen : x.id = id.toNat → (s.exchOf p).id ≠ 65536 := fun h h' => by
    have hlt := id.isLt
    have : x.id = 65536 := h'
    omega
  refine ⟨fun h => ?sent, fun h => ?notDue, fun h => ?dead, fun h hroom => ?answered, fun h => ?foreign, fun hid hlost => ?response,
    fun h ht => ?timedOut, fun h => ?inTime, fun h => ?expired, fun h => ?young, fun h hpps hset => ?rises, fun h hoff => ?silent, fun h => ?falls,
    fun h => ?stays, fun h => ?shown, fun h => ?otherEdge, fun h => ?moves, fun h e he => ?between, fun h => ?latched, fun h => ?unserved⟩
  case sent =>
    have hs := State.pdelaySend_requested h
    exact Completes.of_eq (exec_pdelayReqSend p s) ⟨hs.nextId, hs.reqAt, (State.pdelaySend_kept (by decide) p (.refl s)).only,
      fun hroom => ⟨hs.exch hroom, hs.queued hroom⟩⟩
  case notDue => exact Completes.of_eq (exec_pdelayReqSend p s) (State.pdelaySend_of_not h)
  case dead =>
    exact Completes.of_eq ((exec_pdelayReqReceive p src id corr sub s).trans (by rw [State.pdelayAnswer_dead _ _ _ _ h])) ⟨rfl, (hcopy 2).only⟩
  case answered =>
    obtain ⟨f, hstamp, hctx, hin, hlen, heq⟩ := State.pdelayAnswer_live src.toNat id.toNat corr.toNat sub.val h
    have hegress : (s.copyTaken cpPDELAY p 2).egress p = s.egress p := rfl
    have hjoin := State.toPtp_joins (s := s.copyTaken cpPDELAY p 2) (p := p) (f := f) (by rw [State.PtpRoom, hegress]; exact hroom) hin hlen
    exact Completes.of_eq ((exec_pdelayReqReceive p src id corr sub s).trans (by rw [heq]))
      ⟨f, hstamp, hctx, hin, hlen, hjoin.2.trans (by rw [hegress])⟩
  case foreign =>
    exact Completes.of_eq ((exec_pdelayRespReceive p id t2 t3 corr sub s).trans (by rw [State.pdelayDone_other _ _ _ _ h])) ⟨rfl, (hcopy 3).only⟩
  case response =>
    have heq := State.pdelayDone_eq (ptpNs t2.toNat) (ptpNs t3.toNat) corr.toInt sub.val hid hlost
    have hdelay : s.respDelay p (ptpNs t2.toNat) (ptpNs t3.toNat) corr.toInt sub = delay := rfl
    have hkept := State.pdelayDone_kept (T := [.regs, .ring, .ptp]) (by decide) p id.toNat (ptpNs t2.toNat) (ptpNs t3.toNat) corr.toInt sub.val (.refl s)
    refine Completes.of_eq (exec_pdelayRespReceive p id t2 t3 corr sub s) ⟨fun h0 h1 h2 => ?_, fun hbad => ?_, hkept.only⟩
    · rw [heq, hdelay, if_neg (by omega)]
      exact State.delayBooked_booked (s.copyTaken cpPDELAY p 3) p delay
    · rw [heq, hdelay, if_pos hbad]
      exact (State.pdelayBad_counts (s := s.copyTaken cpPDELAY p 3) (hopen hid)).1
  case timedOut =>
    obtain ⟨hcnt, hexch⟩ := State.pdelayBad_counts h
    exact Completes.of_eq ((exec_pdelayTimeout p s).trans (if_neg (by omega)))
      ⟨hcnt, by rw [← State.exchOf, hexch]; rfl, (s.pdelayBad_onlyCnt p).onlyRegs, (State.pdelayBad_kept (by decide) p (.refl s)).only⟩
  case inTime =>
    rcases h with h | h
    · have hbad : s.pdelayBad p = s := if_pos h
      exact Completes.of_eq ((exec_pdelayTimeout p s).trans (by rw [hbad, ite_self])) rfl
    · exact Completes.of_eq ((exec_pdelayTimeout p s).trans (if_pos h)) rfl
  case expired => exact Completes.of_eq ((exec_tcEntryExpiry s).trans (if_pos h)) ⟨rfl, hptp _⟩
  case young => exact Completes.of_eq ((exec_tcEntryExpiry s).trans (if_neg (by rw [h]; decide))) rfl
  case rises =>
    have hp := State.ppsRise_pulsed h hpps hset
    exact Completes.of_eq (exec_ppsOutEdge s) ⟨hp.pin, hp.lag, hp.pps, hp.since, (State.ppsRise_kept (by decide) (.refl s)).only⟩
  case silent => exact Completes.of_eq ((exec_ppsOutEdge s).trans (by rw [State.ppsRise_silent h hoff])) ⟨rfl, hptp _⟩
  case falls =>
    have heq : s.ppsFall = { s with pins := { s.pins with ppsOut := false } } := if_neg (Nat.not_lt.2 h)
    exact Completes.of_eq ((exec_ppsOutFall s).trans (by rw [heq])) ⟨rfl, (Kept.upd_pins (.refl s) (by decide)).only⟩
  case stays =>
    have heq : s.ppsFall = s := if_pos h
    exact Completes.of_eq (exec_ppsOutFall s) heq
  case shown => exact Completes.of_eq (exec_ppsInEdge rise sub s) ⟨State.ppsIn_shown sub h, (State.ppsIn_kept (by decide) rise sub (.refl s)).only⟩
  case otherEdge => exact Completes.of_eq (exec_ppsInEdge rise sub s) (State.ppsIn_other sub h)
  case moves => exact Completes.of_eq (exec_localOffsetChange s) ⟨State.offsetChange_time h, (State.offsetChange_kept (by decide) (.refl s)).only⟩
  case between =>
    rw [List.mem_cons, List.mem_singleton] at he
    rcases he with rfl | rfl
    · exact Completes.of_eq (exec_ppsOutEdge s) (State.ppsRise_of_not h)
    · exact Completes.of_eq (exec_localOffsetChange s) (State.offsetChange_of_not h)
  case latched =>
    refine Completes.of_eq ((exec_timeNsRead c s).trans (by rw [State.regRead_timeNs h])) ⟨?_, fun k hk => ?_, (State.timeRead_kept (by decide) c (.refl s)).only⟩
    · exact (State.copyOf_setCopy s c c _).trans (if_pos rfl)
    · exact (State.copyOf_setCopy s c k _).trans (if_neg hk)
  case unserved => exact Completes.of_eq (exec_timeNsRead c s) (State.regRead_unserved h _)

end Sys2Proof.Machine
end

section
/-! POWER SUPPLY (R362-R365, R398): power good and its end, RESET_N, a power cycle, the power-fail warning. -/

namespace Sys2Proof.Machine

namespace State

variable {s : State}

-- Everything off (R301, R398)

/-- What each element's step brings about and no step undoes holds of every element at the end. -/
theorem foldl_reaches {P : Nat → State → Prop} {f : State → Nat → State} (hself : ∀ s n, P n (f s n)) (hkeep : ∀ s n m, P m s → P m (f s n))
    (l : List Nat) (s : State) {n : Nat} (hn : n ∈ l) : P n (l.foldl f s) := by
  have hlater (l : List Nat) (t : State) (h : P n t) : P n (l.foldl f t) := by
    induction l generalizing t with
    | nil => exact h
    | cons m l ih => exact ih (f t m) (hkeep t m n h)
  induction l generalizing s with
  | nil => exact absurd hn List.not_mem_nil
  | cons m l ih =>
    rw [List.foldl_cons]
    rcases List.mem_cons.1 hn with rfl | hn
    · exact hlater l _ (hself s n)
    · exact ih (f s m) hn

theorem unprove_lit (s : State) (c d : Nat) : ((s.unprove c).chan d).lit = (s.chan d).lit := by
  by_cases h : d = c
  case neg => rw [s.unprove_chan h]
  case pos =>
    subst h
    have hset (t : State) (x : Chan) (hx : x.lit = (t.chan d).lit) (ht : t.chans = s.chans) : ((t.setChan d x).chan d).lit = (s.chan d).lit := by
      rw [chan_setChan, if_pos rfl, hx, chan_congr ht]
    have hled (t : State) (e : Nat) (l : Led) : (t.setLed e l).chan d = t.chan d := rfl
    unfold unprove
    dsimp only
    split
    · rw [hled]
      exact hset _ _ (by rfl) (by rw [putFlag_chans, put_chans])
    · exact hset _ _ (by rfl) (by rw [putFlag_chans, put_chans])

theorem darken_lit (s : State) (c : Nat) : ((s.darken c).chan c).lit = false := by
  have hset (x : Chan) (hx : x.lit = false) : ((s.setChan c x).chan c).lit = false := by rw [chan_setChan, if_pos rfl, hx]
  unfold darken
  dsimp only
  split
  · rw [unprove_lit]
    exact hset _ rfl
  · exact hset _ rfl

theorem darken_lit_other (s : State) (c d : Nat) (h : (s.chan d).lit = false) : ((s.darken c).chan d).lit = false := by
  have hset (x : Chan) (hx : x.lit = false) : ((s.setChan c x).chan d).lit = false := by
    rw [chan_setChan]
    split
    · exact hx
    · exact h
  unfold darken
  dsimp only
  split
  · rw [unprove_lit]
    exact hset _ rfl
  · exact hset _ rfl

/-- One output off for good, its off-pulse ended and its pending word to be discarded (R281). -/
def stoOff (s : State) (o : Nat) : State :=
  let s := (s.outOff o).pulseEnd o
  let x := s.out o
  s.setOut o { x with discard := x.await, failed := false, again := false }

theorem stoAllOff_eq (s : State) : s.stoAllOff = (List.range 8).foldl stoOff s := rfl

theorem stoOff_on (s : State) (o q : Nat) : ((s.stoOff o).out q).on = if q = o then false else (s.out q).on := by
  have hoff := s.outSwitch_switched o false
  have hend (t : State) (q : Nat) : ((t.pulseEnd o).out q).on = (t.out q).on := by
    have hput (u : State) : (u.putFlag (fOPULSE o) false).out q = u.out q := rfl
    rw [pulseEnd, hput, out_setOut]
    split
    case isTrue h => rw [h]
    case isFalse => rfl
  unfold stoOff
  dsimp only
  rw [out_setOut]
  split
  case isTrue h => exact (hend _ o).trans hoff.on_
  case isFalse h => rw [hend, outOff, hoff.others q h]

theorem stoAllOff_off (s : State) {o : Nat} (ho : o < 8) : (s.stoAllOff.out o).on = false := by
  rw [stoAllOff_eq]
  refine foldl_reaches (P := fun o s => (s.out o).on = false) (fun s o => ?_) (fun s o q h => ?_) _ s (List.mem_range.2 ho)
  · exact (s.stoOff_on o o).trans (if_pos rfl)
  · rw [stoOff_on]
    split
    · rfl
    · exact h

/-- The part without power: every lamp dark, every output off, the boost stage's gate and ASPECT_READY low. -/
structure Unpowered (u : State) : Prop where
  good : u.pwr.good = false
  gate : u.pins.bstGate = false
  ready : u.pins.aspectReady = false
  lamps : ∀ c < 128, (u.chan c).lit = false
  outs : ∀ o < 8, (u.out o).on = false

/-- What the end of power good does once every lamp is dark and every output off. -/
def linesLow (s : State) : State := (List.range 4).foldl (fun s n => (s.setLine n { s.tpLine n with low := true }).putFlag (fTP_LEVEL n) false) s

theorem linesLow_kept (s : State) : Kept [.regs, .sto] s s.linesLow :=
  Kept.fold (fun _ n h => putFlag_kept (by decide) _ _ (setLine_kept (by decide) n _ h)) (.refl s)

theorem linesLow_out (s : State) (o : Nat) : s.linesLow.out o = s.out o := by
  have hstep (l : List Nat) (t : State) :
      (l.foldl (fun s n => (s.setLine n { s.tpLine n with low := true }).putFlag (fTP_LEVEL n) false) t).out o = t.out o := by
    induction l generalizing t with
    | nil => rfl
    | cons n l ih =>
      rw [List.foldl_cons, ih]
      rfl
  exact hstep _ s

/-- The pins and the power domain after the end of power good. -/
def powerDropped (s : State) : State :=
  { s with
    pins := { s.pins with bstGate := false, aspectReady := false, ppsOut := false, hostIrqN := true }
    pwr := { s.pwr with good := false } }

theorem powerEnd_eq (s : State) : s.powerEnd
    = (((List.range 8).foldl bankOpen ((List.range 128).foldl darken s)).stoAllOff.linesLow.scanStop).powerDropped := by
  unfold powerEnd powerDropped linesLow
  dsimp only

theorem powerEnd_unpowered (s : State) : Unpowered s.powerEnd ∧ s.powerEnd.pins.ppsOut = false := by
  have hdark (c : Nat) (hc : c < 128) : (((List.range 128).foldl darken s).chan c).lit = false :=
    foldl_reaches (P := fun c s => (s.chan c).lit = false) darken_lit darken_lit_other _ s (List.mem_range.2 hc)
  have hbanks (t : State) : Kept [.regs, .banks] t ((List.range 8).foldl bankOpen t) := Kept.fold (fun _ n h => bankOpen_kept (by decide) n h) (.refl t)
  have hrest (t : State) : Kept [.regs, .obs, .sto, .mtx] t t.stoAllOff.linesLow.scanStop :=
    scanStop_kept (by decide) (((stoAllOff_kept (by decide) (.refl t)).trans ((linesLow_kept _).mono (by decide))))
  have hstop (t : State) (o : Nat) : t.scanStop.out o = t.out o := out_congr (scanStop_kept (T := [.regs, .mtx]) (by decide) (.refl t)).sto_eq o
  have hoff (t : State) (o : Nat) (ho : o < 8) : (t.stoAllOff.linesLow.scanStop.out o).on = false := by
    rw [hstop, linesLow_out]
    exact t.stoAllOff_off ho
  have hdrop (t : State) (hc : ∀ c < 128, (t.chan c).lit = false) (ho : ∀ o < 8, (t.out o).on = false) :
      Unpowered t.powerDropped ∧ t.powerDropped.pins.ppsOut = false := ⟨⟨rfl, rfl, rfl, hc, ho⟩, rfl⟩
  rw [powerEnd_eq]
  generalize (List.range 128).foldl darken s = t at hdark
  have hb := hbanks t
  generalize (List.range 8).foldl bankOpen t = u at hb
  refine hdrop _ (fun c hc => ?_) (fun o ho => hoff u o ho)
  rw [chan_congr (hrest u).chans_eq, chan_congr hb.chans_eq]
  exact hdark c hc

-- Power good (R362, R363)

/-- The state afresh, under power. -/
def poweredUp (s : State) (strap : Bool) : State :=
  { s.afresh with
    pins := { s.afresh.pins with resetN := true, mode3032Strap := strap }
    pwr := { s.afresh.pwr with good := true } }

/-- What power good leaves where it starts a Dawn. -/
structure Dawning (strap : Bool) (s u : State) : Prop where
  good : u.pwr.good = true
  resetN : u.pins.resetN = true
  strapped : u.pins.mode3032Strap = strap
  mode : u.spi.mode = strap
  seen : u.flag fPWR_RESET_SEEN = !s.pins.resetN
  state : u.pstate = 0
  phase : u.get fPWR_PHASE = 0
  words : ∀ a, a ≠ aDEV_PWR_STAT → a ≠ aDEV_NW_STAT → u.rd a = State.reset.rd a
  sec : u.sec = s.afresh.sec
  life : u.life = s.afresh.life
  cfg : u.cfg = s.afresh.cfg

/-- The Dawn's clocks start and the strap is taken over. -/
def dawnBegun (u : State) (strap : Bool) : State :=
  { u with
    spi := { u.spi with mode := strap }
    pwr := { u.pwr with dawnStart := u.nw.tick, phaseStart := u.nw.tick } }

/-- A Dawn's start from the state `t` afresh, after the state `s`. -/
def dawnFrom (t s : State) (strap : Bool) : State :=
  ((t.putFlag fPWR_RESET_SEEN (!s.pins.resetN)).put fNW_SC0_RST (s.recent s.nw.sc0Starts).length).dawnBegun strap

theorem powerGood_eq (strap : Bool) (h : s.pwr.good = false) (hm : s.midnight = false) (hs : s.nw.scanned = false) :
    s.powerGood strap = dawnFrom (s.poweredUp strap) s strap := by
  unfold powerGood dawnFrom dawnBegun poweredUp
  dsimp only
  rw [if_neg (by rw [h]; decide), if_neg (by rw [hs]; decide), if_neg (by rw [hm]; decide)]

theorem dawnBegun_rd (u : State) (strap : Bool) (a : Nat) : (u.dawnBegun strap).rd a = u.rd a := rfl

theorem dawnBegun_kept (u : State) (strap : Bool) : Kept [.spi, .pwr] u (u.dawnBegun strap) :=
  Kept.upd_pwr (T := [.spi, .pwr]) (v := { u.pwr with dawnStart := u.nw.tick, phaseStart := u.nw.tick })
    (Kept.upd_spi (T := [.spi, .pwr]) (v := { u.spi with mode := strap }) (.refl u) (by decide)) (by decide)

theorem dawnBegun_mode (u : State) (strap : Bool) : (u.dawnBegun strap).spi.mode = strap ∧ (u.dawnBegun strap).pwr.good = u.pwr.good := ⟨rfl, rfl⟩

theorem dawnFrom_rd (t s : State) (strap : Bool) (a : Nat) : (dawnFrom t s strap).rd a
    = ((t.putFlag fPWR_RESET_SEEN (!s.pins.resetN)).put fNW_SC0_RST (s.recent s.nw.sc0Starts).length).rd a := dawnBegun_rd _ _ _

theorem dawnFrom_kept (t s : State) (strap : Bool) : Kept [.regs, .spi, .pwr] t (dawnFrom t s strap) :=
  Kept.trans (put_kept (by decide) _ _ (putFlag_kept (by decide) _ _ (.refl t))) ((dawnBegun_kept _ strap).mono (by decide))

theorem dawnFrom_good (t s : State) (strap : Bool) : (dawnFrom t s strap).pwr.good = t.pwr.good := by
  rw [dawnFrom, (dawnBegun_mode _ _).2, put_pwr, putFlag_pwr]

theorem dawnFrom_mode (t s : State) (strap : Bool) : (dawnFrom t s strap).spi.mode = strap := (dawnBegun_mode _ _).1

theorem dawnFrom_seen (t s : State) (strap : Bool) : (dawnFrom t s strap).flag fPWR_RESET_SEEN = !s.pins.resetN := by
  rw [flag_of_rd (dawnFrom_rd t s strap _), flag_put_addr (f := fNW_SC0_RST), flag_putFlag _ fPWR_RESET_SEEN]

theorem dawnFrom_other (t s : State) (strap : Bool) {a : Nat} (h1 : a ≠ aDEV_PWR_STAT) (h2 : a ≠ aDEV_NW_STAT) :
    (dawnFrom t s strap).rd a = t.rd a := by
  rw [dawnFrom_rd, rd_put_other _ _ h2, rd_putFlag_other _ _ h1]

theorem dawnFrom_get (t s : State) (strap : Bool) {f : Fld} (ha : f.addr = aDEV_PWR_STAT) (hf : 21 ≤ f.lo) :
    (dawnFrom t s strap).get f = t.get f := by
  rw [get_of_rd (dawnFrom_rd t s strap f.addr), get_put_addr _ _ (by rw [ha]; decide),
    get_putFlag_apart (f := fPWR_RESET_SEEN) t _ (by decide) ha (.inr hf)]

theorem dawnFrom_dawning {t : State} (strap : Bool) (hrd : ∀ a, t.rd a = State.reset.rd a) (hgood : t.pwr.good = true)
    (hreset : t.pins.resetN = true) (hstrap : t.pins.mode3032Strap = strap) (hsec : t.sec = s.afresh.sec) (hlife : t.life = s.afresh.life)
    (hcfg : t.cfg = s.afresh.cfg) : Dawning strap s (dawnFrom t s strap) := by
  have hkept := dawnFrom_kept t s strap
  have hstate : State.reset.get fPWR_STATE = 0 := by decide
  have hphase : State.reset.get fPWR_PHASE = 0 := by decide
  exact
    { good := (dawnFrom_good t s strap).trans hgood
      resetN := (congrArg Pins.resetN hkept.pins_eq).trans hreset
      strapped := (congrArg Pins.mode3032Strap hkept.pins_eq).trans hstrap
      mode := dawnFrom_mode t s strap
      seen := dawnFrom_seen t s strap
      state := ((dawnFrom_get t s strap (f := fPWR_STATE) rfl (by decide)).trans (get_of_rd (hrd _))).trans hstate
      phase := ((dawnFrom_get t s strap (f := fPWR_PHASE) rfl (by decide)).trans (get_of_rd (hrd _))).trans hphase
      words := fun a h1 h2 => (dawnFrom_other t s strap h1 h2).trans (hrd a)
      sec := hkept.sec_eq.trans hsec
      life := hkept.life_eq.trans hlife
      cfg := hkept.cfg_eq.trans hcfg }

theorem powerGood_dawning (strap : Bool) (h : s.pwr.good = false) (hm : s.midnight = false) (hs : s.nw.scanned = false) :
    Dawning strap s (s.powerGood strap) := by
  rw [powerGood_eq strap h hm hs]
  exact dawnFrom_dawning strap (fun _ => rfl) rfl rfl rfl rfl rfl rfl

theorem resetLow_low (h : s.pwr.good = true) (hm : s.midnight = false) : Unpowered s.resetLow ∧ s.resetLow.pins.resetN = false := by
  have hend := s.powerEnd_unpowered.1
  unfold resetLow
  rw [if_neg (by rw [hm]; decide), if_pos h]
  generalize s.powerEnd = t at hend
  exact ⟨⟨hend.good, hend.gate, hend.ready, hend.lamps, hend.outs⟩, rfl⟩

-- The power-fail warning (R363, R365)

theorem duskExit_pfw (s : State) (cause : Nat) : (s.duskExit cause).pwr.pfw = s.pwr.pfw := by
  unfold duskExit
  split
  · simp only [putFlag_pwr, put_pwr]
  · rfl

theorem duskAbandon_pfw (s : State) : s.duskAbandon.pwr.pfw = s.pwr.pfw := by
  unfold duskAbandon
  split
  · simp only [putFlag_pwr]
  split
  · simp only [put_pwr, putFlag_pwr]
  · rfl

theorem raise_pfw (s : State) (n : Nat) : (s.raise n).pwr.pfw = s.pwr.pfw := by
  have hwake (t : State) : (t.nwWake n).pwr.pfw = t.pwr.pfw := by
    unfold nwWake
    split
    · rfl
    split
    · simp only [put_pwr, putFlag_pwr, duskExit_pfw]
    split
    · simp only [put_pwr]
    · exact t.duskAbandon_pfw
  unfold raise
  split
  · rfl
  split
  · rfl
  · exact (hwake _)

theorem fltSet_pfw (s : State) (n cls : Nat) : (s.fltSet n cls).pwr.pfw = s.pwr.pfw := by
  unfold fltSet
  split
  · rfl
  split
  · rw [raise_pfw, put_pwr, put_pwr, putFlag_pwr, put_pwr]
  · rw [put_pwr]

/-- The warning set, the pin low. -/
def pfwWarned (s : State) : State := { s with pins := { s.pins with pfwN := false }, pwr := { s.pwr with pfw := true } }

/-- The warning told to the rest of the part, a part in Dusk woken. -/
def pfwTold (s : State) (slept : Bool) : State :=
  let s := (((s.lifeAcc (lifeDevice + 24) 1).bistCause brPFW).raise srcPFW).duskExit 3
  if slept then s.put fPWR_WAKE 3 else s

/-- The records persisted and the commits ended at the warning. -/
def pfwSaved (s : State) : State :=
  let s := s.persistBegin 2
  (s.mbx.cmds.filter fun c => c.phase == .running && c.op == opCFG_COMMIT).foldl (fun s c => s.finishCmd c.id stFAULT 0 []) s

theorem pfwFall_eq (h : s.pwr.good = true) : s.pfwFall = ((s.pfwWarned.pfwTold (s.pfwWarned.pstate == 3)).fltSet 21 0).pfwSaved := by
  unfold pfwFall
  rw [if_neg (by rw [h]; decide)]
  rfl

theorem pfwTold_pfw (s : State) (slept : Bool) : (s.pfwTold slept).pwr.pfw = s.pwr.pfw := by
  have hcause (t : State) : (t.bistCause brPFW).pwr = t.pwr := (bistCause_kept (T := [.bist]) (by decide) brPFW (.refl t)).pwr_eq
  have hall (t : State) (ht : t.pwr = s.pwr) : ((t.raise srcPFW).duskExit 3).pwr.pfw = s.pwr.pfw := by rw [duskExit_pfw, raise_pfw, ht]
  unfold pfwTold
  dsimp only
  split
  · rw [put_pwr]
    exact hall _ (hcause _)
  · exact hall _ (hcause _)

theorem pfwSaved_kept (s : State) : Kept [.regs, .mem, .life, .fspi, .mbx] s s.pfwSaved :=
  Kept.fold (fun _ _ h => finishCmd_kept (by decide) _ _ _ _ h) (persistBegin_kept (by decide) 2 (.refl s))

theorem pfwSaved_wr (s : State) : Wr [(0x290, 0)] s s.pfwSaved :=
  Wr.fold (fun _ _ h => finishCmd_wr (by decide) _ _ _ _ h) (persistBegin_wr (by decide) 2 (.refl s))

/-- What the fall of PFW_N leaves. -/
structure PfwWarned (s u : State) : Prop where
  pins : u.pins = { s.pins with pfwN := false }
  pfw : u.pwr.pfw = true
  group : u.flag (fFLT_GROUP 21) = true

theorem pfwFall_warned (h : s.pwr.good = true) : PfwWarned s s.pfwFall := by
  have htold (t : State) (b : Bool) : Kept [.regs, .icu, .nw, .life, .pwr, .bist] t (t.pfwTold b) := by
    unfold pfwTold
    exact .ite (put_kept (by decide) _ _ (duskExit_kept (by decide) 3 (raise_kept (by decide) srcPFW (bistCause_kept (by decide) brPFW
        (lifeAcc_kept (by decide) _ 1 (.refl t))))))
      (duskExit_kept (by decide) 3 (raise_kept (by decide) srcPFW (bistCause_kept (by decide) brPFW (lifeAcc_kept (by decide) _ 1 (.refl t)))))
  have hset (t : State) : Kept [.regs, .icu, .nw, .pwr] t (t.fltSet 21 0) := fltSet_kept (by decide) 21 0 (.refl t)
  have hwarned : s.pfwWarned.pwr.pfw = true := rfl
  have hpins : s.pfwWarned.pins = { s.pins with pfwN := false } := rfl
  rw [pfwFall_eq h]
  generalize (s.pfwWarned.pstate == 3) = b
  generalize s.pfwWarned = t at hwarned hpins ⊢
  exact
    { pins := ((pfwSaved_kept _).pins_eq.trans ((hset _).pins_eq.trans (htold t b).pins_eq)).trans hpins
      pfw := by rw [(pfwSaved_kept _).pwr_eq, fltSet_pfw, pfwTold_pfw, hwarned]
      group := ((pfwSaved_wr _).flag _ (by decide)).trans (fltSet_flag _ 0 (by decide) (by decide)) }

theorem pfwRise_of_high (h : s.pins.pfwN = true) : s.pfwRise = s := if_pos h

/-- What the rise of PFW_N leaves. -/
structure PfwRisen (s u : State) : Prop where
  pins : u.pins = { s.pins with pfwN := true }
  logged : s.pwr.good = true → Logged s u evPFW_CLEARED 0
  pwr : u.pwr = { s.pwr with pfwAt := s.nw.tick }

theorem pfwRise_risen (h : s.pins.pfwN = false) : PfwRisen s s.pfwRise := by
  have hlog (t : State) : Kept [.regs, .evt] t (t.logFw evPFW_CLEARED kDEVICE 0 []) := logFw_kept (by decide) evPFW_CLEARED kDEVICE 0 [] (.refl t)
  have hall (t : State) (hp : t.pins = { s.pins with pfwN := true }) (hw : t.pwr = { s.pwr with pfwAt := s.nw.tick })
      (hopen : t.logOpen = s.logOpen) (hq : t.evt.queue = s.evt.queue) :
      PfwRisen s (if t.pwr.good then t.logFw evPFW_CLEARED kDEVICE 0 [] else t) := by
    split
    case isTrue => exact ⟨(hlog t).pins_eq.trans hp, fun _ => logged_enqueue hopen hq rfl, (hlog t).pwr_eq.trans hw⟩
    case isFalse hg => exact ⟨hp, fun hgood => absurd (by rw [hw]; exact hgood) hg, hw⟩
  unfold pfwRise
  rw [if_neg (by rw [h]; decide)]
  exact hall _ rfl rfl rfl rfl

theorem pfwOver_of_not (h : s.pins.pfwN = false ∨ s.pwr.pfw = false ∨ s.nw.tick < s.pwr.pfwAt + tps) : s.pfwOver = s := by
  unfold pfwOver
  rw [if_pos]
  simpa [or_assoc] using h

theorem pfwOver_over (hn : s.pins.pfwN = true) (hp : s.pwr.pfw = true) (ht : s.pwr.pfwAt + tps ≤ s.nw.tick) :
    s.pfwOver.pwr = { s.pwr with pfw := false } ∧ s.pfwOver.flag (fFLT_GROUP 21) = false := by
  have hsnap (t : State) (b : Bool) : (if b then t.snapshot else t).pwr = t.pwr
      ∧ (if b then t.snapshot else t).flag (fFLT_GROUP 21) = t.flag (fFLT_GROUP 21) :=
    ⟨(Kept.ite (T := [.regs, .mem, .life, .fspi]) (snapshot_kept (by decide) (.refl t)) (.refl t)).pwr_eq,
      (Wr.ite (R := [(0x290, 0)]) (snapshot_wr (by decide) (.refl t)) (.refl t)).flag _ (by decide)⟩
  have hclr (t : State) : (t.fltClr 21).pwr = t.pwr := (fltClr_kept (T := [.regs]) (by decide) 21 (.refl t)).pwr_eq
  unfold pfwOver
  rw [if_neg (by simp only [hn, hp, Bool.not_true, Bool.false_or, decide_eq_true_eq]; omega)]
  dsimp only
  rw [(hsnap _ _).1, (hsnap _ _).2]
  exact ⟨hclr _, fltClr_flag _ (by decide) (by decide)⟩

end State

theorem exec_powerGood (strap : Bool) (s : State) : exec (.powerGood strap) s = .next (s.powerGood strap) := rfl
theorem exec_powerGoodEnd (s : State) : exec .powerGoodEnd s = if s.pwr.good then .next s.powerEnd else .next s := rfl
theorem exec_resetNLow (s : State) : exec .resetNLow s = .next s.resetLow := rfl
theorem exec_powerCycle (s : State) : exec .powerCycle s = .next s.powerCycle := rfl
theorem exec_pfwNFall (s : State) : exec .pfwNFall s = .next s.pfwFall := rfl
theorem exec_pfwCleared (s : State) : exec .pfwCleared s = .next s.pfwRise := rfl
theorem exec_pfwHigh1s (s : State) : exec .pfwHigh1s s = .next s.pfwOver := rfl

/-- Settles O32: each lamp and each output is put off in its turn and no later turn lights it; a Dawn starts from the words of reset. -/
theorem powerSupply : Obligations.PowerSupply := by
  unfold Obligations.PowerSupply
  intro strap s dark
  have hdark {u : State} (h : u.Unpowered) : dark u := ⟨h.good, h.gate, h.ready, h.lamps, h.outs⟩
  have hend := s.powerEnd_unpowered
  refine ⟨fun h hm hs => ?dawn, fun h hs => ?scanned, fun h => ?stays, fun h => ?ends, fun h => ?unpowered, fun h hm => ?resets, fun h => ?held,
    ?cycles, fun h => ?warns, fun h => ?falls, fun h => ?rises, fun h => ?high, fun hn hp ht => ?warningEnds, fun h => ?notOver⟩
  case dawn =>
    have hd := State.powerGood_dawning strap h hm hs
    refine Completes.of_eq (exec_powerGood strap s) ⟨hd.good, hd.resetN, hd.strapped, hd.mode, hd.seen, hd.state, hd.phase, hd.words, ?_, ?_, ?_, ?_⟩
    · rw [hd.sec]; rfl
    · rw [hd.sec]; rfl
    · rw [hd.life]; rfl
    · rw [hd.cfg]; rfl
  case scanned =>
    refine Completes.of_eq (exec_powerGood strap s) ?_
    unfold State.powerGood
    dsimp only
    rw [if_neg (by rw [h]; decide), if_pos hs]
  case stays =>
    refine Completes.of_eq (exec_powerGood strap s) ?_
    unfold State.powerGood
    dsimp only
    rw [if_pos h]
  case ends => exact Completes.of_eq ((exec_powerGoodEnd s).trans (if_pos h)) ⟨hdark hend.1, hend.2, (State.powerEnd_kept (by decide) (.refl s)).only⟩
  case unpowered => exact Completes.of_eq ((exec_powerGoodEnd s).trans (if_neg (by rw [h]; decide))) rfl
  case resets =>
    obtain ⟨hlow, hpin⟩ := State.resetLow_low h hm
    exact Completes.of_eq (exec_resetNLow s) ⟨hdark hlow, hpin⟩
  case held =>
    have heq : s.resetLow = s := if_pos h
    exact Completes.of_eq (exec_resetNLow s) heq
  case cycles => exact Completes.of_eq (exec_powerCycle s) ⟨rfl, rfl, rfl, rfl, rfl, rfl, rfl, rfl, rfl, rfl, rfl, rfl, rfl⟩
  case warns =>
    have hw := State.pfwFall_warned h
    exact Completes.of_eq (exec_pfwNFall s) ⟨hw.pins, hw.pfw, hw.group, (State.pfwFall_kept (by decide) (.refl s)).only⟩
  case falls =>
    have heq : s.pfwFall = { s with pins := { s.pins with pfwN := false } } := if_pos (by rw [h]; decide)
    exact Completes.of_eq (exec_pfwNFall s) heq
  case rises =>
    have hr := State.pfwRise_risen h
    exact Completes.of_eq (exec_pfwCleared s) ⟨hr.pins, hr.logged, hr.pwr, (State.pfwRise_kept (by decide) (.refl s)).only⟩
  case high => exact Completes.of_eq (exec_pfwCleared s) (State.pfwRise_of_high h)
  case warningEnds =>
    obtain ⟨hpwr, hgroup⟩ := State.pfwOver_over hn hp ht
    exact Completes.of_eq (exec_pfwHigh1s s) ⟨hpwr, hgroup, (State.pfwOver_kept (by decide) (.refl s)).only⟩
  case notOver => exact Completes.of_eq (exec_pfwHigh1s s) (State.pfwOver_of_not h)

end Sys2Proof.Machine
end

section
/-! DAWN (R375-R379): the phases D0-D5 and their ends. -/

namespace Sys2Proof.Machine

namespace State

variable {s : State}

-- Phases

theorem inPhase_iff {n : Nat} : s.inPhase n = true ↔ s.pwr.good = true ∧ s.pstate = 0 ∧ s.get fPWR_PHASE = n := by
  simp [inPhase, and_assoc]

theorem inPhase_get {n : Nat} (h : s.inPhase n = true) : s.get fPWR_PHASE = n := (inPhase_iff.1 h).2.2

theorem inPhase_out {n : Nat} (h : s.pwr.good = false ∨ s.pstate ≠ 0) : s.inPhase n = false := by
  refine Bool.eq_false_iff.2 fun hin => ?_
  obtain ⟨hgood, hstate, -⟩ := inPhase_iff.1 hin
  exact h.elim (fun h => Bool.noConfusion (h.symm.trans hgood)) fun h => h hstate

theorem nextPhase_rd (s : State) (a : Nat) : s.nextPhase.rd a = (s.put fPWR_PHASE (s.get fPWR_PHASE + 1)).rd a := by
  have hpwr (u : State) (x : Power) : ({ u with pwr := x } : State).rd a = u.rd a := rfl
  exact hpwr _ _

theorem nextPhase_phase {n : Nat} (h : s.get fPWR_PHASE = n) (hn : n < 15) : s.nextPhase.get fPWR_PHASE = n + 1 := by
  have hfits : n + 1 < 2 ^ fPWR_PHASE.width := Nat.succ_lt_succ hn
  rw [get_of_rd (s.nextPhase_rd _), h, s.get_put_fits fPWR_PHASE hfits]

theorem nextPhase_start (s : State) : s.nextPhase.pwr.phaseStart = s.nw.tick := by
  rfl

-- D0 (R375, R36)

theorem xtalTimeout_of_not (h : s.flag fGRID_SRC = true ∨ s.nw.tick < s.pwr.phaseStart + 250000 ∨ s.inPhase 0 = false) : s.xtalTimeout = s := by
  unfold xtalTimeout
  rw [if_pos]
  rcases h with h | h | h <;> simp [h]

/-- What a crystal that does not start leaves. -/
structure XtalMissing (u : State) : Prop where
  src : u.flag fGRID_SRC = true
  ok : u.flag fGRID_XTAL_OK = false
  group : u.flag (fFLT_GROUP 13) = true
  state : u.get fTIME_STATE = 4
  cause : u.get fTIME_CAUSE = 2

theorem xtalTimeout_missing (h : s.inPhase 0 = true) (hsrc : s.flag fGRID_SRC = false) (ht : s.pwr.phaseStart + 250000 ≤ s.nw.tick) :
    XtalMissing s.xtalTimeout := by
  have huntrusted (t : State) : Wr [(0x270, 0), (0x2A8, 0), (0x300C, 0), (0x5014, 0), (0x1B070, 0)] t (t.timeUntrusted 2) := timeUntrusted_wr (by decide) 2 (.refl t)
  have hset (t : State) : Wr [(0x270, 0), (0x2A0, 0), (0x2A4, 0), (0x2A8, 0), (0x5014, 0), (0x1B070, 0)] t
      ((t.logEv evGRID_LOST kDEVICE 0 []).fltSet 13 evGRID_LOST) :=
    fltSet_wr (by decide) 13 evGRID_LOST (logEv_wr (by decide) evGRID_LOST kDEVICE 0 [] (.refl t))
  have hall (t : State) (h1 : t.flag fGRID_SRC = true) (h2 : t.flag fGRID_XTAL_OK = false) :
      XtalMissing (((t.logEv evGRID_LOST kDEVICE 0 []).fltSet 13 evGRID_LOST).timeUntrusted 2) :=
    { src := ((huntrusted _).flag _ (by decide)).trans (((hset t).flag _ (by decide)).trans h1)
      ok := ((huntrusted _).flag _ (by decide)).trans (((hset t).flag _ (by decide)).trans h2)
      group := ((huntrusted _).flag _ (by decide)).trans (fltSet_flag _ _ (by decide) (by decide))
      state := (timeUntrusted_get _ (by decide)).state
      cause := (timeUntrusted_get _ (by decide)).cause }
  unfold xtalTimeout
  rw [if_neg (by simp [h, hsrc]; omega)]
  exact hall _ (flag_putFlag _ fGRID_SRC true)
    ((flag_putFlag_apart (f := fGRID_SRC) (g := fGRID_XTAL_OK) _ true).trans (flag_putFlag _ fGRID_XTAL_OK false))

theorem dawnD0_of_not (h : s.inPhase 0 = false) : s.dawnD0 = s := if_pos (by rw [h]; decide)

/-- The grid and the time base at 0. -/
def gridStarted (s : State) : State := { s with
  grid := { s.grid with running := true, tick := 0 }
  time := { s.time with sec := 0, ns := 0, frac := 0 } }

theorem dawnD0_eq (h : s.inPhase 0 = true) :
    s.dawnD0 = (if s.flag fGRID_SRC then s else s.putFlag fGRID_XTAL_OK true).gridStarted.icuClear.flashTable.nextPhase := if_neg (by rw [h]; decide)

/-- What the end of D0 leaves. -/
structure GridStarted (s u : State) : Prop where
  grid : u.grid = { s.grid with running := true, tick := 0 }
  time : u.time = { s.time with sec := 0, ns := 0, frac := 0 }
  phase : u.get fPWR_PHASE = 1
  start : u.pwr.phaseStart = s.nw.tick
  lanes : u.fspi.lanes = 1
  mhz : u.fspi.mhz = 10
  icu : u.icu = { State.reset.icu with ecc := s.icu.ecc }

theorem dawnD0_started (h : s.inPhase 0 = true) : GridStarted s s.dawnD0 := by
  have hall (t : State) (hg : t.grid = s.grid) (ht : t.time = s.time) (hi : t.icu = s.icu) (hn : t.nw = s.nw) (hp : t.get fPWR_PHASE = 0) :
      GridStarted s t.gridStarted.icuClear.flashTable.nextPhase := by
    have hphase : t.gridStarted.icuClear.flashTable.get fPWR_PHASE = 0 := hp
    have hnw : t.gridStarted.icuClear.flashTable.nw = s.nw := hn
    have hgrid : t.gridStarted.icuClear.flashTable.grid = { t.grid with running := true, tick := 0 } := rfl
    have htime : t.gridStarted.icuClear.flashTable.time = { t.time with sec := 0, ns := 0, frac := 0 } := rfl
    have hicu : t.gridStarted.icuClear.flashTable.icu = { State.reset.icu with ecc := t.icu.ecc } := rfl
    have hlanes : t.gridStarted.icuClear.flashTable.fspi.lanes = 1 ∧ t.gridStarted.icuClear.flashTable.fspi.mhz = 10 := ⟨rfl, rfl⟩
    generalize t.gridStarted.icuClear.flashTable = u at hphase hnw hgrid htime hicu hlanes
    have hk : Kept [.regs, .pwr] u u.nextPhase := nextPhase_kept (by decide) (.refl u)
    exact
      { grid := by rw [hk.grid_eq, hgrid, hg]
        time := by rw [hk.time_eq, htime, ht]
        phase := nextPhase_phase hphase (by decide)
        start := by rw [nextPhase_start, hnw]
        lanes := by rw [hk.fspi_eq, hlanes.1]
        mhz := by rw [hk.fspi_eq, hlanes.2]
        icu := by rw [hk.icu_eq, hicu, hi] }
  rw [dawnD0_eq h]
  split
  · exact hall s rfl rfl rfl rfl (inPhase_get h)
  · exact hall (s.putFlag fGRID_XTAL_OK true) (putFlag_grid _ _ _) (putFlag_time _ _ _) (putFlag_icu _ _ _) (putFlag_nw _ _ _)
      ((get_putFlag_addr (f := fGRID_XTAL_OK) s true).trans (inPhase_get h))

-- D1 (R375, R339)

theorem dawnD1_of_not (bad : Nat) (h : s.inPhase 1 = false) : s.dawnD1 true bad = s := if_pos (by rw [h]; decide)

theorem dawnD1_failed (bad : Nat) (h : s.inPhase 1 = true) : s.dawnD1 false bad = s.midnightEnter 8 := by
  unfold dawnD1
  rw [if_neg (by rw [h]; decide), if_pos (by rfl)]

/-- The identity registers read from OTP, the seal latched. -/
def identified (s : State) : State :=
  let s := (s.wr aDEV_UID_LO Config.devUid).wr aDEV_UID_HI (Config.devUid / 2 ^ 32)
  let s := (s.wr aRING_MAC_LO Config.ringMac).wr aRING_MAC_HI (Config.ringMac / 2 ^ 32 % 2 ^ 16)
  s.sealLatch

theorem identified_kept (s : State) : Kept [.regs, .evt] s s.identified :=
  sealLatch_kept (by decide) (wr_kept (by decide) _ _ (wr_kept (by decide) _ _ (wr_kept (by decide) _ _ (wr_kept (by decide) _ _ (.refl s)))))

theorem identified_nwStat (s : State) : NwStat s s.identified := by
  have hseal (t : State) : NwStat t t.sealLatch := by
    have hput (u : State) : NwStat u ((((((u.put fSEAL_LATCHED u.sto.sealWord).putFlag fSTO_VALID (sealValid u.sto.sealWord)).putFlag fSTO_RESTART
        (bitOf u.sto.sealWord 6)).put fSTO_DISC (bitsOf u.sto.sealWord 4 2)).put fSTO_MAP (bitsOf u.sto.sealWord 0 4)).discN) :=
      (discN_wr (R := [(0x6010, 0), (0x6014, 0)]) (by decide) (put_wr (by decide) (put_wr (by decide) (putFlag_wr (by decide) (putFlag_wr (by decide)
        (put_wr (by decide) (.refl u))))))).nwStat
    unfold sealLatch
    dsimp only
    split
    · exact hput t
    · exact (hput t).trans (enqueue_nwStat _ _)
  have hwr (t : State) : Wr [(0x254, 0), (0x258, 0), (0x7010, 0), (0x7014, 0)] t ((((t.wr aDEV_UID_LO Config.devUid).wr aDEV_UID_HI
      (Config.devUid / 2 ^ 32)).wr aRING_MAC_LO Config.ringMac).wr aRING_MAC_HI (Config.ringMac / 2 ^ 32 % 2 ^ 16)) :=
    wr_wr (by decide) (wr_wr (by decide) (wr_wr (by decide) (wr_wr (by decide) (.refl t))))
  exact (hwr s).nwStat.trans (hseal _)

theorem identified_uid (s : State) : s.identified.rd aDEV_UID_LO = BitVec.ofNat 32 Config.devUid
    ∧ s.identified.rd aDEV_UID_HI = BitVec.ofNat 32 (Config.devUid / 2 ^ 32) := by
  have hseal (t : State) : Wr [(0x2A8, 0), (0x5014, 0), (0x6010, 0), (0x6014, 0)] t t.sealLatch := sealLatch_wr (by decide) (.refl t)
  have hmac (t : State) : Wr [(0x7010, 0), (0x7014, 0)] t ((t.wr aRING_MAC_LO Config.ringMac).wr aRING_MAC_HI (Config.ringMac / 2 ^ 32 % 2 ^ 16)) :=
    wr_wr (by decide) (wr_wr (by decide) (.refl t))
  have huid (t : State) : ((t.wr aDEV_UID_LO Config.devUid).wr aDEV_UID_HI (Config.devUid / 2 ^ 32)).rd aDEV_UID_LO = BitVec.ofNat 32 Config.devUid :=
    (rd_wr_other _ _ (by decide)).trans (rd_wr_same _ _ _)
  unfold identified
  dsimp only
  rw [(hseal _).eq _ (by decide), (hmac _).eq _ (by decide), huid, (hseal _).eq _ (by decide), (hmac _).eq _ (by decide), rd_wr_same]
  exact ⟨rfl, rfl⟩

theorem dawnD1_good (h : s.inPhase 1 = true) (hmn : s.midnight = false) : s.dawnD1 true 0 = s.identified.lockRestart.flashQuad.nextPhase := by
  have hlink (t : State) : t.linkTest 0 = t := if_pos rfl
  have hstill : s.identified.midnight = false := by
    rw [← hmn, midnight, s.identified_nwStat fNW_MN_CAUSE rfl (by decide), midnight]
  have heq : s.dawnD1 true 0 = if (s.identified.linkTest 0).midnight then s.identified.linkTest 0
      else (s.identified.linkTest 0).lockRestart.flashQuad.nextPhase := by
    unfold dawnD1
    rw [if_neg (by rw [h]; decide), if_neg (by decide)]
    rfl
  rw [heq, hlink, if_neg (by rw [hstill]; decide)]

/-- What the good end of D1 leaves. -/
structure Identified (s u : State) : Prop where
  lo : u.rd aDEV_UID_LO = BitVec.ofNat 32 Config.devUid
  hi : u.rd aDEV_UID_HI = BitVec.ofNat 32 (Config.devUid / 2 ^ 32)
  phase : u.get fPWR_PHASE = 2
  flash : u.fspi = { s.fspi with lanes := 4, mhz := 40 }
  sec : u.sec = { s.sec with lockEnd := if lockout s.sec.fails = 0 then 0 else s.nw.tick + lockout s.sec.fails * tps }
  only : Only [.regs, .evt, .pwr, .sec, .fspi] s u

theorem dawnD1_identified (h : s.inPhase 1 = true) (hmn : s.midnight = false) : Identified s (s.dawnD1 true 0) := by
  have hkept := s.identified_kept
  obtain ⟨hlo, hhi⟩ := s.identified_uid
  have hphase : s.identified.get fPWR_PHASE = 1 := by
    have hw : Wr [(0x254, 0), (0x258, 0), (0x2A8, 0), (0x5014, 0), (0x6010, 0), (0x6014, 0), (0x7010, 0), (0x7014, 0)] s s.identified :=
      sealLatch_wr (by decide) (wr_wr (by decide) (wr_wr (by decide) (wr_wr (by decide) (wr_wr (by decide) (.refl s)))))
    exact (hw.get _ (by decide)).trans (inPhase_get h)
  rw [dawnD1_good h hmn]
  generalize s.identified = t at hkept hlo hhi hphase ⊢
  have hsec : t.lockRestart.flashQuad.sec = { t.sec with lockEnd := if lockout t.sec.fails = 0 then 0 else t.nw.tick + lockout t.sec.fails * tps } := rfl
  have hflash : t.lockRestart.flashQuad.fspi = { t.fspi with lanes := 4, mhz := 40 } := rfl
  have hp : t.lockRestart.flashQuad.get fPWR_PHASE = 1 := hphase
  have hq : Kept [.sec, .fspi] t t.lockRestart.flashQuad := flashQuad_kept (by decide) (lockRestart_kept (by decide) (.refl t))
  have hrd (a : Nat) : t.lockRestart.flashQuad.rd a = t.rd a := rfl
  generalize t.lockRestart.flashQuad = u at hsec hflash hp hq hrd ⊢
  have hn : Kept [.regs, .pwr] u u.nextPhase := nextPhase_kept (by decide) (.refl u)
  have hw : Wr [(0x270, 0)] u u.nextPhase := nextPhase_wr (by decide) (.refl u)
  exact
    { lo := ((hw.eq _ (by decide)).trans (hrd _)).trans hlo
      hi := ((hw.eq _ (by decide)).trans (hrd _)).trans hhi
      phase := nextPhase_phase hp (by decide)
      flash := by rw [hn.fspi_eq, hflash, hkept.fspi_eq]
      sec := by rw [hn.sec_eq, hsec, hkept.sec_eq, hkept.nw_eq]
      only := ((hkept.mono (by decide)).trans ((hq.mono (by decide)).trans (hn.mono (by decide)))).only }

-- D2 (R344, R377)

theorem dawnD2_of_not (h : s.inPhase 2 = false) : s.dawnD2 = s := if_pos (by rw [h]; decide)

theorem flash_bootSlot (s : State) (w : List (Nat × Nat)) : (s.flash w).bootSlot = s.bootSlot := rfl

theorem dawnD2_none (h : s.inPhase 2 = true) (hb : s.bootSlot = none) : ∃ w, s.dawnD2 = (s.flash w).put fPWR_HOLD 1 := by
  unfold dawnD2
  rw [if_neg (by rw [h]; decide)]
  dsimp only
  rw [flash_bootSlot, hb]
  exact ⟨_, rfl⟩

/-- A firmware slot taken, its image decrypted (R344, R345). -/
def booted (s : State) (i : Nat) (second : Bool) : State :=
  ((s.put fPWR_HOLD 0).setSec { s.sec with running := i, fallback := second }).fwLoad (s.fwSlot i).image

/-- What follows on the boot of a slot: its record, the heartbeats' start and the safety process. -/
def bootTold (s : State) (i : Nat) (second : Bool) : State :=
  let s := if second then s.logFw evFW_SLOT_FAIL kDEVICE 0 [1 - i] else s
  let s := s.setNw { s.nw with sc0Beat := s.nw.tick, sc1Beat := s.nw.tick }
  s.safetyEpoch.nextPhase

theorem dawnD2_some {i : Nat} {b : Bool} (h : s.inPhase 2 = true) (hb : s.bootSlot = some (i, b)) :
    ∃ w, s.dawnD2 = ((s.flash w).booted i b).bootTold i b := by
  unfold dawnD2
  rw [if_neg (by rw [h]; decide)]
  dsimp only
  rw [flash_bootSlot, hb]
  exact ⟨_, rfl⟩

theorem bootTold_sec (s : State) (i : Nat) (b : Bool) : (s.bootTold i b).sec = s.sec :=
  (nextPhase_kept (T := [.regs, .icu, .evt, .nw, .mem, .pwr, .obs, .sto]) (by decide) (safetyEpoch_kept (by decide)
    (setNw_kept (by decide) _ (.ite (logFw_kept (by decide) evFW_SLOT_FAIL kDEVICE 0 [1 - i] (.refl s)) (.refl s))))).sec_eq

theorem booted_sec (s : State) (i : Nat) (b : Bool) : (s.booted i b).sec = { s.sec with
    running := i, fallback := b, secrets := true, fwKey := some (Config.unwrapKey Config.kFww (Config.fwWrapped (s.fwSlot i).image)),
    image := some (Config.aesGcm (Config.unwrapKey Config.kFww (Config.fwWrapped (s.fwSlot i).image)) (Config.fwBody (s.fwSlot i).image)) } := by
  have hset (t : State) (x : Sec) : (t.setSec x).sec = x := rfl
  rw [booted, fwLoad, hset, hset]

/-- What the boot of a slot leaves. -/
structure Booted (i : Nat) (b : Bool) (s u : State) : Prop where
  running : u.sec.running = i
  fallback : u.sec.fallback = b
  lockEnd : u.sec.lockEnd = s.sec.lockEnd
  image : u.sec.image = some (Config.aesGcm (Config.unwrapKey Config.kFww (Config.fwWrapped (s.fwSlot i).image)) (Config.fwBody (s.fwSlot i).image))

theorem dawnD2_booted {i : Nat} {b : Bool} (h : s.inPhase 2 = true) (hb : s.bootSlot = some (i, b)) : Booted i b s s.dawnD2 := by
  obtain ⟨w, heq⟩ := dawnD2_some h hb
  have hslot : (s.flash w).fwSlot i = s.fwSlot i := rfl
  have hsec : (s.flash w).sec = s.sec := rfl
  have hall := (bootTold_sec _ i b).trans (booted_sec (s.flash w) i b)
  rw [← heq, hslot, hsec] at hall
  exact ⟨by rw [hall], by rw [hall], by rw [hall], by rw [hall]⟩

-- D3 (R369, R375)

theorem dawnD3_of_not (h : s.inPhase 3 = false) : s.dawnD3 = s := if_pos (by rw [h]; decide)

theorem dawnD3_held (h : s.inPhase 3 = true) (hhold : s.get fPWR_HOLD = 2) (hnone : s.flag fCFG_NONE = true) : s.dawnD3 = s := by
  unfold dawnD3
  rw [if_neg (by rw [h]; decide), if_pos hhold, if_pos hnone]

/-- The records of the slots that failed before a good one. -/
def slotsFailed (s : State) : State :=
  (s.loadable.takeWhile fun i => !(s.cfgSlot i).good).foldl (fun s i => s.logFw evCFG_SLOT_FAIL kCFG i [i, (s.cfgSlot i).gen]) s

/-- Dawn held without a configuration. -/
def configMissing (s : State) : State := ((s.slotsFailed.logFw evCFG_NONE kCFG 0 []).put fPWR_HOLD 2).putFlag fCFG_NONE true

theorem slotsFailed_kept (s : State) : Kept [.regs, .evt] s s.slotsFailed :=
  Kept.fold (fun _ i h => logFw_kept (by decide) evCFG_SLOT_FAIL kCFG i _ h) (.refl s)

theorem slotsFailed_cfgSlot (s : State) (i : Nat) : s.slotsFailed.cfgSlot i = s.cfgSlot i := by
  rw [cfgSlot, s.slotsFailed_kept.cfg_eq, cfgSlot]

theorem loadConfig_none (h : (s.loadable.find? fun i => (s.slotsFailed.cfgSlot i).good) = none) : s.loadConfig = (s.configMissing, false) := by
  unfold slotsFailed at h
  unfold loadConfig configMissing slotsFailed
  dsimp only
  rw [h]

theorem loadConfig_some {i : Nat} (h : (s.loadable.find? fun i => (s.slotsFailed.cfgSlot i).good) = some i) :
    s.loadConfig = (s.slotsFailed.loadSlot i, true) := by
  unfold slotsFailed at h
  unfold loadConfig slotsFailed
  dsimp only
  rw [h]

theorem dawnD3_none (h : s.inPhase 3 = true) (hhold : s.get fPWR_HOLD ≠ 2) (hbad : ∀ i ∈ s.loadable, (s.cfgSlot i).good = false) :
    s.dawnD3 = s.configMissing.ringStart := by
  have hfind : (s.loadable.find? fun i => (s.slotsFailed.cfgSlot i).good) = none :=
    List.find?_eq_none.2 fun i hi => by rw [slotsFailed_cfgSlot, hbad i hi]; decide
  unfold dawnD3
  rw [if_neg (by rw [h]; decide), if_neg hhold, loadConfig_none hfind]

/-- What the end of D3 leaves without a good configuration. -/
structure ConfigMissing (s u : State) : Prop where
  hold : u.get fPWR_HOLD = 2
  none : u.flag fCFG_NONE = true
  phase : u.get fPWR_PHASE = 3
  cfg : u.cfg = s.cfg

theorem dawnD3_missing (h : s.inPhase 3 = true) (hhold : s.get fPWR_HOLD ≠ 2) (hbad : ∀ i ∈ s.loadable, (s.cfgSlot i).good = false) :
    ConfigMissing s s.dawnD3 := by
  have hlogs : Wr [(0x2A8, 0), (0x5014, 0)] s (s.slotsFailed.logFw evCFG_NONE kCFG 0 []) :=
    logFw_wr (by decide) evCFG_NONE kCFG 0 [] (Wr.fold (fun _ i h => logFw_wr (by decide) evCFG_SLOT_FAIL kCFG i _ h) (.refl s))
  have hkept : Kept [.regs, .evt] s (s.slotsFailed.logFw evCFG_NONE kCFG 0 []) :=
    logFw_kept (by decide) evCFG_NONE kCFG 0 [] s.slotsFailed_kept
  have hring (t : State) : Wr [(0x3040, 4), (0x7000, 4), (0x7008, 0), (0x7040, 4)] t t.ringStart := ringStart_wr (by decide) (.refl t)
  have hphase := (hlogs.get fPWR_PHASE (by decide)).trans (inPhase_get h)
  rw [dawnD3_none h hhold hbad, configMissing]
  generalize s.slotsFailed.logFw evCFG_NONE kCFG 0 [] = t at hkept hphase
  exact
    { hold := ((hring _).get _ (by decide)).trans ((get_putFlag_addr (f := fCFG_NONE) _ true).trans (t.get_put_fits fPWR_HOLD (by decide)))
      none := ((hring _).flag _ (by decide)).trans (flag_putFlag _ fCFG_NONE true)
      phase := (((hring _).get _ (by decide)).trans ((get_putFlag_addr (f := fCFG_NONE) _ true).trans
        (t.get_put_apart (f := fPWR_HOLD) 2 (by decide) (by rfl) (by decide)))).trans hphase
      cfg := (ringStart_kept (T := [.regs, .evt, .ring, .ptp]) (by decide)
        (putFlag_kept (by decide) fCFG_NONE true (put_kept (by decide) fPWR_HOLD 2 (hkept.mono (by decide))))).cfg_eq }

-- The log's start (R425)

theorem enqueue_started (s : State) (r : EvtRec) : (s.enqueue r).evt.started = s.evt.started := by
  unfold enqueue
  split
  · unfold nwLog
    split
    · dsimp only
      rw [put_evt]
    · rw [bump_evt]
  split
  · rfl
  · rw [bump_evt]

theorem lifeCount_started (s : State) (base o n : Nat) : (s.lifeCount base o n).evt.started = s.evt.started := by
  have hraise (t : State) : (t.raise srcLIFE_SAT).evt = t.evt := (raise_kept (T := [.regs, .icu, .nw, .pwr]) (by decide) srcLIFE_SAT (.refl t)).evt_eq
  have hsat (t : State) : (t.bumpSat fLIFE_NSAT).evt = t.evt := (bumpSat_kept (T := [.regs]) (by decide) fLIFE_NSAT (.refl t)).evt_eq
  have hlog (t : State) (r : List Nat) : ((t.bumpSat fLIFE_NSAT).logEv evLIFETIME_SAT kDEVICE 0 r).evt.started = t.evt.started := by
    rw [logEv, logAt, enqueue_started, hsat]
  have hmem (t : State) (a : Nat) (l : List Byte) : (t.memWrite a l).evt = t.evt := (memWrite_kept (T := [.mem]) (by decide) a l (.refl t)).evt_eq
  have hput (t : State) (a : Nat) (b : Byte) : (t.memPut a b).evt = t.evt := rfl
  have hite {c : Prop} [Decidable c] {t u : State} (ht : t.evt.started = s.evt.started) (hu : u.evt.started = s.evt.started) :
      (if c then t else u).evt.started = s.evt.started := by
    split
    · exact ht
    · exact hu
  unfold lifeCount
  dsimp only
  refine hite ?_ ?_
  · rw [hraise, hlog, hput, hmem]
  · rw [hmem]

theorem writeRec_started (s : State) (r : EvtRec) : (s.writeRec r).evt.started = s.evt.started := by
  have hcap (t : State) : (t.capOnRecord r).evt = t.evt := (capOnRecord_kept (T := [.regs, .cap]) (by decide) r (.refl t)).evt_eq
  have hraise (t : State) : (t.raise srcEVT_LOG).evt = t.evt := (raise_kept (T := [.regs, .icu, .nw, .pwr]) (by decide) srcEVT_LOG (.refl t)).evt_eq
  have hthresh (t : State) : t.evtThreshold.evt.started = t.evt.started := by
    unfold evtThreshold
    dsimp only
    split
    · rw [hraise]
    · rfl
  have hcount (t : State) : (match lifeOfEvent r with | some (b, o) => t.lifeCount b o 1 | none => t).evt.started = t.evt.started := by
    split
    · exact t.lifeCount_started _ _ 1
    · rfl
  have htail (t : State) (ht : Kept [.regs, .mem] s t) :
      ((match lifeOfEvent r with | some (b, o) => t.evtThreshold.lifeCount b o 1 | none => t.evtThreshold).capOnRecord r).evt.started
        = s.evt.started := by
    rw [hcap, hcount, hthresh, ht.evt_eq]
  unfold writeRec
  exact htail _ (bump_kept (by decide) _ (memWrite_kept (by decide) _ _ (.ite (bump_kept (by decide) _ (.ite (.refl s) (bump_kept (by decide) _ (.refl s))))
    (.refl s))))

theorem flushNw_started (s : State) : s.flushNw.evt.started = s.evt.started := by
  have hall (l : List EvtRec) (t : State) : (l.foldl writeRec t).evt.started = t.evt.started := by
    induction l generalizing t with
    | nil => rfl
    | cons r l ih => rw [List.foldl_cons, ih, writeRec_started]
  have hput (x : EvtLog) (hx : x.started = s.evt.started) : (({ s with evt := x } : State).put fNW_NWBUF 0).evt.started = s.evt.started := by
    rw [put_evt, hx]
  unfold flushNw
  dsimp only
  split
  · exact (hall _ _).trans (hput _ rfl)
  · rw [writeRec_started]
    exact (hall _ _).trans (hput _ rfl)

theorem logStart_started (s : State) : s.logStart.evt.started = true := by
  have hall (t : State) (r : EvtRec) (h : t.evt.started = true) : (t.writeRec r).flushNw.evt.started = true := by
    rw [flushNw_started, writeRec_started, h]
  exact hall _ _ rfl

-- D3 with a configuration

/-- The records restored and the log started. -/
def recordsRestored (s : State) : State := (((s.put fPWR_HOLD 0).restore).lifeAcc (lifeDevice + 56) 1).logStart

/-- The lamp epoch is now, and no converter's grid has started. -/
def lampEpoch (s : State) : State := { s with dim := { s.dim with epoch := s.grid.tick }, adc := { s.adc with gridAt := [] } }

theorem dawnConfigured_eq (s : State) : s.dawnConfigured = (s.recordsRestored.lampEpoch.refEnable 0xFF).nextPhase := rfl

theorem dawnConfigured_started (s : State) : s.dawnConfigured.evt.started = true ∧ s.dawnConfigured.dim.epoch = s.grid.tick := by
  have hrest (t : State) : Kept [.regs, .pwr, .adc] t ((t.refEnable 0xFF).nextPhase) := nextPhase_kept (by decide) (refEnable_kept (by decide) _ (.refl t))
  have hlog : s.recordsRestored.evt.started = true := logStart_started _
  have hgrid : s.recordsRestored.grid = s.grid :=
    (logStart_kept (T := [.regs, .icu, .evt, .nw, .mem, .cap, .life, .pwr, .fspi]) (by decide) (lifeAcc_kept (by decide) _ 1
      (restore_kept (by decide) (put_kept (by decide) _ _ (.refl s))))).grid_eq
  have hepoch (t : State) : t.lampEpoch.evt = t.evt ∧ t.lampEpoch.dim.epoch = t.grid.tick := ⟨rfl, rfl⟩
  rw [dawnConfigured_eq, (hrest _).evt_eq, (hrest _).dim_eq, (hepoch _).1, (hepoch _).2, hgrid]
  exact ⟨hlog, rfl⟩

theorem dawnD3_configured (h : s.inPhase 3 = true) (hhold : s.get fPWR_HOLD ≠ 2) (hgood : ∃ i ∈ s.loadable, (s.cfgSlot i).good = true) :
    s.dawnD3.evt.started = true ∧ s.dawnD3.dim.epoch = s.grid.tick := by
  have hload : ∃ t, s.loadConfig = (t, true) ∧ t.grid = s.grid := by
    cases hfind : s.loadable.find? fun i => (s.slotsFailed.cfgSlot i).good with
    | none =>
      obtain ⟨i, hi, hg⟩ := hgood
      exact absurd ((congrArg CfgSlot.good (s.slotsFailed_cfgSlot i)).trans hg) (List.find?_eq_none.1 hfind i hi)
    | some i =>
      exact ⟨_, loadConfig_some hfind, (loadSlot_kept (T := [.regs, .time, .icu, .evt, .nw, .mem, .life, .pwr, .obs, .rule, .cfg, .chans, .res, .dim, .adc, .ring, .ptp,
        .fspi]) (by decide) i (s.slotsFailed_kept.mono (by decide))).grid_eq⟩
  obtain ⟨t, hload, hgrid⟩ := hload
  have hring : t.ringStart.grid = t.grid := (ringStart_kept (T := [.regs, .ring, .ptp]) (by decide) (.refl t)).grid_eq
  have heq : s.dawnD3 = t.ringStart.dawnConfigured := by
    unfold dawnD3
    rw [if_neg (by rw [h]; decide), if_neg hhold, hload]
  rw [heq, ← hgrid, ← hring]
  exact dawnConfigured_started _

-- D4 (R375, R378)

theorem dawnD4_of_not (h : s.inPhase 4 = false ∨ s.boost.ended = false ∨ ∃ p < 8, s.pairSettled p = false) : s.dawnD4 = s := by
  unfold dawnD4
  dsimp only
  rw [if_pos]
  rcases h with h | h | ⟨p, hp, h⟩
  · simp [h]
  · simp [h]
  · have hall : (List.range 8).all s.pairSettled = false := List.all_eq_false.2 ⟨p, List.mem_range.2 hp, by rw [h]; decide⟩
    simp [hall]

theorem dawnD4_eq (h : s.inPhase 4 = true) (hended : s.boost.ended = true) (hpairs : ∀ p < 8, s.pairSettled p = true)
    (hbanks : ∀ n < 8, (s.bank n).closed = false ∨ (s.bank n).at_ + 375 ≤ s.grid.tick) : ∃ x,
      s.dawnD4 = { s.nextPhase with rule := { s.nextPhase.rule with start := s.nextPhase.grid.tick }, adc := x } := by
  have hall : (List.range 8).all s.pairSettled = true := List.all_eq_true.2 fun p hp => hpairs p (List.mem_range.1 hp)
  have hany : ((List.range 8).any fun n => (s.bank n).closed && decide (s.grid.tick < (s.bank n).at_ + 375)) = false :=
    List.any_eq_false.2 fun n hn => by
      rcases hbanks n (List.mem_range.1 hn) with hc | hc
      · simp [hc]
      · simp only [Bool.and_eq_true, decide_eq_true_eq, not_and, Nat.not_lt]
        exact fun _ => hc
  unfold dawnD4
  dsimp only
  rw [if_neg (by rw [h, hended, hall, hany]; decide)]
  exact ⟨_, rfl⟩

theorem dawnD4_ended (h : s.inPhase 4 = true) (hended : s.boost.ended = true) (hpairs : ∀ p < 8, s.pairSettled p = true)
    (hbanks : ∀ n < 8, (s.bank n).closed = false ∨ (s.bank n).at_ + 375 ≤ s.grid.tick) :
    s.dawnD4.get fPWR_PHASE = 5 ∧ s.dawnD4.rule.start = s.grid.tick := by
  obtain ⟨x, heq⟩ := dawnD4_eq h hended hpairs hbanks
  have hget (t : State) (y : RuleEng) : ({ t with rule := y, adc := x } : State).get fPWR_PHASE = t.get fPWR_PHASE := rfl
  have hgrid : s.nextPhase.grid = s.grid := (nextPhase_kept (T := [.regs, .pwr]) (by decide) (.refl s)).grid_eq
  have hphase := nextPhase_phase (inPhase_get h) (by decide)
  rw [heq, hget]
  exact ⟨hphase, congrArg Grid.tick hgrid⟩

end State

theorem exec_xtal25StartTimeout (s : State) : exec .xtal25StartTimeout s = .next s.xtalTimeout := rfl
theorem exec_dawnD0End (s : State) : exec .dawnD0End s = .next s.dawnD0 := rfl
theorem exec_dawnD1End (ok : Bool) (bad : BitVec 32) (s : State) : exec (.dawnD1End ok bad) s = .next (s.dawnD1 ok bad.toNat) := rfl
theorem exec_dawnD2End (s : State) : exec .dawnD2End s = .next s.dawnD2 := rfl
theorem exec_dawnD3End (s : State) : exec .dawnD3End s = .next s.dawnD3 := rfl
theorem exec_dawnD4End (s : State) : exec .dawnD4End s = .next s.dawnD4 := rfl
theorem exec_dawnLate (s : State) : exec .dawnLate s
    = if s.inPhase 5 && s.dawnOver then .next { s with pwr := { s.pwr with late := true } } else .next s := rfl

/-- No event of Dawn acts outside Dawn. -/
theorem dawn_outside {s : State} (h : s.pwr.good = false ∨ s.pstate ≠ 0) {c : Instr}
    (hc : c ∈ [Instr.xtal25StartTimeout, .dawnD0End, .dawnD1End true 0, .dawnD2End, .dawnD3End, .dawnD4End, .dawnLate]) :
    Completes c s (fun u => u = s) := by
  have hout (n : Nat) := State.inPhase_out (n := n) h
  simp only [List.mem_cons, List.not_mem_nil, or_false] at hc
  rcases hc with rfl | rfl | rfl | rfl | rfl | rfl | rfl
  · exact Completes.of_eq (exec_xtal25StartTimeout s) (State.xtalTimeout_of_not (.inr (.inr (hout 0))))
  · exact Completes.of_eq (exec_dawnD0End s) (State.dawnD0_of_not (hout 0))
  · exact Completes.of_eq (exec_dawnD1End true 0 s) (State.dawnD1_of_not _ (hout 1))
  · exact Completes.of_eq (exec_dawnD2End s) (State.dawnD2_of_not (hout 2))
  · exact Completes.of_eq (exec_dawnD3End s) (State.dawnD3_of_not (hout 3))
  · exact Completes.of_eq (exec_dawnD4End s) (State.dawnD4_of_not (.inl (hout 4)))
  · exact Completes.of_eq ((exec_dawnLate s).trans (if_neg (by rw [hout 5]; exact Bool.false_ne_true))) rfl

/-- Settles O33: each phase's end is taken in its stages, and what follows on a stage keeps what the stage has set. -/
theorem dawnPhases : Obligations.DawnPhases := by
  unfold Obligations.DawnPhases
  intro s
  refine ⟨fun h hsrc ht => ?crystal, fun h => ?crystalIn, fun h => ?grid, fun h hmn => ?fails, fun h hmn => ?identity, fun h hb => ?noSlot,
    fun i b h hb => ?boots, fun h hhold hbad => ?noConfig, fun h hhold hgood => ?configured, fun h hhold hnone => ?held,
    fun h hended hpairs hbanks => ?runs, fun h => ?unsettled, fun h hover => ?late, fun h c hc => dawn_outside h hc⟩
  case crystal =>
    have hx := State.xtalTimeout_missing h hsrc ht
    exact Completes.of_eq (exec_xtal25StartTimeout s) ⟨hx.src, hx.ok, hx.group, hx.state, hx.cause, (State.xtalTimeout_kept (by decide) (.refl s)).only⟩
  case crystalIn => exact Completes.of_eq (exec_xtal25StartTimeout s) (State.xtalTimeout_of_not (h.imp_right .inl))
  case grid =>
    have hg := State.dawnD0_started h
    exact Completes.of_eq (exec_dawnD0End s) ⟨hg.grid, hg.time, hg.phase, hg.start, hg.lanes, hg.mhz, hg.icu,
      (State.dawnD0_kept (by decide) (.refl s)).only, (State.dawnD0_wr (by decide) (.refl s)).onlyRegs⟩
  case fails =>
    have hl := State.midnightEnter_latched hmn (k := 8) (by decide)
    refine Completes.of_eq ((exec_dawnD1End false 0 s).trans (by rw [State.dawnD1_failed _ h])) ⟨hl.cause, hl.state, ?_⟩
    exact State.midnightEnter_midnight s (by decide) (by decide)
  case identity =>
    have hi := State.dawnD1_identified h hmn
    exact Completes.of_eq (exec_dawnD1End true 0 s) ⟨hi.lo, hi.hi, hi.phase, hi.flash, hi.sec, hi.only⟩
  case noSlot =>
    obtain ⟨w, heq⟩ := State.dawnD2_none h hb
    have hphase : (s.flash w).get fPWR_PHASE = 2 := State.inPhase_get h
    have hkept : Kept [.regs, .fspi] s ((s.flash w).put fPWR_HOLD 1) := State.put_kept (by decide) _ _ (State.flash_kept (by decide) w (.refl s))
    have hwr : Wr [(0x270, 0)] s ((s.flash w).put fPWR_HOLD 1) := State.put_wr (by decide) (.upd (.refl s))
    refine Completes.of_eq ((exec_dawnD2End s).trans (by rw [heq])) ⟨State.get_put_fits _ fPWR_HOLD (by decide), ?_, hkept.only, hwr.onlyRegs⟩
    exact ((s.flash w).get_put_apart (f := fPWR_HOLD) 1 (by decide) (by rfl) (by decide)).trans hphase
  case boots =>
    have hb := State.dawnD2_booted h hb
    exact Completes.of_eq (exec_dawnD2End s) ⟨hb.running, hb.fallback, hb.lockEnd, hb.image, (State.dawnD2_kept (by decide) (.refl s)).only⟩
  case noConfig =>
    have hm := State.dawnD3_missing h hhold hbad
    exact Completes.of_eq (exec_dawnD3End s) ⟨hm.hold, hm.none, hm.phase, hm.cfg⟩
  case configured =>
    obtain ⟨hstarted, hepoch⟩ := State.dawnD3_configured h hhold hgood
    have hk := State.dawnD3_kept (T := [.regs, .time, .icu, .evt, .nw, .mem, .cap, .life, .pwr, .obs, .rule, .cfg, .chans, .res, .dim, .adc, .ring, .ptp, .fspi])
      (by decide) (.refl s)
    exact Completes.of_eq (exec_dawnD3End s) ⟨hstarted, hepoch, hk.sec_eq, hk.grid_eq⟩
  case held => exact Completes.of_eq (exec_dawnD3End s) (State.dawnD3_held h hhold hnone)
  case runs =>
    obtain ⟨hphase, hstart⟩ := State.dawnD4_ended h hended hpairs hbanks
    exact Completes.of_eq (exec_dawnD4End s) ⟨hphase, hstart, (State.dawnD4_kept (by decide) (.refl s)).only,
      (State.dawnD4_wr (by decide) (.refl s)).onlyRegs⟩
  case unsettled => exact Completes.of_eq (exec_dawnD4End s) (State.dawnD4_of_not (.inr h))
  case late => exact Completes.of_eq ((exec_dawnLate s).trans (if_pos (by rw [h, hover]; decide))) ⟨rfl, (Kept.upd_pwr (.refl s) (by decide)).only⟩

end Sys2Proof.Machine
end

section
/-! DUSK AND THE MORNING CHECK (R383-R395): entry, wake, resume, and the check's parts. -/

namespace Sys2Proof.Machine

namespace State

variable {s : State} {n : Nat}

-- What wakes the part (R357, R385)

theorem raise_quiet (hd : s.inDusk = true) (hr : risesInDusk n = false) : s.raise n = s := by
  unfold raise
  rw [if_pos (c := (s.inDusk && !risesInDusk n) = true) (by rw [hd, hr]; decide), ite_self]

theorem raise_unlisted (h : sourceListed n = false) : s.raise n = s := if_pos (by rw [h]; decide)

theorem raise_listed (h : sourceListed n = true) (hd : s.inDusk = false ∨ risesInDusk n = true) :
    s.raise n = ((s.pendSet (3 + n / 32) (BitVec.ofNat 32 (2 ^ (n % 32)))).nwWake n).refreshIcu := by
  unfold raise
  rw [if_neg (by rw [h]; decide), if_neg]
  rcases hd with hd | hd <;> simp [hd]

theorem duskExit_of_not (cause : Nat) (h : s.pstate ≠ 3) : s.duskExit cause = s := if_neg h

/-- What the start of the exit from Dusk leaves. -/
structure Waking (cause : Nat) (s u : State) : Prop where
  state : u.pstate = 4
  wake : u.get fPWR_WAKE = cause
  tick : u.pwr.wakeTick = s.nw.tick
  woke : u.flag fNWSTAT_WOKE = false
  resumed : u.pwr.resumed = false

theorem duskExit_waking {cause : Nat} (hc : cause < 4) (h : s.pstate = 3) : Waking cause s (s.duskExit cause) := by
  have hend (t : State) (x : Power) (y : Nightwatch) (z : Icu) (f : Fld) : ({ t with pwr := x, nw := y, icu := z } : State).get f = t.get f := rfl
  have hflag (t : State) (x : Power) (y : Nightwatch) (z : Icu) (f : Fld) : ({ t with pwr := x, nw := y, icu := z } : State).flag f = t.flag f := rfl
  have hput (t : State) : ((t.put fPWR_STATE 4).put fPWR_WAKE cause).get fPWR_STATE = 4 :=
    (get_put_apart _ (f := fPWR_WAKE) (g := fPWR_STATE) cause (by decide) (by rfl) (by decide)).trans (t.get_put_fits fPWR_STATE (by decide))
  have hwake (t : State) : ((t.put fPWR_STATE 4).put fPWR_WAKE cause).get fPWR_WAKE = cause := get_put_fits _ fPWR_WAKE hc
  unfold duskExit
  rw [if_pos h]
  dsimp only
  exact
    { state := (hend _ _ _ _ _).trans ((get_putFlag_addr (f := fNWSTAT_WOKE) _ false).trans (hput s))
      wake := (hend _ _ _ _ _).trans ((get_putFlag_addr (f := fNWSTAT_WOKE) _ false).trans (hwake s))
      tick := by rw [putFlag_nw, put_nw, put_nw]
      woke := (hflag _ _ _ _ _).trans (flag_putFlag _ fNWSTAT_WOKE false)
      resumed := rfl }

/-- A selected source in Dusk is shown as what woke the part. -/
theorem nwWake_woken (hn : n < 256) (hsel : s.nwSelected n = true) (h : s.pstate = 3) : (s.nwWake n).pstate = 4
    ∧ (s.nwWake n).get fPWR_WAKE = 2 ∧ (s.nwWake n).flag fNWSTAT_WOKE = true ∧ (s.nwWake n).get fNWSTAT_SRC = n := by
  have hw := duskExit_waking (cause := 2) (by decide) h
  have hheq : s.nwWake n = ((s.duskExit 2).putFlag fNWSTAT_WOKE true).put fNWSTAT_SRC n := by
    unfold nwWake
    rw [if_neg (by rw [hsel]; decide), if_pos h]
  have hk : Wr [(0x1B070, 0)] (s.duskExit 2) (((s.duskExit 2).putFlag fNWSTAT_WOKE true).put fNWSTAT_SRC n) :=
    put_wr (by decide) (putFlag_wr (by decide) (.refl _))
  rw [hheq]
  refine ⟨(hk.get _ (by decide)).trans hw.state, (hk.get _ (by decide)).trans hw.wake, ?_, get_put_fits _ fNWSTAT_SRC hn⟩
  exact (flag_put_apart (f := fNWSTAT_SRC) (g := fNWSTAT_WOKE) _ n).trans (flag_putFlag _ fNWSTAT_WOKE true)

theorem pendSet_nwSelected (s : State) (k : Nat) (w : Word) (n : Nat) : (s.pendSet k w).nwSelected n = s.nwSelected n := rfl

theorem raise_woken (hn : n < 256) (hl : sourceListed n = true) (hr : risesInDusk n = true) (hsel : s.nwSelected n = true) (h : s.pstate = 3) :
    (s.raise n).pstate = 4 ∧ (s.raise n).get fPWR_WAKE = 2 ∧ (s.raise n).flag fNWSTAT_WOKE = true ∧ (s.raise n).get fNWSTAT_SRC = n := by
  have hw (k : Nat) (w : Word) := nwWake_woken (s := s.pendSet k w) hn hsel h
  rw [raise_listed hl (.inr hr)]
  exact hw _ _

/-- A selected source during the entry abandons it. -/
theorem nwWake_abandoned (hsel : s.nwSelected n = true) (h : s.pstate = 2) (hp : s.flag fPWR_DUSK_PEND = false) :
    (s.nwWake n).pstate = (if s.pwr.latched then 4 else 1) ∧ (s.nwWake n).flag fPWR_ABORTED = true
      ∧ (s.nwWake n).pwr = { s.pwr with resumed := true } ∧ Kept [.regs, .pwr] s (s.nwWake n) := by
  have hfits : (if s.pwr.latched = true then 4 else 1) < 16 := by split <;> decide
  have hheq : s.nwWake n = s.duskAbandon := by
    unfold nwWake
    rw [if_neg (by rw [hsel]; decide), if_neg (by rw [h]; decide), if_neg (fun hc => absurd (h.symm.trans hc.1) (by decide))]
  have hkept : Kept [.regs, .pwr] s s.duskAbandon := duskAbandon_kept (by decide) (.refl s)
  have heq : s.duskAbandon = { ((s.putFlag fPWR_ABORTED true).put fPWR_STATE (if s.pwr.latched then 4 else 1)) with
      pwr := { s.pwr with resumed := true } } := by
    unfold duskAbandon
    rw [if_neg (by rw [hp]; decide), if_pos h]
    simp only [putFlag_pwr, put_pwr]
  rw [hheq]
  refine ⟨?_, ?_, ?_, hkept⟩
  · rw [heq, pstate, get_pwr, get_put_fits _ fPWR_STATE hfits]
  · rw [heq, flag, get_pwr, ← flag, flag_put_apart (f := fPWR_STATE) (g := fPWR_ABORTED), flag_putFlag _ fPWR_ABORTED]
  · rw [heq]

theorem raise_abandoned (hl : sourceListed n = true) (hsel : s.nwSelected n = true) (h : s.pstate = 2) (hp : s.flag fPWR_DUSK_PEND = false) :
    (s.raise n).pstate = (if s.pwr.latched then 4 else 1) ∧ (s.raise n).flag fPWR_ABORTED = true
      ∧ (s.raise n).pwr = { s.pwr with resumed := true } ∧ Only [.regs, .icu, .pwr] s (s.raise n) := by
  have hd : s.inDusk = false := by simp [inDusk, h]
  have hset (k : Nat) (w : Word) : Kept [.icu] s (s.pendSet k w) := pendSet_kept (by decide) k w (.refl s)
  have hw (k : Nat) (w : Word) := nwWake_abandoned (s := s.pendSet k w) (n := n) hsel h hp
  rw [raise_listed hl (.inl hd)]
  generalize 3 + n / 32 = k
  generalize BitVec.ofNat 32 (2 ^ (n % 32)) = w
  obtain ⟨hstate, habort, hpwr, hkept⟩ := hw k w
  have hall := ((hset k w).mono (U := [.regs, .icu, .pwr]) (by decide)).trans (hkept.mono (by decide))
  exact ⟨hstate, habort, hpwr, (refreshIcu_kept (by decide) hall).only⟩

theorem raise_unselected (hsel : s.nwSelected n = false) : Only [.icu] s (s.raise n) := by
  have hset (k : Nat) (w : Word) : Kept [.icu] s (s.pendSet k w) := pendSet_kept (by decide) k w (.refl s)
  have hwake (k : Nat) (w : Word) : (s.pendSet k w).nwWake n = s.pendSet k w := if_pos (by rw [pendSet_nwSelected, hsel]; decide)
  unfold raise
  split
  · exact (Kept.refl s).only
  split
  · exact (Kept.refl s).only
  · rw [hwake]
    exact (refreshIcu_kept (by decide) (hset _ _)).only

-- The part asleep

/-- A property of a state that only STATE and the supply decide, and that no raise of a source that stays quiet in Dusk ends. -/
structure Steady (Q : State → Prop) : Prop where
  same : ∀ s t : State, t.rd aDEV_PWR_STAT = s.rd aDEV_PWR_STAT → t.pwr = s.pwr → Q s → Q t
  raise : ∀ (s : State) (n : Nat), risesInDusk n = false → Q s → Q (s.raise n)

namespace Steady

variable {Q : State → Prop} (hQ : Steady Q) {s t : State}

include hQ

theorem of_wr {R : List (Nat × Nat)} {T : List Comp} (h : Wr R s t) (hk : Kept T s t) (hs : Q s) (hR : hits R aDEV_PWR_STAT = false := by decide)
    (hT : Comp.pwr ∉ T := by decide) : Q t := hQ.same s t (h.eq _ hR) (hk.pwr_eq hT) hs

theorem logFw (c k n : Nat) (r : List Nat) (hs : Q s) : Q (s.logFw c k n r) :=
  hQ.of_wr (logFw_wr (R := [(0x2A8, 0), (0x5014, 0)]) (by decide) c k n r (.refl s)) (logFw_kept (T := [.regs, .evt]) (by decide) c k n r (.refl s)) hs

theorem putFlag (f : Fld) (b : Bool) (hf : f.addr ≠ aDEV_PWR_STAT) (hs : Q s) : Q (s.putFlag f b) :=
  hQ.same s _ (rd_putFlag_other s b hf.symm) (putFlag_pwr s f b) hs

theorem put (f : Fld) (v : Nat) (hf : f.addr ≠ aDEV_PWR_STAT) (hs : Q s) : Q (s.put f v) :=
  hQ.same s _ (rd_put_other s v hf.symm) (put_pwr s f v) hs

theorem timeState (st : Nat) (hs : Q s) : Q (s.timeState st) := by
  have htail (t : State) (x : Ptp) (r : List Nat) (ht : Q t) : Q ((({ t with ptp := x } : State).logFw evTIME_STATE kTIME 0 r).raise srcTIME) :=
    hQ.raise _ srcTIME (by decide) (hQ.logFw evTIME_STATE kTIME 0 r (hQ.same t _ rfl rfl ht))
  have hput := hQ.put fTIME_STATE st (by decide) hs
  unfold State.timeState
  dsimp only
  split
  · exact hput
  · exact htail _ _ _ hput

theorem servoHold (hs : Q s) : Q s.servoHold := by
  have hptp (t : State) (x : Ptp) (ht : Q t) : Q ({ t with ptp := x } : State) := hQ.same t _ rfl rfl ht
  unfold State.servoHold
  dsimp only
  split
  · exact hs
  · exact hQ.timeState 3 (hptp s _ hs)

theorem epochUp (hs : Q s) : Q s.epochUp := by
  have hrest (t : State) (r : List Nat) (ht : Q t) : Q ((t.logFw evRING_SWITCH kDEVICE 0 r).raise srcRING).servoHold :=
    hQ.servoHold (hQ.raise _ srcRING (by decide) (hQ.logFw _ _ _ _ ht))
  exact hrest _ _ (hQ.same s _ (bump_wr (R := [(0x700C, 0)]) (by decide) (.refl s) |>.eq _ (by decide)) (bump_pwr s _) hs)

theorem sfOnset (p : Fin 2) (link : Bool) (hs : Q s) : Q (s.sfOnset p link) := by
  have hlinkAddr : (fRP_LINK p).addr ≠ aDEV_PWR_STAT := by revert p; decide
  have hsfAddr : (fRP_SF p).addr ≠ aDEV_PWR_STAT := by revert p; decide
  have hlink (t : State) (x : RingPort) (ht : Q t) : Q ((t.setPort p x).putFlag (fRP_LINK p) link) :=
    hQ.putFlag _ _ hlinkAddr (hQ.same t _ rfl rfl ht)
  have hpurge (t : State) (ht : Q t) : Q (t.purge p) :=
    hQ.of_wr (purge_wr (R := [(0x7040, 4)]) (by decide) p (.refl t)) (purge_kept (T := [.regs, .ring]) (by decide) p (.refl t)) ht
  have hpass (t : State) (ht : Q t) : Q (t.sfPass p) :=
    hQ.of_wr (sfPass_wr (R := [(0x3040, 4), (0x7000, 4), (0x7008, 0), (0x7040, 4)]) (by decide) p (.refl t))
      (sfPass_kept (T := [.regs, .ring, .ptp]) (by decide) p (.refl t)) ht
  have hfall (t : State) (ht : Q t) : Q (((((t.putFlag (fRP_SF p) true).purge p).raise srcRING).epochUp).sfPass p) :=
    hpass _ (hQ.epochUp (hQ.raise _ srcRING (by decide) (hpurge _ (hQ.putFlag _ _ hsfAddr ht))))
  have hite (t : State) (ht : Q t) : Q (if t.sf p then t else ((((t.putFlag (fRP_SF p) true).purge p).raise srcRING).epochUp).sfPass p) := by
    split
    · exact ht
    · exact hfall t ht
  exact hite _ (hlink s _ hs)

theorem mastersGone (hs : Q s) : Q s.mastersGone := by
  have hbereft (t : State) (k : Nat) (ht : Q t) : Q (t.bereft k) := by
    have hflag (u : State) (x : Ptp) (y : TimeBase) (hu : Q u) : Q (({ u.setPtp x with time := y } : State).putFlag fTIME_MASTER false) :=
      hQ.putFlag _ _ (by decide) (hQ.same u _ rfl rfl hu)
    unfold State.bereft
    dsimp only
    split
    · exact hQ.timeState 0 (hflag t _ _ ht)
    split
    · exact hQ.timeState 3 (hflag t _ _ ht)
    · exact hflag t _ _ ht
  have hlost (t : State) (hm : t.ptp.masters = []) (ht : Q t) : Q t.masterLost := by
    cases hsel : t.ptp.sel with
    | none =>
      rw [State.masterLost, hsel]
      exact ht
    | some k =>
      rw [masterLost_eq hsel, reselect_of_none ((t.bereft_bereft k).masters.trans (by rw [hm]; rfl))]
      exact hbereft t k ht
  exact hlost _ rfl (hQ.same s _ rfl rfl hs)

end Steady

theorem asleep_steady : Steady fun s => s.pstate = 3 where
  same _ _ hrd _ hs := (get_of_rd (f := fPWR_STATE) hrd).trans hs
  raise _ _ hr hs := by rw [raise_quiet (by simp [State.inDusk, hs]) hr, hs]

-- Dusk entry (R383, R384)

/-- Converters and references stopped. -/
def convertersStopped (s : State) : State :=
  let s := (List.range 16).foldl duskConv s
  let s := s.wr aADC_REFCTL ((s.rd aADC_REFCTL).toNat % 65536 / 32768 * 32768 + (s.rd aADC_REFCTL).toNat % 256 / 128 * 128)
  (List.range 7).foldl (fun s p => s.putFlag (fADC p 0) false) s

/-- What the loop engine keeps of a slot in Dusk. -/
def slotStopped (p : Nat × LoopSlot) : Nat × LoopSlot := if p.1 = 0 then p else (p.1, { p.2 with open_ := false, res := none })

/-- Rules, resolver, loops and cores stopped. -/
def rulesStopped (s : State) : State := { s with
  rule := { s.rule with running := false, late := none }
  res := { s.res with running := false, ready := false }
  loops := { s.loops with slots := s.loops.slots.map slotStopped }
  icu := { s.icu with waiting := [(0, true), (1, true), (2, true)], window := s.icu.window.filter fun p => p.1 == 3 } }

theorem duskBlocks_eq (s : State) : s.duskBlocks
    = ((((s.convertersStopped.rulesStopped).sfOnset 0 false).sfOnset 1 false).mastersGone).capPause := rfl

theorem convertersStopped_pstate (s : State) : s.convertersStopped.pstate = s.pstate :=
  Wr.get (R := [(0x240, 0), (0x17000, 0)]) (Wr.fold (fun _ p h => putFlag_wr (by rfl) h)
    (wr_wr (by decide) (Wr.fold (fun _ k h => duskConv_wr (by decide) k h) (.refl s)))) fPWR_STATE

theorem duskBlocks_sleep (h : s.pstate = 3) : s.duskBlocks.pstate = 3 := by
  have hrules (t : State) : t.rulesStopped.pstate = t.pstate := rfl
  have hstopped := ((hrules _).trans s.convertersStopped_pstate).trans h
  have hcap (t : State) (ht : t.pstate = 3) : t.capPause.pstate = 3 :=
    (Wr.get (capPause_wr (R := [(0x294, 0)]) (by decide) (.refl t)) fPWR_STATE).trans ht
  rw [duskBlocks_eq]
  exact hcap _ (asleep_steady.mastersGone (asleep_steady.sfOnset 1 false (asleep_steady.sfOnset 0 false hstopped)))

/-- What entry into Dusk leaves of the rules and the resolver. -/
theorem duskBlocks_stopped (s : State) : s.duskBlocks.rule.running = false ∧ s.duskBlocks.res.running = false ∧ s.duskBlocks.res.ready = false := by
  have htail (t : State) : Kept [.regs, .icu, .evt, .nw, .pwr, .ring, .ptp, .time, .cap] t (((t.sfOnset 0 false).sfOnset 1 false).mastersGone).capPause :=
    capPause_kept (by decide) (mastersGone_kept (by decide) (sfOnset_kept (by decide) 1 false (sfOnset_kept (by decide) 0 false (.refl t))))
  rw [duskBlocks_eq, (htail _).rule_eq, (htail _).res_eq]
  exact ⟨rfl, rfl, rfl⟩

/-- A Dusk entry begins. -/
def DuskBegins (s : State) : Prop := s.flag fPWR_DUSK_PEND = true ∧ s.pstate = 1 ∧ s.jobRuns = false ∧ s.flag fMORN_RUNNING = false ∧ s.periodBegins = true

/-- The part goes to sleep. -/
def DuskSleeps (s : State) : Prop := s.pstate = 2 ∧ s.pwr.latched = true ∧ (s.mbx.cmds.all fun c => c.phase == .done) = true

theorem duskEntry_sleeps (hlost : s.flag fNW_SC0_LOST = false) (h : s.DuskSleeps) : s.duskEntry = ((s.foldSpan.put fPWR_STATE 3).duskBlocks).refreshIcu := by
  obtain ⟨hstate, hlatched, hdone⟩ := h
  unfold duskEntry
  rw [if_neg (by rw [hlost]; decide), if_pos hstate, if_pos (by rw [hlatched, hdone]; rfl)]

theorem duskEntry_slept (hlost : s.flag fNW_SC0_LOST = false) (h : s.DuskSleeps) : s.duskEntry.pstate = 3 ∧ s.duskEntry.rule.running = false
    ∧ s.duskEntry.res.running = false ∧ s.duskEntry.res.ready = false := by
  have hput (t : State) : (t.put fPWR_STATE 3).pstate = 3 := t.get_put_fits fPWR_STATE (by decide)
  have hsleep := duskBlocks_sleep (hput s.foldSpan)
  have hfresh (t : State) : t.refreshIcu.rule = t.rule ∧ t.refreshIcu.res = t.res := ⟨rfl, rfl⟩
  have hstopped := (s.foldSpan.put fPWR_STATE 3).duskBlocks_stopped
  rw [duskEntry_sleeps hlost h]
  rw [pstate, refreshIcu_get, (hfresh _).1, (hfresh _).2]
  exact ⟨hsleep, hstopped⟩

/-- What the beginning of a Dusk entry leaves. -/
structure DuskBegun (s u : State) : Prop where
  state : u.pstate = 2
  pend : u.flag fPWR_DUSK_PEND = false
  aborted : u.flag fPWR_ABORTED = false
  pwr : u.pwr = { s.pwr with latched := false }
  kept : Kept [.regs, .pwr] s u
  wr : Wr [(0x270, 0)] s u

theorem duskEntry_begun (hlost : s.flag fNW_SC0_LOST = false) (h : s.DuskBegins) : DuskBegun s s.duskEntry := by
  obtain ⟨hpend, hstate, hjob, hmorn, hperiod⟩ := h
  have heq : s.duskEntry = { (((s.putFlag fPWR_DUSK_PEND false).putFlag fPWR_ABORTED false).put fPWR_STATE 2) with pwr := { s.pwr with latched := false } } := by
    unfold duskEntry
    rw [if_neg (by rw [hlost]; decide), if_neg (by rw [hstate]; decide), if_neg (by rw [hpend, hstate, hjob, hmorn, hperiod]; decide)]
    simp only [putFlag_pwr, put_pwr]
  have hk : Kept [.regs, .pwr] s (((s.putFlag fPWR_DUSK_PEND false).putFlag fPWR_ABORTED false).put fPWR_STATE 2) :=
    put_kept (by decide) _ _ (putFlag_kept (by decide) _ _ (putFlag_kept (by decide) _ _ (.refl s)))
  have hw : Wr [(0x270, 0)] s (((s.putFlag fPWR_DUSK_PEND false).putFlag fPWR_ABORTED false).put fPWR_STATE 2) :=
    put_wr (by decide) (putFlag_wr (by decide) (putFlag_wr (by decide) (.refl s)))
  rw [heq]
  exact
    { state := (get_pwr _ _ _).trans (get_put_fits _ fPWR_STATE (by decide))
      pend := by
        rw [flag, get_pwr, ← flag, flag_put_apart (f := fPWR_STATE) (g := fPWR_DUSK_PEND),
          flag_putFlag_apart (f := fPWR_ABORTED) (g := fPWR_DUSK_PEND), flag_putFlag _ fPWR_DUSK_PEND]
      aborted := by rw [flag, get_pwr, ← flag, flag_put_apart (f := fPWR_STATE) (g := fPWR_ABORTED), flag_putFlag _ fPWR_ABORTED]
      pwr := rfl
      kept := Kept.upd_pwr hk (by decide)
      wr := .upd hw }

theorem duskEntry_idle (h : s.flag fNW_SC0_LOST = true ∨ ¬ (s.DuskBegins ∨ s.DuskSleeps)) : s.duskEntry = s := by
  unfold duskEntry
  rcases h with h | h
  · rw [if_pos h]
  · obtain ⟨hbegins, hsleeps⟩ := not_or.1 h
    refine (congrArg _ ?_).trans (ite_self _)
    split
    case isTrue hstate =>
      rw [if_neg]
      rw [Bool.and_eq_true]
      exact fun hc => hsleeps ⟨hstate, hc⟩
    case isFalse hstate =>
      rw [if_pos]
      by_contra hno
      refine hbegins ?_
      simp only [Bool.or_eq_true, Bool.not_eq_true', bne_iff_ne, ne_eq, not_or, Bool.not_eq_true, Bool.not_eq_false, not_not] at hno
      obtain ⟨⟨⟨⟨hpend, hstate⟩, hjob⟩, hmorn⟩, hperiod⟩ := hno
      exact ⟨hpend, hstate, hjob, hmorn, hperiod⟩

-- The exit's resume (R386)

/-- The registers that the writing of a record moves, but for what a raise moves. -/
def logRegs : List (Nat × Nat) :=
  [(0x290, 0), (0x294, 0), (0x2A8, 0), (0x5000, 0), (0x5004, 0), (0x5010, 0), (0x5014, 0), (0x1E010, 0)]

/-- A property that the writing of a record keeps: neither a step of the log nor a raise ends it. -/
structure LogSteady (Q : State → Prop) : Prop where
  step : ∀ s t : State, Kept [.regs, .mem, .cap] s t → Wr logRegs s t → NwStat s t → Q s → Q t
  evt : ∀ (s : State) (x : EvtLog), x.queue = s.evt.queue → Q s → Q { s with evt := x }
  enqueue : ∀ (s : State) (r : EvtRec), Q s → Q (s.enqueue r)
  raise : ∀ (s : State) (n : Nat), Q s → Q (s.raise n)

namespace LogSteady

variable {Q : State → Prop} (hQ : LogSteady Q) {s t : State}

include hQ

theorem of_wr {T : List Comp} {R : List (Nat × Nat)} (hk : Kept T s t) (hw : Wr R s t) (hs : Q s) (hT : T ⊆ [.regs, .mem, .cap] := by decide)
    (hR : R ⊆ logRegs := by decide) (hnw : hits R aDEV_NW_STAT = false := by decide) : Q t :=
  hQ.step s t (hk.mono hT) (hw.mono hR) (hw.nwStat hnw) hs

theorem lifeCount (base o n : Nat) (hs : Q s) : Q (s.lifeCount base o n) := by
  have hmem (t : State) (a : Nat) (l : List Byte) (ht : Q t) : Q (t.memWrite a l) :=
    hQ.of_wr (T := [.mem]) (R := []) (memWrite_kept (by decide) a l (.refl t)) (memWrite_wr (.refl t)) ht
  have hput (t : State) (a : Nat) (b : Byte) (ht : Q t) : Q (t.memPut a b) :=
    hQ.of_wr (T := [.mem]) (R := []) (memPut_kept (by decide) a b (.refl t)) (memPut_wr (.refl t)) ht
  have hsat (t : State) (ht : Q t) : Q (t.bumpSat fLIFE_NSAT) :=
    hQ.of_wr (T := [.regs]) (R := [(0x290, 0)]) (bumpSat_kept (by decide) _ (.refl t)) (bumpSat_wr (by decide) (.refl t)) ht
  have hlog (t : State) (r : List Nat) (ht : Q t) : Q (t.logEv evLIFETIME_SAT kDEVICE 0 r) := hQ.enqueue t _ ht
  have hite {c : Prop} [Decidable c] {t u : State} (ht : Q t) (hu : Q u) : Q (if c then t else u) := by
    split
    · exact ht
    · exact hu
  unfold State.lifeCount
  dsimp only
  refine hite ?_ ?_
  · refine hQ.raise _ _ (hlog _ _ (hsat _ ?_))
    exact hput _ _ _ (hmem _ _ _ hs)
  · exact hmem _ _ _ hs

theorem evtThreshold (hs : Q s) : Q s.evtThreshold := by
  have hfilled (b : Bool) : Q ({ s with evt := { s.evt with filled := b } } : State) := hQ.evt s _ rfl hs
  unfold State.evtThreshold
  dsimp only
  split
  · exact hQ.raise _ _ (hfilled _)
  · exact hfilled _

theorem writeRec (r : EvtRec) (hs : Q s) : Q (s.writeRec r) := by
  have hcap (t : State) (ht : Q t) : Q (t.capOnRecord r) :=
    hQ.of_wr (T := [.regs, .cap]) (R := [(0x294, 0), (0x1E010, 0)]) (capOnRecord_kept (by decide) r (.refl t)) (capOnRecord_wr (by decide) r (.refl t)) ht
  have hcount (t : State) (ht : Q t) : Q (match lifeOfEvent r with | some (b, o) => t.lifeCount b o 1 | none => t) := by
    split
    · exact hQ.lifeCount _ _ 1 ht
    · exact ht
  have htail (t : State) (ht : Q t) :
      Q ((match lifeOfEvent r with | some (b, o) => t.evtThreshold.lifeCount b o 1 | none => t.evtThreshold).capOnRecord r) :=
    hcap _ (hcount _ (hQ.evtThreshold ht))
  unfold State.writeRec
  refine htail _ (hQ.of_wr (T := [.regs, .mem]) (R := [(0x5000, 0), (0x5004, 0), (0x5010, 0)]) ?_ ?_ hs)
  · exact bump_kept (by decide) _ (memWrite_kept (by decide) _ _ (.ite (bump_kept (by decide) _ (.ite (.refl s) (bump_kept (by decide) _ (.refl s))))
      (.refl s)))
  · exact bump_wr (by decide) (memWrite_wr (.ite (bump_wr (by decide) (.ite (.refl s) (bump_wr (by decide) (.refl s)))) (.refl s)))

theorem flushNw (hs : Q s) : Q s.flushNw := by
  have hall (l : List EvtRec) (t : State) (ht : Q t) : Q (l.foldl State.writeRec t) := List.foldlRecOn l _ ht fun _ h r _ => hQ.writeRec r h
  have hbuf (t : State) (ht : Q t) : Q (t.put fNW_NWBUF 0) :=
    hQ.step t _ (put_kept (by decide) _ _ (.refl t)) (put_wr (by decide) (.refl t))
      (fun f ha hl => get_put_apart t (f := fNW_NWBUF) (g := f) 0 (by decide) ha (.inr hl)) ht
  have hput : Q (({ s with evt := { s.evt with nwBuf := [], nwDropped := 0 } } : State).put fNW_NWBUF 0) := hbuf _ (hQ.evt s _ rfl hs)
  unfold State.flushNw
  dsimp only
  split
  · exact hall _ _ hput
  · exact hQ.writeRec _ (hall _ _ hput)

end LogSteady

/-- The part on its way out of Dusk, its blocks resumed. -/
structure Exiting (s : State) : Prop where
  state : s.pstate = 4
  resumed : s.pwr.resumed = true

namespace Exiting

variable {s t : State}

theorem of_wr (h : Exiting s) {T : List Comp} (hk : Kept T s t) {R : List (Nat × Nat)} (hw : Wr R s t) (hT : Comp.pwr ∉ T := by decide)
    (hR : hits R aDEV_PWR_STAT = false := by decide) : Exiting t :=
  ⟨(hw.get fPWR_STATE hR).trans h.state, by rw [hk.pwr_eq hT, h.resumed]⟩

theorem duskAbandon (h : Exiting s) : Exiting s.duskAbandon := by
  unfold State.duskAbandon
  split
  · refine ⟨?_, by simp only [putFlag_pwr, h.resumed]⟩
    rw [pstate, get_putFlag_apart (f := fPWR_ABORTED) (g := fPWR_STATE), get_putFlag_apart (f := fPWR_DUSK_PEND) (g := fPWR_STATE)]
    exact h.state
  · rw [if_neg (by rw [h.state]; decide)]
    exact h

theorem nwWake (h : Exiting s) (n : Nat) : Exiting (s.nwWake n) := by
  unfold State.nwWake
  split
  · exact h
  rw [if_neg (by rw [h.state]; decide)]
  split
  · exact h.of_wr (T := [.regs]) (put_kept (by decide) _ _ (.refl s)) (R := [(0x1B070, 0)]) (put_wr (by decide) (.refl s))
  · exact h.duskAbandon

theorem raise (h : Exiting s) (n : Nat) : Exiting (s.raise n) := by
  have hset (k : Nat) (w : Word) : Exiting (s.pendSet k w) := ⟨h.state, h.resumed⟩
  have hfresh (t : State) (ht : Exiting t) : Exiting t.refreshIcu := ⟨ht.state, ht.resumed⟩
  unfold State.raise
  split
  · exact h
  split
  · exact h
  · exact hfresh _ ((hset _ _).nwWake n)

theorem logSteady : LogSteady Exiting where
  step _ _ hk hw _ h := h.of_wr hk hw
  evt _ _ _ h := ⟨h.state, h.resumed⟩
  enqueue s r h := h.of_wr (T := [.regs, .evt]) (enqueue_kept (by decide) r (.refl s)) (R := [(0x2A8, 0), (0x5014, 0)])
    (enqueue_wr (by decide) r (.refl s))
  raise _ n h := h.raise n

end Exiting

theorem duskResume_idle (h : s.pstate ≠ 4 ∨ s.pwr.resumed = true) : s.duskResume = s := if_pos h

theorem duskResume_resumed (h4 : s.pstate = 4) (hr : s.pwr.resumed = false) : Exiting s.duskResume ∧ s.duskResume.rule.start = s.grid.tick := by
  have hfold : Kept [.life] s s.foldSpan := foldSpan_kept (by decide) (.refl s)
  have hfoldWr : Wr [] s s.foldSpan := foldSpan_wr (by decide) (.refl s)
  have hstart (x : Power) (hx : x.resumed = true) : Exiting ({ s.foldSpan with pwr := x } : State) := ⟨(hfoldWr.get fPWR_STATE (by decide)).trans h4, hx⟩
  have hrefs (t : State) (ht : Exiting t) : Exiting (t.refEnable 0x7F).capUnpause :=
    ht.of_wr (T := [.regs, .adc, .cap]) (capUnpause_kept (by decide) (refEnable_kept (by decide) _ (.refl t))) (R := [(0x294, 0), (0x17000, 0)])
      (capUnpause_wr (by decide) (refEnable_wr (by decide) _ (.refl t)))
  have hflush (t : State) (ht : Exiting t) (b : Bool) : Exiting (if b then t.flushNw else t) := by
    split
    · exact Exiting.logSteady.flushNw ht
    · exact ht
  have hpersist (t : State) (ht : Exiting t) (b : Bool) : Exiting (if b then t.persistBegin 1 else t) := by
    split
    · exact ht.of_wr (T := [.regs, .mem, .life, .fspi]) (persistBegin_kept (by decide) 1 (.refl t)) (R := [(0x290, 0)]) (persistBegin_wr (by decide) 1 (.refl t))
    · exact ht
  have hkept (t : State) (b c : Bool) : Kept [.regs, .icu, .evt, .nw, .mem, .cap, .life, .pwr, .adc, .fspi] t
      (if c then (if b then t.flushNw else t).persistBegin 1 else (if b then t.flushNw else t)) :=
    .ite (persistBegin_kept (by decide) 1 (.ite (flushNw_kept (by decide) (.refl t)) (.refl t))) (.ite (flushNw_kept (by decide) (.refl t)) (.refl t))
  have hend (t : State) (ht : Exiting t) (hg : t.grid.tick = s.grid.tick) :
      Exiting ({ t with rule := { t.rule with start := t.grid.tick } } : State).refreshIcu
        ∧ ({ t with rule := { t.rule with start := t.grid.tick } } : State).refreshIcu.rule.start = s.grid.tick := ⟨⟨ht.state, ht.resumed⟩, hg⟩
  have hgrid (x : Power) : Kept [.regs, .adc, .cap, .life, .pwr] s ((({ s.foldSpan with pwr := x } : State).refEnable 0x7F).capUnpause) :=
    capUnpause_kept (by decide) (refEnable_kept (by decide) _ (Kept.upd_pwr (hfold.mono (by decide)) (by decide)))
  unfold duskResume
  rw [if_neg (not_or.2 ⟨not_not.2 h4, by rw [hr]; decide⟩)]
  refine hend _ (hpersist _ (hflush _ (hrefs _ (hstart _ rfl)) _) _) ?_
  exact congrArg Grid.tick ((hkept _ _ _).grid_eq.trans (hgrid _).grid_eq)

-- The Morning check (R391-R395)

/-- The check may begin or wait. -/
def MornMay (s : State) : Prop := s.midnight = false ∧ s.pwr.good = true ∧ s.flag fSYSMORN_EN = true ∧ s.flag fTIME_SET = true
  ∧ s.flag fMORN_RUNNING = false ∧ (s.mornFalls = true ∨ s.pwr.mornWait = true)

/-- Something stands in its way. -/
def MornHeld (s : State) : Prop := s.pstate ≠ 1 ∨ s.jobRuns = true ∨ s.flag fPWR_DUSK_PEND = true

/-- The fire time answered for. -/
def mornDated (s : State) : State := { s with pwr := { s.pwr with mornDay := if s.mornFalls then s.mornCount else s.pwr.mornDay } }

/-- The check put off, its time running from the tick `at_`. -/
def mornDeferred (s : State) (at_ : Nat) : State :=
  { s.putFlag fMORN_DEFERRED true with pwr := { s.pwr with mornWait := true, mornAt := at_ } }

/-- The check begun. -/
def mornBegun (s : State) : State :=
  { ((s.putFlag fMORN_DEFERRED false).putFlag fMORN_RUNNING true).put fMORN_BANKFAIL 0 with pwr := { s.pwr with
    mornWait := false, mornAt := s.grid.tick, mornBank := 0, mornOpen := [], probe := [], mornLatched := 0 } }

theorem mornFire_cond : (s.midnight || !s.pwr.good || !s.flag fSYSMORN_EN || !s.flag fTIME_SET || s.flag fMORN_RUNNING
    || !(s.mornFalls || s.pwr.mornWait)) = true ↔ ¬ s.MornMay := by
  unfold MornMay
  cases s.midnight <;> cases s.pwr.good <;> cases s.flag fSYSMORN_EN <;> cases s.flag fTIME_SET <;> cases s.flag fMORN_RUNNING <;> simp

theorem mornHeld_cond : ((decide (s.pstate ≠ 1) || s.jobRuns || s.flag fPWR_DUSK_PEND) = true) ↔ s.MornHeld := by
  simp [MornHeld, or_assoc]

theorem mornFire_idle (h : ¬ s.MornMay) : s.mornFire = s := by
  unfold mornFire
  dsimp only
  rw [if_pos (mornFire_cond.2 h)]

theorem mornFire_begins (h : s.MornMay) (hh : ¬ s.MornHeld) : s.mornFire = s.mornDated.mornBegun := by
  have hfree : ¬ (decide (s.mornDated.pstate ≠ 1) || s.mornDated.jobRuns || s.mornDated.flag fPWR_DUSK_PEND) = true := fun hc => hh (mornHeld_cond.1 hc)
  unfold mornDated at hfree
  unfold mornFire mornBegun mornDated
  dsimp only
  rw [if_neg (fun hc => mornFire_cond.1 hc h), if_neg hfree]
  simp only [putFlag_pwr, put_pwr, putFlag_grid, put_grid]

theorem mornFire_defers (h : s.MornMay) (hh : s.MornHeld) : s.mornFire
    = (if s.mornFalls && s.pwr.mornWait && s.inDusk then s.mornDated.put fMORN_RESULT 3 else s.mornDated).mornDeferred
      (if s.pwr.mornWait && !s.mornFalls then s.pwr.mornAt else s.grid.tick) := by
  have hheld : (decide (s.mornDated.pstate ≠ 1) || s.mornDated.jobRuns || s.mornDated.flag fPWR_DUSK_PEND) = true := mornHeld_cond.2 hh
  unfold mornDated at hheld
  unfold mornFire mornDeferred mornDated
  dsimp only
  rw [if_neg (fun hc => mornFire_cond.1 hc h), if_pos hheld]

/-- What the beginning of a check leaves. -/
structure MornBegun (s u : State) : Prop where
  running : u.flag fMORN_RUNNING = true
  deferred : u.flag fMORN_DEFERRED = false
  bankFail : u.get fMORN_BANKFAIL = 0
  bank : u.pwr.mornBank = 0
  wait : u.pwr.mornWait = false
  since : u.pwr.mornAt = s.grid.tick

theorem mornBegun_begun (s : State) : MornBegun s s.mornBegun := by
  have hget (t : State) (x : Power) (f : Fld) : ({ t with pwr := x } : State).flag f = t.flag f := rfl
  have hfail (t : State) (f : Fld) (ha : f.addr = aDEV_MORNING_STAT) (hf : f.lo + f.width ≤ 24) : (t.put fMORN_BANKFAIL 0).flag f = t.flag f :=
    t.flag_put_apart (f := fMORN_BANKFAIL) 0 (by decide) ha (.inl hf)
  unfold mornBegun
  exact
    { running := (hget _ _ _).trans ((hfail _ _ (by rfl) (by decide)).trans (flag_putFlag _ fMORN_RUNNING true))
      deferred := (hget _ _ _).trans ((hfail _ _ (by rfl) (by decide)).trans
        ((flag_putFlag_apart (f := fMORN_RUNNING) (g := fMORN_DEFERRED) _ true).trans (flag_putFlag _ fMORN_DEFERRED false)))
      bankFail := (get_pwr _ _ _).trans (get_put_fits _ fMORN_BANKFAIL (by decide))
      bank := rfl
      wait := rfl
      since := rfl }

/-- What the putting off of a check leaves. -/
structure MornDeferred (at_ : Nat) (s u : State) : Prop where
  running : u.flag fMORN_RUNNING = s.flag fMORN_RUNNING
  deferred : u.flag fMORN_DEFERRED = true
  wait : u.pwr.mornWait = true
  day : u.pwr.mornDay = s.pwr.mornDay
  since : u.pwr.mornAt = at_
  result : u.get fMORN_RESULT = s.get fMORN_RESULT

theorem mornDeferred_deferred (s : State) (at_ : Nat) : MornDeferred at_ s (s.mornDeferred at_) := by
  have hget (t : State) (x : Power) (f : Fld) : ({ t with pwr := x } : State).flag f = t.flag f := rfl
  unfold mornDeferred
  exact
    { running := (hget _ _ _).trans (flag_putFlag_apart (f := fMORN_DEFERRED) (g := fMORN_RUNNING) _ true)
      deferred := (hget _ _ _).trans (flag_putFlag _ fMORN_DEFERRED true)
      wait := rfl
      day := rfl
      since := rfl
      result := (get_pwr _ _ _).trans (get_putFlag_apart (f := fMORN_DEFERRED) (g := fMORN_RESULT) _ true) }

theorem mornFire_deferred (h : s.MornMay) (hh : s.MornHeld) : s.mornFire.flag fMORN_RUNNING = false ∧ s.mornFire.flag fMORN_DEFERRED = true
    ∧ s.mornFire.pwr.mornWait = true ∧ (s.mornFalls = true → s.mornFire.pwr.mornDay = s.mornCount ∧ s.mornFire.pwr.mornAt = s.grid.tick)
    ∧ (s.mornFalls = true → s.pwr.mornWait = true → s.inDusk = true → s.mornFire.get fMORN_RESULT = 3) := by
  have hrun : s.flag fMORN_RUNNING = false := h.2.2.2.2.1
  have hday (b : Bool) : (if b then s.mornDated.put fMORN_RESULT 3 else s.mornDated).pwr.mornDay = if s.mornFalls then s.mornCount else s.pwr.mornDay := by
    cases b
    · rfl
    · exact congrArg Power.mornDay (put_pwr s.mornDated fMORN_RESULT 3)
  have hrunning (b : Bool) : (if b then s.mornDated.put fMORN_RESULT 3 else s.mornDated).flag fMORN_RUNNING = false := by
    cases b
    · exact hrun
    · exact (s.mornDated.flag_put_apart (f := fMORN_RESULT) (g := fMORN_RUNNING) 3).trans hrun
  have hresult (b : Bool) (hb : b = true) : (if b then s.mornDated.put fMORN_RESULT 3 else s.mornDated).get fMORN_RESULT = 3 := by
    rw [if_pos hb, get_put_fits _ fMORN_RESULT (by decide)]
  rw [mornFire_defers h hh]
  have hd (b : Bool) := (if b then s.mornDated.put fMORN_RESULT 3 else s.mornDated).mornDeferred_deferred
    (if s.pwr.mornWait && !s.mornFalls then s.pwr.mornAt else s.grid.tick)
  refine ⟨(hd _).running.trans (hrunning _), (hd _).deferred, (hd _).wait, fun hf => ⟨((hd _).day.trans (hday _)).trans (if_pos hf), ?_⟩,
    fun hf hw hdusk => (hd _).result.trans (hresult _ (by rw [hf, hw, hdusk]; rfl))⟩
  exact (hd _).since.trans (if_neg (by rw [hf]; simp))

theorem mornNext_idle (h : s.flag fMORN_RUNNING = false ∨ s.mornReady = false) : s.mornNext = s := by
  unfold mornNext
  rw [if_pos]
  rcases h with h | h <;> simp [h]

theorem mornProbe_kept_bank (s : State) (n : Nat) : (s.mornProbe n).pwr.mornBank = s.pwr.mornBank := by
  unfold mornProbe
  split <;> rfl

theorem mornSwitch_kept_bank (s : State) (n : Nat) : (s.mornSwitch n).pwr.mornBank = s.pwr.mornBank := by
  have hopen (t : State) : (t.bankOpen n).pwr = t.pwr := (bankOpen_kept (T := [.regs, .banks]) (by decide) n (.refl t)).pwr_eq
  have hpwr (t : State) (c : Prop) [Decidable c] : (if c then t.bankOpen n else t).pwr = t.pwr := by
    split
    · exact hopen t
    · rfl
  unfold mornSwitch
  dsimp only
  split
  · rfl
  · rw [hpwr]

/-- A part of the check before the last leads to the next one. -/
theorem mornNext_next (h : s.flag fMORN_RUNNING = true) (hr : s.mornReady = true) (hb : s.pwr.mornBank < 15) :
    s.mornNext.pwr.mornBank = s.pwr.mornBank + 1 ∧ s.mornNext.flag fMORN_RUNNING = true := by
  have hbank (t : State) (n : Nat) : (if s.pwr.mornBank % 2 = 0 then t.mornProbe n else t.mornSwitch n).pwr.mornBank = t.pwr.mornBank := by
    split
    · exact t.mornProbe_kept_bank n
    · exact t.mornSwitch_kept_bank n
  have hwr (t : State) (n : Nat) : Wr [(0x204, 0)] t (if s.pwr.mornBank % 2 = 0 then t.mornProbe n else t.mornSwitch n) :=
    .ite (mornProbe_wr (by decide) n (.refl t)) (mornSwitch_wr (by decide) n (.refl t))
  have hend (t : State) (ht : t.pwr.mornBank = s.pwr.mornBank + 1) : t.mornEnd = t := by
    unfold mornEnd
    rw [if_pos]
    have hne : t.pwr.mornBank ≠ 16 := by omega
    simp [hne]
  have hall (t : State) (n : Nat) (ht : t.pwr.mornBank = s.pwr.mornBank + 1) (hf : t.flag fMORN_RUNNING = true) :
      (if s.pwr.mornBank % 2 = 0 then t.mornProbe n else t.mornSwitch n).mornEnd.pwr.mornBank = s.pwr.mornBank + 1
        ∧ (if s.pwr.mornBank % 2 = 0 then t.mornProbe n else t.mornSwitch n).mornEnd.flag fMORN_RUNNING = true := by
    rw [hend _ ((hbank t n).trans ht)]
    exact ⟨(hbank t n).trans ht, ((hwr t n).flag _ (by decide)).trans hf⟩
  have heq : s.mornNext = (if s.pwr.mornBank % 2 = 0
      then ({ s with pwr := { s.pwr with mornBank := s.pwr.mornBank + 1 } } : State).mornProbe (s.pwr.mornBank / 2)
      else ({ s with pwr := { s.pwr with mornBank := s.pwr.mornBank + 1 } } : State).mornSwitch (s.pwr.mornBank / 2)).mornEnd := by
    unfold mornNext
    dsimp only
    rw [if_neg (by rw [h, hr]; decide)]
  rw [heq]
  exact hall _ _ rfl h

theorem mornSkip_idle (h : s.pwr.mornWait = false ∨ s.inDusk = true ∨ s.grid.tick < s.pwr.mornAt + 600 * tps) : s.mornSkip = s := by
  unfold mornSkip
  rw [if_pos]
  simpa [or_assoc] using h

theorem mornSkip_skipped (hw : s.pwr.mornWait = true) (hd : s.inDusk = false) (ht : s.pwr.mornAt + 600 * tps ≤ s.grid.tick) :
    s.mornSkip.get fMORN_RESULT = 3 ∧ s.mornSkip.flag fMORN_DEFERRED = false ∧ s.mornSkip.pwr = { s.pwr with mornWait := false } := by
  have hget (t : State) (x : Power) (f : Fld) : ({ t with pwr := x } : State).flag f = t.flag f := rfl
  have heq : s.mornSkip = { (s.putFlag fMORN_DEFERRED false).put fMORN_RESULT 3 with pwr := { s.pwr with mornWait := false } } := by
    unfold mornSkip
    rw [if_neg (by simp only [hw, hd, Bool.not_true, Bool.or_false, Bool.false_or, decide_eq_true_eq, Nat.not_lt]; exact ht)]
  rw [heq]
  exact ⟨(get_pwr _ _ _).trans (get_put_fits _ fMORN_RESULT (by decide)),
    (hget _ _ _).trans ((flag_put_apart (f := fMORN_RESULT) (g := fMORN_DEFERRED) _ 3).trans (flag_putFlag _ fMORN_DEFERRED false)), rfl⟩

end State

theorem exec_duskEntry (s : State) : exec .duskEntry s = .next s.duskEntry := rfl
theorem exec_duskWakeEvent (src : Option (BitVec 8)) (s : State) : exec (.duskWakeEvent src) s = .next (s.duskWake (src.map (·.toNat))) := rfl
theorem exec_duskExitResume (s : State) : exec .duskExitResume s = .next s.duskResume := rfl
theorem exec_morningCheckFire (s : State) : exec .morningCheckFire s = .next s.mornFire := rfl
theorem exec_morningBankStart (s : State) : exec .morningBankStart s = .next s.mornNext := rfl
theorem exec_morningCheckSkip (s : State) : exec .morningCheckSkip s = .next s.mornSkip := rfl

/-- Settles O34: what stops the blocks raises no source that rises in Dusk, and what resumes them finds no sleep to end. -/
theorem duskAndMorning : Obligations.DuskAndMorning := by
  unfold Obligations.DuskAndMorning
  intro n s held may begins sleeps
  have hmay : may → s.MornMay := id
  have hheld : held → s.MornHeld := id
  have hsome : exec (.duskWakeEvent (some n)) s = .next (s.raise n.toNat) := exec_duskWakeEvent (some n) s
  refine ⟨fun hlost h => ?begun, fun hlost h => ?slept, fun h => ?idle, fun h => ?device, fun h => ?noDusk, fun h hsel hl hr hn => ?woken,
    fun h hp hsel hl => ?abandoned, fun hsel => ?unselected, fun h => ?quiet, fun h4 hr => ?resumes, fun h => ?noResume, fun h hh => ?fires,
    fun h hh => ?defers, fun h => ?noFire, fun h hr hb => ?next, fun h => ?noNext, fun hw hd ht => ?skips, fun h => ?waits⟩
  case begun =>
    have hb := State.duskEntry_begun hlost h
    exact Completes.of_eq (exec_duskEntry s) ⟨hb.state, hb.pend, hb.aborted, hb.pwr, hb.kept.only, hb.wr.onlyRegs⟩
  case slept =>
    obtain ⟨hstate, hrule, hres, hready⟩ := State.duskEntry_slept hlost h
    exact Completes.of_eq (exec_duskEntry s) ⟨hstate, hrule, hres, hready, (State.duskEntry_kept (by decide) (.refl s)).only⟩
  case idle => exact Completes.of_eq (exec_duskEntry s) (State.duskEntry_idle h)
  case device =>
    have hw := State.duskExit_waking (cause := 3) (by decide) h
    exact Completes.of_eq (exec_duskWakeEvent none s) ⟨hw.state, hw.wake, hw.tick, hw.woke, hw.resumed, (State.duskExit_kept (by decide) 3 (.refl s)).only,
      (State.duskExit_wr (by decide) 3 (.refl s)).onlyRegs⟩
  case noDusk => exact Completes.of_eq (exec_duskWakeEvent none s) (State.duskExit_of_not 3 h)
  case woken =>
    have hw := State.raise_woken (by omega) hl hr hsel h
    exact Completes.of_eq hsome ⟨State.sourcePending_raise hl (.inr hr), hw.1, hw.2.1, hw.2.2.1, hw.2.2.2, (State.raise_kept (by decide) _ (.refl s)).only⟩
  case abandoned => exact Completes.of_eq hsome (State.raise_abandoned hl hsel h hp)
  case unselected => exact Completes.of_eq hsome ⟨State.raise_unselected hsel, fun hl hr => State.sourcePending_raise hl hr⟩
  case quiet => exact Completes.of_eq hsome (h.elim State.raise_unlisted fun ⟨hd, hr⟩ => State.raise_quiet hd hr)
  case resumes =>
    obtain ⟨hexit, hstart⟩ := State.duskResume_resumed h4 hr
    exact Completes.of_eq (exec_duskExitResume s) ⟨hexit.state, hexit.resumed, hstart, (State.duskResume_kept (by decide) (.refl s)).only⟩
  case noResume => exact Completes.of_eq (exec_duskExitResume s) (State.duskResume_idle h)
  case fires =>
    have hb := s.mornDated.mornBegun_begun
    refine Completes.of_eq ((exec_morningCheckFire s).trans (by rw [State.mornFire_begins (hmay h) hh]))
      ⟨hb.running, hb.deferred, hb.bankFail, hb.bank, hb.wait, hb.since, ?_⟩
    rw [← State.mornFire_begins (hmay h) hh]
    exact (State.mornFire_kept (by decide) (.refl s)).only
  case defers =>
    obtain ⟨hrun, hdef, hwait, hday, hres⟩ := State.mornFire_deferred (hmay h) (hheld hh)
    exact Completes.of_eq (exec_morningCheckFire s) ⟨hrun, hdef, hwait, hday, hres, (State.mornFire_kept (by decide) (.refl s)).only⟩
  case noFire => exact Completes.of_eq (exec_morningCheckFire s) (State.mornFire_idle h)
  case next =>
    obtain ⟨hbank, hrun⟩ := State.mornNext_next h hr hb
    exact Completes.of_eq (exec_morningBankStart s) ⟨hbank, hrun, (State.mornNext_kept (by decide) (.refl s)).only⟩
  case noNext => exact Completes.of_eq (exec_morningBankStart s) (State.mornNext_idle h)
  case skips =>
    obtain ⟨hres, hdef, hpwr⟩ := State.mornSkip_skipped hw hd ht
    exact Completes.of_eq (exec_morningCheckSkip s) ⟨hres, hdef, hpwr, (State.mornSkip_kept (by decide) (.refl s)).only⟩
  case waits => exact Completes.of_eq (exec_morningCheckSkip s) (State.mornSkip_idle h)

end Sys2Proof.Machine
end

section
/-! Nightwatch and the processors: heartbeats, losses and restarts, memory errors and the latched groups (O35). -/

namespace Sys2Proof.Machine
namespace State

variable {s t : State}

-- The rules run on

theorem rulesRun_congr (hstate : t.pstate = s.pstate) (hphase : t.get fPWR_PHASE = s.get fPWR_PHASE) (hpwr : t.pwr = s.pwr) :
    t.rulesRun = s.rulesRun := by
  rw [rulesRun, lampsKept, inDusk, hstate, hphase, hpwr, rulesRun, lampsKept, inDusk]

theorem lampsKept_of_rules (h : s.rulesRun = true) : s.lampsKept = false := by
  simp only [rulesRun, Bool.and_eq_true, Bool.not_eq_true'] at h
  exact h.1.1

theorem rulesRun_awake (h : s.rulesRun = true) : s.inDusk = false := by
  have hkept := lampsKept_of_rules h
  simp only [lampsKept, Bool.or_eq_false_iff] at hkept
  exact hkept.1

theorem duskAbandon_rules (h : s.rulesRun = true) : s.duskAbandon.rulesRun = true := by
  unfold duskAbandon
  split
  · have hget (f : Fld) (ha : f.addr = aDEV_PWR_STAT) (hlo : 24 ≤ f.lo) : ((s.putFlag fPWR_DUSK_PEND false).putFlag fPWR_ABORTED true).get f = s.get f :=
      (get_putFlag_apart _ (f := fPWR_ABORTED) (g := f) true (by decide) ha (.inr (le_trans (by decide) hlo))).trans
        (get_putFlag_apart s (f := fPWR_DUSK_PEND) (g := f) false (by decide) ha (.inr (le_trans (by decide) hlo)))
    exact (rulesRun_congr (hget fPWR_STATE rfl (by decide)) (hget fPWR_PHASE rfl (by decide)) (by rw [putFlag_pwr, putFlag_pwr])).trans h
  split
  case isTrue h2 =>
    have hlatched : s.pwr.latched = false := by
      have hkept := lampsKept_of_rules h
      rw [lampsKept, h2] at hkept
      exact (by simpa using hkept : _ ∧ _).2
    have hstate : ((s.putFlag fPWR_ABORTED true).put fPWR_STATE 1).pstate = 1 := get_put_fits _ fPWR_STATE (by decide)
    have hphase : ((s.putFlag fPWR_ABORTED true).put fPWR_STATE 1).get fPWR_PHASE = s.get fPWR_PHASE :=
      (get_put_apart _ (f := fPWR_STATE) (g := fPWR_PHASE) 1 (by decide) rfl (by decide)).trans
        (get_putFlag_apart s (f := fPWR_ABORTED) (g := fPWR_PHASE) true (by decide) rfl (by decide))
    have hrun (u : State) (x : Power) (h1 : u.pstate = 1) (hg : x.good = s.pwr.good) (hp : u.get fPWR_PHASE = s.get fPWR_PHASE) :
        ({ u with pwr := x } : State).rulesRun = true := by
      simp only [rulesRun, Bool.and_eq_true] at h ⊢
      obtain ⟨⟨-, hph⟩, hgood⟩ := h
      refine ⟨⟨?_, ?_⟩, ?_⟩
      · have h1' : ({ u with pwr := x } : State).pstate = 1 := h1
        rw [lampsKept, inDusk, h1']
        rfl
      · rw [get_pwr, hp]
        exact hph
      · exact hg.trans hgood
    dsimp only
    rw [if_neg (by rw [hlatched]; decide)]
    exact hrun _ _ hstate (by rw [put_pwr, putFlag_pwr]) hphase
  · exact h

theorem nwWake_rules (n : Nat) (h : s.rulesRun = true) : (s.nwWake n).rulesRun = true := by
  unfold nwWake
  split
  · exact h
  rw [if_neg (pstate_of_awake (rulesRun_awake h))]
  split
  · exact (rulesRun_congr (get_of_rd (f := fPWR_STATE) (rd_put_other s (f := fNWSTAT_SRC) n (by decide)))
      (get_of_rd (f := fPWR_PHASE) (rd_put_other s (f := fNWSTAT_SRC) n (by decide))) (by rw [put_pwr])).trans h
  · exact duskAbandon_rules h

theorem rules_same (hrd : t.rd aDEV_PWR_STAT = s.rd aDEV_PWR_STAT) (hpwr : t.pwr = s.pwr) (h : s.rulesRun = true) : t.rulesRun = true :=
  (rulesRun_congr (get_of_rd (f := fPWR_STATE) hrd) (get_of_rd (f := fPWR_PHASE) hrd) hpwr).trans h

theorem rules_of_kept {T : List Comp} (h : Kept T s t) (hs : s.rulesRun = true) (hT : Comp.regs ∉ T ∧ Comp.pwr ∉ T := by decide) : t.rulesRun = true :=
  rules_same (by rw [rd, h.regs_eq hT.1, rd]) (h.pwr_eq hT.2) hs

theorem raise_rules (n : Nat) (h : s.rulesRun = true) : (s.raise n).rulesRun = true := by
  unfold raise
  split
  · exact h
  split
  · exact h
  · exact rules_of_kept (refreshIcu_kept (T := [.icu]) (by decide) (.refl _))
      (nwWake_rules n (rules_of_kept (pendSet_kept (T := [.icu]) (by decide) _ _ (.refl s)) h))

theorem rules_steady : Steady fun s => s.rulesRun = true where
  same _ _ := rules_same
  raise _ n _ := raise_rules n

-- What an activation does to the ring

/-- Ports whose rate changes restart their link. -/
def ratesSet (s : State) : State :=
  [0, 1].foldl (fun s p =>
    if s.get (fRING_RATEP p) = s.get (fRP_RATE p) then s else (s.put (fRP_RATE p) (s.get (fRING_RATEP p))).sfOnset p false) s

/-- EVENT frames begin at the newest record. -/
def eventsBegun (old s : State) : State :=
  if s.flag fRING_EVT_EN && !old.flag fRING_EVT_EN then s.setRing { s.ring with evtNext := (s.rd aEVT_HEAD).toNat } else s

/-- The words of a launch descriptor and its template. -/
def launchWords (x : State) (d : Nat) : Tab Word := x.cfg.words.filter fun p =>
  decide (loc 4 (8 * d) ≤ p.1 ∧ p.1 < loc 4 (8 * d + 8)) || decide (loc 5 (500 * d) ≤ p.1 ∧ p.1 < loc 5 (500 * d + 500))

/-- Changed launch descriptors. -/
def launchesChanged (old s : State) : State :=
  ((List.range 128).filter fun d => launchWords s d != launchWords old d).foldl (fun s d => s.ldChanged d) s

/-- What the configuration says of the neighbours. -/
def nbrWords (x : State) : List Word × Bool := ((List.range 2).flatMap fun p => [x.rd (aRING_NBR p 0), x.rd (aRING_NBR p 1)], x.flag fRING_XAUTO)

/-- Learnt neighbours are judged anew where the configuration says otherwise than before. -/
def nbrsJudged (old s : State) : State := if nbrWords s = nbrWords old then s else s.nbrAgain

theorem effRing_eq (old s : State) : effRing old s = nbrsJudged old (launchesChanged old (eventsBegun old s.ratesSet)) := rfl

theorem lt_two_of_mem {p : Nat} (h : p ∈ [0, 1]) : p < 2 := by
  simp only [List.mem_cons, List.not_mem_nil, or_false] at h
  omega

theorem nbrCompare_steady {Q : State → Prop} (hQ : Steady Q) (p : Fin 2) (node : Nat) (told : Bool) (h : Q s) : Q (s.nbrCompare p node told) := by
  have hcrossAddr : (fRP_CROSSED p).addr ≠ aDEV_PWR_STAT := by revert p; decide
  have hbadAddr : (fRP_NBR_MISMATCH p).addr ≠ aDEV_PWR_STAT := by revert p; decide
  have hraised (t : State) (b : Bool) (ht : Q t) :
      Q (if b then (t.logFw evRING_CROSSED kPORT p [node / 2 ^ 32, node % 2 ^ 32]).raise srcRING else t) := by
    split
    · exact hQ.raise _ srcRING (by decide) (hQ.logFw _ _ _ _ ht)
    · exact ht
  have hlogged (t : State) (b : Bool) (ht : Q t) : Q (if b then t.logFw evNBR_MISMATCH kPORT p [node / 2 ^ 32, node % 2 ^ 32] else t) := by
    split
    · exact hQ.logFw _ _ _ _ ht
    · exact ht
  exact hlogged _ _ (hraised _ _ (hQ.putFlag _ _ hbadAddr (hQ.putFlag _ _ hcrossAddr h)))

theorem nbrAgain_steady {Q : State → Prop} (hQ : Steady Q) (h : Q s) : Q s.nbrAgain := by
  have hstep (t : State) (ht : Q t) (p : Nat) (hp : p ∈ [0, 1]) : Q (if t.learnt p = 0 then t else t.nbrCompare p (t.learnt p) false) := by
    split
    · exact ht
    · exact nbrCompare_steady hQ ⟨p, lt_two_of_mem hp⟩ _ _ ht
  have hswap (t : State) (ht : Q t) : Q t.swapOn := by
    unfold swapOn
    split
    · exact hQ.epochUp (hQ.putFlag _ _ (by decide) ht)
    · exact ht
  exact hswap _ (List.foldlRecOn [0, 1] _ h hstep)

theorem ratesSet_steady {Q : State → Prop} (hQ : Steady Q) (h : Q s) : Q s.ratesSet := by
  have haddr (p : Fin 2) : (fRP_RATE p).addr ≠ aDEV_PWR_STAT := by revert p; decide
  have hstep (t : State) (ht : Q t) (p : Nat) (hp : p ∈ [0, 1]) : Q (if t.get (fRING_RATEP p) = t.get (fRP_RATE p) then t
      else (t.put (fRP_RATE p) (t.get (fRING_RATEP p))).sfOnset p false) := by
    split
    · exact ht
    · exact hQ.sfOnset ⟨p, lt_two_of_mem hp⟩ false (hQ.put _ _ (haddr ⟨p, lt_two_of_mem hp⟩) ht)
  exact List.foldlRecOn [0, 1] _ h hstep

theorem effRing_steady {Q : State → Prop} (hQ : Steady Q) (old : State) (h : Q s) : Q (effRing old s) := by
  have hbegun (t : State) (ht : Q t) : Q (eventsBegun old t) := by
    unfold eventsBegun
    split
    · exact hQ.same t _ rfl rfl ht
    · exact ht
  have hchanged (t : State) (ht : Q t) : Q (launchesChanged old t) :=
    hQ.of_wr (R := [(0x3040, 4), (0x7040, 4)]) (T := [.regs, .ring, .ptp]) (Wr.fold (fun _ d hw => ldChanged_wr (by decide) d hw) (.refl t))
      (Kept.fold (fun _ d hk => ldChanged_kept (by decide) d hk) (.refl t)) ht
  have hjudged (t : State) (ht : Q t) : Q (nbrsJudged old t) := by
    unfold nbrsJudged
    split
    · exact ht
    · exact nbrAgain_steady hQ ht
  rw [effRing_eq]
  exact hjudged _ (hchanged _ (hbegun _ (ratesSet_steady hQ h)))

-- An activation

theorem foldSet_get {d : Nat → Word} {l : List (Nat × Word)} {a : Nat} : ∀ r : Tab Word, (∀ p ∈ l, p.1 ≠ a) →
    tabGet d (l.foldl (fun (r : Tab Word) p => tabSet d r p.1 p.2) r) a = tabGet d r a := by
  induction l with
  | nil => exact fun _ _ => rfl
  | cons p l ih =>
    intro r h
    rw [List.foldl_cons, ih _ fun q hq => h q (List.mem_cons_of_mem p hq), tabGet_set, if_neg (h p List.mem_cons_self).symm]

theorem tabGet_filter {α : Type} (d : Nat → α) {f : Nat × α → Bool} {a : Nat} (hf : ∀ v, f (a, v) = true) :
    ∀ r : Tab α, tabGet d (r.filter f) a = tabGet d r a
  | [] => rfl
  | (b, v) :: r => by
    have ih := tabGet_filter d hf r
    by_cases hb : b = a
    · subst hb
      rw [List.filter_cons_of_pos (hf v), tabGet, if_pos rfl, tabGet, if_pos rfl]
    · cases hk : f (b, v) with
      | false => rw [List.filter_cons_of_neg (by rw [hk]; decide), ih, tabGet, if_neg hb]
      | true => rw [List.filter_cons_of_pos hk, tabGet, if_neg hb, ih, tabGet, if_neg hb]

theorem putWords_rd (tab : Tab Word) (loop : Bool) {a : Nat} (ha : isConfig a = false) : (s.putWords tab loop).rd a = s.rd a := by
  refine (foldSet_get _ fun p hp he => ?_).trans (tabGet_filter resetWord (fun v => by simp [ha]) s.regs)
  obtain ⟨-, hp⟩ := List.mem_filter.1 hp
  rw [he] at hp
  simp [ha] at hp

theorem effMorn_rules (old : State) (h : s.rulesRun = true) : (effMorn old s).rulesRun = true := by
  unfold effMorn
  split
  · exact h
  · exact h

/-- The effects of an activation before those on the ring. -/
def effectsBefore (old : State) (r : CfgRep) (s : State) : State :=
  effAdc old (effBright old (effLoops old (effObs old (effRules old (effLamp old s r)))))

/-- The effects of an activation from those on the ring to those on the pattern engines. -/
def effectsAfter (old s : State) : State := effPat old (effIcu old (effTime old s))

theorem effectsBefore_rules (old : State) (r : CfgRep) (h : s.rulesRun = true) : (effectsBefore old r s).rulesRun = true :=
  rules_steady.of_wr (R := [(0x200C, 16), (0x2900, 0), (0x12000, 4), (0x14000, 4), (0x230, 0), (0x16104, 0), (0x18000, 0), (0x18500, 4), (0x220, 0)])
    (T := [.regs, .mem, .chans, .rule, .res, .obs, .dim, .adc])
    (effAdc_wr (by decide) _ (effBright_wr (by decide) _ (effLoops_wr (by decide) _ (effObs_wr (by decide) _ (effRules_wr (by decide) _
      (effLamp_wr (by decide) _ r (.refl s)))))))
    (effAdc_kept (by decide) _ (effBright_kept (by decide) _ (effLoops_kept (by decide) _ (effObs_kept (by decide) _ (effRules_kept (by decide) _
      (effLamp_kept (by decide) _ r (.refl s))))))) h

theorem effectsAfter_rules (old : State) (h : s.rulesRun = true) : (effectsAfter old s).rulesRun = true :=
  rules_steady.of_wr (R := [(0x220, 0), (0x3030, 4)]) (T := [.regs, .time, .obs, .dim, .icu])
    (effPat_wr (by decide) _ (effIcu_wr (by decide) _ (effTime_wr (by decide) _ (.refl s))))
    (effPat_kept (by decide) _ (effIcu_kept (by decide) _ (effTime_kept (by decide) _ (.refl s)))) h

/-- The words, slot and generation of an activation stand. -/
def wordsStand (s : State) (tab : Tab Word) (loop : Bool) (d : Tab Nat) (slot gen : Nat) : State :=
  let s := s.putWords tab loop
  let s := s.setCfg { s.cfg with disabled := d }
  (((s.put fCFG_SLOT slot).wr aDEV_CFG_GEN gen).putFlag fCFG_NONE false).lifeAcc (lifeDevice + 56) 1

theorem wordsStand_rules (tab : Tab Word) (loop : Bool) (d : Tab Nat) (slot gen : Nat) (h : s.rulesRun = true) :
    (s.wordsStand tab loop d slot gen).rulesRun = true := by
  have hset (u : State) (x : Cfg) (hu : u.rulesRun = true) : (u.setCfg x).rulesRun = true := hu
  have hshown (u : State) (hu : u.rulesRun = true) :
      ((((u.put fCFG_SLOT slot).wr aDEV_CFG_GEN gen).putFlag fCFG_NONE false).lifeAcc (lifeDevice + 56) 1).rulesRun = true :=
    rules_steady.of_wr (R := [(aDEV_CFG_GEN, 0), (0x260, 0)]) (T := [.regs, .life])
      (lifeAcc_wr (by decide) _ _ (putFlag_wr (by decide) (wr_wr (by decide) (put_wr (by decide) (.refl u)))))
      (lifeAcc_kept (by decide) _ _ (putFlag_kept (by decide) _ _ (wr_kept (by decide) _ _ (put_kept (by decide) _ _ (.refl u))))) hu
  exact hshown _ (hset _ _ (rules_same (s.putWords_rd tab loop rfl) rfl h))

theorem activate_rules (tab : Tab Word) (loop : Bool) (d : Tab Nat) (r : CfgRep) (slot gen : Nat) (h : s.rulesRun = true) :
    (s.activate tab loop d r slot gen).rulesRun = true := by
  have hdisc (u : State) (hu : u.rulesRun = true) : u.discN.rulesRun = true :=
    rules_steady.of_wr (discN_wr (R := [(0x6014, 0)]) (by decide) (.refl u)) (discN_kept (T := [.regs]) (by decide) (.refl u)) hu
  exact hdisc _ (effMorn_rules s (effectsAfter_rules s (effRing_steady rules_steady s (effectsBefore_rules s r
    (wordsStand_rules tab loop d slot gen h)))))

theorem loadSlot_rules (i : Nat) (h : s.rulesRun = true) : (s.loadSlot i).rulesRun = true := by
  have hreport (u : State) (l : List (Nat × Nat)) (r : CfgRep) (hu : u.rulesRun = true) : ((u.flash l).setReport 0x02 r 0 0x7FFFE 0 0).rulesRun = true :=
    rules_steady.of_wr (R := [(0x260, 0)]) (T := [.regs, .cfg, .fspi]) (setReport_wr (by decide) _ _ _ _ _ _ (flash_wr (by decide) _ (.refl u)))
      (setReport_kept (by decide) _ _ _ _ _ _ (flash_kept (by decide) _ (.refl u))) hu
  exact hreport _ _ _ (activate_rules _ _ _ _ _ _ h)

-- What a raise leaves of the Nightwatch domain

/-- Of the Nightwatch domain only the watch on the heartbeats begins again. -/
structure BeatsOnly (s t : State) : Prop where
  beats : ∃ a b, t.nw = { s.nw with sc0Beat := a, sc1Beat := b }

namespace BeatsOnly

variable {u : State}

theorem refl (s : State) : BeatsOnly s s := ⟨s.nw.sc0Beat, s.nw.sc1Beat, rfl⟩

theorem of_eq (h : t.nw = s.nw) : BeatsOnly s t := ⟨s.nw.sc0Beat, s.nw.sc1Beat, h⟩

theorem trans (h : BeatsOnly s t) (g : BeatsOnly t u) : BeatsOnly s u := by
  obtain ⟨a, b, h⟩ := h
  obtain ⟨c, d, g⟩ := g
  exact ⟨c, d, by rw [g, h]⟩

theorem cause (h : BeatsOnly s t) : t.nw.sc0Cause = s.nw.sc0Cause ∧ t.nw.sc0Addr = s.nw.sc0Addr ∧ t.nw.sc0LostAt = s.nw.sc0LostAt := by
  obtain ⟨a, b, h⟩ := h
  rw [h]
  exact ⟨rfl, rfl, rfl⟩

theorem tick (h : BeatsOnly s t) : t.nw.tick = s.nw.tick := by
  obtain ⟨a, b, h⟩ := h
  rw [h]

theorem step (h : BeatsOnly s t) : t.nw.sc0Step = s.nw.sc0Step := by
  obtain ⟨a, b, h⟩ := h
  rw [h]

theorem duskExit (s : State) (k : Nat) : BeatsOnly s (s.duskExit k) := by
  have hend (t : State) (x : Power) (z : Icu) (a b : Nat) :
      BeatsOnly t { t with pwr := x, nw := { t.nw with sc0Beat := a, sc1Beat := b }, icu := z } := ⟨a, b, rfl⟩
  unfold State.duskExit
  split
  · exact (of_eq (by rw [putFlag_nw, put_nw, put_nw])).trans (hend _ _ _ _ _)
  · exact refl s

theorem raise (s : State) (n : Nat) : BeatsOnly s (s.raise n) := by
  have hwake (t : State) : BeatsOnly t (t.nwWake n) := by
    unfold State.nwWake
    split
    · exact refl t
    split
    · exact (duskExit t 2).trans (of_eq (by rw [put_nw, putFlag_nw]))
    split
    · exact of_eq (put_nw _ _ _)
    · exact of_eq ((duskAbandon_kept (T := [.regs, .pwr]) (by decide) (.refl t)).nw_eq)
  have hset (t : State) (k : Nat) (w : Word) : BeatsOnly t (t.pendSet k w) := of_eq ((pendSet_kept (T := [.icu]) (by decide) k w (.refl t)).nw_eq)
  have hicu (t : State) : BeatsOnly t t.refreshIcu := of_eq ((refreshIcu_kept (T := [.icu]) (by decide) (.refl t)).nw_eq)
  unfold State.raise
  split
  · exact refl s
  split
  · exact refl s
  · exact ((hset s _ _).trans (hwake _)).trans (hicu _)

theorem fltSet (s : State) (n c : Nat) : BeatsOnly s (s.fltSet n c) := by
  unfold State.fltSet
  split
  · exact refl s
  split
  · exact (of_eq (by rw [put_nw, put_nw, putFlag_nw, put_nw])).trans (raise _ srcFAULT)
  · exact of_eq (put_nw _ _ _)

end BeatsOnly

-- SC0 is lost (R435, R436, R440)

/-- Commits freeze outside Midnight. -/
def frozenNow (s : State) : State := if s.midnight then s else s.putFlag fNW_FROZEN true

/-- The loss is marked. -/
def lossMarked (s : State) (cause addr : Nat) : State :=
  ((s.setNw { s.nw with sc0Cause := cause, sc0Addr := addr, sc0LostAt := s.nw.tick, sc0Step := 0, sc0Wrong := 0 }).putFlag fNW_SC0_LOST true).frozenNow

/-- A Morning check ends with the loss. -/
def mornCut (s : State) : State := if s.flag fMORN_RUNNING then s.mornAbort else s

/-- An entry into Dusk ends with the loss, with no step of an exit. -/
def entryCut (s : State) : State := if s.pstate == 2 then s.duskAbandon.put fPWR_STATE 1 else s.duskAbandon

theorem sc0Lost_eq (cause addr : Nat) (hgood : s.pwr.good = true) (hD0 : ¬ (s.pstate = 0 ∧ s.get fPWR_PHASE = 0))
    (hwaits : ¬ (s.flag fNW_SC0_LOST = true ∧ s.nw.sc0Step = 0)) :
    s.sc0Lost cause addr = (((s.lossMarked cause addr).mornCut).entryCut).fltSet 14 0 := by
  unfold sc0Lost
  rw [if_neg (by simpa [hgood] using ⟨fun h1 h2 => hD0 ⟨h1, h2⟩, fun h1 h2 => hwaits ⟨h1, h2⟩⟩)]
  rfl

theorem sc0Lost_waits (cause addr : Nat) (hwaits : s.flag fNW_SC0_LOST = true ∧ s.nw.sc0Step = 0) : s.sc0Lost cause addr = s := by
  unfold sc0Lost
  rw [if_pos (by simp [hwaits.1, hwaits.2])]

theorem frozenNow_kept (s : State) : Kept [.regs] s s.frozenNow := .ite (.refl s) (putFlag_kept (by decide) _ _ (.refl s))

theorem frozenNow_wr (s : State) : Wr [(0x2A8, 0)] s s.frozenNow := .ite (.refl s) (putFlag_wr (by decide) (.refl s))

theorem frozenNow_lost (s : State) : s.frozenNow.flag fNW_SC0_LOST = s.flag fNW_SC0_LOST := by
  unfold frozenNow
  split
  · rfl
  · exact flag_putFlag_apart s (f := fNW_FROZEN) (g := fNW_SC0_LOST) true

theorem frozenNow_frozen (hmn : s.midnight = false) : s.frozenNow.flag fNW_FROZEN = true := by
  rw [frozenNow, if_neg (by rw [hmn]; decide)]
  exact flag_putFlag s fNW_FROZEN true

theorem lossMarked_kept (s : State) (cause addr : Nat) : Kept [.regs, .nw] s (s.lossMarked cause addr) :=
  (putFlag_kept (by decide) _ _ (setNw_kept (by decide) _ (.refl s))).trans ((frozenNow_kept _).mono (by decide))

theorem lossMarked_wr (s : State) (cause addr : Nat) : Wr [(0x2A8, 0)] s (s.lossMarked cause addr) :=
  (putFlag_wr (by decide) (setNw_wr (by decide) _ (.refl s))).trans (frozenNow_wr _)

theorem lossMarked_nw (s : State) (cause addr : Nat) : (s.lossMarked cause addr).nw =
    { s.nw with sc0Cause := cause, sc0Addr := addr, sc0LostAt := s.nw.tick, sc0Step := 0, sc0Wrong := 0 } :=
  (frozenNow_kept _).nw_eq.trans (putFlag_nw _ _ _)

theorem lossMarked_lost (s : State) (cause addr : Nat) : (s.lossMarked cause addr).flag fNW_SC0_LOST = true :=
  (frozenNow_lost _).trans (flag_putFlag _ fNW_SC0_LOST true)

theorem lossMarked_frozen (cause addr : Nat) (hmn : s.midnight = false) : (s.lossMarked cause addr).flag fNW_FROZEN = true := by
  have hput (t : State) : (t.putFlag fNW_SC0_LOST true).midnight = t.midnight := by
    rw [midnight, get_putFlag_apart t (f := fNW_SC0_LOST) (g := fNW_MN_CAUSE) true, midnight]
  have hset (x : Nightwatch) : (s.setNw x).midnight = s.midnight := rfl
  exact frozenNow_frozen ((hput _).trans ((hset _).trans hmn))

theorem mornCut_kept (s : State) : Kept [.regs, .pwr, .banks] s s.mornCut := .ite (mornAbort_kept (by decide) (.refl s)) (.refl s)

theorem mornCut_wr (s : State) : Wr [(0x274, 0)] s s.mornCut := .ite (mornAbort_wr (by decide) (.refl s)) (.refl s)

theorem entryCut_kept (s : State) : Kept [.regs, .pwr] s s.entryCut :=
  .ite (put_kept (by decide) _ _ (duskAbandon_kept (by decide) (.refl s))) (duskAbandon_kept (by decide) (.refl s))

theorem entryCut_wr (s : State) : Wr [(0x270, 0)] s s.entryCut :=
  .ite (put_wr (by decide) (duskAbandon_wr (by decide) (.refl s))) (duskAbandon_wr (by decide) (.refl s))

theorem duskAbandon_pend (s : State) : s.duskAbandon.flag fPWR_DUSK_PEND = false := by
  have hpwr (t : State) (x : Power) : ({ t with pwr := x } : State).flag fPWR_DUSK_PEND = t.flag fPWR_DUSK_PEND := rfl
  unfold duskAbandon
  split
  · exact (flag_putFlag_apart _ (f := fPWR_ABORTED) (g := fPWR_DUSK_PEND) true).trans (flag_putFlag s fPWR_DUSK_PEND false)
  next hpend =>
    split
    · dsimp only
      rw [hpwr, flag_put_apart _ (f := fPWR_STATE) (g := fPWR_DUSK_PEND), flag_putFlag_apart _ (f := fPWR_ABORTED) (g := fPWR_DUSK_PEND)]
      exact Bool.eq_false_iff.2 hpend
    · exact Bool.eq_false_iff.2 hpend

/-- The part runs again, and no request for Dusk stands. -/
structure EntryOver (t : State) : Prop where
  run : t.pstate = 1
  pend : t.flag fPWR_DUSK_PEND = false

theorem entryCut_run (h : s.pstate = 2) : EntryOver s.entryCut := by
  unfold entryCut
  rw [if_pos (by rw [h]; decide)]
  exact ⟨get_put_fits _ fPWR_STATE (by decide), (flag_put_apart _ (f := fPWR_STATE) (g := fPWR_DUSK_PEND) 1).trans s.duskAbandon_pend⟩

theorem raise_run (n : Nat) (h : s.pstate = 1) (hp : s.flag fPWR_DUSK_PEND = false) : (s.raise n).pstate = 1 := by
  have hstand (t : State) (ht : t.pstate = 1) (hp : t.flag fPWR_DUSK_PEND = false) : (t.nwWake n).pstate = 1 := by
    have habandon : t.duskAbandon = t := by
      unfold State.duskAbandon
      rw [if_neg (by rw [hp]; decide), if_neg (by rw [ht]; decide)]
    unfold nwWake
    rw [habandon, if_neg (c := t.pstate = 3) (by rw [ht]; decide), if_neg (c := t.pstate = 4 ∧ _) (by rw [ht]; simp)]
    split
    · exact ht
    · exact ht
  have hicu (t u : State) (hk : Kept [.icu] t u) (f : Fld) : u.get f = t.get f := by rw [get, rd, hk.regs_eq, ← rd, ← get]
  have hset := hicu _ _ (pendSet_kept (T := [.icu]) (by decide) (3 + n / 32) (BitVec.ofNat 32 (2 ^ (n % 32))) (.refl s))
  unfold raise
  split
  · exact h
  split
  · exact h
  · refine (hicu _ _ (refreshIcu_kept (by decide) (.refl _)) fPWR_STATE).trans (hstand _ ((hset _).trans h) ?_)
    rw [flag, hset, ← flag, hp]

theorem fltSet_run (n c : Nat) (h : s.pstate = 1) (hp : s.flag fPWR_DUSK_PEND = false) : (s.fltSet n c).pstate = 1 := by
  have hgroup (t : State) (v : Nat) (f : Fld) (hf : f.addr = aDEV_PWR_STAT) : (t.put (fFLT_GROUP n) v).get f = t.get f :=
    get_put_addr t v (by rw [hf]; exact (by decide : aDEV_PWR_STAT ≠ aDEV_FLT_ACT))
  have hfirst (t : State) (a b : Nat) (f : Fld) (hf : f.addr = aDEV_PWR_STAT) :
      (((t.putFlag fFLT_ANY true).put fFLTF_CLASS a).put fFLTF_BIT b).get f = t.get f :=
    Wr.get (R := [(0x2A0, 0), (0x2A4, 0)]) (put_wr (by decide) (put_wr (by decide) (putFlag_wr (by decide) (.refl t)))) f (by rw [hf]; decide)
  unfold fltSet
  split
  · exact h
  split
  · refine raise_run srcFAULT ((hfirst _ _ _ fPWR_STATE rfl).trans ((hgroup _ _ fPWR_STATE rfl).trans h)) ?_
    rw [flag, hfirst _ _ _ fPWR_DUSK_PEND rfl, hgroup _ _ fPWR_DUSK_PEND rfl, ← flag, hp]
  · exact (hgroup _ _ fPWR_STATE rfl).trans h

/-- SC0 is lost with its cause and error address, and its fault group is set. -/
structure Sc0Fallen (cause addr : Nat) (s u : State) : Prop where
  lost : u.flag fNW_SC0_LOST = true
  cause : u.nw.sc0Cause = cause
  addr : u.nw.sc0Addr = addr
  frozen : s.midnight = false → u.flag fNW_FROZEN = true
  run : s.pstate = 2 → u.pstate = 1
  lostAt : u.nw.sc0LostAt = s.nw.tick
  group : u.flag (fFLT_GROUP 14) = true

theorem sc0Lost_fallen (cause addr : Nat) (hgood : s.pwr.good = true) (hD0 : ¬ (s.pstate = 0 ∧ s.get fPWR_PHASE = 0))
    (hwaits : ¬ (s.flag fNW_SC0_LOST = true ∧ s.nw.sc0Step = 0)) : Sc0Fallen cause addr s (s.sc0Lost cause addr) := by
  have hrest (t : State) (f : Fld) (hf : f.addr = aDEV_NW_STAT) : (((t.mornCut).entryCut).fltSet 14 0).flag f = t.flag f :=
    (((t.mornCut_wr.mono (Q := [(0x274, 0), (0x270, 0), (0x2A0, 0), (0x2A4, 0), (0x1B070, 0)]) (by decide)).trans (t.mornCut.entryCut_wr.mono (by decide))).trans
      (fltSet_wr (by decide) 14 0 (.refl _))).flag f (by rw [hf]; decide)
  have hnw (t : State) : BeatsOnly t (((t.mornCut).entryCut).fltSet 14 0) :=
    ((BeatsOnly.of_eq t.mornCut_kept.nw_eq).trans (.of_eq t.mornCut.entryCut_kept.nw_eq)).trans (.fltSet _ 14 0)
  obtain ⟨hcause, haddr, hat⟩ := (hnw (s.lossMarked cause addr)).cause
  rw [lossMarked_nw] at hcause haddr hat
  rw [sc0Lost_eq cause addr hgood hD0 hwaits]
  exact
    { lost := (hrest _ _ rfl).trans (s.lossMarked_lost cause addr)
      cause := hcause
      addr := haddr
      frozen := fun hmn => (hrest _ _ rfl).trans (lossMarked_frozen cause addr hmn)
      run := fun h2 => by
        have hstate : (s.lossMarked cause addr).mornCut.pstate = 2 :=
          ((mornCut_wr _).get fPWR_STATE).trans (((s.lossMarked_wr cause addr).get fPWR_STATE).trans h2)
        obtain ⟨h1, hp⟩ := entryCut_run hstate
        exact fltSet_run 14 0 h1 hp
      lostAt := hat
      group := fltSet_flag _ 0 (by decide) (by decide) }

-- SC0 is reset (R437, R438)

theorem dropStaging_cfg (s : State) : s.dropStaging.cfg = { s.cfg with bytes := [], total := 0, owner := none } := by
  have hset (x : Cfg) : (s.setCfg x).cfg = x := rfl
  rw [dropStaging, showStaging, put_cfg, putFlag_cfg, hset]

theorem sc0Ends_cfg (s : State) : s.sc0Ends.cfg.wait = none ∧ s.sc0Ends.cfg.staged = none ∧ s.sc0Ends.cfg.bytes = [] ∧ s.sc0Ends.cfg.owner = none := by
  have htail (t : State) : (t.setCfg { t.cfg with wait := none, staged := none }).dropStaging.cfg =
      { t.cfg with wait := none, staged := none, bytes := [], total := 0, owner := none } := dropStaging_cfg _
  unfold sc0Ends
  dsimp only
  rw [htail]
  exact ⟨rfl, rfl, rfl, rfl⟩

/-- The restart is counted and begins. -/
def restartBegun (s : State) : State :=
  (s.sc0Ends.setNw { s.nw with sc0Starts := s.nw.tick :: (s.recent s.nw.sc0Starts).take 2, sc0Step := 1, sc0Code := 0, sc0Wrong := 0 }).put
    fNW_SC0_RST ((s.recent s.nw.sc0Starts).length + 1)

/-- The loss of SC0 has stood for a millisecond and its restart has not begun. -/
def Sc0Resets (s : State) : Prop := s.flag fNW_SC0_LOST = true ∧ s.nw.sc0Step = 0 ∧ s.nw.sc0LostAt + 25000 ≤ s.nw.tick

theorem sc0Reset_guard (h : s.Sc0Resets) : (!s.flag fNW_SC0_LOST || s.nw.sc0Step != 0 || decide (s.nw.tick < s.nw.sc0LostAt + 25000)) = false := by
  obtain ⟨hlost, hstep, hat⟩ := h
  rw [hlost, hstep, decide_eq_false (Nat.not_lt.2 hat)]
  rfl

theorem sc0Reset_of_not (h : ¬ s.Sc0Resets) : s.sc0Reset = s := by
  unfold sc0Reset
  refine if_pos ?_
  simp only [Sc0Resets, not_and, Nat.not_le] at h
  simp only [Bool.or_eq_true, Bool.not_eq_true', bne_iff_ne, decide_eq_true_eq]
  by_cases hlost : s.flag fNW_SC0_LOST = true
  · by_cases hstep : s.nw.sc0Step = 0
    · exact .inr (h hlost hstep)
    · exact .inl (.inr hstep)
  · exact .inl (.inl (Bool.eq_false_iff.2 hlost))

theorem sc0Reset_limit (h : s.Sc0Resets) (hpast : 3 ≤ (s.recent s.nw.sc0Starts).length) : s.sc0Reset = s.midnightEnter 2 := by
  unfold sc0Reset
  rw [if_neg (by rw [sc0Reset_guard h]; decide), if_pos hpast]

theorem restartBegun_pstate (s : State) : s.restartBegun.pstate = s.pstate :=
  Wr.get (R := [(0x240, 0), (0x244, 0), (0x260, 0), (0x280, 0), (0x2A8, 0), (0x5014, 0), (0x17000, 0)])
    (put_wr (by decide) (setNw_wr (by decide) _ (sc0Ends_wr (by decide) (.refl s)))) fPWR_STATE

theorem restartBegun_kept (s : State) : Kept [.regs, .evt, .nw, .cfg, .chans, .mtx, .spi, .adc, .mbx, .sec, .bist] s s.restartBegun :=
  put_kept (by decide) _ _ (setNw_kept (by decide) _ (sc0Ends_kept (by decide) (.refl s)))

theorem restartBegun_nw (s : State) : s.restartBegun.nw =
    { s.nw with sc0Starts := s.nw.tick :: (s.recent s.nw.sc0Starts).take 2, sc0Step := 1, sc0Code := 0, sc0Wrong := 0 } := by
  have hset (t : State) (x : Nightwatch) : (t.setNw x).nw = x := rfl
  rw [restartBegun, put_nw, hset]

theorem restartBegun_cfg (s : State) : s.restartBegun.cfg = s.sc0Ends.cfg := by
  have hset (t : State) (x : Nightwatch) : (t.setNw x).cfg = t.cfg := rfl
  rw [restartBegun, put_cfg, hset]

theorem restartBegun_count (hpast : (s.recent s.nw.sc0Starts).length < 3) :
    s.restartBegun.get fNW_SC0_RST = (s.recent s.nw.sc0Starts).length + 1 :=
  get_put_fits _ fNW_SC0_RST (by simp only [fNW_SC0_RST]; omega)

theorem sc0Reset_begun (h : s.Sc0Resets) (hpast : (s.recent s.nw.sc0Starts).length < 3) :
    s.sc0Reset = if s.pstate = 0 then s.restartBegun.dawnAgain else s.restartBegun := by
  rw [← s.restartBegun_pstate]
  unfold sc0Reset
  rw [if_neg (by rw [sc0Reset_guard h]; decide), if_neg (by omega)]
  rfl

/-- What a Dawn that begins again starts from, but for the registers that stand. -/
def dawnBase (s : State) : State :=
  let r := s.afresh
  { r with
    grid := s.grid
    time := s.time
    nw := { s.nw with sc0Step := 0, sc0Beat := s.nw.tick }
    evt := { r.evt with nwBuf := s.evt.nwBuf, nwDropped := s.evt.nwDropped }
    spi := { r.spi with mode := s.spi.mode }
    pins := { r.pins with mode3032Strap := s.pins.mode3032Strap }
    pwr := { r.pwr with
      good := true, dawnStart := s.pwr.dawnStart, phaseStart := s.nw.tick, phaseMs := s.pwr.phaseMs.take 1 } }

/-- The registers of `s` that stand in `r`. -/
def dawnStands (s r : State) : State :=
  let r := [aDEV_FLT_ACT, aDEV_FLT_FIRST, aDEV_GRID_STAT].foldl (fun (r : State) a => r.wr a (s.rd a).toNat) r
  ((r.put fNW_NWBUF (s.get fNW_NWBUF)).put fNW_SC0_RST (s.get fNW_SC0_RST)).putFlag fPWR_RESET_SEEN (s.flag fPWR_RESET_SEEN)

theorem dawnAgain_eq (s : State) : s.dawnAgain = ((dawnStands s s.dawnBase).put fPWR_PHASE 1).flashTable := rfl

theorem dawnStands_kept (s r : State) : Kept [.regs] r (dawnStands s r) :=
  putFlag_kept (by decide) _ _ (put_kept (by decide) _ _ (put_kept (by decide) _ _ (.fold (fun _ _ h => wr_kept (by decide) _ _ h) (.refl r))))

theorem get_lt (s : State) (f : Fld) : s.get f < 2 ^ f.width := Nat.mod_lt _ (Nat.two_pow_pos _)

theorem dawnStands_count (s r : State) : (dawnStands s r).get fNW_SC0_RST = s.get fNW_SC0_RST :=
  (get_putFlag_addr _ (f := fPWR_RESET_SEEN) (g := fNW_SC0_RST) _).trans (get_put_fits _ fNW_SC0_RST (s.get_lt fNW_SC0_RST))

/-- Dawn begins again at D1 on the running grid. -/
structure DawnAgain (s u : State) : Prop where
  phase : u.get fPWR_PHASE = 1
  nw : u.nw = { s.nw with sc0Step := 0, sc0Beat := s.nw.tick }
  count : u.get fNW_SC0_RST = s.get fNW_SC0_RST
  grid : u.grid = s.grid
  time : u.time = s.time

theorem dawnAgain_again (s : State) : DawnAgain s s.dawnAgain := by
  have hkept (r : State) : Kept [.regs, .fspi] r ((dawnStands s r).put fPWR_PHASE 1).flashTable :=
    flashTable_kept (by decide) (put_kept (by decide) _ _ ((dawnStands_kept s r).mono (by decide)))
  have hflash (t : State) (f : Fld) : t.flashTable.get f = t.get f := rfl
  rw [dawnAgain_eq]
  exact
    { phase := (hflash _ _).trans (get_put_fits _ fPWR_PHASE (by decide))
      nw := (hkept _).nw_eq
      count := (hflash _ _).trans ((get_put_addr _ (f := fPWR_PHASE) (g := fNW_SC0_RST) 1 (by decide)).trans (dawnStands_count s _))
      grid := (hkept _).grid_eq
      time := (hkept _).time_eq }

-- The recovery ends (R437, R440)

theorem fwReload_eq (s : State) : s.fwReload = s.setSec s.fwReload.sec := by
  have hload (b : List Byte) : s.fwLoad b = s.setSec (s.fwLoad b).sec := rfl
  have hself : s = s.setSec s.sec := rfl
  unfold fwReload
  split
  · exact hload _
  · exact hself

/-- The mark of an activated generation is missing. -/
def markDue (s : State) : Bool :=
  !(s.cfgSlot (s.get fCFG_SLOT)).marked && (s.cfgSlot (s.get fCFG_SLOT)).good && (s.cfgSlot (s.get fCFG_SLOT)).gen != 0
    && (s.cfgSlot (s.get fCFG_SLOT)).gen == (s.rd aDEV_CFG_GEN).toNat

theorem markAgain_eq (s : State) : s.markAgain = if s.markDue then (s.cfgMarkSlot (s.get fCFG_SLOT)).putFlag fCFG_MARK_REDONE true else s := rfl

theorem markAgain_setSec (s : State) (x : Sec) : (s.setSec x).markAgain = s.markAgain.setSec x := by
  have hdue : (s.setSec x).markDue = s.markDue := rfl
  have hmark (i : Nat) : (s.setSec x).cfgMarkSlot i = (s.cfgMarkSlot i).setSec x := rfl
  have hput (t : State) (f : Fld) (b : Bool) : (t.setSec x).putFlag f b = (t.putFlag f b).setSec x := rfl
  have hget : (s.setSec x).get fCFG_SLOT = s.get fCFG_SLOT := rfl
  rw [markAgain_eq, markAgain_eq, hdue, hget]
  split
  · rw [hmark, hput]
  · rfl

theorem markAgain_rules (h : s.rulesRun = true) : s.markAgain.rulesRun = true :=
  rules_steady.of_wr (markAgain_wr (R := [(0x260, 0)]) (by decide) (.refl s)) (markAgain_kept (T := [.regs, .cfg, .fspi]) (by decide) (.refl s)) h

/-- The firmware and a missing mark are back. -/
def firmwareBack (s : State) : State := s.fwReload.markAgain

theorem firmwareBack_eq (s : State) : s.firmwareBack = s.markAgain.setSec s.fwReload.sec := by
  rw [firmwareBack]
  conv_lhs => rw [s.fwReload_eq]
  exact s.markAgain_setSec _

theorem firmwareBack_sec (s : State) : s.firmwareBack.sec = s.fwReload.sec :=
  (markAgain_kept (T := [.regs, .cfg, .fspi]) (by decide) (.refl s.fwReload)).sec_eq

theorem firmwareBack_rules (h : s.rulesRun = true) : s.firmwareBack.rulesRun = true := by
  have hset (t : State) (x : Sec) : (t.setSec x).rulesRun = t.rulesRun := rfl
  rw [firmwareBack_eq, hset]
  exact markAgain_rules h

theorem firmwareBack_reload (s : State) (reload : Bool) : s.firmwareBack.reloadFrom reload = s.markAgain.reloadFrom reload := by
  have hset (t : State) (x : Sec) : (t.setSec x).reloadFrom reload = t.reloadFrom reload := rfl
  rw [firmwareBack_eq, hset]

theorem firmwareBack_grid (s : State) : s.firmwareBack.grid = s.grid := by
  have hset (t : State) (x : Sec) : (t.setSec x).grid = t.grid := rfl
  rw [firmwareBack_eq, hset]
  exact (markAgain_kept (T := [.regs, .cfg, .fspi]) (by decide) (.refl s)).grid_eq

theorem tablesAgain_sec (s : State) (reload : Bool) : (s.tablesAgain reload).sec = s.sec :=
  (tablesAgain_kept (T := [.regs, .time, .icu, .evt, .nw, .mem, .life, .pwr, .obs, .rule, .cfg, .chans, .res, .dim, .adc, .ring, .ptp, .fspi])
    (by decide) reload (.refl s)).sec_eq

theorem tablesAgain_start {reload : Bool} {i : Nat} (h : s.reloadFrom reload = some i) (hrules : s.rulesRun = true) :
    (s.tablesAgain reload).rule.start = s.grid.tick := by
  have hgrid : (s.loadSlot i).grid = s.grid :=
    (loadSlot_kept (T := [.regs, .time, .icu, .evt, .nw, .mem, .life, .pwr, .obs, .rule, .cfg, .chans, .res, .dim, .adc, .ring, .ptp, .fspi])
      (by decide) i (.refl s)).grid_eq
  have hstart (t : State) : ({ t with rule := { t.rule with start := t.grid.tick } } : State).rule.start = t.grid.tick := rfl
  rw [tablesAgain, h]
  dsimp only
  rw [if_pos (loadSlot_rules i hrules), hstart, hgrid]

/-- The loss is over. -/
def lossOver (s : State) : State := (s.putFlag fNW_SC0_LOST false).setNw { s.nw with sc0Step := 0, sc0Beat := s.nw.tick, sc0Table := false }

/-- CORE_RESTART is logged, and the records move from the Nightwatch buffer. -/
def restartLogged (s : State) : State :=
  let r := s.coreRestart 0 s.nw.sc0Cause s.nw.sc0Addr (s.recent s.nw.sc0Starts).length
  if s.logOpen then (s.writeRec r).flushNw else s.nwLog r

/-- A persistence that fell due is made. -/
def owedPersist (s : State) : State :=
  if s.life.due && (s.midnight || !s.pins.pfwN) then s.persistBegin (if s.midnight then 3 else 2) else s

theorem sc0Back_of_not {reload : Bool} (h : s.sc0Ready reload = false) : s.sc0Back reload = s := by
  unfold sc0Back
  exact if_pos (by rw [h]; rfl)

theorem sc0Back_eq {reload : Bool} (h : s.sc0Ready reload = true) :
    s.sc0Back reload = ((((s.firmwareBack.tablesAgain reload).lossOver).restartLogged).refreshIcu).owedPersist := by
  unfold sc0Back
  rw [if_neg (by rw [h]; decide)]
  rfl

/-- DEV_NW_STAT but NWBUF stands, and so does the Nightwatch domain but for the watch on the heartbeats. -/
structure NwRuns (s t : State) : Prop where
  stat : NwStat s t
  beats : BeatsOnly s t

namespace NwRuns

variable {u : State}

theorem refl (s : State) : NwRuns s s := ⟨.refl s, .refl s⟩

theorem trans (h : NwRuns s t) (g : NwRuns t u) : NwRuns s u := ⟨h.stat.trans g.stat, h.beats.trans g.beats⟩

theorem raise (s : State) (n : Nat) : NwRuns s (s.raise n) :=
  ⟨(raise_wr (R := [(0x270, 0), (0x1B070, 0)]) (by decide) n (.refl s)).nwStat, .raise s n⟩

theorem steady (s : State) : LogSteady (NwRuns s) where
  step _ _ hk _ hnw h := h.trans ⟨hnw, .of_eq hk.nw_eq⟩
  evt _ _ _ h := h.trans ⟨fun _ _ _ => rfl, .of_eq rfl⟩
  enqueue t r h := h.trans ⟨enqueue_nwStat t r, .of_eq (enqueue_kept (T := [.regs, .evt]) (by decide) r (.refl t)).nw_eq⟩
  raise t n h := h.trans (.raise t n)

theorem nwLog (s : State) (r : EvtRec) : NwRuns s (s.nwLog r) := by
  refine ⟨?_, .of_eq (nwLog_kept (T := [.regs, .evt]) (by decide) r (.refl s)).nw_eq⟩
  have hdrop (t : State) : NwStat t (t.bump aEVT_DROP) := (bump_wr (R := [(aEVT_DROP, 0)]) (by decide) (.refl t)).nwStat
  have hbuf (t : State) (v : Nat) : NwStat t (t.put fNW_NWBUF v) := fun f ha hl =>
    get_put_apart t (f := fNW_NWBUF) (g := f) v (by decide) ha (.inr hl)
  unfold State.nwLog
  split
  · exact hbuf _ _
  · exact hdrop _

theorem logged (s : State) : NwRuns s s.restartLogged := by
  unfold State.restartLogged
  dsimp only
  split
  · exact (steady s).flushNw ((steady s).writeRec _ (.refl s))
  · exact .nwLog s _

theorem of_wr {T : List Comp} {R : List (Nat × Nat)} (hk : Kept T s t) (hw : Wr R s t) (hT : Comp.nw ∉ T := by decide)
    (hR : hits R aDEV_NW_STAT = false := by decide) : NwRuns s t := ⟨hw.nwStat hR, .of_eq (hk.nw_eq hT)⟩

theorem owed (s : State) : NwRuns s s.owedPersist :=
  .of_wr (T := [.regs, .mem, .life, .fspi]) (.ite (persistBegin_kept (by decide) _ (.refl s)) (.refl s)) (R := [(0x290, 0)])
    (.ite (persistBegin_wr (by decide) _ (.refl s)) (.refl s))

theorem refresh (s : State) : NwRuns s s.refreshIcu :=
  .of_wr (T := [.icu]) (refreshIcu_kept (by decide) (.refl s)) (R := []) (refreshIcu_wr (by decide) (.refl s))

end NwRuns

theorem lossOver_lost (s : State) : s.lossOver.flag fNW_SC0_LOST = false := by
  have hset (t : State) (x : Nightwatch) : (t.setNw x).flag fNW_SC0_LOST = t.flag fNW_SC0_LOST := rfl
  exact (hset _ _).trans (flag_putFlag s fNW_SC0_LOST false)

theorem lossOver_kept (s : State) : Kept [.regs, .nw] s s.lossOver := setNw_kept (by decide) _ (putFlag_kept (by decide) _ _ (.refl s))

theorem recoveryTail_kept (s : State) : Kept [.regs, .icu, .evt, .nw, .mem, .cap, .life, .pwr, .fspi] s (((s.lossOver).restartLogged).refreshIcu).owedPersist :=
  have hlogged (t : State) : Kept [.regs, .icu, .evt, .nw, .mem, .cap, .pwr] t t.restartLogged :=
    .ite (flushNw_kept (by decide) (writeRec_kept (by decide) _ (.refl t))) (nwLog_kept (by decide) _ (.refl t))
  have howed (t : State) : Kept [.regs, .mem, .life, .fspi] t t.owedPersist := .ite (persistBegin_kept (by decide) _ (.refl t)) (.refl t)
  ((refreshIcu_kept (by decide) ((s.lossOver_kept.mono (by decide)).trans ((hlogged _).mono (by decide)))).trans ((howed _).mono (by decide)))

/-- SC0 runs again, with its firmware and where it was due with its tables. -/
structure Recovered (reload : Bool) (s u : State) : Prop where
  lost : u.flag fNW_SC0_LOST = false
  step : u.nw.sc0Step = 0
  sec : u.sec = s.fwReload.sec
  start : s.rulesRun = true → ∀ i, s.markAgain.reloadFrom reload = some i → u.rule.start = s.grid.tick

theorem sc0Back_recovered {reload : Bool} (h : s.sc0Ready reload = true) : Recovered reload s (s.sc0Back reload) := by
  have hruns (t : State) : NwRuns t.lossOver (((t.lossOver).restartLogged).refreshIcu).owedPersist :=
    ((NwRuns.logged _).trans (.refresh _)).trans (.owed _)
  have hstep (t : State) : t.lossOver.nw.sc0Step = 0 := rfl
  rw [sc0Back_eq h]
  exact
    { lost := ((hruns _).stat.flag fNW_SC0_LOST).trans (lossOver_lost _)
      step := (hruns _).beats.step.trans (hstep _)
      sec := (recoveryTail_kept _).sec_eq.trans ((tablesAgain_sec _ reload).trans s.firmwareBack_sec)
      start := fun hrules i hi => by
        rw [(recoveryTail_kept _).rule_eq, tablesAgain_start ((s.firmwareBack_reload reload).trans hi) (firmwareBack_rules hrules), firmwareBack_grid] }

-- SFC (R442)

theorem sfcLost_of_not (h : s.sfcRuns = false) : s.sfcLost = s := if_pos (by rw [h]; decide)

/-- The work of SFC has stopped. -/
def workStopped (s : State) : State := { s with sto := { s.sto with sfcLost := true } }

theorem sfcLost_eq (h : s.sfcRuns = true) : s.sfcLost = ((s.putFlag fNW_SFC_OK false).midnightEnter 1).workStopped := by
  unfold sfcLost
  rw [if_neg (by rw [h]; decide)]
  rfl

theorem sfcLost_midnight (h : s.sfcRuns = true) (hmn : s.midnight = false) : s.sfcLost.get fNW_MN_CAUSE = 1 ∧ s.sfcLost.pstate = 5 := by
  have hstopped (t : State) (f : Fld) : t.workStopped.get f = t.get f := rfl
  have hcause : (s.putFlag fNW_SFC_OK false).midnight = false := by
    rw [midnight, get_putFlag_apart s (f := fNW_SFC_OK) (g := fNW_MN_CAUSE) false, ← midnight, hmn]
  have hlatched := midnightEnter_latched hcause (k := 1) (by decide)
  rw [sfcLost_eq h]
  exact ⟨(hstopped _ _).trans hlatched.cause, (hstopped _ _).trans hlatched.state⟩

/-- The work of SFC stops in Midnight. -/
structure SfcStopped (s u : State) : Prop where
  lost : u.sto.sfcLost = true
  stops : u.sfcRuns = false
  notOk : u.flag fNW_SFC_OK = false
  only : Only [.regs, .sto] s u
  regs : OnlyRegs [(aDEV_NW_STAT, 0)] s u

theorem sfcLost_stopped (h : s.sfcRuns = true) (hmn : s.midnight = true) : SfcStopped s s.sfcLost := by
  have hstopped (t : State) : t.workStopped.flag fNW_SFC_OK = t.flag fNW_SFC_OK := rfl
  have hruns (t : State) : t.workStopped.sfcRuns = false := Bool.and_false _
  have hkept (t : State) : Kept [.sto] t t.workStopped := Kept.upd_sto (.refl t) (by decide)
  have hwr (t : State) : Wr [] t t.workStopped := .upd (.refl t)
  have hcause : (s.putFlag fNW_SFC_OK false).midnight = true := by
    rw [midnight, get_putFlag_apart s (f := fNW_SFC_OK) (g := fNW_MN_CAUSE) false, ← midnight, hmn]
  rw [sfcLost_eq h, midnightEnter, if_pos hcause]
  exact
    { lost := rfl
      stops := hruns _
      notOk := (hstopped _).trans (flag_putFlag s fNW_SFC_OK false)
      only := ((putFlag_kept (by decide) fNW_SFC_OK false (.refl s)).trans ((hkept _).mono (by decide))).only
      regs := ((putFlag_wr (R := [(aDEV_NW_STAT, 0)]) (by decide) (.refl s)).trans ((hwr _).mono (by decide))).onlyRegs }

-- SC1 (R441)

/-- The loss of SC1 is marked, held at the fourth. -/
def sc1Marked (s : State) : State :=
  let past := s.recent s.nw.sc1Starts
  let held := decide (3 ≤ past.length)
  (s.sc1Stop.setNw { s.nw with sc1Starts := if held then past else s.nw.tick :: past.take 2 }).putFlag fNW_SC1_HELD held

theorem sc1Marked_flags (s : State) : s.sc1Marked.flag fNW_SC1_LOST = true
    ∧ s.sc1Marked.flag fNW_SC1_HELD = decide (3 ≤ (s.recent s.nw.sc1Starts).length) := by
  have hset (t : State) (x : Nightwatch) : (t.setNw x).flag fNW_SC1_LOST = t.flag fNW_SC1_LOST := rfl
  have hstop : s.sc1Stop.flag fNW_SC1_LOST = true := flag_putFlag _ fNW_SC1_LOST true
  have hheld (t : State) (b : Bool) : (t.putFlag fNW_SC1_HELD b).flag fNW_SC1_LOST = t.flag fNW_SC1_LOST :=
    flag_putFlag_apart t (f := fNW_SC1_HELD) (g := fNW_SC1_LOST) b
  exact ⟨(hheld _ _).trans ((hset _ _).trans hstop), flag_putFlag _ fNW_SC1_HELD _⟩

/-- CORE_RESTART of SC1 is logged and its group is set. -/
def sc1Told (s : State) (cause addr : Nat) : State := (s.enqueue (s.coreRestart 1 cause addr (s.recent s.nw.sc1Starts).length)).fltSet 15 evCORE_RESTART

theorem sc1Lost_eq (cause addr : Nat) (hgood : s.pwr.good = true) (hheld : s.flag fNW_SC1_HELD = false) (hphase : 3 ≤ s.get fPWR_PHASE) :
    s.sc1Lost cause addr = s.sc1Marked.sc1Told cause addr := by
  unfold sc1Lost
  rw [if_neg (by simp [hgood, hheld, hphase])]
  rfl

theorem sc1Told_flag (s : State) (cause addr : Nat) (f : Fld) (ha : f.addr = aDEV_NW_STAT) (hl : 7 ≤ f.lo) : (s.sc1Told cause addr).flag f = s.flag f := by
  have hwr (t : State) : Wr [(0x270, 0), (0x2A0, 0), (0x2A4, 0), (0x1B070, 0)] t (t.fltSet 15 evCORE_RESTART) := fltSet_wr (by decide) _ _ (.refl t)
  exact ((enqueue_nwStat s _).trans (hwr _).nwStat).flag f ha hl

theorem sc1Lost_fallen (cause addr : Nat) (hgood : s.pwr.good = true) (hheld : s.flag fNW_SC1_HELD = false) (hphase : 3 ≤ s.get fPWR_PHASE) :
    (s.sc1Lost cause addr).flag fNW_SC1_LOST = true
    ∧ (s.sc1Lost cause addr).flag fNW_SC1_HELD = decide (3 ≤ (s.recent s.nw.sc1Starts).length)
    ∧ (s.sc1Lost cause addr).flag (fFLT_GROUP 15) = true := by
  obtain ⟨hlost, hhold⟩ := s.sc1Marked_flags
  rw [sc1Lost_eq cause addr hgood hheld hphase]
  exact ⟨(sc1Told_flag _ cause addr _ rfl (by decide)).trans hlost, (sc1Told_flag _ cause addr _ rfl (by decide)).trans hhold,
    fltSet_flag _ evCORE_RESTART (by decide) (by decide)⟩

/-- A standing signal fail of port `p` is taken up; the other port's side of the protection process stands. -/
structure FailTold (p : Nat) (s u : State) : Prop where
  sf : ∀ q < 2, u.sf q = s.sf q
  other : ∀ q ≠ p, (u.rport q).core = (s.rport q).core
  taken : s.sf p = true → (u.rport p).fail = true ∨ (u.rport p).holdoff = true

theorem failTold_of_set {p : Nat} {x : RingPort} (h : s.sf p = true → x.fail = true ∨ x.holdoff = true) : FailTold p s (s.setPort p x) where
  sf _ _ := rfl
  other q hq := by rw [rport_setPort, if_neg hq]
  taken hsf := by
    rw [rport_setPort, if_pos rfl]
    exact h hsf

theorem side_of_core {x y : RingPort} (h : x.core = y.core) : x.fail = y.fail ∧ x.holdoff = y.holdoff :=
  ⟨(congrArg RingPort.fail h : x.core.fail = y.core.fail), (congrArg RingPort.holdoff h : x.core.holdoff = y.core.holdoff)⟩

theorem FailTold.protected {p : Nat} {u : State} (h : FailTold p s t) (g : Protected t u) : FailTold p s u where
  sf q hq := (g.stat q hq).sf.trans (h.sf q hq)
  other q hq := (g.core q).trans (h.other q hq)
  taken hsf := by
    obtain ⟨hfail, hhold⟩ := side_of_core (g.core p)
    rw [hfail, hhold]
    exact h.taken hsf

theorem sfTell_failTold {p : Nat} (hp : p < 2) : FailTold p s (s.sfTell p) := by
  unfold sfTell failSeen
  dsimp only
  split
  next hsf =>
    split
    next htold => exact ⟨fun _ _ => rfl, fun _ _ => rfl, fun _ => by simpa using htold⟩
    split
    · exact (failTold_of_set fun _ => .inl rfl).protected (localFail_protected _ hp)
    · exact failTold_of_set fun _ => .inr rfl
  next hsf =>
    have hgone (x : RingPort) : FailTold p s (s.setPort p x) := failTold_of_set fun h => absurd h hsf
    split
    · exact hgone _
    split
    · exact (hgone _).protected (localFail_protected _ (by omega))
    · exact (hgone _).protected (localClear_protected _)

/-- Nothing stands and nothing is held off at port `p`. -/
def sideQuiet (s : State) (p : Nat) : State := s.setPort p { s.rport p with fail := false, holdoff := false }

theorem sfTell_quiet {p : Nat} (hsf : s.sf p = false) (hfail : (s.rport p).fail = false) : s.sfTell p = s.sideQuiet p := by
  unfold sfTell
  rw [if_neg (by rw [hsf]; decide)]
  exact if_pos (by rw [hfail]; rfl)

theorem sideQuiet_other {p q : Nat} (h : q ≠ p) : (s.sideQuiet p).sf q = s.sf q ∧ (s.sideQuiet p).rport q = s.rport q :=
  ⟨rfl, (rport_setPort s p q _).trans (if_neg h)⟩

theorem sideQuiet_kept (s : State) (p : Nat) : Kept [.ring] s (s.sideQuiet p) := setPort_kept (by decide) _ _ (.refl s)

theorem sideQuiet_wr (s : State) (p : Nat) : Wr [] s (s.sideQuiet p) := setPort_wr (by decide) _ _ (.refl s)

theorem sfTells_quiet (hsf : ∀ q < 2, s.sf q = false) (hfail : ∀ q < 2, (s.rport q).fail = false) :
    (s.sfTell 0).sfTell 1 = (s.sideQuiet 0).sideQuiet 1 := by
  obtain ⟨hsf1, hrport1⟩ := sideQuiet_other (s := s) (p := 0) (q := 1) (by decide)
  rw [sfTell_quiet (hsf 0 (by decide)) (hfail 0 (by decide)),
    sfTell_quiet (hsf1.trans (hsf 1 (by decide))) ((congrArg RingPort.fail hrport1).trans (hfail 1 (by decide)))]

/-- The loss of SC1 is over. -/
def sc1Over (s : State) : State := (s.putFlag fNW_SC1_LOST false).setNw { s.nw with sc1Beat := s.nw.tick }

theorem sc1Back_eq (hlost : s.flag fNW_SC1_LOST = true) (hheld : s.flag fNW_SC1_HELD = false) (htest : s.underTest bkSC1 = false) :
    s.sc1Back = (s.sc1Over.sfTell 0).sfTell 1 := by
  unfold sc1Back
  rw [if_neg (by rw [hlost, hheld, htest]; decide)]
  exact List.foldl_cons.trans (List.foldl_cons.trans List.foldl_nil)

theorem sc1Back_of_not (h : s.flag fNW_SC1_LOST = false ∨ s.flag fNW_SC1_HELD = true ∨ s.underTest bkSC1 = true) : s.sc1Back = s := by
  refine if_pos ?_
  rcases h with h | h | h <;> simp [h]

theorem sc1Over_lost (s : State) : s.sc1Over.flag fNW_SC1_LOST = false := by
  have hset (t : State) (x : Nightwatch) : (t.setNw x).flag fNW_SC1_LOST = t.flag fNW_SC1_LOST := rfl
  exact (hset _ _).trans (flag_putFlag s fNW_SC1_LOST false)

theorem sc1Over_sf (s : State) {q : Nat} (hq : q < 2) : s.sc1Over.sf q = s.sf q := by
  have hwr : Wr [(aDEV_NW_STAT, 0)] s s.sc1Over := setNw_wr (by decide) _ (putFlag_wr (by decide) (.refl s))
  exact hwr.flag (fRP_SF q) (by obtain rfl | rfl : q = 0 ∨ q = 1 := by omega
                                · decide
                                · decide)

theorem sc1Over_rport (s : State) (q : Nat) : s.sc1Over.rport q = s.rport q :=
  rport_of_ring (setNw_kept (T := [.regs, .nw]) (by decide) _ (putFlag_kept (by decide) _ _ (.refl s))).ring_eq q

/-- SC1 runs again and has taken up the signal fails. -/
structure Sc1Runs (s u : State) : Prop where
  lost : u.flag fNW_SC1_LOST = false
  beat : u.nw.sc1Beat = s.nw.tick
  taken : ∀ q < 2, s.sf q = true → (u.rport q).fail = true ∨ (u.rport q).holdoff = true

theorem sfTells_taken (s : State) {q : Nat} (hq : q < 2) (hsf : s.sf q = true) :
    (((s.sfTell 0).sfTell 1).rport q).fail = true ∨ (((s.sfTell 0).sfTell 1).rport q).holdoff = true := by
  have h0 : FailTold 0 s (s.sfTell 0) := sfTell_failTold (by decide)
  have h1 : FailTold 1 (s.sfTell 0) ((s.sfTell 0).sfTell 1) := sfTell_failTold (by decide)
  obtain rfl | rfl : q = 0 ∨ q = 1 := by omega
  · obtain ⟨hfail, hhold⟩ := side_of_core (h1.other 0 (by decide))
    rw [hfail, hhold]
    exact h0.taken hsf
  · exact h1.taken ((h0.sf 1 (by decide)).trans hsf)

theorem sc1Back_runs (hlost : s.flag fNW_SC1_LOST = true) (hheld : s.flag fNW_SC1_HELD = false) (htest : s.underTest bkSC1 = false) :
    Sc1Runs s s.sc1Back := by
  have hwr (t : State) : Wr [(0x3040, 4), (0x7000, 4), (0x7008, 0), (0x7040, 4)] t ((t.sfTell 0).sfTell 1) :=
    sfTell_wr (by decide) 1 (sfTell_wr (by decide) 0 (.refl t))
  have hkept (t : State) : Kept [.regs, .ring, .ptp] t ((t.sfTell 0).sfTell 1) := sfTell_kept (by decide) 1 (sfTell_kept (by decide) 0 (.refl t))
  have hbeat : s.sc1Over.nw.sc1Beat = s.nw.tick := rfl
  rw [sc1Back_eq hlost hheld htest]
  exact
    { lost := ((hwr _).flag fNW_SC1_LOST).trans s.sc1Over_lost
      beat := by rw [(hkept _).nw_eq, hbeat]
      taken := fun q hq hsf => sfTells_taken _ hq ((s.sc1Over_sf hq).trans hsf) }

theorem sc1Back_quiet (hlost : s.flag fNW_SC1_LOST = true) (hheld : s.flag fNW_SC1_HELD = false) (htest : s.underTest bkSC1 = false)
    (hq : ∀ q < 2, s.sf q = false ∧ (s.rport q).fail = false) :
    OnlyRegs [(aDEV_NW_STAT, 0)] s s.sc1Back ∧ Only [.regs, .nw, .ring] s s.sc1Back := by
  have hsf (p : Nat) (h : p < 2) : s.sc1Over.sf p = false := (s.sc1Over_sf h).trans (hq p h).1
  have hfail (p : Nat) (h : p < 2) : (s.sc1Over.rport p).fail = false := by rw [sc1Over_rport, (hq p h).2]
  have hwr : Wr [(aDEV_NW_STAT, 0)] s s.sc1Over := setNw_wr (by decide) _ (putFlag_wr (by decide) (.refl s))
  have hkept : Kept [.regs, .nw] s s.sc1Over := setNw_kept (by decide) _ (putFlag_kept (by decide) _ _ (.refl s))
  rw [sc1Back_eq hlost hheld htest, sfTells_quiet hsf hfail]
  exact ⟨((hwr.trans ((sideQuiet_wr _ 0).mono (by decide))).trans ((sideQuiet_wr _ 1).mono (by decide))).onlyRegs,
    (((hkept.mono (by decide)).trans ((sideQuiet_kept _ 0).mono (by decide))).trans ((sideQuiet_kept _ 1).mono (by decide))).only⟩

-- Uncorrectable errors (R443)

theorem eccReact_elsewhere : ∀ loc : Nat, 4 ≤ loc → ∀ p addr : Nat, Wr [(0x260, 0), (0x3040, 4), (0x7040, 4)] s (s.eccReact loc p addr)
  | 4, _, p, _ => frameHit_wr (by decide) p (.refl s)
  | 5, _, _, addr => lifeRepair_wr (by decide) addr (.refl s)
  | 6, _, _, _ => dropStaging_wr (by decide) (.refl s)
  | 7, _, _, addr => templateHit_wr (by decide) (addr % 128) (.refl s)
  | _ + 8, _, _, _ => memWrite_wr (.refl s)

theorem eccError_group {loc : Nat} (h : 4 ≤ loc) (p addr : Nat) : (s.eccError loc p addr).flag (fFLT_GROUP 19) = true :=
  ((eccReact_elsewhere loc h p addr).flag (fFLT_GROUP 19)).trans (fltSet_flag _ evECC_UNCORRECTED (by decide) (by decide))

theorem eccReact_line (p addr : Nat) {i : Nat} (hi : i < 64) : (s.eccReact 8 p addr).memByte (addr / 64 * 64 + i) = 0 := by
  have hlen : i < (List.replicate 64 (0 : Byte)).length := by rw [List.length_replicate]; exact hi
  have heq : s.eccReact 8 p addr = s.memWrite (addr / 64 * 64) (List.replicate 64 0) := by rw [eccReact] <;> decide
  rw [heq]
  exact (s.memByte_memWrite_same _ hlen).trans (List.getElem_replicate _)

theorem eccError_line (p addr : Nat) {i : Nat} (hi : i < 64) : (s.eccError 8 p addr).memByte (addr / 64 * 64 + i) = 0 := by
  unfold eccError
  exact eccReact_line p addr hi

-- The clearing of latched groups (R432)

theorem fltClr_causeEnded (s : State) (m n : Nat) : (s.fltClr m).causeEnded n = s.causeEnded n := by
  have hkept := fltClr_kept (T := [.regs]) (by decide) m (.refl s)
  have hwr := fltClr_wr (R := [(0x2A0, 0)]) (by decide) m (.refl s)
  unfold causeEnded
  split
  · rw [sfcRuns, hkept.sto_eq, hkept.pwr_eq, sfcRuns]
  · rw [hwr.flag fNW_SC0_LOST]
  · rw [hwr.flag fNW_SC1_LOST, hwr.flag fNW_SC1_HELD]
  · rfl

theorem fltClr_other {m n : Nat} (h : m ≠ n) (hm : m < 32) (hn : 0 < n) : (s.fltClr m).flag (fFLT_GROUP n) = s.flag (fFLT_GROUP n) := by
  unfold fltClr
  exact (flag_putFlag_apart _ (f := fFLT_ANY) (g := fFLT_GROUP n) _ (by decide) rfl (.inr hn)).trans
    (flag_put_apart s (f := fFLT_GROUP m) (g := fFLT_GROUP n) 0 (by simp only [fFLT_GROUP]; omega) rfl (by simp only [fFLT_GROUP]; omega))

/-- A group that is named clears where its cause has ended. -/
def groupAsked (w : Nat) (s : State) (n : Nat) : State := if bitOf w n && s.causeEnded n then s.fltClr n else s

theorem groupAsked_causeEnded (s : State) (w m n : Nat) : (groupAsked w s m).causeEnded n = s.causeEnded n := by
  unfold groupAsked
  split
  · exact s.fltClr_causeEnded m n
  · rfl

theorem groupAsked_flag (s : State) (w : Nat) {m n : Nat} (hm : 0 < m ∧ m < 32) (hn : 0 < n) :
    (groupAsked w s m).flag (fFLT_GROUP n) = (s.flag (fFLT_GROUP n) && !(decide (n = m) && (bitOf w n && s.causeEnded n))) := by
  unfold groupAsked
  by_cases h : n = m
  · subst h
    rw [decide_eq_true rfl, Bool.true_and]
    split
    next hc => rw [fltClr_flag s hm.1 hm.2, hc, Bool.not_true, Bool.and_false]
    next hc => rw [Bool.eq_false_iff.2 hc, Bool.not_false, Bool.and_true]
  · rw [decide_eq_false h, Bool.false_and, Bool.not_false, Bool.and_true]
    split
    · exact fltClr_other (Ne.symm h) hm.2 hn
    · rfl

theorem groupsAsked_flag (w : Nat) {n : Nat} (hn : 0 < n) (l : List Nat) (hl : ∀ m ∈ l, 0 < m ∧ m < 32) : ∀ s : State,
    (l.foldl (groupAsked w) s).flag (fFLT_GROUP n) = (s.flag (fFLT_GROUP n) && !(decide (n ∈ l) && (bitOf w n && s.causeEnded n))) := by
  induction l with
  | nil => exact fun s => by simp
  | cons m l ih =>
    intro s
    rw [List.foldl_cons, ih (fun k hk => hl k (List.mem_cons_of_mem m hk)), groupAsked_causeEnded, groupAsked_flag s w (hl m List.mem_cons_self) hn]
    have hmem : decide (n ∈ m :: l) = (decide (n = m) || decide (n ∈ l)) := by simp only [List.mem_cons, Bool.decide_or]
    have hbool (f a b c : Bool) : ((f && !(a && c)) && !(b && c)) = (f && !((a || b) && c)) := by revert f a b c; decide
    rw [hmem, hbool]

theorem fltClrWrite_eq (s : State) (w : Nat) : s.fltClrWrite w = ([11, 14, 15, 16, 19].foldl (groupAsked w) s).askReclose (w / 2 ^ 24) := rfl

theorem fltClrWrite_flag (s : State) (w : Nat) {n : Nat} (hn : n ∈ [11, 14, 15, 16, 19]) :
    (s.fltClrWrite w).flag (fFLT_GROUP n) = (s.flag (fFLT_GROUP n) && !(bitOf w n && s.causeEnded n)) := by
  have hask (t : State) : (t.askReclose (w / 2 ^ 24)).flag (fFLT_GROUP n) = t.flag (fFLT_GROUP n) :=
    (askReclose_wr (R := []) (by decide) (w / 2 ^ 24) (.refl t)).flag (fFLT_GROUP n) rfl
  have hpos : ∀ m ∈ [11, 14, 15, 16, 19], 0 < m ∧ m < 32 := by decide
  rw [fltClrWrite_eq, hask, groupsAsked_flag w (hpos n hn).1 _ hpos, decide_eq_true hn, Bool.true_and]

-- The heartbeats of SC0 (R435)

theorem sc0Beat_of_not {code : Nat} (h : ¬ (s.flag fNW_SC0_LOST = false ∧ s.pstate ≠ 3)) : s.sc0Beat code = s := by
  refine if_pos ?_
  rw [not_and_or, not_not] at h
  rcases h with h | h
  · rw [Bool.of_not_eq_false h, Bool.true_or]
  · rw [h]
    exact Bool.or_true _

theorem sc0Beat_next {code : Nat} (h : s.flag fNW_SC0_LOST = false ∧ s.pstate ≠ 3) (hc : code = (s.nw.sc0Code + 1) % 256) :
    s.sc0Beat code = s.setNw { s.nw with sc0Code := code, sc0Wrong := 0, sc0Beat := s.nw.tick } := by
  unfold sc0Beat
  rw [if_neg (by rw [h.1, beq_false_of_ne h.2]; decide), if_pos hc]

theorem sc0Beat_wrong {code : Nat} (h : s.flag fNW_SC0_LOST = false ∧ s.pstate ≠ 3) (hc : code ≠ (s.nw.sc0Code + 1) % 256) :
    s.sc0Beat code = if s.nw.sc0Wrong = 0 then s.setNw { s.nw with sc0Wrong := 1 } else s.sc0Lost 2 0 := by
  unfold sc0Beat
  rw [if_neg (by rw [h.1, beq_false_of_ne h.2]; decide), if_neg hc]

end State

theorem exec_sc0Heartbeat (code : BitVec 8) (s : State) : exec (.sc0Heartbeat code) s = .next (s.sc0Beat code.toNat) := rfl
theorem exec_sc0Lost (k : Fin 4) (addr : BitVec 32) (s : State) : exec (.sc0Lost k addr) s =
    if (k.val = 0 ∧ (s.nw.tick < s.nw.sc0Beat + tenMs ∨ s.pstate = 3)) ∨ (k.val = 3 ∧ !s.debugReach) then .next s
    else .next (s.sc0Lost (k.val + 1) (if k.val = 2 then addr.toNat else 0)) := rfl
theorem exec_sc0Reset (s : State) : exec .sc0Reset s = .next s.sc0Reset := rfl
theorem exec_sc0RestartComplete (reload : Bool) (s : State) : exec (.sc0RestartComplete reload) s = .next (s.sc0Back reload) := rfl
theorem exec_sfcHeartbeat (ok : Bool) (s : State) : exec (.sfcHeartbeat ok) s =
    if !s.sfcRuns then .next s else if ok then .next (s.putFlag fNW_SFC_OK true) else .next s.sfcLost := rfl
theorem exec_sfcLost (s : State) : exec .sfcLost s = .next s.sfcLost := rfl
theorem exec_sc1Heartbeat (s : State) : exec .sc1Heartbeat s = .next (s.setNw { s.nw with sc1Beat := s.nw.tick }) := rfl
theorem exec_sc1Lost (k : Fin 4) (addr : BitVec 32) (s : State) : exec (.sc1Lost k addr) s =
    if k.val = 1 ∨ (k.val = 0 ∧ (s.nw.tick < s.nw.sc1Beat + tenMs ∨ s.pstate = 3)) ∨ (k.val = 3 ∧ !s.debugReach) then .next s
    else .next (s.sc1Lost (k.val + 1) (if k.val = 2 then addr.toNat else 0)) := rfl
theorem exec_sc1RestartDone (s : State) : exec .sc1RestartDone s = .next s.sc1Back := rfl
theorem exec_eccUncorrected (loc : Fin 9) (p : Fin 2) (addr : BitVec 32) (s : State) :
    exec (.eccUncorrected loc p addr) s = .next (s.eccError loc.val p.val addr.toNat) := rfl
theorem exec_faultGroupClear (w : BitVec 32) (s : State) : exec (.faultGroupClear w) s = .next (s.fltClrWrite w.toNat) := rfl

/-- A loss that is declared too early, or by a debug port that is shut. -/
theorem early_iff {k : Fin 4} {s : State} {beat : Nat} :
    ((k.val = 0 ∧ (s.nw.tick < beat + tenMs ∨ s.pstate = 3)) ∨ (k.val = 3 ∧ !s.debugReach)) ↔
      ¬ (¬ (k.val = 0 ∧ (s.nw.tick < beat + tenMs ∨ s.pstate = 3)) ∧ ¬ (k.val = 3 ∧ s.debugReach = false)) := by
  rw [Bool.not_eq_true', not_and_or, not_not, not_not]

/-- A signature of SFC that is wrong does what its loss does. -/
theorem sfcHeartbeat_wrong (s : State) : exec (.sfcHeartbeat false) s = .next s.sfcLost := by
  rw [exec_sfcHeartbeat]
  cases h : s.sfcRuns with
  | true => rfl
  | false => rw [State.sfcLost_of_not h]; rfl

/-- Settles O35. -/
theorem coreRecovery : Obligations.CoreRecovery := by
  intro code k p loc reload w addr s up watched late past waits resets sc1Up
  have hup (hu : up) : s.pwr.good = true ∧ ¬ (s.pstate = 0 ∧ s.get fPWR_PHASE = 0) := hu
  have hbeat := exec_sc0Heartbeat code s
  refine ⟨fun hw hc => .of_eq (hbeat.trans (by rw [State.sc0Beat_next hw hc])) ⟨rfl, (State.setNw_kept (by decide) _ (.refl s)).only⟩,
    fun hw hc h0 => .of_eq (hbeat.trans (by rw [State.sc0Beat_wrong hw hc, if_pos h0])) ⟨rfl, (State.setNw_kept (by decide) _ (.refl s)).only⟩,
    fun hu hw hc h0 => .of_eq (hbeat.trans (by rw [State.sc0Beat_wrong hw hc, if_neg h0])) ?beatLost,
    fun hw => .of_eq (hbeat.trans (by rw [State.sc0Beat_of_not hw])) rfl,
    fun hu hw hl => .of_eq ((exec_sc0Lost k addr s).trans (if_neg (mt early_iff.1 (not_not.2 hl)))) ?lost,
    ?lostNot, fun hr hp hmn => .of_eq ((exec_sc0Reset s).trans (by rw [State.sc0Reset_limit hr hp])) ?limit,
    fun hr hp h0 => .of_eq ((exec_sc0Reset s).trans (by rw [State.sc0Reset_begun hr hp, if_neg h0])) ?restart,
    fun hr hp h0 => .of_eq ((exec_sc0Reset s).trans (by rw [State.sc0Reset_begun hr hp, if_pos h0])) ?dawn,
    fun hr => .of_eq (exec_sc0Reset s) (State.sc0Reset_of_not hr),
    fun h => .of_eq (exec_sc0RestartComplete reload s) ?back,
    fun h => .of_eq (exec_sc0RestartComplete reload s) (State.sc0Back_of_not h),
    fun h => .of_eq ((exec_sfcHeartbeat true s).trans ((if_neg (by rw [h]; decide)).trans (if_pos rfl))) ?sfcOk,
    fun h hmn => ⟨.of_eq (sfcHeartbeat_wrong s) (State.sfcLost_midnight h hmn), .of_eq (exec_sfcLost s) (State.sfcLost_midnight h hmn)⟩,
    fun h hmn => ?sfcIn,
    fun h => ⟨.of_eq (sfcHeartbeat_wrong s) (State.sfcLost_of_not h), .of_eq (exec_sfcLost s) (State.sfcLost_of_not h)⟩,
    .of_eq (exec_sc1Heartbeat s) ⟨rfl, (State.setNw_kept (by decide) _ (.refl s)).only⟩,
    fun hu hk hl => .of_eq ((exec_sc1Lost k addr s).trans (if_neg ?notEarly)) ?sc1,
    fun h => .of_eq ((exec_sc1Lost k addr s).trans (if_pos (h.imp_right early_iff.2))) rfl,
    fun hlost hheld htest => .of_eq (exec_sc1RestartDone s) ?sc1Back,
    fun h => .of_eq (exec_sc1RestartDone s) (State.sc1Back_of_not h),
    fun h => .of_eq (exec_eccUncorrected loc p addr s) ⟨State.eccError_group h _ _, fun h8 i hi => by rw [h8]; exact State.eccError_line _ _ hi⟩,
    .of_eq (exec_faultGroupClear w s) ⟨fun n hn => State.fltClrWrite_flag s w.toNat hn,
      (State.fltClrWrite_kept (by decide) _ (.refl s)).only, (State.fltClrWrite_wr (R := [(aDEV_FLT_ACT, 0)]) (by decide) _ (.refl s)).onlyRegs⟩⟩
  case beatLost =>
    have hwaits : ¬ (s.flag fNW_SC0_LOST = true ∧ s.nw.sc0Step = 0) := fun h => absurd h.1 (by rw [hw.1]; decide)
    have hf := State.sc0Lost_fallen 2 0 (hup hu).1 (hup hu).2 hwaits
    exact ⟨hf.lost, hf.cause, hf.group⟩
  case lost =>
    have hf := State.sc0Lost_fallen (k.val + 1) (if k.val = 2 then addr.toNat else 0) (hup hu).1 (hup hu).2 hw
    exact ⟨hf.lost, hf.cause, hf.addr, hf.frozen, hf.run, hf.lostAt, hf.group, (State.sc0Lost_kept (by decide) _ _ (.refl s)).only⟩
  case lostNot =>
    intro h
    by_cases hl : late s.nw.sc0Beat
    · have hwaits : waits := h.resolve_right (not_not.2 hl)
      exact .of_eq ((exec_sc0Lost k addr s).trans (if_neg (mt early_iff.1 (not_not.2 hl)))) (State.sc0Lost_waits _ _ hwaits)
    · exact .of_eq ((exec_sc0Lost k addr s).trans (if_pos (early_iff.2 hl))) rfl
  case limit =>
    have hlatched := State.midnightEnter_latched hmn (k := 2) (by decide)
    exact ⟨hlatched.cause, hlatched.state⟩
  case restart =>
    obtain ⟨hwait, hstaged, hbytes, howner⟩ := s.sc0Ends_cfg
    rw [State.restartBegun_nw, State.restartBegun_cfg]
    exact ⟨rfl, rfl, State.restartBegun_count hp, hwait, hstaged, hbytes, howner⟩
  case dawn =>
    have hd := s.restartBegun.dawnAgain_again
    have hkept := s.restartBegun_kept
    refine ⟨hd.phase, by rw [hd.nw], hd.count.trans (State.restartBegun_count hp), ?_, hd.grid.trans hkept.grid_eq, hd.time.trans hkept.time_eq⟩
    rw [hd.nw, State.restartBegun_nw]
  case back =>
    have hr := State.sc0Back_recovered h
    exact ⟨hr.lost, hr.step, hr.sec, hr.start⟩
  case sfcOk =>
    exact ⟨s.flag_putFlag fNW_SFC_OK true, (State.putFlag_kept (by decide) _ _ (.refl s)).only,
      (State.putFlag_wr (R := [(aDEV_NW_STAT, 0)]) (by decide) (.refl s)).onlyRegs⟩
  case sfcIn =>
    have hs := State.sfcLost_stopped h hmn
    have hall := And.intro hs.lost (And.intro hs.stops (And.intro hs.notOk (And.intro hs.only hs.regs)))
    intro e he
    simp only [List.mem_cons, List.not_mem_nil, or_false] at he
    obtain rfl | rfl := he
    · exact .of_eq (sfcHeartbeat_wrong s) hall
    · exact .of_eq (exec_sfcLost s) hall
  case notEarly =>
    exact not_or.2 ⟨hk, mt early_iff.1 (not_not.2 hl)⟩
  case sc1 =>
    obtain ⟨hlost, hheld, hgroup⟩ := State.sc1Lost_fallen (s := s) (k.val + 1) (if k.val = 2 then addr.toNat else 0) hu.1 hu.2.1 hu.2.2
    exact ⟨hlost, hheld, hgroup, (State.sc1Lost_kept (by decide) _ _ (.refl s)).only⟩
  case sc1Back =>
    have hr := State.sc1Back_runs hlost hheld htest
    exact ⟨hr.lost, hr.beat, hr.taken, State.sc1Back_quiet hlost hheld htest⟩

end Sys2Proof.Machine
end

section
/-! Lifetime records, persistence, snapshots and the records that reach the log (O36). -/

namespace Sys2Proof.Machine

namespace State

variable {s t : State}

-- A fold (R415, R416)

theorem foldTime_lastGood (s : State) (on : Bool) (o n : Nat) : (s.foldTime on o n).life.lastGood = s.life.lastGood := by
  unfold foldTime
  split <;> rfl

theorem foldBin_lastGood (s : State) (o n : Nat) : (s.foldBin o n).life.lastGood = s.life.lastGood := rfl

theorem foldCharge_lastGood (s : State) (c n : Nat) : (s.foldCharge c n).life.lastGood = s.life.lastGood := rfl

theorem foldChan_lastGood (n : Nat) (s : State) (c : Nat) : (foldChan n s c).life.lastGood = s.life.lastGood := by
  unfold foldChan
  dsimp only
  split
  · rfl
  · rw [foldBin_lastGood, foldBin_lastGood, foldCharge_lastGood, foldTime_lastGood]

theorem foldAsp_lastGood (n : Nat) (s : State) (a : Nat) : (foldAsp n s a).life.lastGood = s.life.lastGood := by
  unfold foldAsp
  dsimp only
  split
  · rfl
  · simp only [foldTime_lastGood]

theorem fold_lastGood (f : State → Nat → State) (hf : ∀ t k, (f t k).life.lastGood = t.life.lastGood) (l : List Nat) (s : State) :
    (l.foldl f s).life.lastGood = s.life.lastGood :=
  List.foldlRecOn (motive := fun t => t.life.lastGood = s.life.lastGood) l f rfl fun t ht k _ => (hf t k).trans ht

/-- The seconds of the channels, the aspects, the outputs and the converters join. -/
def unitsJoined (s : State) (n : Nat) : State :=
  let s := (List.range 128).foldl (foldChan n) s
  let s := (List.range 96).foldl (foldAsp n) s
  let s := (List.range 8).foldl (fun s o => s.foldTime (s.get (fOSTATE o) == 3) (lifeOut o + 12) n) s
  (List.range 8).foldl (fun s p => s.foldTime (s.flag (fADC p 1)) (lifeConv p + 8) n) s

/-- The seconds of the device join. -/
def deviceJoined (s : State) (n : Nat) : State :=
  let b := lifeDevice
  let s := (((s.foldTime true b n).foldTime (s.pstate == 1) (b + 4) n).foldTime s.inDusk (b + 8) n).foldTime
    (s.flag fBST_GOV) (b + 52) n
  let s := (s.foldBin (b + 64 + 2 * juncBin (10 * s.life.core)) n).foldBin (b + 96 + 2 * juncBin s.boost.tj) n
  let p := s.get fPWR_PSINK / 100
  (s.foldBin (b + 128 + 2 * vsupBin s.boost.vsup) n).foldBin (b + 144 + 2 * (if p < 7 then p else 7)) n

/-- A span of `n` seconds joins the accumulators. -/
def spanJoined (s : State) (n : Nat) : State :=
  (({ s with life := { s.life with lastFold := s.life.lastFold + n * tps } } : State).unitsJoined n).deviceJoined n

theorem foldSpan_eq (s : State) : s.foldSpan = if (s.nw.tick - s.life.lastFold) / tps = 0 then s
    else s.spanJoined ((s.nw.tick - s.life.lastFold) / tps) := rfl

theorem unitsJoined_lastGood (s : State) (n : Nat) : (s.unitsJoined n).life.lastGood = s.life.lastGood :=
  (fold_lastGood _ (fun _ _ => foldTime_lastGood _ _ _ _) _ _).trans ((fold_lastGood _ (fun _ _ => foldTime_lastGood _ _ _ _) _ _).trans
    ((fold_lastGood _ (foldAsp_lastGood n) _ _).trans (fold_lastGood _ (foldChan_lastGood n) _ _)))

theorem deviceJoined_lastGood (s : State) (n : Nat) : (s.deviceJoined n).life.lastGood = s.life.lastGood := by
  unfold deviceJoined
  dsimp only
  simp only [foldBin_lastGood, foldTime_lastGood]

theorem spanJoined_lastGood (s : State) (n : Nat) : (s.spanJoined n).life.lastGood = s.life.lastGood := by
  have hset (k : Nat) : ({ s with life := { s.life with lastFold := k } } : State).life.lastGood = s.life.lastGood := rfl
  exact (deviceJoined_lastGood _ n).trans ((unitsJoined_lastGood _ n).trans (hset _))

theorem foldSpan_lastGood (s : State) : s.foldSpan.life.lastGood = s.life.lastGood := by
  rw [foldSpan_eq]
  split
  · rfl
  · exact s.spanJoined_lastGood _

theorem foldCounts_lastGood (s : State) : s.foldCounts.life.lastGood = s.life.lastGood := by
  have hset (l : Tab Nat) : ({ s with life := { s.life with acc := l } } : State).life.lastGood = s.life.lastGood := rfl
  have hcount (t : State) (p : Nat × Nat) : (t.lifeCount (lifeBaseOf p.1) (p.1 - lifeBaseOf p.1) p.2).life.lastGood = t.life.lastGood := by
    rw [(lifeCount_kept (T := [.regs, .icu, .evt, .nw, .mem, .pwr]) (by decide) (lifeBaseOf p.1) (p.1 - lifeBaseOf p.1) p.2 (.refl t)).life_eq]
  unfold foldCounts
  exact List.foldlRecOn (motive := fun t => t.life.lastGood = s.life.lastGood) _ _ (hset _) fun t ht p _ => (hcount t p).trans ht

theorem foldCounts_nw (s : State) : NwRuns s s.foldCounts := by
  have hset (l : Tab Nat) : NwRuns s { s with life := { s.life with acc := l } } := ⟨fun _ _ _ => rfl, .of_eq rfl⟩
  unfold foldCounts
  exact List.foldlRecOn (motive := NwRuns s) _ _ (hset _) fun t ht p _ => (NwRuns.steady s).lifeCount _ _ _ ht

/-- What a fold has done before the age of the newest copy shows. -/
def folded (s : State) (core : Int) : State :=
  (List.range 128).foldl foldMax ((({ s with life := { s.life with core := core } } : State).foldSpan).foldCounts)

theorem folded_life (s : State) (core : Int) : (s.folded core).nw.tick = s.nw.tick ∧ (s.folded core).life.lastGood = s.life.lastGood := by
  have hcore : ({ s with life := { s.life with core := core } } : State).life.lastGood = s.life.lastGood := rfl
  have hspan (t : State) : t.foldSpan.nw = t.nw := (foldSpan_kept (T := [.life]) (by decide) (.refl t)).nw_eq
  have hmax (t : State) : Kept [.mem] t ((List.range 128).foldl foldMax t) := .fold (fun _ c h => foldMax_kept (by decide) c h) (.refl t)
  constructor
  · rw [folded, (hmax _).nw_eq, (foldCounts_nw _).beats.tick, hspan]
  · rw [folded, (hmax _).life_eq, foldCounts_lastGood, foldSpan_lastGood, hcore]

theorem fold_of_not {core : Int} (h : ¬ ((s.flag fNW_SC0_LOST = false ∧ s.inDusk = false ∧ s.get fLIFE_RESTORE ≠ 0) ∧ s.life.lastFold + tps ≤ s.nw.tick)) :
    s.fold core = s := by
  refine if_pos ?_
  simp only [Bool.or_eq_true, beq_iff_eq, decide_eq_true_eq]
  by_contra hc
  simp only [not_or, Nat.not_lt] at hc
  exact h ⟨⟨Bool.eq_false_iff.2 hc.1.1.1, Bool.eq_false_iff.2 hc.1.1.2, hc.1.2⟩, hc.2⟩

/-- The age of the newest copy shows. -/
def aged (s : State) : State :=
  let m := (s.nw.tick - s.life.lastGood) / (60 * tps)
  s.put fLIFE_AGE (if m < 0xFFF then m else 0xFFF)

theorem aged_age (s : State) : s.aged.get fLIFE_AGE =
    if (s.nw.tick - s.life.lastGood) / 1500000000 < 0xFFF then (s.nw.tick - s.life.lastGood) / 1500000000 else 0xFFF :=
  get_put_fits s fLIFE_AGE (by
    simp only [fLIFE_AGE]
    split <;> omega)

theorem fold_eq {core : Int} (hlost : s.flag fNW_SC0_LOST = false) (hd : s.inDusk = false) (hr : s.get fLIFE_RESTORE ≠ 0)
    (ht : s.life.lastFold + tps ≤ s.nw.tick) : s.fold core = (s.folded core).aged := by
  have hguard : (s.flag fNW_SC0_LOST || s.inDusk || s.get fLIFE_RESTORE == 0 || decide (s.nw.tick < s.life.lastFold + tps)) = false := by
    rw [hlost, hd, beq_false_of_ne hr, decide_eq_false (Nat.not_lt.2 ht)]
    rfl
  unfold fold aged folded
  exact if_neg (Bool.eq_false_iff.1 hguard)

theorem fold_age {core : Int} (hlost : s.flag fNW_SC0_LOST = false) (hd : s.inDusk = false) (hr : s.get fLIFE_RESTORE ≠ 0)
    (ht : s.life.lastFold + tps ≤ s.nw.tick) : (s.fold core).get fLIFE_AGE =
      if (s.nw.tick - s.life.lastGood) / 1500000000 < 0xFFF then (s.nw.tick - s.life.lastGood) / 1500000000 else 0xFFF := by
  obtain ⟨htick, hgood⟩ := s.folded_life core
  rw [fold_eq hlost hd hr ht, aged_age, htick, hgood]

-- Persistence (R418, R419)

/-- A copy of the record is being programmed. -/
structure Persisting (why : Nat) (s u : State) : Prop where
  shown : u.get fLIFE_PERSIST = 1
  writing : u.life.writing = why
  due : u.life.due = false
  dueAt : u.life.dueAt = s.life.dueAt
  journal : u.life.journal = s.life.journal

/-- The working record is copied and its slot chosen. -/
def copyBegun (s : State) (why : Nat) : State :=
  let l := s.life
  let j := if l.writing = 0 then l.nextJournal else (l.nextJournal + 1) % 8
  let c := 1 + l.nextCopy % 7
  let s := (s.tailCopy.lifeHeader).copyRecord c
  let s := { s with life := { s.life with writing := why, due := false, copySlot := c, nextCopy := c, nextJournal := j } }
  s.flash [(fkPROG, flLife j)]

theorem persistBegin_eq (why : Nat) (hr : s.get fLIFE_RESTORE ≠ 0) (hlost : s.flag fNW_SC0_LOST = false) :
    s.persistBegin why = (s.copyBegun why).put fLIFE_PERSIST 1 := by
  unfold persistBegin
  rw [if_neg hr, if_neg (by rw [hlost]; decide)]
  rfl

theorem recordCopied_life (s : State) (k : Nat) : ((s.tailCopy.lifeHeader).copyRecord k).life = s.life :=
  (copyRecord_kept (T := [.mem]) (by decide) k (lifeHeader_kept (by decide) (tailCopy_kept (by decide) (.refl s)))).life_eq

theorem copyBegun_life (s : State) (why : Nat) : (s.copyBegun why).life.writing = why ∧ (s.copyBegun why).life.due = false
    ∧ (s.copyBegun why).life.dueAt = s.life.dueAt ∧ (s.copyBegun why).life.journal = s.life.journal := by
  have hcopy := s.recordCopied_life (1 + s.life.nextCopy % 7)
  have hset (t : State) (w c j : Nat) (l : List (Nat × Nat)) :
      (({ t with life := { t.life with writing := w, due := false, copySlot := c, nextCopy := c, nextJournal := j } } : State).flash l).life =
        { t.life with writing := w, due := false, copySlot := c, nextCopy := c, nextJournal := j } := rfl
  rw [copyBegun, hset, hcopy]
  exact ⟨rfl, rfl, rfl, rfl⟩

theorem persistBegin_persisting {why : Nat} (hr : s.get fLIFE_RESTORE ≠ 0) (hlost : s.flag fNW_SC0_LOST = false) :
    Persisting why s (s.persistBegin why) := by
  obtain ⟨hwriting, hdue, hat, hjournal⟩ := s.copyBegun_life why
  rw [persistBegin_eq why hr hlost]
  exact
    { shown := get_put_fits _ fLIFE_PERSIST (by decide)
      writing := by rw [put_life, hwriting]
      due := by rw [put_life, hdue]
      dueAt := by rw [put_life, hat]
      journal := by rw [put_life, hjournal] }

/-- The life record after a copy has been programmed well. -/
def lifeKept (s : State) : State :=
  let l := s.life
  let cut := fun (t : Tab (Tab Byte)) i => tabSet (fun _ => []) t ((l.nextJournal + i) % 8) []
  { s with life := { l with
      journal := cut (cut (tabSet (fun _ => []) l.journal l.nextJournal (tabSlice (lifeSlot l.copySlot) 0x8000 s.mem)) 1) 2
      nextJournal := (l.nextJournal + 1) % 8, writing := 0, lastGood := s.nw.tick } }

theorem persistEnd_good (h : s.life.writing ≠ 0) : s.persistEnd true = ((s.lifeKept.flash ((fkREAD, flLife s.life.nextJournal) ::
    [1, 2].map fun i => (fkERASE, flLife ((s.life.nextJournal + i) % 8)))).put fLIFE_PERSIST 0).put fLIFE_AGE 0 := by
  unfold persistEnd
  rw [if_neg h]
  rfl

theorem persistEnd_bad (h : s.life.writing ≠ 0) : s.persistEnd false =
    (({ s with life := { s.life with nextJournal := (s.life.nextJournal + 1) % 8 } } : State).flash [(fkREAD, flLife s.life.nextJournal)]).put fLIFE_PERSIST 2 := by
  unfold persistEnd
  rw [if_neg h]
  rfl

theorem persistEnd_of_not {ok : Bool} (h : s.life.writing = 0) : s.persistEnd ok = s := if_pos h

theorem lifeKept_journal (s : State) (k : Nat) : tabGet (fun _ => []) s.lifeKept.life.journal k =
    if k = s.life.nextJournal then tabSlice (lifeSlot s.life.copySlot) 0x8000 s.mem
    else if k = (s.life.nextJournal + 1) % 8 ∨ k = (s.life.nextJournal + 2) % 8 then [] else tabGet (fun _ => []) s.life.journal k := by
  have htab (t : Tab (Tab Byte)) (n a b : Nat) (x : Tab Byte) (ha : n ≠ a) (hb : n ≠ b) :
      tabGet (fun _ => []) (tabSet (fun _ => []) (tabSet (fun _ => []) (tabSet (fun _ => []) t n x) a []) b []) k =
        if k = n then x else if k = a ∨ k = b then [] else tabGet (fun _ => []) t k := by
    rw [tabGet_set, tabGet_set, tabGet_set]
    grind
  exact htab _ _ _ _ _ (by omega) (by omega)

-- A daily snapshot (R421)

/-- The snapshot is taken into the next slot. -/
structure SnapTaken (s u : State) : Prop where
  next : u.life.nextSnap = (s.life.nextSnap % 56 + 1) % 56
  journal : u.life.journal = s.life.journal
  stopped : u.life.snapStopped = false
  day : u.life.snapDay = s.life.snapDay
  at_ : u.life.snapAt = s.life.snapAt
  count : u.get fLIFE_SNAPS = if s.get fLIFE_SNAPS < 56 then s.get fLIFE_SNAPS + 1 else 56

/-- The record is copied as snapshot `i`. -/
def snapCopied (s : State) (i : Nat) : State :=
  let s := (s.tailCopy.lifeHeader).copyRecord (8 + i)
  { s with life := { s.life with
    snaps := tabSet (fun _ => []) s.life.snaps i (tabSlice lifeBase 0x8000 s.mem), nextSnap := (i + 1) % 56,
    snapStopped := false } }

theorem snapCopied_wr (s : State) (i : Nat) : Wr [] s (s.snapCopied i) :=
  .upd (copyRecord_wr (by decide) _ (lifeHeader_wr (by decide) (tailCopy_wr (by decide) (.refl s))))

theorem snapCopied_life (s : State) (i : Nat) : (s.snapCopied i).life.nextSnap = (i + 1) % 56 ∧ (s.snapCopied i).life.journal = s.life.journal
    ∧ (s.snapCopied i).life.snapStopped = false ∧ (s.snapCopied i).life.snapDay = s.life.snapDay ∧ (s.snapCopied i).life.snapAt = s.life.snapAt := by
  have hcopy := s.recordCopied_life (8 + i)
  have hset (t : State) (x : Tab (Tab Byte)) (n : Nat) :
      ({ t with life := { t.life with snaps := x, nextSnap := n, snapStopped := false } } : State).life =
        { t.life with snaps := x, nextSnap := n, snapStopped := false } := rfl
  rw [snapCopied, hset, hcopy]
  exact ⟨rfl, rfl, rfl, rfl, rfl⟩

/-- The snapshot goes to the flash, and one more shows, of at most 56. -/
def snapShown (s : State) (work : List (Nat × Nat)) : State :=
  (s.flash work).put fLIFE_SNAPS (if s.get fLIFE_SNAPS < 56 then s.get fLIFE_SNAPS + 1 else 56)

theorem snapShown_count (s : State) (work : List (Nat × Nat)) :
    (s.snapShown work).get fLIFE_SNAPS = if s.get fLIFE_SNAPS < 56 then s.get fLIFE_SNAPS + 1 else 56 :=
  have hfits (n : Nat) : (if n < 56 then n + 1 else 56) < 64 := by split <;> omega
  get_put_fits _ fLIFE_SNAPS (hfits _)

theorem snapShown_life (s : State) (work : List (Nat × Nat)) : (s.snapShown work).life = s.life := by
  have hflash : (s.flash work).life = s.life := rfl
  rw [snapShown, put_life, hflash]

theorem snapshot_eq (hr : s.get fLIFE_RESTORE ≠ 0) (hlost : s.flag fNW_SC0_LOST = false) (hp : s.pwr.pfw = false) :
    s.snapshot = (s.snapCopied (s.life.nextSnap % 56)).snapShown (rewrite (flLife (8 + s.life.nextSnap % 56)) 1) := by
  unfold snapshot snapShown snapCopied
  exact (if_neg (by simp [hr, hlost])).trans (if_neg (by rw [hp]; decide))

theorem snapshot_taken (hr : s.get fLIFE_RESTORE ≠ 0) (hlost : s.flag fNW_SC0_LOST = false) (hp : s.pwr.pfw = false) : SnapTaken s s.snapshot := by
  obtain ⟨hnext, hjournal, hstopped, hday, hat⟩ := s.snapCopied_life (s.life.nextSnap % 56)
  have hcount := (s.snapCopied (s.life.nextSnap % 56)).snapShown_count (rewrite (flLife (8 + s.life.nextSnap % 56)) 1)
  rw [(s.snapCopied_wr (s.life.nextSnap % 56)).get fLIFE_SNAPS] at hcount
  rw [snapshot_eq hr hlost hp]
  exact
    { next := by rw [snapShown_life, hnext]
      journal := by rw [snapShown_life, hjournal]
      stopped := by rw [snapShown_life, hstopped]
      day := by rw [snapShown_life, hday]
      at_ := by rw [snapShown_life, hat]
      count := hcount }

/-- The day of a snapshot is noted. -/
def snapNoted (s : State) : State := { s with life := { s.life with snapDay := s.localDay, snapAt := s.nw.tick } }

theorem daySnapshot_of_not (h : ¬ (s.flag fNW_SC0_LOST = false ∧ s.inDusk = false ∧ s.get fLIFE_RESTORE ≠ 0) ∨ s.snapDue = false) :
    s.daySnapshot = s := by
  refine if_pos ?_
  rcases h with h | h
  · simp only [Bool.or_eq_true, decide_eq_true_eq]
    by_contra hc
    simp only [not_or] at hc
    exact h ⟨Bool.eq_false_iff.2 hc.1.1.2, Bool.eq_false_iff.2 hc.1.2, hc.1.1.1⟩
  · simp [h]

theorem daySnapshot_eq (hlost : s.flag fNW_SC0_LOST = false) (hd : s.inDusk = false) (hr : s.get fLIFE_RESTORE ≠ 0) (h : s.snapDue = true) :
    s.daySnapshot = s.snapNoted.snapshot := by
  unfold daySnapshot
  rw [if_neg (by simp [hlost, hd, hr, h])]
  rfl

theorem snapNoted_stopped (hr : s.get fLIFE_RESTORE ≠ 0) (hlost : s.flag fNW_SC0_LOST = false) (hp : s.pwr.pfw = true) :
    s.snapshot = { s with life := { s.life with snapStopped := true } } := by
  unfold snapshot
  rw [if_neg (by simp [hr, hlost]), if_pos hp]

-- Clearing (R417)

theorem memByte_cut (s : State) (a n k : Nat) : tabGet (fun _ => (0 : Byte)) (tabCut a n s.mem) k = if a ≤ k ∧ k < a + n then 0 else s.memByte k := by
  have htab (t : Tab Byte) : tabGet (fun _ => (0 : Byte)) (tabCut a n t) k = if a ≤ k ∧ k < a + n then 0 else tabGet (fun _ => (0 : Byte)) t k := by
    induction t with
    | nil => exact (ite_self _).symm
    | cons p t ih =>
      obtain ⟨j, b⟩ := p
      rw [tabCut]
      by_cases hj : a ≤ j ∧ j < a + n
      · rw [if_pos hj, ih]
        split
        · rfl
        next hk => rw [tabGet, if_neg fun h : j = k => hk (h ▸ hj)]
      · rw [if_neg hj, tabGet, ih, tabGet]
        by_cases hjk : j = k
        · subst hjk
          rw [if_pos rfl, if_neg hj, if_pos rfl]
        · rw [if_neg hjk, if_neg hjk]
  exact htab s.mem

/-- Bytes and accumulators of the record are cleared. -/
def recordCut (s : State) (x : Tab Byte) (y : Tab Nat) : State :=
  let s := { s with mem := x }
  { s with life := { s.life with acc := y } }

/-- The clearing is logged. -/
def clearTold (s : State) (base : Nat) : State := s.satCount.logFw evLIFE_CLEARED kDEVICE 0 [base]

theorem lifeClearChan_eq (s : State) (c : Nat) : s.lifeClearChan c =
    (s.recordCut (tabCut (lifeBase + lifeChan c) 72 (tabCut (lifeBase + lifeChan c + 88) 40 s.mem))
      (s.life.acc.filter fun p => lifeBaseOf (p.1 % 0x10000) != lifeChan c || 0x20000 ≤ p.1)).clearTold (lifeChan c) := rfl

theorem lifeClearDev_eq (s : State) : s.lifeClearDev =
    (s.recordCut (tabCut (lifeBase + 0x100) 0x2F00 s.mem)
      (s.life.acc.filter fun p => 0x3000 ≤ p.1 % 0x10000 || 0x20000 ≤ p.1)).clearTold lifeDevice := rfl

theorem clearTold_mem (s : State) (base : Nat) : (s.clearTold base).mem = s.mem :=
  (logFw_kept (T := [.regs, .evt]) (by decide) evLIFE_CLEARED kDEVICE 0 [base] (satCount_kept (by decide) (.refl s))).mem_eq

theorem cleared_logged (s : State) (x : Tab Byte) (y : Tab Nat) (base : Nat) : Logged s ((s.recordCut x y).clearTold base) evLIFE_CLEARED 0 := by
  have hcut : (s.recordCut x y).logOpen = s.logOpen := rfl
  have hopen (t : State) : t.satCount.logOpen = t.logOpen :=
    (satCount_wr (R := [(0x290, 0)]) (by decide) (.refl t)).logOpen (by rw [(satCount_kept (T := [.regs]) (by decide) (.refl t)).evt_eq])
      (by rw [(satCount_kept (T := [.regs]) (by decide) (.refl t)).pwr_eq])
  have hqueue (t : State) : t.satCount.evt.queue = t.evt.queue := by rw [(satCount_kept (T := [.regs]) (by decide) (.refl t)).evt_eq]
  exact logged_enqueue ((hopen _).trans hcut) (hqueue _) rfl

-- A record reaches the log (R425)

/-- A record is stored at its place. -/
def recordStored (s : State) (r : EvtRec) : State :=
  let seq := (s.rd aEVT_HEAD).toNat
  let full := (seq + 2 ^ 32 - (s.rd aEVT_OLDEST).toNat) % 2 ^ 32 == 131072
  let s := if full then
      let s := if seqNewer (s.rd aEVT_RDSEQ).toNat (s.rd aEVT_OLDEST).toNat then s else s.bump aEVT_LOST
      s.bump aEVT_OLDEST
    else s
  (s.memWrite (evtAddr seq) (evtBytes r seq)).bump aEVT_HEAD

/-- What a record that has been stored tells: the threshold, its lifetime counter, the capture. -/
def recordTold (s : State) (r : EvtRec) : State :=
  let s := s.evtThreshold
  let s := match lifeOfEvent r with
    | some (b, o) => s.lifeCount b o 1
    | none => s
  s.capOnRecord r

theorem writeRec_eq (s : State) (r : EvtRec) : s.writeRec r = (s.recordStored r).recordTold r := rfl

theorem evtAddr_lt (seq : Nat) : evtAddr seq + 64 ≤ lifeBase := by
  unfold evtAddr lifeBase
  omega

theorem lifeCount_below {base o n j : Nat} (hj : j < lifeBase) (s : State) : (s.lifeCount base o n).memByte j = s.memByte j := by
  have hmem (t : State) (a : Nat) (l : List Byte) (ha : lifeBase ≤ a) : (t.memWrite a l).memByte j = t.memByte j :=
    t.memByte_memWrite_other l (.inl (by omega))
  have hput (t : State) (a : Nat) (b : Byte) (ha : lifeBase ≤ a) : (t.memPut a b).memByte j = t.memByte j :=
    t.memByte_memPut_other b (by omega)
  have htold (t : State) (l : List Nat) :
      (((t.bumpSat fLIFE_NSAT).logEv evLIFETIME_SAT kDEVICE 0 l).raise srcLIFE_SAT).memByte j = t.memByte j := by
    rw [memByte, (raise_kept (T := [.regs, .icu, .nw, .pwr, .evt]) (by decide) srcLIFE_SAT (logEv_kept (by decide) _ _ _ _
      (bumpSat_kept (by decide) _ (.refl t)))).mem_eq, memByte]
  have hite {c : Prop} [Decidable c] {t u : State} (ht : t.memByte j = s.memByte j) (hu : u.memByte j = s.memByte j) :
      (if c then t else u).memByte j = s.memByte j := by
    split
    · exact ht
    · exact hu
  unfold lifeCount
  dsimp only
  refine hite ?_ ?_
  · exact (htold _ _).trans ((hput _ _ _ (by omega)).trans (hmem _ _ _ (by omega)))
  · exact hmem _ _ _ (by omega)

theorem recordTold_below {j : Nat} (hj : j < lifeBase) (s : State) (r : EvtRec) : (s.recordTold r).memByte j = s.memByte j := by
  have hcap (t : State) : (t.capOnRecord r).memByte j = t.memByte j := by
    rw [memByte, (capOnRecord_kept (T := [.regs, .cap]) (by decide) r (.refl t)).mem_eq, memByte]
  have hthreshold : s.evtThreshold.memByte j = s.memByte j := by
    rw [memByte, (evtThreshold_kept (T := [.regs, .icu, .evt, .nw, .pwr]) (by decide) (.refl s)).mem_eq, memByte]
  have hcount (t : State) : (match lifeOfEvent r with | some (b, o) => t.lifeCount b o 1 | none => t).memByte j = t.memByte j := by
    split
    · exact lifeCount_below hj t
    · rfl
  exact (hcap _).trans ((hcount _).trans hthreshold)

theorem recordTold_head (s : State) (r : EvtRec) : (s.recordTold r).rd aEVT_HEAD = s.rd aEVT_HEAD := by
  have hcount (t : State) : Wr [(0x270, 0), (0x290, 0), (0x2A8, 0), (0x5014, 0), (0x1B070, 0)] t
      (match lifeOfEvent r with | some (b, o) => t.lifeCount b o 1 | none => t) := by
    split
    · exact lifeCount_wr (by decide) _ _ 1 (.refl t)
    · exact .refl t
  have hcap (t : State) : (t.capOnRecord r).rd aEVT_HEAD = t.rd aEVT_HEAD :=
    (capOnRecord_wr (R := [(0x294, 0), (0x1E010, 0)]) (by decide) r (.refl t)).eq _ (by decide)
  have hthreshold : s.evtThreshold.rd aEVT_HEAD = s.rd aEVT_HEAD :=
    (evtThreshold_wr (R := [(0x270, 0), (0x1B070, 0)]) (by decide) (.refl s)).eq _ (by decide)
  exact (hcap _).trans (((hcount _).eq _ (by decide)).trans hthreshold)

theorem recordStored_head (s : State) (r : EvtRec) : (s.recordStored r).rd aEVT_HEAD = s.rd aEVT_HEAD + 1 := by
  have hmem (t : State) (a : Nat) (l : List Byte) : (t.memWrite a l).rd aEVT_HEAD = t.rd aEVT_HEAD :=
    (memWrite_wr (R := []) (.refl t)).eq _ (by decide)
  have hfull {c d : Prop} [Decidable c] [Decidable d] (t : State) : (if c then (if d then t else t.bump aEVT_LOST).bump aEVT_OLDEST else t).rd aEVT_HEAD = t.rd aEVT_HEAD :=
    Wr.eq (R := [(aEVT_LOST, 0), (aEVT_OLDEST, 0)]) (.ite (bump_wr (by decide) (.ite (.refl t) (bump_wr (by decide) (.refl t)))) (.refl t)) _ (by decide)
  have hall (t : State) (a : Nat) (l : List Byte) (h : t.rd aEVT_HEAD = s.rd aEVT_HEAD) :
      ((t.memWrite a l).bump aEVT_HEAD).rd aEVT_HEAD = s.rd aEVT_HEAD + 1 := by
    rw [rd_bump, hmem, h]
  exact hall _ _ _ (hfull s)

theorem recordStored_bytes (s : State) (r : EvtRec) {i : Nat} (h : i < (evtBytes r (s.rd aEVT_HEAD).toNat).length) :
    (s.recordStored r).memByte (evtAddr (s.rd aEVT_HEAD).toNat + i) = (evtBytes r (s.rd aEVT_HEAD).toNat)[i] := by
  have hbump (t : State) (k : Nat) : (t.bump aEVT_HEAD).memByte k = t.memByte k := by
    rw [memByte, bump_mem, memByte]
  exact (hbump _ _).trans (memByte_memWrite_same _ _ h)

/-- The records that wait begin with `l`. -/
def QueueBegins (l : List EvtRec) (s : State) : Prop := l <+: s.evt.queue

theorem queue_steady (l : List EvtRec) : LogSteady (QueueBegins l) where
  step _ _ hk _ _ h := by rw [QueueBegins, hk.evt_eq]; exact h
  evt _ _ hx h := by rw [QueueBegins, hx]; exact h
  enqueue s r h := by
    have hbump (t : State) (a : Nat) : (t.bump a).evt = t.evt := bump_evt t a
    unfold QueueBegins enqueue nwLog
    split
    · split
      · dsimp only
        rw [put_evt]
        exact h
      · rw [hbump]
        exact h
    split
    · exact h.trans (List.prefix_append _ _)
    · rw [hbump]
      exact h
  raise s n h := by rw [QueueBegins, (raise_kept (T := [.regs, .icu, .nw, .pwr]) (by decide) n (.refl s)).evt_eq]; exact h

/-- The oldest record that waits has reached the log. -/
structure RecordStands (r : EvtRec) (rest : List EvtRec) (s u : State) : Prop where
  queue : u.evt.queue.take rest.length = rest
  head : u.rd aEVT_HEAD = s.rd aEVT_HEAD + 1
  bytes : ∀ i (h : i < (evtBytes r (s.rd aEVT_HEAD).toNat).length), i < 64 →
    u.memByte (evtAddr (s.rd aEVT_HEAD).toNat + i) = (evtBytes r (s.rd aEVT_HEAD).toNat)[i]

theorem writeRec_arrived (s : State) (r : EvtRec) : RecordStands r s.evt.queue s (s.writeRec r) where
  queue := List.prefix_iff_eq_take.1 ((queue_steady s.evt.queue).writeRec r (List.prefix_refl _)) |>.symm
  head := by rw [writeRec_eq, recordTold_head, recordStored_head]
  bytes i h hi := by
    have hbelow := evtAddr_lt (s.rd aEVT_HEAD).toNat
    rw [writeRec_eq, recordTold_below (by omega), recordStored_bytes s r h]

theorem recordArrives_arrived {r : EvtRec} {rest : List EvtRec} (hopen : s.logOpen = true) (hq : s.evt.queue = r :: rest) :
    RecordStands r rest s s.recordArrives := by
  have harrived := ({ s with evt := { s.evt with queue := rest } } : State).writeRec_arrived r
  have hhead : ({ s with evt := { s.evt with queue := rest } } : State).rd aEVT_HEAD = s.rd aEVT_HEAD := rfl
  unfold recordArrives
  rw [if_neg (by rw [hopen]; decide), hq]
  exact ⟨harrived.queue, harrived.head, harrived.bytes⟩

theorem recordArrives_shut (h : s.logOpen = false) : s.recordArrives = s := if_pos (by rw [h]; decide)

-- EVT_RDSEQ and EVT_THRESH (R426)

/-- A word is stored and the threshold judged anew. -/
structure ThresholdJudged (a : Nat) (w : Word) (s u : State) : Prop where
  word : u.rd a = w
  mem : u.mem = s.mem
  queue : u.evt.queue = s.evt.queue
  regs : Wr [(aDEV_PWR_STAT, 0), (a, 0), (aICU_NWSTAT, 0)] s u

theorem evtThreshold_queue (s : State) : s.evtThreshold.evt.queue = s.evt.queue := by
  have hraise (t : State) : (t.raise srcEVT_LOG).evt = t.evt := (raise_kept (T := [.regs, .icu, .nw, .pwr]) (by decide) srcEVT_LOG (.refl t)).evt_eq
  unfold evtThreshold
  dsimp only
  split
  · rw [hraise]
  · rfl

theorem wr_threshold (s : State) (a v : Nat) (ha : hits [(0x270, 0), (0x1B070, 0)] a = false) :
    ThresholdJudged a (BitVec.ofNat 32 v) s (s.wr a v).evtThreshold where
  word := by rw [(evtThreshold_wr (R := [(0x270, 0), (0x1B070, 0)]) (by decide) (.refl _)).eq _ ha, rd_wr_same]
  mem := by rw [(evtThreshold_kept (T := [.regs, .icu, .evt, .nw, .pwr]) (by decide) (.refl _)).mem_eq, wr_mem]
  queue := by rw [evtThreshold_queue, wr_evt]
  regs := evtThreshold_wr (by simp [aDEV_PWR_STAT, aICU_NWSTAT]) (wr_wr (by simp [hits]) (.refl s))

end State

theorem exec_lifetimeFold (core : BitVec 8) (s : State) : exec (.lifetimeFold core) s = .next (s.fold core.toInt) := rfl
theorem exec_persistDone (ok : Bool) (s : State) : exec (.persistDone ok) s = .next (s.persistEnd ok) := rfl
theorem exec_persistRetry (s : State) : exec .persistRetry s = if s.get fLIFE_PERSIST = 2 ∧ s.life.writing ≠ 0 then
    .next ((s.flash [(fkPROG, flLife s.life.nextJournal)]).put fLIFE_PERSIST 1) else .next s := rfl
theorem exec_dailySnapshot (s : State) : exec .dailySnapshot s = .next s.daySnapshot := rfl
theorem exec_clrCh (c : Fin 128) (s : State) : exec (.clrCh c) s = .next (s.lifeClearChan c.val) := rfl
theorem exec_clrDev (s : State) : exec .clrDev s = .next s.lifeClearDev := rfl
theorem exec_eventRecordWrite (s : State) : exec .eventRecordWrite s = .next s.recordArrives := rfl
theorem exec_evtRdseqWrite (w : BitVec 32) (s : State) : exec (.evtRdseqWrite w) s = .next (s.wr aEVT_RDSEQ w.toNat).evtThreshold := rfl
theorem exec_evtThreshWrite (w : BitVec 32) (s : State) : exec (.evtThreshWrite w) s =
    .next (s.wr aEVT_THRESH (if 131072 < w.toNat % 2 ^ 18 then 131072 else w.toNat % 2 ^ 18)).evtThreshold := rfl

theorem State.life_only (s : State) (x : Life) (hj : x.journal = s.life.journal) (hs : x.snaps = s.life.snaps) : Only [.life] s { s with life := x } :=
  (Kept.upd_life (T := [.life]) (.refl s) (by decide) fun k => by rw [hj, hs]; exact k.flash).only

/-- The next quarter of an hour. -/
def State.nextDue (s : State) : State := { s with life := { s.life with dueAt := s.life.dueAt + 900 * tps } }

theorem exec_persistTimer (s : State) : exec .persistTimer s = if s.get fLIFE_RESTORE = 0 ∨ s.nw.tick < s.life.dueAt then .next s
    else if s.nextDue.inDusk then .next { s.nextDue with life := { s.nextDue.life with due := true } }
    else if s.nextDue.life.writing ≠ 0 then .next s.nextDue
    else .next (s.nextDue.persistBegin 1) := rfl

/-- Settles O36. -/
theorem lifetimeRecords : Obligations.LifetimeRecords := by
  intro core ok c w s runs folds falls next m l a
  have hfalls (h : falls) : ¬ (s.get fLIFE_RESTORE = 0 ∨ s.nw.tick < s.life.dueAt) := not_or.2 ⟨h.1, Nat.not_lt.2 h.2⟩
  have hdusk : s.nextDue.inDusk = s.inDusk := rfl
  have hwriting : s.nextDue.life.writing = l.writing := rfl
  have htimer := exec_persistTimer s
  refine ⟨fun h => .of_eq (exec_lifetimeFold core s) ⟨State.fold_age h.1.1 h.1.2.1 h.1.2.2 h.2, (State.fold_kept (by decide) _ (.refl s)).only⟩,
    fun h => .of_eq (exec_lifetimeFold core s) (State.fold_of_not h), fun h hf hw => ?begun, fun hf hd => ?waits, fun hf hd hw => ?beside, fun hf => ?early,
    fun hw => .of_eq (exec_persistDone true s) ?good, fun hw => .of_eq (exec_persistDone false s) ?bad,
    fun hw => .of_eq (exec_persistDone ok s) (State.persistEnd_of_not hw), fun hp hw => ?retry,
    fun h => .of_eq ((exec_persistRetry s).trans (if_neg fun h2 => h.elim (fun h => h h2.1) h2.2)) rfl,
    fun h hd hp => .of_eq (exec_dailySnapshot s) ?taken, fun h hd hp => .of_eq (exec_dailySnapshot s) ?stopped,
    fun h => .of_eq (exec_dailySnapshot s) (State.daySnapshot_of_not h),
    .of_eq (exec_clrCh c s) ⟨?chLogged, ?chBytes, (State.lifeClearChan_kept (by decide) _ (.refl s)).only⟩,
    .of_eq (exec_clrDev s) ⟨?devLogged, ?devBytes, (State.lifeClearDev_kept (by decide) (.refl s)).only⟩,
    fun r rest hopen hq => .of_eq (exec_eventRecordWrite s) ?arrived,
    fun h => .of_eq (exec_eventRecordWrite s) (State.recordArrives_shut h), .of_eq (exec_evtRdseqWrite w s) ?rdseq,
    .of_eq (exec_evtThreshWrite w s) ?thresh⟩
  case begun =>
    have hbegun : State.Persisting 1 s.nextDue (s.nextDue.persistBegin 1) := State.persistBegin_persisting h.2.2 h.1
    have hkept : Kept [.life] s s.nextDue := Kept.upd_life (.refl s) (by decide) fun k => k.flash
    refine .of_eq (htimer.trans ((if_neg (hfalls hf)).trans ((if_neg (by rw [hdusk, h.2.1]; decide)).trans (if_neg (by rw [hwriting]; exact not_not.2 hw))))) ?_
    exact ⟨hbegun.shown, hbegun.writing, hbegun.due, hbegun.dueAt, hbegun.journal,
      (State.persistBegin_kept (by decide) 1 (hkept.mono (by decide))).only,
      (State.persistBegin_wr (R := [(aDEV_LIFE_STAT, 0)]) (by decide) 1 (.upd (.refl s))).onlyRegs⟩
  case waits =>
    exact .of_eq (htimer.trans ((if_neg (hfalls hf)).trans (if_pos (by rw [hdusk, hd])))) ⟨rfl, s.life_only _ rfl rfl⟩
  case beside =>
    exact .of_eq (htimer.trans ((if_neg (hfalls hf)).trans ((if_neg (by rw [hdusk, hd]; decide)).trans (if_pos (by rw [hwriting]; exact hw)))))
      ⟨rfl, s.life_only _ rfl rfl⟩
  case early =>
    refine .of_eq (htimer.trans (if_pos ?_)) rfl
    by_contra hc
    rw [not_or, Nat.not_lt] at hc
    exact hf hc
  case good =>
    have hkept : Kept [.regs, .life, .fspi] s (s.persistEnd true) := State.persistEnd_kept (by decide) true (.refl s)
    have hlife : (s.persistEnd true).life = s.lifeKept.life := by
      have hflash (t : State) (x : List (Nat × Nat)) : (t.flash x).life = t.life := rfl
      rw [State.persistEnd_good hw, State.put_life, State.put_life, hflash]
    refine ⟨?_, ?_, by rw [hlife]; rfl, by rw [hlife]; rfl, by rw [hlife]; rfl, by rw [hlife]; rfl, fun k => by rw [hlife]; exact s.lifeKept_journal k, hkept.only⟩
    · rw [State.persistEnd_good hw]
      exact (State.get_put_apart _ (f := fLIFE_AGE) (g := fLIFE_PERSIST) 0 (by decide) rfl (by decide)).trans (State.get_put_fits _ fLIFE_PERSIST (by decide))
    · rw [State.persistEnd_good hw]
      exact State.get_put_fits _ fLIFE_AGE (by decide)
  case bad =>
    have hflash (t : State) (x : List (Nat × Nat)) : (t.flash x).life = t.life := rfl
    refine ⟨?_, ?_, (State.persistEnd_kept (by decide) false (.refl s)).only⟩
    · rw [State.persistEnd_bad hw]
      exact State.get_put_fits _ fLIFE_PERSIST (by decide)
    · rw [State.persistEnd_bad hw, State.put_life, hflash]
  case retry =>
    exact .of_eq ((exec_persistRetry s).trans (if_pos ⟨hp, hw⟩)) ⟨State.get_put_fits _ fLIFE_PERSIST (by decide),
      (State.put_kept (by decide) _ _ (State.flash_kept (by decide) _ (.refl s))).only,
      (State.put_wr (R := [(aDEV_LIFE_STAT, 0)]) (by decide) (State.flash_wr (by decide) _ (.refl s))).onlyRegs⟩
  case taken =>
    have htaken : State.SnapTaken s.snapNoted s.snapNoted.snapshot := State.snapshot_taken h.2.2 h.1 hp
    have hkept : Kept [.regs, .mem, .life, .fspi] s s.daySnapshot := State.daySnapshot_kept (by decide) (.refl s)
    rw [State.daySnapshot_eq h.1 h.2.1 h.2.2 hd] at hkept ⊢
    exact ⟨htaken.next, htaken.journal, htaken.stopped, htaken.day, htaken.at_, htaken.count, hkept.only⟩
  case stopped =>
    have hstopped := State.snapNoted_stopped (s := s.snapNoted) h.2.2 h.1 hp
    rw [State.daySnapshot_eq h.1 h.2.1 h.2.2 hd, hstopped]
    exact ⟨rfl, s.life_only _ rfl rfl⟩
  case chLogged =>
    rw [State.lifeClearChan_eq]
    exact s.cleared_logged _ _ _
  case chBytes =>
    intro k
    have hcut (x : Tab Byte) (y : Tab Nat) : (s.recordCut x y).memByte k = tabGet (fun _ => 0) x k := rfl
    have hfirst := ({ s with mem := tabCut (a + 88) 40 s.mem } : State).memByte_cut a 72 k
    rw [State.lifeClearChan_eq, State.memByte, State.clearTold_mem, ← State.memByte, hcut]
    refine hfirst.trans ?_
    have hsecond : ({ s with mem := tabCut (a + 88) 40 s.mem } : State).memByte k = if a + 88 ≤ k ∧ k < a + 88 + 40 then 0 else s.memByte k :=
      s.memByte_cut (a + 88) 40 k
    rw [hsecond]
    grind
  case devLogged =>
    rw [State.lifeClearDev_eq]
    exact s.cleared_logged _ _ _
  case devBytes =>
    intro k
    have hcut (x : Tab Byte) (y : Tab Nat) : (s.recordCut x y).memByte k = tabGet (fun _ => 0) x k := rfl
    rw [State.lifeClearDev_eq, State.memByte, State.clearTold_mem, ← State.memByte, hcut, s.memByte_cut (lifeBase + 0x100) 0x2F00 k]
  case arrived =>
    have harrived := State.recordArrives_arrived hopen hq
    exact ⟨harrived.queue, harrived.head, harrived.bytes, (State.recordArrives_kept (by decide) (.refl s)).only⟩
  case rdseq =>
    have hj := s.wr_threshold aEVT_RDSEQ w.toNat (by decide)
    exact ⟨hj.word.trans (BitVec.ofNat_toNat ..|>.trans (BitVec.setWidth_eq w)), hj.mem, hj.queue, hj.regs.onlyRegs⟩
  case thresh =>
    have hj := s.wr_threshold aEVT_THRESH (if 131072 < w.toNat % 2 ^ 18 then 131072 else w.toNat % 2 ^ 18) (by decide)
    exact ⟨hj.word, hj.mem, hj.queue, hj.regs.onlyRegs⟩

end Sys2Proof.Machine
end

section
/-! FRAMES OF THE FORERUNNER PROTOCOL (R448-R455): what a read drives, and the writes of CHnn_CTRL, PW_HI, LOCK and SELFTEST (O37). -/

namespace Sys2Proof.Machine

-- The request of a CHnn_CTRL word (R451)

/-- The command of a CHnn_CTRL word: SHOW, RELEASE or HIDE by its two upper bits. -/
def ctrlCmd (x : Nat) : Nat := if bitOf x 14 then 0 else if bitOf x 15 then 1 else 2

theorem ctrlCmd_lt (x : Nat) : ctrlCmd x < 3 := by
  unfold ctrlCmd
  split
  · decide
  split <;> decide

theorem ctrlCmd_cut (x : Nat) : ctrlCmd (withBits x 12 2 0) = ctrlCmd x := by
  have h14 : withBits x 12 2 0 / 2 ^ 14 % 2 = x / 2 ^ 14 % 2 := by
    unfold withBits
    omega
  have h15 : withBits x 12 2 0 / 2 ^ 15 % 2 = x / 2 ^ 15 % 2 := by
    unfold withBits
    omega
  rw [ctrlCmd, bitOf, bitOf, h14, h15, ctrlCmd, bitOf, bitOf]

theorem ctrlLevel_cut (x : Nat) : bitsOf (withBits x 12 2 0) 0 12 = x % 4096 := by
  unfold bitsOf withBits
  omega

/-- The word of ASP_REQ that a request of command `c` and level `l` stores. -/
theorem requestWord {c l : Nat} (hc : c < 3) (hl : l < 4096) :
    let v := withBits (c + if l = 0 then 0 else 3 * 4 + (l * 16 + l / 256) * 65536) 8 8 0
    v < 2 ^ 32 ∧ bitsOf v 0 2 = c ∧ bitsOf v 7 1 = 0 ∧ bitsOf v 2 2 = (if l = 0 then 0 else 3) ∧ bitsOf v 16 16 = l * 16 + l / 256 := by
  by_cases h : l = 0
  · subst h
    simp only [if_true, bitsOf, withBits]
    omega
  · simp only [if_neg h, bitsOf, withBits]
    omega

namespace State

variable {s t : State}

/-- A request of an aspect stands in its word. -/
structure CtrlAsked (m x : Nat) (s u : State) : Prop where
  kept : Kept [.regs] s u
  regs : Wr [(aASP_REQ m, 0)] s u
  cmd : u.get (fREQ_CMD m) = ctrlCmd x
  pat : u.get (fREQ_PAT_EN m) = 0
  level : u.get (fREQ_LEVEL m) = if x % 4096 = 0 then 0 else 3
  bright : u.get (fREQ_BRIGHT m) = x % 4096 * 16 + x % 4096 / 256

theorem aspReqWrite_asked (m x : Nat) (hmn : s.midnight = false) :
    CtrlAsked m x s (s.aspReqWrite m (ctrlRequest (withBits x 12 2 0))) := by
  have hreq : ctrlRequest (withBits x 12 2 0) = ctrlCmd x + if x % 4096 = 0 then 0 else 3 * 4 + (x % 4096 * 16 + x % 4096 / 256) * 65536 := by
    rw [← ctrlCmd_cut x, ← ctrlLevel_cut x]
    rfl
  obtain ⟨hlt, hcmd, hpat, hlevel, hbright⟩ := requestWord (ctrlCmd_lt x) (Nat.mod_lt x (by decide : 0 < 4096))
  rw [← hreq] at hlt hcmd hpat hlevel hbright
  have hget (lo width : Nat) : (s.wr (aASP_REQ m) (withBits (ctrlRequest (withBits x 12 2 0)) 8 8 0)).get ⟨aASP_REQ m, lo, width⟩ =
      bitsOf (withBits (ctrlRequest (withBits x 12 2 0)) 8 8 0) lo width := by
    rw [get, s.rd_wr_lt _ hlt]
  rw [aspReqWrite, if_neg (by rw [hmn]; decide)]
  exact
    { kept := wr_kept (by decide) _ _ (.refl s)
      regs := wr_wr (hit_one (List.mem_singleton_self _)) (.refl s)
      cmd := (hget 0 2).trans hcmd
      pat := (hget 7 1).trans hpat
      level := (hget 2 2).trans hlevel
      bright := (hget 16 16).trans hbright }

-- A write of CHnn_CTRL (R451, R452)

theorem ctrlWrite_midnight (n x : Nat) (hmn : s.midnight = true) : s.ctrlWrite n x = s.spiErr := if_pos hmn

/-- The word of a channel is stored. -/
def ctrlStored (s : State) (n x : Nat) : State := s.setSpi { s.spi with ctrl := tabSet (fun _ => 0x4000) s.spi.ctrl n (withBits x 12 2 0) }

theorem ctrlWrite_eq (n x : Nat) (hmn : s.midnight = false) : s.ctrlWrite n x =
    match s.owner n with
    | some m => (s.ctrlStored n x).aspReqWrite m (ctrlRequest (withBits x 12 2 0))
    | none => (s.ctrlStored n x).spiErr := by
  have howner : (s.ctrlStored n x).owner n = s.owner n := rfl
  unfold ctrlWrite
  rw [if_neg (by rw [hmn]; decide), ← howner]
  rfl

theorem ctrlWrite_owned {n m : Nat} (x : Nat) (hmn : s.midnight = false) (h : s.owner n = some m) :
    s.ctrlWrite n x = (s.ctrlStored n x).aspReqWrite m (ctrlRequest (withBits x 12 2 0)) := by
  rw [ctrlWrite_eq n x hmn, h]

theorem ctrlWrite_ownerless {n : Nat} (x : Nat) (hmn : s.midnight = false) (h : s.owner n = none) :
    s.ctrlWrite n x = (s.ctrlStored n x).spiErr := by
  rw [ctrlWrite_eq n x hmn, h]

theorem ctrlStored_ctrl (s : State) (n x : Nat) : tabGet (fun _ => 0x4000) (s.ctrlStored n x).spi.ctrl n = withBits x 12 2 0 := by
  have hset : (s.ctrlStored n x).spi.ctrl = tabSet (fun _ => 0x4000) s.spi.ctrl n (withBits x 12 2 0) := rfl
  rw [hset, tabGet_set, if_pos rfl]

/-- A word of a channel is stored, and its owner asked. -/
structure CtrlWritten (n x : Nat) (s u : State) : Prop where
  stored : tabGet (fun _ => 0x4000) u.spi.ctrl n = withBits x 12 2 0
  ownerless : s.owner n = none → u.spi.err = true ∧ Kept [.spi] s u
  owned : ∀ m, s.owner n = some m → Kept [.regs, .spi] s u ∧ CtrlAsked m x (s.ctrlStored n x) u

theorem ctrlWrite_written (n x : Nat) (hmn : s.midnight = false) : CtrlWritten n x s (s.ctrlWrite n x) := by
  have hkept : Kept [.spi] s (s.ctrlStored n x) := setSpi_kept (by decide) _ (.refl s)
  have herr (t : State) : t.spiErr.spi = { t.spi with err := true } := rfl
  cases h : s.owner n with
  | none =>
    rw [ctrlWrite_ownerless x hmn h]
    refine ⟨?_, fun _ => ⟨by rw [herr], spiErr_kept (by decide) hkept⟩, fun m hm => (nomatch h.symm.trans hm)⟩
    rw [herr]
    exact s.ctrlStored_ctrl n x
  | some m =>
    have hasked := aspReqWrite_asked (s := s.ctrlStored n x) m x hmn
    rw [ctrlWrite_owned x hmn h]
    refine ⟨?_, fun hn => (nomatch h.symm.trans hn), fun k hk => ?_⟩
    · rw [hasked.kept.spi_eq]
      exact s.ctrlStored_ctrl n x
    · rw [h] at hk
      cases hk
      exact ⟨(hkept.mono (by decide)).trans (hasked.kept.mono (by decide)), hasked⟩

-- A write of PW_HI (R453)

theorem pwTry_barred (hi : Nat) (h : s.lockedOut = true ∨ s.midnight = true ∨ s.secOut ≠ none) : s.pwTry hi = s.spiErr := by
  refine if_pos ?_
  rcases h with h | h | h
  · simp [h]
  · simp [h]
  · simp [Option.isSome_iff_ne_none.2 h]

/-- PW_LO is cleared. -/
def pwCleared (s : State) : State := s.setSpi { s.spi with pwLo := 0 }

/-- The eight bytes that a write of PW_HI tries. -/
def pwBytes (s : State) (hi : Nat) : List Byte := leBytes 2 s.spi.pwLo ++ leBytes 2 hi ++ leBytes 4 0

theorem pwTry_open (hi : Nat) (h : ¬ (s.lockedOut = true ∨ s.midnight = true ∨ s.secOut ≠ none)) :
    s.pwTry hi = if s.sec.record.isNone then s.pwCleared else (s.pwCleared.pwCheck 9 (s.pwBytes hi)).1 := by
  rw [not_or, not_or, not_not] at h
  obtain ⟨hlock, hmn, hsec⟩ := h
  unfold pwTry
  rw [if_neg (by simp [hlock, hmn, hsec])]
  rfl

/-- A tried password: PW_LO is cleared, and the stored record decides. -/
structure PwTried (hi : Nat) (s u : State) : Prop where
  spi : u.spi = { s.spi with pwLo := 0 }
  empty : s.sec.record = none → u.sec = s.sec
  good : s.pwMatch (s.pwBytes hi) = true → u.elevated 9 = true ∧ u.sec.fails = 0
  bad : s.sec.record ≠ none → s.pwMatch (s.pwBytes hi) = false → u.elevated 9 = s.elevated 9 ∧ u.sec.fails = s.sec.fails + 1

theorem pwCheck_good (c : Nat) {bs : List Byte} (h : s.pwMatch bs = true) : (s.pwCheck c bs).1 = s.credGood.elevate c := by
  unfold pwCheck
  rw [if_pos h]

theorem pwCheck_bad (c : Nat) {bs : List Byte} (h : s.pwMatch bs = false) : (s.pwCheck c bs).1 = s.credFail c 1 := by
  unfold pwCheck
  rw [if_neg (by rw [h]; decide)]

theorem pwTry_tried (hi : Nat) (h : ¬ (s.lockedOut = true ∨ s.midnight = true ∨ s.secOut ≠ none)) : PwTried hi s (s.pwTry hi) := by
  have hmatch (bs : List Byte) : s.pwCleared.pwMatch bs = s.pwMatch bs := rfl
  have helevated (c : Nat) : s.pwCleared.elevated c = s.elevated c := rfl
  rw [pwTry_open hi h]
  cases hrec : s.sec.record with
  | none =>
    have hno : s.pwMatch (s.pwBytes hi) = false := by rw [pwMatch, hrec]; rfl
    exact ⟨rfl, fun _ => rfl, fun hg => absurd hg (by rw [hno]; decide), fun hn => absurd hrec hn⟩
  | some r =>
    rw [Option.isNone_some, if_neg Bool.false_ne_true]
    cases hm : s.pwMatch (s.pwBytes hi) with
    | true =>
      have hkept : Kept [.sec, .fspi] s.pwCleared (s.pwCleared.credGood.elevate 9) := elevate_kept (by decide) _ (credGood_kept (by decide) (.refl _))
      rw [pwCheck_good 9 ((hmatch _).trans hm)]
      refine ⟨hkept.spi_eq, fun hn => (nomatch hrec.symm.trans hn), fun _ => ⟨?_, ?_⟩, fun _ hb => (nomatch hm.symm.trans hb)⟩
      · rw [elevate_elevated, beq_self_eq_true, Bool.or_true]
      · rw [elevate_fails]
        rfl
    | false =>
      have hkept : Kept [.regs, .evt, .sec, .fspi] s.pwCleared (s.pwCleared.credFail 9 1) := credFail_kept (by decide) _ _ (.refl _)
      rw [pwCheck_bad 9 ((hmatch _).trans hm)]
      refine ⟨hkept.spi_eq, fun hn => (nomatch hrec.symm.trans hn), fun hg => (nomatch hm.symm.trans hg), fun _ _ => ⟨?_, ?_⟩⟩
      · rw [credFail_elevated, helevated]
      · rw [credFail_sec]
        rfl

-- A write of LOCK (R453)

theorem endElev_elevated (s : State) (c d : Nat) : (s.endElev c).elevated d = (s.elevated d && !(d == c)) := by
  have hset : (s.endElev c).elevated d = tabGet (fun _ => false) (tabSet (fun _ => false) s.sec.elev c false) d := rfl
  rw [hset, tabGet_set]
  by_cases h : d = c
  · rw [if_pos h, h, beq_self_eq_true, Bool.not_true, Bool.and_false]
  · rw [if_neg h, beq_false_of_ne h, Bool.not_false, Bool.and_true]
    rfl

-- A write of SELFTEST with START (R454, R455)

theorem selfTest_denied {x : Nat} (hstart : bitOf x 0 = true) (h : s.elevated 9 = false) : s.selfTest x = s.spiErr := by
  unfold selfTest
  dsimp only
  rw [if_neg (by rw [hstart]; decide), if_pos (by rw [h]; decide)]

/-- The choice of SELFTEST stands, with the privileged access noted. -/
def testChosen (s : State) (full : Bool) : State := (s.touch 9).setSpi { s.spi with full := full }

theorem selfTest_eq {x : Nat} (hstart : bitOf x 0 = true) (h : s.elevated 9 = true) : s.selfTest x =
    if s.bist.active then (s.testChosen (bitOf x 1)).setSpi { (s.testChosen (bitOf x 1)).spi with result := 5 }
    else ((s.testChosen (bitOf x 1)).setSpi { (s.testChosen (bitOf x 1)).spi with busy := true, result := 0 }).bistBegin none
      ([0x1A, 0x1B, 0x1C, 0x1D] ++ if bitOf x 1 then [bkMEMDIE] else []) false false := by
  have hbist : (s.testChosen (bitOf x 1)).bist = s.bist := (setSpi_kept (T := [.spi, .sec]) (by decide) _ (touch_kept (by decide) 9 (.refl s))).bist_eq
  unfold selfTest
  dsimp only
  rw [if_neg (by rw [hstart]; decide), if_neg (by rw [h]; decide), ← hbist]
  rfl

/-- The run of the memory blocks is asked for. -/
structure TestAsked (full : Bool) (s u : State) : Prop where
  kept : Kept [.regs, .spi, .sec, .bist] s u
  busy : s.bist.active = true → u.spi = { s.spi with full := full, result := 5 } ∧ u.bist = s.bist ∧ u.regs = s.regs
  begun : s.bist.active = false → u.spi = { s.spi with full := full, busy := true, result := 0 } ∧ u.bist.active = true
    ∧ u.bist.left = [0x1A, 0x1B, 0x1C, 0x1D] ++ (if full then [bkMEMDIE] else []) ∧ u.bist.job = none ∧ u.flag State.fBIST_RUNNING = true

theorem bistBegin_begun (s : State) (job : Option Nat) (sel : List Nat) (force stop : Bool) : (s.bistBegin job sel force stop).bist.active = true
    ∧ (s.bistBegin job sel force stop).bist.left = sel ∧ (s.bistBegin job sel force stop).bist.job = job
    ∧ (s.bistBegin job sel force stop).flag State.fBIST_RUNNING = true := by
  have hset (t : State) (x : Bist) : (t.setBist x).flag State.fBIST_RUNNING = t.flag State.fBIST_RUNNING := rfl
  exact ⟨rfl, rfl, rfl, (hset _ _).trans (s.flag_putFlag State.fBIST_RUNNING true)⟩

theorem selfTest_asked {x : Nat} (hstart : bitOf x 0 = true) (h : s.elevated 9 = true) : TestAsked (bitOf x 1) s (s.selfTest x) := by
  have hkept : Kept [.spi, .sec] s (s.testChosen (bitOf x 1)) := setSpi_kept (by decide) _ (touch_kept (by decide) 9 (.refl s))
  have hspi : (s.testChosen (bitOf x 1)).spi = { s.spi with full := bitOf x 1 } := rfl
  have hset (t : State) (y : Spi) : (t.setSpi y).spi = y := rfl
  rw [selfTest_eq hstart h]
  cases hactive : s.bist.active with
  | true =>
    rw [if_pos rfl]
    have hall : Kept [.spi, .sec] s ((s.testChosen (bitOf x 1)).setSpi { (s.testChosen (bitOf x 1)).spi with result := 5 }) :=
      setSpi_kept (by decide) _ hkept
    refine ⟨hall.mono (by decide), fun _ => ⟨?_, hall.bist_eq, hall.regs_eq⟩, fun hn => (nomatch hactive.symm.trans hn)⟩
    rw [hset, hspi]
  | false =>
    rw [if_neg (by decide)]
    have hbegin (t : State) (sel : List Nat) : Kept [.regs, .bist] t (t.bistBegin none sel false false) := bistBegin_kept (by decide) _ _ _ _ (.refl t)
    refine ⟨bistBegin_kept (by decide) _ _ _ _ (setSpi_kept (by decide) _ (hkept.mono (by decide))), fun hn => (nomatch hactive.symm.trans hn), fun _ => ?_⟩
    obtain ⟨hact, hleft, hjob, hrun⟩ := bistBegin_begun ((s.testChosen (bitOf x 1)).setSpi { (s.testChosen (bitOf x 1)).spi with busy := true, result := 0 })
      none ([0x1A, 0x1B, 0x1C, 0x1D] ++ if bitOf x 1 then [bkMEMDIE] else []) false false
    refine ⟨?_, hact, hleft, hjob, hrun⟩
    rw [(hbegin _ _).spi_eq, hset, hspi]

-- Frames

theorem spiFrame_off (clocks cmd x : Nat) (h : s.spi.mode = false) : s.spiFrame clocks cmd x = s.drive [] := by
  unfold spiFrame
  exact if_pos (by rw [h]; rfl)

theorem spiFrame_short {clocks : Nat} (cmd x : Nat) (h : s.spi.mode = true) (hc : clocks ≠ 24) : s.spiFrame clocks cmd x = (s.drive []).spiErr := by
  unfold spiFrame
  exact (if_neg (by rw [h]; decide)).trans (if_pos hc)

theorem spiFrame_served {a x : Nat} (hmode : s.spi.mode = true) (hvalid : s.hostValid = true) (ha : a < 128) :
    s.spiFrame 24 a x = (s.drive [s.spiStatus, 0, 0]).spiWrite a x := by
  rw [spiFrame_write hmode ha, if_pos hvalid]

theorem drive_err (s : State) (d : List Byte) : (s.drive d).spiErr.spi = { s.spi with err := true } ∧ Only [.bus, .spi] s (s.drive d).spiErr :=
  ⟨rfl, (spiErr_kept (by decide) (drive_kept (by decide) d (.refl s))).only⟩

/-- A driven state with a write after it. -/
theorem drive_trans {T : List Comp} {d : List Byte} {u : State} (h : Kept T (s.drive d) u) (hT : Comp.bus ∈ T) : Only T s u :=
  ((drive_kept (List.cons_subset.2 ⟨hT, List.nil_subset T⟩) d (.refl s)).trans h).only

theorem spiValue_ctrl (s : State) (n : Fin 32) : s.spiValue (0x10 + n.val) = tabGet (fun _ => 0x4000) s.spi.ctrl n.val := by
  unfold spiValue
  rw [if_neg (by omega), if_neg (by omega), if_neg (by omega), if_neg (by omega), if_pos (by omega), Nat.add_sub_cancel_left]

theorem spiValue_empty (s : State) {a : Nat} (h : 8 ≤ a ∧ a < 0x10 ∨ 0x50 ≤ a ∧ a < 0x80) : s.spiValue a = 0 := by
  unfold spiValue
  rw [if_neg (by omega), if_neg (by omega), if_neg (by omega), if_neg (by omega), if_neg (by omega), if_neg (by omega)]

theorem spiWrite_ctrl (s : State) (n : Fin 32) (x : Nat) : s.spiWrite (0x10 + n.val) x = s.ctrlWrite n.val x := by
  unfold spiWrite
  rw [if_neg (by omega), if_neg (by omega), if_neg (by omega), if_neg (by omega), if_neg (by omega), if_pos (by omega), Nat.add_sub_cancel_left]

end State

theorem exec_spi3032Transaction (clocks : Nat) (cmd : BitVec 8) (x : BitVec 16) (s : State) :
    exec (.spi3032Transaction clocks cmd x) s = .next (s.spiFrame clocks cmd.toNat x.toNat) := rfl
theorem exec_chCtrlWrite (n : Fin 32) (x : BitVec 16) (s : State) : exec (.chCtrlWrite n x) s = .next (s.spiFrame 24 (0x10 + n.val) x.toNat) := rfl
theorem exec_pwHiWrite (x : BitVec 16) (s : State) : exec (.pwHiWrite x) s = .next (s.spiFrame 24 0x04 x.toNat) := rfl
theorem exec_spiLock (x : BitVec 16) (s : State) : exec (.spiLock x) s = .next (s.spiFrame 24 0x05 x.toNat) := rfl
theorem exec_selftestStart (full : Bool) (s : State) : exec (.selftestStart full) s = .next (s.spiFrame 24 0x06 (1 + 2 * boolNat full)) := rfl

/-- The flags that the status byte of a frame shows. -/
structure SpiStatusShown (s : State) (b : Byte) : Prop where
  valid : b.getLsbD 7 = s.hostValid
  err : b.getLsbD 6 = s.spi.err
  unlocked : b.getLsbD 5 = s.elevated 9
  fault : b.getLsbD 4 = !s.faultN
  ready : b.getLsbD 3 = s.pins.aspectReady
  low : ∀ i < 3, b.getLsbD i = false

theorem spiStatus_shown (s : State) : SpiStatusShown s s.spiStatus := by
  obtain ⟨hvalid, herr, hunlocked, hfault, hready, hlow⟩ := s.spiStatus_bits
  refine ⟨hvalid, herr, hunlocked, hfault, hready, fun i hi => ?_⟩
  rw [← State.bitOf_toNat, bitOf]
  interval_cases i <;> simp only [beq_eq_false_iff_ne] <;> omega

/-- A read of register `a` drives its value. -/
theorem spiFrame_reads {s : State} {a : Nat} (x : BitVec 16) (hmode : s.spi.mode = true) (hvalid : s.hostValid = true) (ha : a < 128) :
    Only [.bus, .spi] s (s.spiFrame 24 (BitVec.ofNat 8 (128 + a)).toNat x.toNat)
      ∧ (s.spiFrame 24 (BitVec.ofNat 8 (128 + a)).toNat x.toNat).spi = (if a = 2 then { s.spi with err := false } else s.spi)
      ∧ (s.spiFrame 24 (BitVec.ofNat 8 (128 + a)).toNat x.toNat).bus =
        [s.spiStatus, BitVec.ofNat 8 (s.spiValue a / 256), BitVec.ofNat 8 (s.spiValue a)] := by
  have hcmd : (BitVec.ofNat 8 (128 + a)).toNat = 128 + a := by
    rw [BitVec.toNat_ofNat]
    omega
  have hreg : (128 + a) % 128 = a := by omega
  rw [hcmd, State.spiFrame_read hmode (by omega), if_pos hvalid, hreg]
  refine ⟨(State.drive_kept (by decide) _ (.ite (State.setSpi_kept (by decide) _ (.refl s)) (.refl s))).only, ?_, rfl⟩
  by_cases h : a = 2
  · rw [if_pos h, if_pos h]
    rfl
  · rw [if_neg h, if_neg h]
    rfl

/-- Settles O37. -/
theorem spiFrames : Obligations.SpiFrames := by
  intro n x cmd clocks full s mode go status reads errs barred try8 blocks
  have hstatus : status s.spiStatus :=
    have h := spiStatus_shown s
    ⟨h.valid, h.err, h.unlocked, h.fault, h.ready, h.low⟩
  have hreads {a : Nat} (hg : go) (ha : a < 128) : reads a (s.spiValue a) := by
    obtain ⟨honly, hspi, hbus⟩ := spiFrame_reads (s := s) x hg.1 hg.2 ha
    exact .of_eq (exec_spi3032Transaction 24 _ x s) ⟨honly, hspi, s.spiStatus, hstatus, hbus⟩
  refine ⟨fun h => .of_eq ((exec_spi3032Transaction clocks cmd x s).trans (by rw [State.spiFrame_off _ _ _ h])) ⟨rfl, s.drive_only []⟩,
    fun h hc => .of_eq ((exec_spi3032Transaction clocks cmd x s).trans (by rw [State.spiFrame_short _ _ h hc])) ⟨rfl, s.drive_err []⟩,
    fun h hv => .of_eq (exec_spi3032Transaction 24 cmd x s) ?dead, fun hg => ⟨hreads hg (by decide), hreads hg (by decide), ?ctrlRead, ?emptyRead⟩,
    fun hg hc => .of_eq (exec_spi3032Transaction 24 cmd x s) ⟨s.spiStatus, hstatus, ?written⟩,
    fun hg hmn => .of_eq ((exec_chCtrlWrite n x s).trans (by rw [State.spiFrame_served hg.1 hg.2 (by omega), State.spiWrite_ctrl])) ?ctrlMidnight,
    fun hg hmn => .of_eq ((exec_chCtrlWrite n x s).trans (by rw [State.spiFrame_served hg.1 hg.2 (by omega), State.spiWrite_ctrl])) ?ctrl,
    fun hg hb => .of_eq ((exec_pwHiWrite x s).trans (by rw [State.spiFrame_served hg.1 hg.2 (by omega)])) ?barred,
    fun hg hb => .of_eq ((exec_pwHiWrite x s).trans (by rw [State.spiFrame_served hg.1 hg.2 (by omega)])) ?tried,
    fun hg => .of_eq ((exec_spiLock x s).trans (by rw [State.spiFrame_served hg.1 hg.2 (by omega)])) ?lock,
    fun hg he => .of_eq ((exec_selftestStart full s).trans (by rw [State.spiFrame_served hg.1 hg.2 (by omega)])) ?denied,
    fun hg he => .of_eq ((exec_selftestStart full s).trans (by rw [State.spiFrame_served hg.1 hg.2 (by omega)])) ?test⟩
  case dead =>
    obtain ⟨d, hbus, hlen, hoff⟩ := State.spiFrame_bus h cmd.toNat x.toNat
    refine ⟨(hoff hv).1, s.spiStatus, hstatus, ?_⟩
    split
    next h7 => rw [hbus, (hoff hv).2 h7]
    next h7 =>
      rw [State.spiFrame_write h (by omega), if_neg (by rw [hv]; decide)]
      rfl
  case ctrlRead =>
    rw [← s.spiValue_ctrl n]
    exact hreads hg (by omega)
  case emptyRead =>
    intro a ha
    have hempty := s.spiValue_empty ha
    rw [← hempty]
    exact hreads hg (by omega)
  case written =>
    rw [State.spiFrame_served hg.1 hg.2 hc, State.spiWrite_bus]
    rfl
  case ctrlMidnight =>
    have hmidnight : (s.drive [s.spiStatus, 0, 0]).ctrlWrite n.val x.toNat = (s.drive [s.spiStatus, 0, 0]).spiErr := State.ctrlWrite_midnight _ _ hmn
    rw [hmidnight]
    exact s.drive_err _
  case ctrl =>
    have hw : State.CtrlWritten n.val x.toNat (s.drive [s.spiStatus, 0, 0]) _ := State.ctrlWrite_written n.val x.toNat hmn
    refine ⟨hw.stored, fun hn => ⟨(hw.ownerless hn).1, State.drive_trans ((hw.ownerless hn).2.mono (by decide)) (by decide)⟩, fun m hm => ?_⟩
    obtain ⟨hkept, hasked⟩ := hw.owned m hm
    refine ⟨State.drive_trans (hkept.mono (by decide)) (by decide), hasked.regs.onlyRegs, ?_, ?_, hasked.level, hasked.bright⟩
    · rw [hasked.cmd, ctrlCmd, State.bitOf_toNat, State.bitOf_toNat]
    · rw [State.flag, hasked.pat]
      rfl
  case barred =>
    have hb' : ((s.drive [s.spiStatus, 0, 0]).pwTry x.toNat) = (s.drive [s.spiStatus, 0, 0]).spiErr := State.pwTry_barred _ hb
    have hw (t : State) : t.spiWrite 0x04 x.toNat = t.pwTry x.toNat := rfl
    rw [hw, hb']
    exact s.drive_err _
  case tried =>
    have ht : State.PwTried x.toNat (s.drive [s.spiStatus, 0, 0]) _ := State.pwTry_tried _ hb
    exact ⟨ht.spi, ht.empty, ht.good, ht.bad⟩
  case lock =>
    have hw (t : State) : t.spiWrite 0x05 x.toNat = t.endElev 9 := rfl
    rw [hw]
    exact ⟨fun d => State.endElev_elevated _ 9 d, State.drive_trans (State.endElev_kept (by decide) 9 (.refl _)) (by decide)⟩
  case denied =>
    have hw (t : State) : t.spiWrite 0x06 (1 + 2 * boolNat full) = t.selfTest (1 + 2 * boolNat full) := rfl
    have hstart : bitOf (1 + 2 * boolNat full) 0 = true := by cases full <;> rfl
    have hdenied : (s.drive [s.spiStatus, 0, 0]).selfTest (1 + 2 * boolNat full) = (s.drive [s.spiStatus, 0, 0]).spiErr := State.selfTest_denied hstart he
    rw [hw, hdenied]
    exact s.drive_err _
  case test =>
    have hw (t : State) : t.spiWrite 0x06 (1 + 2 * boolNat full) = t.selfTest (1 + 2 * boolNat full) := rfl
    have hstart : bitOf (1 + 2 * boolNat full) 0 = true := by cases full <;> rfl
    have hfull : bitOf (1 + 2 * boolNat full) 1 = full := by cases full <;> rfl
    have ht : State.TestAsked (bitOf (1 + 2 * boolNat full) 1) (s.drive [s.spiStatus, 0, 0]) _ := State.selfTest_asked hstart he
    rw [hfull] at ht
    rw [hw]
    exact ⟨State.drive_trans (ht.kept.mono (by decide)) (by decide), ht.busy, ht.begun⟩

end Sys2Proof.Machine
end

section
/-! THE QSPI SLAVE (R305-R312): refused words, bursts of writes and reads, and what they drive (O38, O39). -/

namespace Sys2Proof.Machine

-- The bytes of words

theorem bytesOfWords_length (ws : List Word) : (bytesOfWords ws).length = 4 * ws.length := by
  induction ws with
  | nil => rfl
  | cons w ws ih =>
    rw [bytesOfWords, List.length_append, length_leBytes, ih, List.length_cons]
    omega

theorem leBytes_ofLeBytes (l : List Byte) : leBytes l.length (ofLeBytes l) = l := by
  induction l with
  | nil => rfl
  | cons b l ih =>
    have hb : b.toNat < 256 := b.isLt
    have hlow : BitVec.ofNat 8 (b.toNat + 256 * ofLeBytes l) = b := by
      apply BitVec.eq_of_toNat_eq
      rw [BitVec.toNat_ofNat]
      omega
    have hhigh : (b.toNat + 256 * ofLeBytes l) / 256 = ofLeBytes l := by omega
    rw [List.length_cons, ofLeBytes, leBytes, hlow, hhigh, ih]

namespace State

variable {s t : State}

-- ACCESS_ERR

theorem accessErr_of_set (h : s.flag fMBX_ACCESS_ERR = true) : s.accessErr = s := if_pos h

theorem accessErr_twice (s : State) : s.accessErr.accessErr = s.accessErr := accessErr_of_set s.accessErr_flag

theorem accessErr_midnight (s : State) : s.accessErr.midnight = s.midnight := by
  rw [midnight, (accessErr_wr (R := [(aMBX_STAT, 0), (aDEV_PWR_STAT, 0), (aICU_NWSTAT, 0)]) (by decide) (.refl s)).get fNW_MN_CAUSE, midnight]

/-- ACCESS_ERR is set, and a first one raises its source. -/
structure AccessDenied (s u : State) : Prop where
  flag : u.flag fMBX_ACCESS_ERR = true
  pending : s.flag fMBX_ACCESS_ERR = false → u.sourcePending 34 = true
  kept : Kept [.regs, .icu, .nw, .pwr] s u
  regs : OnlyRegs [(aMBX_STAT, 0), (aDEV_PWR_STAT, 0), (aICU_NWSTAT, 0)] s u

theorem accessErr_denied (s : State) : AccessDenied s s.accessErr :=
  ⟨s.accessErr_flag, fun h => accessErr_pending h, accessErr_kept (by decide) (.refl s), s.accessErr_onlyRegs⟩

theorem AccessDenied.only (h : AccessDenied (s.drive []) t) : Only [.regs, .icu, .nw, .pwr, .bus] s t :=
  ((drive_kept (by decide) [] (.refl s)).trans (h.kept.mono (by decide))).only

-- Words that take no write (R309, R330, R492)

/-- A word of the window that a write of context `c` with that privilege does not reach. -/
def WriteRefused (s : State) (off : Nat) (priv : Bool) : Prop :=
  (isPrivileged off = true ∧ priv = false) ∨ (s.midnight = true ∧ 0x01000 ≤ off ∧ off < 0x02000) ∨ inWindow off = true

theorem wordWrite_refused {c off x : Nat} {priv : Bool} (h : s.WriteRefused off priv) :
    s.wordWrite c off x priv = if c = 0 then s.accessErr else s := by
  unfold wordWrite
  dsimp only
  by_cases hp : (isPrivileged off && !priv) = true
  · rw [if_pos hp]
  rw [if_neg hp]
  by_cases hm : (s.midnight && decide (0x01000 ≤ off ∧ off < 0x02000)) = true
  · rw [if_pos hm]
  rw [if_neg hm, if_pos]
  obtain ⟨h1, h2⟩ | ⟨h1, h2⟩ | h := h
  · exact absurd (by rw [h1, h2]; rfl) hp
  · exact absurd (by rw [h1, decide_eq_true h2]; rfl) hm
  · exact h

theorem wordWrite_taken {c off x : Nat} {priv : Bool} (h : ¬ s.WriteRefused off priv) :
    s.wordWrite c off x priv = (if isPrivileged off then s.touch c else s).hostWrite c off x := by
  simp only [WriteRefused, not_or, not_and] at h
  obtain ⟨hp, hm, hw⟩ := h
  unfold wordWrite
  dsimp only
  rw [if_neg fun hc => ?_, if_neg fun hc => ?_, if_neg hw]
  · simp only [Bool.and_eq_true, decide_eq_true_eq] at hc
    exact hm hc.1 hc.2.1 hc.2.2
  · simp only [Bool.and_eq_true, Bool.not_eq_true'] at hc
    exact hp hc.1 hc.2

/-- A burst into words that all refuse it only sets ACCESS_ERR. -/
theorem burstWrite_refused (priv : Bool) (ws : List (BitVec 32)) (hws : ws ≠ []) : ∀ (s : State) (off : Nat),
    (∀ (t : State) (k : Nat), t.midnight = s.midnight → off ≤ k → k < off + 4 * ws.length → t.WriteRefused k priv) → s.burstWrite priv off ws = s.accessErr := by
  induction ws with
  | nil => exact absurd rfl hws
  | cons w ws ih =>
    intro s off h
    rw [burstWrite, wordWrite_refused (h s off rfl le_rfl (by rw [List.length_cons]; omega)), if_pos rfl]
    cases ws with
    | nil => rfl
    | cons v vs =>
      rw [ih (List.cons_ne_nil v vs) s.accessErr (off + 4) fun t k ht h1 h2 =>
        h t k (ht.trans s.accessErr_midnight) (by omega) (by simp only [List.length_cons] at h2 ⊢; omega)]
      exact s.accessErr_twice

-- Writes from 0x80000 on

theorem hostWrite_beyond {c off x : Nat} (h : 0x40000 ≤ off) : s.hostWrite c off x = s := by
  unfold hostWrite
  rw [if_neg (by omega), if_neg (by omega), if_neg (by omega)]

theorem isPrivileged_beyond {off : Nat} (h : 0x20000 ≤ off) : isPrivileged off = false := by
  simp only [isPrivileged, Bool.and_eq_false_iff, decide_eq_false_iff_not]
  omega

theorem inWindow_beyond {off : Nat} (h : 0x80000 ≤ off) : inWindow off = false := by
  simp only [inWindow, decide_eq_false_iff_not]
  omega

theorem not_refused_beyond {off : Nat} (h : 0x20000 ≤ off) (hw : inWindow off = false) (priv : Bool) : ¬ s.WriteRefused off priv := by
  rw [WriteRefused, isPrivileged_beyond h, hw]
  rintro (⟨hc, -⟩ | ⟨-, -, hc⟩ | hc)
  · cases hc
  · omega
  · cases hc

theorem wordWrite_beyond {c off x : Nat} {priv : Bool} (h : 0x80000 ≤ off) : s.wordWrite c off x priv = s := by
  rw [wordWrite_taken (not_refused_beyond (by omega) (inWindow_beyond h) priv), isPrivileged_beyond (by omega), if_neg Bool.false_ne_true,
    hostWrite_beyond (by omega)]

theorem burstWrite_beyond (priv : Bool) (ws : List (BitVec 32)) : ∀ (s : State) (off : Nat), 0x80000 ≤ off → s.burstWrite priv off ws = s := by
  induction ws with
  | nil => exact fun _ _ _ => rfl
  | cons w ws ih =>
    intro s off h
    rw [burstWrite, wordWrite_beyond h, ih s (off + 4) (by omega)]

-- The mailbox region (R312)

theorem ramByte_of_mbx (h : t.mbx = s.mbx) (j : Nat) : t.ramByte j = s.ramByte j := by rw [ramByte, h, ramByte]

theorem ramRead_of_mbx (h : t.mbx = s.mbx) (a n : Nat) : t.ramRead a n = s.ramRead a n := by simp only [ramRead, ramByte_of_mbx h]

theorem ramByte_ramWrite_other (bs : List Byte) {a j : Nat} (h : j < a ∨ a + bs.length ≤ j) (s : State) : (s.ramWrite a bs).ramByte j = s.ramByte j := by
  induction bs generalizing s a with
  | nil => rfl
  | cons b bs ih =>
    have hset (y : Tab Byte) : (s.setMbx { s.mbx with ram := y }).ramByte j = tabGet (fun _ => (0 : Byte)) y j := rfl
    rw [List.length_cons] at h
    rw [ramWrite, ih (by omega), hset, tabGet_set, if_neg (by omega), ramByte]

theorem ramByte_ramWrite_same (bs : List Byte) {a i : Nat} (h : i < bs.length) (s : State) : (s.ramWrite a bs).ramByte (a + i) = bs[i] := by
  induction bs generalizing s a i with
  | nil => exact absurd h (Nat.not_lt_zero i)
  | cons b bs ih =>
    have hset (y : Tab Byte) (j : Nat) : (s.setMbx { s.mbx with ram := y }).ramByte j = tabGet (fun _ => (0 : Byte)) y j := rfl
    rw [ramWrite]
    cases i with
    | zero =>
      calc ramByte _ (a + 0)
        _ = (s.setMbx { s.mbx with ram := tabSet (fun _ => (0 : Byte)) s.mbx.ram a b }).ramByte a := ramByte_ramWrite_other bs (.inl (Nat.lt_succ_self a)) _
        _ = b := (hset _ a).trans (by rw [tabGet_set, if_pos rfl])
    | succ i =>
      rw [← Nat.add_assoc, Nat.add_right_comm, ih (Nat.lt_of_succ_lt_succ h), List.getElem_cons_succ]

theorem ramRead_ramWrite (bs : List Byte) (a : Nat) (s : State) : (s.ramWrite a bs).ramRead a bs.length = bs := by
  apply List.ext_getElem
  · simp only [ramRead, List.length_map, List.length_range]
  · intro i h1 h2
    simp only [ramRead, List.getElem_map, List.getElem_range, ramByte_ramWrite_same bs h2]

theorem ramWrite_append (l m : List Byte) : ∀ (s : State) (a : Nat), s.ramWrite a (l ++ m) = (s.ramWrite a l).ramWrite (a + l.length) m := by
  induction l with
  | nil => exact fun _ _ => rfl
  | cons b l ih =>
    intro s a
    rw [List.cons_append, ramWrite, ramWrite, ih, List.length_cons, Nat.add_assoc, Nat.add_comm 1]

theorem ramWrite_cmds (bs : List Byte) (a : Nat) (s : State) : (s.ramWrite a bs).mbx.cmds = s.mbx.cmds := by
  induction bs generalizing s a with
  | nil => rfl
  | cons b bs ih =>
    rw [ramWrite, ih]
    rfl

theorem ramRead_add (s : State) (a m n : Nat) : s.ramRead a (m + n) = s.ramRead a m ++ s.ramRead (a + m) n := by
  apply List.ext_getElem
  · simp only [ramRead, List.length_append, List.length_map, List.length_range]
  · intro i h1 h2
    have hlen : (s.ramRead a m).length = m := by simp only [ramRead, List.length_map, List.length_range]
    rw [List.getElem_append]
    split
    next h => simp only [ramRead, List.getElem_map, List.getElem_range]
    next h =>
      rw [hlen] at h
      simp only [ramRead, List.getElem_map, List.getElem_range, List.length_map, List.length_range]
      rw [Nat.add_assoc, Nat.add_sub_cancel' (Nat.not_lt.1 h)]

/-- A word of the submission queues is stored (R312). -/
theorem wordWrite_queue {c off x : Nat} {priv : Bool} (h1 : 0x20000 ≤ off) (h2 : off < 0x22800) :
    s.wordWrite c off x priv = s.ramWrite off (leBytes 4 x) := by
  have hw : inWindow off = false := by
    simp only [inWindow, decide_eq_false_iff_not]
    omega
  rw [wordWrite_taken (not_refused_beyond h1 hw priv), isPrivileged_beyond h1, if_neg Bool.false_ne_true, hostWrite, if_neg (by omega), if_neg (by omega),
    if_pos (by omega), ramStore, if_pos h2]

theorem burstWrite_queue (priv : Bool) (ws : List (BitVec 32)) : ∀ (s : State) (off : Nat), 0x20000 ≤ off → off + 4 * ws.length ≤ 0x22800 →
    s.burstWrite priv off ws = s.ramWrite off (bytesOfWords ws) := by
  induction ws with
  | nil => exact fun _ _ _ _ => rfl
  | cons w ws ih =>
    intro s off h1 h2
    rw [List.length_cons] at h2
    rw [burstWrite, wordWrite_queue h1 (by omega), ih _ (off + 4) (by omega) (by omega), bytesOfWords, ramWrite_append, length_leBytes]

-- A write transaction (R307, R308)

theorem qspiUp_iff : s.qspiUp = true ↔ s.spi.mode = false ∧ s.hostValid = true := by
  simp only [qspiUp, Bool.and_eq_true, Bool.not_eq_true']

theorem badAddr_of {a : Nat} (h : 0x100000 ≤ a ∨ a % 4 ≠ 0) : badAddr a = true := by
  simp only [badAddr, Bool.or_eq_true, decide_eq_true_eq, bne_iff_ne]
  exact h

theorem goodAddr_of {a : Nat} (h : a < 0x100000) (h4 : a % 4 = 0) : badAddr a = false := by
  simp only [badAddr, Bool.or_eq_false_iff, decide_eq_false_iff_not, h4]
  exact ⟨by omega, rfl⟩

theorem qspiWrite_shut {addr : Nat} {ws : List (BitVec 32)} {part : Bool} (h : ¬ (s.spi.mode = false ∧ s.hostValid = true)) :
    s.qspiWrite addr ws part = s.drive [] := by
  have hup : (s.drive []).qspiUp = false := Bool.eq_false_iff.2 fun hc => h (qspiUp_iff.1 hc)
  exact if_pos (by rw [show ({ s with bus := [] } : State).qspiUp = false from hup]; rfl)

theorem qspiWrite_bad {addr : Nat} {ws : List (BitVec 32)} {part : Bool} (h : s.spi.mode = false ∧ s.hostValid = true) (hbad : badAddr addr = true) :
    s.qspiWrite addr ws part = (s.drive []).accessErr := by
  have hup : (s.drive []).qspiUp = true := qspiUp_iff.2 h
  unfold qspiWrite
  exact (if_neg (by rw [show ({ s with bus := [] } : State).qspiUp = true from hup]; decide)).trans (if_pos hbad)

theorem qspiWrite_good {addr : Nat} {ws : List (BitVec 32)} {part : Bool} (h : s.spi.mode = false ∧ s.hostValid = true) (hbad : badAddr addr = false) :
    s.qspiWrite addr ws part = if part then ((s.drive []).burstWrite (s.elevated 0) addr ws).accessErr
      else (s.drive []).burstWrite (s.elevated 0) addr ws := by
  have hup : (s.drive []).qspiUp = true := qspiUp_iff.2 h
  unfold qspiWrite
  exact (if_neg (by rw [show ({ s with bus := [] } : State).qspiUp = true from hup]; decide)).trans (if_neg (by rw [hbad]; decide))

/-- A burst whose words are all refused. -/
theorem qspiWrite_refused {addr : Nat} {ws : List (BitVec 32)} {part : Bool} (h : s.spi.mode = false ∧ s.hostValid = true) (hbad : badAddr addr = false)
    (hws : ws ≠ []) (hr : ∀ (t : State) (k : Nat), t.midnight = s.midnight → addr ≤ k → k < addr + 4 * ws.length → t.WriteRefused k (s.elevated 0)) :
    s.qspiWrite addr ws part = (s.drive []).accessErr := by
  have hmn : (s.drive []).midnight = s.midnight := rfl
  rw [qspiWrite_good h hbad, burstWrite_refused (s.elevated 0) ws hws (s.drive []) addr fun t k ht => hr t k (ht.trans hmn)]
  split
  · exact accessErr_twice _
  · rfl

/-- A burst into the submission queues. -/
structure QueueStored (a : Nat) (ws : List (BitVec 32)) (part : Bool) (s u : State) : Prop where
  bus : u.bus = s.bus
  bytes : u.ramRead a (4 * ws.length) = bytesOfWords ws
  other : ∀ k, k < a ∨ a + 4 * ws.length ≤ k → u.ramByte k = s.ramByte k
  cmds : u.mbx.cmds = s.mbx.cmds
  err : u.flag fMBX_ACCESS_ERR = (s.flag fMBX_ACCESS_ERR || part)
  kept : Kept [.regs, .icu, .nw, .pwr, .mbx] s u
  regs : Wr [(aMBX_STAT, 0), (aDEV_PWR_STAT, 0), (aICU_NWSTAT, 0)] s u

theorem queueStored_of (s : State) (a : Nat) (ws : List (BitVec 32)) (part : Bool) :
    QueueStored a ws part s (if part then (s.ramWrite a (bytesOfWords ws)).accessErr else s.ramWrite a (bytesOfWords ws)) := by
  have hkept : Kept [.mbx] s (s.ramWrite a (bytesOfWords ws)) := ramWrite_kept (by decide) _ _ (.refl s)
  have hwr : Wr [] s (s.ramWrite a (bytesOfWords ws)) := ramWrite_wr (by decide) _ _ (.refl s)
  have hstored : QueueStored a ws false s (s.ramWrite a (bytesOfWords ws)) :=
    { bus := hkept.bus_eq
      bytes := by
        rw [← bytesOfWords_length]
        exact ramRead_ramWrite _ a s
      other := fun k hk => ramByte_ramWrite_other _ (by rw [bytesOfWords_length]; exact hk) s
      cmds := ramWrite_cmds _ a s
      err := by rw [hwr.flag fMBX_ACCESS_ERR, Bool.or_false]
      kept := hkept.mono (by decide)
      regs := hwr.mono (by decide) }
  cases part with
  | false => exact hstored
  | true =>
    have hd := accessErr_kept (T := [.regs, .icu, .nw, .pwr]) (by decide) (.refl (s.ramWrite a (bytesOfWords ws)))
    rw [if_pos rfl]
    exact
      { bus := hd.bus_eq.trans hstored.bus
        bytes := (ramRead_of_mbx hd.mbx_eq a _).trans hstored.bytes
        other := fun k hk => (ramByte_of_mbx hd.mbx_eq k).trans (hstored.other k hk)
        cmds := by rw [hd.mbx_eq, hstored.cmds]
        err := by rw [accessErr_flag, Bool.or_true]
        kept := accessErr_kept (by decide) hstored.kept
        regs := accessErr_wr (by decide) hstored.regs }

end State

theorem exec_qspiWriteS (addr : BitVec 24) (ws : List (BitVec 32)) (part : Bool) (s : State) :
    exec (.qspiWriteS addr ws part) s = .next (s.qspiWrite addr.toNat ws part) :=
  congrArg Host.Outcome.next (State.qspiTransaction_writeS s addr.toNat ws part 0)

theorem exec_qspiWriteQ (addr : BitVec 24) (ws : List (BitVec 32)) (part : Bool) (s : State) :
    exec (.qspiWriteQ addr ws part) s = .next (s.qspiWrite addr.toNat ws part) :=
  congrArg Host.Outcome.next (State.qspiTransaction_writeQ s addr.toNat ws part 0)

/-- Settles O38. -/
theorem qspiWrites : Obligations.QspiWrites := by
  intro addr ws part s c hc a up within regs errs
  have hexec : exec c s = .next (s.qspiWrite a ws part) := by
    simp only [List.mem_cons, List.not_mem_nil, or_false] at hc
    obtain rfl | rfl := hc
    · exact exec_qspiWriteS addr ws part s
    · exact exec_qspiWriteQ addr ws part s
  have herrs {u : State} (h : u = (s.drive []).accessErr) : errs u := by
    have hd := (s.drive []).accessErr_denied
    rw [h]
    exact ⟨hd.kept.bus_eq, hd.flag, hd.pending, hd.only, hd.regs⟩
  refine ⟨fun h => .of_eq (hexec.trans (by rw [State.qspiWrite_shut h])) ⟨rfl, s.drive_only []⟩,
    fun h hbad => .of_eq hexec (herrs (State.qspiWrite_bad h (State.badAddr_of hbad))),
    fun h hin hws hel => .of_eq hexec (herrs (State.qspiWrite_refused h (State.goodAddr_of (by omega) hin.1) hws fun t k _ h1 h2 => .inl ⟨?priv, hel⟩)),
    fun h hin hws hmn => .of_eq hexec (herrs (State.qspiWrite_refused h (State.goodAddr_of (by omega) hin.1) hws fun t k ht h1 h2 =>
      .inr (.inl ⟨ht.trans hmn, by omega⟩))),
    fun h h4 hlo hhi hpart => .of_eq (hexec.trans (by rw [State.qspiWrite_good h (State.goodAddr_of hhi h4), hpart, if_neg Bool.false_ne_true, State.burstWrite_beyond _ _ _ _ hlo]))
      ⟨rfl, s.drive_only []⟩, fun h hin => .of_eq (hexec.trans (by rw [State.qspiWrite_good h (State.goodAddr_of (by omega) hin.1),
        State.burstWrite_queue _ _ _ _ hin.2.1 hin.2.2])) ?queue⟩
  case priv =>
    simp only [isPrivileged, Bool.and_eq_true, decide_eq_true_eq]
    omega
  case queue =>
    have hq := (s.drive []).queueStored_of a ws part
    exact ⟨hq.bus, hq.bytes, hq.other, hq.cmds, hq.err, ((State.drive_kept (by decide) [] (.refl s)).trans (hq.kept.mono (by decide))).only, hq.regs.onlyRegs⟩

end Sys2Proof.Machine
end

section
/-! THE QSPI SLAVE'S READS (R305-R312): the status byte, the bytes of a burst, STATUS and invalid instructions (O39). -/

namespace Sys2Proof.Machine

namespace State

variable {s t : State}

/-- The three bits of the status byte that say something (R307). -/
structure StatusShown (s : State) (valid : Bool) (b : Byte) : Prop where
  valid : b.getLsbD 7 = valid
  err : b.getLsbD 6 = s.flag fMBX_ACCESS_ERR
  elevated : b.getLsbD 5 = s.elevated 0
  zeros : b.toNat % 32 = 0

theorem statusByte_shown (s : State) (valid : Bool) : StatusShown s valid (s.statusByte valid) := by
  unfold statusByte
  generalize he : s.flag fMBX_ACCESS_ERR = e
  generalize hp : s.elevated 0 = p
  have hbits : ∀ v e p : Bool, let b : Byte := BitVec.ofNat 8 (128 * boolNat v + 64 * boolNat e + 32 * boolNat p)
      b.getLsbD 7 = v ∧ b.getLsbD 6 = e ∧ b.getLsbD 5 = p ∧ b.toNat % 32 = 0 := by decide
  obtain ⟨h7, h6, h5, h0⟩ := hbits valid e p
  exact ⟨h7, h6.trans he.symm, h5.trans hp.symm, h0⟩

-- The words of a burst

theorem burstWord_outside {priv : Bool} {line : Option Nat} {off : Nat} (h : inWindow off = false) :
    s.burstWord priv line off = s.wordRead 0 off priv := if_neg (by rw [h]; decide)

/-- A privileged word without elevation reads 0 and sets ACCESS_ERR (R309). -/
theorem burstWord_denied {line : Option Nat} {off : Nat} (h1 : 0x10000 ≤ off) (h2 : off < 0x20000) :
    s.burstWord false line off = (0, s.accessErr) := by
  have hw : inWindow off = false := by
    simp only [inWindow, decide_eq_false_iff_not]
    omega
  have hp : isPrivileged off = true := by
    simp only [isPrivileged, Bool.and_eq_true, decide_eq_true_eq]
    omega
  rw [burstWord_outside hw, wordRead, if_pos (by rw [hp]; rfl), if_pos rfl]

/-- A burst of privileged words without elevation. -/
theorem burstRead_denied (line : Option Nat) (n : Nat) : ∀ (s : State) (off : Nat), 0x10000 ≤ off → off + 4 * (n + 1) ≤ 0x20000 →
    s.burstRead false line off (n + 1) = (List.replicate (4 * (n + 1)) 0, s.accessErr) := by
  induction n with
  | zero =>
    intro s off h1 h2
    rw [burstRead, burstWord_denied h1 (by omega)]
    rfl
  | succ n ih =>
    intro s off h1 h2
    have hrest := ih s.accessErr (off + 4) (by omega) (by omega)
    rw [accessErr_twice] at hrest
    have hbytes : leBytes 4 0 ++ List.replicate (4 * (n + 1)) (0 : Byte) = List.replicate (4 * (n + 1 + 1)) 0 := by
      rw [show leBytes 4 0 = List.replicate 4 0 from rfl, List.replicate_append_replicate]
      congr 1
      omega
    rw [burstRead, burstWord_denied h1 (by omega)]
    dsimp only
    rw [hrest, hbytes]

theorem hostLatch_beyond {c off : Nat} (h : 0x20000 ≤ off) : s.hostLatch c off = s := by
  have hne {a : Nat} (ha : a < 0x20000) : off ≠ a := by omega
  unfold hostLatch
  rw [if_neg (hne (by decide)), if_neg (hne (by decide)), if_neg (hne (by decide)), if_neg (hne (by decide)), if_neg (hne (by decide))]

theorem hostClear_beyond {off : Nat} (h : 0x20000 ≤ off) : s.hostClear off = s := by
  have hne {a : Nat} (ha : a < 0x20000) : off ≠ a := by omega
  unfold hostClear
  rw [if_neg (hne (by decide)), if_neg (by omega)]

/-- A word of the mailbox region or above reads its bytes and changes nothing. -/
theorem wordRead_beyond {c off : Nat} {priv : Bool} (h : 0x20000 ≤ off) : s.wordRead c off priv = (s.hostValue c off, s) := by
  have hp := isPrivileged_beyond h
  rw [wordRead, if_neg (by rw [hp]; exact Bool.false_ne_true), if_neg (by rw [hp]; exact Bool.false_ne_true), hostRead, hostLatch_beyond h, hostClear_beyond h]

/-- The bytes that the words of a burst read where none has an effect. -/
theorem burstRead_of_words {priv : Bool} {line : Option Nat} (f : Nat → Nat) (n : Nat) : ∀ off : Nat,
    (∀ k, off ≤ k → k < off + 4 * n → s.burstWord priv line k = (f k, s)) →
    s.burstRead priv line off n = ((List.range n).flatMap fun i => leBytes 4 (f (off + 4 * i)), s) := by
  induction n with
  | zero => exact fun _ _ => rfl
  | succ n ih =>
    intro off h
    rw [burstRead, h off le_rfl (by omega)]
    dsimp only
    rw [ih (off + 4) fun k h1 h2 => h k (by omega) (by omega), List.range_succ_eq_map, List.flatMap_cons, List.flatMap_map]
    simp only [Nat.mul_zero, Nat.add_zero, Nat.mul_succ, Nat.succ_eq_add_one, Nat.add_assoc, Nat.add_comm 4]

theorem flatMap_replicate (n : Nat) : (List.range n).flatMap (fun _ => leBytes 4 0) = List.replicate (4 * n) (0 : Byte) := by
  induction n with
  | zero => rfl
  | succ n ih =>
    rw [List.range_succ, List.flatMap_append, ih, List.flatMap_cons, List.flatMap_nil, List.append_nil,
      show leBytes 4 0 = List.replicate 4 0 from rfl, List.replicate_append_replicate, Nat.mul_succ]

theorem flatMap_ramRead (s : State) (a n : Nat) :
    (List.range n).flatMap (fun i => leBytes 4 (ofLeBytes (s.ramRead (a + 4 * i) 4))) = s.ramRead a (4 * n) := by
  have hword (k : Nat) : leBytes 4 (ofLeBytes (s.ramRead k 4)) = s.ramRead k 4 := by
    have hlen : (s.ramRead k 4).length = 4 := by simp only [ramRead, List.length_map, List.length_range]
    have h := leBytes_ofLeBytes (s.ramRead k 4)
    rwa [hlen] at h
  induction n with
  | zero => rfl
  | succ n ih =>
    rw [List.range_succ, List.flatMap_append, ih, List.flatMap_cons, List.flatMap_nil, List.append_nil, hword, Nat.mul_succ, ramRead_add]

/-- Words of the submission queues read their bytes (R312). -/
theorem burstRead_queue (priv : Bool) (line : Option Nat) {a n : Nat} (h1 : 0x20000 ≤ a) (h2 : a + 4 * n ≤ 0x22800) :
    s.burstRead priv line a n = (s.ramRead a (4 * n), s) := by
  rw [burstRead_of_words (fun k => ofLeBytes (s.ramRead k 4)) n a ?words, flatMap_ramRead]
  intro k hk1 hk2
  have hw : inWindow k = false := by
    simp only [inWindow, decide_eq_false_iff_not]
    omega
  rw [burstWord_outside hw, wordRead_beyond (by omega), hostValue, if_neg (by omega), if_neg (by omega), if_pos (by omega), ramValue,
    if_pos (.inl (by omega))]

/-- Words from 0x80000 on read 0. -/
theorem burstRead_beyond (priv : Bool) (line : Option Nat) {a : Nat} (n : Nat) (h : 0x80000 ≤ a) :
    s.burstRead priv line a n = (List.replicate (4 * n) 0, s) := by
  rw [burstRead_of_words (fun _ => 0) n a ?words, flatMap_replicate]
  intro k hk1 hk2
  rw [burstWord_outside (inWindow_beyond (by omega)), wordRead_beyond (by omega), hostValue, if_neg (by omega), if_neg (by omega), if_neg (by omega)]

-- A read transaction (R307-R310)

theorem qspiRead_mode {addr n : Nat} (h : s.spi.mode = true) : s.qspiRead addr n = s.drive [] := by
  unfold qspiRead
  exact if_pos h

/-- What the slave drives while it has nothing to give: VALID 0 and all ones (R310). -/
def blank (s : State) (n : Nat) : State := s.drive (s.statusByte false :: List.replicate (4 * n) 0xFF)

theorem qspiRead_invalid {addr n : Nat} (hmode : s.spi.mode = false) (hv : s.hostValid = false) : s.qspiRead addr n = (s.drive []).blank n := by
  have hm : ¬ (s.drive []).spi.mode = true := by rw [show (s.drive []).spi.mode = false from hmode]; decide
  have hv' : (!(s.drive []).hostValid) = true := by rw [show (s.drive []).hostValid = false from hv]; rfl
  unfold qspiRead
  exact (if_neg hm).trans (if_pos hv')

theorem qspiRead_bad {addr n : Nat} (h : s.spi.mode = false ∧ s.hostValid = true) (hbad : badAddr addr = true) :
    s.qspiRead addr n = (s.drive []).accessErr := by
  have hm : ¬ (s.drive []).spi.mode = true := by rw [show (s.drive []).spi.mode = false from h.1]; decide
  have hv' : ¬ (!(s.drive []).hostValid) = true := by rw [show (s.drive []).hostValid = true from h.2]; decide
  unfold qspiRead
  exact (if_neg hm).trans ((if_neg hv').trans (if_pos hbad))

/-- A read outside the memory window. -/
theorem qspiRead_outside {addr n : Nat} (h : s.spi.mode = false ∧ s.hostValid = true) (hbad : badAddr addr = false) (hw : inWindow addr = false) :
    s.qspiRead addr n = ((s.drive []).burstRead (s.elevated 0) none addr n).2.drive
      (s.statusByte true :: ((s.drive []).burstRead (s.elevated 0) none addr n).1) := by
  have hm : ¬ (s.drive []).spi.mode = true := by rw [show (s.drive []).spi.mode = false from h.1]; decide
  have hv' : ¬ (!(s.drive []).hostValid) = true := by rw [show (s.drive []).hostValid = true from h.2]; decide
  have hw' (x y : Bool) : ¬ (inWindow addr && x && y) = true := by rw [hw]; exact Bool.false_ne_true
  unfold qspiRead
  refine (if_neg hm).trans ((if_neg hv').trans ((if_neg (by rw [hbad]; decide)).trans ((if_neg (hw' _ _)).trans ?_)))
  rw [if_neg (by rw [hw]; decide)]
  rfl

theorem qspiStatus_mode (h : s.spi.mode = true) : s.qspiStatus = s.drive [] := if_pos h

theorem qspiStatus_shown (h : s.spi.mode = false) :
    s.qspiStatus = if s.hostValid then (s.drive [s.statusByte s.hostValid]).putFlag fMBX_ACCESS_ERR false else s.drive [s.statusByte s.hostValid] :=
  if_neg (by rw [h]; decide)

end State

theorem exec_qspiReadS (addr : BitVec 24) (n : Nat) (s : State) : exec (.qspiReadS addr n) s = .next (s.qspiRead addr.toNat n) :=
  congrArg Host.Outcome.next (State.qspiTransaction_readS s addr.toNat [] false n)

theorem exec_qspiReadQ (addr : BitVec 24) (n : Nat) (s : State) : exec (.qspiReadQ addr n) s = .next (s.qspiRead addr.toNat n) :=
  congrArg Host.Outcome.next (State.qspiTransaction_readQ s addr.toNat [] false n)

theorem exec_qspiStatus (s : State) : exec .qspiStatus s = .next s.qspiStatus :=
  congrArg Host.Outcome.next (State.qspiTransaction_status s 0 [] false 0)

theorem exec_qspiInvalidInstruction (s : State) : exec .qspiInvalidInstruction s = .next s.qspiInvalid := rfl

/-- Either read instruction is the read transaction. -/
theorem exec_qspiRead {addr : BitVec 24} {n : Nat} {c : Instr} (hc : c ∈ [Instr.qspiReadS addr n, .qspiReadQ addr n]) (s : State) :
    exec c s = .next (s.qspiRead addr.toNat n) := by
  simp only [List.mem_cons, List.not_mem_nil, or_false] at hc
  obtain rfl | rfl := hc
  · exact exec_qspiReadS addr n s
  · exact exec_qspiReadQ addr n s

/-- Settles O39. -/
theorem qspiReads : Obligations.QspiReads := by
  intro addr n s a up regs drives errs
  have hdrives (t : State) (valid : Bool) (data : List Byte) : drives (t.drive (s.statusByte valid :: data)) valid data :=
    have hb := s.statusByte_shown valid
    ⟨_, rfl, hb.valid, hb.err, hb.elevated, hb.zeros⟩
  have herrs {data : List Byte} : errs ((s.drive []).accessErr.drive data) := by
    have hd := (s.drive []).accessErr_denied
    exact ⟨hd.flag, hd.pending, (State.drive_kept (T := [.regs, .icu, .nw, .pwr, .bus]) (by decide) data
      ((State.drive_kept (by decide) [] (.refl s)).trans (hd.kept.mono (by decide)))).only, hd.regs⟩
  have herrs' : (s.drive []).accessErr.bus = [] ∧ errs (s.drive []).accessErr := by
    have hd := (s.drive []).accessErr_denied
    exact ⟨hd.kept.bus_eq, hd.flag, hd.pending, hd.only, hd.regs⟩
  have honly (data more : List Byte) : Only [.bus] s ((s.drive data).drive more) :=
    (State.drive_kept (by decide) more (State.drive_kept (by decide) data (.refl s))).only
  refine ⟨fun c hc => ⟨fun hm => .of_eq ((exec_qspiRead hc s).trans (by rw [State.qspiRead_mode hm])) ⟨rfl, s.drive_only []⟩,
    fun hm hv => .of_eq ((exec_qspiRead hc s).trans (by rw [State.qspiRead_invalid hm hv]; rfl)) ⟨hdrives _ _ _, honly [] _⟩,
    fun h hbad => .of_eq ((exec_qspiRead hc s).trans (by rw [State.qspiRead_bad h (State.badAddr_of hbad)])) herrs',
    fun h h4 h1 h2 hn hel => ?denied, fun h h4 h1 h2 => ?queue, fun h h4 h1 h2 => ?beyond⟩, ?status, ?invalid⟩
  case denied =>
    obtain ⟨n, rfl⟩ : ∃ m, n = m + 1 := ⟨n - 1, by omega⟩
    have hw : inWindow a = false := by
      simp only [inWindow, decide_eq_false_iff_not]
      omega
    exact .of_eq ((exec_qspiRead hc s).trans (by rw [State.qspiRead_outside h (State.goodAddr_of (by omega) h4) hw, hel, State.burstRead_denied none n _ _ h1 h2]))
      ⟨hdrives _ _ _, herrs⟩
  case queue =>
    have hw : inWindow a = false := by
      simp only [inWindow, decide_eq_false_iff_not]
      omega
    exact .of_eq ((exec_qspiRead hc s).trans (by rw [State.qspiRead_outside h (State.goodAddr_of (by omega) h4) hw, State.burstRead_queue _ _ h1 h2]; rfl))
      ⟨hdrives _ _ _, honly [] _⟩
  case beyond =>
    exact .of_eq ((exec_qspiRead hc s).trans (by rw [State.qspiRead_outside h (State.goodAddr_of h2 h4) (State.inWindow_beyond h1), State.burstRead_beyond _ _ _ h1]))
      ⟨hdrives _ _ _, honly [] _⟩
  case status =>
    refine .of_eq (exec_qspiStatus s) ⟨fun hm => ?_, fun hm => ?_⟩
    · rw [State.qspiStatus_mode hm]
      exact ⟨rfl, s.drive_only []⟩
    · rw [State.qspiStatus_shown hm]
      cases hv : s.hostValid with
      | false =>
        rw [if_neg Bool.false_ne_true]
        exact ⟨hdrives s false [], (Bool.and_true _).symm, (s.drive_kept (T := [.regs, .bus]) (by decide) _ (.refl s)).only, fun a _ => rfl⟩
      | true =>
        rw [if_pos rfl]
        have hb := s.statusByte_shown true
        have hbus := (State.putFlag_kept (T := [.regs]) (by decide) fMBX_ACCESS_ERR false (.refl (s.drive [s.statusByte true]))).bus_eq
        exact ⟨⟨_, hbus, hb.valid, hb.err, hb.elevated, hb.zeros⟩, (State.flag_putFlag _ _ _).trans (Bool.and_false _).symm, (State.putFlag_kept (by decide) _ _ (s.drive_kept (T := [.regs, .bus]) (by decide) _ (.refl s))).only,
          (State.putFlag_wr (by decide) (.refl _)).onlyRegs⟩
  case invalid =>
    refine .of_eq (exec_qspiInvalidInstruction s) ?_
    cases hup : s.qspiUp with
    | true =>
      have heq : s.qspiInvalid = (s.drive []).accessErr := if_pos hup
      rw [heq]
      exact ⟨herrs'.1, fun _ => herrs'.2, fun h => absurd (State.qspiUp_iff.1 hup) h⟩
    | false =>
      have heq : s.qspiInvalid = s.drive [] := if_neg (fun h => absurd (hup.symm.trans h) Bool.false_ne_true)
      rw [heq]
      exact ⟨rfl, fun h => absurd (State.qspiUp_iff.2 h) (by rw [hup]; decide), fun _ => s.drive_only []⟩

end Sys2Proof.Machine
end

section
/-! THE PAGED MEMORY WINDOW (R492, R493): its page, its fetches and lines, and reads that miss or hit (O40). -/

namespace Sys2Proof.Machine

namespace State

variable {s t : State} {c : Nat}

-- Writes below the privileged view

theorem regWrite_served (h : s.Served c) (off x : Nat) : s.regWrite c off x = s.wordWrite c off x (s.elevated c) := if_neg (blocked_of_served h)

theorem regWrite_unserved (h : ¬ s.Served c) (off x : Nat) : s.regWrite c off x = s := if_pos (blocked_of_not_served h)

theorem isPrivileged_below {off : Nat} (h : off < 0x10000) : isPrivileged off = false := by
  simp only [isPrivileged, Bool.and_eq_false_iff, decide_eq_false_iff_not]
  omega

theorem inWindow_below {off : Nat} (h : off < 0x40000) : inWindow off = false := by
  simp only [inWindow, decide_eq_false_iff_not]
  omega

/-- A word below the privileged view that is no aspect request and no host variable is stored (R489). -/
theorem wordWrite_unpriv {off x : Nat} {priv : Bool} (h : off < 0x10000) (hv : off < 0x01000 ∨ 0x02000 ≤ off) :
    s.wordWrite c off x priv = s.unprivStore c off x := by
  have hp := isPrivileged_below h
  rw [wordWrite_taken ?taken, hp, if_neg Bool.false_ne_true, hostWrite, if_pos h]
  rw [WriteRefused, hp, inWindow_below (by omega)]
  rintro (⟨hc, -⟩ | ⟨-, hlo, hhi⟩ | hc)
  · cases hc
  · omega
  · cases hc

theorem unprivStore_memPage (s : State) (c x : Nat) : s.unprivStore c aDEV_MEMPAGE x = s.memPage c x := if_pos rfl

-- A change of one context's copies

/-- The copies of context `c` become `k`, and nothing else changes. -/
structure CopyOnly (c : Nat) (k : CtxCopy) (s u : State) : Prop where
  copy : u.copyOf c = k
  others : ∀ d, d ≠ c → u.copyOf d = s.copyOf d
  kept : Kept [.ctx] s u

theorem setCopy_only (s : State) (c : Nat) (k : CtxCopy) : CopyOnly c k s (s.setCopy c k) :=
  ⟨(s.copyOf_setCopy c c k).trans (if_pos rfl), fun d hd => (s.copyOf_setCopy c d k).trans (if_neg hd), setCopy_kept (by decide) c k (.refl s)⟩

theorem CopyOnly.refl (s : State) (c : Nat) : CopyOnly c (s.copyOf c) s s := ⟨rfl, fun _ _ => rfl, .refl s⟩

theorem CopyOnly.trans {u : State} {j k : CtxCopy} (h1 : CopyOnly c j s t) (h2 : CopyOnly c k t u) : CopyOnly c k s u :=
  ⟨h2.copy, fun d hd => (h2.others d hd).trans (h1.others d hd), h1.kept.trans h2.kept⟩

-- Fetches and lines (R493)

theorem dieLine_mem {a : Nat} (h : a < 0x3C00000) : s.dieLine a = s.memRead a 64 := by
  unfold dieLine
  rw [if_neg (by omega), if_neg (by omega)]

theorem memRead_of_mem (h : t.mem = s.mem) (a n : Nat) : t.memRead a n = s.memRead a n := by simp only [memRead, memByte, h]

/-- The lines of a buffer once a line has been fetched: it is the newest of at most four. -/
def withLine (ls : List Line) (l : Line) : List Line :=
  let new := (ls.filter fun k => k.addr != l.addr) ++ [l]
  if 4 < new.length then new.drop 1 else new

theorem withLine_new {ls : List Line} {l : Line} (hlen : ls.length ≤ 4) (hnew : ∀ k ∈ ls, k.addr ≠ l.addr) :
    withLine ls l = (if ls.length = 4 then ls.drop 1 else ls) ++ [l] := by
  have hfilter : (ls.filter fun k => k.addr != l.addr) = ls := List.filter_eq_self.2 fun k hk => bne_iff_ne.2 (hnew k hk)
  unfold withLine
  dsimp only
  rw [hfilter, List.length_append, List.length_singleton]
  by_cases h4 : ls.length = 4
  · rw [if_pos (by omega), if_pos h4, List.drop_append_of_le_length (by omega)]
  · rw [if_neg (by omega), if_neg h4]

theorem fetchLine_only {b : Nat} (hb : b % 64 = 0) (hdie : b < 0x3C00000) :
    CopyOnly c { s.copyOf c with lines := withLine (s.copyOf c).lines ⟨b, s.memRead b 64⟩ } s (s.fetchLine c b) := by
  have hline : b / 64 * 64 = b := by omega
  unfold fetchLine
  rw [hline, dieLine_mem hdie]
  exact s.setCopy_only c _

theorem fetchDone_none (h : (s.copyOf c).fetch = []) : s.fetchDone c = s := by
  unfold fetchDone
  dsimp only
  rw [h]

theorem fetchDone_gone {b : Nat} {rest : List (Nat × Bool)} (h : (s.copyOf c).fetch = (b, true) :: rest) :
    s.fetchDone c = s.setCopy c { s.copyOf c with fetch := rest } := by
  unfold fetchDone
  dsimp only
  rw [h]
  exact if_pos rfl

theorem fetchDone_brings {b : Nat} {rest : List (Nat × Bool)} (h : (s.copyOf c).fetch = (b, false) :: rest) :
    s.fetchDone c = (s.setCopy c { s.copyOf c with fetch := rest }).fetchLine c b := by
  unfold fetchDone
  dsimp only
  rw [h]
  exact if_neg Bool.false_ne_true

theorem fetchDone_line {b : Nat} {rest : List (Nat × Bool)} (h : (s.copyOf c).fetch = (b, false) :: rest) (hb : b % 64 = 0) (hdie : b < 0x3C00000)
    (hlen : (s.copyOf c).lines.length ≤ 4) (hnew : ∀ l ∈ (s.copyOf c).lines, l.addr ≠ b) :
    CopyOnly c { s.copyOf c with
      fetch := rest
      lines := (if (s.copyOf c).lines.length = 4 then (s.copyOf c).lines.drop 1 else (s.copyOf c).lines) ++ [⟨b, s.memRead b 64⟩] } s (s.fetchDone c) := by
  have hcut := s.setCopy_only c { s.copyOf c with fetch := rest }
  have hmem := memRead_of_mem hcut.kept.mem_eq b 64
  have hgot := fetchLine_only (s := s.setCopy c { s.copyOf c with fetch := rest }) (c := c) hb hdie
  have hadd : withLine (s.copyOf c).lines ⟨b, s.memRead b 64⟩ = _ := withLine_new hlen hnew
  rw [hcut.copy, hmem] at hgot
  rw [fetchDone_brings h, ← hadd]
  exact hcut.trans hgot

/-- A miss asks for the line, once (R310). -/
theorem fetchStart_only (s : State) (c a : Nat) :
    CopyOnly c { s.copyOf c with fetch := if (a / 64 * 64, false) ∈ (s.copyOf c).fetch then (s.copyOf c).fetch
      else (s.copyOf c).fetch ++ [(a / 64 * 64, false)] } s (s.fetchStart c a) := by
  unfold fetchStart
  dsimp only
  by_cases h : (a / 64 * 64, false) ∈ (s.copyOf c).fetch
  · rw [if_pos h, if_pos (List.contains_iff_mem.2 h)]
    exact .refl s c
  · rw [if_neg h, if_neg fun hc => h (List.contains_iff_mem.1 hc)]
    exact s.setCopy_only c _

-- Reads of the window

theorem noFetch_iff {a : Nat} : noFetch a = true ↔ 0x3C00000 ≤ a ∧ a < 0x3FF0000 := decide_eq_true_iff

/-- A read of a word whose line has to be fetched and is not buffered. -/
theorem qspiRead_miss {addr n : Nat} (h : s.spi.mode = false ∧ s.hostValid = true) (hbad : badAddr addr = false) (hw : inWindow addr = true)
    (hfetch : noFetch (s.dieAddr 0 addr) = false) (hline : s.lineOf 0 (s.dieAddr 0 addr) = none) :
    s.qspiRead addr n = ((s.drive []).fetchStart 0 (s.dieAddr 0 addr)).blank n := by
  have hm : ¬ (s.drive []).spi.mode = true := by rw [show (s.drive []).spi.mode = false from h.1]; decide
  have hv : ¬ (!(s.drive []).hostValid) = true := by rw [show (s.drive []).hostValid = true from h.2]; decide
  have hmiss : (inWindow addr && !noFetch ((s.drive []).dieAddr 0 addr) && ((s.drive []).lineOf 0 ((s.drive []).dieAddr 0 addr)).isNone) = true := by
    rw [hw, show (s.drive []).dieAddr 0 addr = s.dieAddr 0 addr from rfl, hfetch, show (s.drive []).lineOf 0 (s.dieAddr 0 addr) = none from hline]
    rfl
  unfold qspiRead
  exact (if_neg hm).trans ((if_neg hv).trans ((if_neg (by rw [hbad]; decide)).trans (if_pos hmiss)))

/-- The word that a buffered line, or a page without memory, reads. -/
def windowWord (s : State) (a : Nat) : Nat := if noFetch a then 0 else s.lineWord 0 a

/-- A read of one word of the window that needs no fetch. -/
theorem qspiRead_hit {addr : Nat} (h : s.spi.mode = false ∧ s.hostValid = true) (hbad : badAddr addr = false) (hw : inWindow addr = true)
    (hhit : noFetch (s.dieAddr 0 addr) = true ∨ (s.lineOf 0 (s.dieAddr 0 addr)).isSome = true) :
    s.qspiRead addr 1 = (s.drive []).drive (s.statusByte true :: leBytes 4 (s.windowWord (s.dieAddr 0 addr))) := by
  have hm : ¬ (s.drive []).spi.mode = true := by rw [show (s.drive []).spi.mode = false from h.1]; decide
  have hv : ¬ (!(s.drive []).hostValid) = true := by rw [show (s.drive []).hostValid = true from h.2]; decide
  have hmiss : ¬ (inWindow addr && !noFetch ((s.drive []).dieAddr 0 addr) && ((s.drive []).lineOf 0 ((s.drive []).dieAddr 0 addr)).isNone) = true := by
    rw [show (s.drive []).dieAddr 0 addr = s.dieAddr 0 addr from rfl, show (s.drive []).lineOf 0 (s.dieAddr 0 addr) = s.lineOf 0 (s.dieAddr 0 addr) from rfl]
    obtain hn | hl := hhit
    · rw [hn, Bool.not_true, Bool.and_false, Bool.false_and]
      exact Bool.false_ne_true
    · rw [Option.isNone_eq_false_iff.2 hl, Bool.and_false]
      exact Bool.false_ne_true
  have hword : (s.drive []).burstWord (s.elevated 0) (some (s.dieAddr 0 addr / 64 * 64)) addr = (s.windowWord (s.dieAddr 0 addr), s.drive []) :=
    (if_pos hw).trans (if_pos rfl)
  have hburst : (s.drive []).burstRead (s.elevated 0) (some (s.dieAddr 0 addr / 64 * 64)) addr 1
      = (leBytes 4 (s.windowWord (s.dieAddr 0 addr)), s.drive []) := by
    rw [burstRead, hword]
    dsimp only
    rw [burstRead, List.append_nil]
  have hdo : s.qspiRead addr 1 = ((s.drive []).burstRead (s.elevated 0) (some (s.dieAddr 0 addr / 64 * 64)) addr 1).2.drive
      (s.statusByte true :: ((s.drive []).burstRead (s.elevated 0) (some (s.dieAddr 0 addr / 64 * 64)) addr 1).1) := by
    unfold qspiRead
    refine (if_neg hm).trans ((if_neg hv).trans ((if_neg (by rw [hbad]; decide)).trans ((if_neg hmiss).trans ?_)))
    rw [if_pos hw]
    rfl
  rw [hdo, hburst]

theorem windowWord_line {a : Nat} {l : Line} (hn : noFetch a = false) (h4 : a % 4 = 0) (hl : s.lineOf 0 a = some l) (hlen : l.bytes.length = 64) :
    leBytes 4 (s.windowWord a) = (l.bytes.drop (a % 64)).take 4 := by
  have hcut : ((l.bytes.drop (a % 64)).take 4).length = 4 := by
    rw [List.length_take, List.length_drop, hlen]
    omega
  have hbytes := leBytes_ofLeBytes ((l.bytes.drop (a % 64)).take 4)
  rw [hcut] at hbytes
  rw [windowWord, if_neg (by rw [hn]; decide), lineWord, hl]
  exact hbytes

theorem windowWord_empty {a : Nat} (hn : noFetch a = true) : leBytes 4 (s.windowWord a) = [0, 0, 0, 0] := by
  rw [windowWord, if_pos hn]
  rfl

end State

theorem exec_devMempageWrite (c : Fin 9) (x : BitVec 32) (s : State) :
    exec (.devMempageWrite c x) s = .next (s.regWrite c.val aDEV_MEMPAGE x.toNat) := rfl
theorem exec_memwinFetchDone (c : Fin 9) (s : State) : exec (.memwinFetchDone c) s = .next (s.fetchDone c.val) := rfl
theorem exec_lineBufferAge (c : Fin 9) (s : State) : exec (.lineBufferAge c) s = .next (s.lineAge c.val) := rfl

/-- Settles O40. -/
theorem memoryWindow : Obligations.MemoryWindow := by
  intro c x addr s served k alone k0 a d line
  have halone {u : State} {k' : CtxCopy} (h : State.CopyOnly c k' s u) : alone u k' := ⟨h.copy, h.others, h.kept.only⟩
  refine ⟨.of_eq (exec_devMempageWrite c x s) ⟨fun h => ?page, fun h => s.regWrite_unserved h _ _⟩,
    .of_eq (exec_memwinFetchDone c s) ⟨fun h => State.fetchDone_none h, fun b gone rest hf => ⟨fun hg => ?gone, fun hg hb hdie hlen hnew => ?line⟩⟩,
    .of_eq (exec_lineBufferAge c s) (halone (s.setCopy_only c _)), fun hmode hvalid h4 hlo hhi r hr => ?read⟩
  case page =>
    rw [State.regWrite_served h, State.wordWrite_unpriv (by decide) (by decide), State.unprivStore_memPage]
    exact halone (s.setCopy_only c _)
  case gone =>
    subst hg
    rw [State.fetchDone_gone hf]
    exact halone (s.setCopy_only c _)
  case line =>
    subst hg
    exact halone (State.fetchDone_line hf hb hdie hlen hnew)
  case read =>
    have hbad : State.badAddr a = false := State.goodAddr_of (by omega) h4
    have hw : inWindow a = true := decide_eq_true ⟨hlo, hhi⟩
    have hd4 : d % 4 = 0 := by omega
    have hbit (v : Bool) : (s.statusByte v).getLsbD 7 = v := (s.statusByte_shown v).valid
    have honly (data : List Byte) : Only [.bus] s ((s.drive []).drive data) :=
      (State.drive_kept (by decide) data (State.drive_kept (by decide) [] (.refl s))).only
    refine ⟨fun hd hmiss => ?_, fun hd l hl hlen => ?_, fun h1 h2 => ?_⟩
    · have hfetch : State.noFetch d = false := Bool.eq_false_iff.2 fun h => absurd (State.noFetch_iff.1 h).1 (Nat.not_le.2 hd)
      have hnone : s.lineOf 0 d = none := List.find?_eq_none.2 fun l hl => by rw [beq_iff_eq]; exact hmiss l hl
      have hf := (s.drive []).fetchStart_only 0 d
      have hrun : exec r s = .next (((s.drive []).fetchStart 0 d).blank 1) :=
        (exec_qspiRead hr s).trans (congrArg Host.Outcome.next (State.qspiRead_miss ⟨hmode, hvalid⟩ hbad hw hfetch hnone))
      refine .of_eq hrun ⟨⟨_, ?_, rfl⟩, hf.copy, hf.others, ?_⟩
      · exact (State.statusByte_shown _ false).valid
      · exact (State.drive_kept (T := [.bus, .ctx]) (by decide) _ ((State.drive_kept (by decide) [] (.refl s)).trans (hf.kept.mono (by decide)))).only
    · have hfetch : State.noFetch d = false := Bool.eq_false_iff.2 fun h => absurd (State.noFetch_iff.1 h).1 (Nat.not_le.2 hd)
      have hsome : s.lineOf 0 d = some l := hl
      have hrun := (exec_qspiRead hr s).trans (congrArg Host.Outcome.next (State.qspiRead_hit ⟨hmode, hvalid⟩ hbad hw (.inr (Option.isSome_of_mem hsome))))
      exact .of_eq hrun ⟨⟨_, hbit true, congrArg (List.cons _) (State.windowWord_line hfetch hd4 hsome hlen)⟩, honly _⟩
    · have hfetch : State.noFetch d = true := State.noFetch_iff.2 ⟨h1, h2⟩
      have hrun := (exec_qspiRead hr s).trans (congrArg Host.Outcome.next (State.qspiRead_hit ⟨hmode, hvalid⟩ hbad hw (.inl hfetch)))
      exact .of_eq hrun ⟨⟨_, hbit true, congrArg (List.cons _) (State.windowWord_empty hfetch)⟩, honly _⟩

end Sys2Proof.Machine
end

section
/-! REGISTER WRITES OF A CONTEXT: taken, ignored or refused (R309, R330, R486-R490; O41). -/

namespace Sys2Proof.Machine

namespace State

variable {s t : State} {c : Nat}

/-- The registers of the privileged view that a write commands (R490). -/
def commandRegs : List Nat :=
  [aSYS_PWRCTL, aSYS_FLT_CLR, aSUP_FLT_CLR, aSUP_SIG_CMD, aMTX_FLT_CLR, aOBS_IDX, aRULE_IDX, aRING_LD_IDX, aBIST_IDX, aADC_REFCTL, aADC_SWTRIG,
    aLOOP_SWAP, aSAFE_SWSTOP, aLIFE_CMD, aSEC_PWSET 0, aSEC_PWSET 1, aSEC_PWCMD, aSEC_ROLLBACK, aSEC_LOCK]

theorem not_isConfig_of_command : ∀ a ∈ commandRegs, isConfig a = false := by decide

/-- Every other privileged register but a loop shadow word keeps its value (R486). -/
theorem privStore_other {off : Nat} (x : Nat) (h : off ∉ commandRegs) (hshd : ¬ (0x18500 ≤ off ∧ off < 0x18900)) : s.privStore c off x = s := by
  simp only [commandRegs, List.mem_cons, List.not_mem_nil, or_false, not_or] at h
  simp only [privStore, h, hshd, or_false, if_false]

theorem privStore_swstop (x : Nat) : s.privStore c aSAFE_SWSTOP x = s.wr aSAFE_SWSTOP (x % 256) := by
  unfold privStore
  repeat rw [if_neg (by decide)]
  exact if_pos rfl

theorem privStore_loopSwap (x : Nat) : s.privStore c aLOOP_SWAP x = s.wr aLOOP_SWAP (s.rd aLOOP_SWAP ||| BitVec.ofNat 32 x).toNat := by
  unfold privStore
  repeat rw [if_neg (by decide)]
  exact if_pos rfl

theorem unprivStore_matrix {off : Nat} (x : Nat) (h1 : 0x01800 ≤ off) (h2 : off < 0x02000) : s.unprivStore c off x = s.wr off x := by
  have hpage : off ≠ aDEV_MEMPAGE := fun h => absurd h1 (by rw [h]; decide)
  unfold unprivStore
  rw [if_neg hpage, if_neg (by omega), if_neg (by omega), if_pos ⟨h1, h2⟩]

-- Words that are taken

/-- A word of the privileged view, written by an elevated context, restarts its time-out. -/
theorem wordWrite_priv {off x : Nat} {priv : Bool} (hp : isPrivileged off = true) (hpriv : priv = true) (h1 : 0x10000 ≤ off) (h2 : off < 0x20000) :
    s.wordWrite c off x priv = (s.touch c).privStore c off x := by
  rw [wordWrite_taken ?taken, hp, if_pos rfl, hostWrite, if_neg (by omega), if_pos h2]
  rw [WriteRefused, hp, hpriv, inWindow_below (by omega)]
  rintro (⟨-, hc⟩ | ⟨-, hlo, hhi⟩ | hc)
  · cases hc
  · omega
  · cases hc

/-- The word of a register is replaced, the time-out of a context restarted, and nothing else changes. -/
structure RegisterHolds (o : Nat) (v : Word) (s u : State) : Prop where
  value : u.rd o = v
  kept : Kept [.regs, .sec] s u
  regs : Wr [(o, 0)] s u
  elev : u.sec.elev = s.sec.elev

theorem wr_holds (s : State) (o v : Nat) : RegisterHolds o (BitVec.ofNat 32 v) s (s.wr o v) :=
  ⟨s.rd_wr_same o v, wr_kept (by decide) o v (.refl s), wr_wr (hit_one List.mem_cons_self) (.refl s), rfl⟩

theorem touch_elev (s : State) (c : Nat) : (s.touch c).sec.elev = s.sec.elev := by
  unfold touch
  split <;> rfl

theorem RegisterHolds.of_touch {o : Nat} {v : Word} (h : RegisterHolds o v (s.touch c) t) : RegisterHolds o v s t :=
  ⟨h.value, (touch_kept (by decide) c (.refl s)).trans h.kept, (touch_wr (List.nil_subset _) c (.refl s)).trans h.regs, h.elev.trans (s.touch_elev c)⟩

theorem touch_holds (s : State) (c o : Nat) : RegisterHolds o (s.rd o) s (s.touch c) :=
  ⟨touch_rd s c o, touch_kept (by decide) c (.refl s), touch_wr (List.nil_subset _) c (.refl s), s.touch_elev c⟩

end State

theorem exec_registerWrite (c : Fin 9) (off : BitVec 20) (x : BitVec 32) (s : State) :
    exec (.registerWrite c off x) s = .next (if off.toNat % 4 = 0 then s.regWrite c.val off.toNat x.toNat else s) := rfl

/-- Settles O41. -/
theorem hostRegisterWrites : Obligations.HostRegisterWrites := by
  intro c off x s o priv refused served holds
  have hholds {u : State} {v : Word} (h : State.RegisterHolds o v s u) : holds u v := ⟨h.value, h.kept.only, h.regs.onlyRegs, h.elev⟩
  have hoff : ∀ {P : State → Prop}, (o % 4 ≠ 0 → P s) → (o % 4 = 0 → P (s.regWrite c o x.toNat)) → Completes (.registerWrite c off x) s P := fun h1 h2 => by
    by_cases h4 : o % 4 = 0
    · exact .of_eq ((exec_registerWrite c off x s).trans (congrArg Host.Outcome.next (if_pos h4))) (h2 h4)
    · exact .of_eq ((exec_registerWrite c off x s).trans (congrArg Host.Outcome.next (if_neg h4))) (h1 h4)
  refine hoff (fun h4 => ⟨fun _ => rfl, fun h => absurd h h4, fun h => absurd h h4⟩) fun h4 => ⟨?ignored, fun _ hs hr => ?refused, fun _ hs hr => ?taken⟩
  case ignored =>
    intro h
    by_cases hs : served
    · rw [State.regWrite_served hs]
      exact State.wordWrite_beyond ((h.resolve_left (absurd h4)).resolve_left (not_not_intro hs))
    · exact State.regWrite_unserved hs _ _
  case refused =>
    have hw : s.WriteRefused o (s.elevated c) := by
      obtain ⟨⟨h1, h2⟩, he⟩ | ⟨h1, h2, hm⟩ | h := hr
      · exact .inl ⟨by simp only [isPrivileged, h1, h2, decide_true, Bool.and_true], he⟩
      · exact .inr (.inl ⟨hm, h1, h2⟩)
      · exact .inr (.inr (decide_eq_true h))
    rw [State.regWrite_served hs, State.wordWrite_refused hw]
    refine ⟨fun h0 => if_neg h0, fun h0 => ?_⟩
    rw [if_pos h0]
    exact ⟨s.accessErr_flag, State.accessErr_pending, s.accessErr_only, s.accessErr_onlyRegs⟩
  case taken =>
    have hpriv (h1 : 0x10000 ≤ o) (h2 : o < 0x20000) : s.wordWrite c o x.toNat (s.elevated c) = (s.touch c).privStore c o x.toNat :=
      State.wordWrite_priv (by simp only [isPrivileged, h1, h2, decide_true, Bool.and_true])
        (Bool.eq_true_of_not_eq_false fun he => hr (.inl ⟨⟨h1, h2⟩, he⟩)) h1 h2
    rw [State.regWrite_served hs]
    refine ⟨fun h1 h2 => ?_, fun h => ?_, fun h => ?_, fun hp hcfg hshd => ?_, fun h1 h2 => ?_⟩
    · have hmn : s.midnight = false := Bool.eq_false_iff.2 fun hm => hr (.inr (.inl ⟨by omega, h2, hm⟩))
      have hnot : ¬ s.WriteRefused o (s.elevated c) := by
        rw [State.WriteRefused, State.isPrivileged_below (by omega), State.inWindow_below (by omega), hmn]
        rintro (⟨hc, -⟩ | ⟨hc, -⟩ | hc) <;> cases hc
      have hdo : s.wordWrite c o x.toNat (s.elevated c) = s.wr o x.toNat := by
        rw [State.wordWrite_taken hnot, State.isPrivileged_below (by omega), if_neg Bool.false_ne_true, State.hostWrite, if_pos (by omega),
          State.unprivStore_matrix _ h1 h2]
      have hw := s.wr_holds o x.toNat
      rw [BitVec.ofNat_toNat, BitVec.setWidth_eq] at hw
      rw [hdo]
      exact hholds hw
    · have hw := (s.touch c).wr_holds o (x.toNat % 256)
      have hlow : BitVec.ofNat 32 (x.toNat % 256) = x &&& 0xFF := by
        apply BitVec.eq_of_toNat_eq
        rw [BitVec.toNat_ofNat, BitVec.toNat_and, show (0xFF : BitVec 32).toNat = 2 ^ 8 - 1 from rfl, Nat.and_two_pow_sub_one_eq_mod]
        omega
      rw [hlow] at hw
      rw [hpriv (by rw [h]; decide) (by rw [h]; decide), h, State.privStore_swstop, ← h]
      exact hholds hw.of_touch
    · have hw := (s.touch c).wr_holds o (s.rd o ||| x).toNat
      rw [BitVec.ofNat_toNat, BitVec.setWidth_eq] at hw
      rw [hpriv (by rw [h]; decide) (by rw [h]; decide), h, State.privStore_loopSwap, ← h, State.touch_rd, BitVec.ofNat_toNat, BitVec.setWidth_eq]
      exact hholds hw.of_touch
    · have hcmd : o ∉ State.commandRegs := fun hm => absurd (State.not_isConfig_of_command o hm) (by rw [hcfg]; decide)
      rw [hpriv hp.1 hp.2, State.privStore_other _ hcmd hshd]
      exact hholds (s.touch_holds c o)
    · rw [State.wordWrite_queue h1 h2]
      have hlen : (leBytes 4 x.toNat).length = 4 := length_leBytes 4 _
      have hread := State.ramRead_ramWrite (leBytes 4 x.toNat) o s
      rw [hlen] at hread
      exact ⟨hread, fun k hk => State.ramByte_ramWrite_other _ (by rw [hlen]; exact hk) s, State.ramWrite_cmds _ o s,
        (State.ramWrite_kept (by decide) _ _ (.refl s)).only⟩

end Sys2Proof.Machine
end

section
/-! THE MAILBOX'S QUEUES (R312-R316, R320, R328): doorbells, heads, errors, reset and the copy of descriptors (O42). -/

namespace Sys2Proof.Machine

namespace State

variable {s t : State} {c : Nat}

-- Writes of the mailbox registers

/-- What a write of each mailbox register does. -/
structure MailboxStores (s : State) (c x : Nat) : Prop where
  normal : s.unprivStore c aMBX_SQN_TAIL x = s.doorbell false x
  urgent : s.unprivStore c aMBX_SQU_TAIL x = s.doorbell true x
  head : s.unprivStore c aMBX_CQ_HEAD x = s.cqHead x
  stat : s.unprivStore c aMBX_STAT x = s.mbxStatClear x
  reset : s.unprivStore c aMBX_RESET x = s.mbxReset (x % 256)

theorem mailboxStores (s : State) (c x : Nat) : MailboxStores s c x := by
  constructor
  all_goals
    unfold unprivStore
    repeat rw [if_neg (by decide)]
    exact if_pos rfl

theorem regWrite_mailbox (h : s.Served c) {off : Nat} (x : Nat) (h1 : 0x04000 ≤ off) (h2 : off < 0x05000) :
    s.regWrite c off x = s.unprivStore c off x := by
  rw [regWrite_served h, wordWrite_unpriv (by omega) (by omega)]

-- Errors

theorem mbxErr_flag (s : State) {f : Fld} (hf : f.lo + f.width ≤ 32) (hw : 0 < f.width) (ha : hits [(0x270, 0), (0x1B070, 0)] f.addr = false) :
    (s.mbxErr f).flag f = true := by
  unfold mbxErr
  split
  case isTrue h => exact h
  case isFalse => exact ((raise_regs _ _).flag f ha).trans (s.flag_putFlag f true hf hw)

theorem mbxErr_pending {f : Fld} (h : s.flag f = false) : (s.mbxErr f).sourcePending 34 = true := by
  unfold mbxErr
  rw [if_neg (by rw [h]; decide)]
  exact sourcePending_raise (n := srcMBX_ERR) rfl (.inr rfl)

-- Doorbells (R313)

def sqHead (urgent : Bool) : Nat := if urgent then aMBX_SQU_HEAD else aMBX_SQN_HEAD
def sqTail (urgent : Bool) : Nat := if urgent then aMBX_SQU_TAIL else aMBX_SQN_TAIL
def sqDepth (urgent : Bool) : Nat := if urgent then 32 else 128

/-- How far a value lies from the head of a queue. -/
def sqFar (s : State) (urgent : Bool) (v : Nat) : Nat := (v + 65536 - s.ptr (sqHead urgent)) % 65536

/-- A tail that the queue takes. -/
def TailGood (s : State) (urgent : Bool) (v : Nat) : Prop :=
  s.sqFar urgent v ≤ sqDepth urgent ∧ s.sqFar urgent (s.ptr (sqTail urgent)) ≤ s.sqFar urgent v

theorem doorbell_resetting {urgent : Bool} {x : Nat} (h : s.flag fMBX_RESETTING = true) : s.doorbell urgent x = s := if_pos h

theorem doorbell_stored {urgent : Bool} {x : Nat} (h : s.flag fMBX_RESETTING = false) (hgood : s.TailGood urgent (x % 65536)) :
    s.doorbell urgent x = (s.wr (sqTail urgent) (x % 65536)).raise srcMBX_DOORBELL := by
  have hno : ¬ (decide (sqDepth urgent < s.sqFar urgent (x % 65536)) || decide (s.sqFar urgent (x % 65536) < s.sqFar urgent (s.ptr (sqTail urgent)))) = true := by
    simp only [Bool.or_eq_true, decide_eq_true_eq, not_or, Nat.not_lt]
    exact hgood
  exact (if_neg (by rw [h]; decide)).trans (congrArg (raise · srcMBX_DOORBELL) (if_neg hno))

theorem doorbell_refused {urgent : Bool} {x : Nat} (h : s.flag fMBX_RESETTING = false) (hbad : ¬ s.TailGood urgent (x % 65536)) :
    s.doorbell urgent x = (s.mbxErr fMBX_TAIL_BAD).raise srcMBX_DOORBELL := by
  have hyes : (decide (sqDepth urgent < s.sqFar urgent (x % 65536)) || decide (s.sqFar urgent (x % 65536) < s.sqFar urgent (s.ptr (sqTail urgent)))) = true := by
    rw [TailGood, not_and_or, Nat.not_le, Nat.not_le] at hbad
    simp only [Bool.or_eq_true, decide_eq_true_eq]
    exact hbad
  exact (if_neg (by rw [h]; decide)).trans (congrArg (raise · srcMBX_DOORBELL) (if_pos hyes))

/-- What either end of a doorbell write raises and leaves. -/
structure Rung (urgent : Bool) (s u : State) : Prop where
  pending : u.sourcePending 32 = true
  kept : Kept [.regs, .icu, .nw, .pwr] s u
  regs : Wr [(sqTail urgent, 0), (aMBX_STAT, 0), (aDEV_PWR_STAT, 0), (aICU_NWSTAT, 0)] s u

theorem raise_rung {urgent : Bool} (hk : Kept [.regs, .icu, .nw, .pwr] s t)
    (hr : Wr [(sqTail urgent, 0), (aMBX_STAT, 0), (aDEV_PWR_STAT, 0), (aICU_NWSTAT, 0)] s t) : Rung urgent s (t.raise srcMBX_DOORBELL) where
  pending := sourcePending_raise (n := srcMBX_DOORBELL) rfl (.inr rfl)
  kept := raise_kept (by decide) _ hk
  regs := raise_wr (by cases urgent <;> decide) _ hr

/-- A doorbell that the queue takes. -/
theorem doorbell_rung_stored {urgent : Bool} {x : Nat} (h : s.flag fMBX_RESETTING = false) (hgood : s.TailGood urgent (x % 65536)) :
    (s.doorbell urgent x).rd (sqTail urgent) = BitVec.ofNat 32 (x % 65536) ∧ (s.doorbell urgent x).rd aMBX_STAT = s.rd aMBX_STAT
      ∧ Rung urgent s (s.doorbell urgent x) := by
  rw [doorbell_stored h hgood]
  refine ⟨((raise_regs _ _).eq _ (by cases urgent <;> decide)).trans (s.rd_wr_same _ _),
    ((raise_regs _ _).eq _ (by decide)).trans (s.rd_wr_other _ (by cases urgent <;> decide)), raise_rung (wr_kept (by decide) _ _ (.refl s)) ?_⟩
  exact wr_wr (hit_one List.mem_cons_self) (.refl s)

/-- A doorbell that the queue refuses. -/
theorem doorbell_rung_refused {urgent : Bool} {x : Nat} (h : s.flag fMBX_RESETTING = false) (hbad : ¬ s.TailGood urgent (x % 65536)) :
    (s.doorbell urgent x).rd (sqTail urgent) = s.rd (sqTail urgent) ∧ (s.doorbell urgent x).flag fMBX_TAIL_BAD = true
      ∧ (s.flag fMBX_TAIL_BAD = false → (s.doorbell urgent x).sourcePending 34 = true) ∧ Rung urgent s (s.doorbell urgent x) := by
  have herr : Wr [(aMBX_STAT, 0), (0x270, 0), (0x1B070, 0)] s (s.mbxErr fMBX_TAIL_BAD) := mbxErr_wr (by decide) _ (by decide) (.refl s)
  rw [doorbell_refused h hbad]
  refine ⟨((raise_regs _ _).eq _ (by cases urgent <;> decide)).trans (herr.eq _ (by cases urgent <;> decide)),
    ((raise_regs _ _).flag fMBX_TAIL_BAD).trans (s.mbxErr_flag (by decide) (by decide) (by decide)), fun hf => raise_pendGrows _ _ 34 (mbxErr_pending hf),
    raise_rung (mbxErr_kept (by decide) _ (.refl s)) ?_⟩
  exact mbxErr_wr (by cases urgent <;> decide) _ (by cases urgent <;> decide) (.refl s)

-- MBX_STAT and MBX_RESET (R324, R328)

/-- A clearing write of one error bit. -/
def errCleared (s : State) (x : Nat) (f : Fld) : State := if bitOf x f.lo then s.putFlag f false else s

theorem errCleared_same (s : State) (x : Nat) {f : Fld} (hf : f.lo + f.width ≤ 32) (hw : 0 < f.width) :
    (s.errCleared x f).flag f = (s.flag f && !bitOf x f.lo) := by
  unfold errCleared
  cases bitOf x f.lo with
  | false => rw [if_neg Bool.false_ne_true, Bool.not_false, Bool.and_true]
  | true =>
    rw [if_pos rfl, Bool.not_true, Bool.and_false]
    exact s.flag_putFlag f false hf hw

theorem errCleared_apart (s : State) (x : Nat) {f g : Fld} (hf : f.lo + f.width ≤ 32) (ha : g.addr = f.addr)
    (h : g.lo + g.width ≤ f.lo ∨ f.lo + f.width ≤ g.lo) : (s.errCleared x f).flag g = s.flag g := by
  unfold errCleared
  split
  · exact s.flag_putFlag_apart false hf ha h
  · rfl

theorem mbxStatClear_eq (s : State) (x : Nat) :
    s.mbxStatClear x = ((s.errCleared x fMBX_ACCESS_ERR).errCleared x fMBX_TAIL_BAD).errCleared x fMBX_DUP_TAG := rfl

theorem mbxStatClear_flag (s : State) (x : Nat) : ∀ f ∈ [fMBX_ACCESS_ERR, fMBX_TAIL_BAD, fMBX_DUP_TAG],
    (s.mbxStatClear x).flag f = (s.flag f && !bitOf x f.lo) := by
  intro f hf
  simp only [List.mem_cons, List.not_mem_nil, or_false] at hf
  rw [mbxStatClear_eq]
  obtain rfl | rfl | rfl := hf
  · rw [errCleared_apart _ _ (by decide) (by rfl) (by decide), errCleared_apart _ _ (by decide) (by rfl) (by decide), errCleared_same _ _ (by decide) (by decide)]
  · rw [errCleared_apart _ _ (by decide) (by rfl) (by decide), errCleared_same _ _ (by decide) (by decide), errCleared_apart _ _ (by decide) (by rfl) (by decide)]
  · rw [errCleared_same _ _ (by decide) (by decide), errCleared_apart _ _ (by decide) (by rfl) (by decide), errCleared_apart _ _ (by decide) (by rfl) (by decide)]

theorem mbxStatClear_resetting (s : State) (x : Nat) : (s.mbxStatClear x).flag fMBX_RESETTING = s.flag fMBX_RESETTING := by
  rw [mbxStatClear_eq, errCleared_apart _ _ (by decide) (by rfl) (by decide), errCleared_apart _ _ (by decide) (by rfl) (by decide),
    errCleared_apart _ _ (by decide) (by rfl) (by decide)]

theorem dropNonce_nonce (s : State) (c : Nat) : (s.dropNonce c).nonce c = none := by
  have hnone : (tabErase s.sec.nonces c).find? (fun p => p.1 == c && (s.dropNonce c).nonceLive c) = none :=
    List.find?_eq_none.2 fun p hp h => erase_no_key s.sec.nonces c p hp (beq_iff_eq.1 (Bool.and_eq_true_iff.1 h).1)
  rw [nonce, show (s.dropNonce c).sec.nonces = tabErase s.sec.nonces c from rfl, hnone]
  rfl

theorem mbxReset_key (s : State) : s.mbxReset 0xA5 = ((s.putFlag fMBX_RESETTING true).setCopy 0 defCopy).dropNonce 0 := if_pos rfl

theorem mbxReset_other {key : Nat} (h : key ≠ 0xA5) : s.mbxReset key = s := if_neg h

-- The end of a mailbox reset (R328)

/-- A QSPI command is under way. -/
def Unfinished (s : State) : Prop := ∃ z ∈ s.mbx.cmds, z.ctx = 0 ∧ z.phase ≠ .done

theorem mbxResetDone_waits (h : s.flag fMBX_RESETTING = false ∨ s.Unfinished) : s.mbxResetDone = s := by
  refine if_pos ?_
  obtain h | ⟨z, hz, h0, hp⟩ := h
  · rw [h]
    rfl
  · refine Bool.or_eq_true_iff.2 (.inr (List.any_eq_true.2 ⟨z, hz, ?_⟩))
    rw [h0]
    cases hph : z.phase with
    | waiting => rfl
    | running => rfl
    | long => rfl
    | done => exact absurd hph hp

/-- The mailbox without a command of QSPI. -/
def withoutQspi (s : State) : State := s.setMbx { s.mbx with cmds := s.mbx.cmds.filter fun c => c.ctx != 0, soiled := [] }

def queuePtrs : List Nat := [aMBX_SQN_TAIL, aMBX_SQN_HEAD, aMBX_SQU_TAIL, aMBX_SQU_HEAD, aMBX_CQ_TAIL, aMBX_CQ_HEAD]

def pointersCleared (s : State) : State := queuePtrs.foldl (fun s a => s.wr a 0) s

/-- RESETTING and DUP_TAG fall, and QSPI loses its elevation and nonce. -/
def resetEnded (s : State) : State := (((s.putFlag fMBX_RESETTING false).putFlag fMBX_DUP_TAG false).endElev 0).dropNonce 0

theorem mbxResetDone_eq (h : s.flag fMBX_RESETTING = true) (hno : ¬ s.Unfinished) : s.mbxResetDone = s.withoutQspi.pointersCleared.resetEnded := by
  refine if_neg fun hc => ?_
  obtain hc | hc := Bool.or_eq_true_iff.1 hc
  · rw [h] at hc
    cases hc
  · obtain ⟨z, hz, hbusy⟩ := List.any_eq_true.1 hc
    refine hno ⟨z, hz, ?_⟩
    cases hph : z.phase with
    | done => rw [hph] at hbusy; simp at hbusy
    | waiting => rw [hph] at hbusy; simp at hbusy; exact ⟨hbusy, by decide⟩
    | running => rw [hph] at hbusy; simp at hbusy; exact ⟨hbusy, by decide⟩
    | long => rw [hph] at hbusy; simp at hbusy; exact ⟨hbusy, by decide⟩

theorem foldl_wr_rd (l : List Nat) (a : Nat) : ∀ s : State, (l.foldl (fun s a => s.wr a 0) s).rd a = if a ∈ l then 0 else s.rd a := by
  induction l with
  | nil => exact fun s => (if_neg (List.not_mem_nil)).symm
  | cons b l ih =>
    intro s
    rw [List.foldl_cons, ih]
    by_cases hb : a = b
    · subst hb
      rw [if_pos List.mem_cons_self, s.rd_wr_same]
      exact ite_self _
    · rw [s.rd_wr_other 0 hb]
      simp only [List.mem_cons, hb, false_or]

theorem resetEnded_pointers (s : State) : ∀ a ∈ queuePtrs, s.resetEnded.rd a = s.rd a := fun a ha =>
  have hap : ∀ a ∈ queuePtrs, hits [(aMBX_STAT, 0)] a = false := by decide
  have hw : Wr [(aMBX_STAT, 0)] s s.resetEnded :=
    dropNonce_wr (by decide) 0 (endElev_wr (by decide) 0 (putFlag_wr (by decide) (putFlag_wr (by decide) (.refl s))))
  hw.eq a (hap a ha)

/-- What the end of a mailbox reset leaves. -/
structure ResetOver (s u : State) : Prop where
  pointers : ∀ a ∈ queuePtrs, u.rd a = 0
  cmds : u.mbx.cmds = s.mbx.cmds.filter fun z => z.ctx != 0
  soiled : u.mbx.soiled = []
  nonce : u.nonce 0 = none
  resetting : u.flag fMBX_RESETTING = false
  elevated : ∀ j, u.elevated j = (s.elevated j && j != 0)
  kept : Kept [.regs, .mbx, .sec] s u

theorem mbxResetDone_over (h : s.flag fMBX_RESETTING = true) (hno : ¬ s.Unfinished) : ResetOver s s.mbxResetDone := by
  have hclear : Kept [.regs] s.withoutQspi s.withoutQspi.pointersCleared := .fold (fun _ a h => wr_kept (by decide) a 0 h) (.refl _)
  have hdone := mbxResetDone_kept (T := [.regs, .mbx, .sec]) (by decide) (.refl s)
  rw [mbxResetDone_eq h hno] at hdone ⊢
  generalize hu : s.withoutQspi.pointersCleared = u at hdone ⊢
  have hmbx : u.mbx = s.withoutQspi.mbx := by rw [← hu]; exact hclear.mbx_eq
  have hsec : u.sec = s.sec := by rw [← hu]; exact hclear.sec_eq
  exact
    { pointers := fun a ha => by
        rw [u.resetEnded_pointers a ha, ← hu]
        exact (foldl_wr_rd queuePtrs a _).trans (if_pos ha)
      cmds := congrArg Mbx.cmds hmbx
      soiled := congrArg Mbx.soiled hmbx
      nonce := dropNonce_nonce _ 0
      resetting := by
        have hflag (t : State) : ((t.endElev 0).dropNonce 0).flag fMBX_RESETTING = t.flag fMBX_RESETTING := rfl
        rw [resetEnded, hflag, flag_putFlag_apart, flag_putFlag _ fMBX_RESETTING]
      elevated := fun j => by
        have hnonce (t : State) : (t.dropNonce 0).elevated j = t.elevated j := rfl
        have hput (t : State) (f : Fld) : (t.putFlag f false).elevated j = t.elevated j := rfl
        rw [resetEnded, hnonce, endElev_elevated, hput, hput, elevated, hsec, elevated]
        rfl
      kept := hdone }

-- The copy of a descriptor (R313, R320)

/-- A command whose tag is in flight in its context. -/
def TagTaken (s : State) (c : Cmd) : Prop := ∃ z ∈ s.mbx.cmds, z.ctx = c.ctx ∧ z.counts = true ∧ z.tag = c.tag

theorem tagTaken_iff {s : State} {c : Cmd} : (s.mbx.cmds.any fun x => x.ctx == c.ctx && x.counts && x.tag == c.tag) = true ↔ s.TagTaken c := by
  simp only [List.any_eq_true, Bool.and_eq_true, beq_iff_eq, TagTaken, and_assoc]

theorem takeCmd_new {c : Cmd} (h : ¬ s.TagTaken c) : s.takeCmd c = s.addCmd { c with taken := s.stampNow 2 } := if_neg fun hc => h (tagTaken_iff.1 hc)

theorem takeCmd_dup {c : Cmd} (h : s.TagTaken c) :
    s.takeCmd c = (s.addCmd { c with taken := s.stampNow 2, phase := .done, status := stBAD_ARG, cflags := c.cflags + cfDUP }).mbxErr fMBX_DUP_TAG :=
  if_pos (tagTaken_iff.2 h)

theorem stampNow_of_wr {R : List (Nat × Nat)} (src : Nat) (ht : t.time = s.time) (h : Wr R s t) (hstate : hits R fTIME_STATE.addr = false)
    (hset : hits R fTIME_SET.addr = false) (hsrc : hits R fGRID_SRC.addr = false) : t.stampNow src = s.stampNow src := by
  simp only [stampNow, quality, ht, h.get fTIME_STATE hstate, h.flag fTIME_SET hset, h.get fGRID_SRC hsrc]

/-- The descriptor at the head of a queue. -/
def headDesc (s : State) (urgent : Bool) : Cmd :=
  let h := s.ptr (sqHead urgent)
  { parseDesc s.mbx.nextId 0 urgent (s.ramRead (if urgent then 0x22000 + 64 * (h % 32) else 0x20000 + 64 * (h % 128)) 64) [] 0 0 with
    taint := s.mbx.soiled.contains (urgent, h) }

/-- The queue with its head advanced past its first entry. -/
def dequeued (s : State) (urgent : Bool) : State :=
  (s.setMbx { s.mbx with soiled := s.mbx.soiled.filter fun p => p != (urgent, s.ptr (sqHead urgent)) }).wr (sqHead urgent) ((s.ptr (sqHead urgent) + 1) % 65536)

/-- SC0 copies descriptors: it runs, no reset is under way and no completion of a restart is left to be written. -/
def Copying (s : State) : Prop :=
  s.sc0Up = true ∧ s.flag fMBX_RESETTING = false ∧ ∀ z ∈ s.mbx.cmds, ¬ (z.phase = .done ∧ bitOf z.cflags 2 = true)

theorem mbxReady_iff : s.mbxReady = true ↔ s.Copying := by
  simp only [mbxReady, Bool.and_eq_true, Bool.not_eq_true', List.any_eq_false, beq_iff_eq, Copying, and_assoc]

theorem copyDesc_idle {urgent : Bool} (h : ¬ s.Copying ∨ s.ptr (sqHead urgent) = s.ptr (sqTail urgent)) : s.copyDesc urgent = s := by
  refine if_pos (Bool.or_eq_true_iff.2 (h.imp (fun h => ?_) fun h => beq_iff_eq.2 h))
  rw [Bool.not_eq_true']
  exact Bool.eq_false_iff.2 fun hc => h (mbxReady_iff.1 hc)

theorem copyDesc_eq {urgent : Bool} (h : s.Copying) (hne : s.ptr (sqHead urgent) ≠ s.ptr (sqTail urgent)) :
    s.copyDesc urgent = (s.dequeued urgent).takeCmd (s.headDesc urgent) := by
  refine if_neg fun hc => ?_
  obtain hc | hc := Bool.or_eq_true_iff.1 hc
  · rw [mbxReady_iff.2 h] at hc
    cases hc
  · exact hne (beq_iff_eq.1 hc)

/-- What the queue's head is and what is kept once its first entry has been taken. -/
structure Dequeued (urgent : Bool) (s u : State) : Prop where
  head : u.rd (sqHead urgent) = BitVec.ofNat 32 ((s.ptr (sqHead urgent) + 1) % 65536)
  cmds : u.mbx.cmds = s.mbx.cmds
  nextId : u.mbx.nextId = s.mbx.nextId
  ram : u.mbx.ram = s.mbx.ram
  stamp : u.stampNow 2 = s.stampNow 2
  kept : Kept [.regs, .mbx] s u
  regs : Wr [(sqHead urgent, 0)] s u

theorem dequeued_head (s : State) (urgent : Bool) : Dequeued urgent s (s.dequeued urgent) := by
  have hregs : Wr [(sqHead urgent, 0)] s (s.dequeued urgent) := wr_wr (hit_one List.mem_cons_self) (setMbx_wr (List.nil_subset _) _ (.refl s))
  exact
    { head := rd_wr_same _ _ _
      cmds := rfl
      nextId := rfl
      ram := rfl
      stamp := stampNow_of_wr 2 rfl hregs (by cases urgent <;> decide) (by cases urgent <;> decide) (by cases urgent <;> decide)
      kept := wr_kept (by decide) _ _ (setMbx_kept (by decide) _ (.refl s))
      regs := hregs }

end State

theorem exec_sqnDoorbell (c : Fin 9) (x : BitVec 32) (s : State) : exec (.sqnDoorbell c x) s = .next (s.regWrite c.val aMBX_SQN_TAIL x.toNat) := rfl
theorem exec_squDoorbell (c : Fin 9) (x : BitVec 32) (s : State) : exec (.squDoorbell c x) s = .next (s.regWrite c.val aMBX_SQU_TAIL x.toNat) := rfl
theorem exec_cqHeadWrite (c : Fin 9) (x : BitVec 32) (s : State) : exec (.cqHeadWrite c x) s = .next (s.regWrite c.val aMBX_CQ_HEAD x.toNat) := rfl
theorem exec_mbxStatClear (c : Fin 9) (x : BitVec 32) (s : State) : exec (.mbxStatClear c x) s = .next (s.regWrite c.val aMBX_STAT x.toNat) := rfl
theorem exec_mbxReset (c : Fin 9) (x : BitVec 32) (s : State) : exec (.mbxReset c x) s = .next (s.regWrite c.val aMBX_RESET x.toNat) := rfl
theorem exec_mbxResetDone (s : State) : exec .mbxResetDone s = .next s.mbxResetDone := rfl
theorem exec_descriptorCopy (urgent : Bool) (s : State) : exec (.descriptorCopy urgent) s = .next (s.copyDesc urgent) := rfl

/-- The doorbell of either queue. -/
theorem exec_bell (c : Fin 9) (x : BitVec 32) (urgent : Bool) (s : State) :
    exec (if urgent then Instr.squDoorbell c x else .sqnDoorbell c x) s = .next (s.regWrite c.val (State.sqTail urgent) x.toNat) := by
  cases urgent <;> rfl

theorem State.regWrite_bell {s : State} {c : Nat} (h : s.Served c) (urgent : Bool) (x : Nat) :
    s.regWrite c (sqTail urgent) x = s.doorbell urgent x := by
  cases urgent with
  | false => exact (regWrite_mailbox h x (by decide) (by decide)).trans (s.mailboxStores c x).normal
  | true => exact (regWrite_mailbox h x (by decide) (by decide)).trans (s.mailboxStores c x).urgent

/-- Settles O42. -/
theorem queuePointers : Obligations.QueuePointers := by
  intro c x urgent s served aH aT depth bell v h t far near regs rings unfinished ready d dup
  have hserved (hs : served) : s.Served c := hs.imp_left fun h0 hc => h0 (Fin.ext hc)
  have hshut (hs : ¬ served) : ¬ s.Served c := fun h => hs (h.imp_left fun h0 hc => h0 (congrArg Fin.val hc))
  have hbell (hs : served) : exec bell s = .next (s.doorbell urgent x.toNat) :=
    (exec_bell c x urgent s).trans (congrArg Host.Outcome.next (State.regWrite_bell (hserved hs) urgent x.toNat))
  have hrings {u : State} (hu : State.Rung urgent s u) : rings u := ⟨hu.pending, hu.kept.only, hu.regs.onlyRegs⟩
  have hwrite (hs : served) {i : Instr} {off : Nat} (hi : exec i s = .next (s.regWrite c off x.toNat)) (h1 : 0x04000 ≤ off) (h2 : off < 0x05000) :
      exec i s = .next (s.unprivStore c off x.toNat) :=
    hi.trans (congrArg Host.Outcome.next (State.regWrite_mailbox (hserved hs) x.toNat h1 h2))
  have hstores := s.mailboxStores c x.toNat
  refine ⟨fun hs hr h1 h2 => ?stored, fun hs hr hbad => ?refused, fun hs hr => .of_eq (hbell hs) (State.doorbell_resetting hr), fun hs i hi => ?unserved,
    fun hs => .of_eq ((hwrite hs (exec_cqHeadWrite c x s) (by decide) (by decide)).trans (congrArg Host.Outcome.next hstores.head)) ?head,
    fun hs => .of_eq ((hwrite hs (exec_mbxStatClear c x s) (by decide) (by decide)).trans (congrArg Host.Outcome.next hstores.stat)) ?stat,
    fun hs hk => .of_eq ((hwrite hs (exec_mbxReset c x s) (by decide) (by decide)).trans (congrArg Host.Outcome.next hstores.reset)) ?reset,
    fun hs hk => .of_eq ((hwrite hs (exec_mbxReset c x s) (by decide) (by decide)).trans (congrArg Host.Outcome.next hstores.reset)) (State.mbxReset_other hk),
    fun hw => .of_eq (exec_mbxResetDone s) (State.mbxResetDone_waits hw), fun hr hno => .of_eq (exec_mbxResetDone s) ?ended,
    fun hw => .of_eq (exec_descriptorCopy urgent s) (State.copyDesc_idle hw), fun hr hne hnew => .of_eq (exec_descriptorCopy urgent s) ?copied,
    fun hr hne hdup => .of_eq (exec_descriptorCopy urgent s) ?dup⟩
  case stored =>
    obtain ⟨htail, hstat, hrung⟩ := State.doorbell_rung_stored hr (urgent := urgent) (x := x.toNat) ⟨h1, h2⟩
    exact .of_eq (hbell hs) ⟨htail, hstat, hrings hrung⟩
  case refused =>
    obtain ⟨htail, hflag, hpend, hrung⟩ := State.doorbell_rung_refused hr (urgent := urgent) (x := x.toNat) fun hg =>
      hbad.elim (Nat.not_lt.2 hg.1) (Nat.not_lt.2 hg.2)
    exact .of_eq (hbell hs) ⟨htail, hflag, hpend, hrings hrung⟩
  case unserved =>
    have hall : ∀ {j : Instr} {off : Nat}, exec j s = .next (s.regWrite c off x.toNat) → Completes j s (fun u => u = s) := fun hj =>
      .of_eq hj (State.regWrite_unserved (hshut hs) _ _)
    simp only [List.mem_cons, List.not_mem_nil, or_false] at hi
    obtain rfl | rfl | rfl | rfl := hi
    · exact hall (exec_bell c x urgent s)
    · exact hall (exec_cqHeadWrite c x s)
    · exact hall (exec_mbxStatClear c x s)
    · exact hall (exec_mbxReset c x s)
  case head => exact ⟨s.rd_wr_same _ _, (State.cqHead_kept (by decide) _ (.refl s)).only, (State.cqHead_wr (by decide) _ (.refl s)).onlyRegs⟩
  case stat =>
    exact ⟨s.mbxStatClear_flag x.toNat, s.mbxStatClear_resetting x.toNat, (State.mbxStatClear_kept (by decide) _ (.refl s)).only,
      (State.mbxStatClear_wr (by decide) _ (.refl s)).onlyRegs⟩
  case reset =>
    have hkept := State.mbxReset_kept (T := [.regs, .ctx, .sec]) (by decide) 0xA5 (.refl s)
    have hregs := State.mbxReset_wr (R := [(aMBX_STAT, 0)]) (by decide) 0xA5 (.refl s)
    rw [State.mbxReset_key] at hkept hregs
    rw [hk, State.mbxReset_key]
    exact ⟨s.flag_putFlag fMBX_RESETTING true, (State.copyOf_setCopy (s.putFlag fMBX_RESETTING true) 0 0 defCopy).trans (if_pos rfl),
      fun j hj => (State.copyOf_setCopy (s.putFlag fMBX_RESETTING true) 0 j defCopy).trans (if_neg hj), State.dropNonce_nonce _ 0, rfl, hkept.only,
      hregs.onlyRegs⟩
  case ended =>
    have ho := State.mbxResetDone_over hr hno
    exact ⟨ho.pointers, ho.cmds, ho.soiled, ho.nonce, ho.resetting, ho.elevated, ho.kept.only⟩
  case copied =>
    have hd := s.dequeued_head urgent
    have hfree : ¬ (s.dequeued urgent).TagTaken (s.headDesc urgent) := hnew
    rw [State.copyDesc_eq hr hne, State.takeCmd_new hfree, hd.stamp]
    generalize s.dequeued urgent = w at hd ⊢
    exact ⟨hd.head, congrArg (· ++ [d]) hd.cmds, congrArg (· + 1) hd.nextId, hd.ram, (State.addCmd_kept (by decide) _ hd.kept).only,
      (State.addCmd_wr (List.nil_subset _) _ hd.regs).onlyRegs⟩
  case dup =>
    have hd := s.dequeued_head urgent
    have htaken : (s.dequeued urgent).TagTaken (s.headDesc urgent) := hdup
    rw [State.copyDesc_eq hr hne, State.takeCmd_dup htaken, hd.stamp]
    generalize s.dequeued urgent = w at hd ⊢
    generalize hw : w.addCmd _ = w'
    have herr := State.mbxErr_wr (R := [(0x270, 0), (aMBX_STAT, 0), (0x1B070, 0)]) (by decide) fMBX_DUP_TAG (by decide) (.refl w')
    have hhead : w'.rd (State.sqHead urgent) = w.rd (State.sqHead urgent) := by rw [← hw]; rfl
    have hcmds : (w'.mbxErr fMBX_DUP_TAG).mbx = w'.mbx := (State.mbxErr_kept (T := [.regs, .icu, .nw, .pwr]) (by decide) fMBX_DUP_TAG (.refl w')).mbx_eq
    refine ⟨(herr.eq _ (by cases urgent <;> decide)).trans (hhead.trans hd.head), ?_, w'.mbxErr_flag (by decide) (by decide) (by decide), ?_, ?_⟩
    · rw [hcmds, ← hw]
      exact congrArg (· ++ [_]) hd.cmds
    · rw [← hw]
      exact (State.mbxErr_kept (by decide) _ (State.addCmd_kept (by decide) _ (hd.kept.mono (by decide)))).only
    · rw [← hw]
      exact (State.mbxErr_wr (by cases urgent <;> decide) _ (by cases urgent <;> decide) (State.addCmd_wr (List.nil_subset _) _
        (hd.regs.mono (by cases urgent <;> decide)))).onlyRegs

end Sys2Proof.Machine
end

section
/-! THE SCHEDULER (R321, R322): the start number of a command (O43). -/

namespace Sys2Proof.Machine

namespace State

/-- A command of ring context 1 that waits in the urgent class. -/
def waitingCmd : Cmd := { parseDesc 0 1 true [] [] 0 0 with rlen := 64 }

/-- A part in Run with one waiting command and none started yet. -/
def waitingPart : State :=
  let s : State := { State.reset with pwr := { State.reset.pwr with good := true } }
  (s.put fPWR_STATE 1).setMbx { s.mbx with cmds := [waitingCmd] }

/-- SC0 takes the command: it is the first to start, numbered 1. -/
structure FirstStart (u : State) : Prop where
  number : u.mbx.cmds.map (fun x => (x.id, x.started)) = [(waitingCmd.id, 1)]

theorem waitingPart_started : FirstStart waitingPart.schedule := ⟨by decide⟩

theorem waitingPart_runs : waitingPart.sc0Runs = true := by decide

theorem waitingPart_mayRun : waitingPart.mayRun waitingCmd = true := by decide

theorem waitingPart_cmds : waitingPart.mbx.cmds = [waitingCmd] := rfl

end State

theorem exec_commandSchedule (s : State) : exec .commandSchedule s = .next s.schedule := rfl

/-- Refutes O43: a command that starts gets the start number after the number of commands started before it, and not that number itself. In
`State.waitingPart` none has started yet, and the command that SC0 takes is numbered 1. -/
theorem not_commandScheduled : ¬ Obligations.CommandScheduled := by
  intro h
  obtain ⟨-, hurgent, -⟩ := h State.waitingPart
  obtain ⟨u, hu, c, ⟨hc, -, -⟩, -, -, -, hrun⟩ := hurgent State.waitingPart_runs (by decide) ⟨State.waitingCmd, List.mem_singleton_self _, rfl, State.waitingPart_mayRun⟩
  obtain rfl : c = State.waitingCmd := List.mem_singleton.1 hc
  obtain ⟨-, -, -, hstart, -⟩ := hrun
  obtain rfl : State.waitingPart.schedule = u := Host.Outcome.next.inj ((exec_commandSchedule _).symm.trans hu)
  have hnum := State.waitingPart_started.number
  obtain ⟨x, hx, hpair⟩ := List.mem_map.1 (hnum ▸ List.mem_singleton_self (State.waitingCmd.id, 1))
  obtain ⟨hid, hone⟩ := Prod.mk.inj hpair
  obtain ⟨-, -, hzero, -⟩ := hstart rfl x hx hid
  exact absurd (hone.symm.trans hzero) (by decide)

end Sys2Proof.Machine
end

section
/-! COMPLETIONS (R316, R325-R328): the entry and the payload of a QSPI command, the reply of a ring command (O44). -/

namespace Sys2Proof.Machine

namespace State

variable {s t : State}

theorem rd_of_kept {T : List Comp} (h : Kept T s t) (a : Nat) (hT : Comp.regs ∉ T := by decide) : t.rd a = s.rd a := by rw [rd, h.regs_eq hT, rd]

-- Which completion is written

/-- A command whose completion can be written. -/
def Postable (s : State) (c : Cmd) : Prop := c.phase = .done ∧ (c.ctx ≠ 0 ∨ s.flag fMBX_RESETTING = true ∨ s.cqFull = false)

theorem postable_iff (s : State) (c : Cmd) : (c.phase == .done && (c.ctx != 0 || s.flag fMBX_RESETTING || !s.cqFull)) = true ↔ s.Postable c := by
  simp only [Bool.and_eq_true, Bool.or_eq_true, beq_iff_eq, bne_iff_ne, Bool.not_eq_true', Postable, or_assoc]

theorem postOne_none (h : s.sc0Runs = false ∨ ∀ x ∈ s.mbx.cmds, ¬ s.Postable x) : s.postOne = s := by
  unfold postOne
  obtain h | h := h
  · exact if_pos (by rw [h]; rfl)
  · rw [List.find?_eq_none.2 fun x hx hc => h x hx ((postable_iff s x).1 hc)]
    exact ite_self s

/-- The first command that can be posted. -/
theorem postOne_first {c : Cmd} {pre post : List Cmd} (hrun : s.sc0Runs = true) (hcmds : s.mbx.cmds = pre ++ c :: post)
    (hpre : ∀ x ∈ pre, ¬ s.Postable x) (hc : s.Postable c) :
    s.postOne = if c.ctx ≠ 0 then s.postRing c else if s.flag fMBX_RESETTING then s.removeCmd c.id else s.postQspi c := by
  have hnone : (pre.find? fun c => c.phase == .done && (c.ctx != 0 || s.flag fMBX_RESETTING || !s.cqFull)) = none :=
    List.find?_eq_none.2 fun x hx h => hpre x hx ((postable_iff s x).1 h)
  have hfind : (s.mbx.cmds.find? fun c => c.phase == .done && (c.ctx != 0 || s.flag fMBX_RESETTING || !s.cqFull)) = some c := by
    rw [hcmds, List.find?_append, hnone, Option.none_or]
    exact List.find?_cons_of_pos ((postable_iff s c).2 hc)
  unfold postOne
  rw [if_neg (by rw [hrun]; decide), hfind]

-- A QSPI completion (R316)

/-- The command with the result that is written: a free one where the host wrote its buffer (R315). -/
def resultOf (s : State) (c : Cmd) : Cmd × State :=
  if c.taint then ({ c with r0 := Config.freeNat s.fresh.1 % 2 ^ 32, out := (s.fresh.2.freeBytes c.out.length).1 }, (s.fresh.2.freeBytes c.out.length).2)
  else (c, s)

theorem resultOf_id (s : State) (c : Cmd) : (s.resultOf c).1.id = c.id := by
  unfold resultOf
  split <;> rfl

theorem resultOf_kept (s : State) (c : Cmd) : Kept [.free] s (s.resultOf c).2 := by
  unfold resultOf
  split
  · exact freeBytes_kept (by decide) _ (fresh_kept (by decide) (.refl s))
  · exact .refl s

/-- The payload in its buffer. -/
def paid (s : State) (c : Cmd) : State := if c.out.isEmpty then s else s.ramWrite (0x30000 + 1024 * c.pbuf) c.out

/-- The payload in its buffer and the entry at slot `n` of the queue. -/
def entered (s : State) (c : Cmd) (n : Nat) : State := (s.paid c).ramWrite (0x24000 + 16 * (n % 256)) ((s.paid c).entryOf c (n / 256 % 2 == 0))

/-- The tail of the completion queue is past slot `n`, and the command is no longer in flight. -/
def counted (s : State) (id n : Nat) : State := (s.wr aMBX_CQ_TAIL ((n + 1) % 65536)).removeCmd id

/-- The entry is written, the tail advanced and the interrupt raised. -/
def posted (s : State) (c : Cmd) (n : Nat) : State := ((s.entered c n).counted c.id n).raise srcMBX_CPL

theorem postQspi_eq (s : State) (c : Cmd) : s.postQspi c = (s.resultOf c).2.posted (s.resultOf c).1 (s.ptr aMBX_CQ_TAIL) := by
  unfold postQspi
  by_cases h : c.taint = true
  · rw [if_pos h, resultOf, if_pos h]
    rfl
  · rw [if_neg h, resultOf, if_neg h]
    rfl

theorem entered_kept (s : State) (c : Cmd) (n : Nat) : Kept [.mbx] s (s.entered c n) :=
  ramWrite_kept (by decide) _ _ (.ite (.refl s) (ramWrite_kept (by decide) _ _ (.refl s)))

theorem entered_cmds (s : State) (c : Cmd) (n : Nat) : (s.entered c n).mbx.cmds = s.mbx.cmds := by
  rw [entered, ramWrite_cmds, paid]
  split
  · rfl
  · exact ramWrite_cmds _ _ s

theorem entryOf_congr (c : Cmd) (ph : Bool) (h : t.gridNs = s.gridNs) : t.entryOf c ph = s.entryOf c ph := by rw [entryOf, h, entryOf]

theorem gridNs_of_time (h : t.time = s.time) : t.gridNs = s.gridNs := by rw [gridNs, timeNs, h, gridNs, timeNs]

theorem paid_time (s : State) (c : Cmd) : (s.paid c).time = s.time := by
  have h : Kept [.mbx] s (s.paid c) := .ite (.refl s) (ramWrite_kept (by decide) _ _ (.refl s))
  exact h.time_eq

theorem entryOf_length (s : State) (c : Cmd) (ph : Bool) : (s.entryOf c ph).length = 16 := by
  simp only [entryOf, List.length_append, length_leBytes]

/-- The entry and the payload as they stand in the mailbox region. -/
theorem entered_entry (s : State) (c : Cmd) (n : Nat) : (s.entered c n).ramRead (0x24000 + 16 * (n % 256)) 16 = s.entryOf c (n / 256 % 2 == 0) := by
  have h := ramRead_ramWrite ((s.paid c).entryOf c (n / 256 % 2 == 0)) (0x24000 + 16 * (n % 256)) (s.paid c)
  rw [entryOf_length] at h
  rw [entered, h, entryOf_congr c _ (gridNs_of_time (s.paid_time c))]

theorem entered_payload (s : State) (c : Cmd) (n : Nat) : (s.entered c n).ramRead (0x30000 + 1024 * c.pbuf) c.out.length = c.out := by
  have hold : (s.entered c n).ramRead (0x30000 + 1024 * c.pbuf) c.out.length = (s.paid c).ramRead (0x30000 + 1024 * c.pbuf) c.out.length := by
    simp only [ramRead]
    refine List.map_congr_left fun i _ => ramByte_ramWrite_other _ (.inr ?_) _
    rw [entryOf_length]
    omega
  rw [hold, paid]
  split
  next h =>
    rw [List.isEmpty_iff.1 h]
    rfl
  next => exact ramRead_ramWrite _ _ s

/-- What the completion of a QSPI command leaves. -/
structure PostedQspi (c : Cmd) (n : Nat) (s u : State) : Prop where
  cmds : u.mbx.cmds = s.mbx.cmds.filter fun x => x.id != c.id
  tail : u.rd aMBX_CQ_TAIL = BitVec.ofNat 32 ((n + 1) % 65536)
  pending : s.inDusk = false → u.sourcePending 33 = true
  kept : Kept [.regs, .icu, .nw, .pwr, .mbx] s u
  regs : Wr [(aMBX_CQ_TAIL, 0), (aDEV_PWR_STAT, 0), (aICU_NWSTAT, 0)] s u
  entry : u.ramRead (0x24000 + 16 * (n % 256)) 16 = s.entryOf c (n / 256 % 2 == 0)
  payload : u.ramRead (0x30000 + 1024 * c.pbuf) c.out.length = c.out

/-- What the tail's advance leaves. -/
structure Counted (id n : Nat) (s u : State) : Prop where
  cmds : u.mbx.cmds = s.mbx.cmds.filter fun x => x.id != id
  ram : u.mbx.ram = s.mbx.ram
  tail : u.rd aMBX_CQ_TAIL = BitVec.ofNat 32 ((n + 1) % 65536)
  kept : Kept [.regs, .mbx] s u
  regs : Wr [(aMBX_CQ_TAIL, 0)] s u

theorem counted_counted (s : State) (id n : Nat) : Counted id n s (s.counted id n) where
  cmds := rfl
  ram := rfl
  tail := s.rd_wr_same _ _
  kept := removeCmd_kept (by decide) _ (wr_kept (by decide) _ _ (.refl s))
  regs := removeCmd_wr (by decide) _ (wr_wr (by decide) (.refl s))

theorem raise_posted {c : Cmd} {n : Nat} {e v : State} (he : Kept [.mbx] s e) (hcmds : e.mbx.cmds = s.mbx.cmds)
    (hentry : e.ramRead (0x24000 + 16 * (n % 256)) 16 = s.entryOf c (n / 256 % 2 == 0))
    (hpay : e.ramRead (0x30000 + 1024 * c.pbuf) c.out.length = c.out) (hv : Counted c.id n e v) : PostedQspi c n s (v.raise srcMBX_CPL) := by
  have hmbx : (v.raise srcMBX_CPL).mbx = v.mbx := (raise_kept (T := [.regs, .icu, .nw, .pwr]) (by decide) srcMBX_CPL (.refl v)).mbx_eq
  have hram (a m : Nat) : (v.raise srcMBX_CPL).ramRead a m = e.ramRead a m := by simp only [ramRead, ramByte, hmbx, hv.ram]
  have hdusk : v.inDusk = s.inDusk := (hv.regs.inDusk hv.kept.pwr_eq).trans (inDusk_of_kept he)
  exact
    { cmds := by rw [hmbx, hv.cmds, hcmds]
      tail := ((raise_regs _ _).eq _ (by decide)).trans hv.tail
      pending := fun h => sourcePending_raise (n := srcMBX_CPL) rfl (.inl (hdusk.trans h))
      kept := raise_kept (by decide) _ ((he.mono (by decide)).trans (hv.kept.mono (by decide)))
      regs := raise_wr (by decide) _ (Wr.trans ⟨fun a _ => rd_of_kept he a⟩ (hv.regs.mono (by decide)))
      entry := (hram _ _).trans hentry
      payload := (hram _ _).trans hpay }

theorem posted_qspi (s : State) (c : Cmd) (n : Nat) : PostedQspi c n s (s.posted c n) :=
  raise_posted (s.entered_kept c n) (s.entered_cmds c n) (s.entered_entry c n) (s.entered_payload c n) (counted_counted _ c.id n)

-- A ring completion (R325, R326)

/-- The reply takes its place in the store of a context. -/
def answered (x : RingCtx) (seq : Nat) (body : List Byte) : RingCtx :=
  { x with store := x.store.map fun e => if e.1 = seq ∧ e.2.isNone then (e.1, some body) else e }

theorem answered_store {x : RingCtx} {seq : Nat} {body : List Byte} (h : (seq, none) ∈ x.store) : (seq, some body) ∈ (answered x seq body).store :=
  List.mem_map.2 ⟨(seq, none), h, if_pos ⟨rfl, rfl⟩⟩

theorem postRing_dropped {c : Cmd} (h : c.gone = true) : s.postRing c = s.removeCmd c.id :=
  if_neg (by rw [h, Bool.not_true, Bool.and_false]; exact Bool.false_ne_true)

theorem postRing_kept_body {c : Cmd} (hg : c.gone = false) (hu : (s.ringCtx c.ctx).used = true) :
    s.postRing c = ((s.removeCmd c.id).setRingCtx c.ctx (answered (s.ringCtx c.ctx) c.seq ((s.removeCmd c.id).entryOf c false ++ c.out))).sendReply c.port c.ctx
      (s.ringCtx c.ctx).mac c.seq ((s.removeCmd c.id).entryOf c false ++ c.out) :=
  if_pos (by rw [hg, hu]; rfl)

theorem ringCtx_of_mbx (h : t.mbx = s.mbx) (k : Nat) : t.ringCtx k = s.ringCtx k := by rw [ringCtx, h, ringCtx]

theorem ringCtx_setRingCtx (s : State) (c k : Nat) (x : RingCtx) : (s.setRingCtx c x).ringCtx k = if k = c then x else s.ringCtx k :=
  tabGet_set (fun _ => defRingCtx) s.mbx.ring c k x

/-- The commands in flight after a ring completion. -/
theorem postRing_cmds (s : State) (c : Cmd) : (s.postRing c).mbx.cmds = s.mbx.cmds.filter fun x => x.id != c.id := by
  have hreply (t : State) (p x mac seq : Nat) (body : List Byte) : (t.sendReply p x mac seq body).mbx = t.mbx :=
    (sendReply_kept (T := [.regs, .ring, .ptp]) (by decide) p x mac seq body (.refl t)).mbx_eq
  unfold postRing
  dsimp only
  split
  · rw [hreply]
    rfl
  · rfl

end State

theorem exec_completionPost (s : State) : exec .completionPost s = .next s.postOne := rfl

/-- Settles O44. -/
theorem completionPosted : Obligations.CompletionPosted := by
  intro s ready gone n entry
  refine .of_eq (exec_completionPost s) ⟨fun h => State.postOne_none h, fun pre c post hrun hcmds hpre hc => ?_⟩
  rw [State.postOne_first hrun hcmds hpre hc]
  have hreset (h0 : c.ctx = 0) (hr : s.flag fMBX_RESETTING = true) :
      (if c.ctx ≠ 0 then s.postRing c else if s.flag fMBX_RESETTING then s.removeCmd c.id else s.postQspi c) = s.removeCmd c.id := by
    rw [if_neg (not_not_intro h0), if_pos hr]
  have hqspi (h0 : c.ctx = 0) (hr : s.flag fMBX_RESETTING = false) :
      (if c.ctx ≠ 0 then s.postRing c else if s.flag fMBX_RESETTING then s.removeCmd c.id else s.postQspi c) = s.postQspi c := by
    rw [if_neg (not_not_intro h0), if_neg (by rw [hr]; decide)]
  have hring (h0 : c.ctx ≠ 0) :
      (if c.ctx ≠ 0 then s.postRing c else if s.flag fMBX_RESETTING then s.removeCmd c.id else s.postQspi c) = s.postRing c := if_pos h0
  have hfree := s.resultOf_kept c
  have hp := (s.resultOf c).2.posted_qspi (s.resultOf c).1 n
  refine ⟨?cmds, fun h0 hr => ?reset, fun h0 hr => ?qspi, fun h0 hg => ?dropped, fun h0 hg hu hm => ?ring⟩
  case cmds =>
    by_cases h0 : c.ctx = 0
    · cases hr : s.flag fMBX_RESETTING with
      | true =>
        rw [if_neg (not_not_intro h0), if_pos rfl]
        rfl
      | false =>
        rw [if_neg (not_not_intro h0), if_neg Bool.false_ne_true, State.postQspi_eq, hp.cmds, s.resultOf_id c, hfree.mbx_eq]
    · rw [hring h0]
      exact s.postRing_cmds c
  case reset =>
    rw [hreset h0 hr]
    exact ⟨(State.removeCmd_kept (by decide) _ (.refl s)).only, fun k => rfl⟩
  case qspi =>
    rw [hqspi h0 hr, State.postQspi_eq]
    refine ⟨hp.tail, fun hd => hp.pending ((State.inDusk_of_kept hfree).trans hd), ((hfree.mono (by decide)).trans (hp.kept.mono (by decide))).only, ?_,
      fun ht hb hl => ?_⟩
    · intro a ha
      exact (hp.regs.onlyRegs a ha).trans (State.rd_of_kept hfree a)
    · have hsame : s.resultOf c = (c, s) := if_neg (by rw [ht]; decide)
      have hentry := hp.entry
      have hpay := hp.payload
      rw [hsame] at hentry hpay ⊢
      refine ⟨hentry.trans ?_, hpay⟩
      rw [State.entryOf]
      by_cases h2 : n / 256 % 2 = 0
      · rw [if_pos h2, beq_iff_eq.2 h2]
        rfl
      · rw [if_neg h2, beq_false_of_ne h2]
        rfl
  case dropped =>
    rw [hring h0, State.postRing_dropped hg]
    exact ⟨(State.removeCmd_kept (by decide) _ (.refl s)).only, fun k => rfl⟩
  case ring =>
    have hreply (t : State) (p x mac seq : Nat) (body : List Byte) : (t.sendReply p x mac seq body).mbx = t.mbx :=
      (State.sendReply_kept (T := [.regs, .ring, .ptp]) (by decide) p x mac seq body (.refl t)).mbx_eq
    rw [hring h0, State.postRing_kept_body hg hu, State.ringCtx_of_mbx (hreply _ _ _ _ _ _), State.ringCtx_setRingCtx, if_pos rfl]
    exact State.answered_store hm

end Sys2Proof.Machine
end

section
/-! WHAT EVERY OPCODE COMMAND IS HELD TO (R314, R315, R319, R330, R377, R382), before its own meaning (O45). -/

namespace Sys2Proof.Machine

/-- A descriptor that breaks R314 or R315. -/
def Cmd.BadArg (c : Cmd) : Prop :=
  1024 < c.plen ∨ 1024 < c.rlen ∨ (c.ctx = 0 ∧ (0 < c.plen ∨ 0 < c.rlen) ∧ c.pbufValid = false) ∨ (c.ctx = 0 ∧ 63 < c.pbuf)

def Cmd.BadCrc (c : Cmd) : Prop := c.pcrcEn = true ∧ crc32 c.data ≠ c.pcrc

def Cmd.Denied (c : Cmd) : Prop := c.op ∈ [0x20, 0x21, 0x40, 0x41, 0x51, 0x70] ∧ c.priv = false

namespace State

variable {s : State} {c : Cmd}

def Barred (s : State) (c : Cmd) : Prop := s.midnight = true ∧ c.op ∉ [0x01, 0x10, 0x22, 0x50]
def HeldBack (s : State) (c : Cmd) : Prop := (s.pstate = 0 ∧ s.get fPWR_HOLD = 1) ∧ c.op ∉ [0x01, 0x10, 0x62, 0x63, 0x20, 0x21]
def Failing (s : State) (c : Cmd) : Prop := s.pwr.pfw = true ∧ c.op ∈ [0x20, 0x21, 0x40, 0x51]

-- The checks, in their order

theorem not_true_iff {b : Bool} : (!b) = true ↔ b = false := by rw [Bool.not_eq_true']

theorem vet_badArg (h : c.BadArg) : s.vet c = some stBAD_ARG := by
  unfold vet
  by_cases h1 : c.plen > 1024 ∨ c.rlen > 1024
  · exact if_pos h1
  rw [if_neg h1]
  by_cases h2 : c.ctx = 0 ∧ (c.plen > 0 ∨ c.rlen > 0) ∧ (!c.pbufValid) = true
  · exact if_pos h2
  rw [if_neg h2]
  refine if_pos ?_
  obtain h | h | ⟨h0, hlen, hv⟩ | h := h
  · exact absurd (.inl h) h1
  · exact absurd (.inr h) h1
  · exact absurd ⟨h0, hlen, by rw [hv]; rfl⟩ h2
  · exact h

/-- Past the checks of the descriptor, the rest stand in turn. -/
theorem vet_goodArg (h : ¬ c.BadArg) {r : Option Nat}
    (hr : (if c.pcrcEn ∧ crc32 c.data ≠ c.pcrc then some stBAD_CRC
      else if s.midnight ∧ !([opNOP, opREG_READ, opCFG_REPORT, opLOG_READ].contains c.op) then some stFAULT
      else if s.pstate = 0 ∧ s.get fPWR_HOLD = 1 ∧ !([opNOP, opREG_READ, opCHALLENGE, opRESPOND, opCFG_STAGE_BLOCK, opCFG_COMMIT].contains c.op)
        then some stREFUSED
      else if opPrivileged c.op ∧ !c.priv then some stDENIED
      else if s.pwr.pfw ∧ [opCFG_STAGE_BLOCK, opCFG_COMMIT, opBIST_RUN, opCAPTURE_ARM].contains c.op then some stREFUSED
      else none) = r) : s.vet c = r := by
  simp only [Cmd.BadArg, not_or] at h
  obtain ⟨h1, h2, h3, h4⟩ := h
  unfold vet
  refine (if_neg fun hc => hc.elim h1 h2).trans ((if_neg fun hc => h3 ⟨hc.1, hc.2.1, not_true_iff.1 hc.2.2⟩).trans ((if_neg h4).trans hr))

theorem not_contains {l : List Nat} {k : Nat} : (!(l.contains k)) = true ↔ k ∉ l := by
  rw [not_true_iff, Bool.eq_false_iff, ne_eq, List.contains_iff_mem]

theorem vet_badCrc (h1 : ¬ c.BadArg) (h2 : c.BadCrc) : s.vet c = some stBAD_CRC := vet_goodArg h1 (if_pos h2)

theorem vet_barred (h1 : ¬ c.BadArg) (h2 : ¬ c.BadCrc) (h3 : s.Barred c) : s.vet c = some stFAULT :=
  vet_goodArg h1 ((if_neg h2).trans (if_pos ⟨h3.1, not_contains.2 h3.2⟩))

theorem not_barred (h : ¬ s.Barred c) : ¬ (s.midnight = true ∧ (!([opNOP, opREG_READ, opCFG_REPORT, opLOG_READ].contains c.op)) = true) :=
  fun hc => h ⟨hc.1, not_contains.1 hc.2⟩

theorem vet_held (h1 : ¬ c.BadArg) (h2 : ¬ c.BadCrc) (h3 : ¬ s.Barred c) (h4 : s.HeldBack c) : s.vet c = some stREFUSED :=
  vet_goodArg h1 ((if_neg h2).trans ((if_neg (not_barred h3)).trans (if_pos ⟨h4.1.1, h4.1.2, not_contains.2 h4.2⟩)))

theorem not_held (h : ¬ s.HeldBack c) : ¬ (s.pstate = 0 ∧ s.get fPWR_HOLD = 1
    ∧ (!([opNOP, opREG_READ, opCHALLENGE, opRESPOND, opCFG_STAGE_BLOCK, opCFG_COMMIT].contains c.op)) = true) :=
  fun hc => h ⟨⟨hc.1, hc.2.1⟩, not_contains.1 hc.2.2⟩

theorem vet_denied (h1 : ¬ c.BadArg) (h2 : ¬ c.BadCrc) (h3 : ¬ s.Barred c) (h4 : ¬ s.HeldBack c) (h5 : c.Denied) : s.vet c = some stDENIED :=
  vet_goodArg h1 ((if_neg h2).trans ((if_neg (not_barred h3)).trans ((if_neg (not_held h4)).trans
    (if_pos ⟨List.contains_iff_mem.2 h5.1, not_true_iff.2 h5.2⟩))))

theorem not_denied (h : ¬ c.Denied) : ¬ (opPrivileged c.op = true ∧ (!c.priv) = true) :=
  fun hc => h ⟨List.contains_iff_mem.1 hc.1, not_true_iff.1 hc.2⟩

theorem vet_failing (h1 : ¬ c.BadArg) (h2 : ¬ c.BadCrc) (h3 : ¬ s.Barred c) (h4 : ¬ s.HeldBack c) (h5 : ¬ c.Denied) (h6 : s.Failing c) :
    s.vet c = some stREFUSED :=
  vet_goodArg h1 ((if_neg h2).trans ((if_neg (not_barred h3)).trans ((if_neg (not_held h4)).trans ((if_neg (not_denied h5)).trans
    (if_pos ⟨h6.1, List.contains_iff_mem.2 h6.2⟩)))))

-- The command on SC0

theorem onCmd_none (h : s.curCmd = none) (p : Cmd → Bool) (f : Cmd → State) : s.onCmd p f = s := by
  unfold onCmd
  rw [h]

theorem onCmd_other (h : s.curCmd = some c) {p : Cmd → Bool} (hp : p c = false) (f : Cmd → State) : s.onCmd p f = s := by
  unfold onCmd
  rw [h]
  exact if_pos (by rw [hp]; rfl)

theorem onCmd_refused (h : s.curCmd = some c) {p : Cmd → Bool} (hp : p c = true) (hpos : c.pos = 0) {st : Nat} (hv : s.vet c = some st)
    (f : Cmd → State) : s.onCmd p f = s.finishCmd c.id st 0 [] := by
  unfold onCmd
  rw [h]
  refine (if_neg (by rw [hp]; decide)).trans ((if_neg (not_not_intro hpos)).trans ?_)
  rw [hv]

/-- The command on SC0 ends with a status and nothing else. -/
structure EndsWith (c : Cmd) (st : Nat) (s u : State) : Prop where
  ended : Ended s u c st 0 []
  only : Only [.mbx] s u

theorem finishCmd_endsWith (h : s.curCmd = some c) (st : Nat) : EndsWith c st s (s.finishCmd c.id st 0 []) :=
  ⟨finishCmd_ended h rfl st 0 [], finishCmd_only (.refl s) (List.Subset.refl _) (List.mem_singleton_self _) c.id st 0 []⟩

end State

/-- Settles O45. -/
theorem commandChecks : Obligations.CommandChecks := by
  intro s c good is area trig all purpose rows hold badArg badCrc barred held denied failing r hr ends
  have hown : all false = fun x => x.op == opDROP && !bitOf (x.arg 0) 0 := funext fun x => congrArg (x.op == 0x61 && ·) (beq_false _)
  have hevery : all true = fun x => x.op == opDROP && bitOf (x.arg 0) 0 := funext fun x => congrArg (x.op == 0x61 && ·) (beq_true _)
  have hrow : ∃ f, exec r.1 s = .next (s.onCmd r.2 f) := by
    simp only [rows, hown, hevery, List.mem_cons, List.not_mem_nil, or_false] at hr
    obtain rfl | rfl | rfl | rfl | rfl | rfl | rfl | rfl | rfl | rfl | rfl | rfl | rfl | rfl | rfl | rfl | rfl | rfl | rfl | rfl | rfl | rfl | rfl
      | rfl | rfl | rfl | rfl := hr <;> exact ⟨_, rfl⟩
  obtain ⟨f, hexec⟩ := hrow
  refine ⟨fun h => .of_eq hexec (State.onCmd_none h _ f), fun h hp => .of_eq hexec (State.onCmd_other h hp f), fun h hp hpos => ?_⟩
  have hends {st : Nat} (hv : s.vet c = some st) : ends st := by
    have he := State.finishCmd_endsWith h st
    exact .of_eq (hexec.trans (congrArg Host.Outcome.next (State.onCmd_refused h hp hpos hv f))) ⟨he.ended, he.only⟩
  exact ⟨fun h1 => hends (State.vet_badArg h1), fun h1 h2 => hends (State.vet_badCrc h1 h2), fun h1 h2 h3 => hends (State.vet_barred h1 h2 h3),
    fun h1 h2 h3 h4 => hends (State.vet_held h1 h2 h3 h4), fun h1 h2 h3 h4 h5 => hends (State.vet_denied h1 h2 h3 h4 h5),
    fun h1 h2 h3 h4 h5 h6 => hends (State.vet_failing h1 h2 h3 h4 h5 h6)⟩

end Sys2Proof.Machine
end

section
/-! THE PLAIN OPCODES, TIME_REARM_STEP AND CAPTURE_ARM (R58, R268, R318, R408, R430, R431; O46). -/

namespace Sys2Proof.Machine

namespace State

variable {s t : State} {c : Cmd}

-- The command on SC0

theorem midnight_of_vet (h : s.vet c = none) (hop : c.op ∉ [0x01, 0x10, 0x22, 0x50]) : s.midnight = false := by
  by_contra hmn
  have hbar : s.Barred c := ⟨Bool.eq_true_of_not_eq_false hmn, hop⟩
  by_cases h1 : c.BadArg
  · exact nomatch (vet_badArg h1).symm.trans h
  by_cases h2 : c.BadCrc
  · exact nomatch (vet_badCrc h1 h2).symm.trans h
  · exact nomatch (vet_barred h1 h2 hbar).symm.trans h

theorem onCmd_taken (h : s.curCmd = some c) {p : Cmd → Bool} (hp : p c = true) (hv : s.vet c = none) (f : Cmd → State) : s.onCmd p f = f c := by
  unfold onCmd
  rw [h]
  refine (if_neg (by rw [hp]; decide)).trans ?_
  rw [hv]
  exact ite_self _

theorem underTest_iff (s : State) (b : Nat) : s.underTest b = true ↔ s.bist.cur = some b := beq_iff_eq

theorem not_underTest {b : Nat} (h : ¬ s.bist.cur = some b) : s.underTest b = false := Bool.eq_false_iff.2 fun hc => h ((s.underTest_iff b).1 hc)

/-- Work that leaves the mailbox alone, and the end of the command after it. -/
theorem finishCmd_after {T : List Comp} (h : s.curCmd = some c) (hk : Kept T s t) (st r0 : Nat) (out : List Byte) (hT : Comp.mbx ∉ T := by decide) :
    Ended s (t.finishCmd c.id st r0 out) c st r0 out ∧ Only (T ++ [.mbx]) s (t.finishCmd c.id st r0 out) :=
  ⟨finishCmd_ended h (hk.mbx_eq hT) st r0 out,
    finishCmd_only hk (List.subset_append_left T _) (List.mem_append_right T (List.mem_singleton_self _)) c.id st r0 out⟩

theorem finishCmd_rd (t : State) (id st r0 : Nat) (out : List Byte) (a : Nat) : (t.finishCmd id st r0 out).rd a = t.rd a := rfl

-- ASPECT_REQUEST (R58)

theorem aspectRequest_high (h : 95 < c.arg 0 % 128) : s.aspectRequest c = s.finishCmd c.id stBAD_ARG 0 [] := if_pos h

theorem aspectRequest_stored (h : c.arg 0 % 128 ≤ 95) (hmn : s.midnight = false) :
    s.aspectRequest c = (s.wr (aASP_REQ (c.arg 0 % 128)) (withBits (c.arg 1) 8 8 0)).finishCmd c.id stOK s.tick32 [] := by
  have hwr : s.aspReqWrite (c.arg 0 % 128) (c.arg 1) = s.wr (aASP_REQ (c.arg 0 % 128)) (withBits (c.arg 1) 8 8 0) :=
    if_neg (by rw [hmn]; decide)
  rw [← hwr]
  exact if_neg (by omega)

-- TIME_REARM_STEP (R268)

/-- The states in which a step may be armed again. -/
def RearmFits (s : State) : Prop := s.get fTIME_STATE = 2 ∨ (s.get fTIME_STATE = 4 ∧ s.get fTIME_CAUSE = 1)

/-- A step armed from this tick on. -/
def rearmed (s : State) : State :=
  (s.setPtp { s.ptp with fresh := if s.flag fTIME_REARMED then s.ptp.fresh else [], armed := s.grid.tick, next := s.armedRate }).putFlag fTIME_REARMED true

theorem rearm_fits (h : s.RearmFits) : s.rearm = (s.rearmed, true) := if_pos h
theorem rearm_else (h : ¬ s.RearmFits) : s.rearm = (s, false) := if_neg h

theorem rearmCmd_tested (h : s.underTest bkSC1 = true) : s.rearmCmd c = s.finishCmd c.id stDEFERRED (s.bistWait bkSC1) [] := if_pos h

theorem rearmCmd_fits (h : s.underTest bkSC1 = false) (hf : s.RearmFits) : s.rearmCmd c = s.rearmed.finishCmd c.id stOK 0 [] := by
  refine (if_neg (by rw [h]; decide)).trans ?_
  rw [rearm_fits hf]
  rfl

theorem rearmCmd_else (h : s.underTest bkSC1 = false) (hf : ¬ s.RearmFits) : s.rearmCmd c = s.finishCmd c.id stREFUSED 0 [] := by
  refine (if_neg (by rw [h]; decide)).trans ?_
  rw [rearm_else hf]
  rfl

-- CAPTURE_ARM (R430, R431)

/-- POST is above its bound and is cut, but never for DISARM. -/
def postCut (c : Cmd) (trig : Nat) : Bool := trig != 4 && decide (1000000 < c.arg 2)

/-- A frozen capture is discarded and writing resumes. -/
def resumed (s : State) : State := if s.get fCAP_STATE = 3 then s.capResume else s

/-- The state of the ring that an arming shows. -/
def armShown (s : State) (trig : Nat) : State := ((s.put fCAP_STATE (if trig = 4 then 0 else 1)).putFlag fCAP_MN_FREEZE false).putFlag fCAP_AUTO false

/-- The arming of a command over the rings of a capture. -/
def armOf (x : Capture) (c : Cmd) (trig : Nat) : Capture :=
  { x with
    trig := trig, cls := c.arg 1 % 256, src := if bitOf (c.arg 1) 15 then some (c.arg 1 / 65536) else none
    target := (c.arg 4 + c.arg 5 % 65536 * 2 ^ 32) * 1000000000 + c.arg 3, post := if postCut c trig then 1000000 else c.arg 2 }

def setCap (s : State) (x : Capture) : State := { s with cap := x }

/-- The ring as the command arms it, before a trigger NOW. -/
def armSet (s : State) (c : Cmd) (trig : Nat) : State := s.resumed.armShown trig |>.setCap (armOf s.resumed.cap c trig)

/-- The ring as the command leaves it. -/
def capArmed (s : State) (c : Cmd) (trig : Nat) : State :=
  if trig = 0 then (s.armSet c trig).capTrigger false (s.armSet c trig).cap.post else s.armSet c trig

theorem capArm_tested {trig : Nat} (h : s.underTest bkSC1 = true) : s.capArm c trig = s.finishCmd c.id stDEFERRED (s.bistWait bkSC1) [] := if_pos h

theorem capArm_busy {trig : Nat} (h : s.underTest bkSC1 = false) (hb : s.heldByOther c = true) : s.capArm c trig = s.finishCmd c.id stBUSY 0 [] :=
  (if_neg (by rw [h]; decide)).trans (if_pos hb)

theorem capArm_lost {trig : Nat} (h : s.underTest bkSC1 = false) (hb : s.heldByOther c = false) (hl : s.flag fNW_SC1_LOST = true) :
    s.capArm c trig = s.finishCmd c.id stREFUSED 0 [] :=
  (if_neg (by rw [h]; decide)).trans ((if_neg (by rw [hb]; decide)).trans (if_pos hl))

theorem capArm_armed {trig : Nat} (h : s.underTest bkSC1 = false) (hb : s.heldByOther c = false) (hl : s.flag fNW_SC1_LOST = false) :
    s.capArm c trig = (s.capArmed c trig).finishCmd c.id (if postCut c trig then stCLAMPED else stOK) 0 [] := by
  have hno {b : Bool} (hb : b = false) : ¬ b = true := by rw [hb]; decide
  unfold capArm
  exact (if_neg (hno h)).trans ((if_neg (hno hb)).trans ((if_neg (hno hl)).trans rfl))

theorem subRing_setSubRing (s : State) (j k : Nat) (r : CapRing) : (s.setSubRing j r).subRing k = if k = j then r else s.subRing k :=
  tabGet_set (fun _ => defRing) s.cap.rings j k r

/-- One sub-ring begins again. -/
def restartRing (s : State) (k : Nat) : State := s.setSubRing k { s.subRing k with since := s.grid.tick, last := s.grid.tick }

theorem restartRing_tick (l : List Nat) (k : Nat) : ∀ s : State, (k ∈ l ∨ ((s.subRing k).since = s.grid.tick ∧ (s.subRing k).last = s.grid.tick)) →
    ((l.foldl restartRing s).subRing k).since = s.grid.tick ∧ ((l.foldl restartRing s).subRing k).last = s.grid.tick := by
  induction l with
  | nil => exact fun s h => h.resolve_left List.not_mem_nil
  | cons j l ih =>
    intro s h
    rw [List.foldl_cons]
    refine ih (s.restartRing j) ?_
    by_cases hkl : k ∈ l
    · exact .inl hkl
    · right
      rw [restartRing, subRing_setSubRing]
      by_cases hkj : k = j
      · rw [if_pos hkj]
        exact ⟨rfl, rfl⟩
      · rw [if_neg hkj]
        exact h.resolve_left fun hm => (List.mem_cons.1 hm).elim hkj hkl

/-- Out of FROZEN every sub-ring begins again at this tick; else none changes. -/
structure RingsResumed (s u : State) : Prop where
  again : s.get fCAP_STATE = 3 → ∀ k < 16, (u.subRing k).since = s.grid.tick ∧ (u.subRing k).last = s.grid.tick
  stand : s.get fCAP_STATE ≠ 3 → u.cap.rings = s.cap.rings
  kept : Kept [.cap] s u

theorem resumed_rings (s : State) : RingsResumed s s.resumed where
  again := fun h k hk => by
    rw [resumed, if_pos h]
    exact restartRing_tick (List.range 16) k s (.inl (List.mem_range.2 hk))
  stand := fun h => by rw [resumed, if_neg h]
  kept := .ite (capResume_kept (by decide) (.refl s)) (.refl s)

/-- What an arming sets. -/
structure CapSet (c : Cmd) (trig : Nat) (s u : State) : Prop where
  state : u.get fCAP_STATE = if trig = 4 then 0 else if trig = 0 then 2 else 1
  freeze : u.flag fCAP_MN_FREEZE = false
  auto : u.flag fCAP_AUTO = false
  now : trig = 0 → u.rd aCAP_TRIGTICK = BitVec.ofNat 32 s.tick32
  later : trig ≠ 0 → u.rd aCAP_TRIGTICK = s.rd aCAP_TRIGTICK
  cap : ∃ x : Capture, u.cap = armOf x c trig ∧ x.rings = s.resumed.cap.rings
  kept : Kept [.regs, .cap] s u
  regs : Wr [(aDEV_CAP_STAT, 0), (aCAP_TRIGTICK, 0)] s u

theorem armShown_fields (s : State) (trig : Nat) : (s.armShown trig).get fCAP_STATE = (if trig = 4 then 0 else 1)
    ∧ (s.armShown trig).flag fCAP_MN_FREEZE = false ∧ (s.armShown trig).flag fCAP_AUTO = false := by
  have hfits : (if trig = 4 then 0 else 1) < 2 ^ fCAP_STATE.width := by split <;> decide
  refine ⟨?_, ?_, flag_putFlag _ fCAP_AUTO false⟩
  · exact (get_putFlag_apart (g := fCAP_STATE) _ (f := fCAP_AUTO) false (by decide) rfl (by decide)).trans
      ((get_putFlag_apart (g := fCAP_STATE) _ (f := fCAP_MN_FREEZE) false (by decide) rfl (by decide)).trans (get_put_fits s fCAP_STATE hfits))
  · exact (flag_putFlag_apart _ (f := fCAP_AUTO) (g := fCAP_MN_FREEZE) false).trans (flag_putFlag _ fCAP_MN_FREEZE false)

theorem armSet_kept (s : State) (c : Cmd) (trig : Nat) : Kept [.regs, .cap] s (s.armSet c trig) :=
  (putFlag_kept (by decide) _ _ (putFlag_kept (by decide) _ _ (put_kept (by decide) _ _ (s.resumed_rings.kept.mono (by decide))))).upd_cap (by decide)

theorem armSet_regs (s : State) (c : Cmd) (trig : Nat) : Wr [(aDEV_CAP_STAT, 0)] s (s.armSet c trig) :=
  Wr.upd (putFlag_wr (by decide) (putFlag_wr (by decide) (put_wr (by decide) ⟨fun a _ => rd_of_kept s.resumed_rings.kept a⟩)))

theorem capArmed_now (s : State) (c : Cmd) : s.capArmed c 0 = (s.armSet c 0).capTrigger false (armOf s.resumed.cap c 0).post := if_pos rfl
theorem capArmed_later {trig : Nat} (h : trig ≠ 0) : s.capArmed c trig = s.armSet c trig := if_neg h

theorem capTrigger_cap (s : State) (auto : Bool) (post : Nat) : (s.capTrigger auto post).cap = { s.cap with post := post } := rfl

theorem capTrigger_freeze (s : State) (post : Nat) : (s.capTrigger false post).flag fCAP_MN_FREEZE = s.flag fCAP_MN_FREEZE := by
  have hwr : Wr [(aCAP_TRIGTICK, 0)] ((s.put fCAP_STATE 2).putFlag fCAP_AUTO false) (s.capTrigger false post) :=
    Wr.upd (wr_wr (by decide) (.refl _))
  rw [hwr.flag fCAP_MN_FREEZE, flag_putFlag_apart, flag_put_apart]

theorem capArmed_set (s : State) (c : Cmd) (trig : Nat) : CapSet c trig s (s.capArmed c trig) := by
  obtain ⟨hstate, hfreeze, hauto⟩ := s.resumed.armShown_fields trig
  have hregs := s.armSet_regs c trig
  have hkept := s.armSet_kept c trig
  have hget (t : State) (x : Capture) (f : Fld) : (t.setCap x).get f = t.get f := rfl
  by_cases h0 : trig = 0
  · subst h0
    have htrig := (s.armSet c 0).capTrigger_regs (armOf s.resumed.cap c 0).post
    have htick : (s.armSet c 0).tick32 = s.tick32 := by rw [tick32, hkept.grid_eq, tick32]
    rw [capArmed_now]
    exact
      { state := htrig.state
        freeze := (capTrigger_freeze _ _).trans hfreeze
        auto := htrig.auto
        now := fun _ => by
          rw [← htick, ← htrig.tick, BitVec.ofNat_toNat, BitVec.setWidth_eq]
        later := fun h => absurd rfl h
        cap := ⟨s.resumed.cap, rfl, rfl⟩
        kept := capTrigger_kept (by decide) _ _ hkept
        regs := capTrigger_wr (by decide) _ _ (hregs.mono (by decide)) }
  · rw [capArmed_later h0]
    exact
      { state := by
          rw [armSet, hget, hstate, if_neg h0]
        freeze := hfreeze
        auto := hauto
        now := fun h => absurd h h0
        later := fun _ => hregs.eq _ (by decide)
        cap := ⟨s.resumed.cap, rfl, rfl⟩
        kept := hkept
        regs := hregs.mono (by decide) }

end State

/-- The five commands of CAPTURE_ARM, by their trigger. -/
theorem exec_capCmd {p : Instr × Nat} (hp : p ∈ [(Instr.captureArmNow, 0), (.captureArmEvent, 1), (.captureArmTime, 2), (.captureArmPin, 3), (.captureDisarm, 4)])
    (s : State) : exec p.1 s = .next (s.capCmd p.2) := by
  simp only [List.mem_cons, List.not_mem_nil, or_false] at hp
  obtain rfl | rfl | rfl | rfl | rfl := hp <;> rfl

theorem State.capCmd_bad {s : State} {c : Cmd} {trig : Nat} (h : s.Runs c 0x51) (hbad : 4 < c.arg 0 % 16) (htrig : trig ≤ 4) :
    s.capCmd trig = s.finishCmd c.id stBAD_ARG 0 [] := by
  obtain ⟨hcur, hop, hvet⟩ := h
  refine (onCmd_taken hcur ?_ hvet _).trans (if_neg (by omega))
  rw [hop, decide_eq_true hbad, Bool.or_true]
  rfl

theorem State.capCmd_arm {s : State} {c : Cmd} {trig : Nat} (h : s.Runs c 0x51) (harea : c.arg 0 % 16 = trig) : s.capCmd trig = s.capArm c trig := by
  obtain ⟨hcur, hop, hvet⟩ := h
  refine (onCmd_taken hcur ?_ hvet _).trans (if_pos harea)
  rw [hop, harea, beq_self_eq_true, Bool.true_or]
  rfl

theorem exec_nop (s : State) : exec .nop s = .next (s.onCmd (fun c => c.op == 0x01) fun c => s.finishCmd c.id stOK (c.arg 0) []) := rfl
theorem exec_invalidOpcode (s : State) : exec .invalidOpcode s = .next (s.onCmd (fun c => !opListed c.op) fun c => s.finishCmd c.id stBAD_ARG 0 []) := rfl
theorem exec_cfgReport (s : State) : exec .cfgReport s = .next (s.onCmd (fun c => c.op == 0x22) fun c => s.finishCmd c.id stOK 0 s.cfg.report) := rfl
theorem exec_aspectRequest (s : State) : exec .aspectRequest s = .next (s.onCmd (fun c => c.op == 0x30) s.aspectRequest) := rfl
theorem exec_timeRearmStep (s : State) : exec .timeRearmStep s = .next (s.onCmd (fun c => c.op == 0x70) s.rearmCmd) := rfl

/-- Settles O46. -/
theorem plainAndCaptureOpcodes : Obligations.PlainAndCaptureOpcodes := by
  intro s c m tested untrusted ends lost post cut
  have hruns {i : Instr} {op : Nat} {f : Cmd → State} (hi : exec i s = .next (s.onCmd (fun x => x.op == op) f)) (h : s.Runs c op) : exec i s = .next (f c) :=
    hi.trans (congrArg Host.Outcome.next (State.onCmd_of_runs h f))
  have htest (h : tested) : s.underTest bkSC1 = true := (s.underTest_iff bkSC1).2 h
  have hfree (h : ¬ tested) : s.underTest bkSC1 = false := State.not_underTest h
  refine ⟨fun h => .of_eq (hruns (exec_nop s) h) (State.finishCmd_after h.1 (T := []) (.refl s) _ _ _),
    fun hcur hvet hl => .of_eq ((exec_invalidOpcode s).trans (congrArg Host.Outcome.next (State.onCmd_taken hcur (by rw [hl]; rfl) hvet _)))
      (State.finishCmd_after hcur (T := []) (.refl s) _ _ _),
    fun h => .of_eq (hruns (exec_cfgReport s) h) (State.finishCmd_after h.1 (T := []) (.refl s) _ _ _),
    fun h hm => .of_eq ((hruns (exec_aspectRequest s) h).trans (congrArg Host.Outcome.next (State.aspectRequest_high hm)))
      (State.finishCmd_after h.1 (T := []) (.refl s) _ _ _), fun h hm => ?aspect,
    fun h ht => .of_eq ((hruns (exec_timeRearmStep s) h).trans (congrArg Host.Outcome.next (State.rearmCmd_tested (htest ht))))
      (State.finishCmd_after h.1 (T := []) (.refl s) _ _ _), fun h ht hu => ?rearm,
    fun h ht hu => .of_eq ((hruns (exec_timeRearmStep s) h).trans (congrArg Host.Outcome.next (State.rearmCmd_else (hfree ht) hu)))
      (State.finishCmd_after h.1 (T := []) (.refl s) _ _ _), fun h p hp => ?capture⟩
  case aspect =>
    have hmn := State.midnight_of_vet h.2.2 (by rw [h.2.1]; decide)
    obtain ⟨hend, honly⟩ := State.finishCmd_after h.1 (T := [.regs]) (State.wr_kept (by decide) (aASP_REQ m) (withBits (c.arg 1) 8 8 0) (.refl s)) stOK s.tick32 []
    exact .of_eq ((hruns (exec_aspectRequest s) h).trans (congrArg Host.Outcome.next (State.aspectRequest_stored hm hmn)))
      ⟨hend, (State.finishCmd_rd _ _ _ _ _ _).trans (s.rd_wr_same _ _), honly,
        (State.finishCmd_wr (List.nil_subset _) _ _ _ _ (State.wr_wr (hit_one List.mem_cons_self) (.refl s))).onlyRegs⟩
  case rearm =>
    have hkept : Kept [.regs, .ptp] s s.rearmed := State.putFlag_kept (by decide) _ _ (State.setPtp_kept (by decide) _ (.refl s))
    obtain ⟨hend, honly⟩ := State.finishCmd_after h.1 hkept stOK 0 []
    have hflag : s.rearmed.flag fTIME_REARMED = true := State.flag_putFlag _ fTIME_REARMED true
    exact .of_eq ((hruns (exec_timeRearmStep s) h).trans (congrArg Host.Outcome.next (State.rearmCmd_fits (hfree ht) hu)))
      ⟨hend, hflag, rfl, honly, (State.finishCmd_wr (List.nil_subset _) _ _ _ _ (State.putFlag_wr (by decide) (State.setPtp_wr (by decide) _ (.refl s)))).onlyRegs⟩
  case capture =>
    have hp4 : p.2 ≤ 4 := by
      simp only [List.mem_cons, List.not_mem_nil, or_false] at hp
      obtain rfl | rfl | rfl | rfl | rfl := hp <;> decide
    have hends {st r0 : Nat} (heq : s.capCmd p.2 = s.finishCmd c.id st r0 []) : ends p.1 st r0 :=
      .of_eq ((exec_capCmd hp s).trans (congrArg Host.Outcome.next heq)) (State.finishCmd_after h.1 (T := []) (.refl s) _ _ _)
    have harm (ha : c.arg 0 % 16 = p.2) := State.capCmd_arm h ha
    refine ⟨fun hbad => hends (State.capCmd_bad h hbad hp4), fun ha ht => hends ((harm ha).trans (State.capArm_tested (htest ht))),
      fun ha ht hb => hends ((harm ha).trans (State.capArm_busy (hfree ht) hb)),
      fun ha ht hb hl => hends ((harm ha).trans (State.capArm_lost (hfree ht) hb hl)), fun ha ht hb hl => ?_⟩
    have heq := (harm ha).trans (State.capArm_armed (c := c) (hfree ht) hb (Bool.eq_false_iff.2 hl))
    have hset := s.capArmed_set c p.2
    have hrings := s.resumed_rings
    obtain ⟨hend, honly⟩ := State.finishCmd_after h.1 hset.kept (if State.postCut c p.2 then stCLAMPED else stOK) 0 []
    have hcut : State.postCut c p.2 = true ↔ p.2 ≠ 4 ∧ 1000000 < post := by
      rw [State.postCut, Bool.and_eq_true, bne_iff_ne, decide_eq_true_iff]
    have hst : (if State.postCut c p.2 then stCLAMPED else stOK) = if p.2 ≠ 4 ∧ 1000000 < post then 0x01 else 0x00 := if_congr hcut rfl rfl
    obtain ⟨x, hcap, hx⟩ := hset.cap
    have hpost : (if State.postCut c p.2 then 1000000 else c.arg 2) = if p.2 = 4 then post else cut := by
      by_cases h4 : p.2 = 4
      · rw [if_pos h4, if_neg fun hc => (hcut.1 hc).1 h4]
      · rw [if_neg h4]
        exact if_congr (hcut.trans (and_iff_right h4)) rfl rfl
    rw [← hst]
    generalize s.capArmed c p.2 = w at heq hset hend honly hcap
    have hring (k : Nat) (hw : w.cap.rings = s.resumed.cap.rings) : (w.finishCmd c.id (if State.postCut c p.2 then stCLAMPED else stOK) 0 []).subRing k
        = s.resumed.subRing k := congrArg (fun r => tabGet (fun _ => defRing) r k) hw
    have hr : w.cap.rings = s.resumed.cap.rings := by rw [hcap]; exact hx
    refine .of_eq ((exec_capCmd hp s).trans (congrArg Host.Outcome.next heq)) ⟨hend, hset.state, hset.freeze, hset.auto, hset.now, hset.later,
      congrArg Capture.trig hcap, congrArg Capture.cls hcap, congrArg Capture.src hcap, congrArg Capture.target hcap, (congrArg Capture.post hcap).trans hpost,
      fun h3 k hk => ?_, fun h3 => hr.trans (hrings.stand h3), honly, (State.finishCmd_wr (List.nil_subset _) _ _ _ _ hset.regs).onlyRegs⟩
    rw [hring k hr]
    exact hrings.again h3 k hk

end Sys2Proof.Machine
end

section
/-! REG_READ AND REG_WRITE (R319), a word at a time (O47). -/

namespace Sys2Proof.Machine

namespace State

variable {s t : State} {c : Cmd}

-- Ranges and refusals

/-- ARG0 and ARG1 that no read takes. -/
def BadRange (off n : Nat) : Prop := off % 4 ≠ 0 ∨ n = 0 ∨ 256 < n ∨ 0x80000 < off + 4 * n

theorem regArgs_iff (off n : Nat) : regArgs off n = true ↔ ¬ BadRange off n := by
  simp only [regArgs, Bool.and_eq_true, beq_iff_eq, decide_eq_true_iff, BadRange]
  omega

/-- A word of the range is privileged and the command lacks the privilege. -/
def RangeDenied (c : Cmd) (off n : Nat) : Prop := off < 0x20000 ∧ 0x10000 < off + 4 * n ∧ c.priv = false

theorem regPriv_iff (c : Cmd) (off n : Nat) : (regPriv off n && !c.priv) = true ↔ RangeDenied c off n := by
  simp only [regPriv, Bool.and_eq_true, decide_eq_true_iff, Bool.not_eq_true', RangeDenied, and_assoc]

/-- A read beyond what the hold FW_NONE offers. -/
def ReadHeld (s : State) (c : Cmd) : Prop := s.pstate = 0 ∧ s.get fPWR_HOLD = 1 ∧ 0x01000 < c.arg 0 + 4 * c.arg 1

theorem regReadCmd_bad (h : BadRange (c.arg 0) (c.arg 1)) : s.regReadCmd c = s.finishCmd c.id stBAD_ARG 0 [] := by
  refine if_pos ?_
  rw [not_true_iff, Bool.eq_false_iff, ne_eq, regArgs_iff]
  exact not_not_intro h

theorem regReadCmd_held (h : ¬ BadRange (c.arg 0) (c.arg 1)) (hh : s.ReadHeld c) : s.regReadCmd c = s.finishCmd c.id stREFUSED 0 [] :=
  (if_neg (by rw [(regArgs_iff _ _).2 h]; decide)).trans (if_pos hh)

theorem regReadCmd_denied (h : ¬ BadRange (c.arg 0) (c.arg 1)) (hh : ¬ s.ReadHeld c) (hd : RangeDenied c (c.arg 0) (c.arg 1)) :
    s.regReadCmd c = s.finishCmd c.id stDENIED 0 [] :=
  (if_neg (by rw [(regArgs_iff _ _).2 h]; decide)).trans ((if_neg hh).trans (if_pos ((regPriv_iff _ _ _).2 hd)))

/-- The next word of a read. -/
theorem regReadCmd_word (h : ¬ BadRange (c.arg 0) (c.arg 1)) (hh : ¬ s.ReadHeld c) (hd : ¬ RangeDenied c (c.arg 0) (c.arg 1)) :
    s.regReadCmd c = (s.cmdWord c.ctx (c.arg 0 + 4 * c.pos) c.priv).2.wordDone c (c.arg 1) 0 (leBytes 4 (s.cmdWord c.ctx (c.arg 0 + 4 * c.pos) c.priv).1) :=
  (if_neg (by rw [(regArgs_iff _ _).2 h]; decide)).trans ((if_neg hh).trans (if_neg fun hc => hd ((regPriv_iff _ _ _).1 hc)))

/-- The arguments or the payload bring the words of a write. -/
def InArgs (c : Cmd) : Prop := c.plen = 0 ∧ c.arg 1 ≤ 10

def BadWrite (c : Cmd) : Prop :=
  c.arg 0 % 4 ≠ 0 ∨ c.arg 1 = 0 ∨ 256 < c.arg 1 ∨ 0x40000 < c.arg 0 + 4 * c.arg 1 ∨ (¬ InArgs c ∧ c.plen ≠ 4 * c.arg 1)

theorem inArgs_iff (c : Cmd) : (c.plen == 0 && decide (c.arg 1 ≤ 10)) = true ↔ InArgs c := by
  rw [Bool.and_eq_true, beq_iff_eq, decide_eq_true_iff, InArgs]

theorem badWrite_iff (c : Cmd) : (!regArgs (c.arg 0) (c.arg 1) ∨ 0x40000 < c.arg 0 + 4 * c.arg 1
    ∨ (!(c.plen == 0 && decide (c.arg 1 ≤ 10)) && c.plen != 4 * c.arg 1) = true) ↔ BadWrite c := by
  have hargs : (!regArgs (c.arg 0) (c.arg 1)) = true ↔ BadRange (c.arg 0) (c.arg 1) := by
    rw [not_true_iff, Bool.eq_false_iff, ne_eq, regArgs_iff, not_not]
  have hpay : (!(c.plen == 0 && decide (c.arg 1 ≤ 10)) && c.plen != 4 * c.arg 1) = true ↔ ¬ InArgs c ∧ c.plen ≠ 4 * c.arg 1 := by
    rw [Bool.and_eq_true, not_true_iff, Bool.eq_false_iff, ne_eq, inArgs_iff, bne_iff_ne]
  rw [hargs, hpay, BadRange, BadWrite]
  by_cases hi : InArgs c
  · simp only [hi, not_true_eq_false, false_and, or_false]
    omega
  · simp only [hi, not_false_eq_true, true_and]
    omega

theorem regWriteCmd_bad (h : BadWrite c) : s.regWriteCmd c = s.finishCmd c.id stBAD_ARG 0 [] := by
  refine if_pos ?_
  simpa only [Bool.or_eq_true, decide_eq_true_iff, or_assoc] using (badWrite_iff c).2 h

theorem not_badWrite (h : ¬ BadWrite c) : ¬ (!regArgs (c.arg 0) (c.arg 1) || decide (0x40000 < c.arg 0 + 4 * c.arg 1)
    || (!(c.plen == 0 && decide (c.arg 1 ≤ 10)) && c.plen != 4 * c.arg 1)) = true := fun hc =>
  h ((badWrite_iff c).1 (by simpa only [Bool.or_eq_true, decide_eq_true_iff, or_assoc] using hc))

theorem regWriteCmd_denied (h : ¬ BadWrite c) (hd : RangeDenied c (c.arg 0) (c.arg 1)) : s.regWriteCmd c = s.finishCmd c.id stDENIED 0 [] :=
  (if_neg (not_badWrite h)).trans (if_pos ((regPriv_iff _ _ _).2 hd))

/-- The next word of a write. -/
theorem regWriteCmd_word (h : ¬ BadWrite c) (hd : ¬ RangeDenied c (c.arg 0) (c.arg 1)) :
    s.regWriteCmd c = (s.wordWrite c.ctx (c.arg 0 + 4 * c.pos) (if c.plen == 0 && decide (c.arg 1 ≤ 10) then c.arg (2 + c.pos)
      else ofLeBytes ((c.data.drop (4 * c.pos)).take 4)) c.priv).wordDone c (c.arg 1) (c.arg 1) [] :=
  (if_neg (not_badWrite h)).trans (if_neg fun hc => hd ((regPriv_iff _ _ _).1 hc))

-- A word is done

/-- The command has one more word; after the last one it has ended OK. -/
structure WordDone (c : Cmd) (n r0 : Nat) (bs : List Byte) (s u : State) : Prop where
  last : n = c.pos + 1 → Ended s u c 0x00 r0 (c.out ++ bs)
  next : c.pos + 1 < n → u.mbx = { s.mbx with
    cmds := s.mbx.cmds.map fun x => if x.id = c.id then { x with pos := x.pos + 1, out := x.out ++ bs } else x }

theorem wordDone_done (hcur : s.curCmd = some c) (hmbx : t.mbx = s.mbx) (n r0 : Nat) (bs : List Byte) : WordDone c n r0 bs s (t.wordDone c n r0 bs) where
  last := fun h => by
    rw [wordDone, if_pos (by omega)]
    exact finishCmd_ended hcur hmbx stOK r0 (c.out ++ bs)
  next := fun h => by
    rw [wordDone, if_neg (by omega), updCmd, setMbx, hmbx]

theorem wordDone_rd (t : State) (c : Cmd) (n r0 : Nat) (bs : List Byte) (a : Nat) : (t.wordDone c n r0 bs).rd a = t.rd a := by
  unfold wordDone
  split <;> rfl

theorem wordDone_only {T : List Comp} (hk : Kept T s t) (c : Cmd) (n r0 : Nat) (bs : List Byte) (hT : T ⊆ T ++ [.mbx] := by decide)
    (hm : [.mbx] ⊆ T ++ [.mbx] := by decide) : Only (T ++ [.mbx]) s (t.wordDone c n r0 bs) :=
  (wordDone_kept hm c n r0 bs (hk.mono hT)).only

-- The words that a read brings

theorem cmdWord_outside {k off : Nat} {priv : Bool} (h : inWindow off = false) : s.cmdWord k off priv = s.wordRead k off priv :=
  if_neg (by rw [h]; decide)

/-- A word of the submission queues. -/
theorem cmdWord_queue {k off : Nat} (priv : Bool) (h1 : 0x20000 ≤ off) (h2 : off < 0x22800) : s.cmdWord k off priv = (ofLeBytes (s.ramRead off 4), s) := by
  rw [cmdWord_outside (inWindow_below (by omega)), wordRead_beyond h1, hostValue, if_neg (by omega), if_neg (by omega), if_pos (by omega), ramValue,
    if_pos (.inl (by omega))]

theorem leBytes_ramRead (s : State) (a : Nat) : leBytes 4 (ofLeBytes (s.ramRead a 4)) = s.ramRead a 4 := by
  have hlen : (s.ramRead a 4).length = 4 := by simp only [ramRead, List.length_map, List.length_range]
  have h := leBytes_ofLeBytes (s.ramRead a 4)
  rwa [hlen] at h

/-- DEV_ID and EVT_HEAD read their words. -/
theorem wordRead_plain {off : Nat} (k : Nat) (priv : Bool) (h : off = aDEV_ID ∨ off = aEVT_HEAD) : s.wordRead k off priv = ((s.rd off).toNat, s) := by
  have hp : isPrivileged off = false := by obtain rfl | rfl := h <;> decide
  have hvalue : s.hostValue k off = (s.rd off).toNat := by
    have hlow : off < 0x10000 := by obtain rfl | rfl := h <;> decide
    rw [hostValue, if_pos hlow, unprivValue]
    obtain rfl | rfl := h
    · repeat rw [if_neg (by decide)]
    · repeat rw [if_neg (by decide)]
  have hlatch : s.hostLatch k off = s := by
    unfold hostLatch
    obtain rfl | rfl := h
    · repeat rw [if_neg (by decide)]
    · repeat rw [if_neg (by decide)]
  have hclear : s.hostClear off = s := by
    unfold hostClear
    obtain rfl | rfl := h
    · repeat rw [if_neg (by decide)]
    · repeat rw [if_neg (by decide)]
  rw [wordRead, if_neg (by rw [hp]; exact Bool.false_ne_true), if_neg (by rw [hp]; exact Bool.false_ne_true), hostRead, hlatch, hclear, hvalue]

/-- A line that has been fetched is found. -/
theorem withLine_find (ls : List Line) (l : Line) : ((withLine ls l).find? fun k => k.addr == l.addr) = some l := by
  have hnone {m : List Line} (hm : ∀ k ∈ m, k ∈ ls.filter fun k => k.addr != l.addr) : ((m ++ [l]).find? fun k => k.addr == l.addr) = some l := by
    have hno : (m.find? fun k => k.addr == l.addr) = none := List.find?_eq_none.2 fun k hk h => by
      have hne := (List.mem_filter.1 (hm k hk)).2
      rw [bne, h] at hne
      cases hne
    rw [List.find?_append, hno, Option.none_or]
    exact List.find?_cons_of_pos (beq_self_eq_true l.addr)
  unfold withLine
  dsimp only
  split
  next h =>
    rw [List.length_append, List.length_singleton] at h
    rw [List.drop_append_of_le_length (by omega)]
    exact hnone fun k hk => List.mem_of_mem_drop hk
  next => exact hnone fun k hk => hk

theorem fetchLine_line (s : State) (k a : Nat) : s.fetchLine k a = s.fetchLine k (a / 64 * 64) := by
  have h : a / 64 * 64 / 64 * 64 = a / 64 * 64 := by omega
  unfold fetchLine
  rw [h]

theorem memRead_part (s : State) {a m n : Nat} (i : Nat) (h : i + m ≤ n) : ((s.memRead a n).drop i).take m = s.memRead (a + i) m := by
  apply List.ext_getElem
  · simp only [memRead, List.length_take, List.length_drop, List.length_map, List.length_range]
    omega
  · intro j h1 h2
    simp only [memRead, List.getElem_take, List.getElem_drop, List.getElem_map, List.getElem_range, Nat.add_assoc]

/-- A word of the window whose line is not buffered is fetched from the memory die. -/
theorem cmdWord_fetched {k off : Nat} (priv : Bool) (hw : inWindow off = true) (h4 : s.dieAddr k off % 4 = 0) (hdie : s.dieAddr k off < 0x3C00000)
    (hline : s.lineOf k (s.dieAddr k off) = none) :
    leBytes 4 (s.cmdWord k off priv).1 = s.memRead (s.dieAddr k off) 4 ∧ Kept [.ctx] s (s.cmdWord k off priv).2 := by
  generalize ha : s.dieAddr k off = a at h4 hdie hline
  have hno : noFetch a = false := Bool.eq_false_iff.2 fun h => absurd (noFetch_iff.1 h).1 (by omega)
  have hdo : s.cmdWord k off priv = ((s.fetchLine k a).lineWord k a, s.fetchLine k a) := by
    unfold cmdWord
    rw [if_pos hw, ha]
    dsimp only
    rw [if_neg (by rw [hno]; decide), if_pos (by rw [hline]; rfl)]
  have hgot := fetchLine_only (s := s) (c := k) (b := a / 64 * 64) (by omega) (by omega)
  rw [← fetchLine_line] at hgot
  have hfound : (s.fetchLine k a).lineOf k a = some ⟨a / 64 * 64, s.memRead (a / 64 * 64) 64⟩ := by
    rw [lineOf, hgot.copy]
    exact withLine_find (s.copyOf k).lines ⟨a / 64 * 64, s.memRead (a / 64 * 64) 64⟩
  have hpart : ((s.memRead (a / 64 * 64) 64).drop (a % 64)).take 4 = s.memRead a 4 := by
    rw [s.memRead_part (a % 64) (by omega), Nat.div_add_mod']
  have hlen : (s.memRead a 4).length = 4 := by simp only [memRead, List.length_map, List.length_range]
  have hbytes := leBytes_ofLeBytes (s.memRead a 4)
  rw [hlen] at hbytes
  rw [hdo]
  refine ⟨?_, hgot.kept⟩
  rw [lineWord, hfound]
  exact (congrArg (fun l => leBytes 4 (ofLeBytes l)) hpart).trans hbytes

end State

theorem exec_regRead (s : State) : exec .regRead s = .next (s.onCmd (fun c => c.op == 0x10) s.regReadCmd) := rfl
theorem exec_regWrite (s : State) : exec .regWrite s = .next (s.onCmd (fun c => c.op == 0x11) s.regWriteCmd) := rfl

/-- Settles O47. -/
theorem registerCommands : Obligations.RegisterCommands := by
  intro s c off n inArgs badR badW held denied word page d here done
  have hread (h : s.Runs c 0x10) : exec .regRead s = .next (s.regReadCmd c) :=
    (exec_regRead s).trans (congrArg Host.Outcome.next (State.onCmd_of_runs h s.regReadCmd))
  have hwrite (h : s.Runs c 0x11) : exec .regWrite s = .next (s.regWriteCmd c) :=
    (exec_regWrite s).trans (congrArg Host.Outcome.next (State.onCmd_of_runs h s.regWriteCmd))
  have hend (h : s.curCmd = some c) (st : Nat) : Ended s (s.finishCmd c.id st 0 []) c st 0 [] ∧ Only [.mbx] s (s.finishCmd c.id st 0 []) :=
    State.finishCmd_after h (T := []) (.refl s) st 0 []
  have hdone {u : State} {r0 : Nat} {bs : List Byte} (h : State.WordDone c n r0 bs s u) : done u r0 bs := ⟨h.last, h.next⟩
  have hfree (hlow : 0x20000 ≤ off) : ¬ State.RangeDenied c off n := fun h => absurd h.1 (by omega)
  refine ⟨fun h hb => .of_eq ((hread h).trans (congrArg Host.Outcome.next (State.regReadCmd_bad hb))) (hend h.1 _),
    fun h hb hh => .of_eq ((hread h).trans (congrArg Host.Outcome.next (State.regReadCmd_held hb hh))) (hend h.1 _),
    fun h hb hh hd => .of_eq ((hread h).trans (congrArg Host.Outcome.next (State.regReadCmd_denied hb hh hd))) (hend h.1 _),
    fun h hb hh hpos h1 h2 => .of_eq ((hread h).trans (congrArg Host.Outcome.next (State.regReadCmd_word hb hh (hfree h1)))) ?queue,
    fun h hb hh hd hpos hp => .of_eq ((hread h).trans (congrArg Host.Outcome.next (State.regReadCmd_word hb hh hd))) ?plain,
    fun h hb hh hpos h1 h2 hdie hline => .of_eq ((hread h).trans (congrArg Host.Outcome.next (State.regReadCmd_word hb hh (hfree (by omega))))) ?window,
    fun h hb => .of_eq ((hwrite h).trans (congrArg Host.Outcome.next (State.regWriteCmd_bad hb))) (hend h.1 _),
    fun h hb hd => .of_eq ((hwrite h).trans (congrArg Host.Outcome.next (State.regWriteCmd_denied hb hd))) (hend h.1 _), fun h hb hpos h1 h2 => ?write⟩
  case queue =>
    rw [State.cmdWord_queue c.priv (by omega) (by omega), State.leBytes_ramRead]
    exact ⟨hdone (State.wordDone_done h.1 rfl n 0 _), State.wordDone_only (T := []) (.refl s) c n 0 _⟩
  case plain =>
    have hw : inWindow here = false := by obtain h | h := hp <;> rw [h] <;> decide
    rw [State.cmdWord_outside hw, State.wordRead_plain _ _ hp]
    exact ⟨hdone (State.wordDone_done h.1 rfl n 0 _), State.wordDone_only (T := []) (.refl s) c n 0 _⟩
  case window =>
    have h4 : off % 4 = 0 := by
      by_contra hc
      exact hb (.inl hc)
    have hw : inWindow here = true := decide_eq_true ⟨by omega, by omega⟩
    obtain ⟨hbytes, hkept⟩ := State.cmdWord_fetched (s := s) (k := c.ctx) (off := here) c.priv hw (show d % 4 = 0 by omega) hdie hline
    rw [hbytes]
    exact ⟨hdone (State.wordDone_done h.1 hkept.mbx_eq n 0 _), State.wordDone_only hkept c n 0 _⟩
  case write =>
    have hmn := State.midnight_of_vet h.2.2 (by rw [h.2.1]; decide)
    have hnot : ¬ s.WriteRefused here c.priv := by
      rw [State.WriteRefused, State.isPrivileged_below (by omega), State.inWindow_below (by omega), hmn]
      rintro (⟨hc, -⟩ | ⟨hc, -⟩ | hc) <;> cases hc
    have hword : (if c.plen == 0 && decide (c.arg 1 ≤ 10) then c.arg (2 + c.pos) else ofLeBytes ((c.data.drop (4 * c.pos)).take 4)) = word c.pos :=
      if_congr (State.inArgs_iff c) rfl rfl
    have hdo : s.wordWrite c.ctx here (word c.pos) c.priv = s.wr here (word c.pos) := by
      rw [State.wordWrite_taken hnot, State.isPrivileged_below (by omega), if_neg Bool.false_ne_true, State.hostWrite, if_pos (by omega),
        State.unprivStore_matrix _ (by omega) (by omega)]
    have hd : ¬ State.RangeDenied c off n := fun h => absurd h.2.1 (by omega)
    have hkept : Kept [.regs] s (s.wr here (word c.pos)) := State.wr_kept (by decide) _ _ (.refl s)
    refine .of_eq ((hwrite h).trans (congrArg Host.Outcome.next ((State.regWriteCmd_word hb hd).trans (by rw [hword, hdo]))))
      ⟨hdone (State.wordDone_done h.1 hkept.mbx_eq n n []), (State.wordDone_rd _ _ _ _ _ _).trans (s.rd_wr_same _ _), fun a ha => ?_,
        State.wordDone_only hkept c n n []⟩
    exact (State.wordDone_rd _ _ _ _ _ _).trans (s.rd_wr_other _ ha)

end Sys2Proof.Machine
end

section
/-! LOG_READ (R427): its areas, and the records that a scan without a filter returns (O48). -/

namespace Sys2Proof.Machine

theorem Ended.congr_r0 {s t : State} {c : Cmd} {st r0 r1 : Nat} {out : List Byte} (h : Ended s t c st r0 out) (hr : r0 % 2 ^ 32 = r1 % 2 ^ 32) :
    Ended s t c st r1 out := by
  rw [Ended, ← hr]
  exact h

namespace State

variable {s : State} {c : Cmd}

-- Areas

theorem logCmd_bad (h : s.Runs c 0x50) (hbad : 3 < c.arg 0 % 16) {area : Nat} (harea : area ≤ 3) (f : Cmd → State) :
    s.logCmd area f = s.finishCmd c.id stBAD_ARG 0 [] := by
  obtain ⟨hcur, hop, hvet⟩ := h
  refine (onCmd_taken hcur ?_ hvet _).trans (if_neg (by omega))
  rw [hop, decide_eq_true hbad, Bool.or_true]
  rfl

theorem logCmd_area (h : s.Runs c 0x50) {area : Nat} (harea : c.arg 0 % 16 = area) (f : Cmd → State) : s.logCmd area f = f c := by
  obtain ⟨hcur, hop, hvet⟩ := h
  refine (onCmd_taken hcur ?_ hvet _).trans (if_pos harea)
  rw [hop, harea, beq_self_eq_true, Bool.true_or]
  rfl

-- Records of the lifetime area

/-- ARG1 and RLEN that no record has. -/
def BadPart (c : Cmd) : Prop := c.arg 1 % 4 ≠ 0 ∨ 0x8000 ≤ c.arg 1 ∨ c.rlen % 4 ≠ 0

theorem logRecord_bad (h : BadPart c) (base : Nat) : s.logRecord c base = s.finishCmd c.id stBAD_ARG 0 [] := if_pos h

theorem logRecord_read (h : ¬ BadPart c) (base : Nat) : s.logRecord c base = s.finishCmd c.id stOK (s.memNat (base + 16) 4)
    (s.memRead (base + c.arg 1) (if 0x8000 < c.arg 1 + c.rlen then 0x8000 - c.arg 1 else c.rlen)) := if_neg h

theorem logSnapshot_bad (h : 55 < c.arg 3) : s.logSnapshot c = s.finishCmd c.id stBAD_ARG 0 [] := if_pos h

theorem logSnapshot_none (h : c.arg 3 ≤ 55) (hn : s.get fLIFE_SNAPS ≤ c.arg 3) : s.logSnapshot c = s.finishCmd c.id stREFUSED 0 [] :=
  (if_neg (by omega)).trans (if_pos hn)

theorem logSnapshot_read (h : c.arg 3 ≤ 55) (hn : c.arg 3 < s.get fLIFE_SNAPS) :
    s.logSnapshot c = s.logRecord c (lifeSlot (8 + (s.life.nextSnap + 55 - c.arg 3) % 56)) := (if_neg (by omega)).trans (if_neg (by omega))

-- The scan of the events

theorem logScan_stop {cls : Option Nat} {fuel room seq : Nat} (h : room = 0 ∨ seqNewer (s.rd aEVT_HEAD).toNat seq = false) :
    s.logScan cls fuel room seq = (seq, []) := by
  cases fuel with
  | zero => rfl
  | succ fuel => exact if_pos (h.imp_right fun hn => by rw [hn]; rfl)

theorem logScan_hit {fuel room seq : Nat} (hroom : room ≠ 0) (hn : seqNewer (s.rd aEVT_HEAD).toNat seq = true) :
    s.logScan none (fuel + 1) room seq = ((s.logScan none fuel (room - 1) ((seq + 1) % 2 ^ 32)).1,
      s.memRead (evtAddr seq) 64 ++ (s.logScan none fuel (room - 1) ((seq + 1) % 2 ^ 32)).2) :=
  if_neg (not_or.2 ⟨hroom, by rw [hn]; decide⟩)

/-- As many records as there is room for, where that many are in the log. -/
theorem logScan_full (room : Nat) : ∀ fuel seq : Nat, room ≤ fuel → seq < 2 ^ 32 →
    (∀ i < room, seqNewer (s.rd aEVT_HEAD).toNat ((seq + i) % 2 ^ 32) = true) →
    s.logScan none fuel room seq = ((seq + room) % 2 ^ 32, (List.range room).flatMap fun i => s.memRead (evtAddr ((seq + i) % 2 ^ 32)) 64) := by
  induction room with
  | zero =>
    intro fuel seq _ hseq _
    rw [logScan_stop (.inl rfl), Nat.add_zero, Nat.mod_eq_of_lt hseq]
    rfl
  | succ room ih =>
    intro fuel seq hfuel hseq hnew
    obtain ⟨fuel, rfl⟩ : ∃ f, fuel = f + 1 := ⟨fuel - 1, by omega⟩
    have hmod (i : Nat) : ((seq + 1) % 2 ^ 32 + i) % 2 ^ 32 = (seq + (i + 1)) % 2 ^ 32 := by omega
    have hfirst := hnew 0 (by omega)
    rw [Nat.add_zero, Nat.mod_eq_of_lt hseq] at hfirst
    have hrest := ih fuel ((seq + 1) % 2 ^ 32) (by omega) (Nat.mod_lt _ (by decide)) fun i hi => by
      rw [hmod]
      exact hnew (i + 1) (by omega)
    rw [logScan_hit (Nat.succ_ne_zero room) hfirst, Nat.succ_sub_one, hrest, hmod, List.range_succ_eq_map, List.flatMap_cons, List.flatMap_map]
    simp only [hmod, Nat.succ_eq_add_one, Nat.add_zero, Nat.mod_eq_of_lt hseq]

/-- The first record examined, and how many RLEN holds. -/
def scanStart (s : State) (c : Cmd) : Nat := if seqNewer (s.rd aEVT_OLDEST).toNat (c.arg 1) then (s.rd aEVT_OLDEST).toNat else c.arg 1
def scanRoom (c : Cmd) : Nat := if c.rlen / 64 < 16 then c.rlen / 64 else 16

/-- What the area EVENTS ends with. -/
theorem logEvents_of {e : Nat} {bs : List Byte}
    (h : s.logScan (if bitOf (c.arg 2) 8 then some (c.arg 2 % 256) else none) 1024 (scanRoom c) (s.scanStart c) = (e, bs)) :
    s.logEvents c = s.finishCmd c.id stOK (if e = s.scanStart c then c.arg 1 else e) bs := by
  unfold scanStart scanRoom at *
  unfold logEvents
  dsimp only
  rw [h]

theorem logEvents_empty (h : scanRoom c = 0 ∨ seqNewer (s.rd aEVT_HEAD).toNat (s.scanStart c) = false) :
    s.logEvents c = s.finishCmd c.id stOK (c.arg 1) [] := by
  rw [logEvents_of (logScan_stop h), if_pos rfl]

theorem logEvents_full (hcls : bitOf (c.arg 2) 8 = false) (hroom : 0 < scanRoom c) (hstart : s.scanStart c < 2 ^ 32)
    (hnew : ∀ i < scanRoom c, seqNewer (s.rd aEVT_HEAD).toNat ((s.scanStart c + i) % 2 ^ 32) = true) :
    s.logEvents c = s.finishCmd c.id stOK ((s.scanStart c + scanRoom c) % 2 ^ 32)
      ((List.range (scanRoom c)).flatMap fun i => s.memRead (evtAddr ((s.scanStart c + i) % 2 ^ 32)) 64) := by
  have hle : scanRoom c ≤ 16 := by
    unfold scanRoom
    split <;> omega
  have hscan := logScan_full (scanRoom c) 1024 (s.scanStart c) (by omega) hstart hnew
  have hevents := logEvents_of ((congrArg (s.logScan · 1024 (scanRoom c) (s.scanStart c)) (if_neg (by rw [hcls]; decide))).trans hscan)
  rw [hevents, if_neg (by omega)]

end State

theorem exec_logReadEvents (s : State) : exec .logReadEvents s = .next (s.logCmd 0 s.logEvents) := rfl
theorem exec_logReadTail (s : State) : exec .logReadTail s = .next (s.logCmd 1 fun c => s.finishCmd c.id stOK 0 s.evt.tail) := rfl
theorem exec_logReadLifetime (s : State) : exec .logReadLifetime s = .next (s.logCmd 2 fun c => s.logRecord c lifeBase) := rfl
theorem exec_logReadSnapshot (s : State) : exec .logReadSnapshot s = .next (s.logCmd 3 s.logSnapshot) := rfl

/-- A LOG_READ that ends with a status, RESULT0 and a payload, and touches nothing but the mailbox. -/
structure LogEnds (i : Instr) (s : State) (c : Cmd) (st r0 : Nat) (out : List Byte) : Prop where
  done : Completes i s (fun u => Ended s u c st r0 out ∧ Only [.mbx] s u)

theorem logEnds_of {i : Instr} {s : State} {c : Cmd} {st r0 : Nat} {out : List Byte} {area : Nat} {f : Cmd → State} (h : s.Runs c 0x50)
    (hi : exec i s = .next (s.logCmd area f)) (hf : s.logCmd area f = s.finishCmd c.id st r0 out) : LogEnds i s c st r0 out :=
  ⟨.of_eq (hi.trans (congrArg Host.Outcome.next hf)) (State.finishCmd_after h.1 (T := []) (.refl s) st r0 out)⟩

/-- Settles O48. -/
theorem logReads : Obligations.LogReads := by
  intro s c area ends o bad n k snap old head start room h
  refine ⟨fun hbad i hi => ?badArea, fun ha => (logEnds_of h (exec_logReadTail s) (State.logCmd_area h ha _)).done,
    fun ha hb => (logEnds_of h (exec_logReadLifetime s) ((State.logCmd_area h ha _).trans (State.logRecord_bad hb _))).done,
    fun ha hb => (logEnds_of h (exec_logReadLifetime s) ((State.logCmd_area h ha _).trans (State.logRecord_read hb _))).done,
    fun ha hk => (logEnds_of h (exec_logReadSnapshot s) ((State.logCmd_area h ha _).trans (State.logSnapshot_bad hk))).done,
    fun ha hk hn => (logEnds_of h (exec_logReadSnapshot s) ((State.logCmd_area h ha _).trans (State.logSnapshot_none hk hn))).done,
    fun ha hk hn hb => (logEnds_of h (exec_logReadSnapshot s) ((State.logCmd_area h ha _).trans ((State.logSnapshot_read hk hn).trans
      (State.logRecord_bad hb _)))).done,
    fun ha hk hn hb => (logEnds_of h (exec_logReadSnapshot s) ((State.logCmd_area h ha _).trans ((State.logSnapshot_read hk hn).trans
      (State.logRecord_read hb _)))).done,
    fun ha hn => (logEnds_of h (exec_logReadEvents s) ((State.logCmd_area h ha _).trans (State.logEvents_empty hn))).done,
    fun ha hcls hroom hnew hstart => ?events⟩
  case badArea =>
    simp only [List.mem_cons, List.not_mem_nil, or_false] at hi
    obtain rfl | rfl | rfl | rfl := hi
    · exact (logEnds_of h (exec_logReadEvents s) (State.logCmd_bad h hbad (by decide) _)).done
    · exact (logEnds_of h (exec_logReadTail s) (State.logCmd_bad h hbad (by decide) _)).done
    · exact (logEnds_of h (exec_logReadLifetime s) (State.logCmd_bad h hbad (by decide) _)).done
    · exact (logEnds_of h (exec_logReadSnapshot s) (State.logCmd_bad h hbad (by decide) _)).done
  case events =>
    have hdone := (logEnds_of h (exec_logReadEvents s) ((State.logCmd_area h ha _).trans (State.logEvents_full hcls hroom hstart hnew))).done
    obtain ⟨u, hu, hend, honly⟩ := hdone
    exact ⟨u, hu, hend.congr_r0 (Nat.mod_mod _ _), honly⟩

end Sys2Proof.Machine
end

section
/-! WHAT ENDS AN ELEVATION, A NONCE AND A LOCKOUT, and test entry (R332, R334, R337, R339, R342; O50). -/

namespace Sys2Proof.Machine

theorem Only.widen {T U : List Comp} {s t : State} (h : Only T s t) (hT : T ⊆ U := by decide) : Only U s t :=
  ⟨h.1, fun c hc => h.2 c fun hm => hc (hT hm)⟩

/-- Erasing a key leaves the first entry of another. -/
theorem find?_tabErase {α : Type} (t : Tab α) {k e : Nat} (h : e ≠ k) (b : Bool) :
    ((tabErase t k).find? fun p => p.1 == e && b) = t.find? fun p => p.1 == e && b := by
  induction t with
  | nil => rfl
  | cons p t ih =>
    obtain ⟨i, v⟩ := p
    rw [tabErase, List.find?_cons]
    by_cases hik : i = k
    · rw [if_pos hik, ih, beq_false_of_ne (by rw [hik]; exact Ne.symm h)]
      rfl
    · rw [if_neg hik, List.find?_cons, ih]

namespace State

variable {s t : State} {c : Cmd}

-- Elevations

theorem endElev_nonces (s : State) (k : Nat) : (s.endElev k).sec.nonces = s.sec.nonces := rfl

theorem elevated_none (h : s.sec.elev = []) (k : Nat) : s.elevated k = false := by
  rw [elevated, h]
  rfl

theorem dropAllCmd_elevated (h : s.elevated c.ctx = true) : s.dropAllCmd c = s.endAllElev.finishCmd c.id stOK 0 [] := if_pos h

theorem dropAllCmd_denied (h : s.elevated c.ctx = false) : s.dropAllCmd c = s.finishCmd c.id stDENIED 0 [] := if_neg (by rw [h]; decide)

/-- A context's elevation has run out. -/
def ElevDue (s : State) (k : Nat) : Prop :=
  s.elevated k = true ∧ tabGet (fun _ => 0) s.sec.used k + s.get fSEC_ELEV_TMO * 60 * tps ≤ s.nw.tick

theorem elevTimeout_due {k : Nat} (h : s.ElevDue k) : s.elevTimeout k = s.endElev k := if_pos h
theorem elevTimeout_early {k : Nat} (h : ¬ s.ElevDue k) : s.elevTimeout k = s := if_neg h

-- Nonces

theorem dropNonce_other (s : State) {k e : Nat} (h : e ≠ k) : (s.dropNonce k).nonce e = s.nonce e := by
  have hlive : (s.dropNonce k).nonceLive e = s.nonceLive e :=
    congrArg (fun x => decide (s.nw.tick < x + 60 * tps)) (tabGet_erase_other (fun _ => 0) s.sec.nonceAt h)
  have hfind : ((s.dropNonce k).sec.nonces.find? fun p => p.1 == e && s.nonceLive e) = s.sec.nonces.find? fun p => p.1 == e && s.nonceLive e :=
    find?_tabErase s.sec.nonces h (s.nonceLive e)
  rw [nonce, hlive, hfind, nonce]

-- Test entry (R342)

/-- The credentials after a test entry. -/
def wiped (x : Sec) : Sec :=
  { x with
    elev := [], used := [], nonces := [], nonceAt := [], pw0 := 0, pw1 := 0, held := true, secrets := false, fwKey := none
    scannedEver := x.scannedEver || x.fieldLock }

/-- A command that started with a privilege and is under way. -/
def privilegedRun (c : Cmd) : Bool := c.priv && opPrivileged c.op && (c.phase == .running || c.phase == .long)

/-- The mailbox without the privileged commands that are under way. -/
def withoutRuns (x : Mbx) : Mbx :=
  { x with
    cmds := x.cmds.filter fun c => !privilegedRun c
    cur := if x.cmds.any fun c => privilegedRun c && x.cur == some c.id then none else x.cur }

/-- The part as a test entry leaves it, still under power. -/
def testEntered (s : State) : State :=
  let s := s.midnightEnter 7
  let s := s.setSec (wiped s.sec)
  { s with nw := { s.nw with scanned := true }, mbx := withoutRuns s.mbx }

theorem testEntry_closed (h : s.sec.fieldLock = true ∧ s.sec.dbg = false) : s.testEntry = s := if_pos (by rw [h.1, h.2]; rfl)

theorem testEntry_open (h : ¬ (s.sec.fieldLock = true ∧ s.sec.dbg = false)) : s.testEntry = s.testEntered.powerEnd := by
  refine if_neg fun hc => h ?_
  rw [Bool.and_eq_true, not_true_iff] at hc
  exact hc

/-- A part that a test entry has taken out of functional use. -/
structure Scanned (s u : State) : Prop where
  sec : u.sec = wiped s.sec
  scanned : u.nw.scanned = true
  mbx : ∃ x, u.mbx = withoutRuns x
  midnight : u.midnight = true
  cause : s.midnight = false → u.get fNW_MN_CAUSE = 7
  cfg : u.cfg = s.cfg
  rule : u.rule = s.rule
  ring : u.ring = s.ring
  ptp : u.ptp = s.ptp

theorem testEntered_scanned (s : State) : Scanned s s.testEntered := by
  have hk := midnightEnter_kept (T := [.regs, .pins, .icu, .evt, .nw, .mem, .cap, .life, .pwr, .obs, .chans, .banks, .boost, .mtx, .spi, .adc, .sto,
    .mbx, .bist, .fspi]) (by decide) 7 (.refl s)
  have hmn := s.midnightEnter_midnight (k := 7) (by decide) (by decide)
  have hcause (h : s.midnight = false) : (s.midnightEnter 7).get fNW_MN_CAUSE = 7 := (midnightEnter_latched h (by decide)).cause
  unfold testEntered
  generalize s.midnightEnter 7 = t at hk hmn hcause
  exact
    { sec := congrArg wiped hk.sec_eq
      scanned := rfl
      mbx := ⟨t.mbx, rfl⟩
      midnight := hmn
      cause := hcause
      cfg := hk.cfg_eq
      rule := hk.rule_eq
      ring := hk.ring_eq
      ptp := hk.ptp_eq }

/-- The end of power good leaves what a test entry has done. -/
theorem Scanned.powerEnd (h : Scanned s t) : Scanned s t.powerEnd := by
  have hk := powerEnd_kept (T := [.regs, .pins, .pwr, .obs, .chans, .banks, .mtx, .sto]) (by decide) (.refl t)
  have hr := powerEnd_wr (R := [(0x204, 0), (0x200C, 16), (0x2900, 0), (0x6000, 0), (0x6028, 0)]) (by decide) (.refl t)
  have hcause : t.powerEnd.get fNW_MN_CAUSE = t.get fNW_MN_CAUSE := hr.get fNW_MN_CAUSE
  exact
    { sec := hk.sec_eq.trans h.sec
      scanned := by rw [hk.nw_eq, h.scanned]
      mbx := by rw [hk.mbx_eq]; exact h.mbx
      midnight := by
        have hm := h.midnight
        rw [State.midnight] at hm ⊢
        rw [hcause, hm]
      cause := fun hm => hcause.trans (h.cause hm)
      cfg := hk.cfg_eq.trans h.cfg
      rule := hk.rule_eq.trans h.rule
      ring := hk.ring_eq.trans h.ring
      ptp := hk.ptp_eq.trans h.ptp }

theorem not_under_way {x : Mbx} {z : Cmd} (hz : z ∈ (withoutRuns x).cmds) (hp : z.priv = true) (ho : opPrivileged z.op = true) :
    z.phase ≠ .running ∧ z.phase ≠ .long := by
  have hnot := (List.mem_filter.1 hz).2
  rw [privilegedRun, hp, ho, not_true_iff] at hnot
  constructor
  · intro hph
    rw [hph] at hnot
    cases hnot
  · intro hph
    rw [hph] at hnot
    cases hnot

end State

theorem exec_drop (s : State) : exec .drop s = .next (s.onCmd (fun c => c.op == opDROP && !bitOf (c.arg 0) 0) s.dropCmd) := rfl
theorem exec_dropAll (s : State) : exec .dropAll s = .next (s.onCmd (fun c => c.op == opDROP && bitOf (c.arg 0) 0) s.dropAllCmd) := rfl
theorem exec_elevationTimeout (d : Fin 10) (s : State) : exec (.elevationTimeout d) s = .next (s.elevTimeout d.val) := rfl
theorem exec_nonceExpiry (n : Fin 9) (s : State) : exec (.nonceExpiry n) s = if s.nonceLive n.val then .next s else .next (s.dropNonce n.val) := rfl
theorem exec_lockoutEnd (s : State) : exec .lockoutEnd s = .next (if s.lockedOut then s else s.setSec { s.sec with lockEnd := 0 }) := rfl
theorem exec_testEntry (s : State) : exec .testEntry s = .next s.testEntry := rfl

/-- Settles O50. -/
theorem elevationEnds : Obligations.ElevationEnds := by
  intro s c d n due closed
  have hdrop (h : s.Runs c 0x61) (hb : bitOf (c.arg 0) 0 = false) : exec .drop s = .next (s.dropCmd c) :=
    (exec_drop s).trans (congrArg Host.Outcome.next (State.onCmd_taken h.1 (by rw [h.2.1, hb]; rfl) h.2.2 _))
  have hall (h : s.Runs c 0x61) (hb : bitOf (c.arg 0) 0 = true) : exec .dropAll s = .next (s.dropAllCmd c) :=
    (exec_dropAll s).trans (congrArg Host.Outcome.next (State.onCmd_taken h.1 (by rw [h.2.1, hb]; rfl) h.2.2 _))
  refine ⟨fun h hb => .of_eq (hdrop h hb) ?drop, fun h hb he => .of_eq ((hall h hb).trans (congrArg Host.Outcome.next (State.dropAllCmd_elevated he))) ?all,
    fun h hb he => .of_eq ((hall h hb).trans (congrArg Host.Outcome.next (State.dropAllCmd_denied he))) (State.finishCmd_after h.1 (T := []) (.refl s) _ _ _),
    fun h => .of_eq ((exec_elevationTimeout d s).trans (congrArg Host.Outcome.next (State.elevTimeout_due h)))
      ⟨fun e => State.endElev_elevated s d e, rfl, (State.endElev_kept (T := [.sec]) (by decide) _ (.refl s)).only⟩,
    fun h => .of_eq (exec_elevationTimeout d s) (State.elevTimeout_early h),
    fun h => .of_eq ((exec_nonceExpiry n s).trans (if_neg (by rw [h]; decide)))
      ⟨s.dropNonce_nonce n, fun e he => s.dropNonce_other he, rfl, (State.dropNonce_kept (T := [.sec]) (by decide) _ (.refl s)).only⟩,
    fun h => .of_eq ((exec_nonceExpiry n s).trans (if_pos h)) rfl,
    fun h => .of_eq ((exec_lockoutEnd s).trans (congrArg Host.Outcome.next (if_pos h))) rfl,
    fun h => .of_eq ((exec_lockoutEnd s).trans (congrArg Host.Outcome.next (if_neg (by rw [h]; decide))))
      ⟨decide_eq_false (Nat.not_lt_zero _), rfl, (State.setSec_kept (T := [.sec]) (by decide) { s.sec with lockEnd := 0 } id id le_rfl (.refl s)).only⟩,
    fun h => .of_eq (exec_testEntry s) (State.testEntry_closed h),
    fun h => .of_eq ((exec_testEntry s).trans (congrArg Host.Outcome.next (State.testEntry_open h))) ?test⟩
  case drop =>
    obtain ⟨hend, honly⟩ := State.finishCmd_after h.1 (State.endElev_kept (T := [.sec]) (by decide) c.ctx (.refl s)) stOK 0 []
    exact ⟨hend, fun e => State.endElev_elevated s c.ctx e, rfl, honly.widen⟩
  case all =>
    obtain ⟨hend, honly⟩ := State.finishCmd_after h.1 (State.endAllElev_kept (T := [.sec]) (by decide) (.refl s)) stOK 0 []
    exact ⟨hend, fun e => rfl, rfl, honly.widen⟩
  case test =>
    have hs := s.testEntered_scanned.powerEnd
    have hoff := s.testEntered.powerEnd_unpowered.1
    obtain ⟨x, hx⟩ := hs.mbx
    generalize s.testEntered.powerEnd = u at hs hoff hx
    exact ⟨State.elevated_none (congrArg Sec.elev hs.sec), congrArg Sec.nonces hs.sec, congrArg Sec.pw0 hs.sec, congrArg Sec.pw1 hs.sec,
      congrArg Sec.held hs.sec, congrArg Sec.secrets hs.sec, congrArg Sec.fwKey hs.sec, hs.scanned, congrArg Sec.scannedEver hs.sec,
      fun z hz => State.not_under_way (hx ▸ hz), hs.midnight, hs.cause, hoff.good, hoff.lamps, hoff.outs, hs.cfg, hs.rule, hs.ring, hs.ptp⟩

end Sys2Proof.Machine
end

section
/-! ELEVATE, CHALLENGE AND RESPOND (R334-R341): refusals, nonces, responses and lockouts (O51). -/

namespace Sys2Proof.Machine

/-- The first entry of a key just inserted. -/
theorem find?_tabInsert_same {α : Type} (t : Tab α) {k : Nat} (v : α) (h : ∀ p ∈ t, p.1 ≠ k) :
    ((tabInsert t k v).find? fun p => p.1 == k && true) = some (k, v) := by
  induction t with
  | nil => rw [tabInsert, List.find?_cons_of_pos (by rw [beq_self_eq_true, Bool.and_true])]
  | cons p t ih =>
    obtain ⟨i, w⟩ := p
    have hi : i ≠ k := h _ List.mem_cons_self
    rw [tabInsert]
    split
    · rw [List.find?_cons_of_pos (by rw [beq_self_eq_true, Bool.and_true])]
    · rw [List.find?_cons_of_neg (by rw [beq_false_of_ne hi]; decide), ih fun p hp => h p (List.mem_cons_of_mem _ hp)]

/-- Inserting a key leaves the first entry of another. -/
theorem find?_tabInsert_other {α : Type} (t : Tab α) {k e : Nat} (v : α) (h : e ≠ k) (b : Bool) :
    ((tabInsert t k v).find? fun p => p.1 == e && b) = t.find? fun p => p.1 == e && b := by
  have hskip (l : Tab α) : (((k, v) :: l).find? fun p => p.1 == e && b) = l.find? fun p => p.1 == e && b :=
    List.find?_cons_of_neg (by rw [beq_false_of_ne (Ne.symm h), Bool.false_and]; decide)
  induction t with
  | nil => rw [tabInsert, hskip]
  | cons p t ih =>
    obtain ⟨i, w⟩ := p
    rw [tabInsert]
    split
    · rw [hskip]
    · rw [List.find?_cons, ih, List.find?_cons]

namespace State

variable {s t : State} {c : Cmd} {k : Nat}

-- Nonces

theorem nonceLive_congr (hat : t.sec.nonceAt = s.sec.nonceAt) (hnw : t.nw = s.nw) (e : Nat) : t.nonceLive e = s.nonceLive e := by
  rw [nonceLive, hat, hnw, nonceLive]

theorem nonce_congr (hn : t.sec.nonces = s.sec.nonces) (hat : t.sec.nonceAt = s.sec.nonceAt) (hnw : t.nw = s.nw) (e : Nat) : t.nonce e = s.nonce e := by
  rw [nonce, hn, nonceLive_congr hat hnw, nonce]

theorem freeBytes_length (n : Nat) : ∀ s : State, (s.freeBytes n).1.length = n := by
  induction n with
  | zero => exact fun _ => rfl
  | succ n ih => exact fun s => congrArg (· + 1) (ih s.fresh.2)

/-- A nonce of a purpose, drawn at this tick. -/
def drawn (s : State) (k purpose : Nat) (m : List Byte) : State :=
  s.setSec { s.sec with nonces := tabInsert (tabErase s.sec.nonces k) k (purpose, m), nonceAt := tabSet (fun _ => 0) s.sec.nonceAt k s.nw.tick }

theorem challenge_eq (s : State) (k purpose : Nat) :
    s.challenge k purpose = ((s.freeBytes 32).1, (s.freeBytes 32).2.drawn k purpose (s.freeBytes 32).1) := rfl

theorem drawn_nonce (s : State) (k purpose : Nat) (m : List Byte) : (s.drawn k purpose m).nonce k = some (purpose, m) := by
  have hlive : (s.drawn k purpose m).nonceLive k = true := by
    have hat : tabGet (fun _ => 0) (s.drawn k purpose m).sec.nonceAt k = s.nw.tick := tabGet_set_same (fun _ => 0) s.sec.nonceAt k s.nw.tick
    rw [nonceLive, hat, decide_eq_true_iff]
    exact Nat.lt_add_of_pos_right (by decide)
  have hfind : ((s.drawn k purpose m).sec.nonces.find? fun p => p.1 == k && true) = some (k, purpose, m) :=
    find?_tabInsert_same (tabErase s.sec.nonces k) (purpose, m) (erase_no_key s.sec.nonces k)
  rw [nonce, hlive, hfind]
  rfl

theorem drawn_nonce_other (s : State) {k e : Nat} (purpose : Nat) (m : List Byte) (h : e ≠ k) : (s.drawn k purpose m).nonce e = s.nonce e := by
  have hlive : (s.drawn k purpose m).nonceLive e = s.nonceLive e :=
    congrArg (fun x => decide (s.nw.tick < x + 60 * tps)) (tabGet_set_other (fun _ => 0) s.sec.nonceAt s.nw.tick h)
  have hfind : ((s.drawn k purpose m).sec.nonces.find? fun p => p.1 == e && s.nonceLive e) = s.sec.nonces.find? fun p => p.1 == e && s.nonceLive e :=
    (find?_tabInsert_other (tabErase s.sec.nonces k) (purpose, m) h _).trans (find?_tabErase s.sec.nonces h _)
  rw [nonce, hlive, hfind, nonce]

-- SEC under test or failed (R408, R410)

theorem secOut_tested (h : s.bist.cur = some 0x20) : s.secOut = some (stDEFERRED, s.bistWait 0x20) := if_pos ((s.underTest_iff bkSEC).2 h)

theorem secOut_failed (h : ¬ s.bist.cur = some 0x20) (hf : s.sec.failed = true) : s.secOut = some (stFAULT, 0) :=
  (if_neg fun hc => h ((s.underTest_iff bkSEC).1 hc)).trans (if_pos hf)

theorem secOut_up (h : s.bist.cur ≠ some 0x20 ∧ s.sec.failed = false) : s.secOut = none :=
  (if_neg fun hc => h.1 ((s.underTest_iff bkSEC).1 hc)).trans (if_neg (by rw [h.2]; decide))

-- ELEVATE (R335, R336, R339)

theorem elevateCmd_out {st r0 : Nat} (h : s.secOut = some (st, r0)) : s.elevateCmd c = s.finishCmd c.id st r0 [] := by
  unfold elevateCmd
  rw [h]

theorem elevateCmd_method (h : s.secOut = none) (hm : c.arg 0 % 256 ≠ 1) : s.elevateCmd c = s.finishCmd c.id stBAD_ARG 0 [] := by
  unfold elevateCmd
  rw [h]
  exact if_pos hm

theorem elevateCmd_ring (h : s.secOut = none) (hm : c.arg 0 % 256 = 1) (hctx : c.ctx ≠ 0) (hring : s.flag fSEC_RING_PW = false) :
    s.elevateCmd c = s.finishCmd c.id stREFUSED 0 [] := by
  unfold elevateCmd
  rw [h]
  exact (if_neg (not_not_intro hm)).trans (if_pos ⟨hctx, not_true_iff.2 hring⟩)

theorem elevateCmd_locked (h : s.secOut = none) (hm : c.arg 0 % 256 = 1) (hctx : c.ctx = 0) (hlock : s.lockedOut = true) :
    s.elevateCmd c = s.finishCmd c.id stDENIED s.lockLeft [] := by
  unfold elevateCmd
  rw [h]
  exact (if_neg (not_not_intro hm)).trans ((if_neg fun hc => hc.1 hctx).trans (if_pos hlock))

-- CHALLENGE (R337)

/-- DEBUG is not offered while Dawn is held with FW_NONE (R377). -/
def DebugHeld (s : State) (k : Nat) : Prop := k = 2 ∧ s.pstate = 0 ∧ s.get fPWR_HOLD = 1

theorem challengeCmd_out {st r0 : Nat} (h : s.secOut = some (st, r0)) : s.challengeCmd c k = s.finishCmd c.id st r0 [] := by
  unfold challengeCmd
  rw [h]

theorem challengeCmd_bad (h : s.secOut = none) (hbad : c.arg 0 % 256 ≠ k ∨ (c.ctx = 0 ∧ c.rlen < 32)) :
    s.challengeCmd c k = s.finishCmd c.id stBAD_ARG 0 [] := by
  unfold challengeCmd
  rw [h]
  exact if_pos hbad

theorem challengeCmd_denied (h : s.secOut = none) (hgood : ¬ (c.arg 0 % 256 ≠ k ∨ (c.ctx = 0 ∧ c.rlen < 32))) (hh : ¬ s.DebugHeld k) (hk : k = 2)
    (he : s.elevated c.ctx = false) : s.challengeCmd c k = s.finishCmd c.id stDENIED 0 [] := by
  unfold challengeCmd
  rw [h]
  exact (if_neg hgood).trans ((if_neg hh).trans (if_pos ⟨hk, not_true_iff.2 he⟩))

theorem challengeCmd_drawn (h : s.secOut = none) (hgood : ¬ (c.arg 0 % 256 ≠ k ∨ (c.ctx = 0 ∧ c.rlen < 32))) (hh : ¬ s.DebugHeld k)
    (he : k = 2 → s.elevated c.ctx = true) :
    s.challengeCmd c k = ((s.freeBytes 32).2.drawn c.ctx k (s.freeBytes 32).1).finishCmd c.id stOK 60 (s.freeBytes 32).1 := by
  unfold challengeCmd
  rw [h]
  refine (if_neg hgood).trans ((if_neg hh).trans ((if_neg fun hc => ?_).trans ?_))
  · rw [he hc.1] at hc
    exact Bool.false_ne_true hc.2
  · rw [challenge_eq]

-- RESPOND (R337, R339, R341)

theorem respondCmd_out {st r0 : Nat} (h : s.secOut = some (st, r0)) : s.respondCmd c k = s.finishCmd c.id st r0 [] := by
  unfold respondCmd
  rw [h]

theorem respondCmd_bad (h : s.secOut = none) (hbad : c.arg 0 % 256 ≠ k) : s.respondCmd c k = s.finishCmd c.id stBAD_ARG 0 [] := by
  unfold respondCmd
  rw [h]
  exact if_pos hbad

theorem respondCmd_locked (h : s.secOut = none) (hk : c.arg 0 % 256 = k) (hh : ¬ s.DebugHeld k) (hlock : s.lockedOut = true) :
    s.respondCmd c k = s.finishCmd c.id stDENIED s.lockLeft [] := by
  unfold respondCmd
  rw [h]
  exact (if_neg (not_not_intro hk)).trans ((if_neg hh).trans (if_pos hlock))

theorem respondCmd_none (h : s.secOut = none) (hk : c.arg 0 % 256 = k) (hh : ¬ s.DebugHeld k) (hlock : s.lockedOut = false)
    (hn : ∀ m, s.nonce c.ctx ≠ some (k, m)) : s.respondCmd c k = s.finishCmd c.id stREFUSED 0 [] := by
  unfold respondCmd
  rw [h]
  refine (if_neg (not_not_intro hk)).trans ((if_neg hh).trans ((if_neg (by rw [hlock]; decide)).trans (if_pos ?_)))
  split
  next p m hp =>
    rw [bne_iff_ne]
    exact fun hpk => hn m (hpk ▸ hp)
  next => rfl

/-- The response of a command. -/
def respOf (c : Cmd) : List Byte := (List.range 4).flatMap fun i => leBytes 4 (c.arg (1 + i))

theorem respondCmd_tried {m : List Byte} (h : s.secOut = none) (hk : c.arg 0 % 256 = k) (hh : ¬ s.DebugHeld k) (hlock : s.lockedOut = false)
    (hn : s.nonce c.ctx = some (k, m)) :
    s.respondCmd c k = (s.respCheck c.ctx k (respOf c)).1.finishCmd c.id (if (s.respCheck c.ctx k (respOf c)).2 then stOK else stDENIED) 0 [] := by
  unfold respondCmd
  rw [h]
  refine (if_neg (not_not_intro hk)).trans ((if_neg hh).trans ((if_neg (by rw [hlock]; decide)).trans (if_neg ?_)))
  rw [hn]
  exact fun hc => absurd rfl (bne_iff_ne.1 hc)

/-- What a nonce is answered with. -/
def respWant (k : Nat) (m : List Byte) : List Byte := (hmac (if k = 1 then Config.kElev else Config.kDbg) m).take 16

theorem respCheck_right {j : Nat} {m resp : List Byte} (hn : s.nonce j = some (k, m)) (hr : resp = respWant k m) :
    s.respCheck j k resp = (if k = 1 then (s.dropNonce j).credGood.elevate j else ((s.dropNonce j).credGood.debugOpen j).touch j, true) := by
  unfold respCheck
  rw [hn]
  exact if_pos hr

theorem respCheck_wrong {j : Nat} {m resp : List Byte} (hn : s.nonce j = some (k, m)) (hr : resp ≠ respWant k m) :
    s.respCheck j k resp = ((s.dropNonce j).credFail j (0x80 + k), false) := by
  unfold respCheck
  rw [hn]
  exact if_neg hr

theorem elevate_sec (s : State) (j : Nat) :
    (s.elevate j).sec = { s.sec with elev := tabSet (fun _ => false) s.sec.elev j true, used := tabSet (fun _ => 0) s.sec.used j s.nw.tick } := by
  have helev : (s.setSec { s.sec with elev := tabSet (fun _ => false) s.sec.elev j true }).elevated j = true :=
    tabGet_set_same (fun _ => false) s.sec.elev j true
  rw [elevate, touch_of_elevated helev]
  rfl

theorem debugOpen_sec (s : State) (j : Nat) : (s.debugOpen j).sec = { s.sec with dbg := true } :=
  (logFw_kept (T := [.regs, .evt]) (List.Subset.refl _) _ _ _ _ (.refl (s.setSec { s.sec with dbg := true }))).sec_eq

theorem debugOpen_nw (s : State) (j : Nat) : (s.debugOpen j).nw = s.nw :=
  (logFw_kept (T := [.regs, .evt]) (List.Subset.refl _) _ _ _ _ (.refl (s.setSec { s.sec with dbg := true }))).nw_eq

theorem touch_sec (s : State) (j : Nat) : (s.touch j).sec = { s.sec with used := (s.touch j).sec.used } := by
  unfold touch
  split <;> rfl

/-- The nonce of a context is consumed, and no other's. -/
structure Consumed (j : Nat) (s u : State) : Prop where
  own : u.nonce j = none
  others : ∀ e, e ≠ j → u.nonce e = s.nonce e

theorem consumed_of {j : Nat} (hn : t.sec.nonces = (s.dropNonce j).sec.nonces) (hat : t.sec.nonceAt = (s.dropNonce j).sec.nonceAt)
    (hnw : t.nw = (s.dropNonce j).nw) : Consumed j s t :=
  ⟨(nonce_congr hn hat hnw j).trans (s.dropNonce_nonce j), fun e he => (nonce_congr hn hat hnw e).trans (s.dropNonce_other he)⟩

/-- What the right response leaves. -/
structure Passed (j k : Nat) (s u : State) : Prop where
  nonces : Consumed j s u
  fails : u.sec.fails = 0
  elevate : k = 1 → u.elevated j = true
  debug : k = 2 → u.sec.dbg = true ∧ u.sec.elev = s.sec.elev ∧ (s.elevated j = true → tabGet (fun _ => 0) u.sec.used j = s.nw.tick)
  kept : Kept [.regs, .evt, .sec, .fspi] s u

theorem elevate_passed (s : State) (j : Nat) : Passed j 1 s ((s.dropNonce j).credGood.elevate j) where
  nonces := by
    have hn := congrArg Sec.nonces ((s.dropNonce j).credGood.elevate_sec j)
    have hat := congrArg Sec.nonceAt ((s.dropNonce j).credGood.elevate_sec j)
    exact consumed_of hn hat (elevate_kept (T := [.sec]) (by decide) j (.refl _)).nw_eq
  fails := congrArg Sec.fails ((s.dropNonce j).credGood.elevate_sec j)
  elevate := fun _ => by rw [elevate_elevated, beq_self_eq_true, Bool.or_true]
  debug := fun h => absurd h (by decide)
  kept := elevate_kept (by decide) j (credGood_kept (by decide) (dropNonce_kept (by decide) j (.refl s)))

theorem debug_passed (s : State) (j : Nat) : Passed j 2 s (((s.dropNonce j).credGood.debugOpen j).touch j) := by
  have hopen := (s.dropNonce j).credGood.debugOpen_sec j
  have hnw := (s.dropNonce j).credGood.debugOpen_nw j
  have hkept : Kept [.regs, .evt, .sec, .fspi] s ((s.dropNonce j).credGood.debugOpen j) :=
    debugOpen_kept (by decide) j (credGood_kept (by decide) (dropNonce_kept (by decide) j (.refl s)))
  generalize (s.dropNonce j).credGood.debugOpen j = t at hopen hnw hkept
  have hsec := (t.touch_sec j).trans (by rw [hopen])
  have hn := congrArg Sec.nonces hsec
  have hat := congrArg Sec.nonceAt hsec
  have htouch := touch_kept (T := [.sec]) (by decide) j (.refl t)
  exact
    { nonces := consumed_of hn hat (htouch.nw_eq.trans hnw)
      fails := congrArg Sec.fails hsec
      elevate := fun h => absurd h (by decide)
      debug := fun _ => by
        have hdbg := congrArg Sec.dbg hsec
        have hkeep := congrArg Sec.elev hsec
        refine ⟨hdbg, hkeep, fun he => ?_⟩
        have helev : t.elevated j = true := by
          rw [elevated, hopen]
          exact he
        rw [touch_used helev, hnw]
        rfl
      kept := touch_kept (by decide) j hkept }

/-- What a wrong response leaves. -/
structure Failed (j : Nat) (s u : State) : Prop where
  nonces : Consumed j s u
  fails : u.sec.fails = s.sec.fails + 1
  lockEnd : u.sec.lockEnd = if lockout (s.sec.fails + 1) = 0 then s.sec.lockEnd else s.nw.tick + lockout (s.sec.fails + 1) * tps
  elev : u.sec.elev = s.sec.elev
  dbg : u.sec.dbg = s.sec.dbg
  kept : Kept [.regs, .evt, .sec, .fspi] s u

theorem credFail_failed (s : State) (j method : Nat) : Failed j s ((s.dropNonce j).credFail j method) := by
  have hsec := (s.dropNonce j).credFail_sec j method
  have hkept : Kept [.regs, .evt, .sec, .fspi] s ((s.dropNonce j).credFail j method) :=
    credFail_kept (by decide) j method (dropNonce_kept (by decide) j (.refl s))
  generalize (s.dropNonce j).credFail j method = t at hsec hkept
  have hn := congrArg Sec.nonces hsec
  have hat := congrArg Sec.nonceAt hsec
  have hfails := congrArg Sec.fails hsec
  have hlock := congrArg Sec.lockEnd hsec
  have hkeep := congrArg Sec.elev hsec
  have hopen := congrArg Sec.dbg hsec
  exact
    { nonces := consumed_of hn hat hkept.nw_eq
      fails := hfails
      lockEnd := hlock
      elev := hkeep
      dbg := hopen
      kept := hkept }

-- A command of a purpose

theorem purposeCmd_taken {op : Nat} (h : s.Runs c op) (hk : c.arg 0 % 256 = k ∨ (c.arg 0 % 256 ≠ 1 ∧ c.arg 0 % 256 ≠ 2)) (f : Cmd → State) :
    s.purposeCmd op k f = f c := by
  obtain ⟨hcur, hop, hvet⟩ := h
  refine onCmd_taken hcur ?_ hvet f
  rw [hop, beq_self_eq_true, Bool.true_and, Bool.or_eq_true, beq_iff_eq, not_contains]
  refine hk.imp_right fun hne => ?_
  simp only [List.mem_cons, List.not_mem_nil, or_false, not_or]
  exact hne

end State

theorem exec_elevate (s : State) : exec .elevate s = .next (s.onCmd (fun c => c.op == 0x60) s.elevateCmd) := rfl

theorem exec_challenge {k : Nat} (hk : k = 1 ∨ k = 2) (s : State) :
    exec (if k = 1 then Instr.challengeElevate else .challengeDebug) s = .next (s.purposeCmd 0x62 k fun c => s.challengeCmd c k) := by
  obtain rfl | rfl := hk <;> rfl

theorem exec_respond {k : Nat} (hk : k = 1 ∨ k = 2) (s : State) :
    exec (if k = 1 then Instr.respondElevate else .respondDebug) s = .next (s.purposeCmd 0x63 k fun c => s.respondCmd c k) := by
  obtain rfl | rfl := hk <;> rfl

/-- Settles O51. -/
theorem challengeResponse : Obligations.ChallengeResponse := by
  intro s c k n ends tested up hold resp want long chal rsp
  have hends {i : Instr} {st r0 : Nat} (hcur : s.curCmd = some c) (hi : exec i s = .next (s.finishCmd c.id st r0 [])) : ends i st r0 :=
    .of_eq hi (State.finishCmd_after hcur (T := []) (.refl s) _ _ _)
  have hheld (h : k = 2 → ¬ hold) : ¬ s.DebugHeld k := fun hc => h hc.1 hc.2
  refine ⟨fun h => ?elevate, fun h hk => ?challenge, fun h hk h1 h2 hup => ?purpose, fun h hk harg => ?respond⟩
  case elevate =>
    have hexec := (exec_elevate s).trans (congrArg Host.Outcome.next (State.onCmd_of_runs h s.elevateCmd))
    exact ⟨fun ht => hends h.1 (hexec.trans (congrArg Host.Outcome.next (State.elevateCmd_out (State.secOut_tested ht)))),
      fun ht hf => hends h.1 (hexec.trans (congrArg Host.Outcome.next (State.elevateCmd_out (State.secOut_failed ht hf)))),
      fun hup hm => hends h.1 (hexec.trans (congrArg Host.Outcome.next (State.elevateCmd_method (State.secOut_up hup) hm))),
      fun hup hm hctx hr => hends h.1 (hexec.trans (congrArg Host.Outcome.next (State.elevateCmd_ring (State.secOut_up hup) hm hctx hr))),
      fun hup hm hctx hl => hends h.1 (hexec.trans (congrArg Host.Outcome.next (State.elevateCmd_locked (State.secOut_up hup) hm hctx hl)))⟩
  case challenge =>
    have hexec (hp : c.arg 0 % 256 = k ∨ (c.arg 0 % 256 ≠ 1 ∧ c.arg 0 % 256 ≠ 2)) : exec chal s = .next (s.challengeCmd c k) :=
      (exec_challenge hk s).trans (congrArg Host.Outcome.next (State.purposeCmd_taken h hp _))
    refine ⟨fun h1 h2 hup => hends h.1 ((hexec (.inr ⟨h1, h2⟩)).trans (congrArg Host.Outcome.next
        (State.challengeCmd_bad (State.secOut_up hup) (.inl ?_)))), fun harg => ?_⟩
    · obtain rfl | rfl := hk
      · exact h1
      · exact h2
    have hgood (hr : ¬ (c.ctx = 0 ∧ c.rlen < 32)) : ¬ (c.arg 0 % 256 ≠ k ∨ (c.ctx = 0 ∧ c.rlen < 32)) := fun hc => hc.elim (fun hne => hne harg) hr
    refine ⟨fun ht => hends h.1 ((hexec (.inl harg)).trans (congrArg Host.Outcome.next (State.challengeCmd_out (State.secOut_tested ht)))),
      fun ht hf => hends h.1 ((hexec (.inl harg)).trans (congrArg Host.Outcome.next (State.challengeCmd_out (State.secOut_failed ht hf)))),
      fun hup h0 hr => hends h.1 ((hexec (.inl harg)).trans (congrArg Host.Outcome.next (State.challengeCmd_bad (State.secOut_up hup) (.inr ⟨h0, hr⟩)))),
      fun hup hr hh h2 he => hends h.1 ((hexec (.inl harg)).trans (congrArg Host.Outcome.next
        (State.challengeCmd_denied (State.secOut_up hup) (hgood hr) (hheld fun _ => hh) h2 he))), fun hup hr hd => ?_⟩
    have hrun := (hexec (.inl harg)).trans (congrArg Host.Outcome.next
      (State.challengeCmd_drawn (State.secOut_up hup) (hgood hr) (hheld fun h2 => (hd h2).1) fun h2 => (hd h2).2))
    have hlen := s.freeBytes_length 32
    have hfree := State.freeBytes_kept (T := [.free]) (by decide) 32 (.refl s)
    have hown := (s.freeBytes 32).2.drawn_nonce c.ctx k (s.freeBytes 32).1
    have hother (d : Nat) (hd : d ≠ c.ctx) := (s.freeBytes 32).2.drawn_nonce_other (k := c.ctx) k (s.freeBytes 32).1 hd
    have hkept : Kept [.free, .sec] s ((s.freeBytes 32).2.drawn c.ctx k (s.freeBytes 32).1) :=
      State.setSec_kept (by decide) _ id id le_rfl (hfree.mono (by decide))
    have hold (d : Nat) : (s.freeBytes 32).2.nonce d = s.nonce d :=
      State.nonce_congr (congrArg Sec.nonces hfree.sec_eq) (congrArg Sec.nonceAt hfree.sec_eq) hfree.nw_eq d
    generalize (s.freeBytes 32).2.drawn c.ctx k (s.freeBytes 32).1 = t at hrun hown hother hkept
    obtain ⟨hend, honly⟩ := State.finishCmd_after h.1 hkept stOK 60 (s.freeBytes 32).1
    exact .of_eq hrun ⟨(s.freeBytes 32).1, hlen, hown, fun d hd => (hother d hd).trans (hold d), hend, honly.widen⟩
  case purpose =>
    have hbad : c.arg 0 % 256 ≠ k := by
      obtain rfl | rfl := hk
      · exact h1
      · exact h2
    exact hends h.1 ((exec_respond hk s).trans (congrArg Host.Outcome.next ((State.purposeCmd_taken h (.inr ⟨h1, h2⟩) _).trans
      (State.respondCmd_bad (State.secOut_up hup) hbad))))
  case respond =>
    have hexec : exec rsp s = .next (s.respondCmd c k) :=
      (exec_respond hk s).trans (congrArg Host.Outcome.next (State.purposeCmd_taken h (.inl harg) _))
    refine ⟨fun ht => hends h.1 (hexec.trans (congrArg Host.Outcome.next (State.respondCmd_out (State.secOut_tested ht)))),
      fun ht hf => hends h.1 (hexec.trans (congrArg Host.Outcome.next (State.respondCmd_out (State.secOut_failed ht hf)))),
      fun hup hh hl => hends h.1 (hexec.trans (congrArg Host.Outcome.next (State.respondCmd_locked (State.secOut_up hup) harg (hheld hh) hl))),
      fun hup hh hl hn => hends h.1 (hexec.trans (congrArg Host.Outcome.next (State.respondCmd_none (State.secOut_up hup) harg (hheld hh) hl hn))),
      fun hup hh hl hn hr => ?_, fun hup hh hl hn hr => ?_⟩
    · have hpass : State.Passed c.ctx k s (if k = 1 then (s.dropNonce c.ctx).credGood.elevate c.ctx
          else ((s.dropNonce c.ctx).credGood.debugOpen c.ctx).touch c.ctx) := by
        obtain rfl | rfl := hk
        · exact s.elevate_passed c.ctx
        · exact s.debug_passed c.ctx
      have hrun := hexec.trans (congrArg Host.Outcome.next (State.respondCmd_tried (State.secOut_up hup) harg (hheld hh) hl hn))
      rw [State.respCheck_right (resp := State.respOf c) hn hr] at hrun
      dsimp only at hrun
      rw [if_pos rfl] at hrun
      generalize (if k = 1 then (s.dropNonce c.ctx).credGood.elevate c.ctx else ((s.dropNonce c.ctx).credGood.debugOpen c.ctx).touch c.ctx) = t at hpass hrun
      obtain ⟨hend, honly⟩ := State.finishCmd_after h.1 hpass.kept stOK 0 []
      exact .of_eq hrun ⟨hend, hpass.nonces.own, hpass.nonces.others, hpass.fails, hpass.elevate, hpass.debug, honly.widen⟩
    · have hrun := hexec.trans (congrArg Host.Outcome.next (State.respondCmd_tried (State.secOut_up hup) harg (hheld hh) hl hn))
      have hfail := s.credFail_failed c.ctx (0x80 + k)
      rw [State.respCheck_wrong (resp := State.respOf c) hn hr] at hrun
      dsimp only at hrun
      rw [if_neg Bool.false_ne_true] at hrun
      generalize (s.dropNonce c.ctx).credFail c.ctx (0x80 + k) = t at hfail hrun
      obtain ⟨hend, honly⟩ := State.finishCmd_after h.1 hfail.kept stDENIED 0 []
      exact .of_eq hrun ⟨hend, hfail.nonces.own, hfail.nonces.others, hfail.fails, hfail.lockEnd, hfail.elev, hfail.dbg,
        honly.widen⟩

end Sys2Proof.Machine
end

section
/-! THE REGISTER WRITES THAT CARRY A KEY: password, rollback, field lock, Dusk (R338, R340, R345, R383; O52). -/

namespace Sys2Proof.Machine

namespace State

variable {s t u : State} {c : Nat}

-- A write of a privileged register

/-- What a write of each of the four key registers does. -/
structure KeyStores (s : State) (c x : Nat) : Prop where
  password : s.privStore c aSEC_PWCMD x = s.pwCmd c (x % 256)
  rollback : s.privStore c aSEC_ROLLBACK x = s.rollback (x % 256)
  lock : s.privStore c aSEC_LOCK x = s.fieldLockSet c x
  power : s.privStore c aSYS_PWRCTL x = s.pwrCtl (x % 256)

theorem keyStores (s : State) (c x : Nat) : KeyStores s c x := by
  constructor
  all_goals
    unfold privStore
    repeat rw [if_neg (by decide)]
    exact if_pos rfl

theorem regWrite_priv (h : s.Served c) (he : s.elevated c = true) {off : Nat} (x : Nat) (h1 : 0x10000 ≤ off) (h2 : off < 0x20000) :
    s.regWrite c off x = (s.touch c).privStore c off x := by
  rw [regWrite_served h, wordWrite_priv (by simp only [isPrivileged, h1, h2, decide_true, Bool.and_true]) he h1 h2]

theorem regWrite_denied (h : s.Served c) (he : s.elevated c = false) {off : Nat} (x : Nat) (h1 : 0x10000 ≤ off) (h2 : off < 0x20000) :
    s.regWrite c off x = if c = 0 then s.accessErr else s := by
  rw [regWrite_served h, wordWrite_refused (.inl ⟨by simp only [isPrivileged, h1, h2, decide_true, Bool.and_true], he⟩)]

-- A restarted time-out

/-- The time-out of an elevated context has been restarted, and nothing else has changed. -/
structure Touched (c : Nat) (s t : State) : Prop where
  sec : t.sec = { s.sec with used := tabSet (fun _ => 0) s.sec.used c s.nw.tick }
  kept : Kept [.sec] s t

theorem touch_touched (he : s.elevated c = true) : Touched c s (s.touch c) :=
  ⟨by rw [touch_of_elevated he]; rfl, touch_kept (by decide) c (.refl s)⟩

theorem Touched.used (h : Touched c s t) : tabGet (fun _ => 0) t.sec.used c = s.nw.tick := by
  rw [h.sec]
  exact tabGet_set_same (fun _ => 0) s.sec.used c s.nw.tick

theorem Touched.fwSlot (h : Touched c s t) (i : Nat) : t.fwSlot i = s.fwSlot i := by rw [State.fwSlot, h.sec, State.fwSlot]

theorem Touched.flag (h : Touched c s t) (f : Fld) : t.flag f = s.flag f := flag_of_rd (rd_of_kept h.kept f.addr)
theorem Touched.get (h : Touched c s t) (f : Fld) : t.get f = s.get f := get_of_rd (rd_of_kept h.kept f.addr)

theorem logOpen_of_kept {T : List Comp} (h : Kept T s t) (hT : Comp.regs ∉ T ∧ Comp.evt ∉ T ∧ Comp.pwr ∉ T := by decide) : t.logOpen = s.logOpen := by
  rw [logOpen, logOpen, h.evt_eq hT.2.1, inDusk_of_kept h ⟨hT.1, hT.2.2⟩, flag_of_rd (rd_of_kept h fNW_SC0_LOST.addr hT.1)]

/-- A log entry of a context after work that left the registers, the log and the power state alone. -/
structure LoggedWork (c cls : Nat) (s u : State) : Prop where
  logged : Logged s u cls (kMBX * 4096 + c)
  kept : Kept [.regs, .evt, .sec, .fspi] s u
  regs : Wr [(aDEV_NW_STAT, 0), (aEVT_DROP, 0)] s u

theorem logFw_work {cls : Nat} (h : Kept [.sec, .fspi] s t) (hc : c < 4096) (l : List Nat) : LoggedWork c cls s (t.logFw cls kMBX c l) where
  logged := by
    have hsrc : kMBX * 4096 + c % 4096 = kMBX * 4096 + c := by rw [Nat.mod_eq_of_lt hc]
    exact hsrc ▸ logged_enqueue (logOpen_of_kept h) (congrArg EvtLog.queue h.evt_eq) rfl
  kept := logFw_kept (by decide) _ _ _ _ (h.mono (by decide))
  regs := logFw_wr (by decide) _ _ _ _ ⟨fun a _ => rd_of_kept h a⟩

theorem logFw_sec (t : State) (cls kind idx : Nat) (l : List Nat) : (t.logFw cls kind idx l).sec = t.sec :=
  (logFw_kept (T := [.regs, .evt]) (by decide) cls kind idx l (.refl t)).sec_eq

-- The site password (R338)

/-- The eight bytes of the password registers. -/
def keyBytes (x : Sec) : List Byte := leBytes 4 x.pw0 ++ leBytes 4 x.pw1

def WeakPw (x : Sec) : Prop := keyBytes x = List.replicate 8 ((keyBytes x).headD 0)

/-- The password registers are empty. -/
def pwEmptied (s : State) : State := s.setSec { s.sec with pw0 := 0, pw1 := 0 }

/-- The record of the site password is replaced, in flash too. -/
def pwStored (s : State) (record : Option (List Byte)) : State :=
  (s.pwEmptied.setSec { s.pwEmptied.sec with record := record, weak := false }).flash (rewrite flSec 1)

theorem pwStored_kept (s : State) (record : Option (List Byte)) : Kept [.sec, .fspi] s (s.pwStored record) :=
  flash_kept (by decide) _ (setSec_kept (by decide) _ id id le_rfl (setSec_kept (by decide) _ id id le_rfl (.refl s)))

theorem pwCmd_weak (h : WeakPw s.sec) : s.pwCmd c 0x5A = s.pwEmptied.setSec { s.pwEmptied.sec with weak := true } := by
  unfold pwCmd
  exact (if_pos rfl).trans (if_pos h)

theorem pwCmd_set (h : ¬ WeakPw s.sec) : s.pwCmd c 0x5A = (s.pwStored (some (hmac Config.kPw (keyBytes s.sec)))).logFw evPW_CHANGED kMBX c [1, c] := by
  unfold pwCmd
  exact (if_pos rfl).trans (if_neg h)

theorem pwCmd_clear (s : State) (c : Nat) : s.pwCmd c 0xC3 = (s.pwStored none).logFw evPW_CHANGED kMBX c [0, c] := by
  unfold pwCmd
  exact (if_neg (by decide)).trans (if_pos rfl)

/-- A change of the record, logged. -/
structure PwChanged (c : Nat) (record : Option (List Byte)) (s u : State) : Prop where
  weak : u.sec.weak = false
  record : u.sec.record = record
  pw0 : u.sec.pw0 = 0
  pw1 : u.sec.pw1 = 0
  used : u.sec.used = s.sec.used
  work : LoggedWork c evPW_CHANGED s u

theorem pwStored_changed (s : State) (record : Option (List Byte)) (hc : c < 4096) (l : List Nat) :
    PwChanged c record s ((s.pwStored record).logFw evPW_CHANGED kMBX c l) := by
  have hsec : ((s.pwStored record).logFw evPW_CHANGED kMBX c l).sec = { s.sec with pw0 := 0, pw1 := 0, record := record, weak := false } := logFw_sec _ _ _ _ _
  have hwork := logFw_work (cls := evPW_CHANGED) (s.pwStored_kept record) hc l
  generalize (s.pwStored record).logFw evPW_CHANGED kMBX c l = u at hsec hwork
  exact ⟨by rw [hsec], by rw [hsec], by rw [hsec], by rw [hsec], by rw [hsec], hwork⟩

theorem LoggedWork.of_touched {cls : Nat} (ht : Touched c s t) (h : LoggedWork c cls t u) : LoggedWork c cls s u where
  logged := fun ho hroom => by
    have hroom' : (t.evt.queue.filter fun q => q.src / 4096 == (kMBX * 4096 + c) / 4096).length < 64 := by rw [ht.kept.evt_eq]; exact hroom
    obtain ⟨r, hcls, hsrc, hq⟩ := h.logged ((logOpen_of_kept ht.kept).trans ho) hroom'
    exact ⟨r, hcls, hsrc, hq.trans (by rw [ht.kept.evt_eq])⟩
  kept := (ht.kept.mono (by decide)).trans h.kept
  regs := Wr.trans ⟨fun a _ => rd_of_kept ht.kept a⟩ h.regs

-- The rollback counter (R345)

/-- The version of the running image. -/
def runningSvn (x : Sec) : Nat := if x.image = none then 0 else (tabGet (fun _ => defFw) x.fw x.running).svn

theorem runSvn_eq (s : State) : s.runSvn = runningSvn s.sec := by
  unfold runSvn runningSvn
  cases h : s.sec.image with
  | none => rfl
  | some i => rfl

theorem rollback_kept_svn (h : s.runSvn ≤ s.sec.ctr) : s.rollback 0x96 = s := if_neg fun hc => absurd hc.2 (Nat.not_lt.2 h)

theorem rollback_raised (h : s.sec.ctr < s.runSvn) : s.rollback 0x96 = ((s.setSec { s.sec with ctr := s.runSvn }).fwRevoke 0).fwRevoke 1 := if_pos ⟨rfl, h⟩

theorem fwSlot_setFwSlot (s : State) (i j : Nat) (x : FwSlot) : (s.setFwSlot i x).fwSlot j = if j = i then x else s.fwSlot j :=
  tabGet_set (fun _ => defFw) s.sec.fw i j x

/-- A slot below the counter loses VALID. -/
structure Revoked (i : Nat) (s u : State) : Prop where
  own : (u.fwSlot i).valid = ((s.fwSlot i).valid && !decide ((s.fwSlot i).svn < s.sec.ctr))
  others : ∀ j, j ≠ i → u.fwSlot j = s.fwSlot j
  ctr : u.sec.ctr = s.sec.ctr
  used : u.sec.used = s.sec.used
  kept : Kept [.regs, .evt, .sec] s u

theorem fwRevoke_revoked (s : State) (i : Nat) : Revoked i s (s.fwRevoke i) := by
  have hk := fwRevoke_kept (T := [.regs, .evt, .sec]) (by decide) i (.refl s)
  by_cases h : ((s.fwSlot i).valid && decide ((s.fwSlot i).svn < s.sec.ctr)) = true
  · have hdo : s.fwRevoke i = (s.setFwSlot i { s.fwSlot i with valid := false }).logFw evFW_SLOT_REVOKED kDEVICE 0 [i, (s.fwSlot i).svn, s.sec.ctr] := if_pos h
    have hsec : (s.fwRevoke i).sec = (s.setFwSlot i { s.fwSlot i with valid := false }).sec := by rw [hdo, logFw_sec]
    have hslot (j : Nat) : (s.fwRevoke i).fwSlot j = if j = i then { s.fwSlot i with valid := false } else s.fwSlot j := by
      rw [State.fwSlot, hsec]
      exact s.fwSlot_setFwSlot i j _
    obtain ⟨hv, hlt⟩ := Bool.and_eq_true_iff.1 h
    have hctr := congrArg Sec.ctr hsec
    have hused := congrArg Sec.used hsec
    exact
      { own := by
          rw [hslot, if_pos rfl, hlt, Bool.not_true, Bool.and_false]
        others := fun j hj => by rw [hslot, if_neg hj]
        ctr := hctr
        used := hused
        kept := hk }
  · have hdo : s.fwRevoke i = s := if_neg h
    rw [hdo]
    refine ⟨?_, fun _ _ => rfl, rfl, rfl, .refl s⟩
    cases hv : (s.fwSlot i).valid with
    | false => rfl
    | true =>
      rw [hv, Bool.true_and] at h
      rw [Bool.eq_false_iff.2 h]
      rfl

-- Power control (R383)

theorem pwrCtl_request (s : State) : s.pwrCtl 0xD5 = if s.pstate = 1 then s.putFlag fPWR_DUSK_PEND true else s := if_pos rfl
theorem pwrCtl_cancel (s : State) : s.pwrCtl 0xCA = s.putFlag fPWR_DUSK_PEND false := (if_neg (by decide)).trans (if_pos rfl)
theorem pwrCtl_exit (s : State) : s.pwrCtl 0x5E = s.duskExit 1 := (if_neg (by decide)).trans ((if_neg (by decide)).trans (if_pos rfl))

theorem fieldLockSet_new (h : s.sec.fieldLock = false) :
    s.fieldLockSet c 0x4C4F434B = (s.setSec { s.sec with fieldLock := true }).logFw evFIELD_LOCKED kMBX c [c] := if_pos ⟨rfl, not_true_iff.2 h⟩

theorem fieldLockSet_old (h : s.sec.fieldLock = true) : s.fieldLockSet c 0x4C4F434B = s := if_neg fun hc => by
  rw [h] at hc
  exact Bool.false_ne_true hc.2

-- What every key write keeps of the time-outs

theorem pwCmd_used (s : State) (c key : Nat) : (s.pwCmd c key).sec.used = s.sec.used := by
  have hlog (t : State) (l : List Nat) : (t.logFw evPW_CHANGED kMBX c l).sec.used = t.sec.used := congrArg Sec.used (logFw_sec _ _ _ _ _)
  unfold pwCmd
  dsimp only
  split
  · split
    · rfl
    · exact hlog _ _
  · split
    · exact hlog _ _
    · rfl

theorem rollback_used (s : State) : (s.rollback 0x96).sec.used = s.sec.used := by
  by_cases h : s.sec.ctr < s.runSvn
  · rw [rollback_raised h, (fwRevoke_revoked _ 1).used, (fwRevoke_revoked _ 0).used]
    rfl
  · rw [rollback_kept_svn (Nat.not_lt.1 h)]

theorem fieldLockSet_used (s : State) (c key : Nat) : (s.fieldLockSet c key).sec.used = s.sec.used := by
  unfold fieldLockSet
  split
  · rw [logFw_sec]
    rfl
  · rfl

theorem pwrCtl_used (s : State) (key : Nat) : (s.pwrCtl key).sec.used = s.sec.used := by
  rw [(pwrCtl_kept (T := [.regs, .icu, .nw, .pwr]) (by decide) key (.refl s)).sec_eq]

end State

/-- The register and the key of each command. -/
def keyWrites (c : Fin 9) : List (Instr × Nat × Nat) :=
  [(.passwordSet c, aSEC_PWCMD, 0x5A), (.passwordClear c, aSEC_PWCMD, 0xC3), (.rollbackAdvance c, aSEC_ROLLBACK, 0x96),
    (.fieldLockSet c, aSEC_LOCK, 0x4C4F434B), (.duskRequest c, aSYS_PWRCTL, 0xD5), (.duskCancel c, aSYS_PWRCTL, 0xCA),
    (.duskExitRequest c, aSYS_PWRCTL, 0x5E)]

/-- Each command is its register write. -/
structure IsKeyWrite (c : Fin 9) (s : State) (i : Instr) (off x : Nat) : Prop where
  exec : exec i s = .next (s.regWrite c.val off x)
  low : 0x10000 ≤ off
  high : off < 0x20000
  used : ((s.touch c.val).privStore c.val off x).sec.used = (s.touch c.val).sec.used

theorem isKeyWrite (c : Fin 9) (s : State) : ∀ r ∈ keyWrites c, IsKeyWrite c s r.1 r.2.1 r.2.2 := by
  intro r hr
  have hstores (x : Nat) := (s.touch c.val).keyStores c.val x
  have hpw : 0x10000 ≤ aSEC_PWCMD ∧ aSEC_PWCMD < 0x20000 := by decide
  have hroll : 0x10000 ≤ aSEC_ROLLBACK ∧ aSEC_ROLLBACK < 0x20000 := by decide
  have hlock : 0x10000 ≤ aSEC_LOCK ∧ aSEC_LOCK < 0x20000 := by decide
  have hpower : 0x10000 ≤ aSYS_PWRCTL ∧ aSYS_PWRCTL < 0x20000 := by decide
  simp only [keyWrites, List.mem_cons, List.not_mem_nil, or_false] at hr
  obtain rfl | rfl | rfl | rfl | rfl | rfl | rfl := hr
  · exact ⟨rfl, hpw.1, hpw.2, by rw [(hstores _).password, State.pwCmd_used]⟩
  · exact ⟨rfl, hpw.1, hpw.2, by rw [(hstores _).password, State.pwCmd_used]⟩
  · exact ⟨rfl, hroll.1, hroll.2, by rw [(hstores _).rollback]; exact State.rollback_used _⟩
  · exact ⟨rfl, hlock.1, hlock.2, by rw [(hstores _).lock, State.fieldLockSet_used]⟩
  · exact ⟨rfl, hpower.1, hpower.2, by rw [(hstores _).power, State.pwrCtl_used]⟩
  · exact ⟨rfl, hpower.1, hpower.2, by rw [(hstores _).power, State.pwrCtl_used]⟩
  · exact ⟨rfl, hpower.1, hpower.2, by rw [(hstores _).power, State.pwrCtl_used]⟩

/-- Settles O52. -/
theorem privilegedKeys : Obligations.PrivilegedKeys := by
  intro c s served op bytes weak v logs emptied
  have hserved (hs : served) : s.Served c.val := hs.imp_left fun h0 hc => h0 (Fin.ext hc)
  have hshut (hs : ¬ served) : ¬ s.Served c.val := fun h => hs (h.imp_left fun h0 hc => h0 (congrArg Fin.val hc))
  have hc : c.val < 4096 := by omega
  have hrun (ho : op) {i : Instr} {off x : Nat} (hi : (i, off, x) ∈ keyWrites c) : exec i s = .next ((s.touch c.val).privStore c.val off x) := by
    have hk := isKeyWrite c s _ hi
    exact hk.exec.trans (congrArg Host.Outcome.next (State.regWrite_priv (hserved ho.1) ho.2 x hk.low hk.high))
  have ht (ho : op) : State.Touched c.val s (s.touch c.val) := State.touch_touched ho.2
  have hstores (x : Nat) := (s.touch c.val).keyStores c.val x
  have hlogs {cls : Nat} {u : State} (h : State.LoggedWork c.val cls s u) : logs u cls := ⟨h.logged, h.kept.only, h.regs.onlyRegs⟩
  have hkey (ho : op) {i : Instr} {off x : Nat} (hi : (i, off, x) ∈ keyWrites c) {w : State} (hw : (s.touch c.val).privStore c.val off x = w) :
      exec i s = .next w := (hrun ho hi).trans (congrArg Host.Outcome.next hw)
  have hcommands : ∀ i ∈ [Instr.passwordSet c, .passwordClear c, .rollbackAdvance c, .fieldLockSet c, .duskRequest c, .duskCancel c, .duskExitRequest c],
      ∃ off x, (i, off, x) ∈ keyWrites c := by
    intro i hi
    obtain ⟨r, hr, rfl⟩ := List.mem_map.1 (show i ∈ (keyWrites c).map Prod.fst from hi)
    exact ⟨r.2.1, r.2.2, hr⟩
  refine ⟨fun i hi => ?all, fun ho hw => ?weak, fun ho hw => ?set, fun ho => ?clear, fun ho hlt => ?raised, fun ho hle => ?stays, fun ho hf => ?locked,
    fun ho hf => ?already, fun ho h1 => ?request, fun ho h1 => ?ignored, fun ho => ?cancel, fun ho h3 => ?exits, fun ho h3 => ?noExit⟩
  case all =>
    obtain ⟨off, x, hmem⟩ := hcommands i hi
    have hk := isKeyWrite c s _ hmem
    refine ⟨fun hs => .of_eq hk.exec (State.regWrite_unserved (hshut hs) _ _), fun h0 he => ?_, fun h0 hs he => ?_, fun ho => ?_⟩
    · have h0' : c.val ≠ 0 := fun h => h0 (Fin.ext h)
      exact .of_eq hk.exec ((State.regWrite_denied (.inl h0') he _ hk.low hk.high).trans (if_neg h0'))
    · have h0' : c.val = 0 := congrArg Fin.val h0
      refine .of_eq (hk.exec.trans (congrArg Host.Outcome.next ((State.regWrite_denied (hserved hs) he _ hk.low hk.high).trans (if_pos h0')))) ?_
      exact ⟨s.accessErr_flag, State.accessErr_pending, s.accessErr_only, s.accessErr_onlyRegs⟩
    · refine .of_eq (hrun ho hmem) ?_
      rw [hk.used]
      exact (ht ho).used
  case weak =>
    have hw' : State.WeakPw (s.touch c.val).sec := by
      rw [(ht ho).sec]
      exact hw
    have hsec := (ht ho).sec
    have hkept := (ht ho).kept
    refine .of_eq (hkey ho (by simp [keyWrites]) ((hstores 0x5A).password.trans (State.pwCmd_weak hw'))) ?_
    have hrecord := congrArg Sec.record hsec
    generalize s.touch c.val = t at hrecord hkept
    exact ⟨rfl, hrecord, ⟨rfl, rfl⟩,
      (State.setSec_kept (T := [.sec]) (by decide) { t.pwEmptied.sec with weak := true } id id le_rfl
        (State.setSec_kept (by decide) { t.sec with pw0 := 0, pw1 := 0 } id id le_rfl hkept)).only⟩
  case set =>
    have hw' : ¬ State.WeakPw (s.touch c.val).sec := by
      rw [(ht ho).sec]
      exact hw
    have hbytes : State.keyBytes (s.touch c.val).sec = bytes := by
      rw [(ht ho).sec]
      rfl
    have hch := (s.touch c.val).pwStored_changed (some (hmac Config.kPw bytes)) hc [1, c.val]
    have hdo := (hstores 0x5A).password.trans (State.pwCmd_set hw')
    rw [hbytes] at hdo
    exact .of_eq (hkey ho (by simp [keyWrites]) hdo) ⟨hch.weak, hch.record, ⟨hch.pw0, hch.pw1⟩, hlogs (hch.work.of_touched (ht ho))⟩
  case clear =>
    have hch := (s.touch c.val).pwStored_changed none hc [0, c.val]
    exact .of_eq (hkey ho (by simp [keyWrites]) ((hstores 0xC3).password.trans (State.pwCmd_clear _ c.val)))
      ⟨hch.weak, hch.record, ⟨hch.pw0, hch.pw1⟩, hlogs (hch.work.of_touched (ht ho))⟩
  case raised =>
    have hsec := (ht ho).sec
    have hslot := (ht ho).fwSlot
    have hkept := (ht ho).kept
    have hsvn : (s.touch c.val).runSvn = v := by
      rw [State.runSvn_eq, hsec]
      rfl
    have hlt' : (s.touch c.val).sec.ctr < (s.touch c.val).runSvn := by
      rw [hsvn, hsec]
      exact hlt
    have hdo := (hstores 0x96).rollback.trans (State.rollback_raised hlt')
    rw [hsvn] at hdo
    have h0 := State.fwRevoke_revoked ((s.touch c.val).setSec { (s.touch c.val).sec with ctr := v }) 0
    have hraise : Kept [.regs, .evt, .sec] s ((s.touch c.val).setSec { (s.touch c.val).sec with ctr := v }) :=
      State.setSec_kept (by decide) _ id id (by rw [← hsvn]; exact hlt'.le) (hkept.mono (by decide))
    refine .of_eq (hkey ho (by simp [keyWrites]) hdo) ?_
    have hold (i : Nat) : ((s.touch c.val).setSec { (s.touch c.val).sec with ctr := v }).fwSlot i = s.fwSlot i := hslot i
    have hctr : ((s.touch c.val).setSec { (s.touch c.val).sec with ctr := v }).sec.ctr = v := rfl
    generalize (s.touch c.val).setSec { (s.touch c.val).sec with ctr := v } = w at h0 hraise hold hctr
    have h1 := State.fwRevoke_revoked (w.fwRevoke 0) 1
    refine ⟨h1.ctr.trans (h0.ctr.trans hctr), fun i hi => ?_, ((hraise.trans h0.kept).trans h1.kept).only⟩
    obtain rfl | rfl : i = 0 ∨ i = 1 := by omega
    · rw [h1.others 0 (by decide), h0.own, hold, hctr]
    · rw [h1.own, h0.others 1 (by decide), h0.ctr, hold, hctr]
  case stays =>
    have hsec := (ht ho).sec
    have hkept := (ht ho).kept
    have hle' : (s.touch c.val).runSvn ≤ (s.touch c.val).sec.ctr := by
      rw [State.runSvn_eq, hsec]
      exact hle
    exact .of_eq (hkey ho (by simp [keyWrites]) ((hstores 0x96).rollback.trans (State.rollback_kept_svn hle')))
      ⟨by rw [hsec], by rw [hsec], hkept.only⟩
  case locked =>
    have hf' : (s.touch c.val).sec.fieldLock = false := by
      rw [(ht ho).sec]
      exact hf
    have hset : Kept [.sec, .fspi] (s.touch c.val) ((s.touch c.val).setSec { (s.touch c.val).sec with fieldLock := true }) :=
      State.setSec_kept (by decide) _ (fun _ => rfl) id le_rfl (.refl _)
    have hwork := State.logFw_work (cls := evFIELD_LOCKED) hset hc [c.val]
    refine .of_eq (hkey ho (by simp [keyWrites]) ((hstores 0x4C4F434B).lock.trans (State.fieldLockSet_new hf'))) ⟨?_, hlogs (hwork.of_touched (ht ho))⟩
    rw [State.logFw_sec]
    rfl
  case already =>
    have hf' : (s.touch c.val).sec.fieldLock = true := by
      rw [(ht ho).sec]
      exact hf
    exact .of_eq (hkey ho (by simp [keyWrites]) ((hstores 0x4C4F434B).lock.trans (State.fieldLockSet_old hf'))) ⟨hf', (ht ho).kept.only⟩
  case request =>
    have h1' : (s.touch c.val).pstate = 1 := ((ht ho).get fPWR_STATE).trans h1
    have hdo := (hstores 0xD5).power.trans (State.pwrCtl_request _)
    rw [if_pos h1'] at hdo
    exact .of_eq (hkey ho (by simp [keyWrites]) hdo) ⟨State.flag_putFlag _ fPWR_DUSK_PEND true,
      (State.putFlag_kept (by decide) _ _ ((ht ho).kept.mono (by decide))).only,
      (State.putFlag_wr (by decide) ⟨fun a _ => State.rd_of_kept (ht ho).kept a⟩).onlyRegs⟩
  case ignored =>
    have h1' : (s.touch c.val).pstate ≠ 1 := fun h => h1 (((ht ho).get fPWR_STATE).symm.trans h)
    have hdo := (hstores 0xD5).power.trans (State.pwrCtl_request _)
    rw [if_neg h1'] at hdo
    exact .of_eq (hkey ho (by simp [keyWrites]) hdo) (ht ho).kept.only
  case cancel =>
    exact .of_eq (hkey ho (by simp [keyWrites]) ((hstores 0xCA).power.trans (State.pwrCtl_cancel _))) ⟨State.flag_putFlag _ fPWR_DUSK_PEND false,
      (State.putFlag_kept (by decide) _ _ ((ht ho).kept.mono (by decide))).only,
      (State.putFlag_wr (by decide) ⟨fun a _ => State.rd_of_kept (ht ho).kept a⟩).onlyRegs⟩
  case exits =>
    have h3' : (s.touch c.val).pstate = 3 := ((ht ho).get fPWR_STATE).trans h3
    have hwake := State.duskExit_waking (cause := 1) (by decide) h3'
    exact .of_eq (hkey ho (by simp [keyWrites]) ((hstores 0x5E).power.trans (State.pwrCtl_exit _))) ⟨hwake.state, hwake.wake, hwake.woke,
      (State.duskExit_kept (by decide) 1 ((ht ho).kept.mono (by decide))).only,
      (State.duskExit_wr (by decide) 1 ⟨fun a _ => State.rd_of_kept (ht ho).kept a⟩).onlyRegs⟩
  case noExit =>
    have h3' : (s.touch c.val).pstate ≠ 3 := fun h => h3 (((ht ho).get fPWR_STATE).symm.trans h)
    have hstay : (s.touch c.val).duskExit 1 = s.touch c.val := if_neg h3'
    exact .of_eq (hkey ho (by simp [keyWrites]) ((hstores 0x5E).power.trans ((State.pwrCtl_exit _).trans hstay))) (ht ho).kept.only

end Sys2Proof.Machine
end

section
/-! STAGING, COMMIT AND ACTIVATION OF A CONFIGURATION IMAGE (R364-R370; O53). -/

namespace Sys2Proof.Machine

namespace State

variable {s t u : State} {c : Cmd}

-- A command that runs on in its block

/-- After work that leaves the mailbox alone, the command on SC0 passes to its block. -/
theorem longCmd_after {T : List Comp} (h : s.curCmd = some c) (hk : Kept T s t) (hT : Comp.mbx ∉ T := by decide) :
    RunsOn s (t.longCmd c.id) c ∧ Kept (T ++ [.mbx]) s (t.longCmd c.id) := by
  refine ⟨?_, longCmd_kept (List.subset_append_right T _) c.id (hk.mono (List.subset_append_left T _))⟩
  have hmbx := hk.mbx_eq hT
  have hcur : t.mbx.cur = some c.id := by rw [hmbx, cur_of_curCmd h]
  unfold RunsOn longCmd
  dsimp only [setMbx, updCmd]
  rw [if_pos hcur, hmbx]

-- Staging (R364)

/-- The length of a block is none that a block has. -/
def StageShort (b : List Byte) : Prop := b.length < 9 ∨ 1024 < b.length

/-- Another context's staging stands against a block. -/
def StageBusy (s : State) (n : Nat) (b : List Byte) : Prop :=
  s.cfg.owner ≠ none ∧ ¬ s.cfg.owner = some n ∧ ¬ (ofLeBytes (b.take 4) = 0 ∧ s.cfg.touched + 60 * tps ≤ s.nw.tick)

/-- A block names more bytes than an image has, or goes past the bytes it names. -/
def StageBig (b : List Byte) : Prop :=
  2097152 < ofLeBytes ((b.drop 4).take 4) ∨ ofLeBytes ((b.drop 4).take 4) < ofLeBytes (b.take 4) + (b.drop 8).length

/-- A block continues the staging of its context. -/
def StageNext (s : State) (n : Nat) (b : List Byte) : Prop :=
  s.cfg.owner = some n ∧ ofLeBytes (b.take 4) = s.cfg.bytes.length ∧ ofLeBytes ((b.drop 4).take 4) = s.cfg.total

variable {n : Nat} {b : List Byte}

theorem stageBusy_iff : (s.cfg.owner.isSome && !(s.cfg.owner == some n)
    && !(ofLeBytes (b.take 4) == 0 && decide (s.cfg.touched + 60 * tps ≤ s.nw.tick))) = true ↔ StageBusy s n b := by
  unfold StageBusy
  simp only [Bool.and_eq_true, Bool.not_eq_true', beq_eq_false_iff_ne, Option.isSome_iff_ne_none, Bool.and_eq_false_iff, decide_eq_false_iff_not,
    not_and_or, ne_eq, and_assoc]

theorem stageNext_iff : (s.cfg.owner == some n && ofLeBytes (b.take 4) == s.cfg.bytes.length
    && ofLeBytes ((b.drop 4).take 4) == s.cfg.total) = true ↔ StageNext s n b := by
  unfold StageNext
  simp only [Bool.and_eq_true, beq_iff_eq, and_assoc]

theorem stageBlock_short (h : StageShort b) : s.stageBlock n b = (s, stBAD_ARG) := if_pos h

theorem stageBlock_busy (hs : ¬ StageShort b) (h : StageBusy s n b) : s.stageBlock n b = (s, stBUSY) :=
  (if_neg hs).trans (if_pos (stageBusy_iff.2 h))

theorem stageBlock_big (hs : ¬ StageShort b) (hb : ¬ StageBusy s n b) (h : StageBig b) : s.stageBlock n b = (s, stBAD_ARG) :=
  (if_neg hs).trans ((if_neg (stageBusy_iff.not.2 hb)).trans (if_pos h))

theorem stageBlock_fits (hs : ¬ StageShort b) (hb : ¬ StageBusy s n b) (hl : ¬ StageBig b) {r : State × Nat}
    (h : (if ofLeBytes (b.take 4) = 0 then
        ((s.setCfg { s.cfg with
          bytes := b.drop 8, total := ofLeBytes ((b.drop 4).take 4), owner := some n, touched := s.nw.tick, staged := none }).showStaging, stOK)
      else if s.cfg.owner == some n && ofLeBytes (b.take 4) == s.cfg.bytes.length && ofLeBytes ((b.drop 4).take 4) == s.cfg.total then
        ((s.setCfg { s.cfg with bytes := s.cfg.bytes ++ b.drop 8, touched := s.nw.tick }).showStaging, stOK)
      else (s, stBAD_ARG)) = r) : s.stageBlock n b = r :=
  (if_neg hs).trans ((if_neg (stageBusy_iff.not.2 hb)).trans ((if_neg hl).trans h))

/-- A staging and what DEV_CFG_STAT shows of it. -/
structure StageShown (x : Cfg) (s t : State) : Prop where
  cfg : t.cfg = x
  staging : t.flag fCFG_STAGING = x.owner.isSome
  words : t.get fCFG_STAGED_W = x.bytes.length / 4 % 2 ^ 20
  kept : Kept [.regs, .cfg] s t
  wr : Wr [(aDEV_CFG_STAT, 0)] s t

theorem showStaging_shown (s : State) (x : Cfg) : StageShown x s (s.setCfg x).showStaging := by
  have hkept : Kept [.regs, .cfg] s (s.setCfg x) := setCfg_kept (by decide) x (.refl s)
  have hwr : Wr [(aDEV_CFG_STAT, 0)] s (s.setCfg x) := setCfg_wr (List.nil_subset _) x (.refl s)
  have hcfg : (s.setCfg x).cfg = x := rfl
  generalize s.setCfg x = t at hkept hwr hcfg
  have hshown := showStaging_kept (T := [.regs]) (by decide) (.refl t)
  refine ⟨hshown.cfg_eq.trans hcfg, ?_, ?_, showStaging_kept (by decide) hkept, showStaging_wr (by decide) hwr⟩
  · rw [← hcfg]
    exact (flag_put_apart (f := fCFG_STAGED_W) (g := fCFG_STAGING) _ _ (by decide) rfl (by decide)).trans
      (flag_putFlag t fCFG_STAGING _)
  · rw [← hcfg]
    exact get_put_same _ fCFG_STAGED_W _ (by decide)

-- Commit: the checks (R365)

/-- A field of the staged image. -/
def imageField (s : State) (o n : Nat) : Nat := ofLeBytes ((s.cfg.bytes.drop o).take n)

/-- A self-test or another context's staging stands against a commit. -/
def CommitBarred (s : State) (c : Cmd) : Prop := s.bist.active = true ∨ (s.cfg.owner ≠ none ∧ ¬ s.cfg.owner = some c.ctx)

def ImageCut (s : State) : Prop :=
  s.cfg.bytes.length < 64 ∨ s.cfg.bytes.length ≠ s.cfg.total ∨ s.imageField 12 4 ≠ s.cfg.total

def ImageSpoilt (s : State) : Prop :=
  crc32 (s.cfg.bytes.take 16 ++ List.replicate 4 0 ++ s.cfg.bytes.drop 20) ≠ s.imageField 16 4

/-- Dawn is held with FW_NONE (R369). -/
def FwHeld (s : State) : Prop := s.pstate = 0 ∧ s.get fPWR_HOLD = 1

variable {good : Bool} {ss : List CfgSec}

theorem cfgCommit_barred (h : CommitBarred s c) : s.cfgCommit good c = s.finishCmd c.id stBUSY 0 [] := by
  unfold cfgCommit
  dsimp only
  by_cases hb : s.bist.active = true
  · exact if_pos hb
  · obtain ⟨hsome, hother⟩ := h.resolve_left hb
    exact (if_neg hb).trans (if_pos ⟨Option.isSome_iff_ne_none.2 hsome, hother⟩)

theorem not_commitBarred (h : ¬ CommitBarred s c) : s.bist.active ≠ true ∧ ¬ (s.cfg.owner.isSome ∧ s.cfg.owner ≠ some c.ctx) :=
  ⟨fun hb => h (.inl hb), fun ho => h (.inr ⟨Option.isSome_iff_ne_none.1 ho.1, ho.2⟩)⟩

theorem cfgCommit_cut (h : ¬ CommitBarred s c) (hcut : ImageCut s) :
    s.cfgCommit good c = s.cfgReject c.id stBAD_ARG 0x10 (s.imageField 20 4) 0 emptyRep 0 0 :=
  (if_neg (not_commitBarred h).1).trans ((if_neg (not_commitBarred h).2).trans (if_pos hcut))

theorem cfgCommit_spoilt (h : ¬ CommitBarred s c) (hcut : ¬ ImageCut s) (hcrc : ImageSpoilt s) :
    s.cfgCommit good c = s.cfgReject c.id stBAD_CRC 0x11 (s.imageField 20 4) 0 emptyRep 0 0 :=
  (if_neg (not_commitBarred h).1).trans ((if_neg (not_commitBarred h).2).trans ((if_neg hcut).trans (if_pos hcrc)))

theorem cfgCommit_malformed (h : ¬ CommitBarred s c) (hcut : ¬ ImageCut s) (hcrc : ¬ ImageSpoilt s) {e : Nat}
    (hparse : parseImage s.cfg.bytes = .error e) :
    s.cfgCommit good c = s.cfgReject c.id stBAD_ARG 0x12 (s.imageField 20 4) e emptyRep 0 0 := by
  unfold cfgCommit
  refine (if_neg (not_commitBarred h).1).trans ((if_neg (not_commitBarred h).2).trans ((if_neg hcut).trans ((if_neg hcrc).trans ?_)))
  rw [hparse]
  rfl

/-- An image without firmware goes on to steps 5 to 9. -/
theorem cfgCommit_plain (h : ¬ CommitBarred s c) (hcut : ¬ ImageCut s) (hcrc : ¬ ImageSpoilt s) (hparse : parseImage s.cfg.bytes = .ok ss)
    (hfw : ∀ x ∈ ss, x.id ≠ 0x20) (hheld : ¬ FwHeld s) :
    s.cfgCommit good c = s.cfgApply c.id (s.imageField 20 4) (bitOf (s.imageField 9 1) 0) good ss := by
  have hnone : (ss.find? fun x => x.id == 0x20) = none := List.find?_eq_none.2 fun x hx he => hfw x hx (beq_iff_eq.1 he)
  unfold cfgCommit
  refine (if_neg (not_commitBarred h).1).trans ((if_neg (not_commitBarred h).2).trans ((if_neg hcut).trans ((if_neg hcrc).trans ?_)))
  rw [hparse]
  refine (if_neg fun hc => hheld hc.1).trans ?_
  rw [hnone]
  rfl

-- Commit: an image is checked (R365)

/-- The sections of an image besides a firmware section, by bit. -/
def presentOf (ss : List CfgSec) : Nat := sumList ((ss.filter fun x => x.id != 0x20).map fun x => 2 ^ x.id)

/-- The locations that an image carries. -/
def imageLocs (s : State) (ss : List CfgSec) : List Nat :=
  let ls := (mergeImage s.activeWords ss).2
  if bitOf (presentOf ss) 4 then
    ((List.range 8).foldl (fun (m : Tab Bool) n => tabSet (fun _ => false) m (aDIM_PHASE n) true) (ls.map fun l => (l, true))).map (·.1)
  else ls

/-- An image over the active words, clamped and checked, and the fields that are off in it. -/
def imageChecked (s : State) (ss : List CfgSec) : Chk × Tab Nat :=
  (Chk.clampAll ⟨(mergeImage s.activeWords ss).1, { emptyRep with rsvd := reservedOnes ss }, fixedWrites ss⟩ (s.imageLocs ss)).checkAll

/-- The checked words of an image are staged. -/
def imageStaged (s : State) (ss : List CfgSec) : State := s.setCfg { s.cfg with staged := some (s.imageChecked ss).1.t }

/-- OK or CLAMPED, by the report of an image. -/
def imageStatus (r : CfgRep) : Nat := if r.clamps.isEmpty && r.finds.isEmpty then stOK else stCLAMPED

/-- The configuration slot that a commit writes (R369). -/
def commitSlot (s : State) : Nat := if (s.rd aDEV_CFG_GEN).toNat = 0 then 0 else 1 - s.get fCFG_SLOT

/-- The generation that a commit makes (R369). -/
def commitGen (s : State) : Nat := ((s.rd aDEV_CFG_GEN).toNat + 1) % 2 ^ 32

/-- The wait of a commit for its activation. -/
def commitWait (s : State) (job image : Nat) (ss : List CfgSec) : CfgWait :=
  ⟨(s.imageChecked ss).1.t, s.commitSlot, s.commitGen, presentOf ss, image, job, ss.any fun x => x.id == 0x20, (s.imageChecked ss).1.rep,
    (s.imageChecked ss).2, false⟩

/-- A slot is written and its commit waits for its activation. -/
def commitWaits (s : State) (w : CfgWait) : State :=
  let s := s.setCfgSlot w.slot ⟨w.gen, false, true, w.words⟩
  s.setCfg { s.cfg with wait := some w }

theorem commitWaits_kept {T : List Comp} (w : CfgWait) (h : Kept T s t) (hT : Comp.cfg ∈ T := by decide) : Kept T s (t.commitWaits w) :=
  setCfg_kept (List.cons_subset.2 ⟨hT, List.nil_subset _⟩) _ (setCfgSlot_kept (List.cons_subset.2 ⟨hT, List.nil_subset _⟩) _ _ h)

variable {job image : Nat}

theorem cfgApply_check (h : ¬ FwHeld s) : s.cfgApply job image true good ss
    = ((s.imageStaged ss).setReport 0x01 (s.imageChecked ss).1.rep image (presentOf ss) (carriedOf (presentOf ss)) 0).finishCmd job
      (imageStatus (s.imageChecked ss).1.rep) 0 [] :=
  (if_neg h).trans (if_pos rfl)

theorem cfgApply_unwritten (h : ¬ FwHeld s) : s.cfgApply job image false false ss
    = ((s.imageStaged ss).flash (rewrite (flCfg s.commitSlot) 8)).cfgReject job stFAULT 0x14 image 0 (s.imageChecked ss).1.rep (presentOf ss)
      (carriedOf (presentOf ss)) :=
  (if_neg h).trans ((if_neg Bool.false_ne_true).trans (if_pos rfl))

theorem cfgApply_waits (h : ¬ FwHeld s) (hd : ¬ (s.pstate = 0 ∧ s.get fPWR_PHASE < 5)) : s.cfgApply job image false true ss
    = (((s.imageStaged ss).flash (rewrite (flCfg s.commitSlot) 8)).commitWaits (s.commitWait job image ss)).longCmd job := by
  have hkept := commitWaits_kept (s.commitWait job image ss) (flash_kept (T := [.cfg, .fspi]) (by decide) (rewrite (flCfg s.commitSlot) 8)
    (setCfg_kept (by decide) { s.cfg with staged := some (s.imageChecked ss).1.t } (.refl s)))
  have hlong := longCmd_kept (T := [.cfg, .fspi, .mbx]) (by decide) job (hkept.mono (by decide))
  have hget (f : Fld) := get_of_rd (f := f) (rd_of_kept hlong f.addr)
  have hlate : ¬ (_ ∧ _) := fun hc => hd ⟨(hget fPWR_STATE).symm.trans hc.1, (hget fPWR_PHASE).symm.trans_lt hc.2⟩
  exact (if_neg h).trans ((if_neg Bool.false_ne_true).trans ((if_neg Bool.false_ne_true).trans (if_neg hlate)))

/-- A report has been made: OUTCOME, and nothing of the configuration but the report. -/
structure Reported (outcome : Nat) (s t : State) : Prop where
  outcome : t.get fCFG_OUTCOME = outcome
  cfg : t.cfg = { s.cfg with report := t.cfg.report }
  kept : Kept [.regs, .cfg] s t
  wr : Wr [(aDEV_CFG_STAT, 0)] s t

theorem setReport_reported {outcome : Nat} (ho : outcome < 2 ^ 8) (s : State) (r : CfgRep) (image present carried rej : Nat) :
    Reported outcome s (s.setReport outcome r image present carried rej) where
  outcome := get_put_fits _ fCFG_OUTCOME ho
  cfg := rfl
  kept := setReport_kept (by decide) _ _ _ _ _ _ (.refl s)
  wr := setReport_wr (by decide) _ _ _ _ _ _ (.refl s)

/-- A command on SC0 has ended with a report of a commit, made on the state `t`. -/
structure CommitEnds (T : List Comp) (s t : State) (c : Cmd) (st outcome : Nat) (u : State) : Prop where
  ended : Ended s u c st 0 []
  outcome : u.get fCFG_OUTCOME = outcome
  cfg : u.cfg = { t.cfg with report := u.cfg.report }
  only : Only (T ++ [.mbx]) s u
  regs : OnlyRegs [(aDEV_CFG_STAT, 0)] s u

theorem report_ends {T : List Comp} (h : s.curCmd = some c) (hk : Kept T s t) (hw : Wr [(aDEV_CFG_STAT, 0)] s t) {outcome : Nat}
    (ho : outcome < 2 ^ 8) (st : Nat) (r : CfgRep) (image present carried rej : Nat) (hT : Comp.mbx ∉ T ∧ [.regs, .cfg] ⊆ T := by decide) :
    CommitEnds T s t c st outcome ((t.setReport outcome r image present carried rej).finishCmd c.id st 0 []) := by
  have hrep := setReport_reported ho t r image present carried rej
  have hkept : Kept T s (t.setReport outcome r image present carried rej) := setReport_kept hT.2 _ _ _ _ _ _ hk
  have hwr : Wr [(aDEV_CFG_STAT, 0)] s (t.setReport outcome r image present carried rej) := setReport_wr (List.Subset.refl _) _ _ _ _ _ _ hw
  generalize t.setReport outcome r image present carried rej = u at hrep hkept hwr
  obtain ⟨hended, honly⟩ := finishCmd_after h hkept st 0 [] hT.1
  have hcfg := (finishCmd_kept (T := [.mbx]) (by decide) c.id st 0 [] (.refl u)).cfg_eq
  exact ⟨hended, (get_of_rd (f := fCFG_OUTCOME) (finishCmd_rd u _ _ _ _ _)).trans hrep.outcome, by rw [hcfg]; exact hrep.cfg, honly,
    (finishCmd_wr (List.nil_subset _) _ _ _ _ hwr).onlyRegs⟩

-- The three ends of a good image (R365)

/-- The commit waits for its activation: the slot is written and not marked, and nothing active has changed. -/
structure CommitWaits (s : State) (c : Cmd) (x : CfgWait) (u : State) : Prop where
  runs : RunsOn s u c
  wait : u.cfg.wait = some x
  staged : u.cfg.staged = some x.words
  slot : u.cfgSlot x.slot = ⟨x.gen, false, true, x.words⟩
  words : u.cfg.words = s.cfg.words
  only : Only [.cfg, .mbx, .fspi] s u

theorem commitWaits_waits (h : s.curCmd = some c) (w : CfgWait) (hstaged : t.cfg.staged = some w.words) (hwords : t.cfg.words = s.cfg.words)
    (hk : Kept [.cfg, .fspi] s t) : CommitWaits s c w ((t.commitWaits w).longCmd c.id) := by
  obtain ⟨hruns, hkept⟩ := longCmd_after h (commitWaits_kept w hk)
  exact ⟨hruns, rfl, hstaged, tabGet_set_same _ _ _ _, hwords, (hkept.mono (by decide)).only⟩

theorem imageStaged_kept (s : State) (ss : List CfgSec) : Kept [.cfg] s (s.imageStaged ss) := setCfg_kept (by decide) _ (.refl s)

theorem imageStaged_wr (s : State) (ss : List CfgSec) : Wr [(aDEV_CFG_STAT, 0)] s (s.imageStaged ss) :=
  setCfg_wr (List.nil_subset _) _ (.refl s)

theorem imageStatus_le (r : CfgRep) : imageStatus r ≤ 0x01 := by
  unfold imageStatus
  split <;> decide

theorem cfgApply_check_ends (h : s.curCmd = some c) (hheld : ¬ FwHeld s) (ss : List CfgSec) (image : Nat) (good : Bool) :
    CommitEnds [.regs, .cfg] s (s.imageStaged ss) c (imageStatus (s.imageChecked ss).1.rep) 0x01 (s.cfgApply c.id image true good ss) := by
  rw [cfgApply_check hheld]
  exact report_ends h ((s.imageStaged_kept ss).mono (by decide)) (s.imageStaged_wr ss) (by decide) _ _ _ _ _ _

theorem cfgApply_unwritten_ends (h : s.curCmd = some c) (hheld : ¬ FwHeld s) (ss : List CfgSec) (image : Nat) :
    CommitEnds [.regs, .cfg, .fspi] s (s.imageStaged ss) c stFAULT 0x14 (s.cfgApply c.id image false false ss) := by
  have hkept := (s.imageStaged_kept ss).mono (U := [.regs, .cfg, .fspi]) (by decide)
  have hends := report_ends h (flash_kept (by decide) (rewrite (flCfg s.commitSlot) 8) hkept)
    (flash_wr (List.nil_subset _) (rewrite (flCfg s.commitSlot) 8) (s.imageStaged_wr ss)) (outcome := 0x14) (by decide) stFAULT (s.imageChecked ss).1.rep image
    (presentOf ss) (carriedOf (presentOf ss)) 0
  rw [cfgApply_unwritten hheld]
  exact ⟨hends.ended, hends.outcome, hends.cfg, hends.only, hends.regs⟩

theorem cfgApply_waits_runs (h : s.curCmd = some c) (hheld : ¬ FwHeld s) (hd : ¬ (s.pstate = 0 ∧ s.get fPWR_PHASE < 5)) (ss : List CfgSec) (image : Nat) :
    CommitWaits s c (s.commitWait c.id image ss) (s.cfgApply c.id image false true ss) := by
  rw [cfgApply_waits hheld hd]
  exact commitWaits_waits h _ rfl rfl (flash_kept (by decide) _ ((s.imageStaged_kept ss).mono (by decide)))

end State

end Sys2Proof.Machine
end

section
/-! THE ACTIVATION OF A COMMIT AND ITS MARK (R365, R368-R370; settles O53). -/

namespace Sys2Proof.Machine

namespace State

variable {s t u : State} {w : CfgWait}

-- What the effects of an activation leave (R368)

/-- The effects of an activation on the blocks, once its words stand. -/
def activationEffects (old : State) (r : CfgRep) (s : State) : State :=
  (effMorn old (effPat old (effIcu old (effTime old (effRing old (effAdc old (effBright old (effLoops old (effObs old (effRules old
    (effLamp old s r))))))))))).discN

theorem activate_eq (s : State) (tab : Tab Word) (loop : Bool) (d : Tab Nat) (r : CfgRep) (slot gen : Nat) :
    s.activate tab loop d r slot gen = activationEffects s r (s.wordsStand tab loop d slot gen) := rfl

/-- The register ranges that the effects of an activation write. -/
def effectRanges : List (Nat × Nat) := [(0x200C, 16), (0x2900, 0), (0x12000, 4), (0x14000, 4), (0x230, 0), (0x16104, 0), (0x18000, 0), (0x18500, 4),
  (0x220, 0), (0x270, 0), (0x2A8, 0), (0x300C, 0), (0x3040, 4), (0x5014, 0), (0x7000, 4), (0x7008, 0), (0x700C, 0), (0x7040, 4), (0x1B070, 0),
  (0x3030, 4), (0x6014, 0)]

theorem activationEffects_wr (old : State) (r : CfgRep) (s : State) : Wr effectRanges s (activationEffects old r s) :=
  discN_wr (by decide) (effMorn_wr (by decide) _ (effPat_wr (by decide) _ (effIcu_wr (by decide) _ (effTime_wr (by decide) _
    (effRing_wr (by decide) _ (effAdc_wr (by decide) _ (effBright_wr (by decide) _ (effLoops_wr (by decide) _
      (effObs_wr (by decide) _ (effRules_wr (by decide) _ (effLamp_wr (by decide) _ _ (.refl s))))))))))))

/-- The slot and the generation of the active configuration, and that there is one. -/
structure Activated (slot gen : Nat) (s : State) : Prop where
  slot : s.get fCFG_SLOT = slot % 2
  gen : s.rd aDEV_CFG_GEN = BitVec.ofNat 32 gen
  some : s.flag fCFG_NONE = false

theorem wordsStand_activated (s : State) (tab : Tab Word) (loop : Bool) (d : Tab Nat) (slot gen : Nat) :
    Activated slot gen (s.wordsStand tab loop d slot gen) := by
  have hshown (u : State) : Activated slot gen ((((u.put fCFG_SLOT slot).wr aDEV_CFG_GEN gen).putFlag fCFG_NONE false).lifeAcc (lifeDevice + 56) 1) := by
    have hlife := lifeAcc_kept (T := [.life]) (by decide) (lifeDevice + 56) 1 (.refl (((u.put fCFG_SLOT slot).wr aDEV_CFG_GEN gen).putFlag fCFG_NONE false))
    have hget (f : Fld) := get_of_rd (f := f) (rd_of_kept hlife f.addr)
    have hflag (f : Fld) := flag_of_rd (f := f) (rd_of_kept hlife f.addr)
    have hwr (f : Fld) (hf : f.addr ≠ aDEV_CFG_GEN := by decide) := get_of_rd (f := f) (rd_wr_other (u.put fCFG_SLOT slot) gen hf)
    refine ⟨?_, ?_, ?_⟩
    · rw [hget fCFG_SLOT, get_putFlag_apart (f := fCFG_NONE) (g := fCFG_SLOT), hwr fCFG_SLOT, get_put_same _ fCFG_SLOT _ (by decide)]
      rfl
    · rw [rd_of_kept hlife, rd_putFlag_other, rd_wr_same]
      decide
    · exact (hflag fCFG_NONE).trans (flag_putFlag _ fCFG_NONE false)
  exact hshown _

theorem activate_activated (s : State) (tab : Tab Word) (loop : Bool) (d : Tab Nat) (r : CfgRep) (slot gen : Nat) :
    Activated slot gen (s.activate tab loop d r slot gen) := by
  have hwr := activationEffects_wr s r (s.wordsStand tab loop d slot gen)
  have hstand := s.wordsStand_activated tab loop d slot gen
  rw [activate_eq]
  generalize s.wordsStand tab loop d slot gen = t at hwr hstand
  exact ⟨(hwr.get fCFG_SLOT).trans hstand.slot, (hwr.eq _ (by decide)).trans hstand.gen, (hwr.flag fCFG_NONE).trans hstand.some⟩

-- The activation at the start of a rule period (R368)

/-- A firmware image with the configuration becomes bootable. -/
def firmwareMarked (w : CfgWait) (s : State) : State := if w.fw then s.fwMark (1 - s.sec.running) else s

/-- A rule period begins where rules run. -/
def periodBegun (s : State) : State := if s.rulesRun then { s with rule := { s.rule with start := s.grid.tick } } else s

/-- The commit has been activated and waits for its mark. -/
def waitActivated (s : State) (w : CfgWait) : State := s.setCfg { s.cfg with wait := some { w with done := true } }

theorem cfgActivate_eq (h : s.cfg.wait = some w) (hdone : w.done = false) (hmn : s.midnight = false) :
    s.cfgActivate = (((s.waitActivated w).activate w.words (bitOf w.present 0x0A) w.disabled w.rep w.slot w.gen).firmwareMarked w).periodBegun := by
  unfold cfgActivate
  rw [h]
  exact (if_neg (by rw [hdone]; decide)).trans (if_neg (by rw [hmn]; decide))

theorem firmwareMarked_kept (w : CfgWait) (s : State) : Kept [.sec, .fspi] s (s.firmwareMarked w) :=
  .ite (fwMark_kept (by decide) _ (.refl s)) (.refl s)

theorem periodBegun_kept (s : State) : Kept [.rule] s s.periodBegun :=
  .ite (Kept.upd_rule (.refl s) (by decide)) (.refl s)

theorem periodBegun_start (h : s.rulesRun = true) : s.periodBegun.rule.start = s.grid.tick := by
  unfold periodBegun
  rw [if_pos h]

/-- The parts of the state that an activation reaches. -/
abbrev activationParts : List Comp :=
  [.regs, .time, .icu, .evt, .nw, .mem, .life, .pwr, .obs, .rule, .cfg, .chans, .res, .dim, .adc, .ring, .ptp]

/-- What an activation at the start of a rule period has done. -/
structure ActivationDone (w : CfgWait) (s t : State) : Prop where
  cfg : t.cfg = { s.cfg with
    wait := some { w with done := true }, words := w.words.filter fun p => decide (2 ^ 24 ≤ p.1), disabled := w.disabled }
  shown : Activated w.slot w.gen t
  mbx : t.mbx = s.mbx
  start : s.rulesRun = true → t.rule.start = s.grid.tick

theorem Activated.of_kept {T : List Comp} {slot gen : Nat} (h : Activated slot gen s) (hk : Kept T s t) (hT : Comp.regs ∉ T := by decide) :
    Activated slot gen t := by
  have hrd (a : Nat) := rd_of_kept hk a hT
  exact ⟨(get_of_rd (f := fCFG_SLOT) (hrd _)).trans h.slot, (hrd _).trans h.gen, (flag_of_rd (f := fCFG_NONE) (hrd _)).trans h.some⟩

theorem cfgActivate_done (h : s.cfg.wait = some w) (hdone : w.done = false) (hmn : s.midnight = false) : ActivationDone w s s.cfgActivate := by
  have hwait : Kept [.cfg] s (s.waitActivated w) := setCfg_kept (by decide) _ (.refl s)
  have hcfg : (s.waitActivated w).cfg = { s.cfg with wait := some { w with done := true } } := rfl
  have heq := cfgActivate_eq h hdone hmn
  generalize s.waitActivated w = x at heq hwait hcfg
  have hact := activate_kept (T := activationParts) (by decide) w.words (bitOf w.present 0x0A) w.disabled w.rep w.slot w.gen (.refl x)
  have hset := x.activate_cfg w.words (bitOf w.present 0x0A) w.disabled w.rep w.slot w.gen
  have hshown := x.activate_activated w.words (bitOf w.present 0x0A) w.disabled w.rep w.slot w.gen
  have hrules (hr : x.rulesRun = true) := activate_rules w.words (bitOf w.present 0x0A) w.disabled w.rep w.slot w.gen hr
  generalize x.activate w.words (bitOf w.present 0x0A) w.disabled w.rep w.slot w.gen = y at heq hact hset hshown hrules
  have hmark := y.firmwareMarked_kept w
  generalize y.firmwareMarked w = z at heq hmark
  have hbegun := z.periodBegun_kept
  have hend : ActivationDone w s z.periodBegun := by
    refine ⟨?_, (hshown.of_kept hmark).of_kept hbegun, ?_, fun hr => ?_⟩
    · rw [hbegun.cfg_eq, hmark.cfg_eq, hset, hcfg]
    · rw [hbegun.mbx_eq, hmark.mbx_eq, hact.mbx_eq, hwait.mbx_eq]
    · have hz := rules_of_kept hmark (hrules (rules_of_kept hwait hr))
      rw [periodBegun_start hz, hmark.grid_eq, hact.grid_eq, hwait.grid_eq]
  rw [heq]
  exact hend

theorem cfgActivate_midnight (h : s.cfg.wait = some w) (hdone : w.done = false) (hmn : s.midnight = true) :
    s.cfgActivate = (s.setCfg { s.cfg with wait := none }).finishCmd w.job stFAULT 0 [] := by
  unfold cfgActivate
  rw [h]
  exact (if_neg (by rw [hdone]; decide)).trans (if_pos hmn)

-- The end of the command of a commit

/-- The command of a commit has ended with a status. -/
structure JobEnded (job st : Nat) (s t : State) : Prop where
  cmds : t.mbx.cmds = s.mbx.cmds.map fun x => if x.id = job then { x with phase := .done, status := st, r0 := 0, out := [] } else x

theorem finishCmd_job (s : State) (job st : Nat) : JobEnded job st s (s.finishCmd job st 0 []) := by
  constructor
  unfold finishCmd
  dsimp only [setMbx, updCmd]
  simp only [List.take_nil, Nat.zero_mod]

-- The mark (R369, R370)

/-- The mark of the slot is written and its repetition over. -/
def slotMarked (s : State) (w : CfgWait) : State :=
  ((s.setCfg { s.cfg with wait := none }).cfgMarkSlot w.slot).putFlag fCFG_MARK_REDONE false

theorem cfgMark_eq (h : s.cfg.wait = some w) (hdone : w.done = true) (hlost : s.flag fNW_SC0_LOST = false) (hgood : s.pwr.good = true) :
    s.cfgMark = ((s.slotMarked w).setReport 0x00 w.rep w.image w.present (carriedOf w.present) 0).finishCmd w.job (imageStatus w.rep) 0 [] := by
  unfold cfgMark
  rw [h]
  exact if_neg (by rw [hdone, hlost, hgood]; decide)

/-- The slot has been marked, its commit is over, and CFG_MARK_REDONE is clear. -/
structure SlotMarked (w : CfgWait) (s t : State) : Prop where
  wait : t.cfg.wait = none
  marked : (t.cfgSlot w.slot).marked = true
  redone : t.flag fCFG_MARK_REDONE = false

theorem slotMarked_marked (s : State) (w : CfgWait) : SlotMarked w s (s.slotMarked w) ∧ Kept [.regs, .cfg, .fspi] s (s.slotMarked w) := by
  have hslot (t : State) (ht : t.cfg.wait = none) : (t.cfgMarkSlot w.slot).cfg.wait = none ∧ ((t.cfgMarkSlot w.slot).cfgSlot w.slot).marked = true := by
    have hset := congrArg CfgSlot.marked (tabGet_set_same (fun _ => ⟨0, false, false, []⟩) t.cfg.slots w.slot { t.cfgSlot w.slot with marked := true })
    exact ⟨ht, hset⟩
  have hwait := hslot (s.setCfg { s.cfg with wait := none }) rfl
  have hkept : Kept [.regs, .cfg, .fspi] s ((s.setCfg { s.cfg with wait := none }).cfgMarkSlot w.slot) :=
    cfgMarkSlot_kept (by decide) _ (setCfg_kept (by decide) _ (.refl s))
  unfold slotMarked
  generalize (s.setCfg { s.cfg with wait := none }).cfgMarkSlot w.slot = t at hwait hkept
  have hflag := putFlag_kept (T := [.regs]) (by decide) fCFG_MARK_REDONE false (.refl t)
  exact ⟨⟨by rw [hflag.cfg_eq]; exact hwait.1, by unfold cfgSlot; rw [hflag.cfg_eq]; exact hwait.2, flag_putFlag _ fCFG_MARK_REDONE false⟩,
    putFlag_kept (by decide) _ _ hkept⟩

/-- What the mark of an activated commit has done. -/
structure MarkDone (w : CfgWait) (s t : State) : Prop where
  job : JobEnded w.job (imageStatus w.rep) s t
  slot : SlotMarked w s t
  outcome : t.get fCFG_OUTCOME = 0x00
  only : Only [.regs, .cfg, .mbx, .fspi] s t

theorem cfgMark_done (h : s.cfg.wait = some w) (hdone : w.done = true) (hlost : s.flag fNW_SC0_LOST = false) (hgood : s.pwr.good = true) :
    MarkDone w s s.cfgMark := by
  obtain ⟨hslot, hkept⟩ := s.slotMarked_marked w
  have heq := cfgMark_eq h hdone hlost hgood
  generalize s.slotMarked w = x at heq hslot hkept
  have hrep := setReport_reported (outcome := 0x00) (by decide) x w.rep w.image w.present (carriedOf w.present) 0
  have hredone : (x.setReport 0x00 w.rep w.image w.present (carriedOf w.present) 0).flag fCFG_MARK_REDONE = false :=
    (flag_put_apart (f := fCFG_OUTCOME) (g := fCFG_MARK_REDONE) _ _ (by decide) rfl (by decide)).trans hslot.redone
  generalize x.setReport 0x00 w.rep w.image w.present (carriedOf w.present) 0 = y at heq hrep hredone
  have hfin := finishCmd_kept (T := [.mbx]) (by decide) w.job (imageStatus w.rep) 0 [] (.refl y)
  have hrd (a : Nat) := rd_of_kept hfin a
  have hjob := (y.finishCmd_job w.job (imageStatus w.rep)).cmds
  have hkept' : Kept [.regs, .cfg, .fspi] s y := hkept.trans (hrep.kept.mono (by decide))
  have honly := finishCmd_only (U := [.regs, .cfg, .mbx, .fspi]) hkept' (by decide) (by decide) w.job (imageStatus w.rep) 0 []
  generalize y.finishCmd w.job (imageStatus w.rep) 0 [] = z at heq hfin hrd hjob honly
  have hslots : z.cfg.slots = x.cfg.slots := by rw [hfin.cfg_eq, hrep.cfg]
  have hend : MarkDone w s z := by
    refine ⟨⟨?_⟩, ⟨?_, ?_, (flag_of_rd (f := fCFG_MARK_REDONE) (hrd _)).trans hredone⟩, (get_of_rd (f := fCFG_OUTCOME) (hrd _)).trans hrep.outcome, honly⟩
    · rw [hjob, hkept'.mbx_eq]
    · rw [hfin.cfg_eq, hrep.cfg]
      exact hslot.wait
    · unfold cfgSlot
      rw [hslots]
      exact hslot.marked
  rw [heq]
  exact hend

end State

theorem exec_cfgStageBlock (s : State) : exec .cfgStageBlock s = .next (s.onCmd (fun c => c.op == opCFG_STAGE_BLOCK) fun c =>
    (s.stageBlock c.ctx (c.data.take c.plen)).1.finishCmd c.id (s.stageBlock c.ctx (c.data.take c.plen)).2 0 []) := rfl
theorem exec_cfgCommit (good : Bool) (s : State) :
    exec (.cfgCommit good) s = .next (s.onCmd (fun c => c.op == opCFG_COMMIT) (s.cfgCommit good)) := rfl
theorem exec_cfgActivation (s : State) : exec .cfgActivation s =
    if (s.periodBegins && s.untaken periodKey) || s.midnight then .next s.cfgActivate else .next s := rfl

/-- A block that is staged. -/
structure BlockStaged (s : State) (c : Cmd) (x : Cfg) (u : State) : Prop where
  ended : Ended s u c 0x00 0 []
  cfg : u.cfg = x
  staging : u.flag fCFG_STAGING = x.owner.isSome
  words : u.get fCFG_STAGED_W = x.bytes.length / 4 % 2 ^ 20
  only : Only [.regs, .cfg, .mbx] s u
  regs : OnlyRegs [(aDEV_CFG_STAT, 0)] s u

theorem blockStaged_of {s t : State} {c : Cmd} {x : Cfg} (h : s.curCmd = some c) (hs : State.StageShown x s t) :
    BlockStaged s c x (t.finishCmd c.id stOK 0 []) := by
  obtain ⟨hended, honly⟩ := State.finishCmd_after h hs.kept stOK 0 []
  have hfin := State.finishCmd_kept (T := [.mbx]) (by decide) c.id stOK 0 [] (.refl t)
  exact ⟨hended, hfin.cfg_eq.trans hs.cfg, (State.flag_of_rd (f := fCFG_STAGING) (State.finishCmd_rd t _ _ _ _ _)).trans hs.staging,
    (State.get_of_rd (f := fCFG_STAGED_W) (State.finishCmd_rd t _ _ _ _ _)).trans hs.words, honly,
    (State.finishCmd_wr (List.nil_subset _) _ _ _ _ hs.wr).onlyRegs⟩

theorem bitOf_zero {x : Nat} : bitOf x 0 = true ↔ x % 2 = 1 := by
  rw [bitOf, beq_iff_eq, pow_zero, Nat.div_one]

/-- Settles O53. -/
theorem configurationCommands : Obligations.ConfigurationCommands := by
  intro s c ss e w good b off total body mine busy short big next ends staged img f barred badLen badCrc rejected plain check
  have hidle (hs : s.cfgActivate = s) : exec .cfgActivation s = .next s := by
    rw [exec_cfgActivation, hs, ite_self]
  refine ⟨fun h => ?stage, fun h => ?commit, fun hw => ?none, fun hw hd => ?doneAlready, fun hw => ?wait⟩
  case stage =>
    have hrun {r : State × Nat} (hr : s.stageBlock c.ctx b = r) : exec .cfgStageBlock s = .next (r.1.finishCmd c.id r.2 0 []) := by
      rw [← hr]
      exact (exec_cfgStageBlock s).trans (congrArg Host.Outcome.next (State.onCmd_of_runs h _))
    have hends {st : Nat} (hr : s.stageBlock c.ctx b = (s, st)) : ends .cfgStageBlock st :=
      .of_eq (hrun hr) (State.finishCmd_after h.1 (T := []) (.refl s) st 0 [])
    have hstaged {x : Cfg} (ho : x.owner.isSome = true) (hr : s.stageBlock c.ctx b = ((s.setCfg x).showStaging, stOK)) : staged x := by
      have hdone := blockStaged_of h.1 (s.showStaging_shown x)
      exact .of_eq (hrun hr) ⟨hdone.ended, hdone.cfg, hdone.staging.trans ho, hdone.words, hdone.only, hdone.regs⟩
    refine ⟨fun hs => hends (State.stageBlock_short hs), fun hs hb => hends (State.stageBlock_busy hs hb),
      fun hs hb hl => hends (State.stageBlock_big hs hb hl), fun hs hb hl h0 => hstaged rfl (State.stageBlock_fits hs hb hl (if_pos h0)),
      fun hs hb hl h0 hn => ?_, fun hs hb hl h0 hn => hends (State.stageBlock_fits hs hb hl ((if_neg h0).trans (if_neg (State.stageNext_iff.not.2 hn))))⟩
    exact hstaged (Option.isSome_iff_exists.2 ⟨_, hn.1⟩) (State.stageBlock_fits hs hb hl ((if_neg h0).trans (if_pos (State.stageNext_iff.2 hn))))
  case commit =>
    have hrun {u : State} (hr : s.cfgCommit good c = u) : exec (.cfgCommit good) s = .next u := by
      rw [← hr]
      exact (exec_cfgCommit good s).trans (congrArg Host.Outcome.next (State.onCmd_of_runs h _))
    have hrejected {st outcome image rej : Nat} (ho : outcome < 2 ^ 8) (hr : s.cfgCommit good c = s.cfgReject c.id st outcome image rej emptyRep 0 0) :
        rejected st outcome := by
      have hend := State.report_ends h.1 (T := [.regs, .cfg]) (.refl s) (.refl s) ho st emptyRep image 0 0 rej
      exact .of_eq (hrun hr) ⟨hend.ended, hend.outcome, hend.cfg, hend.only, hend.regs⟩
    have hplain {k : Bool} (hp : plain) (hk : (bitOf (s.imageField 9 1) 0) = k) :
        s.cfgCommit good c = s.cfgApply c.id (s.imageField 20 4) k good ss := by
      obtain ⟨hb, hcut, hcrc, hparse, hfw, hheld⟩ := hp
      rw [← hk]
      exact State.cfgCommit_plain hb hcut hcrc hparse hfw hheld
    have hheld : plain → ¬ State.FwHeld s := fun ⟨_, _, _, _, _, h⟩ => h
    have hfw : plain → ∀ x ∈ ss, x.id ≠ 0x20 := fun ⟨_, _, _, _, h, _⟩ => h
    refine ⟨fun hb => .of_eq (hrun (State.cfgCommit_barred hb)) (State.finishCmd_after h.1 (T := []) (.refl s) _ _ _),
      fun hb hcut => hrejected (by decide) (State.cfgCommit_cut hb hcut),
      fun hb hcut hcrc => hrejected (by decide) (State.cfgCommit_spoilt hb hcut hcrc),
      fun hb hcut hcrc hp => hrejected (by decide) (State.cfgCommit_malformed hb hcut hcrc hp), fun hp hk => ?check,
      fun hp hk hg hd => ?waits, fun hp hk hg => ?unwritten⟩
    case check =>
      have hend := State.cfgApply_check_ends h.1 (hheld hp) ss (s.imageField 20 4) good
      exact .of_eq (hrun (hplain hp (bitOf_zero.2 hk))) ⟨⟨_, State.imageStatus_le _, hend.ended⟩, hend.outcome, by rw [hend.cfg]; rfl, hend.only, hend.regs⟩
    case waits =>
      subst hg
      have hend := State.cfgApply_waits_runs h.1 (hheld hp) hd ss (s.imageField 20 4)
      have hno : (ss.any fun x => x.id == 0x20) = false := List.any_eq_false.2 fun x hx he => hfw hp x hx (beq_iff_eq.1 he)
      exact .of_eq (hrun (hplain hp (Bool.eq_false_iff.2 (bitOf_zero.not.2 hk)))) ⟨hend.runs,
        ⟨_, hend.wait, rfl, hno, rfl, hend.staged, congrArg CfgSlot.words hend.slot, congrArg CfgSlot.marked hend.slot, rfl⟩, hend.words, hend.only⟩
    case unwritten =>
      subst hg
      have hend := State.cfgApply_unwritten_ends h.1 (hheld hp) ss (s.imageField 20 4)
      exact .of_eq (hrun (hplain hp (Bool.eq_false_iff.2 (bitOf_zero.not.2 hk)))) ⟨hend.ended, hend.outcome, by rw [hend.cfg]; rfl, hend.only.widen (by decide), hend.regs⟩
  case none => exact .of_eq (hidle (State.cfgActivate_none (w := w) (.inl hw))) rfl
  case doneAlready => exact .of_eq (hidle (State.cfgActivate_none (.inr ⟨hw, hd⟩))) rfl
  case wait =>
    refine ⟨fun hd hmn => ?midnight, fun hmn hs => .of_eq ?_ rfl, fun hd hmn hs => ?starts, fun hd hl hg => ?mark⟩
    case midnight =>
      have hrun : exec .cfgActivation s = .next ((s.setCfg { s.cfg with wait := none }).finishCmd w.job stFAULT 0 []) :=
        (exec_cfgActivation s).trans ((if_pos (by rw [hmn, Bool.or_true])).trans (congrArg Host.Outcome.next (State.cfgActivate_midnight hw hd hmn)))
      have hkept : Kept [.cfg] s (s.setCfg { s.cfg with wait := none }) := State.setCfg_kept (by decide) _ (.refl s)
      exact .of_eq hrun ⟨(State.finishCmd_job _ _ _).cmds, rfl, State.finishCmd_only hkept (by decide) (by decide) _ _ _ _⟩
    · exact (exec_cfgActivation s).trans (if_neg fun hc => hs (by simpa only [hmn, Bool.or_false, Bool.and_eq_true] using hc))
    case starts =>
      have hrun : exec .cfgActivation s = .next s.cfgActivate :=
        (exec_cfgActivation s).trans (if_pos (by rw [hs.1, hs.2]; rfl))
      have hdone := State.cfgActivate_done hw hd hmn
      have hcfg := hdone.cfg
      refine .of_eq hrun ⟨by rw [hcfg], by rw [hcfg], by rw [hcfg], hdone.shown.slot, hdone.shown.gen, ?_, hdone.shown.some, hdone.mbx, hdone.start⟩
      unfold State.cfgSlot
      rw [hcfg]
    case mark =>
      have hdone := State.cfgMark_done hw hd hl hg
      exact ⟨hdone.job.cmds, hdone.slot.wait, hdone.slot.marked, hdone.outcome, hdone.slot.redone, hdone.only⟩

end Sys2Proof.Machine
end

section
/-! A SELF-TEST RUN AND ITS BLOCKS (R397-R410; settles O54). -/

namespace Sys2Proof.Machine

namespace State

variable {s t u : State} {c : Cmd} {b : Nat}

-- A run (R397)

/-- Arguments that BIST_RUN does not take. -/
def BistArgsBad (c : Cmd) : Prop :=
  bistSelect (c.arg 0) (c.arg 1 % 4) = [] ∨ 4 ≤ c.arg 1 ∨ 4 ≤ c.arg 2 ∨ (c.ctx = 0 ∧ c.rlen < 64)

theorem bistArgsBad_iff : ((bistSelect (c.arg 0) (c.arg 1 % 4)).isEmpty || decide (4 ≤ c.arg 1) || decide (4 ≤ c.arg 2)
    || (c.ctx == 0 && decide (c.rlen < 64))) = true ↔ BistArgsBad c := by
  unfold BistArgsBad
  simp only [Bool.or_eq_true, Bool.and_eq_true, List.isEmpty_iff, decide_eq_true_eq, beq_iff_eq, or_assoc]

/-- A run has begun as its command on SC0 asks. -/
structure RunBegun (s : State) (c : Cmd) (u : State) : Prop where
  runs : RunsOn s u c
  bist : u.bist = { s.bist with
    active := true, job := some c.id, left := bistSelect (c.arg 0) (c.arg 1 % 4), force := bitOf (c.arg 2) 0, stop := bitOf (c.arg 2) 1, cur := none,
    out := [], cause := 0, bank := none, slice := false }
  running : u.flag fBIST_RUNNING = true
  only : Only [.regs, .mbx, .bist] s u
  regs : OnlyRegs [(aDEV_BIST_STAT, 0)] s u

theorem bistBegin_runs (h : s.curCmd = some c) : RunBegun s c
    ((s.bistBegin (some c.id) (bistSelect (c.arg 0) (c.arg 1 % 4)) (bitOf (c.arg 2) 0) (bitOf (c.arg 2) 1)).longCmd c.id) := by
  have hkept : Kept [.regs, .bist] s (s.bistBegin (some c.id) (bistSelect (c.arg 0) (c.arg 1 % 4)) (bitOf (c.arg 2) 0) (bitOf (c.arg 2) 1)) :=
    bistBegin_kept (by decide) _ _ _ _ (.refl s)
  have hwr : Wr [(aDEV_BIST_STAT, 0)] s (s.bistBegin (some c.id) (bistSelect (c.arg 0) (c.arg 1 % 4)) (bitOf (c.arg 2) 0) (bitOf (c.arg 2) 1)) :=
    bistBegin_wr (by decide) _ _ _ _ (.refl s)
  obtain ⟨-, -, -, hrun⟩ := s.bistBegin_begun (some c.id) (bistSelect (c.arg 0) (c.arg 1 % 4)) (bitOf (c.arg 2) 0) (bitOf (c.arg 2) 1)
  have hbist : (s.bistBegin (some c.id) (bistSelect (c.arg 0) (c.arg 1 % 4)) (bitOf (c.arg 2) 0) (bitOf (c.arg 2) 1)).bist = { s.bist with
    active := true, job := some c.id, left := bistSelect (c.arg 0) (c.arg 1 % 4), force := bitOf (c.arg 2) 0, stop := bitOf (c.arg 2) 1, cur := none,
    out := [], cause := 0, bank := none, slice := false } := rfl
  generalize s.bistBegin (some c.id) (bistSelect (c.arg 0) (c.arg 1 % 4)) (bitOf (c.arg 2) 0) (bitOf (c.arg 2) 1) = t at hkept hwr hrun hbist
  obtain ⟨hruns, hlong⟩ := longCmd_after h hkept
  have hlast := longCmd_kept (T := [.mbx]) (by decide) c.id (.refl t)
  exact ⟨hruns, hlast.bist_eq.trans hbist, (flag_of_rd (f := fBIST_RUNNING) (rd_of_kept hlast _)).trans hrun, (hlong.mono (by decide)).only,
    (longCmd_wr (List.nil_subset _) _ hwr).onlyRegs⟩

-- The record of an outcome (R400)

theorem last_apart {R : List (Nat × Nat)} (hb : b < 34) (h : ∀ b : Fin 34, hits R (fBIST_LAST b).addr = false := by decide) :
    hits R (fBIST_LAST b).addr = false := h ⟨b, hb⟩

/-- The outcome of a block has been recorded. -/
structure OutcomeRecorded (b o r : Nat) (s t : State) : Prop where
  bist : ∃ d, t.bist = { s.bist with out := tabSet (fun _ => 0) s.bist.out b (o + 16 * r), data := d }
  last : b < 34 → o < 16 → t.get (fBIST_LAST b) = o
  kept : Kept [.regs, .evt, .bist] s t

theorem bistRecord_recorded (s : State) (b o r n e : Nat) : OutcomeRecorded b o r s (s.bistRecord b o r n e) := by
  have hshown (y : State) (i j : Nat) (l : List Nat) : Wr [(0x280, 0), (0x2A8, 0), (0x5014, 0)] y
      (((y.put fBIST_NFAIL i).put fBIST_NINC j).logFw evBIST kBIST b l) :=
    logFw_wr (by decide) _ _ _ _ (put_wr (by decide) (put_wr (by decide) (.refl y)))
  have hafter (y : State) (i j : Nat) (l : List Nat) : Kept [.regs, .evt] y
      (((y.put fBIST_NFAIL i).put fBIST_NINC j).logFw evBIST kBIST b l) :=
    logFw_kept (by decide) _ _ _ _ (put_kept (by decide) _ _ (put_kept (by decide) _ _ (.refl y)))
  have hlast (y : State) (hb : b < 34) (ho : o < 16) : (y.put (fBIST_LAST b) o).get (fBIST_LAST b) = o :=
    get_put_fits y (fBIST_LAST b) ho (by simp only [fBIST_LAST]; omega)
  have hset (y : State) : (y.put (fBIST_LAST b) o).bist = y.bist := (put_kept (T := [.regs]) (by decide) (fBIST_LAST b) o (.refl y)).bist_eq
  refine ⟨⟨_, (hafter _ _ _ _).bist_eq.trans (hset _)⟩, fun hb ho => ?_, bistRecord_kept (by decide) _ _ _ _ _ (.refl s)⟩
  exact ((hshown _ _ _ _).get _ (last_apart hb)).trans (hlast _ hb ho)

/-- What has been recorded of a block, the blocks left and that none is under test stand. -/
structure OutcomeStands (b : Nat) (s t : State) : Prop where
  cur : s.bist.cur = none → t.bist.cur = none
  out : t.bistOut b = s.bistOut b
  last : b < 34 → t.get (fBIST_LAST b) = s.get (fBIST_LAST b)

theorem OutcomeStands.trans (h : OutcomeStands b s t) (k : OutcomeStands b t u) : OutcomeStands b s u :=
  ⟨fun hc => k.cur (h.cur hc), k.out.trans h.out, fun hb => (k.last hb).trans (h.last hb)⟩

theorem OutcomeStands.of_kept {T : List Comp} {R : List (Nat × Nat)} (hk : Kept T s t) (hw : Wr R s t) (hT : Comp.bist ∉ T := by decide)
    (hR : ∀ b : Fin 34, hits R (fBIST_LAST b).addr = false := by decide) : OutcomeStands b s t := by
  have hbist := hk.bist_eq hT
  exact ⟨fun hc => by rw [hbist, hc], by rw [bistOut, hbist, bistOut], fun hb => hw.get _ (hR ⟨b, hb⟩)⟩

theorem bistIdle_bist (s : State) : s.bistIdle.bist = { s.bist with
    active := false, cur := none, left := [], cause := 0, bank := none, slice := false } := by
  have hput (y : State) : (((y.putFlag fBIST_RUNNING false).putFlag fBIST_FORCED false).put fBIST_CUR 0).bist = y.bist :=
    (put_kept (T := [.regs]) (by decide) _ _ (putFlag_kept (by decide) _ _ (putFlag_kept (by decide) _ _ (.refl y)))).bist_eq
  have hidle (y z : State) (hz : z.bist = y.bist) : (z.setBist { z.bist with
      active := false, cur := none, left := [], cause := 0, bank := none, slice := false }).bist = { y.bist with
      active := false, cur := none, left := [], cause := 0, bank := none, slice := false } := by rw [setBist, hz]
  have hspi (x : Spi) (p : Bool) : (if p then { s with spi := x } else s).bist = s.bist := by
    split
    · rfl
    · rfl
  exact hidle s _ ((hput _).trans (hspi _ _))

/-- The run ends with its command where no block is left. -/
def runOver (s : State) : State :=
  (match s.bist.job with
    | some id => s.finishCmd id s.bistStatus s.bistResult0 s.bistPayload
    | none => s).bistIdle

theorem runOver_bist (s : State) : s.runOver.bist = { s.bist with
    active := false, cur := none, left := [], cause := 0, bank := none, slice := false } := by
  unfold runOver
  rw [bistIdle_bist]
  split
  · rfl
  · rfl

theorem bistNext_eq (s : State) : s.bistNext = if !s.bist.active || s.bist.cur.isSome || !s.bist.left.isEmpty then s else s.runOver := rfl

theorem bistNext_stands (b : Nat) (s : State) : OutcomeStands b s s.bistNext := by
  have hwr := bistNext_wr (R := [(0x280, 0)]) (by decide) (.refl s)
  have hbist : (s.bist.cur = none → s.bistNext.bist.cur = none) ∧ s.bistNext.bist.out = s.bist.out := by
    rw [bistNext_eq]
    split
    · exact ⟨id, rfl⟩
    · rw [runOver_bist]
      exact ⟨fun _ => rfl, rfl⟩
  exact ⟨hbist.1, by rw [bistOut, hbist.2, bistOut], fun hb => hwr.get _ (last_apart hb)⟩

theorem bistNext_left (s : State) : s.bistNext.bist.left = s.bist.left := by
  rw [bistNext_eq]
  split
  · rfl
  next h =>
    rw [runOver_bist]
    simp only [Bool.or_eq_true, not_or, Bool.not_eq_true', Bool.not_eq_false, List.isEmpty_iff] at h
    exact h.2.symm

-- A block starts (R398, R401)

variable {rest : List Nat} {hot : Bool}

/-- A run between blocks, with a next one. -/
def BetweenBlocks (s : State) (b : Nat) (rest : List Nat) : Prop := s.bist.active = true ∧ s.bist.cur = none ∧ s.bist.left = b :: rest

/-- The next block is taken from those left. -/
def blockTaken (s : State) (rest : List Nat) : State := s.setBist { s.bist with left := rest }

/-- A block is under test from this tick. -/
def blockUnder (s : State) (b : Nat) : State :=
  (s.put fBIST_CUR b).setBist { s.bist with
    cur := some b, start := s.grid.tick, cause := 0, regions := 0, bad := [], slices := 40, cuts := 0, slice := false }

/-- The block under test is marked as forced where it has no cover. -/
def blockForced (s : State) (b : Nat) (covered : Bool) : State := if !covered then s.bistForced b else s

theorem bistStart_refused (h : BetweenBlocks s b rest) (hp : s.bistPrecond b hot ≠ 0) :
    s.bistStart hot = ((s.blockTaken rest).bistRecord b boREFUSED (s.bistPrecond b hot) 0 0).bistNext := by
  obtain ⟨hact, hcur, hleft⟩ := h
  unfold bistStart
  rw [hact, hcur, hleft]
  exact if_pos hp

theorem bistStart_none (h : s.bist.active = false ∨ s.bist.cur ≠ none ∨ s.bist.left = []) : s.bistStart hot = s := by
  unfold bistStart
  split
  next hact hcur hleft =>
    obtain h | h | h := h
    · exact nomatch h.symm.trans hact
    · exact absurd hcur h
    · exact nomatch h.symm.trans hleft
  · rfl

/-- A block has been refused with a reason, and the run goes on with the others. -/
structure BlockRefused (b : Nat) (rest : List Nat) (r : Nat) (s u : State) : Prop where
  cur : u.bist.cur = none
  left : u.bist.left = rest
  out : u.bistOut b = 4 + 16 * r
  last : b < 34 → u.get (fBIST_LAST b) = 4
  only : Only [.regs, .evt, .spi, .mbx, .bist] s u

theorem bistStart_blockRefused (h : BetweenBlocks s b rest) (hp : s.bistPrecond b hot ≠ 0) :
    BlockRefused b rest (s.bistPrecond b hot) s (s.bistStart hot) := by
  have htaken : Kept [.bist] s (s.blockTaken rest) := setBist_kept (by decide) _ (.refl s)
  have hbist : (s.blockTaken rest).bist = { s.bist with left := rest } := rfl
  rw [bistStart_refused h hp]
  generalize s.bistPrecond b hot = r
  generalize s.blockTaken rest = x at htaken hbist
  have hrec := x.bistRecord_recorded b boREFUSED r 0 0
  generalize x.bistRecord b boREFUSED r 0 0 = y at hrec
  obtain ⟨d, hrecBist⟩ := hrec.bist
  have hstands := bistNext_stands b y
  have hcur : y.bist.cur = none := by rw [hrecBist, hbist]; exact h.2.1
  have hleft : y.bist.left = rest := by rw [hrecBist, hbist]
  have hout : y.bistOut b = 4 + 16 * r := by rw [bistOut, hrecBist]; exact tabGet_set_same _ _ _ _
  have hall : Kept [.regs, .evt, .spi, .mbx, .bist] s y := (htaken.mono (by decide)).trans (hrec.kept.mono (by decide))
  exact ⟨hstands.cur hcur, y.bistNext_left.trans hleft, hstands.out.trans hout, fun hb => (hstands.last hb).trans (hrec.last hb (by decide)),
    (bistNext_kept (by decide) hall).only⟩

theorem bistStart_begins (h : BetweenBlocks s b rest) (hp : s.bistPrecond b hot = 0) :
    s.bistStart hot = (((s.blockTaken rest).blockUnder b).blockForced b ((s.blockTaken rest).bistCovered b)).bistIsolate b := by
  obtain ⟨hact, hcur, hleft⟩ := h
  unfold bistStart
  rw [hact, hcur, hleft]
  exact if_neg fun hc => hc hp

theorem bistForced_bist (s : State) (b : Nat) : ∃ k, (s.bistForced b).bist = { s.bist with bank := k } := by
  have hlog : ((s.putFlag fBIST_FORCED true).logFw evBIST_FORCED kBIST b [b]).bist = s.bist :=
    (logFw_kept (T := [.regs, .evt]) (by decide) _ _ _ _ (putFlag_kept (by decide) _ _ (.refl s))).bist_eq
  have hset (y : State) (k : Option Nat) (hy : y.bist = s.bist) : (y.setBist { y.bist with bank := k }).bist = { s.bist with bank := k } := by
    rw [setBist, hy]
  unfold bistForced
  dsimp only
  split
  · exact ⟨_, hset _ _ hlog⟩
  split
  · exact ⟨_, hset _ _ hlog⟩
  · exact ⟨s.bist.bank, hlog⟩

theorem blockForced_bist (s : State) (b : Nat) (covered : Bool) : ∃ k, (s.blockForced b covered).bist = { s.bist with bank := k } := by
  unfold blockForced
  split
  · exact s.bistForced_bist b
  · exact ⟨s.bist.bank, rfl⟩

/-- The isolation of a block leaves the run alone. -/
theorem bistIsolate_kept_run (s : State) (b : Nat) :
    Kept [.regs, .time, .icu, .evt, .nw, .pwr, .chans, .mtx, .adc, .ring, .ptp, .sec] s (s.bistIsolate b) := by
  have hconv : Kept [.regs, .chans, .mtx, .adc] s (s.setConv b { s.conv b with bist := true }) := setConv_kept (by decide) _ _ (.refl s)
  have haway : Kept [.regs, .chans, .mtx, .adc] s (if s.flag (fADC_FAULT b) then s.setConv b { s.conv b with bist := true }
      else (s.setConv b { s.conv b with bist := true }).moveAway b) := .ite hconv (moveAway_kept (by decide) _ hconv)
  unfold bistIsolate
  exact .ite (haway.mono (by decide)) (.ite (putFlag_kept (by decide) _ _ (putFlag_kept (by decide) _ _ (.refl s)))
    (.ite (setSec_kept (by decide) _ id id le_rfl (.refl s)) (.ite (sc1Stop_kept (by decide) (.refl s)) (.refl s))))

/-- A block is under test from this tick on. -/
structure BlockBegun (b : Nat) (rest : List Nat) (s u : State) : Prop where
  bist : ∃ k, u.bist = { s.bist with
    left := rest, cur := some b, start := s.grid.tick, cause := 0, regions := 0, bad := [], slices := 40, cuts := 0, slice := false, bank := k }
  only : Only [.regs, .time, .icu, .evt, .nw, .pwr, .chans, .mtx, .adc, .ring, .ptp, .sec, .bist] s u

theorem bistStart_blockBegun (h : BetweenBlocks s b rest) (hp : s.bistPrecond b hot = 0) : BlockBegun b rest s (s.bistStart hot) := by
  have hunder (x : State) : (x.blockUnder b).bist = { x.bist with
      cur := some b, start := x.grid.tick, cause := 0, regions := 0, bad := [], slices := 40, cuts := 0, slice := false } := rfl
  have htaken : Kept [.bist] s (s.blockTaken rest) := setBist_kept (by decide) _ (.refl s)
  have hbist : (s.blockTaken rest).bist = { s.bist with left := rest } := rfl
  rw [bistStart_begins h hp]
  generalize (s.blockTaken rest).bistCovered b = covered
  generalize s.blockTaken rest = x at htaken hbist
  have hx := hunder x
  have hkept : Kept [.regs, .bist] s (x.blockUnder b) := setBist_kept (by decide) _ (put_kept (by decide) _ _ (htaken.mono (by decide)))
  generalize x.blockUnder b = y at hx hkept
  obtain ⟨k, hforced⟩ := y.blockForced_bist b covered
  have hforcedKept : Kept [.regs, .evt, .bist] s (y.blockForced b covered) :=
    .ite (bistForced_kept (by decide) _ (hkept.mono (by decide))) (hkept.mono (by decide))
  have hiso := (y.blockForced b covered).bistIsolate_kept_run b
  refine ⟨⟨k, ?_⟩, ((hforcedKept.mono (by decide)).trans (hiso.mono (by decide))).only⟩
  rw [hiso.bist_eq, hforced, hx, hbist, htaken.grid_eq]

-- A block ends (R399, R410)

/-- The memory blocks and LOOPREC. -/
def stepBlocks : List Nat := [0x18, 0x1A, 0x1B, 0x1C, 0x1D, 0x1E]

/-- The cause of a junction too hot. -/
def heated (s : State) (hot : Bool) : State := if hot then s.bistCause brTEMP else s

theorem bistCause_bist (h : s.bist.cur = some b) (code : Nat) :
    (s.bistCause code).bist = { s.bist with cause := if s.bist.cause = 0 then code else s.bist.cause } := by
  unfold bistCause
  by_cases h0 : s.bist.cause = 0
  · rw [if_pos ⟨by rw [h]; rfl, h0⟩, if_pos h0]
    rfl
  · rw [if_neg fun hc => h0 hc.2, if_neg h0]

/-- The state in which a block is judged. -/
structure Heated (hot : Bool) (s t : State) : Prop where
  bist : ∃ x, t.bist = { s.bist with cause := x } ∧ (x ≠ 0 ↔ s.bist.cause ≠ 0 ∨ hot = true)
  kept : Kept [.bist] s t

theorem heated_heated (h : s.bist.cur = some b) (hot : Bool) : Heated hot s (s.heated hot) := by
  cases hot with
  | false => exact ⟨⟨_, rfl, (or_iff_left Bool.false_ne_true).symm⟩, .refl s⟩
  | true =>
    refine ⟨⟨_, bistCause_bist h brTEMP, ?_⟩, bistCause_kept (by decide) _ (.refl s)⟩
    by_cases h0 : s.bist.cause = 0
    · rw [if_pos h0]
      exact iff_of_true (by decide) (.inr rfl)
    · rw [if_neg h0]
      exact iff_of_true h0 (.inl h0)

theorem bistSteps_block (hb : b ∈ stepBlocks) (count expect : Nat) :
    s.bistSteps b count expect = (if b = 0x18 then count else s.bist.regions, if b = 0x18 then expect else bistRegions b) := by
  unfold stepBlocks at hb
  simp only [List.mem_cons, List.not_mem_nil, or_false] at hb
  obtain rfl | rfl | rfl | rfl | rfl | rfl := hb
  all_goals rfl

theorem bistOutcome_fst (s : State) (n e : Nat) (bad : Bool) :
    (s.bistOutcome n e bad).1 = if s.bist.cause ≠ 0 ∨ n < e then 3 else if bad = true ∨ s.bist.bad ≠ [] then 2 else 1 := by
  have hbad : (bad || !s.bist.bad.isEmpty) = true ↔ bad = true ∨ s.bist.bad ≠ [] := by
    rw [Bool.or_eq_true, Bool.not_eq_true', ← Bool.not_eq_true, List.isEmpty_iff]
  unfold bistOutcome
  by_cases hc : s.bist.cause ≠ 0
  · rw [if_pos hc, if_pos (.inl hc)]
    rfl
  by_cases hn : n < e
  · rw [if_neg hc, if_pos hn, if_pos (.inr hn)]
    rfl
  · rw [if_neg hc, if_neg hn, if_neg (not_or.2 ⟨hc, hn⟩), if_congr hbad rfl rfl]
    split
    · rfl
    · rfl

/-- The test of a block is over: nothing is under test, and its bank's channels prove again. -/
def testOver (s : State) : State :=
  let s := (s.putFlag fBIST_FORCED false).put fBIST_CUR 0
  (s.setBist { s.bist with cur := none, cause := 0, slice := false }).bistReprove

/-- The consequences of a failure follow. -/
def failFollows (s : State) (b o : Nat) : State := if o = boFAIL then s.bistFail b else s

theorem bistEnd_eq (h : s.bist.cur = some b) (count expect bad bg : Nat) (hot : Bool) : ∃ n e o r,
    (n, e) = (s.heated hot).bistSteps b count expect ∧ (o, r) = (s.heated hot).bistOutcome n e (bad != 0)
    ∧ s.bistEnd count expect bad bg hot
      = (((((s.heated hot).bistRecord b o r n e).testOver).failFollows b o).bistRestore b o bad bg).bistNext := by
  refine ⟨_, _, _, _, rfl, rfl, ?_⟩
  unfold bistEnd
  rw [h]
  rfl

/-- The holds of a converter are forgotten. -/
def holdsCleared (s : State) (k : Nat) : State := s.setConv k { s.conv k with holds := [] }

/-- The channels of a bank prove again. -/
def bankReproved (s : State) (n : Nat) : State :=
  (List.range 16).foldl (fun s i => s.unprove (16 * n + i)) ((s.holdsCleared (2 * n)).holdsCleared (2 * n + 1))

theorem bankReproved_kept (s : State) (n : Nat) : Kept [.regs, .chans, .mtx, .adc] s (s.bankReproved n) :=
  Kept.fold (fun _ i hk => unprove_kept (by decide) (16 * n + i) hk) (setConv_kept (by decide) _ _ (setConv_kept (by decide) _ _ (.refl s)))

theorem bistReprove_some {n : Nat} (h : s.bist.bank = some n) : s.bistReprove = (s.setBist { s.bist with bank := none }).bankReproved n := by
  unfold bistReprove
  rw [h]
  rfl

theorem bistReprove_none (h : s.bist.bank = none) : s.bistReprove = s := by
  unfold bistReprove
  rw [h]

theorem bistReprove_bist (s : State) : ∃ k, s.bistReprove.bist = { s.bist with bank := k } := by
  cases h : s.bist.bank with
  | none =>
    rw [bistReprove_none h]
    exact ⟨s.bist.bank, rfl⟩
  | some n =>
    rw [bistReprove_some h, (bankReproved_kept _ n).bist_eq]
    exact ⟨none, rfl⟩

theorem testOver_stands (b : Nat) (s : State) : OutcomeStands b s s.testOver ∧ s.testOver.bist.cur = none
    ∧ s.testOver.bist.left = s.bist.left := by
  have hshown : Kept [.regs] s ((s.putFlag fBIST_FORCED false).put fBIST_CUR 0) := put_kept (by decide) _ _ (putFlag_kept (by decide) _ _ (.refl s))
  have hshownWr : Wr [(0x280, 0), (0x200C, 16)] s ((s.putFlag fBIST_FORCED false).put fBIST_CUR 0) := put_wr (by decide) (putFlag_wr (by decide) (.refl s))
  have hbist := hshown.bist_eq
  unfold testOver
  dsimp only
  generalize (s.putFlag fBIST_FORCED false).put fBIST_CUR 0 = x at hshown hshownWr hbist
  have hset : (x.setBist { x.bist with cur := none, cause := 0, slice := false }).bist = { x.bist with cur := none, cause := 0, slice := false } := rfl
  have hwr : Wr [(0x280, 0), (0x200C, 16)] s (x.setBist { x.bist with cur := none, cause := 0, slice := false }).bistReprove :=
    bistReprove_wr (by decide) (setBist_wr (List.nil_subset _) _ hshownWr)
  generalize x.setBist { x.bist with cur := none, cause := 0, slice := false } = y at hset hwr
  obtain ⟨k, hk⟩ := y.bistReprove_bist
  rw [hset, hbist] at hk
  exact ⟨⟨fun _ => by rw [hk], by rw [bistOut, hk, bistOut], fun hb => hwr.get _ (last_apart hb)⟩, by rw [hk], by rw [hk]⟩

/-- Blocks that are not run leave what is recorded of the others. -/
theorem bistNotRun_bist (l : List Nat) : ∀ s : State, ∃ o, (s.bistNotRun l).bist = { s.bist with out := o }
    ∧ ∀ b, b ∉ l → tabGet (fun _ => 0) o b = tabGet (fun _ => 0) s.bist.out b := by
  induction l with
  | nil => exact fun s => ⟨s.bist.out, rfl, fun _ _ => rfl⟩
  | cons a l ih =>
    intro s
    have hlog (x : State) : (x.logFw evBIST kBIST a [a, boNOT_RUN, 0, 0, 0]).bist = x.bist :=
      (logFw_kept (T := [.regs, .evt]) (by decide) _ _ _ _ (.refl x)).bist_eq
    obtain ⟨o, ho, hother⟩ := ih ((s.setBist { s.bist with out := tabSet (fun _ => 0) s.bist.out a boNOT_RUN }).logFw evBIST kBIST a [a, boNOT_RUN, 0, 0, 0])
    rw [hlog] at ho hother
    refine ⟨o, ho, fun b hb => ?_⟩
    obtain ⟨hne, hb⟩ := not_or.1 (mt List.mem_cons.2 hb)
    have hset := tabGet_set_other (fun _ => 0) s.bist.out boNOT_RUN hne
    exact (hother b hb).trans hset

/-- The blocks left are dropped, and recorded as not run. -/
def leftDropped (s : State) : State := (s.bistNotRun s.bist.left).setBist { (s.bistNotRun s.bist.left).bist with left := [] }

theorem leftDropped_stands (hb : b ∉ s.bist.left) : OutcomeStands b s s.leftDropped
    ∧ Wr [(0x2A8, 0), (0x5014, 0)] s s.leftDropped := by
  obtain ⟨o, ho, hother⟩ := bistNotRun_bist s.bist.left s
  have hwr : Wr [(0x2A8, 0), (0x5014, 0)] s s.leftDropped := setBist_wr (List.nil_subset _) _ (bistNotRun_wr (by decide) _ (.refl s))
  have hbist : s.leftDropped.bist = { s.bist with out := o, left := [] } := by
    unfold leftDropped
    rw [setBist, ho]
  exact ⟨⟨fun hc => by rw [hbist, hc], by rw [bistOut, hbist, bistOut]; exact hother b hb, fun h => hwr.get _ (last_apart h)⟩, hwr⟩

theorem bistFail_eq (s : State) (b : Nat) : s.bistFail b =
    if !((s.logFw evBIST_FAIL kBIST b [b]).fltSet 16 evBIST_FAIL).bist.stop then (s.logFw evBIST_FAIL kBIST b [b]).fltSet 16 evBIST_FAIL
    else ((s.logFw evBIST_FAIL kBIST b [b]).fltSet 16 evBIST_FAIL).leftDropped := rfl

theorem bistFail_fails (hb : b ∉ s.bist.left) : OutcomeStands b s (s.bistFail b) ∧ (s.bistFail b).flag (fFLT_GROUP 16) = true := by
  have hkept : Kept [.regs, .icu, .evt, .nw, .pwr] s ((s.logFw evBIST_FAIL kBIST b [b]).fltSet 16 evBIST_FAIL) :=
    fltSet_kept (by decide) _ _ (logFw_kept (by decide) _ _ _ _ (.refl s))
  have hwr : Wr [(0x2A8, 0), (0x5014, 0), (0x270, 0), (0x2A0, 0), (0x2A4, 0), (0x1B070, 0)] s
      ((s.logFw evBIST_FAIL kBIST b [b]).fltSet 16 evBIST_FAIL) := fltSet_wr (by decide) _ _ (logFw_wr (by decide) _ _ _ _ (.refl s))
  have hflag := fltSet_flag (s := s.logFw evBIST_FAIL kBIST b [b]) evBIST_FAIL (n := 16) (by decide) (by decide)
  rw [bistFail_eq]
  generalize (s.logFw evBIST_FAIL kBIST b [b]).fltSet 16 evBIST_FAIL = x at hkept hwr hflag
  have hstands : OutcomeStands b s x := .of_kept hkept hwr
  split
  · exact ⟨hstands, hflag⟩
  · obtain ⟨hdrop, hdropWr⟩ := leftDropped_stands (s := x) (b := b) (by rw [hkept.bist_eq]; exact hb)
    exact ⟨hstands.trans hdrop, (hdropWr.flag (fFLT_GROUP 16)).trans hflag⟩

theorem failFollows_fails (hb : b ∉ s.bist.left) (o : Nat) : OutcomeStands b s (s.failFollows b o)
    ∧ (o = 2 → (s.failFollows b o).flag (fFLT_GROUP 16) = true) := by
  obtain ⟨hstands, hflag⟩ := bistFail_fails hb
  unfold failFollows
  by_cases ho : o = boFAIL
  · rw [if_pos ho]
    exact ⟨hstands, fun _ => hflag⟩
  · rw [if_neg ho]
    exact ⟨⟨id, rfl, fun _ => rfl⟩, fun h => absurd h ho⟩

/-- A memory block or LOOPREC is restored without a register. -/
theorem bistRestore_kept_block (hb : b ∈ stepBlocks) (s : State) (o bad bg : Nat) : Kept [.loops] s (s.bistRestore b o bad bg) := by
  have hloops : Kept [.loops] s (s.bistRestore 0x18 o bad bg) := .upd_loops (.refl s) (by decide)
  unfold stepBlocks at hb
  simp only [List.mem_cons, List.not_mem_nil, or_false] at hb
  obtain rfl | rfl | rfl | rfl | rfl | rfl := hb
  · exact hloops
  all_goals exact .refl s

/-- What the end of a memory block or of LOOPREC leaves. -/
structure BlockEnded (b o : Nat) (u : State) : Prop where
  cur : u.bist.cur = none
  out : u.bistOut b % 16 = o
  last : u.get (fBIST_LAST b) = o
  failed : o = 2 → u.flag (fFLT_GROUP 16) = true

/-- The outcome of a memory block or of LOOPREC (R398, R399). -/
def blockOutcome (s : State) (b count expect bad : Nat) (hot : Bool) : Nat :=
  if s.bist.cause ≠ 0 ∨ hot = true ∨ (if b = 0x18 then count else s.bist.regions) < (if b = 0x18 then expect else bistRegions b) then 3
  else if bad ≠ 0 ∨ s.bist.bad ≠ [] then 2 else 1

theorem heated_outcome (h : s.bist.cur = some b) (hb : b ∈ stepBlocks) (count expect bad : Nat) (hot : Bool) {n e o r : Nat}
    (hsteps : (n, e) = (s.heated hot).bistSteps b count expect) (hout : (o, r) = (s.heated hot).bistOutcome n e (bad != 0)) :
    o = s.blockOutcome b count expect bad hot := by
  obtain ⟨⟨x, hx, hcause⟩, -⟩ := heated_heated h hot
  rw [bistSteps_block hb, hx] at hsteps
  have hn : n = if b = 0x18 then count else s.bist.regions := congrArg Prod.fst hsteps
  have he : e = if b = 0x18 then expect else bistRegions b := congrArg Prod.snd hsteps
  have ho : o = _ := (congrArg Prod.fst hout).trans (bistOutcome_fst _ _ _ _)
  rw [ho, hx, hn, he]
  unfold blockOutcome
  refine if_congr (by rw [hcause, or_assoc]) rfl (if_congr (by rw [bne_iff_ne]) rfl rfl)

theorem blockOutcome_le (s : State) (b count expect bad : Nat) (hot : Bool) : s.blockOutcome b count expect bad hot ≤ 3 := by
  have hle (p q : Prop) [Decidable p] [Decidable q] : (if p then 3 else if q then 2 else 1) ≤ 3 := by
    split
    · decide
    split
    · decide
    · decide
  exact hle _ _

theorem bistEnd_ended (h : s.bist.cur = some b) (hb : b ∈ stepBlocks) (hleft : b ∉ s.bist.left) (count expect bad bg : Nat) (hot : Bool) :
    BlockEnded b (s.blockOutcome b count expect bad hot) (s.bistEnd count expect bad bg hot) := by
  obtain ⟨n, e, o, r, hsteps, hout, heq⟩ := bistEnd_eq h count expect bad bg hot
  obtain ⟨⟨x, hx, -⟩, -⟩ := heated_heated h hot
  have ho := heated_outcome h hb count expect bad hot hsteps hout
  have hle := s.blockOutcome_le b count expect bad hot
  rw [← ho] at hle ⊢
  have h34 : b < 34 := by
    unfold stepBlocks at hb
    simp only [List.mem_cons, List.not_mem_nil, or_false] at hb
    omega
  rw [heq]
  clear heq hout hsteps
  generalize s.heated hot = y at hx
  have hrec := y.bistRecord_recorded b o r n e
  generalize y.bistRecord b o r n e = z at hrec
  obtain ⟨d, hz⟩ := hrec.bist
  obtain ⟨hover, hcur, hover'⟩ := testOver_stands b z
  generalize z.testOver = v at hover hcur hover'
  obtain ⟨hfail, hflag⟩ := failFollows_fails (s := v) (b := b) (by rw [hover', hz, hx]; exact hleft) o
  generalize v.failFollows b o = w at hfail hflag
  have hkept := bistRestore_kept_block hb w o bad bg
  generalize w.bistRestore b o bad bg = a at hkept
  have hrestored : OutcomeStands b w a := .of_kept hkept (R := []) ⟨fun q _ => rd_of_kept hkept q⟩
  have hnext := bistNext_stands b a
  have hnextWr := bistNext_wr (R := [(0x280, 0)]) (by decide) (.refl a)
  have hall := ((hover.trans hfail).trans hrestored).trans hnext
  refine ⟨hnext.cur (hrestored.cur (hfail.cur hcur)), ?_, (hall.last h34).trans (hrec.last h34 (by omega)), fun h2 => ?_⟩
  · rw [hall.out, bistOut, hz]
    have hset := tabGet_set_same (fun _ => 0) y.bist.out b (o + 16 * r)
    rw [hset]
    omega
  · exact (hnextWr.flag (fFLT_GROUP 16)).trans ((flag_of_rd (f := fFLT_GROUP 16) (rd_of_kept hkept _)).trans (hflag h2))

end State

end Sys2Proof.Machine
end

section
/-! REGIONS, SLICES AND DATA OF A SELF-TEST (R403, R405, R491; settles O54). -/

namespace Sys2Proof.Machine

namespace State

variable {s : State} {b : Nat} {bad : Bool}

-- Regions (R403)

theorem bistRegion_steps (h : s.bist.cur = some b) (hn : s.bist.regions < bistRegions b) : s.bistRegion bad = s.setBist { s.bist with
    regions := s.bist.regions + 1, bad := if bad then s.bist.bad ++ [s.bist.regions] else s.bist.bad } := by
  unfold bistRegion
  rw [h]
  exact if_neg (Nat.not_le_of_lt hn)

theorem bistRegion_none (h : s.bist.cur = none ∨ (s.bist.cur = some b ∧ bistRegions b ≤ s.bist.regions)) : s.bistRegion bad = s := by
  unfold bistRegion
  obtain h | ⟨h, hn⟩ := h
  · rw [h]
  · rw [h]
    exact if_pos hn

-- Slices (R405)

/-- A slice of the rule engine's test can run now. -/
def SliceTurn (s : State) : Prop :=
  s.bist.slices ≠ 0 ∧ s.rule.running = false ∧ s.ruleTick 5250 = true ∧ s.bist.sliceAt ≤ s.rule.start

/-- A slice is cut off before the next snapshot. -/
def SliceEnds (s : State) : Prop := s.bist.slice = true ∧ s.rule.start + s.rulePeriod ≤ s.grid.tick + 500

theorem slice_iff : (!s.underTest bkRULEENG || s.bist.slices == 0 || s.rule.running || !s.ruleTick 5250
    || decide (s.rule.start < s.bist.sliceAt)) = true ↔ ¬ (s.bist.cur = some 0x19 ∧ SliceTurn s) := by
  have hcur : s.underTest bkRULEENG = true ↔ s.bist.cur = some 0x19 := s.underTest_iff _
  rw [← hcur]
  unfold SliceTurn
  simp only [Bool.or_eq_true, Bool.not_eq_true', beq_iff_eq, decide_eq_true_eq, not_and_or, not_not, Bool.not_eq_true, Bool.not_eq_false,
    Nat.not_le, or_assoc, ne_eq]

theorem cut_iff : (!s.underTest bkRULEENG || !s.bist.slice || decide (s.grid.tick + 500 < s.rule.start + s.rulePeriod)) = true
    ↔ ¬ (s.bist.cur = some 0x19 ∧ SliceEnds s) := by
  have hcur : s.underTest bkRULEENG = true ↔ s.bist.cur = some 0x19 := s.underTest_iff _
  rw [← hcur]
  unfold SliceEnds
  simp only [Bool.or_eq_true, Bool.not_eq_true', decide_eq_true_eq, not_and_or, Bool.not_eq_true, Nat.not_le, or_assoc]

theorem bistSlice_runs (h : s.bist.cur = some 0x19 ∧ SliceTurn s) : s.bistSlice = s.setBist { s.bist with
    slices := s.bist.slices - 1, cuts := if s.bist.slice then 0 else s.bist.cuts, slice := true, sliceAt := s.grid.tick } :=
  if_neg fun hc => slice_iff.1 hc h

theorem bistSlice_none (h : ¬ (s.bist.cur = some 0x19 ∧ SliceTurn s)) : s.bistSlice = s := if_pos (slice_iff.2 h)

theorem bistCut_none (h : ¬ (s.bist.cur = some 0x19 ∧ SliceEnds s)) : s.bistCut = s := if_pos (cut_iff.2 h)

/-- A slice has been cut off. -/
def sliceCut (s : State) : State :=
  s.setBist { s.bist with slices := s.bist.slices + 1, cuts := s.bist.cuts + 1, slice := false }

theorem bistCut_eq (h : s.bist.cur = some 0x19 ∧ SliceEnds s) :
    s.bistCut = if 3 ≤ s.bist.cuts + 1 then s.sliceCut.bistCause brSLICE else s.sliceCut := if_neg fun hc => cut_iff.1 hc h

/-- A slice that is cut off counts back up, and the third in a row is a cause. -/
structure SliceCutOff (s t : State) : Prop where
  bist : t.bist = { s.bist with
    slices := s.bist.slices + 1, cuts := s.bist.cuts + 1, slice := false,
    cause := if 2 ≤ s.bist.cuts ∧ s.bist.cause = 0 then 9 else s.bist.cause }
  kept : Kept [.bist] s t

theorem bistCut_cutOff (h : s.bist.cur = some 0x19 ∧ SliceEnds s) : SliceCutOff s s.bistCut := by
  have hkept : Kept [.bist] s s.sliceCut := setBist_kept (by decide) _ (.refl s)
  have hbist : s.sliceCut.bist = { s.bist with slices := s.bist.slices + 1, cuts := s.bist.cuts + 1, slice := false } := rfl
  rw [bistCut_eq h]
  generalize s.sliceCut = x at hkept hbist
  by_cases hn : 3 ≤ s.bist.cuts + 1
  · rw [if_pos hn]
    refine ⟨?_, bistCause_kept (by decide) _ hkept⟩
    rw [bistCause_bist (by rw [hbist]; exact h.1) brSLICE, hbist]
    have h2 : (2 ≤ s.bist.cuts ∧ s.bist.cause = 0) ↔ s.bist.cause = 0 := and_iff_right (by omega)
    simp only [h2, brSLICE]
  · rw [if_neg hn]
    refine ⟨?_, hkept⟩
    rw [hbist, if_neg fun hc => hn (by omega)]

end State

theorem exec_bistRun (s : State) : exec .bistRun s = .next (s.onCmd (fun c => c.op == opBIST_RUN) fun c =>
    if (State.bistSelect (c.arg 0) (c.arg 1 % 4)).isEmpty || 4 ≤ c.arg 1 || 4 ≤ c.arg 2 || (c.ctx == 0 && decide (c.rlen < 64))
      then s.finishCmd c.id stBAD_ARG 0 []
    else if s.bist.active then s.finishCmd c.id stBUSY 0 []
    else (s.bistBegin (some c.id) (State.bistSelect (c.arg 0) (c.arg 1 % 4)) (bitOf (c.arg 2) 0) (bitOf (c.arg 2) 1)).longCmd c.id) := rfl
theorem exec_bistBlockStart (hot : Bool) (s : State) : exec (.bistBlockStart hot) s = .next (s.bistStart hot) := rfl
theorem exec_bistBlockEnd (count expect : BitVec 32) (bad : BitVec 2) (bg : BitVec 12) (hot : Bool) (s : State) :
    exec (.bistBlockEnd count expect bad bg hot) s = .next (s.bistEnd count.toNat expect.toNat bad.toNat bg.toNat hot) := rfl
theorem exec_bistRegionStep (bad : Bool) (s : State) : exec (.bistRegionStep bad) s = .next (s.bistRegion bad) := rfl
theorem exec_ruleengSlice (s : State) : exec .ruleengSlice s = .next s.bistSlice := rfl
theorem exec_ruleengSliceCutoff (s : State) : exec .ruleengSliceCutoff s = .next s.bistCut := rfl
theorem exec_bistDataRead (n : Fin 9) (s : State) : exec (.bistDataRead n) s = .next (s.regRead n (aBIST_DATA 0)) := rfl

theorem State.bistEnd_none {s : State} (h : s.bist.cur = none) (count expect bad bg : Nat) (hot : Bool) : s.bistEnd count expect bad bg hot = s := by
  unfold State.bistEnd
  rw [h]

/-- What a read of BIST_DATA0 sets of its context's copy. -/
def State.bistLatched (s : State) (n : Nat) : CtxCopy := { s.copyOf n with
  bistLatch := if bitsOf (s.copyOf n).bistIdx 0 6 ≤ 0x21 then tabGet (fun _ => []) s.bist.data (bitsOf (s.copyOf n).bistIdx 0 6) else []
  bistIdx := State.autoInc (s.copyOf n).bistIdx 6 0x21 }

theorem State.indirectRead_bistData (s : State) (n : Fin 9) : State.IndirectRead (.bistDataRead n) n (s.bistLatched n) s := by
  refine State.indirectRead_of_latch (off := aBIST_DATA 0) rfl rfl ?_
  have hbist : (s.touch n).bist = s.bist := (State.touch_kept (T := [.sec]) (by decide) (n : Nat) (.refl s)).bist_eq
  show (s.touch n).setCopy n _ = _
  rw [State.copyOf_touch, hbist]
  rfl

/-- Settles O54. -/
theorem selfTestBlocks : Obligations.SelfTestBlocks := by
  intro s c hot bad count expect halves bg n b rest a0 a1 sel badArg between refused steps all outcome slicing turn ends k idx
  obtain ⟨hread, -, hignored, -⟩ := s.indirectRead_bistData n
  have hne (h0 : n ≠ 0) : (n : Nat) ≠ 0 := fun hc => h0 (Fin.ext hc)
  have hrun (h : s.Runs c 0x40) {u : State} (hu : (if (State.bistSelect (c.arg 0) (c.arg 1 % 4)).isEmpty || 4 ≤ c.arg 1 || 4 ≤ c.arg 2
      || (c.ctx == 0 && decide (c.rlen < 64)) then s.finishCmd c.id stBAD_ARG 0 []
      else if s.bist.active then s.finishCmd c.id stBUSY 0 []
      else (s.bistBegin (some c.id) (State.bistSelect (c.arg 0) (c.arg 1 % 4)) (bitOf (c.arg 2) 0) (bitOf (c.arg 2) 1)).longCmd c.id) = u) :
      exec .bistRun s = .next u := by
    rw [← hu]
    exact (exec_bistRun s).trans (congrArg Host.Outcome.next (State.onCmd_of_runs h _))
  have hrefused (hb : between) {r : Nat} (hr : s.bistPrecond b hot = r) (h0 : r ≠ 0) : refused r := by
    have hdone := State.bistStart_blockRefused hb (hot := hot) (by rw [hr]; exact h0)
    rw [hr] at hdone
    exact .of_eq (exec_bistBlockStart hot s) ⟨hdone.cur, hdone.left, hdone.out, hdone.last, hdone.only⟩
  refine ⟨fun h hb => .of_eq (hrun h (if_pos (State.bistArgsBad_iff.2 hb))) (State.finishCmd_after h.1 (T := []) (.refl s) _ _ _),
    fun h hb hact => .of_eq (hrun h ((if_neg (State.bistArgsBad_iff.not.2 hb)).trans (if_pos hact)))
      (State.finishCmd_after h.1 (T := []) (.refl s) _ _ _),
    fun h hb hact => ?begun, fun hb hp => hrefused hb (if_pos hp) (by decide), fun hb hp => hrefused hb rfl hp, fun hb hp => ?start,
    fun h => .of_eq ((exec_bistBlockStart hot s).trans (congrArg Host.Outcome.next (State.bistStart_none h))) rfl,
    fun h => .of_eq ((exec_bistBlockEnd count expect halves bg hot s).trans (congrArg Host.Outcome.next (State.bistEnd_none h _ _ _ _ _))) rfl,
    fun h hb hleft => ?ended, fun h hn => ?region,
    fun h => .of_eq ((exec_bistRegionStep bad s).trans (congrArg Host.Outcome.next (State.bistRegion_none h))) rfl,
    fun h ht => ?slice, fun h => .of_eq ((exec_ruleengSlice s).trans (congrArg Host.Outcome.next (State.bistSlice_none (not_and_or.2 h)))) rfl,
    fun h he => ?cut, fun h => .of_eq ((exec_ruleengSliceCutoff s).trans (congrArg Host.Outcome.next (State.bistCut_none (not_and_or.2 h)))) rfl,
    fun hs he => ?data, fun h0 he => ?noData⟩
  case begun =>
    have hdone := State.bistBegin_runs h.1
    refine .of_eq (hrun h ((if_neg (State.bistArgsBad_iff.not.2 hb)).trans (if_neg (by rw [hact]; exact Bool.false_ne_true)))) ?_
    have hbist := hdone.bist
    exact ⟨hdone.runs, by rw [hbist], by rw [hbist], by rw [hbist]; rfl, by rw [hbist], by rw [hbist], by rw [hbist], hdone.running, hdone.only,
      hdone.regs⟩
  case start =>
    have hdone := State.bistStart_blockBegun hb hp
    obtain ⟨k, hbist⟩ := hdone.bist
    exact .of_eq (exec_bistBlockStart hot s) ⟨by rw [hbist], by rw [hbist], by rw [hbist], by rw [hbist], by rw [hbist], by rw [hbist],
      hdone.only.widen (by decide)⟩
  case ended =>
    have hdone := State.bistEnd_ended h hb hleft count.toNat expect.toNat halves.toNat bg.toNat hot
    have hzero : halves.toNat ≠ 0 ↔ halves ≠ 0 := not_congr ⟨fun h0 => BitVec.eq_of_toNat_eq h0, fun h0 => by rw [h0]; rfl⟩
    have hout : s.blockOutcome b count.toNat expect.toNat halves.toNat hot = outcome :=
      if_congr Iff.rfl rfl (if_congr (or_congr hzero Iff.rfl) rfl rfl)
    rw [hout] at hdone
    exact .of_eq (exec_bistBlockEnd count expect halves bg hot s) ⟨hdone.cur, hdone.out, hdone.last, hdone.failed⟩
  case region =>
    exact .of_eq ((exec_bistRegionStep bad s).trans (congrArg Host.Outcome.next (State.bistRegion_steps h hn)))
      ⟨rfl, (State.setBist_kept (by decide) _ (.refl s)).only⟩
  case slice =>
    exact .of_eq ((exec_ruleengSlice s).trans (congrArg Host.Outcome.next (State.bistSlice_runs ⟨h, ht⟩)))
      ⟨rfl, (State.setBist_kept (by decide) _ (.refl s)).only⟩
  case cut =>
    have hdone := State.bistCut_cutOff ⟨h, he⟩
    exact .of_eq (exec_ruleengSliceCutoff s) ⟨hdone.bist, hdone.kept.only⟩
  case data =>
    obtain ⟨u, hu, hcopy, hother, -, honly⟩ := hread (hs.imp_left hne) he
    exact ⟨u, hu, by rw [hcopy]; rfl, by rw [hcopy]; rfl, hother, honly⟩
  case noData => exact hignored (.inl (hne h0)) he (hne h0)

end Sys2Proof.Machine
end

section
/-! TRIM RELOADS OF THE CONVERTERS (R196, R408; settles O55). -/

namespace Sys2Proof.Machine

namespace State

variable {s t u : State} {c : Cmd} {k : Nat}

/-- The reloads of the converters and the running command's stand as they were. -/
structure ReloadsStand (s t : State) : Prop where
  convs : ∀ j, (t.conv j).reload = (s.conv j).reload
  run : t.adc.reload = s.adc.reload

-- What leaves the reloads alone

theorem ReloadsStand.refl (s : State) : ReloadsStand s s := ⟨fun _ => rfl, rfl⟩

theorem ReloadsStand.trans (h : ReloadsStand s t) (g : ReloadsStand t u) : ReloadsStand s u :=
  ⟨fun j => (g.convs j).trans (h.convs j), g.run.trans h.run⟩

theorem ReloadsStand.of_kept {T : List Comp} (h : Kept T s t) (hT : Comp.adc ∉ T := by decide) : ReloadsStand s t :=
  ⟨fun j => by rw [conv_congr (h.adc_eq hT) j], by rw [h.adc_eq hT]⟩

theorem setConv_reloads {x : Conv} (h : x.reload = (s.conv k).reload) : ReloadsStand s (s.setConv k x) := by
  refine ⟨fun j => ?_, rfl⟩
  rw [conv_setConv]
  split
  case isTrue hj => rw [hj, h]
  case isFalse => rfl

theorem unkicked_reloads (s : State) (k : Nat) : ReloadsStand s (s.unkicked k) := by
  unfold unkicked
  split
  · split
    · exact setConv_reloads (unstarted_same _ _).reload
    · exact .refl s
  · exact .refl s

theorem adcKick_reloads (s : State) (k : Nat) : ReloadsStand s (s.adcKick k) := by
  have hunkicked := s.unkicked_reloads k
  rw [adcKick_eq]
  split
  · exact .refl s
  split
  case h_1 it y h => exact hunkicked.trans (setConv_reloads (nextItem_same h).reload)
  case h_2 => exact hunkicked

theorem newEpoch_reloads (s : State) (k : Nat) : ReloadsStand s (s.newEpoch k) := by
  have hset (x : Conv) (l : List Hold) (hx : x.reload = (s.conv k).reload) : ReloadsStand s ((s.setConv k x).dropHolds l) :=
    (setConv_reloads hx).trans (.of_kept (dropHolds_kept (T := [.chans, .mtx]) (by decide) l (.refl _)))
  exact hset _ _ rfl

theorem placeMove_reloads (s : State) (p : Nat) : ReloadsStand s (s.placeMove p) := by
  have hshown (v : Nat) (b : Bool) : Kept [.regs] s ((s.put (fADC_EPOCH p) v).putFlag (fADC p 1) b) :=
    putFlag_kept (by decide) _ _ (put_kept (by decide) _ _ (.refl s))
  have hpair (x : State) (y : AdcPair) : ReloadsStand x (x.setPair p y) := ⟨fun _ => rfl, rfl⟩
  exact (((ReloadsStand.of_kept (hshown _ _)).trans (newEpoch_reloads _ _)).trans (newEpoch_reloads _ _)).trans (hpair _ _)

theorem convStop_reloads (s : State) (k : Nat) : ReloadsStand s (s.convStop k) := setConv_reloads rfl

/-- Holds join the queue of a converter. -/
def holdsJoined (s : State) (k : Nat) (l : List Hold) : State :=
  l.foldl (fun s h => s.setConv k { s.conv k with holds := joinHold (s.conv k) h }) s

theorem holdsJoined_reloads (s : State) (k : Nat) (l : List Hold) : ReloadsStand s (s.holdsJoined k l) :=
  List.foldlRecOn l _ (ReloadsStand.refl s) fun _ hx _ _ => hx.trans (setConv_reloads rfl)

theorem moveAway_eq (s : State) (k : Nat) : s.moveAway k =
    if ((s.placeMove (k / 2)).convStop k).convOut (partner k)
    then ((s.placeMove (k / 2)).convStop k).dropHolds (heldHolds ((s.placeMove (k / 2)).conv k))
    else (((s.placeMove (k / 2)).convStop k).holdsJoined (partner k) (heldHolds ((s.placeMove (k / 2)).conv k))).adcKick (partner k) := rfl

theorem moveAway_reloads (s : State) (k : Nat) : ReloadsStand s (s.moveAway k) := by
  have hstop := (s.placeMove_reloads (k / 2)).trans ((s.placeMove (k / 2)).convStop_reloads k)
  rw [moveAway_eq]
  generalize heldHolds ((s.placeMove (k / 2)).conv k) = l
  generalize (s.placeMove (k / 2)).convStop k = x at hstop
  split
  · exact hstop.trans (.of_kept (dropHolds_kept (T := [.chans, .mtx]) (by decide) l (.refl x)))
  · exact (hstop.trans (x.holdsJoined_reloads _ l)).trans (adcKick_reloads _ _)

/-- A converter is marked as faulty, and the fault logged, raised and grouped. -/
def faultMarked (s : State) (k d bg : Nat) : State :=
  (((s.putFlag (fADC_FAULT k) true).logEv evADC_CONV_FAULT kCONV k [k, d, bg]).raise srcADC_FAULT).convGroup evADC_CONV_FAULT

/-- A test that the converter covers ends. -/
def coverLost (s : State) (k : Nat) : State := if s.underTest (partner k) then s.bistCause brCOVER_LOST else s

theorem convFault_eq (h : s.flag (fADC_FAULT k) = false) : s.convFault k =
    ((s.coverLost k).faultMarked k ((s.coverLost k).pair (k / 2)).d (((s.coverLost k).conv k).bg.getD 0)).moveAway k :=
  if_neg (by rw [h]; exact Bool.false_ne_true)

theorem faultMarked_kept (s : State) (k d bg : Nat) : Kept [.regs, .evt, .icu, .nw, .pwr] s (s.faultMarked k d bg) :=
  convGroup_kept (by decide) _ (raise_kept (by decide) _ (logEv_kept (by decide) _ _ _ _ (putFlag_kept (by decide) _ _ (.refl s))))

theorem coverLost_kept (s : State) (k : Nat) : Kept [.bist] s (s.coverLost k) := .ite (bistCause_kept (by decide) _ (.refl s)) (.refl s)

theorem convFault_reloads (s : State) (k : Nat) : ReloadsStand s (s.convFault k) := by
  cases h : s.flag (fADC_FAULT k) with
  | true =>
    unfold convFault
    rw [if_pos h]
    exact .refl s
  | false =>
    rw [convFault_eq h]
    exact ((ReloadsStand.of_kept (s.coverLost_kept k)).trans (.of_kept (faultMarked_kept _ _ _ _))).trans (moveAway_reloads _ _)

theorem convReturn_eq (s : State) (k : Nat) :
    s.convReturn k = ((s.putFlag (fADC_FAULT k) false).placeMove (k / 2)).convGroup evADC_CONV_FAULT := rfl

theorem convReturn_reloads (s : State) (k : Nat) : ReloadsStand s (s.convReturn k) := by
  have hgroup (x : State) : ReloadsStand x (x.convGroup evADC_CONV_FAULT) :=
    .of_kept (convGroup_kept (T := [.regs, .icu, .nw, .pwr]) (by decide) evADC_CONV_FAULT (.refl x))
  have hclear : ReloadsStand s (s.putFlag (fADC_FAULT k) false) := .of_kept (putFlag_kept (T := [.regs]) (by decide) _ _ (.refl s))
  rw [convReturn_eq]
  exact (hclear.trans (placeMove_reloads _ _)).trans (hgroup _)

theorem regStart_reloads (s : State) (k : Nat) : ReloadsStand s (s.regStart k) := by
  rw [regStart_eq]
  exact (setConv_reloads (x := s.regBegun k) rfl).trans (adcKick_reloads _ _)

theorem injStart_reloads (s : State) (k : Nat) (late : Bool) : ReloadsStand s (s.injStart k late) := by
  have hset (x : Conv) (v : Nat) (hx : x.reload = (s.conv k).reload) : ReloadsStand s (((s.setConv k x).wr (aADC_INJTS k) v).adcKick k) :=
    ((setConv_reloads hx).trans (.of_kept (wr_kept (T := [.regs]) (by decide) _ _ (.refl _)))).trans (adcKick_reloads _ _)
  exact hset _ _ rfl

-- A fault stays marked

theorem fault_apart (hk : k < 16) : (fADC_FAULT k).lo + (fADC_FAULT k).width ≤ 32 := by
  simp only [fADC_FAULT, fADC]
  omega

theorem placeMove_faultBit (hk : k < 16) (s : State) : (s.placeMove (k / 2)).flag (fADC_FAULT k) = s.flag (fADC_FAULT k) := by
  have hshown (v : Nat) (b : Bool) : ((s.put (fADC_EPOCH (k / 2)) v).putFlag (fADC (k / 2) 1) b).flag (fADC_FAULT k) = s.flag (fADC_FAULT k) := by
    rw [flag_putFlag_apart (f := fADC (k / 2) 1) (g := fADC_FAULT k) _ b (by simp only [fADC]; omega) rfl (by simp only [fADC, fADC_FAULT]; omega)]
    exact flag_of_rd (f := fADC_FAULT k) (rd_put_other s (f := fADC_EPOCH (k / 2)) v (show aDEV_ADC_STAT ≠ aDEV_ADC_PLACE by decide))
  have hafter (x : State) (y : AdcPair) (i j p : Nat) : Wr [] x (((x.newEpoch i).newEpoch j).setPair p y) :=
    setPair_wr (List.nil_subset _) _ _ (newEpoch_wr (List.nil_subset _) _ (newEpoch_wr (List.nil_subset _) _ (.refl x)))
  have hplace (v : Nat) (b : Bool) (y : AdcPair) (i j p : Nat) :
      (((((s.put (fADC_EPOCH (k / 2)) v).putFlag (fADC (k / 2) 1) b).newEpoch i).newEpoch j).setPair p y).flag (fADC_FAULT k) = s.flag (fADC_FAULT k) :=
    ((hafter _ _ _ _ _).flag (fADC_FAULT k) rfl).trans (hshown _ _)
  exact hplace _ _ _ _ _ _

theorem moveAway_fault (hk : k < 16) (s : State) : (s.moveAway k).flag (fADC_FAULT k) = s.flag (fADC_FAULT k) := by
  have hplace := placeMove_faultBit hk s
  have hstop : Wr [] (s.placeMove (k / 2)) ((s.placeMove (k / 2)).convStop k) := convStop_wr (List.nil_subset _) _ (.refl _)
  rw [moveAway_eq]
  generalize heldHolds ((s.placeMove (k / 2)).conv k) = l
  generalize (s.placeMove (k / 2)).convStop k = x at hstop
  have hjoined (y : State) (h : Wr [] (s.placeMove (k / 2)) y) : Wr [] (s.placeMove (k / 2)) (y.holdsJoined (partner k) l) :=
    Wr.fold (fun _ _ hw => setConv_wr (List.nil_subset _) _ _ hw) h
  split
  · exact ((dropHolds_wr (List.nil_subset _) l hstop).flag (fADC_FAULT k) rfl).trans hplace
  · exact ((adcKick_wr (List.nil_subset _) _ (hjoined x hstop)).flag (fADC_FAULT k) rfl).trans hplace

theorem convFault_fault (hk : k < 16) (s : State) : (s.convFault k).flag (fADC_FAULT k) = true := by
  cases h : s.flag (fADC_FAULT k) with
  | true =>
    unfold convFault
    rw [if_pos h, h]
  | false =>
    have hmarked (x : State) (d bg : Nat) : (x.faultMarked k d bg).flag (fADC_FAULT k) = true := by
      have hset : (x.putFlag (fADC_FAULT k) true).flag (fADC_FAULT k) = true :=
        flag_putFlag x (fADC_FAULT k) true (fault_apart hk) Nat.one_pos
      have hwr (y : State) : Wr [(0x270, 0), (0x2A0, 0), (0x2A4, 0), (0x2A8, 0), (0x5014, 0), (0x1B070, 0)] y
          (((y.logEv evADC_CONV_FAULT kCONV k [k, d, bg]).raise srcADC_FAULT).convGroup evADC_CONV_FAULT) :=
        convGroup_wr (by decide) _ (raise_wr (by decide) _ (logEv_wr (by decide) _ _ _ _ (.refl y)))
      exact ((hwr _).flag (fADC_FAULT k) rfl).trans hset
    rw [convFault_eq h, moveAway_fault hk]
    exact hmarked _ _ _

-- The end of one converter's reload (R196)

variable {bg : Nat} {ok : Bool}

/-- The reload of a converter ends on this tick. -/
def ReloadEnds (s : State) (k : Nat) : Prop := (s.conv k).reload = 2 ∧ s.grid.tick = (s.conv k).reloadAt + 1000

/-- The reference code of a converter lies within 8 codes of the OTP value. -/
def bgGood (k bg : Nat) : Bool := decide (((bg : Int) - Config.bgOtp k).natAbs ≤ 8)

def reloadShown (s : State) (k bg : Nat) : State :=
  (s.setConv k { s.conv k with reload := 0, bg := some bg }).putFlag (fRELOAD k) false

/-- A good reference brings a faulty converter back, a bad one marks it as faulty. -/
def reloadJudged (s : State) (k : Nat) (ok : Bool) : State :=
  if ok then (if s.flag (fADC_FAULT k) && !s.pairFault (k / 2) then s.convReturn k else s) else s.convFault k

/-- An injected pass that waited begins. -/
def injWaited (s : State) (k : Nat) : State := if (s.conv k).inj.pend && !(s.conv k).inj.run then s.injStart k true else s

/-- A regular pass that waited begins. -/
def regWaited (s : State) (k : Nat) : State := if (s.conv k).reg.pend && !(s.conv k).reg.run then s.regStart k else s

/-- The passes that waited for the reload begin on a converter that serves. -/
def passesBegun (s : State) (k : Nat) : State := if s.convOut k then s else (s.injWaited k).regWaited k

/-- A converter of the running command is counted. -/
def reloadCounted (s : State) (k : Nat) (ok : Bool) : State :=
  match s.adc.reload with
  | none => s
  | some r =>
    if !bitOf r.left k then s
    else
      { s with adc := { s.adc with reload := some { r with
        left := r.left - 2 ^ k, pass := r.pass + (if ok then 2 ^ k else 0), fail := r.fail + (if ok then 0 else 2 ^ k) } } }

theorem reloadEnd_eq (h : ReloadEnds s k) (bg : Nat) : s.reloadEnd k bg =
    ((((s.reloadShown k bg).reloadJudged k (bgGood k bg)).passesBegun k).adcKick k).reloadCounted k (bgGood k bg) :=
  if_neg fun hc => hc.elim (fun h2 => h2 h.1) fun ht => ht h.2

theorem reloadEnd_none (h : ¬ ReloadEnds s k) (bg : Nat) : s.reloadEnd k bg = s := if_pos (not_and_or.1 h)

theorem reloadJudged_reloads (s : State) (k : Nat) (ok : Bool) : ReloadsStand s (s.reloadJudged k ok) := by
  unfold reloadJudged
  split
  · split
    · exact s.convReturn_reloads k
    · exact .refl s
  · exact s.convFault_reloads k

theorem passesBegun_reloads (s : State) (k : Nat) : ReloadsStand s (s.passesBegun k) := by
  have hinj : ReloadsStand s (s.injWaited k) := by
    unfold injWaited
    split
    · exact s.injStart_reloads k true
    · exact .refl s
  have hreg (x : State) : ReloadsStand x (x.regWaited k) := by
    unfold regWaited
    split
    · exact x.regStart_reloads k
    · exact .refl x
  unfold passesBegun
  split
  · exact .refl s
  · exact hinj.trans (hreg _)

/-- A converter after its reload has been judged, before the command counts it. -/
def reloadOver (s : State) (k bg : Nat) : State :=
  (((s.reloadShown k bg).reloadJudged k (bgGood k bg)).passesBegun k).adcKick k

/-- The reload of a converter is over, and a bad reference marks it as faulty. -/
structure ReloadOver (k bg : Nat) (s t : State) : Prop where
  reload : (t.conv k).reload = 0
  fault : bgGood k bg = false → t.flag (fADC_FAULT k) = true
  run : t.adc.reload = s.adc.reload

theorem reloadOver_over (hk : k < 16) (s : State) (bg : Nat) : ReloadOver k bg s (s.reloadOver k bg) := by
  have hshown : ((s.reloadShown k bg).conv k).reload = 0 ∧ (s.reloadShown k bg).adc.reload = s.adc.reload := by
    have hset := conv_setConv s k k { s.conv k with reload := 0, bg := some bg }
    rw [if_pos rfl] at hset
    exact ⟨congrArg Conv.reload hset, rfl⟩
  have hstands := (((s.reloadShown k bg).reloadJudged_reloads k (bgGood k bg)).trans (passesBegun_reloads _ k)).trans (adcKick_reloads _ k)
  refine ⟨(hstands.convs k).trans hshown.1, fun hbad => ?_, hstands.run.trans hshown.2⟩
  have hfault := convFault_fault hk (s.reloadShown k bg)
  have hjudged : (s.reloadShown k bg).reloadJudged k (bgGood k bg) = (s.reloadShown k bg).convFault k := by
    unfold reloadJudged
    exact if_neg (by rw [hbad]; exact Bool.false_ne_true)
  unfold reloadOver
  rw [hjudged]
  generalize (s.reloadShown k bg).convFault k = x at hfault
  have hout : x.passesBegun k = x := if_pos (by rw [convOut, hfault]; rfl)
  rw [hout]
  exact ((adcKick_wr (R := []) (List.nil_subset _) k (.refl x)).flag (fADC_FAULT k) rfl).trans hfault

theorem reloadCounted_conv (s : State) (k : Nat) (ok : Bool) (j : Nat) : (s.reloadCounted k ok).conv j = s.conv j := by
  unfold reloadCounted
  split
  · rfl
  split
  · rfl
  · rfl

theorem reloadCounted_rd (s : State) (k : Nat) (ok : Bool) (a : Nat) : (s.reloadCounted k ok).rd a = s.rd a := by
  unfold reloadCounted
  split
  · rfl
  split
  · rfl
  · rfl

theorem reloadCounted_mine {r : Reload} (h : s.adc.reload = some r) (hbit : bitOf r.left k = true) (ok : Bool) :
    (s.reloadCounted k ok).adc.reload = some ⟨r.ctx, r.left - 2 ^ k, r.pass + (if ok then 2 ^ k else 0), r.fail + (if ok then 0 else 2 ^ k)⟩ := by
  unfold reloadCounted
  rw [h]
  dsimp only
  rw [if_neg (by rw [hbit]; decide)]

-- The end of the command

theorem trimDone_left {r : Reload} (h : s.adc.reload = some r) (hl : r.left ≠ 0) : s.trimDone = s := by
  unfold trimDone
  rw [h]
  exact if_pos hl

theorem trimDone_none (h : ∀ r, s.adc.reload = some r → r.left ≠ 0) : s.trimDone = s := by
  cases hr : s.adc.reload with
  | none =>
    unfold trimDone
    rw [hr]
  | some r => exact trimDone_left hr (h r hr)

theorem trimDone_over {r : Reload} (h : s.adc.reload = some r) (hl : r.left = 0) : s.trimDone =
    ({ s with adc := { s.adc with reload := none } }).finishCmd r.ctx (if r.fail = 0 then stOK else stFAULT) (r.pass + r.fail * 65536)
      (leBytes 4 (r.pass + r.fail * 65536)) := by
  unfold trimDone
  rw [h]
  exact if_neg fun hc => hc hl

theorem trimDone_convs (s : State) : s.trimDone.adc.convs = s.adc.convs := by
  unfold trimDone
  split
  · split
    · rfl
    · rfl
  · rfl

theorem trimDone_conv (s : State) (j : Nat) : s.trimDone.conv j = s.conv j := by
  rw [conv, trimDone_convs, conv]

end State

end Sys2Proof.Machine
end

section
/-! TRIM_RELOAD and the end of its command (R196, R397, R408; settles O55). -/

namespace Sys2Proof.Machine

namespace State

variable {s : State} {c : Cmd}

/-- The waits for the tests that stand against a reload of the named converters. -/
def reloadWait (s : State) (c : Cmd) : List Nat := (s.reloadBlocked (c.arg 0 % 65536)).map s.bistWait

/-- The converter of the boost sampling is named, and its partner is out of service. -/
def BoostShut (s : State) (c : Cmd) : Prop := bitOf (c.arg 0 % 65536) s.boostConv = true ∧ s.convOut (partner s.boostConv) = true

theorem trimReload_waits (h : s.reloadWait c ≠ []) : s.trimReload c = s.finishCmd c.id stDEFERRED (maxFrom 0 (s.reloadWait c)) [] :=
  if_pos (by rw [Bool.not_eq_true', ← Bool.not_eq_true, List.isEmpty_iff]; exact h)

theorem not_waits (h : s.reloadWait c = []) : ¬ (!(s.reloadWait c).isEmpty) = true := by
  rw [h]
  exact Bool.false_ne_true

theorem not_running (h : s.adc.reload = none) : ¬ s.adc.reload.isSome = true := by
  rw [h]
  exact Bool.false_ne_true

theorem boostShut_iff : (bitOf (c.arg 0 % 65536) s.boostConv && s.convOut (partner s.boostConv)) = true ↔ BoostShut s c := Bool.and_eq_true _ _ ▸ Iff.rfl

theorem trimReload_busy (h : s.reloadWait c = []) (hr : s.adc.reload ≠ none) : s.trimReload c = s.finishCmd c.id stBUSY 0 [] :=
  (if_neg (not_waits h)).trans (if_pos (Option.isSome_iff_ne_none.2 hr))

theorem trimReload_shut (h : s.reloadWait c = []) (hr : s.adc.reload = none) (hs : BoostShut s c) :
    s.trimReload c = s.finishCmd c.id stREFUSED 0 [] :=
  (if_neg (not_waits h)).trans ((if_neg (not_running hr)).trans (if_pos (boostShut_iff.2 hs)))

theorem trimReload_empty (h : s.reloadWait c = []) (hr : s.adc.reload = none) (hs : ¬ BoostShut s c) (hm : c.arg 0 % 65536 = 0) :
    s.trimReload c = s.finishCmd c.id stOK 0 [0, 0, 0, 0] :=
  (if_neg (not_waits h)).trans ((if_neg (not_running hr)).trans ((if_neg (boostShut_iff.not.2 hs)).trans (if_pos hm)))

/-- The converters of a list wait for their reload. -/
def reloadsAsked (s : State) (l : List Nat) : State := l.foldl (fun s k => s.setConv k { s.conv k with reload := 1 }) s

theorem reloadsAsked_conv (l : List Nat) (j : Nat) : ∀ s : State, (s.reloadsAsked l).conv j
    = if j ∈ l then { s.conv j with reload := 1 } else s.conv j := by
  induction l with
  | nil => exact fun _ => rfl
  | cons k l ih =>
    intro s
    have hset := conv_setConv s k j { s.conv k with reload := 1 }
    refine (ih (s.setConv k { s.conv k with reload := 1 })).trans ?_
    rw [hset]
    by_cases hj : j = k
    · rw [if_pos hj, if_pos (List.mem_cons.2 (.inl hj)), hj]
      split
      · rfl
      · rfl
    · rw [if_neg hj]
      exact if_congr (List.mem_cons.trans (or_iff_right hj)).symm rfl rfl

/-- The named converters wait for their reload, and the command for them. -/
def reloadsBegun (s : State) (c : Cmd) : State :=
  let s := s.reloadsAsked ((List.range 16).filter (bitOf (c.arg 0 % 65536)))
  { s with adc := { s.adc with reload := some ⟨c.id, c.arg 0 % 65536, 0, 0⟩ } }

theorem trimReload_begins (h : s.reloadWait c = []) (hr : s.adc.reload = none) (hs : ¬ BoostShut s c) (hm : c.arg 0 % 65536 ≠ 0) :
    s.trimReload c = (s.reloadsBegun c).longCmd c.id :=
  (if_neg (not_waits h)).trans ((if_neg (not_running hr)).trans ((if_neg (boostShut_iff.not.2 hs)).trans (if_neg hm)))

/-- The reload of the named converters has begun. -/
structure ReloadsBegun (c : Cmd) (s t : State) : Prop where
  run : t.adc.reload = some ⟨c.id, c.arg 0 % 65536, 0, 0⟩
  convs : ∀ j, t.conv j = if j < 16 ∧ bitOf (c.arg 0 % 65536) j = true then { s.conv j with reload := 1 } else s.conv j
  kept : Kept [.adc] s t

theorem reloadsBegun_begun (s : State) (c : Cmd) : ReloadsBegun c s (s.reloadsBegun c) := by
  have hconv (j : Nat) := s.reloadsAsked_conv ((List.range 16).filter (bitOf (c.arg 0 % 65536))) j
  have hkept : Kept [.adc] s (s.reloadsAsked ((List.range 16).filter (bitOf (c.arg 0 % 65536)))) :=
    Kept.fold (fun _ _ hk => setConv_kept (by decide) _ _ hk) (.refl s)
  unfold reloadsBegun
  generalize s.reloadsAsked ((List.range 16).filter (bitOf (c.arg 0 % 65536))) = x at hconv hkept
  refine ⟨rfl, fun j => (hconv j).trans (if_congr ?_ rfl rfl), hkept.upd_adc (by decide)⟩
  rw [List.mem_filter, List.mem_range]

/-- The running command has ended with what it counted. -/
structure TrimEnded (r : Reload) (s t : State) : Prop where
  run : t.adc.reload = none
  cmds : t.mbx.cmds = s.mbx.cmds.map fun x => if x.id = r.ctx then { x with
    phase := .done, status := if r.fail = 0 then 0x00 else 0x30, r0 := (r.pass + r.fail * 65536) % 2 ^ 32
    out := (leBytes 4 (r.pass + r.fail * 65536)).take x.rlen } else x

theorem trimDone_ended {r : Reload} (h : s.adc.reload = some r) (hl : r.left = 0) : TrimEnded r s s.trimDone := by
  rw [trimDone_over h hl]
  exact ⟨rfl, rfl⟩

/-- The state after the reload of a converter has ended and been counted, before the command's end. -/
theorem reloadEnd_of_ends {k : Nat} (h : ReloadEnds s k) (bg : Nat) : s.reloadEnd k bg = (s.reloadOver k bg).reloadCounted k (bgGood k bg) :=
  reloadEnd_eq h bg

theorem reloadEnd_mine {k : Nat} {r : Reload} (hk : k < 16) (h : ReloadEnds s k) (bg : Nat) (hr : s.adc.reload = some r) (hbit : bitOf r.left k = true) :
    (s.reloadEnd k bg).adc.reload = some ⟨r.ctx, r.left - 2 ^ k, r.pass + (if bgGood k bg then 2 ^ k else 0), r.fail + (if bgGood k bg then 0 else 2 ^ k)⟩ := by
  rw [reloadEnd_of_ends h]
  exact reloadCounted_mine ((reloadOver_over hk s bg).run.trans hr) hbit _

theorem bit_le {x n : Nat} (h : bitOf x n = true) : 2 ^ n ≤ x := by
  by_contra hlt
  rw [bitOf, Nat.div_eq_of_lt (Nat.not_le.1 hlt)] at h
  exact absurd h (by decide)

end State

theorem exec_trimReload (s : State) : exec .trimReload s = .next (s.onCmd (fun c => c.op == opTRIM_RELOAD) s.trimReload) := rfl
theorem exec_trimReloadDone (k : Fin 16) (bg : BitVec 12) (s : State) :
    exec (.trimReloadDone k bg) s = .next (s.reloadEnd k.val bg.toNat).trimDone := rfl

/-- Settles O55. -/
theorem trimReload : Obligations.TrimReload := by
  intro s c k bg r m wait shut ok pass fail w ends mine
  have hok : State.bgGood k bg.toNat = true ↔ ok := decide_eq_true_iff
  have hpass : r.pass + (if State.bgGood k bg.toNat then 2 ^ (k : Nat) else 0) = pass := congrArg (r.pass + ·) (if_congr hok rfl rfl)
  have hfail : r.fail + (if State.bgGood k bg.toNat then 0 else 2 ^ (k : Nat)) = fail := congrArg (r.fail + ·) (if_congr hok rfl rfl)
  have hcounted (h : mine) : (s.reloadEnd k bg.toNat).adc.reload = some ⟨r.ctx, r.left - 2 ^ (k : Nat), pass, fail⟩ := by
    rw [State.reloadEnd_mine k.isLt h.1 bg.toNat h.2.1 h.2.2, hpass, hfail]
  have hkept := State.reloadEnd_kept (T := [.regs, .icu, .evt, .nw, .pwr, .chans, .mtx, .adc, .bist]) (by decide) (k : Nat) bg.toNat (.refl s)
  have hrun := exec_trimReloadDone k bg s
  refine ⟨fun h => ?command, fun he hl => ?idle, fun he => ?reloaded, fun hm hl => ?counted, fun hm hl => ?last⟩
  case command =>
    have hrun {u : State} (hu : s.trimReload c = u) : exec .trimReload s = .next u := by
      rw [← hu]
      exact (exec_trimReload s).trans (congrArg Host.Outcome.next (State.onCmd_of_runs h _))
    have hends {st r0 : Nat} {out : List Byte} (hu : s.trimReload c = s.finishCmd c.id st r0 out) :
        Completes .trimReload s (fun u => Ended s u c st r0 out ∧ Only [.mbx] s u) :=
      .of_eq (hrun hu) (State.finishCmd_after h.1 (T := []) (.refl s) st r0 out)
    refine ⟨fun hw => hends (State.trimReload_waits hw), fun hw hr => hends (State.trimReload_busy hw hr),
      fun hw hr hs => hends (State.trimReload_shut hw hr hs), fun hw hr hs hm => hends (State.trimReload_empty hw hr hs hm), fun hw hr hs hm => ?_⟩
    have hbegun := s.reloadsBegun_begun c
    have heq := hrun (State.trimReload_begins hw hr hs hm)
    generalize s.reloadsBegun c = x at hbegun heq
    obtain ⟨hruns, hlong⟩ := State.longCmd_after h.1 hbegun.kept
    have hlast := State.longCmd_kept (T := [.mbx]) (by decide) c.id (.refl x)
    exact .of_eq heq ⟨hruns, by rw [hlast.adc_eq]; exact hbegun.run, fun j => (State.conv_congr hlast.adc_eq j).trans (hbegun.convs j), hlong.only⟩
  case idle =>
    refine .of_eq hrun ?_
    rw [State.reloadEnd_none he, State.trimDone_none hl]
  case reloaded =>
    have hover := State.reloadOver_over k.isLt s bg.toNat
    have heq := State.reloadEnd_of_ends he bg.toNat
    have hconv := State.reloadCounted_conv (s.reloadOver k bg.toNat) k (State.bgGood k bg.toNat) k
    have hrd := State.reloadCounted_rd (s.reloadOver k bg.toNat) k (State.bgGood k bg.toNat)
    rw [← heq] at hconv hrd
    generalize s.reloadEnd k bg.toNat = x at hkept hconv hrd hrun
    have hdone := State.trimDone_wr (R := []) (List.nil_subset _) (.refl x)
    have hall := State.trimDone_kept (T := [.regs, .icu, .evt, .nw, .pwr, .chans, .mtx, .adc, .mbx, .bist]) (by decide) (hkept.mono (by decide))
    refine .of_eq hrun ⟨?_, fun hbad => ?_, hall.only⟩
    · rw [State.trimDone_conv, hconv]
      exact hover.reload
    · exact (hdone.flag (State.fADC_FAULT k) rfl).trans ((State.flag_of_rd (f := State.fADC_FAULT k) (hrd _)).trans
        (hover.fault (Bool.eq_false_iff.2 fun hc => hbad (hok.1 hc))))
  case counted =>
    have hleft : r.left - 2 ^ (k : Nat) ≠ 0 := by
      have hle := State.bit_le hm.2.2
      omega
    have hdone := State.trimDone_left (hcounted hm) hleft
    exact .of_eq (hrun.trans (congrArg Host.Outcome.next hdone)) ⟨hcounted hm, hkept.mbx_eq⟩
  case last =>
    have hdone := State.trimDone_ended (hcounted hm) (by rw [hl]; exact Nat.sub_self _)
    refine .of_eq hrun ⟨hdone.run, ?_⟩
    rw [hdone.cmds, hkept.mbx_eq]

end Sys2Proof.Machine
end

section
/-! CYHAR COMMANDS FROM THE RING AND THEIR CONTEXTS (R325-R327; settles O56). -/

namespace Sys2Proof.Machine

namespace State

variable {s t u : State} {k q p : Nat} {body : List Byte}

-- A context is dropped (R325)

/-- The commands of a dropped context that run to their end. -/
def outlives (k : Nat) (z : Cmd) : Bool := z.ctx != k || z.phase == .long || (z.phase == .running && z.priv && opPrivileged z.op)

/-- A ring context has been dropped with its elevation and nonce. -/
structure CtxDropped (k : Nat) (s t : State) : Prop where
  ctx : ∀ j, t.ringCtx j = if j = k then defRingCtx else s.ringCtx j
  elevated : ∀ j, t.elevated j = (s.elevated j && !(j == k))
  nonces : t.sec.nonces = tabErase s.sec.nonces k
  cmds : t.mbx.cmds = (s.mbx.cmds.filter (outlives k)).map fun z => if z.ctx = k then { z with gone := true } else z
  kept : Kept [.mbx, .sec] s t

theorem dropCtx_dropped (s : State) (k : Nat) : CtxDropped k s (s.dropCtx k) := by
  have hctx (j : Nat) : (s.setRingCtx k defRingCtx).ringCtx j = if j = k then defRingCtx else s.ringCtx j := s.ringCtx_setRingCtx k j defRingCtx
  have helev (j : Nat) : ((s.setRingCtx k defRingCtx).endElev k).elevated j = (s.elevated j && !(j == k)) := endElev_elevated _ k j
  have hset (x : State) (y : Mbx) (j : Nat) (hy : y.ring = x.mbx.ring) : (x.setMbx y).ringCtx j = x.ringCtx j := by
    have hring : (x.setMbx y).mbx.ring = y.ring := rfl
    rw [ringCtx, hring, hy, ringCtx]
  exact ⟨fun j => (hset _ _ j rfl).trans (hctx j), helev, rfl, rfl, dropCtx_kept (by decide) k (.refl s)⟩

theorem nonce_of_erased {l : Tab (Nat × List Byte)} (h : t.sec.nonces = tabErase l k) : t.nonce k = none := by
  have hnone : (tabErase l k).find? (fun p => p.1 == k && t.nonceLive k) = none :=
    List.find?_eq_none.2 fun p hp h => erase_no_key l k p hp (beq_iff_eq.1 (Bool.and_eq_true_iff.1 h).1)
  rw [nonce, h, hnone]
  rfl

theorem ctxIdle_drops (h : (s.ringCtx k).used = true ∧ (s.ringCtx k).last + 60 * tps ≤ s.nw.tick) : s.ctxIdle k = s.dropCtx k :=
  if_pos (Bool.and_eq_true_iff.2 ⟨h.1, decide_eq_true h.2⟩)

theorem ctxIdle_none (h : ¬ ((s.ringCtx k).used = true ∧ (s.ringCtx k).last + 60 * tps ≤ s.nw.tick)) : s.ctxIdle k = s :=
  if_neg fun hc => h ⟨(Bool.and_eq_true_iff.1 hc).1, of_decide_eq_true (Bool.and_eq_true_iff.1 hc).2⟩

-- A context is opened for a MAC (R325)

/-- A context has been opened for a MAC, with its copies at their reset values. -/
structure CtxOpened (k mac : Nat) (s t : State) : Prop where
  ctx : t.ringCtx k = ⟨true, mac, s.nw.tick, none, []⟩
  copy : t.copyOf k = defCopy
  elevated : t.elevated k = false
  nonces : t.sec.nonces = tabErase s.sec.nonces k

theorem openCtx_opened (s : State) (k mac : Nat) : CtxOpened k mac s (s.openCtx k mac) := by
  have hdrop := s.dropCtx_dropped k
  have hnw := hdrop.kept.nw_eq
  unfold openCtx
  generalize s.dropCtx k = x at hdrop hnw
  have hctx := x.ringCtx_setRingCtx k k ⟨true, mac, s.nw.tick, none, []⟩
  have hset := setRingCtx_kept (T := [.mbx]) (by decide) k ⟨true, mac, s.nw.tick, none, []⟩ (.refl x)
  rw [if_pos rfl] at hctx
  generalize x.setRingCtx k ⟨true, mac, s.nw.tick, none, []⟩ = y at hctx hset
  have hcopy := copyOf_setCopy y k k defCopy
  have hlast := setCopy_kept (T := [.ctx]) (by decide) k defCopy (.refl y)
  refine ⟨(ringCtx_of_mbx hlast.mbx_eq k).trans hctx, hcopy.trans (if_pos rfl), ?_, by rw [hlast.sec_eq, hset.sec_eq]; exact hdrop.nonces⟩
  rw [elevated, hlast.sec_eq, hset.sec_eq, ← elevated, hdrop.elevated, beq_self_eq_true, Bool.not_true, Bool.and_false]

theorem findCtx_congr (h : t.mbx = s.mbx) (mac : Nat) : t.findCtx mac = s.findCtx mac := by
  unfold findCtx ringCtx
  rw [h]

theorem freeCtx_congr (h : t.mbx = s.mbx) : t.freeCtx = s.freeCtx := by
  unfold freeCtx ringCtx
  rw [h]

theorem takeoverCtx_congr (h : t.mbx = s.mbx) (hsec : t.sec = s.sec) (hnw : t.nw = s.nw) : t.takeoverCtx = s.takeoverCtx := by
  unfold takeoverCtx elevated ringCtx
  rw [h, hsec, hnw]

-- A command in its context, by its SEQ (R326)

/-- The context's last command is of this tick. -/
def ctxHeard (s : State) (k : Nat) : State := s.setRingCtx k { s.ringCtx k with last := s.nw.tick }

/-- A context with a newer SEQ, which joins its store. -/
def seqJoined (s : State) (k q : Nat) : RingCtx :=
  { s.ringCtx k with last := s.nw.tick, newest := some q, store := ((q, none) :: (s.ringCtx k).store).take 16 }

def seqStored (s : State) (k q : Nat) : State := (s.ctxHeard k).setRingCtx k (s.seqJoined k q)

/-- A SEQ that no command of the store has. -/
def SeqFree (s : State) (k q : Nat) : Prop := ((s.ringCtx k).store.find? fun e => e.1 == q) = none

/-- A SEQ that is newer than the newest. -/
def SeqNew (s : State) (k q : Nat) : Prop := ∀ n, (s.ringCtx k).newest = some n → seqNewer q n = true

/-- The command of a frame. -/
def frameCmd (s : State) (k q p : Nat) (body : List Byte) : Cmd :=
  let d := parseDesc s.mbx.nextId k false (body.take 64) (body.drop 64) q p
  { d with urgent := bitOf d.flags 3, taken := s.stampNow 2 }

theorem ringCmd_repeated {mac : Nat} (h : ((s.ringCtx k).store.find? fun e => e.1 == q) = some (q, none)) :
    s.ringCmd k p mac q body = (s.ctxHeard k).bump aMBX_RING_DUP := by
  unfold ringCmd
  dsimp only
  rw [h]
  rfl

theorem not_seqNew (h : ¬ SeqNew s k q) : ∃ n, (s.ringCtx k).newest = some n ∧ seqNewer q n = false := by
  simp only [SeqNew, not_forall, Bool.not_eq_true] at h
  obtain ⟨n, hn, hq⟩ := h
  exact ⟨n, hn, hq⟩

theorem ringCmd_old {mac : Nat} (h : SeqFree s k q) (hold : ¬ SeqNew s k q) : s.ringCmd k p mac q body = (s.ctxHeard k).bump aMBX_RING_OLD := by
  obtain ⟨n, hn, hq⟩ := not_seqNew hold
  have hyes : (match (s.ringCtx k).newest with
      | some n => !seqNewer q n
      | none => false) = true := by
    rw [hn]
    exact congrArg not hq
  unfold ringCmd
  dsimp only
  rw [h]
  exact if_pos hyes

/-- The context of a frame's MAC has heard of it, and nothing else has changed but one count. -/
structure CtxCounted (k a : Nat) (s t : State) : Prop where
  count : t.rd a = s.rd a + 1
  cmds : t.mbx.cmds = s.mbx.cmds
  ctx : t.ringCtx k = { s.ringCtx k with last := s.nw.tick }
  kept : Kept [.regs, .mbx] s t
  wr : Wr [(a, 0)] s t

theorem ctxHeard_counted (s : State) (k a : Nat) : CtxCounted k a s ((s.ctxHeard k).bump a) := by
  have hheard : Kept [.mbx] s (s.ctxHeard k) := setRingCtx_kept (by decide) _ _ (.refl s)
  have hctx : (s.ctxHeard k).ringCtx k = { s.ringCtx k with last := s.nw.tick } := (s.ringCtx_setRingCtx k k _).trans (if_pos rfl)
  have hcmds : (s.ctxHeard k).mbx.cmds = s.mbx.cmds := rfl
  have hwr : Wr [(a, 0)] s (s.ctxHeard k) := setRingCtx_wr (List.nil_subset _) _ _ (.refl s)
  generalize s.ctxHeard k = x at hheard hctx hcmds hwr
  have hbump := bump_kept (T := [.regs]) (by decide) a (.refl x)
  exact ⟨by rw [rd_bump, rd_of_kept hheard], by rw [hbump.mbx_eq, hcmds], (ringCtx_of_mbx hbump.mbx_eq k).trans hctx,
    bump_kept (by decide) a (hheard.mono (by decide)), bump_wr (hit_one List.mem_cons_self) hwr⟩

theorem seqStored_ctx (s : State) (k q : Nat) : (s.seqStored k q).ringCtx k = s.seqJoined k q :=
  ((s.ctxHeard k).ringCtx_setRingCtx k k _).trans (if_pos rfl)

theorem seqStored_kept (s : State) (k q : Nat) : Kept [.mbx] s (s.seqStored k q) :=
  setRingCtx_kept (by decide) _ _ (setRingCtx_kept (by decide) _ _ (.refl s))

theorem seqStored_cmds (s : State) (k q : Nat) : (s.seqStored k q).mbx.cmds = s.mbx.cmds ∧ (s.seqStored k q).mbx.nextId = s.mbx.nextId :=
  ⟨rfl, rfl⟩

theorem seqStored_frameCmd (s : State) (k q p : Nat) (body : List Byte) : (s.seqStored k q).frameCmd k q p body = s.frameCmd k q p body := by
  have hkept := s.seqStored_kept k q
  have hstamp : (s.seqStored k q).stampNow 2 = s.stampNow 2 := stampNow_of_wr (R := []) 2 hkept.time_eq ⟨fun a _ => rd_of_kept hkept a⟩ rfl rfl rfl
  unfold frameCmd
  dsimp only
  rw [(s.seqStored_cmds k q).2, hstamp]

theorem ringCmd_joined {mac : Nat} (h : SeqFree s k q) (hnew : SeqNew s k q) : s.ringCmd k p mac q body =
    if (s.frameCmd k q p body).plen + 64 ≠ body.length
      then (s.seqStored k q).addCmd { s.frameCmd k q p body with phase := .done, status := stBAD_ARG }
    else if 32 ≤ (s.seqStored k q).inflightCnt k then (s.seqStored k q).addCmd { s.frameCmd k q p body with phase := .done, status := stBUSY }
    else (s.seqStored k q).takeCmd (s.frameCmd k q p body) := by
  have hnot : (match (s.ringCtx k).newest with
      | some n => !seqNewer q n
      | none => false) = false := by
    split
    next n hn => rw [hnew n hn]; rfl
    · rfl
  rw [← seqStored_frameCmd]
  unfold ringCmd
  dsimp only
  rw [h]
  refine (if_neg ?_).trans ?_
  · exact fun hc => Bool.false_ne_true (hnot.symm.trans hc)
  · rfl

/-- A command has joined those in flight, and its SEQ the store of its context. -/
structure CmdAdded (k q : Nat) (z : Cmd) (s t : State) : Prop where
  ctx : t.ringCtx k = s.seqJoined k q
  cmds : t.mbx.cmds = s.mbx.cmds ++ [z]
  kept : Kept [.mbx] s t

theorem addCmd_added (s : State) (k q : Nat) (z : Cmd) : CmdAdded k q z s ((s.seqStored k q).addCmd z) := by
  have hctx := s.seqStored_ctx k q
  have hkept := s.seqStored_kept k q
  have hcmds := (s.seqStored_cmds k q).1
  generalize s.seqStored k q = x at hctx hkept hcmds
  have hring : (x.addCmd z).mbx.ring = x.mbx.ring := rfl
  have hadd : (x.addCmd z).mbx.cmds = x.mbx.cmds ++ [z] := rfl
  refine ⟨?_, by rw [hadd, hcmds], addCmd_kept (by decide) _ hkept⟩
  rw [← hctx, ringCtx, hring, ringCtx]

variable {mac : Nat}

theorem ringCmd_wrongLength (h : SeqFree s k q) (hnew : SeqNew s k q) (hl : (s.frameCmd k q p body).plen + 64 ≠ body.length) :
    CmdAdded k q { s.frameCmd k q p body with phase := .done, status := stBAD_ARG } s (s.ringCmd k p mac q body) := by
  rw [ringCmd_joined h hnew, if_pos hl]
  exact s.addCmd_added k q _

theorem inflightCnt_congr (h : t.mbx.cmds = s.mbx.cmds) (k : Nat) : t.inflightCnt k = s.inflightCnt k := by rw [inflightCnt, h, inflightCnt]

theorem ringCmd_full (h : SeqFree s k q) (hnew : SeqNew s k q) (hl : (s.frameCmd k q p body).plen + 64 = body.length) (hf : 32 ≤ s.inflightCnt k) :
    CmdAdded k q { s.frameCmd k q p body with phase := .done, status := stBUSY } s (s.ringCmd k p mac q body) := by
  rw [ringCmd_joined h hnew, if_neg (not_not.2 hl), if_pos (by rw [inflightCnt_congr (s.seqStored_cmds k q).1]; exact hf)]
  exact s.addCmd_added k q _

theorem ringCmd_taken (h : SeqFree s k q) (hnew : SeqNew s k q) (hl : (s.frameCmd k q p body).plen + 64 = body.length) (hf : s.inflightCnt k < 32)
    (htag : ∀ z ∈ s.mbx.cmds, ¬ (z.ctx = k ∧ z.counts = true ∧ z.tag = (s.frameCmd k q p body).tag)) :
    CmdAdded k q (s.frameCmd k q p body) s (s.ringCmd k p mac q body) := by
  have hfree : ¬ (s.seqStored k q).TagTaken (s.frameCmd k q p body) := fun ⟨z, hz, hctx, hcounts, ht⟩ => htag z hz ⟨hctx, hcounts, ht⟩
  have hkept := s.seqStored_kept k q
  have hstamp : (s.seqStored k q).stampNow 2 = s.stampNow 2 := stampNow_of_wr (R := []) 2 hkept.time_eq ⟨fun a _ => rd_of_kept hkept a⟩ rfl rfl rfl
  have hsame : { s.frameCmd k q p body with taken := (s.seqStored k q).stampNow 2 } = s.frameCmd k q p body := by
    rw [hstamp]
    rfl
  rw [ringCmd_joined h hnew, if_neg (not_not.2 hl), if_neg (by rw [inflightCnt_congr (s.seqStored_cmds k q).1]; exact Nat.not_le.2 hf),
    takeCmd_new hfree, hsame]
  exact s.addCmd_added k q _

theorem takeCmd_ring (s : State) (z : Cmd) : (s.takeCmd z).mbx.ring = s.mbx.ring := by
  have herr (x : State) : (x.mbxErr fMBX_DUP_TAG).mbx = x.mbx := (mbxErr_kept (T := [.regs, .icu, .nw, .pwr]) (by decide) _ (.refl x)).mbx_eq
  by_cases h : s.TagTaken z
  · rw [takeCmd_dup h, herr]
    rfl
  · rw [takeCmd_new h]
    rfl

/-- A newer SEQ becomes the newest of its context and joins the store, whatever becomes of the command. -/
theorem ringCmd_ctx (h : SeqFree s k q) (hnew : SeqNew s k q) : (s.ringCmd k p mac q body).ringCtx k = s.seqJoined k q := by
  have hctx := s.seqStored_ctx k q
  rw [ringCmd_joined h hnew]
  split
  · exact (s.addCmd_added k q _).ctx
  split
  · exact (s.addCmd_added k q _).ctx
  · rw [ringCtx, takeCmd_ring, ← ringCtx, hctx]

-- A frame is taken up (R249, R325)

/-- SC0 takes up CYHAR_CMD frames. -/
def CyharUp (s : State) : Prop := s.sc0Up = true ∧ s.cyharOn = true ∧ ¬ (s.pstate = 0 ∧ s.get fPWR_HOLD = 1)

theorem cyharUp_iff : (!s.sc0Up || !s.cyharOn || (s.pstate == 0 && s.get fPWR_HOLD == 1)) = true ↔ ¬ CyharUp s := by
  unfold CyharUp
  simp only [Bool.or_eq_true, Bool.not_eq_true', Bool.and_eq_true, beq_iff_eq, not_and_or, not_or, not_not, Bool.not_eq_true, or_assoc]

/-- The copy of the frame has been taken up. -/
def cyharCopied (s : State) (p : Nat) : State := s.copyTaken cpCYHAR p 0

theorem ringCmdFrame_none (h : ¬ CyharUp s) : s.ringCmdFrame p mac q body = s := if_pos (cyharUp_iff.2 h)

theorem ringCmdFrame_short (h : CyharUp s) (hl : body.length < 64) : s.ringCmdFrame p mac q body = s.cyharCopied p :=
  (if_neg fun hc => cyharUp_iff.1 hc h).trans (if_pos hl)

theorem cyharCopied_kept (s : State) (p : Nat) : Kept [.ring] s (s.cyharCopied p) := copyTaken_kept (by decide) _ _ _ (.refl s)

theorem ringCmdFrame_found (h : CyharUp s) (hl : 64 ≤ body.length) (hf : s.findCtx mac = some k) :
    s.ringCmdFrame p mac q body = (s.cyharCopied p).ringCmd k p mac q body := by
  have hfind : (s.cyharCopied p).findCtx mac = some k := (findCtx_congr (s.cyharCopied_kept p).mbx_eq mac).trans hf
  have hctx : (s.cyharCopied p).ctxFor mac = (some k, s.cyharCopied p) := by
    unfold ctxFor
    rw [hfind]
  refine (if_neg fun hc => cyharUp_iff.1 hc h).trans ((if_neg (Nat.not_lt.2 hl)).trans ?_)
  unfold cyharCopied at hctx ⊢
  rw [hctx]

theorem ringCmdFrame_opened (h : CyharUp s) (hl : 64 ≤ body.length) (hf : s.findCtx mac = none) (hk : s.freeCtx = some k) :
    s.ringCmdFrame p mac q body = ((s.cyharCopied p).openCtx k mac).ringCmd k p mac q body := by
  have hmbx := (s.cyharCopied_kept p).mbx_eq
  have hctx : (s.cyharCopied p).ctxFor mac = (some k, (s.cyharCopied p).openCtx k mac) := by
    unfold ctxFor
    rw [findCtx_congr hmbx mac, hf, freeCtx_congr hmbx, hk]
  refine (if_neg fun hc => cyharUp_iff.1 hc h).trans ((if_neg (Nat.not_lt.2 hl)).trans ?_)
  unfold cyharCopied at hctx ⊢
  rw [hctx]

/-- The answer BUSY to a frame that no context takes up. -/
def busyReply (s : State) (q p : Nat) (body : List Byte) : List Byte :=
  s.entryOf { parseDesc 0 0 false (body.take 64) [] q p with status := stBUSY } false

theorem ringCmdFrame_full (h : CyharUp s) (hl : 64 ≤ body.length) (hf : s.findCtx mac = none) (hk : s.freeCtx = none) (ht : s.takeoverCtx = none) :
    s.ringCmdFrame p mac q body = (s.cyharCopied p).sendReply p 0 mac q ((s.cyharCopied p).busyReply q p body) := by
  have hkept := s.cyharCopied_kept p
  have hctx : (s.cyharCopied p).ctxFor mac = (none, s.cyharCopied p) := by
    unfold ctxFor
    rw [findCtx_congr hkept.mbx_eq mac, hf, freeCtx_congr hkept.mbx_eq, hk, takeoverCtx_congr hkept.mbx_eq hkept.sec_eq hkept.nw_eq, ht]
  refine (if_neg fun hc => cyharUp_iff.1 hc h).trans ((if_neg (Nat.not_lt.2 hl)).trans ?_)
  unfold cyharCopied at hctx ⊢
  rw [hctx]
  rfl

-- Replies on a shut port (R327)

variable {f : Frame}

theorem replyDrop_open (h : s.shut p = false) : s.replyDrop p = s := if_pos (by rw [h]; rfl)

theorem replyDrop_loc (h : s.shut p = true) (hf : (s.egress p).loc.find? s.replyOld = some f) :
    s.replyDrop p = (s.setEgress p { s.egress p with loc := (s.egress p).loc.erase f }).refill p := by
  refine (if_neg (by rw [h]; decide)).trans ?_
  dsimp only
  rw [hf]

theorem replyDrop_waiting (h : s.shut p = true) (hl : (s.egress p).loc.find? s.replyOld = none) (hf : (s.egress p).kept.find? s.replyOld = some f) :
    s.replyDrop p = s.setEgress p { s.egress p with kept := (s.egress p).kept.erase f } := by
  refine (if_neg (by rw [h]; decide)).trans ?_
  dsimp only
  rw [hl, hf]

theorem replyDrop_none (hl : (s.egress p).loc.find? s.replyOld = none) (hf : (s.egress p).kept.find? s.replyOld = none) : s.replyDrop p = s := by
  unfold replyDrop
  split
  · rfl
  · dsimp only
    rw [hl, hf]

/-- The frames that a queue's room takes in join it. -/
def refilled (e : Egress) : Egress :=
  { e with
    loc := (takeIn e.loc e.kept).1, kept := (takeIn e.loc e.kept).2, ptp := (takeIn e.ptp e.keptPtp).1, keptPtp := (takeIn e.ptp e.keptPtp).2 }

theorem refill_eq (s : State) (p : Nat) : s.refill p = s.setEgress p (refilled (s.egress p)) := rfl

/-- The egress of a port is as given, and every other one as it was. -/
structure EgressSet (p : Nat) (e : Egress) (s t : State) : Prop where
  egress : t.egress p = e
  others : ∀ j, j ≠ p → t.egress j = s.egress j
  kept : Kept [.ring] s t

theorem setEgress_set (s : State) (p : Nat) (e : Egress) : EgressSet p e s (s.setEgress p e) :=
  ⟨(s.egress_setEgress p p e).trans (if_pos rfl), fun j hj => (s.egress_setEgress p j e).trans (if_neg hj), setEgress_kept (by decide) _ _ (.refl s)⟩

theorem setEgress_refill_set (s : State) (p : Nat) (e : Egress) : EgressSet p (refilled e) s ((s.setEgress p e).refill p) := by
  have hset := s.setEgress_set p e
  generalize s.setEgress p e = x at hset
  have hfill := x.setEgress_set p (refilled (x.egress p))
  rw [refill_eq]
  exact ⟨hfill.egress.trans (congrArg refilled hset.egress), fun j hj => (hfill.others j hj).trans (hset.others j hj), hset.kept.trans hfill.kept⟩

end State

end Sys2Proof.Machine
end

section
/-! A FRAME IN ITS CONTEXT (R325-R327; settles O56). -/

namespace Sys2Proof.Machine

namespace State

variable {s t : State} {k q p : Nat} {body : List Byte} {mac : Nat} {z : Cmd}

/-- What a command of a context goes by is the same in both states. -/
structure SameContexts (s t : State) : Prop where
  ctx : ∀ k, t.ringCtx k = s.ringCtx k
  joined : ∀ k q, t.seqJoined k q = s.seqJoined k q
  cmd : ∀ k q p body, t.frameCmd k q p body = s.frameCmd k q p body
  cmds : t.mbx.cmds = s.mbx.cmds
  tick : t.nw.tick = s.nw.tick

theorem sameContexts_of_kept (h : Kept [.ring] s t) : SameContexts s t := by
  have hctx (k : Nat) := ringCtx_of_mbx h.mbx_eq k
  have hstamp : t.stampNow 2 = s.stampNow 2 := stampNow_of_wr (R := []) 2 h.time_eq ⟨fun a _ => rd_of_kept h a⟩ rfl rfl rfl
  refine ⟨hctx, fun k q => ?_, fun k q p body => ?_, by rw [h.mbx_eq], by rw [h.nw_eq]⟩
  · rw [seqJoined, hctx, h.nw_eq, seqJoined]
  · unfold frameCmd
    dsimp only
    rw [h.mbx_eq, hstamp]

/-- A frame's command has been added to those in flight, in the context of its MAC. -/
structure FrameAdded (k q : Nat) (z : Cmd) (s t : State) : Prop where
  ctx : t.ringCtx k = s.seqJoined k q
  cmds : t.mbx.cmds = s.mbx.cmds ++ [z]
  only : Only [.ring, .mbx] s t

theorem frameAdded_of (hx : Kept [.ring] s t) {u : State} (h : CmdAdded k q z t u) : FrameAdded k q z s u := by
  have hsame := sameContexts_of_kept hx
  exact ⟨h.ctx.trans (hsame.joined k q), by rw [h.cmds, hsame.cmds], ((hx.mono (by decide)).trans (h.kept.mono (by decide))).only⟩

/-- A frame with an old SEQ has been counted in the context of its MAC. -/
structure FrameCounted (k a : Nat) (s t : State) : Prop where
  count : t.rd a = s.rd a + 1
  cmds : t.mbx.cmds = s.mbx.cmds
  ctx : t.ringCtx k = { s.ringCtx k with last := s.nw.tick }
  only : Only [.regs, .ring, .mbx] s t
  regs : OnlyRegs [(a, 0)] s t

theorem frameCounted_of (hx : Kept [.ring] s t) {a : Nat} {u : State} (h : CtxCounted k a t u) : FrameCounted k a s u := by
  have hsame := sameContexts_of_kept hx
  refine ⟨by rw [h.count, rd_of_kept hx], by rw [h.cmds, hsame.cmds], by rw [h.ctx, hsame.ctx, hsame.tick],
    ((hx.mono (by decide)).trans (h.kept.mono (by decide))).only, fun b hb => (h.wr.eq b hb).trans (rd_of_kept hx b)⟩

/-- A command of a MAC without a context has opened one. -/
structure FrameOpened (k q mac : Nat) (t : State) : Prop where
  ctx : t.ringCtx k = ⟨true, mac, (t.ringCtx k).last, some q, [(q, none)]⟩
  copy : t.copyOf k = defCopy
  elevated : t.elevated k = false
  nonce : t.nonce k = none

theorem ringCmd_opened (h : CtxOpened k mac s t) : FrameOpened k q mac (t.ringCmd k p mac q body) := by
  have hfree : SeqFree t k q := by
    rw [SeqFree, h.ctx]
    rfl
  have hnew : SeqNew t k q := fun n hn => by
    rw [h.ctx] at hn
    exact nomatch hn
  have hctx := ringCmd_ctx (p := p) (body := body) (mac := mac) hfree hnew
  have hkept := ringCmd_kept (T := [.regs, .icu, .nw, .pwr, .ring, .ptp, .mbx]) (by decide) k p mac q body (.refl t)
  generalize t.ringCmd k p mac q body = u at hctx hkept
  refine ⟨?_, (copyOf_congr hkept.ctx_eq k).trans h.copy, ?_, nonce_of_erased (by rw [hkept.sec_eq]; exact h.nonces)⟩
  · rw [hctx, seqJoined, h.ctx]
    rfl
  · rw [State.elevated, hkept.sec_eq, ← State.elevated, h.elevated]

end State

theorem exec_cyharCmdFrame (p : Fin 2) (mac : BitVec 48) (seq : BitVec 32) (body : List Byte) (s : State) :
    exec (.cyharCmdFrame p mac seq body) s = .next (s.ringCmdFrame p.val mac.toNat seq.toNat body) := rfl
theorem exec_cyharReplyDrop (p : Fin 2) (s : State) : exec (.cyharReplyDrop p) s = .next (s.replyDrop p.val) := rfl
theorem exec_ringContextIdleDrop (i : Fin 8) (s : State) : exec (.ringContextIdleDrop i) s = .next (s.ctxIdle (i.val + 1)) := rfl

/-- Settles O56. -/
theorem ringContexts : Obligations.RingContexts := by
  intro p i mac seq body s k f m q go up takes x found stored newer d cmd e y idle accepted added
  have hcopied := s.cyharCopied_kept p
  have hsame := State.sameContexts_of_kept hcopied
  have hgo {u : State} (hu : s.ringCmdFrame p m q body = u) : exec go s = .next u := (exec_cyharCmdFrame p mac seq body s).trans (congrArg Host.Outcome.next hu)
  have hfound (ht : takes) (hf : found) : exec go s = .next ((s.cyharCopied p).ringCmd k p m q body) := hgo (State.ringCmdFrame_found ht.1 ht.2 hf)
  have hfree (hs : stored = none) : State.SeqFree (s.cyharCopied p) k q := by
    rw [State.SeqFree, hsame.ctx]
    exact hs
  have hnewer : State.SeqNew (s.cyharCopied p) k q ↔ newer := by
    rw [State.SeqNew, hsame.ctx]
  have hcmd : (s.cyharCopied p).frameCmd k q p body = cmd := hsame.cmd k q p body
  have hadded {z : Cmd} (ht : takes) (hf : found) (h : State.CmdAdded k q z (s.cyharCopied p) ((s.cyharCopied p).ringCmd k p m q body)) : added z := by
    have hdone := State.frameAdded_of hcopied h
    exact .of_eq (hfound ht hf) ⟨hdone.ctx, hdone.cmds, hdone.only⟩
  have hreply {u : State} (hu : s.replyDrop p = u) : exec (.cyharReplyDrop p) s = .next u := (exec_cyharReplyDrop p s).trans (congrArg Host.Outcome.next hu)
  refine ⟨fun h => .of_eq (hgo (State.ringCmdFrame_none h)) rfl, fun h hl => .of_eq (hgo (State.ringCmdFrame_short h hl)) hcopied.only,
    fun ht hf hs => ?repeated, fun ht hf hs hn => ?old, fun ht hf hs hn hl => ?wrongLength, fun ht hf hs hn hl hc => ?full,
    fun ht hf hs hn hl hc htag => ?taken, fun ht hf hk => ?opened, fun ht hf hk hto => ?busy,
    fun h => .of_eq (hreply (State.replyDrop_open h)) rfl, fun h hf => ?loc, fun h hl hf => ?kept,
    fun hl hf => .of_eq (hreply (State.replyDrop_none hl hf)) rfl, fun h => ?idle,
    fun h => .of_eq ((exec_ringContextIdleDrop i s).trans (congrArg Host.Outcome.next (State.ctxIdle_none h))) rfl⟩
  case repeated =>
    have hrep := State.ringCmd_repeated (s := s.cyharCopied p) (k := k) (q := q) (p := p) (body := body) (mac := m) (by rw [hsame.ctx]; exact hs)
    have hdone := State.frameCounted_of hcopied ((s.cyharCopied p).ctxHeard_counted k aMBX_RING_DUP)
    exact .of_eq ((hfound ht hf).trans (congrArg Host.Outcome.next hrep)) ⟨hdone.count, hdone.cmds, hdone.ctx, hdone.only, hdone.regs⟩
  case old =>
    have hrep := State.ringCmd_old (p := p) (body := body) (mac := m) (hfree hs) (hnewer.not.2 hn)
    have hdone := State.frameCounted_of hcopied ((s.cyharCopied p).ctxHeard_counted k aMBX_RING_OLD)
    exact .of_eq ((hfound ht hf).trans (congrArg Host.Outcome.next hrep)) ⟨hdone.count, hdone.cmds, hdone.ctx, hdone.only, hdone.regs⟩
  case wrongLength =>
    have hdone := State.ringCmd_wrongLength (p := p) (body := body) (mac := m) (hfree hs) (hnewer.2 hn) (by rw [hcmd]; exact hl)
    rw [hcmd] at hdone
    exact hadded ht hf hdone
  case full =>
    have hdone := State.ringCmd_full (p := p) (body := body) (mac := m) (hfree hs) (hnewer.2 hn) (by rw [hcmd]; exact hl)
      (by rw [State.inflightCnt_congr hsame.cmds]; exact hc)
    rw [hcmd] at hdone
    exact hadded ht hf hdone
  case taken =>
    have hdone := State.ringCmd_taken (p := p) (body := body) (mac := m) (hfree hs) (hnewer.2 hn) (by rw [hcmd]; exact hl)
      (by rw [State.inflightCnt_congr hsame.cmds]; exact hc) (by rw [hsame.cmds, hcmd]; exact htag)
    rw [hcmd] at hdone
    exact hadded ht hf hdone
  case opened =>
    have hdone := State.ringCmd_opened (q := q) (p := p) (body := body) ((s.cyharCopied p).openCtx_opened k m)
    have hctx := hdone.ctx
    exact .of_eq (hgo (State.ringCmdFrame_opened ht.1 ht.2 hf hk)) ⟨by rw [hctx], by rw [hctx], by rw [hctx], by rw [hctx], hdone.copy, hdone.elevated,
      hdone.nonce⟩
  case busy =>
    have hsent := State.sendReply_kept (T := [.regs, .ring, .ptp]) (by decide) p 0 m q ((s.cyharCopied p).busyReply q p body) (hcopied.mono (by decide))
    exact .of_eq (hgo (State.ringCmdFrame_full ht.1 ht.2 hf hk hto)) ⟨hsent.mbx_eq, hsent.sec_eq⟩
  case loc =>
    have hdone := s.setEgress_refill_set p { e with loc := e.loc.erase f }
    exact .of_eq (hreply (State.replyDrop_loc h hf)) ⟨hdone.egress, hdone.others, hdone.kept.only⟩
  case kept =>
    have hdone := s.setEgress_set p { e with kept := e.kept.erase f }
    exact .of_eq (hreply (State.replyDrop_waiting h hl hf)) ⟨hdone.egress, hdone.others, hdone.kept.only⟩
  case idle =>
    have hdrop := s.dropCtx_dropped ((i : Nat) + 1)
    refine .of_eq ((exec_ringContextIdleDrop i s).trans (congrArg Host.Outcome.next (State.ctxIdle_drops h))) ⟨?_, ?_, State.nonce_of_erased hdrop.nonces,
      fun j hj => ⟨(hdrop.ctx j).trans (if_neg hj), ?_⟩, hdrop.cmds, hdrop.kept.only⟩
    · rw [hdrop.ctx, if_pos rfl]
      rfl
    · rw [hdrop.elevated, beq_self_eq_true, Bool.not_true, Bool.and_false]
    · rw [hdrop.elevated, beq_eq_false_iff_ne.2 hj, Bool.not_false, Bool.and_true]

end Sys2Proof.Machine
end
